-- ==== Sys2Proof/Word.lean ====
section
/-! DEFINITION. The word types of the block and their plainest readings: 64-bit Steward words, 32-bit register words,
bytes (R14, R15). -/
namespace Sys2Proof

/-- A 64-bit scalar register value (R211). -/
abbrev Word := BitVec 64

/-- A byte of memory. -/
abbrev Byte := BitVec 8

/-- A 32-bit word. -/
abbrev Half := BitVec 32

/-- A number as a 64-bit word, modulo 2^64. -/
abbrev w64 (n : Nat) : Word := BitVec.ofNat 64 n

end Sys2Proof
end

