-- ==== Sys2Proof/Syntax.lean ====
section
/-! DEFINITION. The commands the block takes, and the data they carry. -/
namespace Sys2Proof

/-- A Newt core number, 0–15 (R7). -/
abbrev CoreId := Fin 16

/-- An engine with a queue: 0 Tensor, 1 Vector, 2 Residue, 3 Compare, 4 Mover (R221). -/
abbrev EngId := Fin 5

/-- An engine of a core, with 5 for the Steward (R202, DLWAITe). -/
abbrev UnitId := Fin 6

/-- The fields of an instruction word of the Steward other than class and op (R205), with the word that follows it in
memory, which is its extension word when mod[3] is 1 (R206). -/
structure IFields where
  dst : BitVec 5
  srcA : BitVec 5
  srcB : BitVec 5
  pred : BitVec 3
  mod : BitVec 4
  ext : BitVec 32
deriving DecidableEq, Repr

/-- The ops of classes 7–11 that the tables of *Instruction Set II* list (R246, R298–R323). -/
inductive EOp where
  | tdld | tdst | tdsetw | tmma
  | vcfg | vrqcfg | vld | vst | vlds | vgath | vscat | vadd | vsub | vmul | vfma | vmin | vmax | vabs | vneg
  | vand | vor | vxor | vshl | vshr | vsra | vcvt | vreq | vrsum | vrmax | vexp | vlog | vrcp | vrsq | vtanh | vsigm
  | vcmp | vsel | vspot
  | mld | mst | mldx | madd | msub | mmul | mmac | mred | mmv | mmvf | mrnd
  | ccfg | cmpt | cmpm | cst | cinj
  | mvcpy | mvrun | mvfill
deriving DecidableEq, Repr

/-- The outcome of an access (R188, transaction outcomes; the codes of ECAUSE.STATUS are 0 to 4 in this order). -/
inductive MStat where
  | ok | addrDecode | fence | poison | epochChanged
deriving DecidableEq, Repr

/-- What a memory has developed by the time of an access (R157, R169, R174, R181): nothing; an error of a 64-byte block, by the
block's address over 64, that ECC can correct or cannot; or a parity error in a line of a core's instruction or data cache, by the
line's address over 64. -/
inductive MemErr where
  | none
  | block (blk : BitVec 34) (uncorr : Bool)
  | parity (c : CoreId) (data : Bool) (line : BitVec 34)
deriving DecidableEq, Repr

/-- How an access ends (R192): the outcome at a target outside the device, and what a memory has developed by then. -/
structure AccessEnd where
  st : MStat
  ev : MemErr
deriving DecidableEq, Repr

/-- A barrier completion (R142, R478): the core it reaches, and whether the ring ends the generation with EPOCH_CHANGED. -/
structure BarEnd where
  core : CoreId
  ended : Bool
deriving DecidableEq, Repr

/-- What a power-up finds (R79, R582): whether the retained SRAM passes its CRC, and STRAP[1:0]. -/
structure PowerUp where
  sramOk : Bool
  straps : BitVec 2
deriving DecidableEq, Repr

/-- A part that can be reset alone and carries an epoch (R137). -/
inductive Part where
  | core (n : CoreId)
  | pcie (p : Fin 2)
  | dram (ch : Fin 8)
  | nim (d : Fin 16)
deriving DecidableEq, Repr

/-- Where a message of MSG_DELIVERY comes from: the oldest message in flight inside the device, or another device of the
ring system with the sender's device, core and context, the target core and mailbox, the value, and whether the
session names this device's tenant (R456, R476). -/
inductive MsgFrom where
  | fabric
  | remote (dev : Fin 16) (core : CoreId) (ctx : Fin 4) (dst : CoreId) (mbox : Fin 8) (value : BitVec 64) (tenant : Bool)
  | refused (core : CoreId) (ctx : Fin 4) (status : BitVec 8) (mbox : Fin 8)
deriving DecidableEq, Repr

/-- A Hearth stage that another device has completed (R679): the frame, and where its output has been moved to in this device's memory. -/
structure AwayStage where
  frame : BitVec 32
  addr : Word
  len : BitVec 32
deriving DecidableEq, Repr

/-- A Hearth stage that has ended (R425, R679): its number, and for a stage placed on another device what that hands over. -/
structure StageEnd where
  stage : Fin 4
  away : Option AwayStage
deriving DecidableEq, Repr

/-- Who arrives at a barrier: a core of this device, or another device of the ring (R478), with whether its session names
this device's tenant (R456). -/
inductive ArriveFrom where
  | core (c : CoreId)
  | device (d : Fin 16) (tenant : Bool)
deriving DecidableEq, Repr

/-- A record of a core's injection test that is not the one its comparison should leave (R387–R389): number 0–63 of an injection, or
64–70 of a control comparison, and what the record shows. -/
structure InjRec where
  core : CoreId
  num : Fin 71
  compared : BitVec 32
  mismatch : BitVec 32
  first : BitVec 32
  flags : BitVec 32
deriving DecidableEq, Repr

/-- What the self-tests of a start-up or restart found (R118, R119, R130, R386–R390, R790): the cores and the Ponds that failed, the
DRAM channels that trained, whether a unit with neither twin nor spare failed, and the wrong records of the injection tests. -/
structure SelfTest where
  badCores : BitVec 16
  badPonds : BitVec 4
  trained : BitVec 8
  fatal : Bool
  inj : List InjRec
deriving DecidableEq, Repr

/-- What a clock monitor or lock detector reports (R92): a failure of a reference input or a PLL, or a warning. `rxtal` is the
Verifier's 2 % monitor and `rxtalStop` the Reeve's 25 % monitor of the same crystal. The order of the PLLs is that of
CLKSTAT.PLL_LOCK. -/
inductive ClkEvent where
  | tcxo | rxtal | rxtalStop | refclkA | refclkB | x32k | crpll
  | pll (i : Fin 8)
  | tcxoWarn | rxtalWarn
deriving DecidableEq, Repr

/-- What the Reeve finds on a Verifier rail (R87): its comparator beyond ±5 % for 2 µs, a reading within or outside the
tolerance of R81, or 10 ms without a good reading. -/
inductive RailEv where
  | comparator (rail : Fin 6)
  | reading (rail : Fin 6) (out : Bool)
  | silent (rail : Fin 6)
deriving DecidableEq, Repr

/-- A write of a 64-bit register: whole, or one of its halves (R23). -/
inductive Wr where
  | whole (v : BitVec 64)
  | low (v : BitVec 32)
  | high (v : BitVec 32)
deriving DecidableEq, Repr

/-- A submission entry of a function's queue (R731): its identifier, whether a reserved field is nonzero, ADDR, LEN, the 40
bytes of ARGS as a little-endian number, and the bytes at ADDR, or none when their read does not complete with OK
(R735). -/
structure SubEntry where
  fn : Fin 5
  cid : BitVec 16
  rsv : Bool
  addr : BitVec 64
  len : BitVec 32
  args : BitVec 320
  buf : Option (List Byte)
deriving DecidableEq, Repr

/-- A CSI-2 long packet as a tap receives it (R490, R491): virtual channel, data type, whether its header was corrected,
whether it is a packet error, and its payload. -/
structure TapPkt where
  vc : Fin 16
  dt : BitVec 6
  corrected : Bool
  bad : Bool
  data : List Byte
deriving DecidableEq, Repr

/-- A gPTP Sync or Follow_Up as a port receives it (R620–R627): domain, sequence, whether it is two-step, the grandmaster's
identity, the grandmaster's time at the egress of the neighbour that the message carries (origin and correction), in ns,
and the measured rate ratio less 1 in parts per 10^12. -/
structure SyncMsg where
  domain : BitVec 8
  seq : BitVec 16
  twoStep : Bool
  gm : BitVec 64
  time : Nat
  ratio : Int
deriving DecidableEq, Repr

/-- An Announce (R621, R622): domain, the priority vector as a number whose lower value is the better clock, and the
grandmaster it names. -/
structure AnnMsg where
  domain : BitVec 8
  vec : BitVec 128
  gm : BitVec 64
deriving DecidableEq, Repr

/-- What a received Ethernet frame is (R633, R634). -/
inductive EthKind where
  | badFcs | pause | gptp | safety | other
deriving DecidableEq, Repr

/-- How a transmission attempt of a CAN controller ends (R635, R636): acknowledged, not acknowledged, with another error, or
with the end of a bus-off recovery. -/
inductive CanTx where
  | acked | noAck | error | recovered
deriving DecidableEq, Repr

/-- A roll-call report (R666): roll identity, SELF, DEV_EPOCH, version mask (bit v for version v), and per port the peer's
identity and the LV. -/
structure NimReport where
  id : BitVec 64
  self : Fin 16
  epoch : BitVec 8
  mask : BitVec 4
  peers : List (BitVec 64 × Nat)
deriving DecidableEq, Repr

/-- A request that reaches this device over Nimlink (R662, R663, R672): the requesting device, whether its session names this
device's tenant, the DEV_EPOCH stamped in it, its class, whether it writes, the offset in this device's view (R162), the
bytes written, and the bytes asked for. -/
structure RemoteReq where
  dev : Fin 16
  tenant : Bool
  epoch : BitVec 8
  cls : Fin 3
  write : Bool
  off : BitVec 34
  data : List Byte
  len : Nat
deriving DecidableEq, Repr

namespace Machine

/-- Privilege levels of the Steward, lowest first (R215). -/
inductive Priv where
  | u | s | m
deriving DecidableEq, Repr

/-- A master of the control window and of memory (PART.FENCELOG.MASTER): an engine of a core at a level (unit 5 the
Steward), a host function through port A, port B, Nimlink, the taps, Ethernet and CAN, and the debug port. -/
inductive Master where
  | core (n unit : Nat) (p : Priv)
  | fn (f : Nat)
  | portB
  | nim
  | taps
  | net
  | dbg
deriving DecidableEq, Repr

end Machine

/-- The commands of the block: one constructor per row of spec/opcode_table.json, in the table's order. Each
constructor's comment gives the row's mnemonic and rule. -/
inductive Instr where
  /-- ADD (R223). -/
  | add (c : CoreId) (f : IFields)
  /-- SUB (R223). -/
  | sub (c : CoreId) (f : IFields)
  /-- AND (R223). -/
  | and (c : CoreId) (f : IFields)
  /-- OR (R223). -/
  | or (c : CoreId) (f : IFields)
  /-- XOR (R223). -/
  | xor (c : CoreId) (f : IFields)
  /-- SHL (R223). -/
  | shl (c : CoreId) (f : IFields)
  /-- SHR (R223). -/
  | shr (c : CoreId) (f : IFields)
  /-- SRA (R223). -/
  | sra (c : CoreId) (f : IFields)
  /-- MUL (R223). -/
  | mul (c : CoreId) (f : IFields)
  /-- MULH (R223). -/
  | mulh (c : CoreId) (f : IFields)
  /-- MULHU (R223). -/
  | mulhu (c : CoreId) (f : IFields)
  /-- DIV (R223). -/
  | div (c : CoreId) (f : IFields)
  /-- DIVU (R223). -/
  | divu (c : CoreId) (f : IFields)
  /-- REM (R223). -/
  | rem (c : CoreId) (f : IFields)
  /-- REMU (R223). -/
  | remu (c : CoreId) (f : IFields)
  /-- MIN (R223). -/
  | min (c : CoreId) (f : IFields)
  /-- MAX (R223). -/
  | max (c : CoreId) (f : IFields)
  /-- MINU (R223). -/
  | minu (c : CoreId) (f : IFields)
  /-- MAXU (R223). -/
  | maxu (c : CoreId) (f : IFields)
  /-- CLZ (R223). -/
  | clz (c : CoreId) (f : IFields)
  /-- POPC (R223). -/
  | popc (c : CoreId) (f : IFields)
  /-- SEL (R223). -/
  | sel (c : CoreId) (f : IFields)
  /-- CMP (R224). -/
  | cmp (c : CoreId) (f : IFields)
  /-- PLOG (R223). -/
  | plog (c : CoreId) (f : IFields)
  /-- PGET (R223). -/
  | pget (c : CoreId) (f : IFields)
  /-- PSET (R223). -/
  | pset (c : CoreId) (f : IFields)
  /-- ADDI (R225). -/
  | addi (c : CoreId) (f : IFields)
  /-- ANDI (R225). -/
  | andi (c : CoreId) (f : IFields)
  /-- ORI (R225). -/
  | ori (c : CoreId) (f : IFields)
  /-- XORI (R225). -/
  | xori (c : CoreId) (f : IFields)
  /-- SHLI (R225). -/
  | shli (c : CoreId) (f : IFields)
  /-- SHRI (R225). -/
  | shri (c : CoreId) (f : IFields)
  /-- SRAI (R225). -/
  | srai (c : CoreId) (f : IFields)
  /-- MULI (R225). -/
  | muli (c : CoreId) (f : IFields)
  /-- CMPEQI (R225). -/
  | cmpeqi (c : CoreId) (f : IFields)
  /-- CMPNEI (R225). -/
  | cmpnei (c : CoreId) (f : IFields)
  /-- CMPLTI (R225). -/
  | cmplti (c : CoreId) (f : IFields)
  /-- CMPGEI (R225). -/
  | cmpgei (c : CoreId) (f : IFields)
  /-- CMPLTUI (R225). -/
  | cmpltui (c : CoreId) (f : IFields)
  /-- CMPGEUI (R225). -/
  | cmpgeui (c : CoreId) (f : IFields)
  /-- MOVHI (R225). -/
  | movhi (c : CoreId) (f : IFields)
  /-- ADPC (R225). -/
  | adpc (c : CoreId) (f : IFields)
  /-- LDB (R226). -/
  | ldb (c : CoreId) (f : IFields)
  /-- LDBU (R226). -/
  | ldbu (c : CoreId) (f : IFields)
  /-- LDH (R226). -/
  | ldh (c : CoreId) (f : IFields)
  /-- LDHU (R226). -/
  | ldhu (c : CoreId) (f : IFields)
  /-- LDW (R226). -/
  | ldw (c : CoreId) (f : IFields)
  /-- LDWU (R226). -/
  | ldwu (c : CoreId) (f : IFields)
  /-- LDD (R226). -/
  | ldd (c : CoreId) (f : IFields)
  /-- STB (R228). -/
  | stb (c : CoreId) (f : IFields)
  /-- STH (R228). -/
  | sth (c : CoreId) (f : IFields)
  /-- STW (R228). -/
  | stw (c : CoreId) (f : IFields)
  /-- STD (R228). -/
  | std (c : CoreId) (f : IFields)
  /-- DCINV (R230). -/
  | dcinv (c : CoreId) (f : IFields)
  /-- DCINVA (R230). -/
  | dcinva (c : CoreId) (f : IFields)
  /-- PREF (R226). -/
  | pref (c : CoreId) (f : IFields)
  /-- BRA (R231). -/
  | bra (c : CoreId) (f : IFields)
  /-- CALL (R231). -/
  | call (c : CoreId) (f : IFields)
  /-- JMP (R231). -/
  | jmp (c : CoreId) (f : IFields)
  /-- CALLR (R231). -/
  | callr (c : CoreId) (f : IFields)
  /-- LOOP (R231). -/
  | loop (c : CoreId) (f : IFields)
  /-- CSRR (R233). -/
  | csrr (c : CoreId) (f : IFields)
  /-- CSRW (R233). -/
  | csrw (c : CoreId) (f : IFields)
  /-- CSRS (R233). -/
  | csrs (c : CoreId) (f : IFields)
  /-- CSRC (R233). -/
  | csrc (c : CoreId) (f : IFields)
  /-- ECALL (R233). -/
  | ecall (c : CoreId) (f : IFields)
  /-- ERET (R234). -/
  | eret (c : CoreId) (f : IFields)
  /-- BREAK (R247). -/
  | brk (c : CoreId) (f : IFields)
  /-- WFI (R233). -/
  | wfi (c : CoreId) (f : IFields)
  /-- ICINV (R233). -/
  | icinv (c : CoreId) (f : IFields)
  /-- WSVC (R575). -/
  | wsvc (c : CoreId) (f : IFields)
  /-- CTXSW (R457). -/
  | ctxsw (c : CoreId) (f : IFields)
  /-- PCALL (R460). -/
  | pcall (c : CoreId) (f : IFields)
  /-- PRET (R461). -/
  | pret (c : CoreId) (f : IFields)
  /-- HALT (R233). -/
  | halt (c : CoreId) (f : IFields)
  /-- SIG (R451). -/
  | sig (c : CoreId) (f : IFields)
  /-- SIGP (R468). -/
  | sigp (c : CoreId) (f : IFields)
  /-- WAIT (R471). -/
  | wait (c : CoreId) (f : IFields)
  /-- WATCH (R239). -/
  | watch (c : CoreId) (f : IFields)
  /-- UNWATCH (R472). -/
  | unwatch (c : CoreId) (f : IFields)
  /-- SRD (R238). -/
  | srd (c : CoreId) (f : IFields)
  /-- BARA (R478). -/
  | bara (c : CoreId) (f : IFields)
  /-- BARW (R478). -/
  | barw (c : CoreId) (f : IFields)
  /-- MSG (R476). -/
  | msg (c : CoreId) (f : IFields)
  /-- FENCES (R242). -/
  | fences (c : CoreId) (f : IFields)
  /-- FENCEE (R243). -/
  | fencee (c : CoreId) (f : IFields)
  /-- MFENCE (R242). -/
  | mfence (c : CoreId) (f : IFields)
  /-- QSIG (R242). -/
  | qsig (c : CoreId) (f : IFields)
  /-- QWAIT (R242). -/
  | qwait (c : CoreId) (f : IFields)
  /-- QSTAT (R242). -/
  | qstat (c : CoreId) (f : IFields)
  /-- EFLUSH (R242). -/
  | eflush (c : CoreId) (f : IFields)
  /-- ERESUME (R242). -/
  | eresume (c : CoreId) (f : IFields)
  /-- DISPATCH (R246). -/
  | dispatch (c : CoreId) (op : EOp) (f : IFields)
  /-- QUEUE_ENTRY_FREE (R150). -/
  | queueEntryFree (c : CoreId)
  /-- FENCE_TOKEN (R243). -/
  | fenceToken (c : CoreId) (e : EngId)
  /-- SIGNAL_TOKEN (R244). -/
  | signalToken (c : CoreId) (e : EngId)
  /-- WAIT_TOKEN (R245). -/
  | waitToken (c : CoreId) (e : EngId)
  /-- TDLD (R298). -/
  | tdld (c : CoreId)
  /-- TDST (R297). -/
  | tdst (c : CoreId)
  /-- TDSETW (R297). -/
  | tdsetw (c : CoreId)
  /-- TMMA (R294). -/
  | tmma (c : CoreId)
  /-- VCFG (R299). -/
  | vcfg (c : CoreId)
  /-- VRQCFG (R301). -/
  | vrqcfg (c : CoreId)
  /-- VLD (R301). -/
  | vld (c : CoreId)
  /-- VST (R301). -/
  | vst (c : CoreId)
  /-- VLDS (R301). -/
  | vlds (c : CoreId)
  /-- VGATH (R301). -/
  | vgath (c : CoreId)
  /-- VSCAT (R305). -/
  | vscat (c : CoreId)
  /-- VADD (R300). -/
  | vadd (c : CoreId)
  /-- VSUB (R300). -/
  | vsub (c : CoreId)
  /-- VMUL (R300). -/
  | vmul (c : CoreId)
  /-- VFMA (R300). -/
  | vfma (c : CoreId)
  /-- VMIN (R301). -/
  | vmin (c : CoreId)
  /-- VMAX (R301). -/
  | vmax (c : CoreId)
  /-- VABS (R301). -/
  | vabs (c : CoreId)
  /-- VNEG (R301). -/
  | vneg (c : CoreId)
  /-- VAND (R301). -/
  | vand (c : CoreId)
  /-- VOR (R301). -/
  | vor (c : CoreId)
  /-- VXOR (R301). -/
  | vxor (c : CoreId)
  /-- VSHL (R301). -/
  | vshl (c : CoreId)
  /-- VSHR (R301). -/
  | vshr (c : CoreId)
  /-- VSRA (R301). -/
  | vsra (c : CoreId)
  /-- VCVT (R303). -/
  | vcvt (c : CoreId)
  /-- VREQ (R301). -/
  | vreq (c : CoreId)
  /-- VRSUM (R281). -/
  | vrsum (c : CoreId)
  /-- VRMAX (R301). -/
  | vrmax (c : CoreId)
  /-- VEXP (R302). -/
  | vexp (c : CoreId)
  /-- VLOG (R302). -/
  | vlog (c : CoreId)
  /-- VRCP (R302). -/
  | vrcp (c : CoreId)
  /-- VRSQ (R302). -/
  | vrsq (c : CoreId)
  /-- VTANH (R302). -/
  | vtanh (c : CoreId)
  /-- VSIGM (R302). -/
  | vsigm (c : CoreId)
  /-- VCMP (R301). -/
  | vcmp (c : CoreId)
  /-- VSEL (R301). -/
  | vsel (c : CoreId)
  /-- VSPOT (R304). -/
  | vspot (c : CoreId)
  /-- MLD (R310). -/
  | mld (c : CoreId)
  /-- MST (R310). -/
  | mst (c : CoreId)
  /-- MLDX (R310). -/
  | mldx (c : CoreId)
  /-- MADD (R310). -/
  | madd (c : CoreId)
  /-- MSUB (R310). -/
  | msub (c : CoreId)
  /-- MMUL (R310). -/
  | mmul (c : CoreId)
  /-- MMAC (R310). -/
  | mmac (c : CoreId)
  /-- MRED (R310). -/
  | mred (c : CoreId)
  /-- MMV (R308). -/
  | mmv (c : CoreId)
  /-- MMVF (R309). -/
  | mmvf (c : CoreId)
  /-- MRND (R311). -/
  | mrnd (c : CoreId)
  /-- CCFG (R314). -/
  | ccfg (c : CoreId)
  /-- CMPT (R315). -/
  | cmpt (c : CoreId)
  /-- CMPM (R317). -/
  | cmpm (c : CoreId)
  /-- CST (R316). -/
  | cst (c : CoreId)
  /-- CINJ (R318). -/
  | cinj (c : CoreId)
  /-- MVCPY (R323). -/
  | mvcpy (c : CoreId)
  /-- MVRUN (R322). -/
  | mvrun (c : CoreId)
  /-- MVFILL (R323). -/
  | mvfill (c : CoreId)
  /-- TAKE_EXCEPTION (R251). -/
  | takeException (c : CoreId)
  /-- TAG_ALLOCATE (R203). -/
  | tagAllocate (c : CoreId)
  /-- ACCESS_COMPLETE (R192). -/
  | accessComplete (tag : Nat) (x : AccessEnd)
  /-- REPLY_RECEIVED (R138). -/
  | replyReceived (tag : Nat) (epoch : Nat) (st : MStat) (data : List Byte)
  /-- EPOCH_NOTICE (R137). -/
  | epochNotice (p : Part)
  /-- MARKER_RETURN (R468). -/
  | markerReturn (c : CoreId) (id : Nat)
  /-- WAIT_RELEASE (R471). -/
  | waitRelease (c : CoreId) (u : UnitId)
  /-- MSG_DELIVERY (R475). -/
  | msgDelivery (m : MsgFrom)
  /-- BARRIER_ARRIVAL (R478). -/
  | barrierArrival (n : Fin 64) (w : ArriveFrom)
  /-- BARRIER_COMPLETION (R142, R478). -/
  | barrierCompletion (n : Fin 64) (x : BarEnd)
  /-- DEADLOCK_REPORT (R483). -/
  | deadlockReport (scope : Option CoreId) (us : Nat)
  /-- ENGINE_LENT (R473). -/
  | engineLent (c : CoreId) (u : UnitId)
  /-- CREDIT_GRANT (R773). -/
  | creditGrant (c : CoreId) (u : UnitId)
  /-- SLOT_START (R261). -/
  | slotStart (c : CoreId) (i : Fin 32) (desc : Word) (w1 w2 w3 : Word × Word)
  /-- SLOT_OVERRUN (R262). -/
  | slotOverrun (c : CoreId)
  /-- EXIT (R263). -/
  | exit (c : CoreId)
  /-- CHECK_DONE (R358). -/
  | checkDone (c : CoreId)
  /-- PASS_INFO (R365). -/
  | passInfo (c : CoreId)
  /-- PASS_OUT (R375). -/
  | passOut (c : CoreId)
  /-- HEARTH_REF (R426). -/
  | hearthRef (c : CoreId)
  /-- TAP_FRAME (R503). -/
  | tapFrame (c : CoreId)
  /-- GOLDEN_RUN (R394). -/
  | goldenRun (c : CoreId) (ok : Bool) (dur : Nat)
  /-- GOLDEN_RUN_TIMEOUT (R396). -/
  | goldenRunTimeout (c : CoreId)
  /-- CORE_RESTART (R126). -/
  | coreRestart (c : CoreId) (cause : BitVec 8)
  /-- CORE_RETEST_DONE (R128). -/
  | coreRetestDone (c : CoreId) (ok : Bool)
  /-- TRIP (R558). -/
  | trip (source detail : BitVec 8) (b : Bool)
  /-- POWER_ON (R118). -/
  | powerOn (cold : Bool) (x : PowerUp)
  /-- REEVE_START (R118). -/
  | reeveStart
  /-- BOOT_OK (R115). -/
  | bootOk (headA bodyA headB bodyB : List Byte)
  /-- BOOT_FAIL (R117). -/
  | bootFail (slotA slotB : List Byte)
  /-- RECOVER (R117). -/
  | recover
  /-- SET_OK (R121). -/
  | setOk (t : SelfTest)
  /-- SET_NONE (R121). -/
  | setNone (t : SelfTest)
  /-- PIN_RESET (R100). -/
  | pinReset (pgood : Bool)
  /-- VERIFIER_POWER_LOSS (R788). -/
  | verifierPowerLoss
  /-- REEVE_RESET (R134). -/
  | reeveReset
  /-- WARM (R130). -/
  | warm
  /-- RS_OK (R130). -/
  | rsOk (t : SelfTest)
  /-- RS_FAIL (R132). -/
  | rsFail
  /-- REEVE_LINK_UP (R553). -/
  | reeveLinkUp (ok : Bool)
  /-- VERIFIER_SILENT (R99). -/
  | verifierSilent
  /-- REEVE_LOST (R99). -/
  | reeveLost
  /-- GRACE_END (R39). -/
  | graceEnd
  /-- RAIL_FAULT (R87). -/
  | railFault (ev : RailEv)
  /-- PMIC_READ (R778). -/
  | pmicRead (r : Option (List (BitVec 16 × BitVec 16)))
  /-- CLOCK_FAILURE (R92). -/
  | clockFailure (e : ClkEvent)
  /-- X32K_RETURN (R95). -/
  | x32kReturn
  /-- HEARTBEAT_TOGGLE (R96). -/
  | heartbeatToggle (b : Bool)
  /-- INVALID_NOTICE (R112). -/
  | invalidNotice
  /-- SCAN_STROBE (R546). -/
  | scanStrobe (rawA rawB : BitVec 24)
  /-- SCAN_RECORD (R549). -/
  | scanRecord (b : Bool) (rec : List Byte)
  /-- SCAN_RECORD_MISSING (R552). -/
  | scanRecordMissing (b : Bool)
  /-- TEST_PULSE (R593). -/
  | testPulse (k : Fin 16)
  /-- TEST_PULSE_EVALUATE (R594). -/
  | testPulseEvaluate (k : Fin 16) (readsOn : Bool)
  /-- OUTPUT_TEST_SAMPLE (R603). -/
  | outputTestSample (c : Fin 4) (low : Bool) (conducts : Bool)
  /-- WATCHMAN_WARN (R576). -/
  | watchmanWarn (w : Fin 17)
  /-- WATCHMAN_EXPIRY (R578). -/
  | watchmanExpiry (w : Fin 17)
  /-- RETAINED_COUNT_COPY (R581). -/
  | retainedCountCopy
  /-- SELF_TEST_SLICE (R567). -/
  | selfTestSlice (r : Fin 18) (ok : Bool)
  /-- CHK_SINGLE_EXPIRY (R570). -/
  | chkSingleExpiry
  /-- TAP_PACKET (R490). -/
  | tapPacket (k : Fin 12) (p : TapPkt)
  /-- TAP_FRAME_START (R495). -/
  | tapFrameStart (k : Fin 12) (fn : BitVec 16)
  /-- SYNTHETIC_BOUNDARY (R495). -/
  | syntheticBoundary (k : Fin 12)
  /-- TAP_FRAME_END (R510). -/
  | tapFrameEnd (k : Fin 12)
  /-- TELLTALE_WINDOW_COMPLETE (R518). -/
  | telltaleWindowComplete (d : Fin 4) (w : Fin 16)
  /-- PROV_TIMEOUT (R433). -/
  | provTimeout (r : Fin 64) (f : Nat)
  /-- CHIME_BLOCK (R523). -/
  | chimeBlock (hits : BitVec 16)
  /-- TDM_NO_CLOCK (R522). -/
  | tdmNoClock
  /-- CHIME_DEADLINE (R524). -/
  | chimeDeadline
  /-- PULL_READ_COMPLETE (R409). -/
  | pullReadComplete (r : Fin 64) (f : Nat) (t : Fin 30) (st : MStat) (data : List Byte)
  /-- INBOX_WRITE (R408). -/
  | inboxWrite (off : BitVec 32) (data : List Byte)
  /-- INBOX_DOORBELL (R408). -/
  | inboxDoorbell (r : Fin 64) (b : Fin 2) (f : BitVec 32)
  /-- DEADLINE (R418). -/
  | deadline (r : Fin 64) (f : Nat)
  /-- VERDICT_COMMIT (R416). -/
  | verdictCommit (r : Fin 64) (f : Nat)
  /-- RESTART_WINDOW_OPEN (R429). -/
  | restartWindowOpen
  /-- RESTART_WINDOW_END (R430). -/
  | restartWindowEnd (r : Fin 64) (f : Nat)
  /-- HEARTH_STAGE_DONE (R425, R679). -/
  | hearthStageDone (h : Fin 8) (x : StageEnd)
  /-- SAFETY_FRAME_SEND (R640). -/
  | safetyFrameSend (n : Fin 6)
  /-- SAFETY_FRAME_RECEIVE (R642). -/
  | safetyFrameReceive (n : Fin 6) (env : List Byte) (segOk : Bool)
  /-- PAIRING_WINDOW_END (R643). -/
  | pairingWindowEnd (i : Fin 16) (alive : BitVec 16)
  /-- ETH_LINK_CHANGE (R645). -/
  | ethLinkChange (m : Fin 2) (up : Bool) (speed : BitVec 3)
  /-- NETWORK_LOST (R645). -/
  | networkLost (n : Fin 6)
  /-- ETH_FRAME_RECEIVE (R634). -/
  | ethFrameReceive (m : Fin 2) (k : EthKind) (mine : Bool)
  /-- CAN_FRAME_RECEIVE (R635). -/
  | canFrameReceive (c : Fin 4) (remote : Bool)
  /-- CAN_TX_ATTEMPT (R636). -/
  | canTxAttempt (c : Fin 4) (r : CanTx)
  /-- GPTP_SYNC (R627). -/
  | gptpSync (p : Fin 6) (y : SyncMsg)
  /-- GPTP_FOLLOW_UP (R620). -/
  | gptpFollowUp (p : Fin 6) (y : SyncMsg)
  /-- GPTP_ANNOUNCE (R621). -/
  | gptpAnnounce (p : Fin 6) (a : AnnMsg)
  /-- PDELAY_EXCHANGE (R626). -/
  | pdelayExchange (p : Fin 6) (turn : Int) (ok : Bool)
  /-- SYNC_FORWARD (R623). -/
  | syncForward (pin pout : Fin 4) (seq : BitVec 16) (kind : Fin 3) (res : Nat)
  /-- SERVO_TICK (R628). -/
  | servoTick
  /-- HOLDOVER (R630). -/
  | holdover (n : Fin 2)
  /-- TPO_PULSE (R631). -/
  | tpoPulse (k : Fin 4)
  /-- NIM_LINK_TRAINED (R651). -/
  | nimLinkTrained (p : Fin 4) (mask : BitVec 4)
  /-- NIM_SESSION_INSTALLED (R699). -/
  | nimSessionInstalled (p : Fin 4) (ok : Bool) (id : BitVec 64) (dev : Fin 16) (port : Fin 4)
  /-- NIM_STEP_TIMEOUT (R651). -/
  | nimStepTimeout (p : Fin 4)
  /-- NIM_LINK_DOWN (R673). -/
  | nimLinkDown (p : Fin 4) (dropped : BitVec 16)
  /-- NIM_LANE_FAIL (R655). -/
  | nimLaneFail (p : Fin 4)
  /-- NIM_PORT_HOLD_END (R669). -/
  | nimPortHoldEnd (p : Fin 4)
  /-- NIM_PACKET_FORWARD (R656). -/
  | nimPacketForward (pin pout : Fin 4) (n : Nat)
  /-- NIM_PACKET_REPLAY (R647). -/
  | nimPacketReplay (p : Fin 4) (times : Nat)
  /-- ROLL_START (R665). -/
  | rollStart (num : BitVec 16) (id : BitVec 64)
  /-- ROLL_REPORT (R666). -/
  | rollReport (num : BitVec 16) (id : BitVec 64) (r : NimReport)
  /-- AGREE (R666). -/
  | agree (num : BitVec 16) (id : BitVec 64) (src : BitVec 64) (digest : List Byte)
  /-- NO_PEER (R668). -/
  | noPeer
  /-- REMOTE_REQUEST (R662). -/
  | remoteRequest (q : RemoteReq)
  /-- TRIP_NOTICE (R673). -/
  | tripNotice (d : Fin 16)
  /-- CLAIM (R681). -/
  | claim (r : Fin 64) (f : BitVec 32) (sq : BitVec 16) (crc : BitVec 32)
  /-- STANDBY_COMMIT (R682). -/
  | standbyCommit (r : Fin 64) (f : Nat)
  /-- HAND_BACK (R683). -/
  | handBack (r : Fin 64) (f0 : BitVec 32) (sq : BitVec 16)
  /-- NIM_REKEY (R700). -/
  | nimRekey (p : Fin 4)
  /-- RNG_SEED (R708). -/
  | rngSeed
  /-- RNG_HEALTH_FAIL (R709). -/
  | rngHealthFail (apt : Bool)
  /-- RNG_FAIL_TIMEOUT (R709). -/
  | rngFailTimeout
  /-- DRBG_RESEED (R709). -/
  | drbgReseed
  /-- GET_VERSION (R691). -/
  | getVersion (p : Fin 2)
  /-- GET_CAPABILITIES (R691). -/
  | getCapabilities (p : Fin 2)
  /-- NEGOTIATE_ALGORITHMS (R691). -/
  | negotiateAlgorithms (p : Fin 2) (ok : Bool)
  /-- GET_DIGESTS (R691). -/
  | getDigests (p : Fin 2)
  /-- GET_CERTIFICATE (R689). -/
  | getCertificate (p : Fin 2) (slot : Fin 8)
  /-- CHALLENGE (R691). -/
  | challenge (p : Fin 2) (slot : Fin 8)
  /-- GET_MEASUREMENTS (R693). -/
  | getMeasurements (p : Fin 2) (idx : BitVec 8)
  /-- KEY_EXCHANGE (R691). -/
  | keyExchange (p : Fin 2) (sid : BitVec 32)
  /-- FINISH (R691). -/
  | finish (p : Fin 2) (sid : BitVec 32) (ok : Bool)
  /-- END_SESSION (R695). -/
  | endSession (p : Fin 2) (sid : BitVec 32)
  /-- HEARTBEAT (R691). -/
  | heartbeat (p : Fin 2) (sid : BitVec 32)
  /-- KEY_UPDATE (R691). -/
  | keyUpdate (p : Fin 2) (sid : BitVec 32)
  /-- IDE_KM_QUERY (R697). -/
  | ideKmQuery (p : Fin 2) (sid : BitVec 32)
  /-- K_SET_GO (R697). -/
  | kSetGo (p : Fin 2) (sid : BitVec 32) (stream : Fin 5) (ks : Fin 2)
  /-- K_SET_STOP (R697). -/
  | kSetStop (p : Fin 2) (sid : BitVec 32) (stream : Fin 5) (ks : Fin 2)
  /-- SERVICE_ENTRY (R712). -/
  | serviceEntry
  /-- SCRUB_DONE (R712). -/
  | scrubDone (total dram : BitVec 32)
  /-- STOP_EFFECT (R108). -/
  | stopEffect
  /-- PATROL_SCRUB (R170). -/
  | patrolScrub (blk : BitVec 34)
  /-- CHANNEL_FAILURE (R176). -/
  | channelFailure (ch : Fin 8)
  /-- RETRAIN_DONE (R177). -/
  | retrainDone (ch : Fin 8) (ok : Bool)
  /-- MIRROR_REBUILD_DONE (R177). -/
  | mirrorRebuildDone
  /-- DOMAIN_GATING (R143). -/
  | domainGating (d : Fin 128) (drained : Bool)
  /-- DOMAIN_WAKE (R770). -/
  | domainWake (d : Fin 128)
  /-- THROTTLE_TICK (R776). -/
  | throttleTick (tj : BitVec 8)
  /-- OVERTEMP (R777). -/
  | overtemp
  /-- PORT_FAILURE (R726). -/
  | portFailure (p : Fin 2)
  /-- PORT_RETURN (R726). -/
  | portReturn (p : Fin 2) (speed width : Nat)
  /-- FLR (R746). -/
  | flr (f : Fin 5)
  /-- MSIX_MODERATION_TIMEOUT (R744). -/
  | msixModerationTimeout (f : Fin 5) (v : Fin 4)
  /-- SQTAIL (R730). -/
  | sqtail (m : Machine.Master) (f : Fin 5) (v : BitVec 32)
  /-- CQHEAD (R734). -/
  | cqhead (m : Machine.Master) (f : Fin 5) (v : BitVec 32)
  /-- VRHEAD (R742). -/
  | vrhead (m : Machine.Master) (f : Fin 5) (v : BitVec 32)
  /-- QCFG_WRITE (R730). -/
  | qcfgWrite (m : Machine.Master) (f : Fin 5) (v : BitVec 32)
  /-- HELLO (R740). -/
  | hello (e : SubEntry)
  /-- GET_STATUS (R737). -/
  | getStatus (e : SubEntry)
  /-- START (R109). -/
  | start (e : SubEntry)
  /-- STOP (R106). -/
  | stop (e : SubEntry)
  /-- REVALIDATE (R106). -/
  | revalidate (e : SubEntry)
  /-- ENTER_SERVICE (R106). -/
  | enterService (e : SubEntry)
  /-- EXIT_SERVICE (R790). -/
  | exitService (e : SubEntry)
  /-- TENANT_SET (R711). -/
  | tenantSet (e : SubEntry)
  /-- LC_ADVANCE (R686). -/
  | lcAdvance (e : SubEntry)
  /-- SUBMIT (R404). -/
  | submit (e : SubEntry)
  /-- CHIME_EXPECT (R524). -/
  | chimeExpect (e : SubEntry)
  /-- LOAD_PROGRAM (R258). -/
  | loadProgram (e : SubEntry)
  /-- LOAD_BUNDLE (R703). -/
  | loadBundle (e : SubEntry)
  /-- UNLOAD_BUNDLE (R705). -/
  | unloadBundle (e : SubEntry)
  /-- PAIR_MODE (R381). -/
  | pairMode (e : SubEntry)
  /-- RESTART_BEGIN (R429). -/
  | restartBegin (e : SubEntry)
  /-- RESTART_DONE (R429). -/
  | restartDone (e : SubEntry)
  /-- SIO_PASSWORD (R609). -/
  | sioPassword (e : SubEntry)
  /-- SIO_PARAM_BEGIN (R608). -/
  | sioParamBegin (e : SubEntry)
  /-- SIO_PARAM_WRITE (R608). -/
  | sioParamWrite (e : SubEntry)
  /-- SIO_PARAM_COMMIT (R611). -/
  | sioParamCommit (e : SubEntry)
  /-- SIO_PARAM_ABORT (R608). -/
  | sioParamAbort (e : SubEntry)
  /-- SIO_ACK (R602). -/
  | sioAck (e : SubEntry)
  /-- SIO_SESSION_TIMEOUT (R611). -/
  | sioSessionTimeout
  /-- LOCKOUT_END (R610). -/
  | lockoutEnd
  /-- SET_WRITE (R766). -/
  | setWrite (e : SubEntry)
  /-- SET_READ (R766). -/
  | setRead (e : SubEntry)
  /-- STORE (R755). -/
  | store (e : SubEntry) (bad : Nat)
  /-- COUNTER_ADVANCE (R762). -/
  | counterAdvance (e : SubEntry)
  /-- COUNTER_INCREMENT (R763). -/
  | counterIncrement (e : SubEntry)
  /-- GET_COUNTERS (R737). -/
  | getCounters (e : SubEntry)
  /-- CORE_RESTART_CMD (R136). -/
  | coreRestartCmd (m : Machine.Master) (key : BitVec 16) (c : CoreId)
  /-- WARM_RESTART_CMD (R135). -/
  | warmRestartCmd (m : Machine.Master) (key : BitVec 16)
  /-- PORT_A_RESET_CMD (R135). -/
  | portAResetCmd (m : Machine.Master) (key : BitVec 16)
  /-- PORT_B_RESET_CMD (R135). -/
  | portBResetCmd (m : Machine.Master) (key : BitVec 16)
  /-- PAIRSTAT_FORCE (R377). -/
  | pairstatForce (m : Machine.Master) (c : CoreId) (v : BitVec 32)
  /-- CNTCLR (R448). -/
  | cntclr (m : Machine.Master) (v : BitVec 32)
  /-- RUN_WRITE (R597). -/
  | runWrite (m : Machine.Master) (v : BitVec 32)
  /-- WATCH_SVC (R575). -/
  | watchSvc (m : Machine.Master) (v : BitVec 32)
  /-- WMCFG_WRITE (R573). -/
  | wmcfgWrite (m : Machine.Master) (c : CoreId) (w : Wr)
  /-- WATCH_CFG_WRITE (R573). -/
  | watchCfgWrite (m : Machine.Master) (w : Wr)
  /-- SNAP (R619). -/
  | snap (m : Machine.Master) (v : BitVec 32)
  /-- TPO_ARM (R631). -/
  | tpoArm (m : Machine.Master) (k : Fin 4) (v : BitVec 32)
  /-- SOBJ_HAND_WRITE (R486). -/
  | sobjHandWrite (c : CoreId) (k : Fin 256) (v : BitVec 32)
  /-- SOBJCFG_WRITE (R454). -/
  | sobjcfgWrite (m : Machine.Master) (c : CoreId) (k : Fin 256) (w : Wr)
  /-- VMAP_WRITE (R453). -/
  | vmapWrite (m : Machine.Master) (c : CoreId) (x : Fin 4) (i : Fin 1024) (v : BitVec 32)
  /-- MBOX_WRITE (R474). -/
  | mboxWrite (m : Machine.Master) (c : CoreId) (k : Fin 8) (w : Wr)
  /-- CVU_START (R529). -/
  | cvuStart (m : Machine.Master) (u : Fin 32)
  /-- CVU_FINISH (R535). -/
  | cvuFinish (m : Machine.Master) (u : Fin 32)
  /-- CVU_DATA_WRITE (R529). -/
  | cvuDataWrite (m : Machine.Master) (u : Fin 32) (v : BitVec 32)
  /-- CVU_VALUE_WRITE (R527). -/
  | cvuValueWrite (m : Machine.Master) (u : Fin 32) (w : Wr)
  /-- CVU_POSN_WRITE (R532). -/
  | cvuPosnWrite (m : Machine.Master) (u : Fin 32) (w : Wr)
  /-- CVU_EXPECT_WRITE (R535). -/
  | cvuExpectWrite (m : Machine.Master) (u : Fin 32) (w : Wr)
  /-- CVU_OWNER_WRITE (R534). -/
  | cvuOwnerWrite (m : Machine.Master) (u : Fin 32) (v : BitVec 32)
  /-- CVU_ALIVE_COUNT_WRITE (R538). -/
  | cvuAliveCountWrite (m : Machine.Master) (u : Fin 32) (w : Wr)
  /-- DEBUG_ATTACH (R783). -/
  | debugAttach (m : Machine.Master) (v : BitVec 32)
  /-- FAULT_INJECTION (R785). -/
  | faultInjection (m : Machine.Master) (line unit : BitVec 8)
  /-- DEBUG_HALT (R782). -/
  | debugHalt (c : CoreId)
  /-- DEBUG_STEP (R780). -/
  | debugStep (c : CoreId)
  /-- DEBUG_RESUME (R780). -/
  | debugResume (c : CoreId)
  /-- REGISTER_WRITE (R19). -/
  | registerWrite (m : Machine.Master) (off : BitVec 22) (n : Fin 4) (v : Word)
  /-- UNLISTED_INSTRUCTION (R209). -/
  | unlistedInstruction (c : CoreId) (f : IFields)
  /-- LOW_HALF_READ (R23). -/
  | lowHalfRead (m : Machine.Master) (off : BitVec 22)
  /-- GPTP_MESSAGE_INTERVAL (R620). -/
  | gptpMessageInterval (p : Fin 6)
deriving DecidableEq, Repr

end Sys2Proof
end

