-- ==== Sys2Proof/Config.lean ====
section
/-! DEFINITION. What the spec leaves open: the free values of the block. Each is an opaque constant with no body, so that
nothing can be proved about its value; the log entry that each docstring names says where the spec leaves it open. -/
namespace Sys2Proof.Config

/-- The contents of a byte of memory after its region has lost its contents for the `gen`-th time (R131, R134, R177;
log entry 5). -/
opaque freeByte : Nat → Nat → Byte

/-- A free number for the `n`-th draw, used where the spec leaves one value open (log entry 6). -/
opaque freeNat : Nat → Nat

/-- How many records the 256 KiB trace ring holds; the record's size is not given (R784; log entry 15). -/
opaque traceRecords : Nat

/-- The bits of element `i` of an MX block converted with scale 0xFF whose value is a NaN or an infinity, by format code, for the
elements without either (R273, R274; log entry 20). -/
opaque mxNanElem : Nat → Nat → Nat

/-- The result bits of a transcendental of the Vector engine (0 VEXP to 5 VSIGM) on a finite input that is no special case:
the fixed algorithm of R302 is not given; only results within its 2 ulp are taken (log entry 21). -/
opaque transcend : Nat → Nat → Nat

/-- The row stride of a convolution input under TMMA's UNF, by the packed size of one of its rows and the A stride field, whose
bits R292 gives to the unfold descriptor's offset and R312 to this stride (log entry 40). -/
opaque unfStride : Nat → Nat → Nat

/-- Bits of an engine's result that the spec leaves open, by everything the result depends on (R285; log entries 41, 42, 63). -/
opaque spare : List Nat → Nat

/-- The networks that the setting HEARTH declares, each as its input tap and the program indexes of its stages; the spec
gives the setting no layout (R424, R750; log entry 22). -/
opaque parseHearth : List Byte → List (Nat × List Nat)

/-- The entries of the setting PROGRAMS, each as digest, class and counter index; no layout is given (R750; log entry 22). -/
opaque parseProgs : List Byte → List (List Byte × Nat × Nat)

/-- The program indexes that the setting PAIRED marks; no layout is given (R363; log entry 22). -/
opaque parsePaired : List Byte → List Nat

/-- The setting BUNDLES as pairs of BUNDLE_ID and counter index; no layout is given (R750; log entry 22). -/
opaque parseBundles : List Byte → List (Nat × Nat)

/-- The setting CVU_CONFIG as pairs of register offset within the CVU page and value; no layout is given (R540; log entry
22). -/
opaque parseCvu : List Byte → List (Nat × Nat)

/-- TAUREL of a frame with a credited bounded row, by route and frame: it rests on values inside the check program (R361;
log entry 23). -/
opaque tauRel : Nat → Nat → Nat

/-- SHA-384 of bytes, as 48 bytes; the function is named, not given (R114, R258; log entry 24). -/
opaque sha384 : List Byte → List Byte

/-- Whether an ECDSA P-384 signature verifies: key identifier, signed bytes, signature (R114, R258, R752; log entry 24). -/
opaque ecdsaOk : List Byte → List Byte → List Byte → Bool

/-- The header of a firmware image, when it is well formed: the public key, the signed bytes, the signature, the security version, the
digest of the image and the entry address; its layout is not given (R115; log entry 161). -/
opaque fwHeader : List Byte → Option (List Byte × List Byte × List Byte × Nat × List Byte × Nat)

/-- The bytes of a firmware image that its digest covers (R115; log entry 161). -/
opaque fwBody : List Byte → List Byte

/-- The SHA-384 digest of the firmware-signing key that is fused in the Keep (R115; log entry 161). -/
opaque fwKey : List Byte

/-- The bytes that the host driver has placed in the recovery mailbox when RECOVER finds them, by the free value drawn then (R117; log entry
161). -/
opaque mailbox : Nat → List Byte

/-- Whether a KEYID names the settings-signing key fused in the Keep (R752; log entry 24). -/
opaque settingsKey : List Byte → Bool

/-- The base of the output area of a program's pass 1 or 2, by program index, and its size (R365, R374; log entry 25). -/
opaque passArea : Nat → Nat → Nat
opaque passSize : Nat → Nat → Nat

/-- The element in row `k` and column `j` of the weight tensor of a layer in a bundle's plaintext, in BFMT with its MX scale, and
element `j` of the layer's bias, an integer of 32 bits in an EXACT layer and F32 in a BOUNDED one; no layout is given (R330, R345,
R701; log entry 175). -/
opaque weight : List Byte → Nat → Nat → Nat → Nat × Nat
opaque biasOf : List Byte → Nat → Nat → Nat

/-- Whether the setting KEYS allows a KEYID as a program-signing key, or as a bundle-signing key; its layout is not given (R258,
R703, R750; log entry 22). -/
opaque keyAllowed : List Byte → Bool → List Byte → Bool

/-- Where the runtime places an image of a class: class, number of the placement, size (R260, R703; log entry 27). -/
opaque place : Nat → Nat → Nat → Nat

/-- Where the runtime places the inputs of a watch job in DRAM: class, route, frame (R403, R406; log entry 162). -/
opaque inputPlace : Nat → Nat → Nat → Nat

/-- The device's bundle identity, 16 bytes, and its roll identity, 8 bytes (R690; log entry 24). -/
opaque bundleId : List Byte
opaque rollId : Nat

/-- Whether the content key of a bundle unwraps for a device entry: header, entry (R702, R703; log entry 24). -/
opaque unwrapOk : List Byte → List Byte → Bool

/-- The plaintext of a bundle image when every chunk's tag verifies (R702, R703; log entry 24). -/
opaque bundlePlain : List Byte → Option (List Byte)

/-- Whether the signature of a return token verifies under Viyth's key: first 16 bytes, signature (R686; log entry 24). -/
opaque tokenOk : List Byte → List Byte → Bool

/-- The part of this device's own priority vector on TB1 that follows priority1, and its clock identity, derived from the
device identity (R622; log entry 32). -/
opaque clockVec : Nat
opaque clockId : Nat

/-- The 32-byte header of a receive-ring entry, by outcome (0 accepted, 1 degraded, 2 rejected), mask of the networks of the pair
on which good copies arrived, and decision time in TB0; its layout is not given (R644; log entry 22). -/
opaque rxHeader : Nat → Nat → Nat → List Byte

/-- The SHA-384 digest of a roll call's map, given as one list of numbers per member; how a map is written out is not given
(R666; log entry 24). -/
opaque mapDigest : List (List Nat) → List Byte

/-- The digests of the boot ROM (0) and the Reeve ROM (1), 48 bytes (R693; log entry 24). -/
opaque romDigest : Nat → List Byte

/-- The byte of measurement block 0x03 that holds BOOTSTAT.SLOT and MAILBOX; the places of the two bits are not given (R693; log
entry 22). -/
opaque slotByte : Nat → Nat → Byte

end Sys2Proof.Config
end

