-- ==== Sys2Proof/Machine/RegFields.lean ====
section
/-! DEFINITION. The register fields of the control window, one constant per field of the register tables of
spec/ (R16-R19): the offset in the window, the lowest bit and the width. Registers with several instances take their
indexes as arguments (CORE n, POND m, and the block indexes; VERD.CLIENTc is indexed from 0 here). -/
namespace Sys2Proof.Machine

/-- A field of a register: the register's offset in the control window, its lowest bit and its width (R14, R16). -/
structure Fld where
  off : Nat
  lo : Nat
  w : Nat
deriving DecidableEq, Repr

namespace R

/-- DEVICE.CAPS (32 bits, spec/00_scope.md). -/
def DEVICE_CAPS : Nat := 0x8
def DEVICE_CAPS_VARIANT : Fld := ⟨DEVICE_CAPS, 24, 8⟩
def DEVICE_CAPS_DISPTAP : Fld := ⟨DEVICE_CAPS, 18, 1⟩
def DEVICE_CAPS_PCIEB : Fld := ⟨DEVICE_CAPS, 17, 1⟩
def DEVICE_CAPS_NIMLINK : Fld := ⟨DEVICE_CAPS, 16, 1⟩
def DEVICE_CAPS_CORE_MASK : Fld := ⟨DEVICE_CAPS, 0, 16⟩
/-- DEVICE.ACCERR (64 bits, spec/00_scope.md). -/
def DEVICE_ACCERR : Nat := 0x40
def DEVICE_ACCERR_LOCKED_WRITE : Fld := ⟨DEVICE_ACCERR, 63, 1⟩
def DEVICE_ACCERR_MASTER : Fld := ⟨DEVICE_ACCERR, 48, 8⟩
def DEVICE_ACCERR_COUNT : Fld := ⟨DEVICE_ACCERR, 40, 8⟩
def DEVICE_ACCERR_ADDR : Fld := ⟨DEVICE_ACCERR, 0, 40⟩
/-- DEVICE.STRAPS (32 bits, spec/02_package_signals_clocks.md). -/
def DEVICE_STRAPS : Nat := 0xc
def DEVICE_STRAPS_QSPI_MODE : Fld := ⟨DEVICE_STRAPS, 1, 1⟩
def DEVICE_STRAPS_PEB_ROLE : Fld := ⟨DEVICE_STRAPS, 0, 1⟩
/-- DEVICE.CLKSTAT (32 bits, spec/02_package_signals_clocks.md). -/
def DEVICE_CLKSTAT : Nat := 0x10
def DEVICE_CLKSTAT_CRPLL_LOCK : Fld := ⟨DEVICE_CLKSTAT, 14, 1⟩
def DEVICE_CLKSTAT_X32K_FALLBACK : Fld := ⟨DEVICE_CLKSTAT, 13, 1⟩
def DEVICE_CLKSTAT_X32K_LOST : Fld := ⟨DEVICE_CLKSTAT, 12, 1⟩
def DEVICE_CLKSTAT_RXTAL_WARN : Fld := ⟨DEVICE_CLKSTAT, 11, 1⟩
def DEVICE_CLKSTAT_TCXO_WARN : Fld := ⟨DEVICE_CLKSTAT, 10, 1⟩
def DEVICE_CLKSTAT_REFCLKB_LOST : Fld := ⟨DEVICE_CLKSTAT, 9, 1⟩
def DEVICE_CLKSTAT_REFCLKA_LOST : Fld := ⟨DEVICE_CLKSTAT, 8, 1⟩
def DEVICE_CLKSTAT_PLL_LOCK : Fld := ⟨DEVICE_CLKSTAT, 0, 8⟩
/-- DEVICE.STATE (32 bits, spec/03_states_startup_reset.md). -/
def DEVICE_STATE : Nat := 0x20
def DEVICE_STATE_DEV_EPOCH : Fld := ⟨DEVICE_STATE, 24, 8⟩
def DEVICE_STATE_PCIE_BOTH_DOWN : Fld := ⟨DEVICE_STATE, 19, 1⟩
def DEVICE_STATE_GRACE : Fld := ⟨DEVICE_STATE, 18, 1⟩
def DEVICE_STATE_INVALID : Fld := ⟨DEVICE_STATE, 17, 1⟩
def DEVICE_STATE_LOST : Fld := ⟨DEVICE_STATE, 8, 8⟩
def DEVICE_STATE_PREV : Fld := ⟨DEVICE_STATE, 4, 4⟩
def DEVICE_STATE_STATE : Fld := ⟨DEVICE_STATE, 0, 4⟩
/-- DEVICE.BOOTSTAT (32 bits, spec/03_states_startup_reset.md). -/
def DEVICE_BOOTSTAT : Nat := 0x30
def DEVICE_BOOTSTAT_FAIL_CODE : Fld := ⟨DEVICE_BOOTSTAT, 24, 8⟩
def DEVICE_BOOTSTAT_SLOT : Fld := ⟨DEVICE_BOOTSTAT, 15, 1⟩
def DEVICE_BOOTSTAT_MAILBOX : Fld := ⟨DEVICE_BOOTSTAT, 14, 1⟩
def DEVICE_BOOTSTAT_STEP : Fld := ⟨DEVICE_BOOTSTAT, 0, 8⟩
/-- DEVICE.CORESTATE (64 bits, spec/03_states_startup_reset.md). -/
def DEVICE_CORESTATE : Nat := 0x28
def DEVICE_CORESTATE_CORE15 : Fld := ⟨DEVICE_CORESTATE, 60, 4⟩
def DEVICE_CORESTATE_CORE14 : Fld := ⟨DEVICE_CORESTATE, 56, 4⟩
def DEVICE_CORESTATE_CORE13 : Fld := ⟨DEVICE_CORESTATE, 52, 4⟩
def DEVICE_CORESTATE_CORE12 : Fld := ⟨DEVICE_CORESTATE, 48, 4⟩
def DEVICE_CORESTATE_CORE11 : Fld := ⟨DEVICE_CORESTATE, 44, 4⟩
def DEVICE_CORESTATE_CORE10 : Fld := ⟨DEVICE_CORESTATE, 40, 4⟩
def DEVICE_CORESTATE_CORE9 : Fld := ⟨DEVICE_CORESTATE, 36, 4⟩
def DEVICE_CORESTATE_CORE8 : Fld := ⟨DEVICE_CORESTATE, 32, 4⟩
def DEVICE_CORESTATE_CORE7 : Fld := ⟨DEVICE_CORESTATE, 28, 4⟩
def DEVICE_CORESTATE_CORE6 : Fld := ⟨DEVICE_CORESTATE, 24, 4⟩
def DEVICE_CORESTATE_CORE5 : Fld := ⟨DEVICE_CORESTATE, 20, 4⟩
def DEVICE_CORESTATE_CORE4 : Fld := ⟨DEVICE_CORESTATE, 16, 4⟩
def DEVICE_CORESTATE_CORE3 : Fld := ⟨DEVICE_CORESTATE, 12, 4⟩
def DEVICE_CORESTATE_CORE2 : Fld := ⟨DEVICE_CORESTATE, 8, 4⟩
def DEVICE_CORESTATE_CORE1 : Fld := ⟨DEVICE_CORESTATE, 4, 4⟩
def DEVICE_CORESTATE_CORE0 : Fld := ⟨DEVICE_CORESTATE, 0, 4⟩
/-- CORE.EPOCH (32 bits, spec/03_states_startup_reset.md). -/
def CORE_EPOCH (n : Nat) : Nat := 0x200010 + n * 0x10000
def CORE_EPOCH_LAST_CAUSE (n : Nat) : Fld := ⟨CORE_EPOCH n, 24, 8⟩
def CORE_EPOCH_RESTARTS (n : Nat) : Fld := ⟨CORE_EPOCH n, 16, 8⟩
def CORE_EPOCH_EPOCH (n : Nat) : Fld := ⟨CORE_EPOCH n, 0, 16⟩
/-- DEVICE.RESETCAUSE (32 bits, spec/03_states_startup_reset.md). -/
def DEVICE_RESETCAUSE : Nat := 0x24
def DEVICE_RESETCAUSE_WARM_COUNT : Fld := ⟨DEVICE_RESETCAUSE, 24, 8⟩
def DEVICE_RESETCAUSE_CAUSE : Fld := ⟨DEVICE_RESETCAUSE, 8, 8⟩
def DEVICE_RESETCAUSE_KIND : Fld := ⟨DEVICE_RESETCAUSE, 0, 4⟩
/-- DEVICE.RESETCMD (32 bits, spec/03_states_startup_reset.md). -/
def DEVICE_RESETCMD : Nat := 0x34
def DEVICE_RESETCMD_KEY : Fld := ⟨DEVICE_RESETCMD, 16, 16⟩
def DEVICE_RESETCMD_KIND : Fld := ⟨DEVICE_RESETCMD, 8, 4⟩
def DEVICE_RESETCMD_CORE : Fld := ⟨DEVICE_RESETCMD, 0, 4⟩
/-- MEMC.STATUS (32 bits, spec/04_cores_memory_ordering.md). -/
def MEMC_STATUS : Nat := 0xb0000
def MEMC_STATUS_CH_UP : Fld := ⟨MEMC_STATUS, 24, 8⟩
def MEMC_STATUS_CONTENT_LOST : Fld := ⟨MEMC_STATUS, 16, 8⟩
def MEMC_STATUS_CH_FAILED : Fld := ⟨MEMC_STATUS, 8, 8⟩
def MEMC_STATUS_REBUILDING : Fld := ⟨MEMC_STATUS, 4, 1⟩
def MEMC_STATUS_REBUILD_CH : Fld := ⟨MEMC_STATUS, 0, 4⟩
/-- MEMC.LOCK (32 bits, spec/04_cores_memory_ordering.md). -/
def MEMC_LOCK : Nat := 0xb0004
def MEMC_LOCK_LOCK : Fld := ⟨MEMC_LOCK, 0, 1⟩
/-- MEMC.SCRUB (32 bits, spec/04_cores_memory_ordering.md). -/
def MEMC_SCRUB : Nat := 0xb0008
def MEMC_SCRUB_REBUILD_SHARE : Fld := ⟨MEMC_SCRUB, 16, 8⟩
def MEMC_SCRUB_INTERVAL : Fld := ⟨MEMC_SCRUB, 0, 8⟩
/-- MEMC.ERRADDR (64 bits, spec/04_cores_memory_ordering.md). -/
def MEMC_ERRADDR : Nat := 0xb0010
def MEMC_ERRADDR_VALID : Fld := ⟨MEMC_ERRADDR, 63, 1⟩
def MEMC_ERRADDR_UNCORR : Fld := ⟨MEMC_ERRADDR, 62, 1⟩
def MEMC_ERRADDR_CHANNEL : Fld := ⟨MEMC_ERRADDR, 48, 4⟩
def MEMC_ERRADDR_ADDR : Fld := ⟨MEMC_ERRADDR, 6, 34⟩
/-- MEMC.CHERR (32 bits, spec/04_cores_memory_ordering.md). -/
def MEMC_CHERR (c : Nat) : Nat := 0xb0020 + c * 0x4
def MEMC_CHERR_CORR (c : Nat) : Fld := ⟨MEMC_CHERR c, 16, 16⟩
def MEMC_CHERR_UNCORR (c : Nat) : Fld := ⟨MEMC_CHERR c, 8, 8⟩
def MEMC_CHERR_RETRAIN (c : Nat) : Fld := ⟨MEMC_CHERR c, 4, 4⟩
/-- MEMC.RGN (64 bits, spec/04_cores_memory_ordering.md). -/
def MEMC_RGN (n : Nat) : Nat := 0xb0100 + n * 0x8
def MEMC_RGN_VALID (n : Nat) : Fld := ⟨MEMC_RGN n, 63, 1⟩
def MEMC_RGN_MIRROR (n : Nat) : Fld := ⟨MEMC_RGN n, 62, 1⟩
def MEMC_RGN_CRYPT (n : Nat) : Fld := ⟨MEMC_RGN n, 61, 1⟩
def MEMC_RGN_KEYSLOT (n : Nat) : Fld := ⟨MEMC_RGN n, 59, 2⟩
def MEMC_RGN_SIZE (n : Nat) : Fld := ⟨MEMC_RGN n, 32, 13⟩
def MEMC_RGN_BASE (n : Nat) : Fld := ⟨MEMC_RGN n, 0, 13⟩
/-- CORE.MEMSTAT (32 bits, spec/04_cores_memory_ordering.md). -/
def CORE_MEMSTAT (n : Nat) : Nat := 0x200020 + n * 0x10000
def CORE_MEMSTAT_SP_CORR (n : Nat) : Fld := ⟨CORE_MEMSTAT n, 16, 16⟩
def CORE_MEMSTAT_SP_UNCORR (n : Nat) : Fld := ⟨CORE_MEMSTAT n, 8, 8⟩
def CORE_MEMSTAT_CACHE_PAR (n : Nat) : Fld := ⟨CORE_MEMSTAT n, 0, 8⟩
/-- CORE.TAGUSE (64 bits, spec/04_cores_memory_ordering.md). -/
def CORE_TAGUSE (n : Nat) : Nat := 0x200028 + n * 0x10000
def CORE_TAGUSE_TOTAL (n : Nat) : Fld := ⟨CORE_TAGUSE n, 48, 9⟩
def CORE_TAGUSE_STEWARD (n : Nat) : Fld := ⟨CORE_TAGUSE n, 40, 8⟩
def CORE_TAGUSE_TENSOR (n : Nat) : Fld := ⟨CORE_TAGUSE n, 32, 8⟩
def CORE_TAGUSE_VECTOR (n : Nat) : Fld := ⟨CORE_TAGUSE n, 24, 8⟩
def CORE_TAGUSE_RESIDUE (n : Nat) : Fld := ⟨CORE_TAGUSE n, 16, 8⟩
def CORE_TAGUSE_COMPARE (n : Nat) : Fld := ⟨CORE_TAGUSE n, 8, 8⟩
def CORE_TAGUSE_MOVER (n : Nat) : Fld := ⟨CORE_TAGUSE n, 0, 8⟩
/-- POND.STATUS (32 bits, spec/04_cores_memory_ordering.md). -/
def POND_STATUS (m : Nat) : Nat := 0x300000 + m * 0x10000
def POND_STATUS_CORR (m : Nat) : Fld := ⟨POND_STATUS m, 16, 16⟩
def POND_STATUS_UNCORR (m : Nat) : Fld := ⟨POND_STATUS m, 8, 8⟩
def POND_STATUS_POISONED (m : Nat) : Fld := ⟨POND_STATUS m, 0, 8⟩
/-- CORE.ENGFLAG (32 bits, spec/06_isa_engines_formats.md). -/
def CORE_ENGFLAG (n : Nat) : Nat := 0x200030 + n * 0x10000
def CORE_ENGFLAG_RES_UNDERFLOW (n : Nat) : Fld := ⟨CORE_ENGFLAG n, 11, 1⟩
def CORE_ENGFLAG_RES_OVERFLOW (n : Nat) : Fld := ⟨CORE_ENGFLAG n, 10, 1⟩
def CORE_ENGFLAG_RES_INVALID (n : Nat) : Fld := ⟨CORE_ENGFLAG n, 9, 1⟩
def CORE_ENGFLAG_RES_WRAP (n : Nat) : Fld := ⟨CORE_ENGFLAG n, 8, 1⟩
def CORE_ENGFLAG_VEC_UNDERFLOW (n : Nat) : Fld := ⟨CORE_ENGFLAG n, 7, 1⟩
def CORE_ENGFLAG_VEC_OVERFLOW (n : Nat) : Fld := ⟨CORE_ENGFLAG n, 6, 1⟩
def CORE_ENGFLAG_VEC_INVALID (n : Nat) : Fld := ⟨CORE_ENGFLAG n, 5, 1⟩
def CORE_ENGFLAG_VEC_WRAP (n : Nat) : Fld := ⟨CORE_ENGFLAG n, 4, 1⟩
def CORE_ENGFLAG_TEN_UNDERFLOW (n : Nat) : Fld := ⟨CORE_ENGFLAG n, 3, 1⟩
def CORE_ENGFLAG_TEN_OVERFLOW (n : Nat) : Fld := ⟨CORE_ENGFLAG n, 2, 1⟩
def CORE_ENGFLAG_TEN_INVALID (n : Nat) : Fld := ⟨CORE_ENGFLAG n, 1, 1⟩
def CORE_ENGFLAG_TEN_WRAP (n : Nat) : Fld := ⟨CORE_ENGFLAG n, 0, 1⟩
/-- CORE.PAIRSTAT (32 bits, spec/08_chameleon_and_golden.md). -/
def CORE_PAIRSTAT (n : Nat) : Nat := 0x200040 + n * 0x10000
def CORE_PAIRSTAT_MISMATCH (n : Nat) : Fld := ⟨CORE_PAIRSTAT n, 24, 8⟩
def CORE_PAIRSTAT_SIGMA (n : Nat) : Fld := ⟨CORE_PAIRSTAT n, 16, 5⟩
def CORE_PAIRSTAT_RHOV (n : Nat) : Fld := ⟨CORE_PAIRSTAT n, 8, 6⟩
def CORE_PAIRSTAT_RHOT (n : Nat) : Fld := ⟨CORE_PAIRSTAT n, 3, 5⟩
def CORE_PAIRSTAT_FORCE (n : Nat) : Fld := ⟨CORE_PAIRSTAT n, 2, 1⟩
def CORE_PAIRSTAT_PASS2 (n : Nat) : Fld := ⟨CORE_PAIRSTAT n, 1, 1⟩
def CORE_PAIRSTAT_ACTIVE (n : Nat) : Fld := ⟨CORE_PAIRSTAT n, 0, 1⟩
/-- CORE.GOLDCFG (32 bits, spec/08_chameleon_and_golden.md). -/
def CORE_GOLDCFG (n : Nat) : Nat := 0x200044 + n * 0x10000
def CORE_GOLDCFG_LINE (n : Nat) : Fld := ⟨CORE_GOLDCFG n, 16, 16⟩
def CORE_GOLDCFG_SPARE (n : Nat) : Fld := ⟨CORE_GOLDCFG n, 1, 1⟩
def CORE_GOLDCFG_REQUIRED (n : Nat) : Fld := ⟨CORE_GOLDCFG n, 0, 1⟩
/-- CORE.GOLDSTAT (64 bits, spec/08_chameleon_and_golden.md). -/
def CORE_GOLDSTAT (n : Nat) : Nat := 0x200048 + n * 0x10000
def CORE_GOLDSTAT_FRAME (n : Nat) : Fld := ⟨CORE_GOLDSTAT n, 32, 32⟩
def CORE_GOLDSTAT_FAILS (n : Nat) : Fld := ⟨CORE_GOLDSTAT n, 24, 8⟩
def CORE_GOLDSTAT_DURATION (n : Nat) : Fld := ⟨CORE_GOLDSTAT n, 16, 8⟩
def CORE_GOLDSTAT_ENGINES (n : Nat) : Fld := ⟨CORE_GOLDSTAT n, 8, 6⟩
def CORE_GOLDSTAT_VARIANT (n : Nat) : Fld := ⟨CORE_GOLDSTAT n, 5, 3⟩
def CORE_GOLDSTAT_OK (n : Nat) : Fld := ⟨CORE_GOLDSTAT n, 0, 1⟩
/-- CORE.INJSTAT (32 bits, spec/08_chameleon_and_golden.md). -/
def CORE_INJSTAT (n : Nat) : Nat := 0x200050 + n * 0x10000
def CORE_INJSTAT_FLAGGED (n : Nat) : Fld := ⟨CORE_INJSTAT n, 16, 8⟩
def CORE_INJSTAT_MISSED (n : Nat) : Fld := ⟨CORE_INJSTAT n, 8, 8⟩
def CORE_INJSTAT_RAN (n : Nat) : Fld := ⟨CORE_INJSTAT n, 2, 1⟩
def CORE_INJSTAT_CTRL_FAIL (n : Nat) : Fld := ⟨CORE_INJSTAT n, 1, 1⟩
def CORE_INJSTAT_PASS (n : Nat) : Fld := ⟨CORE_INJSTAT n, 0, 1⟩
/-- VERD.STATUS (32 bits, spec/09_verdicts_hearth_partitions.md). -/
def VERD_STATUS : Nat := 0x130000
def VERD_STATUS_C2_HELD : Fld := ⟨VERD_STATUS, 24, 8⟩
def VERD_STATUS_C1_HELD : Fld := ⟨VERD_STATUS, 16, 8⟩
def VERD_STATUS_C0_HELD : Fld := ⟨VERD_STATUS, 8, 8⟩
def VERD_STATUS_SHARED_FREE : Fld := ⟨VERD_STATUS, 0, 8⟩
/-- VERD.CNTCLR (32 bits, spec/09_verdicts_hearth_partitions.md). -/
def VERD_CNTCLR : Nat := 0x130004
def VERD_CNTCLR_CLIENT : Fld := ⟨VERD_CNTCLR, 0, 4⟩
/-- VERD.CLIENT_ACCEPTED (32 bits, spec/09_verdicts_hearth_partitions.md). -/
def VERD_CLIENT_ACCEPTED (c : Nat) : Nat := 0x130100 + c * 0x20
def VERD_CLIENT_ACCEPTED_COUNT (c : Nat) : Fld := ⟨VERD_CLIENT_ACCEPTED c, 0, 32⟩
/-- VERD.CLIENT_DELAYED (32 bits, spec/09_verdicts_hearth_partitions.md). -/
def VERD_CLIENT_DELAYED (c : Nat) : Nat := 0x130104 + c * 0x20
def VERD_CLIENT_DELAYED_COUNT (c : Nat) : Fld := ⟨VERD_CLIENT_DELAYED c, 0, 32⟩
/-- VERD.CLIENT_REFUSED (32 bits, spec/09_verdicts_hearth_partitions.md). -/
def VERD_CLIENT_REFUSED (c : Nat) : Nat := 0x130108 + c * 0x20
def VERD_CLIENT_REFUSED_COUNT (c : Nat) : Fld := ⟨VERD_CLIENT_REFUSED c, 0, 32⟩
/-- VERD.CLIENT_NO_SLOT (32 bits, spec/09_verdicts_hearth_partitions.md). -/
def VERD_CLIENT_NO_SLOT (c : Nat) : Nat := 0x13010c + c * 0x20
def VERD_CLIENT_NO_SLOT_COUNT (c : Nat) : Fld := ⟨VERD_CLIENT_NO_SLOT c, 0, 32⟩
/-- VERD.CLIENT_LATE (32 bits, spec/09_verdicts_hearth_partitions.md). -/
def VERD_CLIENT_LATE (c : Nat) : Nat := 0x130110 + c * 0x20
def VERD_CLIENT_LATE_COUNT (c : Nat) : Fld := ⟨VERD_CLIENT_LATE c, 0, 32⟩
/-- VERD.CLIENT_MAXDELAY (32 bits, spec/09_verdicts_hearth_partitions.md). -/
def VERD_CLIENT_MAXDELAY (c : Nat) : Nat := 0x130114 + c * 0x20
def VERD_CLIENT_MAXDELAY_COUNT (c : Nat) : Fld := ⟨VERD_CLIENT_MAXDELAY c, 0, 32⟩
/-- VERD.CLIENT_SUBST (32 bits, spec/09_verdicts_hearth_partitions.md). -/
def VERD_CLIENT_SUBST (c : Nat) : Nat := 0x130118 + c * 0x20
def VERD_CLIENT_SUBST_COUNT (c : Nat) : Fld := ⟨VERD_CLIENT_SUBST c, 0, 32⟩
/-- VERD.RSTAT (64 bits, spec/09_verdicts_hearth_partitions.md). -/
def VERD_RSTAT (r : Nat) : Nat := 0x131000 + r * 0x8
def VERD_RSTAT_FRAME (r : Nat) : Fld := ⟨VERD_RSTAT r, 32, 32⟩
def VERD_RSTAT_SEQ (r : Nat) : Fld := ⟨VERD_RSTAT r, 16, 16⟩
def VERD_RSTAT_REASON (r : Nat) : Fld := ⟨VERD_RSTAT r, 8, 8⟩
def VERD_RSTAT_STATUS (r : Nat) : Fld := ⟨VERD_RSTAT r, 4, 4⟩
def VERD_RSTAT_SOURCE (r : Nat) : Fld := ⟨VERD_RSTAT r, 3, 1⟩
def VERD_RSTAT_PROV_OPEN (r : Nat) : Fld := ⟨VERD_RSTAT r, 2, 1⟩
def VERD_RSTAT_LATECHK (r : Nat) : Fld := ⟨VERD_RSTAT r, 1, 1⟩
def VERD_RSTAT_INBOX_DISC (r : Nat) : Fld := ⟨VERD_RSTAT r, 0, 1⟩
/-- HEARTH.STATUS (32 bits, spec/09_verdicts_hearth_partitions.md). -/
def HEARTH_STATUS : Nat := 0x140000
def HEARTH_STATUS_FAILED : Fld := ⟨HEARTH_STATUS, 24, 2⟩
def HEARTH_STATUS_RSTATE : Fld := ⟨HEARTH_STATUS, 16, 2⟩
def HEARTH_STATUS_READY : Fld := ⟨HEARTH_STATUS, 8, 8⟩
def HEARTH_STATUS_PRESENT : Fld := ⟨HEARTH_STATUS, 0, 8⟩
/-- HEARTH.RESTARTCFG (32 bits, spec/09_verdicts_hearth_partitions.md). -/
def HEARTH_RESTARTCFG : Nat := 0x140004
def HEARTH_RESTARTCFG_PERIOD : Fld := ⟨HEARTH_RESTARTCFG, 16, 10⟩
def HEARTH_RESTARTCFG_WINDOW : Fld := ⟨HEARTH_RESTARTCFG, 0, 16⟩
/-- HEARTH.WINTIME (32 bits, spec/09_verdicts_hearth_partitions.md). -/
def HEARTH_WINTIME : Nat := 0x140008
def HEARTH_WINTIME_ELAPSED : Fld := ⟨HEARTH_WINTIME, 0, 32⟩
/-- HEARTH.NET (64 bits, spec/09_verdicts_hearth_partitions.md). -/
def HEARTH_NET (h : Nat) : Nat := 0x140100 + h * 0x8
def HEARTH_NET_FRAME (h : Nat) : Fld := ⟨HEARTH_NET h, 32, 32⟩
def HEARTH_NET_CORE (h : Nat) : Fld := ⟨HEARTH_NET h, 28, 4⟩
def HEARTH_NET_STAGES (h : Nat) : Fld := ⟨HEARTH_NET h, 24, 4⟩
def HEARTH_NET_SUBST (h : Nat) : Fld := ⟨HEARTH_NET h, 0, 16⟩
/-- PART.LOCK (32 bits, spec/09_verdicts_hearth_partitions.md). -/
def PART_LOCK : Nat := 0xa0000
def PART_LOCK_LOCK : Fld := ⟨PART_LOCK, 0, 1⟩
/-- PART.VFCLASS (32 bits, spec/09_verdicts_hearth_partitions.md). -/
def PART_VFCLASS : Nat := 0xa0004
def PART_VFCLASS_VF4 : Fld := ⟨PART_VFCLASS, 9, 3⟩
def PART_VFCLASS_VF3 : Fld := ⟨PART_VFCLASS, 6, 3⟩
def PART_VFCLASS_VF2 : Fld := ⟨PART_VFCLASS, 3, 3⟩
def PART_VFCLASS_VF1 : Fld := ⟨PART_VFCLASS, 0, 3⟩
/-- PART.BWDRAM (32 bits, spec/09_verdicts_hearth_partitions.md). -/
def PART_BWDRAM : Nat := 0xa0010
def PART_BWDRAM_C1_FLOOR : Fld := ⟨PART_BWDRAM, 8, 8⟩
def PART_BWDRAM_C0_FLOOR : Fld := ⟨PART_BWDRAM, 0, 8⟩
/-- PART.BWNOC (32 bits, spec/09_verdicts_hearth_partitions.md). -/
def PART_BWNOC : Nat := 0xa0014
def PART_BWNOC_C1_FLOOR : Fld := ⟨PART_BWNOC, 8, 8⟩
def PART_BWNOC_C0_FLOOR : Fld := ⟨PART_BWNOC, 0, 8⟩
/-- PART.BWPCIE (32 bits, spec/09_verdicts_hearth_partitions.md). -/
def PART_BWPCIE : Nat := 0xa0018
def PART_BWPCIE_C1_FLOOR : Fld := ⟨PART_BWPCIE, 8, 8⟩
def PART_BWPCIE_C0_FLOOR : Fld := ⟨PART_BWPCIE, 0, 8⟩
/-- PART.FENCELOG (64 bits, spec/09_verdicts_hearth_partitions.md). -/
def PART_FENCELOG : Nat := 0xa0020
def PART_FENCELOG_VALID : Fld := ⟨PART_FENCELOG, 63, 1⟩
def PART_FENCELOG_CLASS : Fld := ⟨PART_FENCELOG, 61, 2⟩
def PART_FENCELOG_WRITE : Fld := ⟨PART_FENCELOG, 60, 1⟩
def PART_FENCELOG_MASTER : Fld := ⟨PART_FENCELOG, 48, 8⟩
def PART_FENCELOG_COUNT : Fld := ⟨PART_FENCELOG, 40, 8⟩
def PART_FENCELOG_ADDR : Fld := ⟨PART_FENCELOG, 0, 40⟩
/-- PART.FENCE (64 bits, spec/09_verdicts_hearth_partitions.md). -/
def PART_FENCE (n : Nat) : Nat := 0xa0100 + n * 0x8
def PART_FENCE_VALID (n : Nat) : Fld := ⟨PART_FENCE n, 63, 1⟩
def PART_FENCE_OWNER (n : Nat) : Fld := ⟨PART_FENCE n, 61, 2⟩
def PART_FENCE_RDUP (n : Nat) : Fld := ⟨PART_FENCE n, 60, 1⟩
def PART_FENCE_LIMIT (n : Nat) : Fld := ⟨PART_FENCE n, 28, 28⟩
def PART_FENCE_BASE (n : Nat) : Fld := ⟨PART_FENCE n, 0, 28⟩
/-- CORE.SLOTCFG (32 bits, spec/09_verdicts_hearth_partitions.md). -/
def CORE_SLOTCFG (n : Nat) : Nat := 0x200060 + n * 0x10000
def CORE_SLOTCFG_COUNT (n : Nat) : Fld := ⟨CORE_SLOTCFG n, 0, 6⟩
/-- CORE.SLOT (64 bits, spec/09_verdicts_hearth_partitions.md). -/
def CORE_SLOT (n s : Nat) : Nat := 0x200400 + n * 0x10000 + s * 0x8
def CORE_SLOT_START (n s : Nat) : Fld := ⟨CORE_SLOT n s, 48, 16⟩
def CORE_SLOT_LENGTH (n s : Nat) : Fld := ⟨CORE_SLOT n s, 32, 16⟩
def CORE_SLOT_CLASS (n s : Nat) : Fld := ⟨CORE_SLOT n s, 30, 2⟩
def CORE_SLOT_PASS2 (n s : Nat) : Fld := ⟨CORE_SLOT n s, 29, 1⟩
def CORE_SLOT_VALID (n s : Nat) : Fld := ⟨CORE_SLOT n s, 28, 1⟩
def CORE_SLOT_PROG (n s : Nat) : Fld := ⟨CORE_SLOT n s, 16, 8⟩
/-- CORE.BELLCFG (32 bits, spec/10_bellhouse_sync.md). -/
def CORE_BELLCFG (n : Nat) : Nat := 0x200080 + n * 0x10000
def CORE_BELLCFG_DL_WINDOW (n : Nat) : Fld := ⟨CORE_BELLCFG n, 0, 16⟩
/-- CORE.BELLSTAT (64 bits, spec/10_bellhouse_sync.md). -/
def CORE_BELLSTAT (n : Nat) : Nat := 0x200088 + n * 0x10000
def CORE_BELLSTAT_STALE_DROP (n : Nat) : Fld := ⟨CORE_BELLSTAT n, 48, 16⟩
def CORE_BELLSTAT_DISCARDED (n : Nat) : Fld := ⟨CORE_BELLSTAT n, 32, 16⟩
def CORE_BELLSTAT_MARKERS (n : Nat) : Fld := ⟨CORE_BELLSTAT n, 20, 12⟩
def CORE_BELLSTAT_PDEPTH (n : Nat) : Fld := ⟨CORE_BELLSTAT n, 17, 3⟩
def CORE_BELLSTAT_WATCHES (n : Nat) : Fld := ⟨CORE_BELLSTAT n, 12, 5⟩
def CORE_BELLSTAT_LENT (n : Nat) : Fld := ⟨CORE_BELLSTAT n, 6, 6⟩
/-- CORE.BELLGEN (32 bits, spec/10_bellhouse_sync.md). -/
def CORE_BELLGEN (n : Nat) : Nat := 0x200084 + n * 0x10000
def CORE_BELLGEN_CTXGEN (n : Nat) : Fld := ⟨CORE_BELLGEN n, 0, 8⟩
/-- CORE.BELLERR (64 bits, spec/10_bellhouse_sync.md). -/
def CORE_BELLERR (n : Nat) : Nat := 0x200090 + n * 0x10000
def CORE_BELLERR_VALID (n : Nat) : Fld := ⟨CORE_BELLERR n, 63, 1⟩
def CORE_BELLERR_REMOTE (n : Nat) : Fld := ⟨CORE_BELLERR n, 62, 1⟩
def CORE_BELLERR_STATUS (n : Nat) : Fld := ⟨CORE_BELLERR n, 48, 8⟩
def CORE_BELLERR_SOURCE (n : Nat) : Fld := ⟨CORE_BELLERR n, 45, 3⟩
def CORE_BELLERR_CTX (n : Nat) : Fld := ⟨CORE_BELLERR n, 40, 2⟩
def CORE_BELLERR_OBJ (n : Nat) : Fld := ⟨CORE_BELLERR n, 32, 8⟩
def CORE_BELLERR_COUNT (n : Nat) : Fld := ⟨CORE_BELLERR n, 16, 16⟩
def CORE_BELLERR_VID (n : Nat) : Fld := ⟨CORE_BELLERR n, 0, 16⟩
/-- CORE.DRIFT (64 bits, spec/10_bellhouse_sync.md). -/
def CORE_DRIFT (n : Nat) : Nat := 0x200098 + n * 0x10000
def CORE_DRIFT_LAST (n : Nat) : Fld := ⟨CORE_DRIFT n, 32, 32⟩
def CORE_DRIFT_OBJ (n : Nat) : Fld := ⟨CORE_DRIFT n, 24, 8⟩
def CORE_DRIFT_COUNT (n : Nat) : Fld := ⟨CORE_DRIFT n, 0, 24⟩
/-- CORE.DLSTAT (64 bits, spec/10_bellhouse_sync.md). -/
def CORE_DLSTAT (n : Nat) : Nat := 0x2000a0 + n * 0x10000
def CORE_DLSTAT_VALID (n : Nat) : Fld := ⟨CORE_DLSTAT n, 63, 1⟩
def CORE_DLSTAT_STILL (n : Nat) : Fld := ⟨CORE_DLSTAT n, 62, 1⟩
def CORE_DLSTAT_SCOPE (n : Nat) : Fld := ⟨CORE_DLSTAT n, 61, 1⟩
def CORE_DLSTAT_ASLEEP (n : Nat) : Fld := ⟨CORE_DLSTAT n, 42, 6⟩
def CORE_DLSTAT_HALTED (n : Nat) : Fld := ⟨CORE_DLSTAT n, 36, 6⟩
def CORE_DLSTAT_BLOCKED (n : Nat) : Fld := ⟨CORE_DLSTAT n, 30, 6⟩
def CORE_DLSTAT_ELAPSED (n : Nat) : Fld := ⟨CORE_DLSTAT n, 0, 30⟩
/-- CORE.DLWAIT (64 bits, spec/10_bellhouse_sync.md). -/
def CORE_DLWAIT (n e : Nat) : Nat := 0x2000a8 + n * 0x10000 + e * 0x8
def CORE_DLWAIT_VALUE (n e : Nat) : Fld := ⟨CORE_DLWAIT n e, 32, 32⟩
def CORE_DLWAIT_OBJ (n e : Nat) : Fld := ⟨CORE_DLWAIT n e, 24, 8⟩
def CORE_DLWAIT_BARRIER (n e : Nat) : Fld := ⟨CORE_DLWAIT n e, 23, 1⟩
def CORE_DLWAIT_COND (n e : Nat) : Fld := ⟨CORE_DLWAIT n e, 20, 3⟩
def CORE_DLWAIT_THRESH (n e : Nat) : Fld := ⟨CORE_DLWAIT n e, 0, 20⟩
/-- CORE.MBOX (64 bits, spec/10_bellhouse_sync.md). -/
def CORE_MBOX (n k : Nat) : Nat := 0x2000e0 + n * 0x10000 + k * 0x8
def CORE_MBOX_VALID (n k : Nat) : Fld := ⟨CORE_MBOX n k, 63, 1⟩
def CORE_MBOX_OWNER (n k : Nat) : Fld := ⟨CORE_MBOX n k, 61, 2⟩
def CORE_MBOX_RXREMOTE (n k : Nat) : Fld := ⟨CORE_MBOX n k, 60, 1⟩
def CORE_MBOX_OBJ (n k : Nat) : Fld := ⟨CORE_MBOX n k, 48, 8⟩
def CORE_MBOX_WIDX (n k : Nat) : Fld := ⟨CORE_MBOX n k, 36, 10⟩
def CORE_MBOX_DEPTHLOG (n k : Nat) : Fld := ⟨CORE_MBOX n k, 32, 4⟩
def CORE_MBOX_BASE (n k : Nat) : Fld := ⟨CORE_MBOX n k, 0, 21⟩
/-- CORE.SOBJ (32 bits, spec/10_bellhouse_sync.md). -/
def CORE_SOBJ (n k : Nat) : Nat := 0x201000 + n * 0x10000 + k * 0x4
def CORE_SOBJ_VALUE (n k : Nat) : Fld := ⟨CORE_SOBJ n k, 0, 32⟩
/-- CORE.SOBJCFG (64 bits, spec/10_bellhouse_sync.md). -/
def CORE_SOBJCFG (n k : Nat) : Nat := 0x201800 + n * 0x10000 + k * 0x8
def CORE_SOBJCFG_LIMIT (n k : Nat) : Fld := ⟨CORE_SOBJCFG n k, 32, 32⟩
def CORE_SOBJCFG_BASE (n k : Nat) : Fld := ⟨CORE_SOBJCFG n k, 16, 16⟩
def CORE_SOBJCFG_SRC (n k : Nat) : Fld := ⟨CORE_SOBJCFG n k, 11, 5⟩
def CORE_SOBJCFG_EXT (n k : Nat) : Fld := ⟨CORE_SOBJCFG n k, 10, 1⟩
def CORE_SOBJCFG_ALIGN (n k : Nat) : Fld := ⟨CORE_SOBJCFG n k, 9, 1⟩
def CORE_SOBJCFG_PRIV (n k : Nat) : Fld := ⟨CORE_SOBJCFG n k, 8, 1⟩
def CORE_SOBJCFG_OWNER (n k : Nat) : Fld := ⟨CORE_SOBJCFG n k, 6, 2⟩
def CORE_SOBJCFG_MAPPED (n k : Nat) : Fld := ⟨CORE_SOBJCFG n k, 0, 1⟩
/-- CORE.VMAP (32 bits, spec/10_bellhouse_sync.md). -/
def CORE_VMAP (n c v : Nat) : Nat := 0x202000 + n * 0x10000 + c * 0x1000 + v * 0x4
def CORE_VMAP_VALID (n c v : Nat) : Fld := ⟨CORE_VMAP n c v, 31, 1⟩
def CORE_VMAP_PHYS (n c v : Nat) : Fld := ⟨CORE_VMAP n c v, 0, 8⟩
/-- BELL.XLOG (64 bits, spec/10_bellhouse_sync.md). -/
def BELL_XLOG : Nat := 0x50010
def BELL_XLOG_VALID : Fld := ⟨BELL_XLOG, 63, 1⟩
def BELL_XLOG_TENANT : Fld := ⟨BELL_XLOG, 62, 1⟩
def BELL_XLOG_COUNT : Fld := ⟨BELL_XLOG, 48, 14⟩
def BELL_XLOG_SRCDEV : Fld := ⟨BELL_XLOG, 44, 4⟩
def BELL_XLOG_SRCCORE : Fld := ⟨BELL_XLOG, 40, 4⟩
def BELL_XLOG_SRCCTX : Fld := ⟨BELL_XLOG, 38, 2⟩
def BELL_XLOG_DSTCORE : Fld := ⟨BELL_XLOG, 34, 4⟩
def BELL_XLOG_DSTCTX : Fld := ⟨BELL_XLOG, 32, 2⟩
def BELL_XLOG_KIND : Fld := ⟨BELL_XLOG, 16, 8⟩
def BELL_XLOG_TARGET : Fld := ⟨BELL_XLOG, 0, 16⟩
/-- BELL.HANDCNT (32 bits, spec/10_bellhouse_sync.md). -/
def BELL_HANDCNT : Nat := 0x50020
def BELL_HANDCNT_COUNT : Fld := ⟨BELL_HANDCNT, 0, 32⟩
/-- BELL.BAR (64 bits, spec/10_bellhouse_sync.md). -/
def BELL_BAR (n : Nat) : Nat := 0x50100 + n * 0x8
def BELL_BAR_VALID (n : Nat) : Fld := ⟨BELL_BAR n, 63, 1⟩
def BELL_BAR_OWNER (n : Nat) : Fld := ⟨BELL_BAR n, 61, 2⟩
def BELL_BAR_PRIV (n : Nat) : Fld := ⟨BELL_BAR n, 60, 1⟩
def BELL_BAR_DEVS (n : Nat) : Fld := ⟨BELL_BAR n, 32, 16⟩
def BELL_BAR_CORES (n : Nat) : Fld := ⟨BELL_BAR n, 0, 16⟩
/-- BELL.BARSTAT (32 bits, spec/10_bellhouse_sync.md). -/
def BELL_BARSTAT (n : Nat) : Nat := 0x50400 + n * 0x4
def BELL_BARSTAT_GEN (n : Nat) : Fld := ⟨BELL_BARSTAT n, 16, 16⟩
def BELL_BARSTAT_ARRIVED (n : Nat) : Fld := ⟨BELL_BARSTAT n, 0, 16⟩
/-- BELL.HANDLOG (64 bits, spec/10_bellhouse_sync.md). -/
def BELL_HANDLOG (n : Nat) : Nat := 0x50600 + n * 0x8
def BELL_HANDLOG_ACCEPTED (n : Nat) : Fld := ⟨BELL_HANDLOG n, 63, 1⟩
def BELL_HANDLOG_STATE (n : Nat) : Fld := ⟨BELL_HANDLOG n, 60, 3⟩
def BELL_HANDLOG_CORE (n : Nat) : Fld := ⟨BELL_HANDLOG n, 56, 4⟩
def BELL_HANDLOG_OBJ (n : Nat) : Fld := ⟨BELL_HANDLOG n, 48, 8⟩
def BELL_HANDLOG_OLD (n : Nat) : Fld := ⟨BELL_HANDLOG n, 32, 16⟩
def BELL_HANDLOG_NEW (n : Nat) : Fld := ⟨BELL_HANDLOG n, 0, 32⟩
/-- TAP.LTCFG (32 bits, spec/11_taps_and_line_time.md). -/
def TAP_LTCFG : Nat := 0x90000
def TAP_LTCFG_REF : Fld := ⟨TAP_LTCFG, 0, 4⟩
/-- TAP.LOCK (32 bits, spec/11_taps_and_line_time.md). -/
def TAP_LOCK : Nat := 0x90004
def TAP_LOCK_LOCK : Fld := ⟨TAP_LOCK, 0, 1⟩
/-- TAP.LTSTAT (64 bits, spec/11_taps_and_line_time.md). -/
def TAP_LTSTAT : Nat := 0x90008
def TAP_LTSTAT_FRAME : Fld := ⟨TAP_LTSTAT, 32, 32⟩
def TAP_LTSTAT_LINE : Fld := ⟨TAP_LTSTAT, 16, 16⟩
def TAP_LTSTAT_STATE : Fld := ⟨TAP_LTSTAT, 0, 2⟩
/-- TAP.TDMCFG (32 bits, spec/11_taps_and_line_time.md). -/
def TAP_TDMCFG : Nat := 0x90040
def TAP_TDMCFG_EN : Fld := ⟨TAP_TDMCFG, 31, 1⟩
def TAP_TDMCFG_EDGE : Fld := ⟨TAP_TDMCFG, 30, 1⟩
def TAP_TDMCFG_FSMODE : Fld := ⟨TAP_TDMCFG, 29, 1⟩
def TAP_TDMCFG_WIDTH : Fld := ⟨TAP_TDMCFG, 28, 1⟩
def TAP_TDMCFG_DELAY : Fld := ⟨TAP_TDMCFG, 27, 1⟩
/-- TAP.CHIMESTAT (64 bits, spec/11_taps_and_line_time.md). -/
def TAP_CHIMESTAT : Nat := 0x90048
def TAP_CHIMESTAT_LAST : Fld := ⟨TAP_CHIMESTAT, 56, 8⟩
def TAP_CHIMESTAT_OUTCOME : Fld := ⟨TAP_CHIMESTAT, 48, 8⟩
def TAP_CHIMESTAT_PENDING : Fld := ⟨TAP_CHIMESTAT, 40, 8⟩
def TAP_CHIMESTAT_NOCLK : Fld := ⟨TAP_CHIMESTAT, 39, 1⟩
def TAP_CHIMESTAT_HEARD : Fld := ⟨TAP_CHIMESTAT, 16, 16⟩
def TAP_CHIMESTAT_MISSED : Fld := ⟨TAP_CHIMESTAT, 0, 16⟩
/-- TAP.CHIME_A (64 bits, spec/11_taps_and_line_time.md). -/
def TAP_CHIME_A (c : Nat) : Nat := 0x90080 + c * 0x10
def TAP_CHIME_A_TONE3 (c : Nat) : Fld := ⟨TAP_CHIME_A c, 48, 16⟩
def TAP_CHIME_A_TONE2 (c : Nat) : Fld := ⟨TAP_CHIME_A c, 32, 16⟩
def TAP_CHIME_A_TONE1 (c : Nat) : Fld := ⟨TAP_CHIME_A c, 16, 16⟩
def TAP_CHIME_A_TONE0 (c : Nat) : Fld := ⟨TAP_CHIME_A c, 0, 16⟩
/-- TAP.CHIME_B (64 bits, spec/11_taps_and_line_time.md). -/
def TAP_CHIME_B (c : Nat) : Nat := 0x90088 + c * 0x10
def TAP_CHIME_B_VALID (c : Nat) : Fld := ⟨TAP_CHIME_B c, 31, 1⟩
def TAP_CHIME_B_NET (c : Nat) : Fld := ⟨TAP_CHIME_B c, 30, 1⟩
def TAP_CHIME_B_SLOT (c : Nat) : Fld := ⟨TAP_CHIME_B c, 27, 3⟩
def TAP_CHIME_B_NETPAIR (c : Nat) : Fld := ⟨TAP_CHIME_B c, 24, 2⟩
def TAP_CHIME_B_MINLEVEL (c : Nat) : Fld := ⟨TAP_CHIME_B c, 16, 8⟩
def TAP_CHIME_B_DURATION (c : Nat) : Fld := ⟨TAP_CHIME_B c, 0, 16⟩
/-- TAP.T_CFG (32 bits, spec/11_taps_and_line_time.md). -/
def TAP_T_CFG (k : Nat) : Nat := 0x90200 + k * 0x40
def TAP_T_CFG_EN (k : Nat) : Fld := ⟨TAP_T_CFG k, 31, 1⟩
def TAP_T_CFG_LANES (k : Nat) : Fld := ⟨TAP_T_CFG k, 29, 2⟩
def TAP_T_CFG_VC (k : Nat) : Fld := ⟨TAP_T_CFG k, 25, 4⟩
def TAP_T_CFG_DT (k : Nat) : Fld := ⟨TAP_T_CFG k, 19, 6⟩
def TAP_T_CFG_EDT (k : Nat) : Fld := ⟨TAP_T_CFG k, 13, 6⟩
def TAP_T_CFG_MARKER (k : Nat) : Fld := ⟨TAP_T_CFG k, 12, 1⟩
/-- TAP.T_GEOM (32 bits, spec/11_taps_and_line_time.md). -/
def TAP_T_GEOM (k : Nat) : Nat := 0x90204 + k * 0x40
def TAP_T_GEOM_ACTIVE (k : Nat) : Fld := ⟨TAP_T_GEOM k, 16, 16⟩
def TAP_T_GEOM_TOTAL (k : Nat) : Fld := ⟨TAP_T_GEOM k, 0, 16⟩
/-- TAP.T_NOMPERIOD (32 bits, spec/11_taps_and_line_time.md). -/
def TAP_T_NOMPERIOD (k : Nat) : Nat := 0x90208 + k * 0x40
def TAP_T_NOMPERIOD_NS (k : Nat) : Fld := ⟨TAP_T_NOMPERIOD k, 0, 32⟩
/-- TAP.T_TIMING (32 bits, spec/11_taps_and_line_time.md). -/
def TAP_T_TIMING (k : Nat) : Nat := 0x9020c + k * 0x40
def TAP_T_TIMING_PTOL (k : Nat) : Fld := ⟨TAP_T_TIMING k, 20, 8⟩
def TAP_T_TIMING_GUARD (k : Nat) : Fld := ⟨TAP_T_TIMING k, 0, 20⟩
/-- TAP.T_FNCFG (32 bits, spec/11_taps_and_line_time.md). -/
def TAP_T_FNCFG (k : Nat) : Nat := 0x90210 + k * 0x40
def TAP_T_FNCFG_FNMAX (k : Nat) : Fld := ⟨TAP_T_FNCFG k, 16, 16⟩
/-- TAP.T_MARKPOS (32 bits, spec/11_taps_and_line_time.md). -/
def TAP_T_MARKPOS (k : Nat) : Nat := 0x90214 + k * 0x40
def TAP_T_MARKPOS_LINE (k : Nat) : Fld := ⟨TAP_T_MARKPOS k, 16, 16⟩
def TAP_T_MARKPOS_BYTE (k : Nat) : Fld := ⟨TAP_T_MARKPOS k, 0, 16⟩
/-- TAP.T_STAT (64 bits, spec/11_taps_and_line_time.md). -/
def TAP_T_STAT (k : Nat) : Nat := 0x90218 + k * 0x40
def TAP_T_STAT_FRAME (k : Nat) : Fld := ⟨TAP_T_STAT k, 32, 32⟩
def TAP_T_STAT_RXLINE (k : Nat) : Fld := ⟨TAP_T_STAT k, 16, 16⟩
def TAP_T_STAT_OUTCOME (k : Nat) : Fld := ⟨TAP_T_STAT k, 8, 4⟩
def TAP_T_STAT_TSTATE (k : Nat) : Fld := ⟨TAP_T_STAT k, 4, 2⟩
def TAP_T_STAT_VALID (k : Nat) : Fld := ⟨TAP_T_STAT k, 3, 1⟩
def TAP_T_STAT_HSRX (k : Nat) : Fld := ⟨TAP_T_STAT k, 2, 1⟩
/-- TAP.T_SIG (64 bits, spec/11_taps_and_line_time.md). -/
def TAP_T_SIG (k : Nat) : Nat := 0x90220 + k * 0x40
def TAP_T_SIG_SIG (k : Nat) : Fld := ⟨TAP_T_SIG k, 0, 64⟩
/-- TAP.T_ERR (64 bits, spec/11_taps_and_line_time.md). -/
def TAP_T_ERR (k : Nat) : Nat := 0x90228 + k * 0x40
def TAP_T_ERR_ECCCORR (k : Nat) : Fld := ⟨TAP_T_ERR k, 48, 16⟩
def TAP_T_ERR_PKTERR (k : Nat) : Fld := ⟨TAP_T_ERR k, 32, 16⟩
def TAP_T_ERR_DROPPED (k : Nat) : Fld := ⟨TAP_T_ERR k, 16, 16⟩
def TAP_T_ERR_FLYWHEEL (k : Nat) : Fld := ⟨TAP_T_ERR k, 8, 8⟩
def TAP_T_ERR_INCOMPLETE (k : Nat) : Fld := ⟨TAP_T_ERR k, 0, 8⟩
/-- TAP.T_MEASPER (32 bits, spec/11_taps_and_line_time.md). -/
def TAP_T_MEASPER (k : Nat) : Nat := 0x90230 + k * 0x40
def TAP_T_MEASPER_P (k : Nat) : Fld := ⟨TAP_T_MEASPER k, 0, 32⟩
/-- TAP.T_LASTFN (32 bits, spec/11_taps_and_line_time.md). -/
def TAP_T_LASTFN (k : Nat) : Nat := 0x90234 + k * 0x40
def TAP_T_LASTFN_FN (k : Nat) : Fld := ⟨TAP_T_LASTFN k, 0, 16⟩
/-- TAP.T_FSTIME (64 bits, spec/11_taps_and_line_time.md). -/
def TAP_T_FSTIME (k : Nat) : Nat := 0x90238 + k * 0x40
def TAP_T_FSTIME_TIME (k : Nat) : Fld := ⟨TAP_T_FSTIME k, 0, 64⟩
/-- TAP.RING (64 bits, spec/11_taps_and_line_time.md). -/
def TAP_RING (k : Nat) : Nat := 0x90600 + k * 0x10
def TAP_RING_NBUF (k : Nat) : Fld := ⟨TAP_RING k, 52, 4⟩
def TAP_RING_STRIDE (k : Nat) : Fld := ⟨TAP_RING k, 40, 12⟩
def TAP_RING_BASE (k : Nat) : Fld := ⟨TAP_RING k, 12, 28⟩
/-- TAP.RINGSTAT (32 bits, spec/11_taps_and_line_time.md). -/
def TAP_RINGSTAT (k : Nat) : Nat := 0x90608 + k * 0x10
def TAP_RINGSTAT_HELD (k : Nat) : Fld := ⟨TAP_RINGSTAT k, 24, 8⟩
def TAP_RINGSTAT_WRITING (k : Nat) : Fld := ⟨TAP_RINGSTAT k, 16, 4⟩
def TAP_RINGSTAT_OVERRUN (k : Nat) : Fld := ⟨TAP_RINGSTAT k, 0, 16⟩
/-- TAP.WIN (64 bits, spec/11_taps_and_line_time.md). -/
def TAP_WIN (d w : Nat) : Nat := 0x90800 + d * 0x80 + w * 0x8
def TAP_WIN_VALID (d w : Nat) : Fld := ⟨TAP_WIN d w, 63, 1⟩
def TAP_WIN_REQUIRED (d w : Nat) : Fld := ⟨TAP_WIN d w, 62, 1⟩
def TAP_WIN_NLINES (d w : Nat) : Fld := ⟨TAP_WIN d w, 48, 12⟩
def TAP_WIN_FIRSTLINE (d w : Nat) : Fld := ⟨TAP_WIN d w, 32, 16⟩
def TAP_WIN_BYTES (d w : Nat) : Fld := ⟨TAP_WIN d w, 16, 16⟩
def TAP_WIN_OFFSET (d w : Nat) : Fld := ⟨TAP_WIN d w, 0, 16⟩
/-- TAP.WSTAT (64 bits, spec/11_taps_and_line_time.md). -/
def TAP_WSTAT (d : Nat) : Nat := 0x90a00 + d * 0x8
def TAP_WSTAT_FRAME (d : Nat) : Fld := ⟨TAP_WSTAT d, 32, 32⟩
def TAP_WSTAT_MISMATCH (d : Nat) : Fld := ⟨TAP_WSTAT d, 16, 16⟩
def TAP_WSTAT_DONE (d : Nat) : Fld := ⟨TAP_WSTAT d, 0, 16⟩
/-- TAP.WCRC (32 bits, spec/11_taps_and_line_time.md). -/
def TAP_WCRC (d w : Nat) : Nat := 0x90c00 + d * 0x40 + w * 0x4
def TAP_WCRC_CRC (d w : Nat) : Fld := ⟨TAP_WCRC d w, 0, 32⟩
/-- TAP.EXP (32 bits, spec/11_taps_and_line_time.md). -/
def TAP_EXP (d w s : Nat) : Nat := 0x91000 + d * 0x400 + w * 0x40 + s * 0x4
def TAP_EXP_CRC (d w s : Nat) : Fld := ⟨TAP_EXP d w s, 0, 32⟩
/-- CVU.LOCK (32 bits, spec/12_check_value_units.md). -/
def CVU_LOCK : Nat := 0x80000
def CVU_LOCK_LOCK : Fld := ⟨CVU_LOCK, 0, 1⟩
/-- CVU.EVENT (32 bits, spec/12_check_value_units.md). -/
def CVU_EVENT : Nat := 0x80004
def CVU_EVENT_UNIT : Fld := ⟨CVU_EVENT, 0, 32⟩
/-- CVU.U_CFG (32 bits, spec/12_check_value_units.md). -/
def CVU_U_CFG (u : Nat) : Nat := 0x80100 + u * 0x80
def CVU_U_CFG_REFIN (u : Nat) : Fld := ⟨CVU_U_CFG u, 31, 1⟩
def CVU_U_CFG_REFOUT (u : Nat) : Fld := ⟨CVU_U_CFG u, 30, 1⟩
def CVU_U_CFG_WIDTH (u : Nat) : Fld := ⟨CVU_U_CFG u, 23, 7⟩
def CVU_U_CFG_ALIVE (u : Nat) : Fld := ⟨CVU_U_CFG u, 21, 2⟩
def CVU_U_CFG_AW (u : Nat) : Fld := ⟨CVU_U_CFG u, 19, 2⟩
def CVU_U_CFG_EXPEN (u : Nat) : Fld := ⟨CVU_U_CFG u, 18, 1⟩
def CVU_U_CFG_IRQ (u : Nat) : Fld := ⟨CVU_U_CFG u, 17, 1⟩
def CVU_U_CFG_MAXSTEP (u : Nat) : Fld := ⟨CVU_U_CFG u, 9, 8⟩
def CVU_U_CFG_DBYTES (u : Nat) : Fld := ⟨CVU_U_CFG u, 7, 2⟩
def CVU_U_CFG_OWNER (u : Nat) : Fld := ⟨CVU_U_CFG u, 5, 2⟩
/-- CVU.U_POLY (64 bits, spec/12_check_value_units.md). -/
def CVU_U_POLY (u : Nat) : Nat := 0x80108 + u * 0x80
def CVU_U_POLY_V (u : Nat) : Fld := ⟨CVU_U_POLY u, 0, 64⟩
/-- CVU.U_INIT (64 bits, spec/12_check_value_units.md). -/
def CVU_U_INIT (u : Nat) : Nat := 0x80110 + u * 0x80
def CVU_U_INIT_V (u : Nat) : Fld := ⟨CVU_U_INIT u, 0, 64⟩
/-- CVU.U_XOROUT (64 bits, spec/12_check_value_units.md). -/
def CVU_U_XOROUT (u : Nat) : Nat := 0x80118 + u * 0x80
def CVU_U_XOROUT_V (u : Nat) : Fld := ⟨CVU_U_XOROUT u, 0, 64⟩
/-- CVU.U_VALUE (64 bits, spec/12_check_value_units.md). -/
def CVU_U_VALUE (u : Nat) : Nat := 0x80120 + u * 0x80
def CVU_U_VALUE_V (u : Nat) : Fld := ⟨CVU_U_VALUE u, 0, 64⟩
/-- CVU.U_EXPECT (64 bits, spec/12_check_value_units.md). -/
def CVU_U_EXPECT (u : Nat) : Nat := 0x80128 + u * 0x80
def CVU_U_EXPECT_V (u : Nat) : Fld := ⟨CVU_U_EXPECT u, 0, 64⟩
/-- CVU.U_RESULT (64 bits, spec/12_check_value_units.md). -/
def CVU_U_RESULT (u : Nat) : Nat := 0x80130 + u * 0x80
def CVU_U_RESULT_V (u : Nat) : Fld := ⟨CVU_U_RESULT u, 0, 64⟩
/-- CVU.U_DATA (32 bits, spec/12_check_value_units.md). -/
def CVU_U_DATA (u : Nat) : Nat := 0x80138 + u * 0x80
def CVU_U_DATA_V (u : Nat) : Fld := ⟨CVU_U_DATA u, 0, 32⟩
/-- CVU.U_CMD (32 bits, spec/12_check_value_units.md). -/
def CVU_U_CMD (u : Nat) : Nat := 0x8013c + u * 0x80
def CVU_U_CMD_FINISH (u : Nat) : Fld := ⟨CVU_U_CMD u, 1, 1⟩
def CVU_U_CMD_START (u : Nat) : Fld := ⟨CVU_U_CMD u, 0, 1⟩
/-- CVU.U_ALIVE (64 bits, spec/12_check_value_units.md). -/
def CVU_U_ALIVE (u : Nat) : Nat := 0x80140 + u * 0x80
def CVU_U_ALIVE_POS (u : Nat) : Fld := ⟨CVU_U_ALIVE u, 48, 16⟩
def CVU_U_ALIVE_COUNT (u : Nat) : Fld := ⟨CVU_U_ALIVE u, 0, 32⟩
/-- CVU.U_POSN (64 bits, spec/12_check_value_units.md). -/
def CVU_U_POSN (u : Nat) : Nat := 0x80148 + u * 0x80
def CVU_U_POSN_FED (u : Nat) : Fld := ⟨CVU_U_POSN u, 32, 32⟩
def CVU_U_POSN_CAP (u : Nat) : Fld := ⟨CVU_U_POSN u, 0, 32⟩
/-- CVU.U_STAT (32 bits, spec/12_check_value_units.md). -/
def CVU_U_STAT (u : Nat) : Nat := 0x80150 + u * 0x80
def CVU_U_STAT_DISCARD (u : Nat) : Fld := ⟨CVU_U_STAT u, 24, 8⟩
def CVU_U_STAT_MISCNT (u : Nat) : Fld := ⟨CVU_U_STAT u, 16, 8⟩
def CVU_U_STAT_AOUT (u : Nat) : Fld := ⟨CVU_U_STAT u, 12, 4⟩
def CVU_U_STAT_STANDIN (u : Nat) : Fld := ⟨CVU_U_STAT u, 7, 1⟩
def CVU_U_STAT_CLAIMED (u : Nat) : Fld := ⟨CVU_U_STAT u, 6, 1⟩
def CVU_U_STAT_OPEN (u : Nat) : Fld := ⟨CVU_U_STAT u, 5, 1⟩
def CVU_U_STAT_MATCH (u : Nat) : Fld := ⟨CVU_U_STAT u, 4, 1⟩
def CVU_U_STAT_DONE (u : Nat) : Fld := ⟨CVU_U_STAT u, 3, 1⟩
def CVU_U_STAT_ALIVE_ERR (u : Nat) : Fld := ⟨CVU_U_STAT u, 2, 1⟩
def CVU_U_STAT_MISMATCH (u : Nat) : Fld := ⟨CVU_U_STAT u, 1, 1⟩
/-- SAFETY.CFG (32 bits, spec/13_supervision_two_channels.md). -/
def SAFETY_CFG : Nat := 0x10000
def SAFETY_CFG_GRACE_EN : Fld := ⟨SAFETY_CFG, 31, 1⟩
def SAFETY_CFG_CHK_SINGLE_MAX : Fld := ⟨SAFETY_CFG, 0, 17⟩
/-- SAFETY.TRIP (32 bits, spec/13_supervision_two_channels.md). -/
def SAFETY_TRIP : Nat := 0x10004
def SAFETY_TRIP_TRIPPED : Fld := ⟨SAFETY_TRIP, 31, 1⟩
def SAFETY_TRIP_DIE : Fld := ⟨SAFETY_TRIP, 30, 1⟩
def SAFETY_TRIP_SOURCE : Fld := ⟨SAFETY_TRIP, 8, 8⟩
def SAFETY_TRIP_DETAIL : Fld := ⟨SAFETY_TRIP, 0, 8⟩
/-- SAFETY.TRIPTIME (64 bits, spec/13_supervision_two_channels.md). -/
def SAFETY_TRIPTIME : Nat := 0x10008
def SAFETY_TRIPTIME_SEC : Fld := ⟨SAFETY_TRIPTIME, 32, 32⟩
def SAFETY_TRIPTIME_NS : Fld := ⟨SAFETY_TRIPTIME, 0, 32⟩
/-- SAFETY.SCANSTAT (64 bits, spec/13_supervision_two_channels.md). -/
def SAFETY_SCANSTAT : Nat := 0x10010
def SAFETY_SCANSTAT_SCAN : Fld := ⟨SAFETY_SCANSTAT, 32, 32⟩
def SAFETY_SCANSTAT_MISSED : Fld := ⟨SAFETY_SCANSTAT, 16, 16⟩
def SAFETY_SCANSTAT_SINGLE : Fld := ⟨SAFETY_SCANSTAT, 0, 16⟩
/-- SAFETY.SCANDIFF (64 bits, spec/13_supervision_two_channels.md). -/
def SAFETY_SCANDIFF : Nat := 0x10018
def SAFETY_SCANDIFF_VALID : Fld := ⟨SAFETY_SCANDIFF, 63, 1⟩
def SAFETY_SCANDIFF_CHANNEL : Fld := ⟨SAFETY_SCANDIFF, 62, 1⟩
def SAFETY_SCANDIFF_OFFSET : Fld := ⟨SAFETY_SCANDIFF, 48, 8⟩
def SAFETY_SCANDIFF_SCAN : Fld := ⟨SAFETY_SCANDIFF, 0, 32⟩
/-- SAFETY.EVCNT (64 bits, spec/13_supervision_two_channels.md). -/
def SAFETY_EVCNT : Nat := 0x10020
def SAFETY_EVCNT_CORE : Fld := ⟨SAFETY_EVCNT, 48, 16⟩
def SAFETY_EVCNT_LOST : Fld := ⟨SAFETY_EVCNT, 32, 16⟩
def SAFETY_EVCNT_CHECKER : Fld := ⟨SAFETY_EVCNT, 16, 16⟩
def SAFETY_EVCNT_RECORD : Fld := ⟨SAFETY_EVCNT, 0, 16⟩
/-- SAFETY.CHKFAIL (64 bits, spec/13_supervision_two_channels.md). -/
def SAFETY_CHKFAIL : Nat := 0x10028
def SAFETY_CHKFAIL_STANDINS : Fld := ⟨SAFETY_CHKFAIL, 35, 2⟩
def SAFETY_CHKFAIL_AGG_B : Fld := ⟨SAFETY_CHKFAIL, 34, 1⟩
def SAFETY_CHKFAIL_AGG_A : Fld := ⟨SAFETY_CHKFAIL, 33, 1⟩
def SAFETY_CHKFAIL_LOCK_B : Fld := ⟨SAFETY_CHKFAIL, 32, 1⟩
def SAFETY_CHKFAIL_LOCK_A : Fld := ⟨SAFETY_CHKFAIL, 31, 1⟩
def SAFETY_CHKFAIL_ECC : Fld := ⟨SAFETY_CHKFAIL, 22, 8⟩
def SAFETY_CHKFAIL_FENCE : Fld := ⟨SAFETY_CHKFAIL, 0, 22⟩
/-- SAFETY.SINGLETIME (32 bits, spec/13_supervision_two_channels.md). -/
def SAFETY_SINGLETIME : Nat := 0x10030
def SAFETY_SINGLETIME_SEC : Fld := ⟨SAFETY_SINGLETIME, 0, 32⟩
/-- SAFETY.STSTAT (64 bits, spec/13_supervision_two_channels.md). -/
def SAFETY_STSTAT : Nat := 0x10038
def SAFETY_STSTAT_PASSES : Fld := ⟨SAFETY_STSTAT, 32, 32⟩
def SAFETY_STSTAT_FAILS : Fld := ⟨SAFETY_STSTAT, 24, 8⟩
def SAFETY_STSTAT_CURRENT : Fld := ⟨SAFETY_STSTAT, 16, 8⟩
/-- CORE.WMCFG (64 bits, spec/13_supervision_two_channels.md). -/
def CORE_WMCFG (n : Nat) : Nat := 0x200068 + n * 0x10000
def CORE_WMCFG_EN (n : Nat) : Fld := ⟨CORE_WMCFG n, 63, 1⟩
def CORE_WMCFG_WARN (n : Nat) : Fld := ⟨CORE_WMCFG n, 32, 16⟩
def CORE_WMCFG_WMIN (n : Nat) : Fld := ⟨CORE_WMCFG n, 16, 16⟩
def CORE_WMCFG_WMAX (n : Nat) : Fld := ⟨CORE_WMCFG n, 0, 16⟩
/-- CORE.WMSTAT (32 bits, spec/13_supervision_two_channels.md). -/
def CORE_WMSTAT (n : Nat) : Nat := 0x200070 + n * 0x10000
def CORE_WMSTAT_ELAPSED (n : Nat) : Fld := ⟨CORE_WMSTAT n, 16, 16⟩
def CORE_WMSTAT_TOKEN (n : Nat) : Fld := ⟨CORE_WMSTAT n, 0, 16⟩
/-- CORE.WMCNT (32 bits, spec/13_supervision_two_channels.md). -/
def CORE_WMCNT (n : Nat) : Nat := 0x200074 + n * 0x10000
def CORE_WMCNT_EXPIRIES (n : Nat) : Fld := ⟨CORE_WMCNT n, 24, 8⟩
/-- CORE.STSTAT (32 bits, spec/13_supervision_two_channels.md). -/
def CORE_STSTAT (n : Nat) : Nat := 0x200078 + n * 0x10000
def CORE_STSTAT_PASSES (n : Nat) : Fld := ⟨CORE_STSTAT n, 16, 16⟩
def CORE_STSTAT_FAILS (n : Nat) : Fld := ⟨CORE_STSTAT n, 8, 8⟩
def CORE_STSTAT_CURRENT (n : Nat) : Fld := ⟨CORE_STSTAT n, 4, 4⟩
/-- WATCH.CFG (64 bits, spec/13_supervision_two_channels.md). -/
def WATCH_CFG : Nat := 0x30000
def WATCH_CFG_EN : Fld := ⟨WATCH_CFG, 63, 1⟩
def WATCH_CFG_WARN : Fld := ⟨WATCH_CFG, 32, 16⟩
def WATCH_CFG_WMIN : Fld := ⟨WATCH_CFG, 16, 16⟩
def WATCH_CFG_WMAX : Fld := ⟨WATCH_CFG, 0, 16⟩
/-- WATCH.SVC (32 bits, spec/13_supervision_two_channels.md). -/
def WATCH_SVC : Nat := 0x30008
def WATCH_SVC_WORD : Fld := ⟨WATCH_SVC, 0, 32⟩
/-- WATCH.STAT (32 bits, spec/13_supervision_two_channels.md). -/
def WATCH_STAT : Nat := 0x3000c
def WATCH_STAT_ELAPSED : Fld := ⟨WATCH_STAT, 16, 16⟩
def WATCH_STAT_TOKEN : Fld := ⟨WATCH_STAT, 0, 16⟩
/-- WATCH.LADDER (32 bits, spec/13_supervision_two_channels.md). -/
def WATCH_LADDER : Nat := 0x30010
def WATCH_LADDER_N : Fld := ⟨WATCH_LADDER, 26, 4⟩
def WATCH_LADDER_PERIOD : Fld := ⟨WATCH_LADDER, 16, 10⟩
def WATCH_LADDER_COUNT : Fld := ⟨WATCH_LADDER, 0, 4⟩
/-- WATCH.LASTEXP (64 bits, spec/13_supervision_two_channels.md). -/
def WATCH_LASTEXP : Nat := 0x30018
def WATCH_LASTEXP_KIND : Fld := ⟨WATCH_LASTEXP, 56, 8⟩
def WATCH_LASTEXP_CORE : Fld := ⟨WATCH_LASTEXP, 52, 4⟩
def WATCH_LASTEXP_SEC : Fld := ⟨WATCH_LASTEXP, 0, 32⟩
/-- WATCH.RETAIN (32 bits, spec/13_supervision_two_channels.md). -/
def WATCH_RETAIN (k : Nat) : Nat := 0x30100 + k * 0x4
def WATCH_RETAIN_COUNT (k : Nat) : Fld := ⟨WATCH_RETAIN k, 0, 32⟩
/-- WATCH.LASTTRIP (64 bits, spec/13_supervision_two_channels.md). -/
def WATCH_LASTTRIP : Nat := 0x30120
def WATCH_LASTTRIP_SOURCE : Fld := ⟨WATCH_LASTTRIP, 56, 8⟩
def WATCH_LASTTRIP_DETAIL : Fld := ⟨WATCH_LASTTRIP, 48, 8⟩
def WATCH_LASTTRIP_DIE : Fld := ⟨WATCH_LASTTRIP, 47, 1⟩
def WATCH_LASTTRIP_EPOCH : Fld := ⟨WATCH_LASTTRIP, 32, 8⟩
def WATCH_LASTTRIP_SEC : Fld := ⟨WATCH_LASTTRIP, 0, 32⟩
/-- WATCH.RSTAT (32 bits, spec/13_supervision_two_channels.md). -/
def WATCH_RSTAT : Nat := 0x30130
def WATCH_RSTAT_RESTORED : Fld := ⟨WATCH_RSTAT, 1, 1⟩
def WATCH_RSTAT_VALID : Fld := ⟨WATCH_RSTAT, 0, 1⟩
/-- SAFEIO.STATUS (32 bits, spec/14_safe_io.md). -/
def SAFEIO_STATUS : Nat := 0x20000
def SAFEIO_STATUS_OUTFAULT : Fld := ⟨SAFEIO_STATUS, 28, 4⟩
def SAFEIO_STATUS_DRIVE : Fld := ⟨SAFEIO_STATUS, 24, 4⟩
def SAFEIO_STATUS_CMD : Fld := ⟨SAFEIO_STATUS, 20, 4⟩
def SAFEIO_STATUS_PARAM_OK : Fld := ⟨SAFEIO_STATUS, 16, 1⟩
def SAFEIO_STATUS_PAIR_FAULT : Fld := ⟨SAFEIO_STATUS, 8, 8⟩
def SAFEIO_STATUS_PAIR_ON : Fld := ⟨SAFEIO_STATUS, 0, 8⟩
/-- SAFEIO.RUN (32 bits, spec/14_safe_io.md). -/
def SAFEIO_RUN : Nat := 0x20004
def SAFEIO_RUN_PERMIT : Fld := ⟨SAFEIO_RUN, 4, 4⟩
def SAFEIO_RUN_RUN : Fld := ⟨SAFEIO_RUN, 0, 4⟩
/-- SAFEIO.PAIRSTAT (32 bits, spec/14_safe_io.md). -/
def SAFEIO_PAIRSTAT (i : Nat) : Nat := 0x20010 + i * 0x4
def SAFEIO_PAIRSTAT_TPSKIP (i : Nat) : Fld := ⟨SAFEIO_PAIRSTAT i, 24, 8⟩
def SAFEIO_PAIRSTAT_TPFAIL (i : Nat) : Fld := ⟨SAFEIO_PAIRSTAT i, 16, 8⟩
def SAFEIO_PAIRSTAT_DISC_MS (i : Nat) : Fld := ⟨SAFEIO_PAIRSTAT i, 8, 8⟩
def SAFEIO_PAIRSTAT_FCODE (i : Nat) : Fld := ⟨SAFEIO_PAIRSTAT i, 4, 2⟩
def SAFEIO_PAIRSTAT_FAULT (i : Nat) : Fld := ⟨SAFEIO_PAIRSTAT i, 3, 1⟩
def SAFEIO_PAIRSTAT_DISC (i : Nat) : Fld := ⟨SAFEIO_PAIRSTAT i, 2, 1⟩
def SAFEIO_PAIRSTAT_B_ON (i : Nat) : Fld := ⟨SAFEIO_PAIRSTAT i, 1, 1⟩
def SAFEIO_PAIRSTAT_A_ON (i : Nat) : Fld := ⟨SAFEIO_PAIRSTAT i, 0, 1⟩
/-- SAFEIO.CHSTAT (32 bits, spec/14_safe_io.md). -/
def SAFEIO_CHSTAT (c : Nat) : Nat := 0x20040 + c * 0x4
def SAFEIO_CHSTAT_OTSKIP (c : Nat) : Fld := ⟨SAFEIO_CHSTAT c, 16, 16⟩
def SAFEIO_CHSTAT_OFFWHY (c : Nat) : Fld := ⟨SAFEIO_CHSTAT c, 12, 4⟩
def SAFEIO_CHSTAT_FCODE (c : Nat) : Fld := ⟨SAFEIO_CHSTAT c, 8, 2⟩
def SAFEIO_CHSTAT_ILOCK (c : Nat) : Fld := ⟨SAFEIO_CHSTAT c, 7, 1⟩
def SAFEIO_CHSTAT_RBL (c : Nat) : Fld := ⟨SAFEIO_CHSTAT c, 6, 1⟩
def SAFEIO_CHSTAT_RBH (c : Nat) : Fld := ⟨SAFEIO_CHSTAT c, 5, 1⟩
def SAFEIO_CHSTAT_LS_ON (c : Nat) : Fld := ⟨SAFEIO_CHSTAT c, 4, 1⟩
def SAFEIO_CHSTAT_HS_ON (c : Nat) : Fld := ⟨SAFEIO_CHSTAT c, 3, 1⟩
def SAFEIO_CHSTAT_TESTING (c : Nat) : Fld := ⟨SAFEIO_CHSTAT c, 2, 1⟩
def SAFEIO_CHSTAT_FAULT (c : Nat) : Fld := ⟨SAFEIO_CHSTAT c, 1, 1⟩
def SAFEIO_CHSTAT_CMD (c : Nat) : Fld := ⟨SAFEIO_CHSTAT c, 0, 1⟩
/-- SAFEIO.PSTAT (32 bits, spec/14_safe_io.md). -/
def SAFEIO_PSTAT : Nat := 0x20080
def SAFEIO_PSTAT_LOCKOUT : Fld := ⟨SAFEIO_PSTAT, 20, 12⟩
def SAFEIO_PSTAT_FAILS : Fld := ⟨SAFEIO_PSTAT, 16, 4⟩
def SAFEIO_PSTAT_SESSION : Fld := ⟨SAFEIO_PSTAT, 1, 1⟩
def SAFEIO_PSTAT_PWSET : Fld := ⟨SAFEIO_PSTAT, 0, 1⟩
/-- SAFEIO.SETVER (32 bits, spec/14_safe_io.md). -/
def SAFEIO_SETVER : Nat := 0x20084
def SAFEIO_SETVER_SETVER : Fld := ⟨SAFEIO_SETVER, 0, 32⟩
/-- SAFEIO.LOGSEQ (32 bits, spec/14_safe_io.md). -/
def SAFEIO_LOGSEQ : Nat := 0x20088
def SAFEIO_LOGSEQ_SEQ : Fld := ⟨SAFEIO_LOGSEQ, 0, 32⟩
/-- SAFEIO.PDIGEST (32 bits, spec/14_safe_io.md). -/
def SAFEIO_PDIGEST (k : Nat) : Nat := 0x200c0 + k * 0x4
def SAFEIO_PDIGEST_DIGEST (k : Nat) : Fld := ⟨SAFEIO_PDIGEST k, 0, 32⟩
/-- SUNDIAL.SNAP (32 bits, spec/15_sundial_and_vehicle_networks.md). -/
def SUNDIAL_SNAP : Nat := 0x40000
def SUNDIAL_SNAP_TAKE : Fld := ⟨SUNDIAL_SNAP, 0, 4⟩
/-- SUNDIAL.SERVO (32 bits, spec/15_sundial_and_vehicle_networks.md). -/
def SUNDIAL_SERVO : Nat := 0x40004
def SUNDIAL_SERVO_KP : Fld := ⟨SUNDIAL_SERVO, 16, 16⟩
def SUNDIAL_SERVO_KI : Fld := ⟨SUNDIAL_SERVO, 0, 16⟩
/-- SUNDIAL.SLEW (32 bits, spec/15_sundial_and_vehicle_networks.md). -/
def SUNDIAL_SLEW : Nat := 0x40008
def SUNDIAL_SLEW_SLEW : Fld := ⟨SUNDIAL_SLEW, 0, 24⟩
/-- SUNDIAL.DOMAIN (32 bits, spec/15_sundial_and_vehicle_networks.md). -/
def SUNDIAL_DOMAIN : Nat := 0x4000c
def SUNDIAL_DOMAIN_SRT : Fld := ⟨SUNDIAL_DOMAIN, 16, 4⟩
def SUNDIAL_DOMAIN_TB1_DOMAIN : Fld := ⟨SUNDIAL_DOMAIN, 8, 8⟩
def SUNDIAL_DOMAIN_TB0_DOMAIN : Fld := ⟨SUNDIAL_DOMAIN, 0, 8⟩
/-- SUNDIAL.LOCK (32 bits, spec/15_sundial_and_vehicle_networks.md). -/
def SUNDIAL_LOCK : Nat := 0x40010
def SUNDIAL_LOCK_LOCK : Fld := ⟨SUNDIAL_LOCK, 0, 1⟩
/-- SUNDIAL.RINGGM (32 bits, spec/15_sundial_and_vehicle_networks.md). -/
def SUNDIAL_RINGGM : Nat := 0x40014
def SUNDIAL_RINGGM_RING_PRIO1 : Fld := ⟨SUNDIAL_RINGGM, 0, 8⟩
/-- SUNDIAL.TB_STATUS (32 bits, spec/15_sundial_and_vehicle_networks.md). -/
def SUNDIAL_TB_STATUS (n : Nat) : Nat := 0x40100 + n * 0x40
def SUNDIAL_TB_STATUS_GM (n : Nat) : Fld := ⟨SUNDIAL_TB_STATUS n, 8, 1⟩
def SUNDIAL_TB_STATUS_OFFSET_LARGE (n : Nat) : Fld := ⟨SUNDIAL_TB_STATUS n, 7, 1⟩
def SUNDIAL_TB_STATUS_HOLDOVER (n : Nat) : Fld := ⟨SUNDIAL_TB_STATUS n, 6, 1⟩
def SUNDIAL_TB_STATUS_LOCKED (n : Nat) : Fld := ⟨SUNDIAL_TB_STATUS n, 5, 1⟩
def SUNDIAL_TB_STATUS_SYNCED (n : Nat) : Fld := ⟨SUNDIAL_TB_STATUS n, 4, 1⟩
def SUNDIAL_TB_STATUS_PORT (n : Nat) : Fld := ⟨SUNDIAL_TB_STATUS n, 0, 3⟩
/-- SUNDIAL.TB_RATE (32 bits, spec/15_sundial_and_vehicle_networks.md). -/
def SUNDIAL_TB_RATE (n : Nat) : Nat := 0x40104 + n * 0x40
def SUNDIAL_TB_RATE_RATE (n : Nat) : Fld := ⟨SUNDIAL_TB_RATE n, 0, 32⟩
/-- SUNDIAL.TB_SETPT (32 bits, spec/15_sundial_and_vehicle_networks.md). -/
def SUNDIAL_TB_SETPT (n : Nat) : Nat := 0x40108 + n * 0x40
def SUNDIAL_TB_SETPT_SETPT (n : Nat) : Fld := ⟨SUNDIAL_TB_SETPT n, 0, 32⟩
/-- SUNDIAL.TB_HOLDSEC (32 bits, spec/15_sundial_and_vehicle_networks.md). -/
def SUNDIAL_TB_HOLDSEC (n : Nat) : Nat := 0x4010c + n * 0x40
def SUNDIAL_TB_HOLDSEC_SEC (n : Nat) : Fld := ⟨SUNDIAL_TB_HOLDSEC n, 0, 32⟩
/-- SUNDIAL.TB_OFFSET (64 bits, spec/15_sundial_and_vehicle_networks.md). -/
def SUNDIAL_TB_OFFSET (n : Nat) : Nat := 0x40110 + n * 0x40
def SUNDIAL_TB_OFFSET_NS (n : Nat) : Fld := ⟨SUNDIAL_TB_OFFSET n, 0, 64⟩
/-- SUNDIAL.TB_SNAPSEC (64 bits, spec/15_sundial_and_vehicle_networks.md). -/
def SUNDIAL_TB_SNAPSEC (n : Nat) : Nat := 0x40118 + n * 0x40
def SUNDIAL_TB_SNAPSEC_SEC (n : Nat) : Fld := ⟨SUNDIAL_TB_SNAPSEC n, 0, 48⟩
/-- SUNDIAL.TB_SNAPNS (32 bits, spec/15_sundial_and_vehicle_networks.md). -/
def SUNDIAL_TB_SNAPNS (n : Nat) : Nat := 0x40120 + n * 0x40
def SUNDIAL_TB_SNAPNS_NS (n : Nat) : Fld := ⟨SUNDIAL_TB_SNAPNS n, 0, 32⟩
/-- SUNDIAL.TB_GMID (64 bits, spec/15_sundial_and_vehicle_networks.md). -/
def SUNDIAL_TB_GMID (n : Nat) : Nat := 0x40128 + n * 0x40
def SUNDIAL_TB_GMID_ID (n : Nat) : Fld := ⟨SUNDIAL_TB_GMID n, 0, 64⟩
/-- SUNDIAL.PORT_INGLAT (32 bits, spec/15_sundial_and_vehicle_networks.md). -/
def SUNDIAL_PORT_INGLAT (p : Nat) : Nat := 0x40300 + p * 0x10
def SUNDIAL_PORT_INGLAT_INGLAT (p : Nat) : Fld := ⟨SUNDIAL_PORT_INGLAT p, 0, 32⟩
/-- SUNDIAL.PORT_EGRLAT (32 bits, spec/15_sundial_and_vehicle_networks.md). -/
def SUNDIAL_PORT_EGRLAT (p : Nat) : Nat := 0x40304 + p * 0x10
def SUNDIAL_PORT_EGRLAT_EGRLAT (p : Nat) : Fld := ⟨SUNDIAL_PORT_EGRLAT p, 0, 32⟩
/-- SUNDIAL.PORT_ASYM (32 bits, spec/15_sundial_and_vehicle_networks.md). -/
def SUNDIAL_PORT_ASYM (p : Nat) : Nat := 0x40308 + p * 0x10
def SUNDIAL_PORT_ASYM_ASYM (p : Nat) : Fld := ⟨SUNDIAL_PORT_ASYM p, 0, 32⟩
/-- SUNDIAL.PORT_LINKDELAY (32 bits, spec/15_sundial_and_vehicle_networks.md). -/
def SUNDIAL_PORT_LINKDELAY (p : Nat) : Nat := 0x4030c + p * 0x10
def SUNDIAL_PORT_LINKDELAY_DELAY (p : Nat) : Fld := ⟨SUNDIAL_PORT_LINKDELAY p, 0, 32⟩
/-- SUNDIAL.TPO_CTRL (32 bits, spec/15_sundial_and_vehicle_networks.md). -/
def SUNDIAL_TPO_CTRL (k : Nat) : Nat := 0x40400 + k * 0x20
def SUNDIAL_TPO_CTRL_ARM (k : Nat) : Fld := ⟨SUNDIAL_TPO_CTRL k, 31, 1⟩
def SUNDIAL_TPO_CTRL_PASSED (k : Nat) : Fld := ⟨SUNDIAL_TPO_CTRL k, 30, 1⟩
def SUNDIAL_TPO_CTRL_BASE (k : Nat) : Fld := ⟨SUNDIAL_TPO_CTRL k, 28, 2⟩
def SUNDIAL_TPO_CTRL_WIDTH (k : Nat) : Fld := ⟨SUNDIAL_TPO_CTRL k, 0, 28⟩
/-- SUNDIAL.TPO_STARTSEC (64 bits, spec/15_sundial_and_vehicle_networks.md). -/
def SUNDIAL_TPO_STARTSEC (k : Nat) : Nat := 0x40408 + k * 0x20
def SUNDIAL_TPO_STARTSEC_SEC (k : Nat) : Fld := ⟨SUNDIAL_TPO_STARTSEC k, 0, 48⟩
/-- SUNDIAL.TPO_STARTNS (32 bits, spec/15_sundial_and_vehicle_networks.md). -/
def SUNDIAL_TPO_STARTNS (k : Nat) : Nat := 0x40410 + k * 0x20
def SUNDIAL_TPO_STARTNS_NS (k : Nat) : Fld := ⟨SUNDIAL_TPO_STARTNS k, 0, 32⟩
/-- SUNDIAL.TPO_PERIOD (32 bits, spec/15_sundial_and_vehicle_networks.md). -/
def SUNDIAL_TPO_PERIOD (k : Nat) : Nat := 0x40414 + k * 0x20
def SUNDIAL_TPO_PERIOD_PERIOD (k : Nat) : Fld := ⟨SUNDIAL_TPO_PERIOD k, 0, 32⟩
/-- SUNDIAL.TPO_COUNT (32 bits, spec/15_sundial_and_vehicle_networks.md). -/
def SUNDIAL_TPO_COUNT (k : Nat) : Nat := 0x40418 + k * 0x20
def SUNDIAL_TPO_COUNT_COUNT (k : Nat) : Fld := ⟨SUNDIAL_TPO_COUNT k, 0, 32⟩
/-- ETH.M_CFG (32 bits, spec/15_sundial_and_vehicle_networks.md). -/
def ETH_M_CFG (m : Nat) : Nat := 0xe0000 + m * 0x100
def ETH_M_CFG_EN (m : Nat) : Fld := ⟨ETH_M_CFG m, 31, 1⟩
def ETH_M_CFG_SPEED (m : Nat) : Fld := ⟨ETH_M_CFG m, 28, 3⟩
/-- ETH.M_STATUS (32 bits, spec/15_sundial_and_vehicle_networks.md). -/
def ETH_M_STATUS (m : Nat) : Nat := 0xe0004 + m * 0x100
def ETH_M_STATUS_LINK (m : Nat) : Fld := ⟨ETH_M_STATUS m, 31, 1⟩
def ETH_M_STATUS_SPEED (m : Nat) : Fld := ⟨ETH_M_STATUS m, 28, 3⟩
def ETH_M_STATUS_NET_LOST (m : Nat) : Fld := ⟨ETH_M_STATUS m, 27, 1⟩
/-- ETH.M_CBS5 (32 bits, spec/15_sundial_and_vehicle_networks.md). -/
def ETH_M_CBS5 (m : Nat) : Nat := 0xe0008 + m * 0x100
def ETH_M_CBS5_IDLESLOPE (m : Nat) : Fld := ⟨ETH_M_CBS5 m, 0, 32⟩
/-- ETH.M_CBS6 (32 bits, spec/15_sundial_and_vehicle_networks.md). -/
def ETH_M_CBS6 (m : Nat) : Nat := 0xe000c + m * 0x100
def ETH_M_CBS6_IDLESLOPE (m : Nat) : Fld := ⟨ETH_M_CBS6 m, 0, 32⟩
/-- ETH.M_TXFRAMES (64 bits, spec/15_sundial_and_vehicle_networks.md). -/
def ETH_M_TXFRAMES (m : Nat) : Nat := 0xe0010 + m * 0x100
def ETH_M_TXFRAMES_COUNT (m : Nat) : Fld := ⟨ETH_M_TXFRAMES m, 0, 64⟩
/-- ETH.M_RXFRAMES (64 bits, spec/15_sundial_and_vehicle_networks.md). -/
def ETH_M_RXFRAMES (m : Nat) : Nat := 0xe0018 + m * 0x100
def ETH_M_RXFRAMES_COUNT (m : Nat) : Fld := ⟨ETH_M_RXFRAMES m, 0, 64⟩
/-- ETH.M_RXDISC (32 bits, spec/15_sundial_and_vehicle_networks.md). -/
def ETH_M_RXDISC (m : Nat) : Nat := 0xe0020 + m * 0x100
def ETH_M_RXDISC_COUNT (m : Nat) : Fld := ⟨ETH_M_RXDISC m, 0, 32⟩
/-- ETH.M_PAUSEDISC (32 bits, spec/15_sundial_and_vehicle_networks.md). -/
def ETH_M_PAUSEDISC (m : Nat) : Nat := 0xe0024 + m * 0x100
def ETH_M_PAUSEDISC_COUNT (m : Nat) : Fld := ⟨ETH_M_PAUSEDISC m, 0, 32⟩
/-- ETH.M_FCSERR (32 bits, spec/15_sundial_and_vehicle_networks.md). -/
def ETH_M_FCSERR (m : Nat) : Nat := 0xe0028 + m * 0x100
def ETH_M_FCSERR_COUNT (m : Nat) : Fld := ⟨ETH_M_FCSERR m, 0, 32⟩
/-- ETH.M_TXDROP (32 bits, spec/15_sundial_and_vehicle_networks.md). -/
def ETH_M_TXDROP (m : Nat) : Nat := 0xe002c + m * 0x100
def ETH_M_TXDROP_COUNT (m : Nat) : Fld := ⟨ETH_M_TXDROP m, 0, 32⟩
/-- ETH.S_CFG (64 bits, spec/15_sundial_and_vehicle_networks.md). -/
def ETH_S_CFG (s : Nat) : Nat := 0xe0800 + s * 0x20
def ETH_S_CFG_VALID (s : Nat) : Fld := ⟨ETH_S_CFG s, 63, 1⟩
def ETH_S_CFG_NETPAIR (s : Nat) : Fld := ⟨ETH_S_CFG s, 60, 2⟩
def ETH_S_CFG_SRCDEV (s : Nat) : Fld := ⟨ETH_S_CFG s, 56, 4⟩
def ETH_S_CFG_MAXSTEP (s : Nat) : Fld := ⟨ETH_S_CFG s, 48, 8⟩
def ETH_S_CFG_STREAM (s : Nat) : Fld := ⟨ETH_S_CFG s, 32, 16⟩
def ETH_S_CFG_WINDOW (s : Nat) : Fld := ⟨ETH_S_CFG s, 16, 16⟩
/-- ETH.S_RING (64 bits, spec/15_sundial_and_vehicle_networks.md). -/
def ETH_S_RING (s : Nat) : Nat := 0xe0808 + s * 0x20
def ETH_S_RING_ENTRIES (s : Nat) : Fld := ⟨ETH_S_RING s, 40, 6⟩
def ETH_S_RING_BASE (s : Nat) : Fld := ⟨ETH_S_RING s, 12, 28⟩
def ETH_S_RING_WIDX (s : Nat) : Fld := ⟨ETH_S_RING s, 0, 12⟩
/-- ETH.S_STAT (64 bits, spec/15_sundial_and_vehicle_networks.md). -/
def ETH_S_STAT (s : Nat) : Nat := 0xe0810 + s * 0x20
def ETH_S_STAT_ACCEPTED (s : Nat) : Fld := ⟨ETH_S_STAT s, 48, 16⟩
def ETH_S_STAT_DEGRADED (s : Nat) : Fld := ⟨ETH_S_STAT s, 32, 16⟩
def ETH_S_STAT_REJECTED (s : Nat) : Fld := ⟨ETH_S_STAT s, 16, 16⟩
def ETH_S_STAT_BADCOPY (s : Nat) : Fld := ⟨ETH_S_STAT s, 8, 8⟩
def ETH_S_STAT_LATECOPY (s : Nat) : Fld := ⟨ETH_S_STAT s, 0, 8⟩
/-- CAN.C_CFG (32 bits, spec/15_sundial_and_vehicle_networks.md). -/
def CAN_C_CFG (c : Nat) : Nat := 0xf0000 + c * 0x100
def CAN_C_CFG_EN (c : Nat) : Fld := ⟨CAN_C_CFG c, 31, 1⟩
def CAN_C_CFG_MODE (c : Nat) : Fld := ⟨CAN_C_CFG c, 29, 2⟩
def CAN_C_CFG_TDCO (c : Nat) : Fld := ⟨CAN_C_CFG c, 0, 8⟩
/-- CAN.C_NBT (32 bits, spec/15_sundial_and_vehicle_networks.md). -/
def CAN_C_NBT (c : Nat) : Nat := 0xf0004 + c * 0x100
def CAN_C_NBT_PRESC (c : Nat) : Fld := ⟨CAN_C_NBT c, 22, 10⟩
def CAN_C_NBT_TSEG1 (c : Nat) : Fld := ⟨CAN_C_NBT c, 14, 8⟩
def CAN_C_NBT_TSEG2 (c : Nat) : Fld := ⟨CAN_C_NBT c, 7, 7⟩
def CAN_C_NBT_SJW (c : Nat) : Fld := ⟨CAN_C_NBT c, 0, 7⟩
/-- CAN.C_DBT (32 bits, spec/15_sundial_and_vehicle_networks.md). -/
def CAN_C_DBT (c : Nat) : Nat := 0xf0008 + c * 0x100
def CAN_C_DBT_ASNBT (c : Nat) : Fld := ⟨CAN_C_DBT c, 0, 32⟩
/-- CAN.C_STATUS (32 bits, spec/15_sundial_and_vehicle_networks.md). -/
def CAN_C_STATUS (c : Nat) : Nat := 0xf0010 + c * 0x100
def CAN_C_STATUS_STATE (c : Nat) : Fld := ⟨CAN_C_STATUS c, 30, 2⟩
def CAN_C_STATUS_ALONE (c : Nat) : Fld := ⟨CAN_C_STATUS c, 29, 1⟩
def CAN_C_STATUS_NET_LOST (c : Nat) : Fld := ⟨CAN_C_STATUS c, 28, 1⟩
def CAN_C_STATUS_TEC (c : Nat) : Fld := ⟨CAN_C_STATUS c, 8, 8⟩
def CAN_C_STATUS_REC (c : Nat) : Fld := ⟨CAN_C_STATUS c, 0, 8⟩
/-- CAN.C_ACKRUN (32 bits, spec/15_sundial_and_vehicle_networks.md). -/
def CAN_C_ACKRUN (c : Nat) : Nat := 0xf0014 + c * 0x100
def CAN_C_ACKRUN_COUNT (c : Nat) : Fld := ⟨CAN_C_ACKRUN c, 0, 16⟩
/-- CAN.C_TXOK (32 bits, spec/15_sundial_and_vehicle_networks.md). -/
def CAN_C_TXOK (c : Nat) : Nat := 0xf0018 + c * 0x100
def CAN_C_TXOK_COUNT (c : Nat) : Fld := ⟨CAN_C_TXOK c, 0, 32⟩
/-- CAN.C_RXOK (32 bits, spec/15_sundial_and_vehicle_networks.md). -/
def CAN_C_RXOK (c : Nat) : Nat := 0xf001c + c * 0x100
def CAN_C_RXOK_COUNT (c : Nat) : Fld := ⟨CAN_C_RXOK c, 0, 32⟩
/-- CAN.C_EVENTS (32 bits, spec/15_sundial_and_vehicle_networks.md). -/
def CAN_C_EVENTS (c : Nat) : Nat := 0xf0020 + c * 0x100
def CAN_C_EVENTS_BUSOFF (c : Nat) : Fld := ⟨CAN_C_EVENTS c, 16, 16⟩
def CAN_C_EVENTS_REPLACED (c : Nat) : Fld := ⟨CAN_C_EVENTS c, 0, 16⟩
/-- CAN.C_TXDROP (32 bits, spec/15_sundial_and_vehicle_networks.md). -/
def CAN_C_TXDROP (c : Nat) : Nat := 0xf0024 + c * 0x100
def CAN_C_TXDROP_COUNT (c : Nat) : Fld := ⟨CAN_C_TXDROP c, 0, 32⟩
/-- NIM.CFG (32 bits, spec/16_nimlink.md). -/
def NIM_CFG : Nat := 0x100000
def NIM_CFG_EN : Fld := ⟨NIM_CFG, 31, 1⟩
def NIM_CFG_TOPO : Fld := ⟨NIM_CFG, 30, 1⟩
def NIM_CFG_MINVER : Fld := ⟨NIM_CFG, 28, 2⟩
def NIM_CFG_SELF : Fld := ⟨NIM_CFG, 24, 4⟩
def NIM_CFG_XDIM : Fld := ⟨NIM_CFG, 20, 4⟩
def NIM_CFG_YDIM : Fld := ⟨NIM_CFG, 16, 4⟩
/-- NIM.LOCK (32 bits, spec/16_nimlink.md). -/
def NIM_LOCK : Nat := 0x100004
def NIM_LOCK_LOCK : Fld := ⟨NIM_LOCK, 0, 1⟩
/-- NIM.STATUS (64 bits, spec/16_nimlink.md). -/
def NIM_STATUS : Nat := 0x100008
def NIM_STATUS_PRESENT : Fld := ⟨NIM_STATUS, 48, 16⟩
def NIM_STATUS_ROLLNUM : Fld := ⟨NIM_STATUS, 32, 16⟩
def NIM_STATUS_RV : Fld := ⟨NIM_STATUS, 28, 4⟩
def NIM_STATUS_STATE : Fld := ⟨NIM_STATUS, 24, 4⟩
def NIM_STATUS_RESTARTS : Fld := ⟨NIM_STATUS, 16, 8⟩
/-- NIM.FLOOR (64 bits, spec/16_nimlink.md). -/
def NIM_FLOOR : Nat := 0x100010
def NIM_FLOOR_BULK : Fld := ⟨NIM_FLOOR, 48, 16⟩
def NIM_FLOOR_SAFETY : Fld := ⟨NIM_FLOOR, 32, 16⟩
def NIM_FLOOR_SYNC : Fld := ⟨NIM_FLOOR, 16, 16⟩
def NIM_FLOOR_MGMT : Fld := ⟨NIM_FLOOR, 0, 16⟩
/-- NIM.PORT_STATUS (32 bits, spec/16_nimlink.md). -/
def NIM_PORT_STATUS (p : Nat) : Nat := 0x100100 + p * 0x40
def NIM_PORT_STATUS_STATE (p : Nat) : Fld := ⟨NIM_PORT_STATUS p, 28, 4⟩
def NIM_PORT_STATUS_LV (p : Nat) : Fld := ⟨NIM_PORT_STATUS p, 26, 2⟩
def NIM_PORT_STATUS_LANES1 (p : Nat) : Fld := ⟨NIM_PORT_STATUS p, 25, 1⟩
def NIM_PORT_STATUS_INRING (p : Nat) : Fld := ⟨NIM_PORT_STATUS p, 24, 1⟩
def NIM_PORT_STATUS_PEERDEV (p : Nat) : Fld := ⟨NIM_PORT_STATUS p, 20, 4⟩
def NIM_PORT_STATUS_PEERPORT (p : Nat) : Fld := ⟨NIM_PORT_STATUS p, 18, 2⟩
/-- NIM.PORT_TXBYTES (64 bits, spec/16_nimlink.md). -/
def NIM_PORT_TXBYTES (p : Nat) : Nat := 0x100108 + p * 0x40
def NIM_PORT_TXBYTES_COUNT (p : Nat) : Fld := ⟨NIM_PORT_TXBYTES p, 0, 64⟩
/-- NIM.PORT_RXBYTES (64 bits, spec/16_nimlink.md). -/
def NIM_PORT_RXBYTES (p : Nat) : Nat := 0x100110 + p * 0x40
def NIM_PORT_RXBYTES_COUNT (p : Nat) : Fld := ⟨NIM_PORT_RXBYTES p, 0, 64⟩
/-- NIM.PORT_ERR (64 bits, spec/16_nimlink.md). -/
def NIM_PORT_ERR (p : Nat) : Nat := 0x100118 + p * 0x40
def NIM_PORT_ERR_REPLAY (p : Nat) : Fld := ⟨NIM_PORT_ERR p, 48, 16⟩
def NIM_PORT_ERR_DROPPED (p : Nat) : Fld := ⟨NIM_PORT_ERR p, 32, 16⟩
def NIM_PORT_ERR_FLAPS (p : Nat) : Fld := ⟨NIM_PORT_ERR p, 16, 16⟩
def NIM_PORT_ERR_FUNOSUM (p : Nat) : Fld := ⟨NIM_PORT_ERR p, 0, 16⟩
/-- NIM.PORT_PEERID (64 bits, spec/16_nimlink.md). -/
def NIM_PORT_PEERID (p : Nat) : Nat := 0x100120 + p * 0x40
def NIM_PORT_PEERID_ID (p : Nat) : Fld := ⟨NIM_PORT_PEERID p, 0, 64⟩
/-- NIM.MEMBER_ID (64 bits, spec/16_nimlink.md). -/
def NIM_MEMBER_ID (d : Nat) : Nat := 0x100400 + d * 0x10
def NIM_MEMBER_ID_ID (d : Nat) : Fld := ⟨NIM_MEMBER_ID d, 0, 64⟩
/-- NIM.MEMBER_STATE (32 bits, spec/16_nimlink.md). -/
def NIM_MEMBER_STATE (d : Nat) : Nat := 0x100408 + d * 0x10
def NIM_MEMBER_STATE_EPOCH (d : Nat) : Fld := ⟨NIM_MEMBER_STATE d, 24, 8⟩
def NIM_MEMBER_STATE_MAXVER (d : Nat) : Fld := ⟨NIM_MEMBER_STATE d, 20, 4⟩
def NIM_MEMBER_STATE_PRESENT (d : Nat) : Fld := ⟨NIM_MEMBER_STATE d, 19, 1⟩
def NIM_MEMBER_STATE_TRIPPED (d : Nat) : Fld := ⟨NIM_MEMBER_STATE d, 18, 1⟩
/-- NIM.DUP (64 bits, spec/16_nimlink.md). -/
def NIM_DUP (r : Nat) : Nat := 0x100800 + r * 0x8
def NIM_DUP_VALID (r : Nat) : Fld := ⟨NIM_DUP r, 63, 1⟩
def NIM_DUP_PRIMARY (r : Nat) : Fld := ⟨NIM_DUP r, 59, 4⟩
def NIM_DUP_STANDBY (r : Nat) : Fld := ⟨NIM_DUP r, 55, 4⟩
def NIM_DUP_ACTIVE (r : Nat) : Fld := ⟨NIM_DUP r, 54, 1⟩
def NIM_DUP_LATECLAIM (r : Nat) : Fld := ⟨NIM_DUP r, 32, 16⟩
def NIM_DUP_LASTCLAIM (r : Nat) : Fld := ⟨NIM_DUP r, 0, 32⟩
/-- KEEP.STATUS (32 bits, spec/17_keep_security.md). -/
def KEEP_STATUS : Nat := 0x60000
def KEEP_STATUS_LCS : Fld := ⟨KEEP_STATUS, 28, 4⟩
def KEEP_STATUS_UDS_LOCKED : Fld := ⟨KEEP_STATUS, 27, 1⟩
def KEEP_STATUS_RNG_READY : Fld := ⟨KEEP_STATUS, 26, 1⟩
def KEEP_STATUS_RNG_FAIL : Fld := ⟨KEEP_STATUS, 25, 1⟩
def KEEP_STATUS_SCRUBBING : Fld := ⟨KEEP_STATUS, 24, 1⟩
def KEEP_STATUS_SCRUBSTEP : Fld := ⟨KEEP_STATUS, 21, 3⟩
def KEEP_STATUS_SESSIONS : Fld := ⟨KEEP_STATUS, 16, 5⟩
def KEEP_STATUS_BUNDLES : Fld := ⟨KEEP_STATUS, 8, 8⟩
def KEEP_STATUS_KEYSLOTS : Fld := ⟨KEEP_STATUS, 4, 4⟩
/-- KEEP.MEASGEN (32 bits, spec/17_keep_security.md). -/
def KEEP_MEASGEN : Nat := 0x60004
def KEEP_MEASGEN_GEN : Fld := ⟨KEEP_MEASGEN, 0, 32⟩
/-- KEEP.IDENT_ROLLID (64 bits, spec/17_keep_security.md). -/
def KEEP_IDENT_ROLLID : Nat := 0x60008
def KEEP_IDENT_ROLLID_V : Fld := ⟨KEEP_IDENT_ROLLID, 0, 64⟩
/-- KEEP.IDENT_BUNDLEID_LO (64 bits, spec/17_keep_security.md). -/
def KEEP_IDENT_BUNDLEID_LO : Nat := 0x60010
def KEEP_IDENT_BUNDLEID_LO_V : Fld := ⟨KEEP_IDENT_BUNDLEID_LO, 0, 64⟩
/-- KEEP.IDENT_BUNDLEID_HI (64 bits, spec/17_keep_security.md). -/
def KEEP_IDENT_BUNDLEID_HI : Nat := 0x60018
def KEEP_IDENT_BUNDLEID_HI_V : Fld := ⟨KEEP_IDENT_BUNDLEID_HI, 0, 64⟩
/-- KEEP.TENANT (32 bits, spec/17_keep_security.md). -/
def KEEP_TENANT (k : Nat) : Nat := 0x60020 + k * 0x4
def KEEP_TENANT_ID (k : Nat) : Fld := ⟨KEEP_TENANT k, 0, 32⟩
/-- KEEP.RNGSTAT (64 bits, spec/17_keep_security.md). -/
def KEEP_RNGSTAT : Nat := 0x60030
def KEEP_RNGSTAT_RCT_FAIL : Fld := ⟨KEEP_RNGSTAT, 48, 16⟩
def KEEP_RNGSTAT_APT_FAIL : Fld := ⟨KEEP_RNGSTAT, 32, 16⟩
def KEEP_RNGSTAT_NOTREADY : Fld := ⟨KEEP_RNGSTAT, 16, 16⟩
def KEEP_RNGSTAT_RESEEDS : Fld := ⟨KEEP_RNGSTAT, 0, 16⟩
/-- KEEP.SCRUBTIME (64 bits, spec/17_keep_security.md). -/
def KEEP_SCRUBTIME : Nat := 0x60038
def KEEP_SCRUBTIME_TOTAL : Fld := ⟨KEEP_SCRUBTIME, 32, 32⟩
def KEEP_SCRUBTIME_DRAM : Fld := ⟨KEEP_SCRUBTIME, 0, 32⟩
/-- KEEP.BSLOT (64 bits, spec/17_keep_security.md). -/
def KEEP_BSLOT (b : Nat) : Nat := 0x60100 + b * 0x8
def KEEP_BSLOT_VALID (b : Nat) : Fld := ⟨KEEP_BSLOT b, 63, 1⟩
def KEEP_BSLOT_CLASS (b : Nat) : Fld := ⟨KEEP_BSLOT b, 61, 2⟩
def KEEP_BSLOT_HANDLE (b : Nat) : Fld := ⟨KEEP_BSLOT b, 0, 32⟩
/-- PCIEA.F_FSTATUS (32 bits, spec/18_host_interface.md). -/
def PCIEA_F_FSTATUS (f : Nat) : Nat := 0xc1000 + f * 0x400
def PCIEA_F_FSTATUS_VERSION (f : Nat) : Fld := ⟨PCIEA_F_FSTATUS f, 24, 8⟩
/-- PCIEA.F_SQBASE (64 bits, spec/18_host_interface.md). -/
def PCIEA_F_SQBASE (f : Nat) : Nat := 0xc1008 + f * 0x400
def PCIEA_F_SQBASE_ADDR (f : Nat) : Fld := ⟨PCIEA_F_SQBASE f, 0, 64⟩
/-- PCIEA.F_CQBASE (64 bits, spec/18_host_interface.md). -/
def PCIEA_F_CQBASE (f : Nat) : Nat := 0xc1010 + f * 0x400
def PCIEA_F_CQBASE_ADDR (f : Nat) : Fld := ⟨PCIEA_F_CQBASE f, 0, 64⟩
/-- PCIEA.F_QCFG (32 bits, spec/18_host_interface.md). -/
def PCIEA_F_QCFG (f : Nat) : Nat := 0xc1018 + f * 0x400
def PCIEA_F_QCFG_EN (f : Nat) : Fld := ⟨PCIEA_F_QCFG f, 31, 1⟩
def PCIEA_F_QCFG_SQLOG (f : Nat) : Fld := ⟨PCIEA_F_QCFG f, 20, 4⟩
def PCIEA_F_QCFG_CQLOG (f : Nat) : Fld := ⟨PCIEA_F_QCFG f, 16, 4⟩
def PCIEA_F_QCFG_MODCNT (f : Nat) : Fld := ⟨PCIEA_F_QCFG f, 8, 8⟩
def PCIEA_F_QCFG_MODUS (f : Nat) : Fld := ⟨PCIEA_F_QCFG f, 0, 8⟩
/-- PCIEA.F_SQTAIL (32 bits, spec/18_host_interface.md). -/
def PCIEA_F_SQTAIL (f : Nat) : Nat := 0xc101c + f * 0x400
def PCIEA_F_SQTAIL_TAIL (f : Nat) : Fld := ⟨PCIEA_F_SQTAIL f, 0, 12⟩
/-- PCIEA.F_CQHEAD (32 bits, spec/18_host_interface.md). -/
def PCIEA_F_CQHEAD (f : Nat) : Nat := 0xc1020 + f * 0x400
def PCIEA_F_CQHEAD_HEAD (f : Nat) : Fld := ⟨PCIEA_F_CQHEAD f, 0, 12⟩
/-- PCIEA.F_VRBASE (64 bits, spec/18_host_interface.md). -/
def PCIEA_F_VRBASE (f : Nat) : Nat := 0xc1028 + f * 0x400
def PCIEA_F_VRBASE_ADDR (f : Nat) : Fld := ⟨PCIEA_F_VRBASE f, 0, 64⟩
/-- PCIEA.F_VRCFG (32 bits, spec/18_host_interface.md). -/
def PCIEA_F_VRCFG (f : Nat) : Nat := 0xc1030 + f * 0x400
def PCIEA_F_VRCFG_EN (f : Nat) : Fld := ⟨PCIEA_F_VRCFG f, 31, 1⟩
def PCIEA_F_VRCFG_VRLOG (f : Nat) : Fld := ⟨PCIEA_F_VRCFG f, 24, 4⟩
/-- PCIEA.F_VRSHADOW (64 bits, spec/18_host_interface.md). -/
def PCIEA_F_VRSHADOW (f : Nat) : Nat := 0xc1038 + f * 0x400
def PCIEA_F_VRSHADOW_ADDR (f : Nat) : Fld := ⟨PCIEA_F_VRSHADOW f, 0, 64⟩
/-- PCIEA.F_VRHEAD (32 bits, spec/18_host_interface.md). -/
def PCIEA_F_VRHEAD (f : Nat) : Nat := 0xc1040 + f * 0x400
def PCIEA_F_VRHEAD_HEAD (f : Nat) : Fld := ⟨PCIEA_F_VRHEAD f, 0, 32⟩
/-- PCIEA.F_LOST (32 bits, spec/18_host_interface.md). -/
def PCIEA_F_LOST (f : Nat) : Nat := 0xc1044 + f * 0x400
def PCIEA_F_LOST_VRLOST (f : Nat) : Fld := ⟨PCIEA_F_LOST f, 16, 16⟩
def PCIEA_F_LOST_EVTLOST (f : Nat) : Fld := ⟨PCIEA_F_LOST f, 0, 16⟩
/-- PCIEA.F_FATE (32 bits, spec/18_host_interface.md). -/
def PCIEA_F_FATE (f i : Nat) : Nat := 0xc1080 + f * 0x400 + i * 0x4
def PCIEA_F_FATE_COUNT (f i : Nat) : Fld := ⟨PCIEA_F_FATE f i, 0, 32⟩
/-- PCIEA.F_BUSY (64 bits, spec/18_host_interface.md). -/
def PCIEA_F_BUSY (f : Nat) : Nat := 0xc10c0 + f * 0x400
def PCIEA_F_BUSY_CYCLES (f : Nat) : Fld := ⟨PCIEA_F_BUSY f, 0, 64⟩
/-- PCIEA.F_BYTES (64 bits, spec/18_host_interface.md). -/
def PCIEA_F_BYTES (f : Nat) : Nat := 0xc10c8 + f * 0x400
def PCIEA_F_BYTES_COUNT (f : Nat) : Fld := ⟨PCIEA_F_BYTES f, 0, 64⟩
/-- PCIE.P_PORTSTAT (32 bits, spec/18_host_interface.md). -/
def PCIE_P_PORTSTAT (p : Nat) : Nat := 0xc0000 + p * 0x10000
def PCIE_P_PORTSTAT_UP (p : Nat) : Fld := ⟨PCIE_P_PORTSTAT p, 31, 1⟩
def PCIE_P_PORTSTAT_SPEED (p : Nat) : Fld := ⟨PCIE_P_PORTSTAT p, 28, 3⟩
def PCIE_P_PORTSTAT_WIDTH (p : Nat) : Fld := ⟨PCIE_P_PORTSTAT p, 24, 4⟩
def PCIE_P_PORTSTAT_IDE (p : Nat) : Fld := ⟨PCIE_P_PORTSTAT p, 23, 1⟩
def PCIE_P_PORTSTAT_HANDED (p : Nat) : Fld := ⟨PCIE_P_PORTSTAT p, 22, 1⟩
def PCIE_P_PORTSTAT_EPOCH (p : Nat) : Fld := ⟨PCIE_P_PORTSTAT p, 0, 16⟩
/-- PCIE.P_OBBASE (64 bits, spec/18_host_interface.md). -/
def PCIE_P_OBBASE (p : Nat) : Nat := 0xc0008 + p * 0x10000
def PCIE_P_OBBASE_BASE (p : Nat) : Fld := ⟨PCIE_P_OBBASE p, 37, 27⟩
/-- PCIE.P_INBOXBASE (64 bits, spec/18_host_interface.md). -/
def PCIE_P_INBOXBASE (p : Nat) : Nat := 0xc0010 + p * 0x10000
def PCIE_P_INBOXBASE_BASE (p : Nat) : Fld := ⟨PCIE_P_INBOXBASE p, 33, 31⟩
/-- PCIE.P_CPLTO (32 bits, spec/18_host_interface.md). -/
def PCIE_P_CPLTO (p : Nat) : Nat := 0xc0018 + p * 0x10000
def PCIE_P_CPLTO_MS (p : Nat) : Fld := ⟨PCIE_P_CPLTO p, 0, 16⟩
/-- PCIE.P_HANDOVER (32 bits, spec/18_host_interface.md). -/
def PCIE_P_HANDOVER (p : Nat) : Nat := 0xc001c + p * 0x10000
def PCIE_P_HANDOVER_EN (p : Nat) : Fld := ⟨PCIE_P_HANDOVER p, 0, 1⟩
/-- NVM.STATUS (32 bits, spec/19_settings_store.md). -/
def NVM_STATUS : Nat := 0x70000
def NVM_STATUS_RO : Fld := ⟨NVM_STATUS, 31, 1⟩
def NVM_STATUS_FALLBACK : Fld := ⟨NVM_STATUS, 30, 1⟩
def NVM_STATUS_BUSY : Fld := ⟨NVM_STATUS, 29, 1⟩
def NVM_STATUS_SPARES : Fld := ⟨NVM_STATUS, 26, 3⟩
def NVM_STATUS_INFORCE : Fld := ⟨NVM_STATUS, 24, 2⟩
/-- NVM.BANKA (64 bits, spec/19_settings_store.md). -/
def NVM_BANKA : Nat := 0x70008
def NVM_BANKA_GEN : Fld := ⟨NVM_BANKA, 32, 32⟩
def NVM_BANKA_SLOT : Fld := ⟨NVM_BANKA, 28, 4⟩
def NVM_BANKA_GOOD : Fld := ⟨NVM_BANKA, 27, 1⟩
def NVM_BANKA_WEAR : Fld := ⟨NVM_BANKA, 0, 20⟩
/-- NVM.BANKB (64 bits, spec/19_settings_store.md). -/
def NVM_BANKB : Nat := 0x70010
def NVM_BANKB_GEN : Fld := ⟨NVM_BANKB, 32, 32⟩
def NVM_BANKB_SLOT : Fld := ⟨NVM_BANKB, 28, 4⟩
def NVM_BANKB_GOOD : Fld := ⟨NVM_BANKB, 27, 1⟩
def NVM_BANKB_WEAR : Fld := ⟨NVM_BANKB, 0, 20⟩
/-- NVM.VALID (32 bits, spec/19_settings_store.md). -/
def NVM_VALID : Nat := 0x70018
def NVM_VALID_CODE_B : Fld := ⟨NVM_VALID, 8, 8⟩
def NVM_VALID_CODE_A : Fld := ⟨NVM_VALID, 0, 8⟩
/-- NVM.SLOT (32 bits, spec/19_settings_store.md). -/
def NVM_SLOT (s : Nat) : Nat := 0x70020 + s * 0x4
def NVM_SLOT_RETIRED (s : Nat) : Fld := ⟨NVM_SLOT s, 31, 1⟩
def NVM_SLOT_WRITES (s : Nat) : Fld := ⟨NVM_SLOT s, 0, 20⟩
/-- NVM.LOGSEQ (32 bits, spec/19_settings_store.md). -/
def NVM_LOGSEQ : Nat := 0x70040
def NVM_LOGSEQ_SEQ : Fld := ⟨NVM_LOGSEQ, 0, 32⟩
/-- NVM.CTR (32 bits, spec/19_settings_store.md). -/
def NVM_CTR (k : Nat) : Nat := 0x70100 + k * 0x4
def NVM_CTR_VALUE (k : Nat) : Fld := ⟨NVM_CTR k, 0, 32⟩
/-- PWR.CFG (64 bits, spec/20_power_debug.md). -/
def PWR_CFG : Nat := 0x110000
def PWR_CFG_POOL : Fld := ⟨PWR_CFG, 48, 16⟩
def PWR_CFG_C0_RESERVE : Fld := ⟨PWR_CFG, 32, 16⟩
def PWR_CFG_PKG_LIMIT : Fld := ⟨PWR_CFG, 16, 16⟩
def PWR_CFG_TJ_THROTTLE : Fld := ⟨PWR_CFG, 8, 8⟩
/-- PWR.STATUS (64 bits, spec/20_power_debug.md). -/
def PWR_STATUS : Nat := 0x110008
def PWR_STATUS_LIVE : Fld := ⟨PWR_STATUS, 48, 16⟩
def PWR_STATUS_FREE : Fld := ⟨PWR_STATUS, 32, 16⟩
def PWR_STATUS_PKG : Fld := ⟨PWR_STATUS, 16, 16⟩
def PWR_STATUS_TJ : Fld := ⟨PWR_STATUS, 8, 8⟩
def PWR_STATUS_STALE : Fld := ⟨PWR_STATUS, 2, 1⟩
def PWR_STATUS_THROTTLE_C0 : Fld := ⟨PWR_STATUS, 1, 1⟩
def PWR_STATUS_THROTTLING : Fld := ⟨PWR_STATUS, 0, 1⟩
/-- PWR.DOMON0 (64 bits, spec/20_power_debug.md). -/
def PWR_DOMON0 : Nat := 0x110010
def PWR_DOMON0_ON : Fld := ⟨PWR_DOMON0, 0, 64⟩
/-- PWR.DOMON1 (64 bits, spec/20_power_debug.md). -/
def PWR_DOMON1 : Nat := 0x110018
def PWR_DOMON1_ON : Fld := ⟨PWR_DOMON1, 0, 64⟩
/-- PWR.WAITC1 (64 bits, spec/20_power_debug.md). -/
def PWR_WAITC1 : Nat := 0x110020
def PWR_WAITC1_CYCLES : Fld := ⟨PWR_WAITC1, 0, 64⟩
/-- PWR.WAITC2 (64 bits, spec/20_power_debug.md). -/
def PWR_WAITC2 : Nat := 0x110028
def PWR_WAITC2_CYCLES : Fld := ⟨PWR_WAITC2, 0, 64⟩
/-- PWR.RAIL (32 bits, spec/20_power_debug.md). -/
def PWR_RAIL (r : Nat) : Nat := 0x110100 + r * 0x4
def PWR_RAIL_MV (r : Nat) : Fld := ⟨PWR_RAIL r, 16, 16⟩
def PWR_RAIL_MA (r : Nat) : Fld := ⟨PWR_RAIL r, 0, 16⟩
/-- DBG.STATUS (32 bits, spec/20_power_debug.md). -/
def DBG_STATUS : Nat := 0x120000
def DBG_STATUS_ATTACHED : Fld := ⟨DBG_STATUS, 31, 1⟩
def DBG_STATUS_LCS : Fld := ⟨DBG_STATUS, 27, 4⟩
def DBG_STATUS_ALLOWED : Fld := ⟨DBG_STATUS, 18, 9⟩
def DBG_STATUS_HALTED : Fld := ⟨DBG_STATUS, 0, 16⟩
/-- DBG.CTRL (32 bits, spec/20_power_debug.md). -/
def DBG_CTRL : Nat := 0x120004
def DBG_CTRL_ATTACH : Fld := ⟨DBG_CTRL, 31, 1⟩
def DBG_CTRL_CLASS : Fld := ⟨DBG_CTRL, 29, 2⟩
/-- DBG.ATTACHCNT (32 bits, spec/20_power_debug.md). -/
def DBG_ATTACHCNT : Nat := 0x120008
def DBG_ATTACHCNT_COUNT : Fld := ⟨DBG_ATTACHCNT, 0, 32⟩
/-- DBG.TRACECFG (32 bits, spec/20_power_debug.md). -/
def DBG_TRACECFG : Nat := 0x120010
def DBG_TRACECFG_CORES : Fld := ⟨DBG_TRACECFG, 0, 16⟩
/-- DBG.TRACESTAT (32 bits, spec/20_power_debug.md). -/
def DBG_TRACESTAT : Nat := 0x120014
def DBG_TRACESTAT_LOST : Fld := ⟨DBG_TRACESTAT, 0, 32⟩
/-- DBG.INJ (32 bits, spec/20_power_debug.md). -/
def DBG_INJ : Nat := 0x120018
def DBG_INJ_UNIT : Fld := ⟨DBG_INJ, 8, 8⟩
def DBG_INJ_LINE : Fld := ⟨DBG_INJ, 0, 8⟩
/-- DBG.INJADDR (64 bits, spec/20_power_debug.md). -/
def DBG_INJADDR : Nat := 0x120020
def DBG_INJADDR_ADDR : Fld := ⟨DBG_INJADDR, 6, 34⟩
/-- DBG.INJCNT (32 bits, spec/20_power_debug.md). -/
def DBG_INJCNT : Nat := 0x120028
def DBG_INJCNT_COUNT : Fld := ⟨DBG_INJCNT, 0, 32⟩

end R

end Sys2Proof.Machine
end

