-- ==== Sys2Proof/Machine/RegTable.lean ====
section
/-! DEFINITION. The register tables of spec/ as data: every register of the control window with its page, offset,
instances, width and fields (access type R19, value of the Reset column R18, and what resets it: R787). A field whose
Reset column says "loaded" holds 0 until SET_OK loads it (log entry 1); "fuse" and "strap" fields hold the CHC-4860's
values (log entry 2); a "retained" value of the settings store or of the Reeve holds its delivery value (log entry 3). -/
namespace Sys2Proof.Machine

/-- The access types of R19. -/
inductive Access where
  | ro | rw | rwl | w1c | w1s | wo | rws
deriving DecidableEq, Repr

/-- What returns a field to its reset value: every reset of the Verifier (`none`), cold reset only (`cold`, R787), cold reset and a
Verifier power loss only (`rws`, R19), or no reset at all (`never`: R581, R760, the fuses of R6 and the straps, which are
sampled anew instead, R79). -/
inductive Keep where
  | none | cold | rws | never
deriving DecidableEq, Repr

/-- One row of a register table: a field. -/
structure FieldRow where
  name : String
  lo : Nat
  w : Nat
  acc : Access
  reset : Nat
  keep : Keep
deriving DecidableEq, Repr

/-- One register: its name, its offset in its page, its instances as (stride, count) from the outermost index in, its
width, and its fields. -/
structure RegRow where
  name : String
  off : Nat
  levels : List (Nat × Nat)
  wide : Bool
  fields : List FieldRow
deriving DecidableEq, Repr

/-- The row of one field. -/
def fr (name : String) (lo w : Nat) (acc : Access) (reset : Nat := 0) (keep : Keep := .none) : FieldRow :=
  ⟨name, lo, w, acc, reset, keep⟩

/-- The registers of the DEVICE page. -/
def rowsDEVICE : List RegRow :=
  [ ⟨"CAPS", 0x8, [], false,
      [fr "VARIANT" 24 8 .ro 0x60 .never,
       fr "DISPTAP" 18 1 .ro 0x1 .never,
       fr "PCIEB" 17 1 .ro 0x1 .never,
       fr "NIMLINK" 16 1 .ro 0x1 .never,
       fr "CORE_MASK" 0 16 .ro 0xffff .never]⟩,
    ⟨"ACCERR", 0x40, [], true,
      [fr "LOCKED_WRITE" 63 1 .w1c 0x0 .cold,
       fr "MASTER" 48 8 .ro 0x0 .cold,
       fr "COUNT" 40 8 .ro 0x0 .cold,
       fr "ADDR" 0 40 .ro 0x0 .cold]⟩,
    ⟨"STRAPS", 0xc, [], false,
      [fr "QSPI_MODE" 1 1 .ro 0x0 .never,
       fr "PEB_ROLE" 0 1 .ro 0x0 .never]⟩,
    ⟨"CLKSTAT", 0x10, [], false,
      [fr "CRPLL_LOCK" 14 1 .ro,
       fr "X32K_FALLBACK" 13 1 .ro,
       fr "X32K_LOST" 12 1 .w1c,
       fr "RXTAL_WARN" 11 1 .w1c,
       fr "TCXO_WARN" 10 1 .w1c,
       fr "REFCLKB_LOST" 9 1 .w1c,
       fr "REFCLKA_LOST" 8 1 .w1c,
       fr "PLL_LOCK" 0 8 .ro]⟩,
    ⟨"STATE", 0x20, [], false,
      [fr "DEV_EPOCH" 24 8 .ro 0x0 .cold,
       fr "PCIE_BOTH_DOWN" 19 1 .ro,
       fr "GRACE" 18 1 .ro,
       fr "INVALID" 17 1 .ro 0x1,
       fr "LOST" 8 8 .ro,
       fr "PREV" 4 4 .ro,
       fr "STATE" 0 4 .ro 0x1]⟩,
    ⟨"BOOTSTAT", 0x30, [], false,
      [fr "FAIL_CODE" 24 8 .ro,
       fr "SLOT" 15 1 .ro,
       fr "MAILBOX" 14 1 .ro,
       fr "STEP" 0 8 .ro]⟩,
    ⟨"CORESTATE", 0x28, [], true,
      [fr "CORE15" 60 4 .ro,
       fr "CORE14" 56 4 .ro,
       fr "CORE13" 52 4 .ro,
       fr "CORE12" 48 4 .ro,
       fr "CORE11" 44 4 .ro,
       fr "CORE10" 40 4 .ro,
       fr "CORE9" 36 4 .ro,
       fr "CORE8" 32 4 .ro,
       fr "CORE7" 28 4 .ro,
       fr "CORE6" 24 4 .ro,
       fr "CORE5" 20 4 .ro,
       fr "CORE4" 16 4 .ro,
       fr "CORE3" 12 4 .ro,
       fr "CORE2" 8 4 .ro,
       fr "CORE1" 4 4 .ro,
       fr "CORE0" 0 4 .ro]⟩,
    ⟨"RESETCAUSE", 0x24, [], false,
      [fr "WARM_COUNT" 24 8 .rws 0x0 .rws,
       fr "CAUSE" 8 8 .rws 0x1 .rws,
       fr "KIND" 0 4 .rws 0x1 .rws]⟩,
    ⟨"RESETCMD", 0x34, [], false,
      [fr "KEY" 16 16 .wo,
       fr "KIND" 8 4 .wo,
       fr "CORE" 0 4 .wo]⟩ ]

/-- The registers of the CORE page. -/
def rowsCORE : List RegRow :=
  [ ⟨"EPOCH", 0x10, [], false,
      [fr "LAST_CAUSE" 24 8 .ro,
       fr "RESTARTS" 16 8 .ro 0x0 .cold,
       fr "EPOCH" 0 16 .ro 0x1]⟩,
    ⟨"MEMSTAT", 0x20, [], false,
      [fr "SP_CORR" 16 16 .ro 0x0 .cold,
       fr "SP_UNCORR" 8 8 .ro 0x0 .cold,
       fr "CACHE_PAR" 0 8 .ro 0x0 .cold]⟩,
    ⟨"TAGUSE", 0x28, [], true,
      [fr "TOTAL" 48 9 .ro,
       fr "STEWARD" 40 8 .ro,
       fr "TENSOR" 32 8 .ro,
       fr "VECTOR" 24 8 .ro,
       fr "RESIDUE" 16 8 .ro,
       fr "COMPARE" 8 8 .ro,
       fr "MOVER" 0 8 .ro]⟩,
    ⟨"ENGFLAG", 0x30, [], false,
      [fr "RES_UNDERFLOW" 11 1 .w1c,
       fr "RES_OVERFLOW" 10 1 .w1c,
       fr "RES_INVALID" 9 1 .w1c,
       fr "RES_WRAP" 8 1 .w1c,
       fr "VEC_UNDERFLOW" 7 1 .w1c,
       fr "VEC_OVERFLOW" 6 1 .w1c,
       fr "VEC_INVALID" 5 1 .w1c,
       fr "VEC_WRAP" 4 1 .w1c,
       fr "TEN_UNDERFLOW" 3 1 .w1c,
       fr "TEN_OVERFLOW" 2 1 .w1c,
       fr "TEN_INVALID" 1 1 .w1c,
       fr "TEN_WRAP" 0 1 .w1c]⟩,
    ⟨"PAIRSTAT", 0x40, [], false,
      [fr "MISMATCH" 24 8 .ro 0x0 .cold,
       fr "SIGMA" 16 5 .ro,
       fr "RHOV" 8 6 .ro,
       fr "RHOT" 3 5 .ro,
       fr "FORCE" 2 1 .wo,
       fr "PASS2" 1 1 .ro,
       fr "ACTIVE" 0 1 .ro]⟩,
    ⟨"GOLDCFG", 0x44, [], false,
      [fr "LINE" 16 16 .ro,
       fr "SPARE" 1 1 .ro,
       fr "REQUIRED" 0 1 .ro]⟩,
    ⟨"GOLDSTAT", 0x48, [], true,
      [fr "FRAME" 32 32 .ro,
       fr "FAILS" 24 8 .ro 0x0 .cold,
       fr "DURATION" 16 8 .ro,
       fr "ENGINES" 8 6 .ro,
       fr "VARIANT" 5 3 .ro,
       fr "OK" 0 1 .ro]⟩,
    ⟨"INJSTAT", 0x50, [], false,
      [fr "FLAGGED" 16 8 .ro,
       fr "MISSED" 8 8 .ro,
       fr "RAN" 2 1 .ro,
       fr "CTRL_FAIL" 1 1 .ro,
       fr "PASS" 0 1 .ro]⟩,
    ⟨"SLOTCFG", 0x60, [], false,
      [fr "COUNT" 0 6 .rwl]⟩,
    ⟨"SLOT", 0x400, [(0x8, 32)], true,
      [fr "START" 48 16 .rwl,
       fr "LENGTH" 32 16 .rwl,
       fr "CLASS" 30 2 .rwl,
       fr "PASS2" 29 1 .rwl,
       fr "VALID" 28 1 .rwl,
       fr "PROG" 16 8 .rwl]⟩,
    ⟨"BELLCFG", 0x80, [], false,
      [fr "DL_WINDOW" 0 16 .rw]⟩,
    ⟨"BELLSTAT", 0x88, [], true,
      [fr "STALE_DROP" 48 16 .ro,
       fr "DISCARDED" 32 16 .ro,
       fr "MARKERS" 20 12 .ro,
       fr "PDEPTH" 17 3 .ro,
       fr "WATCHES" 12 5 .ro,
       fr "LENT" 6 6 .ro]⟩,
    ⟨"BELLGEN", 0x84, [], false,
      [fr "CTXGEN" 0 8 .ro]⟩,
    ⟨"BELLERR", 0x90, [], true,
      [fr "VALID" 63 1 .w1c,
       fr "REMOTE" 62 1 .ro,
       fr "STATUS" 48 8 .ro,
       fr "SOURCE" 45 3 .ro,
       fr "CTX" 40 2 .ro,
       fr "OBJ" 32 8 .ro,
       fr "COUNT" 16 16 .ro,
       fr "VID" 0 16 .ro]⟩,
    ⟨"DRIFT", 0x98, [], true,
      [fr "LAST" 32 32 .ro,
       fr "OBJ" 24 8 .ro,
       fr "COUNT" 0 24 .w1c]⟩,
    ⟨"DLSTAT", 0xa0, [], true,
      [fr "VALID" 63 1 .w1c,
       fr "STILL" 62 1 .ro,
       fr "SCOPE" 61 1 .ro,
       fr "ASLEEP" 42 6 .ro,
       fr "HALTED" 36 6 .ro,
       fr "BLOCKED" 30 6 .ro,
       fr "ELAPSED" 0 30 .ro]⟩,
    ⟨"DLWAIT", 0xa8, [(0x8, 6)], true,
      [fr "VALUE" 32 32 .ro,
       fr "OBJ" 24 8 .ro,
       fr "BARRIER" 23 1 .ro,
       fr "COND" 20 3 .ro,
       fr "THRESH" 0 20 .ro]⟩,
    ⟨"MBOX", 0xe0, [(0x8, 8)], true,
      [fr "VALID" 63 1 .rw,
       fr "OWNER" 61 2 .rw,
       fr "RXREMOTE" 60 1 .rw,
       fr "OBJ" 48 8 .rw,
       fr "WIDX" 36 10 .ro,
       fr "DEPTHLOG" 32 4 .rw 0x3,
       fr "BASE" 0 21 .rw]⟩,
    ⟨"SOBJ", 0x1000, [(0x4, 256)], false,
      [fr "VALUE" 0 32 .ro]⟩,
    ⟨"SOBJCFG", 0x1800, [(0x8, 256)], true,
      [fr "LIMIT" 32 32 .rw 0xffffffff,
       fr "BASE" 16 16 .rw,
       fr "SRC" 11 5 .rw,
       fr "EXT" 10 1 .rw,
       fr "ALIGN" 9 1 .rw,
       fr "PRIV" 8 1 .rw,
       fr "OWNER" 6 2 .rw,
       fr "MAPPED" 0 1 .ro]⟩,
    ⟨"VMAP", 0x2000, [(0x1000, 4), (0x4, 1024)], false,
      [fr "VALID" 31 1 .rw,
       fr "PHYS" 0 8 .rw]⟩,
    ⟨"WMCFG", 0x68, [], true,
      [fr "EN" 63 1 .rwl,
       fr "WARN" 32 16 .rwl,
       fr "WMIN" 16 16 .rwl,
       fr "WMAX" 0 16 .rwl]⟩,
    ⟨"WMSTAT", 0x70, [], false,
      [fr "ELAPSED" 16 16 .ro,
       fr "TOKEN" 0 16 .ro 0xace1]⟩,
    ⟨"WMCNT", 0x74, [], false,
      [fr "EXPIRIES" 24 8 .ro 0x0 .cold]⟩,
    ⟨"STSTAT", 0x78, [], false,
      [fr "PASSES" 16 16 .ro,
       fr "FAILS" 8 8 .ro,
       fr "CURRENT" 4 4 .ro]⟩ ]

/-- The registers of the MEMC page. -/
def rowsMEMC : List RegRow :=
  [ ⟨"STATUS", 0x0, [], false,
      [fr "CH_UP" 24 8 .ro,
       fr "CONTENT_LOST" 16 8 .w1c,
       fr "CH_FAILED" 8 8 .ro,
       fr "REBUILDING" 4 1 .ro,
       fr "REBUILD_CH" 0 4 .ro]⟩,
    ⟨"LOCK", 0x4, [], false,
      [fr "LOCK" 0 1 .w1s]⟩,
    ⟨"SCRUB", 0x8, [], false,
      [fr "REBUILD_SHARE" 16 8 .rwl,
       fr "INTERVAL" 0 8 .rwl]⟩,
    ⟨"ERRADDR", 0x10, [], true,
      [fr "VALID" 63 1 .w1c,
       fr "UNCORR" 62 1 .ro,
       fr "CHANNEL" 48 4 .ro,
       fr "ADDR" 6 34 .ro]⟩,
    ⟨"CHERR", 0x20, [(0x4, 8)], false,
      [fr "CORR" 16 16 .ro 0x0 .cold,
       fr "UNCORR" 8 8 .ro 0x0 .cold,
       fr "RETRAIN" 4 4 .ro 0x0 .cold]⟩,
    ⟨"RGN", 0x100, [(0x8, 16)], true,
      [fr "VALID" 63 1 .rwl,
       fr "MIRROR" 62 1 .rwl,
       fr "CRYPT" 61 1 .rwl,
       fr "KEYSLOT" 59 2 .rwl,
       fr "SIZE" 32 13 .rwl,
       fr "BASE" 0 13 .rwl]⟩ ]

/-- The registers of the POND page. -/
def rowsPOND : List RegRow :=
  [ ⟨"STATUS", 0x0, [], false,
      [fr "CORR" 16 16 .ro 0x0 .cold,
       fr "UNCORR" 8 8 .ro 0x0 .cold,
       fr "POISONED" 0 8 .ro]⟩ ]

/-- The registers of the VERD page. -/
def rowsVERD : List RegRow :=
  [ ⟨"STATUS", 0x0, [], false,
      [fr "C2_HELD" 24 8 .ro,
       fr "C1_HELD" 16 8 .ro,
       fr "C0_HELD" 8 8 .ro,
       fr "SHARED_FREE" 0 8 .ro 0x30]⟩,
    ⟨"CNTCLR", 0x4, [], false,
      [fr "CLIENT" 0 4 .wo]⟩,
    ⟨"CLIENT_ACCEPTED", 0x100, [(0x20, 4)], false,
      [fr "COUNT" 0 32 .ro 0x0 .cold]⟩,
    ⟨"CLIENT_DELAYED", 0x104, [(0x20, 4)], false,
      [fr "COUNT" 0 32 .ro 0x0 .cold]⟩,
    ⟨"CLIENT_REFUSED", 0x108, [(0x20, 4)], false,
      [fr "COUNT" 0 32 .ro 0x0 .cold]⟩,
    ⟨"CLIENT_NO_SLOT", 0x10c, [(0x20, 4)], false,
      [fr "COUNT" 0 32 .ro 0x0 .cold]⟩,
    ⟨"CLIENT_LATE", 0x110, [(0x20, 4)], false,
      [fr "COUNT" 0 32 .ro 0x0 .cold]⟩,
    ⟨"CLIENT_MAXDELAY", 0x114, [(0x20, 4)], false,
      [fr "COUNT" 0 32 .ro 0x0 .cold]⟩,
    ⟨"CLIENT_SUBST", 0x118, [(0x20, 4)], false,
      [fr "COUNT" 0 32 .ro 0x0 .cold]⟩,
    ⟨"RSTAT", 0x1000, [(0x8, 64)], true,
      [fr "FRAME" 32 32 .ro,
       fr "SEQ" 16 16 .ro,
       fr "REASON" 8 8 .ro,
       fr "STATUS" 4 4 .ro,
       fr "SOURCE" 3 1 .ro,
       fr "PROV_OPEN" 2 1 .ro,
       fr "LATECHK" 1 1 .w1c,
       fr "INBOX_DISC" 0 1 .w1c]⟩ ]

/-- The registers of the HEARTH page. -/
def rowsHEARTH : List RegRow :=
  [ ⟨"STATUS", 0x0, [], false,
      [fr "FAILED" 24 2 .ro,
       fr "RSTATE" 16 2 .ro,
       fr "READY" 8 8 .ro,
       fr "PRESENT" 0 8 .ro]⟩,
    ⟨"RESTARTCFG", 0x4, [], false,
      [fr "PERIOD" 16 10 .rwl,
       fr "WINDOW" 0 16 .rwl]⟩,
    ⟨"WINTIME", 0x8, [], false,
      [fr "ELAPSED" 0 32 .ro]⟩,
    ⟨"NET", 0x100, [(0x8, 8)], true,
      [fr "FRAME" 32 32 .ro,
       fr "CORE" 28 4 .ro,
       fr "STAGES" 24 4 .ro,
       fr "SUBST" 0 16 .ro]⟩ ]

/-- The registers of the PART page. -/
def rowsPART : List RegRow :=
  [ ⟨"LOCK", 0x0, [], false,
      [fr "LOCK" 0 1 .w1s]⟩,
    ⟨"VFCLASS", 0x4, [], false,
      [fr "VF4" 9 3 .rwl,
       fr "VF3" 6 3 .rwl,
       fr "VF2" 3 3 .rwl,
       fr "VF1" 0 3 .rwl]⟩,
    ⟨"BWDRAM", 0x10, [], false,
      [fr "C1_FLOOR" 8 8 .rwl,
       fr "C0_FLOOR" 0 8 .rwl]⟩,
    ⟨"BWNOC", 0x14, [], false,
      [fr "C1_FLOOR" 8 8 .rwl,
       fr "C0_FLOOR" 0 8 .rwl]⟩,
    ⟨"BWPCIE", 0x18, [], false,
      [fr "C1_FLOOR" 8 8 .rwl,
       fr "C0_FLOOR" 0 8 .rwl]⟩,
    ⟨"FENCELOG", 0x20, [], true,
      [fr "VALID" 63 1 .w1c,
       fr "CLASS" 61 2 .ro,
       fr "WRITE" 60 1 .ro,
       fr "MASTER" 48 8 .ro,
       fr "COUNT" 40 8 .ro,
       fr "ADDR" 0 40 .ro]⟩,
    ⟨"FENCE", 0x100, [(0x8, 32)], true,
      [fr "VALID" 63 1 .rwl,
       fr "OWNER" 61 2 .rwl,
       fr "RDUP" 60 1 .rwl,
       fr "LIMIT" 28 28 .rwl,
       fr "BASE" 0 28 .rwl]⟩ ]

/-- The registers of the BELL page. -/
def rowsBELL : List RegRow :=
  [ ⟨"XLOG", 0x10, [], true,
      [fr "VALID" 63 1 .w1c,
       fr "TENANT" 62 1 .ro,
       fr "COUNT" 48 14 .ro,
       fr "SRCDEV" 44 4 .ro,
       fr "SRCCORE" 40 4 .ro,
       fr "SRCCTX" 38 2 .ro,
       fr "DSTCORE" 34 4 .ro,
       fr "DSTCTX" 32 2 .ro,
       fr "KIND" 16 8 .ro,
       fr "TARGET" 0 16 .ro]⟩,
    ⟨"HANDCNT", 0x20, [], false,
      [fr "COUNT" 0 32 .rws 0x0 .rws]⟩,
    ⟨"BAR", 0x100, [(0x8, 64)], true,
      [fr "VALID" 63 1 .rwl,
       fr "OWNER" 61 2 .rwl,
       fr "PRIV" 60 1 .rwl,
       fr "DEVS" 32 16 .rwl,
       fr "CORES" 0 16 .rwl]⟩,
    ⟨"BARSTAT", 0x400, [(0x4, 64)], false,
      [fr "GEN" 16 16 .ro,
       fr "ARRIVED" 0 16 .ro]⟩,
    ⟨"HANDLOG", 0x600, [(0x8, 32)], true,
      [fr "ACCEPTED" 63 1 .ro,
       fr "STATE" 60 3 .ro,
       fr "CORE" 56 4 .ro,
       fr "OBJ" 48 8 .ro,
       fr "OLD" 32 16 .ro,
       fr "NEW" 0 32 .ro]⟩ ]

/-- The registers of the TAP page. -/
def rowsTAP : List RegRow :=
  [ ⟨"LTCFG", 0x0, [], false,
      [fr "REF" 0 4 .rwl]⟩,
    ⟨"LOCK", 0x4, [], false,
      [fr "LOCK" 0 1 .w1s]⟩,
    ⟨"LTSTAT", 0x8, [], true,
      [fr "FRAME" 32 32 .ro,
       fr "LINE" 16 16 .ro,
       fr "STATE" 0 2 .ro]⟩,
    ⟨"TDMCFG", 0x40, [], false,
      [fr "EN" 31 1 .rwl,
       fr "EDGE" 30 1 .rwl,
       fr "FSMODE" 29 1 .rwl,
       fr "WIDTH" 28 1 .rwl,
       fr "DELAY" 27 1 .rwl]⟩,
    ⟨"CHIMESTAT", 0x48, [], true,
      [fr "LAST" 56 8 .ro,
       fr "OUTCOME" 48 8 .ro,
       fr "PENDING" 40 8 .ro,
       fr "NOCLK" 39 1 .ro,
       fr "HEARD" 16 16 .ro 0x0 .cold,
       fr "MISSED" 0 16 .ro 0x0 .cold]⟩,
    ⟨"CHIME_A", 0x80, [(0x10, 16)], true,
      [fr "TONE3" 48 16 .rwl,
       fr "TONE2" 32 16 .rwl,
       fr "TONE1" 16 16 .rwl,
       fr "TONE0" 0 16 .rwl]⟩,
    ⟨"CHIME_B", 0x88, [(0x10, 16)], true,
      [fr "VALID" 31 1 .rwl,
       fr "NET" 30 1 .rwl,
       fr "SLOT" 27 3 .rwl,
       fr "NETPAIR" 24 2 .rwl,
       fr "MINLEVEL" 16 8 .rwl,
       fr "DURATION" 0 16 .rwl]⟩,
    ⟨"T_CFG", 0x200, [(0x40, 12)], false,
      [fr "EN" 31 1 .rwl,
       fr "LANES" 29 2 .rwl,
       fr "VC" 25 4 .rwl,
       fr "DT" 19 6 .rwl,
       fr "EDT" 13 6 .rwl,
       fr "MARKER" 12 1 .rwl]⟩,
    ⟨"T_GEOM", 0x204, [(0x40, 12)], false,
      [fr "ACTIVE" 16 16 .rwl,
       fr "TOTAL" 0 16 .rwl]⟩,
    ⟨"T_NOMPERIOD", 0x208, [(0x40, 12)], false,
      [fr "NS" 0 32 .rwl]⟩,
    ⟨"T_TIMING", 0x20c, [(0x40, 12)], false,
      [fr "PTOL" 20 8 .rwl,
       fr "GUARD" 0 20 .rwl]⟩,
    ⟨"T_FNCFG", 0x210, [(0x40, 12)], false,
      [fr "FNMAX" 16 16 .rwl]⟩,
    ⟨"T_MARKPOS", 0x214, [(0x40, 12)], false,
      [fr "LINE" 16 16 .rwl,
       fr "BYTE" 0 16 .rwl]⟩,
    ⟨"T_STAT", 0x218, [(0x40, 12)], true,
      [fr "FRAME" 32 32 .ro,
       fr "RXLINE" 16 16 .ro,
       fr "OUTCOME" 8 4 .ro,
       fr "TSTATE" 4 2 .ro,
       fr "VALID" 3 1 .ro,
       fr "HSRX" 2 1 .ro]⟩,
    ⟨"T_SIG", 0x220, [(0x40, 12)], true,
      [fr "SIG" 0 64 .ro]⟩,
    ⟨"T_ERR", 0x228, [(0x40, 12)], true,
      [fr "ECCCORR" 48 16 .ro,
       fr "PKTERR" 32 16 .ro,
       fr "DROPPED" 16 16 .ro,
       fr "FLYWHEEL" 8 8 .ro,
       fr "INCOMPLETE" 0 8 .ro]⟩,
    ⟨"T_MEASPER", 0x230, [(0x40, 12)], false,
      [fr "P" 0 32 .ro]⟩,
    ⟨"T_LASTFN", 0x234, [(0x40, 12)], false,
      [fr "FN" 0 16 .ro]⟩,
    ⟨"T_FSTIME", 0x238, [(0x40, 12)], true,
      [fr "TIME" 0 64 .ro]⟩,
    ⟨"RING", 0x600, [(0x10, 8)], true,
      [fr "NBUF" 52 4 .rwl,
       fr "STRIDE" 40 12 .rwl,
       fr "BASE" 12 28 .rwl]⟩,
    ⟨"RINGSTAT", 0x608, [(0x10, 8)], false,
      [fr "HELD" 24 8 .ro,
       fr "WRITING" 16 4 .ro,
       fr "OVERRUN" 0 16 .ro]⟩,
    ⟨"WIN", 0x800, [(0x80, 4), (0x8, 16)], true,
      [fr "VALID" 63 1 .rwl,
       fr "REQUIRED" 62 1 .rwl,
       fr "NLINES" 48 12 .rwl,
       fr "FIRSTLINE" 32 16 .rwl,
       fr "BYTES" 16 16 .rwl,
       fr "OFFSET" 0 16 .rwl]⟩,
    ⟨"WSTAT", 0xa00, [(0x8, 4)], true,
      [fr "FRAME" 32 32 .ro,
       fr "MISMATCH" 16 16 .ro,
       fr "DONE" 0 16 .ro]⟩,
    ⟨"WCRC", 0xc00, [(0x40, 4), (0x4, 16)], false,
      [fr "CRC" 0 32 .ro]⟩,
    ⟨"EXP", 0x1000, [(0x400, 4), (0x40, 16), (0x4, 16)], false,
      [fr "CRC" 0 32 .rwl]⟩ ]

/-- The registers of the CVU page. -/
def rowsCVU : List RegRow :=
  [ ⟨"LOCK", 0x0, [], false,
      [fr "LOCK" 0 1 .w1s]⟩,
    ⟨"EVENT", 0x4, [], false,
      [fr "UNIT" 0 32 .w1c]⟩,
    ⟨"U_CFG", 0x100, [(0x80, 32)], false,
      [fr "REFIN" 31 1 .rwl,
       fr "REFOUT" 30 1 .rwl,
       fr "WIDTH" 23 7 .rwl 0x20,
       fr "ALIVE" 21 2 .rwl,
       fr "AW" 19 2 .rwl,
       fr "EXPEN" 18 1 .rwl,
       fr "IRQ" 17 1 .rwl,
       fr "MAXSTEP" 9 8 .rwl 0x1,
       fr "DBYTES" 7 2 .rwl,
       fr "OWNER" 5 2 .rw]⟩,
    ⟨"U_POLY", 0x108, [(0x80, 32)], true,
      [fr "V" 0 64 .rwl]⟩,
    ⟨"U_INIT", 0x110, [(0x80, 32)], true,
      [fr "V" 0 64 .rwl]⟩,
    ⟨"U_XOROUT", 0x118, [(0x80, 32)], true,
      [fr "V" 0 64 .rwl]⟩,
    ⟨"U_VALUE", 0x120, [(0x80, 32)], true,
      [fr "V" 0 64 .rw]⟩,
    ⟨"U_EXPECT", 0x128, [(0x80, 32)], true,
      [fr "V" 0 64 .rw]⟩,
    ⟨"U_RESULT", 0x130, [(0x80, 32)], true,
      [fr "V" 0 64 .ro]⟩,
    ⟨"U_DATA", 0x138, [(0x80, 32)], false,
      [fr "V" 0 32 .wo]⟩,
    ⟨"U_CMD", 0x13c, [(0x80, 32)], false,
      [fr "FINISH" 1 1 .wo,
       fr "START" 0 1 .wo]⟩,
    ⟨"U_ALIVE", 0x140, [(0x80, 32)], true,
      [fr "POS" 48 16 .rwl,
       fr "COUNT" 0 32 .rw]⟩,
    ⟨"U_POSN", 0x148, [(0x80, 32)], true,
      [fr "FED" 32 32 .rw,
       fr "CAP" 0 32 .rw]⟩,
    ⟨"U_STAT", 0x150, [(0x80, 32)], false,
      [fr "DISCARD" 24 8 .ro,
       fr "MISCNT" 16 8 .ro,
       fr "AOUT" 12 4 .ro,
       fr "STANDIN" 7 1 .ro,
       fr "CLAIMED" 6 1 .ro,
       fr "OPEN" 5 1 .ro,
       fr "MATCH" 4 1 .ro,
       fr "DONE" 3 1 .ro,
       fr "ALIVE_ERR" 2 1 .w1c,
       fr "MISMATCH" 1 1 .w1c]⟩ ]

/-- The registers of the SAFETY page. -/
def rowsSAFETY : List RegRow :=
  [ ⟨"CFG", 0x0, [], false,
      [fr "GRACE_EN" 31 1 .rwl,
       fr "CHK_SINGLE_MAX" 0 17 .rwl]⟩,
    ⟨"TRIP", 0x4, [], false,
      [fr "TRIPPED" 31 1 .ro,
       fr "DIE" 30 1 .ro,
       fr "SOURCE" 8 8 .ro,
       fr "DETAIL" 0 8 .ro]⟩,
    ⟨"TRIPTIME", 0x8, [], true,
      [fr "SEC" 32 32 .ro,
       fr "NS" 0 32 .ro]⟩,
    ⟨"SCANSTAT", 0x10, [], true,
      [fr "SCAN" 32 32 .ro,
       fr "MISSED" 16 16 .ro 0x0 .cold,
       fr "SINGLE" 0 16 .ro 0x0 .cold]⟩,
    ⟨"SCANDIFF", 0x18, [], true,
      [fr "VALID" 63 1 .w1c,
       fr "CHANNEL" 62 1 .ro,
       fr "OFFSET" 48 8 .ro,
       fr "SCAN" 0 32 .ro]⟩,
    ⟨"EVCNT", 0x20, [], true,
      [fr "CORE" 48 16 .ro 0x0 .cold,
       fr "LOST" 32 16 .ro 0x0 .cold,
       fr "CHECKER" 16 16 .ro 0x0 .cold,
       fr "RECORD" 0 16 .ro 0x0 .cold]⟩,
    ⟨"CHKFAIL", 0x28, [], true,
      [fr "STANDINS" 35 2 .ro 0x0 .cold,
       fr "AGG_B" 34 1 .ro 0x0 .cold,
       fr "AGG_A" 33 1 .ro 0x0 .cold,
       fr "LOCK_B" 32 1 .ro 0x0 .cold,
       fr "LOCK_A" 31 1 .ro 0x0 .cold,
       fr "ECC" 22 8 .ro 0x0 .cold,
       fr "FENCE" 0 22 .ro 0x0 .cold]⟩,
    ⟨"SINGLETIME", 0x30, [], false,
      [fr "SEC" 0 32 .ro]⟩,
    ⟨"STSTAT", 0x38, [], true,
      [fr "PASSES" 32 32 .ro,
       fr "FAILS" 24 8 .ro,
       fr "CURRENT" 16 8 .ro]⟩ ]

/-- The registers of the WATCH page. -/
def rowsWATCH : List RegRow :=
  [ ⟨"CFG", 0x0, [], true,
      [fr "EN" 63 1 .rwl,
       fr "WARN" 32 16 .rwl,
       fr "WMIN" 16 16 .rwl,
       fr "WMAX" 0 16 .rwl]⟩,
    ⟨"SVC", 0x8, [], false,
      [fr "WORD" 0 32 .wo]⟩,
    ⟨"STAT", 0xc, [], false,
      [fr "ELAPSED" 16 16 .ro,
       fr "TOKEN" 0 16 .ro 0xace1]⟩,
    ⟨"LADDER", 0x10, [], false,
      [fr "N" 26 4 .rwl,
       fr "PERIOD" 16 10 .rwl,
       fr "COUNT" 0 4 .ro]⟩,
    ⟨"LASTEXP", 0x18, [], true,
      [fr "KIND" 56 8 .ro,
       fr "CORE" 52 4 .ro,
       fr "SEC" 0 32 .ro]⟩,
    ⟨"RETAIN", 0x100, [(0x4, 8)], false,
      [fr "COUNT" 0 32 .ro 0x0 .never]⟩,
    ⟨"LASTTRIP", 0x120, [], true,
      [fr "SOURCE" 56 8 .ro 0x0 .never,
       fr "DETAIL" 48 8 .ro 0x0 .never,
       fr "DIE" 47 1 .ro 0x0 .never,
       fr "EPOCH" 32 8 .ro 0x0 .never,
       fr "SEC" 0 32 .ro 0x0 .never]⟩,
    ⟨"RSTAT", 0x130, [], false,
      [fr "RESTORED" 1 1 .w1c,
       fr "VALID" 0 1 .ro]⟩ ]

/-- The registers of the SAFEIO page. -/
def rowsSAFEIO : List RegRow :=
  [ ⟨"STATUS", 0x0, [], false,
      [fr "OUTFAULT" 28 4 .ro,
       fr "DRIVE" 24 4 .ro,
       fr "CMD" 20 4 .ro,
       fr "PARAM_OK" 16 1 .ro,
       fr "PAIR_FAULT" 8 8 .ro,
       fr "PAIR_ON" 0 8 .ro]⟩,
    ⟨"RUN", 0x4, [], false,
      [fr "PERMIT" 4 4 .ro,
       fr "RUN" 0 4 .rw]⟩,
    ⟨"PAIRSTAT", 0x10, [(0x4, 8)], false,
      [fr "TPSKIP" 24 8 .ro 0x0 .cold,
       fr "TPFAIL" 16 8 .ro 0x0 .cold,
       fr "DISC_MS" 8 8 .ro,
       fr "FCODE" 4 2 .ro,
       fr "FAULT" 3 1 .ro,
       fr "DISC" 2 1 .ro,
       fr "B_ON" 1 1 .ro,
       fr "A_ON" 0 1 .ro]⟩,
    ⟨"CHSTAT", 0x40, [(0x4, 4)], false,
      [fr "OTSKIP" 16 16 .ro 0x0 .cold,
       fr "OFFWHY" 12 4 .ro,
       fr "FCODE" 8 2 .ro,
       fr "ILOCK" 7 1 .ro,
       fr "RBL" 6 1 .ro,
       fr "RBH" 5 1 .ro,
       fr "LS_ON" 4 1 .ro,
       fr "HS_ON" 3 1 .ro,
       fr "TESTING" 2 1 .ro,
       fr "FAULT" 1 1 .ro,
       fr "CMD" 0 1 .ro]⟩,
    ⟨"PSTAT", 0x80, [], false,
      [fr "LOCKOUT" 20 12 .ro,
       fr "FAILS" 16 4 .ro,
       fr "SESSION" 1 1 .ro,
       fr "PWSET" 0 1 .ro]⟩,
    ⟨"SETVER", 0x84, [], false,
      [fr "SETVER" 0 32 .ro]⟩,
    ⟨"LOGSEQ", 0x88, [], false,
      [fr "SEQ" 0 32 .ro]⟩,
    ⟨"PDIGEST", 0xc0, [(0x4, 12)], false,
      [fr "DIGEST" 0 32 .ro]⟩ ]

/-- The registers of the SUNDIAL page. -/
def rowsSUNDIAL : List RegRow :=
  [ ⟨"SNAP", 0x0, [], false,
      [fr "TAKE" 0 4 .wo]⟩,
    ⟨"SERVO", 0x4, [], false,
      [fr "KP" 16 16 .rwl,
       fr "KI" 0 16 .rwl]⟩,
    ⟨"SLEW", 0x8, [], false,
      [fr "SLEW" 0 24 .rwl]⟩,
    ⟨"DOMAIN", 0xc, [], false,
      [fr "SRT" 16 4 .rwl,
       fr "TB1_DOMAIN" 8 8 .rwl,
       fr "TB0_DOMAIN" 0 8 .rwl]⟩,
    ⟨"LOCK", 0x10, [], false,
      [fr "LOCK" 0 1 .w1s]⟩,
    ⟨"RINGGM", 0x14, [], false,
      [fr "RING_PRIO1" 0 8 .rwl]⟩,
    ⟨"TB_STATUS", 0x100, [(0x40, 4)], false,
      [fr "GM" 8 1 .ro,
       fr "OFFSET_LARGE" 7 1 .ro,
       fr "HOLDOVER" 6 1 .ro,
       fr "LOCKED" 5 1 .ro,
       fr "SYNCED" 4 1 .ro,
       fr "PORT" 0 3 .ro 0x7]⟩,
    ⟨"TB_RATE", 0x104, [(0x40, 4)], false,
      [fr "RATE" 0 32 .ro]⟩,
    ⟨"TB_SETPT", 0x108, [(0x40, 4)], false,
      [fr "SETPT" 0 32 .ro]⟩,
    ⟨"TB_HOLDSEC", 0x10c, [(0x40, 4)], false,
      [fr "SEC" 0 32 .ro]⟩,
    ⟨"TB_OFFSET", 0x110, [(0x40, 4)], true,
      [fr "NS" 0 64 .ro]⟩,
    ⟨"TB_SNAPSEC", 0x118, [(0x40, 4)], true,
      [fr "SEC" 0 48 .ro]⟩,
    ⟨"TB_SNAPNS", 0x120, [(0x40, 4)], false,
      [fr "NS" 0 32 .ro]⟩,
    ⟨"TB_GMID", 0x128, [(0x40, 4)], true,
      [fr "ID" 0 64 .ro]⟩,
    ⟨"PORT_INGLAT", 0x300, [(0x10, 6)], false,
      [fr "INGLAT" 0 32 .rwl]⟩,
    ⟨"PORT_EGRLAT", 0x304, [(0x10, 6)], false,
      [fr "EGRLAT" 0 32 .rwl]⟩,
    ⟨"PORT_ASYM", 0x308, [(0x10, 6)], false,
      [fr "ASYM" 0 32 .rwl]⟩,
    ⟨"PORT_LINKDELAY", 0x30c, [(0x10, 6)], false,
      [fr "DELAY" 0 32 .ro]⟩,
    ⟨"TPO_CTRL", 0x400, [(0x20, 4)], false,
      [fr "ARM" 31 1 .rw,
       fr "PASSED" 30 1 .w1c,
       fr "BASE" 28 2 .rw,
       fr "WIDTH" 0 28 .rw]⟩,
    ⟨"TPO_STARTSEC", 0x408, [(0x20, 4)], true,
      [fr "SEC" 0 48 .rw]⟩,
    ⟨"TPO_STARTNS", 0x410, [(0x20, 4)], false,
      [fr "NS" 0 32 .rw]⟩,
    ⟨"TPO_PERIOD", 0x414, [(0x20, 4)], false,
      [fr "PERIOD" 0 32 .rw]⟩,
    ⟨"TPO_COUNT", 0x418, [(0x20, 4)], false,
      [fr "COUNT" 0 32 .ro]⟩ ]

/-- The registers of the ETH page. -/
def rowsETH : List RegRow :=
  [ ⟨"M_CFG", 0x0, [(0x100, 2)], false,
      [fr "EN" 31 1 .rwl,
       fr "SPEED" 28 3 .rwl]⟩,
    ⟨"M_STATUS", 0x4, [(0x100, 2)], false,
      [fr "LINK" 31 1 .ro,
       fr "SPEED" 28 3 .ro,
       fr "NET_LOST" 27 1 .ro]⟩,
    ⟨"M_CBS5", 0x8, [(0x100, 2)], false,
      [fr "IDLESLOPE" 0 32 .rwl]⟩,
    ⟨"M_CBS6", 0xc, [(0x100, 2)], false,
      [fr "IDLESLOPE" 0 32 .rwl]⟩,
    ⟨"M_TXFRAMES", 0x10, [(0x100, 2)], true,
      [fr "COUNT" 0 64 .ro 0x0 .cold]⟩,
    ⟨"M_RXFRAMES", 0x18, [(0x100, 2)], true,
      [fr "COUNT" 0 64 .ro 0x0 .cold]⟩,
    ⟨"M_RXDISC", 0x20, [(0x100, 2)], false,
      [fr "COUNT" 0 32 .ro 0x0 .cold]⟩,
    ⟨"M_PAUSEDISC", 0x24, [(0x100, 2)], false,
      [fr "COUNT" 0 32 .ro 0x0 .cold]⟩,
    ⟨"M_FCSERR", 0x28, [(0x100, 2)], false,
      [fr "COUNT" 0 32 .ro 0x0 .cold]⟩,
    ⟨"M_TXDROP", 0x2c, [(0x100, 2)], false,
      [fr "COUNT" 0 32 .ro 0x0 .cold]⟩,
    ⟨"S_CFG", 0x800, [(0x20, 16)], true,
      [fr "VALID" 63 1 .rwl,
       fr "NETPAIR" 60 2 .rwl,
       fr "SRCDEV" 56 4 .rwl,
       fr "MAXSTEP" 48 8 .rwl,
       fr "STREAM" 32 16 .rwl,
       fr "WINDOW" 16 16 .rwl]⟩,
    ⟨"S_RING", 0x808, [(0x20, 16)], true,
      [fr "ENTRIES" 40 6 .rwl,
       fr "BASE" 12 28 .rwl,
       fr "WIDX" 0 12 .ro]⟩,
    ⟨"S_STAT", 0x810, [(0x20, 16)], true,
      [fr "ACCEPTED" 48 16 .ro 0x0 .cold,
       fr "DEGRADED" 32 16 .ro 0x0 .cold,
       fr "REJECTED" 16 16 .ro 0x0 .cold,
       fr "BADCOPY" 8 8 .ro 0x0 .cold,
       fr "LATECOPY" 0 8 .ro 0x0 .cold]⟩ ]

/-- The registers of the CAN page. -/
def rowsCAN : List RegRow :=
  [ ⟨"C_CFG", 0x0, [(0x100, 4)], false,
      [fr "EN" 31 1 .rwl,
       fr "MODE" 29 2 .rwl,
       fr "TDCO" 0 8 .rwl]⟩,
    ⟨"C_NBT", 0x4, [(0x100, 4)], false,
      [fr "PRESC" 22 10 .rwl,
       fr "TSEG1" 14 8 .rwl,
       fr "TSEG2" 7 7 .rwl,
       fr "SJW" 0 7 .rwl]⟩,
    ⟨"C_DBT", 0x8, [(0x100, 4)], false,
      [fr "As NBT" 0 32 .rwl]⟩,
    ⟨"C_STATUS", 0x10, [(0x100, 4)], false,
      [fr "STATE" 30 2 .ro,
       fr "ALONE" 29 1 .ro,
       fr "NET_LOST" 28 1 .ro,
       fr "TEC" 8 8 .ro,
       fr "REC" 0 8 .ro]⟩,
    ⟨"C_ACKRUN", 0x14, [(0x100, 4)], false,
      [fr "COUNT" 0 16 .ro]⟩,
    ⟨"C_TXOK", 0x18, [(0x100, 4)], false,
      [fr "COUNT" 0 32 .ro 0x0 .cold]⟩,
    ⟨"C_RXOK", 0x1c, [(0x100, 4)], false,
      [fr "COUNT" 0 32 .ro 0x0 .cold]⟩,
    ⟨"C_EVENTS", 0x20, [(0x100, 4)], false,
      [fr "BUSOFF" 16 16 .ro 0x0 .cold,
       fr "REPLACED" 0 16 .ro 0x0 .cold]⟩,
    ⟨"C_TXDROP", 0x24, [(0x100, 4)], false,
      [fr "COUNT" 0 32 .ro 0x0 .cold]⟩ ]

/-- The registers of the NIM page. -/
def rowsNIM : List RegRow :=
  [ ⟨"CFG", 0x0, [], false,
      [fr "EN" 31 1 .rwl,
       fr "TOPO" 30 1 .rwl,
       fr "MINVER" 28 2 .rwl,
       fr "SELF" 24 4 .rwl,
       fr "XDIM" 20 4 .rwl,
       fr "YDIM" 16 4 .rwl]⟩,
    ⟨"LOCK", 0x4, [], false,
      [fr "LOCK" 0 1 .w1s]⟩,
    ⟨"STATUS", 0x8, [], true,
      [fr "PRESENT" 48 16 .ro,
       fr "ROLLNUM" 32 16 .ro,
       fr "RV" 28 4 .ro,
       fr "STATE" 24 4 .ro,
       fr "RESTARTS" 16 8 .ro]⟩,
    ⟨"FLOOR", 0x10, [], true,
      [fr "BULK" 48 16 .ro,
       fr "SAFETY" 32 16 .ro,
       fr "SYNC" 16 16 .ro,
       fr "MGMT" 0 16 .ro]⟩,
    ⟨"PORT_STATUS", 0x100, [(0x40, 4)], false,
      [fr "STATE" 28 4 .ro,
       fr "LV" 26 2 .ro,
       fr "LANES1" 25 1 .ro,
       fr "INRING" 24 1 .ro,
       fr "PEERDEV" 20 4 .ro,
       fr "PEERPORT" 18 2 .ro]⟩,
    ⟨"PORT_TXBYTES", 0x108, [(0x40, 4)], true,
      [fr "COUNT" 0 64 .ro 0x0 .cold]⟩,
    ⟨"PORT_RXBYTES", 0x110, [(0x40, 4)], true,
      [fr "COUNT" 0 64 .ro 0x0 .cold]⟩,
    ⟨"PORT_ERR", 0x118, [(0x40, 4)], true,
      [fr "REPLAY" 48 16 .ro 0x0 .cold,
       fr "DROPPED" 32 16 .ro 0x0 .cold,
       fr "FLAPS" 16 16 .ro 0x0 .cold,
       fr "FUNOSUM" 0 16 .ro 0x0 .cold]⟩,
    ⟨"PORT_PEERID", 0x120, [(0x40, 4)], true,
      [fr "ID" 0 64 .ro]⟩,
    ⟨"MEMBER_ID", 0x400, [(0x10, 16)], true,
      [fr "ID" 0 64 .rwl]⟩,
    ⟨"MEMBER_STATE", 0x408, [(0x10, 16)], false,
      [fr "EPOCH" 24 8 .ro,
       fr "MAXVER" 20 4 .ro,
       fr "PRESENT" 19 1 .ro,
       fr "TRIPPED" 18 1 .ro]⟩,
    ⟨"DUP", 0x800, [(0x8, 64)], true,
      [fr "VALID" 63 1 .rwl,
       fr "PRIMARY" 59 4 .rwl,
       fr "STANDBY" 55 4 .rwl,
       fr "ACTIVE" 54 1 .ro,
       fr "LATECLAIM" 32 16 .ro,
       fr "LASTCLAIM" 0 32 .ro]⟩ ]

/-- The registers of the KEEP page. -/
def rowsKEEP : List RegRow :=
  [ ⟨"STATUS", 0x0, [], false,
      [fr "LCS" 28 4 .ro 0x2,
       fr "UDS_LOCKED" 27 1 .ro,
       fr "RNG_READY" 26 1 .ro,
       fr "RNG_FAIL" 25 1 .ro 0x0 .cold,
       fr "SCRUBBING" 24 1 .ro,
       fr "SCRUBSTEP" 21 3 .ro,
       fr "SESSIONS" 16 5 .ro,
       fr "BUNDLES" 8 8 .ro,
       fr "KEYSLOTS" 4 4 .ro]⟩,
    ⟨"MEASGEN", 0x4, [], false,
      [fr "GEN" 0 32 .ro 0x0 .cold]⟩,
    ⟨"IDENT_ROLLID", 0x8, [], true,
      [fr "V" 0 64 .ro]⟩,
    ⟨"IDENT_BUNDLEID_LO", 0x10, [], true,
      [fr "V" 0 64 .ro]⟩,
    ⟨"IDENT_BUNDLEID_HI", 0x18, [], true,
      [fr "V" 0 64 .ro]⟩,
    ⟨"TENANT", 0x20, [(0x4, 4)], false,
      [fr "ID" 0 32 .ro]⟩,
    ⟨"RNGSTAT", 0x30, [], true,
      [fr "RCT_FAIL" 48 16 .ro 0x0 .cold,
       fr "APT_FAIL" 32 16 .ro 0x0 .cold,
       fr "NOTREADY" 16 16 .ro 0x0 .cold,
       fr "RESEEDS" 0 16 .ro 0x0 .cold]⟩,
    ⟨"SCRUBTIME", 0x38, [], true,
      [fr "TOTAL" 32 32 .ro,
       fr "DRAM" 0 32 .ro]⟩,
    ⟨"BSLOT", 0x100, [(0x8, 32)], true,
      [fr "VALID" 63 1 .ro,
       fr "CLASS" 61 2 .ro,
       fr "HANDLE" 0 32 .ro]⟩ ]

/-- The registers of the PCIEA page. -/
def rowsPCIEA : List RegRow :=
  [ ⟨"F_FSTATUS", 0x1000, [(0x400, 5)], false,
      [fr "VERSION" 24 8 .ro]⟩,
    ⟨"F_SQBASE", 0x1008, [(0x400, 5)], true,
      [fr "ADDR" 0 64 .rw]⟩,
    ⟨"F_CQBASE", 0x1010, [(0x400, 5)], true,
      [fr "ADDR" 0 64 .rw]⟩,
    ⟨"F_QCFG", 0x1018, [(0x400, 5)], false,
      [fr "EN" 31 1 .rw,
       fr "SQLOG" 20 4 .rw 0x1,
       fr "CQLOG" 16 4 .rw 0x1,
       fr "MODCNT" 8 8 .rw,
       fr "MODUS" 0 8 .rw]⟩,
    ⟨"F_SQTAIL", 0x101c, [(0x400, 5)], false,
      [fr "TAIL" 0 12 .wo]⟩,
    ⟨"F_CQHEAD", 0x1020, [(0x400, 5)], false,
      [fr "HEAD" 0 12 .wo]⟩,
    ⟨"F_VRBASE", 0x1028, [(0x400, 5)], true,
      [fr "ADDR" 0 64 .rw]⟩,
    ⟨"F_VRCFG", 0x1030, [(0x400, 5)], false,
      [fr "EN" 31 1 .rw,
       fr "VRLOG" 24 4 .rw 0x4]⟩,
    ⟨"F_VRSHADOW", 0x1038, [(0x400, 5)], true,
      [fr "ADDR" 0 64 .rw]⟩,
    ⟨"F_VRHEAD", 0x1040, [(0x400, 5)], false,
      [fr "HEAD" 0 32 .wo]⟩,
    ⟨"F_LOST", 0x1044, [(0x400, 5)], false,
      [fr "VRLOST" 16 16 .ro 0x0 .cold,
       fr "EVTLOST" 0 16 .ro 0x0 .cold]⟩,
    ⟨"F_FATE", 0x1080, [(0x400, 5), (0x4, 8)], false,
      [fr "COUNT" 0 32 .ro 0x0 .cold]⟩,
    ⟨"F_BUSY", 0x10c0, [(0x400, 5)], true,
      [fr "CYCLES" 0 64 .ro 0x0 .cold]⟩,
    ⟨"F_BYTES", 0x10c8, [(0x400, 5)], true,
      [fr "COUNT" 0 64 .ro 0x0 .cold]⟩ ]

/-- The registers of the PCIE pages, shared by both ports. -/
def rowsPCIE : List RegRow :=
  [ ⟨"P_PORTSTAT", 0x0, [], false,
      [fr "UP" 31 1 .ro,
       fr "SPEED" 28 3 .ro,
       fr "WIDTH" 24 4 .ro,
       fr "IDE" 23 1 .ro,
       fr "HANDED" 22 1 .ro,
       fr "EPOCH" 0 16 .ro 0x1]⟩,
    ⟨"P_OBBASE", 0x8, [], true,
      [fr "BASE" 37 27 .rwl]⟩,
    ⟨"P_INBOXBASE", 0x10, [], true,
      [fr "BASE" 33 31 .rwl]⟩,
    ⟨"P_CPLTO", 0x18, [], false,
      [fr "MS" 0 16 .rwl]⟩,
    ⟨"P_HANDOVER", 0x1c, [], false,
      [fr "EN" 0 1 .rwl]⟩ ]

/-- The registers of the NVM page. -/
def rowsNVM : List RegRow :=
  [ ⟨"STATUS", 0x0, [], false,
      [fr "RO" 31 1 .ro 0x0 .never,
       fr "FALLBACK" 30 1 .ro,
       fr "BUSY" 29 1 .ro,
       fr "SPARES" 26 3 .ro 0x4 .never,
       fr "INFORCE" 24 2 .ro]⟩,
    ⟨"BANKA", 0x8, [], true,
      [fr "GEN" 32 32 .ro 0x0 .never,
       fr "SLOT" 28 4 .ro 0x0 .never,
       fr "GOOD" 27 1 .ro,
       fr "WEAR" 0 20 .ro 0x0 .never]⟩,
    ⟨"BANKB", 0x10, [], true,
      [fr "GEN" 32 32 .ro 0x0 .never,
       fr "SLOT" 28 4 .ro 0x1 .never,
       fr "GOOD" 27 1 .ro,
       fr "WEAR" 0 20 .ro 0x0 .never]⟩,
    ⟨"VALID", 0x18, [], false,
      [fr "CODE_B" 8 8 .ro,
       fr "CODE_A" 0 8 .ro]⟩,
    ⟨"SLOT", 0x20, [(0x4, 6)], false,
      [fr "RETIRED" 31 1 .ro 0x0 .never,
       fr "WRITES" 0 20 .ro 0x0 .never]⟩,
    ⟨"LOGSEQ", 0x40, [], false,
      [fr "SEQ" 0 32 .ro 0x0 .never]⟩,
    ⟨"CTR", 0x100, [(0x4, 64)], false,
      [fr "VALUE" 0 32 .ro 0x0 .never]⟩ ]

/-- The registers of the PWR page. -/
def rowsPWR : List RegRow :=
  [ ⟨"CFG", 0x0, [], true,
      [fr "POOL" 48 16 .rwl,
       fr "C0_RESERVE" 32 16 .rwl,
       fr "PKG_LIMIT" 16 16 .rwl,
       fr "TJ_THROTTLE" 8 8 .rwl]⟩,
    ⟨"STATUS", 0x8, [], true,
      [fr "LIVE" 48 16 .ro,
       fr "FREE" 32 16 .ro,
       fr "PKG" 16 16 .ro,
       fr "TJ" 8 8 .ro,
       fr "STALE" 2 1 .ro,
       fr "THROTTLE_C0" 1 1 .ro,
       fr "THROTTLING" 0 1 .ro]⟩,
    ⟨"DOMON0", 0x10, [], true,
      [fr "ON" 0 64 .ro]⟩,
    ⟨"DOMON1", 0x18, [], true,
      [fr "ON" 0 64 .ro]⟩,
    ⟨"WAITC1", 0x20, [], true,
      [fr "CYCLES" 0 64 .ro]⟩,
    ⟨"WAITC2", 0x28, [], true,
      [fr "CYCLES" 0 64 .ro]⟩,
    ⟨"RAIL", 0x100, [(0x4, 6)], false,
      [fr "MV" 16 16 .ro,
       fr "MA" 0 16 .ro]⟩ ]

/-- The registers of the DBG page. -/
def rowsDBG : List RegRow :=
  [ ⟨"STATUS", 0x0, [], false,
      [fr "ATTACHED" 31 1 .ro,
       fr "LCS" 27 4 .ro 0x2,
       fr "ALLOWED" 18 9 .ro 0x1,
       fr "HALTED" 0 16 .ro]⟩,
    ⟨"CTRL", 0x4, [], false,
      [fr "ATTACH" 31 1 .rw,
       fr "CLASS" 29 2 .rw]⟩,
    ⟨"ATTACHCNT", 0x8, [], false,
      [fr "COUNT" 0 32 .rws 0x0 .rws]⟩,
    ⟨"TRACECFG", 0x10, [], false,
      [fr "CORES" 0 16 .rw]⟩,
    ⟨"TRACESTAT", 0x14, [], false,
      [fr "LOST" 0 32 .ro]⟩,
    ⟨"INJ", 0x18, [], false,
      [fr "UNIT" 8 8 .wo,
       fr "LINE" 0 8 .wo]⟩,
    ⟨"INJADDR", 0x20, [], true,
      [fr "ADDR" 6 34 .rw]⟩,
    ⟨"INJCNT", 0x28, [], false,
      [fr "COUNT" 0 32 .rws 0x0 .rws]⟩ ]

end Sys2Proof.Machine
end

