-- ==== Sys2Proof/Machine/SMap.lean ====
section
/-! DEFINITION. Sparse maps from natural numbers, the one shape in which the block's memories, register windows and
register files are held: a list of (key, value) pairs with keys strictly rising and no pair whose value is what an
unlisted key reads as. The value of an unlisted key is a parameter of every operation. -/
namespace Sys2Proof.Machine

/-- A sparse map: the listed keys and their values. -/
abbrev SMap (α : Type) := List (Nat × α)

namespace SMap
variable {α : Type}

/-- The value at a key: the first listed one, or what an unlisted key reads as. -/
def get (d : Nat → α) : SMap α → Nat → α
  | [], k => d k
  | (k', v) :: t, k => if k = k' then v else get d t k

/-- A map with one pair put at its place in the order of keys. -/
def insert : SMap α → Nat → α → SMap α
  | [], k, v => [(k, v)]
  | (k', v') :: t, k, v =>
    if k < k' then (k, v) :: (k', v') :: t
    else if k = k' then (k, v) :: t
    else (k', v') :: insert t k v

/-- A map with a key unlisted. -/
def erase (m : SMap α) (k : Nat) : SMap α := m.filter (fun p => p.1 ≠ k)

/-- A map with the value at one key changed; writing what an unlisted key reads as unlists the key. -/
def set [DecidableEq α] (d : Nat → α) (m : SMap α) (k : Nat) (v : α) : SMap α :=
  if v = d k then erase m k else insert m k v

/-- A map with every key that satisfies a test unlisted. -/
def dropKeys (m : SMap α) (p : Nat → Bool) : SMap α := m.filter (fun q => !p q.1)

/-- The canonical form: keys strictly rising, no listed value equal to the unlisted one. -/
abbrev wf [DecidableEq α] (d : Nat → α) (m : SMap α) : Prop :=
  m.Pairwise (fun p q => p.1 < q.1) ∧ ∀ p ∈ m, p.2 ≠ d p.1

end SMap
end Sys2Proof.Machine
end

