-- ==== Sys2Proof/Machine/State.lean ====
section
/-! DEFINITION. The state of the block as plain data: the queue of commands, the control-window registers, memory, the cores
and every unit's own state, and the state right after reset. A register of the control window lives in `regs` alone;
the structures below hold what the spec gives the machine and no register shows. -/
namespace Sys2Proof.Machine

/-! ### A core -/

/-- What an entry carries from its dispatch: the level, the class of the slot, the
context and its generation, the preserve depth, and the U windows in force (R149, R287, R457, R460). -/
structure DispEnv where
  priv : Priv
  cls : Nat
  ctx : Nat
  gen : Nat
  depth : Nat
  wins : List (Nat × Nat)
deriving DecidableEq, Repr

/-- An entry of an engine queue: an instruction of classes 7–11 with its captured scalars a, b and s[dst] (R149), or a
token of class 6 (R242): a fence over an engine mask, a signal on a physical object with its guard address (0 when
unguarded), or a wait. -/
inductive Entry where
  | op (op : EOp) (f : IFields) (a b d : Word) (env : DispEnv)
  | fence (mask : Nat) (env : DispEnv)
  | signal (obj guard : Nat) (env : DispEnv)
  | wait (obj cond thr : Nat) (env : DispEnv)
deriving DecidableEq, Repr

/-- A posted store of the Steward: physical address and the bytes to be written (R228). -/
structure StoreReq where
  addr : Nat
  data : List Byte
deriving DecidableEq, Repr

/-- What the Steward is doing (R150, R203, R214, R233, R241, R476): held until started, running, stalled at an instruction
(with what it waits for), or halted. -/
inductive Stw where
  | held
  | run
  | wfi
  | waitObj (obj cond thr : Nat)
  | waitBar (n : Nat)
  | msgWait
  | queueFull (entries : List (Nat × Entry))
  | tagStall (st : StoreReq) (len : Nat)
  | memWait (tag : Nat) (len : Nat)
  | halt
deriving DecidableEq, Repr

/-- A registered watch (R239, R472): its number, object, condition and threshold, the context, generation and preserve
depth it was registered at, and whether it has fired and waits to become pending. -/
structure WatchRec where
  num : Nat
  obj : Nat
  cond : Nat
  thr : Nat
  ctx : Nat
  gen : Nat
  depth : Nat
  fired : Bool
deriving DecidableEq, Repr

/-- The asynchronous events pending at a core, other than the timer (R247–R250): failed posted stores as
(status, address, level of issue), engines that have halted, the single-bit events, and the watch that is pending, which is
registered no more (R239, R472). -/
structure Pend where
  storeAsync : List (MStat × Nat × Priv)
  engines : Nat
  slotOverrun : Bool
  watchmanWarn : Bool
  deadlock : Bool
  watch : Option WatchRec
deriving DecidableEq, Repr

/-- The slot a core is running (R261): its index, the class its accesses take (C0 in a slot taken for a re-run, R443), the
program table index, pass 2, the job's route and frame (routes from 64 on stand for
Hearth stages, 64 + 4h + stage), the check epoch, the outputs declared with PASS_OUT (R375), SINGLE mode, and whether its ECALL EXIT has
executed (R262). -/
structure SlotRun where
  idx : Nat
  cls : Nat
  prog : Nat
  pass2 : Bool
  route : Nat
  frame : Nat
  epoch : Nat
  outs : List (Nat × Nat)
  single : Bool
  exited : Bool
deriving DecidableEq, Repr

/-- The Vector engine's configuration: VCFG (R299) and VRQCFG (R301). -/
structure VecCfg where
  fmt : Nat
  rnd : Nat
  sat : Bool
  esel : Bool
  rot : Nat
  mult : BitVec 32
  shift : Nat
  rqrnd : Nat
  zp : BitVec 16
  lo : BitVec 16
  hi : BitVec 16
  ofmt : Nat
deriving DecidableEq, Repr

/-- The Compare engine's configuration (R314). -/
structure CmpCfg where
  atol : BitVec 32
  rtol : BitVec 32
  ulps : BitVec 32
  mode : Nat
  fmt : Nat
deriving DecidableEq, Repr

/-- A Compare result register (R316), with its armed injection as (pattern, element) (R318). -/
structure CmpReg where
  compared : Nat
  mismatch : Nat
  first : Nat
  flags : Nat
  maxAbs : Nat
  maxUlp : Nat
  inj : Option (Nat × Nat)
deriving DecidableEq, Repr

/-- The reads outside the device of the entry that an engine runs (R201): the number of its first, and what has come back, as
(address, status, bytes). -/
structure AwayRd where
  first : Nat
  got : List (Nat × MStat × List Byte)
deriving DecidableEq, Repr

/-- A Newt core (R148): the Steward's registers and level, its control and status registers by number (R221), what it is
doing and what is pending, its caches, the engines' queues and registers, the Bellhouse state that no register shows, the engines
that are withheld for a power credit or hold theirs (R771, R773), whether a debug halt lets one instruction run (R780), the reads
outside the device that engines wait for (R201), the Tensor engine's accumulators, row by row as its last TMMA left them, the
Mover's descriptor prefetch buffer (R148), and when the deadlock detector last reported the core and the device (R483). -/
structure Core where
  s : SMap Word
  p : BitVec 8
  pc : Word
  priv : Priv
  ctx : Nat
  csr : SMap Word
  stw : Stw
  dbgHalt : Bool
  pend : Pend
  slot : Option SlotRun
  icache : List Nat
  dcache : List (Nat × List Byte)
  queues : SMap (List Entry)
  t : SMap (BitVec 32)
  v : SMap (BitVec 2048)
  m : SMap (BitVec 2048)
  vcfg : VecCfg
  ccfg : CmpCfg
  cres : SMap CmpReg
  watches : List WatchRec
  pdelta : SMap (BitVec 32)
  arrived : SMap Nat
  mboxSeq : SMap Nat
  withheld : Nat
  held : Nat
  step : Bool
  away : SMap (Option AwayRd)
  acc : List Nat
  prefetch : List (List Byte)
  dlAt : Option Nat
  dlDevAt : Option Nat
deriving DecidableEq, Repr

/-- The reset value of a control and status register (R221): ESTAT and MSTAT have PPRIV 2 (M), TIMECMP is 2^64 − 1. -/
def csrReset (n : Nat) : Word :=
  if n = 0x08 ∨ n = 0x10 then 0x20 else if n = 0x24 then BitVec.allOnes 64 else 0

/-- A result register that records nothing (R316): FIRST is 0xFFFF_FFFF, everything else 0. -/
def CmpReg.empty : CmpReg := ⟨0, 0, 0xFFFFFFFF, 0, 0, 0, none⟩

/-- A core as a reset leaves it (R213, R299): every register at its reset value, no queue entry, no watch, the Steward
held until BOOT_OK or its restart starts it. -/
def Core.reset : Core where
  s := []
  p := 0
  pc := 0
  priv := .m
  ctx := 0
  csr := []
  stw := .held
  dbgHalt := false
  pend := ⟨[], 0, false, false, false, none⟩
  slot := none
  icache := []
  dcache := []
  queues := []
  t := []
  v := []
  m := []
  vcfg := ⟨9, 0, false, false, 0, 0, 0, 0, 0, 0, 0, 0⟩
  ccfg := ⟨0, 0, 0, 0, 0⟩
  cres := []
  watches := []
  pdelta := []
  arrived := []
  mboxSeq := []
  withheld := 0
  held := 0
  step := false
  away := []
  acc := []
  prefetch := []
  dlAt := none
  dlDevAt := none

/-! ### The fabric -/

/-- A tagged transaction in flight outside its engine (R201): a posted store of a Steward, or a read of a target outside
the device. `path` is the target of its ordered path (R189), `seq` its place in issue order, `epoch` the epoch of the
target recorded at issue (R137). For a load of the Steward, `dst` is the register and `kind` the op of R226; for a read of an
engine, `kind` is the number of the entry's reads (`AwayRd`). `pool` says that the tag is one of the shared pool (R202). -/
structure Outst where
  tag : Nat
  core : Nat
  unit : Nat
  write : Bool
  addr : Nat
  data : List Byte
  path : Nat
  cls : Nat
  priv : Priv
  dst : Nat
  kind : Nat
  epoch : Nat
  pool : Bool
deriving DecidableEq, Repr

/-- A guarded signal in the fabric (R468). -/
structure Marker where
  id : Nat
  core : Nat
  unit : Nat
  path : Nat
  obj : Nat
  delta : BitVec 32
  gen : Nat
  epoch : Nat
  cls : Nat
deriving DecidableEq, Repr

/-- A message between mailboxes of this device (R474). -/
structure Msg where
  src : Nat
  ctx : Nat
  dst : Nat
  mbox : Nat
  value : BitVec 64
deriving DecidableEq, Repr

/-- What is in flight in the fabric (R137–R142, R189, R468, R474, R478): tagged transactions and markers oldest first,
messages, barrier arrivals of cores (barrier, core), and barrier completions on
their way to a core (barrier, core, whether with EPOCH_CHANGED). `nextId` numbers tags and markers; `epochs`
counts the resets of the parts whose epoch no register shows: DRAM channels 0–7, and 16 + d for the link to device d. -/
structure Fabric where
  outst : List Outst
  markers : List Marker
  msgs : List Msg
  arrivals : List (Nat × Nat)
  ringArrived : SMap Nat
  completions : List (Nat × Nat × Bool)
  nextId : Nat
  epochs : SMap Nat
deriving DecidableEq, Repr

/-! ### The device, its outputs and the host's queues -/

/-- What an output of the package does (R73): driven low or high, electrically idle, released, high-impedance, or in use by its
unit. -/
inductive Drive where
  | low | high | idle | released | floats | active
deriving DecidableEq, Repr

/-- The reset state of the outputs that `Pins` does not hold as levels (R73): 0–1 PEA and PEB transmit, 2–5 Nimlink transmit, 6–7 Ethernet
transmit, 8–11 CANn_TX, 12 ETH_MDC, 13 ETH_MDIO, 14 QSPI_CLK, 15 QSPI_CS_N, 16 QSPI_IO, 17 PMIC_SPI_CLK, 18 PMIC_SPI_CS_N,
19 PMIC_SPI_MOSI, 20 TDO, 21–24 PEx_WAKE_N and PEx_CLKREQ_N, 25 PEB_PERST_N, 26 PMIC_SCL, 27 PMIC_SDA. -/
def padReset (n : Nat) : Drive :=
  if n < 8 then .idle
  else if n < 12 then .floats
  else if n = 15 ∨ n = 18 then .high
  else if n = 12 ∨ n = 14 ∨ n = 17 ∨ n = 19 then .low
  else if n = 13 ∨ n = 16 ∨ n = 20 ∨ n = 25 then .floats
  else .released

/-- The outputs of the package: fault heartbeat levels, waveforms of STO_HS and levels of STO_LS, DISPVALID and TPO as
masks (R66, R91, R98), and the other outputs by their number in `padReset` (R73). -/
structure Pins where
  faultA : Bool
  faultB : Bool
  stoHs : Nat
  stoLs : Nat
  dispValid : Nat
  tpo : Nat
  sitpA : Nat
  sitpB : Nat
  pads : SMap Drive
deriving DecidableEq, Repr

/-- A command that takes effect at a frame boundary (R108). -/
inductive StopKind where
  | stop | service | warm
deriving DecidableEq, Repr

/-- The device-wide state that no register shows: the redundancies lost, tracked in every state (R789, bit k for bit 8 + k
of DEVICE.STATE); the STOP, ENTER_SERVICE and warm restart commands that wait for their boundary, with the identifiers of
their commands (R108); a REVALIDATE whose validation runs (R106); whether PORST_N or PGOOD is low; the state HOLD was
entered from (R106); whether the Verifier logic is held in reset for a warm restart and whether that restart was announced
(R99, R130); the firmware entry address and whether an image is retained for a warm restart (R131, R213); the core whose
spare serves for it (R126, failed core to spare); whether the recovery mailbox is open,
whether the Verifier is without power, whether the settings are loaded and locked (R121), and whether the fields that
stay locked until cold reset are (SAFETY.CFG, WATCH.LADDER), and the failed retrain attempts in a row per channel (R177);
whether it is PGOOD that is low, the DRAM channels in service, failed for good and being rebuilt when the Verifier logic was
last reset (R131, R177), whether a frame boundary has come since a command began to wait for it (R108), whether the self-test in
progress is the reduced one (R790), the image that RECOVER took from the mailbox (R117), and the TB2 times of the uncorrectable
errors of each DRAM channel within the last second (R174). -/
structure Dev where
  lost : Nat
  stopReq : List (StopKind × Nat)
  reval : Option Nat
  pinLow : Bool
  holdFrom : Nat
  warmHeld : Bool
  announced : Bool
  entry : Word
  imageKept : Bool
  moved : SMap Nat
  mailbox : Bool
  off : Bool
  setOk : Bool
  cfgLocked : Bool
  retrains : SMap Nat
  pgoodLow : Bool
  chUp : Nat
  chDead : Nat
  chBuild : Option Nat
  stopDue : Bool
  reduced : Bool
  mailImage : Option (List Byte)
  uncorr : SMap (List Nat)
deriving DecidableEq, Repr

/-- The Reeve as the spec shows it: whether its program runs, the trip latch of each die (R559), whether the Reeve link is
up, the DEVICE.STATE that it last received (R99), the TB2 time at which grace
ends (R39), the scans missed in a row on each side (R552), the notices sent (R112), whether REEVE_PORST_N holds the die and the
crier in reset (R98), and the rails whose last reading was outside its tolerance (R87). -/
structure Reeve where
  running : Bool
  tripA : Bool
  tripB : Bool
  linkUp : Bool
  lastState : Nat
  graceUntil : Nat
  missA : Nat
  missB : Nat
  notices : Nat
  inReset : Bool
  railOut : Nat
deriving DecidableEq, Repr

/-- An entry of a completion queue (R732). -/
structure CqEntry where
  cid : Nat
  status : Nat
  kind : Nat
  sqHead : Nat
  phase : Bool
  info : Nat
deriving DecidableEq, Repr

/-- A command of a submission queue that has started and not completed (R733). -/
structure InProg where
  cid : Nat
  opc : Nat
deriving DecidableEq, Repr

/-- A record written to a verdict ring (R411, R742). -/
structure Record where
  route : Nat
  frame : Nat
  status : Nat
  bytes : List Byte
deriving DecidableEq, Repr

/-- A host function (R730–R743): the submission queue's head and tail, the completion queue's write index, phase and unfreed
entries, what waits for a free slot, the commands in progress, the verdict ring's count, the records written and not yet
consumed, the entries not yet signalled per vector (R744), and the last bytes the device wrote to a host buffer (R731). -/
structure Fn where
  sqHead : Nat
  sqTail : Nat
  cqIdx : Nat
  cqPhase : Bool
  cq : List CqEntry
  waiting : List CqEntry
  inprog : List InProg
  vrCount : Nat
  vrHead : Nat
  vr : List Record
  unsig : SMap Nat
  wrote : Option (Nat × List Byte)
deriving DecidableEq, Repr

/-- A function with its queues reset (R730, R732: the phase is 1 on the first pass). -/
def Fn.reset : Fn := ⟨0, 0, 0, true, [], [], [], 0, 0, [], [], none⟩

/-- The halves of 64-bit accesses in progress, per master and register (R23): high halves latched by a read of the low
half, and low halves staged by a write. -/
structure Halves where
  latched : List (Master × Nat × BitVec 32)
  staged : List (Master × Nat × BitVec 32)
deriving DecidableEq, Repr

/-! ### Time -/

/-- The Sundial: the time bases TB0–TB2 in nanoseconds (R614), the fractions of TB0 and TB1 in units of 10^−12 ns (R615),
the servo's integral term of TB0 and TB1 (R627), the successive link-delay responses per port and the Syncs accepted
before first lock per base (R626), the TB2 time of the entry to HOLDOVER per base, forwarded sequence identifiers with their
sums per egress port (R623), two-step Syncs that wait for their Follow_Up as (port, sequence, TB2 and base at ingress), the
Announce of each port as (priority vector, grandmaster) (R621, R622), and per pulse output the next pulse and the TB2 time
until which it is high (R631). -/
structure Sun where
  tb : SMap Nat
  frac : SMap Nat
  integ : SMap Int
  conv : SMap Nat
  syncs : SMap Nat
  holdAt : SMap Nat
  fwd : SMap (List (Nat × Nat))
  twoStep : List (Nat × Nat × Nat × Nat)
  ann : SMap (Nat × Nat)
  tpoNext : SMap Nat
  tpoUntil : SMap Nat
deriving DecidableEq, Repr

/-- The Sundial at cold reset. -/
def Sun.reset : Sun := ⟨[], [], [], [], [], [], [], [], [], [], []⟩


/-! ### Programs, watch jobs and verdicts -/

/-- A loaded program (R257, R260): its index in the program table, class, FLAGS, entry offset, sizes, engine mask, security
version, digest, and where code and data were placed; whether it runs in SINGLE pass mode (R380). -/
structure Prog where
  idx : Nat
  cls : Nat
  flags : Nat
  entry : Nat
  codeSize : Nat
  dataSize : Nat
  engines : Nat
  secver : Nat
  digest : List Byte
  code : Nat
  data : Nat
  single : Bool
deriving DecidableEq, Repr

/-- A PAIR_MODE waiting for its boundary (R382): program, SINGLE requested, function and command identifier. -/
structure ModeReq where
  prog : Nat
  single : Bool
  fn : Nat
  cid : Nat
deriving DecidableEq, Repr

/-- A tensor entry of a watch-job descriptor (R403). -/
structure Tensor where
  addr : Nat
  bytes : Nat
  tag : Nat
  push : Bool
  result : Bool
deriving DecidableEq, Repr

/-- A finished check reported for a layer and credited (R358): layer, vectors, excluded rows, elements compared. -/
structure LayerCredit where
  idx : Nat
  vecs : Nat
  excluded : Nat
  compared : Nat
deriving DecidableEq, Repr

/-- An accepted watch job (R403–R410) with what its check has found: its pulled tensors still to be read and those
reissued, the time its inputs were complete, whether they are lost, a refusal or delay (R444), whether it has run
or must be run again (R129), the exit code, how it ended otherwise, its failed layer as (index, reason), its credits, whether a
later end must be dropped, whether it used SINGLE mode, and the result bytes. `states` are the window states of a display route (R517). -/
structure Job where
  route : Nat
  frame : Nat
  job : Nat
  client : Nat
  cls : Nat
  bundle : Nat
  tensors : List Tensor
  states : List Nat
  pulls : List Nat
  reissued : List Nat
  doorbell : Bool
  lost : Bool
  inputsAt : Option Nat
  inputsTb : Nat
  refused : Bool
  delay : Nat
  ran : Bool
  rerun : Bool
  exitCode : Option Nat
  overrun : Bool
  pairNone : Bool
  engErr : Bool
  failed : Option (Nat × Nat)
  credits : List LayerCredit
  single : Bool
  core : Nat
  result : List Byte
deriving DecidableEq, Repr

/-- A frame of a route that is not yet committed (R415, R420): its number, the TB2 time of its start, the check epoch and
age in force (R339, R341), the TB2 time of its PROVISIONAL commit with that record's JOB, and whether its boundary found the route's
program in SINGLE mode (R384). -/
structure OpenFrame where
  frame : Nat
  start : Nat
  epoch : Nat
  age : Nat
  prov : Option (Nat × Nat)
  single : Bool
deriving DecidableEq, Repr

/-- The constants of a FIXEDB layer for one check vector (R330, R331, R345): of an EXACT layer w and β₀ as residues with the sum of w,
of a BOUNDED one ŵ and β as F32 bits. -/
structure LayerConst where
  idx : Nat
  vec : Nat
  w : List Nat
  beta : List Nat
  bias : Nat
  wsum : Nat
deriving DecidableEq, Repr

/-- A check epoch's vectors and constants (R337, R343): its number, the draw of the random source that its vectors begin with, VECS
and MAXN, the bundle that its constants come from and whether they are ready, and the constants. -/
structure CheckEpoch where
  num : Nat
  draw : Nat
  vecs : Nat
  maxN : Nat
  bundle : Nat
  ready : Bool
  consts : List LayerConst
deriving DecidableEq, Repr

/-- What a route keeps between frames: frames open in order, the next SEQ, the epoch with its age (R339), the status of the
last record since START or RS_OK (0 none), the boundaries of SOURCE since the last PASS or SUBSTITUTED one (R597), the
bundle of the epoch's constants (R343), the latest frames with an accepted job (R404), those answered LATE_SUBMIT
with 2^32 added, the epochs that its open frames use, newest last (R341), the vectors prepared for the next one (R340), and whether
its layer table has been validated, with the frame that found it invalid (R328). -/
structure RouteSt where
  frames : List OpenFrame
  seq : Nat
  epoch : Nat
  age : Nat
  lastStatus : Nat
  sinceGood : Nat
  bundle : Nat
  taken : List Nat
  epochs : List CheckEpoch
  prep : Option CheckEpoch
  tableSeen : Bool
  tableBad : Option Nat
deriving DecidableEq, Repr

/-- A pass of a paired program that has ended (R364, R376): core, program, route and frame, and its declared outputs and
exit code; `final` once the pair (or the one pass of SINGLE mode) is complete. -/
structure PassOut where
  core : Nat
  prog : Nat
  route : Nat
  frame : Nat
  outs : List (Nat × Nat)
  code : Nat
  final : Bool
deriving DecidableEq, Repr

/-- The Hearth result of a network (R425): the last frame each stage completed, and the output of the last stage. -/
structure HearthSt where
  done : SMap Nat
  addr : Nat
  len : Nat
  single : Bool
deriving DecidableEq, Repr

/-- The supervised accelerator restart (R428–R430): the TB2 times of the request and of the window's opening, and the TB2 times
of the failed restarts. -/
structure Restart where
  posted : Nat
  opened : Nat
  failedAt : List Nat
deriving DecidableEq, Repr

/-- What the settings in force declare where the spec names a declaration and gives its setting no layout (R750; log entry 22):
the Hearth networks of HEARTH, each as its input tap and the program indexes of its stages (R424); the entries of PROGRAMS as
digest, class and counter index; the program indexes that PAIRED marks (R363); BUNDLES as pairs of BUNDLE_ID and counter index. -/
structure Declared where
  hearth : List (Nat × List Nat)
  progs : List (List Byte × Nat × Nat)
  paired : List Nat
  bundles : List (Nat × Nat)
deriving DecidableEq, Repr

/-- Nothing declared: no settings are in force, or every such setting is absent (R792). -/
def Declared.nothing : Declared := ⟨[], [], [], []⟩

/-- What the device holds for programs, jobs and verdicts. `settings` are the settings in force by identifier (R750), and
`decl` is what they declare. -/
structure Jobs where
  settings : List (Nat × List Byte)
  decl : Declared
  progs : List Prog
  modeReqs : List ModeReq
  jobs : List Job
  routes : SMap RouteSt
  passes : List PassOut
  hearth : SMap HearthSt
  restart : Restart
  inbox : SMap Byte
  inboxGen : Nat
  inboxLock : SMap Nat
deriving DecidableEq, Repr

/-- A route before its first frame. -/
def RouteSt.empty : RouteSt := ⟨[], 0, 0, 0, 0, 0, 0, [], [], none, false, none⟩
/-- A network before its first result. -/
def HearthSt.empty : HearthSt := ⟨[], 0, 0, false⟩

/-! ### Vehicle networks -/

/-- A copy of a paired safety frame queued on a network (R637–R640): its stream, its envelope, and the TB2 time it was
queued. -/
structure NetFrame where
  stream : Nat
  bytes : List Byte
  queued : Nat
deriving DecidableEq, Repr

/-- An open pairing window (R643): receive stream, ALIVE value, the copy that opened it, its network side, and the TB2
time it opened. -/
structure PairWin where
  stream : Nat
  alive : Nat
  side : Nat
  bytes : List Byte
  opened : Nat
deriving DecidableEq, Repr

/-- The vehicle networks: egress queues by network (0–1 ETH0–ETH1, 2–5 CAN0–CAN3), ALIVE counters of the sent streams, open
pairing windows, ALIVE values already decided per stream, the saved COUNT of each stream and side plus 1 (0 when none
was accepted), and the TB2 time each link went down. -/
structure Net where
  egress : SMap (List NetFrame)
  alive : SMap Nat
  wins : List PairWin
  decided : SMap (List Nat)
  rxCount : SMap Nat
  downAt : SMap Nat
deriving DecidableEq, Repr


/-! ### Taps -/

/-- What a tap keeps besides its registers (R494–R518): the history of the Blink detector as (signature, frame number,
marker), the running signature, the marker of the frame, whether the frame is synthetic, marked RATE, incomplete, ended,
or stored, the CSI-2 frame number before this frame's, whether the last two boundaries were real, the TB2 time of the
last dropped Frame Start, the outcomes of recent frames, the ring buffers with the frames they hold, and the running
CRC of each telltale window with its lines done and the windows that have failed. -/
structure TapSt where
  hist : Option (Nat × Nat × Nat)
  sig : Nat
  marker : Option Nat
  synth : Bool
  rate : Bool
  incomplete : Bool
  ended : Bool
  stored : Bool
  prevFn : Nat
  prevReal : Bool
  droppedAt : Nat
  outcomes : List (Nat × Nat)
  bufs : List (Nat × Nat)
  embSeen : Bool
  wrun : SMap Nat
  wlines : SMap Nat
  wfail : Nat
deriving DecidableEq, Repr

/-- A tap in IDLE with no history (R495). -/
def TapSt.idle : TapSt := ⟨none, 0, none, false, false, false, false, false, 0, false, 0, [], [], false, [], [], 0⟩

/-- An expectation of a chime (R524): client, chime, the TB2 time of its latest start, the TB2 time since which blocks have
hit without a gap, and the milliseconds hit. -/
structure ChimeExp where
  client : Nat
  chime : Nat
  latest : Nat
  since : Option Nat
  hitMs : Nat
deriving DecidableEq, Repr



/-! ### Safe I/O and supervision -/

/-- A verdict chain of one channel (R551): the CRC so far with its count of records, and the records not yet old enough to be
folded in, as (scan tag, CRC field). -/
structure Chain where
  crc : Nat
  count : Nat
  pend : List (Nat × Nat)
deriving DecidableEq, Repr

/-- The parameter set of the Reeve's MRAM with its password record and change log (R587, R608–R613): the set in force, the
staged set, the open change session as (the TB2 time at which it ends, operator), the password as (salt, hash), the failed verifications in
a row, the lockouts in a row with the end of the last, and the log's 512 entries by position. -/
structure Param where
  set : List Byte
  staged : Option (List Byte)
  session : Option (Nat × List Byte)
  password : Option (List Byte × List Byte)
  fails : Nat
  locks : Nat
  lockUntil : Nat
  log : SMap (List Byte)
  logSeq : Nat
deriving DecidableEq, Repr

/-- The logic of the safe I/O, the same in both channels (R590–R605). Contacts are numbered 2i for A and 2i + 1 for B of pair
i; readbacks c for the high and 4 + c for the low side. `used` is the level each contact's filter last used, `cnt` the
filter counts, `disc` the scans of discrepancy, `quiet` the scans since a fault without a demand for ON, `passed` the
contacts that have passed a pulse since; `diff` the sample discrepancies of
the last compared scan, channel A's below bit 24 and B's above; `run` and `permit`
the announced values, `zero` the channels whose RUN was announced 0 since the interlock; `bad` the readbacks wrong at the last
strobe, `fresh` the switches changed at it, `off` the strobes with both readbacks off; `rawA` and `rawB` the sampled
balls (bits 15–0 SIN in record order, 23–16 readbacks), `due` the channels (bit 0 A, bit 1 B) that have not yet
compared this scan's records, `missed` whether this scan's record is missing at A, `test` the switches opened for an output
test, `pulse` the contact being pulsed. -/
structure Sio where
  used : Nat
  cnt : SMap Nat
  disc : SMap Nat
  quiet : SMap Nat
  passed : Nat
  diff : Nat
  run : Nat
  permit : Nat
  zero : Nat
  bad : Nat
  fresh : Nat
  off : SMap Nat
  rawA : Nat
  rawB : Nat
  due : Nat
  missed : Bool
  test : Nat
  pulse : Option Nat
  chainA : Chain
  chainB : Chain
deriving DecidableEq, Repr

/-- What the Reeve keeps of the watchmen and the rotating tests (R578, R579, R567, R570): the TB2 times of the expiries by
core, of the ladder warm restarts, the demand not yet begun, the slice in progress per rotation (16 cores, 16 the
Verifier's, 17 the Reeve's), the TB2 time since which some pair has served single, whether the device watchman stands stopped
until it is enabled or a HELLO lets it count again (R573, R577). -/
structure Ladder where
  expiries : SMap (List Nat)
  restarts : List Nat
  demand : Option Nat
  slices : SMap Nat
  single : Option Nat
  wdStopped : Bool
deriving DecidableEq, Repr

/-- The parameter set of delivery (R588), byte by byte. -/
def deliveryByte (i : Nat) : Byte :=
  let le := fun (v k : Nat) => BitVec.ofNat 8 (v / 256 ^ k)
  if i < 4 then le 0x53494F50 i
  else if i = 4 then 1
  else if i = 0x0C then 20
  else if i = 0x0E then 100
  else if 0x10 ≤ i ∧ i < 0x50 then (if i % 8 = 2 then 10 else if i % 8 = 4 then 100 else 0)
  else if 0x50 ≤ i ∧ i < 0x70 then
    (if i % 8 = 3 then 3 else if i % 8 = 4 then le 10000 0 else if i % 8 = 5 then le 10000 1 else 0)
  else if i = 0x9C then le 0x88B5 0
  else if i = 0x9D then le 0x88B5 1
  else 0

/-- The parameter set of delivery (R588). -/
def deliverySet : List Byte := (List.range 512).map deliveryByte

/-- A chain as it starts (R551): the initial value of unit 0's CRC-32. -/
def Chain.start : Chain := ⟨0xFFFFFFFF, 0, []⟩

/-- Safe-I/O logic with every input off and no history. -/
def Sio.start : Sio :=
  ⟨0, [], [], [], 0, 0, 0, 0, 0, 0, 0, [], 0, 0, 0, false, 0, none, Chain.start, Chain.start⟩



/-! ### The settings store -/

/-- The MRAM of the settings store beyond the registers of the NVM page (R747, R748, R765): the six physical slots and the
staging buffer byte by byte, the log's 1,024 entries by position, and the retained-count record (R581: the eight counts of
WATCH.RETAIN and WATCH.LASTTRIP). `force` is the bank in force, whether it is the older one, and its
DIGEST (R130, R753). `fwSecver` and `fwDigest` are the security version and DIGEST of the
firmware running (R693, R762). -/
structure Nvm where
  slots : SMap (SMap Byte)
  staging : SMap Byte
  log : SMap (List Byte)
  record : List Nat
  force : Option (Bool × Bool × List Byte)
  fwSecver : Nat
  fwDigest : List Byte
deriving DecidableEq, Repr


/-! ### The Keep -/

/-- A loaded weight bundle (R701, R705): slot, identifier, security version, class, handle, where its plaintext lies and its
size, and the digest. -/
structure Bundle where
  slot : Nat
  id : Nat
  secver : Nat
  cls : Nat
  handle : Nat
  addr : Nat
  size : Nat
  digest : List Byte
deriving DecidableEq, Repr

/-- An SPDM session (R691): its identifier, the port of its mailbox, whether FINISH has completed it, and its IDE key
sets in use as (stream, key set) (R697). -/
structure Spdm where
  id : Nat
  port : Nat
  fin : Bool
  ide : List (Nat × Nat)
deriving DecidableEq, Repr

/-- The last answer of the SPDM responder on a mailbox (R691–R693, R697): nothing yet, a message with what this model gives it
(session identifier, measurement blocks as index and content), or an error. -/
inductive SpdmAns where
  | silent
  | version
  | capabilities
  | algorithms
  | digests
  | certificate
  | challenge
  | measurements (l : List (Nat × List Byte))
  | session (id : Nat)
  | finished
  | ended
  | beat
  | updated
  | ideQuery
  | ideGo
  | ideStop
  | errBusy
  | errLimit
  | errOther
deriving DecidableEq, Repr

/-- The Keep beyond its registers: the lifecycle fuses (R685, R686), whether the random source serves and whether it has delivered its
first good seed (R109), its requests and the
TB2 time since the last seed, and the TB2 time of a health failure without a seed since (R708, R709), the loaded bundles
with the count of loads since cold reset (R705), how far each mailbox's negotiation has come (0 nothing, 1 version, 2
capabilities, 3 algorithms), the sessions (R691), and the last answer per mailbox. -/
structure KeepSt where
  lcs : Nat
  rng : Bool
  seeded : Bool
  reqs : Nat
  seedAt : Nat
  failAt : Option Nat
  bundles : List Bundle
  loads : Nat
  nego : SMap Nat
  sessions : List Spdm
  doe : SMap SpdmAns
deriving DecidableEq, Repr


/-! ### Nimlink -/

/-- What Nimlink keeps besides its registers (R651–R683): the present roll epoch, the reports and the agreements of its roll
call with the digest of the own map, the TB2 times at which each port completed step 4, the reports of the committed map,
the TB2 time at which NIMLINK was enabled, the generation of each port's link keys, the frame named by a HAND_BACK plus 1
per duplicated route, and the last answer to a remote request. -/
structure Nim where
  epoch : Nat × Nat
  reports : List NimReport
  agrees : List (Nat × List Byte)
  digest : List Byte
  ups : SMap (List Nat)
  map : List NimReport
  enabledAt : Nat
  keys : SMap Nat
  back : SMap Nat
  reply : Option (MStat × List Byte)
deriving DecidableEq, Repr

/-- Nimlink after a reset. -/
def Nim.reset : Nim := ⟨(0, 0), [], [], [], [], [], 0, [], [], none⟩



/-! ### Power -/

/-- What the power manager keeps besides its registers: the TB2 time since which the live pool stands at C0_RESERVE (R777),
that of the last good PMIC read (R779), and per domain the TB2 time before which an abandoned gating is not retried (R143). -/
structure Power where
  atReserve : Option Nat
  lastRead : Nat
  retryAt : SMap Nat
deriving DecidableEq, Repr

/-! ### Debug -/

/-- A trace record (R784): time, core, kind (1 branch target, 2 exception, 3 slot start, 4 slot end, 5 dispatch,
6 completion) and value. -/
structure TraceRec where
  time : Nat
  core : Nat
  kind : Nat
  val : Nat
deriving DecidableEq, Repr

/-! ### The state -/

/-- A loss of the contents of a region of memory: the region (DRAM channels 0–7, scratchpads 8–23, Pond SRAM 24–27), the
generation of its free bytes (0 when it was cleared to 0), and the address ranges [lo, hi) whose contents survived,
because their mirror held them (R177). -/
structure Loss where
  region : Nat
  gen : Nat
  keep : List (Nat × Nat)
deriving DecidableEq, Repr

/-- The state of the block. `pending` is the queue of commands, first in first out. `regs` holds every register of the
control window that differs from its reset value, by window offset (R16). `mem` holds DRAM, Pond SRAM and scratchpads
by physical address; a byte not listed reads as the last loss of its region's contents in
`memGen` left it (log entry 4). `poison` lists the poisoned 64-byte lines of Pond SRAM, `ecc` the errors of DRAM and SRAM by 64-byte block (1
correctable, 2 not), each copy of a mirrored block under its own address. `freeCtr` is the model's own counter of free values drawn. -/
structure State where
  pending : List Instr
  regs : SMap (BitVec 64)
  mem : List Host.Cell
  memGen : List Loss
  poison : List Nat
  ecc : SMap Nat
  cores : SMap Core
  fab : Fabric
  pins : Pins
  dev : Dev
  reeve : Reeve
  fns : SMap Fn
  irqs : SMap Nat
  halves : Halves
  sun : Sun
  samples : SMap Nat
  jobs : Jobs
  net : Net
  taps : SMap TapSt
  chimes : List ChimeExp
  cvuSeen : Nat
  param : Param
  sio : Sio
  ladder : Ladder
  nvm : Nvm
  keep : KeepSt
  nim : Nim
  power : Power
  trace : List TraceRec
  freeCtr : Nat
deriving DecidableEq, Repr

/-- Who stops a step, and why. No command of this block ends in a fault: every access to an address that does not exist
completes with a status (R160, R188), so this type has no constructor. -/
inductive Fault where
deriving DecidableEq, Repr

/-- Why a command is refused. `notModelled` is raised by the dispatch of a command whose meaning is not written yet; it
is safe, the model only does less than the device. -/
inductive Refusal where
  | notModelled (mnemonic : String)
deriving DecidableEq, Repr

/-- The block at power-on: every register at the value of its Reset column, memory and queues empty, every core held. -/
def State.reset : State where
  pending := []
  regs := []
  mem := []
  memGen := []
  poison := []
  ecc := []
  cores := []
  fab := ⟨[], [], [], [], [], [], 0, []⟩
  pins := ⟨false, false, 0, 0, 0, 0, 0, 0, []⟩
  dev := ⟨0, [], none, false, 0, false, false, 0, false, [], false, false, false, false, [], false, 0, 0, none, false, false, none, []⟩
  reeve := ⟨false, false, false, false, 0, 0, 0, 0, 0, false, 0⟩
  fns := []
  irqs := []
  halves := ⟨[], []⟩
  sun := Sun.reset
  samples := []
  jobs := ⟨[], Declared.nothing, [], [], [], [], [], [], ⟨0, 0, []⟩, [], 0, []⟩
  net := ⟨[], [], [], [], [], []⟩
  taps := []
  chimes := []
  cvuSeen := 0
  param := ⟨deliverySet, none, none, none, 0, 0, 0, [], 0⟩
  sio := Sio.start
  ladder := ⟨[], [], none, [], none, false⟩
  nvm := ⟨[], [], [], [], none, 0, []⟩
  keep := ⟨2, false, false, 0, 0, none, [], 0, [], [], []⟩
  nim := Nim.reset
  power := ⟨none, 0, []⟩
  trace := []
  freeCtr := 0

end Sys2Proof.Machine
end

