-- ==== Sys2Proof/Machine/Ops.lean ====
section
/-! DEFINITION. The named operations over the control window's registers, memory and the cores, on which every meaning is
built. -/
namespace Sys2Proof.Machine

/-- What a command's meaning answers. -/
abbrev Step := Host.Outcome State Fault Refusal

/-! ### Register words -/

/-- A field of a register word (R14). -/
def Fld.get (f : Fld) (x : BitVec 64) : Nat := x.toNat / 2 ^ f.lo % 2 ^ f.w

/-- A register word with a field replaced; the value is cut to the field's width. -/
def Fld.put (f : Fld) (x : BitVec 64) (v : Nat) : BitVec 64 :=
  BitVec.ofNat 64 (x.toNat - x.toNat / 2 ^ f.lo % 2 ^ f.w * 2 ^ f.lo + v % 2 ^ f.w * 2 ^ f.lo)

/-- What is left of an offset after the instance indexes of a register row, if the offset falls in an instance. -/
def levelsRem : List (Nat × Nat) → Nat → Option Nat
  | [], r => some r
  | (st, n) :: t, r => if r / st < n then levelsRem t (r % st) else none

/-- The row of a register page that an offset falls in, with the byte of the register it names. -/
def rowAt : List RegRow → Nat → Option (RegRow × Nat)
  | [], _ => none
  | r :: t, off =>
    if off < r.off then rowAt t off else
    match levelsRem r.levels (off - r.off) with
    | none => rowAt t off
    | some b => if b < (if r.wide then 8 else 4) then some (r, b) else rowAt t off

/-- The register tables of the page an offset of the control window lies in (R16). -/
def pageRows (off : Nat) : List RegRow :=
  match off / 0x10000 with
  | 0x00 => rowsDEVICE
  | 0x01 => rowsSAFETY
  | 0x02 => rowsSAFEIO
  | 0x03 => rowsWATCH
  | 0x04 => rowsSUNDIAL
  | 0x05 => rowsBELL
  | 0x06 => rowsKEEP
  | 0x07 => rowsNVM
  | 0x08 => rowsCVU
  | 0x09 => rowsTAP
  | 0x0A => rowsPART
  | 0x0B => rowsMEMC
  | 0x0C => rowsPCIE ++ rowsPCIEA
  | 0x0D => rowsPCIE
  | 0x0E => rowsETH
  | 0x0F => rowsCAN
  | 0x10 => rowsNIM
  | 0x11 => rowsPWR
  | 0x12 => rowsDBG
  | 0x13 => rowsVERD
  | 0x14 => rowsHEARTH
  | n => if 0x20 ≤ n ∧ n < 0x30 then rowsCORE else if 0x30 ≤ n ∧ n < 0x34 then rowsPOND else []

/-- The register an offset of the control window falls in, with the byte of it (R22: `none` names no register). -/
def regAt (off : Nat) : Option (RegRow × Nat) := rowAt (pageRows off) (off % 0x10000)

/-- The reset word of a register from its fields (R18). -/
def resetWord : List FieldRow → Nat
  | [] => 0
  | f :: t => f.reset * 2 ^ f.lo + resetWord t

/-- What a register reads as after power-on reset (R18), by its offset. -/
def regReset (off : Nat) : BitVec 64 :=
  match regAt off with
  | some (r, 0) => BitVec.ofNat 64 (resetWord r.fields)
  | _ => 0

/-- The word of the register at an offset of the control window. -/
def State.reg (s : State) (off : Nat) : BitVec 64 := SMap.get regReset s.regs off

/-- The state with the register at an offset replaced. -/
def State.setReg (s : State) (off : Nat) (v : BitVec 64) : State :=
  { s with regs := SMap.set regReset s.regs off v }

/-- A field of the control window. -/
def State.fld (s : State) (f : Fld) : Nat := f.get (s.reg f.off)

/-- The state with a field of the control window replaced. -/
def State.setFld (s : State) (f : Fld) (v : Nat) : State := s.setReg f.off (f.put (s.reg f.off) v)

/-- Whether a one-bit field is 1. -/
def State.flag (s : State) (f : Fld) : Bool := s.fld f == 1

/-- A counting field increased, saturating at the field's greatest value. -/
def State.satAdd (s : State) (f : Fld) (n : Nat) : State := s.setFld f (min (s.fld f + n) (2 ^ f.w - 1))

/-- A counting field increased by 1, saturating. -/
def State.satInc (s : State) (f : Fld) : State := s.satAdd f 1

/-- A field increased by 1, wrapping. -/
def State.wrapInc (s : State) (f : Fld) : State := s.setFld f (s.fld f + 1)

/-- Whether bit `i` of a number is 1. -/
def bit (x i : Nat) : Bool := x / 2 ^ i % 2 == 1

/-- A number with bit `i` set. -/
def setBit (x i : Nat) : Nat := if bit x i then x else x + 2 ^ i

/-- A number with bit `i` cleared. -/
def clrBit (x i : Nat) : Nat := if bit x i then x - 2 ^ i else x

/-- Bit `i` of a field set. -/
def State.fldBitSet (s : State) (f : Fld) (i : Nat) : State := s.setFld f (setBit (s.fld f) i)

/-- Bit `i` of a field cleared. -/
def State.fldBitClr (s : State) (f : Fld) (i : Nat) : State := s.setFld f (clrBit (s.fld f) i)

/-- A function applied for each number below `n`, in rising order. -/
def State.iter (s : State) (n : Nat) (g : Nat → State → State) : State :=
  (List.range n).foldl (fun s i => g i s) s

/-! ### Variant -/

/-- The cores a variant has (DEVICE.CAPS.CORE_MASK, R6). -/
def State.hasCore (s : State) (n : Nat) : Bool := n < 16 && bit (s.fld R.DEVICE_CAPS_CORE_MASK) n

/-- A Pond is present when its first core is (R3, R7). -/
def State.hasPond (s : State) (m : Nat) : Bool := s.hasCore (4 * m)

/-- Whether the variant has Nimlink (R3). -/
def State.hasNim (s : State) : Bool := s.flag R.DEVICE_CAPS_NIMLINK

/-- Whether the variant has PCIe port B (R3). -/
def State.hasPortB (s : State) : Bool := s.flag R.DEVICE_CAPS_PCIEB

/-- Whether the variant has display taps (R3). -/
def State.hasDisp (s : State) : Bool := s.flag R.DEVICE_CAPS_DISPTAP

/-! ### Cores -/

/-- The state of core `n`. -/
def State.core (s : State) (n : Nat) : Core := SMap.get (fun _ => Core.reset) s.cores n

/-- The state with core `n` replaced. -/
def State.setCore (s : State) (n : Nat) (k : Core) : State :=
  { s with cores := SMap.set (fun _ => Core.reset) s.cores n k }

/-- The state with core `n` changed by a function. -/
def State.modCore (s : State) (n : Nat) (g : Core → Core) : State := s.setCore n (g (s.core n))

/-- A scalar register; s0 reads as 0 (R211). -/
def Core.sreg (k : Core) (r : Nat) : Word := if r = 0 then 0 else SMap.get (fun _ => 0) k.s r

/-- A core with a scalar register written; writes to s0 are discarded (R211). -/
def Core.setS (k : Core) (r : Nat) (v : Word) : Core :=
  if r = 0 then k else { k with s := SMap.set (fun _ => 0) k.s r v }

/-- A predicate register; p0 reads as 1 (R212). -/
def Core.preg (k : Core) (r : Nat) : Bool := r == 0 || k.p.getLsbD r

/-- A core with a predicate register written; writes to p0 are discarded (R212). -/
def Core.setP (k : Core) (r : Nat) (v : Bool) : Core :=
  if r = 0 then k else
  { k with p := if v then k.p ||| (1#8 <<< r) else k.p &&& ~~~(1#8 <<< r) }

/-- The stored word of a control and status register. -/
def Core.rdCsr (k : Core) (n : Nat) : Word := SMap.get csrReset k.csr n

/-- A core with the stored word of a control and status register replaced. -/
def Core.wrCsr (k : Core) (n : Nat) (v : Word) : Core := { k with csr := SMap.set csrReset k.csr n v }

/-- The queue of an engine, head first. -/
def Core.queue (k : Core) (e : Nat) : List Entry := SMap.get (fun _ => []) k.queues e

/-- A core with an engine's queue replaced; the reads outside the device of an entry that is gone are forgotten. -/
def Core.setQueue (k : Core) (e : Nat) (q : List Entry) : Core :=
  { k with
    queues := SMap.set (fun _ => []) k.queues e q
    away := if q.isEmpty then SMap.set (fun _ => Option.none) k.away e none else k.away }

/-- A core whose engine has finished the entry at the head of its queue. -/
def Core.popQueue (k : Core) (e : Nat) : Core :=
  { k.setQueue e ((k.queue e).drop 1) with away := SMap.set (fun _ => Option.none) k.away e none }

/-- The number of a level in PRIV and PPRIV (R221). -/
def Priv.code : Priv → Nat
  | .u => 0
  | .s => 1
  | .m => 2

/-- The level a PPRIV field names; 3 names none and is taken as M (log entry 7). -/
def Priv.ofCode (n : Nat) : Priv := if n = 0 then .u else if n = 1 then .s else .m

/-- Whether a level may do what needs another (R215). -/
def Priv.atLeast (p q : Priv) : Bool := q.code ≤ p.code

/-- The next free value of the model's counter, and the state with it drawn (log entry 6). -/
def State.draw (s : State) : Nat × State := (Config.freeNat s.freeCtr, { s with freeCtr := s.freeCtr + 1 })

/-! ### Device state codes -/

/-- DEVICE.STATE.STATE codes. -/
def stBOOT : Nat := 1
def stSELFTEST : Nat := 2
def stHOLD : Nat := 3
def stREADY : Nat := 4
def stSERVING : Nat := 5
def stDEGRADED : Nat := 6
def stRESTART : Nat := 7
def stTRIPPED : Nat := 8
def stSERVICE : Nat := 9

/-- The present device state (R101). -/
def State.st (s : State) : Nat := s.fld R.DEVICE_STATE_STATE

/-- Whether the device is in SERVING or DEGRADED. -/
def State.serving (s : State) : Bool := s.st == stSERVING || s.st == stDEGRADED

/-- CORESTATE of core `n` (R124). -/
def fCoreState (n : Nat) : Fld := ⟨R.DEVICE_CORESTATE, 4 * n, 4⟩

/-- CORESTATE codes (R124). -/
def csABSENT : Nat := 0
def csTEST : Nat := 1
def csSERVING : Nat := 2
def csSPARE : Nat := 3
def csRESTARTING : Nat := 4
def csFAILED : Nat := 5
def csQUIET : Nat := 6

/-! ### Addresses -/

/-- Where a physical address leads (R160–R163): memory (DRAM, scratchpads, Pond SRAM) at its absolute address, an offset
of the control window, of the PCIe outbound window or of a Nimlink view, or nowhere. -/
inductive Loc where
  | mem (pa : Nat)
  | ctl (off : Nat)
  | pcie (x : Nat)
  | nim (d off : Nat)
  | none
deriving DecidableEq, Repr

/-- R160 for the local ranges, with the absent units of R163. -/
def locLocal (s : State) (a : Nat) : Loc :=
  if a < 0xE0000000 then .mem a
  else if a < 0x100000000 then .none
  else if a < 0x1E0000000 then .mem a
  else if 0x1000000000 ≤ a ∧ a < 0x1002000000 then
    if s.hasCore ((a - 0x1000000000) / 0x200000) then .mem a else .none
  else if 0x1004000000 ≤ a ∧ a < 0x1006000000 then
    if s.hasPond ((a - 0x1004000000) / 0x800000) then .mem a else .none
  else if 0x1800000000 ≤ a ∧ a < 0x1800340000 then .ctl (a - 0x1800000000)
  else .none

/-- The offset in a view of this device's own number, as the equivalent local address (R162). -/
def viewLocal (off : Nat) : Option Nat :=
  if off < 0x200000000 then some off
  else if off < 0x206000000 then some (0x1000000000 + (off - 0x200000000))
  else if 0x300000000 ≤ off ∧ off < 0x300340000 then some (0x1800000000 + (off - 0x300000000))
  else none

/-- Where an address leads for a master; only cores have the alias of their own scratchpad (R160–R163). -/
def State.loc (s : State) (core : Option Nat) (a : Nat) : Loc :=
  if 0xFF00000000 ≤ a ∧ a < 0xFF00200000 then
    match core with
    | some n => .mem (0x1000000000 + n * 0x200000 + (a - 0xFF00000000))
    | none => .none
  else if 0x2000000000 ≤ a ∧ a < 0x4000000000 then .pcie (a - 0x2000000000)
  else if 0x4000000000 ≤ a ∧ a < 0x8000000000 then
    let d := (a - 0x4000000000) / 0x400000000
    let off := (a - 0x4000000000) % 0x400000000
    if !s.hasNim then .none else
    match viewLocal off with
    | none => .none
    | some l => if d = s.fld R.NIM_CFG_SELF then locLocal s l else .nim d off
  else locLocal s a

/-- The DRAM channel of an address (R165). -/
def dramCh (pa : Nat) : Nat := 4 * (pa / 0x100000000 % 2) + pa / 0x1000 % 4

/-- Whether a memory address is in DRAM. -/
def isDram (pa : Nat) : Bool := pa < 0x200000000

/-- The region of memory whose contents are lost together: DRAM channels 0–7, scratchpads 8–23, Pond SRAM 24–27. -/
def regionOf (pa : Nat) : Nat :=
  if isDram pa then dramCh pa
  else if pa < 0x1004000000 then 8 + (pa - 0x1000000000) / 0x200000
  else 24 + (pa - 0x1004000000) / 0x800000

/-! ### Memory bytes -/

/-- Whether a loss took the contents of an address. -/
def Loss.hits (l : Loss) (a : Nat) : Bool := l.region == regionOf a && !l.keep.any (fun r => r.1 ≤ a && a < r.2)

/-- What an unlisted byte of memory reads as: 0 until its contents are first lost, then a free byte of the latest loss (log
entries 4 and 5). -/
def memDflt (ls : List Loss) (a : Nat) : Byte :=
  match ls.find? (·.hits a) with
  | none => 0
  | some l => if l.gen = 0 then 0 else Config.freeByte l.gen a

/-- The byte of memory at an absolute address. -/
def State.byte (s : State) (a : Nat) : Byte := SMap.get (memDflt s.memGen) s.mem a

/-- The state with one byte of memory replaced. -/
def State.setByte (s : State) (a : Nat) (b : Byte) : State :=
  { s with mem := SMap.set (memDflt s.memGen) s.mem a b }

/-- Bytes at consecutive addresses. -/
def State.bytes (s : State) (a n : Nat) : List Byte := (List.range n).map (fun i => s.byte (a + i))

/-- The state with bytes written at consecutive addresses. -/
def State.setBytes (s : State) : Nat → List Byte → State
  | _, [] => s
  | a, b :: t => State.setBytes (s.setByte a b) (a + 1) t

/-- The canonical form of memory: addresses strictly rising, no byte listed that reads the same unlisted. -/
abbrev Memory.wf (s : State) : Prop := SMap.wf (memDflt s.memGen) s.mem

/-- A loss of contents takes effect; the errors of what is lost go with it. -/
def State.takeLoss (s : State) (l : Loss) : State :=
  { s with
    mem := SMap.dropKeys s.mem l.hits
    memGen := l :: s.memGen
    poison := s.poison.filter (fun b => !l.hits (64 * b))
    ecc := SMap.dropKeys s.ecc (fun b => l.hits (64 * b)) }

/-- A region of memory loses its contents, but for some ranges: what it holds from now on is undefined until written (log
entry 5). -/
def State.loseRegion (s : State) (r : Nat) (keep : List (Nat × Nat) := []) : State :=
  { s.takeLoss ⟨r, s.freeCtr + 1, keep⟩ with freeCtr := s.freeCtr + 1 }

/-- A region of memory is cleared to 0 (R131). -/
def State.clearRegion (s : State) (r : Nat) : State := s.takeLoss ⟨r, 0, []⟩

/-- The little-endian number of a list of bytes (R15). -/
def leNat : List Byte → Nat
  | [] => 0
  | b :: t => b.toNat + 256 * leNat t

/-- The `n` little-endian bytes of a number (R15). -/
def leBytes : Nat → Nat → List Byte
  | 0, _ => []
  | n + 1, x => BitVec.ofNat 8 x :: leBytes n (x / 256)

/-! ### Regions, channels and fences -/

/-- The valid region of MEMC.RGN that holds a DRAM address (R171). -/
def State.rgn (s : State) (pa : Nat) : Option Nat :=
  (List.range 16).find? (fun n => s.flag (R.MEMC_RGN_VALID n) &&
    s.fld (R.MEMC_RGN_BASE n) ≤ pa / 0x100000 &&
    pa / 0x100000 < s.fld (R.MEMC_RGN_BASE n) + s.fld (R.MEMC_RGN_SIZE n))

/-- Whether a DRAM address lies in a mirrored region (R172). -/
def State.mirrored (s : State) (pa : Nat) : Bool :=
  match s.rgn pa with
  | some n => s.flag (R.MEMC_RGN_MIRROR n)
  | none => false

/-- Whether an address is the shadow of a mirrored address (R172). -/
def State.isShadow (s : State) (pa : Nat) : Bool :=
  isDram pa && 0x100000000 ≤ pa && s.mirrored (pa - 0x100000000)

/-- Whether an access to a DRAM address must wait because its region's key slot is empty (R173). -/
def State.keyWait (s : State) (pa : Nat) : Bool :=
  match s.rgn pa with
  | some n => isDram pa && s.flag (R.MEMC_RGN_CRYPT n) && !bit (s.fld R.KEEP_STATUS_KEYSLOTS) (s.fld (R.MEMC_RGN_KEYSLOT n))
  | none => false

/-- Whether a channel is in service (MEMC.STATUS.CH_UP). -/
def State.chUp (s : State) (c : Nat) : Bool := bit (s.fld R.MEMC_STATUS_CH_UP) c

/-- The status of an access that the DRAM channels decide (R139, R172, R176, R177). -/
def State.dramStat (s : State) (pa : Nat) : MStat :=
  if s.isShadow pa then .fence
  else if s.chUp (dramCh pa) then .ok
  else if s.mirrored pa && s.chUp (dramCh pa + 4) then .ok
  else if bit (s.fld R.MEMC_STATUS_CH_FAILED) (dramCh pa) then .poison
  else .epochChanged

/-- Whether an address lies in a page of a loaded program's code (R260). -/
def State.inCode (s : State) (pa : Nat) : Bool :=
  s.jobs.progs.any (fun p => p.code / 0x1000 ≤ pa / 0x1000 && pa / 0x1000 ≤ (p.code + p.codeSize - 1) / 0x1000)

/-- Whether the fence table allows a class an access to an address (R437); no master writes a loaded program's code (R260). The fences
act once the table is locked (log entry 8). -/
def State.fenceOk (s : State) (cls : Nat) (write : Bool) (pa : Nat) : Bool :=
  !(write && s.inCode pa) && (s.fld R.PART_LOCK_LOCK == 0 ||
  (List.range 32).any (fun n => s.flag (R.PART_FENCE_VALID n) &&
    s.fld (R.PART_FENCE_BASE n) ≤ pa / 0x1000 && pa / 0x1000 ≤ s.fld (R.PART_FENCE_LIMIT n) &&
    (s.fld (R.PART_FENCE_OWNER n) == cls ||
      (!write && s.flag (R.PART_FENCE_RDUP n) && cls < s.fld (R.PART_FENCE_OWNER n)))))

/-- The code of a master in PART.FENCELOG.MASTER. -/
def Master.code : Master → Nat
  | .core n u _ => n * 8 + u
  | .fn _ => 0x80
  | .portB => 0x81
  | .nim => 0x82
  | .taps => 0x83
  | .net => 0x84
  | .dbg => 0x85

/-- A refused access recorded in PART.FENCELOG and counted as a RECORD event (R437, R555). -/
def State.logFence (s : State) (m : Master) (cls : Nat) (write : Bool) (a : Nat) : State :=
  let s := s.satInc R.SAFETY_EVCNT_RECORD
  if s.flag R.PART_FENCELOG_VALID then s.satInc R.PART_FENCELOG_COUNT
  else (((((s.setFld R.PART_FENCELOG_VALID 1).setFld R.PART_FENCELOG_CLASS cls).setFld R.PART_FENCELOG_WRITE
    (if write then 1 else 0)).setFld R.PART_FENCELOG_MASTER m.code).setFld R.PART_FENCELOG_COUNT 1).setFld
    R.PART_FENCELOG_ADDR a

/-- The field of DOMON0 or DOMON1 and the bit of it that show domain `d`. -/
def State.domOn (s : State) (d : Nat) : Bool :=
  if d < 64 then bit (s.fld R.PWR_DOMON0_ON) d else bit (s.fld R.PWR_DOMON1_ON) (d - 64)

/-- Domain `d` switched on or off. -/
def State.setDom (s : State) (d : Nat) (on : Bool) : State :=
  let f := if d < 64 then R.PWR_DOMON0_ON else R.PWR_DOMON1_ON
  let k := if d < 64 then d else d - 64
  if on then s.fldBitSet f k else s.fldBitClr f k

/-- A request to the scratchpad of a QUIET core wakes that core's memory domain (R144, R770). -/
def State.wakeSpm (s : State) (n : Nat) : State :=
  if s.fld (fCoreState n) = csQUIET then s.setDom (5 * n + 4) true else s

/-- An output of the package in a new condition (R73). -/
def State.setPad (s : State) (n : Nat) (d : Drive) : State :=
  { s with pins := { s.pins with pads := SMap.set padReset s.pins.pads n d } }

/-- The listed registers of the control window in a range of offsets. -/
def State.listed (s : State) (lo len : Nat) : List (Nat × BitVec 64) :=
  s.regs.filter (fun p => lo ≤ p.1 && p.1 < lo + len)

/-- Every register in a range of offsets at its reset value. -/
def State.clearRegs (s : State) (lo len : Nat) : State :=
  { s with regs := SMap.dropKeys s.regs (fun o => lo ≤ o && o < lo + len) }

/-- The registers of one range of offsets copied to another. -/
def State.copyRegs (s : State) (lo len dst : Nat) : State :=
  (s.listed lo len).foldl (fun t p => t.setReg (dst + (p.1 - lo)) p.2) (s.clearRegs dst len)

end Sys2Proof.Machine
end

