-- ==== Sys2Proof/Machine/Operands.lean ====
section
/-! DEFINITION. The operand forms of the Steward's instruction words (R205–R207, R226, R231). -/
namespace Sys2Proof

/-- Whether mod[3] flags an extension word (R206). -/
def IFields.hasExt (f : IFields) : Bool := f.mod.getLsbD 3

/-- mod[2:0]. -/
def IFields.low3 (f : IFields) : Nat := f.mod.toNat % 8

/-- The instruction's length in bytes: 8 with an extension word, else 4 (R206). -/
def IFields.len (f : IFields) : Nat := if f.hasExt then 8 else 4

/-- imm8 = srcB as bits [7:3], mod[2:0] as bits [2:0] (R207). -/
def IFields.imm8 (f : IFields) : Nat := f.srcB.toNat * 8 + f.low3

/-- The immediate of R207, sign-extended to 64 bits. -/
def IFields.imm (f : IFields) : Word :=
  if f.hasExt then f.ext.signExtend 64 else (BitVec.ofNat 8 f.imm8).signExtend 64

/-- In an extension-word form srcB and mod[2:0] are 0 (R207). -/
def IFields.immOk (f : IFields) : Bool := !f.hasExt || (f.srcB == 0 && f.low3 == 0)

/-- The byte offset of a load or store of `n` bytes (R226): the immediate scaled by the size, or the extension word. -/
def IFields.memOff (f : IFields) (n : Nat) : Word :=
  if f.hasExt then f.ext.signExtend 64 else f.imm * w64 n

/-- The byte offset of BRA and CALL (R231): 18 bits of words from dst, srcA, srcB and mod[2:0], or the extension word. -/
def IFields.braOff (f : IFields) : Word :=
  if f.hasExt then f.ext.signExtend 64
  else (BitVec.ofNat 18 (((f.dst.toNat * 32 + f.srcA.toNat) * 32 + f.srcB.toNat) * 8 + f.low3)).signExtend 64 * 4

/-- In the extension-word form of BRA and CALL every field but mod[3] is 0, pred among them (R231). -/
def IFields.braOk (f : IFields) : Bool :=
  !f.hasExt || (f.dst == 0 && f.srcA == 0 && f.srcB == 0 && f.pred == 0 && f.low3 == 0)

/-- The byte offset of LOOP (R231): 13 bits of words from srcA, srcB and mod[2:0]. -/
def IFields.loopOff (f : IFields) : Word :=
  (BitVec.ofNat 13 ((f.srcA.toNat * 32 + f.srcB.toNat) * 8 + f.low3)).signExtend 64 * 4

namespace Machine

/-- a = s[srcA]. -/
def Core.a (k : Core) (f : IFields) : Word := k.sreg f.srcA.toNat

/-- b = s[srcB]. -/
def Core.b (k : Core) (f : IFields) : Word := k.sreg f.srcB.toNat

/-- d = s[dst]. -/
def Core.d (k : Core) (f : IFields) : Word := k.sreg f.dst.toNat

end Machine
end Sys2Proof
end

