-- ==== Sys2Proof/Machine/Flags.lean ====
section
/-! DEFINITION. Conditions and comparisons: CMP and the immediate compares (R224, R225), the conditions of sync objects
(R238), and the sticky engine flags of CORE n.ENGFLAG (R324). The block has no status register of flags. -/
namespace Sys2Proof.Machine

/-- The condition of CMP chosen by mod[2:0]: EQ, NE, LT, GE, LTU, GEU (R224). -/
def cmpCond (c : Nat) (a b : Word) : Bool :=
  match c with
  | 0 => a == b
  | 1 => a != b
  | 2 => a.slt b
  | 3 => !a.slt b
  | 4 => a.ult b
  | _ => !a.ult b

/-- The condition of WAIT, WATCH and QWAIT on an object's value: GE, EQ, NE, LT, GT, LE, unsigned (R238). -/
def objCond (c v t : Nat) : Bool :=
  match c with
  | 0 => t ≤ v
  | 1 => v == t
  | 2 => v != t
  | 3 => v < t
  | 4 => t < v
  | _ => v ≤ t

/-- The logical operations of PLOG: AND, OR, XOR, ANDN (R223). -/
def plogOp (c : Nat) (x y : Bool) : Bool :=
  match c with
  | 0 => x && y
  | 1 => x || y
  | 2 => xor x y
  | _ => x && !y

/-- Sticky engine flags set: bits 0 WRAP, 1 INVALID, 2 OVERFLOW, 3 UNDERFLOW of the group that starts at bit `base`
(Tensor 0, Vector 4, Residue 8; R324). -/
def State.setEngFlags (s : State) (n base fl : Nat) : State :=
  if fl = 0 then s else
  let off := R.CORE_ENGFLAG n
  s.setReg off (s.reg off ||| BitVec.ofNat 64 (fl % 16 * 2 ^ base))

end Sys2Proof.Machine
end

