-- ==== Sys2Proof/Machine/Device.lean ====
section
/-! DEFINITION. The device as a whole: completion and event entries of the host's queues, changes of DEVICE.STATE, the trip
path, and the loss and return of redundancies. -/
namespace Sys2Proof.Machine

/-! ### Completion queues (R730–R744) -/

/-- The state of host function `f`. -/
def State.fn (s : State) (f : Nat) : Fn := SMap.get (fun _ => Fn.reset) s.fns f

/-- The state with host function `f` replaced. -/
def State.setFn (s : State) (f : Nat) (k : Fn) : State :=
  { s with fns := SMap.set (fun _ => Fn.reset) s.fns f k }

/-- The state with host function `f` changed by a function. -/
def State.modFn (s : State) (f : Nat) (g : Fn → Fn) : State := s.setFn f (g (s.fn f))

/-- Entries of a completion queue; a CQLOG outside 1–12 is taken as the nearest (log entry 9). -/
def State.cqSize (s : State) (f : Nat) : Nat := 2 ^ max 1 (min 12 (s.fld (R.PCIEA_F_QCFG_CQLOG f)))

/-- Entries of a submission queue; as `cqSize`. -/
def State.sqSize (s : State) (f : Nat) : Nat := 2 ^ max 1 (min 12 (s.fld (R.PCIEA_F_QCFG_SQLOG f)))

/-- Whether a function's completion queue can take an entry (R734, log entry 9). -/
def State.cqRoom (s : State) (f : Nat) : Bool :=
  s.flag (R.PCIEA_F_QCFG_EN f) && (s.fn f).cq.length < s.cqSize f

/-- The MSI-X vector of an entry (R744). -/
def vectorOf (f kind : Nat) : Nat :=
  if f = 0 then (if kind = 0 then 0 else if kind = 1 then 1 else if kind = 4 then 2 else 3) else 0

/-- An MSI-X vector of a function fires (R744). -/
def State.fire (s : State) (f v : Nat) : State :=
  { (s.modFn f (fun k => { k with unsig := SMap.set (fun _ => 0) k.unsig v 0 })) with
    irqs := SMap.set (fun _ => 0) s.irqs (16 * f + v) (SMap.get (fun _ => 0) s.irqs (16 * f + v) + 1) }

/-- A function's vectors are moderated from version 1.2 with MODCNT other than 0; vector 1 of PF0 never is (R744). -/
def State.moderated (s : State) (f v : Nat) : Bool :=
  !(f == 0 && v == 1) && 0x12 ≤ s.fld (R.PCIEA_F_FSTATUS_VERSION f) && s.fld (R.PCIEA_F_QCFG_MODCNT f) != 0

/-- An entry or record that causes a vector has been written (R744). -/
def State.signal (s : State) (f v : Nat) : State :=
  if s.moderated f v then
    let n := SMap.get (fun _ => 0) (s.fn f).unsig v + 1
    if s.fld (R.PCIEA_F_QCFG_MODCNT f) ≤ n then s.fire f v
    else s.modFn f (fun k => { k with unsig := SMap.set (fun _ => 0) k.unsig v n })
  else s.fire f v

/-- An entry written whole into the next slot of a completion queue (R732). -/
def State.writeCq (s : State) (f : Nat) (e : CqEntry) : State :=
  let k := s.fn f
  let e := { e with sqHead := k.sqHead, phase := k.cqPhase }
  let i := k.cqIdx + 1
  let k := { k with
    cq := k.cq ++ [e]
    cqIdx := if i = s.cqSize f then 0 else i
    cqPhase := if i = s.cqSize f then !k.cqPhase else k.cqPhase }
  (s.setFn f k).signal f (vectorOf f e.kind)

/-- A command's completion (R732, R733): written at once, or when a slot is free. -/
def State.complete (s : State) (f cid status info : Nat) : State :=
  let s := s.modFn f (fun k => { k with inprog := k.inprog.filter (·.cid ≠ cid) })
  let e : CqEntry := ⟨cid, status, 0, 0, false, info⟩
  if s.cqRoom f && (s.fn f).waiting.isEmpty then s.writeCq f e
  else s.modFn f (fun k => { k with waiting := k.waiting ++ [e] })

/-- Events waiting at a function. -/
def Fn.eventsWaiting (k : Fn) : Nat := (k.waiting.filter (·.kind ≠ 0)).length

/-- An event entry (R734, R739): written at once, or waiting, at most 16; a 17th is dropped and counted in EVTLOST, except
that a STATE event replaces a waiting one. A function at version 1.0 takes no CHIME and no PAIR_REJECT (R741 note). -/
def State.postEvent (s : State) (f kind info : Nat) : State :=
  let e : CqEntry := ⟨0xFFFF, 0, kind, 0, false, info⟩
  if (kind = 5 ∨ kind = 6) ∧ s.fld (R.PCIEA_F_FSTATUS_VERSION f) < 0x11 then s.satInc (R.PCIEA_F_LOST_EVTLOST f)
  else if s.cqRoom f && (s.fn f).waiting.isEmpty then s.writeCq f e
  else if kind = 1 ∧ (s.fn f).waiting.any (·.kind == 1) then
    s.modFn f (fun k => { k with waiting := k.waiting.filter (·.kind ≠ 1) ++ [e] })
  else if (s.fn f).eventsWaiting < 16 ∨ kind = 1 then s.modFn f (fun k => { k with waiting := k.waiting ++ [e] })
  else s.satInc (R.PCIEA_F_LOST_EVTLOST f)

/-- Waiting entries written while the queue has room, at most `n` of them (R734). -/
def State.flushCq (s : State) (f : Nat) : Nat → State
  | 0 => s
  | n + 1 =>
    match (s.fn f).waiting with
    | [] => s
    | e :: t => if s.cqRoom f then State.flushCq ((s.modFn f (fun k => { k with waiting := t })).writeCq f e) f n else s

/-! ### Device states -/

/-- The LOST field as DEVICE.STATE shows it (R789). -/
def State.lostShown (s : State) : Nat :=
  if s.serving || s.st == stRESTART then s.dev.lost else 0

/-- The INFO of a STATE event (R739). -/
def State.stateInfo (s : State) : Nat :=
  s.st + 16 * s.fld R.DEVICE_STATE_PREV + 256 * s.fld R.DEVICE_STATE_DEV_EPOCH + 65536 * s.lostShown

/-- The safety outputs that a state without a serving device shows: heartbeats, waveforms, DISPVALID and, outside grace, the
Reeve's outputs low (R96–R98, R101, R102). -/
def State.quietOutputs (s : State) : State :=
  if s.serving then s else
  let g := s.flag R.DEVICE_STATE_GRACE
  { s with pins := { s.pins with
      faultA := false
      stoHs := 0
      dispValid := 0
      faultB := if g then s.pins.faultB else false
      stoLs := if g then s.pins.stoLs else 0 } }

/-- DEVICE.STATE as it reads, with the computed LOST field. -/
def State.stateInfoWord (s : State) : Nat := (R.DEVICE_STATE_LOST.put (s.reg R.DEVICE_STATE) s.lostShown).toNat

/-- A change of DEVICE.STATE.STATE: PREV, the outputs of the new state, and the STATE event to PF0 (R102, R104). -/
def State.setState (s : State) (n : Nat) : State :=
  if s.st = n then s else
  let s := (s.setFld R.DEVICE_STATE_PREV s.st).setFld R.DEVICE_STATE_STATE n
  let s := s.quietOutputs
  s.postEvent 0 1 s.stateInfo

/-- DEV_EPOCH incremented; it wraps from 0xFF to 0x01. -/
def State.bumpDevEpoch (s : State) : State :=
  let e := s.fld R.DEVICE_STATE_DEV_EPOCH
  s.setFld R.DEVICE_STATE_DEV_EPOCH (if e = 0xFF then 1 else e + 1)

/-- TB2 in nanoseconds (R614). -/
def State.tb2 (s : State) : Nat := SMap.get (fun _ => 0) s.sun.tb 2

/-- The waiting commands of R108 and a running REVALIDATE made meaningless: they complete with STATE_CHANGED (R107). -/
def State.dropWaiting (s : State) : State :=
  (s.dev.stopReq.filterMap (fun p => if p.1 = .warm then none else some p.2) ++ s.dev.reval.toList).foldl
    (fun s cid => s.complete 0 cid 0x05 0) { s with dev := { s.dev with stopReq := [], reval := none, stopDue := false } }

/-- The trip path (R558–R561): the first source is recorded, both latches set, every safe output low, WATCH.LASTTRIP and
the retained counts of trips updated, and the state TRIPPED. A tripped device does not trip again. -/
def State.trip (s : State) (source detail : Nat) (reeveDie : Bool) : State :=
  if s.flag R.SAFETY_TRIP_TRIPPED then s else
  let d := if reeveDie then 1 else 0
  let s := s.dropWaiting
  let s := (((s.setFld R.SAFETY_TRIP_TRIPPED 1).setFld R.SAFETY_TRIP_DIE d).setFld R.SAFETY_TRIP_SOURCE source).setFld
    R.SAFETY_TRIP_DETAIL detail
  let sec := s.tb2 / 1000000000 % 2 ^ 32
  let s := (s.setFld R.SAFETY_TRIPTIME_SEC sec).setFld R.SAFETY_TRIPTIME_NS (s.tb2 % 1000000000)
  let s := ((((s.setFld R.WATCH_LASTTRIP_SOURCE source).setFld R.WATCH_LASTTRIP_DETAIL detail).setFld
    R.WATCH_LASTTRIP_DIE d).setFld R.WATCH_LASTTRIP_EPOCH (s.fld R.DEVICE_STATE_DEV_EPOCH)).setFld
    R.WATCH_LASTTRIP_SEC sec
  let s := s.satInc (R.WATCH_RETAIN_COUNT 4)
  let s := if source = 7 then s.satInc (R.WATCH_RETAIN_COUNT 3) else s
  let s := (s.setFld R.DEVICE_STATE_INVALID 1).setFld R.DEVICE_STATE_GRACE 0
  let s := { s with
    reeve := { s.reeve with tripA := true, tripB := true }
    dev := { s.dev with stopReq := [], reval := none, stopDue := false }
    pins := { s.pins with faultA := false, faultB := false, stoHs := 0, stoLs := 0, dispValid := 0 } }
  s.setState stTRIPPED

/-- A FATAL event of R105 with its code of R560, on the Verifier die. -/
def State.fatal (s : State) (code : Nat) (detail : Nat := 0) : State := s.trip code detail false

/-- The bits of DEVICE.STATE.LOST, from bit 8. -/
def lostSPARE_USED : Nat := 0
def lostMIRROR : Nat := 1
def lostPCIE_PORT : Nat := 2
def lostNET_PATH : Nat := 3
def lostACCEL_RESTART : Nat := 4
def lostNIM_PARTNER : Nat := 5
def lostCORE_FAILED : Nat := 6

/-- A redundancy is lost (R789): its bit is tracked in every state, and SERVING becomes DEGRADED (R106). -/
def State.lose (s : State) (k : Nat) : State :=
  if s.st = stTRIPPED then s else
  let s := { s with dev := { s.dev with lost := setBit s.dev.lost k } }
  if s.st = stSERVING then s.setState stDEGRADED else s

/-- A redundancy returns (R789): with none lost, DEGRADED becomes SERVING (R106, REGAINED). -/
def State.regain (s : State) (k : Nat) : State :=
  if s.st = stTRIPPED then s else
  let s := { s with dev := { s.dev with lost := clrBit s.dev.lost k } }
  if s.st = stDEGRADED ∧ s.dev.lost = 0 then s.setState stSERVING else s

/-- Whether a redundancy is lost. -/
def State.isLost (s : State) (k : Nat) : Bool := bit s.dev.lost k

/-- A discarded write recorded in DEVICE.ACCERR (R20). -/
def State.accErr (s : State) (m : Master) (addr : Nat) : State :=
  if s.flag R.DEVICE_ACCERR_LOCKED_WRITE then s.satInc R.DEVICE_ACCERR_COUNT
  else (((s.setFld R.DEVICE_ACCERR_LOCKED_WRITE 1).setFld R.DEVICE_ACCERR_MASTER m.code).setFld
    R.DEVICE_ACCERR_COUNT 1).setFld R.DEVICE_ACCERR_ADDR addr

/-- A write to the control window discarded and recorded, by its window offset (R20). -/
def State.discard (s : State) (m : Master) (off : Nat) : State := s.accErr m (0x1800000000 + off)

/-- A trace record written when tracing is on for the core; a full ring overwrites its oldest record and counts it (R784). -/
def State.traceRec (s : State) (c kind val : Nat) : State :=
  if !bit (s.fld R.DBG_TRACECFG_CORES) c then s else
  let r : TraceRec := ⟨s.tb2 % 2 ^ 32, c, kind, val⟩
  if s.trace.length < Config.traceRecords then { s with trace := s.trace ++ [r] }
  else { s with trace := s.trace.drop 1 ++ [r] }.satInc R.DBG_TRACESTAT_LOST

/-! ### Line time (R494, R499) -/

/-- The TB2 nanoseconds since the start of the current frame of tap `k`: its phase (R495). -/
def State.phase (s : State) (k : Nat) : Nat :=
  let w := s.fld (R.TAP_T_FSTIME_TIME k)
  s.tb2 % (2 ^ 32 * 1000000000) - (w / 2 ^ 32 * 1000000000 + w % 2 ^ 32)

/-- The measured period of tap `k`, NOMPERIOD until two real boundaries have been seen (R494). -/
def State.tapPeriod (s : State) (k : Nat) : Nat :=
  let p := s.fld (R.TAP_T_MEASPER_P k)
  if p = 0 then s.fld (R.TAP_T_NOMPERIOD_NS k) else p

/-- The line of line time: phase × TOTAL ÷ P, saturating at 65,535; 0 while the reference tap is IDLE (R499, R617). -/
def State.line (s : State) : Nat :=
  let k := s.fld R.TAP_LTCFG_REF
  if s.fld (R.TAP_T_STAT_TSTATE k) = 0 then 0
  else min 65535 (s.phase k * s.fld (R.TAP_T_GEOM_TOTAL k) / s.tapPeriod k)

/-- The frame of line time (R499). -/
def State.refFrame (s : State) : Nat := s.fld (R.TAP_T_STAT_FRAME (s.fld R.TAP_LTCFG_REF))

end Sys2Proof.Machine
end

