-- ==== Sys2Proof/Machine/CoreRestart.lean ====
section
/-! DEFINITION. Core faults, the restart of a core and the move of its work to a spare (R126–R129, R136, R449, R480, R563). -/
namespace Sys2Proof.Machine

/-- Sync objects of core `n` whose configuration satisfies a test set to their BASE (R449, R457). -/
def State.objsToBase (s : State) (n : Nat) (p : State → Nat → Bool) : State :=
  let lo := R.CORE_SOBJ n 0
  let t := { s with regs := SMap.dropKeys s.regs (fun o => lo ≤ o && o < lo + 0x400 && p s ((o - lo) / 4)) }
  (s.listed (R.CORE_SOBJCFG n 0) 0x800).foldl (fun t q =>
    let k := (q.1 - R.CORE_SOBJCFG n 0) / 8
    if p s k then t.setFld (R.CORE_SOBJ_VALUE n k) (s.fld (R.CORE_SOBJCFG_BASE n k)) else t) t

/-- A generation of barrier `b` in progress ends with EPOCH_CHANGED at every core but `n` that has arrived or whose arrival is on its
way (R142, R457, R480). -/
def State.breakBarrier (s : State) (b n : Nat) : State :=
  let arr := s.fld (R.BELL_BARSTAT_ARRIVED b)
  if arr = 0 ∧ (s.fab.arrivals.filter (·.1 = b)).isEmpty then s else
  let others := (List.range 16).filter (fun c => (bit arr c || s.fab.arrivals.contains (b, c)) && c != n)
  let s := (s.wrapInc (R.BELL_BARSTAT_GEN b)).setFld (R.BELL_BARSTAT_ARRIVED b) 0
  { s with fab := { s.fab with
      arrivals := s.fab.arrivals.filter (·.1 ≠ b)
      ringArrived := SMap.set (fun _ => 0) s.fab.ringArrived b 0
      completions := s.fab.completions ++ others.map (fun c => (b, c, true)) } }

/-- The valid barriers in which core `n` takes part. -/
def State.barriersOf (s : State) (n : Nat) : List Nat :=
  ((s.listed (R.BELL_BAR 0) 0x200).map (fun p => (p.1 - R.BELL_BAR 0) / 8)).filter
    (fun b => s.flag (R.BELL_BAR_VALID b) && bit (s.fld (R.BELL_BAR_CORES b)) n)

/-- What a reset of core `n` reaches (R134): engines, queues, caches, registers, scratchpad, sync objects and tags. Posted
writes not yet accepted are discarded whole, and its signals and messages in the fabric with them, so that none arrives ahead of a
write it guards (R141). A job whose check was in progress there is to be run again from its
inputs (R129). -/
def State.resetCore (s : State) (n : Nat) : State :=
  let s := (s.setCore n Core.reset).objsToBase n (fun _ _ => true)
  let s := s.loseRegion (8 + n)
  let s := { s with fab := { s.fab with
      outst := s.fab.outst.filter (·.core ≠ n), markers := s.fab.markers.filter (·.core ≠ n)
      msgs := s.fab.msgs.filter (·.src ≠ n), completions := s.fab.completions.filter (·.2.1 ≠ n) } }
  let s := (s.setReg (R.CORE_ENGFLAG n) 0).setFld (R.CORE_BELLSTAT_PDEPTH n) 0
  let s := (s.setFld (R.CORE_BELLSTAT_LENT n) 0).setFld (R.CORE_GOLDSTAT_OK n) 0
  let s := (s.setFld (R.CORE_INJSTAT_RAN n) 0).setFld (R.CORE_PAIRSTAT_ACTIVE n) 0
  let s := (s.setFld (R.CORE_WMSTAT_ELAPSED n) 0).setFld (R.CORE_WMSTAT_TOKEN n) 0xACE1
  let s := (s.barriersOf n).foldl (fun s b => s.breakBarrier b n) s
  { s with jobs := { s.jobs with
      passes := s.jobs.passes.filter (·.core ≠ n)
      jobs := s.jobs.jobs.map (fun (j : Job) => if j.core = n ∧ j.ran ∧ j.exitCode = none ∧ !j.overrun ∧ !j.pairNone then
        { j with ran := false, rerun := true, credits := [], failed := none } else j) } }

/-- The epoch of core `n` steps, from 0xFFFF to 0x0001 (R125, R137). -/
def State.stepCoreEpoch (s : State) (n : Nat) : State :=
  let e := s.fld (R.CORE_EPOCH_EPOCH n)
  s.setFld (R.CORE_EPOCH_EPOCH n) (if e = 0xFFFF then 1 else e + 1)

/-- Core `n` is reset and FAILED; requests that name it end with EPOCH_CHANGED (R119, R137). -/
def State.failCore (s : State) (n : Nat) : State := ((s.resetCore n).stepCoreEpoch n).setFld (fCoreState n) csFAILED

/-- Core `n` is fenced and reset: its epoch steps, RESTARTS and LAST_CAUSE are written, its state becomes
RESTARTING (R125, R126 step 1). -/
def State.beginRestart (s : State) (n cause : Nat) : State :=
  let s := ((s.resetCore n).stepCoreEpoch n).satInc (R.CORE_EPOCH_RESTARTS n)
  (s.setFld (R.CORE_EPOCH_LAST_CAUSE n) cause).setFld (fCoreState n) csRESTARTING

/-- The spare chosen for core `n`: the lowest in its Pond, else the lowest of the device (R127). -/
def State.chooseSpare (s : State) (n : Nat) : Option Nat :=
  let ok := fun c => s.fld (fCoreState c) == csSPARE && c != n
  match (List.range 16).find? (fun c => ok c && c / 4 == n / 4) with
  | some c => some c
  | none => (List.range 16).find? ok

/-- The slot table and the barrier places of core `n` moved to core `sp` (R126, R442, R480). -/
def State.moveTable (s : State) (n sp : Nat) : State :=
  let s := s.copyRegs (R.CORE_SLOT n 0) 0x100 (R.CORE_SLOT sp 0)
  let s := (s.setFld (R.CORE_SLOTCFG_COUNT sp) (s.fld (R.CORE_SLOTCFG_COUNT n))).setFld (R.CORE_SLOTCFG_COUNT n) 0
  let s := (s.setFld (R.CORE_GOLDCFG_REQUIRED sp) (s.fld (R.CORE_GOLDCFG_REQUIRED n))).setFld (R.CORE_GOLDCFG_REQUIRED n) 0
  let s := (s.barriersOf n).foldl (fun s b =>
    s.setFld (R.BELL_BAR_CORES b) (setBit (clrBit (s.fld (R.BELL_BAR_CORES b)) n) sp)) s
  s.clearRegs (R.CORE_SLOT n 0) 0x100

/-- The Steward of core `n` starts at level M at the recorded entry address (R213). -/
def State.startSteward (s : State) (n : Nat) : State :=
  s.modCore n (fun k => { k with stw := .run, pc := s.dev.entry, priv := .m })

/-- The tested cores take their states: SERVING with work in their slot tables, else SPARE (R124); so does a spare that the slot
tables name. DESIGN CHOICE: no core becomes QUIET by itself, for the spec names no event that makes one (log entry 159). -/
def State.placeCores (s : State) : State :=
  s.iter 16 (fun n s =>
    let cs := s.fld (fCoreState n)
    if cs ≠ csTEST ∧ cs ≠ csSPARE then s
    else s.setFld (fCoreState n) (if 0 < s.fld (R.CORE_SLOTCFG_COUNT n) then csSERVING else csSPARE))

/-- The Pond SRAM lines of the programs that core `n`'s slot table names are written anew: none stays poisoned (R183). -/
def State.rewriteLines (s : State) (n : Nat) : State :=
  let ps := s.jobs.progs.filter (fun p => (List.range 32).any (fun i =>
    s.flag (R.CORE_SLOT_VALID n i) && s.fld (R.CORE_SLOT_PROG n i) == p.idx))
  let hit := fun (b : Nat) => 0x1004000000 ≤ 64 * b && ps.any (fun p =>
    (p.code < 64 * b + 64 && 64 * b < p.code + p.codeSize) || (p.data < 64 * b + 64 && 64 * b < p.data + p.dataSize))
  { s with poison := s.poison.filter (fun b => !hit b), ecc := SMap.dropKeys s.ecc hit }

/-- The work of core `n` given to the spare `sp` (R126 steps 3–6, R128, R129, R183): `sp` serves, has passed its golden run, and
re-runs the frame in progress. -/
def State.moveWork (s : State) (n sp : Nat) : State :=
  let s := (s.rewriteLines n).moveTable n sp
  let s := s.setFld (fCoreState sp) csSERVING
  let s := s.setFld (R.CORE_GOLDSTAT_OK sp) 1
  let s := { s with dev := { s.dev with moved := SMap.set (fun _ => 16) s.dev.moved n sp } }
  let s := { s with jobs := { s.jobs with
      jobs := s.jobs.jobs.map (fun (j : Job) => if j.core = n ∧ j.rerun then { j with core := sp } else j) } }
  let s := s.setFld (R.CORE_GOLDSTAT_FRAME sp) (s.fld (R.TAP_T_STAT_FRAME (s.fld R.TAP_LTCFG_REF)))
  s.lose lostSPARE_USED

/-- A serving core restarts, and its spare takes its work; without a spare the device trips (R126, R127). -/
def State.replaceCore (s : State) (n cause : Nat) : State :=
  match s.chooseSpare n with
  | none => (s.beginRestart n cause).fatal 0x0A n
  | some sp => (s.beginRestart n cause).moveWork n sp

/-- The CORE reaction for core `n` with a LAST_CAUSE (R126, R127, R136, R379, R396, R563). A core that is absent, already
RESTARTING or FAILED is left as it is (log entry 10). -/
def State.coreFault (s : State) (n cause : Nat) : State :=
  let cs := s.fld (fCoreState n)
  if s.st = stTRIPPED ∨ cs = csRESTARTING ∨ cs = csFAILED ∨ cs = csABSENT then s else
  let s := s.satInc R.SAFETY_EVCNT_CORE
  if s.st = stBOOT ∨ s.st = stSELFTEST ∨ s.st = stRESTART then (s.failCore n).lose lostCORE_FAILED
  else if cs = csSPARE ∧ cause = 0x33 then s.failCore n
  else if cs = csSERVING ∧ s.serving then s.replaceCore n cause
  else s.beginRestart n cause

/-- A core restart commanded by the host (R136): of a SERVING core as R126 has it, of another only the restart itself. A core
already RESTARTING goes on (log entry 10). -/
def State.commandRestart (s : State) (n : Nat) : State :=
  let cs := s.fld (fCoreState n)
  if cs = csRESTARTING ∨ cs = csABSENT then s
  else if cs = csSERVING ∧ s.serving then s.replaceCore n 0x32
  else s.beginRestart n 0x32

/-- SPARE_USED is cleared when no moved core is still away (R128, log entry 11). -/
def State.endMove (s : State) (n : Nat) : State :=
  let s := { s with dev := { s.dev with moved := SMap.set (fun _ => 16) s.dev.moved n 16 } }
  if s.dev.moved.isEmpty then s.regain lostSPARE_USED else s

/-- The end of tests of every core (R37, R128, R789): no work stays away from its core, so SPARE_USED is regained, and a core that
failed loses its redundancy. -/
def State.endTests (s : State) : State :=
  let bad := (List.range 16).any (fun n => s.hasCore n && s.fld (fCoreState n) == csFAILED)
  let l := clrBit s.dev.lost lostSPARE_USED
  { s with dev := { s.dev with moved := [], lost := if bad then setBit l lostCORE_FAILED else l } }

/-- The end of a restarted core's tests (R126 step 7, R128, R136): SPARE, or FAILED with CORE_FAILED in place of SPARE_USED when
its work had moved, or when the device does not serve (R789). -/
def State.retestDone (s : State) (n : Nat) (ok : Bool) : State :=
  if s.fld (fCoreState n) ≠ csRESTARTING ∨ s.st = stTRIPPED then s else
  let moved := SMap.get (fun _ => 16) s.dev.moved n ≠ 16
  if ok then
    ((s.setFld (fCoreState n) csSPARE).startSteward n).endMove n
  else
    let s := s.setFld (fCoreState n) csFAILED
    if moved then (s.lose lostCORE_FAILED).endMove n
    else if s.serving then s
    else s.lose lostCORE_FAILED

end Sys2Proof.Machine
end

