-- ==== Sys2Proof/Machine/Routes.lean ====
section
/-! DEFINITION. Where requests leave the device and the ordered paths they take (R189, R658, R722). -/
namespace Sys2Proof.Machine

/-! ### Routes (R658) -/

/-- The neighbour of device `a` on port `q` in a map. -/
def mapNbr (m : List NimReport) (a q : Nat) : Option Nat :=
  match m.find? (fun r => r.self.val == a) with
  | none => none
  | some r =>
    match r.peers[q]? with
    | some (i, _) => if i = 0 then none else (m.find? (fun t => t.id == i)).map (·.self.val)
    | none => none

/-- The devices within `k` links of device `a`. -/
def mapBall (m : List NimReport) (a : Nat) : Nat → List Nat
  | 0 => [a]
  | k + 1 => let b := mapBall m a k
    (b ++ (b.map (fun x => (List.range 4).filterMap (fun q => mapNbr m x q))).flatten).dedup

/-- The distance between two devices, if the map joins them. -/
def mapDist (m : List NimReport) (a b : Nat) : Option Nat := (List.range 16).find? (fun k => (mapBall m a k).contains b)

/-- The egress port of a shortest path; of equals the lower. -/
def shortPort (m : List NimReport) (a b : Nat) : Option Nat :=
  (List.range 4).find? (fun q => match mapNbr m a q with
    | some n => (mapDist m n b).map (· + 1) == mapDist m a b && (mapDist m a b).isSome
    | none => false)

/-- The hops of one dimension of a torus of length `len`, the shorter way, `up` being the lower of its two ports. -/
def dimHops (a b len up : Nat) : List Nat :=
  let d := (b + len - a) % len
  if 2 * d ≤ len then List.replicate d up else List.replicate (len - d) (up + 1)

/-- Whether a sequence of egress ports leads over links of the map. -/
def walks (m : List NimReport) (a : Nat) : List Nat → Bool
  | [] => true
  | q :: t => match mapNbr m a q with
    | some n => walks m n t
    | none => false

/-- The egress port toward a device over the committed map: in a torus first X then Y, or first Y then X when a link of that
path is absent; else a shortest path. -/
def State.nimRoute (s : State) (d : Nat) : Option Nat :=
  let me := s.fld R.NIM_CFG_SELF
  let m := s.nim.map
  if !s.flag R.NIM_CFG_TOPO then shortPort m me d else
  let x := max 1 (s.fld R.NIM_CFG_XDIM)
  let y := max 1 (s.fld R.NIM_CFG_YDIM)
  let hx := dimHops (me % x) (d % x) x 0
  let hy := dimHops (me / x) (d / x) y 2
  if walks m me (hx ++ hy) then (hx ++ hy).head?
  else if walks m me (hy ++ hx) then (hy ++ hx).head?
  else shortPort m me d

/-! ### Ordered paths (R189) -/

/-- The PCIe port that carries the outbound window: B, or A on a variant without port B and while B is handed over (R722). -/
def State.obPort (s : State) : Nat := if s.hasPortB && !s.flag (R.PCIE_P_PORTSTAT_HANDED 1) then 1 else 0

/-- The target of an ordered path (R189): the two memory controllers 0–1, Pond SRAM 2–5, scratchpads 6–21, PCIe ports 22–23,
Nimlink ports 24–27 by the egress port of the route (28 where the map has none), the control window 40, nothing 41. -/
def State.pathOf (s : State) : Loc → Nat
  | .mem pa =>
    if isDram pa then pa / 0x100000000
    else if pa < 0x1004000000 then 6 + (pa - 0x1000000000) / 0x200000
    else 2 + (pa - 0x1004000000) / 0x800000
  | .pcie _ => 22 + s.obPort
  | .nim d _ => 24 + (s.nimRoute d).getD 4
  | .ctl _ => 40
  | .none => 41

end Sys2Proof.Machine
end

