-- ==== Sys2Proof/Machine/Memory.lean ====
section
/-! DEFINITION. Memory as the masters of the device see it: the errors of DRAM and SRAM and what they lead to, channels that
fail, and the status of an access (R139, R144, R157, R169–R183). -/
namespace Sys2Proof.Machine

/-! ### DRAM channels -/

/-- The mirrored regions as address ranges, primary and shadow. -/
def State.mirrorRanges (s : State) : List (Nat × Nat) :=
  ((List.range 16).filter (fun n => s.flag (R.MEMC_RGN_VALID n) && s.flag (R.MEMC_RGN_MIRROR n))).flatMap (fun n =>
    let b := 0x100000 * s.fld (R.MEMC_RGN_BASE n)
    let e := b + 0x100000 * s.fld (R.MEMC_RGN_SIZE n)
    [(b, e), (b + 0x100000000, e + 0x100000000)])

/-- Whether the redundancy of the mirrors is lost: a channel is down, failed or being rebuilt (R789). -/
def State.mirrorLost (s : State) : Bool := s.isLost lostMIRROR

/-- A DRAM channel or the link to a device (16 + d) has been reset (R137). -/
def State.bumpEpoch (s : State) (k : Nat) : State :=
  let e := SMap.get (fun _ => 0) s.fab.epochs k + 1
  { s with fab := { s.fab with epochs := SMap.set (fun _ => 0) s.fab.epochs k e } }

/-- A DRAM channel fails (R176, R179, R555). -/
def State.channelFail (s : State) (c : Nat) : State :=
  if !s.chUp c || s.st == stTRIPPED then s else
  let s := s.satInc R.SAFETY_EVCNT_LOST
  if s.mirrorLost then s.fatal 0x0B c
  else ((s.fldBitClr R.MEMC_STATUS_CH_UP c).bumpEpoch c).lose lostMIRROR

/-! ### Errors -/

/-- The error that the block of an address holds: 0 none, 1 correctable, 2 uncorrectable. -/
def State.errAt (s : State) (b : Nat) : Nat := SMap.get (fun _ => 0) s.ecc b

/-- The error of a block set. -/
def State.setErr (s : State) (b e : Nat) : State := { s with ecc := SMap.set (fun _ => 0) s.ecc b e }

/-- An uncorrectable error of a channel counts toward its failure: the 17th within 1 s is one (R174, R175). -/
def State.countUncorr (s : State) (c : Nat) : State :=
  let l := (SMap.get (fun _ => []) s.dev.uncorr c).filter (fun t => s.tb2 < t + 1000000000) ++ [s.tb2]
  let s := { s with dev := { s.dev with uncorr := SMap.set (fun _ => []) s.dev.uncorr c l } }
  if 16 < l.length then s.channelFail c else s

/-- An error of a DRAM block recorded in MEMC.ERRADDR, by the block's primary address, and counted for its channel
(R169, R174, R175). -/
def State.logEcc (s : State) (b : Nat) (uncorr : Bool) : State :=
  let c := dramCh (64 * b)
  let a := if s.isShadow (64 * b) then b - 0x4000000 else b
  let s := if uncorr then s.satInc (R.MEMC_CHERR_UNCORR c) else s.satInc (R.MEMC_CHERR_CORR c)
  let s := (((s.setFld R.MEMC_ERRADDR_VALID 1).setFld R.MEMC_ERRADDR_UNCORR (if uncorr then 1 else 0)).setFld
    R.MEMC_ERRADDR_CHANNEL c).setFld R.MEMC_ERRADDR_ADDR a
  if uncorr then s.countUncorr c else s

/-- The other copy of a DRAM block, when its region is mirrored and that copy's channel is up (R172). -/
def State.twinBlock (s : State) (b : Nat) : Option Nat :=
  let t := if s.isShadow (64 * b) then b - 0x4000000 else b + 0x4000000
  if (s.mirrored (64 * b) || s.isShadow (64 * b)) && s.chUp (dramCh (64 * t)) then some t else none

/-- A DRAM block read, by a master or the scrub (R169, R170, R174, R175): a correctable error is corrected and written back; an
uncorrectable one is repaired from the other copy when that holds the data, else the read is poisoned. -/
def State.readDram (s : State) (b : Nat) : State × MStat :=
  match s.errAt b with
  | 0 => (s, .ok)
  | 1 => (((s.setErr b 0).logEcc b false).satInc R.SAFETY_EVCNT_RECORD, .ok)
  | _ =>
    match s.twinBlock b with
    | some t =>
      if s.errAt t ≤ 1 then (((s.setErr b 0).logEcc b true).satInc R.SAFETY_EVCNT_RECORD, .ok) else (s.logEcc b true, .poison)
    | none => (s.logEcc b true, .poison)

/-- An SRAM line read, by a master or the scrub (R181–R183): a correctable error is corrected and counted; an uncorrectable one
of a scratchpad gives POISON, and so does one of Pond SRAM, whose line stays poisoned until it is written whole. -/
def State.readSram (s : State) (b : Nat) : State × MStat :=
  let r := regionOf (64 * b)
  if s.poison.contains b then (s, .poison) else
  match s.errAt b with
  | 0 => (s, .ok)
  | 1 => ((s.setErr b 0).satInc (if r < 24 then R.CORE_MEMSTAT_SP_CORR (r - 8) else R.POND_STATUS_CORR (r - 24)), .ok)
  | _ =>
    if r < 24 then (s.satInc (R.CORE_MEMSTAT_SP_UNCORR (r - 8)), .poison)
    else ({ s.setErr b 0 with poison := b :: s.poison }.satInc (R.POND_STATUS_UNCORR (r - 24)), .poison)

/-- The checker fault of a POISON from SRAM: of the scratchpad's owner (R182), or of the core whose engine read Pond SRAM
(R183). -/
def State.poisonFault (s : State) (m : Master) (pa : Nat) : State :=
  if isDram pa then s
  else if pa < 0x1004000000 then s.coreFault ((pa - 0x1000000000) / 0x200000) 0x31
  else match m with
  | .core n _ _ => s.coreFault n 0x31
  | _ => s

/-! ### Accesses -/

/-- The status of an access to memory and the state after it, before any byte is written: fence (R437), shadow and channel
(R172, R176), the block's errors, in the copy that serves (R169, R174, R176), a core held in its restart (R139), and the errors of
SRAM (R181–R183). A request to the scratchpad of a QUIET core wakes it (R144). -/
def State.checkMem (s : State) (m : Master) (cls : Nat) (write : Bool) (pa : Nat) : State × MStat :=
  if !s.fenceOk cls write pa then (s.logFence m cls write pa, .fence)
  else if isDram pa then
    match s.dramStat pa with
    | .fence => (s.logFence m cls write pa, .fence)
    | .ok =>
      if write then (s, .ok)
      else s.readDram (if s.chUp (dramCh pa) then pa / 64 else pa / 64 + 0x4000000)
    | st => (s, st)
  else if pa < 0x1004000000 ∧ s.fld (fCoreState ((pa - 0x1000000000) / 0x200000)) = csRESTARTING then (s, .epochChanged)
  else
    let s := if pa < 0x1004000000 then s.wakeSpm ((pa - 0x1000000000) / 0x200000) else s
    if write then (s, .ok) else s.readSram (pa / 64)

/-- Bytes as a master reads them from memory. A mirrored region is held once: its two copies never differ as long as one of
them serves, and no access reaches a shadow address (R172, R174, R176, R177). -/
def State.getMem (s : State) (pa n : Nat) : List Byte := s.bytes pa n

/-- Bytes written to memory; a write that covers a whole 64-byte block also ends its poison and its errors, in both copies of a
mirrored block (R172, R183). -/
def State.putMem (s : State) (pa : Nat) (data : List Byte) : State :=
  let s := s.setBytes pa data
  if data.length = 64 ∧ pa % 64 = 0 then
    { s with
      poison := s.poison.filter (· ≠ pa / 64)
      ecc := SMap.dropKeys s.ecc (fun b => b == pa / 64 || (s.mirrored pa && b == pa / 64 + 0x4000000)) }
  else s

end Sys2Proof.Machine
end

