-- ==== Sys2Proof/Machine/Steward.lean ====
section
/-! DEFINITION. What every instruction of the Steward shares: the boundary at which an event is taken, the checks before an
instruction takes effect, retirement, and taking an exception (R208, R209, R216, R220, R247–R253). -/
namespace Sys2Proof.Machine

/-! ### Exceptions -/

/-- An exception or interrupt as R251 records it. -/
structure Exc where
  code : Nat
  status : Nat
  engines : Nat
  isAsync : Bool
  val : Word
deriving DecidableEq, Repr

/-- A synchronous exception with no status (R247). -/
def Exc.sync (code : Nat) (val : Word := 0) : Exc := ⟨code, 0, 0, false, val⟩

/-- The code of an access outcome in ECAUSE.STATUS. -/
def mstCode : MStat → Nat
  | .ok => 0
  | .addrDecode => 1
  | .fence => 2
  | .poison => 3
  | .epochChanged => 4

/-- The word of ECAUSE and MCAUSE (R221). -/
def Exc.cause (e : Exc) : Word :=
  w64 ((if e.isAsync then 2 ^ 31 else 0) + e.status % 256 * 65536 + e.engines % 256 * 256 + e.code % 256)

/-- The number of the first register of a level's exception set: ESTAT or MSTAT. -/
def excBase (l : Priv) : Nat := if l = .m then 0x10 else 0x08

/-- INEXC of a level's status register. -/
def Core.inExc (k : Core) (l : Priv) : Bool := (k.rdCsr (excBase l)).getLsbD 0

/-- IE of a level's status register. -/
def Core.ie (k : Core) (l : Priv) : Bool := (k.rdCsr (excBase l)).getLsbD 1

/-- The status word at entry: PPRIV the present level, PIE the present IE, IE 0, INEXC 1 (R251). -/
def excStat (k : Core) (l : Priv) : Word :=
  w64 (k.priv.code * 16 + (if k.ie l then 4 else 0) + 1)

/-- A core that enters the handler of level `l` (R251). -/
def Core.enter (k : Core) (l : Priv) (e : Exc) (epc : Word) : Core :=
  let b := excBase l
  let vec := k.rdCsr (b + 4)
  { ((((k.wrCsr b (excStat k l)).wrCsr (b + 1) e.cause).wrCsr (b + 2) epc).wrCsr (b + 3) e.val) with
    priv := l, pc := vec, stw := .run }

/-- Taking an exception or interrupt at level `l` (R251): at M with a handler of M running the core restarts instead. -/
def State.takeExc (s : State) (c : Nat) (l : Priv) (e : Exc) (epc : Word) : State :=
  let s := s.traceRec c 2 e.code
  if l = .m ∧ (s.core c).inExc .m then s.coreFault c 0x31
  else s.modCore c (fun k => k.enter l e epc)

/-- The level that takes an exception arising at a level: U to S, S and M to M (R247). -/
def Priv.up (p : Priv) : Priv := if p = .u then .s else .m

/-- A synchronous exception of the instruction at `pc`, with EPC given (R248, R251). -/
def State.raise (s : State) (c : Nat) (e : Exc) (epc : Word) : State :=
  s.takeExc c (s.core c).priv.up e epc

/-! ### Pending events -/

/-- TIMER is pending while TIME is at least TIMECMP (R221). -/
def State.timerPending (s : State) (c : Nat) : Bool := ((s.core c).rdCsr 0x24).toNat ≤ s.tb2 % 2 ^ 64

/-- Whether an event whose target is level `l` may be taken: no handler of that level runs and the Steward is not above it
(R250; asynchronous exceptions for S wait while the Steward is at M, log entry 13). -/
def Core.mayTake (k : Core) (l : Priv) : Bool := !k.inExc l && l.atLeast k.priv

/-- Fired watches become pending one at a time, the lowest number first; the watch that does is registered no more (R239,
R472). -/
def Core.promote (k : Core) : Core :=
  if k.pend.watch.isSome then k else
  match (List.range 16).find? (fun n => k.watches.any (fun w => w.num == n && w.fired)) with
  | none => k
  | some n =>
    { k with
      pend := { k.pend with watch := k.watches.find? (fun w => w.num == n && w.fired) }
      watches := k.watches.filter (fun w => !(w.num == n && w.fired)) }

/-- The events pending at a core, each with its level and the core with the event no longer pending, in the order of R249; WATCH and
TIMER only while they are enabled (R221, R250). -/
def State.events (s : State) (c : Nat) : List (Priv × Exc × Core) :=
  let k := s.core c
  let p := k.pend
  let ien := k.rdCsr 0x18
  p.storeAsync.zipIdx.map (fun x =>
    (x.1.2.2.up, ⟨0x20, mstCode x.1.1, 0, true, w64 x.1.2.1⟩, { k with pend := { p with storeAsync := p.storeAsync.eraseIdx x.2 } })) ++
  (if p.engines ≠ 0 then [(if k.priv = .m then .m else .s, ⟨0x21, 0, p.engines, true, 0⟩, { k with pend := { p with engines := 0 } })]
    else []) ++
  (if p.slotOverrun then [(.s, ⟨0x22, 0, 0, true, 0⟩, { k with pend := { p with slotOverrun := false } })] else []) ++
  (if p.watchmanWarn then [(.m, ⟨0x42, 0, 0, true, 0⟩, { k with pend := { p with watchmanWarn := false } })] else []) ++
  (if p.deadlock then [(.m, ⟨0x43, 0, 0, true, 0⟩, { k with pend := { p with deadlock := false } })] else []) ++
  (match p.watch with
    | some w => if k.ie .s && ien.getLsbD 0 then
        [(.s, ⟨0x40, 0, 0, true, w64 w.num⟩, ({ k with pend := { p with watch := none } } : Core).promote)] else []
    | none => []) ++
  (if k.ie .s && ien.getLsbD 1 && s.timerPending c then [(.s, ⟨0x41, 0, 0, true, 0⟩, k)] else [])

/-- The first event that may be taken, with its level, and the core with the event no longer pending (R249, R250). -/
def State.nextEvent (s : State) (c : Nat) : Option (Priv × Exc × Core) :=
  (s.events c).find? (fun e => (s.core c).mayTake e.1)

/-- The Steward takes the first event that may be taken, with EPC the next instruction not yet executed (R248, R249). -/
def State.takePending (s : State) (c : Nat) : Option State :=
  match s.nextEvent c with
  | some (l, e, k) => some ((s.setCore c k).takeExc c l e k.pc)
  | none => none

/-- IPEND: the pending watch, the timer, and the two interrupts of level M (R221). -/
def State.ipend (s : State) (c : Nat) : Nat :=
  let k := s.core c
  (if k.pend.watch.isSome then 1 else 0) + (if s.timerPending c then 2 else 0) +
    (if k.pend.watchmanWarn then 4 else 0) + (if k.pend.deadlock then 8 else 0)

/-- Whether anything is pending that ends WFI, disabled or not (R233). -/
def State.anyPending (s : State) (c : Nat) : Bool :=
  let p := (s.core c).pend
  s.ipend c != 0 || !p.storeAsync.isEmpty || p.engines != 0 || p.slotOverrun

/-! ### U windows and fetch -/

/-- The four U windows as (UWINnB, UWINnL). -/
def Core.wins (k : Core) : List (Nat × Nat) :=
  (List.range 4).map (fun n => ((k.rdCsr (0x28 + 2 * n)).toNat, (k.rdCsr (0x29 + 2 * n)).toNat))

/-- Whether a valid U window grants bytes `a` to `a + n − 1` with permission bit `perm`: 0 R, 1 W, 2 X (R216, R222). -/
def winGrants (ws : List (Nat × Nat)) (perm a n : Nat) : Bool :=
  ws.any (fun w => bit w.2 0 && bit w.1 perm &&
    w.1 / 0x1000 % 2 ^ 28 ≤ a / 0x1000 && (a + n - 1) / 0x1000 ≤ w.2 / 0x1000 % 2 ^ 28)

/-- Whether an address falls in the alias of the own core's scratchpad (R160). -/
def inAlias (a n : Nat) : Bool := 0xFF00000000 ≤ a && a + n ≤ 0xFF00200000

/-- Whether any of `n` bytes from an address lies in the control window, by its own addresses or in the view of this device's own
number (R160, R162). -/
def State.hitsCtl (s : State) (a n : Nat) : Bool :=
  let own := 0x4000000000 + s.fld R.NIM_CFG_SELF * 0x400000000 + 0x300000000
  0 < n && ((a < 0x1800340000 && 0x1800000000 < a + n) || (s.hasNim && a < own + 0x340000 && own < a + n))

/-- Whether a data access at a level is allowed by R216 and R217: at U the alias or a granting window, and never the
control window. -/
def State.dataOk (s : State) (p : Priv) (ws : List (Nat × Nat)) (write : Bool) (a n : Nat) : Bool :=
  a + n ≤ 0x10000000000 &&
  (p != .u || inAlias a n || (winGrants ws (if write then 1 else 0) a n && !s.hitsCtl a n))

/-- Whether an instruction may be fetched at an address: DRAM or Pond SRAM (R220), and at U inside a window that grants X
(R216). -/
def State.fetchOk (s : State) (k : Core) (a : Nat) : Bool :=
  (match s.loc none a with
    | .mem pa => isDram pa || 0x1004000000 ≤ pa
    | _ => false) &&
  (k.priv != .u || winGrants k.wins 2 a 4)

/-- The address whose fetch R216 or R220 refuses, of the instruction word at `pc` and of the word after it when mod[3] says that it is
fetched too (log entry 171). -/
def State.fetchFault (s : State) (k : Core) (f : IFields) : Option Word :=
  if !s.fetchOk k k.pc.toNat then some k.pc
  else if f.hasExt && !s.fetchOk k (k.pc + 4).toNat then some (k.pc + 4) else none

/-! ### Running an instruction -/

/-- What an instruction does once its checks are passed: complete, continue at a target, raise an exception, or stay
(with what it waits for recorded, if anything). -/
inductive SOut where
  | done (s : State)
  | goto (s : State) (pc : Word)
  | exc (s : State) (e : Exc)
  | stay (s : State)

/-- INSTRET increased by 1 (R221). -/
def Core.retire (k : Core) : Core := k.wrCsr 0x21 (k.rdCsr 0x21 + 1)

/-- The instruction cache holds the line an instruction was fetched from (R155). -/
def Core.fetched (k : Core) : Core :=
  let l := k.pc.toNat / 64
  if k.icache.contains l then k else { k with icache := l :: k.icache.take 511 }

/-- The Steward goes on at an address with one more instruction retired. -/
def State.advance (s : State) (c : Nat) (pc : Word) : State :=
  s.modCore c (fun k => { k.retire with pc := pc, stw := .run })

/-- A branch: a target not aligned on 4 bytes raises IALIGN at the branch, with the target in EVAL (R232). -/
def State.branch (s : State) (c : Nat) (pc target : Word) : State :=
  if target.toNat % 4 ≠ 0 then s.raise c (.sync 0x02 target) pc
  else (s.traceRec c 1 target.toNat).advance c target

/-- What an instruction's outcome does to the state, for the instruction at `pc` of `len` bytes. -/
def State.settle (c : Nat) (pc : Word) (len : Nat) : SOut → State
  | .done s => s.advance c (pc + w64 len)
  | .goto s t => s.branch c pc t
  | .exc s e => s.raise c e pc
  | .stay s => s

/-- Whether the Steward stands at an instruction boundary: running, or in WFI with something pending (R233); a debug halt lets
one instruction run per step (R780). -/
def State.atBoundary (s : State) (c : Nat) : Bool :=
  let k := s.core c
  (!k.dbgHalt || k.step) && (k.stw == .run || (k.stw == .wfi && s.anyPending c))

/-- Whether the Steward stands where an event may be taken: at a boundary, or in a stalled WAIT or BARW (R241, R249). -/
def Core.mayInterrupt (k : Core) : Bool :=
  !k.dbgHalt && (match k.stw with
    | .run => true
    | .wfi => true
    | .waitObj .. => true
    | .waitBar _ => true
    | _ => false)

/-- The Steward's own transactions in flight (R201). -/
def State.inFlight (s : State) (c : Nat) : List Outst := s.fab.outst.filter (fun o => o.core == c && o.unit == 5)

/-- A debug step is used up by the instruction that starts. -/
def State.useStep (s : State) (c : Nat) : State :=
  if (s.core c).step then s.modCore c (fun k => { k with step := false }) else s

/-- One instruction of the Steward: a pending event is taken first (R249); then, in the order of their codes, the fetch is checked
(R220), the branch target (`target`, 0 where there is none), the word's legality whatever the predicate holds (R209) with what of it
depends on registers (`valid`, asked only where the predicate holds, log entry 170), and the level; a predicate of 0 ends the
instruction without effect (R208). A serialising instruction then waits until every posted store is visible (R214), and `body`
runs. -/
def State.runInstr (s : State) (c : CoreId) (f : IFields) (lvl : Priv) (ser legal : Bool) (body : State → SOut)
    (target : State → Word := fun _ => 0) (valid : State → Bool := fun _ => true) : State :=
  if !s.atBoundary c then s else
  let held := s
  let s := s.useStep c
  match s.takePending c with
  | some t => t
  | none =>
    let k := s.core c
    let pc := k.pc
    let on := k.preg f.pred.toNat
    match s.fetchFault k f with
    | some a => s.raise c (.sync 0x01 a) pc
    | none =>
      if on && (target s).toNat % 4 != 0 then s.raise c (.sync 0x02 (target s)) pc
      else if !legal || (on && !valid s) then s.raise c (.sync 0x03) pc
      else
        let s := s.modCore c Core.fetched
        if !on then s.advance c (pc + w64 f.len)
        else if !k.priv.atLeast lvl then s.raise c (.sync 0x04) pc
        else if ser && !(s.inFlight c).isEmpty then held
        else State.settle c pc f.len (body s)

end Sys2Proof.Machine
end

