-- ==== Sys2Proof/Machine/Alu.lean ====
section
/-! DEFINITION. Classes 0 and 1 of the Steward: integer ALU and integer immediate (R223–R225). -/
namespace Sys2Proof.Machine

/-- W of class 0: mod[2] (R223). -/
def IFields.isW (f : IFields) : Bool := f.mod.getLsbD 2

/-- A 64-bit operation, or its 32-bit form under W, sign-extended (R223). -/
def aluW (w : Bool) (g : Word → Word → Word) (h : BitVec 32 → BitVec 32 → BitVec 32) (a b : Word) : Word :=
  if w then (h (a.setWidth 32) (b.setWidth 32)).signExtend 64 else g a b

/-- The legality of ops 0x00–0x14 of class 0: no extension word, mod[1:0] 0 (R223). -/
def aluLegal (f : IFields) : Bool := f.mod.toNat % 4 == 0 && !f.hasExt

/-- A class 0 operation on two registers with a 64-bit and a 32-bit form. -/
def execAlu (g : Word → Word → Word) (h : BitVec 32 → BitVec 32 → BitVec 32) (c : CoreId) (f : IFields) (s : State) :
    Step :=
  .next (s.runInstr c f .u false (aluLegal f) (fun s =>
    .done (s.modCore c (fun k => k.setS f.dst.toNat (aluW (IFields.isW f) g h (k.a f) (k.b f))))))

/-- A class 0 division: ARITH when the divisor is 0 (R223). -/
def execDivide (g : Word → Word → Word) (h : BitVec 32 → BitVec 32 → BitVec 32) (c : CoreId) (f : IFields) (s : State) :
    Step :=
  .next (s.runInstr c f .u false (aluLegal f) (fun s =>
    let b := (s.core c).b f
    let zero := if IFields.isW f then b.setWidth 32 == (0 : BitVec 32) else b == 0
    if zero then .exc s (.sync 0x08)
    else .done (s.modCore c (fun k => k.setS f.dst.toNat (aluW (IFields.isW f) g h (k.a f) (k.b f))))))

/-- Shift left by the low bits of b (R223). -/
def shl {w : Nat} (m : Nat) (a b : BitVec w) : BitVec w := a <<< (b.toNat % m)

/-- Shift right with zeros in (R223). -/
def shr {w : Nat} (m : Nat) (a b : BitVec w) : BitVec w := a >>> (b.toNat % m)

/-- Shift right with the sign in (R223). -/
def sra {w : Nat} (m : Nat) (a b : BitVec w) : BitVec w := a.sshiftRight (b.toNat % m)

/-- The high half of the signed product (R223). -/
def mulHigh {w : Nat} (a b : BitVec w) : BitVec w := BitVec.ofInt w ((a.toInt * b.toInt) / 2 ^ w)

/-- The high half of the unsigned product (R223). -/
def mulHighU {w : Nat} (a b : BitVec w) : BitVec w := BitVec.ofNat w ((a.toNat * b.toNat) / 2 ^ w)

/-- The signed minimum and maximum, and the unsigned ones (R223). -/
def minS {w : Nat} (a b : BitVec w) : BitVec w := if b.slt a then b else a
def maxS {w : Nat} (a b : BitVec w) : BitVec w := if a.slt b then b else a
def minU {w : Nat} (a b : BitVec w) : BitVec w := if b.ult a then b else a
def maxU {w : Nat} (a b : BitVec w) : BitVec w := if a.ult b then b else a

/-- The count of leading zeros (R223). -/
def clz {w : Nat} (a : BitVec w) : BitVec w :=
  BitVec.ofNat w (w - (if a.toNat = 0 then 0 else a.toNat.log2 + 1))

/-- The count of set bits (R223). -/
def popc {w : Nat} (a : BitVec w) : BitVec w :=
  BitVec.ofNat w (((List.range w).filter (fun i => a.getLsbD i)).length)

/-- ADD (R223). -/
def execAdd := execAlu (· + ·) (· + ·)
/-- SUB (R223). -/
def execSub := execAlu (· - ·) (· - ·)
/-- AND (R223). -/
def execAnd := execAlu (· &&& ·) (· &&& ·)
/-- OR (R223). -/
def execOr := execAlu (· ||| ·) (· ||| ·)
/-- XOR (R223). -/
def execXor := execAlu (· ^^^ ·) (· ^^^ ·)
/-- SHL (R223). -/
def execShl := execAlu (shl 64) (shl 32)
/-- SHR (R223). -/
def execShr := execAlu (shr 64) (shr 32)
/-- SRA (R223). -/
def execSra := execAlu (sra 64) (sra 32)
/-- MUL (R223). -/
def execMul := execAlu (· * ·) (· * ·)
/-- MULH (R223). -/
def execMulh := execAlu mulHigh mulHigh
/-- MULHU (R223). -/
def execMulhu := execAlu mulHighU mulHighU
/-- DIV: truncated toward zero; the minimum value by −1 gives the minimum value (R223). -/
def execDiv := execDivide BitVec.sdiv BitVec.sdiv
/-- DIVU (R223). -/
def execDivu := execDivide (· / ·) (· / ·)
/-- REM (R223). -/
def execRem := execDivide BitVec.srem BitVec.srem
/-- REMU (R223). -/
def execRemu := execDivide (· % ·) (· % ·)
/-- MIN (R223). -/
def execMin := execAlu minS minS
/-- MAX (R223). -/
def execMax := execAlu maxS maxS
/-- MINU (R223). -/
def execMinu := execAlu minU minU
/-- MAXU (R223). -/
def execMaxu := execAlu maxU maxU

/-- A class 0 operation on one register, with the b field 0 (R223). -/
def execAlu1 (g : Word → Word) (h : BitVec 32 → BitVec 32) (c : CoreId) (f : IFields) (s : State) : Step :=
  .next (s.runInstr c f .u false (aluLegal f && f.srcB == 0) (fun s =>
    .done (s.modCore c (fun k => k.setS f.dst.toNat (aluW (IFields.isW f) (fun a _ => g a) (fun a _ => h a) (k.a f) 0)))))

/-- CLZ (R223). -/
def execClz := execAlu1 clz clz
/-- POPC (R223). -/
def execPopc := execAlu1 popc popc

/-- SEL: a if the predicate named by mod[2:0] holds 1, else b (R223, R224). -/
def execSel (c : CoreId) (f : IFields) (s : State) : Step :=
  .next (s.runInstr c f .u false (!f.hasExt) (fun s =>
    .done (s.modCore c (fun k => k.setS f.dst.toNat (if k.preg f.low3 then k.a f else k.b f)))))

/-- CMP: a predicate from a 64-bit comparison; conditions 6 and 7 are illegal (R224). -/
def execCmp (c : CoreId) (f : IFields) (s : State) : Step :=
  .next (s.runInstr c f .u false (!f.hasExt && f.dst.toNat < 8 && f.low3 < 6) (fun s =>
    .done (s.modCore c (fun k => k.setP f.dst.toNat (cmpCond f.low3 (k.a f) (k.b f))))))

/-- PLOG (R223); an op above 3 is listed by no table (R209). -/
def execPlog (c : CoreId) (f : IFields) (s : State) : Step :=
  .next (s.runInstr c f .u false (!f.hasExt && f.low3 < 4) (fun s =>
    .done (s.modCore c (fun k =>
      k.setP (f.dst.toNat % 8) (plogOp f.low3 (k.preg (f.srcA.toNat % 8)) (k.preg (f.srcB.toNat % 8)))))))

/-- The predicate registers p7…p0 as a number; p0 reads as 1 (R212). -/
def Core.preds (k : Core) : Nat := (k.p ||| 1).toNat

/-- PGET (R223). -/
def execPget (c : CoreId) (f : IFields) (s : State) : Step :=
  .next (s.runInstr c f .u false (!f.hasExt && f.srcA == 0 && f.srcB == 0) (fun s =>
    .done (s.modCore c (fun k => k.setS f.dst.toNat (w64 k.preds)))))

/-- PSET: p1–p7 from a[7:1]; a[0] is ignored (R223). -/
def execPset (c : CoreId) (f : IFields) (s : State) : Step :=
  .next (s.runInstr c f .u false (!f.hasExt && f.dst == 0 && f.srcB == 0) (fun s =>
    .done (s.modCore c (fun k => { k with p := (k.a f).setWidth 8 &&& 0xFE }))))

/-! ### Class 1 -/

/-- A class 1 operation of a register and the immediate (R225). -/
def execImm (g : Word → Word → Word) (c : CoreId) (f : IFields) (s : State) : Step :=
  .next (s.runInstr c f .u false f.immOk (fun s =>
    .done (s.modCore c (fun k => k.setS f.dst.toNat (g (k.a f) f.imm)))))

/-- ADDI (R225). -/
def execAddi := execImm (· + ·)
/-- ANDI (R225). -/
def execAndi := execImm (· &&& ·)
/-- ORI (R225). -/
def execOri := execImm (· ||| ·)
/-- XORI (R225). -/
def execXori := execImm (· ^^^ ·)
/-- MULI (R225). -/
def execMuli := execImm (· * ·)

/-- A class 1 shift by imm[5:0], with imm[7:6] 0 and no extension word (R225). -/
def execShiftImm (g : Word → Nat → Word) (c : CoreId) (f : IFields) (s : State) : Step :=
  .next (s.runInstr c f .u false (!f.hasExt && f.imm8 < 64) (fun s =>
    .done (s.modCore c (fun k => k.setS f.dst.toNat (g (k.a f) f.imm8)))))

/-- SHLI (R225). -/
def execShli := execShiftImm (fun a n => a <<< n)
/-- SHRI (R225). -/
def execShri := execShiftImm (fun a n => a >>> n)
/-- SRAI (R225). -/
def execSrai := execShiftImm (fun a n => a.sshiftRight n)

/-- A class 1 comparison into a predicate; dst[4:3] is 0 (R225, log entry 14). -/
def execCmpImm (cond : Nat) (c : CoreId) (f : IFields) (s : State) : Step :=
  .next (s.runInstr c f .u false (f.immOk && f.dst.toNat < 8) (fun s =>
    .done (s.modCore c (fun k => k.setP f.dst.toNat (cmpCond cond (k.a f) f.imm)))))

/-- CMPEQI (R225). -/
def execCmpeqi := execCmpImm 0
/-- CMPNEI (R225). -/
def execCmpnei := execCmpImm 1
/-- CMPLTI (R225). -/
def execCmplti := execCmpImm 2
/-- CMPGEI (R225). -/
def execCmpgei := execCmpImm 3
/-- CMPLTUI (R225). -/
def execCmpltui := execCmpImm 4
/-- CMPGEUI (R225). -/
def execCmpgeui := execCmpImm 5

/-- MOVHI: the extension word, which is required, replaces the high half of d (R225). -/
def execMovhi (c : CoreId) (f : IFields) (s : State) : Step :=
  .next (s.runInstr c f .u false (f.hasExt && f.immOk && f.srcA == 0) (fun s =>
    .done (s.modCore c (fun k => k.setS f.dst.toNat (f.ext ++ (k.d f).setWidth 32)))))

/-- ADPC: the address of this instruction plus the immediate (R225). -/
def execAdpc (c : CoreId) (f : IFields) (s : State) : Step :=
  .next (s.runInstr c f .u false (f.immOk && f.srcA == 0) (fun s =>
    .done (s.modCore c (fun k => k.setS f.dst.toNat (k.pc + f.imm)))))

end Sys2Proof.Machine
end

