-- ==== Sys2Proof/Machine/Branch.lean ====
section
/-! DEFINITION. Class 3 of the Steward: branches and control (R231, R232). -/
namespace Sys2Proof.Machine

/-- BRA: pc plus the offset (R231). -/
def execBra (c : CoreId) (f : IFields) (s : State) : Step :=
  .next (s.runInstr c f .u false f.braOk (fun s => .goto s ((s.core c).pc + f.braOff))
    (fun s => (s.core c).pc + f.braOff))

/-- A call leaves the address after it in s31 (R211, R231). -/
def State.callTo (s : State) (c : CoreId) (f : IFields) (target : Word) : SOut :=
  .goto (s.modCore c (fun k => k.setS 31 (k.pc + w64 f.len))) target

/-- CALL (R231). -/
def execCall (c : CoreId) (f : IFields) (s : State) : Step :=
  .next (s.runInstr c f .u false f.braOk (fun s => s.callTo c f ((s.core c).pc + f.braOff))
    (fun s => (s.core c).pc + f.braOff))

/-- The fields of JMP and CALLR that must be 0: dst, srcB and mod (R231). -/
def jmpLegal (f : IFields) : Bool := f.dst == 0 && f.srcB == 0 && f.mod == 0

/-- JMP (R231). -/
def execJmp (c : CoreId) (f : IFields) (s : State) : Step :=
  .next (s.runInstr c f .u false (jmpLegal f) (fun s => .goto s ((s.core c).a f)) (fun s => (s.core c).a f))

/-- CALLR (R231). -/
def execCallr (c : CoreId) (f : IFields) (s : State) : Step :=
  .next (s.runInstr c f .u false (jmpLegal f) (fun s => s.callTo c f ((s.core c).a f)) (fun s => (s.core c).a f))

/-- LOOP: above 1 the counter falls by 1 and the branch is taken; otherwise the counter becomes 0 and it falls through
(R231). -/
def execLoop (c : CoreId) (f : IFields) (s : State) : Step :=
  .next (s.runInstr c f .u false (!f.hasExt) (fun s =>
    let d := (s.core c).d f
    if 1 < d.toNat then .goto (s.modCore c (fun k => k.setS f.dst.toNat (d - 1))) ((s.core c).pc + f.loopOff)
    else .done (s.modCore c (fun k => k.setS f.dst.toNat 0)))
    (fun s => if 1 < ((s.core c).d f).toNat then (s.core c).pc + f.loopOff else 0))

end Sys2Proof.Machine
end

