-- ==== Sys2Proof/Machine/Formats.lean ====
section
/-! DEFINITION. The number formats of the engines and the arithmetic that fixes every bit: exact values, one rounding,
the fixed order of floating sums, requantisation and residues (R266–R284, R306). -/
namespace Sys2Proof.Machine

/-! ### Exact values -/

/-- The exact value of an element: a NaN, an infinity, or (−1)^neg × m × 2^e. -/
inductive FV where
  | nan
  | inf (neg : Bool)
  | fin (neg : Bool) (m : Nat) (e : Int)
deriving DecidableEq, Repr

/-- +0. -/
def FV.zero : FV := .fin false 0 0

/-- The bits of ENGFLAG within an engine's group (R324). -/
def flWRAP : Nat := 1
def flINVALID : Nat := 2
def flOVERFLOW : Nat := 4
def flUNDERFLOW : Nat := 8

/-- Results paired with the flags raised; a list of them with all the flags. -/
def collect {α : Type} (l : List (α × Nat)) : List α × Nat := (l.map (·.1), l.foldl (fun f x => f ||| x.2) 0)

/-- An integer as an exact value. -/
def FV.ofInt (z : Int) : FV := .fin (z < 0) z.natAbs 0

/-- The exact product (R276: the sign of its factors), with INVALID for 0 × infinity. -/
def FV.mul : FV → FV → FV × Nat
  | .nan, _ => (.nan, 0)
  | _, .nan => (.nan, 0)
  | .inf a, .inf b => (.inf (xor a b), 0)
  | .inf a, .fin b m _ => if m = 0 then (.nan, flINVALID) else (.inf (xor a b), 0)
  | .fin a m _, .inf b => if m = 0 then (.nan, flINVALID) else (.inf (xor a b), 0)
  | .fin a m e, .fin b n g => (.fin (xor a b) (m * n) (e + g), 0)

/-- The signed integer m of a finite value at the exponent `e0`, which is at most its own. -/
def signedAt (neg : Bool) (m : Nat) (e e0 : Int) : Int :=
  let v : Int := (m * 2 ^ (e - e0).toNat : Nat)
  if neg then -v else v

/-- The exact sum (R276), with INVALID for a difference of infinities. -/
def FV.add : FV → FV → FV × Nat
  | .nan, _ => (.nan, 0)
  | _, .nan => (.nan, 0)
  | .inf a, .inf b => if a = b then (.inf a, 0) else (.nan, flINVALID)
  | .inf a, .fin .. => (.inf a, 0)
  | .fin .., .inf b => (.inf b, 0)
  | .fin a m e, .fin b n g =>
    let e0 := min e g
    let v := signedAt a m e e0 + signedAt b n g e0
    if v = 0 then (.fin (m == 0 && n == 0 && a && b) 0 0, 0) else (.fin (v < 0) v.natAbs e0, 0)

/-- Negation and magnitude. -/
def FV.neg : FV → FV
  | .nan => .nan
  | .inf a => .inf (!a)
  | .fin a m e => .fin (!a) m e
def FV.abs : FV → FV
  | .nan => .nan
  | .inf _ => .inf false
  | .fin _ m e => .fin false m e

/-- a < b on exact values that are not NaN; −0 equals +0. -/
def FV.lt : FV → FV → Bool
  | .nan, _ => false
  | _, .nan => false
  | .inf a, .inf b => a && !b
  | .inf a, .fin .. => a
  | .fin .., .inf b => !b
  | .fin a m e, .fin b n g => let e0 := min e g; signedAt a m e e0 < signedAt b n g e0

/-- a ≤ b on exact values that are not NaN. -/
def FV.le (a b : FV) : Bool := a != .nan && b != .nan && !b.lt a

/-- |x − y| of values that are not NaN; 0 for an infinity and itself. -/
def FV.dist (x y : FV) : FV := if x = y then .zero else (x.add y.neg).1.abs

/-- Whether a value has its sign bit set. -/
def FV.isNeg : FV → Bool
  | .nan => false
  | .inf a => a
  | .fin a _ _ => a

/-- a before b in the order of MIN and MAX, where −0 is below +0 (R276). -/
def FV.before (a b : FV) : Bool := a.lt b || (!b.lt a && a.isNeg && !b.isNeg)

/-! ### Formats -/

/-- How a floating format uses its top exponent (R268): infinities and NaNs, NaN only at the top mantissa, or neither. -/
inductive FSpecial where
  | ieee | topNan | none
deriving DecidableEq, Repr

/-- A floating layout: exponent and mantissa bits, bias, whether subnormals are flushed (R266–R268). -/
structure FFmt where
  eb : Nat
  mb : Nat
  bias : Nat
  flush : Bool
  spec : FSpecial
deriving DecidableEq, Repr

def fmtE4M3 : FFmt := ⟨4, 3, 7, true, .topNan⟩
def fmtE5M2 : FFmt := ⟨5, 2, 15, true, .ieee⟩
def fmtBF16 : FFmt := ⟨8, 7, 127, false, .ieee⟩
def fmtF16 : FFmt := ⟨5, 10, 15, false, .ieee⟩
def fmtF32 : FFmt := ⟨8, 23, 127, false, .ieee⟩
def fmtE2M3 : FFmt := ⟨2, 3, 1, false, .none⟩
def fmtE3M2 : FFmt := ⟨3, 2, 3, false, .none⟩
def fmtE2M1 : FFmt := ⟨2, 1, 1, false, .none⟩

/-- The floating layout of a format code, by its element variant (R266); none for integers, MXI8 and M61. -/
def ffmt (code : Nat) (esel : Bool) : Option FFmt :=
  match code with
  | 0x5 => some fmtE4M3
  | 0x6 => some fmtE5M2
  | 0x7 => some fmtBF16
  | 0x8 => some fmtF16
  | 0x9 => some fmtF32
  | 0xA => some (if esel then fmtE5M2 else fmtE4M3)
  | 0xB => some (if esel then fmtE3M2 else fmtE2M3)
  | 0xC => some fmtE2M1
  | _ => none

/-- Bits per element of a format code (R266). -/
def fmtBits (code : Nat) : Nat :=
  match code with
  | 0x0 => 4
  | 0x1 => 8
  | 0x2 => 16
  | 0x3 => 32
  | 0x4 => 8
  | 0x5 => 8
  | 0x6 => 8
  | 0x7 => 16
  | 0x8 => 16
  | 0x9 => 32
  | 0xA => 8
  | 0xB => 6
  | 0xC => 4
  | 0xD => 8
  | _ => 64

/-- Integer formats I4, I8, I16, I32 and U8; MX formats; plain floating formats. -/
def fmtIsInt (code : Nat) : Bool := code ≤ 4
def fmtIsMx (code : Nat) : Bool := 0xA ≤ code && code ≤ 0xD
def fmtIsFloat (code : Nat) : Bool := 5 ≤ code && code ≤ 9

/-- The two's complement value of the low `w` bits. -/
def sint (w x : Nat) : Int := (BitVec.ofNat w x).toInt

/-- The value of an integer element (R266). -/
def intOf (code x : Nat) : Int := if code = 4 then ((x % 256 : Nat) : Int) else sint (fmtBits code) x

/-- The range of an integer format. -/
def intMin (code : Nat) : Int := if code = 4 then 0 else -(2 : Int) ^ (fmtBits code - 1)
def intMax (code : Nat) : Int := if code = 4 then 255 else (2 : Int) ^ (fmtBits code - 1) - 1

/-- The greatest finite magnitude of a floating layout, as m × 2^e (R268). -/
def FFmt.maxM (f : FFmt) : Nat := if f.spec = .topNan then 2 ^ (f.mb + 1) - 2 else 2 ^ (f.mb + 1) - 1
def FFmt.maxE (f : FFmt) : Int :=
  (if f.spec = .ieee then 2 ^ f.eb - 2 else 2 ^ f.eb - 1 : Nat) - (f.bias : Int) - (f.mb : Int)

/-- The value of a floating element (R267, R268). -/
def FFmt.decode (f : FFmt) (x : Nat) : FV :=
  let m := x % 2 ^ f.mb
  let e := x / 2 ^ f.mb % 2 ^ f.eb
  let neg := x / 2 ^ (f.mb + f.eb) % 2 == 1
  let top := 2 ^ f.eb - 1
  if f.spec = .ieee ∧ e = top then (if m = 0 then .inf neg else .nan)
  else if f.spec = .topNan ∧ e = top ∧ m = 2 ^ f.mb - 1 then .nan
  else if e = 0 then .fin neg (if f.flush then 0 else m) (1 - (f.bias : Int) - (f.mb : Int))
  else .fin neg (2 ^ f.mb + m) ((e : Int) - (f.bias : Int) - (f.mb : Int))

/-- The canonical NaN (R268, R272). -/
def FFmt.nanBits (f : FFmt) : Nat :=
  if f.spec = .topNan then 2 ^ (f.mb + f.eb) - 1
  else if f = fmtE5M2 then 0x7F else (2 ^ f.eb - 1) * 2 ^ f.mb + 2 ^ (f.mb - 1)

/-- The bits of a value that the layout represents. -/
def FFmt.encode (f : FFmt) : FV → Nat
  | .nan => f.nanBits
  | .inf neg => (if neg then 2 ^ (f.mb + f.eb) else 0) + (2 ^ f.eb - 1) * 2 ^ f.mb
  | .fin neg m e =>
    let s := if neg then 2 ^ (f.mb + f.eb) else 0
    if m = 0 then s else
    let q := max ((Nat.log2 m : Int) + e) (1 - (f.bias : Int)) - (f.mb : Int)
    let n := if q ≤ e then m * 2 ^ (e - q).toNat else m / 2 ^ (q - e).toNat
    if n < 2 ^ f.mb then s + n
    else s + (q + (f.mb : Int) + (f.bias : Int)).toNat * 2 ^ f.mb + (n - 2 ^ f.mb)

/-! ### Rounding -/

/-- m ÷ 2^k rounded to an integer, for a magnitude of a given sign (R275). -/
def shiftRnd (rnd : Nat) (neg : Bool) (m k : Nat) : Nat :=
  let q := m / 2 ^ k
  let r := m % 2 ^ k
  if r = 0 then q else
  match rnd with
  | 0 => if 2 ^ k < 2 * r ∨ (2 ^ k = 2 * r ∧ q % 2 = 1) then q + 1 else q
  | 1 => q
  | 2 => if neg then q else q + 1
  | _ => if neg then q + 1 else q

/-- m × 2^e as a multiple of 2^q, rounded (R275). -/
def toQuantum (rnd : Nat) (neg : Bool) (m : Nat) (e q : Int) : Nat :=
  if q ≤ e then m * 2 ^ (e - q).toNat else shiftRnd rnd neg m (q - e).toNat

/-- Whether m × 2^e is above n × 2^g in magnitude. -/
def magLt (n : Nat) (g : Int) (m : Nat) (e : Int) : Bool :=
  let e0 := min e g
  n * 2 ^ (g - e0).toNat < m * 2 ^ (e - e0).toNat

/-- A value converted into a floating layout with one rounding (R268, R273, R275), as an exact value, with its flags. -/
def FFmt.round (f : FFmt) (rnd : Nat) (sat : Bool) (v : FV) : FV × Nat :=
  match v with
  | .nan => (.nan, 0)
  | .inf neg =>
    match f.spec with
    | .ieee => (.inf neg, 0)
    | .topNan => if sat then (.fin neg f.maxM f.maxE, 0) else (.nan, flINVALID)
    | .none => (.fin neg f.maxM f.maxE, 0)
  | .fin neg m e =>
    if m = 0 then (.fin neg 0 0, 0) else
    let x := (Nat.log2 m : Int) + e
    let emin := 1 - (f.bias : Int)
    if f.flush ∧ x < emin then (.fin neg 0 0, flUNDERFLOW) else
    let q := max x emin - (f.mb : Int)
    let n := toQuantum rnd neg m e q
    if magLt f.maxM f.maxE n q then
      match f.spec with
      | .ieee => if f.flush ∧ sat then (.fin neg f.maxM f.maxE, flOVERFLOW) else (.inf neg, flOVERFLOW)
      | .topNan => if sat then (.fin neg f.maxM f.maxE, flOVERFLOW) else (.nan, flOVERFLOW ||| flINVALID)
      | .none => (.fin neg f.maxM f.maxE, flOVERFLOW)
    else (.fin neg (if n = 0 then 0 else n) (if n = 0 then 0 else q), 0)

/-- A value rounded into F32 (R275: RNE where no field names a rounding). -/
def round32 (v : FV) (rnd : Nat := 0) : FV × Nat := fmtF32.round rnd false v

/-- An exact value converted into an integer format (R273). -/
def toInt (code rnd : Nat) (v : FV) : Int × Nat :=
  match v with
  | .nan => (0, flINVALID)
  | .inf neg => (if neg then intMin code else intMax code, flOVERFLOW)
  | .fin neg m e =>
    let n := toQuantum rnd neg m e 0
    let z : Int := if neg then -(n : Int) else n
    if z < intMin code then (intMin code, flOVERFLOW)
    else if intMax code < z then (intMax code, flOVERFLOW) else (z, 0)

/-- The low `w` bits of an integer. -/
def bitsOf (w : Nat) (z : Int) : Nat := (z % (2 : Int) ^ w).toNat

/-- The value of an element of a format without block scale: integer, floating or M61 as its unsigned number. -/
def elemVal (code : Nat) (esel : Bool) (x : Nat) : FV :=
  if code = 0xD then .fin ((sint 8 x) < 0) (sint 8 x).natAbs (-6)
  else match ffmt code esel with
    | some f => f.decode x
    | none => if code ≤ 4 then FV.ofInt (intOf code x) else .fin false x 0

/-- A value converted into a format without block scale, as bits with flags (R273, R275). -/
def elemConv (code rnd : Nat) (sat : Bool) (v : FV) : Nat × Nat :=
  match ffmt code false with
  | some f => let r := f.round rnd sat v; (f.encode r.1, r.2)
  | none => let r := toInt code rnd v; (bitsOf (fmtBits code) r.1, r.2)

/-! ### MX blocks -/

/-- The value of an element of an MX block with scale X (R269). -/
def mxVal (code : Nat) (esel : Bool) (x scale : Nat) : FV :=
  if scale = 0xFF then .nan else
  match elemVal code esel x with
  | .fin neg m e => .fin neg m (e + (scale : Int) - 127)
  | v => v

/-- emax of an MX element (R274). -/
def mxEmax (code : Nat) (esel : Bool) : Int :=
  match code with
  | 0xA => if esel then 15 else 8
  | 0xB => if esel then 4 else 2
  | 0xC => 2
  | _ => 0

/-- ⌊log2⌋ of the greatest magnitude of a block, none when all are zero. -/
def mxLog (vs : List FV) : Option Int :=
  vs.foldl (fun a v => match v with
    | .fin _ m e => if m = 0 then a else
        match a with
        | none => some ((Nat.log2 m : Int) + e)
        | some b => some (max b ((Nat.log2 m : Int) + e))
    | _ => a) none

/-- A finite value scaled by a power of two. -/
def FV.scale (v : FV) (k : Int) : FV :=
  match v with
  | .fin neg m e => .fin neg m (e + k)
  | v => v

/-- An MX element of a scaled value (R273, R274). -/
def mxElem (code : Nat) (esel : Bool) (rnd : Nat) (sat : Bool) (v : FV) : Nat × Nat :=
  match ffmt code esel with
  | some f => let r := f.round rnd sat v; (f.encode r.1, r.2)
  | none =>
    match v with
    | .fin neg m e =>
      let n := toQuantum rnd neg m e (-6)
      let k := min n 127
      (bitsOf 8 (if neg then -(k : Int) else k), if 127 < n then flOVERFLOW else 0)
    | _ => (0, 0)

/-- Whether a value is finite. -/
def FV.isFin : FV → Bool
  | .fin .. => true
  | _ => false

/-- The scale of a block of values (R274). -/
def mxScale (code : Nat) (esel : Bool) (vs : List FV) : Nat :=
  if !vs.all FV.isFin then 0xFF else
  match mxLog vs with
  | none => 0
  | some l => (max 0 (min 254 (l - mxEmax code esel + 127))).toNat

/-- A block of 32 values converted into an MX format: elements, scale and flags (R273, R274). A NaN or an infinity has no element of
its own but in MXF8, so its bits stay free (log entry 20). The scale 0xFF makes every element NaN, from inputs without one when
the block holds only infinities (R269, R324). -/
def mxBlock (code : Nat) (esel : Bool) (rnd : Nat) (sat : Bool) (vs : List FV) : List Nat × Nat × Nat :=
  let x := mxScale code esel vs
  let r := collect (vs.zipIdx.map (fun (v : FV × Nat) =>
    if v.1.isFin || code == 0xA then mxElem code esel rnd sat (v.1.scale (127 - (x : Int)))
    else (Config.mxNanElem code v.2 % 2 ^ fmtBits code, 0)))
  (r.1, x, if x = 0xFF ∧ vs.contains .nan = false then r.2 ||| flINVALID else r.2)

/-! ### Sums in the fixed order (R279–R281) -/

/-- One level of the pairwise tree, each sum rounded into F32. -/
def pairSum (rnd : Nat) : List FV → List FV × Nat
  | a :: b :: t =>
    let x := a.add b
    let y := round32 x.1 rnd
    let r := pairSum rnd t
    (y.1 :: r.1, x.2 ||| y.2 ||| r.2)
  | l => (l, 0)

/-- The sum of a group of 32 values by five levels of the tree. -/
def treeSum (rnd : Nat) : Nat → List FV → FV × Nat
  | 0, l => (l.headD .zero, 0)
  | n + 1, l =>
    let r := pairSum rnd l
    let t := treeSum rnd n r.1
    (t.1, r.2 ||| t.2)

/-- acc := round_f32(acc + x). -/
def accSum (rnd : Nat) (acc x : FV) : FV × Nat :=
  let y := acc.add x
  let z := round32 y.1 rnd
  (z.1, y.2 ||| z.2)

/-- The groups of 32 of a list padded with +0, summed sequentially from `acc` (R279). -/
def groupSum (rnd : Nat) : Nat → FV → List FV → FV × Nat
  | 0, acc, _ => (acc, 0)
  | n + 1, acc, l =>
    if l.isEmpty then (acc, 0) else
    let g := l.take 32
    let t := treeSum rnd 5 (g ++ List.replicate (32 - g.length) FV.zero)
    let a := accSum rnd acc t.1
    let r := groupSum rnd n a.1 (l.drop 32)
    (r.1, t.2 ||| a.2 ||| r.2)

/-- The products of R279, each rounded into F32. -/
def products (as bs : List FV) : List FV × Nat :=
  collect ((as.zip bs).map (fun p => let x := p.1.mul p.2; let y := round32 x.1; (y.1, x.2 ||| y.2)))

/-- The floating dot product of R279. -/
def dotFloat (init : FV) (as bs : List FV) : FV × Nat :=
  let p := products as bs
  let r := groupSum 0 p.1.length init p.1
  (r.1, p.2 ||| r.2)

/-- The sum of the magnitudes of the products, every rounding RU (R309). -/
def dotBound (as bs : List FV) : FV × Nat :=
  let p := collect ((as.zip bs).map (fun p => let x := p.1.mul p.2; let y := round32 x.1.abs 2; (y.1, x.2 ||| y.2)))
  let r := groupSum 2 p.1.length FV.zero p.1
  (r.1, p.2 ||| r.2)

/-- The exact sum of a group of products of MX elements; an exact zero is +0 (R276, R280). -/
def exactSum (l : List FV) : FV × Nat :=
  let r := l.foldl (fun a x => let y := FV.add a.1 x; (y.1, a.2 ||| y.2)) (FV.zero, 0)
  match r.1 with
  | .fin _ 0 _ => (.zero, r.2)
  | _ => r

/-- The dot product of MX operands (R280): each block's sum exact, rounded once, and the blocks summed sequentially. -/
def dotMx : Nat → FV → List FV → List FV → FV × Nat
  | 0, acc, _, _ => (acc, 0)
  | n + 1, acc, as, bs =>
    if as.isEmpty then (acc, 0) else
    let p := collect (((as.take 32).zip (bs.take 32)).map (fun p => p.1.mul p.2))
    let g := exactSum p.1
    let x := round32 g.1
    let a := accSum 0 acc x.1
    let r := dotMx n a.1 (as.drop 32) (bs.drop 32)
    (r.1, p.2 ||| g.2 ||| x.2 ||| a.2 ||| r.2)

/-! ### Integers -/

/-- The exact sum of products of R277. -/
def dotInt (init : Int) (as bs : List Int) : Int := (as.zip bs).foldl (fun s p => s + p.1 * p.2) init

/-- Reduction modulo 2^w into the signed range, and WRAP when that changes the value (R277, R278, R300). -/
def wrapInt (code : Nat) (z : Int) : Int × Nat :=
  (intOf code (bitsOf (fmtBits code) z), if intMin code ≤ z ∧ z ≤ intMax code then 0 else flWRAP)

/-- q ÷ 2^k of a signed integer, rounded (R275, R283). -/
def roundShift (q : Int) (k rnd : Nat) : Int :=
  let n := shiftRnd rnd (q < 0) q.natAbs k
  if q < 0 then -(n : Int) else n

/-- Requantisation of an accumulator plus bias (R283). -/
def requant (t mult : Int) (shift rnd : Nat) (zp lo hi : Int) : Int :=
  min (max (roundShift (t * mult) shift rnd + zp) lo) hi

/-- R284: lo at most hi, both within the output format. -/
def requantOk (ofmt : Nat) (lo hi : Int) : Bool := lo ≤ hi && intMin ofmt ≤ lo && hi ≤ intMax ofmt

/-- Output formats of a requantisation (R283). -/
def requantFmt (ofmt : Nat) : Bool := ofmt == 0 || ofmt == 1 || ofmt == 2 || ofmt == 4

/-! ### Rows of elements with their MX scales -/

/-- The element-wise values of a row. -/
def rowVals (code : Nat) (esel : Bool) (l : List (Nat × Nat)) : List FV :=
  l.map (fun e => if fmtIsMx code then mxVal code esel e.1 e.2 else elemVal code esel e.1)

/-- The integers of a row. -/
def rowInts (code : Nat) (l : List (Nat × Nat)) : List Int := l.map (fun e => intOf code e.1)

/-! ### Residues -/

/-- p = 2^61 − 1 (R266). -/
def p61 : Nat := 2 ^ 61 - 1

/-- The lanes of MRND (R310, R311): uniform residues, or +1.0 and −1.0 in F32. -/
def mrndLane (one : Bool) (v : Nat) : Nat := if one then (if v % 2 = 0 then 0x3F800000 else 0xBF800000) else v % p61

/-- The residue of an integer (R306). -/
def resInt (z : Int) : Nat := (z % (p61 : Int)).toNat

/-- An M61 input read (R271): none when bits [63:61] are not 0, and 2^61 − 1 read as 0. -/
def m61In (x : Nat) : Option Nat := if x < 2 ^ 61 then some (if x = p61 then 0 else x) else none

end Sys2Proof.Machine
end

