-- ==== Sys2Proof/Machine/Matching.lean ====
section
/-! DEFINITION. How the Compare engine matches two elements and records what it finds (R315, R316, R318). -/
namespace Sys2Proof.Machine

/-! ### Matching (R315) -/

/-- The place of the bits of a floating value in the ordered encoding of its format, with both zeros at 0, and with them every
subnormal of a format that flushes them (R268, R315). -/
def FFmt.ord (f : FFmt) (x : Nat) : Int :=
  let h := 2 ^ (f.eb + f.mb)
  let m := x % h
  if f.flush ∧ m < 2 ^ f.mb then 0 else if x < h then m else -(m : Int)

/-- What a comparison of two elements finds: match, a NaN seen, |x − y| of floating elements, and their ULP distance. A NaN
takes no part in either. -/
structure Cmp1 where
  ok : Bool
  nan : Bool
  abs : FV
  ulp : Nat
deriving DecidableEq, Repr

/-- The ULP distance of two elements (R315): of the integers of an integer format, of the places of floating elements; an MX format
has none. -/
def ulpDist (code x y : Nat) : Nat :=
  if fmtIsInt code then (intOf code x - intOf code y).natAbs
  else if fmtIsFloat code then
    match ffmt code false with
    | some f => (f.ord x - f.ord y).natAbs
    | none => 0
  else 0

/-- Element x against the reference y, as bits with the scale of their blocks (R315): ABS, REL and ULP without rounding; NaN matches
NaN, an infinity the infinity of its sign. MX elements and M61 are compared by their bits; an MX element's value, with its scale,
enters the record (log entry 66). -/
def CmpCfg.one (g : CmpCfg) (x y : Nat × Nat) : Cmp1 :=
  let val := fun (e : Nat × Nat) => if fmtIsMx g.fmt then mxVal g.fmt false e.1 e.2 else elemVal g.fmt false e.1
  let vx := val x
  let vy := val y
  let float := fmtIsFloat g.fmt || fmtIsMx g.fmt
  let nan := float && (vx == .nan || vy == .nan)
  let dist := vx.dist vy
  let ulp := if nan then 0 else ulpDist g.fmt x.1 y.1
  let near : Bool :=
    if g.mode = 1 then dist.le (fmtF32.decode g.atol.toNat)
    else if g.mode = 2 then
      dist.le ((fmtF32.decode g.atol.toNat).add ((fmtF32.decode g.rtol.toNat).mul vy.abs).1).1
    else ulp ≤ g.ulps.toNat
  let ok := if g.mode = 0 then x.1 == y.1
    else if !float then near
    else if vx.isFin && vy.isFin then near
    else vx == vy
  { ok := ok, nan := nan, abs := if float && !nan then dist else .zero, ulp := ulp }

/-- The greater of two magnitudes in F32, the new one rounded up (R316). -/
def maxAbsOf (old : Nat) (v : FV) : Nat :=
  let n := fmtF32.encode (fmtF32.round 2 false v).1
  if old < n then n else old

/-- A comparison entered in a result register (R316): `i` is the element's index, `first` whether this instruction has found
no mismatch yet. -/
def CmpReg.note (r : CmpReg) (i : Nat) (first : Bool) (k : Cmp1) : CmpReg :=
  let sat := fun (n : Nat) => min (n + 1) 0xFFFFFFFF
  let r := { r with
    compared := sat r.compared, flags := if k.nan then setBit r.flags 1 else r.flags
    maxAbs := maxAbsOf r.maxAbs k.abs, maxUlp := max r.maxUlp (min k.ulp 0xFFFFFFFF) }
  if k.ok then r else
  { r with mismatch := sat r.mismatch, flags := setBit r.flags 0
           first := if first && r.first == 0xFFFFFFFF then i else r.first }

/-- Comparisons in order, and whether any failed. -/
def CmpReg.notes (r : CmpReg) (l : List (Nat × Cmp1)) : CmpReg × Bool :=
  l.foldl (fun g k => (g.1.note k.1 (!g.2) k.2, g.2 || !k.2.ok)) (r, false)

/-- The injection of a result register spent on an operand of `n` elements of `w` bits (R318): the first operand as read
inside the engine, and the register with FLAGS bit 2 when it was applied. -/
def CmpReg.inject (r : CmpReg) (w : Nat) (xs : List Nat) : CmpReg × List Nat :=
  match r.inj with
  | none => (r, xs)
  | some (pat, i) =>
    if i < xs.length then ({ r with inj := none, flags := setBit r.flags 2 }, xs.set i ((xs.getD i 0) ^^^ (pat % 2 ^ w)))
    else ({ r with inj := none }, xs)

end Sys2Proof.Machine
end

