-- ==== Sys2Proof/Machine/Crc.lean ====
section
/-! DEFINITION. The cyclic redundancy check of the check-value units (R527), as used by every unit that computes one
(R414, R506, R528, R638). -/
namespace Sys2Proof.Machine

/-- The low `w` bits of a number in reverse order. -/
def reflect (w x : Nat) : Nat :=
  (List.range w).foldl (fun r i => if bit x i then r + 2 ^ (w - 1 - i) else r) 0

/-- Bitwise exclusive or. -/
def nxor (x y : Nat) : Nat := x ^^^ y

/-- One bit fed into a running value of width `w` (R527). -/
def crcBit (w poly v : Nat) (b : Bool) : Nat :=
  let top := xor (bit v (w - 1)) b
  let v := v * 2 % 2 ^ w
  if top then nxor v (poly % 2 ^ w) else v

/-- One byte fed (R527). -/
def crcByte (w poly : Nat) (refin : Bool) (v : Nat) (x : Byte) : Nat :=
  let x := if refin then reflect 8 x.toNat else x.toNat
  [7, 6, 5, 4, 3, 2, 1, 0].foldl (fun v b => crcBit w poly v (bit x b)) v

/-- Bytes fed in stream order (R527). -/
def crcFeed (w poly : Nat) (refin : Bool) (v : Nat) (l : List Byte) : Nat := l.foldl (crcByte w poly refin) v

/-- The result of a running value (R527). -/
def crcOut (w : Nat) (refout : Bool) (xorout v : Nat) : Nat :=
  nxor (if refout then reflect w v else v) (xorout % 2 ^ w)

/-- CRC-32 (R414, R528). -/
def crc32 (l : List Byte) : Nat := crcOut 32 true 0xFFFFFFFF (crcFeed 32 0x04C11DB7 true 0xFFFFFFFF l)

/-- CRC-32C (R528, R638). -/
def crc32c (l : List Byte) : Nat := crcOut 32 true 0xFFFFFFFF (crcFeed 32 0x1EDC6F41 true 0xFFFFFFFF l)

/-- The signature CRC-64 of a tap (R506). -/
def crc64sig (l : List Byte) : Nat := crcOut 64 false 0 (crcFeed 64 0x42F0E1EBA9EA3693 false 0 l)

end Sys2Proof.Machine
end

