-- ==== Sys2Proof/Machine/Cvu.lean ====
section
/-! DEFINITION. The check-value units (R526–R542). -/
namespace Sys2Proof.Machine

/-! ### Configuration -/

/-- W of a unit. -/
def State.cvuW (s : State) (u : Nat) : Nat := s.fld (R.CVU_U_CFG_WIDTH u)

/-- The bytes of a unit's alive counter. -/
def State.cvuAw (s : State) (u : Nat) : Nat := 2 ^ min 2 (s.fld (R.CVU_U_CFG_AW u))

/-- Whether a unit is dedicated (R540); on the CHC-4820 units 5–8 are general (R541). -/
def State.cvuDedicated (s : State) (u : Nat) : Bool := u ≤ 9 && (u < 5 || u == 9 || s.hasDisp)

/-- A 64-bit field of a unit written: only its low W bits are used (R527). -/
def State.setCvuW (s : State) (u : Nat) (f : Fld) (v : Nat) : State := s.setFld f (v % 2 ^ s.cvuW u)

/-- The units 0–4 with the parameters that the table of assignments gives them (R528, R540). -/
def State.dedicateCvus (s : State) : State :=
  s.iter 5 (fun u s =>
    let s := ((s.setFld (R.CVU_U_CFG_WIDTH u) 32).setFld (R.CVU_U_CFG_REFIN u) 1).setFld (R.CVU_U_CFG_REFOUT u) 1
    let s := (s.setFld (R.CVU_U_POLY_V u) (if u = 0 then 0x04C11DB7 else 0x1EDC6F41)).setFld (R.CVU_U_INIT_V u) 0xFFFFFFFF
    let s := s.setFld (R.CVU_U_XOROUT_V u) 0xFFFFFFFF
    if u < 3 then s else
    (((s.setFld (R.CVU_U_CFG_ALIVE u) 2).setFld (R.CVU_U_CFG_AW u) 1).setFld (R.CVU_U_CFG_EXPEN u) 1).setFld
      (R.CVU_U_ALIVE_POS u) 6)

/-! ### Streams (R527, R529) -/

/-- CMD.START (R529). -/
def State.cvuOpen (s : State) (u : Nat) : State :=
  let s := (s.setCvuW u (R.CVU_U_VALUE_V u) (s.fld (R.CVU_U_INIT_V u))).setReg (R.CVU_U_POSN u) 0
  (s.setFld (R.CVU_U_STAT_OPEN u) 1).setFld (R.CVU_U_STAT_DONE u) 0

/-- The counter bytes among bytes that pass from a stream offset on, added to those captured (R538). -/
def captured (pos aw cap : Nat) : Nat → List Byte → Nat
  | _, [] => cap
  | off, b :: t =>
    captured pos aw (if pos ≤ off ∧ off < pos + aw then cap + b.toNat * 256 ^ (off - pos) else cap) (off + 1) t

/-- The running value of a unit after bytes (R527). -/
def State.cvuValue (s : State) (u : Nat) (l : List Byte) : Nat :=
  crcFeed (s.cvuW u) (s.fld (R.CVU_U_POLY_V u)) (s.flag (R.CVU_U_CFG_REFIN u)) (s.fld (R.CVU_U_VALUE_V u)) l

/-- Bytes fed to a unit in stream order; with no stream open they are discarded and counted (R529). -/
def State.cvuFeed (s : State) (u : Nat) (l : List Byte) : State :=
  if !s.flag (R.CVU_U_STAT_OPEN u) then s.satInc (R.CVU_U_STAT_DISCARD u) else
  let fed := s.fld (R.CVU_U_POSN_FED u)
  let cap := if s.fld (R.CVU_U_CFG_ALIVE u) = 2 then
      captured (s.fld (R.CVU_U_ALIVE_POS u)) (s.cvuAw u) (s.fld (R.CVU_U_POSN_CAP u)) fed l
    else s.fld (R.CVU_U_POSN_CAP u)
  ((s.setFld (R.CVU_U_VALUE_V u) (s.cvuValue u l)).setFld (R.CVU_U_POSN_FED u) (fed + l.length)).setFld
    (R.CVU_U_POSN_CAP u) cap

/-- Whether a counter has been accepted by a unit since cold reset or the last write of its COUNT (R538). -/
def State.cvuAccepted (s : State) (u : Nat) : Bool := bit s.cvuSeen u

/-- The alive counter of a unit, marked accepted or not. -/
def State.setCvuCount (s : State) (u v : Nat) (seen : Bool) : State :=
  { s.setFld (R.CVU_U_ALIVE_COUNT u) v with cvuSeen := if seen then setBit s.cvuSeen u else clrBit s.cvuSeen u }

/-- The outcome of an alive check and the counter after it (R538): `short` when too few bytes were fed, `bad` when the CRC
mismatched, `seen` when a counter has been accepted. -/
def aliveOutcome (aw maxStep count rx : Nat) (short bad seen : Bool) : Nat × Nat :=
  let d := (rx + 256 ^ aw - count % 256 ^ aw) % 256 ^ aw
  if short then (5, count) else if bad then (6, count) else if !seen then (2, rx)
  else if d = 0 then (3, count) else if max maxStep 1 < d then (4, rx) else (1, rx)

/-- A mismatch or alive error of a unit shown: its bit of EVENT, and the CVU interrupt to PF0 (R535, R539). -/
def State.cvuEvent (s : State) (u : Nat) : State :=
  let s := s.fldBitSet R.CVU_EVENT_UNIT u
  if s.flag (R.CVU_U_CFG_IRQ u) then s.postEvent 0 4 (s.fld R.CVU_EVENT_UNIT) else s

/-- The comparison with EXPECT at FINISH (R535), and whether it mismatched. -/
def State.cvuCompare (s : State) (u : Nat) : State × Bool :=
  if !s.flag (R.CVU_U_CFG_EXPEN u) then (s, false)
  else if s.fld (R.CVU_U_RESULT_V u) = s.fld (R.CVU_U_EXPECT_V u) % 2 ^ s.cvuW u then
    (s.setFld (R.CVU_U_STAT_MATCH u) 1, false)
  else (((s.setFld (R.CVU_U_STAT_MATCH u) 0).setFld (R.CVU_U_STAT_MISMATCH u) 1).satInc (R.CVU_U_STAT_MISCNT u), true)

/-- CMD.FINISH (R527, R529, R535–R539), with the MAXSTEP that the alive check uses. -/
def State.cvuClose (s : State) (u maxStep : Nat) : State :=
  let mode := s.fld (R.CVU_U_CFG_ALIVE u)
  let aw := s.cvuAw u
  let count := s.fld (R.CVU_U_ALIVE_COUNT u)
  let s := if mode = 1 then
      let fed := s.fld (R.CVU_U_POSN_FED u)
      let s := (s.setFld (R.CVU_U_VALUE_V u) (s.cvuValue u (leBytes aw count))).setFld (R.CVU_U_POSN_FED u) (fed + aw)
      (s.setFld (R.CVU_U_ALIVE_COUNT u) ((count + 1) % 256 ^ aw)).setFld (R.CVU_U_STAT_AOUT u) 1
    else s
  let r := crcOut (s.cvuW u) (s.flag (R.CVU_U_CFG_REFOUT u)) (s.fld (R.CVU_U_XOROUT_V u)) (s.fld (R.CVU_U_VALUE_V u))
  let s := ((s.setFld (R.CVU_U_RESULT_V u) r).setFld (R.CVU_U_STAT_OPEN u) 0).setFld (R.CVU_U_STAT_DONE u) 1
  let c := s.cvuCompare u
  let s := c.1
  if mode = 2 then
    let o := aliveOutcome aw maxStep count (s.fld (R.CVU_U_POSN_CAP u))
      (s.fld (R.CVU_U_POSN_FED u) < s.fld (R.CVU_U_ALIVE_POS u) + aw) c.2 (s.cvuAccepted u)
    let s := (s.setFld (R.CVU_U_STAT_AOUT u) o.1).setCvuCount u o.2 (s.cvuAccepted u || o.1 == 1 || o.1 == 2 || o.1 == 4)
    let s := if o.1 = 1 then s else s.setFld (R.CVU_U_STAT_ALIVE_ERR u) 1
    if o.1 ≠ 1 ∨ c.2 then s.cvuEvent u else s
  else if c.2 then s.cvuEvent u else s

/-- A whole stream run through a unit by the device (R540). -/
def State.cvuRun (s : State) (u : Nat) (l : List Byte) : State :=
  ((s.cvuOpen u).cvuFeed u l).cvuClose u (s.fld (R.CVU_U_CFG_MAXSTEP u))

/-! ### Writes of a unit's registers -/

/-- OWNER written (R534): the unit passes to a context with nothing of the one before. -/
def State.cvuOwner (s : State) (u v : Nat) : State :=
  let s := (s.setFld (R.CVU_U_CFG_OWNER u) v).setCvuW u (R.CVU_U_VALUE_V u) (s.fld (R.CVU_U_INIT_V u))
  let s := ((s.setFld (R.CVU_U_STAT_OPEN u) 0).setReg (R.CVU_U_POSN u) 0).setReg (R.CVU_U_EXPECT u) 0
  s.setCvuCount u 0 false

/-- The 64-bit parameters of a unit cut to the low W bits (R527). -/
def State.cvuCut (s : State) (u : Nat) : State :=
  [R.CVU_U_POLY_V u, R.CVU_U_INIT_V u, R.CVU_U_XOROUT_V u, R.CVU_U_VALUE_V u, R.CVU_U_EXPECT_V u].foldl
    (fun s f => s.setCvuW u f (s.fld f)) s

/-- A write of CFG by its word: a WIDTH outside 8–64 discards it; locked parameters keep their values and OWNER alone is
written (R534, R540). -/
def State.cvuCfg (s : State) (u v : Nat) (locked : Bool) : State :=
  let w := v / 2 ^ 23 % 128
  let s := if locked || w < 8 || 64 < w then s else
    (s.setReg (R.CVU_U_CFG u) (BitVec.ofNat 64 (v / 128 * 128 + s.fld (R.CVU_U_CFG_OWNER u) * 32))).cvuCut u
  if !locked && (w < 8 || 64 < w) then s else s.cvuOwner u (v / 32)

/-- CMD written: START, then FINISH (R532). -/
def State.cvuCmd (s : State) (u v : Nat) : State :=
  let s := if bit v 0 then s.cvuOpen u else s
  if bit v 1 then s.cvuClose u (s.fld (R.CVU_U_CFG_MAXSTEP u)) else s

/-- DATA written: DBYTES + 1 bytes, low byte first (R529). -/
def State.cvuData (s : State) (u v : Nat) : State := s.cvuFeed u (leBytes (s.fld (R.CVU_U_CFG_DBYTES u) + 1) v)

/-- VALUE written: the running value, which also opens the stream (R527). -/
def State.cvuSetValue (s : State) (u v : Nat) : State :=
  (s.setCvuW u (R.CVU_U_VALUE_V u) v).setFld (R.CVU_U_STAT_OPEN u) 1

end Sys2Proof.Machine
end

