-- ==== Sys2Proof/Machine/Nets.lean ====
section
/-! DEFINITION. Time stamps and the sending side of the vehicle networks: composing a paired safety frame and queueing its two
copies (R412, R637–R641, R645). -/
namespace Sys2Proof.Machine

/-! ### Time bases -/

/-- A time base in nanoseconds (R614); TB3 is not held here. -/
def State.tbNs (s : State) (n : Nat) : Nat := SMap.get (fun _ => 0) s.sun.tb n

/-- Whether TB0 has had its first lock since it was cleared (R626). -/
def State.tb0Locked (s : State) : Bool := s.flag (R.SUNDIAL_TB_STATUS_LOCKED 0)

/-- The base that records and frames use: TB0 once it has first locked, TB2 before (R412, R639). -/
def State.stampBase (s : State) : Nat := if s.tb0Locked then 0 else 2

/-- A 64-bit stamp: [63:32] seconds, low 32 bits; [31:0] nanoseconds (R411, R615). -/
def stamp64 (ns : Nat) : Nat := ns / 1000000000 % 2 ^ 32 * 2 ^ 32 + ns % 1000000000

/-- The stamp of the present moment in the base in use. -/
def State.stampNow (s : State) : Nat := stamp64 (s.tbNs s.stampBase)

/-! ### Networks -/

/-- The two networks of a NETPAIR (R401): 0–1 ETH0–ETH1, 2–5 CAN0–CAN3. -/
def pairNets (p : Nat) : Nat × Nat :=
  match p with
  | 0 => (0, 1)
  | 1 => (2, 3)
  | 2 => (4, 5)
  | _ => (2, 4)

/-- Whether a network is enabled (R792). -/
def State.netEnabled (s : State) (n : Nat) : Bool :=
  if n < 2 then s.flag (R.ETH_M_CFG_EN n) else s.flag (R.CAN_C_CFG_EN (n - 2))

/-- Whether a network is lost (R645). -/
def State.netLost (s : State) (n : Nat) : Bool :=
  if n < 2 then s.flag (R.ETH_M_STATUS_NET_LOST n) else s.flag (R.CAN_C_STATUS_NET_LOST (n - 2))

/-- Whether a network can carry a frame: enabled, and for Ethernet with its link up (R113, R637). -/
def State.netUp (s : State) (n : Nat) : Bool := s.netEnabled n && (2 ≤ n || s.flag (R.ETH_M_STATUS_LINK n))

/-- The egress queue of a network. -/
def State.egress (s : State) (n : Nat) : List NetFrame := SMap.get (fun _ => []) s.net.egress n

/-- The state with the egress queue of a network replaced. -/
def State.setEgress (s : State) (n : Nat) (q : List NetFrame) : State :=
  { s with net := { s.net with egress := SMap.set (fun _ => []) s.net.egress n q } }

/-- A frame queued on a network: a CAN controller holds one unsent frame per stream, so an older one is replaced and counted
(R637). -/
def State.queueFrame (s : State) (n : Nat) (f : NetFrame) : State :=
  if !s.netUp n then s else
  let q := s.egress n
  if 2 ≤ n ∧ q.any (·.stream == f.stream) then
    (s.setEgress n (q.filter (·.stream ≠ f.stream) ++ [f])).satInc (R.CAN_C_EVENTS_REPLACED (n - 2))
  else s.setEgress n (q ++ [f])

/-- Loss of a MAC's link: every queued frame is discarded and counted (R637), and the moment is kept (R645). -/
def State.macLinkDown (s : State) (m : Nat) : State :=
  if !s.flag (R.ETH_M_STATUS_LINK m) then s else
  let s := (s.satAdd (R.ETH_M_TXDROP_COUNT m) (s.egress m).length).setEgress m []
  let s := (s.setFld (R.ETH_M_STATUS_LINK m) 0).setFld (R.ETH_M_STATUS_SPEED m) 0
  { s with net := { s.net with downAt := SMap.set (fun _ => 0) s.net.downAt m s.tb2 } }

/-- Kinds of envelope (R638). -/
def nkVERDICT : Nat := 1
def nkNOTICE : Nat := 2
def nkCHIME : Nat := 3

/-- The sending device number (R638): the ring-system number once the settings give one, the crier's SRCDEV (R646) before. -/
def State.srcDev (s : State) : Nat :=
  if s.dev.setOk && s.hasNim && s.flag R.NIM_CFG_EN then s.fld R.NIM_CFG_SELF
  else (s.param.set.getD 0xD0 0).toNat % 16

/-- An envelope (R638). -/
def State.envelope (s : State) (kind stream alive : Nat) (payload : List Byte) : List Byte :=
  let b := s.stampBase
  let tf := b + (if s.flag (R.SUNDIAL_TB_STATUS_HOLDOVER b) then 4 else 0) +
    (if s.flag (R.SUNDIAL_TB_STATUS_OFFSET_LARGE b) then 8 else 0)
  let e := leBytes 1 1 ++ leBytes 1 kind ++ leBytes 2 stream ++ leBytes 1 s.srcDev ++ leBytes 1 tf ++ leBytes 2 alive ++
    leBytes 8 s.stampNow ++ leBytes 2 payload.length ++ leBytes 2 0 ++ payload
  e ++ leBytes 4 (crc32c e)

/-- The bit-identical copies of a paired safety frame queued on chosen networks, with ALIVE counted once (R639); check-value
units 1 and 2 run over the copies for the first and the second network (R540). -/
def State.sendOn (s : State) (nets : List Nat) (kind stream : Nat) (payload : List Byte) : State :=
  let a := SMap.get (fun _ => 0) s.net.alive stream
  let f : NetFrame := ⟨stream, s.envelope kind stream a payload, s.tb2⟩
  let s := { s with net := { s.net with alive := SMap.set (fun _ => 0) s.net.alive stream ((a + 1) % 2 ^ 16) } }
  nets.zipIdx.foldl (fun s n => (s.cvuRun (1 + n.2 % 2) (f.bytes.take (f.bytes.length - 4))).queueFrame n.1 f) s

/-- A paired safety frame sent on the networks of a NETPAIR (R639). -/
def State.sendPaired (s : State) (pair kind stream : Nat) (payload : List Byte) : State :=
  s.sendOn [(pairNets pair).1, (pairNets pair).2] kind stream payload

end Sys2Proof.Machine
end

