-- ==== Sys2Proof/Machine/Jobs.lean ====
section
/-! DEFINITION. Routes, programs and watch jobs as the settings declare them, the layer table and the coverage account
(R326–R328, R339–R343, R358–R361, R400–R403, R424). -/
namespace Sys2Proof.Machine

/-! ### Settings in force -/

/-- The content of a setting in force (R750). -/
def State.setting (s : State) (id : Nat) : Option (List Byte) := (s.jobs.settings.find? (·.1 == id)).map (·.2)

/-- `n` little-endian bytes at an offset of a list. -/
def leAt (l : List Byte) (off n : Nat) : Nat := leNat ((l.drop off).take n)

/-- What a setting without a given layout declares: nothing when it is absent or holds no bytes (R750, R792; log entry 22). -/
def declared {α : Type} (parse : List Byte → List α) : List Byte → List α
  | [] => []
  | b :: l => parse (b :: l)

/-- What a bank's settings declare: at most eight Hearth networks (R424), the programs, the pairs and the bundles (R363, R750). -/
def declaredBy (l : List (Nat × List Byte)) : Declared :=
  let st := fun (id : Nat) => ((l.find? (·.1 == id)).map (·.2)).getD []
  ⟨(declared Config.parseHearth (st 0x11)).take 8, declared Config.parseProgs (st 0x02), declared Config.parsePaired (st 0x19),
    declared Config.parseBundles (st 0x04)⟩

/-- A route as the ROUTES setting declares it (R401). -/
structure RouteCfg where
  cls : Nat
  prov : Bool
  display : Bool
  singleOk : Bool
  source : Nat
  hearth : Nat
  outs : Nat
  netpair : Nat
  client : Nat
  resultLen : Nat
  deadline : Nat
  slack : Nat
  minLin : Nat
  minSpot : Nat
  maxAge : Nat
  inboxKib : Nat
  prog : Nat
deriving DecidableEq, Repr

/-- A 32-byte route entry (R401). -/
def routeOf (e : List Byte) : RouteCfg :=
  let c := leAt e 0 1
  { cls := c % 4, prov := bit c 2, display := bit c 3, singleOk := bit c 4, source := leAt e 1 1, hearth := leAt e 2 1
    outs := leAt e 3 1, netpair := leAt e 4 1, client := leAt e 5 1, resultLen := leAt e 6 2, deadline := leAt e 8 4
    slack := leAt e 0xC 4, minLin := leAt e 0x10 2, minSpot := leAt e 0x12 2, maxAge := leAt e 0x14 2
    inboxKib := leAt e 0x16 2, prog := leAt e 0x18 1 }

/-- The routes a ROUTES setting declares, at most 64 (R400). -/
def routesOf (l : List Byte) : List RouteCfg :=
  (List.range (min 64 (l.length / 32))).map (fun r => routeOf ((l.drop (32 * r)).take 32))

/-- Route `r` as declared (R400). -/
def State.route (s : State) (r : Nat) : Option RouteCfg := (routesOf ((s.setting 0x10).getD []))[r]?

/-- The Hearth networks declared (R424). -/
def State.hearthCfg (s : State) : List (Nat × List Nat) := s.jobs.decl.hearth

/-- The program table: digest, class, counter (R750). -/
def State.progTable (s : State) : List (List Byte × Nat × Nat) := s.jobs.decl.progs

/-- A loaded program. -/
def State.prog (s : State) (i : Nat) : Option Prog := s.jobs.progs.find? (·.idx == i)

/-- Whether a program is paired: a Hearth network, or marked PAIRED (R363). -/
def State.paired (s : State) (p : Prog) : Bool :=
  bit p.flags 3 || (p.cls != 2 && s.jobs.decl.paired.contains p.idx)

/-- The Hearth stages as (network, stage, program). -/
def State.stages (s : State) : List (Nat × Nat × Nat) :=
  (s.hearthCfg.zipIdx.map (fun h => h.1.2.zipIdx.map (fun p => (h.2, p.2, p.1)))).flatten

/-! ### Routes and jobs at run time -/

/-- What route `r` keeps. -/
def State.routeSt (s : State) (r : Nat) : RouteSt := SMap.get (fun _ => RouteSt.empty) s.jobs.routes r

/-- The state with what route `r` keeps replaced. -/
def State.setRouteSt (s : State) (r : Nat) (k : RouteSt) : State :=
  { s with jobs := { s.jobs with routes := SMap.set (fun _ => RouteSt.empty) s.jobs.routes r k } }

/-- The accepted job of a route and frame. -/
def State.job (s : State) (r f : Nat) : Option Job := s.jobs.jobs.find? (fun j => j.route == r && j.frame == f)

/-- The accepted job of a route and frame changed by a function. -/
def State.modJob (s : State) (r f : Nat) (g : Job → Job) : State :=
  { s with jobs := { s.jobs with jobs := s.jobs.jobs.map (fun j => if j.route = r ∧ j.frame = f then g j else j) } }

/-- An open frame of a route. -/
def State.openFrame (s : State) (r f : Nat) : Option OpenFrame := (s.routeSt r).frames.find? (·.frame == f)

/-- What tap `k` keeps. -/
def State.tap (s : State) (k : Nat) : TapSt := SMap.get (fun _ => TapSt.idle) s.taps k

/-- The state with what tap `k` keeps replaced. -/
def State.setTap (s : State) (k : Nat) (t : TapSt) : State :=
  { s with taps := SMap.set (fun _ => TapSt.idle) s.taps k t }

/-- A tap enters IDLE: its history is discarded, P is NOMPERIOD again and no boundary follows (R494, R495, log entry 179). -/
def State.idleTap (s : State) (k : Nat) : State :=
  if s.fld (R.TAP_T_STAT_TSTATE k) = 0 then s else
  let t := s.tap k
  ((s.setTap k { TapSt.idle with outcomes := t.outcomes, bufs := t.bufs }).setFld (R.TAP_T_STAT_TSTATE k) 0).setFld
    (R.TAP_T_MEASPER_P k) 0

/-- The Blink outcome of a frame of a tap, once known (R508, R510). -/
def State.outcome (s : State) (k f : Nat) : Option Nat := ((s.tap k).outcomes.find? (·.1 == f)).map (·.2)

/-- DISTINCT, the one outcome that makes a frame valid (R508). -/
def obDISTINCT : Nat := 2

/-! ### Where inputs lie -/

/-- Whether inputs of a job lie in a channel outside the mirrored regions (R180, R409); the runtime's place of a job's inputs is
open (log entry 162). -/
def State.inputsIn (s : State) (j : Job) (c : Nat) : Bool :=
  let a := Config.inputPlace j.cls j.route j.frame
  let n := (j.tensors.map (·.bytes)).sum
  (List.range (min 5 (n / 0x1000 + 2))).any (fun i =>
    let g := if i = 0 then a else (a / 0x1000 + i) * 0x1000
    g < a + n && isDram g && dramCh g == c && !s.mirrored g)

/-! ### The random source -/

/-- A request to the random source: served, or answered NOT_READY and counted (R708, R709). -/
def State.rngRequest (s : State) : State × Bool :=
  if s.keep.rng then ({ s with keep := { s.keep with reqs := s.keep.reqs + 1 } }, true)
  else (s.satInc R.KEEP_RNGSTAT_NOTREADY, false)

/-! ### The layer table -/

/-- An entry of a layer table (R327). -/
structure Layer where
  index : Nat
  kind : Nat
  mode : Nat
  flags : Nat
  cmode : Nat
  spotq : Nat
  m : Nat
  n : Nat
  k : Nat
  uacc : Nat
  epsout : Nat
  etaout : Nat
  etaacc : Nat
  atol : Nat
  rtol : Nat
  ulps : Nat
  zpa : Nat
  zpb : Nat
  afmt : Nat
  bfmt : Nat
  cfmt : Nat
  producer : Nat
  zeros : Bool
deriving DecidableEq, Repr

/-- A 64-byte layer entry (R327). -/
def layerOf (e : List Byte) : Layer :=
  { index := leAt e 0 2, kind := leAt e 2 1, mode := leAt e 3 1, flags := leAt e 4 1, cmode := leAt e 5 1
    spotq := leAt e 6 2, m := leAt e 8 4, n := leAt e 0xC 4, k := leAt e 0x10 4, uacc := leAt e 0x14 4
    epsout := leAt e 0x18 4, etaout := leAt e 0x1C 4, etaacc := leAt e 0x20 4, atol := leAt e 0x24 4, rtol := leAt e 0x28 4
    ulps := leAt e 0x2C 4, zpa := leAt e 0x34 2, zpb := leAt e 0x36 2, afmt := leAt e 0x30 1
    bfmt := leAt e 0x31 1, cfmt := leAt e 0x32 1, producer := leAt e 0x38 2
    zeros := leAt e 0x33 1 == 0 && leAt e 0x3A 6 == 0 && !bit (leAt e 4 1) 7 }

/-- A layer table (R326). -/
structure LayerTable where
  magic : Nat
  count : Nat
  epochLen : Nat
  vecs : Nat
  maxN : Nat
  zeros : Bool
  layers : List Layer
deriving DecidableEq, Repr

/-- The layer table at byte 0 of a program's data (R326). -/
def State.layerTable (s : State) (p : Prog) : LayerTable :=
  let h := s.bytes p.data 16
  let n := leAt h 4 2
  { magic := leAt h 0 4, count := n, epochLen := leAt h 6 2, vecs := leAt h 8 1, maxN := leAt h 0xA 2
    zeros := leAt h 9 1 == 0 && leAt h 0xC 4 == 0
    layers := (List.range (min n 256)).map (fun i => layerOf (s.bytes (p.data + 16 + 64 * i) 64)) }

/-- Whether an F32 bit pattern is negative or a NaN (R328). −0 is not negative. -/
def f32Bad (x : Nat) : Bool :=
  (0x7F800000 < x % 2 ^ 31) || (2 ^ 31 < x)

/-- K′ of a bounded layer (R344). -/
def Layer.kPrime (l : Layer) : Nat := if bit l.flags 1 then l.k + 1 else l.k

/-- Whether K′ × UACC is at most 0.5, exactly, for a UACC that is neither negative nor NaN (R328). -/
def boundOk (k u : Nat) : Bool :=
  let e := u / 2 ^ 23 % 256
  if e = 255 then k == 0
  else if e = 0 then k * (u % 2 ^ 23) * 2 ≤ 2 ^ 149
  else
    let m := 2 ^ 23 + u % 2 ^ 23
    if e ≤ 150 then k * m * 2 ≤ 2 ^ (150 - e) else k == 0

/-- Whether an entry breaks no rule of R328; a field of an entry outside the values of R327 is counted with them (log entry 176). -/
def Layer.ok (l : Layer) (i maxN : Nat) : Bool :=
  let intIn := fun f => f == 0 || f == 1 || f == 4 || f == 2
  l.index == i && l.kind ≤ 1 && l.mode ≤ 3 && l.zeros && l.afmt < 15 && l.bfmt < 15 && l.cfmt < 15 &&
  (l.kind != 1 || (l.n == 1 && l.k == 0)) &&
  (l.mode != 0 || (l.kind == 0 && intIn l.afmt && intIn l.bfmt && l.cfmt == 3 && l.k ≤ 16777215)) &&
  (l.mode != 1 || (l.kind == 0 && !f32Bad l.uacc && !f32Bad l.epsout && !f32Bad l.etaout && !f32Bad l.etaacc &&
    boundOk l.kPrime l.uacc)) &&
  (2 ≤ l.mode || l.n ≤ maxN) &&
  (l.mode != 2 || (1 ≤ l.spotq && l.spotq ≤ 1024 && l.cmode ≤ 3)) &&
  (!bit l.flags 4 || l.producer < l.index)

/-- Whether a layer table is valid (R326, R328). -/
def LayerTable.ok (t : LayerTable) : Bool :=
  t.magic == 0x4C595254 && 1 ≤ t.count && t.count ≤ 256 && 1 ≤ t.epochLen && t.epochLen ≤ 4096 &&
  (t.vecs == 1 || t.vecs == 2) && 1 ≤ t.maxN && t.zeros && t.layers.zipIdx.all (fun l => l.1.ok l.2 t.maxN)

/-- Whether the vectors of a frame of a given epoch age are current (R339). -/
def LayerTable.current (t : LayerTable) (age : Nat) : Bool := age < t.epochLen

/-- Whether the layer table of a route was found invalid, from a frame onward that is not later than this one (R328). -/
def RouteSt.badTable (k : RouteSt) (f : Nat) : Bool :=
  match k.tableBad with
  | some b => (f + 2 ^ 32 - b) % 2 ^ 32 < 2 ^ 31
  | none => false

/-! ### The coverage account -/

/-- The account of R361 before it is laid out. -/
structure Coverage where
  exact : Nat
  bounded : Nat
  spot : Nat
  age : Nat
  tauRel : Nat
  vecs : Nat
  flags : Nat
  spotq : Nat
deriving DecidableEq, Repr

/-- An account without credit. -/
def Coverage.none (age : Nat) : Coverage := ⟨0, 0, 0, min age 0xFFFF, 0, 0, 0, 0⟩

/-- A credited share in units of 1/65,535, rounded down; 0 of nothing (R361). -/
def share (x whole : Nat) : Nat := if whole = 0 then 0 else x * 65535 / whole

/-- The account of a frame (R356, R360, R361). -/
def coverage (t : LayerTable) (cr : List LayerCredit) (age tau : Nat) : Coverage :=
  let of := fun (c : LayerCredit) => t.layers[c.idx]?
  let sum := fun (g : Layer → LayerCredit → Nat) => (cr.map (fun c => match of c with
    | some l => g l c
    | none => 0)).sum
  let linear := (t.layers.map (fun l => if l.kind = 0 then l.m * l.n * l.k else 0)).sum
  let elem := (t.layers.map (fun l => if l.kind = 1 then l.m else 0)).sum
  let has := fun (g : Layer → LayerCredit → Bool) => cr.any (fun c => match of c with
    | some l => g l c
    | none => false)
  let vec := cr.filterMap (fun c => match of c with
    | some l => if l.mode ≤ 1 then some c.vecs else none
    | none => none)
  { exact := share (sum (fun l _ => if l.mode = 0 then l.m * l.n * l.k else 0)) linear
    bounded := share (sum (fun l c => if l.mode = 1 then (l.m - c.excluded) * l.n * l.k else 0)) linear
    spot := share (sum (fun l c => if l.mode = 2 then c.compared else 0)) elem
    age := min age 0xFFFF
    tauRel := if has (fun l _ => l.mode == 1) then tau else 0
    vecs := vec.foldl (fun a v => if a = 0 then v else min a v) 0
    flags := (if has (fun l _ => !bit l.flags 4 && !bit l.flags 3) then 1 else 0) +
      (if t.current age then 0 else 2) + (if has (fun _ c => c.excluded != 0) then 4 else 0)
    spotq := (cr.map (fun c => match of c with
      | some l => if l.mode = 2 then l.spotq else 0
      | none => 0)).foldl max 0 }

/-- The 16 bytes of an account (R361). -/
def Coverage.bytes (c : Coverage) : List Byte :=
  leBytes 2 c.exact ++ leBytes 2 c.bounded ++ leBytes 2 c.spot ++ leBytes 2 c.age ++ leBytes 4 c.tauRel ++
  leBytes 1 c.vecs ++ leBytes 1 c.flags ++ leBytes 2 c.spotq

/-- The account of a frame of a route, with what its job has been credited; nothing under an invalid layer table (R328). -/
def State.coverageOf (s : State) (rc : RouteCfg) (r : Nat) (fr : OpenFrame) (j : Option Job) : Coverage :=
  match s.prog rc.prog with
  | none => Coverage.none fr.age
  | some p => coverage (s.layerTable p) (if (s.routeSt r).badTable fr.frame then [] else (j.map (·.credits)).getD []) fr.age
      (Config.tauRel r fr.frame)

end Sys2Proof.Machine
end

