-- ==== Sys2Proof/Machine/Bell.lean ====
section
/-! DEFINITION. The Bellhouse: translation of identifiers, updates of sync objects and their limits, watches, errors, the
context clear and mailbox delivery (R449–R476). -/
namespace Sys2Proof.Machine

/-- The statuses of R467. -/
def bsEPOCH : Nat := 0x04
def bsUNMAPPED : Nat := 0x30
def bsUNDERFLOW : Nat := 0x31
def bsOVERFLOW : Nat := 0x32
def bsCROSS : Nat := 0x33
def bsNO_WATCH : Nat := 0x34
def bsCLASS : Nat := 0x35
def bsBAD_BARRIER : Nat := 0x36
def bsTWICE : Nat := 0x37
def bsFULL : Nat := 0x38
def bsBAD_MAILBOX : Nat := 0x39

/-- An error recorded in CORE n.BELLERR: the first since VALID was cleared, and a count (R461, R464, R476). -/
def State.bellErr (s : State) (n status source ctx obj vid : Nat) (remote : Bool := false) : State :=
  if s.flag (R.CORE_BELLERR_VALID n) then s.satInc (R.CORE_BELLERR_COUNT n)
  else
    let s := ((s.setFld (R.CORE_BELLERR_VALID n) 1).setFld (R.CORE_BELLERR_REMOTE n) (if remote then 1 else 0)).setFld
      (R.CORE_BELLERR_STATUS n) status
    let s := ((s.setFld (R.CORE_BELLERR_SOURCE n) source).setFld (R.CORE_BELLERR_CTX n) ctx).setFld
      (R.CORE_BELLERR_OBJ n) obj
    (s.setFld (R.CORE_BELLERR_COUNT n) 1).setFld (R.CORE_BELLERR_VID n) vid

/-- A blocked access recorded in BELL.XLOG: the first since VALID was cleared, and a count (R456). -/
def State.xlog (s : State) (tenant : Bool) (dev core ctx dcore dctx kind target : Nat) : State :=
  if s.flag R.BELL_XLOG_VALID then s.satInc R.BELL_XLOG_COUNT
  else
    let s := ((s.setFld R.BELL_XLOG_VALID 1).setFld R.BELL_XLOG_TENANT (if tenant then 1 else 0)).setFld R.BELL_XLOG_COUNT 1
    let s := ((s.setFld R.BELL_XLOG_SRCDEV dev).setFld R.BELL_XLOG_SRCCORE core).setFld R.BELL_XLOG_SRCCTX ctx
    let s := ((s.setFld R.BELL_XLOG_DSTCORE dcore).setFld R.BELL_XLOG_DSTCTX dctx).setFld R.BELL_XLOG_KIND kind
    s.setFld R.BELL_XLOG_TARGET target

/-- The physical object an identifier names in a context, or the status that refuses it (R453, R455). `cls` is the class of
the slot the operation is issued in, `none` outside a slot. -/
def State.translate (s : State) (n ctx vid : Nat) (cls : Option Nat) : Except Nat Nat :=
  let k := s.fld (R.CORE_VMAP_PHYS n ctx vid)
  if !s.flag (R.CORE_VMAP_VALID n ctx vid) || s.fld (R.CORE_SOBJCFG_OWNER n k) != ctx then .error bsUNMAPPED
  else
    match cls with
    | none => .ok k
    | some q => if (q == 0) == s.flag (R.CORE_SOBJCFG_PRIV n k) then .ok k else .error bsCLASS

/-- The watches on an object whose condition holds fire, and the lowest becomes pending when none is (R472). -/
def State.fireWatches (s : State) (n obj : Nat) : State :=
  let v := s.fld (R.CORE_SOBJ_VALUE n obj)
  s.modCore n (fun k => ({ k with
    watches := k.watches.map (fun w => if w.obj = obj ∧ objCond w.cond v w.thr then { w with fired := true } else w) } : Core).promote)

/-- An update of a sync object by a signed delta (R451, R463, R464, R466): applied, or refused and logged, or, on a
privileged object, a checker fault of the core. Answers the status of a refusal. `src` is BELLERR.SOURCE. -/
def State.updateObj (s : State) (n obj : Nat) (delta : Int) (src ctx vid : Nat) : State × Option Nat :=
  let v : Int := (s.fld (R.CORE_SOBJ_VALUE n obj) : Int) + delta
  let err := if v < 0 then some bsUNDERFLOW
    else if (s.fld (R.CORE_SOBJCFG_LIMIT n obj) : Int) < v then some bsOVERFLOW else none
  match err with
  | some e =>
    if s.flag (R.CORE_SOBJCFG_PRIV n obj) then (s.coreFault n 0x31, some e)
    else (s.bellErr n e src ctx obj vid, some e)
  | none => ((s.setFld (R.CORE_SOBJ_VALUE n obj) v.toNat).fireWatches n obj, none)

/-- A signal as it reaches its object: dropped and counted when its context generation is older (R458), else applied. -/
def State.deliver (s : State) (n obj : Nat) (delta : Int) (gen src ctx vid : Nat) : State × Option Nat :=
  if gen ≠ s.fld (R.CORE_BELLGEN_CTXGEN n) then (s.satInc (R.CORE_BELLSTAT_STALE_DROP n), none)
  else s.updateObj n obj delta src ctx vid

/-- A device signaller adds 1 to every object of core `n` with EXT = 1 and its SRC code (R452). -/
def State.devSignal (s : State) (n src : Nat) : State :=
  (s.listed (R.CORE_SOBJCFG n 0) 0x800).foldl (fun t q =>
    let k := (q.1 - R.CORE_SOBJCFG n 0) / 8
    if s.flag (R.CORE_SOBJCFG_EXT n k) && s.fld (R.CORE_SOBJCFG_SRC n k) == src then
      (t.updateObj n k 1 7 (s.fld (R.CORE_SOBJCFG_OWNER n k)) 0).1 else t) s

/-- A device signaller that every core may listen to (camera and display taps, R452). -/
def State.devSignalAll (s : State) (src : Nat) : State :=
  s.iter 16 (fun n s => if s.hasCore n then s.devSignal n src else s)

/-- The preserve depth in force (R460). -/
def State.depth (s : State) (n : Nat) : Nat := s.fld (R.CORE_BELLSTAT_PDEPTH n)

/-- A signal's delta added to the preserve delta of the depth in force (R460). -/
def State.countDelta (s : State) (n obj : Nat) (delta : Word) : State :=
  let k := s.depth n
  if k = 0 then s else
  s.modCore n (fun c =>
    let i := 256 * k + obj
    { c with pdelta := SMap.set (fun _ => 0) c.pdelta i (SMap.get (fun _ => 0) c.pdelta i + delta.setWidth 32) })

/-- The class that R455 checks: that of the slot in progress, none outside a slot. -/
def Core.slotCls (k : Core) : Option Nat := k.slot.map (·.cls)

/-- The class in which a core issues: its slot's, C0 outside any slot (R438). -/
def Core.cls (k : Core) : Nat := (k.slotCls).getD 0

/-- A mailbox's entries: 2^DEPTHLOG, with values outside 3–10 taken as 3 (CORE n.MBOXk). -/
def State.mboxSize (s : State) (n m : Nat) : Nat :=
  let d := s.fld (R.CORE_MBOX_DEPTHLOG n m)
  if 3 ≤ d ∧ d ≤ 10 then 2 ^ d else 8

/-- A message reaches a mailbox (R474–R476): written, counted and signalled, or refused with a status. -/
def State.mboxDeliver (s : State) (n m : Nat) (value : BitVec 64) (dev core ctx : Nat) (local_ tenant : Bool) :
    State × Option Nat :=
  let obj := s.fld (R.CORE_MBOX_OBJ n m)
  let own := s.fld (R.CORE_MBOX_OWNER n m)
  if !tenant then (s.xlog true dev core ctx n own 2 m, some bsCROSS)
  else if !s.flag (R.CORE_MBOX_VALID n m) then (s, some bsBAD_MAILBOX)
  else if !local_ && !s.flag (R.CORE_MBOX_RXREMOTE n m) then (s, some bsBAD_MAILBOX)
  else if own ≠ ctx then (s.xlog false dev core ctx n own 2 m, some bsCROSS)
  else if s.mboxSize n m < s.fld (R.CORE_SOBJ_VALUE n obj) + 1 then (s, some bsFULL)
  else
    let w := s.fld (R.CORE_MBOX_WIDX n m)
    let seq := SMap.get (fun _ => 0) (s.core n).mboxSeq m
    let a := 0x1000000000 + n * 0x200000 + (s.fld (R.CORE_MBOX_BASE n m) + w % s.mboxSize n m * 16) % 0x200000
    let data := leBytes 8 value.toNat ++ leBytes 2 (core + 16 * dev + 256 * ctx) ++ leBytes 2 0 ++ leBytes 4 seq
    let s := (s.setBytes a data).setFld (R.CORE_MBOX_WIDX n m) (w + 1)
    let s := s.modCore n (fun k => { k with mboxSeq := SMap.set (fun _ => 0) k.mboxSeq m ((seq + 1) % 2 ^ 32) })
    if s.flag (R.CORE_SOBJCFG_EXT n obj) && s.fld (R.CORE_SOBJCFG_SRC n obj) == 0x13 then
      ((s.updateObj n obj 1 6 own 0).1, none)
    else (s, none)

/-- The entries of an engine that a context switch and EFLUSH discard: all of its queue (R457). -/
def State.flushEngine (s : State) (n e : Nat) : State :=
  s.modCore n (fun k => (k.setQueue e []).wrCsr (0x38 + e) 0)

/-- Whether an engine is halted (EERRe.HALTED, R254). -/
def Core.halted (k : Core) (e : Nat) : Bool := (k.rdCsr (0x38 + e)).getLsbD 0

/-- The part of a queue a context switch lets finish: the instruction an engine is running (R457 step 1). -/
def Core.running (k : Core) (e : Nat) : List Entry :=
  match k.queue e with
  | x@(.op ..) :: _ => if k.halted e then [] else [x]
  | _ => []

/-- Steps 2–5 of R457 on core `n`, with the configuration and registers of R325 cleared. -/
def State.clearContext (s : State) (n : Nat) : State :=
  let ctx := (s.core n).ctx
  let s := s.wrapInc (R.CORE_BELLGEN_CTXGEN n)
  let s := s.objsToBase n (fun s k => s.fld (R.CORE_SOBJCFG_OWNER n k) == ctx)
  let s := s.iter 8 (fun m s => if s.fld (R.CORE_MBOX_OWNER n m) = ctx then s.setFld (R.CORE_MBOX_WIDX n m) 0 else s)
  let s := s.modCore n (fun k => { k with
    watches := k.watches.filter (fun w => w.ctx ≠ ctx)
    pend := { k.pend with watch := k.pend.watch.filter (fun w => w.ctx ≠ ctx) }
    t := [], v := [], m := [], vcfg := Core.reset.vcfg, ccfg := Core.reset.ccfg, cres := [] })
  let s := s.setReg (R.CORE_ENGFLAG n) 0
  (s.barriersOf n).foldl (fun s b =>
    if s.fld (R.BELL_BAR_OWNER b) = ctx ∧ SMap.get (fun _ => 0) (s.core n).arrived b = 1 ∧
        !s.fab.completions.any (fun p => p.1 == b && p.2.1 == n) then
      (s.breakBarrier b n).modCore n (fun k => { k with arrived := SMap.set (fun _ => 0) k.arrived b 0 })
    else s) s

/-- Whether another device of the ring system is departed: absent from the committed map, or tripped (R673). -/
def State.departed (s : State) (d : Nat) : Bool :=
  d != s.fld R.NIM_CFG_SELF && (!s.flag (R.NIM_MEMBER_STATE_PRESENT d) || s.flag (R.NIM_MEMBER_STATE_TRIPPED d))

end Sys2Proof.Machine
end

