-- ==== Sys2Proof/Machine/System.lean ====
section
/-! DEFINITION. Class 4 of the Steward: control and status registers, exceptions and their return, waiting, context switch,
preserve mode (R221, R222, R233–R236, R460, R461), and the commands at an instruction boundary. -/
namespace Sys2Proof.Machine

/-! ### Control and status registers -/

/-- The lowest levels that may read and write a register, or none when R221 lists no such number; a register without
writes has none. -/
def csrLevels (n : Nat) : Option (Priv × Option Priv) :=
  if n ≤ 0x02 then some (.u, none)
  else if 0x08 ≤ n ∧ n ≤ 0x0C then some (.s, some .s)
  else if 0x10 ≤ n ∧ n ≤ 0x14 then some (.m, some .m)
  else if n = 0x18 then some (.s, some .s)
  else if n = 0x19 ∨ n = 0x20 ∨ n = 0x21 then some (.s, none)
  else if n = 0x22 then some (.u, none)
  else if n = 0x23 then some (.s, none)
  else if n = 0x24 then some (.s, some .s)
  else if 0x28 ≤ n ∧ n ≤ 0x30 then some (.s, some .s)
  else if 0x38 ≤ n ∧ n ≤ 0x3C then some (.s, none)
  else none

/-- What a control and status register reads as (R221). -/
def State.csrVal (s : State) (c n : Nat) : Word :=
  let k := s.core c
  match n with
  | 0x00 => w64 (c + 16 * (c / 4) + 256 * s.fld R.NIM_CFG_SELF)
  | 0x01 => w64 k.priv.code
  | 0x02 => w64 k.ctx
  | 0x19 => w64 (s.ipend c)
  | 0x22 => w64 (s.refFrame * 2 ^ 32 + s.line * 2 ^ 16)
  | 0x23 => w64 s.tb2
  | n => k.rdCsr n

/-- The writable bits of a register (R221). -/
def csrMask (n : Nat) : Word :=
  match n with
  | 0x08 => 0x37
  | 0x10 => 0x37
  | 0x09 => 0x80FFFFFF
  | 0x11 => 0x80FFFFFF
  | 0x0C => ~~~3
  | 0x14 => ~~~3
  | 0x18 => 3
  | 0x28 => 0xFFFFFFF007
  | 0x2A => 0xFFFFFFF007
  | 0x2C => 0xFFFFFFF007
  | 0x2E => 0xFFFFFFF007
  | 0x29 => 0xFFFFFFF001
  | 0x2B => 0xFFFFFFF001
  | 0x2D => 0xFFFFFFF001
  | 0x2F => 0xFFFFFFF001
  | _ => ~~~0

/-- Whether a write would set X and W together in one U window (R222); CSRS and CSRC are held to what R222 says of CSRW (log entry
172). -/
def csrWx (n : Nat) (v : Word) : Bool :=
  (n == 0x28 || n == 0x2A || n == 0x2C || n == 0x2E) && v.getLsbD 1 && v.getLsbD 2

/-- A CSR instruction (R221, R233): its level checks, the write where there is one, the read into d where there is one.
A write to a read-only register is discarded. -/
def execCsr (rd : Bool) (wr : Option (Word → Word → Word)) (legal : IFields → Bool) (ser : Bool)
    (c : CoreId) (f : IFields) (s : State) : Step :=
  let n := f.imm8
  .next (s.runInstr c f .u ser (!f.hasExt && (csrLevels n).isSome && legal f) (fun s =>
    let k := s.core c
    let v := s.csrVal c n
    match csrLevels n with
    | none => .exc s (.sync 0x03)
    | some (lr, lw) =>
      let need := match wr, lw with
        | some _, some l => l
        | _, _ => lr
      if !k.priv.atLeast need then .exc s (.sync 0x04) else
      match wr, lw with
      | some g, some _ =>
        let nv := g v (k.a f) &&& csrMask n
        .done (s.modCore c (fun k => if rd then (k.wrCsr n nv).setS f.dst.toNat v else k.wrCsr n nv))
      | _, _ => .done (if rd then s.modCore c (fun k => k.setS f.dst.toNat v) else s))
    (valid := fun s => match wr with
      | some g => !csrWx n (g (s.csrVal c n) ((s.core c).a f) &&& csrMask n)
      | none => true))

/-- CSRR (R233). -/
def execCsrr := execCsr true none (fun f => f.srcA == 0) false
/-- CSRW (R233). -/
def execCsrw := execCsr false (some (fun _ a => a)) (fun f => f.dst == 0) true
/-- CSRS (R233). -/
def execCsrs := execCsr true (some (fun v a => v ||| a)) (fun _ => true) true
/-- CSRC (R233). -/
def execCsrc := execCsr true (some (fun v a => v &&& ~~~a)) (fun _ => true) true

/-! ### Exceptions -/

/-- An instruction that raises an exception of its own with EPC the next instruction (R248); it has executed, so it counts
in INSTRET (log entry 16). -/
def State.raiseNext (s : State) (c : Nat) (e : Exc) (len : Nat) : State :=
  let pc := (s.core c).pc
  (s.modCore c Core.retire).raise c e (pc + w64 len)

/-- ECALL: raises ECALL with imm8 in EVAL (R233). At U, imm8 0 is the EXIT of the program, whose SLOTLEFT stops (R262, R263). -/
def execEcall (c : CoreId) (f : IFields) (s : State) : Step :=
  .next (s.runInstr c f .u true (!f.hasExt) (fun s =>
    let s := if (s.core c).priv = .u ∧ f.imm8 = 0 then
        s.modCore c (fun k => { k with slot := k.slot.map (fun r => { r with exited := true }) }) else s
    .stay (s.raiseNext c (.sync 0x0B (w64 f.imm8)) 4)))

/-- Row `k` of R780 in a lifecycle state: rows 1 and 2 in RAW and RETURN, rows 3–8 also in DEVELOP, row 0 always. -/
def dbgRow (lcs k : Nat) : Bool :=
  if k = 0 then true
  else if lcs = 0 ∨ lcs = 3 then k < 9
  else lcs = 1 && 3 ≤ k && k < 9

/-- Whether the lifecycle state allows row `k` of R780. -/
def State.dbgAllowed (s : State) (k : Nat) : Bool := dbgRow (s.fld R.KEEP_STATUS_LCS) k

/-- A debug halt of a core: its Steward and queues stop (R782). -/
def State.debugHalt (s : State) (c : Nat) : State :=
  (s.modCore c (fun k => { k with dbgHalt := true })).fldBitSet R.DBG_STATUS_HALTED c

/-- BREAK: a debug halt when a debugger is attached in a lifecycle state that allows it, otherwise the exception (R247). -/
def execBreak (c : CoreId) (f : IFields) (s : State) : Step :=
  .next (s.runInstr c f .u true (!f.hasExt) (fun s =>
    if s.flag R.DBG_STATUS_ATTACHED && s.dbgAllowed 5 then
      .stay ((s.advance c ((s.core c).pc + 4)).debugHalt c)
    else .stay (s.raiseNext c (.sync 0x0C) 4)))

/-- ERET (R234): INEXC is cleared; an asynchronous exception pending for this level is taken in place of the return, with EPC
unchanged; otherwise the level, the interrupt enable and the pc are restored, the pc as EPC holds it (log entry 173). -/
def State.eret (s : State) (c : Nat) : State :=
  let l := (s.core c).priv
  let b := excBase l
  let s := s.modCore c (fun k => (k.wrCsr b (k.rdCsr b &&& ~~~1)).retire)
  let k := s.core c
  match (s.events c).find? (fun e => e.1 == l && e.2.1.code < 0x40) with
  | some (_, e, k') => (s.setCore c k').takeExc c l e (k.rdCsr (b + 2))
  | none =>
    let st := k.rdCsr b
    let ie : Word := if st.getLsbD 2 then 2 else 0
    s.setCore c { k.wrCsr b ((st &&& ~~~2) ||| ie) with
      priv := Priv.ofCode (st.toNat / 16 % 4), pc := k.rdCsr (b + 2), stw := .run }

/-- ERET (R234). -/
def execEret (c : CoreId) (f : IFields) (s : State) : Step :=
  .next (s.runInstr c f .s true (!f.hasExt) (fun s => .stay (s.eret c)))

/-- WFI: completes at once when something is pending, else the Steward waits, with pc at the next instruction (R233). -/
def execWfi (c : CoreId) (f : IFields) (s : State) : Step :=
  .next (s.runInstr c f .u true (!f.hasExt) (fun s =>
    if s.anyPending c then .done s
    else .stay ((s.advance c ((s.core c).pc + 4)).modCore c (fun k => { k with stw := .wfi }))))

/-- ICINV (R233). -/
def execIcinv (c : CoreId) (f : IFields) (s : State) : Step :=
  .next (s.runInstr c f .s true (!f.hasExt) (fun s => .done (s.modCore c (fun k => { k with icache := [] }))))

/-- HALT: the Steward stops until the next core restart (R233). -/
def execHalt (c : CoreId) (f : IFields) (s : State) : Step :=
  .next (s.runInstr c f .m true (!f.hasExt) (fun s =>
    .stay ((s.advance c ((s.core c).pc + 4)).modCore c (fun k => { k with stw := .halt }))))

/-- CTXSW (R233, R235, R457, R459): entries behind the running ones are discarded and counted; once no engine runs, the
leaving context is cleared and CTX reads the new one. Until then the instruction has not completed. -/
def execCtxsw (c : CoreId) (f : IFields) (s : State) : Step :=
  .next (s.runInstr c f .m true (!f.hasExt) (fun s =>
    let k := s.core c
    let a := (k.a f).toNat
    let dropped := ((List.range 5).map (fun e => (k.queue e).length - (k.running e).length)).sum
    let s := (s.satAdd (R.CORE_BELLSTAT_DISCARDED c) dropped).modCore c (fun k =>
      (List.range 5).foldl (fun k e => (if (k.running e).isEmpty then k.wrCsr (0x38 + e) 0 else k).setQueue e (k.running e)) k)
    if (List.range 5).all (fun e => ((s.core c).queue e).isEmpty) then
      .done ((s.clearContext c).modCore c (fun k => { k with ctx := a }))
    else .stay s)
    (valid := fun s => ((s.core c).a f).toNat < 4 && s.depth c == 0))

/-- PCALL (R236, R460): as CALLR, entering the next preserve depth; a fifth nested one raises PRESERVE. -/
def execPcall (c : CoreId) (f : IFields) (s : State) : Step :=
  .next (s.runInstr c f .s true (f.dst == 0 && f.srcB == 0 && f.mod == 0) (fun s =>
    if 4 ≤ s.depth c then .exc s (.sync 0x0A)
    else .goto ((s.setFld (R.CORE_BELLSTAT_PDEPTH c) (s.depth c + 1)).modCore c (fun k => k.setS 31 (k.pc + 4))) ((s.core c).a f))
    (target := fun s => (s.core c).a f))

/-- The preserve delta of an object at a depth (R460). -/
def Core.delta (k : Core) (depth obj : Nat) : BitVec 32 := SMap.get (fun _ => 0) k.pdelta (256 * depth + obj)

/-- The first object of the context whose preserve delta of a depth is not 0 (R461). -/
def State.badDelta (s : State) (c depth : Nat) : Option Nat :=
  let k := s.core c
  (List.range 256).find? (fun o => k.delta depth o != 0 && s.fld (R.CORE_SOBJCFG_OWNER c o) == k.ctx)

/-- Whether a queue entry is a token dispatched at a depth (R461). -/
def tokenAt (depth : Nat) : Entry → Bool
  | .op .. => false
  | .fence _ e => e.depth == depth
  | .signal _ _ e => e.depth == depth
  | .wait _ _ _ e => e.depth == depth

/-- Whether the check of PRET at a depth passes (R461). -/
def State.pretOk (s : State) (c depth : Nat) : Bool :=
  let k := s.core c
  (s.badDelta c depth).isNone && !k.watches.any (fun w => w.depth == depth) &&
    !(List.range 5).any (fun e => (k.queue e).any (tokenAt depth))

/-- The deltas of a depth added to those of the depth below, or dropped at depth 1 (R460, R461). -/
def Core.foldDeltas (k : Core) (depth : Nat) : Core :=
  let here := k.pdelta.filter (fun p => 256 * depth ≤ p.1 && p.1 < 256 * depth + 256)
  let rest := SMap.dropKeys k.pdelta (fun i => 256 * depth ≤ i && i < 256 * depth + 256)
  if depth = 1 then { k with pdelta := rest } else
  { k with pdelta := here.foldl (fun m p =>
      let i := p.1 - 256
      SMap.set (fun _ => 0) m i (SMap.get (fun _ => 0) m i + p.2)) rest }

/-- PRET (R236, R461): leaves preserve mode to s31. Outside preserve mode it raises PRESERVE; when its check fails it raises
PRESERVE with EPC at s31, the first object in error in BELLERR (its status is a free value, log entry 17). -/
def execPret (c : CoreId) (f : IFields) (s : State) : Step :=
  .next (s.runInstr c f .s true (!f.hasExt) (fun s =>
    let d := s.depth c
    let ret := (s.core c).sreg 31
    if d = 0 then .exc s (.sync 0x0A)
    else
      let t := (s.setFld (R.CORE_BELLSTAT_PDEPTH c) (d - 1)).modCore c (fun k => k.foldDeltas d)
      if s.pretOk c d then .goto t ret
      else
        let t := match s.badDelta c d with
          | some o =>
            let q := t.draw
            q.2.bellErr c (q.1 % 256) 5 (s.core c).ctx o 0
          | none => t
        .stay (t.raise c (.sync 0x0A) ret))
    (target := fun s => if s.depth c ≠ 0 ∧ s.pretOk c (s.depth c) = true then (s.core c).sreg 31 else 0))

/-! ### Commands at an instruction boundary -/

/-- TAKE_EXCEPTION: at a boundary, or in a stalled WAIT or BARW, the first pending event is taken (R241, R249). -/
def execTakeException (c : CoreId) (s : State) : Step :=
  .next (if (s.core c).mayInterrupt then (s.takePending c).getD s else s)

/-- UNLISTED_INSTRUCTION: ILLEGAL whatever the predicate holds (R209). -/
def execUnlistedInstruction (c : CoreId) (f : IFields) (s : State) : Step :=
  .next (s.runInstr c f .u false false (fun s => .stay s))

end Sys2Proof.Machine
end

