-- ==== Sys2Proof/Machine/Tags.lean ====
section
/-! DEFINITION. Tagged transactions and the epochs of the parts they name: completion, replies, epoch notices, and the tags of
a core (R137–R142, R190–R204, R227, R228, R722). -/
namespace Sys2Proof.Machine

/-! ### Epochs (R137) -/

/-- The part a place belongs to, if it can be reset alone. -/
def State.partOf (s : State) : Loc → Option Part
  | .mem pa =>
    if isDram pa then some (.dram (Fin.ofNat 8 (dramCh pa)))
    else if pa < 0x1004000000 then some (.core (Fin.ofNat 16 ((pa - 0x1000000000) / 0x200000)))
    else none
  | .pcie _ => some (.pcie (Fin.ofNat 2 s.obPort))
  | .nim d _ => some (.nim (Fin.ofNat 16 d))
  | _ => none

/-- The present epoch of a part. -/
def State.epochOf (s : State) : Part → Nat
  | .core n => s.fld (R.CORE_EPOCH_EPOCH n)
  | .pcie p => s.fld (R.PCIE_P_PORTSTAT_EPOCH p)
  | .dram c => SMap.get (fun _ => 0) s.fab.epochs c
  | .nim d => SMap.get (fun _ => 0) s.fab.epochs (16 + d.val)

/-- The epoch a request to a place records when it is issued. -/
def State.issueEpoch (s : State) (l : Loc) : Nat := ((s.partOf l).map s.epochOf).getD 0

/-- An epoch that wraps from 0xFFFF to 0x0001, increased. -/
def nextEpoch (e : Nat) : Nat := if e = 0xFFFF then 1 else e + 1

/-! ### The tags of a core (R201–R203) -/

/-- Reserved tags of a unit: engines 0–4 and the Steward (R202). -/
def reservedTags (u : Nat) : Nat :=
  match u with
  | 0 => 32
  | 1 => 16
  | 2 => 32
  | 3 => 16
  | 4 => 48
  | _ => 16

/-- Tags a unit of a core holds (CORE n.TAGUSE). -/
def State.tagsOf (s : State) (c u : Nat) : Nat := (s.fab.outst.filter (fun o => o.core == c && o.unit == u)).length

/-- Reserved tags that a unit of a core has in use. -/
def State.ownTags (s : State) (c u : Nat) : Nat :=
  (s.fab.outst.filter (fun o => o.core == c && o.unit == u && !o.pool)).length

/-- Tags of the shared pool in use by a core. -/
def State.poolUsed (s : State) (c : Nat) : Nat := (s.fab.outst.filter (fun o => o.core == c && o.pool)).length

/-- Tags of the shared pool that transactions of C1 and C2 hold. -/
def State.poolLow (s : State) (c : Nat) : Nat := (s.fab.outst.filter (fun o => o.core == c && o.pool && o.cls != 0)).length

/-- Whether a unit of a core finds a tag for a class: a reserved one, else one of the pool, of which C1 and C2 together may
hold at most 64 (R202). -/
def State.tagFree (s : State) (c u cls : Nat) : Bool :=
  s.ownTags c u < reservedTags u || (s.poolUsed c < 96 && (cls == 0 || s.poolLow c < 64))

/-- Whether a read may go out: at most 768 of the device to the PCIe outbound window are in flight at once, and at most 128 of a
core to Nimlink views (R204). -/
def State.readRoom (s : State) (c : Nat) : Loc → Bool
  | .pcie _ => (s.fab.outst.filter (fun o => !o.write && (o.path == 22 || o.path == 23))).length < 768
  | .nim _ _ => (s.fab.outst.filter (fun o => !o.write && o.core == c && 24 ≤ o.path && o.path ≤ 28)).length < 128
  | _ => true

/-! ### Issue -/

/-- A transaction enters the fabric with the next number; its tag is a reserved one of its unit, else one of the pool (R202). -/
def State.post (s : State) (o : Outst) : State :=
  let o := { o with tag := s.fab.nextId, pool := decide (reservedTags o.unit ≤ s.ownTags o.core o.unit) }
  { s with fab := { s.fab with outst := s.fab.outst ++ [o], nextId := s.fab.nextId + 1 } }

/-- A store of the Steward posted to its target (R228). -/
def State.postStore (s : State) (c : Nat) (st : StoreReq) : State :=
  let k := s.core c
  let l := s.loc (some c) st.addr
  s.post ⟨0, c, 5, true, st.addr, st.data, s.pathOf l, k.cls, k.priv, 0, 0, s.issueEpoch l, false⟩

/-- TAG_ALLOCATE (R203): a store stalled for want of a tag is posted once one is free, and the Steward goes on. -/
def execTagAllocate (c : CoreId) (s : State) : Step :=
  .next (match (s.core c).stw with
    | .tagStall st len =>
      if s.tagFree c 5 (s.core c).cls then (s.postStore c st).advance c ((s.core c).pc + w64 len) else s
    | _ => s)

/-! ### Completion -/

/-- The state without a transaction: its tag is free. -/
def State.dropTag (s : State) (o : Outst) : State :=
  { s with fab := { s.fab with outst := s.fab.outst.filter (fun x => x.tag ≠ o.tag) } }

/-- A posted store of a Steward that ended other than OK: STORE_ASYNC becomes pending (R228). -/
def State.storeFailed (s : State) (o : Outst) (st : MStat) : State :=
  if st = .ok then s else
  s.modCore o.core (fun k => { k with pend := { k.pend with storeAsync := k.pend.storeAsync ++ [(st, o.addr, o.priv)] } })

/-- A loaded value of the class-2 op `kind` (R226): the low bytes, extended to 64 bits with sign or with zeros. -/
def loadValue (kind : Nat) (data : List Byte) : Word :=
  match kind with
  | 0 => (BitVec.ofNat 8 (leNat data)).signExtend 64
  | 1 => (BitVec.ofNat 8 (leNat data)).zeroExtend 64
  | 2 => (BitVec.ofNat 16 (leNat data)).signExtend 64
  | 3 => (BitVec.ofNat 16 (leNat data)).zeroExtend 64
  | 4 => (BitVec.ofNat 32 (leNat data)).signExtend 64
  | 5 => (BitVec.ofNat 32 (leNat data)).zeroExtend 64
  | _ => BitVec.ofNat 64 (leNat data)

/-- MEM with a status and the address (R227, R229). -/
def Exc.mem (st : MStat) (a : Nat) : Exc := ⟨0x07, mstCode st, 0, false, w64 a⟩

/-- A read outside the device has come back to the engine whose entry waits for it; one of an entry that is gone is dropped. -/
def State.endRead (s : State) (o : Outst) (st : MStat) (data : List Byte) : State :=
  s.modCore o.core (fun k => match SMap.get (fun _ => none) k.away o.unit with
    | some r => if r.first = o.kind then
        { k with away := SMap.set (fun _ => none) k.away o.unit (some { r with got := r.got ++ [(o.addr, st, data)] }) } else k
    | none => k)

/-- A load that the Steward waits for has ended (R227): its register is written, or MEM is raised. A read of an engine goes to
its entry. -/
def State.endLoad (s : State) (o : Outst) (st : MStat) (data : List Byte) : State :=
  if o.unit < 5 then s.endRead o st data else
  let k := s.core o.core
  match k.stw with
  | .memWait tag len =>
    if tag ≠ o.tag then s
    else if st = .ok then
      (s.modCore o.core (fun k => k.setS o.dst (loadValue o.kind data))).advance o.core (k.pc + w64 len)
    else (s.modCore o.core (fun k => { k with stw := .run })).raise o.core (.mem st o.addr) k.pc
  | _ => s

/-- The device of the ring that a transaction goes to. -/
def State.nimDest (s : State) (o : Outst) : Option Nat :=
  match s.loc (some o.core) o.addr with
  | .nim d _ => some d
  | _ => none

/-- Whether an earlier transaction of the same ordered path is still in flight (R191), or, for a write to a device whose route a
commit has changed, an earlier write to it on the old route (R670). -/
def State.behind (s : State) (o : Outst) : Bool :=
  s.fab.outst.any (fun x => x.write && x.core == o.core && x.unit == o.unit && x.cls == o.cls && x.tag < o.tag &&
    (x.path == o.path || (o.write && 24 ≤ o.path && o.path ≤ 28 && 24 ≤ x.path && x.path ≤ 28 &&
      (s.nimDest x == s.nimDest o))))

/-- A posted store reaches the point of visibility of memory inside the device (R192): performed when its status is OK. -/
def State.landStore (s : State) (o : Outst) (pa : Nat) : State :=
  let r := s.checkMem (.core o.core o.unit o.priv) o.cls true pa
  let s := if r.2 = .ok then r.1.putMem pa o.data else r.1
  (s.dropTag o).storeFailed o r.2

/-- A request to a part that has been reset completes with EPOCH_CHANGED (R137, R140): a write has been performed whole or
not at all, as a free value decides; never before an earlier one of its path (R191). -/
def State.endStale (s : State) (o : Outst) : State :=
  let wait := s.behind o
  let s := s.dropTag o
  if o.write then
    let q := s.draw
    let s := match s.loc (some o.core) o.addr with
      | .mem pa => if q.1 % 2 = 1 && !wait then q.2.putMem pa o.data else q.2
      | _ => q.2
    s.storeFailed o .epochChanged
  else s.endLoad o .epochChanged []

/-- What a memory or a cache has developed by an access (R157, R169, R174, R181). A parity error in a cache drops the line, which is
fetched again, and is counted. -/
def State.develop (s : State) : MemErr → State
  | .none => s
  | .block b u =>
    match s.loc none (64 * b.toNat) with
    | .mem _ => s.setErr b.toNat (if u then 2 else 1)
    | _ => s
  | .parity c data line =>
    let k := s.core c
    let l := line.toNat
    if data then
      if k.dcache.any (·.1 == l) then
        let s := (s.modCore c (fun k => { k with dcache := k.dcache.filter (·.1 != l) })).satInc (R.CORE_MEMSTAT_CACHE_PAR c)
        let r := s.checkMem (.core c 5 k.priv) k.cls false (64 * l)
        if r.2 = .ok then r.1.modCore c (fun k => { k with dcache := (l, r.1.getMem (64 * l) 64) :: k.dcache }) else r.1
      else s
    else if k.icache.contains l then s.satInc (R.CORE_MEMSTAT_CACHE_PAR c)
    else s

/-- ACCESS_COMPLETE (R157, R169, R181, R191, R192, R199, R228): a posted store reaches its point of visibility, in issue order on its
ordered path. `x` gives the outcome at a target outside the device; inside it the outcome follows from the state. A store to an
encrypted region without its key waits (R173). A target reset meanwhile answers EPOCH_CHANGED (R139, R140). What a
memory has developed by then is found by the reads that follow. -/
def execAccessComplete (tag : Nat) (x : AccessEnd) (s : State) : Step :=
  .next (let s := s.develop x.ev
    match s.fab.outst.find? (fun o => o.tag == tag && o.write) with
    | none => s
    | some o =>
      if s.behind o then s else
      let l := s.loc (some o.core) o.addr
      if s.issueEpoch l ≠ o.epoch then s.endStale o
      else match l with
      | .mem pa => if s.keyWait pa then s else s.landStore o pa
      | .none => (s.dropTag o).storeFailed o .addrDecode
      | _ => (s.dropTag o).storeFailed o x.st)

/-- REPLY_RECEIVED (R138, R227): the reply to a read of a target outside the device, stamped with the target's epoch; one
older than the present view is dropped. -/
def execReplyReceived (tag : Nat) (epoch : Nat) (st : MStat) (data : List Byte) (s : State) : Step :=
  .next (match s.fab.outst.find? (fun o => o.tag == tag && !o.write) with
    | none => s
    | some o =>
      if epoch ≠ s.issueEpoch (s.loc (some o.core) o.addr) then s
      else (s.dropTag o).endLoad o st data)

/-- EPOCH_NOTICE (R137): the fabric's notice of a reset part reaches every requester that holds a tag naming it. -/
def execEpochNotice (p : Part) (s : State) : Step :=
  .next ((s.fab.outst.filter (fun o => s.partOf (s.loc (some o.core) o.addr) == some p && o.epoch != s.epochOf p)).foldl
    (fun s o => s.endStale o) s)

end Sys2Proof.Machine
end

