-- ==== Sys2Proof/Machine/Losses.lean ====
section
/-! DEFINITION. DRAM channels and PCIe ports that fail and return (R134, R145, R147, R170, R174–R179, R726–R729), the function
blocks and doorbells of the host (R730, R734, R742, R744, R746). -/
namespace Sys2Proof.Machine

/-! ### DRAM channels -/

/-- CHANNEL_FAILURE (R176, R179). -/
def execChannelFailure (ch : Fin 8) (s : State) : Step := .next (s.channelFail ch)

/-- The contents of a channel that only it held are lost (R177). -/
def State.loseChannel (s : State) (c : Nat) : State :=
  let s := s.loseRegion c s.mirrorRanges
  { s with ecc := SMap.dropKeys s.ecc (fun b => isDram (64 * b) && dramCh (64 * b) == c) }

/-- The jobs of C1 and C2 whose inputs lay in a channel that has lost its contents are lost with them, unless they have run (R180,
R409). -/
def State.loseInputs (s : State) (c : Nat) : State :=
  let g := fun (j : Job) => if j.cls ≠ 0 ∧ j.ran = false ∧ s.inputsIn j c = true then { j with lost := true, pulls := [] } else j
  { s with jobs := { s.jobs with jobs := s.jobs.jobs.map g } }

/-- RETRAIN_DONE (R177): an attempt to retrain a failed channel ends. A success returns the channel with its unmirrored contents
lost and starts the rebuild; the third failure in a row is final. -/
def execRetrainDone (ch : Fin 8) (ok : Bool) (s : State) : Step :=
  .next (if s.chUp ch || bit (s.fld R.MEMC_STATUS_CH_FAILED) ch then s else
    let s := s.satInc (R.MEMC_CHERR_RETRAIN ch)
    let put := fun (s : State) (n : Nat) =>
      { s with dev := { s.dev with retrains := SMap.set (fun _ => 0) s.dev.retrains ch n } }
    if ok then
      let s := (((put s 0).fldBitSet R.MEMC_STATUS_CH_UP ch).fldBitSet R.MEMC_STATUS_CONTENT_LOST ch).loseChannel ch
      let s := s.loseInputs ch
      (s.setFld R.MEMC_STATUS_REBUILDING 1).setFld R.MEMC_STATUS_REBUILD_CH ch
    else
      let n := SMap.get (fun _ => 0) s.dev.retrains ch + 1
      if 3 ≤ n then (put s 0).fldBitSet R.MEMC_STATUS_CH_FAILED ch else put s n)

/-- MIRROR_REBUILD_DONE (R177): the mirror holds again. The scrub of a tenant suspends the rebuild (R714). -/
def execMirrorRebuildDone (s : State) : Step :=
  .next (if !s.flag R.MEMC_STATUS_REBUILDING || s.flag R.KEEP_STATUS_SCRUBBING then s else
    let s := s.setFld R.MEMC_STATUS_REBUILDING 0
    if s.fld R.MEMC_STATUS_CH_FAILED = 0 then s.regain lostMIRROR else s)

/-- PATROL_SCRUB (R170, R181–R183): one 64-byte block of DRAM, or of the SRAM that the background scrub reads, is read and, where
needed, corrected or repaired; the scrub of a tenant suspends it (R714). An error that leaves a scratchpad's word lost is a fault of its core. -/
def execPatrolScrub (blk : BitVec 34) (s : State) : Step :=
  let b := blk.toNat
  .next (if s.flag R.KEEP_STATUS_SCRUBBING then s else match s.loc none (64 * b) with
    | .mem pa =>
      if isDram pa then (if s.chUp (dramCh pa) then (s.readDram b).1 else s)
      else if s.fld (fCoreState (regionOf pa - 8)) = csRESTARTING ∧ regionOf pa < 24 then s
      else
        let r := s.readSram b
        if r.2 = .poison ∧ regionOf pa < 24 then r.1.poisonFault .dbg pa else r.1
    | _ => s)

/-! ### Functions of the host (R730, R746) -/

/-- A function's queues reset: nothing queued, nothing in progress (R730). Its verdict ring is left alone. -/
def State.resetQueues (s : State) (f : Nat) : State :=
  s.modFn f (fun k => { Fn.reset with vr := k.vr, vrCount := k.vrCount, vrHead := k.vrHead })

/-- FLR of a function (R746): commands abandoned without completions, queues, ring and vectors disabled, the version and the
counts of its block cleared. Its accepted jobs run on. -/
def State.flrFn (s : State) (f : Nat) : State :=
  let s := s.setFn f Fn.reset
  let s := ((s.setFld (R.PCIEA_F_QCFG_EN f) 0).setFld (R.PCIEA_F_VRCFG_EN f) 0).setFld (R.PCIEA_F_FSTATUS_VERSION f) 0
  ((s.setReg (R.PCIEA_F_LOST f) 0).setReg (R.PCIEA_F_BUSY f) 0).setReg (R.PCIEA_F_BYTES f) 0

/-! ### PCIe ports -/

/-- Whether a port is present (R3). -/
def State.hasPort (s : State) (p : Nat) : Bool := p == 0 || s.hasPortB

/-- Whether a port's link is up. -/
def State.portUp (s : State) (p : Nat) : Bool := s.flag (R.PCIE_P_PORTSTAT_UP p)

/-- Whether the traffic of port `p` is handed to the other port when it fails: enabled, the other up, and for port A with
port B an endpoint (R726–R728). -/
def State.mayHand (s : State) (p : Nat) : Bool :=
  s.flag (R.PCIE_P_HANDOVER_EN p) && s.hasPortB && s.portUp (1 - p) && (p == 1 || s.fld R.DEVICE_STRAPS_PEB_ROLE == 0)

/-- PCIE_BOTH_DOWN as R145 and R147 have it. -/
def State.setBothDown (s : State) : State :=
  s.setFld R.DEVICE_STATE_PCIE_BOTH_DOWN (if s.portUp 0 || s.portUp 1 then 0 else 1)

/-- The SPDM sessions and the negotiation of a port's mailbox end, with the IDE streams made from them (R695). -/
def State.dropSessions (s : State) (p : Nat) : State :=
  let l := s.keep.sessions.filter (fun (x : Spdm) => x.port ≠ p)
  let s := { s with keep := { s.keep with sessions := l, nego := SMap.set (fun _ => 0) s.keep.nego p 0 } }
  (s.setFld R.KEEP_STATUS_SESSIONS l.length).setFld (R.PCIE_P_PORTSTAT_IDE p) 0

/-- A port reset (R134, R135, R726): its epoch increments, its requests end with EPOCH_CHANGED at the notice, its link goes
down and its functions are reset unless its traffic is handed over. -/
def State.portReset (s : State) (p : Nat) : State :=
  if !s.hasPort p then s else
  let e := R.PCIE_P_PORTSTAT_EPOCH p
  let s := (s.setFld e (nextEpoch (s.fld e))).satInc R.SAFETY_EVCNT_LOST
  let s := ((s.setFld (R.PCIE_P_PORTSTAT_UP p) 0).dropSessions p).setPad p .idle
  let hand := s.mayHand p
  let s := s.setFld (R.PCIE_P_PORTSTAT_HANDED p) (if hand then 1 else 0)
  let s := s.setFld (R.PCIE_P_PORTSTAT_HANDED (1 - p)) 0
  let s := if p = 0 ∧ !hand then s.iter 5 (fun f s => s.flrFn f) else s
  s.setBothDown.lose lostPCIE_PORT

/-- A port that is up fails, which is a port reset (R726). -/
def State.portFail (s : State) (p : Nat) : State := if s.portUp p then s.portReset p else s

/-- Whether the redundancy of the PCIe ports is lost: a present port is down (R147, R789). -/
def State.portsLost (s : State) : Bool := !s.portUp 0 || (s.hasPortB && !s.portUp 1)

/-- PORT_FAILURE (R726), in every state of the device (R145). -/
def execPortFailure (p : Fin 2) (s : State) : Step := .next (s.portFail p)

/-- PORT_RETURN (R147, R726): a port trains, at first or again, and its traffic returns to it. -/
def execPortReturn (p : Fin 2) (speed width : Nat) (s : State) : Step :=
  .next (if !s.hasPort p || s.portUp p then s else
    let s := (((s.setPad p .active).setFld (R.PCIE_P_PORTSTAT_UP p) 1).setFld (R.PCIE_P_PORTSTAT_SPEED p) speed).setFld
      (R.PCIE_P_PORTSTAT_WIDTH p) width
    let s := (s.setFld (R.PCIE_P_PORTSTAT_HANDED p) 0).setBothDown
    if s.portsLost then s else s.regain lostPCIE_PORT)

/-- FLR (R746): of a VF its own; of PF0 a reset of port A. -/
def execFlr (f : Fin 5) (s : State) : Step :=
  .next (if f.val = 0 then s.portFail 0 else s.flrFn f)

/-! ### Doorbells -/

/-- Whether a master reaches the block of function `f` (R721, R727, R780): PF0 every block, a VF its own, firmware at M,
the debug port. -/
def blockOk (m : Master) (f : Nat) : Bool :=
  match m with
  | .fn g => g == 0 || g == f
  | .core _ _ .m => true
  | .dbg => true
  | _ => false

/-- Whether IDE_REQ is set for a port with no stream locked, so that of port A only the commands of R698 are taken (R698). -/
def State.ideShut (s : State) (p : Nat) : Bool :=
  bit (leAt ((s.setting 0x60).getD []) (24 * p + 20) 1) 1 && !s.flag (R.PCIE_P_PORTSTAT_IDE p)

/-- Whether the host's functions are reached at all: port A up, or handed over. -/
def State.hostUp (s : State) : Bool := s.portUp 0 || s.flag (R.PCIE_P_PORTSTAT_HANDED 0)

/-- Whether a write of a function block register takes effect: by a master that reaches it, over a port that is up, which with
IDE_REQ a VF reaches only in a locked stream (R698); in TRIPPED it is discarded and recorded (R103). -/
def State.blockWrite (s : State) (m : Master) (f off : Nat) (g : State → State) : State :=
  let up := match m with
    | .fn g => s.hostUp && (g == 0 || !s.ideShut 0)
    | _ => true
  if !blockOk m f || !up then s
  else if s.st = stTRIPPED then s.discard m off
  else g s

/-- A TAIL doorbell (R730): the entries up to it may be fetched. -/
def State.ringTail (s : State) (f v : Nat) : State := s.modFn f (fun k => { k with sqTail := v % s.sqSize f })

/-- A HEAD doorbell (R734): the slots before it are free; the same HEAD on a full queue frees all of it. -/
def State.ringHead (s : State) (f v : Nat) : State :=
  let n := s.cqSize f
  let k := s.fn f
  let first := (k.cqIdx + n - k.cq.length % n) % n
  let freed := (v % n + n - first) % n
  let freed := if freed = 0 ∧ k.cq.length = n then n else min freed k.cq.length
  (s.setFn f { k with cq := k.cq.drop freed }).flushCq f 32

/-- A VRHEAD doorbell (R742): records consumed, modulo 2^32. -/
def State.ringRecords (s : State) (f v : Nat) : State :=
  s.modFn f (fun k =>
    let n := min ((v + 2 ^ 32 - k.vrHead) % 2 ^ 32) k.vr.length
    { k with vr := k.vr.drop n, vrHead := (k.vrHead + n) % 2 ^ 32 })

/-- A write of QCFG (R730): EN 0 resets the queues. -/
def State.writeQcfg (s : State) (f v : Nat) : State :=
  let s := ((s.setFld (R.PCIEA_F_QCFG_EN f) (v / 2 ^ 31 % 2)).setFld (R.PCIEA_F_QCFG_SQLOG f) (v / 2 ^ 20 % 16)).setFld
    (R.PCIEA_F_QCFG_CQLOG f) (v / 2 ^ 16 % 16)
  let s := (s.setFld (R.PCIEA_F_QCFG_MODCNT f) (v / 256 % 256)).setFld (R.PCIEA_F_QCFG_MODUS f) (v % 256)
  if v / 2 ^ 31 % 2 = 0 then s.resetQueues f else s.flushCq f 32

/-- SQTAIL (R730). -/
def execSqtail (m : Master) (f : Fin 5) (v : BitVec 32) (s : State) : Step :=
  .next (s.blockWrite m f (R.PCIEA_F_SQTAIL f) (fun s => s.ringTail f (v.toNat % 4096)))

/-- CQHEAD (R734). -/
def execCqhead (m : Master) (f : Fin 5) (v : BitVec 32) (s : State) : Step :=
  .next (s.blockWrite m f (R.PCIEA_F_CQHEAD f) (fun s => s.ringHead f (v.toNat % 4096)))

/-- VRHEAD (R742). -/
def execVrhead (m : Master) (f : Fin 5) (v : BitVec 32) (s : State) : Step :=
  .next (s.blockWrite m f (R.PCIEA_F_VRHEAD f) (fun s => s.ringRecords f v.toNat))

/-- QCFG_WRITE (R730). -/
def execQcfgWrite (m : Master) (f : Fin 5) (v : BitVec 32) (s : State) : Step :=
  .next (s.blockWrite m f (R.PCIEA_F_QCFG f) (fun s => s.writeQcfg f v.toNat))

/-- MSIX_MODERATION_TIMEOUT (R744): MODUS has passed since the first unsignalled entry of a moderated vector. -/
def execMsixModerationTimeout (f : Fin 5) (v : Fin 4) (s : State) : Step :=
  .next (if s.moderated f v && SMap.get (fun _ => 0) (s.fn f).unsig v != 0 then s.fire f v else s)

end Sys2Proof.Machine
end

