-- ==== Sys2Proof/Machine/Chain.lean ====
section
/-! DEFINITION. The verdict chain of the two channels (R551). -/
namespace Sys2Proof.Machine

/-- A chain with every record of scan tag at most `n` folded in. -/
def Chain.upTo (k : Chain) (n : Nat) : Chain :=
  let old := k.pend.filter (fun p => p.1 ≤ n)
  { crc := old.foldl (fun v p => crcFeed 32 0x04C11DB7 true v (leBytes 4 p.2)) k.crc
    count := k.count + old.length
    pend := k.pend.filter (fun p => n < p.1) }

/-- The VCHAIN field of a chain: the CRC-32 over what has been folded in. -/
def Chain.value (k : Chain) : Nat := crcOut 32 true 0xFFFFFFFF k.crc

/-- A C0 record committed with OUTPUTS.NETS joins channel A's chain, and the crier's report of its frame channel B's. -/
def State.chainCommit (s : State) (crc : Nat) : State :=
  { s with sio := { s.sio with chainA := { s.sio.chainA with pend := s.sio.chainA.pend ++ [(s.fld R.SAFETY_SCANSTAT_SCAN, crc)] } } }

/-- The crier hands a paired frame to the first network: its record joins channel B's chain, with the tag of its commit. -/
def State.chainEmit (s : State) (crc : Nat) : State :=
  let tag := ((s.sio.chainA.pend.find? (fun p => p.2 == crc)).map (·.1)).getD (s.fld R.SAFETY_SCANSTAT_SCAN)
  { s with sio := { s.sio with chainB := { s.sio.chainB with pend := s.sio.chainB.pend ++ [(tag, crc)] } } }

end Sys2Proof.Machine
end

