-- ==== Sys2Proof/Machine/Vectors.lean ====
section
/-! DEFINITION. Check vectors, their epochs, and the constants derived from them (R109, R330, R331, R337–R345). They lie in C0 DRAM at
the runtime's choice, which the spec leaves open; the model holds them with their route, where no register or record shows them (R338;
log entry 175). -/
namespace Sys2Proof.Machine

/-! ### The vectors (R337) -/

/-- Entry `j` of exact vector `v` of an epoch, and of its sign vector `v` as F32 bits. -/
def CheckEpoch.exact (e : CheckEpoch) (v j : Nat) : Nat := mrndLane false (Config.freeNat (e.draw + v * e.maxN + j))
def CheckEpoch.sign (e : CheckEpoch) (v j : Nat) : Nat := mrndLane true (Config.freeNat (e.draw + (e.vecs + v) * e.maxN + j))

/-- The MRNDs that draw the vectors of an epoch: 32 lanes each, for VECS exact and VECS sign vectors of MAXN entries. -/
def drawsFor (vecs maxN : Nat) : Nat := 2 * vecs * ((maxN + 31) / 32)

/-! ### The constants of a FIXEDB layer -/

/-- The constants of an EXACT layer (R330, R331): w = B·r − ZPB × Σ r, β₀ = bias·r and Σ w, all modulo p. -/
def exactConst (b : List Byte) (l : Layer) (e : CheckEpoch) (v : Nat) : LayerConst :=
  let r := (List.range l.n).map (e.exact v)
  let ints := fun (k : Nat) => rowInts l.bfmt ((List.range l.n).map (fun j => Config.weight b l.index k j))
  let dot := fun (xs : List Int) => ((xs.zip r).map (fun p => p.1 * (p.2 : Int))).sum
  let w := (List.range l.k).map (fun k => resInt (dot (ints k) - sint 16 l.zpb * ((r.sum : Nat) : Int)))
  let bias := (List.range l.n).map (fun j => sint 32 (Config.biasOf b l.index j))
  { idx := l.index, vec := v, w := w, beta := [], bias := if bit l.flags 1 then resInt (dot bias) else 0, wsum := w.sum % p61 }

/-- The constants of a BOUNDED layer (R344, R345): ŵ = B·r in F32 and β, the sums of the magnitudes, with the bias as a further row. -/
def boundedConst (b : List Byte) (l : Layer) (e : CheckEpoch) (v : Nat) : LayerConst :=
  let r := (List.range l.n).map (fun j => fmtF32.decode (e.sign v j))
  let rows := (List.range l.k).map (fun k => rowVals l.bfmt false ((List.range l.n).map (fun j => Config.weight b l.index k j))) ++
    (if bit l.flags 1 then [(List.range l.n).map (fun j => fmtF32.decode (Config.biasOf b l.index j))] else [])
  { idx := l.index, vec := v, w := rows.map (fun x => fmtF32.encode (dotFloat FV.zero x r).1)
    beta := rows.map (fun x => fmtF32.encode (dotBound x r).1), bias := 0, wsum := 0 }

/-- The constants of an epoch from the device's own copy of its bundle, for the FIXEDB layers of a table. -/
def epochConsts (b : List Byte) (t : LayerTable) (e : CheckEpoch) : List LayerConst :=
  (t.layers.filter (fun l => bit l.flags 0 && l.mode ≤ 1)).flatMap (fun l =>
    (List.range e.vecs).map (fun v => if l.mode = 0 then exactConst b l e v else boundedConst b l e v))

/-! ### Epochs (R339–R343) -/

/-- The vectors of the next epoch of a route drawn, if there are none yet; while the random source does not serve there are none
(R337, R340, R342). -/
def State.prepare (s : State) (r prog : Nat) : State :=
  let k := s.routeSt r
  if k.prep.isSome then s else
  let q := s.rngRequest
  if !q.2 then q.1 else
  let t := (s.prog prog).map (fun p => s.layerTable p)
  let vecs := (t.map (·.vecs)).getD 0
  let maxN := (t.map (·.maxN)).getD 0
  let n := q.1.freeCtr
  let s := { q.1 with
    freeCtr := n + 2 * vecs * maxN
    keep := { q.1.keep with reqs := q.1.keep.reqs + (drawsFor vecs maxN - 1) } }
  s.setRouteSt r { k with prep := some ⟨0, n, vecs, maxN, 0, false, []⟩ }

/-- The prepared vectors begin a new epoch with the constants of a bundle, which may still have to be computed (R340, R343); epochs
that no open frame uses are forgotten. Without prepared vectors the present epoch stays (R342). -/
def State.newEpoch (s : State) (r prog bundle : Nat) (ready : Bool) : State :=
  let k := s.routeSt r
  match k.prep with
  | none => s
  | some e =>
    let img := match s.keep.bundles.find? (·.handle == bundle) with
      | some b => s.bytes b.addr b.size
      | none => []
    let e := { e with num := k.epoch + 1, bundle := bundle, ready := ready || bundle == 0 }
    let e := { e with consts := match s.prog prog with
      | some p => if bundle = 0 then [] else epochConsts img (s.layerTable p) e
      | none => [] }
    let used := k.epochs.filter (fun x => k.frames.any (·.epoch == x.num))
    s.setRouteSt r { k with prep := none, epoch := k.epoch + 1, age := 0, bundle := bundle, epochs := used ++ [e] }

/-- The epoch of an open frame. -/
def RouteSt.epochOf (k : RouteSt) (fr : OpenFrame) : Option CheckEpoch := k.epochs.find? (·.num == fr.epoch)

/-- The constants of an epoch ready (R343). -/
def RouteSt.readyEpoch (k : RouteSt) (n : Nat) : RouteSt :=
  { k with epochs := k.epochs.map (fun e => if e.num = n then { e with ready := true } else e) }

/-- Whether an accepted job names another bundle than the one of the epoch's constants (R343). -/
def RouteSt.forcedBy (k : RouteSt) (j : Option Job) : Option Nat :=
  match j with
  | some j => if j.bundle != 0 && j.bundle != k.bundle then some j.bundle else none
  | none => none

/-- What a frame boundary of a route does to its epoch (R340, R342, R343): a job with another bundle or the first frame begins one
at once; a prepared one begins when the present one has reached its last frame and the preparation is complete, which the runtime
decides. The next vectors are drawn no later than in the frame of age EPOCHLEN − 1. -/
def State.epochStep (s : State) (r prog : Nat) (job : Option Job) : State :=
  let k := s.routeSt r
  let len := ((s.prog prog).map (fun p => (s.layerTable p).epochLen)).getD 0
  let q := s.draw
  let s := q.2
  let older := { k with age := k.age + 1 }
  let s := match k.forcedBy job with
    | some b => ((s.setRouteSt r older).prepare r prog).newEpoch r prog b false
    | none =>
      if k.epoch = 0 then (s.prepare r prog).newEpoch r prog k.bundle false
      else if len ≤ k.age + 1 ∧ q.1 % 2 = 1 then (s.setRouteSt r older).newEpoch r prog k.bundle true
      else s.setRouteSt r older
  if len ≤ (s.routeSt r).age + 1 ∨ q.1 / 2 % 2 = 1 then s.prepare r prog else s

/-- The first check vectors of every C0 job drawn, as far as the random source serves and their programs are loaded (R109). -/
def State.drawFirst (s : State) : State :=
  ((routesOf ((s.setting 0x10).getD [])).zipIdx).foldl (fun s p =>
    if p.1.cls = 0 ∧ (s.prog p.1.prog).isSome = true then s.prepare p.2 p.1.prog else s) s

/-- Whether the first check vectors of every C0 job whose program is loaded are drawn (R109). -/
def State.firstDrawn (s : State) : Bool :=
  ((routesOf ((s.setting 0x10).getD [])).zipIdx).all (fun p =>
    p.1.cls != 0 || (s.prog p.1.prog).isNone || (s.routeSt p.2).prep.isSome)

/-- Every route before its first frame, with the vectors drawn for it (R339). -/
def State.restartRoutes (s : State) : State :=
  let fresh := s.jobs.routes.map (fun p => (p.1, { RouteSt.empty with prep := p.2.prep }))
  { s with jobs := { s.jobs with routes := fresh.filter (fun p => p.2 != RouteSt.empty) } }

/-- A program of the table is replaced: what was drawn for it and found about its layer table no longer holds. -/
def State.forgetVectors (s : State) (i : Nat) : State :=
  ((routesOf ((s.setting 0x10).getD [])).zipIdx).foldl (fun s p =>
    if p.1.prog = i then s.setRouteSt p.2 { s.routeSt p.2 with prep := none, tableSeen := false, tableBad := none } else s) s

end Sys2Proof.Machine
end

