-- ==== Sys2Proof/Machine/Verdict.lean ====
section
/-! DEFINITION. Deciding, committing and publishing verdict records, the Hearth's substitution, and the supervised restart of
the accelerator (R411–R436, R446–R448, R512, R513, R519–R521, R742, R743). -/
namespace Sys2Proof.Machine

/-! ### Status and reason codes (R411, R413) -/

def vsPASS : Nat := 1
def vsFAIL : Nat := 2
def vsUNCHECKED : Nat := 3
def vsLATE : Nat := 4
def vsPROVISIONAL : Nat := 5
def vsWITHDRAWN : Nat := 6
def vsSUBSTITUTED : Nat := 7
def vrBAD_LAYER_TABLE : Nat := 0x05
def vrPROGRAM_FAIL : Nat := 0x06
def vrPLAUSIBILITY : Nat := 0x07
def vrCOVERAGE_LOW : Nat := 0x08
def vrOVERRUN : Nat := 0x09
def vrPAIR_NO_RESULT : Nat := 0x0A
def vrINPUT_LOST : Nat := 0x0B
def vrINPUT_TIMEOUT : Nat := 0x0C
def vrNO_JOB : Nat := 0x0D
def vrCHECK_TIMEOUT : Nat := 0x0E
def vrREFUSED_CAPACITY : Nat := 0x0F
def vrTELLTALE_MISMATCH : Nat := 0x10
def vrPROV_TIMEOUT : Nat := 0x11
def vrTAP_INVALID : Nat := 0x12
def vrENGINE_ERROR : Nat := 0x13
def vrLATE_SUBMIT : Nat := 0x14

/-! ### Deciding (R417) -/

/-- Whether a job's check has ended: its program has exited and every comparison is complete, or it ended otherwise, or it
has lost its inputs and does not run (R409, R416). -/
def Job.ended (j : Job) : Bool := j.exitCode.isSome || j.overrun || j.pairNone || j.lost

/-- Whether the Hearth result of network `h` for a frame is ready (R425). -/
def State.hearthReady (s : State) (h f : Nat) : Bool :=
  bit (s.fld R.HEARTH_STATUS_READY) h && s.fld (R.HEARTH_NET_FRAME h) == f % 2 ^ 32

/-- The windows that a display job declares: those not 0xFF (R517). -/
def Job.windows (j : Job) : List Nat := (List.range 16).filter (fun w => j.states.getD w 0xFF ≠ 0xFF)

/-- The first outcome of a display frame's windows (R518, R519): a mismatch, a failed window, or all compared and equal;
none while windows are outstanding. -/
def State.windowsOutcome (s : State) (tap f : Nat) (j : Job) : Option Nat :=
  let d := tap - 8
  if s.fld (R.TAP_WSTAT_FRAME d) ≠ f % 2 ^ 32 then none else
  let mis := s.fld (R.TAP_WSTAT_MISMATCH d)
  let done := s.fld (R.TAP_WSTAT_DONE d)
  let fail := (s.tap tap).wfail
  if j.windows.any (bit mis) then some vrTELLTALE_MISMATCH
  else if j.windows.any (bit fail) then some vrTAP_INVALID
  else if j.windows.all (bit done) then some 0
  else none

/-- The status, reason and PCODE of a checked frame by R417, before substitution. -/
def State.decide417 (s : State) (rc : RouteCfg) (r : Nat) (fr : OpenFrame) (job : Option Job) : Nat × Nat × Nat :=
  match job with
  | none => (vsLATE, vrNO_JOB, 0)
  | some j =>
    let cov := s.coverageOf rc r fr job
    if j.refused then (vsUNCHECKED, vrREFUSED_CAPACITY, 0)
    else if (s.routeSt r).badTable fr.frame then (vsUNCHECKED, vrBAD_LAYER_TABLE, 0)
    else if !j.ended then (vsLATE, if j.inputsAt.isSome then vrCHECK_TIMEOUT else vrINPUT_TIMEOUT, 0)
    else match j.failed with
    | some (_, why) => (vsFAIL, why, 0)
    | none =>
      let code := j.exitCode.getD 0
      if code = 0xFE then (vsFAIL, vrPLAUSIBILITY, 0)
      else if code ≠ 0 then (vsFAIL, vrPROGRAM_FAIL, code)
      else if j.lost then (vsUNCHECKED, vrINPUT_LOST, 0)
      else if j.overrun then (vsUNCHECKED, vrOVERRUN, 0)
      else if j.pairNone then (vsUNCHECKED, vrPAIR_NO_RESULT, 0)
      else if j.engErr then (vsUNCHECKED, vrENGINE_ERROR, 0)
      else if cov.exact + cov.bounded < rc.minLin ∨ cov.spot < rc.minSpot ∨ rc.maxAge < cov.age ∨ bit cov.flags 1 then
        (vsUNCHECKED, vrCOVERAGE_LOW, 0)
      else (vsPASS, 0, 0)

/-- The status, reason and PCODE of a display frame by its telltale windows (R513, R519). -/
def State.decideDisplay (s : State) (rc : RouteCfg) (fr : OpenFrame) (job : Option Job) : Nat × Nat × Nat :=
  match job with
  | none => (vsLATE, vrNO_JOB, 0)
  | some j =>
    match s.windowsOutcome rc.source fr.frame j with
    | none => (vsLATE, vrCHECK_TIMEOUT, 0)
    | some 0 =>
      if s.outcome rc.source ((fr.frame + 2 ^ 32 - 1) % 2 ^ 32) = some obDISTINCT then (vsPASS, 0, 0)
      else (vsUNCHECKED, vrTAP_INVALID, 0)
    | some why => (if why = vrTELLTALE_MISMATCH then vsFAIL else vsUNCHECKED, why, 0)

/-- A record's outcome as decided at commit. -/
structure Decision where
  status : Nat
  reason : Nat
  pcode : Nat
  hearth : Bool
  noHearth : Bool
deriving DecidableEq, Repr

/-- The decision of a frame: by windows on a display route, else by R417, replaced on a camera route whose outcome is not
known to be DISTINCT (R512), then substituted (R417, R424). A route whose SOURCE is a display tap but that checks no
window also needs the outcome of the frame before (R513). -/
def State.decide (s : State) (rc : RouteCfg) (r : Nat) (fr : OpenFrame) (job : Option Job) : Decision :=
  let d0 :=
    if rc.display then s.decideDisplay rc fr job
    else
      let d := s.decide417 rc r fr job
      if rc.source < 8 then
        (if s.outcome rc.source fr.frame = some obDISTINCT then d else (vsUNCHECKED, vrTAP_INVALID, 0))
      else if d.1 = vsPASS ∧ s.outcome rc.source ((fr.frame + 2 ^ 32 - 1) % 2 ^ 32) ≠ some obDISTINCT then
        (vsUNCHECKED, vrTAP_INVALID, 0)
      else d
  if rc.cls = 0 ∧ rc.hearth ≠ 0xFF ∧ d0.1 ≠ vsPASS then
    if s.hearthReady rc.hearth fr.frame then ⟨vsSUBSTITUTED, d0.2.1, d0.2.2, true, false⟩
    else ⟨d0.1, d0.2.1, d0.2.2, false, true⟩
  else ⟨d0.1, d0.2.1, d0.2.2, false, false⟩

/-! ### The record and its publication (R411, R421, R422) -/

/-- Whether the programs behind a record ran in SINGLE mode (R384, R385). -/
def State.singleMark (s : State) (rc : RouteCfg) (d : Decision) (job : Option Job) : Bool :=
  (job.map (·.single)).getD false || (d.hearth && (SMap.get (fun _ => HearthSt.empty) s.jobs.hearth rc.hearth).single)

/-- The 64 bytes of a record (R411, R414). -/
def State.recordBytes (s : State) (rc : RouteCfg) (r : Nat) (fr : OpenFrame) (job : Option Job) (d : Decision)
    (replaces : Bool) : List Byte :=
  let b := s.stampBase
  let delay := (job.map (·.delay)).getD 0
  let flags := (if d.hearth then 1 else 0) + (if s.singleMark rc d job then 2 else 0) + (if delay ≠ 0 then 4 else 0) +
    (if s.st = stDEGRADED then 8 else 0) + (if d.noHearth then 16 else 0) + (if replaces then 32 else 0) + rc.cls * 64
  let body := leBytes 1 1 ++ leBytes 1 d.status ++ leBytes 1 d.reason ++ leBytes 1 flags ++ leBytes 2 r ++
    leBytes 2 (s.fld R.NIM_CFG_SELF + 256 * s.fld R.DEVICE_STATE_DEV_EPOCH) ++
    leBytes 4 ((job.map (·.job)).getD 0xFFFFFFFF) ++ leBytes 4 fr.frame ++ leBytes 4 fr.epoch ++ leBytes 4 delay ++
    (s.coverageOf rc r fr job).bytes ++ leBytes 8 ((job.bind (·.inputsAt)).getD 0) ++ leBytes 8 s.stampNow ++
    leBytes 2 (s.routeSt r).seq ++
    leBytes 1 (b + (if s.flag (R.SUNDIAL_TB_STATUS_HOLDOVER b) then 4 else 0)) ++ leBytes 1 d.pcode
  body ++ leBytes 4 (crc32 body)

/-- The result bytes of a paired safety frame (R422). -/
def State.resultBytes (s : State) (rc : RouteCfg) (job : Option Job) (d : Decision) : List Byte :=
  let zeros := List.replicate rc.resultLen (0 : Byte)
  if d.status = vsSUBSTITUTED then
    s.getMem (SMap.get (fun _ => HearthSt.empty) s.jobs.hearth rc.hearth).addr rc.resultLen
  else if d.status = vsPASS ∨ d.status = vsPROVISIONAL then
    (((job.map (·.result)).getD []) ++ zeros).take rc.resultLen
  else zeros

/-- A record written to the owning client's verdict ring (R742, R743, R746). -/
def State.ringWrite (s : State) (f : Nat) (rec : Record) : State :=
  let k := s.fn f
  let size := 2 ^ max 4 (min 12 (s.fld (R.PCIEA_F_VRCFG_VRLOG f)))
  if s.flag (R.PCIEA_F_VRCFG_EN f) && k.vr.length < size then
    (s.setFn f { k with vr := k.vr ++ [rec], vrCount := (k.vrCount + 1) % 2 ^ 32 }).signal f 1
  else
    let s := s.satInc (R.PCIEA_F_LOST_VRLOST f)
    if s.flag (R.PCIEA_F_VRCFG_EN f) then s.postEvent f 8 (s.fld (R.PCIEA_F_LOST_VRLOST f)) else s

/-- A DISPVALID line driven (R520, R521). -/
def State.setDispValid (s : State) (line : Nat) (on : Bool) : State :=
  { s with pins := { s.pins with dispValid := (if on then setBit s.pins.dispValid line else clrBit s.pins.dispValid line) } }

/-- The DISPVALID line of a record (R521): PROVISIONAL and PASS raise it for the frame in progress, any other status lowers
it. -/
def State.driveDisp (s : State) (rc : RouteCfg) (f status : Nat) : State :=
  if !bit rc.outs 2 || s.fld (R.TAP_T_STAT_FRAME rc.source) != f % 2 ^ 32 then s
  else s.setDispValid (rc.outs / 8 % 4) (status == vsPASS || status == vsPROVISIONAL)

/-- The first C0 PASS or SUBSTITUTED lifts the invalid marking and ends grace (R35, R39, R101). -/
def State.liftMarking (s : State) (cls status : Nat) : State :=
  if cls = 0 ∧ (status = vsPASS ∨ status = vsSUBSTITUTED) then
    (s.setFld R.DEVICE_STATE_INVALID 0).setFld R.DEVICE_STATE_GRACE 0
  else s

/-- A restart request for the accelerator (R428). -/
def State.requestRestart (s : State) (r f : Nat) : State :=
  let s := s.setFld R.HEARTH_STATUS_RSTATE 1
  let s := { s with jobs := { s.jobs with restart := { s.jobs.restart with posted := s.tb2 } } }
  (s.postEvent 0 2 (r + 65536 * (f % 2 ^ 32))).lose lostACCEL_RESTART

/-- What a committed C0 record does to the supervised restart (R428, R429). -/
def State.restartOnRecord (s : State) (rc : RouteCfg) (r f : Nat) (d : Decision) : State :=
  if rc.cls ≠ 0 then s
  else if d.status = vsPASS ∧ s.fld R.HEARTH_STATUS_RSTATE = 3 then
    let s := (s.setFld R.HEARTH_STATUS_RSTATE 0).setFld R.HEARTH_STATUS_FAILED 0
    let s := { s with jobs := { s.jobs with restart := ⟨0, 0, []⟩ } }
    (s.setFld R.HEARTH_WINTIME_ELAPSED 0).regain lostACCEL_RESTART
  else if (d.status = vsSUBSTITUTED ∨ d.noHearth) ∧ d.reason ≠ vrINPUT_LOST ∧ d.reason ≠ vrTAP_INVALID ∧
      s.fld R.HEARTH_STATUS_RSTATE = 0 then s.requestRestart r f
  else s

/-- The client counters that a record moves (R448). -/
def State.countFate (s : State) (rc : RouteCfg) (status : Nat) : State :=
  let c := rc.client - 1
  if status = vsLATE then s.satInc (R.VERD_CLIENT_LATE_COUNT c)
  else if status = vsSUBSTITUTED then
    (s.satInc (R.VERD_CLIENT_SUBST_COUNT c)).satInc (R.HEARTH_NET_SUBST rc.hearth)
  else s

/-- A device signaller of the running job (R452): the cores whose running slot belongs to a route that satisfies a test. -/
def State.signalRunning (s : State) (src : Nat) (p : Nat → Bool) : State :=
  s.iter 16 (fun n s => match (s.core n).slot with
    | some run => if p run.route then s.devSignal n src else s
    | none => s)

/-- Whether this device is the primary, or the standby, of a duplicated route (R680). -/
def State.dupPrimary (s : State) (r : Nat) : Bool :=
  s.hasNim && s.flag (R.NIM_DUP_VALID r) && s.fld (R.NIM_DUP_PRIMARY r) == s.fld R.NIM_CFG_SELF
def State.dupStandby (s : State) (r : Nat) : Bool :=
  s.hasNim && s.flag (R.NIM_DUP_VALID r) && s.fld (R.NIM_DUP_STANDBY r) == s.fld R.NIM_CFG_SELF && !s.dupPrimary r

/-- The frame a HAND_BACK of a route named, plus 1; 0 for none (R683). -/
def State.handedAt (s : State) (r : Nat) : Nat := SMap.get (fun _ => 0) s.nim.back r

/-- LOST.NIM_PARTNER clears once every duplicated route of this standby has been handed back (R683). -/
def State.partnerBack (s : State) : State :=
  if (List.range 64).any (fun r => s.dupStandby r && (s.flag (R.NIM_DUP_ACTIVE r) || s.departed (s.fld (R.NIM_DUP_PRIMARY r))))
  then s else s.regain lostNIM_PARTNER

/-- The boundary of a frame after the one that a HAND_BACK named: the standby is no longer active (R683). -/
def State.endHandBack (s : State) (r f : Nat) : State :=
  if !s.dupStandby r || s.handedAt r == 0 || f < s.handedAt r then s else
  let s := { s with nim := { s.nim with back := SMap.set (fun _ => 0) s.nim.back r 0 } }
  let s := s.setFld (R.NIM_DUP_ACTIVE r) 0
  if s.isLost lostNIM_PARTNER then s.partnerBack else s

/-- A record published on the outputs of its route, with RSTAT, SEQ and what follows from it (R421, R428, R448). -/
def State.publish (s : State) (rc : RouteCfg) (r : Nat) (fr : OpenFrame) (job : Option Job) (d : Decision)
    (replaces : Bool) : State :=
  let bytes := s.recordBytes rc r fr job d replaces
  let k := s.routeSt r
  let s := s.cvuRun 0 (bytes.take 60)
  let s := if s.dupPrimary r then s.setFld (R.NIM_DUP_LASTCLAIM r) fr.frame else s
  let s := ((((s.setFld (R.VERD_RSTAT_FRAME r) fr.frame).setFld (R.VERD_RSTAT_SEQ r) k.seq).setFld
    (R.VERD_RSTAT_REASON r) d.reason).setFld (R.VERD_RSTAT_STATUS r) d.status).setFld
    (R.VERD_RSTAT_SOURCE r) (if d.hearth then 1 else 0)
  let good := d.status = vsPASS ∨ d.status = vsSUBSTITUTED
  let s := s.setRouteSt r { k with
    seq := (k.seq + 1) % 2 ^ 16, lastStatus := d.status, sinceGood := if good then 0 else k.sinceGood }
  let s := if rc.cls = 0 ∧ bit rc.outs 1 then s.chainCommit (leAt bytes 60 4) else s
  let s := s.countFate rc d.status
  let s := if bit rc.outs 0 then s.ringWrite rc.client ⟨r, fr.frame, d.status, bytes⟩ else s
  let s := if bit rc.outs 1 then s.sendPaired rc.netpair nkVERDICT r (bytes ++ s.resultBytes rc job d) else s
  let s := (s.driveDisp rc fr.frame d.status).signalRunning 0x12 (· == r)
  (s.liftMarking rc.cls d.status).restartOnRecord rc r fr.frame d

/-- A frame of a route closed: its slot is freed, its inbox buffer unlocked, its job forgotten (R408, R446). -/
def State.closeFrame (s : State) (r f : Nat) : State :=
  let k := s.routeSt r
  let s := s.setRouteSt r { k with frames := k.frames.filter (·.frame ≠ f) }
  let s := s.setFld (R.VERD_RSTAT_PROV_OPEN r) 0
  { s with jobs := { s.jobs with
      jobs := s.jobs.jobs.filter (fun j => !(j.route == r && j.frame == f))
      inboxLock := SMap.set (fun _ => 0) s.jobs.inboxLock (2 * r + f % 2)
        (if SMap.get (fun _ => 0) s.jobs.inboxLock (2 * r + f % 2) = f + 1 then 0
          else SMap.get (fun _ => 0) s.jobs.inboxLock (2 * r + f % 2)) } }

/-- Whether verdicts are published at all: in SERVING and DEGRADED only (R34, R101). -/
def State.mayPublish (s : State) : Bool := s.serving

/-- Whether this device commits the frames of a route by itself: the standby of a duplicated route does so only when no CLAIM
arrives (R682). -/
def State.mayCommit (s : State) (r : Nat) : Bool := s.mayPublish && !s.dupStandby r

/-- A PROVISIONAL record committed at scan-out start (R432). -/
def State.commitProv (s : State) (rc : RouteCfg) (r : Nat) (fr : OpenFrame) (job : Option Job) : State :=
  if !s.mayCommit r then s else
  let s := s.publish rc r fr job ⟨vsPROVISIONAL, 0, 0, false, false⟩ false
  let k := s.routeSt r
  let s := s.setRouteSt r { k with
    frames := k.frames.map (fun x => if x.frame = fr.frame then { x with prov := some (s.tb2, 0) } else x) }
  s.setFld (R.VERD_RSTAT_PROV_OPEN r) 1

/-- The one further record of a PROVISIONAL (R415, R433). -/
def State.resolveProv (s : State) (rc : RouteCfg) (r : Nat) (fr : OpenFrame) (why : Nat) : State :=
  let d : Decision := if why = 0 then ⟨vsPASS, 0, 0, false, false⟩ else ⟨vsWITHDRAWN, why, 0, false, false⟩
  (s.publish rc r fr (s.job r fr.frame) d true).closeFrame r fr.frame

/-- The record of an open frame committed as decided now (R416, R417). A C1 or C2 frame without a job has no verdict slot and
gives no record (R30, R405, R446). A readmitted primary leaves the frames before the HAND_BACK's to the standby (R683). -/
def State.commitNow (s : State) (rc : RouteCfg) (r : Nat) (fr : OpenFrame) : State :=
  let j := s.job r fr.frame
  if (rc.cls ≠ 0 ∧ j.isNone = true) ∨ (s.dupPrimary r = true ∧ fr.frame + 1 < s.handedAt r) then s.closeFrame r fr.frame
  else (s.publish rc r fr j (s.decide rc r fr j) false).closeFrame r fr.frame

/-- As `commitNow`, where this device commits the route's frames by itself. -/
def State.commit (s : State) (rc : RouteCfg) (r : Nat) (fr : OpenFrame) : State :=
  if !s.mayCommit r then s else s.commitNow rc r fr

/-- Whether a frame's record may be committed before its deadline (R416, R445, R512, R519). -/
def State.commitReady (s : State) (rc : RouteCfg) (r : Nat) (fr : OpenFrame) : Bool :=
  match s.job r fr.frame with
  | none => rc.cls == 0 && rc.source < 8 && (match s.outcome rc.source fr.frame with
      | some o => o != obDISTINCT
      | none => false)
  | some j =>
    if rc.display then (s.windowsOutcome rc.source fr.frame j).isSome
    else if rc.source < 8 ∧ (match s.outcome rc.source fr.frame with
        | some o => o != obDISTINCT
        | none => false) = true then true
    else if j.refused then true
    else if !j.ended then false
    else
      let d := s.decide417 rc r fr (some j)
      if d.1 = vsPASS then 8 ≤ rc.source || s.outcome rc.source fr.frame == some obDISTINCT
      else !(rc.cls == 0 && rc.hearth != 0xFF) || s.hearthReady rc.hearth fr.frame

/-- VERDICT_COMMIT (R416, R420): the record of the oldest open frame, when it is this one and may be committed. -/
def execVerdictCommit (r : Fin 64) (f : Nat) (s : State) : Step :=
  .next (match s.route r, (s.routeSt r).frames with
    | some rc, fr :: _ =>
      if fr.frame = f ∧ fr.prov = none ∧ s.commitReady rc r fr = true then s.commit rc r fr else s
    | _, _ => s)

/-- The TB2 time of a frame's deadline (R401). -/
def OpenFrame.deadline (fr : OpenFrame) (rc : RouteCfg) : Nat := fr.start + 1000 * rc.deadline

/-- DEADLINE (R416, R418): at the deadline, 200 µs earlier for the primary of a duplicated route (R681), the record is committed at once, after those of earlier frames (R420). A
PROVISIONAL is left to its resolution (R433). -/
def execDeadline (r : Fin 64) (f : Nat) (s : State) : Step :=
  .next (match s.route r with
    | none => s
    | some rc =>
      match (s.routeSt r).frames.find? (fun fr => fr.frame == f) with
      | none => s
      | some fr =>
        if s.tb2 + (if s.dupPrimary r then 200000 else 0) < fr.deadline rc then s else
        ((s.routeSt r).frames.takeWhile (fun x => x.frame != f) ++ [fr]).foldl
          (fun s x => if x.prov = none then s.commit rc r x else s) s)

/-- PROV_TIMEOUT (R433): a PROVISIONAL unresolved 1,800 µs after its commit is withdrawn. -/
def execProvTimeout (r : Fin 64) (f : Nat) (s : State) : Step :=
  .next (match s.route r, s.openFrame r f with
    | some rc, some fr =>
      match fr.prov with
      | some (t, _) => if t + 1800000 ≤ s.tb2 ∧ s.mayPublish then s.resolveProv rc r fr vrPROV_TIMEOUT else s
      | none => s
    | _, _ => s)

/-! ### The Hearth -/

/-- R398: results of a core may be used when its last golden run passed in the frame of the result or the one before. -/
def State.goldenOk (s : State) (c f : Nat) : Bool :=
  s.flag (R.CORE_GOLDSTAT_OK c) &&
    (s.fld (R.CORE_GOLDSTAT_FRAME c) == f % 2 ^ 32 || (s.fld (R.CORE_GOLDSTAT_FRAME c) + 1) % 2 ^ 32 == f % 2 ^ 32)

/-- HEARTH_STAGE_DONE (R425): stage `st` of network `h`, run on core `c`, has completed a frame. Once every stage has, and
the tap frame is DISTINCT, the result is ready and its SRC code is signalled. The stage must be one whose passes have
ended (`execExit` records them); the reference frame of the golden run is that of the line-time tap. -/
def State.hearthCheck (s : State) (h f : Nat) : State :=
  match s.hearthCfg[h]? with
  | none => s
  | some (tap, stages) =>
    let k := SMap.get (fun _ => HearthSt.empty) s.jobs.hearth h
    let n := stages.length
    let all := (List.range n).all (fun i => SMap.get (fun _ => 0) k.done i == f + 1)
    if all && s.outcome tap f == some obDISTINCT then
      let s := (s.setFld R.HEARTH_STATUS_READY (setBit (s.fld R.HEARTH_STATUS_READY) h)).setFld (R.HEARTH_NET_FRAME h) f
      s.signalRunning 0x11 (fun r => match s.route r with
        | some rc => rc.hearth == h
        | none => false)
    else s

/-! ### Supervised accelerator restart (R429, R430) -/

/-- A restart window opens. -/
def State.openWindow (s : State) : State :=
  let s := s.setFld R.HEARTH_STATUS_RSTATE 2
  { s with jobs := { s.jobs with restart := { s.jobs.restart with opened := s.tb2 } } }

/-- RESTART_WINDOW_OPEN (R429): 100 ms after the request with no RESTART_BEGIN. -/
def execRestartWindowOpen (s : State) : Step :=
  .next (if s.fld R.HEARTH_STATUS_RSTATE = 1 ∧ s.jobs.restart.posted + 100000000 ≤ s.tb2 then s.openWindow else s)

/-- RESTART_WINDOW_END (R430): a window that ends without success is a failed restart; the third within the period is FATAL,
else a new request is posted, naming the last committed C0 record's route and frame. -/
def execRestartWindowEnd (r : Fin 64) (f : Nat) (s : State) : Step :=
  let st := s.fld R.HEARTH_STATUS_RSTATE
  .next (if (st = 2 ∨ st = 3) ∧ s.jobs.restart.opened + 1000000 * s.fld R.HEARTH_RESTARTCFG_WINDOW ≤ s.tb2 then
      let per := 1000000000 * s.fld R.HEARTH_RESTARTCFG_PERIOD
      let fails := s.jobs.restart.failedAt
      let fresh := match fails with
        | t :: _ => if s.tb2 ≤ t + per then fails ++ [s.tb2] else [s.tb2]
        | [] => [s.tb2]
      let s := { s with jobs := { s.jobs with restart := { s.jobs.restart with failedAt := fresh } } }
      let s := s.setFld R.HEARTH_WINTIME_ELAPSED 0
      if 3 ≤ fresh.length then s.fatal 0x09 r
      else (s.setFld R.HEARTH_STATUS_FAILED fresh.length).requestRestart r f
    else s)

/-- The counters of a client cleared (R448). -/
def State.clearClient (s : State) (c : Nat) : State :=
  s.iter 8 (fun i s => s.setReg (R.VERD_CLIENT_ACCEPTED c + 4 * i) 0)

end Sys2Proof.Machine
end

