-- ==== Sys2Proof/Machine/SafeIo.lean ====
section
/-! DEFINITION. The scan exchange, the safe inputs and the STO channels (R546–R553, R586–R605). The logic runs in both
channels on the same inputs; the model holds it once. -/
namespace Sys2Proof.Machine

/-! ### The parameter set in force (R587) -/

/-- A field of the parameter set in force. -/
def State.pset (s : State) (off n : Nat) : Nat := leAt s.param.set off n

/-- CTRL, FILTER and DISCREP of a pair. -/
def State.pairCtl (s : State) (i : Nat) : Nat := s.pset (0x10 + 8 * i) 1
def State.pairFilter (s : State) (i : Nat) : Nat := s.pset (0x12 + 8 * i) 2
def State.pairDiscrep (s : State) (i : Nat) : Nat := s.pset (0x14 + 8 * i) 2

/-- CTRL, PAIRS, ROUTE, AGE and OT_SCANS of a channel. -/
def State.chCtl (s : State) (c : Nat) : Nat := s.pset (0x50 + 8 * c) 1
def State.chPairs (s : State) (c : Nat) : Nat := s.pset (0x51 + 8 * c) 1
def State.chRoute (s : State) (c : Nat) : Nat := s.pset (0x52 + 8 * c) 1
def State.chAge (s : State) (c : Nat) : Nat := s.pset (0x53 + 8 * c) 1
def State.chOt (s : State) (c : Nat) : Nat := s.pset (0x54 + 8 * c) 4

/-- The parameter digest (R589). -/
def State.pdigest (s : State) : List Byte := Config.sha384 s.param.set

/-- Whether channel A uses the set: loaded with the Reeve's digest (R586, R589). -/
def State.paramOk (s : State) : Bool := s.flag R.SAFEIO_STATUS_PARAM_OK

/-- The SITP outputs outside pulses (R593): high for every contact of every enabled pair once a set is in use. -/
def State.sitpMask (s : State) : Nat :=
  if s.paramOk then ((List.range 8).map (fun i => if bit (s.pairCtl i) 0 then 2 ^ i else 0)).sum else 0

/-- The SITP outputs driven to their levels outside pulses. -/
def State.driveSitp (s : State) : State := { s with pins := { s.pins with sitpA := s.sitpMask, sitpB := s.sitpMask } }

/-- The bit of a contact in SIN_RAW (R547): A of pair i is bit i, B is bit 8 + i. -/
def sinBit (k : Nat) : Nat := k / 2 + 8 * (k % 2)

/-- The filtered state of a contact. -/
def fFilt (k : Nat) : Fld := if k % 2 = 0 then R.SAFEIO_PAIRSTAT_A_ON (k / 2) else R.SAFEIO_PAIRSTAT_B_ON (k / 2)

/-! ### RUN and PERMIT (R597) -/

/-- PERMIT[c]. -/
def State.permit (s : State) (c : Nat) : Bool :=
  let k := s.routeSt (s.chRoute c)
  s.serving && !s.flag R.DEVICE_STATE_INVALID &&
    (!bit (s.chCtl c) 3 || ((k.lastStatus == vsPASS || k.lastStatus == vsSUBSTITUTED) && k.sinceGood ≤ s.chAge c))

/-- PERMIT[3:0]. -/
def State.permits (s : State) : Nat := ((List.range 4).map (fun c => if s.permit c then 2 ^ c else 0)).sum

/-- A write of SAFEIO.RUN: PF0 and level M only (R597); another master's is discarded and recorded (R20, log entry 35). -/
def State.writeRun (s : State) (m : Master) (v : Nat) : State × Bool :=
  match m with
  | .fn 0 => (s.setFld R.SAFEIO_RUN_RUN v, false)
  | .core _ _ .m => (s.setFld R.SAFEIO_RUN_RUN v, false)
  | _ => (s, true)

/-! ### The strobe (R546, R596, R601, R603) -/

/-- A channel's readback and switches at a strobe, before the switches change (R601): a readback that differs from the drive
at two strobes in a row is an output fault, except at the first strobe after a change. -/
def State.checkReadback (s : State) (c : Nat) : State :=
  let rb := s.sio.rawA / 65536
  let hs := bit rb c
  let ls := bit rb (4 + c)
  let s := (s.setFld (R.SAFEIO_CHSTAT_RBH c) (if hs then 1 else 0)).setFld (R.SAFEIO_CHSTAT_RBL c) (if ls then 1 else 0)
  let n := if hs ∨ ls then 0 else SMap.get (fun _ => 0) s.sio.off c + 1
  let s := { s with sio := { s.sio with off := SMap.set (fun _ => 0) s.sio.off c n } }
  let look := fun (s : State) (b : Nat) (on drv : Bool) (code : Nat) =>
    let wrong := !bit s.sio.fresh c && on != drv
    let was := bit s.sio.bad b
    let s := { s with sio := { s.sio with bad := (if wrong then setBit s.sio.bad b else clrBit s.sio.bad b) } }
    if wrong && was && !s.flag (R.SAFEIO_CHSTAT_FAULT c) then
      (s.setFld (R.SAFEIO_CHSTAT_FAULT c) 1).setFld (R.SAFEIO_CHSTAT_FCODE c) code
    else s
  let s := look s c hs (s.flag (R.SAFEIO_CHSTAT_HS_ON c)) 1
  look s (4 + c) ls (s.flag (R.SAFEIO_CHSTAT_LS_ON c)) 2

/-- Whether an output test of a switch of channel `c` falls in scan `n`: 4c + 1 for the high side, 4c + 3 for the low. -/
def State.otDue (s : State) (n c low : Nat) : Bool :=
  bit (s.chCtl c) 2 && s.chOt c != 0 && n % s.chOt c == 4 * c + 1 + 2 * low

/-- The switches of channel `c` driven at the strobe of scan `n` (R596, R603, R604). While grace is in force the Reeve keeps the
low side in its last state (R38, R98), also when the Reeve link is up again (log entry 163). -/
def State.applySto (s : State) (n c : Nat) : State :=
  let cmd := s.flag (R.SAFEIO_CHSTAT_CMD c) && s.serving && s.paramOk
  let tH := s.otDue n c 0
  let tL := s.otDue n c 1
  let s := if (tH ∨ tL) ∧ !cmd then s.satInc (R.SAFEIO_CHSTAT_OTSKIP c) else s
  let was := (s.flag (R.SAFEIO_CHSTAT_HS_ON c), s.flag (R.SAFEIO_CHSTAT_LS_ON c))
  let hs := cmd && !tH
  let ls := if s.flag R.DEVICE_STATE_GRACE then was.2 else cmd && !tL
  let b := fun (x : Bool) => if x then 1 else 0
  let s := ((s.setFld (R.SAFEIO_CHSTAT_HS_ON c) (b hs)).setFld (R.SAFEIO_CHSTAT_LS_ON c) (b ls)).setFld
    (R.SAFEIO_CHSTAT_TESTING c) (b (cmd && (tH || tL)))
  let put := fun (x i : Nat) (on : Bool) => if on then setBit x i else clrBit x i
  let t := put (put s.sio.test c (cmd && tH)) (4 + c) (cmd && tL)
  let s := { s with
    sio := { s.sio with test := t, fresh := put s.sio.fresh c (was != (hs, ls)) }
    pins := { s.pins with stoHs := put s.pins.stoHs c hs, stoLs := put s.pins.stoLs c ls } }
  let d := s.fld R.SAFEIO_STATUS_DRIVE
  s.setFld R.SAFEIO_STATUS_DRIVE (put d c (hs && ls))

/-- SCAN_STROBE (R546, R596, R597, R601, R603): channel B's strobe. Both channels sample, the announced RUN and PERMIT are
those received before it, the readbacks are checked and the commands of the last scan applied. In TRIPPED it only counts.
`rawA` and `rawB` are the sampled balls: bits 15–0 SIN_RAW, bits 23–16 RB_RAW. -/
def execScanStrobe (rawA rawB : BitVec 24) (s : State) : Step :=
  .next (if !s.reeve.running || !s.reeve.linkUp then s else
    let s := s.wrapInc R.SAFETY_SCANSTAT_SCAN
    let s := { s with sio := { s.sio with rawA := rawA.toNat, rawB := rawB.toNat, due := 3, missed := false } }
    if s.st = stTRIPPED then s else
    let s := { s with sio := { s.sio with run := s.fld R.SAFEIO_RUN_RUN, permit := s.permits } }
    let s := s.setFld R.SAFEIO_RUN_PERMIT s.permits
    let s := s.driveSitp
    let n := s.fld R.SAFETY_SCANSTAT_SCAN
    (s.iter 4 (fun c s => s.checkReadback c)).iter 4 (fun c s => s.applySto n c))

/-! ### Filtering, pairs and the command (R590–R592, R595, R596, R598) -/

/-- A contact's filter over one more agreed level (R590). -/
def State.filterContact (s : State) (agreed k : Nat) : State :=
  let lv := bit agreed k
  let f := s.flag (fFilt k)
  let n := SMap.get (fun _ => 0) s.sio.cnt k + 1
  let s := { s with sio := { s.sio with used := (if lv then setBit s.sio.used k else clrBit s.sio.used k) } }
  let put := fun (s : State) (n : Nat) => { s with sio := { s.sio with cnt := SMap.set (fun _ => 0) s.sio.cnt k n } }
  if lv = f then put s 0
  else if s.pairFilter (k / 2) ≤ n then put (s.setFld (fFilt k) (if lv then 1 else 0)) 0
  else put s n

/-- Whether a contact demands ON (R592). -/
def State.demands (s : State) (k : Nat) : Bool :=
  s.flag (fFilt k) != (bit (s.pairCtl (k / 2)) 1 && k % 2 == 1)

/-- A pair fault raised (R592, R594): what clears it counts from now on (R595). -/
def State.pairFault (s : State) (i code : Nat) : State :=
  let s := (s.setFld (R.SAFEIO_PAIRSTAT_FAULT i) 1).setFld (R.SAFEIO_PAIRSTAT_FCODE i) code
  { s with sio := { s.sio with
      quiet := SMap.set (fun _ => 0) s.sio.quiet i 0, passed := clrBit (clrBit s.sio.passed (2 * i)) (2 * i + 1) } }

/-- A pair after the filters of a scan: discrepancy and its fault, and the clearing of a fault (R592, R595). -/
def State.pairStep (s : State) (i : Nat) : State :=
  let a := s.demands (2 * i)
  let b := s.demands (2 * i + 1)
  let en := bit (s.pairCtl i) 0
  let fl := s.flag (R.SAFEIO_PAIRSTAT_FAULT i)
  let disc := a != b
  let n : Nat := SMap.get (fun _ => 0) s.sio.disc i
  let n : Nat := if !disc then 0 else if fl then n else n + 1
  let s := { s with sio := { s.sio with disc := SMap.set (fun _ => 0) s.sio.disc i n } }
  let s := (s.setFld (R.SAFEIO_PAIRSTAT_DISC i) (if disc then 1 else 0)).setFld (R.SAFEIO_PAIRSTAT_DISC_MS i) (min (n / 10) 255)
  if fl then
    let q : Nat := SMap.get (fun _ => 0) s.sio.quiet i
    let q : Nat := if s.pairFilter i ≤ q then q else if a || b then 0 else q + 1
    let s := { s with sio := { s.sio with quiet := SMap.set (fun _ => 0) s.sio.quiet i q } }
    let tested : Nat → Bool := fun j => !bit (s.pairCtl i) (2 + j) || bit s.sio.passed (2 * i + j)
    let pulses : Bool := s.fld (R.SAFEIO_PAIRSTAT_FCODE i) != 2 || (tested 0 && tested 1)
    if s.pairFilter i ≤ q ∧ pulses = true then
      let s := (s.setFld (R.SAFEIO_PAIRSTAT_FAULT i) 0).setFld (R.SAFEIO_PAIRSTAT_FCODE i) 0
      { s with sio := { s.sio with disc := SMap.set (fun _ => 0) s.sio.disc i 0 } }
    else s
  else if en && disc && 10 * s.pairDiscrep i ≤ n then s.pairFault i 1
  else s

/-- Whether a pair is ON (R591). -/
def State.pairOn (s : State) (i : Nat) : Bool :=
  bit (s.pairCtl i) 0 && !s.flag (R.SAFEIO_PAIRSTAT_FAULT i) && s.demands (2 * i) && s.demands (2 * i + 1)

/-- The first failing term of R596 for a channel, without the interlock; 0 when every term holds. -/
def State.stoTerm (s : State) (c : Nat) : Nat :=
  if !bit (s.chCtl c) 0 then 1
  else if !(List.range 8).all (fun i => !bit (s.chPairs c) i || s.pairOn i) then 2
  else if !bit s.sio.run c then 3
  else if !bit s.sio.permit c then 4
  else if s.flag (R.SAFEIO_CHSTAT_FAULT c) then 5
  else 0

/-- STO_CMD[c] computed for a scan, with the interlock (R596, R598). -/
def State.computeSto (s : State) (c : Nat) : State :=
  let why := s.stoTerm c
  let lock := bit (s.chCtl c) 1
  let il := s.flag (R.SAFEIO_CHSTAT_ILOCK c)
  let put := fun (s : State) (b : Bool) =>
    { s with sio := { s.sio with zero := (if b then setBit s.sio.zero c else clrBit s.sio.zero c) } }
  let set := fun (s : State) (cmd why il : Nat) =>
    let d := s.fld R.SAFEIO_STATUS_CMD
    ((((s.setFld (R.SAFEIO_CHSTAT_CMD c) cmd).setFld (R.SAFEIO_CHSTAT_OFFWHY c) why).setFld (R.SAFEIO_CHSTAT_ILOCK c) il)).setFld
      R.SAFEIO_STATUS_CMD (if cmd = 1 then setBit d c else clrBit d c)
  if !lock then set (put s false) (if why = 0 then 1 else 0) why 0
  else if why = 0 ∧ (!il ∨ bit s.sio.zero c) then set (put s false) 1 0 0
  else
    let zero := (il && bit s.sio.zero c) || !bit s.sio.run c
    set (put s zero) 0 (if why = 0 then 6 else why) 1

/-- The filters, pairs and commands of a scan. `agreed` holds the agreed levels, or none when the record is missing and the
filters stand still (R590, R596). -/
def State.scanLogic (s : State) (agreed : Option Nat) : State :=
  let s := match agreed with
    | some lv => (s.iter 16 (fun k s => s.filterContact lv k)).iter 8 (fun i s => s.pairStep i)
    | none => s
  let mask := fun (p : Nat → Bool) (n : Nat) => ((List.range n).map (fun i => if p i then 2 ^ i else 0)).sum
  let s := (s.setFld R.SAFEIO_STATUS_PAIR_ON (mask s.pairOn 8)).setFld R.SAFEIO_STATUS_PAIR_FAULT
    (mask (fun i => s.flag (R.SAFEIO_PAIRSTAT_FAULT i)) 8)
  let s := s.iter 4 (fun c s => s.computeSto c)
  s.setFld R.SAFEIO_STATUS_OUTFAULT (mask (fun c => s.flag (R.SAFEIO_CHSTAT_FAULT c)) 4)

/-! ### The records (R547, R549, R552) -/

/-- The fields of a channel's own record that are compared, by offset and size, with the two raw fields last. -/
def State.ownFields (s : State) (b : Bool) : List (Nat × Nat × Nat) :=
  let scan := s.fld R.SAFETY_SCANSTAT_SCAN
  let ch := (if b then s.sio.chainB else s.sio.chainA).upTo (scan - 3)
  [(0x0C, 1, s.fld R.SAFEIO_STATUS_PAIR_ON), (0x0D, 1, s.fld R.SAFEIO_STATUS_PAIR_FAULT), (0x0E, 1, s.fld R.SAFEIO_STATUS_CMD),
   (0x10, 4, leNat (s.pdigest.take 4)), (0x14, 4, ch.value), (0x18, 4, ch.count), (0x1C, 4, (scan + 2 ^ 32 - 3) % 2 ^ 32)]

/-- The 24 sampled bits that a record carries. -/
def recRaw (rec : List Byte) : Nat := leAt rec 8 2 + 65536 * leAt rec 0x0A 1

/-- A disagreement found by a channel: recorded and a TRIP (R549, R555). -/
def State.scanDiff (s : State) (b : Bool) (off : Nat) : State :=
  let s := (((s.setFld R.SAFETY_SCANDIFF_VALID 1).setFld R.SAFETY_SCANDIFF_CHANNEL (if b then 1 else 0)).setFld
    R.SAFETY_SCANDIFF_OFFSET off).setFld R.SAFETY_SCANDIFF_SCAN (s.fld R.SAFETY_SCANSTAT_SCAN)
  s.trip 3 0 b

/-- The offset of the first field in which the other channel's record disagrees (R549): compared fields, then STO_DRIVE
against STO_CMD outside output tests and grace, which holds STO_LS (log entry 163), then a sample discrepancy repeated from the
last scan. -/
def State.firstDiff (s : State) (b : Bool) (rec : List Byte) : Option Nat :=
  match (s.ownFields b).find? (fun f => leAt rec f.1 f.2.1 != f.2.2) with
  | some f => some f.1
  | none =>
    let cmd := leAt rec 0x0E 1
    let drv := leAt rec 0x0F 1
    let t := s.sio.test
    if !s.flag R.DEVICE_STATE_GRACE && (List.range 4).any (fun c => bit cmd c != bit drv c && !bit t c && !bit t (4 + c)) then some 0x0F
    else
      let own := if b then s.sio.rawB else s.sio.rawA
      let d := nxor own (recRaw rec)
      let prev := if b then s.sio.diff / 2 ^ 24 else s.sio.diff % 2 ^ 24
      if (List.range 16).any (fun k => bit d k && bit prev k) then some 8
      else if (List.range 8).any (fun k => bit d (16 + k) && bit prev (16 + k)) then some 0x0A
      else none

/-- The discrepancies of this scan kept for the next. -/
def State.keepDiff (s : State) (b : Bool) (d : Nat) : State :=
  { s with sio := { s.sio with diff :=
      (if b then s.sio.diff % 2 ^ 24 + 2 ^ 24 * d else s.sio.diff / 2 ^ 24 * 2 ^ 24 + d) } }

/-- A channel has dealt with this scan's record. -/
def State.scanDone (s : State) (b : Bool) : State := { s with sio := { s.sio with due := clrBit s.sio.due (if b then 1 else 0) } }

/-- Loss of the other channel (R99, R552, R555): the Verifier trips; the Reeve acts on the state it last received. -/
def State.lostVerifier (s : State) : State :=
  let s := { s with reeve := { s.reeve with linkUp := false } }
  if s.reeve.lastState = stSERVING ∨ s.reeve.lastState = stDEGRADED then
    (if s.dev.announced then s else s.trip 4 0 true)
  else s

/-- A record missing at a channel (R552): counted; two in a row are the loss of the other channel. -/
def State.recordMissing (s : State) (b : Bool) : State :=
  let s := (s.satInc R.SAFETY_SCANSTAT_MISSED).scanDone b
  if s.st = stTRIPPED then s
  else if b then
    let n := s.reeve.missB + 1
    let s := { s with reeve := { s.reeve with missB := n } }
    if 2 ≤ n then s.lostVerifier else s
  else
    let n := s.reeve.missA + 1
    let s := { s with reeve := { s.reeve with missA := n }, sio := { s.sio with missed := true } }
    let s := s.scanLogic none
    if 2 ≤ n then s.trip 4 0 false else s

/-- Whether channel `b` still waits for the record of this scan. -/
def State.scanWaits (s : State) (b : Bool) : Bool := bit s.sio.due (if b then 1 else 0)

/-- SCAN_RECORD (R549, R550, R552): the other channel's record of this scan reaches channel A, or B when `b`. One that is
not whole or has a bad CRC is missing; one of another scan is ignored. Channel B suspends the comparison in grace (R553). -/
def execScanRecord (b : Bool) (rec : List Byte) (s : State) : Step :=
  .next (if !s.scanWaits b || !s.reeve.linkUp then s
    else if rec.length ≠ 128 ∨ leAt rec 0x7C 4 ≠ crc32 (rec.take 0x7C) then s.recordMissing b
    else if leAt rec 0 4 ≠ s.fld R.SAFETY_SCANSTAT_SCAN then s
    else if s.st = stTRIPPED then s.scanDone b
    else
      let s := s.scanDone b
      if b ∧ s.flag R.DEVICE_STATE_GRACE then s else
      match s.firstDiff b rec with
      | some off => s.scanDiff b off
      | none =>
        let own := if b then s.sio.rawB else s.sio.rawA
        let d := nxor own (recRaw rec)
        let s := s.keepDiff b d
        let scan := s.fld R.SAFETY_SCANSTAT_SCAN
        if b then
          { s with
            sio := { s.sio with chainB := s.sio.chainB.upTo (scan - 3) }
            reeve := { s.reeve with missB := 0, lastState := leAt rec 4 1 } }
        else
          let s := { s with
            sio := { s.sio with chainA := s.sio.chainA.upTo (scan - 3) }
            reeve := { s.reeve with missA := 0 } }
          let s := s.satAdd R.SAFETY_SCANSTAT_SINGLE (((List.range 24).filter (bit d)).length)
          let agreed := ((List.range 16).map (fun k =>
            let j := sinBit k
            if (if bit d j then bit s.sio.used k else bit own j) then 2 ^ k else 0)).sum
          s.scanLogic (some agreed))

/-- SCAN_RECORD_MISSING (R552). -/
def execScanRecordMissing (b : Bool) (s : State) : Step :=
  .next (if s.scanWaits b && s.reeve.linkUp then s.recordMissing b else s)

/-! ### Test pulses and output tests (R593, R594, R603, R604) -/

/-- TEST_PULSE (R593): the supply of contact `k` is switched off in its due scan. -/
def execTestPulse (k : Fin 16) (s : State) : Step :=
  let i := k.val / 2
  let n := s.fld R.SAFETY_SCANSTAT_SCAN
  let per := s.pset 0x0E 2
  .next (if s.paramOk && bit (s.pairCtl i) 0 && bit (s.pairCtl i) (2 + k.val % 2) && per != 0 && n % per == k.val &&
      s.st != stTRIPPED then
      let p := if k.val % 2 = 0 then { s.pins with sitpA := clrBit s.pins.sitpA i }
        else { s.pins with sitpB := clrBit s.pins.sitpB i }
      { s with pins := p, sio := { s.sio with pulse := some k.val } }
    else s)

/-- TEST_PULSE_EVALUATE (R594): the evaluation sample of the pulse in progress; then the supply returns. -/
def execTestPulseEvaluate (k : Fin 16) (readsOn : Bool) (s : State) : Step :=
  let i := k.val / 2
  .next (if s.sio.pulse ≠ some k.val then s else
    let s := ({ s with sio := { s.sio with pulse := none } }).driveSitp
    if s.sio.missed || bit s.sio.due 0 || !bit s.sio.used k then s.satInc (R.SAFEIO_PAIRSTAT_TPSKIP i)
    else if readsOn then (s.satInc (R.SAFEIO_PAIRSTAT_TPFAIL i)).pairFault i 2
    else { s with sio := { s.sio with passed := setBit s.sio.passed k } })

/-- OUTPUT_TEST_SAMPLE (R603, R604): the readback of a switch opened for its test; a switch that still conducts is an output
fault. A test whose channel's command has gone to 0 is abandoned. -/
def execOutputTestSample (c : Fin 4) (low : Bool) (conducts : Bool) (s : State) : Step :=
  let b := c.val + (if low then 4 else 0)
  .next (if !bit s.sio.test b || !s.flag (R.SAFEIO_CHSTAT_CMD c) || !conducts || s.flag (R.SAFEIO_CHSTAT_FAULT c) then s
    else
      let s := (s.setFld (R.SAFEIO_CHSTAT_FAULT c) 1).setFld (R.SAFEIO_CHSTAT_FCODE c) (if low then 2 else 1)
      s.fldBitSet R.SAFEIO_STATUS_OUTFAULT c)

end Sys2Proof.Machine
end

