-- ==== Sys2Proof/Machine/Settings.lean ====
section
/-! DEFINITION. The settings store: images, their checks, which bank is in force, loading, STORE, the monotonic counters and
the log (R747–R767, R791, R792). -/
namespace Sys2Proof.Machine

/-! ### Layouts (R791) -/

/-- Registers at regular steps: image offset, register offset, count, steps of both. -/
def regSeq (img reg n istep rstep : Nat) : List (Nat × Nat) :=
  (List.range n).map (fun i => (img + i * istep, reg + i * rstep))

/-- The registers whose images a setting holds, with their offsets in it (R791). -/
def settingRegs (id : Nat) : List (Nat × Nat) :=
  match id with
  | 0x12 => regSeq 0 R.PART_VFCLASS 1 4 4 ++ [(4, R.PART_BWDRAM), (8, R.PART_BWNOC), (12, R.PART_BWPCIE)] ++
      regSeq 16 (R.PART_FENCE 0) 32 8 8 ++ [(272, R.PWR_CFG)]
  | 0x13 => ((List.range 16).map (fun n => (264 * n, R.CORE_SLOTCFG n) :: regSeq (264 * n + 8) (R.CORE_SLOT n 0) 32 8 8)).flatten
  | 0x14 => regSeq 0 (R.MEMC_RGN 0) 16 8 8
  | 0x17 => regSeq 0 (R.BELL_BAR 0) 64 8 8
  | 0x21 => ((List.range 12).map (fun k => regSeq (24 * k) (R.TAP_T_CFG k) 6 4 4)).flatten ++ regSeq 288 (R.TAP_RING 0) 8 8 0x10
  | 0x22 => ((List.range 4).map (fun d => regSeq (128 * d) (R.TAP_WIN d 0) 16 8 8)).flatten ++ regSeq 512 (R.TAP_EXP 0 0 0) 1024 4 4
  | 0x23 => regSeq 0 (R.TAP_CHIME_A 0) 16 16 16 ++ regSeq 8 (R.TAP_CHIME_B 0) 16 16 16
  | 0x24 => [(0, R.TAP_TDMCFG)]
  | 0x30 => [(0, R.SAFETY_CFG)]
  | 0x31 => [(0, R.WATCH_LADDER)]
  | 0x40 => [(0, R.SUNDIAL_SERVO), (4, R.SUNDIAL_SLEW), (8, R.SUNDIAL_DOMAIN), (12, R.SUNDIAL_RINGGM)]
  | 0x41 => ((List.range 6).map (fun p => regSeq (12 * p) (R.SUNDIAL_PORT_INGLAT p) 3 4 4)).flatten
  | 0x42 => ((List.range 2).map (fun m => [(12 * m, R.ETH_M_CFG m), (12 * m + 4, R.ETH_M_CBS5 m), (12 * m + 8, R.ETH_M_CBS6 m)])).flatten
  | 0x43 => ((List.range 4).map (fun c => regSeq (12 * c) (R.CAN_C_CFG c) 3 4 4)).flatten
  | 0x44 => ((List.range 16).map (fun t => [(16 * t, R.ETH_S_CFG t), (16 * t + 8, R.ETH_S_RING t)])).flatten
  | 0x50 => (0, R.NIM_CFG) :: regSeq 8 (R.NIM_MEMBER_ID 0) 16 8 0x10
  | 0x51 => regSeq 0 (R.NIM_DUP 0) 64 8 8
  | 0x60 => ((List.range 2).map (fun p => [(24 * p, R.PCIE_P_OBBASE p), (24 * p + 8, R.PCIE_P_INBOXBASE p),
      (24 * p + 16, R.PCIE_P_CPLTO p)])).flatten
  | _ => []

/-- The LENGTH that a setting must have; none when its layout is not given or varies (R791; ROUTES by R401). -/
def settingLen (id : Nat) : Option Nat :=
  match id with
  | 0x12 => some 280 | 0x13 => some 4224 | 0x14 => some 128 | 0x17 => some 512 | 0x21 => some 352 | 0x22 => some 4608
  | 0x23 => some 256 | 0x34 => some 48 | 0x40 => some 16 | 0x41 => some 72 | 0x42 => some 24 | 0x43 => some 48
  | 0x44 => some 256 | 0x50 => some 136 | 0x51 => some 608 | 0x60 => some 48 | 0x32 => some 8 | 0x33 => some 8
  | 0x01 => some 4 | 0x15 => some 4 | 0x16 => some 4 | 0x18 => some 4 | 0x1A => some 4 | 0x1B => some 4 | 0x1C => some 4
  | 0x1D => some 4 | 0x20 => some 4 | 0x24 => some 4 | 0x30 => some 4 | 0x31 => some 4
  | _ => none

/-- The identifiers of R750. -/
def settingIds : List Nat :=
  [0x01, 0x02, 0x03, 0x04, 0x10, 0x11, 0x12, 0x13, 0x14, 0x15, 0x16, 0x17, 0x18, 0x19, 0x1A, 0x1B, 0x1C, 0x1D, 0x20, 0x21, 0x22,
   0x23, 0x24, 0x25, 0x30, 0x31, 0x32, 0x33, 0x34, 0x40, 0x41, 0x42, 0x43, 0x44, 0x50, 0x51, 0x60]

/-- The settings that a bank must contain (R792). -/
def requiredIds : List Nat :=
  [0x02, 0x03, 0x10, 0x12, 0x13, 0x14, 0x1A, 0x20, 0x21, 0x30, 0x32, 0x33, 0x34, 0x60]

/-- The bits of a register that its RO and reserved fields do not cover. -/
def loadMask : List FieldRow → Nat
  | [] => 0
  | f :: t => (if f.acc = .ro then 0 else (2 ^ f.w - 1) * 2 ^ f.lo) + loadMask t

/-- Whether the register at an offset belongs to a unit that the variant lacks (R3–R5, R7). -/
def State.absent (s : State) (off : Nat) : Bool :=
  let pg := off / 0x10000
  let o := off % 0x10000
  if 0x20 ≤ pg ∧ pg < 0x30 then !s.hasCore (pg - 0x20)
  else if 0x30 ≤ pg ∧ pg < 0x34 then !s.hasPond (pg - 0x30)
  else if pg = 0x0D then !s.hasPortB
  else if pg = 0x10 then !s.hasNim
  else if pg = 0x04 then !s.hasNim && 0x320 ≤ o && o < 0x360
  else if pg = 0x09 then !s.hasDisp && ((0x400 ≤ o && o < 0x500) || (0x800 ≤ o && o < 0x2000))
  else false

/-- A register image within a setting. -/
def imgWord (c : List Byte) (off : Nat) (r : RegRow) : Nat := leAt c off (if r.wide then 8 else 4)

/-- Whether a register image meets R791: RO and reserved fields 0, and no unit switched on that the variant lacks. -/
def State.imgOk (s : State) (c : List Byte) (p : Nat × Nat) : Bool :=
  match regAt p.2 with
  | none => false
  | some (r, _) =>
    let v := imgWord c p.1 r
    (v &&& loadMask r.fields) == v &&
    (!s.absent p.2 || r.fields.all (fun f => !(f.name == "VALID" || f.name == "EN" || f.name == "COUNT") ||
      v / 2 ^ f.lo % 2 ^ f.w == 0))

/-- A field of a register image in a set of settings; 0 when the setting is absent. -/
def stFld (st : Nat → List Byte) (id : Nat) (f : Fld) : Nat :=
  match (settingRegs id).find? (fun p => p.2 == f.off) with
  | none => 0
  | some p => leAt (st id) p.1 8 / 2 ^ f.lo % 2 ^ f.w

/-! ### The rules that make a bank not good (check 7 of R752) -/

/-- Whether every MiB of a range of DRAM lies in valid regions that satisfy a test; `n` bounds the regions crossed. -/
def rangeIn (rg : List (Nat × Nat)) (lo hi : Nat) : Nat → Bool
  | 0 => false
  | n + 1 =>
    if hi ≤ lo then true else
    match rg.find? (fun r => r.1 ≤ lo && lo < r.2) with
    | none => false
    | some r => rangeIn rg r.2 hi n

/-- The valid regions of a MEM_REGIONS setting as byte ranges [lo, hi), with MIRROR and CRYPT. -/
def rgnsOf (st : Nat → List Byte) : List (Nat × Nat × Bool × Bool) :=
  (List.range 16).filterMap (fun n =>
    let f := stFld st 0x14
    if f (R.MEMC_RGN_VALID n) = 1 then
      some (f (R.MEMC_RGN_BASE n) * 2 ^ 20, (f (R.MEMC_RGN_BASE n) + f (R.MEMC_RGN_SIZE n)) * 2 ^ 20,
        f (R.MEMC_RGN_MIRROR n) == 1, f (R.MEMC_RGN_CRYPT n) == 1)
    else none)

/-- The valid fence regions of a PARTITIONS setting: owner and byte range [lo, hi). -/
def fencesOf (st : Nat → List Byte) : List (Nat × Nat × Nat) :=
  (List.range 32).filterMap (fun n =>
    let f := stFld st 0x12
    if f (R.PART_FENCE_VALID n) = 1 then
      some (f (R.PART_FENCE_OWNER n), f (R.PART_FENCE_BASE n) * 2 ^ 12, (f (R.PART_FENCE_LIMIT n) + 1) * 2 ^ 12)
    else none)

/-- Whether two byte ranges overlap. -/
def overlaps (a b : Nat × Nat) : Bool := a.1 < b.2 && b.1 < a.2 && a.1 < a.2 && b.1 < b.2

/-- Whether no two entries of a list are in a relation. -/
def noPair {α : Type} (p : α → α → Bool) : List α → Bool
  | [] => true
  | a :: t => !t.any (p a) && noPair p t

/-- R171 and R696: the region table. -/
def regionRules (st : Nat → List Byte) : Bool :=
  let rg := rgnsOf st
  let rng := fun (r : Nat × Nat × Bool × Bool) => (r.1, r.2.1)
  noPair (fun a b => overlaps (rng a) (rng b)) rg &&
  rg.all (fun r => 2 ^ 20 ≤ r.2.1 - r.1 && r.2.1 - r.1 ≤ 7168 * 2 ^ 20) &&
  rg.all (fun r => !r.2.2.1 || (r.2.1 ≤ 0xE0000000 &&
    rg.all (fun q => !overlaps (r.1 + 0x100000000, r.2.1 + 0x100000000) (rng q)))) &&
  (fencesOf st).all (fun f => 0x200000000 ≤ f.2.1 ||
    ((f.1 ≠ 0 || rangeIn ((rg.filter (·.2.2.1)).map rng) f.2.1 (min f.2.2 0x200000000) 17) &&
      rangeIn ((rg.filter (·.2.2.2)).map rng) f.2.1 (min f.2.2 0x200000000) 17))

/-- R439 and R440: fences of different classes do not overlap, and the floors. -/
def partRules (st : Nat → List Byte) : Bool :=
  let fl := fun a b => stFld st 0x12 a + stFld st 0x12 b ≤ 0xE6 && stFld st 0x12 a != 0
  noPair (fun a b => a.1 != b.1 && overlaps a.2 b.2) (fencesOf st) && (fencesOf st).all (fun f => f.1 ≤ 2) &&
  fl R.PART_BWDRAM_C0_FLOOR R.PART_BWDRAM_C1_FLOOR && fl R.PART_BWNOC_C0_FLOOR R.PART_BWNOC_C1_FLOOR &&
  fl R.PART_BWPCIE_C0_FLOOR R.PART_BWPCIE_C1_FLOOR

/-- The valid slots of core `n`: index, start, length, class, pass 2, program. -/
def slotsOf (st : Nat → List Byte) (n : Nat) : List (Nat × Nat × Nat × Bool × Nat) :=
  (List.range 32).filterMap (fun i =>
    let f := stFld st 0x13
    if f (R.CORE_SLOT_VALID n i) = 1 then
      some (f (R.CORE_SLOT_START n i), f (R.CORE_SLOT_LENGTH n i), f (R.CORE_SLOT_CLASS n i), f (R.CORE_SLOT_PASS2 n i) == 1,
        f (R.CORE_SLOT_PROG n i))
    else none)

/-- The line of core `n`'s golden window (R392). -/
def goldLine (st : Nat → List Byte) (n : Nat) : Nat := leAt (st 0x1A) 0 2 + n * leAt (st 0x1B) 0 2

/-- The reference tap of a set of settings. -/
def refOf (st : Nat → List Byte) : Nat := leAt (st 0x20) 0 1

/-- The start of a line of the reference source in nanoseconds, at its nominal period (R499, R501). -/
def lineNs (st : Nat → List Byte) (tap line : Nat) : Nat :=
  let t := stFld st 0x21 (R.TAP_T_GEOM_TOTAL tap)
  if t = 0 then 0 else line * stFld st 0x21 (R.TAP_T_NOMPERIOD_NS tap) / t

/-- R392, R442 and R501: slots, golden windows and the guard of the reference tap. -/
def slotRules (s : State) (st : Nat → List Byte) : Bool :=
  let ref := refOf st
  let progs := declared Config.parseProgs (st 0x02)
  let cores := (List.range 16).filter s.hasCore
  let gold := fun n => lineNs st ref (goldLine st n)
  stFld st 0x21 (R.TAP_T_CFG_EN ref) == 1 &&
  cores.all (fun n =>
    let sl := slotsOf st n
    let guard := 1000 * stFld st 0x21 (R.TAP_T_TIMING_GUARD ref)
    stFld st 0x13 (R.CORE_SLOTCFG_COUNT n) ≤ 32 &&
    goldLine st n < stFld st 0x21 (R.TAP_T_GEOM_TOTAL ref) && gold n + 20000 ≤ guard &&
    noPair (fun a b => overlaps (a.1, a.1 + a.2.1) (b.1, b.1 + b.2.1)) sl &&
    sl.all (fun a => 1000 * (a.1 + a.2.1) ≤ guard &&
      !overlaps (1000 * a.1, 1000 * (a.1 + a.2.1)) (gold n, gold n + 20000) &&
      (match progs[a.2.2.2.2]? with
      | none => false
      | some p => p.2.1 == a.2.2.1)))

/-- R402 for one route, with the field values of R401. -/
def routeOk (s : State) (st : Nat → List Byte) (e : List Byte) : Bool :=
  let r := routeOf e
  let tapEn := stFld st 0x21 (R.TAP_T_CFG_EN r.source) == 1 && r.source ≤ 11 && (r.source < 8 || s.hasDisp)
  let hearth := (declared Config.parseHearth (st 0x11)).take 8
  let period := stFld st 0x21 (R.TAP_T_NOMPERIOD_NS r.source)
  let wins := (List.range 16).filter (fun w => stFld st 0x22 (R.TAP_WIN_VALID (r.source - 8) w) == 1)
  let winEnd := fun w => lineNs st r.source (stFld st 0x22 (R.TAP_WIN_FIRSTLINE (r.source - 8) w) +
    stFld st 0x22 (R.TAP_WIN_NLINES (r.source - 8) w))
  let slots := ((List.range 16).map (slotsOf st)).flatten.filter (fun a => a.2.2.2.2 == r.prog)
  r.cls ≤ 2 && leAt e 0 1 < 32 && leAt e 3 1 < 32 && leAt e 0x19 7 == 0 && r.netpair ≤ 3 && 1 ≤ r.client && r.client ≤ 4 &&
  r.resultLen ≤ 192 && 1 ≤ r.deadline && r.deadline ≤ 1000000 && r.inboxKib ≤ 32768 && tapEn &&
  (r.cls ≠ 0 || 1000 * r.deadline ≤ period) &&
  (r.hearth == 0xFF || (match hearth[r.hearth]? with
    | none => false
    | some h => r.cls == 0 && h.1 == r.source)) &&
  (!r.display || (8 ≤ r.source && r.hearth == 0xFF && stFld st 0x21 (R.TAP_T_CFG_MARKER r.source) == 1)) &&
  (!r.prov || (r.display && wins.all (fun w => winEnd w ≤ 1600000))) &&
  (r.display || slots.all (fun a => if r.source = refOf st then a.1 + a.2.1 + 20 ≤ r.deadline else a.2.1 + 20 ≤ r.deadline)) &&
  (r.slack == 0 || r.cls == 1)

/-- Whether both networks of a NETPAIR are enabled, and neither is a controller in CC mode (R641, R792). -/
def pairOk (st : Nat → List Byte) (p : Nat) : Bool :=
  let one := fun n => if n < 2 then stFld st 0x42 (R.ETH_M_CFG_EN n) == 1
    else stFld st 0x43 (R.CAN_C_CFG_EN (n - 2)) == 1 && stFld st 0x43 (R.CAN_C_CFG_MODE (n - 2)) != 0
  one (pairNets p).1 && one (pairNets p).2

/-- The entries of a ROUTES setting, 32 bytes each. -/
def routeBytes (l : List Byte) : List (List Byte) := (List.range (l.length / 32)).map (fun r => (l.drop (32 * r)).take 32)

/-- R402, R520, R724 and R792 over the route table. -/
def routeRules (s : State) (st : Nat → List Byte) : Bool :=
  let es := routeBytes (st 0x10)
  let rs := es.map routeOf
  (st 0x10).length % 32 == 0 && es.length ≤ 64 && es.all (routeOk s st) && (rs.filter (·.cls == 0)).length ≤ 8 &&
  noPair (fun a b => bit a.outs 2 && bit b.outs 2 && a.outs / 8 % 4 == b.outs / 8 % 4) rs &&
  rs.all (fun r => !bit r.outs 1 || pairOk st r.netpair)

/-- R493, R502, R516 and R523 with the value ranges of the TAP page. -/
def tapRules (s : State) (st : Nat → List Byte) : Bool :=
  let en := fun k => stFld st 0x21 (R.TAP_T_CFG_EN k) == 1
  let cvu := declared Config.parseCvu (st 0x25)
  let width := fun d => match cvu.find? (fun p => p.1 == R.CVU_U_CFG (5 + d) % 0x10000) with
    | some p => p.2 / 2 ^ 23 % 128
    | none => 32
  let shown := fun d => (List.range 16).any (fun w => stFld st 0x22 (R.TAP_WIN_VALID d w) == 1)
  refOf st ≤ 11 && (refOf st < 8 || s.hasDisp) &&
  (List.range 12).all (fun k => !en k || (stFld st 0x21 (R.TAP_T_TIMING_PTOL k) != 0 && stFld st 0x21 (R.TAP_T_CFG_LANES k) != 3)) &&
  (List.range 8).all (fun k => !en k ||
    (let f := stFld st 0x21
     let size := (f (R.TAP_T_GEOM_ACTIVE k) * (64 * f (R.TAP_RING_STRIDE k)) + 4095) / 4096 * 4096
     let nb := f (R.TAP_RING_NBUF k)
     let lo := f (R.TAP_RING_BASE k) * 4096
     2 ≤ nb && nb ≤ 8 && f (R.TAP_RING_STRIDE k) != 0 &&
     rangeIn (((fencesOf st).filter (·.1 == 0)).map (fun x => (x.2.1, x.2.2))) lo (lo + nb * size) 33)) &&
  (List.range 4).all (fun d => !shown d || (8 ≤ width d && width d ≤ 32)) &&
  (List.range 4).all (fun d => (List.range 16).all (fun w => stFld st 0x22 (R.TAP_WIN_VALID d w) == 0 ||
    (stFld st 0x22 (R.TAP_WIN_NLINES d w) != 0 && stFld st 0x22 (R.TAP_WIN_BYTES d w) != 0))) &&
  (List.range 16).all (fun c => stFld st 0x23 (R.TAP_CHIME_B_VALID c) == 0 ||
    (leAt (st 0x23) (16 * c) 8 != 0 && stFld st 0x23 (R.TAP_CHIME_B_MINLEVEL c) ≤ 96 &&
      (stFld st 0x23 (R.TAP_CHIME_B_NET c) == 0 || pairOk st (stFld st 0x23 (R.TAP_CHIME_B_NETPAIR c)))))

/-- R363, R424 and R650, and what the network and Nimlink settings may hold. -/
def otherRules (s : State) (st : Nat → List Byte) (has : Nat → Bool) : Bool :=
  let progs := declared Config.parseProgs (st 0x02)
  let h := declared Config.parseHearth (st 0x11)
  let wm := fun id => leAt (st id) 2 2 + leAt (st id) 4 2 < leAt (st id) 0 2 && 1 ≤ leAt (st id) 4 2 && leAt (st id) 6 2 == 0x8000
  (declared Config.parsePaired (st 0x19)).all (fun i => match progs[i]? with
    | some p => p.2.1 != 2
    | none => true) &&
  h.length ≤ 8 && h.all (fun n => n.1 < 8 && 1 ≤ n.2.length && n.2.length ≤ 4) &&
  (s.hasNim || ((List.range 64).all (fun b => stFld st 0x17 (R.BELL_BAR_DEVS b) == 0))) &&
  (List.range 16).all (fun t => stFld st 0x44 (R.ETH_S_CFG_VALID t) == 0 ||
    (pairOk st (stFld st 0x44 (R.ETH_S_CFG_NETPAIR t)) && stFld st 0x44 (R.ETH_S_CFG_MAXSTEP t) != 0 &&
      100 ≤ stFld st 0x44 (R.ETH_S_CFG_WINDOW t) && stFld st 0x44 (R.ETH_S_CFG_WINDOW t) ≤ 50000 &&
      2 ≤ stFld st 0x44 (R.ETH_S_RING_ENTRIES t))) &&
  (List.range 4).all (fun c => stFld st 0x43 (R.CAN_C_CFG_MODE c) != 3) &&
  (List.range 2).all (fun m => stFld st 0x42 (R.ETH_M_CFG_SPEED m) ≤ 4) &&
  (!has 0x40 || (stFld st 0x40 R.SUNDIAL_SLEW_SLEW != 0 && 2 ≤ stFld st 0x40 R.SUNDIAL_DOMAIN_SRT &&
    stFld st 0x40 R.SUNDIAL_DOMAIN_TB0_DOMAIN ≤ 127 && stFld st 0x40 R.SUNDIAL_DOMAIN_TB1_DOMAIN ≤ 127)) &&
  (!has 0x31 || (stFld st 0x31 R.WATCH_LADDER_N != 0 && 1 ≤ stFld st 0x31 R.WATCH_LADDER_PERIOD &&
    stFld st 0x31 R.WATCH_LADDER_PERIOD ≤ 600)) &&
  60 ≤ stFld st 0x30 R.SAFETY_CFG_CHK_SINGLE_MAX && stFld st 0x30 R.SAFETY_CFG_CHK_SINGLE_MAX ≤ 86400 &&
  wm 0x32 && wm 0x33 &&
  (!has 0x1C || (100 ≤ leAt (st 0x1C) 0 2 && leAt (st 0x1C) 0 2 ≤ 60000)) &&
  (!has 0x1D || (1 ≤ leAt (st 0x1D) 0 2 && leAt (st 0x1D) 0 2 ≤ 600)) &&
  (List.range 2).all (fun p => 1 ≤ stFld st 0x60 (R.PCIE_P_CPLTO_MS p) && stFld st 0x60 (R.PCIE_P_CPLTO_MS p) ≤ 50 &&
    leAt (st 0x60) (24 * p + 20) 4 < 4) &&
  (List.range 96).all (fun i => leAt (st 0x51) (512 + i) 1 < 16 || leAt (st 0x51) (512 + i) 1 == 0xFF || !has 0x51)

/-- The credit of the engines of a mask in milliwatts (R771). -/
def creditOf (m : Nat) : Nat :=
  (if bit m 0 then 900 else 0) + (if bit m 1 then 250 else 0) + (if bit m 2 then 200 else 0) + (if bit m 3 then 60 else 0) +
  (if bit m 4 then 80 else 0) + (if bit m 5 then 120 else 0)

/-- R772. The engine masks of programs are known once they are loaded; a program that is not loaded counts nothing. -/
def powerRules (s : State) (st : Nat → List Byte) : Bool :=
  let c0 := ((List.range 16).map (slotsOf st)).flatten.filter (fun a => a.2.2.1 == 0)
  let load := fun t => (c0.map (fun a => if a.1 ≤ t ∧ t < a.1 + a.2.1 then
    creditOf (((s.jobs.progs.find? (·.idx == a.2.2.2.2)).map (·.engines)).getD 0) else 0)).sum
  c0.all (fun a => load a.1 ≤ stFld st 0x12 R.PWR_CFG_C0_RESERVE) &&
  stFld st 0x12 R.PWR_CFG_C0_RESERVE ≤ stFld st 0x12 R.PWR_CFG_POOL && stFld st 0x12 R.PWR_CFG_POOL ≤ 30000 &&
  stFld st 0x12 R.PWR_CFG_PKG_LIMIT ≤ 35000 && 60 ≤ stFld st 0x12 R.PWR_CFG_TJ_THROTTLE && stFld st 0x12 R.PWR_CFG_TJ_THROTTLE ≤ 125

/-- The bytes of a setting that no register covers and that must be 0 (R791). -/
def padOk (id : Nat) (c : List Byte) : Bool :=
  match id with
  | 0x01 => leAt c 0 1 ≤ 1 && leAt c 1 3 == 0
  | 0x15 | 0x16 | 0x20 => leAt c 1 3 == 0
  | 0x18 | 0x1A | 0x1B | 0x1C | 0x1D => leAt c 2 2 == 0
  | 0x13 => (List.range 16).all (fun n => leAt c (264 * n + 4) 4 == 0)
  | 0x50 => leAt c 4 4 == 0
  | _ => true

/-- Check 7 of R752. -/
def State.check7 (s : State) (l : List (Nat × List Byte)) : Bool :=
  let has := fun id => l.any (·.1 == id)
  let st := fun id => ((l.find? (·.1 == id)).map (·.2)).getD []
  noPair (fun a b => a.1 == b.1) l && l.all (fun p => settingIds.contains p.1) && requiredIds.all has &&
  l.all (fun p => (match settingLen p.1 with
    | some n => p.2.length == n
    | none => true) && padOk p.1 p.2 && (settingRegs p.1).all (s.imgOk p.2)) &&
  regionRules st && partRules st && slotRules s st && routeRules s st && tapRules s st && otherRules s st has && powerRules s st

/-! ### Banks -/

/-- The two banks. -/
def bankGen (b : Bool) : Fld := if b then R.NVM_BANKB_GEN else R.NVM_BANKA_GEN
def bankSlot (b : Bool) : Fld := if b then R.NVM_BANKB_SLOT else R.NVM_BANKA_SLOT
def bankGood (b : Bool) : Fld := if b then R.NVM_BANKB_GOOD else R.NVM_BANKA_GOOD
def bankWear (b : Bool) : Fld := if b then R.NVM_BANKB_WEAR else R.NVM_BANKA_WEAR
def bankCode (b : Bool) : Fld := if b then R.NVM_VALID_CODE_B else R.NVM_VALID_CODE_A

/-- Bytes of a sparse byte map. -/
def mapBytes (m : SMap Byte) (off n : Nat) : List Byte := (List.range n).map (fun i => SMap.get (fun _ => 0) m (off + i))

/-- A sparse byte map with bytes written. -/
def mapPut (m : SMap Byte) : Nat → List Byte → SMap Byte
  | _, [] => m
  | off, b :: t => mapPut (SMap.set (fun _ => 0) m off b) (off + 1) t

/-- The contents of a physical slot. -/
def State.nvSlot (s : State) (k : Nat) : SMap Byte := SMap.get (fun _ => []) s.nvm.slots k

/-- The state with the contents of a physical slot replaced. -/
def State.setNvSlot (s : State) (k : Nat) (m : SMap Byte) : State :=
  { s with nvm := { s.nvm with slots := SMap.set (fun _ => []) s.nvm.slots k m } }

/-- An image as its header's LEN cuts it from a buffer. -/
def imageOf (m : SMap Byte) : List Byte := mapBytes m 0 (min (leNat (mapBytes m 0xC 4)) 0x3FFC0)

/-- The settings of an image by its table of contents (R750). -/
def settingsOf (img : List Byte) : List (Nat × List Byte) :=
  (List.range (leAt img 6 2)).map (fun i =>
    let e := 0x100 + 12 * i
    (leAt img e 2, (img.drop (leAt img (e + 4) 4)).take (leAt img (e + 8) 4)))

/-- Check 3 of R752: the header and the table of contents (R749, R750). -/
def check3 (img : List Byte) : Bool :=
  let n := leAt img 6 2
  let len := leAt img 0xC 4
  leAt img 0 4 == 0x53455453 && leAt img 4 2 == 1 && 1 ≤ n && n ≤ 128 && 0x200 ≤ len && len ≤ 0x3FFC0 &&
  ((img.drop 0xB0).take 80).all (· == 0) && 0x100 + 12 * n ≤ len &&
  (List.range n).all (fun i =>
    let e := 0x100 + 12 * i
    leAt img (e + 2) 2 == 0 && 0x100 ≤ leAt img (e + 4) 4 && leAt img (e + 4) 4 + leAt img (e + 8) 4 ≤ len)

/-- Checks 4 and 5 of R752: the signature and the digest. -/
def check4 (img : List Byte) : Bool :=
  Config.settingsKey ((img.drop 0x10).take 16) &&
  Config.ecdsaOk ((img.drop 0x10).take 16) (img.take 0x50) ((img.drop 0x50).take 96)
def check5 (img : List Byte) : Bool := (img.drop 0x20).take 48 == Config.sha384 (img.drop 0x100)

/-- The first of checks 3 to 7 that an image fails; 0 when it passes them. -/
def State.checkImage (s : State) (img : List Byte) : Nat :=
  if !check3 img then 3
  else if !check4 img then 4
  else if !check5 img then 5
  else if leAt img 8 4 < s.fld (R.NVM_CTR_VALUE 1) then 6
  else if !s.check7 (settingsOf img) then 7
  else 0

/-- The commit marker of a slot: GEN, LEN and CRC, when it has MAGIC and a correct MCRC (R751). -/
def markerOf (m : SMap Byte) : Option (Nat × Nat × Nat) :=
  let k := mapBytes m 0x3FFC0 64
  if leAt k 0 4 = 0x434D4954 ∧ leAt k 60 4 = crc32 (k.take 60) then some (leAt k 4 4, leAt k 8 4, leAt k 12 4) else none

/-- The bytes of a commit marker (R751). -/
def markerBytes (gen len crc : Nat) : List Byte :=
  let h := leBytes 4 0x434D4954 ++ leBytes 4 gen ++ leBytes 4 len ++ leBytes 4 crc ++ leBytes 44 0
  h ++ leBytes 4 (crc32 h)

/-- The first failing check of a bank (R752); 0 when it is good. -/
def State.checkBank (s : State) (b : Bool) : Nat :=
  let m := s.nvSlot (s.fld (bankSlot b))
  match markerOf m with
  | none => 1
  | some (_, len, crc) =>
    let img := imageOf m
    if leNat (mapBytes m 0xC 4) ≠ len ∨ crc32 img ≠ crc then 2 else
    let c := s.checkImage img
    if c ≠ 0 then c
    else if ((settingsOf img).find? (·.1 == 0x34)).map (·.2) ≠ some (Config.sha384 s.param.set) then 8
    else 0

/-- A log entry written (R765). -/
def State.nvLog (s : State) (kind slot arg value : Nat) (digest : List Byte) : State :=
  let q := s.fld R.NVM_LOGSEQ_SEQ
  let e := leBytes 4 q ++ leBytes 8 s.stampNow ++ leBytes 1 kind ++ leBytes 1 s.stampBase ++ leBytes 1 slot ++ leBytes 1 0 ++
    leBytes 4 arg ++ leBytes 4 value ++ (digest ++ leBytes 8 0).take 8
  { s with nvm := { s.nvm with log := SMap.set (fun _ => []) s.nvm.log (q % 1024) e } }.setFld R.NVM_LOGSEQ_SEQ (q + 1)

/-- Settings validation (R753): both banks are checked, VALID, GOOD and FALLBACK are set, and the bank to take is answered. -/
def State.validateBanks (s : State) : State × Option Bool :=
  let a := s.checkBank false
  let b := s.checkBank true
  let g := fun (x : Nat) => if x = 0 then 1 else 0
  let s := (((s.setFld (bankCode false) a).setFld (bankCode true) b).setFld (bankGood false) (g a)).setFld (bankGood true) (g b)
  let ga := s.fld (bankGen false)
  let gb := s.fld (bankGen true)
  let pick : Option Bool := if a = 0 ∧ b = 0 then some (ga < gb) else if a = 0 then some false else if b = 0 then some true else none
  let fall : Bool := match pick with
    | some p => (if p then ga else gb) > (if p then gb else ga)
    | none => false
  let s := s.setFld R.NVM_STATUS_FALLBACK (if fall then 1 else 0)
  let s := match pick with
    | none => s.nvLog 5 0 0 0 []
    | some p => if fall then s.nvLog 6 (s.fld (bankSlot p)) (s.fld (bankGen p)) (s.fld (bankWear p))
        ((imageOf (s.nvSlot (s.fld (bankSlot p)))).drop 0x20) else s
  (s, pick)

/-! ### Loading (R121, R171, R573, R792) -/

/-- A register loaded from its image: its RO fields stay. -/
def State.loadReg (s : State) (c : List Byte) (p : Nat × Nat) : State :=
  match regAt p.2 with
  | none => s
  | some (r, _) =>
    if s.absent p.2 then s else
    let m := loadMask r.fields
    let old := (s.reg p.2).toNat
    s.setReg p.2 (BitVec.ofNat 64 (old - (old &&& m) + (imgWord c p.1 r &&& m)))

/-- The registers of a setting that the bank does not contain, as a bank that never held it leaves them (R792). -/
def State.unloadRegs (s : State) (id : Nat) : State :=
  let ks := (settingRegs id).map (·.2)
  (s.regs.filter (fun p => ks.contains p.1)).foldl (fun s p => s.loadReg [] (0, p.1)) s

/-- The watchman of core `n` enabled with the setting WM_CORE, when it is off (R573). -/
def State.enableWm (s : State) (n : Nat) : State :=
  if s.flag (R.CORE_WMCFG_EN n) || s.fld (fCoreState n) == csFAILED then s else
  let s := s.loadReg ((s.setting 0x32).getD []) (0, R.CORE_WMCFG n)
  (s.setFld (R.CORE_WMSTAT_ELAPSED n) 0).setFld (R.CORE_WMSTAT_TOKEN n) 0xACE1

/-- A 1-, 2- or 4-byte setting, with its value when it is absent. -/
def State.settingNat (s : State) (id n dflt : Nat) : Nat :=
  match s.setting id with
  | some c => leAt c 0 n
  | none => dflt

/-- Whether a core's slot table holds C0 or C1 work (GOLDCFG.REQUIRED). -/
def State.slotWork (s : State) (n : Nat) : Bool :=
  0 < s.fld (R.CORE_SLOTCFG_COUNT n) && (List.range 32).any (fun i => s.flag (R.CORE_SLOT_VALID n i) && s.fld (R.CORE_SLOT_CLASS n i) ≤ 1)

/-- The settings in force loaded into the registers, with the values of absent settings (R792), and locked (R121, R171). The
SAFETY.CFG and WATCH.LADDER pages are loaded once after each cold reset. -/
def State.loadSettings (s : State) : State :=
  let put := fun (s : State) (id : Nat) => match s.setting id with
    | some c => (settingRegs id).foldl (fun s p => s.loadReg c p) s
    | none => s.unloadRegs id
  let s := [0x12, 0x13, 0x14, 0x17, 0x21, 0x22, 0x23, 0x24, 0x40, 0x41, 0x42, 0x43, 0x44, 0x50, 0x51, 0x60].foldl put s
  let s := if s.dev.cfgLocked then s else put (put s 0x30) 0x31
  let s := if s.dev.cfgLocked ∨ (s.setting 0x31).isSome then s
    else (s.setFld R.WATCH_LADDER_N 3).setFld R.WATCH_LADDER_PERIOD 10
  let s := if (s.setting 0x40).isSome then s else
    ((((s.setFld R.SUNDIAL_SERVO_KP 4000).setFld R.SUNDIAL_SERVO_KI 400).setFld R.SUNDIAL_SLEW_SLEW 1000).setFld
      R.SUNDIAL_DOMAIN_SRT 3).setFld R.SUNDIAL_RINGGM_RING_PRIO1 248
  let s := (s.setFld R.MEMC_SCRUB_REBUILD_SHARE (s.settingNat 0x15 1 0x40)).setFld R.MEMC_SCRUB_INTERVAL (s.settingNat 0x16 1 4)
  let s := (s.setFld R.HEARTH_RESTARTCFG_WINDOW (s.settingNat 0x1C 2 3000)).setFld R.HEARTH_RESTARTCFG_PERIOD (s.settingNat 0x1D 2 10)
  let s := s.setFld R.TAP_LTCFG_REF (s.settingNat 0x20 1 0)
  let s := (List.range 2).foldl (fun s p => s.setFld (R.PCIE_P_HANDOVER_EN p) (leAt ((s.setting 0x60).getD []) (24 * p + 20) 1)) s
  let s := (List.range 16).foldl (fun s n => if !s.hasCore n then s else
    let s := s.setFld (R.CORE_BELLCFG_DL_WINDOW n) (s.settingNat 0x18 2 100)
    let s := s.setFld (R.CORE_GOLDCFG_LINE n) (s.settingNat 0x1A 2 0 + n * s.settingNat 0x1B 2 0)
    (s.setFld (R.CORE_GOLDCFG_REQUIRED n) (if s.slotWork n then 1 else 0)).enableWm n) s
  let s := (declared Config.parseCvu ((s.setting 0x25).getD [])).foldl (fun s p =>
    if p.1 < 0x100 + 5 * 0x80 ∨ 0x10000 ≤ p.1 then s else s.loadReg (leBytes 8 p.2) (0, R.CVU_LOCK + p.1)) s
  let s := s.dedicateCvus
  let s := s.hearthCfg.zipIdx.foldl (fun s h => (s.fldBitSet R.HEARTH_STATUS_PRESENT h.2).setFld (R.HEARTH_NET_STAGES h.2) h.1.2.length) s
  let s := [R.MEMC_LOCK_LOCK, R.PART_LOCK_LOCK, R.TAP_LOCK_LOCK, R.CVU_LOCK_LOCK, R.SUNDIAL_LOCK_LOCK, R.NIM_LOCK_LOCK].foldl
    (fun s f => s.setFld f 1) s
  let s := s.iter 12 (fun k s => if s.flag (R.TAP_T_CFG_EN k) then s else s.idleTap k)
  let s := s.setFld R.PWR_STATUS_LIVE (s.fld R.PWR_CFG_POOL)
  { s with dev := { s.dev with setOk := true, cfgLocked := true } }

/-- How a DRAM address is stored: under which key slot, if its region is encrypted, and whether as a shadow (R172, R173). -/
def State.storedAs (s : State) (pa : Nat) : Option Nat × Bool :=
  (match s.rgn pa with
    | some n => if s.flag (R.MEMC_RGN_CRYPT n) then some (s.fld (R.MEMC_RGN_KEYSLOT n)) else none
    | none => none, s.isShadow pa)

/-- Where the regions of MEMC.RGN and their shadows begin and end. -/
def State.rgnEdges (s : State) : List Nat :=
  ((List.range 16).filter (fun n => s.flag (R.MEMC_RGN_VALID n))).flatMap (fun n =>
    let b := 0x100000 * s.fld (R.MEMC_RGN_BASE n)
    let e := b + 0x100000 * s.fld (R.MEMC_RGN_SIZE n)
    [b, e, b + 0x100000000, e + 0x100000000])

/-- A new region table: what was stored under another key, or as a copy, reads as the decryption of other bytes, which nothing
fixes (R172, R173). -/
def State.rekeyDram (s old : State) : State :=
  let es := 0 :: (old.rgnEdges ++ s.rgnEdges).filter (· < 0x200000000)
  let segs := es.map (fun e => (e, (es.filter (e < ·)).foldl min 0x200000000))
  let keep := segs.filter (fun r => s.storedAs r.1 == old.storedAs r.1)
  if keep.length = segs.length then s else (List.range 8).foldl (fun s c => s.loseRegion c keep) s

/-- A good bank taken into force (R121, R753). -/
def State.takeBank (s : State) (b : Bool) : State :=
  let img := imageOf (s.nvSlot (s.fld (bankSlot b)))
  let s := s.setFld R.NVM_STATUS_INFORCE (if b then 2 else 1)
  let s := { s with nvm := { s.nvm with force := some (b, s.flag R.NVM_STATUS_FALLBACK, (img.drop 0x20).take 48) } }
  ({ s with jobs := { s.jobs with settings := settingsOf img, decl := declaredBy (settingsOf img) } }).loadSettings.rekeyDram s

/-- The outcome of settings validation in SELFTEST or HOLD (R106, R121–R123): the bank is loaded and READY entered, or HOLD
follows with the reason in FAIL_CODE. Answers whether a bank was found. -/
def State.validateStore (s : State) : State × Bool :=
  match s.validateBanks with
  | (s, some b) =>
    let s := (s.takeBank b).setFld R.DEVICE_BOOTSTAT_STEP 11
    (s.setState stREADY, true)
  | (s, none) =>
    let code := if s.fld (bankCode false) = 8 ∨ s.fld (bankCode true) = 8 then 0x21 else 0x20
    let s := (s.setFld R.NVM_STATUS_INFORCE 0).setFld R.DEVICE_BOOTSTAT_FAIL_CODE code
    let s := if s.st = stSELFTEST then
        { s.setFld R.DEVICE_BOOTSTAT_STEP 11 with dev := { s.dev with holdFrom := stSELFTEST } } else s
    (s.setState stHOLD, false)

/-- The slot that the boot ROM tries first (R754): BOOT_SLOT of the newer bank that passes checks 1 to 5. -/
def State.bootFirst (s : State) : Bool :=
  let ok := fun b =>
    let m := s.nvSlot (s.fld (bankSlot b))
    match markerOf m with
    | none => false
    | some (_, len, crc) =>
      let img := imageOf m
      leNat (mapBytes m 0xC 4) == len && crc32 img == crc && check3 img && check4 img && check5 img
  let ga := s.fld (bankGen false)
  let gb := s.fld (bankGen true)
  let pick : Option Bool := if ok false && ok true then some (ga < gb) else if ok false then some false
    else if ok true then some true else none
  match pick with
  | none => false
  | some b =>
    match (settingsOf (imageOf (s.nvSlot (s.fld (bankSlot b))))).find? (·.1 == 1) with
    | none => false
    | some c => c.2.length == 4 && padOk 1 c.2 && leAt c.2 0 1 == 1

/-! ### STORE and the counters (R755–R764) -/

/-- A slot's contents after its image and marker are written. -/
def storedSlot (m : SMap Byte) (img : List Byte) (gen : Nat) : SMap Byte :=
  mapPut (mapPut (mapPut m 0x3FFC0 (leBytes 64 0)) 0 img) 0x3FFC0 (markerBytes gen img.length (crc32 img))

/-- The bank that STORE writes (R755). -/
def State.storeTarget (s : State) : Bool :=
  match s.fld R.NVM_STATUS_INFORCE with
  | 1 => true
  | 2 => false
  | _ =>
    let ok := fun b => (markerOf (s.nvSlot (s.fld (bankSlot b)))).isSome
    match ok false, ok true with
    | false, _ => false
    | true, false => true
    | true, true => s.fld (bankGen true) < s.fld (bankGen false)

/-- The free spare slots: those that carry no bank and are not retired. -/
def State.spareSlots (s : State) : List Nat :=
  (List.range 6).filter (fun k => k != s.fld (bankSlot false) && k != s.fld (bankSlot true) && !s.flag (R.NVM_SLOT_RETIRED k))

/-- The slot of a bank retired and the bank moved to the lowest free spare; none, with the store read-only, when there is no
spare (R759, R760). -/
def State.retireSlot (s : State) (b : Bool) : State × Bool :=
  let k := s.fld (bankSlot b)
  match s.spareSlots with
  | [] => (((s.setFld R.NVM_STATUS_RO 1)).nvLog 3 k (s.fld (bankGen b)) (s.fld (R.NVM_SLOT_WRITES k)) [], false)
  | n :: t =>
    let s := (s.setFld (R.NVM_SLOT_RETIRED k) 1).nvLog 2 k (s.fld (bankGen b)) (s.fld (R.NVM_SLOT_WRITES k)) []
    (((s.setFld (bankSlot b) n).setFld (bankWear b) (s.fld (R.NVM_SLOT_WRITES n))).setFld R.NVM_STATUS_SPARES t.length, true)

/-- A bank's slot made ready for an attempt: retired when it is worn out, else its wear count increased (R755 step 1, R759). -/
def State.storePrep (s : State) (b : Bool) : State × Bool :=
  let r := if 1000000 ≤ s.fld (R.NVM_SLOT_WRITES (s.fld (bankSlot b))) then s.retireSlot b else (s, true)
  let k := r.1.fld (bankSlot b)
  let w := r.1.fld (R.NVM_SLOT_WRITES k) + 1
  if r.2 then ((r.1.setFld (R.NVM_SLOT_WRITES k) w).setFld (bankWear b) w, true) else r

/-- The attempts of STORE on a bank, of which the first `bad` fail their read-back (R755, R759): the state, and whether the
image was stored. -/
def State.storeTo (s : State) (b : Bool) (img : List Byte) (gen : Nat) : Nat → State × Bool
  | 0 =>
    let r := s.storePrep b
    let k := r.1.fld (bankSlot b)
    if r.2 then ((r.1.setNvSlot k (storedSlot (r.1.nvSlot k) img gen)).setFld (bankGen b) gen, true) else r
  | n + 1 =>
    let r := s.storePrep b
    let k := r.1.fld (bankSlot b)
    if !r.2 then r else
    let s := (r.1.setNvSlot k (mapPut (mapPut (r.1.nvSlot k) 0x3FFC0 (leBytes 64 0)) 0 img)).setFld (bankGen b) 0
    let q := s.retireSlot b
    if q.2 then State.storeTo q.1 b img gen n else q

/-- Whether an image that reads as a settings bank declares a display C0 route on a device without display taps (R41). -/
def State.displayAsked (s : State) (img : List Byte) : Bool :=
  let routes := (((settingsOf img).find? (·.1 == 0x10)).map (·.2)).getD []
  !s.hasDisp && (routesOf routes).any (fun r => r.cls == 0 && r.display)

/-- STORE (R41, R755, R758, R760, R767): the status, INFO and state; `bad` read-backs fail. -/
def State.storeSettings (s : State) (bad : Nat) : State × Nat × Nat :=
  if s.flag R.NVM_STATUS_RO then (s, 0x50, 0) else
  let img := imageOf s.nvm.staging
  let c := s.checkImage img
  if (c = 0 ∨ c = 7) ∧ s.displayAsked img = true then (s, 0x02, 0) else
  if c ≠ 0 then (s, 0x54, c) else
  let b := s.storeTarget
  let gen := max (s.fld (bankGen false)) (s.fld (bankGen true)) + 1
  match s.storeTo b img gen bad with
  | (s, false) => (s, 0x50, 0)
  | (s, true) =>
    let s := s.nvLog 1 (s.fld (bankSlot b)) gen (s.fld (bankWear b)) (img.drop 0x20)
    ({ s with nvm := { s.nvm with staging := [] } }, 0, gen)

/-- The greatest value that counter `k` may be advanced to (R762). -/
def State.counterBound (s : State) (k : Nat) : Nat :=
  if k = 0 then s.nvm.fwSecver
  else if k = 1 then
    (match s.fld R.NVM_STATUS_INFORCE with
    | 0 => s.fld (R.NVM_CTR_VALUE 1)
    | n => leNat (mapBytes (s.nvSlot (s.fld (bankSlot (n == 2)))) 8 4))
  else
    let own := s.progTable.zipIdx.filter (fun p => p.1.2.2 == k)
    let sv := s.jobs.progs.filterMap (fun p => if own.any (fun o => o.2 == p.idx) then some p.secver else none)
    let bl := s.jobs.decl.bundles.filter (·.2 == k)
    let bv := s.keep.bundles.filterMap (fun b => if bl.any (fun o => o.1 == b.id) then some b.secver else none)
    match sv ++ bv with
    | [] => s.fld (R.NVM_CTR_VALUE k)
    | h :: t => t.foldl min h

/-- COUNTER_ADVANCE and its increment form (R762, R763): status and state. -/
def State.advanceCounter (s : State) (k v : Nat) (inc : Bool) : State × Nat :=
  let now := s.fld (R.NVM_CTR_VALUE k)
  if inc && now == 0xFFFFFFFF then (s, 0x51) else
  let v := if inc then now + 1 else v
  if v < now then (s, 0x53)
  else if v = now then (s, 0)
  else if s.counterBound k < v then (s, 0x52)
  else ((s.setFld (R.NVM_CTR_VALUE k) v).nvLog 4 k now v [], 0)

end Sys2Proof.Machine
end

