-- ==== Sys2Proof/Machine/Keep.lean ====
section
/-! DEFINITION. The Keep: the random source (R707–R710), the SPDM responder with its measurements and sessions (R691–R695), and
IDE key management (R697). -/
namespace Sys2Proof.Machine

/-! ### The random source -/

/-- Whether the Keep runs. -/
def State.keepUp (s : State) : Bool :=
  !s.dev.off && !s.dev.pinLow && !s.dev.warmHeld && !(s.st == stBOOT && s.fld R.DEVICE_BOOTSTAT_STEP < 3)

/-- RNG_SEED (R118 step 5, R695, R708): the first good seed also makes the DRAM keys, unless a warm restart has kept them or a scrub is in
progress. -/
def execRngSeed (s : State) : Step :=
  .next (if !s.keepUp then s else
    let s := { s with keep := { s.keep with rng := true, seeded := true, reqs := 0, seedAt := s.tb2, failAt := none } }
    let s := s.setFld R.KEEP_STATUS_RNG_READY 1
    let s := if s.st = stREADY then s.drawFirst else s
    let s := if s.st = stBOOT ∧ s.fld R.DEVICE_BOOTSTAT_STEP < 5 then s.setFld R.DEVICE_BOOTSTAT_STEP 5 else s
    if s.fld R.KEEP_STATUS_KEYSLOTS = 0 ∧ s.flag R.KEEP_STATUS_SCRUBBING = false then s.setFld R.KEEP_STATUS_KEYSLOTS 0xF else s)

/-- RNG_HEALTH_FAIL (R709): the repetition count test, or with `apt` the adaptive proportion test, fails. -/
def execRngHealthFail (apt : Bool) (s : State) : Step :=
  .next (if !s.keepUp then s else
    let s := s.satInc (if apt then R.KEEP_RNGSTAT_APT_FAIL else R.KEEP_RNGSTAT_RCT_FAIL)
    { s with keep := { s.keep with rng := false, failAt := some (s.keep.failAt.getD s.tb2) } })

/-- RNG_FAIL_TIMEOUT (R709): 10 ms after a failure without a seed. -/
def execRngFailTimeout (s : State) : Step :=
  .next (match s.keep.failAt with
    | some t => if s.keepUp && t + 10000000 ≤ s.tb2 then s.setFld R.KEEP_STATUS_RNG_FAIL 1 else s
    | none => s)

/-- DRBG_RESEED (R709): after 2^20 requests or 1 s. -/
def execDrbgReseed (s : State) : Step :=
  .next (if s.keepUp && s.keep.rng && (1048576 ≤ s.keep.reqs || s.keep.seedAt + 1000000000 ≤ s.tb2) then
      { s with keep := { s.keep with reqs := 0, seedAt := s.tb2 } }.wrapInc R.KEEP_RNGSTAT_RESEEDS
    else s)

/-! ### Measurements (R693) -/

/-- The loaded programs of a network's stages, first stage first, when all are loaded. -/
def State.stageProgs (s : State) (h : Nat) : Option (List Prog) :=
  match s.hearthCfg[h]? with
  | none => none
  | some (_, st) =>
    let l := st.filterMap s.prog
    if l.length = st.length ∧ st ≠ [] then some l else none

/-- The content of a measurement block, none when it is absent. -/
def State.measBlock (s : State) (i : Nat) : Option (List Byte) :=
  let pad := fun (l : List Byte) (n : Nat) => (l ++ List.replicate n (0 : Byte)).take n
  if i = 1 then some (Config.romDigest 0)
  else if i = 2 then some (Config.romDigest 1)
  else if i = 3 then
    some (pad s.nvm.fwDigest 48 ++ leBytes 4 s.nvm.fwSecver ++
      [Config.slotByte (s.fld R.DEVICE_BOOTSTAT_SLOT) (s.fld R.DEVICE_BOOTSTAT_MAILBOX)])
  else if i = 4 then
    some (leBytes 1 (s.fld R.KEEP_STATUS_LCS) ++ leBytes 4 (s.reg R.DEVICE_CAPS).toNat ++
      leBytes 1 (s.fld R.KEEP_STATUS_UDS_LOCKED))
  else if i = 5 then
    let f := s.fld R.NVM_STATUS_INFORCE
    some (if f = 1 ∨ f = 2 then mapBytes (s.nvSlot (s.fld (bankSlot (f == 2)))) 0x20 48 else List.replicate 48 0)
  else if i = 6 then some s.pdigest
  else if i = 7 then
    some (((List.range 4).map (fun k => leBytes 4 (s.fld (R.KEEP_TENANT_ID k)))).flatten ++
      leBytes 4 (s.fld R.KEEP_MEASGEN_GEN) ++ leBytes 1 (s.fld R.KEEP_STATUS_SCRUBBING))
  else if 0x10 ≤ i ∧ i < 0x50 then
    (s.prog (i - 0x10)).map (fun p => pad p.digest 48 ++ leBytes 4 p.secver ++ leBytes 2 p.flags)
  else if 0x50 ≤ i ∧ i < 0x58 then
    (s.stageProgs (i - 0x50)).map (fun l => Config.sha384 ((l.map (·.digest)).flatten))
  else if 0x60 ≤ i ∧ i < 0x80 then
    (s.keep.bundles.find? (fun b => b.slot == i - 0x60)).map (fun b =>
      pad b.digest 48 ++ leBytes 4 b.secver ++ leBytes 16 b.id)
  else none

/-- The blocks of a report: one index, or with 0xFF every present block in ascending order. -/
def State.report (s : State) (i : Nat) : List (Nat × List Byte) :=
  (if i = 0xFF then List.range 0x80 else [i]).filterMap (fun k => (s.measBlock k).map (fun b => (k, b)))

/-! ### The SPDM responder (R691, R692) -/

/-- Whether the responder answers on a port's mailbox: on port A, and on port B when it is an endpoint; in every state but
OFF, reset, and BOOT before step 4 of start-up. -/
def State.spdmUp (s : State) (p : Nat) : Bool :=
  s.keepUp && !(s.st == stBOOT && s.fld R.DEVICE_BOOTSTAT_STEP < 4) && s.portUp p &&
    (p == 0 || (s.hasPortB && s.fld R.DEVICE_STRAPS_PEB_ROLE == 0))

/-- How far a mailbox's negotiation has come. -/
def State.nego (s : State) (p : Nat) : Nat := SMap.get (fun _ => 0) s.keep.nego p

/-- The negotiation of a mailbox set. -/
def State.setNego (s : State) (p n : Nat) : State :=
  { s with keep := { s.keep with nego := SMap.set (fun _ => 0) s.keep.nego p n } }

/-- An answer on a mailbox. -/
def State.answer (s : State) (p : Nat) (a : SpdmAns) : State :=
  { s with keep := { s.keep with doe := SMap.set (fun _ => .silent) s.keep.doe p a } }

/-- A request: no answer while the responder is down; else `g`, when the negotiation has come to `need` (log entry 34). -/
def State.spdm (s : State) (p need : Nat) (g : State → State) : Step :=
  .next (if !s.spdmUp p then s.answer p .silent
    else if s.nego p < need then s.answer p .errOther
    else g s)

/-- GET_VERSION: the connection begins anew, and the sessions of the mailbox end (log entry 34). -/
def execGetVersion (p : Fin 2) (s : State) : Step :=
  s.spdm p 0 (fun s => ((s.dropSessions p).setNego p 1).answer p .version)

/-- GET_CAPABILITIES. -/
def execGetCapabilities (p : Fin 2) (s : State) : Step :=
  s.spdm p 1 (fun s => if s.nego p = 1 then (s.setNego p 2).answer p .capabilities else s.answer p .errOther)

/-- NEGOTIATE_ALGORITHMS: `ok` when the requester offers the supported algorithms of R691. -/
def execNegotiateAlgorithms (p : Fin 2) (ok : Bool) (s : State) : Step :=
  s.spdm p 2 (fun s => if s.nego p = 2 ∧ ok = true then (s.setNego p 3).answer p .algorithms else s.answer p .errOther)

/-- GET_DIGESTS. -/
def execGetDigests (p : Fin 2) (s : State) : Step := s.spdm p 3 (fun s => s.answer p .digests)

/-- GET_CERTIFICATE (R689): slot 0 only. -/
def execGetCertificate (p : Fin 2) (slot : Fin 8) (s : State) : Step :=
  s.spdm p 3 (fun s => s.answer p (if slot.val = 0 then .certificate else .errOther))

/-- CHALLENGE: slot 0 only. -/
def execChallenge (p : Fin 2) (slot : Fin 8) (s : State) : Step :=
  s.spdm p 3 (fun s => s.answer p (if slot.val = 0 then .challenge else .errOther))

/-- GET_MEASUREMENTS (R693, R694). -/
def execGetMeasurements (p : Fin 2) (idx : BitVec 8) (s : State) : Step :=
  s.spdm p 3 (fun s => s.answer p (.measurements (s.report idx.toNat)))

/-- The session of a mailbox with an identifier, FINISH done. -/
def State.session (s : State) (p sid : Nat) : Option Spdm :=
  s.keep.sessions.find? (fun x => x.port == p && x.id == sid && x.fin)

/-- The list of sessions replaced; SESSIONS and the ports' IDE bits follow it. -/
def State.setSessions (s : State) (l : List Spdm) : State :=
  let s := { s with keep := { s.keep with sessions := l } }.setFld R.KEEP_STATUS_SESSIONS l.length
  s.iter 2 (fun p s => s.setFld (R.PCIE_P_PORTSTAT_IDE p) (if l.any (fun (x : Spdm) => x.port == p && !x.ide.isEmpty) then 1 else 0))

/-- KEY_EXCHANGE (R691, R692, R709): Busy without random source, SessionLimitExceeded with four sessions. -/
def execKeyExchange (p : Fin 2) (sid : BitVec 32) (s : State) : Step :=
  s.spdm p 3 (fun s =>
    let q := s.rngRequest
    if q.2 = false then q.1.answer p .errBusy
    else if 4 ≤ q.1.keep.sessions.length then q.1.answer p .errLimit
    else if q.1.keep.sessions.any (fun x => x.port == p.val && x.id == sid.toNat) then q.1.answer p .errOther
    else (q.1.setSessions (q.1.keep.sessions ++ [⟨sid.toNat, p, false, []⟩])).answer p (.session sid.toNat))

/-- FINISH: `ok` when the requester's proof verifies; else the session ends (log entry 34). -/
def execFinish (p : Fin 2) (sid : BitVec 32) (ok : Bool) (s : State) : Step :=
  s.spdm p 3 (fun s =>
    match s.keep.sessions.find? (fun x => x.port == p.val && x.id == sid.toNat && !x.fin) with
    | none => s.answer p .errOther
    | some x =>
      if ok then
        (s.setSessions (s.keep.sessions.map (fun (y : Spdm) => if y = x then { y with fin := true } else y))).answer p .finished
      else (s.setSessions (s.keep.sessions.filter (fun y => y ≠ x))).answer p .errOther)

/-- A request inside a session. -/
def State.inSession (s : State) (p : Fin 2) (sid : BitVec 32) (g : State → Spdm → State) : Step :=
  s.spdm p 3 (fun s => match s.session p sid.toNat with
    | none => s.answer p .errOther
    | some x => g s x)

/-- END_SESSION (R695): the session's keys are destroyed. -/
def execEndSession (p : Fin 2) (sid : BitVec 32) (s : State) : Step :=
  s.inSession p sid (fun s x => (s.setSessions (s.keep.sessions.filter (fun y => y ≠ x))).answer p .ended)

/-- HEARTBEAT. -/
def execHeartbeat (p : Fin 2) (sid : BitVec 32) (s : State) : Step := s.inSession p sid (fun s _ => s.answer p .beat)

/-- KEY_UPDATE. -/
def execKeyUpdate (p : Fin 2) (sid : BitVec 32) (s : State) : Step := s.inSession p sid (fun s _ => s.answer p .updated)

/-- QUERY of IDE_KM (R697). -/
def execIdeKmQuery (p : Fin 2) (sid : BitVec 32) (s : State) : Step := s.inSession p sid (fun s _ => s.answer p .ideQuery)

/-- The IDE key sets of a session changed. -/
def State.setIde (s : State) (x : Spdm) (g : List (Nat × Nat) → List (Nat × Nat)) : State :=
  s.setSessions (s.keep.sessions.map (fun (y : Spdm) => if y = x then { y with ide := g y.ide } else y))

/-- K_SET_GO (R697): the keys of a key set are derived and the stream uses them. -/
def execKSetGo (p : Fin 2) (sid : BitVec 32) (stream : Fin 5) (ks : Fin 2) (s : State) : Step :=
  s.inSession p sid (fun s x => (s.setIde x (fun l => l.filter (fun e => e ≠ (stream.val, ks.val)) ++ [(stream.val, ks.val)])).answer p .ideGo)

/-- K_SET_STOP (R695, R697). -/
def execKSetStop (p : Fin 2) (sid : BitVec 32) (stream : Fin 5) (ks : Fin 2) (s : State) : Step :=
  s.inSession p sid (fun s x => (s.setIde x (fun l => l.filter (fun e => e ≠ (stream.val, ks.val)))).answer p .ideStop)

end Sys2Proof.Machine
end

