-- ==== Sys2Proof/Machine/Sync.lean ====
section
/-! DEFINITION. Class 5 of the Steward and the Bellhouse's own events: signals, waits, watches, messages, barriers and the
deadlock detector (R238–R241, R451–R485). -/
namespace Sys2Proof.Machine

/-- A refusal by the Bellhouse: SYNC with its status (R238). -/
def Exc.bell (st : Nat) : Exc := ⟨0x09, st, 0, false, 0⟩

/-- An instruction of class 5 on the object named by the identifier a (R238, R455): ILLEGAL for an identifier above 1023,
SYNC for a refused translation. -/
def State.onObj (s : State) (c : CoreId) (f : IFields) (body : State → Nat → Nat → SOut) : SOut :=
  let k := s.core c
  let vid := (k.a f).toNat
  if 1023 < vid then .exc s (.sync 0x03) else
  match s.translate c k.ctx vid k.slotCls with
  | .error e => .exc s (Exc.bell e)
  | .ok obj => body s obj vid

/-- The condition field of WAIT and WATCH: 6 and 7 are illegal (R238). -/
def condOk (f : IFields) : Bool := !f.hasExt && f.low3 < 6

/-- SIG (R451, R464, R466): the object changed by the signed low half of b; a refusal raises SYNC, and a fault of a
privileged object restarts the core. -/
def execSig (c : CoreId) (f : IFields) (s : State) : Step :=
  .next (s.runInstr c f .u false (!f.hasExt) (fun s => s.onObj c f (fun s obj vid =>
    let k := s.core c
    let delta := (k.b f).setWidth 32
    match s.updateObj c obj delta.toInt 5 k.ctx vid with
    | (t, none) => .done (t.countDelta c obj (k.b f))
    | (t, some e) => if s.flag (R.CORE_SOBJCFG_PRIV c obj) then .stay t else .exc t (Exc.bell e))))

/-- A marker enters the fabric (R468, R469). -/
def State.postMarker (s : State) (c unit path obj : Nat) (delta : BitVec 32) (gen cls : Nat) : State :=
  { s with fab := { s.fab with
      markers := s.fab.markers ++ [⟨s.fab.nextId, c, unit, path, obj, delta, gen, s.fld (R.CORE_EPOCH_EPOCH c), cls⟩]
      nextId := s.fab.nextId + 1 } }

/-- SIGP (R238, R468): as SIG, posted behind the Steward's writes to the target of address d. -/
def execSigp (c : CoreId) (f : IFields) (s : State) : Step :=
  .next (s.runInstr c f .u false (!f.hasExt) (fun s => s.onObj c f (fun s obj _ =>
    let k := s.core c
    let d := (k.d f).toNat
    if !s.dataOk k.priv k.wins true d 1 then .exc s ⟨0x06, 0, 0, false, k.d f⟩
    else .done ((s.countDelta c obj (k.b f)).postMarker c 5 (s.pathOf (s.loc (some c) d)) obj ((k.b f).setWidth 32)
      (s.fld (R.CORE_BELLGEN_CTXGEN c)) k.cls))))

/-- WAIT (R238, R471): completes when the condition holds, else the Steward stalls. -/
def execWait (c : CoreId) (f : IFields) (s : State) : Step :=
  .next (s.runInstr c f .u false (condOk f) (fun s => s.onObj c f (fun s obj _ =>
    let thr := ((s.core c).b f).toNat % 2 ^ 32
    if objCond f.low3 (s.fld (R.CORE_SOBJ_VALUE c obj)) thr then .done s
    else .stay (s.modCore c (fun k => { k with stw := .waitObj obj f.low3 thr })))))

/-- WATCH (R239, R472): registers the lowest watch number that is neither registered nor, where there is a choice, pending, and writes it
to d (log entry 174); it fires at once when its condition holds. -/
def execWatch (c : CoreId) (f : IFields) (s : State) : Step :=
  .next (s.runInstr c f .u false (condOk f) (fun s => s.onObj c f (fun s obj _ =>
    let k := s.core c
    let free := (List.range 16).filter (fun n => !k.watches.any (fun w => w.num == n))
    match ((free.find? (fun n => k.pend.watch.map (·.num) != some n)).or free.head?) with
    | none => .exc s (Exc.bell bsNO_WATCH)
    | some n =>
      let w : WatchRec := ⟨n, obj, f.low3, (k.b f).toNat % 2 ^ 32, k.ctx, s.fld (R.CORE_BELLGEN_CTXGEN c), s.depth c, false⟩
      .done ((s.modCore c (fun k => { k.setS f.dst.toNat (w64 n) with watches := k.watches ++ [w] })).fireWatches c obj))))

/-- UNWATCH: removes the watch numbered a[3:0], fired or not (R472). -/
def execUnwatch (c : CoreId) (f : IFields) (s : State) : Step :=
  .next (s.runInstr c f .u false (!f.hasExt && f.dst == 0 && f.srcB == 0) (fun s =>
    let n := ((s.core c).a f).toNat % 16
    .done (s.modCore c (fun k => ({ k with
      watches := k.watches.filter (fun w => w.num ≠ n)
      pend := { k.pend with watch := k.pend.watch.filter (fun w => w.num ≠ n) } } : Core).promote))))

/-- SRD: the object's value, zero-extended (R238). -/
def execSrd (c : CoreId) (f : IFields) (s : State) : Step :=
  .next (s.runInstr c f .u false (!f.hasExt) (fun s => s.onObj c f (fun s obj _ =>
    .done (s.modCore c (fun k => k.setS f.dst.toNat (w64 (s.fld (R.CORE_SOBJ_VALUE c obj))))))))

/-! ### Barriers -/

/-- A core's view of its own arrival at a barrier: 0 none, 1 arrived, 2 completed, 3 ended with EPOCH_CHANGED. -/
def Core.arrival (k : Core) (n : Nat) : Nat := SMap.get (fun _ => 0) k.arrived n

/-- A core with its arrival at a barrier set. -/
def Core.setArrival (k : Core) (n v : Nat) : Core := { k with arrived := SMap.set (fun _ => 0) k.arrived n v }

/-- The barrier an instruction names, or the status that refuses it (R455, R477): a[63:6] must be 0, the barrier VALID, of
the current context, and, when privileged, used from a C0 slot. -/
def State.barrierArg (s : State) (c : CoreId) (f : IFields) : Except Nat Nat :=
  let k := s.core c
  let n := (k.a f).toNat
  if 64 ≤ n then .error bsBAD_BARRIER
  else if !s.flag (R.BELL_BAR_VALID n) || s.fld (R.BELL_BAR_OWNER n) != k.ctx || !bit (s.fld (R.BELL_BAR_CORES n)) c then
    .error bsBAD_BARRIER
  else if s.flag (R.BELL_BAR_PRIV n) && k.slotCls != some 0 then .error bsCLASS
  else .ok n

/-- BARA: the core's arrival sets out (R478). -/
def execBara (c : CoreId) (f : IFields) (s : State) : Step :=
  .next (s.runInstr c f .u false (!f.hasExt) (fun s =>
    match s.barrierArg c f with
    | .error e => .exc s (Exc.bell e)
    | .ok n =>
      if (s.core c).arrival n = 1 then .exc s (Exc.bell bsTWICE)
      else .done { s.modCore c (fun k => k.setArrival n 1) with
        fab := { s.fab with arrivals := s.fab.arrivals ++ [(n, c.val)] } }))

/-- BARW: returns when the generation of the core's own arrival has completed (R240, R478). -/
def execBarw (c : CoreId) (f : IFields) (s : State) : Step :=
  .next (s.runInstr c f .u false (!f.hasExt) (fun s =>
    match s.barrierArg c f with
    | .error e => .exc s (Exc.bell e)
    | .ok n =>
      match (s.core c).arrival n with
      | 0 => .exc s (Exc.bell bsBAD_BARRIER)
      | 1 => .stay (s.modCore c (fun k => { k with stw := .waitBar n }))
      | 2 => .done (s.modCore c (fun k => k.setArrival n 0))
      | _ => .exc (s.modCore c (fun k => k.setArrival n 0)) (Exc.bell bsEPOCH)))

/-- Whether a barrier has a departed participant, which ends every generation with EPOCH_CHANGED (R677). -/
def State.barBroken (s : State) (n : Nat) : Bool :=
  (List.range 16).any (fun i => bit (s.fld (R.BELL_BAR_DEVS n)) i && s.departed i)

/-- The devices whose arrivals a barrier counts at this device's ring counter: this device is the lowest-numbered
participant still present (R478, R677). -/
def State.ringCounterHere (s : State) (n : Nat) : Bool :=
  let d := s.fld (R.BELL_BAR_DEVS n)
  d == 0 || (List.range 16).find? (fun i => bit d i && !s.departed i) == some (s.fld R.NIM_CFG_SELF)

/-- Whether every participating core and device has arrived (R478). -/
def State.allArrived (s : State) (n : Nat) : Bool :=
  let d := s.fld (R.BELL_BAR_DEVS n)
  let ra := SMap.get (fun _ => 0) s.fab.ringArrived n
  let ca := s.fld (R.BELL_BAR_CORES n)
  let arr := s.fld (R.BELL_BARSTAT_ARRIVED n)
  (List.range 16).all (fun i => !bit ca i || bit arr i) &&
    (List.range 16).all (fun i => !bit d i || i == s.fld R.NIM_CFG_SELF || bit ra i)

/-- A generation of a barrier completes: GEN increases and the completion sets out to every participating core (R478), with
EPOCH_CHANGED when `bad` (R677). -/
def State.completeBarrier (s : State) (n : Nat) (bad : Bool := false) : State :=
  let ca := s.fld (R.BELL_BAR_CORES n)
  let s := (s.wrapInc (R.BELL_BARSTAT_GEN n)).setFld (R.BELL_BARSTAT_ARRIVED n) 0
  { s with fab := { s.fab with
      ringArrived := SMap.set (fun _ => 0) s.fab.ringArrived n 0
      completions := s.fab.completions ++ ((List.range 16).filter (fun i => bit ca i)).map (fun i => (n, i, bad)) } }

/-- BARRIER_ARRIVAL (R456, R478): an arrival is counted; the last one completes the generation. An arrival of a device
names no core or context, so those fields of a blocked one's record are free (log entry 36). -/
def execBarrierArrival (n : Fin 64) (w : ArriveFrom) (s : State) : Step :=
  .next (match w with
    | .core c =>
      if s.fab.arrivals.contains (n.val, c.val) then
        let s := { s with fab := { s.fab with arrivals := s.fab.arrivals.erase (n.val, c.val) } }
        let s := s.fldBitSet (R.BELL_BARSTAT_ARRIVED n) c
        if s.barBroken n then s.completeBarrier n true
        else if s.ringCounterHere n && s.allArrived n then s.completeBarrier n else s
      else s
    | .device d tenant =>
      if !tenant then
        let x := s.draw
        x.2.xlog true d (x.1 % 16) (x.1 / 16 % 4) (x.1 / 64 % 16) (s.fld (R.BELL_BAR_OWNER n)) 3 n
      else if s.flag (R.BELL_BAR_VALID n) && bit (s.fld (R.BELL_BAR_DEVS n)) d && s.ringCounterHere n && !s.departed d then
        let s := { s with fab := { s.fab with
          ringArrived := SMap.set (fun _ => 0) s.fab.ringArrived n (setBit (SMap.get (fun _ => 0) s.fab.ringArrived n) d) } }
        if s.allArrived n then s.completeBarrier n else s
      else s)

/-- Whether a barrier has a participant on another device of the ring (R478). -/
def State.barAbroad (s : State) (n : Nat) : Bool :=
  (List.range 16).any (fun i => bit (s.fld (R.BELL_BAR_DEVS n)) i && i != s.fld R.NIM_CFG_SELF)

/-- What the ring brings for a barrier (R142, R478): where the ring counter lies elsewhere, the completion once every own core has
arrived, with which GEN increases here; and, with `ended`, the end with EPOCH_CHANGED of a generation in which a part of another
device was reset. -/
def State.ringCompletion (s : State) (n : Nat) (ended : Bool) : State :=
  let arr := s.fld (R.BELL_BARSTAT_ARRIVED n)
  if !s.flag (R.BELL_BAR_VALID n) || s.fab.completions.any (fun p => p.1 == n) then s
  else if ended then (if s.barAbroad n then s.breakBarrier n 16 else s)
  else if !s.ringCounterHere n && arr != 0 &&
      (List.range 16).all (fun i => !bit (s.fld (R.BELL_BAR_CORES n)) i || bit arr i) then s.completeBarrier n
  else s

/-- BARRIER_COMPLETION (R142, R478): a completion reaches a core. -/
def execBarrierCompletion (n : Fin 64) (x : BarEnd) (s : State) : Step :=
  let s := s.ringCompletion n x.ended
  .next (match s.fab.completions.find? (fun p => p.1 == n.val && p.2.1 == x.core.val) with
    | none => s
    | some p => { s.modCore x.core (fun k => k.setArrival n (if p.2.2 then 3 else 2)) with
        fab := { s.fab with completions := s.fab.completions.erase p } })

/-! ### Messages -/

/-- MSG (R474, R476): to a mailbox of this device the Steward waits for acceptance; to another device it is posted. -/
def execMsg (c : CoreId) (f : IFields) (s : State) : Step :=
  .next (s.runInstr c f .u false (!f.hasExt) (fun s =>
    let k := s.core c
    let a := (k.a f).toNat
    let dev := a / 4096 % 16
    let dst := a / 256 % 16
    if a ≠ dev * 4096 + dst * 256 + a % 8 then .exc s (Exc.bell bsBAD_MAILBOX)
    else if dev ≠ s.fld R.NIM_CFG_SELF then (if s.hasNim then .done s else .exc s (Exc.bell bsBAD_MAILBOX))
    else if !s.hasCore dst then .exc s (Exc.bell bsBAD_MAILBOX)
    else .stay { s.modCore c (fun k => { k with stw := .msgWait }) with
      fab := { s.fab with msgs := s.fab.msgs ++ [⟨c, k.ctx, dst, a % 8, k.b f⟩] } }))

/-- MSG_DELIVERY (R475, R476): the oldest message in flight, or one from another device of the ring, reaches its mailbox. A local
sender goes on, or takes SYNC with the refusal; a refusal of a remote message is counted in the receiver's BELLERR, and one that
another device returns in the sender's. -/
def execMsgDelivery (m : MsgFrom) (s : State) : Step :=
  .next (match m with
    | .fabric =>
      match s.fab.msgs with
      | [] => s
      | x :: t =>
        let s := { s with fab := { s.fab with msgs := t } }
        let r := s.mboxDeliver x.dst x.mbox x.value (s.fld R.NIM_CFG_SELF) x.src x.ctx true true
        if (r.1.core x.src).stw ≠ .msgWait then r.1 else
        match r.2 with
        | none => r.1.advance x.src ((r.1.core x.src).pc + 4)
        | some e => r.1.raise x.src (Exc.bell e) (r.1.core x.src).pc
    | .remote dev core ctx dst mbox value tenant =>
      if !s.hasNim || dev == s.fld R.NIM_CFG_SELF || s.departed dev || !s.hasCore dst then s else
      match s.mboxDeliver dst mbox value dev core ctx false tenant with
      | (t, none) => t
      | (t, some e) => t.bellErr dst e 6 ctx mbox 0
    | .refused core ctx status mbox => if s.hasNim then s.bellErr core status.toNat 5 ctx mbox 0 true else s)

/-! ### Markers, waits and the detector -/

/-- MARKER_RETURN (R195, R458, R468, R469): once no earlier write of its path is outstanding, the marker leaves the fabric
and is applied, or dropped when its core epoch or generation is stale. -/
def execMarkerReturn (c : CoreId) (id : Nat) (s : State) : Step :=
  .next (match s.fab.markers.find? (fun m => m.core == c.val && m.id == id) with
    | none => s
    | some m =>
      if s.fab.outst.any (fun o => o.write && o.core == m.core && o.unit == m.unit && o.path == m.path && o.cls == m.cls &&
          o.tag < m.id) then s
      else
        let s := { s with fab := { s.fab with markers := s.fab.markers.erase m } }
        if m.epoch ≠ s.fld (R.CORE_EPOCH_EPOCH c) then s
        else (s.deliver c m.obj m.delta.toInt m.gen 6 (s.core c).ctx 0).1)

/-- The Steward of a released wait goes on to the next instruction; its LENT mark ends (R473). -/
def State.releaseSteward (s : State) (c : Nat) : State :=
  (s.advance c ((s.core c).pc + 4)).fldBitClr (R.CORE_BELLSTAT_LENT c) 5

/-- An engine's wait token is satisfied and leaves its queue (R245, R471). -/
def State.releaseToken (s : State) (c e : Nat) : State :=
  let k := s.core c
  if k.dbgHalt || k.halted e then s else
  match k.queue e with
  | .wait obj cond thr _ :: t =>
    if objCond cond (s.fld (R.CORE_SOBJ_VALUE c obj)) thr then
      (s.modCore c (fun k => k.setQueue e t)).fldBitClr (R.CORE_BELLSTAT_LENT c) e
    else s
  | _ => s

/-- WAIT_RELEASE (R240, R471): a wait, barrier wait or wait token whose condition holds is released. -/
def execWaitRelease (c : CoreId) (u : UnitId) (s : State) : Step :=
  .next (
    if u.val < 5 then s.releaseToken c u else
    let k := s.core c
    if k.dbgHalt then s else
    match k.stw with
    | .waitObj obj cond thr =>
      if objCond cond (s.fld (R.CORE_SOBJ_VALUE c obj)) thr then s.releaseSteward c else s
    | .waitBar n =>
      if k.arrival n = 2 then (s.modCore c (fun k => k.setArrival n 0)).releaseSteward c
      else if k.arrival n = 3 then
        (s.modCore c (fun k => k.setArrival n 0)).raise c (Exc.bell bsEPOCH) k.pc
      else s
    | _ => s)

/-- The states of R481, as DLSTAT shows them. -/
inductive UnitState where
  | idle | running | blocked | halted | asleep
deriving DecidableEq, Repr

/-- The state of a unit of a core (R481). -/
def State.unitState (s : State) (c u : Nat) : UnitState :=
  let k := s.core c
  if u = 5 then
    match k.stw with
    | .waitObj .. => .blocked
    | .waitBar _ => .blocked
    | .wfi =>
      if (k.rdCsr 0x18).getLsbD 1 && k.rdCsr 0x24 != BitVec.allOnes 64 then .asleep
      else if k.watches.isEmpty then .blocked else .running
    | .halt => .idle
    | .held => .idle
    | _ => .running
  else if k.halted u then .halted
  else
    match k.queue u with
    | [] => .idle
    | .wait obj cond thr _ :: _ =>
      if objCond cond (s.fld (R.CORE_SOBJ_VALUE c obj)) thr then .running else .blocked
    | _ => .running

/-- The object a blocked unit waits on. -/
def State.waitsOn (s : State) (c u : Nat) : Option (Nat × Nat × Nat) :=
  let k := s.core c
  if u = 5 then
    match k.stw with
    | .waitObj o cd t => some (o, cd, t)
    | _ => none
  else
    match k.queue u with
    | .wait o cd t _ :: _ => some (o, cd, t)
    | _ => none

/-- Whether a core is stuck (R482). -/
def State.coreStuck (s : State) (c : Nat) : Bool :=
  let us := (List.range 6).map (fun u => (u, s.unitState c u))
  us.any (fun p => p.2 == .blocked || p.2 == .halted) && !us.any (fun p => p.2 == .running) &&
    !s.fab.markers.any (·.core == c) && !(s.core c).dbgHalt &&
    !us.any (fun p => p.2 == .blocked && (match s.waitsOn c p.1 with
      | some (o, _, _) => s.flag (R.CORE_SOBJCFG_EXT c o)
      | none => false)) &&
    (match (s.core c).stw with
      | .waitBar n => (List.range 16).all (fun i => i == c || !bit (s.fld (R.BELL_BAR_CORES n)) i) &&
          s.fld (R.BELL_BAR_DEVS n) == 0
      | _ => true)

/-- Whether the device is stuck (R482). -/
def State.deviceStuck (s : State) : Bool :=
  let cs := (List.range 16).filter (fun c => s.fld (fCoreState c) == csSERVING)
  let idle := fun c => (List.range 6).all (fun u => s.unitState c u == .idle)
  cs.any s.coreStuck && cs.all (fun c => s.coreStuck c || idle c) && s.fab.msgs.isEmpty && s.fab.arrivals.isEmpty

/-- The mask of the units of a core in a state. -/
def State.unitMask (s : State) (c : Nat) (q : UnitState) : Nat :=
  ((List.range 6).map (fun u => if s.unitState c u = q then 2 ^ u else 0)).sum

/-- The snapshot of a core frozen in DLSTAT and DLWAITe (R483). -/
def State.snapshot (s : State) (c : Nat) (device : Bool) (us : Nat) : State :=
  let s := ((s.setFld (R.CORE_DLSTAT_VALID c) 1).setFld (R.CORE_DLSTAT_STILL c) 1).setFld
    (R.CORE_DLSTAT_SCOPE c) (if device then 1 else 0)
  let s := ((s.setFld (R.CORE_DLSTAT_ASLEEP c) (s.unitMask c .asleep)).setFld (R.CORE_DLSTAT_HALTED c)
    (s.unitMask c .halted)).setFld (R.CORE_DLSTAT_BLOCKED c) (s.unitMask c .blocked)
  let s := s.setFld (R.CORE_DLSTAT_ELAPSED c) us
  s.iter 6 (fun u s =>
    match s.waitsOn c u, (s.core c).stw with
    | some (o, cd, t), _ =>
      let s := (s.setFld (R.CORE_DLWAIT_VALUE c u) (s.fld (R.CORE_SOBJ_VALUE c o))).setFld (R.CORE_DLWAIT_OBJ c u) o
      ((s.setFld (R.CORE_DLWAIT_BARRIER c u) 0).setFld (R.CORE_DLWAIT_COND c u) cd).setFld (R.CORE_DLWAIT_THRESH c u) t
    | none, .waitBar n =>
      if u = 5 then
        ((s.setFld (R.CORE_DLWAIT_VALUE c u) (s.fld (R.BELL_BARSTAT_GEN n))).setFld (R.CORE_DLWAIT_OBJ c u) n).setFld
          (R.CORE_DLWAIT_BARRIER c u) 1
      else s.setReg (R.CORE_DLWAIT c u) 0
    | none, _ => s.setReg (R.CORE_DLWAIT c u) 0)

/-- Whether the detector of core `c` reports a scope stuck for `us` µs: it is on, its window has passed, and a further full window
since the last report of the same scope (R483). -/
def State.dlDue (s : State) (c us : Nat) (last : Option Nat) : Bool :=
  let w := s.fld (R.CORE_BELLCFG_DL_WINDOW c)
  w != 0 && w ≤ us && (match last with | some t => t + 1000 * w ≤ s.tb2 | none => true)

/-- The report of a core's detector: the snapshot is frozen and DEADLOCK made pending (R483). -/
def State.dlReport (s : State) (c : Nat) (dev : Bool) (us : Nat) : State :=
  (s.snapshot c dev us).modCore c (fun k => { k with
    pend := { k.pend with deadlock := true }
    dlAt := if dev then k.dlAt else some s.tb2
    dlDevAt := if dev then some s.tb2 else k.dlDevAt })

/-- DEADLOCK_REPORT (R483, R484): for a core, or the device, that has been stuck for `us` µs, the snapshot is frozen and DEADLOCK
made pending on every core of the scope whose detector is due. -/
def execDeadlockReport (scope : Option CoreId) (us : Nat) (s : State) : Step :=
  .next (match scope with
    | some c => if s.coreStuck c && s.dlDue c us (s.core c).dlAt then s.dlReport c false us else s
    | none =>
      if s.deviceStuck then
        s.iter 16 (fun c s =>
          if s.fld (fCoreState c) = csSERVING ∧ s.dlDue c us (s.core c).dlDevAt then s.dlReport c true us else s)
      else s)

/-- STILL shows whether the reported condition still holds (R484). -/
def State.dlStill (s : State) (c : Nat) : Bool :=
  s.flag (R.CORE_DLSTAT_VALID c) && (if s.flag (R.CORE_DLSTAT_SCOPE c) then s.deviceStuck else s.coreStuck c)

end Sys2Proof.Machine
end

