-- ==== Sys2Proof/Machine/EngineIssue.lean ====
section
/-! DEFINITION. Class 6 of the Steward, the dispatch of classes 7–11, and the tokens an engine runs (R149, R150,
R242–R246, R254–R256). -/
namespace Sys2Proof

/-- The instruction class of an engine op (R148). -/
def EOp.cls : EOp → Nat
  | .tdld | .tdst | .tdsetw | .tmma => 11
  | .mld | .mst | .mldx | .madd | .msub | .mmul | .mmac | .mred | .mmv | .mmvf | .mrnd => 8
  | .ccfg | .cmpt | .cmpm | .cst | .cinj => 9
  | .mvcpy | .mvrun | .mvfill => 10
  | .vcfg | .vrqcfg | .vld | .vst | .vlds | .vgath | .vscat | .vadd | .vsub | .vmul | .vfma | .vmin | .vmax | .vabs
  | .vneg | .vand | .vor | .vxor | .vshl | .vshr | .vsra | .vcvt | .vreq | .vrsum | .vrmax | .vexp | .vlog | .vrcp
  | .vrsq | .vtanh | .vsigm | .vcmp | .vsel | .vspot => 7

/-- The engine that runs an op: 0 Tensor, 1 Vector, 2 Residue, 3 Compare, 4 Mover (R148). -/
def EOp.eng (o : EOp) : Nat := if o.cls = 11 then 0 else o.cls - 6

/-- The op code of an engine op within its class (R298–R323). -/
def EOp.code : EOp → Nat
  | .tdld => 0x00 | .tdst => 0x01 | .tdsetw => 0x02 | .tmma => 0x08
  | .vcfg => 0x00 | .vrqcfg => 0x01 | .vld => 0x02 | .vst => 0x03 | .vlds => 0x04 | .vgath => 0x05 | .vscat => 0x06
  | .vadd => 0x08 | .vsub => 0x09 | .vmul => 0x0A | .vfma => 0x0B | .vmin => 0x0C | .vmax => 0x0D | .vabs => 0x0E
  | .vneg => 0x0F | .vand => 0x10 | .vor => 0x11 | .vxor => 0x12 | .vshl => 0x13 | .vshr => 0x14 | .vsra => 0x15
  | .vcvt => 0x18 | .vreq => 0x19 | .vrsum => 0x1A | .vrmax => 0x1B
  | .vexp => 0x20 | .vlog => 0x21 | .vrcp => 0x22 | .vrsq => 0x23 | .vtanh => 0x24 | .vsigm => 0x25
  | .vcmp => 0x28 | .vsel => 0x29 | .vspot => 0x30
  | .mld => 0x00 | .mst => 0x01 | .mldx => 0x02 | .madd => 0x08 | .msub => 0x09 | .mmul => 0x0A | .mmac => 0x0B
  | .mred => 0x0C | .mmv => 0x10 | .mmvf => 0x11 | .mrnd => 0x18
  | .ccfg => 0x00 | .cmpt => 0x01 | .cmpm => 0x02 | .cst => 0x03 | .cinj => 0x04
  | .mvcpy => 0x00 | .mvrun => 0x01 | .mvfill => 0x02

/-- The ops whose tables name an extension word (R206, R301, R303, R310, R317). -/
def EOp.extOk : EOp → Bool
  | .vld | .vst | .vcvt | .mld | .mst | .cmpt | .cmpm => true
  | _ => false

/-- The lowest level at which an op may be dispatched: CINJ needs S (R246, R318). -/
def EOp.level : EOp → Machine.Priv
  | .cinj => .s
  | _ => .u

namespace Machine

/-- What an entry dispatched now carries (R149, R287, R457, R460). -/
def State.dispEnv (s : State) (c : Nat) : DispEnv :=
  let k := s.core c
  { priv := k.priv
    cls := k.cls
    ctx := k.ctx
    gen := s.fld (R.CORE_BELLGEN_CTXGEN c)
    depth := s.depth c
    wins := k.wins }

/-- The length of the instruction an entry came from. -/
def Entry.len : Entry → Nat
  | .op _ f _ _ _ _ => f.len
  | _ => 4

/-- Whether every engine named by a list of entries has room for one more of its 16 (R148, R150, R243). -/
def Core.room (k : Core) (es : List (Nat × Entry)) : Bool := es.all (fun p => (k.queue p.1).length < 16)

/-- Entries placed at the ends of their queues. -/
def Core.enqueue (k : Core) (es : List (Nat × Entry)) : Core :=
  es.foldl (fun k p => k.setQueue p.1 (k.queue p.1 ++ [p.2])) k

/-- The record of a dispatched entry of classes 7–11 (R784). -/
def State.traceDispatch (s : State) (c : Nat) (es : List (Nat × Entry)) : State :=
  es.foldl (fun s p => match p.2 with
    | .op o .. => s.traceRec c 5 (o.cls * 64 + o.code)
    | _ => s) s

/-- Entries issued by the instruction that names them: queued when every named queue has room, else the Steward stalls
with them (R149, R150, R243). -/
def State.issue (s : State) (c : Nat) (es : List (Nat × Entry)) : SOut :=
  if (s.core c).room es then .done ((s.traceDispatch c es).modCore c (fun k => k.enqueue es))
  else .stay (s.modCore c (fun k => { k with stw := .queueFull es }))

/-- QUEUE_ENTRY_FREE (R150): the stalled instruction issues once every queue it names has room. -/
def execQueueEntryFree (c : CoreId) (s : State) : Step :=
  .next (match (s.core c).stw with
    | .queueFull es =>
      let k := s.core c
      if !k.dbgHalt && k.room es then
        let len := match es with
          | (_, e) :: _ => e.len
          | [] => 4
        ((s.traceDispatch c es).modCore c (fun k => k.enqueue es)).advance c (k.pc + w64 len)
      else s
    | _ => s)

/-- The engines of a mask. -/
def engsOf (mask : Nat) : List Nat := (List.range 5).filter (bit mask)

/-- FENCES (R242): completes once every named engine's queue is empty; a halted engine is not drained (R256). -/
def execFences (c : CoreId) (f : IFields) (s : State) : Step :=
  .next (s.runInstr c f .u true (!f.hasExt && f.imm8 < 32) (fun s =>
    if (engsOf f.imm8).all (fun e => ((s.core c).queue e).isEmpty) then .done s else .stay s))

/-- FENCEE (R242, R243): a fence token in the queue of every named engine at once; an empty mask has no effect. -/
def execFencee (c : CoreId) (f : IFields) (s : State) : Step :=
  .next (s.runInstr c f .u false (!f.hasExt && f.imm8 < 32) (fun s =>
    s.issue c ((engsOf f.imm8).map (fun e => (e, Entry.fence f.imm8 (s.dispEnv c))))))

/-- MFENCE (R242): completes once no access or posted store of the Steward is outstanding. -/
def execMfence (c : CoreId) (f : IFields) (s : State) : Step :=
  .next (s.runInstr c f .u true (!f.hasExt && f.dst == 0 && f.srcA == 0 && f.srcB == 0) (fun s => .done s))

/-- The object of a token (R455): a refusal raises ILLEGAL and records its status in BELLERR. -/
def State.tokenObj (s : State) (c : CoreId) (f : IFields) (body : State → Nat → SOut) : SOut :=
  let k := s.core c
  let vid := (k.a f).toNat
  if 1023 < vid then .exc s (.sync 0x03) else
  match s.translate c k.ctx vid k.slotCls with
  | .error e => .exc (s.bellErr c e 5 k.ctx 0 vid) (.sync 0x03)
  | .ok obj => body s obj

/-- QSIG (R242, R455, R460): a signal token; a guard address the level may not write raises ACCESS (R216, R217). -/
def execQsig (c : CoreId) (f : IFields) (s : State) : Step :=
  .next (s.runInstr c f .u false (!f.hasExt && f.dst.toNat % 8 < 5) (fun s => s.tokenObj c f (fun s obj =>
    let k := s.core c
    let g := (k.b f).toNat
    if g ≠ 0 ∧ !s.dataOk k.priv k.wins true g 1 then .exc s ⟨0x06, 0, 0, false, k.b f⟩
    else (s.countDelta c obj 1).issue c [(f.dst.toNat % 8, Entry.signal obj g (s.dispEnv c))])))

/-- QWAIT (R242, R455): a wait token. -/
def execQwait (c : CoreId) (f : IFields) (s : State) : Step :=
  .next (s.runInstr c f .u false (condOk f && f.dst.toNat % 8 < 5) (fun s => s.tokenObj c f (fun s obj =>
    s.issue c [(f.dst.toNat % 8, Entry.wait obj f.low3 (((s.core c).b f).toNat % 2 ^ 32) (s.dispEnv c))])))

/-- The word of QSTAT (R242): free entries, halted, idle. -/
def Core.qstat (k : Core) (e : Nat) : Nat :=
  (16 - (k.queue e).length) + (if k.halted e then 256 else 0) + (if (k.queue e).isEmpty then 512 else 0)

/-- QSTAT (R242). -/
def execQstat (c : CoreId) (f : IFields) (s : State) : Step :=
  .next (s.runInstr c f .u false (!f.hasExt && f.srcA.toNat % 8 < 5) (fun s =>
    .done (s.modCore c (fun k => k.setS f.dst.toNat (w64 (k.qstat (f.srcA.toNat % 8)))))))

/-- The halt and EERR of an engine cleared; an ENGINE event not yet taken stays pending (R242, R249). -/
def Core.clearHalt (k : Core) (e : Nat) : Core := k.wrCsr (0x38 + e) 0

/-- EFLUSH (R242): every entry discarded, the halt and EERR cleared. -/
def execEflush (c : CoreId) (f : IFields) (s : State) : Step :=
  .next (s.runInstr c f .s true (!f.hasExt && f.srcA.toNat % 8 < 5) (fun s =>
    .done (s.modCore c (fun k => (k.setQueue (f.srcA.toNat % 8) []).clearHalt (f.srcA.toNat % 8)))))

/-- ERESUME (R242): the halted entry discarded, the halt and EERR cleared; an engine that is not halted loses no entry. -/
def execEresume (c : CoreId) (f : IFields) (s : State) : Step :=
  .next (s.runInstr c f .s true (!f.hasExt && f.srcA.toNat % 8 < 5) (fun s =>
    let e := f.srcA.toNat % 8
    .done (s.modCore c (fun k =>
      if k.halted e then (k.popQueue e).clearHalt e else k))))

/-- DISPATCH (R149, R150, R246): an instruction of classes 7–11 queued with its scalar operands and what R287 captures. -/
def execDispatch (c : CoreId) (op : EOp) (f : IFields) (s : State) : Step :=
  .next (s.runInstr c f op.level false (!f.hasExt || op.extOk) (fun s =>
    let k := s.core c
    s.issue c [(op.eng, Entry.op op f (k.a f) (k.b f) (k.d f) (s.dispEnv c))]))

/-! ### Tokens -/

/-- Whether an engine may run the head of its queue: not halted (R254, R256) and not halted by the debugger (R782). -/
def Core.engineFree (k : Core) (e : Nat) : Bool := !k.dbgHalt && !k.halted e && !bit k.withheld e

/-- FENCE_TOKEN (R243): once every engine the token names has reached its own, all of them go on together. -/
def execFenceToken (c : CoreId) (e : EngId) (s : State) : Step :=
  let k := s.core c
  .next (match k.queue e with
    | .fence mask _ :: _ =>
      let atToken := fun i => k.engineFree i && (match k.queue i with
        | .fence m _ :: _ => m == mask
        | _ => false)
      if (engsOf mask).all atToken then
        s.modCore c (fun k => (engsOf mask).foldl (fun k i => k.setQueue i ((k.queue i).drop 1)) k)
      else s
    | _ => s)

/-- SIGNAL_TOKEN (R244, R458, R468): an unguarded token is delivered to its object, a guarded one is posted as a marker
behind the engine's writes on the path of its guard address. -/
def execSignalToken (c : CoreId) (e : EngId) (s : State) : Step :=
  let k := s.core c
  .next (match k.queue e with
    | .signal obj guard env :: t =>
      if !k.engineFree e then s else
      let s := s.modCore c (fun k => k.setQueue e t)
      if guard = 0 then (s.deliver c obj 1 env.gen e env.ctx 0).1
      else s.postMarker c e (s.pathOf (s.loc (some c) guard)) obj 1 env.gen env.cls
    | _ => s)

/-- WAIT_TOKEN (R245): the engine reaches the token and goes on at once when its condition holds; else it is held. -/
def execWaitToken (c : CoreId) (e : EngId) (s : State) : Step :=
  .next (if (s.core c).engineFree e then s.releaseToken c e else s)

end Machine
end Sys2Proof
end

