-- ==== Sys2Proof/Machine/Injection.lean ====
section
/-! DEFINITION. The injection test of the Compare engines (R386–R390) and the golden area (R393). -/
namespace Sys2Proof.Machine

/-- The golden area's contents do not survive a golden window or an injection test (R393). -/
def State.scrambleGolden (s : State) (c : Nat) : State :=
  let a := 0x1000000000 + c * 0x200000
  s.loseRegion (8 + c) [(a, a + 0x1F0000)]

/-- An injection of R387, or with `elem` none a control comparison of R389: the operand (0 P, 1 Q, 2 R), CCFG, n, the element and the
XOR pattern. -/
structure Injection where
  operand : Nat
  cfg : CmpCfg
  n : Nat
  elem : Option Nat
  pat : Nat
deriving DecidableEq, Repr

/-- A CCFG by mode, format code, ATOL, RTOL (F32 bits) and ULPS. -/
def cfgOf (mode fmt atol rtol ulps : Nat) : CmpCfg := ⟨BitVec.ofNat 32 atol, BitVec.ofNat 32 rtol, BitVec.ofNat 32 ulps, mode, fmt⟩

/-- The rows of R387 before an operand's injections are spread out: `count` injections, the k-th at `elem k` with `pat k`. -/
def injRow (operand : Nat) (cfg : CmpCfg) (n count : Nat) (elem pat : Nat → Nat) : List Injection :=
  (List.range count).map (fun k => ⟨operand, cfg, n, some (elem k), pat k⟩)

/-- F32 (code 9), I32 (code 3) and I8 (code 1) as the test uses them, and its configurations (R387). -/
def injExactI32 : CmpCfg := cfgOf 0 3 0 0 0
def injExactI8 : CmpCfg := cfgOf 0 1 0 0 0
def injAbs : CmpCfg := cfgOf 1 9 0x3F800000 0 0
def injRel : CmpCfg := cfgOf 2 9 0 0x3E800000 0
def injUlpF32 : CmpCfg := cfgOf 3 9 0 0 4
def injUlpI32 : CmpCfg := cfgOf 3 3 0 0 4
def injExactF32 : CmpCfg := cfgOf 0 9 0 0 0

/-- The 64 injections, number 1 first (R387). -/
def injections : List Injection :=
  injRow 0 injExactI32 1024 32 (fun k => 33 * k % 1024) (fun k => 2 ^ k) ++
  injRow 0 injExactI32 1024 8 (fun k => 1023 - 97 * k) (fun k => 3 * 2 ^ (4 * k)) ++
  injRow 0 injExactI32 1024 4 (fun k => 128 + 200 * k) (fun k => 0xFF * 2 ^ (8 * k)) ++
  injRow 0 injExactI32 1024 2 (fun k => 500 + k) (fun k => 0xFFFF * 2 ^ (16 * k)) ++
  injRow 0 injExactI32 1024 1 (fun _ => 777) (fun _ => 0xFFFFFFFF) ++
  injRow 0 injExactI32 1024 1 (fun _ => 5) (fun _ => 0x80000001) ++
  injRow 0 injExactI8 4096 8 (fun k => 4095 - 511 * k) (fun k => 2 ^ k) ++
  injRow 1 injAbs 1024 2 (fun k => 600 + 100 * k) (fun _ => 0x00800000) ++
  injRow 1 injRel 1024 2 (fun k => 300 + 600 * k) (fun _ => 0x00800000) ++
  injRow 1 injUlpF32 1024 2 (fun k => 257 + 766 * k) (fun _ => 7) ++
  injRow 2 injUlpI32 1024 1 (fun _ => 16) (fun _ => 8) ++
  injRow 1 injExactF32 1024 1 (fun _ => 0) (fun _ => 0x80000000)

/-- The seven control comparisons, one for each pair of MODE and FMT (R389). -/
def controls : List Injection :=
  [⟨0, injExactI32, 1024, none, 0⟩, ⟨0, injExactI8, 4096, none, 0⟩, ⟨1, injAbs, 1024, none, 0⟩, ⟨1, injRel, 1024, none, 0⟩,
   ⟨1, injUlpF32, 1024, none, 0⟩, ⟨2, injUlpI32, 1024, none, 0⟩, ⟨1, injExactF32, 1024, none, 0⟩]

/-- Element `i` of operand P, Q or R in the format of a comparison (R387). -/
def injElem (operand fmt i : Nat) : Nat :=
  let word := fun (j : Nat) => match operand with
    | 0 => j * 0x9E3779B9 % 2 ^ 32
    | 1 => fmtF32.encode (FV.fin false j 0)
    | _ => j
  if fmt = 1 then word (i / 4) / 2 ^ (8 * (i % 4)) % 256 else word i

/-- The record that a comparison of two equal operands leaves: every element matches but the injected one, which is compared as
the engine compares it (R315, R316, R318). -/
def Injection.record (j : Injection) : CmpReg :=
  let clean : CmpReg := { CmpReg.empty with compared := j.n - 1 }
  match j.elem with
  | none => { clean with compared := j.n }
  | some i =>
    let y := injElem j.operand j.cfg.fmt i
    let x := y ^^^ (j.pat % 2 ^ fmtBits j.cfg.fmt)
    { clean with flags := 4 }.note i true (j.cfg.one (x, 127) (y, 127))

/-- Whether a record shows an injection flagged (R388), or a control comparison passed (R389). -/
def Injection.good (j : Injection) (r : CmpReg) : Bool :=
  match j.elem with
  | some i => r.compared == j.n && r.mismatch == 1 && r.first == i && r.flags % 16 == 5
  | none => r.compared == j.n && r.mismatch == 0

/-- The record of comparison `k` of a core's test, injections 1 to 64 and then controls 65 to 71: what a defective engine left, or else
what the comparison gives. -/
def injRecord (l : List InjRec) (c k : Nat) (j : Injection) : CmpReg :=
  match l.find? (fun r => r.core.val == c && r.num.val + 1 == k) with
  | some r => ⟨r.compared.toNat, r.mismatch.toNat, r.first.toNat, r.flags.toNat, 0, 0, none⟩
  | none => j.record

/-- How many of the 64 injections a core flags, and whether all its controls pass (R388, R389). -/
def injFlagged (l : List InjRec) (c : Nat) : Nat :=
  ((injections.zipIdx).filter (fun p => p.1.good (injRecord l c (p.2 + 1) p.1))).length
def injControls (l : List InjRec) (c : Nat) : Bool :=
  (controls.zipIdx).all (fun p => p.1.good (injRecord l c (p.2 + 65) p.1))

/-- Whether a core passes the injection test (R390). -/
def injPass (l : List InjRec) (c : Nat) : Bool := injFlagged l c == 64 && injControls l c

/-- The outcome of a core's injection test in INJSTAT; the test leaves CCFG as its last comparison set it, the result registers
cleared by their CST, and the golden area used (R387, R390, R393). -/
def State.injTest (s : State) (l : List InjRec) (c : Nat) : State :=
  let n := injFlagged l c
  let s := (s.scrambleGolden c).modCore c (fun k => { k with ccfg := injExactF32, cres := [] })
  let s := ((s.setFld (R.CORE_INJSTAT_RAN c) 1).setFld (R.CORE_INJSTAT_FLAGGED c) n).setFld (R.CORE_INJSTAT_MISSED c) (64 - n)
  (s.setFld (R.CORE_INJSTAT_CTRL_FAIL c) (if injControls l c then 0 else 1)).setFld (R.CORE_INJSTAT_PASS c)
    (if injPass l c then 1 else 0)

end Sys2Proof.Machine
end

