-- ==== Sys2Proof/Machine/Programs.lean ====
section
/-! DEFINITION. Slots, passes and the services of the S runtime: starting a program, its ECALL services, its end, and overruns
(R261–R265, R355, R358, R359, R363–R379, R410, R426, R442–R445, R503). -/
namespace Sys2Proof.Machine

/-! ### Passes -/

/-- σ, ρV and ρT of a pass of frame `f` (R365). -/
def passSigma (two : Bool) (f : Nat) : Nat := if two then 1 + 5 * f % 31 else 0
def passRhoT (two : Bool) (f : Nat) : Nat := (11 * f % 32 + (if two then 16 else 0)) % 32
def passRhoV (two : Bool) (f : Nat) : Nat := (11 * f % 64 + (if two then 32 else 0)) % 64

/-- The state with the ended passes replaced. -/
def State.setPasses (s : State) (l : List PassOut) : State := { s with jobs := { s.jobs with passes := l } }

/-- A core's program run has ended: no slot is in progress and PAIRSTAT shows no pass. -/
def State.endRun (s : State) (c : Nat) : State :=
  ((s.modCore c (fun k => { k with slot := none })).setFld (R.CORE_PAIRSTAT_ACTIVE c) 0).traceRec c 4
    (((s.core c).slot.map (·.idx)).getD 0)

/-! ### Starting a program (R261, R410, R442–R444) -/

/-- The TB2 times at which a slot of a core begins and ends in the reference frame in progress (R442). -/
def State.slotBegin (s : State) (c i : Nat) : Nat :=
  s.fld (R.TAP_T_FSTIME_TIME (s.fld R.TAP_LTCFG_REF)) / 2 ^ 32 * 1000000000 +
    s.fld (R.TAP_T_FSTIME_TIME (s.fld R.TAP_LTCFG_REF)) % 2 ^ 32 + 1000 * s.fld (R.CORE_SLOT_START c i)
def State.slotEnd (s : State) (c i : Nat) : Nat := s.slotBegin c i + 1000 * s.fld (R.CORE_SLOT_LENGTH c i)

/-- The CORE cycles that a slot still holds (R261, R443). -/
def State.slotRest (s : State) (c i : Nat) : Nat := 3 * (s.slotEnd c i - max s.tb2 (s.slotBegin c i)) / 2

/-- Whether a slot ends by the deadline of a job's frame less 20 µs (R410). -/
def State.slotFits (s : State) (c i : Nat) (j : Job) : Bool :=
  match s.route j.route, s.openFrame j.route j.frame with
  | some rc, some fr => s.slotEnd c i + 20000 ≤ fr.deadline rc
  | _, _ => false

/-- The slot that runs a program on a core, first pass. -/
def State.slotOf (s : State) (c prog : Nat) : Option Nat :=
  (List.range 32).find? (fun i => s.flag (R.CORE_SLOT_VALID c i) && s.fld (R.CORE_SLOT_PROG c i) == prog &&
    !s.flag (R.CORE_SLOT_PASS2 c i))

/-- The oldest job of a program that may run in a slot that begins at a time: its inputs were complete by then (R409, R410). -/
def State.readyJob (s : State) (prog start : Nat) : Option Job :=
  s.jobs.jobs.find? (fun j => (match s.route j.route with
      | some rc => rc.prog == prog && !rc.display
      | none => false) &&
    j.inputsAt.isSome && j.inputsTb ≤ start && !j.ran && !j.lost && !j.refused)

/-- The C0 job that takes slot `i` of a core for its re-run (R443): its work lay on this core, the slot is not C0, what remains of it
holds the program's slot length, it ends in time, and no C2 slot that is left in the frame would be taken before a C1 one. -/
def State.reRunJob (s : State) (c i : Nat) : Option Job :=
  let rest := fun k => s.slotEnd c k - max s.tb2 (s.slotBegin c k)
  let fits := fun (j : Job) k => s.flag (R.CORE_SLOT_VALID c k) && s.fld (R.CORE_SLOT_CLASS c k) != 0 &&
    s.slotFits c k j && (match s.route j.route with
      | some rc => (match s.slotOf c rc.prog with
        | some o => 1000 * s.fld (R.CORE_SLOT_LENGTH c o) ≤ rest k
        | none => false)
      | none => false)
  s.jobs.jobs.find? (fun j => j.rerun && j.cls == 0 && j.core == c && !j.ran && j.inputsAt.isSome && !j.lost && fits j i &&
    (s.fld (R.CORE_SLOT_CLASS c i) == 2 ||
      !(List.range 32).any (fun k => k != i && s.fld (R.CORE_SLOT_CLASS c k) == 2 && fits j k)))

/-- A job refused for capacity (R444, R445). -/
def State.refuseJob (s : State) (j : Job) : State :=
  (s.modJob j.route j.frame (fun j => { j with refused := true })).satInc (R.VERD_CLIENT_REFUSED_COUNT (j.client - 1))

/-- A C1 job moved to the next slot of its program, or refused (R444, R448). -/
def State.delayJob (s : State) (c i : Nat) (j : Job) : State :=
  match s.route j.route with
  | none => s
  | some rc =>
    let nxt := (List.range 32).find? (fun k => s.flag (R.CORE_SLOT_VALID c k) && s.fld (R.CORE_SLOT_PROG c k) == rc.prog &&
      s.fld (R.CORE_SLOT_START c i) < s.fld (R.CORE_SLOT_START c k))
    match nxt with
    | none => s.refuseJob j
    | some k =>
      let d := j.delay + (s.fld (R.CORE_SLOT_START c k) - s.fld (R.CORE_SLOT_START c i))
      if rc.slack < d ∨ !s.slotFits c k j then s.refuseJob j
      else
        let s := s.modJob j.route j.frame (fun j => { j with delay := d })
        let s := s.satInc (R.VERD_CLIENT_DELAYED_COUNT (j.client - 1))
        let m := R.VERD_CLIENT_MAXDELAY_COUNT (j.client - 1)
        s.setFld m (max (s.fld m) (min d (2 ^ 32 - 1)))

/-- The job that a taken slot belonged to loses it (R444). -/
def State.loseSlot (s : State) (c i : Nat) : State :=
  match s.readyJob (s.fld (R.CORE_SLOT_PROG c i)) (s.slotBegin c i) with
  | none => s
  | some j => if j.cls = 2 then s.refuseJob j else if j.cls = 1 then s.delayJob c i j else s

/-- A page-aligned window over a range with permission bits (R222, R261). -/
def winB (base perm : Nat) : Word := w64 (base / 0x1000 * 0x1000 + perm)
def winL (base size : Nat) : Word := w64 ((base + size - 1) / 0x1000 * 0x1000 + 1)

/-- Whether a U window, as its B and L words, touches a range of bytes. -/
def winOver (w : Word × Word) (a n : Nat) : Bool :=
  0 < n && w.1.toNat / 0x1000 ≤ (a + n - 1) / 0x1000 && a / 0x1000 ≤ w.2.toNat / 0x1000

/-- Whether the runtime may give a program a U window: never X with W, nor W over the code (R222, R261), and in a pass of a pair
nothing over the output area of the other pass, nor in pass 2 over an output that pass 1 declared (R374). -/
def State.winOk (s : State) (c : Nat) (p : Prog) (run : SlotRun) (w : Word × Word) : Bool :=
  let other := if run.pass2 then 1 else 2
  let outs := if run.pass2 then (s.jobs.passes.filter (fun x => x.core == c && x.prog == p.idx && !x.final)).flatMap (·.outs) else []
  !(bit w.1.toNat 1 && (bit w.1.toNat 2 || winOver w p.code p.codeSize)) &&
  (!s.paired p || run.single || !(winOver w (Config.passArea p.idx other) (Config.passSize p.idx other) ||
    outs.any (fun o => winOver w o.1 o.2)))

/-- Whether the S runtime of a core can start a program: at S outside a handler of M, running or waiting (R213, R214, R233, R261). -/
def State.runtimeFree (s : State) (c : Nat) : Bool :=
  let k := s.core c
  k.priv == .s && (k.stw == .run || k.stw == .wfi) && k.slot.isNone && !k.dbgHalt

/-- The program of a slot started at U (R261): the windows, SLOTLEFT, the arguments in s1–s4, every other register 0, and
ERET to the entry point. Windows 1–3 are the runtime's choice; one that it may not give is left unset. -/
def State.startProgram (s : State) (c i : Nat) (p : Prog) (run : SlotRun) (left : Nat) (desc : Word) (ws : List (Word × Word)) :
    State :=
  let okWin := s.winOk c p run
  let k := s.core c
  let k := { k with s := [], p := 0, slot := some run, stw := .run }
  let k := (k.setS 1 desc).setS 2 (w64 run.frame)
  let k := (k.setS 3 (w64 run.epoch)).setS 4 (w64 (s.slotEnd c i))
  let k := ((k.wrCsr 0x28 (winB p.code 5)).wrCsr 0x29 (winL p.code p.codeSize))
  let k := ws.zipIdx.foldl (fun k w =>
    let w' := if okWin w.1 then w.1 else (0, 0)
    (k.wrCsr (0x2A + 2 * w.2) w'.1).wrCsr (0x2B + 2 * w.2) w'.2) k
  let k := k.wrCsr 0x30 (w64 left)
  let k := (k.wrCsr 0x0A (w64 (p.code + p.entry))).wrCsr 0x08 (k.rdCsr 0x08 &&& 2#64 ||| 4#64)
  let s := (s.setCore c k).traceRec c 3 i
  let s := if s.paired p then
      (((((s.setFld (R.CORE_PAIRSTAT_ACTIVE c) 1).setFld (R.CORE_PAIRSTAT_PASS2 c) (if run.pass2 then 1 else 0)).setFld
        (R.CORE_PAIRSTAT_SIGMA c) (passSigma run.pass2 run.frame))).setFld
        (R.CORE_PAIRSTAT_RHOV c) (passRhoV run.pass2 run.frame)).setFld
        (R.CORE_PAIRSTAT_RHOT c) (passRhoT run.pass2 run.frame)
    else s
  s.eret c

/-- The pass mode of a job's frame: the one in force at its boundary (R384). -/
def State.frameSingle (s : State) (j : Job) : Bool := ((s.openFrame j.route j.frame).map (·.single)).getD false

/-- The run of a job's first or only pass. -/
def State.jobRun (s : State) (i cls : Nat) (p : Prog) (j : Job) : SlotRun :=
  { idx := i, cls := cls, prog := p.idx, pass2 := false, route := j.route, frame := j.frame
    epoch := ((s.openFrame j.route j.frame).map (·.epoch)).getD 0, outs := [], single := s.paired p && s.frameSingle j
    exited := false }

/-- The layer table of a route validated when the first of its frames runs; found invalid, it is so from that frame on (R328). -/
def State.validateTable (s : State) (r f : Nat) (p : Prog) : State :=
  let k := s.routeSt r
  if k.tableSeen then s
  else s.setRouteSt r { k with tableSeen := true, tableBad := if (s.layerTable p).ok then none else some f }

/-- A job's run marked begun on a core (R328). -/
def State.beginJob (s : State) (c : Nat) (p : Prog) (j : Job) : State :=
  (s.modJob j.route j.frame (fun j => { j with ran := true, core := c, single := s.paired p && s.frameSingle j })).validateTable
    j.route j.frame p

/-- SLOT_START (R261, R364, R410, R424, R442–R444): a slot of the table starts in SERVING or DEGRADED on a serving core whose S runtime
is free, while line time lies in the slot (log entry 177). It serves a C0 re-run that takes it, pass 2 of a pair whose pass 1 has ended, a Hearth stage of the
tap's frame, or the oldest ready job of its program. -/
def execSlotStart (c : CoreId) (i : Fin 32) (desc : Word) (w1 w2 w3 : Word × Word) (s : State) : Step :=
  let ws := [w1, w2, w3]
  let prog := s.fld (R.CORE_SLOT_PROG c i)
  let cls := s.fld (R.CORE_SLOT_CLASS c i)
  let left := 1500 * s.fld (R.CORE_SLOT_LENGTH c i)
  .next (
    if !s.serving || s.fld (fCoreState c) != csSERVING || !s.flag (R.CORE_SLOT_VALID c i) ||
      s.fld (R.CORE_SLOTCFG_COUNT c) == 0 || !s.runtimeFree c || s.tb2 < s.slotBegin c i || s.slotEnd c i ≤ s.tb2 then s
    else match s.reRunJob c i with
    | some j =>
      match (s.route j.route).bind (fun rc => s.prog rc.prog) with
      | none => s
      | some p =>
        let s := (s.loseSlot c i).beginJob c p j
        s.startProgram c i p (s.jobRun i 0 p j) (s.slotRest c i) desc ws
    | none =>
      match s.prog prog with
      | none => s
      | some p =>
        if s.flag (R.CORE_SLOT_PASS2 c i) then
          match s.jobs.passes.find? (fun x => x.core == c.val && x.prog == prog && !x.final) with
          | none => s
          | some x =>
            let run : SlotRun := { idx := i, cls := cls, prog := prog, pass2 := true, route := x.route, frame := x.frame
                                   epoch := ((s.openFrame x.route x.frame).map (·.epoch)).getD 0, outs := [], single := false
                                   exited := false }
            s.startProgram c i p run left desc ws
        else
          match s.stages.find? (fun h => h.2.2 == prog) with
          | some (h, st, _) =>
            let tap := ((s.hearthCfg[h]?).map (·.1)).getD 0
            let f := s.fld (R.TAP_T_STAT_FRAME tap)
            let prev := SMap.get (fun _ => 0) (SMap.get (fun _ => HearthSt.empty) s.jobs.hearth h).done (st - 1)
            if st ≠ 0 ∧ prev ≠ f + 1 then s
            else s.startProgram c i p { idx := i, cls := cls, prog := prog, pass2 := false, route := 64 + 4 * h + st,
                                        frame := f, epoch := 0, outs := [], single := p.single, exited := false } left desc ws
          | none =>
            match s.readyJob prog (s.slotBegin c i) with
            | some j =>
              if s.slotFits c i j then (s.beginJob c p j).startProgram c i p (s.jobRun i cls p j) left desc ws else s
            | none =>
              match s.jobs.jobs.find? (fun j => (match s.route j.route with
                  | some rc => rc.prog == prog
                  | none => false) && j.cls == 1 && j.inputsAt.isNone && !j.pulls.isEmpty) with
              | some j => s.delayJob c i j
              | none => s)

/-! ### Services of the S runtime -/

/-- Whether core `c` is in the S handler of an ECALL from its program with service code `n` (R247, R263). -/
def State.inService (s : State) (c n : Nat) : Bool :=
  let k := s.core c
  k.priv == .s && k.inExc .s && (k.rdCsr 0x09).toNat % 256 == 0x0B && (k.rdCsr 0x0B).toNat == n && k.stw == .run &&
    k.slot.isSome && !k.dbgHalt && (k.rdCsr 0x08).toNat / 16 % 4 == 0

/-- A service that returns to its program: `g` writes the registers, then ERET (R234). -/
def State.serve (s : State) (c n : Nat) (g : State → SlotRun → State) : State :=
  if s.inService c n then
    match (s.core c).slot with
    | some run => (g s run).eret c
    | none => s
  else s

/-- PASS_INFO (R365). -/
def execPassInfo (c : CoreId) (s : State) : Step :=
  .next (s.serve c 0x11 (fun s run =>
    let two := run.pass2
    let f := run.frame % 2 ^ 32
    s.modCore c (fun k => (((((k.setS 1 (if two then 2 else 1)).setS 2 (w64 (passRhoT two f))).setS 3
      (w64 (passRhoV two f))).setS 4 (w64 (64 * passSigma two f))).setS 5
      (w64 (if two then 1 + 7 * f % 120 else 0))).setS 6 (w64 (Config.passArea run.prog (if two then 2 else 1))))))

/-- PASS_OUT (R375): an output of 1 to 2^24 bytes declared, at most 16 in a pass; any other is not recorded. -/
def execPassOut (c : CoreId) (s : State) : Step :=
  .next (s.serve c 0x12 (fun s run =>
    let a := ((s.core c).sreg 1).toNat
    let n := ((s.core c).sreg 2).toNat
    if 1 ≤ n ∧ n ≤ 2 ^ 24 ∧ run.outs.length < 16 then
      s.modCore c (fun k => { k with slot := some { run with outs := run.outs ++ [(a, n)] } })
    else s))

/-- HEARTH_REF (R426). The identifier returned in s3 is the runtime's choice and stays free. -/
def execHearthRef (c : CoreId) (s : State) : Step :=
  .next (s.serve c 0x13 (fun s run =>
    match s.route run.route with
    | none => s.modCore c (fun k => ((k.setS 1 0).setS 2 0))
    | some rc =>
      let h := SMap.get (fun _ => HearthSt.empty) s.jobs.hearth rc.hearth
      let ready := rc.hearth ≠ 0xFF ∧ s.hearthReady rc.hearth run.frame = true
      let q := s.draw
      q.2.modCore c (fun k => ((k.setS 1 (w64 (if ready then h.addr else 0))).setS 2 (w64 (if ready then h.len else 0))).setS 3
        (w64 (q.1 % 1024)))))

/-- The address of a buffer of a tap's frame ring (R502). -/
def State.ringBuf (s : State) (tap b : Nat) : Nat :=
  let size := s.fld (R.TAP_T_GEOM_ACTIVE tap) * (64 * s.fld (R.TAP_RING_STRIDE tap))
  0x1000 * s.fld (R.TAP_RING_BASE tap) + b * ((size + 4095) / 4096 * 4096)

/-- TAP_FRAME (R503): the buffer of a stored frame, its stride, the lines received so far and its outcome. -/
def execTapFrame (c : CoreId) (s : State) : Step :=
  .next (s.serve c 0x14 (fun s _ =>
    let k := s.core c
    let tap := (k.sreg 1).toNat
    let f := (k.sreg 2).toNat
    let b := if 8 ≤ tap then none else (s.tap tap).bufs.find? (fun x => x.2 == f)
    let cur := s.fld (R.TAP_T_STAT_FRAME tap) == f
    s.modCore c (fun k => (((k.setS 1 (w64 ((b.map (fun x => s.ringBuf tap x.1)).getD 0))).setS 2
      (w64 (if tap < 8 then 64 * s.fld (R.TAP_RING_STRIDE tap) else 0))).setS 3
      (w64 (if cur then s.fld (R.TAP_T_STAT_RXLINE tap) else s.fld (R.TAP_T_GEOM_ACTIVE tap)))).setS 4
      (w64 ((s.outcome tap f).getD 0)))))

/-- Where the Steward of core `n` finds its own scratchpad through the alias (R161). -/
def aliasPa (n a : Nat) : Nat := 0x1000000000 + n * 0x200000 + a % 0x200000

/-- CHECK_DONE (R328, R342, R343, R358, R359): a mismatch fails the layer; a clean record credits it once, when its counts and its
vector allow; not under an invalid layer table, and a FIXEDB layer only once the constants of the job's bundle are ready, which the
runtime decides. -/
def execCheckDone (c : CoreId) (s : State) : Step :=
  .next (s.serve c 0x10 (fun s run =>
    match s.prog run.prog, s.job run.route run.frame, s.openFrame run.route run.frame with
    | some p, some j, some fr =>
      let k := s.core c
      let t := s.layerTable p
      let i := (k.sreg 1).toNat
      let rec_ := s.bytes (aliasPa c (k.sreg 2).toNat) 32
      let vecs := (k.sreg 3).toNat
      match t.layers[i]? with
      | none => s
      | some l =>
        let q := s.draw
        let s := q.2
        let rk := s.routeSt run.route
        let ep := rk.epochOf fr
        let fixed := bit l.flags 0 && l.mode ≤ 1
        let s := if fixed && q.1 / 4 % 2 == 1 then s.setRouteSt run.route (rk.readyEpoch fr.epoch) else s
        let ready := !fixed || q.1 / 4 % 2 == 1 || (ep.map (·.ready)).getD false
        let own := !fixed || j.bundle == 0 || (ep.map (·.bundle)).getD 0 == j.bundle
        if leAt rec_ 4 4 ≠ 0 then
          let why := if l.mode = 0 then 1 else if l.mode = 1 then 2 + q.1 % 2 else 4
          s.modJob j.route j.frame (fun j => { j with failed := match j.failed with
            | some (n, w) => if i < n then some (i, why) else some (n, w)
            | none => some (i, why) })
        else
          let want := if l.mode ≤ 1 then l.m * vecs
            else l.m / l.spotq + (if l.m % l.spotq = 0 then 0 else q.1 % 2)
          if l.mode ≤ 2 ∧ !bit (leAt rec_ 0xC 4) 2 ∧ leAt rec_ 0 4 = want ∧ 1 ≤ vecs ∧ vecs ≤ t.vecs ∧
              t.current fr.age = true ∧ fr.epoch ≠ 0 ∧ ready = true ∧ own = true ∧ rk.badTable run.frame = false ∧ !j.credits.any (·.idx == i) then
            s.modJob j.route j.frame (fun j => { j with
              credits := j.credits ++ [⟨i, vecs, (k.sreg 4).toNat, leAt rec_ 0 4⟩] })
          else s
    | _, _, _ => s))

/-! ### The end of a program -/

/-- Whether the outputs of two passes are equal, in count, lengths and bytes (R376, R377). -/
def State.outsEqual (s : State) (c : Nat) (a b : List (Nat × Nat)) : Bool :=
  let data := fun (x : Nat × Nat) => match s.loc (some c) x.1 with
    | .mem pa => s.getMem pa x.2
    | _ => []
  a.length == b.length && (a.zip b).all (fun x => x.1.2 == x.2.2 && data x.1 == data x.2)

/-- A pair mismatch (R377, R379): the core is restarted. -/
def State.pairMismatch (s : State) (c : Nat) : State := (s.satInc (R.CORE_PAIRSTAT_MISMATCH c)).coreFault c 0x31

/-- A program's result is complete (R416): recorded with its job, counted as LATECHK when its frame is committed (R419), or
kept as the final pass of a Hearth stage. -/
def State.finishRun (s : State) (c : Nat) (run : SlotRun) (outs : List (Nat × Nat)) (code : Nat) : State :=
  if 64 ≤ run.route then
    s.setPasses (s.jobs.passes.filter (fun x => !(x.route == run.route)) ++
      [⟨c, run.prog, run.route, run.frame, outs, code, true⟩])
  else match s.job run.route run.frame with
  | some _ => s.modJob run.route run.frame (fun j => { j with exitCode := some code, rerun := false })
  | none => s.setFld (R.VERD_RSTAT_LATECHK run.route) 1

/-- EXIT (R263, R265, R364, R376–R378): the program ends once the engines of its mask have drained; an engine that has
halted is reported against it and flushed, and a Hearth stage then has no result. The end of pass 1 of a pair waits for pass 2, whose end compares the
outputs; results of a core without a valid golden run are not produced (R398). -/
def execExit (c : CoreId) (s : State) : Step :=
  .next (
    if !s.inService c 0 then s else
    match (s.core c).slot with
    | none => s
    | some run =>
      let mask := ((s.prog run.prog).map (·.engines)).getD 0
      let k := s.core c
      let busy := (engsOf mask).any (fun e => !(k.queue e).isEmpty && !k.halted e)
      if busy then s else
      let err := (engsOf mask).any k.halted
      let s := s.modCore c (fun k => (engsOf mask).foldl (fun k e => if k.halted e then (k.setQueue e []).clearHalt e else k) k)
      let v := (k.sreg 1).toNat
      let code := if v ≤ 255 then v else 255
      let s := if err = true ∧ run.route < 64 then s.modJob run.route run.frame (fun j => { j with engErr := true }) else s
      let s := s.endRun c
      let pair := ((s.prog run.prog).map s.paired).getD false && !run.single
      if !s.goldenOk c (s.fld (R.TAP_T_STAT_FRAME (s.fld R.TAP_LTCFG_REF))) || (err && 64 ≤ run.route) then s
      else if !pair then s.finishRun c run run.outs code
      else if !run.pass2 then
        s.setPasses (s.jobs.passes.filter (fun x => !(x.core == c.val && x.prog == run.prog)) ++
          [⟨c, run.prog, run.route, run.frame, run.outs, code, false⟩])
      else match s.jobs.passes.find? (fun x => x.core == c.val && x.prog == run.prog && !x.final) with
      | none => s
      | some x =>
        let s := s.setPasses (s.jobs.passes.filter (fun y => y ≠ x))
        if s.outsEqual c x.outs run.outs then s.finishRun c run x.outs (if x.code ≠ 0 then x.code else code)
        else s.pairMismatch c)

/-- The device that runs a Hearth stage, when NIM_PLACE places it on another one (R679, R791). -/
def State.stageDev (s : State) (h st : Nat) : Option Nat :=
  match s.setting 0x51 with
  | some c =>
    let d := leAt c (576 + 4 * h + st) 1
    if d < 16 ∧ d ≠ s.fld R.NIM_CFG_SELF then some d else none
  | none => none

/-- A stage completed on another device (R679): its frame, and for the last stage the result it has sent here. A departed device completes
none. -/
def State.awayStage (s : State) (h st : Nat) (x : AwayStage) : State :=
  match s.stageDev h st, s.hearthCfg[h]? with
  | some d, some (_, stages) =>
    if !s.hasNim || s.departed d || stages.length ≤ st then s else
    let k := SMap.get (fun _ => HearthSt.empty) s.jobs.hearth h
    let k := { k with done := SMap.set (fun _ => 0) k.done st (x.frame.toNat + 1) }
    let k := if st + 1 = stages.length then
        match s.loc none x.addr.toNat with
        | .mem pa => { k with addr := pa, len := x.len.toNat, single := false }
        | _ => k
      else k
    { s with jobs := { s.jobs with hearth := SMap.set (fun _ => HearthSt.empty) s.jobs.hearth h k } }.hearthCheck h x.frame.toNat
  | _, _ => s

/-- HEARTH_STAGE_DONE (R425, R679): a stage whose passes have ended well has completed its frame. -/
def execHearthStageDone (h : Fin 8) (x : StageEnd) (s : State) : Step :=
  let st := x.stage
  .next (match x.away with
  | some x => s.awayStage h st x
  | none => match s.jobs.passes.find? (fun x => x.route == 64 + 4 * h.val + st.val && x.final), s.hearthCfg[h.val]? with
    | some x, some (_, stages) =>
      let s := s.setPasses (s.jobs.passes.filter (fun y => y ≠ x))
      let k := SMap.get (fun _ => HearthSt.empty) s.jobs.hearth h
      let k := { k with done := SMap.set (fun _ => 0) k.done st (x.frame + 1) }
      let k := match st.val + 1 == stages.length, x.outs with
        | true, (a, n) :: _ =>
          let pa := match s.loc (some x.core) a with
            | .mem pa => pa
            | _ => 0
          let sg := ((s.prog x.prog).map (·.single)).getD false
          { k with addr := pa, len := n, single := sg }
        | _, _ => k
      let s := { s with jobs := { s.jobs with hearth := SMap.set (fun _ => HearthSt.empty) s.jobs.hearth h k } }
      let s := if st.val + 1 = stages.length then s.setFld (R.HEARTH_NET_CORE h) x.core else s
      s.hearthCheck h x.frame
    | _, _ => s)

/-- Whether a core is in the S handler of SLOT_OVERRUN (R247, R251). -/
def Core.inOverrun (k : Core) : Bool := k.priv == .s && k.inExc .s && (k.rdCsr 0x09).toNat % 256 == 0x22 && bit (k.rdCsr 0x09).toNat 31

/-- The runtime ends an overrun program: its engines are flushed, and its job is recorded as overrun, the pair of a paired program
without a result (R264, R378). -/
def State.endOverrun (s : State) (c : Nat) (run : SlotRun) : State :=
  let mask := ((s.prog run.prog).map (·.engines)).getD 0
  let s := s.modCore c (fun k => (engsOf mask).foldl (fun k e => (k.setQueue e []).clearHalt e) k)
  let pair := ((s.prog run.prog).map s.paired).getD false && !run.single
  let s := if run.route < 64 then s.modJob run.route run.frame (fun j => { j with overrun := true, pairNone := j.pairNone || pair })
    else s
  let s := s.setPasses (s.jobs.passes.filter (fun x => !(x.core == c && x.prog == run.prog)))
  s.endRun c

/-- SLOT_OVERRUN (R262, R264, R378, R775): SLOTLEFT has reached 0 and the event becomes pending. As soon as the Steward may take it, or
has taken it, the runtime ends the program; an overrun of a program whose ECALL EXIT has executed is discarded. -/
def execSlotOverrun (c : CoreId) (s : State) : Step :=
  .next (match (s.core c).slot with
    | none => s
    | some run =>
      if (s.core c).rdCsr 0x30 ≠ 0 then s
      else if run.exited then s.modCore c (fun k => { k with pend := { k.pend with slotOverrun := false } })
      else if (s.core c).inOverrun then s.endOverrun c run
      else
        let s := s.modCore c (fun k => { k with pend := { k.pend with slotOverrun := true } })
        if !(s.core c).mayInterrupt then s else
        match s.takePending c with
        | some t => if (t.core c).inOverrun then t.endOverrun c run else t
        | none => s)

/-! ### Golden runs (R391–R398) -/

/-- The engines of the programs in a core's slot table, with the Steward (R394). -/
def State.goldenEngines (s : State) (c : Nat) : Nat :=
  32 + ((List.range 32).map (fun i =>
    if s.flag (R.CORE_SLOT_VALID c i) then ((s.prog (s.fld (R.CORE_SLOT_PROG c i))).map (·.engines)).getD 0 else 0)).foldl
      (fun a x => a ||| x) 0

/-- Whether core `c` runs a golden run in the reference frame in progress (R391). -/
def State.goldenDue (s : State) (c : Nat) : Bool :=
  let f := s.fld (R.TAP_T_STAT_FRAME (s.fld R.TAP_LTCFG_REF))
  s.serving && ((s.fld (fCoreState c) == csSERVING && s.flag (R.CORE_GOLDCFG_REQUIRED c)) ||
    (s.fld (fCoreState c) == csSPARE && f % 16 == 0))

/-- The results of a core that are not yet published are discarded, to be produced anew (R399). -/
def State.dropResults (s : State) (c : Nat) : State :=
  let back := fun (j : Job) => if j.core = c ∧ j.ran = true ∧ j.exitCode.isSome = true then { j with exitCode := none } else j
  { s with jobs := { s.jobs with jobs := s.jobs.jobs.map back } }

/-- A golden run that failed (R396, R399). -/
def State.goldenFail (s : State) (c : Nat) : State :=
  let s := s.dropResults c
  ((s.setFld (R.CORE_GOLDSTAT_OK c) 0).satInc (R.CORE_GOLDSTAT_FAILS c)).coreFault c 0x33

/-- GOLDEN_RUN (R391, R393–R396): the run of the frame, judged. `ok` says whether every comparison matched, no engine
excepted and none was late; `dur` is its duration in units of 100 ns. A run over 20 µs fails. -/
def execGoldenRun (c : CoreId) (ok : Bool) (dur : Nat) (s : State) : Step :=
  .next (if !s.goldenDue c then s else
    let f := s.fld (R.TAP_T_STAT_FRAME (s.fld R.TAP_LTCFG_REF))
    let s := s.scrambleGolden c
    let s := ((s.setFld (R.CORE_GOLDSTAT_DURATION c) (min dur 255)).setFld (R.CORE_GOLDSTAT_ENGINES c)
      (s.goldenEngines c)).setFld (R.CORE_GOLDSTAT_VARIANT c) (f % 8)
    if ok ∧ dur ≤ 200 then (s.setFld (R.CORE_GOLDSTAT_OK c) 1).setFld (R.CORE_GOLDSTAT_FRAME c) f
    else s.goldenFail c)

/-- GOLDEN_RUN_TIMEOUT (R396). -/
def execGoldenRunTimeout (c : CoreId) (s : State) : Step :=
  .next (if s.goldenDue c then s.goldenFail c else s)

/-- PAIRSTAT_FORCE (R377, R379): a write of 1 to FORCE by the core's firmware is a pair mismatch. The page is writable only
by the core itself at S and M and by any master at M (R218). -/
def State.forcePair (s : State) (c : Nat) (v : BitVec 32) : State :=
  if v.getLsbD 2 then s.pairMismatch c else s

end Sys2Proof.Machine
end

