-- ==== Sys2Proof/Machine/Taps.lean ====
section
/-! DEFINITION. The frame taps: boundaries, line time, the frame ring, the Blink detector, telltale windows, the
display-validity lines and the chime monitor (R488–R525). -/
namespace Sys2Proof.Machine

/-! ### Tap states and times (R494, R495) -/

/-- The state of a tap: 0 IDLE, 1 LOCKED, 2 FLYWHEEL, 3 RELOCK. -/
def State.tapState (s : State) (k : Nat) : Nat := s.fld (R.TAP_T_STAT_TSTATE k)

/-- The tolerance W of a tap in ns (R494). -/
def State.tapTol (s : State) (k : Nat) : Nat := s.fld (R.TAP_T_NOMPERIOD_NS k) * s.fld (R.TAP_T_TIMING_PTOL k) / 1000

/-- GUARD of a tap in ns. -/
def State.tapGuard (s : State) (k : Nat) : Nat := 1000 * s.fld (R.TAP_T_TIMING_GUARD k)

/-- Whether a tap receives: present, enabled, the device neither off nor in reset nor in SERVICE (R493, R495). -/
def State.tapOn (s : State) (k : Nat) : Bool :=
  s.flag (R.TAP_T_CFG_EN k) && (k < 8 || s.hasDisp) && !s.dev.off && !s.dev.pinLow && !s.dev.warmHeld && s.st != stSERVICE

/-- The routes whose SOURCE is a tap, with their numbers. -/
def State.routesOn (s : State) (k : Nat) : List (Nat × RouteCfg) :=
  ((routesOf ((s.setting 0x10).getD [])).zipIdx.filter (fun p => p.1.source == k)).map (fun p => (p.2, p.1))

/-! ### Display-validity lines (R520, R521) -/

/-- The DISPVALID lines of the routes of a tap driven low. -/
def State.lowerDisp (s : State) (k : Nat) : State :=
  (s.routesOn k).foldl (fun s p => if bit p.2.outs 2 then s.setDispValid (p.2.outs / 8 % 4) false else s) s

/-! ### Outcomes (R508–R510) -/

/-- The Blink outcome of a frame of a tap becomes known: STAT, the counts, the history, DISPVALID, and a Hearth result that
waited for it (R425, R508, R509, R521). `hist` is the history that this outcome leaves. -/
def State.setOutcome (s : State) (k f code : Nat) (hist : Option (Nat × Nat × Nat)) : State :=
  let t := s.tap k
  let s := s.setTap k { t with outcomes := (f, code) :: t.outcomes.take 255, hist := hist }
  let s := (s.setFld (R.TAP_T_STAT_OUTCOME k) code).setFld (R.TAP_T_STAT_VALID k) (if code = obDISTINCT then 1 else 0)
  let s := if code = 6 then s.satInc (R.TAP_T_ERR_INCOMPLETE k) else s
  let s := if code = obDISTINCT then s else s.lowerDisp k
  s.hearthCfg.zipIdx.foldl (fun s h => if h.1.1 = k then s.hearthCheck h.2 f else s) s

/-- The expected CSI-2 frame number after one (R507). -/
def nextFn (max n : Nat) : Nat := if n = max then 1 else n + 1

/-- Whether the counter check of a frame fails against the history (R507). -/
def State.counterFails (s : State) (k : Nat) (t : TapSt) (h : Nat × Nat × Nat) : Bool :=
  let max := s.fld (R.TAP_T_FNCFG_FNMAX k)
  (max != 0 && t.prevFn != nextFn max h.2.1) ||
    (s.flag (R.TAP_T_CFG_MARKER k) && t.marker.getD 0 != (h.2.2 + 1) % 2 ^ 32)

/-- The outcome of a real frame whose Frame End has come or that a boundary has cut (R508). -/
def State.blink (s : State) (k : Nat) (t : TapSt) : Nat :=
  if t.incomplete then 6
  else match t.hist with
  | none => 1
  | some h =>
    if t.rate then 5 else if s.counterFails k t h then 4 else if t.sig = h.1 then 3 else obDISTINCT

/-- The outcome of the frame in progress decided, with the history it leaves (R508, R509); SIG shows the signature of a
complete frame. -/
def State.decideFrame (s : State) (k : Nat) : State :=
  let t := s.tap k
  let f := s.fld (R.TAP_T_STAT_FRAME k)
  let c := s.blink k t
  let s := if c = 6 then s else s.setFld (R.TAP_T_SIG_SIG k) t.sig
  s.setOutcome k f c (if c = 6 then none else some (t.sig, t.prevFn, t.marker.getD 0))

/-! ### The frame ring (R502–R504) -/

/-- Whether a buffer that holds frame `f` of a tap is held (R503). -/
def State.bufHeld (s : State) (k f : Nat) : Bool :=
  (s.routesOn k).any (fun p => (s.openFrame p.1 f).isSome) ||
  (s.serving && s.hearthCfg.zipIdx.any (fun h => h.1.1 == k &&
    (List.range h.1.2.length).any (fun i =>
      SMap.get (fun _ => 0) (SMap.get (fun _ => HearthSt.empty) s.jobs.hearth h.2).done i < f + 1)))

/-- RINGSTAT.HELD (R503). -/
def State.ringHeld (s : State) (k : Nat) : Nat :=
  (s.tap k).bufs.foldl (fun m b => if s.bufHeld k b.2 then setBit m b.1 else m) 0

/-- The buffer for the frame that begins, if the ring's next one is free (R504). -/
def State.takeBuf (s : State) (k f : Nat) : State :=
  let t := s.tap k
  let n := max 1 (s.fld (R.TAP_RING_NBUF k))
  let b := if t.bufs.isEmpty then 0 else (s.fld (R.TAP_RINGSTAT_WRITING k) + 1) % n
  match t.bufs.find? (·.1 == b) with
  | some old =>
    if s.bufHeld k old.2 then s.satInc (R.TAP_RINGSTAT_OVERRUN k)
    else put s t b
  | none => put s t b
where
  put (s : State) (t : TapSt) (b : Nat) : State :=
    (s.setTap k { t with bufs := t.bufs.filter (·.1 ≠ b) ++ [(b, f)], stored := true }).setFld (R.TAP_RINGSTAT_WRITING k) b

/-! ### Windows that end with their frame (R433, R518, R519) -/

/-- The windows that a lost line leaves incomplete have failed (R518). -/
def State.windowError (s : State) (d : Nat) : State :=
  let t := s.tap (8 + d)
  let short := fun w => s.flag (R.TAP_WIN_VALID d w) && SMap.get (fun _ => 0) t.wlines w < s.fld (R.TAP_WIN_NLINES d w)
  let m := (List.range 16).foldl (fun m w => if short w then setBit m w else m) t.wfail
  s.setTap (8 + d) { t with wfail := m }

/-- A mismatch or a failed window of a PROVISIONAL frame withdraws it, and all windows equal resolve it as PASS (R433). -/
def State.resolveWindows (s : State) (d : Nat) : State :=
  let f := s.fld (R.TAP_WSTAT_FRAME d)
  (s.routesOn (8 + d)).foldl (fun s p =>
    match s.openFrame p.1 f, s.job p.1 f with
    | some fr, some j =>
      match fr.prov, s.windowsOutcome (8 + d) f j with
      | some _, some why => if s.mayPublish then s.resolveProv p.2 p.1 fr why else s
      | _, _ => s
    | _, _ => s) s

/-- The windows of a display frame that a boundary cuts have failed, and its record is decided (R518, R519). -/
def State.cutWindows (s : State) (d : Nat) : State :=
  let s := (s.windowError d).resolveWindows d
  let f := s.fld (R.TAP_WSTAT_FRAME d)
  (s.routesOn (8 + d)).foldl (fun s p =>
    match (s.routeSt p.1).frames, s.job p.1 f with
    | fr :: _, some j =>
      if p.2.display && fr.frame == f && fr.prov.isNone && (s.windowsOutcome (8 + d) f j).isSome then s.commit p.2 p.1 fr else s
    | _, _ => s) s

/-! ### Boundaries (R495–R500) -/

/-- A frame of a route opened at a boundary of its SOURCE: the deadline counts from here, and the check epoch and its age are
fixed (R339–R343, R401, R597). -/
def State.openRoute (s : State) (r : Nat) (rc : RouteCfg) (f start : Nat) : State :=
  let s := s.epochStep r rc.prog (s.job r f)
  let k := s.routeSt r
  let sg := ((s.prog rc.prog).map (fun p => s.paired p && p.single)).getD false
  let fr : OpenFrame := ⟨f, start, k.epoch, k.age, none, sg⟩
  s.setRouteSt r { k with frames := k.frames ++ [fr], sinceGood := k.sinceGood + 1 }

/-- Whether a PROVISIONAL record is committed at the start of scan-out of frame `f` (R432, R513). -/
def State.provOk (s : State) (r : Nat) (rc : RouteCfg) (f : Nat) : Bool :=
  let prev := (f + 2 ^ 32 - 1) % 2 ^ 32
  rc.prov && rc.display && (s.job r f).isSome && s.serving && !s.flag R.DEVICE_STATE_INVALID &&
    s.fld (R.VERD_RSTAT_FRAME r) == prev && s.fld (R.VERD_RSTAT_STATUS r) == vsPASS &&
    s.outcome rc.source prev == some obDISTINCT

/-- What a boundary starts for a route: the frame, and on a display its PROVISIONAL or a low line (R432, R521). Once the boundary
that a STOP, ENTER_SERVICE or warm restart waits for has come, no later frame is opened (R108). -/
def State.boundaryRoute (s : State) (f : Nat) (real : Bool) (p : Nat × RouteCfg) : State :=
  let s := s.endHandBack p.1 f
  if !s.serving || s.dev.stopDue then s else
  let s := s.openRoute p.1 p.2 f s.tb2
  if real && s.provOk p.1 p.2 f then
    match s.openFrame p.1 f with
    | some fr => s.commitProv p.2 p.1 fr (s.job p.1 f)
    | none => s
  else if bit p.2.outs 2 then s.setDispValid (p.2.outs / 8 % 4) false
  else s

/-- Frame alignment of one object at a reference boundary (R465); drift on a privileged one is a checker fault of the core
(R466). -/
def State.alignObj (s : State) (n k : Nat) : State :=
  let v := s.fld (R.CORE_SOBJ_VALUE n k)
  let base := s.fld (R.CORE_SOBJCFG_BASE n k)
  if s.flag (R.CORE_SOBJCFG_ALIGN n k) && v != base then
    if s.flag (R.CORE_SOBJCFG_PRIV n k) then s.coreFault n 0x31 else
    let s := ((s.satInc (R.CORE_DRIFT_COUNT n)).setFld (R.CORE_DRIFT_OBJ n) k).setFld (R.CORE_DRIFT_LAST n)
      ((v + 2 ^ 32 - base) % 2 ^ 32)
    (s.setFld (R.CORE_SOBJ_VALUE n k) base).fireWatches n k
  else s

/-- Frame alignment of a core. -/
def State.alignCore (s : State) (n : Nat) : State :=
  (s.listed (R.CORE_SOBJCFG n 0) 0x800).foldl (fun t q => t.alignObj n ((q.1 - R.CORE_SOBJCFG n 0) / 8)) s

/-- The routes that a program serves: as their check program, or through the Hearth network they name. -/
def State.progRoutes (s : State) (idx : Nat) : List RouteCfg :=
  let nets := (s.hearthCfg.zipIdx.filter (fun h => h.1.2.contains idx)).map (·.2)
  (routesOf ((s.setting 0x10).getD [])).filter (fun r => r.prog == idx || nets.contains r.hearth)

/-- The reference source of a program (R382): the SOURCE of its route, else the input tap of its network, else the line-time
reference. -/
def State.progSource (s : State) (idx : Nat) : Nat :=
  match (routesOf ((s.setting 0x10).getD [])).find? (·.prog == idx) with
  | some r => r.source
  | none =>
    match s.hearthCfg.find? (fun h => h.2.contains idx) with
    | some h => h.1
    | none => s.fld R.TAP_LTCFG_REF

/-- Whether some slot table holds a slot for pass 2 of a program (R381). -/
def State.hasPass2 (s : State) (idx : Nat) : Bool :=
  (List.range 16).any (fun n => 0 < s.fld (R.CORE_SLOTCFG_COUNT n) && (List.range 32).any (fun i =>
    s.flag (R.CORE_SLOT_VALID n i) && s.flag (R.CORE_SLOT_PASS2 n i) && s.fld (R.CORE_SLOT_PROG n i) == idx))

/-- A pass-mode change takes effect and its command completes (R381, R382); DUAL without a slot for pass 2 stays SINGLE. -/
def State.applyMode (s : State) (q : ModeReq) : State :=
  let full := !q.single && ((s.prog q.prog).map (·.single)).getD false && !s.hasPass2 q.prog
  let sg := q.single || full
  let g := fun (p : Prog) => if p.idx = q.prog then { p with single := sg } else p
  let s := { s with jobs := { s.jobs with progs := s.jobs.progs.map g } }
  s.complete q.fn q.cid (if full then 0x37 else 0) (if sg && !full then 1 else 0)

/-- The pass-mode changes that wait for a boundary of tap `k` take effect (R382). -/
def State.applyModes (s : State) (k : Nat) : State :=
  let now := s.jobs.modeReqs.filter (fun q => s.progSource q.prog == k)
  let rest := s.jobs.modeReqs.filter (fun q => s.progSource q.prog != k)
  now.foldl State.applyMode { s with jobs := { s.jobs with modeReqs := rest } }

/-- What a boundary of the line-time reference does (R500). -/
def State.refBoundary (s : State) : State :=
  s.iter 16 (fun n s => if s.hasCore n then s.alignCore n else s)

/-- A frame boundary of a tap, real with its CSI-2 frame number or synthetic (R495–R500, R504, R508, R521). -/
def State.boundary (s : State) (k : Nat) (real : Option Nat) (rate : Bool) : State :=
  let t := s.tap k
  let open_ := s.tapState k != 0 && !t.synth && !t.ended
  let s := if open_ then (s.setTap k { t with incomplete := true }).decideFrame k else s
  let s := if 8 ≤ k ∧ s.tapState k ≠ 0 then s.cutWindows (k - 8) else s
  let ph := s.phase k
  let s := s.wrapInc (R.TAP_T_STAT_FRAME k)
  let s := if real.isSome && t.prevReal then s.setFld (R.TAP_T_MEASPER_P k) ph else s
  let s := s.setFld (R.TAP_T_FSTIME_TIME k) (stamp64 s.tb2)
  let f := s.fld (R.TAP_T_STAT_FRAME k)
  let t := s.tap k
  let s := s.setTap k { TapSt.idle with
    hist := t.hist, outcomes := t.outcomes, bufs := t.bufs, droppedAt := t.droppedAt
    synth := real.isNone, rate := rate, prevFn := real.getD 0, prevReal := real.isSome }
  let s := s.setFld (R.TAP_T_STAT_RXLINE k) 0
  let s := if k < 8 then (if real.isSome then s.takeBuf k f else s)
    else ((s.setFld (R.TAP_WSTAT_FRAME (k - 8)) f).setFld (R.TAP_WSTAT_MISMATCH (k - 8)) 0).setFld (R.TAP_WSTAT_DONE (k - 8)) 0
  let s := s.devSignalAll (k + 1)
  let s := if k = s.fld R.TAP_LTCFG_REF ∧ s.dev.stopReq ≠ [] then { s with dev := { s.dev with stopDue := true } } else s
  let s := if real.isNone then s.setOutcome k f 7 none else s
  let s := s.applyModes k
  let s := (s.routesOn k).foldl (fun s p => s.boundaryRoute f real.isSome p) s
  if k = s.fld R.TAP_LTCFG_REF then s.refBoundary else s

/-- A Frame Start is dropped (R495). -/
def State.dropStart (s : State) (k : Nat) : State :=
  let t := s.tap k
  (s.setTap k { t with droppedAt := s.tb2 }).satInc (R.TAP_T_ERR_DROPPED k)

/-- TAP_FRAME_START (R495, R496): a Frame Start with its CSI-2 frame number. -/
def execTapFrameStart (k : Fin 12) (fn : BitVec 16) (s : State) : Step :=
  .next (if !s.tapOn k then s else
    let s := (s.setFld (R.TAP_T_LASTFN_FN k) fn.toNat).setFld (R.TAP_T_STAT_HSRX k) 1
    let ph := s.phase k
    let p := s.tapPeriod k
    let w := s.tapTol k
    let st := s.tapState k
    if st = 0 then (s.boundary k (some fn.toNat) false).setFld (R.TAP_T_STAT_TSTATE k) 1
    else if s.tapGuard k ≤ ph then
      (s.boundary k (some fn.toNat) (st == 1 && (ph + w < p || p + w < ph))).setFld (R.TAP_T_STAT_TSTATE k) 1
    else
      let s := s.dropStart k
      if st = 1 then
        let t := s.tap k
        if t.ended then s else s.setTap k { t with incomplete := true }
      else s.setFld (R.TAP_T_STAT_TSTATE k) 3)

/-- Whether a synthetic boundary is due (R495). -/
def State.synthDue (s : State) (k : Nat) : Bool :=
  let p := s.tapPeriod k
  let w := s.tapTol k
  match s.tapState k with
  | 1 => p + w ≤ s.phase k
  | 2 => p ≤ s.phase k
  | 3 => (s.tap k).droppedAt + p + w ≤ s.tb2
  | _ => false

/-- SYNTHETIC_BOUNDARY (R495). -/
def execSyntheticBoundary (k : Fin 12) (s : State) : Step :=
  .next (if !s.tapOn k || !s.synthDue k then s else
    let enter := s.tapState k != 2
    let s := if enter then (s.setFld (R.TAP_T_STAT_TSTATE k) 2).satInc (R.TAP_T_ERR_FLYWHEEL k) else s
    let s := s.setFld (R.TAP_T_STAT_HSRX k) 0
    s.boundary k none false)

/-- TAP_FRAME_END (R508, R510): the frame's outcome is decided. -/
def execTapFrameEnd (k : Fin 12) (s : State) : Step :=
  let t := s.tap k
  .next (if !s.tapOn k || s.tapState k == 0 || t.synth || t.ended then s else
    let bad := s.fld (R.TAP_T_STAT_RXLINE k) != s.fld (R.TAP_T_GEOM_ACTIVE k) ||
      (s.flag (R.TAP_T_CFG_MARKER k) && t.marker.isNone)
    let s := s.setTap k { t with incomplete := t.incomplete || bad, ended := true }
    let s := if 8 ≤ k.val then s.windowError (k - 8) else s
    s.decideFrame k)

/-! ### Packets (R490, R491, R502, R506, R515, R516) -/

/-- The running CRC of a telltale window fed with bytes, with the parameters of unit 5 + d (R516). -/
def State.windowFeed (s : State) (d v : Nat) (l : List Byte) : Nat :=
  crcFeed (s.fld (R.CVU_U_CFG_WIDTH (5 + d))) (s.fld (R.CVU_U_POLY_V (5 + d))) (s.flag (R.CVU_U_CFG_REFIN (5 + d))) v l

/-- A received line passed to the telltale windows of a display (R515, R518). -/
def State.windowLine (s : State) (d i : Nat) (data : List Byte) : State :=
  s.iter 16 (fun w s =>
    let first := s.fld (R.TAP_WIN_FIRSTLINE d w)
    if !s.flag (R.TAP_WIN_VALID d w) || i < first || first + s.fld (R.TAP_WIN_NLINES d w) ≤ i then s else
    let t := s.tap (8 + d)
    let off := s.fld (R.TAP_WIN_OFFSET d w)
    let n := s.fld (R.TAP_WIN_BYTES d w)
    if data.length < off + n then s.setTap (8 + d) { t with wfail := setBit t.wfail w }
    else
      let init := s.fld (R.CVU_U_INIT_V (5 + d)) % 2 ^ s.fld (R.CVU_U_CFG_WIDTH (5 + d))
      let lines := SMap.get (fun _ => 0) t.wlines w
      let v := if lines = 0 then init else SMap.get (fun _ => 0) t.wrun w
      s.setTap (8 + d) { t with
        wrun := SMap.set (fun _ => 0) t.wrun w (s.windowFeed d v ((data.drop off).take n))
        wlines := SMap.set (fun _ => 0) t.wlines w (lines + 1) })

/-- A line stored in the frame ring, in class C0 (R502). -/
def State.storeLine (s : State) (k i : Nat) (data : List Byte) : State :=
  let t := s.tap k
  if !t.stored || s.fld (R.TAP_T_GEOM_ACTIVE k) ≤ i then s else
  let stride := 64 * s.fld (R.TAP_RING_STRIDE k)
  let a := s.ringBuf k (s.fld (R.TAP_RINGSTAT_WRITING k)) + i * stride
  let r := s.checkMem .taps 0 true a
  if r.2 = .ok then r.1.putMem a (data.take stride) else r.1

/-- The frame's marker, where its bytes have arrived (R507). -/
def State.findMarker (s : State) (k line : Nat) (data : List Byte) : State :=
  let t := s.tap k
  let b := s.fld (R.TAP_T_MARKPOS_BYTE k)
  if s.flag (R.TAP_T_CFG_MARKER k) && s.fld (R.TAP_T_MARKPOS_LINE k) == line && t.marker.isNone && b + 4 ≤ data.length then
    s.setTap k { t with marker := some (leAt data b 4) }
  else s

/-- A kept packet: signed, and a received line when it has the image type (R490, R502, R506). -/
def State.keepPacket (s : State) (k : Nat) (p : TapPkt) : State :=
  let t := s.tap k
  let s := s.setTap k { t with sig := crcFeed 64 0x42F0E1EBA9EA3693 false t.sig p.data }
  if p.dt.toNat = s.fld (R.TAP_T_CFG_DT k) then
    let i := s.fld (R.TAP_T_STAT_RXLINE k)
    let s := s.findMarker k i p.data
    let s := if k < 8 then s.storeLine k i p.data else s.windowLine (k - 8) i p.data
    let t := s.tap k
    let s := if k < 8 ∧ 64 * s.fld (R.TAP_RING_STRIDE k) < p.data.length then s.setTap k { t with incomplete := true } else s
    s.satInc (R.TAP_T_STAT_RXLINE k)
  else
    let s := if t.embSeen then s else s.findMarker k 0xFFFF p.data
    let t := s.tap k
    s.setTap k { t with embSeen := true }

/-- TAP_PACKET (R490, R491, R496): a long packet. Packets of other channels and types are ignored; those of a synthetic frame
or after Frame End are discarded. -/
def execTapPacket (k : Fin 12) (p : TapPkt) (s : State) : Step :=
  .next (if !s.tapOn k then s else
    let s := if p.corrected then s.satInc (R.TAP_T_ERR_ECCCORR k) else s
    let s := if p.bad then s.satInc (R.TAP_T_ERR_PKTERR k) else s
    let t := s.tap k
    let edt := s.fld (R.TAP_T_CFG_EDT k)
    if p.vc.val != s.fld (R.TAP_T_CFG_VC k) || s.tapState k == 0 || t.synth || t.ended then s
    else if p.bad then
      let s := s.setTap k { t with incomplete := true }
      if 8 ≤ k.val ∧ p.dt.toNat = s.fld (R.TAP_T_CFG_DT k) then s.windowError (k - 8) else s
    else if p.dt.toNat = s.fld (R.TAP_T_CFG_DT k) ∨ (edt ≠ 0 ∧ p.dt.toNat = edt) then s.keepPacket k p
    else s)

/-! ### Telltale windows (R515–R519) -/

/-- A complete window compared with the declared state, if the frame's declaration is there (R518). -/
def State.compareWindow (s : State) (d w : Nat) : State :=
  let f := s.fld (R.TAP_WSTAT_FRAME d)
  (s.routesOn (8 + d)).foldl (fun s p =>
    match s.job p.1 f with
    | none => s
    | some j =>
      let e := j.states.getD w 0xFF
      if !p.2.display || 16 ≤ e then s
      else if s.fld (R.TAP_WCRC_CRC d w) = s.fld (R.TAP_EXP_CRC d w e) then s
      else s.fldBitSet (R.TAP_WSTAT_MISMATCH d) w) s

/-- TELLTALE_WINDOW_COMPLETE (R515, R516, R518, R433): a window whose last line has arrived gives its CRC and is compared. A
failed window is resolved here too. -/
def execTelltaleWindowComplete (d : Fin 4) (w : Fin 16) (s : State) : Step :=
  let t := s.tap (8 + d)
  let n := s.fld (R.TAP_WIN_NLINES d w)
  .next (if !s.flag (R.TAP_WIN_VALID d w) then s
    else if bit t.wfail w then s.resolveWindows d
    else if n == 0 || SMap.get (fun _ => 0) t.wlines w != n || bit (s.fld (R.TAP_WSTAT_DONE d)) w then s
    else
      let wd := s.fld (R.CVU_U_CFG_WIDTH (5 + d))
      let crc := crcOut wd (s.flag (R.CVU_U_CFG_REFOUT (5 + d))) (s.fld (R.CVU_U_XOROUT_V (5 + d))) (SMap.get (fun _ => 0) t.wrun w)
      let s := (s.setFld (R.TAP_WCRC_CRC d w) crc).fldBitSet (R.TAP_WSTAT_DONE d) w
      (s.compareWindow d w).resolveWindows d)

/-! ### Chimes (R522–R525) -/

/-- An expectation is decided (R524, R525): 1 HEARD, 2 NOT_HEARD, 3 NO_CLOCK. -/
def State.chimeOutcome (s : State) (e : ChimeExp) (o : Nat) : State :=
  let s := (s.setFld R.TAP_CHIMESTAT_LAST e.chime).setFld R.TAP_CHIMESTAT_OUTCOME o
  let s := if o = 1 then s.satInc R.TAP_CHIMESTAT_HEARD else s.satInc R.TAP_CHIMESTAT_MISSED
  let s := s.postEvent e.client 6 (e.chime + 256 * o)
  if s.flag (R.TAP_CHIME_B_NET e.chime) then
    s.sendPaired (s.fld (R.TAP_CHIME_B_NETPAIR e.chime)) nkCHIME (0xC0 + e.chime)
      (leBytes 1 e.chime ++ leBytes 1 o ++ leBytes 2 0)
  else s

/-- The expectations that a test decides are answered and leave the list (R525). -/
def State.decideChimes (s : State) (p : ChimeExp → Option Nat) : State :=
  let done := s.chimes.filterMap (fun e => (p e).map (fun o => (e, o)))
  let rest := s.chimes.filter (fun e => (p e).isNone)
  let s := ({ s with chimes := rest }).setFld R.TAP_CHIMESTAT_PENDING rest.length
  done.foldl (fun s q => s.chimeOutcome q.1 q.2) s

/-- CHIME_BLOCK (R523, R524): a 10 ms block of samples has been measured; bit c of `hits` says whether every tone of chime c
reached its level. A run of hits that began no later than the latest start and lasts the duration is HEARD. -/
def execChimeBlock (hits : BitVec 16) (s : State) : Step :=
  .next (if !s.flag R.TAP_TDMCFG_EN then s else
    let s := s.setFld R.TAP_CHIMESTAT_NOCLK 0
    let began := s.tb2 - 10000000
    let step := fun (e : ChimeExp) =>
      if !hits.getLsbD e.chime then { e with since := none, hitMs := 0 }
      else match e.since with
        | some _ => { e with hitMs := e.hitMs + 10 }
        | none => { e with since := some began, hitMs := 10 }
    let s := { s with chimes := s.chimes.map step }
    s.decideChimes (fun e => match e.since with
      | some t => if t ≤ e.latest ∧ s.fld (R.TAP_CHIME_B_DURATION e.chime) ≤ e.hitMs then some 1 else none
      | none => none))

/-- TDM_NO_CLOCK (R522, R524): frame sync has been absent for 1 ms; every expectation ends NO_CLOCK. -/
def execTdmNoClock (s : State) : Step :=
  .next (if !s.flag R.TAP_TDMCFG_EN then s else
    (s.setFld R.TAP_CHIMESTAT_NOCLK 1).decideChimes (fun _ => some 3))

/-- CHIME_DEADLINE (R524): the latest start, the duration and 20 ms have passed. -/
def execChimeDeadline (s : State) : Step :=
  .next (s.decideChimes (fun e =>
    if e.latest + 1000000 * s.fld (R.TAP_CHIME_B_DURATION e.chime) + 20000000 ≤ s.tb2 then some 2 else none))

end Sys2Proof.Machine
end

