-- ==== Sys2Proof/Machine/Inbox.lean ====
section
/-! DEFINITION. The inputs of watch jobs: pulled tensors and the tensor inbox with its doorbells (R406–R410, R722–R725). -/
namespace Sys2Proof.Machine

/-! ### Deadlines of frames -/

/-- The frame of a route's SOURCE in progress. -/
def State.srcFrame (s : State) (rc : RouteCfg) : Nat := s.fld (R.TAP_T_STAT_FRAME rc.source)

/-- The TB2 time at which the SOURCE frame in progress began. -/
def State.srcStart (s : State) (rc : RouteCfg) : Nat :=
  let w := s.fld (R.TAP_T_FSTIME_TIME rc.source)
  w / 2 ^ 32 * 1000000000 + w % 2 ^ 32

/-- How far a frame lies ahead of the SOURCE frame in progress, modulo 2^32. -/
def State.ahead (s : State) (rc : RouteCfg) (f : Nat) : Nat := (f + 2 ^ 32 - s.srcFrame rc) % 2 ^ 32

/-- Whether the deadline of a frame has passed, or its record is committed: an open frame by its start, the frame in progress
by its boundary, an earlier one always (R404, R408). -/
def State.deadlinePassed (s : State) (r : Nat) (rc : RouteCfg) (f : Nat) : Bool :=
  match s.openFrame r f with
  | some fr => fr.deadline rc ≤ s.tb2
  | none =>
    if s.ahead rc f = 0 then
      (s.fld (R.VERD_RSTAT_STATUS r) != 0 && s.fld (R.VERD_RSTAT_FRAME r) == f) ||
        s.srcStart rc + 1000 * rc.deadline ≤ s.tb2
    else 2 ^ 31 ≤ s.ahead rc f

/-! ### Inputs complete -/

/-- Bytes of an inbox buffer by window offset (R724). -/
def State.inboxBytes (s : State) (off n : Nat) : List Byte :=
  (List.range n).map (fun i => SMap.get (fun a => Config.freeByte s.jobs.inboxGen (2 ^ 40 + a)) s.jobs.inbox (off + i))

/-- The offset of buffer `b` of route `r` in the inbox window (R724). -/
def inboxBase (r b : Nat) : Nat := r * 0x4000000 + b * 0x2000000

/-- Whether a channel that holds inputs of the job has lost its contents and firmware has not taken note (R180, R409). -/
def State.inputsLost (s : State) (j : Job) : Bool :=
  j.cls != 0 && (List.range 8).any (fun c => bit (s.fld R.MEMC_STATUS_CONTENT_LOST) c && s.inputsIn j c)

/-- A job whose pulls are read and whose doorbell has come has its inputs complete; a result that was pushed is taken (R403,
R408, R410, R411). -/
def State.settleJob (s : State) (r f : Nat) : State :=
  match s.job r f, s.route r with
  | some j, some rc =>
    let push := j.tensors.any (·.push)
    if j.inputsAt.isSome || j.lost || !j.pulls.isEmpty || (push && !j.doorbell) || j.tensors.isEmpty then s
    else if s.inputsLost j then s.modJob r f (fun j => { j with lost := true, pulls := [] })
    else
    let res := match j.tensors.find? (fun t => t.push && t.result) with
      | some t => s.inboxBytes (inboxBase r (f % 2) + t.addr) (min rc.resultLen t.bytes)
      | none => j.result
    s.modJob r f (fun j => { j with inputsAt := some s.stampNow, inputsTb := s.tb2, result := res })
  | _, _ => s

/-- Bytes pulled or pushed for a client counted (PCIEA BYTES). -/
def State.countBytes (s : State) (rc : RouteCfg) (n : Nat) : State :=
  let f := R.PCIEA_F_BYTES_COUNT rc.client
  s.setFld f (s.fld f + n)

/-- PULL_READ_COMPLETE (R406, R409): the read of pulled tensor `t` ends. One that fails is reissued once, and a second
failure loses the inputs. `data` are the bytes read, of which the model keeps those of the route's result. -/
def execPullReadComplete (r : Fin 64) (f : Nat) (t : Fin 30) (st : MStat) (data : List Byte) (s : State) : Step :=
  .next (match s.job r f, s.route r with
    | some j, some rc =>
      if !j.pulls.contains t.val then s
      else if st = .ok then
        let x := j.tensors[t.val]?
        let n := (x.map (·.bytes)).getD 0
        let s := s.countBytes rc n
        let s := s.modJob r f (fun j => { j with
          pulls := j.pulls.filter (· ≠ t.val)
          result := if (x.map (·.result)).getD false then data.take (min rc.resultLen n) else j.result })
        s.settleJob r f
      else if j.reissued.contains t.val then s.modJob r f (fun j => { j with lost := true, pulls := [] })
      else s.modJob r f (fun j => { j with reissued := j.reissued ++ [t.val] })
    | _, _ => s)

/-! ### The tensor inbox -/

/-- Whether pushes arrive: through port B, or through port A on a variant without it and while B is handed over (R723,
R725, R728). -/
def State.inboxUp (s : State) : Bool :=
  let p := s.obPort
  s.portUp p && !s.ideShut p

/-- The route and buffer whose inbox buffer holds a range of the window (R407, R724). -/
def State.inboxAt (s : State) (off n : Nat) : Option (Nat × Nat) :=
  let r := off / 0x4000000
  let b := off % 0x4000000 / 0x2000000
  match s.route r with
  | some rc => if off % 0x2000000 + n ≤ 1024 * rc.inboxKib ∧ 0 < n then some (r, b) else none
  | none => none

/-- A push discarded and counted with its route (R408). -/
def State.inboxDisc (s : State) (r : Nat) : State := s.setFld (R.VERD_RSTAT_INBOX_DISC r) 1

/-- The frame that locks a buffer, plus 1; 0 while it is open. -/
def State.inboxLocked (s : State) (r b : Nat) : Nat := SMap.get (fun _ => 0) s.jobs.inboxLock (2 * r + b)

/-- INBOX_WRITE (R408, R723): an inbound write at an offset of the inbox window. One that falls in no buffer completes with
Unsupported Request; one to a locked buffer is discarded and counted. -/
def execInboxWrite (off : BitVec 32) (data : List Byte) (s : State) : Step :=
  .next (if !s.inboxUp then s else
    match s.inboxAt off.toNat data.length with
    | none => s
    | some (r, b) =>
      if s.inboxLocked r b ≠ 0 then s.inboxDisc r else
      let d := fun a => Config.freeByte s.jobs.inboxGen (2 ^ 40 + a)
      let put := data.zipIdx.foldl (fun m x => SMap.set d m (off.toNat + x.2) x.1) s.jobs.inbox
      let s := { s with jobs := { s.jobs with inbox := put } }
      match s.route r with
      | some rc => s.countBytes rc data.length
      | none => s)

/-- INBOX_DOORBELL (R408, R452, R724): the frame number written to the doorbell of a buffer. One of the other parity, or of a
frame whose deadline has passed, is discarded; an accepted one locks the buffer, tells the job, and signals the objects
of the cores whose slots run the route's program. -/
def execInboxDoorbell (r : Fin 64) (b : Fin 2) (f : BitVec 32) (s : State) : Step :=
  .next (if !s.inboxUp then s else
    match s.route r with
    | none => s
    | some rc =>
      if rc.inboxKib = 0 then s
      else if f.toNat % 2 ≠ b.val ∨ s.deadlinePassed r rc f.toNat = true then s.inboxDisc r
      else
        let s := { s with jobs := { s.jobs with
          inboxLock := SMap.set (fun _ => 0) s.jobs.inboxLock (2 * r.val + b.val) (f.toNat + 1) } }
        let s := s.modJob r f.toNat (fun j => { j with doorbell := true })
        let s := s.iter 16 (fun n s => if s.hasCore n && (s.slotOf n rc.prog).isSome then s.devSignal n 0x10 else s)
        s.settleJob r f.toNat)

end Sys2Proof.Machine
end

