-- ==== Sys2Proof/Machine/Nimlink.lean ====
section
/-! DEFINITION. Nimlink: the bring-up of links, the roll call and its map, routes, and what happens when a device or a link is
lost (R647–R678). -/
namespace Sys2Proof.Machine

/-! ### Ports -/

/-- Port states (NIM.PORTp.STATUS.STATE). -/
def npDOWN : Nat := 0
def npTRAINING : Nat := 1
def npAUTH : Nat := 2
def npUP : Nat := 3
def npVERSION_NONE : Nat := 4
def npVERSION_LOW : Nat := 5
def npAUTH_FAIL : Nat := 6
def npHELD : Nat := 7

/-- States of the roll call (NIM.STATUS.STATE). -/
def nsROLLING : Nat := 1
def nsCOMMITTED : Nat := 2
def nsNO_PEER : Nat := 3
def nsMISMATCH : Nat := 4

/-- The state of a port. -/
def State.nimPort (s : State) (p : Nat) : Nat := s.fld (R.NIM_PORT_STATUS_STATE p)

/-- Whether Nimlink is in use: present, its logic running, and enabled. -/
def State.nimOn (s : State) : Bool := s.hasNim && !s.dev.off && !s.dev.pinLow && s.flag R.NIM_CFG_EN

/-- This device's roll identity (R649). -/
def ownRoll : Nat := Config.rollId % 2 ^ 64

/-! ### Reports and the map (R664–R668) -/

/-- This device's report: a port counts when it has completed step 4 and is not held down (R666, R669). -/
def State.ownReport (s : State) : NimReport :=
  ⟨BitVec.ofNat 64 ownRoll, Fin.ofNat 16 (s.fld R.NIM_CFG_SELF), BitVec.ofNat 8 (s.fld R.DEVICE_STATE_DEV_EPOCH), 0xE,
    (List.range 4).map (fun p => if s.nimPort p = npUP then
      (BitVec.ofNat 64 (s.fld (R.NIM_PORT_PEERID_ID p)), s.fld (R.NIM_PORT_STATUS_LV p)) else (0, 0))⟩

/-- Whether every peer named in a report has itself reported. -/
def allReported (l : List NimReport) : Bool :=
  l.all (fun r => r.peers.all (fun p => p.1 == 0 || l.any (fun q => q.id == p.1)))

/-- Whether a report is excluded from the map: it differs from the member table, or shares its SELF (R667). -/
def State.excluded (s : State) (l : List NimReport) (r : NimReport) : Bool :=
  s.fld (R.NIM_MEMBER_ID_ID r.self) != r.id.toNat || l.any (fun q => q.self == r.self && q.id != r.id)

/-- The members of the map in the order of their numbers. -/
def State.mapOf (s : State) (l : List NimReport) : List NimReport :=
  ((List.range 16).map (fun d => l.filter (fun r => r.self.val == d && !s.excluded l r))).flatten

/-- The digest of a map. -/
def digestOf (m : List NimReport) : List Byte :=
  Config.mapDigest (m.map (fun r => [r.id.toNat, r.self.val, r.epoch.toNat, r.mask.toNat] ++
    (r.peers.map (fun p => [p.1.toNat, p.2])).flatten))

/-! ### Reach (R675) -/

/-- Whether a request to a device can go out: it is present, and the link of its route is up (R675). -/
def State.nimReach (s : State) (d : Nat) : Bool :=
  s.nimOn && !s.departed d && (match s.nimRoute d with
    | some p => s.nimPort p == npUP && s.flag (R.NIM_PORT_STATUS_INRING p)
    | none => false)

/-! ### Departures (R673, R674, R677, R683) -/

/-- Requests in flight to a device end with EPOCH_CHANGED at the notice that follows (R674). -/
def State.breakTo (s : State) (d : Nat) : State := s.bumpEpoch (16 + d)

/-- A peer departs: its requests break, its barriers end (R677), and a standby of its routes is on its own (R683). -/
def State.departDevice (s : State) (d : Nat) : State :=
  let s := s.breakTo d
  let s := s.iter 64 (fun n s =>
    if s.flag (R.BELL_BAR_VALID n) && bit (s.fld (R.BELL_BAR_DEVS n)) d && s.fld (R.BELL_BARSTAT_ARRIVED n) != 0 then
      s.completeBarrier n true else s)
  if (List.range 64).any (fun r => s.dupStandby r && s.fld (R.NIM_DUP_PRIMARY r) == d) then s.lose lostNIM_PARTNER else s

/-! ### Floors (R659) -/

/-- The floors in force, by the kind of topology and whether a link runs on one lane. -/
def State.setFloors (s : State) : State :=
  let one := (List.range 4).any (fun p => s.flag (R.NIM_PORT_STATUS_LANES1 p))
  let t := s.flag R.NIM_CFG_TOPO
  let bulk := if t then (if one then 1500 else 3000) else (if one then 350 else 800)
  (((s.setFld R.NIM_FLOOR_BULK bulk).setFld R.NIM_FLOOR_SAFETY (if t then 100 else 50)).setFld R.NIM_FLOOR_SYNC
    (if t then 50 else 25)).setFld R.NIM_FLOOR_MGMT (if t then 25 else 10)

/-! ### The roll call -/

/-- The highest version of a mask. -/
def topVer (mask : Nat) : Nat := if bit mask 3 then 3 else if bit mask 2 then 2 else if bit mask 1 then 1 else 0

/-- One member's block after a commit. -/
def State.commitMember (s : State) (m : List NimReport) (d : Nat) : State :=
  let was := s.flag (R.NIM_MEMBER_STATE_PRESENT d)
  match m.find? (fun r => r.self.val == d) with
  | some r =>
    let s := ((s.setFld (R.NIM_MEMBER_STATE_EPOCH d) r.epoch.toNat).setFld (R.NIM_MEMBER_STATE_MAXVER d) (topVer r.mask.toNat))
    (s.setFld (R.NIM_MEMBER_STATE_PRESENT d) 1).setFld (R.NIM_MEMBER_STATE_TRIPPED d) 0
  | none =>
    let s := s.setFld (R.NIM_MEMBER_STATE_PRESENT d) 0
    if was && d != s.fld R.NIM_CFG_SELF then s.departDevice d else s

/-- The commit of a map (R654, R666–R668, R670). -/
def State.commitMap (s : State) (m : List NimReport) (st : Nat) : State :=
  let me := s.fld R.NIM_CFG_SELF
  let inMap := m.any (fun r => r.self.val == me)
  let s := { s with nim := { s.nim with map := m } }
  let s := s.iter 16 (fun d s => s.commitMember m d)
  let s := s.iter 4 (fun p s =>
    let ok := inMap && s.nimPort p == npUP && m.any (fun r => r.id.toNat == s.fld (R.NIM_PORT_PEERID_ID p))
    s.setFld (R.NIM_PORT_STATUS_INRING p) (if ok then 1 else 0))
  let lvs := (m.map (fun r => (r.peers.filter (fun p => p.1 != 0 && m.any (fun q => q.id == p.1))).map (·.2))).flatten
  let present := (m.map (fun r => 2 ^ r.self.val)).sum
  let s := (s.setFld R.NIM_STATUS_PRESENT present).setFld R.NIM_STATUS_RV (lvs.foldl min 3)
  ((s.setFld R.NIM_STATUS_STATE st).setFld R.NIM_STATUS_RESTARTS 0).setFloors

/-- The state of a commit: MISMATCH when a report was excluded. -/
def State.commitState (s : State) (l : List NimReport) : Nat := if l.any (s.excluded l) then nsMISMATCH else nsCOMMITTED

/-- The roll call taken as far as the reports and agreements held allow: with every report the map and its digest; with every
agreement the commit. It answers whether another digest calls for a new roll call (R666). -/
def State.tryRoll (s : State) : State × Bool :=
  let l := s.nim.reports
  if s.fld R.NIM_STATUS_STATE ≠ nsROLLING ∨ allReported l = false then (s, false) else
  let m := s.mapOf l
  let dg := digestOf m
  let ag := (ownRoll, dg) :: s.nim.agrees.filter (fun a => a.1 ≠ ownRoll)
  let s := { s with nim := { s.nim with digest := dg, agrees := ag } }
  if ag.any (fun a => a.2 ≠ dg) then (s, true)
  else if m.all (fun r => ag.any (fun a => a.1 == r.id.toNat)) then (s.commitMap m (s.commitState l), false)
  else (s, false)

/-- A roll call under an epoch begins here; one in progress is abandoned (R665). -/
def State.joinRoll (s : State) (num id : Nat) : State :=
  let s := if s.fld R.NIM_STATUS_STATE = nsROLLING then s.satInc R.NIM_STATUS_RESTARTS else s
  let s := { s with nim := { s.nim with epoch := (num, id), reports := [s.ownReport], agrees := [], digest := [] } }
  (s.setFld R.NIM_STATUS_ROLLNUM num).setFld R.NIM_STATUS_STATE nsROLLING

/-- This device starts a roll call (R664, R665). With no other report to wait for it commits at once. -/
def State.startRoll (s : State) : State := ((s.joinRoll (s.nim.epoch.1 + 1) ownRoll).tryRoll).1

/-- As far as it goes; another digest starts a new roll call. -/
def State.goRoll (s : State) : State :=
  let r := s.tryRoll
  if r.2 then r.1.startRoll else r.1

/-- Whether an epoch is above, or is, the present one (R665). -/
def State.rollAbove (s : State) (num id : Nat) : Bool :=
  s.nim.epoch.1 < num || (s.nim.epoch.1 == num && s.nim.epoch.2 < id)
def State.rollSame (s : State) (num id : Nat) : Bool := s.nim.epoch == (num, id)

/-- Whether a message of the ring can arrive: some port has completed step 4. -/
def State.nimHears (s : State) : Bool := s.nimOn && (List.range 4).any (fun p => s.nimPort p == npUP)

/-- Whether a message of a roll call can arrive: a port in VERSION_LOW carries those too (R652). -/
def State.rollHears (s : State) : Bool := s.nimHears || (s.nimOn && (List.range 4).any (fun p => s.nimPort p == npVERSION_LOW))

/-- Nimlink after the settings are loaded (R664). -/
def State.nimLoaded (s : State) : State :=
  if !s.nimOn then s else { s with nim := { s.nim with enabledAt := s.tb2 } }.startRoll

/-! ### Links -/

/-- A link goes down (R651, R673, R674, R678): packets lost are counted, requests whose route it carried break, and the loss
of an admitted link starts a roll call. -/
def State.linkDown (s : State) (p dropped : Nat) : State :=
  if s.nimPort p = npDOWN then s else
  let up := s.nimPort p == npUP
  let ring := s.flag (R.NIM_PORT_STATUS_INRING p)
  let cut := (List.range 16).filter (fun d => d != s.fld R.NIM_CFG_SELF && s.flag (R.NIM_MEMBER_STATE_PRESENT d) &&
    s.nimRoute d == some p)
  let s := s.satAdd (R.NIM_PORT_ERR_DROPPED p) dropped
  let s := (s.setReg (R.NIM_PORT_STATUS p) 0).setReg (R.NIM_PORT_PEERID p) 0
  let s := if up && ring then cut.foldl (fun s d => s.breakTo d) s else s
  if up && ring && s.nimOn then s.startRoll else s

/-- Every Nimlink port down (R92). -/
def State.nimDown (s : State) : State := s.iter 4 (fun p s => s.linkDown p 0)

/-- NIM_LINK_TRAINED (R651, R652): both lanes are aligned and versions exchanged with a peer of mask `mask`. -/
def execNimLinkTrained (p : Fin 4) (mask : BitVec 4) (s : State) : Step :=
  .next (if !s.nimOn || !(s.nimPort p == npDOWN || s.nimPort p == npTRAINING) then s else
    let lv := topVer mask.toNat
    let s := ((s.setPad (2 + p) .active).setFld (R.NIM_PORT_STATUS_LV p) lv).setFld (R.NIM_PORT_STATUS_LANES1 p) 0
    s.setFld (R.NIM_PORT_STATUS_STATE p)
      (if lv = 0 then npVERSION_NONE else if lv < s.fld R.NIM_CFG_MINVER then npVERSION_LOW else npAUTH))

/-- Whether the Keep can set up a link's session now: the random source serves (R709), and after a scrub a tenant is set (R717). -/
def State.sessionReady (s : State) : Bool :=
  s.keep.rng && (s.fld R.KEEP_STATUS_SCRUBSTEP == 0 || (List.range 4).any (fun k => s.fld (R.KEEP_TENANT_ID k) != 0))

/-- NIM_SESSION_INSTALLED (R651, R669, R699): the Keep has authenticated the peer, or has not (`ok` false); the peer gives its
identity, number and port. The fourth completion of step 4 within 1 s holds the port down. -/
def execNimSessionInstalled (p : Fin 4) (ok : Bool) (id : BitVec 64) (dev : Fin 16) (port : Fin 4) (s : State) : Step :=
  .next (if !s.nimOn || s.nimPort p != npAUTH || !s.sessionReady then s
    else if !ok || id == 0 || !(List.range 16).any (fun d => s.fld (R.NIM_MEMBER_ID_ID d) == id.toNat) then
      s.setFld (R.NIM_PORT_STATUS_STATE p) npAUTH_FAIL
    else
      let l := (SMap.get (fun _ => []) s.nim.ups p).filter (fun t => s.tb2 < t + 1000000000) ++ [s.tb2]
      let s := { s with nim := { s.nim with
        ups := SMap.set (fun _ => []) s.nim.ups p l
        keys := SMap.set (fun _ => 0) s.nim.keys p (SMap.get (fun _ => 0) s.nim.keys p + 1) } }
      if 3 < l.length then (s.setFld (R.NIM_PORT_STATUS_STATE p) npHELD).satInc (R.NIM_PORT_ERR_FLAPS p)
      else
        let s := (s.setFld (R.NIM_PORT_STATUS_STATE p) npUP).setFld (R.NIM_PORT_PEERID_ID p) id.toNat
        ((s.setFld (R.NIM_PORT_STATUS_PEERDEV p) dev).setFld (R.NIM_PORT_STATUS_PEERPORT p) port).startRoll)

/-- NIM_STEP_TIMEOUT (R651): a step exceeds its bound; the port returns to step 1. -/
def execNimStepTimeout (p : Fin 4) (s : State) : Step :=
  .next (if !s.nimOn || !(s.nimPort p == npDOWN || s.nimPort p == npTRAINING || s.nimPort p == npAUTH) then s else
    ((s.setReg (R.NIM_PORT_STATUS p) 0).setFld (R.NIM_PORT_STATUS_STATE p) npTRAINING).satInc (R.NIM_PORT_ERR_FLAPS p))

/-- NIM_LINK_DOWN (R673, R678). -/
def execNimLinkDown (p : Fin 4) (dropped : BitVec 16) (s : State) : Step :=
  .next (if !s.nimOn then s else s.linkDown p dropped.toNat)

/-- NIM_LANE_FAIL (R655): with LV 3 the link goes on on its other lane. -/
def execNimLaneFail (p : Fin 4) (s : State) : Step :=
  .next (if !s.nimOn || s.nimPort p == npDOWN then s
    else if s.fld (R.NIM_PORT_STATUS_LV p) = 3 ∧ s.flag (R.NIM_PORT_STATUS_LANES1 p) = false ∧ s.nimPort p = npUP then
      (s.setFld (R.NIM_PORT_STATUS_LANES1 p) 1).setFloors
    else s.linkDown p 0)

/-- NIM_PORT_HOLD_END (R669): 1 s after it was held down the port may train again. -/
def execNimPortHoldEnd (p : Fin 4) (s : State) : Step :=
  .next (if s.nimPort p = npHELD ∧ ((SMap.get (fun _ => []) s.nim.ups p).getLastD 0) + 1000000000 ≤ s.tb2 then
      let s := { s with nim := { s.nim with ups := SMap.set (fun _ => []) s.nim.ups p [] } }
      s.setReg (R.NIM_PORT_STATUS p) 0
    else s)

/-- NIM_PACKET_FORWARD (R656): `n` bytes of transit pass from one port to another, in every state of the device. -/
def execNimPacketForward (pin pout : Fin 4) (n : Nat) (s : State) : Step :=
  .next (if !s.nimOn || s.nimPort pin != npUP || s.nimPort pout != npUP || pin == pout then s else
    (s.satAdd (R.NIM_PORT_RXBYTES_COUNT pin) n).satAdd (R.NIM_PORT_TXBYTES_COUNT pout) n)

/-- NIM_PACKET_REPLAY (R647, R699): a packet is replayed; the eighth replay takes the link down. -/
def execNimPacketReplay (p : Fin 4) (times : Nat) (s : State) : Step :=
  .next (if !s.nimOn || s.nimPort p != npUP then s else
    let s := s.satAdd (R.NIM_PORT_ERR_REPLAY p) (min times 8)
    if 8 ≤ times then s.linkDown p 0 else s)

/-- NIM_REKEY (R700): both ends of a link switch to a new key. -/
def execNimRekey (p : Fin 4) (s : State) : Step :=
  .next (if !s.nimOn || s.nimPort p != npUP then s else
    { s with nim := { s.nim with keys := SMap.set (fun _ => 0) s.nim.keys p (SMap.get (fun _ => 0) s.nim.keys p + 1) } })

/-! ### Messages of the roll call -/

/-- ROLL_START (R665). -/
def execRollStart (num : BitVec 16) (id : BitVec 64) (s : State) : Step :=
  .next (if !s.rollHears || !s.rollAbove num.toNat id.toNat then s else (s.joinRoll num.toNat id.toNat).goRoll)

/-- ROLL_REPORT (R665, R666). -/
def execRollReport (num : BitVec 16) (id : BitVec 64) (r : NimReport) (s : State) : Step :=
  .next (if !s.rollHears then s else
    let s := if s.rollAbove num.toNat id.toNat then s.joinRoll num.toNat id.toNat else s
    if !s.rollSame num.toNat id.toNat || s.fld R.NIM_STATUS_STATE != nsROLLING || r.id.toNat == ownRoll then s else
    { s with nim := { s.nim with reports := s.nim.reports.filter (fun (q : NimReport) => q.id ≠ r.id) ++ [r] } }.goRoll)

/-- AGREE (R665, R666). -/
def execAgree (num : BitVec 16) (id : BitVec 64) (src : BitVec 64) (digest : List Byte) (s : State) : Step :=
  .next (if !s.rollHears then s else
    let s := if s.rollAbove num.toNat id.toNat then s.joinRoll num.toNat id.toNat else s
    if !s.rollSame num.toNat id.toNat || s.fld R.NIM_STATUS_STATE != nsROLLING || src.toNat == ownRoll then s else
    let ag := s.nim.agrees.filter (fun a => a.1 ≠ src.toNat) ++ [(src.toNat, digest)]
    { s with nim := { s.nim with agrees := ag } }.goRoll)

/-- NO_PEER (R668): no port has had a peer for 200 ms after NIMLINK was enabled; the device commits a map of itself. -/
def execNoPeer (s : State) : Step :=
  .next (if s.nimOn && s.nim.enabledAt + 200000000 ≤ s.tb2 &&
      (List.range 4).all (fun p => (s.nimPort p == npDOWN || s.nimPort p == npTRAINING) &&
        (SMap.get (fun _ => []) s.nim.ups p).isEmpty) then
    s.commitMap [s.ownReport] nsNO_PEER
  else s)

/-- TRIP_NOTICE (R561, R673, R676): a peer has tripped and departs; a neighbour's notice starts a roll call. -/
def execTripNotice (d : Fin 16) (s : State) : Step :=
  .next (if !s.nimHears || d.val == s.fld R.NIM_CFG_SELF || s.flag (R.NIM_MEMBER_STATE_TRIPPED d) then s else
    let s := (s.setFld (R.NIM_MEMBER_STATE_TRIPPED d) 1).departDevice d
    if (List.range 4).any (fun p => s.nimPort p == npUP && s.fld (R.NIM_PORT_STATUS_PEERDEV p) == d.val) then s.startRoll else s)

/-! ### Duplicated routes (R680–R683) -/

/-- CLAIM (R681, R682): the primary has committed frame `f` of a route with SEQ `sq`; the standby drops its own frame. -/
def execClaim (r : Fin 64) (f : BitVec 32) (sq : BitVec 16) (_crc : BitVec 32) (s : State) : Step :=
  .next (if !s.nimHears || !s.dupStandby r then s else
    let k := s.routeSt r
    if s.fld (R.NIM_DUP_LASTCLAIM r) < f.toNat && f.toNat ≤ s.fld (R.VERD_RSTAT_FRAME r) &&
        s.fld (R.VERD_RSTAT_STATUS r) != 0 then
      s.satInc (R.NIM_DUP_LATECLAIM r)
    else
      let s := (s.setRouteSt r { k with seq := (sq.toNat + 1) % 2 ^ 16 }).setFld (R.NIM_DUP_LASTCLAIM r) f.toNat
      if (s.openFrame r f.toNat).isSome then s.closeFrame r f.toNat else s)

/-- STANDBY_COMMIT (R682): 180 µs before the deadline of a frame for which no CLAIM has come, the standby commits its own
record. Frames from a HAND_BACK's on are the primary's (R683). -/
def execStandbyCommit (r : Fin 64) (f : Nat) (s : State) : Step :=
  .next (match s.route r, s.openFrame r f with
    | some rc, some fr =>
      if s.dupStandby r && s.mayPublish && fr.deadline rc ≤ s.tb2 + 180000 &&
          (s.handedAt r == 0 || f + 1 < s.handedAt r) then
        (s.setFld (R.NIM_DUP_ACTIVE r) 1).commitNow rc r fr
      else s
    | _, _ => s)

/-- HAND_BACK (R683): the standby names the first frame of a readmitted primary; at the primary, that message arrives, and it
commits from that frame on. -/
def execHandBack (r : Fin 64) (f0 : BitVec 32) (sq : BitVec 16) (s : State) : Step :=
  let put := fun (s : State) => { s with nim := { s.nim with back := SMap.set (fun _ => 0) s.nim.back r (f0.toNat + 1) } }
  .next (if !s.nimHears then s
    else if s.dupStandby r then
      if s.flag (R.NIM_DUP_ACTIVE r) && !s.departed (s.fld (R.NIM_DUP_PRIMARY r)) then put s else s
    else if s.dupPrimary r then
      let k := s.routeSt r
      put (s.setRouteSt r { k with seq := sq.toNat })
    else s)

end Sys2Proof.Machine
end

