-- ==== Sys2Proof/Machine/Power.lean ====
section
/-! DEFINITION. The power manager: domains, the credits of the engines, the package power and throttling (R143, R473,
R768–R779). -/
namespace Sys2Proof.Machine

/-! ### Domains (R143, R768–R770) -/

/-- Whether the unit of a domain is present on the variant (R3, R768); within a group the domains stand in the order of the
table of R768. -/
def State.domPresent (s : State) (d : Nat) : Bool :=
  if d < 80 then s.hasCore (d / 5)
  else if d < 88 then s.hasPond ((d - 80) / 2)
  else if d = 89 then s.hasPortB
  else if 90 ≤ d ∧ d < 94 then s.hasNim
  else d < 128

/-- Whether the settings disable the unit of an interface domain. -/
def State.domDisabled (s : State) (d : Nat) : Bool :=
  if 90 ≤ d ∧ d < 94 then !s.flag R.NIM_CFG_EN
  else if d = 94 ∨ d = 95 then !s.netEnabled (d - 94)
  else if d = 96 then (List.range 4).all (fun c => !s.netEnabled (2 + c))
  else if 97 ≤ d ∧ d < 109 then !s.flag (R.TAP_T_CFG_EN (d - 97))
  else if d = 109 then !s.flag R.TAP_TDMCFG_EN
  else false

/-- Every domain of a present unit on, as power-up leaves them. -/
def State.powerDomains (s : State) : State :=
  s.iter 128 (fun d s => if s.domPresent d then s.setDom d true else s)

/-- No transaction of a unit in flight. -/
def State.tagIdle (s : State) (c e : Nat) : Bool := s.fab.outst.all (fun o => !(o.core == c && o.unit == e))

/-- The engines that the loaded programs of a core's slot table use. -/
def State.slotEngines (s : State) (c : Nat) : Nat :=
  (List.range 32).foldl (fun a i =>
    if s.flag (R.CORE_SLOT_VALID c i) then
      a ||| (((s.jobs.progs.find? (·.idx == s.fld (R.CORE_SLOT_PROG c i))).map (·.engines)).getD 0)
    else a) 0

/-- Whether an engine's domain may be gated on a SPARE core, or on a SERVING one whose slot table does not use it, with no
request outstanding (R143, R769). -/
def State.engineUnused (s : State) (c e : Nat) : Bool :=
  ((s.core c).queue e).isEmpty && s.tagIdle c e &&
  (s.fld (fCoreState c) == csSPARE || (s.fld (fCoreState c) == csSERVING && !bit (s.slotEngines c) e))

/-- Whether no request of or to the unit of a core or Pond domain is in flight (R143). -/
def State.domQuiet (s : State) (d : Nat) : Bool :=
  let free := fun (r : Nat) => s.fab.outst.all (fun o => match s.loc (some o.core) o.addr with
    | .mem pa => regionOf pa != r
    | _ => true)
  if d < 80 then s.fab.outst.all (fun o => o.core != d / 5) && free (8 + d / 5)
  else if d < 88 then free (24 + (d - 80) / 2)
  else true

/-- Whether the power manager may gate a domain (R768, R769). -/
def State.domGateable (s : State) (d : Nat) : Bool :=
  if d < 80 then
    let cs := s.fld (fCoreState (d / 5))
    cs == csQUIET || cs == csFAILED ||
      (1 ≤ d % 5 && d % 5 ≤ 3 && s.engineUnused (d / 5) (d % 5 - 1))
  else if d < 88 then
    (List.range 4).all (fun i =>
      let cs := s.fld (fCoreState (4 * ((d - 80) / 2) + i))
      cs == csQUIET || cs == csFAILED)
  else if d < 112 then !s.domPresent d || s.domDisabled d
  else if d = 125 then s.fld R.DBG_TRACECFG_CORES == 0
  else if d = 126 then !s.flag R.DBG_STATUS_ATTACHED
  else false

/-- DOMAIN_GATING (R143): a domain that may be gated and that `drained` within 10 µs, with nothing in flight, goes off; else the
gating is abandoned, and no other is tried until 100 µs after those 10 µs. No request is completed and no epoch changes. -/
def execDomainGating (d : Fin 128) (drained : Bool) (s : State) : Step :=
  .next (if !s.domGateable d || s.tb2 < SMap.get (fun _ => 0) s.power.retryAt d then s
    else if drained && s.domQuiet d then s.setDom d false
    else { s with power := { s.power with retryAt := SMap.set (fun _ => 0) s.power.retryAt d (s.tb2 + 110000) } })

/-- DOMAIN_WAKE (R770): the domain is on within 5 µs of the request that needs it. -/
def execDomainWake (d : Fin 128) (s : State) : Step :=
  .next (if s.domPresent d then s.setDom d true else s)

/-! ### Credits (R771–R775) -/

/-- The credit of one engine; 5 is the Steward (R771). -/
def engineCredit (e : Nat) : Nat := creditOf (2 ^ e)

/-- The credit that core `k` holds: its engines', and its Steward's unless held, halted or lent. -/
def Core.creditHeld (k : Core) (lent : Bool) : Nat :=
  creditOf (k.held % 32) + (if k.stw == .held || k.stw == .halt || lent then 0 else engineCredit 5)

/-- The credit held by every engine. -/
def State.creditUsed (s : State) : Nat :=
  (s.cores.map (fun p => p.2.creditHeld (bit (s.fld (R.CORE_BELLSTAT_LENT p.1)) 5))).sum

/-- PWR.STATUS.FREE: what the live pool has left. -/
def State.creditFree (s : State) : Nat := s.fld R.PWR_STATUS_LIVE - s.creditUsed

/-- The class of the entry at the head of an engine's queue. -/
def Core.headCls (k : Core) (e : Nat) : Nat :=
  match k.queue e with
  | .op _ _ _ _ _ env :: _ => env.cls
  | .fence _ env :: _ => env.cls
  | .signal _ _ env :: _ => env.cls
  | .wait _ _ _ env :: _ => env.cls
  | [] => 0

/-- The credit that core `k` holds for entries of C0 slots. -/
def Core.creditC0 (k : Core) (lent : Bool) : Nat :=
  (((List.range 5).filter (fun e => bit k.held e && k.headCls e == 0)).map engineCredit).sum +
    (if (k.slot.map (·.cls)) != some 0 || k.stw == .held || k.stw == .halt || lent then 0 else engineCredit 5)

/-- What C0 has not taken of C0_RESERVE, which no other class may take (R772). -/
def State.reserveLeft (s : State) : Nat :=
  s.fld R.PWR_CFG_C0_RESERVE - (s.cores.map (fun p => p.2.creditC0 (bit (s.fld (R.CORE_BELLSTAT_LENT p.1)) 5))).sum

/-- The holders of credit of a class, lowest core and engine first. -/
def State.holders (s : State) (cls : Nat) : List (Nat × Nat) :=
  s.cores.flatMap (fun p => ((List.range 5).filter (fun e => bit p.2.held e && p.2.headCls e == cls)).map (fun e => (p.1, e)))

/-- A holder gives up its credit and is withheld (R773). -/
def State.takeCredit (s : State) (h : Nat × Nat) : State :=
  s.modCore h.1 (fun k => { k with held := clrBit k.held h.2, withheld := setBit k.withheld h.2 })

/-- Credit reclaimed from holders, in the order given, until the live pool has `need` free (R773, R776). -/
def State.reclaim (s : State) (need : Nat) : List (Nat × Nat) → State
  | [] => s
  | h :: t => if s.creditUsed + need ≤ s.fld R.PWR_STATUS_LIVE then s else State.reclaim (s.takeCredit h) need t

/-- An engine of a class asks for its credit (R771–R773): C0 reclaims from C2 and then from C1 and is never stalled, C1
reclaims from C2, C2 waits; C1 and C2 leave the reserve of C0. Answers the state with the engine holding its credit, or withheld. -/
def State.askCredit (s : State) (c e cls : Nat) : State :=
  let need := engineCredit e + (if cls = 0 then 0 else s.reserveLeft)
  let s := if cls = 0 then s.reclaim need (s.holders 2 ++ s.holders 1) else if cls = 1 then s.reclaim need (s.holders 2) else s
  if cls = 0 ∨ s.creditUsed + need ≤ s.fld R.PWR_STATUS_LIVE then
    s.modCore c (fun k => { k with held := setBit k.held e, withheld := clrBit k.withheld e })
  else s.modCore c (fun k => { k with withheld := setBit k.withheld e })

/-- CREDIT_GRANT (R773, R774): a withheld engine asks again. -/
def execCreditGrant (c : CoreId) (u : UnitId) (s : State) : Step :=
  .next (if u.val < 5 ∧ bit (s.core c).withheld u then s.askCredit c u ((s.core c).headCls u) else s)

/-- The engine goes idle or blocks, and its credit returns to the pool (R771). -/
def Core.giveBack (k : Core) (e : Nat) : Core := { k with held := clrBit k.held e, withheld := clrBit k.withheld e }

/-- Whether a unit is blocked as R473 has it: the Steward in WAIT, BARW or WFI, an engine with a wait token at its head. -/
def Core.blocked (k : Core) (u : Nat) : Bool :=
  if u = 5 then
    match k.stw with
    | .wfi => true
    | .waitObj .. => true
    | .waitBar _ => true
    | _ => false
  else
    match k.queue u with
    | .wait .. :: _ => true
    | _ => false

/-- ENGINE_LENT (R473): an engine blocked for 20 µs is marked lent and its credit returns to the pool. -/
def execEngineLent (c : CoreId) (u : UnitId) (s : State) : Step :=
  .next (if (s.core c).blocked u then
    (s.modCore c (fun k => k.giveBack u)).fldBitSet (R.CORE_BELLSTAT_LENT c) u
  else s)

/-! ### Package power and temperature (R776–R779) -/

/-- A byte as a temperature in °C. -/
def degrees (x : Nat) : Int := (BitVec.ofNat 8 x).toInt

/-- The package power of six rails in mW, from mV and units of 10 mA (R778). -/
def packagePower (l : List (BitVec 16 × BitVec 16)) : Nat := (l.map (fun p => p.1.toNat * p.2.toNat / 100)).sum

/-- PMIC_READ (R778, R779): the readings of the rails, or a failure that marks them stale. -/
def execPmicRead (r : Option (List (BitVec 16 × BitVec 16))) (s : State) : Step :=
  .next (match r with
    | none => s.setFld R.PWR_STATUS_STALE 1
    | some l =>
      let s := (l.take 6).zipIdx.foldl (fun s p =>
        (s.setFld (R.PWR_RAIL_MV p.2) p.1.1.toNat).setFld (R.PWR_RAIL_MA p.2) p.1.2.toNat) s
      let s := (s.setFld R.PWR_STATUS_PKG (min 65535 (packagePower (l.take 6)))).setFld R.PWR_STATUS_STALE 0
      { s with
        power := { s.power with lastRead := s.tb2 }
        pins := { s.pins with pads := [17, 18, 19].foldl (fun m n => SMap.set padReset m n .active) s.pins.pads } })

/-- The package power that throttling compares: PKG_LIMIT + 1 after 10 ms without a good read (R779). -/
def State.pkgSeen (s : State) : Nat :=
  if s.flag R.PWR_STATUS_STALE && s.power.lastRead + 10000000 ≤ s.tb2 then s.fld R.PWR_CFG_PKG_LIMIT + 1
  else s.fld R.PWR_STATUS_PKG

/-- The live pool after one millisecond (R776). -/
def State.nextLive (s : State) : Nat :=
  let hot := s.fld R.PWR_CFG_PKG_LIMIT < s.pkgSeen ||
    (s.fld R.PWR_CFG_TJ_THROTTLE : Int) < degrees (s.fld R.PWR_STATUS_TJ)
  let live := s.fld R.PWR_STATUS_LIVE
  if hot then max (s.fld R.PWR_CFG_C0_RESERVE) (live - 500) else min (s.fld R.PWR_CFG_POOL) (live + 500)

/-- THROTTLE_TICK (R776, R777): one millisecond of the power manager with the hottest sensor at `tj`. C2 credits are
withheld first and C1 credits second when the live pool falls. -/
def execThrottleTick (tj : BitVec 8) (s : State) : Step :=
  .next (
    let s := s.setFld R.PWR_STATUS_TJ tj.toNat
    let n := s.nextLive
    let s := (s.setFld R.PWR_STATUS_LIVE n).setFld R.PWR_STATUS_THROTTLING (if n < s.fld R.PWR_CFG_POOL then 1 else 0)
    let s := s.reclaim s.reserveLeft (s.holders 2 ++ s.holders 1)
    let low := n = s.fld R.PWR_CFG_C0_RESERVE
    let since := if low then some (s.power.atReserve.getD s.tb2) else none
    let s := { s with power := { s.power with atReserve := since } }
    s.setFld R.PWR_STATUS_THROTTLE_C0 (match since with
      | some t => if t + 1000000000 < s.tb2 then 1 else 0
      | none => 0))

/-- OVERTEMP (R777): a junction at or above 130 °C for 10 ms is FATAL. -/
def execOvertemp (s : State) : Step := .next (s.fatal 0xFF)

end Sys2Proof.Machine
end

