-- ==== Sys2Proof/Machine/DeviceStates.lean ====
section
/-! DEFINITION. Start-up, resets, restarts and the end of service: the events of R105 and their transitions (R34–R39, R87–R100,
R101–R136, R553, R579, R712, R787–R790). -/
namespace Sys2Proof.Machine

/-! ### What a reset reaches (R134, R787) -/

/-- A register word after a reset that keeps the fields of some kinds. -/
def keepWord (sel : Keep → Bool) (old : Nat) : List FieldRow → Nat
  | [] => 0
  | f :: t => (if sel f.keep then old / 2 ^ f.lo % 2 ^ f.w else f.reset) * 2 ^ f.lo + keepWord sel old t

/-- The registers after a reset: fields of the kinds `sel` and the whole registers of `whole` keep their values. -/
def resetRegs (sel : Keep → Bool) (whole : Nat → Bool) (m : SMap (BitVec 64)) : SMap (BitVec 64) :=
  m.filterMap (fun p =>
    if whole p.1 then some p else
    match regAt p.1 with
    | some (r, 0) =>
      let v := BitVec.ofNat 64 (keepWord sel p.2.toNat r.fields)
      if v = regReset p.1 then none else some (p.1, v)
    | _ => none)

/-- The fields that a warm restart and a reset by pin keep: RWS, retained, and those no reset clears (R787). -/
def keptByPin (k : Keep) : Bool := k != .none

/-- Registers outside the Verifier logic, or held by the crier or the other channel: the WATCH page, the trip record, the
safe-I/O logic, and the link states of the vehicle networks, which the crier holds (R99, R110, R134, R553, R559). -/
def keptElsewhere (off : Nat) : Bool :=
  off / 0x10000 == 3 || off == R.SAFETY_TRIP ||
  (R.SAFEIO_PAIRSTAT 0 ≤ off && off < R.SAFEIO_PAIRSTAT 8) || (R.SAFEIO_CHSTAT 0 ≤ off && off < R.SAFEIO_CHSTAT 4) ||
  (List.range 2).any (fun m => off == R.ETH_M_STATUS m) || (List.range 4).any (fun c => off == R.CAN_C_STATUS c)

/-- What a warm restart keeps besides (R131): the state of the keys, bundles and tenant. -/
def keptByWarm (off : Nat) : Bool :=
  keptElsewhere off || off == R.KEEP_STATUS ||
  (R.KEEP_BSLOT 0 ≤ off && off < R.KEEP_BSLOT 32) || (R.KEEP_TENANT 0 ≤ off && off < R.KEEP_TENANT 4)

/-- The outputs while the Verifier logic is in reset: its own low or in their reset state, the Reeve's low outside grace (R73,
R98). Those of the crier (Ethernet and CAN transmit) and the Reeve's PMIC wires go on. -/
def State.resetOutputs (s : State) : State :=
  let g := s.flag R.DEVICE_STATE_GRACE
  { s with pins := { s.pins with
      pads := SMap.dropKeys s.pins.pads (fun n => !(6 ≤ n && n < 12 || 26 ≤ n))
      faultA := false, stoHs := 0, dispValid := 0, tpo := 0, sitpA := 0
      faultB := if g then s.pins.faultB else false
      stoLs := if g then s.pins.stoLs else 0 } }

/-- What the device remembers of its DRAM channels over a reset of the Verifier logic, whose registers show it no more: those in
service and being rebuilt, unless a warm restart has taken them down already, and those that failed for good (R131, R177). -/
def State.noteChannels (s : State) : State :=
  let dead := s.dev.chDead ||| s.fld R.MEMC_STATUS_CH_FAILED
  if s.st = stRESTART then { s with dev := { s.dev with chDead := dead } }
  else { s with dev := { s.dev with
    chUp := s.fld R.MEMC_STATUS_CH_UP
    chDead := dead
    chBuild := if s.flag R.MEMC_STATUS_REBUILDING then some (s.fld R.MEMC_STATUS_REBUILD_CH) else none } }

/-- The Verifier logic after a reset that keeps some registers: cores held, queues and units empty. Memory is not touched
here; the crier's TB2, egress queues and ALIVE counters stay, and so does what the Reeve holds. DESIGN CHOICE: PREV reads its
reset value 0 until the next transition, also after a further attempt of a warm restart, which makes none (R103, R787; log
entry 164). -/
def State.resetLogic (s : State) (sel : Keep → Bool) (whole : Nat → Bool) : State :=
  let s := s.noteChannels
  let st := s.st
  let g := s.flag R.DEVICE_STATE_GRACE
  let locks := s.fld R.DEVICE_CLKSTAT_PLL_LOCK
  let cr := s.fld R.DEVICE_CLKSTAT_CRPLL_LOCK
  let lcs := s.fld R.KEEP_STATUS_LCS
  let uds := s.fld R.KEEP_STATUS_UDS_LOCKED
  let t2 := s.tb2
  let s := { s with
    regs := resetRegs sel whole s.regs
    cores := []
    fab := { s.fab with outst := [], markers := [], msgs := [], arrivals := [], ringArrived := [], completions := [] }
    dev := { s.dev with
      stopReq := [], reval := none, stopDue := false, reduced := false, mailbox := false, mailImage := none, setOk := false
      retrains := [], uncorr := [] }
    fns := []
    halves := ⟨[], []⟩
    sun := { Sun.reset with tb := SMap.set (fun _ => 0) [] 2 t2 }
    samples := []
    jobs := { s.jobs with modeReqs := [], jobs := [], routes := [], passes := [], hearth := [], restart := ⟨0, 0, []⟩, inboxLock := [] }
    net := { s.net with wins := [], decided := [], rxCount := [] }
    taps := []
    nim := Nim.reset
    chimes := []
    nvm := { s.nvm with staging := [] }
    keep := { s.keep with rng := false, seeded := false, reqs := 0, seedAt := 0, failAt := none, nego := [], sessions := [], doe := [] }
    power := ⟨none, 0, []⟩
    trace := [] }
  let s := ((s.setFld R.DEVICE_STATE_STATE st).setFld R.DEVICE_STATE_GRACE (if g then 1 else 0)).setFld R.DEVICE_CLKSTAT_PLL_LOCK
    (locks &&& 0x18)
  let s := ((s.setFld R.DEVICE_CLKSTAT_CRPLL_LOCK cr).setFld R.KEEP_STATUS_LCS lcs).setFld R.KEEP_STATUS_UDS_LOCKED uds
  let s := [R.KEEP_STATUS_RNG_READY, R.KEEP_STATUS_SESSIONS, R.KEEP_STATUS_SCRUBBING, R.KEEP_STATUS_SCRUBSTEP].foldl
    (fun s f => s.setFld f 0) s
  let s := s.iter 4 (fun c s => ((s.setFld (R.SAFEIO_CHSTAT_CMD c) 0).setFld (R.SAFEIO_CHSTAT_HS_ON c) 0).setFld
    (R.SAFEIO_CHSTAT_TESTING c) 0)
  s.powerDomains.resetOutputs

/-- DRAM and SRAM lose their contents. -/
def State.loseAll (s : State) (lo hi : Nat) : State :=
  let s := (List.range (hi - lo)).foldl (fun s i => s.loseRegion (lo + i)) s
  { s with
    poison := s.poison.filter (fun l => !(lo ≤ regionOf (64 * l) && regionOf (64 * l) < hi))
    ecc := SMap.dropKeys s.ecc (fun l => lo ≤ regionOf (64 * l) && regionOf (64 * l) < hi) }

/-- All SRAM cleared to 0 (R131, R712). -/
def State.clearSram (s : State) : State :=
  let s := (List.range 20).foldl (fun s i => s.clearRegion (8 + i)) s
  { s with poison := s.poison.filter (fun l => isDram (64 * l)) }

/-- The measurement generation advances (R694). -/
def State.bumpMeas (s : State) : State := s.wrapInc R.KEEP_MEASGEN_GEN

/-- Programs, Hearth stages and bundles unmeasured, and the tenant cleared (R711, R712). -/
def State.forgetTenant (s : State) : State :=
  let s := (s.clearRegs (R.KEEP_TENANT 0) 16).clearRegs (R.KEEP_BSLOT 0) 0x100
  { s.setFld R.KEEP_STATUS_BUNDLES 0 with jobs := { s.jobs with progs := [] }, keep := { s.keep with bundles := [] } }

/-- Every present core in TEST (R124). -/
def State.coresToTest (s : State) : State :=
  s.iter 16 (fun n s => s.setFld (fCoreState n) (if s.hasCore n then csTEST else csABSENT))

/-- The redundancies that stay lost at an entry to BOOT (R128, R147, R645, R789): a core that failed for good until cold reset, the
ports while one is down, and the networks while one is lost. The others are found anew. -/
def State.lostAtBoot (s : State) : Nat :=
  let b := fun (x : Bool) (k : Nat) => if x then 2 ^ k else 0
  b (bit s.dev.lost lostCORE_FAILED) lostCORE_FAILED + b s.portsLost lostPCIE_PORT +
    b ((List.range 2).any (fun m => s.flag (R.ETH_M_STATUS_NET_LOST m)) ||
      (List.range 4).any (fun c => s.flag (R.CAN_C_STATUS_NET_LOST c))) lostNET_PATH

/-- Entry to BOOT (R103, R106, R124, R145, R694, R711). -/
def State.enterBoot (s : State) : State :=
  let s := (s.bumpDevEpoch.bumpMeas).forgetTenant.coresToTest
  let s := { s with
    dev := { s.dev with lost := s.lostAtBoot, moved := [], holdFrom := stBOOT, imageKept := false }
    nvm := { s.nvm with force := none }
    jobs := { s.jobs with settings := [], decl := Declared.nothing } }
  let s := s.setBothDown
  ((s.setFld R.DEVICE_STATE_INVALID 1).setFld R.NVM_STATUS_INFORCE 0).setState stBOOT

/-- The PLLs of the variant, as CLKSTAT.PLL_LOCK shows them (R94). -/
def State.pllMask (s : State) : Nat :=
  let m := 0xFF
  let m := if s.hasNim then m else clrBit m 5
  if s.hasPortB then m else clrBit m 7

/-- The PLLs of the Verifier logic locked after its release; EPLL0 and EPLL1 belong to the crier and show what they did (R88,
R94). -/
def State.lockPlls (s : State) : State :=
  s.setFld R.DEVICE_CLKSTAT_PLL_LOCK ((s.fld R.DEVICE_CLKSTAT_PLL_LOCK &&& 0x18) ||| (s.pllMask &&& 0xE7))

/-- The straps sampled at a rising edge of PORST_N: bit 0 PEB_ROLE, which reads 0 without port B, bit 1 QSPI_MODE (R79, R80). -/
def State.takeStraps (s : State) (v : BitVec 2) : State :=
  s.setReg R.DEVICE_STRAPS (BitVec.ofNat 64 (if s.hasPortB then v.toNat else v.toNat / 2 * 2))

/-- A cold reset released (R83, R106, R118, R134, R582). `sramOk` says whether the Reeve's retained SRAM passed its CRC; when not,
its counts are undefined until settings validation restores them. -/
def State.coldReset (s : State) (sramOk : Bool) : State :=
  let o := s
  let watch := o.regs.filter (fun p => (match regAt p.1 with
    | some (r, 0) => r.fields.any (fun f => f.keep == .never)
    | _ => false))
  let s := { State.reset with
    pending := o.pending
    regs := resetRegs (fun k => k == Keep.never) (fun _ => false) watch
    mem := o.mem, memGen := o.memGen, irqs := o.irqs
    param := { o.param with session := none, staged := none, lockUntil := o.param.lockUntil - o.tb2 }
    nvm := { o.nvm with staging := [], force := none, fwSecver := 0, fwDigest := [] }
    keep := { State.reset.keep with lcs := o.keep.lcs }
    freeCtr := o.freeCtr }
  let s := (s.loseAll 0 28).setFld R.KEEP_STATUS_LCS o.keep.lcs
  let s := if sramOk then s.setFld R.WATCH_RSTAT_VALID 1 else
    s.iter 8 (fun i s => let q := s.draw; q.2.setFld (R.WATCH_RETAIN_COUNT i) q.1)
  let s := (s.satInc (R.WATCH_RETAIN_COUNT 5)).setFld R.DEVICE_CLKSTAT_CRPLL_LOCK 1
  let s := (s.setFld R.DEVICE_CLKSTAT_PLL_LOCK s.pllMask).setFld R.DEVICE_BOOTSTAT_STEP 2
  s.powerDomains.enterBoot

/-- The Verifier rails return (R788): the die boots from BOOT, whatever the Reeve holds; grace that the Reeve still holds goes on
(R99). -/
def State.railsReturn (s : State) : State :=
  let g := s.fld R.DEVICE_STATE_GRACE
  let s := { s with
    regs := resetRegs (fun k => k == Keep.never) (fun o => o / 0x10000 == 3) s.regs
    fns := []
    dev := { s.dev with off := false, pinLow := false, pgoodLow := false } }
  let s := ((s.setFld R.DEVICE_STATE_GRACE g).setFld R.KEEP_STATUS_LCS s.keep.lcs).setFld R.DEVICE_CLKSTAT_CRPLL_LOCK 1
  let s := (s.setFld R.DEVICE_CLKSTAT_PLL_LOCK s.pllMask).setFld R.DEVICE_BOOTSTAT_STEP 2
  let s := s.powerDomains.enterBoot
  (s.setFld R.DEVICE_RESETCAUSE_KIND 4).setFld R.DEVICE_RESETCAUSE_CAUSE 1

/-- POWER_ON (R79, R83, R100, R118, R788): a cold reset is released, or, when not `cold`, the Verifier rails return or PORST_N and
PGOOD are high again. The straps are sampled at each rising edge of PORST_N. -/
def execPowerOn (cold : Bool) (x : PowerUp) (s : State) : Step :=
  .next (if cold then (s.coldReset x.sramOk).takeStraps x.straps
    else if s.dev.off then s.railsReturn.takeStraps x.straps
    else if s.dev.pinLow then
      (({ s with dev := { s.dev with pinLow := false, pgoodLow := false } }.lockPlls).setFld
        R.DEVICE_BOOTSTAT_STEP 2).takeStraps x.straps
    else s)

/-- REEVE_START (R118 step 1, R586): the Reeve runs its safety program with the parameter set of its MRAM. -/
def execReeveStart (s : State) : Step :=
  .next { s with reeve := { s.reeve with running := true, inReset := false } }

/-! ### Boot (R114–R117) -/

/-- How an image fares under R115: its header is well formed, its key is the fused one, its signature verifies and its digest
matches; and then whether its security version is not below counter 0. -/
def State.imageOk (s : State) (img : List Byte) : Bool × Bool :=
  match Config.fwHeader img with
  | none => (false, false)
  | some (key, signed, sig, secver, digest, _) =>
    (Config.sha384 key == Config.fwKey && Config.ecdsaOk key signed sig && Config.sha384 (Config.fwBody img) == digest,
     s.fld (R.NVM_CTR_VALUE 0) ≤ secver)

/-- Whether an image verifies (R115). -/
def State.imageVerifies (s : State) (img : List Byte) : Bool := (s.imageOk img).1 && (s.imageOk img).2

/-- Whether an image fails by its security version alone (R123). -/
def State.imageRolledBack (s : State) (img : List Byte) : Bool := (s.imageOk img).1 && !(s.imageOk img).2

/-- An image that has verified starts (R115, R118, R213, R688): firmware runs on every core, and the self-tests begin. -/
def State.startImage (s : State) (img : List Byte) : State :=
  match Config.fwHeader img with
  | none => s
  | some (_, _, _, secver, digest, entry) =>
    let s := { s with
      nvm := { s.nvm with fwSecver := secver, fwDigest := digest }
      dev := { s.dev with entry := w64 entry, imageKept := true, mailbox := false, mailImage := none } }
    let s := (s.setFld R.DEVICE_BOOTSTAT_STEP 6).setFld R.KEEP_STATUS_UDS_LOCKED 1
    let s := s.iter 16 (fun n s => if s.fld (fCoreState n) = csTEST then s.startSteward n else s)
    s.setState stSELFTEST

/-- Whether the boot ROM runs: in BOOT, out of reset, with the Reeve linked (R118 step 3), and not in SCRAPPED (R685). -/
def State.booting (s : State) : Bool :=
  s.st == stBOOT && !s.dev.off && !s.dev.pinLow && s.reeve.linkUp && s.fld R.KEEP_STATUS_LCS != 4

/-- The boot flash has been read (R73, R116). -/
def State.readFlash (s : State) : State := ((s.setPad 14 .active).setPad 15 .active).setPad 16 .active

/-- BOOT_OK (R106, R114, R115, R117, R754): the image that RECOVER took from the mailbox starts, or the one of the slot tried first,
or, when that fails, the one of the other slot. The operands are what the flash holds, the header and the body of each slot's image. -/
def execBootOk (headA bodyA headB bodyB : List Byte) (s : State) : Step :=
  .next (if !s.booting then s
    else match s.dev.mailImage with
    | some img => s.startImage img
    | none =>
      let first := s.bootFirst
      let slot := fun (b : Bool) => if b then headB ++ bodyB else headA ++ bodyA
      let start := fun (b : Bool) (code : Nat) =>
        ((s.readFlash.setFld R.DEVICE_BOOTSTAT_SLOT (if b then 1 else 0)).setFld R.DEVICE_BOOTSTAT_FAIL_CODE code).startImage (slot b)
      if s.imageVerifies (slot first) then start first 0
      else if s.imageVerifies (slot (!first)) then start (!first) (if first then 2 else 1)
      else s)

/-- BOOT_FAIL (R106, R117, R123): neither slot verifies, each only by its security version (0x04) or one for another reason
(0x03). -/
def execBootFail (slotA slotB : List Byte) (s : State) : Step :=
  .next (if !s.booting || s.dev.mailImage.isSome || s.imageVerifies slotA || s.imageVerifies slotB then s else
    let s := s.readFlash.setFld R.DEVICE_BOOTSTAT_FAIL_CODE
      (if s.imageRolledBack slotA && s.imageRolledBack slotB then 4 else 3)
    { s with dev := { s.dev with holdFrom := stBOOT, mailbox := true } }.setState stHOLD)

/-- RECOVER (R106, R117): the image that the host driver has placed in the recovery mailbox, a free value, verifies, and the device
boots it. DESIGN CHOICE: FAIL_CODE is 0 from then on (log entry 165). -/
def execRecover (s : State) : Step :=
  .next (if s.st ≠ stHOLD ∨ !s.dev.mailbox then s else
    let q := s.draw
    let img := Config.mailbox q.1
    if !q.2.imageVerifies img then q.2 else
    let s := ((q.2.enterBoot.setFld R.DEVICE_BOOTSTAT_MAILBOX 1).setFld R.DEVICE_BOOTSTAT_SLOT 1).setFld R.DEVICE_BOOTSTAT_FAIL_CODE 0
    { s with dev := { s.dev with mailbox := false, mailImage := some img } })

/-! ### Self-test and validation (R118–R123) -/

/-- Whether core `n` failed its tests, itself, by its injection test, or with its Pond (R119, R386). -/
def selfTestBad (t : SelfTest) (n : Nat) : Bool := t.badCores.getLsbD n || t.badPonds.getLsbD (n / 4) || !injPass t.inj n

/-- The channels that serve after their training: those that trained and have not failed for good (R118 step 8, R177). -/
def State.chTrained (s : State) (t : SelfTest) : Nat :=
  ((List.range 8).map (fun c => if t.trained.getLsbD c && !bit s.dev.chDead c then 2 ^ c else 0)).sum

/-- Whether both channels of a mirror pair failed (R119). -/
def State.pairLost (s : State) (t : SelfTest) : Bool :=
  (List.range 4).any (fun c => !bit (s.chTrained t) c && !bit (s.chTrained t) (c + 4))

/-- The results of the tests on the cores (R118 step 9, R119, R386): each present core has run its injection test; the failed ones are
FAILED, the others have passed their golden run. -/
def State.testCores (s : State) (t : SelfTest) : State :=
  s.iter 16 (fun n s =>
    if s.fld (fCoreState n) ≠ csTEST then s
    else
      let s := s.injTest t.inj n
      if selfTestBad t n then (s.setFld (fCoreState n) csFAILED).modCore n (fun k => { k with stw := .held })
      else s.setFld (R.CORE_GOLDSTAT_OK n) 1)

/-- Step 8 of R118: the channels trained, those that failed for good left out, with the redundancy of the mirrors (R177, R789). -/
def State.trainChannels (s : State) (t : SelfTest) : State :=
  let up := s.chTrained t
  let s := (s.setFld R.MEMC_STATUS_CH_UP up).setFld R.MEMC_STATUS_CH_FAILED s.dev.chDead
  if up = 255 then s else { s with dev := { s.dev with lost := setBit s.dev.lost lostMIRROR } }

/-- The self-tests of SELFTEST done (R118 steps 7–10, R119, R790): the state after them, or a trip. The reduced self-test leaves
the channels as they are. -/
def State.selfTest (s : State) (t : SelfTest) : State :=
  if t.fatal then (s.setFld R.DEVICE_BOOTSTAT_FAIL_CODE 0x11).trip 8 0 false
  else if !s.dev.reduced && s.pairLost t then
    ((s.setFld R.DEVICE_BOOTSTAT_STEP 7).setFld R.DEVICE_BOOTSTAT_FAIL_CODE 0x11).trip 8 0 false
  else
    let s := if s.dev.reduced then { s with dev := { s.dev with reduced := false } } else s.trainChannels t
    let s := (s.testCores t).endTests
    let any := (List.range 16).any (fun n => s.hasCore n && selfTestBad t n)
    let s := if any then s.setFld R.DEVICE_BOOTSTAT_FAIL_CODE 0x10 else s
    s.setFld R.DEVICE_BOOTSTAT_STEP 10

/-- The retained counts taken from the settings store when the retained SRAM had failed its CRC (R582). -/
def State.restoreCounts (s : State) : State :=
  if s.flag R.WATCH_RSTAT_VALID then s else
  let s := s.nvm.record.zipIdx.foldl (fun s p => if p.2 < 8 then s.setFld (R.WATCH_RETAIN_COUNT p.2) p.1 else s) s
  (s.setFld R.WATCH_RSTAT_VALID 1).setFld R.WATCH_RSTAT_RESTORED 1

/-- A REVALIDATE that waits for the validation completes (R106, R737). -/
def State.endReval (s : State) (ok : Bool) : State :=
  match s.dev.reval with
  | none => s
  | some cid =>
    let s := { s with dev := { s.dev with reval := none } }
    s.complete 0 cid (if ok then 0 else 0x15) (if ok then s.fld (bankCode false) + 256 * s.fld (bankCode true) else 0)

/-- Settings validation at the end of SELFTEST, or in HOLD under a REVALIDATE (R106, R121, R685). -/
def State.validate (s : State) (t : SelfTest) : State :=
  if s.st = stSELFTEST then
    let s := s.selfTest t
    if s.st = stTRIPPED then s else
    let s := s.restoreCounts
    let r := if s.fld R.KEEP_STATUS_LCS = 0 ∨ s.fld R.KEEP_STATUS_LCS = 3 then
        ({ s.setFld R.DEVICE_BOOTSTAT_FAIL_CODE 0x20 with dev := { s.dev with holdFrom := stSELFTEST } }.setState stHOLD, false)
      else s.validateStore
    if r.2 then (r.1.placeCores.bumpMeas).nimLoaded else r.1.placeCores
  else if s.st = stHOLD ∧ s.dev.reval.isSome = true then
    let r := s.validateStore
    if r.2 then ((r.1.placeCores.bumpMeas).nimLoaded).endReval true else r.1.endReval false
  else s

/-- A validation that the command names by its outcome (`want`: SET_OK): it has effect only when the store and the Reeve give
that outcome, or the self-tests trip the device. -/
def State.outcomeIs (s t : State) (want : Bool) : State :=
  if t.st = stTRIPPED ∨ (t.st = stREADY) = (want = true) then t else s

/-- SET_OK (R106, R121). -/
def execSetOk (t : SelfTest) (s : State) : Step := .next (s.outcomeIs (s.validate t) true)

/-- SET_NONE (R106, R122, R123). -/
def execSetNone (t : SelfTest) (s : State) : Step := .next (s.outcomeIs (s.validate t) false)

/-! ### Resets of the Verifier and the Reeve (R100, R134, R788) -/

/-- A reset of the Verifier die by pin (R99, R100, R106, R134): what it reaches, with CAUSE 2 for PORST_N and 3 for PGOOD.
During a warm restart under grace the device is TRIPPED and the Reeve keeps grace in force until the link returns or grace
ends. -/
def State.pinReset (s : State) (pgood : Bool) : State :=
  let s := s.satInc (R.WATCH_RETAIN_COUNT 6)
  let held : Bool := s.st == stRESTART && s.flag R.DEVICE_STATE_GRACE
  let s := if held then s.dropWaiting.setState stTRIPPED else if s.serving ∨ s.st = stRESTART then s.trip 4 0 true else s
  let s := ((s.resetLogic keptByPin keptElsewhere).loseAll 0 28).setFld R.DEVICE_STATE_GRACE (if held then 1 else 0)
  let s := { s with
    dev := { s.dev with pinLow := true, pgoodLow := pgood, warmHeld := false, announced := false, moved := [] }
    jobs := { s.jobs with settings := [], decl := Declared.nothing, inbox := [], inboxGen := s.freeCtr }
    nvm := { s.nvm with force := none }
    reeve := { s.reeve with linkUp := false }
    ladder := { s.ladder with demand := none, wdStopped := true } }
  let s := ((s.setBothDown.setFld R.DEVICE_RESETCAUSE_KIND 2).setFld R.DEVICE_RESETCAUSE_CAUSE (if pgood then 3 else 2)).resetOutputs
  if s.st = stTRIPPED then s.forgetTenant else s.enterBoot

/-- PIN_RESET (R106): PORST_N or, with `pgood`, PGOOD goes low while COLD does not apply. -/
def execPinReset (pgood : Bool) (s : State) : Step :=
  .next (if s.dev.off then s
    else if s.dev.pinLow then { s with dev := { s.dev with pgoodLow := s.dev.pgoodLow || pgood } }
    else s.pinReset pgood)

/-- The Reeve's lockout and change session as TB2 is cleared: what is left of them is left (R608, R610, R614). -/
def Param.rebase (p : Param) (t : Nat) : Param :=
  { p with lockUntil := p.lockUntil - t, session := p.session.map (fun x => (x.1 - t, x.2)) }

/-- VERIFIER_POWER_LOSS (R99, R134, R788): PGOOD falls first, then the crier, TB2, the ALIVE counters, the RWS and retained
registers and the Verifier's trip latch lose their contents. Grace that began before a reset in RESTART stays in force with the
Reeve. -/
def execVerifierPowerLoss (s : State) : Step :=
  .next (if s.dev.off || !s.reeve.running then s else
    let s := if s.dev.pinLow then s else s.pinReset true
    let st := s.st
    let g := s.fld R.DEVICE_STATE_GRACE
    let s := { s with regs := resetRegs (fun k => k == Keep.never) (fun o => o / 0x10000 == 3) s.regs }
    let s := ((s.setFld R.DEVICE_STATE_STATE st).setFld R.DEVICE_STATE_GRACE g).setFld R.KEEP_STATUS_LCS s.keep.lcs
    { s with
      dev := { s.dev with off := true, pgoodLow := true, lost := 0, chDead := 0, cfgLocked := false }
      sun := { s.sun with tb := [] }
      net := ⟨[], [], [], [], [], []⟩
      keep := { s.keep with loads := 0 }
      pins := { s.pins with pads := SMap.dropKeys s.pins.pads (fun n => n < 26) }
      ladder := { s.ladder with expiries := [], restarts := [], demand := none, single := none }
      param := s.param.rebase s.tb2
      reeve := { s.reeve with tripA := false, graceUntil := s.reeve.graceUntil - s.tb2 } })

/-- REEVE_RESET (R98, R100, R134): REEVE_PORST_N asserted without a cold reset. The device trips; the Reeve and the crier with TB2
and the ALIVE counters are reset, and the vehicle networks carry nothing while it is low. -/
def execReeveReset (s : State) : Step :=
  .next (
    let s := s.trip 0x0E 0 false
    { s with
      reeve := { s.reeve with
        running := false, inReset := true, linkUp := false, lastState := 0, graceUntil := 0, missA := 0, missB := 0, railOut := 0 }
      sun := { s.sun with tb := SMap.set (fun _ => 0) s.sun.tb 2 0 }
      net := { s.net with egress := [], alive := [] }
      param := { s.param.rebase s.tb2 with session := none, staged := none }
      sio := Sio.start
      ladder := { s.ladder with expiries := [], restarts := [], demand := none }
      pins := { s.pins with sitpA := 0, sitpB := 0, pads := SMap.dropKeys s.pins.pads (fun n => 6 ≤ n && n < 12 || 26 ≤ n) } })

/-! ### Warm restarts (R106, R130–R133, R579) -/

/-- Step 1 of a warm restart (R130, R131): announced, the Verifier logic held in reset, DRAM and its keys kept, the links of both
ports down (R98, R145); grace when it begins in service and is enabled (R38). Without grace the device goes to RESTART all the
same (R99, R106; log entry 166). -/
def State.beginWarm (s : State) (cause : Nat) : State :=
  let served := s.serving
  let again := s.st == stRESTART
  let g := served && s.flag R.SAFETY_CFG_GRACE_EN
  let s := if g then
      { s.setFld R.DEVICE_STATE_GRACE 1 with reeve := { s.reeve with graceUntil := s.tb2 + 200000000 } } else s
  let s := s.satInc R.DEVICE_RESETCAUSE_WARM_COUNT
  let s := (s.resetLogic keptByPin keptByWarm).clearSram
  let s := ((s.setFld R.DEVICE_RESETCAUSE_KIND 3).setFld R.DEVICE_RESETCAUSE_CAUSE cause)
  let s := { s with
    dev := { s.dev with warmHeld := true, announced := true, lost := setBit s.dev.lost lostPCIE_PORT }
    reeve := { s.reeve with linkUp := false }
    ladder := { s.ladder with demand := none, wdStopped := true } }
  let s := s.setBothDown
  if served then
    let s := (s.bumpDevEpoch.bumpMeas).coresToTest
    (s.setFld R.DEVICE_STATE_INVALID 1).setState stRESTART
  else if again then (s.bumpDevEpoch.bumpMeas).coresToTest
  else s.enterBoot

/-- The ladder warm restarts that count toward N (R579). -/
def State.ladderCount (s : State) : Nat :=
  (s.ladder.restarts.filter (fun t => s.tb2 ≤ t + 1000000000 * s.fld R.WATCH_LADDER_PERIOD)).length

/-- A ladder demand (R578, R579): merged with one not yet begun, else counted, and at the limit a trip. -/
def State.ladderDemand (s : State) (cause : Nat) : State :=
  match s.ladder.demand with
  | some c => { s with ladder := { s.ladder with demand := some (min c cause) } }
  | none =>
    if s.fld R.WATCH_LADDER_N ≤ s.ladderCount then s.trip 7 0 true
    else { s.satInc (R.WATCH_RETAIN_COUNT 2) with ladder := { s.ladder with
        demand := some cause, restarts := s.ladder.restarts ++ [s.tb2] } }

/-- WARM (R105, R106, R107, R130): the ladder warm restart that is demanded begins, and commands that wait for a boundary have lost
their meaning. In RESTART it changes nothing. -/
def execWarm (s : State) : Step :=
  .next (if s.st = stTRIPPED ∨ s.dev.off = true ∨ s.dev.pinLow = true then s else
    match s.ladder.demand with
    | some c =>
      if s.st = stRESTART then { s with ladder := { s.ladder with demand := none } } else (s.dropWaiting).beginWarm c
    | none => s)

/-- A failed attempt of a warm restart (R106, R132): a new attempt, which counts toward the ladder. -/
def State.restartFails (s : State) : State :=
  let s := s.ladderDemand 0x13
  if s.st = stTRIPPED then s else s.beginWarm 0x13

/-- RS_FAIL (R106, R132). -/
def execRsFail (s : State) : Step := .next (if s.st = stRESTART then s.restartFails else s)

/-- Whether the retained bank still has the settings in force (R130 step 6, R753): its image carries the same DIGEST. -/
def State.bankHolds (s : State) : Bool :=
  match s.nvm.force with
  | none => false
  | some (b, _, digest) => ((imageOf (s.nvSlot (s.fld (bankSlot b)))).drop 0x20).take 48 == digest

/-- The DRAM channels of a warm restart: those in service before it serve again, but one that does not train fails (R131, R176,
R789). -/
def State.resumeChannels (s : State) (t : SelfTest) : State :=
  let s := (s.setFld R.MEMC_STATUS_CH_UP s.dev.chUp).setFld R.MEMC_STATUS_CH_FAILED s.dev.chDead
  let s := match s.dev.chBuild with
    | some c => (s.setFld R.MEMC_STATUS_REBUILDING 1).setFld R.MEMC_STATUS_REBUILD_CH c
    | none => s
  s.iter 8 (fun c s => if t.trained.getLsbD c then s else s.channelFail c)

/-- RS_OK (R37, R106, R130, R132, R573, R753): the tests have passed, the retained image and keys are there, and the Reeve and the
retained bank confirm the settings. The settings in force are loaded again and the device serves. An attempt that meets none
of this fails. -/
def execRsOk (t : SelfTest) (s : State) : Step :=
  .next (if s.st ≠ stRESTART ∨ !s.dev.warmHeld ∨ !s.reeve.linkUp then s else
    let agree := s.setting 0x34 == some (Config.sha384 s.param.set)
    if !s.dev.imageKept || s.fld R.KEEP_STATUS_KEYSLOTS == 0 || !s.bankHolds || !agree || t.fatal then s.restartFails else
    let s := s.resumeChannels t
    if s.st = stTRIPPED then s else
    let s := (s.testCores t).endTests
    let s := s.iter 16 (fun n s => if s.fld (fCoreState n) = csTEST then s.startSteward n else s)
    let s := match s.nvm.force with
      | some (b, old, _) => (s.setFld R.NVM_STATUS_INFORCE (if b then 2 else 1)).setFld R.NVM_STATUS_FALLBACK (if old then 1 else 0)
      | none => s
    let s := (s.loadSettings.placeCores).nimLoaded
    let s := { s with
      dev := { s.dev with warmHeld := false, announced := false }
      jobs := { s.jobs with routes := [], progs := s.jobs.progs.map (fun p : Prog => { p with single := false }) } }
    s.setState (if s.dev.lost = 0 then stSERVING else stDEGRADED))

/-- The trip that the Reeve holds, taken over the Reeve link by a Verifier that has booted after a power loss (R788): its record is
that of WATCH.LASTTRIP (log entry 108). -/
def State.takeTrip (s : State) : State :=
  if !s.reeve.tripB || s.flag R.SAFETY_TRIP_TRIPPED then s else
  let s := (((s.setFld R.SAFETY_TRIP_TRIPPED 1).setFld R.SAFETY_TRIP_DIE (s.fld R.WATCH_LASTTRIP_DIE)).setFld
    R.SAFETY_TRIP_SOURCE (s.fld R.WATCH_LASTTRIP_SOURCE)).setFld R.SAFETY_TRIP_DETAIL (s.fld R.WATCH_LASTTRIP_DETAIL)
  { s with reeve := { s.reeve with tripA := true } }.setState stTRIPPED

/-- REEVE_LINK_UP (R94, R99, R100, R118, R130, R549, R553, R788): the link comes up and channel A takes over the state of channel B's
logic; the chains restart and the discrepancy counts are cleared. A transfer that fails is ST_FATAL in a boot and RS_FAIL in a
warm restart. Channel A uses the Reeve's parameter set when it has its digest (R586, R589). Under grace, a link that returns
from another reset than the warm restart trips the Reeve. -/
def execReeveLinkUp (ok : Bool) (s : State) : Step :=
  .next (if !s.reeve.running || s.reeve.linkUp || s.dev.off || s.dev.pinLow then s else
    if !ok then
      (if s.st = stRESTART then s.restartFails
       else if s.st = stBOOT then (s.setFld R.DEVICE_BOOTSTAT_FAIL_CODE 0x11).trip 8 0 false
       else s)
    else
      let s := { s with
        reeve := { s.reeve with linkUp := true, missA := 0, missB := 0 }
        sio := { s.sio with diff := 0, due := 0, missed := false, chainA := Chain.start, chainB := Chain.start } }
      let s := ((s.setFld R.SAFEIO_STATUS_PARAM_OK 1).driveSitp).lockPlls
      let s := if s.st = stBOOT then { s.setFld R.DEVICE_BOOTSTAT_STEP 3 with dev := { s.dev with warmHeld := false } } else s
      if s.flag R.DEVICE_STATE_GRACE && s.fld R.DEVICE_RESETCAUSE_KIND != 3 then s.trip 4 0 true else s.takeTrip)

/-- VERIFIER_SILENT (R99): the Reeve sees the Verifier silent for two scan periods and acts on the state it last received. -/
def execVerifierSilent (s : State) : Step :=
  .next (if !s.reeve.running || s.st = stTRIPPED then s else s.lostVerifier)

/-- REEVE_LOST (R99): the Verifier detects the loss of the Reeve. -/
def execReeveLost (s : State) : Step :=
  .next (if s.dev.off || s.dev.pinLow then s else
    let s := s.trip 4 0 false
    { s with reeve := { s.reeve with linkUp := false } })

/-- GRACE_END (R39, R99, R133): 200 ms after the trigger without a C0 PASS or SUBSTITUTED. The Reeve counts them itself while the
Verifier has no power and TB2 stands. -/
def execGraceEnd (s : State) : Step :=
  .next (if s.flag R.DEVICE_STATE_GRACE && (s.dev.off || s.reeve.graceUntil ≤ s.tb2) then s.trip 0x0D 0 true else s)

/-! ### The end of service (R106, R108) -/

/-- The reference tap gives boundaries (R108): enabled and not IDLE. -/
def State.refRuns (s : State) : Bool :=
  let k := s.fld R.TAP_LTCFG_REF
  s.flag (R.TAP_T_CFG_EN k) && s.fld (R.TAP_T_STAT_TSTATE k) != 0

/-- Watch jobs cancelled: no frame stays open and no record follows (R106, R108, R712). -/
def State.cancelJobs (s : State) : State :=
  let shut : Nat × RouteSt → Nat × RouteSt := fun p => (p.1, { p.2 with frames := [] })
  let rs := (s.jobs.routes.map shut).filter (fun p => p.2 != RouteSt.empty)
  let s := { s with jobs := { s.jobs with jobs := [], passes := [], inboxLock := [], routes := rs } }
  s.iter 64 (fun r s => s.setFld (R.VERD_RSTAT_PROV_OPEN r) 0)

/-- The verdicts in composition published: the frames of each route whose record may be committed, oldest first (R108). -/
def State.publishReady (s : State) : State :=
  s.jobs.routes.foldl (fun s p => match s.route p.1 with
    | none => s
    | some rc => p.2.frames.foldl (fun s fr => match (s.routeSt p.1).frames with
      | x :: _ => if x.frame = fr.frame ∧ x.prov = none ∧ s.commitReady rc p.1 x = true then s.commit rc p.1 x else s
      | [] => s) s) s

/-- Whether commands that wait for a frame boundary of the reference tap may take effect: it has come, or none is awaited
(R108). -/
def State.boundaryCame (s : State) : Bool := !s.refRuns || s.dev.stopDue

/-- The commands of a kind that wait for the boundary, removed and answered. -/
def State.takeStop (s : State) (p : StopKind → Bool) : State × List Nat :=
  let rest := s.dev.stopReq.filter (fun q => !p q.1)
  ({ s with dev := { s.dev with stopReq := rest, stopDue := s.dev.stopDue && !rest.isEmpty } },
   (s.dev.stopReq.filter (fun q => p q.1)).map (·.2))

/-- A commanded warm restart at its boundary (R106, R107, R108): what is in composition is published, the commands that wait with
it end with STATE_CHANGED, and it begins; in RESTART it changes nothing. -/
def State.warmNow (s : State) : State :=
  if s.st = stRESTART ∨ s.st = stTRIPPED then (s.takeStop (· == .warm)).1 else (s.publishReady.dropWaiting).beginWarm 0x12

/-- STOP_EFFECT (R106, R107, R108): once the frame boundary has come, a commanded warm restart begins, or else STOP takes effect:
what is in composition is published, jobs are cancelled, marking reapplied, READY. Its command completes with DEVICE.STATE
(R737), a command made meaningless with STATE_CHANGED. -/
def execStopEffect (s : State) : Step :=
  .next (
    if !s.boundaryCame then s
    else if s.dev.stopReq.any (fun q => q.1 == .warm) then s.warmNow
    else
      let r := s.takeStop (· == .stop)
      match r.2 with
      | [] => s
      | cid :: rest =>
        let s := r.1
        let s := if s.serving then
            ((s.publishReady.cancelJobs).setFld R.DEVICE_STATE_INVALID 1).setState stREADY
          else s
        let s := s.complete 0 cid (if s.st = stREADY then 0 else 5) (s.stateInfoWord)
        rest.foldl (fun s c => s.complete 0 c 5 0) s)

/-- Every Nimlink link and session ends, and so do the SPDM and IDE sessions (R712 step 2, R717). -/
def State.endSessions (s : State) : State :=
  let s := s.nimDown
  let s := (s.setFld (R.PCIE_P_PORTSTAT_IDE 0) 0).setFld (R.PCIE_P_PORTSTAT_IDE 1) 0
  { s with keep := { s.keep with sessions := [], nego := [] } }.setFld R.KEEP_STATUS_SESSIONS 0

/-- A core with everything the scrub clears cleared (R712 step 3); its firmware runs on. -/
def Core.scrub (k : Core) : Core :=
  { Core.reset with pc := k.pc, priv := k.priv, csr := k.csr, stw := (if k.stw = .held then .held else .run), dbgHalt := k.dbgHalt }

/-- Steps 1 to 4 of the scrub (R712): jobs cancelled, marking applied, keys and sessions destroyed, engines, registers and
client-visible counters cleared, SRAM zeroed. -/
def State.beginScrub (s : State) : State :=
  let s := (s.cancelJobs.setFld R.DEVICE_STATE_INVALID 1).setFld R.KEEP_STATUS_SCRUBBING 1
  let s := (s.bumpMeas).endSessions.setFld R.KEEP_STATUS_KEYSLOTS 0
  let s := s.iter 16 (fun n s => if !s.hasCore n then s else
    let s := s.modCore n Core.scrub
    let s := ((s.clearRegs (R.CORE_MBOX n 0) 0x40).clearRegs (R.CORE_SOBJ n 0) 0x400).clearRegs (R.CORE_SOBJCFG n 0) 0x800
    let s := ((s.setReg (R.CORE_BELLERR n) 0).setReg (R.CORE_ENGFLAG n) 0).setReg (R.CORE_BELLSTAT n) 0
    s.setReg (R.CORE_DRIFT n) 0)
  let s := (s.clearRegs (R.CVU_U_CFG 10) (22 * 0x80)).clearRegs (R.CVU_U_CFG 5) (4 * 0x80)
  let s := (s.setReg R.BELL_XLOG 0).setReg R.PART_FENCELOG 0
  let s := s.iter 4 (fun c s => s.clearClient c)
  let s := s.iter 5 (fun f s => ((s.clearRegs (R.PCIEA_F_FATE f 0) 0x20).setReg (R.PCIEA_F_BUSY f) 0).setReg (R.PCIEA_F_BYTES f) 0)
  let s := { s with
    fab := { s.fab with outst := [], markers := [], msgs := [], arrivals := [], completions := [] }
    jobs := { s.jobs with routes := [], hearth := [], restart := ⟨0, 0, []⟩, modeReqs := [] }
    keep := { s.keep with reqs := 0, seedAt := s.tb2 } }
  s.clearSram.setFld R.KEEP_STATUS_SCRUBSTEP 4

/-- The locks that entry to SERVICE clears (R171). -/
def State.unlockSettings (s : State) : State :=
  let s := [R.MEMC_LOCK_LOCK, R.PART_LOCK_LOCK, R.TAP_LOCK_LOCK, R.CVU_LOCK_LOCK, R.SUNDIAL_LOCK_LOCK, R.NIM_LOCK_LOCK].foldl
    (fun s f => s.setFld f 0) s
  { s with dev := { s.dev with setOk := false } }

/-- SERVICE_ENTRY (R106, R107, R108, R712): once the frame boundary has come, ENTER_SERVICE takes effect and the scrub starts; its
command completes with DEVICE.STATE (R737). A warm restart that waits for the same boundary comes first. -/
def execServiceEntry (s : State) : Step :=
  .next (
    if !s.boundaryCame then s
    else if s.dev.stopReq.any (fun q => q.1 == .warm) then s.warmNow
    else
    let r := s.takeStop (· == .service)
    match r.2 with
    | [] => s
    | cid :: rest =>
      let s := r.1
      if !(s.serving || s.st == stHOLD || s.st == stREADY) then s.complete 0 cid 5 0 else
      let s := ((s.publishReady.unlockSettings.beginScrub).setState stSERVICE).iter 12 (fun k s => s.idleTap k)
      let s := s.complete 0 cid 0 s.stateInfoWord
      rest.foldl (fun s c => s.complete 0 c 5 0) s)

/-- Address ranges without one range. -/
def cutRange (l : List (Nat × Nat)) (r : Nat × Nat) : List (Nat × Nat) :=
  (l.flatMap (fun x => [(x.1, min x.2 r.1), (max x.1 r.2, x.2)])).filter (fun x => x.1 < x.2)

/-- Step 5 of the scrub: all DRAM written with zero beneath the encryption, so that a CRYPT region reads as the decryption of
zero blocks, which is open (R712). -/
def State.zeroDram (s : State) : State :=
  let crypt := ((List.range 16).filter (fun n => s.flag (R.MEMC_RGN_VALID n) && s.flag (R.MEMC_RGN_CRYPT n))).map (fun n =>
    (0x100000 * s.fld (R.MEMC_RGN_BASE n), 0x100000 * (s.fld (R.MEMC_RGN_BASE n) + s.fld (R.MEMC_RGN_SIZE n))))
  let clear := crypt.foldl cutRange [(0, 0x200000000)]
  let s := (List.range 8).foldl (fun s c => s.clearRegion c) s
  let s := (List.range 8).foldl (fun s c => s.loseRegion c clear) s
  { s with poison := s.poison.filter (fun l => !isDram (64 * l)), ecc := [] }

/-- SCRUB_DONE (R712 steps 5 and 6, R695): DRAM zeroed, programs and tenant forgotten, new keys when the source serves, and the
event on PF0. `total` and `dram` are the durations in microseconds. -/
def execScrubDone (total dram : BitVec 32) (s : State) : Step :=
  .next (if s.st ≠ stSERVICE ∨ !s.flag R.KEEP_STATUS_SCRUBBING then s else
    let s := (s.zeroDram.forgetTenant.setFld R.KEEP_STATUS_SCRUBBING 0).setFld R.KEEP_STATUS_SCRUBSTEP 6
    let s := (s.bumpMeas.setFld R.KEEP_SCRUBTIME_TOTAL total.toNat).setFld R.KEEP_SCRUBTIME_DRAM dram.toNat
    let s := if s.keep.rng then s.setFld R.KEEP_STATUS_KEYSLOTS 0xF else s
    s.postEvent 0 7 total.toNat)

/-! ### Faults (R87, R92, R95, R126, R558) -/

/-- CORE_RESTART (R126, R563): a fault is detected in core `c`. -/
def execCoreRestart (c : CoreId) (cause : BitVec 8) (s : State) : Step := .next (s.coreFault c cause.toNat)

/-- CORE_RETEST_DONE (R126 step 7, R128, R136). -/
def execCoreRetestDone (c : CoreId) (ok : Bool) (s : State) : Step := .next (s.retestDone c ok)

/-- TRIP (R555, R558): a TRIP source or the FATAL line asserts, on the Reeve die when `b`. -/
def execTrip (source detail : BitVec 8) (b : Bool) (s : State) : Step := .next (s.trip source.toNat detail.toNat b)

/-- RAIL_FAULT (R87): what the Reeve finds on a rail while its program runs and PGOOD is high: its comparator of VDD_SRAM and
VDD_CORE (rails 3 and 4 in the order of R81), a reading, of which two in a row outside the tolerance are a fault, or 10 ms
without one. DESIGN CHOICE: the comparators, too, are judged only while PGOOD is high (log entry 167). -/
def execRailFault (ev : RailEv) (s : State) : Step :=
  .next (if s.dev.off || s.dev.pgoodLow || !s.reeve.running then s else
    let put := fun (s : State) (m : Nat) => { s with reeve := { s.reeve with railOut := m } }
    match ev with
    | .comparator rail => if rail.val = 3 ∨ rail.val = 4 then s.trip 5 rail true else s
    | .reading rail out =>
      let s := (s.setPad 26 .active).setPad 27 .active
      if !out then put s (clrBit s.reeve.railOut rail)
      else if bit s.reeve.railOut rail then s.trip 5 rail true
      else put s (setBit s.reeve.railOut rail)
    | .silent rail => s.trip 5 rail true)

/-- Whether the Verifier logic is held in reset, by pin or in a warm restart, so that its own clock monitors detect nothing
(R92). -/
def State.monitorsOff (s : State) : Bool := s.dev.off || s.dev.pinLow || (s.dev.warmHeld && !s.reeve.linkUp)

/-- The monitors of the Reeve, which react in every state of the Verifier die (R92). -/
def clkReeve (e : ClkEvent) : Bool :=
  match e with
  | .tcxo => true
  | .rxtalStop => true
  | _ => false

/-- The lock detectors of the crier, which react as long as it has power (R92). -/
def clkCrier (e : ClkEvent) : Bool :=
  match e with
  | .crpll => true
  | .pll i => i.val == 3 || i.val == 4
  | _ => false

/-- CLOCK_FAILURE (R92, R94): the reaction to a monitor or lock detector. DESIGN CHOICE: SAFETY.TRIP.DETAIL is 0 for TCXO, 1 for
RXTAL and 2 for CRPLL, and the bit of PLL_LOCK for a PLL of the Verifier (log entry 168). -/
def execClockFailure (e : ClkEvent) (s : State) : Step :=
  .next (if s.monitorsOff && !clkReeve e && !(clkCrier e && !s.dev.off) then s else match e with
    | .tcxo => s.trip 6 0 true
    | .rxtal => s.trip 6 1 false
    | .rxtalStop => s.trip 6 1 true
    | .crpll => (s.setFld R.DEVICE_CLKSTAT_CRPLL_LOCK 0).trip 6 2 true
    | .refclkA => (s.setFld R.DEVICE_CLKSTAT_REFCLKA_LOST 1).portFail 0
    | .refclkB => (s.setFld R.DEVICE_CLKSTAT_REFCLKB_LOST 1).portFail 1
    | .x32k => (s.setFld R.DEVICE_CLKSTAT_X32K_LOST 1).setFld R.DEVICE_CLKSTAT_X32K_FALLBACK 1
    | .tcxoWarn => s.setFld R.DEVICE_CLKSTAT_TCXO_WARN 1
    | .rxtalWarn => s.setFld R.DEVICE_CLKSTAT_RXTAL_WARN 1
    | .pll i =>
      let s := s.fldBitClr R.DEVICE_CLKSTAT_PLL_LOCK i
      if i.val < 3 then s.trip 6 i false
      else if i.val < 5 then s.macLinkDown (i.val - 3)
      else if i.val = 5 then s.nimDown
      else s.portFail (i.val - 6))

/-- X32K_RETURN (R95). -/
def execX32kReturn (s : State) : Step := .next (s.setFld R.DEVICE_CLKSTAT_X32K_FALLBACK 0)

/-! ### Heartbeats and notices (R96, R97, R112) -/

/-- HEARTBEAT_TOGGLE (R96, R97, R562): FAULT_A_HB, or FAULT_B_HB when `b`, toggles at its half-period while its conditions
hold; otherwise it is low. -/
def execHeartbeatToggle (b : Bool) (s : State) : Step :=
  let cond := s.serving && !s.flag R.DEVICE_STATE_INVALID
  let hold := s.reeve.running && !s.reeve.tripB && ((cond && s.reeve.linkUp) || s.flag R.DEVICE_STATE_GRACE)
  .next (if b then { s with pins := { s.pins with faultB := hold && !s.pins.faultB } }
    else { s with pins := { s.pins with faultA := cond && !s.reeve.tripA && !s.pins.faultA } })

/-- Whether the crier sends on a network: before the settings are known on every network with a link; after, on those
enabled that carry a C0 route (R111–R113, R792). -/
def State.noticeOn (s : State) (n : Nat) : Bool :=
  let link := 2 ≤ n || s.flag (R.ETH_M_STATUS_LINK n)
  match s.jobs.settings with
  | [] => link
  | st =>
    let get := fun id => ((st.find? (·.1 == id)).map (·.2)).getD []
    let en := if n < 2 then stFld get 0x42 (R.ETH_M_CFG_EN n) == 1 else stFld get 0x43 (R.CAN_C_CFG_EN (n - 2)) == 1
    link && en && (routesOf (get 0x10)).any (fun r => r.cls == 0 && ((pairNets r.netpair).1 == n || (pairNets r.netpair).2 == n))

/-- INVALID_NOTICE (R112, R638): while the marking is in force, one notice on each network that the crier uses. A CAN
controller holds one unsent notice (R637). -/
def execInvalidNotice (s : State) : Step :=
  .next (if s.dev.off || !s.reeve.running || !s.flag R.DEVICE_STATE_INVALID then s else
    let g := if s.flag R.DEVICE_STATE_GRACE then 1 else 0
    let t := if s.st = stTRIPPED then 2 else 0
    let payload := leBytes 1 s.st ++ leBytes 1 (s.fld R.DEVICE_STATE_DEV_EPOCH) ++ leBytes 1 (g + t) ++ leBytes 1 0
    let a := SMap.get (fun _ => 0) s.net.alive 0x80
    let f : NetFrame := ⟨0x80, s.envelope nkNOTICE 0x80 a payload, s.tb2⟩
    let s := { s with
      net := { s.net with alive := SMap.set (fun _ => 0) s.net.alive 0x80 ((a + 1) % 2 ^ 16) }
      reeve := { s.reeve with notices := s.reeve.notices + 1 } }
    ((List.range 6).filter s.noticeOn).foldl (fun s n => s.setEgress n ((s.egress n).filter (·.stream ≠ 0x80) ++ [f])) s)

end Sys2Proof.Machine
end

