-- ==== Sys2Proof/Machine/Watch.lean ====
section
/-! DEFINITION. The watchmen and the ladder, the retained counts, and the rotating self-tests (R564–R582). -/
namespace Sys2Proof.Machine

/-! ### Watchmen (R572–R578) -/

/-- The token after a valid service (R575). -/
def nextToken (t : Nat) : Nat := nxor (t / 2) (t % 2 * 0xB400)

/-- The one valid service word of a token (R575). -/
def serviceWord (t : Nat) : Nat := t % 0x10000 * 0x10000 + (0xFFFF - t % 0x10000)

/-- A watchman's configuration: core `w`, or the device watchman for 16. -/
def wmReg (w : Nat) : Nat := if w < 16 then R.CORE_WMCFG w else R.WATCH_CFG
/-- WMAX of a watchman. -/
def wmMax (w : Nat) : Fld := if w < 16 then R.CORE_WMCFG_WMAX w else R.WATCH_CFG_WMAX
/-- WMIN of a watchman. -/
def wmMin (w : Nat) : Fld := if w < 16 then R.CORE_WMCFG_WMIN w else R.WATCH_CFG_WMIN
/-- WARN of a watchman. -/
def wmWarn (w : Nat) : Fld := if w < 16 then R.CORE_WMCFG_WARN w else R.WATCH_CFG_WARN
/-- EN of a watchman. -/
def wmEn (w : Nat) : Fld := if w < 16 then R.CORE_WMCFG_EN w else R.WATCH_CFG_EN
/-- The ticks since a watchman's last valid service. -/
def wmElapsed (w : Nat) : Fld := if w < 16 then R.CORE_WMSTAT_ELAPSED w else R.WATCH_STAT_ELAPSED
/-- A watchman's token. -/
def wmToken (w : Nat) : Fld := if w < 16 then R.CORE_WMSTAT_TOKEN w else R.WATCH_STAT_TOKEN

/-- Whether a watchman counts: on, and in no state of R577 that stops it. -/
def State.wmCounts (s : State) (w : Nat) : Bool :=
  s.flag (wmEn w) && s.st != stTRIPPED &&
    (if w < 16 then s.hasCore w && s.fld (fCoreState w) != csFAILED else !s.ladder.wdStopped)

/-- A watchman's count restarted with its token (R575, R577). -/
def State.wmRestart (s : State) (w : Nat) : State := (s.setFld (wmElapsed w) 0).setFld (wmToken w) 0xACE1

/-- A watchman's demand on the ladder (R563, R578): in RESTART it counts as RS_FAIL. -/
def State.ladderStep (s : State) (cause : Nat) : State := if s.st = stRESTART then s.restartFails else s.ladderDemand cause

/-- An expiry (R578, R581): the core restarts, or the ladder demands a warm restart. -/
def State.expire (s : State) (w : Nat) : State :=
  let sec := s.tb2 / 1000000000 % 2 ^ 32
  let s := (s.setFld R.WATCH_LASTEXP_KIND (if w < 16 then 1 else 2)).setFld R.WATCH_LASTEXP_CORE (if w < 16 then w else 0)
  let s := s.setFld R.WATCH_LASTEXP_SEC sec
  let s := s.satInc (R.WATCH_RETAIN_COUNT (if w < 16 then 0 else 1))
  if w < 16 then
    let s := s.satInc (R.CORE_WMCNT_EXPIRIES w)
    let times := SMap.get (fun _ => []) s.ladder.expiries w
    let recent := times.any (fun t => s.tb2 ≤ t + 1000000000 * s.fld R.WATCH_LADDER_PERIOD)
    let s := { s with ladder := { s.ladder with expiries := SMap.set (fun _ => []) s.ladder.expiries w (s.tb2 :: times.take 15) } }
    if recent then (s.setFld (wmElapsed w) (s.fld (wmElapsed w) + 1)).ladderStep 0x11 else s.coreFault w 0x30
  else { s with ladder := { s.ladder with wdStopped := true } }.ladderStep 0x10

/-- A service word presented to a watchman (R575); one that is off or stopped ignores it. -/
def State.service (s : State) (w word : Nat) : State :=
  if !s.wmCounts w then s
  else if s.fld (wmElapsed w) < s.fld (wmMin w) ∨ word ≠ serviceWord (s.fld (wmToken w)) then s.expire w
  else (s.setFld (wmToken w) (nextToken (s.fld (wmToken w)))).setFld (wmElapsed w) 0

/-- WSVC (R237, R575): a service word for the core's watchman. -/
def execWsvc (c : CoreId) (f : IFields) (s : State) : Step :=
  .next (s.runInstr c f .s true (!f.hasExt) (fun s =>
    let t := (s.advance c ((s.core c).pc + 4))
    .stay (t.service c (((s.core c).a f).toNat % 2 ^ 32))))

/-- WATCHMAN_WARN (R576): the count has reached WMAX − WARN. A core takes WATCHMAN_WARN, the device watchman posts to PF0. -/
def execWatchmanWarn (w : Fin 17) (s : State) : Step :=
  .next (if !s.wmCounts w || s.fld (wmElapsed w) + s.fld (wmWarn w) < s.fld (wmMax w) then s
    else if w.val < 16 then
      let s := if s.fld (fCoreState w) = csQUIET then
          (List.range 5).foldl (fun s i => s.setDom (5 * w.val + i) true) s else s
      s.modCore w (fun k => { k with pend := { k.pend with watchmanWarn := true } })
    else s.postEvent 0 3 (s.fld (wmElapsed w)))

/-- WATCHMAN_EXPIRY (R578): the count has reached WMAX. -/
def execWatchmanExpiry (w : Fin 17) (s : State) : Step :=
  .next (if s.wmCounts w && s.fld (wmElapsed w) == s.fld (wmMax w) then s.expire w else s)

/-- Whether a configuration word is valid (R574). -/
def wmCfgOk (v : Nat) : Bool :=
  let max := v % 0x10000
  let min := v / 0x10000 % 0x10000
  let warn := v / 0x100000000 % 0x10000
  1 ≤ warn && min + warn < max

/-- A write of a watchman's configuration (R573, R574), by a master that may or may not, and whether it is discarded and
recorded: it is when EN is 1 already, or when the configuration is invalid. Enabling starts the count. -/
def State.writeWm (s : State) (w : Nat) (allowed : Bool) (v : Nat) : State × Bool :=
  if !allowed || s.flag (wmEn w) || !wmCfgOk v then (s, true)
  else
    let s := s.setReg (wmReg w) (BitVec.ofNat 64 v &&& 0x8000FFFFFFFFFFFF)
    (if bit v 63 then s.wmRestart w else s, false)

/-- RETAINED_COUNT_COPY (R581): once step 11 of R118 is passed, the retained counts and WATCH.LASTTRIP are copied into the
settings store. -/
def execRetainedCountCopy (s : State) : Step :=
  .next (if s.dev.off || !(11 ≤ s.fld R.DEVICE_BOOTSTAT_STEP || s.serving || s.st == stRESTART) then s else
    { s with nvm := { s.nvm with
        record := (List.range 8).map (fun i => s.fld (R.WATCH_RETAIN_COUNT i)) ++ [(s.reg R.WATCH_LASTTRIP).toNat] } })

/-! ### Rotating self-tests (R564–R570) -/

/-- The checkers of a rotation: 9 per core, 97 of the Verifier (16), 4 of the Reeve (17) (R567). -/
def rotationLen (r : Nat) : Nat := if r < 16 then 9 else if r = 16 then 97 else 4

/-- The bit of SAFETY.CHKFAIL of a device checker's pair; none for a check-value unit and for the signing engine. The checkers
stand in the order of the table of R564. -/
def pairBit (r i : Nat) : Option Nat :=
  if r = 16 then
    if i < 44 then some (i / 2)
    else if i < 60 then some (22 + (i - 44) / 2)
    else if i < 92 then none
    else if i < 94 then some 31
    else if i < 96 then some 33
    else none
  else if i < 2 then some 32 else some 34

/-- Whether a pair of a device rotation serves single. -/
def State.pairSingle (s : State) (b : Nat) : Bool := bit (s.reg R.SAFETY_CHKFAIL).toNat b

/-- A checker fails its test (R563, R570): a core's is a CORE reaction; a device's is ST_FATAL before the self-tests have ended. -/
def State.checkerFail (s : State) (r i : Nat) : State :=
  let s := s.satInc R.SAFETY_EVCNT_CHECKER
  if r < 16 then s.coreFault r 0x31
  else if s.st = stBOOT ∨ s.st = stSELFTEST then s.fatal 8
  else match pairBit r i with
  | some b =>
    let s := s.setReg R.SAFETY_CHKFAIL (BitVec.ofNat 64 (setBit (s.reg R.SAFETY_CHKFAIL).toNat b))
    match s.ladder.single with
    | some _ => s
    | none => { s with ladder := { s.ladder with single := some s.tb2 } }
  | none =>
    if i = 96 then s.fatal 0x0F
    else if s.fld R.SAFETY_CHKFAIL_STANDINS < 2 then s.satInc R.SAFETY_CHKFAIL_STANDINS
    else s.fatal 0xFF

/-- Whether a rotation runs now: a core's while it serves or stands by, the Verifier's and the Reeve's while they are up. -/
def State.rotates (s : State) (r : Nat) : Bool :=
  if r < 16 then s.fld (fCoreState r) == csSERVING || s.fld (fCoreState r) == csSPARE
  else if r = 16 then !s.dev.off && !s.dev.pinLow && !s.dev.warmHeld && s.st != stBOOT
  else s.reeve.running

/-- SELF_TEST_SLICE (R567): the next slice of rotation `r` (a core, 16 the Verifier's, 17 the Reeve's) tests its checker
while the twin serves. A pair that serves single has left the rotation (R566, R570). -/
def execSelfTestSlice (r : Fin 18) (ok : Bool) (s : State) : Step :=
  .next (if !s.rotates r then s else
    let i := SMap.get (fun _ => 0) s.ladder.slices r
    let s := { s with ladder := { s.ladder with slices := SMap.set (fun _ => 0) s.ladder.slices r ((i + 1) % rotationLen r) } }
    if 16 ≤ r.val ∧ ((pairBit r i).map s.pairSingle).getD false then s
    else
      let s := if r.val < 16 then s.setFld (R.CORE_STSTAT_CURRENT r) i
        else if r.val = 16 then s.setFld R.SAFETY_STSTAT_CURRENT i else s
      if ok then
        if r.val < 16 then s.satInc (R.CORE_STSTAT_PASSES r)
        else if r.val = 16 then s.satInc R.SAFETY_STSTAT_PASSES else s
      else
        let s := if r.val < 16 then s.satInc (R.CORE_STSTAT_FAILS r)
          else if r.val = 16 then s.satInc R.SAFETY_STSTAT_FAILS else s
        s.checkerFail r i)

/-- CHK_SINGLE_EXPIRY (R570): a pair has served alone for CHK_SINGLE_MAX seconds. -/
def execChkSingleExpiry (s : State) : Step :=
  .next (match s.ladder.single with
    | some t => if t + 1000000000 * s.fld R.SAFETY_CFG_CHK_SINGLE_MAX ≤ s.tb2 then s.fatal 0x0C else s
    | none => s)

end Sys2Proof.Machine
end

