-- ==== Sys2Proof/Machine/HostQueue.lean ====
section
/-! DEFINITION. How a host command starts and is refused (R103, R698, R714, R730–R737, R741), and the commands every function
may give: HELLO, GET_STATUS, GET_COUNTERS. -/
namespace Sys2Proof

/-! ### The submission entry -/

/-- ARGS byte `i` of an entry. -/
def SubEntry.arg (e : SubEntry) (i : Nat) : Nat := e.args.toNat / 256 ^ i % 256

/-- `n` little-endian ARGS bytes from byte `i`. -/
def SubEntry.argN (e : SubEntry) (i n : Nat) : Nat := e.args.toNat / 256 ^ i % 256 ^ n

/-- The argument buffer as it was read. -/
def SubEntry.data (e : SubEntry) : List Byte := e.buf.getD []

/-- Whether every ARGS byte outside the ranges (first, count) is 0 (R737). -/
def SubEntry.argsIn (e : SubEntry) (l : List (Nat × Nat)) : Bool :=
  (List.range 40).all (fun i => l.any (fun r => r.1 ≤ i && i < r.1 + r.2) || e.arg i == 0)

/-- An entry whose command names no buffer (R737). -/
def SubEntry.noBuf (e : SubEntry) : Bool := e.addr == 0 && e.len == 0

/-- An entry whose buffer has a length and was read whole (R735, R737). -/
def SubEntry.hasBuf (e : SubEntry) (n : Nat) : Bool :=
  e.len.toNat == n && (match e.buf with
    | some d => d.length == n
    | none => false)

end Sys2Proof

namespace Sys2Proof.Machine

/-! ### Counters a function reads (R448, R718) -/

/-- The word of FATE`k` of function `f`: a mirror of VERD.CLIENTc for a VF; for PF0 the saturating sums, and the largest of
the delays. -/
def State.fate (s : State) (f k : Nat) : Nat :=
  let at_ := fun c => (s.reg (R.VERD_CLIENT_ACCEPTED c + 4 * k)).toNat
  if k = 7 then 0
  else if f ≠ 0 then at_ (f - 1)
  else if k = 5 then max (max (at_ 0) (at_ 1)) (max (at_ 2) (at_ 3))
  else min (at_ 0 + at_ 1 + at_ 2 + at_ 3) (2 ^ 32 - 1)

/-- BUSY (0) or BYTES (1) of function `f` as its own VF reads it: the sample of the last common tick (R718). -/
def State.perfSample (s : State) (f k : Nat) : Nat := SMap.get (fun _ => 0) s.samples (2 * f + k)

/-- Who may give a command (R736). -/
inductive Issuer where
  | all | pf0 | vf
deriving DecidableEq, Repr

/-- A row of R736 and R737: issuer, version, whether TRIPPED answers it, whether it needs a HELLO, whether the scrub
answers it (R698, R714), and whether the entry keeps to the command's table. -/
structure CmdRow where
  issuer : Issuer
  version : Nat
  tripped : Bool
  hello : Bool
  scrub : Bool
  ok : Bool
deriving DecidableEq, Repr

/-- Whether a function starts a command now: the host reached, queues in use, an entry waiting, a completion slot free
(R730, R734), and the Verifier logic running. -/
def State.canStart (s : State) (f : Nat) : Bool :=
  s.hostUp && !s.dev.off && !s.dev.pinLow && !s.dev.warmHeld && s.cqRoom f && (s.fn f).sqHead != (s.fn f).sqTail

/-- The general refusals, in the order BAD_COMMAND, NOT_PERMITTED, TRIPPED, NO_HELLO, UNSUPPORTED, BAD_STATE in the scrub
(R103, R714, R735, R736, R741; log entry 28); 0 when there is none. -/
def State.refusal (s : State) (f : Nat) (e : SubEntry) (c : CmdRow) : Nat :=
  let v := s.fld (R.PCIEA_F_FSTATUS_VERSION f)
  if e.rsv || e.cid == 0xFFFF || !c.ok then 0x09
  else if (c.issuer == .pf0 && f != 0) || (c.issuer == .vf && f == 0) then 0x08
  else if s.st == stTRIPPED && !c.tripped then 0x04
  else if c.hello && v == 0 then 0x06
  else if c.hello && v < c.version then 0x02
  else if s.flag R.KEEP_STATUS_SCRUBBING && !c.scrub then 0x03
  else 0

/-- A host command: its entry is taken from the queue, refused or given its own effect (R733). -/
def State.hostCmd (s : State) (e : SubEntry) (opc : Nat) (c : CmdRow) (body : State → State) : State :=
  if !s.canStart e.fn || (s.ideShut 0 && (!c.scrub || e.fn.val != 0)) then s else
  let s := s.modFn e.fn (fun k => { k with
    sqHead := (k.sqHead + 1) % s.sqSize e.fn, inprog := k.inprog ++ [⟨e.cid.toNat, opc⟩] })
  let r := s.refusal e.fn e c
  if r ≠ 0 then s.complete e.fn e.cid.toNat r 0 else body s

/-- A command of PF0 from version 1.0 that TRIPPED and the scrub do not answer. -/
def rowPf0 (ok : Bool) : CmdRow := ⟨.pf0, 0x10, false, true, false, ok⟩

/-- A command's completion. -/
def State.done (s : State) (e : SubEntry) (status info : Nat) : State := s.complete e.fn e.cid.toNat status info

/-- HELLO (R740, R741): the highest common version of 1.0–1.2; BUSY while another command of the function is in progress. A
HELLO on PF0 lets the device watchman count again (R577). -/
def execHello (e : SubEntry) (s : State) : Step :=
  let row : CmdRow := ⟨.all, 0x10, true, false, true, e.noBuf && e.argsIn [(0, 2)]⟩
  .next (s.hostCmd e 0x01 row (fun s =>
    let lo := e.arg 0
    let hi := e.arg 1
    if 1 < (s.fn e.fn).inprog.length then s.done e 0x0A 0
    else
      let v := min hi 0x12
      if v < lo ∨ v < 0x10 then s.done e 0x07 0
      else
        let s := s.setFld (R.PCIEA_F_FSTATUS_VERSION e.fn) v
        let s := if e.fn.val = 0 ∧ s.ladder.wdStopped = true then
            { s.wmRestart 16 with ladder := { s.ladder with wdStopped := false } } else s
        s.done e 0 (v + 256 * 0x12 + 65536 * (s.reg R.DEVICE_CAPS).toNat + 2 ^ 48 * s.fld R.DEVICE_STATE_DEV_EPOCH)))

/-- GET_STATUS (R737). -/
def execGetStatus (e : SubEntry) (s : State) : Step :=
  let row : CmdRow := ⟨.all, 0x10, true, false, false, e.noBuf && e.argsIn []⟩
  .next (s.hostCmd e 0x02 row (fun s =>
    s.done e 0 (s.stateInfoWord + 2 ^ 32 * (s.reg (R.PCIEA_F_FSTATUS e.fn)).toNat)))

/-- GET_COUNTERS (R737, R718): a 64-byte record written to the host buffer; a VF gets its coarsened counts. -/
def execGetCounters (e : SubEntry) (s : State) : Step :=
  let row : CmdRow := ⟨.all, 0x12, true, true, false, e.len == 64 && e.argsIn []⟩
  .next (s.hostCmd e 0x40 row (fun s =>
    let f := e.fn.val
    let perf := fun (k : Nat) => if f = 0 then (s.reg (R.PCIEA_F_BUSY 0 + 8 * k)).toNat else s.perfSample f k
    let rec_ := (List.range 8).flatMap (fun k => leBytes 4 (s.fate f k)) ++ leBytes 8 (perf 0) ++ leBytes 8 (perf 1) ++
      leBytes 4 (s.reg (R.PCIEA_F_LOST f)).toNat ++ leBytes 12 0
    (s.modFn f (fun k => { k with wrote := some (e.addr.toNat, rec_) })).done e 0 0))

end Sys2Proof.Machine
end

