-- ==== Sys2Proof/Machine/JobCommands.lean ====
section
/-! DEFINITION. The clients' commands and those of the supervised restart and the pass mode: SUBMIT, CHIME_EXPECT, PAIR_MODE,
RESTART_BEGIN, RESTART_DONE (R381–R383, R403–R410, R429, R446, R517, R524, R705). -/
namespace Sys2Proof.Machine

/-! ### SUBMIT -/

/-- Fields of a watch-job descriptor (R403). -/
structure Desc where
  job : Nat
  route : Nat
  cls : Nat
  frame : Nat
  bundle : Nat
  ntens : Nat
  zeros : Bool
deriving DecidableEq, Repr

/-- The header of a watch-job descriptor (R403). -/
def descOf (d : List Byte) : Desc :=
  { job := leAt d 0 4, route := leAt d 4 2, cls := leAt d 6 1, frame := leAt d 8 4, bundle := leAt d 0xC 4
    ntens := leAt d 0x10 2, zeros := leAt d 7 1 == 0 && leAt d 0x12 14 == 0 }

/-- Tensor entry `i` of a descriptor (R403). -/
def tensorOf (d : List Byte) (i : Nat) : Tensor :=
  let o := 32 + 16 * i
  let fl := leAt d (o + 0xE) 2
  ⟨leAt d o 8, leAt d (o + 8) 4, leAt d (o + 0xC) 2, bit fl 0, bit fl 1⟩

/-- Whether a tensor entry keeps to R403 and lies in the outbound window or its inbox buffer; with no inbox there is no
buffer to lie in (R404 then answers UNSUPPORTED). -/
def tensorOk (d : List Byte) (rc : RouteCfg) (i : Nat) : Bool :=
  let t := tensorOf d i
  t.addr < 2 ^ 40 && 1 ≤ t.bytes && t.bytes ≤ 0x10000000 && leAt d (32 + 16 * i + 0xE) 2 < 4 &&
  (if t.push then rc.inboxKib == 0 || t.addr + t.bytes ≤ 1024 * rc.inboxKib
   else 0x2000000000 ≤ t.addr && t.addr + t.bytes ≤ 0x4000000000)

/-- Whether the state bytes of a display declaration are allowed (R517). -/
def State.statesOk (s : State) (d : Nat) (l : List Nat) : Bool :=
  l.zipIdx.all (fun p =>
    (p.1 == 0xFF && !(s.flag (R.TAP_WIN_VALID d p.2) && s.flag (R.TAP_WIN_REQUIRED d p.2))) ||
    (p.1 < 16 && s.flag (R.TAP_WIN_VALID d p.2)))

/-- The state bytes of a display declaration (R517). -/
def statesOf (d : List Byte) : List Nat := (List.range 16).map (fun i => leAt d (32 + i) 1)

/-- Whether a descriptor is one that SUBMIT does not refuse with BAD_JOB (R403, R404, R517, R705). -/
def State.jobOk (s : State) (d : List Byte) : Bool :=
  let h := descOf d
  match s.route h.route with
  | none => false
  | some rc =>
    h.zeros && h.cls == rc.cls && (h.bundle == 0 || s.keep.bundles.any (·.handle == h.bundle)) &&
    (if rc.display then h.ntens == 1 && s.statesOk (rc.source - 8) (statesOf d)
     else 1 ≤ h.ntens && h.ntens ≤ 30 && (List.range h.ntens).all (tensorOk d rc) &&
      ((List.range h.ntens).filter (fun i => (tensorOf d i).result)).length ≤ 1)

/-- Whether PART.VFCLASS allows a class to a client. -/
def State.clsAllowed (s : State) (f c : Nat) : Bool :=
  bit (s.fld (match f with
    | 1 => R.PART_VFCLASS_VF1
    | 2 => R.PART_VFCLASS_VF2
    | 3 => R.PART_VFCLASS_VF3
    | _ => R.PART_VFCLASS_VF4)) c

/-- The shared verdict slots held (R446). -/
def State.sharedHeld (s : State) : Nat := (s.jobs.jobs.filter (fun j => j.cls != 0)).length

/-- The status of SUBMIT for a descriptor, in the order of R404; a display C0 route needs the display taps (R41). -/
def State.submitStatus (s : State) (f : Nat) (d : List Byte) : Nat :=
  let h := descOf d
  if !s.serving then 0x03
  else if !s.jobOk d then 0x30
  else match s.route h.route with
  | none => 0x30
  | some rc =>
    let push := !rc.display && (List.range h.ntens).any (fun i => (tensorOf d i).push)
    if f ≠ rc.client ∨ s.clsAllowed f rc.cls = false then 0x31
    else if (push ∧ rc.inboxKib = 0) ∨ (rc.display = true ∧ rc.cls = 0 ∧ s.hasDisp = false) then 0x02
    else if (s.routeSt h.route).taken.contains h.frame then 0x32
    else if 3 < s.ahead rc h.frame ∧ s.ahead rc h.frame < 2 ^ 31 then 0x33
    else if s.deadlinePassed h.route rc h.frame then 0x34
    else if rc.cls ≠ 0 ∧ 48 ≤ s.sharedHeld then 0x35
    else 0x01

/-- The job of an accepted descriptor. -/
def State.jobFrom (s : State) (d : List Byte) (rc : RouteCfg) : Job :=
  let h := descOf d
  let ts := if rc.display then [] else (List.range h.ntens).map (tensorOf d)
  { route := h.route, frame := h.frame, job := h.job, client := rc.client, cls := rc.cls, bundle := h.bundle
    tensors := ts, states := if rc.display then statesOf d else []
    pulls := (ts.zipIdx.filter (fun t => !t.1.push)).map (·.2), reissued := []
    doorbell := s.inboxLocked h.route (h.frame % 2) == h.frame + 1
    lost := false, inputsAt := none, inputsTb := 0, refused := false, delay := 0, ran := false, rerun := false, exitCode := none
    overrun := false, pairNone := false, engErr := false, failed := none, credits := []
    single := false, core := 0, result := [] }

/-- A frame marked as one that has had its job or its LATE_SUBMIT record. -/
def State.takeFrame (s : State) (r f : Nat) : State :=
  let k := s.routeSt r
  s.setRouteSt r { k with taken := k.taken ++ [f] }

/-- A job that names another weight bundle forces a new epoch at its own frame, which is already open, if vectors can be drawn
(R342, R343). -/
def State.forceEpoch (s : State) (r prog f : Nat) : State :=
  match (s.routeSt r).forcedBy (s.job r f) with
  | none => s
  | some b =>
    if !((s.routeSt r).frames.any (·.frame == f)) then s else
    let n := (s.routeSt r).epoch
    let s := (s.prepare r prog).newEpoch r prog b false
    let k := s.routeSt r
    if k.epoch = n then s else
    let up := fun (x : OpenFrame) => if x.frame = f then { x with epoch := k.epoch, age := 0 } else x
    s.setRouteSt r { k with frames := k.frames.map up }

/-- The telltale windows of a frame that are already complete compared with a declaration that has just come (R518). -/
def State.declareWindows (s : State) (d f : Nat) : State :=
  if s.fld (R.TAP_WSTAT_FRAME d) ≠ f then s else
  (s.iter 16 (fun w s => if bit (s.fld (R.TAP_WSTAT_DONE d)) w then s.compareWindow d w else s)).resolveWindows d

/-- A job accepted (R404–R407, R448): queued; the frame in progress, when its boundary came before service, is opened now. -/
def State.acceptJob (s : State) (d : List Byte) (rc : RouteCfg) : State :=
  let h := descOf d
  let j := s.jobFrom d rc
  let s := { s with jobs := { s.jobs with jobs := s.jobs.jobs ++ [j] } }
  let s := (s.takeFrame h.route h.frame).satInc (R.VERD_CLIENT_ACCEPTED_COUNT (rc.client - 1))
  let s := if s.ahead rc h.frame == 0 && (s.openFrame h.route h.frame).isNone && s.tapState rc.source != 0 then
      s.openRoute h.route rc h.frame (s.srcStart rc)
    else s.forceEpoch h.route rc.prog h.frame
  let s := s.settleJob h.route h.frame
  if rc.display then s.declareWindows (rc.source - 8) h.frame else s

/-- The LATE record of a C1 or C2 job that came too late, once per frame (R405, R415). -/
def State.lateSubmit (s : State) (d : List Byte) (rc : RouteCfg) : State :=
  let h := descOf d
  if rc.cls = 0 ∨ (s.routeSt h.route).taken.contains (h.frame + 2 ^ 32) then s else
  let fr := (s.openFrame h.route h.frame).getD ⟨h.frame, s.tb2, 0, 0, none, false⟩
  let s := s.publish rc h.route fr none ⟨vsLATE, vrLATE_SUBMIT, 0, false, false⟩ false
  (s.closeFrame h.route h.frame).takeFrame h.route (h.frame + 2 ^ 32)

/-- SUBMIT (R403–R405, R446–R448). -/
def execSubmit (e : SubEntry) (s : State) : Step :=
  let d := e.data
  let ok := e.argsIn [] && 32 ≤ e.len.toNat && e.hasBuf (32 + 16 * (descOf d).ntens)
  .next (s.hostCmd e 0x10 ⟨.vf, 0x10, false, true, false, ok⟩ (fun s =>
    let st := s.submitStatus e.fn d
    match s.route (descOf d).route with
    | none => s.done e st 0
    | some rc =>
      let s := if st = 0x01 then s.acceptJob d rc
        else if st = 0x34 then s.lateSubmit d rc
        else if st = 0x35 then s.satInc (R.VERD_CLIENT_NO_SLOT_COUNT (rc.client - 1))
        else s
      s.done e st (if st = 0x01 then (descOf d).job else 0)))

/-- CHIME_EXPECT (R524). -/
def execChimeExpect (e : SubEntry) (s : State) : Step :=
  let c := e.arg 0
  let ms := e.argN 4 4
  let ok := e.noBuf && e.argsIn [(0, 1), (4, 4)] && c < 16 && 1 ≤ ms && ms ≤ 10000
  .next (s.hostCmd e 0x11 ⟨.vf, 0x11, false, true, false, ok⟩ (fun s =>
    if !s.serving then s.done e 0x03 0
    else if !s.flag R.TAP_TDMCFG_EN then s.done e 0x02 0
    else if !s.flag (R.TAP_CHIME_B_VALID c) then s.done e 0x30 0
    else if 8 ≤ s.chimes.length then s.done e 0x39 0
    else
      let x : ChimeExp := ⟨e.fn, c, s.tb2 + 1000000 * ms, none, 0⟩
      let s := { s with chimes := s.chimes ++ [x] }
      let s := (s.setFld R.TAP_CHIMESTAT_PENDING s.chimes.length).done e 0 0
      if s.flag R.TAP_CHIMESTAT_NOCLK then s.decideChimes (fun _ => some 3) else s))

/-! ### PAIR_MODE -/

/-- Whether a program may run in SINGLE mode (R62, R381): its image allows it, and so does every route that it serves. -/
def State.singleAllowed (s : State) (p : Prog) : Bool :=
  let rs := s.progRoutes p.idx
  bit p.flags 2 && !rs.isEmpty && rs.all (·.singleOk)

/-- PAIR_MODE (R381–R383). A digest of no loaded paired program is refused with BAD_COMMAND (log entry 29). -/
def execPairMode (e : SubEntry) (s : State) : Step :=
  let ok := e.argsIn [(0, 1)] && e.arg 0 ≤ 1 && e.hasBuf 48
  .next (s.hostCmd e 0x1C ⟨.pf0, 0x11, false, true, false, ok⟩ (fun s =>
    let single : Bool := e.arg 0 == 1
    if !s.serving && s.st != stREADY then s.done e 0x03 0
    else match s.jobs.progs.find? (fun p => p.digest == e.data && s.paired p) with
    | none => s.done e 0x09 0
    | some p =>
      if single && !s.singleAllowed p then s.done e 0x36 0
      else
        let q : ModeReq := ⟨p.idx, single, e.fn, e.cid.toNat⟩
        let old := s.jobs.modeReqs.filter (·.prog == p.idx)
        let s := { s with jobs := { s.jobs with modeReqs := s.jobs.modeReqs.filter (·.prog != p.idx) } }
        let s := old.foldl (fun s o => s.complete o.fn o.cid 0x38 0) s
        if s.st = stREADY then s.applyMode q
        else { s with jobs := { s.jobs with modeReqs := s.jobs.modeReqs ++ [q] } }))

/-! ### The supervised restart (R429) -/

/-- The milliseconds since the open window opened (HEARTH.WINTIME). -/
def State.winElapsed (s : State) : Nat :=
  if 2 ≤ s.fld R.HEARTH_STATUS_RSTATE then (s.tb2 - s.jobs.restart.opened) / 1000000 % 2 ^ 32 else 0

/-- RESTART_BEGIN (R429): opens the window of a request; without one it has no effect. -/
def execRestartBegin (e : SubEntry) (s : State) : Step :=
  .next (s.hostCmd e 0x20 (rowPf0 (e.noBuf && e.argsIn [])) (fun s =>
    let s := if s.fld R.HEARTH_STATUS_RSTATE = 1 then s.openWindow else s
    s.done e 0 s.winElapsed))

/-- RESTART_DONE (R429): within the window, an accelerator PASS after it ends the restart; outside it, it has no effect. -/
def execRestartDone (e : SubEntry) (s : State) : Step :=
  .next (s.hostCmd e 0x21 (rowPf0 (e.noBuf && e.argsIn [])) (fun s =>
    let s := if s.fld R.HEARTH_STATUS_RSTATE = 2 then s.setFld R.HEARTH_STATUS_RSTATE 3 else s
    s.done e 0 s.winElapsed))

end Sys2Proof.Machine
end

