-- ==== Sys2Proof/Machine/SioCommands.lean ====
section
/-! DEFINITION. The commands of the safe I/O: the password, the parameter set with its change log, and the acknowledgement of
output faults (R587–R589, R602, R608–R613, R646). -/
namespace Sys2Proof.Machine

/-! ### A valid parameter set (R588) -/

/-- Whether every byte of a range of a list is 0. -/
def zerosAt (l : List Byte) (off n : Nat) : Bool := ((l.drop off).take n).all (· == 0)

/-- Whether a number lies in a range. -/
def within (lo x hi : Nat) : Bool := lo ≤ x && x ≤ hi

/-- A pair entry within its table (R587). -/
def paramPairOk (l : List Byte) (i : Nat) : Bool :=
  let o := 0x10 + 8 * i
  leAt l o 1 < 16 && zerosAt l (o + 1) 1 && within 2 (leAt l (o + 2) 2) 1000 && within 1 (leAt l (o + 4) 2) 500 &&
  zerosAt l (o + 6) 2

/-- A channel entry within its table, with pairs when it is enabled and a C0 route when ROUTE_EN asks for one (R587,
R588). -/
def State.paramChannelOk (s : State) (l : List Byte) (c : Nat) : Bool :=
  let o := 0x50 + 8 * c
  let ctl := leAt l o 1
  ctl < 16 && leAt l (o + 2) 1 < 64 && within 1 (leAt l (o + 3) 1) 255 && within 100 (leAt l (o + 4) 4) 600000 &&
  (!bit ctl 0 || (leAt l (o + 1) 1 != 0 && (!bit ctl 3 || (match s.route (leAt l (o + 2) 1) with
    | some r => r.cls == 0
    | none => false))))

/-- The crier parameters within their table (R646). -/
def crierOk (l : List Byte) : Bool :=
  let o := 0x80
  zerosAt l (o + 0x1E) 2 && zerosAt l (o + 0x51) 175 &&
  (List.range 4).all (fun c =>
    let b := leAt l (o + 0x20 + 4 * c) 4
    b < 2 ^ 31 && b % 2 ^ 29 + 0xCF < 2 ^ 29 && zerosAt l (o + 0x30 + 8 * c + 2) 2)

/-- Whether a parameter set is valid (R588). -/
def State.paramValid (s : State) (l : List Byte) : Bool :=
  l.length == 512 && leAt l 0 4 == 0x53494F50 && leAt l 4 2 == 1 && zerosAt l 6 2 && within 10 (leAt l 0xC 1) 50 &&
  zerosAt l 0xD 1 && within 16 (leAt l 0xE 2) 10000 && (List.range 8).all (paramPairOk l) && (List.range 4).all (s.paramChannelOk l) &&
  zerosAt l 0x70 16 && crierOk l && zerosAt l 0x180 128

/-! ### The change log (R613) -/

/-- An entry of the change log. -/
def State.sioLog (s : State) (kind field operator old new : Nat) (digest : List Byte) : State :=
  let q := s.param.logSeq
  let e := leBytes 4 q ++ leBytes 8 s.stampNow ++ leBytes 1 kind ++ leBytes 1 s.stampBase ++ leBytes 2 field ++
    leBytes 16 operator ++ leBytes 8 old ++ leBytes 8 new ++ (digest ++ leBytes 12 0).take 12
  let e := e ++ leBytes 4 (crc32 e)
  { s with param := { s.param with log := SMap.set (fun _ => []) s.param.log (q % 512) e, logSeq := (q + 1) % 2 ^ 32 } }

/-! ### Passwords (R609, R610) -/

/-- A password in its field: its length and its 64-byte field, with zeros beyond it (R737). -/
def pwOk (len : Nat) (field : List Byte) : Bool := len ≤ 64 && (field.drop len).all (· == 0)

/-- Whether a password verifies (R609); with none set, only the empty one does. -/
def State.pwMatches (s : State) (pw : List Byte) : Bool :=
  match s.param.password with
  | none => pw.isEmpty
  | some (salt, hash) => Config.sha384 (salt ++ pw) == hash

/-- Whether password commands are locked out (R610). -/
def State.lockedOut (s : State) : Bool := s.tb2 < s.param.lockUntil

/-- A failed verification (R610, R613): logged; the third in a row, and each one after a lockout, starts a lockout of 60 s,
doubled each time up to 3,600 s. -/
def State.pwFail (s : State) (operator : Nat) : State :=
  let s := s.sioLog 4 0 operator 0 0 []
  let p := s.param
  if p.locks = 0 ∧ p.fails + 1 < 3 then { s with param := { p with fails := p.fails + 1 } }
  else
    let sec := min (60 * 2 ^ min p.locks 6) 3600
    let s := { s with param := { p with
      fails := p.fails + 1, locks := p.locks + 1, lockUntil := s.tb2 + 1000000000 * sec } }
    s.sioLog 5 0 operator 0 0 []

/-- A correct password resets the count (R610). -/
def State.pwGood (s : State) : State := { s with param := { s.param with fails := 0, locks := 0 } }

/-- The states in which the parameter set and the password may change (R608). -/
def State.sioState (s : State) : Bool := s.st == stREADY || s.st == stHOLD || s.st == stSERVICE

/-- Whether a change session is open: until 600 s after its BEGIN (R608, R611). -/
def State.sioOpen (s : State) : Bool :=
  match s.param.session with
  | some (t, _) => s.tb2 ≤ t
  | none => false

/-- The operator of the open session. -/
def State.operator (s : State) : Nat :=
  match s.param.session with
  | some (_, op) => leNat op
  | none => 0

/-- SIO_PASSWORD (R608–R610): the password set or changed, under a fresh salt. -/
def execSioPassword (e : SubEntry) (s : State) : Step :=
  let d := e.data
  let n0 := leAt d 0 1
  let n1 := leAt d 1 1
  let old := (d.drop 32).take 64
  let new := (d.drop 96).take 64
  let ok := e.argsIn [] && e.hasBuf 160 && zerosAt d 2 14 && pwOk n0 old && pwOk n1 new && 8 ≤ n1 && (n0 == 0 || 8 ≤ n0)
  .next (s.hostCmd e 0x28 (rowPf0 ok) (fun s =>
    let op := leAt d 16 16
    if !s.sioState then s.done e 0x03 0
    else if s.lockedOut then s.done e 0x42 0
    else if !s.pwMatches (old.take n0) then (s.pwFail op).done e 0x41 0
    else
      let g := s.freeCtr + 1
      let salt := (List.range 32).map (Config.freeByte g)
      let kind := if s.param.password.isSome then 3 else 2
      let s := s.pwGood
      let s := { s with
        param := { s.param with password := some (salt, Config.sha384 (salt ++ new.take n1)) }
        freeCtr := g }
      (s.sioLog kind 0 op 0 0 []).done e 0 0))

/-- SIO_PARAM_BEGIN (R608–R611): a change session of at most 600 s. -/
def execSioParamBegin (e : SubEntry) (s : State) : Step :=
  let d := e.data
  let n := leAt d 0 1
  let pw := (d.drop 32).take 64
  let ok := e.argsIn [] && e.hasBuf 96 && zerosAt d 1 15 && pwOk n pw && 8 ≤ n
  .next (s.hostCmd e 0x29 (rowPf0 ok) (fun s =>
    if !s.sioState then s.done e 0x03 0
    else if s.param.password.isNone then s.done e 0x40 0
    else if s.lockedOut then s.done e 0x42 0
    else if s.sioOpen then s.done e 0x0A 0
    else if !s.pwMatches (pw.take n) then (s.pwFail (leAt d 16 16)).done e 0x41 0
    else
      let s := s.pwGood
      { s with param := { s.param with session := some (s.tb2 + 600000000000, (d.drop 16).take 16), staged := none } }.done e 0 0))

/-- The set as it is staged: SETVER is the device's, one more than the set in force (log entry 31). -/
def State.stagedSet (s : State) (d : List Byte) : List Byte :=
  d.take 8 ++ leBytes 4 (s.pset 8 4 + 1) ++ d.drop 12

/-- SIO_PARAM_WRITE (R608, R737): the set staged when it is valid, and its digest written to the host. A set that R588 refuses
is BAD_COMMAND (log entry 31). -/
def execSioParamWrite (e : SubEntry) (s : State) : Step :=
  let d := e.data
  let ok := e.argsIn [(0, 8)] && e.argN 0 8 % 64 == 0 && e.hasBuf 512
  .next (s.hostCmd e 0x2A (rowPf0 ok) (fun s =>
    if !s.sioState then s.done e 0x03 0
    else if !s.sioOpen then s.done e 0x43 0
    else if !s.paramValid d then s.done e 0x09 0
    else
      let set := s.stagedSet d
      let dig := Config.sha384 set
      let s := { s with param := { s.param with staged := some set } }
      (s.modFn e.fn (fun k => { k with wrote := some (e.argN 0 8, dig) })).done e 0 (leAt dig 0 8)))

/-- The change log of a commit (R613): one FIELD entry per changed word, then COMMIT. -/
def State.logCommit (s : State) (op : Nat) (old new : List Byte) : State :=
  let s := (List.range 64).foldl (fun s w =>
    let a := leAt old (8 * w) 8
    let b := leAt new (8 * w) 8
    if a = b then s else s.sioLog 1 (8 * w) op a b []) s
  s.sioLog 6 0 op 0 (leAt new 8 4) (Config.sha384 new)

/-- SIO_PARAM_COMMIT (R609, R611–R613): the staged set in force; in READY the event PARAM_COMMIT, which takes the device to
HOLD. -/
def execSioParamCommit (e : SubEntry) (s : State) : Step :=
  .next (s.hostCmd e 0x2B (rowPf0 (e.argsIn [] && e.hasBuf 48)) (fun s =>
    if !s.sioState then s.done e 0x03 0
    else if s.param.password.isNone then s.done e 0x40 0
    else if !s.sioOpen then s.done e 0x43 0
    else match s.param.staged with
    | none => s.done e 0x11 0
    | some set =>
      if Config.sha384 set ≠ e.data then s.done e 0x11 0
      else
        let s := s.logCommit s.operator s.param.set set
        let s := { s with param := { s.param with set := set, staged := none, session := none } }.driveSitp
        let s := if s.st = stREADY then
            { s.setFld R.DEVICE_BOOTSTAT_FAIL_CODE 0x21 with dev := { s.dev with holdFrom := stREADY } }.setState stHOLD
          else s
        s.done e 0 (leAt set 8 4)))

/-- SIO_PARAM_ABORT (R608). -/
def execSioParamAbort (e : SubEntry) (s : State) : Step :=
  .next (s.hostCmd e 0x2C (rowPf0 (e.noBuf && e.argsIn [])) (fun s =>
    if !s.sioState then s.done e 0x03 0
    else { s with param := { s.param with staged := none, session := none } }.done e 0 0))

/-- Whether an output fault may be cleared (R602): both readbacks OFF at every strobe for the preceding 1 s. -/
def State.ackOk (s : State) (c : Nat) : Bool := 10000 ≤ SMap.get (fun _ => 0) s.sio.off c

/-- SIO_ACK (R602, R737). -/
def execSioAck (e : SubEntry) (s : State) : Step :=
  let m := e.arg 0
  .next (s.hostCmd e 0x2D (rowPf0 (e.noBuf && e.argsIn [(0, 1)] && m < 16)) (fun s =>
    let faulty := (List.range 4).filter (fun c => bit m c && s.flag (R.SAFEIO_CHSTAT_FAULT c))
    let good := faulty.filter s.ackOk
    let s := good.foldl (fun s c => (s.setFld (R.SAFEIO_CHSTAT_FAULT c) 0).setFld (R.SAFEIO_CHSTAT_FCODE c) 0) s
    s.done e (if good.length = faulty.length then 0 else 0x44) ((good.map (2 ^ ·)).sum)))

/-- SIO_SESSION_TIMEOUT (R611): a change session passes 600 s and closes. -/
def execSioSessionTimeout (s : State) : Step :=
  .next (match s.param.session with
    | some (t, _) => if t ≤ s.tb2 then { s with param := { s.param with staged := none, session := none } } else s
    | none => s)

/-- LOCKOUT_END (R610): a password lockout expires; the count of lockouts stays until a correct password. -/
def execLockoutEnd (s : State) : Step :=
  .next (if s.param.lockUntil ≤ s.tb2 then { s with param := { s.param with lockUntil := 0 } } else s)

end Sys2Proof.Machine
end

