-- ==== Sys2Proof/Machine/Tick.lean ====
section
/-! DEFINITION. One tick of the clock SUN, 4 ns: what the block does when no command waits (R262, R448, R572,
R615, R616, R718, R775; log entry 26). -/
namespace Sys2Proof.Machine

/-- A 32-bit word read as two's complement. -/
def sgn32 (x : Nat) : Int := (BitVec.ofNat 32 x).toInt

/-- The advance of TB0 or TB1 in one SUN cycle: 4 ns × (1 + RATE × 10^−12), with the fraction below 1 ns kept in units of
10^−12 ns (R615); a base that has not had its first lock does not advance (R614). -/
def State.tickBase (s : State) (n : Nat) : State :=
  if !s.flag (R.SUNDIAL_TB_STATUS_LOCKED n) then s else
  let fr : Int := (SMap.get (fun _ => 0) s.sun.frac n : Nat) + 4 * (1000000000000 + sgn32 (s.fld (R.SUNDIAL_TB_RATE_RATE n)))
  let whole := (fr / 1000000000000).toNat
  let rest := (fr % 1000000000000).toNat
  { s with sun := { s.sun with
      tb := SMap.set (fun _ => 0) s.sun.tb n (SMap.get (fun _ => 0) s.sun.tb n + whole)
      frac := SMap.set (fun _ => 0) s.sun.frac n rest } }

/-- A core's CYCLE and SLOTLEFT over six CORE cycles (R221, R262): SLOTLEFT counts from the program's start to its ECALL EXIT and stops
at 0, where SLOT_OVERRUN becomes pending; a core held in reset counts nothing. -/
def Core.tick (k : Core) : Core :=
  if k.stw = .held then k else
  let k := k.wrCsr 0x20 (k.rdCsr 0x20 + 6)
  let l := (k.rdCsr 0x30).toNat
  match k.slot with
  | some run =>
    if run.exited || l == 0 then k
    else if 6 < l then k.wrCsr 0x30 (w64 (l - 6))
    else { k.wrCsr 0x30 0 with pend := { k.pend with slotOverrun := true } }
  | none => k

/-- How many ticks of a clock of `num`/`den` per nanosecond fall between two TB2 times. -/
def ticksBetween (num den t0 t1 : Nat) : Nat := t1 * num / den - t0 * num / den

/-- The ticks of AON between two TB2 times: of X32K, or of TCXO ÷ 763 while it falls back (R88, R92). -/
def State.aonTicks (s : State) (t0 t1 : Nat) : Nat :=
  if s.flag R.DEVICE_CLKSTAT_X32K_FALLBACK then ticksBetween 25000000 (763 * 1000000000) t0 t1
  else ticksBetween 32768 1000000000 t0 t1

/-- The watchmen count their ticks, AON ticks for the cores and milliseconds for the device, and stand at WMAX (R572, R577). -/
def State.tickWatch (s : State) (t0 : Nat) : State :=
  s.iter 17 (fun w s =>
    let n := if w < 16 then s.aonTicks t0 s.tb2 else ticksBetween 1 1000000 t0 s.tb2
    if n ≠ 0 ∧ s.wmCounts w then s.setFld (wmElapsed w) (min (s.fld (wmElapsed w) + n) (max (s.fld (wmElapsed w)) (s.fld (wmMax w))))
    else s)

/-- BUSY of a client counts the CORE cycles of the slots that run its routes (R448). -/
def State.tickBusy (s : State) : State :=
  s.iter 16 (fun n s => match (s.core n).slot with
    | some run => match s.route run.route with
      | some rc => if run.route < 64 && 1 ≤ rc.client && rc.client ≤ 4 then
          s.setFld (R.PCIEA_F_BUSY_CYCLES rc.client) (s.fld (R.PCIEA_F_BUSY_CYCLES rc.client) + 6) else s
      | none => s
    | none => s)

/-- The CORE cycles of withheld engines counted by class (R775). -/
def State.tickWithheld (s : State) : State :=
  s.iter 16 (fun n s => s.iter 5 (fun e s =>
    if bit (s.core n).withheld e then
      let k := (s.core n).headCls e
      if k = 1 then s.setFld R.PWR_WAITC1_CYCLES (s.fld R.PWR_WAITC1_CYCLES + 6)
      else if k = 2 then s.setFld R.PWR_WAITC2_CYCLES (s.fld R.PWR_WAITC2_CYCLES + 6)
      else s
    else s))

/-- The coarse counters change at their common tick, every 100 µs of TB2 (R718). -/
def State.tickSamples (s : State) (t0 : Nat) : State :=
  if ticksBetween 1 100000 t0 s.tb2 = 0 then s else
  s.iter 5 (fun f s => s.iter 2 (fun k s =>
    let v := (s.reg (R.PCIEA_F_BUSY f + 8 * k)).toNat / 1024 * 1024
    { s with samples := SMap.set (fun _ => 0) s.samples (2 * f + k) v }))

/-- One tick. The block does nothing while it is off; TB2, which is the crier's, stands still while the Reeve is held in reset
(R98, R134). -/
def State.tick (s : State) : State :=
  if s.dev.off then s else
  let t0 := s.tb2
  let s := { s with sun := { s.sun with tb := SMap.set (fun _ => 0) s.sun.tb 2 (if s.reeve.inReset then s.tb2 else s.tb2 + 4) } }
  let s := (s.tickBase 0).tickBase 1
  let s := { s with pins := { s.pins with
    tpo := ((List.range 4).filter (fun k => bit s.pins.tpo k &&
      s.tb2 < SMap.get (fun _ => 0) s.sun.tpoUntil k)).foldl (fun m k => m + 2 ^ k) 0 } }
  (((s.iter 16 (fun n s => s.modCore n Core.tick)).tickBusy.tickWithheld).tickWatch t0).tickSamples t0

end Sys2Proof.Machine
end

