-- ==== Sys2Proof/Machine/Sundial.lean ====
section
/-! DEFINITION. The Sundial: gPTP on TB0 and TB1, the servo, captures and the pulse outputs (R614–R632). -/
namespace Sys2Proof.Machine

/-! ### Bases and ports -/

/-- Whether the Verifier's logic runs: powered and not held in reset by pin. -/
def State.verUp (s : State) : Bool := !s.dev.off && !s.dev.pinLow

/-- The base a gPTP port serves: TB0 on ETH0 and ETH1, TB1 on the Nimlink ports (R614). -/
def gptpBase (p : Nat) : Nat := if p < 2 then 0 else 1

/-- Whether a gPTP port carries messages: an enabled MAC with its link up, or a Nimlink port in use (R620, R667). -/
def State.gptpUp (s : State) (p : Nat) : Bool :=
  if p < 2 then s.verUp && s.netUp p
  else s.verUp && s.hasNim && s.fld (R.NIM_PORT_STATUS_STATE (p - 2)) == 3 &&
    (s.fld R.NIM_STATUS_STATE != 4 || s.flag (R.NIM_PORT_STATUS_INRING (p - 2)))

/-- The gPTP domain of a base. -/
def State.gptpDomain (s : State) (b : Nat) : Nat :=
  if b = 0 then s.fld R.SUNDIAL_DOMAIN_TB0_DOMAIN else s.fld R.SUNDIAL_DOMAIN_TB1_DOMAIN

/-- A base set to a value, with its fraction 0. -/
def State.setTb (s : State) (b ns : Nat) : State :=
  { s with sun := { s.sun with
      tb := SMap.set (fun _ => 0) s.sun.tb b ns
      frac := SMap.set (fun _ => 0) s.sun.frac b 0 } }

/-- The servo's integral term of a base (R627). -/
def State.servoI (s : State) (b : Nat) : Int := SMap.get (fun _ => 0) s.sun.integ b

/-- The servo's integral term replaced. -/
def State.setServoI (s : State) (b : Nat) (v : Int) : State :=
  { s with sun := { s.sun with integ := SMap.set (fun _ => 0) s.sun.integ b v } }

/-- Clamped to ±500 ppm, in ppt (R626, R627). -/
def clampPpm (x : Int) : Int := max (-500000000) (min 500000000 x)

/-- An integer as the bits of an I32 field. -/
def i32 (x : Int) : Nat := (x % 2 ^ 32).toNat

/-- RATE and SETPT of a base, signed. -/
def State.rate (s : State) (b : Nat) : Int := sgn32 (s.fld (R.SUNDIAL_TB_RATE_RATE b))
def State.setpt (s : State) (b : Nat) : Int := sgn32 (s.fld (R.SUNDIAL_TB_SETPT_SETPT b))

/-- The seconds of the present or last HOLDOVER (HOLDSEC). -/
def State.holdSec (s : State) (b : Nat) : Nat :=
  if s.flag (R.SUNDIAL_TB_STATUS_HOLDOVER b) then
    min ((s.tb2 - SMap.get (fun _ => 0) s.sun.holdAt b) / 1000000000) (2 ^ 32 - 1)
  else s.fld (R.SUNDIAL_TB_HOLDSEC_SEC b)

/-! ### Pulse outputs (R631, R632) -/

/-- TB3 in nanoseconds: 10^9 for each frame of the reference tap and the time since its boundary (R617). -/
def State.tb3Ns (s : State) : Nat :=
  let k := s.fld R.TAP_LTCFG_REF
  if s.fld (R.TAP_T_STAT_TSTATE k) = 0 then 0 else s.refFrame * 1000000000 + min (s.phase k) 999999999

/-- A base as a pulse output compares it. -/
def State.baseNs (s : State) (b : Nat) : Nat := if b = 3 then s.tb3Ns else s.tbNs b

/-- Whether a base runs for a pulse output: TB0 and TB1 from first lock, TB3 while the reference tap has a frame. -/
def State.baseRuns (s : State) (b : Nat) : Bool :=
  if b < 2 then s.flag (R.SUNDIAL_TB_STATUS_LOCKED b)
  else b == 2 || s.fld (R.TAP_T_STAT_TSTATE (s.fld R.TAP_LTCFG_REF)) != 0

/-- START of a pulse output, in the units of its base. -/
def State.tpoStart (s : State) (k : Nat) : Nat :=
  s.fld (R.SUNDIAL_TPO_STARTSEC_SEC k) * 1000000000 + s.fld (R.SUNDIAL_TPO_STARTNS_NS k)

/-- PERIOD of a pulse output in the units of its base: 0 once, 1–999 ns taken as 1,000. -/
def State.tpoPeriod (s : State) (k : Nat) : Nat :=
  let p := s.fld (R.SUNDIAL_TPO_PERIOD_PERIOD k)
  if s.fld (R.SUNDIAL_TPO_CTRL_BASE k) = 3 then p * 1000000000
  else if p = 0 then 0 else max p 1000

/-- PERIOD in nanoseconds of time: a frame of TB3 lasts the reference tap's period. -/
def State.tpoPeriodNs (s : State) (k : Nat) : Nat :=
  if s.fld (R.SUNDIAL_TPO_CTRL_BASE k) = 3 then
    s.fld (R.SUNDIAL_TPO_PERIOD_PERIOD k) * s.tapPeriod (s.fld R.TAP_LTCFG_REF)
  else s.tpoPeriod k

/-- The width of a pulse: 8 ns at least, cut to end 8 ns before the next pulse (R631, R632). -/
def State.tpoWidth (s : State) (k : Nat) : Nat :=
  let w := max (s.fld (R.SUNDIAL_TPO_CTRL_WIDTH k)) 8
  if s.tpoPeriodNs k = 0 then w else min w (max 8 (s.tpoPeriodNs k - 8))

/-- The first START + n × PERIOD that is not before a moment of the base. -/
def firstFrom (start period now : Nat) : Nat :=
  if now ≤ start ∨ period = 0 then start else start + (now - start + period - 1) / period * period

/-- The next pulse of an output, plus 1; 0 for none. -/
def State.tpoNext (s : State) (k : Nat) : Nat := SMap.get (fun _ => 0) s.sun.tpoNext k

/-- The next pulse of an output replaced. -/
def State.setTpoNext (s : State) (k v : Nat) : State :=
  { s with sun := { s.sun with tpoNext := SMap.set (fun _ => 0) s.sun.tpoNext k v } }

/-- A pulse fires, and the next is set: the first START + n × PERIOD from `from'` on, or none (R631). -/
def State.firePulse (s : State) (k from' : Nat) : State :=
  let s := s.satInc (R.SUNDIAL_TPO_COUNT_COUNT k)
  let s := { s with pins := { s.pins with tpo := setBit s.pins.tpo k } }
  let s := { s with sun := { s.sun with tpoUntil := SMap.set (fun _ => 0) s.sun.tpoUntil k (s.tb2 + s.tpoWidth k) } }
  if s.tpoPeriod k = 0 then (s.setFld (R.SUNDIAL_TPO_CTRL_ARM k) 0).setTpoNext k 0
  else s.setTpoNext k (firstFrom (s.tpoStart k) (s.tpoPeriod k) from' + 1)

/-- TPO_PULSE (R631): an armed output whose base has reached its next pulse. -/
def execTpoPulse (k : Fin 4) (s : State) : Step :=
  let b := s.fld (R.SUNDIAL_TPO_CTRL_BASE k)
  .next (if s.verUp && s.flag (R.SUNDIAL_TPO_CTRL_ARM k) && s.baseRuns b && s.tpoNext k != 0 && s.tpoNext k ≤ s.baseNs b + 1
    then s.firePulse k (s.tpoNext k) else s)

/-- The pulses that the step of first lock passes (R632). -/
def State.passPulses (s : State) (b : Nat) : State :=
  s.iter 4 (fun k s =>
    if s.flag (R.SUNDIAL_TPO_CTRL_ARM k) && s.fld (R.SUNDIAL_TPO_CTRL_BASE k) == b && s.tpoNext k != 0 &&
        s.tpoNext k ≤ s.tbNs b then
      (s.setFld (R.SUNDIAL_TPO_CTRL_PASSED k) 1).firePulse k (s.tbNs b + 1)
    else s)

/-- Whether a master may write the registers of the pulse outputs (R631). -/
def tpoMaster (m : Master) : Bool :=
  match m with
  | .fn 0 => true
  | .core _ _ .m => true
  | _ => false

/-- A write of TPOk.CTRL by a master that may (R618, R631): BASE and WIDTH are discarded while ARM is 1, and so is a write
that would arm TB1 without Nimlink. -/
def State.writeTpo (s : State) (k v : Nat) : State :=
  let armed := s.flag (R.SUNDIAL_TPO_CTRL_ARM k)
  let base := if armed then s.fld (R.SUNDIAL_TPO_CTRL_BASE k) else v / 2 ^ 28 % 4
  if !armed && bit v 31 && base == 1 && !s.hasNim then s else
  let s := if bit v 30 then s.setFld (R.SUNDIAL_TPO_CTRL_PASSED k) 0 else s
  let s := if armed then s else (s.setFld (R.SUNDIAL_TPO_CTRL_BASE k) base).setFld (R.SUNDIAL_TPO_CTRL_WIDTH k) v
  let s := s.setFld (R.SUNDIAL_TPO_CTRL_ARM k) (v / 2 ^ 31)
  if !bit v 31 then s.setTpoNext k 0
  else if armed then s
  else if s.baseRuns base && s.tpoPeriod k = 0 && s.tpoStart k < s.baseNs base then s.setTpoNext k 0
  else s.setTpoNext k (firstFrom (s.tpoStart k) (if s.baseRuns base then s.tpoPeriod k else 0) (s.baseNs base) + 1)

/-! ### Captures (R619) -/

/-- A write of SNAP: every base named is captured at once; TB1 reads 0 without Nimlink (R618). -/
def State.takeSnap (s : State) (v : Nat) : State :=
  s.iter 4 (fun n s =>
    if !bit v n || (n == 1 && !s.hasNim) then s else
    let t := s.baseNs n
    (s.setFld (R.SUNDIAL_TB_SNAPSEC_SEC n) (t / 1000000000)).setFld (R.SUNDIAL_TB_SNAPNS_NS n) (t % 1000000000))

/-! ### Sync and the servo (R626–R630) -/

/-- The compensation of a Sync received on a port, in ns: link delay, asymmetry and ingress latency (R625). -/
def State.ingressNs (s : State) (p : Nat) : Int :=
  (sgn32 (s.fld (R.SUNDIAL_PORT_LINKDELAY_DELAY p)) + sgn32 (s.fld (R.SUNDIAL_PORT_ASYM_ASYM p)) +
    sgn32 (s.fld (R.SUNDIAL_PORT_INGLAT_INGLAT p))) / 65536

/-- First lock (R626, R632): the base's one step. `ago` is the TB2 time since the Sync's ingress. -/
def State.firstLock (s : State) (b : Nat) (gmNs ratio : Int) (ago : Nat) : State :=
  let r := clampPpm ratio
  let s := s.setTb b (gmNs + ago + ago * r / 1000000000000).toNat
  let s := (s.setServoI b r).setFld (R.SUNDIAL_TB_RATE_RATE b) (i32 r)
  let s := (s.setFld (R.SUNDIAL_TB_SETPT_SETPT b) (i32 r)).setFld (R.SUNDIAL_TB_STATUS_LOCKED b) 1
  s.passPulses b

/-- A Sync after first lock (R627, R629, R630), with the measured offset in ns. -/
def State.servo (s : State) (b : Nat) (o : Int) : State :=
  let s := if s.flag (R.SUNDIAL_TB_STATUS_HOLDOVER b) then
      ((s.setFld (R.SUNDIAL_TB_HOLDSEC_SEC b) (s.holdSec b)).setFld (R.SUNDIAL_TB_STATUS_HOLDOVER b) 0).setServoI b (s.rate b)
    else s
  let i := clampPpm (s.servoI b - s.fld R.SUNDIAL_SERVO_KI * o)
  let s := (s.setServoI b i).setFld (R.SUNDIAL_TB_SETPT_SETPT b) (i32 (clampPpm (i - s.fld R.SUNDIAL_SERVO_KP * o)))
  let s := s.setFld (R.SUNDIAL_TB_OFFSET_NS b) (o % 2 ^ 64).toNat
  if 1000000 < o.natAbs then s.setFld (R.SUNDIAL_TB_STATUS_OFFSET_LARGE b) 1
  else if o.natAbs < 1000 then s.setFld (R.SUNDIAL_TB_STATUS_OFFSET_LARGE b) 0
  else s

/-- Whether a Sync or Follow_Up of a port is taken: its domain, and the port is the base's slave port. -/
def State.syncOk (s : State) (p : Nat) (y : SyncMsg) : Bool :=
  let b := gptpBase p
  s.gptpUp p && y.domain.toNat == s.gptpDomain b && s.fld (R.SUNDIAL_TB_STATUS_PORT b) == p

/-- A Sync is accepted on its port, with TB2 and the base at its ingress. -/
def State.acceptSync (s : State) (p : Nat) (y : SyncMsg) (t2 tb : Nat) : State :=
  let b := gptpBase p
  let n := SMap.get (fun _ => 0) s.sun.syncs b + 1
  let s := { s with sun := { s.sun with syncs := SMap.set (fun _ => 0) s.sun.syncs b (min n 2) } }
  let s := (s.setFld (R.SUNDIAL_TB_GMID_ID b) y.gm.toNat).setFld (R.SUNDIAL_TB_STATUS_SYNCED b) 1
  let gmNs : Int := y.time + s.ingressNs p
  if s.flag (R.SUNDIAL_TB_STATUS_LOCKED b) then s.servo b (tb - gmNs)
  else if 2 ≤ n ∧ 3 ≤ SMap.get (fun _ => 0) s.sun.conv p then s.firstLock b gmNs y.ratio (s.tb2 - t2)
  else s

/-- GPTP_SYNC (R620, R626, R627): a one-step Sync is accepted at once; a two-step one waits for its Follow_Up. -/
def execGptpSync (p : Fin 6) (y : SyncMsg) (s : State) : Step :=
  .next (if !s.syncOk p y then s
    else if y.twoStep then
      let e := (p.val, y.seq.toNat, s.tb2, s.tbNs (gptpBase p))
      { s with sun := { s.sun with twoStep := s.sun.twoStep.filter (fun w => w.1 ≠ p.val) ++ [e] } }
    else s.acceptSync p y s.tb2 (s.tbNs (gptpBase p)))

/-- GPTP_FOLLOW_UP (R620): the two-step Sync it follows is accepted, as of the Sync's ingress. -/
def execGptpFollowUp (p : Fin 6) (y : SyncMsg) (s : State) : Step :=
  .next (if !s.syncOk p y then s else
    match s.sun.twoStep.find? (fun w => w.1 == p.val && w.2.1 == y.seq.toNat) with
    | none => s
    | some w =>
      let s := { s with sun := { s.sun with twoStep := s.sun.twoStep.filter (fun v => v ≠ w) } }
      s.acceptSync p y w.2.2.1 w.2.2.2)

/-- PDELAY_EXCHANGE (R625, R626): a peer delay response gives the turnaround of the exchange in 2^−16 ns, measured with
uncompensated timestamps; `ok` when it agrees with the one before within the convergence of IEEE 802.1AS. -/
def execPdelayExchange (p : Fin 6) (turn : Int) (ok : Bool) (s : State) : Step :=
  .next (if !s.gptpUp p then s else
    let d := (turn - sgn32 (s.fld (R.SUNDIAL_PORT_INGLAT_INGLAT p)) - sgn32 (s.fld (R.SUNDIAL_PORT_EGRLAT_EGRLAT p))) / 2
    let n := if ok then min 3 (SMap.get (fun _ => 0) s.sun.conv p + 1) else 0
    let s := { s with sun := { s.sun with conv := SMap.set (fun _ => 0) s.sun.conv p n } }
    s.setFld (R.SUNDIAL_PORT_LINKDELAY_DELAY p) (i32 d))

/-- SERVO_TICK (R628): RATE of each locked base follows SETPT at the slew limit. -/
def execServoTick (s : State) : Step :=
  .next (if !s.verUp then s else
    s.iter 2 (fun b s =>
      if !s.flag (R.SUNDIAL_TB_STATUS_LOCKED b) || s.flag (R.SUNDIAL_TB_STATUS_HOLDOVER b) then s else
      let lim : Int := s.fld R.SUNDIAL_SLEW_SLEW * 1000
      s.setFld (R.SUNDIAL_TB_RATE_RATE b) (i32 (s.rate b + min (max (s.setpt b - s.rate b) (-lim)) lim))))

/-! ### The best clock (R621, R622) -/

/-- The best Announce of a port, as (vector, grandmaster). -/
def State.annOf (s : State) (p : Nat) : Option (Nat × Nat) := (s.sun.ann.find? (fun e => e.1 == p)).map (·.2)

/-- The port with the best Announce of a base; of equals the lower port. -/
def State.bestPort (s : State) (b : Nat) : Option (Nat × Nat) :=
  (if b = 0 then [0, 1] else [2, 3, 4, 5]).foldl (fun (acc : Option (Nat × Nat)) p =>
    match s.annOf p, acc with
    | some a, some best => if a.1 < best.2 then some (p, a.1) else acc
    | some a, none => some (p, a.1)
    | none, _ => acc) none

/-- This device's own priority vector on TB1: priority1, then what the spec does not give (log entry 32). -/
def State.ownVec (s : State) : Nat := s.fld R.SUNDIAL_RINGGM_RING_PRIO1 * 2 ^ 120 + Config.clockVec % 2 ^ 120

/-- The slave port of a base becomes `p`; two successive Syncs are then counted anew. -/
def State.setSlave (s : State) (b p : Nat) : State :=
  if s.fld (R.SUNDIAL_TB_STATUS_PORT b) = p then s else
  let s := { s with sun := { s.sun with
    syncs := SMap.set (fun _ => 0) s.sun.syncs b 0
    twoStep := s.sun.twoStep.filter (fun w => gptpBase w.1 ≠ b) } }
  s.setFld (R.SUNDIAL_TB_STATUS_PORT b) p

/-- This device becomes grandmaster of TB1 (R622): before its first lock it takes TB2; later it keeps its value; its rate
stays as it is (log entry 32). -/
def State.becomeGm (s : State) : State :=
  if s.flag (R.SUNDIAL_TB_STATUS_GM 1) then s else
  let s := (s.setSlave 1 7).setFld (R.SUNDIAL_TB_STATUS_GM 1) 1
  let s := (s.setFld (R.SUNDIAL_TB_GMID_ID 1) Config.clockId).setFld (R.SUNDIAL_TB_SETPT_SETPT 1) (s.fld (R.SUNDIAL_TB_RATE_RATE 1))
  if s.flag (R.SUNDIAL_TB_STATUS_LOCKED 1) then s
  else ((s.setTb 1 s.tb2).setFld (R.SUNDIAL_TB_STATUS_LOCKED 1) 1).passPulses 1

/-- BMCA of a base: the slave port, or on TB1 this device as grandmaster. -/
def State.chooseClock (s : State) (b : Nat) : State :=
  match s.bestPort b with
  | some (p, v) =>
    if b = 1 ∧ s.ownVec ≤ v then s.becomeGm
    else (s.setFld (R.SUNDIAL_TB_STATUS_GM b) 0).setSlave b p
  | none => if b = 1 then (if s.hasNim then s.becomeGm else s) else s

/-- GPTP_ANNOUNCE (R621, R622). -/
def execGptpAnnounce (p : Fin 6) (a : AnnMsg) (s : State) : Step :=
  let b := gptpBase p
  .next (if !s.gptpUp p || a.domain.toNat != s.gptpDomain b then s else
    let l := s.sun.ann.filter (fun e => e.1 < p.val) ++ [(p.val, a.vec.toNat, a.gm.toNat)] ++
      s.sun.ann.filter (fun e => p.val < e.1)
    { s with sun := { s.sun with ann := l } }.chooseClock b)

/-- HOLDOVER (R621, R630): the Sync or the Announce receipt timeout of base `n` expires. The slave port's clock is given up;
on TB0 the other port becomes the slave port. -/
def execHoldover (n : Fin 2) (s : State) : Step :=
  .next (if !s.verUp || s.flag (R.SUNDIAL_TB_STATUS_GM n) then s else
    let p := s.fld (R.SUNDIAL_TB_STATUS_PORT n)
    let s := s.setFld (R.SUNDIAL_TB_STATUS_SYNCED n) 0
    let s := if !s.flag (R.SUNDIAL_TB_STATUS_LOCKED n) || s.flag (R.SUNDIAL_TB_STATUS_HOLDOVER n) then s else
      let s := (s.setFld (R.SUNDIAL_TB_STATUS_HOLDOVER n) 1).setFld (R.SUNDIAL_TB_SETPT_SETPT n)
        (s.fld (R.SUNDIAL_TB_RATE_RATE n))
      { s with sun := { s.sun with holdAt := SMap.set (fun _ => 0) s.sun.holdAt n s.tb2 } }
    let s := { s with sun := { s.sun with ann := s.sun.ann.filter (fun e => e.1 ≠ p) } }
    if n.val = 0 ∧ p < 2 ∧ (s.annOf (1 - p)).isNone ∧ s.gptpUp (1 - p) then s.setSlave 0 (1 - p) else s.chooseClock n)

/-! ### Forwarded Syncs (R623) -/

/-- SYNC_FORWARD (R623): a Sync (0 one-step, 1 two-step) or a Follow_Up (2) of TB1 passes from one Nimlink port to another,
with its residence time in 2^−16 ns. The sum of a two-step Sync waits at the egress port for its Follow_Up; a Follow_Up
without its sum is counted. -/
def execSyncForward (pin pout : Fin 4) (seq : BitVec 16) (kind : Fin 3) (res : Nat) (s : State) : Step :=
  .next (if !s.gptpUp (pin + 2) || !s.gptpUp (pout + 2) || pin == pout then s else
    let l := SMap.get (fun _ => []) s.sun.fwd pout
    let put := fun (s : State) (l : List (Nat × Nat)) =>
      { s with sun := { s.sun with fwd := SMap.set (fun _ => []) s.sun.fwd pout l } }
    if kind.val = 0 then s
    else if kind.val = 1 then
      let add : Int := sgn32 (s.fld (R.SUNDIAL_PORT_LINKDELAY_DELAY (pin + 2))) + res
      let sum := (add * (1000000000000 + s.rate 1) / 1000000000000).toNat
      let l := l.filter (fun e => e.1 ≠ seq.toNat) ++ [(seq.toNat, sum)]
      put s (l.drop (l.length - 16))
    else if l.any (fun e => e.1 == seq.toNat) then put s (l.filter (fun e => e.1 ≠ seq.toNat))
    else s.satInc (R.NIM_PORT_ERR_FUNOSUM pout))

/-- GPTP_MESSAGE_INTERVAL (R620): the device sends its Pdelay_Req or, as grandmaster of TB1, its Sync and Announce. A frame
sent on an Ethernet port is counted. -/
def execGptpMessageInterval (p : Fin 6) (s : State) : Step :=
  .next (if p.val < 2 ∧ s.gptpUp p then s.satInc (R.ETH_M_TXFRAMES_COUNT p) else s)

end Sys2Proof.Machine
end

