-- ==== Sys2Proof/Machine/RegRead.lean ====
section
/-! DEFINITION. Reads of the control window (R16–R23, R103, R662, R698, R718, R721, R780, R786): who may read what, the views
that a register shows of other state, and the halves of a 64-bit register. -/
namespace Sys2Proof.Machine

/-- What a master's access of the control window meets: it is carried out, refused with FENCE, or never reaches the window
at all (a link that is down, a lifecycle state that allows no debug access, a function that has no such address). -/
inductive Gate where
  | ok | fence | gone
deriving DecidableEq, Repr

/-- The page of an offset (R16). -/
def pageOf (off : Nat) : Nat := off / 0x10000

/-- Whether an offset lies in the block of function `f` (R721). -/
def inBlock (f off : Nat) : Bool := 0xC1000 + f * 0x400 ≤ off && off < 0xC1400 + f * 0x400

/-- Whether PF0 or a VF reaches an offset: over port A or its hand-over, and with IDE_REQ outside a locked stream only the
DEVICE, KEEP and SAFETY pages of PF0 (R698, R721). -/
def State.fnReach (s : State) (f off : Nat) : Bool :=
  s.hostUp && s.keepUp && off < 0x340000 &&
    (if f = 0 then !s.ideShut 0 || pageOf off == 0 || pageOf off == 6 || pageOf off == 1
     else inBlock f off && !s.ideShut 0)

/-- What a read meets (R216, R218, R219, R662, R698, R721, R780). -/
def State.readGate (s : State) (m : Master) (off : Nat) : Gate :=
  match m with
  | .core _ _ .u => .fence
  | .core _ _ _ => .ok
  | .fn f => if s.fnReach f off then .ok else .gone
  | .nim =>
    let p := pageOf off
    if [0x00, 0x01, 0x03, 0x04, 0x09, 0x13, 0x14, 0x10].contains p || (0x20 ≤ p && p < 0x34) then .ok else .fence
  | .dbg => if s.dbgAllowed 3 || off == R.DBG_STATUS then .ok else .gone
  | _ => .gone

/-! ### Views -/

/-- Whether some map entry of core `n` points to object `k` (SOBJCFG.MAPPED). -/
def State.mapped (s : State) (n k : Nat) : Bool :=
  (s.listed (R.CORE_VMAP n 0 0) 0x4000).any (fun p => p.2.getLsbD 31 && p.2.toNat % 256 == k)

/-- The tag counts of CORE n.TAGUSE. -/
def State.tagUse (s : State) (n : Nat) : Nat :=
  let u := fun (e : Nat) => s.tagsOf n e
  u 4 + 2 ^ 8 * u 3 + 2 ^ 16 * u 2 + 2 ^ 24 * u 1 + 2 ^ 32 * u 0 + 2 ^ 40 * u 5 +
    2 ^ 48 * ((List.range 6).map u).sum

/-- Verdict slots: C0 frames open, and shared slots by class (R446). -/
def State.c0Held (s : State) : Nat :=
  ((List.range 64).map (fun r => match s.route r with
    | some rc => if rc.cls = 0 then (s.routeSt r).frames.length else 0
    | none => 0)).sum

/-- Shared verdict slots held by a class (R446). -/
def State.heldBy (s : State) (c : Nat) : Nat := (s.jobs.jobs.filter (fun (j : Job) => j.cls == c)).length

/-- DBG.STATUS.ALLOWED: bit k for row k of R780. -/
def State.dbgMask (s : State) : Nat := ((List.range 9).map (fun k => if s.dbgAllowed k then 2 ^ k else 0)).sum

/-- Whole seconds since a TB2 time. -/
def State.since (s : State) (t : Nat) : Nat := (s.tb2 - t) / 1000000000

/-- The seconds of a lockout that remain, rounded up, saturating (SAFEIO.PSTAT). -/
def State.lockoutLeft (s : State) : Nat := min ((s.param.lockUntil - s.tb2 + 999999999) / 1000000000) 0xFFF

/-- Whether the identities of the Keep are valid (KEEP.IDENT). -/
def State.identOk (s : State) : Bool :=
  s.flag R.KEEP_STATUS_UDS_LOCKED && (s.fld R.KEEP_STATUS_LCS == 1 || s.fld R.KEEP_STATUS_LCS == 2)

/-- A register word with fields replaced by what they show. -/
def showFlds (w : BitVec 64) (l : List (Fld × Nat)) : BitVec 64 := l.foldl (fun w p => p.1.put w p.2) w

/-- The performance counters are exact for PF0, firmware at M and the debug port (R718). -/
def exactFor (m : Master) : Bool :=
  match m with
  | .fn 0 => true
  | .core _ _ .m => true
  | .dbg => true
  | _ => false

/-- What a function's block shows (R448, R718). -/
def State.viewBlock (s : State) (m : Master) (off : Nat) : BitVec 64 :=
  let f := (off - 0xC1000) / 0x400
  let o := (off - 0xC1000) % 0x400
  if 0x80 ≤ o ∧ o < 0xA0 then BitVec.ofNat 64 (s.fate f ((o - 0x80) / 4))
  else if (o = 0xC0 ∨ o = 0xC8) ∧ !exactFor m then BitVec.ofNat 64 (s.perfSample f ((o - 0xC0) / 8))
  else s.reg off

/-- What the registers of core `n`'s page show. -/
def State.viewCore (s : State) (n off : Nat) : BitVec 64 :=
  let w := s.reg off
  if off = R.CORE_TAGUSE n then BitVec.ofNat 64 (s.tagUse n)
  else if off = R.CORE_BELLSTAT n then showFlds w
    [(R.CORE_BELLSTAT_MARKERS n, (s.fab.markers.filter (fun (x : Marker) => x.core == n)).length),
     (R.CORE_BELLSTAT_WATCHES n, (s.core n).watches.length)]
  else if off = R.CORE_GOLDCFG n then showFlds w [(R.CORE_GOLDCFG_SPARE n, if s.fld (fCoreState n) = csSPARE then 1 else 0)]
  else if off = R.CORE_DLSTAT n then showFlds w [(R.CORE_DLSTAT_STILL n, if s.dlStill n then 1 else 0)]
  else if R.CORE_SOBJCFG n 0 ≤ off ∧ off < R.CORE_VMAP n 0 0 then
    let k := (off - R.CORE_SOBJCFG n 0) / 8
    showFlds w [(R.CORE_SOBJCFG_MAPPED n k, if s.mapped n k then 1 else 0)]
  else w

/-- What the registers of the safe-I/O page show (R587, R597, R610). -/
def State.viewSio (s : State) (off : Nat) : BitVec 64 :=
  let w := s.reg off
  if off = R.SAFEIO_RUN then showFlds w [(R.SAFEIO_RUN_PERMIT, s.permits)]
  else if off = R.SAFEIO_PSTAT then showFlds w
    [(R.SAFEIO_PSTAT_LOCKOUT, s.lockoutLeft), (R.SAFEIO_PSTAT_FAILS, min s.param.fails 15),
     (R.SAFEIO_PSTAT_SESSION, if s.param.session.isSome then 1 else 0),
     (R.SAFEIO_PSTAT_PWSET, if s.param.password.isSome then 1 else 0)]
  else if off = R.SAFEIO_SETVER then BitVec.ofNat 64 (s.pset 8 4)
  else if off = R.SAFEIO_LOGSEQ then BitVec.ofNat 64 s.param.logSeq
  else if R.SAFEIO_PDIGEST 0 ≤ off ∧ off < R.SAFEIO_PDIGEST 12 then
    BitVec.ofNat 64 (leAt s.pdigest (off - R.SAFEIO_PDIGEST 0) 4)
  else w

/-- What a register shows, by its offset: the stored word, with the fields that mirror other state. -/
def State.regView (s : State) (m : Master) (off : Nat) : BitVec 64 :=
  let w := s.reg off
  match pageOf off with
  | 0x00 => if off = R.DEVICE_STATE then BitVec.ofNat 64 s.stateInfoWord else w
  | 0x01 =>
    if off = R.SAFETY_SINGLETIME then BitVec.ofNat 64 (min ((s.ladder.single.map s.since).getD 0) (2 ^ 32 - 1)) else w
  | 0x02 => s.viewSio off
  | 0x03 => if off = R.WATCH_LADDER then showFlds w [(R.WATCH_LADDER_COUNT, min s.ladderCount 15)] else w
  | 0x04 =>
    let b := (off - R.SUNDIAL_TB_HOLDSEC 0) / 0x40
    if off = R.SUNDIAL_TB_HOLDSEC b ∧ b < 2 then BitVec.ofNat 64 (s.holdSec b) else w
  | 0x06 =>
    if off = R.KEEP_IDENT_ROLLID then (if s.identOk then BitVec.ofNat 64 Config.rollId else 0)
    else if off = R.KEEP_IDENT_BUNDLEID_LO then (if s.identOk then BitVec.ofNat 64 (leAt Config.bundleId 0 8) else 0)
    else if off = R.KEEP_IDENT_BUNDLEID_HI then (if s.identOk then BitVec.ofNat 64 (leAt Config.bundleId 8 8) else 0)
    else w
  | 0x09 =>
    if off = R.TAP_LTSTAT then showFlds w [(R.TAP_LTSTAT_FRAME, s.refFrame), (R.TAP_LTSTAT_LINE, s.line),
      (R.TAP_LTSTAT_STATE, s.tapState (s.fld R.TAP_LTCFG_REF))]
    else
      let k := (off - R.TAP_RINGSTAT 0) / 0x10
      if off = R.TAP_RINGSTAT k ∧ k < 8 then showFlds w [(R.TAP_RINGSTAT_HELD k, s.ringHeld k)] else w
  | 0x0C => if 0xC1000 ≤ off then s.viewBlock m off else w
  | 0x11 => if off = R.PWR_STATUS then showFlds w [(R.PWR_STATUS_FREE, s.creditFree)] else w
  | 0x12 => if off = R.DBG_STATUS then showFlds w
      [(R.DBG_STATUS_LCS, s.fld R.KEEP_STATUS_LCS), (R.DBG_STATUS_ALLOWED, s.dbgMask)] else w
  | 0x13 => if off = R.VERD_STATUS then showFlds w
      [(R.VERD_STATUS_C0_HELD, s.c0Held), (R.VERD_STATUS_C1_HELD, s.heldBy 1), (R.VERD_STATUS_C2_HELD, s.heldBy 2),
       (R.VERD_STATUS_SHARED_FREE, 48 - s.sharedHeld)] else w
  | 0x14 => if off = R.HEARTH_WINTIME then BitVec.ofNat 64 s.winElapsed else w
  | p =>
    if 0x20 ≤ p ∧ p < 0x30 then s.viewCore (p - 0x20) off
    else if 0x30 ≤ p ∧ p < 0x34 then
      showFlds w [(R.POND_STATUS_POISONED (p - 0x30),
        min 255 (s.poison.filter (fun l => !isDram (l * 64) && 0x1004000000 + (p - 0x30) * 0x800000 ≤ l * 64 &&
          l * 64 < 0x1004800000 + (p - 0x30) * 0x800000)).length)]
    else w

/-! ### Whole accesses -/

/-- The bits of a register that read as 0 because they are write-only (R19). -/
def woMask : List FieldRow → Nat
  | [] => 0
  | f :: t => (if f.acc = .wo then (2 ^ f.w - 1) * 2 ^ f.lo else 0) + woMask t

/-- The byte ranges of the window that show MRAM: the parameter set in force (R587) and the logs of the Reeve (R613) and of the
settings store (R765). -/
def State.romBytes (s : State) (off n : Nat) : Option (List Byte) :=
  let o := off % 0x10000
  if pageOf off = 2 ∧ 0x1000 ≤ o ∧ o < 0x1200 then some ((s.param.set.drop (o - 0x1000)).take n)
  else if pageOf off = 2 ∧ 0x8000 ≤ o then
    some (((SMap.get (fun _ => []) s.param.log ((o - 0x8000) / 0x40)).drop (o % 0x40)).take n)
  else if pageOf off = 7 ∧ 0x8000 ≤ o then
    some (((SMap.get (fun _ => []) s.nvm.log ((o - 0x8000) / 0x20)).drop (o % 0x20)).take n)
  else none

/-- The high half latched by a master's read of the low half, if there is one (R23). -/
def Halves.latch (h : Halves) (m : Master) (off : Nat) : Option (BitVec 32) :=
  (h.latched.find? (fun x => x.1 == m && x.2.1 == off)).map (·.2.2)

/-- A latched high half set, or dropped. -/
def Halves.setLatch (h : Halves) (m : Master) (off : Nat) (v : Option (BitVec 32)) : Halves :=
  let l := h.latched.filter (fun x => !(x.1 == m && x.2.1 == off))
  { h with latched := match v with
    | some v => l ++ [(m, off, v)]
    | none => l }

/-- A read of a register that is allowed (R22, R23, R786). -/
def State.regRead (s : State) (m : Master) (off size : Nat) : State × Nat :=
  match regAt off with
  | none => (s, 0)
  | some (r, b) =>
    let base := off - b
    let w := (s.regView m base &&& ~~~ BitVec.ofNat 64 (woMask r.fields)).toNat
    if !r.wide then (s, if size = 4 ∧ b = 0 then w else 0)
    else if size = 8 ∧ b = 0 then (s, w)
    else if size = 4 ∧ b = 0 then
      ({ s with halves := s.halves.setLatch m base (some (BitVec.ofNat 32 (w / 2 ^ 32))) }, w % 2 ^ 32)
    else if size = 4 ∧ b = 4 then
      match s.halves.latch m base with
      | some h => ({ s with halves := s.halves.setLatch m base none }, h.toNat)
      | none => (s, w / 2 ^ 32)
    else (s, 0)

/-- A read of the control window: the state after it, its status and its value (R5, R22, R23, R662, R786). -/
def State.ctlRead (s : State) (m : Master) (off size : Nat) : State × MStat × Nat :=
  match s.readGate m off with
  | .fence => (s, .fence, 0)
  | .gone => (s, .addrDecode, 0)
  | .ok =>
    if s.absent off then (s, .ok, 0) else
    match s.romBytes off size with
    | some l => (s, .ok, leNat l)
    | none =>
      let x := s.regRead m off size
      (x.1, .ok, x.2)

/-- LOW_HALF_READ (R23): a 32-bit read of the low half of a 64-bit register latches its high half for that master. -/
def execLowHalfRead (m : Master) (off : BitVec 22) (s : State) : Step :=
  .next (s.ctlRead m off.toNat 4).1

end Sys2Proof.Machine
end

