-- ==== Sys2Proof/Machine/RegWrites.lean ====
section
/-! DEFINITION. Writes of the control window (R16–R23, R103, R135, R218, R434, R453, R454, R474, R486, R527–R538, R573–R575, R597, R619,
R631, R698, R721, R730, R780–R786), and the debug port's commands. -/
namespace Sys2Proof.Machine

/-- What a register write does: the state after it, and whether something of it was discarded that DEVICE.ACCERR records
(R20). -/
abbrev Wrote := State × Bool

/-! ### Who may write what -/

/-- Registers whose own rules say what a write by the wrong master does, so that a write at S meets them and not FENCE (R135,
R218, R573, R575, R785). -/
def ownOutcome (off : Nat) : Bool :=
  off == R.DEVICE_RESETCMD || off == R.WATCH_SVC || off / 8 == R.WATCH_CFG / 8 || off == R.DBG_INJ ||
    off / 8 == R.DBG_INJADDR / 8 || (0x200000 ≤ off && off < 0x300000 && off % 0x10000 / 8 == 0x68 / 8)

/-- Whether a Steward at S may write an offset of the window (R218). -/
def sMayWrite (n off : Nat) : Bool :=
  let p := pageOf off
  [0x05, 0x08, 0x09, 0x13, 0x14].contains p || p == 0x20 + n || p == 0x30 + n / 4 || ownOutcome off

/-- Whether an offset lies in the objects of some core (CORE n.SOBJk). -/
def isSobj (off : Nat) : Bool := 0x200000 ≤ off && off < 0x300000 && 0x1000 ≤ off % 0x10000 && off % 0x10000 < 0x1400

/-- What a write meets (R216, R218, R219, R662, R698, R721, R780). The debug port's hand writes and injections have outcomes of
their own in every lifecycle state (R486, R785). -/
def State.writeGate (s : State) (m : Master) (off : Nat) : Gate :=
  match m with
  | .core _ _ .u => .fence
  | .core n _ .s => if sMayWrite n off then .ok else .fence
  | .core _ _ .m => .ok
  | .fn f => if s.fnReach f off then .ok else .gone
  | .nim => .fence
  | .dbg => if s.dbgAllowed 3 || isSobj off || off == R.DBG_INJ || off / 8 == R.DBG_INJADDR / 8 then .ok else .gone
  | _ => .gone

/-- Whether the RWL fields of a register are locked (R121, R171, R434, R540, R541, R573). -/
def State.regLocked (s : State) (off : Nat) : Bool :=
  match pageOf off with
  | 0x01 => s.dev.cfgLocked
  | 0x03 => s.dev.cfgLocked
  | 0x04 => s.flag R.SUNDIAL_LOCK_LOCK
  | 0x0E => s.flag R.SUNDIAL_LOCK_LOCK
  | 0x0F => s.flag R.SUNDIAL_LOCK_LOCK
  | 0x08 => s.flag R.CVU_LOCK_LOCK && s.cvuDedicated ((off - R.CVU_U_CFG 0) / 0x80)
  | 0x09 => s.flag R.TAP_LOCK_LOCK
  | 0x0B => s.flag R.MEMC_LOCK_LOCK
  | 0x0C => s.dev.setOk
  | 0x0D => s.dev.setOk
  | 0x10 => s.flag R.NIM_LOCK_LOCK
  | 0x14 => false
  | _ => s.flag R.PART_LOCK_LOCK

/-! ### Registers whose fields act by their access type alone -/

/-- A field after a write (R19): `old` and `new` are its old value and the value written. -/
def fieldAfter (a : Access) (locked : Bool) (old new : BitVec 64) : BitVec 64 :=
  match a with
  | .rw => new
  | .rwl => if locked then old else new
  | .w1c => old &&& ~~~new
  | .w1s => old ||| new
  | _ => old

/-- The bits of a field. -/
def FieldRow.mask (f : FieldRow) : BitVec 64 := BitVec.ofNat 64 ((2 ^ f.w - 1) * 2 ^ f.lo)

/-- A register word after a write of every bit of `v` within `bits` (R19, R22, R23). -/
def wordAfter (fs : List FieldRow) (locked : Bool) (old v bits : BitVec 64) : BitVec 64 :=
  fs.foldl (fun w f =>
    let k := f.mask &&& bits
    (w &&& ~~~k) ||| (fieldAfter f.acc locked old v &&& k)) old

/-- Whether a write reaches an RWL field within `bits`. -/
def hasRwl (fs : List FieldRow) (bits : BitVec 64) : Bool := fs.any (fun f => f.acc == .rwl && f.mask &&& bits != 0)

/-- Whether a write reaches a W1C field within `bits`. -/
def hasW1c (fs : List FieldRow) (bits : BitVec 64) : Bool := fs.any (fun f => f.acc == .w1c && f.mask &&& bits != 0)

/-- A write of a register that acts by its fields' types; one that reaches locked fields is recorded (R19, R20). -/
def State.writeFields (s : State) (base : Nat) (fs : List FieldRow) (v bits : BitVec 64) : Wrote :=
  let l := s.regLocked base
  (s.setReg base (wordAfter fs l (s.reg base) v bits), l && hasRwl fs bits)

/-! ### RESETCMD (R135, R136) -/

/-- Whether a master is PF0 or firmware at M. -/
def hostOrM (m : Master) : Bool :=
  match m with
  | .fn 0 => true
  | .core _ _ .m => true
  | _ => false

/-- A write of DEVICE.RESETCMD: a warm restart waits for its boundary (R108), the others act at once. -/
def State.resetCmd (s : State) (m : Master) (v : Nat) : Wrote :=
  let c := v % 16
  if !hostOrM m || v / 2 ^ 16 % 2 ^ 16 ≠ 0xB311 then (s, true)
  else match v / 256 % 16 with
    | 1 => if s.hasCore c then (s.commandRestart c, false) else (s, true)
    | 2 => (if s.dev.stopReq.any (fun q => q.1 == .warm) then s
        else { s with dev := { s.dev with stopReq := s.dev.stopReq ++ [(.warm, 0)] } }, false)
    | 3 => (s.portReset 0, false)
    | 4 => if s.hasPortB then (s.portReset 1, false) else (s, true)
    | _ => (s, false)

/-! ### The Bellhouse's registers -/

/-- A hand write of an object by the debug port (R486, R487): recorded, accepted or not. -/
def State.handWrite (s : State) (n k v : Nat) : Wrote :=
  let ok := s.dbgAllowed 6 && (!s.flag (R.CORE_SOBJCFG_PRIV n k) || !s.serving)
  let old := s.fld (R.CORE_SOBJ_VALUE n k)
  let entry := v + 2 ^ 32 * (old % 2 ^ 16) + 2 ^ 48 * k + 2 ^ 56 * n + 2 ^ 60 * (s.st % 8) + (if ok then 2 ^ 63 else 0)
  let s := s.setReg (R.BELL_HANDLOG (s.fld R.BELL_HANDCNT_COUNT % 32)) (BitVec.ofNat 64 entry)
  let s := s.satInc R.BELL_HANDCNT_COUNT
  if ok then ((s.setFld (R.CORE_SOBJ_VALUE n k) v).fireWatches n k, false) else (s, true)

/-- Whether a SRC code names a device signaller (R452). -/
def srcOk (x : Nat) : Bool := x ≤ 0x0C || (0x10 ≤ x && x ≤ 0x13)

/-- A write of an object's configuration (R452, R454): the object's value becomes its BASE. Of a mapped object it is discarded
and recorded; a reserved SRC, or PRIV without ALIGN, discards it. -/
def State.writeSobjCfg (s : State) (n k : Nat) (fs : List FieldRow) (v bits : BitVec 64) : Wrote :=
  if s.mapped n k then (s, true) else
  let w := wordAfter fs false (s.reg (R.CORE_SOBJCFG n k)) v bits
  if !srcOk ((R.CORE_SOBJCFG_SRC n k).get w) || ((R.CORE_SOBJCFG_PRIV n k).get w == 1 && (R.CORE_SOBJCFG_ALIGN n k).get w == 0)
  then (s, false) else
  let s := s.setReg (R.CORE_SOBJCFG n k) w
  ((s.setFld (R.CORE_SOBJ_VALUE n k) (s.fld (R.CORE_SOBJCFG_BASE n k))).fireWatches n k, false)

/-- A write of a map entry (R453): one that points to an object of another owner is discarded and logged. -/
def State.writeVmap (s : State) (m : Master) (n x i v : Nat) : State :=
  let own := s.fld (R.CORE_SOBJCFG_OWNER n (v % 256))
  if bit v 31 && own != x then
    let src := match m with
      | .core c _ _ => (c, (s.core c).ctx)
      | _ => (n, x)
    s.xlog false (s.fld R.NIM_CFG_SELF) src.1 src.2 n own 1 (v % 256)
  else (s.setFld (R.CORE_VMAP_VALID n x i) (v / 2 ^ 31)).setFld (R.CORE_VMAP_PHYS n x i) v

/-- A write of a mailbox's configuration (R474, CORE n.MBOXk): discarded while its object counts unread entries; the mailbox
starts afresh. -/
def State.writeMbox (s : State) (n k : Nat) (fs : List FieldRow) (v bits : BitVec 64) : State :=
  if s.fld (R.CORE_SOBJ_VALUE n (s.fld (R.CORE_MBOX_OBJ n k))) ≠ 0 then s else
  let w := wordAfter fs false (s.reg (R.CORE_MBOX n k)) v bits
  let s := (s.setReg (R.CORE_MBOX n k) w).setFld (R.CORE_MBOX_WIDX n k) 0
  s.modCore n (fun c => { c with mboxSeq := SMap.set (fun _ => 0) c.mboxSeq k 0 })

/-- A write in core `n`'s page. -/
def State.writeCore (s : State) (m : Master) (n base : Nat) (fs : List FieldRow) (v bits : BitVec 64) : Wrote :=
  let o := base % 0x10000
  let x := v.toNat
  if base = R.CORE_WMCFG n then
    let w := (s.reg base &&& ~~~bits) ||| (v &&& bits)
    s.writeWm n (match m with
      | .core _ _ .m => s.hasCore n
      | _ => false) w.toNat
  else if base = R.CORE_DRIFT n then
    (if x % 2 ^ 24 ≠ 0 ∧ bits.getLsbD 0 then s.setFld (R.CORE_DRIFT_COUNT n) 0 else s, false)
  else if base = R.CORE_PAIRSTAT n then (s.forcePair n (BitVec.ofNat 32 x), false)
  else if 0xE0 ≤ o ∧ o < 0x120 then (s.writeMbox n ((o - 0xE0) / 8) fs v bits, false)
  else if isSobj base then
    if m = .dbg then s.handWrite n ((o - 0x1000) / 4) (x % 2 ^ 32) else (s, false)
  else if 0x1800 ≤ o ∧ o < 0x2000 then s.writeSobjCfg n ((o - 0x1800) / 8) fs v bits
  else if 0x2000 ≤ o ∧ o < 0x6000 then
    (s.writeVmap m n ((o - 0x2000) / 0x1000) ((o - 0x2000) % 0x1000 / 4) (x % 2 ^ 32), false)
  else s.writeFields base fs v bits

/-! ### Check-value units -/

/-- A write of unit `u`'s register at offset `o` of its block (R527–R538); parameters of a dedicated unit are locked (R540). -/
def State.writeCvu (s : State) (u o base : Nat) (fs : List FieldRow) (v bits : BitVec 64) : Wrote :=
  let l := s.regLocked base
  let w := wordAfter fs l (s.reg base) v bits
  if o = 0x00 then (s.cvuCfg u (v.toNat % 2 ^ 32) l, l)
  else if o = 0x20 then (s.cvuSetValue u w.toNat, false)
  else if o = 0x28 then (s.setCvuW u (R.CVU_U_EXPECT_V u) w.toNat, false)
  else if o = 0x38 then (s.cvuData u v.toNat, false)
  else if o = 0x3C then (s.cvuCmd u v.toNat, false)
  else if o = 0x40 then
    let s := s.setReg base w
    (if bits.getLsbD 0 then s.setCvuCount u (w.toNat % 2 ^ 32) true else s, l && hasRwl fs bits)
  else
    let r := s.writeFields base fs v bits
    (r.1.cvuCut u, r.2)

/-! ### The function blocks (R730, R734, R742) -/

/-- A write of a function's block: bases stay while their EN is 1 and are 4 KiB-aligned; enabling the verdict ring starts
its counts. -/
def State.writeBlock (s : State) (base : Nat) (fs : List FieldRow) (v bits : BitVec 64) : State :=
  let f := (base - 0xC1000) / 0x400
  let o := (base - 0xC1000) % 0x400
  let w := wordAfter fs false (s.reg base) v bits
  let page := w &&& ~~~0xFFF
  if o = 0x08 ∨ o = 0x10 then (if s.flag (R.PCIEA_F_QCFG_EN f) then s else s.setReg base page)
  else if o = 0x28 ∨ o = 0x38 then (if s.flag (R.PCIEA_F_VRCFG_EN f) then s else s.setReg base page)
  else if o = 0x18 then s.writeQcfg f v.toNat
  else if o = 0x1C then s.ringTail f (v.toNat % 4096)
  else if o = 0x20 then s.ringHead f (v.toNat % 4096)
  else if o = 0x40 then s.ringRecords f (v.toNat % 2 ^ 32)
  else if o = 0x30 then
    let t := s.setReg base w
    if t.flag (R.PCIEA_F_VRCFG_EN f) && !s.flag (R.PCIEA_F_VRCFG_EN f) then
      t.modFn f (fun k => { k with vr := [], vrCount := 0, vrHead := 0 })
    else t
  else s.setReg base w

/-! ### Debug (R780–R785) -/

/-- A write of DBG.CTRL (R783): each ATTACH of 1 is counted. -/
def State.writeDbgCtrl (s : State) (v : Nat) : State :=
  let a := v / 2 ^ 31 % 2
  let s := ((s.setFld R.DBG_CTRL_ATTACH a).setFld R.DBG_CTRL_CLASS (v / 2 ^ 29)).setFld R.DBG_STATUS_ATTACHED a
  if a = 1 then s.satInc R.DBG_ATTACHCNT_COUNT else s

/-- The reaction of an injected line for a unit (R555, R785), or none when the line or the unit names nothing present. -/
def State.inject (s : State) (line unit : Nat) : Option State :=
  let die : Option Bool := if unit < 2 then some (unit == 1) else none
  let core := fun (g : State) => if unit < 16 && s.hasCore unit then some g else none
  if 1 ≤ line ∧ line ≤ 4 then die.map (fun d => s.trip line 0 d)
  else if line = 0x05 then (if unit = 0 then some (s.trip 5 0 true) else none)
  else if line = 0x06 then die.map (fun d => s.trip 6 0 d)
  else if line = 0x07 then (if unit = 0 then some (s.fatal 0xFF) else none)
  else if 0x08 ≤ line ∧ line ≤ 0x0A then core (s.coreFault unit 0x31)
  else if line = 0x0B then core (s.coreFault unit 0x33)
  else if line = 0x0C then core (s.expire unit)
  else if line = 0x0D then (if unit = 0 then some (s.expire 16) else none)
  else if line = 0x0E then (if unit < 8 then some (s.channelFail unit) else none)
  else if line = 0x0F then (if unit < 8 then some (s.satInc R.SAFETY_EVCNT_RECORD) else none)
  else if line = 0x10 then (if unit = 0 ∨ (unit = 1 ∧ s.hasPortB = true) then some (s.portReset unit) else none)
  else if line = 0x11 then
    if unit < 97 then some (s.checkerFail 16 unit)
    else if 0x80 ≤ unit ∧ unit < 0x84 then some (s.checkerFail 17 (unit - 0x80))
    else if 0xC0 ≤ unit ∧ unit < 0xD0 ∧ s.hasCore (unit - 0xC0) = true then
      some (s.checkerFail (unit - 0xC0) (SMap.get (fun _ => 0) s.ladder.slices (unit - 0xC0)))
    else none
  else if line = 0x20 ∨ line = 0x21 then
    let a := s.fld R.DBG_INJADDR_ADDR
    if unit ≠ 0 then none
    else if isDram (64 * a) then some { s with ecc := SMap.set (fun _ => 0) s.ecc a (line - 0x1F) } else some s
  else none

/-- A write of DBG.INJ (R785). -/
def State.writeInj (s : State) (m : Master) (v : Nat) : Wrote :=
  if m ≠ .dbg ∨ s.dbgAllowed 8 = false then (s, true) else
  match (s.satInc R.DBG_INJCNT_COUNT).inject (v % 256) (v / 256 % 256) with
  | some t => (t, false)
  | none => (s, true)

/-! ### Any register -/

/-- What a write of the register at `base` does: `v` holds the value, `bits` the bits it reaches (R23). -/
def State.writeReg (s : State) (m : Master) (base : Nat) (fs : List FieldRow) (v bits : BitVec 64) : Wrote :=
  let x := v.toNat
  match pageOf base with
  | 0x00 =>
    if base = R.DEVICE_RESETCMD then s.resetCmd m x
    else if base = R.DEVICE_ACCERR then (if (v &&& bits).getLsbD 63 then s.setReg base 0 else s, false)
    else s.writeFields base fs v bits
  | 0x02 => if base = R.SAFEIO_RUN then s.writeRun m x else s.writeFields base fs v bits
  | 0x03 =>
    if base = R.WATCH_CFG then s.writeWm 16 (m == .fn 0) ((s.reg base &&& ~~~bits) ||| (v &&& bits)).toNat
    else if base = R.WATCH_SVC then (if m = .fn 0 then (s.service 16 (x % 2 ^ 32), false) else (s, true))
    else s.writeFields base fs v bits
  | 0x04 =>
    if base = R.SUNDIAL_SNAP then (s.takeSnap x, false)
    else if R.SUNDIAL_TPO_CTRL 0 ≤ base then
      let k := (base - R.SUNDIAL_TPO_CTRL 0) / 0x20
      if !tpoMaster m then (s, true)
      else if base = R.SUNDIAL_TPO_CTRL k then (s.writeTpo k x, false)
      else if s.flag (R.SUNDIAL_TPO_CTRL_ARM k) then (s, false)
      else s.writeFields base fs v bits
    else s.writeFields base fs v bits
  | 0x09 =>
    let r := s.writeFields base fs v bits
    ((List.range 12).foldl (fun s k => if base = R.TAP_T_CFG k ∧ !s.flag (R.TAP_T_CFG_EN k) then s.idleTap k else s) r.1, r.2)
  | 0x08 =>
    if R.CVU_U_CFG 0 ≤ base then
      s.writeCvu ((base - R.CVU_U_CFG 0) / 0x80) ((base - R.CVU_U_CFG 0) % 0x80) base fs v bits
    else s.writeFields base fs v bits
  | 0x0C => if 0xC1000 ≤ base then (s.writeBlock base fs v bits, false) else s.writeFields base fs v bits
  | 0x12 =>
    if base = R.DBG_CTRL then (s.writeDbgCtrl x, false)
    else if base = R.DBG_INJ then s.writeInj m x
    else if base = R.DBG_INJADDR ∧ (m ≠ .dbg ∨ s.dbgAllowed 8 = false) then (s, true)
    else s.writeFields base fs v bits
  | 0x13 =>
    if base = R.VERD_CNTCLR then (s.iter 4 (fun c s => if bit x c then s.clearClient c else s), false)
    else s.writeFields base fs v bits
  | p =>
    if 0x20 ≤ p ∧ p < 0x30 then s.writeCore m (p - 0x20) base fs v bits else s.writeFields base fs v bits

/-- A write of a register in TRIPPED: it clears W1C bits of the DEVICE, SAFETY and WATCH pages, and otherwise is discarded and
recorded (R103). -/
def State.writeTripped (s : State) (m : Master) (base : Nat) (fs : List FieldRow) (v bits : BitVec 64) : Wrote :=
  if (pageOf base = 0 ∨ pageOf base = 1 ∨ pageOf base = 3) ∧ hasW1c fs bits = true then s.writeReg m base fs v bits
  else (s, true)

/-- A write that reaches a register, with what it discards recorded (R20, R103). -/
def State.takeWrite (s : State) (m : Master) (off base : Nat) (fs : List FieldRow) (v bits : BitVec 64) : State :=
  let r := if s.st = stTRIPPED then s.writeTripped m base fs v bits else s.writeReg m base fs v bits
  if r.2 then r.1.discard m off else r.1

/-- The low half staged by a master's write, if there is one (R23). -/
def Halves.stage (h : Halves) (m : Master) (off : Nat) : Option (BitVec 32) :=
  (h.staged.find? (fun x => x.1 == m && x.2.1 == off)).map (·.2.2)

/-- A low half staged, or dropped. -/
def Halves.setStage (h : Halves) (m : Master) (off : Nat) (v : Option (BitVec 32)) : Halves :=
  let l := h.staged.filter (fun x => !(x.1 == m && x.2.1 == off))
  { h with staged := match v with
    | some v => l ++ [(m, off, v)]
    | none => l }

/-- A write of an allowed offset (R22, R23, R786): of a register whole, or of a half of one of 64 bits. DESIGN CHOICE: a discarded 64-bit
write made as two halves records the register's address, a high half with no low half staged its own (R20, log entry 160). -/
def State.regWrite (s : State) (m : Master) (off size v : Nat) : State :=
  match regAt off with
  | none => s
  | some (r, b) =>
    let base := off - b
    let x := BitVec.ofNat 64 v
    let low : BitVec 64 := 0xFFFFFFFF
    if !r.wide then
      if size = 4 ∧ b = 0 then s.takeWrite m off base r.fields (x &&& low) low else s.discard m off
    else if size = 8 ∧ b = 0 then s.takeWrite m off base r.fields x (BitVec.allOnes 64)
    else if size = 4 ∧ b = 0 then { s with halves := s.halves.setStage m base (some (BitVec.ofNat 32 v)) }
    else if size = 4 ∧ b = 4 then
      let hi := BitVec.ofNat 64 (v % 2 ^ 32 * 2 ^ 32)
      match s.halves.stage m base with
      | some l =>
        { s with halves := s.halves.setStage m base none }.takeWrite m base base r.fields
          (hi ||| l.zeroExtend 64) (BitVec.allOnes 64)
      | none => s.takeWrite m off base r.fields hi (~~~low)
    else s.discard m off

/-- A write of the control window: the state after it and its status (R5, R22, R218, R662, R721, R780). -/
def State.ctlWrite (s : State) (m : Master) (off size v : Nat) : State × MStat :=
  match s.writeGate m off with
  | .fence => (s, .fence)
  | .gone => (s, .addrDecode)
  | .ok => if s.absent off then (s, .ok) else (s.regWrite m off size v, .ok)

/-- The state after a write of the control window. -/
def State.put (s : State) (m : Master) (off size v : Nat) : State := (s.ctlWrite m off size v).1

/-- A write of a 64-bit register, whole or in a half (R23). -/
def State.putWide (s : State) (m : Master) (off : Nat) : Wr → State
  | .whole v => s.put m off 8 v.toNat
  | .low v => s.put m off 4 v.toNat
  | .high v => s.put m (off + 4) 4 v.toNat

/-! ### The commands -/

/-- REGISTER_WRITE (R19): a write of 2^n bytes at an offset of the window. -/
def execRegisterWrite (m : Master) (off : BitVec 22) (n : Fin 4) (v : Word) (s : State) : Step :=
  .next (s.put m off.toNat (2 ^ n.val) (v.toNat % 256 ^ 2 ^ n.val))

/-- The word of RESETCMD (R135). -/
def resetWordOf (key : BitVec 16) (kind core : Nat) : Nat := key.toNat * 2 ^ 16 + kind * 256 + core

/-- CORE_RESTART_CMD (R135, R136). -/
def execCoreRestartCmd (m : Master) (key : BitVec 16) (c : CoreId) (s : State) : Step :=
  .next (s.put m R.DEVICE_RESETCMD 4 (resetWordOf key 1 c))

/-- WARM_RESTART_CMD (R108, R130, R135). -/
def execWarmRestartCmd (m : Master) (key : BitVec 16) (s : State) : Step :=
  .next (s.put m R.DEVICE_RESETCMD 4 (resetWordOf key 2 0))

/-- PORT_A_RESET_CMD (R135, R726). -/
def execPortAResetCmd (m : Master) (key : BitVec 16) (s : State) : Step :=
  .next (s.put m R.DEVICE_RESETCMD 4 (resetWordOf key 3 0))

/-- PORT_B_RESET_CMD (R135, R726). -/
def execPortBResetCmd (m : Master) (key : BitVec 16) (s : State) : Step :=
  .next (s.put m R.DEVICE_RESETCMD 4 (resetWordOf key 4 0))

/-- PAIRSTAT_FORCE (R377, R379). -/
def execPairstatForce (m : Master) (c : CoreId) (v : BitVec 32) (s : State) : Step :=
  .next (s.put m (R.CORE_PAIRSTAT c) 4 v.toNat)

/-- CNTCLR (R448). -/
def execCntclr (m : Master) (v : BitVec 32) (s : State) : Step := .next (s.put m R.VERD_CNTCLR 4 v.toNat)

/-- RUN_WRITE (R597). -/
def execRunWrite (m : Master) (v : BitVec 32) (s : State) : Step := .next (s.put m R.SAFEIO_RUN 4 v.toNat)

/-- WATCH_SVC (R575). -/
def execWatchSvc (m : Master) (v : BitVec 32) (s : State) : Step := .next (s.put m R.WATCH_SVC 4 v.toNat)

/-- WMCFG_WRITE (R573, R574). -/
def execWmcfgWrite (m : Master) (c : CoreId) (w : Wr) (s : State) : Step := .next (s.putWide m (R.CORE_WMCFG c) w)

/-- WATCH_CFG_WRITE (R573, R574). -/
def execWatchCfgWrite (m : Master) (w : Wr) (s : State) : Step := .next (s.putWide m R.WATCH_CFG w)

/-- SNAP (R619). -/
def execSnap (m : Master) (v : BitVec 32) (s : State) : Step := .next (s.put m R.SUNDIAL_SNAP 4 v.toNat)

/-- TPO_ARM (R631): a write of TPOk.CTRL. -/
def execTpoArm (m : Master) (k : Fin 4) (v : BitVec 32) (s : State) : Step :=
  .next (s.put m (R.SUNDIAL_TPO_CTRL k) 4 v.toNat)

/-- SOBJ_HAND_WRITE (R486, R487). -/
def execSobjHandWrite (c : CoreId) (k : Fin 256) (v : BitVec 32) (s : State) : Step :=
  .next (s.put .dbg (R.CORE_SOBJ c k) 4 v.toNat)

/-- SOBJCFG_WRITE (R452, R454). -/
def execSobjcfgWrite (m : Master) (c : CoreId) (k : Fin 256) (w : Wr) (s : State) : Step :=
  .next (s.putWide m (R.CORE_SOBJCFG c k) w)

/-- VMAP_WRITE (R453). -/
def execVmapWrite (m : Master) (c : CoreId) (x : Fin 4) (i : Fin 1024) (v : BitVec 32) (s : State) : Step :=
  .next (s.put m (R.CORE_VMAP c x i) 4 v.toNat)

/-- MBOX_WRITE (R474). -/
def execMboxWrite (m : Master) (c : CoreId) (k : Fin 8) (w : Wr) (s : State) : Step := .next (s.putWide m (R.CORE_MBOX c k) w)

/-- CVU_START (R529). -/
def execCvuStart (m : Master) (u : Fin 32) (s : State) : Step := .next (s.put m (R.CVU_U_CMD u) 4 1)

/-- CVU_FINISH (R529, R535). -/
def execCvuFinish (m : Master) (u : Fin 32) (s : State) : Step := .next (s.put m (R.CVU_U_CMD u) 4 2)

/-- CVU_DATA_WRITE (R529). -/
def execCvuDataWrite (m : Master) (u : Fin 32) (v : BitVec 32) (s : State) : Step := .next (s.put m (R.CVU_U_DATA u) 4 v.toNat)

/-- CVU_VALUE_WRITE (R527). -/
def execCvuValueWrite (m : Master) (u : Fin 32) (w : Wr) (s : State) : Step := .next (s.putWide m (R.CVU_U_VALUE u) w)

/-- CVU_POSN_WRITE (R532, R534). -/
def execCvuPosnWrite (m : Master) (u : Fin 32) (w : Wr) (s : State) : Step := .next (s.putWide m (R.CVU_U_POSN u) w)

/-- CVU_EXPECT_WRITE (R535). -/
def execCvuExpectWrite (m : Master) (u : Fin 32) (w : Wr) (s : State) : Step := .next (s.putWide m (R.CVU_U_EXPECT u) w)

/-- CVU_OWNER_WRITE (R534): a write of CFG, in which OWNER lies. -/
def execCvuOwnerWrite (m : Master) (u : Fin 32) (v : BitVec 32) (s : State) : Step := .next (s.put m (R.CVU_U_CFG u) 4 v.toNat)

/-- CVU_ALIVE_COUNT_WRITE (R538). -/
def execCvuAliveCountWrite (m : Master) (u : Fin 32) (w : Wr) (s : State) : Step := .next (s.putWide m (R.CVU_U_ALIVE u) w)

/-- DEBUG_ATTACH (R783): a write of DBG.CTRL. -/
def execDebugAttach (m : Master) (v : BitVec 32) (s : State) : Step :=
  let s := s.put m R.DBG_CTRL 4 v.toNat
  .next (if m == .dbg then s.setPad 20 .active else s)

/-- FAULT_INJECTION (R785): a write of DBG.INJ. -/
def execFaultInjection (m : Master) (line unit : BitVec 8) (s : State) : Step :=
  .next (s.put m R.DBG_INJ 4 (unit.toNat * 256 + line.toNat))

/-- DEBUG_HALT (R780, R782). -/
def execDebugHalt (c : CoreId) (s : State) : Step :=
  .next (if s.dbgAllowed 5 && s.hasCore c then s.debugHalt c else s)

/-- DEBUG_STEP (R780): a halted core runs one instruction. -/
def execDebugStep (c : CoreId) (s : State) : Step :=
  .next (if s.dbgAllowed 5 && (s.core c).dbgHalt then s.modCore c (fun k => { k with step := true }) else s)

/-- DEBUG_RESUME (R780). -/
def execDebugResume (c : CoreId) (s : State) : Step :=
  .next (if s.dbgAllowed 5 && (s.core c).dbgHalt then
    (s.modCore c (fun k => { k with dbgHalt := false, step := false })).fldBitClr R.DBG_STATUS_HALTED c else s)

/-! ### Requests over Nimlink -/

/-- A read or write of memory for another device, as one access (R662); a poisoned scratchpad is a fault of its core (R182). -/
def State.remoteMem (s : State) (q : RemoteReq) (pa : Nat) : State × MStat × List Byte :=
  let n := if q.write then q.data.length else q.len
  if n = 0 then (s, .ok, []) else
  let r := s.checkMem .nim q.cls q.write pa
  if r.2 ≠ .ok then (if r.2 = .poison then r.1.poisonFault .nim pa else r.1, r.2, [])
  else if q.write then (r.1.putMem pa q.data, .ok, [])
  else (r.1, .ok, r.1.getMem pa n)

/-- A request that reaches this device, served: the state, the status and the bytes of the answer (R160, R162, R456, R662,
R663, R675). For one of another tenant's device BELL.XLOG has no KIND, so the fields that name no sending device are
free (log entry 36). -/
def State.serveRemote (s : State) (q : RemoteReq) : State × MStat × List Byte :=
  if q.epoch.toNat ≠ s.fld R.DEVICE_STATE_DEV_EPOCH then (s, .epochChanged, [])
  else if !q.tenant then
    let x := s.draw
    (x.2.xlog true q.dev (x.1 % 16) (x.1 / 16 % 4) (x.1 / 64 % 16) (x.1 / 1024 % 4) (x.1 / 4096 % 256)
      (x.1 / 2 ^ 20 % 2 ^ 16), .fence, [])
  else match viewLocal q.off.toNat with
    | none => (s, .addrDecode, [])
    | some l =>
      match locLocal s l with
      | .mem pa => s.remoteMem q pa
      | .ctl off =>
        if q.write then (s, .fence, [])
        else
          let r := s.ctlRead .nim off q.len
          (r.1, r.2.1, if r.2.1 = .ok then leBytes q.len r.2.2 else [])
      | _ => (s, .addrDecode, [])

/-- REMOTE_REQUEST (R662, R663, R672, R675): served while Nimlink runs and the sender is a device of the map. A device that has
tripped serves none, and a request to an encrypted region without its key waits (R173). -/
def execRemoteRequest (q : RemoteReq) (s : State) : Step :=
  .next (if !s.nimOn || s.st == stTRIPPED || !s.flag (R.NIM_MEMBER_STATE_PRESENT q.dev) then s else
    let waits := match viewLocal q.off.toNat with
      | some l => (match locLocal s l with
        | .mem pa => s.keyWait pa
        | _ => false)
      | none => false
    if waits && q.tenant && q.epoch.toNat == s.fld R.DEVICE_STATE_DEV_EPOCH then s else
    let r := s.serveRemote q
    { r.1 with nim := { r.1.nim with reply := some (r.2.1, r.2.2) } })

end Sys2Proof.Machine
end

