-- ==== Sys2Proof/Machine/LoadStore.lean ====
section
/-! DEFINITION. Class 2 of the Steward: loads, posted stores and the data cache (R155, R156, R191–R204, R216–R219, R226–R230). -/
namespace Sys2Proof.Machine

/-! ### The data cache (R155, R156) -/

/-- Whether the data cache holds reads of an address: DRAM and Pond SRAM. -/
def cacheable (pa : Nat) : Bool := isDram pa || 0x1004000000 ≤ pa

/-- What the data cache may hold of the line of an address. -/
def Core.cached (k : Core) (pa : Nat) : Option (List Byte) := (k.dcache.find? (·.1 == pa / 64)).map (·.2)

/-- The data cache with a line in place of what it held of it. -/
def Core.fillLine (k : Core) (pa : Nat) (data : List Byte) : Core :=
  { k with dcache := (pa / 64, data) :: k.dcache.filter (·.1 ≠ pa / 64) }

/-- The lines of the data cache in the set of an address: 128 sets of 4 ways of 64 bytes (R148, R155). -/
def Core.waySet (k : Core) (pa : Nat) : List Nat := (k.dcache.map (·.1)).filter (fun l => l % 128 == pa / 64 % 128)

/-- A line filled into the data cache of core `c` (R155). In a full set it takes a way whose choice nothing gives (log entry
39). -/
def State.fillWay (s : State) (c pa : Nat) (data : List Byte) : State :=
  let k := s.core c
  let set := (k.waySet pa).filter (· ≠ pa / 64)
  if set.length < 4 then s.modCore c (fun k => k.fillLine pa data) else
  let q := s.draw
  let out := set.getD (q.1 % 4) 0
  q.2.modCore c (fun k => { k with dcache := k.dcache.filter (·.1 ≠ out) }.fillLine pa data)

/-- A store writes through the line it hits (R155). -/
def Core.writeLine (k : Core) (pa : Nat) (data : List Byte) : Core :=
  match k.cached pa with
  | some l => k.fillLine pa (l.take (pa % 64) ++ data ++ l.drop (pa % 64 + data.length))
  | none => k

/-- The data cache without the lines that overlap `n` bytes from an address (R226). -/
def Core.dropLines (k : Core) (a n : Nat) : Core :=
  { k with dcache := k.dcache.filter (fun l => !(0 < n && 64 * l.1 < a + n && a < 64 * l.1 + 64)) }

/-! ### Loads -/

/-- Whether an address lies within posted stores of the Steward still in flight, which a load never passes (R194). -/
def State.storesOver (s : State) (c a n : Nat) : Bool :=
  let at_ := fun (x : Nat) => match s.loc (some c) x with
    | .mem pa => some pa
    | _ => none
  (s.inFlight c).any (fun o => o.write && (match at_ o.addr, at_ a with
    | some p, some q => p < q + n && q < p + o.data.length
    | none, none => o.addr < a + n && a < o.addr + o.data.length
    | _, _ => false))

/-- The line of an address as memory has it, with the Steward's own stores still in flight over it, which its later loads never
pass (R193, R194). -/
def State.lineOf (s : State) (c pa : Nat) : List Byte :=
  let b := pa / 64 * 64
  (s.inFlight c).foldl (fun l o => match s.loc (some c) o.addr with
    | .mem p => if o.write && b ≤ p && p < b + 64 then l.take (p - b) ++ o.data ++ l.drop (p - b + o.data.length) else l
    | _ => l) (s.getMem b 64)

/-- A load from memory: its status and bytes. `cached` says whether the data cache serves it (R155). A line that the cache holds with the bytes memory has is a hit; one that differs,
or whose memory now answers otherwise, gives the old bytes or the new, for nothing says which lines stay (R156, log
entry 39). -/
def State.loadMem (s : State) (c pa n : Nat) (cached : Bool) : State × MStat × List Byte :=
  let k := s.core c
  let fill := fun (s : State) =>
    let r := s.checkMem (.core c 5 k.priv) k.cls false pa
    if r.2 ≠ .ok then (r.1, r.2, [])
    else (if cached then r.1.fillWay c pa (r.1.lineOf c pa) else r.1, MStat.ok, r.1.getMem pa n)
  match (if cached then k.cached pa else none) with
  | none => fill s
  | some l =>
    let old := (l.drop (pa % 64)).take n
    if old = s.getMem pa n ∧ s.fenceOk k.cls false pa = true ∧ (isDram pa = true → s.dramStat pa = .ok) ∧
        SMap.get (fun _ => 0) s.ecc (pa / 64) = 0 ∧ s.poison.contains (pa / 64) = false then (s, .ok, old)
    else
      let q := s.draw
      if q.1 % 2 = 0 then (q.2, .ok, old) else fill q.2

/-- A load that waits for a target outside the device: its transaction holds a tag until the reply (R201, R227). -/
def State.loadAway (s : State) (c a len dst kind : Nat) : SOut :=
  let k := s.core c
  let l := s.loc (some c) a
  let tag := s.fab.nextId
  .stay ((s.post ⟨0, c, 5, false, a, [], s.pathOf l, k.cls, k.priv, dst, kind, s.issueEpoch l, false⟩).modCore c
    (fun k => { k with stw := .memWait tag len }))

/-- A load ends at once: its register is written, or MEM is raised (R226, R227). -/
def endNow (c a dst kind : Nat) (r : State × MStat × List Byte) : SOut :=
  if r.2.1 = .ok then .done (r.1.modCore c (fun k => k.setS dst (loadValue kind r.2.2)))
  else .exc r.1 (.mem r.2.1 a)

/-- As `endNow`, from memory: POISON from SRAM is also a checker fault, of the scratchpad's owner or of this core (R182, R183), and
a restart of this core leaves no exception to take. -/
def endMem (c a dst kind pa : Nat) (r : State × MStat × List Byte) : SOut :=
  if r.2.1 ≠ .poison ∨ isDram pa then endNow c a dst kind r
  else
    let t := r.1.poisonFault (.core c 5 (r.1.core c).priv) pa
    if (t.core c).stw = .held then .stay t else endNow c a dst kind (t, r.2)

/-- Whether the data cache serves an address as the program names it: DRAM and Pond SRAM, and no Nimlink view (R155). -/
def cachedAt (a pa : Nat) : Bool := cacheable pa && a < 0x4000000000

/-- Whether a target outside the device can be reached now (R139, R675). -/
def State.awayUp (s : State) : Loc → Bool
  | .pcie _ => s.portUp s.obPort
  | .nim d _ => s.nimReach d
  | _ => true

/-- A load of `n` bytes of op `kind` (R216, R217, R226, R227): DALIGN, ACCESS and MEM in this order (R249). -/
def execLoadN (kind n : Nat) (c : CoreId) (f : IFields) (s : State) : Step :=
  .next (s.runInstr c f .u false f.immOk (fun s =>
    let k := s.core c
    let av := k.a f + f.memOff n
    let a := av.toNat
    if a % n ≠ 0 then .exc s (.sync 0x05 av)
    else if !s.dataOk k.priv k.wins false a n then .exc s (.sync 0x06 av)
    else if s.storesOver c a n then .stay s
    else match s.loc (some c) a with
      | .mem pa => if s.keyWait pa then .stay s else endMem c a f.dst.toNat kind pa (s.loadMem c pa n (cachedAt a pa))
      | .ctl off =>
        let r := s.ctlRead (.core c 5 k.priv) off n
        endNow c a f.dst.toNat kind (r.1, r.2.1, leBytes n r.2.2)
      | .none => .exc s (.mem .addrDecode a)
      | l =>
        if !s.awayUp l then .exc s (.mem .epochChanged a)
        else if !s.tagFree c 5 k.cls || !s.readRoom c l then .stay s
        else s.loadAway c a f.len f.dst.toNat kind))

/-- LDB (R226). -/
def execLdb (c : CoreId) (f : IFields) (s : State) : Step := execLoadN 0 1 c f s
/-- LDBU (R226). -/
def execLdbu (c : CoreId) (f : IFields) (s : State) : Step := execLoadN 1 1 c f s
/-- LDH (R226). -/
def execLdh (c : CoreId) (f : IFields) (s : State) : Step := execLoadN 2 2 c f s
/-- LDHU (R226). -/
def execLdhu (c : CoreId) (f : IFields) (s : State) : Step := execLoadN 3 2 c f s
/-- LDW (R226). -/
def execLdw (c : CoreId) (f : IFields) (s : State) : Step := execLoadN 4 4 c f s
/-- LDWU (R226). -/
def execLdwu (c : CoreId) (f : IFields) (s : State) : Step := execLoadN 5 4 c f s
/-- LDD (R226). -/
def execLdd (c : CoreId) (f : IFields) (s : State) : Step := execLoadN 6 8 c f s

/-! ### Stores -/

/-- A store outside the control window (R202, R203, R228): posted, stalled for a tag, or ended at once with EPOCH_CHANGED when
its target cannot be reached (R139, R675). The data cache is written through. -/
def State.issueStore (s : State) (c a len : Nat) (data : List Byte) : SOut :=
  let k := s.core c
  let l := s.loc (some c) a
  let s := match l with
    | .mem pa => s.modCore c (fun k => k.writeLine pa data)
    | _ => s
  if !s.awayUp l then
    .done (s.modCore c (fun k => { k with pend := { k.pend with
      storeAsync := k.pend.storeAsync ++ [(MStat.epochChanged, a, k.priv)] } }))
  else if !s.tagFree c 5 k.cls then .stay (s.modCore c (fun k => { k with stw := .tagStall ⟨a, data⟩ len }))
  else .done (s.postStore c ⟨a, data⟩)

/-- A store of `n` bytes (R216–R218, R226, R228, R229). -/
def execStoreN (n : Nat) (c : CoreId) (f : IFields) (s : State) : Step :=
  .next (s.runInstr c f .u false f.immOk (fun s =>
    let k := s.core c
    let av := k.a f + f.memOff n
    let a := av.toNat
    let v := (k.d f).toNat % 256 ^ n
    if a % n ≠ 0 then .exc s (.sync 0x05 av)
    else if !s.dataOk k.priv k.wins true a n then .exc s (.sync 0x06 av)
    else match s.loc (some c) a with
      | .ctl off =>
        let r := s.ctlWrite (.core c 5 k.priv) off n v
        if r.2 = .ok then .done r.1 else .exc r.1 (.mem r.2 a)
      | _ => s.issueStore c a f.len (leBytes n v)))

/-- STB (R226). -/
def execStb (c : CoreId) (f : IFields) (s : State) : Step := execStoreN 1 c f s
/-- STH (R226). -/
def execSth (c : CoreId) (f : IFields) (s : State) : Step := execStoreN 2 c f s
/-- STW (R226). -/
def execStw (c : CoreId) (f : IFields) (s : State) : Step := execStoreN 4 c f s
/-- STD (R226). -/
def execStd (c : CoreId) (f : IFields) (s : State) : Step := execStoreN 8 c f s

/-! ### Cache instructions -/

/-- DCINV (R226, R230): every line that overlaps a to a + b − 1 is dropped. -/
def execDcinv (c : CoreId) (f : IFields) (s : State) : Step :=
  .next (s.runInstr c f .u true (!f.hasExt && f.dst == 0 && f.mod == 0) (fun s =>
    .done (s.modCore c (fun k => k.dropLines (k.a f).toNat (k.b f).toNat))))

/-- DCINVA (R226, R230): the whole data cache is dropped. -/
def execDcinva (c : CoreId) (f : IFields) (s : State) : Step :=
  .next (s.runInstr c f .u true (!f.hasExt && f.dst == 0 && f.srcA == 0 && f.srcB == 0) (fun s =>
    .done (s.modCore c (fun k => { k with dcache := [] }))))

/-- PREF (R226): the line of a + off is filled when it is cacheable and readable; errors are dropped. A line the cache may
already hold is read again or not (log entry 39); the offset counts bytes (log entry 37). -/
def execPref (c : CoreId) (f : IFields) (s : State) : Step :=
  .next (s.runInstr c f .u false f.immOk (fun s =>
    let k := s.core c
    let a := (k.a f + f.memOff 1).toNat
    match s.loc (some c) a with
    | .mem pa =>
      if !cachedAt a pa || !s.dataOk k.priv k.wins false a 1 || s.keyWait pa then .done s else
      let q := if (k.cached pa).isSome then s.draw else (1, s)
      if q.1 % 2 = 0 then .done q.2 else
      let r := q.2.checkMem (.core c 5 k.priv) k.cls false pa
      .done (if r.2 = .ok then r.1.fillWay c pa (r.1.lineOf c pa) else r.1)
    | _ => .done s))

end Sys2Proof.Machine
end

