-- ==== Sys2Proof/Machine/EngineRun.lean ====
section
/-! DEFINITION. What every entry of an engine shares: its accesses and their checks, its configuration and register files,
how it starts, completes and raises an exception (R254, R287–R290, R324, R771). -/
namespace Sys2Proof.Machine

/-! ### Who runs, and how it ends -/

/-- An engine that runs an entry, with what the entry carries from its dispatch (R287). -/
structure Eng where
  c : CoreId
  e : UnitId
  env : DispEnv
deriving DecidableEq, Repr

/-- How the run of an entry comes out: it waits for a key slot (R173), a tag (R203) or its reads outside the device, with nothing
else done; an exception of R289 with its address; or done. -/
inductive EOut where
  | wait (s : State)
  | stop (s : State) (code addr : Nat)
  | done (s : State)
deriving DecidableEq, Repr

/-- The engine exceptions that are not memory statuses (R289). -/
def exOPERAND : Nat := 0x10
def exDESC : Nat := 0x11
def exFORMAT : Nat := 0x12
def exRANGE : Nat := 0x13
def exOVERFLOW : Nat := 0x14
def exENTROPY : Nat := 0x15
def exALIGN : Nat := 0x16
def exACCESS : Nat := 0x17
def exCHAIN : Nat := 0x18

/-- The master of an engine's accesses. -/
def Eng.master (x : Eng) : Master := .core x.c x.e x.env.priv

/-! ### Accesses -/

/-- A range of bytes cut at the 64-byte blocks, as (address, length). -/
def pieces : Nat → Nat → Nat → List (Nat × Nat)
  | 0, _, _ => []
  | f + 1, a, n => if n = 0 then [] else
    let m := min n (64 - a % 64)
    (a, m) :: pieces f (a + m) (n - m)

/-- The pieces of a range. -/
def blocksOf (a n : Nat) : List (Nat × Nat) := pieces (n / 64 + 2) a n

/-- What R287 finds of the ranges an entry reads and writes before it does anything. -/
inductive EGate where
  | ok
  | wait
  | refused (a : Nat)
deriving DecidableEq, Repr

/-- Every range of an entry checked against the level and windows it carries (R287); an allowed one whose key slot is empty
makes the entry wait (R173). -/
def State.engGate (s : State) (x : Eng) (rs ws : List (Nat × Nat)) : EGate :=
  let bad := fun (w : Bool) (r : Nat × Nat) => 0 < r.2 && !s.dataOk x.env.priv x.env.wins w r.1 r.2
  match rs.find? (bad false), ws.find? (bad true) with
  | some r, _ => .refused r.1
  | none, some r => .refused r.1
  | none, none =>
    if (rs ++ ws).any (fun r => (blocksOf r.1 r.2).any (fun p => match s.loc (some x.c) p.1 with
      | .mem pa => s.keyWait pa
      | _ => false)) then .wait else .ok

/-- `n` bytes of which nothing is known (log entry 38). -/
def State.freeBytes (s : State) (n : Nat) : State × List Byte :=
  ({ s with freeCtr := s.freeCtr + 1 }, (List.range n).map (Config.freeByte (s.freeCtr + 1)))

/-- The status with a code. -/
def mstOf (n : Nat) : MStat :=
  match n with
  | 1 => .addrDecode
  | 2 => .fence
  | 3 => .poison
  | 4 => .epochChanged
  | _ => .ok

/-- Whether a place lies outside the device. -/
def Loc.away : Loc → Bool
  | .pcie _ => true
  | .nim _ _ => true
  | _ => false

/-- What has come back of the reads outside the device of the entry that an engine runs. -/
def State.gotBack (s : State) (x : Eng) : List (Nat × MStat × List Byte) :=
  ((SMap.get (fun _ => none) (s.core x.c).away x.e).map AwayRd.got).getD []

/-- The pieces of an entry's ranges that lie outside the device, can be reached, and have not come back. -/
def State.awayNeed (s : State) (x : Eng) (rs : List (Nat × Nat)) : List (Nat × Nat) :=
  let got := s.gotBack x
  (rs.flatMap (fun r => blocksOf r.1 r.2)).filter (fun p =>
    let l := s.loc (some x.c) p.1
    l.away && s.awayUp l && !got.any (·.1 == p.1))

/-- The reads of an entry outside the device posted, each when it finds a tag and room (R201–R204). -/
def State.postReads (s : State) (x : Eng) (need : List (Nat × Nat)) : State :=
  let first := ((SMap.get (fun _ => none) (s.core x.c).away x.e).map AwayRd.first).getD s.fab.nextId
  let s := s.modCore x.c (fun k => if (SMap.get (fun _ => none) k.away x.e).isSome then k else
    { k with away := SMap.set (fun _ => none) k.away x.e (some ⟨first, []⟩) })
  need.foldl (fun s p =>
    let l := s.loc (some x.c) p.1
    let out := s.fab.outst.any (fun o => !o.write && o.core == x.c.val && o.unit == x.e.val && o.addr == p.1 && o.kind == first)
    if out || !s.tagFree x.c x.e x.env.cls || !s.readRoom x.c l then s
    else s.post ⟨0, x.c, x.e, false, p.1, [], s.pathOf l, x.env.cls, x.env.priv, 0, first, s.issueEpoch l, false⟩) s

/-- Whether the writes of an entry outside the device find a tag (R203). -/
def State.awayTag (s : State) (x : Eng) (ws : List (Nat × Nat)) : Bool :=
  s.tagFree x.c x.e x.env.cls || !ws.any (fun r => 0 < r.2 && (s.loc (some x.c) r.1).away)

/-- The status of an access that leaves the device: EPOCH_CHANGED when its target cannot be reached, else one of the far
side's choosing (R139, R201, R675; log entry 38). -/
def State.awayStatus (s : State) (l : Loc) : State × MStat :=
  if !s.awayUp l then (s, .epochChanged) else
  let q := s.draw
  (q.2, mstOf (q.1 % 5))

/-- A read within one 64-byte block. -/
def State.pieceRead (s : State) (x : Eng) (a n : Nat) : State × MStat × List Byte :=
  match s.loc (some x.c) a with
  | .mem pa =>
    let r := s.checkMem x.master x.env.cls false pa
    (r.1, r.2, r.1.getMem pa n)
  | .ctl off =>
    let r := s.ctlRead x.master off n
    (r.1, r.2.1, leBytes n r.2.2)
  | .none => (s, .addrDecode, [])
  | l =>
    match (s.gotBack x).find? (·.1 == a) with
    | some g => (s, g.2.1, (g.2.2 ++ List.replicate n 0).take n)
    | none =>
      let r := s.awayStatus l
      let b := r.1.freeBytes n
      (b.1, r.2, b.2)

/-- The status of a write within one 64-byte block, before any byte is written. -/
def State.pieceCheck (s : State) (x : Eng) (a : Nat) : State × MStat :=
  match s.loc (some x.c) a with
  | .mem pa => s.checkMem x.master x.env.cls true pa
  | .ctl off => (s, match s.writeGate x.master off with
      | .ok => .ok
      | .fence => .fence
      | .gone => .addrDecode)
  | .none => (s, .addrDecode)
  | l => s.awayStatus l

/-- The bytes written within one 64-byte block. What leaves the device changes nothing in it. -/
def State.pieceWrite (s : State) (x : Eng) (a : Nat) (data : List Byte) : State :=
  match s.loc (some x.c) a with
  | .mem pa => s.putMem pa data
  | .ctl off => (s.ctlWrite x.master off data.length (leNat data)).1
  | _ => s

/-- The bytes written within one block by a run that fails: all old or all final (R199, R290). -/
def State.pieceSome (s : State) (x : Eng) (a : Nat) (data : List Byte) : State :=
  match s.loc (some x.c) a with
  | .mem pa =>
    let q := s.draw
    if q.1 % 2 = 0 then q.2 else q.2.putMem pa data
  | .ctl off =>
    let q := s.draw
    if q.1 % 2 = 0 then q.2 else (q.2.ctlWrite x.master off data.length (leNat data)).1
  | _ => s

/-- A run in progress: the state, and the first error with its address. -/
structure Run where
  s : State
  err : Option (Nat × Nat)
deriving DecidableEq, Repr

/-- A run with an error, unless one came before. -/
def Run.fail (r : Run) (code addr : Nat) : Run := if r.err.isSome then r else { r with err := some (code, addr) }

/-- Bytes read; after the first error nothing is known of what follows. -/
def Run.read (r : Run) (x : Eng) (a n : Nat) : Run × List Byte :=
  (blocksOf a n).foldl (fun g p =>
    if g.1.err.isSome then
      let b := g.1.s.freeBytes p.2
      (⟨b.1, g.1.err⟩, g.2 ++ b.2)
    else
      let q := g.1.s.pieceRead x p.1 p.2
      if q.2.1 = .ok then (⟨q.1, none⟩, g.2 ++ q.2.2)
      else
        let b := q.1.freeBytes p.2
        (⟨b.1, some (mstCode q.2.1, p.1)⟩, g.2 ++ b.2)) (r, [])

/-- Several ranges read in order. -/
def Run.reads (r : Run) (x : Eng) (l : List (Nat × Nat)) : Run × List (List Byte) :=
  l.foldl (fun g p =>
    let q := g.1.read x p.1 p.2
    (q.1, g.2 ++ [q.2])) (r, [])

/-- Writes cut at the 64-byte blocks. -/
def writesOf (l : List (Nat × List Byte)) : List (Nat × List Byte) :=
  l.flatMap (fun w => (blocksOf w.1 w.2.length).map (fun p => (p.1, (w.2.drop (p.1 - w.1)).take p.2)))

/-- The writes of a run, in order: all of them when none fails; else each byte old or final (R290). -/
def Run.write (r : Run) (x : Eng) (l : List (Nat × List Byte)) : Run :=
  let ws := writesOf l
  let q := ws.foldl (fun (g : Run × List Bool) w =>
    let t := g.1.s.pieceCheck x w.1
    let g' : Run := { g.1 with s := t.1 }
    if t.2 = .ok then (g', g.2 ++ [true]) else (g'.fail (mstCode t.2) w.1, g.2 ++ [false])) (r, [])
  if q.1.err.isNone then { q.1 with s := ws.foldl (fun s w => s.pieceWrite x w.1 w.2) q.1.s }
  else { q.1 with s := (ws.zip q.2).foldl (fun s w => if w.2 then s.pieceSome x w.1.1 w.1.2 else s) q.1.s }

/-- A register of `n` bytes that a run writes: the new value, or each byte old or new when the run fails (R290). -/
def Run.reg (r : Run) (n old new : Nat) : Run × Nat :=
  if r.err.isNone then (r, new) else
  let g := r.s.freeCtr + 1
  ({ r with s := { r.s with freeCtr := g } },
   leNat ((List.range n).map (fun i => BitVec.ofNat 8
     ((if (Config.freeByte g i).getLsbD 0 then new else old) / 256 ^ i))))

/-- The end of a run. -/
def Run.out (r : Run) : EOut :=
  match r.err with
  | none => .done r.s
  | some (code, addr) => .stop r.s code addr

/-- An entry refused before it does anything by the first of its checks that fails, a format before the fields whose limits depend on
it (R266, R290; log entry 49), then by the accesses it names (R287), then the run. -/
def State.guarded (s : State) (x : Eng) (checks : List (Bool × Nat × Nat)) (rs ws : List (Nat × Nat)) (run : Run → EOut) :
    EOut :=
  match checks.find? (fun c => !c.1) with
  | some (_, code, addr) => .stop s code addr
  | none =>
    match s.engGate x rs ws with
    | .refused a => .stop s exACCESS a
    | .wait => .wait s
    | .ok =>
      let need := s.awayNeed x rs
      if !need.isEmpty then .wait (s.postReads x need)
      else if !s.awayTag x ws then .wait s
      else run ⟨s, none⟩

/-! ### Registers of the engines -/

/-- A tile descriptor register as its 64 bytes, bit 0 first (R292, R298). -/
def Core.tReg (k : Core) (r : Nat) : Nat :=
  ((List.range 16).map (fun i => (SMap.get (fun _ => 0) k.t (16 * r + i)).toNat * 2 ^ (32 * i))).sum

/-- A core with one word of a tile descriptor written. -/
def Core.setTWord (k : Core) (r i v : Nat) : Core := { k with t := SMap.set (fun _ => 0) k.t (16 * r + i) (BitVec.ofNat 32 v) }

/-- A core with a tile descriptor register written. -/
def Core.setTReg (k : Core) (r v : Nat) : Core :=
  (List.range 16).foldl (fun k i => k.setTWord r i (v / 2 ^ (32 * i))) k

/-- A vector register. -/
def Core.vReg (k : Core) (r : Nat) : Nat := (SMap.get (fun _ => 0) k.v r).toNat

/-- A core with a vector register written. -/
def Core.setV (k : Core) (r v : Nat) : Core := { k with v := SMap.set (fun _ => 0) k.v r (BitVec.ofNat 2048 v) }

/-- A residue register as 32 lanes of 64 bits. -/
def Core.mReg (k : Core) (r : Nat) : Nat := (SMap.get (fun _ => 0) k.m r).toNat

/-- A core with a residue register written. -/
def Core.setM (k : Core) (r v : Nat) : Core := { k with m := SMap.set (fun _ => 0) k.m r (BitVec.ofNat 2048 v) }

/-- A Compare result register. -/
def Core.cReg (k : Core) (r : Nat) : CmpReg := SMap.get (fun _ => CmpReg.empty) k.cres r

/-- A core with a Compare result register written. -/
def Core.setC (k : Core) (r : Nat) (v : CmpReg) : Core := { k with cres := SMap.set (fun _ => CmpReg.empty) k.cres r v }

/-- Element `i` of `w` bits of a register or of packed bytes taken as a number (R266). -/
def elemAt (w x i : Nat) : Nat := x / 2 ^ (w * i) % 2 ^ w

/-- Elements of `w` bits packed from bit 0 upward. -/
def packElems (w : Nat) : List Nat → Nat
  | [] => 0
  | v :: t => v % 2 ^ w + 2 ^ w * packElems w t

/-- The elements of `w` bits of packed bytes. -/
def unpack (w n : Nat) (l : List Byte) : List Nat :=
  let x := leNat l
  (List.range n).map (elemAt w x)

/-! ### Starting, completing, halting -/

/-- The word of EERR (R221): address, status, op, class, entries behind, halted. -/
def eerrWord (op : EOp) (code addr behind : Nat) : Word :=
  w64 (addr % 2 ^ 40 * 2 ^ 24 + code * 2 ^ 16 + op.code * 2 ^ 10 + op.cls * 2 ^ 6 + min behind 15 * 2 + 1)

/-- The checker fault of an engine that receives POISON from SRAM (R182, R183). -/
def State.poisoned (s : State) (x : Eng) (code addr : Nat) : State :=
  if code ≠ 3 then s else
  match s.loc (some x.c) addr with
  | .mem pa => s.poisonFault x.master pa
  | _ => s

/-- The engine halts with the entry at the head of its queue, fills EERR and makes ENGINE pending (R254). -/
def State.engineHalt (s : State) (x : Eng) (op : EOp) (code addr : Nat) : State :=
  (s.modCore x.c (fun k =>
    { (k.wrCsr (0x38 + x.e.val) (eerrWord op code addr ((k.queue x.e).length - 1))) with
      pend := { k.pend with engines := setBit k.pend.engines x.e } })).poisoned x code addr

/-- The entry is complete and leaves the queue; an idle engine gives its credit back (R771, R784). -/
def State.engineDone (s : State) (x : Eng) (op : EOp) : State :=
  (s.modCore x.c (fun k =>
    let k := k.popQueue x.e
    if (k.queue x.e).isEmpty then k.giveBack x.e else k)).traceRec x.c 6 (op.cls * 64 + op.code)

/-- An engine that starts an entry: its domain is on (R769, R770), and it holds its credit or is withheld (R771, R773). -/
def State.engineStart (s : State) (x : Eng) : State :=
  let s := if x.e.val < 3 then s.setDom (5 * x.c + 1 + x.e) true else s
  if bit (s.core x.c).held x.e then s else s.askCredit x.c x.e x.env.cls

/-- The unit of an engine op. -/
def unitOf (op : EOp) : UnitId := Fin.ofNat 6 op.eng

/-- The engine of core `c` runs the entry at the head of its queue, which is an `op`: it starts, and `body` is its effect with
the captured fields and scalars a, b and s[dst] (R149, R254, R288, R290). With another head, halted or withheld it
does nothing. -/
def State.runEntry (s : State) (c : CoreId) (op : EOp) (body : State → Eng → IFields → Word → Word → Word → EOut) : State :=
  match (s.core c).queue op.eng with
  | .op o f a b d env :: _ =>
    if o ≠ op ∨ (s.core c).engineFree op.eng = false then s else
    let x : Eng := ⟨c, unitOf op, env⟩
    let t := s.engineStart x
    if bit (t.core c).withheld op.eng then t else
    match body t x f a b d with
    | .wait u => u
    | .done u => if (u.core c).queue op.eng = (s.core c).queue op.eng then u.engineDone x op else u
    | .stop u code addr => if (u.core c).queue op.eng = (s.core c).queue op.eng then u.engineHalt x op code addr else u
  | _ => s

end Sys2Proof.Machine
end

