-- ==== Sys2Proof/Machine/Matrix.lean ====
section
/-! DEFINITION. Matrices as the Tensor and Residue engines read them from memory: packed rows, the scale planes of MX formats,
and the unfolding of a convolution input (R270, R292, R296, R312, R313). -/
namespace Sys2Proof.Machine

/-- A matrix read from memory: its rows, each element as its bits with the scale of its block (127, a factor of 1, where the
format has no scale). -/
abbrev Mat := List (List (Nat × Nat))

/-- The bytes of one row of packed elements (R270). -/
def rowBytes (code cols : Nat) : Nat := (cols * fmtBits code + 7) / 8

/-- Where a matrix lies: format, base, stride, rows and columns. -/
structure Plane where
  fmt : Nat
  base : Nat
  stride : Nat
  rows : Nat
  cols : Nat
deriving DecidableEq, Repr

/-- The ranges of a matrix in memory: its rows, then its plane of scales (R270). -/
def Plane.ranges (p : Plane) : List (Nat × Nat) :=
  (List.range p.rows).map (fun i => (p.base + i * p.stride, rowBytes p.fmt p.cols)) ++
    (if fmtIsMx p.fmt then [(p.base + p.rows * p.stride, p.rows * ((p.cols + 31) / 32))] else [])

/-- The stride of a plane holds its packed row (R297). -/
def Plane.wide (p : Plane) : Bool := rowBytes p.fmt p.cols ≤ p.stride

/-- The base and stride of a plane are multiples of 4 (R297). -/
def Plane.aligned (p : Plane) : Bool := p.base % 4 == 0 && p.stride % 4 == 0

/-- A matrix read (R270). -/
def Run.plane (r : Run) (x : Eng) (p : Plane) : Run × Mat :=
  let q := r.reads x p.ranges
  let sc := if fmtIsMx p.fmt then leNat (q.2.getLastD []) else 0
  let nb := (p.cols + 31) / 32
  (q.1, (q.2.take p.rows).zipIdx.map (fun (w : List Byte × Nat) =>
    (unpack (fmtBits p.fmt) p.cols w.1).zipIdx.map (fun (v : Nat × Nat) =>
      (v.1, if fmtIsMx p.fmt then elemAt 8 sc (w.2 * nb + v.2 / 32) else 127))))

/-- The columns of a matrix of `n` columns. -/
def columns (n : Nat) (m : Mat) : Mat := (List.range n).map (fun j => m.map (fun r => r.getD j (0, 127)))

/-! ### Unfolding (R312, R313) -/

/-- An unfold descriptor (R312). -/
structure Unfold where
  h : Nat
  w : Nat
  cin : Nat
  kh : Nat
  kw : Nat
  sh : Nat
  sw : Nat
  dh : Nat
  dw : Nat
  top : Nat
  bottom : Nat
  left : Nat
  right : Nat
  padv : Nat
  rsv : Nat
deriving DecidableEq, Repr

/-- The fields of an unfold descriptor's 32 bytes (R312). -/
def Unfold.ofBytes (l : List Byte) : Unfold :=
  let b := fun i => leAt l i 1
  ⟨leAt l 0 2, leAt l 2 2, leAt l 4 2, b 6, b 7, b 8, b 9, b 10, b 11, b 12, b 13, b 14, b 15, leAt l 16 4, leAt l 20 12⟩

/-- Output rows and columns of an unfolding; 0 when there is none (R313). -/
def outDim (size pad0 pad1 k stride dil : Nat) : Nat :=
  let reach := dil * (k - 1) + 1
  if size + pad0 + pad1 < reach then 0 else (size + pad0 + pad1 - reach) / stride + 1

def Unfold.oh (u : Unfold) : Nat := outDim u.h u.top u.bottom u.kh u.sh u.dh
def Unfold.ow (u : Unfold) : Nat := outDim u.w u.left u.right u.kw u.sw u.dw

/-- The ranges of R312, with at least one output row and column (R313). -/
def Unfold.ok (u : Unfold) : Bool :=
  1 ≤ u.h && 1 ≤ u.w && 1 ≤ u.cin && 1 ≤ u.kh && 1 ≤ u.kw && 1 ≤ u.sh && 1 ≤ u.sw && 1 ≤ u.dh && 1 ≤ u.dw &&
    u.rsv == 0 && 1 ≤ u.oh && 1 ≤ u.ow

/-- The rows and columns of the unfolded matrix (R296, R310). -/
def Unfold.rows (u : Unfold) : Nat := u.oh * u.ow
def Unfold.cols (u : Unfold) : Nat := u.kh * u.kw * u.cin

/-- An input index, if it lies inside. -/
def inputIdx (o stride pad k dil size : Nat) : Option Nat :=
  let i := o * stride + k * dil
  if i < pad ∨ size ≤ i - pad then none else some (i - pad)

/-- The input indexes that an unfolding reads along one dimension. -/
def inputsRead (outs ks stride pad dil size : Nat) : List Nat :=
  (List.range size).filter (fun i => (List.range outs).any (fun o => (List.range ks).any (fun k =>
    inputIdx o stride pad k dil size == some i)))

/-- The input pixels that an unfolding reads, as (row, column). -/
def Unfold.pixels (u : Unfold) : List (Nat × Nat) :=
  (inputsRead u.oh u.kh u.sh u.top u.dh u.h).flatMap (fun h =>
    (inputsRead u.ow u.kw u.sw u.left u.dw u.w).map (fun w => (h, w)))

/-- The bytes of one pixel's channels, and of their scales in an MX format, as ranges. -/
def Unfold.pixelRanges (u : Unfold) (fmt base stride : Nat) (p : Nat × Nat) : List (Nat × Nat) :=
  let b := fmtBits fmt
  let c0 := p.2 * u.cin
  let lo := c0 * b / 8
  let sc := base + u.h * stride + p.1 * ((u.w * u.cin + 31) / 32)
  [(base + p.1 * stride + lo, ((c0 + u.cin) * b + 7) / 8 - lo)] ++
    (if fmtIsMx fmt then [(sc + c0 / 32, (c0 + u.cin - 1) / 32 - c0 / 32 + 1)] else [])

/-- The ranges that an unfolding reads. -/
def Unfold.ranges (u : Unfold) (fmt base stride : Nat) : List (Nat × Nat) :=
  u.pixels.flatMap (u.pixelRanges fmt base stride)

/-- The channels of one pixel from the bytes of its ranges. -/
def Unfold.channels (u : Unfold) (fmt : Nat) (p : Nat × Nat) (l : List (List Byte)) : List (Nat × Nat) :=
  let b := fmtBits fmt
  let c0 := p.2 * u.cin
  let x := leNat (l.headD []) / 2 ^ (c0 * b % 8)
  let sc := leNat (l.getLastD [])
  (List.range u.cin).map (fun c =>
    (elemAt b x c, if fmtIsMx fmt then elemAt 8 sc ((c0 + c) / 32 - c0 / 32) else 127))

/-- The unfolding read (R313): the pixels it needs, then each element from its pixel or PADV. -/
def Run.unfold (r : Run) (x : Eng) (u : Unfold) (fmt base stride : Nat) : Run × Mat :=
  let q := u.pixels.foldl (fun (g : Run × List ((Nat × Nat) × List (Nat × Nat))) p =>
    let t := g.1.reads x (u.pixelRanges fmt base stride p)
    (t.1, g.2 ++ [(p, u.channels fmt p t.2)])) (r, [])
  let pad := List.replicate u.cin (u.padv % 2 ^ fmtBits fmt, 127)
  let pixel := fun (oh ow kh kw : Nat) =>
    match inputIdx oh u.sh u.top kh u.dh u.h, inputIdx ow u.sw u.left kw u.dw u.w with
    | some h, some w => ((q.2.find? (fun e => e.1 == (h, w))).map (·.2)).getD pad
    | _, _ => pad
  (q.1, (List.range u.oh).flatMap (fun oh => (List.range u.ow).map (fun ow =>
    (List.range u.kh).flatMap (fun kh => (List.range u.kw).flatMap (fun kw => pixel oh ow kh kw)))))

/-- The address of a descriptor in the own core's scratchpad by its offset (R312). -/
def ownScratch (off : Nat) : Nat := 0xFF00000000 + off

/-- Bits `lo + w − 1 : lo` of the field at a byte offset of a descriptor taken as a number. -/
def descBits (d off lo w : Nat) : Nat := d / 2 ^ (8 * off + lo) % 2 ^ w

end Sys2Proof.Machine
end

