-- ==== Sys2Proof/Machine/Transcend.lean ====
section
/-! DEFINITION. The transcendentals of the Vector engine: their special inputs, and the bound of 2 ulp that R302 sets to the fixed
algorithm it does not give. Values are approximated by a natural number times a power of two, far finer than the bound. -/
namespace Sys2Proof.Machine

/-- The fraction bits of the approximations. -/
def trN : Nat := 200

/-- ln 2 × 2^200. -/
def trLn2 : Nat := 1113844574712631719546256151097547306333272293549090750737802

/-- A finite value as a signed fixed-point number, cut off at a magnitude of 1,024, beyond which every result is decided. -/
def trFix (neg : Bool) (m : Nat) (e : Int) : Int :=
  let x : Nat := if 11 ≤ (Nat.log2 m : Int) + e then 1024 * 2 ^ trN else
    if 0 ≤ e + trN then m * 2 ^ (e + trN).toNat else m / 2 ^ (-(e + trN)).toNat
  if neg then -(x : Int) else x

/-- e^x of a fixed-point number, as (a, k) with value a × 2^k. -/
def trExp (x : Int) : Nat × Int :=
  let k := x / (trLn2 : Int)
  let r := (x - k * trLn2).toNat
  let s := (List.range 52).foldl (fun (g : Nat × Nat) i => (g.1 + g.2, g.2 * r / 2 ^ trN / (i + 1))) (0, 2 ^ trN)
  (s.1, k - trN)

/-- ln (m × 2^e) as a signed fixed-point number. -/
def trLog (m : Nat) (e : Int) : Int :=
  let l := Nat.log2 m
  let x := m * 2 ^ trN / 2 ^ l
  let u := (x - 2 ^ trN) * 2 ^ trN / (x + 2 ^ trN)
  let s := (List.range 72).foldl (fun (g : Nat × Nat) i => (g.1 + g.2 / (2 * i + 1), g.2 * u / 2 ^ trN * u / 2 ^ trN)) (0, u)
  ((l : Int) + e) * trLn2 + 2 * (s.1 : Int)

/-- The integer square root of a number below 2^420. -/
def trSqrt (n : Nat) : Nat :=
  (List.range 210).foldr (fun i r => if (r + 2 ^ i) * (r + 2 ^ i) ≤ n then r + 2 ^ i else r) 0

/-- The magnitude of tanh (m × 2^e). -/
def trTanh (m : Nat) (e : Int) : Nat × Int :=
  if (Nat.log2 m : Int) + e < -12 then
    let t := (-(2 * e)).toNat
    (m * (3 * 2 ^ t - m * m) * 2 ^ 10 / 3, 3 * e - 10)
  else
    let x := min (2 * trFix false m e) (64 * 2 ^ trN)
    let p := trExp x
    let z := p.1 * 2 ^ (p.2 + trN).toNat
    ((z - 2 ^ trN) * 2 ^ trN / (z + 2 ^ trN), -(trN : Int))

/-- 1 ÷ (1 + e^−x). -/
def trSigm (neg : Bool) (m : Nat) (e : Int) : Nat × Int :=
  let p := trExp (trFix false m e)
  let z := p.1 * 2 ^ (p.2 + trN).toNat
  if neg then (2 ^ 2400 / (z + 2 ^ trN), -2200) else (z * 2 ^ trN / (z + 2 ^ trN), -(trN : Int))

/-- The value of a transcendental on a finite input that is no special case: op 0 VEXP, 1 VLOG, 2 VRCP, 3 VRSQ, 4 VTANH,
5 VSIGM. -/
def transValue (op : Nat) (neg : Bool) (m : Nat) (e : Int) : FV :=
  match op with
  | 0 => let p := trExp (trFix neg m e); .fin false p.1 p.2
  | 1 => let y := trLog m e; .fin (y < 0) y.natAbs (-(trN : Int))
  | 2 => .fin neg (2 ^ trN / m) (-(trN : Int) - e)
  | 3 =>
    let odd := e % 2 = 1
    let n := if odd then 2 * m else m
    let h := if odd then (e - 1) / 2 else e / 2
    .fin false (trSqrt (2 ^ (2 * trN) / n)) (-(trN : Int) - h)
  | 4 => let p := trTanh m e; .fin neg p.1 p.2
  | _ => let p := trSigm neg m e; .fin false p.1 p.2

/-- Whether an F32 result lies within 2 ulp of a value; a margin of 2^−20 ulp stands for the approximation (R302). -/
def within2ulp (y v : FV) : Bool :=
  match v with
  | .fin _ m e =>
    let u := max ((Nat.log2 m : Int) + e) (-126) - 23
    let y' := match y with
      | .inf neg => FV.fin neg 1 128
      | _ => y
    (y'.dist v).le (.fin false (2 ^ 21 + 1) (u - 20))
  | _ => false

/-- The special inputs of R302, op 0 VEXP, 1 VLOG, 2 VRCP, 3 VRSQ, 4 VTANH, 5 VSIGM, with the results that IEEE 754 gives
them; none for an input whose result the fixed algorithm decides. -/
def transSpecial (op : Nat) (v : FV) : Option (FV × Nat) :=
  let one := FV.fin false 1 0
  match op, v with
  | _, .nan => some (.nan, 0)
  | 0, .inf neg => some (if neg then .zero else .inf false, 0)
  | 1, .inf neg => some (if neg then (.nan, flINVALID) else (.inf false, 0))
  | 2, .inf neg => some (.fin neg 0 0, 0)
  | 3, .inf neg => some (if neg then (.nan, flINVALID) else (.zero, 0))
  | 4, .inf neg => some (.fin neg 1 0, 0)
  | _, .inf neg => some (if neg then .zero else one, 0)
  | 0, .fin _ m _ => if m = 0 then some (one, 0) else none
  | 1, .fin neg m e =>
    if m = 0 then some (.inf true, 0) else if neg then some (.nan, flINVALID)
    else if m = 2 ^ Nat.log2 m ∧ e = -(Nat.log2 m : Int) then some (.zero, 0) else none
  | 2, .fin neg m _ => if m = 0 then some (.inf neg, 0) else none
  | 3, .fin neg m _ => if m = 0 then some (.inf neg, 0) else if neg then some (.nan, flINVALID) else none
  | 4, .fin neg m _ => if m = 0 then some (.fin neg 0 0, 0) else none
  | _, .fin _ m _ => if m = 0 then some (.fin false 1 (-1), 0) else none

/-- The result of the fixed algorithm on a finite input: any F32 within 2 ulp of the value (R302; log entry 21). -/
def transFixed (op x : Nat) : FV :=
  match fmtF32.decode x with
  | .fin neg m e =>
    let v := transValue op neg m e
    let y := fmtF32.decode (Config.transcend op x % 2 ^ 32)
    if within2ulp y v then y else (round32 v).1
  | _ => .nan

/-- One element of a transcendental: IEEE 754 on the special inputs, else the fixed algorithm (R302); an infinity that it makes is
an overflow (R273). -/
def trans (op x : Nat) : Nat × Nat :=
  match transSpecial op (fmtF32.decode x) with
  | some r => (fmtF32.encode r.1, r.2)
  | none =>
    let v := transFixed op x
    (fmtF32.encode v, match v with
      | .inf _ => flOVERFLOW
      | _ => 0)

end Sys2Proof.Machine
end

