-- ==== Sys2Proof/Machine/Vector.lean ====
section
/-! DEFINITION. Class 7, the Vector engine (R299–R305). -/
namespace Sys2Proof.Machine

/-! ### Configuration -/

/-- VCFG (R299): every code but 0xF is a format. -/
def execVcfg (c : CoreId) (s : State) : Step :=
  .next (s.runEntry c .vcfg (fun s x _ a _ _ =>
    let v := a.toNat
    s.guarded x [(v < 2 ^ 14, exOPERAND, 0), (v % 16 != 15, exFORMAT, 0)] [] [] (fun run =>
      .done (run.s.modCore c (fun k => { k with vcfg := { k.vcfg with
        fmt := v % 16, rnd := v / 16 % 4, sat := bit v 6, esel := bit v 7, rot := v / 256 % 64 } })))))

/-- Whether the limits of the requantisation state are within R284. -/
def VecCfg.requantOk (g : VecCfg) : Bool := Machine.requantOk g.ofmt g.lo.toInt g.hi.toInt

/-- VRQCFG (R266, R283, R301): an OFMT that no requantisation allows raises FORMAT, limits outside R284 DESC. -/
def execVrqcfg (c : CoreId) (s : State) : Step :=
  .next (s.runEntry c .vrqcfg (fun s x _ a b _ =>
    let new := fun (g : VecCfg) => { g with
      mult := a.setWidth 32, shift := a.toNat / 2 ^ 32 % 64, rqrnd := a.toNat / 2 ^ 38 % 4
      zp := b.setWidth 16, lo := (b >>> 16).setWidth 16, hi := (b >>> 32).setWidth 16, ofmt := b.toNat / 2 ^ 48 % 16 }
    s.guarded x [(a.toNat < 2 ^ 40 && b.toNat < 2 ^ 52, exOPERAND, 0),
      (requantFmt (new (s.core c).vcfg).ofmt, exFORMAT, 0), ((new (s.core c).vcfg).requantOk, exDESC, 0)] [] []
      (fun run => .done (run.s.modCore c (fun k => { k with vcfg := new k.vcfg })))))

/-! ### Loads and stores -/

/-- The address a + ext; without an extension word it is a (R207, R301). -/
def extAddr (f : IFields) (a : Word) : Nat := (if f.hasExt then a + f.ext.signExtend 64 else a).toNat

/-- VLD (R301). -/
def execVld (c : CoreId) (s : State) : Step :=
  .next (s.runEntry c .vld (fun s x f a _ _ =>
    let p := extAddr f a
    s.guarded x [(p % 64 == 0, exALIGN, p)] [(p, 256)] [] (fun run =>
      let q := run.read x p 256
      let w := q.1.reg 256 ((s.core c).vReg f.dst.toNat) (leNat q.2)
      ({ w.1 with s := w.1.s.modCore c (fun k => k.setV f.dst.toNat w.2) } : Run).out)))

/-- VST (R301). -/
def execVst (c : CoreId) (s : State) : Step :=
  .next (s.runEntry c .vst (fun s x f a _ _ =>
    let p := extAddr f a
    s.guarded x [(p % 64 == 0, exALIGN, p)] [] [(p, 256)] (fun run =>
      (run.write x [(p, leBytes 256 ((s.core c).vReg f.dst.toNat))]).out)))

/-- The formats whose elements an address can name: those of whole bytes (log entry 62). -/
def byteFmt (code : Nat) : Bool := fmtBits code % 8 == 0

/-- Elements loaded into a vector register from the addresses given, the rest 0; each address a multiple of the element's
size. -/
def State.loadLanes (s : State) (x : Eng) (f : IFields) (addrs : List Nat) : EOut :=
  let w := fmtBits (s.core x.c).vcfg.fmt
  let rs := addrs.map (fun p => (p, w / 8))
  s.guarded x [(byteFmt (s.core x.c).vcfg.fmt, exFORMAT, 0), (addrs.all (fun p => p % (w / 8) == 0), exALIGN, 0)] rs []
    (fun run =>
      let q := run.reads x rs
      let r := q.1.reg 256 ((s.core x.c).vReg f.dst.toNat) (packElems w (q.2.map leNat))
      ({ r.1 with s := r.1.s.modCore x.c (fun k => k.setV f.dst.toNat r.2) } : Run).out)

/-- VLDS (R301). -/
def execVlds (c : CoreId) (s : State) : Step :=
  .next (s.runEntry c .vlds (fun s x f a b _ =>
    s.loadLanes x f ((List.range (2048 / fmtBits (s.core c).vcfg.fmt)).map (fun i => (a + w64 i * b).toNat))))

/-- The addresses that a gather or scatter of 64 lanes names (R301); a register holds fewer lanes of 64 bits. -/
def State.laneAddrs (s : State) (c : CoreId) (f : IFields) (a : Word) : List Nat :=
  let vb := (s.core c).vReg f.srcB.toNat
  (List.range (min 64 (2048 / fmtBits (s.core c).vcfg.fmt))).map (fun i => (a + w64 (elemAt 32 vb i)).toNat)

/-- VGATH (R301). -/
def execVgath (c : CoreId) (s : State) : Step :=
  .next (s.runEntry c .vgath (fun s x f a _ _ => s.loadLanes x f (s.laneAddrs c f a)))

/-- VSCAT (R301, R305): the lanes in rising order. -/
def execVscat (c : CoreId) (s : State) : Step :=
  .next (s.runEntry c .vscat (fun s x f a _ _ =>
    let fmt := (s.core c).vcfg.fmt
    let w := fmtBits fmt
    let addrs := s.laneAddrs c f a
    s.guarded x [(byteFmt fmt, exFORMAT, 0), (addrs.all (fun p => p % (w / 8) == 0), exALIGN, 0)] []
      (addrs.map (fun p => (p, w / 8))) (fun run =>
        (run.write x (addrs.zipIdx.map (fun (p : Nat × Nat) =>
          (p.1, leBytes (w / 8) (elemAt w ((s.core c).vReg f.dst.toNat) p.2))))).out)))

/-! ### Elementwise operations -/

/-- The elements of a register in a format. -/
def lanes (w v : Nat) : List Nat := (List.range (2048 / w)).map (elemAt w v)

/-- A vector operation: its checks, then vd with the flags it raises (R324); M61 inputs that are out of range raise RANGE during the
run (R271, R290). -/
def State.vecOp (s : State) (x : Eng) (f : IFields) (checks : List (Bool × Nat × Nat)) (g : Core → Nat × Nat)
    (inRange : Core → Bool := fun _ => true) : EOut :=
  s.guarded x checks [] [] (fun run =>
    let k := run.s.core x.c
    let r := g k
    if inRange k then .done ((run.s.modCore x.c (fun k => k.setV f.dst.toNat r.1)).setEngFlags x.c 4 r.2)
    else
      let w := (run.fail exRANGE 0).reg 256 (k.vReg f.dst.toNat) r.1
      let q := w.1.s.draw
      .stop ((q.2.modCore x.c (fun k => k.setV f.dst.toNat w.2)).setEngFlags x.c 4 (r.2 &&& q.1)) exRANGE 0)

/-- Whether the first `n` elements of registers of M61 values are all in range (R271). -/
def m61Lanes (n : Nat) (vs : List Nat) : Bool := vs.all (fun v => (List.range n).all (fun i => elemAt 64 v i < 2 ^ 61))

/-- The value of an element as a comparison or a conversion reads it: 2^61 − 1 in M61 is 0 (R271). -/
def inputVal (code : Nat) (esel : Bool) (x : Nat) : FV :=
  if code = 0xE then .fin false ((m61In x).getD 0) 0 else elemVal code esel x

/-- An element operation over va, vb and the old vd, with vb replaced by the low bits of a scalar when mod[0] is 1 in a form
marked b (R301). Bits above the last whole element are not stated (log entry 42). -/
def Core.elementwise (k : Core) (f : IFields) (b : Option Word) (fill : Nat) (op : Nat → Nat → Nat → Nat × Nat) : Nat × Nat :=
  let w := fmtBits k.vcfg.fmt
  let va := k.vReg f.srcA.toNat
  let vb := k.vReg f.srcB.toNat
  let vd := k.vReg f.dst.toNat
  let r := collect ((List.range (2048 / w)).map (fun i =>
    op (elemAt w va i) (match b with
      | some v => if f.low3 = 1 then v.toNat % 2 ^ w else elemAt w vb i
      | none => elemAt w vb i) (elemAt w vd i)))
  (packElems w (r.1 ++ (if 2048 % w = 0 then [] else [fill])), r.2)

/-- The formats of arithmetic ops (R300). -/
def arithFmt (code : Nat) : Bool := code == 1 || code == 2 || code == 3 || code == 4 || code == 7 || code == 8 || code == 9

/-- The low bits of mod in a form marked b (R301). -/
def bForm (f : IFields) : Bool := f.low3 < 2

/-- An arithmetic op on element bits (R300): integers exact and wrapped, floating values exact and rounded once. -/
def arith (g : VecCfg) (onInt : Int → Int → Int → Int) (onFloat : FV → FV → FV → FV × Nat) (a b d : Nat) : Nat × Nat :=
  if fmtIsInt g.fmt then
    let r := wrapInt g.fmt (onInt (intOf g.fmt a) (intOf g.fmt b) (intOf g.fmt d))
    (bitsOf (fmtBits g.fmt) r.1, r.2)
  else
    let v := elemVal g.fmt g.esel
    let r := onFloat (v a) (v b) (v d)
    let o := elemConv g.fmt g.rnd g.sat r.1
    (o.1, r.2 ||| o.2)

/-- An arithmetic instruction in a form marked b. -/
def State.arithOp (s : State) (c : CoreId) (op : EOp) (onInt : Int → Int → Int → Int) (onFloat : FV → FV → FV → FV × Nat) : State :=
  s.runEntry c op (fun s x f _ b _ =>
    s.vecOp x f [(bForm f, exOPERAND, 0), (arithFmt (s.core c).vcfg.fmt, exFORMAT, 0)] (fun k =>
      k.elementwise f (some b) 0 (arith k.vcfg onInt onFloat)))

/-- VADD (R300, R301). -/
def execVadd (c : CoreId) (s : State) : Step := .next (s.arithOp c .vadd (fun a b _ => a + b) (fun a b _ => a.add b))
/-- VSUB (R300, R301). -/
def execVsub (c : CoreId) (s : State) : Step := .next (s.arithOp c .vsub (fun a b _ => a - b) (fun a b _ => a.add b.neg))
/-- VMUL (R300, R301). -/
def execVmul (c : CoreId) (s : State) : Step := .next (s.arithOp c .vmul (fun a b _ => a * b) (fun a b _ => a.mul b))

/-- d + a × b before its rounding (R300); a NaN among the inputs raises no flag (R324). -/
def FV.fma (a b d : FV) : FV × Nat :=
  if a = .nan ∨ b = .nan ∨ d = .nan then (.nan, 0) else
  let p := a.mul b
  let r := p.1.add d
  (r.1, p.2 ||| r.2)

/-- VFMA (R300, R301). -/
def execVfma (c : CoreId) (s : State) : Step := .next (s.arithOp c .vfma (fun a b d => d + a * b) (fun a b d => a.fma b d))

/-- The lesser and the greater of two values, NaN if either is NaN (R276, R301). -/
def FV.min2 (a b : FV) : FV := if a = .nan ∨ b = .nan then .nan else if b.before a then b else a
def FV.max2 (a b : FV) : FV := if a = .nan ∨ b = .nan then .nan else if a.before b then b else a

/-- VMIN (R276, R301). -/
def execVmin (c : CoreId) (s : State) : Step := .next (s.arithOp c .vmin (fun a b _ => min a b) (fun a b _ => (a.min2 b, 0)))
/-- VMAX (R276, R301). -/
def execVmax (c : CoreId) (s : State) : Step := .next (s.arithOp c .vmax (fun a b _ => max a b) (fun a b _ => (a.max2 b, 0)))

/-- An arithmetic instruction of one source, with srcB 0. -/
def State.arithOne (s : State) (c : CoreId) (op : EOp) (onInt : Int → Int) (onFloat : FV → FV) : State :=
  s.runEntry c op (fun s x f _ _ _ =>
    s.vecOp x f [(f.srcB == 0, exOPERAND, 0), (arithFmt (s.core c).vcfg.fmt, exFORMAT, 0)] (fun k =>
      k.elementwise f none 0 (arith k.vcfg (fun a _ _ => onInt a) (fun a _ _ => (onFloat a, 0)))))

/-- VABS (R301). -/
def execVabs (c : CoreId) (s : State) : Step := .next (s.arithOne c .vabs (fun a => a.natAbs) FV.abs)
/-- VNEG (R301). -/
def execVneg (c : CoreId) (s : State) : Step := .next (s.arithOne c .vneg (fun a => -a) FV.neg)

/-- An instruction on element bits, of every format that `ok` allows. -/
def State.bitOp (s : State) (c : CoreId) (op : EOp) (ok : Nat → Bool) (g : Nat → Nat → Nat → Nat) : State :=
  s.runEntry c op (fun s x f _ b _ =>
    s.vecOp x f [(bForm f, exOPERAND, 0), (ok (s.core c).vcfg.fmt, exFORMAT, 0)] (fun k =>
      k.elementwise f (some b) 0 (fun a b _ => (g (fmtBits k.vcfg.fmt) a b, 0))))

/-- Every format without a block scale (R300). -/
def noMx (code : Nat) : Bool := !fmtIsMx code

/-- VAND (R300, R301). -/
def execVand (c : CoreId) (s : State) : Step := .next (s.bitOp c .vand noMx (fun _ a b => a &&& b))
/-- VOR (R300, R301). -/
def execVor (c : CoreId) (s : State) : Step := .next (s.bitOp c .vor noMx (fun _ a b => a ||| b))
/-- VXOR (R300, R301). -/
def execVxor (c : CoreId) (s : State) : Step := .next (s.bitOp c .vxor noMx (fun _ a b => a ^^^ b))
/-- VSHL (R300, R301). -/
def execVshl (c : CoreId) (s : State) : Step := .next (s.bitOp c .vshl fmtIsInt (fun w a b => a * 2 ^ (b % w)))
/-- VSHR (R300, R301). -/
def execVshr (c : CoreId) (s : State) : Step := .next (s.bitOp c .vshr fmtIsInt (fun w a b => a / 2 ^ (b % w)))
/-- VSRA (R300, R301): the top bit of the element is the one replicated. -/
def execVsra (c : CoreId) (s : State) : Step :=
  .next (s.bitOp c .vsra fmtIsInt (fun w a b => bitsOf w (sint w a / 2 ^ (b % w))))

/-! ### Conversion, requantisation and reductions -/

/-- The fields of VCVT's extension word: source, destination, RND, SAT, ESEL (R303). -/
structure Cvt where
  src : Nat
  dst : Nat
  rnd : Nat
  sat : Bool
  esel : Bool
deriving DecidableEq, Repr

/-- The extension word of VCVT read (R303). -/
def Cvt.of (e : Nat) : Cvt := ⟨e % 16, e / 16 % 16, e / 256 % 4, bit e 10, bit e 11⟩

/-- The formats that VCVT allows: MX to and from F32, and any formats without a block scale. -/
def Cvt.ok (v : Cvt) : Bool :=
  v.src < 15 && v.dst < 15 && (!fmtIsMx v.src || v.dst == 9) && (!fmtIsMx v.dst || v.src == 9)

/-- How many elements VCVT converts (R303). -/
def Cvt.count (v : Cvt) : Nat := 2048 / max (fmtBits v.src) (fmtBits v.dst)

/-- One element converted between formats without a block scale. An integer into M61 is its residue (R306); a floating value there has
no stated result and stays free (log entry 63). -/
def Cvt.elem (v : Cvt) (x : Nat) : Nat × Nat :=
  if v.dst = 0xE then
    (if fmtIsInt v.src then resInt (intOf v.src x) else if v.src = 0xE then (m61In x).getD 0
     else Config.spare [0x18, v.src, v.rnd, x] % p61, 0)
  else elemConv v.dst v.rnd v.sat (inputVal v.src v.esel x)

/-- VCVT's result (R303). -/
def Cvt.run (v : Cvt) (a : Nat) : Nat × Nat :=
  if fmtIsMx v.src then
    let w := fmtBits v.src
    let r := collect ((List.range 64).map (fun i =>
      let y := fmtF32.round v.rnd v.sat (mxVal v.src v.esel (elemAt w a i) (elemAt 8 a (255 - i / 32)))
      (fmtF32.encode y.1, y.2)))
    (packElems 32 r.1, r.2)
  else if fmtIsMx v.dst then
    let w := fmtBits v.dst
    let vs := (List.range 64).map (fun i => fmtF32.decode (elemAt 32 a i))
    let b0 := mxBlock v.dst v.esel v.rnd v.sat (vs.take 32)
    let b1 := mxBlock v.dst v.esel v.rnd v.sat (vs.drop 32)
    (packElems w (b0.1 ++ b1.1) + b0.2.1 * 2 ^ 2040 + b1.2.1 * 2 ^ 2032, b0.2.2 ||| b1.2.2)
  else
    let r := collect ((List.range v.count).map (fun i => v.elem (elemAt (fmtBits v.src) a i)))
    (packElems (fmtBits v.dst) r.1, r.2)

/-- VCVT (R271, R303). -/
def execVcvt (c : CoreId) (s : State) : Step :=
  .next (s.runEntry c .vcvt (fun s x f _ _ _ =>
    let v := Cvt.of f.ext.toNat
    s.vecOp x f [(f.hasExt && f.ext.toNat < 4096, exOPERAND, 0), (v.ok, exFORMAT, 0)] (fun k => v.run (k.vReg f.srcA.toNat))
      (fun k => v.src != 0xE || m61Lanes v.count [k.vReg f.srcA.toNat])))

/-- VREQ (R283, R284, R301): the result of the output format fills its element of 32 bits by its value. -/
def execVreq (c : CoreId) (s : State) : Step :=
  .next (s.runEntry c .vreq (fun s x f _ _ _ =>
    let g := (s.core c).vcfg
    s.vecOp x f [(requantFmt g.ofmt && g.fmt == 3, exFORMAT, 0), (g.requantOk, exDESC, 0)] (fun k =>
      k.elementwise f none 0 (fun a b _ =>
        (bitsOf 32 (requant (sint 32 a + sint 32 b) g.mult.toInt g.shift g.rqrnd g.zp.toInt g.lo.toInt g.hi.toInt), 0)))))

/-- VRSUM (R281, R301). -/
def execVrsum (c : CoreId) (s : State) : Step :=
  .next (s.runEntry c .vrsum (fun s x f _ _ _ =>
    let g := (s.core c).vcfg
    s.vecOp x f [(f.srcB == 0, exOPERAND, 0), (arithFmt g.fmt, exFORMAT, 0)] (fun k =>
      let l := lanes (fmtBits g.fmt) (k.vReg f.srcA.toNat)
      if fmtIsInt g.fmt then
        let r := wrapInt 3 ((l.map (intOf g.fmt)).sum)
        (bitsOf 32 r.1, r.2)
      else
        let r := groupSum 0 l.length FV.zero (l.map (elemVal g.fmt g.esel))
        (fmtF32.encode r.1, r.2))))

/-- VRMAX (R301). -/
def execVrmax (c : CoreId) (s : State) : Step :=
  .next (s.runEntry c .vrmax (fun s x f _ _ _ =>
    let g := (s.core c).vcfg
    s.vecOp x f [(arithFmt g.fmt, exFORMAT, 0)] (fun k =>
      let l := lanes (fmtBits g.fmt) (k.vReg f.srcA.toNat)
      match l with
      | [] => (0, 0)
      | a :: t => t.foldl (fun m b =>
          arith g (fun p q _ => max p q) (fun p q _ => (p.max2 q, 0)) m.1 b 0) (arith g (fun p _ _ => p) (fun p _ _ => (p, 0)) a a 0))))

/-! ### Transcendentals -/

/-- A transcendental instruction (R302). -/
def State.transOp (s : State) (c : CoreId) (op : EOp) (n : Nat) : State :=
  s.runEntry c op (fun s x f _ _ _ =>
    s.vecOp x f [(f.srcB == 0, exOPERAND, 0), ((s.core c).vcfg.fmt == 9, exFORMAT, 0)] (fun k =>
      k.elementwise f none 0 (fun a _ _ => trans n a)))

/-- VEXP (R302). -/
def execVexp (c : CoreId) (s : State) : Step := .next (s.transOp c .vexp 0)
/-- VLOG (R302). -/
def execVlog (c : CoreId) (s : State) : Step := .next (s.transOp c .vlog 1)
/-- VRCP (R302). -/
def execVrcp (c : CoreId) (s : State) : Step := .next (s.transOp c .vrcp 2)
/-- VRSQ (R302). -/
def execVrsq (c : CoreId) (s : State) : Step := .next (s.transOp c .vrsq 3)
/-- VTANH (R302). -/
def execVtanh (c : CoreId) (s : State) : Step := .next (s.transOp c .vtanh 4)
/-- VSIGM (R302). -/
def execVsigm (c : CoreId) (s : State) : Step := .next (s.transOp c .vsigm 5)

/-! ### Comparison, selection and spots -/

/-- The condition of VCMP by mod[2:0] (R301): of values that are not NaN; a NaN is unordered. -/
def vcmpCond (n : Nat) (a b : FV) : Bool :=
  if a = .nan ∨ b = .nan then n == 1 else
  match n with
  | 0 => a.le b && b.le a
  | 1 => !(a.le b && b.le a)
  | 2 => a.lt b
  | 3 => b.le a
  | 4 => a.le b
  | _ => b.lt a

/-- VCMP (R271, R301). -/
def execVcmp (c : CoreId) (s : State) : Step :=
  .next (s.runEntry c .vcmp (fun s x f _ _ _ =>
    s.vecOp x f [(f.low3 < 6, exOPERAND, 0)] (fun k =>
      let g := k.vcfg
      k.elementwise f none (Config.spare [0x28, f.low3, g.fmt, k.vReg f.srcA.toNat, k.vReg f.srcB.toNat]) (fun a b _ =>
        (if vcmpCond f.low3 (inputVal g.fmt g.esel a) (inputVal g.fmt g.esel b) then 2 ^ fmtBits g.fmt - 1 else 0, 0)))
      (fun k => k.vcfg.fmt != 0xE || m61Lanes 32 [k.vReg f.srcA.toNat, k.vReg f.srcB.toNat])))

/-- VSEL (R301): an element of vd is 0 when its bits are. -/
def execVsel (c : CoreId) (s : State) : Step :=
  .next (s.runEntry c .vsel (fun s x f _ _ _ =>
    s.vecOp x f [] (fun k =>
      let fill := Config.spare [0x29, k.vcfg.fmt, k.vReg f.srcA.toNat, k.vReg f.srcB.toNat, k.vReg f.dst.toNat]
      k.elementwise f none fill (fun a b d => (if d ≠ 0 then a else b, 0)))))

/-- The spot of one block (R304). -/
def spotOf (seed : Word) (q blk : Nat) : Nat :=
  let h := (seed ^^^ w64 blk) * 0x9E3779B97F4A7C15#64
  let h := h ^^^ (h >>> 29)
  blk * q + (h >>> 32).toNat % q

/-- VSPOT (R304). -/
def execVspot (c : CoreId) (s : State) : Step :=
  .next (s.runEntry c .vspot (fun s x f a b _ =>
    let q := b.toNat % 2 ^ 11
    s.vecOp x f [(1 ≤ q && q ≤ 1024 && b.toNat / 2 ^ 11 % 32 == 0, exDESC, 0)] (fun _ =>
      (packElems 32 ((List.range 64).map (fun i => spotOf a q (b.toNat / 2 ^ 16 + i))), 0))))

end Sys2Proof.Machine
end

