-- ==== Sys2Proof/Machine/Residue.lean ====
section
/-! DEFINITION. Class 8, the Residue engine (R306–R311). -/
namespace Sys2Proof.Machine

/-! ### Loads and stores -/

/-- A register of 32 lanes of 64 bits from its lanes. -/
def mPack (l : List Nat) : Nat := packElems 64 l

/-- M61 inputs read (R271): a value with bits [63:61] not 0 raises RANGE at its address, and nothing is known of what takes its
place. -/
def Run.m61 (r : Run) (base stride : Nat) (l : List Nat) : Run × List Nat :=
  l.zipIdx.foldl (fun (g : Run × List Nat) (v : Nat × Nat) =>
    match m61In v.1 with
    | some y => (g.1, g.2 ++ [y])
    | none =>
      let q := g.1.s.draw
      (({ g.1 with s := q.2 } : Run).fail exRANGE (base + v.2 * stride), g.2 ++ [q.1 % p61])) (r, [])

/-- A residue register loaded by a run. -/
def Run.loadM (r : Run) (x : Eng) (dst : Nat) (v : List Nat) : EOut :=
  let w := r.reg 256 ((r.s.core x.c).mReg dst) (mPack v)
  ({ w.1 with s := w.1.s.modCore x.c (fun k => k.setM dst w.2) } : Run).out

/-- MLD (R271, R310). -/
def execMld (c : CoreId) (s : State) : Step :=
  .next (s.runEntry c .mld (fun s x f a _ _ =>
    let p := extAddr f a
    s.guarded x [(f.dst.toNat < 16, exOPERAND, 0), (p % 64 == 0, exALIGN, p)] [(p, 256)] [] (fun run =>
      let q := run.read x p 256
      let v := q.1.m61 p 8 (unpack 64 32 q.2)
      v.1.loadM x f.dst.toNat v.2)))

/-- MST (R310). -/
def execMst (c : CoreId) (s : State) : Step :=
  .next (s.runEntry c .mst (fun s x f a _ _ =>
    let p := extAddr f a
    s.guarded x [(f.dst.toNat < 16, exOPERAND, 0), (p % 64 == 0, exALIGN, p)] [] [(p, 256)] (fun run =>
      (run.write x [(p, leBytes 256 ((s.core c).mReg f.dst.toNat))]).out)))

/-- The formats of MLDX by mod[2:0] (R310). -/
def mldxFmt (n : Nat) : Option Nat :=
  match n with
  | 0 => some 1
  | 1 => some 4
  | 2 => some 2
  | 3 => some 3
  | 4 => some 0
  | _ => none

/-- MLDX (R306, R310). -/
def execMldx (c : CoreId) (s : State) : Step :=
  .next (s.runEntry c .mldx (fun s x f a _ _ =>
    let p := a.toNat
    let fmt := (mldxFmt f.low3).getD 1
    let size := rowBytes fmt 1
    s.guarded x [(f.dst.toNat < 16, exOPERAND, 0), ((mldxFmt f.low3).isSome, exFORMAT, 0), (p % size == 0, exALIGN, p)]
      [(p, rowBytes fmt 32)] [] (fun run =>
        let q := run.read x p (rowBytes fmt 32)
        q.1.loadM x f.dst.toNat ((unpack (fmtBits fmt) 32 q.2).map (fun v => resInt (intOf fmt v))))))

/-! ### Lanewise arithmetic -/

/-- A lanewise operation modulo p over ma, mb and the old md (R310). -/
def State.laneOp (s : State) (c : CoreId) (op : EOp) (g : Nat → Nat → Nat → Nat) : State :=
  s.runEntry c op (fun s x f _ _ _ =>
    s.guarded x [(f.dst.toNat < 16 && f.srcA.toNat < 16 && f.srcB.toNat < 16, exOPERAND, 0)] [] [] (fun run =>
      .done (run.s.modCore c (fun k =>
        let lane := fun (r : BitVec 5) i => elemAt 64 (k.mReg r.toNat) i
        k.setM f.dst.toNat (mPack ((List.range 32).map (fun i =>
          g (lane f.srcA i) (lane f.srcB i) (lane f.dst i) % p61)))))))

/-- MADD (R310). -/
def execMadd (c : CoreId) (s : State) : Step := .next (s.laneOp c .madd (fun a b _ => a + b))
/-- MSUB (R310). -/
def execMsub (c : CoreId) (s : State) : Step := .next (s.laneOp c .msub (fun a b _ => a + (p61 - b % p61)))
/-- MMUL (R310). -/
def execMmul (c : CoreId) (s : State) : Step := .next (s.laneOp c .mmul (fun a b _ => a * b))
/-- MMAC (R310). -/
def execMmac (c : CoreId) (s : State) : Step := .next (s.laneOp c .mmac (fun a b d => d + a * b))

/-- MRED (R310). -/
def execMred (c : CoreId) (s : State) : Step :=
  .next (s.runEntry c .mred (fun s x f _ _ _ =>
    s.guarded x [(f.dst.toNat < 16 && f.srcA.toNat < 16 && f.srcB == 0, exOPERAND, 0)] [] [] (fun run =>
      .done (run.s.modCore c (fun k =>
        k.setM f.dst.toNat (((List.range 32).map (elemAt 64 (k.mReg f.srcA.toNat))).sum % p61))))))

/-- MRND (R310, R311). -/
def execMrnd (c : CoreId) (s : State) : Step :=
  .next (s.runEntry c .mrnd (fun s x f _ _ _ =>
    s.guarded x [(f.dst.toNat < 16 && f.srcA == 0 && f.srcB == 0, exOPERAND, 0)] [] [] (fun run =>
      let q := run.s.rngRequest
      if !q.2 then .stop q.1 exENTROPY 0 else
      let n := q.1.freeCtr
      .done ({ q.1 with freeCtr := n + 32 }.modCore c (fun k => k.setM f.dst.toNat
        (mPack ((List.range 32).map (fun i => mrndLane (f.low3 % 2 == 1) (Config.freeNat (n + i))))))))))

/-! ### Matrix-vector products -/

/-- A residue descriptor (R307): the fields that must be 0 together in `rsv`. -/
structure ResDesc where
  fmt : Nat
  trans : Bool
  unf : Bool
  two : Bool
  bound : Bool
  rows : Nat
  cols : Nat
  unfofs : Nat
  x : Nat
  stride : Nat
  v0 : Nat
  v1 : Nat
  y0 : Nat
  y1 : Nat
  u : Nat
  rsv : Nat
deriving DecidableEq, Repr

/-- The fields of a residue descriptor (R307). -/
def ResDesc.of (d : Nat) : ResDesc :=
  let f := descBits d
  let b := fun (i : Nat) => f 0 i 1 == 1
  { fmt := f 0 28 4, trans := b 27, unf := b 26, two := b 25, bound := b 24
    rows := f 4 0 32, cols := f 8 0 32, unfofs := f 0x0C 0 24, x := f 0x10 0 40, stride := f 0x10 40 24
    v0 := f 0x18 0 40, v1 := f 0x20 0 40, y0 := f 0x28 0 40, y1 := f 0x30 0 40, u := f 0x38 0 40
    rsv := f 0 0 24 + f 0x0C 24 8 + f 0x18 40 24 + f 0x20 40 24 + f 0x28 40 24 + f 0x30 40 24 + f 0x38 40 24 }

/-- The formats of X: MMV (R308), MMVF (R309). -/
def ResDesc.fmtOk (d : ResDesc) (float : Bool) : Bool :=
  if float then fmtIsFloat d.fmt else fmtIsInt d.fmt || d.fmt == 0xE

/-- X as a matrix. -/
def ResDesc.plane (d : ResDesc) : Plane := ⟨d.fmt, d.x, d.stride, d.rows, d.cols⟩

/-- Lengths of the vectors and of the outputs (R308). -/
def ResDesc.vLen (d : ResDesc) : Nat := if d.trans then d.rows else d.cols
def ResDesc.yLen (d : ResDesc) : Nat := if d.trans then d.cols else d.rows

/-- Fields within their allowed values (R307, R310); BOUND is for MMVF only. -/
def ResDesc.descOk (d : ResDesc) (float : Bool) : Bool :=
  d.rsv == 0 && 1 ≤ d.rows && d.rows ≤ 2 ^ 24 && 1 ≤ d.cols && d.cols ≤ 2 ^ 24 && !(d.unf && d.trans) &&
    (float || !d.bound) && rowBytes d.fmt (if d.unf then 1 else d.cols) ≤ d.stride

/-- The vectors read and the arrays written. -/
def ResDesc.vectors (d : ResDesc) : List Nat := if d.two then [d.v0, d.v1] else [d.v0]
def ResDesc.outputs (d : ResDesc) : List Nat := (if d.two then [d.y0, d.y1] else [d.y0]) ++ (if d.bound then [d.u] else [])

/-- Alignment: that of R297 for the fields that have R292's form, and of R312 for the unfold descriptor. -/
def ResDesc.alignOk (d : ResDesc) : Bool :=
  d.plane.aligned && (d.vectors ++ d.outputs).all (fun a => a % 4 == 0) && (!d.unf || d.unfofs % 32 == 0)

/-- The rows of X that the sums run over: its rows, or its columns under TRANS (R308). -/
def ResDesc.lines (d : ResDesc) (m : Mat) : Mat := if d.trans then columns d.cols m else m

/-- Σ res(X) · V mod p (R308). -/
def dotRes (xs vs : List Nat) : Nat := ((xs.zip vs).foldl (fun s p => (s + p.1 * p.2) % p61) 0)

/-- The outputs of MMV (R308): arrays of M61 elements of 8 bytes. -/
def ResDesc.mmv (d : ResDesc) (x : Eng) (m : Run × Mat) : EOut :=
  let v := m.1.reads x (d.vectors.map (fun a => (a, d.vLen * 8)))
  let vs := (v.2.zip d.vectors).foldl (fun (g : Run × List (List Nat)) (w : List Byte × Nat) =>
    let q := g.1.m61 w.2 8 (unpack 64 d.vLen w.1)
    (q.1, g.2 ++ [q.2])) (v.1, [])
  let xm := if d.fmt = 0xE then
      m.2.zipIdx.foldl (fun (g : Run × List (List Nat)) (w : List (Nat × Nat) × Nat) =>
        let q := g.1.m61 (if d.unf then 0 else d.x + w.2 * d.stride) (if d.unf then 0 else 8) (w.1.map (·.1))
        (q.1, g.2 ++ [q.2])) (vs.1, [])
    else (vs.1, m.2.map (fun l => (rowInts d.fmt l).map resInt))
  let lines := if d.trans then (List.range d.cols).map (fun j => xm.2.map (fun r => r.getD j 0)) else xm.2
  (xm.1.write x (vs.2.zip d.outputs |>.map (fun (p : List Nat × Nat) =>
    (p.2, (lines.map (fun l => leBytes 8 (dotRes l p.1))).flatten)))).out

/-- The outputs of MMVF with the flags raised (R309): arrays of F32 elements. -/
def ResDesc.mmvf (d : ResDesc) (x : Eng) (m : Run × Mat) : EOut :=
  let v := m.1.reads x (d.vectors.map (fun a => (a, d.vLen * 4)))
  let lines := (d.lines m.2).map (rowVals d.fmt false)
  let vs := v.2.map (fun l => (unpack 32 d.vLen l).map fmtF32.decode)
  let dots := collect (vs.map (fun w => collect (lines.map (fun l => dotFloat FV.zero l w))))
  let bound := if d.bound then collect (lines.map (fun l => dotBound l (vs.headD []))) else ([], 0)
  let outs := dots.1 ++ (if d.bound then [bound.1] else [])
  let w := v.1.write x (outs.zip d.outputs |>.map (fun (p : List FV × Nat) =>
    (p.2, (p.1.map (fun y => leBytes 4 (fmtF32.encode y))).flatten)))
  let q := w.s.draw
  let fl := (dots.2 ||| bound.2) &&& 14
  let w : Run := if w.err.isNone then { w with s := w.s.setEngFlags x.c 8 fl }
    else { w with s := q.2.setEngFlags x.c 8 (fl &&& q.1) }
  w.out

/-- A matrix-vector instruction (R307–R310): the descriptor is read when it runs, the unfold descriptor after it. -/
def State.matVec (s : State) (c : CoreId) (op : EOp) (float : Bool) : State :=
  s.runEntry c op (fun s x _ a _ _ =>
    let p := a.toNat
    let size := if float then 4 else 8
    s.guarded x [(p % 64 == 0, exALIGN, p)] [(p, 64)] [] (fun run =>
      let q := run.read x p 64
      if q.1.err.isSome then q.1.out else
      let d := ResDesc.of (leNat q.2)
      let pre : List (Bool × Nat × Nat) :=
        [(d.fmtOk float, exFORMAT, 0), (d.descOk float, exDESC, 0), (d.alignOk, exALIGN, 0)]
      let rs := d.vectors.map (fun v => (v, d.vLen * size))
      let ws := d.outputs.map (fun y => (y, d.yLen * size))
      let go := fun (m : Run × Mat) => if float then d.mmvf x m else d.mmv x m
      if d.unf then
        q.1.s.guarded x pre [(ownScratch d.unfofs, 32)] [] (fun run =>
          let t := run.read x (ownScratch d.unfofs) 32
          if t.1.err.isSome then t.1.out else
          let u := Unfold.ofBytes t.2
          t.1.s.guarded x [(u.ok && d.rows == u.rows && d.cols == u.cols && rowBytes d.fmt (u.w * u.cin) ≤ d.stride, exDESC, 0)]
            (u.ranges d.fmt d.x d.stride ++ rs) ws (fun run => go (run.unfold x u d.fmt d.x d.stride)))
      else q.1.s.guarded x pre (d.plane.ranges ++ rs) ws (fun run => go (run.plane x d.plane))))

/-- MMV (R308). -/
def execMmv (c : CoreId) (s : State) : Step := .next (s.matVec c .mmv false)
/-- MMVF (R309). -/
def execMmvf (c : CoreId) (s : State) : Step := .next (s.matVec c .mmvf true)

end Sys2Proof.Machine
end

