-- ==== Sys2Proof/Machine/Compare.lean ====
section
/-! DEFINITION. Class 9, the Compare engine (R314–R319). -/
namespace Sys2Proof.Machine

/-! ### Configuration and injection -/

/-- A tolerance of CCFG: F32, neither negative nor NaN (R314). -/
def tolOk (x : Nat) : Bool := x ≤ 0x7F800000 || x == 0x80000000

/-- CCFG (R314). −0 counts as no negative value. -/
def execCcfg (c : CoreId) (s : State) : Step :=
  .next (s.runEntry c .ccfg (fun s x _ a b _ =>
    let mode := b.toNat / 2 ^ 32 % 16
    let fmt := b.toNat / 2 ^ 36 % 16
    s.guarded x [(tolOk (a.toNat % 2 ^ 32) && tolOk (a.toNat / 2 ^ 32) && mode ≤ 3 && b.toNat < 2 ^ 40 && fmt != 15,
      exDESC, 0)] [] [] (fun run =>
        .done (run.s.modCore c (fun k => { k with ccfg :=
          ⟨a.setWidth 32, (a >>> 32).setWidth 32, b.setWidth 32, mode, fmt⟩ })))))

/-- CINJ (R318). -/
def execCinj (c : CoreId) (s : State) : Step :=
  .next (s.runEntry c .cinj (fun s x f a b _ =>
    s.guarded x [(f.dst.toNat < 8, exOPERAND, 0)] [] [] (fun run =>
      .done (run.s.modCore c (fun k =>
        k.setC f.dst.toNat { k.cReg f.dst.toNat with inj := some (a.toNat, b.toNat % 2 ^ 32) })))))

/-! ### The instructions -/

/-- The words of a result register as CST stores them (R316). -/
def CmpReg.words (r : CmpReg) : Nat := packElems 32 [r.compared, r.mismatch, r.first, r.flags, r.maxAbs, r.maxUlp]

/-- A result register from such words. -/
def CmpReg.ofWords (n : Nat) (inj : Option (Nat × Nat)) : CmpReg :=
  ⟨elemAt 32 n 0, elemAt 32 n 1, elemAt 32 n 2, elemAt 32 n 3, elemAt 32 n 4, elemAt 32 n 5, inj⟩

/-- How many bytes of a range came before the error of a run that read it. -/
def Run.goodBytes (r : Run) (a n : Nat) : Nat :=
  match r.err with
  | some e => min n (e.2 - a)
  | none => n

/-- Two operands of the same length read side by side: the run with the error that comes first, the bytes of both, and how many bytes
of both were read without one. -/
def Run.readPair (r : Run) (x : Eng) (a b n : Nat) : Run × List Byte × List Byte × Nat :=
  let p := r.read x a n
  let na := p.1.goodBytes a n
  let q := (⟨p.1.s, none⟩ : Run).read x b na
  let nb := q.1.goodBytes b na
  let e := if q.1.err.isSome then q.1.err else p.1.err
  let fill := if na = n then (q.1.s, []) else q.1.s.freeBytes (n - na)
  (⟨fill.1, e⟩, p.2, q.2 ++ fill.2, nb)

/-- The end of a comparison into c[r]: the result register, or each of its bytes old or new when a read failed (R290); a
mismatch found under FAULT without an injection drives the fault line, the core's checker fault, also when a later read fails
(R317, R555). -/
def State.compareEnd (x : Eng) (r : Nat) (fault : Bool) (run : Run) (old new : CmpReg) (mism : Bool) : EOut :=
  let drive := fault && mism && old.inj.isNone
  let new := if drive then { new with flags := setBit new.flags 3 } else new
  let w := run.reg 24 old.words new.words
  let inj := if run.err.isNone then new.inj else if w.2 % 2 = 0 then old.inj else new.inj
  let s := w.1.s.modCore x.c (fun k => k.setC r (if run.err.isNone then new else CmpReg.ofWords w.2 inj))
  let s := if drive then s.coreFault x.c 0x31 else s
  ({ w.1 with s := s } : Run).out

/-- Bytes of a CMPT operand of `n` elements (R270): its elements, and in an MX format their scales after them. -/
def cmpBytes (fmt n : Nat) : Nat := rowBytes fmt n + (if fmtIsMx fmt then (n + 31) / 32 else 0)

/-- The elements of such an operand with the scale of their blocks (127, a factor of 1, in a format without). -/
def cmpElems (fmt n : Nat) (l : List Byte) : List (Nat × Nat) :=
  let sc := leNat (l.drop (rowBytes fmt n))
  (unpack (fmtBits fmt) n (l.take (rowBytes fmt n))).zipIdx.map (fun (v : Nat × Nat) =>
    (v.1, if fmtIsMx fmt then elemAt 8 sc (v.2 / 32) else 127))

/-- CMPT (R315–R319). -/
def execCmpt (c : CoreId) (s : State) : Step :=
  .next (s.runEntry c .cmpt (fun s x f a b _ =>
    let g := (s.core c).ccfg
    let n := f.ext.toNat
    let r := f.dst.toNat
    let size := rowBytes g.fmt 1
    let len := cmpBytes g.fmt n
    s.guarded x
      [(f.hasExt && r < 8 && f.low3 < 2, exOPERAND, 0),
       (g.mode == 0 || (fmtIsInt g.fmt || fmtIsFloat g.fmt), exFORMAT, 0),
       (a.toNat % size == 0 && b.toNat % size == 0, exALIGN, if a.toNat % size = 0 then b.toNat else a.toNat)]
      [(a.toNat, len), (b.toNat, len)] [] (fun run =>
        let p := run.readPair x a.toNat b.toNat len
        let old := (s.core c).cReg r
        let w := fmtBits g.fmt
        let xs := cmpElems g.fmt n p.2.1
        let i := old.inject w (xs.map (·.1))
        let cmps := (((i.2.zip (xs.map (·.2))).zip (cmpElems g.fmt n p.2.2.1)).zipIdx.map
          (fun (e : ((Nat × Nat) × (Nat × Nat)) × Nat) => (e.2, g.one e.1.1 e.1.2)))
        let res := i.1.notes cmps
        let found := (cmps.take (8 * p.2.2.2 / w)).any (fun e => !e.2.ok)
        State.compareEnd x r (f.low3 == 1) p.1 old res.1 found)))

/-- The words that CMPM compares, as (index, word) with index 16 × record + word (R310, R319). -/
def cmpmWords (mask : Nat) (l : List Nat) : List (Nat × Nat) :=
  (l.zipIdx.filter (fun (e : Nat × Nat) => bit mask (e.2 % 16))).map (fun e => (e.2, e.1))

/-- CMPM (R317–R319): the words of the mask in R records of 64 bytes, bit for bit. An injection names its element among all the
words of the records (log entry 66). -/
def execCmpm (c : CoreId) (s : State) : Step :=
  .next (s.runEntry c .cmpm (fun s x f a b _ =>
    let mask := f.ext.toNat % 2 ^ 16
    let n := f.ext.toNat / 2 ^ 16
    let r := f.dst.toNat
    s.guarded x
      [(f.hasExt && r < 8, exOPERAND, 0),
       (a.toNat % 64 == 0 && b.toNat % 64 == 0, exALIGN, if a.toNat % 64 = 0 then b.toNat else a.toNat)]
      [(a.toNat, 64 * n), (b.toNat, 64 * n)] [] (fun run =>
        let p := run.readPair x a.toNat b.toNat (64 * n)
        let old := (s.core c).cReg r
        let i := old.inject 32 (unpack 32 (16 * n) p.2.1)
        let xs := cmpmWords mask i.2
        let ys := cmpmWords mask (unpack 32 (16 * n) p.2.2.1)
        let cmps := (xs.zip ys).map (fun (e : (Nat × Nat) × (Nat × Nat)) =>
          (e.1.1, ({ ok := e.1.2 == e.2.2, nan := false, abs := FV.zero, ulp := 0 } : Cmp1)))
        let res := i.1.notes cmps
        let found := cmps.any (fun e => !e.2.ok && 4 * (e.1 + 1) ≤ p.2.2.2)
        State.compareEnd x r (f.low3 % 2 == 1) p.1 old res.1 found)))

/-- CST (R316): the record stored, and the register cleared once it is. -/
def execCst (c : CoreId) (s : State) : Step :=
  .next (s.runEntry c .cst (fun s x f a _ _ =>
    let r := f.dst.toNat
    s.guarded x [(r < 8, exOPERAND, 0), (a.toNat % 32 == 0, exALIGN, a.toNat)] [] [(a.toNat, 32)] (fun run =>
      let old := (s.core c).cReg r
      let w := run.write x [(a.toNat, leBytes 32 old.words)]
      if w.err.isSome then w.out
      else .done (w.s.modCore c (fun k => k.setC r { CmpReg.empty with inj := old.inj })))))

end Sys2Proof.Machine
end

