-- ==== Sys2Proof/Machine/DeviceCommands.lean ====
section
/-! DEFINITION. The host commands that change the device's state, its tenant and its lifecycle (R105–R109, R573, R685, R686,
R711, R716, R790). -/
namespace Sys2Proof.Machine

/-- The programs that the settings name for routes and Hearth stages (R109). -/
def State.namedProgs (s : State) : List Nat :=
  (routesOf ((s.setting 0x10).getD [])).map (·.prog) ++ s.stages.map (·.2.2)

/-- Whether the Reeve's parameters have the digest of the loaded settings (R109, R121). -/
def State.reeveAgrees (s : State) : Bool := s.setting 0x34 == some s.pdigest

/-- The first failing condition of START (R41, R109); 0 when all hold. -/
def State.startReason (s : State) : Nat :=
  let tenant := (List.range 4).any (fun k => s.fld (R.KEEP_TENANT_ID k) != 0)
  let loaded := s.namedProgs.all (fun i => match s.prog i, s.progTable[i]? with
    | some p, some t => p.digest == t.1
    | _, _ => false)
  let c0 := (routesOf ((s.setting 0x10).getD [])).any (·.cls == 0)
  let spare := (List.range 16).any (fun n => s.fld (fCoreState n) == csSPARE && s.fld (R.CORE_SLOTCFG_COUNT n) == 0)
  let named := (List.range 16).all (fun n => s.fld (R.CORE_SLOTCFG_COUNT n) == 0 ||
    s.fld (fCoreState n) == csSERVING || s.fld (fCoreState n) == csSPARE)
  let noDisp := !s.hasDisp && (routesOf ((s.setting 0x10).getD [])).any (fun r => r.cls == 0 && r.display)
  if noDisp then 0x02
  else if !tenant then 0x16
  else if !s.keep.seeded || !s.firstDrawn then 0x10
  else if !loaded then 0x11
  else if c0 && !spare then 0x12
  else if !s.reeveAgrees then 0x13
  else if !named then 0x14
  else 0

/-- The device watchman enabled with WM_DEVICE when it is off (R573). -/
def State.enableDevWm (s : State) : State :=
  if s.flag R.WATCH_CFG_EN then s else
  let s := (s.loadReg ((s.setting 0x33).getD []) (0, R.WATCH_CFG)).wmRestart 16
  { s with ladder := { s.ladder with wdStopped := false } }

/-- START (R106, R109, R339, R411, R573): SERVING, or DEGRADED when a redundancy is lost. Records and epochs count anew, and
a spare that the slot tables name serves (log entry 159). -/
def execStart (e : SubEntry) (s : State) : Step :=
  .next (s.hostCmd e 0x03 (rowPf0 (e.noBuf && e.argsIn [])) (fun s =>
    if s.st ≠ stREADY then s.done e 0x03 0 else
    let s := s.drawFirst
    if s.startReason ≠ 0 then s.done e s.startReason 0
    else
      let s := s.placeCores.restartRoutes
      let s := s.enableDevWm.setState (if s.dev.lost = 0 then stSERVING else stDEGRADED)
      s.done e 0 s.stateInfoWord))

/-- A command that waits for the frame boundary (R108). -/
def State.awaitBoundary (s : State) (e : SubEntry) (k : StopKind) : State :=
  { s with dev := { s.dev with stopReq := s.dev.stopReq ++ [(k, e.cid.toNat)] } }

/-- STOP (R106, R108): accepted in SERVING and DEGRADED; it completes when it takes effect. -/
def execStop (e : SubEntry) (s : State) : Step :=
  .next (s.hostCmd e 0x04 (rowPf0 (e.noBuf && e.argsIn [])) (fun s =>
    if s.serving then s.awaitBoundary e .stop else s.done e 0x03 0))

/-- REVALIDATE (R106, R758): settings validation from a HOLD that was entered from SELFTEST or READY. -/
def execRevalidate (e : SubEntry) (s : State) : Step :=
  .next (s.hostCmd e 0x05 (rowPf0 (e.noBuf && e.argsIn [])) (fun s =>
    if s.st ≠ stHOLD ∨ (s.dev.holdFrom ≠ stSELFTEST ∧ s.dev.holdFrom ≠ stREADY) then s.done e 0x03 0
    else if s.dev.reval.isSome then s.done e 0x0A 0
    else { s with dev := { s.dev with reval := some e.cid.toNat } }))

/-- ENTER_SERVICE (R106, R108): accepted in HOLD, READY, SERVING and DEGRADED; it completes when it takes effect. -/
def execEnterService (e : SubEntry) (s : State) : Step :=
  .next (s.hostCmd e 0x06 { rowPf0 (e.noBuf && e.argsIn []) with scrub := true } (fun s =>
    if s.serving || s.st == stHOLD || s.st == stREADY then s.awaitBoundary e .service else s.done e 0x03 0))

/-- EXIT_SERVICE (R106, R716, R790): after the scrub, into the reduced self-test. -/
def execExitService (e : SubEntry) (s : State) : Step :=
  .next (s.hostCmd e 0x07 { rowPf0 (e.noBuf && e.argsIn []) with scrub := true } (fun s =>
    if s.st ≠ stSERVICE ∨ s.flag R.KEEP_STATUS_SCRUBBING = true then s.done e 0x03 0
    else
      let s := s.iter 16 (fun n s =>
        if s.fld (fCoreState n) = csABSENT ∨ s.fld (fCoreState n) = csFAILED then s else s.setFld (fCoreState n) csTEST)
      let s := { s with dev := { s.dev with reduced := true } }
      let s := (s.setFld R.DEVICE_BOOTSTAT_STEP 6).setState stSELFTEST
      s.done e 0 s.stateInfoWord))

/-- TENANT_SET (R711): in SERVICE, after a complete scrub. -/
def execTenantSet (e : SubEntry) (s : State) : Step :=
  .next (s.hostCmd e 0x08 { rowPf0 (e.noBuf && e.argsIn [(0, 16)]) with scrub := true } (fun s =>
    if s.st ≠ stSERVICE ∨ s.flag R.KEEP_STATUS_SCRUBBING = true then s.done e 0x03 0
    else
      let s := s.iter 4 (fun k s => s.setFld (R.KEEP_TENANT_ID k) (e.argN (4 * k) 4))
      let s := s.bumpMeas
      s.done e 0 (s.fld R.KEEP_MEASGEN_GEN)))

/-- The forward changes of lifecycle (R686). -/
def lcForward (a b : Nat) : Bool :=
  (a == 0 && (b == 1 || b == 2)) || (a == 1 && (b == 2 || b == 3)) || (a == 2 && b == 3) || (a != 4 && b == 4)

/-- LC_ADVANCE (R686): fuses blown, with effect at the next cold reset. -/
def execLcAdvance (e : SubEntry) (s : State) : Step :=
  let t := e.arg 0
  let ok := e.argsIn [(0, 1)] && (if t = 3 then e.hasBuf 112 else e.noBuf)
  .next (s.hostCmd e 0x09 (rowPf0 ok) (fun s =>
    let d := e.data
    if s.st ≠ stSERVICE then s.done e 0x03 0
    else if !lcForward s.keep.lcs t then s.done e 0x09 0
    else if t = 3 ∧ (Config.tokenOk (d.take 16) (d.drop 16) = false ∨ leAt d 0 8 ≠ Config.rollId % 2 ^ 64 ∨ leAt d 8 1 ≠ 3 ∨
        leAt d 9 7 ≠ 0) then s.done e 0x29 0
    else { s with keep := { s.keep with lcs := t } }.done e 0 t))

end Sys2Proof.Machine
end

