-- ==== Sys2Proof/Machine/ImageCommands.lean ====
section
/-! DEFINITION. Loading programs and weight bundles (R257–R260, R690, R701–R705). -/
namespace Sys2Proof.Machine

/-! ### Placement -/

/-- A size rounded up to whole pages. -/
def pageUp (n : Nat) : Nat := (n + 4095) / 4096 * 4096

/-- The ranges of DRAM that loaded programs and bundles occupy. -/
def State.placed (s : State) : List (Nat × Nat) :=
  s.jobs.progs.map (fun p => (p.code, p.code + pageUp p.codeSize + pageUp p.dataSize)) ++
  s.keep.bundles.map (fun b => (b.addr, b.addr + pageUp b.size))

/-- Whether a range lies in the DRAM region of a class, mirrored for C0, and free (R260, R704, R439). -/
def State.placeOk (s : State) (cls base size : Nat) : Bool :=
  let last := base + size - 1
  base % 4096 == 0 && isDram base && isDram last &&
  s.loc none base == .mem base && s.loc none last == .mem last && base / 0x100000000 == last / 0x100000000 &&
  (List.range 32).any (fun n => s.flag (R.PART_FENCE_VALID n) && s.fld (R.PART_FENCE_OWNER n) == cls &&
    s.fld (R.PART_FENCE_BASE n) ≤ base / 4096 && last / 4096 ≤ s.fld (R.PART_FENCE_LIMIT n)) &&
  (cls != 0 || (s.mirrored base && s.rgn base == s.rgn last)) &&
  s.placed.all (fun r => last < r.1 || r.2 ≤ base)

/-- The lowest addresses at which a free range may begin: the two DRAM windows, the fence and region bases, and the ends of what is
placed. A range that fits anywhere fits at one of them. -/
def State.placeFrom (s : State) : List Nat :=
  [0, 0x100000000] ++ (List.range 32).map (fun n => 0x1000 * s.fld (R.PART_FENCE_BASE n)) ++
    (List.range 16).map (fun n => 0x100000 * s.fld (R.MEMC_RGN_BASE n)) ++ s.placed.map (·.2)

/-- Where an image of a class goes: the runtime's choice when it lies in the class's region and is free, else the first place that
does; none is NO_SPACE (log entry 27). -/
def State.place (s : State) (cls size : Nat) : Option Nat :=
  (Config.place cls s.freeCtr size :: s.placeFrom).find? (fun a => s.placeOk cls a size)

/-! ### LOAD_PROGRAM -/

/-- Check 1 of R258: the header of R257. -/
def progHeaderOk (d : List Byte) : Bool :=
  let fl := leAt d 6 2
  let code := leAt d 0xC 4
  leAt d 0 4 == 0x5057484E && leAt d 4 2 == 1 && fl % 4 != 3 && fl < 16 && leAt d 8 4 % 4 == 0 && leAt d 8 4 < code &&
  4 ≤ code && code ≤ 0x400000 && code % 4 == 0 && leAt d 0x10 4 ≤ 0x10000000 && leAt d 0x14 4 ≤ 0x200000 &&
  leAt d 0x19 1 == 0 && leAt d 0x1A 2 ≤ 1023 && (leAt d 0xC0 32 == 0 && leAt d 0xE0 32 == 0)

/-- The class that the settings assign to program table entry `i` (R258): that of the routes it checks, which must agree, else that of
its entry. -/
def State.progCls (s : State) (i cls : Nat) : Option Nat :=
  let rs := (routesOf ((s.setting 0x10).getD [])).filter (fun r => r.prog == i && !r.display)
  match rs with
  | [] => some cls
  | r :: _ => if rs.all (·.cls == r.cls) then some r.cls else none

/-- The first failing check of R258 for the image of program table entry `i`, with the address it would take. -/
def State.progStatus (s : State) (i : Nat) (d : List Byte) : Nat × Nat :=
  let keys := (s.setting 0x03).getD []
  let keyid := (d.drop 0x50).take 16
  let body := d.drop 256
  let dig := (d.drop 0x20).take 48
  let cls := leAt d 6 2 % 4
  let own := s.progTable[i]?
  let rest := s.jobs.progs.filter (fun p : Prog => p.idx != i)
  let others := { s with jobs := { s.jobs with progs := rest } }
  if !progHeaderOk d then (0x20, 0)
  else if !(Config.keyAllowed keys false keyid && Config.ecdsaOk keyid (d.take 0x60) ((d.drop 0x60).take 96)) then (0x21, 0)
  else if Config.sha384 body ≠ dig then (0x22, 0)
  else match own with
  | none => (0x11, 0)
  | some t =>
    if t.1 ≠ dig then (0x11, 0)
    else if leAt d 0x1C 4 < s.fld (R.NVM_CTR_VALUE t.2.2) then (0x23, 0)
    else if s.progCls i t.2.1 ≠ some cls then (0x24, 0)
    else match others.place cls (pageUp (leAt d 0xC 4) + pageUp (leAt d 0x10 4)) with
    | none => (0x25, 0)
    | some a => (0, a)

/-- An accepted program placed at an address (R260, R694); it keeps the pass mode of its table entry. -/
def State.putProgram (s : State) (i a : Nat) (d : List Byte) : State :=
  let code := leAt d 0xC 4
  let data := leAt d 0x10 4
  let p : Prog :=
    { idx := i, cls := leAt d 6 2 % 4, flags := leAt d 6 2, entry := leAt d 8 4, codeSize := code, dataSize := data
      engines := leAt d 0x18 1, secver := leAt d 0x1C 4, digest := (d.drop 0x20).take 48
      code := a, data := a + pageUp code, single := ((s.prog i).map (·.single)).getD false }
  let s := s.setBytes p.code ((d.drop 256).take code)
  let s := s.setBytes p.data ((d.drop (256 + code)).take data)
  let l := s.jobs.progs.filter (fun p : Prog => p.idx != i) ++ [p]
  { s with
    jobs := { s.jobs with progs := l }
    freeCtr := s.freeCtr + 1 }.forgetVectors i |>.bumpMeas

/-- LOAD_PROGRAM (R257–R260). -/
def execLoadProgram (e : SubEntry) (s : State) : Step :=
  let d := e.data
  let ok := e.argsIn [(0, 1)] && e.arg 0 < 64 && 256 ≤ e.len.toNat && e.hasBuf (256 + leAt d 0xC 4 + leAt d 0x10 4)
  .next (s.hostCmd e 0x18 (rowPf0 ok) (fun s =>
    match s.progStatus (e.arg 0) d with
    | (0, a) =>
      let s := s.putProgram (e.arg 0) a d
      let s := if s.st = stREADY then s.drawFirst else s
      s.done e 0 (s.fld R.KEEP_MEASGEN_GEN)
    | (st, _) => s.done e st 0))

/-! ### LOAD_BUNDLE, UNLOAD_BUNDLE -/

/-- The length of a bundle image of `n` device entries and `plain` bytes of plaintext (R701). -/
def bundleLen (n plain : Nat) : Nat := 256 + 64 * n + 96 + plain + 16 * ((plain + 0xFFFFF) / 0x100000)

/-- Check 1 of R703. -/
def bundleHeaderOk (d : List Byte) : Bool :=
  let n := leAt d 6 2
  let plain := leAt d 0x18 8
  leAt d 0 4 == 0x57424E44 && leAt d 4 2 == 1 && 1 ≤ n && n ≤ 16 && leAt d 0xC 1 ≤ 2 && leAt d 0xD 11 == 0 &&
  1 ≤ plain && plain ≤ 0x80000000 && leAt d 0xD0 48 == 0 && d.length == bundleLen n plain &&
  (List.range n).all (fun i => leAt d (256 + 64 * i + 0x38) 8 == 0)

/-- The lowest free bundle slot (R705). -/
def State.freeBundleSlot (s : State) : Option Nat :=
  (List.range 32).find? (fun b => !s.keep.bundles.any (·.slot == b))

/-- Whether check 5 of R703 fails: BUNDLEVER is below the counter that the settings name for the BUNDLE_ID, or they name
none (R792). -/
def State.bundleRolled (s : State) (id ver : Nat) : Bool :=
  match s.jobs.decl.bundles.find? (·.1 == id) with
  | some b => ver < s.fld (R.NVM_CTR_VALUE b.2)
  | none => true

/-- The first failing check of R703, and what is loaded when there is none: slot, address, plaintext. -/
def State.bundleStatus (s : State) (d : List Byte) : Nat × Nat × Nat × List Byte :=
  let n := leAt d 6 2
  let head := d.take 256
  let keyid := (d.drop 0xC0).take 16
  let signed := d.take (256 + 64 * n)
  let entry := ((List.range n).map (fun i => (d.drop (256 + 64 * i)).take 64)).find? (fun x => x.take 16 == Config.bundleId)
  let plain := leAt d 0x18 8
  if !bundleHeaderOk d then (0x20, 0, 0, [])
  else if !(Config.keyAllowed ((s.setting 0x03).getD []) true keyid &&
      Config.ecdsaOk keyid signed ((d.drop (256 + 64 * n)).take 96)) then (0x21, 0, 0, [])
  else match entry with
  | none => (0x26, 0, 0, [])
  | some x =>
    if !Config.unwrapOk head x then (0x27, 0, 0, [])
    else if s.bundleRolled (leAt d 0x20 16) (leAt d 8 4) then (0x23, 0, 0, [])
    else match s.freeBundleSlot, s.place (leAt d 0xC 1) plain with
    | some b, some a =>
      match Config.bundlePlain d with
      | some p => if p.length = plain ∧ Config.sha384 p = (d.drop 0x90).take 48 then (0, b, a, p) else (0x28, 0, 0, [])
      | none => (0x28, 0, 0, [])
    | _, _ => (0x25, 0, 0, [])

/-- A bundle in its slot, as KEEP.BSLOT and KEEP.STATUS show it. -/
def State.showBundles (s : State) (b : Nat) : State :=
  let s := s.setFld R.KEEP_STATUS_BUNDLES s.keep.bundles.length
  match s.keep.bundles.find? (·.slot == b) with
  | none => s.setReg (R.KEEP_BSLOT b) 0
  | some x => ((s.setFld (R.KEEP_BSLOT_VALID b) 1).setFld (R.KEEP_BSLOT_CLASS b) x.cls).setFld (R.KEEP_BSLOT_HANDLE b) x.handle

/-- LOAD_BUNDLE (R701–R705, R694). One that is not refused waits, at the head of its queue, while the random source gives no output
(R709). -/
def execLoadBundle (e : SubEntry) (s : State) : Step :=
  let d := e.data
  let row := rowPf0 (e.argsIn [] && e.hasBuf d.length && !d.isEmpty)
  .next (if !s.keep.rng && s.refusal e.fn e row == 0 then s else s.hostCmd e 0x1A row (fun s =>
    match s.bundleStatus d with
    | (0, b, a, p) =>
      let loads := s.keep.loads + 1
      let h := b + 1 + 256 * (loads % 2 ^ 24)
      let x : Bundle := ⟨b, leAt d 0x20 16, leAt d 8 4, leAt d 0xC 1, h, a, p.length, (d.drop 0x90).take 48⟩
      let s := s.setBytes a p
      let s := { s with
        keep := { s.keep with bundles := s.keep.bundles ++ [x], loads := loads }
        freeCtr := s.freeCtr + 1 }
      ((s.showBundles b).bumpMeas).done e 0 h
    | (st, _) => s.done e st 0))

/-- UNLOAD_BUNDLE (R705): BUSY while an accepted job names the bundle; a handle that names no loaded bundle is refused with
BAD_COMMAND (log entry 30). -/
def execUnloadBundle (e : SubEntry) (s : State) : Step :=
  .next (s.hostCmd e 0x1B (rowPf0 (e.noBuf && e.argsIn [(0, 4)])) (fun s =>
    let h := e.argN 0 4
    match s.keep.bundles.find? (·.handle == h) with
    | none => s.done e 0x09 0
    | some x =>
      if s.jobs.jobs.any (·.bundle == h) then s.done e 0x0A 0
      else
        let s := s.setBytes x.addr (List.replicate x.size 0)
        let s := { s with keep := { s.keep with bundles := s.keep.bundles.filter (· ≠ x) } }
        ((s.showBundles x.slot).bumpMeas).done e 0 0))

end Sys2Proof.Machine
end

