-- ==== Sys2Proof/Machine/Mover.lean ====
section
/-! DEFINITION. Class 10, the Mover (R320–R323, R533). -/
namespace Sys2Proof.Machine

/-- A Mover descriptor (R320): the fields that must be 0 together in `rsv`. -/
structure MoveDesc where
  src : Nat
  srcStride : Nat
  pattern : Nat
  dst : Nat
  dstStride : Nat
  rowLen : Nat
  rows : Nat
  idx : Nat
  gather : Bool
  scatter : Bool
  fill : Bool
  unit : Nat
  cvu : Bool
  next : Nat
  rsv : Nat
deriving DecidableEq, Repr

/-- The fields of a Mover descriptor (R320). -/
def MoveDesc.of (d : Nat) : MoveDesc :=
  let f := descBits d
  let b := fun (i : Nat) => f 0x20 i 1 == 1
  { src := f 0 0 40, srcStride := f 0 40 24, pattern := f 0 0 32, dst := f 8 0 40, dstStride := f 8 40 24
    rowLen := f 0x10 0 32, rows := f 0x14 0 32, idx := f 0x18 0 40
    gather := b 0, scatter := b 1, fill := b 2, unit := f 0x20 3 5, cvu := b 8, next := f 0x28 0 40
    rsv := f 0x18 40 24 + f 0x20 9 23 + f 0x24 0 32 + f 0x28 40 24 + f 0x30 0 128 }

/-- Whether two ranges share a byte. -/
def overlap (a n b m : Nat) : Bool := a < b + m && b < a + n

/-- Fields within their allowed values (R320, R321). -/
def MoveDesc.ok (d : MoveDesc) : Bool :=
  d.rsv == 0 && 1 ≤ d.rowLen && d.rowLen ≤ 2 ^ 24 && 1 ≤ d.rows && d.rows ≤ 2 ^ 24 &&
    !(d.gather && d.scatter) && !(d.fill && d.gather)

/-- Whether a descriptor reads its list of offsets. -/
def MoveDesc.indexed (d : MoveDesc) : Bool := d.gather || d.scatter

/-- The addresses of row `r`, source and destination, with the list of offsets (R320). -/
def MoveDesc.row (d : MoveDesc) (offs : List Nat) (r : Nat) : Nat × Nat :=
  (if d.gather then d.src + offs.getD r 0 else d.src + r * d.srcStride,
   if d.scatter then d.dst + offs.getD r 0 else d.dst + r * d.dstStride)

/-- Bytes of a 4-byte pattern repeated (R320). -/
def fillBytes (pattern n : Nat) : List Byte := (List.range n).map (fun i => BitVec.ofNat 8 (pattern / 256 ^ (i % 4)))

/-- Whether an entry may feed a unit: at U only a general unit that its context owns (R533). -/
def State.feedOk (s : State) (x : Eng) (u : Nat) : Bool := x.env.priv != .u || (3 ≤ u && s.fld (R.CVU_U_CFG_OWNER u) == x.env.ctx)

/-- One row moved (R321, R322): read, written, and fed to the unit in order when it is written. -/
def Run.moveRow (r : Run) (x : Eng) (d : MoveDesc) (a : Nat × Nat) : Run :=
  if r.err.isSome then r else
  let q := if d.fill then (r, fillBytes d.pattern d.rowLen) else r.read x a.1 d.rowLen
  let w := q.1.write x [(a.2, q.2)]
  if w.err.isNone && d.cvu then { w with s := w.s.cvuFeed d.unit q.2 } else w

/-- A descriptor of a chain as it was read and checked: its bytes, its fields and the addresses of its rows. -/
structure MoveStep where
  raw : List Byte
  desc : MoveDesc
  rows : List (Nat × Nat)
deriving DecidableEq, Repr

/-- The descriptors of a chain run in order, row by row, with the last four left in the prefetch buffer (R148, R322). -/
def State.runSteps (s : State) (x : Eng) (l : List MoveStep) : Run :=
  let s := s.modCore x.c (fun k => { k with prefetch := (l.map (·.raw)).drop (l.length - 4) })
  l.foldl (fun r m => m.rows.foldl (fun r a => r.moveRow x m.desc a) r) ⟨s, none⟩

/-- A chain of descriptors from an address, after those already read (R290, R320–R323): every descriptor is read and checked before
any of them moves a byte, and they run as they were read. An access error on the way, or one descriptor more than `fuel`, ends
the chain after the descriptors before it. -/
def State.moveChain (x : Eng) : Nat → Nat → List MoveStep → State → EOut
  | 0, a, l, s => ((s.runSteps x l).fail exCHAIN a).out
  | fuel + 1, a, l, s =>
    s.guarded x [(a % 64 == 0, exALIGN, a)] [(a, 64)] [] (fun run =>
      let q := run.read x a 64
      match q.1.err with
      | some e => ((q.1.s.runSteps x l).fail e.1 e.2).out
      | none =>
        let d := MoveDesc.of (leNat q.2)
        q.1.s.guarded x [(d.ok, exDESC, 0), (!d.cvu || q.1.s.feedOk x d.unit, exACCESS, 0)]
          (if d.indexed then [(d.idx, 4 * d.rows)] else []) [] (fun run =>
            let i := if d.indexed then run.read x d.idx (4 * d.rows) else (run, [])
            match i.1.err with
            | some e => ((i.1.s.runSteps x l).fail e.1 e.2).out
            | none =>
              let rows := (List.range d.rows).map (d.row (unpack 32 d.rows i.2))
              i.1.s.guarded x [(d.fill || rows.all (fun a => !overlap a.1 d.rowLen a.2 d.rowLen), exDESC, 0)]
                (if d.fill then [] else rows.map (fun a => (a.1, d.rowLen))) (rows.map (fun a => (a.2, d.rowLen))) (fun run =>
                  let l := l ++ [⟨q.2, d, rows⟩]
                  if d.next = 0 then (run.s.runSteps x l).out else State.moveChain x fuel d.next l run.s)))

/-- MVRUN (R290, R320–R323): a chain of at most 4,096 descriptors. -/
def execMvrun (c : CoreId) (s : State) : Step :=
  .next (s.runEntry c .mvrun (fun s x f a _ _ =>
    s.guarded x [(f.dst == 0 && f.srcB == 0, exOPERAND, 0)] [] [] (fun run => State.moveChain x 4096 a.toNat [] run.s)))

/-- MVCPY (R321, R323): one row of b bytes. -/
def execMvcpy (c : CoreId) (s : State) : Step :=
  .next (s.runEntry c .mvcpy (fun s x _ a b d =>
    let n := b.toNat
    s.guarded x [(n == 0 || !overlap a.toNat n d.toNat n, exDESC, 0)] [(a.toNat, n)] [(d.toNat, n)] (fun run =>
      let q := run.read x a.toNat n
      (q.1.write x [(d.toNat, q.2)]).out)))

/-- MVFILL (R323). -/
def execMvfill (c : CoreId) (s : State) : Step :=
  .next (s.runEntry c .mvfill (fun s x _ a b d =>
    s.guarded x [] [] [(d.toNat, b.toNat)] (fun run =>
      (run.write x [(d.toNat, fillBytes a.toNat b.toNat)]).out)))

end Sys2Proof.Machine
end

