-- ==== Sys2Proof/Machine/Networks.lean ====
section
/-! DEFINITION. The vehicle networks: links, CAN controllers, and the paired safety frames sent and received (R633–R645). -/
namespace Sys2Proof.Machine

/-! ### Lost networks (R645) -/

/-- The two networks of each pair of a C0 route. -/
def State.c0Pairs (s : State) : List (Nat × Nat) :=
  (((routesOf ((s.setting 0x10).getD [])).filter (fun rc => rc.cls == 0)).map (fun rc => pairNets rc.netpair)).dedup

/-- Whether a network is lost now: its link down for more than 10 ms, or its controller bus-off or ALONE. -/
def State.lostNow (s : State) (n : Nat) : Bool :=
  if n < 2 then s.netEnabled n && !s.flag (R.ETH_M_STATUS_LINK n) &&
    SMap.get (fun _ => 0) s.net.downAt n + 10000000 < s.tb2
  else s.netEnabled n && (s.fld (R.CAN_C_STATUS_STATE (n - 2)) == 2 || s.flag (R.CAN_C_STATUS_ALONE (n - 2)))

/-- NET_LOST of a network. -/
def fNetLost (n : Nat) : Fld := if n < 2 then R.ETH_M_STATUS_NET_LOST n else R.CAN_C_STATUS_NET_LOST (n - 2)

/-- The state of a network judged anew: a loss in a pair of a C0 route is LOST, of the pair's second network FATAL while the
device serves; the recovery of every such network is REGAINED. -/
def State.judgeNet (s : State) (n : Nat) : State :=
  let l := s.lostNow n
  if l == s.netLost n then s else
  let s := s.setFld (fNetLost n) (if l then 1 else 0)
  let ps := s.c0Pairs
  let mine := ps.filter (fun p => p.1 == n || p.2 == n)
  if mine.isEmpty then s
  else if l then
    let s := s.satInc R.SAFETY_EVCNT_LOST
    if s.serving && mine.any (fun p => s.netLost p.1 && s.netLost p.2) then s.fatal 0x0B n else s.lose lostNET_PATH
  else if ps.any (fun p => s.netLost p.1 || s.netLost p.2) then s else s.regain lostNET_PATH

/-- Whether the crier runs: the Reeve has power and its reset is released (R98, R134). -/
def State.crierUp (s : State) : Bool := !s.dev.off && !s.reeve.inReset

/-- NETWORK_LOST (R645): a network's state of 10 ms, bus-off or ALONE, or its end. -/
def execNetworkLost (n : Fin 6) (s : State) : Step := .next (if s.crierUp then s.judgeNet n else s)

/-- ETH_LINK_CHANGE (R645): the PHY of a MAC reports its link up at a speed, or down. -/
def execEthLinkChange (m : Fin 2) (up : Bool) (speed : BitVec 3) (s : State) : Step :=
  .next (if !s.crierUp then s
    else if up then
      (((s.setPad (6 + m) .active).setFld (R.ETH_M_STATUS_LINK m) 1).setFld (R.ETH_M_STATUS_SPEED m) speed.toNat).judgeNet m
    else s.macLinkDown m)

/-! ### Received frames -/

/-- ETH_FRAME_RECEIVE (R633, R634): `mine` when the destination is one that the MAC takes. -/
def execEthFrameReceive (m : Fin 2) (k : EthKind) (mine : Bool) (s : State) : Step :=
  .next (if !s.crierUp || !s.netUp m then s else
    match k with
    | .badFcs => s.satInc (R.ETH_M_FCSERR_COUNT m)
    | .pause => (s.satInc (R.ETH_M_RXFRAMES_COUNT m)).satInc (R.ETH_M_PAUSEDISC_COUNT m)
    | .other => (s.satInc (R.ETH_M_RXFRAMES_COUNT m)).satInc (R.ETH_M_RXDISC_COUNT m)
    | _ =>
      let s := s.satInc (R.ETH_M_RXFRAMES_COUNT m)
      if mine then s else s.satInc (R.ETH_M_RXDISC_COUNT m))

/-- CAN_FRAME_RECEIVE (R635): a remote frame is ignored. A reception lowers the receive error count (ISO 11898-1). -/
def execCanFrameReceive (c : Fin 4) (remote : Bool) (s : State) : Step :=
  .next (if !s.crierUp || !s.netEnabled (c + 2) || s.fld (R.CAN_C_STATUS_STATE c) == 2 || remote then s else
    (s.satInc (R.CAN_C_RXOK_COUNT c)).setFld (R.CAN_C_STATUS_REC c) (s.fld (R.CAN_C_STATUS_REC c) - 1))

/-! ### CAN transmission (R635, R636) -/

/-- The error state that the counts give; bus-off is left by a recovery only. -/
def State.canState (s : State) (c : Nat) : State :=
  s.setFld (R.CAN_C_STATUS_STATE c)
    (if 128 ≤ s.fld (R.CAN_C_STATUS_TEC c) ∨ 128 ≤ s.fld (R.CAN_C_STATUS_REC c) then 1 else 0)

/-- The transmit error count raised by 8; above 255 the controller goes bus-off. -/
def State.canTec (s : State) (c : Nat) : State :=
  let t := s.fld (R.CAN_C_STATUS_TEC c) + 8
  if 255 < t then
    ((s.setFld (R.CAN_C_STATUS_TEC c) 255).setFld (R.CAN_C_STATUS_STATE c) 2).satInc (R.CAN_C_EVENTS_BUSOFF c)
  else (s.setFld (R.CAN_C_STATUS_TEC c) t).canState c

/-- CAN_TX_ATTEMPT (R635, R636): a transmission attempt ends. The counting is that of ISO 11898-1 (log entry 33). -/
def execCanTxAttempt (c : Fin 4) (r : CanTx) (s : State) : Step :=
  .next (if !s.crierUp || !s.netEnabled (c + 2) then s else
    let s := s.setPad (8 + c) .active
    let off := s.fld (R.CAN_C_STATUS_STATE c) == 2
    let s := match r with
      | .recovered =>
        if off then
          ((s.setFld (R.CAN_C_STATUS_STATE c) 0).setFld (R.CAN_C_STATUS_TEC c) 0).setFld (R.CAN_C_STATUS_REC c) 0
        else s
      | .acked =>
        if off then s else
        let s := ((s.satInc (R.CAN_C_TXOK_COUNT c)).setFld (R.CAN_C_STATUS_ALONE c) 0).setFld (R.CAN_C_ACKRUN_COUNT c) 0
        (s.setFld (R.CAN_C_STATUS_TEC c) (s.fld (R.CAN_C_STATUS_TEC c) - 1)).canState c
      | .noAck =>
        if off then s else
        let s := s.satInc (R.CAN_C_ACKRUN_COUNT c)
        let s := if 128 ≤ s.fld (R.CAN_C_ACKRUN_COUNT c) then s.setFld (R.CAN_C_STATUS_ALONE c) 1 else s
        if s.fld (R.CAN_C_STATUS_STATE c) = 1 then s else s.canTec c
      | .error => if off then s else s.canTec c
    s.judgeNet (c + 2))

/-! ### Sending paired safety frames (R637, R640, R641) -/

/-- SAFETY_FRAME_SEND (R637, R640): the oldest frame of a network's queue leaves it, sent, or discarded when it has waited
for more than 10 ms. -/
def execSafetyFrameSend (n : Fin 6) (s : State) : Step :=
  .next (if !s.crierUp then s else
    match s.egress n with
    | [] => s
    | f :: t =>
      if f.queued + 10000000 < s.tb2 then
        (s.setEgress n t).satInc (if n.val < 2 then R.ETH_M_TXDROP_COUNT n else R.CAN_C_TXDROP_COUNT (n - 2))
      else if n.val < 2 then
        if s.flag (R.ETH_M_STATUS_LINK n) then (s.setEgress n t).satInc (R.ETH_M_TXFRAMES_COUNT n) else s
      else if s.fld (R.CAN_C_STATUS_STATE (n - 2)) = 2 then s
      else s.setEgress n t)

/-! ### Receiving paired safety frames (R642–R644) -/

/-- The declared receive stream of an envelope on a network, with the side of its pair that the network is. -/
def State.rxStream (s : State) (n : Nat) (env : List Byte) : Option (Nat × Nat) :=
  ((List.range 16).find? (fun i =>
    let p := pairNets (s.fld (R.ETH_S_CFG_NETPAIR i))
    s.flag (R.ETH_S_CFG_VALID i) && s.fld (R.ETH_S_CFG_STREAM i) == leAt env 2 2 &&
      s.fld (R.ETH_S_CFG_SRCDEV i) == leAt env 4 1 && (p.1 == n || p.2 == n))).map (fun i =>
    (i, if (pairNets (s.fld (R.ETH_S_CFG_NETPAIR i))).1 = n then 0 else 1))

/-- An entry written to a stream's ring (R644). -/
def State.rxEntry (s : State) (i outcome nets : Nat) (env : List Byte) : State :=
  let n := s.fld (R.ETH_S_RING_ENTRIES i)
  let w := s.fld (R.ETH_S_RING_WIDX i)
  let a := s.fld (R.ETH_S_RING_BASE i) * 4096 + w * 512
  let c := s.checkMem .net 0 true a
  let h := (Config.rxHeader outcome nets (s.tbNs 0) ++ List.replicate 32 0).take 32
  let s := if c.2 = .ok then c.1.putMem a (h ++ env) else c.1
  s.setFld (R.ETH_S_RING_WIDX i) (if w + 1 < n then w + 1 else 0)

/-- A pairing window decided (R643): outcome 0 accepted, 1 degraded, 2 rejected. -/
def State.rxDecide (s : State) (w : PairWin) (outcome : Nat) : State :=
  let s := { s with net := { s.net with
    wins := s.net.wins.filter (fun v => v ≠ w)
    decided := SMap.set (fun _ => []) s.net.decided w.stream
      ((w.alive :: SMap.get (fun _ => []) s.net.decided w.stream).take 256) } }
  let s := s.satInc (if outcome = 0 then R.ETH_S_STAT_ACCEPTED w.stream
    else if outcome = 1 then R.ETH_S_STAT_DEGRADED w.stream else R.ETH_S_STAT_REJECTED w.stream)
  let s := s.rxEntry w.stream outcome (if outcome = 1 then 2 ^ w.side else 3) w.bytes
  if outcome = 2 then s.postEvent 0 5 (w.stream + 65536 * w.alive) else s

/-- Whether a pairing window has ended; a copy at its end counts as inside. -/
def State.winOver (s : State) (w : PairWin) : Bool := w.opened + s.fld (R.ETH_S_CFG_WINDOW w.stream) * 1000 < s.tb2

/-- A copy checked by unit 3 or 4 with the stream's counter restored before and saved after (R540, R642), and whether it is
good. -/
def State.rxCheck (s : State) (i side : Nat) (env : List Byte) : State × Bool :=
  let u := 3 + side
  let saved := SMap.get (fun _ => 0) s.net.rxCount (2 * i + side)
  let body := env.take (env.length - 4)
  let s := (s.setCvuCount u (saved - 1) (saved != 0)).cvuOpen u
  let s := s.setCvuW u (R.CVU_U_EXPECT_V u) (leNat (env.drop (env.length - 4)))
  let s := (s.cvuFeed u body).cvuClose u (s.fld (R.ETH_S_CFG_MAXSTEP i))
  let keep := if s.cvuAccepted u then s.fld (R.CVU_U_ALIVE_COUNT u) + 1 else 0
  let s := { s with net := { s.net with rxCount := SMap.set (fun _ => 0) s.net.rxCount (2 * i + side) keep } }
  let o := s.fld (R.CVU_U_STAT_AOUT u)
  (s, (o == 1 || o == 2) && env.length == 24 + leAt env 0x10 2 && leAt env 0x10 2 ≤ 256)

/-- A good copy at the pairing windows of its stream (R643). -/
def State.rxPair (s : State) (i side : Nat) (env : List Byte) : State :=
  let a := leAt env 6 2
  let s := (s.net.wins.filter (fun w => w.stream == i && s.winOver w)).foldl (fun s w => s.rxDecide w 1) s
  if (SMap.get (fun _ => []) s.net.decided i).contains a then s.satInc (R.ETH_S_STAT_LATECOPY i) else
  match s.net.wins.find? (fun w => w.stream == i && w.alive == a) with
  | some w => if w.side = side then s else s.rxDecide w (if w.bytes = env then 0 else 2)
  | none =>
    let s := match s.net.wins.filter (fun w => w.stream == i) with
      | w :: _ :: _ => s.rxDecide w 1
      | _ => s
    { s with net := { s.net with wins := s.net.wins ++ [⟨i, a, side, env, s.tb2⟩] } }

/-- SAFETY_FRAME_RECEIVE (R642, R643): a copy of a paired safety frame arrives on a network; `segOk` when its segments, on
CAN FD, are complete, in order and agree in ALIVE. -/
def execSafetyFrameReceive (n : Fin 6) (env : List Byte) (segOk : Bool) (s : State) : Step :=
  .next (if !s.verUp || !s.netUp n || env.length < 24 then s else
    match s.rxStream n env with
    | none => s
    | some (i, side) =>
      if !segOk then s.satInc (R.ETH_S_STAT_BADCOPY i) else
      let c := s.rxCheck i side env
      if c.2 then c.1.rxPair i side env else c.1.satInc (R.ETH_S_STAT_BADCOPY i))

/-- PAIRING_WINDOW_END (R643): a window ends with one good copy. -/
def execPairingWindowEnd (i : Fin 16) (alive : BitVec 16) (s : State) : Step :=
  .next (match s.net.wins.find? (fun w => w.stream == i.val && w.alive == alive.toNat) with
    | none => s
    | some w =>
      if w.opened + s.fld (R.ETH_S_CFG_WINDOW i) * 1000 ≤ s.tb2 then s.rxDecide w 1 else s)

end Sys2Proof.Machine
end

