-- ==== Sys2Proof/Machine/StoreCommands.lean ====
section
/-! DEFINITION. The commands of the settings store (R755, R758, R762, R763, R766, R767). -/
namespace Sys2Proof.Machine

/-- SET_WRITE (R766): bytes copied into staging. -/
def execSetWrite (e : SubEntry) (s : State) : Step :=
  let off := e.argN 0 4
  let n := e.len.toNat
  .next (s.hostCmd e 0x30 (rowPf0 (e.argsIn [(0, 4)] && off + n ≤ 0x40000 && e.hasBuf n)) (fun s =>
    { s with nvm := { s.nvm with staging := mapPut s.nvm.staging off e.data } }.done e 0 0))

/-- SET_READ (R766): staging or a bank copied from offset 0 to host memory. -/
def execSetRead (e : SubEntry) (s : State) : Step :=
  let src := e.arg 0
  let n := e.len.toNat
  .next (s.hostCmd e 0x31 (rowPf0 (e.argsIn [(0, 1)] && src ≤ 2 && n ≤ 0x40000)) (fun s =>
    let m := if src = 0 then s.nvm.staging else s.nvSlot (s.fld (bankSlot (src == 2)))
    (s.modFn e.fn (fun k => { k with wrote := some (e.addr.toNat, mapBytes m 0 n) })).done e 0 0))

/-- The states in which STORE and COUNTER_ADVANCE are accepted (R758). -/
def State.storeState (s : State) : Bool := s.st == stHOLD || s.st == stREADY || s.st == stSERVICE

/-- STORE (R755–R760, R767); `bad` of its read-backs fail. BUSY while a settings validation runs. -/
def execStore (e : SubEntry) (bad : Nat) (s : State) : Step :=
  .next (s.hostCmd e 0x32 (rowPf0 (e.noBuf && e.argsIn [])) (fun s =>
    if !s.storeState then s.done e 0x03 0
    else if s.dev.reval.isSome then s.done e 0x0A 0
    else
      let r := s.storeSettings bad
      r.1.done e r.2.1 r.2.2))

/-- Whether the ARGS of the counter command hold only k, the increment bit and v (R766). -/
def ctrArgsOk (e : SubEntry) : Bool :=
  e.args.toNat / 64 % 2 ^ 57 == 0 && e.args.toNat / 2 ^ 96 == 0

/-- COUNTER_ADVANCE (R758, R762). -/
def execCounterAdvance (e : SubEntry) (s : State) : Step :=
  .next (s.hostCmd e 0x33 (rowPf0 (e.noBuf && ctrArgsOk e)) (fun s =>
    if !s.storeState then s.done e 0x03 0
    else
      let r := s.advanceCounter (e.args.toNat % 64) (e.argN 8 4) (bit e.args.toNat 63)
      r.1.done e r.2 0))

/-- COUNTER_INCREMENT (R763): COUNTER_ADVANCE with ARGS bit 63 set, v ignored. -/
def execCounterIncrement (e : SubEntry) (s : State) : Step :=
  .next (s.hostCmd e 0x33 (rowPf0 (e.noBuf && ctrArgsOk e)) (fun s =>
    if !s.storeState then s.done e 0x03 0
    else
      let r := s.advanceCounter (e.args.toNat % 64) 0 true
      r.1.done e r.2 0))

end Sys2Proof.Machine
end

