-- ==== Sys2Proof/Machine/Tensor.lean ====
section
/-! DEFINITION. Class 11, the Tensor engine (R292–R298). -/
namespace Sys2Proof.Machine

/-! ### Descriptor registers -/

/-- TDLD (R298). -/
def execTdld (c : CoreId) (s : State) : Step :=
  .next (s.runEntry c .tdld (fun s x f a _ _ =>
    let r := f.dst.toNat
    s.guarded x [(r < 16, exOPERAND, 0), (a.toNat % 64 == 0, exALIGN, a.toNat)] [(a.toNat, 64)] [] (fun run =>
      let q := run.read x a.toNat 64
      let w := q.1.reg 64 ((s.core c).tReg r) (leNat q.2)
      ({ w.1 with s := w.1.s.modCore c (fun k => k.setTReg r w.2) } : Run).out)))

/-- TDST (R298). -/
def execTdst (c : CoreId) (s : State) : Step :=
  .next (s.runEntry c .tdst (fun s x f a _ _ =>
    let r := f.dst.toNat
    s.guarded x [(r < 16, exOPERAND, 0), (a.toNat % 64 == 0, exALIGN, a.toNat)] [] [(a.toNat, 64)] (fun run =>
      (run.write x [(a.toNat, leBytes 64 ((s.core c).tReg r))]).out)))

/-- TDSETW (R298). -/
def execTdsetw (c : CoreId) (s : State) : Step :=
  .next (s.runEntry c .tdsetw (fun s x f a _ _ =>
    let r := f.dst.toNat
    s.guarded x [(r < 16 && f.imm8 < 16, exOPERAND, 0)] [] [] (fun run =>
      .done (run.s.modCore c (fun k => k.setTWord r (f.imm8 % 16) a.toNat)))))

/-! ### Tile descriptors -/

/-- A tile descriptor (R292): the fields that must be 0 together in `rsv`. -/
structure Tile where
  afmt : Nat
  bfmt : Nat
  ofmt : Nat
  acc : Bool
  bias : Bool
  req : Bool
  onwrap : Bool
  rnd : Nat
  esel : Bool
  sat : Bool
  pcq : Bool
  unf : Bool
  m : Nat
  n : Nat
  k : Nat
  zp : Int
  shift : Nat
  a : Nat
  aStride : Nat
  b : Nat
  bStride : Nat
  c : Nat
  cStride : Nat
  d : Nat
  dStride : Nat
  biasAt : Nat
  mult : Int
  lo : Int
  hi : Int
  rsv : Nat
deriving DecidableEq, Repr

/-- The fields of a tile descriptor (R292). TRANS and ROT change no bit (R295). -/
def Tile.of (d : Nat) : Tile :=
  let f := descBits d
  let b := fun (i : Nat) => f 0 i 1 == 1
  { afmt := f 0 28 4, bfmt := f 0 24 4, ofmt := f 0 20 4
    acc := b 19, bias := b 18, req := b 17, onwrap := b 15, rnd := f 0 13 2, esel := b 12, sat := b 11, pcq := b 10, unf := b 9
    m := f 4 0 16, n := f 6 0 16, k := f 8 0 24
    zp := sint 16 (f 0x0C 0 16), shift := f 0x0C 16 6
    a := f 0x10 0 40, aStride := f 0x10 40 24
    b := f 0x18 0 40, bStride := f 0x18 40 24
    c := f 0x20 0 40, cStride := f 0x20 40 24
    d := f 0x28 0 40, dStride := f 0x28 40 24
    biasAt := f 0x30 0 40
    mult := sint 32 (f 0x38 0 32)
    lo := sint 16 (f 0x3C 0 16), hi := sint 16 (f 0x3C 16 16)
    rsv := f 0 0 9 + f 8 29 3 + f 0x0C 22 10 + f 0x30 40 24 }

/-- The kinds of operand formats of R293: 0 integer, 1 FP8, 2 BF16 and F16, 3 F32, 4 MX, 5 none of them. -/
def tenKind (code : Nat) : Nat :=
  if code = 0 ∨ code = 1 ∨ code = 4 then 0
  else if code = 5 ∨ code = 6 then 1
  else if code = 7 ∨ code = 8 then 2
  else if code = 9 then 3
  else if fmtIsMx code then 4
  else 5

/-- The combinations of R293. -/
def Tile.fmtOk (t : Tile) : Bool :=
  let ka := tenKind t.afmt
  ka == tenKind t.bfmt && ka < 5 &&
    (if ka = 0 then (if t.req then requantFmt t.ofmt else t.ofmt == 3) else fmtIsFloat t.ofmt)

/-- Whether A and B are integers. -/
def Tile.isInt (t : Tile) : Bool := tenKind t.afmt == 0 && tenKind t.bfmt == 0

/-- Bytes per entry of the bias array (R292). -/
def Tile.biasSize (t : Tile) : Nat := if t.pcq then 16 else 4

/-- Whether the bias array is read: for BIAS, or for the columns' requantisation. -/
def Tile.biasRead (t : Tile) : Bool := t.bias || t.pcq

/-- The matrices of a tile (R292): B of an MX format is stored N × K. -/
def Tile.planeA (t : Tile) : Plane := ⟨t.afmt, t.a, t.aStride, t.m, t.k⟩
def Tile.planeB (t : Tile) : Plane :=
  if fmtIsMx t.bfmt then ⟨t.bfmt, t.b, t.bStride, t.n, t.k⟩ else ⟨t.bfmt, t.b, t.bStride, t.k, t.n⟩
def Tile.planeC (t : Tile) : Plane := ⟨3, t.c, t.cStride, t.m, t.n⟩
def Tile.planeD (t : Tile) : Plane := ⟨t.ofmt, t.d, t.dStride, t.m, t.n⟩

/-- The fields of a tile within their allowed values (R280, R284, R292, R294, R297). -/
def Tile.descOk (t : Tile) : Bool :=
  t.rsv == 0 && 1 ≤ t.m && 1 ≤ t.n && 1 ≤ t.k &&
    (tenKind t.afmt != 4 || t.k % 32 == 0) && (t.isInt || !t.req) &&
    (!t.req || !requantFmt t.ofmt || requantOk t.ofmt t.lo t.hi) &&
    (t.unf || t.planeA.wide) && t.planeB.wide && (!t.acc || t.planeC.wide) && t.planeD.wide

/-- The alignments of R297, and of an unfold descriptor (R312). -/
def Tile.alignOk (t : Tile) : Bool :=
  (if t.unf then t.a % 4 == 0 && t.aStride % 32 == 0 else t.planeA.aligned) &&
    t.planeB.aligned && (!t.acc || t.planeC.aligned) && t.planeD.aligned && (!t.biasRead || t.biasAt % 4 == 0)

/-! ### The tile -/

/-- The bias, mult and shift of column `j` (R283, R292). -/
def Tile.column (t : Tile) (entries : List (List Byte)) (j : Nat) : Nat × Int × Nat :=
  let e := entries.getD j []
  (if t.bias then leAt e 0 4 else 0, if t.pcq then sint 32 (leAt e 4 4) else t.mult,
   if t.pcq then leAt e 8 1 % 64 else t.shift)

/-- The bytes of a per-column entry that must be 0 are (R292). -/
def Tile.entriesOk (t : Tile) (entries : List (List Byte)) : Bool :=
  !t.pcq || entries.all (fun e => leAt e 8 1 < 64 && leAt e 9 7 == 0)

/-- The accumulator of one element of D as 32 bits, from row i of A, column j of B, the element of C and the column's entry, with
its flags: the exact integer sum with any bias, modulo 2^32, or the floating sum with the bias added after the last group
(R277–R280, R294). -/
def Tile.accum (t : Tile) (as bs : List (Nat × Nat)) (c : Nat) (col : Nat × Int × Nat) : Nat × Nat :=
  if t.isInt then
    let w := wrapInt 3 (dotInt (if t.acc then sint 32 c else 0) (rowInts t.afmt as) (rowInts t.bfmt bs) + sint 32 col.1)
    (bitsOf 32 w.1, w.2)
  else
    let init := if t.acc then fmtF32.decode c else FV.zero
    let av := rowVals t.afmt t.esel as
    let bv := rowVals t.bfmt t.esel bs
    let r := if tenKind t.afmt = 4 then dotMx (av.length + 1) init av bv else dotFloat init av bv
    let b := if t.bias then accSum 0 r.1 (fmtF32.decode col.1) else (r.1, 0)
    (fmtF32.encode b.1, r.2 ||| b.2)

/-- An accumulator as the element of D that is written, with its flags: requantised without a further bias (R283, R294), as it is,
or converted (R273). -/
def Tile.final (t : Tile) (z : Nat) (col : Nat × Int × Nat) : Nat × Nat :=
  if !t.isInt then elemConv t.ofmt t.rnd t.sat (fmtF32.decode z)
  else if t.req then (bitsOf (fmtBits t.ofmt) (requant (sint 32 z) col.2.1 col.2.2 t.rnd t.zp t.lo t.hi), 0)
  else (z, 0)

/-- A packed row of D; the bits of its last byte beyond the row are not stated (log entry 41). -/
def packRow (code cols : Nat) (l : List Nat) (fill : Nat) : List Byte :=
  leBytes (rowBytes code cols) (packElems (fmtBits code) (l ++ (if cols * fmtBits code % 8 = 0 then [] else [fill])))

/-- What the bits of a row of D beyond its elements may depend on: everything that the row itself does (R285). -/
def Tile.spareKey (t : Tile) (a : List (Nat × Nat)) (b : Mat) (c : List (Nat × Nat)) (entries : List (List Byte)) : List Nat :=
  let flag := fun (b : Bool) => if b then 1 else 0
  let flat := fun (l : List (Nat × Nat)) => l.flatMap (fun e => [e.1, e.2])
  [t.afmt, t.bfmt, t.ofmt, flag t.acc, flag t.bias, flag t.req, t.rnd, flag t.esel, flag t.sat, flag t.pcq, t.n, t.k, t.shift,
    bitsOf 32 t.zp, bitsOf 32 t.mult, bitsOf 32 t.lo, bitsOf 32 t.hi] ++ flat a ++ b.flatMap flat ++ flat c ++
    entries.flatMap (fun e => e.map (·.toNat))

/-- Every accumulator of D, row by row, with the flags of all (R294). -/
def Tile.sums (t : Tile) (a b c : Mat) (entries : List (List Byte)) : List (List Nat) × Nat :=
  let cols := if fmtIsMx t.bfmt then b else columns t.n b
  collect (a.zipIdx.map (fun (r : List (Nat × Nat) × Nat) =>
    collect (cols.zipIdx.map (fun (w : List (Nat × Nat) × Nat) =>
      t.accum r.1 w.1 ((c.getD r.2 []).getD w.2 (0, 127)).1 (t.column entries w.2)))))

/-- Every row of D from its accumulators, with the flags of all its elements (R294). -/
def Tile.result (t : Tile) (sums : List (List Nat)) (entries : List (List Byte)) : List (List Nat) × Nat :=
  collect (sums.map (fun r => collect (r.zipIdx.map (fun (z : Nat × Nat) => t.final z.1 (t.column entries z.2)))))

/-- The accumulators that the array of 32 × 32 holds when a tile ends: its last block (R148, R295). -/
def Tile.lastBlock (t : Tile) (sums : List (List Nat)) : List Nat :=
  ((sums.drop ((t.m - 1) / 32 * 32)).map (fun r => r.drop ((t.n - 1) / 32 * 32))).flatten

/-- The row stride of a convolution input (R312; log entry 40). -/
def Tile.unfStride (t : Tile) (u : Unfold) : Nat := Config.unfStride (rowBytes t.afmt (u.w * u.cin)) t.aStride

/-- The ranges that a tile reads other than A, and those it writes. -/
def Tile.reads (t : Tile) : List (Nat × Nat) :=
  t.planeB.ranges ++ (if t.acc then t.planeC.ranges else []) ++
    (if t.biasRead then [(t.biasAt, t.n * t.biasSize)] else [])

/-- The ranges of A: its rows, or the pixels of its unfolding. -/
def Tile.readsA (t : Tile) (u : Option Unfold) : List (Nat × Nat) :=
  match u with
  | some u => u.ranges t.afmt t.a (t.unfStride u)
  | none => t.planeA.ranges

/-- A tile whose checks have passed: the operands read, D written, the flags set, OVERFLOW raised under ONWRAP (R278,
R294). -/
def Tile.run (t : Tile) (run : Run) (x : Eng) (u : Option Unfold) : EOut :=
  let a := match u with
    | some u => run.unfold x u t.afmt t.a (t.unfStride u)
    | none => run.plane x t.planeA
  let b := a.1.plane x t.planeB
  let c := if t.acc then b.1.plane x t.planeC else (b.1, [])
  let e := if t.biasRead then c.1.reads x ((List.range t.n).map (fun j => (t.biasAt + j * t.biasSize, t.biasSize)))
    else (c.1, [])
  if e.1.err.isNone ∧ t.entriesOk e.2 = false then .stop e.1.s exDESC 0 else
  let sums := t.sums a.2 b.2 c.2 e.2
  let res := t.result sums.1 e.2
  let rows := res.1.zipIdx.map (fun (r : List Nat × Nat) =>
    (t.d + r.2 * t.dStride, packRow t.ofmt t.n r.1 (Config.spare (t.spareKey (a.2.getD r.2 []) b.2 (c.2.getD r.2 []) e.2))))
  let w := e.1.write x rows
  let fl := sums.2 ||| res.2
  let q := w.s.draw
  let s := if w.err.isNone then w.s.setEngFlags x.c 0 fl else q.2.setEngFlags x.c 0 (fl &&& q.1)
  let w : Run := { w with s := s.modCore x.c (fun k => { k with acc := t.lastBlock sums.1 }) }
  (if t.onwrap ∧ fl % 2 = 1 then w.fail exOVERFLOW 0 else w).out

/-- TMMA (R293–R298): the descriptor is checked when it runs; the unfold descriptor is read from the own scratchpad, and its
rows and columns are those of A (R296). -/
def execTmma (c : CoreId) (s : State) : Step :=
  .next (s.runEntry c .tmma (fun s x f _ _ _ =>
    let t := Tile.of ((s.core c).tReg f.srcA.toNat)
    let pre : List (Bool × Nat × Nat) :=
      [(f.srcA.toNat < 16 && f.dst == 0 && f.srcB == 0, exOPERAND, 0), (t.fmtOk, exFORMAT, 0), (t.descOk, exDESC, 0),
       (t.alignOk, exALIGN, 0)]
    if t.unf then
      s.guarded x pre [(ownScratch t.aStride, 32)] [] (fun run =>
        let q := run.read x (ownScratch t.aStride) 32
        if q.1.err.isSome then q.1.out else
        let u := Unfold.ofBytes q.2
        q.1.s.guarded x [(u.ok && t.m == u.rows && t.k == u.cols, exDESC, 0)] (t.readsA (some u) ++ t.reads)
          t.planeD.ranges (fun run => t.run run x (some u)))
    else
      s.guarded x pre (t.readsA none ++ t.reads) t.planeD.ranges (fun run => t.run run x none)))

end Sys2Proof.Machine
end

