-- ==== Sys2Proof/Machine/Dispatch.lean ====
section
/-! DEFINITION. One arm per command: a direct call of its meaning. -/
namespace Sys2Proof.Machine

/-- The effect of a command on everything but the queue. -/
def exec (i : Instr) (s : State) : Host.Outcome State Fault Refusal :=
  match i with
  | .add c f => Sys2Proof.Machine.execAdd c f s
  | .sub c f => Sys2Proof.Machine.execSub c f s
  | .and c f => Sys2Proof.Machine.execAnd c f s
  | .or c f => Sys2Proof.Machine.execOr c f s
  | .xor c f => Sys2Proof.Machine.execXor c f s
  | .shl c f => Sys2Proof.Machine.execShl c f s
  | .shr c f => Sys2Proof.Machine.execShr c f s
  | .sra c f => Sys2Proof.Machine.execSra c f s
  | .mul c f => Sys2Proof.Machine.execMul c f s
  | .mulh c f => Sys2Proof.Machine.execMulh c f s
  | .mulhu c f => Sys2Proof.Machine.execMulhu c f s
  | .div c f => Sys2Proof.Machine.execDiv c f s
  | .divu c f => Sys2Proof.Machine.execDivu c f s
  | .rem c f => Sys2Proof.Machine.execRem c f s
  | .remu c f => Sys2Proof.Machine.execRemu c f s
  | .min c f => Sys2Proof.Machine.execMin c f s
  | .max c f => Sys2Proof.Machine.execMax c f s
  | .minu c f => Sys2Proof.Machine.execMinu c f s
  | .maxu c f => Sys2Proof.Machine.execMaxu c f s
  | .clz c f => Sys2Proof.Machine.execClz c f s
  | .popc c f => Sys2Proof.Machine.execPopc c f s
  | .sel c f => Sys2Proof.Machine.execSel c f s
  | .cmp c f => Sys2Proof.Machine.execCmp c f s
  | .plog c f => Sys2Proof.Machine.execPlog c f s
  | .pget c f => Sys2Proof.Machine.execPget c f s
  | .pset c f => Sys2Proof.Machine.execPset c f s
  | .addi c f => Sys2Proof.Machine.execAddi c f s
  | .andi c f => Sys2Proof.Machine.execAndi c f s
  | .ori c f => Sys2Proof.Machine.execOri c f s
  | .xori c f => Sys2Proof.Machine.execXori c f s
  | .shli c f => Sys2Proof.Machine.execShli c f s
  | .shri c f => Sys2Proof.Machine.execShri c f s
  | .srai c f => Sys2Proof.Machine.execSrai c f s
  | .muli c f => Sys2Proof.Machine.execMuli c f s
  | .cmpeqi c f => Sys2Proof.Machine.execCmpeqi c f s
  | .cmpnei c f => Sys2Proof.Machine.execCmpnei c f s
  | .cmplti c f => Sys2Proof.Machine.execCmplti c f s
  | .cmpgei c f => Sys2Proof.Machine.execCmpgei c f s
  | .cmpltui c f => Sys2Proof.Machine.execCmpltui c f s
  | .cmpgeui c f => Sys2Proof.Machine.execCmpgeui c f s
  | .movhi c f => Sys2Proof.Machine.execMovhi c f s
  | .adpc c f => Sys2Proof.Machine.execAdpc c f s
  | .ldb c f => Sys2Proof.Machine.execLdb c f s
  | .ldbu c f => Sys2Proof.Machine.execLdbu c f s
  | .ldh c f => Sys2Proof.Machine.execLdh c f s
  | .ldhu c f => Sys2Proof.Machine.execLdhu c f s
  | .ldw c f => Sys2Proof.Machine.execLdw c f s
  | .ldwu c f => Sys2Proof.Machine.execLdwu c f s
  | .ldd c f => Sys2Proof.Machine.execLdd c f s
  | .stb c f => Sys2Proof.Machine.execStb c f s
  | .sth c f => Sys2Proof.Machine.execSth c f s
  | .stw c f => Sys2Proof.Machine.execStw c f s
  | .std c f => Sys2Proof.Machine.execStd c f s
  | .dcinv c f => Sys2Proof.Machine.execDcinv c f s
  | .dcinva c f => Sys2Proof.Machine.execDcinva c f s
  | .pref c f => Sys2Proof.Machine.execPref c f s
  | .bra c f => Sys2Proof.Machine.execBra c f s
  | .call c f => Sys2Proof.Machine.execCall c f s
  | .jmp c f => Sys2Proof.Machine.execJmp c f s
  | .callr c f => Sys2Proof.Machine.execCallr c f s
  | .loop c f => Sys2Proof.Machine.execLoop c f s
  | .csrr c f => Sys2Proof.Machine.execCsrr c f s
  | .csrw c f => Sys2Proof.Machine.execCsrw c f s
  | .csrs c f => Sys2Proof.Machine.execCsrs c f s
  | .csrc c f => Sys2Proof.Machine.execCsrc c f s
  | .ecall c f => Sys2Proof.Machine.execEcall c f s
  | .eret c f => Sys2Proof.Machine.execEret c f s
  | .brk c f => Sys2Proof.Machine.execBreak c f s
  | .wfi c f => Sys2Proof.Machine.execWfi c f s
  | .icinv c f => Sys2Proof.Machine.execIcinv c f s
  | .wsvc c f => Sys2Proof.Machine.execWsvc c f s
  | .ctxsw c f => Sys2Proof.Machine.execCtxsw c f s
  | .pcall c f => Sys2Proof.Machine.execPcall c f s
  | .pret c f => Sys2Proof.Machine.execPret c f s
  | .halt c f => Sys2Proof.Machine.execHalt c f s
  | .sig c f => Sys2Proof.Machine.execSig c f s
  | .sigp c f => Sys2Proof.Machine.execSigp c f s
  | .wait c f => Sys2Proof.Machine.execWait c f s
  | .watch c f => Sys2Proof.Machine.execWatch c f s
  | .unwatch c f => Sys2Proof.Machine.execUnwatch c f s
  | .srd c f => Sys2Proof.Machine.execSrd c f s
  | .bara c f => Sys2Proof.Machine.execBara c f s
  | .barw c f => Sys2Proof.Machine.execBarw c f s
  | .msg c f => Sys2Proof.Machine.execMsg c f s
  | .fences c f => Sys2Proof.Machine.execFences c f s
  | .fencee c f => Sys2Proof.Machine.execFencee c f s
  | .mfence c f => Sys2Proof.Machine.execMfence c f s
  | .qsig c f => Sys2Proof.Machine.execQsig c f s
  | .qwait c f => Sys2Proof.Machine.execQwait c f s
  | .qstat c f => Sys2Proof.Machine.execQstat c f s
  | .eflush c f => Sys2Proof.Machine.execEflush c f s
  | .eresume c f => Sys2Proof.Machine.execEresume c f s
  | .dispatch c op f => Sys2Proof.Machine.execDispatch c op f s
  | .queueEntryFree c => Sys2Proof.Machine.execQueueEntryFree c s
  | .fenceToken c e => Sys2Proof.Machine.execFenceToken c e s
  | .signalToken c e => Sys2Proof.Machine.execSignalToken c e s
  | .waitToken c e => Sys2Proof.Machine.execWaitToken c e s
  | .tdld c => Sys2Proof.Machine.execTdld c s
  | .tdst c => Sys2Proof.Machine.execTdst c s
  | .tdsetw c => Sys2Proof.Machine.execTdsetw c s
  | .tmma c => Sys2Proof.Machine.execTmma c s
  | .vcfg c => Sys2Proof.Machine.execVcfg c s
  | .vrqcfg c => Sys2Proof.Machine.execVrqcfg c s
  | .vld c => Sys2Proof.Machine.execVld c s
  | .vst c => Sys2Proof.Machine.execVst c s
  | .vlds c => Sys2Proof.Machine.execVlds c s
  | .vgath c => Sys2Proof.Machine.execVgath c s
  | .vscat c => Sys2Proof.Machine.execVscat c s
  | .vadd c => Sys2Proof.Machine.execVadd c s
  | .vsub c => Sys2Proof.Machine.execVsub c s
  | .vmul c => Sys2Proof.Machine.execVmul c s
  | .vfma c => Sys2Proof.Machine.execVfma c s
  | .vmin c => Sys2Proof.Machine.execVmin c s
  | .vmax c => Sys2Proof.Machine.execVmax c s
  | .vabs c => Sys2Proof.Machine.execVabs c s
  | .vneg c => Sys2Proof.Machine.execVneg c s
  | .vand c => Sys2Proof.Machine.execVand c s
  | .vor c => Sys2Proof.Machine.execVor c s
  | .vxor c => Sys2Proof.Machine.execVxor c s
  | .vshl c => Sys2Proof.Machine.execVshl c s
  | .vshr c => Sys2Proof.Machine.execVshr c s
  | .vsra c => Sys2Proof.Machine.execVsra c s
  | .vcvt c => Sys2Proof.Machine.execVcvt c s
  | .vreq c => Sys2Proof.Machine.execVreq c s
  | .vrsum c => Sys2Proof.Machine.execVrsum c s
  | .vrmax c => Sys2Proof.Machine.execVrmax c s
  | .vexp c => Sys2Proof.Machine.execVexp c s
  | .vlog c => Sys2Proof.Machine.execVlog c s
  | .vrcp c => Sys2Proof.Machine.execVrcp c s
  | .vrsq c => Sys2Proof.Machine.execVrsq c s
  | .vtanh c => Sys2Proof.Machine.execVtanh c s
  | .vsigm c => Sys2Proof.Machine.execVsigm c s
  | .vcmp c => Sys2Proof.Machine.execVcmp c s
  | .vsel c => Sys2Proof.Machine.execVsel c s
  | .vspot c => Sys2Proof.Machine.execVspot c s
  | .mld c => Sys2Proof.Machine.execMld c s
  | .mst c => Sys2Proof.Machine.execMst c s
  | .mldx c => Sys2Proof.Machine.execMldx c s
  | .madd c => Sys2Proof.Machine.execMadd c s
  | .msub c => Sys2Proof.Machine.execMsub c s
  | .mmul c => Sys2Proof.Machine.execMmul c s
  | .mmac c => Sys2Proof.Machine.execMmac c s
  | .mred c => Sys2Proof.Machine.execMred c s
  | .mmv c => Sys2Proof.Machine.execMmv c s
  | .mmvf c => Sys2Proof.Machine.execMmvf c s
  | .mrnd c => Sys2Proof.Machine.execMrnd c s
  | .ccfg c => Sys2Proof.Machine.execCcfg c s
  | .cmpt c => Sys2Proof.Machine.execCmpt c s
  | .cmpm c => Sys2Proof.Machine.execCmpm c s
  | .cst c => Sys2Proof.Machine.execCst c s
  | .cinj c => Sys2Proof.Machine.execCinj c s
  | .mvcpy c => Sys2Proof.Machine.execMvcpy c s
  | .mvrun c => Sys2Proof.Machine.execMvrun c s
  | .mvfill c => Sys2Proof.Machine.execMvfill c s
  | .takeException c => Sys2Proof.Machine.execTakeException c s
  | .tagAllocate c => Sys2Proof.Machine.execTagAllocate c s
  | .accessComplete tag x => Sys2Proof.Machine.execAccessComplete tag x s
  | .replyReceived tag epoch st data => Sys2Proof.Machine.execReplyReceived tag epoch st data s
  | .epochNotice p => Sys2Proof.Machine.execEpochNotice p s
  | .markerReturn c id => Sys2Proof.Machine.execMarkerReturn c id s
  | .waitRelease c u => Sys2Proof.Machine.execWaitRelease c u s
  | .msgDelivery m => Sys2Proof.Machine.execMsgDelivery m s
  | .barrierArrival n w => Sys2Proof.Machine.execBarrierArrival n w s
  | .barrierCompletion n x => Sys2Proof.Machine.execBarrierCompletion n x s
  | .deadlockReport scope us => Sys2Proof.Machine.execDeadlockReport scope us s
  | .engineLent c u => Sys2Proof.Machine.execEngineLent c u s
  | .creditGrant c u => Sys2Proof.Machine.execCreditGrant c u s
  | .slotStart c idx desc w1 w2 w3 => Sys2Proof.Machine.execSlotStart c idx desc w1 w2 w3 s
  | .slotOverrun c => Sys2Proof.Machine.execSlotOverrun c s
  | .exit c => Sys2Proof.Machine.execExit c s
  | .checkDone c => Sys2Proof.Machine.execCheckDone c s
  | .passInfo c => Sys2Proof.Machine.execPassInfo c s
  | .passOut c => Sys2Proof.Machine.execPassOut c s
  | .hearthRef c => Sys2Proof.Machine.execHearthRef c s
  | .tapFrame c => Sys2Proof.Machine.execTapFrame c s
  | .goldenRun c ok dur => Sys2Proof.Machine.execGoldenRun c ok dur s
  | .goldenRunTimeout c => Sys2Proof.Machine.execGoldenRunTimeout c s
  | .coreRestart c cause => Sys2Proof.Machine.execCoreRestart c cause s
  | .coreRetestDone c ok => Sys2Proof.Machine.execCoreRetestDone c ok s
  | .trip source detail b => Sys2Proof.Machine.execTrip source detail b s
  | .powerOn cold x => Sys2Proof.Machine.execPowerOn cold x s
  | .reeveStart => Sys2Proof.Machine.execReeveStart s
  | .bootOk headA bodyA headB bodyB => Sys2Proof.Machine.execBootOk headA bodyA headB bodyB s
  | .bootFail slotA slotB => Sys2Proof.Machine.execBootFail slotA slotB s
  | .recover => Sys2Proof.Machine.execRecover s
  | .setOk t => Sys2Proof.Machine.execSetOk t s
  | .setNone t => Sys2Proof.Machine.execSetNone t s
  | .pinReset pgood => Sys2Proof.Machine.execPinReset pgood s
  | .verifierPowerLoss => Sys2Proof.Machine.execVerifierPowerLoss s
  | .reeveReset => Sys2Proof.Machine.execReeveReset s
  | .warm => Sys2Proof.Machine.execWarm s
  | .rsOk t => Sys2Proof.Machine.execRsOk t s
  | .rsFail => Sys2Proof.Machine.execRsFail s
  | .reeveLinkUp ok => Sys2Proof.Machine.execReeveLinkUp ok s
  | .verifierSilent => Sys2Proof.Machine.execVerifierSilent s
  | .reeveLost => Sys2Proof.Machine.execReeveLost s
  | .graceEnd => Sys2Proof.Machine.execGraceEnd s
  | .railFault ev => Sys2Proof.Machine.execRailFault ev s
  | .pmicRead r => Sys2Proof.Machine.execPmicRead r s
  | .clockFailure e => Sys2Proof.Machine.execClockFailure e s
  | .x32kReturn => Sys2Proof.Machine.execX32kReturn s
  | .heartbeatToggle b => Sys2Proof.Machine.execHeartbeatToggle b s
  | .invalidNotice => Sys2Proof.Machine.execInvalidNotice s
  | .scanStrobe rawA rawB => Sys2Proof.Machine.execScanStrobe rawA rawB s
  | .scanRecord b rec => Sys2Proof.Machine.execScanRecord b rec s
  | .scanRecordMissing b => Sys2Proof.Machine.execScanRecordMissing b s
  | .testPulse k => Sys2Proof.Machine.execTestPulse k s
  | .testPulseEvaluate k readsOn => Sys2Proof.Machine.execTestPulseEvaluate k readsOn s
  | .outputTestSample c low conducts => Sys2Proof.Machine.execOutputTestSample c low conducts s
  | .watchmanWarn w => Sys2Proof.Machine.execWatchmanWarn w s
  | .watchmanExpiry w => Sys2Proof.Machine.execWatchmanExpiry w s
  | .retainedCountCopy => Sys2Proof.Machine.execRetainedCountCopy s
  | .selfTestSlice r ok => Sys2Proof.Machine.execSelfTestSlice r ok s
  | .chkSingleExpiry => Sys2Proof.Machine.execChkSingleExpiry s
  | .tapPacket k p => Sys2Proof.Machine.execTapPacket k p s
  | .tapFrameStart k fn => Sys2Proof.Machine.execTapFrameStart k fn s
  | .syntheticBoundary k => Sys2Proof.Machine.execSyntheticBoundary k s
  | .tapFrameEnd k => Sys2Proof.Machine.execTapFrameEnd k s
  | .telltaleWindowComplete d w => Sys2Proof.Machine.execTelltaleWindowComplete d w s
  | .provTimeout r f => Sys2Proof.Machine.execProvTimeout r f s
  | .chimeBlock hits => Sys2Proof.Machine.execChimeBlock hits s
  | .tdmNoClock => Sys2Proof.Machine.execTdmNoClock s
  | .chimeDeadline => Sys2Proof.Machine.execChimeDeadline s
  | .pullReadComplete r f t st data => Sys2Proof.Machine.execPullReadComplete r f t st data s
  | .inboxWrite off data => Sys2Proof.Machine.execInboxWrite off data s
  | .inboxDoorbell r b f => Sys2Proof.Machine.execInboxDoorbell r b f s
  | .deadline r f => Sys2Proof.Machine.execDeadline r f s
  | .verdictCommit r f => Sys2Proof.Machine.execVerdictCommit r f s
  | .restartWindowOpen => Sys2Proof.Machine.execRestartWindowOpen s
  | .restartWindowEnd r f => Sys2Proof.Machine.execRestartWindowEnd r f s
  | .hearthStageDone h x => Sys2Proof.Machine.execHearthStageDone h x s
  | .safetyFrameSend n => Sys2Proof.Machine.execSafetyFrameSend n s
  | .safetyFrameReceive n env segOk => Sys2Proof.Machine.execSafetyFrameReceive n env segOk s
  | .pairingWindowEnd idx alive => Sys2Proof.Machine.execPairingWindowEnd idx alive s
  | .ethLinkChange m up speed => Sys2Proof.Machine.execEthLinkChange m up speed s
  | .networkLost n => Sys2Proof.Machine.execNetworkLost n s
  | .ethFrameReceive m k mine => Sys2Proof.Machine.execEthFrameReceive m k mine s
  | .canFrameReceive c remote => Sys2Proof.Machine.execCanFrameReceive c remote s
  | .canTxAttempt c r => Sys2Proof.Machine.execCanTxAttempt c r s
  | .gptpSync p y => Sys2Proof.Machine.execGptpSync p y s
  | .gptpFollowUp p y => Sys2Proof.Machine.execGptpFollowUp p y s
  | .gptpAnnounce p a => Sys2Proof.Machine.execGptpAnnounce p a s
  | .pdelayExchange p turn ok => Sys2Proof.Machine.execPdelayExchange p turn ok s
  | .syncForward pin pout seq kind res => Sys2Proof.Machine.execSyncForward pin pout seq kind res s
  | .servoTick => Sys2Proof.Machine.execServoTick s
  | .holdover n => Sys2Proof.Machine.execHoldover n s
  | .tpoPulse k => Sys2Proof.Machine.execTpoPulse k s
  | .nimLinkTrained p mask => Sys2Proof.Machine.execNimLinkTrained p mask s
  | .nimSessionInstalled p ok id dev port => Sys2Proof.Machine.execNimSessionInstalled p ok id dev port s
  | .nimStepTimeout p => Sys2Proof.Machine.execNimStepTimeout p s
  | .nimLinkDown p dropped => Sys2Proof.Machine.execNimLinkDown p dropped s
  | .nimLaneFail p => Sys2Proof.Machine.execNimLaneFail p s
  | .nimPortHoldEnd p => Sys2Proof.Machine.execNimPortHoldEnd p s
  | .nimPacketForward pin pout n => Sys2Proof.Machine.execNimPacketForward pin pout n s
  | .nimPacketReplay p times => Sys2Proof.Machine.execNimPacketReplay p times s
  | .rollStart num id => Sys2Proof.Machine.execRollStart num id s
  | .rollReport num id r => Sys2Proof.Machine.execRollReport num id r s
  | .agree num id src digest => Sys2Proof.Machine.execAgree num id src digest s
  | .noPeer => Sys2Proof.Machine.execNoPeer s
  | .remoteRequest q => Sys2Proof.Machine.execRemoteRequest q s
  | .tripNotice d => Sys2Proof.Machine.execTripNotice d s
  | .claim r f sq crc => Sys2Proof.Machine.execClaim r f sq crc s
  | .standbyCommit r f => Sys2Proof.Machine.execStandbyCommit r f s
  | .handBack r f0 sq => Sys2Proof.Machine.execHandBack r f0 sq s
  | .nimRekey p => Sys2Proof.Machine.execNimRekey p s
  | .rngSeed => Sys2Proof.Machine.execRngSeed s
  | .rngHealthFail apt => Sys2Proof.Machine.execRngHealthFail apt s
  | .rngFailTimeout => Sys2Proof.Machine.execRngFailTimeout s
  | .drbgReseed => Sys2Proof.Machine.execDrbgReseed s
  | .getVersion p => Sys2Proof.Machine.execGetVersion p s
  | .getCapabilities p => Sys2Proof.Machine.execGetCapabilities p s
  | .negotiateAlgorithms p ok => Sys2Proof.Machine.execNegotiateAlgorithms p ok s
  | .getDigests p => Sys2Proof.Machine.execGetDigests p s
  | .getCertificate p slot => Sys2Proof.Machine.execGetCertificate p slot s
  | .challenge p slot => Sys2Proof.Machine.execChallenge p slot s
  | .getMeasurements p idx => Sys2Proof.Machine.execGetMeasurements p idx s
  | .keyExchange p sid => Sys2Proof.Machine.execKeyExchange p sid s
  | .finish p sid ok => Sys2Proof.Machine.execFinish p sid ok s
  | .endSession p sid => Sys2Proof.Machine.execEndSession p sid s
  | .heartbeat p sid => Sys2Proof.Machine.execHeartbeat p sid s
  | .keyUpdate p sid => Sys2Proof.Machine.execKeyUpdate p sid s
  | .ideKmQuery p sid => Sys2Proof.Machine.execIdeKmQuery p sid s
  | .kSetGo p sid stream ks => Sys2Proof.Machine.execKSetGo p sid stream ks s
  | .kSetStop p sid stream ks => Sys2Proof.Machine.execKSetStop p sid stream ks s
  | .serviceEntry => Sys2Proof.Machine.execServiceEntry s
  | .scrubDone total dram => Sys2Proof.Machine.execScrubDone total dram s
  | .stopEffect => Sys2Proof.Machine.execStopEffect s
  | .patrolScrub blk => Sys2Proof.Machine.execPatrolScrub blk s
  | .channelFailure ch => Sys2Proof.Machine.execChannelFailure ch s
  | .retrainDone ch ok => Sys2Proof.Machine.execRetrainDone ch ok s
  | .mirrorRebuildDone => Sys2Proof.Machine.execMirrorRebuildDone s
  | .domainGating d drained => Sys2Proof.Machine.execDomainGating d drained s
  | .domainWake d => Sys2Proof.Machine.execDomainWake d s
  | .throttleTick tj => Sys2Proof.Machine.execThrottleTick tj s
  | .overtemp => Sys2Proof.Machine.execOvertemp s
  | .portFailure p => Sys2Proof.Machine.execPortFailure p s
  | .portReturn p speed width => Sys2Proof.Machine.execPortReturn p speed width s
  | .flr f => Sys2Proof.Machine.execFlr f s
  | .msixModerationTimeout f v => Sys2Proof.Machine.execMsixModerationTimeout f v s
  | .sqtail m f v => Sys2Proof.Machine.execSqtail m f v s
  | .cqhead m f v => Sys2Proof.Machine.execCqhead m f v s
  | .vrhead m f v => Sys2Proof.Machine.execVrhead m f v s
  | .qcfgWrite m f v => Sys2Proof.Machine.execQcfgWrite m f v s
  | .hello e => Sys2Proof.Machine.execHello e s
  | .getStatus e => Sys2Proof.Machine.execGetStatus e s
  | .start e => Sys2Proof.Machine.execStart e s
  | .stop e => Sys2Proof.Machine.execStop e s
  | .revalidate e => Sys2Proof.Machine.execRevalidate e s
  | .enterService e => Sys2Proof.Machine.execEnterService e s
  | .exitService e => Sys2Proof.Machine.execExitService e s
  | .tenantSet e => Sys2Proof.Machine.execTenantSet e s
  | .lcAdvance e => Sys2Proof.Machine.execLcAdvance e s
  | .submit e => Sys2Proof.Machine.execSubmit e s
  | .chimeExpect e => Sys2Proof.Machine.execChimeExpect e s
  | .loadProgram e => Sys2Proof.Machine.execLoadProgram e s
  | .loadBundle e => Sys2Proof.Machine.execLoadBundle e s
  | .unloadBundle e => Sys2Proof.Machine.execUnloadBundle e s
  | .pairMode e => Sys2Proof.Machine.execPairMode e s
  | .restartBegin e => Sys2Proof.Machine.execRestartBegin e s
  | .restartDone e => Sys2Proof.Machine.execRestartDone e s
  | .sioPassword e => Sys2Proof.Machine.execSioPassword e s
  | .sioParamBegin e => Sys2Proof.Machine.execSioParamBegin e s
  | .sioParamWrite e => Sys2Proof.Machine.execSioParamWrite e s
  | .sioParamCommit e => Sys2Proof.Machine.execSioParamCommit e s
  | .sioParamAbort e => Sys2Proof.Machine.execSioParamAbort e s
  | .sioAck e => Sys2Proof.Machine.execSioAck e s
  | .sioSessionTimeout => Sys2Proof.Machine.execSioSessionTimeout s
  | .lockoutEnd => Sys2Proof.Machine.execLockoutEnd s
  | .setWrite e => Sys2Proof.Machine.execSetWrite e s
  | .setRead e => Sys2Proof.Machine.execSetRead e s
  | .store e bad => Sys2Proof.Machine.execStore e bad s
  | .counterAdvance e => Sys2Proof.Machine.execCounterAdvance e s
  | .counterIncrement e => Sys2Proof.Machine.execCounterIncrement e s
  | .getCounters e => Sys2Proof.Machine.execGetCounters e s
  | .coreRestartCmd m key c => Sys2Proof.Machine.execCoreRestartCmd m key c s
  | .warmRestartCmd m key => Sys2Proof.Machine.execWarmRestartCmd m key s
  | .portAResetCmd m key => Sys2Proof.Machine.execPortAResetCmd m key s
  | .portBResetCmd m key => Sys2Proof.Machine.execPortBResetCmd m key s
  | .pairstatForce m c v => Sys2Proof.Machine.execPairstatForce m c v s
  | .cntclr m v => Sys2Proof.Machine.execCntclr m v s
  | .runWrite m v => Sys2Proof.Machine.execRunWrite m v s
  | .watchSvc m v => Sys2Proof.Machine.execWatchSvc m v s
  | .wmcfgWrite m c w => Sys2Proof.Machine.execWmcfgWrite m c w s
  | .watchCfgWrite m w => Sys2Proof.Machine.execWatchCfgWrite m w s
  | .snap m v => Sys2Proof.Machine.execSnap m v s
  | .tpoArm m k v => Sys2Proof.Machine.execTpoArm m k v s
  | .sobjHandWrite c k v => Sys2Proof.Machine.execSobjHandWrite c k v s
  | .sobjcfgWrite m c k w => Sys2Proof.Machine.execSobjcfgWrite m c k w s
  | .vmapWrite m c x idx v => Sys2Proof.Machine.execVmapWrite m c x idx v s
  | .mboxWrite m c k w => Sys2Proof.Machine.execMboxWrite m c k w s
  | .cvuStart m u => Sys2Proof.Machine.execCvuStart m u s
  | .cvuFinish m u => Sys2Proof.Machine.execCvuFinish m u s
  | .cvuDataWrite m u v => Sys2Proof.Machine.execCvuDataWrite m u v s
  | .cvuValueWrite m u w => Sys2Proof.Machine.execCvuValueWrite m u w s
  | .cvuPosnWrite m u w => Sys2Proof.Machine.execCvuPosnWrite m u w s
  | .cvuExpectWrite m u w => Sys2Proof.Machine.execCvuExpectWrite m u w s
  | .cvuOwnerWrite m u v => Sys2Proof.Machine.execCvuOwnerWrite m u v s
  | .cvuAliveCountWrite m u w => Sys2Proof.Machine.execCvuAliveCountWrite m u w s
  | .debugAttach m v => Sys2Proof.Machine.execDebugAttach m v s
  | .faultInjection m line unit => Sys2Proof.Machine.execFaultInjection m line unit s
  | .debugHalt c => Sys2Proof.Machine.execDebugHalt c s
  | .debugStep c => Sys2Proof.Machine.execDebugStep c s
  | .debugResume c => Sys2Proof.Machine.execDebugResume c s
  | .registerWrite m off n v => Sys2Proof.Machine.execRegisterWrite m off n v s
  | .unlistedInstruction c f => Sys2Proof.Machine.execUnlistedInstruction c f s
  | .lowHalfRead m off => Sys2Proof.Machine.execLowHalfRead m off s
  | .gptpMessageInterval p => Sys2Proof.Machine.execGptpMessageInterval p s

end Sys2Proof.Machine
end

