-- ==== Sys2Proof/WellFormed.lean ====
section
/-! DEFINITION. When a command is well formed: its data are of the lengths and within the ranges that the spec gives what
carries them. A command's meaning is total and asks for none of this; the checks say what a sender may rely on. -/
namespace Sys2Proof

/-- A master that exists: cores 0–15 with engines 0–4 and the Steward 5, functions PF0 and VF1–VF4 (R7, R202, R718). -/
def Machine.Master.wf : Machine.Master → Bool
  | .core n u _ => n < 16 && u < 6
  | .fn f => f < 5
  | .portB => true
  | .nim => true
  | .taps => true
  | .net => true
  | .dbg => true

/-- A submission entry whose buffer, when it was read, has LEN bytes (R731, R735). -/
def SubEntry.wf (e : SubEntry) : Bool :=
  match e.buf with
  | some l => l.length == e.len.toNat
  | none => true

/-- A CSI-2 long packet: its word count has 16 bits (R490). -/
def TapPkt.wf (p : TapPkt) : Bool := p.data.length < 2 ^ 16

/-- A roll-call report: four ports, each with an LV of one byte (R666). -/
def NimReport.wf (r : NimReport) : Bool := r.peers.length == 4 && r.peers.all (fun p => p.2 < 256)

/-- A request over Nimlink: a write carries its bytes, and no access is longer than a 64-byte block (R200, R662). -/
def RemoteReq.wf (q : RemoteReq) : Bool := q.len ≤ 64 && (!q.write || q.data.length == q.len)

/-- Whether a command is well formed. -/
def Instr.wf : Instr → Bool
  | .agree _ _ _ digest => digest.length == 48
  | .scanRecord _ rec => rec.length == 128
  | .tapPacket _ p => p.wf
  | .rollReport _ _ r => r.wf
  | .remoteRequest q => q.wf
  | .sqtail m _ _ | .cqhead m _ _ | .vrhead m _ _ | .qcfgWrite m _ _ | .coreRestartCmd m _ _ | .warmRestartCmd m _ |
  .portAResetCmd m _ | .portBResetCmd m _ | .pairstatForce m _ _ | .cntclr m _ | .runWrite m _ | .watchSvc m _ |
  .wmcfgWrite m _ _ | .watchCfgWrite m _ | .snap m _ | .tpoArm m _ _ | .sobjcfgWrite m _ _ _ | .vmapWrite m _ _ _ _ |
  .mboxWrite m _ _ _ | .cvuStart m _ | .cvuFinish m _ | .cvuDataWrite m _ _ | .cvuValueWrite m _ _ |
  .cvuPosnWrite m _ _ | .cvuExpectWrite m _ _ | .cvuOwnerWrite m _ _ | .cvuAliveCountWrite m _ _ | .debugAttach m _ |
  .faultInjection m _ _ | .registerWrite m _ _ _ | .lowHalfRead m _ => m.wf
  | .hello e | .getStatus e | .start e | .stop e | .revalidate e | .enterService e | .exitService e | .tenantSet e |
  .lcAdvance e | .submit e | .chimeExpect e | .loadProgram e | .loadBundle e | .unloadBundle e | .pairMode e |
  .restartBegin e | .restartDone e | .sioPassword e | .sioParamBegin e | .sioParamWrite e | .sioParamCommit e |
  .sioParamAbort e | .sioAck e | .setWrite e | .setRead e | .store e _ | .counterAdvance e | .counterIncrement e |
  .getCounters e => e.wf
  | .pmicRead (some l) => l.length == 6
  | .pmicRead none => true
  | .add .. | .sub .. | .and .. | .or .. | .xor .. | .shl .. | .shr .. | .sra .. | .mul .. | .mulh .. | .mulhu .. |
  .div .. | .divu .. | .rem .. | .remu .. | .min .. | .max .. | .minu .. | .maxu .. | .clz .. | .popc .. | .sel .. |
  .cmp .. | .plog .. | .pget .. | .pset .. | .addi .. | .andi .. | .ori .. | .xori .. | .shli .. | .shri .. | .srai ..
  | .muli .. | .cmpeqi .. | .cmpnei .. | .cmplti .. | .cmpgei .. | .cmpltui .. | .cmpgeui .. | .movhi .. | .adpc .. |
  .ldb .. | .ldbu .. | .ldh .. | .ldhu .. | .ldw .. | .ldwu .. | .ldd .. | .stb .. | .sth .. | .stw .. | .std .. |
  .dcinv .. | .dcinva .. | .pref .. | .bra .. | .call .. | .jmp .. | .callr .. | .loop .. | .csrr .. | .csrw .. |
  .csrs .. | .csrc .. | .ecall .. | .eret .. | .brk .. | .wfi .. | .icinv .. | .wsvc .. | .ctxsw .. | .pcall .. |
  .pret .. | .halt .. | .sig .. | .sigp .. | .wait .. | .watch .. | .unwatch .. | .srd .. | .bara .. | .barw .. |
  .msg .. | .fences .. | .fencee .. | .mfence .. | .qsig .. | .qwait .. | .qstat .. | .eflush .. | .eresume .. |
  .dispatch .. | .queueEntryFree .. | .fenceToken .. | .signalToken .. | .waitToken .. | .tdld .. | .tdst .. |
  .tdsetw .. | .tmma .. | .vcfg .. | .vrqcfg .. | .vld .. | .vst .. | .vlds .. | .vgath .. | .vscat .. | .vadd .. |
  .vsub .. | .vmul .. | .vfma .. | .vmin .. | .vmax .. | .vabs .. | .vneg .. | .vand .. | .vor .. | .vxor .. |
  .vshl .. | .vshr .. | .vsra .. | .vcvt .. | .vreq .. | .vrsum .. | .vrmax .. | .vexp .. | .vlog .. | .vrcp .. |
  .vrsq .. | .vtanh .. | .vsigm .. | .vcmp .. | .vsel .. | .vspot .. | .mld .. | .mst .. | .mldx .. | .madd .. |
  .msub .. | .mmul .. | .mmac .. | .mred .. | .mmv .. | .mmvf .. | .mrnd .. | .ccfg .. | .cmpt .. | .cmpm .. | .cst ..
  | .cinj .. | .mvcpy .. | .mvrun .. | .mvfill .. | .takeException .. | .tagAllocate .. | .accessComplete .. |
  .replyReceived .. | .epochNotice .. | .markerReturn .. | .waitRelease .. | .msgDelivery .. | .barrierArrival .. |
  .barrierCompletion .. | .deadlockReport .. | .engineLent .. | .creditGrant .. | .slotStart .. | .slotOverrun .. |
  .exit .. | .checkDone .. | .passInfo .. | .passOut .. | .hearthRef .. | .tapFrame .. | .goldenRun .. |
  .goldenRunTimeout .. | .coreRestart .. | .coreRetestDone .. | .trip .. | .powerOn .. | .reeveStart | .bootOk .. |
  .bootFail .. | .recover | .setOk .. | .setNone .. | .pinReset .. | .verifierPowerLoss | .reeveReset | .warm | .rsOk .. | .rsFail |
  .reeveLinkUp .. | .verifierSilent | .reeveLost | .graceEnd | .railFault .. | .clockFailure .. | .x32kReturn |
  .heartbeatToggle .. | .invalidNotice | .scanStrobe .. | .scanRecordMissing .. | .testPulse .. |
  .testPulseEvaluate .. | .outputTestSample .. | .watchmanWarn .. | .watchmanExpiry .. | .retainedCountCopy |
  .selfTestSlice .. | .chkSingleExpiry | .tapFrameStart .. | .syntheticBoundary .. | .tapFrameEnd .. |
  .telltaleWindowComplete .. | .provTimeout .. | .chimeBlock .. | .tdmNoClock | .chimeDeadline | .pullReadComplete ..
  | .inboxWrite .. | .inboxDoorbell .. | .deadline .. | .verdictCommit .. | .restartWindowOpen | .restartWindowEnd ..
  | .hearthStageDone .. | .safetyFrameSend .. | .safetyFrameReceive .. | .pairingWindowEnd .. | .ethLinkChange .. |
  .networkLost .. | .ethFrameReceive .. | .canFrameReceive .. | .canTxAttempt .. | .gptpSync .. | .gptpFollowUp .. |
  .gptpAnnounce .. | .pdelayExchange .. | .syncForward .. | .servoTick | .holdover .. | .tpoPulse .. |
  .nimLinkTrained .. | .nimSessionInstalled .. | .nimStepTimeout .. | .nimLinkDown .. | .nimLaneFail .. |
  .nimPortHoldEnd .. | .nimPacketForward .. | .nimPacketReplay .. | .rollStart .. | .noPeer | .tripNotice .. |
  .claim .. | .standbyCommit .. | .handBack .. | .nimRekey .. | .rngSeed | .rngHealthFail .. | .rngFailTimeout |
  .drbgReseed | .getVersion .. | .getCapabilities .. | .negotiateAlgorithms .. | .getDigests .. | .getCertificate .. |
  .challenge .. | .getMeasurements .. | .keyExchange .. | .finish .. | .endSession .. | .heartbeat .. | .keyUpdate ..
  | .ideKmQuery .. | .kSetGo .. | .kSetStop .. | .serviceEntry | .scrubDone .. | .stopEffect | .patrolScrub .. |
  .channelFailure .. | .retrainDone .. | .mirrorRebuildDone | .domainGating .. | .domainWake .. | .throttleTick .. |
  .overtemp | .portFailure .. | .portReturn .. | .flr .. | .msixModerationTimeout .. | .sioSessionTimeout |
  .lockoutEnd | .sobjHandWrite .. | .debugHalt .. | .debugStep .. | .debugResume .. | .unlistedInstruction .. |
  .gptpMessageInterval .. => true

end Sys2Proof
end

