-- ==== Sys2Proof/Safety.lean ====
section
/-! DEFINITION. What counts as a safe run of the block, in the terms the statements use. -/
namespace Sys2Proof.Machine

/-- A command completes in a state: its meaning answers a next state, and neither a fault nor a refusal. -/
def Completes (i : Instr) (s : State) : Prop := ∃ t, exec i s = .next t

/-- The canonical form of a state: the registers of the control window and the bytes of memory are listed by strictly rising
address, and none is listed that reads the same unlisted; so equal windows and equal memories are equal data. -/
abbrev State.Canonical (s : State) : Prop := SMap.wf regReset s.regs ∧ Memory.wf s

/-- A state from which a run may be trusted: canonical, and no command of its queue is ill formed. -/
def State.Safe (s : State) : Prop := s.Canonical ∧ s.pending.all Instr.wf

/-- The Steward of core `c` is about to run an instruction with fields `f` of level `lvl`: it stands at a boundary outside a
debug step, no event is to be taken first, the fetch is allowed, the predicate holds 1, the level suffices, and for a
serialising instruction no access or posted store of its own is in flight (R208, R214, R216, R220, R249). -/
abbrev State.Ready (s : State) (c : CoreId) (f : IFields) (lvl : Priv) (ser : Bool) : Prop :=
  s.atBoundary c = true ∧ (s.core c).step = false ∧ (s.nextEvent c).isNone = true ∧
  s.fetchFault (s.core c) f = none ∧ (s.core c).preg f.pred.toNat = true ∧
  (s.core c).priv.atLeast lvl = true ∧ (ser = true → (s.inFlight c).isEmpty = true)

/-- An instruction of core `c` fetched, its effect `g` on the core, and the Steward at the next instruction with one more
retired: nothing else changes. -/
def State.retired (s : State) (c : CoreId) (f : IFields) (g : Core → Core) : State :=
  ((s.modCore c Core.fetched).modCore c g).advance c ((s.core c).pc + w64 f.len)

/-- An access of memory at `pa` that no rule refuses: the fence table allows it to the class (R437), its key is there (R173), the
DRAM channel serves and neither copy of the block holds an error (R169, R174, R176, R181–R183), its scratchpad is neither being
restarted nor asleep (R139, R144) and its line is not poisoned (R183). -/
abbrev State.Plain (s : State) (cls : Nat) (write : Bool) (pa : Nat) : Prop :=
  s.fenceOk cls write pa = true ∧ s.keyWait pa = false ∧
  (isDram pa = true → s.dramStat pa = .ok) ∧ s.errAt (pa / 64) = 0 ∧ s.errAt (pa / 64 + 0x4000000) = 0 ∧
  (isDram pa = false → pa < 0x1004000000 →
    s.fld (fCoreState ((pa - 0x1000000000) / 0x200000)) ≠ csRESTARTING ∧
    s.fld (fCoreState ((pa - 0x1000000000) / 0x200000)) ≠ csQUIET) ∧
  s.poison.contains (pa / 64) = false

/-- The identifier `a` names the physical object `obj` in the current context of core `c`, with nothing against it (R453, R455):
a valid map entry, an object of that context, and inside a slot the class that the object's PRIV asks for. -/
abbrev State.Names (s : State) (c : CoreId) (a : Word) (obj : Nat) : Prop :=
  a.toNat ≤ 1023 ∧ s.flag (R.CORE_VMAP_VALID c (s.core c).ctx a.toNat) = true ∧
  s.fld (R.CORE_VMAP_PHYS c (s.core c).ctx a.toNat) = obj ∧ s.fld (R.CORE_SOBJCFG_OWNER c obj) = (s.core c).ctx ∧
  (s.core c).slot.all (fun r => (r.cls == 0) == s.flag (R.CORE_SOBJCFG_PRIV c obj)) = true

/-- The six conditions on an object's value `v` and a threshold `t`, by their number: GE, EQ, NE, LT, GT, LE (R238). -/
def Holds (cond v t : Nat) : Prop :=
  (cond = 0 → t ≤ v) ∧ (cond = 1 → v = t) ∧ (cond = 2 → v ≠ t) ∧ (cond = 3 → v < t) ∧ (cond = 4 → t < v) ∧ (cond = 5 → v ≤ t)

/-- The engine of core `c` that runs `op` starts its entry: the state in which its effect takes place (R770, R771). -/
def State.started (s : State) (c : CoreId) (op : EOp) (env : DispEnv) : State := s.engineStart ⟨c, unitOf op, env⟩

/-- The entry `op` with its captured fields and scalars stands at the head of its engine's queue, the engine is neither halted nor
stopped by the debugger, and it gets its power credit (R149, R254, R771, R782). -/
abbrev State.Runs (s : State) (c : CoreId) (op : EOp) (f : IFields) (a b d : Word) (env : DispEnv) : Prop :=
  ((s.core c).queue op.eng).head? = some (.op op f a b d env) ∧ (s.core c).engineFree op.eng = true ∧
  bit ((s.started c op env).core c).withheld op.eng = false

/-- A byte of memory as core `c` sees it at an address; 0 where no memory is. -/
def State.see (s : State) (c : CoreId) (a : Nat) : Byte :=
  match s.loc (some c) a with
  | .mem pa => s.byte pa
  | _ => 0

/-- The little-endian number of `n` bytes of memory as core `c` sees them. -/
def State.seen (s : State) (c : CoreId) (a n : Nat) : Nat := leNat ((List.range n).map (fun i => s.see c (a + i)))

/-- A range of memory that an entry may read or write with no rule against it (R287): allowed to its level and windows, in memory,
and plain. -/
def State.MemOk (s : State) (c : CoreId) (env : DispEnv) (write : Bool) (a n : Nat) : Prop :=
  (0 < n → s.dataOk env.priv env.wins write a n = true) ∧
  ∀ i, i < n → ∃ pa, s.loc (some c) (a + i) = .mem pa ∧ s.Plain env.cls write pa

/-- A scalar register file after one register is written: s0 reads 0 whatever is written (R211). -/
def sregAfter (k : Core) (r : Nat) (v : Word) (q : Nat) : Word := if q = 0 then 0 else if q = r then v else k.sreg q

/-- Nothing asynchronous is pending at core `c`: no event, no fired watch, and its timer has not come (R249, R250). -/
abbrev State.Calm (s : State) (c : CoreId) : Prop :=
  (s.core c).pend = ⟨[], 0, false, false, false, none⟩ ∧ (∀ w ∈ (s.core c).watches, w.fired = false) ∧ s.timerPending c = false

/-- Core `c` runs service `n` of the S runtime for its program `run`, with nothing pending (R247, R263). -/
abbrev State.Serves (s : State) (c : CoreId) (n : Nat) (run : SlotRun) : Prop :=
  s.inService c n = true ∧ (s.core c).slot = some run ∧ s.Calm c

/-- Core `c` has gone back to its program from the S runtime (R234): level U, at the instruction after the ECALL. -/
abbrev State.Resumed (s t : State) (c : CoreId) : Prop :=
  (t.core c).priv = .u ∧ (t.core c).pc = (s.core c).rdCsr 0x0A ∧ (t.core c).stw = .run ∧ (t.core c).inExc .s = false

/-- Core `c` has been fenced and reset between two states (R125, R126 step 1, R134): RESTARTING, its epoch and RESTARTS one higher,
the cause recorded, everything of it at its reset values, and nothing of the other cores or of other memory changed. -/
def State.Fenced (s t : State) (c : CoreId) (cause : Nat) : Prop :=
  t.fld (fCoreState c) = csRESTARTING ∧ t.fld (R.CORE_EPOCH_LAST_CAUSE c) = cause ∧
  t.fld (R.CORE_EPOCH_EPOCH c) = (if s.fld (R.CORE_EPOCH_EPOCH c) = 0xFFFF then 1 else s.fld (R.CORE_EPOCH_EPOCH c) + 1) ∧
  t.fld (R.CORE_EPOCH_RESTARTS c) = min (s.fld (R.CORE_EPOCH_RESTARTS c) + 1) 255 ∧ t.core c = Core.reset ∧
  (∀ q, q ≠ c.val → t.core q = s.core q) ∧ ∀ a, regionOf a ≠ 8 + c.val → t.byte a = s.byte a

/-- `sp` is the spare that R127 has the device choose for core `c`. -/
def State.Spare (s : State) (c sp : CoreId) : Prop :=
  let spare := fun (d : Nat) => d ≠ c.val ∧ s.fld (fCoreState d) = csSPARE
  spare sp ∧ ((sp.val / 4 = c.val / 4 ∧ ∀ d, d < sp.val → d / 4 = c.val / 4 → ¬ spare d) ∨
    ((∀ d, d < 16 → d / 4 = c.val / 4 → ¬ spare d) ∧ ∀ d, d < sp.val → ¬ spare d))

/-- The device has tripped between two states (R558–R561): TRIPPED for good with the first source recorded, both latches set, every
safe output low, the marking in force; cores and memory stand as they were. -/
def State.Tripped (s t : State) (source detail : Nat) (reeveDie : Bool) : Prop :=
  t.st = stTRIPPED ∧ t.flag R.SAFETY_TRIP_TRIPPED = true ∧ t.fld R.SAFETY_TRIP_SOURCE = source ∧
  t.fld R.SAFETY_TRIP_DETAIL = detail ∧ t.flag R.SAFETY_TRIP_DIE = reeveDie ∧ t.reeve.tripA = true ∧ t.reeve.tripB = true ∧
  t.pins.faultA = false ∧ t.pins.faultB = false ∧ t.pins.stoHs = 0 ∧ t.pins.stoLs = 0 ∧ t.pins.dispValid = 0 ∧
  t.flag R.DEVICE_STATE_INVALID = true ∧ t.flag R.DEVICE_STATE_GRACE = false ∧ t.cores = s.cores ∧ t.mem = s.mem

/-- DEV_EPOCH one step on, from 0xFF to 0x01 (R103). -/
def State.nextDevEpoch (s : State) : Nat :=
  if s.fld R.DEVICE_STATE_DEV_EPOCH = 0xFF then 1 else s.fld R.DEVICE_STATE_DEV_EPOCH + 1

/-- The results of a self-test in which no unit without twin or spare failed and every mirror pair kept a channel (R119). -/
abbrev State.TestsOk (s : State) (t : SelfTest) : Prop := t.fatal = false ∧ (s.dev.reduced = true ∨ s.pairLost t = false)

/-- A function starts the command of entry `e` now, and no general rule refuses the entry itself (R730, R734, R735, R698, R714). -/
abbrev State.Fetches (s : State) (e : SubEntry) : Prop :=
  s.canStart e.fn = true ∧ s.ideShut 0 = false ∧ s.flag R.KEEP_STATUS_SCRUBBING = false ∧ e.rsv = false ∧ e.cid ≠ 0xFFFF

/-- A command of PF0 that its version allows, in a device that has not tripped (R103, R736, R741). -/
abbrev State.FromPf0 (s : State) (e : SubEntry) : Prop :=
  s.Fetches e ∧ e.fn = 0 ∧ s.st ≠ stTRIPPED ∧ 0x10 ≤ s.fld (R.PCIEA_F_FSTATUS_VERSION 0)

/-- The command of entry `e` has been taken from its queue and completed (R732, R733): its completion stands in the completion queue
or waits for a slot, and it is no longer in progress. -/
def State.Completed (s t : State) (e : SubEntry) (status info : Nat) : Prop :=
  (t.fn e.fn).sqHead = ((s.fn e.fn).sqHead + 1) % s.sqSize e.fn ∧
  (∃ x ∈ (t.fn e.fn).cq ++ (t.fn e.fn).waiting, x.cid = e.cid.toNat ∧ x.kind = 0 ∧ x.status = status ∧ x.info = info) ∧
  ∀ y ∈ (t.fn e.fn).inprog, y.cid ≠ e.cid.toNat

/-- The command of entry `e` has been taken from its queue and is in progress (R108, R733). -/
def State.Awaits (s t : State) (e : SubEntry) (opc : Nat) : Prop :=
  (t.fn e.fn).sqHead = ((s.fn e.fn).sqHead + 1) % s.sqSize e.fn ∧ ⟨e.cid.toNat, opc⟩ ∈ (t.fn e.fn).inprog ∧
  (t.fn e.fn).cq = (s.fn e.fn).cq ∧ (t.fn e.fn).waiting = (s.fn e.fn).waiting

end Sys2Proof.Machine
end

