-- ==== Sys2Proof/Certificates/Slice0/Obligations.lean ====
section
/-! DEFINITION. The statements about the block, for the provers. -/
open Sys2Proof Sys2Proof.Machine

/-- The block takes its commands one at a time, first in first out: a step with command `c` at the front of the queue is the
meaning of `c` on the state with the queue's rest. No command is refused and none ends in a fault: whatever the state and the
operands, the meaning of every command, each constructor of the table, answers a next state. -/
def Obligations.StepRunsFrontCommand : Prop :=
  (∀ (c : Instr) (rest : List Instr) (s : State), s.pending = c :: rest → step s = exec c { s with pending := rest }) ∧
  ∀ (c : Instr) (s : State), ∃ t, exec c s = .next t

/-- From R18, R100, R134, R249: the block at power-on. Every field of every register reads its Reset column, the device is in
BOOT, nothing waits, every core is held with its registers at 0, every output is low, and the state is canonical. That memory
reads 0 until it is first written or lost is the model's choice (log entry 4). -/
def Obligations.ResetState : Prop :=
  let s := State.reset
  s.Canonical ∧ s.pending = [] ∧ s.st = stBOOT ∧ s.tb2 = 0 ∧
  (∀ off r, regAt off = some (r, 0) → ∀ f ∈ r.fields, (s.reg off).toNat / 2 ^ f.lo % 2 ^ f.w = f.reset) ∧
  (∀ c, (s.core c).stw = .held ∧ (∀ q, (s.core c).sreg q = 0) ∧ (s.core c).preg 0 = true ∧ ∀ q, q < 8 → q ≠ 0 → (s.core c).preg q = false) ∧
  s.pins.faultA = false ∧ s.pins.faultB = false ∧ s.pins.stoHs = 0 ∧ s.pins.stoLs = 0 ∧ s.pins.dispValid = 0 ∧
  ∀ a, s.byte a = 0

/-- A step on an empty queue is one tick of SUN, which is the model's choice (log entry 26). Nothing happens while the block is
off; otherwise TB2 advances by 4 ns (R614) unless the Reeve is held in reset (R134), a core that is not held in reset counts six
CORE cycles (R221), a core whose program has no cycle of its slot left has SLOT_OVERRUN pending (R262), and memory, the fabric's
transactions and the queue stay as they are. -/
def Obligations.IdleTick : Prop :=
  ∀ s : State, s.pending = [] →
    (s.dev.off = true → step s = .next s) ∧
    (s.dev.off = false → ∃ t, step s = .next t ∧ t.tb2 = (if s.reeve.inReset then s.tb2 else s.tb2 + 4) ∧ t.pending = [] ∧ t.mem = s.mem ∧ t.fab = s.fab ∧ t.jobs = s.jobs ∧
      t.dev = s.dev ∧ ∀ c : CoreId,
        ((s.core c).stw = .held → t.core c = s.core c) ∧
        ((s.core c).stw ≠ .held → (t.core c).rdCsr 0x20 = (s.core c).rdCsr 0x20 + 6 ∧ (t.core c).pc = (s.core c).pc ∧
          (∀ q, (t.core c).sreg q = (s.core c).sreg q) ∧
          (t.core c).pend = (let left := ((s.core c).rdCsr 0x30).toNat
            if (s.core c).slot.any (fun r => !r.exited) && decide (0 < left ∧ left ≤ 6) then { (s.core c).pend with slotOverrun := true }
            else (s.core c).pend)))

/-- The canonical form is an invariant: from every canonical state, whatever command stands at the front of the queue and on an
empty queue too, a step leads to a canonical state. So equal registers and equal memories are equal data in every run. -/
def Obligations.StepKeepsCanonical : Prop :=
  ∀ s t : State, s.Canonical → step s = .next t → t.Canonical

/-- From R212: the predicate registers hold one bit each; p0 reads as 1, and a write to it is discarded. -/
def Obligations.PredicateRegisters : Prop :=
  ∀ (k : Core) (r q : Nat) (v : Bool), r < 8 → q < 8 →
    k.preg 0 = true ∧ k.setP 0 v = k ∧
    (r ≠ 0 → (k.setP r v).preg q = if q = r then v else k.preg q)

/-- From R537: with ALIVE = FOLD, FINISH feeds AW ÷ 8 bytes of ALIVE.COUNT, low byte first, before output reflection, then adds
1 to COUNT modulo 2^AW; STAT.AOUT then reads OK. -/
def Obligations.FoldedAliveCounter : Prop :=
  ∀ (n a : Nat) (u : Fin 32) (s : State), s.st ≠ stTRIPPED → s.fld (R.CVU_U_CFG_ALIVE u) = 1 →
    let w := s.fld (R.CVU_U_CFG_WIDTH u)
    let aw := 8 * 2 ^ min 2 (s.fld (R.CVU_U_CFG_AW u))
    let count := s.fld (R.CVU_U_ALIVE_COUNT u)
    let fed := (List.range (aw / 8)).map (fun i => BitVec.ofNat 8 (count / 256 ^ i))
    let value := crcFeed w (s.fld (R.CVU_U_POLY_V u)) (s.flag (R.CVU_U_CFG_REFIN u)) (s.fld (R.CVU_U_VALUE_V u)) fed % 2 ^ 64
    ∃ t, exec (.cvuFinish (.core n a .m) u) s = .next t ∧ t.fld (R.CVU_U_VALUE_V u) = value ∧
      t.fld (R.CVU_U_RESULT_V u) = crcOut w (s.flag (R.CVU_U_CFG_REFOUT u)) (s.fld (R.CVU_U_XOROUT_V u)) value % 2 ^ 64 ∧
      t.fld (R.CVU_U_ALIVE_COUNT u) = (count + 1) % 2 ^ aw ∧ t.fld (R.CVU_U_STAT_AOUT u) = 1

/-- From R223: what the two-register operations of class 0 leave in `s[dst]`, in their 64-bit form and under W; the shifts use
the low 6 or 5 bits of b, MULH and MULHU the high half of the exact product, and nothing else but the fetch and the retirement
happens. From R223: CLZ counts the zeros above the highest set bit and POPC the set bits, in both forms; SEL chooses by the
predicate that mod[2:0] names. From R223: division, in both forms. With a divisor other than 0 the quotient is truncated toward
zero and the remainder takes the sign of the dividend; the least value by −1 gives the least value and remainder 0. -/
def Obligations.IntegerResults : Prop :=
  (∀ (c : CoreId) (f : IFields) (s : State), s.Ready c f .u false → f.mod.toNat % 4 = 0 → f.hasExt = false →
     let a := (s.core c).sreg f.srcA.toNat
     let b := (s.core c).sreg f.srcB.toNat
     let a' := a.setWidth 32
     let b' := b.setWidth 32
     let r := fun (x : Word) (y : BitVec 32) =>
       Host.Outcome.next (φ := Fault) (ρ := Refusal)
         (s.retired c f (fun k => k.setS f.dst.toNat (if f.mod.getLsbD 2 then y.signExtend 64 else x)))
     exec (.add c f) s = r (a + b) (a' + b') ∧ exec (.sub c f) s = r (a - b) (a' - b') ∧
     exec (.and c f) s = r (a &&& b) (a' &&& b') ∧ exec (.or c f) s = r (a ||| b) (a' ||| b') ∧
     exec (.xor c f) s = r (a ^^^ b) (a' ^^^ b') ∧
     exec (.shl c f) s = r (a <<< (b.toNat % 64)) (a' <<< (b'.toNat % 32)) ∧
     exec (.shr c f) s = r (a >>> (b.toNat % 64)) (a' >>> (b'.toNat % 32)) ∧
     exec (.sra c f) s = r (a.sshiftRight (b.toNat % 64)) (a'.sshiftRight (b'.toNat % 32)) ∧
     exec (.mul c f) s = r (a * b) (a' * b') ∧
     exec (.mulh c f) s = r (BitVec.ofInt 64 (a.toInt * b.toInt / 2 ^ 64)) (BitVec.ofInt 32 (a'.toInt * b'.toInt / 2 ^ 32)) ∧
     exec (.mulhu c f) s = r (BitVec.ofNat 64 (a.toNat * b.toNat / 2 ^ 64)) (BitVec.ofNat 32 (a'.toNat * b'.toNat / 2 ^ 32)) ∧
     exec (.min c f) s = r (if b.toInt < a.toInt then b else a) (if b'.toInt < a'.toInt then b' else a') ∧
     exec (.max c f) s = r (if a.toInt < b.toInt then b else a) (if a'.toInt < b'.toInt then b' else a') ∧
     exec (.minu c f) s = r (if b.toNat < a.toNat then b else a) (if b'.toNat < a'.toNat then b' else a') ∧
     exec (.maxu c f) s = r (if a.toNat < b.toNat then b else a) (if a'.toNat < b'.toNat then b' else a')) ∧
  (∀ (c : CoreId) (f : IFields) (s : State), s.Ready c f .u false → f.hasExt = false →
     let a := (s.core c).sreg f.srcA.toNat
     let b := (s.core c).sreg f.srcB.toNat
     let r := fun (x : Word) => Host.Outcome.next (φ := Fault) (ρ := Refusal) (s.retired c f (fun k => k.setS f.dst.toNat x))
     (f.mod.toNat % 4 = 0 → f.srcB = 0 →
       (f.mod.getLsbD 2 = false → ∃ n m : Nat,
         exec (.clz c f) s = r (w64 n) ∧ exec (.popc c f) s = r (w64 m) ∧
         (a = 0 → n = 64) ∧ (a ≠ 0 → n ≤ 63 ∧ 2 ^ (63 - n) ≤ a.toNat ∧ a.toNat < 2 ^ (64 - n)) ∧
         m = ((List.range 64).filter (fun i => a.getLsbD i)).length) ∧
       (f.mod.getLsbD 2 = true → ∃ n m : Nat,
         exec (.clz c f) s = r (w64 n) ∧ exec (.popc c f) s = r (w64 m) ∧
         (a.toNat % 2 ^ 32 = 0 → n = 32) ∧
         (a.toNat % 2 ^ 32 ≠ 0 → n ≤ 31 ∧ 2 ^ (31 - n) ≤ a.toNat % 2 ^ 32 ∧ a.toNat % 2 ^ 32 < 2 ^ (32 - n)) ∧
         m = ((List.range 32).filter (fun i => a.getLsbD i)).length)) ∧
     exec (.sel c f) s = r (if (s.core c).preg f.low3 then a else b)) ∧
  (∀ (c : CoreId) (f : IFields) (s : State), s.Ready c f .u false → f.mod.toNat % 4 = 0 → f.hasExt = false →
     let a := (s.core c).sreg f.srcA.toNat
     let b := (s.core c).sreg f.srcB.toNat
     let a' := a.setWidth 32
     let b' := b.setWidth 32
     let r := fun (x : Word) (y : BitVec 32) =>
       Host.Outcome.next (φ := Fault) (ρ := Refusal)
         (s.retired c f (fun k => k.setS f.dst.toNat (if f.mod.getLsbD 2 then y.signExtend 64 else x)))
     (if f.mod.getLsbD 2 then b'.toNat ≠ 0 else b.toNat ≠ 0) →
       exec (.div c f) s = r (BitVec.ofInt 64 (a.toInt.tdiv b.toInt)) (BitVec.ofInt 32 (a'.toInt.tdiv b'.toInt)) ∧
       exec (.rem c f) s = r (BitVec.ofInt 64 (a.toInt.tmod b.toInt)) (BitVec.ofInt 32 (a'.toInt.tmod b'.toInt)) ∧
       exec (.divu c f) s = r (w64 (a.toNat / b.toNat)) (BitVec.ofNat 32 (a'.toNat / b'.toNat)) ∧
       exec (.remu c f) s = r (w64 (a.toNat % b.toNat)) (BitVec.ofNat 32 (a'.toNat % b'.toNat)))

/-- From R223–R225: predicates. CMP and the immediate compares write one predicate, PLOG combines two, PGET and PSET move all
eight; p0 reads 1 whatever is written. From R225: the immediate operations. The immediate is imm8 or the extension word,
sign-extended. -/
def Obligations.PredicateAndImmediateResults : Prop :=
  (∀ (c : CoreId) (f : IFields) (s : State), s.Ready c f .u false →
     let k := s.core c
     let a := k.sreg f.srcA.toNat
     let b := k.sreg f.srcB.toNat
     let set := fun (q : Nat) (v : Bool) => Host.Outcome.next (φ := Fault) (ρ := Refusal) (s.retired c f (fun k => k.setP q v))
     (f.hasExt = false → f.dst.toNat < 8 → f.low3 < 6 →
       exec (.cmp c f) s = set f.dst.toNat (match f.low3 with
         | 0 => a == b
         | 1 => a != b
         | 2 => a.toInt < b.toInt
         | 3 => b.toInt ≤ a.toInt
         | 4 => a.toNat < b.toNat
         | _ => b.toNat ≤ a.toNat)) ∧
     (f.immOk = true → f.dst.toNat < 8 →
       exec (.cmpeqi c f) s = set f.dst.toNat (a == f.imm) ∧ exec (.cmpnei c f) s = set f.dst.toNat (a != f.imm) ∧
       exec (.cmplti c f) s = set f.dst.toNat (a.toInt < f.imm.toInt) ∧
       exec (.cmpgei c f) s = set f.dst.toNat (f.imm.toInt ≤ a.toInt) ∧
       exec (.cmpltui c f) s = set f.dst.toNat (a.toNat < f.imm.toNat) ∧
       exec (.cmpgeui c f) s = set f.dst.toNat (f.imm.toNat ≤ a.toNat)) ∧
     (f.hasExt = false → f.low3 < 4 →
       let x := k.preg (f.srcA.toNat % 8)
       let y := k.preg (f.srcB.toNat % 8)
       exec (.plog c f) s = set (f.dst.toNat % 8) (match f.low3 with
         | 0 => x && y
         | 1 => x || y
         | 2 => x != y
         | _ => x && !y)) ∧
     (f.hasExt = false → f.srcA = 0 → f.srcB = 0 →
       exec (.pget c f) s = .next (s.retired c f (fun k => k.setS f.dst.toNat (((k.p ||| 1).setWidth 64))))) ∧
     (f.hasExt = false → f.dst = 0 → f.srcB = 0 →
       ∃ t, exec (.pset c f) s = .next t ∧ t = s.retired c f (fun k => { k with p := a.setWidth 8 &&& 0xFE }) ∧
         ∀ q, 1 ≤ q → q < 8 → (t.core c).preg q = a.getLsbD q) ∧
     (s.retired c f (fun k => k.setP 0 false)) = s.retired c f id) ∧
  (∀ (c : CoreId) (f : IFields) (s : State), s.Ready c f .u false →
     let a := (s.core c).sreg f.srcA.toNat
     let imm := if f.hasExt then f.ext.signExtend 64 else (BitVec.ofNat 8 f.imm8).signExtend 64
     let r := fun (x : Word) => Host.Outcome.next (φ := Fault) (ρ := Refusal) (s.retired c f (fun k => k.setS f.dst.toNat x))
     (f.immOk = true →
       exec (.addi c f) s = r (a + imm) ∧ exec (.andi c f) s = r (a &&& imm) ∧ exec (.ori c f) s = r (a ||| imm) ∧
       exec (.xori c f) s = r (a ^^^ imm) ∧ exec (.muli c f) s = r (a * imm)) ∧
     (f.hasExt = false → f.imm8 < 64 →
       exec (.shli c f) s = r (a <<< f.imm8) ∧ exec (.shri c f) s = r (a >>> f.imm8) ∧
       exec (.srai c f) s = r (a.sshiftRight f.imm8)) ∧
     (f.hasExt = true → f.immOk = true → f.srcA = 0 →
       exec (.movhi c f) s = r (w64 (f.ext.toNat * 2 ^ 32 + ((s.core c).sreg f.dst.toNat).toNat % 2 ^ 32))) ∧
     (f.immOk = true → f.srcA = 0 → exec (.adpc c f) s = r ((s.core c).pc + imm)))

/-- From R226: the seven loads of memory. The address is a plus the offset (imm8 times the size, or the extension word); the
loaded little-endian value, extended with sign or zeros, is written to `s[dst]`; nothing of memory or of the control window
changes. From R226, R230, R233: the cache instructions change nothing but the caches of their core. DCINVA and ICINV empty them,
DCINV drops exactly the lines that overlap a to a + b − 1, and PREF, of an allowed and readable address that is cacheable and
not yet cached, fills the line with what memory holds and the core's own stores in flight over it (R193), in place of another
line when its set of four ways is full; at an address of a Nimlink view it changes nothing (R155). -/
def Obligations.LoadsAndCaches : Prop :=
  (∀ (c : CoreId) (f : IFields) (s : State), s.Ready c f .u false → f.immOk = true →
     let k := s.core c
     let ld := fun (n : Nat) (i : Instr) (ext : Nat → Word) => ∀ pa : Nat,
       let off : Word := if f.hasExt then f.ext.signExtend 64 else (BitVec.ofNat 8 f.imm8).signExtend 64 * BitVec.ofNat 64 n
       let a := (k.sreg f.srcA.toNat + off).toNat
       a % n = 0 → s.dataOk k.priv k.wins false a n = true → s.storesOver c a n = false → s.loc (some c) a = .mem pa →
       s.Plain k.cls false pa → (∀ l, k.cached pa = some l → (l.drop (pa % 64)).take n = s.bytes pa n) →
       ∃ t, exec i s = .next t ∧ (t.core c).pc = k.pc + w64 f.len ∧ (t.core c).priv = k.priv ∧
         (∀ q, (t.core c).sreg q = sregAfter k f.dst.toNat (ext (leNat (s.bytes pa n))) q) ∧
         (t.core c).p = k.p ∧ t.mem = s.mem ∧ t.memGen = s.memGen ∧ t.regs = s.regs ∧ t.fab = s.fab ∧
         ∀ d : Nat, d ≠ c → t.core d = s.core d
     ld 1 (.ldb c f) (fun x => (BitVec.ofNat 8 x).signExtend 64) ∧ ld 1 (.ldbu c f) (fun x => BitVec.ofNat 64 x) ∧
     ld 2 (.ldh c f) (fun x => (BitVec.ofNat 16 x).signExtend 64) ∧ ld 2 (.ldhu c f) (fun x => BitVec.ofNat 64 x) ∧
     ld 4 (.ldw c f) (fun x => (BitVec.ofNat 32 x).signExtend 64) ∧ ld 4 (.ldwu c f) (fun x => BitVec.ofNat 64 x) ∧
     ld 8 (.ldd c f) (fun x => BitVec.ofNat 64 x)) ∧
  (∀ (c : CoreId) (f : IFields) (s : State),
     let k := s.core c
     (s.Ready c f .u true → f.hasExt = false → f.dst = 0 → f.mod = 0 → ∃ t, exec (.dcinv c f) s = .next t ∧
       t = s.retired c f (fun q => { q with dcache := (t.core c).dcache }) ∧
       ∀ l d, (l, d) ∈ (t.core c).dcache ↔ (l, d) ∈ k.dcache ∧
         ((k.sreg f.srcB.toNat).toNat = 0 ∨ (k.sreg f.srcA.toNat).toNat + (k.sreg f.srcB.toNat).toNat ≤ 64 * l ∨
           64 * l + 64 ≤ (k.sreg f.srcA.toNat).toNat)) ∧
     (s.Ready c f .u true → f.hasExt = false → f.dst = 0 → f.srcA = 0 → f.srcB = 0 →
       exec (.dcinva c f) s = .next (s.retired c f (fun q => { q with dcache := [] }))) ∧
     (s.Ready c f .s true → f.hasExt = false →
       exec (.icinv c f) s = .next (s.retired c f (fun q => { q with icache := [] }))) ∧
     (s.Ready c f .u false → f.immOk = true → ∀ pa, s.loc (some c) (k.sreg f.srcA.toNat + f.imm).toNat = .mem pa →
       (pa < 0x200000000 ∨ 0x1004000000 ≤ pa) → s.dataOk k.priv k.wins false (k.sreg f.srcA.toNat + f.imm).toNat 1 = true →
       s.Plain k.cls false pa → k.cached pa = none →
       if 0x4000000000 ≤ (k.sreg f.srcA.toNat + f.imm).toNat then exec (.pref c f) s = .next (s.retired c f (fun q => q))
       else
         let room := (k.dcache.filter (fun l => l.1 % 128 = pa / 64 % 128 ∧ l.1 ≠ pa / 64)).length < 4
         (room → exec (.pref c f) s = .next (s.retired c f (fun q => { q with
           dcache := (pa / 64, s.lineOf c pa) :: k.dcache.filter (fun l => l.1 ≠ pa / 64) }))) ∧
         ((∀ o ∈ s.inFlight c, o.write = false) → s.lineOf c pa = s.bytes (pa / 64 * 64) 64) ∧
         (¬room → ∃ t out, exec (.pref c f) s = .next t ∧ out % 128 = pa / 64 % 128 ∧
           (t.core c).dcache = (pa / 64, s.lineOf c pa) :: k.dcache.filter (fun l => l.1 ≠ out ∧ l.1 ≠ pa / 64) ∧
           (t.core c).pc = k.pc + w64 f.len ∧ (∀ q, (t.core c).sreg q = k.sreg q) ∧ t.mem = s.mem ∧ t.regs = s.regs ∧
           ∀ d : Nat, d ≠ c → t.core d = s.core d)))

/-- From R226, R228, R201: the four stores outside the control window are posted: the low bytes of d set out to the address as a
tagged write, memory does not change yet, and the Steward goes on. From R191, R192, R228: a posted store that is the oldest of
its ordered path reaches the point of visibility of memory: its bytes stand at its address, every other byte reads as before,
and its tag is free. -/
def Obligations.PostedStores : Prop :=
  (∀ (c : CoreId) (f : IFields) (s : State), s.Ready c f .u false → f.immOk = true →
     let k := s.core c
     let st := fun (n : Nat) (i : Instr) => ∀ pa : Nat,
       let off : Word := if f.hasExt then f.ext.signExtend 64 else (BitVec.ofNat 8 f.imm8).signExtend 64 * BitVec.ofNat 64 n
       let a := (k.sreg f.srcA.toNat + off).toNat
       a % n = 0 → s.dataOk k.priv k.wins true a n = true → s.loc (some c) a = .mem pa → s.tagFree c 5 k.cls = true →
       ∃ (t : State) (o : Outst), exec i s = .next t ∧ t.fab.outst = s.fab.outst ++ [o] ∧ o.core = c.val ∧ o.unit = 5 ∧ o.write = true ∧
         o.addr = a ∧ o.cls = k.cls ∧ o.priv = k.priv ∧ o.tag = s.fab.nextId ∧ t.fab.nextId = s.fab.nextId + 1 ∧
         o.data.length = n ∧ leNat o.data = (k.sreg f.dst.toNat).toNat % 256 ^ n ∧
         (t.core c).pc = k.pc + w64 f.len ∧ (∀ q, (t.core c).sreg q = k.sreg q) ∧ (t.core c).p = k.p ∧
         t.regs = s.regs ∧ (∀ x, t.byte x = s.byte x) ∧ ∀ d : Nat, d ≠ c → t.core d = s.core d
     st 1 (.stb c f) ∧ st 2 (.sth c f) ∧ st 4 (.stw c f) ∧ st 8 (.std c f)) ∧
  (∀ (o : Outst) (st : MStat) (pa : Nat) (s : State), s.fab.outst.find? (fun x => x.tag == o.tag && x.write) = some o →
     s.behind o = false → s.loc (some o.core) o.addr = .mem pa → s.issueEpoch (.mem pa) = o.epoch → s.Plain o.cls true pa →
     ∃ t, exec (.accessComplete o.tag ⟨st, .none⟩) s = .next t ∧
       (∀ i, i < o.data.length → some (t.byte (pa + i)) = o.data[i]?) ∧
       (∀ x, x < pa ∨ pa + o.data.length ≤ x → t.byte x = s.byte x) ∧
       t.fab.outst = s.fab.outst.filter (fun x => x.tag ≠ o.tag) ∧ t.cores = s.cores ∧ t.regs = s.regs)

/-- From R231, R232: BRA, CALL, JMP, CALLR and LOOP with an aligned target. The pc becomes the target and nothing else changes
but s31 (CALL, CALLR), the counter (LOOP) and the trace of the branch. -/
def Obligations.BranchResults : Prop :=
  ∀ (c : CoreId) (f : IFields) (s : State), s.Ready c f .u false →
    let k := s.core c
    let off : Word := if f.hasExt then f.ext.signExtend 64
      else BitVec.ofInt 64 (4 * (BitVec.ofNat 18 (f.dst.toNat * 8192 + f.srcA.toNat * 256 + f.srcB.toNat * 8 + f.low3)).toInt)
    let loff : Word := BitVec.ofInt 64 (4 * (BitVec.ofNat 13 (f.srcA.toNat * 256 + f.srcB.toNat * 8 + f.low3)).toInt)
    let s1 := s.modCore c Core.fetched
    let go := fun (i : Instr) (target : Word) (s2 : State) =>
      exec i s = .next ((s2.traceRec c 1 target.toNat).modCore c
        (fun q => { q.wrCsr 0x21 (q.rdCsr 0x21 + 1) with pc := target, stw := .run }))
    (f.braOk = true → (k.pc + off).toNat % 4 = 0 →
      go (.bra c f) (k.pc + off) s1 ∧ go (.call c f) (k.pc + off) (s1.modCore c (fun q => q.setS 31 (k.pc + w64 f.len)))) ∧
    (f.dst = 0 → f.srcB = 0 → f.mod = 0 → (k.sreg f.srcA.toNat).toNat % 4 = 0 →
      go (.jmp c f) (k.sreg f.srcA.toNat) s1 ∧
      go (.callr c f) (k.sreg f.srcA.toNat) (s1.modCore c (fun q => q.setS 31 (k.pc + 4)))) ∧
    (f.hasExt = false → 1 < (k.sreg f.dst.toNat).toNat → (k.pc + loff).toNat % 4 = 0 →
      go (.loop c f) (k.pc + loff) (s1.modCore c (fun q => q.setS f.dst.toNat (k.sreg f.dst.toNat - 1)))) ∧
    (f.hasExt = false → (k.sreg f.dst.toNat).toNat ≤ 1 →
      exec (.loop c f) s = .next (s.retired c f (fun q => q.setS f.dst.toNat 0)))

/-- From R223, R226, R232, R247, R253: the traps of ordinary data. Division by 0 in both forms raises ARITH, a misaligned access
DALIGN, one that R216 or R217 does not allow ACCESS, a misaligned branch target IALIGN, at the branch and whatever form it has,
the last three with the address in EVAL; the instruction has no other effect. -/
def Obligations.TrapsOfOrdinaryData : Prop :=
  ∀ (c : CoreId) (f : IFields) (s : State), s.Ready c f .u false →
    let k := s.core c
    let a := k.sreg f.srcA.toNat
    let b := k.sreg f.srcB.toNat
    let trap := fun (i : Instr) (code : Nat) (v : Word) =>
      exec i s = .next ((s.modCore c Core.fetched).raise c ⟨code, 0, 0, false, v⟩ k.pc)
    let off := fun (n : Nat) =>
      (if f.hasExt then f.ext.signExtend 64 else (BitVec.ofNat 8 f.imm8).signExtend 64 * BitVec.ofNat 64 n : Word)
    let bad := fun (w : Bool) (n : Nat) (i : Instr) =>
      ((a + off n).toNat % n ≠ 0 → trap i 0x05 (a + off n)) ∧
      ((a + off n).toNat % n = 0 → s.dataOk k.priv k.wins w (a + off n).toNat n = false → trap i 0x06 (a + off n))
    (f.mod.toNat % 4 = 0 → f.hasExt = false →
      (if f.mod.getLsbD 2 then b.toNat % 2 ^ 32 = 0 else b = 0) →
      trap (.div c f) 0x08 0 ∧ trap (.divu c f) 0x08 0 ∧ trap (.rem c f) 0x08 0 ∧ trap (.remu c f) 0x08 0) ∧
    (f.immOk = true →
      bad false 1 (.ldb c f) ∧ bad false 1 (.ldbu c f) ∧ bad false 2 (.ldh c f) ∧ bad false 2 (.ldhu c f) ∧
      bad false 4 (.ldw c f) ∧ bad false 4 (.ldwu c f) ∧ bad false 8 (.ldd c f) ∧
      bad true 1 (.stb c f) ∧ bad true 2 (.sth c f) ∧ bad true 4 (.stw c f) ∧ bad true 8 (.std c f)) ∧
    (let jump := fun (i : Instr) (tgt : Word) => tgt.toNat % 4 ≠ 0 → exec i s = .next (s.raise c ⟨0x02, 0, 0, false, tgt⟩ k.pc)
      let boff : Word := if f.hasExt then f.ext.signExtend 64
        else BitVec.ofInt 64 (4 * (BitVec.ofNat 18 (f.dst.toNat * 8192 + f.srcA.toNat * 256 + f.srcB.toNat * 8 + f.low3)).toInt)
      jump (.jmp c f) a ∧ jump (.callr c f) a ∧ jump (.bra c f) (k.pc + boff) ∧ jump (.call c f) (k.pc + boff))

/-- From R233, R221: CSRR, CSRW, CSRS and CSRC at a level that may: the old value goes to `s[dst]` (CSRR, CSRS, CSRC) and the
writable bits take the new one; a write of a read-only register is discarded; a level below the register's raises PRIV and a
number that R221 does not list ILLEGAL. -/
def Obligations.CsrResults : Prop :=
  ∀ (c : CoreId) (f : IFields) (s : State), s.Ready c f .u true → f.hasExt = false →
    let k := s.core c
    let n := f.imm8
    let a := k.sreg f.srcA.toNat
    let old := s.csrVal c n
    let wr := fun (q : Core) (v : Word) => q.wrCsr n (v &&& csrMask n)
    let r := fun (g : Core → Core) => Host.Outcome.next (φ := Fault) (ρ := Refusal) (s.retired c f g)
    (n = 0x01 → old = (match k.priv with
      | .u => 0
      | .s => 1
      | .m => 2)) ∧ (n = 0x02 → old = BitVec.ofNat 64 k.ctx) ∧
    (n = 0x23 → old = BitVec.ofNat 64 (SMap.get (fun _ => 0) s.sun.tb 2)) ∧
    (0x08 ≤ n → n ≤ 0x18 → old = k.rdCsr n) ∧
    (∀ lr lw, csrLevels n = some (lr, lw) → k.priv.atLeast lr = true →
      (f.srcA = 0 → exec (.csrr c f) s = r (fun q => q.setS f.dst.toNat old)) ∧
      (∀ l, lw = some l → k.priv.atLeast l = true →
        (f.dst = 0 → csrWx n a = false → exec (.csrw c f) s = r (fun q => wr q a)) ∧
        (csrWx n (old ||| a) = false → exec (.csrs c f) s = r (fun q => (wr q (old ||| a)).setS f.dst.toNat old)) ∧
        (csrWx n (old &&& ~~~a) = false →
          exec (.csrc c f) s = r (fun q => (wr q (old &&& ~~~a)).setS f.dst.toNat old))) ∧
      (lw = none → exec (.csrs c f) s = r (fun q => q.setS f.dst.toNat old))) ∧
    (∀ lr lw, csrLevels n = some (lr, lw) → k.priv.atLeast lr = false → f.srcA = 0 →
      exec (.csrr c f) s = .next ((s.modCore c Core.fetched).raise c ⟨0x04, 0, 0, false, 0⟩ k.pc)) ∧
    (csrLevels n = none → f.srcA = 0 → exec (.csrr c f) s = .next (s.raise c ⟨0x03, 0, 0, false, 0⟩ k.pc))

/-- From R251, R252: taking an exception at level L outside a handler of M. PPRIV takes the level, PIE the interrupt enable; IE
is 0 and INEXC 1; the cause, EPC and EVAL are written; the Steward stands at EVEC of that level. A second exception at M while a
handler of M runs restarts the core with LAST_CAUSE 0x31 instead. From R233, R209, R247–R249: ECALL and BREAK raise their
exceptions at the level of R247 with EPC the next instruction, BREAK halts the core instead while a debugger is attached and
allowed; an unlisted word raises ILLEGAL whatever its predicate holds; TAKE_EXCEPTION takes the first pending event with EPC the
next instruction; ERET restores level, interrupt enable and pc, or, with an asynchronous exception pending for its level, takes
that in place of the return, EPC unchanged. An EXIT at U stops SLOTLEFT (R262). -/
def Obligations.Exceptions : Prop :=
  (∀ (c : CoreId) (l : Priv) (e : Exc) (epc : Word) (s : State), l ≠ .u →
     let k := s.core c
     let b := if l = .m then 0x10 else 0x08
     let t := s.takeExc c l e epc
     let k' := t.core c
     ((l = .m → (k.rdCsr 0x10).getLsbD 0 = false) →
       (k'.rdCsr b).toNat = k.priv.code * 16 + (if (k.rdCsr b).getLsbD 1 then 4 else 0) + 1 ∧
       (k'.rdCsr (b + 1)).getLsbD 31 = e.isAsync ∧ (k'.rdCsr (b + 1)).toNat / 65536 % 256 = e.status % 256 ∧
       (k'.rdCsr (b + 1)).toNat / 256 % 256 = e.engines % 256 ∧ (k'.rdCsr (b + 1)).toNat % 256 = e.code % 256 ∧
       k'.rdCsr (b + 2) = epc ∧ k'.rdCsr (b + 3) = e.val ∧ k'.priv = l ∧ k'.pc = k.rdCsr (b + 4) ∧ k'.stw = .run ∧
       (∀ q, k'.sreg q = k.sreg q) ∧ k'.p = k.p ∧ (∀ n, n < b ∨ b + 4 ≤ n → k'.rdCsr n = k.rdCsr n) ∧
       t.mem = s.mem ∧ (bit (s.fld R.DBG_TRACECFG_CORES) c = false → t.regs = s.regs) ∧ t.fab = s.fab ∧
       ∀ d : Nat, d ≠ c → t.core d = s.core d) ∧
     (l = .m → (k.rdCsr 0x10).getLsbD 0 = true → t = (s.traceRec c 2 e.code).coreFault c 0x31)) ∧
  (∀ (c : CoreId) (f : IFields) (s : State),
     let k := s.core c
     let s1 := s.modCore c Core.fetched
     let s2 := s1.modCore c (fun q => q.wrCsr 0x21 (q.rdCsr 0x21 + 1))
     let exited := if k.priv = .u ∧ f.imm8 = 0 then
       s1.modCore c (fun q => { q with slot := q.slot.map (fun r => { r with exited := true }) }) else s1
     let up : Priv := if k.priv = .u then .s else .m
     (s.Ready c f .u true → f.hasExt = false →
       exec (.ecall c f) s = .next ((exited.modCore c (fun q => q.wrCsr 0x21 (q.rdCsr 0x21 + 1))).takeExc c up ⟨0x0B, 0, 0, false, BitVec.ofNat 64 f.imm8⟩ (k.pc + 4)) ∧
       (s.flag R.DBG_STATUS_ATTACHED = false →
         exec (.brk c f) s = .next (s2.takeExc c up ⟨0x0C, 0, 0, false, 0⟩ (k.pc + 4))) ∧
       (s.flag R.DBG_STATUS_ATTACHED = true → (s.fld R.KEEP_STATUS_LCS = 0 ∨ s.fld R.KEEP_STATUS_LCS = 1 ∨
         s.fld R.KEEP_STATUS_LCS = 3) → ∃ t, exec (.brk c f) s = .next t ∧ (t.core c).dbgHalt = true ∧
           (t.core c).pc = k.pc + 4 ∧ t.flag ⟨R.DBG_STATUS, (R.DBG_STATUS_HALTED).lo + c, 1⟩ = true)) ∧
     (s.atBoundary c = true → k.step = false → (s.nextEvent c).isNone = true → s.fetchFault k f = none →
       exec (.unlistedInstruction c f) s = .next (s.takeExc c up ⟨0x03, 0, 0, false, 0⟩ k.pc)) ∧
     (∀ l e q, k.dbgHalt = false → k.stw = .run → s.nextEvent c = some (l, e, q) →
       exec (.takeException c) s = .next ((s.setCore c q).takeExc c l e q.pc)) ∧
     (s.Ready c f .s true → f.hasExt = false →
       let b := if k.priv = .m then 0x10 else 0x08
       let s3 := s1.modCore c (fun q => { q with csr := ((q.wrCsr b (q.rdCsr b &&& ~~~1)).wrCsr 0x21
         (q.rdCsr 0x21 + 1)).csr })
       (∀ l e q, (s3.events c).find? (fun v => v.1 == k.priv && v.2.1.code < 0x40) = some (l, e, q) →
         exec (.eret c f) s = .next ((s3.setCore c q).takeExc c k.priv e (k.rdCsr (b + 2)))) ∧
       ((∀ v ∈ s3.events c, v.1 = k.priv → 0x40 ≤ v.2.1.code) → ∃ t, exec (.eret c f) s = .next t ∧
         (t.core c).priv = (match (k.rdCsr b).toNat / 16 % 4 with
           | 0 => .u
           | 1 => .s
           | _ => .m) ∧
         (t.core c).pc = k.rdCsr (b + 2) ∧ (t.core c).inExc k.priv = false ∧
         (t.core c).ie k.priv = (k.rdCsr b).getLsbD 2 ∧ (∀ q, (t.core c).sreg q = k.sreg q) ∧
         (t.core c).rdCsr 0x21 = k.rdCsr 0x21 + 1 ∧ t.mem = s.mem ∧ t.regs = s.regs)))

/-- From R233, R242: waiting and stopping. WFI with nothing pending and HALT leave the Steward waiting at the next instruction,
WFI with something pending completes at once; MFENCE completes once nothing of the Steward is in flight. -/
def Obligations.WaitingInstructions : Prop :=
  ∀ (c : CoreId) (f : IFields) (s : State), f.hasExt = false →
    let k := s.core c
    (s.Ready c f .u true → s.anyPending c = false → ∃ t, exec (.wfi c f) s = .next t ∧ (t.core c).stw = .wfi ∧
      (t.core c).pc = k.pc + 4 ∧ (∀ q, (t.core c).sreg q = k.sreg q) ∧ t.mem = s.mem ∧ t.regs = s.regs) ∧
    (s.Ready c f .u true → s.anyPending c = true → exec (.wfi c f) s = .next (s.retired c f (fun q => q))) ∧
    (s.Ready c f .m true → ∃ t, exec (.halt c f) s = .next t ∧ (t.core c).stw = .halt ∧
      (t.core c).pc = k.pc + 4 ∧ (∀ q, (t.core c).sreg q = k.sreg q) ∧ t.mem = s.mem ∧ t.regs = s.regs) ∧
    (s.Ready c f .u true → f.dst = 0 → f.srcA = 0 → f.srcB = 0 →
      exec (.mfence c f) s = .next (s.retired c f (fun q => q)))

/-- From R233, R235, R236, R457, R460, R461: CTXSW with every engine idle outside preserve mode clears the context it leaves and
enters the other; PCALL enters the next preserve depth, PRET with nothing against it leaves to s31; a fifth PCALL and a PRET
outside preserve mode raise PRESERVE. -/
def Obligations.ContextAndPreserve : Prop :=
  ∀ (c : CoreId) (f : IFields) (s : State), f.hasExt = false →
    let k := s.core c
    let a := k.sreg f.srcA.toNat
    let depth := s.fld (R.CORE_BELLSTAT_PDEPTH c)
    let trap := fun (i : Instr) =>
      exec i s = .next ((s.modCore c Core.fetched).raise c ⟨0x0A, 0, 0, false, 0⟩ k.pc)
    (s.Ready c f .m true → a.toNat < 4 → depth = 0 → (∀ e, e < 5 → k.queue e = []) →
      ∃ t, exec (.ctxsw c f) s = .next t ∧ (t.core c).ctx = a.toNat ∧ (t.core c).pc = k.pc + 4 ∧
        t.fld (R.CORE_BELLGEN_CTXGEN c) = (s.fld (R.CORE_BELLGEN_CTXGEN c) + 1) % 256 ∧
        (∀ w, w ∈ (t.core c).watches ↔ w ∈ k.watches ∧ w.ctx ≠ k.ctx) ∧
        (t.core c).t = [] ∧ (t.core c).v = [] ∧ (t.core c).m = [] ∧ (t.core c).cres = [] ∧
        (∀ q, (t.core c).sreg q = k.sreg q) ∧ t.mem = s.mem) ∧
    (s.Ready c f .s true → f.dst = 0 → f.srcB = 0 → f.mod = 0 → a.toNat % 4 = 0 →
      (depth < 4 → ∃ t, exec (.pcall c f) s = .next t ∧ (t.core c).pc = a ∧ t.fld (R.CORE_BELLSTAT_PDEPTH c) = depth + 1 ∧
        (∀ q, (t.core c).sreg q = sregAfter k 31 (k.pc + 4) q) ∧ t.mem = s.mem) ∧
      (4 ≤ depth → trap (.pcall c f))) ∧
    (s.Ready c f .s true →
      (depth ≠ 0 → (k.sreg 31).toNat % 4 = 0 → (∀ o, o < 256 → SMap.get (fun _ => 0) k.pdelta (256 * depth + o) = 0) →
        (∀ w ∈ k.watches, w.depth ≠ depth) → (∀ e, e < 5 → k.queue e = []) →
        ∃ t, exec (.pret c f) s = .next t ∧ (t.core c).pc = k.sreg 31 ∧ t.fld (R.CORE_BELLSTAT_PDEPTH c) = depth - 1 ∧
          (∀ q, (t.core c).sreg q = k.sreg q) ∧ t.mem = s.mem) ∧
      (depth = 0 → trap (.pret c f)))

/-- From R238, R451, R463, R464, R468, R471, R472: class 5 on an object that the identifier names. SIG changes the value by the
signed low half of b, and only it; an underflow or overflow of an object with PRIV 0 is logged and raises SYNC; SIGP posts a
marker with the delta; WAIT goes on when its condition holds and stalls otherwise; WATCH registers the lowest number that is
neither registered nor pending (the model's choice, log entry 174) and fires at once when its condition holds, which makes it
pending when no other is (R239); UNWATCH removes a watch, pending or not; SRD reads the value. From R238, R455, R466: what class
5 refuses. An identifier above 1023 raises ILLEGAL; one without a valid map entry of an object of the context raises SYNC with
UNMAPPED; a class that does not fit the object's PRIV raises SYNC with CLASS_MISMATCH; a privileged object that would leave its
range restarts the core with LAST_CAUSE 0x31. -/
def Obligations.SignalsAndWatches : Prop :=
  (∀ (c : CoreId) (f : IFields) (s : State) (obj : Nat), s.Ready c f .u false → f.hasExt = false →
     let k := s.core c
     let a := k.sreg f.srcA.toNat
     let b := k.sreg f.srcB.toNat
     let v := s.fld (R.CORE_SOBJ_VALUE c obj)
     let δ := (b.setWidth 32).toInt
     let thr := b.toNat % 2 ^ 32
     let limit := s.fld (R.CORE_SOBJCFG_LIMIT c obj)
     s.Names c a obj →
     (0 ≤ (v : Int) + δ → (v : Int) + δ ≤ limit → ∃ t, exec (.sig c f) s = .next t ∧
       (t.fld (R.CORE_SOBJ_VALUE c obj) : Int) = v + δ ∧ (∀ o, o ≠ R.CORE_SOBJ c obj → t.reg o = s.reg o) ∧
       (t.core c).pc = k.pc + 4 ∧ (∀ q, (t.core c).sreg q = k.sreg q) ∧ t.mem = s.mem ∧ t.fab = s.fab) ∧
     (s.flag (R.CORE_SOBJCFG_PRIV c obj) = false →
       (∀ st, (st = 0x31 ∧ (v : Int) + δ < 0) ∨ (st = 0x32 ∧ 0 ≤ (v : Int) + δ ∧ (limit : Int) < v + δ) →
         ∃ u : State, exec (.sig c f) s = .next (u.raise c ⟨0x09, st, 0, false, 0⟩ k.pc) ∧
           u.fld (R.CORE_SOBJ_VALUE c obj) = v ∧ (s.flag (R.CORE_BELLERR_VALID c) = false →
             u.flag (R.CORE_BELLERR_VALID c) = true ∧ u.fld (R.CORE_BELLERR_STATUS c) = st ∧
             u.fld (R.CORE_BELLERR_OBJ c) = obj))) ∧
     (s.dataOk k.priv k.wins true (k.sreg f.dst.toNat).toNat 1 = true → ∃ t m, exec (.sigp c f) s = .next t ∧
       t.fab.markers = s.fab.markers ++ [m] ∧ m.core = c.val ∧ m.obj = obj ∧ m.delta = b.setWidth 32 ∧
       m.gen = s.fld (R.CORE_BELLGEN_CTXGEN c) ∧ m.epoch = s.fld (R.CORE_EPOCH_EPOCH c) ∧
       m.path = s.pathOf (s.loc (some c) (k.sreg f.dst.toNat).toNat) ∧ t.regs = s.regs ∧ t.mem = s.mem ∧
       (t.core c).pc = k.pc + 4) ∧
     (f.low3 < 6 →
       (Holds f.low3 v thr → exec (.wait c f) s = .next (s.retired c f (fun q => q))) ∧
       (¬ Holds f.low3 v thr → ∃ t, exec (.wait c f) s = .next t ∧ (t.core c).stw = .waitObj obj f.low3 thr ∧
         (t.core c).pc = k.pc ∧ t.regs = s.regs)) ∧
     (f.low3 < 6 → ∀ n, n < 16 →
       let used := fun (m : Nat) => (∃ w ∈ k.watches, w.num = m) ∨ k.pend.watch.map (·.num) = some m
       ¬ used n → (∀ m, m < n → used m) →
       ∃ t, exec (.watch c f) s = .next t ∧ (∀ q, (t.core c).sreg q = sregAfter k f.dst.toNat (BitVec.ofNat 64 n) q) ∧
         (t.core c).pc = k.pc + 4 ∧ t.regs = s.regs ∧ t.mem = s.mem ∧
         (∀ w ∈ k.watches, w.fired = false → w.obj ≠ obj → w ∈ (t.core c).watches) ∧
         ∃ w ∈ (t.core c).watches ++ (t.core c).pend.watch.toList, w.num = n ∧ w.obj = obj ∧ w.cond = f.low3 ∧ w.thr = thr ∧
           w.ctx = k.ctx ∧ (w.fired = true ↔ Holds f.low3 v thr) ∧
           (Holds f.low3 v thr → k.watches = [] → k.pend.watch = none → (t.core c).pend.watch = some w)) ∧
     (f.dst = 0 → f.srcB = 0 → exec (.unwatch c f) s = .next (s.retired c f (fun q => ({ q with
       watches := q.watches.filter (fun w => w.num ≠ a.toNat % 16)
       pend := { q.pend with watch := q.pend.watch.filter (fun w => w.num ≠ a.toNat % 16) } } : Core).promote))) ∧
     exec (.srd c f) s = .next (s.retired c f (fun q => q.setS f.dst.toNat (BitVec.ofNat 64 v)))) ∧
  (∀ (c : CoreId) (f : IFields) (s : State), s.Ready c f .u false → f.hasExt = false →
     let k := s.core c
     let a := k.sreg f.srcA.toNat
     let s1 := s.modCore c Core.fetched
     let obj := s.fld (R.CORE_VMAP_PHYS c k.ctx a.toNat)
     let trap := fun (code st : Nat) => ∀ i, i = Instr.sig c f ∨ i = Instr.sigp c f ∨ i = Instr.srd c f →
       exec i s = .next (s1.raise c ⟨code, st, 0, false, 0⟩ k.pc)
     (1023 < a.toNat → trap 0x03 0) ∧
     (a.toNat ≤ 1023 → s.flag (R.CORE_VMAP_VALID c k.ctx a.toNat) = false ∨ s.fld (R.CORE_SOBJCFG_OWNER c obj) ≠ k.ctx →
       trap 0x09 0x30) ∧
     (∀ r, k.slot = some r → a.toNat ≤ 1023 → s.flag (R.CORE_VMAP_VALID c k.ctx a.toNat) = true →
       s.fld (R.CORE_SOBJCFG_OWNER c obj) = k.ctx →
       (r.cls = 0 ∧ s.flag (R.CORE_SOBJCFG_PRIV c obj) = false) ∨ (r.cls ≠ 0 ∧ s.flag (R.CORE_SOBJCFG_PRIV c obj) = true) →
       trap 0x09 0x35) ∧
     (s.Names c a obj → s.flag (R.CORE_SOBJCFG_PRIV c obj) = true →
       let v : Int := (s.fld (R.CORE_SOBJ_VALUE c obj) : Int) + ((k.sreg f.srcB.toNat).setWidth 32).toInt
       v < 0 ∨ (s.fld (R.CORE_SOBJCFG_LIMIT c obj) : Int) < v → exec (.sig c f) s = .next (s1.coreFault c 0x31)))

/-- From R455, R477, R478: barriers. BARA sends the core's arrival, a second one in the generation raises BARRIER_TWICE, a bad
barrier BAD_BARRIER; the last arrival of a barrier without devices completes the generation: GEN rises, ARRIVED empties, and the
completion goes to every participating core; there BARW then returns, and before that it stalls. A reset of a part of another
device ends the generation with EPOCH_CHANGED at every core that has arrived (R142), and BARW there raises SYNC with it. -/
def Obligations.Barriers : Prop :=
  ∀ (c : CoreId) (f : IFields) (s : State) (n : Fin 64),
    let k := s.core c
    let arr := fun (k : Core) => SMap.get (fun _ => 0) k.arrived n
    let s1 := s.modCore c Core.fetched
    let sync := fun (i : Instr) (st : Nat) => exec i s = .next (s1.raise c ⟨0x09, st, 0, false, 0⟩ k.pc)
    (s.Ready c f .u false → f.hasExt = false → (k.sreg f.srcA.toNat).toNat = n →
      (s.flag (R.BELL_BAR_VALID n) = false ∨ s.fld (R.BELL_BAR_OWNER n) ≠ k.ctx ∨ bit (s.fld (R.BELL_BAR_CORES n)) c = false →
        sync (.bara c f) 0x36 ∧ sync (.barw c f) 0x36) ∧
      (s.flag (R.BELL_BAR_VALID n) = true → s.fld (R.BELL_BAR_OWNER n) = k.ctx → bit (s.fld (R.BELL_BAR_CORES n)) c = true →
        s.flag (R.BELL_BAR_PRIV n) = false →
        (arr k ≠ 1 → ∃ t, exec (.bara c f) s = .next t ∧ arr (t.core c) = 1 ∧
          t.fab.arrivals = s.fab.arrivals ++ [(n.val, c.val)] ∧ (t.core c).pc = k.pc + 4 ∧ t.regs = s.regs ∧ t.mem = s.mem) ∧
        (arr k = 1 → sync (.bara c f) 0x37) ∧
        (arr k = 0 → sync (.barw c f) 0x36) ∧
        (arr k = 1 → ∃ t, exec (.barw c f) s = .next t ∧ (t.core c).stw = .waitBar n ∧ (t.core c).pc = k.pc ∧ t.regs = s.regs) ∧
        (arr k = 2 → exec (.barw c f) s = .next (s.retired c f (fun q => q.setArrival n 0))) ∧
        (arr k = 3 → exec (.barw c f) s =
          .next ((s1.modCore c (fun q => q.setArrival n 0)).raise c ⟨0x09, 0x04, 0, false, 0⟩ k.pc)))) ∧
    ((n.val, c.val) ∈ s.fab.arrivals → s.fld (R.BELL_BAR_DEVS n) = 0 →
      (∀ i, i < 16 → bit (s.fld (R.BELL_BAR_CORES n)) i = true →
        i = c.val ∨ bit (s.fld (R.BELL_BARSTAT_ARRIVED n)) i = true) →
      ∃ t, exec (.barrierArrival n (.core c)) s = .next t ∧ t.fab.arrivals = s.fab.arrivals.erase (n.val, c.val) ∧
        t.fld (R.BELL_BARSTAT_GEN n) = (s.fld (R.BELL_BARSTAT_GEN n) + 1) % 65536 ∧ t.fld (R.BELL_BARSTAT_ARRIVED n) = 0 ∧
        (∀ i, i < 16 → bit (s.fld (R.BELL_BAR_CORES n)) i = true → (n.val, i, false) ∈ t.fab.completions)) ∧
    (∀ p ended, s.fab.completions.find? (fun p => p.1 == n.val && p.2.1 == c.val) = some p →
      ∃ t, exec (.barrierCompletion n ⟨c, ended⟩) s = .next t ∧ arr (t.core c) = (if p.2.2 then 3 else 2) ∧
        t.fab.completions = s.fab.completions.erase p ∧ t.regs = s.regs) ∧
    (s.flag (R.BELL_BAR_VALID n) = true → (∀ p ∈ s.fab.completions, p.1 ≠ n.val) →
      (∃ i, i < 16 ∧ bit (s.fld (R.BELL_BAR_DEVS n)) i = true ∧ i ≠ s.fld R.NIM_CFG_SELF) →
      bit (s.fld (R.BELL_BARSTAT_ARRIVED n)) c = true →
      ∃ t, exec (.barrierCompletion n ⟨c, true⟩) s = .next t ∧ arr (t.core c) = 3 ∧ t.fld (R.BELL_BARSTAT_ARRIVED n) = 0 ∧
        ∀ i, i < 16 → i ≠ c.val → bit (s.fld (R.BELL_BARSTAT_ARRIVED n)) i = true → (n.val, i, true) ∈ t.fab.completions) ∧
    (k.stw = .waitBar n → k.dbgHalt = false → arr k = 2 →
      ∃ t, exec (.waitRelease c 5) s = .next t ∧ (t.core c).stw = .run ∧ (t.core c).pc = k.pc + 4 ∧ arr (t.core c) = 0)

/-- From R474–R476: MSG to a mailbox of this device holds the Steward until the message is delivered. A valid mailbox of the
sender's context with room takes it: the 16-byte entry holds the value, the sender and the count of deliveries, WIDX rises by 1,
the mailbox's object (EXT 1, SRC 0x13, below its limit) by 1, and the sender goes on. A message from another device to a mailbox
without RXREMOTE is refused and counted in BELLERR, and the refusal that another device returns in the sender's; a bad address
raises SYNC with BAD_MAILBOX. -/
def Obligations.Messages : Prop :=
  ∀ (c : CoreId) (f : IFields) (s : State),
    let k := s.core c
    let a := (k.sreg f.srcA.toNat).toNat
    let self := s.fld R.NIM_CFG_SELF
    (s.Ready c f .u false → f.hasExt = false →
      (∀ (d m : Nat), m < 8 → s.hasCore d = true → a = self * 4096 + d * 256 + m →
        ∃ t, exec (.msg c f) s = .next t ∧ t.fab.msgs = s.fab.msgs ++ [⟨c, k.ctx, d, m, k.sreg f.srcB.toNat⟩] ∧
          (t.core c).stw = .msgWait ∧ (t.core c).pc = k.pc ∧ t.regs = s.regs ∧ t.mem = s.mem) ∧
      (a / 8 % 32 ≠ 0 ∨ 65536 ≤ a →
        exec (.msg c f) s = .next ((s.modCore c Core.fetched).raise c ⟨0x09, 0x39, 0, false, 0⟩ k.pc))) ∧
    (∀ (x : Msg) (rest : List Msg), s.fab.msgs = x :: rest → x.src < 16 → x.dst < 16 → x.mbox < 8 →
      (s.core x.src).stw = .msgWait →
      let obj := s.fld (R.CORE_MBOX_OBJ x.dst x.mbox)
      let n := 2 ^ s.fld (R.CORE_MBOX_DEPTHLOG x.dst x.mbox)
      let w := s.fld (R.CORE_MBOX_WIDX x.dst x.mbox)
      let at_ := 0x1000000000 + x.dst * 0x200000 + (s.fld (R.CORE_MBOX_BASE x.dst x.mbox) + w % n * 16) % 0x200000
      let seq := SMap.get (fun _ => 0) (s.core x.dst).mboxSeq x.mbox
      s.flag (R.CORE_MBOX_VALID x.dst x.mbox) = true → s.fld (R.CORE_MBOX_OWNER x.dst x.mbox) = x.ctx →
      3 ≤ s.fld (R.CORE_MBOX_DEPTHLOG x.dst x.mbox) → s.fld (R.CORE_MBOX_DEPTHLOG x.dst x.mbox) ≤ 10 →
      s.fld (R.CORE_SOBJ_VALUE x.dst obj) < n → s.fld (R.CORE_SOBJ_VALUE x.dst obj) < s.fld (R.CORE_SOBJCFG_LIMIT x.dst obj) →
      s.flag (R.CORE_SOBJCFG_EXT x.dst obj) = true → s.fld (R.CORE_SOBJCFG_SRC x.dst obj) = 0x13 →
      ∃ t, exec (.msgDelivery .fabric) s = .next t ∧ t.fab.msgs = rest ∧
        leNat (t.bytes at_ 8) = x.value.toNat ∧ leNat (t.bytes (at_ + 8) 2) = (x.src + 16 * self + 256 * x.ctx) % 65536 ∧
        leNat (t.bytes (at_ + 12) 4) = seq % 2 ^ 32 ∧ (∀ y, y < at_ ∨ at_ + 16 ≤ y → t.byte y = s.byte y) ∧
        t.fld (R.CORE_MBOX_WIDX x.dst x.mbox) = (w + 1) % 1024 ∧
        t.fld (R.CORE_SOBJ_VALUE x.dst obj) = s.fld (R.CORE_SOBJ_VALUE x.dst obj) + 1 ∧
        (t.core x.src).stw = .run ∧ (t.core x.src).pc = (s.core x.src).pc + 4) ∧
    (∀ (dev : Fin 16) (core d : CoreId) (ctx : Fin 4) (m : Fin 8) (v : Word), s.hasNim = true → s.hasCore d = true →
      dev.val ≠ s.fld R.NIM_CFG_SELF → s.departed dev = false → s.flag (R.CORE_MBOX_RXREMOTE d m) = false → s.flag (R.CORE_BELLERR_VALID d) = false →
      ∃ t, exec (.msgDelivery (.remote dev core ctx d m v true)) s = .next t ∧ t.mem = s.mem ∧ t.cores = s.cores ∧
        t.flag (R.CORE_BELLERR_VALID d) = true ∧ t.fld (R.CORE_BELLERR_STATUS d) = 0x39) ∧
    (∀ (core : CoreId) (ctx : Fin 4) (st : BitVec 8) (m : Fin 8), s.hasNim = true → s.flag (R.CORE_BELLERR_VALID core) = false →
      ∃ t, exec (.msgDelivery (.refused core ctx st m)) s = .next t ∧ t.mem = s.mem ∧ t.cores = s.cores ∧
        t.flag (R.CORE_BELLERR_VALID core) = true ∧ t.flag (R.CORE_BELLERR_REMOTE core) = true ∧
        t.fld (R.CORE_BELLERR_STATUS core) = st.toNat ∧ t.fld (R.CORE_BELLERR_COUNT core) = 1)

/-- From R242–R246, R149, R150: class 6 and dispatch. FENCES goes on once the named queues are empty and waits before; FENCEE,
QSIG, QWAIT and every dispatch of classes 7–11 place their entry at the end of the named queues when all have room, and stall
the Steward otherwise, until QUEUE_ENTRY_FREE finds room; QSTAT reads the free entries and the marks; EFLUSH empties a queue and
clears its halt, ERESUME drops the halted entry. -/
def Obligations.QueueInstructions : Prop :=
  ∀ (c : CoreId) (f : IFields) (s : State),
    let k := s.core c
    let a := k.sreg f.srcA.toNat
    let b := k.sreg f.srcB.toNat
    let env : DispEnv := ⟨k.priv, (k.slot.map (·.cls)).getD 0, k.ctx, s.fld (R.CORE_BELLGEN_CTXGEN c),
      s.fld (R.CORE_BELLSTAT_PDEPTH c), k.wins⟩
    let queued := fun (i : Instr) (es : List (Nat × Entry)) => ∃ t, exec i s = .next t ∧ (t.core c).pc = k.pc + w64 f.len ∧
      (∀ e, (t.core c).queue e = k.queue e ++ (es.filter (fun p => p.1 == e)).map (·.2)) ∧
      (∀ q, (t.core c).sreg q = k.sreg q) ∧ t.mem = s.mem ∧ t.fab = s.fab
    let stalled := fun (i : Instr) (es : List (Nat × Entry)) => ∃ t, exec i s = .next t ∧ (t.core c).pc = k.pc ∧
      (t.core c).stw = .queueFull es ∧ ∀ e, (t.core c).queue e = k.queue e
    let room := fun (e : Nat) => (k.queue e).length < 16
    (f.hasExt = false → f.imm8 < 32 →
      let engs := (List.range 5).filter (fun e => f.imm8 / 2 ^ e % 2 == 1)
      (s.Ready c f .u true → (∀ e ∈ engs, k.queue e = []) → exec (.fences c f) s = .next (s.retired c f (fun q => q))) ∧
      (s.Ready c f .u true → (∃ e ∈ engs, k.queue e ≠ []) → ∃ t, exec (.fences c f) s = .next t ∧ (t.core c).pc = k.pc ∧
        (t.core c).stw = k.stw ∧ t.regs = s.regs) ∧
      (s.Ready c f .u false → (∀ e ∈ engs, room e) → queued (.fencee c f) (engs.map (fun e => (e, .fence f.imm8 env)))) ∧
      (s.Ready c f .u false → (∃ e ∈ engs, ¬ room e) →
        stalled (.fencee c f) (engs.map (fun e => (e, .fence f.imm8 env))))) ∧
    (s.Ready c f .u false → f.hasExt = false → ∀ obj, s.Names c a obj → ∀ e, e < 5 → f.dst.toNat % 8 = e →
      (b = 0 ∨ s.dataOk k.priv k.wins true b.toNat 1 = true → room e → queued (.qsig c f) [(e, .signal obj b.toNat env)]) ∧
      (f.low3 < 6 → room e → queued (.qwait c f) [(e, .wait obj f.low3 (b.toNat % 2 ^ 32) env)])) ∧
    (f.hasExt = false → ∀ e, e < 5 → f.srcA.toNat % 8 = e →
      let halted := (k.rdCsr (0x38 + e)).getLsbD 0
      (s.Ready c f .u false → exec (.qstat c f) s = .next (s.retired c f (fun q => q.setS f.dst.toNat (BitVec.ofNat 64
        (16 - (k.queue e).length + (if halted then 256 else 0) + (if k.queue e = [] then 512 else 0)))))) ∧
      (s.Ready c f .s true → ∃ t, exec (.eflush c f) s = .next t ∧ (t.core c).queue e = [] ∧ (t.core c).rdCsr (0x38 + e) = 0 ∧
        (∀ e', e' ≠ e → (t.core c).queue e' = k.queue e') ∧ (t.core c).pc = k.pc + 4 ∧ t.regs = s.regs ∧ t.mem = s.mem) ∧
      (s.Ready c f .s true → halted = true → ∃ t, exec (.eresume c f) s = .next t ∧ (t.core c).queue e = (k.queue e).drop 1 ∧
        (t.core c).rdCsr (0x38 + e) = 0 ∧ (t.core c).pc = k.pc + 4 ∧ t.regs = s.regs ∧ t.mem = s.mem)) ∧
    (∀ op : EOp, (f.hasExt = true → op.extOk = true) → s.Ready c f op.level false →
      (room op.eng → queued (.dispatch c op f) [(op.eng, .op op f a b (k.sreg f.dst.toNat) env)]) ∧
      (¬ room op.eng → stalled (.dispatch c op f) [(op.eng, .op op f a b (k.sreg f.dst.toNat) env)])) ∧
    (∀ e x, k.stw = .queueFull [(e, x)] → k.dbgHalt = false → room e → ∃ t, exec (.queueEntryFree c) s = .next t ∧
      (t.core c).queue e = k.queue e ++ [x] ∧ (t.core c).stw = .run ∧ (t.core c).pc = k.pc + w64 x.len)

/-- From R243–R245, R471: the tokens at the head of an engine that is not halted and not withheld. A fence lets all its engines
go on once each has reached it; an unguarded signal adds 1 to its object; a guarded one is posted as a marker; a wait whose
condition holds leaves the queue, one whose condition does not stays. -/
def Obligations.TokensRun : Prop :=
  ∀ (c : CoreId) (e : EngId) (s : State) (rest : List Entry), (s.core c).engineFree e = true →
    let k := s.core c
    (∀ mask env, k.queue e = .fence mask env :: rest → mask < 32 →
      (∀ i, i < 5 → mask / 2 ^ i % 2 = 1 → k.engineFree i = true ∧ ∃ env', (k.queue i).head? = some (.fence mask env')) →
      ∃ t, exec (.fenceToken c e) s = .next t ∧ (∀ i, (t.core c).queue i =
        (if i < 5 ∧ mask / 2 ^ i % 2 = 1 then (k.queue i).drop 1 else k.queue i)) ∧ t.regs = s.regs ∧ t.mem = s.mem) ∧
    (∀ obj guard env, k.queue e = .signal obj guard env :: rest → obj < 256 →
      (guard = 0 → env.gen = s.fld (R.CORE_BELLGEN_CTXGEN c) →
        s.fld (R.CORE_SOBJ_VALUE c obj) < s.fld (R.CORE_SOBJCFG_LIMIT c obj) →
        ∃ t, exec (.signalToken c e) s = .next t ∧ (t.core c).queue e = rest ∧
          t.fld (R.CORE_SOBJ_VALUE c obj) = s.fld (R.CORE_SOBJ_VALUE c obj) + 1 ∧
          (∀ o, o ≠ R.CORE_SOBJ c obj → t.reg o = s.reg o)) ∧
      (guard = 0 → env.gen ≠ s.fld (R.CORE_BELLGEN_CTXGEN c) → ∃ t, exec (.signalToken c e) s = .next t ∧
        (t.core c).queue e = rest ∧ t.fld (R.CORE_SOBJ_VALUE c obj) = s.fld (R.CORE_SOBJ_VALUE c obj) ∧
        t.fld (R.CORE_BELLSTAT_STALE_DROP c) = min (s.fld (R.CORE_BELLSTAT_STALE_DROP c) + 1) 65535) ∧
      (guard ≠ 0 → ∃ t m, exec (.signalToken c e) s = .next t ∧ (t.core c).queue e = rest ∧ t.regs = s.regs ∧
        t.fab.markers = s.fab.markers ++ [m] ∧ m.core = c.val ∧ m.unit = e.val ∧ m.obj = obj ∧ m.delta = 1 ∧ m.gen = env.gen ∧
        m.path = s.pathOf (s.loc (some c) guard))) ∧
    (∀ obj cond thr env, k.queue e = .wait obj cond thr env :: rest → cond < 6 →
      (Holds cond (s.fld (R.CORE_SOBJ_VALUE c obj)) thr →
        (∃ t, exec (.waitToken c e) s = .next t ∧ (t.core c).queue e = rest ∧ t.mem = s.mem) ∧
        exec (.waitToken c e) s = exec (.waitRelease c ⟨e, by omega⟩) s) ∧
      (¬ Holds cond (s.fld (R.CORE_SOBJ_VALUE c obj)) thr → exec (.waitToken c e) s = .next s))

/-- From R254, R288, R771: what every entry shares. Starting one changes nothing but domains and credits; a completed one leaves
its queue, and nothing else but the credit; one that raises an exception halts its engine with EERR filled and ENGINE pending,
and stays in the queue. From R288, R289: refused entries halt with the exception that R289 gives: an operand out of its range
OPERAND, a reserved format FORMAT, a misaligned address ALIGN, a range its level may not reach ACCESS, a bad configuration DESC.
-/
def Obligations.EngineEntries : Prop :=
  (∀ (c : CoreId) (op : EOp) (env : DispEnv) (s : State),
     let x : Eng := ⟨c, unitOf op, env⟩
     let same := fun (k k' : Core) => (∀ q, k'.sreg q = k.sreg q) ∧ k'.v = k.v ∧ k'.m = k.m ∧ k'.t = k.t ∧ k'.cres = k.cres ∧
       k'.vcfg = k.vcfg ∧ k'.ccfg = k.ccfg ∧ k'.pc = k.pc ∧ k'.priv = k.priv ∧ k'.p = k.p
     let t0 := s.started c op env
     let t1 := s.engineDone x op
     (t0.mem = s.mem ∧ t0.fab = s.fab ∧ ∀ i : Nat, same (s.core i) (t0.core i) ∧ (t0.core i).csr = (s.core i).csr ∧
       ∀ e, (t0.core i).queue e = (s.core i).queue e) ∧
     (t1.mem = s.mem ∧ t1.fab = s.fab ∧ same (s.core c) (t1.core c) ∧ (t1.core c).csr = (s.core c).csr ∧
       (∀ e, (t1.core c).queue e = if e = op.eng then ((s.core c).queue e).drop 1 else (s.core c).queue e) ∧
       ∀ i : Nat, i ≠ c → t1.core i = s.core i) ∧
     (∀ code addr, code < 256 → code ≠ 3 → let t := s.engineHalt x op code addr
       let w := ((t.core c).rdCsr (0x38 + op.eng)).toNat
       t.mem = s.mem ∧ t.fab = s.fab ∧ t.regs = s.regs ∧ same (s.core c) (t.core c) ∧
         (∀ e, (t.core c).queue e = (s.core c).queue e) ∧ bit (t.core c).pend.engines op.eng = true ∧
         w % 2 = 1 ∧ w / 2 % 16 = min (((s.core c).queue op.eng).length - 1) 15 ∧ w / 2 ^ 6 % 16 = op.cls ∧
         w / 2 ^ 10 % 64 = op.code ∧ w / 2 ^ 16 % 256 = code ∧ w / 2 ^ 24 = addr % 2 ^ 40)) ∧
  (∀ (c : CoreId) (f : IFields) (a b d : Word) (env : DispEnv) (s : State),
     let halts := fun (op : EOp) (i : Instr) (code addr : Nat) => s.Runs c op f a b d env →
       exec i s = .next ((s.started c op env).engineHalt ⟨c, unitOf op, env⟩ op code addr)
     (16 ≤ f.dst.toNat → halts .tdld (.tdld c) 0x10 0 ∧ halts .tdst (.tdst c) 0x10 0 ∧ halts .tdsetw (.tdsetw c) 0x10 0 ∧
       halts .mld (.mld c) 0x10 0 ∧ halts .mst (.mst c) 0x10 0 ∧ halts .madd (.madd c) 0x10 0 ∧ halts .msub (.msub c) 0x10 0 ∧
       halts .mmul (.mmul c) 0x10 0 ∧ halts .mmac (.mmac c) 0x10 0 ∧ halts .mred (.mred c) 0x10 0 ∧
       halts .mrnd (.mrnd c) 0x10 0 ∧ halts .mldx (.mldx c) 0x10 0) ∧
     (8 ≤ f.dst.toNat → halts .cinj (.cinj c) 0x10 0 ∧ halts .cst (.cst c) 0x10 0 ∧ halts .cmpm (.cmpm c) 0x10 0) ∧
     (f.dst.toNat < 16 → a.toNat % 64 ≠ 0 → halts .tdld (.tdld c) 0x16 a.toNat ∧ halts .tdst (.tdst c) 0x16 a.toNat ∧
       (f.hasExt = false → halts .mld (.mld c) 0x16 a.toNat ∧ halts .mst (.mst c) 0x16 a.toNat ∧
         halts .vld (.vld c) 0x16 a.toNat ∧ halts .vst (.vst c) 0x16 a.toNat)) ∧
     (a.toNat % 64 ≠ 0 → halts .mmv (.mmv c) 0x16 a.toNat ∧ halts .mmvf (.mmvf c) 0x16 a.toNat) ∧
     (f.dst.toNat < 16 → a.toNat % 64 = 0 → s.dataOk env.priv env.wins false a.toNat 64 = false →
       halts .tdld (.tdld c) 0x17 a.toNat) ∧
     (a.toNat < 2 ^ 14 → a.toNat % 16 = 15 → halts .vcfg (.vcfg c) 0x12 0) ∧
     (2 ^ 14 ≤ a.toNat → halts .vcfg (.vcfg c) 0x10 0) ∧
     (a.toNat < 2 ^ 40 → b.toNat < 2 ^ 52 → b.toNat / 2 ^ 48 ≠ 0 → b.toNat / 2 ^ 48 ≠ 1 → b.toNat / 2 ^ 48 ≠ 2 → b.toNat / 2 ^ 48 ≠ 4 →
       halts .vrqcfg (.vrqcfg c) 0x12 0) ∧
     (f.srcA.toNat < 16 → f.dst = 0 → f.srcB = 0 → (Tile.of (((s.started c .tmma env).core c).tReg f.srcA.toNat)).fmtOk = false →
       halts .tmma (.tmma c) 0x12 0) ∧
     (3 < b.toNat / 2 ^ 32 % 16 → halts .ccfg (.ccfg c) 0x11 0) ∧
     (b.toNat % 2 ^ 11 = 0 ∨ 1024 < b.toNat % 2 ^ 11 → halts .vspot (.vspot c) 0x11 0) ∧
     (f.srcB = 0 → (s.core c).vcfg.fmt ≠ 9 → halts .vexp (.vexp c) 0x12 0 ∧ halts .vlog (.vlog c) 0x12 0 ∧
       halts .vrcp (.vrcp c) 0x12 0 ∧ halts .vrsq (.vrsq c) 0x12 0 ∧ halts .vtanh (.vtanh c) 0x12 0 ∧
       halts .vsigm (.vsigm c) 0x12 0))

/-- From R300, R301, R266: integer arithmetic of the Vector engine in I8, U8, I16 and I32, element by element: the exact result
modulo 2^w, WRAP when some exact result lies outside the format; and the bitwise operations and shifts of element bits, which
raise no flag. mod[0] = 1 takes the low bits of the captured scalar for vb. -/
def Obligations.VectorIntegerOps : Prop :=
  ∀ (c : CoreId) (f : IFields) (a b d : Word) (env : DispEnv) (s : State),
    let runs := fun (op : EOp) (i : Instr) (bForm : Bool) (P : Nat → Nat → (Nat → Nat) → (Nat → Nat) → (Nat → Nat) → Nat → Nat → Prop) =>
      s.Runs c op f a b d env → (if bForm then f.low3 < 2 else f.srcB = 0) →
      let s1 := s.started c op env
      let k := s1.core c
      let fmt := k.vcfg.fmt
      let w := fmtBits fmt
      (fmt = 1 ∨ fmt = 2 ∨ fmt = 3 ∨ fmt = 4) →
      ∃ r fl, exec i s = .next (((s1.modCore c (fun q => q.setV f.dst.toNat r)).setEngFlags c 4 fl).engineDone ⟨c, 1, env⟩ op) ∧
        P fmt w (elemAt w (k.vReg f.srcA.toNat))
          (fun j => if bForm ∧ f.low3 = 1 then b.toNat % 2 ^ w else elemAt w (k.vReg f.srcB.toNat) j)
          (elemAt w (k.vReg f.dst.toNat)) r fl
    let val := fun (fmt w x : Nat) => if fmt ≠ 4 ∧ 2 ^ (w - 1) ≤ x then (x : Int) - 2 ^ w else (x : Int)
    let arith := fun (h : Int → Int → Int → Int) (fmt w : Nat) (x y z : Nat → Nat) (r fl : Nat) =>
      let e := fun i => h (val fmt w (x i)) (val fmt w (y i)) (val fmt w (z i))
      let lo : Int := if fmt = 4 then 0 else -2 ^ (w - 1)
      let hi : Int := if fmt = 4 then 255 else 2 ^ (w - 1) - 1
      (∀ i, i < 2048 / w → (elemAt w r i : Int) = e i % 2 ^ w) ∧
      (fl = 1 ∨ fl = 0) ∧ (fl = 1 ↔ ∃ i, i < 2048 / w ∧ (e i < lo ∨ hi < e i))
    let bits := fun (h : Nat → Nat → Nat → Nat) (_ w : Nat) (x y _z : Nat → Nat) (r fl : Nat) =>
      fl = 0 ∧ ∀ i, i < 2048 / w → elemAt w r i = h w (x i) (y i) % 2 ^ w
    runs .vadd (.vadd c) true (arith (fun x y _ => x + y)) ∧ runs .vsub (.vsub c) true (arith (fun x y _ => x - y)) ∧
    runs .vmul (.vmul c) true (arith (fun x y _ => x * y)) ∧ runs .vfma (.vfma c) true (arith (fun x y z => z + x * y)) ∧
    runs .vmin (.vmin c) true (arith (fun x y _ => min x y)) ∧ runs .vmax (.vmax c) true (arith (fun x y _ => max x y)) ∧
    runs .vabs (.vabs c) false (arith (fun x _ _ => |x|)) ∧ runs .vneg (.vneg c) false (arith (fun x _ _ => -x)) ∧
    runs .vand (.vand c) true (bits (fun _ x y => x &&& y)) ∧ runs .vor (.vor c) true (bits (fun _ x y => x ||| y)) ∧
    runs .vxor (.vxor c) true (bits (fun _ x y => x ^^^ y)) ∧ runs .vshl (.vshl c) true (bits (fun w x y => x * 2 ^ (y % w))) ∧
    runs .vshr (.vshr c) true (bits (fun w x y => x / 2 ^ (y % w))) ∧
    runs .vsra (.vsra c) true (bits (fun w x y =>
      ((if 2 ^ (w - 1) ≤ x then (x : Int) - 2 ^ w else (x : Int)) / 2 ^ (y % w) % 2 ^ w).toNat))

/-- From R272, R276, R300–R302: floating elements of the Vector engine in BF16, F16 and F32: the exact result rounded once into
the format; a NaN in va gives the canonical NaN; and the transcendentals in F32 on a NaN, on both zeros and on both infinities.
-/
def Obligations.VectorFloatOps : Prop :=
  ∀ (c : CoreId) (f : IFields) (a b d : Word) (env : DispEnv) (s : State),
    let runs := fun (op : EOp) (i : Instr) (bForm : Bool) (P : Core → (Nat → Nat) → (Nat → Nat) → (Nat → Nat) → Nat → Prop) =>
      s.Runs c op f a b d env → (if bForm then f.low3 < 2 else f.srcB = 0) →
      let s1 := s.started c op env
      let k := s1.core c
      let w := fmtBits k.vcfg.fmt
      (k.vcfg.fmt = 7 ∨ k.vcfg.fmt = 8 ∨ k.vcfg.fmt = 9) →
      ∃ r fl, exec i s = .next (((s1.modCore c (fun q => q.setV f.dst.toNat r)).setEngFlags c 4 fl).engineDone ⟨c, 1, env⟩ op) ∧
        P k (elemAt w (k.vReg f.srcA.toNat))
          (fun j => if bForm ∧ f.low3 = 1 then b.toNat % 2 ^ w else elemAt w (k.vReg f.srcB.toNat) j)
          (elemAt w (k.vReg f.dst.toNat)) r
    let arith := fun (h : FV → FV → FV → FV) (k : Core) (x y z : Nat → Nat) (r : Nat) =>
      let v := fun e => elemVal k.vcfg.fmt k.vcfg.esel e
      let w := fmtBits k.vcfg.fmt
      ∀ i, i < 2048 / w →
        elemAt w r i = (elemConv k.vcfg.fmt k.vcfg.rnd k.vcfg.sat (h (v (x i)) (v (y i)) (v (z i)))).1 % 2 ^ w ∧
        (v (x i) = .nan → elemAt w r i = if k.vcfg.fmt = 7 then 0x7FC0 else if k.vcfg.fmt = 8 then 0x7E00 else 0x7FC00000)
    let trans := fun (op : EOp) (i : Instr) (table : List (Nat × Nat)) => runs op i false (fun k x _ _ r =>
      k.vcfg.fmt = 9 → ∀ j, j < 64 → ∀ p ∈ table, x j = p.1 → elemAt 32 r j = p.2)
    let nan := 0x7FC00000
    let inf := 0x7F800000
    let ninf := 0xFF800000
    runs .vadd (.vadd c) true (arith (fun x y _ => (x.add y).1)) ∧
    runs .vsub (.vsub c) true (arith (fun x y _ => (x.add y.neg).1)) ∧
    runs .vmul (.vmul c) true (arith (fun x y _ => (x.mul y).1)) ∧
    runs .vfma (.vfma c) true (arith (fun x y z => ((x.mul y).1.add z).1)) ∧
    runs .vabs (.vabs c) false (arith (fun x _ _ => x.abs)) ∧ runs .vneg (.vneg c) false (arith (fun x _ _ => x.neg)) ∧
    runs .vmin (.vmin c) true (arith (fun x y _ => x.min2 y)) ∧ runs .vmax (.vmax c) true (arith (fun x y _ => x.max2 y)) ∧
    ((s.core c).vcfg.fmt = 9 →
      trans .vexp (.vexp c) [(nan, nan), (0, 0x3F800000), (0x80000000, 0x3F800000), (inf, inf), (ninf, 0)] ∧
      trans .vlog (.vlog c) [(nan, nan), (0, ninf), (0x80000000, ninf), (inf, inf), (ninf, nan), (0x3F800000, 0)] ∧
      trans .vrcp (.vrcp c) [(nan, nan), (0, inf), (0x80000000, ninf), (inf, 0), (ninf, 0x80000000)] ∧
      trans .vrsq (.vrsq c) [(nan, nan), (0, inf), (0x80000000, ninf), (inf, 0), (ninf, nan)] ∧
      trans .vtanh (.vtanh c) [(nan, nan), (0, 0), (0x80000000, 0x80000000), (inf, 0x3F800000), (ninf, 0xBF800000)] ∧
      trans .vsigm (.vsigm c) [(nan, nan), (inf, 0x3F800000), (ninf, 0)])

/-- From R283, R299, R301, R303, R304: the other operations of the Vector engine on registers. VCFG and VRQCFG write their
fields; VREQ requantises a + b; VRSUM of an integer format leaves the exact sum modulo 2^32 and VRMAX the maximum in element 0,
with the other elements 0; VCMP leaves all ones or zeros, VSEL selects by the old vd, VCVT of a format without block scale
converts each element, VSPOT computes the spots of R304. -/
def Obligations.VectorOtherOps : Prop :=
  ∀ (c : CoreId) (f : IFields) (a b d : Word) (env : DispEnv) (s : State),
    let s1 := fun (op : EOp) => s.started c op env
    let k := fun (op : EOp) => (s1 op).core c
    let w := fun (op : EOp) => fmtBits (k op).vcfg.fmt
    let sets := fun (op : EOp) (i : Instr) (P : Nat → Prop) => ∃ (r fl free : Nat), exec i s = .next
      (((({ s1 op with freeCtr := free } : State).modCore c (fun q => q.setV f.dst.toNat r)).setEngFlags c 4 fl).engineDone
        ⟨c, 1, env⟩ op) ∧ P r
    let val := fun (fmt n x : Nat) => if fmt ≠ 4 ∧ 2 ^ (n - 1) ≤ x then (x : Int) - 2 ^ n else (x : Int)
    let int := fun (op : EOp) => (k op).vcfg.fmt = 1 ∨ (k op).vcfg.fmt = 2 ∨ (k op).vcfg.fmt = 3 ∨ (k op).vcfg.fmt = 4
    let va := fun (op : EOp) => (k op).vReg f.srcA.toNat
    let vb := fun (op : EOp) => (k op).vReg f.srcB.toNat
    (s.Runs c .vcfg f a b d env → a.toNat < 2 ^ 14 → a.toNat % 16 ≠ 15 →
      exec (.vcfg c) s = .next (((s1 .vcfg).modCore c (fun q => { q with vcfg := { q.vcfg with
        fmt := a.toNat % 16, rnd := a.toNat / 16 % 4, sat := a.getLsbD 6, esel := a.getLsbD 7,
        rot := a.toNat / 256 % 64 } })).engineDone ⟨c, 1, env⟩ .vcfg)) ∧
    (s.Runs c .vrqcfg f a b d env → a.toNat < 2 ^ 40 → b.toNat < 2 ^ 52 →
      let lo := (b.extractLsb' 16 16).toInt
      let hi := (b.extractLsb' 32 16).toInt
      let o := b.toNat / 2 ^ 48
      (o = 0 ∧ -8 ≤ lo ∧ hi ≤ 7 ∨ o = 1 ∧ -128 ≤ lo ∧ hi ≤ 127 ∨ o = 2 ∨ o = 4 ∧ 0 ≤ lo ∧ hi ≤ 255) → lo ≤ hi →
      exec (.vrqcfg c) s = .next (((s1 .vrqcfg).modCore c (fun q => { q with vcfg := { q.vcfg with
        mult := a.extractLsb' 0 32, shift := a.toNat / 2 ^ 32 % 64, rqrnd := a.toNat / 2 ^ 38, zp := b.extractLsb' 0 16,
        lo := b.extractLsb' 16 16, hi := b.extractLsb' 32 16, ofmt := o } })).engineDone ⟨c, 1, env⟩ .vrqcfg)) ∧
    (s.Runs c .vreq f a b d env → requantFmt (k .vreq).vcfg.ofmt = true → (k .vreq).vcfg.requantOk = true → (k .vreq).vcfg.fmt = 3 →
      sets .vreq (.vreq c) (fun r => ∀ i, i < 64 →
        let g := (k .vreq).vcfg
        let q := (val 3 32 (elemAt 32 (va .vreq) i) + val 3 32 (elemAt 32 (vb .vreq) i)) * g.mult.toInt
        (elemAt 32 r i : Int) = min (max (roundShift q g.shift g.rqrnd + g.zp.toInt) g.lo.toInt) g.hi.toInt % 2 ^ 32)) ∧
    (s.Runs c .vrsum f a b d env → f.srcB = 0 → int .vrsum → sets .vrsum (.vrsum c) (fun r =>
      (elemAt 32 r 0 : Int) = ((List.range (2048 / w .vrsum)).map (fun i =>
        val (k .vrsum).vcfg.fmt (w .vrsum) (elemAt (w .vrsum) (va .vrsum) i))).sum % 2 ^ 32 ∧
      ∀ i, 1 ≤ i → elemAt 32 r i = 0)) ∧
    (s.Runs c .vrmax f a b d env → int .vrmax → sets .vrmax (.vrmax c) (fun r =>
      let v := fun i => val (k .vrmax).vcfg.fmt (w .vrmax) (elemAt (w .vrmax) (va .vrmax) i)
      (∃ i, i < 2048 / w .vrmax ∧ elemAt (w .vrmax) r 0 = elemAt (w .vrmax) (va .vrmax) i ∧ ∀ j, j < 2048 / w .vrmax → v j ≤ v i) ∧
      ∀ i, 1 ≤ i → elemAt (w .vrmax) r i = 0)) ∧
    (s.Runs c .vcmp f a b d env → f.low3 < 6 → int .vcmp → sets .vcmp (.vcmp c) (fun r => ∀ i, i < 2048 / w .vcmp →
      let x := val (k .vcmp).vcfg.fmt (w .vcmp) (elemAt (w .vcmp) (va .vcmp) i)
      let y := val (k .vcmp).vcfg.fmt (w .vcmp) (elemAt (w .vcmp) (vb .vcmp) i)
      elemAt (w .vcmp) r i = if (match f.low3 with
        | 0 => decide (x = y)
        | 1 => decide (x ≠ y)
        | 2 => decide (x < y)
        | 3 => decide (y ≤ x)
        | 4 => decide (x ≤ y)
        | _ => decide (y < x)) then 2 ^ w .vcmp - 1 else 0)) ∧
    (s.Runs c .vcmp f a b d env → f.low3 < 6 → 7 ≤ (k .vcmp).vcfg.fmt → (k .vcmp).vcfg.fmt ≤ 9 → sets .vcmp (.vcmp c)
      (fun r => ∀ i, i < 2048 / w .vcmp →
        let v := fun x => elemVal (k .vcmp).vcfg.fmt (k .vcmp).vcfg.esel (elemAt (w .vcmp) x i)
        elemAt (w .vcmp) r i = if (if v (va .vcmp) = .nan ∨ v (vb .vcmp) = .nan then f.low3 == 1 else
          vcmpCond f.low3 (v (va .vcmp)) (v (vb .vcmp))) then 2 ^ w .vcmp - 1 else 0)) ∧
    (s.Runs c .vsel f a b d env → sets .vsel (.vsel c) (fun r => ∀ i, i < 2048 / w .vsel →
      elemAt (w .vsel) r i = if elemAt (w .vsel) ((k .vsel).vReg f.dst.toNat) i ≠ 0 then elemAt (w .vsel) (va .vsel) i
        else elemAt (w .vsel) (vb .vsel) i)) ∧
    (s.Runs c .vcvt f a b d env → f.hasExt = true → f.ext.toNat < 4096 →
      let src := f.ext.toNat % 16
      let dst := f.ext.toNat / 16 % 16
      src < 10 → dst < 10 → sets .vcvt (.vcvt c) (fun r => ∀ i, i < 2048 / max (fmtBits src) (fmtBits dst) →
        elemAt (fmtBits dst) r i = (elemConv dst (f.ext.toNat / 256 % 4) (f.ext.getLsbD 10)
          (elemVal src (f.ext.getLsbD 11) (elemAt (fmtBits src) (va .vcvt) i))).1 % 2 ^ fmtBits dst)) ∧
    (s.Runs c .vspot f a b d env → let q := b.toNat % 2 ^ 11
      1 ≤ q → q ≤ 1024 → b.toNat / 2 ^ 11 % 32 = 0 → sets .vspot (.vspot c) (fun r => ∀ i, i < 64 →
        let blk := b.toNat / 2 ^ 16 + i
        let h := (a ^^^ BitVec.ofNat 64 blk) * 0x9E3779B97F4A7C15#64
        let h' := h ^^^ (h >>> 29)
        elemAt 32 r i = (blk * q + h'.toNat / 2 ^ 32 % q) % 2 ^ 32))

/-- From R298, R301, R310, R316, R323: the entries that move registers and bytes between an engine and memory it may reach. The
loads leave the bytes of memory in the register, MLD with 2^61 − 1 read as 0, MLDX as residues; the stores leave the register's
bytes at the address, CST with the register cleared; MVCPY copies, MVFILL repeats its pattern; every other byte of memory is
unchanged. From R301, R305: strided loads, gathers and scatters of formats whose elements are whole bytes, those with a block
scale among them (log entry 62). Element i of VLDS is the element at a + i × b, that of VGATH and VSCAT the one at a +
vb.u32[i], for as many elements as the register and the 64 lanes hold; higher elements of a load are 0, and of two lanes of a
scatter with one address the later one stays. -/
def Obligations.EngineLoadsAndGathers : Prop :=
  (∀ (c : CoreId) (f : IFields) (a b d : Word) (env : DispEnv) (s : State),
     let s1 := fun (op : EOp) => s.started c op env
     let k := fun (op : EOp) => (s1 op).core c
     let p := (if f.hasExt then a + f.ext.signExtend 64 else a).toNat
     let load := fun (op : EOp) (i : Instr) (g : Core → Core) =>
       exec i s = .next (((s1 op).modCore c g).engineDone ⟨c, unitOf op, env⟩ op)
     let stores := fun (op : EOp) (i : Instr) (at_ n : Nat) (s2 : State) (P : State → Prop) => ∃ u : State,
       exec i s = .next (u.engineDone ⟨c, unitOf op, env⟩ op) ∧ u.cores = s2.cores ∧ u.regs = s2.regs ∧
       (∀ y, (∀ i, i < n → s.loc (some c) (at_ + i) ≠ .mem y) → u.byte y = s.byte y) ∧ P u
     let ok := fun (op : EOp) (w : Bool) (q n : Nat) => s.Runs c op f a b d env ∧ (s1 op).MemOk c env w q n
     (f.dst.toNat < 16 → a.toNat % 64 = 0 →
       (ok .tdld false a.toNat 64 →
         load .tdld (.tdld c) (fun q => q.setTReg f.dst.toNat ((s1 .tdld).seen c a.toNat 64))) ∧
       (ok .tdst true a.toNat 64 → stores .tdst (.tdst c) a.toNat 64 (s1 .tdst) (fun u =>
         u.seen c a.toNat 64 = (k .tdst).tReg f.dst.toNat % 2 ^ 512))) ∧
     (p % 64 = 0 →
       (ok .vld false p 256 → load .vld (.vld c) (fun q => q.setV f.dst.toNat ((s1 .vld).seen c p 256))) ∧
       (ok .vst true p 256 → stores .vst (.vst c) p 256 (s1 .vst) (fun u =>
         u.seen c p 256 = (k .vst).vReg f.dst.toNat)) ∧
       (f.dst.toNat < 16 →
         (ok .mld false p 256 → (∀ i, i < 32 → elemAt 64 ((s1 .mld).seen c p 256) i < 2 ^ 61) →
           ∃ r, load .mld (.mld c) (fun q => q.setM f.dst.toNat r) ∧ ∀ i, i < 32 → elemAt 64 r i =
             if elemAt 64 ((s1 .mld).seen c p 256) i = 2 ^ 61 - 1 then 0 else elemAt 64 ((s1 .mld).seen c p 256) i) ∧
         (ok .mst true p 256 → stores .mst (.mst c) p 256 (s1 .mst) (fun u =>
           u.seen c p 256 = (k .mst).mReg f.dst.toNat)))) ∧
     (f.dst.toNat < 16 → f.low3 < 5 →
       let w := match f.low3 with
         | 0 => 8
         | 1 => 8
         | 2 => 16
         | 3 => 32
         | _ => 4
       a.toNat % ((w + 7) / 8) = 0 → ok .mldx false a.toNat (4 * w) →
       ∃ r, load .mldx (.mldx c) (fun q => q.setM f.dst.toNat r) ∧ ∀ i, i < 32 →
         let x := elemAt w ((s1 .mldx).seen c a.toNat (4 * w)) i
         (elemAt 64 r i : Int) = (if f.low3 ≠ 1 ∧ 2 ^ (w - 1) ≤ x then (x : Int) - 2 ^ w else (x : Int)) % (2 ^ 61 - 1)) ∧
     (f.dst.toNat < 8 → a.toNat % 32 = 0 → ok .cst true a.toNat 32 →
       let r := (k .cst).cReg f.dst.toNat
       stores .cst (.cst c) a.toNat 32
         ((s1 .cst).modCore c (fun q => q.setC f.dst.toNat ⟨0, 0, 0xFFFFFFFF, 0, 0, 0, r.inj⟩)) (fun u =>
           let e := fun i => elemAt 32 (u.seen c a.toNat 32) i
           e 0 = r.compared % 2 ^ 32 ∧ e 1 = r.mismatch % 2 ^ 32 ∧ e 2 = r.first % 2 ^ 32 ∧ e 3 = r.flags % 2 ^ 32 ∧
           e 4 = r.maxAbs % 2 ^ 32 ∧ e 5 = r.maxUlp % 2 ^ 32 ∧ e 6 = 0 ∧ e 7 = 0)) ∧
     (ok .mvcpy false a.toNat b.toNat → ok .mvcpy true d.toNat b.toNat →
       (b.toNat = 0 ∨ a.toNat + b.toNat ≤ d.toNat ∨ d.toNat + b.toNat ≤ a.toNat) →
       stores .mvcpy (.mvcpy c) d.toNat b.toNat (s1 .mvcpy) (fun u =>
         u.seen c d.toNat b.toNat = (s1 .mvcpy).seen c a.toNat b.toNat)) ∧
     (ok .mvfill true d.toNat b.toNat → stores .mvfill (.mvfill c) d.toNat b.toNat (s1 .mvfill) (fun u =>
       ∀ i, i < b.toNat → u.see c (d.toNat + i) = BitVec.ofNat 8 (a.toNat / 256 ^ (i % 4))))) ∧
  (∀ (c : CoreId) (f : IFields) (a b d : Word) (env : DispEnv) (s : State),
     let s1 := fun (op : EOp) => s.started c op env
     let k := fun (op : EOp) => (s1 op).core c
     let w := fmtBits (s.core c).vcfg.fmt
     let n := w / 8
     let strided := fun i : Nat => (a + BitVec.ofNat 64 i * b).toNat
     let lane := fun (op : EOp) (i : Nat) => (a + BitVec.ofNat 64 (elemAt 32 ((k op).vReg f.srcB.toNat) i)).toNat
     let gets := fun (op : EOp) (i : Instr) (cnt : Nat) (at_ : Nat → Nat) => s.Runs c op f a b d env →
       (∀ i, i < cnt → at_ i % n = 0 ∧ (s1 op).MemOk c env false (at_ i) n) →
       ∃ r, exec i s = .next (((s1 op).modCore c (fun q => q.setV f.dst.toNat r)).engineDone ⟨c, 1, env⟩ op) ∧
         (∀ i, i < cnt → elemAt w r i = (s1 op).seen c (at_ i) n) ∧ ∀ i, cnt ≤ i → i < 2048 / w → elemAt w r i = 0
     w % 8 = 0 →
     gets .vlds (.vlds c) (2048 / w) strided ∧ gets .vgath (.vgath c) (min 64 (2048 / w)) (lane .vgath) ∧
     (s.Runs c .vscat f a b d env →
       (∀ i, i < min 64 (2048 / w) → lane .vscat i % n = 0 ∧ (s1 .vscat).MemOk c env true (lane .vscat i) n) →
       ∃ u : State, exec (.vscat c) s = .next (u.engineDone ⟨c, 1, env⟩ .vscat) ∧ u.cores = (s1 .vscat).cores ∧
         u.regs = (s1 .vscat).regs ∧
         (∀ i, i < min 64 (2048 / w) →
           (∀ j, i < j → j < min 64 (2048 / w) → s.loc (some c) (lane .vscat j) ≠ s.loc (some c) (lane .vscat i)) →
           u.seen c (lane .vscat i) n = elemAt w ((k .vscat).vReg f.dst.toNat) i) ∧
         ∀ y, (∀ i j, i < min 64 (2048 / w) → j < n → s.loc (some c) (lane .vscat i + j) ≠ .mem y) → u.byte y = s.byte y))

/-- From R277, R292–R298: the Tensor engine. TDSETW writes one word of a descriptor register. TMMA of an integer tile without
requantisation, unfolding or ONWRAP, whose descriptor passes the checks of R288 and whose rows it may reach, leaves in D the
sums of products, with C and the column's bias where the descriptor asks for them, modulo 2^32, and changes no byte outside D.
-/
def Obligations.TensorResults : Prop :=
  ∀ (c : CoreId) (f : IFields) (a b d : Word) (env : DispEnv) (s : State),
    (s.Runs c .tdsetw f a b d env → f.dst.toNat < 16 → f.imm8 < 16 →
      exec (.tdsetw c) s = .next (((s.started c .tdsetw env).modCore c (fun q => { q with
        t := SMap.set (fun _ => 0) q.t (16 * f.dst.toNat + f.imm8) (a.setWidth 32) })).engineDone ⟨c, 0, env⟩ .tdsetw)) ∧
    (s.Runs c .tmma f a b d env → f.srcA.toNat < 16 → f.dst = 0 → f.srcB = 0 →
      let s1 := s.started c .tmma env
      let t := Tile.of ((s1.core c).tReg f.srcA.toNat)
      t.descOk = true → t.fmtOk = true → t.alignOk = true → t.isInt = true → t.req = false → t.unf = false →
      t.onwrap = false → t.pcq = false →
      (∀ r ∈ t.planeA.ranges ++ t.reads, s1.MemOk c env false r.1 r.2) → (∀ r ∈ t.planeD.ranges, s1.MemOk c env true r.1 r.2) →
      (∀ i i' j j', i < i' → i' < t.m → j < 4 * t.n → j' < 4 * t.n →
        s.loc (some c) (t.d + i * t.dStride + j) ≠ s.loc (some c) (t.d + i' * t.dStride + j')) →
      let el := fun (fmt base stride cols i j : Nat) =>
        intOf fmt (elemAt (fmtBits fmt) (s1.seen c (base + i * stride) (rowBytes fmt cols)) j)
      ∃ (u : State) (fl : Nat) (acc : List Nat), exec (.tmma c) s = .next ((u.setEngFlags c 0 fl).engineDone ⟨c, 0, env⟩ .tmma) ∧
        u.cores = (s1.modCore c (fun q => { q with acc := acc })).cores ∧ u.regs = s1.regs ∧
        (∀ i j, i < t.m → j < t.n → (elemAt 32 (u.seen c (t.d + i * t.dStride) (4 * t.n)) j : Int) =
          ((if t.acc then el 3 t.c t.cStride t.n i j else 0) +
            ((List.range t.k).map (fun q => el t.afmt t.a t.aStride t.k i q * el t.bfmt t.b t.bStride t.n q j)).sum +
            (if t.bias then el 3 t.biasAt 0 t.n 0 j else 0)) % 2 ^ 32) ∧
        ∀ y, (∀ i j, i < t.m → j < 4 * t.n → s.loc (some c) (t.d + i * t.dStride + j) ≠ .mem y) → u.byte y = s.byte y)

/-- From R306, R308–R311: the Residue engine. MADD, MSUB, MMUL, MMAC and MRED work modulo p = 2^61 − 1 on the lanes; MRND draws
32 values below p, or 32 values +1.0 and −1.0; MMV of an integer matrix leaves Σ res(X) · V mod p of every row, and MMVF the
floating sums of R279, at Y0, and no other byte of memory changes. -/
def Obligations.ResidueResults : Prop :=
  ∀ (c : CoreId) (f : IFields) (a b d : Word) (env : DispEnv) (s : State),
    let p : Nat := 2 ^ 61 - 1
    let s1 := fun (op : EOp) => s.started c op env
    let k := fun (op : EOp) => (s1 op).core c
    let sets := fun (op : EOp) (i : Instr) (P : Nat → Prop) => s.Runs c op f a b d env → f.dst.toNat < 16 →
      ∃ (r free : Nat) (keep : KeepSt), exec i s = .next ((({ s1 op with freeCtr := free, keep := keep } : State).modCore c
        (fun q => q.setM f.dst.toNat r)).engineDone ⟨c, 2, env⟩ op) ∧ P r
    let lane := fun (op : EOp) (r : BitVec 5) (i : Nat) => elemAt 64 ((k op).mReg r.toNat) i
    (f.srcA.toNat < 16 →
      (f.srcB.toNat < 16 →
        sets .madd (.madd c) (fun r => ∀ i, i < 32 → elemAt 64 r i = (lane .madd f.srcA i + lane .madd f.srcB i) % p) ∧
        sets .msub (.msub c) (fun r => ∀ i, i < 32 →
          (elemAt 64 r i : Int) = ((lane .msub f.srcA i : Int) - lane .msub f.srcB i) % p) ∧
        sets .mmul (.mmul c) (fun r => ∀ i, i < 32 → elemAt 64 r i = lane .mmul f.srcA i * lane .mmul f.srcB i % p) ∧
        sets .mmac (.mmac c) (fun r => ∀ i, i < 32 → elemAt 64 r i =
          (lane .mmac f.dst i + lane .mmac f.srcA i * lane .mmac f.srcB i) % p)) ∧
      (f.srcB = 0 → sets .mred (.mred c) (fun r =>
        elemAt 64 r 0 = ((List.range 32).map (lane .mred f.srcA)).sum % p ∧ ∀ i, 1 ≤ i → elemAt 64 r i = 0))) ∧
    (f.srcA = 0 → f.srcB = 0 → (s1 .mrnd).keep.rng = true →
      (f.low3 % 2 = 0 → sets .mrnd (.mrnd c) (fun r => ∀ i, i < 32 → elemAt 64 r i < p)) ∧
      (f.low3 % 2 = 1 → sets .mrnd (.mrnd c) (fun r => ∀ i, i < 32 →
        elemAt 64 r i = 0x3F800000 ∨ elemAt 64 r i = 0xBF800000))) ∧
    (∀ float : Bool, let op : EOp := if float then .mmvf else .mmv
      s.Runs c op f a b d env → a.toNat % 64 = 0 → (s1 op).MemOk c env false a.toNat 64 →
      let e := ResDesc.of ((s1 op).seen c a.toNat 64)
      e.descOk float = true → e.fmtOk float = true → e.alignOk = true → e.unf = false → e.two = false → e.trans = false →
      e.bound = false → (float = false → e.fmt ≤ 4) →
      let n := if float then 4 else 8
      (∀ r ∈ e.plane.ranges ++ [(e.v0, e.cols * n)], (s1 op).MemOk c env false r.1 r.2) →
      (s1 op).MemOk c env true e.y0 (e.rows * n) →
      let x := fun i j => elemAt (fmtBits e.fmt) ((s1 op).seen c (e.x + i * e.stride) (rowBytes e.fmt e.cols)) j
      let v := fun j => elemAt (8 * n) ((s1 op).seen c e.v0 (e.cols * n)) j
      (float = false → ∀ j, j < e.cols → v j < 2 ^ 61) →
      ∃ (u : State) (fl free : Nat), exec (if float then .mmvf c else .mmv c) s = .next
          ((if float then ({ u with freeCtr := free }).setEngFlags c 8 fl else u).engineDone ⟨c, 2, env⟩ op) ∧
        u.cores = (s1 op).cores ∧ u.regs = (s1 op).regs ∧
        (∀ i, i < e.rows → elemAt (8 * n) (u.seen c e.y0 (e.rows * n)) i =
          if float then fmtF32.encode (dotFloat FV.zero ((List.range e.cols).map (fun j => elemVal e.fmt false (x i j)))
            ((List.range e.cols).map (fun j => fmtF32.decode (v j)))).1 % 2 ^ 32
          else (((List.range e.cols).map (fun j => intOf e.fmt (x i j) * v j)).sum % p).toNat) ∧
        ∀ y, (∀ j, j < e.rows * n → s.loc (some c) (e.y0 + j) ≠ .mem y) → u.byte y = s.byte y)

/-- From R314–R318: the Compare engine. CCFG writes its fields, CINJ arms an injection. CMPT in EXACT mode, without an
injection, enters every pair of elements in the result register: COMPARED counts them, MISMATCH those that differ, FIRST is the
first of these when nothing had failed before, FLAGS bit 0 says that some differ; an operand of an MX format ends with its
scales (R270). CMPM does the same for the words of its mask. -/
def Obligations.CompareResults : Prop :=
  ∀ (c : CoreId) (f : IFields) (a b d : Word) (env : DispEnv) (s : State),
    let s1 := fun (op : EOp) => s.started c op env
    let old := fun (op : EOp) => ((s1 op).core c).cReg f.dst.toNat
    let ends := fun (op : EOp) (i : Instr) (P : CmpReg → Prop) => ∃ r, exec i s =
      .next (((s1 op).modCore c (fun q => q.setC f.dst.toNat r)).engineDone ⟨c, 3, env⟩ op) ∧ P r
    let counts := fun (o : CmpReg) (l : List (Nat × Nat × Nat)) (r : CmpReg) =>
      let bad := l.filter (fun e => e.2.1 != e.2.2)
      r.compared = min (o.compared + l.length) 0xFFFFFFFF ∧ r.mismatch = min (o.mismatch + bad.length) 0xFFFFFFFF ∧
      r.first = (if o.first = 0xFFFFFFFF then ((bad.head?).map (·.1)).getD 0xFFFFFFFF else o.first) ∧
      (bit r.flags 0 = (bit o.flags 0 || !bad.isEmpty)) ∧ r.inj = none
    (s.Runs c .ccfg f a b d env → a.toNat % 2 ^ 32 ≤ 0x7F800000 → a.toNat / 2 ^ 32 ≤ 0x7F800000 →
      b.toNat / 2 ^ 32 % 16 ≤ 3 → b.toNat / 2 ^ 36 < 15 →
      exec (.ccfg c) s = .next (((s1 .ccfg).modCore c (fun q => { q with ccfg :=
        ⟨a.extractLsb' 0 32, a.extractLsb' 32 32, b.extractLsb' 0 32, b.toNat / 2 ^ 32 % 16, b.toNat / 2 ^ 36⟩ })).engineDone
          ⟨c, 3, env⟩ .ccfg)) ∧
    (s.Runs c .cinj f a b d env → f.dst.toNat < 8 → ends .cinj (.cinj c) (fun r =>
      r = { old .cinj with inj := some (a.toNat, b.toNat % 2 ^ 32) })) ∧
    (s.Runs c .cmpt f a b d env → f.hasExt = true → f.dst.toNat < 8 → f.low3 = 0 → (s.core c).ccfg.mode = 0 →
      (s.core c).ccfg.fmt < 15 → (old .cmpt).inj = none → (old .cmpt).compared < 2 ^ 32 → (old .cmpt).mismatch < 2 ^ 32 →
      let fmt := (s.core c).ccfg.fmt
      let n := f.ext.toNat
      let len := rowBytes fmt n + (if fmtIsMx fmt then (n + 31) / 32 else 0)
      a.toNat % rowBytes fmt 1 = 0 → b.toNat % rowBytes fmt 1 = 0 → (s1 .cmpt).MemOk c env false a.toNat len →
      (s1 .cmpt).MemOk c env false b.toNat len →
      ends .cmpt (.cmpt c) (counts (old .cmpt) ((List.range n).map (fun i =>
        (i, elemAt (fmtBits fmt) ((s1 .cmpt).seen c a.toNat len) i, elemAt (fmtBits fmt) ((s1 .cmpt).seen c b.toNat len) i))))) ∧
    (s.Runs c .cmpm f a b d env → f.hasExt = true → f.dst.toNat < 8 → f.low3 = 0 → (old .cmpm).inj = none →
      (old .cmpm).compared < 2 ^ 32 → (old .cmpm).mismatch < 2 ^ 32 →
      let n := f.ext.toNat / 2 ^ 16
      a.toNat % 64 = 0 → b.toNat % 64 = 0 → (s1 .cmpm).MemOk c env false a.toNat (64 * n) →
      (s1 .cmpm).MemOk c env false b.toNat (64 * n) →
      ends .cmpm (.cmpm c) (counts (old .cmpm) (((List.range (16 * n)).filter (fun i => f.ext.getLsbD (i % 16))).map (fun i =>
        (i, elemAt 32 ((s1 .cmpm).seen c a.toNat (64 * n)) i, elemAt 32 ((s1 .cmpm).seen c b.toNat (64 * n)) i)))))

/-- From R320–R323: MVRUN of a chain of one descriptor that copies rows. Rows whose sources it may read and whose destinations
it may write, all disjoint, are copied; no other byte of memory changes. -/
def Obligations.MoverRuns : Prop :=
  ∀ (c : CoreId) (f : IFields) (a b d : Word) (env : DispEnv) (s : State), s.Runs c .mvrun f a b d env → f.dst = 0 →
    f.srcB = 0 → a.toNat % 64 = 0 →
    let s1 := s.started c .mvrun env
    s1.MemOk c env false a.toNat 64 →
    let m := MoveDesc.of (s1.seen c a.toNat 64)
    m.ok = true → m.gather = false → m.scatter = false → m.fill = false → m.cvu = false → m.next = 0 →
    (∀ r, r < m.rows → s1.MemOk c env false (m.src + r * m.srcStride) m.rowLen ∧
      s1.MemOk c env true (m.dst + r * m.dstStride) m.rowLen) →
    (∀ r r' i j, r < m.rows → r' < m.rows → i < m.rowLen → j < m.rowLen →
      m.src + r * m.srcStride + i ≠ m.dst + r' * m.dstStride + j ∧
      s.loc (some c) (m.src + r * m.srcStride + i) ≠ s.loc (some c) (m.dst + r' * m.dstStride + j) ∧
      (r ≠ r' → s.loc (some c) (m.dst + r * m.dstStride + i) ≠ s.loc (some c) (m.dst + r' * m.dstStride + j))) →
    ∃ u : State, exec (.mvrun c) s = .next (u.engineDone ⟨c, 4, env⟩ .mvrun) ∧ u.regs = s1.regs ∧
      u.cores = (s1.modCore c (fun q => { q with prefetch := [(List.range 64).map (fun i => s1.see c (a.toNat + i))] })).cores ∧
      (∀ r, r < m.rows → u.seen c (m.dst + r * m.dstStride) m.rowLen = s1.seen c (m.src + r * m.srcStride) m.rowLen) ∧
      ∀ y, (∀ r i, r < m.rows → i < m.rowLen → s.loc (some c) (m.dst + r * m.dstStride + i) ≠ .mem y) → u.byte y = s.byte y

/-- From R138, R192, R203, R227: TAG_ALLOCATE posts the stalled store and the Steward goes on once a tag is free, and changes
nothing before; a reply stamped with the present epoch of its target writes the loaded value, extended as the load has it, or
raises MEM with its status; that of an engine's read outside the device joins what has come back of its entry; one stamped with
another epoch is dropped. From R137, R140, R195, R458, R468, R469: after an epoch notice no transaction issued under an older
epoch of the part is in flight, a posted write that was has been performed whole or not at all and leaves STORE_ASYNC with
EPOCH_CHANGED pending, and a Steward that waited for one takes MEM with EPOCH_CHANGED; a marker waits for the earlier writes of
its path and class, then leaves the fabric and adds its delta, unless its generation is stale, which is counted. From R473,
R481–R484, R771, R773: the report of a core stuck for its window, and for a further one since its last report, freezes its
blocked, halted and sleeping units with the time stuck and makes DEADLOCK pending; a blocked unit that is marked lent gives its
credit back; a withheld engine whose head is of C0 gets its credit, one of C2 only when the live pool has it free beside the
reserve of C0. -/
def Obligations.FabricEvents : Prop :=
  ((∀ (c : CoreId) (st : StoreReq) (len : Nat) (s : State), (s.core c).stw = .tagStall st len →
     let k := s.core c
     let free := s.ownTags c 5 < 16 ∨ (s.poolUsed c < 96 ∧ (k.cls = 0 ∨ s.poolLow c < 64))
     (free → ∃ t o, exec (.tagAllocate c) s = .next t ∧ t.fab.outst = s.fab.outst ++ [o] ∧ o.core = c.val ∧ o.unit = 5 ∧
       o.write = true ∧ o.addr = st.addr ∧ o.data = st.data ∧ o.path = s.pathOf (s.loc (some c) st.addr) ∧
       (t.core c).stw = .run ∧ (t.core c).pc = k.pc + w64 len ∧ (∀ q, (t.core c).sreg q = k.sreg q) ∧ t.regs = s.regs ∧
       t.mem = s.mem) ∧
     (¬ free → exec (.tagAllocate c) s = .next s)) ∧
   (∀ (tag epoch len : Nat) (st : MStat) (data : List Byte) (o : Outst) (s : State),
     s.fab.outst.find? (fun o => o.tag == tag && !o.write) = some o →
     let k := s.core o.core
     let n := leNat data
     let now := s.issueEpoch (s.loc (some o.core) o.addr)
     let value : Word :=
       if o.kind = 0 then (BitVec.ofNat 8 n).signExtend 64 else if o.kind = 1 then BitVec.ofNat 64 (n % 2 ^ 8)
       else if o.kind = 2 then (BitVec.ofNat 16 n).signExtend 64 else if o.kind = 3 then BitVec.ofNat 64 (n % 2 ^ 16)
       else if o.kind = 4 then (BitVec.ofNat 32 n).signExtend 64 else if o.kind = 5 then BitVec.ofNat 64 (n % 2 ^ 32)
       else BitVec.ofNat 64 n
     (epoch ≠ now → exec (.replyReceived tag epoch st data) s = .next s) ∧
     (epoch = now → o.unit < 5 → ∀ r, SMap.get (fun _ => none) k.away o.unit = some r → r.first = o.kind →
       ∃ t, exec (.replyReceived tag epoch st data) s = .next t ∧ (∀ x ∈ t.fab.outst, x.tag ≠ tag) ∧ t.regs = s.regs ∧ t.mem = s.mem ∧
         SMap.get (fun _ => none) (t.core o.core).away o.unit = some { r with got := r.got ++ [(o.addr, st, data)] }) ∧
     (epoch = now → 5 ≤ o.unit → k.stw = .memWait tag len → st = .ok → ∃ t, exec (.replyReceived tag epoch st data) s = .next t ∧
       (∀ q, (t.core o.core).sreg q = sregAfter k o.dst value q) ∧ (t.core o.core).pc = k.pc + w64 len ∧
       (t.core o.core).stw = .run ∧ (∀ x ∈ t.fab.outst, x.tag ≠ tag) ∧ t.regs = s.regs ∧ t.mem = s.mem) ∧
     (epoch = now → 5 ≤ o.unit → k.stw = .memWait tag len → st ≠ .ok → ∃ u : State, exec (.replyReceived tag epoch st data) s =
         .next (u.raise o.core ⟨0x07, mstCode st, 0, false, BitVec.ofNat 64 o.addr⟩ k.pc) ∧
       (∀ x ∈ u.fab.outst, x.tag ≠ tag) ∧ u.regs = s.regs ∧ u.mem = s.mem))) ∧
  ((∀ (p : Part) (s : State), ∃ t, exec (.epochNotice p) s = .next t ∧
     (∀ o ∈ s.fab.outst, s.partOf (s.loc (some o.core) o.addr) = some p → o.epoch ≠ s.epochOf p →
       ∀ x ∈ t.fab.outst, x.tag ≠ o.tag) ∧
     (∀ o, s.fab.outst = [o] → o.write = true → s.partOf (s.loc (some o.core) o.addr) = some p → o.epoch ≠ s.epochOf p →
       (t.core o.core).pend.storeAsync = (s.core o.core).pend.storeAsync ++ [(.epochChanged, o.addr, o.priv)] ∧ t.regs = s.regs ∧
       ∀ pa, s.loc (some o.core) o.addr = .mem pa → t.mem = s.mem ∨
         ((∀ i, i < o.data.length → some (t.byte (pa + i)) = o.data[i]?) ∧
           ∀ y, y < pa ∨ pa + o.data.length ≤ y → t.byte y = s.byte y)) ∧
     (∀ o len, s.fab.outst = [o] → o.write = false → 5 ≤ o.unit → s.partOf (s.loc (some o.core) o.addr) = some p → o.epoch ≠ s.epochOf p →
       (s.core o.core).stw = .memWait o.tag len → ∃ u : State, u.fab.outst = [] ∧ u.regs = s.regs ∧ u.mem = s.mem ∧
         t = u.raise o.core ⟨0x07, 4, 0, false, BitVec.ofNat 64 o.addr⟩ (s.core o.core).pc)) ∧
   (∀ (c : CoreId) (id : Nat) (m : Marker) (s : State),
     s.fab.markers.find? (fun m => m.core == c.val && m.id == id) = some m → m.obj < 256 →
     let behind := ∃ o ∈ s.fab.outst, o.write = true ∧ o.core = m.core ∧ o.unit = m.unit ∧ o.path = m.path ∧ o.cls = m.cls ∧ o.tag < m.id
     let v := s.fld (R.CORE_SOBJ_VALUE c m.obj)
     (behind → exec (.markerReturn c id) s = .next s) ∧
     (¬ behind → ∃ t, exec (.markerReturn c id) s = .next t ∧ t.fab.markers = s.fab.markers.erase m ∧
       (m.epoch ≠ s.fld (R.CORE_EPOCH_EPOCH c) → t.regs = s.regs ∧ t.cores = s.cores) ∧
       (m.epoch = s.fld (R.CORE_EPOCH_EPOCH c) → m.gen ≠ s.fld (R.CORE_BELLGEN_CTXGEN c) →
         t.fld (R.CORE_SOBJ_VALUE c m.obj) = v ∧
         t.fld (R.CORE_BELLSTAT_STALE_DROP c) = min (s.fld (R.CORE_BELLSTAT_STALE_DROP c) + 1) 65535) ∧
       (m.epoch = s.fld (R.CORE_EPOCH_EPOCH c) → m.gen = s.fld (R.CORE_BELLGEN_CTXGEN c) → 0 ≤ (v : Int) + m.delta.toInt →
         (v : Int) + m.delta.toInt ≤ s.fld (R.CORE_SOBJCFG_LIMIT c m.obj) →
         (t.fld (R.CORE_SOBJ_VALUE c m.obj) : Int) = v + m.delta.toInt ∧ (∀ a, a ≠ R.CORE_SOBJ c m.obj → t.reg a = s.reg a) ∧
         t.mem = s.mem)))) ∧
  (∀ (c : CoreId) (s : State),
     let k := s.core c
     (∀ us, s.coreStuck c = true → s.fld (R.CORE_BELLCFG_DL_WINDOW c) ≠ 0 → s.fld (R.CORE_BELLCFG_DL_WINDOW c) ≤ us → us < 2 ^ 30 →
       (∀ x, k.dlAt = some x → x + 1000 * s.fld (R.CORE_BELLCFG_DL_WINDOW c) ≤ s.tb2) →
       ∃ t, exec (.deadlockReport (some c) us) s = .next t ∧ (t.core c).pend.deadlock = true ∧
         t.flag (R.CORE_DLSTAT_VALID c) = true ∧ t.flag (R.CORE_DLSTAT_STILL c) = true ∧
         t.flag (R.CORE_DLSTAT_SCOPE c) = false ∧ t.fld (R.CORE_DLSTAT_ELAPSED c) = us ∧
         (∀ u, u < 6 → (bit (t.fld (R.CORE_DLSTAT_BLOCKED c)) u = true ↔ s.unitState c u = .blocked) ∧
           (bit (t.fld (R.CORE_DLSTAT_HALTED c)) u = true ↔ s.unitState c u = .halted)) ∧ t.mem = s.mem) ∧
     (∀ u : UnitId, (u.val = 5 → k.stw = .wfi ∨ (∃ o d t, k.stw = .waitObj o d t) ∨ ∃ n, k.stw = .waitBar n) →
       (u.val < 5 → ∃ o d t env, (k.queue u).head? = some (.wait o d t env)) →
       ∃ t, exec (.engineLent c u) s = .next t ∧ bit (t.core c).held u = false ∧ bit (t.core c).withheld u = false ∧
         bit (t.fld (R.CORE_BELLSTAT_LENT c)) u = true ∧ (t.core c).queues = k.queues ∧ (t.core c).stw = k.stw ∧
         (∀ a, a ≠ R.CORE_BELLSTAT c → t.reg a = s.reg a) ∧ t.mem = s.mem) ∧
     (∀ (e : EngId) (op : EOp) (f : IFields) (x y z : Word) (env : DispEnv), bit k.withheld e = true →
       (k.queue e).head? = some (.op op f x y z env) →
       let room := s.creditUsed + engineCredit e + s.reserveLeft ≤ s.fld R.PWR_STATUS_LIVE
       let u : UnitId := ⟨e, by omega⟩
       (env.cls = 0 ∨ room → ∃ t, exec (.creditGrant c u) s = .next t ∧ bit (t.core c).held e = true ∧
         bit (t.core c).withheld e = false ∧ t.regs = s.regs ∧ t.mem = s.mem) ∧
       (env.cls = 2 → ¬ room → ∃ t, exec (.creditGrant c u) s = .next t ∧ bit (t.core c).held e = bit k.held e ∧
         bit (t.core c).withheld e = true ∧ (t.core c).queues = k.queues ∧ t.regs = s.regs ∧ t.mem = s.mem)))

/-- From R261, R262, R365, R410: a slot of a serving core starts the oldest ready job of its program: the program begins at U at
its entry with the arguments in s1–s4 and every other register 0, its code window grants R and X, SLOTLEFT holds the slot length
in CORE cycles, the job is marked begun, and PAIRSTAT shows a paired program's first pass. A slot of a core that already runs a
program, one started outside SERVING and DEGRADED, and one outside its time of the frame, changes nothing. The S runtime must be
free to start it. -/
def Obligations.SlotStarts : Prop :=
  ∀ (c : CoreId) (i : Fin 32) (desc : Word) (w1 w2 w3 : Word × Word) (s : State),
    let k := s.core c
    let prog := s.fld (R.CORE_SLOT_PROG c i)
    (k.slot.isSome = true ∨ s.serving = false ∨ s.fld (fCoreState c) ≠ csSERVING ∨ s.tb2 < s.slotBegin c i ∨ s.slotEnd c i ≤ s.tb2 →
      exec (.slotStart c i desc w1 w2 w3) s = .next s) ∧
    (∀ (p : Prog) (j : Job) (fr : OpenFrame), s.serving = true → s.fld (fCoreState c) = csSERVING → k.slot = none →
      k.dbgHalt = false → k.priv = .s → k.stw = .run ∨ k.stw = .wfi → s.slotBegin c i ≤ s.tb2 → s.tb2 < s.slotEnd c i →
      s.flag (R.CORE_SLOT_VALID c i) = true → s.fld (R.CORE_SLOTCFG_COUNT c) ≠ 0 →
      s.flag (R.CORE_SLOT_PASS2 c i) = false → s.reRunJob c i = none → (∀ h ∈ s.stages, h.2.2 ≠ prog) → s.prog prog = some p →
      s.readyJob prog (s.slotBegin c i) = some j → s.slotFits c i j = true → s.openFrame j.route j.frame = some fr → s.Calm c →
      ∃ t, exec (.slotStart c i desc w1 w2 w3) s = .next t ∧
        (∀ q, (t.core c).sreg q = if q = 1 then desc else if q = 2 then BitVec.ofNat 64 j.frame
          else if q = 3 then BitVec.ofNat 64 fr.epoch else if q = 4 then BitVec.ofNat 64 (s.slotEnd c i) else 0) ∧
        (∀ q, q ≠ 0 → (t.core c).preg q = false) ∧ (t.core c).priv = .u ∧ (t.core c).stw = .run ∧
        (t.core c).pc = BitVec.ofNat 64 (p.code + p.entry) ∧
        (t.core c).rdCsr 0x28 = BitVec.ofNat 64 (p.code / 0x1000 * 0x1000 + 5) ∧
        (t.core c).rdCsr 0x29 = BitVec.ofNat 64 ((p.code + p.codeSize - 1) / 0x1000 * 0x1000 + 1) ∧
        (t.core c).rdCsr 0x30 = BitVec.ofNat 64 (1500 * s.fld (R.CORE_SLOT_LENGTH c i)) ∧
        (∃ r, (t.core c).slot = some r ∧ r.idx = i.val ∧ r.cls = s.fld (R.CORE_SLOT_CLASS c i) ∧ r.prog = p.idx ∧
          r.pass2 = false ∧ r.route = j.route ∧ r.frame = j.frame) ∧
        (∃ x, t.job j.route j.frame = some x ∧ x.ran = true ∧ x.core = c.val) ∧
        (s.paired p = true → t.flag (R.CORE_PAIRSTAT_ACTIVE c) = true ∧ t.flag (R.CORE_PAIRSTAT_PASS2 c) = false ∧
          t.fld (R.CORE_PAIRSTAT_SIGMA c) = 0 ∧ t.fld (R.CORE_PAIRSTAT_RHOV c) = 11 * j.frame % 64 ∧
          t.fld (R.CORE_PAIRSTAT_RHOT c) = 11 * j.frame % 32) ∧
        t.mem = s.mem)

/-- From R358, R359, R365, R375, R426, R503: the services of the S runtime answer in the registers that the rules name and go
back to the program. PASS_INFO gives the rotations and shifts of the pass; PASS_OUT records an output, at most 16 of 1 to 2^24
bytes; HEARTH_REF gives a ready result's address and length; TAP_FRAME gives a stored frame's buffer, stride, lines and outcome;
CHECK_DONE with a mismatch fails the layer, and otherwise withdraws no credit; it credits a layer once, in a frame of an epoch
that is current, under a valid layer table, and a FIXEDB layer only with the constants of the job's bundle ready. -/
def Obligations.ProgramServices : Prop :=
  ∀ (c : CoreId) (s : State) (run : SlotRun),
    let k := s.core c
    let f := run.frame % 2 ^ 32
    (s.Serves c 0x11 run → ∃ t, exec (.passInfo c) s = .next t ∧ s.Resumed t c ∧ t.regs = s.regs ∧ t.mem = s.mem ∧
      (run.pass2 = false → (t.core c).sreg 1 = 1 ∧ (t.core c).sreg 2 = BitVec.ofNat 64 (11 * f % 32) ∧
        (t.core c).sreg 3 = BitVec.ofNat 64 (11 * f % 64) ∧ (t.core c).sreg 4 = 0 ∧ (t.core c).sreg 5 = 0) ∧
      (run.pass2 = true → (t.core c).sreg 1 = 2 ∧ (t.core c).sreg 2 = BitVec.ofNat 64 ((11 * f % 32 + 16) % 32) ∧
        (t.core c).sreg 3 = BitVec.ofNat 64 ((11 * f % 64 + 32) % 64) ∧
        (t.core c).sreg 4 = BitVec.ofNat 64 (64 * (1 + 5 * f % 31)) ∧ (t.core c).sreg 5 = BitVec.ofNat 64 (1 + 7 * f % 120)) ∧
      ∀ q, 6 < q → (t.core c).sreg q = k.sreg q) ∧
    (s.Serves c 0x12 run → ∃ t, exec (.passOut c) s = .next t ∧ s.Resumed t c ∧ t.regs = s.regs ∧ t.mem = s.mem ∧
      (∀ q, (t.core c).sreg q = k.sreg q) ∧ ∃ r, (t.core c).slot = some r ∧
        ((1 ≤ (k.sreg 2).toNat ∧ (k.sreg 2).toNat ≤ 2 ^ 24 ∧ run.outs.length < 16 →
          r.outs = run.outs ++ [((k.sreg 1).toNat, (k.sreg 2).toNat)]) ∧
        ((k.sreg 2).toNat = 0 ∨ 2 ^ 24 < (k.sreg 2).toNat → r.outs = run.outs))) ∧
    (∀ rc, s.Serves c 0x13 run → s.route run.route = some rc →
      let h := SMap.get (fun _ => HearthSt.empty) s.jobs.hearth rc.hearth
      let ready := rc.hearth ≠ 0xFF ∧ s.hearthReady rc.hearth run.frame = true
      ∃ t, exec (.hearthRef c) s = .next t ∧ s.Resumed t c ∧ t.regs = s.regs ∧ t.mem = s.mem ∧
        (ready → (t.core c).sreg 1 = BitVec.ofNat 64 h.addr ∧ (t.core c).sreg 2 = BitVec.ofNat 64 h.len) ∧
        (¬ ready → (t.core c).sreg 1 = 0) ∧ (t.core c).sreg 3 < 1024 ∧ ∀ q, 3 < q → (t.core c).sreg q = k.sreg q) ∧
    (∀ tap frame, s.Serves c 0x14 run → tap < 8 → k.sreg 1 = BitVec.ofNat 64 tap → frame < 2 ^ 32 →
      k.sreg 2 = BitVec.ofNat 64 frame →
      let stored := (s.tap tap).bufs.find? (fun x => x.2 == frame)
      ∃ t, exec (.tapFrame c) s = .next t ∧ s.Resumed t c ∧ t.regs = s.regs ∧ t.mem = s.mem ∧
        (∀ x, stored = some x → (t.core c).sreg 1 = BitVec.ofNat 64 (s.ringBuf tap x.1)) ∧
        (stored = none → (t.core c).sreg 1 = 0) ∧
        (t.core c).sreg 2 = BitVec.ofNat 64 (64 * s.fld (R.TAP_RING_STRIDE tap)) ∧
        (s.fld (R.TAP_T_STAT_FRAME tap) = frame → (t.core c).sreg 3 = BitVec.ofNat 64 (s.fld (R.TAP_T_STAT_RXLINE tap))) ∧
        (t.core c).sreg 4 = BitVec.ofNat 64 ((s.outcome tap frame).getD 0) ∧ ∀ q, 4 < q → (t.core c).sreg q = k.sreg q) ∧
    (∀ (p : Prog) (j : Job) (fr : OpenFrame) (l : Layer), s.Serves c 0x10 run → s.prog run.prog = some p →
      s.job run.route run.frame = some j → s.openFrame run.route run.frame = some fr →
      (s.layerTable p).layers[(k.sreg 1).toNat]? = some l →
      let at_ := 0x1000000000 + c.val * 0x200000 + (k.sreg 2).toNat % 0x200000
      let compared := leNat (s.bytes at_ 4)
      let mismatch := leNat (s.bytes (at_ + 4) 4)
      let i := (k.sreg 1).toNat
      let v := (k.sreg 3).toNat
      ∃ t j', exec (.checkDone c) s = .next t ∧ s.Resumed t c ∧ t.regs = s.regs ∧ t.mem = s.mem ∧
        (∀ q, (t.core c).sreg q = k.sreg q) ∧ t.job run.route run.frame = some j' ∧
        (mismatch ≠ 0 → j'.credits = j.credits ∧ ∃ n why, j'.failed = some (n, why) ∧ n ≤ i ∧
          (j.failed = none → n = i ∧ 1 ≤ why ∧ why ≤ 4)) ∧
        (mismatch = 0 → j'.failed = j.failed ∧ ∀ x ∈ j.credits, x ∈ j'.credits) ∧
        (mismatch = 0 → l.mode ≤ 1 → bit (leNat (s.bytes (at_ + 0xC) 4)) 2 = false → compared = l.m * v → 1 ≤ v →
          v ≤ (s.layerTable p).vecs → (s.layerTable p).current fr.age = true → (∀ x ∈ j.credits, x.idx ≠ i) →
          fr.epoch ≠ 0 → (s.routeSt run.route).badTable run.frame = false →
          (bit l.flags 0 = true → ∃ e, (s.routeSt run.route).epochOf fr = some e ∧ e.ready = true ∧
            (j.bundle = 0 ∨ e.bundle = j.bundle)) →
          j'.credits = j.credits ++ [⟨i, v, (k.sreg 4).toNat, compared⟩]) ∧
        ((∃ x ∈ j.credits, x.idx = i) → j'.credits = j.credits))

/-- From R263, R264, R265, R364, R376–R378: EXIT with the engines of the program drained ends the run. An unpaired program's
code, 255 for one above 255, goes to its job; pass 1 of a pair is kept; pass 2 with equal outputs gives the job its code, and
with unequal ones drives the compare-mismatch line of the core. EXIT waits while an engine of the program still works. -/
def Obligations.ProgramExit : Prop :=
  ∀ (c : CoreId) (s : State) (run : SlotRun) (p : Prog) (j : Job),
    let k := s.core c
    let code := if (k.sreg 1).toNat ≤ 255 then (k.sreg 1).toNat else 255
    let frame := s.fld (R.TAP_T_STAT_FRAME (s.fld R.TAP_LTCFG_REF))
    s.inService c 0 = true → k.slot = some run → s.prog run.prog = some p → run.route < 64 →
    s.job run.route run.frame = some j →
    ((∃ e, e < 5 ∧ bit p.engines e = true ∧ k.queue e ≠ [] ∧ k.halted e = false) → exec (.exit c) s = .next s) ∧
    ((∀ e, e < 5 → bit p.engines e = true → k.queue e = [] ∧ k.halted e = false) → s.goldenOk c frame = true →
      (s.paired p = false ∨ run.single = true → ∃ t j', exec (.exit c) s = .next t ∧ (t.core c).slot = none ∧
        t.job run.route run.frame = some j' ∧ j'.exitCode = some code ∧ j'.engErr = j.engErr ∧
        t.flag (R.CORE_PAIRSTAT_ACTIVE c) = false ∧ t.mem = s.mem) ∧
      (s.paired p = true → run.single = false → run.pass2 = false → ∃ t, exec (.exit c) s = .next t ∧
        (t.core c).slot = none ∧ ⟨c, run.prog, run.route, run.frame, run.outs, code, false⟩ ∈ t.jobs.passes ∧
        t.job run.route run.frame = some j ∧ t.mem = s.mem) ∧
      (s.paired p = true → run.single = false → run.pass2 = true → ∀ x,
        s.jobs.passes.find? (fun x => x.core == c.val && x.prog == run.prog && !x.final) = some x →
        (s.outsEqual c x.outs run.outs = true → ∃ t j', exec (.exit c) s = .next t ∧ (t.core c).slot = none ∧
          t.job run.route run.frame = some j' ∧ j'.exitCode = some (if x.code ≠ 0 then x.code else code) ∧
          x ∉ t.jobs.passes ∧ t.mem = s.mem) ∧
        (s.outsEqual c x.outs run.outs = false → ∃ u : State, exec (.exit c) s = .next (u.coreFault c 0x31) ∧
          (u.core c).slot = none ∧ u.job run.route run.frame = some j ∧ x ∉ u.jobs.passes ∧
          u.fld (R.CORE_PAIRSTAT_MISMATCH c) = min (s.fld (R.CORE_PAIRSTAT_MISMATCH c) + 1)
            (2 ^ (R.CORE_PAIRSTAT_MISMATCH c).w - 1))))

/-- From R262, R264, R378, R425, R679: SLOT_OVERRUN with SLOTLEFT at 0 becomes pending; as soon as the Steward may take it, the
runtime ends the program: its engines are empty and the job is recorded as overrun, its pair as without a result too; once EXIT
has executed it is discarded, and with SLOTLEFT left nothing happens. A stage that has ended completes its frame for its
network, also one that another device has run, and the last one that is missing makes the Hearth result ready when the tap frame
is DISTINCT. From R391, R393, R394, R396: a golden run that is due and matches within 20 µs marks the core's GOLDSTAT OK with
the frame; one that does not, or that is not complete in time, clears OK, counts in FAILS and is a fault of the core with
LAST_CAUSE 0x33. Bytes outside the golden area stay. -/
def Obligations.OverrunsAndGoldenRuns : Prop :=
  ((∀ (c : CoreId) (s : State) (run : SlotRun),
     let k := s.core c
     let pends := fun (v : Bool) => s.modCore c (fun q => { q with pend := { q.pend with slotOverrun := v } })
     let ended := fun (t : State) => ∀ (p : Prog) (j : Job), s.prog run.prog = some p → run.route < 64 →
       s.job run.route run.frame = some j → (t.core c).slot = none ∧ (t.core c).priv = .s ∧
       (∀ e, e < 5 → (t.core c).queue e = if bit p.engines e then [] else k.queue e) ∧
       (∃ j', t.job run.route run.frame = some j' ∧ j'.exitCode = j.exitCode ∧ j'.overrun = true ∧
         (s.paired p = true → run.single = false → j'.pairNone = true)) ∧ t.mem = s.mem
     k.slot = some run →
     (k.rdCsr 0x30 ≠ 0 → exec (.slotOverrun c) s = .next s) ∧
     (k.rdCsr 0x30 = 0 → run.exited = true → exec (.slotOverrun c) s = .next (pends false)) ∧
     (k.rdCsr 0x30 = 0 → run.exited = false → k.inOverrun = true → ∃ t, exec (.slotOverrun c) s = .next t ∧ ended t) ∧
     (k.rdCsr 0x30 = 0 → run.exited = false → k.inOverrun = false →
       (k.mayInterrupt = false ∨ k.inExc .s = true ∧ s.Calm c → exec (.slotOverrun c) s = .next (pends true)) ∧
       (k.mayInterrupt = true → k.inExc .s = false → k.priv ≠ .m → s.Calm c → ∃ t, exec (.slotOverrun c) s = .next t ∧ ended t ∧
         (t.core c).pc = k.rdCsr 0x0C ∧ (t.core c).rdCsr 0x0A = k.pc ∧ (t.core c).pend.slotOverrun = false))) ∧
   (∀ (h : Fin 8) (st : Fin 4) (x : AwayStage) (s : State),
     let net := fun (s : State) => SMap.get (fun _ => HearthSt.empty) s.jobs.hearth h
     (s.stageDev h st = none → exec (.hearthStageDone h ⟨st, some x⟩) s = .next s) ∧
     (∀ d tap stages, s.stageDev h st = some d → s.hearthCfg[h.val]? = some (tap, stages) → st < stages.length → s.hasNim = true →
       s.departed d = false → ∃ t, exec (.hearthStageDone h ⟨st, some x⟩) s = .next t ∧
         SMap.get (fun _ => 0) (net t).done st = x.frame.toNat + 1 ∧
         (∀ i, i ≠ st.val → SMap.get (fun _ => 0) (net t).done i = SMap.get (fun _ => 0) (net s).done i) ∧
         (∀ pa, stages.length = st + 1 → s.loc none x.addr.toNat = .mem pa → (net t).addr = pa ∧ (net t).len = x.len.toNat))) ∧
   (∀ (h : Fin 8) (st : Fin 4) (s : State) (x : PassOut) (tap : Nat) (stages : List Nat),
     s.jobs.passes.find? (fun x => x.route == 64 + 4 * h.val + st.val && x.final) = some x →
     s.hearthCfg[h.val]? = some (tap, stages) → st < stages.length → x.frame < 2 ^ 32 →
     let net := fun (s : State) => SMap.get (fun _ => HearthSt.empty) s.jobs.hearth h
     let done := fun (s : State) (i : Nat) => SMap.get (fun _ => 0) (net s).done i = x.frame + 1
     ∃ t, exec (.hearthStageDone h ⟨st, none⟩) s = .next t ∧ x ∉ t.jobs.passes ∧ done t st ∧
       (∀ i, i ≠ st.val → (done t i ↔ done s i)) ∧
       (∀ a n rest pa, stages.length = st + 1 → x.outs = (a, n) :: rest → s.loc (some x.core) a = .mem pa →
         (net t).addr = pa ∧ (net t).len = n) ∧
       ((∀ q, (s.core q).slot = none) → t.mem = s.mem ∧
         ((∀ i, i < stages.length → i ≠ st.val → done s i) → s.outcome tap x.frame = some 2 → t.hearthReady h x.frame = true)))) ∧
  (∀ (c : CoreId) (dur : Nat) (s : State),
     let frame := s.fld (R.TAP_T_STAT_FRAME (s.fld R.TAP_LTCFG_REF))
     let due := s.serving = true ∧ ((s.fld (fCoreState c) = csSERVING ∧ s.flag (R.CORE_GOLDCFG_REQUIRED c) = true) ∨
       (s.fld (fCoreState c) = csSPARE ∧ frame % 16 = 0))
     let failed := fun (u : State) => u.flag (R.CORE_GOLDSTAT_OK c) = false ∧
       u.fld (R.CORE_GOLDSTAT_FAILS c) = min (s.fld (R.CORE_GOLDSTAT_FAILS c) + 1) (2 ^ (R.CORE_GOLDSTAT_FAILS c).w - 1)
     let area := fun (a : Nat) => 0x1000000000 + c.val * 0x200000 + 0x1F0000 ≤ a ∧ a < 0x1000000000 + (c.val + 1) * 0x200000
     (¬ due → exec (.goldenRun c true dur) s = .next s ∧ exec (.goldenRun c false dur) s = .next s ∧
       exec (.goldenRunTimeout c) s = .next s) ∧
     (due → dur ≤ 200 → ∃ t, exec (.goldenRun c true dur) s = .next t ∧ t.flag (R.CORE_GOLDSTAT_OK c) = true ∧
       t.fld (R.CORE_GOLDSTAT_FRAME c) = frame ∧ t.fld (R.CORE_GOLDSTAT_DURATION c) = dur ∧
       t.fld (R.CORE_GOLDSTAT_VARIANT c) = frame % 8 ∧ t.fld (R.CORE_GOLDSTAT_FAILS c) = s.fld (R.CORE_GOLDSTAT_FAILS c) ∧
       (∀ a, ¬ area a → t.byte a = s.byte a) ∧ t.cores = s.cores) ∧
     (due → (∃ u : State, exec (.goldenRun c false dur) s = .next (u.coreFault c 0x33) ∧ failed u ∧
         ∀ a, ¬ area a → u.byte a = s.byte a) ∧
       (200 < dur → ∃ u : State, exec (.goldenRun c true dur) s = .next (u.coreFault c 0x33) ∧ failed u) ∧
       ∃ u : State, exec (.goldenRunTimeout c) s = .next (u.coreFault c 0x33) ∧ failed u ∧ u.mem = s.mem))

/-- From R125–R129, R136, R379: a fault of a serving core fences and resets it, gives its slot table to the spare that R127
names, which serves from then on, and costs the device LOST.SPARE_USED; without a spare it is FATAL. A fault of a core in
another state only restarts it; one already RESTARTING is left alone. From R126 step 7, R128, R135, R136, R377, R379: a core
that passes its tests after a restart is SPARE, starts its firmware at level M, and gives the device back its redundancy when
its work was the last away; one that fails them is FAILED, with CORE_FAILED when its work had moved. A commanded restart of a
spare only restarts it; one with another key is discarded and recorded. FORCE drives the compare-mismatch line of its core. -/
def Obligations.CoreFaultsAndCommands : Prop :=
  (∀ (c : CoreId) (cause : BitVec 8) (s : State), s.Canonical →
     let cs := s.fld (fCoreState c)
     (cs = csSERVING → s.serving = true → ∀ sp, s.Spare c sp → ∃ t, exec (.coreRestart c cause) s = .next t ∧
       s.Fenced t c cause.toNat ∧ t.fld (fCoreState sp) = csSERVING ∧ bit t.dev.lost lostSPARE_USED = true ∧
       t.st = stDEGRADED ∧ t.fld R.SAFETY_EVCNT_CORE = min (s.fld R.SAFETY_EVCNT_CORE + 1) (2 ^ (R.SAFETY_EVCNT_CORE).w - 1) ∧
       (∀ i, i < 32 → t.reg (R.CORE_SLOT sp i) = s.reg (R.CORE_SLOT c i)) ∧
       t.fld (R.CORE_SLOTCFG_COUNT sp) = s.fld (R.CORE_SLOTCFG_COUNT c) ∧ t.fld (R.CORE_SLOTCFG_COUNT c) = 0) ∧
     (cs = csSERVING → s.serving = true → s.flag R.SAFETY_TRIP_TRIPPED = false →
       (∀ d, d < 16 → d ≠ c.val → s.fld (fCoreState d) ≠ csSPARE) → ∃ t, exec (.coreRestart c cause) s = .next t ∧
       t.st = stTRIPPED ∧ t.fld R.SAFETY_TRIP_SOURCE = 0x0A ∧ t.fld R.SAFETY_TRIP_DETAIL = c.val ∧ s.Fenced t c cause.toNat) ∧
     (cs = csQUIET → s.serving = true → ∃ t, exec (.coreRestart c cause) s = .next t ∧ s.Fenced t c cause.toNat ∧ t.st = s.st ∧
       t.dev = s.dev) ∧
     (cs = csRESTARTING ∨ cs = csFAILED ∨ s.st = stTRIPPED → exec (.coreRestart c cause) s = .next s)) ∧
  (∀ (c : CoreId) (s : State),
     (s.fld (fCoreState c) = csRESTARTING → s.st ≠ stTRIPPED →
       (∃ t, exec (.coreRetestDone c true) s = .next t ∧ t.fld (fCoreState c) = csSPARE ∧
         (∀ m, (R.CORE_GOLDCFG_SPARE c).get (t.regView m (R.CORE_GOLDCFG c)) = 1) ∧ (t.core c).stw = .run ∧ (t.core c).pc = s.dev.entry ∧ (t.core c).priv = .m ∧
         (∀ q, q ≠ c.val → t.core q = s.core q) ∧ t.mem = s.mem ∧
         (s.dev.lost = 1 → s.st = stDEGRADED → (s.dev.moved = [] ∨ ∃ sp, sp < 16 ∧ s.dev.moved = [(c.val, sp)]) →
           t.dev.lost = 0 ∧ t.st = stSERVING)) ∧
       (∃ t, exec (.coreRetestDone c false) s = .next t ∧ t.fld (fCoreState c) = csFAILED ∧ t.cores = s.cores ∧ t.mem = s.mem ∧
         (∀ sp, sp < 16 → s.dev.moved = [(c.val, sp)] → bit t.dev.lost lostCORE_FAILED = true ∧
           bit t.dev.lost lostSPARE_USED = false))) ∧
     (∀ n u, s.st ≠ stTRIPPED → s.hasCore c = true →
       (s.fld (fCoreState c) = csSPARE ∨ s.fld (fCoreState c) = csQUIET ∨ s.fld (fCoreState c) = csFAILED →
         ∃ t, exec (.coreRestartCmd (.core n u .m) 0xB311 c) s = .next t ∧ s.Fenced t c 0x32 ∧ t.st = s.st ∧ t.dev = s.dev) ∧
       (∀ key, key ≠ 0xB311 → ∃ t, exec (.coreRestartCmd (.core n u .m) key c) s = .next t ∧ t.cores = s.cores ∧
         t.mem = s.mem ∧ t.flag R.DEVICE_ACCERR_LOCKED_WRITE = true ∧ t.fld (fCoreState c) = s.fld (fCoreState c)) ∧
       (∀ v : BitVec 32, (v.getLsbD 2 = true → ∃ u' : State,
           exec (.pairstatForce (.core c u .s) c v) s = .next (u'.coreFault c 0x31) ∧ u'.cores = s.cores ∧ u'.mem = s.mem ∧
           u'.fld (R.CORE_PAIRSTAT_MISMATCH c) = min (s.fld (R.CORE_PAIRSTAT_MISMATCH c) + 1) 255) ∧
         (v.getLsbD 2 = false → exec (.pairstatForce (.core c u .s) c v) s = .next s))))

/-- From R573–R578: the core's watchman. A valid service word inside the window restarts its count and advances its token; one
too early or wrong is an expiry at once, as is a count that reaches WMAX: it is recorded and counted, and the core restarts with
LAST_CAUSE 0x30 when it is its first. A watchman that is off ignores the word. WARN raises WATCHMAN_WARN. A valid configuration
is taken once, and starts the count when it enables. -/
def Obligations.CoreWatchmen : Prop :=
  ∀ (c : CoreId) (f : IFields) (s : State),
    let k := s.core c
    let w : Fin 17 := ⟨c, by omega⟩
    let word := (k.sreg f.srcA.toNat).toNat % 2 ^ 32
    let token := s.fld (R.CORE_WMSTAT_TOKEN c)
    let elapsed := s.fld (R.CORE_WMSTAT_ELAPSED c)
    let valid := s.fld (R.CORE_WMCFG_WMIN c) ≤ elapsed ∧ word = token * 2 ^ 16 + (0xFFFF - token)
    let counts := s.flag (R.CORE_WMCFG_EN c) = true ∧ s.st ≠ stTRIPPED ∧ s.hasCore c = true ∧ s.fld (fCoreState c) ≠ csFAILED
    let expired := fun (u : State) => u.fld (R.CORE_WMCNT_EXPIRIES c) = min (s.fld (R.CORE_WMCNT_EXPIRIES c) + 1) 255 ∧
      u.fld R.WATCH_LASTEXP_KIND = 1 ∧ u.fld R.WATCH_LASTEXP_CORE = c.val ∧
      u.fld (R.WATCH_RETAIN_COUNT 0) = min (s.fld (R.WATCH_RETAIN_COUNT 0) + 1) (2 ^ 32 - 1) ∧ u.mem = s.mem
    (s.Ready c f .s true → f.hasExt = false →
      (counts → valid → ∃ t, exec (.wsvc c f) s = .next t ∧ (t.core c).pc = k.pc + 4 ∧
        t.fld (R.CORE_WMSTAT_ELAPSED c) = 0 ∧ t.fld (R.CORE_WMSTAT_TOKEN c) = (token / 2) ^^^ (token % 2 * 0xB400) ∧
        (∀ q, (t.core c).sreg q = k.sreg q) ∧ (∀ o, o ≠ R.CORE_WMSTAT c → t.reg o = s.reg o) ∧ t.mem = s.mem) ∧
      (counts → ¬ valid → SMap.get (fun _ => []) s.ladder.expiries c = [] → ∃ u : State,
        exec (.wsvc c f) s = .next (u.coreFault c 0x30) ∧ expired u ∧ (u.core c).pc = k.pc + 4) ∧
      (s.flag (R.CORE_WMCFG_EN c) = false → exec (.wsvc c f) s = .next (s.retired c f (fun q => q)))) ∧
    ((counts → elapsed = s.fld (R.CORE_WMCFG_WMAX c) → SMap.get (fun _ => []) s.ladder.expiries c = [] → ∃ u : State,
        exec (.watchmanExpiry w) s = .next (u.coreFault c 0x30) ∧ expired u ∧ u.cores = s.cores) ∧
      (counts → s.fld (R.CORE_WMCFG_WMAX c) ≤ elapsed + s.fld (R.CORE_WMCFG_WARN c) → ∃ t,
        exec (.watchmanWarn w) s = .next t ∧ (t.core c).pend.watchmanWarn = true ∧ (t.core c).pc = k.pc ∧ t.mem = s.mem)) ∧
    (∀ (n u : Nat) (v : BitVec 64), s.st ≠ stTRIPPED → s.hasCore c = true →
      let wmax := v.toNat % 2 ^ 16
      let wmin := v.toNat / 2 ^ 16 % 2 ^ 16
      let warn := v.toNat / 2 ^ 32 % 2 ^ 16
      let good := 1 ≤ warn ∧ wmin + warn < wmax
      (s.flag (R.CORE_WMCFG_EN c) = false → good → ∃ t, exec (.wmcfgWrite (.core n u .m) c (.whole v)) s = .next t ∧
        t.fld (R.CORE_WMCFG_WMAX c) = wmax ∧ t.fld (R.CORE_WMCFG_WMIN c) = wmin ∧ t.fld (R.CORE_WMCFG_WARN c) = warn ∧
        t.flag (R.CORE_WMCFG_EN c) = v.getLsbD 63 ∧
        (v.getLsbD 63 = true → t.fld (R.CORE_WMSTAT_ELAPSED c) = 0 ∧ t.fld (R.CORE_WMSTAT_TOKEN c) = 0xACE1) ∧
        t.mem = s.mem ∧ t.cores = s.cores) ∧
      (s.flag (R.CORE_WMCFG_EN c) = true ∨ ¬ good → ∃ t, exec (.wmcfgWrite (.core n u .m) c (.whole v)) s = .next t ∧
        t.reg (R.CORE_WMCFG c) = s.reg (R.CORE_WMCFG c) ∧ t.flag R.DEVICE_ACCERR_LOCKED_WRITE = true))

/-- From R573–R581: the device watchman and the retained counts. PF0's valid service word restarts the count; a wrong one, or a
count that reaches WMAX, demands a ladder warm restart with cause 0x10 and stops the watchman. The warning posts an event on
PF0. A write of the configuration from PF0 is taken once. The retained counts and the last trip are copied into the store. From
R566, R567, R570: the rotating tests. A slice of a serving core's rotation tests the next of its 9 checkers and counts a pass,
or counts a failure that is a fault of the core with LAST_CAUSE 0x31; a device checker that fails leaves its twin serving alone,
marked in CHKFAIL, without a change of state; a pair that has served alone for CHK_SINGLE_MAX seconds trips the device. -/
def Obligations.DeviceWatchmanAndTests : Prop :=
  (∀ (s : State), s.st ≠ stTRIPPED →
     let token := s.fld R.WATCH_STAT_TOKEN
     let elapsed := s.fld R.WATCH_STAT_ELAPSED
     let counts := s.flag R.WATCH_CFG_EN = true ∧ s.ladder.wdStopped = false
     let demanded := fun (t : State) => t.ladder.demand = some 0x10 ∧ t.ladder.wdStopped = true ∧
       t.fld R.WATCH_LASTEXP_KIND = 2 ∧ t.fld (R.WATCH_RETAIN_COUNT 1) = min (s.fld (R.WATCH_RETAIN_COUNT 1) + 1) (2 ^ 32 - 1) ∧
       t.fld (R.WATCH_RETAIN_COUNT 2) = min (s.fld (R.WATCH_RETAIN_COUNT 2) + 1) (2 ^ 32 - 1) ∧ t.st = s.st
     let below := s.st ≠ stRESTART ∧ s.ladder.demand = none ∧ s.ladderCount < s.fld R.WATCH_LADDER_N
     (∀ v : BitVec 32, s.fnReach 0 R.WATCH_SVC = true → counts →
       let valid := s.fld R.WATCH_CFG_WMIN ≤ elapsed ∧ v.toNat = token * 2 ^ 16 + (0xFFFF - token)
       (valid → ∃ t, exec (.watchSvc (.fn 0) v) s = .next t ∧ t.fld R.WATCH_STAT_ELAPSED = 0 ∧
         t.fld R.WATCH_STAT_TOKEN = (token / 2) ^^^ (token % 2 * 0xB400) ∧ (∀ o, o ≠ R.WATCH_STAT → t.reg o = s.reg o) ∧
         t.ladder = s.ladder) ∧
       (¬ valid → below → ∃ t, exec (.watchSvc (.fn 0) v) s = .next t ∧ demanded t)) ∧
     (counts → elapsed = s.fld R.WATCH_CFG_WMAX → below → ∃ t, exec (.watchmanExpiry 16) s = .next t ∧ demanded t) ∧
     (counts → s.fld R.WATCH_CFG_WMAX ≤ elapsed + s.fld R.WATCH_CFG_WARN → s.cqRoom 0 = true → (s.fn 0).waiting = [] →
       ∃ t e, exec (.watchmanWarn 16) s = .next t ∧ (t.fn 0).cq = (s.fn 0).cq ++ [e] ∧ e.kind = 3 ∧ e.cid = 0xFFFF ∧
         e.info = elapsed ∧ t.regs = s.regs) ∧
     (∀ v : BitVec 64, s.fnReach 0 R.WATCH_CFG = true →
       let wmax := v.toNat % 2 ^ 16
       let wmin := v.toNat / 2 ^ 16 % 2 ^ 16
       let warn := v.toNat / 2 ^ 32 % 2 ^ 16
       let good := 1 ≤ warn ∧ wmin + warn < wmax
       (s.flag R.WATCH_CFG_EN = false → good → ∃ t, exec (.watchCfgWrite (.fn 0) (.whole v)) s = .next t ∧
         t.fld R.WATCH_CFG_WMAX = wmax ∧ t.fld R.WATCH_CFG_WMIN = wmin ∧ t.fld R.WATCH_CFG_WARN = warn ∧
         t.flag R.WATCH_CFG_EN = v.getLsbD 63 ∧ t.mem = s.mem) ∧
       (s.flag R.WATCH_CFG_EN = true ∨ ¬ good → ∃ t, exec (.watchCfgWrite (.fn 0) (.whole v)) s = .next t ∧
         t.reg R.WATCH_CFG = s.reg R.WATCH_CFG ∧ t.flag R.DEVICE_ACCERR_LOCKED_WRITE = true)) ∧
     (s.dev.off = false → (11 ≤ s.fld R.DEVICE_BOOTSTAT_STEP ∨ s.serving = true ∨ s.st = stRESTART) →
       ∃ t, exec .retainedCountCopy s = .next t ∧ t.regs = s.regs ∧ t.nvm.record.length = 9 ∧
         (∀ i, i < 8 → t.nvm.record[i]? = some (s.fld (R.WATCH_RETAIN_COUNT i))) ∧
         t.nvm.record[8]? = some (s.reg R.WATCH_LASTTRIP).toNat)) ∧
  ((∀ (c : CoreId) (s : State),
     let r : Fin 18 := ⟨c, by omega⟩
     let i := SMap.get (fun _ => 0) s.ladder.slices c
     s.fld (fCoreState c) = csSERVING ∨ s.fld (fCoreState c) = csSPARE → i < 9 →
     (∃ t, exec (.selfTestSlice r true) s = .next t ∧ SMap.get (fun _ => 0) t.ladder.slices c = (i + 1) % 9 ∧
       t.fld (R.CORE_STSTAT_CURRENT c) = i ∧
       t.fld (R.CORE_STSTAT_PASSES c) = min (s.fld (R.CORE_STSTAT_PASSES c) + 1) 65535 ∧
       (∀ o, o ≠ R.CORE_STSTAT c → t.reg o = s.reg o) ∧ t.cores = s.cores ∧ t.mem = s.mem) ∧
     (∃ u : State, exec (.selfTestSlice r false) s = .next (u.coreFault c 0x31) ∧
       u.fld (R.CORE_STSTAT_FAILS c) = min (s.fld (R.CORE_STSTAT_FAILS c) + 1) 255 ∧ u.fld (R.CORE_STSTAT_CURRENT c) = i ∧
       u.cores = s.cores ∧ u.mem = s.mem)) ∧
   (∀ s : State, s.dev.off = false → s.dev.pinLow = false → s.dev.warmHeld = false → s.st ≠ stBOOT →
     let i := SMap.get (fun _ => 0) s.ladder.slices 16
     let b := if i < 44 then i / 2 else 22 + (i - 44) / 2
     i < 60 → bit (s.reg R.SAFETY_CHKFAIL).toNat b = false →
     (∃ t, exec (.selfTestSlice 16 true) s = .next t ∧ SMap.get (fun _ => 0) t.ladder.slices 16 = i + 1 ∧
       t.fld R.SAFETY_STSTAT_CURRENT = i ∧ (∀ o, o ≠ R.SAFETY_STSTAT → t.reg o = s.reg o)) ∧
     (s.st ≠ stSELFTEST → ∃ t, exec (.selfTestSlice 16 false) s = .next t ∧ bit (t.reg R.SAFETY_CHKFAIL).toNat b = true ∧ t.st = s.st ∧
       t.dev = s.dev ∧ (s.ladder.single = none → t.ladder.single = some s.tb2) ∧
       (∀ x, s.ladder.single = some x → t.ladder.single = some x))) ∧
   (∀ (t0 : Nat) (s : State), s.ladder.single = some t0 →
     (t0 + 1000000000 * s.fld R.SAFETY_CFG_CHK_SINGLE_MAX ≤ s.tb2 → s.flag R.SAFETY_TRIP_TRIPPED = false → s.st ≠ stTRIPPED →
       ∃ t, exec .chkSingleExpiry s = .next t ∧ t.st = stTRIPPED ∧ t.fld R.SAFETY_TRIP_SOURCE = 0x0C) ∧
     (s.tb2 < t0 + 1000000000 * s.fld R.SAFETY_CFG_CHK_SINGLE_MAX → exec .chkSingleExpiry s = .next s)))

/-- From R73, R79, R80, R103, R106, R114–R118, R123, R124, R134, R788: power-up and boot. A cold reset and the return of the
Verifier rails enter BOOT with every present core in TEST and the marking in force; each rising edge of PORST_N samples the
straps. The first slot's image, or when it fails the other's, starts firmware on every tested core at its entry, at level M, in
SELFTEST, once its key, signature, digest and security version verify; without one the device waits in HOLD with the mailbox
open, from which an image that verifies boots again and starts. -/
def Obligations.BootEvents : Prop :=
  ∀ (s : State), s.Canonical →
    let booting := s.st = stBOOT ∧ s.dev.off = false ∧ s.dev.pinLow = false ∧ s.reeve.linkUp = true ∧ s.fld R.KEEP_STATUS_LCS ≠ 4
    let strapped := fun (t : State) (v : BitVec 2) => t.flag R.DEVICE_STRAPS_QSPI_MODE = v.getLsbD 1 ∧
      t.flag R.DEVICE_STRAPS_PEB_ROLE = (s.hasPortB && v.getLsbD 0)
    let started := fun (t : State) (secver : Nat) (digest : List Byte) (entry : Nat) =>
      t.st = stSELFTEST ∧ t.fld R.DEVICE_BOOTSTAT_STEP = 6 ∧ t.nvm.fwSecver = secver ∧ t.nvm.fwDigest = digest ∧
      (∀ n, n < 16 → s.fld (fCoreState n) = csTEST →
        (t.core n).stw = .run ∧ (t.core n).pc = w64 entry ∧ (t.core n).priv = .m) ∧ t.mem = s.mem
    (∀ sramOk v, ∃ t, exec (.powerOn true ⟨sramOk, v⟩) s = .next t ∧ t.st = stBOOT ∧ t.flag R.DEVICE_STATE_INVALID = true ∧
      t.fld R.DEVICE_STATE_DEV_EPOCH = 1 ∧ (∀ n, n < 16 → t.hasCore n = true → t.fld (fCoreState n) = csTEST) ∧
      (∀ n, t.core n = Core.reset) ∧ t.reeve.tripA = false ∧ t.pending = s.pending ∧ t.param.set = s.param.set ∧
      t.fld R.WATCH_LASTTRIP_SOURCE = s.fld R.WATCH_LASTTRIP_SOURCE ∧ strapped t v ∧
      ∀ n, t.hasCore n = s.hasCore n) ∧
    (∀ sramOk v, s.dev.off = true → ∃ t, exec (.powerOn false ⟨sramOk, v⟩) s = .next t ∧ t.dev.off = false ∧
      t.st = stBOOT ∧ t.fld R.DEVICE_STATE_DEV_EPOCH = 1 ∧ t.fld R.DEVICE_RESETCAUSE_KIND = 4 ∧
      t.flag R.DEVICE_STATE_GRACE = s.flag R.DEVICE_STATE_GRACE ∧ strapped t v) ∧
    (∀ sramOk v, s.dev.off = false → s.dev.pinLow = true → ∃ t, exec (.powerOn false ⟨sramOk, v⟩) s = .next t ∧
      t.dev.pinLow = false ∧ t.st = s.st ∧ t.fld R.DEVICE_BOOTSTAT_STEP = 2 ∧ strapped t v ∧ t.cores = s.cores ∧ t.mem = s.mem) ∧
    (∃ t, exec .reeveStart s = .next t ∧ t.reeve.running = true ∧ t.regs = s.regs ∧ t.mem = s.mem) ∧
    (∀ (ha ba hb bb key signed sig : List Byte) (secver : Nat) (digest : List Byte) (entry : Nat),
      let first := s.bootFirst
      let img := fun (x : Bool) => if x then hb ++ bb else ha ++ ba
      let good := fun (l : List Byte) => Config.fwHeader l = some (key, signed, sig, secver, digest, entry) ∧
        Config.sha384 key = Config.fwKey ∧ Config.ecdsaOk key signed sig = true ∧ Config.sha384 (Config.fwBody l) = digest ∧
        s.fld (R.NVM_CTR_VALUE 0) ≤ secver
      booting →
      (s.dev.mailImage = none →
        (good (img first) → ∃ t, exec (.bootOk ha ba hb bb) s = .next t ∧ started t secver digest entry ∧
          t.flag R.DEVICE_BOOTSTAT_SLOT = first ∧ t.fld R.DEVICE_BOOTSTAT_FAIL_CODE = 0) ∧
        (s.imageVerifies (img first) = false → good (img (!first)) → ∃ t, exec (.bootOk ha ba hb bb) s = .next t ∧
          started t secver digest entry ∧ t.flag R.DEVICE_BOOTSTAT_SLOT = (!first) ∧
          t.fld R.DEVICE_BOOTSTAT_FAIL_CODE = (if first then 2 else 1)) ∧
        (s.imageVerifies (ha ++ ba) = false → s.imageVerifies (hb ++ bb) = false → exec (.bootOk ha ba hb bb) s = .next s)) ∧
      (∀ l, s.dev.mailImage = some l → good l → ∃ t, exec (.bootOk ha ba hb bb) s = .next t ∧ started t secver digest entry ∧
        t.dev.mailImage = none)) ∧
    (∀ a b, booting → s.dev.mailImage = none → s.imageVerifies a = false → s.imageVerifies b = false →
      ∃ t, exec (.bootFail a b) s = .next t ∧ t.st = stHOLD ∧ t.dev.mailbox = true ∧
      t.fld R.DEVICE_BOOTSTAT_FAIL_CODE = (if s.imageRolledBack a = true ∧ s.imageRolledBack b = true then 4 else 3) ∧
      t.cores = s.cores ∧ t.mem = s.mem) ∧
    (let l := Config.mailbox (Config.freeNat s.freeCtr);
      s.st = stHOLD → s.dev.mailbox = true →
      (s.imageVerifies l = true → ∃ t, exec .recover s = .next t ∧ t.st = stBOOT ∧ t.dev.mailbox = false ∧ t.dev.mailImage = some l ∧
        t.flag R.DEVICE_BOOTSTAT_MAILBOX = true ∧ t.fld R.DEVICE_STATE_DEV_EPOCH = s.nextDevEpoch ∧
        t.flag R.DEVICE_STATE_INVALID = true) ∧
      (s.imageVerifies l = false → exec .recover s = .next { s with freeCtr := s.freeCtr + 1 }))

/-- From R106, R118, R119, R121–R124, R130, R132, R579, R753: the end of the self-tests and the warm restarts. With a good bank
SET_OK takes it into force and the device is READY, its tested cores SERVING or SPARE; without one, or in a lifecycle that has
none, it holds. A demanded warm restart from service enters RESTART with every core reset and DRAM kept; it ends by RS_OK with
the retained image and settings, or by RS_FAIL in a new attempt. From R106, R107, R108, R712, R737: the end of service. At its
boundary STOP publishes what may be committed, cancels the open frames, reapplies the marking and leads to READY; ENTER_SERVICE
starts the scrub: jobs, keys and SRAM are gone and SERVICE holds; the end of the scrub leaves DRAM outside encrypted regions
zero and no program loaded; each command is completed. -/
def Obligations.ValidationAndService : Prop :=
  (∀ (s : State) (r : SelfTest), s.Canonical →
     let tested := fun (t : State) => ∀ n, n < 16 → s.fld (fCoreState n) = csTEST →
       (selfTestBad r n = true → t.fld (fCoreState n) = csFAILED) ∧
       (selfTestBad r n = false → t.fld (fCoreState n) = csSERVING ∨ t.fld (fCoreState n) = csSPARE)
     (s.st = stSELFTEST → s.TestsOk r → s.fld R.KEEP_STATUS_LCS = 1 ∨ s.fld R.KEEP_STATUS_LCS = 2 →
       let pick := ((s.selfTest r).restoreCounts.validateBanks).2
       (∀ b, pick = some b → ∃ t, exec (.setOk r) s = .next t ∧ t.st = stREADY ∧ tested t ∧ t.dev.setOk = true ∧
         t.fld R.NVM_STATUS_INFORCE = (if b then 2 else 1) ∧ (∀ a, isDram a = false → t.byte a = s.byte a) ∧
         ((∀ a, t.storedAs a = s.storedAs a) → t.mem = s.mem)) ∧
       (pick = none → ∃ t, exec (.setNone r) s = .next t ∧ t.st = stHOLD ∧ tested t ∧ t.fld R.NVM_STATUS_INFORCE = 0 ∧
         (t.fld R.DEVICE_BOOTSTAT_FAIL_CODE = 0x20 ∨ t.fld R.DEVICE_BOOTSTAT_FAIL_CODE = 0x21) ∧ t.mem = s.mem)) ∧
     (s.st = stSELFTEST → s.TestsOk r → s.fld R.KEEP_STATUS_LCS = 0 ∨ s.fld R.KEEP_STATUS_LCS = 3 →
       ∃ t, exec (.setNone r) s = .next t ∧ t.st = stHOLD ∧ tested t ∧ t.fld R.DEVICE_BOOTSTAT_FAIL_CODE = 0x20 ∧ t.mem = s.mem) ∧
     (∀ cause, s.ladder.demand = some cause → s.serving = true → s.dev.off = false → s.dev.pinLow = false → cause < 256 →
       ∃ t, exec .warm s = .next t ∧
       t.st = stRESTART ∧ t.fld R.DEVICE_STATE_DEV_EPOCH = s.nextDevEpoch ∧ t.flag R.DEVICE_STATE_INVALID = true ∧
       t.flag R.DEVICE_STATE_GRACE = (s.flag R.DEVICE_STATE_GRACE || s.flag R.SAFETY_CFG_GRACE_EN) ∧
       t.fld R.DEVICE_RESETCAUSE_KIND = 3 ∧ t.fld R.DEVICE_RESETCAUSE_CAUSE = cause ∧
       t.fld R.DEVICE_RESETCAUSE_WARM_COUNT = min (s.fld R.DEVICE_RESETCAUSE_WARM_COUNT + 1) 255 ∧ t.ladder.demand = none ∧
       (∀ n, t.core n = Core.reset) ∧ (∀ a, isDram a = true → t.byte a = s.byte a) ∧
       ∀ a, 0x1000000000 ≤ a → a < 0x1002000000 → t.byte a = 0) ∧
     (s.st = stRESTART → s.dev.warmHeld = true → s.reeve.linkUp = true → s.dev.imageKept = true → r.fatal = false →
       s.fld R.KEEP_STATUS_KEYSLOTS ≠ 0 → s.bankHolds = true → (s.resumeChannels r).st ≠ stTRIPPED →
       s.setting 0x34 = some (Config.sha384 s.param.set) → ∃ t, exec (.rsOk r) s = .next t ∧
         t.st = (if t.dev.lost = 0 then stSERVING else stDEGRADED) ∧ tested t ∧ t.dev.warmHeld = false ∧ t.dev.setOk = true ∧
         (∀ n, n < 16 → s.fld (fCoreState n) = csTEST → selfTestBad r n = false →
           (t.core n).stw = .run ∧ (t.core n).pc = s.dev.entry ∧ (t.core n).priv = .m) ∧ t.mem = s.mem) ∧
     (s.st = stRESTART → s.ladder.demand = none →
       (s.ladderCount < s.fld R.WATCH_LADDER_N → ∃ t, exec .rsFail s = .next t ∧ t.st = stRESTART ∧
         t.fld R.DEVICE_STATE_DEV_EPOCH = s.nextDevEpoch ∧ t.fld R.DEVICE_RESETCAUSE_CAUSE = 0x13 ∧
         t.fld R.DEVICE_RESETCAUSE_WARM_COUNT = min (s.fld R.DEVICE_RESETCAUSE_WARM_COUNT + 1) 255) ∧
       (s.fld R.WATCH_LADDER_N ≤ s.ladderCount → s.flag R.SAFETY_TRIP_TRIPPED = false →
         ∃ t, exec .rsFail s = .next t ∧ s.Tripped t 7 0 true))) ∧
  (∀ (s : State) (cid : Nat),
     (s.dev.stopReq = [(.stop, cid)] → s.serving = true → s.boundaryCame = true → ∃ t, exec .stopEffect s = .next t ∧ t.st = stREADY ∧
       t.flag R.DEVICE_STATE_INVALID = true ∧ t.jobs.jobs = [] ∧ (∀ r, (t.routeSt r).frames = []) ∧ t.dev.stopReq = [] ∧
       t.pins.stoHs = 0 ∧ t.pins.faultA = false ∧ t.mem = s.mem ∧ (∀ p ∈ (t.fn 0).inprog, p.cid ≠ cid)) ∧
     (s.dev.stopReq = [(.warm, cid)] → s.serving = true → s.boundaryCame = true → ∃ t, exec .stopEffect s = .next t ∧ t.st = stRESTART ∧
       t.fld R.DEVICE_RESETCAUSE_CAUSE = 0x12 ∧ ∀ n, t.core n = Core.reset) ∧
     (s.dev.stopReq = [(.service, cid)] → s.serving = true ∨ s.st = stHOLD ∨ s.st = stREADY → s.boundaryCame = true →
       ∃ t, exec .serviceEntry s = .next t ∧ t.st = stSERVICE ∧ t.flag R.KEEP_STATUS_SCRUBBING = true ∧
         t.fld R.KEEP_STATUS_SCRUBSTEP = 4 ∧ t.fld R.KEEP_STATUS_KEYSLOTS = 0 ∧ t.flag R.DEVICE_STATE_INVALID = true ∧
         t.jobs.jobs = [] ∧ t.keep.sessions = [] ∧ (∀ a, 0x1000000000 ≤ a → a < 0x1002000000 → t.byte a = 0) ∧
         (∀ a, isDram a = true → t.byte a = s.byte a) ∧ ∀ p ∈ (t.fn 0).inprog, p.cid ≠ cid) ∧
     (∀ total dram : BitVec 32, s.st = stSERVICE → s.flag R.KEEP_STATUS_SCRUBBING = true →
       ∃ t, exec (.scrubDone total dram) s = .next t ∧ t.flag R.KEEP_STATUS_SCRUBBING = false ∧
         t.fld R.KEEP_STATUS_SCRUBSTEP = 6 ∧ t.fld R.KEEP_SCRUBTIME_TOTAL = total.toNat ∧ t.fld R.KEEP_SCRUBTIME_DRAM = dram.toNat ∧
         t.jobs.progs = [] ∧ t.keep.bundles = [] ∧ t.st = stSERVICE ∧
         (∀ a, isDram a = true → (∀ n, n < 16 → s.flag (R.MEMC_RGN_VALID n) = true → s.flag (R.MEMC_RGN_CRYPT n) = true →
           ¬ (0x100000 * s.fld (R.MEMC_RGN_BASE n) ≤ a ∧
             a < 0x100000 * (s.fld (R.MEMC_RGN_BASE n) + s.fld (R.MEMC_RGN_SIZE n)))) → t.byte a = 0) ∧
         (∀ a, 0x1000000000 ≤ a → a < 0x1004000000 → t.byte a = s.byte a)))

/-- From R39, R87, R92, R99, R100, R106, R558–R561, R777: what trips the device. A TRIP source, a rail fault, an
over-temperature, a failure of a crystal, of CRPLL or of a core PLL, the end of grace, the loss of the Reeve, and the
unannounced silence of a serving Verifier record their source and lead to TRIPPED with every output low; a device that has
tripped stays as it is, and an announced silence only takes the link down. -/
def Obligations.TripSources : Prop :=
  ∀ (s : State),
    let armed := s.flag R.SAFETY_TRIP_TRIPPED = false ∧ s.st ≠ stTRIPPED
    (∀ (source detail : BitVec 8) (b : Bool),
      (armed → ∃ t, exec (.trip source detail b) s = .next t ∧ s.Tripped t source.toNat detail.toNat b) ∧
      (s.flag R.SAFETY_TRIP_TRIPPED = true → exec (.trip source detail b) s = .next s)) ∧
    (∀ rail : Fin 6,
      (armed → s.dev.off = false → s.dev.pgoodLow = false → s.reeve.running = true →
        (∃ t, exec (.railFault (.silent rail)) s = .next t ∧ s.Tripped t 5 rail.val true) ∧
        (rail.val = 3 ∨ rail.val = 4 → ∃ t, exec (.railFault (.comparator rail)) s = .next t ∧ s.Tripped t 5 rail.val true) ∧
        (bit s.reeve.railOut rail = true →
          ∃ t, exec (.railFault (.reading rail true)) s = .next t ∧ s.Tripped t 5 rail.val true) ∧
        (bit s.reeve.railOut rail = false → ∃ t, exec (.railFault (.reading rail true)) s = .next t ∧
          bit t.reeve.railOut rail = true ∧ t.regs = s.regs) ∧
        (∃ t, exec (.railFault (.reading rail false)) s = .next t ∧ bit t.reeve.railOut rail = false ∧ t.regs = s.regs)) ∧
      (∀ ev, s.dev.pgoodLow = true → exec (.railFault ev) s = .next s)) ∧
    (armed → ∃ t, exec .overtemp s = .next t ∧ s.Tripped t 0xFF 0 false) ∧
    (armed →
      (∃ t, exec (.clockFailure .tcxo) s = .next t ∧ s.Tripped t 6 0 true) ∧
      (∃ t, exec (.clockFailure .rxtalStop) s = .next t ∧ s.Tripped t 6 1 true) ∧
      (s.monitorsOff = false → ∃ t, exec (.clockFailure .rxtal) s = .next t ∧ s.Tripped t 6 1 false) ∧
      (s.dev.off = false →
        ∃ t, exec (.clockFailure .crpll) s = .next t ∧ s.Tripped t 6 2 true ∧ t.flag R.DEVICE_CLKSTAT_CRPLL_LOCK = false) ∧
      (∀ i : Fin 8, i.val < 3 → s.monitorsOff = false → ∃ t, exec (.clockFailure (.pll i)) s = .next t ∧ s.Tripped t 6 i.val false ∧
        bit (t.fld R.DEVICE_CLKSTAT_PLL_LOCK) i = false)) ∧
    (s.flag R.DEVICE_STATE_GRACE = true →
      (armed → s.dev.off = true ∨ s.reeve.graceUntil ≤ s.tb2 → ∃ t, exec .graceEnd s = .next t ∧ s.Tripped t 0x0D 0 true) ∧
      (s.dev.off = false → s.tb2 < s.reeve.graceUntil → exec .graceEnd s = .next s)) ∧
    (armed → s.dev.off = false → s.dev.pinLow = false →
      ∃ t, exec .reeveLost s = .next t ∧ s.Tripped t 4 0 false ∧ t.reeve.linkUp = false) ∧
    (armed → s.reeve.running = true →
      let served := s.reeve.lastState = stSERVING ∨ s.reeve.lastState = stDEGRADED
      (served → s.dev.announced = false → ∃ t, exec .verifierSilent s = .next t ∧ s.Tripped t 4 0 true ∧
        t.reeve.linkUp = false) ∧
      (¬ served ∨ s.dev.announced = true → ∃ t, exec .verifierSilent s = .next t ∧ t.reeve.linkUp = false ∧ t.st = s.st ∧
        t.regs = s.regs ∧ t.pins = s.pins))

/-- From R92, R95–R97, R99, R100, R106, R112, R118, R134, R788: resets, the Reeve link, clocks that only warn or fail over,
heartbeats and notices. A link that comes up brings the Reeve's trip with it. A reset by pin or the loss of the Verifier rails
trips a serving device and restarts the boot of another; a Reeve reset trips it in any state. The fault heartbeats toggle only
while their conditions hold. While the marking is in force, a notice goes to every network the crier uses. -/
def Obligations.ResetsAndLinks : Prop :=
  ∀ (s : State), s.Canonical →
    let armed := s.flag R.SAFETY_TRIP_TRIPPED = false ∧ s.st ≠ stTRIPPED
    (∀ pgood, s.dev.off = false → s.dev.pinLow = false →
      (s.serving = true → armed → ∃ t, exec (.pinReset pgood) s = .next t ∧ t.st = stTRIPPED ∧ t.dev.pinLow = true ∧
        t.fld R.SAFETY_TRIP_SOURCE = 4 ∧ (∀ n, t.core n = Core.reset) ∧ t.pins.stoHs = 0 ∧ t.pins.stoLs = 0) ∧
      (s.st = stREADY → ∃ t, exec (.pinReset pgood) s = .next t ∧ t.st = stBOOT ∧ t.dev.pinLow = true ∧
        t.fld R.DEVICE_STATE_DEV_EPOCH = s.nextDevEpoch ∧ t.fld R.DEVICE_RESETCAUSE_KIND = 2 ∧
        t.fld R.DEVICE_RESETCAUSE_CAUSE = (if pgood then 3 else 2) ∧ ∀ n, t.core n = Core.reset)) ∧
    (s.dev.off = false → s.reeve.running = true → s.dev.pinLow = false → s.serving = true → armed →
      ∃ t, exec .verifierPowerLoss s = .next t ∧ t.dev.off = true ∧ t.st = stTRIPPED ∧ t.reeve.tripB = true ∧ t.pins.stoLs = 0) ∧
    (s.dev.off = false → s.reeve.running = true → s.dev.pinLow = true →
      ∃ t, exec .verifierPowerLoss s = .next t ∧
      t.dev.off = true ∧ t.st = s.st ∧ t.tb2 = 0 ∧ t.fld R.DEVICE_STATE_DEV_EPOCH = 0 ∧ t.reeve.tripA = false ∧
      (∀ n, t.egress n = []) ∧ ∀ o, o / 0x10000 = 3 → t.reg o = s.reg o) ∧
    (armed → ∃ t, exec .reeveReset s = .next t ∧ s.Tripped t 0x0E 0 false ∧ t.reeve.running = false ∧
      t.reeve.linkUp = false ∧ t.tb2 = 0) ∧
    (s.reeve.running = true → s.reeve.linkUp = false → s.dev.off = false → s.dev.pinLow = false → s.st = stBOOT →
      (s.flag R.DEVICE_STATE_GRACE = false → s.reeve.tripB = false → ∃ t, exec (.reeveLinkUp true) s = .next t ∧
        t.reeve.linkUp = true ∧ t.fld R.DEVICE_BOOTSTAT_STEP = 3 ∧ t.st = stBOOT ∧ t.mem = s.mem) ∧
      (s.flag R.DEVICE_STATE_GRACE = false → s.reeve.tripB = true → s.flag R.SAFETY_TRIP_TRIPPED = false →
        ∃ t, exec (.reeveLinkUp true) s = .next t ∧ t.st = stTRIPPED ∧ t.flag R.SAFETY_TRIP_TRIPPED = true ∧
        t.fld R.SAFETY_TRIP_SOURCE = s.fld R.WATCH_LASTTRIP_SOURCE ∧ t.mem = s.mem) ∧
      (s.flag R.DEVICE_STATE_GRACE = true → s.fld R.DEVICE_RESETCAUSE_KIND ≠ 3 → armed →
        ∃ t, exec (.reeveLinkUp true) s = .next t ∧ s.Tripped t 4 0 true) ∧
      (armed → ∃ t, exec (.reeveLinkUp false) s = .next t ∧ s.Tripped t 8 0 false ∧ t.fld R.DEVICE_BOOTSTAT_FAIL_CODE = 0x11)) ∧
    (s.dev.off = false → s.monitorsOff = false →
      (∃ t, exec (.clockFailure .x32k) s = .next t ∧ t.flag R.DEVICE_CLKSTAT_X32K_LOST = true ∧
        t.flag R.DEVICE_CLKSTAT_X32K_FALLBACK = true ∧ ∀ o, o ≠ R.DEVICE_CLKSTAT → t.reg o = s.reg o) ∧
      (∃ t, exec (.clockFailure .tcxoWarn) s = .next t ∧ t.flag R.DEVICE_CLKSTAT_TCXO_WARN = true ∧ t.st = s.st) ∧
      (s.portUp 0 = true → ∃ t, exec (.clockFailure .refclkA) s = .next t ∧ t.flag R.DEVICE_CLKSTAT_REFCLKA_LOST = true ∧
        t.portUp 0 = false ∧ t.fld (R.PCIE_P_PORTSTAT_EPOCH 0) = nextEpoch (s.fld (R.PCIE_P_PORTSTAT_EPOCH 0)))) ∧
    (∃ t, exec .x32kReturn s = .next t ∧ t.flag R.DEVICE_CLKSTAT_X32K_FALLBACK = false ∧
      t.flag R.DEVICE_CLKSTAT_X32K_LOST = s.flag R.DEVICE_CLKSTAT_X32K_LOST ∧
      ∀ o, o ≠ R.DEVICE_CLKSTAT → t.reg o = s.reg o) ∧
    (let cond := s.serving = true ∧ s.flag R.DEVICE_STATE_INVALID = false
     let condB := s.reeve.running = true ∧ s.reeve.tripB = false ∧
      ((cond ∧ s.reeve.linkUp = true) ∨ s.flag R.DEVICE_STATE_GRACE = true)
     ∃ t u, exec (.heartbeatToggle false) s = .next t ∧ exec (.heartbeatToggle true) s = .next u ∧
      t.regs = s.regs ∧ u.regs = s.regs ∧ t.pins.faultB = s.pins.faultB ∧ u.pins.faultA = s.pins.faultA ∧
      (cond ∧ s.reeve.tripA = false → t.pins.faultA = !s.pins.faultA) ∧ (¬ cond → t.pins.faultA = false) ∧
      (condB → u.pins.faultB = !s.pins.faultB) ∧ (¬ condB → u.pins.faultB = false)) ∧
    (s.flag R.DEVICE_STATE_INVALID = true → s.dev.off = false → s.reeve.running = true →
      ∃ t, exec .invalidNotice s = .next t ∧ t.reeve.notices = s.reeve.notices + 1 ∧ t.regs = s.regs ∧ ∀ n, n < 6 →
        (s.noticeOn n = true → ∃ x, (t.egress n).getLast? = some x ∧ x.stream = 0x80 ∧ x.queued = s.tb2) ∧
        (s.noticeOn n = false → t.egress n = s.egress n)) ∧
    (s.flag R.DEVICE_STATE_INVALID = false → exec .invalidNotice s = .next s)

/-- From R143, R169, R170, R174, R176, R177, R179, R768–R770, R776–R779: memory and power. A patrol scrub corrects a single
error and repairs an uncorrectable one from the twin, and reports each. The first channel failure of a serving device costs the
mirror, a second one is FATAL; a successful retrain returns the channel with its contents lost and a rebuild running, whose end
restores the mirror; the third failed one is final. A domain that may be gated, drained and with nothing in flight goes off, one
that is not waits, and a wake switches it on. The power manager moves the live pool by 500 mW a millisecond within its bounds.
-/
def Obligations.MemoryAndPower : Prop :=
  ∀ (s : State),
    (∀ blk : BitVec 34, isDram (64 * blk.toNat) = true → s.chUp (dramCh (64 * blk.toNat)) = true →
      let b := blk.toNat
      let e := s.errAt b
      let logged := fun (t : State) (uncorr : Bool) => t.flag R.MEMC_ERRADDR_VALID = true ∧
        t.flag R.MEMC_ERRADDR_UNCORR = uncorr ∧ t.fld R.MEMC_ERRADDR_CHANNEL = dramCh (64 * b) ∧
        t.fld R.MEMC_ERRADDR_ADDR = (if s.isShadow (64 * b) then b - 0x4000000 else b) ∧ t.mem = s.mem
      (e = 0 ∨ s.flag R.KEEP_STATUS_SCRUBBING = true → exec (.patrolScrub blk) s = .next s) ∧
      (s.flag R.KEEP_STATUS_SCRUBBING = false →
        (e = 1 → ∃ t, exec (.patrolScrub blk) s = .next t ∧ t.errAt b = 0 ∧ logged t false ∧
          t.fld R.SAFETY_EVCNT_RECORD = min (s.fld R.SAFETY_EVCNT_RECORD + 1) (2 ^ (R.SAFETY_EVCNT_RECORD).w - 1)) ∧
        (∀ w, 2 ≤ e → s.twinBlock b = some w → s.errAt w ≤ 1 → ∃ t, exec (.patrolScrub blk) s = .next t ∧ t.errAt b = 0 ∧
          logged t true) ∧
        (2 ≤ e → s.twinBlock b = none → ∃ t, exec (.patrolScrub blk) s = .next t ∧ t.errAt b = e ∧ logged t true))) ∧
    (∀ ch : Fin 8, s.chUp ch = true → s.st ≠ stTRIPPED → s.flag R.SAFETY_TRIP_TRIPPED = false →
      (bit s.dev.lost lostMIRROR = false → ∃ t, exec (.channelFailure ch) s = .next t ∧ t.chUp ch = false ∧
        (∀ c, c < 8 → c ≠ ch.val → t.chUp c = s.chUp c) ∧ bit t.dev.lost lostMIRROR = true ∧
        (s.serving = true → t.st = stDEGRADED) ∧ t.epochOf (.dram ch) = s.epochOf (.dram ch) + 1 ∧ t.mem = s.mem) ∧
      (bit s.dev.lost lostMIRROR = true → ∃ t, exec (.channelFailure ch) s = .next t ∧ s.Tripped t 0x0B ch.val false)) ∧
    (∀ ch : Fin 8, s.chUp ch = false → bit (s.fld R.MEMC_STATUS_CH_FAILED) ch = false →
      (∃ t, exec (.retrainDone ch true) s = .next t ∧ t.chUp ch = true ∧ bit (t.fld R.MEMC_STATUS_CONTENT_LOST) ch = true ∧
        t.flag R.MEMC_STATUS_REBUILDING = true ∧ t.fld R.MEMC_STATUS_REBUILD_CH = ch.val ∧
        ∀ a, isDram a = true → (dramCh a ≠ ch.val ∨ ∃ r ∈ s.mirrorRanges, r.1 ≤ a ∧ a < r.2) → t.byte a = s.byte a) ∧
      (∃ t, exec (.retrainDone ch false) s = .next t ∧ t.mem = s.mem ∧ t.chUp ch = false ∧
        (bit (t.fld R.MEMC_STATUS_CH_FAILED) ch = true ↔ 2 ≤ SMap.get (fun _ => 0) s.dev.retrains ch))) ∧
    (s.flag R.MEMC_STATUS_REBUILDING = true → s.flag R.KEEP_STATUS_SCRUBBING = false → ∃ t, exec .mirrorRebuildDone s = .next t ∧
      t.flag R.MEMC_STATUS_REBUILDING = false ∧ t.mem = s.mem ∧
      (s.fld R.MEMC_STATUS_CH_FAILED = 0 → s.st ≠ stTRIPPED → bit t.dev.lost lostMIRROR = false) ∧
      (s.fld R.MEMC_STATUS_CH_FAILED ≠ 0 → t.dev.lost = s.dev.lost)) ∧
    (∀ d : Fin 128, s.domPresent d = true → (∃ t, exec (.domainWake d) s = .next t ∧ t.domOn d = true ∧
        (∀ x, x < 128 → x ≠ d.val → t.domOn x = s.domOn x) ∧ t.cores = s.cores) ∧
      (∀ drained, (s.domGateable d = true → SMap.get (fun _ => 0) s.power.retryAt d ≤ s.tb2 →
        (drained = true → s.domQuiet d = true → ∃ t, exec (.domainGating d drained) s = .next t ∧ t.domOn d = false ∧
          (∀ x, x < 128 → x ≠ d.val → t.domOn x = s.domOn x) ∧ t.cores = s.cores ∧ t.fab = s.fab) ∧
        (drained = false ∨ s.domQuiet d = false → ∃ t, exec (.domainGating d drained) s = .next t ∧ t.regs = s.regs ∧
          SMap.get (fun _ => 0) t.power.retryAt d = s.tb2 + 110000 ∧ t.cores = s.cores ∧ t.fab = s.fab)) ∧
        (s.domGateable d = false ∨ s.tb2 < SMap.get (fun _ => 0) s.power.retryAt d →
          exec (.domainGating d drained) s = .next s))) ∧
    (∀ tj : BitVec 8,
      let pkg := if s.flag R.PWR_STATUS_STALE = true ∧ s.power.lastRead + 10000000 ≤ s.tb2 then s.fld R.PWR_CFG_PKG_LIMIT + 1
        else s.fld R.PWR_STATUS_PKG
      let hot := s.fld R.PWR_CFG_PKG_LIMIT < pkg ∨ (s.fld R.PWR_CFG_TJ_THROTTLE : Int) < tj.toInt
      ∃ t, exec (.throttleTick tj) s = .next t ∧ t.mem = s.mem ∧ t.fld R.PWR_STATUS_TJ = tj.toNat ∧
        (hot → t.fld R.PWR_STATUS_LIVE = max (s.fld R.PWR_CFG_C0_RESERVE) (s.fld R.PWR_STATUS_LIVE - 500)) ∧
        (¬ hot → t.fld R.PWR_STATUS_LIVE = min (s.fld R.PWR_CFG_POOL) (s.fld R.PWR_STATUS_LIVE + 500)) ∧
        (t.flag R.PWR_STATUS_THROTTLING = true ↔ t.fld R.PWR_STATUS_LIVE < s.fld R.PWR_CFG_POOL) ∧
        (∀ n, (t.core n).queues = (s.core n).queues)) ∧
    (∀ l : List (BitVec 16 × BitVec 16), ∃ t, exec (.pmicRead (some l)) s = .next t ∧
      t.flag R.PWR_STATUS_STALE = false ∧ t.power.lastRead = s.tb2 ∧
      (∀ i (h : i < l.length), i < 6 →
        t.fld (R.PWR_RAIL_MV i) = (l[i]).1.toNat ∧ t.fld (R.PWR_RAIL_MA i) = (l[i]).2.toNat) ∧
      t.fld R.PWR_STATUS_PKG = min 65535 (((l.take 6).map (fun p => p.1.toNat * p.2.toNat / 100)).sum) ∧ t.mem = s.mem) ∧
    (∃ t, exec (.pmicRead none) s = .next t ∧ t.flag R.PWR_STATUS_STALE = true ∧
      t.fld R.PWR_STATUS_PKG = s.fld R.PWR_STATUS_PKG ∧ ∀ o, o ≠ R.PWR_STATUS → t.reg o = s.reg o)

/-- From R134, R145, R147, R726, R730, R732, R734, R742, R744, R746: the host's ports and queues. A port that fails steps its
epoch and resets its functions unless it is handed over, and its return restores the redundancy once both are up; a
function-level reset empties one function. A tail, head or ring doorbell moves its index and frees its slots; QCFG with EN 0
resets the queues; the moderation time-out fires a vector that has unsignalled entries. -/
def Obligations.PortsAndQueues : Prop :=
  ∀ (s : State), s.st ≠ stTRIPPED →
    (s.portUp 0 = true → s.mayHand 0 = false → ∃ t, exec (.portFailure 0) s = .next t ∧ t.portUp 0 = false ∧
      t.fld (R.PCIE_P_PORTSTAT_EPOCH 0) = nextEpoch (s.fld (R.PCIE_P_PORTSTAT_EPOCH 0)) ∧
      (∀ f, f < 5 → t.flag (R.PCIEA_F_QCFG_EN f) = false ∧ (t.fn f).inprog = []) ∧ bit t.dev.lost lostPCIE_PORT = true ∧
      (s.serving = true → t.st = stDEGRADED) ∧ (t.flag R.DEVICE_STATE_PCIE_BOTH_DOWN = true ↔ s.portUp 1 = false) ∧
      t.cores = s.cores ∧ t.mem = s.mem) ∧
    (s.hasPortB = true → s.portUp 1 = true → s.mayHand 1 = true → ∃ t, exec (.portFailure 1) s = .next t ∧
      t.portUp 1 = false ∧ t.flag (R.PCIE_P_PORTSTAT_HANDED 1) = true ∧ t.portUp 0 = true ∧ bit t.dev.lost lostPCIE_PORT = true) ∧
    (∀ speed width, s.portUp 0 = false → s.hasPortB = false ∨ s.portUp 1 = true → speed < 8 → width < 16 →
      ∃ t, exec (.portReturn 0 speed width) s = .next t ∧ t.portUp 0 = true ∧ t.fld (R.PCIE_P_PORTSTAT_SPEED 0) = speed ∧
        t.fld (R.PCIE_P_PORTSTAT_WIDTH 0) = width ∧ t.flag (R.PCIE_P_PORTSTAT_HANDED 0) = false ∧
        t.flag R.DEVICE_STATE_PCIE_BOTH_DOWN = false ∧ bit t.dev.lost lostPCIE_PORT = false ∧ t.mem = s.mem) ∧
    (∀ f : Fin 5, f.val ≠ 0 → ∃ t, exec (.flr f) s = .next t ∧ t.fn f = Fn.reset ∧ t.flag (R.PCIEA_F_QCFG_EN f) = false ∧
      t.flag (R.PCIEA_F_VRCFG_EN f) = false ∧ t.fld (R.PCIEA_F_FSTATUS_VERSION f) = 0 ∧ t.jobs = s.jobs ∧
      (∀ g, g ≠ f.val → t.fn g = s.fn g) ∧ t.st = s.st ∧ t.mem = s.mem) ∧
    (∀ (f : Fin 5) (v : Fin 4), s.moderated f v = true → SMap.get (fun _ => 0) (s.fn f).unsig v ≠ 0 →
      ∃ t, exec (.msixModerationTimeout f v) s = .next t ∧ SMap.get (fun _ => 0) (t.fn f).unsig v = 0 ∧
        SMap.get (fun _ => 0) t.irqs (16 * f + v) = SMap.get (fun _ => 0) s.irqs (16 * f + v) + 1 ∧ t.regs = s.regs) ∧
    (∀ (n u : Nat) (f : Fin 5) (v : BitVec 32),
      let m := Master.core n u .m
      let k := s.fn f
      (∃ t, exec (.sqtail m f v) s = .next t ∧ (t.fn f).sqTail = v.toNat % 4096 % s.sqSize f ∧ (t.fn f).cq = k.cq ∧
        t.regs = s.regs ∧ ∀ g, g ≠ f.val → t.fn g = s.fn g) ∧
      (∀ freed, k.waiting = [] → k.cqIdx < s.cqSize f → 0 < freed → freed ≤ k.cq.length → k.cq.length ≤ s.cqSize f →
        v.toNat < 4096 → v.toNat % s.cqSize f = (k.cqIdx + s.cqSize f - k.cq.length + freed) % s.cqSize f →
        ∃ t, exec (.cqhead m f v) s = .next t ∧ (t.fn f).cq = k.cq.drop freed ∧ (t.fn f).cqIdx = k.cqIdx ∧ t.regs = s.regs) ∧
      (∀ read, read ≤ k.vr.length → k.vr.length < 2 ^ 32 → k.vrHead < 2 ^ 32 → v.toNat = (k.vrHead + read) % 2 ^ 32 →
        ∃ t, exec (.vrhead m f v) s = .next t ∧ (t.fn f).vr = k.vr.drop read ∧ (t.fn f).vrHead = v.toNat ∧ t.regs = s.regs) ∧
      (v.getLsbD 31 = false → ∃ t, exec (.qcfgWrite m f v) s = .next t ∧ t.flag (R.PCIEA_F_QCFG_EN f) = false ∧
        (t.fn f).cq = [] ∧ (t.fn f).inprog = [] ∧ (t.fn f).waiting = [] ∧ (t.fn f).cqPhase = true ∧ (t.fn f).vr = k.vr ∧
        t.fld (R.PCIEA_F_QCFG_SQLOG f) = v.toNat / 2 ^ 20 % 16 ∧ t.fld (R.PCIEA_F_QCFG_MODCNT f) = v.toNat / 256 % 256) ∧
      (v.getLsbD 31 = true → k.waiting = [] → ∃ t, exec (.qcfgWrite m f v) s = .next t ∧
        t.flag (R.PCIEA_F_QCFG_EN f) = true ∧ t.fld (R.PCIEA_F_QCFG_CQLOG f) = v.toNat / 2 ^ 16 % 16 ∧ t.fns = s.fns))

/-- From R546–R552, R555, R590, R596, R597, R601, R603: the scan. The strobe counts, announces RUN and PERMIT, drives each
switch by the last command outside its test scans, keeps the low side of grace, and raises an output fault at the second wrong
readback in a row. A whole record that agrees advances every contact's filter and gives each channel without restart interlock
the command that the terms of R596 name; one that disagrees trips the channel that finds it. A damaged record counts as missing;
the second missing one in a row is the loss of the other channel. From R592–R594, R602–R604: the tests of the safe inputs and
outputs. A due pulse switches one contact's supply off; its evaluation counts a skip, a pass, or a failure that faults the pair
with TESTPULSE, and the supplies return. A switch that still conducts in its test scan is an output fault of its channel; one
that has opened leaves the channel as it is. -/
def Obligations.SafeIoScans : Prop :=
  (∀ (s : State), s.reeve.linkUp = true →
     let armed := s.flag R.SAFETY_TRIP_TRIPPED = false ∧ s.st ≠ stTRIPPED
     let scan := s.fld R.SAFETY_SCANSTAT_SCAN
     let good := fun (rec : List Byte) => rec.length = 128 ∧ leNat (rec.drop 0x7C) = crc32 (rec.take 0x7C)
     (∀ rawA rawB : BitVec 24, s.reeve.running = true →
       let n := (scan + 1) % 2 ^ 32
       let test := fun (c low : Nat) => bit (s.chCtl c) 2 = true ∧ s.chOt c ≠ 0 ∧ n % s.chOt c = 4 * c + 1 + 2 * low
       let on := fun (c : Nat) => s.flag (R.SAFEIO_CHSTAT_CMD c) = true ∧ s.serving = true ∧ s.paramOk = true
       ∃ t, exec (.scanStrobe rawA rawB) s = .next t ∧ t.fld R.SAFETY_SCANSTAT_SCAN = n ∧ t.mem = s.mem ∧
         (s.st = stTRIPPED → t.pins = s.pins) ∧
         (s.st ≠ stTRIPPED → t.sio.run = s.fld R.SAFEIO_RUN_RUN ∧ t.sio.permit = s.permits ∧
           t.fld R.SAFEIO_RUN_PERMIT = s.permits ∧ ∀ c, c < 4 →
             (bit t.pins.stoHs c = true ↔ on c ∧ ¬ test c 0) ∧
             (s.flag R.DEVICE_STATE_GRACE = false → (bit t.pins.stoLs c = true ↔ on c ∧ ¬ test c 1)) ∧
             (s.flag R.DEVICE_STATE_GRACE = true → (bit t.pins.stoLs c = true ↔ s.flag (R.SAFEIO_CHSTAT_LS_ON c) = true)) ∧
             (bit s.sio.fresh c = false → bit s.sio.bad c = true → s.flag (R.SAFEIO_CHSTAT_FAULT c) = false →
               rawA.getLsbD (16 + c) ≠ s.flag (R.SAFEIO_CHSTAT_HS_ON c) →
               t.flag (R.SAFEIO_CHSTAT_FAULT c) = true ∧ t.fld (R.SAFEIO_CHSTAT_FCODE c) = 1))) ∧
     (∀ rec : List Byte, bit s.sio.due 0 = true → good rec → leNat (rec.take 4) = scan → armed →
       (s.firstDiff false rec = none →
         let d := fun (j : Nat) => bit s.sio.rawA j != bit (leAt rec 8 2 + 65536 * leAt rec 0x0A 1) j
         let lv := fun (k : Nat) => if d (sinBit k) then bit s.sio.used k else bit s.sio.rawA (sinBit k)
         ∃ t, exec (.scanRecord false rec) s = .next t ∧ t.reeve.missA = 0 ∧ bit t.sio.due 0 = false ∧ t.st = s.st ∧
           t.mem = s.mem ∧ t.pins = s.pins ∧
           (∀ k, k < 16 → t.flag (fFilt k) = (if lv k = s.flag (fFilt k) then s.flag (fFilt k)
             else if s.pairFilter (k / 2) ≤ SMap.get (fun _ => 0) s.sio.cnt k + 1 then lv k else s.flag (fFilt k))) ∧
           ∀ c, c < 4 → bit (s.chCtl c) 1 = false → (t.flag (R.SAFEIO_CHSTAT_CMD c) = true ↔ bit (s.chCtl c) 0 = true ∧
             (∀ i, i < 8 → bit (s.chPairs c) i = true → t.pairOn i = true) ∧ bit s.sio.run c = true ∧
             bit s.sio.permit c = true ∧ s.flag (R.SAFEIO_CHSTAT_FAULT c) = false)) ∧
       (∀ off, s.firstDiff false rec = some off → off < 256 → ∃ t, exec (.scanRecord false rec) s = .next t ∧
         s.Tripped t 3 0 false ∧ t.flag R.SAFETY_SCANDIFF_VALID = true ∧ t.fld R.SAFETY_SCANDIFF_OFFSET = off)) ∧
     (∀ rec : List Byte, bit s.sio.due 1 = true → good rec → leNat (rec.take 4) = scan → armed →
       s.flag R.DEVICE_STATE_GRACE = false → s.firstDiff true rec = none →
       ∃ t, exec (.scanRecord true rec) s = .next t ∧ t.reeve.missB = 0 ∧ t.reeve.lastState = leNat ((rec.drop 4).take 1) ∧
         bit t.sio.due 1 = false ∧ t.regs = s.regs ∧ t.pins = s.pins) ∧
     (∀ (b : Bool) (rec : List Byte), ¬ good rec → exec (.scanRecord b rec) s = exec (.scanRecordMissing b) s) ∧
     (bit s.sio.due 1 = true → s.st ≠ stTRIPPED →
       let served := s.reeve.lastState = stSERVING ∨ s.reeve.lastState = stDEGRADED
       (s.reeve.missB = 0 → ∃ t, exec (.scanRecordMissing true) s = .next t ∧ t.reeve.missB = 1 ∧ t.st = s.st ∧
         t.fld R.SAFETY_SCANSTAT_MISSED = min (s.fld R.SAFETY_SCANSTAT_MISSED + 1) (2 ^ (R.SAFETY_SCANSTAT_MISSED).w - 1)) ∧
       (s.reeve.missB = 1 → s.flag R.SAFETY_TRIP_TRIPPED = false → served → s.dev.announced = false →
         ∃ t, exec (.scanRecordMissing true) s = .next t ∧ s.Tripped t 4 0 true)) ∧
     (bit s.sio.due 0 = true → armed →
       (s.reeve.missA = 0 → ∃ t, exec (.scanRecordMissing false) s = .next t ∧ t.reeve.missA = 1 ∧ t.st = s.st ∧
         ∀ k, k < 16 → t.flag (fFilt k) = s.flag (fFilt k)) ∧
       (s.reeve.missA = 1 → ∃ t, exec (.scanRecordMissing false) s = .next t ∧ s.Tripped t 4 0 false))) ∧
  (∀ (s : State),
     (∀ k : Fin 16,
       let i := k.val / 2
       let period := s.pset 0x0E 2
       let due := s.paramOk = true ∧ bit (s.pairCtl i) 0 = true ∧ bit (s.pairCtl i) (2 + k.val % 2) = true ∧ period ≠ 0 ∧
         s.fld R.SAFETY_SCANSTAT_SCAN % period = k.val ∧ s.st ≠ stTRIPPED
       (due → ∃ t, exec (.testPulse k) s = .next t ∧ t.sio.pulse = some k.val ∧ t.regs = s.regs ∧
         t.pins.sitpA = (if k.val % 2 = 0 then clrBit s.pins.sitpA i else s.pins.sitpA) ∧
         t.pins.sitpB = (if k.val % 2 = 1 then clrBit s.pins.sitpB i else s.pins.sitpB)) ∧
       (¬ due → exec (.testPulse k) s = .next s) ∧
       (s.sio.pulse = some k.val →
         let evaluated := s.sio.missed = false ∧ bit s.sio.due 0 = false ∧ bit s.sio.used k = true
         (¬ evaluated → ∀ on, ∃ t, exec (.testPulseEvaluate k on) s = .next t ∧ t.sio.pulse = none ∧
           t.fld (R.SAFEIO_PAIRSTAT_TPSKIP i) = min (s.fld (R.SAFEIO_PAIRSTAT_TPSKIP i) + 1) 255 ∧
           t.flag (R.SAFEIO_PAIRSTAT_FAULT i) = s.flag (R.SAFEIO_PAIRSTAT_FAULT i)) ∧
         (evaluated → (∃ t, exec (.testPulseEvaluate k true) s = .next t ∧ t.sio.pulse = none ∧
             t.flag (R.SAFEIO_PAIRSTAT_FAULT i) = true ∧ t.fld (R.SAFEIO_PAIRSTAT_FCODE i) = 2 ∧
             t.fld (R.SAFEIO_PAIRSTAT_TPFAIL i) = min (s.fld (R.SAFEIO_PAIRSTAT_TPFAIL i) + 1) 255) ∧
           ∃ t, exec (.testPulseEvaluate k false) s = .next t ∧ t.sio.pulse = none ∧ bit t.sio.passed k = true ∧
             t.regs = s.regs ∧ t.pins.sitpA = s.sitpMask ∧ t.pins.sitpB = s.sitpMask)) ∧
       (s.sio.pulse = none → ∀ on, exec (.testPulseEvaluate k on) s = .next s)) ∧
     (∀ (c : Fin 4) (low : Bool),
       let tested := bit s.sio.test (c.val + (if low then 4 else 0)) = true ∧ s.flag (R.SAFEIO_CHSTAT_CMD c) = true ∧
         s.flag (R.SAFEIO_CHSTAT_FAULT c) = false
       (tested → ∃ t, exec (.outputTestSample c low true) s = .next t ∧ t.flag (R.SAFEIO_CHSTAT_FAULT c) = true ∧
         t.fld (R.SAFEIO_CHSTAT_FCODE c) = (if low then 2 else 1) ∧ bit (t.fld R.SAFEIO_STATUS_OUTFAULT) c = true ∧
         t.sio = s.sio ∧ t.pins = s.pins) ∧
       (¬ tested → exec (.outputTestSample c low true) s = .next s) ∧ exec (.outputTestSample c low false) s = .next s))

/-- From R491, R495, R496, R502, R506–R508, R510: a frame tap. A Frame Start opens a frame unless it comes within GUARD of the
last boundary, when it is dropped; a boundary that is due without one is synthetic and has no outcome but SYNTHETIC; Frame End
decides the frame by its counters, its signature and the history; a kept packet is signed and its line counted and stored; a bad
one marks its frame. From R515, R516, R518, R522–R525: the telltale windows and the chime monitor. A window whose lines have all
arrived gives its CRC and counts as done, and is a mismatch where the declared state of some job of the frame asks for another
CRC. A chime whose tones have held long enough from a start in time is HEARD, one whose time is over NOT_HEARD, and without a
frame sync every one is NO_CLOCK; a decided expectation leaves the list. -/
def Obligations.Taps : Prop :=
  (∀ (s : State) (k : Fin 12),
     let tap := s.tap k
     let st := s.fld (R.TAP_T_STAT_TSTATE k)
     let ph := s.phase k
     let per := if s.fld (R.TAP_T_MEASPER_P k) = 0 then s.fld (R.TAP_T_NOMPERIOD_NS k) else s.fld (R.TAP_T_MEASPER_P k)
     let w := s.fld (R.TAP_T_NOMPERIOD_NS k) * s.fld (R.TAP_T_TIMING_PTOL k) / 1000
     let frame := s.fld (R.TAP_T_STAT_FRAME k)
     let line := s.fld (R.TAP_T_STAT_RXLINE k)
     let up := fun (f : Fld) => min (s.fld f + 1) (2 ^ f.w - 1)
     let opened := fun (t : State) =>
       t.fld (R.TAP_T_STAT_FRAME k) = (frame + 1) % 2 ^ 32 ∧ t.fld (R.TAP_T_FSTIME_TIME k) = stamp64 s.tb2 ∧
       t.fld (R.TAP_T_STAT_RXLINE k) = 0 ∧ (t.tap k).incomplete = false ∧ (t.tap k).ended = false ∧ (t.tap k).sig = 0
     let real := fun (t : State) (fn : BitVec 16) (rate : Bool) =>
       opened t ∧ t.fld (R.TAP_T_STAT_TSTATE k) = 1 ∧ t.fld (R.TAP_T_LASTFN_FN k) = fn.toNat ∧
       t.flag (R.TAP_T_STAT_HSRX k) = true ∧ (t.tap k).synth = false ∧ (t.tap k).rate = rate ∧ (t.tap k).prevFn = fn.toNat
     let open_ := st ≠ 0 ∧ tap.synth = false ∧ tap.ended = false
     let due := (st = 1 ∧ per + w ≤ ph) ∨ (st = 2 ∧ per ≤ ph) ∨ (st = 3 ∧ tap.droppedAt + per + w ≤ s.tb2)
     let image := fun (p : TapPkt) => p.dt.toNat = s.fld (R.TAP_T_CFG_DT k)
     let mine := fun (p : TapPkt) => p.vc.val = s.fld (R.TAP_T_CFG_VC k) ∧ open_
     (s.tapOn k = false → (∀ fn, exec (.tapFrameStart k fn) s = .next s) ∧ exec (.syntheticBoundary k) s = .next s ∧
       exec (.tapFrameEnd k) s = .next s ∧ ∀ p, exec (.tapPacket k p) s = .next s) ∧
     (s.tapOn k = true →
       (∀ fn : BitVec 16,
         (st = 0 → ∃ t, exec (.tapFrameStart k fn) s = .next t ∧ real t fn false) ∧
         (st ≠ 0 → 1000 * s.fld (R.TAP_T_TIMING_GUARD k) ≤ ph → ∃ t, exec (.tapFrameStart k fn) s = .next t ∧
           real t fn (decide (st = 1 ∧ (ph + w < per ∨ per + w < ph))) ∧
           (tap.prevReal = true → t.fld (R.TAP_T_MEASPER_P k) = ph % 2 ^ 32)) ∧
         (st ≠ 0 → ph < 1000 * s.fld (R.TAP_T_TIMING_GUARD k) → ∃ t, exec (.tapFrameStart k fn) s = .next t ∧
           t.fld (R.TAP_T_STAT_FRAME k) = frame ∧ t.fld (R.TAP_T_ERR_DROPPED k) = up (R.TAP_T_ERR_DROPPED k) ∧
           (t.tap k).droppedAt = s.tb2 ∧ t.fld (R.TAP_T_STAT_TSTATE k) = (if st = 1 then 1 else 3) ∧
           (st = 1 → tap.ended = false → (t.tap k).incomplete = true) ∧ t.mem = s.mem ∧ t.cores = s.cores)) ∧
       (due → ∃ t, exec (.syntheticBoundary k) s = .next t ∧ opened t ∧ t.fld (R.TAP_T_STAT_TSTATE k) = 2 ∧
         t.fld (R.TAP_T_STAT_OUTCOME k) = 7 ∧ t.flag (R.TAP_T_STAT_VALID k) = false ∧ t.flag (R.TAP_T_STAT_HSRX k) = false ∧
         (t.tap k).synth = true ∧ (t.tap k).hist = none ∧
         t.fld (R.TAP_T_ERR_FLYWHEEL k) = (if st = 2 then s.fld (R.TAP_T_ERR_FLYWHEEL k) else up (R.TAP_T_ERR_FLYWHEEL k))) ∧
       (¬ due → exec (.syntheticBoundary k) s = .next s) ∧
       (¬ open_ → exec (.tapFrameEnd k) s = .next s) ∧
       (open_ →
         let broken := tap.incomplete = true ∨ line ≠ s.fld (R.TAP_T_GEOM_ACTIVE k) ∨
           (s.flag (R.TAP_T_CFG_MARKER k) = true ∧ tap.marker = none)
         let next := fun (n : Nat) => if n = s.fld (R.TAP_T_FNCFG_FNMAX k) then 1 else n + 1
         ∃ t, exec (.tapFrameEnd k) s = .next t ∧ (t.tap k).ended = true ∧ t.fld (R.TAP_T_STAT_FRAME k) = frame ∧
           (t.flag (R.TAP_T_STAT_VALID k) = true ↔ t.fld (R.TAP_T_STAT_OUTCOME k) = 2) ∧
           (broken → t.fld (R.TAP_T_STAT_OUTCOME k) = 6 ∧ (t.tap k).hist = none ∧
             t.fld (R.TAP_T_ERR_INCOMPLETE k) = up (R.TAP_T_ERR_INCOMPLETE k)) ∧
           (¬ broken → t.fld (R.TAP_T_SIG_SIG k) = tap.sig % 2 ^ 64 ∧
             (t.tap k).hist = some (tap.sig, tap.prevFn, tap.marker.getD 0) ∧
             (tap.hist = none → t.fld (R.TAP_T_STAT_OUTCOME k) = 1) ∧
             ∀ h, tap.hist = some h → t.fld (R.TAP_T_STAT_OUTCOME k) =
               (if tap.rate = true then 5
                 else if (s.fld (R.TAP_T_FNCFG_FNMAX k) ≠ 0 ∧ tap.prevFn ≠ next h.2.1) ∨
                   (s.flag (R.TAP_T_CFG_MARKER k) = true ∧ tap.marker.getD 0 ≠ (h.2.2 + 1) % 2 ^ 32) then 4
                 else if tap.sig = h.1 then 3 else 2))) ∧
       ∀ p : TapPkt,
         (p.bad = true → mine p → ∃ t, exec (.tapPacket k p) s = .next t ∧ (t.tap k).incomplete = true ∧
           t.fld (R.TAP_T_ERR_PKTERR k) = up (R.TAP_T_ERR_PKTERR k) ∧ t.fld (R.TAP_T_STAT_RXLINE k) = line ∧ t.mem = s.mem) ∧
         (p.bad = false → p.corrected = false →
           ¬ (mine p ∧ (image p ∨ (s.fld (R.TAP_T_CFG_EDT k) ≠ 0 ∧ p.dt.toNat = s.fld (R.TAP_T_CFG_EDT k)))) →
           exec (.tapPacket k p) s = .next s) ∧
         (p.bad = false → mine p → image p → ∃ t, exec (.tapPacket k p) s = .next t ∧
           t.fld (R.TAP_T_STAT_RXLINE k) = up (R.TAP_T_STAT_RXLINE k) ∧ t.fld (R.TAP_T_STAT_FRAME k) = frame ∧
           (t.tap k).sig = crcFeed 64 0x42F0E1EBA9EA3693 false tap.sig p.data ∧
           (k.val < 8 → 64 * s.fld (R.TAP_RING_STRIDE k) < p.data.length → (t.tap k).incomplete = true) ∧
           let a := s.ringBuf k (s.fld (R.TAP_RINGSTAT_WRITING k)) + line * (64 * s.fld (R.TAP_RING_STRIDE k))
           (k.val < 8 → tap.stored = true → line < s.fld (R.TAP_T_GEOM_ACTIVE k) → s.Plain 0 true a →
             ∀ j, j < 64 * s.fld (R.TAP_RING_STRIDE k) → j < p.data.length → t.byte (a + j) = p.data.getD j 0) ∧
           ((8 ≤ k.val ∨ tap.stored = false ∨ s.fld (R.TAP_T_GEOM_ACTIVE k) ≤ line) → t.mem = s.mem)))) ∧
  (∀ (s : State),
     let en := s.flag R.TAP_TDMCFG_EN = true
     let up := fun (f : Fld) (n : Nat) => min (s.fld f + n) (2 ^ f.w - 1)
     let dur := fun (e : ChimeExp) => s.fld (R.TAP_CHIME_B_DURATION e.chime)
     (∀ (d : Fin 4) (w : Fin 16),
       let tap := s.tap (8 + d.val)
       let n := s.fld (R.TAP_WIN_NLINES d w)
       let crc := crcOut (s.fld (R.CVU_U_CFG_WIDTH (5 + d.val))) (s.flag (R.CVU_U_CFG_REFOUT (5 + d.val)))
         (s.fld (R.CVU_U_XOROUT_V (5 + d.val))) (SMap.get (fun _ => 0) tap.wrun w) % 2 ^ 32
       let whole := bit tap.wfail w = false ∧ n ≠ 0 ∧ SMap.get (fun _ => 0) tap.wlines w = n ∧
         bit (s.fld (R.TAP_WSTAT_DONE d)) w = false
       (s.flag (R.TAP_WIN_VALID d w) = false → exec (.telltaleWindowComplete d w) s = .next s) ∧
       (bit tap.wfail w = false → ¬ whole → exec (.telltaleWindowComplete d w) s = .next s) ∧
       (s.flag (R.TAP_WIN_VALID d w) = true → whole → ∃ t, exec (.telltaleWindowComplete d w) s = .next t ∧
         t.fld (R.TAP_WCRC_CRC d w) = crc ∧ bit (t.fld (R.TAP_WSTAT_DONE d)) w = true ∧
         (bit (t.fld (R.TAP_WSTAT_MISMATCH d)) w = true ↔ bit (s.fld (R.TAP_WSTAT_MISMATCH d)) w = true ∨
           ∃ p ∈ s.routesOn (8 + d.val), p.2.display = true ∧ ∃ j, s.job p.1 (s.fld (R.TAP_WSTAT_FRAME d)) = some j ∧
             j.states.getD w 0xFF < 16 ∧ crc ≠ s.fld (R.TAP_EXP_CRC d w (j.states.getD w 0xFF))))) ∧
     (∀ hits : BitVec 16,
       let seen := fun (e : ChimeExp) => if hits.getLsbD e.chime then
           { e with since := some (e.since.getD (s.tb2 - 10000000)), hitMs := (if e.since = none then 10 else e.hitMs + 10) }
         else { e with since := none, hitMs := 0 }
       let heard := fun (e : ChimeExp) => hits.getLsbD e.chime = true ∧ (seen e).since.getD 0 ≤ e.latest ∧ dur e ≤ (seen e).hitMs
       (¬ en → exec (.chimeBlock hits) s = .next s) ∧
       (en → ∃ t, exec (.chimeBlock hits) s = .next t ∧ t.flag R.TAP_CHIMESTAT_NOCLK = false ∧
         t.chimes = (s.chimes.filter (fun e => ! decide (heard e))).map seen ∧
         t.fld R.TAP_CHIMESTAT_HEARD = up R.TAP_CHIMESTAT_HEARD ((s.chimes.filter (fun e => decide (heard e))).length) ∧
         t.fld R.TAP_CHIMESTAT_MISSED = s.fld R.TAP_CHIMESTAT_MISSED ∧ t.cores = s.cores ∧ t.mem = s.mem)) ∧
     (¬ en → exec .tdmNoClock s = .next s) ∧
     (en → ∃ t, exec .tdmNoClock s = .next t ∧ t.flag R.TAP_CHIMESTAT_NOCLK = true ∧ t.chimes = [] ∧
       t.fld R.TAP_CHIMESTAT_PENDING = 0 ∧ t.fld R.TAP_CHIMESTAT_MISSED = up R.TAP_CHIMESTAT_MISSED s.chimes.length ∧
       (∀ e, s.chimes = [e] → t.fld R.TAP_CHIMESTAT_LAST = e.chime % 256 ∧ t.fld R.TAP_CHIMESTAT_OUTCOME = 3)) ∧
     (let late := fun (e : ChimeExp) => e.latest + 1000000 * dur e + 20000000 ≤ s.tb2
      ∃ t, exec .chimeDeadline s = .next t ∧ t.chimes = s.chimes.filter (fun e => ! decide (late e)) ∧
       t.fld R.TAP_CHIMESTAT_MISSED = up R.TAP_CHIMESTAT_MISSED ((s.chimes.filter (fun e => decide (late e))).length) ∧
       t.fld R.TAP_CHIMESTAT_HEARD = s.fld R.TAP_CHIMESTAT_HEARD ∧
       (∀ e, s.chimes = [e] → late e → t.fld R.TAP_CHIMESTAT_LAST = e.chime % 256 ∧ t.fld R.TAP_CHIMESTAT_OUTCOME = 2)))

/-- From R411, R414, R416–R418, R420, R421, R433, R742: a record committed before or at its deadline. The oldest open frame of a
route is committed once its outcome is known: PASS for a passing program, DISTINCT input and enough coverage, FAIL for a failing
code, UNCHECKED for an input that is not DISTINCT, a bad layer table or lost inputs; at the deadline LATE with its reason. The
frame is closed, its job forgotten, SEQ counted, the record written to the client's ring, and a C0 PASS lifts the invalid
marking. A PROVISIONAL unresolved in time is withdrawn. -/
def Obligations.Verdicts : Prop :=
  ∀ (r : Fin 64) (f : Nat) (s : State),
    (s.route r = none → exec (.verdictCommit r f) s = .next s ∧ exec (.deadline r f) s = .next s ∧
      exec (.provTimeout r f) s = .next s) ∧
    ∀ (rc : RouteCfg), s.route r = some rc →
      let seq := (s.routeSt r).seq
      let free := s.serving = true ∧ s.dupStandby r = false ∧ ¬ (s.dupPrimary r = true ∧ f + 1 < s.handedAt r)
      let published := fun (t : State) (status reason : Nat) =>
        t.fld (R.VERD_RSTAT_STATUS r) = status ∧ t.fld (R.VERD_RSTAT_REASON r) = reason ∧
        t.fld (R.VERD_RSTAT_FRAME r) = f % 2 ^ 32 ∧ t.fld (R.VERD_RSTAT_SEQ r) = seq % 2 ^ 16 ∧
        (t.routeSt r).seq = (seq + 1) % 2 ^ 16 ∧ t.openFrame r f = none ∧ t.job r f = none ∧
        (bit rc.outs 0 = true → s.flag (R.PCIEA_F_VRCFG_EN rc.client) = true →
          (s.fn rc.client).vr.length < 2 ^ max 4 (min 12 (s.fld (R.PCIEA_F_VRCFG_VRLOG rc.client))) →
          ∃ rec, (t.fn rc.client).vr = (s.fn rc.client).vr ++ [rec] ∧ rec.route = r.val ∧ rec.frame = f ∧
            rec.status = status ∧ rec.bytes.length = 64 ∧ rec.bytes.drop 60 = leBytes 4 (crc32 (rec.bytes.take 60)))
      let input := s.outcome rc.source f
      ∀ (fr : OpenFrame) (rest : List OpenFrame), (s.routeSt r).frames = fr :: rest →
        (fr.frame ≠ f → exec (.verdictCommit r f) s = .next s) ∧
        (fr.frame = f → fr.prov = none → free → rc.display = false → rc.source < 8 → rc.cls ≠ 0 ∨ rc.hearth = 255 →
          let early := s.tb2 + (if s.dupPrimary r = true then 200000 else 0) < fr.start + 1000 * rc.deadline
          (s.job r f = none →
            (∀ o, input = some o → o ≠ 2 → rc.cls = 0 → ∃ t, exec (.verdictCommit r f) s = .next t ∧ published t 3 0x12) ∧
            (early → exec (.deadline r f) s = .next s) ∧
            (¬ early → rc.cls = 0 → input = some 2 → ∃ t, exec (.deadline r f) s = .next t ∧ published t 4 0x0D) ∧
            (¬ early → rc.cls ≠ 0 → ∃ t, exec (.deadline r f) s = .next t ∧ t.openFrame r f = none ∧
              t.regs = (s.setFld (R.VERD_RSTAT_PROV_OPEN r) 0).regs)) ∧
          ∀ j : Job, s.job r f = some j →
            let cov := s.coverageOf rc r fr (some j)
            let covered := rc.minLin ≤ cov.exact + cov.bounded ∧ rc.minSpot ≤ cov.spot ∧ cov.age ≤ rc.maxAge ∧
              bit cov.flags 1 = false
            (∀ o, input = some o → o ≠ 2 → ∃ t, exec (.verdictCommit r f) s = .next t ∧ published t 3 0x12) ∧
            (j.ended = false → j.refused = false → input = none ∨ input = some 2 →
              exec (.verdictCommit r f) s = .next s) ∧
            (input = some 2 → j.refused = false → (s.routeSt r).badTable fr.frame = true →
              (j.ended = true → ∃ t, exec (.verdictCommit r f) s = .next t ∧ published t 3 5) ∧
              (¬ early → ∃ t, exec (.deadline r f) s = .next t ∧ published t 3 5)) ∧
            (input = some 2 → j.refused = false → (s.routeSt r).badTable fr.frame = false →
              (j.exitCode = none → j.failed = none → j.lost = true → ∃ t, exec (.verdictCommit r f) s = .next t ∧
                published t 3 0x0B) ∧
              (∀ code, j.exitCode = some code → j.failed = none →
                (code = 0 → j.lost = false → j.overrun = false → j.pairNone = false → j.engErr = false → covered →
                  ∃ t, exec (.verdictCommit r f) s = .next t ∧ published t 1 0 ∧
                    (rc.cls = 0 → t.flag R.DEVICE_STATE_INVALID = false ∧ t.flag R.DEVICE_STATE_GRACE = false)) ∧
                (code = 0xFE → ∃ t, exec (.verdictCommit r f) s = .next t ∧ published t 2 7) ∧
                (code ≠ 0 → code ≠ 0xFE → ∃ t, exec (.verdictCommit r f) s = .next t ∧ published t 2 6)) ∧
              (j.ended = false → ¬ early → ∃ t, exec (.deadline r f) s = .next t ∧
                published t 4 (if j.inputsAt.isSome = true then 0x0E else 0x0C)))) ∧
        (fr.frame = f → ∀ since n, fr.prov = some (since, n) →
          (since + 1800000 ≤ s.tb2 → s.serving = true → ∃ t, exec (.provTimeout r f) s = .next t ∧ published t 6 0x11) ∧
          (s.tb2 < since + 1800000 → exec (.provTimeout r f) s = .next s))

/-- From R406–R410, R428–R430, R723, R724: the inputs of a job and the restart windows. A pull that succeeds is done and, as the
last input, completes them, unless their channel has lost its contents; one that fails is read again, and a second failure loses
the inputs. An inbound write is stored in an open inbox buffer, and discarded with a mark in a locked one; a doorbell in time
locks the buffer. A restart request opens its window after 100 ms, a window that ends counts a failed restart, and the third
within the period is fatal. -/
def Obligations.InputsAndRestartWindows : Prop :=
  (∀ (r : Fin 64) (f : Nat) (n : Fin 30) (st : MStat) (data : List Byte) (s : State) (rc : RouteCfg) (j : Job),
    s.route r = some rc → s.job r f = some j →
    let size := ((j.tensors[n.val]?).map (·.bytes)).getD 0
    (n.val ∉ j.pulls → exec (.pullReadComplete r f n st data) s = .next s) ∧
    (n.val ∈ j.pulls →
      (st = .ok → ∃ t j', exec (.pullReadComplete r f n st data) s = .next t ∧ t.job r f = some j' ∧
        j'.pulls = j.pulls.filter (· ≠ n.val) ∧ (s.inputsLost j = false → j'.lost = j.lost) ∧ t.mem = s.mem ∧
        t.fld (R.PCIEA_F_BYTES_COUNT rc.client) = (s.fld (R.PCIEA_F_BYTES_COUNT rc.client) + size) % 2 ^ 64 ∧
        (j.pulls.filter (· ≠ n.val) = [] → j.inputsAt = none → j.lost = false → j.tensors ≠ [] →
          (∀ x ∈ j.tensors, x.push = true → j.doorbell = true) →
          (s.inputsLost j = false → j'.inputsAt = some s.stampNow) ∧ (s.inputsLost j = true → j'.lost = true)) ∧
        (j.pulls.filter (· ≠ n.val) ≠ [] → j'.inputsAt = j.inputsAt)) ∧
      (st ≠ .ok → ∃ t j', exec (.pullReadComplete r f n st data) s = .next t ∧ t.job r f = some j' ∧ t.regs = s.regs ∧
        (n.val ∉ j.reissued → j'.lost = j.lost ∧ j'.pulls = j.pulls ∧ n.val ∈ j'.reissued) ∧
        (n.val ∈ j.reissued → j'.lost = true ∧ j'.pulls = [])))) ∧
  (∀ (off : BitVec 32) (data : List Byte) (s : State),
    let r := off.toNat / 0x4000000
    let b := off.toNat % 0x4000000 / 0x2000000
    let within := s.inboxUp = true ∧ ∃ rc, s.route r = some rc ∧ off.toNat % 0x2000000 + data.length ≤ 1024 * rc.inboxKib ∧
      0 < data.length
    (¬ within → exec (.inboxWrite off data) s = .next s) ∧
    (within → s.inboxLocked r b ≠ 0 → ∃ t, exec (.inboxWrite off data) s = .next t ∧ t.jobs = s.jobs ∧
      t.flag (R.VERD_RSTAT_INBOX_DISC r) = true) ∧
    (within → s.inboxLocked r b = 0 → ∃ t, exec (.inboxWrite off data) s = .next t ∧
      t.inboxBytes off.toNat data.length = data ∧ t.mem = s.mem ∧
      ∀ a, a < off.toNat ∨ off.toNat + data.length ≤ a → t.inboxBytes a 1 = s.inboxBytes a 1)) ∧
  (∀ (r : Fin 64) (b : Fin 2) (f : BitVec 32) (s : State),
    (s.inboxUp = false → exec (.inboxDoorbell r b f) s = .next s) ∧
    ∀ rc, s.inboxUp = true → s.route r = some rc → 0 < rc.inboxKib →
      let refused := f.toNat % 2 ≠ b.val ∨ s.deadlinePassed r rc f.toNat = true
      (refused → ∃ t, exec (.inboxDoorbell r b f) s = .next t ∧ t.jobs = s.jobs ∧
        t.flag (R.VERD_RSTAT_INBOX_DISC r) = true) ∧
      (¬ refused → ∃ t, exec (.inboxDoorbell r b f) s = .next t ∧ t.inboxLocked r b = f.toNat + 1 ∧
        ∀ j, s.job r f.toNat = some j → (∀ n, (s.slotOf n rc.prog).isSome = false) → ∃ j', t.job r f.toNat = some j' ∧
          j'.doorbell = true ∧ t.mem = s.mem ∧
          (j.pulls = [] → j.lost = false → j.inputsAt = none → j.tensors ≠ [] → s.inputsLost j = false →
            j'.inputsAt = some s.stampNow))) ∧
  (∀ (s : State), let due := s.fld R.HEARTH_STATUS_RSTATE = 1 ∧ s.jobs.restart.posted + 100000000 ≤ s.tb2
    (¬ due → exec .restartWindowOpen s = .next s) ∧
    (due → ∃ t, exec .restartWindowOpen s = .next t ∧ t.fld R.HEARTH_STATUS_RSTATE = 2 ∧
      t.jobs.restart.opened = s.tb2 ∧ t.mem = s.mem ∧ t.cores = s.cores)) ∧
  (∀ (r : Fin 64) (f : Nat) (s : State),
    let due := (s.fld R.HEARTH_STATUS_RSTATE = 2 ∨ s.fld R.HEARTH_STATUS_RSTATE = 3) ∧
      s.jobs.restart.opened + 1000000 * s.fld R.HEARTH_RESTARTCFG_WINDOW ≤ s.tb2
    let within := fun (t : Nat) => s.tb2 ≤ t + 1000000000 * s.fld R.HEARTH_RESTARTCFG_PERIOD
    (¬ due → exec (.restartWindowEnd r f) s = .next s) ∧
    (due → s.flag R.SAFETY_TRIP_TRIPPED = false →
      (∀ a b rest, s.jobs.restart.failedAt = a :: b :: rest → within a → ∃ t, exec (.restartWindowEnd r f) s = .next t ∧
        s.Tripped t 9 r.val false) ∧
      ((∀ a rest, s.jobs.restart.failedAt = a :: rest → ¬ within a ∨ rest = []) → ∃ t,
        exec (.restartWindowEnd r f) s = .next t ∧ t.fld R.HEARTH_STATUS_RSTATE = 1 ∧ t.jobs.restart.posted = s.tb2 ∧
        t.fld R.HEARTH_STATUS_FAILED = t.jobs.restart.failedAt.length ∧ t.jobs.restart.failedAt ≠ [] ∧ t.mem = s.mem)))

/-- From R98, R633–R645: the vehicle networks. With the crier in reset they carry nothing. A link that goes down discards its
queue; a network lost or recovered is marked, is LOST or REGAINED where a C0 route's pair needs it, and both networks of such a
pair lost while serving is fatal. Frames received and sent are counted by kind, a frame that waited more than 10 ms is
discarded; CAN error counts rule the controller's state. A first good copy of a safety frame opens its pairing window; an equal
second copy accepts it, a different one rejects it, a window that ends alone is degraded, and a bad copy is counted. -/
def Obligations.VehicleNetworks : Prop :=
  (∀ (s : State), s.crierUp = false → (∀ n, exec (.networkLost n) s = .next s ∧ exec (.safetyFrameSend n) s = .next s) ∧
    (∀ m up speed, exec (.ethLinkChange m up speed) s = .next s) ∧ (∀ m k mine, exec (.ethFrameReceive m k mine) s = .next s) ∧
    (∀ c x, exec (.canTxAttempt c x) s = .next s) ∧ ∀ c remote, exec (.canFrameReceive c remote) s = .next s) ∧
  ∀ (s : State), s.crierUp = true →
    let up := fun (t : State) (f : Fld) => t.fld f = min (s.fld f + 1) (2 ^ f.w - 1)
    let lostFld := fun (n : Nat) => if n < 2 then R.ETH_M_STATUS_NET_LOST n else R.CAN_C_STATUS_NET_LOST (n - 2)
    (∀ (m : Fin 2) (speed : BitVec 3),
      (s.st ≠ stTRIPPED → ∃ t, exec (.ethLinkChange m true speed) s = .next t ∧ t.flag (R.ETH_M_STATUS_LINK m) = true ∧
        t.fld (R.ETH_M_STATUS_SPEED m) = speed.toNat ∧ t.flag (R.ETH_M_STATUS_NET_LOST m) = false ∧ t.cores = s.cores) ∧
      (s.flag (R.ETH_M_STATUS_LINK m) = false → exec (.ethLinkChange m false speed) s = .next s) ∧
      (s.flag (R.ETH_M_STATUS_LINK m) = true → ∃ t, exec (.ethLinkChange m false speed) s = .next t ∧
        t.flag (R.ETH_M_STATUS_LINK m) = false ∧ t.egress m = [] ∧ SMap.get (fun _ => 0) t.net.downAt m = s.tb2 ∧
        t.fld (R.ETH_M_TXDROP_COUNT m) = min (s.fld (R.ETH_M_TXDROP_COUNT m) + (s.egress m).length) (2 ^ 32 - 1) ∧
        t.cores = s.cores ∧ t.mem = s.mem)) ∧
    (∀ n : Fin 6,
      let gone := s.netEnabled n = true ∧ (if n.val < 2 then
          s.flag (R.ETH_M_STATUS_LINK n) = false ∧ SMap.get (fun _ => 0) s.net.downAt n + 10000000 < s.tb2
        else s.fld (R.CAN_C_STATUS_STATE (n.val - 2)) = 2 ∨ s.flag (R.CAN_C_STATUS_ALONE (n.val - 2)) = true)
      let mine := ∃ p ∈ s.c0Pairs, p.1 = n.val ∨ p.2 = n.val
      let alone := ∃ p ∈ s.c0Pairs, (p.1 = n.val ∧ s.netLost p.2 = true) ∨ (p.2 = n.val ∧ s.netLost p.1 = true)
      ((gone ↔ s.flag (lostFld n) = true) → exec (.networkLost n) s = .next s) ∧
      (s.st ≠ stTRIPPED →
      (gone → s.flag (lostFld n) = false →
        (¬ mine → exec (.networkLost n) s = .next (s.setFld (lostFld n) 1)) ∧
        (alone → s.serving = true → s.flag R.SAFETY_TRIP_TRIPPED = false → ∃ t, exec (.networkLost n) s = .next t ∧
          s.Tripped t 0x0B n.val false) ∧
        (mine → ¬ (alone ∧ s.serving = true) → ∃ t, exec (.networkLost n) s = .next t ∧ t.flag (lostFld n) = true ∧
          up t R.SAFETY_EVCNT_LOST ∧ bit t.dev.lost 3 = true ∧ t.mem = s.mem ∧
          t.st = (if s.st = stSERVING then stDEGRADED else s.st))) ∧
      (¬ gone → s.flag (lostFld n) = true →
        (¬ mine → exec (.networkLost n) s = .next (s.setFld (lostFld n) 0)) ∧
        (mine → (∀ p ∈ s.c0Pairs, (p.1 = n.val ∨ s.netLost p.1 = false) ∧ (p.2 = n.val ∨ s.netLost p.2 = false)) →
          ∃ t, exec (.networkLost n) s = .next t ∧ t.flag (lostFld n) = false ∧ bit t.dev.lost 3 = false ∧ t.mem = s.mem)))) ∧
    (∀ (m : Fin 2) (k : EthKind) (mine : Bool),
      (s.netUp m = false → exec (.ethFrameReceive m k mine) s = .next s) ∧
      (s.netUp m = true → ∃ t, exec (.ethFrameReceive m k mine) s = .next t ∧
        (k = .badFcs → up t (R.ETH_M_FCSERR_COUNT m)) ∧ (k ≠ .badFcs → up t (R.ETH_M_RXFRAMES_COUNT m)) ∧
        (k = .pause → up t (R.ETH_M_PAUSEDISC_COUNT m)) ∧
        (k = .other ∨ ((k = .gptp ∨ k = .safety) ∧ mine = false) → up t (R.ETH_M_RXDISC_COUNT m)) ∧
        ((k = .gptp ∨ k = .safety) ∧ mine = true →
          t.fld (R.ETH_M_RXDISC_COUNT m) = s.fld (R.ETH_M_RXDISC_COUNT m)) ∧ t.mem = s.mem ∧ t.cores = s.cores)) ∧
    (∀ (c : Fin 4), s.netEnabled (c.val + 2) = true →
      let tec := s.fld (R.CAN_C_STATUS_TEC c)
      let rec_ := s.fld (R.CAN_C_STATUS_REC c)
      let busOff := s.fld (R.CAN_C_STATUS_STATE c) = 2
      exec (.canFrameReceive c true) s = .next s ∧ (busOff → exec (.canFrameReceive c false) s = .next s) ∧
      (¬ busOff → ∃ t, exec (.canFrameReceive c false) s = .next t ∧ up t (R.CAN_C_RXOK_COUNT c) ∧
        t.fld (R.CAN_C_STATUS_REC c) = rec_ - 1 ∧ t.fld (R.CAN_C_STATUS_TEC c) = tec ∧ t.mem = s.mem) ∧
      (¬ busOff → ∃ t, exec (.canTxAttempt c .acked) s = .next t ∧ up t (R.CAN_C_TXOK_COUNT c) ∧
        t.flag (R.CAN_C_STATUS_ALONE c) = false ∧ t.fld (R.CAN_C_ACKRUN_COUNT c) = 0 ∧
        t.fld (R.CAN_C_STATUS_TEC c) = tec - 1 ∧
        t.fld (R.CAN_C_STATUS_STATE c) = (if 128 ≤ tec - 1 ∨ 128 ≤ rec_ then 1 else 0)) ∧
      (¬ busOff → ∃ t, exec (.canTxAttempt c .noAck) s = .next t ∧ up t (R.CAN_C_ACKRUN_COUNT c) ∧
        (128 ≤ s.fld (R.CAN_C_ACKRUN_COUNT c) + 1 → t.flag (R.CAN_C_STATUS_ALONE c) = true) ∧
        (s.fld (R.CAN_C_STATUS_STATE c) = 1 → t.fld (R.CAN_C_STATUS_TEC c) = tec)) ∧
      (¬ busOff → ∃ t, exec (.canTxAttempt c .error) s = .next t ∧
        (tec + 8 ≤ 255 → t.fld (R.CAN_C_STATUS_TEC c) = tec + 8 ∧
          t.fld (R.CAN_C_STATUS_STATE c) = (if 128 ≤ tec + 8 ∨ 128 ≤ rec_ then 1 else 0)) ∧
        (255 < tec + 8 → t.fld (R.CAN_C_STATUS_STATE c) = 2 ∧ up t (R.CAN_C_EVENTS_BUSOFF c))) ∧
      (busOff → ∃ t, exec (.canTxAttempt c .recovered) s = .next t ∧ t.fld (R.CAN_C_STATUS_STATE c) = 0 ∧
        t.fld (R.CAN_C_STATUS_TEC c) = 0 ∧ t.fld (R.CAN_C_STATUS_REC c) = 0)) ∧
    (∀ n : Fin 6,
      (s.egress n = [] → exec (.safetyFrameSend n) s = .next s) ∧
      ∀ f rest, s.egress n = f :: rest →
        (f.queued + 10000000 < s.tb2 → ∃ t, exec (.safetyFrameSend n) s = .next t ∧ t.egress n = rest ∧
          up t (if n.val < 2 then R.ETH_M_TXDROP_COUNT n else R.CAN_C_TXDROP_COUNT (n.val - 2))) ∧
        (s.tb2 ≤ f.queued + 10000000 → n.val < 2 → s.flag (R.ETH_M_STATUS_LINK n) = true → ∃ t,
          exec (.safetyFrameSend n) s = .next t ∧ t.egress n = rest ∧ up t (R.ETH_M_TXFRAMES_COUNT n)) ∧
        (s.tb2 ≤ f.queued + 10000000 → 2 ≤ n.val → s.fld (R.CAN_C_STATUS_STATE (n.val - 2)) ≠ 2 → ∃ t,
          exec (.safetyFrameSend n) s = .next t ∧ t.egress n = rest ∧ t.regs = s.regs)) ∧
    (∀ (n : Fin 6) (env : List Byte) (i side : Nat), s.verUp = true → s.netUp n = true → 24 ≤ env.length →
      s.rxStream n env = some (i, side) →
      let a := leNat ((env.drop 6).take 2)
      let good := (s.rxCheck i side env).2 = true
      let known := a ∈ SMap.get (fun _ => []) s.net.decided i
      (∃ t, exec (.safetyFrameReceive n env false) s = .next t ∧ up t (R.ETH_S_STAT_BADCOPY i) ∧ t.net = s.net) ∧
      (¬ good → ∃ t, exec (.safetyFrameReceive n env true) s = .next t ∧ up t (R.ETH_S_STAT_BADCOPY i) ∧
        t.net.wins = s.net.wins) ∧
      (good → (∀ w ∈ s.net.wins, w.stream = i → s.winOver w = false) →
        (known → ∃ t, exec (.safetyFrameReceive n env true) s = .next t ∧ up t (R.ETH_S_STAT_LATECOPY i)) ∧
        (¬ known → (∀ w ∈ s.net.wins, w.stream ≠ i) → ∃ t, exec (.safetyFrameReceive n env true) s = .next t ∧
          t.net.wins = s.net.wins ++ [⟨i, a, side, env, s.tb2⟩] ∧ t.mem = s.mem) ∧
        (¬ known → ∀ w, s.net.wins = [w] → w.stream = i → w.alive = a → w.side ≠ side →
          let at_ := s.fld (R.ETH_S_RING_BASE i) * 4096 + s.fld (R.ETH_S_RING_WIDX i) * 512
          ∃ t, exec (.safetyFrameReceive n env true) s = .next t ∧ t.net.wins = [] ∧
            t.fld (R.ETH_S_RING_WIDX i) = (if s.fld (R.ETH_S_RING_WIDX i) + 1 < s.fld (R.ETH_S_RING_ENTRIES i) then
              s.fld (R.ETH_S_RING_WIDX i) + 1 else 0) ∧
            (w.bytes = env → up t (R.ETH_S_STAT_ACCEPTED i)) ∧ (w.bytes ≠ env → up t (R.ETH_S_STAT_REJECTED i)) ∧
            (s.Plain 0 true at_ → ∀ j, j < w.bytes.length → t.byte (at_ + 32 + j) = w.bytes.getD j 0)))) ∧
    (∀ (i : Fin 16) (alive : BitVec 16),
      ((∀ w ∈ s.net.wins, ¬ (w.stream = i.val ∧ w.alive = alive.toNat)) →
        exec (.pairingWindowEnd i alive) s = .next s) ∧
      ∀ w, s.net.wins.find? (fun w => w.stream == i.val && w.alive == alive.toNat) = some w →
        (s.tb2 < w.opened + s.fld (R.ETH_S_CFG_WINDOW i) * 1000 → exec (.pairingWindowEnd i alive) s = .next s) ∧
        (w.opened + s.fld (R.ETH_S_CFG_WINDOW i) * 1000 ≤ s.tb2 → ∃ t, exec (.pairingWindowEnd i alive) s = .next t ∧
          w ∉ t.net.wins ∧ up t (R.ETH_S_STAT_DEGRADED i)))

/-- From R614–R632: the Sundial. An accepted Sync steers a locked base by its offset and steps an unlocked one once; a two-step
Sync waits for its Follow_Up; the best Announce chooses the slave port, and on TB1 this device where its own vector is best; a
receipt timeout is a holdover. RATE slews to SETPT, a delay exchange gives the link delay, a forwarded Follow_Up needs its sum,
a capture takes every base named at once, and an armed output gives its pulses from START on. -/
def Obligations.Sundial : Prop :=
  ∀ (s : State),
    let clamp := fun (x : Int) => max (-500000000) (min 500000000 x)
    let port := fun (b : Nat) => s.fld (R.SUNDIAL_TB_STATUS_PORT b)
    let locked := fun (b : Nat) => s.flag (R.SUNDIAL_TB_STATUS_LOCKED b) = true
    let holds := fun (b : Nat) => s.flag (R.SUNDIAL_TB_STATUS_HOLDOVER b) = true
    let accepted := fun (t : State) (p : Nat) (y : SyncMsg) (base : Nat) =>
      let b := gptpBase p
      let o : Int := base - (y.time + s.ingressNs p)
      let i := clamp ((if holds b then s.rate b else s.servoI b) - s.fld R.SUNDIAL_SERVO_KI * o)
      t.flag (R.SUNDIAL_TB_STATUS_SYNCED b) = true ∧ t.fld (R.SUNDIAL_TB_GMID_ID b) = y.gm.toNat ∧
      (locked b → t.fld (R.SUNDIAL_TB_SETPT_SETPT b) = i32 (clamp (i - s.fld R.SUNDIAL_SERVO_KP * o)) ∧ t.servoI b = i ∧
        t.fld (R.SUNDIAL_TB_OFFSET_NS b) = (o % 2 ^ 64).toNat ∧ t.flag (R.SUNDIAL_TB_STATUS_HOLDOVER b) = false ∧
        t.tbNs b = s.tbNs b ∧ t.rate b = s.rate b ∧
        (1000000 < o.natAbs → t.flag (R.SUNDIAL_TB_STATUS_OFFSET_LARGE b) = true) ∧
        (o.natAbs < 1000 → t.flag (R.SUNDIAL_TB_STATUS_OFFSET_LARGE b) = false))
    (∀ (p : Fin 6) (y : SyncMsg),
      let b := gptpBase p
      let waits := fun (w : Nat × Nat × Nat × Nat) => w.1 == p.val && w.2.1 == y.seq.toNat
      (s.syncOk p y = false → exec (.gptpSync p y) s = .next s ∧ exec (.gptpFollowUp p y) s = .next s) ∧
      (s.syncOk p y = true →
        (y.twoStep = true → ∃ t, exec (.gptpSync p y) s = .next t ∧ t.regs = s.regs ∧ t.sun.tb = s.sun.tb ∧
          (p.val, y.seq.toNat, s.tb2, s.tbNs b) ∈ t.sun.twoStep) ∧
        (y.twoStep = false → ∃ t, exec (.gptpSync p y) s = .next t ∧ accepted t p y (s.tbNs b) ∧
          (¬ locked b → 1 ≤ SMap.get (fun _ => 0) s.sun.syncs b → 3 ≤ SMap.get (fun _ => 0) s.sun.conv p →
            t.flag (R.SUNDIAL_TB_STATUS_LOCKED b) = true ∧ t.tbNs b = (y.time + s.ingressNs p).toNat ∧
            t.fld (R.SUNDIAL_TB_RATE_RATE b) = i32 (clamp y.ratio) ∧
            t.fld (R.SUNDIAL_TB_SETPT_SETPT b) = i32 (clamp y.ratio)) ∧
          (¬ locked b → SMap.get (fun _ => 0) s.sun.syncs b = 0 →
            t.flag (R.SUNDIAL_TB_STATUS_LOCKED b) = false ∧ t.tbNs b = s.tbNs b)) ∧
        (s.sun.twoStep.find? waits = none → exec (.gptpFollowUp p y) s = .next s) ∧
        ∀ w, s.sun.twoStep.find? waits = some w → ∃ t, exec (.gptpFollowUp p y) s = .next t ∧
          accepted t p y w.2.2.2 ∧ w ∉ t.sun.twoStep)) ∧
    (∀ (p : Fin 6) (a : AnnMsg),
      let b := gptpBase p
      let takes := s.gptpUp p = true ∧ a.domain.toNat = s.gptpDomain b
      (¬ takes → exec (.gptpAnnounce p a) s = .next s) ∧
      (takes → ∃ t, exec (.gptpAnnounce p a) s = .next t ∧ t.annOf p = some (a.vec.toNat, a.gm.toNat) ∧
        (p.val < 2 → (∀ e, s.annOf (1 - p.val) = some e → a.vec.toNat < e.1) →
          t.fld (R.SUNDIAL_TB_STATUS_PORT 0) = p.val ∧ t.flag (R.SUNDIAL_TB_STATUS_GM 0) = false) ∧
        (2 ≤ p.val → s.ownVec ≤ a.vec.toNat →
          (∀ q e, 2 ≤ q → q < 6 → q ≠ p.val → s.annOf q = some e → s.ownVec ≤ e.1) →
          t.flag (R.SUNDIAL_TB_STATUS_GM 1) = true ∧
          (s.flag (R.SUNDIAL_TB_STATUS_GM 1) = false → t.fld (R.SUNDIAL_TB_STATUS_PORT 1) = 7 ∧
            t.flag (R.SUNDIAL_TB_STATUS_LOCKED 1) = true ∧ (¬ locked 1 → t.tbNs 1 = s.tb2))))) ∧
    (∀ (p : Fin 6),
      (p.val < 2 → s.gptpUp p = true → ∃ t, exec (.gptpMessageInterval p) s = .next t ∧
        t.fld (R.ETH_M_TXFRAMES_COUNT p) = min (s.fld (R.ETH_M_TXFRAMES_COUNT p) + 1) (2 ^ 64 - 1) ∧ t.sun = s.sun) ∧
      (2 ≤ p.val ∨ s.gptpUp p = false → exec (.gptpMessageInterval p) s = .next s) ∧
      ∀ (turn : Int) (ok : Bool),
        (s.gptpUp p = false → exec (.pdelayExchange p turn ok) s = .next s) ∧
        (s.gptpUp p = true → ∃ t, exec (.pdelayExchange p turn ok) s = .next t ∧
          t.fld (R.SUNDIAL_PORT_LINKDELAY_DELAY p) = i32 ((turn - sgn32 (s.fld (R.SUNDIAL_PORT_INGLAT_INGLAT p)) -
            sgn32 (s.fld (R.SUNDIAL_PORT_EGRLAT_EGRLAT p))) / 2) ∧
          SMap.get (fun _ => 0) t.sun.conv p = (if ok then min 3 (SMap.get (fun _ => 0) s.sun.conv p + 1) else 0))) ∧
    (s.verUp = true → ∃ t, exec .servoTick s = .next t ∧ t.sun = s.sun ∧ ∀ b, b < 2 →
      let lim : Int := s.fld R.SUNDIAL_SLEW_SLEW * 1000
      t.fld (R.SUNDIAL_TB_RATE_RATE b) = (if locked b ∧ ¬ holds b then
        i32 (s.rate b + min (max (s.setpt b - s.rate b) (-lim)) lim) else s.fld (R.SUNDIAL_TB_RATE_RATE b))) ∧
    (∀ (n : Fin 2), s.verUp = true →
      (s.flag (R.SUNDIAL_TB_STATUS_GM n) = true → exec (.holdover n) s = .next s) ∧
      (s.flag (R.SUNDIAL_TB_STATUS_GM n) = false → ∃ t, exec (.holdover n) s = .next t ∧
        t.flag (R.SUNDIAL_TB_STATUS_SYNCED n) = false ∧
        (locked n → ¬ holds n → t.flag (R.SUNDIAL_TB_STATUS_HOLDOVER n) = true ∧
          SMap.get (fun _ => 0) t.sun.holdAt n = s.tb2 ∧
          t.fld (R.SUNDIAL_TB_SETPT_SETPT n) = s.fld (R.SUNDIAL_TB_RATE_RATE n)) ∧
        (n.val = 0 → port 0 < 2 → s.annOf (1 - port 0) = none → s.gptpUp (1 - port 0) = true →
          t.fld (R.SUNDIAL_TB_STATUS_PORT 0) = 1 - port 0))) ∧
    (∀ (i o : Fin 4) (seq : BitVec 16) (res : Nat),
      let l := SMap.get (fun _ => []) s.sun.fwd o
      let passes := s.gptpUp (i.val + 2) = true ∧ s.gptpUp (o.val + 2) = true ∧ i ≠ o
      (∀ kind, ¬ passes ∨ kind = 0 → exec (.syncForward i o seq kind res) s = .next s) ∧
      (passes →
        (∃ t sum, exec (.syncForward i o seq 1 res) s = .next t ∧ t.regs = s.regs ∧
          (seq.toNat, sum) ∈ SMap.get (fun _ => []) t.sun.fwd o ∧ (SMap.get (fun _ => []) t.sun.fwd o).length ≤ 16) ∧
        ((∃ sum, (seq.toNat, sum) ∈ l) → ∃ t, exec (.syncForward i o seq 2 res) s = .next t ∧ t.regs = s.regs ∧
          SMap.get (fun _ => []) t.sun.fwd o = l.filter (fun e => e.1 ≠ seq.toNat)) ∧
        ((∀ e ∈ l, e.1 ≠ seq.toNat) → ∃ t, exec (.syncForward i o seq 2 res) s = .next t ∧ t.sun = s.sun ∧
          t.fld (R.NIM_PORT_ERR_FUNOSUM o) = min (s.fld (R.NIM_PORT_ERR_FUNOSUM o) + 1) (2 ^ 16 - 1)))) ∧
    (∀ (k : Fin 4),
      let base := s.fld (R.SUNDIAL_TPO_CTRL_BASE k)
      let armed := s.flag (R.SUNDIAL_TPO_CTRL_ARM k) = true
      let fires := s.verUp = true ∧ armed ∧ s.baseRuns base = true ∧ s.tpoNext k ≠ 0 ∧ s.tpoNext k ≤ s.baseNs base + 1
      (¬ fires → exec (.tpoPulse k) s = .next s) ∧
      (fires → ∃ t, exec (.tpoPulse k) s = .next t ∧ bit t.pins.tpo k = true ∧ t.sun.tb = s.sun.tb ∧
        t.fld (R.SUNDIAL_TPO_COUNT_COUNT k) = min (s.fld (R.SUNDIAL_TPO_COUNT_COUNT k) + 1) (2 ^ 32 - 1) ∧
        (s.tpoPeriod k = 0 → t.flag (R.SUNDIAL_TPO_CTRL_ARM k) = false ∧ t.tpoNext k = 0) ∧
        (s.tpoPeriod k ≠ 0 → t.flag (R.SUNDIAL_TPO_CTRL_ARM k) = true)) ∧
      (s.st ≠ stTRIPPED → ∀ (n u : Nat) (v : BitVec 32),
        let b := v.toNat / 2 ^ 28 % 4
        (v.getLsbD 31 = false → ∃ t, exec (.tpoArm (.core n u .m) k v) s = .next t ∧ t.tpoNext k = 0 ∧
          t.flag (R.SUNDIAL_TPO_CTRL_ARM k) = false) ∧
        (v.getLsbD 31 = true → ¬ armed → b = 1 → s.hasNim = false → exec (.tpoArm (.core n u .m) k v) s = .next s) ∧
        (v.getLsbD 31 = true → ¬ armed → b ≠ 1 ∨ s.hasNim = true → ∃ t,
          exec (.tpoArm (.core n u .m) k v) s = .next t ∧ t.flag (R.SUNDIAL_TPO_CTRL_ARM k) = true ∧
          t.fld (R.SUNDIAL_TPO_CTRL_BASE k) = b ∧ t.fld (R.SUNDIAL_TPO_CTRL_WIDTH k) = v.toNat % 2 ^ 28 ∧
          (s.baseRuns b = false ∨ s.baseNs b ≤ s.tpoStart k → t.tpoNext k = s.tpoStart k + 1) ∧
          (s.baseRuns b = true → s.tpoStart k < s.baseNs b → s.fld (R.SUNDIAL_TPO_PERIOD_PERIOD k) = 0 → t.tpoNext k = 0)) ∧
        (v.getLsbD 31 = true → armed → ∃ t, exec (.tpoArm (.core n u .m) k v) s = .next t ∧ t.tpoNext k = s.tpoNext k ∧
          t.fld (R.SUNDIAL_TPO_CTRL_BASE k) = base ∧ t.flag (R.SUNDIAL_TPO_CTRL_ARM k) = true ∧
          t.fld (R.SUNDIAL_TPO_CTRL_WIDTH k) = s.fld (R.SUNDIAL_TPO_CTRL_WIDTH k) ∧
          (v.getLsbD 30 = true → t.flag (R.SUNDIAL_TPO_CTRL_PASSED k) = false)))) ∧
    (s.st ≠ stTRIPPED → ∀ (n u : Nat) (v : BitVec 32), ∃ t, exec (.snap (.core n u .m) v) s = .next t ∧ t.sun = s.sun ∧
      ∀ b, b < 4 →
        (v.getLsbD b = true → b ≠ 1 ∨ s.hasNim = true →
          t.fld (R.SUNDIAL_TB_SNAPSEC_SEC b) = s.baseNs b / 1000000000 % 2 ^ 48 ∧
          t.fld (R.SUNDIAL_TB_SNAPNS_NS b) = s.baseNs b % 1000000000) ∧
        (v.getLsbD b = false → t.fld (R.SUNDIAL_TB_SNAPSEC_SEC b) = s.fld (R.SUNDIAL_TB_SNAPSEC_SEC b) ∧
          t.fld (R.SUNDIAL_TB_SNAPNS_NS b) = s.fld (R.SUNDIAL_TB_SNAPNS_NS b)))

/-- From R647, R651, R652, R655, R656, R659, R669, R673, R678, R699, R700: the Nimlink ports. A trained link agrees on a version
or stops, with a random source an authenticated peer of the member table brings the port UP with a fresh key and the fourth time
within 1 s holds it down, a step that takes too long sends it back to training, a link that goes down counts its dropped
packets, a failing lane leaves the other one with version 3 and ends the link below it, the eighth replay ends it too, and a
transit packet only moves bytes. From R561, R654, R664–R668, R673, R676, R681–R683: the roll call and the duplicated routes. A
higher epoch is joined, a report and an agreement are kept, the map is committed once every member agrees and started anew when
one does not, a device without peers commits itself, and a peer's trip makes it depart. A CLAIM closes the standby's frame, or
counts as late; the standby that hears none commits its own record; a HAND_BACK names the first frame of the readmitted primary.
-/
def Obligations.NimlinkAndRollCall : Prop :=
  (∀ (p : Fin 4) (s : State),
     let st := s.fld (R.NIM_PORT_STATUS_STATE p)
     let up := fun (t : State) (f : Fld) (n : Nat) => t.fld f = min (s.fld f + n) (2 ^ f.w - 1)
     let key := fun (t : State) => SMap.get (fun _ => 0) t.nim.keys p
     let same := fun (t : State) => t.mem = s.mem ∧ t.cores = s.cores ∧ t.pins = s.pins
     (s.nimOn = false → (∀ m, exec (.nimLinkTrained p m) s = .next s) ∧ (∀ ok i d q, exec (.nimSessionInstalled p ok i d q) s = .next s) ∧
       exec (.nimStepTimeout p) s = .next s ∧ (∀ n, exec (.nimLinkDown p n) s = .next s) ∧ exec (.nimLaneFail p) s = .next s ∧
       (∀ q n, exec (.nimPacketForward p q n) s = .next s) ∧ (∀ n, exec (.nimPacketReplay p n) s = .next s) ∧
       exec (.nimRekey p) s = .next s) ∧
     (s.nimOn = true →
       (∀ mask : BitVec 4,
         let lv := if mask.getLsbD 3 then 3 else if mask.getLsbD 2 then 2 else if mask.getLsbD 1 then 1 else 0
         (st ≠ 0 → st ≠ 1 → exec (.nimLinkTrained p mask) s = .next s) ∧
         (st = 0 ∨ st = 1 → ∃ t, exec (.nimLinkTrained p mask) s = .next t ∧ t.fld (R.NIM_PORT_STATUS_LV p) = lv ∧
           t.flag (R.NIM_PORT_STATUS_LANES1 p) = false ∧ t.nim = s.nim ∧ t.mem = s.mem ∧ t.cores = s.cores ∧
           t.fld (R.NIM_PORT_STATUS_STATE p) = (if lv = 0 then 4 else if lv < s.fld R.NIM_CFG_MINVER then 5 else 2))) ∧
       (∀ (ok : Bool) (id : BitVec 64) (dev : Fin 16) (port : Fin 4),
         let known := ok = true ∧ id ≠ 0 ∧ ∃ d, d < 16 ∧ s.fld (R.NIM_MEMBER_ID_ID d) = id.toNat
         let recent := (SMap.get (fun _ => []) s.nim.ups p).filter (fun t => s.tb2 < t + 1000000000)
         let ready := st = 2 ∧ s.sessionReady = true
         (¬ ready → exec (.nimSessionInstalled p ok id dev port) s = .next s) ∧
         (ready → ¬ known → ∃ t, exec (.nimSessionInstalled p ok id dev port) s = .next t ∧
           t.fld (R.NIM_PORT_STATUS_STATE p) = 6 ∧ t.nim = s.nim ∧ same t) ∧
         (ready → known → 3 ≤ recent.length → ∃ t, exec (.nimSessionInstalled p ok id dev port) s = .next t ∧
           t.fld (R.NIM_PORT_STATUS_STATE p) = 7 ∧ key t = key s + 1 ∧ up t (R.NIM_PORT_ERR_FLAPS p) 1 ∧ same t) ∧
         (ready → known → recent.length < 3 → ∃ t, exec (.nimSessionInstalled p ok id dev port) s = .next t ∧
           t.fld (R.NIM_PORT_STATUS_STATE p) = 3 ∧ key t = key s + 1 ∧ t.fld (R.NIM_PORT_PEERID_ID p) = id.toNat ∧
           t.fld (R.NIM_PORT_STATUS_PEERDEV p) = dev.val ∧ t.fld (R.NIM_PORT_STATUS_PEERPORT p) = port.val ∧
           t.nim.epoch = (s.nim.epoch.1 + 1, ownRoll))) ∧
       (2 < st → exec (.nimStepTimeout p) s = .next s) ∧
       (st ≤ 2 → ∃ t, exec (.nimStepTimeout p) s = .next t ∧ t.fld (R.NIM_PORT_STATUS_STATE p) = 1 ∧
         up t (R.NIM_PORT_ERR_FLAPS p) 1 ∧ t.nim = s.nim ∧ same t) ∧
       (∀ n : BitVec 16, (st = 0 → exec (.nimLinkDown p n) s = .next s) ∧
         (st ≠ 0 → ∃ t, exec (.nimLinkDown p n) s = .next t ∧ t.fld (R.NIM_PORT_STATUS_STATE p) = 0 ∧
           t.fld (R.NIM_PORT_PEERID_ID p) = 0 ∧ up t (R.NIM_PORT_ERR_DROPPED p) n.toNat ∧
           (st ≠ 3 ∨ s.flag (R.NIM_PORT_STATUS_INRING p) = false → t.nim = s.nim ∧ same t) ∧
           (st = 3 → s.flag (R.NIM_PORT_STATUS_INRING p) = true → t.nim.epoch = (s.nim.epoch.1 + 1, ownRoll)))) ∧
       (let one := st = 3 ∧ s.fld (R.NIM_PORT_STATUS_LV p) = 3 ∧ s.flag (R.NIM_PORT_STATUS_LANES1 p) = false
        (st = 0 → exec (.nimLaneFail p) s = .next s) ∧
        (one → ∃ t, exec (.nimLaneFail p) s = .next t ∧ t.flag (R.NIM_PORT_STATUS_LANES1 p) = true ∧
           t.fld (R.NIM_PORT_STATUS_STATE p) = 3 ∧ t.fld R.NIM_FLOOR_BULK = (if s.flag R.NIM_CFG_TOPO then 1500 else 350) ∧
           t.nim = s.nim ∧ same t) ∧
        (¬ one → st ≠ 0 → ∃ t, exec (.nimLaneFail p) s = .next t ∧ t.fld (R.NIM_PORT_STATUS_STATE p) = 0)) ∧
       (∀ (q : Fin 4) (n : Nat),
         let passes := st = 3 ∧ s.fld (R.NIM_PORT_STATUS_STATE q) = 3 ∧ p ≠ q
         (¬ passes → exec (.nimPacketForward p q n) s = .next s) ∧
         (passes → ∃ t, exec (.nimPacketForward p q n) s = .next t ∧ up t (R.NIM_PORT_RXBYTES_COUNT p) n ∧
           up t (R.NIM_PORT_TXBYTES_COUNT q) n ∧ t.nim = s.nim ∧ same t)) ∧
       (∀ n : Nat, (st ≠ 3 → exec (.nimPacketReplay p n) s = .next s) ∧
         (st = 3 → ∃ t, exec (.nimPacketReplay p n) s = .next t ∧ up t (R.NIM_PORT_ERR_REPLAY p) (min n 8) ∧
           t.fld (R.NIM_PORT_STATUS_STATE p) = (if 8 ≤ n then 0 else 3))) ∧
       (st ≠ 3 → exec (.nimRekey p) s = .next s) ∧
       (st = 3 → ∃ t, exec (.nimRekey p) s = .next t ∧ key t = key s + 1 ∧ t.regs = s.regs ∧ same t)) ∧
     (let due := st = 7 ∧ ((SMap.get (fun _ => []) s.nim.ups p).getLastD 0) + 1000000000 ≤ s.tb2
      (¬ due → exec (.nimPortHoldEnd p) s = .next s) ∧
      (due → ∃ t, exec (.nimPortHoldEnd p) s = .next t ∧ t.fld (R.NIM_PORT_STATUS_STATE p) = 0 ∧
         SMap.get (fun _ => []) t.nim.ups p = [] ∧ same t))) ∧
  ((∀ (s : State) (num : BitVec 16) (id : BitVec 64),
     let higher := s.nim.epoch.1 < num.toNat ∨ (s.nim.epoch.1 = num.toNat ∧ s.nim.epoch.2 < id.toNat)
     let here := s.nim.epoch = (num.toNat, id.toNat) ∧ s.fld R.NIM_STATUS_STATE = 1
     let committed := fun (t : State) (l : List NimReport) => t.nim.map = s.mapOf l ∧
       t.fld R.NIM_STATUS_STATE = (if l.any (s.excluded l) then 4 else 2) ∧ t.fld R.NIM_STATUS_RESTARTS = 0 ∧
       ∀ d, d < 16 → t.flag (R.NIM_MEMBER_STATE_PRESENT d) = (s.mapOf l).any (fun r => r.self.val == d)
     (s.rollHears = false → exec (.rollStart num id) s = .next s ∧ (∀ r, exec (.rollReport num id r) s = .next s) ∧
       (∀ src dg, exec (.agree num id src dg) s = .next s) ∧ ∀ d, exec (.tripNotice d) s = .next s) ∧
     (s.rollHears = true →
       (¬ higher → exec (.rollStart num id) s = .next s) ∧
       (higher → ∃ t, exec (.rollStart num id) s = .next t ∧ t.nim.epoch = (num.toNat, id.toNat) ∧
         t.fld R.NIM_STATUS_ROLLNUM = num.toNat ∧ t.nim.reports = [s.ownReport] ∧
         ((∃ q, q < 4 ∧ s.fld (R.NIM_PORT_STATUS_STATE q) = 3 ∧ s.fld (R.NIM_PORT_PEERID_ID q) ≠ 0 ∧
             s.fld (R.NIM_PORT_PEERID_ID q) ≠ ownRoll) → t.fld R.NIM_STATUS_STATE = 1 ∧ t.nim.agrees = [] ∧ t.mem = s.mem)) ∧
       (∀ r : NimReport,
         let l := s.nim.reports.filter (fun q => q.id ≠ r.id) ++ [r]
         (¬ higher → ¬ here → exec (.rollReport num id r) s = .next s) ∧
         (¬ higher → here → r.id.toNat ≠ ownRoll → allReported l = false →
           exec (.rollReport num id r) s = .next { s with nim := { s.nim with reports := l } }) ∧
         (¬ higher → here → r.id.toNat ≠ ownRoll → allReported l = true →
           (∀ a ∈ s.nim.agrees, a.1 = ownRoll ∨ a.2 = digestOf (s.mapOf l)) →
           (∀ q ∈ s.mapOf l, q.id.toNat = ownRoll ∨ ∃ a ∈ s.nim.agrees, a.1 = q.id.toNat) →
           ∃ t, exec (.rollReport num id r) s = .next t ∧ committed t l)) ∧
       (∀ (src : BitVec 64) (dg : List Byte), src.toNat ≠ ownRoll → ¬ higher → here →
         let l := s.nim.reports
         let ag := s.nim.agrees.filter (fun a => a.1 ≠ src.toNat) ++ [(src.toNat, dg)]
         (allReported l = false →
           exec (.agree num id src dg) s = .next { s with nim := { s.nim with agrees := ag } }) ∧
         (allReported l = true → (∀ a ∈ ag, a.1 = ownRoll ∨ a.2 = digestOf (s.mapOf l)) →
           (∀ q ∈ s.mapOf l, q.id.toNat = ownRoll ∨ ∃ a ∈ ag, a.1 = q.id.toNat) →
           ∃ t, exec (.agree num id src dg) s = .next t ∧ committed t l) ∧
         (allReported l = true → dg ≠ digestOf (s.mapOf l) → ∃ t, exec (.agree num id src dg) s = .next t ∧
           t.nim.epoch = (s.nim.epoch.1 + 1, ownRoll) ∧ t.nim.reports = [s.ownReport])) ∧
       (∀ d : Fin 16,
         let heard := d.val = s.fld R.NIM_CFG_SELF ∨ s.flag (R.NIM_MEMBER_STATE_TRIPPED d) = true
         (heard ∨ s.nimHears = false → exec (.tripNotice d) s = .next s) ∧
         (¬ heard → s.nimHears = true → ∃ t, exec (.tripNotice d) s = .next t ∧ t.flag (R.NIM_MEMBER_STATE_TRIPPED d) = true ∧
           t.departed d = true))) ∧
     (let lone := s.nimOn = true ∧ s.nim.enabledAt + 200000000 ≤ s.tb2 ∧ ∀ p, p < 4 →
         (s.fld (R.NIM_PORT_STATUS_STATE p) = 0 ∨ s.fld (R.NIM_PORT_STATUS_STATE p) = 1) ∧
           SMap.get (fun _ => []) s.nim.ups p = []
      (¬ lone → exec .noPeer s = .next s) ∧
      (lone → ∃ t, exec .noPeer s = .next t ∧ t.nim.map = [s.ownReport] ∧ t.fld R.NIM_STATUS_STATE = 3 ∧
         t.fld R.NIM_STATUS_PRESENT = 2 ^ s.fld R.NIM_CFG_SELF))) ∧
   (∀ (r : Fin 64) (s : State) (f : BitVec 32) (sq : BitVec 16) (crc : BitVec 32), s.nimHears = true →
     let back := fun (t : State) => SMap.get (fun _ => 0) t.nim.back r
     let past := s.fld (R.NIM_DUP_LASTCLAIM r) < f.toNat ∧ f.toNat ≤ s.fld (R.VERD_RSTAT_FRAME r) ∧
       s.fld (R.VERD_RSTAT_STATUS r) ≠ 0
     (s.dupStandby r = false → exec (.claim r f sq crc) s = .next s) ∧
     (s.dupStandby r = true → past → ∃ t, exec (.claim r f sq crc) s = .next t ∧
       t.fld (R.NIM_DUP_LATECLAIM r) = min (s.fld (R.NIM_DUP_LATECLAIM r) + 1) (2 ^ 16 - 1) ∧ t.jobs = s.jobs) ∧
     (s.dupStandby r = true → ¬ past → ∃ t, exec (.claim r f sq crc) s = .next t ∧ t.openFrame r f.toNat = none ∧
       (t.routeSt r).seq = (sq.toNat + 1) % 2 ^ 16 ∧ t.fld (R.NIM_DUP_LASTCLAIM r) = f.toNat ∧ t.mem = s.mem ∧
       t.fld (R.VERD_RSTAT_STATUS r) = s.fld (R.VERD_RSTAT_STATUS r)) ∧
     (s.dupStandby r = true → s.flag (R.NIM_DUP_ACTIVE r) = true → s.departed (s.fld (R.NIM_DUP_PRIMARY r)) = false →
       ∃ t, exec (.handBack r f sq) s = .next t ∧ back t = f.toNat + 1 ∧ t.regs = s.regs ∧ t.jobs = s.jobs) ∧
     (s.dupPrimary r = true → ∃ t, exec (.handBack r f sq) s = .next t ∧ back t = f.toNat + 1 ∧
       (t.routeSt r).seq = sq.toNat ∧ t.regs = s.regs) ∧
     (s.dupStandby r = false → s.dupPrimary r = false → exec (.handBack r f sq) s = .next s)) ∧
   (∀ (r : Fin 64) (f : Nat) (s : State) (rc : RouteCfg) (fr : OpenFrame), s.route r = some rc → s.openFrame r f = some fr →
     let due := s.dupStandby r = true ∧ s.serving = true ∧ fr.start + 1000 * rc.deadline ≤ s.tb2 + 180000 ∧
       (s.handedAt r = 0 ∨ f + 1 < s.handedAt r)
     (¬ due → exec (.standbyCommit r f) s = .next s) ∧
     (due → ∃ t, exec (.standbyCommit r f) s = .next t ∧ t.flag (R.NIM_DUP_ACTIVE r) = true ∧ t.openFrame r f = none ∧
       t.job r f = none ∧ (rc.cls = 0 → t.fld (R.VERD_RSTAT_FRAME r) = f % 2 ^ 32 ∧ t.fld (R.VERD_RSTAT_STATUS r) ≠ 0))))

/-- From R160, R162, R173, R456, R661–R663, R672, R675: a request from another device over Nimlink. It is served by the class it
carries only for a device of the map, of this tenant, and of the present DEV_EPOCH; a write of the control window, and a request
of another tenant's device, which is also logged, meet FENCE, and an offset of nothing here an address-decode error. -/
def Obligations.RemoteRequests : Prop :=
  ∀ (q : RemoteReq) (s : State),
    let served := s.nimOn = true ∧ s.st ≠ stTRIPPED ∧ s.flag (R.NIM_MEMBER_STATE_PRESENT q.dev) = true
    let answer := fun (t : State) (st : MStat) (l : List Byte) => t.nim.reply = some (st, l)
    (¬ served → exec (.remoteRequest q) s = .next s) ∧
    (served →
      (q.epoch.toNat ≠ s.fld R.DEVICE_STATE_DEV_EPOCH →
        exec (.remoteRequest q) s = .next { s with nim := { s.nim with reply := some (.epochChanged, []) } }) ∧
      (q.epoch.toNat = s.fld R.DEVICE_STATE_DEV_EPOCH → q.tenant = false → ∃ t, exec (.remoteRequest q) s = .next t ∧
        answer t .fence [] ∧ t.mem = s.mem ∧ t.flag R.BELL_XLOG_VALID = true ∧
        (s.flag R.BELL_XLOG_VALID = false → t.flag R.BELL_XLOG_TENANT = true ∧ t.fld R.BELL_XLOG_SRCDEV = q.dev.val)) ∧
      (q.epoch.toNat = s.fld R.DEVICE_STATE_DEV_EPOCH → q.tenant = true →
        (viewLocal q.off.toNat = none →
          exec (.remoteRequest q) s = .next { s with nim := { s.nim with reply := some (.addrDecode, []) } }) ∧
        ∀ l, viewLocal q.off.toNat = some l →
          (∀ off, locLocal s l = .ctl off → q.write = true →
            exec (.remoteRequest q) s = .next { s with nim := { s.nim with reply := some (.fence, []) } }) ∧
          (∀ pa, locLocal s l = .mem pa → s.Plain q.cls q.write pa →
            (q.write = false → 0 < q.len → exec (.remoteRequest q) s =
              .next { s with nim := { s.nim with reply := some (.ok, s.bytes pa q.len) } }) ∧
            (q.write = true → q.data ≠ [] → ∃ t, exec (.remoteRequest q) s = .next t ∧ answer t .ok [] ∧
              (∀ j, j < q.data.length → t.byte (pa + j) = q.data.getD j 0) ∧ t.regs = s.regs ∧
              ∀ a, a < pa ∨ pa + q.data.length ≤ a → t.byte a = s.byte a))))

/-- From R118, R691–R697, R707–R709: the Keep's random source and its SPDM responder. A seed makes the source ready and, with no
key present and no scrub going on, the DRAM keys; a health failure stops it, and 10 ms later RNG_FAIL is set; reseeding is
counted. The responder is silent while it is not up, walks through the negotiation in its order, measures, opens at most four
sessions, ends them, and holds the IDE keys of a session; a request out of order or outside a session is an error. -/
def Obligations.KeepAndResponder : Prop :=
  (∀ (s : State), s.keepUp = true →
    (∃ t, exec .rngSeed s = .next t ∧ t.keep.rng = true ∧ t.flag R.KEEP_STATUS_RNG_READY = true ∧
      t.keep.seeded = true ∧ (s.st ≠ stREADY → t.keep.reqs = 0) ∧
      (s.st = stBOOT → t.fld R.DEVICE_BOOTSTAT_STEP = max 5 (s.fld R.DEVICE_BOOTSTAT_STEP)) ∧
      t.keep.seedAt = s.tb2 ∧ t.keep.failAt = none ∧ t.mem = s.mem ∧
      t.fld R.KEEP_STATUS_KEYSLOTS = (if s.fld R.KEEP_STATUS_KEYSLOTS = 0 ∧ s.flag R.KEEP_STATUS_SCRUBBING = false then 15
        else s.fld R.KEEP_STATUS_KEYSLOTS)) ∧
    (∀ apt : Bool, let f := if apt then R.KEEP_RNGSTAT_APT_FAIL else R.KEEP_RNGSTAT_RCT_FAIL
      ∃ t, exec (.rngHealthFail apt) s = .next t ∧ t.keep.rng = false ∧ t.keep.failAt = some (s.keep.failAt.getD s.tb2) ∧
        t.fld f = min (s.fld f + 1) (2 ^ 16 - 1) ∧ t.fld R.KEEP_STATUS_KEYSLOTS = s.fld R.KEEP_STATUS_KEYSLOTS) ∧
    (let due := ∃ t, s.keep.failAt = some t ∧ t + 10000000 ≤ s.tb2
     (due → ∃ t, exec .rngFailTimeout s = .next t ∧ t.flag R.KEEP_STATUS_RNG_FAIL = true ∧ t.keep = s.keep) ∧
     (¬ due → exec .rngFailTimeout s = .next s)) ∧
    (let due := s.keep.rng = true ∧ (2 ^ 20 ≤ s.keep.reqs ∨ s.keep.seedAt + 1000000000 ≤ s.tb2)
     (due → ∃ t, exec .drbgReseed s = .next t ∧ t.keep.reqs = 0 ∧ t.keep.seedAt = s.tb2 ∧
       t.fld R.KEEP_RNGSTAT_RESEEDS = (s.fld R.KEEP_RNGSTAT_RESEEDS + 1) % 2 ^ 16) ∧
     (¬ due → exec .drbgReseed s = .next s))) ∧
  (∀ (p : Fin 2) (sid : BitVec 32) (stream : Fin 5) (ks : Fin 2) (s : State),
    let answers := fun (c : Instr) (a : SpdmAns) => ∃ t, exec c s = .next t ∧ SMap.get (fun _ => .silent) t.keep.doe p = a ∧
      t.regs = s.regs ∧ t.keep.sessions = s.keep.sessions ∧ t.nego p = s.nego p ∧ t.mem = s.mem
    let said := fun (t : State) (a : SpdmAns) => SMap.get (fun _ => .silent) t.keep.doe p = a ∧ t.mem = s.mem
    let inside : List Instr := [.endSession p sid, .heartbeat p sid, .keyUpdate p sid, .ideKmQuery p sid,
      .kSetGo p sid stream ks, .kSetStop p sid stream ks]
    let later : List Instr := [.getDigests p, .keyExchange p sid, .finish p sid true, .finish p sid false] ++ inside ++
      (List.finRange 8).flatMap (fun x => [.getCertificate p x, .challenge p x]) ++
      (List.finRange 256).map (fun x => .getMeasurements p (BitVec.ofFin x))
    (s.spdmUp p = false → ∀ c ∈ [.getVersion p, .getCapabilities p, .negotiateAlgorithms p true, .negotiateAlgorithms p false] ++ later,
      answers c .silent) ∧
    (s.spdmUp p = true →
      (∃ t, exec (.getVersion p) s = .next t ∧ said t .version ∧ t.nego p = 1 ∧
        t.keep.sessions = s.keep.sessions.filter (fun x => x.port ≠ p.val) ∧
        t.fld R.KEEP_STATUS_SESSIONS = t.keep.sessions.length % 32 ∧ t.fld (R.PCIE_P_PORTSTAT_IDE p) = 0) ∧
      (s.nego p = 1 → ∃ t, exec (.getCapabilities p) s = .next t ∧ said t .capabilities ∧ t.nego p = 2 ∧ t.regs = s.regs) ∧
      (s.nego p ≠ 1 → answers (.getCapabilities p) .errOther) ∧
      (s.nego p = 2 → ∃ t, exec (.negotiateAlgorithms p true) s = .next t ∧ said t .algorithms ∧ t.nego p = 3 ∧
        t.regs = s.regs) ∧
      answers (.negotiateAlgorithms p false) .errOther ∧ (s.nego p ≠ 2 → answers (.negotiateAlgorithms p true) .errOther) ∧
      (s.nego p < 3 → ∀ c ∈ later, answers c .errOther) ∧
      (3 ≤ s.nego p →
        answers (.getDigests p) .digests ∧ answers (.getCertificate p 0) .certificate ∧ answers (.challenge p 0) .challenge ∧
        (∀ x : Fin 8, x ≠ 0 → answers (.getCertificate p x) .errOther ∧ answers (.challenge p x) .errOther) ∧
        (∀ i : BitVec 8, i ≠ 0xFF → answers (.getMeasurements p i)
          (.measurements (((s.measBlock i.toNat).map (fun b => (i.toNat, b))).toList))) ∧
        answers (.getMeasurements p 0xFF)
          (.measurements ((List.range 0x80).filterMap (fun k => (s.measBlock k).map (fun b => (k, b))))) ∧
        (s.keep.rng = false → ∃ t, exec (.keyExchange p sid) s = .next t ∧ said t .errBusy ∧
          t.fld R.KEEP_RNGSTAT_NOTREADY = min (s.fld R.KEEP_RNGSTAT_NOTREADY + 1) (2 ^ 16 - 1) ∧
          t.keep.sessions = s.keep.sessions) ∧
        (s.keep.rng = true → 4 ≤ s.keep.sessions.length → ∃ t, exec (.keyExchange p sid) s = .next t ∧ said t .errLimit ∧
          t.keep.sessions = s.keep.sessions) ∧
        (s.keep.rng = true → s.keep.sessions.length < 4 → (∀ x ∈ s.keep.sessions, ¬ (x.port = p.val ∧ x.id = sid.toNat)) →
          ∃ t, exec (.keyExchange p sid) s = .next t ∧ said t (.session sid.toNat) ∧
            t.keep.sessions = s.keep.sessions ++ [⟨sid.toNat, p, false, []⟩] ∧
            t.fld R.KEEP_STATUS_SESSIONS = s.keep.sessions.length + 1) ∧
        (∀ x l r, s.keep.sessions = l ++ x :: r → x.port = p.val → x.id = sid.toNat → x.fin = false → x ∉ l → x ∉ r →
          (∀ y ∈ l, ¬ (y.port = p.val ∧ y.id = sid.toNat)) →
          (∃ t, exec (.finish p sid true) s = .next t ∧ said t .finished ∧
            t.keep.sessions = l ++ { x with fin := true } :: r) ∧
          (∃ t, exec (.finish p sid false) s = .next t ∧ said t .errOther ∧ t.keep.sessions = l ++ r)) ∧
        (s.session p sid.toNat = none → ∀ c ∈ inside, answers c .errOther) ∧
        (∀ x l r, s.session p sid.toNat = some x → s.keep.sessions = l ++ x :: r → x ∉ l → x ∉ r →
          answers (.heartbeat p sid) .beat ∧ answers (.keyUpdate p sid) .updated ∧ answers (.ideKmQuery p sid) .ideQuery ∧
          (∃ t, exec (.endSession p sid) s = .next t ∧ said t .ended ∧ t.keep.sessions = l ++ r ∧
            t.fld R.KEEP_STATUS_SESSIONS = (l ++ r).length % 32) ∧
          (∃ t, exec (.kSetGo p sid stream ks) s = .next t ∧ said t .ideGo ∧ t.flag (R.PCIE_P_PORTSTAT_IDE p) = true ∧
            t.keep.sessions = l ++ { x with ide := x.ide.filter (· ≠ (stream.val, ks.val)) ++ [(stream.val, ks.val)] } :: r) ∧
          (∃ t, exec (.kSetStop p sid stream ks) s = .next t ∧ said t .ideStop ∧
            t.keep.sessions = l ++ { x with ide := x.ide.filter (· ≠ (stream.val, ks.val)) } :: r)))))

/-- From R103, R106, R108, R109, R429, R573, R577, R686, R711, R716, R733, R736, R737, R740, R741, R790: the host's commands on
the device's state. A command that cannot start stays in its queue; one that is refused by its issuer, by TRIPPED or for want of
a HELLO completes with that status. HELLO agrees on a version, START takes READY to service when R109 holds, STOP and
ENTER_SERVICE wait for their boundary, REVALIDATE asks for a validation, EXIT_SERVICE enters the self-test, TENANT_SET and
LC_ADVANCE set the tenant and the lifecycle in SERVICE, and the two restart commands open and use a restart window. -/
def Obligations.DeviceHostCommands : Prop :=
  ∀ (e : SubEntry) (s : State),
    let f := e.fn.val
    let v := s.fld (R.PCIEA_F_FSTATUS_VERSION f)
    let bare := e.noBuf = true ∧ e.argsIn [] = true
    let ends := fun (c : Instr) (status info : Nat) => ∃ t, exec c s = .next t ∧ s.Completed t e status info ∧
      t.regs = s.regs ∧ t.mem = s.mem ∧ t.cores = s.cores ∧ t.jobs = s.jobs
    let pf0 : List Instr := [.start e, .stop e, .revalidate e, .enterService e, .exitService e, .restartBegin e, .restartDone e]
    let all : List Instr := pf0 ++ [.hello e, .getStatus e, .getCounters e, .tenantSet e, .lcAdvance e, .submit e, .chimeExpect e,
      .pairMode e, .loadProgram e, .loadBundle e, .unloadBundle e, .sioPassword e, .sioParamBegin e, .sioParamWrite e,
      .sioParamCommit e, .sioParamAbort e, .sioAck e, .setWrite e, .setRead e, .store e 0, .counterAdvance e, .counterIncrement e]
    (s.canStart e.fn = false → ∀ c ∈ all, exec c s = .next s) ∧
    (s.Fetches e → bare → f ≠ 0 → ∀ c ∈ pf0, ends c 0x08 0) ∧
    (s.Fetches e → bare → f = 0 → s.st = stTRIPPED → ∀ c ∈ pf0, ends c 0x04 0) ∧
    (s.Fetches e → bare → f = 0 → s.st ≠ stTRIPPED → v = 0 → ∀ c ∈ pf0, ends c 0x06 0) ∧
    (s.Fetches e → e.noBuf = true → e.argsIn [(0, 2)] = true →
      let top := min (e.arg 1) 0x12
      let common := e.arg 0 ≤ top ∧ 0x10 ≤ top
      ((s.fn f).inprog ≠ [] → ends (.hello e) 0x0A 0) ∧ ((s.fn f).inprog = [] → ¬ common → ends (.hello e) 0x07 0) ∧
      ((s.fn f).inprog = [] → common → ∃ t, exec (.hello e) s = .next t ∧ t.fld (R.PCIEA_F_FSTATUS_VERSION f) = top ∧
        s.Completed t e 0 (top + 256 * 0x12 + 65536 * (s.reg R.DEVICE_CAPS).toNat + 2 ^ 48 * s.fld R.DEVICE_STATE_DEV_EPOCH) ∧
        (f = 0 → t.ladder.wdStopped = false) ∧ t.mem = s.mem ∧ t.cores = s.cores)) ∧
    (s.Fetches e → bare → ends (.getStatus e) 0 (s.stateInfoWord + 2 ^ 32 * (s.reg (R.PCIEA_F_FSTATUS f)).toNat)) ∧
    (s.Fetches e → e.len = 64 → e.argsIn [] = true → 0x12 ≤ v → ∃ t rec, exec (.getCounters e) s = .next t ∧
      s.Completed t e 0 0 ∧ (t.fn f).wrote = some (e.addr.toNat, rec) ∧ rec.length = 64 ∧ t.regs = s.regs ∧
      rec.take 32 = (List.range 8).flatMap (fun k => leBytes 4 (s.fate f k))) ∧
    (s.FromPf0 e → bare →
      let tenant := ∃ k, k < 4 ∧ s.fld (R.KEEP_TENANT_ID k) ≠ 0
      let loaded := ∀ i ∈ s.namedProgs, ∃ p x, s.prog i = some p ∧ s.progTable[i]? = some x ∧ p.digest = x.1
      let spared := (∃ rc ∈ routesOf ((s.setting 0x10).getD []), rc.cls = 0) → ∃ n, n < 16 ∧ s.fld (fCoreState n) = csSPARE ∧
        s.fld (R.CORE_SLOTCFG_COUNT n) = 0
      let shown := s.hasDisp = true ∨ ∀ rc ∈ routesOf ((s.setting 0x10).getD []), rc.cls = 0 → rc.display = false
      let named := ∀ n, n < 16 → s.fld (R.CORE_SLOTCFG_COUNT n) = 0 ∨ s.fld (fCoreState n) = csSERVING ∨
        s.fld (fCoreState n) = csSPARE
      (s.st ≠ stREADY → ends (.start e) 0x03 0) ∧
      (s.st = stREADY →
        let refused := fun (status : Nat) => ∃ t, exec (.start e) s = .next t ∧ s.Completed t e status 0 ∧ t.st = stREADY ∧
          t.mem = s.mem ∧ t.cores = s.cores
        let drawn := s.keep.seeded = true ∧ s.drawFirst.firstDrawn = true
        (¬ shown → refused 0x02) ∧ (shown → ¬ tenant → refused 0x16) ∧ (shown → tenant → ¬ drawn → refused 0x10) ∧
        (shown → tenant → drawn → ¬ loaded → refused 0x11) ∧ (shown → tenant → drawn → loaded → ¬ spared → refused 0x12) ∧
        (shown → tenant → drawn → loaded → spared → s.setting 0x34 ≠ some s.pdigest → refused 0x13) ∧
        (shown → tenant → drawn → loaded → spared → s.setting 0x34 = some s.pdigest → ¬ named → refused 0x14) ∧
        (shown → tenant → drawn → loaded → spared → s.setting 0x34 = some s.pdigest → named →
          ∃ t, exec (.start e) s = .next t ∧ s.Completed t e 0 t.stateInfoWord ∧ t.mem = s.mem ∧
            (∀ r, (t.routeSt r).frames = [] ∧ (t.routeSt r).seq = 0 ∧ (t.routeSt r).epoch = 0) ∧
            t.cores = s.cores ∧ t.st = (if s.dev.lost = 0 then stSERVING else stDEGRADED) ∧
            t.fld R.DEVICE_STATE_PREV = stREADY)) ∧
      (s.serving = false → ends (.stop e) 0x03 0) ∧
      (s.serving = true → ∃ t, exec (.stop e) s = .next t ∧ s.Awaits t e 0x04 ∧ t.regs = s.regs ∧
        t.dev.stopReq = s.dev.stopReq ++ [(.stop, e.cid.toNat)]) ∧
      (s.serving = false → s.st ≠ stHOLD → s.st ≠ stREADY → ends (.enterService e) 0x03 0) ∧
      (s.serving = true ∨ s.st = stHOLD ∨ s.st = stREADY → ∃ t, exec (.enterService e) s = .next t ∧ s.Awaits t e 0x06 ∧
        t.regs = s.regs ∧ t.dev.stopReq = s.dev.stopReq ++ [(.service, e.cid.toNat)]) ∧
      (let mayCheck := s.st = stHOLD ∧ (s.dev.holdFrom = stSELFTEST ∨ s.dev.holdFrom = stREADY)
       (¬ mayCheck → ends (.revalidate e) 0x03 0) ∧ (mayCheck → s.dev.reval ≠ none → ends (.revalidate e) 0x0A 0) ∧
       (mayCheck → s.dev.reval = none → ∃ t, exec (.revalidate e) s = .next t ∧ s.Awaits t e 0x05 ∧ t.regs = s.regs ∧
          t.dev.reval = some e.cid.toNat)) ∧
      (s.st ≠ stSERVICE → ends (.exitService e) 0x03 0) ∧
      (s.st = stSERVICE → ∃ t, exec (.exitService e) s = .next t ∧ s.Completed t e 0 t.stateInfoWord ∧ t.st = stSELFTEST ∧
        t.fld R.DEVICE_BOOTSTAT_STEP = 6 ∧ t.mem = s.mem ∧ ∀ n, n < 16 → t.fld (fCoreState n) =
          (if s.fld (fCoreState n) = csABSENT ∨ s.fld (fCoreState n) = csFAILED then s.fld (fCoreState n) else csTEST)) ∧
      (s.fld R.HEARTH_STATUS_RSTATE = 1 → ∃ t, exec (.restartBegin e) s = .next t ∧ s.Completed t e 0 0 ∧
        t.fld R.HEARTH_STATUS_RSTATE = 2 ∧ t.jobs.restart.opened = s.tb2) ∧
      (s.fld R.HEARTH_STATUS_RSTATE ≠ 1 → ends (.restartBegin e) 0 s.winElapsed) ∧
      (s.fld R.HEARTH_STATUS_RSTATE = 2 → ∃ t, exec (.restartDone e) s = .next t ∧ s.Completed t e 0 s.winElapsed ∧
        t.fld R.HEARTH_STATUS_RSTATE = 3) ∧
      (s.fld R.HEARTH_STATUS_RSTATE ≠ 2 → ends (.restartDone e) 0 s.winElapsed)) ∧
    (s.FromPf0 e → e.noBuf = true → e.argsIn [(0, 16)] = true →
      (s.st ≠ stSERVICE → ends (.tenantSet e) 0x03 0) ∧
      (s.st = stSERVICE → ∃ t, exec (.tenantSet e) s = .next t ∧
        (∀ k, k < 4 → t.fld (R.KEEP_TENANT_ID k) = e.args.toNat / 256 ^ (4 * k) % 2 ^ 32) ∧
        t.fld R.KEEP_MEASGEN_GEN = (s.fld R.KEEP_MEASGEN_GEN + 1) % 2 ^ 32 ∧
        s.Completed t e 0 (t.fld R.KEEP_MEASGEN_GEN) ∧ t.st = s.st ∧ t.mem = s.mem)) ∧
    (s.FromPf0 e → e.argsIn [(0, 1)] = true → ∀ to_, e.arg 0 = to_ → to_ ≠ 3 → e.noBuf = true →
      let forward := (s.keep.lcs, to_) ∈ [(0, 1), (0, 2), (1, 2)] ∨ (s.keep.lcs ≠ 4 ∧ to_ = 4)
      (s.st ≠ stSERVICE → ends (.lcAdvance e) 0x03 0) ∧ (s.st = stSERVICE → ¬ forward → ends (.lcAdvance e) 0x09 0) ∧
      (s.st = stSERVICE → forward → ∃ t, exec (.lcAdvance e) s = .next t ∧ s.Completed t e 0 to_ ∧ t.keep.lcs = to_ ∧
        t.regs = s.regs)) ∧
    (s.FromPf0 e → e.argsIn [(0, 1)] = true → e.arg 0 = 3 → e.hasBuf 112 = true → s.st = stSERVICE →
      let token := Config.tokenOk (e.data.take 16) (e.data.drop 16) = true ∧ leNat (e.data.take 8) = Config.rollId % 2 ^ 64 ∧
        leNat ((e.data.drop 8).take 1) = 3 ∧ leNat ((e.data.drop 9).take 7) = 0
      (s.keep.lcs = 1 ∨ s.keep.lcs = 2 → ∃ t, exec (.lcAdvance e) s = .next t ∧ t.regs = s.regs ∧
        (token → s.Completed t e 0 3 ∧ t.keep.lcs = 3) ∧ (¬ token → s.Completed t e 0x29 0 ∧ t.keep.lcs = s.keep.lcs)))

/-- From R257–R260, R381–R383, R403–R405, R446, R448, R524, R690, R701–R705: the commands that bring work. SUBMIT queues a job
that passes every check, and answers the first that it fails; CHIME_EXPECT adds an expectation, which without a clock is decided
at once; LOAD_PROGRAM and LOAD_BUNDLE place an image that every check accepts and raise MEASGEN, with any other status changing
nothing, and LOAD_BUNDLE waits for the random source; UNLOAD_BUNDLE clears a bundle no job names; PAIR_MODE waits for the
boundary of its program in service, and acts at once in READY. -/
def Obligations.WorkHostCommands : Prop :=
  ∀ (e : SubEntry) (s : State),
    let f := e.fn.val
    let d := e.data
    let v := s.fld (R.PCIEA_F_FSTATUS_VERSION f)
    let ends := fun (c : Instr) (status : Nat) => ∃ t, exec c s = .next t ∧ s.Completed t e status 0 ∧
      t.regs = s.regs ∧ t.mem = s.mem ∧ t.cores = s.cores ∧ t.jobs = s.jobs ∧ t.keep = s.keep ∧ t.chimes = s.chimes
    (s.Fetches e → f ≠ 0 → s.st ≠ stTRIPPED → 0x10 ≤ v → e.argsIn [] = true → 32 ≤ e.len.toNat →
      let h := descOf d
      e.hasBuf (32 + 16 * h.ntens) = true →
      let good := s.jobOk d = true
      (s.serving = false → ends (.submit e) 0x03) ∧
      (s.serving = true → ¬ good → ends (.submit e) 0x30) ∧
      ∀ rc, s.route h.route = some rc → s.serving = true → good →
        let mine := f = rc.client ∧ s.clsAllowed f rc.cls = true
        let inboxed := (rc.display = true ∨ 0 < rc.inboxKib ∨ ∀ i, i < h.ntens → (tensorOf d i).push = false) ∧
          (rc.display = true → rc.cls = 0 → s.hasDisp = true)
        let fresh := h.frame ∉ (s.routeSt h.route).taken
        let soon := (h.frame + 2 ^ 32 - s.fld (R.TAP_T_STAT_FRAME rc.source)) % 2 ^ 32 ≤ 3 ∨
          2 ^ 31 ≤ (h.frame + 2 ^ 32 - s.fld (R.TAP_T_STAT_FRAME rc.source)) % 2 ^ 32
        let inTime := s.deadlinePassed h.route rc h.frame = false
        let room := rc.cls = 0 ∨ (s.jobs.jobs.filter (fun j => j.cls != 0)).length < 48
        (¬ mine → ends (.submit e) 0x31) ∧
        (mine → ¬ inboxed → ends (.submit e) 0x02) ∧
        (mine → inboxed → ¬ fresh → ends (.submit e) 0x32) ∧
        (mine → inboxed → fresh → ¬ soon → ends (.submit e) 0x33) ∧
        (mine → inboxed → fresh → soon → ¬ inTime → ∃ t, exec (.submit e) s = .next t ∧ s.Completed t e 0x34 0) ∧
        (mine → inboxed → fresh → soon → inTime → ¬ room → ∃ t, exec (.submit e) s = .next t ∧ s.Completed t e 0x35 0 ∧
          t.jobs = s.jobs ∧ t.fld (R.VERD_CLIENT_NO_SLOT_COUNT (rc.client - 1)) =
            min (s.fld (R.VERD_CLIENT_NO_SLOT_COUNT (rc.client - 1)) + 1) (2 ^ 32 - 1)) ∧
        (mine → inboxed → fresh → soon → inTime → room → ∃ t, exec (.submit e) s = .next t ∧ s.Completed t e 0x01 h.job ∧
          t.fld (R.VERD_CLIENT_ACCEPTED_COUNT (rc.client - 1)) =
            min (s.fld (R.VERD_CLIENT_ACCEPTED_COUNT (rc.client - 1)) + 1) (2 ^ 32 - 1) ∧
          h.frame ∈ (t.routeSt h.route).taken ∧
          (rc.display = false → ∃ j ∈ t.jobs.jobs, j.route = h.route ∧ j.frame = h.frame ∧ j.job = h.job ∧ j.client = f ∧
            j.cls = rc.cls ∧ j.tensors = (List.range h.ntens).map (tensorOf d)))) ∧
    (s.Fetches e → f ≠ 0 → s.st ≠ stTRIPPED → 0x11 ≤ v → e.noBuf = true → e.argsIn [(0, 1), (4, 4)] = true →
      let c := e.arg 0
      let ms := e.args.toNat / 256 ^ 4 % 2 ^ 32
      c < 16 → 1 ≤ ms → ms ≤ 10000 →
      (s.serving = false → ends (.chimeExpect e) 0x03) ∧
      (s.serving = true → s.flag R.TAP_TDMCFG_EN = false → ends (.chimeExpect e) 0x02) ∧
      (s.serving = true → s.flag R.TAP_TDMCFG_EN = true → s.flag (R.TAP_CHIME_B_VALID c) = false → ends (.chimeExpect e) 0x30) ∧
      (s.serving = true → s.flag R.TAP_TDMCFG_EN = true → s.flag (R.TAP_CHIME_B_VALID c) = true →
        (8 ≤ s.chimes.length → ends (.chimeExpect e) 0x39) ∧
        (s.chimes.length < 8 → ∃ t, exec (.chimeExpect e) s = .next t ∧ s.Completed t e 0 0 ∧ t.mem = s.mem ∧
          (s.flag R.TAP_CHIMESTAT_NOCLK = false → t.fld R.TAP_CHIMESTAT_PENDING = s.chimes.length + 1 ∧
            t.chimes = s.chimes ++ [⟨f, c, s.tb2 + 1000000 * ms, none, 0⟩]) ∧
          (s.flag R.TAP_CHIMESTAT_NOCLK = true → t.chimes = [] ∧ t.fld R.TAP_CHIMESTAT_PENDING = 0)))) ∧
    (s.FromPf0 e → e.argsIn [(0, 1)] = true → e.arg 0 < 64 → 256 ≤ e.len.toNat →
      let code := leNat ((d.drop 0xC).take 4)
      let data := leNat ((d.drop 0x10).take 4)
      let i := e.arg 0
      e.hasBuf (256 + code + data) = true →
      (progHeaderOk d = false → ends (.loadProgram e) 0x20) ∧
      (∀ st a, s.progStatus i d = (st, a) → (st ≠ 0 → ends (.loadProgram e) st) ∧
        (st = 0 → ∃ t p, exec (.loadProgram e) s = .next t ∧ s.Completed t e 0 (t.fld R.KEEP_MEASGEN_GEN) ∧
          t.fld R.KEEP_MEASGEN_GEN = (s.fld R.KEEP_MEASGEN_GEN + 1) % 2 ^ 32 ∧
          t.jobs.progs = s.jobs.progs.filter (fun q => q.idx != i) ++ [p] ∧ p.idx = i ∧ p.code = a ∧
          p.digest = (d.drop 0x20).take 48 ∧ p.codeSize = code ∧ p.dataSize = data ∧
          (∀ j, j < code → t.byte (a + j) = d.getD (256 + j) 0) ∧
          (∀ j, j < data → t.byte (p.data + j) = d.getD (256 + code + j) 0) ∧
          ∀ x, x < a ∨ p.data + data ≤ x → t.byte x = s.byte x))) ∧
    (s.FromPf0 e → e.argsIn [] = true → d ≠ [] → e.hasBuf d.length = true →
      (s.keep.rng = false → exec (.loadBundle e) s = .next s) ∧
      (s.keep.rng = true → bundleHeaderOk d = false → ends (.loadBundle e) 0x20) ∧
      ∀ st b a (l : List Byte), s.keep.rng = true → s.bundleStatus d = (st, b, a, l) → (st ≠ 0 → ends (.loadBundle e) st) ∧
        (st = 0 →
          let h := b + 1 + 256 * ((s.keep.loads + 1) % 2 ^ 24)
          ∃ t x, exec (.loadBundle e) s = .next t ∧ s.Completed t e 0 h ∧ t.keep.bundles = s.keep.bundles ++ [x] ∧
            x.slot = b ∧ x.handle = h ∧ x.addr = a ∧ x.size = l.length ∧ t.keep.loads = s.keep.loads + 1 ∧
            t.fld R.KEEP_MEASGEN_GEN = (s.fld R.KEEP_MEASGEN_GEN + 1) % 2 ^ 32 ∧
            ∀ j, j < l.length → t.byte (a + j) = l.getD j 0)) ∧
    (s.FromPf0 e → e.noBuf = true → e.argsIn [(0, 4)] = true →
      let h := e.args.toNat % 2 ^ 32
      (s.keep.bundles.find? (fun x => x.handle == h) = none → ends (.unloadBundle e) 0x09) ∧
      ∀ x, s.keep.bundles.find? (fun x => x.handle == h) = some x →
        ((∃ j ∈ s.jobs.jobs, j.bundle = h) → ends (.unloadBundle e) 0x0A) ∧
        ((∀ j ∈ s.jobs.jobs, j.bundle ≠ h) → ∃ t, exec (.unloadBundle e) s = .next t ∧ s.Completed t e 0 0 ∧
          t.keep.bundles = s.keep.bundles.filter (· ≠ x) ∧ (∀ j, j < x.size → t.byte (x.addr + j) = 0) ∧
          (∀ a, a < x.addr ∨ x.addr + x.size ≤ a → t.byte a = s.byte a) ∧
          t.fld R.KEEP_MEASGEN_GEN = (s.fld R.KEEP_MEASGEN_GEN + 1) % 2 ^ 32)) ∧
    (s.FromPf0 e → 0x11 ≤ v → e.argsIn [(0, 1)] = true → e.arg 0 ≤ 1 → e.hasBuf 48 = true →
      let single := e.arg 0 = 1
      let found := s.jobs.progs.find? (fun p => p.digest == d && s.paired p)
      (s.serving = false → s.st ≠ stREADY → ends (.pairMode e) 0x03) ∧
      (s.serving = true ∨ s.st = stREADY →
        (found = none → ends (.pairMode e) 0x09) ∧
        ∀ p, found = some p → (single → s.singleAllowed p = false → ends (.pairMode e) 0x36) ∧
          (¬ single ∨ s.singleAllowed p = true →
            (s.serving = true → ∃ t, exec (.pairMode e) s = .next t ∧
              t.jobs.modeReqs = s.jobs.modeReqs.filter (fun q => q.prog != p.idx) ++ [⟨p.idx, e.arg 0 == 1, 0, e.cid.toNat⟩] ∧
              t.jobs.progs = s.jobs.progs) ∧
            (s.st = stREADY → single → ∃ t, exec (.pairMode e) s = .next t ∧ s.Completed t e 0 1 ∧
              ∀ q ∈ t.jobs.progs, q.idx = p.idx → q.single = true) ∧
            (s.st = stREADY → ¬ single → s.hasPass2 p.idx = true → ∃ t, exec (.pairMode e) s = .next t ∧
              s.Completed t e 0 0 ∧ ∀ q ∈ t.jobs.progs, q.idx = p.idx → q.single = false))))

/-- From R602, R608–R613: the commands of the safe-I/O parameter set, and the two timeouts of its sessions. Outside READY, HOLD
and SERVICE each is BAD_STATE. A password is set under a fresh salt; a session of one operator opens for 600 s; a valid set is
staged with the next SETVER and its digest returned; the commit puts it in force, which takes READY to HOLD with FAIL_CODE 0x21;
wrong passwords are counted, and from the third on lock the password commands out for 60 s, doubled each time, up to 3,600 s.
SIO_ACK clears the faults of the channels it names whose readbacks were OFF for 1 s. -/
def Obligations.SafeIoCommands : Prop :=
  (∀ (e : SubEntry) (s : State), s.FromPf0 e →
    let d := e.data
    let p := s.param
    let able := s.st = stREADY ∨ s.st = stHOLD ∨ s.st = stSERVICE
    let locked := s.tb2 < p.lockUntil
    let open_ := ∃ b op, p.session = some (b, op) ∧ s.tb2 ≤ b
    let ends := fun (c : Instr) (status info : Nat) => ∃ t, exec c s = .next t ∧ s.Completed t e status info ∧
      t.regs = s.regs ∧ t.param = s.param ∧ t.mem = s.mem ∧ t.cores = s.cores
    let wrong := fun (c : Instr) => ∃ t, exec c s = .next t ∧ s.Completed t e 0x41 0 ∧ t.regs = s.regs ∧
      t.param.fails = p.fails + 1 ∧ t.param.set = p.set ∧ t.param.password = p.password ∧ t.param.session = p.session ∧
      (if p.locks = 0 ∧ p.fails + 1 < 3 then t.param.locks = 0 ∧ t.param.lockUntil = p.lockUntil
       else t.param.locks = p.locks + 1 ∧ t.param.lockUntil = s.tb2 + 1000000000 * min (60 * 2 ^ min p.locks 6) 3600)
    let right := fun (pw : List Byte) => match p.password with
      | none => pw = []
      | some (salt, hash) => Config.sha384 (salt ++ pw) = hash
    let byte_ := fun (k : Nat) => leNat ((d.drop k).take 1)
    let pwField := fun (k n : Nat) => n ≤ 64 ∧ ∀ i, n ≤ i → i < 64 → d.getD (k + i) 0 = 0
    (e.hasBuf 160 = true → e.argsIn [] = true → (∀ i, 2 ≤ i → i < 16 → d.getD i 0 = 0) → pwField 32 (byte_ 0) → pwField 96 (byte_ 1) →
      8 ≤ byte_ 1 → (byte_ 0 = 0 ∨ 8 ≤ byte_ 0) →
      let old := (d.drop 32).take (byte_ 0)
      let new := (d.drop 96).take (byte_ 1)
      (¬ able → ends (.sioPassword e) 0x03 0) ∧ (able → locked → ends (.sioPassword e) 0x42 0) ∧
      (able → ¬ locked → ¬ right old → wrong (.sioPassword e)) ∧
      (able → ¬ locked → right old → ∃ t salt, exec (.sioPassword e) s = .next t ∧ s.Completed t e 0 0 ∧ salt.length = 32 ∧
        t.param.password = some (salt, Config.sha384 (salt ++ new)) ∧ t.param.fails = 0 ∧ t.param.locks = 0 ∧
        t.param.set = p.set ∧ t.param.logSeq = (p.logSeq + 1) % 2 ^ 32 ∧ t.regs = s.regs)) ∧
    (e.hasBuf 96 = true → e.argsIn [] = true → (∀ i, 1 ≤ i → i < 16 → d.getD i 0 = 0) → pwField 32 (byte_ 0) → 8 ≤ byte_ 0 →
      let pw := (d.drop 32).take (byte_ 0)
      let c := Instr.sioParamBegin e
      (¬ able → ends c 0x03 0) ∧ (able → p.password = none → ends c 0x40 0) ∧
      (able → p.password ≠ none → locked → ends c 0x42 0) ∧ (able → p.password ≠ none → ¬ locked → open_ → ends c 0x0A 0) ∧
      (able → p.password ≠ none → ¬ locked → ¬ open_ → ¬ right pw → wrong c) ∧
      (able → p.password ≠ none → ¬ locked → ¬ open_ → right pw → ∃ t, exec c s = .next t ∧ s.Completed t e 0 0 ∧
        t.param = { p with fails := 0, locks := 0, session := some (s.tb2 + 600000000000, (d.drop 16).take 16), staged := none } ∧
        t.regs = s.regs)) ∧
    (e.argsIn [(0, 8)] = true → e.argN 0 8 % 64 = 0 → e.hasBuf 512 = true →
      let c := Instr.sioParamWrite e
      let set := d.take 8 ++ leBytes 4 (leNat ((p.set.drop 8).take 4) + 1) ++ d.drop 12
      (¬ able → ends c 0x03 0) ∧ (able → ¬ open_ → ends c 0x43 0) ∧ (able → open_ → s.paramValid d = false → ends c 0x09 0) ∧
      (able → open_ → s.paramValid d = true → ∃ t, exec c s = .next t ∧
        s.Completed t e 0 (leNat ((Config.sha384 set).take 8)) ∧ t.param = { p with staged := some set } ∧
        (t.fn e.fn).wrote = some (e.argN 0 8, Config.sha384 set) ∧ t.regs = s.regs)) ∧
    (e.hasBuf 48 = true → e.argsIn [] = true →
      let c := Instr.sioParamCommit e
      (¬ able → ends c 0x03 0) ∧ (able → p.password = none → ends c 0x40 0) ∧
      (able → p.password ≠ none → ¬ open_ → ends c 0x43 0) ∧
      (able → p.password ≠ none → open_ → p.staged = none → ends c 0x11 0) ∧
      ∀ set, p.staged = some set → able → p.password ≠ none → open_ →
        (Config.sha384 set ≠ d → ends c 0x11 0) ∧
        (Config.sha384 set = d → ∃ t, exec c s = .next t ∧ s.Completed t e 0 (leNat ((set.drop 8).take 4)) ∧
          t.param.set = set ∧ t.param.staged = none ∧ t.param.session = none ∧ t.param.password = p.password ∧
          (s.st = stREADY → t.st = stHOLD ∧ t.fld R.DEVICE_BOOTSTAT_FAIL_CODE = 0x21 ∧ t.dev.holdFrom = stREADY) ∧
          (s.st ≠ stREADY → t.st = s.st ∧ t.regs = s.regs))) ∧
    (e.noBuf = true → e.argsIn [] = true →
      (¬ able → ends (.sioParamAbort e) 0x03 0) ∧
      (able → ∃ t, exec (.sioParamAbort e) s = .next t ∧ s.Completed t e 0 0 ∧
        t.param = { p with staged := none, session := none } ∧ t.regs = s.regs)) ∧
    (e.noBuf = true → e.argsIn [(0, 1)] = true → e.arg 0 < 16 →
      let fault := fun (u : State) (k : Nat) => u.flag (R.SAFEIO_CHSTAT_FAULT k)
      let clears := fun (k : Nat) => bit (e.arg 0) k = true ∧ fault s k = true ∧ 10000 ≤ SMap.get (fun _ => 0) s.sio.off k
      ∃ t status info, exec (.sioAck e) s = .next t ∧ s.Completed t e status info ∧
        (status = 0 ∨ status = 0x44) ∧
        (status = 0x44 ↔ ∃ k, k < 4 ∧ bit (e.arg 0) k = true ∧ fault s k = true ∧ ¬ clears k) ∧
        (∀ k, k < 4 → (bit info k = true ↔ clears k)) ∧
        (∀ k, k < 4 → (clears k → fault t k = false ∧ t.fld (R.SAFEIO_CHSTAT_FCODE k) = 0) ∧ (¬ clears k → fault t k = fault s k)) ∧
        t.param = p)) ∧
  ∀ (s : State),
    (let due := ∃ b op, s.param.session = some (b, op) ∧ b ≤ s.tb2
     (due → exec .sioSessionTimeout s = .next { s with param := { s.param with staged := none, session := none } }) ∧
     (¬ due → exec .sioSessionTimeout s = .next s)) ∧
    (s.param.lockUntil ≤ s.tb2 → exec .lockoutEnd s = .next { s with param := { s.param with lockUntil := 0 } }) ∧
    (s.tb2 < s.param.lockUntil → exec .lockoutEnd s = .next s)

/-- From R41, R755, R758, R762, R763, R766, R767: the commands of the settings store. SET_WRITE fills staging and SET_READ
copies staging or a bank out; STORE writes a checked image of the staging buffer to the bank not in force, with the next
generation; the counters only rise, and never above their bound. -/
def Obligations.StoreCommands : Prop :=
  ∀ (e : SubEntry) (s : State), s.FromPf0 e →
    let v := e.args.toNat
    let able := s.st = stHOLD ∨ s.st = stREADY ∨ s.st = stSERVICE
    let ends := fun (c : Instr) (status info : Nat) => ∃ t, exec c s = .next t ∧ s.Completed t e status info ∧
      t.regs = s.regs ∧ t.nvm = s.nvm ∧ t.mem = s.mem ∧ t.cores = s.cores
    (let off := v % 2 ^ 32
     let n := e.len.toNat
     e.argsIn [(0, 4)] = true → e.hasBuf n = true → off + n ≤ 0x40000 →
      ∃ t, exec (.setWrite e) s = .next t ∧ s.Completed t e 0 0 ∧ t.regs = s.regs ∧
        (∀ i, SMap.get (fun _ => 0) t.nvm.staging i =
          if off ≤ i ∧ i < off + n then e.data.getD (i - off) 0 else SMap.get (fun _ => 0) s.nvm.staging i) ∧
        t.nvm = { s.nvm with staging := t.nvm.staging }) ∧
    (e.argsIn [(0, 1)] = true → e.arg 0 ≤ 2 → e.len.toNat ≤ 0x40000 →
      let src := if e.arg 0 = 0 then s.nvm.staging else s.nvSlot (s.fld (if e.arg 0 = 2 then R.NVM_BANKB_SLOT else R.NVM_BANKA_SLOT))
      ∃ t, exec (.setRead e) s = .next t ∧ s.Completed t e 0 0 ∧ t.regs = s.regs ∧ t.nvm = s.nvm ∧
        (t.fn e.fn).wrote = some (e.addr.toNat, (List.range e.len.toNat).map (fun i => SMap.get (fun _ => 0) src i))) ∧
    (e.noBuf = true → e.argsIn [] = true →
      let img := imageOf s.nvm.staging
      let ro := s.flag R.NVM_STATUS_RO
      let b := s.storeTarget
      let k := s.fld (if b then R.NVM_BANKB_SLOT else R.NVM_BANKA_SLOT)
      let gen := max (s.fld R.NVM_BANKA_GEN) (s.fld R.NVM_BANKB_GEN) + 1
      (∀ bad, ¬ able → ends (.store e bad) 0x03 0) ∧ (∀ bad, able → s.dev.reval ≠ none → ends (.store e bad) 0x0A 0) ∧
      (∀ bad, able → s.dev.reval = none → ro = true → ends (.store e bad) 0x50 0) ∧
      (∀ bad, able → s.dev.reval = none → ro = false →
        let c := s.checkImage img
        ((c = 0 ∨ c = 7) → s.displayAsked img = true → ends (.store e bad) 0x02 0) ∧
        (c ≠ 0 → c ≠ 7 ∨ s.displayAsked img = false → ends (.store e bad) 0x54 c)) ∧
      (able → s.dev.reval = none → ro = false → s.checkImage img = 0 → s.displayAsked img = false → k < 6 → s.fld (R.NVM_SLOT_WRITES k) < 1000000 → gen < 2 ^ 32 →
        ∃ t, exec (.store e 0) s = .next t ∧ s.Completed t e 0 gen ∧ t.nvm.staging = [] ∧
          t.fld (if b then R.NVM_BANKB_GEN else R.NVM_BANKA_GEN) = gen ∧ t.nvSlot k = storedSlot (s.nvSlot k) img gen ∧
          (∀ j, j ≠ k → t.nvSlot j = s.nvSlot j) ∧
          t.fld (R.NVM_SLOT_WRITES k) = s.fld (R.NVM_SLOT_WRITES k) + 1 ∧ t.mem = s.mem)) ∧
    (e.noBuf = true → v / 64 % 2 ^ 57 = 0 → v / 2 ^ 96 = 0 →
      let k := v % 64
      let now := s.fld (R.NVM_CTR_VALUE k)
      let inc := bit v 63
      let x := v / 2 ^ 64 % 2 ^ 32
      let takes := fun (c : Instr) (to_ : Nat) => ∃ t, exec c s = .next t ∧ s.Completed t e 0 0 ∧
        t.fld (R.NVM_CTR_VALUE k) = to_ ∧ (∀ j, j < 64 → j ≠ k → t.fld (R.NVM_CTR_VALUE j) = s.fld (R.NVM_CTR_VALUE j)) ∧
        t.nvm.slots = s.nvm.slots ∧ t.mem = s.mem
      (¬ able → ends (.counterAdvance e) 0x03 0 ∧ ends (.counterIncrement e) 0x03 0) ∧
      (able →
        (now = 0xFFFFFFFF → ends (.counterIncrement e) 0x51 0) ∧
        (now < 0xFFFFFFFF → s.counterBound k < now + 1 → ends (.counterIncrement e) 0x52 0) ∧
        (now < 0xFFFFFFFF → now + 1 ≤ s.counterBound k → takes (.counterIncrement e) (now + 1)) ∧
        (inc = false → x < now → ends (.counterAdvance e) 0x53 0) ∧
        (inc = false → x = now → ends (.counterAdvance e) 0 0) ∧
        (inc = false → now < x → s.counterBound k < x → ends (.counterAdvance e) 0x52 0) ∧
        (inc = false → now < x → x ≤ s.counterBound k → takes (.counterAdvance e) x) ∧
        (inc = true → exec (.counterAdvance e) s = exec (.counterIncrement e) s)))

/-- From R18–R23, R130, R135, R136, R218, R448, R452–R454, R474, R486, R487, R597, R726: accesses of the control window by
firmware at M, and the debug port's hand writes. A register takes each field by its access type and no other register changes;
what is locked, of the wrong width or of the wrong key is discarded and recorded in ACCERR; a write at an offset that names no
register, or at U, does nothing. RESETCMD asks for a warm restart or resets a port; CNTCLR clears the counters of its clients;
RUN takes its four bits; an object's configuration sets its value to BASE and may not change while the object is mapped; a map
entry may name only an object of its own context; a mailbox starts afresh, and only when it is empty; a hand write is recorded
whether accepted or not; a read of a low half latches the high half. -/
def Obligations.RegisterCommands : Prop :=
  ∀ (n u : Nat) (s : State), s.st ≠ stTRIPPED →
    let m : Master := .core n u .m
    let same := fun (t : State) (but : Nat → Prop) => (∀ o, ¬ but o → t.reg o = s.reg o) ∧ t.mem = s.mem ∧ t.st = s.st
    let dropped := fun (c : Instr) (m : Master) => ∃ t, exec c s = .next t ∧ t.flag R.DEVICE_ACCERR_LOCKED_WRITE = true ∧
      (s.flag R.DEVICE_ACCERR_LOCKED_WRITE = false →
        t.fld R.DEVICE_ACCERR_COUNT = 1 ∧ t.fld R.DEVICE_ACCERR_MASTER = m.code % 256) ∧
      (s.flag R.DEVICE_ACCERR_LOCKED_WRITE = true →
        t.fld R.DEVICE_ACCERR_COUNT = min (s.fld R.DEVICE_ACCERR_COUNT + 1) 255 ∧
        t.fld R.DEVICE_ACCERR_MASTER = s.fld R.DEVICE_ACCERR_MASTER) ∧
      same t (· = R.DEVICE_ACCERR) ∧ t.cores = s.cores
    let atU : Master := .core n u .u
    (∀ (off : BitVec 22) (k : Fin 4) (v : Word),
      (regAt off.toNat = none → exec (.registerWrite m off k v) s = .next s) ∧
      exec (.registerWrite atU off k v) s = .next s ∧
      ∀ r b, regAt off.toNat = some (r, b) → s.absent off.toNat = false → r.wide = false →
        (k.val ≠ 2 ∨ b ≠ 0 → dropped (.registerWrite m off k v) m) ∧
        (k.val = 2 → b = 0 → pageOf off.toNat ∈ [0x01, 0x05, 0x06, 0x07, 0x09, 0x0A, 0x0B, 0x0D, 0x0E, 0x0F, 0x10, 0x11, 0x14] →
          (∀ j : Fin 12, off.toNat = R.TAP_T_CFG j → s.regLocked off.toNat = false ∧ v.getLsbD 31 = true) →
          ∃ t, exec (.registerWrite m off k v) s = .next t ∧ same t (fun o => o = off.toNat ∨ o = R.DEVICE_ACCERR) ∧
            ∀ f ∈ r.fields, ∀ x, f.lo ≤ x → x < f.lo + f.w →
              (t.reg off.toNat).getLsbD x = (match f.acc with
                | .rw => v.getLsbD x
                | .rwl => if s.regLocked off.toNat = true then (s.reg off.toNat).getLsbD x else v.getLsbD x
                | .w1c => (s.reg off.toNat).getLsbD x && !v.getLsbD x
                | .w1s => (s.reg off.toNat).getLsbD x || v.getLsbD x
                | _ => (s.reg off.toNat).getLsbD x))) ∧
    (∀ (off : BitVec 22) r, regAt off.toNat = some (r, 0) → r.wide = true → s.absent off.toNat = false → s.romBytes off.toNat 4 = none →
      let w := (s.regView m off.toNat &&& ~~~ BitVec.ofNat 64 (woMask r.fields)).toNat
      ∃ t, exec (.lowHalfRead m off) s = .next t ∧ t.halves.latch m off.toNat = some (BitVec.ofNat 32 (w / 2 ^ 32)) ∧ t.regs = s.regs ∧
        t.mem = s.mem ∧ t.cores = s.cores) ∧
    (∀ key : BitVec 16,
      (key ≠ 0xB311 → dropped (.warmRestartCmd m key) m ∧ dropped (.portAResetCmd m key) m ∧ dropped (.portBResetCmd m key) m) ∧
      ((∀ q ∈ s.dev.stopReq, q.1 ≠ .warm) →
        exec (.warmRestartCmd m 0xB311) s = .next { s with dev := { s.dev with stopReq := s.dev.stopReq ++ [(.warm, 0)] } }) ∧
      ((∃ q ∈ s.dev.stopReq, q.1 = .warm) → exec (.warmRestartCmd m 0xB311) s = .next s) ∧
      (s.hasPortB = false → dropped (.portBResetCmd m 0xB311) m) ∧
      ∀ p : Fin 2, (p = 1 → s.hasPortB = true) →
        let c := if p = 0 then Instr.portAResetCmd m 0xB311 else .portBResetCmd m 0xB311
        ∃ t, exec c s = .next t ∧ t.portUp p = false ∧
          t.fld (R.PCIE_P_PORTSTAT_EPOCH p) = nextEpoch (s.fld (R.PCIE_P_PORTSTAT_EPOCH p))) ∧
    (∀ v : BitVec 32, ∃ t, exec (.cntclr m v) s = .next t ∧
      (∀ c i, c < 4 → i < 8 → v.getLsbD c = true → t.reg (R.VERD_CLIENT_ACCEPTED c + 4 * i) = 0) ∧
      same t (fun o => ∃ c i, c < 4 ∧ i < 8 ∧ v.getLsbD c = true ∧ o = R.VERD_CLIENT_ACCEPTED c + 4 * i)) ∧
    (∀ v : BitVec 32, (∃ t, exec (.runWrite m v) s = .next t ∧ t.fld R.SAFEIO_RUN_RUN = v.toNat % 16 ∧ same t (· = R.SAFEIO_RUN)) ∧
      exec (.runWrite atU v) s = .next s ∧ exec (.runWrite (.core n u .s) v) s = .next s ∧
      ∀ f, f ≠ 0 → exec (.runWrite (.fn f) v) s = .next s) ∧
    (∀ (c : CoreId), s.hasCore c = true →
      (∀ (k : Fin 256) (v : BitVec 32),
        let ok := s.dbgAllowed 6 = true ∧ (s.flag (R.CORE_SOBJCFG_PRIV c k) = false ∨ s.serving = false)
        let old := s.fld (R.CORE_SOBJ_VALUE c k)
        let q := s.fld R.BELL_HANDCNT_COUNT % 32
        ∃ t, exec (.sobjHandWrite c k v) s = .next t ∧
          t.fld R.BELL_HANDCNT_COUNT = min (s.fld R.BELL_HANDCNT_COUNT + 1) (2 ^ 32 - 1) ∧
          t.fld (R.BELL_HANDLOG_NEW q) = v.toNat ∧ t.fld (R.BELL_HANDLOG_OLD q) = old % 2 ^ 16 ∧
          t.fld (R.BELL_HANDLOG_OBJ q) = k ∧ t.fld (R.BELL_HANDLOG_CORE q) = c ∧ t.fld (R.BELL_HANDLOG_STATE q) = s.st % 8 ∧
          (ok → t.fld (R.CORE_SOBJ_VALUE c k) = v.toNat ∧ t.flag (R.BELL_HANDLOG_ACCEPTED q) = true ∧
            t.reg R.DEVICE_ACCERR = s.reg R.DEVICE_ACCERR) ∧
          (¬ ok → t.fld (R.CORE_SOBJ_VALUE c k) = old ∧ t.flag (R.BELL_HANDLOG_ACCEPTED q) = false ∧
            t.flag R.DEVICE_ACCERR_LOCKED_WRITE = true) ∧
          same t (fun o => o = R.BELL_HANDCNT ∨ o = R.BELL_HANDLOG q ∨ o = R.CORE_SOBJ c k ∨ o = R.DEVICE_ACCERR)) ∧
      (∀ (k : Fin 256) (w : Word),
        let i := Instr.sobjcfgWrite m c k (.whole w)
        let x := w.toNat
        let src := x / 2 ^ 11 % 32
        let good := (src ≤ 0x0C ∨ (0x10 ≤ src ∧ src ≤ 0x13)) ∧ (w.getLsbD 8 = true → w.getLsbD 9 = true)
        (s.mapped c k = true → dropped i m) ∧ (s.mapped c k = false → ¬ good → exec i s = .next s) ∧
        exec (.sobjcfgWrite atU c k (.whole w)) s = .next s ∧
        (s.mapped c k = false → good → ∃ t, exec i s = .next t ∧
          t.fld (R.CORE_SOBJCFG_LIMIT c k) = x / 2 ^ 32 ∧ t.fld (R.CORE_SOBJCFG_BASE c k) = x / 2 ^ 16 % 2 ^ 16 ∧
          t.fld (R.CORE_SOBJCFG_SRC c k) = src ∧ t.flag (R.CORE_SOBJCFG_EXT c k) = w.getLsbD 10 ∧
          t.flag (R.CORE_SOBJCFG_ALIGN c k) = w.getLsbD 9 ∧ t.flag (R.CORE_SOBJCFG_PRIV c k) = w.getLsbD 8 ∧
          t.fld (R.CORE_SOBJCFG_OWNER c k) = x / 64 % 4 ∧ t.fld (R.CORE_SOBJ_VALUE c k) = x / 2 ^ 16 % 2 ^ 16 ∧
          same t (fun o => o = R.CORE_SOBJCFG c k ∨ o = R.CORE_SOBJ c k))) ∧
      (∀ (x : Fin 4) (i : Fin 1024) (v : BitVec 32),
        let obj := v.toNat % 256
        let own := s.fld (R.CORE_SOBJCFG_OWNER c obj)
        let w := Instr.vmapWrite m c x i v
        (v.getLsbD 31 = true ∧ own ≠ x → ∃ t, exec w s = .next t ∧ t.flag R.BELL_XLOG_VALID = true ∧ same t (· = R.BELL_XLOG) ∧
          (s.flag R.BELL_XLOG_VALID = false → t.fld R.BELL_XLOG_DSTCORE = c ∧ t.fld R.BELL_XLOG_DSTCTX = own ∧
            t.fld R.BELL_XLOG_TARGET = obj ∧ t.fld R.BELL_XLOG_KIND = 1 ∧ t.fld R.BELL_XLOG_COUNT = 1 ∧
            t.fld R.BELL_XLOG_SRCCORE = n % 16)) ∧
        (v.getLsbD 31 = false ∨ own = x → ∃ t, exec w s = .next t ∧ t.flag (R.CORE_VMAP_VALID c x i) = v.getLsbD 31 ∧
          t.fld (R.CORE_VMAP_PHYS c x i) = obj ∧ same t (· = R.CORE_VMAP c x i) ∧ t.cores = s.cores)) ∧
      (∀ (k : Fin 8) (w : Word),
        let i := Instr.mboxWrite m c k (.whole w)
        let x := w.toNat
        let held := s.fld (R.CORE_SOBJ_VALUE c (s.fld (R.CORE_MBOX_OBJ c k)))
        (held ≠ 0 → exec i s = .next s) ∧
        (held = 0 → ∃ t, exec i s = .next t ∧ t.flag (R.CORE_MBOX_VALID c k) = w.getLsbD 63 ∧
          t.fld (R.CORE_MBOX_OWNER c k) = x / 2 ^ 61 % 4 ∧ t.flag (R.CORE_MBOX_RXREMOTE c k) = w.getLsbD 60 ∧
          t.fld (R.CORE_MBOX_OBJ c k) = x / 2 ^ 48 % 256 ∧ t.fld (R.CORE_MBOX_DEPTHLOG c k) = x / 2 ^ 32 % 16 ∧
          t.fld (R.CORE_MBOX_BASE c k) = x % 2 ^ 21 ∧ t.fld (R.CORE_MBOX_WIDX c k) = 0 ∧
          SMap.get (fun _ => 0) (t.core c).mboxSeq k = 0 ∧ same t (· = R.CORE_MBOX c k) ∧ ∀ q, q ≠ c.val → t.core q = s.core q)))

/-- From R527, R529, R532, R534–R540: the registers of a check-value unit, written by firmware at M. START opens a stream at
INIT; DATA feeds DBYTES + 1 bytes, low byte first, or counts them discarded; FINISH gives RESULT, compares it with EXPECT, and
generates or checks the alive counter; VALUE, POSN, EXPECT and COUNT are loaded; a write of OWNER leaves nothing of the context
before; a dedicated unit under LOCK keeps its parameters. -/
def Obligations.CheckValueUnits : Prop :=
  ∀ (n a : Nat) (u : Fin 32) (s : State), s.st ≠ stTRIPPED →
    let m : Master := .core n a .m
    let w := s.fld (R.CVU_U_CFG_WIDTH u)
    let value := s.fld (R.CVU_U_VALUE_V u)
    let fed := s.fld (R.CVU_U_POSN_FED u)
    let cap := s.fld (R.CVU_U_POSN_CAP u)
    let aw := 2 ^ min 2 (s.fld (R.CVU_U_CFG_AW u))
    let mode := s.fld (R.CVU_U_CFG_ALIVE u)
    let count := s.fld (R.CVU_U_ALIVE_COUNT u)
    let open_ := s.flag (R.CVU_U_STAT_OPEN u)
    let seen := bit s.cvuSeen u
    let after := fun (l : List Byte) => crcFeed w (s.fld (R.CVU_U_POLY_V u)) (s.flag (R.CVU_U_CFG_REFIN u)) value l
    let same := fun (t : State) (but : List Nat) => (∀ o, o ∉ but → t.reg o = s.reg o) ∧ t.mem = s.mem ∧ t.cores = s.cores
    let locked := s.flag R.CVU_LOCK_LOCK = true ∧ (u.val < 5 ∨ u.val = 9 ∨ (u.val < 9 ∧ s.hasDisp = true))
    (∃ t, exec (.cvuStart m u) s = .next t ∧ t.fld (R.CVU_U_VALUE_V u) = s.fld (R.CVU_U_INIT_V u) % 2 ^ w % 2 ^ 64 ∧
      t.reg (R.CVU_U_POSN u) = 0 ∧ t.flag (R.CVU_U_STAT_OPEN u) = true ∧ t.flag (R.CVU_U_STAT_DONE u) = false ∧
      same t [R.CVU_U_VALUE u, R.CVU_U_POSN u, R.CVU_U_STAT u]) ∧
    (∀ v : BitVec 32,
      let k := s.fld (R.CVU_U_CFG_DBYTES u) + 1
      let l := (List.range k).map (fun i => (v.extractLsb' (8 * i) 8 : BitVec 8))
      (open_ = false → ∃ t, exec (.cvuDataWrite m u v) s = .next t ∧
        t.fld (R.CVU_U_STAT_DISCARD u) = min (s.fld (R.CVU_U_STAT_DISCARD u) + 1) 255 ∧ same t [R.CVU_U_STAT u]) ∧
      (open_ = true → ∃ t, exec (.cvuDataWrite m u v) s = .next t ∧ t.fld (R.CVU_U_VALUE_V u) = after l % 2 ^ 64 ∧
        t.fld (R.CVU_U_POSN_FED u) = (fed + k) % 2 ^ 32 ∧
        (mode ≠ 2 → t.fld (R.CVU_U_POSN_CAP u) = cap) ∧
        (mode = 2 → fed + k ≤ s.fld (R.CVU_U_ALIVE_POS u) → t.fld (R.CVU_U_POSN_CAP u) = cap) ∧
        (mode = 2 → k = 1 → aw = 1 → fed = s.fld (R.CVU_U_ALIVE_POS u) → cap = 0 →
          t.fld (R.CVU_U_POSN_CAP u) = v.toNat % 256) ∧
        same t [R.CVU_U_VALUE u, R.CVU_U_POSN u])) ∧
    (let last := if mode = 1 then after ((List.range aw).map (fun i => BitVec.ofNat 8 (count / 256 ^ i))) % 2 ^ 64 else value
     let result := crcOut w (s.flag (R.CVU_U_CFG_REFOUT u)) (s.fld (R.CVU_U_XOROUT_V u)) last % 2 ^ 64
     let compares := s.flag (R.CVU_U_CFG_EXPEN u) = true
     let differs := compares ∧ result ≠ s.fld (R.CVU_U_EXPECT_V u) % 2 ^ w
     let d := (cap + 256 ^ aw - count % 256 ^ aw) % 256 ^ aw
     let short := fed < s.fld (R.CVU_U_ALIVE_POS u) + aw
     let step_ := max (s.fld (R.CVU_U_CFG_MAXSTEP u)) 1
     let shows := fun (t : State) (code next : Nat) => t.fld (R.CVU_U_STAT_AOUT u) = code ∧ t.fld (R.CVU_U_ALIVE_COUNT u) = next % 2 ^ 32 ∧
       (code ≠ 1 → t.flag (R.CVU_U_STAT_ALIVE_ERR u) = true ∧ bit (t.fld R.CVU_EVENT_UNIT) u = true)
     ∃ t, exec (.cvuFinish m u) s = .next t ∧ t.fld (R.CVU_U_RESULT_V u) = result ∧ t.flag (R.CVU_U_STAT_OPEN u) = false ∧
      t.flag (R.CVU_U_STAT_DONE u) = true ∧ t.fld (R.CVU_U_VALUE_V u) = last ∧
      (compares → ¬ differs → t.flag (R.CVU_U_STAT_MATCH u) = true) ∧
      (differs → t.flag (R.CVU_U_STAT_MATCH u) = false ∧ t.flag (R.CVU_U_STAT_MISMATCH u) = true ∧
        t.fld (R.CVU_U_STAT_MISCNT u) = min (s.fld (R.CVU_U_STAT_MISCNT u) + 1) 255 ∧ bit (t.fld R.CVU_EVENT_UNIT) u = true) ∧
      (mode = 1 → t.fld (R.CVU_U_STAT_AOUT u) = 1 ∧ t.fld (R.CVU_U_ALIVE_COUNT u) = (count + 1) % 256 ^ aw ∧
        t.fld (R.CVU_U_POSN_FED u) = (fed + aw) % 2 ^ 32) ∧
      (mode = 2 → (short → shows t 5 count) ∧ (¬ short → differs → shows t 6 count) ∧
        (¬ short → ¬ differs → seen = false → shows t 2 cap) ∧
        (¬ short → ¬ differs → seen = true → (d = 0 → shows t 3 count) ∧ (step_ < d → shows t 4 cap) ∧
          (1 ≤ d → d ≤ step_ → shows t 1 cap))) ∧
      (mode ≠ 1 → mode ≠ 2 → t.reg (R.CVU_U_ALIVE u) = s.reg (R.CVU_U_ALIVE u) ∧ t.reg (R.CVU_U_POSN u) = s.reg (R.CVU_U_POSN u)) ∧
      (∀ o, o / 0x10000 ≠ 8 → o / 0x10000 ≠ 0xC → t.reg o = s.reg o) ∧ t.mem = s.mem ∧ t.cores = s.cores) ∧
    (∀ x : Word,
      (∃ t, exec (.cvuValueWrite m u (.whole x)) s = .next t ∧ t.fld (R.CVU_U_VALUE_V u) = x.toNat % 2 ^ w ∧
        t.flag (R.CVU_U_STAT_OPEN u) = true ∧ same t [R.CVU_U_VALUE u, R.CVU_U_STAT u]) ∧
      (∃ t, exec (.cvuPosnWrite m u (.whole x)) s = .next t ∧ t.fld (R.CVU_U_POSN_FED u) = x.toNat / 2 ^ 32 ∧
        t.fld (R.CVU_U_POSN_CAP u) = x.toNat % 2 ^ 32 ∧ t.reg (R.CVU_U_STAT u) = s.reg (R.CVU_U_STAT u) ∧
        t.fld (R.CVU_U_VALUE_V u) = value % 2 ^ w ∧ t.mem = s.mem ∧ t.cores = s.cores) ∧
      (∃ t, exec (.cvuExpectWrite m u (.whole x)) s = .next t ∧ t.fld (R.CVU_U_EXPECT_V u) = x.toNat % 2 ^ w ∧
        same t [R.CVU_U_EXPECT u]) ∧
      (∃ t, exec (.cvuAliveCountWrite m u (.whole x)) s = .next t ∧ t.fld (R.CVU_U_ALIVE_COUNT u) = x.toNat % 2 ^ 32 ∧
        bit t.cvuSeen u = true ∧ (¬ locked → t.fld (R.CVU_U_ALIVE_POS u) = x.toNat / 2 ^ 48) ∧
        (locked → t.fld (R.CVU_U_ALIVE_POS u) = s.fld (R.CVU_U_ALIVE_POS u)) ∧ same t [R.CVU_U_ALIVE u, R.DEVICE_ACCERR])) ∧
    (∀ v : BitVec 32,
      let x := v.toNat / 2 ^ 23 % 128
      let passed := fun (t : State) => t.fld (R.CVU_U_CFG_OWNER u) = v.toNat / 32 % 4 ∧ t.flag (R.CVU_U_STAT_OPEN u) = false ∧
        t.reg (R.CVU_U_POSN u) = 0 ∧ t.reg (R.CVU_U_EXPECT u) = 0 ∧ t.fld (R.CVU_U_ALIVE_COUNT u) = 0 ∧ bit t.cvuSeen u = false ∧
        t.mem = s.mem ∧ t.cores = s.cores
      (¬ locked → x < 8 ∨ 64 < x → exec (.cvuOwnerWrite m u v) s = .next s) ∧
      (¬ locked → 8 ≤ x → x ≤ 64 → ∃ t, exec (.cvuOwnerWrite m u v) s = .next t ∧ passed t ∧
        t.fld (R.CVU_U_CFG_WIDTH u) = x ∧ t.fld (R.CVU_U_CFG_DBYTES u) = v.toNat / 128 % 4 ∧
        t.fld (R.CVU_U_VALUE_V u) = s.fld (R.CVU_U_INIT_V u) % 2 ^ x) ∧
      (locked → ∃ t, exec (.cvuOwnerWrite m u v) s = .next t ∧ passed t ∧ t.fld (R.CVU_U_CFG_WIDTH u) = w ∧
        t.fld (R.CVU_U_CFG_DBYTES u) = s.fld (R.CVU_U_CFG_DBYTES u) ∧ t.flag R.DEVICE_ACCERR_LOCKED_WRITE = true ∧
        t.fld (R.CVU_U_VALUE_V u) = s.fld (R.CVU_U_INIT_V u) % 2 ^ w % 2 ^ 64))

/-- From R555, R780, R782, R783, R785: the debug port. An attach is shown and counted; a halted core's Steward stops, runs one
instruction at a step, and goes on at a resume; an injection is counted and has its line's reaction. Where the lifecycle state
does not allow it, none of this happens, and an injection is recorded in ACCERR. -/
def Obligations.DebugCommands : Prop :=
  (∀ (v : BitVec 32) (s : State), s.st ≠ stTRIPPED → s.dbgAllowed 3 = true →
    let a := v.getLsbD 31
    ∃ t, exec (.debugAttach .dbg v) s = .next t ∧ t.flag R.DBG_CTRL_ATTACH = a ∧ t.fld R.DBG_CTRL_CLASS = v.toNat / 2 ^ 29 % 4 ∧
      t.flag R.DBG_STATUS_ATTACHED = a ∧
      t.fld R.DBG_ATTACHCNT_COUNT = (if a then min (s.fld R.DBG_ATTACHCNT_COUNT + 1) (2 ^ 32 - 1) else s.fld R.DBG_ATTACHCNT_COUNT) ∧
      (∀ o, o ∉ [R.DBG_CTRL, R.DBG_STATUS, R.DBG_ATTACHCNT] → t.reg o = s.reg o) ∧ t.mem = s.mem ∧ t.cores = s.cores) ∧
  (∀ (v : BitVec 32) (s : State), s.dbgAllowed 3 = false → ∃ t, exec (.debugAttach .dbg v) s = .next t ∧ t.regs = s.regs ∧
    t.mem = s.mem ∧ t.cores = s.cores) ∧
  (∀ (c : CoreId) (s : State),
    let may := s.dbgAllowed 5 = true
    (¬ may ∨ s.hasCore c = false → exec (.debugHalt c) s = .next s) ∧
    (may → s.hasCore c = true → ∃ t, exec (.debugHalt c) s = .next t ∧ t.core c = { s.core c with dbgHalt := true } ∧
      bit (t.fld R.DBG_STATUS_HALTED) c = true ∧ (∀ q, q ≠ c.val → t.core q = s.core q) ∧ t.mem = s.mem ∧
      ∀ o, o ≠ R.DBG_STATUS → t.reg o = s.reg o) ∧
    (¬ may ∨ (s.core c).dbgHalt = false → exec (.debugStep c) s = .next s ∧ exec (.debugResume c) s = .next s) ∧
    (may → (s.core c).dbgHalt = true →
      exec (.debugStep c) s = .next (s.modCore c (fun k => { k with step := true })) ∧
      ∃ t, exec (.debugResume c) s = .next t ∧ t.core c = { s.core c with dbgHalt := false, step := false } ∧
        bit (t.fld R.DBG_STATUS_HALTED) c = false ∧ (∀ q, q ≠ c.val → t.core q = s.core q) ∧ t.mem = s.mem ∧
        ∀ o, o ≠ R.DBG_STATUS → t.reg o = s.reg o)) ∧
  (∀ (line unit : BitVec 8) (s : State), s.st ≠ stTRIPPED →
    let counted := fun (t : State) => t.fld R.DBG_INJCNT_COUNT = min (s.fld R.DBG_INJCNT_COUNT + 1) (2 ^ 32 - 1)
    let c := Instr.faultInjection .dbg line unit
    let may := s.dbgAllowed 8 = true
    let armed := s.flag R.SAFETY_TRIP_TRIPPED = false
    (¬ may → ∃ t, exec c s = .next t ∧ t.flag R.DEVICE_ACCERR_LOCKED_WRITE = true ∧
      (∀ o, o ≠ R.DEVICE_ACCERR → t.reg o = s.reg o) ∧ t.mem = s.mem ∧ t.cores = s.cores) ∧
    (may → armed → 1 ≤ line.toNat → line.toNat ≤ 4 → unit.toNat < 2 →
      ∃ t, exec c s = .next t ∧ s.Tripped t line.toNat 0 (unit == 1) ∧ counted t) ∧
    (may → line = 0x0F → unit.toNat < 8 → ∃ t, exec c s = .next t ∧ counted t ∧ t.fld R.SAFETY_EVCNT_RECORD =
      min (s.fld R.SAFETY_EVCNT_RECORD + 1) (2 ^ 16 - 1) ∧ t.mem = s.mem ∧ t.cores = s.cores) ∧
    (may → line = 0x20 ∨ line = 0x21 → unit = 0 →
      let adr := s.fld R.DBG_INJADDR_ADDR
      ∃ t, exec c s = .next t ∧ counted t ∧ t.mem = s.mem ∧ t.cores = s.cores ∧
        (isDram (64 * adr) = true → SMap.get (fun _ => 0) t.ecc adr = line.toNat - 0x1F) ∧ ∀ x, x ≠ adr → SMap.get (fun _ => 0) t.ecc x =
          SMap.get (fun _ => 0) s.ecc x) ∧
    (may → 0x22 ≤ line.toNat → ∃ t, exec c s = .next t ∧ t.flag R.DEVICE_ACCERR_LOCKED_WRITE = true ∧
      (∀ o, o ≠ R.DEVICE_ACCERR → t.reg o = s.reg o) ∧ t.mem = s.mem ∧ t.cores = s.cores))
end

