-- ==== Sys2Proof/Laws/Bytes.lean ====
section
/-! SUPPORT. The laws of little-endian bytes and of the check values. -/
namespace Sys2Proof.Machine

@[simp] theorem leBytes_length (n x : Nat) : (leBytes n x).length = n := by
  induction n generalizing x with
  | zero => rfl
  | succ n ih => simp [leBytes, ih]

/-- The little-endian bytes of a number give the number back. -/
theorem leNat_leBytes (n x : Nat) : leNat (leBytes n x) = x % 256 ^ n := by
  induction n generalizing x with
  | zero => simp [leBytes, leNat, Nat.mod_one]
  | succ n ih =>
    have h : (BitVec.ofNat 8 x).toNat = x % 256 := rfl
    rw [leBytes, leNat, ih, h, Nat.pow_succ', Nat.mod_mul]

/-- A list of `n` bytes is a number below 256 to the power `n`. -/
theorem leNat_lt (l : List Byte) : leNat l < 256 ^ l.length := by
  induction l with
  | nil => simp [leNat]
  | cons b t ih =>
    have hb : b.toNat < 256 := b.isLt
    rw [leNat, List.length_cons, Nat.pow_succ]
    omega

/-- A sum over the set bits is at most the sum over all. -/
theorem foldl_bits_le (p : Nat → Bool) (f : Nat → Nat) (l : List Nat) (r : Nat) :
    l.foldl (fun r i => if p i then r + f i else r) r ≤ r + (l.map f).sum := by
  induction l generalizing r with
  | nil => simp
  | cons a t ih =>
    simp only [List.foldl_cons, List.map_cons, List.sum_cons]
    refine (ih _).trans ?_
    split <;> omega

/-- A reflected 32-bit value stays below 2^32. -/
theorem reflect_lt (x : Nat) : reflect 32 x < 2 ^ 32 := by
  have h := foldl_bits_le (bit x) (fun i => 2 ^ (32 - 1 - i)) (List.range 32) 0
  have hs : ((List.range 32).map (fun i => 2 ^ (32 - 1 - i))).sum = 2 ^ 32 - 1 := by decide
  unfold reflect
  omega

/-- A CRC-32 fits in 32 bits. -/
theorem crc32_lt (l : List Byte) : crc32 l < 2 ^ 32 := by
  unfold crc32 crcOut nxor
  exact Nat.xor_lt_two_pow (reflect_lt _) (by decide)

/-- The four bytes of a CRC-32 read back as it (R414, R549, R751). -/
theorem leNat_crc32 (l : List Byte) : leNat (leBytes 4 (crc32 l)) = crc32 l := by
  rw [leNat_leBytes]
  exact Nat.mod_eq_of_lt (crc32_lt l)

end Sys2Proof.Machine
end

