-- ==== Sys2Proof/Laws/SMap.lean ====
section
/-! SUPPORT. The laws of sparse maps: a read after a write, and that every operation keeps the canonical form. -/
namespace Sys2Proof.Machine.SMap
variable {α : Type}

theorem get_insert (d : Nat → α) (m : SMap α) (k k' : Nat) (v : α) :
    get d (insert m k v) k' = if k' = k then v else get d m k' := by
  induction m with
  | nil => simp [insert, get]
  | cons p t ih =>
    obtain ⟨q, w⟩ := p
    unfold insert
    by_cases h1 : k < q
    · simp [h1, get]
    · by_cases h2 : k = q
      · subst h2; by_cases h3 : k' = k <;> simp [get, h3]
      · rw [if_neg h1, if_neg h2]
        simp only [get, ih]
        by_cases h3 : k' = q
        · have : k' ≠ k := by omega
          simp [h3, Ne.symm h2]
        · simp [h3]

theorem get_erase (d : Nat → α) (m : SMap α) (k k' : Nat) :
    get d (erase m k) k' = if k' = k then d k else get d m k' := by
  induction m with
  | nil => by_cases h : k' = k <;> simp [erase, get, h]
  | cons p t ih =>
    obtain ⟨q, w⟩ := p
    unfold erase at ih ⊢
    by_cases h : q = k
    · subst h; simp only [List.filter, ne_eq, not_true_eq_false, decide_false, ih, get]
      by_cases h3 : k' = q <;> simp [h3]
    · simp only [List.filter, ne_eq, h, not_false_eq_true, decide_true, get, ih]
      by_cases h3 : k' = q
      · have : k' ≠ k := by omega
        simp [h3, h]
      · simp [h3]

/-- A read after a write: the written value at its key, the old value elsewhere. -/
@[simp] theorem get_set [DecidableEq α] (d : Nat → α) (m : SMap α) (k k' : Nat) (v : α) :
    get d (set d m k v) k' = if k' = k then v else get d m k' := by
  unfold set
  split_ifs with h1 h2 h2
  · rw [get_erase, if_pos h2, ← h1]
  · rw [get_erase, if_neg h2]
  · rw [get_insert, if_pos h2]
  · rw [get_insert, if_neg h2]

theorem mem_insert (m : SMap α) (k : Nat) (v : α) (p : Nat × α) (h : p ∈ insert m k v) :
    p = (k, v) ∨ p ∈ m := by
  induction m with
  | nil => simpa [insert] using h
  | cons q t ih =>
    unfold insert at h
    split_ifs at h with h1 h2
    · simpa using h
    · simp only [List.mem_cons] at h ⊢; tauto
    · simp only [List.mem_cons] at h ⊢
      rcases h with h | h
      · tauto
      · rcases ih h with h | h <;> tauto

theorem pairwise_insert (m : SMap α) (k : Nat) (v : α) (h : m.Pairwise (fun p q => p.1 < q.1)) :
    (insert m k v).Pairwise (fun p q => p.1 < q.1) := by
  induction m with
  | nil => simp [insert]
  | cons q t ih =>
    rw [List.pairwise_cons] at h
    unfold insert
    split_ifs with h1 h2
    · refine List.pairwise_cons.2 ⟨?_, List.pairwise_cons.2 h⟩
      intro p hp
      rcases List.mem_cons.1 hp with rfl | hp
      · exact h1
      · exact lt_trans h1 (h.1 p hp)
    · subst h2; exact List.pairwise_cons.2 h
    · refine List.pairwise_cons.2 ⟨?_, ih h.2⟩
      intro p hp
      rcases mem_insert t k v p hp with rfl | hp
      · show q.1 < k; omega
      · exact h.1 p hp

/-- A write keeps the canonical form. -/
theorem wf_set [DecidableEq α] (d : Nat → α) (m : SMap α) (k : Nat) (v : α) (h : wf d m) :
    wf d (set d m k v) := by
  unfold set
  split_ifs with h1
  · exact ⟨h.1.filter _, fun p hp => h.2 p (List.mem_filter.1 hp).1⟩
  · refine ⟨pairwise_insert m k v h.1, fun p hp => ?_⟩
    rcases mem_insert m k v p hp with rfl | hp
    · exact h1
    · exact h.2 p hp

/-- Unlisting keys keeps the canonical form. -/
theorem wf_dropKeys [DecidableEq α] (d : Nat → α) (m : SMap α) (p : Nat → Bool) (h : wf d m) :
    wf d (dropKeys m p) :=
  ⟨h.1.filter _, fun q hq => h.2 q (List.mem_filter.1 hq).1⟩

/-- The empty map has the canonical form. -/
theorem wf_nil [DecidableEq α] (d : Nat → α) : wf d [] := by
  simp [wf]

end Sys2Proof.Machine.SMap
end

