-- ==== Sys2Proof/Laws/State.lean ====
section
/-! SUPPORT. The laws of the accessors of State: what each update leaves unchanged, and a read after a write of each register,
core and byte. -/
namespace Sys2Proof.Machine

/-! ### What an update of the state leaves unchanged -/

@[simp] theorem State.setReg_pending (s : State) (off : Nat) (v : BitVec 64) : (s.setReg off v).pending = s.pending := rfl
@[simp] theorem State.setReg_mem (s : State) (off : Nat) (v : BitVec 64) : (s.setReg off v).mem = s.mem := rfl
@[simp] theorem State.setReg_memGen (s : State) (off : Nat) (v : BitVec 64) : (s.setReg off v).memGen = s.memGen := rfl
@[simp] theorem State.setReg_poison (s : State) (off : Nat) (v : BitVec 64) : (s.setReg off v).poison = s.poison := rfl
@[simp] theorem State.setReg_ecc (s : State) (off : Nat) (v : BitVec 64) : (s.setReg off v).ecc = s.ecc := rfl
@[simp] theorem State.setReg_cores (s : State) (off : Nat) (v : BitVec 64) : (s.setReg off v).cores = s.cores := rfl
@[simp] theorem State.setReg_fab (s : State) (off : Nat) (v : BitVec 64) : (s.setReg off v).fab = s.fab := rfl
@[simp] theorem State.setReg_pins (s : State) (off : Nat) (v : BitVec 64) : (s.setReg off v).pins = s.pins := rfl
@[simp] theorem State.setReg_dev (s : State) (off : Nat) (v : BitVec 64) : (s.setReg off v).dev = s.dev := rfl
@[simp] theorem State.setReg_reeve (s : State) (off : Nat) (v : BitVec 64) : (s.setReg off v).reeve = s.reeve := rfl
@[simp] theorem State.setReg_fns (s : State) (off : Nat) (v : BitVec 64) : (s.setReg off v).fns = s.fns := rfl
@[simp] theorem State.setReg_irqs (s : State) (off : Nat) (v : BitVec 64) : (s.setReg off v).irqs = s.irqs := rfl
@[simp] theorem State.setReg_halves (s : State) (off : Nat) (v : BitVec 64) : (s.setReg off v).halves = s.halves := rfl
@[simp] theorem State.setReg_sun (s : State) (off : Nat) (v : BitVec 64) : (s.setReg off v).sun = s.sun := rfl
@[simp] theorem State.setReg_samples (s : State) (off : Nat) (v : BitVec 64) : (s.setReg off v).samples = s.samples := rfl
@[simp] theorem State.setReg_jobs (s : State) (off : Nat) (v : BitVec 64) : (s.setReg off v).jobs = s.jobs := rfl
@[simp] theorem State.setReg_net (s : State) (off : Nat) (v : BitVec 64) : (s.setReg off v).net = s.net := rfl
@[simp] theorem State.setReg_taps (s : State) (off : Nat) (v : BitVec 64) : (s.setReg off v).taps = s.taps := rfl
@[simp] theorem State.setReg_chimes (s : State) (off : Nat) (v : BitVec 64) : (s.setReg off v).chimes = s.chimes := rfl
@[simp] theorem State.setReg_cvuSeen (s : State) (off : Nat) (v : BitVec 64) : (s.setReg off v).cvuSeen = s.cvuSeen := rfl
@[simp] theorem State.setReg_param (s : State) (off : Nat) (v : BitVec 64) : (s.setReg off v).param = s.param := rfl
@[simp] theorem State.setReg_sio (s : State) (off : Nat) (v : BitVec 64) : (s.setReg off v).sio = s.sio := rfl
@[simp] theorem State.setReg_ladder (s : State) (off : Nat) (v : BitVec 64) : (s.setReg off v).ladder = s.ladder := rfl
@[simp] theorem State.setReg_nvm (s : State) (off : Nat) (v : BitVec 64) : (s.setReg off v).nvm = s.nvm := rfl
@[simp] theorem State.setReg_keep (s : State) (off : Nat) (v : BitVec 64) : (s.setReg off v).keep = s.keep := rfl
@[simp] theorem State.setReg_nim (s : State) (off : Nat) (v : BitVec 64) : (s.setReg off v).nim = s.nim := rfl
@[simp] theorem State.setReg_power (s : State) (off : Nat) (v : BitVec 64) : (s.setReg off v).power = s.power := rfl
@[simp] theorem State.setReg_trace (s : State) (off : Nat) (v : BitVec 64) : (s.setReg off v).trace = s.trace := rfl
@[simp] theorem State.setReg_freeCtr (s : State) (off : Nat) (v : BitVec 64) : (s.setReg off v).freeCtr = s.freeCtr := rfl
@[simp] theorem State.setFld_pending (s : State) (f : Fld) (v : Nat) : (s.setFld f v).pending = s.pending := rfl
@[simp] theorem State.setFld_mem (s : State) (f : Fld) (v : Nat) : (s.setFld f v).mem = s.mem := rfl
@[simp] theorem State.setFld_memGen (s : State) (f : Fld) (v : Nat) : (s.setFld f v).memGen = s.memGen := rfl
@[simp] theorem State.setFld_poison (s : State) (f : Fld) (v : Nat) : (s.setFld f v).poison = s.poison := rfl
@[simp] theorem State.setFld_ecc (s : State) (f : Fld) (v : Nat) : (s.setFld f v).ecc = s.ecc := rfl
@[simp] theorem State.setFld_cores (s : State) (f : Fld) (v : Nat) : (s.setFld f v).cores = s.cores := rfl
@[simp] theorem State.setFld_fab (s : State) (f : Fld) (v : Nat) : (s.setFld f v).fab = s.fab := rfl
@[simp] theorem State.setFld_pins (s : State) (f : Fld) (v : Nat) : (s.setFld f v).pins = s.pins := rfl
@[simp] theorem State.setFld_dev (s : State) (f : Fld) (v : Nat) : (s.setFld f v).dev = s.dev := rfl
@[simp] theorem State.setFld_reeve (s : State) (f : Fld) (v : Nat) : (s.setFld f v).reeve = s.reeve := rfl
@[simp] theorem State.setFld_fns (s : State) (f : Fld) (v : Nat) : (s.setFld f v).fns = s.fns := rfl
@[simp] theorem State.setFld_irqs (s : State) (f : Fld) (v : Nat) : (s.setFld f v).irqs = s.irqs := rfl
@[simp] theorem State.setFld_halves (s : State) (f : Fld) (v : Nat) : (s.setFld f v).halves = s.halves := rfl
@[simp] theorem State.setFld_sun (s : State) (f : Fld) (v : Nat) : (s.setFld f v).sun = s.sun := rfl
@[simp] theorem State.setFld_samples (s : State) (f : Fld) (v : Nat) : (s.setFld f v).samples = s.samples := rfl
@[simp] theorem State.setFld_jobs (s : State) (f : Fld) (v : Nat) : (s.setFld f v).jobs = s.jobs := rfl
@[simp] theorem State.setFld_net (s : State) (f : Fld) (v : Nat) : (s.setFld f v).net = s.net := rfl
@[simp] theorem State.setFld_taps (s : State) (f : Fld) (v : Nat) : (s.setFld f v).taps = s.taps := rfl
@[simp] theorem State.setFld_chimes (s : State) (f : Fld) (v : Nat) : (s.setFld f v).chimes = s.chimes := rfl
@[simp] theorem State.setFld_cvuSeen (s : State) (f : Fld) (v : Nat) : (s.setFld f v).cvuSeen = s.cvuSeen := rfl
@[simp] theorem State.setFld_param (s : State) (f : Fld) (v : Nat) : (s.setFld f v).param = s.param := rfl
@[simp] theorem State.setFld_sio (s : State) (f : Fld) (v : Nat) : (s.setFld f v).sio = s.sio := rfl
@[simp] theorem State.setFld_ladder (s : State) (f : Fld) (v : Nat) : (s.setFld f v).ladder = s.ladder := rfl
@[simp] theorem State.setFld_nvm (s : State) (f : Fld) (v : Nat) : (s.setFld f v).nvm = s.nvm := rfl
@[simp] theorem State.setFld_keep (s : State) (f : Fld) (v : Nat) : (s.setFld f v).keep = s.keep := rfl
@[simp] theorem State.setFld_nim (s : State) (f : Fld) (v : Nat) : (s.setFld f v).nim = s.nim := rfl
@[simp] theorem State.setFld_power (s : State) (f : Fld) (v : Nat) : (s.setFld f v).power = s.power := rfl
@[simp] theorem State.setFld_trace (s : State) (f : Fld) (v : Nat) : (s.setFld f v).trace = s.trace := rfl
@[simp] theorem State.setFld_freeCtr (s : State) (f : Fld) (v : Nat) : (s.setFld f v).freeCtr = s.freeCtr := rfl
@[simp] theorem State.setCore_pending (s : State) (n : Nat) (k : Core) : (s.setCore n k).pending = s.pending := rfl
@[simp] theorem State.setCore_regs (s : State) (n : Nat) (k : Core) : (s.setCore n k).regs = s.regs := rfl
@[simp] theorem State.setCore_mem (s : State) (n : Nat) (k : Core) : (s.setCore n k).mem = s.mem := rfl
@[simp] theorem State.setCore_memGen (s : State) (n : Nat) (k : Core) : (s.setCore n k).memGen = s.memGen := rfl
@[simp] theorem State.setCore_poison (s : State) (n : Nat) (k : Core) : (s.setCore n k).poison = s.poison := rfl
@[simp] theorem State.setCore_ecc (s : State) (n : Nat) (k : Core) : (s.setCore n k).ecc = s.ecc := rfl
@[simp] theorem State.setCore_fab (s : State) (n : Nat) (k : Core) : (s.setCore n k).fab = s.fab := rfl
@[simp] theorem State.setCore_pins (s : State) (n : Nat) (k : Core) : (s.setCore n k).pins = s.pins := rfl
@[simp] theorem State.setCore_dev (s : State) (n : Nat) (k : Core) : (s.setCore n k).dev = s.dev := rfl
@[simp] theorem State.setCore_reeve (s : State) (n : Nat) (k : Core) : (s.setCore n k).reeve = s.reeve := rfl
@[simp] theorem State.setCore_fns (s : State) (n : Nat) (k : Core) : (s.setCore n k).fns = s.fns := rfl
@[simp] theorem State.setCore_irqs (s : State) (n : Nat) (k : Core) : (s.setCore n k).irqs = s.irqs := rfl
@[simp] theorem State.setCore_halves (s : State) (n : Nat) (k : Core) : (s.setCore n k).halves = s.halves := rfl
@[simp] theorem State.setCore_sun (s : State) (n : Nat) (k : Core) : (s.setCore n k).sun = s.sun := rfl
@[simp] theorem State.setCore_samples (s : State) (n : Nat) (k : Core) : (s.setCore n k).samples = s.samples := rfl
@[simp] theorem State.setCore_jobs (s : State) (n : Nat) (k : Core) : (s.setCore n k).jobs = s.jobs := rfl
@[simp] theorem State.setCore_net (s : State) (n : Nat) (k : Core) : (s.setCore n k).net = s.net := rfl
@[simp] theorem State.setCore_taps (s : State) (n : Nat) (k : Core) : (s.setCore n k).taps = s.taps := rfl
@[simp] theorem State.setCore_chimes (s : State) (n : Nat) (k : Core) : (s.setCore n k).chimes = s.chimes := rfl
@[simp] theorem State.setCore_cvuSeen (s : State) (n : Nat) (k : Core) : (s.setCore n k).cvuSeen = s.cvuSeen := rfl
@[simp] theorem State.setCore_param (s : State) (n : Nat) (k : Core) : (s.setCore n k).param = s.param := rfl
@[simp] theorem State.setCore_sio (s : State) (n : Nat) (k : Core) : (s.setCore n k).sio = s.sio := rfl
@[simp] theorem State.setCore_ladder (s : State) (n : Nat) (k : Core) : (s.setCore n k).ladder = s.ladder := rfl
@[simp] theorem State.setCore_nvm (s : State) (n : Nat) (k : Core) : (s.setCore n k).nvm = s.nvm := rfl
@[simp] theorem State.setCore_keep (s : State) (n : Nat) (k : Core) : (s.setCore n k).keep = s.keep := rfl
@[simp] theorem State.setCore_nim (s : State) (n : Nat) (k : Core) : (s.setCore n k).nim = s.nim := rfl
@[simp] theorem State.setCore_power (s : State) (n : Nat) (k : Core) : (s.setCore n k).power = s.power := rfl
@[simp] theorem State.setCore_trace (s : State) (n : Nat) (k : Core) : (s.setCore n k).trace = s.trace := rfl
@[simp] theorem State.setCore_freeCtr (s : State) (n : Nat) (k : Core) : (s.setCore n k).freeCtr = s.freeCtr := rfl
@[simp] theorem State.modCore_pending (s : State) (n : Nat) (g : Core → Core) : (s.modCore n g).pending = s.pending := rfl
@[simp] theorem State.modCore_regs (s : State) (n : Nat) (g : Core → Core) : (s.modCore n g).regs = s.regs := rfl
@[simp] theorem State.modCore_mem (s : State) (n : Nat) (g : Core → Core) : (s.modCore n g).mem = s.mem := rfl
@[simp] theorem State.modCore_memGen (s : State) (n : Nat) (g : Core → Core) : (s.modCore n g).memGen = s.memGen := rfl
@[simp] theorem State.modCore_poison (s : State) (n : Nat) (g : Core → Core) : (s.modCore n g).poison = s.poison := rfl
@[simp] theorem State.modCore_ecc (s : State) (n : Nat) (g : Core → Core) : (s.modCore n g).ecc = s.ecc := rfl
@[simp] theorem State.modCore_fab (s : State) (n : Nat) (g : Core → Core) : (s.modCore n g).fab = s.fab := rfl
@[simp] theorem State.modCore_pins (s : State) (n : Nat) (g : Core → Core) : (s.modCore n g).pins = s.pins := rfl
@[simp] theorem State.modCore_dev (s : State) (n : Nat) (g : Core → Core) : (s.modCore n g).dev = s.dev := rfl
@[simp] theorem State.modCore_reeve (s : State) (n : Nat) (g : Core → Core) : (s.modCore n g).reeve = s.reeve := rfl
@[simp] theorem State.modCore_fns (s : State) (n : Nat) (g : Core → Core) : (s.modCore n g).fns = s.fns := rfl
@[simp] theorem State.modCore_irqs (s : State) (n : Nat) (g : Core → Core) : (s.modCore n g).irqs = s.irqs := rfl
@[simp] theorem State.modCore_halves (s : State) (n : Nat) (g : Core → Core) : (s.modCore n g).halves = s.halves := rfl
@[simp] theorem State.modCore_sun (s : State) (n : Nat) (g : Core → Core) : (s.modCore n g).sun = s.sun := rfl
@[simp] theorem State.modCore_samples (s : State) (n : Nat) (g : Core → Core) : (s.modCore n g).samples = s.samples := rfl
@[simp] theorem State.modCore_jobs (s : State) (n : Nat) (g : Core → Core) : (s.modCore n g).jobs = s.jobs := rfl
@[simp] theorem State.modCore_net (s : State) (n : Nat) (g : Core → Core) : (s.modCore n g).net = s.net := rfl
@[simp] theorem State.modCore_taps (s : State) (n : Nat) (g : Core → Core) : (s.modCore n g).taps = s.taps := rfl
@[simp] theorem State.modCore_chimes (s : State) (n : Nat) (g : Core → Core) : (s.modCore n g).chimes = s.chimes := rfl
@[simp] theorem State.modCore_cvuSeen (s : State) (n : Nat) (g : Core → Core) : (s.modCore n g).cvuSeen = s.cvuSeen := rfl
@[simp] theorem State.modCore_param (s : State) (n : Nat) (g : Core → Core) : (s.modCore n g).param = s.param := rfl
@[simp] theorem State.modCore_sio (s : State) (n : Nat) (g : Core → Core) : (s.modCore n g).sio = s.sio := rfl
@[simp] theorem State.modCore_ladder (s : State) (n : Nat) (g : Core → Core) : (s.modCore n g).ladder = s.ladder := rfl
@[simp] theorem State.modCore_nvm (s : State) (n : Nat) (g : Core → Core) : (s.modCore n g).nvm = s.nvm := rfl
@[simp] theorem State.modCore_keep (s : State) (n : Nat) (g : Core → Core) : (s.modCore n g).keep = s.keep := rfl
@[simp] theorem State.modCore_nim (s : State) (n : Nat) (g : Core → Core) : (s.modCore n g).nim = s.nim := rfl
@[simp] theorem State.modCore_power (s : State) (n : Nat) (g : Core → Core) : (s.modCore n g).power = s.power := rfl
@[simp] theorem State.modCore_trace (s : State) (n : Nat) (g : Core → Core) : (s.modCore n g).trace = s.trace := rfl
@[simp] theorem State.modCore_freeCtr (s : State) (n : Nat) (g : Core → Core) : (s.modCore n g).freeCtr = s.freeCtr := rfl
@[simp] theorem State.setByte_pending (s : State) (a : Nat) (b : Byte) : (s.setByte a b).pending = s.pending := rfl
@[simp] theorem State.setByte_regs (s : State) (a : Nat) (b : Byte) : (s.setByte a b).regs = s.regs := rfl
@[simp] theorem State.setByte_memGen (s : State) (a : Nat) (b : Byte) : (s.setByte a b).memGen = s.memGen := rfl
@[simp] theorem State.setByte_poison (s : State) (a : Nat) (b : Byte) : (s.setByte a b).poison = s.poison := rfl
@[simp] theorem State.setByte_ecc (s : State) (a : Nat) (b : Byte) : (s.setByte a b).ecc = s.ecc := rfl
@[simp] theorem State.setByte_cores (s : State) (a : Nat) (b : Byte) : (s.setByte a b).cores = s.cores := rfl
@[simp] theorem State.setByte_fab (s : State) (a : Nat) (b : Byte) : (s.setByte a b).fab = s.fab := rfl
@[simp] theorem State.setByte_pins (s : State) (a : Nat) (b : Byte) : (s.setByte a b).pins = s.pins := rfl
@[simp] theorem State.setByte_dev (s : State) (a : Nat) (b : Byte) : (s.setByte a b).dev = s.dev := rfl
@[simp] theorem State.setByte_reeve (s : State) (a : Nat) (b : Byte) : (s.setByte a b).reeve = s.reeve := rfl
@[simp] theorem State.setByte_fns (s : State) (a : Nat) (b : Byte) : (s.setByte a b).fns = s.fns := rfl
@[simp] theorem State.setByte_irqs (s : State) (a : Nat) (b : Byte) : (s.setByte a b).irqs = s.irqs := rfl
@[simp] theorem State.setByte_halves (s : State) (a : Nat) (b : Byte) : (s.setByte a b).halves = s.halves := rfl
@[simp] theorem State.setByte_sun (s : State) (a : Nat) (b : Byte) : (s.setByte a b).sun = s.sun := rfl
@[simp] theorem State.setByte_samples (s : State) (a : Nat) (b : Byte) : (s.setByte a b).samples = s.samples := rfl
@[simp] theorem State.setByte_jobs (s : State) (a : Nat) (b : Byte) : (s.setByte a b).jobs = s.jobs := rfl
@[simp] theorem State.setByte_net (s : State) (a : Nat) (b : Byte) : (s.setByte a b).net = s.net := rfl
@[simp] theorem State.setByte_taps (s : State) (a : Nat) (b : Byte) : (s.setByte a b).taps = s.taps := rfl
@[simp] theorem State.setByte_chimes (s : State) (a : Nat) (b : Byte) : (s.setByte a b).chimes = s.chimes := rfl
@[simp] theorem State.setByte_cvuSeen (s : State) (a : Nat) (b : Byte) : (s.setByte a b).cvuSeen = s.cvuSeen := rfl
@[simp] theorem State.setByte_param (s : State) (a : Nat) (b : Byte) : (s.setByte a b).param = s.param := rfl
@[simp] theorem State.setByte_sio (s : State) (a : Nat) (b : Byte) : (s.setByte a b).sio = s.sio := rfl
@[simp] theorem State.setByte_ladder (s : State) (a : Nat) (b : Byte) : (s.setByte a b).ladder = s.ladder := rfl
@[simp] theorem State.setByte_nvm (s : State) (a : Nat) (b : Byte) : (s.setByte a b).nvm = s.nvm := rfl
@[simp] theorem State.setByte_keep (s : State) (a : Nat) (b : Byte) : (s.setByte a b).keep = s.keep := rfl
@[simp] theorem State.setByte_nim (s : State) (a : Nat) (b : Byte) : (s.setByte a b).nim = s.nim := rfl
@[simp] theorem State.setByte_power (s : State) (a : Nat) (b : Byte) : (s.setByte a b).power = s.power := rfl
@[simp] theorem State.setByte_trace (s : State) (a : Nat) (b : Byte) : (s.setByte a b).trace = s.trace := rfl
@[simp] theorem State.setByte_freeCtr (s : State) (a : Nat) (b : Byte) : (s.setByte a b).freeCtr = s.freeCtr := rfl

/-! ### What an update of a core leaves unchanged -/

@[simp] theorem Core.setS_p (k : Core) (r : Nat) (v : Word) : (k.setS r v).p = k.p := by unfold Core.setS; split <;> rfl
@[simp] theorem Core.setS_pc (k : Core) (r : Nat) (v : Word) : (k.setS r v).pc = k.pc := by unfold Core.setS; split <;> rfl
@[simp] theorem Core.setS_priv (k : Core) (r : Nat) (v : Word) : (k.setS r v).priv = k.priv := by unfold Core.setS; split <;> rfl
@[simp] theorem Core.setS_ctx (k : Core) (r : Nat) (v : Word) : (k.setS r v).ctx = k.ctx := by unfold Core.setS; split <;> rfl
@[simp] theorem Core.setS_csr (k : Core) (r : Nat) (v : Word) : (k.setS r v).csr = k.csr := by unfold Core.setS; split <;> rfl
@[simp] theorem Core.setS_stw (k : Core) (r : Nat) (v : Word) : (k.setS r v).stw = k.stw := by unfold Core.setS; split <;> rfl
@[simp] theorem Core.setS_dbgHalt (k : Core) (r : Nat) (v : Word) : (k.setS r v).dbgHalt = k.dbgHalt := by unfold Core.setS; split <;> rfl
@[simp] theorem Core.setS_pend (k : Core) (r : Nat) (v : Word) : (k.setS r v).pend = k.pend := by unfold Core.setS; split <;> rfl
@[simp] theorem Core.setS_slot (k : Core) (r : Nat) (v : Word) : (k.setS r v).slot = k.slot := by unfold Core.setS; split <;> rfl
@[simp] theorem Core.setS_icache (k : Core) (r : Nat) (v : Word) : (k.setS r v).icache = k.icache := by unfold Core.setS; split <;> rfl
@[simp] theorem Core.setS_dcache (k : Core) (r : Nat) (v : Word) : (k.setS r v).dcache = k.dcache := by unfold Core.setS; split <;> rfl
@[simp] theorem Core.setS_queues (k : Core) (r : Nat) (v : Word) : (k.setS r v).queues = k.queues := by unfold Core.setS; split <;> rfl
@[simp] theorem Core.setS_t (k : Core) (r : Nat) (v : Word) : (k.setS r v).t = k.t := by unfold Core.setS; split <;> rfl
@[simp] theorem Core.setS_v (k : Core) (r : Nat) (v : Word) : (k.setS r v).v = k.v := by unfold Core.setS; split <;> rfl
@[simp] theorem Core.setS_m (k : Core) (r : Nat) (v : Word) : (k.setS r v).m = k.m := by unfold Core.setS; split <;> rfl
@[simp] theorem Core.setS_vcfg (k : Core) (r : Nat) (v : Word) : (k.setS r v).vcfg = k.vcfg := by unfold Core.setS; split <;> rfl
@[simp] theorem Core.setS_ccfg (k : Core) (r : Nat) (v : Word) : (k.setS r v).ccfg = k.ccfg := by unfold Core.setS; split <;> rfl
@[simp] theorem Core.setS_cres (k : Core) (r : Nat) (v : Word) : (k.setS r v).cres = k.cres := by unfold Core.setS; split <;> rfl
@[simp] theorem Core.setS_watches (k : Core) (r : Nat) (v : Word) : (k.setS r v).watches = k.watches := by unfold Core.setS; split <;> rfl
@[simp] theorem Core.setS_pdelta (k : Core) (r : Nat) (v : Word) : (k.setS r v).pdelta = k.pdelta := by unfold Core.setS; split <;> rfl
@[simp] theorem Core.setS_arrived (k : Core) (r : Nat) (v : Word) : (k.setS r v).arrived = k.arrived := by unfold Core.setS; split <;> rfl
@[simp] theorem Core.setS_mboxSeq (k : Core) (r : Nat) (v : Word) : (k.setS r v).mboxSeq = k.mboxSeq := by unfold Core.setS; split <;> rfl
@[simp] theorem Core.setS_withheld (k : Core) (r : Nat) (v : Word) : (k.setS r v).withheld = k.withheld := by unfold Core.setS; split <;> rfl
@[simp] theorem Core.setS_held (k : Core) (r : Nat) (v : Word) : (k.setS r v).held = k.held := by unfold Core.setS; split <;> rfl
@[simp] theorem Core.setS_step (k : Core) (r : Nat) (v : Word) : (k.setS r v).step = k.step := by unfold Core.setS; split <;> rfl
@[simp] theorem Core.setS_away (k : Core) (r : Nat) (v : Word) : (k.setS r v).away = k.away := by unfold Core.setS; split <;> rfl
@[simp] theorem Core.setS_acc (k : Core) (r : Nat) (v : Word) : (k.setS r v).acc = k.acc := by unfold Core.setS; split <;> rfl
@[simp] theorem Core.setS_prefetch (k : Core) (r : Nat) (v : Word) : (k.setS r v).prefetch = k.prefetch := by unfold Core.setS; split <;> rfl
@[simp] theorem Core.setS_dlAt (k : Core) (r : Nat) (v : Word) : (k.setS r v).dlAt = k.dlAt := by unfold Core.setS; split <;> rfl
@[simp] theorem Core.setS_dlDevAt (k : Core) (r : Nat) (v : Word) : (k.setS r v).dlDevAt = k.dlDevAt := by unfold Core.setS; split <;> rfl
@[simp] theorem Core.setP_s (k : Core) (r : Nat) (v : Bool) : (k.setP r v).s = k.s := by unfold Core.setP; split <;> rfl
@[simp] theorem Core.setP_pc (k : Core) (r : Nat) (v : Bool) : (k.setP r v).pc = k.pc := by unfold Core.setP; split <;> rfl
@[simp] theorem Core.setP_priv (k : Core) (r : Nat) (v : Bool) : (k.setP r v).priv = k.priv := by unfold Core.setP; split <;> rfl
@[simp] theorem Core.setP_ctx (k : Core) (r : Nat) (v : Bool) : (k.setP r v).ctx = k.ctx := by unfold Core.setP; split <;> rfl
@[simp] theorem Core.setP_csr (k : Core) (r : Nat) (v : Bool) : (k.setP r v).csr = k.csr := by unfold Core.setP; split <;> rfl
@[simp] theorem Core.setP_stw (k : Core) (r : Nat) (v : Bool) : (k.setP r v).stw = k.stw := by unfold Core.setP; split <;> rfl
@[simp] theorem Core.setP_dbgHalt (k : Core) (r : Nat) (v : Bool) : (k.setP r v).dbgHalt = k.dbgHalt := by unfold Core.setP; split <;> rfl
@[simp] theorem Core.setP_pend (k : Core) (r : Nat) (v : Bool) : (k.setP r v).pend = k.pend := by unfold Core.setP; split <;> rfl
@[simp] theorem Core.setP_slot (k : Core) (r : Nat) (v : Bool) : (k.setP r v).slot = k.slot := by unfold Core.setP; split <;> rfl
@[simp] theorem Core.setP_icache (k : Core) (r : Nat) (v : Bool) : (k.setP r v).icache = k.icache := by unfold Core.setP; split <;> rfl
@[simp] theorem Core.setP_dcache (k : Core) (r : Nat) (v : Bool) : (k.setP r v).dcache = k.dcache := by unfold Core.setP; split <;> rfl
@[simp] theorem Core.setP_queues (k : Core) (r : Nat) (v : Bool) : (k.setP r v).queues = k.queues := by unfold Core.setP; split <;> rfl
@[simp] theorem Core.setP_t (k : Core) (r : Nat) (v : Bool) : (k.setP r v).t = k.t := by unfold Core.setP; split <;> rfl
@[simp] theorem Core.setP_v (k : Core) (r : Nat) (v : Bool) : (k.setP r v).v = k.v := by unfold Core.setP; split <;> rfl
@[simp] theorem Core.setP_m (k : Core) (r : Nat) (v : Bool) : (k.setP r v).m = k.m := by unfold Core.setP; split <;> rfl
@[simp] theorem Core.setP_vcfg (k : Core) (r : Nat) (v : Bool) : (k.setP r v).vcfg = k.vcfg := by unfold Core.setP; split <;> rfl
@[simp] theorem Core.setP_ccfg (k : Core) (r : Nat) (v : Bool) : (k.setP r v).ccfg = k.ccfg := by unfold Core.setP; split <;> rfl
@[simp] theorem Core.setP_cres (k : Core) (r : Nat) (v : Bool) : (k.setP r v).cres = k.cres := by unfold Core.setP; split <;> rfl
@[simp] theorem Core.setP_watches (k : Core) (r : Nat) (v : Bool) : (k.setP r v).watches = k.watches := by unfold Core.setP; split <;> rfl
@[simp] theorem Core.setP_pdelta (k : Core) (r : Nat) (v : Bool) : (k.setP r v).pdelta = k.pdelta := by unfold Core.setP; split <;> rfl
@[simp] theorem Core.setP_arrived (k : Core) (r : Nat) (v : Bool) : (k.setP r v).arrived = k.arrived := by unfold Core.setP; split <;> rfl
@[simp] theorem Core.setP_mboxSeq (k : Core) (r : Nat) (v : Bool) : (k.setP r v).mboxSeq = k.mboxSeq := by unfold Core.setP; split <;> rfl
@[simp] theorem Core.setP_withheld (k : Core) (r : Nat) (v : Bool) : (k.setP r v).withheld = k.withheld := by unfold Core.setP; split <;> rfl
@[simp] theorem Core.setP_held (k : Core) (r : Nat) (v : Bool) : (k.setP r v).held = k.held := by unfold Core.setP; split <;> rfl
@[simp] theorem Core.setP_step (k : Core) (r : Nat) (v : Bool) : (k.setP r v).step = k.step := by unfold Core.setP; split <;> rfl
@[simp] theorem Core.setP_away (k : Core) (r : Nat) (v : Bool) : (k.setP r v).away = k.away := by unfold Core.setP; split <;> rfl
@[simp] theorem Core.setP_acc (k : Core) (r : Nat) (v : Bool) : (k.setP r v).acc = k.acc := by unfold Core.setP; split <;> rfl
@[simp] theorem Core.setP_prefetch (k : Core) (r : Nat) (v : Bool) : (k.setP r v).prefetch = k.prefetch := by unfold Core.setP; split <;> rfl
@[simp] theorem Core.setP_dlAt (k : Core) (r : Nat) (v : Bool) : (k.setP r v).dlAt = k.dlAt := by unfold Core.setP; split <;> rfl
@[simp] theorem Core.setP_dlDevAt (k : Core) (r : Nat) (v : Bool) : (k.setP r v).dlDevAt = k.dlDevAt := by unfold Core.setP; split <;> rfl
@[simp] theorem Core.wrCsr_s (k : Core) (n : Nat) (v : Word) : (k.wrCsr n v).s = k.s := rfl
@[simp] theorem Core.wrCsr_p (k : Core) (n : Nat) (v : Word) : (k.wrCsr n v).p = k.p := rfl
@[simp] theorem Core.wrCsr_pc (k : Core) (n : Nat) (v : Word) : (k.wrCsr n v).pc = k.pc := rfl
@[simp] theorem Core.wrCsr_priv (k : Core) (n : Nat) (v : Word) : (k.wrCsr n v).priv = k.priv := rfl
@[simp] theorem Core.wrCsr_ctx (k : Core) (n : Nat) (v : Word) : (k.wrCsr n v).ctx = k.ctx := rfl
@[simp] theorem Core.wrCsr_stw (k : Core) (n : Nat) (v : Word) : (k.wrCsr n v).stw = k.stw := rfl
@[simp] theorem Core.wrCsr_dbgHalt (k : Core) (n : Nat) (v : Word) : (k.wrCsr n v).dbgHalt = k.dbgHalt := rfl
@[simp] theorem Core.wrCsr_pend (k : Core) (n : Nat) (v : Word) : (k.wrCsr n v).pend = k.pend := rfl
@[simp] theorem Core.wrCsr_slot (k : Core) (n : Nat) (v : Word) : (k.wrCsr n v).slot = k.slot := rfl
@[simp] theorem Core.wrCsr_icache (k : Core) (n : Nat) (v : Word) : (k.wrCsr n v).icache = k.icache := rfl
@[simp] theorem Core.wrCsr_dcache (k : Core) (n : Nat) (v : Word) : (k.wrCsr n v).dcache = k.dcache := rfl
@[simp] theorem Core.wrCsr_queues (k : Core) (n : Nat) (v : Word) : (k.wrCsr n v).queues = k.queues := rfl
@[simp] theorem Core.wrCsr_t (k : Core) (n : Nat) (v : Word) : (k.wrCsr n v).t = k.t := rfl
@[simp] theorem Core.wrCsr_v (k : Core) (n : Nat) (v : Word) : (k.wrCsr n v).v = k.v := rfl
@[simp] theorem Core.wrCsr_m (k : Core) (n : Nat) (v : Word) : (k.wrCsr n v).m = k.m := rfl
@[simp] theorem Core.wrCsr_vcfg (k : Core) (n : Nat) (v : Word) : (k.wrCsr n v).vcfg = k.vcfg := rfl
@[simp] theorem Core.wrCsr_ccfg (k : Core) (n : Nat) (v : Word) : (k.wrCsr n v).ccfg = k.ccfg := rfl
@[simp] theorem Core.wrCsr_cres (k : Core) (n : Nat) (v : Word) : (k.wrCsr n v).cres = k.cres := rfl
@[simp] theorem Core.wrCsr_watches (k : Core) (n : Nat) (v : Word) : (k.wrCsr n v).watches = k.watches := rfl
@[simp] theorem Core.wrCsr_pdelta (k : Core) (n : Nat) (v : Word) : (k.wrCsr n v).pdelta = k.pdelta := rfl
@[simp] theorem Core.wrCsr_arrived (k : Core) (n : Nat) (v : Word) : (k.wrCsr n v).arrived = k.arrived := rfl
@[simp] theorem Core.wrCsr_mboxSeq (k : Core) (n : Nat) (v : Word) : (k.wrCsr n v).mboxSeq = k.mboxSeq := rfl
@[simp] theorem Core.wrCsr_withheld (k : Core) (n : Nat) (v : Word) : (k.wrCsr n v).withheld = k.withheld := rfl
@[simp] theorem Core.wrCsr_held (k : Core) (n : Nat) (v : Word) : (k.wrCsr n v).held = k.held := rfl
@[simp] theorem Core.wrCsr_step (k : Core) (n : Nat) (v : Word) : (k.wrCsr n v).step = k.step := rfl
@[simp] theorem Core.wrCsr_away (k : Core) (n : Nat) (v : Word) : (k.wrCsr n v).away = k.away := rfl
@[simp] theorem Core.wrCsr_acc (k : Core) (n : Nat) (v : Word) : (k.wrCsr n v).acc = k.acc := rfl
@[simp] theorem Core.wrCsr_prefetch (k : Core) (n : Nat) (v : Word) : (k.wrCsr n v).prefetch = k.prefetch := rfl
@[simp] theorem Core.wrCsr_dlAt (k : Core) (n : Nat) (v : Word) : (k.wrCsr n v).dlAt = k.dlAt := rfl
@[simp] theorem Core.wrCsr_dlDevAt (k : Core) (n : Nat) (v : Word) : (k.wrCsr n v).dlDevAt = k.dlDevAt := rfl
@[simp] theorem Core.setQueue_s (k : Core) (e : Nat) (q : List Entry) : (k.setQueue e q).s = k.s := rfl
@[simp] theorem Core.setQueue_p (k : Core) (e : Nat) (q : List Entry) : (k.setQueue e q).p = k.p := rfl
@[simp] theorem Core.setQueue_pc (k : Core) (e : Nat) (q : List Entry) : (k.setQueue e q).pc = k.pc := rfl
@[simp] theorem Core.setQueue_priv (k : Core) (e : Nat) (q : List Entry) : (k.setQueue e q).priv = k.priv := rfl
@[simp] theorem Core.setQueue_ctx (k : Core) (e : Nat) (q : List Entry) : (k.setQueue e q).ctx = k.ctx := rfl
@[simp] theorem Core.setQueue_csr (k : Core) (e : Nat) (q : List Entry) : (k.setQueue e q).csr = k.csr := rfl
@[simp] theorem Core.setQueue_stw (k : Core) (e : Nat) (q : List Entry) : (k.setQueue e q).stw = k.stw := rfl
@[simp] theorem Core.setQueue_dbgHalt (k : Core) (e : Nat) (q : List Entry) : (k.setQueue e q).dbgHalt = k.dbgHalt := rfl
@[simp] theorem Core.setQueue_pend (k : Core) (e : Nat) (q : List Entry) : (k.setQueue e q).pend = k.pend := rfl
@[simp] theorem Core.setQueue_slot (k : Core) (e : Nat) (q : List Entry) : (k.setQueue e q).slot = k.slot := rfl
@[simp] theorem Core.setQueue_icache (k : Core) (e : Nat) (q : List Entry) : (k.setQueue e q).icache = k.icache := rfl
@[simp] theorem Core.setQueue_dcache (k : Core) (e : Nat) (q : List Entry) : (k.setQueue e q).dcache = k.dcache := rfl
@[simp] theorem Core.setQueue_t (k : Core) (e : Nat) (q : List Entry) : (k.setQueue e q).t = k.t := rfl
@[simp] theorem Core.setQueue_v (k : Core) (e : Nat) (q : List Entry) : (k.setQueue e q).v = k.v := rfl
@[simp] theorem Core.setQueue_m (k : Core) (e : Nat) (q : List Entry) : (k.setQueue e q).m = k.m := rfl
@[simp] theorem Core.setQueue_vcfg (k : Core) (e : Nat) (q : List Entry) : (k.setQueue e q).vcfg = k.vcfg := rfl
@[simp] theorem Core.setQueue_ccfg (k : Core) (e : Nat) (q : List Entry) : (k.setQueue e q).ccfg = k.ccfg := rfl
@[simp] theorem Core.setQueue_cres (k : Core) (e : Nat) (q : List Entry) : (k.setQueue e q).cres = k.cres := rfl
@[simp] theorem Core.setQueue_watches (k : Core) (e : Nat) (q : List Entry) : (k.setQueue e q).watches = k.watches := rfl
@[simp] theorem Core.setQueue_pdelta (k : Core) (e : Nat) (q : List Entry) : (k.setQueue e q).pdelta = k.pdelta := rfl
@[simp] theorem Core.setQueue_arrived (k : Core) (e : Nat) (q : List Entry) : (k.setQueue e q).arrived = k.arrived := rfl
@[simp] theorem Core.setQueue_mboxSeq (k : Core) (e : Nat) (q : List Entry) : (k.setQueue e q).mboxSeq = k.mboxSeq := rfl
@[simp] theorem Core.setQueue_withheld (k : Core) (e : Nat) (q : List Entry) : (k.setQueue e q).withheld = k.withheld := rfl
@[simp] theorem Core.setQueue_held (k : Core) (e : Nat) (q : List Entry) : (k.setQueue e q).held = k.held := rfl
@[simp] theorem Core.setQueue_step (k : Core) (e : Nat) (q : List Entry) : (k.setQueue e q).step = k.step := rfl
@[simp] theorem Core.setQueue_acc (k : Core) (e : Nat) (q : List Entry) : (k.setQueue e q).acc = k.acc := rfl
@[simp] theorem Core.setQueue_prefetch (k : Core) (e : Nat) (q : List Entry) : (k.setQueue e q).prefetch = k.prefetch := rfl
@[simp] theorem Core.setQueue_dlAt (k : Core) (e : Nat) (q : List Entry) : (k.setQueue e q).dlAt = k.dlAt := rfl
@[simp] theorem Core.setQueue_dlDevAt (k : Core) (e : Nat) (q : List Entry) : (k.setQueue e q).dlDevAt = k.dlDevAt := rfl
@[simp] theorem Core.setV_s (k : Core) (r v : Nat) : (k.setV r v).s = k.s := rfl
@[simp] theorem Core.setV_p (k : Core) (r v : Nat) : (k.setV r v).p = k.p := rfl
@[simp] theorem Core.setV_pc (k : Core) (r v : Nat) : (k.setV r v).pc = k.pc := rfl
@[simp] theorem Core.setV_priv (k : Core) (r v : Nat) : (k.setV r v).priv = k.priv := rfl
@[simp] theorem Core.setV_ctx (k : Core) (r v : Nat) : (k.setV r v).ctx = k.ctx := rfl
@[simp] theorem Core.setV_csr (k : Core) (r v : Nat) : (k.setV r v).csr = k.csr := rfl
@[simp] theorem Core.setV_stw (k : Core) (r v : Nat) : (k.setV r v).stw = k.stw := rfl
@[simp] theorem Core.setV_dbgHalt (k : Core) (r v : Nat) : (k.setV r v).dbgHalt = k.dbgHalt := rfl
@[simp] theorem Core.setV_pend (k : Core) (r v : Nat) : (k.setV r v).pend = k.pend := rfl
@[simp] theorem Core.setV_slot (k : Core) (r v : Nat) : (k.setV r v).slot = k.slot := rfl
@[simp] theorem Core.setV_icache (k : Core) (r v : Nat) : (k.setV r v).icache = k.icache := rfl
@[simp] theorem Core.setV_dcache (k : Core) (r v : Nat) : (k.setV r v).dcache = k.dcache := rfl
@[simp] theorem Core.setV_queues (k : Core) (r v : Nat) : (k.setV r v).queues = k.queues := rfl
@[simp] theorem Core.setV_t (k : Core) (r v : Nat) : (k.setV r v).t = k.t := rfl
@[simp] theorem Core.setV_m (k : Core) (r v : Nat) : (k.setV r v).m = k.m := rfl
@[simp] theorem Core.setV_vcfg (k : Core) (r v : Nat) : (k.setV r v).vcfg = k.vcfg := rfl
@[simp] theorem Core.setV_ccfg (k : Core) (r v : Nat) : (k.setV r v).ccfg = k.ccfg := rfl
@[simp] theorem Core.setV_cres (k : Core) (r v : Nat) : (k.setV r v).cres = k.cres := rfl
@[simp] theorem Core.setV_watches (k : Core) (r v : Nat) : (k.setV r v).watches = k.watches := rfl
@[simp] theorem Core.setV_pdelta (k : Core) (r v : Nat) : (k.setV r v).pdelta = k.pdelta := rfl
@[simp] theorem Core.setV_arrived (k : Core) (r v : Nat) : (k.setV r v).arrived = k.arrived := rfl
@[simp] theorem Core.setV_mboxSeq (k : Core) (r v : Nat) : (k.setV r v).mboxSeq = k.mboxSeq := rfl
@[simp] theorem Core.setV_withheld (k : Core) (r v : Nat) : (k.setV r v).withheld = k.withheld := rfl
@[simp] theorem Core.setV_held (k : Core) (r v : Nat) : (k.setV r v).held = k.held := rfl
@[simp] theorem Core.setV_step (k : Core) (r v : Nat) : (k.setV r v).step = k.step := rfl
@[simp] theorem Core.setV_away (k : Core) (r v : Nat) : (k.setV r v).away = k.away := rfl
@[simp] theorem Core.setV_acc (k : Core) (r v : Nat) : (k.setV r v).acc = k.acc := rfl
@[simp] theorem Core.setV_prefetch (k : Core) (r v : Nat) : (k.setV r v).prefetch = k.prefetch := rfl
@[simp] theorem Core.setV_dlAt (k : Core) (r v : Nat) : (k.setV r v).dlAt = k.dlAt := rfl
@[simp] theorem Core.setV_dlDevAt (k : Core) (r v : Nat) : (k.setV r v).dlDevAt = k.dlDevAt := rfl
@[simp] theorem Core.setM_s (k : Core) (r v : Nat) : (k.setM r v).s = k.s := rfl
@[simp] theorem Core.setM_p (k : Core) (r v : Nat) : (k.setM r v).p = k.p := rfl
@[simp] theorem Core.setM_pc (k : Core) (r v : Nat) : (k.setM r v).pc = k.pc := rfl
@[simp] theorem Core.setM_priv (k : Core) (r v : Nat) : (k.setM r v).priv = k.priv := rfl
@[simp] theorem Core.setM_ctx (k : Core) (r v : Nat) : (k.setM r v).ctx = k.ctx := rfl
@[simp] theorem Core.setM_csr (k : Core) (r v : Nat) : (k.setM r v).csr = k.csr := rfl
@[simp] theorem Core.setM_stw (k : Core) (r v : Nat) : (k.setM r v).stw = k.stw := rfl
@[simp] theorem Core.setM_dbgHalt (k : Core) (r v : Nat) : (k.setM r v).dbgHalt = k.dbgHalt := rfl
@[simp] theorem Core.setM_pend (k : Core) (r v : Nat) : (k.setM r v).pend = k.pend := rfl
@[simp] theorem Core.setM_slot (k : Core) (r v : Nat) : (k.setM r v).slot = k.slot := rfl
@[simp] theorem Core.setM_icache (k : Core) (r v : Nat) : (k.setM r v).icache = k.icache := rfl
@[simp] theorem Core.setM_dcache (k : Core) (r v : Nat) : (k.setM r v).dcache = k.dcache := rfl
@[simp] theorem Core.setM_queues (k : Core) (r v : Nat) : (k.setM r v).queues = k.queues := rfl
@[simp] theorem Core.setM_t (k : Core) (r v : Nat) : (k.setM r v).t = k.t := rfl
@[simp] theorem Core.setM_v (k : Core) (r v : Nat) : (k.setM r v).v = k.v := rfl
@[simp] theorem Core.setM_vcfg (k : Core) (r v : Nat) : (k.setM r v).vcfg = k.vcfg := rfl
@[simp] theorem Core.setM_ccfg (k : Core) (r v : Nat) : (k.setM r v).ccfg = k.ccfg := rfl
@[simp] theorem Core.setM_cres (k : Core) (r v : Nat) : (k.setM r v).cres = k.cres := rfl
@[simp] theorem Core.setM_watches (k : Core) (r v : Nat) : (k.setM r v).watches = k.watches := rfl
@[simp] theorem Core.setM_pdelta (k : Core) (r v : Nat) : (k.setM r v).pdelta = k.pdelta := rfl
@[simp] theorem Core.setM_arrived (k : Core) (r v : Nat) : (k.setM r v).arrived = k.arrived := rfl
@[simp] theorem Core.setM_mboxSeq (k : Core) (r v : Nat) : (k.setM r v).mboxSeq = k.mboxSeq := rfl
@[simp] theorem Core.setM_withheld (k : Core) (r v : Nat) : (k.setM r v).withheld = k.withheld := rfl
@[simp] theorem Core.setM_held (k : Core) (r v : Nat) : (k.setM r v).held = k.held := rfl
@[simp] theorem Core.setM_step (k : Core) (r v : Nat) : (k.setM r v).step = k.step := rfl
@[simp] theorem Core.setM_away (k : Core) (r v : Nat) : (k.setM r v).away = k.away := rfl
@[simp] theorem Core.setM_acc (k : Core) (r v : Nat) : (k.setM r v).acc = k.acc := rfl
@[simp] theorem Core.setM_prefetch (k : Core) (r v : Nat) : (k.setM r v).prefetch = k.prefetch := rfl
@[simp] theorem Core.setM_dlAt (k : Core) (r v : Nat) : (k.setM r v).dlAt = k.dlAt := rfl
@[simp] theorem Core.setM_dlDevAt (k : Core) (r v : Nat) : (k.setM r v).dlDevAt = k.dlDevAt := rfl
@[simp] theorem Core.setTWord_s (k : Core) (r i v : Nat) : (k.setTWord r i v).s = k.s := rfl
@[simp] theorem Core.setTWord_p (k : Core) (r i v : Nat) : (k.setTWord r i v).p = k.p := rfl
@[simp] theorem Core.setTWord_pc (k : Core) (r i v : Nat) : (k.setTWord r i v).pc = k.pc := rfl
@[simp] theorem Core.setTWord_priv (k : Core) (r i v : Nat) : (k.setTWord r i v).priv = k.priv := rfl
@[simp] theorem Core.setTWord_ctx (k : Core) (r i v : Nat) : (k.setTWord r i v).ctx = k.ctx := rfl
@[simp] theorem Core.setTWord_csr (k : Core) (r i v : Nat) : (k.setTWord r i v).csr = k.csr := rfl
@[simp] theorem Core.setTWord_stw (k : Core) (r i v : Nat) : (k.setTWord r i v).stw = k.stw := rfl
@[simp] theorem Core.setTWord_dbgHalt (k : Core) (r i v : Nat) : (k.setTWord r i v).dbgHalt = k.dbgHalt := rfl
@[simp] theorem Core.setTWord_pend (k : Core) (r i v : Nat) : (k.setTWord r i v).pend = k.pend := rfl
@[simp] theorem Core.setTWord_slot (k : Core) (r i v : Nat) : (k.setTWord r i v).slot = k.slot := rfl
@[simp] theorem Core.setTWord_icache (k : Core) (r i v : Nat) : (k.setTWord r i v).icache = k.icache := rfl
@[simp] theorem Core.setTWord_dcache (k : Core) (r i v : Nat) : (k.setTWord r i v).dcache = k.dcache := rfl
@[simp] theorem Core.setTWord_queues (k : Core) (r i v : Nat) : (k.setTWord r i v).queues = k.queues := rfl
@[simp] theorem Core.setTWord_v (k : Core) (r i v : Nat) : (k.setTWord r i v).v = k.v := rfl
@[simp] theorem Core.setTWord_m (k : Core) (r i v : Nat) : (k.setTWord r i v).m = k.m := rfl
@[simp] theorem Core.setTWord_vcfg (k : Core) (r i v : Nat) : (k.setTWord r i v).vcfg = k.vcfg := rfl
@[simp] theorem Core.setTWord_ccfg (k : Core) (r i v : Nat) : (k.setTWord r i v).ccfg = k.ccfg := rfl
@[simp] theorem Core.setTWord_cres (k : Core) (r i v : Nat) : (k.setTWord r i v).cres = k.cres := rfl
@[simp] theorem Core.setTWord_watches (k : Core) (r i v : Nat) : (k.setTWord r i v).watches = k.watches := rfl
@[simp] theorem Core.setTWord_pdelta (k : Core) (r i v : Nat) : (k.setTWord r i v).pdelta = k.pdelta := rfl
@[simp] theorem Core.setTWord_arrived (k : Core) (r i v : Nat) : (k.setTWord r i v).arrived = k.arrived := rfl
@[simp] theorem Core.setTWord_mboxSeq (k : Core) (r i v : Nat) : (k.setTWord r i v).mboxSeq = k.mboxSeq := rfl
@[simp] theorem Core.setTWord_withheld (k : Core) (r i v : Nat) : (k.setTWord r i v).withheld = k.withheld := rfl
@[simp] theorem Core.setTWord_held (k : Core) (r i v : Nat) : (k.setTWord r i v).held = k.held := rfl
@[simp] theorem Core.setTWord_step (k : Core) (r i v : Nat) : (k.setTWord r i v).step = k.step := rfl
@[simp] theorem Core.setTWord_away (k : Core) (r i v : Nat) : (k.setTWord r i v).away = k.away := rfl
@[simp] theorem Core.setTWord_acc (k : Core) (r i v : Nat) : (k.setTWord r i v).acc = k.acc := rfl
@[simp] theorem Core.setTWord_prefetch (k : Core) (r i v : Nat) : (k.setTWord r i v).prefetch = k.prefetch := rfl
@[simp] theorem Core.setTWord_dlAt (k : Core) (r i v : Nat) : (k.setTWord r i v).dlAt = k.dlAt := rfl
@[simp] theorem Core.setTWord_dlDevAt (k : Core) (r i v : Nat) : (k.setTWord r i v).dlDevAt = k.dlDevAt := rfl
@[simp] theorem Core.setC_s (k : Core) (r : Nat) (v : CmpReg) : (k.setC r v).s = k.s := rfl
@[simp] theorem Core.setC_p (k : Core) (r : Nat) (v : CmpReg) : (k.setC r v).p = k.p := rfl
@[simp] theorem Core.setC_pc (k : Core) (r : Nat) (v : CmpReg) : (k.setC r v).pc = k.pc := rfl
@[simp] theorem Core.setC_priv (k : Core) (r : Nat) (v : CmpReg) : (k.setC r v).priv = k.priv := rfl
@[simp] theorem Core.setC_ctx (k : Core) (r : Nat) (v : CmpReg) : (k.setC r v).ctx = k.ctx := rfl
@[simp] theorem Core.setC_csr (k : Core) (r : Nat) (v : CmpReg) : (k.setC r v).csr = k.csr := rfl
@[simp] theorem Core.setC_stw (k : Core) (r : Nat) (v : CmpReg) : (k.setC r v).stw = k.stw := rfl
@[simp] theorem Core.setC_dbgHalt (k : Core) (r : Nat) (v : CmpReg) : (k.setC r v).dbgHalt = k.dbgHalt := rfl
@[simp] theorem Core.setC_pend (k : Core) (r : Nat) (v : CmpReg) : (k.setC r v).pend = k.pend := rfl
@[simp] theorem Core.setC_slot (k : Core) (r : Nat) (v : CmpReg) : (k.setC r v).slot = k.slot := rfl
@[simp] theorem Core.setC_icache (k : Core) (r : Nat) (v : CmpReg) : (k.setC r v).icache = k.icache := rfl
@[simp] theorem Core.setC_dcache (k : Core) (r : Nat) (v : CmpReg) : (k.setC r v).dcache = k.dcache := rfl
@[simp] theorem Core.setC_queues (k : Core) (r : Nat) (v : CmpReg) : (k.setC r v).queues = k.queues := rfl
@[simp] theorem Core.setC_t (k : Core) (r : Nat) (v : CmpReg) : (k.setC r v).t = k.t := rfl
@[simp] theorem Core.setC_v (k : Core) (r : Nat) (v : CmpReg) : (k.setC r v).v = k.v := rfl
@[simp] theorem Core.setC_m (k : Core) (r : Nat) (v : CmpReg) : (k.setC r v).m = k.m := rfl
@[simp] theorem Core.setC_vcfg (k : Core) (r : Nat) (v : CmpReg) : (k.setC r v).vcfg = k.vcfg := rfl
@[simp] theorem Core.setC_ccfg (k : Core) (r : Nat) (v : CmpReg) : (k.setC r v).ccfg = k.ccfg := rfl
@[simp] theorem Core.setC_watches (k : Core) (r : Nat) (v : CmpReg) : (k.setC r v).watches = k.watches := rfl
@[simp] theorem Core.setC_pdelta (k : Core) (r : Nat) (v : CmpReg) : (k.setC r v).pdelta = k.pdelta := rfl
@[simp] theorem Core.setC_arrived (k : Core) (r : Nat) (v : CmpReg) : (k.setC r v).arrived = k.arrived := rfl
@[simp] theorem Core.setC_mboxSeq (k : Core) (r : Nat) (v : CmpReg) : (k.setC r v).mboxSeq = k.mboxSeq := rfl
@[simp] theorem Core.setC_withheld (k : Core) (r : Nat) (v : CmpReg) : (k.setC r v).withheld = k.withheld := rfl
@[simp] theorem Core.setC_held (k : Core) (r : Nat) (v : CmpReg) : (k.setC r v).held = k.held := rfl
@[simp] theorem Core.setC_step (k : Core) (r : Nat) (v : CmpReg) : (k.setC r v).step = k.step := rfl
@[simp] theorem Core.setC_away (k : Core) (r : Nat) (v : CmpReg) : (k.setC r v).away = k.away := rfl
@[simp] theorem Core.setC_acc (k : Core) (r : Nat) (v : CmpReg) : (k.setC r v).acc = k.acc := rfl
@[simp] theorem Core.setC_prefetch (k : Core) (r : Nat) (v : CmpReg) : (k.setC r v).prefetch = k.prefetch := rfl
@[simp] theorem Core.setC_dlAt (k : Core) (r : Nat) (v : CmpReg) : (k.setC r v).dlAt = k.dlAt := rfl
@[simp] theorem Core.setC_dlDevAt (k : Core) (r : Nat) (v : CmpReg) : (k.setC r v).dlDevAt = k.dlDevAt := rfl
@[simp] theorem Core.fetched_s (k : Core) : k.fetched.s = k.s := by unfold Core.fetched; dsimp only; split <;> rfl
@[simp] theorem Core.fetched_p (k : Core) : k.fetched.p = k.p := by unfold Core.fetched; dsimp only; split <;> rfl
@[simp] theorem Core.fetched_pc (k : Core) : k.fetched.pc = k.pc := by unfold Core.fetched; dsimp only; split <;> rfl
@[simp] theorem Core.fetched_priv (k : Core) : k.fetched.priv = k.priv := by unfold Core.fetched; dsimp only; split <;> rfl
@[simp] theorem Core.fetched_ctx (k : Core) : k.fetched.ctx = k.ctx := by unfold Core.fetched; dsimp only; split <;> rfl
@[simp] theorem Core.fetched_csr (k : Core) : k.fetched.csr = k.csr := by unfold Core.fetched; dsimp only; split <;> rfl
@[simp] theorem Core.fetched_stw (k : Core) : k.fetched.stw = k.stw := by unfold Core.fetched; dsimp only; split <;> rfl
@[simp] theorem Core.fetched_dbgHalt (k : Core) : k.fetched.dbgHalt = k.dbgHalt := by unfold Core.fetched; dsimp only; split <;> rfl
@[simp] theorem Core.fetched_pend (k : Core) : k.fetched.pend = k.pend := by unfold Core.fetched; dsimp only; split <;> rfl
@[simp] theorem Core.fetched_slot (k : Core) : k.fetched.slot = k.slot := by unfold Core.fetched; dsimp only; split <;> rfl
@[simp] theorem Core.fetched_dcache (k : Core) : k.fetched.dcache = k.dcache := by unfold Core.fetched; dsimp only; split <;> rfl
@[simp] theorem Core.fetched_queues (k : Core) : k.fetched.queues = k.queues := by unfold Core.fetched; dsimp only; split <;> rfl
@[simp] theorem Core.fetched_t (k : Core) : k.fetched.t = k.t := by unfold Core.fetched; dsimp only; split <;> rfl
@[simp] theorem Core.fetched_v (k : Core) : k.fetched.v = k.v := by unfold Core.fetched; dsimp only; split <;> rfl
@[simp] theorem Core.fetched_m (k : Core) : k.fetched.m = k.m := by unfold Core.fetched; dsimp only; split <;> rfl
@[simp] theorem Core.fetched_vcfg (k : Core) : k.fetched.vcfg = k.vcfg := by unfold Core.fetched; dsimp only; split <;> rfl
@[simp] theorem Core.fetched_ccfg (k : Core) : k.fetched.ccfg = k.ccfg := by unfold Core.fetched; dsimp only; split <;> rfl
@[simp] theorem Core.fetched_cres (k : Core) : k.fetched.cres = k.cres := by unfold Core.fetched; dsimp only; split <;> rfl
@[simp] theorem Core.fetched_watches (k : Core) : k.fetched.watches = k.watches := by unfold Core.fetched; dsimp only; split <;> rfl
@[simp] theorem Core.fetched_pdelta (k : Core) : k.fetched.pdelta = k.pdelta := by unfold Core.fetched; dsimp only; split <;> rfl
@[simp] theorem Core.fetched_arrived (k : Core) : k.fetched.arrived = k.arrived := by unfold Core.fetched; dsimp only; split <;> rfl
@[simp] theorem Core.fetched_mboxSeq (k : Core) : k.fetched.mboxSeq = k.mboxSeq := by unfold Core.fetched; dsimp only; split <;> rfl
@[simp] theorem Core.fetched_withheld (k : Core) : k.fetched.withheld = k.withheld := by unfold Core.fetched; dsimp only; split <;> rfl
@[simp] theorem Core.fetched_held (k : Core) : k.fetched.held = k.held := by unfold Core.fetched; dsimp only; split <;> rfl
@[simp] theorem Core.fetched_step (k : Core) : k.fetched.step = k.step := by unfold Core.fetched; dsimp only; split <;> rfl
@[simp] theorem Core.fetched_away (k : Core) : k.fetched.away = k.away := by unfold Core.fetched; dsimp only; split <;> rfl
@[simp] theorem Core.fetched_acc (k : Core) : k.fetched.acc = k.acc := by unfold Core.fetched; dsimp only; split <;> rfl
@[simp] theorem Core.fetched_prefetch (k : Core) : k.fetched.prefetch = k.prefetch := by unfold Core.fetched; dsimp only; split <;> rfl
@[simp] theorem Core.fetched_dlAt (k : Core) : k.fetched.dlAt = k.dlAt := by unfold Core.fetched; dsimp only; split <;> rfl
@[simp] theorem Core.fetched_dlDevAt (k : Core) : k.fetched.dlDevAt = k.dlDevAt := by unfold Core.fetched; dsimp only; split <;> rfl

/-! ### Reads after writes -/

/-- A register word after a write of a register. -/
@[simp] theorem State.reg_setReg (s : State) (off o : Nat) (v : BitVec 64) :
    (s.setReg off v).reg o = if o = off then v else s.reg o := by
  simp [State.reg, State.setReg]

/-- A register word after a write of a field. -/
theorem State.reg_setFld (s : State) (f : Fld) (v o : Nat) :
    (s.setFld f v).reg o = if o = f.off then f.put (s.reg f.off) v else s.reg o := by
  simp [State.setFld]

/-- A core after a write of a core. -/
@[simp] theorem State.core_setCore (s : State) (n m : Nat) (k : Core) :
    (s.setCore n k).core m = if m = n then k else s.core m := by
  simp [State.core, State.setCore]

/-- A core after a change of a core. -/
@[simp] theorem State.core_modCore (s : State) (n m : Nat) (g : Core → Core) :
    (s.modCore n g).core m = if m = n then g (s.core n) else s.core m := by
  simp [State.modCore]

/-- The cores are untouched by a write of the control window. -/
@[simp] theorem State.core_setReg (s : State) (off n : Nat) (v : BitVec 64) : (s.setReg off v).core n = s.core n := rfl
@[simp] theorem State.core_setFld (s : State) (f : Fld) (v n : Nat) : (s.setFld f v).core n = s.core n := rfl

/-- The control window is untouched by a change of a core. -/
@[simp] theorem State.reg_modCore (s : State) (n o : Nat) (g : Core → Core) : (s.modCore n g).reg o = s.reg o := rfl
@[simp] theorem State.fld_modCore (s : State) (n : Nat) (f : Fld) (g : Core → Core) : (s.modCore n g).fld f = s.fld f := rfl

/-- A byte after a write of a byte. -/
@[simp] theorem State.byte_setByte (s : State) (a x : Nat) (b : Byte) :
    (s.setByte a b).byte x = if x = a then b else s.byte x := by
  simp [State.byte, State.setByte]

/-- A scalar register after a write; s0 reads 0 (R211). -/
@[simp] theorem Core.sreg_setS (k : Core) (r q : Nat) (v : Word) :
    (k.setS r v).sreg q = if q = 0 then 0 else if q = r then v else k.sreg q := by
  unfold Core.setS Core.sreg
  by_cases hq : q = 0
  · simp [hq]
  · by_cases hr : r = 0
    · subst hr; simp [hq]
    · simp [hq, hr]

/-- A control and status register after a write. -/
@[simp] theorem Core.rdCsr_wrCsr (k : Core) (n m : Nat) (v : Word) :
    (k.wrCsr n v).rdCsr m = if m = n then v else k.rdCsr m := by
  simp [Core.rdCsr, Core.wrCsr]

/-- A queue after a write. -/
@[simp] theorem Core.queue_setQueue (k : Core) (e i : Nat) (q : List Entry) :
    (k.setQueue e q).queue i = if i = e then q else k.queue i := by
  simp [Core.queue, Core.setQueue]

/-- What an access of a core's registers sees of the fetch. -/
@[simp] theorem Core.sreg_fetched (k : Core) (r : Nat) : k.fetched.sreg r = k.sreg r := by simp [Core.sreg]
@[simp] theorem Core.preg_fetched (k : Core) (r : Nat) : k.fetched.preg r = k.preg r := by simp [Core.preg]
@[simp] theorem Core.rdCsr_fetched (k : Core) (n : Nat) : k.fetched.rdCsr n = k.rdCsr n := by simp [Core.rdCsr]
@[simp] theorem Core.queue_fetched (k : Core) (e : Nat) : k.fetched.queue e = k.queue e := by simp [Core.queue]

end Sys2Proof.Machine
end

