-- ==== Sys2Proof/Laws/Fields.lean ====
section
/-! SUPPORT. The laws of register fields: a field reads back as written, cut to its width, and every other field is untouched. -/
namespace Sys2Proof.Machine

/-- What a register word holds after a field is replaced: the bits above, the field, the bits below. -/
theorem Fld.put_toNat (f : Fld) (x : BitVec 64) (v : Nat) (hf : f.lo + f.w ≤ 64) :
    (f.put x v).toNat = (x.toNat / 2 ^ (f.lo + f.w) * 2 ^ f.w + v % 2 ^ f.w) * 2 ^ f.lo + x.toNat % 2 ^ f.lo := by
  have hP : 0 < 2 ^ f.lo := Nat.two_pow_pos _
  have hQ : 0 < 2 ^ f.w := Nat.two_pow_pos _
  have e1 : x.toNat / 2 ^ f.lo * 2 ^ f.lo + x.toNat % 2 ^ f.lo = x.toNat := Nat.div_add_mod' _ _
  have e2 : x.toNat / 2 ^ f.lo / 2 ^ f.w * 2 ^ f.w + x.toNat / 2 ^ f.lo % 2 ^ f.w = x.toNat / 2 ^ f.lo := Nat.div_add_mod' _ _
  have e3 : x.toNat / 2 ^ f.lo / 2 ^ f.w = x.toNat / 2 ^ (f.lo + f.w) := by rw [Nat.div_div_eq_div_mul, Nat.pow_add]
  have hv : v % 2 ^ f.w < 2 ^ f.w := Nat.mod_lt _ hQ
  have hl : x.toNat % 2 ^ f.lo < 2 ^ f.lo := Nat.mod_lt _ hP
  have hh : x.toNat / 2 ^ (f.lo + f.w) < 2 ^ (64 - (f.lo + f.w)) := by
    rw [Nat.div_lt_iff_lt_mul (Nat.two_pow_pos _), ← Nat.pow_add, Nat.sub_add_cancel hf]; exact x.isLt
  have hb : (x.toNat / 2 ^ (f.lo + f.w) * 2 ^ f.w + v % 2 ^ f.w) * 2 ^ f.lo + x.toNat % 2 ^ f.lo < 2 ^ 64 := by
    have a : x.toNat / 2 ^ (f.lo + f.w) * 2 ^ f.w + v % 2 ^ f.w + 1 ≤ 2 ^ (64 - (f.lo + f.w)) * 2 ^ f.w := by
      calc _ ≤ x.toNat / 2 ^ (f.lo + f.w) * 2 ^ f.w + 2 ^ f.w := by omega
        _ = (x.toNat / 2 ^ (f.lo + f.w) + 1) * 2 ^ f.w := by ring
        _ ≤ _ := Nat.mul_le_mul_right _ hh
    have b : 2 ^ (64 - (f.lo + f.w)) * 2 ^ f.w * 2 ^ f.lo = 2 ^ 64 := by
      rw [← Nat.pow_add, ← Nat.pow_add]; congr 1; omega
    calc _ < (x.toNat / 2 ^ (f.lo + f.w) * 2 ^ f.w + v % 2 ^ f.w) * 2 ^ f.lo + 2 ^ f.lo := by omega
      _ = (x.toNat / 2 ^ (f.lo + f.w) * 2 ^ f.w + v % 2 ^ f.w + 1) * 2 ^ f.lo := by ring
      _ ≤ 2 ^ (64 - (f.lo + f.w)) * 2 ^ f.w * 2 ^ f.lo := Nat.mul_le_mul_right _ a
      _ = 2 ^ 64 := b
  have key : x.toNat - x.toNat / 2 ^ f.lo % 2 ^ f.w * 2 ^ f.lo + v % 2 ^ f.w * 2 ^ f.lo =
      (x.toNat / 2 ^ (f.lo + f.w) * 2 ^ f.w + v % 2 ^ f.w) * 2 ^ f.lo + x.toNat % 2 ^ f.lo := by
    have : x.toNat = (x.toNat / 2 ^ (f.lo + f.w) * 2 ^ f.w) * 2 ^ f.lo + x.toNat / 2 ^ f.lo % 2 ^ f.w * 2 ^ f.lo + x.toNat % 2 ^ f.lo := by
      conv_lhs => rw [← e1, ← e2, e3]
      ring
    rw [Nat.add_mul]
    omega
  rw [Fld.put, BitVec.toNat_ofNat, key, Nat.mod_eq_of_lt hb]

/-- A field read back after it was replaced. -/
theorem Fld.get_put (f : Fld) (x : BitVec 64) (v : Nat) (hf : f.lo + f.w ≤ 64) : f.get (f.put x v) = v % 2 ^ f.w := by
  have hl : x.toNat % 2 ^ f.lo < 2 ^ f.lo := Nat.mod_lt _ (Nat.two_pow_pos _)
  rw [Fld.get, Fld.put_toNat f x v hf, Nat.mul_comm, Nat.mul_add_div (Nat.two_pow_pos _), Nat.div_eq_of_lt hl, Nat.add_zero,
    Nat.mul_comm, Nat.mul_add_mod, Nat.mod_mod]

/-- A field after another one, apart from it, was replaced. -/
theorem Fld.get_put_other (f g : Fld) (x : BitVec 64) (v : Nat) (hf : f.lo + f.w ≤ 64) (h : f.lo + f.w ≤ g.lo ∨ g.lo + g.w ≤ f.lo) :
    g.get (f.put x v) = g.get x := by
  have hl : x.toNat % 2 ^ f.lo < 2 ^ f.lo := Nat.mod_lt _ (Nat.two_pow_pos _)
  have hv : v % 2 ^ f.w < 2 ^ f.w := Nat.mod_lt _ (Nat.two_pow_pos _)
  rw [Fld.get, Fld.get, Fld.put_toNat f x v hf]
  rcases h with h | h
  · have e : ((x.toNat / 2 ^ (f.lo + f.w) * 2 ^ f.w + v % 2 ^ f.w) * 2 ^ f.lo + x.toNat % 2 ^ f.lo) / 2 ^ (f.lo + f.w) =
        x.toNat / 2 ^ (f.lo + f.w) := by
      rw [Nat.pow_add, ← Nat.div_div_eq_div_mul, Nat.mul_comm _ (2 ^ f.lo), Nat.mul_add_div (Nat.two_pow_pos _), Nat.div_eq_of_lt hl,
        Nat.add_zero, Nat.mul_comm _ (2 ^ f.w), Nat.mul_add_div (Nat.two_pow_pos _), Nat.div_eq_of_lt hv, Nat.add_zero, ← Nat.pow_add]
    have s : g.lo = (f.lo + f.w) + (g.lo - (f.lo + f.w)) := by omega
    rw [s, Nat.pow_add (n := g.lo - (f.lo + f.w)), ← Nat.div_div_eq_div_mul, ← Nat.div_div_eq_div_mul, e]
  · have e : ((x.toNat / 2 ^ (f.lo + f.w) * 2 ^ f.w + v % 2 ^ f.w) * 2 ^ f.lo + x.toNat % 2 ^ f.lo) % 2 ^ f.lo = x.toNat % 2 ^ f.lo := by
      rw [Nat.mul_comm, Nat.mul_add_mod, Nat.mod_mod]
    have s : ∀ y : Nat, y / 2 ^ g.lo % 2 ^ g.w = y % 2 ^ f.lo / 2 ^ g.lo % 2 ^ g.w := by
      intro y
      have k : f.lo = g.lo + (g.w + (f.lo - g.lo - g.w)) := by omega
      rw [k, Nat.pow_add, Nat.mod_mul_right_div_self, Nat.pow_add (n := f.lo - g.lo - g.w), Nat.mod_mul_right_mod]
    rw [s, e, ← s]

/-- A field of the control window read back after it was written. -/
theorem State.fld_setFld (s : State) (f : Fld) (v : Nat) (hf : f.lo + f.w ≤ 64) : (s.setFld f v).fld f = v % 2 ^ f.w := by
  rw [State.fld, State.reg_setFld, if_pos rfl, Fld.get_put f _ v hf]

/-- A field of another register, or apart in the same one, after a write of a field. -/
theorem State.fld_setFld_other (s : State) (f g : Fld) (v : Nat) (hf : f.lo + f.w ≤ 64)
    (h : g.off ≠ f.off ∨ f.lo + f.w ≤ g.lo ∨ g.lo + g.w ≤ f.lo) : (s.setFld f v).fld g = s.fld g := by
  rw [State.fld, State.fld, State.reg_setFld]
  by_cases ho : g.off = f.off
  · rw [if_pos ho, ← ho]
    exact Fld.get_put_other f g _ v hf (h.resolve_left (fun hn => hn ho))
  · rw [if_neg ho]

/-- A field of another register after a write of a field. -/
theorem State.fld_setFld_off (s : State) (f g : Fld) (v : Nat) (h : g.off ≠ f.off) : (s.setFld f v).fld g = s.fld g := by
  rw [State.fld, State.fld, State.reg_setFld, if_neg h]

/-- A field after a write of a register. -/
theorem State.fld_setReg (s : State) (off : Nat) (v : BitVec 64) (g : Fld) :
    (s.setReg off v).fld g = if g.off = off then g.get v else s.fld g := by
  rw [State.fld, State.reg_setReg]
  split <;> rfl

/-- A field never exceeds its width. -/
theorem State.fld_lt (s : State) (f : Fld) : s.fld f < 2 ^ f.w := Nat.mod_lt _ (Nat.two_pow_pos _)

/-- A saturating count after it was increased. -/
theorem State.fld_satAdd (s : State) (f : Fld) (n : Nat) (hf : f.lo + f.w ≤ 64) :
    (s.satAdd f n).fld f = min (s.fld f + n) (2 ^ f.w - 1) := by
  have : 0 < 2 ^ f.w := Nat.two_pow_pos _
  rw [State.satAdd, State.fld_setFld s f _ hf, Nat.mod_eq_of_lt (by omega)]

/-- A saturating count after an event. -/
theorem State.fld_satInc (s : State) (f : Fld) (hf : f.lo + f.w ≤ 64) : (s.satInc f).fld f = min (s.fld f + 1) (2 ^ f.w - 1) :=
  State.fld_satAdd s f 1 hf

end Sys2Proof.Machine
end

