-- ==== Sys2Proof/Laws/Memory.lean ====
section
/-! SUPPORT. The laws of memory and of the canonical form: what each operation over memory reads and leaves, that every one keeps
memory in its canonical form, and that the plain updates keep the whole state canonical. -/
namespace Sys2Proof.Machine

/-! ### Reads after writes -/

/-- A byte after bytes were written: the byte written there, or what was there before. -/
theorem State.byte_setBytes (s : State) (a : Nat) (l : List Byte) (x : Nat) :
    (s.setBytes a l).byte x = if a ≤ x ∧ x < a + l.length then l.getD (x - a) 0 else s.byte x := by
  induction l generalizing s a with
  | nil => simp [State.setBytes]
  | cons b t ih =>
    rw [State.setBytes, ih, State.byte_setByte]
    by_cases h : x = a
    · subst h; simp
    · by_cases h2 : a + 1 ≤ x ∧ x < a + 1 + t.length
      · have h3 : x - a = (x - (a + 1)) + 1 := by omega
        rw [if_pos h2, if_pos (by simp only [List.length_cons]; omega), h3, List.getD_cons_succ]
      · rw [if_neg h2, if_neg h, if_neg (by simp only [List.length_cons]; omega)]

/-- A byte outside the bytes written is as before. -/
theorem State.byte_setBytes_other (s : State) (a : Nat) (l : List Byte) (x : Nat) (h : x < a ∨ a + l.length ≤ x) :
    (s.setBytes a l).byte x = s.byte x := by
  rw [State.byte_setBytes, if_neg (by omega)]

/-- Bytes read where they were just written are the bytes written. -/
theorem State.bytes_setBytes (s : State) (a : Nat) (l : List Byte) : (s.setBytes a l).bytes a l.length = l := by
  apply List.ext_getElem
  · simp [State.bytes]
  · intro i h1 h2
    simp only [State.bytes, List.getElem_map, List.getElem_range]
    rw [State.byte_setBytes, if_pos (by omega), Nat.add_sub_cancel_left, List.getD_eq_getElem?_getD, List.getElem?_eq_getElem h2,
      Option.getD_some]

/-- Writing bytes changes memory alone. -/
theorem State.setBytes_eq (s : State) (a : Nat) (l : List Byte) : s.setBytes a l = { s with mem := (s.setBytes a l).mem } := by
  induction l generalizing s a with
  | nil => rfl
  | cons b t ih => rw [State.setBytes, ih]; rfl

/-- A write to memory: the bytes written and nothing else of memory. -/
theorem State.byte_putMem (s : State) (a : Nat) (l : List Byte) (x : Nat) :
    (s.putMem a l).byte x = if a ≤ x ∧ x < a + l.length then l.getD (x - a) 0 else s.byte x := by
  have h : (s.putMem a l).byte x = (s.setBytes a l).byte x := by
    unfold State.putMem
    dsimp only
    split <;> rfl
  rw [h, State.byte_setBytes]

/-- A write to memory leaves the control window and the cores as they are. -/
theorem State.putMem_regs (s : State) (a : Nat) (l : List Byte) : (s.putMem a l).regs = s.regs := by
  unfold State.putMem
  rw [State.setBytes_eq]
  dsimp only
  split <;> rfl

theorem State.putMem_cores (s : State) (a : Nat) (l : List Byte) : (s.putMem a l).cores = s.cores := by
  unfold State.putMem
  rw [State.setBytes_eq]
  dsimp only
  split <;> rfl

/-- A byte of memory that a loss does not take stays as it was. -/
theorem State.byte_takeLoss (s : State) (l : Loss) (a : Nat) (h : l.hits a = false) : (s.takeLoss l).byte a = s.byte a := by
  have hd : memDflt (l :: s.memGen) a = memDflt s.memGen a := by simp [memDflt, h]
  have hm : ∀ m : SMap Byte, SMap.get (memDflt (l :: s.memGen)) (SMap.dropKeys m l.hits) a = SMap.get (memDflt s.memGen) m a := by
    intro m
    induction m with
    | nil => simp [SMap.dropKeys, SMap.get, hd]
    | cons p t ih =>
      obtain ⟨q, w⟩ := p
      unfold SMap.dropKeys at ih ⊢
      by_cases hq : l.hits q = true
      · have : a ≠ q := by intro e; subst e; simp [h] at hq
        simp [List.filter, hq, ih, SMap.get, this]
      · simp only [Bool.not_eq_true] at hq
        by_cases e : a = q <;> simp [List.filter, hq, ih, SMap.get, e]
  exact hm s.mem

/-- A byte of a region that is cleared reads 0 (R131). -/
theorem State.byte_clearRegion (s : State) (r a : Nat) (h : regionOf a = r) : (s.clearRegion r).byte a = 0 := by
  have hh : (⟨r, 0, []⟩ : Loss).hits a = true := by simp [Loss.hits, h]
  have hm : ∀ m : SMap Byte, SMap.get (memDflt (⟨r, 0, []⟩ :: s.memGen)) (SMap.dropKeys m (⟨r, 0, []⟩ : Loss).hits) a = 0 := by
    intro m
    induction m with
    | nil => simp [SMap.dropKeys, SMap.get, memDflt, hh]
    | cons p t ih =>
      obtain ⟨q, w⟩ := p
      unfold SMap.dropKeys at ih ⊢
      by_cases hq : (⟨r, 0, []⟩ : Loss).hits q = true
      · simp [List.filter, hq, ih]
      · simp only [Bool.not_eq_true] at hq
        have : a ≠ q := by intro e; subst e; simp [hh] at hq
        simp [List.filter, hq, ih, SMap.get, this]
  exact hm s.mem

/-! ### Memory keeps its canonical form -/

theorem Memory.wf_setByte (s : State) (a : Nat) (b : Byte) (h : Memory.wf s) : Memory.wf (s.setByte a b) :=
  SMap.wf_set _ _ _ _ h

theorem Memory.wf_setBytes (s : State) (a : Nat) (l : List Byte) (h : Memory.wf s) : Memory.wf (s.setBytes a l) := by
  induction l generalizing s a with
  | nil => exact h
  | cons b t ih => exact ih _ _ (Memory.wf_setByte s a b h)

theorem Memory.wf_putMem (s : State) (a : Nat) (l : List Byte) (h : Memory.wf s) : Memory.wf (s.putMem a l) := by
  unfold State.putMem
  dsimp only
  split
  · exact Memory.wf_setBytes s a l h
  · exact Memory.wf_setBytes s a l h

theorem Memory.wf_takeLoss (s : State) (l : Loss) (h : Memory.wf s) : Memory.wf (s.takeLoss l) := by
  refine ⟨h.1.filter _, fun p hp => ?_⟩
  have hq := List.mem_filter.1 hp
  have hh : l.hits p.1 = false := by simpa using hq.2
  have hd : memDflt (s.takeLoss l).memGen p.1 = memDflt s.memGen p.1 := by simp [State.takeLoss, memDflt, hh]
  rw [hd]
  exact h.2 p hq.1

theorem Memory.wf_loseRegion (s : State) (r : Nat) (keep : List (Nat × Nat)) (h : Memory.wf s) : Memory.wf (s.loseRegion r keep) :=
  Memory.wf_takeLoss s _ h

theorem Memory.wf_clearRegion (s : State) (r : Nat) (h : Memory.wf s) : Memory.wf (s.clearRegion r) :=
  Memory.wf_takeLoss s _ h

theorem Memory.wf_reset : Memory.wf State.reset := SMap.wf_nil _

/-! ### The whole state stays canonical -/

/-- The state at reset is canonical. -/
theorem State.canonical_reset : State.reset.Canonical := ⟨SMap.wf_nil _, SMap.wf_nil _⟩

/-- Only the control window, memory and its losses decide whether a state is canonical. -/
theorem State.Canonical.congr {s t : State} (h : s.Canonical) (h1 : t.regs = s.regs) (h2 : t.mem = s.mem) (h3 : t.memGen = s.memGen) :
    t.Canonical := by
  unfold State.Canonical Memory.wf
  rw [h1, h2, h3]
  exact h

theorem State.Canonical.setReg {s : State} (h : s.Canonical) (off : Nat) (v : BitVec 64) : (s.setReg off v).Canonical :=
  ⟨SMap.wf_set _ _ _ _ h.1, h.2⟩

theorem State.Canonical.setFld {s : State} (h : s.Canonical) (f : Fld) (v : Nat) : (s.setFld f v).Canonical := h.setReg _ _

theorem State.Canonical.satAdd {s : State} (h : s.Canonical) (f : Fld) (n : Nat) : (s.satAdd f n).Canonical := h.setFld _ _

theorem State.Canonical.satInc {s : State} (h : s.Canonical) (f : Fld) : (s.satInc f).Canonical := h.setFld _ _

theorem State.Canonical.wrapInc {s : State} (h : s.Canonical) (f : Fld) : (s.wrapInc f).Canonical := h.setFld _ _

theorem State.Canonical.fldBitSet {s : State} (h : s.Canonical) (f : Fld) (i : Nat) : (s.fldBitSet f i).Canonical := h.setFld _ _

theorem State.Canonical.fldBitClr {s : State} (h : s.Canonical) (f : Fld) (i : Nat) : (s.fldBitClr f i).Canonical := h.setFld _ _

theorem State.Canonical.setCore {s : State} (h : s.Canonical) (n : Nat) (k : Core) : (s.setCore n k).Canonical := h

theorem State.Canonical.modCore {s : State} (h : s.Canonical) (n : Nat) (g : Core → Core) : (s.modCore n g).Canonical := h

theorem State.Canonical.setByte {s : State} (h : s.Canonical) (a : Nat) (b : Byte) : (s.setByte a b).Canonical :=
  ⟨h.1, Memory.wf_setByte s a b h.2⟩

theorem State.Canonical.setBytes {s : State} (h : s.Canonical) (a : Nat) (l : List Byte) : (s.setBytes a l).Canonical :=
  ⟨by rw [State.setBytes_eq]; exact h.1, Memory.wf_setBytes s a l h.2⟩

theorem State.Canonical.putMem {s : State} (h : s.Canonical) (a : Nat) (l : List Byte) : (s.putMem a l).Canonical :=
  ⟨by rw [State.putMem_regs]; exact h.1, Memory.wf_putMem s a l h.2⟩

theorem State.Canonical.takeLoss {s : State} (h : s.Canonical) (l : Loss) : (s.takeLoss l).Canonical :=
  ⟨h.1, Memory.wf_takeLoss s l h.2⟩

theorem State.Canonical.loseRegion {s : State} (h : s.Canonical) (r : Nat) (keep : List (Nat × Nat)) : (s.loseRegion r keep).Canonical :=
  ⟨h.1, Memory.wf_loseRegion s r keep h.2⟩

theorem State.Canonical.clearRegion {s : State} (h : s.Canonical) (r : Nat) : (s.clearRegion r).Canonical :=
  ⟨h.1, Memory.wf_clearRegion s r h.2⟩

theorem State.Canonical.clearRegs {s : State} (h : s.Canonical) (lo len : Nat) : (s.clearRegs lo len).Canonical :=
  ⟨SMap.wf_dropKeys _ s.regs (fun o => lo ≤ o && o < lo + len) h.1, h.2⟩

/-- A repeated operation keeps the form when each turn of it does. -/
theorem State.Canonical.iter {s : State} (n : Nat) (g : Nat → State → State) (hg : ∀ i t, t.Canonical → (g i t).Canonical)
    (h : s.Canonical) : (s.iter n g).Canonical := by
  unfold State.iter
  generalize List.range n = l
  induction l generalizing s with
  | nil => exact h
  | cons a l ih => exact ih (hg a s h)

/-- An operation over a list keeps the form when each turn of it does. -/
theorem State.Canonical.foldl {α : Type} {s : State} (l : List α) (g : State → α → State)
    (hg : ∀ t a, t.Canonical → (g t a).Canonical) (h : s.Canonical) : (l.foldl g s).Canonical := by
  induction l generalizing s with
  | nil => exact h
  | cons a l ih => exact ih (hg s a h)

theorem State.Canonical.copyRegs {s : State} (h : s.Canonical) (lo len dst : Nat) : (s.copyRegs lo len dst).Canonical :=
  State.Canonical.foldl _ _ (fun _ _ ht => ht.setReg _ _) (h.clearRegs dst len)

/-- The registers after a reset are canonical: no register is listed that a reset brings to its reset value (R18, R787). -/
theorem wf_resetRegs (sel : Keep → Bool) (whole : Nat → Bool) (m : SMap (BitVec 64)) (h : SMap.wf regReset m) :
    SMap.wf regReset (resetRegs sel whole m) := by
  have key : ∀ p q, (if whole p.1 then some p else
      match regAt p.1 with
      | some (r, 0) =>
        let v := BitVec.ofNat 64 (keepWord sel p.2.toNat r.fields)
        if v = regReset p.1 then none else some (p.1, v)
      | _ => none) = some q → q.1 = p.1 ∧ (p.2 ≠ regReset p.1 → q.2 ≠ regReset q.1) := by
    intro p q hq
    split at hq
    · cases hq; exact ⟨rfl, id⟩
    · split at hq
      · dsimp only at hq
        split at hq
        · cases hq
        · cases hq; exact ⟨rfl, fun _ => ‹_›⟩
      · cases hq
  unfold resetRegs
  refine ⟨?_, fun q hq => ?_⟩
  · refine List.Pairwise.filterMap _ (fun p p' hp q hq q' hq' => ?_) h.1
    rw [(key p q hq).1, (key p' q' hq').1]
    exact hp
  · obtain ⟨p, hp, hq⟩ := List.mem_filterMap.1 hq
    exact (key p q hq).2 (h.2 p hp)

end Sys2Proof.Machine
end

