-- ==== Sys2Proof/Laws/Device.lean ====
section
/-! SUPPORT. What the operations on the device as a whole leave unchanged: completions, events, changes of state, the trip path and
the records of discarded writes touch neither memory nor the cores, and keep the state canonical. -/
namespace Sys2Proof.Machine

/-- Between two states memory and the cores are the same and the control window stays canonical. -/
structure Apart (s t : State) : Prop where
  mem : t.mem = s.mem
  memGen : t.memGen = s.memGen
  cores : t.cores = s.cores
  canonical : SMap.wf regReset s.regs → SMap.wf regReset t.regs

theorem Apart.refl (s : State) : Apart s s := ⟨rfl, rfl, rfl, id⟩

theorem Apart.trans {s t u : State} (h : Apart s t) (k : Apart t u) : Apart s u :=
  ⟨k.mem.trans h.mem, k.memGen.trans h.memGen, k.cores.trans h.cores, fun x => k.canonical (h.canonical x)⟩

/-- A state whose control window, memory and cores are those of another. -/
theorem Apart.congr {s t u : State} (h : Apart s t) (h1 : u.regs = t.regs) (h2 : u.mem = t.mem) (h3 : u.memGen = t.memGen)
    (h4 : u.cores = t.cores) : Apart s u :=
  ⟨h2.trans h.mem, h3.trans h.memGen, h4.trans h.cores, fun x => by rw [h1]; exact h.canonical x⟩

theorem Apart.toCanonical {s t : State} (h : Apart s t) (c : s.Canonical) : t.Canonical := by
  refine ⟨h.canonical c.1, ?_⟩
  unfold Memory.wf
  rw [h.mem, h.memGen]
  exact c.2

theorem Apart.core {s t : State} (h : Apart s t) (n : Nat) : t.core n = s.core n := by
  unfold State.core
  rw [h.cores]

theorem Apart.byte {s t : State} (h : Apart s t) (a : Nat) : t.byte a = s.byte a := by
  unfold State.byte
  rw [h.mem, h.memGen]

theorem Apart.setReg {s t : State} (h : Apart s t) (off : Nat) (v : BitVec 64) : Apart s (t.setReg off v) :=
  ⟨h.mem, h.memGen, h.cores, fun x => SMap.wf_set _ _ _ _ (h.canonical x)⟩

theorem Apart.setFld {s t : State} (h : Apart s t) (f : Fld) (v : Nat) : Apart s (t.setFld f v) := h.setReg _ _

theorem Apart.satInc {s t : State} (h : Apart s t) (f : Fld) : Apart s (t.satInc f) := h.setFld _ _

theorem Apart.ite {s t u : State} {p : Prop} [Decidable p] (h : Apart s t) (k : Apart s u) : Apart s (if p then t else u) := by
  split
  · exact h
  · exact k

theorem Apart.foldl {α : Type} {s t : State} (l : List α) (g : State → α → State) (hg : ∀ t a, Apart s t → Apart s (g t a))
    (h : Apart s t) : Apart s (l.foldl g t) := by
  induction l generalizing t with
  | nil => exact h
  | cons a l ih => exact ih (hg t a h)

theorem Apart.iter {s t : State} (n : Nat) (g : Nat → State → State) (hg : ∀ i t, Apart s t → Apart s (g i t)) (h : Apart s t) :
    Apart s (t.iter n g) := Apart.foldl _ _ (fun t a ht => hg a t ht) h

theorem Apart.modFn {s t : State} (h : Apart s t) (f : Nat) (g : Fn → Fn) : Apart s (t.modFn f g) := h.congr rfl rfl rfl rfl

theorem Apart.fire {s t : State} (h : Apart s t) (f v : Nat) : Apart s (t.fire f v) := h.congr rfl rfl rfl rfl

theorem Apart.signal {s t : State} (h : Apart s t) (f v : Nat) : Apart s (t.signal f v) := by
  unfold State.signal
  dsimp only
  exact Apart.ite (Apart.ite (h.fire f v) (h.modFn f _)) (h.fire f v)

theorem Apart.writeCq {s t : State} (h : Apart s t) (f : Nat) (e : CqEntry) : Apart s (t.writeCq f e) := by
  unfold State.writeCq
  refine Apart.signal ?_ _ _
  exact h.congr rfl rfl rfl rfl

/-- A completion goes to its function's queue and nowhere else (R732, R733). -/
theorem Apart.complete {s t : State} (h : Apart s t) (f cid status info : Nat) : Apart s (t.complete f cid status info) := by
  unfold State.complete
  dsimp only
  exact Apart.ite ((h.modFn f _).writeCq f _) ((h.modFn f _).modFn f _)

/-- An event goes to its function's queue, or is counted as lost (R734). -/
theorem Apart.postEvent {s t : State} (h : Apart s t) (f kind info : Nat) : Apart s (t.postEvent f kind info) := by
  unfold State.postEvent
  dsimp only
  exact Apart.ite (h.satInc _) (Apart.ite (h.writeCq f _) (Apart.ite (h.modFn f _) (Apart.ite (h.modFn f _) (h.satInc _))))

theorem Apart.quietOutputs {s t : State} (h : Apart s t) : Apart s t.quietOutputs := by
  unfold State.quietOutputs
  exact Apart.ite h (h.congr rfl rfl rfl rfl)

/-- A change of DEVICE.STATE (R102, R104). -/
theorem Apart.setState {s t : State} (h : Apart s t) (n : Nat) : Apart s (t.setState n) := by
  unfold State.setState
  dsimp only
  exact Apart.ite h ((((h.setFld _ _).setFld _ _).quietOutputs).postEvent _ _ _)

theorem Apart.dropWaiting {s t : State} (h : Apart s t) : Apart s t.dropWaiting :=
  Apart.foldl _ _ (fun _ _ ht => ht.complete _ _ _ _) (h.congr rfl rfl rfl rfl)

theorem Apart.latched {s t : State} (h : Apart s t) (r : Reeve) (d : Dev) (p : Pins) :
    Apart s { t with reeve := r, dev := d, pins := p } := ⟨h.mem, h.memGen, h.cores, h.canonical⟩

/-- A trip leaves cores and memory as they stood (R558–R561). -/
theorem Apart.trip {s t : State} (h : Apart s t) (source detail : Nat) (reeveDie : Bool) : Apart s (t.trip source detail reeveDie) := by
  unfold State.trip
  refine Apart.ite h ?_
  extract_lets d u1 u2 sec u3 u4 u5 u6 u7 u8
  have h1 : Apart s u1 := h.dropWaiting
  have h2 : Apart s u2 := (((h1.setFld _ _).setFld _ _).setFld _ _).setFld _ _
  have h3 : Apart s u3 := (h2.setFld _ _).setFld _ _
  have h4 : Apart s u4 := ((((h3.setFld _ _).setFld _ _).setFld _ _).setFld _ _).setFld _ _
  have h5 : Apart s u5 := h4.satInc _
  have h6 : Apart s u6 := Apart.ite (h5.satInc _) h5
  have h7 : Apart s u7 := (h6.setFld _ _).setFld _ _
  exact (h7.latched _ _ _).setState _

theorem Apart.lose {s t : State} (h : Apart s t) (k : Nat) : Apart s (t.lose k) := by
  unfold State.lose
  dsimp only
  refine Apart.ite h (Apart.ite (Apart.setState ?_ _) ?_)
  · exact h.congr rfl rfl rfl rfl
  · exact h.congr rfl rfl rfl rfl

theorem Apart.regain {s t : State} (h : Apart s t) (k : Nat) : Apart s (t.regain k) := by
  unfold State.regain
  dsimp only
  refine Apart.ite h (Apart.ite (Apart.setState ?_ _) ?_)
  · exact h.congr rfl rfl rfl rfl
  · exact h.congr rfl rfl rfl rfl

/-- A discarded write is recorded in ACCERR alone (R20). -/
theorem Apart.accErr {s t : State} (h : Apart s t) (m : Master) (addr : Nat) : Apart s (t.accErr m addr) := by
  unfold State.accErr
  exact Apart.ite (h.satInc _) ((((h.setFld _ _).setFld _ _).setFld _ _).setFld _ _)

/-- A refused access is recorded in FENCELOG and counted (R437, R555). -/
theorem Apart.logFence {s t : State} (h : Apart s t) (m : Master) (cls : Nat) (write : Bool) (a : Nat) :
    Apart s (t.logFence m cls write a) := by
  unfold State.logFence
  dsimp only
  exact Apart.ite ((h.satInc _).satInc _)
    (((((((h.satInc _).setFld _ _).setFld _ _).setFld _ _).setFld _ _).setFld _ _).setFld _ _)

theorem Apart.traceRec {s t : State} (h : Apart s t) (c kind val : Nat) : Apart s (t.traceRec c kind val) := by
  unfold State.traceRec
  dsimp only
  refine Apart.ite h (Apart.ite ?_ (Apart.satInc ?_ _))
  · exact h.congr rfl rfl rfl rfl
  · exact h.congr rfl rfl rfl rfl

/-- The ACCERR record of a discarded write (R20): the first one keeps its address and master, later ones count. -/
theorem State.accErr_first (s : State) (m : Master) (addr : Nat) (h : s.flag R.DEVICE_ACCERR_LOCKED_WRITE = false) :
    (s.accErr m addr).fld R.DEVICE_ACCERR_ADDR = addr % 2 ^ 40 ∧ (s.accErr m addr).fld R.DEVICE_ACCERR_COUNT = 1 ∧
    (s.accErr m addr).fld R.DEVICE_ACCERR_MASTER = m.code % 2 ^ 8 ∧ (s.accErr m addr).flag R.DEVICE_ACCERR_LOCKED_WRITE = true := by
  unfold State.accErr
  rw [if_neg (by simp [h])]
  refine ⟨State.fld_setFld _ _ _ (by decide), ?_, ?_, ?_⟩
  · rw [State.fld_setFld_other _ _ _ _ (by decide) (by decide), State.fld_setFld _ _ _ (by decide)]; rfl
  · rw [State.fld_setFld_other _ _ _ _ (by decide) (by decide), State.fld_setFld_other _ _ _ _ (by decide) (by decide),
      State.fld_setFld _ _ _ (by decide)]
    rfl
  · rw [State.flag, State.fld_setFld_other _ _ _ _ (by decide) (by decide), State.fld_setFld_other _ _ _ _ (by decide) (by decide),
      State.fld_setFld_other _ _ _ _ (by decide) (by decide), State.fld_setFld _ _ _ (by decide)]
    rfl

theorem State.accErr_later (s : State) (m : Master) (addr : Nat) (h : s.flag R.DEVICE_ACCERR_LOCKED_WRITE = true) :
    (s.accErr m addr).fld R.DEVICE_ACCERR_COUNT = min (s.fld R.DEVICE_ACCERR_COUNT + 1) 255 := by
  unfold State.accErr
  rw [if_pos h, State.fld_satInc _ _ (by decide)]
  rfl

end Sys2Proof.Machine
end

