-- ==== Sys2Proof/Laws/HostQueue.lean ====
section
/-! SUPPORT. What a host command does, said once: nothing, a general refusal, or its own effect. -/
namespace Sys2Proof.Machine

/-- The state in which a command's effect takes place: its entry is taken from the queue and is in progress (R733). -/
def State.taken (s : State) (e : SubEntry) (opc : Nat) : State :=
  s.modFn e.fn (fun k => { k with sqHead := (k.sqHead + 1) % s.sqSize e.fn, inprog := k.inprog ++ [⟨e.cid.toNat, opc⟩] })

/-- Every outcome of a host command (R733–R736). -/
theorem State.hostCmd_cases (s : State) (e : SubEntry) (opc : Nat) (c : CmdRow) (body : State → State) :
    s.hostCmd e opc c body = s ∨
    (∃ r, r ≠ 0 ∧ s.hostCmd e opc c body = (s.taken e opc).complete e.fn e.cid.toNat r 0) ∨
    ((s.taken e opc).refusal e.fn e c = 0 ∧ s.hostCmd e opc c body = body (s.taken e opc)) := by
  unfold State.hostCmd
  split
  · exact .inl rfl
  · dsimp only
    split
    · rename_i h
      exact .inr (.inl ⟨_, h, rfl⟩)
    · rename_i h
      exact .inr (.inr ⟨not_not.1 h, rfl⟩)

/-- Taking an entry changes its function's queue alone. -/
theorem State.taken_regs (s : State) (e : SubEntry) (opc : Nat) : (s.taken e opc).regs = s.regs := rfl

/-- No general rule refuses a command whose conditions hold (R103, R714, R735, R736, R741). -/
theorem State.refusal_eq_zero {s : State} {f : Nat} {e : SubEntry} {c : CmdRow} (h1 : e.rsv = false) (h2 : e.cid ≠ 0xFFFF) (h3 : c.ok = true)
    (h4 : c.issuer = .all ∨ (c.issuer = .pf0 ∧ f = 0) ∨ (c.issuer = .vf ∧ f ≠ 0)) (h5 : s.st ≠ stTRIPPED ∨ c.tripped = true)
    (h6 : c.hello = false ∨ (s.fld (R.PCIEA_F_FSTATUS_VERSION f) ≠ 0 ∧ c.version ≤ s.fld (R.PCIEA_F_FSTATUS_VERSION f)))
    (h7 : s.flag R.KEEP_STATUS_SCRUBBING = false ∨ c.scrub = true) : s.refusal f e c = 0 := by
  unfold State.refusal
  dsimp only
  have h2' : ¬ e.cid = 65535#16 := h2
  rw [if_neg (by simp [h1, h2', h3]), if_neg, if_neg, if_neg, if_neg, if_neg]
  · rcases h7 with h | h <;> simp [h]
  · rcases h6 with h | h
    · simp [h]
    · simp; intro _; exact h.2
  · rcases h6 with h | h
    · simp [h]
    · simp; intro _; exact h.1
  · rcases h5 with h | h <;> simp [h]
  · rcases h4 with h | h | h <;> simp [h]

/-- A command that its function may start and that no general rule refuses has its own effect. -/
theorem State.hostCmd_taken {s : State} {e : SubEntry} {opc : Nat} {c : CmdRow} (h1 : s.canStart e.fn = true)
    (h2 : s.ideShut 0 = false ∨ (c.scrub = true ∧ e.fn = 0)) (h3 : (s.taken e opc).refusal e.fn e c = 0) (body : State → State) :
    s.hostCmd e opc c body = body (s.taken e opc) := by
  unfold State.hostCmd
  rw [if_neg (by rcases h2 with h | ⟨h, h'⟩ <;> simp_all)]
  exact if_neg (not_not.2 h3)

/-- A command of PF0 with nothing against it has its own effect. -/
theorem State.hostCmd_fromPf0 {s : State} {e : SubEntry} (h : s.FromPf0 e) (opc : Nat) (ok : Bool) (hok : ok = true) (scrub : Bool)
    (body : State → State) : s.hostCmd e opc { rowPf0 ok with scrub := scrub } body = body (s.taken e opc) := by
  obtain ⟨⟨h1, h2, h3, h4, h5⟩, h6, h7, h8⟩ := h
  subst hok
  have hr : (s.taken e opc).refusal e.fn e { rowPf0 true with scrub := scrub } = 0 := by
    refine State.refusal_eq_zero h4 h5 rfl (.inr (.inl ⟨rfl, by rw [h6]; rfl⟩)) (.inl h7) (.inr ?_) (.inl h3)
    rw [h6]
    have h9 : 0x10 ≤ (s.taken e opc).fld (R.PCIEA_F_FSTATUS_VERSION 0) := h8
    refine ⟨?_, h9⟩
    show (s.taken e opc).fld (R.PCIEA_F_FSTATUS_VERSION 0) ≠ 0
    omega
  exact State.hostCmd_taken h1 (.inl h2) hr body

end Sys2Proof.Machine
end

