-- ==== Sys2Proof/Laws/Steward.lean ====
section
/-! SUPPORT. What an instruction of the Steward does, said once: which of its outcomes it has, and what each leaves. -/
namespace Sys2Proof.Machine

/-- No event is taken where none may be. -/
theorem State.takePending_none {s : State} {c : Nat} (h : (s.nextEvent c).isNone = true) : s.takePending c = none := by
  unfold State.takePending
  cases h' : s.nextEvent c with
  | none => rfl
  | some x => rw [h'] at h; simp at h

/-- Outside a debug step nothing is used up. -/
theorem State.useStep_eq {s : State} {c : Nat} (h : (s.core c).step = false) : s.useStep c = s := by
  simp [State.useStep, h]

/-- Every outcome of an instruction (R208, R209, R214, R216, R220, R232, R249): nothing when the Steward is not at a boundary or must
wait for its accesses, else an event, a fetch, target, legality or level exception, a skip, or its own effect. -/
theorem State.runInstr_cases (s : State) (c : CoreId) (f : IFields) (lvl : Priv) (ser legal : Bool) (body : State → SOut)
    (target : State → Word) (valid : State → Bool) :
    let s1 := s.useStep c
    let s2 := s1.modCore c Core.fetched
    let k := s1.core c
    let r := s.runInstr c f lvl ser legal body target valid
    r = s ∨ s1.takePending c = some r ∨
    (∃ a, s1.fetchFault k f = some a ∧ r = s1.raise c (.sync 0x01 a) k.pc) ∨
    ((target s1).toNat % 4 ≠ 0 ∧ r = s1.raise c (.sync 0x02 (target s1)) k.pc) ∨
    ((legal = false ∨ valid s1 = false) ∧ r = s1.raise c (.sync 0x03) k.pc) ∨
    r = s2.advance c (k.pc + w64 f.len) ∨ r = s2.raise c (.sync 0x04) k.pc ∨
    (legal = true ∧ valid s1 = true ∧ r = State.settle c k.pc f.len (body s2)) := by
  dsimp only
  unfold State.runInstr
  dsimp only
  split
  · exact .inl rfl
  · split
    · rename_i t ht
      exact .inr (.inl ht)
    · split
      · rename_i a ha
        exact .inr (.inr (.inl ⟨a, ha, rfl⟩))
      · split
        · rename_i h
          exact .inr (.inr (.inr (.inl ⟨by simp at h; exact h.2, rfl⟩)))
        · split
          · rename_i h
            refine .inr (.inr (.inr (.inr (.inl ⟨?_, rfl⟩))))
            simp only [Bool.or_eq_true, Bool.and_eq_true, Bool.not_eq_true'] at h
            exact h.imp id And.right
          · rename_i h
            split
            · exact .inr (.inr (.inr (.inr (.inr (.inl rfl)))))
            · rename_i hp
              split
              · exact .inr (.inr (.inr (.inr (.inr (.inr (.inl rfl))))))
              · split
                · exact .inl rfl
                · simp only [Bool.not_eq_true', Bool.not_eq_false] at hp
                  simp [hp] at h
                  exact .inr (.inr (.inr (.inr (.inr (.inr (.inr ⟨h.1, h.2, rfl⟩))))))

/-- A legal instruction that the Steward is ready for has its own effect. -/
theorem State.runInstr_ready {s : State} {c : CoreId} {f : IFields} {lvl : Priv} {ser legal : Bool} {target : State → Word}
    {valid : State → Bool} (h : s.Ready c f lvl ser) (hl : legal = true) (body : State → SOut)
    (ht : (target s).toNat % 4 = 0 := by rfl) (hv : valid s = true := by rfl) :
    s.runInstr c f lvl ser legal body target valid =
      State.settle c (s.core c).pc f.len (body (s.modCore c Core.fetched)) := by
  obtain ⟨h1, h2, h3, h4, h5, h6, h7⟩ := h
  subst hl
  unfold State.runInstr
  rw [if_neg (by simp [h1])]
  simp only [State.useStep_eq h2, State.takePending_none h3, h4, h5, h6, ht, hv]
  have : (ser && !(State.inFlight (s.modCore c Core.fetched) c).isEmpty) = false := by
    cases ser with
    | false => rfl
    | true => simpa [State.inFlight] using h7 rfl
  simp [this]

/-- An illegal instruction raises ILLEGAL, whatever its predicate holds (R209). -/
theorem State.runInstr_illegal {s : State} {c : CoreId} {f : IFields} {lvl : Priv} {ser : Bool} {target : State → Word}
    {valid : State → Bool} (h1 : s.atBoundary c = true) (h2 : (s.core c).step = false) (h3 : (s.nextEvent c).isNone = true)
    (h4 : s.fetchFault (s.core c) f = none) (body : State → SOut) (ht : (target s).toNat % 4 = 0 := by rfl) :
    s.runInstr c f lvl ser false body target valid = s.raise c (.sync 0x03) (s.core c).pc := by
  unfold State.runInstr
  rw [if_neg (by simp [h1])]
  simp only [State.useStep_eq h2, State.takePending_none h3, h4, ht]
  simp

/-- An instruction whose predicate holds 0 is skipped (R208). -/
theorem State.runInstr_skipped {s : State} {c : CoreId} {f : IFields} {lvl : Priv} {ser legal : Bool} {target : State → Word}
    {valid : State → Bool} (h1 : s.atBoundary c = true) (h2 : (s.core c).step = false) (h3 : (s.nextEvent c).isNone = true)
    (h4 : s.fetchFault (s.core c) f = none) (hl : legal = true) (hp : (s.core c).preg f.pred.toNat = false)
    (body : State → SOut) : s.runInstr c f lvl ser legal body target valid =
      (s.modCore c Core.fetched).advance c ((s.core c).pc + w64 f.len) := by
  subst hl
  unfold State.runInstr
  rw [if_neg (by simp [h1])]
  simp only [State.useStep_eq h2, State.takePending_none h3, h4, hp]
  simp

/-- The control window and memory are untouched when the Steward goes on. -/
@[simp] theorem State.advance_regs (s : State) (c : Nat) (pc : Word) : (s.advance c pc).regs = s.regs := rfl
@[simp] theorem State.advance_mem (s : State) (c : Nat) (pc : Word) : (s.advance c pc).mem = s.mem := rfl
@[simp] theorem State.advance_memGen (s : State) (c : Nat) (pc : Word) : (s.advance c pc).memGen = s.memGen := rfl
@[simp] theorem State.advance_pending (s : State) (c : Nat) (pc : Word) : (s.advance c pc).pending = s.pending := rfl

/-- Where the Steward goes on: at the address given, running, with one more instruction retired (R221). -/
theorem State.advance_core (s : State) (c n : Nat) (pc : Word) :
    (s.advance c pc).core n = if n = c then { (s.core c).retire with pc := pc, stw := .run } else s.core n := by
  simp [State.advance]

end Sys2Proof.Machine
end

