-- ==== Sys2Proof/Laws/Store.lean ====
section
/-! SUPPORT. The laws of the settings store: sparse byte maps, and what the checks of an image rest on. -/
namespace Sys2Proof.Machine

/-- A sparse byte map after a write: the bytes written in their places, the others as before. -/
theorem get_mapPut (m : SMap Byte) (off : Nat) (l : List Byte) (k : Nat) :
    SMap.get (fun _ => 0) (mapPut m off l) k =
      if off ≤ k ∧ k < off + l.length then l.getD (k - off) 0 else SMap.get (fun _ => 0) m k := by
  induction l generalizing m off with
  | nil => simp [mapPut]
  | cons b t ih =>
    rw [mapPut, ih, SMap.get_set]
    by_cases h : k = off
    · subst h; simp
    · by_cases h2 : off + 1 ≤ k ∧ k < off + 1 + t.length
      · have h3 : k - off = (k - (off + 1)) + 1 := by omega
        rw [if_pos h2, if_pos (by simp only [List.length_cons]; omega), h3, List.getD_cons_succ]
      · rw [if_neg h2, if_neg h, if_neg (by simp only [List.length_cons]; omega)]

/-- Bytes written into a sparse byte map read back. -/
theorem mapBytes_mapPut (m : SMap Byte) (off i n : Nat) (l : List Byte) (h : i + n ≤ l.length) :
    mapBytes (mapPut m off l) (off + i) n = (l.drop i).take n := by
  apply List.ext_getElem
  · simp [mapBytes]; omega
  · intro j h1 h2
    simp only [mapBytes, List.length_map, List.length_range] at h1
    simp only [mapBytes, List.getElem_map, List.getElem_range, List.getElem_take, List.getElem_drop]
    rw [get_mapPut, if_pos (by omega), List.getD_eq_getElem?_getD, List.getElem?_eq_getElem (by omega), Option.getD_some]
    congr 1; omega

/-- Bytes of a sparse byte map outside a write read as before. -/
theorem mapBytes_mapPut_other (m : SMap Byte) (off i n : Nat) (l : List Byte) (h : i + n ≤ off ∨ off + l.length ≤ i) :
    mapBytes (mapPut m off l) i n = mapBytes m i n := by
  apply List.map_congr_left
  intro j hj
  rw [List.mem_range] at hj
  rw [get_mapPut, if_neg (by omega)]

/-- An image put into an empty map is cut out again by its LEN. -/
theorem imageOf_mapPut (img : List Byte) (h16 : 16 ≤ img.length) (h : leAt img 0xC 4 = img.length) (hl : img.length ≤ 0x3FFC0) :
    imageOf (mapPut [] 0 img) = img := by
  have h1 : mapBytes (mapPut [] 0 img) 0xC 4 = (img.drop 0xC).take 4 := by
    have := mapBytes_mapPut [] 0 0xC 4 img (by omega)
    simpa using this
  have h2 : leNat ((img.drop 0xC).take 4) = img.length := h
  rw [imageOf, h1, h2, Nat.min_eq_left hl]
  have := mapBytes_mapPut [] 0 0 img.length img (by omega)
  simpa using this

/-- Check 7 looks at the variant and the loaded programs only. -/
theorem check7_congr (s t : State) (l : List (Nat × List Byte)) (hc : s.reg R.DEVICE_CAPS = t.reg R.DEVICE_CAPS)
    (hp : s.jobs.progs = t.jobs.progs) : s.check7 l = t.check7 l := by
  have core : s.hasCore = t.hasCore := by funext n; simp only [State.hasCore, State.fld, R.DEVICE_CAPS_CORE_MASK, hc]
  have disp : s.hasDisp = t.hasDisp := by simp only [State.hasDisp, State.flag, State.fld, R.DEVICE_CAPS_DISPTAP, hc]
  have nim : s.hasNim = t.hasNim := by simp only [State.hasNim, State.flag, State.fld, R.DEVICE_CAPS_NIMLINK, hc]
  have portB : s.hasPortB = t.hasPortB := by simp only [State.hasPortB, State.flag, State.fld, R.DEVICE_CAPS_PCIEB, hc]
  have absent : s.absent = t.absent := by
    funext o; simp only [State.absent, State.hasPond, core, disp, nim, portB]
  have img : s.imgOk = t.imgOk := by funext c p; simp only [State.imgOk, absent]
  have slot : slotRules s = slotRules t := by funext st; simp only [slotRules, core]
  have route : routeRules s = routeRules t := by
    have : routeOk s = routeOk t := by funext st e; simp only [routeOk, disp]
    funext st; simp only [routeRules, this]
  have tap : tapRules s = tapRules t := by funext st; simp only [tapRules, disp]
  have other : otherRules s = otherRules t := by funext st has; simp only [otherRules, nim]
  have power : powerRules s = powerRules t := by funext st; simp only [powerRules, hp]
  simp only [State.check7, img, slot, route, tap, other, power]

/-- A field that lies past the first bytes of a list. -/
theorem leAt_append (a b : List Byte) (off n : Nat) (h : a.length ≤ off) : leAt (a ++ b) off n = leAt b (off - a.length) n := by
  rw [leAt, leAt, List.drop_append, List.drop_of_length_le h, List.nil_append]

/-- A number at the front of a list reads as itself. -/
theorem leAt_leBytes (n x : Nat) (b : List Byte) : leAt (leBytes n x ++ b) 0 n = x % 256 ^ n := by
  rw [leAt, List.drop_zero, List.take_append_of_le_length (by rw [leBytes_length]), List.take_of_length_le (by rw [leBytes_length]),
    leNat_leBytes]

theorem markerBytes_length (gen len crc : Nat) : (markerBytes gen len crc).length = 64 := by
  simp [markerBytes]

/-- The commit marker of a slot reads as what STORE wrote (R751). -/
theorem markerOf_markerBytes (m : SMap Byte) (gen len crc : Nat) (h : mapBytes m 0x3FFC0 64 = markerBytes gen len crc) :
    markerOf m = some (gen % 256 ^ 4, len % 256 ^ 4, crc % 256 ^ 4) := by
  have l4 : ∀ x, (leBytes 4 x).length = 4 := leBytes_length 4
  let hd := leBytes 4 0x434D4954 ++ leBytes 4 gen ++ leBytes 4 len ++ leBytes 4 crc ++ leBytes 44 0
  have hl : hd.length = 60 := by simp [hd]
  have e : markerBytes gen len crc = leBytes 4 0x434D4954 ++ (leBytes 4 gen ++ (leBytes 4 len ++ (leBytes 4 crc ++
      (leBytes 44 0 ++ leBytes 4 (crc32 hd))))) := by simp [markerBytes, hd]
  have e' : markerBytes gen len crc = hd ++ leBytes 4 (crc32 hd) := rfl
  have a0 : leAt (markerBytes gen len crc) 0 4 = 0x434D4954 := by rw [e, leAt_leBytes]; decide
  have a1 : leAt (markerBytes gen len crc) 4 4 = gen % 256 ^ 4 := by
    rw [e, leAt_append _ _ _ _ (by rw [l4]), l4, leAt_leBytes]
  have a2 : leAt (markerBytes gen len crc) 8 4 = len % 256 ^ 4 := by
    rw [e, leAt_append _ _ _ _ (by rw [l4]; decide), l4, leAt_append _ _ _ _ (by rw [l4]), l4, leAt_leBytes]
  have a3 : leAt (markerBytes gen len crc) 12 4 = crc % 256 ^ 4 := by
    rw [e, leAt_append _ _ _ _ (by rw [l4]; decide), l4, leAt_append _ _ _ _ (by rw [l4]; decide), l4, leAt_append _ _ _ _ (by rw [l4]), l4,
      leAt_leBytes]
  have a4 : leAt (markerBytes gen len crc) 60 4 = crc32 ((markerBytes gen len crc).take 60) := by
    have k : (hd ++ leBytes 4 (crc32 hd)).take 60 = hd := by rw [List.take_append_of_le_length (by rw [hl]), List.take_of_length_le (by rw [hl])]
    rw [e', k, leAt_append _ _ _ _ (by rw [hl]), hl]
    have := leAt_leBytes 4 (crc32 hd) []
    rw [List.append_nil] at this
    rw [this]
    exact Nat.mod_eq_of_lt (crc32_lt hd)
  simp only [markerOf, h, a0, a4, a1, a2, a3, true_and, if_true]

end Sys2Proof.Machine
end

