-- ==== Sys2Proof/Tests/Slice0.lean ====
section
/-! SUPPORT. Small tests of single steps, and the states that meet the hypotheses of the statements. -/
namespace Sys2Proof.Tests
open Machine

set_option maxRecDepth 16000
set_option exponentiation.threshold 4096

/-! ### Ill-formed commands that the check refuses -/

theorem test_wf_core_number : (Instr.cntclr (.core 16 5 .m) 0).wf = false := by decide
theorem test_wf_unit_number : (Instr.cntclr (.core 0 6 .m) 0).wf = false := by decide
theorem test_wf_function : (Instr.cntclr (.fn 5) 0).wf = false := by decide
theorem test_wf_digest : (Instr.agree 0 0 0 []).wf = false := by decide
theorem test_wf_scan_record : (Instr.scanRecord true [0]).wf = false := by decide
theorem test_wf_pmic : (Instr.pmicRead (some [])).wf = false := by decide
theorem test_wf_buffer : (Instr.submit ⟨0, 0, false, 0, 64, 0, some []⟩).wf = false := by decide
theorem test_wf_report : (Instr.rollReport 0 0 ⟨0, 0, 0, 0, []⟩).wf = false := by decide
theorem test_wf_remote : (Instr.remoteRequest ⟨0, true, 0, 0, false, 0, [], 65⟩).wf = false := by decide

/-! ### The state at reset -/

theorem test_reset_step : step State.reset = .next State.reset.tick := by rfl

/-! ### Small states -/

/-- Core 0 as `k`, everything else as at power-on. -/
def sCore (k : Core) : State := { State.reset with cores := [(0, k)] }

/-- A state with fields of the control window set. -/
def withFlds (l : List (Fld × Nat)) (s : State) : State := l.foldl (fun s p => s.setFld p.1 p.2) s

/-- Core 0 as `k`, with every DRAM channel up. -/
def sUp (k : Core) : State := withFlds [(R.MEMC_STATUS_CH_UP, 0xFF)] (sCore k)

/-- A core whose Steward runs at M. -/
def kRun : Core := { Core.reset with stw := .run }

/-- A core whose Steward runs at U, with a window over the page at 0. -/
def kU : Core := { kRun with priv := .u, csr := [(0x28, 7), (0x29, 1)] }

/-- A core at M with a value in s1. -/
def kS1 (v : Word) : Core := { kRun with s := [(1, v)] }

/-- Instruction fields: all 0; W set; an extension word; sources s1 and s1; imm8 of a number. -/
def f0 : IFields := ⟨0, 0, 0, 0, 0, 0⟩
def fW : IFields := ⟨0, 0, 0, 0, 4, 0⟩
def fX : IFields := ⟨0, 0, 0, 0, 8, 0x1000⟩
def fA : IFields := ⟨0, 1, 0, 0, 0, 0⟩
def fB : IFields := ⟨0, 0, 1, 0, 0, 0⟩
def fImm (n : Nat) : IFields := ⟨0, 0, BitVec.ofNat 5 (n / 8), 0, BitVec.ofNat 4 (n % 8), 0⟩

/-! ### Witnesses: the Steward -/

theorem witness_StepRunsFrontCommand :
    ({ State.reset with pending := [.overtemp] } : State).pending = Instr.overtemp :: [] := by decide
theorem witness_IdleTick : State.reset.pending = [] ∧ State.reset.dev.off = false ∧
    ({ State.reset with dev := { State.reset.dev with off := true } } : State).dev.off = true := by decide
theorem witness_StepKeepsCanonical : State.reset.Canonical ∧ ∃ t, step State.reset = .next t := by
  refine ⟨?_, _, rfl⟩
  decide
theorem witness_IntegerResults : (sCore kRun).Ready 0 f0 .u false ∧ f0.mod.toNat % 4 = 0 ∧ f0.hasExt = false ∧ f0.srcB = 0 ∧
    f0.mod.getLsbD 2 = false := by decide
theorem witness_IntegerResults_w : (sCore kRun).Ready 0 fW .u false ∧ fW.mod.toNat % 4 = 0 ∧ fW.hasExt = false ∧ fW.srcB = 0 ∧
    fW.mod.getLsbD 2 = true := by decide
theorem witness_IntegerResults_div : (sCore (kS1 3)).Ready 0 fB .u false ∧ fB.mod.toNat % 4 = 0 ∧ fB.hasExt = false ∧
    (((sCore (kS1 3)).core 0).sreg fB.srcB.toNat).toNat ≠ 0 := by decide
theorem witness_PredicateAndImmediateResults : (sCore kRun).Ready 0 f0 .u false ∧ f0.hasExt = false ∧ f0.dst.toNat < 8 ∧
    f0.low3 < 4 ∧ f0.immOk = true ∧ f0.srcA = 0 ∧ f0.srcB = 0 ∧ f0.dst = 0 ∧ f0.imm8 < 64 := by decide
theorem witness_PredicateAndImmediateResults_ext : (sCore kRun).Ready 0 fX .u false ∧ fX.hasExt = true ∧ fX.immOk = true ∧
    fX.srcA = 0 := by decide
theorem witness_PredicateRegisters : (1 : Nat) < 8 ∧ (7 : Nat) < 8 ∧ (7 : Nat) ≠ 0 := by decide
theorem witness_LoadsAndCaches : (sUp kRun).Ready 0 f0 .u false ∧ f0.immOk = true ∧ (0 : Nat) % 8 = 0 ∧
    (sUp kRun).dataOk kRun.priv kRun.wins false 0 8 = true ∧ (sUp kRun).storesOver 0 0 8 = false ∧ (sUp kRun).loc (some 0) 0 = .mem 0 ∧
    (sUp kRun).Plain kRun.cls false 0 ∧ kRun.cached 0 = none := by decide
theorem witness_LoadsAndCaches_dcinv : (sCore kRun).Ready 0 f0 .s true ∧ f0.hasExt = false ∧ f0.dst = 0 ∧ f0.mod = 0 ∧
    f0.srcA = 0 ∧ f0.srcB = 0 := by decide
theorem witness_PostedStores : (sCore kRun).Ready 0 f0 .u false ∧ f0.immOk = true ∧ (sCore kRun).dataOk kRun.priv kRun.wins true 0 8 = true ∧
    (sCore kRun).loc (some 0) 0 = .mem 0 ∧ (sCore kRun).tagFree 0 5 kRun.cls = true := by decide

/-- A posted store of core 0 in flight. -/
def oStore : Outst := ⟨0, 0, 5, true, 0x100, [1], 0, 0, .m, 0, 0, 0, false⟩
def sStore : State := { sUp kRun with fab := { State.reset.fab with outst := [oStore] } }
theorem witness_PostedStores_lands : sStore.fab.outst.find? (fun x => x.tag == oStore.tag && x.write) = some oStore ∧
    sStore.behind oStore = false ∧ sStore.loc (some oStore.core) oStore.addr = .mem 0x100 ∧
    sStore.issueEpoch (.mem 0x100) = oStore.epoch ∧ sStore.Plain oStore.cls true 0x100 := by decide
theorem witness_BranchResults : (sCore kRun).Ready 0 f0 .u false ∧ f0.braOk = true ∧ ((sCore kRun).core 0).pc.toNat % 4 = 0 ∧
    f0.dst = 0 ∧ f0.srcB = 0 ∧ f0.mod = 0 ∧ (((sCore kRun).core 0).sreg 0).toNat ≤ 1 := by decide
theorem witness_BranchResults_loop : (sCore (kS1 2)).Ready 0 ⟨1, 0, 0, 0, 0, 0⟩ .u false ∧
    1 < (((sCore (kS1 2)).core 0).sreg 1).toNat := by decide
theorem witness_TrapsOfOrdinaryData : (sCore (kS1 1)).Ready 0 fA .u false ∧ fA.mod.toNat % 4 = 0 ∧ fA.hasExt = false ∧
    ((sCore (kS1 1)).core 0).sreg fA.srcB.toNat = 0 ∧ fA.immOk = true ∧
    (((sCore (kS1 1)).core 0).sreg fA.srcA.toNat + 0).toNat % 2 ≠ 0 ∧ fA.dst = 0 ∧ fA.srcB = 0 ∧ fA.mod = 0 := by decide
theorem witness_TrapsOfOrdinaryData_access : (sCore (kS1 (2 ^ 40))).Ready 0 fA .u false ∧ fA.immOk = true ∧
    (2 ^ 40 : Nat) % 8 = 0 ∧ (sCore (kS1 (2 ^ 40))).dataOk .m kRun.wins true (2 ^ 40) 8 = false := by decide
theorem witness_CsrResults : (sCore kRun).Ready 0 (fImm 0x08) .u true ∧ (fImm 0x08).hasExt = false ∧
    csrLevels (fImm 0x08).imm8 = some (.s, some .s) ∧ Priv.m.atLeast .s = true ∧ csrWx 0x08 0 = false ∧ (fImm 0x08).srcA = 0 ∧
    (fImm 0x08).dst = 0 ∧ csrLevels (fImm 0x19).imm8 = some (.s, none) := by decide
theorem witness_CsrResults_level : (sCore kU).Ready 0 (fImm 0x10) .u true ∧ (fImm 0x10).hasExt = false ∧
    csrLevels (fImm 0x10).imm8 = some (.m, some .m) ∧ kU.priv.atLeast .m = false := by decide
theorem witness_CsrResults_none : (sCore kRun).Ready 0 (fImm 0xFF) .u true ∧ csrLevels (fImm 0xFF).imm8 = none := by decide
theorem witness_Exceptions : Priv.m ≠ .u ∧ (kRun.rdCsr 0x10).getLsbD 0 = false ∧
    (({ kRun with csr := [(0x10, 1)] } : Core).rdCsr 0x10).getLsbD 0 = true := by decide
theorem witness_Exceptions_commands : (sCore kRun).Ready 0 f0 .s true ∧ f0.hasExt = false ∧
    (sCore kRun).flag R.DBG_STATUS_ATTACHED = false ∧ (sCore kRun).atBoundary 0 = true ∧ kRun.dbgHalt = false ∧ kRun.stw = .run ∧
    ((sCore kRun).nextEvent 0).isNone = true := by decide
theorem witness_Exceptions_break : (withFlds [(R.DBG_STATUS_ATTACHED, 1), (R.KEEP_STATUS_LCS, 3)] (sCore kRun)).Ready 0 f0 .u true ∧
    (withFlds [(R.DBG_STATUS_ATTACHED, 1), (R.KEEP_STATUS_LCS, 3)] (sCore kRun)).flag R.DBG_STATUS_ATTACHED = true ∧
    (withFlds [(R.DBG_STATUS_ATTACHED, 1), (R.KEEP_STATUS_LCS, 3)] (sCore kRun)).fld R.KEEP_STATUS_LCS = 3 := by decide
theorem witness_Exceptions_event : ((sCore { kRun with csr := [(0x10, 2)], pend := ⟨[], 1, false, false, false, none⟩ }).nextEvent 0).isSome = true := by
  decide
theorem witness_WaitingInstructions : (sCore kRun).Ready 0 f0 .m true ∧ f0.hasExt = false ∧ (sCore kRun).anyPending 0 = false ∧
    f0.dst = 0 ∧ f0.srcA = 0 ∧ f0.srcB = 0 := by decide
theorem witness_WaitingInstructions_pending :
    (sCore { kRun with csr := [(0x10, 1)], pend := ⟨[], 1, false, false, false, none⟩ }).Ready 0 f0 .u true ∧
    (sCore { kRun with csr := [(0x10, 1)], pend := ⟨[], 1, false, false, false, none⟩ }).anyPending 0 = true := by decide
theorem witness_ContextAndPreserve : (sCore kRun).Ready 0 f0 .m true ∧ f0.hasExt = false ∧ ((sCore kRun).core 0).sreg 0 = 0 ∧
    (sCore kRun).fld (R.CORE_BELLSTAT_PDEPTH 0) = 0 ∧ (∀ e, e < 5 → kRun.queue e = []) ∧ f0.dst = 0 ∧ f0.srcB = 0 ∧ f0.mod = 0 := by
  refine ⟨by decide, by decide, by decide, by decide, fun e _ => rfl, by decide⟩
theorem witness_ContextAndPreserve_depth : (withFlds [(R.CORE_BELLSTAT_PDEPTH 0, 4)] (sCore kRun)).Ready 0 f0 .s true ∧
    (withFlds [(R.CORE_BELLSTAT_PDEPTH 0, 4)] (sCore kRun)).fld (R.CORE_BELLSTAT_PDEPTH 0) = 4 ∧ (kRun.sreg 31).toNat % 4 = 0 ∧
    kRun.pdelta = [] ∧ kRun.watches = [] := by decide

/-- Core 0 with four lines cached in the set of the line at 0. -/
def kSets : Core := { kRun with dcache := [(128, []), (256, []), (384, []), (512, [])] }
theorem witness_LoadsAndCaches_pref : (sUp kRun).Ready 0 f0 .u false ∧ (sUp kRun).loc (some 0) 0 = .mem 0 ∧
    (sUp kRun).inFlight 0 = [] ∧ (kRun.dcache.filter (fun l => l.1 % 128 = 0 ∧ l.1 ≠ 0)).length < 4 := by decide
theorem witness_LoadsAndCaches_full : (sUp kSets).Ready 0 f0 .u false ∧ kSets.cached 0 = none ∧
    (sUp kSets).dataOk kSets.priv kSets.wins false 0 1 = true ∧ (sUp kSets).Plain kSets.cls false 0 ∧
    ¬(kSets.dcache.filter (fun l => l.1 % 128 = 0 ∧ l.1 ≠ 0)).length < 4 := by decide
theorem witness_LoadsAndCaches_view : (sUp (kS1 0x4000000000)).Ready 0 fA .u false ∧
    (sUp (kS1 0x4000000000)).loc (some 0) (((kS1 0x4000000000).sreg 1) + fA.imm).toNat = .mem 0 ∧
    (sUp (kS1 0x4000000000)).dataOk .m kRun.wins false 0x4000000000 1 = true ∧ (kS1 0x4000000000).cached 0 = none := by decide
theorem witness_Exceptions_unlisted : (sCore kRun).fetchFault kRun f0 = none ∧ kRun.step = false := by decide
theorem witness_Exceptions_eret : (({ sCore { kRun with csr := [(0x10, 1)], pend := ⟨[(.poison, 8, .m)], 0, false, false, false, none⟩ } with
    pending := [] } : State).events 0).find? (fun v => v.1 == .m && v.2.1.code < 0x40) ≠ none := by decide
theorem witness_Exceptions_eret_interrupt : ∀ v ∈ (sCore { kRun with csr := [(0x10, 3)], pend := ⟨[], 0, false, true, false, none⟩ }).events 0,
    v.1 = .m → 0x40 ≤ v.2.1.code := by decide

/-! ### Witnesses: objects, barriers, mailboxes and queues -/

/-- Identifier 1023 of context 0 names object 5 of core 0, which has the given value, a LIMIT of 10 and the given PRIV. -/
def sObj (k : Core) (v priv : Nat) : State :=
  withFlds [(R.CORE_VMAP_VALID 0 0 1023, 1), (R.CORE_VMAP_PHYS 0 0 1023, 5), (R.CORE_SOBJCFG_LIMIT 0 5, 10),
    (R.CORE_SOBJCFG_PRIV 0 5, priv), (R.CORE_SOBJ_VALUE 0 5, v)] (sCore k)
def kObj (b : Word) : Core := { kRun with s := [(1, 1023), (2, b)] }
def fObj : IFields := ⟨0, 1, 2, 0, 0, 0⟩
def aSlot (cls : Nat) : SlotRun := ⟨0, cls, 0, false, 0, 0, 0, [], false, false⟩
theorem witness_SignalsAndWatches : (sObj (kObj 1) 9 0).Ready 0 fObj .u false ∧ fObj.hasExt = false ∧ (sObj (kObj 1) 9 0).Names 0 1023 5 ∧
    (sObj (kObj 1) 9 0).fld (R.CORE_SOBJ_VALUE 0 5) + 1 ≤ (sObj (kObj 1) 9 0).fld (R.CORE_SOBJCFG_LIMIT 0 5) ∧
    (sObj (kObj 1) 9 0).dataOk kRun.priv kRun.wins true 0 1 = true ∧ fObj.low3 < 6 ∧ kRun.watches = [] := by decide
theorem witness_SignalsAndWatches_overflow : (sObj (kObj 1) 10 0).Ready 0 fObj .u false ∧ (sObj (kObj 1) 10 0).Names 0 1023 5 ∧
    (sObj (kObj 1) 10 0).flag (R.CORE_SOBJCFG_PRIV 0 5) = false ∧
    (sObj (kObj 1) 10 0).fld (R.CORE_SOBJCFG_LIMIT 0 5) < (sObj (kObj 1) 10 0).fld (R.CORE_SOBJ_VALUE 0 5) + 1 := by decide
theorem witness_SignalsAndWatches_underflow : (sObj (kObj (-1)) 0 0).Ready 0 fObj .u false ∧ (sObj (kObj (-1)) 0 0).Names 0 1023 5 ∧
    ((sObj (kObj (-1)) 0 0).fld (R.CORE_SOBJ_VALUE 0 5) : Int) + ((-1 : Word).setWidth 32).toInt < 0 := by decide
theorem witness_SignalsAndWatches_unwatch : (sObj (kObj 1) 0 0).Ready 0 ⟨0, 1, 0, 0, 0, 0⟩ .u false ∧
    (sObj (kObj 1) 0 0).Names 0 1023 5 := by decide
theorem witness_SignalsAndWatches_illegal : (sCore (kS1 1024)).Ready 0 fA .u false ∧ 1023 < (((sCore (kS1 1024)).core 0).sreg 1).toNat := by
  decide
theorem witness_SignalsAndWatches_unmapped : (sCore (kS1 1023)).Ready 0 fA .u false ∧
    (sCore (kS1 1023)).flag (R.CORE_VMAP_VALID 0 0 1023) = false := by decide
theorem witness_SignalsAndWatches_class : (sObj { kObj 1 with slot := some (aSlot 0) } 0 0).Ready 0 fObj .u false ∧
    (sObj { kObj 1 with slot := some (aSlot 0) } 0 0).flag (R.CORE_SOBJCFG_PRIV 0 5) = false ∧
    (sObj { kObj 1 with slot := some (aSlot 1) } 0 1).Ready 0 fObj .u false ∧
    (sObj { kObj 1 with slot := some (aSlot 1) } 0 1).flag (R.CORE_SOBJCFG_PRIV 0 5) = true := by decide
theorem witness_SignalsAndWatches_priv : (sObj (kObj 1) 10 1).Ready 0 fObj .u false ∧ (sObj (kObj 1) 10 1).Names 0 1023 5 ∧
    (sObj (kObj 1) 10 1).flag (R.CORE_SOBJCFG_PRIV 0 5) = true := by decide

/-- Barrier 1 of context 0 over core 0 alone. -/
def sBar (k : Core) : State := withFlds [(R.BELL_BAR_VALID 1, 1), (R.BELL_BAR_CORES 1, 1)] (sCore k)
theorem witness_Barriers : (sBar (kS1 1)).Ready 0 fA .u false ∧ fA.hasExt = false ∧ (((sBar (kS1 1)).core 0).sreg 1).toNat = 1 ∧
    (sBar (kS1 1)).flag (R.BELL_BAR_VALID 1) = true ∧ (sBar (kS1 1)).fld (R.BELL_BAR_OWNER 1) = 0 ∧
    bit ((sBar (kS1 1)).fld (R.BELL_BAR_CORES 1)) 0 = true ∧ (sBar (kS1 1)).flag (R.BELL_BAR_PRIV 1) = false ∧
    SMap.get (fun _ => 0) (kS1 1).arrived 1 = 0 ∧ (sCore (kS1 1)).flag (R.BELL_BAR_VALID 1) = false := by decide
theorem witness_Barriers_again : (sBar { kS1 1 with arrived := [(1, 1)] }).Ready 0 fA .u false ∧
    (sBar { kS1 1 with arrived := [(1, 2)] }).Ready 0 fA .u false := by decide
theorem witness_Barriers_events :
    (1, 0) ∈ ({ sBar kRun with fab := { State.reset.fab with arrivals := [(1, 0)] } } : State).fab.arrivals ∧
    (sBar kRun).fld (R.BELL_BAR_DEVS 1) = 0 ∧ (∀ i, i < 16 → bit ((sBar kRun).fld (R.BELL_BAR_CORES 1)) i = true → i = 0) ∧
    ({ sBar kRun with fab := { State.reset.fab with completions := [(1, 0, false)] } } : State).fab.completions.find?
      (fun p => p.1 == 1 && p.2.1 == 0) = some (1, 0, false) := by decide
theorem witness_Barriers_release : ({ kRun with stw := .waitBar 1, arrived := [(1, 2)] } : Core).dbgHalt = false := by decide

theorem witness_Messages : (sCore kRun).Ready 0 f0 .u false ∧ (sCore kRun).hasCore 0 = true ∧
    (((sCore kRun).core 0).sreg 0).toNat = (sCore kRun).fld R.NIM_CFG_SELF * 4096 + 0 * 256 + 0 := by decide
theorem witness_Messages_bad : (sCore (kS1 8)).Ready 0 fA .u false ∧ (((sCore (kS1 8)).core 0).sreg 1).toNat / 8 % 32 ≠ 0 := by decide
/-- A message of core 0 on its way to mailbox 0 of core 1. -/
def sMsg : State :=
  { withFlds [(R.CORE_MBOX_VALID 1 0, 1), (R.CORE_MBOX_DEPTHLOG 1 0, 3), (R.CORE_MBOX_OBJ 1 0, 2), (R.CORE_SOBJCFG_LIMIT 1 2, 8),
      (R.CORE_SOBJCFG_EXT 1 2, 1), (R.CORE_SOBJCFG_SRC 1 2, 0x13), (R.CORE_SOBJ_VALUE 1 2, 7)] (sCore { kRun with stw := .msgWait }) with
    fab := { State.reset.fab with msgs := [⟨0, 0, 1, 0, 7⟩] } }
theorem witness_Messages_delivery : sMsg.fab.msgs = ⟨0, 0, 1, 0, 7⟩ :: [] ∧ (sMsg.core 0).stw = .msgWait ∧
    sMsg.flag (R.CORE_MBOX_VALID 1 0) = true ∧ sMsg.fld (R.CORE_MBOX_OWNER 1 0) = 0 ∧ sMsg.fld (R.CORE_MBOX_DEPTHLOG 1 0) = 3 ∧
    sMsg.fld (R.CORE_SOBJ_VALUE 1 2) < 2 ^ 3 ∧ sMsg.fld (R.CORE_SOBJ_VALUE 1 2) < sMsg.fld (R.CORE_SOBJCFG_LIMIT 1 2) ∧
    sMsg.flag (R.CORE_SOBJCFG_EXT 1 2) = true ∧ sMsg.fld (R.CORE_SOBJCFG_SRC 1 2) = 0x13 ∧ sMsg.fld (R.CORE_MBOX_OBJ 1 0) = 2 := by
  decide
theorem witness_Messages_remote : State.reset.hasNim = true ∧ State.reset.hasCore 15 = true ∧
    State.reset.flag (R.CORE_MBOX_RXREMOTE 15 7) = false ∧ State.reset.flag (R.CORE_BELLERR_VALID 15) = false := by decide

def env0 : DispEnv := ⟨.m, 0, 0, 0, 0, []⟩
def kQueue (e : Nat) (l : List Entry) : Core := { kRun with queues := [(e, l)] }
def kFull : Core := kQueue 0 (List.replicate 16 (.fence 1 env0))
theorem witness_QueueInstructions : (sCore kRun).Ready 0 (fImm 31) .u true ∧ (fImm 31).hasExt = false ∧ (fImm 31).imm8 < 32 ∧
    kRun.queues = [] ∧ (sCore kFull).Ready 0 (fImm 1) .u true ∧ (kFull.queue 0).length = 16 := by decide
theorem witness_QueueInstructions_signal : (sObj (kObj 0) 0 0).Ready 0 fObj .u false ∧ (sObj (kObj 0) 0 0).Names 0 1023 5 ∧
    fObj.dst.toNat % 8 = 0 ∧ ((sObj (kObj 0) 0 0).core 0).sreg 2 = 0 ∧ fObj.low3 < 6 := by decide
theorem witness_QueueInstructions_halted : (sCore { kRun with csr := [(0x38, 1)] }).Ready 0 f0 .s true ∧
    (({ kRun with csr := [(0x38, 1)] } : Core).rdCsr 0x38).getLsbD 0 = true ∧ f0.srcA.toNat % 8 = 0 := by decide
theorem witness_QueueInstructions_dispatch : (sCore kRun).Ready 0 f0 EOp.vld.level false ∧ (kRun.queue EOp.vld.eng).length < 16 ∧
    (sCore (kQueue EOp.vld.eng (List.replicate 16 (.fence 1 env0)))).Ready 0 f0 EOp.vld.level false := by decide
theorem witness_QueueInstructions_free : ({ kRun with stw := .queueFull [(0, .fence 1 env0)] } : Core).dbgHalt = false ∧
    (({ kRun with stw := .queueFull [(0, .fence 1 env0)] } : Core).queue 0).length < 16 := by decide
theorem witness_TokensRun_fence : (kQueue 0 [.fence 1 env0]).engineFree 0 = true ∧
    (kQueue 0 [.fence 1 env0]).queue 0 = .fence 1 env0 :: [] ∧
    ∀ i, i < 5 → 1 / 2 ^ i % 2 = 1 → (kQueue 0 [.fence 1 env0]).engineFree i = true ∧ (kQueue 0 [.fence 1 env0]).queue i ≠ [] := by decide
theorem witness_TokensRun_signal : (kQueue 0 [.signal 5 0 env0]).engineFree 0 = true ∧
    (sObj (kQueue 0 [.signal 5 0 env0]) 9 0).fld (R.CORE_BELLGEN_CTXGEN 0) = env0.gen ∧
    (sObj (kQueue 0 [.signal 5 0 env0]) 9 0).fld (R.CORE_SOBJ_VALUE 0 5) <
      (sObj (kQueue 0 [.signal 5 0 env0]) 9 0).fld (R.CORE_SOBJCFG_LIMIT 0 5) ∧
    (withFlds [(R.CORE_BELLGEN_CTXGEN 0, 1)] (sObj (kQueue 0 [.signal 5 0 env0]) 9 0)).fld (R.CORE_BELLGEN_CTXGEN 0) ≠ env0.gen ∧
    (kQueue 0 [.signal 255 64 env0]).engineFree 0 = true := by decide
theorem witness_TokensRun_wait : (kQueue 0 [.wait 5 0 9 env0]).engineFree 0 = true ∧
    (sObj (kQueue 0 [.wait 5 0 9 env0]) 9 0).fld (R.CORE_SOBJ_VALUE 0 5) = 9 ∧
    (sObj (kQueue 0 [.wait 5 0 9 env0]) 8 0).fld (R.CORE_SOBJ_VALUE 0 5) < 9 := by decide
theorem witness_SignalsAndWatches_watch : ¬((∃ w ∈ kRun.watches, w.num = 0) ∨ kRun.pend.watch.map (·.num) = some 0) := by decide
/-- Barrier 1 with a part on device 1, whose generation core 0 has entered. -/
def sBarDev : State := withFlds [(R.BELL_BAR_DEVS 1, 2), (R.BELL_BARSTAT_ARRIVED 1, 1)] (sBar kRun)
theorem witness_Barriers_ended : sBarDev.flag (R.BELL_BAR_VALID 1) = true ∧ (∀ p ∈ sBarDev.fab.completions, p.1 ≠ 1) ∧
    bit (sBarDev.fld (R.BELL_BAR_DEVS 1)) 1 = true ∧ 1 ≠ sBarDev.fld R.NIM_CFG_SELF ∧
    bit (sBarDev.fld (R.BELL_BARSTAT_ARRIVED 1)) 0 = true := by decide
theorem witness_Barriers_stale : (sBar { kS1 1 with arrived := [(1, 3)] }).Ready 0 fA .u false := by decide
theorem witness_Messages_refused : State.reset.hasNim = true ∧ (withFlds [(R.NIM_MEMBER_STATE_PRESENT 1, 1)] State.reset).departed 1 = false ∧ 1 ≠ State.reset.fld R.NIM_CFG_SELF ∧
    State.reset.flag (R.CORE_BELLERR_VALID 0) = false := by decide

/-! ### Witnesses: the engines -/

/-- No fence is locked, no region declared, every DRAM channel up, and nothing poisoned. -/
abbrev Flat (s : State) : Prop := s.fld R.PART_LOCK_LOCK = 0 ∧ (∀ n, n < 16 → s.flag (R.MEMC_RGN_VALID n) = false) ∧
  s.fld R.MEMC_STATUS_CH_UP = 255 ∧ s.ecc = [] ∧ s.poison = [] ∧ s.jobs.progs = []

theorem rgn_flat {s : State} (h : Flat s) (pa : Nat) : s.rgn pa = none := by
  unfold State.rgn
  rw [List.find?_eq_none]
  intro n hn
  simp [h.2.1 n (List.mem_range.1 hn)]

theorem plain_flat {s : State} (h : Flat s) (cls : Nat) (w : Bool) (pa : Nat) (hp : pa < 0xE0000000) : s.Plain cls w pa := by
  have hd : isDram pa = true := by simp only [isDram, decide_eq_true_eq]; omega
  have hc : s.chUp (dramCh pa) = true := by
    have : dramCh pa < 8 := by unfold dramCh; omega
    unfold State.chUp
    rw [h.2.2.1]
    generalize dramCh pa = q at *
    interval_cases q <;> decide
  refine ⟨by simp [State.fenceOk, State.inCode, h.1, h.2.2.2.2.2], by simp [State.keyWait, rgn_flat h], fun _ => ?_,
    by simp [State.errAt, h.2.2.2.1, SMap.get], by simp [State.errAt, h.2.2.2.1, SMap.get],
    fun e => (by rw [hd] at e; cases e), by simp [h.2.2.2.2.1]⟩
  simp [State.dramStat, State.isShadow, State.mirrored, rgn_flat h, hc]

theorem locLocal_low (s : State) (a : Nat) (ha : a < 0xE0000000) : locLocal s a = .mem a := by
  unfold locLocal
  exact if_pos ha

theorem loc_low (s : State) (c : Option Nat) (a : Nat) (ha : a < 0xE0000000) : s.loc c a = .mem a := by
  have h1 : ¬ (0xFF00000000 ≤ a ∧ a < 0xFF00200000) := fun h => by omega
  have h2 : ¬ (0x2000000000 ≤ a ∧ a < 0x4000000000) := fun h => by omega
  have h3 : ¬ (0x4000000000 ≤ a ∧ a < 0x8000000000) := fun h => by omega
  unfold State.loc
  rw [if_neg h1, if_neg h2, if_neg h3]
  exact locLocal_low s a ha

theorem memOk_flat {s : State} (h : Flat s) (c : CoreId) (env : DispEnv) (w : Bool) (a n : Nat)
    (hd : 0 < n → s.dataOk env.priv env.wins w a n = true) (ha : a + n ≤ 0xE0000000) : s.MemOk c env w a n := by
  have hb : ∀ i, i < n → a + i < 0xE0000000 := fun i hi => by omega
  exact ⟨hd, fun i hi => ⟨a + i, loc_low s _ _ (hb i hi), plain_flat h _ _ _ (hb i hi)⟩⟩

/-- Core 0 with `op` at the head of its engine's queue. -/
def kOp (op : EOp) (f : IFields) (a b : Word) (env : DispEnv) (k : Core) : Core :=
  { k with queues := [(op.eng, [.op op f a b 0 env])] }
def sOp (op : EOp) (f : IFields) (a b : Word) : State := sUp (kOp op f a b env0 kRun)
def fDst (n : BitVec 5) : IFields := ⟨n, 0, 0, 0, 0, 0⟩
def envU : DispEnv := ⟨.u, 0, 0, 0, 0, []⟩
def kFmt (n : Nat) : Core := { kRun with vcfg := { kRun.vcfg with fmt := n } }
def sFmt (op : EOp) (f : IFields) (n : Nat) : State := sUp (kOp op f 0 0 env0 (kFmt n))

theorem witness_EngineEntries_operand : (sOp .tdld (fDst 16) 0 0).Runs 0 .tdld (fDst 16) 0 0 0 env0 ∧
    (sOp .cinj (fDst 8) 0 0).Runs 0 .cinj (fDst 8) 0 0 0 env0 ∧ (sOp .madd (fDst 31) 0 0).Runs 0 .madd (fDst 31) 0 0 0 env0 ∧
    (sOp .vcfg f0 (2 ^ 14) 0).Runs 0 .vcfg f0 (2 ^ 14) 0 0 env0 := by decide
theorem witness_EngineEntries_align : (sOp .tdld f0 1 0).Runs 0 .tdld f0 1 0 0 env0 ∧ (sOp .mmv f0 63 0).Runs 0 .mmv f0 63 0 0 env0 ∧
    (sOp .vld f0 1 0).Runs 0 .vld f0 1 0 0 env0 ∧ f0.hasExt = false := by decide
theorem witness_EngineEntries_access : (sUp (kOp .tdld f0 0 0 envU kRun)).Runs 0 .tdld f0 0 0 0 envU ∧
    (sUp (kOp .tdld f0 0 0 envU kRun)).dataOk envU.priv envU.wins false 0 64 = false := by decide
theorem witness_EngineEntries_desc : (sOp .vcfg f0 15 0).Runs 0 .vcfg f0 15 0 0 env0 ∧
    (sOp .ccfg f0 0 (4 * 2 ^ 32)).Runs 0 .ccfg f0 0 (4 * 2 ^ 32) 0 env0 ∧ (sOp .vspot f0 0 0).Runs 0 .vspot f0 0 0 0 env0 ∧
    (sOp .vspot f0 0 1025).Runs 0 .vspot f0 0 1025 0 env0 ∧ (sFmt .vexp f0 8).Runs 0 .vexp f0 0 0 0 env0 ∧
    ((sFmt .vexp f0 8).core 0).vcfg.fmt = 8 := by decide
theorem witness_EngineEntries_formats : (sOp .vrqcfg f0 0 (3 * 2 ^ 48)).Runs 0 .vrqcfg f0 0 (3 * 2 ^ 48) 0 env0 ∧
    (sUp (kOp .tmma f0 0 0 env0 { kRun with t := [(0, 0xF0000000)] })).Runs 0 .tmma f0 0 0 0 env0 ∧
    (Tile.of ((((sUp (kOp .tmma f0 0 0 env0 { kRun with t := [(0, 0xF0000000)] })).started 0 .tmma env0).core 0).tReg 0)).fmtOk = false := by
  decide
theorem witness_VectorIntegerOps : (sFmt .vadd f0 1).Runs 0 .vadd f0 0 0 0 env0 ∧ f0.low3 < 2 ∧
    (((sFmt .vadd f0 1).started 0 .vadd env0).core 0).vcfg.fmt = 1 ∧ (sFmt .vsra (fImm 1) 4).Runs 0 .vsra (fImm 1) 0 0 0 env0 ∧
    (((sFmt .vsra (fImm 1) 4).started 0 .vsra env0).core 0).vcfg.fmt = 4 ∧ (sFmt .vabs f0 2).Runs 0 .vabs f0 0 0 0 env0 ∧
    f0.srcB = 0 := by decide
theorem witness_VectorFloatOps : (sFmt .vadd f0 7).Runs 0 .vadd f0 0 0 0 env0 ∧ (sFmt .vadd f0 8).Runs 0 .vadd f0 0 0 0 env0 ∧
    (sFmt .vfma f0 9).Runs 0 .vfma f0 0 0 0 env0 ∧ (((sFmt .vadd f0 7).started 0 .vadd env0).core 0).vcfg.fmt = 7 ∧
    (sFmt .vexp f0 9).Runs 0 .vexp f0 0 0 0 env0 ∧ ((sFmt .vexp f0 9).core 0).vcfg.fmt = 9 := by decide
theorem witness_VectorOtherOps : (sOp .vcfg f0 14 0).Runs 0 .vcfg f0 14 0 0 env0 ∧ (sOp .vrqcfg f0 0 0).Runs 0 .vrqcfg f0 0 0 0 env0 ∧
    (sFmt .vreq f0 3).Runs 0 .vreq f0 0 0 0 env0 ∧ (((sFmt .vreq f0 3).started 0 .vreq env0).core 0).vcfg.requantOk = true ∧
    (sFmt .vrsum f0 1).Runs 0 .vrsum f0 0 0 0 env0 ∧ (sFmt .vrmax f0 4).Runs 0 .vrmax f0 0 0 0 env0 ∧
    (sFmt .vcmp (fImm 5) 2).Runs 0 .vcmp (fImm 5) 0 0 0 env0 ∧ (sFmt .vcmp f0 9).Runs 0 .vcmp f0 0 0 0 env0 ∧
    (sFmt .vsel f0 0).Runs 0 .vsel f0 0 0 0 env0 ∧ (sOp .vcvt fX 0 0).Runs 0 .vcvt fX 0 0 0 env0 ∧ fX.hasExt = true ∧
    (sOp .vspot f0 0 1024).Runs 0 .vspot f0 0 1024 0 env0 := by decide
/-- VCVT of F32 to BF16. -/
def fCvt : IFields := ⟨0, 0, 0, 0, 8, 0x79⟩
theorem witness_VectorOtherOps_convert : (sOp .vcvt fCvt 0 0).Runs 0 .vcvt fCvt 0 0 0 env0 ∧ fCvt.hasExt = true ∧
    fCvt.ext.toNat < 4096 ∧ fCvt.ext.toNat % 16 < 10 ∧ fCvt.ext.toNat / 16 % 16 < 10 := by decide

/-- A range of DRAM is open to an entry at M of the witness states. -/
theorem open_sOp (op : EOp) (f : IFields) (a b : Word) (w : Bool) (at_ n : Nat) (ha : at_ + n ≤ 0xE0000000)
    (h : Flat ((sOp op f a b).started 0 op env0)) : ((sOp op f a b).started 0 op env0).MemOk 0 env0 w at_ n :=
  memOk_flat h _ _ _ _ _ (fun _ => by simp [State.dataOk, env0]; omega) ha
theorem witness_EngineLoadsAndGathers : ∀ op ∈ [EOp.tdld, .tdst, .vld, .vst, .mld, .mst, .mldx, .cst, .mvcpy, .mvfill],
    (sOp op f0 0 64).Runs 0 op f0 0 64 0 env0 ∧ Flat ((sOp op f0 0 64).started 0 op env0) := by decide
theorem witness_EngineLoadsAndGathers_copy : (sUp { kRun with queues := [(4, [.op .mvcpy f0 0 64 64 env0])] }).Runs 0 .mvcpy f0 0 64 64 env0 ∧
    Flat ((sUp { kRun with queues := [(4, [.op .mvcpy f0 0 64 64 env0])] }).started 0 .mvcpy env0) := by decide
theorem witness_EngineLoadsAndGathers_mem : (∀ i, i < 32 → elemAt 64 (((sOp .mld f0 0 64).started 0 .mld env0).seen 0 0 256) i < 2 ^ 61) ∧
    ((sOp .mld f0 0 64).started 0 .mld env0).MemOk 0 env0 false 0 256 :=
  ⟨by decide, open_sOp _ _ _ _ _ _ _ (by decide) (by decide)⟩
theorem witness_EngineLoadsAndGathers_lanes : ∀ op ∈ [EOp.vlds, .vgath, .vscat], (sOp op f0 0 4).Runs 0 op f0 0 4 0 env0 ∧
    Flat ((sOp op f0 0 4).started 0 op env0) ∧ fmtBits ((sOp op f0 0 4).core 0).vcfg.fmt % 8 = 0 ∧
    fmtIsMx ((sOp op f0 0 4).core 0).vcfg.fmt = false ∧
    (∀ i, i < 64 → (0 + BitVec.ofNat 64 i * 4 : Word).toNat % 4 = 0 ∧ (0 + BitVec.ofNat 64 i * 4 : Word).toNat + 4 ≤ 256) := by decide

/-- A tile of one by one elements of I8, with A at 0, B at 0x40 and D at 0x80. -/
def kTile : Core := { kRun with t := [(0, 0x11300000), (1, 0x00010001), (2, 1), (5, 0x400), (6, 0x40), (7, 0x400), (10, 0x80), (11, 0x400)] }
def sTile : State := sUp (kOp .tmma f0 0 0 env0 kTile)
def tTile : Tile := Tile.of (((sTile.started 0 .tmma env0).core 0).tReg 0)
theorem witness_TensorResults : sTile.Runs 0 .tmma f0 0 0 0 env0 ∧ tTile.descOk = true ∧ tTile.fmtOk = true ∧ tTile.alignOk = true ∧
    tTile.isInt = true ∧ tTile.req = false ∧ tTile.unf = false ∧ tTile.onwrap = false ∧ tTile.pcq = false ∧ tTile.m = 1 ∧
    (sOp .tdsetw (fImm 15) 7 0).Runs 0 .tdsetw (fImm 15) 7 0 0 env0 ∧ (fImm 15).imm8 < 16 := by decide
theorem witness_TensorResults_reach : (∀ r ∈ tTile.planeA.ranges ++ tTile.reads, (sTile.started 0 .tmma env0).MemOk 0 env0 false r.1 r.2) ∧
    ∀ r ∈ tTile.planeD.ranges, (sTile.started 0 .tmma env0).MemOk 0 env0 true r.1 r.2 := by
  have h : ∀ r ∈ (tTile.planeA.ranges ++ tTile.reads) ++ tTile.planeD.ranges, r.1 + r.2 ≤ 0x100 := by decide
  have hf : Flat (sTile.started 0 .tmma env0) := by decide
  refine ⟨fun r hr => ?_, fun r hr => ?_⟩
  · have := h r (List.mem_append_left _ hr)
    exact memOk_flat hf _ _ _ _ _ (fun _ => by simp [State.dataOk, env0]; omega) (by omega)
  · have := h r (List.mem_append_right _ hr)
    exact memOk_flat hf _ _ _ _ _ (fun _ => by simp [State.dataOk, env0]; omega) (by omega)

theorem witness_ResidueResults : (∀ op ∈ [EOp.madd, .msub, .mmul, .mmac, .mred, .mrnd], (sOp op f0 0 0).Runs 0 op f0 0 0 0 env0) ∧
    ((({ sOp .mrnd f0 0 0 with keep := { State.reset.keep with rng := true } } : State).started 0 .mrnd env0).keep.rng = true) ∧
    f0.srcA = 0 ∧ f0.srcB = 0 ∧ f0.low3 % 2 = 0 ∧ (fImm 1).low3 % 2 = 1 := by decide
/-- A residue descriptor at 0x100 over one row of one element: X at 0, V0 at 0x40, Y0 at 0x80. -/
def sRes (op : EOp) (fmt : Byte) : State := { sOp op f0 0x100 0 with
  mem := [(0x103, fmt), (0x104, 1), (0x108, 1), (0x115, 4), (0x118, 0x40), (0x128, 0x80)] }
def eRes (op : EOp) (fmt : Byte) : ResDesc := ResDesc.of (((sRes op fmt).started 0 op env0).seen 0 0x100 64)
theorem witness_ResidueResults_mmv : (sRes .mmv 0x10).Runs 0 .mmv f0 0x100 0 0 env0 ∧ Flat ((sRes .mmv 0x10).started 0 .mmv env0) ∧
    (eRes .mmv 0x10).descOk false = true ∧ (eRes .mmv 0x10).fmtOk false = true ∧ (eRes .mmv 0x10).alignOk = true ∧
    (eRes .mmv 0x10).unf = false ∧ (eRes .mmv 0x10).two = false ∧ (eRes .mmv 0x10).trans = false ∧ (eRes .mmv 0x10).bound = false ∧
    (eRes .mmv 0x10).fmt ≤ 4 ∧ (∀ r ∈ (eRes .mmv 0x10).plane.ranges, r.1 + r.2 ≤ 0x100) := by decide
theorem witness_ResidueResults_mmvf : (sRes .mmvf 0x90).Runs 0 .mmvf f0 0x100 0 0 env0 ∧ Flat ((sRes .mmvf 0x90).started 0 .mmvf env0) ∧
    (eRes .mmvf 0x90).descOk true = true ∧ (eRes .mmvf 0x90).fmtOk true = true ∧ (eRes .mmvf 0x90).alignOk = true ∧
    (eRes .mmvf 0x90).unf = false ∧ (eRes .mmvf 0x90).bound = false := by decide
theorem witness_CompareResults : (sOp .ccfg f0 0x7F800000 0).Runs 0 .ccfg f0 0x7F800000 0 0 env0 ∧
    (sOp .cinj (fDst 7) 1 0).Runs 0 .cinj (fDst 7) 1 0 0 env0 ∧ (sOp .cmpt fX 0 64).Runs 0 .cmpt fX 0 64 0 env0 ∧ fX.hasExt = true ∧
    fX.low3 = 0 ∧ ((sOp .cmpt fX 0 64).core 0).ccfg.mode = 0 ∧ ((sOp .cmpt fX 0 64).core 0).ccfg.fmt < 15 ∧
    (((sOp .cmpt fX 0 64).started 0 .cmpt env0).core 0).cReg 0 = CmpReg.empty ∧ Flat ((sOp .cmpt fX 0 64).started 0 .cmpt env0) ∧
    (sOp .cmpm fX 0 64).Runs 0 .cmpm fX 0 64 0 env0 ∧ Flat ((sOp .cmpm fX 0 64).started 0 .cmpm env0) := by decide
/-- A descriptor at 0x100 that moves one byte from 0 to 0x80. -/
def sMove : State := { sOp .mvrun f0 0x100 0 with mem := [(0x108, 0x80), (0x110, 1), (0x114, 1)] }
def dMove : MoveDesc := MoveDesc.of ((sMove.started 0 .mvrun env0).seen 0 0x100 64)
theorem witness_MoverRuns : sMove.Runs 0 .mvrun f0 0x100 0 0 env0 ∧ Flat (sMove.started 0 .mvrun env0) ∧ dMove.ok = true ∧
    dMove.gather = false ∧ dMove.scatter = false ∧ dMove.fill = false ∧ dMove.cvu = false ∧ dMove.next = 0 ∧ dMove.rows = 1 ∧
    dMove.rowLen = 1 ∧ dMove.src = 0 ∧ dMove.dst = 0x80 := by decide

/-! ### Witnesses: the fabric and the programs -/

/-- A state with waiting accesses and markers of core 0. -/
def sFab (k : Core) (o : List Outst) (m : List Marker) : State :=
  { sUp k with fab := { State.reset.fab with outst := o, markers := m } }
theorem witness_FabricEvents_tag : ((sCore { kRun with stw := .tagStall ⟨0x100, [1]⟩ 4 }).core 0).stw = .tagStall ⟨0x100, [1]⟩ 4 ∧
    (sCore { kRun with stw := .tagStall ⟨0x100, [1]⟩ 4 }).ownTags 0 5 < 16 := by decide
def oWait (n : Nat) : Outst := ⟨n, 0, 5, true, 0x100, [1], 0, 0, .m, 0, 0, 0, false⟩
/-- Core 0 stalled for a tag, with its 16 reserved tags and 96 of the pool in use. -/
def sNoTag : State := sFab { kRun with stw := .tagStall ⟨0x100, [1]⟩ 4 }
  ((List.range 112).map (fun n => { oWait n with pool := decide (16 ≤ n) })) []
theorem witness_FabricEvents_noTag : (sNoTag.core 0).stw = .tagStall ⟨0x100, [1]⟩ 4 ∧
    ¬ (sNoTag.ownTags 0 5 < 16 ∨ sNoTag.poolUsed 0 < 96) := by decide
def oLoad (kind : Nat) : Outst := ⟨7, 0, 5, false, 0x100, [], 0, 0, .m, 3, kind, 1, false⟩
def sLoad : State := sFab { kRun with stw := .memWait 7 4 } [oLoad 0] []
theorem witness_FabricEvents_reply : sLoad.fab.outst.find? (fun o => o.tag == 7 && !o.write) = some (oLoad 0) ∧
    (sLoad.core (oLoad 0).core).stw = .memWait 7 4 := by decide
theorem witness_FabricEvents_notice : sLoad.fab.outst = [oLoad 0] ∧ (oLoad 0).write = false ∧
    sLoad.partOf (sLoad.loc (some (oLoad 0).core) (oLoad 0).addr) = some (.dram 0) := by decide
def mObj : Marker := ⟨9, 0, 0, 0, 5, 1, 0, 1, 0⟩
theorem witness_FabricEvents_marker : (sFab kRun [] [mObj]).fab.markers.find? (fun m => m.core == 0 && m.id == 9) = some mObj ∧
    mObj.obj < 256 ∧ (sFab kRun [] [mObj]).fld (R.CORE_EPOCH_EPOCH 0) = mObj.epoch := by decide
/-- A read outside the device that engine 0 of core 0 waits for. -/
def sAway : State := sFab { kRun with away := [(0, some ⟨3, []⟩)] } [{ oLoad 3 with unit := 0 }] []
theorem witness_FabricEvents_engine : sAway.fab.outst.find? (fun o => o.tag == 7 && !o.write) = some { oLoad 3 with unit := 0 } ∧
    SMap.get (fun _ => none) (sAway.core 0).away 0 = some ⟨3, []⟩ := by decide
theorem witness_FabricEvents_notice_write : ∀ o, (sFab kRun [{ oWait 3 with epoch := 7 }] []).fab.outst = [o] →
    (sFab kRun [{ oWait 3 with epoch := 7 }] []).partOf ((sFab kRun [] []).loc (some o.core) o.addr) = some (.dram 0) ∧
    o.epoch ≠ (sFab kRun [] []).epochOf (.dram 0) := by
  intro o h
  have : o = { oWait 3 with epoch := 7 } := (List.cons.inj h).1.symm
  subst this
  decide
theorem witness_FabricEvents_marker_behind : ∃ o ∈ (sFab kRun [oWait 3] [⟨9, 0, 5, 0, 5, 1, 0, 1, 0⟩]).fab.outst,
    o.write = true ∧ o.core = 0 ∧ o.unit = 5 ∧ o.path = 0 ∧ o.tag < 9 := by decide
def sStuck : State := withFlds [(R.CORE_BELLCFG_DL_WINDOW 0, 100)] (sCore { kRun with stw := .waitBar 1 })
theorem witness_FabricEvents_stuck : sStuck.coreStuck 0 = true ∧ sStuck.fld (R.CORE_BELLCFG_DL_WINDOW 0) ≠ 0 := by decide
theorem witness_FabricEvents_lent : ((sCore { kRun with queues := [(3, [.wait 1 0 1 env0])] }).core 0).queue 3 = [.wait 1 0 1 env0] := by
  decide
theorem witness_FabricEvents_credit : bit ({ kOp .tdld f0 0 64 env0 kRun with withheld := 1 } : Core).withheld 0 = true ∧
    (({ kOp .tdld f0 0 64 env0 kRun with withheld := 1 } : Core).queue 0).head? = some (.op .tdld f0 0 64 0 env0) ∧ env0.cls = 0 := by
  decide

/-- Route 0: class C0, camera tap 0, client 1, a deadline of 1 s, program 3, and a Hearth network or 0xFF. -/
def eRoute (hearth : Byte) : List Byte :=
  [0, 0, hearth, 0, 0, 1, 4, 0, 0x40, 0x42, 0xF, 0, 0, 0, 0, 0, 0, 0, 0, 0, 0, 0, 0, 0, 3, 0, 0, 0, 0, 0, 0, 0]
def jRun : Job :=
  { route := 0, frame := 8, job := 1, client := 1, cls := 0, bundle := 0, tensors := [], states := [], pulls := [], reissued := []
    doorbell := true, lost := false, inputsAt := some 0, inputsTb := 0, refused := false, delay := 0, ran := false, rerun := false, exitCode := none
    overrun := false, pairNone := false, engErr := false, failed := none, credits := [], single := false
    core := 0, result := [] }
def pRun (flags : Nat) : Prog :=
  { idx := 3, cls := 0, flags := flags, entry := 0, codeSize := 0x1000, dataSize := 0x1000, engines := 1, secver := 1, digest := []
    code := 0x10000, data := 0x20000, single := false }
/-- A serving device with core 0 serving: program 3 loaded, route 0 with frame 8 open and its job accepted, slot 0 of core 0 for
the program, and the core's last golden run good. -/
def sProg (k : Core) (flags : Nat) (j : Job) : State :=
  let s := withFlds [(R.DEVICE_STATE_STATE, stSERVING), (fCoreState 0, csSERVING), (R.CORE_SLOT_VALID 0 0, 1), (R.CORE_SLOTCFG_COUNT 0, 1),
    (R.CORE_SLOT_PROG 0 0, 3), (R.CORE_SLOT_LENGTH 0 0, 100), (R.CORE_GOLDSTAT_OK 0, 1), (R.CORE_GOLDCFG_REQUIRED 0, 1)] (sUp k)
  { s with jobs := { s.jobs with settings := [(0x10, eRoute 0xFF)], progs := [pRun flags], jobs := [j]
                                 routes := [(0, ⟨[⟨8, 0, 0, 0, none, false⟩], 0, 0, 0, 0, 0, 0, [], [], none, false, none⟩)] } }
def sStart : State := sProg { kRun with priv := .s } 0 jRun
theorem witness_SlotStarts : sStart.serving = true ∧ sStart.fld (fCoreState 0) = csSERVING ∧ (sStart.core 0).slot = none ∧
    (sStart.core 0).dbgHalt = false ∧ (sStart.core 0).priv = .s ∧ (sStart.core 0).stw = .run ∧
    sStart.slotBegin 0 0 ≤ sStart.tb2 ∧ sStart.tb2 < sStart.slotEnd 0 0 ∧ sStart.flag (R.CORE_SLOT_VALID 0 0) = true ∧ sStart.fld (R.CORE_SLOTCFG_COUNT 0) ≠ 0 ∧
    sStart.flag (R.CORE_SLOT_PASS2 0 0) = false ∧ sStart.reRunJob 0 0 = none ∧ sStart.stages = [] ∧
    sStart.fld (R.CORE_SLOT_PROG 0 0) = 3 ∧ sStart.prog 3 = some (pRun 0) ∧ sStart.readyJob 3 (sStart.slotBegin 0 0) = some jRun ∧
    sStart.slotFits 0 0 jRun = true ∧ (sStart.openFrame jRun.route jRun.frame).isSome = true ∧ sStart.Calm 0 := by decide
theorem witness_SlotStarts_paired : (sProg Core.reset 8 jRun).paired (pRun 8) = true ∧ sStart.paired (pRun 0) = false := by decide

/-- Core 0 in service `n` of the S runtime for a program run of route 0, frame 8. -/
def kSvc (n : Word) (pass2 single : Bool) (s : SMap Word) : Core :=
  { kRun with priv := .s, s := s, csr := [(0x08, 1), (0x09, 0x0B), (0x0B, n)]
              slot := some ⟨0, 0, 3, pass2, 0, 8, 0, [], single, false⟩ }
def sSvc (n : Word) (pass2 : Bool) (s : SMap Word) : State := sProg (kSvc n pass2 false s) 0 { jRun with ran := true }
theorem witness_ProgramServices : ∀ n : Fin 20, (sSvc (BitVec.ofNat 64 n) false []).inService 0 n = true ∧
    (sSvc (BitVec.ofNat 64 n) false []).Calm 0 := by decide
theorem witness_ProgramServices_passes : ∀ p : Bool, (sSvc 0x11 p []).Serves 0 0x11 ⟨0, 0, 3, p, 0, 8, 0, [], false, false⟩ := by decide
theorem witness_ProgramServices_out : (sSvc 0x12 false [(1, 0x100), (2, 2 ^ 24)]).Serves 0 0x12 ⟨0, 0, 3, false, 0, 8, 0, [], false, false⟩ ∧
    (((sSvc 0x12 false [(1, 0x100), (2, 2 ^ 24)]).core 0).sreg 2).toNat = 2 ^ 24 := by decide
def sHearth : State :=
  let s := withFlds [(R.HEARTH_STATUS_READY, 4), (R.HEARTH_NET_FRAME 2, 8)] (sSvc 0x13 false [])
  { s with jobs := { s.jobs with settings := [(0x10, eRoute 2)] } }
theorem witness_ProgramServices_hearth : sHearth.Serves 0 0x13 ⟨0, 0, 3, false, 0, 8, 0, [], false, false⟩ ∧
    sHearth.route 0 = some (routeOf (eRoute 2)) ∧ (routeOf (eRoute 2)).hearth = 2 ∧ sHearth.hearthReady 2 8 = true := by decide
theorem witness_ProgramServices_frame : (sSvc 0x14 false [(2, 8)]).Serves 0 0x14 ⟨0, 0, 3, false, 0, 8, 0, [], false, false⟩ ∧
    ((sSvc 0x14 false [(2, 8)]).core 0).sreg 1 = BitVec.ofNat 64 0 ∧ ((sSvc 0x14 false [(2, 8)]).core 0).sreg 2 = BitVec.ofNat 64 8 ∧
    (({ sSvc 0x14 false [(2, 8)] with taps := [(0, { TapSt.idle with bufs := [(1, 8)] })] } : State).tap 0).bufs.find?
      (fun x => x.2 == 8) = some (1, 8) := by decide
/-- A layer table at 0x20000 with one vector and one EXACT layer of one row, and a result record at 0x1000000100 of one element
compared and equal. -/
def sDone (mismatch : Byte) : State :=
  { sSvc 0x10 false [(2, 0x100), (3, 1)] with
    mem := [(0x20004, 1), (0x20006, 8), (0x20008, 1), (0x20018, 1), (0x1000000100, 1), (0x1000000104, mismatch)] }
theorem witness_ProgramServices_done : (sDone 0).Serves 0 0x10 ⟨0, 0, 3, false, 0, 8, 0, [], false, false⟩ ∧ (sDone 0).prog 3 = some (pRun 0) ∧
    ((sDone 0).job 0 8).isSome = true ∧ ((sDone 0).openFrame 0 8).isSome = true ∧
    (((sDone 0).layerTable (pRun 0)).layers[0]?).map (fun l => (l.mode, l.m)) = some (0, 1) ∧
    leNat ((sDone 0).bytes 0x1000000100 4) = 1 ∧ leNat ((sDone 0).bytes 0x1000000104 4) = 0 ∧
    leNat ((sDone 1).bytes 0x1000000104 4) ≠ 0 ∧ ((sDone 0).layerTable (pRun 0)).vecs = 1 ∧
    ((sDone 0).layerTable (pRun 0)).current 0 = true := by decide

def sExit (flags : Nat) (pass2 single : Bool) (q : SMap (List Entry)) : State :=
  withFlds [(R.CORE_GOLDSTAT_FRAME 0, 0)] (sProg { kSvc 0 pass2 single [(1, 5)] with queues := q } flags { jRun with ran := true })
theorem witness_ProgramExit : ∀ x ∈ [sExit 0 false false [], sExit 8 false true [], sExit 8 false false [], sExit 8 true false []],
    x.inService 0 0 = true ∧ (x.core 0).slot.isSome = true ∧ (x.prog 3).isSome = true ∧ (x.job 0 8).isSome = true ∧
    x.goldenOk 0 (x.fld (R.TAP_T_STAT_FRAME (x.fld R.TAP_LTCFG_REF))) = true ∧
    ∀ e : Fin 5, (x.core 0).queue e = [] ∧ (x.core 0).halted e = false := by decide
theorem witness_ProgramExit_paired : (sExit 8 false false []).paired (pRun 8) = true ∧ (sExit 0 false false []).paired (pRun 0) = false := by
  decide
theorem witness_ProgramExit_waits : (sExit 0 false false [(0, [.fence 1 env0])]).inService 0 0 = true ∧ bit (pRun 0).engines 0 = true ∧
    ((sExit 0 false false [(0, [.fence 1 env0])]).core 0).queue 0 ≠ [] ∧
    ((sExit 0 false false [(0, [.fence 1 env0])]).core 0).halted 0 = false := by decide
def sPair (outs : List (Nat × Nat)) : State :=
  { sExit 8 true false [] with jobs := { (sExit 8 true false []).jobs with passes := [⟨0, 3, 0, 8, outs, 0, false⟩] } }
theorem witness_ProgramExit_pair : ∀ o ∈ [[], [(0, 4)]], (sPair o).jobs.passes.find? (fun x => x.core == 0 && x.prog == 3 && !x.final) =
    some ⟨0, 3, 0, 8, o, 0, false⟩ ∧ (sPair o).outsEqual 0 o [] = (o == []) := by decide

theorem witness_OverrunsAndGoldenRuns : ((sExit 0 false false []).core 0).slot.isSome = true ∧
    ((sProg { kSvc 0 false false [] with priv := .u } 0 jRun).inService 0 0 = false) ∧
    (sProg { kSvc 0 false false [] with priv := .u } 0 jRun).prog 3 = some (pRun 0) ∧
    ((sProg { kSvc 0 false false [] with priv := .u } 0 jRun).job 0 8).isSome = true ∧ (sExit 0 false false []).inService 0 0 = true := by
  decide
/-- Network 2 has one stage, whose final pass of frame 8 has ended, and the tap's frame 8 is DISTINCT. -/
def sStage : State :=
  { sProg Core.reset 0 jRun with
    jobs := { (sProg Core.reset 0 jRun).jobs with
      decl := ⟨[(0, [1]), (0, [1]), (0, [3])], [], [], []⟩
      passes := [⟨0, 3, 72, 8, [(0x100, 4)], 0, true⟩] }
    taps := [(0, { TapSt.idle with outcomes := [(8, 2)] })] }
theorem witness_OverrunsAndGoldenRuns_stage : sStage.jobs.passes.find? (fun x => x.route == 64 + 4 * 2 + 0 && x.final) =
    some ⟨0, 3, 72, 8, [(0x100, 4)], 0, true⟩ ∧ sStage.hearthCfg[2]? = some (0, [3]) ∧ sStage.loc (some 0) 0x100 = .mem 0x100 ∧
    sStage.outcome 0 8 = some 2 ∧ (∀ q : Fin 16, (sStage.core q).slot = none) := by decide
theorem witness_OverrunsAndGoldenRuns_golden : (sProg Core.reset 0 jRun).serving = true ∧
    (sProg Core.reset 0 jRun).fld (fCoreState 0) = csSERVING ∧ (sProg Core.reset 0 jRun).flag (R.CORE_GOLDCFG_REQUIRED 0) = true ∧
    State.reset.serving = false := by decide

/-- Core 0 with a program of route 0 in slot 0, at a level and with control and status registers. -/
def sOver (p : Priv) (csr : SMap Word) (exited : Bool) : State :=
  sProg { kRun with priv := p, csr := csr, slot := some ⟨0, 0, 3, false, 0, 8, 0, [], false, exited⟩ } 8 { jRun with ran := true }
theorem witness_OverrunsAndGoldenRuns_left : ((sOver .u [(0x30, 5)] false).core 0).rdCsr 0x30 ≠ 0 ∧
    ((sOver .u [] true).core 0).rdCsr 0x30 = 0 ∧ ((sOver .u [] true).core 0).inOverrun = false := by decide
theorem witness_OverrunsAndGoldenRuns_taken : ((sOver .s [(0x08, 1), (0x09, 0x80000022)] false).core 0).inOverrun = true ∧
    (sOver .s [(0x08, 1), (0x09, 0x80000022)] false).prog 3 = some (pRun 8) ∧
    (sOver .s [(0x08, 1), (0x09, 0x80000022)] false).paired (pRun 8) = true ∧
    ((sOver .s [(0x08, 1), (0x09, 0x80000022)] false).job 0 8).isSome = true := by decide
theorem witness_OverrunsAndGoldenRuns_now : ((sOver .u [] false).core 0).mayInterrupt = true ∧
    ((sOver .u [] false).core 0).inExc .s = false ∧ (sOver .u [] false).Calm 0 := by decide
theorem witness_OverrunsAndGoldenRuns_later : ((sOver .s [(0x08, 1)] false).core 0).inExc .s = true ∧
    (sOver .s [(0x08, 1)] false).Calm 0 ∧ ((sOver .s [(0x08, 1)] false).core 0).inOverrun = false := by decide
/-- NIM_CONFIG has device 1 run stage 0 of network 2. -/
def sFar : State :=
  let s := withFlds [(R.NIM_MEMBER_STATE_PRESENT 1, 1)] sStage
  { s with jobs := { s.jobs with settings := [(0x51, List.replicate 584 0xFF ++ [1, 0xFF])] } }
theorem witness_OverrunsAndGoldenRuns_away : sFar.stageDev 2 0 = some 1 ∧ sFar.hearthCfg[2]? = some (0, [3]) ∧ sFar.hasNim = true ∧
    sFar.departed 1 = false ∧ sFar.loc none 0x100 = .mem 0x100 ∧ sStage.stageDev 2 0 = none := by decide
theorem witness_ProgramServices_fixed : ∀ x : OpenFrame, x.epoch = 1 →
    (({ RouteSt.empty with epochs := [⟨1, 0, 1, 1, 0, true, []⟩] } : RouteSt).epochOf x) = some ⟨1, 0, 1, 1, 0, true, []⟩ := by
  intro x h
  simp [RouteSt.epochOf, h]

/-! ### Witnesses: faults, watchmen, boot and restarts -/

/-- The device in a state, with fields set over it. -/
def sAt (st : Nat) (l : List (Fld × Nat)) : State := withFlds ((R.DEVICE_STATE_STATE, st) :: l) State.reset
/-- Core 0 in a state of CORESTATE and core 1 in another, in a serving device. -/
def sCs (a b : Nat) : State := sAt stSERVING [(fCoreState 0, a), (fCoreState 1, b)]
theorem witness_CoreFaultsAndCommands : (sCs csSERVING csSPARE).Canonical ∧ (sCs csSERVING csSPARE).serving = true ∧
    (sCs csSERVING csSPARE).Spare 0 1 ∧ (sCs csSERVING 0).Canonical ∧ (sCs csSERVING 0).flag R.SAFETY_TRIP_TRIPPED = false ∧
    (∀ d : Fin 16, d.val ≠ 0 → (sCs csSERVING 0).fld (fCoreState d) ≠ csSPARE) := by
  refine ⟨by decide, by decide, ⟨by decide, Or.inl ⟨by decide, fun d hd => ?_⟩⟩, by decide, by decide, by decide⟩
  have hd : d < 1 := hd
  interval_cases d
  decide
theorem witness_CoreFaultsAndCommands_other : (sCs csQUIET 0).fld (fCoreState 0) = csQUIET ∧ (sCs csQUIET 0).serving = true ∧
    (sCs csQUIET 0).Canonical ∧ (sCs csRESTARTING 0).fld (fCoreState 0) = csRESTARTING ∧ (sCs csRESTARTING 0).st ≠ stTRIPPED ∧
    (sCs csRESTARTING 0).Canonical ∧ (sCs csSPARE 0).fld (fCoreState 0) = csSPARE ∧ (sCs csSPARE 0).hasCore 0 = true := by decide
/-- Core 0 restarts while spare 1 serves for it. -/
def sMoved : State :=
  { withFlds [(R.DEVICE_STATE_STATE, stDEGRADED)] (sCs csRESTARTING csSERVING) with dev := { State.reset.dev with lost := 1, moved := [(0, 1)] } }
theorem witness_CoreFaultsAndCommands_retest : sMoved.fld (fCoreState 0) = csRESTARTING ∧ sMoved.st = stDEGRADED ∧ sMoved.dev.lost = 1 ∧
    sMoved.dev.moved = [((0 : Fin 16).val, 1)] := by decide

/-- A watchman of core 0 with the window 10 to 100 and WARN 5, its count at `e`, and a word in s1. -/
def sDog (e : Nat) (w : Word) : State :=
  withFlds [(R.DEVICE_STATE_STATE, stSERVING), (fCoreState 0, csSERVING), (R.CORE_WMCFG_EN 0, 1), (R.CORE_WMCFG_WMIN 0, 10),
    (R.CORE_WMCFG_WMAX 0, 100), (R.CORE_WMCFG_WARN 0, 5), (R.CORE_WMSTAT_TOKEN 0, 0xACE1), (R.CORE_WMSTAT_ELAPSED 0, e)] (sCore (kS1 w))
theorem witness_CoreWatchmen : (sDog 10 0xACE1531E).Ready 0 fA .s true ∧ fA.hasExt = false ∧ (sDog 10 0).flag (R.CORE_WMCFG_EN 0) = true ∧
    (sDog 10 0).st ≠ stTRIPPED ∧ (sDog 10 0).hasCore 0 = true ∧ (sDog 10 0).fld (fCoreState 0) ≠ csFAILED ∧
    (((sDog 10 0xACE1531E).core 0).sreg 1).toNat % 2 ^ 32 = 0xACE1 * 2 ^ 16 + (0xFFFF - 0xACE1) ∧
    SMap.get (fun _ => []) (sDog 10 0).ladder.expiries 0 = [] := by decide
theorem witness_CoreWatchmen_early : (sDog 9 0xACE1531E).Ready 0 fA .s true ∧
    ¬ (sDog 9 0xACE1531E).fld (R.CORE_WMCFG_WMIN 0) ≤ (sDog 9 0xACE1531E).fld (R.CORE_WMSTAT_ELAPSED 0) ∧
    (sCore kRun).Ready 0 fA .s true ∧ (sCore kRun).flag (R.CORE_WMCFG_EN 0) = false := by decide
theorem witness_CoreWatchmen_expiry : (sDog 100 0).fld (R.CORE_WMSTAT_ELAPSED 0) = (sDog 100 0).fld (R.CORE_WMCFG_WMAX 0) ∧
    (sDog 95 0).fld (R.CORE_WMCFG_WMAX 0) ≤ (sDog 95 0).fld (R.CORE_WMSTAT_ELAPSED 0) + (sDog 95 0).fld (R.CORE_WMCFG_WARN 0) := by decide
theorem witness_CoreWatchmen_config : (sCore kRun).st ≠ stTRIPPED ∧ (sCore kRun).hasCore 0 = true ∧
    1 ≤ (5 : Nat) ∧ 10 + 5 < 100 := by decide

/-- The device watchman, open to PF0. -/
def sDevDog (e : Nat) : State :=
  { withFlds [(R.DEVICE_STATE_STATE, stSERVING), (R.WATCH_CFG_EN, 1), (R.WATCH_CFG_WMIN, 10), (R.WATCH_CFG_WMAX, 100), (R.WATCH_CFG_WARN, 5),
      (R.WATCH_STAT_TOKEN, 0xACE1), (R.WATCH_STAT_ELAPSED, e), (R.WATCH_LADDER_N, 3), (R.PCIEA_F_QCFG_EN 0, 1), (R.PCIE_P_PORTSTAT_UP 0, 1)]
      State.reset with reeve := { State.reset.reeve with running := true } }
theorem witness_DeviceWatchmanAndTests : (sDevDog 10).st ≠ stTRIPPED ∧ (sDevDog 10).flag R.WATCH_CFG_EN = true ∧
    (sDevDog 10).ladder.wdStopped = false ∧ (sDevDog 10).ladder.demand = none ∧
    (sDevDog 10).ladderCount < (sDevDog 10).fld R.WATCH_LADDER_N ∧ (sDevDog 10).fld R.WATCH_CFG_WMIN ≤ (sDevDog 10).fld R.WATCH_STAT_ELAPSED ∧
    (sDevDog 100).fld R.WATCH_STAT_ELAPSED = (sDevDog 100).fld R.WATCH_CFG_WMAX ∧ (sDevDog 95).cqRoom 0 = true ∧
    ((sDevDog 95).fn 0).waiting = [] ∧ (sDevDog 10).fnReach 0 R.WATCH_SVC = true ∧ (sDevDog 10).fnReach 0 R.WATCH_CFG = true ∧
    (sDevDog 10).dev.off = false ∧ (sDevDog 10).serving = true := by decide
theorem witness_DeviceWatchmanAndTests_open : (sAt stSERVING [(R.PCIE_P_PORTSTAT_UP 0, 1)]).flag R.WATCH_CFG_EN = false := by decide
theorem witness_DeviceWatchmanAndTests_slices : (sCs csSERVING 0).fld (fCoreState 0) = csSERVING ∧
    SMap.get (fun _ => 0) (sCs csSERVING 0).ladder.slices 0 < 9 ∧ SMap.get (fun _ => 0) (sCs csSERVING 0).ladder.slices 16 < 60 ∧
    (sCs csSERVING 0).dev.off = false ∧ (sCs csSERVING 0).dev.pinLow = false ∧ (sCs csSERVING 0).dev.warmHeld = false ∧
    (sCs csSERVING 0).st ≠ stBOOT ∧ bit ((sCs csSERVING 0).reg R.SAFETY_CHKFAIL).toNat 0 = false := by decide
def sSingle (t : Nat) : State := { sAt stSERVING [(R.SAFETY_CFG_CHK_SINGLE_MAX, 60)] with
  ladder := { State.reset.ladder with single := some 5 }, sun := { State.reset.sun with tb := [(2, t)] } }
theorem witness_DeviceWatchmanAndTests_single : (sSingle 60000000005).ladder.single = some 5 ∧
    5 + 1000000000 * (sSingle 60000000005).fld R.SAFETY_CFG_CHK_SINGLE_MAX ≤ (sSingle 60000000005).tb2 ∧
    (sSingle 6).tb2 < 5 + 1000000000 * (sSingle 6).fld R.SAFETY_CFG_CHK_SINGLE_MAX := by decide

/-- A device in BOOT with the Reeve link up. -/
def sBoot (l : List (Fld × Nat)) : State := { withFlds l State.reset with reeve := { State.reset.reeve with running := true, linkUp := true } }
theorem witness_BootEvents : (sBoot []).Canonical ∧ (sBoot []).st = stBOOT ∧ (sBoot []).dev.off = false ∧ (sBoot []).dev.pinLow = false ∧
    (sBoot []).reeve.linkUp = true ∧ (sBoot []).fld R.KEEP_STATUS_LCS ≠ 4 ∧ (sBoot []).flag R.DEVICE_BOOTSTAT_MAILBOX = false ∧
    (sBoot []).fld (R.NVM_CTR_VALUE 0) = 0 ∧ (sBoot [(R.NVM_CTR_VALUE 0, 5)]).Canonical ∧
    (4 : Nat) < (sBoot [(R.NVM_CTR_VALUE 0, 5)]).fld (R.NVM_CTR_VALUE 0) ∧ (sBoot [(fCoreState 15, csTEST)]).fld (fCoreState 15) = csTEST := by
  decide
theorem witness_BootEvents_rails : ({ State.reset with dev := { State.reset.dev with off := true } } : State).Canonical ∧
    ({ State.reset with dev := { State.reset.dev with off := true } } : State).reeve.tripB = false := by decide
theorem witness_BootEvents_recover : ({ sAt stHOLD [] with dev := { State.reset.dev with mailbox := true } } : State).Canonical ∧
    (sAt stHOLD []).st = stHOLD := by decide

/-- An image in a flash slot or the mailbox that verifies boots the device, and one that does not leaves it to wait: what images there
are, the opaque signature check says. -/
theorem witness_BootEvents_image (l : List Byte) (h : (sBoot []).imageVerifies l = true) :
    (sBoot []).st = stBOOT ∧ (sBoot []).dev.mailImage = none ∧ ∃ key signed sig secver digest entry,
      Config.fwHeader l = some (key, signed, sig, secver, digest, entry) ∧ Config.sha384 key = Config.fwKey ∧
      Config.ecdsaOk key signed sig = true ∧ Config.sha384 (Config.fwBody l) = digest ∧
      (sBoot []).fld (R.NVM_CTR_VALUE 0) ≤ secver := by
  refine ⟨by decide, by decide, ?_⟩
  unfold State.imageVerifies State.imageOk at h
  split at h
  · simp at h
  · next key signed sig secver digest entry he =>
    simp only [Bool.and_eq_true, decide_eq_true_eq, beq_iff_eq] at h
    exact ⟨key, signed, sig, secver, digest, entry, he, h.1.1.1, h.1.1.2, h.1.2, h.2⟩
theorem witness_BootEvents_mailbox : ({ sBoot [] with dev := { State.reset.dev with mailImage := some [1] } } : State).dev.mailImage =
    some [1] := rfl
theorem witness_BootEvents_pin : ({ State.reset with dev := { State.reset.dev with pinLow := true } } : State).dev.off = false ∧
    ({ State.reset with dev := { State.reset.dev with pinLow := true } } : State).Canonical := by decide

/-- The device in a state with the lifecycle state `l`, and a self-test in which nothing failed. -/
def stOk : SelfTest := ⟨0, 0, 0xFF, false, []⟩
def sSelf (l : Nat) : State := sAt stSELFTEST [(R.KEEP_STATUS_LCS, l), (fCoreState 0, csTEST)]
theorem witness_ValidationAndService : (sSelf 1).TestsOk stOk ∧ (sSelf 1).Canonical ∧ (sSelf 1).st = stSELFTEST ∧
    (sSelf 1).fld R.KEEP_STATUS_LCS = 1 ∧ (sSelf 3).fld R.KEEP_STATUS_LCS = 3 ∧ (sSelf 0).Canonical ∧ (sSelf 3).Canonical ∧
    (sSelf 0).fld R.KEEP_STATUS_LCS = 0 ∧ (((sSelf 1).selfTest stOk).restoreCounts.validateBanks).2 = none := by decide
def sDemand (st : Nat) (restarts : List Nat) : State :=
  { sAt st [(R.WATCH_LADDER_N, 1), (R.WATCH_LADDER_PERIOD, 10)] with
    ladder := { State.reset.ladder with demand := if st = stSERVING then some 0x10 else none, restarts := restarts }
    dev := { State.reset.dev with warmHeld := true, imageKept := true, stopReq := [(.stop, 7)] }
    reeve := { State.reset.reeve with linkUp := true } }
theorem witness_ValidationAndService_warm : (sDemand stSERVING []).Canonical ∧ (sDemand stSERVING []).ladder.demand = some 0x10 ∧
    (sDemand stSERVING []).serving = true ∧ (sDemand stRESTART []).st = stRESTART ∧ (sDemand stRESTART []).Canonical ∧
    (sDemand stRESTART []).ladder.demand = none ∧ (sDemand stRESTART []).ladderCount < (sDemand stRESTART []).fld R.WATCH_LADDER_N ∧
    (sDemand stRESTART [0]).fld R.WATCH_LADDER_N ≤ (sDemand stRESTART [0]).ladderCount ∧
    (sDemand stRESTART [0]).flag R.SAFETY_TRIP_TRIPPED = false ∧ (sDemand stRESTART [0]).Canonical := by decide
def sRsOk : State :=
  { withFlds [(R.KEEP_STATUS_KEYSLOTS, 1)] (sDemand stRESTART []) with nvm := { State.reset.nvm with force := some (false, false, []) }, jobs := { State.reset.jobs with settings := [(0x34, Config.sha384 (sDemand stRESTART []).param.set)] } }
theorem witness_ValidationAndService_rsOk : sRsOk.st = stRESTART ∧ sRsOk.dev.warmHeld = true ∧ sRsOk.reeve.linkUp = true ∧
    sRsOk.dev.imageKept = true ∧ stOk.fatal = false ∧ sRsOk.setting 0x34 = some (Config.sha384 sRsOk.param.set) :=
  ⟨by decide, rfl, rfl, rfl, rfl, rfl⟩
theorem witness_ValidationAndService_rsOk_more : sRsOk.Canonical ∧ sRsOk.fld R.KEEP_STATUS_KEYSLOTS ≠ 0 ∧ sRsOk.bankHolds = true ∧
    (sRsOk.resumeChannels stOk).st ≠ stTRIPPED := by decide
theorem witness_ValidationAndService_stop : (sDemand stSERVING []).dev.stopReq = [(.stop, 7)] ∧ (sDemand stSERVING []).boundaryCame = true ∧
    (sDemand stSERVING []).dev.off = false ∧ (sDemand stSERVING []).dev.pinLow = false ∧ (sDemand stSERVING []).serving = true ∧
    ({ sDemand stSERVING [] with dev := { State.reset.dev with stopReq := [(.warm, 7)] } } : State).serving = true ∧
    ({ sAt stREADY [] with dev := { State.reset.dev with stopReq := [(.service, 7)] } } : State).st = stREADY ∧
    (sAt stSERVICE [(R.KEEP_STATUS_SCRUBBING, 1)]).st = stSERVICE ∧
    (sAt stSERVICE [(R.KEEP_STATUS_SCRUBBING, 1)]).flag R.KEEP_STATUS_SCRUBBING = true := by decide

/-! ### Witnesses: trips, resets and links -/

theorem witness_TripSources : (sAt stSERVING []).flag R.SAFETY_TRIP_TRIPPED = false ∧ (sAt stSERVING []).st ≠ stTRIPPED ∧
    (sAt stSERVING []).dev.off = false ∧ (sAt stSERVING []).dev.pinLow = false ∧
    (sAt stTRIPPED [(R.SAFETY_TRIP_TRIPPED, 1)]).flag R.SAFETY_TRIP_TRIPPED = true := by decide
def sGrace (t : Nat) : State :=
  { sAt stRESTART [(R.DEVICE_STATE_GRACE, 1)] with
    reeve := { State.reset.reeve with running := true, graceUntil := 200000005 }, sun := { State.reset.sun with tb := [(2, t)] } }
theorem witness_TripSources_grace : (sGrace 200000005).flag R.DEVICE_STATE_GRACE = true ∧
    (sGrace 200000005).flag R.SAFETY_TRIP_TRIPPED = false ∧ (sGrace 200000005).st ≠ stTRIPPED ∧
    (sGrace 200000005).reeve.graceUntil ≤ (sGrace 200000005).tb2 ∧ (sGrace 6).tb2 < (sGrace 6).reeve.graceUntil := by
  decide
theorem witness_TripSources_silent : (sGrace 0).reeve.running = true ∧
    ¬ ((sGrace 0).reeve.lastState = stSERVING ∨ (sGrace 0).reeve.lastState = stDEGRADED) ∧ (sGrace 0).dev.announced = false := by decide
theorem witness_TripSources_pinLow : ({ State.reset with dev := { State.reset.dev with pinLow := true } } : State).dev.pinLow = true := by
  decide
/-- A device whose Reeve runs, with one reading of rail 2 outside already. -/
def sRailed : State := { sAt stSERVING [] with reeve := { State.reset.reeve with running := true, railOut := 4 } }
theorem witness_TripSources_rails : sRailed.reeve.running = true ∧ sRailed.dev.off = false ∧ sRailed.dev.pgoodLow = false ∧
    bit sRailed.reeve.railOut 2 = true ∧ bit sRailed.reeve.railOut 1 = false ∧ sRailed.monitorsOff = false ∧
    ({ sRailed with dev := { sRailed.dev with pgoodLow := true } } : State).dev.pgoodLow = true := by decide
theorem witness_TripSources_lost : ({ sRailed with reeve := { sRailed.reeve with lastState := stSERVING } } : State).dev.announced = false ∧
    ({ sRailed with dev := { sRailed.dev with announced := true } } : State).dev.announced = true := by decide
theorem witness_ResetsAndLinks : (sAt stSERVING []).Canonical ∧ (sAt stSERVING []).serving = true ∧ (sAt stREADY []).Canonical ∧
    (sAt stREADY []).st = stREADY ∧ (sAt stREADY []).dev.off = false ∧ (sAt stREADY []).dev.pinLow = false ∧
    (sAt stREADY []).flag R.SAFETY_TRIP_TRIPPED = false ∧ (sAt stSERVING [(R.DEVICE_STATE_INVALID, 0)]).flag R.DEVICE_STATE_INVALID = false := by
  decide
def sRails (pin : Bool) : State :=
  { withFlds [(R.PCIE_P_PORTSTAT_UP 0, 1), (R.DEVICE_STATE_INVALID, 1)] State.reset with
    dev := { State.reset.dev with pinLow := pin }, reeve := { State.reset.reeve with running := true } }
theorem witness_ResetsAndLinks_rails : (sRails true).dev.off = false ∧ (sRails true).reeve.running = true ∧ (sRails true).dev.pinLow = true ∧
    (sRails true).Canonical ∧ (sRails false).reeve.linkUp = false ∧ (sRails false).dev.pinLow = false ∧ (sRails false).st = stBOOT ∧
    (sRails false).flag R.SAFETY_TRIP_TRIPPED = false ∧ (sRails false).portUp 0 = true ∧
    (sRails false).flag R.DEVICE_STATE_INVALID = true := by decide
theorem witness_ResetsAndLinks_monitors : (sRails false).monitorsOff = false ∧ (sRails true).flag R.DEVICE_STATE_GRACE = false ∧
    (sAt stSERVING []).monitorsOff = false ∧ (sDemand stSERVING []).dev.off = false ∧ (sDemand stSERVING []).dev.pinLow = false := by decide

/-! ### Witnesses: memory, power, ports, safe I/O, taps -/

theorem witness_MemoryAndPower : (sUp kRun).chUp (dramCh (64 * (0 : BitVec 27).toNat)) = true ∧
    SMap.get (fun _ => 0) (sUp kRun).ecc 0 = 0 ∧ SMap.get (fun _ => 0) ({ sUp kRun with ecc := [(0, 1)] } : State).ecc 0 = 1 ∧
    (sUp kRun).st ≠ stTRIPPED ∧ (sUp kRun).flag R.SAFETY_TRIP_TRIPPED = false ∧ bit (sUp kRun).dev.lost lostMIRROR = false ∧
    bit ({ sUp kRun with dev := { State.reset.dev with lost := 2 ^ lostMIRROR } } : State).dev.lost lostMIRROR = true ∧
    State.reset.chUp 7 = false ∧ bit (State.reset.fld R.MEMC_STATUS_CH_FAILED) 7 = false ∧
    (sAt stSERVING [(R.MEMC_STATUS_REBUILDING, 1)]).flag R.MEMC_STATUS_REBUILDING = true ∧
    (sAt stSERVING [(R.MEMC_STATUS_REBUILDING, 1)]).fld R.MEMC_STATUS_CH_FAILED = 0 := by decide
theorem witness_MemoryAndPower_domains : (sCs csQUIET 0).domPresent 0 = true ∧ (sCs csQUIET 0).domGateable 0 = true ∧
    State.reset.fld R.PWR_CFG_PKG_LIMIT < State.reset.fld R.PWR_STATUS_PKG + 35001 ∧
    (List.replicate 6 ((0, 0) : BitVec 16 × BitVec 16)).length = 6 := by decide
/-- A mirrored region over the first MiB, with an uncorrectable error in block 0. -/
def sTwin : State := { withFlds [(R.MEMC_RGN_VALID 0, 1), (R.MEMC_RGN_SIZE 0, 1), (R.MEMC_RGN_MIRROR 0, 1)] (sUp kRun) with ecc := [(0, 2)] }
theorem witness_MemoryAndPower_twin : sTwin.errAt 0 = 2 ∧ sTwin.twinBlock 0 = some 0x4000000 ∧ sTwin.errAt 0x4000000 ≤ 1 ∧
    sTwin.flag R.KEEP_STATUS_SCRUBBING = false ∧ ({ sUp kRun with ecc := [(0, 2)] } : State).twinBlock 0 = none := by decide
theorem witness_MemoryAndPower_gate : SMap.get (fun _ => 0) (sCs csQUIET 0).power.retryAt 0 ≤ (sCs csQUIET 0).tb2 ∧
    (sCs csQUIET 0).domQuiet 0 = true ∧ (sCs csSERVING 0).domGateable 0 = false := by decide
def sPorts (l : List (Fld × Nat)) : State := sAt stSERVING l
theorem witness_PortsAndQueues : (sPorts [(R.PCIE_P_PORTSTAT_UP 0, 1)]).st ≠ stTRIPPED ∧ (sPorts [(R.PCIE_P_PORTSTAT_UP 0, 1)]).portUp 0 = true ∧
    (sPorts [(R.PCIE_P_PORTSTAT_UP 0, 1)]).mayHand 0 = false ∧ (sPorts []).portUp 0 = false ∧ (sPorts []).hasPortB = true ∧
    (sPorts [(R.PCIE_P_PORTSTAT_UP 1, 1)]).portUp 0 = false ∧ (sPorts [(R.PCIE_P_PORTSTAT_UP 1, 1)]).portUp 1 = true ∧
    (sPorts [(R.PCIE_P_PORTSTAT_UP 0, 1), (R.PCIE_P_PORTSTAT_UP 1, 1), (R.PCIE_P_HANDOVER_EN 1, 1)]).portUp 1 = true ∧
    (sPorts [(R.PCIE_P_PORTSTAT_UP 0, 1), (R.PCIE_P_PORTSTAT_UP 1, 1), (R.PCIE_P_HANDOVER_EN 1, 1)]).mayHand 1 = true := by decide
def sMod : State :=
  { sPorts [(R.PCIEA_F_FSTATUS_VERSION 0, 0x12), (R.PCIEA_F_QCFG_MODCNT 0, 3)] with fns := [(0, { Fn.reset with unsig := [(0, 2)] })] }
theorem witness_PortsAndQueues_moderation : sMod.st ≠ stTRIPPED ∧ sMod.moderated 0 0 = true ∧
    SMap.get (fun _ => 0) (sMod.fn 0).unsig 0 ≠ 0 := by decide
def sCq : State := { sPorts [(R.PCIEA_F_QCFG_CQLOG 0, 6)] with fns := [(0, { Fn.reset with cqIdx := 2, cq := [⟨1, 0, 0, 0, true, 0⟩, ⟨2, 0, 0, 0, true, 0⟩] })] }
theorem witness_PortsAndQueues_heads : (sCq.fn 0).waiting = [] ∧ (sCq.fn 0).cqIdx < sCq.cqSize 0 ∧ (0 : Nat) < 1 ∧
    1 ≤ (sCq.fn 0).cq.length ∧ (sCq.fn 0).cq.length ≤ sCq.cqSize 0 ∧
    (1 : BitVec 32).toNat % sCq.cqSize 0 = ((sCq.fn 0).cqIdx + sCq.cqSize 0 - (sCq.fn 0).cq.length + 1) % sCq.cqSize 0 ∧
    (0 : Nat) ≤ (sCq.fn 0).vr.length ∧ (sCq.fn 0).vrHead < 2 ^ 32 ∧ (0 : BitVec 32).toNat = ((sCq.fn 0).vrHead + 0) % 2 ^ 32 := by decide

/-- A serving device whose channels both wait for a record. -/
def sScan (l : List (Fld × Nat)) : State :=
  { sAt stSERVING l with reeve := { State.reset.reeve with running := true, linkUp := true, lastState := stSERVING }
                         sio := { Sio.start with due := 3, missed := false } }
/-- A whole record in agreement with a device at reset, but for the digest, which it copies. -/
def recBody (s : State) : List Byte :=
  List.replicate 16 0 ++ leBytes 4 (leNat (s.pdigest.take 4)) ++
    leBytes 4 ((s.sio.chainB.upTo 0).value) ++ List.replicate 4 0 ++ leBytes 4 0xFFFFFFFD ++ List.replicate 92 0
def recOf (s : State) : List Byte := recBody s ++ leBytes 4 (crc32 (recBody s))
theorem witness_SafeIoScans_whole (s : State) : (recOf s).length = 128 ∧ leNat ((recOf s).drop 0x7C) = crc32 ((recOf s).take 0x7C) := by
  have hl : (recBody s).length = 0x7C := by simp [recBody]
  refine ⟨by simp [recOf, hl], ?_⟩
  rw [recOf, ← hl, List.drop_left, List.take_left, leNat_crc32]
theorem witness_SafeIoScans : (sScan []).reeve.linkUp = true ∧ (sScan []).reeve.running = true ∧ (sScan []).st ≠ stTRIPPED ∧
    (sScan []).flag R.SAFETY_TRIP_TRIPPED = false ∧ (sScan []).flag R.DEVICE_STATE_GRACE = false ∧ bit (sScan []).sio.due 0 = true ∧
    bit (sScan []).sio.due 1 = true ∧ (sScan []).fld R.SAFETY_SCANSTAT_SCAN = 0 ∧ (sScan []).reeve.missA = 0 ∧
    (sScan []).reeve.missB = 0 ∧ (sScan []).dev.announced = false := by decide
theorem witness_SafeIoScans_agrees (b : Bool) : (sScan []).firstDiff b (recOf (sScan [])) = none ∧ leNat ((recOf (sScan [])).take 4) = 0 := by
  have hd : leNat (leBytes 4 (leNat ((sScan []).pdigest.take 4))) = leNat ((sScan []).pdigest.take 4) := by
    rw [leNat_leBytes]
    refine Nat.mod_eq_of_lt ((leNat_lt _).trans_le ?_)
    exact Nat.pow_le_pow_right (by decide) (by simp)
  refine ⟨?_, rfl⟩
  have h0 : ∀ f ∈ (sScan []).ownFields b, leAt (recOf (sScan [])) f.1 f.2.1 = f.2.2 := by
    intro f hf
    cases b <;> simp only [State.ownFields, List.mem_cons, List.not_mem_nil, or_false] at hf <;>
      rcases hf with rfl | rfl | rfl | rfl | rfl | rfl | rfl <;> first | exact hd | decide
  have hn : ((sScan []).ownFields b).find? (fun f => leAt (recOf (sScan [])) f.1 f.2.1 != f.2.2) = none := by
    rw [List.find?_eq_none]
    intro f hf
    simp [h0 f hf]
  unfold State.firstDiff
  rw [hn]
  cases b <;> decide
theorem witness_SafeIoScans_differs : (sScan [(R.SAFEIO_STATUS_PAIR_ON, 1)]).firstDiff false (recOf (sScan [])) = some 0x0C := by decide
theorem witness_SafeIoScans_missing : ({ sScan [] with reeve := { (sScan []).reeve with missA := 1, missB := 1 } } : State).reeve.missB = 1 ∧
    ¬ (([] : List Byte).length = 128 ∧ leNat (([] : List Byte).drop 0x7C) = crc32 (([] : List Byte).take 0x7C)) := by decide
theorem witness_SafeIoScans_strobe : bit (sScan []).sio.fresh 0 = false ∧
    bit ({ sScan [] with sio := { (sScan []).sio with bad := 1 } } : State).sio.bad 0 = true ∧
    (sScan []).flag (R.SAFEIO_CHSTAT_FAULT 0) = false ∧ (0x10000 : BitVec 24).getLsbD (16 + 0) ≠ (sScan []).flag (R.SAFEIO_CHSTAT_HS_ON 0) := by
  decide
/-- The set of delivery with pair 0 enabled and both its contacts pulse-tested. -/
def sPulse (p : Option Nat) (used due : Nat) : State :=
  { sAt stSERVING [(R.SAFEIO_STATUS_PARAM_OK, 1)] with
    param := { State.reset.param with set := deliverySet.set 0x10 13 }
    sio := { Sio.start with pulse := p, used := used, due := due, missed := false } }
theorem witness_SafeIoScans_pulse : (sPulse none 0 0).paramOk = true ∧ bit ((sPulse none 0 0).pairCtl 0) 0 = true ∧
    bit ((sPulse none 0 0).pairCtl 0) (2 + (0 : Fin 16).val % 2) = true ∧ (sPulse none 0 0).pset 0x0E 2 ≠ 0 ∧
    (sPulse none 0 0).fld R.SAFETY_SCANSTAT_SCAN % (sPulse none 0 0).pset 0x0E 2 = 0 ∧ (sPulse none 0 0).st ≠ stTRIPPED ∧
    (sPulse (some 0) 1 0).sio.missed = false ∧ bit (sPulse (some 0) 1 0).sio.due 0 = false ∧ bit (sPulse (some 0) 1 0).sio.used 0 = true ∧
    bit (sPulse (some 0) 0 0).sio.used 0 = false ∧ (sPulse none 0 0).sio.pulse = none := by decide
theorem witness_SafeIoScans_output : bit ({ Sio.start with test := 1 } : Sio).test 0 = true ∧
    (sAt stSERVING [(R.SAFEIO_CHSTAT_CMD 0, 1)]).flag (R.SAFEIO_CHSTAT_CMD 0) = true ∧
    (sAt stSERVING [(R.SAFEIO_CHSTAT_CMD 0, 1)]).flag (R.SAFEIO_CHSTAT_FAULT 0) = false := by decide

/-- Camera tap 0 enabled, 33 ms a frame, in a state with a phase, and what it keeps. -/
def sTap (st : Nat) (t : TapSt) (tb2 : Nat) : State :=
  { sAt stSERVING [(R.TAP_T_CFG_EN 0, 1), (R.TAP_T_NOMPERIOD_NS 0, 33000000), (R.TAP_T_TIMING_PTOL 0, 100), (R.TAP_T_TIMING_GUARD 0, 30000),
      (R.TAP_T_GEOM_ACTIVE 0, 1), (R.TAP_RING_STRIDE 0, 1), (R.TAP_T_CFG_DT 0, 0x2B), (R.TAP_T_STAT_TSTATE 0, st), (R.MEMC_STATUS_CH_UP, 0xFF)]
    with sun := { State.reset.sun with tb := [(2, tb2)] }, taps := [(0, t)] }
theorem witness_Taps : (sTap 0 TapSt.idle 0).tapOn 0 = true ∧ State.reset.tapOn 0 = false ∧ (sTap 0 TapSt.idle 0).fld (R.TAP_T_STAT_TSTATE 0) = 0 ∧
    (sTap 1 TapSt.idle 30000000).fld (R.TAP_T_STAT_TSTATE 0) ≠ 0 ∧
    1000 * (sTap 1 TapSt.idle 30000000).fld (R.TAP_T_TIMING_GUARD 0) ≤ (sTap 1 TapSt.idle 30000000).phase 0 ∧
    (sTap 1 TapSt.idle 29999999).phase 0 < 1000 * (sTap 1 TapSt.idle 29999999).fld (R.TAP_T_TIMING_GUARD 0) := by decide
theorem witness_Taps_due : (sTap 1 TapSt.idle 36300000).fld (R.TAP_T_STAT_TSTATE 0) = 1 ∧
    (sTap 1 TapSt.idle 36300000).fld (R.TAP_T_MEASPER_P 0) = 0 ∧
    33000000 + 33000000 * 100 / 1000 ≤ (sTap 1 TapSt.idle 36300000).phase 0 ∧ 33000000 ≤ (sTap 2 TapSt.idle 33000000).phase 0 ∧
    ({ TapSt.idle with droppedAt := 5 }).droppedAt + 36300000 ≤ (sTap 3 TapSt.idle 36300005).tb2 := by decide
theorem witness_Taps_end : (sTap 1 TapSt.idle 0).fld (R.TAP_T_STAT_TSTATE 0) ≠ 0 ∧ TapSt.idle.synth = false ∧ TapSt.idle.ended = false ∧
    (sTap 1 TapSt.idle 0).fld (R.TAP_T_STAT_RXLINE 0) ≠ (sTap 1 TapSt.idle 0).fld (R.TAP_T_GEOM_ACTIVE 0) ∧
    (withFlds [(R.TAP_T_STAT_RXLINE 0, 1)] (sTap 1 TapSt.idle 0)).fld (R.TAP_T_STAT_RXLINE 0) =
      (withFlds [(R.TAP_T_STAT_RXLINE 0, 1)] (sTap 1 TapSt.idle 0)).fld (R.TAP_T_GEOM_ACTIVE 0) ∧
    (sTap 1 TapSt.idle 0).flag (R.TAP_T_CFG_MARKER 0) = false ∧ TapSt.idle.incomplete = false := by decide
/-- A line packet of tap 0. -/
def pLine (bad : Bool) : TapPkt := ⟨0, 0x2B, false, bad, List.replicate 64 1⟩
theorem witness_Taps_packet : ∀ b : Bool, (pLine b).dt.toNat = (sTap 1 TapSt.idle 0).fld (R.TAP_T_CFG_DT 0) ∧
    (pLine b).vc.val = (sTap 1 TapSt.idle 0).fld (R.TAP_T_CFG_VC 0) ∧ (pLine b).bad = b ∧ (pLine b).corrected = false ∧
    ({ TapSt.idle with stored := true }).stored = true ∧
    (sTap 1 TapSt.idle 0).fld (R.TAP_T_STAT_RXLINE 0) < (sTap 1 TapSt.idle 0).fld (R.TAP_T_GEOM_ACTIVE 0) := by decide
theorem witness_Taps_store : Flat (sTap 1 TapSt.idle 0) ∧ (sTap 1 TapSt.idle 0).ringBuf 0 0 < 0xE0000000 := by decide
/-- Window 0 of display tap 0 with one line, which has arrived. -/
def sWin : State :=
  { sAt stSERVING [(R.TAP_WIN_VALID 0 0, 1), (R.TAP_WIN_NLINES 0 0, 1)] with taps := [(8, { TapSt.idle with wlines := [(0, 1)] })] }
theorem witness_Taps_window : sWin.flag (R.TAP_WIN_VALID 0 0) = true ∧ bit (sWin.tap 8).wfail 0 = false ∧
    sWin.fld (R.TAP_WIN_NLINES 0 0) ≠ 0 ∧ SMap.get (fun _ => 0) (sWin.tap 8).wlines 0 = sWin.fld (R.TAP_WIN_NLINES 0 0) ∧
    bit (sWin.fld (R.TAP_WSTAT_DONE 0)) 0 = false ∧ (sAt stSERVING []).flag (R.TAP_WIN_VALID 0 0) = false ∧
    ¬ SMap.get (fun _ => 0) (({ sWin with taps := [] } : State).tap 8).wlines 0 = sWin.fld (R.TAP_WIN_NLINES 0 0) := by decide
theorem witness_Taps_chimes : (sAt stSERVING [(R.TAP_TDMCFG_EN, 1)]).flag R.TAP_TDMCFG_EN = true ∧
    ¬ (sAt stSERVING []).flag R.TAP_TDMCFG_EN = true ∧
    ({ State.reset with chimes := [⟨1, 0, 5, none, 0⟩] } : State).chimes = [⟨1, 0, 5, none, 0⟩] := by decide

/-! ### Witnesses: verdicts and inputs -/

/-- Route 0 with frame 8 open from TB2 0, its job (or none), the outcome of tap 0 for the frame, and TB2. -/
def sVer (j : Option Job) (out : Option Nat) (prov : Option (Nat × Nat)) (tb2 : Nat) : State :=
  let s := sProg Core.reset 0 jRun
  { s with
    jobs := { s.jobs with jobs := j.toList, routes := [(0, { RouteSt.empty with frames := [⟨8, 0, 0, 0, prov, false⟩] })] }
    taps := [(0, { TapSt.idle with outcomes := out.toList.map (fun o => (8, o)) })]
    sun := { State.reset.sun with tb := [(2, tb2)] } }
def rcRun : RouteCfg := routeOf (eRoute 0xFF)
theorem witness_Verdicts : (sVer (some jRun) (some 2) none 0).route 0 = some rcRun ∧ (sVer (some jRun) (some 2) none 0).serving = true ∧
    (sVer (some jRun) (some 2) none 0).dupStandby 0 = false ∧ (sVer (some jRun) (some 2) none 0).dupPrimary 0 = false ∧
    ((sVer (some jRun) (some 2) none 0).routeSt 0).frames = [⟨8, 0, 0, 0, none, false⟩] ∧ rcRun.display = false ∧ rcRun.source < 8 ∧
    rcRun.hearth = 255 ∧ rcRun.cls = 0 ∧ (sVer (some jRun) (some 2) none 0).job 0 8 = some jRun ∧ jRun.ended = false ∧
    jRun.refused = false ∧ ((sVer (some jRun) (some 2) none 0).routeSt 0).badTable 8 = false ∧
    ({ RouteSt.empty with tableBad := some 8 } : RouteSt).badTable 8 = true ∧ (sVer none (some 3) none 0).job 0 8 = none ∧
    (sVer (some jRun) (some 2) none 0).outcome 0 8 = some 2 ∧ (sVer none (some 3) none 0).outcome 0 8 = some 3 ∧
    (sVer none none none 0).outcome 0 8 = none ∧ (sVer none (some 3) none 0).route 1 = none := by decide
theorem witness_Verdicts_late : ¬ (sVer (some jRun) (some 2) none 1000000000).tb2 + 0 < 0 + 1000 * rcRun.deadline ∧
    (sVer (some jRun) (some 2) none 0).tb2 + 0 < 0 + 1000 * rcRun.deadline ∧
    (sVer none none (some (5, 1)) 1800005).tb2 ≥ 5 + 1800000 ∧ (sVer none none (some (5, 1)) 6).tb2 < 5 + 1800000 ∧
    ((sVer none none (some (5, 1)) 6).routeSt 0).frames = [⟨8, 0, 0, 0, some (5, 1), false⟩] := by decide
/-- Frame 8 with a job that has ended with an exit code, and a layer table with one layer. -/
def jEnd (code : Nat) : Job := { jRun with ran := true, exitCode := some code }
def sEnd (code : Nat) : State :=
  { sVer (some (jEnd code)) (some 2) none 0 with mem := [(0x20000, 0x54), (0x20001, 0x52), (0x20002, 0x59), (0x20003, 0x4C), (0x20004, 1), (0x20006, 8), (0x20008, 1), (0x2000A, 1)] }
theorem witness_Verdicts_pass : (sEnd 0).job 0 8 = some (jEnd 0) ∧ (jEnd 0).exitCode = some 0 ∧ (jEnd 0).failed = none ∧
    (jEnd 0).lost = false ∧ (jEnd 0).overrun = false ∧ (jEnd 0).pairNone = false ∧ (jEnd 0).engErr = false ∧
    (jEnd 0xFE).exitCode = some 0xFE ∧ (jEnd 5).exitCode = some 5 := by decide
theorem witness_Verdicts_covered : let cov := (sEnd 0).coverageOf rcRun 0 ⟨8, 0, 0, 0, none, false⟩ (some (jEnd 0))
    rcRun.minLin ≤ cov.exact + cov.bounded ∧ rcRun.minSpot ≤ cov.spot ∧ cov.age ≤ rcRun.maxAge ∧ bit cov.flags 1 = false := by decide

def jPull (re : List Nat) : Job := { jRun with inputsAt := none, tensors := [⟨0x1000, 64, 0, false, false⟩], pulls := [0], reissued := re }
theorem witness_InputsAndRestartWindows : (sVer (some (jPull [])) none none 0).route 0 = some rcRun ∧
    (sVer (some (jPull [])) none none 0).job 0 8 = some (jPull []) ∧ 0 ∈ (jPull []).pulls ∧ 1 ∉ (jPull []).pulls ∧
    (jPull []).pulls.filter (· ≠ 0) = [] ∧ (jPull []).inputsAt = none ∧ (jPull []).lost = false ∧ (jPull []).tensors ≠ [] ∧
    (∀ x ∈ (jPull []).tensors, x.push = true → (jPull []).doorbell = true) ∧ 0 ∉ (jPull []).reissued ∧ 0 ∈ (jPull [0]).reissued := by decide
/-- Route 0 with an inbox of 1 KiB, both ports up, and a buffer locked for a frame. -/
def sInbox (l : SMap Nat) : State :=
  let s := withFlds [(R.PCIE_P_PORTSTAT_UP 0, 1), (R.PCIE_P_PORTSTAT_UP 1, 1)] (sVer (some { jPull [] with pulls := [] }) none none 0)
  { s with jobs := { s.jobs with settings := [(0x10, (eRoute 0xFF).set 0x16 1)], inboxLock := l } }
theorem witness_InputsAndRestartWindows_inbox : (sInbox []).inboxUp = true ∧
    (sInbox []).route 0 = some { rcRun with inboxKib := 1 } ∧ (0 : BitVec 32).toNat % 0x2000000 + 1024 ≤ 1024 * 1 ∧
    (sInbox []).inboxLocked 0 0 = 0 ∧ (sInbox [(0, 9)]).inboxLocked 0 0 ≠ 0 ∧ (sVer none none none 0).inboxUp = false := by decide
theorem witness_InputsAndRestartWindows_doorbell : (8 : BitVec 32).toNat % 2 = (0 : Fin 2).val ∧
    (sInbox []).deadlinePassed 0 { rcRun with inboxKib := 1 } 8 = false ∧ (7 : BitVec 32).toNat % 2 ≠ (0 : Fin 2).val ∧
    ((sInbox []).job 0 8).map (·.pulls) = some [] := by decide
theorem witness_InputsAndRestartWindows_noSlot : ∀ n : Fin 16,
    ((withFlds [(R.CORE_SLOT_VALID 0 0, 0)] (sInbox [])).slotOf n 3).isSome = false := by decide
def sRst (r : Nat) (failed : List Nat) (tb2 : Nat) : State :=
  let s := sAt stSERVING [(R.HEARTH_STATUS_RSTATE, r), (R.HEARTH_RESTARTCFG_WINDOW, 3000), (R.HEARTH_RESTARTCFG_PERIOD, 10)]
  { s with jobs := { s.jobs with restart := ⟨0, 0, failed⟩ }, sun := { State.reset.sun with tb := [(2, tb2)] } }
theorem witness_InputsAndRestartWindows_windows : (sRst 1 [] 100000000).fld R.HEARTH_STATUS_RSTATE = 1 ∧
    (sRst 1 [] 100000000).jobs.restart.posted + 100000000 ≤ (sRst 1 [] 100000000).tb2 ∧
    (sRst 2 [1, 2] 3000000000).fld R.HEARTH_STATUS_RSTATE = 2 ∧
    (sRst 2 [1, 2] 3000000000).jobs.restart.opened + 1000000 * (sRst 2 [1, 2] 3000000000).fld R.HEARTH_RESTARTCFG_WINDOW ≤
      (sRst 2 [1, 2] 3000000000).tb2 ∧ (sRst 2 [1, 2] 3000000000).flag R.SAFETY_TRIP_TRIPPED = false ∧
    (sRst 2 [1, 2] 3000000000).jobs.restart.failedAt = 1 :: 2 :: [] ∧
    (sRst 2 [1, 2] 3000000000).tb2 ≤ 1 + 1000000000 * (sRst 2 [1, 2] 3000000000).fld R.HEARTH_RESTARTCFG_PERIOD ∧
    (sRst 2 [] 3000000000).jobs.restart.failedAt = [] ∧ ¬ (sRst 2 [] 6).tb2 ≥ 1000000 * 3000 := by decide
/-- Inputs that lie in a channel whose contents are lost: where a job's inputs lie, an opaque constant says. -/
theorem witness_InputsAndRestartWindows_lost (h : (withFlds [(R.MEMC_STATUS_CONTENT_LOST, 1)] State.reset).inputsIn { jPull [] with cls := 1 } 0 = true) :
    (withFlds [(R.MEMC_STATUS_CONTENT_LOST, 1)] State.reset).inputsLost { jPull [] with cls := 1 } = true ∧
    State.reset.inputsLost (jPull []) = false := by
  refine ⟨?_, by decide⟩
  unfold State.inputsLost
  refine Bool.and_eq_true_iff.2 ⟨by decide, List.any_eq_true.2 ⟨0, by decide, ?_⟩⟩
  rw [h]
  decide

/-! ### Witnesses: vehicle networks and the Sundial -/

/-- A serving device with route 0 sent on ETH0 and ETH1, whose links are as given, at TB2 `t`. -/
def sNet (route : Bool) (l : List (Fld × Nat)) (t : Nat) : State :=
  let s := sAt stSERVING ([(R.ETH_M_CFG_EN 0, 1), (R.ETH_M_CFG_EN 1, 1), (R.CAN_C_CFG_EN 0, 1)] ++ l)
  { s with jobs := { s.jobs with settings := if route then [(0x10, (eRoute 0xFF).set 3 2)] else [] }
           sun := { s.sun with tb := [(2, t)] } }
theorem witness_VehicleNetworks : (sNet true [] 0).dev.off = false ∧ (sNet true [] 0).st ≠ stTRIPPED ∧
    (sNet true [] 0).flag (R.ETH_M_STATUS_LINK 0) = false ∧
    (sNet true [(R.ETH_M_STATUS_LINK 0, 1)] 0).flag (R.ETH_M_STATUS_LINK 0) = true ∧ (sNet true [] 10000001).netEnabled 0 = true ∧
    SMap.get (fun _ => 0) (sNet true [] 10000001).net.downAt 0 + 10000000 < (sNet true [] 10000001).tb2 ∧
    (sNet true [] 10000001).flag (R.ETH_M_STATUS_NET_LOST 0) = false ∧ (0, 1) ∈ (sNet true [] 10000001).c0Pairs ∧
    (sNet true [] 0).netLost 1 = false ∧ (sNet true [(R.ETH_M_STATUS_NET_LOST 1, 1)] 10000001).netLost 1 = true ∧
    (sNet true [] 0).serving = true ∧ (sNet true [] 0).flag R.SAFETY_TRIP_TRIPPED = false ∧ (sNet false [] 0).c0Pairs = [] ∧
    (sNet true [(R.ETH_M_STATUS_LINK 0, 1), (R.ETH_M_STATUS_NET_LOST 0, 1)] 0).netLost 0 = true := by decide
theorem witness_VehicleNetworks_frames : (sNet true [(R.ETH_M_STATUS_LINK 0, 1)] 0).netUp 0 = true ∧ (sNet true [] 0).netUp 0 = false ∧
    (sNet true [] 0).netEnabled 2 = true ∧ (sNet true [] 0).fld (R.CAN_C_STATUS_STATE 0) ≠ 2 ∧
    (sNet true [(R.CAN_C_STATUS_STATE 0, 2)] 0).fld (R.CAN_C_STATUS_STATE 0) = 2 := by decide
def sEgr (n t : Nat) : State := { sNet true [(R.ETH_M_STATUS_LINK 0, 1)] t with net := { State.reset.net with egress := [(n, [⟨0, [1], 0⟩])] } }
theorem witness_VehicleNetworks_send : (sEgr 0 10000001).egress 0 = ⟨0, [1], 0⟩ :: [] ∧ 0 + 10000000 < (sEgr 0 10000001).tb2 ∧
    (sEgr 0 10000000).tb2 ≤ 0 + 10000000 ∧ (sEgr 0 0).flag (R.ETH_M_STATUS_LINK 0) = true ∧ (sEgr 2 0).egress 2 = ⟨0, [1], 0⟩ :: [] ∧
    (sEgr 0 0).egress 2 = [] := by decide
/-- Receive stream 0 from device 0, stream number 0, and windows that stand open on it. -/
def sRx (l : List PairWin) (known : List Nat) (t : Nat) : State :=
  let s := sNet true [(R.ETH_M_STATUS_LINK 0, 1), (R.ETH_M_STATUS_LINK 1, 1), (R.ETH_S_CFG_VALID 0, 1), (R.ETH_S_CFG_MAXSTEP 0, 1),
    (R.ETH_S_CFG_WINDOW 0, 1000), (R.ETH_S_RING_ENTRIES 0, 2), (R.MEMC_STATUS_CH_UP, 0xFF)] t
  { s.dedicateCvus with net := { State.reset.net with wins := l, decided := [(0, known)] } }
/-- A notice of no bytes with ALIVE 5 from device 0. -/
def envN : List Byte := (sRx [] [] 0).envelope 2 0 5 []
theorem witness_VehicleNetworks_receive : (sRx [] [] 0).verUp = true ∧ (sRx [] [] 0).netUp 0 = true ∧ 24 ≤ envN.length ∧
    (sRx [] [] 0).rxStream 0 envN = some (0, 0) ∧ (sRx [] [] 0).rxStream 1 envN = some (0, 1) ∧
    ((sRx [] [] 0).rxCheck 0 0 envN).2 = true ∧ leNat ((envN.drop 6).take 2) = 5 ∧
    ((sRx [] [] 0).rxCheck 0 0 (envN.set 23 (envN.getD 23 0 + 1))).2 = false ∧ (sRx [] [] 0).rxStream 0 (envN.set 23 0) = some (0, 0) := by
  decide
theorem witness_VehicleNetworks_pair : 5 ∉ SMap.get (fun _ => []) (sRx [⟨0, 5, 1, envN, 0⟩] [4] 0).net.decided 0 ∧
    5 ∈ SMap.get (fun _ => []) (sRx [] [5] 0).net.decided 0 ∧ (sRx [⟨0, 5, 1, envN, 0⟩] [4] 0).winOver ⟨0, 5, 1, envN, 0⟩ = false ∧
    (sRx [⟨0, 5, 1, envN, 0⟩] [4] 0).net.wins = [⟨0, 5, 1, envN, 0⟩] ∧ Flat (sRx [] [] 0) ∧
    ((sRx [⟨0, 5, 1, envN, 0⟩] [4] 0).rxCheck 0 0 envN).2 = true ∧ ((sRx [] [5] 0).rxCheck 0 0 envN).2 = true := by decide
theorem witness_VehicleNetworks_window : (sRx [⟨0, 5, 1, envN, 0⟩] [] 1000000).net.wins.find? (fun w => w.stream == 0 && w.alive == 5) =
    some ⟨0, 5, 1, envN, 0⟩ ∧ 0 + (sRx [] [] 0).fld (R.ETH_S_CFG_WINDOW 0) * 1000 ≤ (sRx [] [] 1000000).tb2 ∧
    (sRx [] [] 0).tb2 < 0 + (sRx [] [] 0).fld (R.ETH_S_CFG_WINDOW 0) * 1000 := by decide

/-- Both MACs up, the slave port of TB0 at 0 and of TB1 at 7, Nimlink ports 0 and 1 in use. -/
def sSun (l : List (Fld × Nat)) (g : Sun → Sun) : State :=
  let s := sNet false ([(R.ETH_M_STATUS_LINK 0, 1), (R.ETH_M_STATUS_LINK 1, 1), (R.NIM_PORT_STATUS_STATE 0, 3), (R.NIM_PORT_STATUS_STATE 1, 3),
    (R.SUNDIAL_TB_STATUS_PORT 0, 0)] ++ l) 5000
  { s with sun := g s.sun }
def ySun (two : Bool) : SyncMsg := ⟨0, 7, two, 9, 0, 0⟩
theorem witness_Sundial : (sSun [(R.SUNDIAL_DOMAIN_TB0_DOMAIN, 0)] id).syncOk 0 (ySun false) = true ∧
    (sSun [(R.SUNDIAL_DOMAIN_TB0_DOMAIN, 0)] id).syncOk 1 (ySun false) = false ∧ (ySun true).twoStep = true ∧
    ¬ (sSun [] id).flag (R.SUNDIAL_TB_STATUS_LOCKED 0) = true ∧ SMap.get (fun _ => 0) (sSun [] id).sun.syncs 0 = 0 ∧
    (sSun [(R.SUNDIAL_TB_STATUS_LOCKED 0, 1)] id).flag (R.SUNDIAL_TB_STATUS_LOCKED 0) = true ∧
    1 ≤ SMap.get (fun _ => 0) (sSun [] (fun u => { u with syncs := [(0, 1)], conv := [(0, 3)] })).sun.syncs 0 ∧
    3 ≤ SMap.get (fun _ => 0) (sSun [] (fun u => { u with syncs := [(0, 1)], conv := [(0, 3)] })).sun.conv 0 ∧
    (sSun [] (fun u => { u with twoStep := [(0, 7, 1, 2)] })).sun.twoStep.find? (fun w => w.1 == 0 && w.2.1 == (ySun true).seq.toNat) =
      some (0, 7, 1, 2) := by decide
theorem witness_Sundial_announce : (sSun [(R.SUNDIAL_DOMAIN_TB0_DOMAIN, 0)] id).gptpUp 0 = true ∧
    (0 : BitVec 8).toNat = (sSun [(R.SUNDIAL_DOMAIN_TB0_DOMAIN, 0)] id).gptpDomain 0 ∧
    (sSun [(R.SUNDIAL_DOMAIN_TB0_DOMAIN, 0)] id).annOf 1 = none ∧ (sSun [(R.SUNDIAL_DOMAIN_TB1_DOMAIN, 0)] id).gptpUp 2 = true ∧
    (0 : BitVec 8).toNat = (sSun [(R.SUNDIAL_DOMAIN_TB1_DOMAIN, 0)] id).gptpDomain 1 ∧ (sSun [] id).sun.ann = [] ∧
    (sSun [] id).flag (R.SUNDIAL_TB_STATUS_GM 1) = false := by decide
theorem witness_Sundial_own : (sSun [(R.SUNDIAL_RINGGM_RING_PRIO1, 0)] id).ownVec ≤ (BitVec.allOnes 128).toNat := by
  have h : (sSun [(R.SUNDIAL_RINGGM_RING_PRIO1, 0)] id).fld R.SUNDIAL_RINGGM_RING_PRIO1 = 0 := by decide
  have h1 : (BitVec.allOnes 128).toNat = 2 ^ 128 - 1 := by decide
  have h2 : Config.clockVec % 2 ^ 120 < 2 ^ 120 := Nat.mod_lt _ (by decide)
  rw [State.ownVec, h, h1]
  omega
theorem witness_Sundial_links : (sSun [] id).verUp = true ∧ (sSun [] id).gptpUp 0 = true ∧ State.reset.gptpUp 0 = false ∧
    (sSun [] id).flag (R.SUNDIAL_TB_STATUS_GM 0) = false ∧ (sSun [(R.SUNDIAL_TB_STATUS_GM 1, 1)] id).flag (R.SUNDIAL_TB_STATUS_GM 1) = true ∧
    (sSun [(R.SUNDIAL_TB_STATUS_LOCKED 0, 1)] id).flag (R.SUNDIAL_TB_STATUS_HOLDOVER 0) = false ∧
    (sSun [] id).fld (R.SUNDIAL_TB_STATUS_PORT 0) < 2 ∧ (sSun [] id).annOf (1 - 0) = none ∧ (sSun [] id).gptpUp (1 - 0) = true := by decide
theorem witness_Sundial_forward : (sSun [] id).gptpUp ((0 : Fin 4).val + 2) = true ∧ (sSun [] id).gptpUp ((1 : Fin 4).val + 2) = true ∧
    (0 : Fin 4) ≠ 1 ∧ (7, 5) ∈ SMap.get (fun _ => []) (sSun [] (fun u => { u with fwd := [(1, [(7, 5)])] })).sun.fwd 1 ∧
    SMap.get (fun _ => []) (sSun [] id).sun.fwd 1 = [] ∧ State.reset.gptpUp 2 = false := by decide
theorem witness_Sundial_pulse : (sSun [(R.SUNDIAL_TPO_CTRL_ARM 0, 1), (R.SUNDIAL_TPO_CTRL_BASE 0, 2)] (fun u => { u with tpoNext := [(0, 5001)] })).verUp = true ∧
    (sSun [(R.SUNDIAL_TPO_CTRL_ARM 0, 1), (R.SUNDIAL_TPO_CTRL_BASE 0, 2)] (fun u => { u with tpoNext := [(0, 5001)] })).flag (R.SUNDIAL_TPO_CTRL_ARM 0) = true ∧
    (sSun [] id).baseRuns 2 = true ∧ (sSun [] (fun u => { u with tpoNext := [(0, 5001)] })).tpoNext 0 ≤ (sSun [] id).baseNs 2 + 1 ∧
    (sSun [] id).st ≠ stTRIPPED ∧ (sSun [] id).hasNim = true ∧
    (withFlds [(R.DEVICE_CAPS_NIMLINK, 0)] (sSun [] id)).hasNim = false ∧ (sSun [] id).baseRuns 0 = false ∧
    (sSun [] id).tpoStart 0 < (sSun [] id).baseNs 2 ∧ (sSun [] id).fld (R.SUNDIAL_TPO_PERIOD_PERIOD 0) = 0 := by decide

/-! ### Witnesses: Nimlink and the Keep -/

/-- Nimlink on, ports 0 and 1 in given states, fields set over them, at TB2 `t`. -/
def sNim (a b : Nat) (l : List (Fld × Nat)) (g : Nim → Nim) (t : Nat) : State :=
  let s := sAt stSERVING ([(R.NIM_CFG_EN, 1), (R.NIM_CFG_MINVER, 1), (R.NIM_MEMBER_ID_ID 2, 77), (R.NIM_PORT_STATUS_STATE 0, a),
    (R.NIM_PORT_STATUS_STATE 1, b), (R.NIM_STATUS_STATE, 1)] ++ l)
  { s with nim := g s.nim, sun := { s.sun with tb := [(2, t)] } }
theorem witness_NimlinkAndRollCall : State.reset.nimOn = false ∧ (∀ a : Fin 8, (sNim a 0 [] id 0).nimOn = true ∧
    (sNim a 0 [] id 0).fld (R.NIM_PORT_STATUS_STATE 0) = a) ∧ (77 : BitVec 64) ≠ 0 ∧ (sNim 2 0 [] id 0).fld (R.NIM_MEMBER_ID_ID 2) = 77 ∧
    ((SMap.get (fun _ => []) (sNim 2 0 [] (fun n => { n with ups := [(0, [1, 2, 3])] }) 4).nim.ups 0).filter
      (fun t => (4 : Nat) < t + 1000000000)).length = 3 ∧ (SMap.get (fun _ => []) (sNim 2 0 [] id 4).nim.ups 0).length < 3 := by decide
theorem witness_NimlinkAndRollCall_links : (sNim 3 3 [(R.NIM_PORT_STATUS_INRING 0, 1)] id 0).flag (R.NIM_PORT_STATUS_INRING 0) = true ∧
    (sNim 3 3 [] id 0).flag (R.NIM_PORT_STATUS_INRING 0) = false ∧ (sNim 3 3 [(R.NIM_PORT_STATUS_LV 0, 3)] id 0).fld (R.NIM_PORT_STATUS_LV 0) = 3 ∧
    (sNim 3 3 [] id 0).flag (R.NIM_PORT_STATUS_LANES1 0) = false ∧ (sNim 3 3 [] id 0).fld (R.NIM_PORT_STATUS_STATE 1) = 3 ∧
    ((SMap.get (fun _ => []) (sNim 7 0 [] (fun n => { n with ups := [(0, [1, 2, 3])] }) 1000000003).nim.ups 0).getLastD 0) + 1000000000 ≤
      (sNim 7 0 [] id 1000000003).tb2 := by decide
theorem witness_NimlinkAndRollCall_session : ({ sNim 2 0 [] id 0 with keep := { State.reset.keep with rng := true } } : State).sessionReady =
    true ∧ (sNim 2 0 [] id 0).sessionReady = false ∧ (sNim 3 0 [] id 0).nimHears = true ∧ (sNim 2 0 [] id 0).nimHears = false := by decide
/-- An identity other than this device's. -/
def ridOther : BitVec 64 := if ownRoll = 5 then 6 else 5
theorem ridOther_ne : ridOther.toNat ≠ ownRoll := by
  unfold ridOther
  split <;> simp_all
  omega
def rOther (peers : List (BitVec 64 × Nat)) : NimReport := ⟨ridOther, 2, 1, 0xE, peers⟩
def sRoll (g : Nim → Nim) : State := sNim 3 0 [(R.NIM_PORT_PEERID_ID 0, 77)] (fun n => g { n with epoch := (3, 9) }) 0
theorem witness_NimlinkAndRollCall_roll : (sRoll id).rollHears = true ∧ (sRoll id).nim.epoch = ((3 : BitVec 16).toNat, (9 : BitVec 64).toNat) ∧
    (sRoll id).fld R.NIM_STATUS_STATE = 1 ∧ (sRoll id).nim.epoch.1 < (4 : BitVec 16).toNat ∧ State.reset.rollHears = false := by decide
theorem witness_NimlinkAndRollCall_report : (rOther []).id.toNat ≠ ownRoll ∧
    (sRoll id).nim.reports.filter (fun q => q.id ≠ (rOther []).id) ++ [rOther []] = [rOther []] ∧ allReported [rOther []] = true ∧
    (∀ a ∈ (sRoll id).nim.agrees, a.1 = ownRoll ∨ a.2 = digestOf ((sRoll id).mapOf [rOther []])) ∧
    (∀ q ∈ (sRoll (fun n => { n with agrees := [(ridOther.toNat, digestOf ((sRoll id).mapOf [rOther []]))] })).mapOf [rOther []],
      q.id.toNat = ownRoll ∨ ∃ a ∈ [(ridOther.toNat, digestOf ((sRoll id).mapOf [rOther []]))], a.1 = q.id.toNat) := by
  refine ⟨ridOther_ne, rfl, rfl, fun a ha => (by cases ha), fun q hq => Or.inr ⟨_, List.mem_singleton.2 rfl, ?_⟩⟩
  have : q = rOther [] := by
    simp only [State.mapOf, List.mem_flatten, List.mem_map] at hq
    obtain ⟨l, ⟨d, -, rfl⟩, hq⟩ := hq
    exact List.mem_singleton.1 (List.mem_of_mem_filter hq)
  rw [this]
  rfl
theorem witness_NimlinkAndRollCall_waits : allReported [rOther [(ridOther + 1, 3)]] = false := by
  unfold allReported rOther ridOther
  split <;> decide
theorem witness_NimlinkAndRollCall_disagrees (m : List NimReport) : (0 : Byte) :: digestOf m ≠ digestOf m := by
  intro h
  simpa using congrArg List.length h
theorem witness_NimlinkAndRollCall_trip : ((3 : Fin 16).val ≠ (sRoll id).fld R.NIM_CFG_SELF) ∧
    (sRoll id).flag (R.NIM_MEMBER_STATE_TRIPPED 3) = false ∧ (sNim 0 0 [] id 200000000).nim.enabledAt + 200000000 ≤ (sNim 0 0 [] id 200000000).tb2 ∧
    ∀ p : Fin 4, (sNim 0 0 [] id 200000000).fld (R.NIM_PORT_STATUS_STATE p) = 0 ∧
      SMap.get (fun _ => []) (sNim 0 0 [] id 200000000).nim.ups p = [] := by decide
/-- Route 0 duplicated between devices 0 and 3, this one being number `self`, with frame 8 open. -/
def sDup (self : Nat) (l : List (Fld × Nat)) (tb2 : Nat) : State :=
  withFlds ([(R.NIM_CFG_EN, 1), (R.NIM_CFG_SELF, self), (R.NIM_PORT_STATUS_STATE 0, 3), (R.NIM_DUP_VALID 0, 1), (R.NIM_DUP_PRIMARY 0, 0),
    (R.NIM_DUP_STANDBY 0, 3), (R.NIM_MEMBER_STATE_PRESENT 0, 1)] ++ l) (sVer (some jRun) (some 2) none tb2)
theorem witness_NimlinkAndRollCall_claim : (sDup 3 [] 0).nimHears = true ∧ (sDup 3 [] 0).dupStandby 0 = true ∧ (sDup 0 [] 0).dupStandby 0 = false ∧
    (sDup 0 [] 0).dupPrimary 0 = true ∧ (sDup 3 [] 0).fld (R.NIM_DUP_LASTCLAIM 0) < (8 : BitVec 32).toNat ∧
    (8 : BitVec 32).toNat ≤ (sDup 3 [(R.VERD_RSTAT_FRAME 0, 8), (R.VERD_RSTAT_STATUS 0, 1)] 0).fld (R.VERD_RSTAT_FRAME 0) ∧
    (sDup 3 [(R.VERD_RSTAT_FRAME 0, 8), (R.VERD_RSTAT_STATUS 0, 1)] 0).fld (R.VERD_RSTAT_STATUS 0) ≠ 0 ∧
    (sDup 3 [] 0).fld (R.VERD_RSTAT_STATUS 0) = 0 ∧ (sDup 3 [(R.NIM_DUP_ACTIVE 0, 1)] 0).flag (R.NIM_DUP_ACTIVE 0) = true ∧
    (sDup 3 [] 0).departed ((sDup 3 [] 0).fld (R.NIM_DUP_PRIMARY 0)) = false ∧ (sDup 5 [] 0).dupStandby 0 = false ∧
    (sDup 5 [] 0).dupPrimary 0 = false := by decide
theorem witness_NimlinkAndRollCall_standby : (sDup 3 [] 1000000000).route 0 = some rcRun ∧
    (sDup 3 [] 1000000000).openFrame 0 8 = some ⟨8, 0, 0, 0, none, false⟩ ∧ (sDup 3 [] 1000000000).dupStandby 0 = true ∧
    (sDup 3 [] 1000000000).serving = true ∧ 0 + 1000 * rcRun.deadline ≤ (sDup 3 [] 1000000000).tb2 + 180000 ∧
    (sDup 3 [] 1000000000).handedAt 0 = 0 ∧ rcRun.cls = 0 := by decide

/-- A request of device 0 to a device that has it in its map. -/
def qRem (tenant write : Bool) (epoch : BitVec 8) (off : BitVec 34) : RemoteReq := ⟨0, tenant, epoch, 0, write, off, [1], 4⟩
theorem witness_RemoteRequests : (sDup 3 [] 0).nimOn = true ∧ (sDup 3 [] 0).st ≠ stTRIPPED ∧
    (sDup 3 [] 0).flag (R.NIM_MEMBER_STATE_PRESENT (qRem true true 1 0).dev) = true ∧
    (sDup 3 [(R.DEVICE_STATE_DEV_EPOCH, 1)] 0).fld R.DEVICE_STATE_DEV_EPOCH = 1 ∧ viewLocal 0x206000000 = none ∧ viewLocal 0x100 = some 0x100 ∧
    (sDup 3 [] 0).flag R.BELL_XLOG_VALID = false ∧ locLocal (sDup 3 [] 0) 0x100 = .mem 0x100 ∧ Flat { sDup 3 [] 0 with jobs := State.reset.jobs } ∧
    viewLocal 0x300000000 = some 0x1800000000 ∧ locLocal (sDup 3 [] 0) 0x1800000000 = .ctl 0 := by decide

theorem witness_KeepAndResponder : (sAt stREADY []).keepUp = true ∧ (sAt stBOOT [(R.DEVICE_BOOTSTAT_STEP, 3)]).keepUp = true ∧
    (∃ t, ({ State.reset with keep := { State.reset.keep with failAt := some 0 }, sun := { State.reset.sun with tb := [(2, 10000000)] } } :
      State).keep.failAt = some t ∧ t + 10000000 ≤ 10000000) ∧
    ({ State.reset with keep := { State.reset.keep with rng := true, reqs := 2 ^ 20 } } : State).keep.rng = true := ⟨by decide, by decide, ⟨0, rfl, by decide⟩, rfl⟩
/-- Port A up, a responder whose negotiation has come to `n`, with open sessions. -/
def sSpdm (n : Nat) (rng : Bool) (l : List Spdm) : State :=
  { sAt stREADY [(R.PCIE_P_PORTSTAT_UP 0, 1)] with keep := { State.reset.keep with nego := [(0, n)], rng := rng, sessions := l } }
theorem witness_KeepAndResponder_spdm : State.reset.spdmUp 0 = false ∧ (sSpdm 0 true []).spdmUp 0 = true ∧ (sSpdm 1 true []).nego 0 = 1 ∧
    (sSpdm 2 true []).nego 0 = 2 ∧ 3 ≤ (sSpdm 3 true []).nego 0 ∧ (sSpdm 0 true []).nego 0 < 3 ∧
    4 ≤ (sSpdm 3 true (List.replicate 4 ⟨7, 0, false, []⟩)).keep.sessions.length ∧ (sSpdm 3 true []).keep.sessions.length < 4 ∧
    (sSpdm 3 true [⟨7, 0, false, []⟩]).keep.sessions = [] ++ ⟨7, 0, false, []⟩ :: [] ∧ (sSpdm 3 true []).session 0 7 = none ∧
    (sSpdm 3 true [⟨7, 0, true, []⟩]).session 0 7 = some ⟨7, 0, true, []⟩ := by decide

/-! ### Witnesses: the host's commands -/

/-- An entry of a function with ARGS and a buffer. -/
def eHost (fn : Fin 5) (args : BitVec 320) (buf : List Byte) : SubEntry :=
  ⟨fn, 1, false, if buf = [] then 0 else 0x1000, BitVec.ofNat 32 buf.length, args, some buf⟩
/-- A device in a state whose function `fn` has one command in its queue and agreed on a version. -/
def sHost (fn st version : Nat) (l : List (Fld × Nat)) : State :=
  { sAt st ([(R.PCIE_P_PORTSTAT_UP 0, 1), (R.PCIEA_F_QCFG_EN fn, 1), (R.PCIEA_F_FSTATUS_VERSION fn, version), (R.MEMC_STATUS_CH_UP, 0xFF)] ++ l)
    with fns := [(fn, { Fn.reset with sqTail := 1 })] }
def eBare : SubEntry := eHost 0 0 []
theorem witness_DeviceHostCommands : (sHost 0 stREADY 0x12 []).Fetches eBare ∧ (sHost 1 stREADY 0x12 []).Fetches { eBare with fn := 1 } ∧
    eBare.noBuf = true ∧ eBare.argsIn [] = true ∧ (sHost 0 stTRIPPED 0x12 []).Fetches eBare ∧ (sHost 0 stREADY 0 []).Fetches eBare ∧
    State.reset.canStart 0 = false ∧ (eHost 0 0x12 []).argsIn [(0, 2)] = true ∧ (sHost 0 stREADY 0 []).Fetches (eHost 0 0x12 []) ∧
    0x10 ≤ min ((eHost 0 0x12 []).arg 1) 0x12 + 0x10 ∧ ((sHost 0 stREADY 0 []).fn 0).inprog = [] ∧
    ((eHost 0 0x1210 []).arg 0 ≤ min ((eHost 0 0x1210 []).arg 1) 0x12 ∧ 0x10 ≤ min ((eHost 0 0x1210 []).arg 1) 0x12) ∧
    ¬ (0x10 ≤ min ((eHost 0 0 []).arg 1) 0x12) := by decide
theorem witness_DeviceHostCommands_busy : ({ sHost 0 stREADY 0 [] with fns := [(0, { Fn.reset with sqTail := 1, inprog := [⟨7, 4⟩] })] } : State).Fetches eBare := by
  decide
theorem witness_DeviceHostCommands_counters : (eHost 0 0 (List.replicate 64 0)).len = 64 ∧
    (sHost 0 stREADY 0x12 []).Fetches (eHost 0 0 (List.replicate 64 0)) ∧ (eHost 0 0 (List.replicate 64 0)).argsIn [] = true := by decide
/-- READY with a tenant, entropy, no program named by the settings, no C0 route and no slot table. -/
def sGo (tenant rng : Bool) : State :=
  let s := sHost 0 stREADY 0x12 [(R.KEEP_TENANT_ID 0, if tenant then 5 else 0)]
  { s with keep := { s.keep with rng := rng }, jobs := { s.jobs with settings := [(0x34, s.pdigest)] } }
theorem witness_DeviceHostCommands_start : (∀ a b, (sGo a b).FromPf0 eBare) ∧ (sGo true true).st = stREADY ∧
    (sGo true true).fld (R.KEEP_TENANT_ID 0) ≠ 0 ∧ (∀ k : Fin 4, (sGo false true).fld (R.KEEP_TENANT_ID k) = 0) ∧ (sGo true true).keep.rng = true ∧
    (sGo true true).namedProgs = [] ∧ (∀ n : Fin 16, (sGo true true).fld (R.CORE_SLOTCFG_COUNT n) = 0) := by decide
theorem witness_DeviceHostCommands_digest : (sGo true true).setting 0x34 = some (sGo true true).pdigest ∧
    routesOf (((sGo true true).setting 0x10).getD []) = [] := ⟨rfl, rfl⟩
/-- READY with a C0 route whose program 3 is loaded, or not, and with a spare, or not; the parameter set is not the declared one. -/
def sGoC0 (loaded spare : Bool) : State :=
  let s := withFlds [(fCoreState 1, if spare then csSPARE else 0)] (sGo true true)
  { s with jobs := { s.jobs with
      settings := [(0x10, eRoute 0xFF)], decl := ⟨[], List.replicate 4 ([], 0, 0), [], []⟩
      progs := if loaded then [pRun 0] else [] } }
theorem witness_DeviceHostCommands_c0 : (∀ a b, (sGoC0 a b).FromPf0 eBare) ∧ (sGoC0 true true).namedProgs = [3] ∧
    (sGoC0 true true).prog 3 = some (pRun 0) ∧ (sGoC0 true true).progTable[3]? = some ((pRun 0).digest, 0, 0) ∧ (sGoC0 false true).prog 3 = none ∧
    (∃ rc ∈ routesOf (((sGoC0 true false).setting 0x10).getD []), rc.cls = 0) ∧
    (∀ n : Fin 16, (sGoC0 true false).fld (fCoreState n) ≠ csSPARE) ∧ (sGoC0 true true).fld (fCoreState 1) = csSPARE ∧
    (sGoC0 true true).setting 0x34 = none := by decide
theorem witness_DeviceHostCommands_shown :
    let s := sGoC0 true true
    let d : State := { s with jobs := { s.jobs with settings := [(0x10, (eRoute 0xFF).set 0 8)] } }
    d.FromPf0 eBare ∧ d.st = stREADY ∧ d.hasDisp = true ∧ (withFlds [(R.DEVICE_CAPS_DISPTAP, 0)] d).FromPf0 eBare ∧
    (∀ rc ∈ routesOf (((sGoC0 true true).setting 0x10).getD []), rc.cls = 0 → rc.display = false) ∧
    (∃ rc ∈ routesOf ((d.setting 0x10).getD []), rc.cls = 0 ∧ rc.display = true) ∧
    (withFlds [(R.DEVICE_CAPS_DISPTAP, 0)] d).hasDisp = false := by decide
theorem witness_DeviceHostCommands_unnamed : (withFlds [(R.CORE_SLOTCFG_COUNT 2, 1)] (sGo true true)).FromPf0 eBare ∧
    ¬ ((withFlds [(R.CORE_SLOTCFG_COUNT 2, 1)] (sGo true true)).fld (R.CORE_SLOTCFG_COUNT 2) = 0 ∨
      (withFlds [(R.CORE_SLOTCFG_COUNT 2, 1)] (sGo true true)).fld (fCoreState 2) = csSERVING ∨
      (withFlds [(R.CORE_SLOTCFG_COUNT 2, 1)] (sGo true true)).fld (fCoreState 2) = csSPARE) := by decide
theorem witness_DeviceHostCommands_states : (∀ st ∈ [stSERVING, stSERVICE, stHOLD, stREADY], (sHost 0 st 0x12 []).FromPf0 eBare ∧
    (sHost 0 st 0x12 []).st = st) ∧ (sHost 0 stSERVING 0x12 []).serving = true ∧
    ({ sHost 0 stHOLD 0x12 [] with dev := { State.reset.dev with holdFrom := stSELFTEST } } : State).FromPf0 eBare ∧
    ({ sHost 0 stHOLD 0x12 [] with dev := { State.reset.dev with holdFrom := stSELFTEST, reval := some 3 } } : State).FromPf0 eBare ∧
    (∀ r : Fin 4, (sHost 0 stSERVING 0x12 [(R.HEARTH_STATUS_RSTATE, r)]).FromPf0 eBare ∧
      (sHost 0 stSERVING 0x12 [(R.HEARTH_STATUS_RSTATE, r)]).fld R.HEARTH_STATUS_RSTATE = r) := by decide
theorem witness_DeviceHostCommands_lifecycle : (eHost 0 0x01 []).argsIn [(0, 1)] = true ∧ (eHost 0 0x01 []).arg 0 = 1 ∧
    (eHost 0 0x01 []).argsIn [(0, 16)] = true ∧ (0, 1) ∈ [(0, 1), (0, 2), ((1, 2) : Nat × Nat)] ∧
    ({ sHost 0 stSERVICE 0x12 [] with keep := { State.reset.keep with lcs := 0 } } : State).FromPf0 (eHost 0 0x01 []) ∧
    ({ sHost 0 stSERVICE 0x12 [] with keep := { State.reset.keep with lcs := 2 } } : State).FromPf0 (eHost 0 0x01 []) ∧
    (eHost 0 0x03 (List.replicate 112 0)).hasBuf 112 = true ∧ (eHost 0 0x03 (List.replicate 112 0)).arg 0 = 3 ∧
    (eHost 0 0x03 (List.replicate 112 0)).argsIn [(0, 1)] = true ∧ (sHost 0 stSERVICE 0x12 []).FromPf0 (eHost 0 0x03 (List.replicate 112 0)) ∧
    (sHost 0 stSERVICE 0x12 []).keep.lcs = 2 := by decide
/-- A watch-job descriptor of job 9 for route 0 with one pulled tensor of 64 bytes. -/
def dJob (cls : Nat) (frame : Nat) : List Byte :=
  leBytes 4 9 ++ leBytes 2 0 ++ leBytes 2 cls ++ leBytes 4 frame ++ leBytes 4 0 ++ leBytes 2 1 ++ leBytes 14 0 ++
    leBytes 8 0x2000000000 ++ leBytes 4 64 ++ leBytes 4 0
/-- A serving device whose route 0, of a class, serves client 1, with frames taken, jobs in the shared slots, at TB2 `t`. -/
def sSub (cls : Byte) (allowed : Nat) (taken : List Nat) (jobs : Nat) (t : Nat) : State :=
  let s := sHost 1 stSERVING 0x12 [(R.PART_VFCLASS_VF1, allowed)]
  { s with
    jobs := { s.jobs with settings := [(0x10, (eRoute 0xFF).set 0 cls)], routes := [(0, { RouteSt.empty with frames := [⟨8, 0, 0, 0, none, false⟩], taken := taken })]
                          jobs := (List.range jobs).map (fun i => { jRun with frame := i, cls := 1 }) }
    sun := { s.sun with tb := [(2, t)] } }
def eJob (cls frame : Nat) : SubEntry := eHost 1 0 (dJob cls frame)
theorem witness_WorkHostCommands : (sSub 0 7 [] 0 0).Fetches (eJob 0 8) ∧ (sSub 0 7 [] 0 0).st ≠ stTRIPPED ∧ (eJob 0 8).argsIn [] = true ∧
    32 ≤ (eJob 0 8).len.toNat ∧ (eJob 0 8).hasBuf (32 + 16 * (descOf (eJob 0 8).data).ntens) = true ∧ (sSub 0 7 [] 0 0).serving = true ∧
    (sSub 0 7 [] 0 0).jobOk (eJob 0 8).data = true ∧ (sSub 0 7 [] 0 0).jobOk (eJob 1 8).data = false ∧
    (sHost 1 stREADY 0x12 []).serving = false ∧ (sHost 1 stREADY 0x12 []).Fetches (eJob 0 8) := by decide
theorem witness_WorkHostCommands_submit : (sSub 0 7 [] 0 0).route (descOf (eJob 0 8).data).route = some rcRun ∧ rcRun.client = 1 ∧
    (sSub 0 7 [] 0 0).clsAllowed 1 0 = true ∧ (sSub 0 0 [] 0 0).clsAllowed 1 0 = false ∧ (tensorOf (eJob 0 8).data 0).push = false ∧
    8 ∉ ((sSub 0 7 [] 0 0).routeSt 0).taken ∧ 8 ∈ ((sSub 0 7 [8] 0 0).routeSt 0).taken ∧
    (3 + 2 ^ 32 - (sSub 0 7 [] 0 0).fld (R.TAP_T_STAT_FRAME rcRun.source)) % 2 ^ 32 ≤ 3 ∧
    ¬ ((4 + 2 ^ 32 - (sSub 0 7 [] 0 0).fld (R.TAP_T_STAT_FRAME rcRun.source)) % 2 ^ 32 ≤ 3) ∧
    (sSub 0 7 [] 0 0).deadlinePassed 0 rcRun 3 = false ∧ (sSub 0 7 [] 0 1000000000).deadlinePassed 0 rcRun 8 = true ∧
    ((sSub 1 7 [] 48 0).jobs.jobs.filter (fun j => j.cls != 0)).length = 48 ∧ (sSub 1 7 [] 48 0).jobOk (eJob 1 3).data = true := by decide
theorem witness_WorkHostCommands_inboxed : rcRun.inboxKib = 0 ∧ rcRun.display = false ∧ (tensorOf ((dJob 0 8).set 46 1) 0).push = true ∧
    (sSub 0 7 [] 0 0).jobOk ((dJob 0 8).set 46 1) = true := by decide
def eChime : SubEntry := eHost 1 (0xA00000002) []
theorem witness_WorkHostCommands_chime : eChime.argsIn [(0, 1), (4, 4)] = true ∧ eChime.noBuf = true ∧ eChime.arg 0 = 2 ∧
    eChime.args.toNat / 256 ^ 4 % 2 ^ 32 = 10 ∧ (sHost 1 stSERVING 0x12 [(R.TAP_TDMCFG_EN, 1), (R.TAP_CHIME_B_VALID 2, 1)]).Fetches eChime ∧
    (sHost 1 stSERVING 0x12 [(R.TAP_TDMCFG_EN, 1), (R.TAP_CHIME_B_VALID 2, 1)]).flag (R.TAP_CHIME_B_VALID 2) = true ∧
    ({ sHost 1 stSERVING 0x12 [(R.TAP_TDMCFG_EN, 1), (R.TAP_CHIME_B_VALID 2, 1)] with chimes := List.replicate 8 ⟨1, 0, 5, none, 0⟩ } :
      State).Fetches eChime := by decide

/-- A program image of four bytes of code and none of data for table entry 3, of class C0. -/
def dProg : List Byte := leBytes 4 0x5057484E ++ leBytes 2 1 ++ leBytes 2 0 ++ leBytes 4 0 ++ leBytes 4 4 ++ List.replicate 240 0 ++ [0, 0, 0, 0]
/-- The class's region: 16 MiB of mirrored DRAM at 0, fenced for C0; the program table names 48 zero bytes as the digest. -/
def sImg (st : Nat) : State :=
  let s := sHost 0 st 0x12 [(R.PART_FENCE_VALID 0, 1), (R.PART_FENCE_OWNER 0, 0), (R.PART_FENCE_LIMIT 0, 0xFFF), (R.MEMC_RGN_VALID 0, 1),
    (R.MEMC_RGN_SIZE 0, 16), (R.MEMC_RGN_MIRROR 0, 1)]
  { s with jobs := { s.jobs with decl := ⟨[], List.replicate 4 (List.replicate 48 0, 0, 0), [], [(0, 0)]⟩ } }
theorem witness_WorkHostCommands_image : (sImg stREADY).FromPf0 (eHost 0 3 dProg) ∧ (eHost 0 3 dProg).argsIn [(0, 1)] = true ∧
    (eHost 0 3 dProg).arg 0 < 64 ∧ 256 ≤ (eHost 0 3 dProg).len.toNat ∧ (eHost 0 3 dProg).hasBuf (256 + 4 + 0) = true ∧
    leNat ((dProg.drop 0xC).take 4) = 4 ∧ leNat ((dProg.drop 0x10).take 4) = 0 ∧ progHeaderOk dProg = true ∧ progHeaderOk (dProg.set 0 0) = false := by
  decide
/-- A place for an image is found where one candidate fits. -/
theorem place_some {s : State} {cls size a : Nat} (ha : a ∈ s.placeFrom) (h : s.placeOk cls a size = true) : ∃ b, s.place cls size = some b := by
  have : (s.place cls size).isSome = true := by
    rw [State.place, List.find?_isSome]
    exact ⟨a, List.mem_cons_of_mem _ ha, h⟩
  exact Option.isSome_iff_exists.1 this
/-- A program image whose signature and digest the Keep accepts is placed. -/
theorem witness_WorkHostCommands_program (hk : Config.keyAllowed [] false (List.replicate 16 0) = true)
    (hs : Config.ecdsaOk (List.replicate 16 0) (dProg.take 0x60) (List.replicate 96 0) = true)
    (hd : Config.sha384 [0, 0, 0, 0] = List.replicate 48 0) : ∃ a, (sImg stREADY).progStatus 3 dProg = (0, a) := by
  have h1 : (dProg.drop 0x50).take 16 = List.replicate 16 0 := by decide
  have h2 : (dProg.drop 0x60).take 96 = List.replicate 96 0 := by decide
  have h3 : (dProg.drop 0x20).take 48 = List.replicate 48 0 := by decide
  have h4 : dProg.drop 256 = [0, 0, 0, 0] := by decide
  have h5 : progHeaderOk dProg = true := by decide
  have h6 : ((sImg stREADY).setting 0x03).getD [] = [] := by decide
  have h7 : (sImg stREADY).progTable[3]? = some (List.replicate 48 0, 0, 0) := by decide
  obtain ⟨b, h11⟩ := place_some (cls := 0) (size := 0x1000) (a := 0) (s := { sImg stREADY with jobs := { (sImg stREADY).jobs with
      progs := (sImg stREADY).jobs.progs.filter (fun p : Prog => p.idx != 3) } }) (by decide) (by decide)
  refine ⟨b, ?_⟩
  have h8 : ¬ leAt dProg 0x1C 4 < (sImg stREADY).fld (R.NVM_CTR_VALUE 0) := by decide
  have h9 : leAt dProg 6 2 % 4 = 0 := by decide
  have h10 : pageUp (leAt dProg 0xC 4) + pageUp (leAt dProg 0x10 4) = 0x1000 := by decide
  unfold State.progStatus
  have h12 : (sImg stREADY).progCls 3 0 = some 0 := by decide
  simp only [h1, h2, h3, h4, h5, h6, h7, hk, hs, hd, h9, h10, h11, h12]
  simp [h8]
/-- A bundle image of one byte of plaintext for one device, of class C0. -/
def dBun : List Byte :=
  leBytes 4 0x57424E44 ++ leBytes 2 1 ++ leBytes 2 1 ++ leBytes 4 0 ++ leBytes 1 0 ++ List.replicate 11 0 ++ leBytes 8 1 ++
    List.replicate 224 0 ++ List.replicate 64 0 ++ List.replicate 96 0 ++ List.replicate 17 0
theorem witness_WorkHostCommands_bundleImage : (sImg stREADY).FromPf0 (eHost 0 0 dBun) ∧ (eHost 0 0 dBun).argsIn [] = true ∧ dBun ≠ [] ∧
    (eHost 0 0 dBun).hasBuf dBun.length = true ∧ bundleHeaderOk dBun = true ∧ bundleHeaderOk (dBun.set 0 0) = false := by decide
/-- A bundle image that the Keep accepts in every cryptographic check is placed. -/
theorem witness_WorkHostCommands_bundle (hk : Config.keyAllowed [] true (List.replicate 16 0) = true)
    (hs : Config.ecdsaOk (List.replicate 16 0) (dBun.take 320) (List.replicate 96 0) = true)
    (hi : Config.bundleId = List.replicate 16 0) (hu : Config.unwrapOk (dBun.take 256) (List.replicate 64 0) = true)
    (hp : Config.bundlePlain dBun = some [7]) (hd : Config.sha384 [7] = List.replicate 48 0) :
    ∃ a, (sImg stREADY).bundleStatus dBun = (0, 0, a, [7]) := by
  have h1 : (dBun.drop 0xC0).take 16 = List.replicate 16 0 := by decide
  have h2 : leAt dBun 6 2 = 1 := by decide
  have h3 : (dBun.drop 320).take 96 = List.replicate 96 0 := by decide
  have h4 : (dBun.drop 256).take 64 = List.replicate 64 0 := by decide
  have h5 : bundleHeaderOk dBun = true := by decide
  have h6 : ((sImg stREADY).setting 0x03).getD [] = [] := by decide
  have h7 : (sImg stREADY).bundleRolled (leAt dBun 0x20 16) (leAt dBun 8 4) = false := by decide
  have h8 : (sImg stREADY).freeBundleSlot = some 0 := by decide
  have h9 : leAt dBun 0x18 8 = 1 := by decide
  have h10 : leAt dBun 0xC 1 = 0 := by decide
  have h11 : (dBun.drop 0x90).take 48 = List.replicate 48 0 := by decide
  obtain ⟨b, hb⟩ := place_some (s := sImg stREADY) (cls := 0) (size := 1) (a := 0) (by decide) (by decide)
  refine ⟨b, ?_⟩
  have h12 : ((List.range 1).map (fun i => (dBun.drop (256 + 64 * i)).take 64)).find? (fun x => x.take 16 == Config.bundleId) =
      some (List.replicate 64 0) := by
    rw [hi]
    simp [List.range_succ, h4]
  unfold State.bundleStatus
  simp only [h2, h1, h3, h5, h6, hk, hs, h12, hu, h7, h8, h9, h10, hb, hp, hd, h11]
  simp
def sUnload (jobs : List Job) : State :=
  let s := sHost 0 stREADY 0x12 []
  { s with keep := { s.keep with bundles := [⟨0, 1, 0, 0, 1, 0x1000, 16, []⟩] }, jobs := { s.jobs with jobs := jobs } }
theorem witness_WorkHostCommands_unload : (sUnload []).FromPf0 (eHost 0 1 []) ∧ (eHost 0 1 []).noBuf = true ∧
    (eHost 0 1 []).argsIn [(0, 4)] = true ∧ (sUnload []).keep.bundles.find? (fun x => x.handle == 1) = some ⟨0, 1, 0, 0, 1, 0x1000, 16, []⟩ ∧
    (sUnload []).keep.bundles.find? (fun x => x.handle == 2) = none ∧ (sUnload [{ jRun with bundle := 1 }]).FromPf0 (eHost 0 1 []) ∧
    (∃ j ∈ (sUnload [{ jRun with bundle := 1 }]).jobs.jobs, j.bundle = 1) := by decide
/-- A loaded paired program 3 with a digest of 48 zero bytes, whose route allows SINGLE or not, and a slot for its second pass. -/
def sPm (st : Nat) (ok : Byte) (flags : Nat) : State :=
  let s := sHost 0 st 0x12 [(R.CORE_SLOTCFG_COUNT 0, 1), (R.CORE_SLOT_VALID 0 0, 1), (R.CORE_SLOT_PASS2 0 0, 1), (R.CORE_SLOT_PROG 0 0, 3)]
  { s with jobs := { s.jobs with settings := [(0x10, (eRoute 0xFF).set 0 ok)], progs := [{ pRun flags with digest := List.replicate 48 0 }] } }
def eMode (single : Bool) : SubEntry := eHost 0 (if single then 1 else 0) (List.replicate 48 0)
theorem witness_WorkHostCommands_mode : (∀ b, (sPm stREADY 16 12).FromPf0 (eMode b) ∧ (eMode b).argsIn [(0, 1)] = true ∧ (eMode b).arg 0 ≤ 1 ∧
    (eMode b).hasBuf 48 = true) ∧ (eMode true).arg 0 = 1 ∧ (sPm stREADY 16 12).st = stREADY ∧ (sPm stSERVING 16 12).serving = true ∧
    (sPm stSERVING 16 12).FromPf0 (eMode true) ∧ (sPm stHOLD 16 12).serving = false ∧ (sPm stREADY 16 12).hasPass2 3 = true ∧
    (sPm stREADY 16 12).jobs.progs.find? (fun p => p.digest == (eMode true).data && (sPm stREADY 16 12).paired p) =
      some { pRun 12 with digest := List.replicate 48 0 } ∧
    (sPm stREADY 16 12).singleAllowed { pRun 12 with digest := List.replicate 48 0 } = true ∧
    (sPm stREADY 0 12).singleAllowed { pRun 12 with digest := List.replicate 48 0 } = false ∧
    (sPm stREADY 16 0).jobs.progs.find? (fun p => p.digest == (eMode true).data && (sPm stREADY 16 0).paired p) = none := by decide

/-! ### Witnesses: safe I/O, the store, registers and debug -/

/-- READY with a parameter side, at TB2 `t`. -/
def sPar (st : Nat) (g : Param → Param) (t : Nat) : State :=
  let s := sHost 0 st 0x12 []
  { s with param := g s.param, sun := { s.sun with tb := [(2, t)] } }
/-- A SIO_PASSWORD buffer with an old and a new password of `n` and 8 bytes. -/
def dPw (n : Nat) : List Byte := [BitVec.ofNat 8 n, 8] ++ List.replicate 30 0 ++ (List.replicate n 7 ++ List.replicate (64 - n) 0) ++
  (List.replicate 8 9 ++ List.replicate 56 0)
theorem witness_SafeIoCommands : ∀ n ∈ [0, 8], (sPar stREADY id 0).FromPf0 (eHost 0 0 (dPw n)) ∧ (eHost 0 0 (dPw n)).hasBuf 160 = true ∧
    (eHost 0 0 (dPw n)).argsIn [] = true ∧ (∀ i : Fin 14, (dPw n).getD (2 + i) 0 = 0) ∧ leNat (((dPw n).drop 0).take 1) = n ∧
    leNat (((dPw n).drop 1).take 1) = 8 ∧ (∀ i : Fin 64, n ≤ i.val → (dPw n).getD (32 + i) 0 = 0) ∧
    (∀ i : Fin 64, 8 ≤ i.val → (dPw n).getD (96 + i) 0 = 0) := by decide
theorem witness_SafeIoCommands_password : (sPar stREADY id 0).st = stREADY ∧ (sPar stREADY id 0).param.password = none ∧
    ((dPw 0).drop 32).take 0 = [] ∧ ((dPw 8).drop 32).take 8 ≠ [] ∧ ¬ (sPar stREADY id 0).tb2 < (sPar stREADY id 0).param.lockUntil ∧
    (sPar stREADY (fun p => { p with lockUntil := 5 }) 0).tb2 < (sPar stREADY (fun p => { p with lockUntil := 5 }) 0).param.lockUntil ∧
    (sPar stSERVING id 0).FromPf0 (eHost 0 0 (dPw 0)) := by decide
/-- A password of eight bytes 7 is set; or another is. -/
def pPw (right : Bool) (g : Param → Param) (p : Param) : Param :=
  g { p with password := some ([], if right then Config.sha384 ([] ++ List.replicate 8 7) else 0 :: Config.sha384 ([] ++ List.replicate 8 7)) }
def dBegin : List Byte := [8] ++ List.replicate 31 0 ++ List.replicate 8 7 ++ List.replicate 56 0
theorem witness_SafeIoCommands_begin : (eHost 0 0 dBegin).hasBuf 96 = true ∧ (eHost 0 0 dBegin).argsIn [] = true ∧
    (∀ i : Fin 15, dBegin.getD (1 + i) 0 = 0) ∧ leNat ((dBegin.drop 0).take 1) = 8 ∧ (∀ i : Fin 64, 8 ≤ i.val → dBegin.getD (32 + i) 0 = 0) ∧
    (dBegin.drop 32).take 8 = List.replicate 8 7 ∧ (∀ b, (sPar stREADY (pPw b id) 0).FromPf0 (eHost 0 0 dBegin)) ∧
    (sPar stREADY (pPw true id) 0).param.session = none ∧
    (sPar stREADY (pPw true (fun p => { p with session := some (0, []) })) 0).param.session = some (0, []) := by decide
theorem witness_SafeIoCommands_right : (sPar stREADY (pPw true id) 0).param.password = some ([], Config.sha384 ([] ++ List.replicate 8 7)) ∧
    Config.sha384 ([] ++ List.replicate 8 7) ≠ 0 :: Config.sha384 ([] ++ List.replicate 8 7) :=
  ⟨rfl, fun h => by simpa using congrArg List.length h⟩
def sSess (staged : Option (List Byte)) : State := sPar stREADY (pPw true (fun p => { p with session := some (600000000000, []), staged := staged })) 1
theorem witness_SafeIoCommands_write : (sSess none).FromPf0 (eHost 0 64 deliverySet) ∧ (eHost 0 64 deliverySet).argsIn [(0, 8)] = true ∧
    (eHost 0 64 deliverySet).argN 0 8 % 64 = 0 ∧ (eHost 0 64 deliverySet).hasBuf 512 = true ∧ (sSess none).paramValid deliverySet = true ∧
    (sSess none).paramValid (deliverySet.set 0 0) = false ∧ (sSess none).param.session = some (600000000000, []) ∧ (sSess none).tb2 ≤ 600000000000 := by
  decide
/-- A digest of 48 bytes that is not, or is, that of a staged set. -/
theorem witness_SafeIoCommands_commit : (∃ d : List Byte, d.length = 48 ∧ Config.sha384 deliverySet ≠ d) ∧
    (sSess (some deliverySet)).param.staged = some deliverySet ∧ (sSess (some deliverySet)).param.password ≠ none ∧
    (sSess none).param.staged = none := by
  refine ⟨?_, rfl, nofun, rfl⟩
  by_cases h : Config.sha384 deliverySet = List.replicate 48 0
  · exact ⟨List.replicate 48 1, by decide, by rw [h]; decide⟩
  · exact ⟨List.replicate 48 0, by decide, h⟩
theorem witness_SafeIoCommands_commit_right (h : (Config.sha384 deliverySet).length = 48) :
    (eHost 0 0 (Config.sha384 deliverySet)).hasBuf 48 = true := by
  simp [SubEntry.hasBuf, eHost, h]
def sAck (n : Nat) : State :=
  { sHost 0 stREADY 0x12 [(R.SAFEIO_CHSTAT_FAULT 0, 1)] with sio := { State.reset.sio with off := [(0, n)] } }
theorem witness_SafeIoCommands_ack : (eHost 0 1 []).noBuf = true ∧ (eHost 0 1 []).argsIn [(0, 1)] = true ∧ (eHost 0 1 []).arg 0 < 16 ∧
    (∀ n ∈ [9999, 10000], (sAck n).FromPf0 (eHost 0 1 [])) ∧ bit ((eHost 0 1 []).arg 0) 0 = true ∧
    (sAck 10000).flag (R.SAFEIO_CHSTAT_FAULT 0) = true ∧ 10000 ≤ SMap.get (fun _ => 0) (sAck 10000).sio.off 0 ∧
    ¬ 10000 ≤ SMap.get (fun _ => 0) (sAck 9999).sio.off 0 ∧ (eHost 0 0 []).argsIn [] = true := by decide
theorem witness_SafeIoCommands_timeouts : (sPar stREADY (fun p => { p with session := some (0, []) }) 600000000000).param.session = some (0, []) ∧
    0 ≤ (sPar stREADY id 600000000000).tb2 ∧ (sPar stREADY (fun p => { p with lockUntil := 5 }) 5).param.lockUntil ≤ (sPar stREADY id 5).tb2 := by
  decide

theorem witness_StoreCommands : (sHost 0 stREADY 0x12 []).FromPf0 (eHost 0 5 [1, 2]) ∧ (eHost 0 5 [1, 2]).argsIn [(0, 4)] = true ∧
    (eHost 0 5 [1, 2]).hasBuf (eHost 0 5 [1, 2]).len.toNat = true ∧ 5 + (eHost 0 5 [1, 2]).len.toNat ≤ 0x40000 ∧
    (eHost 0 2 [1, 2]).argsIn [(0, 1)] = true ∧ (eHost 0 2 [1, 2]).arg 0 ≤ 2 ∧ (eHost 0 2 [1, 2]).len.toNat ≤ 0x40000 ∧
    (sHost 0 stREADY 0x12 []).st = stREADY ∧ (sHost 0 stSERVING 0x12 []).FromPf0 eBare ∧ (sHost 0 stREADY 0x12 []).dev.reval = none ∧
    (sHost 0 stREADY 0x12 []).flag R.NVM_STATUS_RO = false ∧ (sHost 0 stREADY 0x12 [(R.NVM_STATUS_RO, 1)]).flag R.NVM_STATUS_RO = true ∧
    (sHost 0 stREADY 0x12 []).checkImage (imageOf (sHost 0 stREADY 0x12 []).nvm.staging) ≠ 0 := by decide
/-- COUNTER_ADVANCE of counter 5 to 3, and the increment form. -/
def eCtr (inc : Bool) : SubEntry := eHost 0 (if inc then 2 ^ 63 + 5 else 3 * 2 ^ 64 + 5) []
theorem witness_StoreCommands_counters : (∀ b, (eCtr b).noBuf = true ∧ (eCtr b).args.toNat / 64 % 2 ^ 57 = 0 ∧ (eCtr b).args.toNat / 2 ^ 96 = 0 ∧
    (eCtr b).args.toNat % 64 = 5 ∧ (sHost 0 stREADY 0x12 []).FromPf0 (eCtr b)) ∧ bit (eCtr true).args.toNat 63 = true ∧
    bit (eCtr false).args.toNat 63 = false ∧ (eCtr false).args.toNat / 2 ^ 64 % 2 ^ 32 = 3 ∧
    (∀ v ∈ [2, 3, 4, 0xFFFFFFFF], (sHost 0 stREADY 0x12 [(R.NVM_CTR_VALUE 5, v)]).fld (R.NVM_CTR_VALUE 5) = v ∧
      (sHost 0 stREADY 0x12 [(R.NVM_CTR_VALUE 5, v)]).counterBound 5 = v) := by decide
/-- A loaded program of secure version 9 whose counter is 5: the counter may rise up to 9. -/
def sCtr (v : Nat) : State :=
  let s := sHost 0 stREADY 0x12 [(R.NVM_CTR_VALUE 5, v)]
  { s with jobs := { s.jobs with decl := ⟨[], List.replicate 4 ([], 0, 5), [], []⟩, progs := [{ pRun 0 with secver := 9 }] } }
theorem witness_StoreCommands_bound : (sCtr 2).FromPf0 (eCtr false) ∧ (sCtr 2).counterBound 5 = 9 ∧ (2 : Nat) < 3 ∧ (3 : Nat) ≤ 9 := by decide

/-! ### Witnesses: registers, check-value units and the debug port -/

/-- Whether an offset is that of a register of a width with a field of an access type. -/
def hasAcc (off : Nat) (wide : Bool) (a : Access) : Bool :=
  match regAt off with
  | some (r, 0) => r.wide == wide && r.fields.any (·.acc == a)
  | _ => false
/-- A device in a lifecycle state, with fields of the control window set. -/
def sLcs (n : Nat) (l : List (Fld × Nat)) : State := withFlds ([(R.DEVICE_STATE_STATE, stREADY), (R.KEEP_STATUS_LCS, n)] ++ l) State.reset
theorem witness_RegisterCommands : (sLcs 1 []).st ≠ stTRIPPED ∧ regAt (0x003FF0 : BitVec 22).toNat = none ∧
    hasAcc (0x090000 : BitVec 22).toNat false .rwl = true ∧ hasAcc (0x0B0000 : BitVec 22).toNat false .w1c = true ∧
    hasAcc (0x0B0004 : BitVec 22).toNat false .w1s = true ∧ (∀ o ∈ [0x090000, 0x0B0000, 0x0B0004], State.reset.absent o = false) ∧
    pageOf 0x090000 = 0x09 ∧ pageOf 0x0B0000 = 0x0B ∧ State.reset.regLocked 0x090000 = false ∧
    (sLcs 1 [(R.TAP_LOCK_LOCK, 1)]).regLocked 0x090000 = true ∧ ((0 : Fin 4).val ≠ 2) := by decide
theorem witness_RegisterCommands_half : hasAcc (BitVec.ofNat 22 R.DEVICE_ACCERR).toNat true .ro = true ∧
    State.reset.absent R.DEVICE_ACCERR = false ∧ State.reset.romBytes R.DEVICE_ACCERR 4 = none := by decide
theorem witness_RegisterCommands_reset : (0 : BitVec 16) ≠ 0xB311 ∧ State.reset.dev.stopReq = [] ∧
    (∃ q ∈ ({ State.reset with dev := { State.reset.dev with stopReq := [(.warm, 0)] } } : State).dev.stopReq, q.1 = .warm) ∧
    (withFlds [(R.DEVICE_CAPS_PCIEB, 0)] State.reset).hasPortB = false ∧ State.reset.hasPortB = true ∧
    (∀ p : Fin 2, State.reset.portUp p = false ∧ (sLcs 1 [(R.PCIE_P_PORTSTAT_UP p, 1)]).portUp p = true) := by decide
theorem witness_RegisterCommands_objects : (sLcs 1 []).hasCore 0 = true ∧
    (sLcs 1 []).dbgAllowed 6 = true ∧ (sLcs 1 []).flag (R.CORE_SOBJCFG_PRIV 0 3) = false ∧ (sLcs 2 []).dbgAllowed 6 = false ∧
    (sLcs 1 [(R.CORE_SOBJCFG_PRIV 0 3, 1)]).serving = false ∧
    (sLcs 1 [(R.CORE_SOBJCFG_PRIV 0 3, 1), (R.DEVICE_STATE_STATE, stSERVING)]).serving = true ∧
    (sLcs 1 [(R.CORE_VMAP_VALID 0 0 7, 1), (R.CORE_VMAP_PHYS 0 0 7, 3)]).mapped 0 3 = true ∧ (sLcs 1 []).mapped 0 3 = false := by decide
theorem witness_RegisterCommands_src : (∀ n ∈ [2, 12, 16, 19], (BitVec.ofNat 64 (n * 2 ^ 11)).toNat / 2 ^ 11 % 32 = n) ∧
    ((0x300 : Word).getLsbD 8 = true ∧ (0x300 : Word).getLsbD 9 = true) ∧ ((0x100 : Word).getLsbD 8 = true ∧ (0x100 : Word).getLsbD 9 = false) ∧
    (0x6800 : Word).toNat / 2 ^ 11 % 32 = 13 := by
  decide +kernel
theorem witness_RegisterCommands_maps : (0x80000003 : BitVec 32).getLsbD 31 = true ∧ (3 : BitVec 32).getLsbD 31 = false ∧
    (sLcs 1 []).fld (R.CORE_SOBJCFG_OWNER 0 3) = (0 : Fin 4).val ∧ (sLcs 1 []).fld (R.CORE_SOBJCFG_OWNER 0 3) ≠ (1 : Fin 4).val ∧
    (sLcs 1 []).flag R.BELL_XLOG_VALID = false ∧
    (sLcs 1 []).fld (R.CORE_SOBJ_VALUE 0 ((sLcs 1 []).fld (R.CORE_MBOX_OBJ 0 0))) = 0 ∧
    (sLcs 1 [(R.CORE_SOBJ_VALUE 0 0, 5)]).fld (R.CORE_SOBJ_VALUE 0 ((sLcs 1 [(R.CORE_SOBJ_VALUE 0 0, 5)]).fld (R.CORE_MBOX_OBJ 0 0))) ≠ 0 := by
  decide

/-- Unit 6 with fields of its own set. -/
def sCvu (l : List (Fld × Nat)) : State := sLcs 1 ([(R.CVU_U_CFG_WIDTH 6, 8), (R.CVU_U_POLY_V 6, 0x1D), (R.CVU_U_CFG_AW 6, 0)] ++ l)
theorem witness_CheckValueUnits : (sCvu []).st ≠ stTRIPPED ∧ (sCvu []).flag (R.CVU_U_STAT_OPEN 6) = false ∧
    (sCvu [(R.CVU_U_STAT_OPEN 6, 1)]).flag (R.CVU_U_STAT_OPEN 6) = true ∧ (sCvu []).fld (R.CVU_U_CFG_ALIVE 6) = 0 ∧
    (sCvu [(R.CVU_U_CFG_ALIVE 6, 2), (R.CVU_U_ALIVE_POS 6, 1), (R.CVU_U_POSN_FED 6, 1)]).fld (R.CVU_U_CFG_ALIVE 6) = 2 ∧
    (sCvu [(R.CVU_U_ALIVE_POS 6, 1)]).fld (R.CVU_U_POSN_FED 6) + 1 ≤ (sCvu [(R.CVU_U_ALIVE_POS 6, 1)]).fld (R.CVU_U_ALIVE_POS 6) ∧
    (sCvu [(R.CVU_U_ALIVE_POS 6, 1), (R.CVU_U_POSN_FED 6, 1)]).fld (R.CVU_U_POSN_FED 6) =
      (sCvu [(R.CVU_U_ALIVE_POS 6, 1), (R.CVU_U_POSN_FED 6, 1)]).fld (R.CVU_U_ALIVE_POS 6) ∧
    (sCvu []).fld (R.CVU_U_CFG_DBYTES 6) + 1 = 1 ∧ 2 ^ min 2 ((sCvu []).fld (R.CVU_U_CFG_AW 6)) = 1 ∧ (sCvu []).fld (R.CVU_U_POSN_CAP 6) = 0 := by
  decide
/-- The result of unit 6 at FINISH with nothing to add is its value. -/
theorem witness_CheckValueUnits_expect : ∀ e ∈ [0x55, 0x54],
    let s := sCvu [(R.CVU_U_CFG_EXPEN 6, 1), (R.CVU_U_VALUE_V 6, 0x55), (R.CVU_U_EXPECT_V 6, e)]
    s.flag (R.CVU_U_CFG_EXPEN 6) = true ∧ ((crcOut 8 (s.flag (R.CVU_U_CFG_REFOUT 6)) (s.fld (R.CVU_U_XOROUT_V 6)) (s.fld (R.CVU_U_VALUE_V 6)) % 2 ^ 64 ≠
      s.fld (R.CVU_U_EXPECT_V 6) % 2 ^ 8) ↔ e = 0x54) := by decide
/-- A counter received at each distance from the one before: equal, one on, MAXSTEP on, and past it. -/
theorem witness_CheckValueUnits_alive : ∀ p ∈ [(0, 0), (1, 1), (2, 2), (3, 3), (250, 250)],
    let s := sCvu [(R.CVU_U_CFG_ALIVE 6, 2), (R.CVU_U_CFG_MAXSTEP 6, 2), (R.CVU_U_POSN_FED 6, 1), (R.CVU_U_POSN_CAP 6, p.1)]
    let s : State := { s with cvuSeen := 2 ^ 6 }
    s.fld (R.CVU_U_CFG_ALIVE 6) = 2 ∧ bit s.cvuSeen 6 = true ∧ bit (sCvu []).cvuSeen 6 = false ∧
    ¬ s.fld (R.CVU_U_POSN_FED 6) < s.fld (R.CVU_U_ALIVE_POS 6) + 1 ∧ (sCvu []).fld (R.CVU_U_POSN_FED 6) < (sCvu []).fld (R.CVU_U_ALIVE_POS 6) + 1 ∧
    s.flag (R.CVU_U_CFG_EXPEN 6) = false ∧ max (s.fld (R.CVU_U_CFG_MAXSTEP 6)) 1 = 2 ∧
    (s.fld (R.CVU_U_POSN_CAP 6) + 256 - s.fld (R.CVU_U_ALIVE_COUNT 6) % 256) % 256 = p.2 := by decide
theorem witness_CheckValueUnits_generate : (sCvu [(R.CVU_U_CFG_ALIVE 6, 1)]).fld (R.CVU_U_CFG_ALIVE 6) = 1 := by decide
theorem witness_CheckValueUnits_owner : (∀ w ∈ [7, 8, 64, 65], (BitVec.ofNat 32 (w * 2 ^ 23)).toNat / 2 ^ 23 % 128 = w) ∧
    (sLcs 1 [(R.CVU_LOCK_LOCK, 1)]).flag R.CVU_LOCK_LOCK = true ∧ (sLcs 1 []).flag R.CVU_LOCK_LOCK = false ∧
    (0 : Fin 32).val < 5 ∧ (sLcs 1 []).hasDisp = true ∧ (withFlds [(R.DEVICE_CAPS_DISPTAP, 0)] (sLcs 1 [])).hasDisp = false := by decide

theorem witness_DebugCommands : (∀ n ∈ [0, 1, 3], (sLcs n []).st ≠ stTRIPPED ∧ (sLcs n []).dbgAllowed 3 = true ∧ (sLcs n []).dbgAllowed 5 = true ∧
      (sLcs n []).dbgAllowed 8 = true) ∧
    (∀ n ∈ [2, 4], (sLcs n []).dbgAllowed 3 = false ∧ (sLcs n []).dbgAllowed 5 = false ∧ (sLcs n []).dbgAllowed 8 = false) ∧
    (sLcs 1 []).hasCore 0 = true ∧ (withFlds [(R.DEVICE_CAPS_CORE_MASK, 0)] (sLcs 1 [])).hasCore 0 = false ∧ ((sLcs 1 []).core 0).dbgHalt = false ∧
    ({ sLcs 1 [] with cores := [(0, { Core.reset with dbgHalt := true })] } : State).dbgAllowed 5 = true ∧
    (({ sLcs 1 [] with cores := [(0, { Core.reset with dbgHalt := true })] } : State).core 0).dbgHalt = true ∧
    (sLcs 1 []).flag R.SAFETY_TRIP_TRIPPED = false := by decide
theorem witness_DebugCommands_lines : (∀ n ∈ [1, 4], 1 ≤ (BitVec.ofNat 8 n).toNat ∧ (BitVec.ofNat 8 n).toNat ≤ 4) ∧ (1 : BitVec 8).toNat < 2 ∧
    (7 : BitVec 8).toNat < 8 ∧ (∀ n ∈ [0x22, 0xFF], 0x22 ≤ (BitVec.ofNat 8 n).toNat) ∧ isDram (64 * (sLcs 1 []).fld R.DBG_INJADDR_ADDR) = true := by
  decide

theorem witness_FoldedAliveCounter : (sCvu [(R.CVU_U_CFG_ALIVE 6, 1)]).st ≠ stTRIPPED ∧
    (sCvu [(R.CVU_U_CFG_ALIVE 6, 1)]).fld (R.CVU_U_CFG_ALIVE 6) = 1 := by decide

/-! ### Witnesses: a good bank -/

/-- `n` bytes of 0 with some set. -/
def padBytes (n : Nat) (l : List (Nat × Byte)) : List Byte := l.foldl (fun a p => a.set p.1 p.2) (List.replicate n 0)
def cPart : List Byte := padBytes 280 [(4 + R.PART_BWDRAM_C0_FLOOR.lo / 8, 1), (8 + R.PART_BWNOC_C0_FLOOR.lo / 8, 1), (12 + R.PART_BWPCIE_C0_FLOOR.lo / 8, 1), (273, 60)]
def cTaps : List Byte := padBytes 352 (
  [(192 + (R.TAP_T_CFG_EN 8).off - R.TAP_T_CFG 8 + 3, 0x80), (192 + ((R.TAP_T_GEOM_TOTAL 8).off - R.TAP_T_CFG 8), 1),
   (192 + ((R.TAP_T_TIMING_PTOL 8).off - R.TAP_T_CFG 8) + 2, 0x10), (192 + ((R.TAP_T_TIMING_PTOL 8).off - R.TAP_T_CFG 8), 20)])
/-- The settings that a bank must contain, with no route, no program and no slot. -/
def bankSets : List (Nat × List Byte) :=
  [(0x02, []), (0x03, []), (0x10, []), (0x12, cPart), (0x13, List.replicate 4224 0), (0x14, padBytes 128 []), (0x1A, padBytes 4 []), (0x20, [8, 0, 0, 0]),
   (0x21, cTaps), (0x30, [60, 0, 0, 0]), (0x32, [3, 0, 0, 0, 1, 0, 0, 0x80]), (0x33, [3, 0, 0, 0, 1, 0, 0, 0x80]), (0x34, padBytes 48 []),
   (0x60, padBytes 48 [(16, 1), (40, 1)])]
def bankOf : Nat → List Byte := fun id => ((bankSets.find? (·.1 == id)).map (·.2)).getD []
theorem leNat_zeros (n : Nat) : leNat (List.replicate n 0) = 0 := by
  induction n with
  | zero => rfl
  | succ n ih => rw [List.replicate_succ, leNat, ih]; rfl
theorem leAt_zeros (n off k : Nat) : leAt (List.replicate n 0) off k = 0 := by
  rw [leAt, List.drop_replicate, List.take_replicate, leNat_zeros]
theorem bankOf_slots : ∃ n, bankOf 0x13 = List.replicate n 0 := ⟨4224, rfl⟩
theorem stFld_slots (f : Fld) : stFld bankOf 0x13 f = 0 := by
  obtain ⟨n, hn⟩ := bankOf_slots
  unfold stFld
  split
  · rfl
  · rw [hn, leAt_zeros, Nat.zero_div, Nat.zero_mod]
theorem bank_slots (n : Nat) : slotsOf bankOf n = [] := by
  unfold slotsOf
  simp only [stFld_slots]
  rfl
theorem bank_slotRules : slotRules State.reset bankOf = true := by
  unfold slotRules
  simp only [bank_slots, stFld_slots]
  decide +kernel
theorem bank_power : powerRules State.reset bankOf = true := by
  have h : ((List.range 16).map (slotsOf bankOf)).flatten = [] := by
    rw [show slotsOf bankOf = fun _ => [] from funext bank_slots]; rfl
  unfold powerRules
  rw [h]
  decide +kernel
theorem imgOk_zeros (n : Nat) (p : Nat × Nat) (h : (regAt p.2).isSome = true) : State.reset.imgOk (List.replicate n 0) p = true := by
  obtain ⟨⟨r, b⟩, hr⟩ := Option.isSome_iff_exists.1 h
  simp only [State.imgOk, hr, imgWord, leAt_zeros, Nat.zero_and, Nat.zero_div, Nat.zero_mod]
  simp
theorem bank_each : ∀ p ∈ bankSets, ((match settingLen p.1 with
    | some n => p.2.length == n
    | none => true) && padOk p.1 p.2 && (settingRegs p.1).all (State.reset.imgOk p.2)) = true := by
  have h : ∀ p ∈ bankSets.filter (fun p => p.1 != 0x13), ((match settingLen p.1 with
    | some n => p.2.length == n
    | none => true) && padOk p.1 p.2 && (settingRegs p.1).all (State.reset.imgOk p.2)) = true := by decide +kernel
  have z : ∀ p ∈ bankSets, p.1 = 0x13 → p.2 = List.replicate 4224 0 := by decide +kernel
  have g : ∀ p ∈ settingRegs 0x13, (regAt p.2).isSome = true := by decide +kernel
  intro p hp
  by_cases hq : p.1 = 0x13
  · rw [hq, z p hp hq]
    generalize hn : (4224 : Nat) = n
    have e : settingLen 0x13 = some n := by rw [← hn]; rfl
    simp only [e, padOk, leAt_zeros, List.length_replicate, BEq.rfl, Bool.true_and]
    simp only [Bool.and_eq_true, List.all_eq_true]
    exact ⟨fun _ _ => trivial, fun q hq => imgOk_zeros n q (g q hq)⟩
  · exact h p (List.mem_filter.2 ⟨hp, by simpa using hq⟩)
theorem bank_check7 : State.reset.check7 bankSets = true := by
  have a : regionRules bankOf = true := by decide +kernel
  have b : partRules bankOf = true := by decide +kernel
  have c : routeRules State.reset bankOf = true := by decide +kernel
  have d : tapRules State.reset bankOf = true := by decide +kernel
  have e : otherRules State.reset bankOf (fun id => bankSets.any (·.1 == id)) = true := by decide +kernel
  have f : (noPair (fun a b => a.1 == b.1) bankSets && bankSets.all (fun p => settingIds.contains p.1) &&
      requiredIds.all (fun id => bankSets.any (·.1 == id))) = true := by decide +kernel
  have g := List.all_eq_true.2 bank_each
  simp only [Bool.and_eq_true] at f
  simp only [State.check7, Bool.and_eq_true]
  exact ⟨⟨⟨⟨⟨⟨⟨⟨f, g⟩, a⟩, b⟩, bank_slotRules⟩, c⟩, d⟩, e⟩, bank_power⟩
/-- The table of contents of an image whose contents lie one after the other from an offset. -/
def tocOf : Nat → List (Nat × List Byte) → List Byte
  | _, [] => []
  | off, p :: t => leBytes 4 p.1 ++ leBytes 4 off ++ leBytes 4 p.2.length ++ tocOf (off + p.2.length) t
/-- The signed part of the image, its header and the image: key, secure version 0 and signature are 0. -/
def bankBody : List Byte := tocOf (0x100 + 12 * 14) bankSets ++ (bankSets.map (·.2)).flatten
def bankHead : List Byte := leBytes 4 0x53455453 ++ leBytes 2 1 ++ leBytes 2 14 ++ leBytes 4 0 ++ leBytes 4 (0x100 + bankBody.length) ++
  leBytes 16 0 ++ List.replicate 48 1 ++ leBytes 176 0
@[irreducible] def bankImg : List Byte := bankHead ++ bankBody
theorem bank_image : check3 bankImg = true ∧ bankImg.length ≤ 0x3FFC0 ∧ 16 ≤ bankImg.length ∧ leAt bankImg 0xC 4 = bankImg.length ∧
    (bankImg.drop 0x10).take 16 = List.replicate 16 0 ∧ (bankImg.drop 0x20).take 48 = List.replicate 48 1 ∧ bankImg.drop 0x100 = bankBody ∧
    leAt bankImg 8 4 = 0 := by decide +kernel
theorem bank_settings : settingsOf bankImg = bankSets := by decide +kernel
/-- The image passes the checks where the key, the signature and the digest do. -/
theorem bank_checkImage (s : State) (hc : s.reg R.DEVICE_CAPS = State.reset.reg R.DEVICE_CAPS) (hp : s.jobs.progs = [])
    (hv : s.fld (R.NVM_CTR_VALUE 1) = 0) (hk : Config.settingsKey (List.replicate 16 0) = true)
    (hs : Config.ecdsaOk (List.replicate 16 0) (bankImg.take 0x50) ((bankImg.drop 0x50).take 96) = true)
    (hd : Config.sha384 bankBody = List.replicate 48 1) : s.checkImage bankImg = 0 := by
  obtain ⟨h3, -, -, -, h4, h5, h6, h7⟩ := bank_image
  have h8 := (check7_congr s State.reset bankSets hc hp).trans bank_check7
  have h9 : check4 bankImg = true := by rw [check4, h4, hk, hs]; rfl
  have h10 : check5 bankImg = true := by rw [check5, h5, h6, hd]; exact BEq.rfl
  rw [State.checkImage, h3, h9, h10, bank_settings, h8, h7, hv]
  rfl
theorem bank_imageOf : imageOf (mapPut [] 0 bankImg) = bankImg :=
  imageOf_mapPut _ bank_image.2.2.1 bank_image.2.2.2.1 bank_image.2.1
/-- READY with the image in staging. -/
def sStored : State := { sHost 0 stREADY 0x12 [] with nvm := { State.reset.nvm with staging := mapPut [] 0 bankImg } }
theorem witness_StoreCommands_good (hk : Config.settingsKey (List.replicate 16 0) = true)
    (hs : Config.ecdsaOk (List.replicate 16 0) (bankImg.take 0x50) ((bankImg.drop 0x50).take 96) = true)
    (hd : Config.sha384 bankBody = List.replicate 48 1) : sStored.FromPf0 eBare ∧ eBare.noBuf = true ∧ eBare.argsIn [] = true ∧
    sStored.st = stREADY ∧ sStored.dev.reval = none ∧ sStored.flag R.NVM_STATUS_RO = false ∧ sStored.checkImage (imageOf sStored.nvm.staging) = 0 ∧
    sStored.displayAsked (imageOf sStored.nvm.staging) = false ∧
    (∀ b : Bool, sStored.fld (if b then R.NVM_BANKB_SLOT else R.NVM_BANKA_SLOT) < 6 ∧
      sStored.fld (R.NVM_SLOT_WRITES (sStored.fld (if b then R.NVM_BANKB_SLOT else R.NVM_BANKA_SLOT))) < 1000000) ∧
    max (sStored.fld R.NVM_BANKA_GEN) (sStored.fld R.NVM_BANKB_GEN) + 1 < 2 ^ 32 := by
  refine ⟨by decide, by decide, by decide, by decide, rfl, by decide, ?_, ?_, by decide, by decide⟩
  · rw [show imageOf sStored.nvm.staging = bankImg from bank_imageOf]
    exact bank_checkImage _ (by decide) rfl (by decide) hk hs hd
  · rw [State.displayAsked, show sStored.hasDisp = true by decide]
    rfl
/-- An image whose one setting declares a display C0 route, in the staging of a device without display taps: it fails check 7. -/
def dispSets : List (Nat × List Byte) := [(0x10, padBytes 32 [(0, 8)])]
def dispBody : List Byte := tocOf (0x100 + 12) dispSets ++ (dispSets.map (·.2)).flatten ++ List.replicate 256 0
def dispImg : List Byte := leBytes 4 0x53455453 ++ leBytes 2 1 ++ leBytes 2 1 ++ leBytes 4 0 ++ leBytes 4 (0x100 + dispBody.length) ++
  leBytes 16 0 ++ List.replicate 48 1 ++ leBytes 176 0 ++ dispBody
def sDisp : State :=
  { sHost 0 stREADY 0x12 [(R.DEVICE_CAPS_DISPTAP, 0)] with nvm := { State.reset.nvm with staging := mapPut [] 0 dispImg } }
theorem witness_StoreCommands_display (hk : Config.settingsKey (List.replicate 16 0) = true)
    (hs : Config.ecdsaOk (List.replicate 16 0) (dispImg.take 0x50) ((dispImg.drop 0x50).take 96) = true)
    (hd : Config.sha384 dispBody = List.replicate 48 1) : sDisp.FromPf0 eBare ∧ sDisp.st = stREADY ∧ sDisp.dev.reval = none ∧
    sDisp.flag R.NVM_STATUS_RO = false ∧ sDisp.checkImage (imageOf sDisp.nvm.staging) = 7 ∧
    sDisp.displayAsked (imageOf sDisp.nvm.staging) = true := by
  have e : imageOf sDisp.nvm.staging = dispImg := imageOf_mapPut _ (by decide +kernel) (by decide +kernel) (by decide +kernel)
  have a : check3 dispImg = true ∧ (dispImg.drop 0x10).take 16 = List.replicate 16 0 ∧ (dispImg.drop 0x20).take 48 = List.replicate 48 1 ∧
    dispImg.drop 0x100 = dispBody ∧ leAt dispImg 8 4 = 0 ∧ settingsOf dispImg = dispSets := by decide +kernel
  have f : (noPair (fun a b => a.1 == b.1) dispSets && dispSets.all (fun p => settingIds.contains p.1) &&
      requiredIds.all (fun id => dispSets.any (·.1 == id))) = false := by decide
  refine ⟨by decide, by decide, rfl, by decide, ?_, ?_⟩
  · have h4 : check4 dispImg = true := by rw [check4, a.2.1, hk, hs]; rfl
    have h5 : check5 dispImg = true := by rw [check5, a.2.2.1, a.2.2.2.1, hd]; exact BEq.rfl
    have h7 : sDisp.check7 dispSets = false := by simp only [State.check7, f, Bool.false_and]
    rw [e, State.checkImage, a.1, h4, h5, a.2.2.2.2.1, a.2.2.2.2.2, h7]
    rfl
  · rw [e, State.displayAsked, a.2.2.2.2.2, show sDisp.hasDisp = false by decide]
    decide +kernel
/-- SELFTEST with the image and its marker in the physical slot of bank A. -/
def slotGood : SMap Byte := mapPut (mapPut [] 0 bankImg) 0x3FFC0 (markerBytes 1 bankImg.length (crc32 bankImg))
def sBank (m : SMap Byte) : State := { sSelf 1 with nvm := { State.reset.nvm with slots := [(0, m)] } }
theorem pick_false (s : State) (h : s.checkBank false = 0) (hb : s.checkBank true = 1) : s.validateBanks.2 = some false := by
  simp only [State.validateBanks, h, hb]
  rfl
/-- What the self-tests and the restored counts leave alone, of what check 7 and the choice of a bank read. -/
def bankOffs : List Nat := [R.DEVICE_CAPS, (R.NVM_CTR_VALUE 1).off, (bankSlot false).off, (bankSlot true).off]
def Kept (s t : State) : Prop := (∀ o ∈ bankOffs, t.reg o = s.reg o) ∧ t.jobs = s.jobs ∧ t.nvm = s.nvm ∧ t.param = s.param
theorem Kept.setFld {s t : State} (h : Kept s t) (f : Fld) (v : Nat) (hf : ∀ o ∈ bankOffs, o ≠ f.off) : Kept s (t.setFld f v) :=
  ⟨fun o ho => by rw [State.reg_setFld, if_neg (hf o ho)]; exact h.1 o ho, h.2⟩
theorem Kept.iter {s t : State} (n : Nat) (g : Nat → State → State) (hg : ∀ i t, Kept s t → Kept s (g i t)) (h : Kept s t) :
    Kept s (t.iter n g) := by
  unfold State.iter
  generalize List.range n = l
  induction l generalizing t with
  | nil => exact h
  | cons a l ih => exact ih (hg a t h)
theorem offs_core (o x : Nat) (ho : o ∈ bankOffs) (hx : 0x200000 ≤ x) : o ≠ x := by
  have : ∀ o ∈ bankOffs, o < 0x200000 := by decide
  have := this o ho
  omega
theorem far_core (f : Fld) (hf : 0x200000 ≤ f.off) : ∀ o ∈ bankOffs, o ≠ f.off := fun o ho => offs_core o f.off ho hf
theorem near_core (n : Nat) : ∀ o ∈ bankOffs, o ≠ (fCoreState n).off := fun o ho =>
  (show ∀ o ∈ bankOffs, o ≠ R.DEVICE_CORESTATE by decide) o ho
theorem Kept.modCore {s t : State} (h : Kept s t) (n : Nat) (g : Core → Core) : Kept s (t.modCore n g) := ⟨h.1, h.2.1, h.2.2.1, h.2.2.2⟩
theorem Kept.injTest {s t : State} (h : Kept s t) (l : List InjRec) (n : Nat) : Kept s (t.injTest l n) := by
  have h0 : Kept s (t.scrambleGolden n) := h
  unfold State.injTest
  generalize t.scrambleGolden n = u at h0 ⊢
  generalize injFlagged l n = a
  generalize injControls l n = b
  generalize injPass l n = c
  have h1 := h0.modCore n (fun k => { k with ccfg := injExactF32, cres := [] })
  generalize u.modCore n _ = u at h1 ⊢
  refine (((((h1.setFld _ _ (far_core _ ?_)).setFld _ _ (far_core _ ?_)).setFld _ _ (far_core _ ?_)).setFld _ _ (far_core _ ?_)).setFld _ _
    (far_core _ ?_)) <;>
    (simp only [R.CORE_INJSTAT_RAN, R.CORE_INJSTAT_PASS, R.CORE_INJSTAT_FLAGGED, R.CORE_INJSTAT_MISSED, R.CORE_INJSTAT_CTRL_FAIL,
      R.CORE_INJSTAT]; omega)
theorem Kept.tests {s t : State} (h : Kept s t) (r : SelfTest) : Kept s (t.testCores r) := by
  refine Kept.iter 16 _ (fun n t h => ?_) h
  dsimp only
  have h1 := h.injTest r.inj n
  generalize t.injTest r.inj n = u at h1 ⊢
  generalize selfTestBad r n = b
  split
  · exact h
  · cases b
    · refine h1.setFld _ _ (far_core _ ?_)
      simp only [R.CORE_GOLDSTAT_OK, R.CORE_GOLDSTAT]; omega
    · exact (h1.setFld _ _ (near_core n)).modCore n (fun k => { k with stw := .held })
theorem Kept.dev {s t : State} (h : Kept s t) (d : Dev) : Kept s { t with dev := d } := ⟨h.1, h.2.1, h.2.2.1, h.2.2.2⟩
theorem Kept.channels {s t : State} (h : Kept s t) (r : SelfTest) : Kept s (t.trainChannels r) := by
  unfold State.trainChannels
  generalize t.chTrained r = u
  have h1 := (h.setFld R.MEMC_STATUS_CH_UP u (by decide)).setFld R.MEMC_STATUS_CH_FAILED t.dev.chDead (by decide)
  dsimp only
  generalize (t.setFld R.MEMC_STATUS_CH_UP u).setFld R.MEMC_STATUS_CH_FAILED t.dev.chDead = v at h1 ⊢
  by_cases h : u = 255
  · rw [if_pos h]; exact h1
  · rw [if_neg h]; exact h1.dev _
theorem Kept.after (s : State) (r : SelfTest) (ho : s.TestsOk r) (hr : s.nvm.record = []) : Kept s (s.selfTest r).restoreCounts := by
  have h0 : Kept s s := ⟨fun _ _ => rfl, rfl, rfl, rfl⟩
  have h1 : Kept s (s.selfTest r) := by
    have e : (!s.dev.reduced && s.pairLost r) = false := by rcases ho.2 with h | h <;> simp [h]
    unfold State.selfTest
    rw [if_neg (by rw [ho.1]; decide), if_neg (by rw [e]; decide)]
    refine Kept.setFld ?_ _ _ (by decide)
    have h2 : Kept s (if s.dev.reduced then { s with dev := { s.dev with reduced := false } } else s.trainChannels r) := by
      split
      · exact h0
      · exact h0.channels r
    generalize (if s.dev.reduced then ({ s with dev := { s.dev with reduced := false } } : State) else s.trainChannels r) = t at h2 ⊢
    have h3 : Kept s (t.testCores r).endTests := h2.tests r
    generalize (t.testCores r).endTests = t at h3 ⊢
    split
    · exact h3.setFld _ _ (by decide)
    · exact h3
  unfold State.restoreCounts
  split
  · exact h1
  · rw [h1.2.2.1, hr]
    exact (h1.setFld _ _ (by decide)).setFld _ _ (by decide)
theorem sBank_after (m : SMap Byte) : let s := ((sBank m).selfTest stOk).restoreCounts
    s.reg R.DEVICE_CAPS = State.reset.reg R.DEVICE_CAPS ∧ s.jobs.progs = [] ∧ s.fld (R.NVM_CTR_VALUE 1) = 0 ∧
    s.nvSlot (s.fld (bankSlot false)) = m ∧ s.nvSlot (s.fld (bankSlot true)) = [] ∧ s.param.set = State.reset.param.set := by
  have a : (sSelf 1).reg R.DEVICE_CAPS = State.reset.reg R.DEVICE_CAPS ∧ (sSelf 1).fld (R.NVM_CTR_VALUE 1) = 0 ∧
    (sSelf 1).fld (bankSlot false) = 0 ∧ (sSelf 1).fld (bankSlot true) = 1 := by decide
  obtain ⟨h1, h2, h3, h4⟩ := Kept.after (sBank m) stOk witness_ValidationAndService.1 rfl
  have r := fun o ho => (h1 o ho).trans (show (sBank m).reg o = (sSelf 1).reg o from rfl)
  have f0 : ((sBank m).selfTest stOk).restoreCounts.fld (bankSlot false) = 0 := by
    rw [State.fld, r _ (by simp [bankOffs])]; exact a.2.2.1
  have f1 : ((sBank m).selfTest stOk).restoreCounts.fld (bankSlot true) = 1 := by
    rw [State.fld, r _ (by simp [bankOffs])]; exact a.2.2.2
  refine ⟨(r _ (by simp [bankOffs])).trans a.1, by rw [h2]; rfl, ?_, ?_, ?_, by rw [h4]; rfl⟩
  · rw [State.fld, r _ (by simp [bankOffs])]; exact a.2.1
  · rw [State.nvSlot, h3, f0]; rfl
  · rw [State.nvSlot, h3, f1]; rfl
theorem checkBank_empty (s : State) (h : s.nvSlot (s.fld (bankSlot true)) = []) : s.checkBank true = 1 := by
  have e : markerOf [] = none := by decide
  rw [State.checkBank, h, e]
theorem slotGood_image : imageOf slotGood = bankImg := by
  obtain ⟨-, hl, h16, hn, -⟩ := bank_image
  rw [imageOf, slotGood, mapBytes_mapPut_other _ 0x3FFC0 0xC 4 _ (Or.inl (by decide)),
    mapBytes_mapPut_other _ 0x3FFC0 0 _ _ (Or.inl (by rw [Nat.zero_add]; exact Nat.min_le_right _ _))]
  exact bank_imageOf
theorem slotGood_marker : markerOf slotGood = some (1, bankImg.length, crc32 bankImg) := by
  have h : mapBytes slotGood 0x3FFC0 64 = markerBytes 1 bankImg.length (crc32 bankImg) := by
    have := mapBytes_mapPut (mapPut [] 0 bankImg) 0x3FFC0 0 64 (markerBytes 1 bankImg.length (crc32 bankImg)) (by rw [markerBytes_length])
    rw [Nat.add_zero] at this
    rw [slotGood, this, List.drop_zero, List.take_of_length_le (by rw [markerBytes_length])]
  have hl := bank_image.2.1
  rw [markerOf_markerBytes _ _ _ _ h, Nat.mod_eq_of_lt (show bankImg.length < 256 ^ 4 by omega), Nat.mod_eq_of_lt (show crc32 bankImg < 256 ^ 4 from crc32_lt bankImg)]
  rfl
theorem slotGood_len : leNat (mapBytes slotGood 0xC 4) = bankImg.length := by
  obtain ⟨-, hl, h16, hn, -⟩ := bank_image
  have := mapBytes_mapPut [] 0 0xC 4 bankImg (by omega)
  rw [slotGood, mapBytes_mapPut_other _ 0x3FFC0 0xC 4 _ (Or.inl (by decide)), ← hn, leAt, ← this]
theorem sBank_checkBank (s : State) (hc : s.reg R.DEVICE_CAPS = State.reset.reg R.DEVICE_CAPS) (hp : s.jobs.progs = [])
    (hv : s.fld (R.NVM_CTR_VALUE 1) = 0) (hb : s.nvSlot (s.fld (bankSlot false)) = slotGood) (hset : s.param.set = State.reset.param.set)
    (hk : Config.settingsKey (List.replicate 16 0) = true)
    (hs : Config.ecdsaOk (List.replicate 16 0) (bankImg.take 0x50) ((bankImg.drop 0x50).take 96) = true)
    (hd : Config.sha384 bankBody = List.replicate 48 1) (hq : Config.sha384 State.reset.param.set = List.replicate 48 0) :
    s.checkBank false = 0 := by
  have h34 : (bankSets.find? (·.1 == 0x34)).map (·.2) = some (List.replicate 48 0) := by decide +kernel
  have h := bank_checkImage s hc hp hv hk hs hd
  rw [State.checkBank, hb, slotGood_marker]
  simp only [slotGood_len, slotGood_image, h, bank_settings, h34, hset, hq, ne_eq, not_true_eq_false, or_self, if_false]
theorem witness_ValidationAndService_setOk (hk : Config.settingsKey (List.replicate 16 0) = true)
    (hs : Config.ecdsaOk (List.replicate 16 0) (bankImg.take 0x50) ((bankImg.drop 0x50).take 96) = true)
    (hd : Config.sha384 bankBody = List.replicate 48 1) (hq : Config.sha384 State.reset.param.set = List.replicate 48 0) :
    (sBank slotGood).Canonical ∧ (sBank slotGood).st = stSELFTEST ∧ (sBank slotGood).TestsOk stOk ∧ (sBank slotGood).fld R.KEEP_STATUS_LCS = 1 ∧
    (((sBank slotGood).selfTest stOk).restoreCounts.validateBanks).2 = some false := by
  obtain ⟨h1, h2, h3, h4, h5, h6⟩ := sBank_after slotGood
  exact ⟨witness_ValidationAndService.2.1, witness_ValidationAndService.2.2.1, witness_ValidationAndService.1,
    witness_ValidationAndService.2.2.2.1, pick_false _ (sBank_checkBank _ h1 h2 h3 h4 h6 hk hs hd hq) (checkBank_empty _ h5)⟩

end Sys2Proof.Tests
end

section
/-! SUPPORT. Predicate registers, and what taking an exception, ECALL, BREAK and ERET do to the Steward (R212, R233, R234,
R247–R251). -/
namespace Sys2Proof.Machine

/-! ### Predicate registers (R212) -/

/-- A predicate register after a write of one: p0 reads 1 whatever is written. -/
theorem Core.preg_setP (k : Core) (r q : Nat) (v : Bool) (hr : r < 8) (hq : q < 8) :
    (k.setP r v).preg q = if q = 0 then true else if q = r then v else k.preg q := by
  have hmask : (1#8 <<< r).getLsbD q = decide (q = r) := by
    change (BitVec.twoPow 8 r).getLsbD q = _
    simp [BitVec.getLsbD_twoPow, hr, eq_comm]
  by_cases hq0 : q = 0
  · simp [Core.preg, hq0]
  · by_cases hr0 : r = 0
    · simp [Core.setP, hq0, hr0]
    · cases v with
      | true =>
        simp only [Core.preg, Core.setP, hr0, if_false, if_true, BitVec.getLsbD_or, hmask]
        by_cases h : q = r <;> simp [h, hq0, hr0]
      | false =>
        simp only [Core.preg, Core.setP, hr0, if_false, Bool.false_eq_true, BitVec.getLsbD_and, BitVec.getLsbD_not, hmask, hq]
        by_cases h : q = r <;> simp [h, hq0, hr0]

/-! ### Entering a handler (R251) -/

/-- A trace record writes no register while the core is not traced. -/
theorem State.traceRec_untraced {s : State} {c : Nat} (h : bit (s.fld R.DBG_TRACECFG_CORES) c = false) (kind val : Nat) :
    s.traceRec c kind val = s := by
  simp [State.traceRec, h]

@[simp] theorem State.traceRec_fab (s : State) (c kind val : Nat) : (s.traceRec c kind val).fab = s.fab := by
  unfold State.traceRec
  dsimp only
  split_ifs <;> rfl

@[simp] theorem State.traceRec_mem (s : State) (c kind val : Nat) : (s.traceRec c kind val).mem = s.mem :=
  ((Apart.refl s).traceRec c kind val).mem

@[simp] theorem State.core_traceRec (s : State) (c kind val n : Nat) : (s.traceRec c kind val).core n = s.core n :=
  ((Apart.refl s).traceRec c kind val).core n

/-- An exception is entered unless it arises at M inside a handler of M. -/
theorem State.takeExc_enter {s : State} {c : Nat} {l : Priv} (h : l = .m → (s.core c).inExc .m = false) (e : Exc) (epc : Word) :
    s.takeExc c l e epc = (s.traceRec c 2 e.code).modCore c (fun k => k.enter l e epc) := by
  unfold State.takeExc
  dsimp only
  rw [if_neg]
  rintro ⟨hl, hm⟩
  rw [State.core_traceRec, h hl] at hm
  cases hm

/-- A second exception at M inside a handler of M restarts the core. -/
theorem State.takeExc_restart {s : State} {c : Nat} (h : (s.core c).inExc .m = true) (e : Exc) (epc : Word) :
    s.takeExc c .m e epc = (s.traceRec c 2 e.code).coreFault c 0x31 := by
  unfold State.takeExc
  dsimp only
  rw [if_pos ⟨rfl, by rw [State.core_traceRec, h]⟩]

@[simp] theorem Core.enter_s (k : Core) (l : Priv) (e : Exc) (epc : Word) : (k.enter l e epc).s = k.s := by simp [Core.enter]
@[simp] theorem Core.enter_p (k : Core) (l : Priv) (e : Exc) (epc : Word) : (k.enter l e epc).p = k.p := by simp [Core.enter]
@[simp] theorem Core.enter_priv (k : Core) (l : Priv) (e : Exc) (epc : Word) : (k.enter l e epc).priv = l := rfl
@[simp] theorem Core.enter_pc (k : Core) (l : Priv) (e : Exc) (epc : Word) :
    (k.enter l e epc).pc = k.rdCsr (excBase l + 4) := rfl
@[simp] theorem Core.enter_stw (k : Core) (l : Priv) (e : Exc) (epc : Word) : (k.enter l e epc).stw = .run := rfl
@[simp] theorem Core.sreg_enter (k : Core) (l : Priv) (e : Exc) (epc : Word) (q : Nat) :
    (k.enter l e epc).sreg q = k.sreg q := by
  rw [Core.sreg, Core.sreg, Core.enter_s]

/-- The control and status registers of a core that enters a handler. -/
theorem Core.rdCsr_enter (k : Core) (l : Priv) (e : Exc) (epc : Word) (n : Nat) :
    (k.enter l e epc).rdCsr n =
      if n = excBase l + 3 then e.val else if n = excBase l + 2 then epc else if n = excBase l + 1 then e.cause
      else if n = excBase l then excStat k l else k.rdCsr n := by
  have h : (k.enter l e epc).csr = ((((k.wrCsr (excBase l) (excStat k l)).wrCsr (excBase l + 1) e.cause).wrCsr
      (excBase l + 2) epc).wrCsr (excBase l + 3) e.val).csr := rfl
  rw [Core.rdCsr, h, ← Core.rdCsr]
  simp only [Core.rdCsr_wrCsr]

/-- The status word at entry as a number (R251). -/
theorem excStat_toNat (k : Core) (l : Priv) : (excStat k l).toNat = k.priv.code * 16 + (if k.ie l then 4 else 0) + 1 := by
  have hc : k.priv.code ≤ 2 := by cases k.priv <;> decide
  rw [excStat, BitVec.toNat_ofNat, Nat.mod_eq_of_lt]
  split <;> omega

/-- The cause word as a number (R221). -/
theorem Exc.cause_toNat (e : Exc) :
    e.cause.toNat = (if e.isAsync then 2 ^ 31 else 0) + e.status % 256 * 65536 + e.engines % 256 * 256 + e.code % 256 := by
  rw [Exc.cause, BitVec.toNat_ofNat, Nat.mod_eq_of_lt]
  split <;> omega

/-- Each field of the cause word (R221). -/
theorem Exc.cause_fields (e : Exc) :
    e.cause.getLsbD 31 = e.isAsync ∧ e.cause.toNat / 65536 % 256 = e.status % 256 ∧
    e.cause.toNat / 256 % 256 = e.engines % 256 ∧ e.cause.toNat % 256 = e.code % 256 := by
  rw [← BitVec.testBit_toNat, Nat.testBit_eq_decide_div_mod_eq, Exc.cause_toNat]
  cases e.isAsync with
  | false => simp only [Bool.false_eq_true, if_false, decide_eq_false_iff_not]; omega
  | true => simp only [if_true, decide_eq_true_eq]; omega

/-! ### ECALL, BREAK and pending events (R233, R247–R249) -/

@[simp] theorem exec_ecall (c : CoreId) (f : IFields) (s : State) : exec (.ecall c f) s = execEcall c f s := rfl
@[simp] theorem exec_brk (c : CoreId) (f : IFields) (s : State) : exec (.brk c f) s = execBreak c f s := rfl
@[simp] theorem exec_eret (c : CoreId) (f : IFields) (s : State) : exec (.eret c f) s = execEret c f s := rfl
@[simp] theorem exec_takeException (c : CoreId) (s : State) : exec (.takeException c) s = execTakeException c s := rfl
@[simp] theorem exec_unlistedInstruction (c : CoreId) (f : IFields) (s : State) :
    exec (.unlistedInstruction c f) s = execUnlistedInstruction c f s := rfl

/-- An exception with EPC the next instruction, at the level of R247, with the instruction counted. -/
theorem State.raiseNext_eq {s : State} {c : Nat} {k : Core} (hp : (s.core c).priv = k.priv) (hpc : (s.core c).pc = k.pc)
    (e : Exc) (len : Nat) :
    s.raiseNext c e len = (s.modCore c Core.retire).takeExc c k.priv.up e (k.pc + w64 len) := by
  simp [State.raiseNext, State.raise, Core.retire, hp, hpc]

/-- The first event that may be taken is taken with EPC the present pc. -/
theorem State.takePending_some {s : State} {c : Nat} {l : Priv} {e : Exc} {q : Core} (h : s.nextEvent c = some (l, e, q)) :
    s.takePending c = some ((s.setCore c q).takeExc c l e q.pc) := by
  simp [State.takePending, h]

/-- ECALL at a boundary. -/
theorem execEcall_ready {s : State} {c : CoreId} {f : IFields} (h : s.Ready c f .u true) (hx : f.hasExt = false) :
    let s1 := s.modCore c Core.fetched
    execEcall c f s = .next (((if (s.core c).priv = .u ∧ f.imm8 = 0 then
      s1.modCore c (fun q => { q with slot := q.slot.map (fun r => { r with exited := true }) }) else s1).modCore c
        Core.retire).takeExc c (s.core c).priv.up (.sync 0x0B (w64 f.imm8)) ((s.core c).pc + 4)) := by
  dsimp only
  rw [execEcall, State.runInstr_ready h (by simp [hx])]
  simp only [State.settle, State.core_modCore, if_true, Core.fetched_priv]
  by_cases hexit : (s.core c).priv = .u ∧ f.imm8 = 0
  · rw [if_pos hexit, State.raiseNext_eq (k := s.core c) (by simp) (by simp)]
    rfl
  · rw [if_neg hexit, State.raiseNext_eq (k := s.core c) (by simp) (by simp)]
    rfl

/-- BREAK at a boundary, without a debugger. -/
theorem execBreak_detached {s : State} {c : CoreId} {f : IFields} (h : s.Ready c f .u true) (hx : f.hasExt = false)
    (hd : s.flag R.DBG_STATUS_ATTACHED = false) :
    execBreak c f s = .next (((s.modCore c Core.fetched).modCore c Core.retire).takeExc c (s.core c).priv.up (.sync 0x0C)
      ((s.core c).pc + 4)) := by
  have hd' : (s.modCore c Core.fetched).flag R.DBG_STATUS_ATTACHED = false := hd
  rw [execBreak, State.runInstr_ready h (by simp [hx])]
  simp only [hd', Bool.false_and, Bool.false_eq_true, if_false, State.settle]
  rw [State.raiseNext_eq (k := s.core c) (by simp) (by simp)]
  rfl

/-- BREAK at a boundary, with a debugger attached and allowed: the core halts at the next instruction (R782). -/
theorem execBreak_attached {s : State} {c : CoreId} {f : IFields} (h : s.Ready c f .u true) (hx : f.hasExt = false)
    (hd : s.flag R.DBG_STATUS_ATTACHED = true) (ha : s.dbgAllowed 5 = true) :
    execBreak c f s = .next (((s.modCore c Core.fetched).advance c ((s.core c).pc + 4)).debugHalt c) := by
  have hd' : (s.modCore c Core.fetched).flag R.DBG_STATUS_ATTACHED = true := hd
  have ha' : (s.modCore c Core.fetched).dbgAllowed 5 = true := ha
  rw [execBreak, State.runInstr_ready h (by simp [hx])]
  simp [hd', ha', State.settle]

/-- RAW, DEVELOP and RETURN allow a debug halt (R780). -/
theorem State.dbgAllowed_halt {s : State}
    (h : s.fld R.KEEP_STATUS_LCS = 0 ∨ s.fld R.KEEP_STATUS_LCS = 1 ∨ s.fld R.KEEP_STATUS_LCS = 3) : s.dbgAllowed 5 = true := by
  rw [State.dbgAllowed]
  rcases h with h | h | h <;> rw [h] <;> decide

/-- Bit `i` of a number with bit `i` set. -/
theorem setBit_div_mod (x i : Nat) : setBit x i / 2 ^ i % 2 = 1 := by
  unfold setBit bit
  split
  case isTrue h => simpa using h
  case isFalse h =>
    have h0 : x / 2 ^ i % 2 ≠ 1 := by simpa using h
    rw [Nat.add_div_right _ (Nat.two_pow_pos i)]
    omega

/-- A bit of a field is a field of its own. -/
theorem State.fld_bit (s : State) (f : Fld) (i : Nat) (hi : i < f.w) :
    s.fld ⟨f.off, f.lo + i, 1⟩ = s.fld f / 2 ^ i % 2 := by
  obtain ⟨d, hd⟩ := Nat.exists_eq_add_of_lt hi
  simp only [State.fld, Fld.get]
  rw [hd, Nat.pow_add 2 f.lo i, ← Nat.div_div_eq_div_mul, Nat.add_assoc, Nat.pow_add 2 i, Nat.mod_mul_right_div_self,
    Nat.pow_succ' (n := d), Nat.mod_mul_right_mod, Nat.pow_one]

/-- A bit of a field reads 1 once it is set. -/
theorem State.flag_fldBitSet (s : State) (f : Fld) (i : Nat) (hf : f.lo + f.w ≤ 64) (hi : i < f.w) :
    (s.fldBitSet f i).flag ⟨f.off, f.lo + i, 1⟩ = true := by
  obtain ⟨d, hd⟩ := Nat.exists_eq_add_of_lt hi
  rw [State.flag, State.fld_bit _ f i hi, State.fldBitSet, State.fld_setFld s f _ hf, hd, Nat.add_assoc, Nat.pow_add 2 i,
    Nat.mod_mul_right_div_self, Nat.pow_succ', Nat.mod_mul_right_mod, setBit_div_mod]
  rfl

/-! ### ERET (R234) -/

/-- A core at ERET once INEXC of its level is clear and the instruction is counted (R221, R234). -/
def Core.eretClear (k : Core) : Core := (k.wrCsr (excBase k.priv) (k.rdCsr (excBase k.priv) &&& ~~~1)).retire

/-- A core that returns from its handler of level `l`: level, interrupt enable and pc as the registers of `l` hold them (R234). -/
def Core.eretReturn (k : Core) (l : Priv) : Core :=
  { k.wrCsr (excBase l) ((k.rdCsr (excBase l) &&& ~~~2) ||| (if (k.rdCsr (excBase l)).getLsbD 2 then 2 else 0)) with
    priv := Priv.ofCode ((k.rdCsr (excBase l)).toNat / 16 % 4), pc := k.rdCsr (excBase l + 2), stw := .run }

/-- ERET with an asynchronous exception pending for its level takes it. -/
theorem State.eret_async {s : State} {c : Nat} {l : Priv} {e : Exc} {q : Core}
    (h : ((s.modCore c Core.eretClear).events c).find? (fun v => v.1 == (s.core c).priv && v.2.1.code < 0x40) = some (l, e, q)) :
    s.eret c = ((s.modCore c Core.eretClear).setCore c q).takeExc c (s.core c).priv e
      (((s.modCore c Core.eretClear).core c).rdCsr (excBase (s.core c).priv + 2)) := by
  unfold State.eret
  dsimp only
  split
  case h_1 h' => cases h'.symm.trans h; rfl
  case h_2 h' => cases h'.symm.trans h

/-- ERET with none pending returns. -/
theorem State.eret_return {s : State} {c : Nat}
    (h : ((s.modCore c Core.eretClear).events c).find? (fun v => v.1 == (s.core c).priv && v.2.1.code < 0x40) = none) :
    s.eret c = (s.modCore c Core.eretClear).modCore c (fun k => k.eretReturn (s.core c).priv) := by
  unfold State.eret
  dsimp only
  split
  case h_1 h' => cases h'.symm.trans h
  case h_2 => rfl

/-- The base of an exception set is not INSTRET, and neither is its EPC. -/
theorem excBase_ne_instret (l : Priv) : excBase l ≠ 0x21 ∧ excBase l + 2 ≠ 0x21 := by cases l <;> decide

/-- The control and status registers once INEXC is clear and the instruction counted. -/
theorem Core.rdCsr_eretClear (k : Core) (n : Nat) :
    k.eretClear.rdCsr n = if n = 0x21 then k.rdCsr 0x21 + 1 else if n = excBase k.priv then k.rdCsr n &&& ~~~1 else k.rdCsr n := by
  have h21 := (excBase_ne_instret k.priv).1.symm
  simp only [Core.eretClear, Core.retire, Core.rdCsr_wrCsr, h21, if_false]
  split_ifs with h1 h2
  · rfl
  · rw [h2]
  · rfl

/-- The control and status registers of a core that returns. -/
theorem Core.rdCsr_eretReturn (k : Core) (l : Priv) (n : Nat) :
    (k.eretReturn l).rdCsr n = if n = excBase l then
      (k.rdCsr (excBase l) &&& ~~~2) ||| (if (k.rdCsr (excBase l)).getLsbD 2 then 2 else 0) else k.rdCsr n := by
  change (k.wrCsr _ _).rdCsr n = _
  exact Core.rdCsr_wrCsr _ _ _ _

/-- Clearing bit 0 leaves the bits from bit 4 on. -/
theorem toNat_and_not_one_div (x : Word) : (x &&& ~~~1).toNat / 16 = x.toNat / 16 := by
  have h : (x &&& ~~~1) >>> 4 = x >>> 4 := by
    ext i hi
    have hone : (1 : Word).getLsbD (4 + i) = false := by simp
    by_cases h64 : 4 + i < 64
    · simp only [BitVec.getElem_ushiftRight, BitVec.getLsbD_and, BitVec.getLsbD_not, hone, h64]
      simp
    · rw [BitVec.getElem_ushiftRight, BitVec.getElem_ushiftRight, BitVec.getLsbD_of_ge _ _ (by omega),
        BitVec.getLsbD_of_ge _ _ (by omega)]
  simpa [Nat.shiftRight_eq_div_pow] using congrArg BitVec.toNat h

/-- The level that PPRIV names. -/
theorem Priv.ofCode_eq (n : Nat) : Priv.ofCode n = match n with
    | 0 => .u
    | 1 => .s
    | _ => .m := by
  match n with
  | 0 => rfl
  | 1 => rfl
  | n + 2 => rfl

section
variable {k : Core} {l : Priv} (hl : k.priv = l)
include hl

/-- The level after a return is that of PPRIV. -/
theorem Core.priv_eret : (k.eretClear.eretReturn l).priv = Priv.ofCode ((k.rdCsr (excBase l)).toNat / 16 % 4) := by
  subst hl
  have h21 := (excBase_ne_instret k.priv).1
  change Priv.ofCode ((k.eretClear.rdCsr (excBase k.priv)).toNat / 16 % 4) = _
  rw [Core.rdCsr_eretClear, if_neg h21, if_pos rfl, toNat_and_not_one_div]

/-- The pc after a return is EPC (log entry 173). -/
theorem Core.pc_eret : (k.eretClear.eretReturn l).pc = k.rdCsr (excBase l + 2) := by
  subst hl
  change k.eretClear.rdCsr (excBase k.priv + 2) = _
  rw [Core.rdCsr_eretClear, if_neg (excBase_ne_instret k.priv).2, if_neg (by omega)]

/-- The status word after a return. -/
theorem Core.rdCsr_eret_status : (k.eretClear.eretReturn l).rdCsr (excBase l) =
    (k.rdCsr (excBase l) &&& ~~~1 &&& ~~~2) ||| (if (k.rdCsr (excBase l)).getLsbD 2 then 2 else 0) := by
  subst hl
  have h21 := (excBase_ne_instret k.priv).1
  rw [Core.rdCsr_eretReturn, if_pos rfl, Core.rdCsr_eretClear, if_neg h21, if_pos rfl]
  simp

/-- No handler of its level runs after a return. -/
theorem Core.inExc_eret : (k.eretClear.eretReturn l).inExc l = false := by
  rw [Core.inExc, Core.rdCsr_eret_status hl]
  split <;> simp

/-- The interrupt enable after a return is PIE. -/
theorem Core.ie_eret : (k.eretClear.eretReturn l).ie l = (k.rdCsr (excBase l)).getLsbD 2 := by
  rw [Core.ie, Core.rdCsr_eret_status hl]
  split <;> simp_all

end

/-- A return counts one instruction. -/
theorem Core.instret_eret (k : Core) (l : Priv) : (k.eretClear.eretReturn l).rdCsr 0x21 = k.rdCsr 0x21 + 1 := by
  rw [Core.rdCsr_eretReturn, if_neg (excBase_ne_instret l).1.symm, Core.rdCsr_eretClear, if_pos rfl]

/-- A return leaves the scalar registers. -/
theorem Core.sreg_eret (k : Core) (l : Priv) (q : Nat) : (k.eretClear.eretReturn l).sreg q = k.sreg q := by
  simp [Core.sreg, Core.eretReturn, Core.eretClear, Core.retire]

section
variable {s : State} {c : CoreId} {f : IFields}

/-- The state in which ERET looks for an asynchronous exception: fetched, INEXC of its level clear, the instruction counted. -/
def State.eretStart (s : State) (c : Nat) : State :=
  (s.modCore c Core.fetched).modCore c (fun q => { q with csr := ((q.wrCsr (excBase (s.core c).priv)
    (q.rdCsr (excBase (s.core c).priv) &&& ~~~1)).wrCsr 0x21 (q.rdCsr 0x21 + 1)).csr })

/-- It is the fetched state with `Core.eretClear` of the core. -/
theorem State.eretStart_eq : s.eretStart c = (s.modCore c Core.fetched).modCore c Core.eretClear := by
  have h21 := (excBase_ne_instret (s.core c).priv).1.symm
  have hcore : (s.modCore c Core.fetched).core c = (s.core c).fetched := by simp
  refine congrArg (State.setCore _ c) ?_
  rw [hcore, Core.eretClear, Core.retire, Core.rdCsr_wrCsr, Core.fetched_priv, if_neg h21]
  rfl

/-- ERET at a boundary. -/
theorem execEret_ready (h : s.Ready c f .s true) (hx : f.hasExt = false) :
    execEret c f s = .next ((s.modCore c Core.fetched).eret c) := by
  rw [execEret, State.runInstr_ready h (by simp [hx])]
  rfl

/-- ERET with an asynchronous exception pending takes it with EPC unchanged. -/
theorem execEret_async (h : s.Ready c f .s true) (hx : f.hasExt = false) {l : Priv} {e : Exc} {q : Core}
    (hf : ((s.eretStart c).events c).find? (fun v => v.1 == (s.core c).priv && v.2.1.code < 0x40) = some (l, e, q)) :
    execEret c f s = .next (((s.eretStart c).setCore c q).takeExc c (s.core c).priv e
      ((s.core c).rdCsr (excBase (s.core c).priv + 2))) := by
  have hp : ((s.modCore c Core.fetched).core c).priv = (s.core c).priv := by simp
  have h21 := (excBase_ne_instret (s.core c).priv).2
  rw [State.eretStart_eq] at hf ⊢
  rw [execEret_ready h hx, State.eret_async (by rw [hp]; exact hf), hp]
  simp [Core.rdCsr_eretClear, h21]

/-- ERET with none pending returns. -/
theorem execEret_return (h : s.Ready c f .s true) (hx : f.hasExt = false)
    (hn : ∀ v ∈ (s.eretStart c).events c, v.1 = (s.core c).priv → 0x40 ≤ v.2.1.code) :
    execEret c f s = .next ((s.eretStart c).modCore c (fun k => k.eretReturn (s.core c).priv)) := by
  have hp : ((s.modCore c Core.fetched).core c).priv = (s.core c).priv := by simp
  rw [State.eretStart_eq] at hn ⊢
  rw [execEret_ready h hx, State.eret_return, hp]
  rw [hp, List.find?_eq_none]
  intro v hv
  simpa using hn v hv

end

/-! ### The obligations -/

/-- Settles O5. -/
theorem predicateRegisters : Obligations.PredicateRegisters := by
  unfold Obligations.PredicateRegisters
  intro k r q v hr hq
  refine ⟨rfl, rfl, fun hr0 => ?_⟩
  rw [Core.preg_setP k r q v hr hq]
  by_cases hq0 : q = 0
  · subst hq0
    rw [if_pos rfl, if_neg (Ne.symm hr0)]
    rfl
  · rw [if_neg hq0]

/-- Settles O14: taking an exception by the rules of `Core.enter`, the commands by what each does once the Steward is ready. -/
theorem exceptions : Obligations.Exceptions := by
  unfold Obligations.Exceptions
  refine ⟨fun c l e epc s _ => ⟨fun hm => ?_, ?_⟩, fun c f s => ⟨fun h hx => ⟨?_, ?_, ?_⟩, ?_, ?_, fun h hx => ⟨?_, ?_⟩⟩⟩
  -- the handler is entered
  · have hcore : (s.takeExc c l e epc).core c = (s.core c).enter l e epc := by simp [State.takeExc_enter hm]
    have hcsr := (s.core c).rdCsr_enter l e epc
    have hbase : (if l = .m then 0x10 else 0x08) = excBase l := rfl
    have hcause : ((s.core c).enter l e epc).rdCsr (excBase l + 1) = e.cause := by simp [hcsr]
    obtain ⟨hasync, hstatus, hengines, hcode⟩ := e.cause_fields
    simp only [hbase, hcore, hcause, hasync, hstatus, hengines, hcode, true_and]
    simp only [Core.enter_priv, Core.enter_pc, Core.enter_stw, Core.enter_p, Core.sreg_enter, implies_true, true_and]
    refine ⟨?_, ?_, ?_, fun n hn => ?_, ?_, fun htr => ?_, ?_, fun d hd => ?_⟩
    · rw [hcsr, if_neg (by omega), if_neg (by omega), if_neg (by omega), if_pos rfl, excStat_toNat]
      rfl
    · simp [hcsr]
    · simp [hcsr]
    · rw [hcsr, if_neg (by omega), if_neg (by omega), if_neg (by omega), if_neg (by omega)]
    · simp [State.takeExc_enter hm]
    · rw [State.takeExc_enter hm, State.traceRec_untraced htr, State.modCore_regs]
    · simp [State.takeExc_enter hm]
    · simp [State.takeExc_enter hm, hd]
  -- a second exception at M
  · rintro rfl hm
    exact State.takeExc_restart hm e epc
  -- ECALL, and BREAK without and with a debugger
  · rw [exec_ecall, execEcall_ready h hx]
    rfl
  · intro hd
    rw [exec_brk, execBreak_detached h hx hd]
    rfl
  · intro hd hlcs
    refine ⟨_, (exec_brk c f s).trans (execBreak_attached h hx hd (State.dbgAllowed_halt hlcs)), ?_, ?_, ?_⟩
    · simp [State.debugHalt, State.fldBitSet]
    · simp [State.debugHalt, State.fldBitSet, State.advance_core]
    · exact State.flag_fldBitSet _ R.DBG_STATUS_HALTED c (by decide) c.isLt
  -- an unlisted word
  · intro hb hs hn hf
    rw [exec_unlistedInstruction, execUnlistedInstruction, State.runInstr_illegal hb hs hn hf]
    rfl
  -- TAKE_EXCEPTION
  · intro l e q hd hs hn
    rw [exec_takeException, execTakeException, if_pos (by simp [Core.mayInterrupt, hd, hs]), State.takePending_some hn]
    rfl
  -- ERET, with an asynchronous exception pending and with none
  · exact fun l e q hf => execEret_async h hx hf
  · intro hn
    have hcore : ((s.eretStart c).modCore c (fun k => k.eretReturn (s.core c).priv)).core c =
        (s.core c).fetched.eretClear.eretReturn (s.core c).priv := by simp [State.eretStart_eq]
    have hpriv : (s.core c).fetched.priv = (s.core c).priv := Core.fetched_priv _
    refine ⟨_, execEret_return h hx hn, ?_⟩
    simp only [hcore, Core.pc_eret hpriv, Core.inExc_eret hpriv, Core.ie_eret hpriv, Core.instret_eret, Core.sreg_eret,
      Core.rdCsr_fetched, Core.sreg_fetched, implies_true, true_and]
    refine ⟨?_, rfl, rfl, rfl, rfl⟩
    rw [Core.priv_eret hpriv, Core.rdCsr_fetched]
    exact Priv.ofCode_eq _

end Sys2Proof.Machine
end

section
/-! SUPPORT. FINISH of a check-value unit with a folded alive counter (R527, R529, R535, R537): the write of CMD reaches the unit,
the counter's bytes are fed before the result is shown, and neither the comparison nor its event changes what was shown. -/
namespace Sys2Proof.Machine

/-! ### A write of CMD (R532) -/

/-- The CMD offset of a unit names a 32-bit register at its first byte. -/
theorem regAt_cvuCmd (u : Fin 32) : ∃ r, regAt (R.CVU_U_CMD u) = some (r, 0) ∧ r.wide = false := by
  have h : ∀ u : Fin 32, (regAt (R.CVU_U_CMD u)).map (fun p => (p.1.wide, p.2)) = some (false, 0) := by decide
  obtain ⟨⟨r, b⟩, hr, hb⟩ := Option.map_eq_some_iff.1 (h u)
  obtain ⟨hw, rfl⟩ := Prod.mk.inj hb
  exact ⟨r, hr, hw⟩

/-- CMD lies on the CVU page. -/
theorem pageOf_cvuCmd (u : Fin 32) : pageOf (R.CVU_U_CMD u) = 8 := by
  have hu := u.isLt
  unfold pageOf R.CVU_U_CMD
  omega

/-- The register at a unit's CMD offset runs the commands written. -/
theorem State.writeReg_cvuCmd (s : State) (m : Master) (u : Fin 32) (fs : List FieldRow) (v bits : BitVec 64) :
    s.writeReg m (R.CVU_U_CMD u) fs v bits = (s.cvuCmd u v.toNat, false) := by
  have hle : R.CVU_U_CFG 0 ≤ R.CVU_U_CMD u := by unfold R.CVU_U_CFG R.CVU_U_CMD; omega
  have hunit : (R.CVU_U_CMD u - R.CVU_U_CFG 0) / 0x80 = u := by unfold R.CVU_U_CFG R.CVU_U_CMD; omega
  have hoff : (R.CVU_U_CMD u - R.CVU_U_CFG 0) % 0x80 = 0x3C := by unfold R.CVU_U_CFG R.CVU_U_CMD; omega
  unfold State.writeReg
  simp only [pageOf_cvuCmd, if_pos hle, hunit, hoff]
  rfl

/-- No variant lacks the check-value units. -/
theorem State.absent_cvuCmd (s : State) (u : Fin 32) : s.absent (R.CVU_U_CMD u) = false := by
  have hp : R.CVU_U_CMD u / 0x10000 = 8 := pageOf_cvuCmd u
  unfold State.absent
  simp [hp]

/-- Firmware at M that writes CMD outside TRIPPED starts what the word says. -/
theorem State.put_cvuCmd {s : State} (h : s.st ≠ stTRIPPED) (n a : Nat) (u : Fin 32) {v : Nat} (hv : v < 2 ^ 32) :
    s.put (.core n a .m) (R.CVU_U_CMD u) 4 v = s.cvuCmd u v := by
  obtain ⟨r, hr, hw⟩ := regAt_cvuCmd u
  have hx : (BitVec.ofNat 64 v &&& 0xFFFFFFFF).toNat = v := by
    rw [BitVec.toNat_and, BitVec.toNat_ofNat, Nat.mod_eq_of_lt (by omega)]
    exact Nat.and_two_pow_sub_one_of_lt_two_pow hv
  have hgate : s.writeGate (.core n a .m) (R.CVU_U_CMD u) = .ok := rfl
  simp only [State.put, State.ctlWrite, hgate, State.absent_cvuCmd, State.regWrite, hr, hw, Bool.not_false, Bool.false_eq_true,
    if_true, if_false, and_self, Nat.sub_zero, State.takeWrite, if_neg h, State.writeReg_cvuCmd, hx]

/-- The word of FINISH closes the stream and opens none. -/
theorem State.cvuCmd_finish (s : State) (u : Nat) : s.cvuCmd u 2 = s.cvuClose u (s.fld (R.CVU_U_CFG_MAXSTEP u)) := rfl

@[simp] theorem exec_cvuFinish (m : Master) (u : Fin 32) (s : State) : exec (.cvuFinish m u) s = execCvuFinish m u s := rfl

/-- CVU_FINISH by firmware at M outside TRIPPED closes the unit's stream. -/
theorem execCvuFinish_closes {s : State} (h : s.st ≠ stTRIPPED) (n a : Nat) (u : Fin 32) :
    execCvuFinish (.core n a .m) u s = .next (s.cvuClose u (s.fld (R.CVU_U_CFG_MAXSTEP u))) := by
  rw [execCvuFinish, State.put_cvuCmd h n a u (by norm_num), State.cvuCmd_finish]

/-! ### The steps of FINISH -/

/-- A unit after its own counter is fed and counted on (R537). -/
def State.cvuFold (s : State) (u : Nat) : State :=
  let aw := s.cvuAw u
  let count := s.fld (R.CVU_U_ALIVE_COUNT u)
  (((s.setFld (R.CVU_U_VALUE_V u) (s.cvuValue u (leBytes aw count))).setFld (R.CVU_U_POSN_FED u)
    (s.fld (R.CVU_U_POSN_FED u) + aw)).setFld (R.CVU_U_ALIVE_COUNT u) ((count + 1) % 256 ^ aw)).setFld (R.CVU_U_STAT_AOUT u) 1

/-- A unit that shows its result, its stream closed (R527, R529). -/
def State.cvuShow (s : State) (u : Nat) : State :=
  ((s.setFld (R.CVU_U_RESULT_V u) (crcOut (s.cvuW u) (s.flag (R.CVU_U_CFG_REFOUT u)) (s.fld (R.CVU_U_XOROUT_V u))
    (s.fld (R.CVU_U_VALUE_V u)))).setFld (R.CVU_U_STAT_OPEN u) 0).setFld (R.CVU_U_STAT_DONE u) 1

/-- FINISH under FOLD: the counter is folded in, the result shown and compared, and a mismatch gives its event. -/
theorem State.cvuClose_fold {s : State} {u : Nat} (h : s.fld (R.CVU_U_CFG_ALIVE u) = 1) (maxStep : Nat) :
    s.cvuClose u maxStep =
      let c := ((s.cvuFold u).cvuShow u).cvuCompare u
      if c.2 then c.1.cvuEvent u else c.1 := by
  unfold State.cvuClose
  extract_lets mode aw count fed fedState folded r shown c
  have hfolded : folded = s.cvuFold u := if_pos h
  have hshown : shown = (s.cvuFold u).cvuShow u := congrArg (State.cvuShow · u) hfolded
  have hc : c = ((s.cvuFold u).cvuShow u).cvuCompare u := congrArg (State.cvuCompare · u) hshown
  have hmode : mode ≠ 2 := ne_of_eq_of_ne h (by decide)
  rw [if_neg hmode]
  exact congrArg (fun c : State × Bool => if c.2 then c.1.cvuEvent u else c.1) hc

/-! ### Folding the counter (R537) -/

/-- The little-endian bytes of a number, each by its place. -/
theorem leBytes_eq_map_range (n x : Nat) : leBytes n x = (List.range n).map (fun i => BitVec.ofNat 8 (x / 256 ^ i)) := by
  induction n generalizing x with
  | zero => rfl
  | succ n ih =>
    rw [leBytes, ih, List.range_succ_eq_map, List.map_cons, List.map_map]
    simp only [Function.comp_def, Nat.div_div_eq_div_mul, Nat.pow_succ', Nat.pow_zero, Nat.div_one]

/-- A value cut to the counter's bytes fits in the field that holds it. -/
theorem State.mod_cvuAw_lt (s : State) (u x : Nat) : x % 256 ^ s.cvuAw u < 2 ^ 32 := by
  have haw : s.cvuAw u ≤ 4 := Nat.pow_le_pow_right (by decide) (Nat.min_le_left _ _)
  calc x % 256 ^ s.cvuAw u < 256 ^ s.cvuAw u := Nat.mod_lt _ (by positivity)
    _ ≤ 256 ^ 4 := Nat.pow_le_pow_right (by decide) haw

/-- Folding writes VALUE, POSN, ALIVE and STAT of the unit alone. -/
theorem State.fld_cvuFold_other {s : State} {u : Nat} {g : Fld}
    (h : g.off ∉ [R.CVU_U_VALUE u, R.CVU_U_POSN u, R.CVU_U_ALIVE u, R.CVU_U_STAT u]) : (s.cvuFold u).fld g = s.fld g := by
  simp only [List.mem_cons, List.not_mem_nil, or_false, not_or] at h
  obtain ⟨hvalue, hposn, halive, hstat⟩ := h
  unfold State.cvuFold
  rw [State.fld_setFld_off _ _ _ _ hstat, State.fld_setFld_off _ _ _ _ halive, State.fld_setFld_off _ _ _ _ hposn,
    State.fld_setFld_off _ _ _ _ hvalue]

/-- The running value after the counter's bytes. -/
theorem State.fld_cvuFold_value (s : State) (u : Nat) : (s.cvuFold u).fld (R.CVU_U_VALUE_V u) =
    s.cvuValue u (leBytes (s.cvuAw u) (s.fld (R.CVU_U_ALIVE_COUNT u))) % 2 ^ 64 := by
  unfold State.cvuFold
  rw [State.fld_setFld_off, State.fld_setFld_off, State.fld_setFld_off, State.fld_setFld _ _ _ (by decide : 0 + 64 ≤ 64)]
  · rfl
  all_goals simp [R.CVU_U_VALUE_V, R.CVU_U_VALUE, R.CVU_U_POSN_FED, R.CVU_U_POSN, R.CVU_U_ALIVE_COUNT, R.CVU_U_ALIVE,
    R.CVU_U_STAT_AOUT, R.CVU_U_STAT]

/-- The counter is one more, modulo its width. -/
theorem State.fld_cvuFold_count (s : State) (u : Nat) : (s.cvuFold u).fld (R.CVU_U_ALIVE_COUNT u) =
    (s.fld (R.CVU_U_ALIVE_COUNT u) + 1) % 256 ^ s.cvuAw u := by
  unfold State.cvuFold
  rw [State.fld_setFld_off, State.fld_setFld _ _ _ (by decide : 0 + 32 ≤ 64)]
  · exact Nat.mod_eq_of_lt (s.mod_cvuAw_lt u _)
  · simp [R.CVU_U_ALIVE_COUNT, R.CVU_U_ALIVE, R.CVU_U_STAT_AOUT, R.CVU_U_STAT]

/-- The outcome reads OK. -/
theorem State.fld_cvuFold_aout (s : State) (u : Nat) : (s.cvuFold u).fld (R.CVU_U_STAT_AOUT u) = 1 :=
  State.fld_setFld _ _ _ (by decide : 12 + 4 ≤ 64)

/-! ### Showing the result (R527, R529) -/

/-- Showing the result leaves every other register. -/
theorem State.fld_cvuShow_other {s : State} {u : Nat} {g : Fld} (hresult : g.off ≠ R.CVU_U_RESULT u)
    (hstat : g.off ≠ R.CVU_U_STAT u ∨ 6 ≤ g.lo) : (s.cvuShow u).fld g = s.fld g := by
  have hopen : g.off ≠ R.CVU_U_STAT u ∨ 5 + 1 ≤ g.lo ∨ g.lo + g.w ≤ 5 := hstat.imp_right .inl
  have hdone : g.off ≠ R.CVU_U_STAT u ∨ 3 + 1 ≤ g.lo ∨ g.lo + g.w ≤ 3 := hstat.imp_right (fun h => .inl (by omega))
  unfold State.cvuShow
  rw [State.fld_setFld_other _ _ _ _ (by decide : 3 + 1 ≤ 64) hdone, State.fld_setFld_other _ _ _ _ (by decide : 5 + 1 ≤ 64) hopen,
    State.fld_setFld_off _ _ _ _ hresult]

/-- RESULT shows the running value after output reflection and XOROUT. -/
theorem State.fld_cvuShow_result (s : State) (u : Nat) : (s.cvuShow u).fld (R.CVU_U_RESULT_V u) =
    crcOut (s.cvuW u) (s.flag (R.CVU_U_CFG_REFOUT u)) (s.fld (R.CVU_U_XOROUT_V u)) (s.fld (R.CVU_U_VALUE_V u)) % 2 ^ 64 := by
  unfold State.cvuShow
  rw [State.fld_setFld_off, State.fld_setFld_off, State.fld_setFld _ _ _ (by decide : 0 + 64 ≤ 64)]
  · rfl
  all_goals simp [R.CVU_U_RESULT_V, R.CVU_U_RESULT, R.CVU_U_STAT_OPEN, R.CVU_U_STAT_DONE, R.CVU_U_STAT]

/-! ### The comparison and its event (R535, R539, R734) -/

/-- The comparison writes MATCH, MISMATCH and MISCNT alone. -/
theorem State.fld_cvuCompare_other {s : State} {u : Nat} {g : Fld}
    (hstat : g.off ≠ R.CVU_U_STAT u ∨ 5 ≤ g.lo ∧ g.lo + g.w ≤ 16) : (s.cvuCompare u).1.fld g = s.fld g := by
  have hmatch : g.off ≠ R.CVU_U_STAT u ∨ 4 + 1 ≤ g.lo ∨ g.lo + g.w ≤ 4 := hstat.imp_right (fun h => .inl h.1)
  have hmismatch : g.off ≠ R.CVU_U_STAT u ∨ 1 + 1 ≤ g.lo ∨ g.lo + g.w ≤ 1 := hstat.imp_right (fun h => .inl (by omega))
  have hmiscnt : g.off ≠ R.CVU_U_STAT u ∨ 16 + 8 ≤ g.lo ∨ g.lo + g.w ≤ 16 := hstat.imp_right (fun h => .inr h.2)
  have hsetMatch : ∀ v, (s.setFld (R.CVU_U_STAT_MATCH u) v).fld g = s.fld g :=
    fun v => State.fld_setFld_other _ _ _ _ (by decide : 4 + 1 ≤ 64) hmatch
  unfold State.cvuCompare
  split_ifs
  · rfl
  · exact hsetMatch 1
  · rw [State.satInc, State.satAdd, State.fld_setFld_other _ _ _ _ (by decide : 16 + 8 ≤ 64) hmiscnt,
      State.fld_setFld_other _ _ _ _ (by decide : 1 + 1 ≤ 64) hmismatch, hsetMatch]

/-- A vector that fires or is held writes no register. -/
@[simp] theorem State.signal_regs (s : State) (f v : Nat) : (s.signal f v).regs = s.regs := by
  unfold State.signal
  dsimp only
  split_ifs <;> rfl

/-- An entry of a completion queue is in no register. -/
@[simp] theorem State.writeCq_regs (s : State) (f : Nat) (e : CqEntry) : (s.writeCq f e).regs = s.regs :=
  State.signal_regs _ _ _

/-- An event counts as lost in its function's LOST and writes no other register. -/
theorem State.fld_postEvent_other {s : State} {f : Nat} {g : Fld} (h : g.off ≠ R.PCIEA_F_LOST f) (kind info : Nat) :
    (s.postEvent f kind info).fld g = s.fld g := by
  have hlost : (s.satInc (R.PCIEA_F_LOST_EVTLOST f)).fld g = s.fld g := State.fld_setFld_off _ _ _ _ h
  unfold State.postEvent
  dsimp only
  split_ifs
  · exact hlost
  · rw [State.fld, State.reg, State.writeCq_regs]; rfl
  · rfl
  · rfl
  · exact hlost

/-- A unit's event writes CVU.EVENT, and PF0's LOST when no entry is free. -/
theorem State.fld_cvuEvent_other {s : State} {g : Fld} (hevent : g.off ≠ R.CVU_EVENT) (hlost : g.off ≠ R.PCIEA_F_LOST 0) (u : Nat) :
    (s.cvuEvent u).fld g = s.fld g := by
  have hset : (s.fldBitSet R.CVU_EVENT_UNIT u).fld g = s.fld g := State.fld_setFld_off _ _ _ _ hevent
  unfold State.cvuEvent
  dsimp only
  split_ifs
  · rw [State.fld_postEvent_other hlost, hset]
  · exact hset

/-- The registers in which FINISH shows what it did are neither CVU.EVENT nor a LOST. -/
theorem cvuShown_apart (u : Fin 32) {o : Nat} (h : o ∈ [R.CVU_U_VALUE u, R.CVU_U_RESULT u, R.CVU_U_ALIVE u, R.CVU_U_STAT u]) :
    o ≠ R.CVU_EVENT ∧ o ≠ R.PCIEA_F_LOST 0 := by
  have hu := u.isLt
  simp only [List.mem_cons, List.not_mem_nil, or_false, R.CVU_U_VALUE, R.CVU_U_RESULT, R.CVU_U_ALIVE, R.CVU_U_STAT] at h
  unfold R.CVU_EVENT R.PCIEA_F_LOST
  omega

/-- Under FOLD, comparing and its event leave what was shown, but for MATCH, MISMATCH and MISCNT. -/
theorem State.fld_cvuClose_fold {s : State} {u : Fin 32} (h : s.fld (R.CVU_U_CFG_ALIVE u) = 1) (maxStep : Nat) {g : Fld}
    (hshown : g.off ∈ [R.CVU_U_VALUE u, R.CVU_U_RESULT u, R.CVU_U_ALIVE u, R.CVU_U_STAT u])
    (hstat : g.off ≠ R.CVU_U_STAT u ∨ 5 ≤ g.lo ∧ g.lo + g.w ≤ 16) :
    (s.cvuClose u maxStep).fld g = ((s.cvuFold u).cvuShow u).fld g := by
  obtain ⟨hevent, hlost⟩ := cvuShown_apart u hshown
  rw [State.cvuClose_fold h]
  dsimp only
  split_ifs
  · rw [State.fld_cvuEvent_other hevent hlost, State.fld_cvuCompare_other hstat]
  · exact State.fld_cvuCompare_other hstat

/-- RESULT under FOLD: the parameters are those before FINISH, the running value that after the counter. -/
theorem State.fld_cvuShow_fold_result (s : State) (u : Nat) : ((s.cvuFold u).cvuShow u).fld (R.CVU_U_RESULT_V u) =
    crcOut (s.fld (R.CVU_U_CFG_WIDTH u)) (s.flag (R.CVU_U_CFG_REFOUT u)) (s.fld (R.CVU_U_XOROUT_V u))
      ((s.cvuFold u).fld (R.CVU_U_VALUE_V u)) % 2 ^ 64 := by
  have hcfg : R.CVU_U_CFG u ∉ [R.CVU_U_VALUE u, R.CVU_U_POSN u, R.CVU_U_ALIVE u, R.CVU_U_STAT u] := by
    simp [R.CVU_U_CFG, R.CVU_U_VALUE, R.CVU_U_POSN, R.CVU_U_ALIVE, R.CVU_U_STAT]
  have hxor : R.CVU_U_XOROUT u ∉ [R.CVU_U_VALUE u, R.CVU_U_POSN u, R.CVU_U_ALIVE u, R.CVU_U_STAT u] := by
    simp [R.CVU_U_XOROUT, R.CVU_U_VALUE, R.CVU_U_POSN, R.CVU_U_ALIVE, R.CVU_U_STAT]
  rw [State.fld_cvuShow_result, State.cvuW, State.flag, State.fld_cvuFold_other (g := R.CVU_U_CFG_WIDTH u) hcfg,
    State.fld_cvuFold_other (g := R.CVU_U_CFG_REFOUT u) hcfg, State.fld_cvuFold_other (g := R.CVU_U_XOROUT_V u) hxor]
  rfl

/-! ### The obligation -/

/-- Settles O6, each register read back through the steps of FINISH. -/
theorem foldedAliveCounter : Obligations.FoldedAliveCounter := by
  unfold Obligations.FoldedAliveCounter
  intro n a u s hst hfold w aw count fed value
  have hbytes : aw / 8 = s.cvuAw u := Nat.mul_div_cancel_left _ (by decide)
  have hmod : 2 ^ aw = 256 ^ s.cvuAw u := Nat.pow_mul 2 8 _
  have hvalue : (s.cvuFold u).fld (R.CVU_U_VALUE_V u) = value := by
    rw [State.fld_cvuFold_value, leBytes_eq_map_range, ← hbytes]
    rfl
  refine ⟨_, (exec_cvuFinish _ u s).trans (execCvuFinish_closes hst n a u), ?_, ?_, ?_, ?_⟩
  · rw [State.fld_cvuClose_fold hfold, State.fld_cvuShow_other, hvalue]
    all_goals simp [R.CVU_U_VALUE_V, R.CVU_U_VALUE, R.CVU_U_RESULT, R.CVU_U_STAT]
  · rw [State.fld_cvuClose_fold hfold, State.fld_cvuShow_fold_result, hvalue]
    all_goals simp [R.CVU_U_RESULT_V, R.CVU_U_RESULT, R.CVU_U_STAT]
  · rw [State.fld_cvuClose_fold hfold, State.fld_cvuShow_other, State.fld_cvuFold_count, hmod]
    all_goals simp [R.CVU_U_ALIVE_COUNT, R.CVU_U_ALIVE, R.CVU_U_RESULT, R.CVU_U_STAT]
  · rw [State.fld_cvuClose_fold hfold, State.fld_cvuShow_other, State.fld_cvuFold_aout]
    all_goals simp [R.CVU_U_STAT_AOUT, R.CVU_U_RESULT, R.CVU_U_STAT]

end Sys2Proof.Machine
end

section
/-! SUPPORT. What a completion, an event and a change of DEVICE.STATE do to the host's queues and to the registers (R102, R104,
R732–R734, R744). -/
namespace Sys2Proof.Machine

/-! ### Queues (R732–R734, R744) -/

/-- A function after a change of a function. -/
@[simp] theorem State.fn_modFn (s : State) (f g : Nat) (k : Fn → Fn) : (s.modFn f k).fn g = if g = f then k (s.fn f) else s.fn g :=
  SMap.get_set _ _ _ _ _

/-- A function after it was replaced. -/
@[simp] theorem State.fn_setFn (s : State) (f g : Nat) (k : Fn) : (s.setFn f k).fn g = if g = f then k else s.fn g :=
  SMap.get_set _ _ _ _ _

@[simp] theorem State.regs_modFn (s : State) (f : Nat) (g : Fn → Fn) : (s.modFn f g).regs = s.regs := rfl

/-- Two states that differ at most in the host's queues and the count of interrupts. -/
def State.QueuesOnly (s t : State) : Prop := ∃ fns irqs, t = { s with fns := fns, irqs := irqs }

theorem State.QueuesOnly.trans {s t u : State} (h : s.QueuesOnly t) (k : t.QueuesOnly u) : s.QueuesOnly u := by
  obtain ⟨_, _, rfl⟩ := h
  obtain ⟨_, _, rfl⟩ := k
  exact ⟨_, _, rfl⟩

theorem State.QueuesOnly.modFn (s : State) (f : Nat) (g : Fn → Fn) : s.QueuesOnly (s.modFn f g) := ⟨_, _, rfl⟩

/-- A vector moves nothing but its function's count of unsignalled entries (R744). -/
theorem State.signal_queuesOnly (s : State) (f v : Nat) : s.QueuesOnly (s.signal f v) := by
  unfold State.signal
  dsimp only
  split_ifs <;> exact ⟨_, _, rfl⟩

theorem State.fn_signal (s : State) (f v g : Nat) : ∃ u, (s.signal f v).fn g = { s.fn g with unsig := u } := by
  have hmod : ∀ (s : State) (u : SMap Nat), ∃ w, (s.modFn f (fun k => { k with unsig := u })).fn g = { s.fn g with unsig := w } := by
    intro s u
    rw [State.fn_modFn]
    split_ifs with h
    · exact ⟨u, by rw [h]⟩
    · exact ⟨_, rfl⟩
  unfold State.signal
  dsimp only
  split_ifs
  · exact hmod s _
  · exact hmod s _
  · exact hmod s _

/-- An entry written into a completion queue: it stands last, with the head and the phase of its slot (R732). -/
theorem State.fn_writeCq (s : State) (f : Nat) (e : CqEntry) : ∃ i p u, (s.writeCq f e).fn f = { s.fn f with
    cq := (s.fn f).cq ++ [{ e with sqHead := (s.fn f).sqHead, phase := (s.fn f).cqPhase }], cqIdx := i, cqPhase := p, unsig := u } := by
  unfold State.writeCq
  dsimp only
  obtain ⟨u, hu⟩ := State.fn_signal (s.setFn f _) f (vectorOf f e.kind) f
  rw [hu, State.fn_setFn, if_pos rfl]
  exact ⟨_, _, _, rfl⟩

theorem State.fn_writeCq_other {s : State} {f g : Nat} (h : g ≠ f) (e : CqEntry) :
    ∃ u, (s.writeCq f e).fn g = { s.fn g with unsig := u } := by
  unfold State.writeCq
  dsimp only
  obtain ⟨u, hu⟩ := State.fn_signal (s.setFn f _) f (vectorOf f e.kind) g
  rw [hu, State.fn_setFn, if_neg h]
  exact ⟨u, rfl⟩

theorem State.writeCq_queuesOnly (s : State) (f : Nat) (e : CqEntry) : s.QueuesOnly (s.writeCq f e) := by
  unfold State.writeCq
  exact State.QueuesOnly.trans ⟨_, _, rfl⟩ (State.signal_queuesOnly _ _ _)

@[simp] theorem State.writeCq_sqHead (s : State) (f g : Nat) (e : CqEntry) : ((s.writeCq f e).fn g).sqHead = (s.fn g).sqHead := by
  by_cases h : g = f
  · subst h
    obtain ⟨i, p, u, hw⟩ := s.fn_writeCq g e
    rw [hw]
  · obtain ⟨u, hw⟩ := State.fn_writeCq_other (s := s) h e
    rw [hw]

@[simp] theorem State.writeCq_jobs (s : State) (f : Nat) (e : CqEntry) : (s.writeCq f e).jobs = s.jobs := by
  obtain ⟨_, _, h⟩ := s.writeCq_queuesOnly f e
  rw [h]

/-- A completion moves nothing but the host's queues and the count of interrupts. -/
theorem State.done_queuesOnly (s : State) (e : SubEntry) (status info : Nat) : s.QueuesOnly (s.done e status info) := by
  unfold State.done State.complete
  dsimp only
  split_ifs
  · exact (State.QueuesOnly.modFn _ _ _).trans (State.writeCq_queuesOnly _ _ _)
  · exact (State.QueuesOnly.modFn _ _ _).trans (State.QueuesOnly.modFn _ _ _)

@[simp] theorem State.done_regs (s : State) (e : SubEntry) (status info : Nat) : (s.done e status info).regs = s.regs := by
  obtain ⟨_, _, h⟩ := s.done_queuesOnly e status info
  rw [h]

@[simp] theorem State.done_jobs (s : State) (e : SubEntry) (status info : Nat) : (s.done e status info).jobs = s.jobs := by
  obtain ⟨_, _, h⟩ := s.done_queuesOnly e status info
  rw [h]

@[simp] theorem State.done_keep (s : State) (e : SubEntry) (status info : Nat) : (s.done e status info).keep = s.keep := by
  obtain ⟨_, _, h⟩ := s.done_queuesOnly e status info
  rw [h]

@[simp] theorem State.done_ladder (s : State) (e : SubEntry) (status info : Nat) : (s.done e status info).ladder = s.ladder := by
  obtain ⟨_, _, h⟩ := s.done_queuesOnly e status info
  rw [h]

@[simp] theorem State.done_mem (s : State) (e : SubEntry) (status info : Nat) : (s.done e status info).mem = s.mem := by
  obtain ⟨_, _, h⟩ := s.done_queuesOnly e status info
  rw [h]

@[simp] theorem State.done_cores (s : State) (e : SubEntry) (status info : Nat) : (s.done e status info).cores = s.cores := by
  obtain ⟨_, _, h⟩ := s.done_queuesOnly e status info
  rw [h]

@[simp] theorem State.fld_done (s : State) (e : SubEntry) (status info : Nat) (g : Fld) : (s.done e status info).fld g = s.fld g := by
  rw [State.fld, State.reg, State.done_regs]
  rfl

@[simp] theorem State.st_done (s : State) (e : SubEntry) (status info : Nat) : (s.done e status info).st = s.st :=
  State.fld_done _ _ _ _ _

@[simp] theorem State.stateInfoWord_done (s : State) (e : SubEntry) (status info : Nat) :
    (s.done e status info).stateInfoWord = s.stateInfoWord := by
  obtain ⟨_, _, h⟩ := s.done_queuesOnly e status info
  rw [h]
  rfl

/-- What a completion does to its function's queues (R732–R734): the command is no longer in progress, and its entry is written at once
or waits for a slot. -/
theorem State.fn_done (s : State) (e : SubEntry) (status info : Nat) : ∃ c w i p u h ph,
    (s.done e status info).fn e.fn = { s.fn e.fn with
      inprog := (s.fn e.fn).inprog.filter (·.cid ≠ e.cid.toNat), cq := c, waiting := w, cqIdx := i, cqPhase := p, unsig := u } ∧
    (⟨e.cid.toNat, status, 0, h, ph, info⟩ : CqEntry) ∈ c ++ w := by
  unfold State.done State.complete
  dsimp only
  split_ifs
  · obtain ⟨i, p, u, hw⟩ := State.fn_writeCq
      (s.modFn e.fn (fun k => { k with inprog := k.inprog.filter (·.cid ≠ e.cid.toNat) })) e.fn ⟨e.cid.toNat, status, 0, 0, false, info⟩
    rw [hw, State.fn_modFn, if_pos rfl]
    exact ⟨_, _, _, _, _, _, _, rfl, List.mem_append_left _ (List.mem_append_right _ (List.mem_singleton_self _))⟩
  · rw [State.fn_modFn, if_pos rfl, State.fn_modFn, if_pos rfl]
    exact ⟨_, _, _, _, _, _, _, rfl, List.mem_append_right _ (List.mem_append_right _ (List.mem_singleton_self _))⟩

/-- A completion completes its command once the entry has been taken. -/
theorem State.completed_done {s u : State} {e : SubEntry} (h : (u.fn e.fn).sqHead = ((s.fn e.fn).sqHead + 1) % s.sqSize e.fn)
    (status info : Nat) : s.Completed (u.done e status info) e status info := by
  obtain ⟨c, w, i, p, v, hd, ph, hfn, hmem⟩ := u.fn_done e status info
  unfold State.Completed
  rw [hfn]
  refine ⟨h, ⟨_, hmem, rfl, rfl, rfl, rfl⟩, fun y hy => ?_⟩
  exact of_decide_eq_true (List.mem_filter.1 hy).2

/-- An event takes no entry from a submission queue. -/
theorem State.postEvent_sqHead (s : State) (f g kind info : Nat) : ((s.postEvent f kind info).fn g).sqHead = (s.fn g).sqHead := by
  have hmod : ∀ w : List CqEntry, ((s.modFn f (fun k => { k with waiting := w })).fn g).sqHead = (s.fn g).sqHead := by
    intro w
    rw [State.fn_modFn]
    split_ifs with h
    · rw [h]
    · rfl
  unfold State.postEvent
  dsimp only
  split_ifs
  · rfl
  · exact State.writeCq_sqHead _ _ _ _
  · exact hmod _
  · exact hmod _
  · rfl

theorem State.postEvent_jobs (s : State) (f kind info : Nat) : (s.postEvent f kind info).jobs = s.jobs := by
  unfold State.postEvent
  dsimp only
  split_ifs
  · rfl
  · exact State.writeCq_jobs _ _ _
  · rfl
  · rfl
  · rfl

/-! ### A change of DEVICE.STATE (R102, R104) -/

@[simp] theorem State.quietOutputs_regs (s : State) : s.quietOutputs.regs = s.regs := by
  unfold State.quietOutputs
  split_ifs <;> rfl

theorem State.quietOutputs_fns (s : State) : s.quietOutputs.fns = s.fns := by
  unfold State.quietOutputs
  split_ifs <;> rfl

theorem State.quietOutputs_jobs (s : State) : s.quietOutputs.jobs = s.jobs := by
  unfold State.quietOutputs
  split_ifs <;> rfl

/-- The new state's outputs and its event write no register but PF0's LOST. -/
theorem State.fld_setState {s : State} {n : Nat} (h : s.st ≠ n) {g : Fld} (hg : g.off ≠ R.PCIEA_F_LOST 0) :
    (s.setState n).fld g = ((s.setFld R.DEVICE_STATE_PREV s.st).setFld R.DEVICE_STATE_STATE n).fld g := by
  unfold State.setState
  dsimp only
  rw [if_neg h, State.fld_postEvent_other hg, State.fld, State.reg, State.quietOutputs_regs]
  rfl

theorem State.fld_setState_other (s : State) (n : Nat) {g : Fld} (hs : g.off ≠ R.DEVICE_STATE) (hl : g.off ≠ R.PCIEA_F_LOST 0) :
    (s.setState n).fld g = s.fld g := by
  by_cases h : s.st = n
  · rw [State.setState, if_pos h]
  · rw [State.fld_setState h hl, State.fld_setFld_off _ _ _ _ hs, State.fld_setFld_off _ _ _ _ hs]

theorem State.st_setState (s : State) {n : Nat} (hn : n < 16) : (s.setState n).st = n := by
  by_cases h : s.st = n
  · rw [State.setState, if_pos h, h]
  · exact (State.fld_setState h (by decide)).trans ((State.fld_setFld _ _ _ (by decide)).trans (Nat.mod_eq_of_lt hn))

theorem State.prev_setState {s : State} {n : Nat} (h : s.st ≠ n) : (s.setState n).fld R.DEVICE_STATE_PREV = s.st := by
  rw [State.fld_setState h (by decide), State.fld_setFld_other _ _ _ _ (by decide) (by decide), State.fld_setFld _ _ _ (by decide)]
  exact Nat.mod_eq_of_lt (State.fld_lt s R.DEVICE_STATE_STATE)

theorem State.setState_sqHead (s : State) (n f : Nat) : ((s.setState n).fn f).sqHead = (s.fn f).sqHead := by
  unfold State.setState
  dsimp only
  split_ifs
  · rfl
  · rw [State.postEvent_sqHead, State.fn, State.quietOutputs_fns]
    rfl

theorem State.setState_jobs (s : State) (n : Nat) : (s.setState n).jobs = s.jobs := by
  unfold State.setState
  dsimp only
  split_ifs
  · rfl
  · rw [State.postEvent_jobs, State.quietOutputs_jobs]
    rfl

end Sys2Proof.Machine
end

section
/-! SUPPORT. How a host command is started and refused, and what HELLO, GET_STATUS and GET_COUNTERS do (R103, R577, R718,
R730–R741). -/
namespace Sys2Proof.Machine

/-! ### Writes of the control window -/

/-- Two states that differ at most in the registers of a set and in the ladder. -/
def State.Writes (O : Set Nat) (s t : State) : Prop :=
  (∃ regs ladder, t = { s with regs := regs, ladder := ladder }) ∧ ∀ o, o ∉ O → t.reg o = s.reg o

section
variable {O : Set Nat} {s t u : State}

theorem State.Writes.refl (O : Set Nat) (s : State) : State.Writes O s s := ⟨⟨_, _, rfl⟩, fun _ _ => rfl⟩

theorem State.Writes.trans (h : State.Writes O s t) (k : State.Writes O t u) : State.Writes O s u := by
  obtain ⟨⟨_, _, rfl⟩, hreg⟩ := h
  obtain ⟨⟨_, _, rfl⟩, kreg⟩ := k
  exact ⟨⟨_, _, rfl⟩, fun o ho => (kreg o ho).trans (hreg o ho)⟩

theorem State.Writes.reg (h : State.Writes O s t) {o : Nat} (ho : o ∉ O) : t.reg o = s.reg o := h.2 o ho

theorem State.Writes.fld (h : State.Writes O s t) {g : Fld} (hg : g.off ∉ O) : t.fld g = s.fld g := congrArg g.get (h.reg hg)

theorem State.Writes.mem (h : State.Writes O s t) : t.mem = s.mem := by obtain ⟨⟨_, _, rfl⟩, -⟩ := h; rfl
theorem State.Writes.cores (h : State.Writes O s t) : t.cores = s.cores := by obtain ⟨⟨_, _, rfl⟩, -⟩ := h; rfl
theorem State.Writes.jobs (h : State.Writes O s t) : t.jobs = s.jobs := by obtain ⟨⟨_, _, rfl⟩, -⟩ := h; rfl
theorem State.Writes.dev (h : State.Writes O s t) : t.dev = s.dev := by obtain ⟨⟨_, _, rfl⟩, -⟩ := h; rfl
theorem State.Writes.fn (h : State.Writes O s t) (f : Nat) : t.fn f = s.fn f := by obtain ⟨⟨_, _, rfl⟩, -⟩ := h; rfl

theorem State.Writes.ladder (h : State.Writes O s t) (l : Ladder) : State.Writes O s { t with ladder := l } := by
  obtain ⟨⟨_, _, rfl⟩, hreg⟩ := h
  exact ⟨⟨_, _, rfl⟩, hreg⟩

theorem State.Writes.setReg (s : State) {off : Nat} (v : BitVec 64) (h : off ∈ O) : State.Writes O s (s.setReg off v) :=
  ⟨⟨_, _, rfl⟩, fun o ho => by rw [State.reg_setReg, if_neg (ne_of_mem_of_not_mem h ho).symm]⟩

theorem State.Writes.setFld (s : State) {f : Fld} (v : Nat) (h : f.off ∈ O) : State.Writes O s (s.setFld f v) :=
  State.Writes.setReg s _ h

/-- A write of a field is one of registers. -/
theorem State.setFld_eq (s : State) (f : Fld) (v : Nat) : ∃ regs, s.setFld f v = { s with regs := regs } := ⟨_, rfl⟩

/-- What the device knows of its jobs is in no register. -/
theorem State.fld_jobs (s : State) (j : Jobs) (g : Fld) : ({ s with jobs := j } : State).fld g = s.fld g := rfl

theorem State.Writes.iter (s : State) (n : Nat) (g : Nat → State → State) (hg : ∀ i t, State.Writes O t (g i t)) :
    State.Writes O s (s.iter n g) := by
  unfold State.iter
  induction List.range n generalizing s with
  | nil => exact State.Writes.refl O s
  | cons i l ih => exact (hg i s).trans (ih (g i s))

end

/-- The device watchman's restart shows in WATCH.STAT alone (R577). -/
theorem State.wmRestart_writes {O : Set Nat} (s : State) (h : R.WATCH_STAT ∈ O) : State.Writes O s (s.wmRestart 16) :=
  (State.Writes.setFld s (f := wmElapsed 16) 0 h).trans (State.Writes.setFld _ (f := wmToken 16) _ h)

/-! ### Starting and refusing a command (R103, R730–R736, R741) -/

/-- A function that cannot start a command leaves it in its queue (R730, R734). -/
theorem State.hostCmd_idle {s : State} {e : SubEntry} (h : s.canStart e.fn = false) (opc : Nat) (c : CmdRow) (body : State → State) :
    s.hostCmd e opc c body = s := by
  unfold State.hostCmd
  rw [if_pos (by simp [h])]

/-- A command that its function starts is refused or has its own effect. -/
theorem State.hostCmd_fetches {s : State} {e : SubEntry} (h : s.Fetches e) (opc : Nat) (c : CmdRow) (body : State → State) :
    s.hostCmd e opc c body =
      if s.refusal e.fn e c ≠ 0 then (s.taken e opc).done e (s.refusal e.fn e c) 0 else body (s.taken e opc) := by
  obtain ⟨hstart, hshut, -, -, -⟩ := h
  unfold State.hostCmd
  rw [if_neg (by simp [hstart, hshut])]
  rfl

/-- A PF0 command is refused by its issuer, by TRIPPED and for want of a HELLO, in this order (R103, R736, R741). -/
theorem State.refusal_pf0 {s : State} {e : SubEntry} (h : s.Fetches e) (scrub : Bool) :
    let r := s.refusal e.fn e { rowPf0 true with scrub := scrub }
    (e.fn.val ≠ 0 → r = 0x08) ∧ (e.fn.val = 0 → s.st = stTRIPPED → r = 0x04) ∧
    (e.fn.val = 0 → s.st ≠ stTRIPPED → s.fld (R.PCIEA_F_FSTATUS_VERSION e.fn) = 0 → r = 0x06) := by
  obtain ⟨-, -, -, hrsv, hcid⟩ := h
  have hcid' : ¬ e.cid = 65535#16 := hcid
  refine ⟨fun hf => ?_, fun hf ht => ?_, fun hf ht hv => ?_⟩
  · simp [State.refusal, rowPf0, hrsv, hcid', hf]
  · simp [State.refusal, rowPf0, hrsv, hcid', hf, ht]
  · have hv' : s.fld (R.PCIEA_F_FSTATUS_VERSION 0) = 0 := hf ▸ hv
    simp [State.refusal, rowPf0, hrsv, hcid', hf, ht, hv']

/-- A command of every function is not refused for TRIPPED; one that needs a HELLO keeps to the version of its row (R741). -/
theorem State.refusal_all {s : State} {e : SubEntry} (h : s.Fetches e) {ok hello : Bool} (hok : ok = true) {version : Nat} (scrub : Bool)
    (hv : hello = false ∨ 0x10 ≤ version ∧ version ≤ s.fld (R.PCIEA_F_FSTATUS_VERSION e.fn)) :
    s.refusal e.fn e ⟨.all, version, true, hello, scrub, ok⟩ = 0 := by
  obtain ⟨-, -, hscrub, hrsv, hcid⟩ := h
  exact State.refusal_eq_zero hrsv hcid hok (.inl rfl) (.inr rfl) (hv.imp_right fun ⟨h, h'⟩ => ⟨by omega, h'⟩) (.inl hscrub)

/-! ### How a command ends -/

/-- The command `c` of entry `e` completes with a status and INFO; registers, memory, cores and jobs stay as they are. -/
def State.Ends (s : State) (e : SubEntry) (c : Instr) (status info : Nat) : Prop :=
  ∃ t, exec c s = .next t ∧ s.Completed t e status info ∧ t.regs = s.regs ∧ t.mem = s.mem ∧ t.cores = s.cores ∧ t.jobs = s.jobs

/-- Taking an entry moves its function's head. -/
theorem State.taken_sqHead (s : State) (e : SubEntry) (opc : Nat) :
    ((s.taken e opc).fn e.fn).sqHead = ((s.fn e.fn).sqHead + 1) % s.sqSize e.fn := by
  rw [State.taken, State.fn_modFn, if_pos rfl]

@[simp] theorem State.fld_taken (s : State) (e : SubEntry) (opc : Nat) (g : Fld) : (s.taken e opc).fld g = s.fld g := rfl
@[simp] theorem State.st_taken (s : State) (e : SubEntry) (opc : Nat) : (s.taken e opc).st = s.st := rfl
@[simp] theorem State.serving_taken (s : State) (e : SubEntry) (opc : Nat) : (s.taken e opc).serving = s.serving := rfl
@[simp] theorem State.flag_taken (s : State) (e : SubEntry) (opc : Nat) (g : Fld) : (s.taken e opc).flag g = s.flag g := rfl
@[simp] theorem State.dev_taken (s : State) (e : SubEntry) (opc : Nat) : (s.taken e opc).dev = s.dev := rfl
@[simp] theorem State.keep_taken (s : State) (e : SubEntry) (opc : Nat) : (s.taken e opc).keep = s.keep := rfl
@[simp] theorem State.mem_taken (s : State) (e : SubEntry) (opc : Nat) : (s.taken e opc).mem = s.mem := rfl
@[simp] theorem State.cores_taken (s : State) (e : SubEntry) (opc : Nat) : (s.taken e opc).cores = s.cores := rfl
@[simp] theorem State.jobs_taken (s : State) (e : SubEntry) (opc : Nat) : (s.taken e opc).jobs = s.jobs := rfl

theorem State.taken_inprog (s : State) (e : SubEntry) (opc : Nat) :
    ((s.taken e opc).fn e.fn).inprog = (s.fn e.fn).inprog ++ [⟨e.cid.toNat, opc⟩] := by
  rw [State.taken, State.fn_modFn, if_pos rfl]

/-- A command that is taken and only completed ends with its status. -/
theorem State.ends_of_done {s : State} {e : SubEntry} {c : Instr} {opc status info : Nat}
    (h : exec c s = .next ((s.taken e opc).done e status info)) : s.Ends e c status info :=
  ⟨_, h, State.completed_done (s.taken_sqHead e opc) _ _, by rw [State.done_regs, State.taken_regs],
    by rw [State.done_mem, State.mem_taken], by rw [State.done_cores, State.cores_taken], by rw [State.done_jobs, State.jobs_taken]⟩

/-- A command that is taken and waits for its boundary is in progress (R108). -/
theorem State.awaits_of_fns {s t : State} {e : SubEntry} {opc : Nat} (h : t.fns = (s.taken e opc).fns) : s.Awaits t e opc := by
  have hfn : t.fn e.fn = (s.taken e opc).fn e.fn := by rw [State.fn, h]; rfl
  unfold State.Awaits
  rw [hfn, State.taken, State.fn_modFn, if_pos rfl]
  exact ⟨rfl, List.mem_append_right _ (List.mem_singleton_self _), rfl, rfl⟩

/-- A command whose row refuses nothing has its own effect. -/
theorem exec_of_row {s : State} {e : SubEntry} {c : Instr} {opc : Nat} {row : CmdRow} {body : State → State} (h : s.Fetches e)
    (hr : s.refusal e.fn e row = 0) (hc : exec c s = .next (s.hostCmd e opc row body)) : exec c s = .next (body (s.taken e opc)) := by
  rw [hc, State.hostCmd_fetches h, if_neg (not_not.2 hr)]

/-- A command of PF0 with nothing against it has its own effect. -/
theorem exec_of_pf0 {s : State} {e : SubEntry} {c : Instr} {opc : Nat} {ok scrub : Bool} {body : State → State} (h : s.FromPf0 e)
    (hok : ok = true) (hc : exec c s = .next (s.hostCmd e opc { rowPf0 ok with scrub := scrub } body)) :
    exec c s = .next (body (s.taken e opc)) :=
  hc.trans (congrArg Host.Outcome.next (State.hostCmd_fromPf0 h opc ok hok scrub body))

/-- No scrub runs when a PF0 command has nothing against it (R714). -/
theorem State.FromPf0.not_scrubbing {s : State} {e : SubEntry} (h : s.FromPf0 e) : ¬ s.flag R.KEEP_STATUS_SCRUBBING = true := by
  obtain ⟨⟨-, -, hscrub, -, -⟩, -⟩ := h
  exact Bool.eq_false_iff.1 hscrub

/-! ### The general refusals -/

/-- The commands of PF0 without buffer and ARGS. -/
noncomputable def barePf0 (e : SubEntry) : List Instr :=
  [.start e, .stop e, .revalidate e, .enterService e, .exitService e, .restartBegin e, .restartDone e]

/-- The host's commands. -/
noncomputable def hostCommands (e : SubEntry) : List Instr :=
  barePf0 e ++ ([.hello e, .getStatus e, .getCounters e, .tenantSet e, .lcAdvance e, .submit e, .chimeExpect e,
    .pairMode e, .loadProgram e, .loadBundle e, .unloadBundle e, .sioPassword e, .sioParamBegin e, .sioParamWrite e,
    .sioParamCommit e, .sioParamAbort e, .sioAck e, .setWrite e, .setRead e, .store e 0, .counterAdvance e,
    .counterIncrement e] : List Instr)

/-- Each bare command has the row of PF0. -/
theorem exec_barePf0 (e : SubEntry) (s : State) : ∀ c ∈ barePf0 e, ∃ opc scrub body,
    exec c s = .next (s.hostCmd e opc { rowPf0 (e.noBuf && e.argsIn []) with scrub := scrub } body) := by
  simp only [barePf0, List.forall_mem_cons, List.not_mem_nil, false_implies, implies_true, and_true]
  and_intros <;> exact ⟨_, _, _, rfl⟩

/-- Every command of the host is a row's, and LOAD_BUNDLE may wait besides (R709). -/
theorem exec_hostCommands (e : SubEntry) (s : State) : ∀ c ∈ hostCommands e, ∃ opc row body,
    exec c s = .next (s.hostCmd e opc row body) ∨ exec c s = .next s := by
  simp only [hostCommands, barePf0, List.cons_append, List.nil_append, List.forall_mem_cons, List.not_mem_nil, false_implies, implies_true,
    and_true]
  have hbundle : ∃ opc row body, exec (.loadBundle e) s = .next (s.hostCmd e opc row body) ∨ exec (.loadBundle e) s = .next s :=
    ⟨_, _, _, (ite_eq_or_eq _ _ _).symm.imp (congrArg Host.Outcome.next) (congrArg Host.Outcome.next)⟩
  and_intros -- LOAD_BUNDLE is the seventeenth
  on_goal 17 => exact hbundle
  all_goals exact ⟨_, _, _, .inl rfl⟩

/-- A command that cannot start changes nothing. -/
theorem exec_of_cannot_start {s : State} {e : SubEntry} (h : s.canStart e.fn = false) : ∀ c ∈ hostCommands e, exec c s = .next s := by
  intro c hc
  obtain ⟨opc, row, body, hx | hx⟩ := exec_hostCommands e s c hc
  · rw [hx, State.hostCmd_idle h]
  · exact hx

/-- A bare PF0 command that a general rule refuses completes with that rule's status. -/
theorem State.ends_refused {s : State} {e : SubEntry} {r : Nat} (h : s.Fetches e) (hok : (e.noBuf && e.argsIn []) = true) (h0 : r ≠ 0)
    (hr : ∀ scrub, s.refusal e.fn e { rowPf0 true with scrub := scrub } = r) : ∀ c ∈ barePf0 e, s.Ends e c r 0 := by
  intro c hc
  obtain ⟨opc, scrub, body, hx⟩ := exec_barePf0 e s c hc
  rw [hok, State.hostCmd_fetches h, hr, if_pos h0] at hx
  exact State.ends_of_done hx

/-! ### HELLO, GET_STATUS, GET_COUNTERS (R577, R737, R740, R718) -/

/-- The highest version both sides know, when the command's range and the device's meet (R740). -/
def helloTop (e : SubEntry) : Nat := min (e.arg 1) 0x12

/-- The range of versions of a HELLO has a common one with the device (R740). -/
abbrev HelloCommon (e : SubEntry) : Prop := e.arg 0 ≤ helloTop e ∧ 0x10 ≤ helloTop e

/-- A function that has agreed on a version; for PF0 the device watchman counts again (R577, R740). -/
def State.greeted (s : State) (e : SubEntry) : State :=
  let s := s.setFld (R.PCIEA_F_FSTATUS_VERSION e.fn) (helloTop e)
  if e.fn.val = 0 ∧ s.ladder.wdStopped = true then { s.wmRestart 16 with ladder := { s.ladder with wdStopped := false } } else s

theorem State.greeted_writes (s : State) (e : SubEntry) : State.Writes {R.PCIEA_F_FSTATUS e.fn, R.WATCH_STAT} s (s.greeted e) := by
  have hver := State.Writes.setFld s (f := R.PCIEA_F_FSTATUS_VERSION e.fn) (helloTop e) (Set.mem_insert _ {R.WATCH_STAT})
  unfold State.greeted
  dsimp only
  split_ifs
  · exact hver.trans ((State.wmRestart_writes _ (Set.mem_insert_of_mem _ (Set.mem_singleton _))).ladder _)
  · exact hver

theorem State.greeted_version (s : State) (e : SubEntry) : (s.greeted e).fld (R.PCIEA_F_FSTATUS_VERSION e.fn) = helloTop e := by
  have hstat : R.PCIEA_F_FSTATUS e.fn ∉ ({R.WATCH_STAT} : Set Nat) := by
    rw [Set.mem_singleton_iff]
    unfold R.PCIEA_F_FSTATUS R.WATCH_STAT
    omega
  have hver : (s.setFld (R.PCIEA_F_FSTATUS_VERSION e.fn) (helloTop e)).fld (R.PCIEA_F_FSTATUS_VERSION e.fn) = helloTop e := by
    rw [State.fld_setFld _ _ _ (by decide : 24 + 8 ≤ 64)]
    exact Nat.mod_eq_of_lt (lt_of_le_of_lt (Nat.min_le_right _ _) (by decide : 0x12 < 2 ^ 8))
  unfold State.greeted
  dsimp only
  split_ifs
  · exact (((State.wmRestart_writes _ (Set.mem_singleton _)).ladder _).fld (g := R.PCIEA_F_FSTATUS_VERSION e.fn) hstat).trans hver
  · exact hver

theorem State.greeted_wdStopped (s : State) {e : SubEntry} (h : e.fn.val = 0) : (s.greeted e).ladder.wdStopped = false := by
  unfold State.greeted
  dsimp only
  split_ifs with hw
  · rfl
  · exact Bool.eq_false_iff.2 (fun ht => hw ⟨h, ht⟩)

/-- HELLO's own effect (R740, R741). -/
theorem exec_hello_fetched {s : State} {e : SubEntry} (h : s.Fetches e) (hb : e.noBuf = true) (ha : e.argsIn [(0, 2)] = true) :
    exec (.hello e) s = .next (
      let u := s.taken e 0x01
      if 1 < (u.fn e.fn).inprog.length then u.done e 0x0A 0
      else if helloTop e < e.arg 0 ∨ helloTop e < 0x10 then u.done e 0x07 0
      else (u.greeted e).done e 0 (helloTop e + 256 * 0x12 + 65536 * ((u.greeted e).reg R.DEVICE_CAPS).toNat +
        2 ^ 48 * (u.greeted e).fld R.DEVICE_STATE_DEV_EPOCH)) := by
  have hx := exec_of_row (c := .hello e) h (State.refusal_all h (by rw [hb, ha]; rfl) true (.inl rfl)) rfl
  exact hx

theorem State.one_lt_taken_inprog (s : State) (e : SubEntry) (opc : Nat) :
    1 < ((s.taken e opc).fn e.fn).inprog.length ↔ (s.fn e.fn).inprog ≠ [] := by
  rw [State.taken_inprog, List.length_append, List.length_singleton, Nat.lt_add_left_iff_pos, List.length_pos_iff]

section
variable {s : State} {e : SubEntry} (h : s.Fetches e) (hb : e.noBuf = true) (ha : e.argsIn [(0, 2)] = true)
include h hb ha

/-- HELLO while another command of the function is in progress. -/
theorem State.ends_hello_busy (hp : (s.fn e.fn).inprog ≠ []) : s.Ends e (.hello e) 0x0A 0 := by
  have hx := exec_hello_fetched h hb ha
  dsimp only at hx
  rw [if_pos ((s.one_lt_taken_inprog e 0x01).2 hp)] at hx
  exact State.ends_of_done hx

/-- HELLO without a common version. -/
theorem State.ends_hello_none (hp : (s.fn e.fn).inprog = []) (hc : ¬ HelloCommon e) : s.Ends e (.hello e) 0x07 0 := by
  have hnone : helloTop e < e.arg 0 ∨ helloTop e < 0x10 := by
    unfold HelloCommon at hc
    omega
  have hx := exec_hello_fetched h hb ha
  dsimp only at hx
  rw [if_neg (fun hl => (s.one_lt_taken_inprog e 0x01).1 hl hp), if_pos hnone] at hx
  exact State.ends_of_done hx

/-- HELLO with a common version takes it, restarts the device watchman for PF0 and answers with version, CAPS and DEV_EPOCH. -/
theorem exec_hello_common (hp : (s.fn e.fn).inprog = []) (hc : HelloCommon e) : ∃ t, exec (.hello e) s = .next t ∧
    t.fld (R.PCIEA_F_FSTATUS_VERSION e.fn) = helloTop e ∧
    s.Completed t e 0 (helloTop e + 256 * 0x12 + 65536 * (s.reg R.DEVICE_CAPS).toNat + 2 ^ 48 * s.fld R.DEVICE_STATE_DEV_EPOCH) ∧
    (e.fn.val = 0 → t.ladder.wdStopped = false) ∧ t.mem = s.mem ∧ t.cores = s.cores := by
  have hmeet : ¬ (helloTop e < e.arg 0 ∨ helloTop e < 0x10) := by
    obtain ⟨hlo, hten⟩ := hc
    omega
  have hx := exec_hello_fetched h hb ha
  dsimp only at hx
  rw [if_neg (fun hl => (s.one_lt_taken_inprog e 0x01).1 hl hp), if_neg hmeet] at hx
  have hw := (s.taken e 0x01).greeted_writes e
  have hlow : ∀ o, o < 0x30000 → o ∉ ({R.PCIEA_F_FSTATUS e.fn, R.WATCH_STAT} : Set Nat) := by
    intro o ho
    simp only [Set.mem_insert_iff, Set.mem_singleton_iff, R.PCIEA_F_FSTATUS, R.WATCH_STAT]
    omega
  have hcaps : ((s.taken e 0x01).greeted e).reg R.DEVICE_CAPS = s.reg R.DEVICE_CAPS := hw.reg (hlow _ (by decide))
  have hepoch : ((s.taken e 0x01).greeted e).fld R.DEVICE_STATE_DEV_EPOCH = s.fld R.DEVICE_STATE_DEV_EPOCH :=
    hw.fld (hlow _ (by decide))
  rw [hcaps, hepoch] at hx
  refine ⟨_, hx, ?_, State.completed_done ?_ _ _, fun hf => ?_, ?_, ?_⟩
  · rw [State.fld_done, State.greeted_version]
  · rw [hw.fn, State.taken_sqHead]
  · rw [State.done_ladder, State.greeted_wdStopped _ hf]
  · rw [State.done_mem, hw.mem, State.mem_taken]
  · rw [State.done_cores, hw.cores, State.cores_taken]

end

/-- GET_STATUS answers with DEVICE.STATE and the function's FSTATUS. -/
theorem State.ends_getStatus {s : State} {e : SubEntry} (h : s.Fetches e) (hok : (e.noBuf && e.argsIn []) = true) :
    s.Ends e (.getStatus e) 0 (s.stateInfoWord + 2 ^ 32 * (s.reg (R.PCIEA_F_FSTATUS e.fn)).toNat) :=
  have hx := exec_of_row (c := .getStatus e) h (State.refusal_all h hok false (.inl rfl)) rfl
  State.ends_of_done hx

/-- The record of GET_COUNTERS (R718, R737): the function's eight counts, BUSY and BYTES, LOST, and zeros. -/
def State.counterRecord (s : State) (f : Nat) : List Byte :=
  let perf := fun (k : Nat) => if f = 0 then (s.reg (R.PCIEA_F_BUSY 0 + 8 * k)).toNat else s.perfSample f k
  (List.range 8).flatMap (fun k => leBytes 4 (s.fate f k)) ++ leBytes 8 (perf 0) ++ leBytes 8 (perf 1) ++
    leBytes 4 (s.reg (R.PCIEA_F_LOST f)).toNat ++ leBytes 12 0

theorem State.length_fates (s : State) (f : Nat) : ((List.range 8).flatMap (fun k => leBytes 4 (s.fate f k))).length = 32 := by
  simp [List.length_flatMap]

theorem State.length_counterRecord (s : State) (f : Nat) : (s.counterRecord f).length = 64 := by
  simp only [State.counterRecord, List.length_append, State.length_fates, leBytes_length]

theorem State.take_counterRecord (s : State) (f : Nat) :
    (s.counterRecord f).take 32 = (List.range 8).flatMap (fun k => leBytes 4 (s.fate f k)) := by
  simp only [State.counterRecord, List.append_assoc]
  exact List.take_left' (s.length_fates f)

/-- GET_COUNTERS writes the record to the host's buffer. -/
theorem exec_getCounters_record {s : State} {e : SubEntry} (h : s.Fetches e) (hlen : e.len = 64) (ha : e.argsIn [] = true)
    (hv : 0x12 ≤ s.fld (R.PCIEA_F_FSTATUS_VERSION e.fn)) : ∃ t rec, exec (.getCounters e) s = .next t ∧ s.Completed t e 0 0 ∧
      (t.fn e.fn).wrote = some (e.addr.toNat, rec) ∧ rec.length = 64 ∧ t.regs = s.regs ∧
      rec.take 32 = (List.range 8).flatMap (fun k => leBytes 4 (s.fate e.fn k)) := by
  let u := (s.taken e 0x40).modFn e.fn (fun k => { k with wrote := some (e.addr.toNat, s.counterRecord e.fn) })
  have hx : exec (.getCounters e) s = .next (u.done e 0 0) :=
    exec_of_row (c := .getCounters e) h (State.refusal_all h (by rw [hlen, ha]; rfl) false (.inr ⟨by decide, hv⟩)) rfl
  have hfn : u.fn e.fn = { (s.taken e 0x40).fn e.fn with wrote := some (e.addr.toNat, s.counterRecord e.fn) } := by
    rw [State.fn_modFn, if_pos rfl]
  refine ⟨_, _, hx, State.completed_done ?_ _ _, ?_, s.length_counterRecord e.fn,
    by rw [State.done_regs, State.regs_modFn, State.taken_regs], s.take_counterRecord e.fn⟩
  · rw [hfn]
    exact s.taken_sqHead e 0x40
  · obtain ⟨_, _, _, _, _, _, _, hdone, -⟩ := State.fn_done u e 0 0
    rw [hdone, hfn]

end Sys2Proof.Machine
end

section
/-! SUPPORT. The host commands that stop, restart and set up the device: STOP, ENTER_SERVICE, REVALIDATE, RESTART_BEGIN,
RESTART_DONE, EXIT_SERVICE, TENANT_SET, LC_ADVANCE (R106, R108, R429, R686, R711, R716, R758, R790). -/
namespace Sys2Proof.Machine

/-! ### STOP, ENTER_SERVICE, REVALIDATE (R106, R108, R758) -/

theorem State.fns_awaitBoundary (s : State) (e : SubEntry) (k : StopKind) : (s.awaitBoundary e k).fns = s.fns := rfl
theorem State.regs_awaitBoundary (s : State) (e : SubEntry) (k : StopKind) : (s.awaitBoundary e k).regs = s.regs := rfl
theorem State.stopReq_awaitBoundary (s : State) (e : SubEntry) (k : StopKind) :
    (s.awaitBoundary e k).dev.stopReq = s.dev.stopReq ++ [(k, e.cid.toNat)] := rfl

/-- A command that waits for the frame boundary is in progress, and the boundary knows of it (R108). -/
theorem exec_awaitBoundary {s : State} {e : SubEntry} {c : Instr} {opc : Nat} {k : StopKind}
    (hx : exec c s = .next ((s.taken e opc).awaitBoundary e k)) : ∃ t, exec c s = .next t ∧ s.Awaits t e opc ∧ t.regs = s.regs ∧
      t.dev.stopReq = s.dev.stopReq ++ [(k, e.cid.toNat)] := by
  refine ⟨_, hx, State.awaits_of_fns (State.fns_awaitBoundary _ _ _), ?_, ?_⟩
  · rw [State.regs_awaitBoundary, State.taken_regs]
  · rw [State.stopReq_awaitBoundary, State.dev_taken]

/-- The states in which ENTER_SERVICE is accepted. -/
theorem State.mayEnterService_iff (s : State) :
    (s.serving || s.st == stHOLD || s.st == stREADY) = true ↔ s.serving = true ∨ s.st = stHOLD ∨ s.st = stREADY := by
  simp [or_assoc]

/-- REVALIDATE is for a HOLD that was entered from SELFTEST or READY. -/
abbrev State.MayCheck (s : State) : Prop := s.st = stHOLD ∧ (s.dev.holdFrom = stSELFTEST ∨ s.dev.holdFrom = stREADY)

theorem State.not_mayCheck_iff (s : State) :
    (s.st ≠ stHOLD ∨ (s.dev.holdFrom ≠ stSELFTEST ∧ s.dev.holdFrom ≠ stREADY)) ↔ ¬ s.MayCheck := by
  rw [← not_or, ← not_and_or]

section
variable {s : State} {e : SubEntry} (h : s.FromPf0 e) (hok : (e.noBuf && e.argsIn []) = true)
include h hok

theorem State.ends_stop (hs : s.serving = false) : s.Ends e (.stop e) 0x03 0 := by
  have hx := exec_of_pf0 (c := .stop e) (scrub := false) h hok rfl
  rw [State.serving_taken, if_neg (Bool.eq_false_iff.1 hs)] at hx
  exact State.ends_of_done hx

theorem exec_stop_awaits (hs : s.serving = true) : ∃ t, exec (.stop e) s = .next t ∧ s.Awaits t e 0x04 ∧ t.regs = s.regs ∧
    t.dev.stopReq = s.dev.stopReq ++ [(.stop, e.cid.toNat)] := by
  have hx := exec_of_pf0 (c := .stop e) (scrub := false) h hok rfl
  rw [State.serving_taken, if_pos hs] at hx
  exact exec_awaitBoundary hx

theorem State.ends_enterService (hs : s.serving = false) (hh : s.st ≠ stHOLD) (hr : s.st ≠ stREADY) :
    s.Ends e (.enterService e) 0x03 0 := by
  have hno : ¬ (s.serving || s.st == stHOLD || s.st == stREADY) = true := by
    rw [State.mayEnterService_iff, hs]
    simp [hh, hr]
  have hx := exec_of_pf0 (c := .enterService e) (scrub := true) h hok rfl
  rw [State.serving_taken, State.st_taken, if_neg hno] at hx
  exact State.ends_of_done hx

theorem exec_enterService_awaits (hs : s.serving = true ∨ s.st = stHOLD ∨ s.st = stREADY) :
    ∃ t, exec (.enterService e) s = .next t ∧ s.Awaits t e 0x06 ∧ t.regs = s.regs ∧
      t.dev.stopReq = s.dev.stopReq ++ [(.service, e.cid.toNat)] := by
  have hx := exec_of_pf0 (c := .enterService e) (scrub := true) h hok rfl
  rw [State.serving_taken, State.st_taken, if_pos (s.mayEnterService_iff.2 hs)] at hx
  exact exec_awaitBoundary hx

theorem State.ends_revalidate (hm : ¬ s.MayCheck) : s.Ends e (.revalidate e) 0x03 0 := by
  have hx := exec_of_pf0 (c := .revalidate e) (scrub := false) h hok rfl
  rw [State.st_taken, State.dev_taken, if_pos (s.not_mayCheck_iff.2 hm)] at hx
  exact State.ends_of_done hx

theorem State.ends_revalidate_busy (hm : s.MayCheck) (hr : s.dev.reval ≠ none) : s.Ends e (.revalidate e) 0x0A 0 := by
  have hx := exec_of_pf0 (c := .revalidate e) (scrub := false) h hok rfl
  rw [State.st_taken, State.dev_taken, if_neg (fun hn => s.not_mayCheck_iff.1 hn hm), if_pos (Option.isSome_iff_ne_none.2 hr)] at hx
  exact State.ends_of_done hx

theorem exec_revalidate_awaits (hm : s.MayCheck) (hr : s.dev.reval = none) : ∃ t, exec (.revalidate e) s = .next t ∧
    s.Awaits t e 0x05 ∧ t.regs = s.regs ∧ t.dev.reval = some e.cid.toNat := by
  have hx := exec_of_pf0 (c := .revalidate e) (scrub := false) h hok rfl
  have hbusy : ¬ s.dev.reval.isSome = true := by rw [hr]; exact Bool.false_ne_true
  rw [State.st_taken, State.dev_taken, if_neg (fun hn => s.not_mayCheck_iff.1 hn hm), if_neg hbusy] at hx
  exact ⟨_, hx, State.awaits_of_fns rfl, rfl, rfl⟩

end

/-! ### RESTART_BEGIN, RESTART_DONE (R429) -/

/-- What RESTART_BEGIN opens is a window of RSTATE 2 that counts from now. -/
theorem State.openWindow_eq (s : State) : ∃ regs, s.openWindow = { s with
    regs := regs, jobs := { s.jobs with restart := { s.jobs.restart with opened := s.tb2 } } } := by
  obtain ⟨regs, hset⟩ := s.setFld_eq R.HEARTH_STATUS_RSTATE 2
  unfold State.openWindow
  rw [hset]
  exact ⟨_, rfl⟩

theorem State.rstate_openWindow (s : State) : s.openWindow.fld R.HEARTH_STATUS_RSTATE = 2 := by
  have hset := State.fld_setFld s R.HEARTH_STATUS_RSTATE 2 (by decide)
  unfold State.openWindow
  rw [State.fld_jobs, hset]
  rfl

theorem State.opened_openWindow (s : State) : s.openWindow.jobs.restart.opened = s.tb2 := by
  obtain ⟨_, h⟩ := s.openWindow_eq
  rw [h]

/-- A window that opens has taken no time yet. -/
theorem State.winElapsed_openWindow (s : State) : s.openWindow.winElapsed = 0 := by
  have htb : s.openWindow.tb2 = s.tb2 := by
    obtain ⟨_, h⟩ := s.openWindow_eq
    rw [h]
    rfl
  rw [State.winElapsed, State.rstate_openWindow, if_pos (le_refl 2), State.opened_openWindow, htb, Nat.sub_self]
  rfl

/-- A window that is ended shows the time it took. -/
theorem State.winElapsed_closed {s t : State} {e : SubEntry} {O : Set Nat} {opc : Nat} (hw : State.Writes O (s.taken e opc) t)
    (hr : s.fld R.HEARTH_STATUS_RSTATE = 2) (ht : t.fld R.HEARTH_STATUS_RSTATE = 3 % 2 ^ 2) : t.winElapsed = s.winElapsed := by
  obtain ⟨⟨_, _, rfl⟩, -⟩ := hw
  unfold State.winElapsed
  rw [ht, hr]
  rfl

section
variable {s : State} {e : SubEntry} (h : s.FromPf0 e) (hok : (e.noBuf && e.argsIn []) = true)
include h hok

/-- Outside a request RESTART_BEGIN only answers the time of the window. -/
theorem State.ends_restartBegin (hr : s.fld R.HEARTH_STATUS_RSTATE ≠ 1) : s.Ends e (.restartBegin e) 0 s.winElapsed := by
  have hx := exec_of_pf0 (c := .restartBegin e) (scrub := false) h hok rfl
  dsimp only at hx
  rw [State.fld_taken, if_neg hr] at hx
  exact State.ends_of_done hx

theorem exec_restartBegin_opens (hr : s.fld R.HEARTH_STATUS_RSTATE = 1) : ∃ t, exec (.restartBegin e) s = .next t ∧
    s.Completed t e 0 0 ∧ t.fld R.HEARTH_STATUS_RSTATE = 2 ∧ t.jobs.restart.opened = s.tb2 := by
  have hx := exec_of_pf0 (c := .restartBegin e) (scrub := false) h hok rfl
  dsimp only at hx
  rw [State.fld_taken, if_pos hr, State.winElapsed_openWindow] at hx
  refine ⟨_, hx, State.completed_done ?_ _ _, ?_, ?_⟩
  · obtain ⟨_, hopen⟩ := (s.taken e 0x20).openWindow_eq
    rw [hopen]
    exact s.taken_sqHead e 0x20
  · rw [State.fld_done, State.rstate_openWindow]
  · rw [State.done_jobs, State.opened_openWindow]
    rfl

/-- Outside a window RESTART_DONE only answers its time. -/
theorem State.ends_restartDone (hr : s.fld R.HEARTH_STATUS_RSTATE ≠ 2) : s.Ends e (.restartDone e) 0 s.winElapsed := by
  have hx := exec_of_pf0 (c := .restartDone e) (scrub := false) h hok rfl
  dsimp only at hx
  rw [State.fld_taken, if_neg hr] at hx
  exact State.ends_of_done hx

theorem exec_restartDone_ends (hr : s.fld R.HEARTH_STATUS_RSTATE = 2) : ∃ t, exec (.restartDone e) s = .next t ∧
    s.Completed t e 0 s.winElapsed ∧ t.fld R.HEARTH_STATUS_RSTATE = 3 := by
  have hx := exec_of_pf0 (c := .restartDone e) (scrub := false) h hok rfl
  dsimp only at hx
  rw [State.fld_taken, if_pos hr] at hx
  have hw := State.Writes.setFld (s.taken e 0x21) (f := R.HEARTH_STATUS_RSTATE) 3 (Set.mem_singleton _)
  have hstate := State.fld_setFld (s.taken e 0x21) R.HEARTH_STATUS_RSTATE 3 (by decide)
  rw [State.winElapsed_closed hw hr hstate] at hx
  refine ⟨_, hx, State.completed_done ?_ _ _, ?_⟩
  · rw [hw.fn, State.taken_sqHead]
  · rw [State.fld_done, hstate]
    rfl

end

/-! ### EXIT_SERVICE (R106, R716, R790) -/

theorem State.ends_exitService {s : State} {e : SubEntry} (h : s.FromPf0 e) (hok : (e.noBuf && e.argsIn []) = true)
    (hs : s.st ≠ stSERVICE) : s.Ends e (.exitService e) 0x03 0 := by
  have hx := exec_of_pf0 (c := .exitService e) (scrub := true) h hok rfl
  rw [State.st_taken, State.flag_taken, if_pos (.inl hs)] at hx
  exact State.ends_of_done hx

/-- The cores put to the self-test: all but those absent or failed (R790). -/
def State.putToTest (s : State) (k : Nat) : State :=
  s.iter k (fun n s => if s.fld (fCoreState n) = csABSENT ∨ s.fld (fCoreState n) = csFAILED then s else s.setFld (fCoreState n) csTEST)

theorem State.iter_succ (s : State) (k : Nat) (g : Nat → State → State) : s.iter (k + 1) g = g k (s.iter k g) := by
  rw [State.iter, List.range_succ, List.foldl_append]
  rfl

/-- A change of one core's state and the state of another. -/
theorem State.fld_setCoreState (s : State) {n m : Nat} (hn : n < 16) (h : m ≠ n) (v : Nat) :
    (s.setFld (fCoreState n) v).fld (fCoreState m) = s.fld (fCoreState m) := by
  refine State.fld_setFld_other _ _ _ _ ?_ (.inr ?_) <;> simp only [fCoreState] <;> omega

theorem State.putToTest_writes (s : State) (k : Nat) : State.Writes {R.DEVICE_CORESTATE} s (s.putToTest k) := by
  refine State.Writes.iter _ _ _ (fun i t => ?_)
  split_ifs
  · exact State.Writes.refl _ _
  · exact State.Writes.setFld _ _ (Set.mem_singleton _)

theorem State.putToTest_succ (s : State) (k : Nat) : s.putToTest (k + 1) =
    if (s.putToTest k).fld (fCoreState k) = csABSENT ∨ (s.putToTest k).fld (fCoreState k) = csFAILED then s.putToTest k
    else (s.putToTest k).setFld (fCoreState k) csTEST :=
  s.iter_succ k _

/-- What the self-test of the first `k` cores does to the state of each. -/
theorem State.fld_putToTest (s : State) {k : Nat} (hk : k ≤ 16) (m : Nat) : (s.putToTest k).fld (fCoreState m) =
    (if m < k ∧ ¬ (s.fld (fCoreState m) = csABSENT ∨ s.fld (fCoreState m) = csFAILED) then csTEST else s.fld (fCoreState m)) := by
  induction k with
  | zero => rw [if_neg (fun hm => absurd hm.1 (Nat.not_lt_zero m))]; rfl
  | succ k ih =>
    have ih := ih (by omega)
    rw [State.putToTest_succ]
    by_cases hm : m = k
    · subst hm
      rw [if_neg (fun hm => absurd hm.1 (Nat.lt_irrefl m))] at ih
      rw [ih]
      by_cases hout : s.fld (fCoreState m) = csABSENT ∨ s.fld (fCoreState m) = csFAILED
      · rw [if_pos hout, if_neg (fun hn => hn.2 hout), ih]
      · rw [if_neg hout, if_pos ⟨Nat.lt_succ_self m, hout⟩, State.fld_setFld _ _ _ (by simp only [fCoreState]; omega)]
        rfl
    · have hlt : m < k + 1 ↔ m < k := by omega
      simp only [hlt]
      rw [← ih]
      split_ifs
      · rfl
      · exact State.fld_setCoreState _ (by omega) hm _

/-- EXIT_SERVICE enters the reduced self-test at step 6. -/
def State.exited (s : State) : State :=
  let s := s.putToTest 16
  let s := { s with dev := { s.dev with reduced := true } }
  (s.setFld R.DEVICE_BOOTSTAT_STEP 6).setState stSELFTEST

theorem State.exited_sqHead (s : State) (f : Nat) : (s.exited.fn f).sqHead = (s.fn f).sqHead := by
  rw [State.exited, State.setState_sqHead]
  exact congrArg Fn.sqHead ((s.putToTest_writes 16).fn f)

theorem State.exited_mem (s : State) : s.exited.mem = s.mem :=
  ((Apart.refl _).setState stSELFTEST).mem.trans (s.putToTest_writes 16).mem

theorem State.fld_exited (s : State) {g : Fld} (hs : g.off ≠ R.DEVICE_STATE) (hl : g.off ≠ R.PCIEA_F_LOST 0) :
    s.exited.fld g = ((s.putToTest 16).setFld R.DEVICE_BOOTSTAT_STEP 6).fld g :=
  State.fld_setState_other _ _ hs hl

theorem exec_exitService_tests {s : State} {e : SubEntry} (h : s.FromPf0 e) (hok : (e.noBuf && e.argsIn []) = true)
    (hs : s.st = stSERVICE) : ∃ t, exec (.exitService e) s = .next t ∧ s.Completed t e 0 t.stateInfoWord ∧ t.st = stSELFTEST ∧
      t.fld R.DEVICE_BOOTSTAT_STEP = 6 ∧ t.mem = s.mem ∧ ∀ n, n < 16 → t.fld (fCoreState n) =
        (if s.fld (fCoreState n) = csABSENT ∨ s.fld (fCoreState n) = csFAILED then s.fld (fCoreState n) else csTEST) := by
  have hx : exec (.exitService e) s = .next ((s.taken e 0x07).exited.done e 0 (s.taken e 0x07).exited.stateInfoWord) := by
    have hx := exec_of_pf0 (c := .exitService e) (scrub := true) h hok rfl
    rw [State.st_taken, State.flag_taken, if_neg (not_or.2 ⟨not_not.2 hs, h.not_scrubbing⟩)] at hx
    exact hx
  refine ⟨_, hx, ?_, ?_, ?_, ?_, fun n hn => ?_⟩
  · rw [State.stateInfoWord_done]
    exact State.completed_done ((State.exited_sqHead _ _).trans (s.taken_sqHead e 0x07)) _ _
  · rw [State.st_done]
    exact State.st_setState _ (by decide)
  · rw [State.fld_done, State.fld_exited _ (by decide) (by decide)]
    exact State.fld_setFld _ _ _ (by decide)
  · rw [State.done_mem]
    exact State.exited_mem _
  · rw [State.fld_done, State.fld_exited _ (show R.DEVICE_CORESTATE ≠ _ by decide) (show R.DEVICE_CORESTATE ≠ _ by decide),
      State.fld_setFld_off _ _ _ _ (show R.DEVICE_CORESTATE ≠ _ by decide), State.fld_putToTest _ (le_refl 16)]
    show (if n < 16 ∧ ¬ (s.fld (fCoreState n) = csABSENT ∨ s.fld (fCoreState n) = csFAILED) then csTEST else s.fld (fCoreState n)) = _
    simp only [hn, true_and, ite_not]

/-! ### TENANT_SET (R711) -/

theorem State.ends_tenantSet {s : State} {e : SubEntry} (h : s.FromPf0 e) (hok : (e.noBuf && e.argsIn [(0, 16)]) = true)
    (hs : s.st ≠ stSERVICE) : s.Ends e (.tenantSet e) 0x03 0 := by
  have hx := exec_of_pf0 (c := .tenantSet e) (scrub := true) h hok rfl
  rw [State.st_taken, State.flag_taken, if_pos (.inl hs)] at hx
  exact State.ends_of_done hx

/-- The tenant's first `n` words set from the ARGS (R711). -/
def State.setTenant (s : State) (e : SubEntry) (n : Nat) : State :=
  s.iter n (fun k s => s.setFld (R.KEEP_TENANT_ID k) (e.argN (4 * k) 4))

theorem State.setTenant_writes (s : State) (e : SubEntry) (n : Nat) :
    State.Writes (Set.Ici (R.KEEP_TENANT 0)) s (s.setTenant e n) :=
  State.Writes.iter _ _ _ fun k _ => State.Writes.setFld _ _ (Nat.add_le_add_left (Nat.mul_le_mul_right 4 k.zero_le) 0x60020)

theorem State.fld_setTenant (s : State) (e : SubEntry) {n k : Nat} (hk : k < n) :
    (s.setTenant e n).fld (R.KEEP_TENANT_ID k) = e.args.toNat / 256 ^ (4 * k) % 2 ^ 32 := by
  induction n with
  | zero => exact absurd hk (Nat.not_lt_zero k)
  | succ n ih =>
    have hsucc : s.setTenant e (n + 1) = (s.setTenant e n).setFld (R.KEEP_TENANT_ID n) (e.argN (4 * n) 4) := s.iter_succ n _
    rw [hsucc]
    by_cases hn : k = n
    · subst hn
      rw [State.fld_setFld _ _ _ (by decide : 0 + 32 ≤ 64), SubEntry.argN]
      exact Nat.mod_mod _ _
    · have hoff : (R.KEEP_TENANT_ID k).off ≠ (R.KEEP_TENANT_ID n).off := by
        show 0x60020 + k * 0x4 ≠ 0x60020 + n * 0x4
        omega
      rw [State.fld_setFld_off _ _ _ _ hoff, ih (by omega)]

/-- MEASGEN lies below the tenant. -/
theorem measgen_not_tenant : R.KEEP_MEASGEN_GEN.off ∉ Set.Ici (R.KEEP_TENANT 0) := by
  rw [Set.mem_Ici]
  decide

theorem exec_tenantSet_sets {s : State} {e : SubEntry} (h : s.FromPf0 e) (hok : (e.noBuf && e.argsIn [(0, 16)]) = true)
    (hs : s.st = stSERVICE) : ∃ t, exec (.tenantSet e) s = .next t ∧
      (∀ k, k < 4 → t.fld (R.KEEP_TENANT_ID k) = e.args.toNat / 256 ^ (4 * k) % 2 ^ 32) ∧
      t.fld R.KEEP_MEASGEN_GEN = (s.fld R.KEEP_MEASGEN_GEN + 1) % 2 ^ 32 ∧
      s.Completed t e 0 (t.fld R.KEEP_MEASGEN_GEN) ∧ t.st = s.st ∧ t.mem = s.mem := by
  let v := (s.taken e 0x08).setTenant e 4
  let u := v.bumpMeas
  have hx : exec (.tenantSet e) s = .next (u.done e 0 (u.fld R.KEEP_MEASGEN_GEN)) := by
    have hx := exec_of_pf0 (c := .tenantSet e) (scrub := true) h hok rfl
    rw [State.st_taken, State.flag_taken, if_neg (not_or.2 ⟨not_not.2 hs, h.not_scrubbing⟩)] at hx
    exact hx
  have hv : State.Writes (Set.Ici (R.KEEP_TENANT 0)) (s.taken e 0x08) v := State.setTenant_writes _ e 4
  have hu : State.Writes {R.KEEP_MEASGEN} v u := State.Writes.setFld v _ (Set.mem_singleton _)
  refine ⟨_, hx, fun k hk => ?_, ?_, ?_, ?_, ?_⟩
  · have hne : (R.KEEP_TENANT_ID k).off ∉ ({R.KEEP_MEASGEN} : Set Nat) := by
      rw [Set.mem_singleton_iff]
      show 0x60020 + k * 0x4 ≠ 0x60004
      omega
    rw [State.fld_done, hu.fld hne]
    exact State.fld_setTenant _ e hk
  · rw [State.fld_done]
    exact (State.fld_setFld v _ _ (by decide)).trans (by rw [hv.fld measgen_not_tenant]; rfl)
  · rw [State.fld_done]
    refine State.completed_done ?_ _ _
    rw [hu.fn, hv.fn, State.taken_sqHead]
  · have hlow : R.DEVICE_STATE ∉ Set.Ici (R.KEEP_TENANT 0) := by rw [Set.mem_Ici]; decide
    rw [State.st_done, State.st, hu.fld (by rw [Set.mem_singleton_iff]; decide), hv.fld hlow, State.fld_taken, State.st]
  · rw [State.done_mem, hu.mem, hv.mem, State.mem_taken]

/-! ### LC_ADVANCE (R686) -/

/-- The forward changes of lifecycle, but for those to state 3. -/
theorem lcForward_iff {a b : Nat} (hb : b ≠ 3) :
    lcForward a b = true ↔ (a, b) ∈ [(0, 1), (0, 2), (1, 2)] ∨ (a ≠ 4 ∧ b = 4) := by
  simp [lcForward, hb]
  omega

/-- A device whose fuses hold another lifecycle. -/
def State.withLcs (s : State) (n : Nat) : State := { s with keep := { s.keep with lcs := n } }

theorem State.fn_withLcs (s : State) (n f : Nat) : (s.withLcs n).fn f = s.fn f := rfl
theorem State.regs_withLcs (s : State) (n : Nat) : (s.withLcs n).regs = s.regs := rfl
theorem State.lcs_withLcs (s : State) (n : Nat) : (s.withLcs n).keep.lcs = n := rfl

/-- The token of a change to lifecycle state 3 verifies and names this device (R686). -/
abbrev TokenGood (d : List Byte) : Prop :=
  Config.tokenOk (d.take 16) (d.drop 16) = true ∧ leNat (d.take 8) = Config.rollId % 2 ^ 64 ∧ leNat ((d.drop 8).take 1) = 3 ∧
    leNat ((d.drop 9).take 7) = 0

/-- A token is refused exactly when it is not good. -/
theorem not_tokenGood_iff (d : List Byte) : (Config.tokenOk (d.take 16) (d.drop 16) = false ∨ leAt d 0 8 ≠ Config.rollId % 2 ^ 64 ∨
    leAt d 8 1 ≠ 3 ∨ leAt d 9 7 ≠ 0) ↔ ¬ TokenGood d := by
  rw [TokenGood, not_and_or, not_and_or, not_and_or, Bool.not_eq_true]
  rfl

section
variable {s : State} {e : SubEntry} (h : s.FromPf0 e) (ha : e.argsIn [(0, 1)] = true)
include h ha

/-- LC_ADVANCE's own effect. -/
theorem exec_lcAdvance_taken (hbuf : (if e.arg 0 = 3 then e.hasBuf 112 else e.noBuf) = true) :
    exec (.lcAdvance e) s = .next (
      let u := s.taken e 0x09
      let d := e.data
      if s.st ≠ stSERVICE then u.done e 0x03 0
      else if !lcForward s.keep.lcs (e.arg 0) then u.done e 0x09 0
      else if e.arg 0 = 3 ∧ (Config.tokenOk (d.take 16) (d.drop 16) = false ∨ leAt d 0 8 ≠ Config.rollId % 2 ^ 64 ∨ leAt d 8 1 ≠ 3 ∨
        leAt d 9 7 ≠ 0) then u.done e 0x29 0
      else (u.withLcs (e.arg 0)).done e 0 (e.arg 0)) :=
  exec_of_pf0 (c := .lcAdvance e) (scrub := false) (ok := e.argsIn [(0, 1)] && (if e.arg 0 = 3 then e.hasBuf 112 else e.noBuf)) h
    (by rw [ha, hbuf]; rfl) rfl

section
variable (h3 : e.arg 0 ≠ 3) (hb : e.noBuf = true)
include h3 hb

theorem State.ends_lcAdvance (hs : s.st ≠ stSERVICE) : s.Ends e (.lcAdvance e) 0x03 0 := by
  have hx := exec_lcAdvance_taken h ha (by rw [if_neg h3, hb])
  dsimp only at hx
  rw [if_pos hs] at hx
  exact State.ends_of_done hx

/-- LC_ADVANCE refuses a change that is not forward. -/
theorem State.ends_lcAdvance_backward (hs : s.st = stSERVICE) (hf : lcForward s.keep.lcs (e.arg 0) = false) :
    s.Ends e (.lcAdvance e) 0x09 0 := by
  have hx := exec_lcAdvance_taken h ha (by rw [if_neg h3, hb])
  dsimp only at hx
  rw [if_neg (not_not.2 hs), hf, if_pos Bool.not_false] at hx
  exact State.ends_of_done hx

theorem exec_lcAdvance_forward (hs : s.st = stSERVICE) (hf : lcForward s.keep.lcs (e.arg 0) = true) :
    ∃ t, exec (.lcAdvance e) s = .next t ∧ s.Completed t e 0 (e.arg 0) ∧ t.keep.lcs = e.arg 0 ∧ t.regs = s.regs := by
  have hx := exec_lcAdvance_taken h ha (by rw [if_neg h3, hb])
  dsimp only at hx
  rw [if_neg (not_not.2 hs), hf, if_neg (by decide), if_neg (fun hn => h3 hn.1)] at hx
  refine ⟨_, hx, State.completed_done ?_ _ _, ?_, ?_⟩
  · rw [State.fn_withLcs, State.taken_sqHead]
  · rw [State.done_keep, State.lcs_withLcs]
  · rw [State.done_regs, State.regs_withLcs, State.taken_regs]

end

/-- LC_ADVANCE to state 3 asks for a token. -/
theorem exec_lcAdvance_token (h3 : e.arg 0 = 3) (hb : e.hasBuf 112 = true) (hs : s.st = stSERVICE)
    (hl : s.keep.lcs = 1 ∨ s.keep.lcs = 2) :
    ∃ t, exec (.lcAdvance e) s = .next t ∧ t.regs = s.regs ∧
      (TokenGood e.data → s.Completed t e 0 3 ∧ t.keep.lcs = 3) ∧
      (¬ TokenGood e.data → s.Completed t e 0x29 0 ∧ t.keep.lcs = s.keep.lcs) := by
  have hf : lcForward s.keep.lcs (e.arg 0) = true := by rcases hl with hl | hl <;> rw [hl, h3] <;> rfl
  have hx := exec_lcAdvance_taken h ha (by rw [if_pos h3, hb])
  dsimp only at hx
  rw [if_neg (not_not.2 hs), hf, if_neg (by decide)] at hx
  by_cases ht : TokenGood e.data
  · rw [if_neg (fun hn => (not_tokenGood_iff e.data).1 hn.2 ht), h3] at hx
    refine ⟨_, hx, ?_, fun _ => ⟨State.completed_done ?_ _ _, ?_⟩, fun hn => absurd ht hn⟩
    · rw [State.done_regs, State.regs_withLcs, State.taken_regs]
    · rw [State.fn_withLcs, State.taken_sqHead]
    · rw [State.done_keep, State.lcs_withLcs]
  · rw [if_pos ⟨h3, (not_tokenGood_iff e.data).2 ht⟩] at hx
    refine ⟨_, hx, ?_, fun hn => absurd hn ht, fun _ => ⟨State.completed_done (s.taken_sqHead e 0x09) _ _, ?_⟩⟩
    · rw [State.done_regs, State.taken_regs]
    · rw [State.done_keep, State.keep_taken]

end

end Sys2Proof.Machine
end

section
/-! SUPPORT. START: its conditions, the vectors it draws, and the device it puts into service (R41, R106, R109, R337, R339, R411,
R573); and the host's commands together. -/
namespace Sys2Proof.Machine

/-! ### Drawing the first vectors (R109, R337) -/

/-- Two states that differ at most in what drawing vectors moves: the routes' vectors, the requests to the random source and NOTREADY,
and the free values drawn. -/
def State.Draws (s t : State) : Prop :=
  (∃ regs routes reqs ctr, t = { s with
    regs := regs, jobs := { s.jobs with routes := routes }, keep := { s.keep with reqs := reqs }, freeCtr := ctr }) ∧
  ∀ o, o ≠ R.KEEP_RNGSTAT → t.reg o = s.reg o

theorem State.Draws.refl (s : State) : s.Draws s := ⟨⟨_, _, _, _, rfl⟩, fun _ _ => rfl⟩

theorem State.Draws.trans {s t u : State} (h : s.Draws t) (k : t.Draws u) : s.Draws u := by
  obtain ⟨⟨_, _, _, _, rfl⟩, hreg⟩ := h
  obtain ⟨⟨_, _, _, _, rfl⟩, kreg⟩ := k
  exact ⟨⟨_, _, _, _, rfl⟩, fun o ho => (kreg o ho).trans (hreg o ho)⟩

theorem State.Draws.fld {s t : State} (h : s.Draws t) {g : Fld} (hg : g.off ≠ R.KEEP_RNGSTAT) : t.fld g = s.fld g :=
  congrArg g.get (h.2 _ hg)

theorem State.Draws.fn {s t : State} (h : s.Draws t) (f : Nat) : t.fn f = s.fn f := by obtain ⟨⟨_, _, _, _, rfl⟩, -⟩ := h; rfl
theorem State.Draws.mem {s t : State} (h : s.Draws t) : t.mem = s.mem := by obtain ⟨⟨_, _, _, _, rfl⟩, -⟩ := h; rfl
theorem State.Draws.cores {s t : State} (h : s.Draws t) : t.cores = s.cores := by obtain ⟨⟨_, _, _, _, rfl⟩, -⟩ := h; rfl
theorem State.Draws.dev {s t : State} (h : s.Draws t) : t.dev = s.dev := by obtain ⟨⟨_, _, _, _, rfl⟩, -⟩ := h; rfl
theorem State.Draws.seeded {s t : State} (h : s.Draws t) : t.keep.seeded = s.keep.seeded := by
  obtain ⟨⟨_, _, _, _, rfl⟩, -⟩ := h; rfl
theorem State.Draws.setting {s t : State} (h : s.Draws t) (i : Nat) : t.setting i = s.setting i := by
  obtain ⟨⟨_, _, _, _, rfl⟩, -⟩ := h; rfl
theorem State.Draws.pdigest {s t : State} (h : s.Draws t) : t.pdigest = s.pdigest := by obtain ⟨⟨_, _, _, _, rfl⟩, -⟩ := h; rfl
theorem State.Draws.st {s t : State} (h : s.Draws t) : t.st = s.st := h.fld (by decide)

theorem State.rngRequest_draws (s : State) : s.Draws s.rngRequest.1 := by
  unfold State.rngRequest
  split_ifs
  · exact ⟨⟨_, _, _, _, rfl⟩, fun _ _ => rfl⟩
  · exact ⟨⟨_, _, _, _, rfl⟩, fun o ho => by rw [State.satInc, State.satAdd, State.reg_setFld]; exact if_neg ho⟩

theorem State.prepare_draws (s : State) (r prog : Nat) : s.Draws (s.prepare r prog) := by
  unfold State.prepare
  dsimp only
  split_ifs
  · exact State.Draws.refl s
  · exact s.rngRequest_draws
  · exact s.rngRequest_draws.trans ⟨⟨_, _, _, _, rfl⟩, fun _ _ => rfl⟩

/-- The first vectors of one route drawn, when it is of C0 and its program is loaded. -/
def State.drawRoute (s : State) (p : RouteCfg × Nat) : State :=
  if p.1.cls = 0 ∧ (s.prog p.1.prog).isSome = true then s.prepare p.2 p.1.prog else s

theorem State.drawFirst_eq (s : State) : s.drawFirst = ((routesOf ((s.setting 0x10).getD [])).zipIdx).foldl State.drawRoute s := rfl

theorem State.drawFirst_draws (s : State) : s.Draws s.drawFirst := by
  have hroute : ∀ (t : State) p, t.Draws (t.drawRoute p) := by
    intro t p
    unfold State.drawRoute
    split_ifs
    · exact t.prepare_draws _ _
    · exact State.Draws.refl t
  rw [State.drawFirst_eq]
  generalize (routesOf ((s.setting 0x10).getD [])).zipIdx = l
  induction l generalizing s with
  | nil => exact State.Draws.refl s
  | cons p l ih => exact (hroute s p).trans (ih _)

/-- A state with other host functions. -/
def State.withFns (s : State) (x : SMap Fn) : State := { s with fns := x }

/-- Drawing vectors does not look at the host's queues. -/
theorem State.rngRequest_withFns (s : State) (x : SMap Fn) : (s.withFns x).rngRequest = (s.rngRequest.1.withFns x, s.rngRequest.2) := by
  unfold State.rngRequest State.withFns
  dsimp only
  split_ifs <;> rfl

theorem State.prepare_withFns (s : State) (x : SMap Fn) (r prog : Nat) : (s.withFns x).prepare r prog = (s.prepare r prog).withFns x := by
  have hroute : (s.withFns x).routeSt r = s.routeSt r := rfl
  unfold State.prepare
  dsimp only
  rw [hroute, State.rngRequest_withFns]
  split_ifs <;> rfl

theorem State.drawRoute_withFns (s : State) (x : SMap Fn) (p : RouteCfg × Nat) :
    (s.withFns x).drawRoute p = (s.drawRoute p).withFns x := by
  have hprog : (s.withFns x).prog p.1.prog = s.prog p.1.prog := rfl
  unfold State.drawRoute
  rw [hprog]
  split_ifs
  · exact s.prepare_withFns x _ _
  · rfl

theorem State.drawFirst_withFns (s : State) (x : SMap Fn) : (s.withFns x).drawFirst = s.drawFirst.withFns x :=
  List.foldl_hom (fun t : State => t.withFns x) (fun t p => t.drawRoute_withFns x p)

/-- START draws as if its entry still stood in the queue. -/
theorem State.firstDrawn_taken (s : State) (e : SubEntry) (opc : Nat) :
    (s.taken e opc).drawFirst.firstDrawn = s.drawFirst.firstDrawn := by
  have htaken : s.taken e opc = s.withFns (s.taken e opc).fns := rfl
  rw [htaken, State.drawFirst_withFns]
  rfl

/-! ### The conditions of START (R41, R109) -/

/-- A program that the settings name is loaded as its table lists it. -/
def State.progListed (s : State) (i : Nat) : Bool :=
  match s.prog i, s.progTable[i]? with
  | some p, some t => p.digest == t.1
  | _, _ => false

theorem State.progListed_iff (s : State) (i : Nat) :
    s.progListed i = true ↔ ∃ p x, s.prog i = some p ∧ s.progTable[i]? = some x ∧ p.digest = x.1 := by
  unfold State.progListed
  cases s.prog i <;> cases s.progTable[i]? <;> simp

/-- The conditions of START, each as the rules state it. -/
def State.Shown (s : State) : Prop :=
  s.hasDisp = true ∨ ∀ rc ∈ routesOf ((s.setting 0x10).getD []), rc.cls = 0 → rc.display = false
def State.HasTenant (s : State) : Prop := ∃ k, k < 4 ∧ s.fld (R.KEEP_TENANT_ID k) ≠ 0
def State.Loaded (s : State) : Prop := ∀ i ∈ s.namedProgs, ∃ p x, s.prog i = some p ∧ s.progTable[i]? = some x ∧ p.digest = x.1
def State.Spared (s : State) : Prop := (∃ rc ∈ routesOf ((s.setting 0x10).getD []), rc.cls = 0) → ∃ n, n < 16 ∧
  s.fld (fCoreState n) = csSPARE ∧ s.fld (R.CORE_SLOTCFG_COUNT n) = 0
def State.CoresNamed (s : State) : Prop := ∀ n, n < 16 → s.fld (R.CORE_SLOTCFG_COUNT n) = 0 ∨ s.fld (fCoreState n) = csSERVING ∨
  s.fld (fCoreState n) = csSPARE

/-- The tests of START in their order. -/
theorem State.startReason_eq (s : State) : s.startReason =
    if !s.hasDisp && (routesOf ((s.setting 0x10).getD [])).any (fun r => r.cls == 0 && r.display) then 0x02
    else if !(List.range 4).any (fun k => s.fld (R.KEEP_TENANT_ID k) != 0) then 0x16
    else if !s.keep.seeded || !s.firstDrawn then 0x10
    else if !s.namedProgs.all s.progListed then 0x11
    else if (routesOf ((s.setting 0x10).getD [])).any (·.cls == 0) &&
      !(List.range 16).any (fun n => s.fld (fCoreState n) == csSPARE && s.fld (R.CORE_SLOTCFG_COUNT n) == 0) then 0x12
    else if !s.reeveAgrees then 0x13
    else if !(List.range 16).all (fun n => s.fld (R.CORE_SLOTCFG_COUNT n) == 0 || s.fld (fCoreState n) == csSERVING ||
      s.fld (fCoreState n) == csSPARE) then 0x14
    else 0 := rfl

section
variable (s : State)

theorem State.not_shown_iff : (!s.hasDisp && (routesOf ((s.setting 0x10).getD [])).any (fun r => r.cls == 0 && r.display)) = true ↔
    ¬ s.Shown := by
  simp [State.Shown]

theorem State.not_hasTenant_iff : (!(List.range 4).any (fun k => s.fld (R.KEEP_TENANT_ID k) != 0)) = true ↔ ¬ s.HasTenant := by
  simp [State.HasTenant]

theorem State.not_drawn_iff : (!s.keep.seeded || !s.firstDrawn) = true ↔ ¬ (s.keep.seeded = true ∧ s.firstDrawn = true) := by
  rw [← Bool.not_and, Bool.not_eq_true', ← Bool.not_eq_true, Bool.and_eq_true]

theorem State.not_loaded_iff : (!s.namedProgs.all s.progListed) = true ↔ ¬ s.Loaded := by
  rw [Bool.not_eq_true', ← Bool.not_eq_true, List.all_eq_true]
  simp only [State.progListed_iff, State.Loaded]

theorem State.not_spared_iff : ((routesOf ((s.setting 0x10).getD [])).any (·.cls == 0) &&
    !(List.range 16).any (fun n => s.fld (fCoreState n) == csSPARE && s.fld (R.CORE_SLOTCFG_COUNT n) == 0)) = true ↔ ¬ s.Spared := by
  simp [State.Spared, exists_and_right.symm, and_assoc]

theorem State.not_reeveAgrees_iff : (!s.reeveAgrees) = true ↔ s.setting 0x34 ≠ some s.pdigest := by
  simp [State.reeveAgrees]

theorem State.not_coresNamed_iff : (!(List.range 16).all (fun n => s.fld (R.CORE_SLOTCFG_COUNT n) == 0 ||
    s.fld (fCoreState n) == csSERVING || s.fld (fCoreState n) == csSPARE)) = true ↔ ¬ s.CoresNamed := by
  simp [State.CoresNamed, and_assoc]

/-- The status of START is that of the first condition that fails. -/
theorem State.startReason_cases :
    (¬ s.Shown → s.startReason = 0x02) ∧ (s.Shown →
    (¬ s.HasTenant → s.startReason = 0x16) ∧ (s.HasTenant →
    (¬ (s.keep.seeded = true ∧ s.firstDrawn = true) → s.startReason = 0x10) ∧ (s.keep.seeded = true ∧ s.firstDrawn = true →
    (¬ s.Loaded → s.startReason = 0x11) ∧ (s.Loaded →
    (¬ s.Spared → s.startReason = 0x12) ∧ (s.Spared →
    (s.setting 0x34 ≠ some s.pdigest → s.startReason = 0x13) ∧ (s.setting 0x34 = some s.pdigest →
    (¬ s.CoresNamed → s.startReason = 0x14) ∧ (s.CoresNamed → s.startReason = 0))))))) := by
  rw [State.startReason_eq]
  refine ⟨fun h => if_pos (s.not_shown_iff.2 h), fun h => ?_⟩
  rw [if_neg (mt s.not_shown_iff.1 (not_not.2 h))]
  refine ⟨fun h => if_pos (s.not_hasTenant_iff.2 h), fun h => ?_⟩
  rw [if_neg (mt s.not_hasTenant_iff.1 (not_not.2 h))]
  refine ⟨fun h => if_pos (s.not_drawn_iff.2 h), fun h => ?_⟩
  rw [if_neg (mt s.not_drawn_iff.1 (not_not.2 h))]
  refine ⟨fun h => if_pos (s.not_loaded_iff.2 h), fun h => ?_⟩
  rw [if_neg (mt s.not_loaded_iff.1 (not_not.2 h))]
  refine ⟨fun h => if_pos (s.not_spared_iff.2 h), fun h => ?_⟩
  rw [if_neg (mt s.not_spared_iff.1 (not_not.2 h))]
  refine ⟨fun h => if_pos (s.not_reeveAgrees_iff.2 h), fun h => ?_⟩
  rw [if_neg (mt s.not_reeveAgrees_iff.1 (not_not.2 h))]
  exact ⟨fun h => if_pos (s.not_coresNamed_iff.2 h), fun h => if_neg (mt s.not_coresNamed_iff.1 (not_not.2 h))⟩

end

/-- Drawing vectors changes nothing that the other conditions look at. -/
theorem State.Draws.conditions {s t : State} (h : s.Draws t) : (t.Shown ↔ s.Shown) ∧ (t.HasTenant ↔ s.HasTenant) ∧
    (t.Loaded ↔ s.Loaded) ∧ (t.Spared ↔ s.Spared) ∧ (t.CoresNamed ↔ s.CoresNamed) := by
  have hcaps : t.hasDisp = s.hasDisp := by rw [State.hasDisp, State.flag, h.fld (by decide)]; rfl
  have hten : ∀ k, k < 4 → t.fld (R.KEEP_TENANT_ID k) = s.fld (R.KEEP_TENANT_ID k) := fun k hk =>
    h.fld (show 0x60020 + k * 0x4 ≠ 0x60030 by omega)
  have hcore : ∀ n, t.fld (fCoreState n) = s.fld (fCoreState n) := fun n => h.fld (show 0x28 ≠ 0x60030 by decide)
  have hslot : ∀ n, t.fld (R.CORE_SLOTCFG_COUNT n) = s.fld (R.CORE_SLOTCFG_COUNT n) := fun n =>
    h.fld (show 0x200060 + n * 0x10000 ≠ 0x60030 by omega)
  have htenant : t.HasTenant ↔ s.HasTenant := exists_congr fun k => and_congr_right fun hk => by rw [hten k hk]
  refine ⟨?_, htenant, ?_, ?_, ?_⟩
  · simp only [State.Shown, hcaps, h.setting]
  · obtain ⟨⟨_, _, _, _, rfl⟩, -⟩ := h
    exact Iff.rfl
  · simp only [State.Spared, h.setting, hcore, hslot]
  · simp only [State.CoresNamed, hcore, hslot]

/-! ### START in service (R106, R109, R339, R411, R573) -/

theorem State.placeCores_writes (s : State) : State.Writes {R.DEVICE_CORESTATE} s s.placeCores := by
  refine State.Writes.iter _ _ _ (fun i t => ?_)
  dsimp only
  split_ifs
  · exact State.Writes.refl _ _
  · exact State.Writes.setFld _ _ (Set.mem_singleton _)
  · exact State.Writes.setFld _ _ (Set.mem_singleton _)

/-- A setting is loaded into the one register it names. -/
theorem State.loadReg_writes {O : Set Nat} (s : State) (c : List Byte) {p : Nat × Nat} (h : p.2 ∈ O) :
    State.Writes O s (s.loadReg c p) := by
  unfold State.loadReg
  split
  · exact State.Writes.refl O s
  · split_ifs
    · exact State.Writes.refl O s
    · exact State.Writes.setReg s _ h

theorem State.enableDevWm_writes (s : State) : State.Writes {R.WATCH_CFG, R.WATCH_STAT} s s.enableDevWm := by
  have hcfg := s.loadReg_writes (O := {R.WATCH_CFG, R.WATCH_STAT}) ((s.setting 0x33).getD []) (p := (0, R.WATCH_CFG)) (Set.mem_insert _ _)
  unfold State.enableDevWm
  split_ifs
  · exact State.Writes.refl _ s
  · exact (hcfg.trans (State.wmRestart_writes _ (Set.mem_insert_of_mem _ (Set.mem_singleton _)))).ladder _

/-- A value read from a sparse map is the unlisted one or is listed. -/
theorem SMap.get_mem {α : Type} (d : Nat → α) (m : SMap α) (k : Nat) : SMap.get d m k = d k ∨ (k, SMap.get d m k) ∈ m := by
  induction m with
  | nil => exact .inl rfl
  | cons p m ih =>
    obtain ⟨q, v⟩ := p
    by_cases h : k = q
    · subst h
      exact .inr (by simp [SMap.get])
    · rw [SMap.get, if_neg h]
      exact ih.imp_right (List.mem_cons_of_mem _)

/-- Before its first frame a route has no frame, no sequence number and no epoch (R339, R411). -/
def RouteSt.Fresh (k : RouteSt) : Prop := k.frames = [] ∧ k.seq = 0 ∧ k.epoch = 0

theorem State.restartRoutes_fresh (s : State) (r : Nat) : (s.restartRoutes.routeSt r).Fresh := by
  rcases SMap.get_mem (fun _ => RouteSt.empty) s.restartRoutes.jobs.routes r with h | h
  · rw [State.routeSt, h]
    exact ⟨rfl, rfl, rfl⟩
  · obtain ⟨p, -, hp⟩ := List.mem_map.1 (List.mem_filter.1 h).1
    have hk : { RouteSt.empty with prep := p.2.prep } = s.restartRoutes.routeSt r := (Prod.mk.inj hp).2
    rw [← hk]
    exact ⟨rfl, rfl, rfl⟩

/-- What START does once its conditions hold. -/
def State.goServing (s : State) : State :=
  let s := s.placeCores.restartRoutes
  s.enableDevWm.setState (if s.dev.lost = 0 then stSERVING else stDEGRADED)

/-- START's own effect. -/
theorem exec_start_taken {s : State} {e : SubEntry} (h : s.FromPf0 e) (hok : (e.noBuf && e.argsIn []) = true) :
    exec (.start e) s = .next (
      let u := s.taken e 0x03
      if s.st ≠ stREADY then u.done e 0x03 0
      else if u.drawFirst.startReason ≠ 0 then u.drawFirst.done e u.drawFirst.startReason 0
      else u.drawFirst.goServing.done e 0 u.drawFirst.goServing.stateInfoWord) :=
  exec_of_pf0 (c := .start e) (scrub := false) h hok rfl

/-- Up to its change of state START moves registers beside DEVICE.STATE, jobs and the ladder. -/
theorem State.goServing_eq (s : State) : ∃ t : State, s.goServing = t.setState (if s.dev.lost = 0 then stSERVING else stDEGRADED) ∧
    t.mem = s.mem ∧ t.cores = s.cores ∧ (∀ f, t.fn f = s.fn f) ∧ t.st = s.st ∧ ∀ r, (t.routeSt r).Fresh := by
  have hp := s.placeCores_writes
  have hw := s.placeCores.restartRoutes.enableDevWm_writes
  have hdev : s.placeCores.restartRoutes.dev = s.dev := hp.dev
  refine ⟨s.placeCores.restartRoutes.enableDevWm, ?_, ?_, ?_, fun f => ?_, ?_, fun r => ?_⟩
  · unfold State.goServing
    dsimp only
    rw [hdev]
  · rw [hw.mem]
    exact hp.mem
  · rw [hw.cores]
    exact hp.cores
  · rw [hw.fn]
    exact hp.fn f
  · have hcore : R.DEVICE_STATE_STATE.off ∉ ({R.DEVICE_CORESTATE} : Set Nat) := by rw [Set.mem_singleton_iff]; decide
    have hwatch : R.DEVICE_STATE_STATE.off ∉ ({R.WATCH_CFG, R.WATCH_STAT} : Set Nat) := by
      rw [Set.mem_insert_iff, Set.mem_singleton_iff]
      decide
    rw [State.st, hw.fld hwatch]
    exact hp.fld hcore
  · rw [State.routeSt, hw.jobs]
    exact s.placeCores.restartRoutes_fresh r

/-- The conditions of START are those of the state in which its entry still stands in the queue, with the first vectors drawn. -/
theorem State.startReason_taken (s : State) (e : SubEntry) :
    let r := (s.taken e 0x03).drawFirst.startReason
    let drawn := s.keep.seeded = true ∧ s.drawFirst.firstDrawn = true
    let agrees := s.setting 0x34 = some s.pdigest
    (¬ s.Shown → r = 0x02) ∧ (s.Shown → ¬ s.HasTenant → r = 0x16) ∧ (s.Shown → s.HasTenant → ¬ drawn → r = 0x10) ∧
    (s.Shown → s.HasTenant → drawn → ¬ s.Loaded → r = 0x11) ∧
    (s.Shown → s.HasTenant → drawn → s.Loaded → ¬ s.Spared → r = 0x12) ∧
    (s.Shown → s.HasTenant → drawn → s.Loaded → s.Spared → ¬ agrees → r = 0x13) ∧
    (s.Shown → s.HasTenant → drawn → s.Loaded → s.Spared → agrees → ¬ s.CoresNamed → r = 0x14) ∧
    (s.Shown → s.HasTenant → drawn → s.Loaded → s.Spared → agrees → s.CoresNamed → r = 0) := by
  have hd := (s.taken e 0x03).drawFirst_draws
  obtain ⟨hshown, htenant, hloaded, hspared, hnamed⟩ := hd.conditions
  have hcases := (s.taken e 0x03).drawFirst.startReason_cases
  rw [hshown, htenant, hloaded, hspared, hnamed, hd.seeded, hd.setting, hd.pdigest, State.firstDrawn_taken] at hcases
  simp only [imp_and] at hcases
  exact hcases

section
variable {s : State} {e : SubEntry} (h : s.FromPf0 e) (hok : (e.noBuf && e.argsIn []) = true)
include h hok

theorem State.ends_start (hs : s.st ≠ stREADY) : s.Ends e (.start e) 0x03 0 := by
  have hx := exec_start_taken h hok
  dsimp only at hx
  rw [if_pos hs] at hx
  exact State.ends_of_done hx

/-- START refused in READY may have drawn vectors, and changes nothing else but its queue. -/
theorem exec_start_refused (hs : s.st = stREADY) {r : Nat} (hr : (s.taken e 0x03).drawFirst.startReason = r) (h0 : r ≠ 0) :
    ∃ t, exec (.start e) s = .next t ∧ s.Completed t e r 0 ∧ t.st = stREADY ∧ t.mem = s.mem ∧ t.cores = s.cores := by
  have hd := (s.taken e 0x03).drawFirst_draws
  have hx := exec_start_taken h hok
  dsimp only at hx
  rw [if_neg (not_not.2 hs), hr, if_pos h0] at hx
  refine ⟨_, hx, State.completed_done ?_ _ _, ?_, ?_, ?_⟩
  · rw [hd.fn, State.taken_sqHead]
  · rw [State.st_done, hd.st, State.st_taken, hs]
  · rw [State.done_mem, hd.mem, State.mem_taken]
  · rw [State.done_cores, hd.cores, State.cores_taken]

/-- START accepted: SERVING, or DEGRADED when a redundancy is lost, with every route before its first frame. -/
theorem exec_start_serves (hs : s.st = stREADY) (hr : (s.taken e 0x03).drawFirst.startReason = 0) :
    ∃ t, exec (.start e) s = .next t ∧ s.Completed t e 0 t.stateInfoWord ∧ t.mem = s.mem ∧ (∀ r, (t.routeSt r).Fresh) ∧
      t.cores = s.cores ∧ t.st = (if s.dev.lost = 0 then stSERVING else stDEGRADED) ∧ t.fld R.DEVICE_STATE_PREV = stREADY := by
  have hd := (s.taken e 0x03).drawFirst_draws
  have hx := exec_start_taken h hok
  dsimp only at hx
  rw [if_neg (not_not.2 hs), hr, if_neg (not_not.2 rfl)] at hx
  obtain ⟨u, hgo, hmem, hcores, hfn, hst, hfresh⟩ := (s.taken e 0x03).drawFirst.goServing_eq
  rw [hd.dev, State.dev_taken] at hgo
  rw [hd.st, State.st_taken, hs] at hst
  generalize hn : (if s.dev.lost = 0 then stSERVING else stDEGRADED) = n at hgo ⊢
  have hlt : n < 16 ∧ stREADY ≠ n := by
    rw [← hn]
    split_ifs <;> decide
  rw [hgo] at hx
  refine ⟨_, hx, ?_, ?_, fun r => ?_, ?_, ?_, ?_⟩
  · rw [State.stateInfoWord_done]
    exact State.completed_done (by rw [State.setState_sqHead, hfn, hd.fn, State.taken_sqHead]) _ _
  · rw [State.done_mem, ((Apart.refl u).setState n).mem, hmem, hd.mem, State.mem_taken]
  · rw [State.routeSt, State.done_jobs, State.setState_jobs]
    exact hfresh r
  · rw [State.done_cores, ((Apart.refl u).setState n).cores, hcores, hd.cores, State.cores_taken]
  · rw [State.st_done, State.st_setState _ hlt.1]
  · rw [State.fld_done, State.prev_setState (by rw [hst]; exact hlt.2), hst]

end

/-! ### The obligation -/

/-- Settles O54: each command is refused by its row or has the effect that its own lemma states. -/
theorem deviceHostCommands : Obligations.DeviceHostCommands := by
  unfold Obligations.DeviceHostCommands
  intro e s f v bare ends pf0 all
  have hbare : bare → (e.noBuf && e.argsIn []) = true := fun ⟨hb, ha⟩ => by rw [hb, ha]; rfl
  refine ⟨exec_of_cannot_start, fun h hb hf => State.ends_refused h (hbare hb) (by decide) fun scrub => (State.refusal_pf0 h scrub).1 hf,
    fun h hb hf ht => State.ends_refused h (hbare hb) (by decide) fun scrub => (State.refusal_pf0 h scrub).2.1 hf ht,
    fun h hb hf ht hv => State.ends_refused h (hbare hb) (by decide) fun scrub => (State.refusal_pf0 h scrub).2.2 hf ht hv,
    fun h hb ha => ⟨State.ends_hello_busy h hb ha, State.ends_hello_none h hb ha, exec_hello_common h hb ha⟩,
    fun h hb => State.ends_getStatus h (hbare hb), exec_getCounters_record, fun h hb => ?_, fun h hb ha => ?_,
    fun h ha n hn h3 hb => ?_, fun h ha h3 hb hs hl => exec_lcAdvance_token h ha h3 hb hs hl⟩
  · have hok := hbare hb
    obtain ⟨hshown, htenant, hdrawn, hloaded, hspared, hagrees, hnamed, hall⟩ := s.startReason_taken e
    refine ⟨State.ends_start h hok, fun hs => ?_, State.ends_stop h hok, exec_stop_awaits h hok, State.ends_enterService h hok,
      exec_enterService_awaits h hok,
      ⟨State.ends_revalidate h hok, State.ends_revalidate_busy h hok, exec_revalidate_awaits h hok⟩,
      State.ends_exitService h hok, exec_exitService_tests h hok, exec_restartBegin_opens h hok, State.ends_restartBegin h hok,
      exec_restartDone_ends h hok, State.ends_restartDone h hok⟩
    have refused : ∀ {r : Nat}, r ≠ 0 → (s.taken e 0x03).drawFirst.startReason = r → _ :=
      fun h0 hr => exec_start_refused h hok hs hr h0
    exact ⟨fun hn => refused (by decide) (hshown hn), fun h1 hn => refused (by decide) (htenant h1 hn),
      fun h1 h2 hn => refused (by decide) (hdrawn h1 h2 hn), fun h1 h2 h3 hn => refused (by decide) (hloaded h1 h2 h3 hn),
      fun h1 h2 h3 h4 hn => refused (by decide) (hspared h1 h2 h3 h4 hn),
      fun h1 h2 h3 h4 h5 hn => refused (by decide) (hagrees h1 h2 h3 h4 h5 hn),
      fun h1 h2 h3 h4 h5 h6 hn => refused (by decide) (hnamed h1 h2 h3 h4 h5 h6 hn),
      fun h1 h2 h3 h4 h5 h6 h7 => exec_start_serves h hok hs (hall h1 h2 h3 h4 h5 h6 h7)⟩
  · have hok : (e.noBuf && e.argsIn [(0, 16)]) = true := by rw [hb, ha]; rfl
    exact ⟨State.ends_tenantSet h hok, exec_tenantSet_sets h hok⟩
  · subst hn
    exact ⟨State.ends_lcAdvance h ha h3 hb,
      fun hs hf => State.ends_lcAdvance_backward h ha h3 hb hs (Bool.eq_false_iff.2 (mt (lcForward_iff h3).1 hf)),
      fun hs hf => exec_lcAdvance_forward h ha h3 hb hs ((lcForward_iff h3).2 hf)⟩

end Sys2Proof.Machine
end

section
/-! SUPPORT. The commands of the settings store: SET_WRITE and SET_READ, STORE, and the two forms of COUNTER_ADVANCE (R41, R755,
R758, R762, R763, R766, R767). -/
namespace Sys2Proof.Machine

/-! ### How a command of the store ends -/

@[simp] theorem State.done_nvm (s : State) (e : SubEntry) (status info : Nat) : (s.done e status info).nvm = s.nvm := by
  obtain ⟨_, _, h⟩ := s.done_queuesOnly e status info
  rw [h]

@[simp] theorem State.nvSlot_done (s : State) (e : SubEntry) (status info k : Nat) : (s.done e status info).nvSlot k = s.nvSlot k := by
  rw [State.nvSlot, State.done_nvm]
  rfl

@[simp] theorem State.nvm_taken (s : State) (e : SubEntry) (opc : Nat) : (s.taken e opc).nvm = s.nvm := rfl
@[simp] theorem State.storeState_taken (s : State) (e : SubEntry) (opc : Nat) : (s.taken e opc).storeState = s.storeState := rfl
@[simp] theorem State.checkImage_taken (s : State) (e : SubEntry) (opc : Nat) (img : List Byte) :
    (s.taken e opc).checkImage img = s.checkImage img := rfl
@[simp] theorem State.displayAsked_taken (s : State) (e : SubEntry) (opc : Nat) (img : List Byte) :
    (s.taken e opc).displayAsked img = s.displayAsked img := rfl
@[simp] theorem State.counterBound_taken (s : State) (e : SubEntry) (opc k : Nat) :
    (s.taken e opc).counterBound k = s.counterBound k := rfl

/-- A command that is taken and works on no queue is completed by its completion. -/
theorem State.completed_of_fns {s u : State} {e : SubEntry} {opc : Nat} (h : u.fns = (s.taken e opc).fns) (status info : Nat) :
    s.Completed (u.done e status info) e status info := by
  refine State.completed_done ?_ _ _
  rw [State.fn, h]
  exact s.taken_sqHead e opc

/-- The command `c` of entry `e` completes with a status and INFO; registers, settings store, memory and cores stay as they are. -/
def State.EndsStored (s : State) (e : SubEntry) (c : Instr) (status info : Nat) : Prop :=
  ∃ t, exec c s = .next t ∧ s.Completed t e status info ∧ t.regs = s.regs ∧ t.nvm = s.nvm ∧ t.mem = s.mem ∧ t.cores = s.cores

/-- A command that is taken and only completed leaves the settings store as it is. -/
theorem State.endsStored_of_done {s : State} {e : SubEntry} {c : Instr} {opc status info : Nat}
    (h : exec c s = .next ((s.taken e opc).done e status info)) : s.EndsStored e c status info :=
  ⟨_, h, State.completed_done (s.taken_sqHead e opc) _ _, by rw [State.done_regs, State.taken_regs],
    by rw [State.done_nvm, State.nvm_taken], by rw [State.done_mem, State.mem_taken], by rw [State.done_cores, State.cores_taken]⟩

/-- The states in which STORE and COUNTER_ADVANCE are accepted (R758). -/
abbrev State.MayStore (s : State) : Prop := s.st = stHOLD ∨ s.st = stREADY ∨ s.st = stSERVICE

theorem State.storeState_iff (s : State) : s.storeState = true ↔ s.MayStore := by
  simp [State.storeState, or_assoc]

/-! ### The settings log (R765) -/

@[simp] theorem State.nvLog_fns (s : State) (kind slot arg value : Nat) (d : List Byte) : (s.nvLog kind slot arg value d).fns = s.fns := rfl
@[simp] theorem State.nvLog_mem (s : State) (kind slot arg value : Nat) (d : List Byte) : (s.nvLog kind slot arg value d).mem = s.mem := rfl
@[simp] theorem State.nvLog_slots (s : State) (kind slot arg value : Nat) (d : List Byte) :
    (s.nvLog kind slot arg value d).nvm.slots = s.nvm.slots := rfl

@[simp] theorem State.nvSlot_nvLog (s : State) (kind slot arg value : Nat) (d : List Byte) (k : Nat) :
    (s.nvLog kind slot arg value d).nvSlot k = s.nvSlot k := rfl

/-- A log entry moves no register but LOGSEQ. -/
theorem State.fld_nvLog (s : State) (kind slot arg value : Nat) (d : List Byte) {g : Fld} (h : g.off ≠ R.NVM_LOGSEQ) :
    (s.nvLog kind slot arg value d).fld g = s.fld g :=
  State.fld_setFld_off _ _ _ _ h

/-! ### SET_WRITE and SET_READ (R748, R766) -/

/-- A device whose staging buffer holds other bytes. -/
def State.withStaging (s : State) (m : SMap Byte) : State := { s with nvm := { s.nvm with staging := m } }

@[simp] theorem State.fns_withStaging (s : State) (m : SMap Byte) : (s.withStaging m).fns = s.fns := rfl
@[simp] theorem State.regs_withStaging (s : State) (m : SMap Byte) : (s.withStaging m).regs = s.regs := rfl
@[simp] theorem State.mem_withStaging (s : State) (m : SMap Byte) : (s.withStaging m).mem = s.mem := rfl
@[simp] theorem State.fld_withStaging (s : State) (m : SMap Byte) (g : Fld) : (s.withStaging m).fld g = s.fld g := rfl
@[simp] theorem State.nvSlot_withStaging (s : State) (m : SMap Byte) (k : Nat) : (s.withStaging m).nvSlot k = s.nvSlot k := rfl
@[simp] theorem State.nvm_withStaging (s : State) (m : SMap Byte) : (s.withStaging m).nvm = { s.nvm with staging := m } := rfl

/-- A buffer that was read whole has its length. -/
theorem length_data_of_hasBuf {e : SubEntry} {n : Nat} (h : e.hasBuf n = true) : e.data.length = n := by
  unfold SubEntry.hasBuf at h
  unfold SubEntry.data
  cases hb : e.buf with
  | none => simp [hb] at h
  | some d =>
    rw [hb] at h
    exact beq_iff_eq.1 (Bool.and_eq_true_iff.1 h).2

theorem exec_setWrite_fills {s : State} {e : SubEntry} (h : s.FromPf0 e) (ha : e.argsIn [(0, 4)] = true)
    (hb : e.hasBuf e.len.toNat = true) (hl : e.argN 0 4 + e.len.toNat ≤ 0x40000) : ∃ t, exec (.setWrite e) s = .next t ∧
      s.Completed t e 0 0 ∧ t.regs = s.regs ∧
      (∀ i, SMap.get (fun _ => 0) t.nvm.staging i =
        if e.argN 0 4 ≤ i ∧ i < e.argN 0 4 + e.len.toNat then e.data.getD (i - e.argN 0 4) 0 else SMap.get (fun _ => 0) s.nvm.staging i) ∧
      t.nvm = { s.nvm with staging := t.nvm.staging } := by
  have hx : exec (.setWrite e) s =
      .next (((s.taken e 0x30).withStaging (mapPut s.nvm.staging (e.argN 0 4) e.data)).done e 0 0) :=
    exec_of_pf0 (c := .setWrite e) (scrub := false) h
      (show (e.argsIn [(0, 4)] && e.argN 0 4 + e.len.toNat ≤ 0x40000 && e.hasBuf e.len.toNat) = true by simp [ha, hb, hl]) rfl
  refine ⟨_, hx, State.completed_of_fns (State.fns_withStaging _ _) _ _, ?_, fun i => ?_, ?_⟩
  · rw [State.done_regs, State.regs_withStaging, State.taken_regs]
  · rw [State.done_nvm, State.nvm_withStaging, get_mapPut, length_data_of_hasBuf hb]
  · rw [State.done_nvm, State.nvm_withStaging, State.nvm_taken]

/-- What SET_READ copies out: staging, or the slot of a bank. -/
def State.readSource (s : State) (src : Nat) : SMap Byte := if src = 0 then s.nvm.staging else s.nvSlot (s.fld (bankSlot (src == 2)))

theorem exec_setRead_copies {s : State} {e : SubEntry} (h : s.FromPf0 e) (ha : e.argsIn [(0, 1)] = true) (hs : e.arg 0 ≤ 2)
    (hl : e.len.toNat ≤ 0x40000) : ∃ t, exec (.setRead e) s = .next t ∧ s.Completed t e 0 0 ∧ t.regs = s.regs ∧ t.nvm = s.nvm ∧
      (t.fn e.fn).wrote = some (e.addr.toNat, mapBytes (s.readSource (e.arg 0)) 0 e.len.toNat) := by
  let u := (s.taken e 0x31).modFn e.fn (fun k => { k with wrote := some (e.addr.toNat, mapBytes (s.readSource (e.arg 0)) 0 e.len.toNat) })
  have hx : exec (.setRead e) s = .next (u.done e 0 0) := exec_of_pf0 (c := .setRead e) (scrub := false) h
    (show (e.argsIn [(0, 1)] && e.arg 0 ≤ 2 && e.len.toNat ≤ 0x40000) = true by simp [ha, hs, hl]) rfl
  have hfn : u.fn e.fn = { (s.taken e 0x31).fn e.fn with
      wrote := some (e.addr.toNat, mapBytes (s.readSource (e.arg 0)) 0 e.len.toNat) } := by
    rw [State.fn_modFn, if_pos rfl]
  refine ⟨_, hx, State.completed_done ?_ _ _, ?_, ?_, ?_⟩
  · rw [hfn]
    exact s.taken_sqHead e 0x31
  · rw [State.done_regs, State.regs_modFn, State.taken_regs]
  · rw [State.done_nvm]
    rfl
  · obtain ⟨_, _, _, _, _, _, _, hdone, -⟩ := u.fn_done e 0 0
    rw [hdone, hfn]

/-! ### A STORE whose read-back does not fail (R755) -/

/-- The slot that carries a bank. -/
abbrev State.bankAt (s : State) (b : Bool) : Nat := s.fld (bankSlot b)

/-- The generation that STORE gives its image (R751). -/
abbrev State.nextGen (s : State) : Nat := max (s.fld (bankGen false)) (s.fld (bankGen true)) + 1

/-- A bank whose slot has taken one more write (R755 step 1). -/
def State.wornOnce (s : State) (b : Bool) : State :=
  let w := s.fld (R.NVM_SLOT_WRITES (s.bankAt b)) + 1
  (s.setFld (R.NVM_SLOT_WRITES (s.bankAt b)) w).setFld (bankWear b) w

/-- A bank whose slot holds an image of a generation (R755 steps 1 to 5). -/
def State.storedIn (s : State) (b : Bool) (img : List Byte) (gen : Nat) : State :=
  let p := s.wornOnce b
  (p.setNvSlot (p.bankAt b) (storedSlot (p.nvSlot (p.bankAt b)) img gen)).setFld (bankGen b) gen

@[simp] theorem State.mem_storedIn (s : State) (b : Bool) (img : List Byte) (gen : Nat) : (s.storedIn b img gen).mem = s.mem := rfl
@[simp] theorem State.fns_storedIn (s : State) (b : Bool) (img : List Byte) (gen : Nat) : (s.storedIn b img gen).fns = s.fns := rfl

/-- A bank stored with its log entry, and staging emptied (R748, R755 step 7). -/
def State.storeLogged (s : State) (b : Bool) (img : List Byte) (gen : Nat) : State :=
  let p := s.storedIn b img gen
  (p.nvLog 1 (p.bankAt b) gen (p.fld (bankWear b)) (img.drop 0x20)).withStaging []

theorem State.fld_storeLogged (s : State) (b : Bool) (img : List Byte) (gen : Nat) {g : Fld} (h : g.off ≠ R.NVM_LOGSEQ) :
    (s.storeLogged b img gen).fld g = (s.storedIn b img gen).fld g := by
  rw [State.storeLogged, State.fld_withStaging, State.fld_nvLog _ _ _ _ _ _ h]

@[simp] theorem State.nvSlot_storeLogged (s : State) (b : Bool) (img : List Byte) (gen k : Nat) :
    (s.storeLogged b img gen).nvSlot k = (s.storedIn b img gen).nvSlot k := by
  rw [State.storeLogged, State.nvSlot_withStaging, State.nvSlot_nvLog]

@[simp] theorem State.staging_storeLogged (s : State) (b : Bool) (img : List Byte) (gen : Nat) :
    (s.storeLogged b img gen).nvm.staging = [] := by
  rw [State.storeLogged, State.nvm_withStaging]

@[simp] theorem State.mem_storeLogged (s : State) (b : Bool) (img : List Byte) (gen : Nat) :
    (s.storeLogged b img gen).mem = s.mem := by
  rw [State.storeLogged, State.mem_withStaging, State.nvLog_mem, State.mem_storedIn]

@[simp] theorem State.fns_storeLogged (s : State) (b : Bool) (img : List Byte) (gen : Nat) :
    (s.storeLogged b img gen).fns = s.fns := by
  rw [State.storeLogged, State.fns_withStaging, State.nvLog_fns, State.fns_storedIn]

theorem State.storePrep_wornOnce {s : State} {b : Bool} (hw : s.fld (R.NVM_SLOT_WRITES (s.bankAt b)) < 1000000) :
    s.storePrep b = (s.wornOnce b, true) := by
  unfold State.storePrep
  rw [if_neg (Nat.not_le.2 hw)]
  rfl

theorem State.storeTo_storedIn {s : State} {b : Bool} (hw : s.fld (R.NVM_SLOT_WRITES (s.bankAt b)) < 1000000) (img : List Byte) (gen : Nat) :
    s.storeTo b img gen 0 = (s.storedIn b img gen, true) := by
  unfold State.storeTo
  rw [State.storePrep_wornOnce hw]
  rfl

/-- The registers of the six slots lie apart from those of the banks and of the log. -/
theorem slotReg_apart {k : Nat} (hk : k < 6) (b : Bool) :
    R.NVM_SLOT k ≠ (bankWear b).off ∧ R.NVM_SLOT k ≠ (bankSlot b).off ∧ R.NVM_SLOT k ≠ (bankGen b).off ∧ R.NVM_SLOT k ≠ R.NVM_LOGSEQ := by
  have hlow : R.NVM_BANKB < R.NVM_SLOT k := by unfold R.NVM_BANKB R.NVM_SLOT; omega
  have hhigh : R.NVM_SLOT k < R.NVM_LOGSEQ := by unfold R.NVM_SLOT R.NVM_LOGSEQ; omega
  obtain ⟨hwear, hslot, hgen⟩ : (bankWear b).off ≤ R.NVM_BANKB ∧ (bankSlot b).off ≤ R.NVM_BANKB ∧ (bankGen b).off ≤ R.NVM_BANKB := by
    cases b <;> decide
  exact ⟨(hwear.trans_lt hlow).ne', (hslot.trans_lt hlow).ne', (hgen.trans_lt hlow).ne', hhigh.ne⟩

section
variable {s : State} {b : Bool} (hk : s.bankAt b < 6)
include hk

/-- Counting a write moves no bank to another slot. -/
theorem State.bankAt_wornOnce : (s.wornOnce b).bankAt b = s.bankAt b := by
  obtain ⟨-, hslot, -, -⟩ := slotReg_apart hk b
  unfold State.wornOnce
  rw [State.bankAt, State.fld_setFld_other _ _ _ _ (by cases b <;> decide) (by cases b <;> decide),
    State.fld_setFld_off _ _ _ _ hslot.symm]

/-- An image stored under a generation: it stands in the bank's slot, whose wear count is one higher, and in no other slot. -/
theorem State.storedIn_effect (hw : s.fld (R.NVM_SLOT_WRITES (s.bankAt b)) < 1000000) (img : List Byte) {gen : Nat} (hg : gen < 2 ^ 32) :
    let t := s.storedIn b img gen
    t.fld (bankGen b) = gen ∧ t.nvSlot (s.bankAt b) = storedSlot (s.nvSlot (s.bankAt b)) img gen ∧
    (∀ j, j ≠ s.bankAt b → t.nvSlot j = s.nvSlot j) ∧
    t.fld (R.NVM_SLOT_WRITES (s.bankAt b)) = s.fld (R.NVM_SLOT_WRITES (s.bankAt b)) + 1 := by
  obtain ⟨hwear, -, hgen, -⟩ := slotReg_apart hk b
  have hnv : ∀ j, (s.storedIn b img gen).nvSlot j =
      if j = s.bankAt b then storedSlot (s.nvSlot (s.bankAt b)) img gen else s.nvSlot j := by
    intro j
    unfold State.storedIn
    dsimp only
    rw [State.bankAt_wornOnce hk]
    exact SMap.get_set _ _ _ _ _
  refine ⟨?_, by rw [hnv, if_pos rfl], fun j hj => by rw [hnv, if_neg hj], ?_⟩
  · have hwidth : (bankGen b).lo + (bankGen b).w ≤ 64 ∧ (bankGen b).w = 32 := by cases b <;> decide
    refine (State.fld_setFld _ _ _ hwidth.1).trans ?_
    rw [hwidth.2]
    exact Nat.mod_eq_of_lt hg
  · have hcount : (s.wornOnce b).fld (R.NVM_SLOT_WRITES (s.bankAt b)) = s.fld (R.NVM_SLOT_WRITES (s.bankAt b)) + 1 := by
      refine (State.fld_setFld_off _ _ _ _ hwear).trans ((State.fld_setFld _ _ _ (by decide : 0 + 20 ≤ 64)).trans ?_)
      exact Nat.mod_eq_of_lt (by simp only [R.NVM_SLOT_WRITES] at hw ⊢; omega)
    exact (State.fld_setFld_off _ _ _ _ hgen).trans hcount

end

/-! ### The outcomes of STORE (R41, R755, R758, R760, R767) -/

/-- The image that STORE takes from staging. -/
abbrev State.staged (s : State) : List Byte := imageOf s.nvm.staging

/-- STORE is answered UNSUPPORTED for the image's display routes, ahead of check 7 (R41). -/
abbrev State.AsksDisplay (s : State) : Prop :=
  (s.checkImage s.staged = 0 ∨ s.checkImage s.staged = 7) ∧ s.displayAsked s.staged = true

theorem State.asksDisplay_taken (s : State) (e : SubEntry) (opc : Nat) : (s.taken e opc).AsksDisplay = s.AsksDisplay := by
  simp only [State.AsksDisplay, State.staged, State.nvm_taken, State.checkImage_taken, State.displayAsked_taken]

theorem State.storeSettings_readOnly {s : State} (h : s.flag R.NVM_STATUS_RO = true) (bad : Nat) : s.storeSettings bad = (s, 0x50, 0) := by
  rw [State.storeSettings, if_pos h]

section
variable {s : State} (hro : s.flag R.NVM_STATUS_RO = false)
include hro

theorem State.storeSettings_display (h : s.AsksDisplay) (bad : Nat) : s.storeSettings bad = (s, 0x02, 0) := by
  rw [State.storeSettings, if_neg (Bool.eq_false_iff.1 hro)]
  exact if_pos h

theorem State.storeSettings_bad (hd : ¬ s.AsksDisplay) (hc : s.checkImage s.staged ≠ 0) (bad : Nat) :
    s.storeSettings bad = (s, 0x54, s.checkImage s.staged) := by
  rw [State.storeSettings, if_neg (Bool.eq_false_iff.1 hro)]
  exact (if_neg hd).trans (if_pos hc)

/-- A STORE that is not refused writes the target bank. -/
theorem State.storeSettings_good (hd : ¬ s.AsksDisplay) (hc : s.checkImage s.staged = 0)
    (hw : s.fld (R.NVM_SLOT_WRITES (s.bankAt s.storeTarget)) < 1000000) :
    s.storeSettings 0 = (s.storeLogged s.storeTarget s.staged s.nextGen, 0, s.nextGen) := by
  rw [State.storeSettings, if_neg (Bool.eq_false_iff.1 hro)]
  refine (if_neg hd).trans ((if_neg (not_not.2 hc)).trans ?_)
  dsimp only
  rw [State.storeTo_storedIn hw]
  rfl

end

section
variable {s : State} {e : SubEntry} (h : s.FromPf0 e) (hok : (e.noBuf && e.argsIn []) = true)
include h hok

/-- STORE's own effect. -/
theorem exec_store_taken (bad : Nat) : exec (.store e bad) s = .next (
    let u := s.taken e 0x32
    if !s.storeState then u.done e 0x03 0
    else if s.dev.reval.isSome then u.done e 0x0A 0
    else (u.storeSettings bad).1.done e (u.storeSettings bad).2.1 (u.storeSettings bad).2.2) :=
  exec_of_pf0 (c := .store e bad) (scrub := false) h hok rfl

theorem State.endsStored_store (hs : ¬ s.MayStore) (bad : Nat) : s.EndsStored e (.store e bad) 0x03 0 := by
  have hx := exec_store_taken h hok bad
  dsimp only at hx
  rw [if_pos (by simpa using mt s.storeState_iff.1 hs)] at hx
  exact State.endsStored_of_done hx

section
variable (hs : s.MayStore)
include hs

theorem State.endsStored_store_busy (hr : s.dev.reval ≠ none) (bad : Nat) : s.EndsStored e (.store e bad) 0x0A 0 := by
  have hx := exec_store_taken h hok bad
  dsimp only at hx
  rw [s.storeState_iff.2 hs, if_neg (by decide), if_pos (Option.isSome_iff_ne_none.2 hr)] at hx
  exact State.endsStored_of_done hx

variable (hr : s.dev.reval = none)
include hr

/-- A STORE that no validation keeps off. -/
theorem exec_store_accepted (bad : Nat) : exec (.store e bad) s = .next (
    let r := (s.taken e 0x32).storeSettings bad
    r.1.done e r.2.1 r.2.2) := by
  have hx := exec_store_taken h hok bad
  dsimp only at hx
  rw [s.storeState_iff.2 hs, if_neg (by decide), hr, if_neg (by decide)] at hx
  exact hx

/-- A STORE that writes nothing. -/
theorem State.endsStored_store_refused {bad status info : Nat}
    (hx : (s.taken e 0x32).storeSettings bad = (s.taken e 0x32, status, info)) : s.EndsStored e (.store e bad) status info := by
  have hacc := exec_store_accepted h hok hs hr bad
  rw [hx] at hacc
  exact State.endsStored_of_done hacc

theorem State.endsStored_store_readOnly (hro : s.flag R.NVM_STATUS_RO = true) (bad : Nat) : s.EndsStored e (.store e bad) 0x50 0 := by
  have hro' : (s.taken e 0x32).flag R.NVM_STATUS_RO = true := (s.flag_taken e 0x32 _).trans hro
  exact State.endsStored_store_refused h hok hs hr (State.storeSettings_readOnly hro' bad)

variable (hro : s.flag R.NVM_STATUS_RO = false)
include hro

theorem State.endsStored_store_display (hd : s.AsksDisplay) (bad : Nat) : s.EndsStored e (.store e bad) 0x02 0 := by
  have hro' : (s.taken e 0x32).flag R.NVM_STATUS_RO = false := (s.flag_taken e 0x32 _).trans hro
  rw [← s.asksDisplay_taken e 0x32] at hd
  exact State.endsStored_store_refused h hok hs hr (State.storeSettings_display hro' hd bad)

theorem State.endsStored_store_bad (hd : ¬ s.AsksDisplay) (hc : s.checkImage s.staged ≠ 0) (bad : Nat) :
    s.EndsStored e (.store e bad) 0x54 (s.checkImage s.staged) := by
  have hro' : (s.taken e 0x32).flag R.NVM_STATUS_RO = false := (s.flag_taken e 0x32 _).trans hro
  rw [← s.asksDisplay_taken e 0x32] at hd
  rw [← s.checkImage_taken e 0x32] at hc ⊢
  exact State.endsStored_store_refused h hok hs hr (State.storeSettings_bad hro' hd hc bad)

theorem exec_store_stores (hc : s.checkImage s.staged = 0) (hd : s.displayAsked s.staged = false)
    (hk : s.bankAt s.storeTarget < 6) (hw : s.fld (R.NVM_SLOT_WRITES (s.bankAt s.storeTarget)) < 1000000) (hg : s.nextGen < 2 ^ 32) :
    ∃ t, exec (.store e 0) s = .next t ∧ s.Completed t e 0 s.nextGen ∧ t.nvm.staging = [] ∧
      t.fld (bankGen s.storeTarget) = s.nextGen ∧
      t.nvSlot (s.bankAt s.storeTarget) = storedSlot (s.nvSlot (s.bankAt s.storeTarget)) s.staged s.nextGen ∧
      (∀ j, j ≠ s.bankAt s.storeTarget → t.nvSlot j = s.nvSlot j) ∧
      t.fld (R.NVM_SLOT_WRITES (s.bankAt s.storeTarget)) = s.fld (R.NVM_SLOT_WRITES (s.bankAt s.storeTarget)) + 1 ∧ t.mem = s.mem := by
  have hno : ¬ s.AsksDisplay := fun hn => Bool.eq_false_iff.1 hd hn.2
  have hstore : (s.taken e 0x32).storeSettings 0 = ((s.taken e 0x32).storeLogged s.storeTarget s.staged s.nextGen, 0, s.nextGen) :=
    State.storeSettings_good hro (by rwa [State.asksDisplay_taken]) ((s.checkImage_taken e 0x32 _).trans hc) hw
  obtain ⟨hgen, hslot, hother, hwrites⟩ := State.storedIn_effect (s := s.taken e 0x32) hk hw s.staged hg
  obtain ⟨-, -, -, hlog⟩ := slotReg_apart hk s.storeTarget
  have hx := exec_store_accepted h hok hs hr 0
  dsimp only at hx
  rw [hstore] at hx
  refine ⟨_, hx, State.completed_of_fns (State.fns_storeLogged _ _ _ _) _ _, ?_, ?_, ?_, fun j hj => ?_, ?_, ?_⟩
  · rw [State.done_nvm, State.staging_storeLogged]
  · rw [State.fld_done, State.fld_storeLogged _ _ _ _ (by cases s.storeTarget <;> decide)]
    exact hgen
  · rw [State.nvSlot_done, State.nvSlot_storeLogged]
    exact hslot
  · rw [State.nvSlot_done, State.nvSlot_storeLogged]
    exact hother j hj
  · rw [State.fld_done, State.fld_storeLogged _ _ _ _ hlog]
    exact hwrites
  · rw [State.done_mem, State.mem_storeLogged, State.mem_taken]

end

end

/-! ### The counters (R762, R763) -/

/-- A request to increment is an advance to the next value, but for a saturated counter (R763). -/
theorem State.advanceCounter_increment (s : State) (k v : Nat) : s.advanceCounter k v true =
    if s.fld (R.NVM_CTR_VALUE k) = 0xFFFFFFFF then (s, 0x51) else s.advanceCounter k (s.fld (R.NVM_CTR_VALUE k) + 1) false := by
  simp [State.advanceCounter]

/-- An advance by the cases of R762. -/
theorem State.advanceCounter_eq (s : State) (k v : Nat) : s.advanceCounter k v false =
    if v < s.fld (R.NVM_CTR_VALUE k) then (s, 0x53)
    else if v = s.fld (R.NVM_CTR_VALUE k) then (s, 0)
    else if s.counterBound k < v then (s, 0x52)
    else ((s.setFld (R.NVM_CTR_VALUE k) v).nvLog 4 k (s.fld (R.NVM_CTR_VALUE k)) v [], 0) := rfl

/-- Every counter is a register of its own. -/
theorem ctr_ne {j k : Nat} (h : j ≠ k) : R.NVM_CTR j ≠ R.NVM_CTR k := by
  unfold R.NVM_CTR
  omega

theorem ctr_ne_logseq (k : Nat) : R.NVM_CTR k ≠ R.NVM_LOGSEQ := by
  unfold R.NVM_CTR R.NVM_LOGSEQ
  omega

/-- What follows an accepted counter command of entry `e` that advances counter `k` to `v`. -/
def State.advancedBy (s : State) (e : SubEntry) (k v : Nat) : State :=
  let r := (s.taken e 0x33).advanceCounter k v false
  r.1.done e r.2 0

/-- The command `c` of entry `e` raises counter `k` to `v`, and no other counter. -/
def State.Raises (s : State) (e : SubEntry) (c : Instr) (k v : Nat) : Prop :=
  ∃ t, exec c s = .next t ∧ s.Completed t e 0 0 ∧ t.fld (R.NVM_CTR_VALUE k) = v ∧
    (∀ j, j < 64 → j ≠ k → t.fld (R.NVM_CTR_VALUE j) = s.fld (R.NVM_CTR_VALUE j)) ∧ t.nvm.slots = s.nvm.slots ∧ t.mem = s.mem

section
variable {s : State} {e : SubEntry} {c : Instr} {k v : Nat} (hx : exec c s = .next (s.advancedBy e k v))
include hx

theorem State.endsStored_of_below (h : v < s.fld (R.NVM_CTR_VALUE k)) : s.EndsStored e c 0x53 0 := by
  rw [State.advancedBy, State.advanceCounter_eq, State.fld_taken, if_pos h] at hx
  exact State.endsStored_of_done hx

theorem State.endsStored_of_equal (h : v = s.fld (R.NVM_CTR_VALUE k)) : s.EndsStored e c 0 0 := by
  rw [State.advancedBy, State.advanceCounter_eq, State.fld_taken, if_neg (Nat.not_lt.2 h.ge), if_pos h] at hx
  exact State.endsStored_of_done hx

theorem State.endsStored_of_ahead (h : s.fld (R.NVM_CTR_VALUE k) < v) (hb : s.counterBound k < v) : s.EndsStored e c 0x52 0 := by
  rw [State.advancedBy, State.advanceCounter_eq, State.fld_taken, if_neg (Nat.not_lt.2 h.le), if_neg h.ne', State.counterBound_taken,
    if_pos hb] at hx
  exact State.endsStored_of_done hx

theorem State.raises_of_bounded (h : s.fld (R.NVM_CTR_VALUE k) < v) (hb : v ≤ s.counterBound k) (hv : v < 2 ^ 32) : s.Raises e c k v := by
  rw [State.advancedBy, State.advanceCounter_eq, State.fld_taken, if_neg (Nat.not_lt.2 h.le), if_neg h.ne', State.counterBound_taken,
    if_neg (Nat.not_lt.2 hb)] at hx
  refine ⟨_, hx, State.completed_of_fns ((State.nvLog_fns _ _ _ _ _ _).trans (State.setFld_fns _ _ _)) _ _, ?_, fun j _ hj => ?_, ?_, ?_⟩
  · rw [State.fld_done, State.fld_nvLog _ _ _ _ _ _ (ctr_ne_logseq k), State.fld_setFld _ _ _ (by decide : 0 + 32 ≤ 64)]
    exact Nat.mod_eq_of_lt hv
  · rw [State.fld_done, State.fld_nvLog _ _ _ _ _ _ (ctr_ne_logseq j), State.fld_setFld_off _ _ _ _ (ctr_ne hj), State.fld_taken]
  · rw [State.done_nvm, State.nvLog_slots, State.setFld_nvm, State.nvm_taken]
  · rw [State.done_mem, State.nvLog_mem, State.setFld_mem, State.mem_taken]

end

section
variable {s : State} {e : SubEntry} (h : s.FromPf0 e) (hok : (e.noBuf && ctrArgsOk e) = true)
include h hok

/-- The increment bit makes COUNTER_ADVANCE the increment (R763, R766). -/
theorem exec_counterAdvance_increment (hi : bit e.args.toNat 63 = true) : exec (.counterAdvance e) s = exec (.counterIncrement e) s := by
  have hadv := exec_of_pf0 (c := .counterAdvance e) (scrub := false) h hok rfl
  have hinc := exec_of_pf0 (c := .counterIncrement e) (scrub := false) h hok rfl
  dsimp only at hadv hinc
  rw [hi, State.advanceCounter_increment] at hadv
  rw [State.advanceCounter_increment] at hinc
  exact hadv.trans hinc.symm

theorem State.endsStored_counters (hs : ¬ s.MayStore) :
    s.EndsStored e (.counterAdvance e) 0x03 0 ∧ s.EndsStored e (.counterIncrement e) 0x03 0 := by
  have hno : (!s.storeState) = true := by simpa using mt s.storeState_iff.1 hs
  have hadv := exec_of_pf0 (c := .counterAdvance e) (scrub := false) h hok rfl
  have hinc := exec_of_pf0 (c := .counterIncrement e) (scrub := false) h hok rfl
  rw [State.storeState_taken, if_pos hno] at hadv hinc
  exact ⟨State.endsStored_of_done hadv, State.endsStored_of_done hinc⟩

variable (hs : s.MayStore)
include hs

theorem exec_counterAdvance_advances (hi : bit e.args.toNat 63 = false) :
    exec (.counterAdvance e) s = .next (s.advancedBy e (e.args.toNat % 64) (e.argN 8 4)) := by
  have hx := exec_of_pf0 (c := .counterAdvance e) (scrub := false) h hok rfl
  rw [State.storeState_taken, s.storeState_iff.2 hs, if_neg (by decide), hi] at hx
  exact hx

/-- COUNTER_INCREMENT's own effect. -/
theorem exec_counterIncrement_accepted : exec (.counterIncrement e) s = .next (
    let r := (s.taken e 0x33).advanceCounter (e.args.toNat % 64) 0 true
    r.1.done e r.2 0) := by
  have hx := exec_of_pf0 (c := .counterIncrement e) (scrub := false) h hok rfl
  rw [State.storeState_taken, s.storeState_iff.2 hs, if_neg (by decide)] at hx
  exact hx

theorem exec_counterIncrement_advances (hn : s.fld (R.NVM_CTR_VALUE (e.args.toNat % 64)) < 0xFFFFFFFF) :
    exec (.counterIncrement e) s =
      .next (s.advancedBy e (e.args.toNat % 64) (s.fld (R.NVM_CTR_VALUE (e.args.toNat % 64)) + 1)) := by
  have hx := exec_counterIncrement_accepted h hok hs
  rw [State.advanceCounter_increment, State.fld_taken, if_neg hn.ne] at hx
  exact hx

/-- A saturated counter is not incremented (R763). -/
theorem State.endsStored_saturated (hn : s.fld (R.NVM_CTR_VALUE (e.args.toNat % 64)) = 0xFFFFFFFF) :
    s.EndsStored e (.counterIncrement e) 0x51 0 := by
  have hx := exec_counterIncrement_accepted h hok hs
  rw [State.advanceCounter_increment, State.fld_taken, if_pos hn] at hx
  exact State.endsStored_of_done hx

end

/-! ### The obligation -/

/-- Settles O57: SET_WRITE and SET_READ by what they copy, STORE by its refusals in their order and by what it stores, the counter
commands by the cases of an advance, which an increment below saturation is too. -/
theorem storeCommands : Obligations.StoreCommands := by
  unfold Obligations.StoreCommands
  intro e s h v able ends
  have hargN : ∀ i, e.argN i 4 = v / 256 ^ i % 2 ^ 32 := fun _ => rfl
  have hoff : e.argN 0 4 = v % 2 ^ 32 := by rw [hargN, pow_zero, Nat.div_one]
  have hx : e.argN 8 4 = v / 2 ^ 64 % 2 ^ 32 := hargN 8
  refine ⟨fun ha hb hl => ?_, fun ha hs hl => ?_, fun hb ha => ?_, fun hb hlow hhigh => ?_⟩
  · rw [← hoff] at hl ⊢
    exact exec_setWrite_fills h ha hb hl
  · obtain ⟨t, ht, hdone, hregs, hnvm, hwrote⟩ := exec_setRead_copies h ha hs hl
    refine ⟨t, ht, hdone, hregs, hnvm, hwrote.trans ?_⟩
    simp [mapBytes, State.readSource, bankSlot]
  · have hok : (e.noBuf && e.argsIn []) = true := by rw [hb, ha]; rfl
    refine ⟨fun bad hs => State.endsStored_store h hok hs bad, fun bad hs hr => State.endsStored_store_busy h hok hs hr bad,
      fun bad hs hr hro => State.endsStored_store_readOnly h hok hs hr hro bad,
      fun bad hs hr hro => ⟨fun hc hd => State.endsStored_store_display h hok hs hr hro ⟨hc, hd⟩ bad, fun hc hd => ?_⟩,
      fun hs hr hro hc hd hk hw hg => exec_store_stores h hok hs hr hro hc hd hk hw hg⟩
    have hno : ¬ s.AsksDisplay := by
      rintro ⟨hpass, hasks⟩
      exact hd.elim (fun h7 => hpass.elim hc h7) (fun hf => Bool.eq_false_iff.1 hf hasks)
    exact State.endsStored_store_bad h hok hs hr hro hno hc bad
  · have hok : (e.noBuf && ctrArgsOk e) = true := by
      rw [hb, ctrArgsOk, beq_iff_eq.2 hlow, beq_iff_eq.2 hhigh]
      rfl
    refine ⟨fun hs => State.endsStored_counters h hok hs, fun hs => ?_⟩
    have inc := @exec_counterIncrement_advances s e h hok hs
    have adv := fun hi => hx ▸ exec_counterAdvance_advances h hok hs hi
    exact ⟨State.endsStored_saturated h hok hs,
      fun hn hb => State.endsStored_of_ahead (inc hn) (Nat.lt_succ_self _) hb,
      fun hn hb => State.raises_of_bounded (inc hn) (Nat.lt_succ_self _) hb (Nat.succ_lt_succ hn),
      fun hi hv => State.endsStored_of_below (adv hi) hv, fun hi hv => State.endsStored_of_equal (adv hi) hv,
      fun hi hn hb => State.endsStored_of_ahead (adv hi) hn hb,
      fun hi hn hb => State.raises_of_bounded (adv hi) hn hb (Nat.mod_lt _ (by decide)),
      exec_counterAdvance_increment h hok⟩

end Sys2Proof.Machine
end

section
-- One proof after another: what waits for another costs the check memory.
set_option Elab.async false
/-! SUPPORT. The canonical form of registers and memory (O4): one lemma for each operation of the model, in the order of the model's
files, says that the operation keeps it; each proof follows the definition and cites the lemmas of what the definition calls. -/
namespace Sys2Proof.Machine

/-! ### The predicates and their rules -/

/-- The canonical form as a predicate of its own. `State.Canonical` is an abbreviation, which the kernel unfolds before it compares two
states; this one it does not. -/
def State.Tidy (s : State) : Prop := s.Canonical

theorem State.Tidy.setReg {s : State} (h : s.Tidy) (off : ℕ) (v : BitVec 64) : (s.setReg off v).Tidy :=
  State.Canonical.setReg h off v

theorem State.Tidy.setFld {s : State} (h : s.Tidy) (f : Fld) (v : ℕ) : (s.setFld f v).Tidy :=
  State.Canonical.setFld h f v

theorem State.Tidy.satAdd {s : State} (h : s.Tidy) (f : Fld) (n : ℕ) : (s.satAdd f n).Tidy :=
  State.Canonical.satAdd h f n

theorem State.Tidy.satInc {s : State} (h : s.Tidy) (f : Fld) : (s.satInc f).Tidy :=
  State.Canonical.satInc h f

theorem State.Tidy.wrapInc {s : State} (h : s.Tidy) (f : Fld) : (s.wrapInc f).Tidy :=
  State.Canonical.wrapInc h f

theorem State.Tidy.fldBitSet {s : State} (h : s.Tidy) (f : Fld) (i : ℕ) : (s.fldBitSet f i).Tidy :=
  State.Canonical.fldBitSet h f i

theorem State.Tidy.fldBitClr {s : State} (h : s.Tidy) (f : Fld) (i : ℕ) : (s.fldBitClr f i).Tidy :=
  State.Canonical.fldBitClr h f i

theorem State.Tidy.setCore {s : State} (h : s.Tidy) (n : ℕ) (k : Core) : (s.setCore n k).Tidy :=
  State.Canonical.setCore h n k

theorem State.Tidy.modCore {s : State} (h : s.Tidy) (n : ℕ) (g : Core → Core) : (s.modCore n g).Tidy :=
  State.Canonical.modCore h n g

theorem State.Tidy.setByte {s : State} (h : s.Tidy) (a : ℕ) (b : Byte) : (s.setByte a b).Tidy :=
  State.Canonical.setByte h a b

theorem State.Tidy.setBytes {s : State} (h : s.Tidy) (a : ℕ) (l : List Byte) : (s.setBytes a l).Tidy :=
  State.Canonical.setBytes h a l

theorem State.Tidy.putMem {s : State} (h : s.Tidy) (a : ℕ) (l : List Byte) : (s.putMem a l).Tidy :=
  State.Canonical.putMem h a l

theorem State.Tidy.takeLoss {s : State} (h : s.Tidy) (l : Loss) : (s.takeLoss l).Tidy :=
  State.Canonical.takeLoss h l

theorem State.Tidy.loseRegion {s : State} (h : s.Tidy) (r : ℕ) (keep : List (ℕ × ℕ)) : (s.loseRegion r keep).Tidy :=
  State.Canonical.loseRegion h r keep

theorem State.Tidy.clearRegion {s : State} (h : s.Tidy) (r : ℕ) : (s.clearRegion r).Tidy :=
  State.Canonical.clearRegion h r

theorem State.Tidy.clearRegs {s : State} (h : s.Tidy) (lo len : ℕ) : (s.clearRegs lo len).Tidy :=
  State.Canonical.clearRegs h lo len

theorem State.Tidy.copyRegs {s : State} (h : s.Tidy) (lo len dst : ℕ) : (s.copyRegs lo len dst).Tidy :=
  State.Canonical.copyRegs h lo len dst

theorem State.Tidy.iter {s : State} (n : ℕ) (g : ℕ → State → State) (hg : ∀ i t, t.Tidy → (g i t).Tidy) (h : s.Tidy) :
    (s.iter n g).Tidy :=
  State.Canonical.iter n g hg h

theorem State.Tidy.foldl {α : Type} {s : State} (l : List α) (g : State → α → State) (hg : ∀ t a, t.Tidy → (g t a).Tidy) (h : s.Tidy) :
    (l.foldl g s).Tidy :=
  State.Canonical.foldl l g hg h

/-- A state with fields other than the control window, memory and its losses replaced. -/
theorem State.Tidy.update {s : State} (h : s.Tidy) {pending poison ecc cores fab pins dev reeve fns irqs halves sun samples jobs
    net taps chimes cvuSeen param sio ladder nvm keep nim power trace freeCtr} :
    (State.mk pending s.regs s.mem s.memGen poison ecc cores fab pins dev reeve fns irqs halves sun samples jobs net taps chimes cvuSeen
      param sio ladder nvm keep nim power trace freeCtr).Tidy := h

theorem State.Tidy.ite {p : Prop} {_ : Decidable p} {s t : State} (hs : s.Tidy) (ht : t.Tidy) :
    (if p then s else t).Tidy := by
  split
  · exact hs
  · exact ht

theorem State.Tidy.ite_fst {α : Type} {p : Prop} {_ : Decidable p} {x y : State × α} (hx : x.1.Tidy) (hy : y.1.Tidy) :
    (if p then x else y).1.Tidy := by
  split
  · exact hx
  · exact hy

/-- An operation over a list that carries a value along keeps the form when each turn of it does. -/
theorem State.Tidy.foldl_fst {α β : Type} {x : State × β} (l : List α) (g : State × β → α → State × β)
    (hg : ∀ x a, x.1.Tidy → (g x a).1.Tidy) (h : x.1.Tidy) : (l.foldl g x).1.Tidy := by
  induction l generalizing x with
  | nil => exact h
  | cons a l ih => exact ih (hg x a h)

/-- What an instruction leaves is canonical, however it ends. -/
def SOut.Tidy : SOut → Prop
  | .done s | .goto s _ | .exc s _ | .stay s => s.Tidy

theorem SOut.Tidy.done {s : State} (h : s.Tidy) : (SOut.done s).Tidy := h
theorem SOut.Tidy.goto {s : State} (h : s.Tidy) {pc : Word} : (SOut.goto s pc).Tidy := h
theorem SOut.Tidy.exc {s : State} (h : s.Tidy) {e : Exc} : (SOut.exc s e).Tidy := h
theorem SOut.Tidy.stay {s : State} (h : s.Tidy) : (SOut.stay s).Tidy := h

theorem SOut.Tidy.ite {p : Prop} {_ : Decidable p} {x y : SOut} (hx : x.Tidy) (hy : y.Tidy) :
    (if p then x else y).Tidy := by
  split
  · exact hx
  · exact hy

/-- What an engine's entry leaves is canonical, however it ends. -/
def EOut.Tidy : EOut → Prop
  | .wait s | .stop s _ _ | .done s => s.Tidy

theorem EOut.Tidy.wait {s : State} (h : s.Tidy) : (EOut.wait s).Tidy := h
theorem EOut.Tidy.stop {s : State} (h : s.Tidy) {code addr : Nat} : (EOut.stop s code addr).Tidy := h
theorem EOut.Tidy.done {s : State} (h : s.Tidy) : (EOut.done s).Tidy := h

theorem EOut.Tidy.ite {p : Prop} {_ : Decidable p} {x y : EOut} (hx : x.Tidy) (hy : y.Tidy) :
    (if p then x else y).Tidy := by
  split
  · exact hx
  · exact hy

/-- The state of a run in progress is canonical. -/
def Run.Tidy (r : Run) : Prop := r.s.Tidy

theorem Run.Tidy.mk {s : State} (h : s.Tidy) {err : Option (Nat × Nat)} : (Run.mk s err).Tidy := h
theorem State.Tidy.ofRun {r : Run} (h : r.Tidy) : r.s.Tidy := h

theorem Run.Tidy.ite {p : Prop} {_ : Decidable p} {x y : Run} (hx : x.Tidy) (hy : y.Tidy) :
    (if p then x else y).Tidy := by
  split
  · exact hx
  · exact hy

theorem Run.Tidy.ite_fst {α : Type} {p : Prop} {_ : Decidable p} {x y : Run × α} (hx : x.1.Tidy) (hy : y.1.Tidy) :
    (if p then x else y).1.Tidy := by
  split
  · exact hx
  · exact hy

theorem Run.Tidy.foldl_fst {α β : Type} {x : Run × β} (l : List α) (g : Run × β → α → Run × β)
    (hg : ∀ x a, x.1.Tidy → (g x a).1.Tidy) (h : x.1.Tidy) : (l.foldl g x).1.Tidy := by
  induction l generalizing x with
  | nil => exact h
  | cons a l ih => exact ih (hg x a h)

theorem Run.Tidy.foldl {α : Type} {x : Run} (l : List α) (g : Run → α → Run)
    (hg : ∀ x a, x.Tidy → (g x a).Tidy) (h : x.Tidy) : (l.foldl g x).Tidy := by
  induction l generalizing x with
  | nil => exact h
  | cons a l ih => exact ih (hg x a h)

/-- A command's meaning answers a next state, and that state is canonical. -/
def Step.Tidy (r : Step) : Prop := ∃ t, r = .next t ∧ t.Tidy

theorem Step.Tidy.next {t : State} (h : t.Tidy) : Step.Tidy (.next t) := ⟨t, rfl, h⟩

theorem Step.Tidy.ite {p : Prop} {_ : Decidable p} {x y : Step} (hx : x.Tidy) (hy : y.Tidy) :
    Step.Tidy (if p then x else y) := by
  split
  · exact hx
  · exact hy

/-- The state of a pair is canonical. -/
def PairTidy {α : Type} (x : State × α) : Prop := x.1.Tidy

theorem PairTidy.mk {α : Type} {s : State} {a : α} (h : s.Tidy) : PairTidy (s, a) := h
theorem PairTidy.of {α : Type} {x : State × α} (h : x.1.Tidy) : PairTidy x := h

theorem PairTidy.ite {α : Type} {p : Prop} {_ : Decidable p} {x y : State × α} (hx : PairTidy x) (hy : PairTidy y) :
    PairTidy (if p then x else y) := by
  split
  · exact hx
  · exact hy

/-! ### The operations of Machine/Ops.lean -/

theorem State.Tidy.draw {s : State} (h : s.Tidy) : s.draw.2.Tidy := .update h


theorem State.Tidy.logFence {s : State} {m : Master} {cls : ℕ} {write : Bool} {a : ℕ} (h : s.Tidy) :
    (s.logFence m cls write a).Tidy :=
  .ite (.satInc (.satInc h _) _) (.setFld (.setFld (.setFld (.setFld (.setFld (.setFld (.satInc h _) _ _) _ _) _ _) _ _) _ _) _ _)

theorem State.Tidy.setDom {s : State} {d : ℕ} {on : Bool} (h : s.Tidy) : (s.setDom d on).Tidy :=
  .ite (.fldBitSet h _ _) (.fldBitClr h _ _)

theorem State.Tidy.wakeSpm {s : State} {n : ℕ} (h : s.Tidy) : (s.wakeSpm n).Tidy :=
  .ite (.setDom h) h

theorem State.Tidy.setPad {s : State} {n : ℕ} {d : Drive} (h : s.Tidy) : (s.setPad n d).Tidy :=
  .update h

/-! ### The operations of Machine/Flags.lean -/

theorem State.Tidy.setEngFlags {s : State} {n base fl : ℕ} (h : s.Tidy) : (s.setEngFlags n base fl).Tidy :=
  .ite h (.setReg h _ _)

/-! ### The operations of Machine/Device.lean -/

theorem State.Tidy.setFn {s : State} {f : ℕ} {k : Fn} (h : s.Tidy) : (s.setFn f k).Tidy :=
  .update h

theorem State.Tidy.modFn {s : State} {f : ℕ} {g : Fn → Fn} (h : s.Tidy) : (s.modFn f g).Tidy :=
  .setFn h

theorem State.Tidy.fire {s : State} {f v : ℕ} (h : s.Tidy) : (s.fire f v).Tidy :=
  .update (.modFn h)

theorem State.Tidy.signal {s : State} {f v : ℕ} (h : s.Tidy) : (s.signal f v).Tidy :=
  .ite (.ite (.fire h) (.modFn h)) (.fire h)

theorem State.Tidy.writeCq {s : State} {f : ℕ} {e : CqEntry} (h : s.Tidy) : (s.writeCq f e).Tidy :=
  .signal (.setFn h)

theorem State.Tidy.complete {s : State} {f cid status info : ℕ} (h : s.Tidy) : (s.complete f cid status info).Tidy :=
  .ite (.writeCq (.modFn h)) (.modFn (.modFn h))

theorem State.Tidy.postEvent {s : State} {f kind info : ℕ} (h : s.Tidy) : (s.postEvent f kind info).Tidy :=
  .ite (.satInc h _) (.ite (.writeCq h) (.ite (.modFn h) (.ite (.modFn h) (.satInc h _))))

theorem State.Tidy.flushCq {s : State} {f n : ℕ} (h : s.Tidy) : (s.flushCq f n).Tidy := by
  induction n generalizing s with
  | zero => exact h
  | succ n ih =>
    rw [State.flushCq]
    split
    · exact h
    · exact .ite (ih (.writeCq (.modFn h))) h

theorem State.Tidy.quietOutputs {s : State} (h : s.Tidy) : s.quietOutputs.Tidy :=
  .ite h (.update h)

theorem State.Tidy.setState {s : State} {n : ℕ} (h : s.Tidy) : (s.setState n).Tidy :=
  .ite h (.postEvent (.quietOutputs (.setFld (.setFld h _ _) _ _)))

theorem State.Tidy.bumpDevEpoch {s : State} (h : s.Tidy) : s.bumpDevEpoch.Tidy :=
  .setFld h _ _

theorem State.Tidy.dropWaiting {s : State} (h : s.Tidy) : s.dropWaiting.Tidy :=
  .foldl _ _ (fun _ _ h1 => .complete h1) (.update h)

theorem State.Tidy.trip {s : State} {source detail : ℕ} {reeveDie : Bool} (h : s.Tidy) :
    (s.trip source detail reeveDie).Tidy := by
  unfold State.trip
  refine .ite h ?_
  extract_lets d t u sec v w x y
  have hu : u.Tidy := .setFld (.setFld (.setFld (.setFld (.dropWaiting h) _ _) _ _) _ _) _ _
  have hw : w.Tidy := .setFld (.setFld (.setFld (.setFld (.setFld (.setFld (.setFld hu _ _) _ _) _ _) _ _) _ _) _ _) _ _
  have hx : x.Tidy := .satInc hw _
  have hy : y.Tidy := .ite (.satInc hx _) hx
  exact .setState (.update (.setFld (.setFld hy _ _) _ _))

theorem State.Tidy.fatal {s : State} {code : ℕ} {detail : optParam ℕ 0} (h : s.Tidy) : (s.fatal code detail).Tidy :=
  .trip h

theorem State.Tidy.lose {s : State} {k : ℕ} (h : s.Tidy) : (s.lose k).Tidy :=
  .ite h (.ite (.setState (.update h)) (.update h))

theorem State.Tidy.regain {s : State} {k : ℕ} (h : s.Tidy) : (s.regain k).Tidy :=
  .ite h (.ite (.setState (.update h)) (.update h))

theorem State.Tidy.accErr {s : State} {m : Master} {addr : ℕ} (h : s.Tidy) : (s.accErr m addr).Tidy :=
  .ite (.satInc h _) (.setFld (.setFld (.setFld (.setFld h _ _) _ _) _ _) _ _)

theorem State.Tidy.discard {s : State} {m : Master} {off : ℕ} (h : s.Tidy) : (s.discard m off).Tidy :=
  .accErr h

theorem State.Tidy.traceRec {s : State} {c kind val : ℕ} (h : s.Tidy) : (s.traceRec c kind val).Tidy :=
  .ite h (.ite (.update h) (.satInc (.update h) _))

theorem State.Tidy.dropRegs {s : State} (h : s.Tidy) (p : ℕ → Bool) : ({ s with regs := SMap.dropKeys s.regs p } : State).Tidy :=
  ⟨SMap.wf_dropKeys _ _ p h.1, h.2⟩

/-! ### The operations of Machine/CoreRestart.lean -/

theorem State.Tidy.objsToBase {s : State} {n : ℕ} {p : State → ℕ → Bool} (h : s.Tidy) : (s.objsToBase n p).Tidy :=
  .foldl _ _ (fun _ _ h1 => .ite (.setFld h1 _ _) h1) (.dropRegs h _)

theorem State.Tidy.breakBarrier {s : State} {b n : ℕ} (h : s.Tidy) : (s.breakBarrier b n).Tidy :=
  .ite h (.update (.setFld (.wrapInc h _) _ _))

theorem State.Tidy.resetCore {s : State} {n : ℕ} (h : s.Tidy) : (s.resetCore n).Tidy :=
  .update (.foldl _ _ (fun _ _ h1 => .breakBarrier h1) (.setFld (.setFld (.setFld (.setFld (.setFld (.setFld (.setFld (.setReg
    (.update (.loseRegion (.objsToBase (.setCore h _ _)) _ _)) _ _) _ _) _ _) _ _) _ _) _ _) _ _) _ _))

theorem State.Tidy.stepCoreEpoch {s : State} {n : ℕ} (h : s.Tidy) : (s.stepCoreEpoch n).Tidy :=
  .setFld h _ _

theorem State.Tidy.failCore {s : State} {n : ℕ} (h : s.Tidy) : (s.failCore n).Tidy :=
  .setFld (.stepCoreEpoch (.resetCore h)) _ _

theorem State.Tidy.beginRestart {s : State} {n cause : ℕ} (h : s.Tidy) : (s.beginRestart n cause).Tidy :=
  .setFld (.setFld (.satInc (.stepCoreEpoch (.resetCore h)) _) _ _) _ _

theorem State.Tidy.moveTable {s : State} {n sp : ℕ} (h : s.Tidy) : (s.moveTable n sp).Tidy :=
  .clearRegs (.foldl _ _ (fun _ _ h1 => .setFld h1 _ _) (.setFld (.setFld (.setFld (.setFld (.copyRegs h _ _ _) _ _) _ _) _ _) _
    _)) _ _

theorem State.Tidy.startSteward {s : State} {n : ℕ} (h : s.Tidy) : (s.startSteward n).Tidy :=
  .modCore h _ _

theorem State.Tidy.placeCores {s : State} (h : s.Tidy) : s.placeCores.Tidy :=
  .iter _ _ (fun _ _ h1 => .ite h1 (.setFld h1 _ _)) h

theorem State.Tidy.rewriteLines {s : State} {n : ℕ} (h : s.Tidy) : (s.rewriteLines n).Tidy :=
  .update h

theorem State.Tidy.moveWork {s : State} {n sp : ℕ} (h : s.Tidy) : (s.moveWork n sp).Tidy :=
  .lose (.setFld (.update (.update (.setFld (.setFld (.moveTable (.rewriteLines h)) _ _) _ _))) _ _)

theorem State.Tidy.replaceCore {s : State} {n cause : ℕ} (h : s.Tidy) : (s.replaceCore n cause).Tidy := by
  unfold State.replaceCore
  split
  · exact .fatal (.beginRestart h)
  · exact .moveWork (.beginRestart h)

theorem State.Tidy.coreFault {s : State} {n cause : ℕ} (h : s.Tidy) : (s.coreFault n cause).Tidy :=
  .ite h (.ite (.lose (.failCore (.satInc h _))) (.ite (.failCore (.satInc h _)) (.ite (.replaceCore (.satInc h _)) (.beginRestart
    (.satInc h _)))))

theorem State.Tidy.commandRestart {s : State} {n : ℕ} (h : s.Tidy) : (s.commandRestart n).Tidy :=
  .ite h (.ite (.replaceCore h) (.beginRestart h))

theorem State.Tidy.endMove {s : State} {n : ℕ} (h : s.Tidy) : (s.endMove n).Tidy :=
  .ite (.regain (.update h)) (.update h)

theorem State.Tidy.endTests {s : State} (h : s.Tidy) : s.endTests.Tidy :=
  .update h

theorem State.Tidy.retestDone {s : State} {n : ℕ} {ok : Bool} (h : s.Tidy) : (s.retestDone n ok).Tidy :=
  .ite h (.ite (.endMove (.startSteward (.setFld h _ _))) (.ite (.endMove (.lose (.setFld h _ _))) (.ite (.setFld h _ _) (.lose
    (.setFld h _ _)))))

/-! ### The operations of Machine/Memory.lean -/

theorem State.Tidy.bumpEpoch {s : State} {k : ℕ} (h : s.Tidy) : (s.bumpEpoch k).Tidy :=
  .update h

theorem State.Tidy.channelFail {s : State} {c : ℕ} (h : s.Tidy) : (s.channelFail c).Tidy :=
  .ite h (.ite (.fatal (.satInc h _)) (.lose (.bumpEpoch (.fldBitClr (.satInc h _) _ _))))

theorem State.Tidy.setErr {s : State} {b e : ℕ} (h : s.Tidy) : (s.setErr b e).Tidy :=
  .update h

theorem State.Tidy.countUncorr {s : State} {c : ℕ} (h : s.Tidy) : (s.countUncorr c).Tidy :=
  .ite (.channelFail (.update h)) (.update h)

theorem State.Tidy.logEcc {s : State} {b : ℕ} {uncorr : Bool} (h : s.Tidy) : (s.logEcc b uncorr).Tidy :=
  .ite (.countUncorr (.setFld (.setFld (.setFld (.setFld (.ite (.satInc h _) (.satInc h _)) _ _) _ _) _ _) _ _)) (.setFld (.setFld
    (.setFld (.setFld (.ite (.satInc h _) (.satInc h _)) _ _) _ _) _ _) _ _)

theorem State.Tidy.readDram {s : State} {b : ℕ} (h : s.Tidy) : (s.readDram b).1.Tidy := by
  unfold State.readDram
  split
  · exact h
  · exact .satInc (.logEcc (.setErr h)) _
  · split
    · exact .ite_fst (.satInc (.logEcc (.setErr h)) _) (.logEcc h)
    · exact .logEcc h

theorem State.Tidy.readSram {s : State} {b : ℕ} (h : s.Tidy) : (s.readSram b).1.Tidy := by
  refine .ite_fst h ?_
  split
  · exact h
  · exact .satInc (.setErr h) _
  · exact .ite_fst (.satInc h _) (.satInc (.update (.setErr h)) _)

theorem State.Tidy.poisonFault {s : State} {m : Master} {pa : ℕ} (h : s.Tidy) : (s.poisonFault m pa).Tidy :=
  .ite h (.ite (.coreFault h) (by split; exacts [.coreFault h, h]))

theorem State.Tidy.checkMem {s : State} {m : Master} {cls : ℕ} {write : Bool} {pa : ℕ} (h : s.Tidy) :
    (s.checkMem m cls write pa).1.Tidy := by
  refine .ite_fst (.logFence h) (.ite_fst ?_ (.ite_fst h (.ite_fst (.ite (.wakeSpm h) h) (.readSram (.ite (.wakeSpm h) h)))))
  split
  · exact .logFence h
  · exact .ite_fst h (.readDram h)
  · exact h

/-! ### The operations of Machine/Steward.lean -/

theorem State.Tidy.takeExc {s : State} {c : ℕ} {l : Priv} {e : Exc} {epc : Word} (h : s.Tidy) : (s.takeExc c l e epc).Tidy :=
  .ite (.coreFault (.traceRec h)) (.modCore (.traceRec h) _ _)

theorem State.Tidy.raise {s : State} {c : ℕ} {e : Exc} {epc : Word} (h : s.Tidy) : (s.raise c e epc).Tidy :=
  .takeExc h

theorem State.Tidy.takePending {s t : State} {c : ℕ} (h : s.Tidy) (ht : s.takePending c = some t) : t.Tidy := by
  unfold State.takePending at ht
  split at ht
  · cases ht
    exact .takeExc (.setCore h _ _)
  · cases ht

theorem State.Tidy.advance {s : State} {c : ℕ} {pc : Word} (h : s.Tidy) : (s.advance c pc).Tidy :=
  .modCore h _ _

theorem State.Tidy.branch {s : State} {c : ℕ} {pc target : Word} (h : s.Tidy) : (s.branch c pc target).Tidy :=
  .ite (.raise h) (.advance (.traceRec h))

theorem State.Tidy.settle {c : ℕ} {pc : Word} {len : ℕ} {r : SOut} (h : r.Tidy) : (State.settle c pc len r).Tidy := by
  cases r with
  | done s => exact .advance h
  | goto s t => exact .branch h
  | exc s e => exact .raise h
  | stay s => exact h

theorem State.Tidy.useStep {s : State} {c : ℕ} (h : s.Tidy) : (s.useStep c).Tidy :=
  .ite (.modCore h _ _) h

theorem State.Tidy.runInstr {s : State} {c : CoreId} {f : IFields} {lvl : Priv} {ser legal : Bool} {body : State → SOut}
    {target : State → Word} {valid : State → Bool} (hbody : ∀ t, t.Tidy → (body t).Tidy) (h : s.Tidy) :
    (s.runInstr c f lvl ser legal body target valid).Tidy := by
  have h1 : (s.useStep c).Tidy := .useStep h
  have hc := s.runInstr_cases c f lvl ser legal body target valid
  dsimp only at hc
  rcases hc with e | e | ⟨a, -, e⟩ | ⟨-, e⟩ | ⟨-, e⟩ | e | e | ⟨-, -, e⟩
  case inr.inl => exact .takePending h1 e
  all_goals rw [e]
  · exact h
  · exact .raise h1
  · exact .raise h1
  · exact .raise h1
  · exact .advance (.modCore h1 _ _)
  · exact .raise (.modCore h1 _ _)
  · exact .settle (hbody _ (.modCore h1 _ _))

/-! ### The operations of Machine/Alu.lean -/

theorem Step.Tidy.execAlu {g : Word → Word → Word} {h : BitVec 32 → BitVec 32 → BitVec 32} {c : CoreId} {f : IFields} {s : State}
    (hs : s.Tidy) : (execAlu g h c f s).Tidy :=
  .next (.runInstr (fun _ h1 => .done (.modCore h1 _ _)) hs)

theorem Step.Tidy.execDivide {g : Word → Word → Word} {h : BitVec 32 → BitVec 32 → BitVec 32} {c : CoreId} {f : IFields}
    {s : State} (hs : s.Tidy) : (execDivide g h c f s).Tidy :=
  .next (.runInstr (fun _ h1 => .ite (.exc h1) (.done (.modCore h1 _ _))) hs)

theorem Step.Tidy.execAdd {c : CoreId} {f : IFields} {s : State} (h : s.Tidy) : (execAdd c f s).Tidy :=
  .execAlu h

theorem Step.Tidy.execSub {c : CoreId} {f : IFields} {s : State} (h : s.Tidy) : (execSub c f s).Tidy :=
  .execAlu h

theorem Step.Tidy.execAnd {c : CoreId} {f : IFields} {s : State} (h : s.Tidy) : (execAnd c f s).Tidy :=
  .execAlu h

theorem Step.Tidy.execOr {c : CoreId} {f : IFields} {s : State} (h : s.Tidy) : (execOr c f s).Tidy :=
  .execAlu h

theorem Step.Tidy.execXor {c : CoreId} {f : IFields} {s : State} (h : s.Tidy) : (execXor c f s).Tidy :=
  .execAlu h

theorem Step.Tidy.execShl {c : CoreId} {f : IFields} {s : State} (h : s.Tidy) : (execShl c f s).Tidy :=
  .execAlu h

theorem Step.Tidy.execShr {c : CoreId} {f : IFields} {s : State} (h : s.Tidy) : (execShr c f s).Tidy :=
  .execAlu h

theorem Step.Tidy.execSra {c : CoreId} {f : IFields} {s : State} (h : s.Tidy) : (execSra c f s).Tidy :=
  .execAlu h

theorem Step.Tidy.execMul {c : CoreId} {f : IFields} {s : State} (h : s.Tidy) : (execMul c f s).Tidy :=
  .execAlu h

theorem Step.Tidy.execMulh {c : CoreId} {f : IFields} {s : State} (h : s.Tidy) : (execMulh c f s).Tidy :=
  .execAlu h

theorem Step.Tidy.execMulhu {c : CoreId} {f : IFields} {s : State} (h : s.Tidy) : (execMulhu c f s).Tidy :=
  .execAlu h

theorem Step.Tidy.execDiv {c : CoreId} {f : IFields} {s : State} (h : s.Tidy) : (execDiv c f s).Tidy :=
  .execDivide h

theorem Step.Tidy.execDivu {c : CoreId} {f : IFields} {s : State} (h : s.Tidy) : (execDivu c f s).Tidy :=
  .execDivide h

theorem Step.Tidy.execRem {c : CoreId} {f : IFields} {s : State} (h : s.Tidy) : (execRem c f s).Tidy :=
  .execDivide h

theorem Step.Tidy.execRemu {c : CoreId} {f : IFields} {s : State} (h : s.Tidy) : (execRemu c f s).Tidy :=
  .execDivide h

theorem Step.Tidy.execMin {c : CoreId} {f : IFields} {s : State} (h : s.Tidy) : (execMin c f s).Tidy :=
  .execAlu h

theorem Step.Tidy.execMax {c : CoreId} {f : IFields} {s : State} (h : s.Tidy) : (execMax c f s).Tidy :=
  .execAlu h

theorem Step.Tidy.execMinu {c : CoreId} {f : IFields} {s : State} (h : s.Tidy) : (execMinu c f s).Tidy :=
  .execAlu h

theorem Step.Tidy.execMaxu {c : CoreId} {f : IFields} {s : State} (h : s.Tidy) : (execMaxu c f s).Tidy :=
  .execAlu h

theorem Step.Tidy.execAlu1 {g : Word → Word} {h : BitVec 32 → BitVec 32} {c : CoreId} {f : IFields} {s : State} (hs : s.Tidy) :
    (execAlu1 g h c f s).Tidy :=
  .next (.runInstr (fun _ h1 => .done (.modCore h1 _ _)) hs)

theorem Step.Tidy.execClz {c : CoreId} {f : IFields} {s : State} (h : s.Tidy) : (execClz c f s).Tidy :=
  .execAlu1 h

theorem Step.Tidy.execPopc {c : CoreId} {f : IFields} {s : State} (h : s.Tidy) : (execPopc c f s).Tidy :=
  .execAlu1 h

theorem Step.Tidy.execSel {c : CoreId} {f : IFields} {s : State} (h : s.Tidy) : (execSel c f s).Tidy :=
  .next (.runInstr (fun _ h1 => .done (.modCore h1 _ _)) h)

theorem Step.Tidy.execCmp {c : CoreId} {f : IFields} {s : State} (h : s.Tidy) : (execCmp c f s).Tidy :=
  .next (.runInstr (fun _ h1 => .done (.modCore h1 _ _)) h)

theorem Step.Tidy.execPlog {c : CoreId} {f : IFields} {s : State} (h : s.Tidy) : (execPlog c f s).Tidy :=
  .next (.runInstr (fun _ h1 => .done (.modCore h1 _ _)) h)

theorem Step.Tidy.execPget {c : CoreId} {f : IFields} {s : State} (h : s.Tidy) : (execPget c f s).Tidy :=
  .next (.runInstr (fun _ h1 => .done (.modCore h1 _ _)) h)

theorem Step.Tidy.execPset {c : CoreId} {f : IFields} {s : State} (h : s.Tidy) : (execPset c f s).Tidy :=
  .next (.runInstr (fun _ h1 => .done (.modCore h1 _ _)) h)

theorem Step.Tidy.execImm {g : Word → Word → Word} {c : CoreId} {f : IFields} {s : State} (h : s.Tidy) : (execImm g c f s).Tidy :=
  .next (.runInstr (fun _ h1 => .done (.modCore h1 _ _)) h)

theorem Step.Tidy.execAddi {c : CoreId} {f : IFields} {s : State} (h : s.Tidy) : (execAddi c f s).Tidy :=
  .execImm h

theorem Step.Tidy.execAndi {c : CoreId} {f : IFields} {s : State} (h : s.Tidy) : (execAndi c f s).Tidy :=
  .execImm h

theorem Step.Tidy.execOri {c : CoreId} {f : IFields} {s : State} (h : s.Tidy) : (execOri c f s).Tidy :=
  .execImm h

theorem Step.Tidy.execXori {c : CoreId} {f : IFields} {s : State} (h : s.Tidy) : (execXori c f s).Tidy :=
  .execImm h

theorem Step.Tidy.execMuli {c : CoreId} {f : IFields} {s : State} (h : s.Tidy) : (execMuli c f s).Tidy :=
  .execImm h

theorem Step.Tidy.execShiftImm {g : Word → ℕ → Word} {c : CoreId} {f : IFields} {s : State} (h : s.Tidy) :
    (execShiftImm g c f s).Tidy :=
  .next (.runInstr (fun _ h1 => .done (.modCore h1 _ _)) h)

theorem Step.Tidy.execShli {c : CoreId} {f : IFields} {s : State} (h : s.Tidy) : (execShli c f s).Tidy :=
  .execShiftImm h

theorem Step.Tidy.execShri {c : CoreId} {f : IFields} {s : State} (h : s.Tidy) : (execShri c f s).Tidy :=
  .execShiftImm h

theorem Step.Tidy.execSrai {c : CoreId} {f : IFields} {s : State} (h : s.Tidy) : (execSrai c f s).Tidy :=
  .execShiftImm h

theorem Step.Tidy.execCmpImm {cond : ℕ} {c : CoreId} {f : IFields} {s : State} (h : s.Tidy) : (execCmpImm cond c f s).Tidy :=
  .next (.runInstr (fun _ h1 => .done (.modCore h1 _ _)) h)

theorem Step.Tidy.execCmpeqi {c : CoreId} {f : IFields} {s : State} (h : s.Tidy) : (execCmpeqi c f s).Tidy :=
  .execCmpImm h

theorem Step.Tidy.execCmpnei {c : CoreId} {f : IFields} {s : State} (h : s.Tidy) : (execCmpnei c f s).Tidy :=
  .execCmpImm h

theorem Step.Tidy.execCmplti {c : CoreId} {f : IFields} {s : State} (h : s.Tidy) : (execCmplti c f s).Tidy :=
  .execCmpImm h

theorem Step.Tidy.execCmpgei {c : CoreId} {f : IFields} {s : State} (h : s.Tidy) : (execCmpgei c f s).Tidy :=
  .execCmpImm h

theorem Step.Tidy.execCmpltui {c : CoreId} {f : IFields} {s : State} (h : s.Tidy) : (execCmpltui c f s).Tidy :=
  .execCmpImm h

theorem Step.Tidy.execCmpgeui {c : CoreId} {f : IFields} {s : State} (h : s.Tidy) : (execCmpgeui c f s).Tidy :=
  .execCmpImm h

theorem Step.Tidy.execMovhi {c : CoreId} {f : IFields} {s : State} (h : s.Tidy) : (execMovhi c f s).Tidy :=
  .next (.runInstr (fun _ h1 => .done (.modCore h1 _ _)) h)

theorem Step.Tidy.execAdpc {c : CoreId} {f : IFields} {s : State} (h : s.Tidy) : (execAdpc c f s).Tidy :=
  .next (.runInstr (fun _ h1 => .done (.modCore h1 _ _)) h)

/-! ### The operations of Machine/Branch.lean -/

theorem Step.Tidy.execBra {c : CoreId} {f : IFields} {s : State} (h : s.Tidy) : (execBra c f s).Tidy :=
  .next (.runInstr (fun _ h1 => .goto h1) h)

theorem SOut.Tidy.callTo {s : State} {c : CoreId} {f : IFields} {target : Word} (h : s.Tidy) : (s.callTo c f target).Tidy :=
  .goto (.modCore h _ _)

theorem Step.Tidy.execCall {c : CoreId} {f : IFields} {s : State} (h : s.Tidy) : (execCall c f s).Tidy :=
  .next (.runInstr (fun _ h1 => .callTo h1) h)

theorem Step.Tidy.execJmp {c : CoreId} {f : IFields} {s : State} (h : s.Tidy) : (execJmp c f s).Tidy :=
  .next (.runInstr (fun _ h1 => .goto h1) h)

theorem Step.Tidy.execCallr {c : CoreId} {f : IFields} {s : State} (h : s.Tidy) : (execCallr c f s).Tidy :=
  .next (.runInstr (fun _ h1 => .callTo h1) h)

theorem Step.Tidy.execLoop {c : CoreId} {f : IFields} {s : State} (h : s.Tidy) : (execLoop c f s).Tidy :=
  .next (.runInstr (fun _ h1 => .ite (.goto (.modCore h1 _ _)) (.done (.modCore h1 _ _))) h)

/-! ### The operations of Machine/Cvu.lean -/

theorem State.Tidy.setCvuW {s : State} {u : ℕ} {f : Fld} {v : ℕ} (h : s.Tidy) : (s.setCvuW u f v).Tidy :=
  .setFld h _ _

theorem State.Tidy.dedicateCvus {s : State} (h : s.Tidy) : s.dedicateCvus.Tidy :=
  .iter _ _ (fun _ _ h1 => .ite (.setFld (.setFld (.setFld (.setFld (.setFld (.setFld h1 _ _) _ _) _ _) _ _) _ _) _ _) (.setFld
    (.setFld (.setFld (.setFld (.setFld (.setFld (.setFld (.setFld (.setFld (.setFld h1 _ _) _ _) _ _) _ _) _ _) _ _) _ _) _ _) _
    _) _ _)) h

theorem State.Tidy.cvuOpen {s : State} {u : ℕ} (h : s.Tidy) : (s.cvuOpen u).Tidy :=
  .setFld (.setFld (.setReg (.setCvuW h) _ _) _ _) _ _

theorem State.Tidy.cvuFeed {s : State} {u : ℕ} {l : List Byte} (h : s.Tidy) : (s.cvuFeed u l).Tidy :=
  .ite (.satInc h _) (.setFld (.setFld (.setFld h _ _) _ _) _ _)

theorem State.Tidy.setCvuCount {s : State} {u v : ℕ} {seen : Bool} (h : s.Tidy) : (s.setCvuCount u v seen).Tidy :=
  .update (.setFld h _ _)

theorem State.Tidy.cvuEvent {s : State} {u : ℕ} (h : s.Tidy) : (s.cvuEvent u).Tidy :=
  .ite (.postEvent (.fldBitSet h _ _)) (.fldBitSet h _ _)

theorem State.Tidy.cvuCompare {s : State} {u : ℕ} (h : s.Tidy) : (s.cvuCompare u).1.Tidy :=
  .ite_fst h (.ite_fst (.setFld h _ _) (.satInc (.setFld (.setFld h _ _) _ _) _))

theorem State.Tidy.cvuClose {s : State} {u maxStep : ℕ} (h : s.Tidy) : (s.cvuClose u maxStep).Tidy := by
  unfold State.cvuClose
  extract_lets mode aw count fed t v r w c x o y z
  have hv : v.Tidy := .ite (.setFld (.setFld (.setFld (.setFld h _ _) _ _) _ _) _ _) h
  have hx : x.Tidy := .cvuCompare (.setFld (.setFld (.setFld hv _ _) _ _) _ _)
  have hy : y.Tidy := .setCvuCount (.setFld hx _ _)
  have hz : z.Tidy := .ite hy (.setFld hy _ _)
  exact .ite (.ite (.cvuEvent hz) hz) (.ite (.cvuEvent hx) hx)

theorem State.Tidy.cvuRun {s : State} {u : ℕ} {l : List Byte} (h : s.Tidy) : (s.cvuRun u l).Tidy :=
  .cvuClose (.cvuFeed (.cvuOpen h))

theorem State.Tidy.cvuOwner {s : State} {u v : ℕ} (h : s.Tidy) : (s.cvuOwner u v).Tidy :=
  .setCvuCount (.setReg (.setReg (.setFld (.setCvuW (.setFld h _ _)) _ _) _ _) _ _)

theorem State.Tidy.cvuCut {s : State} {u : ℕ} (h : s.Tidy) : (s.cvuCut u).Tidy :=
  .foldl _ _ (fun _ _ h1 => .setCvuW h1) h

theorem State.Tidy.cvuCfg {s : State} {u v : ℕ} {locked : Bool} (h : s.Tidy) : (s.cvuCfg u v locked).Tidy :=
  .ite (.ite h (.cvuCut (.setReg h _ _))) (.cvuOwner (.ite h (.cvuCut (.setReg h _ _))))

theorem State.Tidy.cvuCmd {s : State} {u v : ℕ} (h : s.Tidy) : (s.cvuCmd u v).Tidy :=
  .ite (.cvuClose (.ite (.cvuOpen h) h)) (.ite (.cvuOpen h) h)

theorem State.Tidy.cvuData {s : State} {u v : ℕ} (h : s.Tidy) : (s.cvuData u v).Tidy :=
  .cvuFeed h

theorem State.Tidy.cvuSetValue {s : State} {u v : ℕ} (h : s.Tidy) : (s.cvuSetValue u v).Tidy :=
  .setFld (.setCvuW h) _ _

/-! ### The operations of Machine/Nets.lean -/

theorem State.Tidy.setEgress {s : State} {n : ℕ} {q : List NetFrame} (h : s.Tidy) : (s.setEgress n q).Tidy :=
  .update h

theorem State.Tidy.queueFrame {s : State} {n : ℕ} {f : NetFrame} (h : s.Tidy) : (s.queueFrame n f).Tidy :=
  .ite h (.ite (.satInc (.setEgress h) _) (.setEgress h))

theorem State.Tidy.macLinkDown {s : State} {m : ℕ} (h : s.Tidy) : (s.macLinkDown m).Tidy :=
  .ite h (.update (.setFld (.setFld (.setEgress (.satAdd h _ _)) _ _) _ _))

theorem State.Tidy.sendOn {s : State} {nets : List ℕ} {kind stream : ℕ} {payload : List Byte} (h : s.Tidy) :
    (s.sendOn nets kind stream payload).Tidy :=
  .foldl _ _ (fun _ _ h1 => .queueFrame (.cvuRun h1)) (.update h)

theorem State.Tidy.sendPaired {s : State} {pair kind stream : ℕ} {payload : List Byte} (h : s.Tidy) :
    (s.sendPaired pair kind stream payload).Tidy :=
  .sendOn h

/-! ### The operations of Machine/Jobs.lean -/

theorem State.Tidy.setRouteSt {s : State} {r : ℕ} {k : RouteSt} (h : s.Tidy) : (s.setRouteSt r k).Tidy :=
  .update h

theorem State.Tidy.modJob {s : State} {r f : ℕ} {g : Job → Job} (h : s.Tidy) : (s.modJob r f g).Tidy :=
  .update h

theorem State.Tidy.setTap {s : State} {k : ℕ} {t : TapSt} (h : s.Tidy) : (s.setTap k t).Tidy :=
  .update h

theorem State.Tidy.idleTap {s : State} {k : ℕ} (h : s.Tidy) : (s.idleTap k).Tidy :=
  .ite h (.setFld (.setFld (.setTap h) _ _) _ _)

theorem State.Tidy.rngRequest {s : State} (h : s.Tidy) : s.rngRequest.1.Tidy :=
  .ite_fst (.update h) (.satInc h _)

/-! ### The operations of Machine/Bell.lean -/

theorem State.Tidy.bellErr {s : State} {n status source ctx obj vid : ℕ} {remote : optParam Bool false} (h : s.Tidy) :
    (s.bellErr n status source ctx obj vid remote).Tidy :=
  .ite (.satInc h _) (.setFld (.setFld (.setFld (.setFld (.setFld (.setFld (.setFld (.setFld h _ _) _ _) _ _) _ _) _ _) _ _) _ _)
    _ _)

theorem State.Tidy.xlog {s : State} {tenant : Bool} {dev core ctx dcore dctx kind target : ℕ} (h : s.Tidy) :
    (s.xlog tenant dev core ctx dcore dctx kind target).Tidy :=
  .ite (.satInc h _) (.setFld (.setFld (.setFld (.setFld (.setFld (.setFld (.setFld (.setFld (.setFld (.setFld h _ _) _ _) _ _) _
    _) _ _) _ _) _ _) _ _) _ _) _ _)

theorem State.Tidy.fireWatches {s : State} {n obj : ℕ} (h : s.Tidy) : (s.fireWatches n obj).Tidy :=
  .modCore h _ _

theorem State.Tidy.updateObj {s : State} {n obj : ℕ} {delta : ℤ} {src ctx vid : ℕ} (h : s.Tidy) :
    (s.updateObj n obj delta src ctx vid).1.Tidy := by
  unfold State.updateObj
  dsimp only
  split
  · exact .ite_fst (.coreFault h) (.bellErr h)
  · exact .fireWatches (.setFld h _ _)

theorem State.Tidy.deliver {s : State} {n obj : ℕ} {delta : ℤ} {gen src ctx vid : ℕ} (h : s.Tidy) :
    (s.deliver n obj delta gen src ctx vid).1.Tidy :=
  .ite_fst (.satInc h _) (.updateObj h)

theorem State.Tidy.devSignal {s : State} {n src : ℕ} (h : s.Tidy) : (s.devSignal n src).Tidy :=
  .foldl _ _ (fun _ _ h1 => .ite (.updateObj h1) h1) h

theorem State.Tidy.devSignalAll {s : State} {src : ℕ} (h : s.Tidy) : (s.devSignalAll src).Tidy :=
  .iter _ _ (fun _ _ h1 => .ite (.devSignal h1) h1) h

theorem State.Tidy.countDelta {s : State} {n obj : ℕ} {delta : Word} (h : s.Tidy) : (s.countDelta n obj delta).Tidy :=
  .ite h (.modCore h _ _)

theorem PairTidy.mboxDeliver {s : State} {n m : ℕ} {value : BitVec 64} {dev core ctx : ℕ} {local_ tenant : Bool} (h : s.Tidy) :
    PairTidy (s.mboxDeliver n m value dev core ctx local_ tenant) :=
  have hw : ∀ a l f v g, (((s.setBytes a l).setFld f v).modCore n g).Tidy := fun _ _ _ _ _ => .modCore (.setFld (.setBytes h _ _)
    _ _) _ _
  .ite (.mk (.xlog h)) (.ite (.mk h) (.ite (.mk h) (.ite (.mk (.xlog h)) (.ite (.mk h)
    (.ite (.mk (.updateObj (hw ..))) (.mk (hw ..)))))))

theorem State.Tidy.mboxDeliver {s : State} {n m : ℕ} {value : BitVec 64} {dev core ctx : ℕ} {local_ tenant : Bool} (h : s.Tidy) :
    (s.mboxDeliver n m value dev core ctx local_ tenant).1.Tidy := PairTidy.mboxDeliver h


theorem State.Tidy.flushEngine {s : State} {n e : ℕ} (h : s.Tidy) : (s.flushEngine n e).Tidy :=
  .modCore h _ _

theorem State.Tidy.clearContext {s : State} {n : ℕ} (h : s.Tidy) : (s.clearContext n).Tidy :=
  .foldl _ _ (fun _ _ h1 => .ite (.modCore (.breakBarrier h1) _ _) h1) (.setReg (.modCore (.iter _ _ (fun _ _ h2 => .ite (.setFld
    h2 _ _) h2) (.objsToBase (.wrapInc h _))) _ _) _ _)

/-! ### The operations of Machine/System.lean -/

theorem Step.Tidy.execCsr {rd : Bool} {wr : Option (Word → Word → Word)} {legal : IFields → Bool} {ser : Bool} {c : CoreId}
    {f : IFields} {s : State} (h : s.Tidy) : (execCsr rd wr legal ser c f s).Tidy := by
  refine .next (.runInstr (fun _ h1 => ?_) h)
  dsimp only
  split
  · exact .exc h1
  · refine .ite (.exc h1) ?_
    split
    · exact .done (.modCore h1 _ _)
    · exact .done (.ite (.modCore h1 _ _) h1)

theorem Step.Tidy.execCsrr {c : CoreId} {f : IFields} {s : State} (h : s.Tidy) : (execCsrr c f s).Tidy :=
  .execCsr h

theorem Step.Tidy.execCsrw {c : CoreId} {f : IFields} {s : State} (h : s.Tidy) : (execCsrw c f s).Tidy :=
  .execCsr h

theorem Step.Tidy.execCsrs {c : CoreId} {f : IFields} {s : State} (h : s.Tidy) : (execCsrs c f s).Tidy :=
  .execCsr h

theorem Step.Tidy.execCsrc {c : CoreId} {f : IFields} {s : State} (h : s.Tidy) : (execCsrc c f s).Tidy :=
  .execCsr h

theorem State.Tidy.raiseNext {s : State} {c : ℕ} {e : Exc} {len : ℕ} (h : s.Tidy) : (s.raiseNext c e len).Tidy :=
  .raise (.modCore h _ _)

theorem Step.Tidy.execEcall {c : CoreId} {f : IFields} {s : State} (h : s.Tidy) : (execEcall c f s).Tidy :=
  .next (.runInstr (fun _ h1 => .stay (.raiseNext (.ite (.modCore h1 _ _) h1))) h)

theorem State.Tidy.debugHalt {s : State} {c : ℕ} (h : s.Tidy) : (s.debugHalt c).Tidy :=
  .fldBitSet (.modCore h _ _) _ _

theorem Step.Tidy.execBreak {c : CoreId} {f : IFields} {s : State} (h : s.Tidy) : (execBreak c f s).Tidy :=
  .next (.runInstr (fun _ h1 => .ite (.stay (.debugHalt (.advance h1))) (.stay (.raiseNext h1))) h)

theorem State.Tidy.eret {s : State} {c : ℕ} (h : s.Tidy) : (s.eret c).Tidy := by
  unfold State.eret
  dsimp only
  split
  · exact .takeExc (.setCore (.modCore h _ _) _ _)
  · exact .setCore (.modCore h _ _) _ _

theorem Step.Tidy.execEret {c : CoreId} {f : IFields} {s : State} (h : s.Tidy) : (execEret c f s).Tidy :=
  .next (.runInstr (fun _ h1 => .stay (.eret h1)) h)

theorem Step.Tidy.execWfi {c : CoreId} {f : IFields} {s : State} (h : s.Tidy) : (execWfi c f s).Tidy :=
  .next (.runInstr (fun _ h1 => .ite (.done h1) (.stay (.modCore (.advance h1) _ _))) h)

theorem Step.Tidy.execIcinv {c : CoreId} {f : IFields} {s : State} (h : s.Tidy) : (execIcinv c f s).Tidy :=
  .next (.runInstr (fun _ h1 => .done (.modCore h1 _ _)) h)

theorem Step.Tidy.execHalt {c : CoreId} {f : IFields} {s : State} (h : s.Tidy) : (execHalt c f s).Tidy :=
  .next (.runInstr (fun _ h1 => .stay (.modCore (.advance h1) _ _)) h)

theorem Step.Tidy.execCtxsw {c : CoreId} {f : IFields} {s : State} (h : s.Tidy) : (execCtxsw c f s).Tidy :=
  .next (.runInstr (fun _ h1 => .ite (.done (.modCore (.clearContext (.modCore (.satAdd h1 _ _) _ _)) _ _)) (.stay (.modCore
    (.satAdd h1 _ _) _ _))) h)

theorem Step.Tidy.execPcall {c : CoreId} {f : IFields} {s : State} (h : s.Tidy) : (execPcall c f s).Tidy :=
  .next (.runInstr (fun _ h1 => .ite (.exc h1) (.goto (.modCore (.setFld h1 _ _) _ _))) h)

theorem Step.Tidy.execPret {c : CoreId} {f : IFields} {s : State} (h : s.Tidy) : (execPret c f s).Tidy := by
  refine .next (.runInstr (fun _ h1 => .ite (.exc h1) (.ite (.goto (.modCore (.setFld h1 _ _) _ _)) (.stay (.raise ?_)))) h)
  dsimp only
  split
  · exact .bellErr (.draw (.modCore (.setFld h1 _ _) _ _))
  · exact .modCore (.setFld h1 _ _) _ _

theorem Step.Tidy.execTakeException {c : CoreId} {s : State} (h : s.Tidy) : (execTakeException c s).Tidy := by
  refine .next (.ite ?_ h)
  cases ht : s.takePending c with
  | none => exact h
  | some t => exact .takePending h ht

theorem Step.Tidy.execUnlistedInstruction {c : CoreId} {f : IFields} {s : State} (h : s.Tidy) :
    (execUnlistedInstruction c f s).Tidy :=
  .next (.runInstr (fun _ h1 => .stay h1) h)

/-! ### The operations of Machine/Tags.lean -/

theorem State.Tidy.post {s : State} {o : Outst} (h : s.Tidy) : (s.post o).Tidy :=
  .update h

theorem State.Tidy.postStore {s : State} {c : ℕ} {st : StoreReq} (h : s.Tidy) : (s.postStore c st).Tidy :=
  .post h

theorem Step.Tidy.execTagAllocate {c : CoreId} {s : State} (h : s.Tidy) : (execTagAllocate c s).Tidy :=
  .next (by split; exacts [.ite (.advance (.postStore h)) h, h])

theorem State.Tidy.dropTag {s : State} {o : Outst} (h : s.Tidy) : (s.dropTag o).Tidy :=
  .update h

theorem State.Tidy.storeFailed {s : State} {o : Outst} {st : MStat} (h : s.Tidy) : (s.storeFailed o st).Tidy :=
  .ite h (.modCore h _ _)

theorem State.Tidy.endRead {s : State} {o : Outst} {st : MStat} {data : List Byte} (h : s.Tidy) : (s.endRead o st data).Tidy :=
  .modCore h _ _

theorem State.Tidy.endLoad {s : State} {o : Outst} {st : MStat} {data : List Byte} (h : s.Tidy) : (s.endLoad o st data).Tidy := by
  refine .ite (.endRead h) ?_
  dsimp only
  split
  · exact .ite h (.ite (.advance (.modCore h _ _)) (.raise (.modCore h _ _)))
  · exact h

theorem State.Tidy.landStore {s : State} {o : Outst} {pa : ℕ} (h : s.Tidy) : (s.landStore o pa).Tidy :=
  .storeFailed (.dropTag (.ite (.putMem (.checkMem h) _ _) (.checkMem h)))

theorem State.Tidy.endStale {s : State} {o : Outst} (h : s.Tidy) : (s.endStale o).Tidy := by
  refine .ite (.storeFailed ?_) (.endLoad (.dropTag h))
  split
  · exact .ite (.putMem (.draw (.dropTag h)) _ _) (.draw (.dropTag h))
  · exact .draw (.dropTag h)

theorem State.Tidy.develop {s : State} {x1 : MemErr} (h : s.Tidy) : (s.develop x1).Tidy := by
  unfold State.develop
  split
  · exact h
  · split
    · exact .setErr h
    · exact h
  · exact .ite (.ite (.ite (.modCore (.checkMem (.satInc (.modCore h _ _) _)) _ _) (.checkMem (.satInc (.modCore h _ _) _))) h)
      (.ite (.satInc h _) h)

theorem Step.Tidy.execAccessComplete {tag : ℕ} {x : AccessEnd} {s : State} (h : s.Tidy) : (execAccessComplete tag x s).Tidy := by
  refine .next ?_
  dsimp only
  split
  · exact .develop h
  · refine .ite (.develop h) (.ite (.endStale (.develop h)) ?_)
    split
    · exact .ite (.develop h) (.landStore (.develop h))
    · exact .storeFailed (.dropTag (.develop h))
    · exact .storeFailed (.dropTag (.develop h))

theorem Step.Tidy.execReplyReceived {tag epoch : ℕ} {st : MStat} {data : List Byte} {s : State} (h : s.Tidy) :
    (execReplyReceived tag epoch st data s).Tidy :=
  .next (by split; exacts [h, .ite h (.endLoad (.dropTag h))])

theorem Step.Tidy.execEpochNotice {p : Part} {s : State} (h : s.Tidy) : (execEpochNotice p s).Tidy :=
  .next (.foldl _ _ (fun _ _ h1 => .endStale h1) h)

/-! ### The operations of Machine/Losses.lean -/

theorem Step.Tidy.execChannelFailure {ch : Fin 8} {s : State} (h : s.Tidy) : (execChannelFailure ch s).Tidy :=
  .next (.channelFail h)

theorem State.Tidy.loseChannel {s : State} {c : ℕ} (h : s.Tidy) : (s.loseChannel c).Tidy :=
  .update (.loseRegion h _ _)

theorem State.Tidy.loseInputs {s : State} {c : ℕ} (h : s.Tidy) : (s.loseInputs c).Tidy :=
  .update h

theorem Step.Tidy.execRetrainDone {ch : Fin 8} {ok : Bool} {s : State} (h : s.Tidy) : (execRetrainDone ch ok s).Tidy :=
  .next (.ite h (.ite (.setFld (.setFld (.loseInputs (.loseChannel (.fldBitSet (.fldBitSet (.update (.satInc h _)) _ _) _ _))) _
    _) _ _) (.ite (.fldBitSet (.update (.satInc h _)) _ _) (.update (.satInc h _)))))

theorem Step.Tidy.execMirrorRebuildDone {s : State} (h : s.Tidy) : (execMirrorRebuildDone s).Tidy :=
  .next (.ite h (.ite (.regain (.setFld h _ _)) (.setFld h _ _)))

theorem Step.Tidy.execPatrolScrub {blk : BitVec 34} {s : State} (h : s.Tidy) : (execPatrolScrub blk s).Tidy := by
  refine .next (.ite h ?_)
  split
  · exact .ite (.ite (.readDram h) h) (.ite h (.ite (.poisonFault (.readSram h)) (.readSram h)))
  · exact h

theorem State.Tidy.resetQueues {s : State} {f : ℕ} (h : s.Tidy) : (s.resetQueues f).Tidy :=
  .modFn h

theorem State.Tidy.flrFn {s : State} {f : ℕ} (h : s.Tidy) : (s.flrFn f).Tidy :=
  .setReg (.setReg (.setReg (.setFld (.setFld (.setFld (.setFn h) _ _) _ _) _ _) _ _) _ _) _ _

theorem State.Tidy.setBothDown {s : State} (h : s.Tidy) : s.setBothDown.Tidy :=
  .setFld h _ _

theorem State.Tidy.dropSessions {s : State} {p : ℕ} (h : s.Tidy) : (s.dropSessions p).Tidy :=
  .setFld (.setFld (.update h) _ _) _ _

theorem State.Tidy.portReset {s : State} {p : ℕ} (h : s.Tidy) : (s.portReset p).Tidy :=
  .ite h (.lose (.setBothDown (.ite (.iter _ _ (fun _ _ h1 => .flrFn h1) (.setFld (.setFld (.setPad (.dropSessions (.setFld
    (.satInc (.setFld h _ _) _) _ _))) _ _) _ _)) (.setFld (.setFld (.setPad (.dropSessions (.setFld (.satInc (.setFld h _ _) _) _
    _))) _ _) _ _))))

theorem State.Tidy.portFail {s : State} {p : ℕ} (h : s.Tidy) : (s.portFail p).Tidy :=
  .ite (.portReset h) h

theorem Step.Tidy.execPortFailure {p : Fin 2} {s : State} (h : s.Tidy) : (execPortFailure p s).Tidy :=
  .next (.portFail h)

theorem Step.Tidy.execPortReturn {p : Fin 2} {speed width : ℕ} {s : State} (h : s.Tidy) : (execPortReturn p speed width s).Tidy :=
  .next (.ite h (.ite (.setBothDown (.setFld (.setFld (.setFld (.setFld (.setPad h) _ _) _ _) _ _) _ _)) (.regain (.setBothDown
    (.setFld (.setFld (.setFld (.setFld (.setPad h) _ _) _ _) _ _) _ _)))))

theorem Step.Tidy.execFlr {f : Fin 5} {s : State} (h : s.Tidy) : (execFlr f s).Tidy :=
  .next (.ite (.portFail h) (.flrFn h))

theorem State.Tidy.blockWrite {s : State} {m : Master} {f off : ℕ} {g : State → State} (h : s.Tidy)
    (hg : ∀ t, t.Tidy → (g t).Tidy) : (s.blockWrite m f off g).Tidy :=
  .ite h (.ite (.discard h) (hg _ h))

theorem State.Tidy.ringTail {s : State} {f v : ℕ} (h : s.Tidy) : (s.ringTail f v).Tidy :=
  .modFn h

theorem State.Tidy.ringHead {s : State} {f v : ℕ} (h : s.Tidy) : (s.ringHead f v).Tidy :=
  .flushCq (.setFn h)

theorem State.Tidy.ringRecords {s : State} {f v : ℕ} (h : s.Tidy) : (s.ringRecords f v).Tidy :=
  .modFn h

theorem State.Tidy.writeQcfg {s : State} {f v : ℕ} (h : s.Tidy) : (s.writeQcfg f v).Tidy :=
  .ite (.resetQueues (.setFld (.setFld (.setFld (.setFld (.setFld h _ _) _ _) _ _) _ _) _ _)) (.flushCq (.setFld (.setFld (.setFld
    (.setFld (.setFld h _ _) _ _) _ _) _ _) _ _))

theorem Step.Tidy.execSqtail {m : Master} {f : Fin 5} {v : BitVec 32} {s : State} (h : s.Tidy) : (execSqtail m f v s).Tidy :=
  .next (.blockWrite h (fun _ h1 => .ringTail h1))

theorem Step.Tidy.execCqhead {m : Master} {f : Fin 5} {v : BitVec 32} {s : State} (h : s.Tidy) : (execCqhead m f v s).Tidy :=
  .next (.blockWrite h (fun _ h1 => .ringHead h1))

theorem Step.Tidy.execVrhead {m : Master} {f : Fin 5} {v : BitVec 32} {s : State} (h : s.Tidy) : (execVrhead m f v s).Tidy :=
  .next (.blockWrite h (fun _ h1 => .ringRecords h1))

theorem Step.Tidy.execQcfgWrite {m : Master} {f : Fin 5} {v : BitVec 32} {s : State} (h : s.Tidy) :
    (execQcfgWrite m f v s).Tidy :=
  .next (.blockWrite h (fun _ h1 => .writeQcfg h1))

theorem Step.Tidy.execMsixModerationTimeout {f : Fin 5} {v : Fin 4} {s : State} (h : s.Tidy) :
    (execMsixModerationTimeout f v s).Tidy :=
  .next (.ite (.fire h) h)

/-! ### The operations of Machine/Chain.lean -/

theorem State.Tidy.chainCommit {s : State} {crc : ℕ} (h : s.Tidy) : (s.chainCommit crc).Tidy :=
  .update h

theorem State.Tidy.chainEmit {s : State} {crc : ℕ} (h : s.Tidy) : (s.chainEmit crc).Tidy :=
  .update h

/-! ### The operations of Machine/Vectors.lean -/

theorem State.Tidy.prepare {s : State} {r prog : ℕ} (h : s.Tidy) : (s.prepare r prog).Tidy :=
  .ite h (.ite (.rngRequest h) (.setRouteSt (.update (.rngRequest h))))

theorem State.Tidy.newEpoch {s : State} {r prog bundle : ℕ} {ready : Bool} (h : s.Tidy) :
    (s.newEpoch r prog bundle ready).Tidy := by
  unfold State.newEpoch
  dsimp only
  split
  · exact h
  · exact .setRouteSt h

theorem State.Tidy.epochStep {s : State} {r prog : ℕ} {job : Option Job} (h : s.Tidy) : (s.epochStep r prog job).Tidy := by
  unfold State.epochStep
  extract_lets k len q t older u
  have ht : t.Tidy := .draw h
  have hu : u.Tidy := by
    unfold u
    split
    · exact .newEpoch (.prepare (.setRouteSt ht))
    · exact .ite (.newEpoch (.prepare ht)) (.ite (.newEpoch (.setRouteSt ht)) (.setRouteSt ht))
  exact .ite (.prepare hu) hu

theorem State.Tidy.drawFirst {s : State} (h : s.Tidy) : s.drawFirst.Tidy :=
  .foldl _ _ (fun _ _ h1 => .ite (.prepare h1) h1) h

theorem State.Tidy.restartRoutes {s : State} (h : s.Tidy) : s.restartRoutes.Tidy :=
  .update h

theorem State.Tidy.forgetVectors {s : State} {i : ℕ} (h : s.Tidy) : (s.forgetVectors i).Tidy :=
  .foldl _ _ (fun _ _ h1 => .ite (.setRouteSt h1) h1) h

/-! ### The operations of Machine/Verdict.lean -/

theorem State.Tidy.ringWrite {s : State} {f : ℕ} {rec : Record} (h : s.Tidy) : (s.ringWrite f rec).Tidy :=
  .ite (.signal (.setFn h)) (.ite (.postEvent (.satInc h _)) (.satInc h _))

theorem State.Tidy.setDispValid {s : State} {line : ℕ} {on : Bool} (h : s.Tidy) : (s.setDispValid line on).Tidy :=
  .update h

theorem State.Tidy.driveDisp {s : State} {rc : RouteCfg} {f status : ℕ} (h : s.Tidy) : (s.driveDisp rc f status).Tidy :=
  .ite h (.setDispValid h)

theorem State.Tidy.liftMarking {s : State} {cls status : ℕ} (h : s.Tidy) : (s.liftMarking cls status).Tidy :=
  .ite (.setFld (.setFld h _ _) _ _) h

theorem State.Tidy.requestRestart {s : State} {r f : ℕ} (h : s.Tidy) : (s.requestRestart r f).Tidy :=
  .lose (.postEvent (.update (.setFld h _ _)))

theorem State.Tidy.restartOnRecord {s : State} {rc : RouteCfg} {r f : ℕ} {d : Decision} (h : s.Tidy) :
    (s.restartOnRecord rc r f d).Tidy :=
  .ite h (.ite (.regain (.setFld (.update (.setFld (.setFld h _ _) _ _)) _ _)) (.ite (.requestRestart h) h))

theorem State.Tidy.countFate {s : State} {rc : RouteCfg} {status : ℕ} (h : s.Tidy) : (s.countFate rc status).Tidy :=
  .ite (.satInc h _) (.ite (.satInc (.satInc h _) _) h)

theorem State.Tidy.signalRunning {s : State} {src : ℕ} {p : ℕ → Bool} (h : s.Tidy) : (s.signalRunning src p).Tidy := by
  refine .iter _ _ (fun _ _ h1 => ?_) h
  split
  · exact .ite (.devSignal h1) h1
  · exact h1

theorem State.Tidy.partnerBack {s : State} (h : s.Tidy) : s.partnerBack.Tidy :=
  .ite h (.regain h)

theorem State.Tidy.endHandBack {s : State} {r f : ℕ} (h : s.Tidy) : (s.endHandBack r f).Tidy :=
  .ite h (.ite (.partnerBack (.setFld (.update h) _ _)) (.setFld (.update h) _ _))

theorem State.Tidy.publish {s : State} {rc : RouteCfg} {r : ℕ} {fr : OpenFrame} {job : Option Job} {d : Decision} {replaces : Bool} (h : s.Tidy) :
    (s.publish rc r fr job d replaces).Tidy := by
  unfold State.publish
  extract_lets bytes k t u v good w x y z s8 s9
  have ht : t.Tidy := .cvuRun h
  have hu : u.Tidy := .ite (.setFld ht _ _) ht
  have hv : v.Tidy := .setFld (.setFld (.setFld (.setFld (.setFld hu _ _) _ _) _ _) _ _) _ _
  have hw : w.Tidy := .setRouteSt hv
  have hx : x.Tidy := .ite (.chainCommit hw) hw
  have hy : y.Tidy := .countFate hx
  have hz : z.Tidy := .ite (.ringWrite hy) hy
  have hs8 : s8.Tidy := .ite (.sendPaired hz) hz
  have hs9 : s9.Tidy := .signalRunning (.driveDisp hs8)
  exact .restartOnRecord (.liftMarking hs9)

theorem State.Tidy.closeFrame {s : State} {r f : ℕ} (h : s.Tidy) : (s.closeFrame r f).Tidy :=
  .update (.setFld (.setRouteSt h) _ _)

theorem State.Tidy.commitProv {s : State} {rc : RouteCfg} {r : ℕ} {fr : OpenFrame} {job : Option Job} (h : s.Tidy) :
    (s.commitProv rc r fr job).Tidy :=
  .ite h (.setFld (.setRouteSt (.publish h)) _ _)

theorem State.Tidy.resolveProv {s : State} {rc : RouteCfg} {r : ℕ} {fr : OpenFrame} {why : ℕ} (h : s.Tidy) :
    (s.resolveProv rc r fr why).Tidy :=
  .closeFrame (.publish h)

theorem State.Tidy.commitNow {s : State} {rc : RouteCfg} {r : ℕ} {fr : OpenFrame} (h : s.Tidy) : (s.commitNow rc r fr).Tidy :=
  .ite (.closeFrame h) (.closeFrame (.publish h))

theorem State.Tidy.commit {s : State} {rc : RouteCfg} {r : ℕ} {fr : OpenFrame} (h : s.Tidy) : (s.commit rc r fr).Tidy :=
  .ite h (.commitNow h)

theorem Step.Tidy.execVerdictCommit {r : Fin 64} {f : ℕ} {s : State} (h : s.Tidy) : (execVerdictCommit r f s).Tidy :=
  .next (by split; exacts [.ite (.commit h) h, h])

theorem Step.Tidy.execDeadline {r : Fin 64} {f : ℕ} {s : State} (h : s.Tidy) : (execDeadline r f s).Tidy := by
  refine .next ?_
  split
  · exact h
  · split
    · exact h
    · exact .ite h (.foldl _ _ (fun _ _ h1 => .ite (.commit h1) h1) h)

theorem Step.Tidy.execProvTimeout {r : Fin 64} {f : ℕ} {s : State} (h : s.Tidy) : (execProvTimeout r f s).Tidy := by
  refine .next ?_
  split
  · split
    · exact .ite (.resolveProv h) h
    · exact h
  · exact h

theorem State.Tidy.hearthCheck {s : State} {h f : ℕ} (hs : s.Tidy) : (s.hearthCheck h f).Tidy := by
  unfold State.hearthCheck
  split
  · exact hs
  · exact .ite (.signalRunning (.setFld (.setFld hs _ _) _ _)) hs

theorem State.Tidy.openWindow {s : State} (h : s.Tidy) : s.openWindow.Tidy :=
  .update (.setFld h _ _)

theorem Step.Tidy.execRestartWindowOpen {s : State} (h : s.Tidy) : (execRestartWindowOpen s).Tidy :=
  .next (.ite (.openWindow h) h)

theorem Step.Tidy.execRestartWindowEnd {r : Fin 64} {f : ℕ} {s : State} (h : s.Tidy) : (execRestartWindowEnd r f s).Tidy :=
  .next (.ite (.ite (.fatal (.setFld (.update h) _ _)) (.requestRestart (.setFld (.setFld (.update h) _ _) _ _))) h)

theorem State.Tidy.clearClient {s : State} {c : ℕ} (h : s.Tidy) : (s.clearClient c).Tidy :=
  .iter _ _ (fun _ _ h1 => .setReg h1 _ _) h

/-! ### The operations of Machine/SafeIo.lean -/

theorem State.Tidy.driveSitp {s : State} (h : s.Tidy) : s.driveSitp.Tidy :=
  .update h

theorem State.Tidy.writeRun {s : State} {m : Master} {v : ℕ} (h : s.Tidy) : (s.writeRun m v).1.Tidy := by
  unfold State.writeRun
  split
  · exact .setFld h _ _
  · exact .setFld h _ _
  · exact h

theorem State.Tidy.checkReadback {s : State} {c : ℕ} (h : s.Tidy) : (s.checkReadback c).Tidy := by
  unfold State.checkReadback
  extract_lets rb hs ls t n _ u look v
  have hlook : ∀ t b on drv code, t.Tidy → (look t b on drv code).Tidy := fun t _ _ _ _ ht =>
    .ite (.setFld (.setFld (.update ht) _ _) _ _) (.update ht)
  exact hlook _ _ _ _ _ (hlook _ _ _ _ _ (.update (.setFld (.setFld h _ _) _ _)))

theorem State.Tidy.applySto {s : State} {n c : ℕ} (h : s.Tidy) : (s.applySto n c).Tidy :=
  .setFld (.update (.setFld (.setFld (.setFld (.ite (.satInc h _) h) _ _) _ _) _ _)) _ _

theorem Step.Tidy.execScanStrobe {rawA rawB : BitVec 24} {s : State} (h : s.Tidy) : (execScanStrobe rawA rawB s).Tidy :=
  .next (.ite h (.ite (.update (.wrapInc h _)) (.iter _ _ (fun _ _ h1 => .applySto h1) (.iter _ _ (fun _ _ h2 => .checkReadback
    h2) (.driveSitp (.setFld (.update (.update (.wrapInc h _))) _ _))))))

theorem State.Tidy.filterContact {s : State} {agreed k : ℕ} (h : s.Tidy) : (s.filterContact agreed k).Tidy :=
  .ite (.update (.update h)) (.ite (.update (.setFld (.update h) _ _)) (.update (.update h)))

theorem State.Tidy.pairFault {s : State} {i code : ℕ} (h : s.Tidy) : (s.pairFault i code).Tidy :=
  .update (.setFld (.setFld h _ _) _ _)

theorem State.Tidy.pairStep {s : State} {i : ℕ} (h : s.Tidy) : (s.pairStep i).Tidy :=
  .ite (.ite (.update (.setFld (.setFld (.update (.setFld (.setFld (.update h) _ _) _ _)) _ _) _ _)) (.update (.setFld (.setFld
    (.update h) _ _) _ _))) (.ite (.pairFault (.setFld (.setFld (.update h) _ _) _ _)) (.setFld (.setFld (.update h) _ _) _ _))

theorem State.Tidy.computeSto {s : State} {c : ℕ} (h : s.Tidy) : (s.computeSto c).Tidy :=
  .ite (.setFld (.setFld (.setFld (.setFld (.update h) _ _) _ _) _ _) _ _) (.ite (.setFld (.setFld (.setFld (.setFld (.update h) _
    _) _ _) _ _) _ _) (.setFld (.setFld (.setFld (.setFld (.update h) _ _) _ _) _ _) _ _))

theorem State.Tidy.scanLogic {s : State} {agreed : Option ℕ} (h : s.Tidy) : (s.scanLogic agreed).Tidy := by
  refine .setFld (.iter _ _ (fun _ _ h1 => .computeSto h1) (.setFld (.setFld ?_ _ _) _ _)) _ _
  split
  · exact .iter _ _ (fun _ _ h2 => .pairStep h2) (.iter _ _ (fun _ _ h3 => .filterContact h3) h)
  · exact h

theorem State.Tidy.scanDiff {s : State} {b : Bool} {off : ℕ} (h : s.Tidy) : (s.scanDiff b off).Tidy :=
  .trip (.setFld (.setFld (.setFld (.setFld h _ _) _ _) _ _) _ _)

theorem State.Tidy.keepDiff {s : State} {b : Bool} {d : ℕ} (h : s.Tidy) : (s.keepDiff b d).Tidy :=
  .update h

theorem State.Tidy.scanDone {s : State} {b : Bool} (h : s.Tidy) : (s.scanDone b).Tidy :=
  .update h

theorem State.Tidy.lostVerifier {s : State} (h : s.Tidy) : s.lostVerifier.Tidy :=
  .ite (.ite (.update h) (.trip (.update h))) (.update h)

theorem State.Tidy.recordMissing {s : State} {b : Bool} (h : s.Tidy) : (s.recordMissing b).Tidy := by
  unfold State.recordMissing
  extract_lets t
  have ht : t.Tidy := .scanDone (.satInc h _)
  exact .ite ht (.ite (.ite (.lostVerifier (.update ht)) (.update ht)) (.ite (.trip (.scanLogic (.update ht))) (.scanLogic
    (.update ht))))

theorem Step.Tidy.execScanRecord {b : Bool} {rec : List Byte} {s : State} (h : s.Tidy) : (execScanRecord b rec s).Tidy := by
  refine .next (.ite h (.ite (.recordMissing h) (.ite h (.ite (.scanDone h) (.ite (.scanDone h) ?_)))))
  split
  · exact .scanDiff (.scanDone h)
  · exact .ite (.update (.keepDiff (.scanDone h))) (.scanLogic (.satAdd (.update (.keepDiff (.scanDone h))) _ _))

theorem Step.Tidy.execScanRecordMissing {b : Bool} {s : State} (h : s.Tidy) : (execScanRecordMissing b s).Tidy :=
  .next (.ite (.recordMissing h) h)

theorem Step.Tidy.execTestPulse {k : Fin 16} {s : State} (h : s.Tidy) : (execTestPulse k s).Tidy :=
  .next (.ite (.update h) h)

theorem Step.Tidy.execTestPulseEvaluate {k : Fin 16} {readsOn : Bool} {s : State} (h : s.Tidy) :
    (execTestPulseEvaluate k readsOn s).Tidy :=
  .next (.ite h (.ite (.satInc (.driveSitp (.update h)) _) (.ite (.pairFault (.satInc (.driveSitp (.update h)) _)) (.update
    (.driveSitp (.update h))))))

theorem Step.Tidy.execOutputTestSample {c : Fin 4} {low conducts : Bool} {s : State} (h : s.Tidy) :
    (execOutputTestSample c low conducts s).Tidy :=
  .next (.ite h (.fldBitSet (.setFld (.setFld h _ _) _ _) _ _))

/-! ### The operations of Machine/Settings.lean -/

theorem State.Tidy.setNvSlot {s : State} {k : ℕ} {m : SMap Byte} (h : s.Tidy) : (s.setNvSlot k m).Tidy :=
  .update h

theorem State.Tidy.nvLog {s : State} {kind slot arg value : ℕ} {digest : List Byte} (h : s.Tidy) :
    (s.nvLog kind slot arg value digest).Tidy :=
  .setFld (.update h) _ _

theorem State.Tidy.validateBanks {s : State} (h : s.Tidy) : s.validateBanks.1.Tidy := by
  unfold State.validateBanks
  dsimp only
  split
  · exact .nvLog (.setFld (.setFld (.setFld (.setFld (.setFld h _ _) _ _) _ _) _ _) _ _)
  · exact .ite (.nvLog (.setFld (.setFld (.setFld (.setFld (.setFld h _ _) _ _) _ _) _ _) _ _)) (.setFld (.setFld (.setFld
      (.setFld (.setFld h _ _) _ _) _ _) _ _) _ _)

theorem State.Tidy.loadReg {s : State} {c : List Byte} {p : ℕ × ℕ} (h : s.Tidy) : (s.loadReg c p).Tidy := by
  unfold State.loadReg
  split
  · exact h
  · exact .ite h (.setReg h _ _)

theorem State.Tidy.unloadRegs {s : State} {id : ℕ} (h : s.Tidy) : (s.unloadRegs id).Tidy :=
  .foldl _ _ (fun _ _ h1 => .loadReg h1) h

theorem State.Tidy.enableWm {s : State} {n : ℕ} (h : s.Tidy) : (s.enableWm n).Tidy :=
  .ite h (.setFld (.setFld (.loadReg h) _ _) _ _)

/-- A setting in its registers, or the reset values where there is none. -/
theorem State.Tidy.loadSetting {s : State} (h : s.Tidy) (id : ℕ) :
    (match s.setting id with
      | some c => (settingRegs id).foldl (fun (s : State) p => s.loadReg c p) s
      | none => s.unloadRegs id : State).Tidy := by
  split
  · exact .foldl _ _ (fun _ _ h1 => .loadReg h1) h
  · exact .unloadRegs h

theorem State.Tidy.loadSettings {s : State} (h : s.Tidy) : s.loadSettings.Tidy := by
  unfold State.loadSettings
  extract_lets put t u v w x y z
  have hput : ∀ t id, t.Tidy → (put t id).Tidy := fun t id ht => .loadSetting ht id
  clear_value put
  have ht : t.Tidy := .foldl _ _ (fun _ _ h1 => hput _ _ h1) h
  clear_value t
  have hu : u.Tidy := .ite ht (hput _ _ (hput _ _ ht))
  clear_value u
  have hv : v.Tidy := .ite hu (.setFld (.setFld hu _ _) _ _)
  clear_value v
  have hw : w.Tidy := .ite hv (.setFld (.setFld (.setFld (.setFld (.setFld hv _ _) _ _) _ _) _ _) _ _)
  clear_value w
  have hz : z.Tidy := .setFld (.setFld (.setFld (.setFld (.setFld hw _ _) _ _) _ _) _ _) _ _
  clear_value z
  refine .update (.setFld (.iter _ _ (fun _ _ h1 => .ite h1 (.idleTap h1)) (.foldl _ _ (fun _ _ h1 => .setFld h1 _ _)
    (.foldl _ _ (fun _ _ h1 => .setFld (.fldBitSet h1 _ _) _ _) (.dedicateCvus (.foldl _ _ (fun _ _ h1 => .ite h1 (.loadReg h1))
    (.foldl _ _ (fun _ _ h1 => .ite h1 (.enableWm (.setFld (.setFld (.setFld h1 _ _) _ _) _ _)))
    (.foldl _ _ (fun _ _ h1 => .setFld h1 _ _) hz))))))) _ _)

theorem State.Tidy.rekeyDram {s old : State} (hs : s.Tidy) : (s.rekeyDram old).Tidy :=
  .ite hs (.foldl _ _ (fun _ _ h1 => .loseRegion h1 _ _) hs)

theorem State.Tidy.takeBank {s : State} {b : Bool} (h : s.Tidy) : (s.takeBank b).Tidy :=
  .rekeyDram (.loadSettings (.update (.update (.setFld h _ _))))

theorem State.Tidy.validateStore {s : State} (h : s.Tidy) : s.validateStore.1.Tidy := by
  have hb : s.validateBanks.1.Tidy := .validateBanks h
  unfold State.validateStore
  split
  · next t b e =>
    rw [e] at hb
    exact .setState (.setFld (.takeBank hb) _ _)
  · next t e =>
    rw [e] at hb
    have hc := (hb.setFld R.NVM_STATUS_INFORCE 0).setFld R.DEVICE_BOOTSTAT_FAIL_CODE
    exact .setState (.ite (.update (.setFld (hc _) _ _)) (hc _))

theorem State.Tidy.retireSlot {s : State} {b : Bool} (h : s.Tidy) : (s.retireSlot b).1.Tidy := by
  unfold State.retireSlot
  dsimp only
  split
  · exact .nvLog (.setFld h _ _)
  · exact .setFld (.setFld (.setFld (.nvLog (.setFld h _ _)) _ _) _ _) _ _

theorem State.Tidy.storePrep {s : State} {b : Bool} (h : s.Tidy) : (s.storePrep b).1.Tidy :=
  .ite_fst (.setFld (.setFld (.ite_fst (.retireSlot h) h) _ _) _ _) (.ite_fst (.retireSlot h) h)

theorem State.Tidy.storeTo {s : State} {b : Bool} {img : List Byte} {gen n : ℕ} (h : s.Tidy) :
    (s.storeTo b img gen n).1.Tidy := by
  induction n generalizing s with
  | zero => exact .ite_fst (.setFld (.setNvSlot (.storePrep h)) _ _) (.storePrep h)
  | succ n ih =>
    have hq := State.Tidy.retireSlot (b := b) ((State.Tidy.setNvSlot (State.Tidy.storePrep (b := b) h)
      (k := (s.storePrep b).1.fld (bankSlot b)) (m := mapPut (mapPut ((s.storePrep b).1.nvSlot
        ((s.storePrep b).1.fld (bankSlot b))) 0x3FFC0 (leBytes 64 0)) 0 img)).setFld (bankGen b) 0)
    exact .ite_fst (.storePrep h) (.ite_fst (ih hq) hq)

theorem State.Tidy.storeSettings {s : State} {bad : ℕ} (h : s.Tidy) : (s.storeSettings bad).1.Tidy := by
  have ht := State.Tidy.storeTo (b := s.storeTarget) (img := imageOf s.nvm.staging)
    (gen := max (s.fld (bankGen false)) (s.fld (bankGen true)) + 1) (n := bad) h
  unfold State.storeSettings
  dsimp only
  split_ifs
  · exact h
  · exact h
  · exact h
  · split
    · next t e => rw [e] at ht; exact ht
    · next t e => rw [e] at ht; exact .update (.nvLog ht)

theorem State.Tidy.advanceCounter {s : State} {k v : ℕ} {inc : Bool} (h : s.Tidy) : (s.advanceCounter k v inc).1.Tidy :=
  .ite_fst h (.ite_fst h (.ite_fst h (.ite_fst h (.nvLog (.setFld h _ _)))))

/-! ### The operations of Machine/Keep.lean -/

theorem Step.Tidy.execRngSeed {s : State} (h : s.Tidy) : (execRngSeed s).Tidy := by
  refine .next (.ite h ?_)
  extract_lets _ t u v w
  have hu : u.Tidy := .setFld (.update h) _ _
  have hv : v.Tidy := .ite (.drawFirst hu) hu
  have hw : w.Tidy := .ite (.setFld hv _ _) hv
  exact .ite (.setFld hw _ _) hw

theorem Step.Tidy.execRngHealthFail {apt : Bool} {s : State} (h : s.Tidy) : (execRngHealthFail apt s).Tidy :=
  .next (.ite h (.update (.satInc h _)))

theorem Step.Tidy.execRngFailTimeout {s : State} (h : s.Tidy) : (execRngFailTimeout s).Tidy :=
  .next (by split; exacts [.ite (.setFld h _ _) h, h])

theorem Step.Tidy.execDrbgReseed {s : State} (h : s.Tidy) : (execDrbgReseed s).Tidy :=
  .next (.ite (.wrapInc (.update h) _) h)

theorem State.Tidy.setNego {s : State} {p n : ℕ} (h : s.Tidy) : (s.setNego p n).Tidy :=
  .update h

theorem State.Tidy.answer {s : State} {p : ℕ} {a : SpdmAns} (h : s.Tidy) : (s.answer p a).Tidy :=
  .update h

theorem Step.Tidy.spdm {s : State} {p need : ℕ} {g : State → State} (h : s.Tidy) (hg : ∀ t, t.Tidy → (g t).Tidy) :
    (s.spdm p need g).Tidy :=
  .next (.ite (.answer h) (.ite (.answer h) (hg _ h)))

theorem Step.Tidy.execGetVersion {p : Fin 2} {s : State} (h : s.Tidy) : (execGetVersion p s).Tidy :=
  .spdm h (fun _ h1 => .answer (.setNego (.dropSessions h1)))

theorem Step.Tidy.execGetCapabilities {p : Fin 2} {s : State} (h : s.Tidy) : (execGetCapabilities p s).Tidy :=
  .spdm h (fun _ h1 => .ite (.answer (.setNego h1)) (.answer h1))

theorem Step.Tidy.execNegotiateAlgorithms {p : Fin 2} {ok : Bool} {s : State} (h : s.Tidy) :
    (execNegotiateAlgorithms p ok s).Tidy :=
  .spdm h (fun _ h1 => .ite (.answer (.setNego h1)) (.answer h1))

theorem Step.Tidy.execGetDigests {p : Fin 2} {s : State} (h : s.Tidy) : (execGetDigests p s).Tidy :=
  .spdm h (fun _ h1 => .answer h1)

theorem Step.Tidy.execGetCertificate {p : Fin 2} {slot : Fin 8} {s : State} (h : s.Tidy) : (execGetCertificate p slot s).Tidy :=
  .spdm h (fun _ h1 => .answer h1)

theorem Step.Tidy.execChallenge {p : Fin 2} {slot : Fin 8} {s : State} (h : s.Tidy) : (execChallenge p slot s).Tidy :=
  .spdm h (fun _ h1 => .answer h1)

theorem Step.Tidy.execGetMeasurements {p : Fin 2} {idx : BitVec 8} {s : State} (h : s.Tidy) :
    (execGetMeasurements p idx s).Tidy :=
  .spdm h (fun _ h1 => .answer h1)

theorem State.Tidy.setSessions {s : State} {l : List Spdm} (h : s.Tidy) : (s.setSessions l).Tidy :=
  .iter _ _ (fun _ _ h1 => .setFld h1 _ _) (.setFld (.update h) _ _)

theorem Step.Tidy.execKeyExchange {p : Fin 2} {sid : BitVec 32} {s : State} (h : s.Tidy) : (execKeyExchange p sid s).Tidy :=
  .spdm h (fun _ h1 => .ite (.answer (.rngRequest h1)) (.ite (.answer (.rngRequest h1)) (.ite (.answer (.rngRequest h1)) (.answer
    (.setSessions (.rngRequest h1))))))

theorem Step.Tidy.execFinish {p : Fin 2} {sid : BitVec 32} {ok : Bool} {s : State} (h : s.Tidy) :
    (execFinish p sid ok s).Tidy := by
  refine .spdm h (fun _ h1 => ?_)
  split
  · exact .answer h1
  · exact .ite (.answer (.setSessions h1)) (.answer (.setSessions h1))

theorem Step.Tidy.inSession {s : State} {p : Fin 2} {sid : BitVec 32} {g : State → Spdm → State} (h : s.Tidy)
    (hg : ∀ t x1, t.Tidy → (g t x1).Tidy) : (s.inSession p sid g).Tidy :=
  .spdm h (fun _ h1 => (by split; exacts [.answer h1, hg _ _ h1]))

theorem Step.Tidy.execEndSession {p : Fin 2} {sid : BitVec 32} {s : State} (h : s.Tidy) : (execEndSession p sid s).Tidy :=
  .inSession h (fun _ _ h1 => .answer (.setSessions h1))

theorem Step.Tidy.execHeartbeat {p : Fin 2} {sid : BitVec 32} {s : State} (h : s.Tidy) : (execHeartbeat p sid s).Tidy :=
  .inSession h (fun _ _ h1 => .answer h1)

theorem Step.Tidy.execKeyUpdate {p : Fin 2} {sid : BitVec 32} {s : State} (h : s.Tidy) : (execKeyUpdate p sid s).Tidy :=
  .inSession h (fun _ _ h1 => .answer h1)

theorem Step.Tidy.execIdeKmQuery {p : Fin 2} {sid : BitVec 32} {s : State} (h : s.Tidy) : (execIdeKmQuery p sid s).Tidy :=
  .inSession h (fun _ _ h1 => .answer h1)

theorem State.Tidy.setIde {s : State} {x : Spdm} {g : List (ℕ × ℕ) → List (ℕ × ℕ)} (h : s.Tidy) : (s.setIde x g).Tidy :=
  .setSessions h

theorem Step.Tidy.execKSetGo {p : Fin 2} {sid : BitVec 32} {stream : Fin 5} {ks : Fin 2} {s : State} (h : s.Tidy) :
    (execKSetGo p sid stream ks s).Tidy :=
  .inSession h (fun _ _ h1 => .answer (.setIde h1))

theorem Step.Tidy.execKSetStop {p : Fin 2} {sid : BitVec 32} {stream : Fin 5} {ks : Fin 2} {s : State} (h : s.Tidy) :
    (execKSetStop p sid stream ks s).Tidy :=
  .inSession h (fun _ _ h1 => .answer (.setIde h1))

/-! ### The operations of Machine/Sync.lean -/

theorem SOut.Tidy.onObj {s : State} {c : CoreId} {f : IFields} {body : State → ℕ → ℕ → SOut} (h : s.Tidy)
    (hbody : ∀ t x1 x2, t.Tidy → (body t x1 x2).Tidy) : (s.onObj c f body).Tidy :=
  .ite (.exc h) (by split; exacts [.exc h, hbody _ _ _ h])

theorem Step.Tidy.execSig {c : CoreId} {f : IFields} {s : State} (h : s.Tidy) : (execSig c f s).Tidy := by
  refine .next (.runInstr (fun t ht => .onObj ht (fun u obj vid hu => ?_)) h)
  have hv := State.Tidy.updateObj (n := c) (obj := obj) (delta := (BitVec.setWidth 32 ((u.core c).b f)).toInt) (src := 5)
    (ctx := (u.core c).ctx) (vid := vid) hu
  dsimp only
  split
  · next v e => rw [e] at hv; exact .done (.countDelta hv)
  · next v x e => rw [e] at hv; exact .ite (.stay hv) (.exc hv)

theorem State.Tidy.postMarker {s : State} {c unit path obj : ℕ} {delta : BitVec 32} {gen cls : ℕ} (h : s.Tidy) :
    (s.postMarker c unit path obj delta gen cls).Tidy :=
  .update h

theorem Step.Tidy.execSigp {c : CoreId} {f : IFields} {s : State} (h : s.Tidy) : (execSigp c f s).Tidy :=
  .next (.runInstr (fun _ h1 => .onObj h1 (fun _ _ _ h2 => .ite (.exc h2) (.done (.postMarker (.countDelta h2))))) h)

theorem Step.Tidy.execWait {c : CoreId} {f : IFields} {s : State} (h : s.Tidy) : (execWait c f s).Tidy :=
  .next (.runInstr (fun _ h1 => .onObj h1 (fun _ _ _ h2 => .ite (.done h2) (.stay (.modCore h2 _ _)))) h)

theorem Step.Tidy.execWatch {c : CoreId} {f : IFields} {s : State} (h : s.Tidy) : (execWatch c f s).Tidy := by
  refine .next (.runInstr (fun _ h1 => .onObj h1 (fun _ _ _ h2 => ?_)) h)
  dsimp only
  split
  · exact .exc h2
  · exact .done (.fireWatches (.modCore h2 _ _))

theorem Step.Tidy.execUnwatch {c : CoreId} {f : IFields} {s : State} (h : s.Tidy) : (execUnwatch c f s).Tidy :=
  .next (.runInstr (fun _ h1 => .done (.modCore h1 _ _)) h)

theorem Step.Tidy.execSrd {c : CoreId} {f : IFields} {s : State} (h : s.Tidy) : (execSrd c f s).Tidy :=
  .next (.runInstr (fun _ h1 => .onObj h1 (fun _ _ _ h2 => .done (.modCore h2 _ _))) h)

theorem Step.Tidy.execBara {c : CoreId} {f : IFields} {s : State} (h : s.Tidy) : (execBara c f s).Tidy := by
  refine .next (.runInstr (fun _ h1 => ?_) h)
  split
  · exact .exc h1
  · exact .ite (.exc h1) (.done (.update (.modCore h1 _ _)))

theorem Step.Tidy.execBarw {c : CoreId} {f : IFields} {s : State} (h : s.Tidy) : (execBarw c f s).Tidy := by
  refine .next (.runInstr (fun _ h1 => ?_) h)
  split
  · exact .exc h1
  · split
    · exact .exc h1
    · exact .stay (.modCore h1 _ _)
    · exact .done (.modCore h1 _ _)
    · exact .exc (.modCore h1 _ _)

theorem State.Tidy.completeBarrier {s : State} {n : ℕ} {bad : optParam Bool false} (h : s.Tidy) :
    (s.completeBarrier n bad).Tidy :=
  .update (.setFld (.wrapInc h _) _ _)

theorem Step.Tidy.execBarrierArrival {n : Fin 64} {w : ArriveFrom} {s : State} (h : s.Tidy) :
    (execBarrierArrival n w s).Tidy := by
  refine .next ?_
  split
  · exact .ite (.ite (.completeBarrier (.fldBitSet (.update h) _ _)) (.ite (.completeBarrier (.fldBitSet (.update h) _ _))
      (.fldBitSet (.update h) _ _))) h
  · exact .ite (.xlog (.draw h)) (.ite (.ite (.completeBarrier (.update h)) (.update h)) h)

theorem State.Tidy.ringCompletion {s : State} {n : ℕ} {ended : Bool} (h : s.Tidy) : (s.ringCompletion n ended).Tidy :=
  .ite h (.ite (.ite (.breakBarrier h) h) (.ite (.completeBarrier h) h))

theorem Step.Tidy.execBarrierCompletion {n : Fin 64} {x : BarEnd} {s : State} (h : s.Tidy) :
    (execBarrierCompletion n x s).Tidy := by
  refine .next ?_
  split
  · exact .ringCompletion h
  · exact .update (.modCore (.ringCompletion h) _ _)

theorem Step.Tidy.execMsg {c : CoreId} {f : IFields} {s : State} (h : s.Tidy) : (execMsg c f s).Tidy :=
  .next (.runInstr (fun _ h1 => .ite (.exc h1) (.ite (.ite (.done h1) (.exc h1)) (.ite (.exc h1) (.stay (.update (.modCore h1 _
    _)))))) h)

theorem Step.Tidy.execMsgDelivery {m : MsgFrom} {s : State} (h : s.Tidy) : (execMsgDelivery m s).Tidy := by
  refine .next ?_
  split
  · split
    · exact h
    · next x l _ =>
      have hr : ({ s with fab := { s.fab with msgs := l } }.mboxDeliver x.dst x.mbox x.value (s.fld R.NIM_CFG_SELF) x.src x.ctx
        true true).1.Tidy := .mboxDeliver (.update h)
      refine .ite hr ?_
      split
      · exact .advance hr
      · exact .raise hr
  · next dev core ctx dst mbox value tenant =>
    refine .ite h ?_
    have hr := State.Tidy.mboxDeliver (n := dst) (m := mbox) (value := value) (dev := dev) (core := core) (ctx := ctx)
      (local_ := false) (tenant := tenant) h
    split
    · next t e => rw [e] at hr; exact hr
    · next t x e => rw [e] at hr; exact .bellErr hr
  · exact .ite (.bellErr h) h

theorem Step.Tidy.execMarkerReturn {c : CoreId} {id : ℕ} {s : State} (h : s.Tidy) : (execMarkerReturn c id s).Tidy := by
  refine .next ?_
  split
  · exact h
  · exact .ite h (.ite (.update h) (.deliver (.update h)))

theorem State.Tidy.releaseSteward {s : State} {c : ℕ} (h : s.Tidy) : (s.releaseSteward c).Tidy :=
  .fldBitClr (.advance h) _ _

theorem State.Tidy.releaseToken {s : State} {c e : ℕ} (h : s.Tidy) : (s.releaseToken c e).Tidy := by
  refine .ite h ?_
  split
  · exact .ite (.fldBitClr (.modCore h _ _) _ _) h
  · exact h

theorem Step.Tidy.execWaitRelease {c : CoreId} {u : UnitId} {s : State} (h : s.Tidy) : (execWaitRelease c u s).Tidy := by
  refine .next (.ite (.releaseToken h) (.ite h ?_))
  split
  · exact .ite (.releaseSteward h) h
  · exact .ite (.releaseSteward (.modCore h _ _)) (.ite (.raise (.modCore h _ _)) h)
  · exact h

theorem State.Tidy.snapshot {s : State} {c : ℕ} {device : Bool} {us : ℕ} (h : s.Tidy) : (s.snapshot c device us).Tidy := by
  unfold State.snapshot
  extract_lets t u v
  have ht : t.Tidy := .setFld (.setFld (.setFld h _ _) _ _) _ _
  have hu : u.Tidy := .setFld (.setFld (.setFld ht _ _) _ _) _ _
  have hv : v.Tidy := .setFld hu _ _
  refine .iter _ _ (fun _ _ h1 => ?_) hv
  split
  · exact .setFld (.setFld (.setFld (.setFld (.setFld h1 _ _) _ _) _ _) _ _) _ _
  · exact .ite (.setFld (.setFld (.setFld h1 _ _) _ _) _ _) (.setReg h1 _ _)
  · exact .setReg h1 _ _

theorem State.Tidy.dlReport {s : State} {c : ℕ} {dev : Bool} {us : ℕ} (h : s.Tidy) : (s.dlReport c dev us).Tidy :=
  .modCore (.snapshot h) _ _

theorem Step.Tidy.execDeadlockReport {scope : Option CoreId} {us : ℕ} {s : State} (h : s.Tidy) :
    (execDeadlockReport scope us s).Tidy := by
  refine .next ?_
  split
  · exact .ite (.dlReport h) h
  · exact .ite (.iter _ _ (fun _ _ h1 => .ite (.dlReport h1) h1) h) h

/-! ### The operations of Machine/EngineIssue.lean -/

theorem State.Tidy.traceDispatch {s : State} {c : ℕ} {es : List (ℕ × Entry)} (h : s.Tidy) : (s.traceDispatch c es).Tidy :=
  .foldl _ _ (fun _ _ h1 => (by split; exacts [.traceRec h1, h1])) h

theorem SOut.Tidy.issue {s : State} {c : ℕ} {es : List (ℕ × Entry)} (h : s.Tidy) : (s.issue c es).Tidy :=
  .ite (.done (.modCore (.traceDispatch h) _ _)) (.stay (.modCore h _ _))

theorem Step.Tidy.execQueueEntryFree {c : CoreId} {s : State} (h : s.Tidy) : (execQueueEntryFree c s).Tidy := by
  refine .next ?_
  split
  · exact .ite (.advance (.modCore (.traceDispatch h) _ _)) h
  · exact h

theorem Step.Tidy.execFences {c : CoreId} {f : IFields} {s : State} (h : s.Tidy) : (execFences c f s).Tidy :=
  .next (.runInstr (fun _ h1 => .ite (.done h1) (.stay h1)) h)

theorem Step.Tidy.execFencee {c : CoreId} {f : IFields} {s : State} (h : s.Tidy) : (execFencee c f s).Tidy :=
  .next (.runInstr (fun _ h1 => .issue h1) h)

theorem Step.Tidy.execMfence {c : CoreId} {f : IFields} {s : State} (h : s.Tidy) : (execMfence c f s).Tidy :=
  .next (.runInstr (fun _ h1 => .done h1) h)

theorem SOut.Tidy.tokenObj {s : State} {c : CoreId} {f : IFields} {body : State → ℕ → SOut}
    (hbody : ∀ t obj, t.Tidy → (body t obj).Tidy) (h : s.Tidy) : (s.tokenObj c f body).Tidy := by
  refine .ite (.exc h) ?_
  split
  · exact .exc (.bellErr h)
  · exact hbody _ _ h

theorem Step.Tidy.execQsig {c : CoreId} {f : IFields} {s : State} (h : s.Tidy) : (execQsig c f s).Tidy :=
  .next (.runInstr (fun _ h1 => .tokenObj (fun _ _ h2 => .ite (.exc h2) (.issue (.countDelta h2))) h1) h)

theorem Step.Tidy.execQwait {c : CoreId} {f : IFields} {s : State} (h : s.Tidy) : (execQwait c f s).Tidy :=
  .next (.runInstr (fun _ h1 => .tokenObj (fun _ _ h2 => .issue h2) h1) h)

theorem Step.Tidy.execQstat {c : CoreId} {f : IFields} {s : State} (h : s.Tidy) : (execQstat c f s).Tidy :=
  .next (.runInstr (fun _ h1 => .done (.modCore h1 _ _)) h)

theorem Step.Tidy.execEflush {c : CoreId} {f : IFields} {s : State} (h : s.Tidy) : (execEflush c f s).Tidy :=
  .next (.runInstr (fun _ h1 => .done (.modCore h1 _ _)) h)

theorem Step.Tidy.execEresume {c : CoreId} {f : IFields} {s : State} (h : s.Tidy) : (execEresume c f s).Tidy :=
  .next (.runInstr (fun _ h1 => .done (.modCore h1 _ _)) h)

theorem Step.Tidy.execDispatch {c : CoreId} {op : EOp} {f : IFields} {s : State} (h : s.Tidy) : (execDispatch c op f s).Tidy :=
  .next (.runInstr (fun _ h1 => .issue h1) h)

theorem Step.Tidy.execFenceToken {c : CoreId} {e : EngId} {s : State} (h : s.Tidy) : (execFenceToken c e s).Tidy :=
  .next (by split; exacts [.ite (.modCore h _ _) h, h])

theorem Step.Tidy.execSignalToken {c : CoreId} {e : EngId} {s : State} (h : s.Tidy) : (execSignalToken c e s).Tidy := by
  refine .next ?_
  split
  · exact .ite h (.ite (.deliver (.modCore h _ _)) (.postMarker (.modCore h _ _)))
  · exact h

theorem Step.Tidy.execWaitToken {c : CoreId} {e : EngId} {s : State} (h : s.Tidy) : (execWaitToken c e s).Tidy :=
  .next (.ite (.releaseToken h) h)

/-! ### The operations of Machine/Injection.lean -/

theorem State.Tidy.scrambleGolden {s : State} {c : ℕ} (h : s.Tidy) : (s.scrambleGolden c).Tidy :=
  .loseRegion h _ _

theorem State.Tidy.injTest {s : State} {l : List InjRec} {c : ℕ} (h : s.Tidy) : (s.injTest l c).Tidy :=
  .setFld (.setFld (.setFld (.setFld (.setFld (.modCore (.scrambleGolden h) _ _) _ _) _ _) _ _) _ _) _ _

/-! ### The operations of Machine/Programs.lean -/

theorem State.Tidy.setPasses {s : State} {l : List PassOut} (h : s.Tidy) : (s.setPasses l).Tidy :=
  .update h

theorem State.Tidy.endRun {s : State} {c : ℕ} (h : s.Tidy) : (s.endRun c).Tidy :=
  .traceRec (.setFld (.modCore h _ _) _ _)

theorem State.Tidy.refuseJob {s : State} {j : Job} (h : s.Tidy) : (s.refuseJob j).Tidy :=
  .satInc (.modJob h) _

theorem State.Tidy.delayJob {s : State} {c i : ℕ} {j : Job} (h : s.Tidy) : (s.delayJob c i j).Tidy := by
  unfold State.delayJob
  split
  · exact h
  · dsimp only
    split
    · exact .refuseJob h
    · exact .ite (.refuseJob h) (.setFld (.satInc (.modJob h) _) _ _)

theorem State.Tidy.loseSlot {s : State} {c i : ℕ} (h : s.Tidy) : (s.loseSlot c i).Tidy := by
  unfold State.loseSlot
  split
  · exact h
  · exact .ite (.refuseJob h) (.ite (.delayJob h) h)

theorem State.Tidy.startProgram {s : State} {c i : ℕ} {p : Prog} {run : SlotRun} {left : ℕ} {desc : Word}
    {ws : List (Word × Word)} (h : s.Tidy) : (s.startProgram c i p run left desc ws).Tidy :=
  .eret (.ite (.setFld (.setFld (.setFld (.setFld (.setFld (.traceRec (.setCore h _ _)) _ _) _ _) _ _) _ _) _ _) (.traceRec
    (.setCore h _ _)))

theorem State.Tidy.validateTable {s : State} {r f : ℕ} {p : Prog} (h : s.Tidy) : (s.validateTable r f p).Tidy :=
  .ite h (.setRouteSt h)

theorem State.Tidy.beginJob {s : State} {c : ℕ} {p : Prog} {j : Job} (h : s.Tidy) : (s.beginJob c p j).Tidy :=
  .validateTable (.modJob h)

theorem Step.Tidy.execSlotStart {c : CoreId} {i : Fin 32} {desc : Word} {w1 w2 w3 : Word × Word} {s : State} (h : s.Tidy) :
    (execSlotStart c i desc w1 w2 w3 s).Tidy := by
  unfold Machine.execSlotStart
  extract_lets ws prog cls left
  refine .next (.ite h ?_)
  split
  · split
    · exact h
    · exact .startProgram (.beginJob (.loseSlot h))
  · split
    · exact h
    · refine .ite ?_ ?_
      · split
        · exact h
        · exact .startProgram h
      · split
        · exact .ite h (.startProgram h)
        · split
          · exact .ite (.startProgram (.beginJob h)) h
          · split
            · exact .delayJob h
            · exact h

theorem State.Tidy.serve {s : State} {c n : ℕ} {g : State → SlotRun → State} (h : s.Tidy) (hg : ∀ t x1, t.Tidy → (g t x1).Tidy) :
    (s.serve c n g).Tidy :=
  .ite (by split; exacts [.eret (hg _ _ h), h]) h

theorem Step.Tidy.execPassInfo {c : CoreId} {s : State} (h : s.Tidy) : (execPassInfo c s).Tidy :=
  .next (.serve h (fun _ _ h1 => .modCore h1 _ _))

theorem Step.Tidy.execPassOut {c : CoreId} {s : State} (h : s.Tidy) : (execPassOut c s).Tidy :=
  .next (.serve h (fun _ _ h1 => .ite (.modCore h1 _ _) h1))

theorem Step.Tidy.execHearthRef {c : CoreId} {s : State} (h : s.Tidy) : (execHearthRef c s).Tidy := by
  refine .next (.serve h (fun _ _ h1 => ?_))
  split
  · exact .modCore h1 _ _
  · exact .modCore (.draw h1) _ _

theorem Step.Tidy.execTapFrame {c : CoreId} {s : State} (h : s.Tidy) : (execTapFrame c s).Tidy :=
  .next (.serve h (fun _ _ h1 => .modCore h1 _ _))

theorem Step.Tidy.execCheckDone {c : CoreId} {s : State} (h : s.Tidy) : (execCheckDone c s).Tidy := by
  refine .next (.serve h (fun _ _ h1 => ?_))
  split
  · dsimp only
    split
    · exact h1
    · exact .ite (.modJob (.ite (.setRouteSt (.draw h1)) (.draw h1))) (.ite (.modJob (.ite (.setRouteSt (.draw h1)) (.draw h1)))
        (.ite (.setRouteSt (.draw h1)) (.draw h1)))
  · exact h1

theorem State.Tidy.pairMismatch {s : State} {c : ℕ} (h : s.Tidy) : (s.pairMismatch c).Tidy :=
  .coreFault (.satInc h _)

theorem State.Tidy.finishRun {s : State} {c : ℕ} {run : SlotRun} {outs : List (ℕ × ℕ)} {code : ℕ} (h : s.Tidy) :
    (s.finishRun c run outs code).Tidy :=
  .ite (.setPasses h) (by split; exacts [.modJob h, .setFld h _ _])

theorem Step.Tidy.execExit {c : CoreId} {s : State} (h : s.Tidy) : (execExit c s).Tidy := by
  refine .next (.ite h ?_)
  split
  · exact h
  refine .ite h ?_
  extract_lets err t v code u w pair
  have hu : u.Tidy := .ite (.modJob (.modCore h _ _)) (.modCore h _ _)
  have hw : w.Tidy := .endRun hu
  refine .ite hw (.ite (.finishRun hw) (.ite (.setPasses hw) ?_))
  split
  · exact hw
  · exact .ite (.finishRun (.setPasses hw)) (.pairMismatch (.setPasses hw))

theorem State.Tidy.awayStage {s : State} {h st : ℕ} {x : AwayStage} (hs : s.Tidy) : (s.awayStage h st x).Tidy := by
  unfold State.awayStage
  split
  · exact .ite hs (.hearthCheck (.update hs))
  · exact hs

theorem Step.Tidy.execHearthStageDone {h : Fin 8} {x : StageEnd} {s : State} (hs : s.Tidy) :
    (execHearthStageDone h x s).Tidy := by
  refine .next ?_
  split
  · exact .awayStage hs
  · split
    · exact .hearthCheck (.ite (.setFld (.update (.setPasses hs)) _ _) (.update (.setPasses hs)))
    · exact hs

theorem State.Tidy.endOverrun {s : State} {c : ℕ} {run : SlotRun} (h : s.Tidy) : (s.endOverrun c run).Tidy :=
  .endRun (.setPasses (.ite (.modJob (.modCore h _ _)) (.modCore h _ _)))

theorem Step.Tidy.execSlotOverrun {c : CoreId} {s : State} (h : s.Tidy) : (execSlotOverrun c s).Tidy := by
  refine .next ?_
  split
  · exact h
  · refine .ite h (.ite (.modCore h _ _) (.ite (.endOverrun h) (.ite (.modCore h _ _) ?_)))
    split
    · next t e => exact .ite (.endOverrun (.takePending (.modCore h _ _) e)) (.takePending (.modCore h _ _) e)
    · exact .modCore h _ _

theorem State.Tidy.dropResults {s : State} {c : ℕ} (h : s.Tidy) : (s.dropResults c).Tidy :=
  .update h

theorem State.Tidy.goldenFail {s : State} {c : ℕ} (h : s.Tidy) : (s.goldenFail c).Tidy :=
  .coreFault (.satInc (.setFld (.dropResults h) _ _) _)

theorem Step.Tidy.execGoldenRun {c : CoreId} {ok : Bool} {dur : ℕ} {s : State} (h : s.Tidy) : (execGoldenRun c ok dur s).Tidy :=
  .next (.ite h (.ite (.setFld (.setFld (.setFld (.setFld (.setFld (.scrambleGolden h) _ _) _ _) _ _) _ _) _ _) (.goldenFail
    (.setFld (.setFld (.setFld (.scrambleGolden h) _ _) _ _) _ _))))

theorem Step.Tidy.execGoldenRunTimeout {c : CoreId} {s : State} (h : s.Tidy) : (execGoldenRunTimeout c s).Tidy :=
  .next (.ite (.goldenFail h) h)

theorem State.Tidy.forcePair {s : State} {c : ℕ} {v : BitVec 32} (h : s.Tidy) : (s.forcePair c v).Tidy :=
  .ite (.pairMismatch h) h

/-! ### The operations of Machine/Taps.lean -/

theorem State.Tidy.lowerDisp {s : State} {k : ℕ} (h : s.Tidy) : (s.lowerDisp k).Tidy :=
  .foldl _ _ (fun _ _ h1 => .ite (.setDispValid h1) h1) h

theorem State.Tidy.setOutcome {s : State} {k f code : ℕ} {hist : Option (ℕ × ℕ × ℕ)} (h : s.Tidy) :
    (s.setOutcome k f code hist).Tidy := by
  unfold State.setOutcome
  extract_lets t u v w x
  have hu : u.Tidy := .setTap h
  have hv : v.Tidy := .setFld (.setFld hu _ _) _ _
  have hw : w.Tidy := .ite (.satInc hv _) hv
  have hx : x.Tidy := .ite hw (.lowerDisp hw)
  exact .foldl _ _ (fun _ _ h1 => .ite (.hearthCheck h1) h1) hx

theorem State.Tidy.decideFrame {s : State} {k : ℕ} (h : s.Tidy) : (s.decideFrame k).Tidy :=
  .setOutcome (.ite h (.setFld h _ _))

theorem State.Tidy.put {k f : ℕ} {s : State} {t : TapSt} {b : ℕ} (h : s.Tidy) : (State.takeBuf.put k f s t b).Tidy :=
  .setFld (.setTap h) _ _

theorem State.Tidy.takeBuf {s : State} {k f : ℕ} (h : s.Tidy) : (s.takeBuf k f).Tidy := by
  unfold State.takeBuf
  dsimp only
  split
  · exact .ite (.satInc h _) (.put h)
  · exact .put h

theorem State.Tidy.windowError {s : State} {d : ℕ} (h : s.Tidy) : (s.windowError d).Tidy :=
  .setTap h

theorem State.Tidy.resolveWindows {s : State} {d : ℕ} (h : s.Tidy) : (s.resolveWindows d).Tidy := by
  refine .foldl _ _ (fun _ _ h1 => ?_) h
  split
  · split
    · exact .ite (.resolveProv h1) h1
    · exact h1
  · exact h1

theorem State.Tidy.cutWindows {s : State} {d : ℕ} (h : s.Tidy) : (s.cutWindows d).Tidy := by
  refine .foldl _ _ (fun _ _ h1 => ?_) (.resolveWindows (.windowError h))
  split
  · exact .ite (.commit h1) h1
  · exact h1

theorem State.Tidy.openRoute {s : State} {r : ℕ} {rc : RouteCfg} {f start : ℕ} (h : s.Tidy) : (s.openRoute r rc f start).Tidy :=
  .setRouteSt (.epochStep h)

theorem State.Tidy.boundaryRoute {s : State} {f : ℕ} {real : Bool} {p : ℕ × RouteCfg} (h : s.Tidy) :
    (s.boundaryRoute f real p).Tidy := by
  refine .ite (.endHandBack h) (.ite ?_ (.ite (.setDispValid (.openRoute (.endHandBack h))) (.openRoute (.endHandBack h))))
  split
  · exact .commitProv (.openRoute (.endHandBack h))
  · exact .openRoute (.endHandBack h)

theorem State.Tidy.alignObj {s : State} {n k : ℕ} (h : s.Tidy) : (s.alignObj n k).Tidy :=
  .ite (.ite (.coreFault h) (.fireWatches (.setFld (.setFld (.setFld (.satInc h _) _ _) _ _) _ _))) h

theorem State.Tidy.alignCore {s : State} {n : ℕ} (h : s.Tidy) : (s.alignCore n).Tidy :=
  .foldl _ _ (fun _ _ h1 => .alignObj h1) h

theorem State.Tidy.applyMode {s : State} {q : ModeReq} (h : s.Tidy) : (s.applyMode q).Tidy :=
  .complete (.update h)

theorem State.Tidy.applyModes {s : State} {k : ℕ} (h : s.Tidy) : (s.applyModes k).Tidy :=
  .foldl _ _ (fun _ _ h1 => .applyMode h1) (.update h)

theorem State.Tidy.refBoundary {s : State} (h : s.Tidy) : s.refBoundary.Tidy :=
  .iter _ _ (fun _ _ h1 => .ite (.alignCore h1) h1) h

theorem State.Tidy.boundary {s : State} {k : ℕ} {real : Option ℕ} {rate : Bool} (h : s.Tidy) : (s.boundary k real rate).Tidy := by
  unfold State.boundary
  extract_lets t op u v ph w x _ f t' _ _ s1 s2 s3 _ s4 s5 _ s7
  have hu : u.Tidy := .ite (.decideFrame (.setTap h)) h
  have hv : v.Tidy := .ite (.cutWindows hu) hu
  have hw : w.Tidy := .wrapInc hv _
  have hx : x.Tidy := .ite (.setFld hw _ _) hw
  have h1 : s1.Tidy := .setFld (.setTap (.setFld hx _ _)) _ _
  have h2 : s2.Tidy := .ite (.ite (.takeBuf h1) h1) (.setFld (.setFld (.setFld h1 _ _) _ _) _ _)
  have h3 : s3.Tidy := .devSignalAll h2
  have h4 : s4.Tidy := .ite (.update h3) h3
  have h5 : s5.Tidy := .ite (.setOutcome h4) h4
  have h7 : s7.Tidy := .foldl _ _ (fun _ _ h1 => .boundaryRoute h1) (.applyModes h5)
  exact .ite (.refBoundary h7) h7

theorem State.Tidy.dropStart {s : State} {k : ℕ} (h : s.Tidy) : (s.dropStart k).Tidy :=
  .satInc (.setTap h) _

theorem Step.Tidy.execTapFrameStart {k : Fin 12} {fn : BitVec 16} {s : State} (h : s.Tidy) : (execTapFrameStart k fn s).Tidy :=
  .next (.ite h (.ite (.setFld (.boundary (.setFld (.setFld h _ _) _ _)) _ _) (.ite (.setFld (.boundary (.setFld (.setFld h _ _) _
    _)) _ _) (.ite (.ite (.dropStart (.setFld (.setFld h _ _) _ _)) (.setTap (.dropStart (.setFld (.setFld h _ _) _ _)))) (.setFld
    (.dropStart (.setFld (.setFld h _ _) _ _)) _ _)))))

theorem Step.Tidy.execSyntheticBoundary {k : Fin 12} {s : State} (h : s.Tidy) : (execSyntheticBoundary k s).Tidy :=
  .next (.ite h (.boundary (.setFld (.ite (.satInc (.setFld h _ _) _) h) _ _)))

theorem Step.Tidy.execTapFrameEnd {k : Fin 12} {s : State} (h : s.Tidy) : (execTapFrameEnd k s).Tidy :=
  .next (.ite h (.decideFrame (.ite (.windowError (.setTap h)) (.setTap h))))

theorem State.Tidy.windowLine {s : State} {d i : ℕ} {data : List Byte} (h : s.Tidy) : (s.windowLine d i data).Tidy :=
  .iter _ _ (fun _ _ h1 => .ite h1 (.ite (.setTap h1) (.setTap h1))) h

theorem State.Tidy.storeLine {s : State} {k i : ℕ} {data : List Byte} (h : s.Tidy) : (s.storeLine k i data).Tidy :=
  .ite h (.ite (.putMem (.checkMem h) _ _) (.checkMem h))

theorem State.Tidy.findMarker {s : State} {k line : ℕ} {data : List Byte} (h : s.Tidy) : (s.findMarker k line data).Tidy :=
  .ite (.setTap h) h

theorem State.Tidy.keepPacket {s : State} {k : ℕ} {p : TapPkt} (h : s.Tidy) : (s.keepPacket k p).Tidy := by
  unfold State.keepPacket
  extract_lets t u
  have hu : u.Tidy := .setTap h
  exact .ite (.satInc (.ite (.setTap (.ite (.storeLine (.findMarker hu)) (.windowLine (.findMarker hu)))) (.ite (.storeLine
    (.findMarker hu)) (.windowLine (.findMarker hu)))) _) (.setTap (.ite hu (.findMarker hu)))

theorem Step.Tidy.execTapPacket {k : Fin 12} {p : TapPkt} {s : State} (h : s.Tidy) : (execTapPacket k p s).Tidy := by
  refine .next (.ite h ?_)
  extract_lets t u v edt
  have ht : t.Tidy := .ite (.satInc h _) h
  have hu : u.Tidy := .ite (.satInc ht _) ht
  exact .ite hu (.ite (.ite (.windowError (.setTap hu)) (.setTap hu)) (.ite (.keepPacket hu) hu))

theorem State.Tidy.compareWindow {s : State} {d w : ℕ} (h : s.Tidy) : (s.compareWindow d w).Tidy := by
  refine .foldl _ _ (fun _ _ h1 => ?_) h
  split
  · exact h1
  · exact .ite h1 (.ite h1 (.fldBitSet h1 _ _))

theorem Step.Tidy.execTelltaleWindowComplete {d : Fin 4} {w : Fin 16} {s : State} (h : s.Tidy) :
    (execTelltaleWindowComplete d w s).Tidy :=
  .next (.ite h (.ite (.resolveWindows h) (.ite h (.resolveWindows (.compareWindow (.fldBitSet (.setFld h _ _) _ _))))))

theorem State.Tidy.chimeOutcome {s : State} {e : ChimeExp} {o : ℕ} (h : s.Tidy) : (s.chimeOutcome e o).Tidy :=
  .ite (.sendPaired (.postEvent (.ite (.satInc (.setFld (.setFld h _ _) _ _) _) (.satInc (.setFld (.setFld h _ _) _ _) _))))
    (.postEvent (.ite (.satInc (.setFld (.setFld h _ _) _ _) _) (.satInc (.setFld (.setFld h _ _) _ _) _)))

theorem State.Tidy.decideChimes {s : State} {p : ChimeExp → Option ℕ} (h : s.Tidy) : (s.decideChimes p).Tidy :=
  .foldl _ _ (fun _ _ h1 => .chimeOutcome h1) (.setFld (.update h) _ _)

theorem Step.Tidy.execChimeBlock {hits : BitVec 16} {s : State} (h : s.Tidy) : (execChimeBlock hits s).Tidy :=
  .next (.ite h (.decideChimes (.update (.setFld h _ _))))

theorem Step.Tidy.execTdmNoClock {s : State} (h : s.Tidy) : (execTdmNoClock s).Tidy :=
  .next (.ite h (.decideChimes (.setFld h _ _)))

theorem Step.Tidy.execChimeDeadline {s : State} (h : s.Tidy) : (execChimeDeadline s).Tidy :=
  .next (.decideChimes h)

/-! ### The operations of Machine/Inbox.lean -/

theorem State.Tidy.settleJob {s : State} {r f : ℕ} (h : s.Tidy) : (s.settleJob r f).Tidy := by
  unfold State.settleJob
  split
  · exact .ite h (.ite (.modJob h) (.modJob h))
  · exact h

theorem State.Tidy.countBytes {s : State} {rc : RouteCfg} {n : ℕ} (h : s.Tidy) : (s.countBytes rc n).Tidy :=
  .setFld h _ _

theorem Step.Tidy.execPullReadComplete {r : Fin 64} {f : ℕ} {t : Fin 30} {st : MStat} {data : List Byte} {s : State} (h : s.Tidy)
    : (execPullReadComplete r f t st data s).Tidy := by
  refine .next ?_
  split
  · exact .ite h (.ite (.settleJob (.modJob (.countBytes h))) (.ite (.modJob h) (.modJob h)))
  · exact h

theorem State.Tidy.inboxDisc {s : State} {r : ℕ} (h : s.Tidy) : (s.inboxDisc r).Tidy :=
  .setFld h _ _

theorem Step.Tidy.execInboxWrite {off : BitVec 32} {data : List Byte} {s : State} (h : s.Tidy) :
    (execInboxWrite off data s).Tidy := by
  refine .next (.ite h ?_)
  split
  · exact h
  · refine .ite (.inboxDisc h) ?_
    dsimp only
    split
    · exact .countBytes (.update h)
    · exact .update h

theorem Step.Tidy.execInboxDoorbell {r : Fin 64} {b : Fin 2} {f : BitVec 32} {s : State} (h : s.Tidy) :
    (execInboxDoorbell r b f s).Tidy := by
  refine .next (.ite h ?_)
  split
  · exact h
  · exact .ite h (.ite (.inboxDisc h) (.settleJob (.iter _ _ (fun _ _ h1 => .ite (.devSignal h1) h1) (.modJob (.update h)))))

/-! ### The operations of Machine/Nimlink.lean -/

theorem State.Tidy.breakTo {s : State} {d : ℕ} (h : s.Tidy) : (s.breakTo d).Tidy :=
  .bumpEpoch h

theorem State.Tidy.departDevice {s : State} {d : ℕ} (h : s.Tidy) : (s.departDevice d).Tidy :=
  .ite (.lose (.iter _ _ (fun _ _ h1 => .ite (.completeBarrier h1) h1) (.breakTo h))) (.iter _ _ (fun _ _ h2 => .ite
    (.completeBarrier h2) h2) (.breakTo h))

theorem State.Tidy.setFloors {s : State} (h : s.Tidy) : s.setFloors.Tidy :=
  .setFld (.setFld (.setFld (.setFld h _ _) _ _) _ _) _ _

theorem State.Tidy.commitMember {s : State} {m : List NimReport} {d : ℕ} (h : s.Tidy) : (s.commitMember m d).Tidy := by
  unfold State.commitMember
  dsimp only
  split
  · exact .setFld (.setFld (.setFld (.setFld h _ _) _ _) _ _) _ _
  · exact .ite (.departDevice (.setFld h _ _)) (.setFld h _ _)

theorem State.Tidy.commitMap {s : State} {m : List NimReport} {st : ℕ} (h : s.Tidy) : (s.commitMap m st).Tidy :=
  .setFloors (.setFld (.setFld (.setFld (.setFld (.iter _ _ (fun _ _ h1 => .setFld h1 _ _) (.iter _ _ (fun _ _ h2 => .commitMember
    h2) (.update h))) _ _) _ _) _ _) _ _)

theorem State.Tidy.tryRoll {s : State} (h : s.Tidy) : s.tryRoll.1.Tidy :=
  .ite_fst h (.ite_fst (.update h) (.ite_fst (.commitMap (.update h)) (.update h)))

theorem State.Tidy.joinRoll {s : State} {num id : ℕ} (h : s.Tidy) : (s.joinRoll num id).Tidy :=
  .setFld (.setFld (.update (.ite (.satInc h _) h)) _ _) _ _

theorem State.Tidy.startRoll {s : State} (h : s.Tidy) : s.startRoll.Tidy :=
  have e : State.startRoll = fun s => ((s.joinRoll (s.nim.epoch.1 + 1) ownRoll).tryRoll).1 := rfl
  e ▸ .tryRoll (.joinRoll h)

theorem State.Tidy.goRoll {s : State} (h : s.Tidy) : s.goRoll.Tidy :=
  .ite (.startRoll (.tryRoll h)) (.tryRoll h)

theorem State.Tidy.nimLoaded {s : State} (h : s.Tidy) : s.nimLoaded.Tidy :=
  .ite h (.startRoll (.update h))

theorem State.Tidy.linkDown {s : State} {p dropped : ℕ} (h : s.Tidy) : (s.linkDown p dropped).Tidy :=
  .ite h (.ite (.startRoll (.ite (.foldl _ _ (fun _ _ h1 => .breakTo h1) (.setReg (.setReg (.satAdd h _ _) _ _) _ _)) (.setReg
    (.setReg (.satAdd h _ _) _ _) _ _))) (.ite (.foldl _ _ (fun _ _ h2 => .breakTo h2) (.setReg (.setReg (.satAdd h _ _) _ _) _
    _)) (.setReg (.setReg (.satAdd h _ _) _ _) _ _)))

theorem State.Tidy.nimDown {s : State} (h : s.Tidy) : s.nimDown.Tidy :=
  .iter _ _ (fun _ _ h1 => .linkDown h1) h

theorem Step.Tidy.execNimLinkTrained {p : Fin 4} {mask : BitVec 4} {s : State} (h : s.Tidy) :
    (execNimLinkTrained p mask s).Tidy :=
  .next (.ite h (.setFld (.setFld (.setFld (.setPad h) _ _) _ _) _ _))

theorem Step.Tidy.execNimSessionInstalled {p : Fin 4} {ok : Bool} {id : BitVec 64} {dev : Fin 16} {port : Fin 4} {s : State}
    (h : s.Tidy) : (execNimSessionInstalled p ok id dev port s).Tidy :=
  .next (.ite h (.ite (.setFld h _ _) (.ite (.satInc (.setFld (.update h) _ _) _) (.startRoll (.setFld (.setFld (.setFld (.setFld
    (.update h) _ _) _ _) _ _) _ _)))))

theorem Step.Tidy.execNimStepTimeout {p : Fin 4} {s : State} (h : s.Tidy) : (execNimStepTimeout p s).Tidy :=
  .next (.ite h (.satInc (.setFld (.setReg h _ _) _ _) _))

theorem Step.Tidy.execNimLinkDown {p : Fin 4} {dropped : BitVec 16} {s : State} (h : s.Tidy) :
    (execNimLinkDown p dropped s).Tidy :=
  .next (.ite h (.linkDown h))

theorem Step.Tidy.execNimLaneFail {p : Fin 4} {s : State} (h : s.Tidy) : (execNimLaneFail p s).Tidy :=
  .next (.ite h (.ite (.setFloors (.setFld h _ _)) (.linkDown h)))

theorem Step.Tidy.execNimPortHoldEnd {p : Fin 4} {s : State} (h : s.Tidy) : (execNimPortHoldEnd p s).Tidy :=
  .next (.ite (.setReg (.update h) _ _) h)

theorem Step.Tidy.execNimPacketForward {pin pout : Fin 4} {n : ℕ} {s : State} (h : s.Tidy) :
    (execNimPacketForward pin pout n s).Tidy :=
  .next (.ite h (.satAdd (.satAdd h _ _) _ _))

theorem Step.Tidy.execNimPacketReplay {p : Fin 4} {times : ℕ} {s : State} (h : s.Tidy) : (execNimPacketReplay p times s).Tidy :=
  .next (.ite h (.ite (.linkDown (.satAdd h _ _)) (.satAdd h _ _)))

theorem Step.Tidy.execNimRekey {p : Fin 4} {s : State} (h : s.Tidy) : (execNimRekey p s).Tidy :=
  .next (.ite h (.update h))

theorem Step.Tidy.execRollStart {num : BitVec 16} {id : BitVec 64} {s : State} (h : s.Tidy) : (execRollStart num id s).Tidy :=
  .next (.ite h (.goRoll (.joinRoll h)))

theorem Step.Tidy.execRollReport {num : BitVec 16} {id : BitVec 64} {r : NimReport} {s : State} (h : s.Tidy) :
    (execRollReport num id r s).Tidy :=
  .next (.ite h (.ite (.ite (.joinRoll h) h) (.goRoll (.update (.ite (.joinRoll h) h)))))

theorem Step.Tidy.execAgree {num : BitVec 16} {id src : BitVec 64} {digest : List Byte} {s : State} (h : s.Tidy) :
    (execAgree num id src digest s).Tidy :=
  .next (.ite h (.ite (.ite (.joinRoll h) h) (.goRoll (.update (.ite (.joinRoll h) h)))))

theorem Step.Tidy.execNoPeer {s : State} (h : s.Tidy) : (execNoPeer s).Tidy :=
  .next (.ite (.commitMap h) h)

theorem Step.Tidy.execTripNotice {d : Fin 16} {s : State} (h : s.Tidy) : (execTripNotice d s).Tidy :=
  .next (.ite h (.ite (.startRoll (.departDevice (.setFld h _ _))) (.departDevice (.setFld h _ _))))

theorem Step.Tidy.execClaim {r : Fin 64} {f : BitVec 32} {sq : BitVec 16} {x3 : BitVec 32} {s : State} (h : s.Tidy) :
    (execClaim r f sq x3 s).Tidy :=
  .next (.ite h (.ite (.satInc h _) (.ite (.closeFrame (.setFld (.setRouteSt h) _ _)) (.setFld (.setRouteSt h) _ _))))

theorem Step.Tidy.execStandbyCommit {r : Fin 64} {f : ℕ} {s : State} (h : s.Tidy) : (execStandbyCommit r f s).Tidy :=
  .next (by split; exacts [.ite (.commitNow (.setFld h _ _)) h, h])

theorem Step.Tidy.execHandBack {r : Fin 64} {f0 : BitVec 32} {sq : BitVec 16} {s : State} (h : s.Tidy) :
    (execHandBack r f0 sq s).Tidy :=
  .next (.ite h (.ite (.ite (.update h) h) (.ite (.update (.setRouteSt h)) h)))

/-! ### The operations of Machine/Power.lean -/

theorem State.Tidy.powerDomains {s : State} (h : s.Tidy) : s.powerDomains.Tidy :=
  .iter _ _ (fun _ _ h1 => .ite (.setDom h1) h1) h

theorem Step.Tidy.execDomainGating {d : Fin 128} {drained : Bool} {s : State} (h : s.Tidy) :
    (execDomainGating d drained s).Tidy :=
  .next (.ite h (.ite (.setDom h) (.update h)))

theorem Step.Tidy.execDomainWake {d : Fin 128} {s : State} (h : s.Tidy) : (execDomainWake d s).Tidy :=
  .next (.ite (.setDom h) h)

theorem State.Tidy.takeCredit {s : State} {h : ℕ × ℕ} (hs : s.Tidy) : (s.takeCredit h).Tidy :=
  .modCore hs _ _

theorem State.Tidy.reclaim {s : State} {need : ℕ} {l : List (ℕ × ℕ)} (h : s.Tidy) : (s.reclaim need l).Tidy := by
  induction l generalizing s with
  | nil => exact h
  | cons a l ih => exact .ite h (ih (.takeCredit h))

theorem State.Tidy.askCredit {s : State} {c e cls : ℕ} (h : s.Tidy) : (s.askCredit c e cls).Tidy :=
  .ite (.modCore (.ite (.reclaim h) (.ite (.reclaim h) h)) _ _) (.modCore (.ite (.reclaim h) (.ite (.reclaim h) h)) _ _)

theorem Step.Tidy.execCreditGrant {c : CoreId} {u : UnitId} {s : State} (h : s.Tidy) : (execCreditGrant c u s).Tidy :=
  .next (.ite (.askCredit h) h)

theorem Step.Tidy.execEngineLent {c : CoreId} {u : UnitId} {s : State} (h : s.Tidy) : (execEngineLent c u s).Tidy :=
  .next (.ite (.fldBitSet (.modCore h _ _) _ _) h)

theorem Step.Tidy.execPmicRead {r : Option (List (BitVec 16 × BitVec 16))} {s : State} (h : s.Tidy) :
    (execPmicRead r s).Tidy := by
  refine .next ?_
  split
  · exact .setFld h _ _
  · exact .update (.setFld (.setFld (.foldl _ _ (fun _ _ h1 => .setFld (.setFld h1 _ _) _ _) h) _ _) _ _)

theorem Step.Tidy.execThrottleTick {tj : BitVec 8} {s : State} (h : s.Tidy) : (execThrottleTick tj s).Tidy :=
  .next (.setFld (.update (.reclaim (.setFld (.setFld (.setFld h _ _) _ _) _ _))) _ _)

theorem Step.Tidy.execOvertemp {s : State} (h : s.Tidy) : (execOvertemp s).Tidy :=
  .next (.fatal h)

/-! ### The operations of Machine/DeviceStates.lean -/

theorem State.Tidy.resetOutputs {s : State} (h : s.Tidy) : s.resetOutputs.Tidy :=
  .update h

theorem State.Tidy.noteChannels {s : State} (h : s.Tidy) : s.noteChannels.Tidy :=
  .ite (.update h) (.update h)

/-- A state whose control window is that of another after a reset, with other fields replaced. -/
theorem State.Tidy.resetRegs {s : State} (h : s.Tidy) (sel : Keep → Bool) (whole : ℕ → Bool) {pending poison ecc cores fab pins
    dev reeve fns irqs halves sun samples jobs net taps chimes cvuSeen param sio ladder nvm keep nim power trace freeCtr} :
    (State.mk pending (Machine.resetRegs sel whole s.regs) s.mem s.memGen poison ecc cores fab pins dev reeve fns irqs halves sun samples
      jobs net taps chimes cvuSeen param sio ladder nvm keep nim power trace freeCtr).Tidy :=
  ⟨wf_resetRegs sel whole s.regs h.1, h.2⟩

theorem State.Tidy.resetLogic {s : State} {sel : Keep → Bool} {whole : ℕ → Bool} (h : s.Tidy) :
    (s.resetLogic sel whole).Tidy := by
  refine .resetOutputs (.powerDomains (.iter _ _ (fun _ _ h1 => .setFld (.setFld (.setFld h1 _ _) _ _) _ _)
    (.foldl _ _ (fun _ _ h1 => .setFld h1 _ _) ?_)))
  exact .setFld (.setFld (.setFld (.setFld (.setFld (.setFld (.resetRegs (.noteChannels h) sel whole) _ _) _ _) _ _) _ _) _ _) _ _

theorem State.Tidy.loseAll {s : State} {lo hi : ℕ} (h : s.Tidy) : (s.loseAll lo hi).Tidy :=
  .update (.foldl _ _ (fun _ _ h1 => .loseRegion h1 _ _) h)

theorem State.Tidy.clearSram {s : State} (h : s.Tidy) : s.clearSram.Tidy :=
  .update (.foldl _ _ (fun _ _ h1 => .clearRegion h1 _) h)

theorem State.Tidy.bumpMeas {s : State} (h : s.Tidy) : s.bumpMeas.Tidy :=
  .wrapInc h _

theorem State.Tidy.forgetTenant {s : State} (h : s.Tidy) : s.forgetTenant.Tidy :=
  .update (.setFld (.clearRegs (.clearRegs h _ _) _ _) _ _)

theorem State.Tidy.coresToTest {s : State} (h : s.Tidy) : s.coresToTest.Tidy :=
  .iter _ _ (fun _ _ h1 => .setFld h1 _ _) h

theorem State.Tidy.enterBoot {s : State} (h : s.Tidy) : s.enterBoot.Tidy :=
  .setState (.setFld (.setFld (.setBothDown (.update (.coresToTest (.forgetTenant (.bumpMeas (.bumpDevEpoch h)))))) _ _) _ _)

theorem State.Tidy.lockPlls {s : State} (h : s.Tidy) : s.lockPlls.Tidy :=
  .setFld h _ _

theorem State.Tidy.takeStraps {s : State} {v : BitVec 2} (h : s.Tidy) : (s.takeStraps v).Tidy :=
  .setReg h _ _

theorem State.Tidy.coldReset {s : State} {sramOk : Bool} (h : s.Tidy) : (s.coldReset sramOk).Tidy := by
  have hw : ({ s with regs := s.regs.filter (fun p => (match regAt p.1 with
      | some (r, 0) => r.fields.any (fun f => f.keep == .never)
      | _ => false)) } : State).Tidy :=
    ⟨⟨h.1.1.filter _, fun p hp => h.1.2 p (List.mem_filter.1 hp).1⟩, h.2⟩
  have hr := fun {pending poison ecc cores fab pins dev reeve fns irqs halves sun samples jobs net taps chimes cvuSeen param sio
    ladder
      nvm keep nim power trace freeCtr} => State.Tidy.resetRegs (pending := pending) (poison := poison) (ecc := ecc) (cores :=
        cores)
      (fab := fab) (pins := pins) (dev := dev) (reeve := reeve) (fns := fns) (irqs := irqs) (halves := halves) (sun := sun)
      (samples := samples) (jobs := jobs) (net := net) (taps := taps) (chimes := chimes) (cvuSeen := cvuSeen) (param := param)
      (sio := sio) (ladder := ladder) (nvm := nvm) (keep := keep) (nim := nim) (power := power) (trace := trace) (freeCtr :=
        freeCtr)
      hw (fun k => k == Keep.never) (fun _ => false)
  refine .enterBoot (.powerDomains (.setFld (.setFld (.setFld (.satInc (.ite (.setFld ?_ _ _)
    (.iter _ _ (fun _ _ h1 => .setFld (.draw h1) _ _) ?_)) _) _ _) _ _) _ _))
  all_goals exact .setFld (.loseAll hr) _ _

theorem State.Tidy.railsReturn {s : State} (h : s.Tidy) : s.railsReturn.Tidy :=
  .setFld (.setFld (.enterBoot (.powerDomains (.setFld (.setFld (.setFld (.setFld (.setFld (.resetRegs h _ _) _ _) _ _) _ _) _ _)
    _ _))) _ _) _ _

theorem Step.Tidy.execPowerOn {cold : Bool} {x : PowerUp} {s : State} (h : s.Tidy) : (execPowerOn cold x s).Tidy :=
  .next (.ite (.takeStraps (.coldReset h)) (.ite (.takeStraps (.railsReturn h)) (.ite (.takeStraps (.setFld (.lockPlls (.update
    h)) _ _)) h)))

theorem Step.Tidy.execReeveStart {s : State} (h : s.Tidy) : (execReeveStart s).Tidy :=
  .next (.update h)

theorem State.Tidy.startImage {s : State} {img : List Byte} (h : s.Tidy) : (s.startImage img).Tidy := by
  unfold State.startImage
  split
  · exact h
  · exact .setState (.iter _ _ (fun _ _ h1 => .ite (.startSteward h1) h1) (.setFld (.setFld (.update h) _ _) _ _))

theorem State.Tidy.readFlash {s : State} (h : s.Tidy) : s.readFlash.Tidy :=
  .setPad (.setPad (.setPad h))

theorem Step.Tidy.execBootOk {headA bodyA headB bodyB : List Byte} {s : State} (h : s.Tidy) :
    (execBootOk headA bodyA headB bodyB s).Tidy := by
  refine .next (.ite h ?_)
  split
  · exact .startImage h
  · exact .ite (.startImage (.setFld (.setFld (.readFlash h) _ _) _ _)) (.ite (.startImage (.setFld (.setFld (.readFlash h) _ _) _
      _)) h)

theorem Step.Tidy.execBootFail {slotA slotB : List Byte} {s : State} (h : s.Tidy) : (execBootFail slotA slotB s).Tidy :=
  .next (.ite h (.setState (.update (.setFld (.readFlash h) _ _))))

theorem Step.Tidy.execRecover {s : State} (h : s.Tidy) : (execRecover s).Tidy :=
  .next (.ite h (.ite (.draw h) (.update (.setFld (.setFld (.setFld (.enterBoot (.draw h)) _ _) _ _) _ _))))

theorem State.Tidy.testCores {s : State} {t : SelfTest} (h : s.Tidy) : (s.testCores t).Tidy :=
  .iter _ _ (fun _ _ h1 => .ite h1 (.ite (.modCore (.setFld (.injTest h1) _ _) _ _) (.setFld (.injTest h1) _ _))) h

theorem State.Tidy.trainChannels {s : State} {t : SelfTest} (h : s.Tidy) : (s.trainChannels t).Tidy :=
  .ite (.setFld (.setFld h _ _) _ _) (.update (.setFld (.setFld h _ _) _ _))

theorem State.Tidy.selfTest {s : State} {t : SelfTest} (h : s.Tidy) : (s.selfTest t).Tidy :=
  .ite (.trip (.setFld h _ _)) (.ite (.trip (.setFld (.setFld h _ _) _ _)) (.setFld (.ite (.setFld (.endTests (.testCores (.ite
    (.update h) (.trainChannels h)))) _ _) (.endTests (.testCores (.ite (.update h) (.trainChannels h))))) _ _))

theorem State.Tidy.restoreCounts {s : State} (h : s.Tidy) : s.restoreCounts.Tidy :=
  .ite h (.setFld (.setFld (.foldl _ _ (fun _ _ h1 => .ite (.setFld h1 _ _) h1) h) _ _) _ _)

theorem State.Tidy.endReval {s : State} {ok : Bool} (h : s.Tidy) : (s.endReval ok).Tidy := by
  unfold State.endReval
  split
  · exact h
  · exact .complete (.update h)

theorem State.Tidy.validate {s : State} {t : SelfTest} (h : s.Tidy) : (s.validate t).Tidy := by
  unfold State.validate
  have hv {s : State} (h : s.Tidy) : s.validateStore.1.Tidy := .validateStore h
  refine .ite ?_ (.ite (.ite (.endReval (.nimLoaded (.bumpMeas (.placeCores (hv h))))) (.endReval (hv h))) h)
  extract_lets u v _ _ r
  have hu : u.Tidy := .selfTest h
  have hr : r.1.Tidy := .ite_fst (.setState (.update (.setFld (.restoreCounts hu) _ _))) (hv (.restoreCounts hu))
  exact .ite hu (.ite (.nimLoaded (.bumpMeas (.placeCores hr))) (.placeCores hr))

theorem State.Tidy.outcomeIs {s t : State} {want : Bool} (hs : s.Tidy) (ht : t.Tidy) : (s.outcomeIs t want).Tidy :=
  .ite ht hs

theorem Step.Tidy.execSetOk {t : SelfTest} {s : State} (h : s.Tidy) : (execSetOk t s).Tidy :=
  .next (.outcomeIs h (.validate h))

theorem Step.Tidy.execSetNone {t : SelfTest} {s : State} (h : s.Tidy) : (execSetNone t s).Tidy :=
  .next (.outcomeIs h (.validate h))

theorem State.Tidy.pinReset {s : State} {pgood : Bool} (h : s.Tidy) : (s.pinReset pgood).Tidy := by
  unfold State.pinReset
  extract_lets t held u v _ _ _ _ _ w x
  have ht : t.Tidy := .satInc h _
  have hu : u.Tidy := .ite (.setState (.dropWaiting ht)) (.ite (.trip ht) ht)
  have hw : w.Tidy := .update (.setFld (.loseAll (.resetLogic hu)) _ _)
  have hx : x.Tidy := .resetOutputs (.setFld (.setFld (.setBothDown hw) _ _) _ _)
  exact .ite (.forgetTenant hx) (.enterBoot hx)

theorem Step.Tidy.execPinReset {pgood : Bool} {s : State} (h : s.Tidy) : (execPinReset pgood s).Tidy :=
  .next (.ite h (.ite (.update h) (.pinReset h)))

theorem Step.Tidy.execVerifierPowerLoss {s : State} (h : s.Tidy) : (execVerifierPowerLoss s).Tidy :=
  .next (.ite h (.update (.setFld (.setFld (.setFld (.resetRegs (.ite h (.pinReset h)) _ _) _ _) _ _) _ _)))

theorem Step.Tidy.execReeveReset {s : State} (h : s.Tidy) : (execReeveReset s).Tidy :=
  .next (.update (.trip h))

theorem State.Tidy.beginWarm {s : State} {cause : ℕ} (h : s.Tidy) : (s.beginWarm cause).Tidy := by
  unfold State.beginWarm
  extract_lets served again g _ _ t u v w _ _ _ x y
  have ht : t.Tidy := .ite (.update (.setFld h _ _)) h
  have hw : w.Tidy := .setFld (.setFld (.clearSram (.resetLogic (.satInc ht _))) _ _) _ _
  have hy : y.Tidy := .setBothDown (.update hw)
  have hz : y.bumpDevEpoch.bumpMeas.coresToTest.Tidy := .coresToTest (.bumpMeas (.bumpDevEpoch hy))
  exact .ite (.setState (.setFld hz _ _)) (.ite hz (.enterBoot hy))

theorem State.Tidy.ladderDemand {s : State} {cause : ℕ} (h : s.Tidy) : (s.ladderDemand cause).Tidy := by
  unfold State.ladderDemand
  split
  · exact .update h
  · exact .ite (.trip h) (.update (.satInc h _))

theorem Step.Tidy.execWarm {s : State} (h : s.Tidy) : (execWarm s).Tidy := by
  refine .next (.ite h ?_)
  split
  · exact .ite (.update h) (.beginWarm (.dropWaiting h))
  · exact h

theorem State.Tidy.restartFails {s : State} (h : s.Tidy) : s.restartFails.Tidy :=
  .ite (.ladderDemand h) (.beginWarm (.ladderDemand h))

theorem Step.Tidy.execRsFail {s : State} (h : s.Tidy) : (execRsFail s).Tidy :=
  .next (.ite (.restartFails h) h)

theorem State.Tidy.resumeChannels {s : State} {t : SelfTest} (h : s.Tidy) : (s.resumeChannels t).Tidy := by
  refine .iter _ _ (fun _ _ h1 => .ite h1 (.channelFail h1)) ?_
  split
  · exact .setFld (.setFld (.setFld (.setFld h _ _) _ _) _ _) _ _
  · exact .setFld (.setFld h _ _) _ _

theorem Step.Tidy.execRsOk {t : SelfTest} {s : State} (h : s.Tidy) : (execRsOk t s).Tidy := by
  refine .next (.ite h (.ite (.restartFails h) (.ite (.resumeChannels h) (.setState (.update (.nimLoaded (.placeCores
    (.loadSettings ?_))))))))
  split
  · exact .setFld (.setFld (.iter _ _ (fun _ _ h1 => .ite (.startSteward h1) h1) (.endTests (.testCores (.resumeChannels h)))) _
      _) _ _
  · exact .iter _ _ (fun _ _ h2 => .ite (.startSteward h2) h2) (.endTests (.testCores (.resumeChannels h)))

theorem State.Tidy.takeTrip {s : State} (h : s.Tidy) : s.takeTrip.Tidy :=
  .ite h (.setState (.update (.setFld (.setFld (.setFld (.setFld h _ _) _ _) _ _) _ _)))

theorem Step.Tidy.execReeveLinkUp {ok : Bool} {s : State} (h : s.Tidy) : (execReeveLinkUp ok s).Tidy := by
  refine .next (.ite h (.ite (.ite (.restartFails h) (.ite (.trip (.setFld h _ _)) h)) ?_))
  extract_lets _ _ t u _ _ v
  have hu : u.Tidy := .lockPlls (.driveSitp (.setFld (.update h) _ _))
  have hv : v.Tidy := .ite (.update (.setFld hu _ _)) hu
  exact .ite (.trip hv) (.takeTrip hv)

theorem Step.Tidy.execVerifierSilent {s : State} (h : s.Tidy) : (execVerifierSilent s).Tidy :=
  .next (.ite h (.lostVerifier h))

theorem Step.Tidy.execReeveLost {s : State} (h : s.Tidy) : (execReeveLost s).Tidy :=
  .next (.ite h (.update (.trip h)))

theorem Step.Tidy.execGraceEnd {s : State} (h : s.Tidy) : (execGraceEnd s).Tidy :=
  .next (.ite (.trip h) h)

theorem State.Tidy.cancelJobs {s : State} (h : s.Tidy) : s.cancelJobs.Tidy :=
  .iter _ _ (fun _ _ h1 => .setFld h1 _ _) (.update h)

theorem State.Tidy.publishReady {s : State} (h : s.Tidy) : s.publishReady.Tidy := by
  refine .foldl _ _ (fun _ _ h1 => ?_) h
  split
  · exact h1
  · refine .foldl _ _ (fun _ _ h2 => ?_) h1
    split
    · exact .ite (.commit h2) h2
    · exact h2

theorem State.Tidy.takeStop {s : State} {p : StopKind → Bool} (h : s.Tidy) : (s.takeStop p).1.Tidy :=
  .update h

theorem State.Tidy.warmNow {s : State} (h : s.Tidy) : s.warmNow.Tidy :=
  .ite (.takeStop h) (.beginWarm (.dropWaiting (.publishReady h)))

theorem Step.Tidy.execStopEffect {s : State} (h : s.Tidy) : (execStopEffect s).Tidy := by
  refine .next (.ite h (.ite (.warmNow h) ?_))
  dsimp only
  split
  · exact h
  · exact .foldl _ _ (fun _ _ h1 => .complete h1) (.complete (.ite (.setState (.setFld (.cancelJobs (.publishReady (.takeStop h)))
      _ _)) (.takeStop h)))

theorem State.Tidy.endSessions {s : State} (h : s.Tidy) : s.endSessions.Tidy :=
  .setFld (.update (.setFld (.setFld (.nimDown h) _ _) _ _)) _ _

theorem State.Tidy.beginScrub {s : State} (h : s.Tidy) : s.beginScrub.Tidy := by
  unfold State.beginScrub
  extract_lets t u v w x y z a
  have hu : u.Tidy := .setFld (.endSessions (.bumpMeas (.setFld (.setFld (.cancelJobs h) _ _) _ _))) _ _
  have hv : v.Tidy := .iter _ _ (fun _ _ h1 => .ite h1 (.setReg (.setReg (.setReg (.setReg
    (.clearRegs (.clearRegs (.clearRegs (.modCore h1 _ _) _ _) _ _) _ _) _ _) _ _) _ _) _ _)) hu
  have hx : x.Tidy := .setReg (.setReg (.clearRegs (.clearRegs hv _ _) _ _) _ _) _ _
  have hy : y.Tidy := .iter _ _ (fun _ _ h1 => .clearClient h1) hx
  have hz : z.Tidy := .iter _ _ (fun _ _ h1 => .setReg (.setReg (.clearRegs h1 _ _) _ _) _ _) hy
  exact .setFld (.clearSram (.update hz)) _ _

theorem State.Tidy.unlockSettings {s : State} (h : s.Tidy) : s.unlockSettings.Tidy :=
  .update (.foldl _ _ (fun _ _ h1 => .setFld h1 _ _) h)

theorem Step.Tidy.execServiceEntry {s : State} (h : s.Tidy) : (execServiceEntry s).Tidy := by
  refine .next (.ite h (.ite (.warmNow h) ?_))
  dsimp only
  split
  · exact h
  · exact .ite (.complete (.takeStop h)) (.foldl _ _ (fun _ _ h1 => .complete h1) (.complete (.iter _ _ (fun _ _ h2 => .idleTap
      h2) (.setState (.beginScrub (.unlockSettings (.publishReady (.takeStop h))))))))

theorem State.Tidy.zeroDram {s : State} (h : s.Tidy) : s.zeroDram.Tidy :=
  .update (.foldl _ _ (fun _ _ h1 => .loseRegion h1 _ _) (.foldl _ _ (fun _ _ h2 => .clearRegion h2 _) h))

theorem Step.Tidy.execScrubDone {total dram : BitVec 32} {s : State} (h : s.Tidy) : (execScrubDone total dram s).Tidy :=
  .next (.ite h (.postEvent (.ite (.setFld (.setFld (.setFld (.bumpMeas (.setFld (.setFld (.forgetTenant (.zeroDram h)) _ _) _ _))
    _ _) _ _) _ _) (.setFld (.setFld (.bumpMeas (.setFld (.setFld (.forgetTenant (.zeroDram h)) _ _) _ _)) _ _) _ _))))

theorem Step.Tidy.execCoreRestart {c : CoreId} {cause : BitVec 8} {s : State} (h : s.Tidy) : (execCoreRestart c cause s).Tidy :=
  .next (.coreFault h)

theorem Step.Tidy.execCoreRetestDone {c : CoreId} {ok : Bool} {s : State} (h : s.Tidy) : (execCoreRetestDone c ok s).Tidy :=
  .next (.retestDone h)

theorem Step.Tidy.execTrip {source detail : BitVec 8} {b : Bool} {s : State} (h : s.Tidy) : (execTrip source detail b s).Tidy :=
  .next (.trip h)

theorem Step.Tidy.execRailFault {ev : RailEv} {s : State} (h : s.Tidy) : (execRailFault ev s).Tidy := by
  refine .next (.ite h ?_)
  dsimp only
  split
  · exact .ite (.trip h) h
  · exact .ite (.update (.setPad (.setPad h))) (.ite (.trip (.setPad (.setPad h))) (.update (.setPad (.setPad h))))
  · exact .trip h

theorem Step.Tidy.execClockFailure {e : ClkEvent} {s : State} (h : s.Tidy) : (execClockFailure e s).Tidy := by
  refine .next (.ite h ?_)
  split
  · exact .trip h
  · exact .trip h
  · exact .trip h
  · exact .trip (.setFld h _ _)
  · exact .portFail (.setFld h _ _)
  · exact .portFail (.setFld h _ _)
  · exact .setFld (.setFld h _ _) _ _
  · exact .setFld h _ _
  · exact .setFld h _ _
  · exact .ite (.trip (.fldBitClr h _ _)) (.ite (.macLinkDown (.fldBitClr h _ _)) (.ite (.nimDown (.fldBitClr h _ _)) (.portFail
      (.fldBitClr h _ _))))

theorem Step.Tidy.execX32kReturn {s : State} (h : s.Tidy) : (execX32kReturn s).Tidy :=
  .next (.setFld h _ _)

theorem Step.Tidy.execHeartbeatToggle {b : Bool} {s : State} (h : s.Tidy) : (execHeartbeatToggle b s).Tidy :=
  .next (.ite (.update h) (.update h))

theorem Step.Tidy.execInvalidNotice {s : State} (h : s.Tidy) : (execInvalidNotice s).Tidy :=
  .next (.ite h (.foldl _ _ (fun _ _ h1 => .setEgress h1) (.update h)))

/-! ### The operations of Machine/Watch.lean -/

theorem State.Tidy.wmRestart {s : State} {w : ℕ} (h : s.Tidy) : (s.wmRestart w).Tidy :=
  .setFld (.setFld h _ _) _ _

theorem State.Tidy.ladderStep {s : State} {cause : ℕ} (h : s.Tidy) : (s.ladderStep cause).Tidy :=
  .ite (.restartFails h) (.ladderDemand h)

theorem State.Tidy.expire {s : State} {w : ℕ} (h : s.Tidy) : (s.expire w).Tidy := by
  unfold State.expire
  extract_lets sec t u v
  have ht : t.Tidy := .setFld (.setFld h _ _) _ _
  have hu : u.Tidy := .setFld ht _ _
  have hv : v.Tidy := .satInc hu _
  exact .ite (.ite (.ladderStep (.setFld (.update (.satInc hv _)) _ _)) (.coreFault (.update (.satInc hv _)))) (.ladderStep
    (.update hv))

theorem State.Tidy.service {s : State} {w word : ℕ} (h : s.Tidy) : (s.service w word).Tidy :=
  .ite h (.ite (.expire h) (.setFld (.setFld h _ _) _ _))

theorem Step.Tidy.execWsvc {c : CoreId} {f : IFields} {s : State} (h : s.Tidy) : (execWsvc c f s).Tidy :=
  .next (.runInstr (fun _ h1 => .stay (.service (.advance h1))) h)

theorem Step.Tidy.execWatchmanWarn {w : Fin 17} {s : State} (h : s.Tidy) : (execWatchmanWarn w s).Tidy :=
  .next (.ite h (.ite (.modCore (.ite (.foldl _ _ (fun _ _ h1 => .setDom h1) h) h) _ _) (.postEvent h)))

theorem Step.Tidy.execWatchmanExpiry {w : Fin 17} {s : State} (h : s.Tidy) : (execWatchmanExpiry w s).Tidy :=
  .next (.ite (.expire h) h)

theorem State.Tidy.writeWm {s : State} {w : ℕ} {allowed : Bool} {v : ℕ} (h : s.Tidy) : (s.writeWm w allowed v).1.Tidy :=
  .ite_fst h (.ite (.wmRestart (.setReg h _ _)) (.setReg h _ _))

theorem Step.Tidy.execRetainedCountCopy {s : State} (h : s.Tidy) : (execRetainedCountCopy s).Tidy :=
  .next (.ite h (.update h))

theorem State.Tidy.checkerFail {s : State} {r i : ℕ} (h : s.Tidy) : (s.checkerFail r i).Tidy := by
  unfold State.checkerFail
  extract_lets t
  have ht : t.Tidy := .satInc h _
  refine .ite (.coreFault ht) (.ite (.fatal ht) ?_)
  split
  · dsimp only
    split
    · exact .setReg ht _ _
    · exact .update (.setReg ht _ _)
  · exact .ite (.fatal ht) (.ite (.satInc ht _) (.fatal ht))

theorem Step.Tidy.execSelfTestSlice {r : Fin 18} {ok : Bool} {s : State} (h : s.Tidy) : (execSelfTestSlice r ok s).Tidy := by
  refine .next (.ite h ?_)
  extract_lets i _ t u v
  have ht : t.Tidy := .update h
  have hu : u.Tidy := .ite (.setFld ht _ _) (.ite (.setFld ht _ _) ht)
  have hv : v.Tidy := .ite (.satInc hu _) (.ite (.satInc hu _) hu)
  exact .ite ht (.ite (.ite (.satInc hu _) (.ite (.satInc hu _) hu)) (.checkerFail hv))

theorem Step.Tidy.execChkSingleExpiry {s : State} (h : s.Tidy) : (execChkSingleExpiry s).Tidy :=
  .next (by split; exacts [.ite (.fatal h) h, h])

/-! ### The operations of Machine/HostQueue.lean -/

theorem State.Tidy.hostCmd {s : State} {e : SubEntry} {opc : ℕ} {c : CmdRow} {body : State → State} (h : s.Tidy)
    (hbody : ∀ t, t.Tidy → (body t).Tidy) : (s.hostCmd e opc c body).Tidy :=
  .ite h (.ite (.complete (.modFn h)) (hbody _ (.modFn h)))

theorem State.Tidy.done {s : State} {e : SubEntry} {status info : ℕ} (h : s.Tidy) : (s.done e status info).Tidy :=
  .complete h

theorem Step.Tidy.execHello {e : SubEntry} {s : State} (h : s.Tidy) : (execHello e s).Tidy :=
  .next (.hostCmd h (fun _ h1 => .ite (.done h1) (.ite (.done h1) (.done (.ite (.update (.wmRestart (.setFld h1 _ _))) (.setFld h1
    _ _))))))

theorem Step.Tidy.execGetStatus {e : SubEntry} {s : State} (h : s.Tidy) : (execGetStatus e s).Tidy :=
  .next (.hostCmd h (fun _ h1 => .done h1))

theorem Step.Tidy.execGetCounters {e : SubEntry} {s : State} (h : s.Tidy) : (execGetCounters e s).Tidy :=
  .next (.hostCmd h (fun _ h1 => .done (.modFn h1)))

/-! ### The operations of Machine/JobCommands.lean -/

theorem State.Tidy.takeFrame {s : State} {r f : ℕ} (h : s.Tidy) : (s.takeFrame r f).Tidy :=
  .setRouteSt h

theorem State.Tidy.forceEpoch {s : State} {r prog f : ℕ} (h : s.Tidy) : (s.forceEpoch r prog f).Tidy := by
  unfold State.forceEpoch
  split
  · exact h
  · exact .ite h (.ite (.newEpoch (.prepare h)) (.setRouteSt (.newEpoch (.prepare h))))

theorem State.Tidy.declareWindows {s : State} {d f : ℕ} (h : s.Tidy) : (s.declareWindows d f).Tidy :=
  .ite h (.resolveWindows (.iter _ _ (fun _ _ h1 => .ite (.compareWindow h1) h1) h))

theorem State.Tidy.acceptJob {s : State} {d : List Byte} {rc : RouteCfg} (h : s.Tidy) : (s.acceptJob d rc).Tidy :=
  .ite (.declareWindows (.settleJob (.ite (.openRoute (.satInc (.takeFrame (.update h)) _)) (.forceEpoch (.satInc (.takeFrame
    (.update h)) _))))) (.settleJob (.ite (.openRoute (.satInc (.takeFrame (.update h)) _)) (.forceEpoch (.satInc (.takeFrame
    (.update h)) _))))

theorem State.Tidy.lateSubmit {s : State} {d : List Byte} {rc : RouteCfg} (h : s.Tidy) : (s.lateSubmit d rc).Tidy :=
  .ite h (.takeFrame (.closeFrame (.publish h)))

theorem Step.Tidy.execSubmit {e : SubEntry} {s : State} (h : s.Tidy) : (execSubmit e s).Tidy := by
  refine .next (.hostCmd h (fun _ h1 => ?_))
  dsimp only
  split
  · exact .done h1
  · exact .done (.ite (.acceptJob h1) (.ite (.lateSubmit h1) (.ite (.satInc h1 _) h1)))

theorem Step.Tidy.execChimeExpect {e : SubEntry} {s : State} (h : s.Tidy) : (execChimeExpect e s).Tidy :=
  .next (.hostCmd h (fun _ h1 => .ite (.done h1) (.ite (.done h1) (.ite (.done h1) (.ite (.done h1) (.ite (.decideChimes (.done
    (.setFld (.update h1) _ _))) (.done (.setFld (.update h1) _ _))))))))

theorem Step.Tidy.execPairMode {e : SubEntry} {s : State} (h : s.Tidy) : (execPairMode e s).Tidy := by
  unfold Machine.execPairMode
  extract_lets ok
  refine .next (.hostCmd h (fun _ h1 => .ite (.done h1) ?_))
  split
  · exact .done h1
  · exact .ite (.done h1) (.ite (.applyMode (.foldl _ _ (fun _ _ h2 => .complete h2) (.update h1))) (.update (.foldl _ _ (fun _ _
      h3 => .complete h3) (.update h1))))

theorem Step.Tidy.execRestartBegin {e : SubEntry} {s : State} (h : s.Tidy) : (execRestartBegin e s).Tidy :=
  .next (.hostCmd h (fun _ h1 => .done (.ite (.openWindow h1) h1)))

theorem Step.Tidy.execRestartDone {e : SubEntry} {s : State} (h : s.Tidy) : (execRestartDone e s).Tidy :=
  .next (.hostCmd h (fun _ h1 => .done (.ite (.setFld h1 _ _) h1)))

/-! ### The operations of Machine/SioCommands.lean -/

theorem State.Tidy.sioLog {s : State} {kind field operator old new : ℕ} {digest : List Byte} (h : s.Tidy) :
    (s.sioLog kind field operator old new digest).Tidy :=
  .update h

theorem State.Tidy.pwFail {s : State} {operator : ℕ} (h : s.Tidy) : (s.pwFail operator).Tidy :=
  .ite (.update (.sioLog h)) (.sioLog (.update (.sioLog h)))

theorem State.Tidy.pwGood {s : State} (h : s.Tidy) : s.pwGood.Tidy :=
  .update h

theorem Step.Tidy.execSioPassword {e : SubEntry} {s : State} (h : s.Tidy) : (execSioPassword e s).Tidy :=
  .next (.hostCmd h (fun _ h1 => .ite (.done h1) (.ite (.done h1) (.ite (.done (.pwFail h1)) (.done (.sioLog (.update (.pwGood
    h1))))))))

theorem Step.Tidy.execSioParamBegin {e : SubEntry} {s : State} (h : s.Tidy) : (execSioParamBegin e s).Tidy :=
  .next (.hostCmd h (fun _ h1 => .ite (.done h1) (.ite (.done h1) (.ite (.done h1) (.ite (.done h1) (.ite (.done (.pwFail h1))
    (.done (.update (.pwGood h1)))))))))

theorem Step.Tidy.execSioParamWrite {e : SubEntry} {s : State} (h : s.Tidy) : (execSioParamWrite e s).Tidy :=
  .next (.hostCmd h (fun _ h1 => .ite (.done h1) (.ite (.done h1) (.ite (.done h1) (.done (.modFn (.update h1)))))))

theorem State.Tidy.logCommit {s : State} {op : ℕ} {old new : List Byte} (h : s.Tidy) : (s.logCommit op old new).Tidy :=
  .sioLog (.foldl _ _ (fun _ _ h1 => .ite h1 (.sioLog h1)) h)

theorem Step.Tidy.execSioParamCommit {e : SubEntry} {s : State} (h : s.Tidy) : (execSioParamCommit e s).Tidy := by
  refine .next (.hostCmd h (fun _ h1 => .ite (.done h1) (.ite (.done h1) (.ite (.done h1) ?_))))
  split
  · exact .done h1
  · exact .ite (.done h1) (.done (.ite (.setState (.update (.setFld (.driveSitp (.update (.logCommit h1))) _ _))) (.driveSitp
      (.update (.logCommit h1)))))

theorem Step.Tidy.execSioParamAbort {e : SubEntry} {s : State} (h : s.Tidy) : (execSioParamAbort e s).Tidy :=
  .next (.hostCmd h (fun _ h1 => .ite (.done h1) (.done (.update h1))))

theorem Step.Tidy.execSioAck {e : SubEntry} {s : State} (h : s.Tidy) : (execSioAck e s).Tidy :=
  .next (.hostCmd h (fun _ h1 => .done (.foldl _ _ (fun _ _ h2 => .setFld (.setFld h2 _ _) _ _) h1)))

theorem Step.Tidy.execSioSessionTimeout {s : State} (h : s.Tidy) : (execSioSessionTimeout s).Tidy :=
  .next (by split; exacts [.ite (.update h) h, h])

theorem Step.Tidy.execLockoutEnd {s : State} (h : s.Tidy) : (execLockoutEnd s).Tidy :=
  .next (.ite (.update h) h)

/-! ### The operations of Machine/Tick.lean -/

theorem State.Tidy.tickBase {s : State} {n : ℕ} (h : s.Tidy) : (s.tickBase n).Tidy :=
  .ite h (.update h)

theorem State.Tidy.tickWatch {s : State} {t0 : ℕ} (h : s.Tidy) : (s.tickWatch t0).Tidy :=
  .iter _ _ (fun _ _ h1 => .ite (.setFld h1 _ _) h1) h

theorem State.Tidy.tickBusy {s : State} (h : s.Tidy) : s.tickBusy.Tidy := by
  refine .iter _ _ (fun _ _ h1 => ?_) h
  split
  · split
    · exact .ite (.setFld h1 _ _) h1
    · exact h1
  · exact h1

theorem State.Tidy.tickWithheld {s : State} (h : s.Tidy) : s.tickWithheld.Tidy :=
  .iter _ _ (fun _ _ h1 => .iter _ _ (fun _ _ h2 => .ite (.ite (.setFld h2 _ _) (.ite (.setFld h2 _ _) h2)) h2) h1) h

theorem State.Tidy.tickSamples {s : State} {t0 : ℕ} (h : s.Tidy) : (s.tickSamples t0).Tidy :=
  .ite h (.iter _ _ (fun _ _ h1 => .iter _ _ (fun _ _ h2 => .update h2) h1) h)

theorem State.Tidy.tick {s : State} (h : s.Tidy) : s.tick.Tidy :=
  .ite h (.tickSamples (.tickWatch (.tickWithheld (.tickBusy (.iter _ _ (fun _ _ h1 => .modCore h1 _ _) (.update (.tickBase
    (.tickBase (.update h)))))))))

/-! ### The operations of Machine/Sundial.lean -/

theorem State.Tidy.setTb {s : State} {b ns : ℕ} (h : s.Tidy) : (s.setTb b ns).Tidy :=
  .update h

theorem State.Tidy.setServoI {s : State} {b : ℕ} {v : ℤ} (h : s.Tidy) : (s.setServoI b v).Tidy :=
  .update h

theorem State.Tidy.setTpoNext {s : State} {k v : ℕ} (h : s.Tidy) : (s.setTpoNext k v).Tidy :=
  .update h

theorem State.Tidy.firePulse {s : State} {k from' : ℕ} (h : s.Tidy) : (s.firePulse k from').Tidy :=
  .ite (.setTpoNext (.setFld (.update (.update (.satInc h _))) _ _)) (.setTpoNext (.update (.update (.satInc h _))))

theorem Step.Tidy.execTpoPulse {k : Fin 4} {s : State} (h : s.Tidy) : (execTpoPulse k s).Tidy :=
  .next (.ite (.firePulse h) h)

theorem State.Tidy.passPulses {s : State} {b : ℕ} (h : s.Tidy) : (s.passPulses b).Tidy :=
  .iter _ _ (fun _ _ h1 => .ite (.firePulse (.setFld h1 _ _)) h1) h

theorem State.Tidy.writeTpo {s : State} {k v : ℕ} (h : s.Tidy) : (s.writeTpo k v).Tidy := by
  unfold State.writeTpo
  extract_lets armed base t u w
  have ht : t.Tidy := .ite (.setFld h _ _) h
  have hu : u.Tidy := .ite ht (.setFld (.setFld ht _ _) _ _)
  have hw : w.Tidy := .setFld hu _ _
  exact .ite h (.ite (.setTpoNext hw) (.ite hw (.ite (.setTpoNext hw) (.setTpoNext hw))))

theorem State.Tidy.takeSnap {s : State} {v : ℕ} (h : s.Tidy) : (s.takeSnap v).Tidy :=
  .iter _ _ (fun _ _ h1 => .ite h1 (.setFld (.setFld h1 _ _) _ _)) h

theorem State.Tidy.firstLock {s : State} {b : ℕ} {gmNs ratio : ℤ} {ago : ℕ} (h : s.Tidy) : (s.firstLock b gmNs ratio ago).Tidy :=
  .passPulses (.setFld (.setFld (.setFld (.setServoI (.setTb h)) _ _) _ _) _ _)

theorem State.Tidy.servo {s : State} {b : ℕ} {o : ℤ} (h : s.Tidy) : (s.servo b o).Tidy := by
  unfold State.servo
  extract_lets t i u v
  have ht : t.Tidy := .ite (.setServoI (.setFld (.setFld h _ _) _ _)) h
  have hu : u.Tidy := .setFld (.setServoI ht) _ _
  have hv : v.Tidy := .setFld hu _ _
  exact .ite (.setFld hv _ _) (.ite (.setFld hv _ _) hv)

theorem State.Tidy.acceptSync {s : State} {p : ℕ} {y : SyncMsg} {t2 tb : ℕ} (h : s.Tidy) : (s.acceptSync p y t2 tb).Tidy :=
  .ite (.servo (.setFld (.setFld (.update h) _ _) _ _)) (.ite (.firstLock (.setFld (.setFld (.update h) _ _) _ _)) (.setFld
    (.setFld (.update h) _ _) _ _))

theorem Step.Tidy.execGptpSync {p : Fin 6} {y : SyncMsg} {s : State} (h : s.Tidy) : (execGptpSync p y s).Tidy :=
  .next (.ite h (.ite (.update h) (.acceptSync h)))

theorem Step.Tidy.execGptpFollowUp {p : Fin 6} {y : SyncMsg} {s : State} (h : s.Tidy) : (execGptpFollowUp p y s).Tidy :=
  .next (.ite h (by split; exacts [h, .acceptSync (.update h)]))

theorem Step.Tidy.execPdelayExchange {p : Fin 6} {turn : ℤ} {ok : Bool} {s : State} (h : s.Tidy) :
    (execPdelayExchange p turn ok s).Tidy :=
  .next (.ite h (.setFld (.update h) _ _))

theorem Step.Tidy.execServoTick {s : State} (h : s.Tidy) : (execServoTick s).Tidy :=
  .next (.ite h (.iter _ _ (fun _ _ h1 => .ite h1 (.setFld h1 _ _)) h))

theorem State.Tidy.setSlave {s : State} {b p : ℕ} (h : s.Tidy) : (s.setSlave b p).Tidy :=
  .ite h (.setFld (.update h) _ _)

theorem State.Tidy.becomeGm {s : State} (h : s.Tidy) : s.becomeGm.Tidy :=
  .ite h (.ite (.setFld (.setFld (.setFld (.setSlave h) _ _) _ _) _ _) (.passPulses (.setFld (.setTb (.setFld (.setFld (.setFld
    (.setSlave h) _ _) _ _) _ _)) _ _)))

theorem State.Tidy.chooseClock {s : State} {b : ℕ} (h : s.Tidy) : (s.chooseClock b).Tidy := by
  unfold State.chooseClock
  split
  · exact .ite (.becomeGm h) (.setSlave (.setFld h _ _))
  · exact .ite (.ite (.becomeGm h) h) h

theorem Step.Tidy.execGptpAnnounce {p : Fin 6} {a : AnnMsg} {s : State} (h : s.Tidy) : (execGptpAnnounce p a s).Tidy :=
  .next (.ite h (.chooseClock (.update h)))

theorem Step.Tidy.execHoldover {n : Fin 2} {s : State} (h : s.Tidy) : (execHoldover n s).Tidy :=
  .next (.ite h (.ite (.setSlave (.update (.ite (.setFld h _ _) (.update (.setFld (.setFld (.setFld h _ _) _ _) _ _)))))
    (.chooseClock (.update (.ite (.setFld h _ _) (.update (.setFld (.setFld (.setFld h _ _) _ _) _ _)))))))

theorem Step.Tidy.execSyncForward {pin pout : Fin 4} {seq : BitVec 16} {kind : Fin 3} {res : ℕ} {s : State} (h : s.Tidy) :
    (execSyncForward pin pout seq kind res s).Tidy :=
  .next (.ite h (.ite h (.ite (.update h) (.ite (.update h) (.satInc h _)))))

theorem Step.Tidy.execGptpMessageInterval {p : Fin 6} {s : State} (h : s.Tidy) : (execGptpMessageInterval p s).Tidy :=
  .next (.ite (.satInc h _) h)

/-! ### The operations of Machine/RegRead.lean -/

theorem State.Tidy.regRead {s : State} {m : Master} {off size : ℕ} (h : s.Tidy) : (s.regRead m off size).1.Tidy := by
  unfold State.regRead
  split
  · exact h
  · refine .ite_fst h (.ite_fst h (.ite_fst (.update h) (.ite_fst ?_ h)))
    split
    · exact .update h
    · exact h

theorem State.Tidy.ctlRead {s : State} {m : Master} {off size : ℕ} (h : s.Tidy) : (s.ctlRead m off size).1.Tidy := by
  unfold State.ctlRead
  split
  · exact h
  · exact h
  · refine .ite_fst h ?_
    split
    · exact h
    · exact .regRead h

theorem Step.Tidy.execLowHalfRead {m : Master} {off : BitVec 22} {s : State} (h : s.Tidy) : (execLowHalfRead m off s).Tidy :=
  .next (.ctlRead h)

/-! ### The operations of Machine/RegWrites.lean -/

theorem State.Tidy.writeFields {s : State} {base : ℕ} {fs : List FieldRow} {v bits : BitVec 64} (h : s.Tidy) :
    (s.writeFields base fs v bits).1.Tidy :=
  .setReg h _ _

theorem State.Tidy.resetCmd {s : State} {m : Master} {v : ℕ} (h : s.Tidy) : (s.resetCmd m v).1.Tidy := by
  refine .ite_fst h ?_
  split
  · exact .ite_fst (.commandRestart h) h
  · exact .ite h (.update h)
  · exact .portReset h
  · exact .ite_fst (.portReset h) h
  · exact h

theorem State.Tidy.handWrite {s : State} {n k v : ℕ} (h : s.Tidy) : (s.handWrite n k v).1.Tidy :=
  .ite_fst (.fireWatches (.setFld (.satInc (.setReg h _ _) _) _ _)) (.satInc (.setReg h _ _) _)

theorem State.Tidy.writeSobjCfg {s : State} {n k : ℕ} {fs : List FieldRow} {v bits : BitVec 64} (h : s.Tidy) :
    (s.writeSobjCfg n k fs v bits).1.Tidy :=
  .ite_fst h (.ite_fst h (.fireWatches (.setFld (.setReg h _ _) _ _)))

theorem State.Tidy.writeVmap {s : State} {m : Master} {n x i v : ℕ} (h : s.Tidy) : (s.writeVmap m n x i v).Tidy :=
  .ite (.xlog h) (.setFld (.setFld h _ _) _ _)

theorem State.Tidy.writeMbox {s : State} {n k : ℕ} {fs : List FieldRow} {v bits : BitVec 64} (h : s.Tidy) :
    (s.writeMbox n k fs v bits).Tidy :=
  .ite h (.modCore (.setFld (.setReg h _ _) _ _) _ _)

theorem State.Tidy.writeCore {s : State} {m : Master} {n base : ℕ} {fs : List FieldRow} {v bits : BitVec 64} (h : s.Tidy) :
    (s.writeCore m n base fs v bits).1.Tidy :=
  .ite_fst (.writeWm h) (.ite_fst (.ite (.setFld h _ _) h) (.ite_fst (.forcePair h) (.ite_fst (.writeMbox h) (.ite_fst (.ite_fst
    (.handWrite h) h) (.ite_fst (.writeSobjCfg h) (.ite_fst (.writeVmap h) (.writeFields h)))))))

theorem State.Tidy.writeCvu {s : State} {u o base : ℕ} {fs : List FieldRow} {v bits : BitVec 64} (h : s.Tidy) :
    (s.writeCvu u o base fs v bits).1.Tidy :=
  .ite_fst (.cvuCfg h) (.ite_fst (.cvuSetValue h) (.ite_fst (.setCvuW h) (.ite_fst (.cvuData h) (.ite_fst (.cvuCmd h) (.ite_fst
    (.ite (.setCvuCount (.setReg h _ _)) (.setReg h _ _)) (.cvuCut (.writeFields h)))))))

theorem State.Tidy.writeBlock {s : State} {base : ℕ} {fs : List FieldRow} {v bits : BitVec 64} (h : s.Tidy) :
    (s.writeBlock base fs v bits).Tidy := by
  unfold State.writeBlock
  dsimp only
  split_ifs
  exacts [h, .setReg h _ _, h, .setReg h _ _, .writeQcfg h, .ringTail h, .ringHead h, .ringRecords h, .modFn (.setReg h _ _),
    .setReg h _ _, .setReg h _ _]

theorem State.Tidy.writeDbgCtrl {s : State} {v : ℕ} (h : s.Tidy) : (s.writeDbgCtrl v).Tidy :=
  .ite (.satInc (.setFld (.setFld (.setFld h _ _) _ _) _ _) _) (.setFld (.setFld (.setFld h _ _) _ _) _ _)

/-- A reaction keeps the form where there is one. -/
def OptTidy (o : Option State) : Prop := ∀ t, o = some t → t.Tidy

theorem OptTidy.none : OptTidy none := fun _ e => nomatch e


theorem OptTidy.some {t : State} (h : t.Tidy) : OptTidy (some t) := fun _ e => Option.some.inj e ▸ h


theorem OptTidy.map {α : Type} {o : Option α} {g : α → State} (h : ∀ a, (g a).Tidy) : OptTidy (o.map g) := by
  cases o with
  | none => exact .none
  | some a => exact .some (h a)

theorem OptTidy.ite {p : Prop} {_ : Decidable p} {x y : Option State} (hx : OptTidy x) (hy : OptTidy y) : OptTidy
    (if p then x else y) := by
  split
  · exact hx
  · exact hy

theorem OptTidy.inject {s : State} {line unit : ℕ} (h : s.Tidy) : OptTidy (s.inject line unit) :=
  .ite (.map fun _ => .trip h) (.ite (.ite (.some (.trip h)) .none) (.ite (.map fun _ => .trip h) (.ite (.ite (.some (.fatal h))
    .none) (.ite (.ite (.some (.coreFault h)) .none) (.ite (.ite (.some (.coreFault h)) .none) (.ite (.ite (.some (.expire h))
    .none) (.ite (.ite (.some (.expire h)) .none) (.ite (.ite (.some (.channelFail h)) .none) (.ite (.ite (.some (.satInc h _))
    .none) (.ite (.ite (.some (.portReset h)) .none) (.ite (.ite (.some (.checkerFail h)) (.ite (.some (.checkerFail h)) (.ite
    (.some (.checkerFail h)) .none))) (.ite (.ite .none (.ite (.some (.update h)) (.some h))) .none))))))))))))

theorem State.Tidy.inject {s t : State} {line unit : ℕ} (h : s.Tidy) (ht : s.inject line unit = some t) : t.Tidy :=
  OptTidy.inject h t ht

theorem State.Tidy.writeInj {s : State} {m : Master} {v : ℕ} (h : s.Tidy) : (s.writeInj m v).1.Tidy := by
  refine .ite_fst h ?_
  split
  · next t e => exact .inject (.satInc h _) e
  · exact h

theorem PairTidy.writeReg {s : State} {m : Master} {base : ℕ} {fs : List FieldRow} {v bits : BitVec 64} (h : s.Tidy) :
    PairTidy (s.writeReg m base fs v bits) := by
  have hf : PairTidy (s.writeFields base fs v bits) := .of (.writeFields h)
  unfold State.writeReg
  dsimp only
  split
  · exact .ite (.of (.resetCmd h)) (.ite (.mk (.ite (.setReg h _ _) h)) hf)
  · exact .ite (.of (.writeRun h)) hf
  · exact .ite (.of (.writeWm h)) (.ite (.ite (.mk (.service h)) (.mk h)) hf)
  · exact .ite (.mk (.takeSnap h)) (.ite (.ite (.mk h) (.ite (.mk (.writeTpo h)) (.ite (.mk h) hf))) hf)
  · exact .mk (.foldl _ _ (fun _ _ h1 => .ite (.idleTap h1) h1) hf)
  · exact .ite (.of (.writeCvu h)) hf
  · exact .ite (.mk (.writeBlock h)) hf
  · exact .ite (.mk (.writeDbgCtrl h)) (.ite (.of (.writeInj h)) (.ite (.mk h) hf))
  · exact .ite (.mk (.iter _ _ (fun _ _ h1 => .ite (.clearClient h1) h1) h)) hf
  · exact .ite (.of (.writeCore h)) hf

theorem State.Tidy.writeReg {s : State} {m : Master} {base : ℕ} {fs : List FieldRow} {v bits : BitVec 64} (h : s.Tidy) :
    (s.writeReg m base fs v bits).1.Tidy := PairTidy.writeReg h


theorem State.Tidy.writeTripped {s : State} {m : Master} {base : ℕ} {fs : List FieldRow} {v bits : BitVec 64} (h : s.Tidy) :
    (s.writeTripped m base fs v bits).1.Tidy :=
  .ite_fst (.writeReg h) h

theorem State.Tidy.takeWrite {s : State} {m : Master} {off base : ℕ} {fs : List FieldRow} {v bits : BitVec 64} (h : s.Tidy) :
    (s.takeWrite m off base fs v bits).Tidy :=
  .ite (.discard (.ite_fst (.writeTripped h) (.writeReg h))) (.ite_fst (.writeTripped h) (.writeReg h))

theorem State.Tidy.regWrite {s : State} {m : Master} {off size v : ℕ} (h : s.Tidy) : (s.regWrite m off size v).Tidy := by
  unfold State.regWrite
  split
  · exact h
  · refine .ite (.ite (.takeWrite h) (.discard h)) (.ite (.takeWrite h) (.ite (.update h) (.ite ?_ (.discard h))))
    dsimp only
    split
    · exact .takeWrite (.update h)
    · exact .takeWrite h

theorem State.Tidy.ctlWrite {s : State} {m : Master} {off size v : ℕ} (h : s.Tidy) : (s.ctlWrite m off size v).1.Tidy := by
  unfold State.ctlWrite
  split
  · exact h
  · exact h
  · exact .ite_fst h (.regWrite h)

theorem State.Tidy.ctlPut {s : State} {m : Master} {off size v : ℕ} (h : s.Tidy) : (s.put m off size v).Tidy := .ctlWrite h


theorem State.Tidy.putWide {s : State} {m : Master} {off : ℕ} {x3 : Wr} (h : s.Tidy) : (s.putWide m off x3).Tidy := by
  unfold State.putWide
  split <;> exact .ctlPut h

theorem Step.Tidy.execRegisterWrite {m : Master} {off : BitVec 22} {n : Fin 4} {v : Word} {s : State} (h : s.Tidy) :
    (execRegisterWrite m off n v s).Tidy :=
  .next (.ctlPut h)

theorem Step.Tidy.execCoreRestartCmd {m : Master} {key : BitVec 16} {c : CoreId} {s : State} (h : s.Tidy) :
    (execCoreRestartCmd m key c s).Tidy :=
  .next (.ctlPut h)

theorem Step.Tidy.execWarmRestartCmd {m : Master} {key : BitVec 16} {s : State} (h : s.Tidy) :
    (execWarmRestartCmd m key s).Tidy :=
  .next (.ctlPut h)

theorem Step.Tidy.execPortAResetCmd {m : Master} {key : BitVec 16} {s : State} (h : s.Tidy) : (execPortAResetCmd m key s).Tidy :=
  .next (.ctlPut h)

theorem Step.Tidy.execPortBResetCmd {m : Master} {key : BitVec 16} {s : State} (h : s.Tidy) : (execPortBResetCmd m key s).Tidy :=
  .next (.ctlPut h)

theorem Step.Tidy.execPairstatForce {m : Master} {c : CoreId} {v : BitVec 32} {s : State} (h : s.Tidy) :
    (execPairstatForce m c v s).Tidy :=
  .next (.ctlPut h)

theorem Step.Tidy.execCntclr {m : Master} {v : BitVec 32} {s : State} (h : s.Tidy) : (execCntclr m v s).Tidy :=
  .next (.ctlPut h)

theorem Step.Tidy.execRunWrite {m : Master} {v : BitVec 32} {s : State} (h : s.Tidy) : (execRunWrite m v s).Tidy :=
  .next (.ctlPut h)

theorem Step.Tidy.execWatchSvc {m : Master} {v : BitVec 32} {s : State} (h : s.Tidy) : (execWatchSvc m v s).Tidy :=
  .next (.ctlPut h)

theorem Step.Tidy.execWmcfgWrite {m : Master} {c : CoreId} {w : Wr} {s : State} (h : s.Tidy) : (execWmcfgWrite m c w s).Tidy :=
  .next (.putWide h)

theorem Step.Tidy.execWatchCfgWrite {m : Master} {w : Wr} {s : State} (h : s.Tidy) : (execWatchCfgWrite m w s).Tidy :=
  .next (.putWide h)

theorem Step.Tidy.execSnap {m : Master} {v : BitVec 32} {s : State} (h : s.Tidy) : (execSnap m v s).Tidy :=
  .next (.ctlPut h)

theorem Step.Tidy.execTpoArm {m : Master} {k : Fin 4} {v : BitVec 32} {s : State} (h : s.Tidy) : (execTpoArm m k v s).Tidy :=
  .next (.ctlPut h)

theorem Step.Tidy.execSobjHandWrite {c : CoreId} {k : Fin 256} {v : BitVec 32} {s : State} (h : s.Tidy) :
    (execSobjHandWrite c k v s).Tidy :=
  .next (.ctlPut h)

theorem Step.Tidy.execSobjcfgWrite {m : Master} {c : CoreId} {k : Fin 256} {w : Wr} {s : State} (h : s.Tidy) :
    (execSobjcfgWrite m c k w s).Tidy :=
  .next (.putWide h)

theorem Step.Tidy.execVmapWrite {m : Master} {c : CoreId} {x : Fin 4} {i : Fin 1024} {v : BitVec 32} {s : State} (h : s.Tidy) :
    (execVmapWrite m c x i v s).Tidy :=
  .next (.ctlPut h)

theorem Step.Tidy.execMboxWrite {m : Master} {c : CoreId} {k : Fin 8} {w : Wr} {s : State} (h : s.Tidy) :
    (execMboxWrite m c k w s).Tidy :=
  .next (.putWide h)

theorem Step.Tidy.execCvuStart {m : Master} {u : Fin 32} {s : State} (h : s.Tidy) : (execCvuStart m u s).Tidy :=
  .next (.ctlPut h)

theorem Step.Tidy.execCvuFinish {m : Master} {u : Fin 32} {s : State} (h : s.Tidy) : (execCvuFinish m u s).Tidy :=
  .next (.ctlPut h)

theorem Step.Tidy.execCvuDataWrite {m : Master} {u : Fin 32} {v : BitVec 32} {s : State} (h : s.Tidy) :
    (execCvuDataWrite m u v s).Tidy :=
  .next (.ctlPut h)

theorem Step.Tidy.execCvuValueWrite {m : Master} {u : Fin 32} {w : Wr} {s : State} (h : s.Tidy) :
    (execCvuValueWrite m u w s).Tidy :=
  .next (.putWide h)

theorem Step.Tidy.execCvuPosnWrite {m : Master} {u : Fin 32} {w : Wr} {s : State} (h : s.Tidy) :
    (execCvuPosnWrite m u w s).Tidy :=
  .next (.putWide h)

theorem Step.Tidy.execCvuExpectWrite {m : Master} {u : Fin 32} {w : Wr} {s : State} (h : s.Tidy) :
    (execCvuExpectWrite m u w s).Tidy :=
  .next (.putWide h)

theorem Step.Tidy.execCvuOwnerWrite {m : Master} {u : Fin 32} {v : BitVec 32} {s : State} (h : s.Tidy) :
    (execCvuOwnerWrite m u v s).Tidy :=
  .next (.ctlPut h)

theorem Step.Tidy.execCvuAliveCountWrite {m : Master} {u : Fin 32} {w : Wr} {s : State} (h : s.Tidy) :
    (execCvuAliveCountWrite m u w s).Tidy :=
  .next (.putWide h)

theorem Step.Tidy.execDebugAttach {m : Master} {v : BitVec 32} {s : State} (h : s.Tidy) : (execDebugAttach m v s).Tidy :=
  .next (.ite (.setPad (.ctlPut h)) (.ctlPut h))

theorem Step.Tidy.execFaultInjection {m : Master} {line unit : BitVec 8} {s : State} (h : s.Tidy) :
    (execFaultInjection m line unit s).Tidy :=
  .next (.ctlPut h)

theorem Step.Tidy.execDebugHalt {c : CoreId} {s : State} (h : s.Tidy) : (execDebugHalt c s).Tidy :=
  .next (.ite (.debugHalt h) h)

theorem Step.Tidy.execDebugStep {c : CoreId} {s : State} (h : s.Tidy) : (execDebugStep c s).Tidy :=
  .next (.ite (.modCore h _ _) h)

theorem Step.Tidy.execDebugResume {c : CoreId} {s : State} (h : s.Tidy) : (execDebugResume c s).Tidy :=
  .next (.ite (.fldBitClr (.modCore h _ _) _ _) h)

theorem State.Tidy.remoteMem {s : State} {q : RemoteReq} {pa : ℕ} (h : s.Tidy) : (s.remoteMem q pa).1.Tidy :=
  .ite_fst h (.ite_fst (.ite (.poisonFault (.checkMem h)) (.checkMem h)) (.ite_fst (.putMem (.checkMem h) _ _) (.checkMem h)))

theorem State.Tidy.serveRemote {s : State} {q : RemoteReq} (h : s.Tidy) : (s.serveRemote q).1.Tidy := by
  refine .ite_fst h (.ite_fst (.xlog (.draw h)) ?_)
  split
  · exact h
  · split
    · exact .remoteMem h
    · exact .ite_fst h (.ctlRead h)
    · exact h

theorem Step.Tidy.execRemoteRequest {q : RemoteReq} {s : State} (h : s.Tidy) : (execRemoteRequest q s).Tidy :=
  .next (.ite h (.ite h (.update (.serveRemote h))))

/-! ### The operations of Machine/LoadStore.lean -/

theorem State.Tidy.fillWay {s : State} {c pa : ℕ} {data : List Byte} (h : s.Tidy) : (s.fillWay c pa data).Tidy :=
  .ite (.modCore h _ _) (.modCore (.draw h) _ _)

theorem State.Tidy.loadMem {s : State} {c pa n : ℕ} {cached : Bool} (h : s.Tidy) : (s.loadMem c pa n cached).1.Tidy := by
  unfold State.loadMem
  dsimp only
  split
  · exact .ite_fst (.checkMem h) (.ite (.fillWay (.checkMem h)) (.checkMem h))
  · exact .ite_fst h (.ite_fst (.draw h) (.ite_fst (.checkMem (.draw h)) (.ite (.fillWay (.checkMem (.draw h))) (.checkMem (.draw
      h)))))

theorem SOut.Tidy.loadAway {s : State} {c a len dst kind : ℕ} (h : s.Tidy) : (s.loadAway c a len dst kind).Tidy :=
  .stay (.modCore (.post h) _ _)

theorem SOut.Tidy.endNow {c a dst kind : ℕ} {r : State × MStat × List Byte} (h : r.1.Tidy) : (endNow c a dst kind r).Tidy :=
  .ite (.done (.modCore h _ _)) (.exc h)

theorem SOut.Tidy.endMem {c a dst kind pa : ℕ} {r : State × MStat × List Byte} (h : r.1.Tidy) : (endMem c a dst kind pa r).Tidy :=
  .ite (.endNow h) (.ite (.stay (.poisonFault h)) (.endNow (.poisonFault h)))

theorem Step.Tidy.execLoadN {kind n : ℕ} {c : CoreId} {f : IFields} {s : State} (h : s.Tidy) : (execLoadN kind n c f s).Tidy := by
  refine .next (.runInstr (fun _ h1 => .ite (.exc h1) (.ite (.exc h1) (.ite (.stay h1) ?_))) h)
  split
  · exact .ite (.stay h1) (.endMem (.loadMem h1))
  · exact .endNow (.ctlRead h1)
  · exact .exc h1
  · exact .ite (.exc h1) (.ite (.stay h1) (.loadAway h1))

theorem Step.Tidy.execLdb {c : CoreId} {f : IFields} {s : State} (h : s.Tidy) : (execLdb c f s).Tidy :=
  .execLoadN h

theorem Step.Tidy.execLdbu {c : CoreId} {f : IFields} {s : State} (h : s.Tidy) : (execLdbu c f s).Tidy :=
  .execLoadN h

theorem Step.Tidy.execLdh {c : CoreId} {f : IFields} {s : State} (h : s.Tidy) : (execLdh c f s).Tidy :=
  .execLoadN h

theorem Step.Tidy.execLdhu {c : CoreId} {f : IFields} {s : State} (h : s.Tidy) : (execLdhu c f s).Tidy :=
  .execLoadN h

theorem Step.Tidy.execLdw {c : CoreId} {f : IFields} {s : State} (h : s.Tidy) : (execLdw c f s).Tidy :=
  .execLoadN h

theorem Step.Tidy.execLdwu {c : CoreId} {f : IFields} {s : State} (h : s.Tidy) : (execLdwu c f s).Tidy :=
  .execLoadN h

theorem Step.Tidy.execLdd {c : CoreId} {f : IFields} {s : State} (h : s.Tidy) : (execLdd c f s).Tidy :=
  .execLoadN h

theorem SOut.Tidy.issueStore {s : State} {c a len : ℕ} {data : List Byte} (h : s.Tidy) : (s.issueStore c a len data).Tidy := by
  refine .ite (.done (.modCore ?_ _ _)) (.ite (.stay (.modCore ?_ _ _)) (.done (.postStore ?_)))
  · split
    · exact .modCore h _ _
    · exact h
  · split
    · exact .modCore h _ _
    · exact h
  · split
    · exact .modCore h _ _
    · exact h

theorem Step.Tidy.execStoreN {n : ℕ} {c : CoreId} {f : IFields} {s : State} (h : s.Tidy) : (execStoreN n c f s).Tidy := by
  refine .next (.runInstr (fun _ h1 => .ite (.exc h1) (.ite (.exc h1) ?_)) h)
  split
  · exact .ite (.done (.ctlWrite h1)) (.exc (.ctlWrite h1))
  · exact .issueStore h1

theorem Step.Tidy.execStb {c : CoreId} {f : IFields} {s : State} (h : s.Tidy) : (execStb c f s).Tidy :=
  .execStoreN h

theorem Step.Tidy.execSth {c : CoreId} {f : IFields} {s : State} (h : s.Tidy) : (execSth c f s).Tidy :=
  .execStoreN h

theorem Step.Tidy.execStw {c : CoreId} {f : IFields} {s : State} (h : s.Tidy) : (execStw c f s).Tidy :=
  .execStoreN h

theorem Step.Tidy.execStd {c : CoreId} {f : IFields} {s : State} (h : s.Tidy) : (execStd c f s).Tidy :=
  .execStoreN h

theorem Step.Tidy.execDcinv {c : CoreId} {f : IFields} {s : State} (h : s.Tidy) : (execDcinv c f s).Tidy :=
  .next (.runInstr (fun _ h1 => .done (.modCore h1 _ _)) h)

theorem Step.Tidy.execDcinva {c : CoreId} {f : IFields} {s : State} (h : s.Tidy) : (execDcinva c f s).Tidy :=
  .next (.runInstr (fun _ h1 => .done (.modCore h1 _ _)) h)

theorem Step.Tidy.execPref {c : CoreId} {f : IFields} {s : State} (h : s.Tidy) : (execPref c f s).Tidy := by
  refine .next (.runInstr (fun t ht => ?_) h)
  dsimp only
  split
  · next pa _ =>
    have hq : (if ((t.core c).cached pa).isSome then t.draw else (1, t)).2.Tidy := by
      split
      · exact .draw ht
      · exact ht
    exact .ite (.done ht) (.ite (.done hq) (.done (.ite (.fillWay (.checkMem hq)) (.checkMem hq))))
  · exact .done ht

/-! ### The operations of Machine/EngineRun.lean -/

theorem State.Tidy.freeBytes {s : State} {n : ℕ} (h : s.Tidy) : (s.freeBytes n).1.Tidy :=
  .update h

theorem State.Tidy.postReads {s : State} {x : Eng} {need : List (ℕ × ℕ)} (h : s.Tidy) : (s.postReads x need).Tidy :=
  .foldl _ _ (fun _ _ h1 => .ite h1 (.post h1)) (.modCore h _ _)

theorem State.Tidy.awayStatus {s : State} {l : Loc} (h : s.Tidy) : (s.awayStatus l).1.Tidy :=
  .ite_fst h (.draw h)

theorem State.Tidy.pieceRead {s : State} {x : Eng} {a n : ℕ} (h : s.Tidy) : (s.pieceRead x a n).1.Tidy := by
  unfold State.pieceRead
  split
  · exact .checkMem h
  · exact .ctlRead h
  · exact h
  · split
    · exact h
    · exact .freeBytes (n := n) (.awayStatus h)

theorem State.Tidy.pieceCheck {s : State} {x : Eng} {a : ℕ} (h : s.Tidy) : (s.pieceCheck x a).1.Tidy := by
  unfold State.pieceCheck
  split
  · exact .checkMem h
  · exact h
  · exact h
  · exact .awayStatus h

theorem State.Tidy.pieceWrite {s : State} {x : Eng} {a : ℕ} {data : List Byte} (h : s.Tidy) : (s.pieceWrite x a data).Tidy := by
  unfold State.pieceWrite
  split
  · exact .putMem h _ _
  · exact .ctlWrite h
  · exact h

theorem State.Tidy.pieceSome {s : State} {x : Eng} {a : ℕ} {data : List Byte} (h : s.Tidy) : (s.pieceSome x a data).Tidy := by
  unfold State.pieceSome
  split
  · exact .ite (.draw h) (.putMem (.draw h) _ _)
  · exact .ite (.draw h) (.ctlWrite (.draw h))
  · exact h

theorem Run.Tidy.fail {r : Run} {code addr : ℕ} (h : r.Tidy) : (Run.fail r code addr).Tidy :=
  .ite h (.mk h)

theorem Run.Tidy.read {r : Run} {x : Eng} {a n : ℕ} (h : r.Tidy) : (Run.read r x a n).1.Tidy :=
  .foldl_fst _ _ (fun _ _ h1 => .ite_fst (.mk (.freeBytes h1)) (.ite_fst (.mk (.pieceRead h1)) (.mk (.freeBytes (.pieceRead
    h1))))) h

theorem Run.Tidy.reads {r : Run} {x : Eng} {l : List (ℕ × ℕ)} (h : r.Tidy) : (Run.reads r x l).1.Tidy :=
  .foldl_fst _ _ (fun _ _ h1 => .read h1) h

theorem Run.Tidy.write {r : Run} {x : Eng} {l : List (ℕ × List Byte)} (h : r.Tidy) : (Run.write r x l).Tidy := by
  unfold Run.write
  extract_lets ws q
  have hq : q.1.Tidy := .foldl_fst _ _ (fun _ _ h1 => .ite_fst (.mk (.pieceCheck h1)) (.fail (.mk (.pieceCheck h1)))) h
  exact .ite (.mk (.foldl _ _ (fun _ _ h2 => .pieceWrite h2) hq)) (.mk (.foldl _ _ (fun _ _ h3 => .ite (.pieceSome h3) h3) hq))

theorem Run.Tidy.reg {r : Run} {n old new : ℕ} (h : r.Tidy) : (Run.reg r n old new).1.Tidy :=
  .ite_fst h (.mk (.update h))

theorem EOut.Tidy.out {r : Run} (h : r.Tidy) : (Run.out r).Tidy := by
  unfold Machine.Run.out
  split
  · exact .done h
  · exact .stop h

theorem EOut.Tidy.guarded {s : State} {x : Eng} {checks : List (Bool × ℕ × ℕ)} {rs ws : List (ℕ × ℕ)} {run : Run → EOut}
    (hrun : ∀ r, r.Tidy → (run r).Tidy) (h : s.Tidy) : (s.guarded x checks rs ws run).Tidy := by
  unfold State.guarded
  split
  · exact h
  · split
    · exact h
    · exact h
    · exact .ite (.wait (.postReads h)) (.ite (.wait h) (hrun _ (.mk h)))

theorem State.Tidy.poisoned {s : State} {x : Eng} {code addr : ℕ} (h : s.Tidy) : (s.poisoned x code addr).Tidy :=
  .ite h (by split; exacts [.poisonFault h, h])

theorem State.Tidy.engineHalt {s : State} {x : Eng} {op : EOp} {code addr : ℕ} (h : s.Tidy) :
    (s.engineHalt x op code addr).Tidy :=
  .poisoned (.modCore h _ _)

theorem State.Tidy.engineDone {s : State} {x : Eng} {op : EOp} (h : s.Tidy) : (s.engineDone x op).Tidy :=
  .traceRec (.modCore h _ _)

theorem State.Tidy.engineStart {s : State} {x : Eng} (h : s.Tidy) : (s.engineStart x).Tidy :=
  .ite (.ite (.setDom h) h) (.askCredit (.ite (.setDom h) h))

theorem State.Tidy.runEntry {s : State} {c : CoreId} {op : EOp} {body : State → Eng → IFields → Word → Word → Word → EOut}
    (hbody : ∀ t x f a b d, t.Tidy → (body t x f a b d).Tidy) (h : s.Tidy) : (s.runEntry c op body).Tidy := by
  unfold State.runEntry
  split
  · next o f a b d env l e =>
    refine .ite h (.ite (.engineStart h) ?_)
    have hb := hbody _ ⟨c, unitOf op, env⟩ f a b d (State.Tidy.engineStart (x := ⟨c, unitOf op, env⟩) h)
    split
    · next u e => rw [e] at hb; exact hb
    · next u e => rw [e] at hb; exact .ite (.engineDone hb) hb
    · next u k a e => rw [e] at hb; exact .ite (.engineHalt hb) hb
  · exact h

/-! ### The operations of Machine/Matrix.lean -/

theorem Run.Tidy.plane {r : Run} {x : Eng} {p : Plane} (h : r.Tidy) : (Run.plane r x p).1.Tidy :=
  .reads h

theorem Run.Tidy.unfold {r : Run} {x : Eng} {u : Unfold} {fmt base stride : ℕ} (h : r.Tidy) :
    (Run.unfold r x u fmt base stride).1.Tidy :=
  .foldl_fst _ _ (fun _ _ h1 => .reads h1) h

/-! ### The operations of Machine/Vector.lean -/

theorem Step.Tidy.execVcfg {c : CoreId} {s : State} (h : s.Tidy) : (execVcfg c s).Tidy :=
  .next (.runEntry (fun _ _ _ _ _ _ h1 => .guarded (fun _ h2 => .done (.modCore h2 _ _)) h1) h)

theorem Step.Tidy.execVrqcfg {c : CoreId} {s : State} (h : s.Tidy) : (execVrqcfg c s).Tidy :=
  .next (.runEntry (fun _ _ _ _ _ _ h1 => .guarded (fun _ h2 => .done (.modCore h2 _ _)) h1) h)

theorem Step.Tidy.execVld {c : CoreId} {s : State} (h : s.Tidy) : (execVld c s).Tidy :=
  .next (.runEntry (fun _ _ _ _ _ _ h1 => .guarded (fun _ h2 => .out (.mk (.modCore (.ofRun (.reg (.read h2))) _ _))) h1) h)

theorem Step.Tidy.execVst {c : CoreId} {s : State} (h : s.Tidy) : (execVst c s).Tidy :=
  .next (.runEntry (fun _ _ _ _ _ _ h1 => .guarded (fun _ h2 => .out (.write h2)) h1) h)

theorem EOut.Tidy.loadLanes {s : State} {x : Eng} {f : IFields} {addrs : List ℕ} (h : s.Tidy) : (s.loadLanes x f addrs).Tidy := by
  unfold State.loadLanes
  exact .guarded (fun _ h1 => .out (.mk (.modCore (.ofRun (.reg (.reads h1))) _ _))) h

theorem Step.Tidy.execVlds {c : CoreId} {s : State} (h : s.Tidy) : (execVlds c s).Tidy :=
  .next (.runEntry (fun _ _ _ _ _ _ h1 => .loadLanes h1) h)

theorem Step.Tidy.execVgath {c : CoreId} {s : State} (h : s.Tidy) : (execVgath c s).Tidy :=
  .next (.runEntry (fun _ _ _ _ _ _ h1 => .loadLanes h1) h)

theorem Step.Tidy.execVscat {c : CoreId} {s : State} (h : s.Tidy) : (execVscat c s).Tidy :=
  .next (.runEntry (fun _ _ _ _ _ _ h1 => .guarded (fun _ h2 => .out (.write h2)) h1) h)

theorem EOut.Tidy.vecOp {s : State} {x : Eng} {f : IFields} {checks : List (Bool × ℕ × ℕ)} {g : Core → ℕ × ℕ}
    {inRange : optParam (Core → Bool) fun x => true} (h : s.Tidy) : (s.vecOp x f checks g inRange).Tidy :=
  .guarded (fun _ h1 => .ite (.done (.setEngFlags (.modCore h1 _ _))) (.stop (.setEngFlags (.modCore (.draw (.ofRun (.reg (.fail
    h1)))) _ _)))) h

theorem State.Tidy.arithOp {s : State} {c : CoreId} {op : EOp} {onInt : ℤ → ℤ → ℤ → ℤ} {onFloat : FV → FV → FV → FV × ℕ}
    (h : s.Tidy) : (s.arithOp c op onInt onFloat).Tidy :=
  .runEntry (fun _ _ _ _ _ _ h1 => .vecOp h1) h

theorem Step.Tidy.execVadd {c : CoreId} {s : State} (h : s.Tidy) : (execVadd c s).Tidy :=
  .next (.arithOp h)

theorem Step.Tidy.execVsub {c : CoreId} {s : State} (h : s.Tidy) : (execVsub c s).Tidy :=
  .next (.arithOp h)

theorem Step.Tidy.execVmul {c : CoreId} {s : State} (h : s.Tidy) : (execVmul c s).Tidy :=
  .next (.arithOp h)

theorem Step.Tidy.execVfma {c : CoreId} {s : State} (h : s.Tidy) : (execVfma c s).Tidy :=
  .next (.arithOp h)

theorem Step.Tidy.execVmin {c : CoreId} {s : State} (h : s.Tidy) : (execVmin c s).Tidy :=
  .next (.arithOp h)

theorem Step.Tidy.execVmax {c : CoreId} {s : State} (h : s.Tidy) : (execVmax c s).Tidy :=
  .next (.arithOp h)

theorem State.Tidy.arithOne {s : State} {c : CoreId} {op : EOp} {onInt : ℤ → ℤ} {onFloat : FV → FV} (h : s.Tidy) :
    (s.arithOne c op onInt onFloat).Tidy :=
  .runEntry (fun _ _ _ _ _ _ h1 => .vecOp h1) h

theorem Step.Tidy.execVabs {c : CoreId} {s : State} (h : s.Tidy) : (execVabs c s).Tidy :=
  .next (.arithOne h)

theorem Step.Tidy.execVneg {c : CoreId} {s : State} (h : s.Tidy) : (execVneg c s).Tidy :=
  .next (.arithOne h)

theorem State.Tidy.bitOp {s : State} {c : CoreId} {op : EOp} {ok : ℕ → Bool} {g : ℕ → ℕ → ℕ → ℕ} (h : s.Tidy) :
    (s.bitOp c op ok g).Tidy :=
  .runEntry (fun _ _ _ _ _ _ h1 => .vecOp h1) h

theorem Step.Tidy.execVand {c : CoreId} {s : State} (h : s.Tidy) : (execVand c s).Tidy :=
  .next (.bitOp h)

theorem Step.Tidy.execVor {c : CoreId} {s : State} (h : s.Tidy) : (execVor c s).Tidy :=
  .next (.bitOp h)

theorem Step.Tidy.execVxor {c : CoreId} {s : State} (h : s.Tidy) : (execVxor c s).Tidy :=
  .next (.bitOp h)

theorem Step.Tidy.execVshl {c : CoreId} {s : State} (h : s.Tidy) : (execVshl c s).Tidy :=
  .next (.bitOp h)

theorem Step.Tidy.execVshr {c : CoreId} {s : State} (h : s.Tidy) : (execVshr c s).Tidy :=
  .next (.bitOp h)

theorem Step.Tidy.execVsra {c : CoreId} {s : State} (h : s.Tidy) : (execVsra c s).Tidy :=
  .next (.bitOp h)

theorem Step.Tidy.execVcvt {c : CoreId} {s : State} (h : s.Tidy) : (execVcvt c s).Tidy :=
  .next (.runEntry (fun _ _ _ _ _ _ h1 => .vecOp h1) h)

theorem Step.Tidy.execVreq {c : CoreId} {s : State} (h : s.Tidy) : (execVreq c s).Tidy :=
  .next (.runEntry (fun _ _ _ _ _ _ h1 => .vecOp h1) h)

theorem Step.Tidy.execVrsum {c : CoreId} {s : State} (h : s.Tidy) : (execVrsum c s).Tidy :=
  .next (.runEntry (fun _ _ _ _ _ _ h1 => .vecOp h1) h)

theorem Step.Tidy.execVrmax {c : CoreId} {s : State} (h : s.Tidy) : (execVrmax c s).Tidy :=
  .next (.runEntry (fun _ _ _ _ _ _ h1 => .vecOp h1) h)

theorem State.Tidy.transOp {s : State} {c : CoreId} {op : EOp} {n : ℕ} (h : s.Tidy) : (s.transOp c op n).Tidy :=
  .runEntry (fun _ _ _ _ _ _ h1 => .vecOp h1) h

theorem Step.Tidy.execVexp {c : CoreId} {s : State} (h : s.Tidy) : (execVexp c s).Tidy :=
  .next (.transOp h)

theorem Step.Tidy.execVlog {c : CoreId} {s : State} (h : s.Tidy) : (execVlog c s).Tidy :=
  .next (.transOp h)

theorem Step.Tidy.execVrcp {c : CoreId} {s : State} (h : s.Tidy) : (execVrcp c s).Tidy :=
  .next (.transOp h)

theorem Step.Tidy.execVrsq {c : CoreId} {s : State} (h : s.Tidy) : (execVrsq c s).Tidy :=
  .next (.transOp h)

theorem Step.Tidy.execVtanh {c : CoreId} {s : State} (h : s.Tidy) : (execVtanh c s).Tidy :=
  .next (.transOp h)

theorem Step.Tidy.execVsigm {c : CoreId} {s : State} (h : s.Tidy) : (execVsigm c s).Tidy :=
  .next (.transOp h)

theorem Step.Tidy.execVcmp {c : CoreId} {s : State} (h : s.Tidy) : (execVcmp c s).Tidy :=
  .next (.runEntry (fun _ _ _ _ _ _ h1 => .vecOp h1) h)

theorem Step.Tidy.execVsel {c : CoreId} {s : State} (h : s.Tidy) : (execVsel c s).Tidy :=
  .next (.runEntry (fun _ _ _ _ _ _ h1 => .vecOp h1) h)

theorem Step.Tidy.execVspot {c : CoreId} {s : State} (h : s.Tidy) : (execVspot c s).Tidy :=
  .next (.runEntry (fun _ _ _ _ _ _ h1 => .vecOp h1) h)

/-! ### The operations of Machine/Residue.lean -/

theorem Run.Tidy.m61 {r : Run} {base stride : ℕ} {l : List ℕ} (h : r.Tidy) : (Run.m61 r base stride l).1.Tidy := by
  refine .foldl_fst _ _ (fun _ _ h1 => ?_) h
  split
  · exact h1
  · exact .fail (.mk (.draw h1))

theorem EOut.Tidy.loadM {r : Run} {x : Eng} {dst : ℕ} {v : List ℕ} (h : r.Tidy) : (Run.loadM r x dst v).Tidy :=
  .out (.mk (.modCore (.ofRun (.reg h)) _ _))

theorem Step.Tidy.execMld {c : CoreId} {s : State} (h : s.Tidy) : (execMld c s).Tidy :=
  .next (.runEntry (fun _ _ _ _ _ _ h1 => .guarded (fun _ h2 => .loadM (.m61 (.read h2))) h1) h)

theorem Step.Tidy.execMst {c : CoreId} {s : State} (h : s.Tidy) : (execMst c s).Tidy :=
  .next (.runEntry (fun _ _ _ _ _ _ h1 => .guarded (fun _ h2 => .out (.write h2)) h1) h)

theorem Step.Tidy.execMldx {c : CoreId} {s : State} (h : s.Tidy) : (execMldx c s).Tidy :=
  .next (.runEntry (fun _ _ _ _ _ _ h1 => .guarded (fun _ h2 => .loadM (.read h2)) h1) h)

theorem State.Tidy.laneOp {s : State} {c : CoreId} {op : EOp} {g : ℕ → ℕ → ℕ → ℕ} (h : s.Tidy) : (s.laneOp c op g).Tidy :=
  .runEntry (fun _ _ _ _ _ _ h1 => .guarded (fun _ h2 => .done (.modCore h2 _ _)) h1) h

theorem Step.Tidy.execMadd {c : CoreId} {s : State} (h : s.Tidy) : (execMadd c s).Tidy :=
  .next (.laneOp h)

theorem Step.Tidy.execMsub {c : CoreId} {s : State} (h : s.Tidy) : (execMsub c s).Tidy :=
  .next (.laneOp h)

theorem Step.Tidy.execMmul {c : CoreId} {s : State} (h : s.Tidy) : (execMmul c s).Tidy :=
  .next (.laneOp h)

theorem Step.Tidy.execMmac {c : CoreId} {s : State} (h : s.Tidy) : (execMmac c s).Tidy :=
  .next (.laneOp h)

theorem Step.Tidy.execMred {c : CoreId} {s : State} (h : s.Tidy) : (execMred c s).Tidy :=
  .next (.runEntry (fun _ _ _ _ _ _ h1 => .guarded (fun _ h2 => .done (.modCore h2 _ _)) h1) h)

theorem Step.Tidy.execMrnd {c : CoreId} {s : State} (h : s.Tidy) : (execMrnd c s).Tidy :=
  .next (.runEntry (fun _ _ _ _ _ _ h1 => .guarded (fun _ h2 => .ite (.stop (.rngRequest h2)) (.done (.modCore (.update
    (.rngRequest h2)) _ _))) h1) h)

theorem EOut.Tidy.mmv {d : ResDesc} {x : Eng} {m : Run × Mat} (h : m.1.Tidy) : (ResDesc.mmv d x m).Tidy :=
  .out (.write (.ite_fst (.foldl_fst _ _ (fun _ _ h1 => .m61 h1) (.foldl_fst _ _ (fun _ _ h2 => .m61 h2) (.reads h))) (.foldl_fst
    _ _ (fun _ _ h3 => .m61 h3) (.reads h))))

theorem EOut.Tidy.mmvf {d : ResDesc} {x : Eng} {m : Run × Mat} (h : m.1.Tidy) : (ResDesc.mmvf d x m).Tidy :=
  .out (.ite (.mk (.setEngFlags (.ofRun (.write (.reads h))))) (.mk (.setEngFlags (.draw (.ofRun (.write (.reads h)))))))

theorem State.Tidy.matVec {s : State} {c : CoreId} {op : EOp} {float : Bool} (h : s.Tidy) : (s.matVec c op float).Tidy :=
  .runEntry (fun _ _ _ _ _ _ h1 => .guarded (fun _ h2 => .ite (.out (.read h2)) (.ite (.guarded (fun _ h3 => .ite (.out (.read
    h3)) (.guarded (fun _ h4 => .ite (.mmvf (.unfold h4)) (.mmv (.unfold h4))) (.ofRun (.read h3)))) (.ofRun (.read h2)))
    (.guarded (fun _ h5 => .ite (.mmvf (.plane h5)) (.mmv (.plane h5))) (.ofRun (.read h2))))) h1) h

theorem Step.Tidy.execMmv {c : CoreId} {s : State} (h : s.Tidy) : (execMmv c s).Tidy :=
  .next (.matVec h)

theorem Step.Tidy.execMmvf {c : CoreId} {s : State} (h : s.Tidy) : (execMmvf c s).Tidy :=
  .next (.matVec h)

/-! ### The operations of Machine/Compare.lean -/

theorem Step.Tidy.execCcfg {c : CoreId} {s : State} (h : s.Tidy) : (execCcfg c s).Tidy :=
  .next (.runEntry (fun _ _ _ _ _ _ h1 => .guarded (fun _ h2 => .done (.modCore h2 _ _)) h1) h)

theorem Step.Tidy.execCinj {c : CoreId} {s : State} (h : s.Tidy) : (execCinj c s).Tidy :=
  .next (.runEntry (fun _ _ _ _ _ _ h1 => .guarded (fun _ h2 => .done (.modCore h2 _ _)) h1) h)

theorem Run.Tidy.readPair {r : Run} {x : Eng} {a b n : ℕ} (h : r.Tidy) : (Run.readPair r x a b n).1.Tidy :=
  .mk (.ite_fst (.ofRun (.read (.mk (.ofRun (.read h))))) (.freeBytes (.ofRun (.read (.mk (.ofRun (.read h)))))))

theorem EOut.Tidy.compareEnd {x : Eng} {r : ℕ} {fault : Bool} {run : Run} {old new : CmpReg} {mism : Bool} (h : run.Tidy) :
    (State.compareEnd x r fault run old new mism).Tidy :=
  .out (.mk (.ite (.coreFault (.modCore (.ofRun (.reg h)) _ _)) (.modCore (.ofRun (.reg h)) _ _)))

theorem Step.Tidy.execCmpt {c : CoreId} {s : State} (h : s.Tidy) : (execCmpt c s).Tidy :=
  .next (.runEntry (fun _ _ _ _ _ _ h1 => .guarded (fun _ h2 => .compareEnd (.readPair h2)) h1) h)

theorem Step.Tidy.execCmpm {c : CoreId} {s : State} (h : s.Tidy) : (execCmpm c s).Tidy :=
  .next (.runEntry (fun _ _ _ _ _ _ h1 => .guarded (fun _ h2 => .compareEnd (.readPair h2)) h1) h)

theorem Step.Tidy.execCst {c : CoreId} {s : State} (h : s.Tidy) : (execCst c s).Tidy :=
  .next (.runEntry (fun _ _ _ _ _ _ h1 => .guarded (fun _ h2 => .ite (.out (.write h2)) (.done (.modCore (.ofRun (.write h2)) _
    _))) h1) h)

/-! ### The operations of Machine/DeviceCommands.lean -/

theorem State.Tidy.enableDevWm {s : State} (h : s.Tidy) : s.enableDevWm.Tidy :=
  .ite h (.update (.wmRestart (.loadReg h)))

theorem Step.Tidy.execStart {e : SubEntry} {s : State} (h : s.Tidy) : (execStart e s).Tidy :=
  .next (.hostCmd h (fun _ h1 => .ite (.done h1) (.ite (.done (.drawFirst h1)) (.done (.setState (.enableDevWm (.restartRoutes
    (.placeCores (.drawFirst h1)))))))))

theorem State.Tidy.awaitBoundary {s : State} {e : SubEntry} {k : StopKind} (h : s.Tidy) : (s.awaitBoundary e k).Tidy :=
  .update h

theorem Step.Tidy.execStop {e : SubEntry} {s : State} (h : s.Tidy) : (execStop e s).Tidy :=
  .next (.hostCmd h (fun _ h1 => .ite (.awaitBoundary h1) (.done h1)))

theorem Step.Tidy.execRevalidate {e : SubEntry} {s : State} (h : s.Tidy) : (execRevalidate e s).Tidy :=
  .next (.hostCmd h (fun _ h1 => .ite (.done h1) (.ite (.done h1) (.update h1))))

theorem Step.Tidy.execEnterService {e : SubEntry} {s : State} (h : s.Tidy) : (execEnterService e s).Tidy :=
  .next (.hostCmd h (fun _ h1 => .ite (.awaitBoundary h1) (.done h1)))

theorem Step.Tidy.execExitService {e : SubEntry} {s : State} (h : s.Tidy) : (execExitService e s).Tidy :=
  .next (.hostCmd h (fun _ h1 => .ite (.done h1) (.done (.setState (.setFld (.update (.iter _ _ (fun _ _ h2 => .ite h2 (.setFld h2
    _ _)) h1)) _ _)))))

theorem Step.Tidy.execTenantSet {e : SubEntry} {s : State} (h : s.Tidy) : (execTenantSet e s).Tidy :=
  .next (.hostCmd h (fun _ h1 => .ite (.done h1) (.done (.bumpMeas (.iter _ _ (fun _ _ h2 => .setFld h2 _ _) h1)))))

theorem Step.Tidy.execLcAdvance {e : SubEntry} {s : State} (h : s.Tidy) : (execLcAdvance e s).Tidy :=
  .next (.hostCmd h (fun _ h1 => .ite (.done h1) (.ite (.done h1) (.ite (.done h1) (.done (.update h1))))))

/-! ### The operations of Machine/ImageCommands.lean -/

theorem State.Tidy.putProgram {s : State} {i a : ℕ} {d : List Byte} (h : s.Tidy) : (s.putProgram i a d).Tidy :=
  .bumpMeas (.forgetVectors (.update (.setBytes (.setBytes h _ _) _ _)))

theorem Step.Tidy.execLoadProgram {e : SubEntry} {s : State} (h : s.Tidy) : (execLoadProgram e s).Tidy := by
  refine .next (.hostCmd h (fun _ h1 => ?_))
  split
  · exact .done (.ite (.drawFirst (.putProgram h1)) (.putProgram h1))
  · exact .done h1

theorem State.Tidy.showBundles {s : State} {b : ℕ} (h : s.Tidy) : (s.showBundles b).Tidy := by
  unfold State.showBundles
  dsimp only
  split
  · exact .setReg (.setFld h _ _) _ _
  · exact .setFld (.setFld (.setFld (.setFld h _ _) _ _) _ _) _ _

theorem Step.Tidy.execLoadBundle {e : SubEntry} {s : State} (h : s.Tidy) : (execLoadBundle e s).Tidy := by
  refine .next (.ite h (.hostCmd h (fun _ h1 => ?_)))
  split
  · exact .done (.bumpMeas (.showBundles (.update (.setBytes h1 _ _))))
  · exact .done h1

theorem Step.Tidy.execUnloadBundle {e : SubEntry} {s : State} (h : s.Tidy) : (execUnloadBundle e s).Tidy := by
  refine .next (.hostCmd h (fun _ h1 => ?_))
  dsimp only
  split
  · exact .done h1
  · exact .ite (.done h1) (.done (.bumpMeas (.showBundles (.update (.setBytes h1 _ _)))))

/-! ### The operations of Machine/Mover.lean -/

theorem Run.Tidy.moveRow {r : Run} {x : Eng} {d : MoveDesc} {a : ℕ × ℕ} (h : r.Tidy) : (Run.moveRow r x d a).Tidy :=
  .ite h (.ite (.mk (.cvuFeed (.ofRun (.write (.ite_fst h (.read h)))))) (.write (.ite_fst h (.read h))))

theorem Run.Tidy.runSteps {s : State} {x : Eng} {l : List MoveStep} (h : s.Tidy) : (s.runSteps x l).Tidy :=
  .foldl _ _ (fun _ _ h1 => .foldl _ _ (fun _ _ h2 => .moveRow h2) h1) (.mk (.modCore h _ _))

theorem EOut.Tidy.moveChain {x : Eng} {fuel a : ℕ} {l : List MoveStep} {s : State} (h : s.Tidy) :
    (State.moveChain x fuel a l s).Tidy := by
  induction fuel generalizing a l s with
  | zero => exact .out (.fail (.runSteps h))
  | succ fuel ih =>
    refine .guarded (fun run hr => ?_) h
    have hq : (run.read x a 64).1.Tidy := .read hr
    dsimp only
    split
    · exact .out (.fail (.runSteps (.ofRun hq)))
    · refine .guarded (fun run hr => ?_) (.ofRun hq)
      have hi : ∀ d : MoveDesc, (if d.indexed then run.read x d.idx (4 * d.rows) else (run, [])).1.Tidy :=
        fun d => .ite_fst (.read hr) hr
      split
      · exact .out (.fail (.runSteps (.ofRun (hi _))))
      · exact .guarded (fun run hr => .ite (.out (.runSteps (.ofRun hr))) (ih (.ofRun hr))) (.ofRun (hi _))

theorem Step.Tidy.execMvrun {c : CoreId} {s : State} (h : s.Tidy) : (execMvrun c s).Tidy :=
  .next (.runEntry (fun _ _ _ _ _ _ h1 => .guarded (fun _ h2 => .moveChain h2) h1) h)

theorem Step.Tidy.execMvcpy {c : CoreId} {s : State} (h : s.Tidy) : (execMvcpy c s).Tidy :=
  .next (.runEntry (fun _ _ _ _ _ _ h1 => .guarded (fun _ h2 => .out (.write (.read h2))) h1) h)

theorem Step.Tidy.execMvfill {c : CoreId} {s : State} (h : s.Tidy) : (execMvfill c s).Tidy :=
  .next (.runEntry (fun _ _ _ _ _ _ h1 => .guarded (fun _ h2 => .out (.write h2)) h1) h)

/-! ### The operations of Machine/Networks.lean -/

theorem State.Tidy.judgeNet {s : State} {n : ℕ} (h : s.Tidy) : (s.judgeNet n).Tidy :=
  .ite h (.ite (.setFld h _ _) (.ite (.ite (.fatal (.satInc (.setFld h _ _) _)) (.lose (.satInc (.setFld h _ _) _))) (.ite
    (.setFld h _ _) (.regain (.setFld h _ _)))))

theorem Step.Tidy.execNetworkLost {n : Fin 6} {s : State} (h : s.Tidy) : (execNetworkLost n s).Tidy :=
  .next (.ite (.judgeNet h) h)

theorem Step.Tidy.execEthLinkChange {m : Fin 2} {up : Bool} {speed : BitVec 3} {s : State} (h : s.Tidy) :
    (execEthLinkChange m up speed s).Tidy :=
  .next (.ite h (.ite (.judgeNet (.setFld (.setFld (.setPad h) _ _) _ _)) (.macLinkDown h)))

theorem Step.Tidy.execEthFrameReceive {m : Fin 2} {k : EthKind} {mine : Bool} {s : State} (h : s.Tidy) :
    (execEthFrameReceive m k mine s).Tidy := by
  refine .next (.ite h ?_)
  split
  · exact .satInc h _
  · exact .satInc (.satInc h _) _
  · exact .satInc (.satInc h _) _
  · exact .ite (.satInc h _) (.satInc (.satInc h _) _)

theorem Step.Tidy.execCanFrameReceive {c : Fin 4} {remote : Bool} {s : State} (h : s.Tidy) :
    (execCanFrameReceive c remote s).Tidy :=
  .next (.ite h (.setFld (.satInc h _) _ _))

theorem State.Tidy.canState {s : State} {c : ℕ} (h : s.Tidy) : (s.canState c).Tidy :=
  .setFld h _ _

theorem State.Tidy.canTec {s : State} {c : ℕ} (h : s.Tidy) : (s.canTec c).Tidy :=
  .ite (.satInc (.setFld (.setFld h _ _) _ _) _) (.canState (.setFld h _ _))

theorem Step.Tidy.execCanTxAttempt {c : Fin 4} {r : CanTx} {s : State} (h : s.Tidy) : (execCanTxAttempt c r s).Tidy := by
  refine .next (.ite h ?_)
  extract_lets t off _ v w u
  have ht : t.Tidy := .setPad h
  refine .judgeNet ?_
  unfold u
  cases r
  case recovered => exact .ite (.setFld (.setFld (.setFld ht _ _) _ _) _ _) ht
  case acked => exact .ite ht (.canState (.setFld (.setFld (.setFld (.satInc ht _) _ _) _ _) _ _))
  case noAck =>
    have hw : w.Tidy := .ite (.setFld (.satInc ht _) _ _) (.satInc ht _)
    exact .ite ht (.ite hw (.canTec hw))
  case error => exact .ite ht (.canTec ht)

theorem Step.Tidy.execSafetyFrameSend {n : Fin 6} {s : State} (h : s.Tidy) : (execSafetyFrameSend n s).Tidy := by
  refine .next (.ite h ?_)
  split
  · exact h
  · exact .ite (.satInc (.setEgress h) _) (.ite (.ite (.satInc (.setEgress h) _) h) (.ite h (.setEgress h)))

theorem State.Tidy.rxEntry {s : State} {i outcome nets : ℕ} {env : List Byte} (h : s.Tidy) :
    (s.rxEntry i outcome nets env).Tidy :=
  .setFld (.ite (.putMem (.checkMem h) _ _) (.checkMem h)) _ _

theorem State.Tidy.rxDecide {s : State} {w : PairWin} {outcome : ℕ} (h : s.Tidy) : (s.rxDecide w outcome).Tidy :=
  .ite (.postEvent (.rxEntry (.satInc (.update h) _))) (.rxEntry (.satInc (.update h) _))

theorem State.Tidy.rxCheck {s : State} {i side : ℕ} {env : List Byte} (h : s.Tidy) : (s.rxCheck i side env).1.Tidy :=
  .update (.cvuClose (.cvuFeed (.setCvuW (.cvuOpen (.setCvuCount h)))))

theorem State.Tidy.rxPair {s : State} {i side : ℕ} {env : List Byte} (h : s.Tidy) : (s.rxPair i side env).Tidy := by
  unfold State.rxPair
  extract_lets a t u
  have ht : t.Tidy := .foldl _ _ (fun _ _ h1 => .rxDecide h1) h
  refine .ite (.satInc ht _) ?_
  split
  · exact .ite ht (.rxDecide ht)
  · refine .update ?_
    unfold u
    split
    · exact .rxDecide ht
    · exact ht

theorem Step.Tidy.execSafetyFrameReceive {n : Fin 6} {env : List Byte} {segOk : Bool} {s : State} (h : s.Tidy) :
    (execSafetyFrameReceive n env segOk s).Tidy := by
  refine .next (.ite h ?_)
  split
  · exact h
  · exact .ite (.satInc h _) (.ite (.rxPair (.rxCheck h)) (.satInc (.rxCheck h) _))

theorem Step.Tidy.execPairingWindowEnd {i : Fin 16} {alive : BitVec 16} {s : State} (h : s.Tidy) :
    (execPairingWindowEnd i alive s).Tidy :=
  .next (by split; exacts [h, .ite (.rxDecide h) h])

/-! ### The operations of Machine/StoreCommands.lean -/

theorem Step.Tidy.execSetWrite {e : SubEntry} {s : State} (h : s.Tidy) : (execSetWrite e s).Tidy :=
  .next (.hostCmd h (fun _ h1 => .done (.update h1)))

theorem Step.Tidy.execSetRead {e : SubEntry} {s : State} (h : s.Tidy) : (execSetRead e s).Tidy :=
  .next (.hostCmd h (fun _ h1 => .done (.modFn h1)))

theorem Step.Tidy.execStore {e : SubEntry} {bad : ℕ} {s : State} (h : s.Tidy) : (execStore e bad s).Tidy :=
  .next (.hostCmd h (fun _ h1 => .ite (.done h1) (.ite (.done h1) (.done (.storeSettings h1)))))

theorem Step.Tidy.execCounterAdvance {e : SubEntry} {s : State} (h : s.Tidy) : (execCounterAdvance e s).Tidy :=
  .next (.hostCmd h (fun _ h1 => .ite (.done h1) (.done (.advanceCounter h1))))

theorem Step.Tidy.execCounterIncrement {e : SubEntry} {s : State} (h : s.Tidy) : (execCounterIncrement e s).Tidy :=
  .next (.hostCmd h (fun _ h1 => .ite (.done h1) (.done (.advanceCounter h1))))

/-! ### The operations of Machine/Tensor.lean -/

theorem Step.Tidy.execTdld {c : CoreId} {s : State} (h : s.Tidy) : (execTdld c s).Tidy :=
  .next (.runEntry (fun _ _ _ _ _ _ h1 => .guarded (fun _ h2 => .out (.mk (.modCore (.ofRun (.reg (.read h2))) _ _))) h1) h)

theorem Step.Tidy.execTdst {c : CoreId} {s : State} (h : s.Tidy) : (execTdst c s).Tidy :=
  .next (.runEntry (fun _ _ _ _ _ _ h1 => .guarded (fun _ h2 => .out (.write h2)) h1) h)

theorem Step.Tidy.execTdsetw {c : CoreId} {s : State} (h : s.Tidy) : (execTdsetw c s).Tidy :=
  .next (.runEntry (fun _ _ _ _ _ _ h1 => .guarded (fun _ h2 => .done (.modCore h2 _ _)) h1) h)

theorem EOut.Tidy.run {t : Tile} {run : Run} {x : Eng} {u : Option Unfold} (h : run.Tidy) : (Tile.run t run x u).Tidy := by
  unfold Machine.Tile.run
  extract_lets a b c e sums res rows w fl q v
  have ha : a.1.Tidy := by
    cases u with
    | some u => exact .unfold h
    | none => exact .plane h
  have hc : c.1.Tidy := .ite_fst (.plane (.plane ha)) (.plane ha)
  have he : e.1.Tidy := .ite_fst (.reads hc) hc
  have hw : w.Tidy := .write he
  have hv := State.Tidy.ofRun hw
  refine .ite (.stop (.ofRun he)) (.out ?_)
  have hk : ∀ g err, Run.Tidy ⟨(if w.err.isNone then w.s.setEngFlags x.c 0 fl else q.2.setEngFlags x.c 0 (fl &&& q.1)).modCore x.c
    g, err⟩ :=
    fun g _ => .mk (.modCore (.ite (.setEngFlags hv) (.setEngFlags (.draw hv))) _ g)
  exact .ite (.fail (hk ..)) (hk ..)

theorem Step.Tidy.execTmma {c : CoreId} {s : State} (h : s.Tidy) : (execTmma c s).Tidy :=
  .next (.runEntry (fun _ _ _ _ _ _ h1 => .ite (.guarded (fun _ h2 => .ite (.out (.read h2)) (.guarded (fun _ h3 => .run h3)
    (.ofRun (.read h2)))) h1) (.guarded (fun _ h4 => .run h4) h1)) h)

/-! ### The operations of Machine/Dispatch.lean -/

theorem Step.Tidy.exec {i : Instr} {s : State} (h : s.Tidy) : Step.Tidy (exec i s) := by
  unfold Machine.exec
  split
  · exact .execAdd h
  · exact .execSub h
  · exact .execAnd h
  · exact .execOr h
  · exact .execXor h
  · exact .execShl h
  · exact .execShr h
  · exact .execSra h
  · exact .execMul h
  · exact .execMulh h
  · exact .execMulhu h
  · exact .execDiv h
  · exact .execDivu h
  · exact .execRem h
  · exact .execRemu h
  · exact .execMin h
  · exact .execMax h
  · exact .execMinu h
  · exact .execMaxu h
  · exact .execClz h
  · exact .execPopc h
  · exact .execSel h
  · exact .execCmp h
  · exact .execPlog h
  · exact .execPget h
  · exact .execPset h
  · exact .execAddi h
  · exact .execAndi h
  · exact .execOri h
  · exact .execXori h
  · exact .execShli h
  · exact .execShri h
  · exact .execSrai h
  · exact .execMuli h
  · exact .execCmpeqi h
  · exact .execCmpnei h
  · exact .execCmplti h
  · exact .execCmpgei h
  · exact .execCmpltui h
  · exact .execCmpgeui h
  · exact .execMovhi h
  · exact .execAdpc h
  · exact .execLdb h
  · exact .execLdbu h
  · exact .execLdh h
  · exact .execLdhu h
  · exact .execLdw h
  · exact .execLdwu h
  · exact .execLdd h
  · exact .execStb h
  · exact .execSth h
  · exact .execStw h
  · exact .execStd h
  · exact .execDcinv h
  · exact .execDcinva h
  · exact .execPref h
  · exact .execBra h
  · exact .execCall h
  · exact .execJmp h
  · exact .execCallr h
  · exact .execLoop h
  · exact .execCsrr h
  · exact .execCsrw h
  · exact .execCsrs h
  · exact .execCsrc h
  · exact .execEcall h
  · exact .execEret h
  · exact .execBreak h
  · exact .execWfi h
  · exact .execIcinv h
  · exact .execWsvc h
  · exact .execCtxsw h
  · exact .execPcall h
  · exact .execPret h
  · exact .execHalt h
  · exact .execSig h
  · exact .execSigp h
  · exact .execWait h
  · exact .execWatch h
  · exact .execUnwatch h
  · exact .execSrd h
  · exact .execBara h
  · exact .execBarw h
  · exact .execMsg h
  · exact .execFences h
  · exact .execFencee h
  · exact .execMfence h
  · exact .execQsig h
  · exact .execQwait h
  · exact .execQstat h
  · exact .execEflush h
  · exact .execEresume h
  · exact .execDispatch h
  · exact .execQueueEntryFree h
  · exact .execFenceToken h
  · exact .execSignalToken h
  · exact .execWaitToken h
  · exact .execTdld h
  · exact .execTdst h
  · exact .execTdsetw h
  · exact .execTmma h
  · exact .execVcfg h
  · exact .execVrqcfg h
  · exact .execVld h
  · exact .execVst h
  · exact .execVlds h
  · exact .execVgath h
  · exact .execVscat h
  · exact .execVadd h
  · exact .execVsub h
  · exact .execVmul h
  · exact .execVfma h
  · exact .execVmin h
  · exact .execVmax h
  · exact .execVabs h
  · exact .execVneg h
  · exact .execVand h
  · exact .execVor h
  · exact .execVxor h
  · exact .execVshl h
  · exact .execVshr h
  · exact .execVsra h
  · exact .execVcvt h
  · exact .execVreq h
  · exact .execVrsum h
  · exact .execVrmax h
  · exact .execVexp h
  · exact .execVlog h
  · exact .execVrcp h
  · exact .execVrsq h
  · exact .execVtanh h
  · exact .execVsigm h
  · exact .execVcmp h
  · exact .execVsel h
  · exact .execVspot h
  · exact .execMld h
  · exact .execMst h
  · exact .execMldx h
  · exact .execMadd h
  · exact .execMsub h
  · exact .execMmul h
  · exact .execMmac h
  · exact .execMred h
  · exact .execMmv h
  · exact .execMmvf h
  · exact .execMrnd h
  · exact .execCcfg h
  · exact .execCmpt h
  · exact .execCmpm h
  · exact .execCst h
  · exact .execCinj h
  · exact .execMvcpy h
  · exact .execMvrun h
  · exact .execMvfill h
  · exact .execTakeException h
  · exact .execTagAllocate h
  · exact .execAccessComplete h
  · exact .execReplyReceived h
  · exact .execEpochNotice h
  · exact .execMarkerReturn h
  · exact .execWaitRelease h
  · exact .execMsgDelivery h
  · exact .execBarrierArrival h
  · exact .execBarrierCompletion h
  · exact .execDeadlockReport h
  · exact .execEngineLent h
  · exact .execCreditGrant h
  · exact .execSlotStart h
  · exact .execSlotOverrun h
  · exact .execExit h
  · exact .execCheckDone h
  · exact .execPassInfo h
  · exact .execPassOut h
  · exact .execHearthRef h
  · exact .execTapFrame h
  · exact .execGoldenRun h
  · exact .execGoldenRunTimeout h
  · exact .execCoreRestart h
  · exact .execCoreRetestDone h
  · exact .execTrip h
  · exact .execPowerOn h
  · exact .execReeveStart h
  · exact .execBootOk h
  · exact .execBootFail h
  · exact .execRecover h
  · exact .execSetOk h
  · exact .execSetNone h
  · exact .execPinReset h
  · exact .execVerifierPowerLoss h
  · exact .execReeveReset h
  · exact .execWarm h
  · exact .execRsOk h
  · exact .execRsFail h
  · exact .execReeveLinkUp h
  · exact .execVerifierSilent h
  · exact .execReeveLost h
  · exact .execGraceEnd h
  · exact .execRailFault h
  · exact .execPmicRead h
  · exact .execClockFailure h
  · exact .execX32kReturn h
  · exact .execHeartbeatToggle h
  · exact .execInvalidNotice h
  · exact .execScanStrobe h
  · exact .execScanRecord h
  · exact .execScanRecordMissing h
  · exact .execTestPulse h
  · exact .execTestPulseEvaluate h
  · exact .execOutputTestSample h
  · exact .execWatchmanWarn h
  · exact .execWatchmanExpiry h
  · exact .execRetainedCountCopy h
  · exact .execSelfTestSlice h
  · exact .execChkSingleExpiry h
  · exact .execTapPacket h
  · exact .execTapFrameStart h
  · exact .execSyntheticBoundary h
  · exact .execTapFrameEnd h
  · exact .execTelltaleWindowComplete h
  · exact .execProvTimeout h
  · exact .execChimeBlock h
  · exact .execTdmNoClock h
  · exact .execChimeDeadline h
  · exact .execPullReadComplete h
  · exact .execInboxWrite h
  · exact .execInboxDoorbell h
  · exact .execDeadline h
  · exact .execVerdictCommit h
  · exact .execRestartWindowOpen h
  · exact .execRestartWindowEnd h
  · exact .execHearthStageDone h
  · exact .execSafetyFrameSend h
  · exact .execSafetyFrameReceive h
  · exact .execPairingWindowEnd h
  · exact .execEthLinkChange h
  · exact .execNetworkLost h
  · exact .execEthFrameReceive h
  · exact .execCanFrameReceive h
  · exact .execCanTxAttempt h
  · exact .execGptpSync h
  · exact .execGptpFollowUp h
  · exact .execGptpAnnounce h
  · exact .execPdelayExchange h
  · exact .execSyncForward h
  · exact .execServoTick h
  · exact .execHoldover h
  · exact .execTpoPulse h
  · exact .execNimLinkTrained h
  · exact .execNimSessionInstalled h
  · exact .execNimStepTimeout h
  · exact .execNimLinkDown h
  · exact .execNimLaneFail h
  · exact .execNimPortHoldEnd h
  · exact .execNimPacketForward h
  · exact .execNimPacketReplay h
  · exact .execRollStart h
  · exact .execRollReport h
  · exact .execAgree h
  · exact .execNoPeer h
  · exact .execRemoteRequest h
  · exact .execTripNotice h
  · exact .execClaim h
  · exact .execStandbyCommit h
  · exact .execHandBack h
  · exact .execNimRekey h
  · exact .execRngSeed h
  · exact .execRngHealthFail h
  · exact .execRngFailTimeout h
  · exact .execDrbgReseed h
  · exact .execGetVersion h
  · exact .execGetCapabilities h
  · exact .execNegotiateAlgorithms h
  · exact .execGetDigests h
  · exact .execGetCertificate h
  · exact .execChallenge h
  · exact .execGetMeasurements h
  · exact .execKeyExchange h
  · exact .execFinish h
  · exact .execEndSession h
  · exact .execHeartbeat h
  · exact .execKeyUpdate h
  · exact .execIdeKmQuery h
  · exact .execKSetGo h
  · exact .execKSetStop h
  · exact .execServiceEntry h
  · exact .execScrubDone h
  · exact .execStopEffect h
  · exact .execPatrolScrub h
  · exact .execChannelFailure h
  · exact .execRetrainDone h
  · exact .execMirrorRebuildDone h
  · exact .execDomainGating h
  · exact .execDomainWake h
  · exact .execThrottleTick h
  · exact .execOvertemp h
  · exact .execPortFailure h
  · exact .execPortReturn h
  · exact .execFlr h
  · exact .execMsixModerationTimeout h
  · exact .execSqtail h
  · exact .execCqhead h
  · exact .execVrhead h
  · exact .execQcfgWrite h
  · exact .execHello h
  · exact .execGetStatus h
  · exact .execStart h
  · exact .execStop h
  · exact .execRevalidate h
  · exact .execEnterService h
  · exact .execExitService h
  · exact .execTenantSet h
  · exact .execLcAdvance h
  · exact .execSubmit h
  · exact .execChimeExpect h
  · exact .execLoadProgram h
  · exact .execLoadBundle h
  · exact .execUnloadBundle h
  · exact .execPairMode h
  · exact .execRestartBegin h
  · exact .execRestartDone h
  · exact .execSioPassword h
  · exact .execSioParamBegin h
  · exact .execSioParamWrite h
  · exact .execSioParamCommit h
  · exact .execSioParamAbort h
  · exact .execSioAck h
  · exact .execSioSessionTimeout h
  · exact .execLockoutEnd h
  · exact .execSetWrite h
  · exact .execSetRead h
  · exact .execStore h
  · exact .execCounterAdvance h
  · exact .execCounterIncrement h
  · exact .execGetCounters h
  · exact .execCoreRestartCmd h
  · exact .execWarmRestartCmd h
  · exact .execPortAResetCmd h
  · exact .execPortBResetCmd h
  · exact .execPairstatForce h
  · exact .execCntclr h
  · exact .execRunWrite h
  · exact .execWatchSvc h
  · exact .execWmcfgWrite h
  · exact .execWatchCfgWrite h
  · exact .execSnap h
  · exact .execTpoArm h
  · exact .execSobjHandWrite h
  · exact .execSobjcfgWrite h
  · exact .execVmapWrite h
  · exact .execMboxWrite h
  · exact .execCvuStart h
  · exact .execCvuFinish h
  · exact .execCvuDataWrite h
  · exact .execCvuValueWrite h
  · exact .execCvuPosnWrite h
  · exact .execCvuExpectWrite h
  · exact .execCvuOwnerWrite h
  · exact .execCvuAliveCountWrite h
  · exact .execDebugAttach h
  · exact .execFaultInjection h
  · exact .execDebugHalt h
  · exact .execDebugStep h
  · exact .execDebugResume h
  · exact .execRegisterWrite h
  · exact .execUnlistedInstruction h
  · exact .execLowHalfRead h
  · exact .execGptpMessageInterval h

/-! ### The operations of Machine/Step.lean -/

theorem Step.Tidy.step {s : State} (h : s.Tidy) : Step.Tidy (step s) := by
  unfold Machine.step
  split
  · exact .next (.tick h)
  · exact .exec (.update h)

theorem State.Tidy.withFetchWord {s : State} {nbits w : ℕ} (h : s.Tidy) : (s.withFetchWord nbits w).Tidy := by
  unfold State.withFetchWord
  split
  · exact .update h
  · exact h

end Sys2Proof.Machine
end

section
-- One proof after another: what waits for another costs the check memory.
set_option Elab.async false
/-! SUPPORT. Every command answers a next state, and every step keeps the canonical form (O1, O4). -/
namespace Sys2Proof.Machine

/-- Settles O1: the meaning of every command answers a next state, by its definition. -/
theorem stepRunsFrontCommand : Obligations.StepRunsFrontCommand := by
  refine ⟨fun c rest s h => by rw [step, h], fun c s => ?_⟩
  cases c <;> exact ⟨_, rfl⟩

/-- Settles O4: every operation of the model keeps the canonical form (the lemmas `Tidy`), so a step does. -/
theorem stepKeepsCanonical : Obligations.StepKeepsCanonical := by
  intro s t hs h
  obtain ⟨u, hu, ht⟩ := Step.Tidy.step (s := s) hs
  cases h.symm.trans hu
  exact ht

end Sys2Proof.Machine
end

section
-- One proof after another: what waits for another costs the check memory.
set_option Elab.async false
/-! SUPPORT. The block at power-on: the reset words of the register table (O2; R14, R18, R100). -/
namespace Sys2Proof.Machine

/-! ### The reset words of the register table -/

/-- The fields of a row read their reset values in its reset word: they do not overlap, and each value fits its field (R14, R18). -/
def RegRow.resets (r : RegRow) : Bool :=
  r.fields.all (fun f => (BitVec.ofNat 64 (resetWord r.fields)).toNat / 2 ^ f.lo % 2 ^ f.w == f.reset)

theorem mem_of_rowAt {l : List RegRow} {off : Nat} {r : RegRow} {b : Nat} (h : rowAt l off = some (r, b)) : r ∈ l := by
  induction l with
  | nil => cases h
  | cons x l ih =>
    rw [rowAt] at h
    split at h
    · exact List.mem_cons_of_mem _ (ih h)
    · split at h
      · exact List.mem_cons_of_mem _ (ih h)
      · next b' _ =>
        by_cases hb : b' < (if x.wide then 8 else 4)
        · rw [if_pos hb] at h
          cases h
          exact List.mem_cons_self
        · rw [if_neg hb] at h
          exact List.mem_cons_of_mem _ (ih h)

theorem resets_device : rowsDEVICE.all RegRow.resets = true := by decide +kernel
theorem resets_safety : rowsSAFETY.all RegRow.resets = true := by decide +kernel
theorem resets_safeio : rowsSAFEIO.all RegRow.resets = true := by decide +kernel
theorem resets_watch : rowsWATCH.all RegRow.resets = true := by decide +kernel
theorem resets_sundial : rowsSUNDIAL.all RegRow.resets = true := by decide +kernel
theorem resets_bell : rowsBELL.all RegRow.resets = true := by decide +kernel
theorem resets_keep : rowsKEEP.all RegRow.resets = true := by decide +kernel
theorem resets_nvm : rowsNVM.all RegRow.resets = true := by decide +kernel
theorem resets_cvu : rowsCVU.all RegRow.resets = true := by decide +kernel
theorem resets_tap : rowsTAP.all RegRow.resets = true := by decide +kernel
theorem resets_part : rowsPART.all RegRow.resets = true := by decide +kernel
theorem resets_memc : rowsMEMC.all RegRow.resets = true := by decide +kernel
theorem resets_pcie : rowsPCIE.all RegRow.resets = true := by decide +kernel
theorem resets_pciea : rowsPCIEA.all RegRow.resets = true := by decide +kernel
theorem resets_eth : rowsETH.all RegRow.resets = true := by decide +kernel
theorem resets_can : rowsCAN.all RegRow.resets = true := by decide +kernel
theorem resets_nim : rowsNIM.all RegRow.resets = true := by decide +kernel
theorem resets_pwr : rowsPWR.all RegRow.resets = true := by decide +kernel
theorem resets_dbg : rowsDBG.all RegRow.resets = true := by decide +kernel
theorem resets_verd : rowsVERD.all RegRow.resets = true := by decide +kernel
theorem resets_hearth : rowsHEARTH.all RegRow.resets = true := by decide +kernel
theorem resets_core : rowsCORE.all RegRow.resets = true := by decide +kernel
theorem resets_pond : rowsPOND.all RegRow.resets = true := by decide +kernel

/-- Every page's rows read their reset values. -/
theorem resets_pageRows (off : Nat) : (pageRows off).all RegRow.resets = true := by
  unfold pageRows
  split
  case h_13 => rw [List.all_append, resets_pcie, resets_pciea]; rfl
  case h_22 =>
    split_ifs
    exacts [resets_core, resets_pond, rfl]
  exacts [resets_device, resets_safety, resets_safeio, resets_watch, resets_sundial, resets_bell, resets_keep, resets_nvm,
    resets_cvu, resets_tap, resets_part, resets_memc, resets_pcie, resets_eth, resets_can, resets_nim, resets_pwr, resets_dbg,
    resets_verd, resets_hearth]

theorem fields_regReset {off : Nat} {r : RegRow} (h : regAt off = some (r, 0)) (f : FieldRow) (hf : f ∈ r.fields) :
    (regReset off).toNat / 2 ^ f.lo % 2 ^ f.w = f.reset := by
  have hr := List.all_eq_true.1 (List.all_eq_true.1 (resets_pageRows off) r (mem_of_rowAt h)) f hf
  rw [regReset, h]
  exact beq_iff_eq.1 hr

/-- Settles O2: no register is stored at power-on, so each reads its Reset column. -/
theorem resetState : Obligations.ResetState := by
  refine ⟨State.canonical_reset, rfl, by decide, rfl, fun off r h f hf => fields_regReset h f hf, fun c => ?_, rfl, rfl, rfl, rfl,
    rfl, fun a => rfl⟩
  refine ⟨rfl, fun q => ?_, rfl, fun q _ h0 => ?_⟩
  · exact ite_self 0
  · exact Bool.or_eq_false_iff.2 ⟨beq_false_of_ne h0, BitVec.getLsbD_zero⟩

end Sys2Proof.Machine
end

section
-- One proof after another: what waits for another costs the check memory.
set_option Elab.async false
/-! SUPPORT. A tick of SUN: what its counters leave, and what it does to each core (O3; R221, R262, R614). -/
namespace Sys2Proof.Machine

/-! ### Loops over an index -/

/-- What each turn of a loop leaves as it is, the loop leaves. -/
theorem State.iter_proj {α : Type} (p : State → α) (s : State) (n : Nat) (g : Nat → State → State) (hg : ∀ i t, p (g i t) = p t) :
    p (s.iter n g) = p s := by
  induction n with
  | zero => rfl
  | succ n ih => rw [State.iter_succ, hg, ih]

/-- A loop that changes core `i` in turn `i` changes each core once. -/
theorem State.core_iter_modCore (s : State) (n : Nat) (g : Core → Core) (m : Nat) :
    (s.iter n (fun i s => s.modCore i g)).core m = if m < n then g (s.core m) else s.core m := by
  induction n generalizing m with
  | zero => rfl
  | succ n ih =>
    rw [State.iter_succ, State.core_modCore, ih, ih]
    by_cases h : m = n
    · rw [if_pos h, h, if_neg (lt_irrefl n), if_pos (Nat.lt_succ_self n)]
    · rw [if_neg h]
      exact if_congr (by omega) rfl rfl

/-! ### A tick of SUN -/

/-- What no counter of a tick changes: the cores, TB2, the queue, memory, the fabric, the jobs and the device's state. -/
def State.still (s : State) := (s.core, s.tb2, s.pending, s.mem, s.fab, s.jobs, s.dev)

theorem State.still_tickSamples (s : State) (t0 : Nat) : (s.tickSamples t0).still = s.still := by
  unfold State.tickSamples
  split
  · rfl
  · exact State.iter_proj _ _ _ _ fun _ _ => State.iter_proj _ _ _ _ fun _ _ => rfl

theorem State.still_tickWatch (s : State) (t0 : Nat) : (s.tickWatch t0).still = s.still := by
  refine State.iter_proj _ _ _ _ fun i t => ?_
  dsimp only
  split_ifs <;> rfl

theorem State.still_tickWithheld (s : State) : s.tickWithheld.still = s.still := by
  refine State.iter_proj _ _ _ _ fun i t => State.iter_proj _ _ _ _ fun j u => ?_
  dsimp only
  split_ifs <;> rfl

theorem State.still_tickBusy (s : State) : s.tickBusy.still = s.still := by
  refine State.iter_proj _ _ _ _ fun i t => ?_
  split
  · split
    · split <;> rfl
    · rfl
  · rfl

/-- The time bases 0 and 1 advance without TB2. -/
theorem State.still_tickBase (s : State) {n : Nat} (hn : n ≠ 2) : (s.tickBase n).still = s.still := by
  unfold State.tickBase
  split
  · rfl
  · simp only [State.still, State.tb2, SMap.get_set, if_neg hn.symm]
    rfl

/-- The time bases and the pulse outputs after a tick. -/
def State.tickTimes (s : State) : State :=
  let t := (({ s with sun := { s.sun with
    tb := SMap.set (fun _ => 0) s.sun.tb 2 (if s.reeve.inReset then s.tb2 else s.tb2 + 4) } } : State).tickBase 0).tickBase 1
  { t with pins := { t.pins with
    tpo := ((List.range 4).filter (fun k => bit t.pins.tpo k &&
      t.tb2 < SMap.get (fun _ => 0) t.sun.tpoUntil k)).foldl (fun m k => m + 2 ^ k) 0 } }

theorem State.tick_eq {s : State} (h : s.dev.off = false) : s.tick =
    (((s.tickTimes.iter 16 (fun n s => s.modCore n Core.tick)).tickBusy.tickWithheld).tickWatch s.tb2).tickSamples s.tb2 := by
  unfold State.tick
  rw [if_neg (by simp [h])]
  rfl

theorem State.still_tickTimes (s : State) : s.tickTimes.still =
    (s.core, if s.reeve.inReset then s.tb2 else s.tb2 + 4, s.pending, s.mem, s.fab, s.jobs, s.dev) := by
  change State.still ((State.tickBase _ 0).tickBase 1) = _
  rw [State.still_tickBase _ (by decide), State.still_tickBase _ (by decide)]
  simp only [State.still, State.tb2, SMap.get_set, if_pos]
  rfl

/-- The counters of a tick change none of what `State.still` reads. -/
theorem State.still_tick {s : State} (h : s.dev.off = false) :
    s.tick.still = (s.tickTimes.iter 16 (fun n s => s.modCore n Core.tick)).still := by
  rw [State.tick_eq h, State.still_tickSamples, State.still_tickWatch, State.still_tickWithheld, State.still_tickBusy]

theorem State.core_tick {s : State} (h : s.dev.off = false) (c : CoreId) : s.tick.core c = (s.core c).tick := by
  have hcore (t : State) : t.still.1 = t.core := rfl
  have hc := congrArg Prod.fst (State.still_tick h)
  have h0 : s.tickTimes.core = s.core := congrArg Prod.fst (State.still_tickTimes s)
  rw [hcore, hcore] at hc
  calc s.tick.core c = (s.tickTimes.iter 16 (fun n s => s.modCore n Core.tick)).core c := congrFun hc c
    _ = (s.tickTimes.core c).tick :=
      (State.core_iter_modCore s.tickTimes 16 Core.tick c).trans (if_pos c.isLt)
    _ = (s.core c).tick := by rw [h0]

/-- A tick in which the block is on: TB2 advances, and all but the cores and the counters stands still. -/
theorem State.tick_rest {s : State} (h : s.dev.off = false) : s.tick.still.2 =
    (if s.reeve.inReset then s.tb2 else s.tb2 + 4, s.pending, s.mem, s.fab, s.jobs, s.dev) := by
  rw [State.still_tick h]
  exact (State.iter_proj (fun t => t.still.2) s.tickTimes 16 (fun n s => s.modCore n Core.tick) fun _ _ => rfl).trans
    (congrArg Prod.snd (State.still_tickTimes s))

theorem Core.tick_held {k : Core} (h : k.stw = .held) : k.tick = k := if_pos h

/-- A core that is not held counts six cycles; its program's last ones make SLOT_OVERRUN pending (R221, R262). -/
theorem Core.tick_runs {k : Core} (h : k.stw ≠ .held) : k.tick.rdCsr 0x20 = k.rdCsr 0x20 + 6 ∧ k.tick.pc = k.pc ∧
    (∀ q, k.tick.sreg q = k.sreg q) ∧ k.tick.pend = (let left := (k.rdCsr 0x30).toNat
      if k.slot.any (fun r => !r.exited) && decide (0 < left ∧ left ≤ 6) then { k.pend with slotOverrun := true } else k.pend) := by
  have h30 : (k.wrCsr 0x20 (k.rdCsr 0x20 + 6)).rdCsr 0x30 = k.rdCsr 0x30 := by simp
  have h20 : ∀ v, ((k.wrCsr 0x20 (k.rdCsr 0x20 + 6)).wrCsr 0x30 v).rdCsr 0x20 = k.rdCsr 0x20 + 6 := by simp
  have h0 : (k.wrCsr 0x20 (k.rdCsr 0x20 + 6)).rdCsr 0x20 = k.rdCsr 0x20 + 6 := by simp
  unfold Core.tick
  rw [if_neg h]
  dsimp only
  rw [h30]
  cases hs : k.slot with
  | none => 
    rw [show (k.wrCsr 0x20 (k.rdCsr 0x20 + 6)).slot = none from hs]
    exact ⟨h0, rfl, fun _ => rfl, rfl⟩
  | some run =>
    have hp : (run.exited || (k.rdCsr 0x30).toNat == 0) = true ∨ 6 < (k.rdCsr 0x30).toNat →
        ¬ ((some run).any (fun r => !r.exited) && decide (0 < (k.rdCsr 0x30).toNat ∧ (k.rdCsr 0x30).toNat ≤ 6)) = true := by
      simp only [Bool.or_eq_true, beq_iff_eq, Option.any_some, Bool.and_eq_true, Bool.not_eq_true', decide_eq_true_eq]
      rintro ((h | h) | h) ⟨h', h1, h2⟩
      · simp [h] at h'
      all_goals omega
    rw [show (k.wrCsr 0x20 (k.rdCsr 0x20 + 6)).slot = some run from hs]
    dsimp only
    by_cases h1 : (run.exited || (k.rdCsr 0x30).toNat == 0) = true
    · rw [if_pos h1, if_neg (hp (.inl h1))]
      exact ⟨h0, rfl, fun _ => rfl, rfl⟩
    by_cases h2 : 6 < (k.rdCsr 0x30).toNat
    · rw [if_neg h1, if_pos h2, if_neg (hp (.inr h2))]
      exact ⟨h20 _, rfl, fun _ => rfl, rfl⟩
    · rw [if_neg h1, if_neg h2, if_pos]
      · exact ⟨h20 0, rfl, fun _ => rfl, rfl⟩
      · simp only [Bool.or_eq_true, beq_iff_eq, not_or, Bool.not_eq_true] at h1
        simp [h1.1]
        omega
/-- Settles O3. -/
theorem idleTick : Obligations.IdleTick := by
  intro s hs
  have hstep : step s = .next s.tick := by
    unfold step
    rw [hs]
  refine ⟨fun hoff => ?_, fun hon => ⟨_, hstep, ?_⟩⟩
  · rw [hstep, State.tick, if_pos hoff]
  · have hr := State.tick_rest hon
    simp only [State.still, Prod.mk.injEq] at hr
    obtain ⟨htb, hpend, hmem, hfab, hjobs, hdev⟩ := hr
    refine ⟨htb, hpend.trans hs, hmem, hfab, hjobs, hdev, fun c => ?_⟩
    rw [State.core_tick hon c]
    exact ⟨Core.tick_held, Core.tick_runs⟩

end Sys2Proof.Machine
end

section
-- One proof after another: what waits for another costs the check memory.
set_option Elab.async false
/-! SUPPORT. The Steward's ordinary instructions: what a run of one leaves, and the results of class 0 -/
namespace Sys2Proof.Machine

/-! ### Instructions that only change their core -/

/-- A change of a core depends only on what it makes of the core as it is. -/
theorem State.modCore_congr {s : State} {n : Nat} {g h : Core → Core} (e : g (s.core n) = h (s.core n)) : s.modCore n g = s.modCore n h := by
  rw [State.modCore, e, State.modCore]

@[simp] theorem State.core_modCore_same (s : State) (n : Nat) (g : Core → Core) : (s.modCore n g).core n = g (s.core n) := by
  rw [State.core_modCore, if_pos rfl]

theorem State.retired_congr {s : State} {c : CoreId} {f : IFields} {g h : Core → Core} (e : g (s.core c).fetched = h (s.core c).fetched) :
    s.retired c f g = s.retired c f h := by
  rw [State.retired, State.modCore_congr (h := h) (by rw [State.core_modCore_same, e]), State.retired]

theorem Core.a_fetched (k : Core) (f : IFields) : k.fetched.a f = k.a f := k.sreg_fetched _
theorem Core.b_fetched (k : Core) (f : IFields) : k.fetched.b f = k.b f := k.sreg_fetched _
theorem Core.d_fetched (k : Core) (f : IFields) : k.fetched.d f = k.d f := k.sreg_fetched _

/-- An instruction that is legal and only changes its core retires with that change. -/
theorem State.runInstr_done {s : State} {c : CoreId} {f : IFields} {lvl : Priv} {ser legal : Bool} (h : s.Ready c f lvl ser)
    (hl : legal = true) (g g' : Core → Core) (e : g (s.core c).fetched = g' (s.core c).fetched) :
    s.runInstr c f lvl ser legal (fun s => .done (s.modCore c g)) = s.retired c f g' := by
  rw [State.runInstr_ready h hl, ← State.retired_congr e]
  rfl

/-- A command's meaning that runs an instruction which only changes its core. -/
theorem next_runInstr_done {s : State} {c : CoreId} {f : IFields} {lvl : Priv} {ser legal : Bool} (h : s.Ready c f lvl ser)
    (hl : legal = true) {g g' : Core → Core} (e : g (s.core c).fetched = g' (s.core c).fetched) :
    (.next (s.runInstr c f lvl ser legal (fun s => .done (s.modCore c g))) : Step) = .next (s.retired c f g') :=
  congrArg _ (State.runInstr_done h hl g g' e)

/-! ### Class 0 -/

/-- What a class 0 operation answers from its two forms, by W (R223). -/
def State.wResult (s : State) (c : CoreId) (f : IFields) (x : Word) (y : BitVec 32) : Step :=
  .next (s.retired c f (fun k => k.setS f.dst.toNat (if f.mod.getLsbD 2 then y.signExtend 64 else x)))

section
variable {c : CoreId} {f : IFields} {s : State} (h : s.Ready c f .u false) (hx : f.hasExt = false)
include h hx

theorem execAlu_ready (hm : f.mod.toNat % 4 = 0) (g : Word → Word → Word) (g' : BitVec 32 → BitVec 32 → BitVec 32) :
    let a := (s.core c).sreg f.srcA.toNat
    let b := (s.core c).sreg f.srcB.toNat
    execAlu g g' c f s = s.wResult c f (g a b) (g' (a.setWidth 32) (b.setWidth 32)) :=
  next_runInstr_done h (by simp [aluLegal, hx, hm]) (by rw [Core.a_fetched, Core.b_fetched]; rfl)

theorem execAlu1_ready (hm : f.mod.toNat % 4 = 0) (hb : f.srcB = 0) (g : Word → Word) (g' : BitVec 32 → BitVec 32) :
    let a := (s.core c).sreg f.srcA.toNat
    execAlu1 g g' c f s = s.wResult c f (g a) (g' (a.setWidth 32)) :=
  next_runInstr_done h (by simp [aluLegal, hx, hm, hb]) (by rw [Core.a_fetched]; rfl)

/-- A division whose divisor is not 0 in its form has its result (R223). -/
theorem execDivide_ready (hm : f.mod.toNat % 4 = 0) (g : Word → Word → Word) (g' : BitVec 32 → BitVec 32 → BitVec 32) :
    let a := (s.core c).sreg f.srcA.toNat
    let b := (s.core c).sreg f.srcB.toNat
    (if f.mod.getLsbD 2 then (b.setWidth 32).toNat ≠ 0 else b.toNat ≠ 0) →
      execDivide g g' c f s = s.wResult c f (g a b) (g' (a.setWidth 32) (b.setWidth 32)) := by
  intro a b hb
  have hz : (if f.mod.getLsbD 2 then b.setWidth 32 == (0 : BitVec 32) else b == 0) = false := by
    split_ifs at hb ⊢ <;> exact beq_false_of_ne fun e => hb (by rw [e]; rfl)
  refine Eq.trans ?_ (execAlu_ready h hx hm g g')
  unfold execDivide execAlu
  rw [State.runInstr_ready h (by simp [aluLegal, hx, hm]), State.runInstr_ready h (by simp [aluLegal, hx, hm]),
    State.core_modCore_same, Core.b_fetched]
  dsimp only
  rw [if_neg (by rw [Bool.not_eq_true]; exact hz)]

/-- A division by 0 raises ARITH in both forms (R223). -/
theorem execDivide_zero (hm : f.mod.toNat % 4 = 0) (g : Word → Word → Word) (g' : BitVec 32 → BitVec 32 → BitVec 32) :
    let b := (s.core c).sreg f.srcB.toNat
    (if f.mod.getLsbD 2 then b.toNat % 2 ^ 32 = 0 else b = 0) →
      execDivide g g' c f s = .next ((s.modCore c Core.fetched).raise c (.sync 0x08) (s.core c).pc) := by
  intro b hb
  have hz : (if f.mod.getLsbD 2 then b.setWidth 32 == (0 : BitVec 32) else b == 0) = true := by
    split_ifs at hb ⊢
    · exact beq_iff_eq.2 (BitVec.eq_of_toNat_eq (by simpa using hb))
    · exact beq_iff_eq.2 hb
  unfold execDivide
  rw [State.runInstr_ready h (by simp [aluLegal, hx, hm]), State.core_modCore_same, Core.b_fetched]
  dsimp only
  rw [if_pos (by exact hz)]
  rfl

theorem execSel_ready : execSel c f s = .next (s.retired c f (fun k => k.setS f.dst.toNat
    (if (s.core c).preg f.low3 then (s.core c).sreg f.srcA.toNat else (s.core c).sreg f.srcB.toNat))) :=
  next_runInstr_done h (by simp [hx]) (by rw [Core.a_fetched, Core.b_fetched, Core.preg_fetched]; rfl)

end

/-! ### The functions of class 0 -/

theorem minS_eq {w : Nat} (a b : BitVec w) : minS a b = if b.toInt < a.toInt then b else a := by simp [minS, BitVec.slt]
theorem maxS_eq {w : Nat} (a b : BitVec w) : maxS a b = if a.toInt < b.toInt then b else a := by simp [maxS, BitVec.slt]
theorem minU_eq {w : Nat} (a b : BitVec w) : minU a b = if b.toNat < a.toNat then b else a := by simp [minU, BitVec.ult]
theorem maxU_eq {w : Nat} (a b : BitVec w) : maxU a b = if a.toNat < b.toNat then b else a := by simp [maxU, BitVec.ult]

/-- Signed division truncates toward zero, and the least value by −1 gives the least value. -/
theorem sdiv_eq_ofInt {w : Nat} (a b : BitVec w) : a.sdiv b = BitVec.ofInt w (a.toInt.tdiv b.toInt) :=
  BitVec.eq_of_toInt_eq (by rw [BitVec.toInt_sdiv, BitVec.toInt_ofInt])

theorem srem_eq_ofInt {w : Nat} (a b : BitVec w) : a.srem b = BitVec.ofInt w (a.toInt.tmod b.toInt) := by
  rw [← BitVec.toInt_srem, BitVec.ofInt_toInt]

theorem udiv_eq_ofNat {w : Nat} (a b : BitVec w) : a / b = BitVec.ofNat w (a.toNat / b.toNat) :=
  BitVec.eq_of_toNat_eq (by rw [BitVec.toNat_udiv, BitVec.toNat_ofNat, Nat.mod_eq_of_lt ((Nat.div_le_self _ _).trans_lt a.isLt)])

theorem umod_eq_ofNat {w : Nat} (a b : BitVec w) : a % b = BitVec.ofNat w (a.toNat % b.toNat) :=
  BitVec.eq_of_toNat_eq (by rw [BitVec.toNat_umod, BitVec.toNat_ofNat, Nat.mod_eq_of_lt ((Nat.mod_le _ _).trans_lt a.isLt)])

/-- How many zeros stand above the highest set bit of a number of `w` bits. -/
def zerosAbove (w x : Nat) : Nat := w - (if x = 0 then 0 else x.log2 + 1)

theorem zerosAbove_bounds {w x : Nat} (hx : x ≠ 0) (hw : x < 2 ^ w) :
    zerosAbove w x ≤ w - 1 ∧ 2 ^ (w - 1 - zerosAbove w x) ≤ x ∧ x < 2 ^ (w - zerosAbove w x) := by
  have hl : x.log2 < w := (Nat.log2_lt hx).2 hw
  rw [zerosAbove, if_neg hx, show w - 1 - (w - (x.log2 + 1)) = x.log2 by omega, show w - (w - (x.log2 + 1)) = x.log2 + 1 by omega]
  exact ⟨by omega, Nat.log2_self_le hx, Nat.lt_log2_self⟩

theorem zerosAbove_le (w x : Nat) : zerosAbove w x ≤ w := Nat.sub_le _ _

/-- A small number of 32 bits is not changed by the extension of its sign. -/
theorem signExtend_ofNat {n : Nat} (hn : n < 2 ^ 31) : (BitVec.ofNat 32 n).signExtend 64 = w64 n := by
  rw [BitVec.signExtend_eq_setWidth_of_msb_false (by rw [BitVec.msb_eq_false_iff_two_mul_lt]; simp; omega)]
  exact BitVec.eq_of_toNat_eq (by simp [w64]; omega)

/-- The bits of a word cut to half its width. -/
theorem filter_setWidth (a : Word) : (List.range 32).filter (fun i => (a.setWidth 32).getLsbD i) = (List.range 32).filter (fun i => a.getLsbD i) :=
  List.filter_congr fun i hi => by simp [List.mem_range.1 hi]

/-- Settles O7. -/
theorem integerResults : Obligations.IntegerResults := by
  refine ⟨?_, ?_, ?_⟩
  · intro c f s h hm hx a b a' b' r
    have alu := execAlu_ready h hx hm
    refine ⟨alu _ _, alu _ _, alu _ _, alu _ _, alu _ _, alu _ _, alu _ _, alu _ _, alu _ _, alu _ _, alu _ _, ?_, ?_, ?_, ?_⟩
    · refine (alu minS minS).trans ?_
      rw [minS_eq, minS_eq]
      rfl
    · refine (alu maxS maxS).trans ?_
      rw [maxS_eq, maxS_eq]
      rfl
    · refine (alu minU minU).trans ?_
      rw [minU_eq, minU_eq]
      rfl
    · refine (alu maxU maxU).trans ?_
      rw [maxU_eq, maxU_eq]
      rfl
  · intro c f s h hx a b r
    refine ⟨fun hm hb => ⟨fun hw => ?_, fun hw => ?_⟩, execSel_ready h hx⟩
    · have one (g : Word → Word) (g' : BitVec 32 → BitVec 32) : execAlu1 g g' c f s = r (g a) := by
        rw [execAlu1_ready h hx hm hb, State.wResult, hw]
        rfl
      refine ⟨zerosAbove 64 a.toNat, _, one clz clz, one popc popc, fun ha => by rw [ha]; rfl, fun ha => ?_, rfl⟩
      exact zerosAbove_bounds (fun e => ha (BitVec.eq_of_toNat_eq e)) a.isLt
    · have one (g : Word → Word) (g' : BitVec 32 → BitVec 32) {n : Nat} (hn : n < 2 ^ 31)
          (hg : g' (a.setWidth 32) = BitVec.ofNat 32 n) : execAlu1 g g' c f s = r (w64 n) := by
        rw [execAlu1_ready h hx hm hb, State.wResult, hw, hg, signExtend_ofNat hn]
        rfl
      have ha : (a.setWidth 32).toNat = a.toNat % 2 ^ 32 := BitVec.toNat_setWidth ..
      have hn : zerosAbove 32 (a.toNat % 2 ^ 32) ≤ 32 := zerosAbove_le _ _
      have hm : ((List.range 32).filter (fun i => a.getLsbD i)).length ≤ 32 := by
        simpa using List.length_filter_le (fun i => a.getLsbD i) (List.range 32)
      refine ⟨zerosAbove 32 (a.toNat % 2 ^ 32), _, one clz clz (by omega) (by rw [clz, ha]; rfl),
        one popc popc (n := ((List.range 32).filter (fun i => a.getLsbD i)).length) (by omega) (by rw [popc, filter_setWidth]),
        fun h0 => by rw [h0]; rfl, fun h0 => zerosAbove_bounds h0 (Nat.mod_lt _ (by decide)), rfl⟩
  · intro c f s h hm hx a b a' b' r hb
    have hd := fun g g' => execDivide_ready h hx hm g g' hb
    refine ⟨(hd BitVec.sdiv BitVec.sdiv).trans ?_, (hd BitVec.srem BitVec.srem).trans ?_, (hd (· / ·) (· / ·)).trans ?_,
      (hd (· % ·) (· % ·)).trans ?_⟩
    · rw [sdiv_eq_ofInt, sdiv_eq_ofInt]
      rfl
    · rw [srem_eq_ofInt, srem_eq_ofInt]
      rfl
    · rw [udiv_eq_ofNat, udiv_eq_ofNat]
      rfl
    · rw [umod_eq_ofNat, umod_eq_ofNat]
      rfl

end Sys2Proof.Machine
end

section
-- One proof after another: what waits for another costs the check memory.
set_option Elab.async false
/-! SUPPORT. Predicates and immediates -/
namespace Sys2Proof.Machine

/-! ### Predicates -/

/-- A change of a core that leaves it as it is, as that of p0 does (R212). -/
theorem State.retired_setP_zero (s : State) (c : CoreId) (f : IFields) (v : Bool) :
    s.retired c f (fun k => k.setP 0 v) = s.retired c f id := State.retired_congr rfl

theorem cmpCond_eq (n : Nat) (a b : Word) : cmpCond n a b = (match n with
    | 0 => a == b
    | 1 => a != b
    | 2 => a.toInt < b.toInt
    | 3 => b.toInt ≤ a.toInt
    | 4 => a.toNat < b.toNat
    | _ => b.toNat ≤ a.toNat) := by
  unfold cmpCond
  split <;> simp only [BitVec.slt, BitVec.ult, ← decide_not, not_lt]

theorem getLsbD_of_pset (a : Word) {q : Nat} (h1 : 1 ≤ q) (h8 : q < 8) : (a.setWidth 8 &&& 0xFE).getLsbD q = a.getLsbD q := by
  have hm : (0xFE : BitVec 8).getLsbD q = true := by interval_cases q <;> decide
  rw [BitVec.getLsbD_and, hm, Bool.and_true, BitVec.getLsbD_setWidth, decide_eq_true h8, Bool.true_and]

/-- The word of MOVHI as a number. -/
theorem append_setWidth_eq (x : BitVec 32) (d : Word) : x ++ d.setWidth 32 = w64 (x.toNat * 2 ^ 32 + d.toNat % 2 ^ 32) := by
  refine BitVec.eq_of_toNat_eq ?_
  have hd : d.toNat % 2 ^ 32 < 2 ^ 32 := Nat.mod_lt _ (by decide)
  have hx := x.isLt
  have hlt : x.toNat * 2 ^ 32 + d.toNat % 2 ^ 32 < 2 ^ 64 := by omega
  rw [BitVec.toNat_append, BitVec.toNat_setWidth, ← Nat.shiftLeft_add_eq_or_of_lt hd, Nat.shiftLeft_eq,
    w64, BitVec.toNat_ofNat, Nat.mod_eq_of_lt hlt]

section
variable {c : CoreId} {f : IFields} {s : State} (h : s.Ready c f .u false)
include h

theorem execImm_ready (hi : f.immOk = true) (g : Word → Word → Word) : execImm g c f s =
    .next (s.retired c f (fun k => k.setS f.dst.toNat (g ((s.core c).sreg f.srcA.toNat) f.imm))) :=
  next_runInstr_done h hi (by rw [Core.a_fetched]; rfl)

theorem execShiftImm_ready (hx : f.hasExt = false) (hi : f.imm8 < 64) (g : Word → Nat → Word) : execShiftImm g c f s =
    .next (s.retired c f (fun k => k.setS f.dst.toNat (g ((s.core c).sreg f.srcA.toNat) f.imm8))) :=
  next_runInstr_done h (by simp [hx, hi]) (by rw [Core.a_fetched]; rfl)

theorem execCmpImm_ready (hi : f.immOk = true) (hd : f.dst.toNat < 8) (n : Nat) : execCmpImm n c f s =
    .next (s.retired c f (fun k => k.setP f.dst.toNat (cmpCond n ((s.core c).sreg f.srcA.toNat) f.imm))) :=
  next_runInstr_done h (by simp [hi, hd]) (by rw [Core.a_fetched]; rfl)

theorem execCmp_ready (hx : f.hasExt = false) (hd : f.dst.toNat < 8) (hl : f.low3 < 6) : execCmp c f s =
    .next (s.retired c f (fun k => k.setP f.dst.toNat
      (cmpCond f.low3 ((s.core c).sreg f.srcA.toNat) ((s.core c).sreg f.srcB.toNat)))) :=
  next_runInstr_done h (by simp [hx, hd, hl]) (by rw [Core.a_fetched, Core.b_fetched]; rfl)

theorem execPlog_ready (hx : f.hasExt = false) (hl : f.low3 < 4) : execPlog c f s =
    .next (s.retired c f (fun k => k.setP (f.dst.toNat % 8)
      (plogOp f.low3 ((s.core c).preg (f.srcA.toNat % 8)) ((s.core c).preg (f.srcB.toNat % 8))))) :=
  next_runInstr_done h (by simp [hx, hl]) (by rw [Core.preg_fetched, Core.preg_fetched])

theorem execPget_ready (hx : f.hasExt = false) (ha : f.srcA = 0) (hb : f.srcB = 0) : execPget c f s =
    .next (s.retired c f (fun k => k.setS f.dst.toNat ((k.p ||| 1).setWidth 64))) := 
  next_runInstr_done h (by simp [hx, ha, hb]) (by rw [Core.preds, w64, BitVec.ofNat_toNat])

theorem execPset_ready (hx : f.hasExt = false) (hd : f.dst = 0) (hb : f.srcB = 0) : execPset c f s =
    .next (s.retired c f (fun k => { k with p := ((s.core c).sreg f.srcA.toNat).setWidth 8 &&& 0xFE })) :=
  next_runInstr_done h (by simp [hx, hd, hb]) (by rw [Core.a_fetched]; rfl)

theorem execMovhi_ready (hx : f.hasExt = true) (hi : f.immOk = true) (ha : f.srcA = 0) : execMovhi c f s =
    .next (s.retired c f (fun k => k.setS f.dst.toNat (f.ext ++ ((s.core c).sreg f.dst.toNat).setWidth 32))) :=
  next_runInstr_done h (by simp [hx, hi, ha]) (by rw [Core.d_fetched]; rfl)

theorem execAdpc_ready (hi : f.immOk = true) (ha : f.srcA = 0) : execAdpc c f s =
    .next (s.retired c f (fun k => k.setS f.dst.toNat ((s.core c).pc + f.imm))) :=
  next_runInstr_done h (by simp [hi, ha]) (by simp)

end

/-- Settles O8. -/
theorem predicateAndImmediateResults : Obligations.PredicateAndImmediateResults := by
  refine ⟨?_, ?_⟩
  · intro c f s h k a b set
    refine ⟨fun hx hd hl => (execCmp_ready h hx hd hl).trans ?_, fun hi hd => ?_, fun hx hl => execPlog_ready h hx hl,
      execPget_ready h, fun hx hd hb => ⟨_, execPset_ready h hx hd hb, rfl, fun q h1 h8 => ?_⟩, s.retired_setP_zero c f false⟩
    · rw [cmpCond_eq] <;> rfl
    · have cmp := fun n => (execCmpImm_ready h hi hd n).trans (by rw [cmpCond_eq])
      exact ⟨cmp 0, cmp 1, cmp 2, cmp 3, cmp 4, cmp 5⟩
    · have hp := getLsbD_of_pset a h1 h8
      have hq : (q == 0) = false := beq_false_of_ne (by omega)
      simp only [State.retired, State.advance, State.core_modCore_same, Core.preg, hq, Bool.false_or]
      exact hp
  · intro c f s h a imm r
    refine ⟨fun hi => ?_, fun hx hi => ?_, fun hx hi ha => ?_, execAdpc_ready h⟩
    · have op := fun g => execImm_ready h hi g
      exact ⟨op _, op _, op _, op _, op _⟩
    · have op := fun g => execShiftImm_ready h hx hi g
      exact ⟨op _, op _, op _⟩
    · rw [← append_setWidth_eq]
      exact execMovhi_ready h hx hi ha

end Sys2Proof.Machine
end

section
-- One proof after another: what waits for another costs the check memory.
set_option Elab.async false
/-! SUPPORT. Loads, the data cache and the cache instructions -/
namespace Sys2Proof.Machine

/-! ### What the control window alone decides -/

section
variable {s t : State} (h : t.regs = s.regs)
include h

theorem State.reg_congr (o : Nat) : t.reg o = s.reg o := by rw [State.reg, h, State.reg]
theorem State.fld_congr (f : Fld) : t.fld f = s.fld f := by rw [State.fld, State.reg_congr h, State.fld]
theorem State.flag_congr (f : Fld) : t.flag f = s.flag f := by rw [State.flag, State.fld_congr h, State.flag]
theorem State.hasNim_congr : t.hasNim = s.hasNim := State.flag_congr h _

theorem State.hitsCtl_congr (a n : Nat) : t.hitsCtl a n = s.hitsCtl a n := by
  unfold State.hitsCtl
  rw [State.hasNim_congr h, State.fld_congr h]

theorem State.dataOk_congr (p : Priv) (ws : List (Nat × Nat)) (w : Bool) (a n : Nat) : t.dataOk p ws w a n = s.dataOk p ws w a n := by
  unfold State.dataOk
  rw [State.hitsCtl_congr h]

theorem State.locLocal_congr (a : Nat) : locLocal t a = locLocal s a := by
  have hcore : t.hasCore = s.hasCore := funext fun n => by rw [State.hasCore, State.fld_congr h, State.hasCore]
  have hpond : t.hasPond = s.hasPond := funext fun n => by rw [State.hasPond, hcore, State.hasPond]
  unfold locLocal
  rw [hcore, hpond]

/-- Where an address leads. -/
theorem State.loc_congr (core : Option Nat) (a : Nat) : t.loc core a = s.loc core a := by
  have hl : locLocal t = locLocal s := funext (State.locLocal_congr h)
  unfold State.loc
  rw [State.hasNim_congr h, State.fld_congr h, hl]

/-- Which posted stores an access meets. -/
theorem State.storesOver_congr (hf : t.fab = s.fab) (c a n : Nat) : t.storesOver c a n = s.storesOver c a n := by
  have hl : t.loc = s.loc := funext fun c => funext fun a => State.loc_congr h c a
  unfold State.storesOver State.inFlight
  rw [hl, hf]

end

/-! ### Accesses that no rule refuses -/

/-- What memory answers does not depend on the cores. -/
theorem State.plain_modCore {s : State} {cls : Nat} {w : Bool} {pa n : Nat} {g : Core → Core} :
    (s.modCore n g).Plain cls w pa ↔ s.Plain cls w pa := Iff.rfl

/-- An access that no rule refuses changes nothing and is answered OK. -/
theorem State.checkMem_plain {s : State} {cls : Nat} {w : Bool} {pa : Nat} (h : s.Plain cls w pa) (m : Master) :
    s.checkMem m cls w pa = (s, .ok) := by
  obtain ⟨hfence, -, hdram, herr, hsh, hspm, hpoison⟩ := h
  have hread : s.readDram (if s.chUp (dramCh pa) then pa / 64 else pa / 64 + 0x4000000) = (s, .ok) := by
    unfold State.readDram
    split_ifs
    · rw [herr]
      rfl
    · rw [hsh]
      rfl
  have hsram : s.readSram (pa / 64) = (s, .ok) := by
    unfold State.readSram
    rw [hpoison, herr]
    rfl
  unfold State.checkMem
  rw [hfence]
  cases hd : isDram pa with
  | true =>
    rw [hdram hd]
    cases w with
    | true => rfl
    | false => exact hread
  | false =>
    have hwake : (if pa < 0x1004000000 then s.wakeSpm ((pa - 0x1000000000) / 0x200000) else s) = s := by
      split_ifs with hp
      · rw [State.wakeSpm, if_neg (hspm hd hp).2]
      · rfl
    simp only [Bool.not_true, Bool.false_eq_true, if_false]
    rw [if_neg fun hp => (hspm hd hp.1).1 hp.2, hwake]
    cases w with
    | true => rfl
    | false => exact hsram

/-! ### The data cache -/

/-- Two states that differ at most in the data cache of core `c` and in the model's counter. -/
structure State.CacheMoves (s t : State) (c : Nat) : Prop where
  core : ∃ d, t.core c = { s.core c with dcache := d }
  others : ∀ n, n ≠ c → t.core n = s.core n
  regs : t.regs = s.regs
  mem : t.mem = s.mem
  memGen : t.memGen = s.memGen
  fab : t.fab = s.fab

theorem State.CacheMoves.refl (s : State) (c : Nat) : s.CacheMoves s c := ⟨⟨_, rfl⟩, fun _ _ => rfl, rfl, rfl, rfl, rfl⟩

theorem State.CacheMoves.draw {s t : State} {c : Nat} (h : s.CacheMoves t c) : s.CacheMoves t.draw.2 c :=
  ⟨h.core, h.others, h.regs, h.mem, h.memGen, h.fab⟩

theorem State.CacheMoves.modCore {s t : State} {c : Nat} (h : s.CacheMoves t c) {g : Core → Core} (hg : ∀ k, ∃ d, g k = { k with dcache := d }) :
    s.CacheMoves (t.modCore c g) c := by
  obtain ⟨d, hd⟩ := h.core
  obtain ⟨d', hd'⟩ := hg (t.core c)
  refine ⟨⟨d', ?_⟩, fun n hn => ?_, h.regs, h.mem, h.memGen, h.fab⟩
  · rw [State.core_modCore_same, hd', hd]
  · rw [State.core_modCore, if_neg hn, h.others n hn]

/-- Filling a line touches nothing but the cache. -/
theorem State.CacheMoves.fillWay {s t : State} {c : Nat} (h : s.CacheMoves t c) (pa : Nat) (data : List Byte) :
    s.CacheMoves (t.fillWay c pa data) c := by
  unfold State.fillWay
  dsimp only
  split_ifs
  · exact h.modCore fun k => ⟨_, rfl⟩
  · exact h.draw.modCore fun k => ⟨_, rfl⟩

/-- The bytes of memory as another state with the same memory has them. -/
theorem State.CacheMoves.bytes {s t : State} {c : Nat} (h : s.CacheMoves t c) (a n : Nat) : t.bytes a n = s.bytes a n := by
  unfold State.bytes State.byte
  rw [h.mem, h.memGen]

/-- A load of memory that no rule refuses, whose line the cache holds as memory does or not at all, answers with memory's bytes. -/
theorem State.loadMem_plain {s : State} {c pa n : Nat} (hp : s.Plain (s.core c).cls false pa)
    (hc : ∀ l, (s.core c).cached pa = some l → (l.drop (pa % 64)).take n = s.bytes pa n) (cached : Bool) :
    ∃ t, s.loadMem c pa n cached = (t, .ok, s.bytes pa n) ∧ s.CacheMoves t c := by
  have hfill : ∃ t, (if cached then s.fillWay c pa (s.lineOf c pa) else s, MStat.ok, s.getMem pa n) = (t, MStat.ok, s.bytes pa n) ∧
      s.CacheMoves t c := by
    refine ⟨_, rfl, ?_⟩
    split_ifs
    · exact (State.CacheMoves.refl s c).fillWay pa _
    · exact State.CacheMoves.refl s c
  unfold State.loadMem
  dsimp only
  rw [State.checkMem_plain hp, if_neg (show ¬ (MStat.ok ≠ .ok) from fun h => h rfl)]
  cases hl : (if cached then (s.core c).cached pa else none) with
  | none => exact hfill
  | some l =>
    have hl' : (s.core c).cached pa = some l := by
      split_ifs at hl
      exact hl
    have hold := hc l hl'
    obtain ⟨hfence, -, hdram, herr, -, -, hpoison⟩ := hp
    dsimp only
    rw [if_pos ⟨hold, hfence, hdram, herr, hpoison⟩, hold]
    exact ⟨s, rfl, State.CacheMoves.refl s c⟩

/-- A fetch touches only the instruction cache. -/
theorem Core.fetched_eq (k : Core) : ∃ i, k.fetched = { k with icache := i } := by
  unfold Core.fetched
  dsimp only
  split
  · exact ⟨_, rfl⟩
  · exact ⟨_, rfl⟩

/-- A use of a core that does not look at its instruction cache sees the same before and after the fetch. -/
theorem Core.fetched_congr {α : Type} (g : Core → α) (hg : ∀ k i, g { k with icache := i } = g k) (k : Core) : g k.fetched = g k := by
  obtain ⟨i, hi⟩ := k.fetched_eq
  rw [hi, hg]

theorem IFields.memOff_eq (f : IFields) (n : Nat) :
    f.memOff n = if f.hasExt then f.ext.signExtend 64 else (BitVec.ofNat 8 f.imm8).signExtend 64 * BitVec.ofNat 64 n := by
  unfold IFields.memOff IFields.imm
  split_ifs <;> rfl

/-- What the checks of an access read of the core is the same after the fetch. -/
theorem Core.fetched_access (k : Core) : k.fetched.cls = k.cls ∧ k.fetched.wins = k.wins ∧ k.fetched.priv = k.priv ∧
    ∀ pa, k.fetched.cached pa = k.cached pa :=
  ⟨k.fetched_congr Core.cls fun _ _ => rfl, k.fetched_congr Core.wins fun _ _ => rfl, k.fetched_congr Core.priv fun _ _ => rfl,
    fun pa => k.fetched_congr (Core.cached · pa) fun _ _ => rfl⟩

/-- A load of memory that no rule refuses: what it leaves before it retires. -/
theorem execLoadN_plain {c : CoreId} {f : IFields} {s : State} (h : s.Ready c f .u false) (hi : f.immOk = true) {n pa : Nat}
    {av : Word} (hav : (s.core c).a f + f.memOff n = av)
    (halign : av.toNat % n = 0) (hok : s.dataOk (s.core c).priv (s.core c).wins false av.toNat n = true)
    (hover : s.storesOver c av.toNat n = false) (hloc : s.loc (some c) av.toNat = .mem pa)
    (hp : s.Plain (s.core c).cls false pa) (hc : ∀ l, (s.core c).cached pa = some l → (l.drop (pa % 64)).take n = s.bytes pa n)
    (kind : Nat) : ∃ u, (s.modCore c Core.fetched).CacheMoves u c ∧ execLoadN kind n c f s =
      .next ((u.modCore c (fun k => k.setS f.dst.toNat (loadValue kind (s.bytes pa n)))).advance c ((s.core c).pc + w64 f.len)) := by
  have hcore : (s.modCore c Core.fetched).core c = (s.core c).fetched := s.core_modCore_same c _
  obtain ⟨hcls, hwins, hpriv, hcached⟩ := (s.core c).fetched_access
  obtain ⟨u, hload, hu⟩ := State.loadMem_plain (s := s.modCore c Core.fetched) (c := c) (pa := pa) (n := n)
    (by rw [hcore, hcls]; exact hp) (by rw [hcore, hcached]; exact hc) (cachedAt av.toNat pa)
  refine ⟨u, hu, ?_⟩
  have hr : (s.modCore c Core.fetched).regs = s.regs := rfl
  have hok' : (s.modCore c Core.fetched).dataOk (s.core c).priv (s.core c).wins false av.toNat n = true := by rw [State.dataOk_congr hr, hok]
  have hover' : (s.modCore c Core.fetched).storesOver c av.toNat n = false := by rw [State.storesOver_congr hr rfl, hover]
  have hloc' : (s.modCore c Core.fetched).loc (some c) av.toNat = .mem pa := by rw [State.loc_congr hr, hloc]
  have hkey : (s.modCore c Core.fetched).keyWait pa = false := hp.2.1
  unfold execLoadN
  rw [State.runInstr_ready h hi, hcore]
  dsimp only
  rw [Core.a_fetched, hwins, hpriv, hav, if_neg (fun hx => hx halign), hok', hover', hloc']
  dsimp only
  rw [hkey, hload]
  rfl

/-- What the Steward shows after an instruction that moved only its cache, wrote one register and retired. -/
theorem State.CacheMoves.retired {s u : State} {c : CoreId} (hu : (s.modCore c Core.fetched).CacheMoves u c) (r : Nat) (v pc : Word) :
    let t := (u.modCore c (fun k => k.setS r v)).advance c pc
    (t.core c).pc = pc ∧ (t.core c).priv = (s.core c).priv ∧ (∀ q, (t.core c).sreg q = sregAfter (s.core c) r v q) ∧
      (t.core c).p = (s.core c).p ∧ t.mem = s.mem ∧ t.memGen = s.memGen ∧ t.regs = s.regs ∧ t.fab = s.fab ∧
      ∀ d : Nat, d ≠ c → t.core d = s.core d := by
  intro t
  obtain ⟨d, hd⟩ := hu.core
  obtain ⟨i, hi⟩ := (s.core c).fetched_eq
  rw [State.core_modCore_same, hi] at hd
  have ht : t.core c = { ((u.core c).setS r v).retire with pc := pc, stw := .run } := by
    rw [State.advance_core, if_pos rfl, State.core_modCore_same]
  have hset (k : Core) : (k.setS r v).priv = k.priv ∧ (k.setS r v).p = k.p := by
    unfold Core.setS
    split_ifs <;> exact ⟨rfl, rfl⟩
  refine ⟨by rw [ht], ?_, fun q => ?_, ?_, hu.mem, hu.memGen, hu.regs, hu.fab, fun n hn => ?_⟩
  · calc (t.core c).priv = ((u.core c).setS r v).priv := by rw [ht]; rfl
      _ = (s.core c).priv := by rw [(hset _).1, hd]
  · calc (t.core c).sreg q = ((u.core c).setS r v).sreg q := by rw [ht]; rfl
      _ = sregAfter (s.core c) r v q := by rw [Core.sreg_setS, hd]; rfl
  · calc (t.core c).p = ((u.core c).setS r v).p := by rw [ht]; rfl
      _ = (s.core c).p := by rw [(hset _).2, hd]
  · rw [State.advance_core, if_neg hn, State.core_modCore, if_neg hn, hu.others n hn, State.core_modCore, if_neg hn]

/-- A load of memory that no rule refuses, in full. -/
theorem execLoadN_shows {c : CoreId} {f : IFields} {s : State} (h : s.Ready c f .u false) (hi : f.immOk = true) {kind n : Nat}
    {i : Instr} (he : exec i s = execLoadN kind n c f s) {ext : Nat → Word} (hx : ∀ l : List Byte, l.length = n → loadValue kind l = ext (leNat l))
    (pa : Nat) :
    let k := s.core c
    let off : Word := if f.hasExt then f.ext.signExtend 64 else (BitVec.ofNat 8 f.imm8).signExtend 64 * BitVec.ofNat 64 n
    let a := (k.sreg f.srcA.toNat + off).toNat
    a % n = 0 → s.dataOk k.priv k.wins false a n = true → s.storesOver c a n = false → s.loc (some c) a = .mem pa →
    s.Plain k.cls false pa → (∀ l, k.cached pa = some l → (l.drop (pa % 64)).take n = s.bytes pa n) →
    ∃ t, exec i s = .next t ∧ (t.core c).pc = k.pc + w64 f.len ∧ (t.core c).priv = k.priv ∧
      (∀ q, (t.core c).sreg q = sregAfter k f.dst.toNat (ext (leNat (s.bytes pa n))) q) ∧
      (t.core c).p = k.p ∧ t.mem = s.mem ∧ t.memGen = s.memGen ∧ t.regs = s.regs ∧ t.fab = s.fab ∧
      ∀ d : Nat, d ≠ c → t.core d = s.core d := by
  intro k off a halign hok hover hloc hp hc
  obtain ⟨u, hu, hexec⟩ := execLoadN_plain h hi (av := k.sreg f.srcA.toNat + off) (by rw [IFields.memOff_eq]; rfl) halign hok hover
    hloc hp hc kind
  rw [hx _ (by simp [State.bytes])] at hexec
  exact ⟨_, he.trans hexec, hu.retired _ _ _⟩

/-- A number of at most eight bytes keeps its value in 64 bits. -/
theorem setWidth_leNat {n w : Nat} (hw : w = 8 * n) {l : List Byte} (hl : l.length = n) : ((BitVec.ofNat w (leNat l)).setWidth 64 : Word) = BitVec.ofNat 64 (leNat l) := by
  have h : leNat l < 2 ^ w := by
    have := leNat_lt l
    rw [hl] at this
    rwa [hw, pow_mul]
  exact BitVec.eq_of_toNat_eq (by rw [BitVec.toNat_setWidth, BitVec.toNat_ofNat, BitVec.toNat_ofNat, Nat.mod_eq_of_lt h])

theorem loadValue_ldbu (l : List Byte) (h : l.length = 1) : loadValue 1 l = BitVec.ofNat 64 (leNat l) := setWidth_leNat rfl h
theorem loadValue_ldhu (l : List Byte) (h : l.length = 2) : loadValue 3 l = BitVec.ofNat 64 (leNat l) := setWidth_leNat rfl h
theorem loadValue_ldwu (l : List Byte) (h : l.length = 4) : loadValue 5 l = BitVec.ofNat 64 (leNat l) := setWidth_leNat rfl h

/-! ### Cache instructions -/

theorem SMap.insert_insert {α : Type} (m : SMap α) (k : Nat) (v w : α) : SMap.insert (SMap.insert m k v) k w = SMap.insert m k w := by
  induction m with
  | nil => simp [SMap.insert]
  | cons p m ih =>
    obtain ⟨k', v'⟩ := p
    rcases lt_trichotomy k k' with hk | hk | hk
    · simp [SMap.insert, hk]
    · simp [SMap.insert, hk]
    · simp [SMap.insert, hk.ne', hk.not_gt, ih]

/-- Writing a core as it stands after it was written changes nothing. -/
theorem State.modCore_id (s : State) (n : Nat) (g : Core → Core) : (s.modCore n g).modCore n (fun k => k) = s.modCore n g := by
  have hset (m : SMap Core) (v : Core) : SMap.set (fun _ => Core.reset) (SMap.set (fun _ => Core.reset) m n v) n v =
      SMap.set (fun _ => Core.reset) m n v := by
    unfold SMap.set
    split_ifs
    · simp [SMap.erase]
    · exact SMap.insert_insert _ _ _ _
  unfold State.modCore
  rw [State.core_setCore, if_pos rfl]
  unfold State.setCore
  dsimp only
  rw [hset]

theorem Core.mem_dropLines (k : Core) (a n l : Nat) (d : List Byte) : (l, d) ∈ (k.dropLines a n).dcache ↔
    (l, d) ∈ k.dcache ∧ (n = 0 ∨ a + n ≤ 64 * l ∨ 64 * l + 64 ≤ a) := by
  simp only [Core.dropLines, List.mem_filter, Bool.not_eq_true', decide_eq_false_iff_not, Bool.and_eq_false_iff]
  refine and_congr_right fun _ => ?_
  omega

/-- Without a store of its own in flight a core reads a line as memory has it (R193). -/
theorem State.lineOf_quiet {s : State} {c : Nat} (h : ∀ o ∈ s.inFlight c, o.write = false) (pa : Nat) :
    s.lineOf c pa = s.bytes (pa / 64 * 64) 64 := by
  unfold State.lineOf
  refine (List.foldl_ext _ (fun l _ => l) _ fun l o ho => ?_).trans (List.foldl_fixed' (fun _ => rfl) _)
  rw [h o ho]
  split <;> rfl

theorem State.lineOf_modCore (s : State) (n : Nat) (g : Core → Core) (c pa : Nat) : (s.modCore n g).lineOf c pa = s.lineOf c pa := by
  have hl : (s.modCore n g).loc = s.loc := funext fun c => funext fun a =>
    State.loc_congr (s := s) (t := s.modCore n g) rfl c a
  have hf : (s.modCore n g).inFlight c = s.inFlight c := rfl
  have hm : (s.modCore n g).getMem = s.getMem := rfl
  unfold State.lineOf
  rw [hl, hf, hm]

/-- The lines that fill an address's set beside its own (R155). -/
def Core.rivals (k : Core) (pa : Nat) : List Nat := (k.waySet pa).filter (· ≠ pa / 64)

theorem Core.rivals_length (k : Core) (pa : Nat) :
    (k.rivals pa).length = (k.dcache.filter (fun l => l.1 % 128 = pa / 64 % 128 ∧ l.1 ≠ pa / 64)).length := by
  rw [Core.rivals, Core.waySet, List.filter_map, List.filter_map, List.length_map, List.filter_filter]
  congr 2
  funext l
  rw [Bool.and_comm, Bool.decide_and, Function.comp_apply, Bool.beq_eq_decide_eq]
  rfl

theorem Core.rivals_mod {k : Core} {pa l : Nat} (h : l ∈ k.rivals pa) : l % 128 = pa / 64 % 128 := by
  simp only [Core.rivals, Core.waySet, List.mem_filter, beq_iff_eq] at h
  exact h.1.2

/-- The draw and the change of the cache when a set is full (R155). -/
theorem State.fillWay_full {s : State} {c pa : Nat} (h : ¬ ((s.core c).rivals pa).length < 4) (data : List Byte) :
    ∃ out, out % 128 = pa / 64 % 128 ∧
      ((s.fillWay c pa data).core c).dcache = (pa / 64, data) :: (s.core c).dcache.filter (fun l => l.1 ≠ out ∧ l.1 ≠ pa / 64) := by
  have hlt : (s.draw.1 % 4) < ((s.core c).rivals pa).length := by omega
  refine ⟨((s.core c).rivals pa).getD (s.draw.1 % 4) 0, ?_, ?_⟩
  · rw [List.getD_eq_getElem _ _ hlt]
    exact Core.rivals_mod (List.getElem_mem hlt)
  · have hf : s.fillWay c pa data = s.draw.2.modCore c (fun k => { k with
        dcache := k.dcache.filter (·.1 ≠ ((s.core c).rivals pa).getD (s.draw.1 % 4) 0) }.fillLine pa data) := if_neg h
    rw [hf, State.core_modCore_same]
    change _ :: List.filter _ (List.filter _ _) = _
    rw [List.filter_filter]
    congr 2
    funext l
    simp [Bool.and_comm]

theorem IFields.memOff_one (f : IFields) : f.memOff 1 = f.imm := by
  unfold IFields.memOff
  split_ifs with h
  · rw [IFields.imm, if_pos h]
  · exact BitVec.mul_one _

section
variable {c : CoreId} {f : IFields} {s : State} (h : s.Ready c f .u false) (hi : f.immOk = true) {pa : Nat} {av : Word}
  (hav : (s.core c).a f + f.imm = av) (hloc : s.loc (some c) av.toNat = .mem pa)
include h hi hav hloc

/-- Where PREF finds memory, it runs in the state after its fetch. -/
theorem execPref_mem : execPref c f s = .next (State.settle c (s.core c).pc f.len (
    let u := s.modCore c Core.fetched
    if !cachedAt av.toNat pa || !s.dataOk (s.core c).priv (s.core c).wins false av.toNat 1 || s.keyWait pa then .done u else
    let q := if ((s.core c).cached pa).isSome then u.draw else (1, u)
    if q.1 % 2 = 0 then .done q.2 else
    let r := q.2.checkMem (.core c 5 (s.core c).priv) (s.core c).cls false pa
    .done (if r.2 = .ok then r.1.fillWay c pa (r.1.lineOf c pa) else r.1))) := by
  have hr : (s.modCore c Core.fetched).regs = s.regs := rfl
  have hloc' : (s.modCore c Core.fetched).loc (some c) av.toNat = .mem pa := by rw [State.loc_congr hr, hloc]
  obtain ⟨hcls, hwins, hpriv, hcached⟩ := (s.core c).fetched_access
  unfold execPref
  rw [State.runInstr_ready h hi]
  dsimp only
  rw [IFields.memOff_one, State.core_modCore_same, Core.a_fetched, hav, hloc']
  dsimp only
  rw [State.dataOk_congr hr, hcls, hwins, hpriv, hcached]
  rfl

/-- At an address of a Nimlink view PREF changes nothing (R155). -/
theorem execPref_away (ha : 0x4000000000 ≤ av.toNat) : execPref c f s = .next (s.retired c f (fun q => q)) := by
  rw [execPref_mem h hi hav hloc]
  have hc : cachedAt av.toNat pa = false := by
    rw [cachedAt, decide_eq_false (by omega), Bool.and_false]
  simp only [hc, Bool.not_false, Bool.true_or, if_true]
  rw [State.retired, State.modCore_id]
  rfl

/-- PREF of an allowed and readable line that is not cached fills it (R155, R226). -/
theorem execPref_fills (ha : ¬ 0x4000000000 ≤ av.toNat) (hpa : pa < 0x200000000 ∨ 0x1004000000 ≤ pa)
    (hok : s.dataOk (s.core c).priv (s.core c).wins false av.toNat 1 = true) (hp : s.Plain (s.core c).cls false pa)
    (hn : (s.core c).cached pa = none) :
    execPref c f s = .next (((s.modCore c Core.fetched).fillWay c pa (s.lineOf c pa)).advance c ((s.core c).pc + w64 f.len)) := by
  have hc : cachedAt av.toNat pa = true := by
    rw [cachedAt, decide_eq_true (by omega), Bool.and_true, cacheable, isDram]
    simpa using hpa
  rw [execPref_mem h hi hav hloc]
  dsimp only
  rw [hn, hc, hok, hp.2.1]
  simp only [Bool.not_true, Bool.or_false, Option.isSome_none, Bool.false_eq_true, if_false]
  rw [if_neg (by decide), State.checkMem_plain (s := s.modCore c Core.fetched) hp, if_pos rfl, State.lineOf_modCore]
  rfl

end

theorem execDcinv_ready {c : CoreId} {f : IFields} {s : State} (h : s.Ready c f .u true) (hx : f.hasExt = false) (hd : f.dst = 0)
    (hm : f.mod = 0) : execDcinv c f s = .next (s.retired c f (fun q => { q with
      dcache := ((s.core c).dropLines ((s.core c).sreg f.srcA.toNat).toNat ((s.core c).sreg f.srcB.toNat).toNat).dcache })) := by
  refine next_runInstr_done h (by simp [hx, hd, hm]) ?_
  obtain ⟨i, hi⟩ := (s.core c).fetched_eq
  rw [hi]
  rfl

theorem execDcinva_ready {c : CoreId} {f : IFields} {s : State} (h : s.Ready c f .u true) (hx : f.hasExt = false) (hd : f.dst = 0)
    (ha : f.srcA = 0) (hb : f.srcB = 0) : execDcinva c f s = .next (s.retired c f (fun q => { q with dcache := [] })) :=
  next_runInstr_done h (by simp [hx, hd, ha, hb]) rfl

theorem execIcinv_ready {c : CoreId} {f : IFields} {s : State} (h : s.Ready c f .s true) (hx : f.hasExt = false) :
    execIcinv c f s = .next (s.retired c f (fun q => { q with icache := [] })) :=
  next_runInstr_done h (by simp [hx]) rfl

/-- What the Steward shows after an instruction that moved only its cache and retired. -/
theorem State.CacheMoves.advance {s u : State} {c : CoreId} (hu : (s.modCore c Core.fetched).CacheMoves u c) (pc : Word) :
    let t := u.advance c pc
    (t.core c).dcache = (u.core c).dcache ∧ (t.core c).pc = pc ∧ (∀ q, (t.core c).sreg q = (s.core c).sreg q) ∧ t.mem = s.mem ∧
      t.regs = s.regs ∧ ∀ d : Nat, d ≠ c → t.core d = s.core d := by
  intro t
  obtain ⟨d, hd⟩ := hu.core
  rw [State.core_modCore_same] at hd
  have ht : t.core c = { (u.core c).retire with pc := pc, stw := .run } := by
    rw [State.advance_core, if_pos rfl]
  refine ⟨by rw [ht]; rfl, by rw [ht], fun q => ?_, hu.mem, hu.regs, fun n hn => ?_⟩
  · calc (t.core c).sreg q = (u.core c).sreg q := by rw [ht]; rfl
      _ = (s.core c).sreg q := by
        rw [hd]
        exact (s.core c).sreg_fetched q
  · rw [State.advance_core, if_neg hn, hu.others n hn, State.core_modCore, if_neg hn]

/-- Settles O9: the loads from `execLoadN_shows`, the cache instructions from their own equations. -/
theorem loadsAndCaches : Obligations.LoadsAndCaches := by
  refine ⟨?_, ?_⟩
  · intro c f s h hi k ld
    have shows (kind n : Nat) (i : Instr) (ext : Nat → Word) (he : exec i s = execLoadN kind n c f s)
        (hx : ∀ l : List Byte, l.length = n → loadValue kind l = ext (leNat l)) : ld n i ext :=
      fun pa => execLoadN_shows h hi he hx pa
    exact ⟨shows 0 1 (.ldb c f) (fun x => (BitVec.ofNat 8 x).signExtend 64) rfl fun _ _ => rfl,
      shows 1 1 (.ldbu c f) (fun x => BitVec.ofNat 64 x) rfl loadValue_ldbu,
      shows 2 2 (.ldh c f) (fun x => (BitVec.ofNat 16 x).signExtend 64) rfl fun _ _ => rfl,
      shows 3 2 (.ldhu c f) (fun x => BitVec.ofNat 64 x) rfl loadValue_ldhu,
      shows 4 4 (.ldw c f) (fun x => (BitVec.ofNat 32 x).signExtend 64) rfl fun _ _ => rfl,
      shows 5 4 (.ldwu c f) (fun x => BitVec.ofNat 64 x) rfl loadValue_ldwu,
      shows 6 8 (.ldd c f) (fun x => BitVec.ofNat 64 x) rfl fun _ _ => rfl⟩
  · intro c f s k
    refine ⟨fun h hx hd hm => ?_, fun h hx hd ha hb => ?_, fun h hx => ?_, fun h hi pa hloc hpa hok hp hn => ?_⟩
    · have hc : ((s.retired c f (fun q => { q with dcache := (k.dropLines (k.sreg f.srcA.toNat).toNat (k.sreg f.srcB.toNat).toNat).dcache })).core c).dcache =
          (k.dropLines (k.sreg f.srcA.toNat).toNat (k.sreg f.srcB.toNat).toNat).dcache := by
        rw [State.retired, State.advance_core, if_pos rfl, State.core_modCore_same]
        rfl
      refine ⟨_, execDcinv_ready h hx hd hm, by rw [hc], fun l d => ?_⟩
      rw [hc]
      exact Core.mem_dropLines _ _ _ _ _
    · exact execDcinva_ready h hx hd ha hb
    · exact execIcinv_ready h hx
    · split_ifs with ha
      · exact execPref_away h hi rfl hloc ha
      · have he := execPref_fills h hi rfl hloc ha hpa hok hp hn
        obtain ⟨i, hf⟩ := k.fetched_eq
        have hk : (s.modCore c Core.fetched).core c = { k with icache := i } := by rw [State.core_modCore_same, hf]
        have hriv : (((s.modCore c Core.fetched).core c).rivals pa).length =
            (k.dcache.filter (fun l => l.1 % 128 = pa / 64 % 128 ∧ l.1 ≠ pa / 64)).length := by
          rw [Core.rivals_length, hk]
        refine ⟨fun hroom => ?_, fun hq => State.lineOf_quiet hq pa, fun hroom => ?_⟩
        · have hfill : (s.modCore c Core.fetched).fillWay c pa (s.lineOf c pa) =
              (s.modCore c Core.fetched).modCore c (fun q => q.fillLine pa (s.lineOf c pa)) := if_pos (hriv.trans_lt hroom)
          refine he.trans ?_
          rw [hfill, State.retired]
          congr 2
          refine State.modCore_congr ?_
          rw [hk]
          rfl
        · obtain ⟨out, hout, hd⟩ := State.fillWay_full (hriv.symm ▸ hroom) (s.lineOf c pa)
          have hmv := (State.CacheMoves.refl (s.modCore c Core.fetched) c).fillWay pa (s.lineOf c pa)
          obtain ⟨hcache, hmove⟩ := hmv.advance (k.pc + w64 f.len)
          rw [hk] at hd
          exact ⟨_, out, he, hout, hcache.trans hd, hmove⟩

end Sys2Proof.Machine
end

section
-- One proof after another: what waits for another costs the check memory.
set_option Elab.async false
/-! SUPPORT. Posted stores -/
namespace Sys2Proof.Machine

/-! ### Posted stores -/

theorem Core.writeLine_eq (k : Core) (pa : Nat) (data : List Byte) : ∃ d, k.writeLine pa data = { k with dcache := d } := by
  unfold Core.writeLine
  split
  · exact ⟨_, rfl⟩
  · exact ⟨_, rfl⟩

/-- A store to memory with a tag to spare is posted, through the line it hits. -/
theorem State.issueStore_posts {s : State} {c a pa : Nat} (hloc : s.loc (some c) a = .mem pa)
    (ht : s.tagFree c 5 (s.core c).cls = true) (len : Nat) (data : List Byte) :
    s.issueStore c a len data = .done ((s.modCore c (fun k => k.writeLine pa data)).postStore c ⟨a, data⟩) := by
  unfold State.issueStore
  rw [hloc]
  exact (if_neg Bool.false_ne_true).trans (if_neg fun h => Bool.false_ne_true ((congrArg (! ·) ht).symm.trans h))

/-- A store to memory with a tag to spare goes out, and the Steward goes on. -/
theorem execStoreN_posts {c : CoreId} {f : IFields} {s : State} (h : s.Ready c f .u false) (hi : f.immOk = true) {n pa : Nat}
    {av : Word} (hav : (s.core c).a f + f.memOff n = av)
    (halign : av.toNat % n = 0) (hok : s.dataOk (s.core c).priv (s.core c).wins true av.toNat n = true)
    (hloc : s.loc (some c) av.toNat = .mem pa) (ht : s.tagFree c 5 (s.core c).cls = true) :
    ∃ u, (s.modCore c Core.fetched).CacheMoves u c ∧ execStoreN n c f s = .next ((u.postStore c
      ⟨av.toNat, leBytes n (((s.core c).d f).toNat % 256 ^ n)⟩).advance c ((s.core c).pc + w64 f.len)) := by
  obtain ⟨hcls, hwins, hpriv, hcached⟩ := (s.core c).fetched_access
  have hr : (s.modCore c Core.fetched).regs = s.regs := rfl
  refine ⟨_, (State.CacheMoves.refl _ c).modCore fun k => k.writeLine_eq pa (leBytes n (((s.core c).d f).toNat % 256 ^ n)), ?_⟩
  unfold execStoreN
  rw [State.runInstr_ready h hi, State.core_modCore_same]
  dsimp only
  rw [Core.a_fetched, Core.d_fetched, hwins, hpriv, hav, if_neg (fun hx => hx halign), State.dataOk_congr hr, hok,
    State.loc_congr hr, hloc]
  rw [if_neg (by decide)]
  refine congrArg (fun o => Host.Outcome.next (State.settle c (s.core c).pc f.len o)) (State.issueStore_posts ?_ ?_ _ _)
  · rw [State.loc_congr hr, hloc]
  · rw [State.core_modCore_same, hcls]
    exact ht

/-- What a posted store leaves, in full. -/
theorem execStoreN_shows {c : CoreId} {f : IFields} {s : State} (h : s.Ready c f .u false) (hi : f.immOk = true) {n : Nat}
    {i : Instr} (he : exec i s = execStoreN n c f s) (pa : Nat) :
    let k := s.core c
    let off : Word := if f.hasExt then f.ext.signExtend 64 else (BitVec.ofNat 8 f.imm8).signExtend 64 * BitVec.ofNat 64 n
    let a := (k.sreg f.srcA.toNat + off).toNat
    a % n = 0 → s.dataOk k.priv k.wins true a n = true → s.loc (some c) a = .mem pa → s.tagFree c 5 k.cls = true →
    ∃ (t : State) (o : Outst), exec i s = .next t ∧ t.fab.outst = s.fab.outst ++ [o] ∧ o.core = c.val ∧ o.unit = 5 ∧ o.write = true ∧
      o.addr = a ∧ o.cls = k.cls ∧ o.priv = k.priv ∧ o.tag = s.fab.nextId ∧ t.fab.nextId = s.fab.nextId + 1 ∧
      o.data.length = n ∧ leNat o.data = (k.sreg f.dst.toNat).toNat % 256 ^ n ∧
      (t.core c).pc = k.pc + w64 f.len ∧ (∀ q, (t.core c).sreg q = k.sreg q) ∧ (t.core c).p = k.p ∧
      t.regs = s.regs ∧ (∀ x, t.byte x = s.byte x) ∧ ∀ d : Nat, d ≠ c → t.core d = s.core d := by
  intro k off a halign hok hloc ht
  obtain ⟨u, hu, hexec⟩ := execStoreN_posts h hi (av := k.sreg f.srcA.toNat + off) (by rw [IFields.memOff_eq]; rfl) halign hok hloc ht
  obtain ⟨hcls, -, hpriv, -⟩ := k.fetched_access
  obtain ⟨d, hd⟩ := hu.core
  rw [State.core_modCore_same] at hd
  obtain ⟨-, hpc, hsreg, hmem, hregs, hothers⟩ := hu.advance (k.pc + w64 f.len)
  have hfab : u.fab = s.fab := hu.fab
  have hbyte : ∀ x, u.byte x = s.byte x := fun x => by
    unfold State.byte
    rw [hu.mem, hu.memGen]
    rfl
  refine ⟨_, _, he.trans hexec, congrArg (fun (g : Fabric) => g.outst ++ [_]) hfab, rfl, rfl, rfl, rfl, ?_, ?_, congrArg Fabric.nextId hfab,
    congrArg (fun (g : Fabric) => g.nextId + 1) hfab, leBytes_length _ _, ?_, hpc, hsreg, ?_, hregs, hbyte, hothers⟩
  · exact (congrArg Core.cls hd).trans hcls
  · exact (congrArg Core.priv hd).trans hpriv
  · exact (leNat_leBytes _ _).trans (Nat.mod_mod _ _)
  · have hp : (((u.postStore c ⟨(k.sreg f.srcA.toNat + off).toNat,
        leBytes n ((k.d f).toNat % 256 ^ n)⟩).advance c (k.pc + w64 f.len)).core c).p = (u.core c).p := by
      rw [State.advance_core, if_pos rfl]
      rfl
    rw [hp, hd]
    exact k.fetched_p

/-! ### The point of visibility -/

/-- A store that is the oldest of its path, to memory that no rule refuses, is performed. -/
theorem execAccessComplete_lands {o : Outst} {s : State} {pa : Nat} (hfind : s.fab.outst.find? (fun x => x.tag == o.tag && x.write) = some o)
    (hbehind : s.behind o = false) (hloc : s.loc (some o.core) o.addr = .mem pa) (hepoch : s.issueEpoch (.mem pa) = o.epoch)
    (hp : s.Plain o.cls true pa) (st : MStat) :
    execAccessComplete o.tag ⟨st, .none⟩ s = .next ((s.putMem pa o.data).dropTag o) := by
  have hkey : s.keyWait pa = false := hp.2.1
  unfold execAccessComplete
  dsimp only [State.develop]
  rw [hfind]
  dsimp only
  rw [hbehind, hloc, if_neg Bool.false_ne_true, if_neg (not_not.2 hepoch)]
  dsimp only
  rw [hkey, if_neg Bool.false_ne_true, State.landStore, State.checkMem_plain hp]
  rfl

theorem State.putMem_fab (s : State) (a : Nat) (l : List Byte) : (s.putMem a l).fab = s.fab := by
  unfold State.putMem
  rw [State.setBytes_eq]
  split_ifs <;> rfl

/-- Settles O10. -/
theorem postedStores : Obligations.PostedStores := by
  refine ⟨fun c f s h hi => ?_, fun o st pa s hfind hbehind hloc hepoch hp => ?_⟩
  · exact ⟨fun pa => execStoreN_shows h hi (n := 1) (i := .stb c f) rfl pa, fun pa => execStoreN_shows h hi (n := 2) (i := .sth c f) rfl pa,
      fun pa => execStoreN_shows h hi (n := 4) (i := .stw c f) rfl pa, fun pa => execStoreN_shows h hi (n := 8) (i := .std c f) rfl pa⟩
  · have hbyte : ∀ x, ((s.putMem pa o.data).dropTag o).byte x = (s.putMem pa o.data).byte x := fun _ => rfl
    refine ⟨_, execAccessComplete_lands hfind hbehind hloc hepoch hp st, fun i hi => ?_, fun x hx => ?_, ?_, State.putMem_cores _ _ _,
      State.putMem_regs _ _ _⟩
    · rw [hbyte, State.byte_putMem, if_pos (by omega), Nat.add_sub_cancel_left, List.getD_eq_getElem _ _ hi, List.getElem?_eq_getElem hi]
    · rw [hbyte, State.byte_putMem, if_neg (by omega)]
    · rw [← State.putMem_fab s pa o.data]
      rfl

end Sys2Proof.Machine
end

section
-- One proof after another: what waits for another costs the check memory.
set_option Elab.async false
/-! SUPPORT. Branches -/
namespace Sys2Proof.Machine

/-! ### Offsets of branches -/

theorem signExtend_words {w : Nat} (x : BitVec w) : x.signExtend 64 * 4 = BitVec.ofInt 64 (4 * x.toInt) := by
  rw [BitVec.signExtend, mul_comm 4 x.toInt, BitVec.ofInt_mul]
  rfl

theorem IFields.braOff_eq (f : IFields) : f.braOff = if f.hasExt then f.ext.signExtend 64
    else BitVec.ofInt 64 (4 * (BitVec.ofNat 18 (f.dst.toNat * 8192 + f.srcA.toNat * 256 + f.srcB.toNat * 8 + f.low3)).toInt) := by
  unfold IFields.braOff
  rw [signExtend_words, show ((f.dst.toNat * 32 + f.srcA.toNat) * 32 + f.srcB.toNat) * 8 + f.low3 =
    f.dst.toNat * 8192 + f.srcA.toNat * 256 + f.srcB.toNat * 8 + f.low3 by ring]

theorem IFields.loopOff_eq (f : IFields) :
    f.loopOff = BitVec.ofInt 64 (4 * (BitVec.ofNat 13 (f.srcA.toNat * 256 + f.srcB.toNat * 8 + f.low3)).toInt) := by
  unfold IFields.loopOff
  rw [signExtend_words, show (f.srcA.toNat * 32 + f.srcB.toNat) * 8 + f.low3 = f.srcA.toNat * 256 + f.srcB.toNat * 8 + f.low3 by ring]

/-! ### Branches taken -/

/-- What a taken branch answers (R231). -/
def State.branched (s : State) (c : CoreId) (target : Word) : Step :=
  .next ((s.traceRec c 1 target.toNat).modCore c (fun q => { q.wrCsr 0x21 (q.rdCsr 0x21 + 1) with pc := target, stw := .run }))

/-- A branch to an aligned target goes there with one more instruction retired. -/
theorem State.branch_aligned {s : State} {c : CoreId} {pc target : Word} (ht : target.toNat % 4 = 0) :
    (.next (s.branch c pc target) : Step) = s.branched c target := by
  rw [State.branch, if_neg (not_not.2 ht)]
  rfl

/-- An instruction whose body goes to the target that its checks have found aligned. -/
theorem next_runInstr_goto {s s' : State} {c : CoreId} {f : IFields} {legal : Bool} {body : State → SOut} {target : State → Word}
    {t : Word} (h : s.Ready c f .u false) (hl : legal = true) (ht : target s = t) (ha : t.toNat % 4 = 0)
    (hb : body (s.modCore c Core.fetched) = .goto s' t) :
    (.next (s.runInstr c f .u false legal body target) : Step) = s'.branched c t := by
  rw [State.runInstr_ready h hl body (by rw [ht, ha]), hb]
  exact State.branch_aligned ha

/-- A call leaves the address after it in s31. -/
theorem State.callTo_fetched (s : State) (c : CoreId) (f : IFields) (t : Word) : (s.modCore c Core.fetched).callTo c f t =
    .goto ((s.modCore c Core.fetched).modCore c (fun q => q.setS 31 ((s.core c).pc + w64 f.len))) t := by
  unfold State.callTo
  rw [State.modCore_congr (h := fun q => q.setS 31 ((s.core c).pc + w64 f.len)) (by rw [State.core_modCore_same, Core.fetched_pc])]

section
variable {c : CoreId} {f : IFields} {s : State} (h : s.Ready c f .u false) {t : Word} (ha : t.toNat % 4 = 0)
include h ha

theorem execBra_goes (hl : f.braOk = true) (ht : (s.core c).pc + f.braOff = t) :
    execBra c f s = (s.modCore c Core.fetched).branched c t :=
  next_runInstr_goto h hl ht ha (by rw [State.core_modCore_same, Core.fetched_pc, ht])

theorem execJmp_goes (hl : jmpLegal f = true) (ht : (s.core c).sreg f.srcA.toNat = t) :
    execJmp c f s = (s.modCore c Core.fetched).branched c t :=
  next_runInstr_goto h hl ht ha (by rw [State.core_modCore_same, Core.a_fetched]; exact congrArg _ ht)

theorem execCall_goes (hl : f.braOk = true) (ht : (s.core c).pc + f.braOff = t) : execCall c f s =
    ((s.modCore c Core.fetched).modCore c (fun q => q.setS 31 ((s.core c).pc + w64 f.len))).branched c t :=
  next_runInstr_goto h hl ht ha (by rw [State.core_modCore_same, Core.fetched_pc, ht, State.callTo_fetched])

theorem execCallr_goes (hl : jmpLegal f = true) (ht : (s.core c).sreg f.srcA.toNat = t) : execCallr c f s =
    ((s.modCore c Core.fetched).modCore c (fun q => q.setS 31 ((s.core c).pc + w64 f.len))).branched c t :=
  next_runInstr_goto h hl ht ha (by rw [State.core_modCore_same, Core.a_fetched, Core.a, ht, State.callTo_fetched])

/-- LOOP above 1 counts down and goes back. -/
theorem execLoop_goes (hx : f.hasExt = false) (hd : 1 < ((s.core c).sreg f.dst.toNat).toNat) (ht : (s.core c).pc + f.loopOff = t) :
    execLoop c f s = ((s.modCore c Core.fetched).modCore c
      (fun q => q.setS f.dst.toNat ((s.core c).sreg f.dst.toNat - 1))).branched c t := by
  have hd' : 1 < ((s.core c).d f).toNat := hd
  refine next_runInstr_goto h (by rw [hx]; rfl) ((if_pos hd').trans ht) ha ?_
  rw [State.core_modCore_same, Core.d_fetched, Core.fetched_pc, ht]
  exact if_pos hd'

end

/-- LOOP at 1 or 0 falls through with the counter 0. -/
theorem execLoop_ends {c : CoreId} {f : IFields} {s : State} (h : s.Ready c f .u false) (hx : f.hasExt = false)
    (hd : ((s.core c).sreg f.dst.toNat).toNat ≤ 1) : execLoop c f s = .next (s.retired c f (fun q => q.setS f.dst.toNat 0)) := by
  have hd' : ¬ 1 < ((s.core c).d f).toNat := not_lt.2 hd
  unfold execLoop
  rw [State.runInstr_ready h (by rw [hx]; rfl) _ (by rw [if_neg hd']; rfl), State.core_modCore_same, Core.d_fetched]
  dsimp only
  rw [if_neg hd']
  rfl

/-- Settles O11: each branch through its own equation. -/
theorem branchResults : Obligations.BranchResults := by
  intro c f s h k off loff s1 go
  refine ⟨fun hl ha => ?_, fun hd hb hm ha => ?_, fun hx hd ha => ?_, fun hx hd => execLoop_ends h hx hd⟩
  · have ht : k.pc + f.braOff = k.pc + off := by rw [IFields.braOff_eq]
    exact ⟨execBra_goes h ha hl ht, execCall_goes h ha hl ht⟩
  · have hl : jmpLegal f = true := by simp [jmpLegal, hd, hb, hm]
    have hlen : w64 f.len = 4 := by
      rw [IFields.len, IFields.hasExt, hm]
      rfl
    exact ⟨execJmp_goes h ha hl rfl, hlen ▸ execCallr_goes h ha hl rfl⟩
  · exact execLoop_goes h ha hx hd (by rw [IFields.loopOff_eq])

end Sys2Proof.Machine
end

section
-- One proof after another: what waits for another costs the check memory.
set_option Elab.async false
/-! SUPPORT. Traps of ordinary data -/
namespace Sys2Proof.Machine

/-! ### Traps -/

/-- A load at a misaligned address raises DALIGN, one that its level may not make ACCESS, with the address (R226, R216, R217). -/
theorem execLoadN_traps {c : CoreId} {f : IFields} {s : State} (h : s.Ready c f .u false) (hi : f.immOk = true) (kind n : Nat)
    {av : Word} (hav : (s.core c).a f + f.memOff n = av) :
    (av.toNat % n ≠ 0 → execLoadN kind n c f s = .next ((s.modCore c Core.fetched).raise c ⟨0x05, 0, 0, false, av⟩ (s.core c).pc)) ∧
    (av.toNat % n = 0 → s.dataOk (s.core c).priv (s.core c).wins false av.toNat n = false →
      execLoadN kind n c f s = .next ((s.modCore c Core.fetched).raise c ⟨0x06, 0, 0, false, av⟩ (s.core c).pc)) := by
  obtain ⟨-, hwins, hpriv, -⟩ := (s.core c).fetched_access
  have hr : (s.modCore c Core.fetched).regs = s.regs := rfl
  unfold execLoadN
  rw [State.runInstr_ready h hi, State.core_modCore_same]
  dsimp only
  rw [Core.a_fetched, hwins, hpriv, hav, State.dataOk_congr hr]
  refine ⟨fun ha => ?_, fun ha hok => ?_⟩
  · rw [if_pos ha]
    rfl
  · rw [if_neg (not_not.2 ha), hok, if_pos (by decide)]
    rfl

/-- The same of a store. -/
theorem execStoreN_traps {c : CoreId} {f : IFields} {s : State} (h : s.Ready c f .u false) (hi : f.immOk = true) (n : Nat)
    {av : Word} (hav : (s.core c).a f + f.memOff n = av) :
    (av.toNat % n ≠ 0 → execStoreN n c f s = .next ((s.modCore c Core.fetched).raise c ⟨0x05, 0, 0, false, av⟩ (s.core c).pc)) ∧
    (av.toNat % n = 0 → s.dataOk (s.core c).priv (s.core c).wins true av.toNat n = false →
      execStoreN n c f s = .next ((s.modCore c Core.fetched).raise c ⟨0x06, 0, 0, false, av⟩ (s.core c).pc)) := by
  obtain ⟨-, hwins, hpriv, -⟩ := (s.core c).fetched_access
  have hr : (s.modCore c Core.fetched).regs = s.regs := rfl
  unfold execStoreN
  rw [State.runInstr_ready h hi, State.core_modCore_same]
  dsimp only
  rw [Core.a_fetched, hwins, hpriv, hav, State.dataOk_congr hr]
  refine ⟨fun ha => ?_, fun ha hok => ?_⟩
  · rw [if_pos ha]
    rfl
  · rw [if_neg (not_not.2 ha), hok, if_pos (by decide)]
    rfl

/-- A misaligned branch target raises IALIGN before anything else of the instruction is looked at (R232, R249). -/
theorem State.runInstr_misaligned {s : State} {c : CoreId} {f : IFields} {lvl : Priv} {ser legal : Bool} {target : State → Word}
    {valid : State → Bool} (h : s.Ready c f lvl ser) (body : State → SOut) {t : Word} (ht : target s = t) (ha : t.toNat % 4 ≠ 0) :
    s.runInstr c f lvl ser legal body target valid = s.raise c ⟨0x02, 0, 0, false, t⟩ (s.core c).pc := by
  obtain ⟨hat, hstep, hnext, hfetch, hon, -, -⟩ := h
  unfold State.runInstr
  rw [if_neg (by simp [hat])]
  simp only [State.useStep_eq hstep, State.takePending_none hnext, hfetch, hon, ht]
  rw [if_pos (by simpa using ha)]
  rfl

/-- Settles O12: the divisions, the accesses and the branches each by the check that finds the fault. -/
theorem trapsOfOrdinaryData : Obligations.TrapsOfOrdinaryData := by
  intro c f s h k a b trap off bad
  refine ⟨fun hm hx hb => ?_, fun hi => ?_, ?_⟩
  · exact ⟨execDivide_zero h hx hm _ _ hb, execDivide_zero h hx hm _ _ hb, execDivide_zero h hx hm _ _ hb, execDivide_zero h hx hm _ _ hb⟩
  · have hav (n : Nat) : k.a f + f.memOff n = a + off n := by rw [IFields.memOff_eq]; rfl
    have load (kind n : Nat) (i : Instr) (he : exec i s = execLoadN kind n c f s) : bad false n i :=
      (execLoadN_traps h hi kind n (hav n)).imp (fun ht ha => he.trans (ht ha)) fun ht ha hok => he.trans (ht ha hok)
    have store (n : Nat) (i : Instr) (he : exec i s = execStoreN n c f s) : bad true n i :=
      (execStoreN_traps h hi n (hav n)).imp (fun ht ha => he.trans (ht ha)) fun ht ha hok => he.trans (ht ha hok)
    exact ⟨load 0 1 (.ldb c f) rfl, load 1 1 (.ldbu c f) rfl, load 2 2 (.ldh c f) rfl, load 3 2 (.ldhu c f) rfl, load 4 4 (.ldw c f) rfl,
      load 5 4 (.ldwu c f) rfl, load 6 8 (.ldd c f) rfl, store 1 (.stb c f) rfl, store 2 (.sth c f) rfl, store 4 (.stw c f) rfl,
      store 8 (.std c f) rfl⟩
  · intro jump boff
    have hoff : k.pc + f.braOff = k.pc + boff := by rw [IFields.braOff_eq]
    exact ⟨fun ha => congrArg _ (State.runInstr_misaligned h _ rfl ha), fun ha => congrArg _ (State.runInstr_misaligned h _ rfl ha),
      fun ha => congrArg _ (State.runInstr_misaligned h _ hoff ha), fun ha => congrArg _ (State.runInstr_misaligned h _ hoff ha)⟩

end Sys2Proof.Machine
end

section
-- One proof after another: what waits for another costs the check memory.
set_option Elab.async false
/-! SUPPORT. Control and status registers -/
namespace Sys2Proof.Machine

/-! ### Control and status registers -/

theorem State.ipend_fetched (s : State) (c : CoreId) : (s.modCore c Core.fetched).ipend c = s.ipend c := by
  unfold State.ipend State.timerPending
  dsimp only
  rw [State.core_modCore_same, Core.fetched_pend, Core.rdCsr_fetched]
  rfl

theorem State.csrVal_fetched (s : State) (c : CoreId) (n : Nat) : (s.modCore c Core.fetched).csrVal c n = s.csrVal c n := by
  unfold State.csrVal
  dsimp only
  rw [State.core_modCore_same, State.ipend_fetched]
  split
  case h_2 => rw [Core.fetched_priv]
  case h_3 => rw [Core.fetched_ctx]
  case h_7 => exact Core.rdCsr_fetched _ _
  all_goals rfl

/-- Cutting a value to the writable bits gives no window X and W that it does not ask for. -/
theorem csrWx_mask {n : Nat} {v : Word} (h : csrWx n v = false) : csrWx n (v &&& csrMask n) = false := by
  cases hm : csrWx n (v &&& csrMask n) with
  | false => rfl
  | true =>
    simp only [csrWx, Bool.and_eq_true, BitVec.getLsbD_and] at hm
    obtain ⟨⟨hn, hw, -⟩, hx, -⟩ := hm
    rw [csrWx, hn, hw, hx] at h
    cases h

theorem csrWx_readOnly {n : Nat} {lr : Priv} (h : csrLevels n = some (lr, none)) (v : Word) : csrWx n v = false := by
  have hn : (n == 0x28 || n == 0x2A || n == 0x2C || n == 0x2E) = false := by
    cases hb : (n == 0x28 || n == 0x2A || n == 0x2C || n == 0x2E) with
    | false => rfl
    | true =>
      simp only [Bool.or_eq_true, beq_iff_eq] at hb
      obtain ((rfl | rfl) | rfl) | rfl := hb <;> cases h
  rw [csrWx, hn]
  rfl

/-- A register of R221 that is no computed one reads as its stored word. -/
theorem State.csrVal_stored {s : State} {c n : Nat} (h1 : 0x08 ≤ n) (h2 : n ≤ 0x18) : s.csrVal c n = (s.core c).rdCsr n := by
  unfold State.csrVal
  split
  case h_7 => rfl
  all_goals omega

theorem State.csrVal_priv (s : State) (c : Nat) : s.csrVal c 0x01 = (match (s.core c).priv with
    | .u => 0
    | .s => 1
    | .m => 2) := by
  show w64 (s.core c).priv.code = _
  cases (s.core c).priv <;> rfl

/-- What a CSR instruction does to its core: the masked new value is written, the old one read into d. -/
def csrWrites (n : Nat) (v : Word) (k : Core) : Core := k.wrCsr n (v &&& csrMask n)

section
variable {c : CoreId} {f : IFields} {s : State} {rd ser : Bool} {legal : IFields → Bool} (h : s.Ready c f .u ser)
  (hx : f.hasExt = false) (hl : legal f = true)
include h hx hl

/-- A CSR instruction that writes a writable register at a level that may. -/
theorem execCsr_writes {lr l : Priv} (hlv : csrLevels f.imm8 = some (lr, some l)) (hp : (s.core c).priv.atLeast l = true)
    (g : Word → Word → Word) {v : Word} (hg : g (s.csrVal c f.imm8) ((s.core c).sreg f.srcA.toNat) = v)
    (hwx : csrWx f.imm8 v = false) : execCsr rd (some g) legal ser c f s = .next (s.retired c f (fun q =>
      if rd then (csrWrites f.imm8 v q).setS f.dst.toNat (s.csrVal c f.imm8) else csrWrites f.imm8 v q)) := by
  have hv : (!csrWx f.imm8 (g (s.csrVal c f.imm8) ((s.core c).a f) &&& csrMask f.imm8)) = true := by
    rw [Core.a, hg, csrWx_mask hwx]
    rfl
  unfold execCsr
  dsimp only
  rw [State.runInstr_ready h (by rw [hx, hlv, hl]; rfl) _ rfl hv, State.core_modCore_same, hlv, State.csrVal_fetched, Core.fetched_priv, Core.a_fetched, Core.a]
  dsimp only
  rw [hp, hg]
  rfl

/-- A CSR instruction that does not write, or whose register takes no writes. -/
theorem execCsr_reads {lr : Priv} {lw : Option Priv} (hlv : csrLevels f.imm8 = some (lr, lw)) (hp : (s.core c).priv.atLeast lr = true)
    {wr : Option (Word → Word → Word)} (hw : wr = none ∨ lw = none) : execCsr true wr legal ser c f s =
      .next (s.retired c f (fun q => q.setS f.dst.toNat (s.csrVal c f.imm8))) := by
  unfold execCsr
  dsimp only
  cases wr with
  | none =>
    rw [State.runInstr_ready h (by rw [hx, hlv, hl]; rfl), State.core_modCore_same, hlv, State.csrVal_fetched, Core.fetched_priv]
    dsimp only
    rw [hp]
    rfl
  | some g =>
    obtain rfl : lw = none := hw.resolve_left nofun
    rw [State.runInstr_ready h (by rw [hx, hlv, hl]; rfl) _ rfl (congrArg (! ·) (csrWx_readOnly hlv _)), State.core_modCore_same, hlv,
      State.csrVal_fetched, Core.fetched_priv]
    dsimp only
    rw [hp]
    rfl

/-- A CSR instruction that reads, below the level of its register, raises PRIV. -/
theorem execCsr_priv {lr : Priv} {lw : Option Priv} (hlv : csrLevels f.imm8 = some (lr, lw)) (hp : (s.core c).priv.atLeast lr = false) :
    execCsr rd none legal ser c f s = .next ((s.modCore c Core.fetched).raise c ⟨0x04, 0, 0, false, 0⟩ (s.core c).pc) := by
  unfold execCsr
  dsimp only
  rw [State.runInstr_ready h (by rw [hx, hlv, hl]; rfl), State.core_modCore_same, hlv, Core.fetched_priv]
  dsimp only
  rw [hp]
  rfl

omit hl in
/-- A number that R221 does not list makes the instruction illegal. -/
theorem execCsr_unlisted (hlv : csrLevels f.imm8 = none) : execCsr rd none legal ser c f s =
    .next (s.raise c ⟨0x03, 0, 0, false, 0⟩ (s.core c).pc) := by
  obtain ⟨hat, hstep, hnext, hfetch, -⟩ := h
  unfold execCsr
  dsimp only
  rw [hlv, hx]
  exact congrArg _ (State.runInstr_illegal hat hstep hnext hfetch _)

end

/-- Settles O13. -/
theorem csrResults : Obligations.CsrResults := by
  intro c f s h hx k n a old wr r
  have hread : s.Ready c f .u false := ⟨h.1, h.2.1, h.2.2.1, h.2.2.2.1, h.2.2.2.2.1, h.2.2.2.2.2.1, fun e => Bool.noConfusion e⟩
  refine ⟨fun hn => ?_, fun hn => ?_, fun hn => ?_, State.csrVal_stored, fun lr lw hlv hp => ⟨fun ha => ?_, fun l hl hpl => ⟨fun hd hwx => ?_,
    fun hwx => ?_, fun hwx => ?_⟩, fun hl => ?_⟩, fun lr lw hlv hp ha => ?_, fun hlv ha => ?_⟩
  · exact (congrArg (s.csrVal c) hn).trans (s.csrVal_priv c)
  · exact congrArg (s.csrVal c) hn
  · exact congrArg (s.csrVal c) hn
  · exact execCsr_reads (legal := fun f => f.srcA == 0) hread hx (by rw [ha]; rfl) hlv hp (wr := none) (.inl rfl)
  · subst hl
    exact execCsr_writes (rd := false) (legal := fun f => f.dst == 0) h hx (by rw [hd]; rfl) hlv hpl (fun _ a => a) rfl hwx
  · subst hl
    exact execCsr_writes (rd := true) (legal := fun _ => true) h hx rfl hlv hpl (fun v a => v ||| a) rfl hwx
  · subst hl
    exact execCsr_writes (rd := true) (legal := fun _ => true) h hx rfl hlv hpl (fun v a => v &&& ~~~a) rfl hwx
  · exact execCsr_reads (legal := fun _ => true) h hx rfl hlv hp (wr := some (fun v a => v ||| a)) (.inr hl)
  · exact execCsr_priv (rd := true) (legal := fun f => f.srcA == 0) hread hx (by rw [ha]; rfl) hlv hp
  · exact execCsr_unlisted (rd := true) (legal := fun f => f.srcA == 0) hread hx hlv

end Sys2Proof.Machine
end

section
-- One proof after another: what waits for another costs the check memory.
set_option Elab.async false
/-! SUPPORT. Waiting and stopping -/
namespace Sys2Proof.Machine

/-! ### Waiting and stopping -/

/-- What the Steward shows after it stopped at the next instruction to wait as `w` says. -/
theorem State.stopped_shows (s : State) (c : CoreId) (w : Stw) :
    let t := ((s.modCore c Core.fetched).advance c ((s.core c).pc + 4)).modCore c (fun k => { k with stw := w })
    (t.core c).stw = w ∧ (t.core c).pc = (s.core c).pc + 4 ∧ (∀ q, (t.core c).sreg q = (s.core c).sreg q) ∧ t.mem = s.mem ∧
      t.regs = s.regs := by
  intro t
  have ht : t.core c = { (s.core c).fetched.retire with pc := (s.core c).pc + 4, stw := w } := by
    rw [State.core_modCore_same, State.advance_core, if_pos rfl, State.core_modCore_same]
  refine ⟨by rw [ht], by rw [ht], fun q => ?_, rfl, rfl⟩
  rw [ht]
  exact (s.core c).sreg_fetched q

theorem State.anyPending_fetched (s : State) (c : CoreId) : (s.modCore c Core.fetched).anyPending c = s.anyPending c := by
  unfold State.anyPending State.ipend State.timerPending
  dsimp only
  rw [State.core_modCore_same, Core.fetched_pend, Core.rdCsr_fetched]
  rfl

section
variable {c : CoreId} {f : IFields} {s : State} (hx : f.hasExt = false)
include hx

theorem execWfi_waits (h : s.Ready c f .u true) (hp : s.anyPending c = false) : execWfi c f s =
    .next (((s.modCore c Core.fetched).advance c ((s.core c).pc + 4)).modCore c (fun k => { k with stw := .wfi })) := by
  unfold execWfi
  rw [State.runInstr_ready h (by rw [hx]; rfl), State.anyPending_fetched, hp, State.core_modCore_same, Core.fetched_pc]
  rfl

theorem execWfi_completes (h : s.Ready c f .u true) (hp : s.anyPending c = true) : execWfi c f s =
    .next (s.retired c f (fun q => q)) := by
  unfold execWfi
  rw [State.runInstr_ready h (by rw [hx]; rfl), State.anyPending_fetched, hp, State.retired, State.modCore_id]
  rfl

theorem execHalt_stops (h : s.Ready c f .m true) : execHalt c f s =
    .next (((s.modCore c Core.fetched).advance c ((s.core c).pc + 4)).modCore c (fun k => { k with stw := .halt })) := by
  unfold execHalt
  rw [State.runInstr_ready h (by rw [hx]; rfl), State.core_modCore_same, Core.fetched_pc]
  rfl

theorem execMfence_completes (h : s.Ready c f .u true) (hd : f.dst = 0) (ha : f.srcA = 0) (hb : f.srcB = 0) : execMfence c f s =
    .next (s.retired c f (fun q => q)) := by
  unfold execMfence
  rw [State.runInstr_ready h (by rw [hx, hd, ha, hb]; rfl), State.retired, State.modCore_id]
  rfl

end

/-- Settles O15. -/
theorem waitingInstructions : Obligations.WaitingInstructions := by
  intro c f s hx k
  exact ⟨fun h hp => ⟨_, execWfi_waits hx h hp, s.stopped_shows c .wfi⟩, execWfi_completes hx,
    fun h => ⟨_, execHalt_stops hx h, s.stopped_shows c .halt⟩, execMfence_completes hx⟩

end Sys2Proof.Machine
end

section
-- One proof after another: what waits for another costs the check memory.
set_option Elab.async false
/-! SUPPORT. What the registers keep; preserve mode and the context switch -/
namespace Sys2Proof.Machine

/-! ### What the registers keep -/

theorem SMap.get_dropKeys {α : Type} (d : Nat → α) (m : SMap α) (p : Nat → Bool) (k : Nat) :
    SMap.get d (SMap.dropKeys m p) k = if p k = true then d k else SMap.get d m k := by
  induction m with
  | nil => simp [SMap.dropKeys, SMap.get]
  | cons q m ih =>
    obtain ⟨k', v⟩ := q
    unfold SMap.dropKeys at ih ⊢
    by_cases hk : k = k'
    · subst hk
      cases hp : p k <;> simp [List.filter, hp, SMap.get, ih]
    · cases hp : p k' <;> simp [List.filter, hp, SMap.get, ih, hk]

section
variable {O : Set Nat} {s t : State}

theorem State.Writes.mono {P : Set Nat} (h : State.Writes O s t) (hP : ∀ o ∈ O, o ∈ P) : State.Writes P s t :=
  ⟨h.1, fun o ho => h.2 o fun hm => ho (hP o hm)⟩

theorem State.Writes.foldl {α : Type} (l : List α) (g : State → α → State) (hg : ∀ t, ∀ a ∈ l, State.Writes O t (g t a)) (s : State) :
    State.Writes O s (l.foldl g s) :=
  List.foldlRecOn (motive := fun t => State.Writes O s t) l g (State.Writes.refl O s) fun t ht a ha => ht.trans (hg t a ha)

theorem State.Writes.ite {p : Prop} [Decidable p] {u : State} (h : State.Writes O s t) (k : State.Writes O s u) :
    State.Writes O s (if p then t else u) := by
  split_ifs
  · exact h
  · exact k

theorem State.Writes.satAdd (s : State) {f : Fld} (n : Nat) (h : f.off ∈ O) : State.Writes O s (s.satAdd f n) := State.Writes.setFld s _ h
theorem State.Writes.satInc (s : State) {f : Fld} (h : f.off ∈ O) : State.Writes O s (s.satInc f) := State.Writes.setFld s _ h
theorem State.Writes.wrapInc (s : State) {f : Fld} (h : f.off ∈ O) : State.Writes O s (s.wrapInc f) := State.Writes.setFld s _ h

theorem State.Writes.core (h : State.Writes O s t) (n : Nat) : t.core n = s.core n := by
  obtain ⟨⟨_, _, rfl⟩, -⟩ := h
  rfl

theorem State.Writes.fab (h : State.Writes O s t) : t.fab = s.fab := by
  obtain ⟨⟨_, _, rfl⟩, -⟩ := h
  rfl

theorem State.Writes.memGen (h : State.Writes O s t) : t.memGen = s.memGen := by
  obtain ⟨⟨_, _, rfl⟩, -⟩ := h
  rfl

/-- Unlisting registers of a set. -/
theorem State.Writes.dropRegs (s : State) {p : Nat → Bool} (h : ∀ o, p o = true → o ∈ O) :
    State.Writes O s { s with regs := SMap.dropKeys s.regs p } :=
  ⟨⟨_, _, rfl⟩, fun o ho => (SMap.get_dropKeys _ _ _ _).trans (if_neg fun hp => ho (h o hp))⟩

theorem State.Writes.clearRegs (s : State) {lo len : Nat} (h : ∀ o, lo ≤ o → o < lo + len → o ∈ O) : State.Writes O s (s.clearRegs lo len) :=
  State.Writes.dropRegs s fun o ho => by
    simp only [Bool.and_eq_true, decide_eq_true_eq] at ho
    exact h o ho.1 ho.2

end

theorem State.mem_listed {s : State} {lo len : Nat} {p : Nat × BitVec 64} (h : p ∈ s.listed lo len) : lo ≤ p.1 ∧ p.1 < lo + len := by
  simpa using (List.mem_filter.1 h).2

/-- The objects put to their base write values of objects of the core alone (R449). -/
theorem State.objsToBase_writes (s : State) (n : Nat) (p : State → Nat → Bool) :
    State.Writes (Set.Ico (R.CORE_SOBJ n 0) (R.CORE_SOBJ n 256)) s (s.objsToBase n p) := by
  have hlen : R.CORE_SOBJ n 256 = R.CORE_SOBJ n 0 + 0x400 := rfl
  refine (State.Writes.dropRegs s fun o ho => ?_).trans (State.Writes.foldl _ _ (fun t q hq => ?_) _)
  · simp only [Bool.and_eq_true, decide_eq_true_eq] at ho
    exact ⟨ho.1.1, ho.1.2⟩
  · have hk : (q.1 - R.CORE_SOBJCFG n 0) / 8 < 256 := by
      obtain ⟨-, hhi⟩ := State.mem_listed hq
      omega
    refine State.Writes.ite (State.Writes.setFld t _ ?_) (State.Writes.refl _ t)
    show R.CORE_SOBJ n 0 ≤ R.CORE_SOBJ n _ ∧ R.CORE_SOBJ n _ < R.CORE_SOBJ n 256
    unfold R.CORE_SOBJ
    omega

theorem State.mem_barriersOf {s : State} {n b : Nat} (h : b ∈ s.barriersOf n) : b < 64 := by
  obtain ⟨p, hp, rfl⟩ := List.mem_map.1 (List.mem_filter.1 h).1
  obtain ⟨-, hhi⟩ := State.mem_listed hp
  omega

/-- A broken barrier changes its status register and what of it is in the fabric. -/
theorem State.breakBarrier_eq (s : State) (b n : Nat) : ∃ t fab, State.Writes {R.BELL_BARSTAT b} s t ∧ s.breakBarrier b n = { t with fab := fab } := by
  unfold State.breakBarrier
  dsimp only
  split_ifs
  · exact ⟨s, s.fab, State.Writes.refl _ s, rfl⟩
  · exact ⟨_, _, (State.Writes.wrapInc (f := R.BELL_BARSTAT_GEN b) s (Set.mem_singleton _)).trans
      (State.Writes.setFld (f := R.BELL_BARSTAT_ARRIVED b) _ 0 (Set.mem_singleton _)), rfl⟩

/-! ### A taken branch as its core and the registers show it -/

theorem State.fld_traceRec (s : State) (c kind val : Nat) {g : Fld} (hg : g.off ≠ R.DBG_TRACESTAT) : (s.traceRec c kind val).fld g = s.fld g := by
  unfold State.traceRec
  dsimp only
  split_ifs
  · rfl
  · rfl
  · exact State.fld_setFld_off _ _ _ _ hg

theorem State.branched_shows (s : State) (c : CoreId) (target : Word) : ∃ t, s.branched c target = .next t ∧ (t.core c).pc = target ∧
    (∀ q, (t.core c).sreg q = (s.core c).sreg q) ∧ t.mem = s.mem ∧ ∀ g : Fld, g.off ≠ R.DBG_TRACESTAT → t.fld g = s.fld g := by
  refine ⟨_, rfl, by rw [State.core_modCore_same], fun q => ?_, by rw [State.modCore_mem, State.traceRec_mem], fun g hg => ?_⟩
  · rw [State.core_modCore_same, State.core_traceRec]
    rfl
  · rw [State.fld_modCore, State.fld_traceRec _ _ _ _ hg]

/-! ### Preserve mode -/

/-- Folding the deltas of a depth changes nothing but the deltas. -/
theorem Core.foldDeltas_eq (k : Core) (depth : Nat) : ∃ d, k.foldDeltas depth = { k with pdelta := d } := by
  unfold Core.foldDeltas
  dsimp only
  split_ifs
  · exact ⟨_, rfl⟩
  · exact ⟨_, rfl⟩

theorem State.fld_pdepth_set (s : State) (c : CoreId) (n : Nat) (hn : n < 8) :
    (s.setFld (R.CORE_BELLSTAT_PDEPTH c) n).fld (R.CORE_BELLSTAT_PDEPTH c) = n := by
  rw [State.fld_setFld _ _ _ (by show 17 + 3 ≤ 64; decide)]
  exact Nat.mod_eq_of_lt hn

theorem bellstat_ne_tracestat (c : CoreId) : (R.CORE_BELLSTAT_PDEPTH c).off ≠ R.DBG_TRACESTAT := by
  show 0x200088 + c.val * 0x10000 ≠ R.DBG_TRACESTAT
  unfold R.DBG_TRACESTAT
  omega

section
variable {c : CoreId} {f : IFields} {s : State} (h : s.Ready c f .s true)
include h

/-- PCALL below the fourth depth enters the next one. -/
theorem execPcall_enters (hl : (f.dst == 0 && f.srcB == 0 && f.mod == 0) = true) (ha : ((s.core c).sreg f.srcA.toNat).toNat % 4 = 0)
    (hd : s.depth c < 4) : execPcall c f s = (((s.modCore c Core.fetched).setFld (R.CORE_BELLSTAT_PDEPTH c) (s.depth c + 1)).modCore c
      (fun k => k.setS 31 (k.pc + 4))).branched c ((s.core c).sreg f.srcA.toNat) := by
  unfold execPcall
  rw [State.runInstr_ready h hl _ ha, State.core_modCore_same, Core.a_fetched]
  have hd' : ¬ 4 ≤ (s.modCore c Core.fetched).depth c := not_le.2 hd
  rw [if_neg hd']
  exact State.branch_aligned ha

theorem execPcall_nested (hl : (f.dst == 0 && f.srcB == 0 && f.mod == 0) = true) (ha : ((s.core c).sreg f.srcA.toNat).toNat % 4 = 0)
    (hd : 4 ≤ s.depth c) : execPcall c f s = .next ((s.modCore c Core.fetched).raise c ⟨0x0A, 0, 0, false, 0⟩ (s.core c).pc) := by
  unfold execPcall
  have hd' : 4 ≤ (s.modCore c Core.fetched).depth c := hd
  rw [State.runInstr_ready h hl _ ha, if_pos hd']
  rfl

/-- PRET whose check passes leaves to s31. -/
theorem execPret_leaves (hx : f.hasExt = false) (ha : ((s.core c).sreg 31).toNat % 4 = 0) (hd : s.depth c ≠ 0)
    (hok : s.pretOk c (s.depth c) = true) : execPret c f s = (((s.modCore c Core.fetched).setFld (R.CORE_BELLSTAT_PDEPTH c)
      (s.depth c - 1)).modCore c (fun k => k.foldDeltas (s.depth c))).branched c ((s.core c).sreg 31) := by
  have hok' : (s.modCore c Core.fetched).pretOk c (s.depth c) = true := by
    rw [← hok]
    unfold State.pretOk State.badDelta Core.delta
    dsimp only
    rw [State.core_modCore_same, Core.fetched_pdelta, Core.fetched_ctx, Core.fetched_watches]
    simp only [Core.queue_fetched]
    rfl
  unfold execPret
  rw [State.runInstr_ready h (by rw [hx]; rfl) _ (by rw [if_pos ⟨hd, hok⟩]; exact ha), State.core_modCore_same, Core.sreg_fetched]
  have hdep : (s.modCore c Core.fetched).depth c = s.depth c := rfl
  dsimp only
  rw [hdep, if_neg hd, if_pos hok']
  exact State.branch_aligned ha

theorem execPret_outside (hx : f.hasExt = false) (hd : s.depth c = 0) :
    execPret c f s = .next ((s.modCore c Core.fetched).raise c ⟨0x0A, 0, 0, false, 0⟩ (s.core c).pc) := by
  have hd' : (s.modCore c Core.fetched).depth c = 0 := hd
  unfold execPret
  rw [State.runInstr_ready h (by rw [hx]; rfl) _ (by rw [if_neg fun hn => hn.1 hd]; rfl)]
  dsimp only
  rw [if_pos hd']
  rfl

end

/-- PRET finds nothing against it: no delta of the depth, no watch and no token of it. -/
theorem State.pretOk_of_clean {s : State} {c depth : Nat} (hdelta : ∀ o, o < 256 → (s.core c).delta depth o = 0)
    (hwatch : ∀ w ∈ (s.core c).watches, w.depth ≠ depth) (hqueue : ∀ e, e < 5 → (s.core c).queue e = []) : s.pretOk c depth = true := by
  have hbad : s.badDelta c depth = none := by
    refine List.find?_eq_none.2 fun o ho => ?_
    rw [hdelta o (List.mem_range.1 ho)]
    exact Bool.false_ne_true
  have hw : (s.core c).watches.any (fun w => w.depth == depth) = false :=
    List.any_eq_false.2 fun w hm => by simpa using hwatch w hm
  have hq : (List.range 5).any (fun e => ((s.core c).queue e).any (tokenAt depth)) = false :=
    List.any_eq_false.2 fun e he => by rw [hqueue e (List.mem_range.1 he)]; exact Bool.false_ne_true
  unfold State.pretOk
  dsimp only
  rw [hbad, hw, hq]
  rfl

/-! ### The context clear -/

/-- A core whose context `ctx` has been cleared, up to the arrivals at barriers (R325, R457). -/
def Core.cleared (ctx : Nat) (k : Core) : Core := { k with
  watches := k.watches.filter (fun w => w.ctx ≠ ctx)
  pend := { k.pend with watch := k.pend.watch.filter (fun w => w.ctx ≠ ctx) }
  t := [], v := [], m := [], vcfg := Core.reset.vcfg, ccfg := Core.reset.ccfg, cres := [] }

/-- What the clear of a context leaves: memory, a new generation of the context, the core without what was the context's (R457). -/
structure State.ContextGone (s t : State) (c : CoreId) : Prop where
  mem : t.mem = s.mem
  gen : t.fld (R.CORE_BELLGEN_CTXGEN c) = (s.fld (R.CORE_BELLGEN_CTXGEN c) + 1) % 256
  core : ∃ a, t.core c = { (s.core c).cleared (s.core c).ctx with arrived := a }

/-- The registers of a context that its clear writes before the barriers: the generation, the objects and the mailboxes. -/
def State.contextRegs (s : State) (c : CoreId) : State :=
  ((s.wrapInc (R.CORE_BELLGEN_CTXGEN c)).objsToBase c
    (fun t k => t.fld (R.CORE_SOBJCFG_OWNER c k) == (s.core c).ctx)).iter 8
      (fun m t => if t.fld (R.CORE_MBOX_OWNER c m) = (s.core c).ctx then t.setFld (R.CORE_MBOX_WIDX c m) 0 else t)

/-- One broken barrier of a context clear. -/
def State.leaveBarrier (ctx : Nat) (c : CoreId) (s : State) (b : Nat) : State :=
  if s.fld (R.BELL_BAR_OWNER b) = ctx ∧ SMap.get (fun _ => 0) (s.core c).arrived b = 1 ∧
      !s.fab.completions.any (fun p => p.1 == b && p.2.1 == c.val) then
    (s.breakBarrier b c).modCore c (fun k => { k with arrived := SMap.set (fun _ => 0) k.arrived b 0 })
  else s

/-- The state of a context clear before the barriers. -/
def State.contextOff (s : State) (c : CoreId) : State :=
  ((s.contextRegs c).modCore c (Core.cleared (s.core c).ctx)).setReg (R.CORE_ENGFLAG c) 0

theorem State.clearContext_eq (s : State) (c : CoreId) : s.clearContext c =
    ((s.contextOff c).barriersOf c).foldl (State.leaveBarrier (s.core c).ctx c) (s.contextOff c) := rfl

/-- The objects and mailboxes put back leave the new generation as it stands. -/
theorem State.contextRegs_writes (s : State) (c : CoreId) :
    State.Writes {o | o ≠ R.CORE_BELLGEN c} (s.wrapInc (R.CORE_BELLGEN_CTXGEN c)) (s.contextRegs c) := by
  refine ((State.objsToBase_writes _ _ _).mono fun o ho => ?_).trans (State.Writes.iter _ _ _ fun m t => State.Writes.ite
    (State.Writes.setFld t _ ?_) (State.Writes.refl _ t))
  · have hlo : R.CORE_SOBJ c 0 ≤ o := ho.1
    unfold R.CORE_SOBJ at hlo
    show o ≠ R.CORE_BELLGEN c
    unfold R.CORE_BELLGEN
    omega
  · show R.CORE_MBOX c m ≠ R.CORE_BELLGEN c
    unfold R.CORE_MBOX R.CORE_BELLGEN
    omega

theorem State.ContextGone.leaveBarrier {s t : State} {c : CoreId} (h : s.ContextGone t c) (ctx : Nat) {b : Nat} (hb : b < 64) :
    s.ContextGone (State.leaveBarrier ctx c t b) c := by
  unfold State.leaveBarrier
  split_ifs
  · obtain ⟨u, fab, hw, heq⟩ := t.breakBarrier_eq b c
    obtain ⟨a, ha⟩ := h.core
    rw [heq]
    refine ⟨hw.mem.trans h.mem, Eq.trans ?_ h.gen, SMap.set (fun _ => 0) a b 0, ?_⟩
    · refine hw.fld (g := R.CORE_BELLGEN_CTXGEN c) ?_
      show R.CORE_BELLGEN c ≠ R.BELL_BARSTAT b
      unfold R.CORE_BELLGEN R.BELL_BARSTAT
      omega
    · have hu : ({ u with fab := fab } : State).core c = t.core c := hw.core c
      rw [State.core_modCore_same, hu, ha]
  · exact h

theorem State.contextGone_clearContext (s : State) (c : CoreId) : s.ContextGone (s.clearContext c) c := by
  have hw := s.contextRegs_writes c
  rw [State.clearContext_eq]
  refine List.foldlRecOn (motive := fun t => s.ContextGone t c) _ _ ⟨?_, ?_, (s.core c).arrived, ?_⟩ fun t ht b hb => ht.leaveBarrier _ (State.mem_barriersOf hb)
  · rw [State.contextOff, State.setReg_mem, State.modCore_mem, hw.mem, State.wrapInc, State.setFld_mem]
  · calc (s.contextOff c).fld (R.CORE_BELLGEN_CTXGEN c)
        = (s.contextRegs c).fld (R.CORE_BELLGEN_CTXGEN c) := by
          rw [State.contextOff, State.fld_setReg, if_neg (by show 0x200084 + c.val * 0x10000 ≠ 0x200030 + c.val * 0x10000; omega), State.fld_modCore]
      _ = (s.wrapInc (R.CORE_BELLGEN_CTXGEN c)).fld (R.CORE_BELLGEN_CTXGEN c) := hw.fld (g := R.CORE_BELLGEN_CTXGEN c) (not_not.2 rfl)
      _ = (s.fld (R.CORE_BELLGEN_CTXGEN c) + 1) % 256 := State.fld_setFld _ _ _ (by show 0 + 8 ≤ 64; decide)
  · rw [State.contextOff, State.core_setReg, State.core_modCore_same, hw.core, State.wrapInc, State.core_setFld]
    rfl

/-! ### The switch -/

/-- The running parts of the engines' queues, kept alone (R457 step 1). -/
def Core.keepRunning (k : Core) : Core :=
  (List.range 5).foldl (fun k e => (if (k.running e).isEmpty then k.wrCsr (0x38 + e) 0 else k).setQueue e (k.running e)) k

/-- With idle engines nothing runs on, and only queues and engine errors are written. -/
theorem Core.keepRunning_idle {k : Core} (h : ∀ e, e < 5 → k.queue e = []) : (∀ e, e < 5 → k.keepRunning.queue e = []) ∧
    ∃ csr queues away, k.keepRunning = { k with csr := csr, queues := queues, away := away } := by
  refine List.foldlRecOn (motive := fun q => (∀ e, e < 5 → Core.queue q e = []) ∧
    ∃ csr queues away, q = { k with csr := csr, queues := queues, away := away }) _ _ ⟨h, _, _, _, rfl⟩ fun q hq e he => ?_
  obtain ⟨hqueue, csr, queues, away, rfl⟩ := hq
  have hrun : Core.running { k with csr := csr, queues := queues, away := away } e = [] := by
    rw [Core.running, hqueue e (List.mem_range.1 he)]
  rw [hrun, if_pos List.isEmpty_nil]
  refine ⟨fun i hi => ?_, _, _, _, rfl⟩
  rw [Core.queue_setQueue]
  split_ifs
  · rfl
  · exact hqueue i hi

/-- The entries behind the running ones discarded and counted. -/
def State.stopEngines (s : State) (c : CoreId) : State :=
  let k := s.core c
  (s.satAdd (R.CORE_BELLSTAT_DISCARDED c) ((List.range 5).map (fun e => (k.queue e).length - (k.running e).length)).sum).modCore c
    Core.keepRunning

/-- The switch proper: the leaving context cleared and CTX the other. -/
def State.switchTo (s : State) (c : CoreId) (ctx : Nat) : State := (s.clearContext c).modCore c (fun k => { k with ctx := ctx })

theorem execCtxsw_eq (c : CoreId) (f : IFields) (s : State) : execCtxsw c f s = .next (s.runInstr c f .m true (!f.hasExt) (fun s =>
    if (List.range 5).all (fun e => (((s.stopEngines c).core c).queue e).isEmpty) then
      .done ((s.stopEngines c).switchTo c ((s.core c).a f).toNat)
    else .stay (s.stopEngines c)) (valid := fun s => ((s.core c).a f).toNat < 4 && s.depth c == 0)) := rfl

/-- With idle engines only queues and engine errors of the core are written before the switch. -/
theorem State.core_stopEngines {s : State} {c : CoreId} (h : ∀ e, e < 5 → (s.core c).queue e = []) :
    (∀ e, e < 5 → ((s.stopEngines c).core c).queue e = []) ∧
    ∃ csr queues away, (s.stopEngines c).core c = { s.core c with csr := csr, queues := queues, away := away } := by
  have hk : (s.stopEngines c).core c = (s.core c).keepRunning := by
    rw [State.stopEngines, State.core_modCore_same, State.satAdd, State.core_setFld]
  rw [hk]
  exact Core.keepRunning_idle h

theorem execCtxsw_idle {c : CoreId} {f : IFields} {s : State} (h : s.Ready c f .m true) (hx : f.hasExt = false)
    (ha : ((s.core c).sreg f.srcA.toNat).toNat < 4) (hd : s.depth c = 0) (hq : ∀ e, e < 5 → (s.core c).queue e = []) :
    execCtxsw c f s = .next ((((s.modCore c Core.fetched).stopEngines c).switchTo c ((s.core c).sreg f.srcA.toNat).toNat).advance c
      ((s.core c).pc + 4)) := by
  have hv : (decide (((s.core c).a f).toNat < 4) && s.depth c == 0) = true := by
    rw [hd, Core.a, decide_eq_true ha]
    rfl
  have hidle : (List.range 5).all (fun e => ((((s.modCore c Core.fetched).stopEngines c).core c).queue e).isEmpty) = true := by
    refine List.all_eq_true.2 fun e he => List.isEmpty_iff.2 ((State.core_stopEngines fun i hi => ?_).1 e (List.mem_range.1 he))
    rw [State.core_modCore_same, Core.queue_fetched, hq i hi]
  have hlen : w64 f.len = 4 := by
    rw [IFields.len, hx]
    rfl
  rw [execCtxsw_eq, State.runInstr_ready h (by rw [hx]; rfl) _ rfl hv, if_pos hidle, State.core_modCore_same, Core.a_fetched, Core.a, ← hlen]
  rfl

/-- A core after a context switch from `k`, up to the engines' queues and errors and the arrivals at barriers. -/
def Core.switched (k : Core) (csr : SMap Word) (queues : SMap (List Entry)) (away : SMap (Option AwayRd)) (arrived : SMap Nat) (ctx : Nat)
    (pc : Word) : Core :=
  { ({ ({ k with csr := csr, queues := queues, away := away } : Core).cleared k.ctx with arrived := arrived, ctx := ctx } : Core).retire with
    pc := pc, stw := .run }

theorem Core.switched_shows (k : Core) (csr : SMap Word) (queues : SMap (List Entry)) (away : SMap (Option AwayRd)) (arrived : SMap Nat)
    (ctx : Nat) (pc : Word) : let q := k.switched csr queues away arrived ctx pc
    q.ctx = ctx ∧ q.pc = pc ∧ q.watches = k.watches.filter (fun w => w.ctx ≠ k.ctx) ∧ q.t = [] ∧ q.v = [] ∧ q.m = [] ∧ q.cres = [] ∧
      ∀ r, q.sreg r = k.sreg r := ⟨rfl, rfl, rfl, rfl, rfl, rfl, rfl, fun _ => rfl⟩

/-- What the switch leaves of a state whose engines have stopped. -/
theorem State.switchTo_shows (s : State) (c : CoreId) (ctx : Nat) (pc : Word) :
    let t := (s.switchTo c ctx).advance c pc
    t.mem = s.mem ∧ t.fld (R.CORE_BELLGEN_CTXGEN c) = (s.fld (R.CORE_BELLGEN_CTXGEN c) + 1) % 256 ∧
      ∃ a, t.core c = { ({ (s.core c).cleared (s.core c).ctx with arrived := a, ctx := ctx } : Core).retire with pc := pc, stw := .run } := by
  obtain ⟨hmem, hgen, a, hcore⟩ := s.contextGone_clearContext c
  refine ⟨?_, ?_, a, ?_⟩
  · rw [State.advance_mem, State.switchTo, State.modCore_mem, hmem]
  · rw [State.advance, State.fld_modCore, State.switchTo, State.fld_modCore, hgen]
  · rw [State.advance_core, if_pos rfl, State.switchTo, State.core_modCore_same, hcore]

/-- Settles O16. -/
theorem contextAndPreserve : Obligations.ContextAndPreserve := by
  intro c f s hx k a depth trap
  refine ⟨fun h ha hd hq => ?_, fun h hd hb hm ha => ⟨fun hlt => ?_, fun hge => ?_⟩, fun h => ⟨fun hd hr hdelta hwatch hq => ?_, fun hd => ?_⟩⟩
  · obtain ⟨hmem, hgen, arr, hcore⟩ := ((s.modCore c Core.fetched).stopEngines c).switchTo_shows c a.toNat (k.pc + 4)
    obtain ⟨-, csr, queues, away, hk⟩ := State.core_stopEngines (s := s.modCore c Core.fetched) (c := c) fun e he => by
      rw [State.core_modCore_same, Core.queue_fetched, hq e he]
    rw [State.core_modCore_same] at hk
    rw [hk] at hcore
    have hgen' : ((s.modCore c Core.fetched).stopEngines c).fld (R.CORE_BELLGEN_CTXGEN c) = s.fld (R.CORE_BELLGEN_CTXGEN c) := by
      rw [State.stopEngines, State.fld_modCore, State.satAdd, State.fld_setFld_off, State.fld_modCore]
      show 0x200084 + c.val * 0x10000 ≠ 0x200088 + c.val * 0x10000
      omega
    have hmem' : ((s.modCore c Core.fetched).stopEngines c).mem = s.mem := by
      rw [State.stopEngines, State.modCore_mem, State.satAdd, State.setFld_mem, State.modCore_mem]
    rw [hgen'] at hgen
    rw [hmem'] at hmem
    have he := execCtxsw_idle h hx ha hd hq
    generalize (((s.modCore c Core.fetched).stopEngines c).switchTo c a.toNat).advance c (k.pc + 4) = t at he hmem hgen hcore
    obtain ⟨hctx, hpc, hwatch, hT, hV, hM, hres, hsreg⟩ := k.fetched.switched_shows csr queues away arr a.toNat (k.pc + 4)
    have hcore' : t.core c = k.fetched.switched csr queues away arr a.toNat (k.pc + 4) := hcore
    rw [← hcore'] at hctx hpc hwatch hT hV hM hres hsreg
    refine ⟨t, he, hctx, hpc, hgen, fun w => ?_, hT, hV, hM, hres, fun q => (hsreg q).trans (k.sreg_fetched q), hmem⟩
    rw [hwatch, Core.fetched_watches, Core.fetched_ctx, List.mem_filter, decide_eq_true_iff]
  · have hl : (f.dst == 0 && f.srcB == 0 && f.mod == 0) = true := by simp [hd, hb, hm]
    obtain ⟨t, ht, hpc, hsreg, hmem, hfld⟩ := State.branched_shows (((s.modCore c Core.fetched).setFld (R.CORE_BELLSTAT_PDEPTH c)
      (s.depth c + 1)).modCore c (fun k => k.setS 31 (k.pc + 4))) c a
    refine ⟨t, (execPcall_enters h hl ha hlt).trans ht, hpc, ?_, fun q => ?_, by rw [hmem, State.modCore_mem, State.setFld_mem, State.modCore_mem]⟩
    · rw [hfld _ (bellstat_ne_tracestat c), State.fld_modCore]
      exact State.fld_pdepth_set _ c _ (Nat.lt_of_lt_of_le (Nat.succ_lt_succ hlt) (by decide))
    · rw [hsreg, State.core_modCore_same, State.core_setFld, State.core_modCore_same, Core.sreg_setS, Core.fetched_pc, Core.sreg_fetched]
      rfl
  · exact execPcall_nested h (by simp [hd, hb, hm]) ha hge
  · have hok : s.pretOk c (s.depth c) = true := State.pretOk_of_clean hdelta hwatch hq
    obtain ⟨t, ht, hpc, hsreg, hmem, hfld⟩ := State.branched_shows (((s.modCore c Core.fetched).setFld (R.CORE_BELLSTAT_PDEPTH c)
      (s.depth c - 1)).modCore c (fun k => k.foldDeltas (s.depth c))) c (k.sreg 31)
    refine ⟨t, (execPret_leaves h hx hr hd hok).trans ht, hpc, ?_, fun q => ?_, by rw [hmem, State.modCore_mem, State.setFld_mem, State.modCore_mem]⟩
    · rw [hfld _ (bellstat_ne_tracestat c), State.fld_modCore]
      exact State.fld_pdepth_set _ c _ (lt_of_le_of_lt (Nat.sub_le _ _) (State.fld_lt s (R.CORE_BELLSTAT_PDEPTH c)))
    · obtain ⟨d, hfold⟩ := k.fetched.foldDeltas_eq (s.depth c)
      rw [hsreg, State.core_modCore_same, State.core_setFld, State.core_modCore_same, hfold]
      exact k.sreg_fetched q
  · exact execPret_outside h hx hd

end Sys2Proof.Machine
end

section
-- One proof after another: what waits for another costs the check memory.
set_option Elab.async false
/-! SUPPORT. Barriers -/
namespace Sys2Proof.Machine

/-! ### The Steward after an instruction -/

theorem IFields.w64_len {f : IFields} (hx : f.hasExt = false) : w64 f.len = 4 := by
  rw [IFields.len, hx]
  rfl

theorem State.core_advance_same (s : State) (c : Nat) (pc : Word) : (s.advance c pc).core c = { (s.core c).retire with pc := pc, stw := .run } := by
  rw [State.advance_core, if_pos rfl]

@[simp] theorem State.advance_fab (s : State) (c : Nat) (pc : Word) : (s.advance c pc).fab = s.fab := rfl

@[simp] theorem State.fld_advance (s : State) (c : Nat) (pc : Word) (g : Fld) : (s.advance c pc).fld g = s.fld g := rfl

/-- The state with other transactions in the fabric. -/
def State.withFab (s : State) (x : Fabric) : State := { s with fab := x }

section
variable (s : State) (x : Fabric)
@[simp] theorem State.core_withFab (n : Nat) : (s.withFab x).core n = s.core n := rfl
@[simp] theorem State.fld_withFab (g : Fld) : (s.withFab x).fld g = s.fld g := rfl
@[simp] theorem State.fab_withFab : (s.withFab x).fab = x := rfl
@[simp] theorem State.regs_withFab : (s.withFab x).regs = s.regs := rfl
@[simp] theorem State.mem_withFab : (s.withFab x).mem = s.mem := rfl
end

/-! ### Single bits of a field -/

theorem bit_eq_testBit (x i : Nat) : bit x i = x.testBit i := by
  rw [bit, Nat.testBit_eq_decide_div_mod_eq]
  rfl

/-- What a number with bit `i` added where it was 0 has in its bits. -/
theorem testBit_add_two_pow {x i : Nat} (h : x.testBit i = false) (j : Nat) : (x + 2 ^ i).testBit j = (decide (j = i) || x.testBit j) := by
  obtain ⟨q, r, hr, hx⟩ : ∃ q r, r < 2 ^ i ∧ x = 2 ^ i * q + r := ⟨x / 2 ^ i, x % 2 ^ i, Nat.mod_lt _ (Nat.two_pow_pos i), (Nat.div_add_mod x _).symm⟩
  have hq : q % 2 = 0 := by
    rw [hx, Nat.testBit_two_pow_mul_add _ hr, if_neg (lt_irrefl i), Nat.sub_self, Nat.testBit_zero] at h
    simpa using h
  have hadd : x + 2 ^ i = 2 ^ i * (q + 1) + r := by rw [hx]; ring
  rw [hadd, hx, Nat.testBit_two_pow_mul_add _ hr, Nat.testBit_two_pow_mul_add _ hr]
  rcases lt_trichotomy j i with hj | rfl | hj
  · rw [if_pos hj, if_pos hj, decide_eq_false hj.ne, Bool.false_or]
  · rw [if_neg (lt_irrefl j), Nat.sub_self, Nat.testBit_zero, decide_eq_true (show (q + 1) % 2 = 1 by omega)]
    simp
  · obtain ⟨d, rfl⟩ := Nat.exists_eq_add_of_lt hj
    rw [if_neg hj.not_gt, if_neg hj.not_gt, decide_eq_false hj.ne', Bool.false_or, show i + d + 1 - i = d + 1 by omega, Nat.testBit_add_one,
      Nat.testBit_add_one, show (q + 1) / 2 = q / 2 by omega]

theorem bit_setBit (x i j : Nat) : bit (setBit x i) j = (decide (j = i) || bit x j) := by
  unfold setBit
  split_ifs with hi
  · by_cases hj : j = i
    · rw [hj, hi, Bool.or_true]
    · rw [decide_eq_false hj, Bool.false_or]
  · rw [bit_eq_testBit] at hi ⊢
    rw [testBit_add_two_pow (Bool.eq_false_iff.2 hi), bit_eq_testBit]

theorem bit_clrBit (x i j : Nat) : bit (clrBit x i) j = (decide (j ≠ i) && bit x j) := by
  unfold clrBit
  split_ifs with hi
  · have hodd : x / 2 ^ i % 2 = 1 := by simpa [bit] using hi
    have hle : 2 ^ i ≤ x := by
      by_contra hlt
      rw [Nat.div_eq_of_lt (not_le.1 hlt)] at hodd
      exact absurd hodd (by decide)
    have hclr : (x - 2 ^ i).testBit i = false := by
      have hx : x = (x - 2 ^ i) + 2 ^ i := by omega
      rw [hx, Nat.add_div_right _ (Nat.two_pow_pos i)] at hodd
      rw [Nat.testBit_eq_decide_div_mod_eq, decide_eq_false (by omega)]
    have hj := testBit_add_two_pow hclr j
    rw [Nat.sub_add_cancel hle] at hj
    rw [bit_eq_testBit, bit_eq_testBit, hj]
    by_cases he : j = i
    · rw [he, hclr]
      simp
    · simp [he]
  · by_cases hj : j = i
    · rw [hj, Bool.eq_false_iff.2 hi, Bool.and_false]
    · rw [decide_eq_true hj, Bool.true_and]

/-! ### Arrivals -/

@[simp] theorem Core.arrival_setArrival (k : Core) (n m v : Nat) : (k.setArrival n v).arrival m = if m = n then v else k.arrival m :=
  SMap.get_set _ _ _ _ _

theorem State.arrival_setArrival (s : State) (c n v : Nat) : ((s.modCore c (fun k => k.setArrival n v)).core c).arrival n = v := by
  rw [State.core_modCore_same, Core.arrival_setArrival, if_pos rfl]

theorem Core.arrival_moved (k : Core) (n : Nat) (pc : Word) (w : Stw) : ({ k.retire with pc := pc, stw := w } : Core).arrival n = k.arrival n := rfl

theorem Core.arrival_fetched (k : Core) (n : Nat) : k.fetched.arrival n = k.arrival n := k.fetched_congr (Core.arrival · n) fun _ _ => rfl

section
variable {c : CoreId} {f : IFields} {s : State}

theorem State.barrierArg_fetched : (s.modCore c Core.fetched).barrierArg c f = s.barrierArg c f := by
  unfold State.barrierArg Core.slotCls
  dsimp only
  rw [State.core_modCore_same, Core.a_fetched, Core.fetched_ctx, Core.fetched_slot]
  rfl

theorem State.barrierArg_bad {n : Fin 64} (hn : ((s.core c).sreg f.srcA.toNat).toNat = n)
    (h : s.flag (R.BELL_BAR_VALID n) = false ∨ s.fld (R.BELL_BAR_OWNER n) ≠ (s.core c).ctx ∨ bit (s.fld (R.BELL_BAR_CORES n)) c = false) :
    s.barrierArg c f = .error bsBAD_BARRIER := by
  have hbad : (!s.flag (R.BELL_BAR_VALID n) || s.fld (R.BELL_BAR_OWNER n) != (s.core c).ctx || !bit (s.fld (R.BELL_BAR_CORES n)) c) = true := by
    obtain h | h | h := h
    · rw [h]; rfl
    · rw [bne_iff_ne.2 h, Bool.or_true, Bool.true_or]
    · rw [h, Bool.not_false, Bool.or_true]
  unfold State.barrierArg
  dsimp only
  rw [Core.a, hn, if_neg n.isLt.not_ge, if_pos hbad]

theorem State.barrierArg_ok {n : Fin 64} (hn : ((s.core c).sreg f.srcA.toNat).toNat = n) (hv : s.flag (R.BELL_BAR_VALID n) = true)
    (ho : s.fld (R.BELL_BAR_OWNER n) = (s.core c).ctx) (hc : bit (s.fld (R.BELL_BAR_CORES n)) c = true)
    (hp : s.flag (R.BELL_BAR_PRIV n) = false) : s.barrierArg c f = .ok n.val := by
  unfold State.barrierArg
  dsimp only
  rw [Core.a, hn, if_neg n.isLt.not_ge, hv, ho, hc, hp]
  simp

/-- A barrier that is refused raises SYNC with the status. -/
theorem execBara_refused (h : s.Ready c f .u false) (hx : f.hasExt = false) {e : Nat} (hb : s.barrierArg c f = .error e) :
    execBara c f s = .next ((s.modCore c Core.fetched).raise c ⟨0x09, e, 0, false, 0⟩ (s.core c).pc) := by
  unfold execBara
  rw [State.runInstr_ready h (by rw [hx]; rfl), State.barrierArg_fetched, hb]
  rfl

theorem execBarw_refused (h : s.Ready c f .u false) (hx : f.hasExt = false) {e : Nat} (hb : s.barrierArg c f = .error e) :
    execBarw c f s = .next ((s.modCore c Core.fetched).raise c ⟨0x09, e, 0, false, 0⟩ (s.core c).pc) := by
  unfold execBarw
  rw [State.runInstr_ready h (by rw [hx]; rfl), State.barrierArg_fetched, hb]
  rfl

/-- BARA at a barrier that takes it: the arrival sets out, unless one of this generation has. -/
theorem execBara_taken (h : s.Ready c f .u false) (hx : f.hasExt = false) {n : Nat} (hb : s.barrierArg c f = .ok n) :
    execBara c f s = .next (if (s.core c).arrival n = 1 then
      (s.modCore c Core.fetched).raise c ⟨0x09, 0x37, 0, false, 0⟩ (s.core c).pc
    else (((s.modCore c Core.fetched).modCore c (fun k => k.setArrival n 1)).withFab
      { s.fab with arrivals := s.fab.arrivals ++ [(n, c.val)] }).advance c ((s.core c).pc + 4)) := by
  unfold execBara
  rw [State.runInstr_ready h (by rw [hx]; rfl), State.barrierArg_fetched, hb]
  dsimp only
  rw [State.core_modCore_same, Core.arrival_fetched, ← IFields.w64_len hx]
  split_ifs <;> rfl

/-- What BARW leads to, by what the core knows of its own arrival (R240, R478). -/
def State.barwEnd (s : State) (c : CoreId) (f : IFields) (n : Nat) : Nat → State
  | 0 => (s.modCore c Core.fetched).raise c ⟨0x09, 0x36, 0, false, 0⟩ (s.core c).pc
  | 1 => (s.modCore c Core.fetched).modCore c (fun k => { k with stw := .waitBar n })
  | 2 => s.retired c f (fun q => q.setArrival n 0)
  | _ => ((s.modCore c Core.fetched).modCore c (fun q => q.setArrival n 0)).raise c ⟨0x09, 0x04, 0, false, 0⟩ (s.core c).pc

theorem execBarw_taken (h : s.Ready c f .u false) (hx : f.hasExt = false) {n : Nat} (hb : s.barrierArg c f = .ok n) :
    execBarw c f s = .next (s.barwEnd c f n ((s.core c).arrival n)) := by
  unfold execBarw
  rw [State.runInstr_ready h (by rw [hx]; rfl), State.barrierArg_fetched, hb]
  dsimp only
  rw [State.core_modCore_same, Core.arrival_fetched]
  generalize (s.core c).arrival n = v
  match v with
  | 0 => rfl
  | 1 => rfl
  | 2 => rfl
  | _ + 3 => rfl

end

/-! ### Generations -/

/-- A barrier's generation counted and its arrivals gone. -/
def State.nextGeneration (s : State) (n : Nat) : State := (s.wrapInc (R.BELL_BARSTAT_GEN n)).setFld (R.BELL_BARSTAT_ARRIVED n) 0

theorem State.nextGeneration_fab (s : State) (n : Nat) : (s.nextGeneration n).fab = s.fab := by
  rw [State.nextGeneration, State.wrapInc, State.setFld_fab, State.setFld_fab]

theorem State.fld_gen_completed (s : State) (n : Nat) : (s.nextGeneration n).fld (R.BELL_BARSTAT_GEN n) =
      (s.fld (R.BELL_BARSTAT_GEN n) + 1) % 65536 := by
  rw [State.nextGeneration, State.fld_setFld_other _ _ _ _ (by show 0 + 16 ≤ 64; decide) (.inr (.inl (le_refl 16)))]
  exact State.fld_setFld _ _ _ (by show 16 + 16 ≤ 64; decide)

theorem State.fld_arrived_set (s : State) (n v : Nat) (hv : v < 65536) :
    (s.setFld (R.BELL_BARSTAT_ARRIVED n) v).fld (R.BELL_BARSTAT_ARRIVED n) = v := by
  rw [State.fld_setFld _ _ _ (by show 0 + 16 ≤ 64; decide)]
  exact Nat.mod_eq_of_lt hv

theorem State.fld_arrived_completed (s : State) (n : Nat) : (s.nextGeneration n).fld (R.BELL_BARSTAT_ARRIVED n) = 0 :=
  State.fld_arrived_set _ n 0 (by decide)

/-- The core's arrival counted. -/
def State.arrive (s : State) (n : Fin 64) (c : CoreId) : State :=
  (s.withFab { s.fab with arrivals := s.fab.arrivals.erase (n.val, c.val) }).fldBitSet (R.BELL_BARSTAT_ARRIVED n) c

theorem State.fld_arrive (s : State) (n : Fin 64) (c : CoreId) {g : Fld} (hg : g.off ≠ R.BELL_BARSTAT n) : (s.arrive n c).fld g = s.fld g :=
  State.fld_setFld_off _ _ _ _ hg

theorem setBit_lt {x i w : Nat} (hx : x < 2 ^ w) (hi : i < w) : setBit x i < 2 ^ w := by
  refine Nat.lt_pow_two_of_testBit _ fun j hj => ?_
  rw [← bit_eq_testBit, bit_setBit, decide_eq_false (by omega), Bool.false_or, bit_eq_testBit]
  exact Nat.testBit_lt_two_pow (hx.trans_le (Nat.pow_le_pow_right (by decide) hj))

theorem State.arrived_arrive (s : State) (n : Fin 64) (c : CoreId) :
    (s.arrive n c).fld (R.BELL_BARSTAT_ARRIVED n) = setBit (s.fld (R.BELL_BARSTAT_ARRIVED n)) c :=
  State.fld_arrived_set _ _ _ (setBit_lt (w := 16) (State.fld_lt _ _) c.isLt)

/-- The last arrival at a barrier of this device alone completes its generation. -/
theorem execBarrierArrival_last {s : State} {n : Fin 64} {c : CoreId} (hm : (n.val, c.val) ∈ s.fab.arrivals) (hd : s.fld (R.BELL_BAR_DEVS n) = 0)
    (hall : ∀ i, i < 16 → bit (s.fld (R.BELL_BAR_CORES n)) i = true → i = c.val ∨ bit (s.fld (R.BELL_BARSTAT_ARRIVED n)) i = true) :
    execBarrierArrival n (.core c) s = .next ((s.arrive n c).completeBarrier n) := by
  have hoff : R.BELL_BAR n ≠ R.BELL_BARSTAT n := by
    unfold R.BELL_BAR R.BELL_BARSTAT
    omega
  have hd' : (s.arrive n c).fld (R.BELL_BAR_DEVS n) = 0 := (s.fld_arrive n c hoff).trans hd
  have hca : (s.arrive n c).fld (R.BELL_BAR_CORES n) = s.fld (R.BELL_BAR_CORES n) := s.fld_arrive n c hoff
  have hbit0 (i : Nat) : bit 0 i = false := by rw [bit_eq_testBit, Nat.zero_testBit]
  have hbroken : (s.arrive n c).barBroken n = false := by
    refine List.any_eq_false.2 fun i _ => ?_
    rw [hd', hbit0, Bool.false_and]
    exact Bool.false_ne_true
  have hcounter : (s.arrive n c).ringCounterHere n = true := by
    unfold State.ringCounterHere
    rw [hd']
    rfl
  have harrived : (s.arrive n c).allArrived n = true := by
    unfold State.allArrived
    dsimp only
    rw [hd', hca, s.arrived_arrive]
    refine Bool.and_eq_true_iff.2 ⟨List.all_eq_true.2 fun i hi => ?_, List.all_eq_true.2 fun i _ => by rw [hbit0]; rfl⟩
    rw [bit_setBit]
    cases hb : bit (s.fld (R.BELL_BAR_CORES n)) i with
    | false => rfl
    | true =>
      obtain he | ha := hall i (List.mem_range.1 hi) hb
      · rw [decide_eq_true he]; rfl
      · rw [ha, Bool.or_true]; rfl
  unfold execBarrierArrival
  dsimp only
  rw [if_pos (List.contains_iff_mem.2 hm)]
  change (Host.Outcome.next (if (s.arrive n c).barBroken n = true then _ else if ((s.arrive n c).ringCounterHere n &&
    (s.arrive n c).allArrived n) = true then _ else _) : Step) = _
  rw [hbroken, hcounter, harrived]
  rfl

theorem execBarrierCompletion_known {s : State} {n : Fin 64} {c : CoreId} {p : Nat × Nat × Bool} (ended : Bool)
    (hp : s.fab.completions.find? (fun p => p.1 == n.val && p.2.1 == c.val) = some p) :
    execBarrierCompletion n ⟨c, ended⟩ s = .next ((s.modCore c (fun k => k.setArrival n (if p.2.2 then 3 else 2))).withFab
      { s.fab with completions := s.fab.completions.erase p }) := by
  have hany : (s.fab.completions.any (fun p => p.1 == n.val)) = true := by
    have hpn := List.find?_some hp
    simp only [Bool.and_eq_true] at hpn
    exact List.any_eq_true.2 ⟨p, List.mem_of_find?_eq_some hp, hpn.1⟩
  have hs : s.ringCompletion n ended = s := by
    unfold State.ringCompletion
    dsimp only
    rw [if_pos (by rw [hany, Bool.or_true])]
  unfold execBarrierCompletion
  dsimp only
  rw [hs, hp]
  rfl

/-- The completions of a barrier to the cores that a mask names. -/
def barrierEnds (n : Nat) (p : Nat → Bool) (bad : Bool) : List (Nat × Nat × Bool) := ((List.range 16).filter p).map (fun i => (n, i, bad))

theorem mem_barrierEnds {n : Nat} {p : Nat → Bool} {bad : Bool} {x : Nat × Nat × Bool} :
    x ∈ barrierEnds n p bad ↔ ∃ i, i < 16 ∧ p i = true ∧ (n, i, bad) = x := by
  simp only [barrierEnds, List.mem_map, List.mem_filter, List.mem_range, and_assoc]

theorem State.completeBarrier_eq (s : State) (n : Nat) (bad : Bool) : s.completeBarrier n bad = (s.nextGeneration n).withFab
    { (s.nextGeneration n).fab with
      ringArrived := SMap.set (fun _ => 0) (s.nextGeneration n).fab.ringArrived n 0
      completions := (s.nextGeneration n).fab.completions ++ barrierEnds n (fun i => bit (s.fld (R.BELL_BAR_CORES n)) i) bad } :=
  rfl

/-- What the completion of a generation leaves (R478). -/
theorem State.completeBarrier_shows (s : State) (n : Fin 64) (bad : Bool) : let t := s.completeBarrier n bad
    t.fab.arrivals = s.fab.arrivals ∧ t.fld (R.BELL_BARSTAT_GEN n) = (s.fld (R.BELL_BARSTAT_GEN n) + 1) % 65536 ∧
      t.fld (R.BELL_BARSTAT_ARRIVED n) = 0 ∧
      ∀ i, i < 16 → bit (s.fld (R.BELL_BAR_CORES n)) i = true → (n.val, i, bad) ∈ t.fab.completions := by
  intro t
  have ht := s.completeBarrier_eq n bad
  rw [show t = s.completeBarrier n bad from rfl, ht, State.fab_withFab, State.fld_withFab, State.fld_withFab, s.fld_gen_completed, s.fld_arrived_completed,
    State.nextGeneration_fab]
  exact ⟨rfl, rfl, rfl, fun i hi hb => List.mem_append_right _ (mem_barrierEnds.2 ⟨i, hi, hb, rfl⟩)⟩

/-- The one member that a search can find is what it finds. -/
theorem find?_eq_some_of_unique {α : Type} {p : α → Bool} {l : List α} {a : α} (hm : a ∈ l) (hp : p a = true)
    (hu : ∀ b ∈ l, p b = true → b = a) : l.find? p = some a := by
  obtain ⟨b, hb⟩ := Option.isSome_iff_exists.1 (List.find?_isSome.2 ⟨a, hm, hp⟩)
  rw [hb, hu b (List.mem_of_find?_eq_some hb) (List.find?_some hb)]

section
variable {s : State} {n : Fin 64} {c : CoreId} (hb : bit (s.fld (R.BELL_BARSTAT_ARRIVED n)) c = true)
include hb

/-- Whether a generation ended from outside the device reaches a core. -/
def State.cutOff (s : State) (n i : Nat) : Bool := (bit (s.fld (R.BELL_BARSTAT_ARRIVED n)) i || s.fab.arrivals.contains (n, i)) && i != 16

theorem State.breakBarrier_arrived : let t := s.breakBarrier n 16
    t.fld (R.BELL_BARSTAT_ARRIVED n) = 0 ∧ t.fab.completions = s.fab.completions ++ barrierEnds n (s.cutOff n) true := by
  have hne : ¬ (s.fld (R.BELL_BARSTAT_ARRIVED n) = 0 ∧ (s.fab.arrivals.filter (·.1 = n.val)).isEmpty = true) := fun h => by
    rw [h.1, bit_eq_testBit, Nat.zero_testBit] at hb
    cases hb
  intro t
  have ht : t = (s.nextGeneration n).withFab { (s.nextGeneration n).fab with
      arrivals := (s.nextGeneration n).fab.arrivals.filter (·.1 ≠ n.val)
      ringArrived := SMap.set (fun _ => 0) (s.nextGeneration n).fab.ringArrived n 0
      completions := (s.nextGeneration n).fab.completions ++ barrierEnds n (s.cutOff n) true } := if_neg hne
  rw [ht, State.fld_withFab, State.fab_withFab, s.fld_arrived_completed, State.nextGeneration_fab]
  exact ⟨rfl, rfl⟩

omit hb in
theorem State.cutOff_of_arrived {i : Nat} (hi : i < 16) (h : bit (s.fld (R.BELL_BARSTAT_ARRIVED n)) i = true) : s.cutOff n i = true := by
  rw [State.cutOff, h, Bool.true_or, Bool.true_and, bne_iff_ne]
  exact hi.ne

/-- A reset of a part of another device ends the generation for every core that has arrived (R142). -/
theorem execBarrierCompletion_ended (hv : s.flag (R.BELL_BAR_VALID n) = true) (hnone : ∀ p ∈ s.fab.completions, p.1 ≠ n.val)
    (hdev : ∃ i, i < 16 ∧ bit (s.fld (R.BELL_BAR_DEVS n)) i = true ∧ i ≠ s.fld R.NIM_CFG_SELF) :
    execBarrierCompletion n ⟨c, true⟩ s = .next (((s.breakBarrier n 16).modCore c (fun k => k.setArrival n 3)).withFab
      { (s.breakBarrier n 16).fab with completions := (s.breakBarrier n 16).fab.completions.erase (n.val, c.val, true) }) := by
  have habroad : s.barAbroad n = true := by
    obtain ⟨i, hi, hbit, hne⟩ := hdev
    exact List.any_eq_true.2 ⟨i, List.mem_range.2 hi, by rw [hbit, bne_iff_ne.2 hne]; rfl⟩
  have hany : (s.fab.completions.any (fun p => p.1 == n.val)) = false :=
    List.any_eq_false.2 fun p hp => by simpa using hnone p hp
  have hs : s.ringCompletion n true = s.breakBarrier n 16 := by
    unfold State.ringCompletion
    dsimp only
    rw [hv, hany, if_neg (by decide), if_pos rfl, if_pos habroad]
  have hfind : (s.breakBarrier n 16).fab.completions.find? (fun p => p.1 == n.val && p.2.1 == c.val) = some (n.val, c.val, true) := by
    rw [(State.breakBarrier_arrived hb).2]
    refine find?_eq_some_of_unique (List.mem_append_right _ (mem_barrierEnds.2 ⟨c, c.isLt, State.cutOff_of_arrived c.isLt hb, rfl⟩)) (by simp) fun p hp hpn => ?_
    simp only [Bool.and_eq_true, beq_iff_eq] at hpn
    obtain hp | hp := List.mem_append.1 hp
    · exact absurd hpn.1 (hnone p hp)
    · obtain ⟨i, -, -, rfl⟩ := mem_barrierEnds.1 hp
      rw [← hpn.2]
  unfold execBarrierCompletion
  dsimp only
  rw [hs, hfind]
  rfl

end

/-- A barrier wait whose generation has completed is released (R478). -/
theorem execWaitRelease_barrier {s : State} {c : CoreId} {n : Nat} (hw : (s.core c).stw = .waitBar n) (hdbg : (s.core c).dbgHalt = false)
    (ha : (s.core c).arrival n = 2) : execWaitRelease c 5 s = .next ((s.modCore c (fun k => k.setArrival n 0)).releaseSteward c) := by
  unfold execWaitRelease
  rw [if_neg (by decide)]
  dsimp only
  rw [hdbg, if_neg Bool.false_ne_true, hw]
  dsimp only
  rw [if_pos ha]

/-- Settles O18. -/
theorem barriers : Obligations.Barriers := by
  intro c f s n k arr s1 sync
  refine ⟨fun h hx hn => ⟨fun hbad => ?_, fun hv ho hc hp => ?_⟩, fun hm hd hall => ?_, fun p ended hp => ?_, fun hv hnone hdev hb => ?_,
    fun hw hdbg ha => ?_⟩
  · exact ⟨execBara_refused h hx (State.barrierArg_bad hn hbad), execBarw_refused h hx (State.barrierArg_bad hn hbad)⟩
  · have hok := State.barrierArg_ok hn hv ho hc hp
    have hbara := execBara_taken h hx hok
    have hbarw {v : Nat} (ha : arr k = v) : exec (.barw c f) s = .next (s.barwEnd c f n v) :=
      ha ▸ execBarw_taken h hx hok
    refine ⟨fun ha => ⟨_, hbara.trans (congrArg _ (if_neg ha)), ?_, ?_, ?_, ?_, ?_⟩, fun ha => hbara.trans (congrArg _ (if_pos ha)), hbarw,
      fun ha => ⟨_, hbarw ha, ?_, ?_, ?_⟩, hbarw, hbarw⟩
    · show Core.arrival _ n = 1
      rw [State.core_advance_same, State.core_withFab, Core.arrival_moved, State.arrival_setArrival]
    · rw [State.advance_fab, State.fab_withFab]
    · rw [State.core_advance_same]
    · rw [State.advance_regs, State.regs_withFab, State.modCore_regs, State.modCore_regs]
    · rw [State.advance_mem, State.mem_withFab, State.modCore_mem, State.modCore_mem]
    · rw [State.barwEnd, State.core_modCore_same]
    · rw [State.barwEnd, State.core_modCore_same, State.core_modCore_same, Core.fetched_pc]
    · rw [State.barwEnd, State.modCore_regs, State.modCore_regs]
  · obtain ⟨harr, hgen, harrived, hmem⟩ := (s.arrive n c).completeBarrier_shows n false
    refine ⟨_, execBarrierArrival_last hm hd hall, harr, hgen.trans ?_, harrived, fun i hi hb => hmem i hi (Eq.trans ?_ hb)⟩
    · have hg : (s.arrive n c).fld (R.BELL_BARSTAT_GEN n) = s.fld (R.BELL_BARSTAT_GEN n) :=
        State.fld_setFld_other _ _ _ _ (by show 0 + 16 ≤ 64; decide) (.inr (.inl (le_refl 16)))
      rw [hg]
    · rw [s.fld_arrive n c (by show 0x50100 + n.val * 0x8 ≠ 0x50400 + n.val * 0x4; omega)]
  · refine ⟨_, execBarrierCompletion_known ended hp, ?_, ?_, ?_⟩
    · show Core.arrival _ n = _
      rw [State.core_withFab, State.arrival_setArrival]
    · rw [State.fab_withFab]
    · rw [State.regs_withFab, State.modCore_regs]
  · obtain ⟨harrived, hcomp⟩ := State.breakBarrier_arrived hb
    refine ⟨_, execBarrierCompletion_ended hb hv hnone hdev, ?_, ?_, fun i hi hne hbi => ?_⟩
    · show Core.arrival _ n = 3
      rw [State.core_withFab, State.arrival_setArrival]
    · rw [State.fld_withFab, State.fld_modCore, harrived]
    rw [State.fab_withFab]
    refine (List.mem_erase_of_ne fun e => hne (congrArg (fun p => p.2.1) e)).2 ?_
    rw [hcomp]
    exact List.mem_append_right _ (mem_barrierEnds.2 ⟨i, hi, State.cutOff_of_arrived hi hbi, rfl⟩)
  · refine ⟨_, execWaitRelease_barrier hw hdbg ha, ?_⟩
    have ht : ((s.modCore c (fun k => k.setArrival n 0)).releaseSteward c).core c = { (k.setArrival n 0).retire with
        pc := (s.core c).pc + 4, stw := .run } := by
      rw [State.releaseSteward, State.fldBitClr, State.core_setFld, State.core_advance_same, State.core_modCore_same]
      rfl
    rw [ht]
    refine ⟨rfl, rfl, ?_⟩
    show Core.arrival _ n = 0
    rw [Core.arrival_moved, Core.arrival_setArrival, if_pos rfl]

end Sys2Proof.Machine
end

section
-- One proof after another: what waits for another costs the check memory.
set_option Elab.async false
/-! SUPPORT. Sync objects, errors of the Bellhouse and messages -/
namespace Sys2Proof.Machine

/-! ### Fields of one register

The conditions on the bits are closed computations, which `rfl` decides. -/

theorem State.fld_setFld_here (s : State) (f : Fld) (v : Nat) (hf : Nat.ble (f.lo + f.w) 64 = true) : (s.setFld f v).fld f = v % 2 ^ f.w :=
  State.fld_setFld s f v (Nat.le_of_ble_eq_true hf)

theorem State.fld_setFld_apart (s : State) (f g : Fld) (v : Nat) (hf : Nat.ble (f.lo + f.w) 64 = true)
    (h : (Nat.ble (f.lo + f.w) g.lo || Nat.ble (g.lo + g.w) f.lo) = true) : (s.setFld f v).fld g = s.fld g :=
  State.fld_setFld_other s f g v (Nat.le_of_ble_eq_true hf) (.inr ((Bool.or_eq_true_iff.1 h).imp Nat.le_of_ble_eq_true Nat.le_of_ble_eq_true))

/-! ### Sync objects and watches -/

theorem Core.promote_eq (k : Core) : ∃ w p, k.promote = { k with watches := w, pend := p } := by
  unfold Core.promote
  split_ifs
  · exact ⟨_, _, rfl⟩
  · split
    · exact ⟨_, _, rfl⟩
    · exact ⟨_, _, rfl⟩

/-- A core of which only the watches and the pending events may have moved (R472). -/
def Core.SameBut (k q : Core) : Prop := ∃ w p, q = { k with watches := w, pend := p }

theorem Core.SameBut.refl (k : Core) : k.SameBut k := ⟨_, _, rfl⟩

theorem State.core_fireWatches (s : State) (n obj m : Nat) : (s.core m).SameBut ((s.fireWatches n obj).core m) := by
  unfold State.fireWatches
  rw [State.core_modCore]
  split_ifs with h
  · obtain ⟨w, p, hp⟩ := Core.promote_eq ({ s.core n with watches := (s.core n).watches.map (fun w => if w.obj = obj ∧
      objCond w.cond (s.fld (R.CORE_SOBJ_VALUE n obj)) w.thr then { w with fired := true } else w) } : Core)
    rw [h, hp]
    exact ⟨_, _, rfl⟩
  · exact Core.SameBut.refl _

@[simp] theorem State.regs_fireWatches (s : State) (n obj : Nat) : (s.fireWatches n obj).regs = s.regs := rfl
@[simp] theorem State.mem_fireWatches (s : State) (n obj : Nat) : (s.fireWatches n obj).mem = s.mem := rfl
@[simp] theorem State.memGen_fireWatches (s : State) (n obj : Nat) : (s.fireWatches n obj).memGen = s.memGen := rfl
@[simp] theorem State.fab_fireWatches (s : State) (n obj : Nat) : (s.fireWatches n obj).fab = s.fab := rfl
@[simp] theorem State.fld_fireWatches (s : State) (n obj : Nat) (g : Fld) : (s.fireWatches n obj).fld g = s.fld g := rfl
@[simp] theorem State.reg_fireWatches (s : State) (n obj o : Nat) : (s.fireWatches n obj).reg o = s.reg o := rfl

/-- An update that keeps an object within its range is applied, and its watches look again (R451, R463). -/
theorem State.updateObj_applies {s : State} {n obj : Nat} {delta : Int} {v : Nat}
    (hv : (s.fld (R.CORE_SOBJ_VALUE n obj) : Int) + delta = v) (hl : v ≤ s.fld (R.CORE_SOBJCFG_LIMIT n obj)) (src ctx vid : Nat) :
    s.updateObj n obj delta src ctx vid = ((s.setFld (R.CORE_SOBJ_VALUE n obj) v).fireWatches n obj, none) := by
  unfold State.updateObj
  dsimp only
  rw [hv, if_neg (by omega), if_neg (by omega)]
  rfl

theorem State.fld_value_set (s : State) (n obj : Nat) {v : Nat} (hv : v < 2 ^ 32) :
    (s.setFld (R.CORE_SOBJ_VALUE n obj) v).fld (R.CORE_SOBJ_VALUE n obj) = v := by
  rw [State.fld_setFld _ _ _ (by show 0 + 32 ≤ 64; decide)]
  exact Nat.mod_eq_of_lt hv

/-! ### Errors of the Bellhouse -/

/-- The first error since VALID was cleared is recorded (R461, R464, R476). -/
theorem State.bellErr_first {s : State} {n : Nat} (h : s.flag (R.CORE_BELLERR_VALID n) = false) (status source ctx obj vid : Nat) (remote : Bool) :
    let t := s.bellErr n status source ctx obj vid remote
    State.Writes {R.CORE_BELLERR n} s t ∧ t.flag (R.CORE_BELLERR_VALID n) = true ∧ t.flag (R.CORE_BELLERR_REMOTE n) = remote ∧
      t.fld (R.CORE_BELLERR_STATUS n) = status % 256 ∧ t.fld (R.CORE_BELLERR_OBJ n) = obj % 256 ∧ t.fld (R.CORE_BELLERR_COUNT n) = 1 := by
  intro t
  have ht : t = ((((((((s.setFld (R.CORE_BELLERR_VALID n) 1).setFld (R.CORE_BELLERR_REMOTE n) (if remote then 1 else 0)).setFld
      (R.CORE_BELLERR_STATUS n) status).setFld (R.CORE_BELLERR_SOURCE n) source).setFld (R.CORE_BELLERR_CTX n) ctx).setFld
      (R.CORE_BELLERR_OBJ n) obj).setFld (R.CORE_BELLERR_COUNT n) 1).setFld (R.CORE_BELLERR_VID n) vid) :=
    if_neg (by rw [h]; exact Bool.false_ne_true)
  have set (u : State) (f : Fld) (v : Nat) (hf : f.off = R.CORE_BELLERR n) : State.Writes {R.CORE_BELLERR n} u (u.setFld f v) := State.Writes.setFld u v hf
  rw [ht]
  refine ⟨?_, ?_, ?_, ?_, ?_, ?_⟩
  · exact (((((((set _ _ _ rfl).trans (set _ _ _ rfl)).trans (set _ _ _ rfl)).trans (set _ _ _ rfl)).trans (set _ _ _ rfl)).trans
      (set _ _ _ rfl)).trans (set _ _ _ rfl)).trans (set _ _ _ rfl)
  · simp (disch := exact id rfl) only [State.flag, State.fld_setFld_apart, State.fld_setFld_here]
    rfl
  · simp (disch := exact id rfl) only [State.flag, State.fld_setFld_apart, State.fld_setFld_here]
    cases remote <;> rfl
  all_goals
    simp (disch := exact id rfl) only [State.fld_setFld_apart, State.fld_setFld_here]
    rfl

/-! ### Bytes of a message -/

section
variable (s : State) (a : Nat) (l : List Byte)
@[simp] theorem State.setBytes_regs : (s.setBytes a l).regs = s.regs := by rw [State.setBytes_eq]
@[simp] theorem State.setBytes_memGen : (s.setBytes a l).memGen = s.memGen := by rw [State.setBytes_eq]
@[simp] theorem State.setBytes_fab : (s.setBytes a l).fab = s.fab := by rw [State.setBytes_eq]
@[simp] theorem State.fld_setBytes (g : Fld) : (s.setBytes a l).fld g = s.fld g := State.fld_congr (s.setBytes_regs a l) g
@[simp] theorem State.core_setBytes (n : Nat) : (s.setBytes a l).core n = s.core n := by
  rw [State.setBytes_eq]
  rfl
end

/-- The bytes in the middle of what was written. -/
theorem State.bytes_setBytes_mid (s : State) (a : Nat) (l m r : List Byte) : (s.setBytes a (l ++ m ++ r)).bytes (a + l.length) m.length = m := by
  apply List.ext_getElem
  · simp [State.bytes]
  · intro i h1 h2
    simp only [State.bytes, List.getElem_map, List.getElem_range]
    rw [State.byte_setBytes, if_pos ⟨by omega, by rw [List.length_append, List.length_append]; omega⟩,
      show a + l.length + i - a = l.length + i by omega, List.append_assoc, List.getD_eq_getElem?_getD, List.getElem?_append_right (by omega),
      Nat.add_sub_cancel_left, List.getElem?_append_left h2, List.getElem?_eq_getElem h2, Option.getD_some]

theorem State.byte_congr {s t : State} (hm : t.mem = s.mem) (hg : t.memGen = s.memGen) (a : Nat) : t.byte a = s.byte a := by
  rw [State.byte, hm, hg, State.byte]

theorem State.bytes_congr {s t : State} (hm : t.mem = s.mem) (hg : t.memGen = s.memGen) (a n : Nat) : t.bytes a n = s.bytes a n :=
  List.map_congr_left fun _ _ => State.byte_congr hm hg _

/-- The 16 bytes of a mailbox entry (R475). -/
def msgBytes (value : BitVec 64) (dev core ctx seq : Nat) : List Byte :=
  leBytes 8 value.toNat ++ leBytes 2 (core + 16 * dev + 256 * ctx) ++ leBytes 2 0 ++ leBytes 4 seq

theorem State.msg_value (s : State) (a : Nat) (value : BitVec 64) (dev core ctx seq : Nat) :
    leNat ((s.setBytes a (msgBytes value dev core ctx seq)).bytes a 8) = value.toNat := by
  have h := s.bytes_setBytes_mid a [] (leBytes 8 value.toNat) (leBytes 2 (core + 16 * dev + 256 * ctx) ++ leBytes 2 0 ++ leBytes 4 seq)
  rw [leBytes_length] at h
  have hm : msgBytes value dev core ctx seq = [] ++ leBytes 8 value.toNat ++ (leBytes 2 (core + 16 * dev + 256 * ctx) ++ leBytes 2 0 ++ leBytes 4 seq) := by
    simp [msgBytes]
  rw [hm]
  refine (congrArg leNat h).trans ((leNat_leBytes 8 _).trans (Nat.mod_eq_of_lt ?_))
  exact value.isLt

theorem State.msg_sender (s : State) (a : Nat) (value : BitVec 64) (dev core ctx seq : Nat) :
    leNat ((s.setBytes a (msgBytes value dev core ctx seq)).bytes (a + 8) 2) = (core + 16 * dev + 256 * ctx) % 65536 := by
  have h := s.bytes_setBytes_mid a (leBytes 8 value.toNat) (leBytes 2 (core + 16 * dev + 256 * ctx)) (leBytes 2 0 ++ leBytes 4 seq)
  rw [leBytes_length, leBytes_length] at h
  have hm : msgBytes value dev core ctx seq = leBytes 8 value.toNat ++ leBytes 2 (core + 16 * dev + 256 * ctx) ++ (leBytes 2 0 ++ leBytes 4 seq) := by
    simp [msgBytes]
  rw [hm, h, leNat_leBytes]
  norm_num

theorem State.msg_count (s : State) (a : Nat) (value : BitVec 64) (dev core ctx seq : Nat) :
    leNat ((s.setBytes a (msgBytes value dev core ctx seq)).bytes (a + 12) 4) = seq % 2 ^ 32 := by
  have h := s.bytes_setBytes_mid a (leBytes 8 value.toNat ++ leBytes 2 (core + 16 * dev + 256 * ctx) ++ leBytes 2 0) (leBytes 4 seq) []
  rw [leBytes_length, List.append_nil] at h
  have hm : (leBytes 8 value.toNat ++ leBytes 2 (core + 16 * dev + 256 * ctx) ++ leBytes 2 0).length = 12 := by simp
  rw [hm] at h
  rw [msgBytes, h, leNat_leBytes]
  norm_num

theorem msgBytes_length (value : BitVec 64) (dev core ctx seq : Nat) : (msgBytes value dev core ctx seq).length = 16 := by simp [msgBytes]

/-! ### Sending -/

section
variable {c : CoreId} {f : IFields} {s : State} (h : s.Ready c f .u false) (hx : f.hasExt = false)
include h hx

/-- MSG to a mailbox of this device: the message sets out and the Steward waits. -/
theorem execMsg_local {d m : Nat} (hm : m < 8) (hd : s.hasCore d = true)
    (ha : ((s.core c).sreg f.srcA.toNat).toNat = s.fld R.NIM_CFG_SELF * 4096 + d * 256 + m) : execMsg c f s =
      .next (((s.modCore c Core.fetched).modCore c (fun k => { k with stw := .msgWait })).withFab
        { s.fab with msgs := s.fab.msgs ++ [⟨c, (s.core c).ctx, d, m, (s.core c).sreg f.srcB.toNat⟩] }) := by
  have hself : s.fld R.NIM_CFG_SELF < 16 := State.fld_lt _ _
  have hd16 : d < 16 := by
    rw [State.hasCore, Bool.and_eq_true, decide_eq_true_eq] at hd
    exact hd.1
  unfold execMsg
  rw [State.runInstr_ready h (by rw [hx]; rfl), State.core_modCore_same]
  dsimp only
  rw [Core.a_fetched, Core.b_fetched, Core.a, Core.b, ha, State.fld_modCore, Core.fetched_ctx,
    show (s.fld R.NIM_CFG_SELF * 4096 + d * 256 + m) / 4096 % 16 = s.fld R.NIM_CFG_SELF by omega,
    show (s.fld R.NIM_CFG_SELF * 4096 + d * 256 + m) / 256 % 16 = d by omega,
    show (s.fld R.NIM_CFG_SELF * 4096 + d * 256 + m) % 8 = m by omega]
  rw [if_neg (not_not.2 rfl), if_neg (not_not.2 rfl)]
  have hd' : (s.modCore c Core.fetched).hasCore d = true := hd
  rw [hd']
  rfl

/-- An address with a must-be-0 bit raises SYNC with BAD_MAILBOX. -/
theorem execMsg_bad (ha : ((s.core c).sreg f.srcA.toNat).toNat / 8 % 32 ≠ 0 ∨ 65536 ≤ ((s.core c).sreg f.srcA.toNat).toNat) :
    execMsg c f s = .next ((s.modCore c Core.fetched).raise c ⟨0x09, 0x39, 0, false, 0⟩ (s.core c).pc) := by
  unfold execMsg
  rw [State.runInstr_ready h (by rw [hx]; rfl), State.core_modCore_same]
  dsimp only
  rw [Core.a_fetched, Core.a]
  generalize ((s.core c).sreg f.srcA.toNat).toNat = a at ha ⊢
  rw [if_pos (by omega)]
  rfl

end

/-! ### Delivery -/

/-- The address of a mailbox's next entry (R475). -/
def State.mboxAddr (s : State) (n m : Nat) : Nat :=
  0x1000000000 + n * 0x200000 + (s.fld (R.CORE_MBOX_BASE n m) + s.fld (R.CORE_MBOX_WIDX n m) % s.mboxSize n m * 16) % 0x200000

/-- The count of deliveries to a mailbox. -/
def Core.mboxCount (k : Core) (m : Nat) : Nat := SMap.get (fun _ => 0) k.mboxSeq m

/-- The count of deliveries one on. -/
def Core.mboxCounted (m : Nat) (seq : Nat) (k : Core) : Core := { k with mboxSeq := SMap.set (fun _ => 0) k.mboxSeq m ((seq + 1) % 2 ^ 32) }

/-- A message written into its mailbox, before its object is raised. -/
def State.mboxWrite (s : State) (n m : Nat) (value : BitVec 64) (dev core ctx : Nat) : State :=
  ((s.setBytes (s.mboxAddr n m) (msgBytes value dev core ctx ((s.core n).mboxCount m))).setFld (R.CORE_MBOX_WIDX n m)
    (s.fld (R.CORE_MBOX_WIDX n m) + 1)).modCore n (Core.mboxCounted m ((s.core n).mboxCount m))

theorem State.mboxDeliver_accepts {s : State} {n m ctx : Nat} (hv : s.flag (R.CORE_MBOX_VALID n m) = true)
    (ho : s.fld (R.CORE_MBOX_OWNER n m) = ctx) (hroom : s.fld (R.CORE_SOBJ_VALUE n (s.fld (R.CORE_MBOX_OBJ n m))) < s.mboxSize n m)
    (value : BitVec 64) (dev core : Nat) : s.mboxDeliver n m value dev core ctx true true =
      (let t := s.mboxWrite n m value dev core ctx
       let obj := s.fld (R.CORE_MBOX_OBJ n m)
       if t.flag (R.CORE_SOBJCFG_EXT n obj) && t.fld (R.CORE_SOBJCFG_SRC n obj) == 0x13 then ((t.updateObj n obj 1 6 ctx 0).1, none) else (t, none)) := by
  unfold State.mboxDeliver
  dsimp only
  rw [hv, ho]
  simp only [Bool.not_true, Bool.false_and, Bool.false_eq_true, if_false, ne_eq, not_true_eq_false]
  rw [if_neg (by omega)]
  rfl

/-- A mailbox refuses what it may not take, before anything else of it is read. -/
theorem State.mboxDeliver_remote {s : State} {n m : Nat} (h : s.flag (R.CORE_MBOX_RXREMOTE n m) = false) (value : BitVec 64) (dev core ctx : Nat) :
    s.mboxDeliver n m value dev core ctx false true = (s, some bsBAD_MAILBOX) := by
  unfold State.mboxDeliver
  dsimp only
  rw [h]
  cases s.flag (R.CORE_MBOX_VALID n m) <;> rfl

/-- What a message written into its mailbox leaves besides the bytes. -/
theorem State.fld_mboxWrite_other (s : State) (n m : Nat) (value : BitVec 64) (dev core ctx : Nat) {g : Fld} (hg : g.off ≠ R.CORE_MBOX n m) :
    (s.mboxWrite n m value dev core ctx).fld g = s.fld g := by
  rw [State.mboxWrite, State.fld_modCore, State.fld_setFld_off _ _ _ _ hg, State.fld_setBytes]

theorem State.fld_mboxWrite_widx (s : State) (n m : Nat) (value : BitVec 64) (dev core ctx : Nat) :
    (s.mboxWrite n m value dev core ctx).fld (R.CORE_MBOX_WIDX n m) = (s.fld (R.CORE_MBOX_WIDX n m) + 1) % 1024 := by
  have hw : 2 ^ (R.CORE_MBOX_WIDX n m).w = 1024 := rfl
  rw [State.mboxWrite, State.fld_modCore, State.fld_setFld_here _ _ _ rfl, hw]

theorem State.mem_mboxWrite (s : State) (n m : Nat) (value : BitVec 64) (dev core ctx : Nat) : (s.mboxWrite n m value dev core ctx).mem =
    (s.setBytes (s.mboxAddr n m) (msgBytes value dev core ctx ((s.core n).mboxCount m))).mem := by
  rw [State.mboxWrite, State.modCore_mem, State.setFld_mem]

theorem State.memGen_mboxWrite (s : State) (n m : Nat) (value : BitVec 64) (dev core ctx : Nat) : (s.mboxWrite n m value dev core ctx).memGen =
    (s.setBytes (s.mboxAddr n m) (msgBytes value dev core ctx ((s.core n).mboxCount m))).memGen := by
  rw [State.mboxWrite, State.modCore_memGen, State.setFld_memGen]

theorem State.fab_mboxWrite (s : State) (n m : Nat) (value : BitVec 64) (dev core ctx : Nat) : (s.mboxWrite n m value dev core ctx).fab = s.fab := by
  rw [State.mboxWrite, State.modCore_fab, State.setFld_fab, State.setBytes_fab]

/-- The cores but for counts of deliveries. -/
theorem State.core_mboxWrite (s : State) (n m : Nat) (value : BitVec 64) (dev core ctx i : Nat) :
    ((s.mboxWrite n m value dev core ctx).core i).stw = (s.core i).stw ∧ ((s.mboxWrite n m value dev core ctx).core i).pc = (s.core i).pc := by
  rw [State.mboxWrite, State.core_modCore]
  split_ifs with h
  · rw [State.core_setFld, State.core_setBytes, h]
    exact ⟨rfl, rfl⟩
  · rw [State.core_setFld, State.core_setBytes]
    exact ⟨rfl, rfl⟩

/-- A message taken by its mailbox, whose object has room and counts it (R475, R476). -/
theorem State.mboxDeliver_counts {s : State} {n m ctx : Nat} (hm : m < 8) (hv : s.flag (R.CORE_MBOX_VALID n m) = true)
    (ho : s.fld (R.CORE_MBOX_OWNER n m) = ctx) (hroom : s.fld (R.CORE_SOBJ_VALUE n (s.fld (R.CORE_MBOX_OBJ n m))) < s.mboxSize n m)
    (hlimit : s.fld (R.CORE_SOBJ_VALUE n (s.fld (R.CORE_MBOX_OBJ n m))) < s.fld (R.CORE_SOBJCFG_LIMIT n (s.fld (R.CORE_MBOX_OBJ n m))))
    (hext : s.flag (R.CORE_SOBJCFG_EXT n (s.fld (R.CORE_MBOX_OBJ n m))) = true)
    (hsrc : s.fld (R.CORE_SOBJCFG_SRC n (s.fld (R.CORE_MBOX_OBJ n m))) = 0x13) (value : BitVec 64) (dev core : Nat) :
    s.mboxDeliver n m value dev core ctx true true = ((((s.mboxWrite n m value dev core ctx).setFld
      (R.CORE_SOBJ_VALUE n (s.fld (R.CORE_MBOX_OBJ n m))) (s.fld (R.CORE_SOBJ_VALUE n (s.fld (R.CORE_MBOX_OBJ n m))) + 1)).fireWatches n
        (s.fld (R.CORE_MBOX_OBJ n m))), none) := by
  have hobj : s.fld (R.CORE_MBOX_OBJ n m) < 256 := State.fld_lt s (R.CORE_MBOX_OBJ n m)
  generalize hob : s.fld (R.CORE_MBOX_OBJ n m) = obj at hroom hlimit hext hsrc hobj ⊢
  have hoff : R.CORE_SOBJ n obj ≠ R.CORE_MBOX n m ∧ R.CORE_SOBJCFG n obj ≠ R.CORE_MBOX n m := by
    unfold R.CORE_SOBJ R.CORE_SOBJCFG R.CORE_MBOX
    omega
  have hcfg (g : Fld) (hg : g.off = R.CORE_SOBJCFG n obj) := s.fld_mboxWrite_other n m value dev core ctx (g := g) (hg ▸ hoff.2)
  have hvalue := s.fld_mboxWrite_other n m value dev core ctx (g := R.CORE_SOBJ_VALUE n obj) hoff.1
  rw [State.mboxDeliver_accepts hv ho (by rw [hob]; exact hroom), hob]
  dsimp only
  have hext' : (s.mboxWrite n m value dev core ctx).flag (R.CORE_SOBJCFG_EXT n obj) = true := by
    rw [State.flag, hcfg _ rfl]
    exact hext
  rw [hext', hcfg (R.CORE_SOBJCFG_SRC n obj) rfl, hsrc, if_pos (by decide), State.updateObj_applies (v := s.fld (R.CORE_SOBJ_VALUE n obj) + 1)]
  · rw [hvalue]
    rfl
  · rw [hcfg (R.CORE_SOBJCFG_LIMIT n obj) rfl]
    exact hlimit

/-- The oldest message delivered: the sender goes on (R476). -/
theorem execMsgDelivery_accepted {s u : State} {x : Msg} {rest : List Msg} (hm : s.fab.msgs = x :: rest)
    (hd : (s.withFab { s.fab with msgs := rest }).mboxDeliver x.dst x.mbox x.value (s.fld R.NIM_CFG_SELF) x.src x.ctx true true = (u, none))
    (hw : (u.core x.src).stw = .msgWait) : execMsgDelivery .fabric s = .next (u.advance x.src ((u.core x.src).pc + 4)) := by
  have hd' : ({ s with fab := { s.fab with msgs := rest } } : State).mboxDeliver x.dst x.mbox x.value
    (({ s with fab := { s.fab with msgs := rest } } : State).fld R.NIM_CFG_SELF) x.src x.ctx true true = (u, none) := hd
  unfold execMsgDelivery
  dsimp only
  rw [hm]
  dsimp only
  rw [hd']
  dsimp only
  rw [if_neg (not_not.2 hw)]

/-- Settles O19. -/
theorem messages : Obligations.Messages := by
  intro c f s k a self
  refine ⟨fun h hx => ⟨fun d m hm hd ha => ?_, execMsg_bad h hx⟩, fun x rest hmsgs hsrc hdst hmbox hstw => ?_, fun dev core d ctx m v hnim hcore hdev hdep hrx hv => ?_,
    fun core ctx st m hnim hv => ?_⟩
  · refine ⟨_, execMsg_local h hx hm hd ha, ?_, ?_, ?_, ?_, ?_⟩
    · rw [State.fab_withFab]
    · rw [State.core_withFab, State.core_modCore_same]
    · rw [State.core_withFab, State.core_modCore_same, State.core_modCore_same, Core.fetched_pc]
    · rw [State.regs_withFab, State.modCore_regs, State.modCore_regs]
    · rw [State.mem_withFab, State.modCore_mem, State.modCore_mem]
  · intro obj n w at_ seq hv ho h3 h10 hroom hlimit hext hcode
    obtain ⟨u, hu⟩ : ∃ u, u = s.withFab { s.fab with msgs := rest } := ⟨_, rfl⟩
    have hfld (g : Fld) : u.fld g = s.fld g := by rw [hu, State.fld_withFab]
    have hflag (g : Fld) : u.flag g = s.flag g := by rw [State.flag, hfld, State.flag]
    have hcore (i : Nat) : u.core i = s.core i := by rw [hu, State.core_withFab]
    have hsize : u.mboxSize x.dst x.mbox = n := by
      unfold State.mboxSize
      rw [hfld]
      exact if_pos ⟨h3, h10⟩
    have hobj : u.fld (R.CORE_MBOX_OBJ x.dst x.mbox) = obj := hfld _
    have hdel := State.mboxDeliver_counts (s := u) (ctx := x.ctx) hmbox (by rw [hflag, hv]) (by rw [hfld, ho]) (by rw [hobj, hfld, hsize]; exact hroom)
      (by rw [hobj, hfld, hfld]; exact hlimit) (by rw [hobj, hflag]; exact hext) (by rw [hobj, hfld]; exact hcode) x.value (s.fld R.NIM_CFG_SELF) x.src
    rw [hobj, hfld] at hdel
    have haddr : u.mboxAddr x.dst x.mbox = at_ := by rw [State.mboxAddr, hsize, hfld, hfld]
    have hmem := u.mem_mboxWrite x.dst x.mbox x.value (s.fld R.NIM_CFG_SELF) x.src x.ctx
    have hgen := u.memGen_mboxWrite x.dst x.mbox x.value (s.fld R.NIM_CFG_SELF) x.src x.ctx
    have hfab := u.fab_mboxWrite x.dst x.mbox x.value (s.fld R.NIM_CFG_SELF) x.src x.ctx
    have hsame := u.core_mboxWrite x.dst x.mbox x.value (s.fld R.NIM_CFG_SELF) x.src x.ctx x.src
    have hwidx := u.fld_mboxWrite_widx x.dst x.mbox x.value (s.fld R.NIM_CFG_SELF) x.src x.ctx
    rw [haddr] at hmem hgen
    generalize u.mboxWrite x.dst x.mbox x.value (s.fld R.NIM_CFG_SELF) x.src x.ctx = v at hdel hmem hgen hfab hsame hwidx
    have hlt : s.fld (R.CORE_SOBJ_VALUE x.dst obj) + 1 < 2 ^ 32 :=
      (Nat.succ_le_of_lt hlimit).trans_lt (State.fld_lt s (R.CORE_SOBJCFG_LIMIT x.dst obj))
    have hobj8 : obj < 256 := State.fld_lt s (R.CORE_MBOX_OBJ x.dst x.mbox)
    have hoff : R.CORE_MBOX x.dst x.mbox ≠ R.CORE_SOBJ x.dst obj := by
      unfold R.CORE_MBOX R.CORE_SOBJ
      omega
    obtain ⟨ws, p, hcore'⟩ := (v.setFld (R.CORE_SOBJ_VALUE x.dst obj) (s.fld (R.CORE_SOBJ_VALUE x.dst obj) + 1)).core_fireWatches x.dst obj x.src
    rw [State.core_setFld] at hcore'
    have hstw' : (((v.setFld (R.CORE_SOBJ_VALUE x.dst obj) (s.fld (R.CORE_SOBJ_VALUE x.dst obj) + 1)).fireWatches x.dst obj).core x.src).stw =
        .msgWait := by rw [hcore', ← hstw, ← hcore x.src]; exact hsame.1
    have hpc' : (((v.setFld (R.CORE_SOBJ_VALUE x.dst obj) (s.fld (R.CORE_SOBJ_VALUE x.dst obj) + 1)).fireWatches x.dst obj).core x.src).pc =
        (s.core x.src).pc := by rw [hcore', ← hcore x.src]; exact hsame.2
    have hbytes (t : State) (hm : t.mem = v.mem) (hg : t.memGen = v.memGen) (a n : Nat) := State.bytes_congr (hm.trans hmem) (hg.trans hgen) a n
    have hbyte (t : State) (hm : t.mem = v.mem) (hg : t.memGen = v.memGen) (a : Nat) := State.byte_congr (hm.trans hmem) (hg.trans hgen) a
    have hseq : (u.core x.dst).mboxCount x.mbox = seq := by rw [hcore]; rfl
    rw [hseq] at hbytes hbyte
    refine ⟨_, execMsgDelivery_accepted hmsgs (hu ▸ hdel) hstw', ?_, ?_, ?_, ?_, fun y hy => ?_, ?_, ?_, ?_, ?_⟩
    · rw [State.advance_fab, State.fab_fireWatches, State.setFld_fab, hfab, hu, State.fab_withFab]
    · exact (congrArg leNat (hbytes _ (by rw [State.advance_mem, State.mem_fireWatches, State.setFld_mem]) (by rw [State.advance_memGen, State.memGen_fireWatches, State.setFld_memGen]) _ _)).trans (u.msg_value at_ _ _ _ _ _)
    · exact (congrArg leNat (hbytes _ (by rw [State.advance_mem, State.mem_fireWatches, State.setFld_mem]) (by rw [State.advance_memGen, State.memGen_fireWatches, State.setFld_memGen]) _ _)).trans (u.msg_sender at_ _ _ _ _ _)
    · exact (congrArg leNat (hbytes _ (by rw [State.advance_mem, State.mem_fireWatches, State.setFld_mem]) (by rw [State.advance_memGen, State.memGen_fireWatches, State.setFld_memGen]) _ _)).trans (u.msg_count at_ _ _ _ _ _)
    · refine (hbyte _ (by rw [State.advance_mem, State.mem_fireWatches, State.setFld_mem]) (by rw [State.advance_memGen, State.memGen_fireWatches, State.setFld_memGen]) y).trans ?_
      rw [State.byte_setBytes_other _ _ _ _ (by rw [msgBytes_length]; exact hy), hu]
      exact State.byte_congr (State.mem_withFab _ _) rfl y
    · rw [State.fld_advance, State.fld_fireWatches, State.fld_setFld_off _ _ _ _ hoff, hwidx, hfld]
    · rw [State.fld_advance, State.fld_fireWatches, State.fld_value_set _ _ _ hlt]
    · rw [State.core_advance_same]
    · rw [State.core_advance_same, hpc']
  · obtain ⟨hw, hvalid, -, hst, -⟩ := State.bellErr_first hv 0x39 6 ctx m 0 false
    have he : exec (.msgDelivery (.remote dev core ctx d m v true)) s = .next (s.bellErr d 0x39 6 ctx m 0) := by
      have hgo : (!s.hasNim || dev.val == s.fld R.NIM_CFG_SELF || s.departed dev || !s.hasCore d) = false := by
        rw [hnim, hdep, hcore, beq_false_of_ne hdev]
        rfl
      show execMsgDelivery (.remote dev core ctx d m v true) s = _
      unfold execMsgDelivery
      dsimp only
      rw [hgo, if_neg Bool.false_ne_true, State.mboxDeliver_remote hrx]
      rfl
    exact ⟨_, he, hw.mem, hw.cores, hvalid, hst⟩
  · obtain ⟨hw, hvalid, hremote, hst, -, hcount⟩ := State.bellErr_first hv st.toNat 5 ctx m 0 true
    have he : exec (.msgDelivery (.refused core ctx st m)) s = .next (s.bellErr core st.toNat 5 ctx m 0 true) := by
      show execMsgDelivery (.refused core ctx st m) s = _
      unfold execMsgDelivery
      dsimp only
      rw [if_pos hnim]
    exact ⟨_, he, hw.mem, hw.cores, hvalid, hremote, hst.trans (Nat.mod_eq_of_lt st.isLt), hcount⟩

end Sys2Proof.Machine
end

section
-- One proof after another: what waits for another costs the check memory.
set_option Elab.async false
/-! SUPPORT. Class 6, the dispatch of classes 7–11 and the tokens an engine runs (R242–R246, R149, R150). -/
namespace Sys2Proof.Machine

/-! ### Entries at the ends of their queues (R148–R150) -/

theorem Core.sreg_setQueue (k : Core) (e : Nat) (q : List Entry) (r : Nat) : (k.setQueue e q).sreg r = k.sreg r := rfl
theorem Core.rdCsr_setQueue (k : Core) (e : Nat) (q : List Entry) (n : Nat) : (k.setQueue e q).rdCsr n = k.rdCsr n := rfl

/-- Each queue gets its own entries, in their order. -/
theorem Core.queue_enqueue (k : Core) (es : List (Nat × Entry)) (e : Nat) :
    (k.enqueue es).queue e = k.queue e ++ (es.filter (fun p => p.1 == e)).map (·.2) := by
  unfold Core.enqueue
  induction es generalizing k with
  | nil => simp
  | cons p es ih =>
    rw [List.foldl_cons, ih, Core.queue_setQueue]
    by_cases h : e = p.1
    · simp [h]
    · simp [h, Ne.symm h]

theorem Core.sreg_enqueue (k : Core) (es : List (Nat × Entry)) (r : Nat) : (k.enqueue es).sreg r = k.sreg r := by
  unfold Core.enqueue
  induction es generalizing k with
  | nil => rfl
  | cons p es ih => rw [List.foldl_cons, ih, Core.sreg_setQueue]

/-- Whether there is room depends only on the queues. -/
theorem Core.room_congr {k q : Core} (h : ∀ e, k.queue e = q.queue e) (es : List (Nat × Entry)) : k.room es = q.room es := by
  unfold Core.room
  simp only [h]

theorem Core.room_iff (k : Core) (es : List (Nat × Entry)) : k.room es = true ↔ ∀ p ∈ es, (k.queue p.1).length < 16 := by
  simp [Core.room]

theorem Core.room_eq_false (k : Core) (es : List (Nat × Entry)) : k.room es = false ↔ ∃ p ∈ es, ¬ (k.queue p.1).length < 16 := by
  simp [Core.room]

section
variable (s : State) (c : Nat) (es : List (Nat × Entry))

/-- The trace of a dispatch leaves every core, memory and the fabric as they are (R784). -/
theorem State.traceDispatch_apart : (∀ n, (s.traceDispatch c es).core n = s.core n) ∧ (s.traceDispatch c es).mem = s.mem ∧
    (s.traceDispatch c es).fab = s.fab := by
  unfold State.traceDispatch
  induction es generalizing s with
  | nil => exact ⟨fun _ => rfl, rfl, rfl⟩
  | cons p es ih =>
    obtain ⟨i, x⟩ := p
    cases x with
    | op o f a b d env =>
      obtain ⟨hc, hm, hf⟩ := ih (s.traceRec c 5 (o.cls * 64 + o.code))
      exact ⟨fun n => (hc n).trans (State.core_traceRec ..), hm.trans (State.traceRec_mem ..), hf.trans (State.traceRec_fab ..)⟩
    | _ => exact ih s

theorem State.core_traceDispatch (n : Nat) : (s.traceDispatch c es).core n = s.core n := (s.traceDispatch_apart c es).1 n
theorem State.mem_traceDispatch : (s.traceDispatch c es).mem = s.mem := (s.traceDispatch_apart c es).2.1
theorem State.fab_traceDispatch : (s.traceDispatch c es).fab = s.fab := (s.traceDispatch_apart c es).2.2

/-- The state with entries dispatched: recorded in the trace, and placed in their queues. -/
def State.queued : State := (s.traceDispatch c es).modCore c (fun k => k.enqueue es)

theorem State.core_queued : (s.queued c es).core c = (s.core c).enqueue es := by
  rw [State.queued, State.core_modCore_same, State.core_traceDispatch]

theorem State.mem_queued : (s.queued c es).mem = s.mem := by rw [State.queued, State.modCore_mem, State.mem_traceDispatch]
theorem State.fab_queued : (s.queued c es).fab = s.fab := by rw [State.queued, State.modCore_fab, State.fab_traceDispatch]

end

/-- What an instruction that queues its entries shows (R149, R243). -/
def State.ShowsQueued (s t : State) (c : Nat) (pc : Word) (es : List (Nat × Entry)) : Prop :=
  (t.core c).pc = pc ∧ (∀ e, (t.core c).queue e = (s.core c).queue e ++ (es.filter (fun p => p.1 == e)).map (·.2)) ∧
    (∀ q, (t.core c).sreg q = (s.core c).sreg q) ∧ t.mem = s.mem ∧ t.fab = s.fab

theorem State.showsQueued_advance (s : State) (c : Nat) (pc : Word) (es : List (Nat × Entry)) :
    s.ShowsQueued ((s.queued c es).advance c pc) c pc es := by
  refine ⟨by rw [State.core_advance_same], fun e => ?_, fun q => ?_, ?_, ?_⟩
  · rw [State.core_advance_same]
    change ((s.queued c es).core c).queue e = _
    rw [State.core_queued, Core.queue_enqueue]
  · rw [State.core_advance_same]
    change ((s.queued c es).core c).sreg q = _
    rw [State.core_queued, Core.sreg_enqueue]
  · rw [State.advance_mem, State.mem_queued]
  · rw [State.advance_fab, State.fab_queued]

theorem State.settle_issue_room {s : State} {c : Nat} {es : List (Nat × Entry)} (h : (s.core c).room es = true) (pc : Word) (len : Nat) :
    State.settle c pc len (s.issue c es) = (s.queued c es).advance c (pc + w64 len) := by
  rw [State.issue, if_pos h]
  rfl

theorem State.settle_issue_full {s : State} {c : Nat} {es : List (Nat × Entry)} (h : (s.core c).room es = false) (pc : Word) (len : Nat) :
    State.settle c pc len (s.issue c es) = s.modCore c (fun k => { k with stw := .queueFull es }) := by
  rw [State.issue, if_neg (by rw [h]; decide)]
  rfl

theorem State.translate_congr {s t : State} (h : t.regs = s.regs) (n ctx vid : Nat) (cls : Option Nat) :
    t.translate n ctx vid cls = s.translate n ctx vid cls := by
  unfold State.translate
  simp only [State.fld_congr h, State.flag_congr h]

/-- An identifier that names an object is translated to it (R453, R455). -/
theorem State.translate_names {s : State} {c : CoreId} {a : Word} {obj : Nat} (h : s.Names c a obj) :
    s.translate c (s.core c).ctx a.toNat (s.core c).slotCls = .ok obj := by
  obtain ⟨-, hv, rfl, ho, hs⟩ := h
  unfold State.translate
  dsimp only
  rw [hv, ho, if_neg (by simp)]
  unfold Core.slotCls
  cases hr : (s.core c).slot with
  | none => rfl
  | some r =>
    rw [hr] at hs
    exact if_pos hs

/-! ### Instructions that issue entries -/

/-- A state in which an instruction issues: the queues, the scalar registers, memory and the fabric are those it started from. -/
structure State.SameQueues (s u : State) (c : Nat) : Prop where
  queue : ∀ e, (u.core c).queue e = (s.core c).queue e
  sreg : ∀ q, (u.core c).sreg q = (s.core c).sreg q
  pc : (u.core c).pc = (s.core c).pc
  mem : u.mem = s.mem
  fab : u.fab = s.fab

theorem State.sameQueues_fetched (s : State) (c : Nat) : s.SameQueues (s.modCore c Core.fetched) c where
  queue e := by rw [State.core_modCore_same, Core.queue_fetched]
  sreg q := by rw [State.core_modCore_same, Core.sreg_fetched]
  pc := by rw [State.core_modCore_same, Core.fetched_pc]
  mem := s.modCore_mem c _
  fab := s.modCore_fab c _

/-- Counting a signal's delta touches no queue (R460). -/
theorem State.SameQueues.countDelta {s u : State} {c : Nat} (h : s.SameQueues u c) (obj : Nat) (d : Word) : s.SameQueues (u.countDelta c obj d) c := by
  unfold State.countDelta
  dsimp only
  split_ifs
  · exact h
  · refine ⟨fun e => ?_, fun q => ?_, ?_, (State.modCore_mem ..).trans h.mem, (State.modCore_fab ..).trans h.fab⟩
    · rw [State.core_modCore_same]
      exact h.queue e
    · rw [State.core_modCore_same]
      exact h.sreg q
    · rw [State.core_modCore_same]
      exact h.pc

/-- What an instruction that finds no room shows (R150). -/
def State.ShowsStalled (s t : State) (c : Nat) (es : List (Nat × Entry)) : Prop :=
  (t.core c).pc = (s.core c).pc ∧ (t.core c).stw = .queueFull es ∧ ∀ e, (t.core c).queue e = (s.core c).queue e

section
variable {s u : State} {c : Nat} (h : s.SameQueues u c) {es : List (Nat × Entry)} (pc : Word) (len : Nat)
include h

theorem State.SameQueues.issues (hr : ∀ p ∈ es, ((s.core c).queue p.1).length < 16) :
    s.ShowsQueued (State.settle c pc len (u.issue c es)) c (pc + w64 len) es := by
  have hroom : (u.core c).room es = true := (Core.room_congr h.queue es).trans ((Core.room_iff _ _).2 hr)
  obtain ⟨hpc, hq, hs, hm, hf⟩ := u.showsQueued_advance c (pc + w64 len) es
  rw [State.settle_issue_room hroom]
  exact ⟨hpc, fun e => by rw [hq, h.queue], fun q => (hs q).trans (h.sreg q), hm.trans h.mem, hf.trans h.fab⟩

theorem State.SameQueues.stalls (hr : ∃ p ∈ es, ¬ ((s.core c).queue p.1).length < 16) :
    s.ShowsStalled (State.settle c pc len (u.issue c es)) c es := by
  have hroom : (u.core c).room es = false := (Core.room_congr h.queue es).trans ((Core.room_eq_false _ _).2 hr)
  rw [State.settle_issue_full hroom]
  refine ⟨?_, ?_, fun e => ?_⟩
  · rw [State.core_modCore_same]
    exact h.pc
  · rw [State.core_modCore_same]
  · rw [State.core_modCore_same]
    exact h.queue e

end

theorem State.dispEnv_fetched (s : State) (c : Nat) : (s.modCore c Core.fetched).dispEnv c = s.dispEnv c := by
  unfold State.dispEnv Core.cls Core.slotCls Core.wins
  dsimp only
  rw [State.core_modCore_same, Core.fetched_priv, Core.fetched_slot, Core.fetched_ctx]
  simp only [Core.rdCsr_fetched]
  rfl

section
variable {c : CoreId} {f : IFields} {s : State}

/-! ### FENCES and FENCEE -/

theorem engsOf_empty_iff (s : State) (c mask : Nat) :
    (engsOf mask).all (fun e => (((s.modCore c Core.fetched).core c).queue e).isEmpty) = true ↔ ∀ e ∈ engsOf mask, (s.core c).queue e = [] := by
  rw [State.core_modCore_same]
  simp

theorem execFences_passes (h : s.Ready c f .u true) (hx : f.hasExt = false) (hi : f.imm8 < 32) (he : ∀ e ∈ engsOf f.imm8, (s.core c).queue e = []) :
    execFences c f s = .next (s.retired c f (fun q => q)) := by
  unfold execFences
  rw [State.runInstr_ready h (by simp [hx, hi]), if_pos ((engsOf_empty_iff s c f.imm8).2 he), State.retired, State.modCore_id]
  rfl

theorem execFences_waits (h : s.Ready c f .u true) (hx : f.hasExt = false) (hi : f.imm8 < 32) (he : ∃ e ∈ engsOf f.imm8, (s.core c).queue e ≠ []) :
    execFences c f s = .next (s.modCore c Core.fetched) := by
  obtain ⟨e, hm, hne⟩ := he
  unfold execFences
  rw [State.runInstr_ready h (by simp [hx, hi]), if_neg fun hall => hne ((engsOf_empty_iff s c f.imm8).1 hall e hm)]
  rfl

theorem execFencee_issues (h : s.Ready c f .u false) (hx : f.hasExt = false) (hi : f.imm8 < 32) :
    execFencee c f s = .next (State.settle c (s.core c).pc f.len ((s.modCore c Core.fetched).issue c
      ((engsOf f.imm8).map (fun e => (e, Entry.fence f.imm8 (s.dispEnv c)))))) := by
  unfold execFencee
  rw [State.runInstr_ready h (by simp [hx, hi]), State.dispEnv_fetched]

/-! ### QSIG and QWAIT -/

theorem State.tokenObj_names {obj : Nat} (h : s.Names c ((s.core c).sreg f.srcA.toNat) obj) (body : State → Nat → SOut) :
    (s.modCore c Core.fetched).tokenObj c f body = body (s.modCore c Core.fetched) obj := by
  have ht : (s.modCore c Core.fetched).translate c (s.core c).ctx ((s.core c).a f).toNat (s.core c).slotCls = .ok obj :=
    (State.translate_congr (State.modCore_regs ..) ..).trans (State.translate_names h)
  unfold State.tokenObj
  dsimp only
  have hslot : (s.core c).fetched.slotCls = (s.core c).slotCls := by rw [Core.slotCls, Core.fetched_slot, Core.slotCls]
  rw [State.core_modCore_same, Core.a_fetched, Core.fetched_ctx, hslot, if_neg (by exact not_lt.2 h.1)]
  rw [ht]

theorem execQsig_issues (h : s.Ready c f .u false) (hx : f.hasExt = false) {obj : Nat} (hn : s.Names c ((s.core c).sreg f.srcA.toNat) obj)
    {e : Nat} (he : e < 5) (hd : f.dst.toNat % 8 = e) (hb : (s.core c).sreg f.srcB.toNat = 0 ∨
      s.dataOk (s.core c).priv (s.core c).wins true ((s.core c).sreg f.srcB.toNat).toNat 1 = true) :
    execQsig c f s = .next (State.settle c (s.core c).pc f.len (((s.modCore c Core.fetched).countDelta c obj 1).issue c
      [(e, Entry.signal obj ((s.core c).sreg f.srcB.toNat).toNat (s.dispEnv c))])) := by
  have hok : ¬ (((s.core c).sreg f.srcB.toNat).toNat ≠ 0 ∧
      (!(s.modCore c Core.fetched).dataOk (s.core c).priv (s.core c).wins true ((s.core c).sreg f.srcB.toNat).toNat 1) = true) := by
    rintro ⟨h0, h1⟩
    rcases hb with hb | hb
    · exact h0 (by rw [hb]; rfl)
    · rw [State.dataOk_congr (s := s) (by exact State.modCore_regs ..), hb] at h1
      cases h1
  have hw : (s.core c).fetched.wins = (s.core c).wins := by unfold Core.wins; simp only [Core.rdCsr_fetched]
  unfold execQsig
  rw [State.runInstr_ready h (by simp [hx, hd, he]), State.tokenObj_names hn]
  dsimp only
  rw [State.core_modCore_same, Core.b_fetched, Core.fetched_priv, hw, State.dispEnv_fetched, hd]
  exact congrArg (fun o => Host.Outcome.next (State.settle c (s.core c).pc f.len o)) (if_neg hok)

theorem execQwait_issues (h : s.Ready c f .u false) (hx : f.hasExt = false) {obj : Nat} (hn : s.Names c ((s.core c).sreg f.srcA.toNat) obj)
    {e : Nat} (he : e < 5) (hd : f.dst.toNat % 8 = e) (hl : f.low3 < 6) :
    execQwait c f s = .next (State.settle c (s.core c).pc f.len ((s.modCore c Core.fetched).issue c
      [(e, Entry.wait obj f.low3 (((s.core c).sreg f.srcB.toNat).toNat % 2 ^ 32) (s.dispEnv c))])) := by
  unfold execQwait
  rw [State.runInstr_ready h (by simp [hx, hd, he, condOk, hl]), State.tokenObj_names hn, State.core_modCore_same, Core.b_fetched,
    State.dispEnv_fetched, hd]
  rfl

/-! ### QSTAT, EFLUSH and ERESUME -/

theorem Core.qstat_eq (k : Core) (e : Nat) : k.fetched.qstat e = 16 - (k.queue e).length +
    (if (k.rdCsr (0x38 + e)).getLsbD 0 then 256 else 0) + (if k.queue e = [] then 512 else 0) := by
  unfold Core.qstat Core.halted
  rw [Core.queue_fetched, Core.rdCsr_fetched]
  simp only [List.isEmpty_iff]

theorem execQstat_shows (h : s.Ready c f .u false) (hx : f.hasExt = false) {e : Nat} (he : e < 5) (ha : f.srcA.toNat % 8 = e) :
    execQstat c f s = .next (s.retired c f (fun q => q.setS f.dst.toNat (BitVec.ofNat 64
      (16 - ((s.core c).queue e).length + (if ((s.core c).rdCsr (0x38 + e)).getLsbD 0 then 256 else 0) +
        (if (s.core c).queue e = [] then 512 else 0))))) := by
  unfold execQstat
  exact next_runInstr_done h (by simp [hx, ha, he]) (by rw [ha, Core.qstat_eq])

/-- The core of an instruction that empties or shortens the queue of an engine and clears its halt (R242). -/
theorem State.clearHalt_shows (s : State) (c : CoreId) (f : IFields) (hx : f.hasExt = false) (e : Nat) (he : e < 5) (g : Core → Core)
    (q : List Entry) (hq : ∀ i, (g (s.core c).fetched).queue i = if i = e then q else (s.core c).queue i)
    (hr : (g (s.core c).fetched).rdCsr (0x38 + e) = 0) :
    let t := ((s.modCore c Core.fetched).modCore c g).advance c ((s.core c).pc + w64 f.len)
    (t.core c).queue e = q ∧ (t.core c).rdCsr (0x38 + e) = 0 ∧ (∀ e', e' ≠ e → (t.core c).queue e' = (s.core c).queue e') ∧
      (t.core c).pc = (s.core c).pc + 4 ∧ t.regs = s.regs ∧ t.mem = s.mem := by
  intro t
  have hc : t.core c = { (g (s.core c).fetched).retire with pc := (s.core c).pc + w64 f.len, stw := .run } := by
    rw [State.core_advance_same, State.core_modCore_same, State.core_modCore_same]
  have hqueue (i : Nat) : (t.core c).queue i = if i = e then q else (s.core c).queue i := by
    rw [hc]
    exact hq i
  refine ⟨by rw [hqueue, if_pos rfl], ?_, fun i hi => by rw [hqueue, if_neg hi], by rw [hc, IFields.w64_len hx], ?_, ?_⟩
  · rw [hc]
    change ((g (s.core c).fetched).wrCsr 0x21 _).rdCsr (0x38 + e) = 0
    rw [Core.rdCsr_wrCsr, if_neg (by omega), hr]
  · rw [State.advance_regs, State.modCore_regs, State.modCore_regs]
  · rw [State.advance_mem, State.modCore_mem, State.modCore_mem]

theorem execEflush_shows (h : s.Ready c f .s true) (hx : f.hasExt = false) {e : Nat} (he : e < 5) (ha : f.srcA.toNat % 8 = e) :
    execEflush c f s = .next (((s.modCore c Core.fetched).modCore c (fun k => (k.setQueue e []).clearHalt e)).advance c
      ((s.core c).pc + w64 f.len)) := by
  unfold execEflush
  rw [State.runInstr_ready h (by simp [hx, ha, he]), ha]
  rfl

theorem execEresume_halted (h : s.Ready c f .s true) (hx : f.hasExt = false) {e : Nat} (he : e < 5) (ha : f.srcA.toNat % 8 = e)
    (hh : (s.core c).halted e = true) :
    execEresume c f s = .next (((s.modCore c Core.fetched).modCore c (fun k => (k.popQueue e).clearHalt e)).advance c
      ((s.core c).pc + w64 f.len)) := by
  have hh' : ((s.modCore c Core.fetched).core c).halted e = true := by rw [State.core_modCore_same, Core.halted, Core.rdCsr_fetched]; exact hh
  have hg : (s.modCore c Core.fetched).modCore c (fun k => if k.halted e then (k.popQueue e).clearHalt e else k) =
      (s.modCore c Core.fetched).modCore c (fun k => (k.popQueue e).clearHalt e) := State.modCore_congr (if_pos hh')
  unfold execEresume
  rw [State.runInstr_ready h (by simp [hx, ha, he]), ha]
  dsimp only
  rw [hg]
  rfl

theorem Core.queue_popQueue (k : Core) (e i : Nat) : (k.popQueue e).queue i = if i = e then (k.queue e).drop 1 else k.queue i :=
  Core.queue_setQueue k e i _

/-! ### The dispatch of classes 7–11 -/

theorem execDispatch_issues {op : EOp} (h : s.Ready c f op.level false) (hx : f.hasExt = true → op.extOk = true) :
    execDispatch c op f s = .next (State.settle c (s.core c).pc f.len ((s.modCore c Core.fetched).issue c
      [(op.eng, .op op f ((s.core c).sreg f.srcA.toNat) ((s.core c).sreg f.srcB.toNat) ((s.core c).sreg f.dst.toNat) (s.dispEnv c))])) := by
  unfold execDispatch
  rw [State.runInstr_ready h (by cases hf : f.hasExt with | false => rfl | true => exact hx hf)]
  dsimp only
  rw [State.core_modCore_same, Core.a_fetched,
    Core.b_fetched, Core.d_fetched, State.dispEnv_fetched]
  rfl

end

/-- A stalled instruction issues once its queue has room (R150). -/
theorem execQueueEntryFree_issues {s : State} {c : CoreId} {e : Nat} {x : Entry} (hw : (s.core c).stw = .queueFull [(e, x)])
    (hd : (s.core c).dbgHalt = false) (hr : ((s.core c).queue e).length < 16) :
    execQueueEntryFree c s = .next ((s.queued c [(e, x)]).advance c ((s.core c).pc + w64 x.len)) := by
  have hroom : (s.core c).room [(e, x)] = true := (Core.room_iff _ _).2 (by simpa using hr)
  unfold execQueueEntryFree
  rw [hw]
  dsimp only
  rw [hd, hroom]
  rfl

/-- Settles O20: each instruction from its own equation, what is queued and what stalls from one lemma each. -/
theorem queueInstructions : Obligations.QueueInstructions := by
  intro c f s k a b env queued stalled room
  have hqueued {i : Instr} {u : State} {es : List (Nat × Entry)} (hu : s.SameQueues u c)
      (he : exec i s = .next (State.settle c (s.core c).pc f.len (u.issue c es))) (hr : ∀ p ∈ es, room p.1) : queued i es :=
    ⟨_, he, hu.issues _ _ hr⟩
  have hstalled {i : Instr} {u : State} {es : List (Nat × Entry)} (hu : s.SameQueues u c)
      (he : exec i s = .next (State.settle c (s.core c).pc f.len (u.issue c es))) (hr : ∃ p ∈ es, ¬ room p.1) : stalled i es :=
    ⟨_, he, hu.stalls _ _ hr⟩
  have hf := s.sameQueues_fetched c
  refine ⟨fun hx hi => ⟨fun h he => execFences_passes h hx hi he, fun h he => ⟨_, execFences_waits h hx hi he, ?_, ?_, State.modCore_regs ..⟩,
    fun h hr => hqueued hf (execFencee_issues h hx hi) ?_, fun h hr => hstalled hf (execFencee_issues h hx hi) ?_⟩, ?_, ?_, ?_, ?_⟩
  · exact hf.pc
  · rw [State.core_modCore_same, Core.fetched_stw]
  · exact fun p hp => by obtain ⟨e, he, rfl⟩ := List.mem_map.1 hp; exact hr e he
  · obtain ⟨e, he, hn⟩ := hr
    exact ⟨_, List.mem_map_of_mem he, hn⟩
  · intro h hx obj hn e he hd
    exact ⟨fun hb hr => hqueued (hf.countDelta obj 1) (execQsig_issues h hx hn he hd hb) (by simpa using hr),
      fun hl hr => hqueued hf (execQwait_issues h hx hn he hd hl) (by simpa using hr)⟩
  · intro hx e he ha halted
    refine ⟨fun h => execQstat_shows h hx he ha, fun h => ⟨_, execEflush_shows h hx he ha, ?_⟩, fun h hh => ⟨_, execEresume_halted h hx he ha hh, ?_⟩⟩
    · refine s.clearHalt_shows c f hx e he _ [] (fun i => ?_) ?_
      · exact (Core.queue_setQueue _ e i []).trans (by rw [Core.queue_fetched])
      · exact (Core.rdCsr_wrCsr ..).trans (if_pos rfl)
    · obtain ⟨hq, hr, -, hpc, hregs, hmem⟩ := s.clearHalt_shows c f hx e he (fun q => (q.popQueue e).clearHalt e) ((k.queue e).drop 1)
        (fun i => (Core.queue_popQueue _ e i).trans (by rw [Core.queue_fetched, Core.queue_fetched])) ((Core.rdCsr_wrCsr ..).trans (if_pos rfl))
      exact ⟨hq, hr, hpc, hregs, hmem⟩
  · intro op hx h
    exact ⟨fun hr => hqueued hf (execDispatch_issues h hx) (by simpa using hr),
      fun hr => hstalled hf (execDispatch_issues h hx) ⟨_, List.mem_singleton_self _, hr⟩⟩
  · intro e x hw hd hr
    have hc := State.core_advance_same (s.queued c [(e, x)]) c (k.pc + w64 x.len)
    refine ⟨_, execQueueEntryFree_issues hw hd hr, ?_, by rw [hc], by rw [hc]⟩
    obtain ⟨-, hq, -⟩ := s.showsQueued_advance c (k.pc + w64 x.len) [(e, x)]
    rw [hq]
    simp [k]

/-! ### Fence tokens -/

theorem mem_engsOf {mask i : Nat} : i ∈ engsOf mask ↔ i < 5 ∧ mask / 2 ^ i % 2 = 1 := by
  simp [engsOf, bit]

/-- The heads of the queues of distinct engines removed. -/
theorem Core.queue_dropHeads (k : Core) {l : List Nat} (hl : l.Nodup) (i : Nat) :
    (l.foldl (fun k i => k.setQueue i ((k.queue i).drop 1)) k).queue i = if i ∈ l then (k.queue i).drop 1 else k.queue i := by
  induction l generalizing k with
  | nil => rfl
  | cons e l ih =>
    obtain ⟨hne, hl⟩ := List.nodup_cons.1 hl
    rw [List.foldl_cons, ih _ hl, Core.queue_setQueue]
    by_cases he : i = e
    · subst he
      simp [hne]
    · simp [he]

/-- Whether engine `i` may run and has reached a fence token with mask `mask` (R243). -/
def Core.atFence (k : Core) (mask i : Nat) : Bool := k.engineFree i && (match k.queue i with
  | .fence m _ :: _ => m == mask
  | _ => false)

theorem Core.atFence_of_head {k : Core} {mask i : Nat} {env : DispEnv} (hf : k.engineFree i = true) (h : (k.queue i).head? = some (.fence mask env)) :
    k.atFence mask i = true := by
  obtain ⟨t, ht⟩ : ∃ t, k.queue i = .fence mask env :: t := by
    cases hq : k.queue i with
    | nil => rw [hq] at h; cases h
    | cons x t => rw [hq] at h; cases h; exact ⟨t, rfl⟩
  rw [Core.atFence, hf, ht]
  exact beq_self_eq_true mask

theorem execFenceToken_all {s : State} {c : CoreId} {e : EngId} {mask : Nat} {env : DispEnv} {rest : List Entry}
    (hq : (s.core c).queue e = .fence mask env :: rest) (h : ∀ i ∈ engsOf mask, (s.core c).atFence mask i = true) :
    execFenceToken c e s = .next (s.modCore c (fun k => (engsOf mask).foldl (fun k i => k.setQueue i ((k.queue i).drop 1)) k)) := by
  unfold execFenceToken
  dsimp only
  rw [hq]
  exact congrArg _ (if_pos (List.all_eq_true.2 h))

/-! ### Signal tokens -/

section
variable {s : State} {c : CoreId} {e : EngId} {obj guard : Nat} {env : DispEnv} {rest : List Entry}

theorem execSignalToken_unguarded (hf : (s.core c).engineFree e = true) (hq : (s.core c).queue e = .signal obj 0 env :: rest) :
    execSignalToken c e s = .next ((s.modCore c (fun k => k.setQueue e rest)).deliver c obj 1 env.gen e env.ctx 0).1 := by
  unfold execSignalToken
  dsimp only
  rw [hq]
  dsimp only
  rw [hf]
  rfl

theorem execSignalToken_guarded (hf : (s.core c).engineFree e = true) (hq : (s.core c).queue e = .signal obj guard env :: rest) (hg : guard ≠ 0) :
    execSignalToken c e s = .next ((s.modCore c (fun k => k.setQueue e rest)).postMarker c e
      ((s.modCore c (fun k => k.setQueue e rest)).pathOf ((s.modCore c (fun k => k.setQueue e rest)).loc (some c) guard)) obj 1 env.gen env.cls) := by
  unfold execSignalToken
  dsimp only
  rw [hq]
  dsimp only
  rw [hf]
  exact congrArg _ (if_neg hg)

theorem State.queue_popped (s : State) (c : CoreId) (e : Nat) (q : List Entry) : ((s.modCore c (fun k => k.setQueue e q)).core c).queue e = q := by
  rw [State.core_modCore_same, Core.queue_setQueue, if_pos rfl]

theorem Core.SameBut.queue_eq {k q : Core} (h : k.SameBut q) (e : Nat) : q.queue e = k.queue e := by
  obtain ⟨w, p, rfl⟩ := h
  rfl

end

/-- A signal of 1 in the current generation to an object below its limit adds 1 to it and writes nothing else (R451, R463). -/
theorem State.deliver_current {s : State} {c : CoreId} {obj gen : Nat} (hg : gen = s.fld (R.CORE_BELLGEN_CTXGEN c))
    (hl : s.fld (R.CORE_SOBJ_VALUE c obj) < s.fld (R.CORE_SOBJCFG_LIMIT c obj)) (src ctx vid : Nat) :
    let t := (s.deliver c obj 1 gen src ctx vid).1
    t.fld (R.CORE_SOBJ_VALUE c obj) = s.fld (R.CORE_SOBJ_VALUE c obj) + 1 ∧ (∀ o, o ≠ R.CORE_SOBJ c obj → t.reg o = s.reg o) ∧
      ∀ e, (t.core c).queue e = (s.core c).queue e := by
  intro t
  have ht : t = (s.setFld (R.CORE_SOBJ_VALUE c obj) (s.fld (R.CORE_SOBJ_VALUE c obj) + 1)).fireWatches c obj := by
    have hd : s.deliver c obj 1 gen src ctx vid = s.updateObj c obj 1 src ctx vid := if_neg (not_not.2 hg)
    rw [State.updateObj_applies (v := s.fld (R.CORE_SOBJ_VALUE c obj) + 1) rfl hl] at hd
    exact congrArg Prod.fst hd
  have hlt : s.fld (R.CORE_SOBJCFG_LIMIT c obj) < 2 ^ 32 := s.fld_lt _
  refine ⟨?_, fun o ho => ?_, fun e => ?_⟩
  · rw [ht, State.fld_fireWatches, State.fld_value_set _ _ _ (by omega)]
  · rw [ht, State.reg_fireWatches, State.reg_setFld, if_neg (by exact ho)]
  · rw [ht, (State.core_fireWatches _ c obj c).queue_eq, State.core_setFld]

/-- A signal of an older generation is dropped and counted (R458). -/
theorem State.deliver_stale {s : State} {c : CoreId} {gen : Nat} (hg : gen ≠ s.fld (R.CORE_BELLGEN_CTXGEN c)) (obj : Nat) (delta : Int)
    (src ctx vid : Nat) : (s.deliver c obj delta gen src ctx vid).1 = s.satInc (R.CORE_BELLSTAT_STALE_DROP c) :=
  congrArg Prod.fst (if_pos hg)

theorem sobj_ne_bellstat (c : CoreId) (obj : Nat) : (R.CORE_SOBJ_VALUE c obj).off ≠ (R.CORE_BELLSTAT_STALE_DROP c).off := by
  show R.CORE_SOBJ c obj ≠ R.CORE_BELLSTAT c
  unfold R.CORE_SOBJ R.CORE_BELLSTAT
  omega

/-! ### Wait tokens -/

theorem objCond_iff {cond : Nat} (h : cond < 6) (v t : Nat) : objCond cond v t = true ↔ Holds cond v t := by
  unfold Holds
  interval_cases cond <;> simp [objCond]

section
variable {s : State} {c : CoreId} {e : Nat} {obj cond thr : Nat} {env : DispEnv} {rest : List Entry}
  (hq : (s.core c).queue e = .wait obj cond thr env :: rest)
include hq

theorem State.releaseToken_holds (hf : (s.core c).engineFree e = true) (h : objCond cond (s.fld (R.CORE_SOBJ_VALUE c obj)) thr = true) :
    s.releaseToken c e = (s.modCore c (fun k => k.setQueue e rest)).fldBitClr (R.CORE_BELLSTAT_LENT c) e := by
  have hn : ((s.core c).dbgHalt || (s.core c).halted e) = false := by
    revert hf
    unfold Core.engineFree
    cases (s.core c).dbgHalt <;> cases (s.core c).halted e <;> simp
  unfold State.releaseToken
  dsimp only
  rw [hn, hq]
  exact (if_neg Bool.false_ne_true).trans (if_pos h)

theorem State.releaseToken_stays (h : objCond cond (s.fld (R.CORE_SOBJ_VALUE c obj)) thr ≠ true) : s.releaseToken c e = s := by
  unfold State.releaseToken
  dsimp only
  rw [hq]
  dsimp only
  rw [if_neg h, ite_self]

end

/-- Settles O21: each token from its own equation. -/
theorem tokensRun : Obligations.TokensRun := by
  intro c e s rest hf k
  refine ⟨fun mask env hq hm hall => ?_, fun obj guard env hq ho => ⟨fun hg hgen hl => ?_, fun hg hgen => ?_, fun hg => ?_⟩,
    fun obj cond thr env hq hc => ⟨fun hh => ?_, fun hh => ?_⟩⟩
  · refine ⟨_, execFenceToken_all hq fun i hi => ?_, fun i => ?_, State.modCore_regs .., State.modCore_mem ..⟩
    · obtain ⟨hfree, env', hhead⟩ := hall i (mem_engsOf.1 hi).1 (mem_engsOf.1 hi).2
      exact Core.atFence_of_head hfree hhead
    · have hnd : (engsOf mask).Nodup := List.nodup_range.filter _
      rw [State.core_modCore_same, Core.queue_dropHeads _ hnd]
      simp only [mem_engsOf]
      rfl
  · subst hg
    obtain ⟨hv, hr, hqs⟩ := State.deliver_current (s := s.modCore c (fun k => k.setQueue e rest)) (gen := env.gen) (by rw [State.fld_modCore, hgen])
      (obj := obj) (by rw [State.fld_modCore, State.fld_modCore]; exact hl) e env.ctx 0
    exact ⟨_, execSignalToken_unguarded hf hq, (hqs e).trans (State.queue_popped s c e rest), hv.trans (by rw [State.fld_modCore]),
      fun o h => (hr o h).trans (State.reg_congr (State.modCore_regs ..) o)⟩
  · subst hg
    refine ⟨_, execSignalToken_unguarded hf hq, ?_⟩
    rw [State.deliver_stale (by rw [State.fld_modCore]; exact hgen)]
    refine ⟨?_, ?_, ?_⟩
    · exact (congrArg (Core.queue · e) (State.core_setFld ..)).trans (State.queue_popped s c e rest)
    · exact (State.fld_setFld_off _ _ _ _ (sobj_ne_bellstat c obj)).trans (State.fld_modCore ..)
    · rw [State.fld_satInc _ _ (by show 48 + 16 ≤ 64; decide), State.fld_modCore]
      rfl
  · refine ⟨_, _, execSignalToken_guarded hf hq hg, State.queue_popped s c e rest, State.modCore_regs s c (fun k => k.setQueue e rest), rfl, rfl, rfl, rfl, rfl, rfl, ?_⟩
    rw [State.loc_congr (State.modCore_regs ..)]
    rfl
  · have hrel := State.releaseToken_holds hq hf ((objCond_iff hc _ _).2 hh)
    refine ⟨⟨_, congrArg Host.Outcome.next ((if_pos hf).trans hrel), ?_, ?_⟩, ?_⟩
    · exact (congrArg (Core.queue · e) (State.core_setFld ..)).trans (State.queue_popped s c e rest)
    · exact (State.setFld_mem ..).trans (State.modCore_mem ..)
    · exact congrArg Host.Outcome.next ((if_pos hf).trans (if_pos (show e.val < 5 from e.isLt)).symm)
  · exact congrArg Host.Outcome.next ((if_pos hf).trans (State.releaseToken_stays hq fun h => hh ((objCond_iff hc _ _).1 h)))

end Sys2Proof.Machine
end

section
-- One proof after another: what waits for another costs the check memory.
set_option Elab.async false
/-! SUPPORT. The engines: how an entry starts, completes, halts and is refused (R254, R287–R290). -/
namespace Sys2Proof.Machine

/-! ### An engine that starts (R770–R773) -/

/-- A core of which only the power credits may have moved. -/
def Core.CreditOnly (k q : Core) : Prop := ∃ h w, q = { k with held := h, withheld := w }

theorem Core.CreditOnly.trans {k q r : Core} (h : k.CreditOnly q) (h' : q.CreditOnly r) : k.CreditOnly r := by
  obtain ⟨a, b, rfl⟩ := h
  obtain ⟨a', b', rfl⟩ := h'
  exact ⟨a', b', rfl⟩

theorem Core.CreditOnly.queue {k q : Core} (h : k.CreditOnly q) (e : Nat) : q.queue e = k.queue e := by
  obtain ⟨a, b, rfl⟩ := h
  rfl

/-- Two states that differ at most in the domains that are on and in the credits that engines hold. -/
structure State.Credited (s t : State) : Prop where
  reg : ∀ o, o ≠ R.PWR_DOMON0 → o ≠ R.PWR_DOMON1 → t.reg o = s.reg o
  core : ∀ n, (s.core n).CreditOnly (t.core n)
  rest : ∃ rg cs, t = { s with regs := rg, cores := cs }

theorem State.Credited.refl (s : State) : s.Credited s := ⟨fun _ _ _ => rfl, fun _ => ⟨_, _, rfl⟩, _, _, rfl⟩

theorem State.Credited.trans {s t u : State} (h : s.Credited t) (h' : t.Credited u) : s.Credited u where
  reg o h0 h1 := (h'.reg o h0 h1).trans (h.reg o h0 h1)
  core n := (h.core n).trans (h'.core n)
  rest := by
    obtain ⟨rg, cs, rfl⟩ := h.rest
    obtain ⟨rg', cs', rfl⟩ := h'.rest
    exact ⟨_, _, rfl⟩

theorem State.Credited.modCore {s t : State} (h : s.Credited t) (n : Nat) {g : Core → Core} (hg : ∀ k : Core, k.CreditOnly (g k)) :
    s.Credited (t.modCore n g) where
  reg o h0 h1 := h.reg o h0 h1
  core m := by
    rw [State.core_modCore]
    split_ifs with hm
    · exact hm ▸ (h.core n).trans (hg _)
    · exact h.core m
  rest := by
    obtain ⟨rg, cs, rfl⟩ := h.rest
    exact ⟨_, _, rfl⟩

theorem State.Credited.setFld {s t : State} (h : s.Credited t) {f : Fld} (hf : f.off = R.PWR_DOMON0 ∨ f.off = R.PWR_DOMON1) (v : Nat) :
    s.Credited (t.setFld f v) where
  reg o h0 h1 := by
    rw [State.reg_setFld, if_neg (by rcases hf with hf | hf <;> rw [hf] <;> assumption)]
    exact h.reg o h0 h1
  core m := by
    rw [State.core_setFld]
    exact h.core m
  rest := by
    obtain ⟨rg, cs, rfl⟩ := h.rest
    exact ⟨_, _, rfl⟩

theorem State.Credited.setDom {s t : State} (h : s.Credited t) (d : Nat) (on : Bool) : s.Credited (t.setDom d on) := by
  have hf : (if d < 64 then R.PWR_DOMON0_ON else R.PWR_DOMON1_ON).off = R.PWR_DOMON0 ∨
      (if d < 64 then R.PWR_DOMON0_ON else R.PWR_DOMON1_ON).off = R.PWR_DOMON1 := by
    split_ifs
    · exact .inl rfl
    · exact .inr rfl
  unfold State.setDom
  dsimp only
  cases on with
  | false => exact h.setFld hf _
  | true => exact h.setFld hf _

theorem State.Credited.reclaim {s t : State} (h : s.Credited t) (need : Nat) (l : List (Nat × Nat)) : s.Credited (t.reclaim need l) := by
  induction l generalizing t with
  | nil => exact h
  | cons x l ih =>
    unfold State.reclaim
    split_ifs
    · exact h
    · exact ih (h.modCore x.1 fun _ => ⟨_, _, rfl⟩)

theorem State.Credited.askCredit {s t : State} (h : s.Credited t) (c e cls : Nat) : s.Credited (t.askCredit c e cls) := by
  unfold State.askCredit
  dsimp only
  generalize (engineCredit e + if cls = 0 then 0 else t.reserveLeft) = need
  have hr : s.Credited (if cls = 0 then t.reclaim need (t.holders 2 ++ t.holders 1) else if cls = 1 then t.reclaim need (t.holders 2) else t) := by
    split_ifs
    · exact h.reclaim _ _
    · exact h.reclaim _ _
    · exact h
  generalize (if cls = 0 then t.reclaim need (t.holders 2 ++ t.holders 1) else if cls = 1 then t.reclaim need (t.holders 2) else t) = u at hr ⊢
  by_cases hc : cls = 0 ∨ u.creditUsed + need ≤ u.fld R.PWR_STATUS_LIVE
  · rw [if_pos hc]
    exact hr.modCore c fun _ => ⟨_, _, rfl⟩
  · rw [if_neg hc]
    exact hr.modCore c fun _ => ⟨_, _, rfl⟩

/-- Starting an entry moves only domains and credits. -/
theorem State.credited_engineStart (s : State) (x : Eng) : s.Credited (s.engineStart x) := by
  unfold State.engineStart
  dsimp only
  have hd : s.Credited (if x.e.val < 3 then s.setDom (5 * x.c + 1 + x.e) true else s) := by
    split_ifs
    · exact (State.Credited.refl s).setDom _ _
    · exact State.Credited.refl s
  generalize (if x.e.val < 3 then s.setDom (5 * x.c + 1 + x.e) true else s) = u at hd ⊢
  split_ifs
  · exact hd
  · exact hd.askCredit _ _ _

theorem State.credited_started (s : State) (c : CoreId) (op : EOp) (env : DispEnv) : s.Credited (s.started c op env) :=
  s.credited_engineStart _

section
variable {s t : State} (h : s.Credited t)
include h

theorem State.Credited.mem : t.mem = s.mem := by obtain ⟨_, _, rfl⟩ := h.rest; rfl
theorem State.Credited.memGen : t.memGen = s.memGen := by obtain ⟨_, _, rfl⟩ := h.rest; rfl
theorem State.Credited.fab : t.fab = s.fab := by obtain ⟨_, _, rfl⟩ := h.rest; rfl
theorem State.Credited.byte (a : Nat) : t.byte a = s.byte a := by obtain ⟨_, _, rfl⟩ := h.rest; rfl

theorem State.Credited.fld (f : Fld) (h0 : f.off ≠ R.PWR_DOMON0) (h1 : f.off ≠ R.PWR_DOMON1) : t.fld f = s.fld f := by
  rw [State.fld, h.reg _ h0 h1, State.fld]

theorem State.Credited.flag (f : Fld) (h0 : f.off ≠ R.PWR_DOMON0) (h1 : f.off ≠ R.PWR_DOMON1) : t.flag f = s.flag f := by
  rw [State.flag, h.fld _ h0 h1, State.flag]

theorem State.Credited.hasNim : t.hasNim = s.hasNim := h.flag _ (by decide) (by decide)
theorem State.Credited.self : t.fld R.NIM_CFG_SELF = s.fld R.NIM_CFG_SELF := h.fld _ (by decide) (by decide)

theorem State.Credited.dataOk (p : Priv) (ws : List (Nat × Nat)) (w : Bool) (a n : Nat) : t.dataOk p ws w a n = s.dataOk p ws w a n := by
  unfold State.dataOk State.hitsCtl
  rw [h.hasNim, h.self]

theorem State.Credited.loc (core : Option Nat) (a : Nat) : t.loc core a = s.loc core a := by
  have hcore : t.hasCore = s.hasCore := funext fun n => by
    rw [State.hasCore, h.fld _ (by decide) (by decide), State.hasCore]
  have hpond : t.hasPond = s.hasPond := funext fun n => by rw [State.hasPond, hcore, State.hasPond]
  have hl : locLocal t = locLocal s := funext fun a => by
    unfold locLocal
    rw [hcore, hpond]
  unfold State.loc
  rw [h.hasNim, h.self, hl]

end

/-! ### The run of an entry -/

theorem eng_lt_five (op : EOp) : op.eng < 5 := by cases op <;> decide

theorem unitOf_val (op : EOp) : (unitOf op).val = op.eng := Nat.mod_eq_of_lt ((eng_lt_five op).trans (by decide))

/-- The engine that runs an entry of `op`. -/
abbrev engOf (c : CoreId) (op : EOp) (env : DispEnv) : Eng := ⟨c, unitOf op, env⟩

section
variable {s u : State} {c : CoreId} {op : EOp} {f : IFields} {a b d : Word} {env : DispEnv} (h : s.Runs c op f a b d env)
  {body : State → Eng → IFields → Word → Word → Word → EOut}
include h

/-- How a run ends once its body has answered. -/
theorem State.runEntry_runs : s.runEntry c op body = match body (s.started c op env) (engOf c op env) f a b d with
    | .wait u => u
    | .done u => if (u.core c).queue op.eng = (s.core c).queue op.eng then u.engineDone (engOf c op env) op else u
    | .stop u code addr => if (u.core c).queue op.eng = (s.core c).queue op.eng then u.engineHalt (engOf c op env) op code addr else u := by
  obtain ⟨hhead, hfree, hwith⟩ := h
  obtain ⟨t, ht⟩ : ∃ t, (s.core c).queue op.eng = .op op f a b d env :: t := by
    cases hq : (s.core c).queue op.eng with
    | nil => rw [hq] at hhead; cases hhead
    | cons x t => rw [hq] at hhead; cases hhead; exact ⟨t, rfl⟩
  have hgo : ¬ (op ≠ op ∨ (s.core c).engineFree op.eng = false) := by
    rw [hfree]
    simp
  have hnot : ¬ bit ((s.engineStart (engOf c op env)).core c).withheld op.eng = true := by
    rw [show bit ((s.engineStart (engOf c op env)).core c).withheld op.eng = false from hwith]
    decide
  unfold State.runEntry
  rw [ht]
  dsimp only
  rw [if_neg hgo, if_neg hnot]
  rfl

theorem State.runEntry_done (hb : body (s.started c op env) (engOf c op env) f a b d = .done u)
    (hq : (u.core c).queue op.eng = ((s.started c op env).core c).queue op.eng) : s.runEntry c op body = u.engineDone (engOf c op env) op := by
  rw [State.runEntry_runs h, hb]
  exact if_pos (hq.trans (((s.credited_started c op env).core c).queue op.eng))

theorem State.runEntry_stop {code addr : Nat} (hb : body (s.started c op env) (engOf c op env) f a b d = .stop u code addr)
    (hq : (u.core c).queue op.eng = ((s.started c op env).core c).queue op.eng) :
    s.runEntry c op body = u.engineHalt (engOf c op env) op code addr := by
  rw [State.runEntry_runs h, hb]
  exact if_pos (hq.trans (((s.credited_started c op env).core c).queue op.eng))

/-- An entry that changes nothing before its exception. -/
theorem State.runEntry_refused {code addr : Nat} (hb : body (s.started c op env) (engOf c op env) f a b d = .stop (s.started c op env) code addr) :
    s.runEntry c op body = (s.started c op env).engineHalt (engOf c op env) op code addr :=
  State.runEntry_stop h hb rfl

end

/-! ### The checks of an entry (R287–R290) -/

/-- The first check that fails refuses the entry. -/
theorem State.guarded_refused {s : State} {x : Eng} {checks : List (Bool × Nat × Nat)} {rs ws : List (Nat × Nat)} {run : Run → EOut}
    {code addr : Nat} (h : checks.find? (fun c => !c.1) = some (false, code, addr)) : s.guarded x checks rs ws run = .stop s code addr := by
  unfold State.guarded
  rw [h]

/-- A run of registers whose checks hold. -/
theorem State.guarded_registers {s : State} {x : Eng} {checks : List (Bool × Nat × Nat)} (h : ∀ k ∈ checks, k.1 = true) (run : Run → EOut) :
    s.guarded x checks [] [] run = run ⟨s, none⟩ := by
  have hf : checks.find? (fun c => !c.1) = none := List.find?_eq_none.2 fun k hk => by rw [h k hk]; decide
  unfold State.guarded
  rw [hf]
  unfold State.engGate State.awayNeed State.awayTag
  simp

/-- A range that the level may not read refuses the entry. -/
theorem State.guarded_access {s : State} {x : Eng} {checks : List (Bool × Nat × Nat)} (h : ∀ k ∈ checks, k.1 = true) {a n : Nat} (hn : 0 < n)
    (hd : s.dataOk x.env.priv x.env.wins false a n = false) (run : Run → EOut) :
    s.guarded x checks [(a, n)] [] run = .stop s exACCESS a := by
  have hf : checks.find? (fun c => !c.1) = none := List.find?_eq_none.2 fun k hk => by rw [h k hk]; decide
  unfold State.guarded
  rw [hf]
  unfold State.engGate
  simp [hn, hd]

/-! ### Completion and halt (R254, R771) -/

theorem State.core_engineDone (s : State) (c : CoreId) (op : EOp) (env : DispEnv) (i : Nat) :
    (s.engineDone (engOf c op env) op).core i = if i = c then
      (if (((s.core c).popQueue op.eng).queue op.eng).isEmpty then ((s.core c).popQueue op.eng).giveBack op.eng else (s.core c).popQueue op.eng)
    else s.core i := by
  unfold State.engineDone
  dsimp only
  rw [State.core_traceRec, State.core_modCore, unitOf_val]

theorem State.mem_engineDone (s : State) (x : Eng) (op : EOp) : (s.engineDone x op).mem = s.mem := by
  rw [State.engineDone, State.traceRec_mem, State.modCore_mem]

theorem State.fab_engineDone (s : State) (x : Eng) (op : EOp) : (s.engineDone x op).fab = s.fab := by
  rw [State.engineDone, State.traceRec_fab, State.modCore_fab]

/-- A core from which an entry has gone: its queue is shorter, and its credit and its reads outside the device may be gone. -/
theorem Core.popQueue_giveBack_eq (k : Core) (e : Nat) : ∃ w h a, (if ((k.popQueue e).queue e).isEmpty then (k.popQueue e).giveBack e else k.popQueue e) =
    { k with queues := SMap.set (fun _ => []) k.queues e ((k.queue e).drop 1), away := a, held := h, withheld := w } := by
  split_ifs
  · exact ⟨_, _, _, rfl⟩
  · exact ⟨_, _, _, rfl⟩

theorem eop_code_lt (op : EOp) : op.code < 64 := by cases op <;> decide
theorem eop_cls_lt (op : EOp) : op.cls < 16 := by cases op <;> decide

/-- Each field of EERR (R221). -/
theorem eerrWord_fields (op : EOp) {code : Nat} (hc : code < 256) (addr behind : Nat) :
    let w := (eerrWord op code addr behind).toNat
    w % 2 = 1 ∧ w / 2 % 16 = min behind 15 ∧ w / 2 ^ 6 % 16 = op.cls ∧ w / 2 ^ 10 % 64 = op.code ∧ w / 2 ^ 16 % 256 = code ∧
      w / 2 ^ 24 = addr % 2 ^ 40 := by
  have hcode := eop_code_lt op
  have hcls := eop_cls_lt op
  have hmin : min behind 15 ≤ 15 := Nat.min_le_right _ _
  have haddr : addr % 2 ^ 40 < 2 ^ 40 := Nat.mod_lt _ (by decide)
  intro w
  have hw : w = addr % 2 ^ 40 * 2 ^ 24 + code * 2 ^ 16 + op.code * 2 ^ 10 + op.cls * 2 ^ 6 + min behind 15 * 2 + 1 := by
    show (BitVec.ofNat 64 _).toNat = _
    rw [BitVec.toNat_ofNat, Nat.mod_eq_of_lt (by omega)]
  rw [hw]
  generalize addr % 2 ^ 40 = x at *
  generalize min behind 15 = y at *
  generalize op.code = u at *
  generalize op.cls = v at *
  refine ⟨?_, ?_, ?_, ?_, ?_, ?_⟩ <;> omega

/-! ### Refusals (R288, R289) -/

section
variable {s : State} {c : CoreId} {op : EOp} {f : IFields} {a b d : Word} {env : DispEnv}

/-- A command whose entry is refused halts its engine. -/
theorem next_refused (h : s.Runs c op f a b d env) {i : Instr} {body : State → Eng → IFields → Word → Word → Word → EOut}
    (he : exec i s = .next (s.runEntry c op body)) {code addr : Nat}
    (hb : body (s.started c op env) (engOf c op env) f a b d = .stop (s.started c op env) code addr) :
    exec i s = .next ((s.started c op env).engineHalt (engOf c op env) op code addr) :=
  he.trans (congrArg Host.Outcome.next (State.runEntry_refused h hb))

theorem State.guarded_first {x : Eng} {p : Bool} {code addr : Nat} {l : List (Bool × Nat × Nat)} {rs ws : List (Nat × Nat)} {run : Run → EOut}
    (h : p = false) : s.guarded x ((p, code, addr) :: l) rs ws run = .stop s code addr :=
  State.guarded_refused (by rw [h]; rfl)

theorem State.guarded_second {x : Eng} {p q : Bool} {y : Nat × Nat} {code addr : Nat} {l : List (Bool × Nat × Nat)} {rs ws : List (Nat × Nat)}
    {run : Run → EOut} (hp : p = true) (hq : q = false) : s.guarded x ((p, y) :: (q, code, addr) :: l) rs ws run = .stop s code addr :=
  State.guarded_refused (by rw [hp, hq]; rfl)

theorem extAddr_plain {f : IFields} (h : f.hasExt = false) (a : Word) : extAddr f a = a.toNat := by
  rw [extAddr, h]
  rfl

theorem State.started_vcfg (s : State) (c : CoreId) (op : EOp) (env : DispEnv) : ((s.started c op env).core c).vcfg = (s.core c).vcfg := by
  obtain ⟨_, _, hk⟩ := (s.credited_started c op env).core c
  rw [hk]

end

/-- What an engine keeps of the scalar, predicate, vector, residue, descriptor and result registers and of the configuration. -/
def Core.SameRegisters (k q : Core) : Prop := (∀ r, q.sreg r = k.sreg r) ∧ q.v = k.v ∧ q.m = k.m ∧ q.t = k.t ∧ q.cres = k.cres ∧
  q.vcfg = k.vcfg ∧ q.ccfg = k.ccfg ∧ q.pc = k.pc ∧ q.priv = k.priv ∧ q.p = k.p

theorem State.started_shows (s : State) (c : CoreId) (op : EOp) (env : DispEnv) (i : Nat) :
    (s.core i).SameRegisters ((s.started c op env).core i) ∧ ((s.started c op env).core i).csr = (s.core i).csr ∧
      ∀ e, ((s.started c op env).core i).queue e = (s.core i).queue e := by
  obtain ⟨_, _, hk⟩ := (s.credited_started c op env).core i
  rw [hk]
  exact ⟨⟨fun _ => rfl, rfl, rfl, rfl, rfl, rfl, rfl, rfl, rfl, rfl⟩, rfl, fun _ => rfl⟩

theorem State.engineDone_shows (s : State) (c : CoreId) (op : EOp) (env : DispEnv) :
    let t := s.engineDone (engOf c op env) op
    (s.core c).SameRegisters (t.core c) ∧ (t.core c).csr = (s.core c).csr ∧
      ∀ e, (t.core c).queue e = if e = op.eng then ((s.core c).queue e).drop 1 else (s.core c).queue e := by
  intro t
  obtain ⟨w, h, y, hk⟩ := (s.core c).popQueue_giveBack_eq op.eng
  have hcc : t.core c = _ := (s.core_engineDone c op env c).trans ((if_pos rfl).trans hk)
  rw [hcc]
  refine ⟨⟨fun _ => rfl, rfl, rfl, rfl, rfl, rfl, rfl, rfl, rfl, rfl⟩, rfl, fun e => ?_⟩
  refine (Core.queue_setQueue (s.core c) op.eng e _).trans ?_
  split_ifs with he
  · rw [he]
  · rfl

/-- A core whose engine has halted (R254). -/
def Core.engineHalted (k : Core) (op : EOp) (code addr : Nat) : Core :=
  { k with
    csr := SMap.set csrReset k.csr (0x38 + op.eng) (eerrWord op code addr ((k.queue op.eng).length - 1))
    pend := { k.pend with engines := setBit k.pend.engines op.eng } }

theorem Core.wrCsr_withPend (k : Core) (n : Nat) (v : Word) (p : Pend) :
    ({ k.wrCsr n v with pend := p } : Core) = { k with csr := SMap.set csrReset k.csr n v, pend := p } := rfl

theorem Core.sameRegisters_csr (k : Core) (csr : SMap Word) (p : Pend) : k.SameRegisters { k with csr := csr, pend := p } ∧
    ∀ e, ({ k with csr := csr, pend := p } : Core).queue e = k.queue e :=
  ⟨⟨fun _ => rfl, rfl, rfl, rfl, rfl, rfl, rfl, rfl, rfl, rfl⟩, fun _ => rfl⟩

theorem State.engineHalt_eq (s : State) (c : CoreId) (op : EOp) (env : DispEnv) {code : Nat} (hc : code ≠ 3) (addr : Nat) :
    s.engineHalt (engOf c op env) op code addr = s.modCore c (fun k => k.engineHalted op code addr) := by
  unfold State.engineHalt State.poisoned
  rw [if_pos hc]
  dsimp only
  rw [unitOf_val]
  exact congrArg (s.modCore c) (funext fun k => k.wrCsr_withPend (0x38 + op.eng) (eerrWord op code addr ((k.queue op.eng).length - 1)) _)

theorem Core.engineHalted_shows (k : Core) (op : EOp) (code addr : Nat) :
    k.SameRegisters (k.engineHalted op code addr) ∧ (∀ e, (k.engineHalted op code addr).queue e = k.queue e) ∧
      bit (k.engineHalted op code addr).pend.engines op.eng = true ∧
      (k.engineHalted op code addr).rdCsr (0x38 + op.eng) = eerrWord op code addr ((k.queue op.eng).length - 1) := by
  obtain ⟨hr, hq⟩ := k.sameRegisters_csr (SMap.set csrReset k.csr (0x38 + op.eng) (eerrWord op code addr ((k.queue op.eng).length - 1)))
    { k.pend with engines := setBit k.pend.engines op.eng }
  refine ⟨hr, hq, ?_, ?_⟩
  · rw [Core.engineHalted, bit_setBit]
    simp
  · rw [Core.rdCsr, Core.engineHalted, SMap.get_set, if_pos rfl]

/-- Settles O22: the start from `credited_started`, completion and halt from what they write, each refusal from its first failing check. -/
theorem engineEntries : Obligations.EngineEntries := by
  refine ⟨?_, ?_⟩
  · intro c op env s x same t0 t1
    have h := s.credited_started c op env
    obtain ⟨hregs, hcsr, hq⟩ := s.engineDone_shows c op env
    refine ⟨⟨h.mem, h.fab, s.started_shows c op env⟩, ⟨State.mem_engineDone .., State.fab_engineDone .., hregs, hcsr, hq,
      fun i hi => (s.core_engineDone c op env i).trans (if_neg hi)⟩, fun code addr hlt hne => ?_⟩
    have ht := s.engineHalt_eq c op env hne addr
    obtain ⟨hr, hqs, hp, hw⟩ := (s.core c).engineHalted_shows op code addr
    intro t w
    have hcc : t.core c = (s.core c).engineHalted op code addr := (congrArg (State.core · c) ht).trans (State.core_modCore_same ..)
    have hww : w = _ := congrArg BitVec.toNat ((congrArg (Core.rdCsr · (0x38 + op.eng)) hcc).trans hw)
    rw [hcc, hww]
    exact ⟨(congrArg State.mem ht).trans (State.modCore_mem ..), (congrArg State.fab ht).trans (State.modCore_fab ..),
      (congrArg State.regs ht).trans (State.modCore_regs ..), hr, hqs, hp, eerrWord_fields op hlt addr _⟩
  · intro c f a b d env s halts
    have hv (op : EOp) : ((s.started c op env).core c).vcfg = (s.core c).vcfg := s.started_vcfg c op env
    have above {n r : Nat} (h : n ≤ r) : decide (r < n) = false := decide_eq_false (not_lt.2 h)
    refine ⟨fun hd => ?_, fun hd => ?_, fun hd ha => ?_, fun ha => ?_, fun hd ha hok h => ?_, fun h14 h15 h => ?_, fun h14 h => ?_,
      fun ha hb h0 h1 h2 h4 h => ?_, fun hA hd hB hfmt h => ?_, fun hm h => ?_, fun hq h => ?_, fun hB hfmt => ?_⟩
    · have three {p q : Bool} : (decide (f.dst.toNat < 16) && p && q) = false := by rw [above hd]; rfl
      exact ⟨fun h => next_refused h rfl (State.guarded_first (above hd)), fun h => next_refused h rfl (State.guarded_first (above hd)),
        fun h => next_refused h rfl (State.guarded_first (by rw [above hd]; rfl)),
        fun h => next_refused h rfl (State.guarded_first (above hd)), fun h => next_refused h rfl (State.guarded_first (above hd)),
        fun h => next_refused h rfl (State.guarded_first three), fun h => next_refused h rfl (State.guarded_first three),
        fun h => next_refused h rfl (State.guarded_first three), fun h => next_refused h rfl (State.guarded_first three),
        fun h => next_refused h rfl (State.guarded_first three), fun h => next_refused h rfl (State.guarded_first three),
        fun h => next_refused h rfl (State.guarded_first (above hd))⟩
    · exact ⟨fun h => next_refused h rfl (State.guarded_first (above hd)), fun h => next_refused h rfl (State.guarded_first (above hd)),
        fun h => next_refused h rfl (State.guarded_first (by rw [above hd, Bool.and_false]))⟩
    · have hal : (a.toNat % 64 == 0) = false := beq_false_of_ne ha
      have hlt : decide (f.dst.toNat < 16) = true := decide_eq_true hd
      refine ⟨fun h => next_refused h rfl (State.guarded_second hlt hal), fun h => next_refused h rfl (State.guarded_second hlt hal), fun hx => ?_⟩
      have hp : extAddr f a = a.toNat := extAddr_plain hx a
      exact ⟨fun h => next_refused h rfl (by dsimp only; rw [hp]; exact State.guarded_second hlt hal),
        fun h => next_refused h rfl (by dsimp only; rw [hp]; exact State.guarded_second hlt hal),
        fun h => next_refused h rfl (by dsimp only; rw [hp]; exact State.guarded_first hal),
        fun h => next_refused h rfl (by dsimp only; rw [hp]; exact State.guarded_first hal)⟩
    · exact ⟨fun h => next_refused h rfl (State.guarded_first (beq_false_of_ne ha)),
        fun h => next_refused h rfl (State.guarded_first (beq_false_of_ne ha))⟩
    · refine next_refused h rfl (State.guarded_access (fun k hk => ?_) (by decide) (((s.credited_started c .tdld env).dataOk ..).trans hok) _)
      simp only [List.mem_cons, List.not_mem_nil, or_false] at hk
      rcases hk with rfl | rfl
      · exact decide_eq_true hd
      · exact beq_iff_eq.2 ha
    · exact next_refused h rfl (State.guarded_second (decide_eq_true h14) (by rw [h15]; rfl))
    · exact next_refused h rfl (State.guarded_first (above h14))
    · refine next_refused h rfl (State.guarded_second (by simp only [ha, hb]; rfl) ?_)
      have hof : b.toNat / 2 ^ 48 % 16 = b.toNat / 2 ^ 48 := Nat.mod_eq_of_lt (by omega)
      show requantFmt (b.toNat / 2 ^ 48 % 16) = false
      rw [hof, requantFmt, beq_false_of_ne h0, beq_false_of_ne h1, beq_false_of_ne h2, beq_false_of_ne h4]
      rfl
    · have hok : (decide (f.srcA.toNat < 16) && f.dst == 0 && f.srcB == 0) = true := by rw [decide_eq_true hA, hd, hB]; rfl
      refine next_refused h rfl ?_
      dsimp only
      split_ifs
      · exact State.guarded_second hok hfmt
      · exact State.guarded_second hok hfmt
    · refine next_refused h rfl (State.guarded_first ?_)
      rw [show decide (b.toNat / 2 ^ 32 % 16 ≤ 3) = false from decide_eq_false (by omega), Bool.and_false, Bool.false_and, Bool.false_and]
    · refine next_refused h rfl (State.guarded_first ?_)
      rcases hq with hq | hq
      · rw [hq]
        rfl
      · rw [show decide (b.toNat % 2 ^ 11 ≤ 1024) = false from decide_eq_false (by omega), Bool.and_false, Bool.false_and]
    · have hz : (f.srcB == 0) = true := beq_iff_eq.2 hB
      have h9 (op : EOp) : (((s.started c op env).core c).vcfg.fmt == 9) = false := by rw [hv]; exact beq_false_of_ne hfmt
      exact ⟨fun h => next_refused h rfl (State.guarded_second hz (h9 _)), fun h => next_refused h rfl (State.guarded_second hz (h9 _)),
        fun h => next_refused h rfl (State.guarded_second hz (h9 _)), fun h => next_refused h rfl (State.guarded_second hz (h9 _)),
        fun h => next_refused h rfl (State.guarded_second hz (h9 _)), fun h => next_refused h rfl (State.guarded_second hz (h9 _))⟩

end Sys2Proof.Machine
end

section
-- One proof after another: what waits for another costs the check memory.
set_option Elab.async false
/-! SUPPORT. The Vector engine on registers (R299–R304). -/
namespace Sys2Proof.Machine

/-! ### Elements of packed registers (R266) -/

theorem elemAt_lt (w x i : Nat) : elemAt w x i < 2 ^ w := Nat.mod_lt _ (Nat.two_pow_pos w)

theorem elemAt_mod (w x i : Nat) : elemAt w x i % 2 ^ w = elemAt w x i := Nat.mod_eq_of_lt (elemAt_lt w x i)

/-- An element of a register packed from a list; above the list everything is 0. -/
theorem elemAt_packElems (w : Nat) (l : List Nat) (i : Nat) : elemAt w (packElems w l) i = l.getD i 0 % 2 ^ w := by
  induction l generalizing i with
  | nil => simp [packElems, elemAt]
  | cons v t ih =>
    cases i with
    | zero => simp [packElems, elemAt]
    | succ i =>
      have hdiv : (v % 2 ^ w + 2 ^ w * packElems w t) / 2 ^ w = packElems w t := by
        rw [Nat.add_mul_div_left _ _ (Nat.two_pow_pos w), Nat.div_eq_of_lt (Nat.mod_lt _ (Nat.two_pow_pos w)), Nat.zero_add]
      have hpow : 2 ^ (w * (i + 1)) = 2 ^ w * 2 ^ (w * i) := by rw [← Nat.pow_add, Nat.mul_succ, Nat.add_comm]
      rw [List.getD_cons_succ, ← ih, elemAt, packElems, hpow, ← Nat.div_div_eq_div_mul, hdiv, elemAt]

/-- An element of a register packed lane by lane. -/
theorem elemAt_packLanes (w n : Nat) (g : Nat → Nat) (tail : List Nat) {i : Nat} (hi : i < n) :
    elemAt w (packElems w ((List.range n).map g ++ tail)) i = g i % 2 ^ w := by
  rw [elemAt_packElems, List.getD_append _ _ _ _ (by simpa using hi)]
  simp [List.getD_eq_getElem?_getD, hi]

/-- Above the last lane everything is 0. -/
theorem elemAt_packLanes_above (w n : Nat) (g : Nat → Nat) {i : Nat} (hi : n ≤ i) : elemAt w (packElems w ((List.range n).map g)) i = 0 := by
  rw [elemAt_packElems, List.getD_eq_default _ _ (by simpa using hi), Nat.zero_mod]

/-- A number below 2^w as a register: its element 0, and 0 above. -/
theorem elemAt_single {w x : Nat} (hx : x < 2 ^ w) : elemAt w x 0 = x ∧ ∀ i, 1 ≤ i → elemAt w x i = 0 := by
  refine ⟨by simp [elemAt, Nat.mod_eq_of_lt hx], fun i hi => ?_⟩
  have hle : 2 ^ w ≤ 2 ^ (w * i) := Nat.pow_le_pow_right (by decide) (Nat.le_mul_of_pos_right w hi)
  rw [elemAt, Nat.div_eq_of_lt (hx.trans_le hle), Nat.zero_mod]

/-! ### Collected flags (R324) -/

theorem collect_map_fst {α : Type} (n : Nat) (g : Nat → α × Nat) : (collect ((List.range n).map g)).1 = (List.range n).map (fun i => (g i).1) := by
  simp [collect, Function.comp_def]

/-- Where every step raises one flag or none, the collection raises it as soon as one step does. -/
theorem foldl_flag (fl : Nat) (l : List Nat) (h : ∀ x ∈ l, x = 0 ∨ x = fl) (a : Nat) (ha : a = 0 ∨ a = fl) :
    l.foldl (fun f x => f ||| x) a = if a = fl ∨ fl ∈ l then fl else 0 := by
  induction l generalizing a with
  | nil => rcases ha with rfl | rfl <;> simp
  | cons x l ih =>
    have hor : (a ||| x) = 0 ∨ (a ||| x) = fl := by
      rcases ha with rfl | rfl <;> rcases h x (List.mem_cons_self ..) with rfl | rfl <;> simp
    have hiff : ((a ||| x) = fl) ↔ (a = fl ∨ fl = x) := by
      rcases ha with rfl | rfl <;> rcases h x (List.mem_cons_self ..) with rfl | rfl <;> simp [eq_comm]
    rw [List.foldl_cons, ih (fun y hy => h y (List.mem_cons_of_mem _ hy)) _ hor]
    simp only [hiff, List.mem_cons, or_assoc]

theorem collect_map_flag {α : Type} (n : Nat) (g : Nat → α × Nat) (fl : Nat) (h : ∀ i, (g i).2 = 0 ∨ (g i).2 = fl) :
    (collect ((List.range n).map g)).2 = if fl = 0 ∨ ∃ i, i < n ∧ (g i).2 = fl then fl else 0 := by
  have hf : (collect ((List.range n).map g)).2 = ((List.range n).map (fun i => (g i).2)).foldl (fun f x => f ||| x) 0 := by
    simp [collect, List.foldl_map]
  rw [hf, foldl_flag fl _ (fun x hx => by obtain ⟨i, -, rfl⟩ := List.mem_map.1 hx; exact h i) 0 (.inl rfl)]
  simp [eq_comm]

theorem collect_map_noFlag {α : Type} (n : Nat) (g : Nat → α × Nat) (h : ∀ i, (g i).2 = 0) : (collect ((List.range n).map g)).2 = 0 := by
  rw [collect_map_flag n g 0 fun i => .inl (h i)]
  simp

/-! ### Operations of the Vector engine on registers -/

/-- The state after a vector operation with result `r` and flags `fl` (R324). -/
def State.vecDone (s : State) (c : CoreId) (op : EOp) (env : DispEnv) (dst r fl : Nat) : State :=
  ((s.modCore c (fun q => q.setV dst r)).setEngFlags c 4 fl).engineDone (engOf c op env) op

theorem State.core_setEngFlags (s : State) (n base fl i : Nat) : (s.setEngFlags n base fl).core i = s.core i := by
  unfold State.setEngFlags
  split_ifs
  · rfl
  · exact State.core_setReg ..

/-- A vector operation whose checks hold sets its register and its flags. -/
theorem State.vecOp_done {s : State} {x : Eng} {f : IFields} {checks : List (Bool × Nat × Nat)} (hc : ∀ k ∈ checks, k.1 = true)
    {g : Core → Nat × Nat} {inRange : Core → Bool} (hr : inRange (s.core x.c) = true) : s.vecOp x f checks g inRange =
      .done ((s.modCore x.c (fun k => k.setV f.dst.toNat (g (s.core x.c)).1)).setEngFlags x.c 4 (g (s.core x.c)).2) := by
  unfold State.vecOp
  rw [State.guarded_registers hc]
  exact if_pos hr

section
variable {s : State} {c : CoreId} {op : EOp} {f : IFields} {a b d : Word} {env : DispEnv} (h : s.Runs c op f a b d env)
include h

/-- What a command of the Vector engine on registers answers. -/
theorem next_vecOp {i : Instr} {body : State → Eng → IFields → Word → Word → Word → EOut} (he : exec i s = .next (s.runEntry c op body))
    {checks : List (Bool × Nat × Nat)} {g : Core → Nat × Nat} {inRange : Core → Bool}
    (hb : body (s.started c op env) (engOf c op env) f a b d = (s.started c op env).vecOp (engOf c op env) f checks g inRange)
    (hc : ∀ k ∈ checks, k.1 = true) (hr : inRange ((s.started c op env).core c) = true) :
    exec i s = .next ((s.started c op env).vecDone c op env f.dst.toNat (g ((s.started c op env).core c)).1 (g ((s.started c op env).core c)).2) := by
  refine he.trans (congrArg Host.Outcome.next (State.runEntry_done h (hb.trans (State.vecOp_done hc hr)) ?_))
  rw [State.core_setEngFlags, State.core_modCore_same]
  rfl

end

/-- The lane of vb that an element operation of a form marked b reads (R301). -/
def laneB (k : Core) (f : IFields) (b : Option Word) (w i : Nat) : Nat :=
  match b with
  | some v => if f.low3 = 1 then v.toNat % 2 ^ w else elemAt w (k.vReg f.srcB.toNat) i
  | none => elemAt w (k.vReg f.srcB.toNat) i

/-- One lane of an element operation. -/
def Core.laneOut (k : Core) (f : IFields) (b : Option Word) (op : Nat → Nat → Nat → Nat × Nat) (i : Nat) : Nat × Nat :=
  let w := fmtBits k.vcfg.fmt
  op (elemAt w (k.vReg f.srcA.toNat) i) (laneB k f b w i) (elemAt w (k.vReg f.dst.toNat) i)

theorem Core.elementwise_eq (k : Core) (f : IFields) (b : Option Word) (fill : Nat) (op : Nat → Nat → Nat → Nat × Nat) :
    k.elementwise f b fill op = (packElems (fmtBits k.vcfg.fmt) ((List.range (2048 / fmtBits k.vcfg.fmt)).map (fun i => (k.laneOut f b op i).1) ++
      (if 2048 % fmtBits k.vcfg.fmt = 0 then [] else [fill])), (collect ((List.range (2048 / fmtBits k.vcfg.fmt)).map (k.laneOut f b op))).2) := by
  rw [← collect_map_fst]
  rfl

theorem Core.elemAt_elementwise (k : Core) (f : IFields) (b : Option Word) (fill : Nat) (op : Nat → Nat → Nat → Nat × Nat) {i : Nat}
    (hi : i < 2048 / fmtBits k.vcfg.fmt) : elemAt (fmtBits k.vcfg.fmt) (k.elementwise f b fill op).1 i =
      (k.laneOut f b op i).1 % 2 ^ fmtBits k.vcfg.fmt := by
  rw [Core.elementwise_eq]
  exact elemAt_packLanes _ _ _ _ hi

theorem Core.flags_elementwise (k : Core) (f : IFields) (b : Option Word) (fill : Nat) (op : Nat → Nat → Nat → Nat × Nat) :
    (k.elementwise f b fill op).2 = (collect ((List.range (2048 / fmtBits k.vcfg.fmt)).map (k.laneOut f b op))).2 := by
  rw [Core.elementwise_eq]

/-! ### Integer elements (R266, R277) -/

/-- The integer formats of the Vector engine. -/
def isVecInt (fmt : Nat) : Prop := fmt = 1 ∨ fmt = 2 ∨ fmt = 3 ∨ fmt = 4

theorem isVecInt.isInt {fmt : Nat} (h : isVecInt fmt) : fmtIsInt fmt = true := by
  rcases h with rfl | rfl | rfl | rfl <;> rfl

theorem isVecInt.arith {fmt : Nat} (h : isVecInt fmt) : arithFmt fmt = true := by
  rcases h with rfl | rfl | rfl | rfl <;> rfl

theorem isVecInt.noMx {fmt : Nat} (h : isVecInt fmt) : noMx fmt = true := by
  rcases h with rfl | rfl | rfl | rfl <;> rfl

theorem fmtBits_pos (fmt : Nat) : 0 < fmtBits fmt := by
  unfold fmtBits
  split <;> decide

/-- The two's complement value of `w` bits. -/
theorem sint_eq {w x : Nat} (hw : 0 < w) (hx : x < 2 ^ w) : sint w x = if 2 ^ (w - 1) ≤ x then (x : Int) - 2 ^ w else x := by
  have hp : 2 ^ w = 2 * 2 ^ (w - 1) := by rw [← Nat.pow_succ', Nat.succ_eq_add_one, Nat.sub_add_cancel hw]
  rw [sint, BitVec.toInt_eq_toNat_cond, BitVec.toNat_ofNat, Nat.mod_eq_of_lt hx]
  push_cast
  split_ifs <;> omega

/-- The value of an element of an integer format (R266). -/
theorem intOf_eq {fmt x : Nat} (hx : x < 2 ^ fmtBits fmt) :
    intOf fmt x = if fmt ≠ 4 ∧ 2 ^ (fmtBits fmt - 1) ≤ x then (x : Int) - 2 ^ fmtBits fmt else x := by
  unfold intOf
  split_ifs with h4 hc hc
  · exact absurd h4 hc.1
  · subst h4
    rw [Nat.mod_eq_of_lt (show x < 256 from hx)]
  · rw [sint_eq (fmtBits_pos fmt) hx, if_pos hc.2]
  · rw [sint_eq (fmtBits_pos fmt) hx, if_neg fun h => hc ⟨h4, h⟩]

/-- An integer is congruent to the value of its low bits. -/
theorem sint_mod (w x : Nat) : sint w x % (2 : Int) ^ w = (x : Int) % 2 ^ w := by
  have hp : (2 : Int) ^ w = ((2 ^ w : Nat) : Int) := by norm_cast
  rw [sint, BitVec.toInt_eq_toNat_bmod, BitVec.toNat_ofNat, hp, Int.bmod_emod, Int.natCast_mod, Int.emod_emod_of_dvd _ dvd_rfl]

theorem intOf_mod {fmt : Nat} (x : Nat) : intOf fmt x % (2 : Int) ^ fmtBits fmt = (x : Int) % 2 ^ fmtBits fmt := by
  unfold intOf
  split_ifs with h4
  · subst h4
    show ((x % 256 : Nat) : Int) % 256 = (x : Int) % 256
    omega
  · exact sint_mod _ _

theorem bitsOf_lt (w : Nat) (z : Int) : bitsOf w z < 2 ^ w := by
  have h : (0 : Int) < 2 ^ w := by positivity
  have h0 := Int.emod_nonneg z h.ne'
  have h1 := Int.emod_lt_of_pos z h
  zify
  rw [bitsOf, Int.toNat_of_nonneg h0]
  exact h1

theorem bitsOf_cast (w : Nat) (z : Int) : (bitsOf w z : Int) = z % 2 ^ w := Int.toNat_of_nonneg (Int.emod_nonneg z (by positivity))

/-- The bits of a wrapped integer are those of the exact one. -/
theorem bitsOf_wrapInt {fmt : Nat} (z : Int) : (bitsOf (fmtBits fmt) (wrapInt fmt z).1 : Int) = z % 2 ^ fmtBits fmt := by
  rw [bitsOf_cast, wrapInt, intOf_mod, bitsOf_cast, Int.emod_emod_of_dvd _ dvd_rfl]

theorem wrapInt_flag (fmt : Nat) (z : Int) : (wrapInt fmt z).2 = 0 ∨ (wrapInt fmt z).2 = 1 := by
  unfold wrapInt
  dsimp only
  split_ifs
  · exact .inl rfl
  · exact .inr rfl

theorem wrapInt_flag_iff (fmt : Nat) (z : Int) : (wrapInt fmt z).2 = 1 ↔ z < intMin fmt ∨ intMax fmt < z := by
  unfold wrapInt
  dsimp only
  split_ifs with h
  · simp only [false_iff]
    omega
  · simp only [flWRAP, true_iff]
    omega

section
variable (k : Core) (f : IFields) (b : Option Word)

theorem laneB_lt (w i : Nat) : laneB k f b w i < 2 ^ w := by
  unfold laneB
  split
  · split_ifs
    · exact Nat.mod_lt _ (Nat.two_pow_pos w)
    · exact elemAt_lt _ _ _
  · exact elemAt_lt _ _ _

/-- The exact integer that lane `i` of an operation computes (R300). -/
def Core.exactLane (onInt : Int → Int → Int → Int) (i : Nat) : Int :=
  let w := fmtBits k.vcfg.fmt
  onInt (intOf k.vcfg.fmt (elemAt w (k.vReg f.srcA.toNat) i)) (intOf k.vcfg.fmt (laneB k f b w i))
    (intOf k.vcfg.fmt (elemAt w (k.vReg f.dst.toNat) i))

theorem Core.laneOut_int (h : fmtIsInt k.vcfg.fmt = true) (onInt : Int → Int → Int → Int) (onFloat : FV → FV → FV → FV × Nat) (i : Nat) :
    k.laneOut f b (Machine.arith k.vcfg onInt onFloat) i =
      (bitsOf (fmtBits k.vcfg.fmt) (wrapInt k.vcfg.fmt (k.exactLane f b onInt i)).1, (wrapInt k.vcfg.fmt (k.exactLane f b onInt i)).2) := by
  unfold Core.laneOut Machine.arith
  rw [if_pos h]
  rfl

/-- An arithmetic operation on integers: each lane exact and wrapped, WRAP when some lane does not fit (R300). -/
theorem Core.elementwise_int (h : fmtIsInt k.vcfg.fmt = true) (onInt : Int → Int → Int → Int) (onFloat : FV → FV → FV → FV × Nat) :
    let r := k.elementwise f b 0 (Machine.arith k.vcfg onInt onFloat)
    (∀ i, i < 2048 / fmtBits k.vcfg.fmt → (elemAt (fmtBits k.vcfg.fmt) r.1 i : Int) = k.exactLane f b onInt i % 2 ^ fmtBits k.vcfg.fmt) ∧
      (r.2 = 1 ∨ r.2 = 0) ∧
      (r.2 = 1 ↔ ∃ i, i < 2048 / fmtBits k.vcfg.fmt ∧ (k.exactLane f b onInt i < intMin k.vcfg.fmt ∨ intMax k.vcfg.fmt < k.exactLane f b onInt i)) := by
  intro r
  have hfl : r.2 = if ∃ i, i < 2048 / fmtBits k.vcfg.fmt ∧ (k.exactLane f b onInt i < intMin k.vcfg.fmt ∨ intMax k.vcfg.fmt < k.exactLane f b onInt i)
      then 1 else 0 := by
    rw [show r.2 = _ from Core.flags_elementwise .., collect_map_flag _ _ 1 fun i => by rw [Core.laneOut_int k f b h]; exact wrapInt_flag ..]
    simp only [Core.laneOut_int k f b h, wrapInt_flag_iff, one_ne_zero, false_or]
  refine ⟨fun i hi => ?_, ?_, ?_⟩
  · rw [Core.elemAt_elementwise k f b 0 _ hi, Core.laneOut_int k f b h, Nat.mod_eq_of_lt (bitsOf_lt _ _)]
    exact bitsOf_wrapInt _
  · rw [hfl]
    split_ifs
    · exact .inl rfl
    · exact .inr rfl
  · rw [hfl]
    split_ifs with hc
    · exact ⟨fun _ => hc, fun _ => rfl⟩
    · exact ⟨fun h0 => absurd h0 (by decide), fun h0 => absurd h0 hc⟩

end

theorem intMin_eq (fmt : Nat) : intMin fmt = if fmt = 4 then 0 else -2 ^ (fmtBits fmt - 1) := rfl
theorem intMax_eq (fmt : Nat) : intMax fmt = if fmt = 4 then 255 else 2 ^ (fmtBits fmt - 1) - 1 := rfl

theorem checks_one {p : Bool} {x : Nat × Nat} (hp : p = true) : ∀ k ∈ [(p, x)], k.1 = true :=
  List.forall_mem_cons.2 ⟨hp, List.forall_mem_nil _⟩

theorem checks_two {p q : Bool} {x y : Nat × Nat} (hp : p = true) (hq : q = true) : ∀ k ∈ [(p, x), (q, y)], k.1 = true :=
  List.forall_mem_cons.2 ⟨hp, checks_one hq⟩

/-- The element bits of a bitwise operation or shift, and no flag (R300). -/
theorem Core.elementwise_bits (k : Core) (f : IFields) (b : Option Word) (fill : Nat) (g : Nat → Nat → Nat → Nat) :
    let r := k.elementwise f b fill (fun a b d => (g a b d, 0))
    r.2 = 0 ∧ ∀ i, i < 2048 / fmtBits k.vcfg.fmt → elemAt (fmtBits k.vcfg.fmt) r.1 i =
      g (elemAt (fmtBits k.vcfg.fmt) (k.vReg f.srcA.toNat) i) (laneB k f b (fmtBits k.vcfg.fmt) i)
        (elemAt (fmtBits k.vcfg.fmt) (k.vReg f.dst.toNat) i) % 2 ^ fmtBits k.vcfg.fmt :=
  ⟨(k.flags_elementwise f b fill _).trans (collect_map_noFlag _ _ fun _ => rfl), fun _ hi => k.elemAt_elementwise f b fill _ hi⟩

section
variable {s : State} {c : CoreId} {op : EOp} {f : IFields} {a b d : Word} {env : DispEnv} (h : s.Runs c op f a b d env) {i : Instr}
include h

/-- An arithmetic operation in a form marked b. -/
theorem next_arithOp {onInt : Int → Int → Int → Int} {onFloat : FV → FV → FV → FV × Nat} (he : exec i s = .next (s.arithOp c op onInt onFloat))
    (hb : f.low3 < 2) (hf : arithFmt ((s.started c op env).core c).vcfg.fmt = true) :
    let r := ((s.started c op env).core c).elementwise f (some b) 0 (Machine.arith ((s.started c op env).core c).vcfg onInt onFloat)
    exec i s = .next ((s.started c op env).vecDone c op env f.dst.toNat r.1 r.2) :=
  next_vecOp (inRange := fun _ => true) (g := fun k => k.elementwise f (some b) 0 (Machine.arith k.vcfg onInt onFloat)) h he rfl
    (checks_two (decide_eq_true hb) hf) rfl

/-- An arithmetic operation of one source. -/
theorem next_arithOne {onInt : Int → Int} {onFloat : FV → FV} (he : exec i s = .next (s.arithOne c op onInt onFloat))
    (hb : f.srcB = 0) (hf : arithFmt ((s.started c op env).core c).vcfg.fmt = true) :
    let r := ((s.started c op env).core c).elementwise f none 0 (Machine.arith ((s.started c op env).core c).vcfg (fun a _ _ => onInt a)
      (fun a _ _ => (onFloat a, 0)))
    exec i s = .next ((s.started c op env).vecDone c op env f.dst.toNat r.1 r.2) :=
  next_vecOp (inRange := fun _ => true) (g := fun k => k.elementwise f none 0 (Machine.arith k.vcfg (fun a _ _ => onInt a)
    (fun a _ _ => (onFloat a, 0)))) h he rfl (checks_two (beq_iff_eq.2 hb) hf) rfl

/-- An operation on element bits. -/
theorem next_bitOp {ok : Nat → Bool} {g : Nat → Nat → Nat → Nat} (he : exec i s = .next (s.bitOp c op ok g)) (hb : f.low3 < 2)
    (hf : ok ((s.started c op env).core c).vcfg.fmt = true) :
    let r := ((s.started c op env).core c).elementwise f (some b) 0 (fun a b _ => (g (fmtBits ((s.started c op env).core c).vcfg.fmt) a b, 0))
    exec i s = .next ((s.started c op env).vecDone c op env f.dst.toNat r.1 r.2) :=
  next_vecOp (inRange := fun _ => true) (g := fun k => k.elementwise f (some b) 0 (fun a b _ => (g (fmtBits k.vcfg.fmt) a b, 0))) h he rfl
    (checks_two (decide_eq_true hb) hf) rfl

end

theorem State.vecDone_eq (s : State) (c : CoreId) {op : EOp} (hu : unitOf op = 1) (env : DispEnv) (dst r fl : Nat) : s.vecDone c op env dst r fl =
    ((s.modCore c (fun q => q.setV dst r)).setEngFlags c 4 fl).engineDone ⟨c, 1, env⟩ op := by
  rw [State.vecDone, engOf, hu]

/-- The shift of the sign-extended element, as its bits (R301). -/
theorem bitsOf_sra {w x : Nat} (hw : 0 < w) (hx : x < 2 ^ w) (n : Nat) : bitsOf w (sint w x / 2 ^ n) % 2 ^ w =
    ((if 2 ^ (w - 1) ≤ x then (x : Int) - 2 ^ w else (x : Int)) / 2 ^ n % 2 ^ w).toNat % 2 ^ w := by
  rw [sint_eq hw hx]
  rfl

/-- Settles O23: the arithmetic operations from `elementwise_int`, the others from `elementwise_bits`. -/
theorem vectorIntegerOps : Obligations.VectorIntegerOps := by
  intro c f a b d env s runs val arith bits
  have hval {fmt x : Nat} (hx : x < 2 ^ fmtBits fmt) : intOf fmt x = val fmt (fmtBits fmt) x := intOf_eq hx
  have arithB (op : EOp) (i : Instr) (onInt : Int → Int → Int → Int) (onFloat : FV → FV → FV → FV × Nat) (hu : unitOf op = 1)
      (he : exec i s = .next (s.arithOp c op onInt onFloat)) : runs op i true (arith onInt) := by
    intro h hb s1 k fmt w hfmt
    obtain ⟨hr, hfl, hiff⟩ := k.elementwise_int f (some b) (isVecInt.isInt hfmt) onInt onFloat
    have hlane (j : Nat) : k.exactLane f (some b) onInt j = onInt (val fmt w (elemAt w (k.vReg f.srcA.toNat) j))
        (val fmt w (if true ∧ f.low3 = 1 then b.toNat % 2 ^ w else elemAt w (k.vReg f.srcB.toNat) j))
        (val fmt w (elemAt w (k.vReg f.dst.toNat) j)) := by
      simp only [true_and]
      exact congr (congr (congrArg onInt (hval (elemAt_lt ..))) (hval (laneB_lt k f (some b) w j))) (hval (elemAt_lt ..))
    exact ⟨_, _, (next_arithOp h he hb (isVecInt.arith hfmt)).trans (congrArg _ (State.vecDone_eq _ c hu env ..)),
      fun j hj => (hr j hj).trans (congrArg (· % _) (hlane j)), hfl,
      hiff.trans (exists_congr fun j => and_congr_right fun _ => by rw [hlane]; exact Iff.rfl)⟩
  have arithA (op : EOp) (i : Instr) (onInt : Int → Int) (onFloat : FV → FV) (hu : unitOf op = 1)
      (he : exec i s = .next (s.arithOne c op onInt onFloat)) : runs op i false (arith fun x _ _ => onInt x) := by
    intro h hb s1 k fmt w hfmt
    obtain ⟨hr, hfl, hiff⟩ := k.elementwise_int f none (isVecInt.isInt hfmt) (fun x _ _ => onInt x) (fun a _ _ => (onFloat a, 0))
    have hlane (j : Nat) : k.exactLane f none (fun x _ _ => onInt x) j = onInt (val fmt w (elemAt w (k.vReg f.srcA.toNat) j)) :=
      congrArg onInt (hval (elemAt_lt ..))
    exact ⟨_, _, (next_arithOne h he hb (isVecInt.arith hfmt)).trans (congrArg _ (State.vecDone_eq _ c hu env ..)),
      fun j hj => (hr j hj).trans (congrArg (· % _) (hlane j)), hfl,
      hiff.trans (exists_congr fun j => and_congr_right fun _ => by rw [hlane]; exact Iff.rfl)⟩
  have bitsB (op : EOp) (i : Instr) (ok : Nat → Bool) (g g' : Nat → Nat → Nat → Nat) (hu : unitOf op = 1)
      (he : exec i s = .next (s.bitOp c op ok g)) (hok : ∀ fmt, isVecInt fmt → ok fmt = true)
      (hg : ∀ w x y, 0 < w → x < 2 ^ w → g w x y % 2 ^ w = g' w x y % 2 ^ w) : runs op i true (bits g') := by
    intro h hb s1 k fmt w hfmt
    obtain ⟨hfl, hr⟩ := k.elementwise_bits f (some b) 0 (fun a b _ => g w a b)
    refine ⟨_, _, (next_bitOp h he hb (hok fmt hfmt)).trans (congrArg _ (State.vecDone_eq _ c hu env ..)), hfl, fun j hj => ?_⟩
    simp only [true_and]
    exact (hr j hj).trans (hg w _ _ (fmtBits_pos fmt) (elemAt_lt ..))
  have same (g : Nat → Nat → Nat → Nat) (w x y : Nat) : 0 < w → x < 2 ^ w → g w x y % 2 ^ w = g w x y % 2 ^ w := fun _ _ => rfl
  refine ⟨arithB .vadd _ (fun x y _ => x + y) (fun a b _ => a.add b) rfl rfl, arithB .vsub _ (fun x y _ => x - y) (fun a b _ => a.add b.neg) rfl rfl,
    arithB .vmul _ (fun x y _ => x * y) (fun a b _ => a.mul b) rfl rfl, arithB .vfma _ (fun x y z => z + x * y) (fun a b d => a.fma b d) rfl rfl,
    arithB .vmin _ (fun x y _ => min x y) (fun a b _ => (a.min2 b, 0)) rfl rfl, arithB .vmax _ (fun x y _ => max x y) (fun a b _ => (a.max2 b, 0)) rfl rfl,
    arithA .vabs _ (fun x => |x|) FV.abs rfl ?_, arithA .vneg _ (fun x => -x) FV.neg rfl rfl,
    bitsB .vand _ noMx (fun _ x y => x &&& y) _ rfl rfl (fun _ h => h.noMx) (same _),
    bitsB .vor _ noMx (fun _ x y => x ||| y) _ rfl rfl (fun _ h => h.noMx) (same _),
    bitsB .vxor _ noMx (fun _ x y => x ^^^ y) _ rfl rfl (fun _ h => h.noMx) (same _),
    bitsB .vshl _ fmtIsInt (fun w x y => x * 2 ^ (y % w)) _ rfl rfl (fun _ h => h.isInt) (same _),
    bitsB .vshr _ fmtIsInt (fun w x y => x / 2 ^ (y % w)) _ rfl rfl (fun _ h => h.isInt) (same _),
    bitsB .vsra _ fmtIsInt (fun w x y => bitsOf w (sint w x / 2 ^ (y % w))) _ rfl rfl (fun _ h => h.isInt) fun w x y hw hx => bitsOf_sra hw hx _⟩
  have habs : (fun x : Int => |x|) = fun x => (x.natAbs : Int) := funext Int.abs_eq_natAbs
  rw [habs]
  rfl

/-! ### Floating elements (R272, R276, R300) -/

/-- The plain floating formats of the Vector engine. -/
def isVecFloat (fmt : Nat) : Prop := fmt = 7 ∨ fmt = 8 ∨ fmt = 9

theorem isVecFloat.arith {fmt : Nat} (h : isVecFloat fmt) : arithFmt fmt = true := by
  rcases h with rfl | rfl | rfl <;> rfl

theorem isVecFloat.notInt {fmt : Nat} (h : isVecFloat fmt) : fmtIsInt fmt = false := by
  rcases h with rfl | rfl | rfl <;> rfl

/-- A NaN is converted into the canonical NaN of its format (R272). -/
theorem elemConv_nan {fmt : Nat} (h : isVecFloat fmt) (rnd : Nat) (sat : Bool) :
    (elemConv fmt rnd sat .nan).1 % 2 ^ fmtBits fmt = if fmt = 7 then 0x7FC0 else if fmt = 8 then 0x7E00 else 0x7FC00000 := by
  rcases h with rfl | rfl | rfl <;> rfl

/-- The product of a NaN is a NaN, and so is every sum with one. -/
theorem FV.nan_mul (y : FV) : FV.nan.mul y = (.nan, 0) := by cases y <;> rfl
theorem FV.mul_nan (x : FV) : x.mul .nan = (.nan, 0) := by cases x <;> rfl
theorem FV.nan_add (y : FV) : FV.nan.add y = (.nan, 0) := by cases y <;> rfl
theorem FV.add_nan (x : FV) : x.add .nan = (.nan, 0) := by cases x <;> rfl

/-- The value of a fused operation: the exact product added exactly, NaN as soon as one input is. -/
theorem FV.fma_fst (x y z : FV) : (x.fma y z).1 = ((x.mul y).1.add z).1 := by
  unfold FV.fma
  split_ifs with h
  · rcases h with rfl | rfl | rfl
    · rw [FV.nan_mul, FV.nan_add]
    · rw [FV.mul_nan, FV.nan_add]
    · rw [FV.add_nan]
  · rfl

theorem FV.nan_min2 (y : FV) : FV.nan.min2 y = .nan := if_pos (.inl rfl)
theorem FV.nan_max2 (y : FV) : FV.nan.max2 y = .nan := if_pos (.inl rfl)

/-- A floating operation: each lane computed exactly and rounded once. -/
theorem Core.elementwise_float (k : Core) (f : IFields) (b : Option Word) (h : fmtIsInt k.vcfg.fmt = false) (onInt : Int → Int → Int → Int)
    (onFloat : FV → FV → FV → FV × Nat) {i : Nat} (hi : i < 2048 / fmtBits k.vcfg.fmt) :
    let v := elemVal k.vcfg.fmt k.vcfg.esel
    elemAt (fmtBits k.vcfg.fmt) (k.elementwise f b 0 (Machine.arith k.vcfg onInt onFloat)).1 i =
      (elemConv k.vcfg.fmt k.vcfg.rnd k.vcfg.sat (onFloat (v (elemAt (fmtBits k.vcfg.fmt) (k.vReg f.srcA.toNat) i))
        (v (laneB k f b (fmtBits k.vcfg.fmt) i)) (v (elemAt (fmtBits k.vcfg.fmt) (k.vReg f.dst.toNat) i))).1).1 % 2 ^ fmtBits k.vcfg.fmt := by
  intro v
  rw [Core.elemAt_elementwise k f b 0 _ hi, Core.laneOut, Machine.arith, if_neg (by rw [h]; decide)]

/-! ### Transcendentals (R302) -/

section
variable {s : State} {c : CoreId} {op : EOp} {f : IFields} {a b d : Word} {env : DispEnv} (h : s.Runs c op f a b d env) {i : Instr}
include h

theorem next_transOp {n : Nat} (he : exec i s = .next (s.transOp c op n)) (hb : f.srcB = 0) (hf : ((s.started c op env).core c).vcfg.fmt = 9) :
    let r := ((s.started c op env).core c).elementwise f none 0 (fun a _ _ => trans n a)
    exec i s = .next ((s.started c op env).vecDone c op env f.dst.toNat r.1 r.2) :=
  next_vecOp (inRange := fun _ => true) (g := fun k => k.elementwise f none 0 (fun a _ _ => trans n a)) h he rfl
    (checks_two (beq_iff_eq.2 hb) (beq_iff_eq.2 hf)) rfl

end

/-- What a transcendental gives on the special inputs of a table. -/
def transTable (n : Nat) (l : List (Nat × Nat)) : Bool := l.all (fun p => (trans n p.1).1 % 2 ^ 32 == p.2)

theorem Core.elementwise_trans (k : Core) (f : IFields) (hf : k.vcfg.fmt = 9) {n : Nat} {l : List (Nat × Nat)} (hl : transTable n l = true)
    {j : Nat} (hj : j < 64) {p : Nat × Nat} (hp : p ∈ l) (hx : elemAt 32 (k.vReg f.srcA.toNat) j = p.1) :
    elemAt 32 (k.elementwise f none 0 (fun a _ _ => trans n a)).1 j = p.2 := by
  have hw : fmtBits k.vcfg.fmt = 32 := by rw [hf]; rfl
  have he := k.elemAt_elementwise f none 0 (fun a _ _ => trans n a) (i := j) (by rw [hw]; exact hj)
  rw [Core.laneOut, hw, hx] at he
  exact he.trans (beq_iff_eq.1 (List.all_eq_true.1 hl p hp))

/-- Settles O24: the arithmetic from `elementwise_float`, the transcendentals from their tables. -/
theorem vectorFloatOps : Obligations.VectorFloatOps := by
  intro c f a b d env s runs arith trans nan inf ninf
  have arithB (op : EOp) (i : Instr) (onInt : Int → Int → Int → Int) (onFloat : FV → FV → FV → FV × Nat) (g : FV → FV → FV → FV) (hu : unitOf op = 1)
      (he : exec i s = .next (s.arithOp c op onInt onFloat)) (hg : ∀ x y z, (onFloat x y z).1 = g x y z) (hn : ∀ y z, g .nan y z = .nan) :
      runs op i true (arith g) := by
    intro h hb s1 k w hfmt
    refine ⟨_, _, (next_arithOp h he hb (isVecFloat.arith hfmt)).trans (congrArg _ (State.vecDone_eq _ c hu env ..)), ?_⟩
    intro j hj
    have hr := k.elementwise_float f (some b) (isVecFloat.notInt hfmt) onInt onFloat hj
    dsimp only at hr
    rw [hg] at hr
    simp only [true_and]
    refine ⟨hr, fun hnan => hr.trans ?_⟩
    rw [show elemVal k.vcfg.fmt k.vcfg.esel (elemAt (fmtBits k.vcfg.fmt) (k.vReg f.srcA.toNat) j) = .nan from hnan, hn]
    exact elemConv_nan hfmt _ _
  have arithA (op : EOp) (i : Instr) (onInt : Int → Int) (onFloat : FV → FV) (hu : unitOf op = 1)
      (he : exec i s = .next (s.arithOne c op onInt onFloat)) (hn : onFloat .nan = .nan) : runs op i false (arith fun x _ _ => onFloat x) := by
    intro h hb s1 k w hfmt
    refine ⟨_, _, (next_arithOne h he hb (isVecFloat.arith hfmt)).trans (congrArg _ (State.vecDone_eq _ c hu env ..)), ?_⟩
    intro j hj
    have hr := k.elementwise_float f none (isVecFloat.notInt hfmt) (fun x _ _ => onInt x) (fun a _ _ => (onFloat a, 0)) hj
    refine ⟨hr, fun hnan => hr.trans ?_⟩
    rw [show elemVal k.vcfg.fmt k.vcfg.esel (elemAt (fmtBits k.vcfg.fmt) (k.vReg f.srcA.toNat) j) = .nan from hnan, hn]
    exact elemConv_nan hfmt _ _
  refine ⟨arithB .vadd _ (fun x y _ => x + y) (fun a b _ => a.add b) (fun x y _ => (x.add y).1) rfl rfl (fun _ _ _ => rfl) fun _ _ => by rw [FV.nan_add],
    arithB .vsub _ (fun x y _ => x - y) (fun a b _ => a.add b.neg) (fun x y _ => (x.add y.neg).1) rfl rfl (fun _ _ _ => rfl) fun _ _ => by rw [FV.nan_add],
    arithB .vmul _ (fun x y _ => x * y) (fun a b _ => a.mul b) (fun x y _ => (x.mul y).1) rfl rfl (fun _ _ _ => rfl) fun _ _ => by rw [FV.nan_mul],
    arithB .vfma _ (fun x y z => z + x * y) (fun a b d => a.fma b d) (fun x y z => ((x.mul y).1.add z).1) rfl rfl FV.fma_fst fun _ _ => by rw [FV.nan_mul, FV.nan_add],
    arithA .vabs _ (fun x => (x.natAbs : Int)) FV.abs rfl rfl rfl, arithA .vneg _ (fun x => -x) FV.neg rfl rfl rfl,
    arithB .vmin _ (fun x y _ => min x y) (fun a b _ => (a.min2 b, 0)) (fun x y _ => x.min2 y) rfl rfl (fun _ _ _ => rfl) fun _ _ => FV.nan_min2 _,
    arithB .vmax _ (fun x y _ => max x y) (fun a b _ => (a.max2 b, 0)) (fun x y _ => x.max2 y) rfl rfl (fun _ _ _ => rfl) fun _ _ => FV.nan_max2 _, fun hf => ?_⟩
  have table (op : EOp) (i : Instr) (n : Nat) (l : List (Nat × Nat)) (hu : unitOf op = 1) (he : exec i s = .next (s.transOp c op n))
      (hl : transTable n l = true) : trans op i l := by
    intro h hb s1 k w hfmt
    have hk : k.vcfg.fmt = 9 := (congrArg VecCfg.fmt (s.started_vcfg c op env)).trans hf
    refine ⟨_, _, (next_transOp h he hb hk).trans (congrArg _ (State.vecDone_eq _ c hu env ..)), fun _ j hj p hp hx => ?_⟩
    have hw : w = 32 := congrArg fmtBits hk
    rw [hw] at hx
    exact k.elementwise_trans f hk hl hj hp hx
  exact ⟨table .vexp _ 0 _ rfl rfl (by decide), table .vlog _ 1 _ rfl rfl (by decide), table .vrcp _ 2 _ rfl rfl (by decide),
    table .vrsq _ 3 _ rfl rfl (by decide), table .vtanh _ 4 _ rfl rfl (by decide), table .vsigm _ 5 _ rfl rfl (by decide)⟩

/-! ### Comparison of exact integers -/

theorem signedAt_ofInt (z : Int) : signedAt (decide (z < 0)) z.natAbs 0 0 = z := by
  unfold signedAt
  rw [show (0 - 0 : Int).toNat = 0 from rfl, pow_zero, mul_one]
  dsimp only
  by_cases h : z < 0
  · rw [decide_eq_true h, if_pos rfl]
    omega
  · rw [decide_eq_false h, if_neg (by decide)]
    omega

theorem FV.lt_ofInt (x y : Int) : (FV.ofInt x).lt (FV.ofInt y) = decide (x < y) := by
  unfold FV.ofInt FV.lt
  dsimp only
  rw [min_self, signedAt_ofInt, signedAt_ofInt]

theorem FV.le_ofInt (x y : Int) : (FV.ofInt x).le (FV.ofInt y) = decide (x ≤ y) := by
  unfold FV.le
  rw [FV.lt_ofInt]
  have hn (z : Int) : (FV.ofInt z != .nan) = true := rfl
  rw [hn, hn]
  by_cases h : x ≤ y
  · rw [decide_eq_true h, decide_eq_false (not_lt.2 h)]
    rfl
  · rw [decide_eq_false h, decide_eq_true (not_le.1 h)]
    rfl

/-- The condition of VCMP on integers (R301). -/
def intCond (n : Nat) (x y : Int) : Bool :=
  match n with
  | 0 => decide (x = y)
  | 1 => decide (x ≠ y)
  | 2 => decide (x < y)
  | 3 => decide (y ≤ x)
  | 4 => decide (x ≤ y)
  | _ => decide (y < x)

theorem vcmpCond_ofInt {n : Nat} (hn : n < 6) (x y : Int) : vcmpCond n (FV.ofInt x) (FV.ofInt y) = intCond n x y := by
  have hnan : ¬ (FV.ofInt x = .nan ∨ FV.ofInt y = .nan) := by rintro (h | h) <;> cases h
  unfold vcmpCond
  rw [if_neg hnan]
  have heq : (decide (x ≤ y) && decide (y ≤ x)) = decide (x = y) := by
    by_cases h : x = y
    · simp [h]
    · simp [h]
      omega
  interval_cases n
  all_goals simp [intCond, FV.le_ofInt, FV.lt_ofInt, heq]

/-! ### The maximum of the lanes of a register -/

theorem wrapInt_fits {fmt : Nat} {x : Nat} (hx : x < 2 ^ fmtBits fmt) : bitsOf (fmtBits fmt) (wrapInt fmt (intOf fmt x)).1 = x := by
  have h := bitsOf_wrapInt (fmt := fmt) (intOf fmt x)
  rw [intOf_mod, Int.emod_eq_of_lt (by positivity) (by exact_mod_cast hx)] at h
  exact_mod_cast h

/-- One step of VRMAX on integers: the greater of two elements. -/
theorem arith_max {g : VecCfg} (h : fmtIsInt g.fmt = true) {x y : Nat} (hx : x < 2 ^ fmtBits g.fmt) (hy : y < 2 ^ fmtBits g.fmt) (z : Nat)
    (onFloat : FV → FV → FV → FV × Nat) :
    (arith g (fun p q _ => max p q) onFloat x y z).1 = if intOf g.fmt x ≤ intOf g.fmt y then y else x := by
  unfold arith
  rw [if_pos h]
  dsimp only
  split_ifs with hle
  · rw [max_eq_right hle, wrapInt_fits hy]
  · rw [max_eq_left (not_le.1 hle).le, wrapInt_fits hx]

/-- The maximum of a list of elements as VRMAX folds it. -/
theorem foldl_arith_max {g : VecCfg} (h : fmtIsInt g.fmt = true) (onFloat : FV → FV → FV → FV × Nat) (l : List Nat) (hl : ∀ x ∈ l, x < 2 ^ fmtBits g.fmt)
    (m : Nat × Nat) (hm : m.1 < 2 ^ fmtBits g.fmt) :
    let r := (l.foldl (fun m b => arith g (fun p q _ => max p q) onFloat m.1 b 0) m).1
    r ∈ m.1 :: l ∧ ∀ x ∈ m.1 :: l, intOf g.fmt x ≤ intOf g.fmt r := by
  induction l generalizing m with
  | nil => simp
  | cons y l ih =>
    have hy := hl y (List.mem_cons_self ..)
    have hstep := arith_max (z := 0) h hm hy onFloat
    have hlt : (arith g (fun p q _ => max p q) onFloat m.1 y 0).1 < 2 ^ fmtBits g.fmt := by
      rw [hstep]
      split_ifs
      · exact hy
      · exact hm
    obtain ⟨hmem, hmax⟩ := ih (fun x hx => hl x (List.mem_cons_of_mem _ hx)) (arith g (fun p q _ => max p q) onFloat m.1 y 0) hlt
    have hfirst := hmax _ (List.mem_cons_self ..)
    rw [List.foldl_cons]
    refine ⟨?_, fun x hx => ?_⟩
    · rcases List.mem_cons.1 hmem with hr | hr
      · rw [hr, hstep]
        split_ifs <;> simp
      · exact List.mem_cons_of_mem _ (List.mem_cons_of_mem _ hr)
    · rw [hstep] at hfirst
      rcases List.mem_cons.1 hx with rfl | hx
      · split_ifs at hfirst with hc
        · exact hc.trans hfirst
        · exact hfirst
      · rcases List.mem_cons.1 hx with rfl | hx
        · split_ifs at hfirst with hc
          · exact hfirst
          · exact (not_le.1 hc).le.trans hfirst
        · exact hmax x (List.mem_cons_of_mem _ hx)

/-- What VRMAX leaves in its register (R301). -/
def vrmaxOut (g : VecCfg) (l : List Nat) : Nat × Nat :=
  match l with
  | [] => (0, 0)
  | a :: t => t.foldl (fun m b =>
      arith g (fun p q _ => max p q) (fun p q _ => (p.max2 q, 0)) m.1 b 0) (arith g (fun p _ _ => p) (fun p _ _ => (p, 0)) a a 0)

theorem vrmaxOut_max {g : VecCfg} (h : fmtIsInt g.fmt = true) {l : List Nat} (hl : ∀ x ∈ l, x < 2 ^ fmtBits g.fmt) (hne : l ≠ []) :
    (vrmaxOut g l).1 ∈ l ∧ ∀ x ∈ l, intOf g.fmt x ≤ intOf g.fmt (vrmaxOut g l).1 := by
  cases l with
  | nil => exact absurd rfl hne
  | cons a t =>
    have ha := hl a (List.mem_cons_self ..)
    have hfirst : (arith g (fun p _ _ => p) (fun p _ _ => (p, 0)) a a 0).1 = a := by
      unfold arith
      rw [if_pos h]
      exact wrapInt_fits ha
    have hfold := foldl_arith_max h (fun p q _ => (p.max2 q, 0)) t (fun x hx => hl x (List.mem_cons_of_mem _ hx))
      (arith g (fun p _ _ => p) (fun p _ _ => (p, 0)) a a 0) (by rw [hfirst]; exact ha)
    rw [hfirst] at hfold
    exact hfold

theorem lanes_lt (w v : Nat) : ∀ x ∈ lanes w v, x < 2 ^ w := by
  intro x hx
  obtain ⟨i, -, rfl⟩ := List.mem_map.1 hx
  exact elemAt_lt _ _ _

theorem mem_lanes {w v x : Nat} : x ∈ lanes w v ↔ ∃ i, i < 2048 / w ∧ elemAt w v i = x := by
  simp [lanes]

theorem checks_none : ∀ k ∈ ([] : List (Bool × Nat × Nat)), k.1 = true := List.forall_mem_nil _

/-! ### Configuration -/

section
variable {s : State} {c : CoreId} {op : EOp} {f : IFields} {a b d : Word} {env : DispEnv} (h : s.Runs c op f a b d env) {i : Instr}
include h

/-- A command that only changes its core after its checks. -/
theorem next_configures {body : State → Eng → IFields → Word → Word → Word → EOut} (he : exec i s = .next (s.runEntry c op body))
    {checks : List (Bool × Nat × Nat)} {g : Core → Core}
    (hb : body (s.started c op env) (engOf c op env) f a b d = (s.started c op env).guarded (engOf c op env) checks [] []
      (fun run => .done (run.s.modCore c g))) (hc : ∀ k ∈ checks, k.1 = true) (hg : ∀ k : Core, (g k).queues = k.queues) :
    exec i s = .next (((s.started c op env).modCore c g).engineDone (engOf c op env) op) := by
  refine he.trans (congrArg Host.Outcome.next (State.runEntry_done h (hb.trans (State.guarded_registers hc _)) ?_))
  rw [State.core_modCore_same, Core.queue, hg]
  rfl

end

theorem bit_toNat {w : Nat} (a : BitVec w) (i : Nat) : bit a.toNat i = a.getLsbD i := by rw [bit_eq_testBit, BitVec.testBit_toNat]

/-- The limits that R284 allows, by the output format. -/
theorem requantOk_of_limits {o : Nat} {lo hi : BitVec 16} (ho : o = 0 ∧ -8 ≤ lo.toInt ∧ hi.toInt ≤ 7 ∨ o = 1 ∧ -128 ≤ lo.toInt ∧ hi.toInt ≤ 127 ∨
    o = 2 ∨ o = 4 ∧ 0 ≤ lo.toInt ∧ hi.toInt ≤ 255) (hle : lo.toInt ≤ hi.toInt) :
    requantFmt o = true ∧ requantOk o lo.toInt hi.toInt = true := by
  have hlo : -2 ^ 15 ≤ lo.toInt := BitVec.le_toInt lo
  have hhi : hi.toInt < 2 ^ 15 := BitVec.toInt_lt
  rcases ho with ⟨rfl, h0, h1⟩ | ⟨rfl, h0, h1⟩ | rfl | ⟨rfl, h0, h1⟩
  all_goals
    refine ⟨rfl, ?_⟩
    simp only [requantOk, intMin, intMax, fmtBits, Bool.and_eq_true, decide_eq_true_eq]
    norm_num at *
    omega

/-! ### Results -/

theorem wrapInt_mod (fmt : Nat) (z : Int) : (wrapInt fmt z).1 % 2 ^ fmtBits fmt = z % 2 ^ fmtBits fmt := by
  rw [← bitsOf_cast, bitsOf_wrapInt]

theorem lanes_ne_nil (fmt v : Nat) : lanes (fmtBits fmt) v ≠ [] := by
  have hb : fmtBits fmt ≤ 64 := by
    unfold fmtBits
    split <;> decide
  have hp := fmtBits_pos fmt
  have hn : 2048 / fmtBits fmt ≠ 0 := (Nat.div_pos (by omega) hp).ne'
  simp [lanes, hn]


/-- A result below 2^32 in element 0. -/
theorem bitsOf_single (z : Int) : (elemAt 32 (bitsOf 32 z) 0 : Int) = z % 2 ^ 32 ∧ ∀ i, 1 ≤ i → elemAt 32 (bitsOf 32 z) i = 0 := by
  obtain ⟨h0, h1⟩ := elemAt_single (bitsOf_lt 32 z)
  exact ⟨by rw [h0, bitsOf_cast], h1⟩

/-- The element of VCVT between formats of at most 32 bits without a block scale. -/
theorem Cvt.elem_plain {v : Cvt} (hs : v.src < 10) (hd : v.dst < 10) (x : Nat) : v.elem x = elemConv v.dst v.rnd v.sat (elemVal v.src v.esel x) := by
  unfold Cvt.elem inputVal
  rw [if_neg (by omega), if_neg (by omega)]

theorem fmtIsMx_small {n : Nat} (h : n < 10) : fmtIsMx n = false := by
  unfold fmtIsMx
  rw [decide_eq_false (by omega), Bool.false_and]

theorem Cvt.ok_plain {v : Cvt} (hs : v.src < 10) (hd : v.dst < 10) : v.ok = true := by
  unfold Cvt.ok
  rw [fmtIsMx_small hs, fmtIsMx_small hd, decide_eq_true (by omega : v.src < 15), decide_eq_true (by omega : v.dst < 15)]
  rfl

theorem Cvt.elemAt_run {v : Cvt} (hs : v.src < 10) (hd : v.dst < 10) (a : Nat) {i : Nat} (hi : i < v.count) :
    elemAt (fmtBits v.dst) (v.run a).1 i = (elemConv v.dst v.rnd v.sat (elemVal v.src v.esel (elemAt (fmtBits v.src) a i))).1 % 2 ^ fmtBits v.dst := by
  unfold Cvt.run
  rw [if_neg (by rw [fmtIsMx_small hs]; decide), if_neg (by rw [fmtIsMx_small hd]; decide)]
  dsimp only
  rw [collect_map_fst, ← List.append_nil (List.map _ _), elemAt_packLanes _ _ _ _ hi, Cvt.elem_plain hs hd]

/-- The lanes of a comparison are all ones or zero. -/
theorem ones_mod (w : Nat) (p : Bool) : (if p then 2 ^ w - 1 else 0) % 2 ^ w = if p then 2 ^ w - 1 else 0 := by
  cases p with
  | false => exact Nat.zero_mod _
  | true => exact Nat.mod_eq_of_lt (Nat.sub_lt (Nat.two_pow_pos w) (by decide))

/-- A comparison that no element of M61 enters. -/
theorem inputVal_plain {fmt : Nat} (h : fmt ≤ 9) (esel : Bool) (x : Nat) : inputVal fmt esel x = elemVal fmt esel x := if_neg (by omega)

theorem elemVal_int {fmt : Nat} (h : isVecInt fmt) (esel : Bool) (x : Nat) : elemVal fmt esel x = FV.ofInt (intOf fmt x) := by
  rcases h with rfl | rfl | rfl | rfl <;> rfl

theorem vcmpCond_nan {n : Nat} (a b : FV) : (if a = .nan ∨ b = .nan then n == 1 else vcmpCond n a b) = vcmpCond n a b := by
  unfold vcmpCond
  split_ifs <;> rfl

section
variable {s : State} {c : CoreId} {f : IFields} {a b d : Word} {env : DispEnv}

theorem next_vcmp (h : s.Runs c .vcmp f a b d env) (hl : f.low3 < 6) (hf : ((s.started c .vcmp env).core c).vcfg.fmt ≤ 9) :
    let k := (s.started c .vcmp env).core c
    ∃ fill fl, exec (.vcmp c) s = .next ((s.started c .vcmp env).vecDone c .vcmp env f.dst.toNat (k.elementwise f none fill (fun a b _ =>
      (if vcmpCond f.low3 (inputVal k.vcfg.fmt k.vcfg.esel a) (inputVal k.vcfg.fmt k.vcfg.esel b) then 2 ^ fmtBits k.vcfg.fmt - 1 else 0, 0))).1 fl) :=
  ⟨_, _, next_vecOp (inRange := fun k => k.vcfg.fmt != 0xE || m61Lanes 32 [k.vReg f.srcA.toNat, k.vReg f.srcB.toNat])
    (g := fun k => k.elementwise f none (Config.spare [0x28, f.low3, k.vcfg.fmt, k.vReg f.srcA.toNat, k.vReg f.srcB.toNat]) (fun a b _ =>
      (if vcmpCond f.low3 (inputVal k.vcfg.fmt k.vcfg.esel a) (inputVal k.vcfg.fmt k.vcfg.esel b) then 2 ^ fmtBits k.vcfg.fmt - 1 else 0, 0)))
    h rfl rfl (checks_one (decide_eq_true hl)) (by rw [bne_iff_ne.2 (by omega), Bool.true_or])⟩

/-- The lanes of a comparison of values that are not M61 (R301). -/
theorem Core.elemAt_vcmp (k : Core) (f : IFields) (fill : Nat) (hf : k.vcfg.fmt ≤ 9) {i : Nat} (hi : i < 2048 / fmtBits k.vcfg.fmt) :
    elemAt (fmtBits k.vcfg.fmt) (k.elementwise f none fill (fun a b _ =>
      (if vcmpCond f.low3 (inputVal k.vcfg.fmt k.vcfg.esel a) (inputVal k.vcfg.fmt k.vcfg.esel b) then 2 ^ fmtBits k.vcfg.fmt - 1 else 0, 0))).1 i =
    if vcmpCond f.low3 (elemVal k.vcfg.fmt k.vcfg.esel (elemAt (fmtBits k.vcfg.fmt) (k.vReg f.srcA.toNat) i))
      (elemVal k.vcfg.fmt k.vcfg.esel (elemAt (fmtBits k.vcfg.fmt) (k.vReg f.srcB.toNat) i)) then 2 ^ fmtBits k.vcfg.fmt - 1 else 0 := by
  rw [k.elemAt_elementwise f none fill _ hi, Core.laneOut]
  dsimp only
  rw [ones_mod, inputVal_plain hf, inputVal_plain hf, laneB]

end

/-- The configuration that VCFG writes (R299). -/
def VecCfg.formats (v : Nat) (g : VecCfg) : VecCfg :=
  { g with fmt := v % 16, rnd := v / 16 % 4, sat := bit v 6, esel := bit v 7, rot := v / 256 % 64 }

/-- The requantisation state that VRQCFG writes (R301). -/
def VecCfg.requantised (a b : Word) (g : VecCfg) : VecCfg :=
  { g with
    mult := a.setWidth 32, shift := a.toNat / 2 ^ 32 % 64, rqrnd := a.toNat / 2 ^ 38 % 4
    zp := b.setWidth 16, lo := (b >>> 16).setWidth 16, hi := (b >>> 32).setWidth 16, ofmt := b.toNat / 2 ^ 48 % 16 }

theorem setWidth_eq_extract (a : Word) (n w : Nat) : (a >>> n).setWidth w = a.extractLsb' n w :=
  BitVec.eq_of_toNat_eq (by simp [BitVec.extractLsb'_toNat])

theorem VecCfg.requantised_eq {a b : Word} (ha : a.toNat < 2 ^ 40) (hb : b.toNat < 2 ^ 52) (g : VecCfg) : g.requantised a b =
    { g with
      mult := a.extractLsb' 0 32, shift := a.toNat / 2 ^ 32 % 64, rqrnd := a.toNat / 2 ^ 38, zp := b.extractLsb' 0 16
      lo := b.extractLsb' 16 16, hi := b.extractLsb' 32 16, ofmt := b.toNat / 2 ^ 48 } := by
  have h0 (x : Word) (w : Nat) : x.setWidth w = x.extractLsb' 0 w := by rw [← setWidth_eq_extract, BitVec.ushiftRight_zero]
  rw [VecCfg.requantised, h0, h0, setWidth_eq_extract, setWidth_eq_extract, Nat.mod_eq_of_lt (by omega : a.toNat / 2 ^ 38 < 4),
    Nat.mod_eq_of_lt (by omega : b.toNat / 2 ^ 48 < 16)]

section
variable {s : State} {c : CoreId} {f : IFields} {a b d : Word} {env : DispEnv}

theorem next_vcfg (h : s.Runs c .vcfg f a b d env) (h14 : a.toNat < 2 ^ 14) (h15 : a.toNat % 16 ≠ 15) : exec (.vcfg c) s =
    .next (((s.started c .vcfg env).modCore c (fun q => { q with vcfg := q.vcfg.formats a.toNat })).engineDone ⟨c, 1, env⟩ .vcfg) :=
  next_configures h rfl rfl (checks_two (decide_eq_true h14) (bne_iff_ne.2 h15)) fun _ => rfl

theorem next_vrqcfg (h : s.Runs c .vrqcfg f a b d env) (hab : a.toNat < 2 ^ 40 ∧ b.toNat < 2 ^ 52)
    (hof : requantFmt (((s.started c .vrqcfg env).core c).vcfg.requantised a b).ofmt = true)
    (hok : (((s.started c .vrqcfg env).core c).vcfg.requantised a b).requantOk = true) : exec (.vrqcfg c) s =
    .next (((s.started c .vrqcfg env).modCore c (fun q => { q with vcfg := q.vcfg.requantised a b })).engineDone ⟨c, 1, env⟩ .vrqcfg) :=
  next_configures h rfl rfl (List.forall_mem_cons.2 ⟨by rw [decide_eq_true hab.1, decide_eq_true hab.2]; rfl, checks_two hof hok⟩) fun _ => rfl

/-- The requantised sum of two elements (R283). -/
def VecCfg.requantSum (g : VecCfg) (a b : Nat) : Int :=
  requant (sint 32 a + sint 32 b) g.mult.toInt g.shift g.rqrnd g.zp.toInt g.lo.toInt g.hi.toInt

theorem next_vreq (h : s.Runs c .vreq f a b d env) (hof : requantFmt ((s.started c .vreq env).core c).vcfg.ofmt = true)
    (hok : ((s.started c .vreq env).core c).vcfg.requantOk = true) (hfmt : ((s.started c .vreq env).core c).vcfg.fmt = 3) :
    let k := (s.started c .vreq env).core c
    ∃ fl, exec (.vreq c) s = .next ((s.started c .vreq env).vecDone c .vreq env f.dst.toNat
      (k.elementwise f none 0 (fun a b _ => (bitsOf 32 (k.vcfg.requantSum a b), 0))).1 fl) :=
  ⟨_, next_vecOp (inRange := fun _ => true)
    (g := fun q => q.elementwise f none 0 (fun a b _ => (bitsOf 32 (((s.started c .vreq env).core c).vcfg.requantSum a b), 0))) h rfl rfl
    (checks_two (by rw [hof]; exact beq_iff_eq.2 hfmt) hok) rfl⟩

theorem Core.elemAt_vreq (k : Core) (f : IFields) (hfmt : k.vcfg.fmt = 3) {i : Nat} (hi : i < 64) :
    (elemAt 32 (k.elementwise f none 0 (fun a b _ => (bitsOf 32 (k.vcfg.requantSum a b), 0))).1 i : Int) =
      k.vcfg.requantSum (elemAt 32 (k.vReg f.srcA.toNat) i) (elemAt 32 (k.vReg f.srcB.toNat) i) % 2 ^ 32 := by
  have hw : fmtBits k.vcfg.fmt = 32 := congrArg fmtBits hfmt
  have he := k.elemAt_elementwise f none 0 (fun a b _ => (bitsOf 32 (k.vcfg.requantSum a b), 0)) (i := i) (by rw [hw]; exact hi)
  rw [Core.laneOut, hw] at he
  rw [he]
  dsimp only
  rw [Nat.mod_eq_of_lt (bitsOf_lt _ _), bitsOf_cast, laneB]

/-- What VRSUM leaves in its register (R281, R301). -/
def vrsumOut (g : VecCfg) (l : List Nat) : Nat × Nat :=
  if fmtIsInt g.fmt then
    let r := wrapInt 3 ((l.map (intOf g.fmt)).sum)
    (bitsOf 32 r.1, r.2)
  else
    let r := groupSum 0 l.length FV.zero (l.map (elemVal g.fmt g.esel))
    (fmtF32.encode r.1, r.2)

/-- The exact sum of the lanes that VRSUM adds. -/
def Core.laneSum (k : Core) (f : IFields) : Int := ((lanes (fmtBits k.vcfg.fmt) (k.vReg f.srcA.toNat)).map (intOf k.vcfg.fmt)).sum

theorem next_vrsum (h : s.Runs c .vrsum f a b d env) (hB : f.srcB = 0) (hint : isVecInt ((s.started c .vrsum env).core c).vcfg.fmt) :
    ∃ fl, exec (.vrsum c) s = .next ((s.started c .vrsum env).vecDone c .vrsum env f.dst.toNat
      (bitsOf 32 (wrapInt 3 (((s.started c .vrsum env).core c).laneSum f)).1) fl) := by
  have he := next_vecOp (inRange := fun _ => true) (g := fun q => vrsumOut ((s.started c .vrsum env).core c).vcfg
    (lanes (fmtBits ((s.started c .vrsum env).core c).vcfg.fmt) (q.vReg f.srcA.toNat))) (i := .vrsum c) h rfl rfl (checks_two (beq_iff_eq.2 hB) hint.arith) rfl
  rw [vrsumOut, if_pos hint.isInt] at he
  exact ⟨_, he⟩

theorem next_vrmax (h : s.Runs c .vrmax f a b d env) (hint : isVecInt ((s.started c .vrmax env).core c).vcfg.fmt) :
    let k := (s.started c .vrmax env).core c
    ∃ fl, exec (.vrmax c) s = .next ((s.started c .vrmax env).vecDone c .vrmax env f.dst.toNat
      (vrmaxOut k.vcfg (lanes (fmtBits k.vcfg.fmt) (k.vReg f.srcA.toNat))).1 fl) :=
  ⟨_, next_vecOp (inRange := fun _ => true) (g := fun q => vrmaxOut ((s.started c .vrmax env).core c).vcfg
    (lanes (fmtBits ((s.started c .vrmax env).core c).vcfg.fmt) (q.vReg f.srcA.toNat))) h rfl rfl (checks_one hint.arith) rfl⟩

theorem next_vsel (h : s.Runs c .vsel f a b d env) :
    let k := (s.started c .vsel env).core c
    ∃ fill fl, exec (.vsel c) s = .next ((s.started c .vsel env).vecDone c .vsel env f.dst.toNat
      (k.elementwise f none fill (fun a b d => (if d ≠ 0 then a else b, 0))).1 fl) :=
  ⟨_, _, next_vecOp (inRange := fun _ => true) (g := fun k => k.elementwise f none (Config.spare [0x29, k.vcfg.fmt, k.vReg f.srcA.toNat,
    k.vReg f.srcB.toNat, k.vReg f.dst.toNat]) (fun a b d => (if d ≠ 0 then a else b, 0))) h rfl rfl checks_none rfl⟩

theorem next_vcvt (h : s.Runs c .vcvt f a b d env) (hx : f.hasExt = true) (hlt : f.ext.toNat < 4096) (hs : f.ext.toNat % 16 < 10)
    (hd : f.ext.toNat / 16 % 16 < 10) : ∃ fl, exec (.vcvt c) s = .next ((s.started c .vcvt env).vecDone c .vcvt env f.dst.toNat
      ((Cvt.of f.ext.toNat).run (((s.started c .vcvt env).core c).vReg f.srcA.toNat)).1 fl) := by
  have hsrc : (Cvt.of f.ext.toNat).src < 10 := hs
  exact ⟨_, next_vecOp (inRange := fun k => (Cvt.of f.ext.toNat).src != 0xE || m61Lanes (Cvt.of f.ext.toNat).count [k.vReg f.srcA.toNat])
    (g := fun k => (Cvt.of f.ext.toNat).run (k.vReg f.srcA.toNat)) h rfl rfl
    (checks_two (by rw [hx]; exact decide_eq_true hlt) (Cvt.ok_plain hs hd)) (by rw [bne_iff_ne.2 (by omega), Bool.true_or])⟩

theorem next_vspot (h : s.Runs c .vspot f a b d env) (h1 : 1 ≤ b.toNat % 2 ^ 11) (h2 : b.toNat % 2 ^ 11 ≤ 1024) (h0 : b.toNat / 2 ^ 11 % 32 = 0) :
    ∃ fl, exec (.vspot c) s = .next ((s.started c .vspot env).vecDone c .vspot env f.dst.toNat
      (packElems 32 ((List.range 64).map (fun i => spotOf a (b.toNat % 2 ^ 11) (b.toNat / 2 ^ 16 + i)))) fl) :=
  ⟨_, next_vecOp (inRange := fun _ => true)
    (g := fun _ => (packElems 32 ((List.range 64).map (fun i => spotOf a (b.toNat % 2 ^ 11) (b.toNat / 2 ^ 16 + i))), 0)) h rfl rfl
    (checks_one (by rw [decide_eq_true h1, decide_eq_true h2, beq_iff_eq.2 h0]; rfl)) rfl⟩

end

/-- Settles O25: each operation from what it leaves in the lanes of its register. -/
theorem vectorOtherOps : Obligations.VectorOtherOps := by
  intro c f a b d env s s1 k w sets val int va vb
  have hval {fmt x : Nat} (hx : x < 2 ^ fmtBits fmt) : intOf fmt x = val fmt (fmtBits fmt) x := intOf_eq hx
  have setsOf {op : EOp} {i : Instr} {r fl : Nat} {P : Nat → Prop} (hu : unitOf op = 1)
      (he : exec i s = .next ((s.started c op env).vecDone c op env f.dst.toNat r fl)) (hP : P r) : sets op i P :=
    ⟨r, fl, (s1 op).freeCtr, he.trans (congrArg _ (State.vecDone_eq _ c hu env ..)), hP⟩
  refine ⟨fun h h14 h15 => ?_, fun h ha hb => ?_, fun h hof hok hfmt => ?_, fun h hB hint => ?_, fun h hint => ?_, fun h hl hint => ?_,
    fun h hl h7 h9 => ?_, fun h => ?_, fun h hx hlt => ?_, fun h => ?_⟩
  · rw [next_vcfg h h14 h15]
    simp only [VecCfg.formats, bit_toNat]
    rfl
  · intro lo hi o ho hle
    obtain ⟨hof, hok⟩ := requantOk_of_limits ho hle
    have hq (g : VecCfg) := g.requantised_eq ha hb
    rw [next_vrqcfg h ⟨ha, hb⟩ (by rw [hq]; exact hof) (by rw [hq]; exact hok)]
    simp only [hq]
    rfl
  · obtain ⟨fl, he⟩ := next_vreq h hof hok hfmt
    refine setsOf (op := .vreq) rfl he fun i hi => ?_
    dsimp only
    rw [(k .vreq).elemAt_vreq f hfmt hi, VecCfg.requantSum, requant]
    have hv (x : Nat) : sint 32 (elemAt 32 x i) = val 3 32 (elemAt 32 x i) := hval (fmt := 3) (elemAt_lt 32 x i)
    rw [hv, hv]
  · obtain ⟨fl, he⟩ := next_vrsum h hB hint
    obtain ⟨h0, h1⟩ := bitsOf_single (wrapInt 3 ((k .vrsum).laneSum f)).1
    refine setsOf (op := .vrsum) rfl he ⟨h0.trans ?_, h1⟩
    rw [show (2 : Int) ^ 32 = 2 ^ fmtBits 3 from rfl, wrapInt_mod, Core.laneSum, lanes, List.map_map]
    refine congrArg (fun l : List Int => l.sum % 2 ^ 32) (List.map_congr_left fun i _ => ?_)
    exact hval (elemAt_lt ..)
  · obtain ⟨fl, he⟩ := next_vrmax h hint
    obtain ⟨hmem, hmax⟩ := vrmaxOut_max (g := (k .vrmax).vcfg) (isVecInt.isInt hint) (lanes_lt _ ((k .vrmax).vReg f.srcA.toNat))
      (lanes_ne_nil (k .vrmax).vcfg.fmt _)
    obtain ⟨h0, h1⟩ := elemAt_single (lanes_lt _ _ _ hmem)
    obtain ⟨i, hi, hr⟩ := mem_lanes.1 hmem
    refine setsOf (op := .vrmax) rfl he ⟨⟨i, hi, h0.trans hr.symm, fun j hj => ?_⟩, h1⟩
    have hj' := hmax _ (mem_lanes.2 ⟨j, hj, rfl⟩)
    rw [← hr] at hj'
    rwa [hval (elemAt_lt ..), hval (elemAt_lt ..)] at hj'
  · have h9 : (k .vcmp).vcfg.fmt ≤ 9 := by
      have hint : (k .vcmp).vcfg.fmt = 1 ∨ (k .vcmp).vcfg.fmt = 2 ∨ (k .vcmp).vcfg.fmt = 3 ∨ (k .vcmp).vcfg.fmt = 4 := hint
      omega
    obtain ⟨fill, fl, he⟩ := next_vcmp h hl h9
    refine setsOf (op := .vcmp) rfl he fun i hi => ?_
    dsimp only
    rw [(k .vcmp).elemAt_vcmp f fill h9 hi, elemVal_int hint, elemVal_int hint, vcmpCond_ofInt hl, hval (elemAt_lt ..), hval (elemAt_lt ..)]
    rfl
  · obtain ⟨fill, fl, he⟩ := next_vcmp h hl h9
    refine setsOf (op := .vcmp) rfl he fun i hi => ?_
    dsimp only
    rw [(k .vcmp).elemAt_vcmp f fill h9 hi, vcmpCond_nan]
  · obtain ⟨fill, fl, he⟩ := next_vsel h
    refine setsOf (op := .vsel) rfl he fun i hi => ?_
    rw [(k .vsel).elemAt_elementwise f none fill _ hi, Core.laneOut, laneB]
    dsimp only
    split_ifs
    · exact elemAt_mod ..
    · exact elemAt_mod ..
  · intro src dst hs hd
    obtain ⟨fl, he⟩ := next_vcvt h hx hlt hs hd
    refine setsOf (op := .vcvt) rfl he fun i hi => ?_
    rw [← bit_toNat, ← bit_toNat]
    exact Cvt.elemAt_run hs hd _ hi
  · intro q h1 h2 h0
    obtain ⟨fl, he⟩ := next_vspot h h1 h2 h0
    refine setsOf (op := .vspot) rfl he fun i hi => ?_
    rw [← List.append_nil (List.map _ _), elemAt_packLanes _ _ _ _ hi, spotOf]
    dsimp only
    rw [BitVec.toNat_ushiftRight, Nat.shiftRight_eq_div_pow]

end Sys2Proof.Machine
end

section
-- One proof after another: what waits for another costs the check memory.
set_option Elab.async false
/-! SUPPORT. O26: loads, stores, gathers and scatters of the engines. -/
namespace Sys2Proof.Machine

/-! ### Ranges of memory (R160–R163) -/

/-- An address of the device's own memory leads to the place of the same number. -/
theorem locLocal_mem {s : State} {a x : Nat} (h : locLocal s a = .mem x) : x = a ∧
    (a < 0xE0000000 ∨ 0x100000000 ≤ a ∧ a < 0x1E0000000 ∨ 0x1000000000 ≤ a ∧ a < 0x1002000000 ∨ 0x1004000000 ≤ a ∧ a < 0x1006000000) := by
  unfold locLocal at h
  split_ifs at h with h0 h1 h2 h3 h4 h5 h6 h7
  all_goals
    cases h
    exact ⟨rfl, by omega⟩

/-- The offset of an address within the view of its device (R162). -/
def viewOff (a : Nat) : Nat := (a - 0x4000000000) % 0x400000000

theorem viewLocal_some {off l : Nat} (h : viewLocal off = some l) : off < 0x200000000 ∧ l = off ∨
    0x200000000 ≤ off ∧ off < 0x206000000 ∧ l = 0x1000000000 + (off - 0x200000000) ∨
    0x300000000 ≤ off ∧ l = 0x1800000000 + (off - 0x300000000) := by
  unfold viewLocal at h
  split_ifs at h with h0 h1 h2
  · exact .inl ⟨h0, (Option.some.inj h).symm⟩
  · exact .inr (.inl ⟨not_lt.1 h0, h1, (Option.some.inj h).symm⟩)
  · exact .inr (.inr ⟨h2.1, (Option.some.inj h).symm⟩)

/-- Where the addresses that lead to memory lie: the window of the own scratchpad, the view of this device, or memory itself. -/
theorem State.loc_mem {s : State} {c : Option Nat} {a x : Nat} (h : s.loc c a = .mem x) :
    (∃ n, 0xFF00000000 ≤ a ∧ a < 0xFF00200000 ∧ c = some n ∧ x = 0x1000000000 + n * 0x200000 + (a - 0xFF00000000)) ∨
    (0x4000000000 ≤ a ∧ a < 0x8000000000 ∧
      (x = viewOff a ∧ viewOff a < 0x1E0000000 ∧ ¬ (0xE0000000 ≤ viewOff a ∧ viewOff a < 0x100000000) ∨
        x = 0x1000000000 + (viewOff a - 0x200000000) ∧ 0x200000000 ≤ viewOff a ∧ viewOff a < 0x206000000)) ∨
    (x = a ∧ (a < 0xE0000000 ∨ 0x100000000 ≤ a ∧ a < 0x1E0000000 ∨ 0x1000000000 ≤ a ∧ a < 0x1006000000)) := by
  unfold State.loc at h
  by_cases h0 : 0xFF00000000 ≤ a ∧ a < 0xFF00200000
  · rw [if_pos h0] at h
    cases c with
    | none => exact Loc.noConfusion h
    | some n => exact .inl ⟨n, h0.1, h0.2, rfl, (Loc.mem.inj h).symm⟩
  rw [if_neg h0] at h
  by_cases h1 : 0x2000000000 ≤ a ∧ a < 0x4000000000
  · rw [if_pos h1] at h
    exact Loc.noConfusion h
  rw [if_neg h1] at h
  by_cases h2 : 0x4000000000 ≤ a ∧ a < 0x8000000000
  · rw [if_pos h2] at h
    refine .inr (.inl ⟨h2.1, h2.2, ?_⟩)
    by_cases hn : (!s.hasNim) = true
    · dsimp only at h
      rw [if_pos hn] at h
      exact Loc.noConfusion h
    dsimp only at h
    rw [if_neg hn, ← viewOff] at h
    cases hv : viewLocal (viewOff a) with
    | none =>
      rw [hv] at h
      exact Loc.noConfusion h
    | some l =>
      rw [hv] at h
      dsimp only at h
      by_cases hd : (a - 0x4000000000) / 0x400000000 = s.fld R.NIM_CFG_SELF
      · rw [if_pos hd] at h
        obtain ⟨hx, hr⟩ := locLocal_mem h
        have hl := viewLocal_some hv
        omega
      · rw [if_neg hd] at h
        exact Loc.noConfusion h
  · rw [if_neg h2] at h
    obtain ⟨hx, hr⟩ := locLocal_mem h
    exact .inr (.inr ⟨hx, by omega⟩)

/-- The next address of memory leads to the next byte. -/
theorem State.loc_mem_succ {s : State} {c : Option Nat} {a x y : Nat} (hx : s.loc c a = .mem x) (hy : s.loc c (a + 1) = .mem y) : y = x + 1 := by
  rcases State.loc_mem hx with ⟨n, h0, h1, hc, hx⟩ | ⟨h0, h1, hx⟩ | ⟨hxa, hx⟩
  · rcases State.loc_mem hy with ⟨m, g0, g1, hc', hy⟩ | ⟨g0, g1, -⟩ | ⟨hya, hy⟩
    · obtain rfl : n = m := Option.some.inj (hc.symm.trans hc')
      omega
    · omega
    · omega
  · rcases State.loc_mem hy with ⟨m, g0, g1, -, hy⟩ | ⟨g0, g1, hy⟩ | ⟨hya, hy⟩
    · omega
    · unfold viewOff at hx hy
      omega
    · omega
  · rcases State.loc_mem hy with ⟨m, g0, g1, -, hy⟩ | ⟨g0, g1, hy⟩ | ⟨hya, hy⟩
    · omega
    · omega
    · omega

/-- A range that lies in memory from `pa` on, where no rule refuses an access. -/
def State.Placed (s : State) (c : CoreId) (cls : Nat) (w : Bool) (a n pa : Nat) : Prop :=
  ∀ i, i < n → s.loc (some c) (a + i) = .mem (pa + i) ∧ s.Plain cls w (pa + i)

/-- A range that an entry may access lies at consecutive bytes of memory. -/
theorem State.MemOk.placed {s : State} {c : CoreId} {env : DispEnv} {w : Bool} {a n : Nat} (h : s.MemOk c env w a n) :
    ∃ pa, s.Placed c env.cls w a n pa := by
  obtain ⟨-, h⟩ := h
  cases n with
  | zero => exact ⟨0, fun i hi => absurd hi (Nat.not_lt_zero i)⟩
  | succ n =>
    obtain ⟨pa, hpa, -⟩ := h 0 (Nat.succ_pos n)
    have hloc : ∀ i, i < n + 1 → s.loc (some c) (a + i) = .mem (pa + i) := by
      intro i
      induction i with
      | zero => exact fun _ => hpa
      | succ i ih =>
        intro hi
        obtain ⟨y, hy, -⟩ := h (i + 1) hi
        have hnext := State.loc_mem_succ (ih (by omega)) hy
        rw [hy, hnext]
        rfl
    refine ⟨pa, fun i hi => ⟨hloc i hi, ?_⟩⟩
    obtain ⟨y, hy, hp⟩ := h i hi
    rw [hloc i hi] at hy
    cases hy
    exact hp

theorem State.Placed.part {s : State} {c : CoreId} {cls : Nat} {w : Bool} {a n pa : Nat} (h : s.Placed c cls w a n pa) (k : Nat) {m : Nat}
    (hm : k + m ≤ n) : s.Placed c cls w (a + k) m (pa + k) := fun i hi => by
  rw [Nat.add_assoc, Nat.add_assoc]
  exact h (k + i) (by omega)

/-- The bytes of such a range as the core sees them are those of memory. -/
theorem State.Placed.seen {s : State} {c : CoreId} {cls : Nat} {w : Bool} {a n pa : Nat} (h : s.Placed c cls w a n pa) :
    s.seen c a n = leNat (s.bytes pa n) := by
  unfold State.seen State.bytes
  refine congrArg leNat (List.map_congr_left fun i hi => ?_)
  rw [State.see, (h i (List.mem_range.1 hi)).1]

/-! ### The blocks of a range -/

theorem mem_pieces {f a n : Nat} {p : Nat × Nat} (h : p ∈ pieces f a n) : ∃ i, i < n ∧ p.1 = a + i := by
  induction f generalizing a n with
  | zero => cases h
  | succ f ih =>
    unfold pieces at h
    split_ifs at h with hn
    · cases h
    · rcases List.mem_cons.1 h with rfl | h
      · exact ⟨0, Nat.pos_of_ne_zero hn, rfl⟩
      · obtain ⟨i, hi, hp⟩ := ih h
        exact ⟨min n (64 - a % 64) + i, by omega, by omega⟩

/-- What a step over the first block of a range leaves to do. -/
theorem pieces_fuel {f a n : Nat} (h : n + a % 64 ≤ 64 * (f + 1)) :
    let m := min n (64 - a % 64)
    n - m = 0 ∨ n - m + (a + m) % 64 ≤ 64 * f := by
  intro m
  by_cases hm : n ≤ 64 - a % 64
  · left
    omega
  · right
    have hmv : m = 64 - a % 64 := Nat.min_eq_right (not_le.1 hm).le
    omega

theorem pieces_zero (f a : Nat) : pieces f a 0 = [] := by
  cases f with
  | zero => rfl
  | succ f => exact if_pos rfl

/-- Induction over the blocks of a range. -/
theorem pieces_induction {P : Nat → Nat → Nat → Prop} (nil : ∀ f a, P f a 0)
    (cons : ∀ f a n, n ≠ 0 → P f (a + min n (64 - a % 64)) (n - min n (64 - a % 64)) → P (f + 1) a n) :
    ∀ f a n, n + a % 64 ≤ 64 * f → P f a n := by
  intro f
  induction f with
  | zero =>
    intro a n h
    obtain rfl : n = 0 := by omega
    exact nil 0 a
  | succ f ih =>
    intro a n h
    by_cases hn : n = 0
    · subst hn
      exact nil _ a
    · refine cons f a n hn ?_
      rcases pieces_fuel h with hz | hr
      · rw [hz]
        exact nil f _
      · exact ih _ _ hr

theorem blocksOf_fuel (a n : Nat) : n + a % 64 ≤ 64 * (n / 64 + 2) := by omega

/-! ### Reads of plain ranges (R287, R290) -/

theorem State.bytes_append (s : State) (a m n : Nat) : s.bytes a (m + n) = s.bytes a m ++ s.bytes (a + m) n := by
  simp [State.bytes, List.range_add, Function.comp_def, Nat.add_assoc]

theorem State.bytes_length (s : State) (a n : Nat) : (s.bytes a n).length = n := by simp [State.bytes]

section
variable {s : State} {x : Eng} {a n pa : Nat}

/-- A block of a plain range is read as it stands. -/
theorem State.pieceRead_placed {m : Nat} (h : s.Placed x.c x.env.cls false a n pa) (hn : 0 < n) :
    s.pieceRead x a m = (s, .ok, s.bytes pa m) := by
  obtain ⟨hl, hp⟩ := h 0 hn
  unfold State.pieceRead
  rw [show s.loc (some x.c) a = .mem pa from hl]
  dsimp only
  rw [State.checkMem_plain (pa := pa) hp]
  rfl

/-- One block read by a run without an error. -/
def Run.readStep (x : Eng) (g : Run × List Byte) (p : Nat × Nat) : Run × List Byte :=
  if g.1.err.isSome then
    let b := g.1.s.freeBytes p.2
    (⟨b.1, g.1.err⟩, g.2 ++ b.2)
  else
    let q := g.1.s.pieceRead x p.1 p.2
    if q.2.1 = .ok then (⟨q.1, none⟩, g.2 ++ q.2.2)
    else
      let b := q.1.freeBytes p.2
      (⟨b.1, some (mstCode q.2.1, p.1)⟩, g.2 ++ b.2)

theorem Run.readStep_ok {l d : List Byte} {p : Nat × Nat} (h : s.pieceRead x p.1 p.2 = (s, .ok, d)) :
    Run.readStep x (⟨s, none⟩, l) p = (⟨s, none⟩, l ++ d) := by
  unfold Run.readStep
  rw [if_neg (by exact Bool.false_ne_true), h]
  exact if_pos rfl

theorem Run.foldl_readStep (s : State) (x : Eng) : ∀ f a n, n + a % 64 ≤ 64 * f → ∀ pa, s.Placed x.c x.env.cls false a n pa → ∀ l,
    (pieces f a n).foldl (Run.readStep x) (⟨s, none⟩, l) = (⟨s, none⟩, l ++ s.bytes pa n) := by
  apply pieces_induction
  · intro f a pa _ l
    rw [pieces_zero]
    simp [State.bytes]
  · intro f a n hn ih pa h l
    have hm : min n (64 - a % 64) ≤ n := Nat.min_le_left _ _
    have hstep := Run.readStep_ok (l := l) (p := (a, min n (64 - a % 64))) (State.pieceRead_placed h (Nat.pos_of_ne_zero hn))
    rw [pieces, if_neg hn, List.foldl_cons, hstep, ih (pa + min n (64 - a % 64)) (h.part _ (by omega)), List.append_assoc, ← State.bytes_append,
      Nat.add_sub_cancel' hm]

/-- A plain range is read as it stands, and nothing changes. -/
theorem Run.read_placed (h : s.Placed x.c x.env.cls false a n pa) : (⟨s, none⟩ : Run).read x a n = (⟨s, none⟩, s.bytes pa n) :=
  Run.foldl_readStep s x _ a n (blocksOf_fuel a n) pa h []

end

/-- The bytes of a range as a core sees them. -/
def State.seenBytes (s : State) (c : CoreId) (a n : Nat) : List Byte := (List.range n).map (fun i => s.see c (a + i))

theorem State.seen_eq (s : State) (c : CoreId) (a n : Nat) : s.seen c a n = leNat (s.seenBytes c a n) := rfl

theorem State.seenBytes_length (s : State) (c : CoreId) (a n : Nat) : (s.seenBytes c a n).length = n := by simp [State.seenBytes]

theorem State.Placed.seenBytes {s : State} {c : CoreId} {cls : Nat} {w : Bool} {a n pa : Nat} (h : s.Placed c cls w a n pa) :
    s.seenBytes c a n = s.bytes pa n :=
  List.map_congr_left fun i hi => by rw [State.see, (h i (List.mem_range.1 hi)).1]

section
variable {s : State} {x : Eng}

theorem Run.read_ok {a n : Nat} (h : s.MemOk x.c x.env false a n) : (⟨s, none⟩ : Run).read x a n = (⟨s, none⟩, s.seenBytes x.c a n) := by
  obtain ⟨pa, hp⟩ := h.placed
  rw [Run.read_placed hp, hp.seenBytes]

theorem Run.reads_ok {l : List (Nat × Nat)} (h : ∀ r ∈ l, s.MemOk x.c x.env false r.1 r.2) :
    (⟨s, none⟩ : Run).reads x l = (⟨s, none⟩, l.map (fun r => s.seenBytes x.c r.1 r.2)) := by
  have hfold (acc : List (List Byte)) : l.foldl (fun g p => ((g.1.read x p.1 p.2).1, g.2 ++ [(g.1.read x p.1 p.2).2])) ((⟨s, none⟩ : Run), acc) =
      (⟨s, none⟩, acc ++ l.map (fun r => s.seenBytes x.c r.1 r.2)) := by
    induction l generalizing acc with
    | nil => simp
    | cons r l ih =>
      rw [List.foldl_cons, Run.read_ok (h r (List.mem_cons_self ..)), ih (fun r hr => h r (List.mem_cons_of_mem _ hr))]
      simp
  exact hfold []

/-! ### An entry whose ranges no rule refuses (R287) -/

theorem State.MemOk.dataOk {c : CoreId} {env : DispEnv} {w : Bool} {a n : Nat} (h : s.MemOk c env w a n) :
    (0 < n && !s.dataOk env.priv env.wins w a n) = false := by
  by_cases hn : 0 < n
  · rw [h.1 hn, decide_eq_true hn]
    rfl
  · rw [decide_eq_false hn]
    rfl

theorem State.MemOk.block {c : CoreId} {env : DispEnv} {w : Bool} {a n : Nat} (h : s.MemOk c env w a n) {p : Nat × Nat} (hp : p ∈ blocksOf a n) :
    ∃ pa, s.loc (some c) p.1 = .mem pa ∧ s.keyWait pa = false := by
  obtain ⟨i, hi, hpi⟩ := mem_pieces hp
  obtain ⟨pa, hl, hplain⟩ := h.2 i hi
  exact ⟨pa, by rw [hpi, hl], hplain.2.1⟩

/-- An entry all of whose checks hold and whose ranges no rule refuses runs at once. -/
theorem State.guarded_runs {checks : List (Bool × Nat × Nat)} (hc : ∀ k ∈ checks, k.1 = true) {rs ws : List (Nat × Nat)}
    (hr : ∀ r ∈ rs, s.MemOk x.c x.env false r.1 r.2) (hw : ∀ r ∈ ws, s.MemOk x.c x.env true r.1 r.2) (run : Run → EOut) :
    s.guarded x checks rs ws run = run ⟨s, none⟩ := by
  have hf : checks.find? (fun c => !c.1) = none := List.find?_eq_none.2 fun k hk => by rw [hc k hk]; decide
  have hgate : s.engGate x rs ws = .ok := by
    unfold State.engGate
    dsimp only
    rw [List.find?_eq_none.2 fun r h => by rw [(hr r h).dataOk]; decide, List.find?_eq_none.2 fun r h => by rw [(hw r h).dataOk]; decide]
    refine if_neg (Bool.not_eq_true _ ▸ List.any_eq_false.2 fun r hm => ?_)
    rw [Bool.not_eq_true]
    refine List.any_eq_false.2 fun p hp => ?_
    have hb : ∃ pa, s.loc (some x.c) p.1 = .mem pa ∧ s.keyWait pa = false := by
      rcases List.mem_append.1 hm with h | h
      · exact (hr r h).block hp
      · exact (hw r h).block hp
    obtain ⟨pa, hl, hk⟩ := hb
    rw [hl]
    dsimp only
    rw [hk]
    decide
  have hneed : s.awayNeed x rs = [] := by
    refine List.filter_eq_nil_iff.2 fun p hp => ?_
    obtain ⟨r, hm, hp⟩ := List.mem_flatMap.1 hp
    obtain ⟨pa, hl, -⟩ := (hr r hm).block hp
    dsimp only
    rw [hl]
    exact Bool.false_ne_true
  have htag : s.awayTag x ws = true := by
    unfold State.awayTag
    rw [Bool.or_eq_true_iff]
    refine .inr (Bool.not_eq_true' _ ▸ List.any_eq_false.2 fun r hm => ?_)
    by_cases hn : 0 < r.2
    · obtain ⟨pa, hl, -⟩ := (hw r hm).2 0 hn
      rw [show s.loc (some x.c) r.1 = .mem pa from hl]
      simp [Loc.away]
    · simp [hn]
  unfold State.guarded
  rw [hf, hgate]
  dsimp only
  rw [hneed, htag]
  rfl

end

/-! ### What a store into memory may touch -/

/-- Two states that differ at most in the bytes of memory and in errors and poison that a store has cleared. -/
structure State.Stored (s t : State) : Prop where
  rest : ∃ m p e, t = { s with mem := m, poison := p, ecc := e }
  errs : ∀ b, s.errAt b = 0 → t.errAt b = 0
  clean : ∀ b, s.poison.contains b = false → t.poison.contains b = false

theorem State.Stored.refl (s : State) : s.Stored s := ⟨⟨_, _, _, rfl⟩, fun _ h => h, fun _ h => h⟩

theorem State.Stored.trans {s t u : State} (h : s.Stored t) (h' : t.Stored u) : s.Stored u where
  rest := by
    obtain ⟨_, _, _, rfl⟩ := h.rest
    obtain ⟨_, _, _, rfl⟩ := h'.rest
    exact ⟨_, _, _, rfl⟩
  errs b hb := h'.errs b (h.errs b hb)
  clean b hb := h'.clean b (h.clean b hb)

theorem State.stored_putMem (s : State) (pa : Nat) (data : List Byte) : s.Stored (s.putMem pa data) := by
  unfold State.putMem
  rw [State.setBytes_eq]
  dsimp only
  split_ifs
  · refine ⟨⟨_, _, _, rfl⟩, fun b hb => ?_, fun b hb => ?_⟩
    · unfold State.errAt at hb ⊢
      rw [SMap.get_dropKeys, hb, ite_self]
    · rw [List.contains_eq_mem, decide_eq_false_iff_not] at hb ⊢
      exact fun hm => hb (List.mem_filter.1 hm).1
  · exact ⟨⟨_, _, _, rfl⟩, fun _ h => h, fun _ h => h⟩

section
variable {s t : State} (h : s.Stored t)
include h

theorem State.Stored.regs : t.regs = s.regs := by obtain ⟨_, _, _, rfl⟩ := h.rest; rfl
theorem State.Stored.cores : t.cores = s.cores := by obtain ⟨_, _, _, rfl⟩ := h.rest; rfl
theorem State.Stored.core (n : Nat) : t.core n = s.core n := by obtain ⟨_, _, _, rfl⟩ := h.rest; rfl
theorem State.Stored.loc (c : Option Nat) (a : Nat) : t.loc c a = s.loc c a := State.loc_congr h.regs c a

theorem State.Stored.plain {cls : Nat} {w : Bool} {pa : Nat} (hp : s.Plain cls w pa) : t.Plain cls w pa := by
  obtain ⟨hrest, herrs, hclean⟩ := h
  obtain ⟨hfence, hkey, hdram, herr, hsh, hspm, hpoison⟩ := hp
  have hsame : t.fenceOk cls w pa = s.fenceOk cls w pa ∧ t.keyWait pa = s.keyWait pa ∧ t.dramStat pa = s.dramStat pa ∧ t.regs = s.regs := by
    obtain ⟨_, _, _, rfl⟩ := hrest
    exact ⟨rfl, rfl, rfl, rfl⟩
  obtain ⟨h1, h2, h3, h4⟩ := hsame
  unfold State.Plain
  rw [h1, h2, h3, State.fld_congr h4]
  exact ⟨hfence, hkey, hdram, herrs _ herr, herrs _ hsh, hspm, hclean _ hpoison⟩

theorem State.Stored.memOk {c : CoreId} {env : DispEnv} {w : Bool} {a n : Nat} (hm : s.MemOk c env w a n) : t.MemOk c env w a n := by
  obtain ⟨hok, hplain⟩ := hm
  refine ⟨fun hn => (State.dataOk_congr h.regs ..).trans (hok hn), fun i hi => ?_⟩
  obtain ⟨pa, hl, hp⟩ := hplain i hi
  exact ⟨pa, (h.loc _ _).trans hl, h.plain hp⟩

end

/-! ### Writes of plain ranges (R287, R290) -/

/-- One write of an entry, block by block. -/
def State.engWrite (x : Eng) (s : State) (w : Nat × List Byte) : State :=
  (blocksOf w.1 w.2.length).foldl (fun s p => s.pieceWrite x p.1 ((w.2.drop (p.1 - w.1)).take p.2)) s

section
variable {s t : State} {x : Eng}

/-- A write of one block of plain memory. -/
theorem State.pieceWrite_placed (ht : s.Stored t) {a pa : Nat} (h : s.loc (some x.c) a = .mem pa) (data : List Byte) :
    t.pieceWrite x a data = t.putMem pa data := by
  unfold State.pieceWrite
  rw [ht.loc, h]

theorem getD_block (data : List Byte) (k m i : Nat) (hi : i < m) : ((data.drop k).take m).getD i 0 = data.getD (k + i) 0 := by
  simp [List.getD_eq_getElem?_getD, hi]

theorem State.foldl_pieceWrite {c : CoreId} {cls : Nat} (hxc : x.c = c) {a0 pa0 : Nat} {data : List Byte} (h : s.Placed c cls true a0 data.length pa0) :
    ∀ f a n, n + a % 64 ≤ 64 * f → ∀ k t, a = a0 + k → k + n = data.length → s.Stored t →
      let u := (pieces f a n).foldl (fun s p => s.pieceWrite x p.1 ((data.drop (p.1 - a0)).take p.2)) t
      s.Stored u ∧ ∀ y, u.byte y = if pa0 + k ≤ y ∧ y < pa0 + data.length then data.getD (y - pa0) 0 else t.byte y := by
  subst hxc
  apply pieces_induction
  · intro f a k t _ hk ht
    rw [pieces_zero]
    refine ⟨ht, fun y => ?_⟩
    rw [if_neg (by omega)]
    rfl
  · intro f a n hn ih k t ha hk ht
    subst ha
    rw [pieces, if_neg hn]
    have hm1 : min n (64 - (a0 + k) % 64) ≤ n := Nat.min_le_left _ _
    generalize min n (64 - (a0 + k) % 64) = m at hm1 ih
    have hput := State.pieceWrite_placed (x := x) ht (h k (by omega)).1 ((data.drop k).take m)
    have hlen : ((data.drop k).take m).length = m := by rw [List.length_take, List.length_drop]; omega
    obtain ⟨hst, hb⟩ := ih (k + m) (t.putMem (pa0 + k) ((data.drop k).take m)) (by omega) (by omega) (ht.trans (State.stored_putMem ..))
    rw [List.foldl_cons]
    dsimp only
    rw [Nat.add_sub_cancel_left, hput]
    refine ⟨hst, fun y => (hb y).trans ?_⟩
    rw [State.byte_putMem, hlen]
    split_ifs with h1 h2 h3 h3 h4
    · rfl
    · omega
    · rw [getD_block _ _ _ _ (by omega)]
      congr 1
      omega
    · omega
    · omega
    · rfl

/-- A write of an entry to a plain range. -/
theorem State.engWrite_placed (ht : s.Stored t) {w : Nat × List Byte} {cls pa : Nat} (h : s.Placed x.c cls true w.1 w.2.length pa) :
    s.Stored (t.engWrite x w) ∧ ∀ y, (t.engWrite x w).byte y = if pa ≤ y ∧ y < pa + w.2.length then w.2.getD (y - pa) 0 else t.byte y :=
  State.foldl_pieceWrite rfl h _ w.1 w.2.length (blocksOf_fuel _ _) 0 t rfl (Nat.zero_add _) ht

/-- Several writes of an entry to plain ranges: what they do not touch stays, and what later ones do not touch is as written. -/
theorem State.foldl_engWrite {env : DispEnv} {l : List (Nat × List Byte)} (h : ∀ w ∈ l, s.MemOk x.c env true w.1 w.2.length) (ht : s.Stored t) :
    let u := l.foldl (State.engWrite x) t
    s.Stored u ∧ (∀ y, (∀ w ∈ l, ∀ i, i < w.2.length → s.loc (some x.c) (w.1 + i) ≠ .mem y) → u.byte y = t.byte y) ∧
      ∀ l1 w l2, l = l1 ++ w :: l2 → ∀ i, i < w.2.length →
        (∀ w' ∈ l2, ∀ j, j < w'.2.length → s.loc (some x.c) (w'.1 + j) ≠ s.loc (some x.c) (w.1 + i)) → u.see x.c (w.1 + i) = w.2.getD i 0 := by
  induction l generalizing t with
  | nil => exact ⟨ht, fun _ _ => rfl, fun l1 w l2 hl => absurd hl (by simp)⟩
  | cons v l ih =>
    obtain ⟨pa, hp⟩ := (h v (List.mem_cons_self ..)).placed
    obtain ⟨hst, hb⟩ := State.engWrite_placed ht hp
    obtain ⟨hu, hkeep, hlast⟩ := ih (fun w hw => h w (List.mem_cons_of_mem _ hw)) hst
    refine ⟨hu, fun y hy => ?_, fun l1 w l2 hl i hi hlater => ?_⟩
    · rw [List.foldl_cons, hkeep y fun w hw => hy w (List.mem_cons_of_mem _ hw), hb, if_neg]
      rintro ⟨h1, h2⟩
      refine hy v (List.mem_cons_self ..) (y - pa) (by omega) ?_
      rw [(hp (y - pa) (by omega)).1, Nat.add_sub_cancel' h1]
    · cases l1 with
      | nil =>
        obtain ⟨rfl, rfl⟩ := List.cons.inj hl
        obtain hloc := (hp i hi).1
        rw [List.foldl_cons, State.see, hu.loc, hloc]
        dsimp only
        rw [hkeep _ fun w hw j hj => by rw [← hloc]; exact hlater w hw j hj, hb, if_pos (by omega), Nat.add_sub_cancel_left]
      | cons v' l1 =>
        obtain ⟨-, hl'⟩ := List.cons.inj hl
        exact hlast l1 w l2 hl' i hi hlater

/-- A write within a plain range is checked without an error. -/
theorem State.pieceCheck_ok {env : DispEnv} (henv : x.env = env) {a n : Nat} (h : s.MemOk x.c env true a n) {p : Nat × Nat} (hp : p ∈ blocksOf a n) :
    s.pieceCheck x p.1 = (s, .ok) := by
  subst henv
  obtain ⟨i, hi, hpi⟩ := mem_pieces hp
  obtain ⟨pa, hl, hplain⟩ := h.2 i hi
  unfold State.pieceCheck
  rw [hpi, hl]
  exact State.checkMem_plain hplain _

/-- One block checked by a run that writes. -/
def Run.checkStep (x : Eng) (g : Run × List Bool) (w : Nat × List Byte) : Run × List Bool :=
  let t := g.1.s.pieceCheck x w.1
  let g' : Run := { g.1 with s := t.1 }
  if t.2 = .ok then (g', g.2 ++ [true]) else (g'.fail (mstCode t.2) w.1, g.2 ++ [false])

theorem Run.foldl_checkStep {ws : List (Nat × List Byte)} (h : ∀ w ∈ ws, s.pieceCheck x w.1 = (s, .ok)) (acc : List Bool) :
    (ws.foldl (Run.checkStep x) (⟨s, none⟩, acc)).1 = ⟨s, none⟩ := by
  induction ws generalizing acc with
  | nil => rfl
  | cons w ws ih =>
    have hstep : Run.checkStep x (⟨s, none⟩, acc) w = (⟨s, none⟩, acc ++ [true]) := by
      unfold Run.checkStep
      dsimp only
      rw [h w (List.mem_cons_self ..)]
      rfl
    rw [List.foldl_cons, hstep]
    exact ih (fun w hw => h w (List.mem_cons_of_mem _ hw)) _

/-- The writes of a run performed once every block has been checked. -/
def Run.writeEnd (x : Eng) (ws : List (Nat × List Byte)) (q : Run × List Bool) : Run :=
  if q.1.err.isNone then { q.1 with s := ws.foldl (fun s w => s.pieceWrite x w.1 w.2) q.1.s }
  else { q.1 with s := (ws.zip q.2).foldl (fun s w => if w.2 then s.pieceSome x w.1.1 w.1.2 else s) q.1.s }

/-- Writes to plain ranges are performed, block by block. -/
theorem Run.write_ok {l : List (Nat × List Byte)} (h : ∀ w ∈ l, s.MemOk x.c x.env true w.1 w.2.length) :
    (⟨s, none⟩ : Run).write x l = ⟨l.foldl (State.engWrite x) s, none⟩ := by
  have hcheck : ((writesOf l).foldl (Run.checkStep x) (⟨s, none⟩, [])).1 = ⟨s, none⟩ := by
    refine Run.foldl_checkStep (fun w hw => ?_) []
    obtain ⟨v, hv, hw⟩ := List.mem_flatMap.1 hw
    obtain ⟨p, hp, rfl⟩ := List.mem_map.1 hw
    exact State.pieceCheck_ok rfl (h v hv) hp
  have hfold : (writesOf l).foldl (fun s w => s.pieceWrite x w.1 w.2) s = l.foldl (State.engWrite x) s := by
    rw [writesOf, List.foldl_flatMap]
    refine List.foldl_ext _ _ s fun t w _ => ?_
    rw [List.foldl_map]
    rfl
  have hq (q : Run × List Bool) (hq : q.1 = ⟨s, none⟩) : Run.writeEnd x (writesOf l) q = ⟨l.foldl (State.engWrite x) s, none⟩ := by
    unfold Run.writeEnd
    rw [hq]
    exact congrArg (Run.mk · none) hfold
  exact hq _ hcheck

end

/-! ### Lists over an initial segment -/

theorem getD_map_range {α : Type} (n : Nat) (g : Nat → α) (d : α) {i : Nat} (hi : i < n) : ((List.range n).map g).getD i d = g i := by
  rw [List.getD_eq_getElem _ _ (by simpa using hi)]
  simp

theorem map_range_split {α : Type} (g : Nat → α) {i n : Nat} (hi : i < n) :
    (List.range n).map g = (List.range i).map g ++ g i :: (List.range (n - i - 1)).map (fun j => g (i + 1 + j)) := by
  obtain ⟨m, rfl⟩ := Nat.exists_eq_add_of_lt hi
  rw [show i + m + 1 = i + (1 + m) by omega, List.range_add, List.range_add, show i + (1 + m) - i - 1 = m by omega]
  simp [Function.comp_def, Nat.add_assoc]

/-! ### Entries that run to their end -/

section
variable {s : State} {c : CoreId} {op : EOp} {f : IFields} {a b d : Word} {env : DispEnv} (h : s.Runs c op f a b d env) {i : Instr}
  {body : State → Eng → IFields → Word → Word → Word → EOut} (he : exec i s = .next (s.runEntry c op body))
  {checks : List (Bool × Nat × Nat)} {rs ws : List (Nat × Nat)} {run : Run → EOut}
  (hb : body (s.started c op env) (engOf c op env) f a b d = (s.started c op env).guarded (engOf c op env) checks rs ws run)
  (hc : ∀ k ∈ checks, k.1 = true) (hr : ∀ r ∈ rs, (s.started c op env).MemOk c env false r.1 r.2)
  (hw : ∀ r ∈ ws, (s.started c op env).MemOk c env true r.1 r.2)
include h he hb hc hr hw

/-- An entry whose checks hold, whose ranges no rule refuses, and whose run ends without an error. -/
theorem next_runs {u : State} (hrun : run ⟨s.started c op env, none⟩ = .done u)
    (hq : (u.core c).queues = ((s.started c op env).core c).queues) : exec i s = .next (u.engineDone (engOf c op env) op) :=
  he.trans (congrArg Host.Outcome.next (State.runEntry_done h (hb.trans ((State.guarded_runs hc hr hw run).trans hrun)) (by rw [Core.queue, hq, Core.queue])))

/-- A load of a register. -/
theorem next_load {g : Core → Core} (hrun : run ⟨s.started c op env, none⟩ = .done ((s.started c op env).modCore c g))
    (hg : ∀ k, (g k).queues = k.queues) :
    exec i s = .next (((s.started c op env).modCore c g).engineDone (engOf c op env) op) :=
  next_runs h he hb hc hr hw hrun (by rw [State.core_modCore_same, hg])

/-- What the writes of an entry leave: only memory has changed, bytes that no write touches stay, and what no later write touches is as
written. -/
def State.Writes1 (s s1 u : State) (c : CoreId) (l : List (Nat × List Byte)) : Prop :=
  s1.Stored u ∧ (∀ y, (∀ w ∈ l, ∀ i, i < w.2.length → s.loc (some c) (w.1 + i) ≠ .mem y) → u.byte y = s.byte y) ∧
    ∀ l1 w l2, l = l1 ++ w :: l2 → ∀ i, i < w.2.length →
      (∀ w' ∈ l2, ∀ j, j < w'.2.length → s.loc (some c) (w'.1 + j) ≠ s.loc (some c) (w.1 + i)) → u.see c (w.1 + i) = w.2.getD i 0

end

section
variable {s : State} {c : CoreId} {op : EOp} {env : DispEnv}

/-- The writes of a started entry to plain ranges. -/
theorem State.started_writes {l : List (Nat × List Byte)} (h : ∀ w ∈ l, (s.started c op env).MemOk c env true w.1 w.2.length) :
    s.Writes1 (s.started c op env) (l.foldl (State.engWrite (engOf c op env)) (s.started c op env)) c l := by
  have hcr := s.credited_started c op env
  obtain ⟨hst, hkeep, hlast⟩ := State.foldl_engWrite (x := engOf c op env) h (State.Stored.refl _)
  refine ⟨hst, fun y hy => ?_, fun l1 w l2 hl i hi hlater => ?_⟩
  · rw [hkeep y fun w hw i hi => by rw [hcr.loc]; exact hy w hw i hi, hcr.byte]
  · exact hlast l1 w l2 hl i hi fun w' hw' j hj => by rw [hcr.loc, hcr.loc]; exact hlater w' hw' j hj

/-- One write: its bytes stand where it went. -/
theorem State.Writes1.single {s1 u : State} {a : Nat} {data : List Byte} (h : s.Writes1 s1 u c [(a, data)]) :
    s1.Stored u ∧ (∀ y, (∀ i, i < data.length → s.loc (some c) (a + i) ≠ .mem y) → u.byte y = s.byte y) ∧
      ∀ i, i < data.length → u.see c (a + i) = data.getD i 0 := by
  obtain ⟨hst, hkeep, hlast⟩ := h
  refine ⟨hst, fun y hy => hkeep y fun w hw => ?_, fun i hi => hlast [] (a, data) [] rfl i hi fun w' hw' => absurd hw' (by simp)⟩
  obtain rfl := List.mem_singleton.1 hw
  exact hy

/-- The number that a core sees where bytes have been written. -/
theorem State.seen_of_see {u : State} {a : Nat} {data : List Byte} (h : ∀ i, i < data.length → u.see c (a + i) = data.getD i 0) :
    u.seen c a data.length = leNat data := by
  refine congrArg leNat (List.ext_getElem (by simp) fun i h1 h2 => ?_)
  rw [List.getElem_map, List.getElem_range, h i h2, List.getD_eq_getElem _ _ h2]

/-- Several writes of one length: a write that no later one touches stands. -/
theorem State.Writes1.range {s1 u : State} {cnt n : Nat} {at_ : Nat → Nat} {data : Nat → List Byte}
    (h : s.Writes1 s1 u c ((List.range cnt).map (fun i => (at_ i, data i)))) (hlen : ∀ i, i < cnt → (data i).length = n) :
    (∀ y, (∀ i j, i < cnt → j < n → s.loc (some c) (at_ i + j) ≠ .mem y) → u.byte y = s.byte y) ∧
      ∀ i, i < cnt → (∀ i' j' j, i < i' → i' < cnt → j' < n → j < n → s.loc (some c) (at_ i' + j') ≠ s.loc (some c) (at_ i + j)) →
        u.seen c (at_ i) n = leNat (data i) := by
  obtain ⟨-, hkeep, hlast⟩ := h
  refine ⟨fun y hy => hkeep y fun w hw j hj => ?_, fun i hi hlater => ?_⟩
  · obtain ⟨i, hi, rfl⟩ := List.mem_map.1 hw
    have hi' := List.mem_range.1 hi
    exact hy i j hi' (hlen i hi' ▸ hj)
  · have hsplit := map_range_split (fun i => (at_ i, data i)) hi
    have hsee : ∀ k, k < (data i).length → u.see c (at_ i + k) = (data i).getD k 0 := fun k hk => hlast _ _ _ hsplit k hk fun w' hw' j hj => by
      obtain ⟨m, hm, rfl⟩ := List.mem_map.1 hw'
      have hlt : i + 1 + m < cnt := by have := List.mem_range.1 hm; omega
      exact hlater _ j k (by omega) hlt (hlen _ hlt ▸ hj) (hlen i hi ▸ hk)
    have hseen := State.seen_of_see hsee
    rwa [hlen i hi] at hseen

/-- Writing one range. -/
theorem next_store {f : IFields} {a b d : Word} (h : s.Runs c op f a b d env) {i : Instr} {body : State → Eng → IFields → Word → Word → Word → EOut}
    (he : exec i s = .next (s.runEntry c op body)) {checks : List (Bool × Nat × Nat)} {rs ws : List (Nat × Nat)} {run : Run → EOut}
    (hb : body (s.started c op env) (engOf c op env) f a b d = (s.started c op env).guarded (engOf c op env) checks rs ws run)
    (hc : ∀ k ∈ checks, k.1 = true) (hr : ∀ r ∈ rs, (s.started c op env).MemOk c env false r.1 r.2)
    (hw : ∀ r ∈ ws, (s.started c op env).MemOk c env true r.1 r.2) {at_ : Nat} {data : List Byte}
    (hm : (s.started c op env).MemOk c env true at_ data.length)
    (hrun : run ⟨s.started c op env, none⟩ = ((⟨s.started c op env, none⟩ : Run).write (engOf c op env) [(at_, data)]).out) :
    ∃ u, exec i s = .next (u.engineDone (engOf c op env) op) ∧ (s.started c op env).Stored u ∧
      (∀ y, (∀ i, i < data.length → s.loc (some c) (at_ + i) ≠ .mem y) → u.byte y = s.byte y) ∧
      ∀ i, i < data.length → u.see c (at_ + i) = data.getD i 0 := by
  have hall : ∀ w ∈ [(at_, data)], (s.started c op env).MemOk c env true w.1 w.2.length := fun w hw => by
    obtain rfl := List.mem_singleton.1 hw
    exact hm
  have hsingle := (State.started_writes hall).single
  refine ⟨_, next_runs h he hb hc hr hw (hrun.trans ?_) ?_, hsingle⟩
  · rw [Run.write_ok hall]
    rfl
  · rw [hsingle.1.core]

end

/-! ### Registers written by a run -/

theorem Run.reg_ok (s : State) (n old new : Nat) : (⟨s, none⟩ : Run).reg n old new = (⟨s, none⟩, new) := if_pos rfl

theorem Core.setTReg_eq (k : Core) (r v : Nat) : ∃ t, k.setTReg r v = { k with t := t } := by
  unfold Core.setTReg
  generalize List.range 16 = l
  induction l generalizing k with
  | nil => exact ⟨_, rfl⟩
  | cons i l ih =>
    obtain ⟨t, ht⟩ := ih (k.setTWord r i (v / 2 ^ (32 * i)))
    exact ⟨t, ht⟩

theorem leNat_leBytes_of_lt {n x : Nat} (h : x < 256 ^ n) : leNat (leBytes n x) = x := by rw [leNat_leBytes, Nat.mod_eq_of_lt h]

theorem elemAt_mod_pow {w n i : Nat} (x : Nat) (hi : i < n) : elemAt w (x % 2 ^ (w * n)) i = elemAt w x i := by
  unfold elemAt
  have hle : w * n = w * i + (w + w * (n - i - 1)) := by
    obtain ⟨k, rfl⟩ := Nat.exists_eq_add_of_lt hi
    rw [show i + k + 1 - i - 1 = k by omega]
    ring
  rw [hle, Nat.pow_add, Nat.mod_mul_right_div_self, Nat.pow_add, Nat.mod_mul_right_mod]

/-- The elements of packed bytes. -/
theorem unpack_eq (w n : Nat) (l : List Byte) : unpack w n l = (List.range n).map (elemAt w (leNat l)) := rfl

/-! ### Loads, stores and copies of the engines (R301, R310, R316, R323) -/

/-- A run that reads a range into a register. -/
theorem Run.load_ok {s : State} {x : Eng} {a n : Nat} (h : s.MemOk x.c x.env false a n) (m old : Nat) (val : List Byte → Nat) (set : Core → Nat → Core) :
    (let q := (⟨s, none⟩ : Run).read x a n
     let w := q.1.reg m old (val q.2)
     ({ w.1 with s := w.1.s.modCore x.c (fun k => set k w.2) } : Run).out) = .done (s.modCore x.c (fun k => set k (val (s.seenBytes x.c a n)))) := by
  rw [Run.read_ok h]
  rfl

/-- M61 inputs in range are read without an error, 2^61 − 1 as 0 (R271). -/
theorem Run.m61_ok (r : Run) (base stride : Nat) {l : List Nat} (h : ∀ v ∈ l, v < 2 ^ 61) :
    r.m61 base stride l = (r, l.map (fun v => if v = p61 then 0 else v)) := by
  unfold Run.m61
  have hfold (k : Nat) (acc : List Nat) : (l.zipIdx k).foldl (fun (g : Run × List Nat) (v : Nat × Nat) =>
      match m61In v.1 with
      | some y => (g.1, g.2 ++ [y])
      | none =>
        let q := g.1.s.draw
        (({ g.1 with s := q.2 } : Run).fail exRANGE (base + v.2 * stride), g.2 ++ [q.1 % p61])) (r, acc) =
      (r, acc ++ l.map (fun v => if v = p61 then 0 else v)) := by
    induction l generalizing k acc with
    | nil => simp
    | cons v l ih =>
      rw [List.zipIdx_cons, List.foldl_cons, show m61In v = some (if v = p61 then 0 else v) from if_pos (h v (List.mem_cons_self ..)),
        ih fun u hu => h u (List.mem_cons_of_mem _ hu)]
      simp
  exact hfold 0 []

/-- MLD's value of each lane. -/
theorem Run.mld_ok {s : State} {x : Eng} {p : Nat} (h : s.MemOk x.c x.env false p 256) (hv : ∀ i, i < 32 → elemAt 64 (s.seen x.c p 256) i < 2 ^ 61) (dst : Nat) :
    (let q := (⟨s, none⟩ : Run).read x p 256
     let v := q.1.m61 p 8 (unpack 64 32 q.2)
     v.1.loadM x dst v.2) = .done (s.modCore x.c (fun k => k.setM dst (mPack ((List.range 32).map (fun i =>
        if elemAt 64 (s.seen x.c p 256) i = p61 then 0 else elemAt 64 (s.seen x.c p 256) i))))) := by
  rw [Run.read_ok h]
  dsimp only
  rw [Run.m61_ok, unpack_eq, List.map_map]
  · rfl
  · intro v hm
    rw [unpack_eq] at hm
    obtain ⟨i, hi, rfl⟩ := List.mem_map.1 hm
    exact hv i (List.mem_range.1 hi)

/-- The lanes of a register written from 32 numbers below 2^64. -/
theorem elemAt_mPack (g : Nat → Nat) {i : Nat} (hi : i < 32) (hg : g i < 2 ^ 64) : elemAt 64 (mPack ((List.range 32).map g)) i = g i := by
  rw [mPack, elemAt_packElems, getD_map_range _ _ _ hi, Nat.mod_eq_of_lt hg]

theorem resInt_lt (z : Int) : resInt z < 2 ^ 64 := by
  unfold resInt p61
  omega

theorem resInt_cast (z : Int) : (resInt z : Int) = z % (2 ^ 61 - 1) := by
  unfold resInt p61
  omega

/-- The format, element size and row of MLDX, by mod[2:0]. -/
def mldxBits (n : Nat) : Nat := match n with
  | 0 => 8
  | 1 => 8
  | 2 => 16
  | 3 => 32
  | _ => 4

theorem mldx_format {n : Nat} (h : n < 5) : ∃ fmt, mldxFmt n = some fmt ∧ fmtBits fmt = mldxBits n ∧ (fmt = 4 ↔ n = 1) ∧
    rowBytes fmt 1 = (mldxBits n + 7) / 8 ∧ rowBytes fmt 32 = 4 * mldxBits n := by
  interval_cases n
  · exact ⟨1, rfl, rfl, by decide, rfl, rfl⟩
  · exact ⟨4, rfl, rfl, by decide, rfl, rfl⟩
  · exact ⟨2, rfl, rfl, by decide, rfl, rfl⟩
  · exact ⟨3, rfl, rfl, by decide, rfl, rfl⟩
  · exact ⟨0, rfl, rfl, by decide, rfl, rfl⟩

theorem toNat_lt_256 {n : Nat} (x : BitVec (8 * n)) : x.toNat < 256 ^ n := x.isLt.trans_eq (pow_mul 2 8 n)

theorem vReg_lt (k : Core) (r : Nat) : k.vReg r < 256 ^ 256 := toNat_lt_256 (n := 256) _
theorem mReg_lt (k : Core) (r : Nat) : k.mReg r < 256 ^ 256 := toNat_lt_256 (n := 256) _

theorem Core.queues_setV (k : Core) (r v : Nat) : (k.setV r v).queues = k.queues := rfl
theorem Core.queues_setM (k : Core) (r v : Nat) : (k.setM r v).queues = k.queues := rfl
theorem Core.queues_setC (k : Core) (r : Nat) (v : CmpReg) : (k.setC r v).queues = k.queues := rfl
theorem Core.queues_setTReg (k : Core) (r v : Nat) : (k.setTReg r v).queues = k.queues := by
  obtain ⟨t, ht⟩ := k.setTReg_eq r v
  rw [ht]

section
variable {s : State} {c : CoreId} {f : IFields} {a b d : Word} {env : DispEnv}

theorem next_tdld (h : s.Runs c .tdld f a b d env) (hd : f.dst.toNat < 16) (ha : a.toNat % 64 = 0)
    (hm : (s.started c .tdld env).MemOk c env false a.toNat 64) : exec (.tdld c) s =
      .next (((s.started c .tdld env).modCore c (fun q => q.setTReg f.dst.toNat ((s.started c .tdld env).seen c a.toNat 64))).engineDone (engOf c .tdld env) .tdld) :=
  next_load (op := .tdld) h rfl rfl (checks_two (decide_eq_true hd) (beq_iff_eq.2 ha)) (List.forall_mem_singleton.2 hm) (List.forall_mem_nil _)
    (Run.load_ok (x := engOf c .tdld env) hm 64 _ leNat fun k v => k.setTReg f.dst.toNat v) fun k => k.queues_setTReg _ _

theorem next_vld (h : s.Runs c .vld f a b d env) (ha : extAddr f a % 64 = 0)
    (hm : (s.started c .vld env).MemOk c env false (extAddr f a) 256) : exec (.vld c) s =
      .next (((s.started c .vld env).modCore c (fun q => q.setV f.dst.toNat ((s.started c .vld env).seen c (extAddr f a) 256))).engineDone (engOf c .vld env) .vld) :=
  next_load (op := .vld) h rfl rfl (checks_one (beq_iff_eq.2 ha)) (List.forall_mem_singleton.2 hm) (List.forall_mem_nil _)
    (Run.load_ok (x := engOf c .vld env) hm 256 _ leNat fun k v => k.setV f.dst.toNat v) fun k => k.queues_setV _ _

theorem next_mld (h : s.Runs c .mld f a b d env) (hd : f.dst.toNat < 16) (ha : extAddr f a % 64 = 0)
    (hm : (s.started c .mld env).MemOk c env false (extAddr f a) 256)
    (hv : ∀ i, i < 32 → elemAt 64 ((s.started c .mld env).seen c (extAddr f a) 256) i < 2 ^ 61) :
    ∃ r, exec (.mld c) s = .next (((s.started c .mld env).modCore c (fun q => q.setM f.dst.toNat r)).engineDone (engOf c .mld env) .mld) ∧
      ∀ i, i < 32 → elemAt 64 r i = if elemAt 64 ((s.started c .mld env).seen c (extAddr f a) 256) i = 2 ^ 61 - 1 then 0
        else elemAt 64 ((s.started c .mld env).seen c (extAddr f a) 256) i := by
  refine ⟨_, next_load (op := .mld) h rfl rfl (checks_two (decide_eq_true hd) (beq_iff_eq.2 ha)) (List.forall_mem_singleton.2 hm)
    (List.forall_mem_nil _) (Run.mld_ok (x := engOf c .mld env) hm hv _) fun k => k.queues_setM _ _, fun i hi => elemAt_mPack _ hi ?_⟩
  have := hv i hi
  split_ifs <;> omega

theorem next_mldx (h : s.Runs c .mldx f a b d env) (hd : f.dst.toNat < 16) (hl : f.low3 < 5) (ha : a.toNat % ((mldxBits f.low3 + 7) / 8) = 0)
    (hm : (s.started c .mldx env).MemOk c env false a.toNat (4 * mldxBits f.low3)) :
    ∃ r, exec (.mldx c) s = .next (((s.started c .mldx env).modCore c (fun q => q.setM f.dst.toNat r)).engineDone (engOf c .mldx env) .mldx) ∧
      ∀ i, i < 32 → (elemAt 64 r i : Int) = (if f.low3 ≠ 1 ∧ 2 ^ (mldxBits f.low3 - 1) ≤
          elemAt (mldxBits f.low3) ((s.started c .mldx env).seen c a.toNat (4 * mldxBits f.low3)) i
        then (elemAt (mldxBits f.low3) ((s.started c .mldx env).seen c a.toNat (4 * mldxBits f.low3)) i : Int) - 2 ^ mldxBits f.low3
        else (elemAt (mldxBits f.low3) ((s.started c .mldx env).seen c a.toNat (4 * mldxBits f.low3)) i : Int)) % (2 ^ 61 - 1) := by
  obtain ⟨fmt, hfmt, hbits, hU8, hsize, hrow⟩ := mldx_format hl
  have hsel : (mldxFmt f.low3).getD 1 = fmt := by rw [hfmt]; rfl
  rw [← hbits] at ha hm ⊢
  rw [hbits, ← hsize] at ha
  rw [hbits, ← hrow] at hm
  refine ⟨mPack ((List.range 32).map fun i => resInt (intOf fmt (elemAt (fmtBits fmt) ((s.started c .mldx env).seen c a.toNat (4 * fmtBits fmt)) i))),
    next_load (op := .mldx) h rfl (checks := [(decide (f.dst.toNat < 16), exOPERAND, 0), ((mldxFmt f.low3).isSome, exFORMAT, 0),
        (a.toNat % rowBytes fmt 1 == 0, exALIGN, a.toNat)]) (rs := [(a.toNat, rowBytes fmt 32)]) ?_ ?_ (List.forall_mem_singleton.2 hm)
      (List.forall_mem_nil _) (run := fun run =>
        let q := run.read (engOf c .mldx env) a.toNat (rowBytes fmt 32)
        q.1.loadM (engOf c .mldx env) f.dst.toNat ((unpack (fmtBits fmt) 32 q.2).map (fun v => resInt (intOf fmt v)))) ?_ (fun k => k.queues_setM _ _),
    fun i hi => ?_⟩
  · rw [← hsel]
  · rw [hfmt]
    exact List.forall_mem_cons.2 ⟨decide_eq_true hd, checks_two rfl (beq_iff_eq.2 ha)⟩
  · dsimp only
    rw [Run.read_ok (x := engOf c .mldx env) hm, unpack_eq, List.map_map, hrow, ← hbits]
    rfl
  · rw [elemAt_mPack _ hi (resInt_lt _), resInt_cast, intOf_eq (elemAt_lt ..)]
    simp only [ne_eq, hU8]

end

/-- A store of the low bytes of a number to a plain range. -/
theorem next_storeNat {s : State} {c : CoreId} {op : EOp} {f : IFields} {a b d : Word} {env : DispEnv} (h : s.Runs c op f a b d env) {i : Instr}
    {body : State → Eng → IFields → Word → Word → Word → EOut} (he : exec i s = .next (s.runEntry c op body)) {checks : List (Bool × Nat × Nat)}
    {p n v : Nat} (hb : body (s.started c op env) (engOf c op env) f a b d = (s.started c op env).guarded (engOf c op env) checks [] [(p, n)]
      (fun run => (run.write (engOf c op env) [(p, leBytes n v)]).out)) (hc : ∀ k ∈ checks, k.1 = true)
    (hm : (s.started c op env).MemOk c env true p n) :
    ∃ u : State, exec i s = .next (u.engineDone (engOf c op env) op) ∧ u.cores = (s.started c op env).cores ∧ u.regs = (s.started c op env).regs ∧
      (∀ y, (∀ i, i < n → s.loc (some c) (p + i) ≠ .mem y) → u.byte y = s.byte y) ∧ u.seen c p n = v % 256 ^ n := by
  have hlen : (leBytes n v).length = n := by simp
  obtain ⟨u, hu, hst, hkeep, hsee⟩ := next_store h he hb hc (List.forall_mem_nil _) (List.forall_mem_singleton.2 hm)
    (data := leBytes n v) (by rw [hlen]; exact hm) rfl
  have hseen := State.seen_of_see hsee
  rw [hlen] at hkeep hseen
  exact ⟨u, hu, hst.cores, hst.regs, hkeep, by rw [hseen, leNat_leBytes]⟩

section
variable {s : State} {c : CoreId} {f : IFields} {a b d : Word} {env : DispEnv}

/-- What an entry that stores leaves: the cores and the registers of `s2`, what `P` says of the range, and every other byte. -/
def State.Stores (s s2 : State) (c : CoreId) (env : DispEnv) (op : EOp) (i : Instr) (at_ n : Nat) (P : State → Prop) : Prop := ∃ u : State,
  exec i s = .next (u.engineDone ⟨c, unitOf op, env⟩ op) ∧ u.cores = s2.cores ∧ u.regs = s2.regs ∧
  (∀ y, (∀ i, i < n → s.loc (some c) (at_ + i) ≠ .mem y) → u.byte y = s.byte y) ∧ P u

theorem next_tdst (h : s.Runs c .tdst f a b d env) (hd : f.dst.toNat < 16) (ha : a.toNat % 64 = 0)
    (hm : (s.started c .tdst env).MemOk c env true a.toNat 64) : s.Stores (s.started c .tdst env) c env .tdst (.tdst c) a.toNat 64
      (fun u => u.seen c a.toNat 64 = ((s.started c .tdst env).core c).tReg f.dst.toNat % 2 ^ 512) := by
  rw [show 512 = 8 * 64 from rfl, pow_mul]
  exact next_storeNat (op := .tdst) h rfl rfl (checks_two (decide_eq_true hd) (beq_iff_eq.2 ha)) hm

theorem next_vst (h : s.Runs c .vst f a b d env) (ha : extAddr f a % 64 = 0)
    (hm : (s.started c .vst env).MemOk c env true (extAddr f a) 256) : s.Stores (s.started c .vst env) c env .vst (.vst c) (extAddr f a) 256
      (fun u => u.seen c (extAddr f a) 256 = ((s.started c .vst env).core c).vReg f.dst.toNat) := by
  obtain ⟨u, hu, hcores, hregs, hkeep, hseen⟩ := next_storeNat (op := .vst) (i := .vst c) (v := ((s.started c .vst env).core c).vReg f.dst.toNat) h rfl rfl (checks_one (beq_iff_eq.2 ha)) hm
  exact ⟨u, hu, hcores, hregs, hkeep, hseen.trans (Nat.mod_eq_of_lt (vReg_lt _ _))⟩

theorem next_mst (h : s.Runs c .mst f a b d env) (hd : f.dst.toNat < 16) (ha : extAddr f a % 64 = 0)
    (hm : (s.started c .mst env).MemOk c env true (extAddr f a) 256) : s.Stores (s.started c .mst env) c env .mst (.mst c) (extAddr f a) 256
      (fun u => u.seen c (extAddr f a) 256 = ((s.started c .mst env).core c).mReg f.dst.toNat) := by
  obtain ⟨u, hu, hcores, hregs, hkeep, hseen⟩ :=
    next_storeNat (op := .mst) (i := .mst c) (v := ((s.started c .mst env).core c).mReg f.dst.toNat) h rfl rfl (checks_two (decide_eq_true hd) (beq_iff_eq.2 ha)) hm
  exact ⟨u, hu, hcores, hregs, hkeep, hseen.trans (Nat.mod_eq_of_lt (mReg_lt _ _))⟩

theorem State.see_congr {s t : State} (hr : t.regs = s.regs) (hb : ∀ y, t.byte y = s.byte y) (c : CoreId) (a : Nat) : t.see c a = s.see c a := by
  unfold State.see
  rw [State.loc_congr hr]
  split
  · exact hb _
  · rfl

theorem State.seen_congr {s t : State} (hr : t.regs = s.regs) (hb : ∀ y, t.byte y = s.byte y) (c : CoreId) (a n : Nat) : t.seen c a n = s.seen c a n :=
  congrArg leNat (List.map_congr_left fun _ _ => State.see_congr hr hb c _)

theorem State.seen_modCore (s : State) (n : Nat) (g : Core → Core) (c : CoreId) (a m : Nat) : (s.modCore n g).seen c a m = s.seen c a m :=
  State.seen_congr (State.modCore_regs ..) (State.byte_congr (State.modCore_mem ..) (State.modCore_memGen ..)) c a m

theorem State.Stored.modCore_cores {s t : State} (h : s.Stored t) (n : Nat) (g : Core → Core) : (t.modCore n g).cores = (s.modCore n g).cores := by
  obtain ⟨m, p, e, rfl⟩ := h.rest
  rfl

/-- The words of a stored result register: its fields, and 0 above them (R316). -/
theorem elemAt_cmpWords (r : CmpReg) {i : Nat} (hi : i < 8) :
    elemAt 32 (r.words % 256 ^ 32) i = [r.compared, r.mismatch, r.first, r.flags, r.maxAbs, r.maxUlp].getD i 0 % 2 ^ 32 := by
  rw [show (256 : Nat) ^ 32 = 2 ^ (32 * 8) from (pow_mul 2 8 32).symm, elemAt_mod_pow _ hi, CmpReg.words, elemAt_packElems]

theorem next_cst (h : s.Runs c .cst f a b d env) (hd : f.dst.toNat < 8) (ha : a.toNat % 32 = 0)
    (hm : (s.started c .cst env).MemOk c env true a.toNat 32) :
    let r := ((s.started c .cst env).core c).cReg f.dst.toNat
    s.Stores ((s.started c .cst env).modCore c (fun q => q.setC f.dst.toNat ⟨0, 0, 0xFFFFFFFF, 0, 0, 0, r.inj⟩)) c env .cst (.cst c) a.toNat 32
      (fun u => u.seen c a.toNat 32 = r.words % 256 ^ 32) := by
  intro r
  have hlen : (leBytes 32 r.words).length = 32 := leBytes_length 32 _
  have hall : ∀ w ∈ [(a.toNat, leBytes 32 r.words)], (s.started c .cst env).MemOk c env true w.1 w.2.length := by
    rw [List.forall_mem_singleton, hlen]
    exact hm
  obtain ⟨hst, hkeep, hsee⟩ := (State.started_writes hall).single
  have hseen := State.seen_of_see hsee
  rw [hlen] at hkeep hseen
  refine ⟨_, next_runs (op := .cst) h rfl rfl (checks_two (decide_eq_true hd) (beq_iff_eq.2 ha)) (List.forall_mem_nil _)
    (List.forall_mem_singleton.2 hm) (u := (List.foldl (State.engWrite (engOf c .cst env)) (s.started c .cst env) [(a.toNat, leBytes 32 r.words)]).modCore c
      (fun k => k.setC f.dst.toNat { CmpReg.empty with inj := r.inj })) ?_ ?_, hst.modCore_cores _ _, hst.regs, hkeep, ?_⟩
  · dsimp only
    rw [Run.write_ok (x := engOf c .cst env) hall]
    rfl
  · rw [State.core_modCore_same, Core.queues_setC, hst.core]
  · dsimp only
    rw [State.seen_modCore, hseen, leNat_leBytes]

theorem noOverlap_of_apart {a d n : Nat} (h : n = 0 ∨ a + n ≤ d ∨ d + n ≤ a) : (n == 0 || !overlap a n d n) = true := by
  rw [Bool.or_eq_true, beq_iff_eq, overlap, Bool.not_eq_true', Bool.and_eq_false_iff, decide_eq_false_iff_not, decide_eq_false_iff_not]
  omega

theorem next_mvcpy (h : s.Runs c .mvcpy f a b d env) (hr : (s.started c .mvcpy env).MemOk c env false a.toNat b.toNat)
    (hw : (s.started c .mvcpy env).MemOk c env true d.toNat b.toNat)
    (hapart : b.toNat = 0 ∨ a.toNat + b.toNat ≤ d.toNat ∨ d.toNat + b.toNat ≤ a.toNat) :
    s.Stores (s.started c .mvcpy env) c env .mvcpy (.mvcpy c) d.toNat b.toNat
      (fun u => u.seen c d.toNat b.toNat = (s.started c .mvcpy env).seen c a.toNat b.toNat) := by
  have hlen := (s.started c .mvcpy env).seenBytes_length c a.toNat b.toNat
  obtain ⟨u, hu, hst, hkeep, hsee⟩ := next_store (op := .mvcpy) (i := .mvcpy c) h rfl rfl (checks_one (noOverlap_of_apart hapart))
    (rs := [(a.toNat, b.toNat)]) (List.forall_mem_singleton.2 hr) (ws := [(d.toNat, b.toNat)]) (List.forall_mem_singleton.2 hw) (at_ := d.toNat) (data := (s.started c .mvcpy env).seenBytes c a.toNat b.toNat) (by rw [hlen]; exact hw)
    (by dsimp only; rw [Run.read_ok (x := engOf c .mvcpy env) hr])
  have hseen := State.seen_of_see hsee
  rw [hlen] at hkeep hseen
  exact ⟨u, hu, hst.cores, hst.regs, hkeep, hseen⟩

theorem next_mvfill (h : s.Runs c .mvfill f a b d env) (hw : (s.started c .mvfill env).MemOk c env true d.toNat b.toNat) :
    s.Stores (s.started c .mvfill env) c env .mvfill (.mvfill c) d.toNat b.toNat
      (fun u => ∀ i, i < b.toNat → u.see c (d.toNat + i) = BitVec.ofNat 8 (a.toNat / 256 ^ (i % 4))) := by
  have hlen : (fillBytes a.toNat b.toNat).length = b.toNat := by simp [fillBytes]
  obtain ⟨u, hu, hst, hkeep, hsee⟩ := next_store (op := .mvfill) (i := .mvfill c) h rfl rfl checks_none (List.forall_mem_nil _)
    (ws := [(d.toNat, b.toNat)]) (List.forall_mem_singleton.2 hw) (at_ := d.toNat) (data := fillBytes a.toNat b.toNat) (by rw [hlen]; exact hw) rfl
  rw [hlen] at hkeep hsee
  exact ⟨u, hu, hst.cores, hst.regs, hkeep, fun i hi => (hsee i hi).trans (getD_map_range _ _ _ hi)⟩


/-! ### Elements at addresses of their own (R301, R305) -/

/-- The number of bytes of an element of a format of whole bytes. -/
theorem byteFmt_size {fmt : Nat} (h : fmtBits fmt % 8 = 0) : 8 * (fmtBits fmt / 8) = fmtBits fmt ∧ 0 < fmtBits fmt / 8 ∧ fmtBits fmt / 8 ∣ 8 := by
  unfold fmtBits at h ⊢
  split at h <;> first | exact absurd h (by decide) | decide

theorem seen_lt (s : State) (c : CoreId) (a n : Nat) : s.seen c a n < 2 ^ (8 * n) := by
  rw [State.seen_eq, pow_mul]
  exact (leNat_lt _).trans_eq (by rw [State.seenBytes_length]; rfl)

/-- What is loaded from the addresses given, each of which the entry may read. -/
theorem State.loadLanes_ok {s : State} {x : Eng} {f : IFields} {fmt : Nat} (hfmt : (s.core x.c).vcfg.fmt = fmt) (h8 : fmtBits fmt % 8 = 0) {l : List Nat}
    (hm : ∀ p ∈ l, p % (fmtBits fmt / 8) = 0 ∧ s.MemOk x.c x.env false p (fmtBits fmt / 8)) :
    s.loadLanes x f l = .done (s.modCore x.c (fun k => k.setV f.dst.toNat (packElems (fmtBits fmt) (l.map (fun p => s.seen x.c p (fmtBits fmt / 8)))))) := by
  subst hfmt
  have hr : ∀ r ∈ l.map (fun p => (p, fmtBits (s.core x.c).vcfg.fmt / 8)), s.MemOk x.c x.env false r.1 r.2 := by
    intro r hr
    obtain ⟨p, hp, rfl⟩ := List.mem_map.1 hr
    exact (hm p hp).2
  unfold State.loadLanes
  dsimp only
  rw [State.guarded_runs (checks_two (show byteFmt _ = true from beq_iff_eq.2 h8) (List.all_eq_true.2 fun p hp => beq_iff_eq.2 (hm p hp).1)) hr (List.forall_mem_nil _),
    Run.reads_ok hr, List.map_map, List.map_map]
  rfl

/-- Elements loaded from addresses that an entry may read. -/
theorem next_loadLanes {op : EOp} (h : s.Runs c op f a b d env) {i : Instr} {body : State → Eng → IFields → Word → Word → Word → EOut}
    (he : exec i s = .next (s.runEntry c op body)) {cnt : Nat} {at_ : Nat → Nat}
    (hb : body (s.started c op env) (engOf c op env) f a b d = (s.started c op env).loadLanes (engOf c op env) f ((List.range cnt).map at_))
    (h8 : fmtBits (s.core c).vcfg.fmt % 8 = 0)
    (hm : ∀ i, i < cnt → at_ i % (fmtBits (s.core c).vcfg.fmt / 8) = 0 ∧
      (s.started c op env).MemOk c env false (at_ i) (fmtBits (s.core c).vcfg.fmt / 8)) :
    ∃ r, exec i s = .next (((s.started c op env).modCore c (fun q => q.setV f.dst.toNat r)).engineDone (engOf c op env) op) ∧
      (∀ i, i < cnt → elemAt (fmtBits (s.core c).vcfg.fmt) r i = (s.started c op env).seen c (at_ i) (fmtBits (s.core c).vcfg.fmt / 8)) ∧
      ∀ i, cnt ≤ i → elemAt (fmtBits (s.core c).vcfg.fmt) r i = 0 := by
  have hlanes := State.loadLanes_ok (x := engOf c op env) (f := f) (congrArg VecCfg.fmt (s.started_vcfg c op env)) h8 (l := (List.range cnt).map at_) fun p hp => by
    obtain ⟨i, hi, rfl⟩ := List.mem_map.1 hp
    exact hm i (List.mem_range.1 hi)
  rw [List.map_map] at hlanes
  refine ⟨_, he.trans (congrArg Host.Outcome.next (State.runEntry_done h (hb.trans hlanes) ?_)), fun i hi => ?_, fun i hi => ?_⟩
  · rw [State.core_modCore_same, Core.queue, Core.queues_setV]
    rfl
  · rw [elemAt_packElems, getD_map_range _ _ _ hi]
    refine Nat.mod_eq_of_lt ((seen_lt ..).trans_eq ?_)
    rw [(byteFmt_size h8).1]
  · exact elemAt_packLanes_above _ _ _ hi

/-- An address that leads to memory keeps its place within a block of eight bytes. -/
theorem State.loc_mem_mod {s : State} {c : Option Nat} {a x : Nat} (h : s.loc c a = .mem x) : x % 8 = a % 8 := by
  rcases State.loc_mem h with ⟨n, h0, h1, -, hx⟩ | ⟨h0, h1, hx⟩ | ⟨hx, -⟩
  · omega
  · unfold viewOff at hx
    omega
  · rw [hx]

/-- Two aligned elements of memory that meet are one. -/
theorem State.Placed.loc_eq {s : State} {c : CoreId} {cls : Nat} {w : Bool} {a a' n pa pa' i j : Nat} (h : s.Placed c cls w a n pa)
    (h' : s.Placed c cls w a' n pa') (hn : n ∣ 8) (ha : a % n = 0) (ha' : a' % n = 0) (hi : i < n) (hj : j < n)
    (hmeet : s.loc (some c) (a + i) = s.loc (some c) (a' + j)) : s.loc (some c) a = s.loc (some c) a' := by
  have hpos : 0 < n := Nat.zero_lt_of_lt hi
  have haligned {q pq : Nat} (hq : s.Placed c cls w q n pq) (hqn : q % n = 0) : pq % n = 0 := by
    rw [← Nat.mod_mod_of_dvd pq hn, State.loc_mem_mod (show s.loc (some c) q = .mem pq from (hq 0 hpos).1), Nat.mod_mod_of_dvd _ hn]
    exact hqn
  have hp := Nat.dvd_of_mod_eq_zero (haligned h ha)
  have hp' := Nat.dvd_of_mod_eq_zero (haligned h' ha')
  rw [(h i hi).1, (h' j hj).1] at hmeet
  have hsum : pa + i = pa' + j := Loc.mem.inj hmeet
  have heq : pa = pa' := by
    obtain ⟨u, rfl⟩ := hp
    obtain ⟨v, rfl⟩ := hp'
    have hu : (n * u + i) / n = u := by rw [Nat.mul_add_div hpos, Nat.div_eq_of_lt hi, Nat.add_zero]
    have hv : (n * v + j) / n = v := by rw [Nat.mul_add_div hpos, Nat.div_eq_of_lt hj, Nat.add_zero]
    rw [← hu, ← hv, hsum]
  have h0 := (h 0 hpos).1
  have h0' := (h' 0 hpos).1
  rw [Nat.add_zero] at h0 h0'
  rw [h0, h0', heq]

theorem zipIdx_map_range {α : Type} (n : Nat) (g : Nat → α) : ((List.range n).map g).zipIdx = (List.range n).map (fun i => (g i, i)) :=
  List.ext_getElem (by simp) fun i h1 h2 => by simp

theorem next_vscat (h : s.Runs c .vscat f a b d env) {cnt n : Nat} {at_ : Nat → Nat} (hcnt : min 64 (2048 / fmtBits (s.core c).vcfg.fmt) = cnt)
    (hn : fmtBits (s.core c).vcfg.fmt / 8 = n) (h8 : fmtBits (s.core c).vcfg.fmt % 8 = 0)
    (hat : ∀ i, at_ i = (a + BitVec.ofNat 64 (elemAt 32 (((s.started c .vscat env).core c).vReg f.srcB.toNat) i)).toNat)
    (hm : ∀ i, i < cnt → at_ i % n = 0 ∧ (s.started c .vscat env).MemOk c env true (at_ i) n) :
    ∃ u : State, exec (.vscat c) s = .next (u.engineDone (engOf c .vscat env) .vscat) ∧ u.cores = (s.started c .vscat env).cores ∧
      u.regs = (s.started c .vscat env).regs ∧
      (∀ i, i < cnt → (∀ j, i < j → j < cnt → s.loc (some c) (at_ j) ≠ s.loc (some c) (at_ i)) →
        u.seen c (at_ i) n = elemAt (fmtBits (s.core c).vcfg.fmt) (((s.started c .vscat env).core c).vReg f.dst.toNat) i) ∧
      ∀ y, (∀ i j, i < cnt → j < n → s.loc (some c) (at_ i + j) ≠ .mem y) → u.byte y = s.byte y := by
  obtain ⟨hsize, -, hdvd⟩ := byteFmt_size h8
  rw [hn] at hsize hdvd
  generalize hl : (List.range cnt).map (fun i => (at_ i, leBytes n (elemAt (fmtBits (s.core c).vcfg.fmt) (((s.started c .vscat env).core c).vReg f.dst.toNat) i))) = l
  have hmem {w : Nat × List Byte} (hw : w ∈ l) : ∃ i, i < cnt ∧ w.1 = at_ i ∧ w.2.length = n := by
    rw [← hl] at hw
    obtain ⟨i, hi, rfl⟩ := List.mem_map.1 hw
    exact ⟨i, List.mem_range.1 hi, rfl, leBytes_length ..⟩
  have hall : ∀ w ∈ l, (s.started c .vscat env).MemOk c env true w.1 w.2.length := by
    intro w hw
    obtain ⟨i, hi, h1, h2⟩ := hmem hw
    rw [h1, h2]
    exact (hm i hi).2
  have hwrites := State.started_writes hall
  have hst := hwrites.1
  rw [← hl] at hwrites
  obtain ⟨hkeep, hlast⟩ := hwrites.range fun i _ => leBytes_length ..
  rw [hl] at hkeep hlast
  have haddrs : (s.started c .vscat env).laneAddrs c f a = (List.range cnt).map at_ := by
    unfold State.laneAddrs
    rw [s.started_vcfg, hcnt]
    exact List.map_congr_left fun i _ => (hat i).symm
  have hbody : (s.started c .vscat env).guarded (engOf c .vscat env) [(byteFmt (s.core c).vcfg.fmt, exFORMAT, 0),
      (((List.range cnt).map at_).all (fun p => p % n == 0), exALIGN, 0)] [] (((List.range cnt).map at_).map (fun p => (p, n)))
      (fun run => (run.write (engOf c .vscat env) l).out) = .done (l.foldl (State.engWrite (engOf c .vscat env)) (s.started c .vscat env)) := by
    rw [State.guarded_runs (checks_two (show byteFmt _ = true from beq_iff_eq.2 h8) (List.all_eq_true.2 fun p hp => ?_)) (List.forall_mem_nil _) fun r hr => ?_,
      Run.write_ok (x := engOf c .vscat env) hall]
    · rfl
    · obtain ⟨i, hi, rfl⟩ := List.mem_map.1 hp
      exact beq_iff_eq.2 (hm i (List.mem_range.1 hi)).1
    · obtain ⟨p, hp, rfl⟩ := List.mem_map.1 hr
      obtain ⟨i, hi, rfl⟩ := List.mem_map.1 hp
      exact (hm i (List.mem_range.1 hi)).2
  refine ⟨_, congrArg Host.Outcome.next (State.runEntry_done h (Eq.trans ?_ hbody) (by rw [Core.queue, hst.core]; rfl)), hst.cores, hst.regs,
    fun i hi hlater => ?_, fun y hy => ?_⟩
  · dsimp only
    rw [haddrs, s.started_vcfg, zipIdx_map_range, ← hl, hn]
    simp only [List.map_map]
    rfl
  · refine (hlast i hi fun i' j' j hlt hi' hj' hj hmeet => ?_).trans ?_
    · obtain ⟨pj, hpj⟩ := (hm _ hi').2.placed
      obtain ⟨pi, hpi⟩ := (hm i hi).2.placed
      have hcr := s.credited_started c .vscat env
      rw [← hcr.loc, ← hcr.loc] at hmeet
      have heq := hpj.loc_eq hpi hdvd (hm _ hi').1 (hm i hi).1 hj' hj hmeet
      rw [hcr.loc, hcr.loc] at heq
      exact hlater _ hlt hi' heq
    · rw [leNat_leBytes, Nat.mod_eq_of_lt ((elemAt_lt ..).trans_eq (by rw [← hsize, pow_mul]; rfl))]
  · exact hkeep y hy

end

/-- Settles O26: one lemma per entry, over the reads and writes of ranges that no rule refuses. -/
theorem engineLoadsAndGathers : Obligations.EngineLoadsAndGathers := by
  constructor
  · intro c f a b d env s s1 k p load stores ok
    refine ⟨fun hd ha => ⟨fun h => next_tdld h.1 hd ha h.2, fun h => next_tdst h.1 hd ha h.2⟩,
      fun hp => ⟨fun h => next_vld h.1 hp h.2, fun h => next_vst h.1 hp h.2, fun hd => ⟨fun h => next_mld h.1 hd hp h.2, fun h => next_mst h.1 hd hp h.2⟩⟩,
      fun hd hl => ?_, fun hd ha h => ?_, fun hr hw hapart => next_mvcpy hr.1 hr.2 hw.2 hapart, fun hw => next_mvfill hw.1 hw.2⟩
    · intro w ha h
      exact next_mldx h.1 hd hl ha h.2
    · intro r
      obtain ⟨u, hu, hcores, hregs, hkeep, hseen⟩ := next_cst h.1 hd ha h.2
      refine ⟨u, hu, hcores, hregs, hkeep, ?_⟩
      dsimp only at hseen ⊢
      rw [hseen]
      exact ⟨elemAt_cmpWords r (by decide), elemAt_cmpWords r (by decide), elemAt_cmpWords r (by decide), elemAt_cmpWords r (by decide),
        elemAt_cmpWords r (by decide), elemAt_cmpWords r (by decide), elemAt_cmpWords r (by decide), elemAt_cmpWords r (by decide)⟩
  · intro c f a b d env s s1 k w n strided lane gets h8
    refine ⟨fun h hm => ?_, fun h hm => ?_, fun h hm => next_vscat h rfl rfl h8 (fun _ => rfl) hm⟩
    · obtain ⟨r, hr, hlow, hhigh⟩ := next_loadLanes (i := .vlds c) (at_ := strided) h rfl (by rw [s.started_vcfg]) h8 hm
      exact ⟨r, hr, hlow, fun i hi _ => hhigh i hi⟩
    · obtain ⟨r, hr, hlow, hhigh⟩ := next_loadLanes (i := .vgath c) (at_ := lane .vgath) h rfl
        (by unfold State.laneAddrs; rw [s.started_vcfg]) h8 hm
      exact ⟨r, hr, hlow, fun i hi _ => hhigh i hi⟩

end Sys2Proof.Machine
end

section
-- One proof after another: what waits for another costs the check memory.
set_option Elab.async false
/-! SUPPORT. O27–O30: the Compare engine, the Mover, the Tensor and the Residue engine. -/
namespace Sys2Proof.Machine

/-! ### Bytes and elements (R270) -/

theorem leNat_append (l m : List Byte) : leNat (l ++ m) = leNat l + 256 ^ l.length * leNat m := by
  induction l with
  | nil => simp [leNat]
  | cons b l ih =>
    rw [List.cons_append, leNat, leNat, ih, List.length_cons, Nat.pow_succ]
    ring

/-- The number of the first bytes. -/
theorem leNat_take {l : List Byte} {n : Nat} (hn : n ≤ l.length) : leNat (l.take n) = leNat l % 256 ^ n := by
  have hlen : (l.take n).length = n := List.length_take_of_le hn
  have hlt := leNat_lt (l.take n)
  rw [hlen] at hlt
  conv_rhs => rw [← List.take_append_drop n l, leNat_append, hlen, Nat.add_mul_mod_self_left, Nat.mod_eq_of_lt hlt]

/-- An element that lies within the low bits. -/
theorem elemAt_mod_of_le {w m i : Nat} (x : Nat) (h : w * i + w ≤ m) : elemAt w (x % 2 ^ m) i = elemAt w x i := by
  obtain ⟨k, rfl⟩ := Nat.exists_eq_add_of_le h
  unfold elemAt
  rw [show w * i + w + k = w * i + (w + k) by omega, Nat.pow_add, Nat.mod_mul_right_div_self, Nat.pow_add, Nat.mod_mul_right_mod]

/-- An element of a row lies within its bytes. -/
theorem elem_in_row (fmt : Nat) {n i : Nat} (hi : i < n) : fmtBits fmt * i + fmtBits fmt ≤ 8 * rowBytes fmt n := by
  have hmul : fmtBits fmt * (i + 1) ≤ n * fmtBits fmt := (Nat.mul_le_mul_left _ hi).trans_eq (Nat.mul_comm ..)
  rw [Nat.mul_succ] at hmul
  unfold rowBytes
  omega

theorem elemAt_row (fmt : Nat) {n i : Nat} {l : List Byte} (hl : rowBytes fmt n ≤ l.length) (hi : i < n) :
    elemAt (fmtBits fmt) (leNat (l.take (rowBytes fmt n))) i = elemAt (fmtBits fmt) (leNat l) i := by
  rw [leNat_take hl, show (256 : Nat) ^ rowBytes fmt n = 2 ^ (8 * rowBytes fmt n) from (pow_mul 2 8 _).symm, elemAt_mod_of_le _ (elem_in_row fmt hi)]

/-! ### The Compare engine (R314–R318) -/

/-- What comparing pairs of elements leaves in a result register (R316): each entry its index and the two elements. -/
def CmpReg.Counts (o : CmpReg) (l : List (Nat × Nat × Nat)) (r : CmpReg) : Prop :=
  let bad := l.filter (fun e => e.2.1 != e.2.2)
  r.compared = min (o.compared + l.length) 0xFFFFFFFF ∧ r.mismatch = min (o.mismatch + bad.length) 0xFFFFFFFF ∧
  r.first = (if o.first = 0xFFFFFFFF then ((bad.head?).map (·.1)).getD 0xFFFFFFFF else o.first) ∧
  (bit r.flags 0 = (bit o.flags 0 || !bad.isEmpty)) ∧ r.inj = none

/-- The same after `found` says whether the instruction has found a mismatch before. -/
def CmpReg.CountsFrom (o : CmpReg) (found : Bool) (l : List (Nat × Nat × Nat)) (r : CmpReg) : Prop :=
  let bad := l.filter (fun e => e.2.1 != e.2.2)
  r.compared = min (o.compared + l.length) 0xFFFFFFFF ∧ r.mismatch = min (o.mismatch + bad.length) 0xFFFFFFFF ∧
  r.first = (if found = false ∧ o.first = 0xFFFFFFFF then ((bad.head?).map (·.1)).getD 0xFFFFFFFF else o.first) ∧
  (bit r.flags 0 = (bit o.flags 0 || !bad.isEmpty)) ∧ r.inj = o.inj

/-- One comparison that matches counts and keeps the rest of the record. -/
theorem CmpReg.note_ok (r : CmpReg) (i : Nat) (first : Bool) {k : Cmp1} (h : k.ok = true) :
    (r.note i first k).compared = min (r.compared + 1) 0xFFFFFFFF ∧ (r.note i first k).mismatch = r.mismatch ∧
    (r.note i first k).first = r.first ∧ bit (r.note i first k).flags 0 = bit r.flags 0 ∧ (r.note i first k).inj = r.inj := by
  unfold CmpReg.note
  dsimp only
  rw [if_pos h]
  refine ⟨rfl, rfl, rfl, ?_, rfl⟩
  dsimp only
  split_ifs
  · rw [bit_setBit]
    rfl
  · rfl

/-- One comparison that does not match counts, is marked, and is the first one where none was. -/
theorem CmpReg.note_bad (r : CmpReg) (i : Nat) (first : Bool) {k : Cmp1} (h : k.ok = false) :
    (r.note i first k).compared = min (r.compared + 1) 0xFFFFFFFF ∧ (r.note i first k).mismatch = min (r.mismatch + 1) 0xFFFFFFFF ∧
    (r.note i first k).first = (if first && r.first == 0xFFFFFFFF then i else r.first) ∧ bit (r.note i first k).flags 0 = true ∧
    (r.note i first k).inj = r.inj := by
  unfold CmpReg.note
  dsimp only
  rw [if_neg (by rw [h]; decide)]
  refine ⟨rfl, rfl, rfl, ?_, rfl⟩
  dsimp only
  rw [bit_setBit]
  rfl

theorem min_count_succ (a n m : Nat) : min (min (a + 1) m + n) m = min (a + (n + 1)) m := by omega

theorem CmpReg.countsFrom_notes (kind : Nat × Nat × Nat → Cmp1) : ∀ (l : List (Nat × Nat × Nat)) (r : CmpReg) (found : Bool),
    (∀ e ∈ l, (kind e).ok = (e.2.1 == e.2.2)) → r.compared ≤ 0xFFFFFFFF → r.mismatch ≤ 0xFFFFFFFF →
    r.CountsFrom found l ((l.map (fun e => (e.1, kind e))).foldl (fun g k => (g.1.note k.1 (!g.2) k.2, g.2 || !k.2.ok)) (r, found)).1
  | [], r, found, _, hc, hm => by
    refine ⟨(Nat.min_eq_left hc).symm, (Nat.min_eq_left hm).symm, ?_, by simp, rfl⟩
    split_ifs with h
    · exact h.2
    · rfl
  | e :: l, r, found, hok, hc, hm => by
    have hk := hok e (List.mem_cons_self ..)
    rw [List.map_cons, List.foldl_cons]
    cases hb : (e.2.1 == e.2.2)
    · obtain ⟨h1, h2, h3, h4, h5⟩ := r.note_bad e.1 (!found) (hk.trans hb)
      have ih := CmpReg.countsFrom_notes kind l (r.note e.1 (!found) (kind e)) (found || !(kind e).ok)
        (fun e he => hok e (List.mem_cons_of_mem _ he)) (h1.trans_le (Nat.min_le_right _ _)) (h2.trans_le (Nat.min_le_right _ _))
      obtain ⟨i1, i2, i3, i4, i5⟩ := ih
      have hbad : (e :: l).filter (fun e => e.2.1 != e.2.2) = e :: l.filter (fun e => e.2.1 != e.2.2) :=
        List.filter_cons_of_pos (by simpa [bne] using hb)
      unfold CmpReg.CountsFrom
      dsimp only
      rw [hbad]
      refine ⟨i1.trans ?_, i2.trans ?_, i3.trans ?_, i4.trans ?_, i5.trans h5⟩
      · rw [h1, List.length_cons, min_count_succ]
      · rw [h2, List.length_cons, min_count_succ]
      · rw [hk, hb, h3]
        cases found <;> simp
      · rw [h4]; simp
    · obtain ⟨h1, h2, h3, h4, h5⟩ := r.note_ok e.1 (!found) (hk.trans hb)
      have ih := CmpReg.countsFrom_notes kind l (r.note e.1 (!found) (kind e)) (found || !(kind e).ok)
        (fun e he => hok e (List.mem_cons_of_mem _ he)) (h1.trans_le (Nat.min_le_right _ _)) (h2.trans_le hm)
      obtain ⟨i1, i2, i3, i4, i5⟩ := ih
      have hbad : (e :: l).filter (fun e => e.2.1 != e.2.2) = l.filter (fun e => e.2.1 != e.2.2) :=
        List.filter_cons_of_neg (by simpa [bne] using hb)
      unfold CmpReg.CountsFrom
      dsimp only
      rw [hbad]
      refine ⟨i1.trans ?_, i2.trans ?_, i3.trans ?_, i4.trans ?_, i5.trans h5⟩
      · rw [h1, List.length_cons, min_count_succ]
      · rw [h2]
      · rw [hk, hb, h3]
        cases found <;> simp
      · rw [h4]

/-- Comparisons entered in order in a register without an armed injection. -/
theorem CmpReg.counts_notes {r : CmpReg} (hinj : r.inj = none) (hc : r.compared < 2 ^ 32) (hm : r.mismatch < 2 ^ 32) {l : List (Nat × Nat × Nat)}
    {kind : Nat × Nat × Nat → Cmp1} (hok : ∀ e ∈ l, (kind e).ok = (e.2.1 == e.2.2)) : r.Counts l (r.notes (l.map (fun e => (e.1, kind e)))).1 := by
  obtain ⟨h1, h2, h3, h4, h5⟩ := CmpReg.countsFrom_notes kind l r false hok (by omega) (by omega)
  exact ⟨h1, h2, h3.trans (by simp), h4, h5.trans hinj⟩

section
variable {s : State} {x : Eng}

/-- Two operands that the entry may read. -/
theorem Run.readPair_ok {a b n : Nat} (ha : s.MemOk x.c x.env false a n) (hb : s.MemOk x.c x.env false b n) :
    (⟨s, none⟩ : Run).readPair x a b n = (⟨s, none⟩, s.seenBytes x.c a n, s.seenBytes x.c b n, n) := by
  have hgood (a : Nat) : (⟨s, none⟩ : Run).goodBytes a n = n := rfl
  unfold Run.readPair
  rw [Run.read_ok ha]
  dsimp only
  rw [hgood, Run.read_ok hb]
  dsimp only
  rw [hgood, if_pos rfl]
  simp

/-- A comparison without FAULT whose operands have been read leaves its result. -/
theorem State.compareEnd_ok (s : State) (x : Eng) (r : Nat) (old new : CmpReg) (mism : Bool) :
    State.compareEnd x r false ⟨s, none⟩ old new mism = .done (s.modCore x.c (fun k => k.setC r new)) := rfl

theorem CmpReg.inject_none {r : CmpReg} (h : r.inj = none) (w : Nat) (xs : List Nat) : r.inject w xs = (r, xs) := by
  unfold CmpReg.inject
  rw [h]

end

/-- The elements of an operand of CMPT with their scales. -/
theorem cmpElems_eq (fmt n : Nat) {l : List Byte} (hl : rowBytes fmt n ≤ l.length) : cmpElems fmt n l = (List.range n).map (fun i =>
    (elemAt (fmtBits fmt) (leNat l) i, if fmtIsMx fmt then elemAt 8 (leNat (l.drop (rowBytes fmt n))) (i / 32) else 127)) := by
  unfold cmpElems
  rw [unpack_eq, zipIdx_map_range, List.map_map]
  refine List.map_congr_left fun i hi => ?_
  dsimp only [Function.comp_apply]
  rw [elemAt_row fmt hl (List.mem_range.1 hi)]

/-- The words of the mask of a record list. -/
theorem cmpmWords_eq (mask n : Nat) (l : List Byte) : cmpmWords mask (unpack 32 n l) =
    ((List.range n).filter (fun i => bit mask (i % 16))).map (fun i => (i, elemAt 32 (leNat l) i)) := by
  unfold cmpmWords
  rw [unpack_eq, zipIdx_map_range, List.filter_map, List.map_map]
  rfl

theorem bit_mask (x : BitVec 32) {i : Nat} (hi : i < 16) : bit (x.toNat % 2 ^ 16) i = x.getLsbD i := by
  rw [bit_eq_testBit, Nat.testBit_mod_two_pow, BitVec.testBit_toNat, decide_eq_true hi, Bool.true_and]

section
variable {s : State} {c : CoreId} {f : IFields} {a b d : Word} {env : DispEnv}

theorem next_ccfg (h : s.Runs c .ccfg f a b d env) (h0 : a.toNat % 2 ^ 32 ≤ 0x7F800000) (h1 : a.toNat / 2 ^ 32 ≤ 0x7F800000)
    (hm : b.toNat / 2 ^ 32 % 16 ≤ 3) (hf : b.toNat / 2 ^ 36 < 15) :
    exec (.ccfg c) s = .next (((s.started c .ccfg env).modCore c (fun q => { q with ccfg :=
      ⟨a.extractLsb' 0 32, a.extractLsb' 32 32, b.extractLsb' 0 32, b.toNat / 2 ^ 32 % 16, b.toNat / 2 ^ 36⟩ })).engineDone (engOf c .ccfg env) .ccfg) := by
  have hlow (w : Word) : w.setWidth 32 = w.extractLsb' 0 32 := by rw [← setWidth_eq_extract, BitVec.ushiftRight_zero]
  have hfmt : b.toNat / 2 ^ 36 % 16 = b.toNat / 2 ^ 36 := Nat.mod_eq_of_lt (hf.trans (by decide))
  have hb40 : b.toNat < 2 ^ 40 := by omega
  have hrun := next_configures (op := .ccfg) (i := .ccfg c) h rfl rfl (checks_one ?_) fun _ => rfl
  · rw [hlow a, hlow b, setWidth_eq_extract, hfmt] at hrun
    exact hrun
  · rw [hfmt, Bool.and_eq_true, Bool.and_eq_true, Bool.and_eq_true, Bool.and_eq_true]
    refine ⟨⟨⟨⟨?_, ?_⟩, decide_eq_true hm⟩, decide_eq_true hb40⟩, bne_iff_ne.2 (by omega)⟩
    · exact Bool.or_eq_true_iff.2 (.inl (decide_eq_true h0))
    · exact Bool.or_eq_true_iff.2 (.inl (decide_eq_true h1))

/-- A command that leaves a result register. -/
theorem State.modCore_setC (s : State) (c : CoreId) (r : Nat) (g : CmpReg → CmpReg) :
    s.modCore c (fun k => k.setC r (g (k.cReg r))) = s.modCore c (fun k => k.setC r (g ((s.core c).cReg r))) := State.modCore_congr rfl

theorem next_cinj (h : s.Runs c .cinj f a b d env) (hd : f.dst.toNat < 8) :
    exec (.cinj c) s = .next (((s.started c .cinj env).modCore c (fun q => q.setC f.dst.toNat
      { ((s.started c .cinj env).core c).cReg f.dst.toNat with inj := some (a.toNat, b.toNat % 2 ^ 32) })).engineDone (engOf c .cinj env) .cinj) := by
  rw [← State.modCore_setC _ _ _ fun o => { o with inj := some (a.toNat, b.toNat % 2 ^ 32) }]
  exact next_configures (op := .cinj) h rfl rfl (checks_one (decide_eq_true hd)) fun k => k.queues_setC _ _

theorem State.started_ccfg (s : State) (c : CoreId) (op : EOp) (env : DispEnv) : ((s.started c op env).core c).ccfg = (s.core c).ccfg := by
  obtain ⟨_, _, hk⟩ := (s.credited_started c op env).core c
  rw [hk]

/-- An entry that ends by writing its result register. -/
theorem next_compared {op : EOp} (h : s.Runs c op f a b d env) {i : Instr} {body : State → Eng → IFields → Word → Word → Word → EOut}
    (he : exec i s = .next (s.runEntry c op body)) {checks : List (Bool × Nat × Nat)} {rs : List (Nat × Nat)} {run : Run → EOut}
    (hb : body (s.started c op env) (engOf c op env) f a b d = (s.started c op env).guarded (engOf c op env) checks rs [] run)
    (hc : ∀ k ∈ checks, k.1 = true) (hr : ∀ r ∈ rs, (s.started c op env).MemOk c env false r.1 r.2) {r : CmpReg} {P : CmpReg → Prop}
    (hrun : run ⟨s.started c op env, none⟩ = .done ((s.started c op env).modCore c (fun q => q.setC f.dst.toNat r))) (hp : P r) :
    ∃ r, exec i s = .next (((s.started c op env).modCore c (fun q => q.setC f.dst.toNat r)).engineDone (engOf c op env) op) ∧ P r :=
  ⟨r, next_load h he hb hc hr (List.forall_mem_nil _) hrun fun k => k.queues_setC _ _, hp⟩

/-- In EXACT mode two elements match when their bits are equal (R315). -/
theorem CmpCfg.one_exact {g : CmpCfg} (h : g.mode = 0) (x y : Nat × Nat) : (g.one x y).ok = (x.1 == y.1) := by
  unfold CmpCfg.one
  dsimp only
  rw [if_pos h]

/-- The scale of an element of an operand of CMPT. -/
def cmpScale (fmt n : Nat) (l : List Byte) (i : Nat) : Nat := if fmtIsMx fmt then elemAt 8 (leNat (l.drop (rowBytes fmt n))) (i / 32) else 127

/-- The comparison of two elements with the scales of their operands. -/
def CmpCfg.pair (g : CmpCfg) (n : Nat) (l m : List Byte) (e : Nat × Nat × Nat) : Cmp1 :=
  g.one (e.2.1, cmpScale g.fmt n l e.1) (e.2.2, cmpScale g.fmt n m e.1)

/-- The comparisons of CMPT without an injection, from the indices and elements of both operands. -/
theorem cmpt_pairs (g : CmpCfg) (n : Nat) {l m : List Byte} (hl : rowBytes g.fmt n ≤ l.length) (hm : rowBytes g.fmt n ≤ m.length) :
    ((((cmpElems g.fmt n l).map (·.1)).zip ((cmpElems g.fmt n l).map (·.2))).zip (cmpElems g.fmt n m)).zipIdx.map
      (fun (e : ((Nat × Nat) × (Nat × Nat)) × Nat) => (e.2, g.one e.1.1 e.1.2)) =
    ((List.range n).map (fun i => (i, elemAt (fmtBits g.fmt) (leNat l) i, elemAt (fmtBits g.fmt) (leNat m) i))).map
      (fun e => (e.1, g.pair n l m e)) := by
  rw [cmpElems_eq _ _ hl, cmpElems_eq _ _ hm, List.map_map, List.map_map, List.zip_map', List.zip_map', zipIdx_map_range, List.map_map, List.map_map]
  rfl

theorem next_cmpt (h : s.Runs c .cmpt f a b d env) (hx : f.hasExt = true) (hd : f.dst.toNat < 8) (hl : f.low3 = 0)
    {g : CmpCfg} (hg : ((s.started c .cmpt env).core c).ccfg = g) (hmode : g.mode = 0)
    {o : CmpReg} (ho : ((s.started c .cmpt env).core c).cReg f.dst.toNat = o) (hinj : o.inj = none)
    (hcmp : o.compared < 2 ^ 32) (hmis : o.mismatch < 2 ^ 32)
    (hA : a.toNat % rowBytes g.fmt 1 = 0) (hB : b.toNat % rowBytes g.fmt 1 = 0)
    (hma : (s.started c .cmpt env).MemOk c env false a.toNat (cmpBytes g.fmt f.ext.toNat))
    (hmb : (s.started c .cmpt env).MemOk c env false b.toNat (cmpBytes g.fmt f.ext.toNat)) :
    ∃ r, exec (.cmpt c) s = .next (((s.started c .cmpt env).modCore c (fun q => q.setC f.dst.toNat r)).engineDone (engOf c .cmpt env) .cmpt) ∧
      o.Counts ((List.range f.ext.toNat).map (fun i =>
        (i, elemAt (fmtBits g.fmt) ((s.started c .cmpt env).seen c a.toNat (cmpBytes g.fmt f.ext.toNat)) i,
          elemAt (fmtBits g.fmt) ((s.started c .cmpt env).seen c b.toNat (cmpBytes g.fmt f.ext.toNat)) i))) r := by
  have hfit (p : Nat) : rowBytes g.fmt f.ext.toNat ≤ ((s.started c .cmpt env).seenBytes c p (cmpBytes g.fmt f.ext.toNat)).length := by
    rw [State.seenBytes_length]
    exact Nat.le_add_right _ _
  have hcounts := CmpReg.counts_notes hinj hcmp hmis (l := (List.range f.ext.toNat).map (fun i =>
      (i, elemAt (fmtBits g.fmt) ((s.started c .cmpt env).seen c a.toNat (cmpBytes g.fmt f.ext.toNat)) i,
        elemAt (fmtBits g.fmt) ((s.started c .cmpt env).seen c b.toNat (cmpBytes g.fmt f.ext.toNat)) i)))
    (kind := g.pair f.ext.toNat ((s.started c .cmpt env).seenBytes c a.toNat (cmpBytes g.fmt f.ext.toNat))
      ((s.started c .cmpt env).seenBytes c b.toNat (cmpBytes g.fmt f.ext.toNat))) fun e _ => CmpCfg.one_exact hmode _ _
  subst ho hg
  refine next_compared (op := .cmpt) (i := .cmpt c) h rfl rfl (List.forall_mem_cons.2 ⟨?_, checks_two ?_ ?_⟩)
    (List.forall_mem_cons.2 ⟨hma, List.forall_mem_singleton.2 hmb⟩) ?_ hcounts
  · rw [hx, decide_eq_true hd, hl]
    rfl
  · rw [hmode]
    rfl
  · rw [hA, hB]
    rfl
  · dsimp only
    rw [Run.readPair_ok (x := engOf c .cmpt env) hma hmb]
    dsimp only
    rw [CmpReg.inject_none hinj, cmpt_pairs _ _ (hfit _) (hfit _), hl]
    exact State.compareEnd_ok ..

/-- The comparisons of CMPM without an injection, from the indices and words of both operands. -/
theorem cmpm_pairs (mask n : Nat) (l m : List Byte) : ((cmpmWords mask (unpack 32 n l)).zip (cmpmWords mask (unpack 32 n m))).map
      (fun (e : (Nat × Nat) × (Nat × Nat)) => (e.1.1, ({ ok := e.1.2 == e.2.2, nan := false, abs := FV.zero, ulp := 0 } : Cmp1))) =
    (((List.range n).filter (fun i => bit mask (i % 16))).map (fun i => (i, elemAt 32 (leNat l) i, elemAt 32 (leNat m) i))).map
      (fun e => (e.1, ({ ok := e.2.1 == e.2.2, nan := false, abs := FV.zero, ulp := 0 } : Cmp1))) := by
  rw [cmpmWords_eq, cmpmWords_eq, List.zip_map', List.map_map, List.map_map]
  rfl

theorem next_cmpm (h : s.Runs c .cmpm f a b d env) (hx : f.hasExt = true) (hd : f.dst.toNat < 8) (hl : f.low3 = 0)
    {o : CmpReg} (ho : ((s.started c .cmpm env).core c).cReg f.dst.toNat = o) (hinj : o.inj = none)
    (hcmp : o.compared < 2 ^ 32) (hmis : o.mismatch < 2 ^ 32) (hA : a.toNat % 64 = 0) (hB : b.toNat % 64 = 0)
    (hma : (s.started c .cmpm env).MemOk c env false a.toNat (64 * (f.ext.toNat / 2 ^ 16)))
    (hmb : (s.started c .cmpm env).MemOk c env false b.toNat (64 * (f.ext.toNat / 2 ^ 16))) :
    ∃ r, exec (.cmpm c) s = .next (((s.started c .cmpm env).modCore c (fun q => q.setC f.dst.toNat r)).engineDone (engOf c .cmpm env) .cmpm) ∧
      o.Counts (((List.range (16 * (f.ext.toNat / 2 ^ 16))).filter (fun i => f.ext.getLsbD (i % 16))).map (fun i =>
        (i, elemAt 32 ((s.started c .cmpm env).seen c a.toNat (64 * (f.ext.toNat / 2 ^ 16))) i,
          elemAt 32 ((s.started c .cmpm env).seen c b.toNat (64 * (f.ext.toNat / 2 ^ 16))) i))) r := by
  subst ho
  have hmask : (fun i => bit (f.ext.toNat % 2 ^ 16) (i % 16)) = fun i => f.ext.getLsbD (i % 16) :=
    funext fun i => bit_mask f.ext (Nat.mod_lt i (by decide))
  rw [← hmask]
  refine next_compared (op := .cmpm) (i := .cmpm c) h rfl rfl (checks_two ?_ ?_)
    (List.forall_mem_cons.2 ⟨hma, List.forall_mem_singleton.2 hmb⟩) ?_ (CmpReg.counts_notes hinj hcmp hmis
      (kind := fun e => { ok := e.2.1 == e.2.2, nan := false, abs := FV.zero, ulp := 0 }) fun e _ => rfl)
  · rw [hx, decide_eq_true hd]
    rfl
  · rw [hA, hB]
    rfl
  · dsimp only
    rw [Run.readPair_ok (x := engOf c .cmpm env) hma hmb]
    dsimp only
    rw [CmpReg.inject_none hinj]
    dsimp only
    rw [cmpm_pairs, hl]
    exact State.compareEnd_ok ..

end

/-- Settles O29: the comparisons of both instructions as a list of indices and element pairs, entered by `counts_notes`. -/
theorem compareResults : Obligations.CompareResults := by
  intro c f a b d env s s1 old ends counts
  refine ⟨fun h h0 h1 hm hf => next_ccfg h h0 h1 hm hf, fun h hd => ⟨_, next_cinj h hd, rfl⟩, ?_, ?_⟩
  · intro h hx hd hl hmode hfmt hinj hcmp hmis fmt n len hA hB hma hmb
    have hcfg := s.started_ccfg c .cmpt env
    exact next_cmpt h hx hd hl hcfg hmode rfl hinj hcmp hmis hA hB hma hmb
  · intro h hx hd hl hinj hcmp hmis n hA hB hma hmb
    exact next_cmpm h hx hd hl rfl hinj hcmp hmis hA hB hma hmb

/-! ### A chain of one descriptor of the Mover (R320–R323) -/

/-- The source and destination of a row of a descriptor without gather or scatter. -/
def MoveDesc.plainRow (m : MoveDesc) (r : Nat) : Nat × Nat := (m.src + r * m.srcStride, m.dst + r * m.dstStride)

theorem MoveDesc.row_plain {m : MoveDesc} (hg : m.gather = false) (hs : m.scatter = false) (offs : List Nat) (r : Nat) : m.row offs r = m.plainRow r := by
  unfold MoveDesc.row MoveDesc.plainRow
  rw [hg, hs]
  rfl

/-- Rows that share no byte do not overlap. -/
theorem noOverlap_of_ne {a b n : Nat} (hn : 1 ≤ n) (h : ∀ i j, i < n → j < n → a + i ≠ b + j) : overlap a n b n = false := by
  rw [overlap, Bool.and_eq_false_iff, decide_eq_false_iff_not, decide_eq_false_iff_not, ← not_and_or]
  rintro ⟨h1, h2⟩
  rcases Nat.le_total a b with hab | hab
  · exact h (b - a) 0 (by omega) (by omega) (by omega)
  · exact h 0 (a - b) (by omega) (by omega) (by omega)

section
variable {s : State} {x : Eng} {env : DispEnv} {n : Nat}

/-- One row moved between ranges that the entry may access. -/
theorem Run.moveRow_ok {m : MoveDesc} (hf : m.fill = false) (hc : m.cvu = false) {a : Nat × Nat} (hr : s.MemOk x.c x.env false a.1 m.rowLen)
    (hw : s.MemOk x.c x.env true a.2 m.rowLen) :
    (⟨s, none⟩ : Run).moveRow x m a = ⟨s.engWrite x (a.2, s.seenBytes x.c a.1 m.rowLen), none⟩ := by
  have hall : ∀ w ∈ [(a.2, s.seenBytes x.c a.1 m.rowLen)], s.MemOk x.c x.env true w.1 w.2.length := by
    rw [List.forall_mem_singleton, State.seenBytes_length]
    exact hw
  unfold Run.moveRow
  rw [if_neg (by exact Bool.false_ne_true), hf, if_neg Bool.false_ne_true, Run.read_ok hr, hc]
  dsimp only
  rw [Run.write_ok hall]
  rfl

/-- What the first rows of a descriptor leave: each destination holds its source, and nothing else has changed. -/
structure State.Moved (s t : State) (c : CoreId) (m : MoveDesc) (k : Nat) : Prop where
  stored : s.Stored t
  rows : ∀ r, r < k → ∀ i, i < m.rowLen → t.see c ((m.plainRow r).2 + i) = s.see c ((m.plainRow r).1 + i)
  rest : ∀ y, (∀ r i, r < k → i < m.rowLen → s.loc (some c) ((m.plainRow r).2 + i) ≠ .mem y) → t.byte y = s.byte y

/-- The rows of a descriptor share no byte of memory: no destination with a source, and no two destinations. -/
def State.Apart (s : State) (c : CoreId) (m : MoveDesc) : Prop :=
  ∀ r r' i j, r < m.rows → r' < m.rows → i < m.rowLen → j < m.rowLen →
    s.loc (some c) ((m.plainRow r).1 + i) ≠ s.loc (some c) ((m.plainRow r').2 + j) ∧
    (r ≠ r' → s.loc (some c) ((m.plainRow r).2 + i) ≠ s.loc (some c) ((m.plainRow r').2 + j))

end

theorem State.see_of_loc {s : State} {c : CoreId} {a pa : Nat} (h : s.loc (some c) a = .mem pa) : s.see c a = s.byte pa := by
  rw [State.see, h]

theorem State.see_eq {s t : State} {c : CoreId} {a : Nat} (hl : t.loc (some c) a = s.loc (some c) a)
    (hb : ∀ y, s.loc (some c) a = .mem y → t.byte y = s.byte y) : t.see c a = s.see c a := by
  unfold State.see
  rw [hl]
  split
  next y hy => exact hb y hy
  next => rfl

/-- One row more. -/
theorem State.Moved.next {s t : State} {x : Eng} {m : MoveDesc} {k : Nat} (h : s.Moved t x.c m k) (hap : s.Apart x.c m)
    (hf : m.fill = false) (hc : m.cvu = false) (hk : k < m.rows)
    (hr : s.MemOk x.c x.env false (m.plainRow k).1 m.rowLen) (hw : s.MemOk x.c x.env true (m.plainRow k).2 m.rowLen) :
    ∃ u, (⟨t, none⟩ : Run).moveRow x m (m.plainRow k) = ⟨u, none⟩ ∧ s.Moved u x.c m (k + 1) := by
  have hst := h.stored
  obtain ⟨ps, hps⟩ := hr.placed
  obtain ⟨pd, hpd⟩ := hw.placed
  have hlen := t.seenBytes_length x.c (m.plainRow k).1 m.rowLen
  obtain ⟨htu, hbyte⟩ := State.engWrite_placed (x := x) hst (w := ((m.plainRow k).2, t.seenBytes x.c (m.plainRow k).1 m.rowLen))
    (cls := x.env.cls) (pa := pd) (by rw [hlen]; exact hpd)
  rw [hlen] at hbyte
  dsimp only at hbyte
  have hsrc (i : Nat) (hi : i < m.rowLen) : t.see x.c ((m.plainRow k).1 + i) = s.see x.c ((m.plainRow k).1 + i) := by
    have hl := (hps i hi).1
    rw [State.see_of_loc hl, State.see_of_loc ((hst.loc _ _).trans hl)]
    exact h.rest _ fun r j hr hj he => (hap k r i j hk (hr.trans hk) hi hj).1 (hl.trans he.symm)
  refine ⟨_, Run.moveRow_ok hf hc (hst.memOk hr) (hst.memOk hw), htu, fun r hr' i hi => ?_, fun y hy => ?_⟩
  · rcases Nat.lt_succ_iff_lt_or_eq.1 hr' with hlt | rfl
    · refine (State.see_eq ((htu.loc _ _).trans (hst.loc _ _).symm) fun y hy => ?_).trans (h.rows r hlt i hi)
      rw [hbyte, if_neg]
      rintro ⟨h1, h2⟩
      refine (hap k r (y - pd) i hk (hlt.trans hk) (by omega) hi).2 hlt.ne' ?_
      rw [(hpd (y - pd) (by omega)).1, Nat.add_sub_cancel' h1, ← hst.loc, hy]
    · have hl := (hpd i hi).1
      rw [State.see_of_loc ((htu.loc _ _).trans hl), hbyte, if_pos (by omega), Nat.add_sub_cancel_left, State.seenBytes,
        getD_map_range _ _ _ hi, hsrc i hi]
  · rw [hbyte, if_neg, h.rest y fun r i hr hi => hy r i (hr.trans (Nat.lt_succ_self k)) hi]
    rintro ⟨h1, h2⟩
    refine hy k (y - pd) (Nat.lt_succ_self k) (by omega) ?_
    rw [(hpd (y - pd) (by omega)).1, Nat.add_sub_cancel' h1]

/-- All the rows, in order. -/
theorem State.moved_rows {s : State} {x : Eng} {m : MoveDesc} (hap : s.Apart x.c m) (hf : m.fill = false) (hc : m.cvu = false)
    (hm : ∀ r, r < m.rows → s.MemOk x.c x.env false (m.plainRow r).1 m.rowLen ∧ s.MemOk x.c x.env true (m.plainRow r).2 m.rowLen) (k : Nat)
    (hk : k ≤ m.rows) : ∃ u, ((List.range k).map m.plainRow).foldl (fun r a => r.moveRow x m a) (⟨s, none⟩ : Run) = ⟨u, none⟩ ∧
      s.Moved u x.c m k := by
  induction k with
  | zero => exact ⟨s, rfl, State.Stored.refl s, fun r hr => absurd hr (Nat.not_lt_zero r), fun _ _ => rfl⟩
  | succ k ih =>
    obtain ⟨t, ht, hmoved⟩ := ih (Nat.le_of_succ_le hk)
    obtain ⟨u, hu, hnext⟩ := hmoved.next hap hf hc hk (hm k hk).1 (hm k hk).2
    refine ⟨u, ?_, hnext⟩
    rw [List.range_succ, List.map_append, List.foldl_append, ht]
    exact hu

section
variable {s : State} {x : Eng} {m : MoveDesc} {a : Nat}

/-- A chain of one descriptor that copies rows: its bytes go to the prefetch buffer, and its rows are moved. -/
theorem State.moveChain_single (ha : a % 64 = 0) (hd : s.MemOk x.c x.env false a 64) (hm : MoveDesc.of (s.seen x.c a 64) = m)
    (hok : m.ok = true) (hg : m.gather = false) (hs : m.scatter = false) (hf : m.fill = false) (hc : m.cvu = false) (hn : m.next = 0)
    (hrows : ∀ r, r < m.rows → s.MemOk x.c x.env false (m.plainRow r).1 m.rowLen ∧ s.MemOk x.c x.env true (m.plainRow r).2 m.rowLen)
    (hap : ∀ r, r < m.rows → overlap (m.plainRow r).1 m.rowLen (m.plainRow r).2 m.rowLen = false) (fuel : Nat) :
    State.moveChain x (fuel + 1) a [] s = (((List.range m.rows).map m.plainRow).foldl (fun r a => r.moveRow x m a)
      (⟨s.modCore x.c (fun k => { k with prefetch := [s.seenBytes x.c a 64] }), none⟩ : Run)).out := by
  have hrow : (List.range m.rows).map (m.row (unpack 32 m.rows [])) = (List.range m.rows).map m.plainRow :=
    List.map_congr_left fun r _ => m.row_plain hg hs _ r
  unfold State.moveChain
  rw [State.guarded_runs (checks_one (beq_iff_eq.2 ha)) (List.forall_mem_singleton.2 hd) (List.forall_mem_nil _), Run.read_ok hd]
  dsimp only
  rw [show MoveDesc.of (leNat (s.seenBytes x.c a 64)) = m from hm, show m.indexed = false by rw [MoveDesc.indexed, hg, hs]; rfl,
    if_neg Bool.false_ne_true, State.guarded_runs (checks_two hok (by rw [hc]; rfl)) (List.forall_mem_nil _) (List.forall_mem_nil _)]
  rw [if_neg Bool.false_ne_true]
  dsimp only
  rw [hrow, hf, State.guarded_runs]
  · dsimp only
    rw [if_pos hn]
    rfl
  · refine checks_one (List.all_eq_true.2 fun p hp => ?_)
    obtain ⟨r, hr, rfl⟩ := List.mem_map.1 hp
    rw [hap r (List.mem_range.1 hr)]
    rfl
  · intro p hp
    obtain ⟨q, hq, rfl⟩ := List.mem_map.1 (show p ∈ List.map _ _ from hp)
    obtain ⟨r, hr, rfl⟩ := List.mem_map.1 hq
    exact (hrows r (List.mem_range.1 hr)).1
  · intro p hp
    obtain ⟨q, hq, rfl⟩ := List.mem_map.1 hp
    obtain ⟨r, hr, rfl⟩ := List.mem_map.1 hq
    exact (hrows r (List.mem_range.1 hr)).2

end

theorem State.memOk_modCore {s : State} {n : Nat} {g : Core → Core} {c : CoreId} {env : DispEnv} {w : Bool} {a k : Nat} (h : s.MemOk c env w a k) :
    (s.modCore n g).MemOk c env w a k := by
  obtain ⟨hok, hplain⟩ := h
  refine ⟨fun hk => (State.dataOk_congr (State.modCore_regs ..) ..).trans (hok hk), fun i hi => ?_⟩
  obtain ⟨pa, hl, hp⟩ := hplain i hi
  exact ⟨pa, (State.loc_congr (State.modCore_regs ..) ..).trans hl, State.plain_modCore.2 hp⟩

theorem State.see_modCore (s : State) (n : Nat) (g : Core → Core) (c : CoreId) (a : Nat) : (s.modCore n g).see c a = s.see c a :=
  State.see_congr (State.modCore_regs ..) (State.byte_congr (State.modCore_mem ..) (State.modCore_memGen ..)) c a

/-- The prefetch buffer of a core. -/
def Core.prefetched (l : List (List Byte)) (k : Core) : Core := { k with prefetch := l }

/-- Settles O30: the rows are moved one after the other by `moved_rows`, each destination holding its source. -/
theorem moverRuns : Obligations.MoverRuns := by
  intro c f a b d env s h hd hB ha s1 hdesc m hok hg hs hf hc hn hrows hap
  have hcr := s.credited_started c .mvrun env
  have hlen : 1 ≤ m.rowLen := by
    simp only [MoveDesc.ok, Bool.and_eq_true, decide_eq_true_eq] at hok
    omega
  have hrun := State.moveChain_single (x := engOf c .mvrun env) ha hdesc rfl hok hg hs hf hc hn hrows
    (fun r hr => noOverlap_of_ne hlen fun i j hi hj => (hap r r i j hr hr hi hj).1) 4095
  generalize hs2 : s1.modCore c (Core.prefetched [s1.seenBytes c a.toNat 64]) = s2
  have hsee (p : Nat) : s2.see c p = s1.see c p := by rw [← hs2]; exact s1.see_modCore c _ c p
  have hloc (p : Nat) : s2.loc (some c) p = s.loc (some c) p := by
    rw [← hs2, State.loc_congr (State.modCore_regs ..), hcr.loc]
  obtain ⟨u, hu, hmoved⟩ := State.moved_rows (s := s2) (x := engOf c .mvrun env) (m := m) (fun r r' i j hr hr' hi hj => by
      rw [hloc, hloc, hloc]
      exact (hap r r' i j hr hr' hi hj).2) hf hc (fun r hr => by
      rw [← hs2]
      exact ⟨State.memOk_modCore (hrows r hr).1, State.memOk_modCore (hrows r hr).2⟩) m.rows le_rfl
  have hst := hmoved.stored
  have hbyte (y : Nat) : s2.byte y = s.byte y := by
    rw [← hs2, State.byte_congr (State.modCore_mem ..) (State.modCore_memGen ..), hcr.byte]
  have hend : State.moveChain (engOf c .mvrun env) 4096 a.toNat [] s1 = .done u := by
    have h2 : s1.modCore c (fun k => { k with prefetch := [s1.seenBytes c a.toNat 64] }) = s2 := hs2
    rw [hrun, h2, hu]
    rfl
  refine ⟨u, next_runs (op := .mvrun) (i := .mvrun c) h rfl rfl (checks_one ?_) (List.forall_mem_nil _) (List.forall_mem_nil _) hend ?_, ?_, ?_,
    fun r hr => ?_, fun y hy => ?_⟩
  · rw [hd, hB]
    rfl
  · rw [hst.core, ← hs2, State.core_modCore_same]
    rfl
  · rw [hst.regs, ← hs2]
    rfl
  · rw [hst.cores, ← hs2]
    rfl
  · refine congrArg leNat (List.map_congr_left fun i hi => ?_)
    exact (hmoved.rows r hr i (List.mem_range.1 hi)).trans (hsee _)
  · rw [hmoved.rest y fun r i hr hi => by rw [hloc]; exact hy r i hr hi, hbyte]

/-! ### Matrices read by an entry (R270, R292, R308) -/

theorem leNat_append_seen (s : State) (c : CoreId) (a m n : Nat) : s.seen c a (m + n) = s.seen c a m + 256 ^ m * s.seen c (a + m) n := by
  have happ : s.seenBytes c a (m + n) = s.seenBytes c a m ++ s.seenBytes c (a + m) n := by
    simp [State.seenBytes, List.range_add, Function.comp_def, Nat.add_assoc]
  rw [State.seen_eq, happ, leNat_append, State.seenBytes_length]
  rfl

/-- An element of `k` bytes of a range is the number of its bytes. -/
theorem elemAt_seen (s : State) (c : CoreId) (a k : Nat) {n i : Nat} (hi : i < n) : elemAt (8 * k) (s.seen c a (n * k)) i = s.seen c (a + i * k) k := by
  obtain ⟨m, rfl⟩ := Nat.exists_eq_add_of_lt hi
  have hpow (j : Nat) : (256 : Nat) ^ j = 2 ^ (8 * j) := (pow_mul 2 8 j).symm
  rw [show (i + m + 1) * k = i * k + (k + m * k) by ring, leNat_append_seen, leNat_append_seen]
  unfold elemAt
  have hlow := seen_lt s c a (i * k)
  have hmid := seen_lt s c (a + i * k) k
  rw [hpow, hpow, show 8 * k * i = 8 * (i * k) by ring, Nat.add_mul_div_left _ _ (Nat.two_pow_pos _), Nat.div_eq_of_lt hlow, Nat.zero_add,
    Nat.add_mul_mod_self_left, Nat.mod_eq_of_lt hmid]

section
variable {s : State} {x : Eng}

theorem State.Placed.read {c : CoreId} {cls : Nat} (hc : x.c = c) (hcls : x.env.cls = cls) {a n pa : Nat} (h : s.Placed c cls false a n pa) :
    (⟨s, none⟩ : Run).read x a n = (⟨s, none⟩, s.seenBytes c a n) := by
  subst hc hcls
  rw [Run.read_placed h, h.seenBytes]

/-- Several ranges read that lie in plain memory. -/
theorem Run.reads_placed {l : List (Nat × Nat)} (h : ∀ r ∈ l, ∃ pa, s.Placed x.c x.env.cls false r.1 r.2 pa) :
    (⟨s, none⟩ : Run).reads x l = (⟨s, none⟩, l.map (fun r => s.seenBytes x.c r.1 r.2)) := by
  have hfold (acc : List (List Byte)) : l.foldl (fun g p => ((g.1.read x p.1 p.2).1, g.2 ++ [(g.1.read x p.1 p.2).2])) ((⟨s, none⟩ : Run), acc) =
      (⟨s, none⟩, acc ++ l.map (fun r => s.seenBytes x.c r.1 r.2)) := by
    induction l generalizing acc with
    | nil => simp
    | cons r l ih =>
      obtain ⟨pa, hp⟩ := h r (List.mem_cons_self ..)
      rw [List.foldl_cons, hp.read rfl rfl, ih (fun r hr => h r (List.mem_cons_of_mem _ hr))]
      simp
  exact hfold []

/-- The bits of an element of a matrix in memory. -/
def State.matElem (s : State) (c : CoreId) (p : Plane) (i j : Nat) : Nat :=
  elemAt (fmtBits p.fmt) (s.seen c (p.base + i * p.stride) (rowBytes p.fmt p.cols)) j

/-- A matrix of a format without block scales as it is read. -/
def State.matOf (s : State) (c : CoreId) (p : Plane) : Mat :=
  (List.range p.rows).map (fun i => (List.range p.cols).map (fun j => (s.matElem c p i j, 127)))

theorem Plane.ranges_plain {p : Plane} (h : fmtIsMx p.fmt = false) :
    p.ranges = (List.range p.rows).map (fun i => (p.base + i * p.stride, rowBytes p.fmt p.cols)) := by
  unfold Plane.ranges
  rw [h, if_neg Bool.false_ne_true, List.append_nil]

/-- A matrix that an entry may read. -/
theorem Run.plane_ok {p : Plane} (hmx : fmtIsMx p.fmt = false) (h : ∀ r ∈ p.ranges, s.MemOk x.c x.env false r.1 r.2) :
    (⟨s, none⟩ : Run).plane x p = (⟨s, none⟩, s.matOf x.c p) := by
  unfold Run.plane
  rw [Run.reads_ok h, hmx, Plane.ranges_plain hmx, List.map_map]
  dsimp only
  rw [List.take_of_length_le (by simp), zipIdx_map_range, List.map_map]
  refine congrArg (Prod.mk _) (List.map_congr_left fun i _ => ?_)
  dsimp only [Function.comp_apply]
  rw [unpack_eq, zipIdx_map_range, List.map_map]
  rfl

end

/-- The rows and columns of a matrix that has been read. -/
theorem columns_matOf (s : State) (c : CoreId) (p : Plane) : columns p.cols (s.matOf c p) =
    (List.range p.cols).map (fun j => (List.range p.rows).map (fun i => (s.matElem c p i j, 127))) := by
  unfold columns State.matOf
  refine List.map_congr_left fun j hj => ?_
  rw [List.map_map]
  exact List.map_congr_left fun i _ => getD_map_range _ _ _ (List.mem_range.1 hj)

theorem matOf_entry (s : State) (c : CoreId) (p : Plane) {i j : Nat} (hi : i < p.rows) (hj : j < p.cols) :
    ((s.matOf c p).getD i []).getD j (0, 127) = (s.matElem c p i j, 127) := by
  rw [State.matOf, getD_map_range _ _ _ hi, getD_map_range _ _ _ hj]

/-- The exact sum of products of two rows of integers (R277). -/
theorem dotInt_map (init : Int) (l : List Nat) (g h : Nat → Int) : dotInt init (l.map g) (l.map h) = init + (l.map (fun i => g i * h i)).sum := by
  unfold dotInt
  rw [List.zip_map', List.foldl_map]
  induction l generalizing init with
  | nil => simp
  | cons i l ih =>
    rw [List.foldl_cons, ih, List.map_cons, List.sum_cons]
    ring

theorem rowInts_map (code : Nat) (l : List Nat) (g : Nat → Nat) : rowInts code (l.map (fun i => (g i, 127))) = l.map (fun i => intOf code (g i)) := by
  rw [rowInts, List.map_map]
  rfl

/-- Packed bytes of numbers are the packed numbers. -/
theorem leNat_flatten (n : Nat) (l : List Nat) : leNat ((l.map (leBytes n)).flatten) = packElems (8 * n) l := by
  induction l with
  | nil => rfl
  | cons v l ih =>
    rw [List.map_cons, List.flatten_cons, leNat_append, ih, leNat_leBytes, leBytes_length, packElems, show (256 : Nat) ^ n = 2 ^ (8 * n) from (pow_mul 2 8 n).symm]

/-! ### Tiles of integers (R277, R292–R298) -/

/-- An integer tile without requantisation, unfolding or ONWRAP, whose descriptor passes the checks of R288. -/
structure Tile.Plain (t : Tile) : Prop where
  descOk : t.descOk = true
  fmtOk : t.fmtOk = true
  alignOk : t.alignOk = true
  isInt : t.isInt = true
  req : t.req = false
  unf : t.unf = false
  onwrap : t.onwrap = false
  pcq : t.pcq = false

theorem tenKind_int {n : Nat} (h : (tenKind n == 0) = true) : fmtIsMx n = false := by
  unfold tenKind at h
  split_ifs at h with h0
  · rcases h0 with rfl | rfl | rfl <;> rfl
  all_goals exact absurd h (by decide)

namespace Tile.Plain
variable {t : Tile} (h : t.Plain)
include h

theorem mxA : fmtIsMx t.afmt = false := tenKind_int (Bool.and_eq_true_iff.1 h.isInt).1
theorem mxB : fmtIsMx t.bfmt = false := tenKind_int (Bool.and_eq_true_iff.1 h.isInt).2

theorem ofmt : t.ofmt = 3 := by
  have hk := (Bool.and_eq_true_iff.1 h.fmtOk).2
  rw [beq_iff_eq.1 (Bool.and_eq_true_iff.1 h.isInt).1, if_pos rfl, h.req, if_neg Bool.false_ne_true] at hk
  exact beq_iff_eq.1 hk

theorem planeB : t.planeB = ⟨t.bfmt, t.b, t.bStride, t.k, t.n⟩ := by
  rw [Tile.planeB, h.mxB, if_neg Bool.false_ne_true]

theorem planeD : t.planeD = ⟨3, t.d, t.dStride, t.m, t.n⟩ := by rw [Tile.planeD, h.ofmt]

end Tile.Plain

/-- Bytes of a row of 32-bit elements. -/
theorem rowBytes_words (n : Nat) : rowBytes 3 n = 4 * n := by
  unfold rowBytes
  rw [show fmtBits 3 = 32 from rfl]
  omega

section
variable {s : State} {c : CoreId} {t : Tile}

/-- The element of C and the bias of an accumulator, 0 where the descriptor asks for neither. -/
def State.tileC (s : State) (c : CoreId) (t : Tile) (i j : Nat) : Int := if t.acc then intOf 3 (s.matElem c t.planeC i j) else 0
def State.tileBias (s : State) (c : CoreId) (t : Tile) (j : Nat) : Int := if t.bias then sint 32 (s.seen c (t.biasAt + j * 4) 4) else 0

/-- The exact sum of an element of D (R277). -/
def State.tileSum (s : State) (c : CoreId) (t : Tile) (i j : Nat) : Int :=
  s.tileC c t i j + ((List.range t.k).map (fun q => intOf t.afmt (s.matElem c t.planeA i q) * intOf t.bfmt (s.matElem c t.planeB q j))).sum +
    s.tileBias c t j

/-- The matrix C and the bias entries that a tile reads. -/
def State.tileMatC (s : State) (c : CoreId) (t : Tile) : Mat := if t.acc then s.matOf c t.planeC else []
def State.tileEntries (s : State) (c : CoreId) (t : Tile) : List (List Byte) :=
  if t.bias then (List.range t.n).map (fun j => s.seenBytes c (t.biasAt + j * 4) 4) else []

/-- One accumulator of an integer tile. -/
theorem Tile.Plain.accum (h : t.Plain) {i j : Nat} (hi : i < t.m) (hj : j < t.n) :
    t.accum ((List.range t.k).map (fun q => (s.matElem c t.planeA i q, 127))) ((List.range t.k).map (fun q => (s.matElem c t.planeB q j, 127)))
      (((s.tileMatC c t).getD i []).getD j (0, 127)).1 (t.column (s.tileEntries c t) j) =
    (bitsOf 32 (wrapInt 3 (s.tileSum c t i j)).1, (wrapInt 3 (s.tileSum c t i j)).2) := by
  have hc : (if t.acc then sint 32 (((s.tileMatC c t).getD i []).getD j (0, 127)).1 else 0) = s.tileC c t i j := by
    unfold State.tileC State.tileMatC
    split_ifs with hacc
    · rw [matOf_entry (p := t.planeC) s c hi hj]
      rfl
    · rfl
  have hb : sint 32 (t.column (s.tileEntries c t) j).1 = s.tileBias c t j := by
    unfold Tile.column State.tileBias State.tileEntries
    dsimp only
    split_ifs with hbias
    · rw [getD_map_range _ _ _ hj, leAt, List.drop_zero, List.take_of_length_le (by rw [State.seenBytes_length])]
      rfl
    · rfl
  unfold Tile.accum
  rw [if_pos h.isInt, rowInts_map, rowInts_map, dotInt_map, hc, hb]
  rfl

/-- The accumulators of an integer tile as the model collects them. -/
theorem Tile.Plain.sums (h : t.Plain) : (t.sums (s.matOf c t.planeA) (s.matOf c t.planeB) (s.tileMatC c t) (s.tileEntries c t)).1 =
    (List.range t.m).map (fun i => (List.range t.n).map (fun j => bitsOf 32 (wrapInt 3 (s.tileSum c t i j)).1)) := by
  have hcols : columns t.n (s.matOf c t.planeB) = (List.range t.n).map (fun j => (List.range t.k).map (fun q => (s.matElem c t.planeB q j, 127))) := by
    have hp := h.planeB
    have hcol := columns_matOf s c t.planeB
    rw [hp] at hcol ⊢
    exact hcol
  unfold Tile.sums collect
  dsimp only
  rw [h.mxB, if_neg Bool.false_ne_true, hcols, zipIdx_map_range, State.matOf, zipIdx_map_range, List.map_map, List.map_map]
  refine List.map_congr_left fun i hi => ?_
  dsimp only [Function.comp_apply]
  rw [List.map_map, List.map_map]
  refine List.map_congr_left fun j hj => ?_
  exact congrArg Prod.fst (h.accum (List.mem_range.1 hi) (List.mem_range.1 hj))

/-- The elements of D are the accumulators (R294). -/
theorem Tile.Plain.result (h : t.Plain) (g : Nat → Nat → Nat) (entries : List (List Byte)) :
    (t.result ((List.range t.m).map (fun i => (List.range t.n).map (g i))) entries).1 = (List.range t.m).map (fun i => (List.range t.n).map (g i)) := by
  have hfinal (z : Nat) (col : Nat × Int × Nat) : t.final z col = (z, 0) := by
    unfold Tile.final
    rw [h.isInt, h.req]
    rfl
  unfold Tile.result collect
  dsimp only
  rw [List.map_map, List.map_map]
  refine List.map_congr_left fun i _ => ?_
  dsimp only [Function.comp_apply]
  rw [zipIdx_map_range, List.map_map, List.map_map]
  refine List.map_congr_left fun j _ => ?_
  dsimp only [Function.comp_apply]
  rw [hfinal]

theorem packRow_words (n : Nat) (l : List Nat) (fill : Nat) : packRow 3 n l fill = leBytes (4 * n) (packElems 32 l) := by
  have hw : n * fmtBits 3 % 8 = 0 := by
    rw [show fmtBits 3 = 32 from rfl]
    omega
  rw [packRow, if_pos hw, List.append_nil, rowBytes_words]
  rfl

/-- The row of D that the tile writes. -/
def State.tileRow (s : State) (c : CoreId) (t : Tile) (i : Nat) : List Byte :=
  leBytes (4 * t.n) (packElems 32 ((List.range t.n).map (fun j => bitsOf 32 (wrapInt 3 (s.tileSum c t i j)).1)))

/-- What a tile writes. -/
def State.tileWrites (s : State) (c : CoreId) (t : Tile) : List (Nat × List Byte) :=
  (List.range t.m).map (fun i => (t.d + i * t.dStride, s.tileRow c t i))

theorem State.tileWrites_eq (spare : List Nat × Nat → Nat) : ((List.range t.m).map (fun i =>
      (List.range t.n).map (fun j => bitsOf 32 (wrapInt 3 (s.tileSum c t i j)).1))).zipIdx.map
        (fun r => (t.d + r.2 * t.dStride, packRow 3 t.n r.1 (spare r))) = s.tileWrites c t := by
  rw [zipIdx_map_range, List.map_map]
  refine List.map_congr_left fun i _ => ?_
  dsimp only [Function.comp_apply]
  rw [packRow_words]
  rfl

end

section
variable {s : State} {x : Eng} {t : Tile} (h : t.Plain)
include h

theorem Tile.Plain.biasSize : t.biasSize = 4 ∧ t.biasRead = t.bias := by
  unfold Tile.biasSize Tile.biasRead
  rw [h.pcq]
  exact ⟨rfl, Bool.or_false _⟩

theorem Tile.Plain.mem_reads (hr : ∀ r ∈ t.reads, s.MemOk x.c x.env false r.1 r.2) : (∀ r ∈ t.planeB.ranges, s.MemOk x.c x.env false r.1 r.2) ∧
    (t.acc = true → ∀ r ∈ t.planeC.ranges, s.MemOk x.c x.env false r.1 r.2) ∧ (t.bias = true → s.MemOk x.c x.env false t.biasAt (t.n * 4)) := by
  unfold Tile.reads at hr
  rw [h.biasSize.1, h.biasSize.2] at hr
  refine ⟨fun r hm => hr r (List.mem_append_left _ (List.mem_append_left _ hm)), fun hacc r hm => hr r ?_, fun hb => hr (t.biasAt, t.n * 4) ?_⟩
  · exact List.mem_append_left _ (List.mem_append_right _ (by rw [if_pos hacc]; exact hm))
  · exact List.mem_append_right _ (by rw [if_pos hb]; exact List.mem_singleton_self _)

/-- The bias entries read. -/
theorem Tile.Plain.entries (hb : t.bias = true → s.MemOk x.c x.env false t.biasAt (t.n * 4)) :
    (if t.biasRead then (⟨s, none⟩ : Run).reads x ((List.range t.n).map (fun j => (t.biasAt + j * t.biasSize, t.biasSize))) else (⟨s, none⟩, [])) =
      (⟨s, none⟩, s.tileEntries x.c t) := by
  rw [h.biasSize.1, h.biasSize.2]
  unfold State.tileEntries
  split_ifs with hbias
  · obtain ⟨pa, hp⟩ := (hb hbias).placed
    rw [Run.reads_placed, List.map_map]
    · rfl
    · intro r hr
      obtain ⟨j, hj, rfl⟩ := List.mem_map.1 hr
      exact ⟨_, hp.part (j * 4) (by have := List.mem_range.1 hj; omega)⟩
  · rfl

/-- The run of an integer tile: its rows are written, its flags set and its accumulators kept. -/
theorem Tile.Plain.run (hr : ∀ r ∈ t.planeA.ranges ++ t.reads, s.MemOk x.c x.env false r.1 r.2)
    (hw : ∀ w ∈ s.tileWrites x.c t, s.MemOk x.c x.env true w.1 w.2.length) : ∃ fl acc, t.run ⟨s, none⟩ x none =
      .done ((((s.tileWrites x.c t).foldl (State.engWrite x) s).setEngFlags x.c 0 fl).modCore x.c (fun k => { k with acc := acc })) := by
  have hA : ∀ r ∈ t.planeA.ranges, s.MemOk x.c x.env false r.1 r.2 := fun r hm => hr r (List.mem_append_left _ hm)
  obtain ⟨hB, hC, hb⟩ := h.mem_reads fun r hm => hr r (List.mem_append_right _ hm)
  have hmat : (if t.acc then (⟨s, none⟩ : Run).plane x t.planeC else (⟨s, none⟩, [])) = (⟨s, none⟩, s.tileMatC x.c t) := by
    unfold State.tileMatC
    split_ifs with hacc
    · exact Run.plane_ok rfl (hC hacc)
    · rfl
  have hentries : t.entriesOk (s.tileEntries x.c t) = true := by
    unfold Tile.entriesOk
    rw [h.pcq]
    rfl
  unfold Tile.run
  dsimp only
  rw [Run.plane_ok h.mxA hA]
  dsimp only
  rw [Run.plane_ok (by rw [h.planeB]; exact h.mxB) hB]
  dsimp only
  rw [hmat]
  dsimp only
  rw [h.entries hb]
  dsimp only
  rw [if_neg (by rw [hentries]; simp), h.sums, h.result, h.ofmt, h.onwrap, State.tileWrites_eq, Run.write_ok hw]
  exact ⟨_, _, rfl⟩

end

theorem State.setEngFlags_modCore (s : State) (n base fl m : Nat) (g : Core → Core) :
    (s.setEngFlags n base fl).modCore m g = (s.modCore m g).setEngFlags n base fl := by
  unfold State.setEngFlags
  split_ifs
  · rfl
  · rfl

theorem byte_modCore (s : State) (n : Nat) (g : Core → Core) (y : Nat) : (s.modCore n g).byte y = s.byte y :=
  State.byte_congr (State.modCore_mem ..) (State.modCore_memGen ..) y

/-- An element of a row of D, as the low 32 bits of its exact sum. -/
theorem State.elemAt_tileRow (s : State) (c : CoreId) (t : Tile) (i : Nat) {j : Nat} (hj : j < t.n) :
    (elemAt 32 (leNat (s.tileRow c t i)) j : Int) = s.tileSum c t i j % 2 ^ 32 := by
  rw [State.tileRow, leNat_leBytes, show (256 : Nat) ^ (4 * t.n) = 2 ^ (8 * (4 * t.n)) from (pow_mul 2 8 _).symm,
    elemAt_mod_of_le _ (by omega), elemAt_packElems, getD_map_range _ _ _ hj, Int.natCast_mod, bitsOf_cast]
  exact (Int.emod_emod_of_dvd _ dvd_rfl).trans (wrapInt_mod 3 _)

theorem State.bias_elem (s : State) (c : CoreId) (t : Tile) {j : Nat} (hj : j < t.n) :
    intOf 3 (elemAt (fmtBits 3) (s.seen c (t.biasAt + 0 * 0) (rowBytes 3 t.n)) j) = sint 32 (s.seen c (t.biasAt + j * 4) 4) := by
  rw [rowBytes_words, Nat.mul_comm 4, ← elemAt_seen s c t.biasAt 4 hj]
  rfl

/-- The value of an element of a matrix of integers in memory. -/
def State.intElem (s : State) (c : CoreId) (fmt base stride cols i j : Nat) : Int :=
  intOf fmt (elemAt (fmtBits fmt) (s.seen c (base + i * stride) (rowBytes fmt cols)) j)

/-- The exact sum in terms of the elements in memory. -/
theorem Tile.Plain.tileSum_eq {t : Tile} (h : t.Plain) (s : State) (c : CoreId) (i : Nat) {j : Nat} (hj : j < t.n) : s.tileSum c t i j =
    (if t.acc then s.intElem c 3 t.c t.cStride t.n i j else 0) +
      ((List.range t.k).map (fun q => s.intElem c t.afmt t.a t.aStride t.k i q * s.intElem c t.bfmt t.b t.bStride t.n q j)).sum +
      (if t.bias then s.intElem c 3 t.biasAt 0 t.n 0 j else 0) := by
  have hB (q : Nat) : intOf t.bfmt (s.matElem c t.planeB q j) = s.intElem c t.bfmt t.b t.bStride t.n q j := by
    rw [h.planeB]
    rfl
  unfold State.tileSum State.tileBias
  rw [← s.bias_elem c t hj]
  simp only [hB]
  rfl

section
variable {s : State} {c : CoreId} {f : IFields} {a b d : Word} {env : DispEnv}

theorem next_tdsetw (h : s.Runs c .tdsetw f a b d env) (hd : f.dst.toNat < 16) (hi : f.imm8 < 16) :
    exec (.tdsetw c) s = .next (((s.started c .tdsetw env).modCore c (fun q => { q with
      t := SMap.set (fun _ => 0) q.t (16 * f.dst.toNat + f.imm8) (a.setWidth 32) })).engineDone (engOf c .tdsetw env) .tdsetw) := by
  have hrun := next_configures (op := .tdsetw) (i := .tdsetw c) h rfl rfl
    (checks_one (Bool.and_eq_true_iff.2 ⟨decide_eq_true hd, decide_eq_true hi⟩)) fun _ => rfl
  rw [Nat.mod_eq_of_lt hi] at hrun
  exact hrun

theorem next_tmma {t : Tile} (h : s.Runs c .tmma f a b d env) (ht : Tile.of (((s.started c .tmma env).core c).tReg f.srcA.toNat) = t)
    (hp : t.Plain) (hA : f.srcA.toNat < 16) (hd : f.dst = 0) (hB : f.srcB = 0)
    (hr : ∀ r ∈ t.planeA.ranges ++ t.reads, (s.started c .tmma env).MemOk c env false r.1 r.2)
    (hw : ∀ r ∈ t.planeD.ranges, (s.started c .tmma env).MemOk c env true r.1 r.2) :
    ∃ fl acc, exec (.tmma c) s = .next ((((((s.started c .tmma env).tileWrites c t).foldl (State.engWrite (engOf c .tmma env))
      (s.started c .tmma env)).modCore c (fun k => { k with acc := acc })).setEngFlags c 0 fl).engineDone (engOf c .tmma env) .tmma) ∧
      ∀ w ∈ (s.started c .tmma env).tileWrites c t, (s.started c .tmma env).MemOk c env true w.1 w.2.length := by
  have hws : ∀ w ∈ (s.started c .tmma env).tileWrites c t, (s.started c .tmma env).MemOk c env true w.1 w.2.length := by
    intro w hm
    obtain ⟨i, hi, rfl⟩ := List.mem_map.1 hm
    dsimp only
    rw [State.tileRow, leBytes_length, ← rowBytes_words]
    refine hw (t.d + i * t.dStride, rowBytes 3 t.n) ?_
    rw [hp.planeD, Plane.ranges_plain rfl]
    exact List.mem_map.2 ⟨i, hi, rfl⟩
  obtain ⟨fl, acc, hrun⟩ := hp.run (x := engOf c .tmma env) hr hws
  refine ⟨fl, acc, ?_, hws⟩
  rw [← State.setEngFlags_modCore]
  refine next_runs (op := .tmma) (i := .tmma c) h rfl (run := fun run => t.run run (engOf c .tmma env) none) (checks := [(f.srcA.toNat < 16 && f.dst == 0 && f.srcB == 0, exOPERAND, 0),
    (t.fmtOk, exFORMAT, 0), (t.descOk, exDESC, 0), (t.alignOk, exALIGN, 0)]) ?_ (List.forall_mem_cons.2 ⟨?_, List.forall_mem_cons.2
      ⟨hp.fmtOk, checks_two hp.descOk hp.alignOk⟩⟩) hr hw hrun ?_
  · dsimp only
    rw [ht, hp.unf, if_neg Bool.false_ne_true]
    rfl
  · rw [decide_eq_true hA, hd, hB]
    rfl
  · rw [State.core_modCore_same, State.core_setEngFlags, (State.started_writes hws).1.core]

end

/-- Settles O27: the rows of D as the packed sums of `tileSum`, written one after the other. -/
theorem tensorResults : Obligations.TensorResults := by
  intro c f a b d env s
  refine ⟨fun h hd hi => next_tdsetw h hd hi, ?_⟩
  intro h hA hd hB s1 t h1 h2 h3 h4 h5 h6 h7 h8 hr hw hap el
  have hp : t.Plain := ⟨h1, h2, h3, h4, h5, h6, h7, h8⟩
  obtain ⟨fl, acc, hexec, hws⟩ := next_tmma h rfl hp hA hd hB hr hw
  have hwrites := State.started_writes hws
  obtain ⟨hkeep, hrows⟩ := State.Writes1.range hwrites fun i _ => leBytes_length (4 * t.n) _
  refine ⟨_, fl, acc, hexec, hwrites.1.modCore_cores _ _, (State.modCore_regs ..).trans hwrites.1.regs, fun i j hi hj => ?_,
    fun y hy => (byte_modCore ..).trans (hkeep y hy)⟩
  have hseen := hrows i hi fun i' j' j hlt hi' hj' hj hmeet => hap i i' j j' hlt hi' hj hj' hmeet.symm
  rw [State.seen_modCore, hseen, s1.elemAt_tileRow c t i hj]
  exact congrArg (· % 2 ^ 32) (hp.tileSum_eq s1 c i hj)

/-! ### Lanewise arithmetic and random lanes (R310, R311) -/

theorem mod_p61_lt (x : Nat) : x % p61 < 2 ^ 64 := by
  unfold p61
  omega

/-- A difference modulo p (R310). -/
theorem sub_p61 (a b : Nat) : (((a + (p61 - b % p61)) % p61 : Nat) : Int) = ((a : Int) - b) % (p61 : Int) := by
  unfold p61
  omega

/-- What an operation on lanes leaves in its register: nothing else has changed but what a random request counts. -/
def State.SetsLanes (s s1 : State) (c : CoreId) (env : DispEnv) (dst : Nat) (op : EOp) (i : Instr) (P : Nat → Prop) : Prop :=
  ∃ (r free : Nat) (keep : KeepSt), exec i s = .next ((({ s1 with freeCtr := free, keep := keep } : State).modCore c
    (fun q => q.setM dst r)).engineDone (engOf c op env) op) ∧ P r

section
variable {s : State} {c : CoreId} {op : EOp} {f : IFields} {a b d : Word} {env : DispEnv} (h : s.Runs c op f a b d env) {i : Instr}
include h

/-- A lanewise operation modulo p. -/
theorem next_laneOp {g : Nat → Nat → Nat → Nat} (he : exec i s = .next (s.laneOp c op g)) (hd : f.dst.toNat < 16) (hA : f.srcA.toNat < 16)
    (hB : f.srcB.toNat < 16) : s.SetsLanes (s.started c op env) c env f.dst.toNat op i (fun r => ∀ i, i < 32 → elemAt 64 r i =
      g (elemAt 64 (((s.started c op env).core c).mReg f.srcA.toNat) i) (elemAt 64 (((s.started c op env).core c).mReg f.srcB.toNat) i)
        (elemAt 64 (((s.started c op env).core c).mReg f.dst.toNat) i) % p61) := by
  refine ⟨mPack ((List.range 32).map fun i => g (elemAt 64 (((s.started c op env).core c).mReg f.srcA.toNat) i)
    (elemAt 64 (((s.started c op env).core c).mReg f.srcB.toNat) i) (elemAt 64 (((s.started c op env).core c).mReg f.dst.toNat) i) % p61),
    (s.started c op env).freeCtr, (s.started c op env).keep, ?_, fun i hi => elemAt_mPack _ hi (mod_p61_lt _)⟩
  have hcheck : (f.dst.toNat < 16 && f.srcA.toNat < 16 && f.srcB.toNat < 16 : Bool) = true := by simp [hd, hA, hB]
  refine (next_configures h he rfl (checks_one hcheck) fun k => k.queues_setM _ _).trans ?_
  exact congrArg (fun t : State => Host.Outcome.next (t.engineDone (engOf c op env) op)) (State.modCore_congr rfl)

end

section
variable {s : State} {c : CoreId} {f : IFields} {a b d : Word} {env : DispEnv}

theorem next_mred (h : s.Runs c .mred f a b d env) (hd : f.dst.toNat < 16) (hA : f.srcA.toNat < 16) (hB : f.srcB = 0) :
    s.SetsLanes (s.started c .mred env) c env f.dst.toNat .mred (.mred c) (fun r =>
      elemAt 64 r 0 = ((List.range 32).map (elemAt 64 (((s.started c .mred env).core c).mReg f.srcA.toNat))).sum % p61 ∧
        ∀ i, 1 ≤ i → elemAt 64 r i = 0) := by
  refine ⟨((List.range 32).map (elemAt 64 (((s.started c .mred env).core c).mReg f.srcA.toNat))).sum % p61,
    (s.started c .mred env).freeCtr, (s.started c .mred env).keep, ?_, elemAt_single (mod_p61_lt _)⟩
  have hcheck : (f.dst.toNat < 16 && f.srcA.toNat < 16 && f.srcB == 0 : Bool) = true := by simp [hd, hA, hB]
  refine (next_configures (op := .mred) (i := .mred c) h rfl rfl (checks_one hcheck) fun k => k.queues_setM _ _).trans ?_
  exact congrArg (fun t : State => Host.Outcome.next (t.engineDone (engOf c .mred env) .mred)) (State.modCore_congr rfl)

/-- A served request to the random source only counts. -/
theorem State.rngRequest_served {s : State} (h : s.keep.rng = true) : ∃ keep, s.rngRequest = ({ s with keep := keep }, true) := by
  unfold State.rngRequest
  rw [if_pos h]
  exact ⟨_, rfl⟩

theorem mrndLane_lt (one : Bool) (v : Nat) : mrndLane one v < 2 ^ 64 := by
  unfold mrndLane p61
  split_ifs <;> omega

theorem next_mrnd (h : s.Runs c .mrnd f a b d env) (hd : f.dst.toNat < 16) (hA : f.srcA = 0) (hB : f.srcB = 0)
    (hrng : (s.started c .mrnd env).keep.rng = true) :
    s.SetsLanes (s.started c .mrnd env) c env f.dst.toNat .mrnd (.mrnd c) (fun r => ∀ i, i < 32 → ∃ v,
      elemAt 64 r i = mrndLane (f.low3 % 2 == 1) v) := by
  obtain ⟨keep, hreq⟩ := State.rngRequest_served hrng
  have hcheck : (f.dst.toNat < 16 && f.srcA == 0 && f.srcB == 0 : Bool) = true := by simp [hd, hA, hB]
  refine ⟨mPack ((List.range 32).map fun i => mrndLane (f.low3 % 2 == 1) (Config.freeNat ((s.started c .mrnd env).freeCtr + i))),
    (s.started c .mrnd env).freeCtr + 32, keep, next_runs (op := .mrnd) (i := .mrnd c) h rfl rfl (checks_one hcheck) (List.forall_mem_nil _)
      (List.forall_mem_nil _) ?_ ?_, fun i hi => ⟨_, elemAt_mPack _ hi (mrndLane_lt _ _)⟩⟩
  · dsimp only
    rw [hreq]
    rfl
  · rw [State.core_modCore_same, Core.queues_setM]
    rfl

end

/-! ### Matrix-vector products (R308, R309) -/

/-- A sum of products modulo p from a start below p. -/
theorem foldl_mod_p61 {l : List Nat} {x v : Nat → Nat} (s0 : Nat) (h0 : s0 < p61) :
    (l.foldl (fun s i => (s + x i * v i) % p61) s0 : Nat) = (s0 + (l.map (fun i => x i * v i)).sum) % p61 := by
  induction l generalizing s0 with
  | nil => simp [Nat.mod_eq_of_lt h0]
  | cons i l ih =>
    rw [List.foldl_cons, ih _ (Nat.mod_lt _ (by decide)), List.map_cons, List.sum_cons, Nat.mod_add_mod, Nat.add_assoc]

/-- The residue sum of a row is that of its integers (R306, R308). -/
theorem dotRes_eq (l : List Nat) (x : Nat → Int) (v : Nat → Nat) :
    dotRes (l.map (fun i => resInt (x i))) (l.map (fun i => if v i = p61 then 0 else v i)) = ((l.map (fun i => x i * v i)).sum % (p61 : Int)).toNat := by
  unfold dotRes
  rw [List.zip_map', List.foldl_map, foldl_mod_p61 0 (by decide), Nat.zero_add]
  have hterm (i : Nat) : ((resInt (x i) * (if v i = p61 then 0 else v i) : Nat) : Int) ≡ x i * v i [ZMOD p61] := by
    have hx : ((resInt (x i) : Nat) : Int) ≡ x i [ZMOD p61] := by
      rw [resInt, Int.toNat_of_nonneg (Int.emod_nonneg _ (by decide))]
      exact Int.mod_modEq _ _
    rw [Nat.cast_mul]
    refine hx.mul ?_
    split_ifs with hv
    · rw [hv]
      exact (Int.emod_self (a := (p61 : Int))).symm
    · rfl
  have hsum : (((l.map (fun i => resInt (x i) * (if v i = p61 then 0 else v i))).sum : Nat) : Int) ≡ (l.map (fun i => x i * v i)).sum [ZMOD p61] := by
    induction l with
    | nil => rfl
    | cons i l ih =>
      rw [List.map_cons, List.sum_cons, List.map_cons, List.sum_cons, Nat.cast_add]
      exact (hterm i).add ih
  have hmod : (((l.map (fun i => resInt (x i) * (if v i = p61 then 0 else v i))).sum % p61 : Nat) : Int) = (l.map (fun i => x i * v i)).sum % (p61 : Int) := by
    rw [Int.natCast_mod]
    exact hsum
  rw [← hmod, Int.toNat_natCast]

/-- A residue descriptor of one vector, one output and a matrix as it stands, which passes the checks of R307. -/
structure ResDesc.Simple (e : ResDesc) (float : Bool) : Prop where
  descOk : e.descOk float = true
  fmtOk : e.fmtOk float = true
  alignOk : e.alignOk = true
  unf : e.unf = false
  two : e.two = false
  trans : e.trans = false
  bound : e.bound = false
  int : float = false → e.fmt ≤ 4

namespace ResDesc.Simple
variable {e : ResDesc} {float : Bool} (h : e.Simple float)
include h

theorem vectors : e.vectors = [e.v0] := by rw [ResDesc.vectors, h.two, if_neg Bool.false_ne_true]
theorem outputs : e.outputs = [e.y0] := by rw [ResDesc.outputs, h.two, h.bound, if_neg Bool.false_ne_true, if_neg Bool.false_ne_true]; rfl
theorem vLen : e.vLen = e.cols := by rw [ResDesc.vLen, h.trans, if_neg Bool.false_ne_true]
theorem yLen : e.yLen = e.rows := by rw [ResDesc.yLen, h.trans, if_neg Bool.false_ne_true]

theorem noMx : fmtIsMx e.plane.fmt = false := by
  have hle : e.fmt ≤ 9 := by
    cases float
    · exact (h.int rfl).trans (by decide)
    · have hf := h.fmtOk
      rw [ResDesc.fmtOk, if_pos rfl, fmtIsFloat, Bool.and_eq_true, decide_eq_true_eq, decide_eq_true_eq] at hf
      exact hf.2
  rw [fmtIsMx, Bool.and_eq_false_iff, decide_eq_false_iff_not]
  exact .inl (by change ¬ 10 ≤ e.fmt; omega)

end ResDesc.Simple

/-- The rows written by a product of `size` bytes per element. -/
def ResDesc.bytesOf (e : ResDesc) (size : Nat) (y : Nat → Nat) : List Byte := ((List.range e.rows).map (fun i => leBytes size (y i))).flatten

theorem ResDesc.bytesOf_length (e : ResDesc) (size : Nat) (y : Nat → Nat) : (e.bytesOf size y).length = e.rows * size := by
  simp [ResDesc.bytesOf, List.length_flatten, Function.comp_def]

/-- The elements of an output array. -/
theorem ResDesc.elemAt_bytesOf (e : ResDesc) (size : Nat) (y : Nat → Nat) {i : Nat} (hi : i < e.rows) :
    elemAt (8 * size) (leNat (e.bytesOf size y)) i = y i % 2 ^ (8 * size) := by
  have hmap : e.bytesOf size y = (((List.range e.rows).map y).map (leBytes size)).flatten := by rw [List.map_map]; rfl
  rw [hmap, leNat_flatten, elemAt_packElems, getD_map_range _ _ _ hi]

section
variable {s : State} {x : Eng} {e : ResDesc}

/-- The value of an integer row times the vector, modulo p (R308). -/
def State.residueDot (s : State) (c : CoreId) (e : ResDesc) (i : Nat) : Nat :=
  (((List.range e.cols).map (fun j => intOf e.fmt (s.matElem c e.plane i j) * (elemAt 64 (s.seen c e.v0 (e.cols * 8)) j : Nat))).sum % (p61 : Int)).toNat

/-- The floating sum of a row times the vector, with its flags (R279, R309). -/
def State.floatDot (s : State) (c : CoreId) (e : ResDesc) (i : Nat) : FV × Nat :=
  dotFloat FV.zero ((List.range e.cols).map (fun j => elemVal e.fmt false (s.matElem c e.plane i j)))
    ((List.range e.cols).map (fun j => fmtF32.decode (elemAt 32 (s.seen c e.v0 (e.cols * 4)) j)))

/-- The run of MMV on an integer matrix. -/
theorem ResDesc.Simple.mmv (h : e.Simple false) (hv : s.MemOk x.c x.env false e.v0 (e.cols * 8))
    (hlt : ∀ j, j < e.cols → elemAt 64 (s.seen x.c e.v0 (e.cols * 8)) j < 2 ^ 61) (hw : s.MemOk x.c x.env true e.y0 (e.rows * 8)) :
    e.mmv x (⟨s, none⟩, s.matOf x.c e.plane) = .done (s.engWrite x (e.y0, e.bytesOf 8 (s.residueDot x.c e))) := by
  have hall : ∀ w ∈ [(e.y0, e.bytesOf 8 (s.residueDot x.c e))], s.MemOk x.c x.env true w.1 w.2.length := by
    rw [List.forall_mem_singleton, ResDesc.bytesOf_length]
    exact hw
  have hm61 : (⟨s, none⟩ : Run).m61 e.v0 8 (unpack 64 e.cols (s.seenBytes x.c e.v0 (e.cols * 8))) = (⟨s, none⟩, (List.range e.cols).map (fun j =>
      if elemAt 64 (s.seen x.c e.v0 (e.cols * 8)) j = p61 then 0 else elemAt 64 (s.seen x.c e.v0 (e.cols * 8)) j)) := by
    rw [Run.m61_ok, unpack_eq, List.map_map]
    · rfl
    · intro v hm
      rw [unpack_eq] at hm
      obtain ⟨j, hj, rfl⟩ := List.mem_map.1 hm
      exact hlt j (List.mem_range.1 hj)
  have hrows : (s.matOf x.c e.plane).map (fun l => (rowInts e.fmt l).map resInt) = (List.range e.rows).map (fun i =>
      (List.range e.cols).map (fun j => resInt (intOf e.fmt (s.matElem x.c e.plane i j)))) := by
    rw [State.matOf, List.map_map]
    refine List.map_congr_left fun i _ => ?_
    dsimp only [Function.comp_apply]
    rw [rowInts_map, List.map_map]
    rfl
  have hreads : (⟨s, none⟩ : Run).reads x ([e.v0].map (fun a => (a, e.cols * 8))) = (⟨s, none⟩, [s.seenBytes x.c e.v0 (e.cols * 8)]) :=
    Run.reads_ok (List.forall_mem_singleton.2 hv)
  have hvs : ([s.seenBytes x.c e.v0 (e.cols * 8)].zip [e.v0]).foldl (fun g w => ((g.1.m61 w.2 8 (unpack 64 e.cols w.1)).1,
      g.2 ++ [(g.1.m61 w.2 8 (unpack 64 e.cols w.1)).2])) ((⟨s, none⟩ : Run), []) = (⟨s, none⟩, [(List.range e.cols).map (fun j =>
        if elemAt 64 (s.seen x.c e.v0 (e.cols * 8)) j = p61 then 0 else elemAt 64 (s.seen x.c e.v0 (e.cols * 8)) j)]) := by
    rw [show [s.seenBytes x.c e.v0 (e.cols * 8)].zip [e.v0] = [(s.seenBytes x.c e.v0 (e.cols * 8), e.v0)] from rfl, List.foldl_cons, List.foldl_nil, hm61]
    rfl
  have hbytes : ((List.range e.rows).map ((fun l => leBytes 8 (dotRes l ((List.range e.cols).map (fun j =>
      if elemAt 64 (s.seen x.c e.v0 (e.cols * 8)) j = p61 then 0 else elemAt 64 (s.seen x.c e.v0 (e.cols * 8)) j)))) ∘
        fun i => (List.range e.cols).map (fun j => resInt (intOf e.fmt (s.matElem x.c e.plane i j))))).flatten = e.bytesOf 8 (s.residueDot x.c e) := by
    unfold ResDesc.bytesOf State.residueDot
    refine congrArg List.flatten (List.map_congr_left fun i _ => ?_)
    dsimp only [Function.comp_apply]
    rw [dotRes_eq]
  have hfmt : e.fmt ≠ 0xE := fun he => absurd (he ▸ h.int rfl) (by decide)
  unfold ResDesc.mmv
  rw [h.vectors, h.vLen, h.outputs, h.trans]
  dsimp only
  rw [hreads, if_neg hfmt, if_neg Bool.false_ne_true, hrows]
  rw [hvs]
  dsimp only
  rw [show [_].zip [e.y0] = [(_, e.y0)] from rfl, List.map_singleton, List.map_map, hbytes, Run.write_ok hall]
  rfl

/-- The run of MMVF on a floating matrix. -/
theorem ResDesc.Simple.mmvf (h : e.Simple true) (hv : s.MemOk x.c x.env false e.v0 (e.cols * 4)) (hw : s.MemOk x.c x.env true e.y0 (e.rows * 4)) :
    ∃ fl, e.mmvf x (⟨s, none⟩, s.matOf x.c e.plane) =
      .done ((s.engWrite x (e.y0, e.bytesOf 4 (fun i => fmtF32.encode (s.floatDot x.c e i).1))).setEngFlags x.c 8 fl) := by
  have hall : ∀ w ∈ [(e.y0, e.bytesOf 4 (fun i => fmtF32.encode (s.floatDot x.c e i).1))], s.MemOk x.c x.env true w.1 w.2.length := by
    rw [List.forall_mem_singleton, ResDesc.bytesOf_length]
    exact hw
  have hreads : (⟨s, none⟩ : Run).reads x ([e.v0].map (fun a => (a, e.cols * 4))) = (⟨s, none⟩, [s.seenBytes x.c e.v0 (e.cols * 4)]) :=
    Run.reads_ok (List.forall_mem_singleton.2 hv)
  have hmx : fmtIsMx e.fmt = false := h.noMx
  have hrows : (s.matOf x.c e.plane).map (rowVals e.fmt false) = (List.range e.rows).map (fun i =>
      (List.range e.cols).map (fun j => elemVal e.fmt false (s.matElem x.c e.plane i j))) := by
    rw [State.matOf, List.map_map]
    refine List.map_congr_left fun i _ => ?_
    dsimp only [Function.comp_apply]
    rw [rowVals, hmx, List.map_map]
    rfl
  have hvec : (unpack 32 e.cols (s.seenBytes x.c e.v0 (e.cols * 4))).map fmtF32.decode =
      (List.range e.cols).map (fun j => fmtF32.decode (elemAt 32 (s.seen x.c e.v0 (e.cols * 4)) j)) := by
    rw [unpack_eq, List.map_map]
    rfl
  have hdots : ((s.matOf x.c e.plane).map (rowVals e.fmt false)).map (fun l => dotFloat FV.zero l
      ((unpack 32 e.cols (s.seenBytes x.c e.v0 (e.cols * 4))).map fmtF32.decode)) = (List.range e.rows).map (s.floatDot x.c e) := by
    rw [hrows, hvec, List.map_map]
    rfl
  have hzip : (collect [collect ((List.range e.rows).map (s.floatDot x.c e))]).1.zip [e.y0] =
      [((collect ((List.range e.rows).map (s.floatDot x.c e))).1, e.y0)] := rfl
  have hbytes : ((collect ((List.range e.rows).map (s.floatDot x.c e))).1.map (fun y => leBytes 4 (fmtF32.encode y))).flatten =
      e.bytesOf 4 (fun i => fmtF32.encode (s.floatDot x.c e i).1) := by
    rw [collect, List.map_map, List.map_map]
    rfl
  unfold ResDesc.mmvf ResDesc.lines
  rw [h.vectors, h.vLen, h.outputs, h.trans, h.bound, if_neg Bool.false_ne_true]
  dsimp only
  rw [hreads, if_neg Bool.false_ne_true, if_neg Bool.false_ne_true, List.map_singleton, List.map_singleton, hdots, List.append_nil, hzip,
    List.map_singleton, hbytes, Run.write_ok hall]
  exact ⟨_, rfl⟩

end

section
variable {s : State} {c : CoreId} {op : EOp} {f : IFields} {a b d : Word} {env : DispEnv} {float : Bool} {e : ResDesc} {size : Nat}

/-- A matrix-vector instruction whose descriptor and ranges no rule refuses runs its product. -/
theorem next_matVec (h : s.Runs c op f a b d env) {i : Instr} (he : exec i s = .next (s.matVec c op float)) (ha : a.toNat % 64 = 0)
    (hm : (s.started c op env).MemOk c env false a.toNat 64) (hdesc : ResDesc.of ((s.started c op env).seen c a.toNat 64) = e)
    (hs : e.Simple float) (hsize : (if float then 4 else 8) = size)
    (hr : ∀ r ∈ e.plane.ranges ++ [(e.v0, e.cols * size)], (s.started c op env).MemOk c env false r.1 r.2)
    (hw : (s.started c op env).MemOk c env true e.y0 (e.rows * size)) {u : State}
    (hgo : (if float then e.mmvf (engOf c op env) (⟨s.started c op env, none⟩, (s.started c op env).matOf c e.plane)
      else e.mmv (engOf c op env) (⟨s.started c op env, none⟩, (s.started c op env).matOf c e.plane)) = .done u)
    (hq : u.core c = (s.started c op env).core c) : exec i s = .next (u.engineDone (engOf c op env) op) := by
  refine next_runs h he rfl (checks_one (beq_iff_eq.2 ha)) (List.forall_mem_singleton.2 hm) (List.forall_mem_nil _) ?_ (by rw [hq])
  dsimp only
  rw [Run.read_ok (x := engOf c op env) hm]
  dsimp only
  rw [show ResDesc.of (leNat ((s.started c op env).seenBytes c a.toNat 64)) = e from hdesc, hs.unf, hs.vectors, hs.outputs, hs.vLen, hs.yLen,
    List.map_singleton, List.map_singleton, hsize]
  rw [if_neg (by exact Bool.false_ne_true), if_neg Bool.false_ne_true, State.guarded_runs (x := engOf c op env)
    (List.forall_mem_cons.2 ⟨hs.fmtOk, checks_two hs.descOk hs.alignOk⟩) hr (List.forall_mem_singleton.2 hw),
    Run.plane_ok (x := engOf c op env) hs.noMx fun r hm => hr r (List.mem_append_left _ hm)]
  exact hgo

/-- The array that a product writes, and nothing else of memory. -/
theorem State.product_written {op : EOp} {y : Nat → Nat} (hw : (s.started c op env).MemOk c env true e.y0 (e.rows * size)) :
    let u := (s.started c op env).engWrite (engOf c op env) (e.y0, e.bytesOf size y)
    (s.started c op env).Stored u ∧ (∀ i, i < e.rows → elemAt (8 * size) (u.seen c e.y0 (e.rows * size)) i = y i % 2 ^ (8 * size)) ∧
      ∀ z, (∀ j, j < e.rows * size → s.loc (some c) (e.y0 + j) ≠ .mem z) → u.byte z = s.byte z := by
  intro u
  have hlen := e.bytesOf_length size y
  have hall : ∀ w ∈ [(e.y0, e.bytesOf size y)], (s.started c op env).MemOk c env true w.1 w.2.length := by
    rw [List.forall_mem_singleton, hlen]
    exact hw
  obtain ⟨hst, hkeep, hsee⟩ := (State.started_writes hall).single
  have hseen := State.seen_of_see hsee
  rw [hlen] at hkeep hseen
  exact ⟨hst, fun i hi => (congrArg (elemAt (8 * size) · i) hseen).trans (e.elemAt_bytesOf size y hi), hkeep⟩

end

section
variable {s : State} {c : CoreId} {f : IFields} {a b d : Word} {env : DispEnv} {e : ResDesc}

theorem next_mmv (h : s.Runs c .mmv f a b d env) (ha : a.toNat % 64 = 0) (hm : (s.started c .mmv env).MemOk c env false a.toNat 64)
    (hdesc : ResDesc.of ((s.started c .mmv env).seen c a.toNat 64) = e) (hs : e.Simple false)
    (hr : ∀ r ∈ e.plane.ranges ++ [(e.v0, e.cols * 8)], (s.started c .mmv env).MemOk c env false r.1 r.2)
    (hw : (s.started c .mmv env).MemOk c env true e.y0 (e.rows * 8))
    (hv : ∀ j, j < e.cols → elemAt 64 ((s.started c .mmv env).seen c e.v0 (e.cols * 8)) j < 2 ^ 61) :
    ∃ u : State, exec (.mmv c) s = .next (u.engineDone (engOf c .mmv env) .mmv) ∧ u.cores = (s.started c .mmv env).cores ∧
      u.regs = (s.started c .mmv env).regs ∧
      (∀ i, i < e.rows → elemAt 64 (u.seen c e.y0 (e.rows * 8)) i = (s.started c .mmv env).residueDot c e i) ∧
      ∀ z, (∀ j, j < e.rows * 8 → s.loc (some c) (e.y0 + j) ≠ .mem z) → u.byte z = s.byte z := by
  obtain ⟨hst, helem, hkeep⟩ := State.product_written (op := .mmv) (y := (s.started c .mmv env).residueDot c e) hw
  refine ⟨_, next_matVec (op := .mmv) (i := .mmv c) h rfl ha hm hdesc hs rfl hr hw (hs.mmv (x := engOf c .mmv env)
    (hr (e.v0, e.cols * 8) (List.mem_append_right _ (List.mem_singleton_self _))) hv hw) (hst.core c), hst.cores, hst.regs, fun i hi => ?_, hkeep⟩
  refine (helem i hi).trans (Nat.mod_eq_of_lt ?_)
  unfold State.residueDot p61
  omega

theorem next_mmvf (h : s.Runs c .mmvf f a b d env) (ha : a.toNat % 64 = 0) (hm : (s.started c .mmvf env).MemOk c env false a.toNat 64)
    (hdesc : ResDesc.of ((s.started c .mmvf env).seen c a.toNat 64) = e) (hs : e.Simple true)
    (hr : ∀ r ∈ e.plane.ranges ++ [(e.v0, e.cols * 4)], (s.started c .mmvf env).MemOk c env false r.1 r.2)
    (hw : (s.started c .mmvf env).MemOk c env true e.y0 (e.rows * 4)) :
    ∃ (u : State) (fl : Nat), exec (.mmvf c) s = .next ((u.setEngFlags c 8 fl).engineDone (engOf c .mmvf env) .mmvf) ∧
      u.cores = (s.started c .mmvf env).cores ∧ u.regs = (s.started c .mmvf env).regs ∧
      (∀ i, i < e.rows → elemAt 32 (u.seen c e.y0 (e.rows * 4)) i = fmtF32.encode ((s.started c .mmvf env).floatDot c e i).1 % 2 ^ 32) ∧
      ∀ z, (∀ j, j < e.rows * 4 → s.loc (some c) (e.y0 + j) ≠ .mem z) → u.byte z = s.byte z := by
  obtain ⟨hst, helem, hkeep⟩ := State.product_written (op := .mmvf)
    (y := fun i => fmtF32.encode ((s.started c .mmvf env).floatDot c e i).1) hw
  obtain ⟨fl, hfl⟩ := hs.mmvf (x := engOf c .mmvf env) (hr (e.v0, e.cols * 4) (List.mem_append_right _ (List.mem_singleton_self _))) hw
  exact ⟨_, fl, next_matVec (op := .mmvf) (i := .mmvf c) h rfl ha hm hdesc hs rfl hr hw hfl ((State.core_setEngFlags ..).trans (hst.core c)),
    hst.cores, hst.regs, helem, hkeep⟩

end

/-- Settles O28: the lanes from `next_laneOp`, the products from `next_mmv` and `next_mmvf`. -/
theorem residueResults : Obligations.ResidueResults := by
  intro c f a b d env s p s1 k sets lane
  refine ⟨fun hA => ⟨fun hB => ⟨fun h hd => next_laneOp (i := .madd c) (g := fun a b _ => a + b) h rfl hd hA hB, fun h hd => ?_,
      fun h hd => next_laneOp (i := .mmul c) (g := fun a b _ => a * b) h rfl hd hA hB,
      fun h hd => next_laneOp (i := .mmac c) (g := fun a b d => d + a * b) h rfl hd hA hB⟩, fun hB h hd => next_mred h hd hA hB⟩, fun hA hB hrng => ⟨fun hl h hd => ?_, fun hl h hd => ?_⟩, ?_⟩
  · obtain ⟨r, free, keep, hexec, hr⟩ := next_laneOp (op := .msub) (i := .msub c) h rfl hd hA hB
    exact ⟨r, free, keep, hexec, fun i hi => (congrArg Nat.cast (hr i hi)).trans (sub_p61 _ _)⟩
  · obtain ⟨r, free, keep, hexec, hr⟩ := next_mrnd h hd hA hB hrng
    refine ⟨r, free, keep, hexec, fun i hi => ?_⟩
    obtain ⟨v, hv⟩ := hr i hi
    rw [hv, hl]
    exact Nat.mod_lt _ (by decide)
  · obtain ⟨r, free, keep, hexec, hr⟩ := next_mrnd h hd hA hB hrng
    refine ⟨r, free, keep, hexec, fun i hi => ?_⟩
    obtain ⟨v, hv⟩ := hr i hi
    rw [hv, hl]
    unfold mrndLane
    rw [if_pos (by decide)]
    exact ite_eq_or_eq _ _ _
  · intro float
    cases float
    · intro op h ha hm e h1 h2 h3 h4 h5 h6 h7 h8 n hr hw x v hv
      obtain ⟨u, hexec, hcores, hregs, helem, hkeep⟩ := next_mmv h ha hm rfl ⟨h1, h2, h3, h4, h5, h6, h7, h8⟩ hr hw (hv rfl)
      exact ⟨u, 0, 0, hexec, hcores, hregs, helem, hkeep⟩
    · intro op h ha hm e h1 h2 h3 h4 h5 h6 h7 h8 n hr hw x v hv
      obtain ⟨u, fl, hexec, hcores, hregs, helem, hkeep⟩ := next_mmvf h ha hm rfl ⟨h1, h2, h3, h4, h5, h6, h7, h8⟩ hr hw
      exact ⟨u, fl, u.freeCtr, hexec, hcores, hregs, helem, hkeep⟩

end Sys2Proof.Machine
end

section
-- One proof after another: what waits for another costs the check memory.
set_option Elab.async false
/-! SUPPORT. The services and the end of a program, slots, what the device's own operations reach, and what trips it (R87–R100, R126, R261–R265, R355–R379, R393, R410, R558–R561) -/
namespace Sys2Proof.Machine

/-! ### Jobs (R401–R410) -/

theorem State.job_some {s : State} {r f : Nat} {j : Job} (h : s.job r f = some j) : j ∈ s.jobs.jobs ∧ j.route = r ∧ j.frame = f := by
  have hp := List.find?_some h
  rw [Bool.and_eq_true, beq_iff_eq, beq_iff_eq] at hp
  exact ⟨List.mem_of_find?_eq_some h, hp⟩

theorem State.job_congr {s t : State} (h : t.jobs.jobs = s.jobs.jobs) (r f : Nat) : t.job r f = s.job r f := by
  unfold State.job
  rw [h]

/-- A job changed in place. -/
theorem State.job_modJob {s : State} {r f : Nat} {j : Job} (h : s.job r f = some j) {g : Job → Job}
    (hg : ∀ j, (g j).route = j.route ∧ (g j).frame = j.frame) : (s.modJob r f g).job r f = some (g j) := by
  obtain ⟨-, hr, hf⟩ := State.job_some h
  have hsame (x : Job) : (if x.route = r ∧ x.frame = f then g x else x).route = x.route ∧ (if x.route = r ∧ x.frame = f then g x else x).frame = x.frame := by
    split_ifs
    · exact hg x
    · exact ⟨rfl, rfl⟩
  change (s.jobs.jobs.map _).find? _ = _
  rw [List.find?_map]
  have hp : ((fun x : Job => x.route == r && x.frame == f) ∘ fun x => if x.route = r ∧ x.frame = f then g x else x) =
      fun x => x.route == r && x.frame == f := by
    funext x
    dsimp only [Function.comp_apply]
    rw [(hsame x).1, (hsame x).2]
  rw [hp, show s.jobs.jobs.find? _ = some j from h, Option.map_some, if_pos ⟨hr, hf⟩]

/-! ### Going back to a program (R234, R263) -/

/-- No event of the Steward is pending. -/
def noPend : Pend := ⟨[], 0, false, false, false, none⟩

/-- Without an event pending, no asynchronous exception of an ERET is. -/
theorem State.find_event_calm {s : State} {c : Nat} (h : (s.core c).pend = noPend) (l : Priv) :
    (s.events c).find? (fun v => v.1 == l && v.2.1.code < 0x40) = none := by
  unfold State.events
  dsimp only
  rw [h]
  dsimp only [noPend]
  by_cases ht : ((s.core c).ie .s && ((s.core c).rdCsr 0x18).getLsbD 1 && s.timerPending c) = true
  · rw [if_pos ht]
    simp
  · rw [if_neg ht]
    simp

/-- ERET of a core at S with nothing pending goes back to the level and place of the registers of S. -/
theorem State.eret_calm {s : State} {c : Nat} (hl : (s.core c).priv = .s) (h : (s.core c).pend = noPend) :
    s.eret c = (s.modCore c Core.eretClear).modCore c (fun k => k.eretReturn .s) := by
  rw [State.eret_return, hl]
  refine State.find_event_calm ?_ _
  rw [State.core_modCore_same]
  simpa [Core.eretClear, Core.retire] using h

theorem State.core_eret_calm {s : State} {c : Nat} (hl : (s.core c).priv = .s) (h : (s.core c).pend = noPend) :
    (s.eret c).core c = (s.core c).eretClear.eretReturn .s := by
  rw [State.eret_calm hl h, State.core_modCore_same, State.core_modCore_same]

section
variable {s u : State} {c : CoreId} {n : Nat} {run : SlotRun} {g : State → SlotRun → State} {k' : Core}

/-- A service answers in the registers and goes back to its program. -/
theorem State.serve_calm (h : s.Serves c n run) (hg : g s run = u) (hu : u.core c = k') (hpriv : k'.priv = (s.core c).priv)
    (hcsr : k'.csr = (s.core c).csr) (hpend : k'.pend = (s.core c).pend) : s.Resumed (s.serve c n g) c ∧ (s.serve c n g).regs = u.regs ∧
      (s.serve c n g).mem = u.mem ∧ (s.serve c n g).jobs = u.jobs ∧ (∀ q, ((s.serve c n g).core c).sreg q = k'.sreg q) ∧
      ((s.serve c n g).core c).slot = k'.slot := by
  obtain ⟨hin, hslot, hp, -, -⟩ := h
  have hrd (m : Nat) : k'.rdCsr m = (s.core c).rdCsr m := by rw [Core.rdCsr, hcsr]; rfl
  have hserve : s.serve c n g = u.eret c := by
    unfold State.serve
    rw [if_pos hin, hslot]
    exact congrArg (State.eret · c) hg
  simp only [State.inService, Bool.and_eq_true, beq_iff_eq] at hin
  obtain ⟨⟨⟨⟨⟨⟨⟨hs, -⟩, -⟩, -⟩, -⟩, -⟩, -⟩, hlevel⟩ := hin
  have hl : k'.priv = .s := hpriv.trans hs
  subst hu
  have hpend' : (u.core c).pend = noPend := hpend.trans hp
  have hcore := State.core_eret_calm hl hpend'
  rw [hserve]
  refine ⟨⟨?_, ?_, ?_, ?_⟩, ?_, ?_, ?_, fun q => ?_, ?_⟩
  · rw [hcore, Core.priv_eret hl, hrd, show excBase .s = 0x08 from rfl, hlevel]
    rfl
  · rw [hcore, Core.pc_eret hl, hrd]
    rfl
  · rw [hcore]
    rfl
  · rw [hcore, Core.inExc_eret hl]
  · rw [State.eret_calm hl hpend', State.modCore_regs, State.modCore_regs]
  · rw [State.eret_calm hl hpend', State.modCore_mem, State.modCore_mem]
  · rw [State.eret_calm hl hpend', State.modCore_jobs, State.modCore_jobs]
  · rw [hcore, Core.sreg_eret]
  · rw [hcore]
    simp [Core.eretReturn, Core.eretClear, Core.retire]

end

/-! ### Services that answer in the registers (R365, R375, R426, R503) -/

section
variable {s : State} {c : CoreId} {run : SlotRun}

/-- A service that only writes scalar registers. -/
theorem State.serve_regs {n : Nat} (h : s.Serves c n run) {g : State → SlotRun → State} {u : State} (hg : g s run = u)
    {f : Core → Core} (hu : u.core c = f (s.core c)) (hr : u.regs = s.regs) (hm : u.mem = s.mem)
    (hf : ∀ k, (f k).priv = k.priv ∧ (f k).csr = k.csr ∧ (f k).pend = k.pend) :
    s.Resumed (s.serve c n g) c ∧ (s.serve c n g).regs = s.regs ∧ (s.serve c n g).mem = s.mem ∧
      ∀ q, ((s.serve c n g).core c).sreg q = (f (s.core c)).sreg q := by
  obtain ⟨hpriv, hcsr, hpend⟩ := hf (s.core c)
  obtain ⟨hres, hregs, hmem, -, hsreg, -⟩ := State.serve_calm h hg hu hpriv hcsr hpend
  exact ⟨hres, hregs.trans hr, hmem.trans hm, hsreg⟩

/-- What PASS_INFO answers. -/
def Core.passAnswer (run : SlotRun) (k : Core) : Core :=
  let two := run.pass2
  let f := run.frame % 2 ^ 32
  (((((k.setS 1 (if two then 2 else 1)).setS 2 (w64 (passRhoT two f))).setS 3 (w64 (passRhoV two f))).setS 4 (w64 (64 * passSigma two f))).setS 5
    (w64 (if two then 1 + 7 * f % 120 else 0))).setS 6 (w64 (Config.passArea run.prog (if two then 2 else 1)))

theorem next_passInfo (h : s.Serves c 0x11 run) : let f := run.frame % 2 ^ 32
    ∃ t, exec (.passInfo c) s = .next t ∧ s.Resumed t c ∧ t.regs = s.regs ∧ t.mem = s.mem ∧
      (run.pass2 = false → (t.core c).sreg 1 = 1 ∧ (t.core c).sreg 2 = BitVec.ofNat 64 (11 * f % 32) ∧
        (t.core c).sreg 3 = BitVec.ofNat 64 (11 * f % 64) ∧ (t.core c).sreg 4 = 0 ∧ (t.core c).sreg 5 = 0) ∧
      (run.pass2 = true → (t.core c).sreg 1 = 2 ∧ (t.core c).sreg 2 = BitVec.ofNat 64 ((11 * f % 32 + 16) % 32) ∧
        (t.core c).sreg 3 = BitVec.ofNat 64 ((11 * f % 64 + 32) % 64) ∧
        (t.core c).sreg 4 = BitVec.ofNat 64 (64 * (1 + 5 * f % 31)) ∧ (t.core c).sreg 5 = BitVec.ofNat 64 (1 + 7 * f % 120)) ∧
      ∀ q, 6 < q → (t.core c).sreg q = (s.core c).sreg q := by
  intro f
  obtain ⟨hres, hregs, hmem, hsreg⟩ := State.serve_regs h (g := fun s run => s.modCore c (Core.passAnswer run)) rfl (State.core_modCore_same ..) rfl rfl
    fun k => by simp [Core.passAnswer]
  refine ⟨s.serve c 0x11 fun s run => s.modCore c (Core.passAnswer run), rfl, hres, hregs, hmem, fun hp => ?_, fun hp => ?_,
    fun q hq => (hsreg q).trans ?_⟩
  · rw [hsreg, hsreg, hsreg, hsreg, hsreg]
    simp [Core.passAnswer, hp, passRhoT, passRhoV, passSigma, w64, f]
  · rw [hsreg, hsreg, hsreg, hsreg, hsreg]
    simp [Core.passAnswer, hp, passRhoT, passRhoV, passSigma, w64, f]
  · simp only [Core.passAnswer, Core.sreg_setS]
    split_ifs <;> first | omega | rfl

/-- What PASS_OUT records in the run of the slot. -/
def State.passRecorded (s : State) (c : Nat) (run : SlotRun) : State :=
  if 1 ≤ ((s.core c).sreg 2).toNat ∧ ((s.core c).sreg 2).toNat ≤ 2 ^ 24 ∧ run.outs.length < 16 then
    s.modCore c (fun k => { k with slot := some { run with outs := run.outs ++ [(((s.core c).sreg 1).toNat, ((s.core c).sreg 2).toNat)] } })
  else s

theorem next_passOut (h : s.Serves c 0x12 run) : ∃ t, exec (.passOut c) s = .next t ∧ s.Resumed t c ∧ t.regs = s.regs ∧ t.mem = s.mem ∧
    (∀ q, (t.core c).sreg q = (s.core c).sreg q) ∧ ∃ r, (t.core c).slot = some r ∧
      ((1 ≤ ((s.core c).sreg 2).toNat ∧ ((s.core c).sreg 2).toNat ≤ 2 ^ 24 ∧ run.outs.length < 16 →
        r.outs = run.outs ++ [(((s.core c).sreg 1).toNat, ((s.core c).sreg 2).toNat)]) ∧
      (((s.core c).sreg 2).toNat = 0 ∨ 2 ^ 24 < ((s.core c).sreg 2).toNat → r.outs = run.outs)) := by
  have hslot : (s.core c).slot = some run := h.2.1
  refine ⟨s.serve c 0x12 fun s run => s.passRecorded c run, rfl, ?_⟩
  by_cases hc : 1 ≤ ((s.core c).sreg 2).toNat ∧ ((s.core c).sreg 2).toNat ≤ 2 ^ 24 ∧ run.outs.length < 16
  · obtain ⟨hres, hregs, hmem, -, hsreg, hsl⟩ := State.serve_calm h (g := fun s run => s.passRecorded c run) (if_pos hc)
      (State.core_modCore_same ..) rfl rfl rfl
    exact ⟨hres, hregs, hmem, hsreg, _, hsl, fun _ => rfl, fun hn => by omega⟩
  · obtain ⟨hres, hregs, hmem, -, hsreg, hsl⟩ := State.serve_calm h (g := fun s run => s.passRecorded c run) (if_neg hc) rfl rfl rfl rfl
    exact ⟨hres, hregs, hmem, hsreg, _, hsl.trans hslot, fun hn => absurd hn hc, fun _ => rfl⟩

/-- What HEARTH_REF answers: an address, a length and an identifier. -/
def Core.hearthAnswer (a n id : Nat) (k : Core) : Core := ((k.setS 1 (w64 a)).setS 2 (w64 n)).setS 3 (w64 id)

/-- The body of HEARTH_REF. -/
def State.hearthServe (c : Nat) (s : State) (run : SlotRun) : State :=
  match s.route run.route with
  | none => s.modCore c (fun k => ((k.setS 1 0).setS 2 0))
  | some rc =>
    let h := SMap.get (fun _ => HearthSt.empty) s.jobs.hearth rc.hearth
    let ready := rc.hearth ≠ 0xFF ∧ s.hearthReady rc.hearth run.frame = true
    s.draw.2.modCore c (Core.hearthAnswer (if ready then h.addr else 0) (if ready then h.len else 0) (s.draw.1 % 1024))

theorem next_hearthRef {rc : RouteCfg} (h : s.Serves c 0x13 run) (hr : s.route run.route = some rc) :
    let h := SMap.get (fun _ => HearthSt.empty) s.jobs.hearth rc.hearth
    let ready := rc.hearth ≠ 0xFF ∧ s.hearthReady rc.hearth run.frame = true
    ∃ t, exec (.hearthRef c) s = .next t ∧ s.Resumed t c ∧ t.regs = s.regs ∧ t.mem = s.mem ∧
      (ready → (t.core c).sreg 1 = BitVec.ofNat 64 h.addr ∧ (t.core c).sreg 2 = BitVec.ofNat 64 h.len) ∧
      (¬ ready → (t.core c).sreg 1 = 0) ∧ (t.core c).sreg 3 < 1024 ∧ ∀ q, 3 < q → (t.core c).sreg q = (s.core c).sreg q := by
  intro hs ready
  obtain ⟨hres, hregs, hmem, hsreg⟩ := State.serve_regs h (g := State.hearthServe c)
    (u := s.draw.2.modCore c (Core.hearthAnswer (if ready then hs.addr else 0) (if ready then hs.len else 0) (s.draw.1 % 1024)))
    (f := Core.hearthAnswer (if ready then hs.addr else 0) (if ready then hs.len else 0) (s.draw.1 % 1024))
    (by unfold State.hearthServe; rw [hr]) (State.core_modCore_same ..) rfl rfl fun k => by simp [Core.hearthAnswer]
  have h1 : s.draw.1 % 1024 < 1024 := Nat.mod_lt _ (by norm_num)
  refine ⟨s.serve c 0x13 (State.hearthServe c), rfl, hres, hregs, hmem, fun hy => ?_, fun hn => ?_, ?_, fun q hq => (hsreg q).trans ?_⟩
  · rw [hsreg, hsreg, if_pos hy, if_pos hy]
    simp [Core.hearthAnswer, w64]
  · rw [hsreg, if_neg hn]
    simp [Core.hearthAnswer, w64]
  · rw [hsreg, show (Core.hearthAnswer (if ready then hs.addr else 0) (if ready then hs.len else 0) (s.draw.1 % 1024) (s.core c)).sreg 3 =
      BitVec.ofNat 64 (s.draw.1 % 1024) by simp [Core.hearthAnswer, w64], BitVec.lt_def, BitVec.toNat_ofNat, Nat.mod_eq_of_lt (by omega)]
    exact h1
  · simp only [Core.hearthAnswer, Core.sreg_setS]
    split_ifs <;> first | omega | rfl

/-- What TAP_FRAME answers: an address, a stride, a count of lines and an outcome. -/
def Core.frameAnswer (a stride lines out : Nat) (k : Core) : Core :=
  (((k.setS 1 (w64 a)).setS 2 (w64 stride)).setS 3 (w64 lines)).setS 4 (w64 out)

theorem next_tapFrame {tap frame : Nat} (h : s.Serves c 0x14 run) (htap : tap < 8) (h1 : (s.core c).sreg 1 = BitVec.ofNat 64 tap)
    (hframe : frame < 2 ^ 32) (h2 : (s.core c).sreg 2 = BitVec.ofNat 64 frame) :
    let stored := (s.tap tap).bufs.find? (fun x => x.2 == frame)
    ∃ t, exec (.tapFrame c) s = .next t ∧ s.Resumed t c ∧ t.regs = s.regs ∧ t.mem = s.mem ∧
      (∀ x, stored = some x → (t.core c).sreg 1 = BitVec.ofNat 64 (s.ringBuf tap x.1)) ∧
      (stored = none → (t.core c).sreg 1 = 0) ∧
      (t.core c).sreg 2 = BitVec.ofNat 64 (64 * s.fld (R.TAP_RING_STRIDE tap)) ∧
      (s.fld (R.TAP_T_STAT_FRAME tap) = frame → (t.core c).sreg 3 = BitVec.ofNat 64 (s.fld (R.TAP_T_STAT_RXLINE tap))) ∧
      (t.core c).sreg 4 = BitVec.ofNat 64 ((s.outcome tap frame).getD 0) ∧ ∀ q, 4 < q → (t.core c).sreg q = (s.core c).sreg q := by
  intro stored
  have ht : ((s.core c).sreg 1).toNat = tap := by rw [h1, BitVec.toNat_ofNat]; omega
  have hf : ((s.core c).sreg 2).toNat = frame := by rw [h2, BitVec.toNat_ofNat]; omega
  let a := (stored.map fun x => s.ringBuf tap x.1).getD 0
  let n := if (s.fld (R.TAP_T_STAT_FRAME tap) == frame) = true then s.fld (R.TAP_T_STAT_RXLINE tap) else s.fld (R.TAP_T_GEOM_ACTIVE tap)
  obtain ⟨t, hx, hres, hregs, hmem, hsreg⟩ : ∃ t, exec (.tapFrame c) s = .next t ∧ s.Resumed t c ∧ t.regs = s.regs ∧ t.mem = s.mem ∧
      ∀ q, (t.core c).sreg q = (Core.frameAnswer a (64 * s.fld (R.TAP_RING_STRIDE tap)) n ((s.outcome tap frame).getD 0) (s.core c)).sreg q := by
    refine ⟨_, rfl, State.serve_regs h (u := s.modCore c (Core.frameAnswer a (64 * s.fld (R.TAP_RING_STRIDE tap)) n ((s.outcome tap frame).getD 0))) ?_
      (State.core_modCore_same ..) rfl rfl fun k => by simp [Core.frameAnswer]⟩
    dsimp only
    rw [ht, hf, if_neg (by omega), if_pos htap]
    rfl
  refine ⟨t, hx, hres, hregs, hmem, fun x hs => ?_, fun hn => ?_, ?_, fun he => ?_, ?_, fun q hq => (hsreg q).trans ?_⟩
  · rw [hsreg]
    simp [Core.frameAnswer, w64, a, hs]
  · rw [hsreg]
    simp [Core.frameAnswer, w64, a, hn]
  · rw [hsreg]
    simp [Core.frameAnswer, w64]
  · rw [hsreg]
    simp [Core.frameAnswer, w64, n, he]
  · rw [hsreg]
    simp [Core.frameAnswer, w64]
  · simp only [Core.frameAnswer, Core.sreg_setS]
    split_ifs <;> first | omega | rfl

/-! ### CHECK_DONE (R328, R358, R359) -/

/-- A field of a record in memory. -/
theorem State.leAt_bytes {s : State} {a m off n : Nat} (h : off + n ≤ m) : leAt (s.bytes a m) off n = leNat (s.bytes (a + off) n) := by
  have hb : ((s.bytes a m).drop off).take n = s.bytes (a + off) n := by
    refine List.ext_getElem (by simp [State.bytes]; omega) fun i hi hj => ?_
    simp only [State.bytes, List.getElem_take, List.getElem_drop, List.getElem_map, List.getElem_range, Nat.add_assoc]
  rw [leAt, hb]

/-- A job whose layer `i` has failed, for a reason. -/
def failLayer (i why : Nat) (j : Job) : Job :=
  { j with failed := match j.failed with
    | some (n, w) => if i < n then some (i, why) else some (n, w)
    | none => some (i, why) }

/-- A job credited with a layer. -/
def creditLayer (x : LayerCredit) (j : Job) : Job := { j with credits := j.credits ++ [x] }

/-- The state in which CHECK_DONE judges its record: the runtime's choice is drawn, and may find an epoch's constants ready. -/
def State.checkBase (s : State) (r : Nat) (fr : OpenFrame) (fixed : Bool) : State :=
  if fixed && s.draw.1 / 4 % 2 == 1 then s.draw.2.setRouteSt r ((s.routeSt r).readyEpoch fr.epoch) else s.draw.2

theorem State.checkBase_same (s : State) (r : Nat) (fr : OpenFrame) (fixed : Bool) : (s.checkBase r fr fixed).regs = s.regs ∧
    (s.checkBase r fr fixed).mem = s.mem ∧ (s.checkBase r fr fixed).core = s.core ∧ (s.checkBase r fr fixed).jobs.jobs = s.jobs.jobs := by
  unfold State.checkBase
  split_ifs <;> exact ⟨rfl, rfl, rfl, rfl⟩

theorem State.modJob_id (s : State) (r f : Nat) : s.modJob r f id = s := by
  have h : (s.jobs.jobs.map fun j => if j.route = r ∧ j.frame = f then id j else j) = s.jobs.jobs := by simp
  unfold State.modJob
  rw [h]

/-- When a clean record of an exactly counted layer is credited. -/
structure State.Credits (s : State) (run : SlotRun) (p : Prog) (j : Job) (fr : OpenFrame) (l : Layer) (i v compared flags : Nat) : Prop where
  mode : l.mode ≤ 1
  clean : bit flags 2 = false
  count : compared = l.m * v
  pos : 1 ≤ v
  all : v ≤ (s.layerTable p).vecs
  current : (s.layerTable p).current fr.age = true
  once : ∀ x ∈ j.credits, x.idx ≠ i
  epoch : fr.epoch ≠ 0
  table : (s.routeSt run.route).badTable run.frame = false
  fixed : bit l.flags 0 = true → ∃ e, (s.routeSt run.route).epochOf fr = some e ∧ e.ready = true ∧ (j.bundle = 0 ∨ e.bundle = j.bundle)

variable {p : Prog} {j : Job} {fr : OpenFrame} {l : Layer}

/-- What CHECK_DONE does to the job of its run. -/
theorem checkDone_cases (hp : s.prog run.prog = some p) (hj : s.job run.route run.frame = some j)
    (hfr : s.openFrame run.route run.frame = some fr) (hl : (s.layerTable p).layers[((s.core c).sreg 1).toNat]? = some l) :
    let at_ := aliasPa c ((s.core c).sreg 2).toNat
    let compared := leNat (s.bytes at_ 4)
    let i := ((s.core c).sreg 1).toNat
    let v := ((s.core c).sreg 3).toNat
    let u := s.checkBase run.route fr (bit l.flags 0 && l.mode ≤ 1)
    let x : LayerCredit := ⟨i, v, ((s.core c).sreg 4).toNat, compared⟩
    ∃ g, exec (.checkDone c) s = .next (s.serve c 0x10 g) ∧
      (leNat (s.bytes (at_ + 4) 4) ≠ 0 → ∃ why, 1 ≤ why ∧ why ≤ 4 ∧ g s run = u.modJob run.route run.frame (failLayer i why)) ∧
      (leNat (s.bytes (at_ + 4) 4) = 0 → g s run = u ∨ (∀ y ∈ j.credits, y.idx ≠ i) ∧ g s run = u.modJob run.route run.frame (creditLayer x)) ∧
      (leNat (s.bytes (at_ + 4) 4) = 0 → s.Credits run p j fr l i v compared (leNat (s.bytes (at_ + 0xC) 4)) →
        g s run = u.modJob run.route run.frame (creditLayer x)) := by
  obtain ⟨-, hjr, hjf⟩ := State.job_some hj
  intro at_ compared i v u x
  have h0 : leAt (s.bytes at_ 32) 0 4 = compared := State.leAt_bytes (by norm_num)
  have h4 : leAt (s.bytes at_ 32) 4 4 = leNat (s.bytes (at_ + 4) 4) := State.leAt_bytes (by norm_num)
  have hC : leAt (s.bytes at_ 32) 0xC 4 = leNat (s.bytes (at_ + 0xC) 4) := State.leAt_bytes (by norm_num)
  refine ⟨_, rfl, fun hm => ?_, fun hm => ?_, fun hm hc => ?_⟩
  · dsimp only
    rw [hp, hj, hfr]
    dsimp only
    rw [hl]
    dsimp only
    rw [h4, if_pos hm, hjr, hjf]
    refine ⟨_, ?_, ?_, rfl⟩ <;> split_ifs <;> omega
  · dsimp only
    rw [hp, hj, hfr]
    dsimp only
    rw [hl]
    dsimp only
    rw [h4, if_neg (not_not.mpr hm), h0, hC, hjr, hjf]
    refine iteInduction (motive := fun z => z = u ∨ (∀ y ∈ j.credits, y.idx ≠ i) ∧ z = u.modJob run.route run.frame (creditLayer x))
      (fun hc => .inr ⟨fun y hy he => ?_, rfl⟩) fun _ => .inl rfl
    obtain ⟨-, -, -, -, -, -, -, -, -, -, hany⟩ := hc
    simp only [Bool.not_eq_true', List.any_eq_false, beq_iff_eq] at hany
    exact hany y hy he
  · dsimp only
    rw [hp, hj, hfr]
    dsimp only
    rw [hl]
    dsimp only
    rw [h4, if_neg (not_not.mpr hm), h0, hC, hjr, hjf, if_pos]
    · rfl
    · refine ⟨by have := hc.mode; omega, by simp [hc.clean], ?_, hc.pos, hc.all, hc.current, hc.epoch, ?_, ?_, hc.table, ?_⟩
      · rw [if_pos hc.mode]
        exact hc.count
      · by_cases hf : bit l.flags 0 = true
        · obtain ⟨e, he, hr, -⟩ := hc.fixed hf
          have he' : (s.draw.2.routeSt run.route).epochOf fr = some e := he
          simp [he', hr]
        · simp [hf]
      · by_cases hf : bit l.flags 0 = true
        · obtain ⟨e, he, -, hb⟩ := hc.fixed hf
          have he' : (s.draw.2.routeSt run.route).epochOf fr = some e := he
          rcases hb with hb | hb <;> simp [he', hb]
        · simp [hf]
      · simpa using hc.once

/-- What CHECK_DONE shows when it only changes the job of its run by a function. -/
theorem State.serve_check (h : s.Serves c 0x10 run) (hj : s.job run.route run.frame = some j) {g : State → SlotRun → State} {fixed : Bool}
    {G : Job → Job} (hG : ∀ j, (G j).route = j.route ∧ (G j).frame = j.frame)
    (hg : g s run = (s.checkBase run.route fr fixed).modJob run.route run.frame G) :
    s.Resumed (s.serve c 0x10 g) c ∧ (s.serve c 0x10 g).regs = s.regs ∧ (s.serve c 0x10 g).mem = s.mem ∧
      (∀ q, ((s.serve c 0x10 g).core c).sreg q = (s.core c).sreg q) ∧ (s.serve c 0x10 g).job run.route run.frame = some (G j) := by
  obtain ⟨hbr, hbm, hbc, hbj⟩ := State.checkBase_same s run.route fr fixed
  obtain ⟨hres, hregs, hmem, hjobs, hsreg, -⟩ := State.serve_calm h hg (k' := s.core c) (congrFun hbc c) rfl rfl rfl
  refine ⟨hres, hregs.trans hbr, hmem.trans hbm, hsreg, ?_⟩
  rw [State.job_congr (congrArg _ hjobs)]
  exact State.job_modJob ((State.job_congr hbj ..).trans hj) hG

theorem next_checkDone (h : s.Serves c 0x10 run) (hp : s.prog run.prog = some p) (hj : s.job run.route run.frame = some j)
    (hfr : s.openFrame run.route run.frame = some fr) (hl : (s.layerTable p).layers[((s.core c).sreg 1).toNat]? = some l) :
    let at_ := 0x1000000000 + c.val * 0x200000 + ((s.core c).sreg 2).toNat % 0x200000
    let compared := leNat (s.bytes at_ 4)
    let mismatch := leNat (s.bytes (at_ + 4) 4)
    let i := ((s.core c).sreg 1).toNat
    let v := ((s.core c).sreg 3).toNat
    ∃ t j', exec (.checkDone c) s = .next t ∧ s.Resumed t c ∧ t.regs = s.regs ∧ t.mem = s.mem ∧
      (∀ q, (t.core c).sreg q = (s.core c).sreg q) ∧ t.job run.route run.frame = some j' ∧
      (mismatch ≠ 0 → j'.credits = j.credits ∧ ∃ n why, j'.failed = some (n, why) ∧ n ≤ i ∧
        (j.failed = none → n = i ∧ 1 ≤ why ∧ why ≤ 4)) ∧
      (mismatch = 0 → j'.failed = j.failed ∧ ∀ x ∈ j.credits, x ∈ j'.credits) ∧
      (mismatch = 0 → s.Credits run p j fr l i v compared (leNat (s.bytes (at_ + 0xC) 4)) →
        j'.credits = j.credits ++ [⟨i, v, ((s.core c).sreg 4).toNat, compared⟩]) ∧
      ((∃ x ∈ j.credits, x.idx = i) → j'.credits = j.credits) := by
  intro at_ compared mismatch i v
  obtain ⟨g, hx, hfail, hclean, hcredit⟩ := checkDone_cases hp hj hfr hl
  rw [hx]
  by_cases hm : mismatch = 0
  · by_cases hc : s.Credits run p j fr l i v compared (leNat (s.bytes (at_ + 0xC) 4))
    · obtain ⟨hres, hregs, hmem, hsreg, hjob⟩ := State.serve_check (G := creditLayer _) h hj (fun _ => ⟨rfl, rfl⟩) (hcredit hm hc)
      exact ⟨_, _, rfl, hres, hregs, hmem, hsreg, hjob, fun h => absurd hm h, fun _ => ⟨rfl, fun x hx => List.mem_append_left _ hx⟩,
        fun _ _ => rfl, fun ⟨x, hx, he⟩ => absurd he (hc.once x hx)⟩
    · rcases hclean hm with hg | ⟨hno, hg⟩
      · obtain ⟨hres, hregs, hmem, hsreg, hjob⟩ := State.serve_check (G := id) h hj (fun _ => ⟨rfl, rfl⟩) (hg.trans (State.modJob_id ..).symm)
        exact ⟨_, _, rfl, hres, hregs, hmem, hsreg, hjob, fun h => absurd hm h, fun _ => ⟨rfl, fun _ hx => hx⟩, fun _ h => absurd h hc,
          fun _ => rfl⟩
      · obtain ⟨hres, hregs, hmem, hsreg, hjob⟩ := State.serve_check (G := creditLayer _) h hj (fun _ => ⟨rfl, rfl⟩) hg
        exact ⟨_, _, rfl, hres, hregs, hmem, hsreg, hjob, fun h => absurd hm h, fun _ => ⟨rfl, fun x hx => List.mem_append_left _ hx⟩,
          fun _ h => absurd h hc, fun ⟨x, hx, he⟩ => absurd he (hno x hx)⟩
  · obtain ⟨why, hlo, hhi, hg⟩ := hfail hm
    obtain ⟨hres, hregs, hmem, hsreg, hjob⟩ := State.serve_check (G := failLayer _ _) h hj (fun _ => ⟨rfl, rfl⟩) hg
    refine ⟨_, _, rfl, hres, hregs, hmem, hsreg, hjob, fun _ => ⟨rfl, ?_⟩, fun h => absurd h hm, fun h => absurd h hm, fun _ => rfl⟩
    cases hf : j.failed with
    | none => exact ⟨i, why, by simp [failLayer, hf, i], le_rfl, fun _ => ⟨rfl, hlo, hhi⟩⟩
    | some x =>
      obtain ⟨n, w⟩ := x
      by_cases hn : i < n
      · exact ⟨i, why, by simp [failLayer, hf, i] at hn ⊢; omega, le_rfl, fun h => by simp at h⟩
      · exact ⟨n, w, by simp [failLayer, hf, i] at hn ⊢; omega, by omega, fun h => by simp at h⟩

/-- Settles O33: each service writes its answer and goes back to the program; CHECK_DONE changes only the job of the run. -/
theorem programServices : Obligations.ProgramServices := by
  intro c s run
  refine ⟨next_passInfo, next_passOut, fun rc h hr => next_hearthRef h hr, fun tap frame h htap h1 hf h2 => next_tapFrame h htap h1 hf h2,
    fun p j fr l h hp hj hfr hl => ?_⟩
  obtain ⟨t, j', hx, hres, hregs, hmem, hsreg, hjob, hfail, hclean, hcredit, honce⟩ := next_checkDone h hp hj hfr hl
  exact ⟨t, j', hx, hres, hregs, hmem, hsreg, hjob, hfail, hclean,
    fun hm hmode hflag hcount hpos hall hcur hno hep htab hfix => hcredit hm ⟨hmode, hflag, hcount, hpos, hall, hcur, hno, hep, htab, hfix⟩, honce⟩

end

/-! ### Starting a program (R261, R262) -/

/-- The core of a program about to start: its runtime has written the registers, the windows and SLOTLEFT, and returns to the entry
at U. -/
def Core.loaded (k : Core) (ok : Word × Word → Bool) (p : Prog) (run : SlotRun) (desc fin : Word) (left : Nat) (ws : List (Word × Word)) : Core :=
  let k := { k with s := [], p := 0, slot := some run, stw := .run }
  let k := (k.setS 1 desc).setS 2 (w64 run.frame)
  let k := (k.setS 3 (w64 run.epoch)).setS 4 fin
  let k := ((k.wrCsr 0x28 (winB p.code 5)).wrCsr 0x29 (winL p.code p.codeSize))
  let k := ws.zipIdx.foldl (fun k w =>
    let w' := if ok w.1 then w.1 else (0, 0)
    (k.wrCsr (0x2A + 2 * w.2) w'.1).wrCsr (0x2B + 2 * w.2) w'.2) k
  let k := k.wrCsr 0x30 (w64 left)
  (k.wrCsr 0x0A (w64 (p.code + p.entry))).wrCsr 0x08 (k.rdCsr 0x08 &&& 2#64 ||| 4#64)

section
variable (k : Core) (ok : Word × Word → Bool) (p : Prog) (run : SlotRun) (desc fin : Word) (left : Nat) (w1 w2 w3 : Word × Word)

theorem Core.loaded_shows : (k.loaded ok p run desc fin left [w1, w2, w3]).priv = k.priv ∧ (k.loaded ok p run desc fin left [w1, w2, w3]).pend = k.pend ∧
    (k.loaded ok p run desc fin left [w1, w2, w3]).p = 0 ∧ (k.loaded ok p run desc fin left [w1, w2, w3]).slot = some run := by
  simp [Core.loaded]

theorem Core.sreg_loaded (q : Nat) : (k.loaded ok p run desc fin left [w1, w2, w3]).sreg q = if q = 1 then desc else if q = 2 then w64 run.frame
    else if q = 3 then w64 run.epoch else if q = 4 then fin else 0 := by
  have h0 : Core.sreg { k with s := [], p := 0, slot := some run, stw := .run } q = 0 := by
    unfold Core.sreg
    split_ifs <;> rfl
  have hs (k : Core) (n : Nat) (v : Word) : (k.wrCsr n v).sreg q = k.sreg q := by simp [Core.sreg]
  simp only [Core.loaded, List.zipIdx, List.foldl, hs, Core.sreg_setS, h0]
  split_ifs <;> first | rfl | omega

theorem Core.rdCsr_setS (k : Core) (r : Nat) (v : Word) (n : Nat) : (k.setS r v).rdCsr n = k.rdCsr n := by
  simp [Core.rdCsr]

theorem Core.rdCsr_loaded : (k.loaded ok p run desc fin left [w1, w2, w3]).rdCsr 0x28 = winB p.code 5 ∧
    (k.loaded ok p run desc fin left [w1, w2, w3]).rdCsr 0x29 = winL p.code p.codeSize ∧
    (k.loaded ok p run desc fin left [w1, w2, w3]).rdCsr 0x30 = w64 left ∧
    (k.loaded ok p run desc fin left [w1, w2, w3]).rdCsr 0x0A = w64 (p.code + p.entry) ∧
    (k.loaded ok p run desc fin left [w1, w2, w3]).rdCsr 0x08 = k.rdCsr 0x08 &&& 2#64 ||| 4#64 := by
  simp only [Core.loaded, List.zipIdx, List.foldl, Core.rdCsr_wrCsr, Core.rdCsr_setS]
  norm_num
  rfl

end

/-- A status word with PPRIV at 0 names level U. -/
theorem toNat_pie_div (x : Word) : (x &&& 2#64 ||| 4#64).toNat / 16 % 4 = 0 := by
  have h : (x &&& 2#64 ||| 4#64).toNat < 2 ^ 3 := by
    rw [BitVec.toNat_or, BitVec.toNat_and]
    exact Nat.or_lt_two_pow (Nat.and_lt_two_pow _ (by decide)) (by decide)
  omega

/-- PAIRSTAT showing the pass of a paired program (R365). -/
def State.showPass (s : State) (c : Nat) (two : Bool) (f : Nat) : State :=
  ((((s.setFld (R.CORE_PAIRSTAT_ACTIVE c) 1).setFld (R.CORE_PAIRSTAT_PASS2 c) (if two then 1 else 0)).setFld
    (R.CORE_PAIRSTAT_SIGMA c) (passSigma two f)).setFld (R.CORE_PAIRSTAT_RHOV c) (passRhoV two f)).setFld
    (R.CORE_PAIRSTAT_RHOT c) (passRhoT two f)

theorem State.showPass_shows (s : State) (c : Nat) (two : Bool) (f : Nat) : (s.showPass c two f).fld (R.CORE_PAIRSTAT_ACTIVE c) = 1 ∧
    (s.showPass c two f).fld (R.CORE_PAIRSTAT_PASS2 c) = (if two then 1 else 0) ∧
    (s.showPass c two f).fld (R.CORE_PAIRSTAT_SIGMA c) = passSigma two f % 32 ∧
    (s.showPass c two f).fld (R.CORE_PAIRSTAT_RHOV c) = passRhoV two f % 64 ∧
    (s.showPass c two f).fld (R.CORE_PAIRSTAT_RHOT c) = passRhoT two f % 32 := by
  unfold State.showPass
  refine ⟨?_, ?_, ?_, ?_, ?_⟩
  · rw [State.fld_setFld_apart _ _ _ _ rfl rfl, State.fld_setFld_apart _ _ _ _ rfl rfl, State.fld_setFld_apart _ _ _ _ rfl rfl,
      State.fld_setFld_apart _ _ _ _ rfl rfl, State.fld_setFld_here _ _ _ rfl]
    rfl
  · rw [State.fld_setFld_apart _ _ _ _ rfl rfl, State.fld_setFld_apart _ _ _ _ rfl rfl, State.fld_setFld_apart _ _ _ _ rfl rfl,
      State.fld_setFld_here _ _ _ rfl]
    cases two <;> rfl
  · rw [State.fld_setFld_apart _ _ _ _ rfl rfl, State.fld_setFld_apart _ _ _ _ rfl rfl, State.fld_setFld_here _ _ _ rfl]
    rfl
  · rw [State.fld_setFld_apart _ _ _ _ rfl rfl, State.fld_setFld_here _ _ _ rfl]
    rfl
  · rw [State.fld_setFld_here _ _ _ rfl]
    rfl

theorem State.showPass_same (s : State) (c : Nat) (two : Bool) (f : Nat) : (s.showPass c two f).cores = s.cores ∧
    (s.showPass c two f).mem = s.mem ∧ (s.showPass c two f).jobs = s.jobs := by
  unfold State.showPass
  refine ⟨?_, ?_, ?_⟩
  · rw [State.setFld_cores, State.setFld_cores, State.setFld_cores, State.setFld_cores, State.setFld_cores]
  · rw [State.setFld_mem, State.setFld_mem, State.setFld_mem, State.setFld_mem, State.setFld_mem]
  · rw [State.setFld_jobs, State.setFld_jobs, State.setFld_jobs, State.setFld_jobs, State.setFld_jobs]

theorem State.traceRec_jobs (s : State) (c kind val : Nat) : (s.traceRec c kind val).jobs = s.jobs := by
  unfold State.traceRec
  dsimp only
  split_ifs <;> rfl

section
variable {s : State} {c : CoreId} {p : Prog} {run : SlotRun} {desc : Word} {left : Nat} {w1 w2 w3 : Word × Word}

/-- A core replaced, traced, and shown in PAIRSTAT when the program is paired. -/
def State.withLoaded (s : State) (c i : Nat) (p : Prog) (run : SlotRun) (k : Core) : State :=
  if ((s.setCore c k).traceRec c 3 i).paired p then ((s.setCore c k).traceRec c 3 i).showPass c run.pass2 run.frame
  else (s.setCore c k).traceRec c 3 i

/-- A program's start in its steps: the core loaded, the pass of a pair shown, and ERET. -/
theorem State.startProgram_eq (s : State) (c i : Nat) (ws : List (Word × Word)) : s.startProgram c i p run left desc ws =
    (s.withLoaded c i p run ((s.core c).loaded (s.winOk c p run) p run desc (w64 (s.slotEnd c i)) left ws)).eret c := by
  unfold State.startProgram
  extract_lets ok k1 k2 k3 k4 k5 k6 k7 k8 u v
  have hk : k8 = (s.core c).loaded (s.winOk c p run) p run desc (w64 (s.slotEnd c i)) left ws := rfl
  rw [← hk]
  clear_value k8
  rfl

theorem State.withLoaded_shows (s : State) (c i : Nat) (p : Prog) (run : SlotRun) (k : Core) : (s.withLoaded c i p run k).core c = k ∧
    (s.withLoaded c i p run k).mem = s.mem ∧ (s.withLoaded c i p run k).jobs = s.jobs ∧
    (s.paired p = true → s.withLoaded c i p run k = ((s.setCore c k).traceRec c 3 i).showPass c run.pass2 run.frame) := by
  have hvc : ((s.setCore c k).traceRec c 3 i).core c = k := (State.core_traceRec ..).trans (State.core_modCore_same s c fun _ => k)
  have hvm : ((s.setCore c k).traceRec c 3 i).mem = s.mem := State.traceRec_mem ..
  have hvj : ((s.setCore c k).traceRec c 3 i).jobs = s.jobs := State.traceRec_jobs ..
  have hvp : ((s.setCore c k).traceRec c 3 i).paired p = s.paired p := by rw [State.paired, hvj, State.paired]
  unfold State.withLoaded
  rw [hvp]
  generalize (s.setCore c k).traceRec c 3 i = v at *
  refine ⟨?_, ?_, ?_, fun h => if_pos h⟩
  · split_ifs
    · rw [State.core, (State.showPass_same ..).1]
      exact hvc
    · exact hvc
  · split_ifs
    · rw [(State.showPass_same ..).2.1, hvm]
    · exact hvm
  · split_ifs
    · rw [(State.showPass_same ..).2.2, hvj]
    · exact hvj

/-- What a core shows when a program has started on it (R261). -/
theorem State.core_startProgram (hpriv : (s.core c).priv = .s) (hpend : (s.core c).pend = noPend) (i : Nat) {k : Core}
    (hk : (s.core c).loaded (s.winOk c p run) p run desc (w64 (s.slotEnd c i)) left [w1, w2, w3] = k) {t : State}
    (ht : s.startProgram c i p run left desc [w1, w2, w3] = t) :
    t.core c = k.eretClear.eretReturn .s ∧ t.mem = s.mem ∧ t.jobs = s.jobs ∧
      (s.paired p = true → ∀ g : Fld, t.fld g = (((s.setCore c k).traceRec c 3 i).showPass c run.pass2 run.frame).fld g) := by
  obtain ⟨hkpriv, hkpend, -, -⟩ := Core.loaded_shows (s.core c) (s.winOk c p run) p run desc (w64 (s.slotEnd c i)) left w1 w2 w3
  rw [hk] at hkpriv hkpend
  rw [State.startProgram_eq, hk] at ht
  obtain ⟨huc, hum, huj, hpair⟩ := State.withLoaded_shows s c i p run k
  have hp : ((s.withLoaded c i p run k).core c).priv = .s := by rw [huc]; exact hkpriv.trans hpriv
  have hq : ((s.withLoaded c i p run k).core c).pend = noPend := by rw [huc]; exact hkpend.trans hpend
  subst ht
  refine ⟨?_, ?_, ?_, fun h g => ?_⟩
  · rw [State.core_eret_calm hp hq, huc]
  · rw [State.eret_calm hp hq, State.modCore_mem, State.modCore_mem, hum]
  · rw [State.eret_calm hp hq, State.modCore_jobs, State.modCore_jobs, huj]
  · rw [State.eret_calm hp hq, State.fld_modCore, State.fld_modCore, hpair h]

/-- A job's run marked begun changes neither cores, registers nor memory. -/
theorem State.beginJob_same (s : State) (n : Nat) (p : Prog) (j : Job) : (s.beginJob n p j).cores = s.cores ∧ (s.beginJob n p j).regs = s.regs ∧
    (s.beginJob n p j).mem = s.mem ∧ (s.beginJob n p j).jobs.decl = s.jobs.decl ∧ (s.beginJob n p j).jobs.jobs =
      (s.modJob j.route j.frame fun j => { j with ran := true, core := n, single := s.paired p && s.frameSingle j }).jobs.jobs := by
  unfold State.beginJob State.validateTable
  dsimp only
  split_ifs <;> exact ⟨rfl, rfl, rfl, rfl, rfl⟩

/-- Some job of its route and frame stands for a job of the list. -/
theorem State.exists_job {j : Job} (h : j ∈ s.jobs.jobs) : ∃ x, s.job j.route j.frame = some x := by
  rw [← Option.isSome_iff_exists, State.job, List.find?_isSome]
  exact ⟨j, h, by simp⟩

/-- ERET keeps the predicates and the slot. -/
theorem Core.p_slot_eret (k : Core) (l : Priv) : (k.eretClear.eretReturn l).p = k.p ∧ (k.eretClear.eretReturn l).slot = k.slot := by
  simp [Core.eretReturn, Core.eretClear, Core.retire]

/-- A slot that may not start changes nothing. -/
theorem execSlotStart_idle {i : Fin 32} (h : (s.core c).slot.isSome = true ∨ s.serving = false ∨ s.fld (fCoreState c) ≠ csSERVING ∨
    s.tb2 < s.slotBegin c i ∨ s.slotEnd c i ≤ s.tb2) : execSlotStart c i desc w1 w2 w3 s = .next s := by
  unfold execSlotStart
  dsimp only
  rw [if_pos]
  rcases h with h | h | h | h | h
  · have hf : s.runtimeFree c = false := by
      simp [State.runtimeFree, Option.isNone_eq_false_iff.2 h]
    simp [hf]
  · simp [h]
  · simp [h]
  · simp [h]
  · simp [h]

/-- A slot in its time serves the oldest ready job of its program. -/
theorem execSlotStart_job {i : Fin 32} {j : Job} (hs : s.serving = true) (hst : s.fld (fCoreState c) = csSERVING) (hslot : (s.core c).slot = none)
    (hdbg : (s.core c).dbgHalt = false) (hpriv : (s.core c).priv = .s) (hstw : (s.core c).stw = .run ∨ (s.core c).stw = .wfi)
    (hlo : s.slotBegin c i ≤ s.tb2) (hhi : s.tb2 < s.slotEnd c i) (hval : s.flag (R.CORE_SLOT_VALID c i) = true)
    (hcount : s.fld (R.CORE_SLOTCFG_COUNT c) ≠ 0) (hp2 : s.flag (R.CORE_SLOT_PASS2 c i) = false) (hre : s.reRunJob c i = none)
    (hstage : ∀ h ∈ s.stages, h.2.2 ≠ s.fld (R.CORE_SLOT_PROG c i)) (hprog : s.prog (s.fld (R.CORE_SLOT_PROG c i)) = some p)
    (hj : s.readyJob (s.fld (R.CORE_SLOT_PROG c i)) (s.slotBegin c i) = some j) (hfits : s.slotFits c i j = true) :
    execSlotStart c i desc w1 w2 w3 s = .next ((s.beginJob c p j).startProgram c i p (s.jobRun i (s.fld (R.CORE_SLOT_CLASS c i)) p j)
      (1500 * s.fld (R.CORE_SLOT_LENGTH c i)) desc [w1, w2, w3]) := by
  have hfree : s.runtimeFree c = true := by
    rcases hstw with h | h <;> simp [State.runtimeFree, hpriv, hslot, hdbg, h]
  have hfind : (s.stages.find? fun h => h.2.2 == s.fld (R.CORE_SLOT_PROG c i)) = none := by
    rw [List.find?_eq_none]
    intro h hh he
    exact hstage h hh (beq_iff_eq.1 he)
  unfold execSlotStart
  dsimp only
  rw [if_neg (by simp [hs, hst, hval, hcount, hfree]; omega), hre]
  dsimp only
  rw [hprog]
  dsimp only
  rw [if_neg (by simp [hp2]), hfind]
  dsimp only
  rw [hj]
  dsimp only
  rw [if_pos hfits]

theorem State.slotEnd_congr {t : State} (h : t.regs = s.regs) (n i : Nat) : t.slotEnd n i = s.slotEnd n i := by
  simp only [State.slotEnd, State.slotBegin, State.fld_congr h]

/-- Settles O32: a slot that may start loads its program's core and returns to the entry at U; the job is marked begun before. -/
theorem slotStarts : Obligations.SlotStarts := by
  intro c i desc w1 w2 w3 s k prog
  refine ⟨execSlotStart_idle, ?_⟩
  intro p j fr hs hst hslot hdbg hpriv hstw hlo hhi hval hcount hp2 hre hstage hprog hj hfits hfr hcalm
  obtain ⟨hpend, -, -⟩ := hcalm
  have hx := execSlotStart_job (desc := desc) (w1 := w1) (w2 := w2) (w3 := w3) hs hst hslot hdbg hpriv hstw hlo hhi hval hcount hp2 hre hstage
    hprog hj hfits
  obtain ⟨hbc, hbr, hbm, hbd, hbj⟩ := State.beginJob_same s c p j
  have hcore : (s.beginJob c p j).core c = s.core c := by rw [State.core, hbc, State.core]
  have hpair : (s.beginJob c p j).paired p = s.paired p := by rw [State.paired, hbd, State.paired]
  have hfin : (s.beginJob c p j).slotEnd c i = s.slotEnd c i := State.slotEnd_congr hbr ..
  have hep : (s.jobRun i (s.fld (R.CORE_SLOT_CLASS c i)) p j).epoch = fr.epoch := by
    change ((s.openFrame j.route j.frame).map (·.epoch)).getD 0 = _
    rw [hfr]
    rfl
  generalize hrun : s.jobRun i (s.fld (R.CORE_SLOT_CLASS c i)) p j = run at *
  obtain ⟨hidx, hcls, hpi, htwo, hroute, hframe⟩ : run.idx = i.val ∧ run.cls = s.fld (R.CORE_SLOT_CLASS c i) ∧ run.prog = p.idx ∧
      run.pass2 = false ∧ run.route = j.route ∧ run.frame = j.frame := by
    subst hrun
    exact ⟨rfl, rfl, rfl, rfl, rfl, rfl⟩
  obtain ⟨x, hjob⟩ : ∃ x, s.job j.route j.frame = some x := State.exists_job (List.mem_of_find?_eq_some hj)
  generalize hk : (s.core c).loaded ((s.beginJob c p j).winOk c p run) p run desc (w64 (s.slotEnd c i))
    (1500 * s.fld (R.CORE_SLOT_LENGTH c i)) [w1, w2, w3] = q
  generalize ht : (s.beginJob c p j).startProgram c i p run (1500 * s.fld (R.CORE_SLOT_LENGTH c i)) desc [w1, w2, w3] = t at hx
  obtain ⟨htc, htm, htj, htf⟩ := State.core_startProgram (k := q) (by rw [hcore]; exact hpriv) (by rw [hcore]; exact hpend) i
    (by rw [hcore, hfin]; exact hk) ht
  obtain ⟨hqpriv, -, hqp, hqslot⟩ := Core.loaded_shows (s.core c) ((s.beginJob c p j).winOk c p run) p run desc (w64 (s.slotEnd c i))
    (1500 * s.fld (R.CORE_SLOT_LENGTH c i)) w1 w2 w3
  obtain ⟨hq28, hq29, hq30, hq0A, hq08⟩ := Core.rdCsr_loaded (s.core c) ((s.beginJob c p j).winOk c p run) p run desc (w64 (s.slotEnd c i))
    (1500 * s.fld (R.CORE_SLOT_LENGTH c i)) w1 w2 w3
  have hqs := Core.sreg_loaded (s.core c) ((s.beginJob c p j).winOk c p run) p run desc (w64 (s.slotEnd c i))
    (1500 * s.fld (R.CORE_SLOT_LENGTH c i)) w1 w2 w3
  rw [hk] at hqpriv hqp hqslot hq28 hq29 hq30 hq0A hq08
  simp only [hk] at hqs
  have hql : q.priv = .s := hqpriv.trans hpriv
  have hcsr (n : Nat) (h21 : n ≠ 0x21) (h8 : n ≠ 0x08) : (t.core c).rdCsr n = q.rdCsr n := by
    rw [htc, Core.rdCsr_eretReturn, if_neg (show n ≠ excBase .s from h8), Core.rdCsr_eretClear, if_neg h21, hql, if_neg (show n ≠ excBase .s from h8)]
  refine ⟨t, hx, fun r => ?_, fun r hr => ?_, ?_, by rw [htc]; rfl, ?_, ?_, ?_, ?_, ⟨run, ?_, hidx, hcls, hpi, htwo, hroute, hframe⟩, ?_, fun h => ?_,
    htm.trans hbm⟩
  · rw [htc, Core.sreg_eret, hqs, hframe, hep]
  · rw [htc, Core.preg, (Core.p_slot_eret q .s).1]
    simp [hqp, hr]
  · rw [htc, Core.priv_eret hql, show excBase .s = 0x08 from rfl, hq08, toNat_pie_div]
    rfl
  · rw [htc, Core.pc_eret hql]
    exact hq0A
  · rw [hcsr _ (by decide) (by decide), hq28]
    rfl
  · rw [hcsr _ (by decide) (by decide), hq29]
    rfl
  · rw [hcsr _ (by decide) (by decide), hq30]
  · rw [htc, (Core.p_slot_eret q .s).2]
    exact hqslot
  · rw [State.job_congr ((congrArg _ htj).trans hbj)]
    exact ⟨_, State.job_modJob hjob fun _ => ⟨rfl, rfl⟩, rfl, rfl⟩
  · obtain ⟨hact, hpass, hsig, hrv, hrt⟩ := State.showPass_shows (((s.beginJob c p j).setCore c q).traceRec c 3 i) c run.pass2 run.frame
    have hf := htf (hpair.trans h)
    rw [htwo, hframe] at hact hpass hsig hrv hrt hf
    refine ⟨?_, ?_, ?_, ?_, ?_⟩
    · rw [State.flag, hf, hact]
      rfl
    · rw [State.flag, hf, hpass]
      rfl
    · rw [hf, hsig]
      rfl
    · rw [hf, hrv]
      simp [passRhoV]
    · rw [hf, hrt]
      simp [passRhoT]

end

/-! ### The end of a program (R263–R265, R376–R378) -/

theorem State.traceRec_memGen (s : State) (c kind val : Nat) : (s.traceRec c kind val).memGen = s.memGen := by
  unfold State.traceRec
  dsimp only
  split_ifs <;> rfl

section
variable {s : State} {c : CoreId} {run : SlotRun}

/-- A run that has ended: no slot is in progress and PAIRSTAT shows no pass; jobs and memory stay. -/
theorem State.endRun_shows (s : State) (n : Nat) : ((s.endRun n).core n = { s.core n with slot := none }) ∧ (s.endRun n).mem = s.mem ∧
    (s.endRun n).memGen = s.memGen ∧ (s.endRun n).jobs = s.jobs ∧ (n < 16 → (s.endRun n).fld (R.CORE_PAIRSTAT_ACTIVE n) = 0 ∧
      (s.endRun n).fld (R.CORE_PAIRSTAT_MISMATCH n) = s.fld (R.CORE_PAIRSTAT_MISMATCH n)) ∧
    ∀ g : Fld, g.off ≠ R.CORE_PAIRSTAT n → g.off ≠ R.DBG_TRACESTAT → (s.endRun n).fld g = s.fld g := by
  unfold State.endRun
  refine ⟨?_, ?_, ?_, ?_, fun h => ?_, fun g hp ht => ?_⟩
  · rw [State.core_traceRec]
    change (s.modCore n fun k => { k with slot := none }).core n = _
    rw [State.core_modCore_same]
  · rw [State.traceRec_mem]
    rfl
  · rw [State.traceRec_memGen]
    rfl
  · rw [State.traceRec_jobs]
    rfl
  · have hoff : R.CORE_PAIRSTAT n ≠ R.DBG_TRACESTAT := by
      change 0x200040 + n * 0x10000 ≠ 0x120014
      omega
    constructor
    · rw [State.fld_traceRec _ _ _ _ hoff, State.fld_setFld_here _ _ _ rfl]
      rfl
    · rw [State.fld_traceRec _ _ _ _ hoff, State.fld_setFld_apart _ _ _ _ rfl rfl]
      rfl
  · rw [State.fld_traceRec _ _ _ _ ht, State.fld_setFld_off _ _ _ _ hp]
    rfl

/-- What EXIT does with the result of a run that has ended (R364, R376–R378, R398). -/
def State.exitResult (s : State) (c : CoreId) (run : SlotRun) (pair : Bool) (code : Nat) : State :=
  if !s.goldenOk c (s.fld (R.TAP_T_STAT_FRAME (s.fld R.TAP_LTCFG_REF))) then s
  else if !pair then s.finishRun c run run.outs code
  else if !run.pass2 then
    s.setPasses (s.jobs.passes.filter (fun x => !(x.core == c.val && x.prog == run.prog)) ++
      [⟨c, run.prog, run.route, run.frame, run.outs, code, false⟩])
  else match s.jobs.passes.find? (fun x => x.core == c.val && x.prog == run.prog && !x.final) with
  | none => s
  | some x =>
    let s := s.setPasses (s.jobs.passes.filter (fun y => y ≠ x))
    if s.outsEqual c x.outs run.outs then s.finishRun c run x.outs (if x.code ≠ 0 then x.code else code)
    else s.pairMismatch c

/-- EXIT waits while an engine of the program works. -/
theorem execExit_busy {p : Prog} (hin : s.inService c 0 = true) (hslot : (s.core c).slot = some run) (hp : s.prog run.prog = some p)
    (h : ∃ e, e < 5 ∧ bit p.engines e = true ∧ (s.core c).queue e ≠ [] ∧ (s.core c).halted e = false) : execExit c s = .next s := by
  obtain ⟨e, he, hbit, hq, hh⟩ := h
  unfold execExit
  rw [hin, if_neg (by simp), hslot]
  dsimp only
  rw [hp, if_pos]
  rw [List.any_eq_true]
  exact ⟨e, List.mem_filter.2 ⟨List.mem_range.2 he, hbit⟩, by simp [hq, hh]⟩

/-- Ending the halted engines of a program none of whose engines has halted changes nothing. -/
theorem Core.flushHalted_none (k : Core) (l : List Nat) (h : ∀ e ∈ l, k.halted e = false) :
    l.foldl (fun k e => if k.halted e then (k.setQueue e []).clearHalt e else k) k = k := by
  induction l with
  | nil => rfl
  | cons e l ih =>
    rw [List.foldl_cons, if_neg (by simp [h e]), ih fun x hx => h x (List.mem_cons_of_mem _ hx)]

/-- EXIT with the engines drained ends the run and judges its result. -/
theorem execExit_drained {p : Prog} (hin : s.inService c 0 = true) (hslot : (s.core c).slot = some run) (hp : s.prog run.prog = some p)
    (h : ∀ e, e < 5 → bit p.engines e = true → (s.core c).queue e = [] ∧ (s.core c).halted e = false) :
    execExit c s = .next (((s.modCore c id).endRun c).exitResult c run (s.paired p && !run.single)
      (if ((s.core c).sreg 1).toNat ≤ 255 then ((s.core c).sreg 1).toNat else 255)) := by
  have hbusy : (engsOf p.engines).any (fun e => !((s.core c).queue e).isEmpty && !(s.core c).halted e) = false := by
    rw [List.any_eq_false]
    intro e he
    obtain ⟨h5, hbit⟩ := List.mem_filter.1 he
    simp [(h e (List.mem_range.1 h5) hbit).1]
  have hhalt : ∀ e ∈ engsOf p.engines, (s.core c).halted e = false := fun e he =>
    (h e (List.mem_range.1 (List.mem_filter.1 he).1) (List.mem_filter.1 he).2).2
  have herr : (engsOf p.engines).any (s.core c).halted = false := by
    rw [List.any_eq_false]
    intro e he
    simp [hhalt e he]
  have hmod : (s.modCore c fun k => (engsOf p.engines).foldl (fun k e => if k.halted e then (k.setQueue e []).clearHalt e else k) k) =
      s.modCore c id := congrArg (s.setCore c) (Core.flushHalted_none _ _ hhalt)
  have hpair : ((((s.modCore c id).endRun c).prog run.prog).map ((s.modCore c id).endRun c).paired).getD false = s.paired p := by
    obtain ⟨-, -, -, hj, -, -⟩ := State.endRun_shows (s.modCore c id) c
    have hprog : ((s.modCore c id).endRun c).prog run.prog = some p := by
      rw [State.prog, hj]
      exact hp
    rw [hprog, Option.map_some, Option.getD_some, State.paired, hj]
    rfl
  unfold execExit
  rw [hin, if_neg (by simp), hslot]
  dsimp only
  rw [hp]
  dsimp only [Option.map_some, Option.getD_some]
  rw [if_neg (by simp [hbusy])]
  simp only [herr, Bool.false_eq_true, false_and, if_false, Bool.false_and, Bool.or_false]
  rw [hmod, hpair]
  unfold State.exitResult
  rfl

/-- Where an address leads rests on registers below the core pages only. -/
theorem State.loc_of_flds {s t : State} (h : ∀ g : Fld, g.off < 0x120000 → t.fld g = s.fld g) (core : Option Nat) (a : Nat) :
    t.loc core a = s.loc core a := by
  have hnim : t.hasNim = s.hasNim := by rw [State.hasNim, State.flag, h _ (by decide), State.hasNim, State.flag]
  have hcore : t.hasCore = s.hasCore := funext fun n => by rw [State.hasCore, h _ (by decide), State.hasCore]
  have hpond : t.hasPond = s.hasPond := funext fun n => by rw [State.hasPond, hcore, State.hasPond]
  have hl : locLocal t = locLocal s := by
    funext a
    unfold locLocal
    rw [hcore, hpond]
  unfold State.loc
  rw [hnim, h R.NIM_CFG_SELF (by decide), hl]

theorem State.outsEqual_congr {s t : State} (hl : ∀ core a, t.loc core a = s.loc core a) (hm : t.mem = s.mem) (hg : t.memGen = s.memGen)
    (n : Nat) (a b : List (Nat × Nat)) : t.outsEqual n a b = s.outsEqual n a b := by
  have hb : t.getMem = s.getMem := by
    funext pa m
    exact State.bytes_congr hm hg pa m
  unfold State.outsEqual
  simp only [hl, hb]

theorem State.fld_setPasses (s : State) (l : List PassOut) (g : Fld) : (s.setPasses l).fld g = s.fld g := rfl

theorem State.satInc_same (s : State) (f : Fld) : (s.satInc f).core = s.core ∧ (s.satInc f).jobs = s.jobs := ⟨rfl, rfl⟩

theorem State.outsEqual_setPasses (s : State) (l : List PassOut) (n : Nat) (a b : List (Nat × Nat)) :
    (s.setPasses l).outsEqual n a b = s.outsEqual n a b :=
  State.outsEqual_congr (State.loc_congr (s := s) (t := s.setPasses l) rfl) rfl rfl n a b

/-- The state in which EXIT judges a result: the run has ended, and only the slot, PAIRSTAT and the trace differ. -/
structure State.RunEnded (s u : State) (c : CoreId) : Prop where
  slot : (u.core c).slot = none
  mem : u.mem = s.mem
  jobs : u.jobs = s.jobs
  active : u.fld (R.CORE_PAIRSTAT_ACTIVE c) = 0
  mismatch : u.fld (R.CORE_PAIRSTAT_MISMATCH c) = s.fld (R.CORE_PAIRSTAT_MISMATCH c)
  golden : u.goldenOk c (u.fld (R.TAP_T_STAT_FRAME (u.fld R.TAP_LTCFG_REF))) = s.goldenOk c (s.fld (R.TAP_T_STAT_FRAME (s.fld R.TAP_LTCFG_REF)))
  outs : ∀ a b, u.outsEqual c a b = s.outsEqual c a b

theorem State.runEnded (s : State) (c : CoreId) : s.RunEnded ((s.modCore c id).endRun c) c := by
  obtain ⟨hcore, hmem, hgen, hjobs, hpair, hfld⟩ := State.endRun_shows (s.modCore c id) c
  have hc := c.isLt
  obtain ⟨hact, hmis⟩ := hpair hc
  have hlow (g : Fld) (hg : g.off < 0x120000) : ((s.modCore c id).endRun c).fld g = s.fld g :=
    hfld g (by change g.off ≠ 0x200040 + c.val * 0x10000; omega) (by change g.off ≠ 0x120014; omega)
  have hgold (g : Fld) (hg : g.off = R.CORE_GOLDSTAT c) : ((s.modCore c id).endRun c).fld g = s.fld g :=
    hfld g (by rw [hg]; change 0x200048 + c.val * 0x10000 ≠ 0x200040 + c.val * 0x10000; omega)
      (by rw [hg]; change 0x200048 + c.val * 0x10000 ≠ 0x120014; omega)
  have href : s.fld R.TAP_LTCFG_REF < 16 := State.fld_lt s R.TAP_LTCFG_REF
  refine ⟨by rw [hcore], hmem, hjobs, hact, hmis, ?_, State.outsEqual_congr (State.loc_of_flds hlow) hmem hgen c⟩
  unfold State.goldenOk State.flag
  rw [hgold _ rfl, hgold _ rfl, hlow R.TAP_LTCFG_REF (by decide), hlow _ (by change 0x90218 + s.fld R.TAP_LTCFG_REF * 0x40 < 0x120000; omega)]

theorem State.RunEnded.jobs_setPasses {u : State} (hu : s.RunEnded u c) (l : List PassOut) : (u.setPasses l).jobs.jobs = s.jobs.jobs :=
  show u.jobs.jobs = s.jobs.jobs by rw [hu.jobs]

section
variable {u : State} {run : SlotRun} (hu : s.RunEnded u c) (hgold : s.goldenOk c (s.fld (R.TAP_T_STAT_FRAME (s.fld R.TAP_LTCFG_REF))) = true)
  {j : Job} (hroute : run.route < 64) (hj : s.job run.route run.frame = some j) {code : Nat}

/-- A result recorded with its job. -/
theorem State.finishRun_job {v : State} (hv : v.jobs.jobs = s.jobs.jobs) (hroute : run.route < 64) (hj : s.job run.route run.frame = some j)
    (outs : List (Nat × Nat)) :
    v.finishRun c run outs code = v.modJob run.route run.frame fun j => { j with exitCode := some code, rerun := false } := by
  unfold State.finishRun
  rw [if_neg (by omega), (State.job_congr hv ..).trans hj]

include hu hgold

theorem State.exitResult_first (h1 : run.pass2 = false) : (u.exitResult c run true code) =
    u.setPasses (u.jobs.passes.filter (fun x => !(x.core == c.val && x.prog == run.prog)) ++
      [⟨c, run.prog, run.route, run.frame, run.outs, code, false⟩]) := by
  unfold State.exitResult
  rw [hu.golden, hgold, if_neg (by simp), if_neg (by simp), if_pos (by simp [h1])]

theorem State.exitResult_second (h2 : run.pass2 = true) {x : PassOut}
    (hx : s.jobs.passes.find? (fun x => x.core == c.val && x.prog == run.prog && !x.final) = some x) : (u.exitResult c run true code) =
    let v := u.setPasses (u.jobs.passes.filter (fun y => y ≠ x))
    if s.outsEqual c x.outs run.outs then v.finishRun c run x.outs (if x.code ≠ 0 then x.code else code) else v.pairMismatch c := by
  unfold State.exitResult
  rw [hu.golden, hgold, if_neg (by simp), if_neg (by simp), if_neg (by simp [h2]), hu.jobs, hx]
  dsimp only
  rw [State.outsEqual_setPasses, hu.outs]

include hroute hj

theorem State.exitResult_single : (u.exitResult c run false code) =
    u.modJob run.route run.frame fun j => { j with exitCode := some code, rerun := false } := by
  unfold State.exitResult
  rw [hu.golden, hgold, if_neg (by simp), if_pos (by simp), State.finishRun_job (congrArg _ hu.jobs) hroute hj]

end

/-- Settles O34: EXIT ends the run, then judges its result by whether the program is paired and which pass it was. -/
theorem programExit : Obligations.ProgramExit := by
  intro c s run p j k code frame hin hslot hp hroute hj
  refine ⟨execExit_busy hin hslot hp, fun hdrain hgold => ⟨fun hsingle => ?_, fun hpair hno h1 => ?_, fun hpair hno h2 x hx => ⟨fun heq => ?_, fun heq => ?_⟩⟩⟩
  all_goals
    have hexec : exec (.exit c) s = .next (((s.modCore c id).endRun c).exitResult c run (s.paired p && !run.single) code) :=
      execExit_drained hin hslot hp hdrain
    have hu := State.runEnded s c
    generalize (s.modCore c id).endRun c = u at hexec hu
    have huj : u.job run.route run.frame = some j := (State.job_congr (congrArg _ hu.jobs) ..).trans hj
  · have hb : (s.paired p && !run.single) = false := by rcases hsingle with h | h <;> simp [h]
    rw [hb, State.exitResult_single hu hgold hroute hj] at hexec
    exact ⟨_, _, hexec, hu.slot, State.job_modJob huj fun _ => ⟨rfl, rfl⟩, rfl, rfl, congrArg (· == 1) hu.active, hu.mem⟩
  · rw [hpair, hno, Bool.not_false, Bool.and_true, State.exitResult_first hu hgold h1] at hexec
    exact ⟨_, hexec, hu.slot, List.mem_append_right _ (List.mem_singleton.2 rfl), huj, hu.mem⟩
  · rw [hpair, hno, Bool.not_false, Bool.and_true, State.exitResult_second hu hgold h2 hx] at hexec
    dsimp only at hexec
    rw [heq, if_pos rfl, State.finishRun_job (hu.jobs_setPasses _) hroute hj] at hexec
    exact ⟨_, _, hexec, hu.slot, State.job_modJob huj fun _ => ⟨rfl, rfl⟩, rfl, fun h => of_decide_eq_true (List.mem_filter.1 h).2 rfl, hu.mem⟩
  · rw [hpair, hno, Bool.not_false, Bool.and_true, State.exitResult_second hu hgold h2 hx] at hexec
    dsimp only at hexec
    rw [heq, if_neg (by simp), State.pairMismatch] at hexec
    obtain ⟨hcore, hjobs⟩ := State.satInc_same (u.setPasses (u.jobs.passes.filter (fun y => y ≠ x))) (R.CORE_PAIRSTAT_MISMATCH c)
    refine ⟨_, hexec, ?_, (State.job_congr (congrArg Jobs.jobs hjobs) ..).trans huj, fun h => ?_, ?_⟩
    · rw [hcore]
      exact hu.slot
    · rw [hjobs] at h
      exact of_decide_eq_true (List.mem_filter.1 h).2 rfl
    · rw [State.fld_satInc _ _ (Nat.le_of_ble_eq_true rfl), State.fld_setPasses, hu.mismatch]

end

/-! ### What the device's own operations reach: queues, pins, latches, and registers of a set -/

/-- Between two states only the host's queues and interrupts, the pins, the Reeve, what the device keeps of itself, and registers of a
set differ. -/
structure State.Outer (O : Set Nat) (s t : State) : Prop where
  shape : ∃ regs fns irqs pins reeve dev, t = { s with regs := regs, fns := fns, irqs := irqs, pins := pins, reeve := reeve, dev := dev }
  reg : ∀ o, o ∉ O → t.reg o = s.reg o

namespace State.Outer
variable {O : Set Nat} {s t u : State}

theorem refl (O : Set Nat) (s : State) : State.Outer O s s := ⟨⟨_, _, _, _, _, _, rfl⟩, fun _ _ => rfl⟩

theorem trans (h : State.Outer O s t) (k : State.Outer O t u) : State.Outer O s u := by
  obtain ⟨⟨_, _, _, _, _, _, rfl⟩, hreg⟩ := h
  obtain ⟨⟨_, _, _, _, _, _, rfl⟩, kreg⟩ := k
  exact ⟨⟨_, _, _, _, _, _, rfl⟩, fun o ho => (kreg o ho).trans (hreg o ho)⟩

theorem mem (h : State.Outer O s t) : t.mem = s.mem := by obtain ⟨⟨_, _, _, _, _, _, rfl⟩, -⟩ := h; rfl
theorem memGen (h : State.Outer O s t) : t.memGen = s.memGen := by obtain ⟨⟨_, _, _, _, _, _, rfl⟩, -⟩ := h; rfl
theorem cores (h : State.Outer O s t) : t.cores = s.cores := by obtain ⟨⟨_, _, _, _, _, _, rfl⟩, -⟩ := h; rfl
theorem jobs (h : State.Outer O s t) : t.jobs = s.jobs := by obtain ⟨⟨_, _, _, _, _, _, rfl⟩, -⟩ := h; rfl
theorem fab (h : State.Outer O s t) : t.fab = s.fab := by obtain ⟨⟨_, _, _, _, _, _, rfl⟩, -⟩ := h; rfl
theorem sun (h : State.Outer O s t) : t.sun = s.sun := by obtain ⟨⟨_, _, _, _, _, _, rfl⟩, -⟩ := h; rfl
theorem ladder (h : State.Outer O s t) : t.ladder = s.ladder := by obtain ⟨⟨_, _, _, _, _, _, rfl⟩, -⟩ := h; rfl
theorem nim (h : State.Outer O s t) : t.nim = s.nim := by obtain ⟨⟨_, _, _, _, _, _, rfl⟩, -⟩ := h; rfl
theorem ecc (h : State.Outer O s t) : t.ecc = s.ecc := by obtain ⟨⟨_, _, _, _, _, _, rfl⟩, -⟩ := h; rfl
theorem core (h : State.Outer O s t) (n : Nat) : t.core n = s.core n := by rw [State.core, h.cores, State.core]
theorem byte (h : State.Outer O s t) (a : Nat) : t.byte a = s.byte a := State.byte_congr h.mem h.memGen a
theorem fld (h : State.Outer O s t) {g : Fld} (hg : g.off ∉ O) : t.fld g = s.fld g := congrArg g.get (h.reg g.off hg)
theorem flag (h : State.Outer O s t) {g : Fld} (hg : g.off ∉ O) : t.flag g = s.flag g := congrArg (· == 1) (h.fld hg)

/-- A state that keeps the registers. -/
theorem of_regs (h : ∃ fns irqs pins reeve dev, t = { s with fns := fns, irqs := irqs, pins := pins, reeve := reeve, dev := dev }) :
    State.Outer O s t := by
  obtain ⟨_, _, _, _, _, rfl⟩ := h
  exact ⟨⟨_, _, _, _, _, _, rfl⟩, fun _ _ => rfl⟩

theorem ite {p : Prop} [Decidable p] (h : p → State.Outer O s t) (k : ¬ p → State.Outer O s u) : State.Outer O s (if p then t else u) := by
  split
  case isTrue hp => exact h hp
  case isFalse hp => exact k hp

theorem foldl {α : Type} (l : List α) (g : State → α → State) (hg : ∀ t a, State.Outer O t (g t a)) (s : State) :
    State.Outer O s (l.foldl g s) := by
  induction l generalizing s with
  | nil => exact refl O s
  | cons a l ih => exact (hg s a).trans (ih _)

theorem setReg (s : State) {off : Nat} (v : BitVec 64) (h : off ∈ O) : State.Outer O s (s.setReg off v) :=
  ⟨⟨_, _, _, _, _, _, rfl⟩, fun o ho => by rw [State.reg_setReg, if_neg (ne_of_mem_of_not_mem h ho).symm]⟩

theorem setFld (s : State) {f : Fld} (v : Nat) (h : f.off ∈ O) : State.Outer O s (s.setFld f v) := setReg s _ h

theorem satInc (s : State) {f : Fld} (h : f.off ∈ O) : State.Outer O s (s.satInc f) := setReg s _ h

theorem queuesOnly (h : s.QueuesOnly t) : State.Outer O s t := by
  obtain ⟨_, _, rfl⟩ := h
  exact of_regs ⟨_, _, _, _, _, rfl⟩

theorem modFn (s : State) (f : Nat) (g : Fn → Fn) : State.Outer O s (s.modFn f g) := queuesOnly (State.QueuesOnly.modFn _ _ _)

theorem complete (s : State) (f cid status info : Nat) : State.Outer O s (s.complete f cid status info) := by
  unfold State.complete
  dsimp only
  exact ite (fun _ => (modFn s f _).trans (queuesOnly (State.writeCq_queuesOnly _ _ _))) fun _ => (modFn s f _).trans (modFn _ f _)

theorem postEvent (s : State) {f : Nat} (h : R.PCIEA_F_LOST f ∈ O) (kind info : Nat) : State.Outer O s (s.postEvent f kind info) := by
  unfold State.postEvent
  dsimp only
  exact ite (fun _ => satInc s h) fun _ => ite (fun _ => queuesOnly (State.writeCq_queuesOnly _ _ _)) fun _ =>
    ite (fun _ => modFn s f _) fun _ => ite (fun _ => modFn s f _) fun _ => satInc s h

theorem quietOutputs (s : State) : State.Outer O s s.quietOutputs := by
  unfold State.quietOutputs
  exact ite (fun _ => refl O s) fun _ => of_regs ⟨_, _, _, _, _, rfl⟩

theorem setState (s : State) (hs : R.DEVICE_STATE ∈ O) (hl : R.PCIEA_F_LOST 0 ∈ O) (n : Nat) : State.Outer O s (s.setState n) := by
  unfold State.setState
  dsimp only
  exact ite (fun _ => refl O s) fun _ => (((setFld s (f := R.DEVICE_STATE_PREV) _ hs).trans (setFld _ (f := R.DEVICE_STATE_STATE) _ hs)).trans
    (quietOutputs _)).trans (postEvent _ hl _ _)

theorem dropWaiting (s : State) : State.Outer O s s.dropWaiting := by
  unfold State.dropWaiting
  exact (of_regs (t := { s with dev := { s.dev with stopReq := [], reval := none, stopDue := false } }) ⟨_, _, _, _, _, rfl⟩).trans
    (foldl _ _ (fun t cid => complete t 0 cid 0x05 0) _)

theorem lose (s : State) (hs : R.DEVICE_STATE ∈ O) (hl : R.PCIEA_F_LOST 0 ∈ O) (k : Nat) : State.Outer O s (s.lose k) := by
  have hdev : State.Outer O s { s with dev := { s.dev with lost := setBit s.dev.lost k } } := of_regs ⟨_, _, _, _, _, rfl⟩
  unfold State.lose
  dsimp only
  exact ite (fun _ => refl O s) fun _ => ite (fun _ => hdev.trans (setState _ hs hl _)) fun _ => hdev

theorem regain (s : State) (hs : R.DEVICE_STATE ∈ O) (hl : R.PCIEA_F_LOST 0 ∈ O) (k : Nat) : State.Outer O s (s.regain k) := by
  have hdev : State.Outer O s { s with dev := { s.dev with lost := clrBit s.dev.lost k } } := of_regs ⟨_, _, _, _, _, rfl⟩
  unfold State.regain
  dsimp only
  exact ite (fun _ => refl O s) fun _ => ite (fun _ => hdev.trans (setState _ hs hl _)) fun _ => hdev

end State.Outer

/-! ### A change of DEVICE.STATE beside PREV and STATE -/

/-- The other fields of DEVICE.STATE stay at a change of state. -/
theorem State.fld_setState_apart (s : State) (n : Nat) {g : Fld} (hl : g.off ≠ R.PCIEA_F_LOST 0) (hg : 8 ≤ g.lo) :
    (s.setState n).fld g = s.fld g := by
  by_cases h : s.st = n
  · rw [State.setState, if_pos h]
  · rw [State.fld_setState h hl, State.fld_setFld_other _ R.DEVICE_STATE_STATE g _ (by decide) (.inr (.inl (Nat.le_trans (by decide) hg))),
      State.fld_setFld_other _ R.DEVICE_STATE_PREV g _ (by decide) (.inr (.inl hg))]

theorem State.setState_device (s : State) (n : Nat) : (s.setState n).dev = s.dev ∧ (s.setState n).reeve = s.reeve := by
  have hp (s : State) (f kind info : Nat) : (s.postEvent f kind info).dev = s.dev ∧ (s.postEvent f kind info).reeve = s.reeve := by
    unfold State.postEvent
    dsimp only
    split_ifs
    · exact ⟨rfl, rfl⟩
    · obtain ⟨_, _, h⟩ := State.writeCq_queuesOnly s f ⟨0xFFFF, 0, kind, 0, false, info⟩
      rw [h]
      exact ⟨rfl, rfl⟩
    · exact ⟨rfl, rfl⟩
    · exact ⟨rfl, rfl⟩
    · exact ⟨rfl, rfl⟩
  unfold State.setState
  dsimp only
  split_ifs
  · exact ⟨rfl, rfl⟩
  · rw [(hp ..).1, (hp ..).2]
    unfold State.quietOutputs
    split_ifs <;> exact ⟨rfl, rfl⟩

theorem State.postEvent_pins (s : State) (f kind info : Nat) : (s.postEvent f kind info).pins = s.pins := by
  unfold State.postEvent
  dsimp only
  split_ifs
  · rfl
  · obtain ⟨_, _, h⟩ := State.writeCq_queuesOnly s f ⟨0xFFFF, 0, kind, 0, false, info⟩
    rw [h]
  · rfl
  · rfl
  · rfl

/-! ### The trip path (R558–R561) -/

/-- The source of a trip in SAFETY.TRIP; the waiting commands end. -/
def State.tripCause (s : State) (source detail d : Nat) : State :=
  (((s.dropWaiting.setFld R.SAFETY_TRIP_TRIPPED 1).setFld R.SAFETY_TRIP_DIE d).setFld R.SAFETY_TRIP_SOURCE source).setFld
    R.SAFETY_TRIP_DETAIL detail

/-- The time of a trip, WATCH.LASTTRIP and the retained counts. -/
def State.tripRecord (s : State) (source detail d : Nat) : State :=
  let sec := s.tb2 / 1000000000 % 2 ^ 32
  let s := (s.setFld R.SAFETY_TRIPTIME_SEC sec).setFld R.SAFETY_TRIPTIME_NS (s.tb2 % 1000000000)
  let s := ((((s.setFld R.WATCH_LASTTRIP_SOURCE source).setFld R.WATCH_LASTTRIP_DETAIL detail).setFld
    R.WATCH_LASTTRIP_DIE d).setFld R.WATCH_LASTTRIP_EPOCH (s.fld R.DEVICE_STATE_DEV_EPOCH)).setFld
    R.WATCH_LASTTRIP_SEC sec
  let s := s.satInc (R.WATCH_RETAIN_COUNT 4)
  if source = 7 then s.satInc (R.WATCH_RETAIN_COUNT 3) else s

/-- The marks of a trip in the control window. -/
def State.tripMarks (s : State) (source detail : Nat) (reeveDie : Bool) : State :=
  let d := if reeveDie then 1 else 0
  (((s.tripCause source detail d).tripRecord source detail d).setFld R.DEVICE_STATE_INVALID 1).setFld R.DEVICE_STATE_GRACE 0

/-- Both latches set and every safe output low. -/
def State.latched (s : State) : State :=
  { s with
    reeve := { s.reeve with tripA := true, tripB := true }
    dev := { s.dev with stopReq := [], reval := none, stopDue := false }
    pins := { s.pins with faultA := false, faultB := false, stoHs := 0, stoLs := 0, dispValid := 0 } }

theorem State.trip_eq {s : State} (h : s.flag R.SAFETY_TRIP_TRIPPED = false) (source detail : Nat) (reeveDie : Bool) :
    s.trip source detail reeveDie = ((s.tripMarks source detail reeveDie).latched).setState stTRIPPED := by
  unfold State.trip
  rw [if_neg (by simp [h])]
  rfl

theorem State.trip_again {s : State} (h : s.flag R.SAFETY_TRIP_TRIPPED = true) (source detail : Nat) (reeveDie : Bool) :
    s.trip source detail reeveDie = s := by
  unfold State.trip
  rw [if_pos h]

/-- The registers of a trip's record. -/
def tripRecordRegs : Set Nat := {o | o ∈ [R.SAFETY_TRIPTIME, R.WATCH_LASTTRIP, R.WATCH_RETAIN 3, R.WATCH_RETAIN 4]}

/-- The registers a trip writes. -/
def tripRegs : Set Nat := {o | o ∈ [R.SAFETY_TRIP, R.DEVICE_STATE, R.PCIEA_F_LOST 0, R.SAFETY_TRIPTIME, R.WATCH_LASTTRIP, R.WATCH_RETAIN 3,
  R.WATCH_RETAIN 4]}

theorem tripRecordRegs_sub : tripRecordRegs ⊆ tripRegs := fun _ h => List.mem_cons_of_mem _ (List.mem_cons_of_mem _ (List.mem_cons_of_mem _ h))

theorem State.Outer.mono {O P : Set Nat} {s t : State} (h : State.Outer O s t) (hs : O ⊆ P) : State.Outer P s t :=
  ⟨h.shape, fun o ho => h.reg o fun hp => ho (hs hp)⟩

theorem State.tripCause_outer (s : State) (source detail d : Nat) : State.Outer tripRegs s (s.tripCause source detail d) := by
  have h : R.SAFETY_TRIP ∈ tripRegs := List.mem_cons_self ..
  exact ((((State.Outer.dropWaiting s).trans (State.Outer.setFld _ (f := R.SAFETY_TRIP_TRIPPED) _ h)).trans
    (State.Outer.setFld _ (f := R.SAFETY_TRIP_DIE) _ h)).trans (State.Outer.setFld _ (f := R.SAFETY_TRIP_SOURCE) _ h)).trans
    (State.Outer.setFld _ (f := R.SAFETY_TRIP_DETAIL) _ h)

theorem State.tripRecord_outer (s : State) (source detail d : Nat) : State.Outer tripRecordRegs s (s.tripRecord source detail d) := by
  have hm (o : Nat) (h : o ∈ [R.SAFETY_TRIPTIME, R.WATCH_LASTTRIP, R.WATCH_RETAIN 3, R.WATCH_RETAIN 4]) : o ∈ tripRecordRegs := h
  have htime := hm R.SAFETY_TRIPTIME (by decide)
  have hlast := hm R.WATCH_LASTTRIP (by decide)
  unfold State.tripRecord
  extract_lets sec u1 u2 u3
  have h1 : State.Outer tripRecordRegs s u1 := (State.Outer.setFld _ (f := R.SAFETY_TRIPTIME_SEC) _ htime).trans
    (State.Outer.setFld _ (f := R.SAFETY_TRIPTIME_NS) _ htime)
  have h2 : State.Outer tripRecordRegs u1 u2 := ((((State.Outer.setFld _ (f := R.WATCH_LASTTRIP_SOURCE) _ hlast).trans
    (State.Outer.setFld _ (f := R.WATCH_LASTTRIP_DETAIL) _ hlast)).trans (State.Outer.setFld _ (f := R.WATCH_LASTTRIP_DIE) _ hlast)).trans
    (State.Outer.setFld _ (f := R.WATCH_LASTTRIP_EPOCH) _ hlast)).trans (State.Outer.setFld _ (f := R.WATCH_LASTTRIP_SEC) _ hlast)
  have h3 : State.Outer tripRecordRegs u2 u3 := State.Outer.satInc _ (f := R.WATCH_RETAIN_COUNT 4) (hm _ (by decide))
  exact ((h1.trans h2).trans h3).trans (State.Outer.ite (fun _ => State.Outer.satInc _ (f := R.WATCH_RETAIN_COUNT 3) (hm _ (by decide)))
    fun _ => State.Outer.refl _ _)

theorem State.tripMarks_outer (s : State) (source detail : Nat) (reeveDie : Bool) : State.Outer tripRegs s (s.tripMarks source detail reeveDie) := by
  have h : R.DEVICE_STATE ∈ tripRegs := List.mem_cons_of_mem _ (List.mem_cons_self ..)
  exact (((State.tripCause_outer ..).trans ((State.tripRecord_outer ..).mono tripRecordRegs_sub)).trans
    (State.Outer.setFld _ (f := R.DEVICE_STATE_INVALID) _ h)).trans (State.Outer.setFld _ (f := R.DEVICE_STATE_GRACE) _ h)

/-- What SAFETY.TRIP and DEVICE.STATE show of a trip. -/
theorem State.tripMarks_shows (s : State) {source detail : Nat} (hs : source < 256) (hd : detail < 256) (reeveDie : Bool) :
    (s.tripMarks source detail reeveDie).fld R.SAFETY_TRIP_TRIPPED = 1 ∧
    (s.tripMarks source detail reeveDie).fld R.SAFETY_TRIP_SOURCE = source ∧ (s.tripMarks source detail reeveDie).fld R.SAFETY_TRIP_DETAIL = detail ∧
    (s.tripMarks source detail reeveDie).fld R.SAFETY_TRIP_DIE = (if reeveDie then 1 else 0) ∧
    (s.tripMarks source detail reeveDie).fld R.DEVICE_STATE_INVALID = 1 ∧ (s.tripMarks source detail reeveDie).fld R.DEVICE_STATE_GRACE = 0 := by
  have hrec (g : Fld) (hg : g.off = R.SAFETY_TRIP) : (s.tripMarks source detail reeveDie).fld g =
      (s.tripCause source detail (if reeveDie then 1 else 0)).fld g := by
    have hne : g.off ≠ R.DEVICE_STATE := by rw [hg]; decide
    have hr : g.off ∉ tripRecordRegs := by rw [hg]; unfold tripRecordRegs; decide
    unfold State.tripMarks
    rw [State.fld_setFld_off _ _ _ _ hne, State.fld_setFld_off _ _ _ _ hne, (State.tripRecord_outer ..).fld hr]
  refine ⟨?_, ?_, ?_, ?_, ?_, ?_⟩
  · rw [hrec _ rfl, State.tripCause, State.fld_setFld_apart _ _ _ _ rfl rfl, State.fld_setFld_apart _ _ _ _ rfl rfl,
      State.fld_setFld_apart _ _ _ _ rfl rfl, State.fld_setFld_here _ _ _ rfl]
    rfl
  · rw [hrec _ rfl, State.tripCause, State.fld_setFld_apart _ _ _ _ rfl rfl, State.fld_setFld_here _ _ _ rfl]
    exact Nat.mod_eq_of_lt hs
  · rw [hrec _ rfl, State.tripCause, State.fld_setFld_here _ _ _ rfl]
    exact Nat.mod_eq_of_lt hd
  · rw [hrec _ rfl, State.tripCause, State.fld_setFld_apart _ _ _ _ rfl rfl, State.fld_setFld_apart _ _ _ _ rfl rfl, State.fld_setFld_here _ _ _ rfl]
    cases reeveDie <;> rfl
  · rw [State.tripMarks, State.fld_setFld_apart _ _ _ _ rfl rfl, State.fld_setFld_here _ _ _ rfl]
    rfl
  · rw [State.tripMarks, State.fld_setFld_here _ _ _ rfl]
    rfl

theorem State.trip_outer (s : State) (source detail : Nat) (reeveDie : Bool) : State.Outer tripRegs s (s.trip source detail reeveDie) := by
  by_cases h : s.flag R.SAFETY_TRIP_TRIPPED = true
  · rw [State.trip_again h]
    exact State.Outer.refl _ s
  · rw [State.trip_eq (by simpa using h)]
    have hs : R.DEVICE_STATE ∈ tripRegs := List.mem_cons_of_mem _ (List.mem_cons_self ..)
    have hl : R.PCIEA_F_LOST 0 ∈ tripRegs := List.mem_cons_of_mem _ (List.mem_cons_of_mem _ (List.mem_cons_self ..))
    exact ((State.tripMarks_outer s source detail reeveDie).trans (State.Outer.of_regs ⟨_, _, _, _, _, rfl⟩)).trans
      (State.Outer.setState _ hs hl _)

theorem State.latched_fld (s : State) (g : Fld) : s.latched.fld g = s.fld g := rfl

/-- A change to TRIPPED leaves the pins low. -/
theorem State.pins_setState_tripped (s : State) : (s.latched.setState stTRIPPED).pins.faultA = false ∧
    (s.latched.setState stTRIPPED).pins.faultB = false ∧ (s.latched.setState stTRIPPED).pins.stoHs = 0 ∧
    (s.latched.setState stTRIPPED).pins.stoLs = 0 ∧ (s.latched.setState stTRIPPED).pins.dispValid = 0 := by
  unfold State.setState
  dsimp only
  split_ifs
  · exact ⟨rfl, rfl, rfl, rfl, rfl⟩
  · rw [State.postEvent_pins]
    unfold State.quietOutputs
    split_ifs
    · exact ⟨rfl, rfl, rfl, rfl, rfl⟩
    · refine ⟨rfl, ?_, rfl, ?_, rfl⟩ <;> exact ite_self _

/-- What a trip of a device that has not tripped shows (R558–R561). -/
theorem State.trip_tripped {s : State} (h : s.flag R.SAFETY_TRIP_TRIPPED = false) {source detail : Nat} (hs : source < 256) (hd : detail < 256)
    (reeveDie : Bool) : s.Tripped (s.trip source detail reeveDie) source detail reeveDie := by
  obtain ⟨htrip, hsource, hdetail, hdie, hinv, hgrace⟩ := State.tripMarks_shows s hs hd reeveDie
  have ho := State.trip_outer s source detail reeveDie
  rw [State.trip_eq h] at ho ⊢
  generalize s.tripMarks source detail reeveDie = u at *
  have htr (g : Fld) (hg : g.off = R.SAFETY_TRIP) : (u.latched.setState stTRIPPED).fld g = u.fld g := by
    rw [State.fld_setState_other _ _ (by rw [hg]; decide) (by rw [hg]; decide), State.latched_fld]
  have hds (g : Fld) (hg : g.off = R.DEVICE_STATE) (h8 : 8 ≤ g.lo) : (u.latched.setState stTRIPPED).fld g = u.fld g := by
    rw [State.fld_setState_apart _ _ (by rw [hg]; decide) h8, State.latched_fld]
  obtain ⟨hfa, hfb, hhs, hls, hdv⟩ := State.pins_setState_tripped u
  obtain ⟨-, hreeve⟩ := State.setState_device u.latched stTRIPPED
  refine ⟨State.st_setState _ (by decide), ?_, ?_, ?_, ?_, ?_, ?_, hfa, hfb, hhs, hls, hdv, ?_, ?_, ho.cores, ho.mem⟩
  · rw [State.flag, htr _ rfl, htrip]
    rfl
  · rw [htr _ rfl, hsource]
  · rw [htr _ rfl, hdetail]
  · rw [State.flag, htr _ rfl, hdie]
    cases reeveDie <;> rfl
  · rw [hreeve]
    rfl
  · rw [hreeve]
    rfl
  · rw [State.flag, hds _ rfl (by decide), hinv]
    rfl
  · rw [State.flag, hds _ rfl (by decide), hgrace]
    rfl

/-! ### What a core's reset reaches (R134) -/

/-- Between two states only cores, memory, the fabric, the jobs, the ladder, and registers of a set differ. -/
structure State.Inner (O : Set Nat) (s t : State) : Prop where
  shape : ∃ regs ladder cores mem memGen poison ecc freeCtr fab jobs,
    t = { s with regs := regs, ladder := ladder, cores := cores, mem := mem, memGen := memGen, poison := poison, ecc := ecc, freeCtr := freeCtr, fab := fab, jobs := jobs }
  reg : ∀ o, o ∉ O → t.reg o = s.reg o

namespace State.Inner
variable {O : Set Nat} {s t u : State}

theorem refl (O : Set Nat) (s : State) : State.Inner O s s := ⟨⟨_, _, _, _, _, _, _, _, _, _, rfl⟩, fun _ _ => rfl⟩

theorem trans (h : State.Inner O s t) (k : State.Inner O t u) : State.Inner O s u := by
  obtain ⟨⟨_, _, _, _, _, _, _, _, _, _, rfl⟩, hreg⟩ := h
  obtain ⟨⟨_, _, _, _, _, _, _, _, _, _, rfl⟩, kreg⟩ := k
  exact ⟨⟨_, _, _, _, _, _, _, _, _, _, rfl⟩, fun o ho => (kreg o ho).trans (hreg o ho)⟩

theorem mono {P : Set Nat} (h : State.Inner O s t) (hs : O ⊆ P) : State.Inner P s t := ⟨h.shape, fun o ho => h.reg o fun hp => ho (hs hp)⟩

theorem dev (h : State.Inner O s t) : t.dev = s.dev := by obtain ⟨⟨_, _, _, _, _, _, _, _, _, _, rfl⟩, -⟩ := h; rfl
theorem sun (h : State.Inner O s t) : t.sun = s.sun := by obtain ⟨⟨_, _, _, _, _, _, _, _, _, _, rfl⟩, -⟩ := h; rfl
theorem fld (h : State.Inner O s t) {g : Fld} (hg : g.off ∉ O) : t.fld g = s.fld g := congrArg g.get (h.reg g.off hg)
theorem flag (h : State.Inner O s t) {g : Fld} (hg : g.off ∉ O) : t.flag g = s.flag g := congrArg (· == 1) (h.fld hg)

theorem of_regs (h : ∃ cores mem memGen poison ecc freeCtr fab jobs, t =
    { s with cores := cores, mem := mem, memGen := memGen, poison := poison, ecc := ecc, freeCtr := freeCtr, fab := fab, jobs := jobs }) :
    State.Inner O s t := by
  obtain ⟨_, _, _, _, _, _, _, _, rfl⟩ := h
  exact ⟨⟨_, _, _, _, _, _, _, _, _, _, rfl⟩, fun _ _ => rfl⟩

theorem setReg (s : State) {off : Nat} (v : BitVec 64) (h : off ∈ O) : State.Inner O s (s.setReg off v) :=
  ⟨⟨_, _, _, _, _, _, _, _, _, _, rfl⟩, fun o ho => by rw [State.reg_setReg, if_neg (ne_of_mem_of_not_mem h ho).symm]⟩

theorem setFld (s : State) {f : Fld} (v : Nat) (h : f.off ∈ O) : State.Inner O s (s.setFld f v) := setReg s _ h

theorem satInc (s : State) {f : Fld} (h : f.off ∈ O) : State.Inner O s (s.satInc f) := setReg s _ h

theorem foldl {α : Type} (l : List α) (g : State → α → State) (hg : ∀ t, ∀ a ∈ l, State.Inner O t (g t a)) (s : State) :
    State.Inner O s (l.foldl g s) := by
  induction l generalizing s with
  | nil => exact refl O s
  | cons a l ih => exact (hg s a (List.mem_cons_self ..)).trans (ih (fun t x hx => hg t x (List.mem_cons_of_mem _ hx)) _)

end State.Inner

/-- Between two states only the fabric, the ladder and registers of a set differ. -/
structure State.RegFab (O : Set Nat) (s t : State) : Prop where
  shape : ∃ regs ladder fab, t = { s with regs := regs, ladder := ladder, fab := fab }
  reg : ∀ o, o ∉ O → t.reg o = s.reg o

namespace State.RegFab
variable {O : Set Nat} {s t u : State}

theorem refl (O : Set Nat) (s : State) : State.RegFab O s s := ⟨⟨_, _, _, rfl⟩, fun _ _ => rfl⟩

theorem trans (h : State.RegFab O s t) (k : State.RegFab O t u) : State.RegFab O s u := by
  obtain ⟨⟨_, _, _, rfl⟩, hreg⟩ := h
  obtain ⟨⟨_, _, _, rfl⟩, kreg⟩ := k
  exact ⟨⟨_, _, _, rfl⟩, fun o ho => (kreg o ho).trans (hreg o ho)⟩

theorem mono {P : Set Nat} (h : State.RegFab O s t) (hs : O ⊆ P) : State.RegFab P s t := ⟨h.shape, fun o ho => h.reg o fun hp => ho (hs hp)⟩
theorem inner (h : State.RegFab O s t) : State.Inner O s t := by
  obtain ⟨⟨_, _, _, rfl⟩, hreg⟩ := h
  exact ⟨⟨_, _, _, _, _, _, _, _, _, _, rfl⟩, hreg⟩

theorem cores (h : State.RegFab O s t) : t.cores = s.cores := by obtain ⟨⟨_, _, _, rfl⟩, -⟩ := h; rfl
theorem core (h : State.RegFab O s t) (n : Nat) : t.core n = s.core n := by rw [State.core, h.cores, State.core]
theorem mem (h : State.RegFab O s t) : t.mem = s.mem := by obtain ⟨⟨_, _, _, rfl⟩, -⟩ := h; rfl
theorem memGen (h : State.RegFab O s t) : t.memGen = s.memGen := by obtain ⟨⟨_, _, _, rfl⟩, -⟩ := h; rfl
theorem byte (h : State.RegFab O s t) (a : Nat) : t.byte a = s.byte a := State.byte_congr h.mem h.memGen a
theorem jobs (h : State.RegFab O s t) : t.jobs = s.jobs := by obtain ⟨⟨_, _, _, rfl⟩, -⟩ := h; rfl
theorem dev (h : State.RegFab O s t) : t.dev = s.dev := by obtain ⟨⟨_, _, _, rfl⟩, -⟩ := h; rfl
theorem fld (h : State.RegFab O s t) {g : Fld} (hg : g.off ∉ O) : t.fld g = s.fld g := congrArg g.get (h.reg g.off hg)
theorem flag (h : State.RegFab O s t) {g : Fld} (hg : g.off ∉ O) : t.flag g = s.flag g := congrArg (· == 1) (h.fld hg)

theorem of_fab (s : State) (f : Fabric) : State.RegFab O s { s with fab := f } := ⟨⟨_, _, _, rfl⟩, fun _ _ => rfl⟩

theorem setReg (s : State) {off : Nat} (v : BitVec 64) (h : off ∈ O) : State.RegFab O s (s.setReg off v) :=
  ⟨⟨_, _, _, rfl⟩, fun o ho => by rw [State.reg_setReg, if_neg (ne_of_mem_of_not_mem h ho).symm]⟩

theorem setFld (s : State) {f : Fld} (v : Nat) (h : f.off ∈ O) : State.RegFab O s (s.setFld f v) := setReg s _ h

theorem satInc (s : State) {f : Fld} (h : f.off ∈ O) : State.RegFab O s (s.satInc f) := setReg s _ h

theorem foldl {α : Type} (l : List α) (g : State → α → State) (hg : ∀ t, ∀ a ∈ l, State.RegFab O t (g t a)) (s : State) :
    State.RegFab O s (l.foldl g s) := by
  induction l generalizing s with
  | nil => exact refl O s
  | cons a l ih => exact (hg s a (List.mem_cons_self ..)).trans (ih (fun t x hx => hg t x (List.mem_cons_of_mem _ hx)) _)

end State.RegFab

theorem State.RegFab.of_writes {O : Set Nat} {s t : State} (h : State.Writes O s t) : State.RegFab O s t := by
  obtain ⟨⟨_, _, rfl⟩, hreg⟩ := h
  exact ⟨⟨_, _, _, rfl⟩, hreg⟩

/-- The registers that a reset of core `n` reaches. -/
def coreResetRegs (n : Nat) : Set Nat :=
  {o | R.CORE_SOBJ n 0 ≤ o ∧ o < R.CORE_SOBJ n 256 ∨ o ∈ [R.CORE_ENGFLAG n, R.CORE_BELLSTAT n, R.CORE_GOLDSTAT n, R.CORE_INJSTAT n,
    R.CORE_PAIRSTAT n, R.CORE_WMSTAT n] ∨ ∃ b, b < 64 ∧ o = R.BELL_BARSTAT b}

/-- A core at reset, its region of memory lost; every other core, byte and register is as before, and no pass is added. -/
structure State.CoreCleared (s t : State) (n : Nat) : Prop where
  inner : State.Inner (coreResetRegs n) s t
  core : t.core n = Core.reset
  other : ∀ q, q ≠ n → t.core q = s.core q
  byte : ∀ a, regionOf a ≠ 8 + n → t.byte a = s.byte a
  hearth : t.jobs.hearth = s.jobs.hearth
  passes : ∀ x ∈ t.jobs.passes, x ∈ s.jobs.passes

theorem State.CoreCleared.regFab {s t u : State} {n : Nat} (h : s.CoreCleared t n) (k : State.RegFab (coreResetRegs n) t u) : s.CoreCleared u n where
  inner := h.inner.trans k.inner
  core := (k.core n).trans h.core
  other q hq := (k.core q).trans (h.other q hq)
  byte a ha := (k.byte a).trans (h.byte a ha)
  hearth := by rw [k.jobs, h.hearth]
  passes x hx := h.passes x (by rwa [k.jobs] at hx)

theorem regionOf_keep_hits {n a : Nat} (gen : Nat) (keep : List (Nat × Nat)) (h : regionOf a ≠ n) : (⟨n, gen, keep⟩ : Loss).hits a = false := by
  rw [Loss.hits, Bool.and_eq_false_iff]
  exact .inl (beq_false_of_ne (Ne.symm h))

/-! The steps of a core's reset. -/

def State.coreBared (s : State) (n : Nat) : State := ((s.setCore n Core.reset).objsToBase n (fun _ _ => true)).loseRegion (8 + n)

def State.coreForgotten (s : State) (n : Nat) : State :=
  { s with fab := { s.fab with
      outst := s.fab.outst.filter (·.core ≠ n), markers := s.fab.markers.filter (·.core ≠ n)
      msgs := s.fab.msgs.filter (·.src ≠ n), completions := s.fab.completions.filter (·.2.1 ≠ n) } }

def State.coreRegsCleared (s : State) (n : Nat) : State :=
  let s := (s.setReg (R.CORE_ENGFLAG n) 0).setFld (R.CORE_BELLSTAT_PDEPTH n) 0
  let s := (s.setFld (R.CORE_BELLSTAT_LENT n) 0).setFld (R.CORE_GOLDSTAT_OK n) 0
  let s := (s.setFld (R.CORE_INJSTAT_RAN n) 0).setFld (R.CORE_PAIRSTAT_ACTIVE n) 0
  (s.setFld (R.CORE_WMSTAT_ELAPSED n) 0).setFld (R.CORE_WMSTAT_TOKEN n) 0xACE1

def State.coreBarriersBroken (s : State) (n : Nat) : State := (s.barriersOf n).foldl (fun s b => s.breakBarrier b n) s

def State.coreRerun (s : State) (n : Nat) : State :=
  { s with jobs := { s.jobs with
      passes := s.jobs.passes.filter (·.core ≠ n)
      jobs := s.jobs.jobs.map (fun (j : Job) => if j.core = n ∧ j.ran ∧ j.exitCode = none ∧ !j.overrun ∧ !j.pairNone then
        { j with ran := false, rerun := true, credits := [], failed := none } else j) } }

theorem State.resetCore_eq (s : State) (n : Nat) :
    s.resetCore n = ((((s.coreBared n).coreForgotten n).coreRegsCleared n).coreBarriersBroken n).coreRerun n := by
  unfold State.resetCore
  extract_lets u1 u2 f u3 u4 u5 u6 u7 u8 j
  have h2 : u2 = s.coreBared n := rfl
  have h3 : u3 = u2.coreForgotten n := rfl
  clear_value u3
  have h7 : u7 = u3.coreRegsCleared n := rfl
  clear_value u7
  have h8 : u8 = u7.coreBarriersBroken n := rfl
  clear_value u8
  rw [← h2, ← h3, ← h7, ← h8]
  rfl

theorem State.coreBared_cleared (s : State) (n : Nat) : s.CoreCleared (s.coreBared n) n := by
  obtain ⟨u, hu⟩ : ∃ u, u = (s.setCore n Core.reset).objsToBase n (fun _ _ => true) := ⟨_, rfl⟩
  have h1 : State.RegFab (coreResetRegs n) (s.setCore n Core.reset) u :=
    hu ▸ (State.RegFab.of_writes (State.objsToBase_writes _ n _)).mono fun o ho => .inl ho
  have hset : State.Inner (coreResetRegs n) s (s.setCore n Core.reset) := State.Inner.of_regs ⟨_, _, _, _, _, _, _, _, rfl⟩
  have hlose : State.Inner (coreResetRegs n) u (u.loseRegion (8 + n)) := State.Inner.of_regs ⟨_, _, _, _, _, _, _, _, rfl⟩
  have hcores : (u.loseRegion (8 + n)).cores = u.cores ∧ (u.loseRegion (8 + n)).jobs = u.jobs := ⟨rfl, rfl⟩
  have hcore (q : Nat) : (u.loseRegion (8 + n)).core q = (s.setCore n Core.reset).core q := by
    rw [State.core, hcores.1, ← State.core, h1.core q]
  have hjobs : (u.loseRegion (8 + n)).jobs = s.jobs := hcores.2.trans h1.jobs
  rw [State.coreBared, ← hu]
  refine ⟨(hset.trans h1.inner).trans hlose, ?_, fun q hq => ?_, fun a ha => ?_, by rw [hjobs], fun x hx => by rwa [hjobs] at hx⟩
  · exact (hcore n).trans (State.core_modCore_same s n fun _ => Core.reset)
  · exact (hcore q).trans ((State.core_modCore s n q fun _ => Core.reset).trans (if_neg hq))
  · exact (State.byte_takeLoss u _ a (regionOf_keep_hits _ _ ha)).trans (h1.byte a)

theorem State.coreRegsCleared_regFab (s : State) (n : Nat) : State.RegFab (coreResetRegs n) s (s.coreRegsCleared n) := by
  have hm (o : Nat) (h : o ∈ [R.CORE_ENGFLAG n, R.CORE_BELLSTAT n, R.CORE_GOLDSTAT n, R.CORE_INJSTAT n, R.CORE_PAIRSTAT n, R.CORE_WMSTAT n]) :
    o ∈ coreResetRegs n := .inr (.inl h)
  have h1 := State.RegFab.setReg s (off := R.CORE_ENGFLAG n) 0 (hm _ (by simp))
  have hset (u : State) (f : Fld) (v : Nat)
      (h : f.off ∈ [R.CORE_ENGFLAG n, R.CORE_BELLSTAT n, R.CORE_GOLDSTAT n, R.CORE_INJSTAT n, R.CORE_PAIRSTAT n, R.CORE_WMSTAT n]) :
      State.RegFab (coreResetRegs n) u (u.setFld f v) := State.RegFab.setFld u v (hm _ h)
  exact ((((((h1.trans (hset _ (R.CORE_BELLSTAT_PDEPTH n) _ (by simp [R.CORE_BELLSTAT_PDEPTH]))).trans
    (hset _ (R.CORE_BELLSTAT_LENT n) _ (by simp [R.CORE_BELLSTAT_LENT]))).trans
    (hset _ (R.CORE_GOLDSTAT_OK n) _ (by simp [R.CORE_GOLDSTAT_OK]))).trans
    (hset _ (R.CORE_INJSTAT_RAN n) _ (by simp [R.CORE_INJSTAT_RAN]))).trans
    (hset _ (R.CORE_PAIRSTAT_ACTIVE n) _ (by simp [R.CORE_PAIRSTAT_ACTIVE]))).trans
    (hset _ (R.CORE_WMSTAT_ELAPSED n) _ (by simp [R.CORE_WMSTAT_ELAPSED]))).trans
    (hset _ (R.CORE_WMSTAT_TOKEN n) _ (by simp [R.CORE_WMSTAT_TOKEN]))

theorem State.coreBarriersBroken_regFab (s : State) (n : Nat) : State.RegFab (coreResetRegs n) s (s.coreBarriersBroken n) :=
  State.RegFab.foldl _ (fun s b => s.breakBarrier b n) (fun t b hb => by
    obtain ⟨v, fab, hv, ht⟩ := State.breakBarrier_eq t b n
    rw [ht]
    exact ((State.RegFab.of_writes hv).mono fun o ho => .inr (.inr ⟨b, State.mem_barriersOf hb, ho⟩)).trans (State.RegFab.of_fab v fab)) _

theorem State.CoreCleared.rerun {s u : State} {n : Nat} (h : s.CoreCleared u n) : s.CoreCleared (u.coreRerun n) n := by
  have hrest : (u.coreRerun n).cores = u.cores ∧ (u.coreRerun n).mem = u.mem ∧ (u.coreRerun n).memGen = u.memGen ∧
      (u.coreRerun n).jobs.hearth = u.jobs.hearth ∧ (u.coreRerun n).jobs.passes = u.jobs.passes.filter (·.core ≠ n) := ⟨rfl, rfl, rfl, rfl, rfl⟩
  obtain ⟨hc, hm, hg, hh, hp⟩ := hrest
  have hcore (q : Nat) : (u.coreRerun n).core q = u.core q := by rw [State.core, hc, State.core]
  refine ⟨h.inner.trans (State.Inner.of_regs ⟨_, _, _, _, _, _, _, _, rfl⟩), (hcore n).trans h.core, fun q hq => (hcore q).trans (h.other q hq),
    fun a ha => (State.byte_congr hm hg a).trans (h.byte a ha), hh.trans h.hearth, fun x hx => ?_⟩
  rw [hp] at hx
  exact h.passes x (List.mem_of_mem_filter hx)

theorem State.resetCore_cleared (s : State) (n : Nat) : s.CoreCleared (s.resetCore n) n := by
  rw [State.resetCore_eq]
  exact ((((s.coreBared_cleared n).regFab (State.RegFab.of_fab _ _)).regFab (State.coreRegsCleared_regFab _ n)).regFab
    (State.coreBarriersBroken_regFab _ n)).rerun

/-! ### A golden run and the addresses below the scratchpads -/

/-- A serving device whose core 0 must run golden runs, with a byte listed at 0x2_0000_0000, between DRAM and the scratchpads: no
memory is there, and `regionOf` counts the address to core 0's scratchpad. -/
def goldenHole (b : Byte) : State :=
  let s := (State.reset.setFld R.DEVICE_STATE_STATE stSERVING).setFld (fCoreState 0) csSERVING
  { s.setFld (R.CORE_GOLDCFG_REQUIRED 0) 1 with mem := [(0x200000000, b)] }

/-- A byte of a region just lost reads free. -/
theorem State.byte_loseRegion_hit (s : State) (r : Nat) (keep : List (Nat × Nat)) (a : Nat) (h : ∀ g, (⟨r, g, keep⟩ : Loss).hits a = true) :
    (s.loseRegion r keep).byte a = Config.freeByte (s.freeCtr + 1) a := by
  change SMap.get (memDflt (⟨r, s.freeCtr + 1, keep⟩ :: s.memGen)) (SMap.dropKeys s.mem (⟨r, s.freeCtr + 1, keep⟩ : Loss).hits) a = _
  rw [SMap.get_dropKeys, if_pos (h _)]
  simp [memDflt, h]

/-- Core 0's golden run loses the byte listed there, whatever it was. -/
theorem goldenHole_run (b : Byte) : ∃ t, exec (.goldenRun 0 true 0) (goldenHole b) = .next t ∧
    t.byte 0x200000000 = Config.freeByte ((goldenHole 0).freeCtr + 1) 0x200000000 := by
  have hdue : (goldenHole 0).goldenDue 0 = true := by decide
  have hdue : (goldenHole b).goldenDue 0 = true := hdue
  have hset (s : State) (f : Fld) (v a : Nat) : (s.setFld f v).byte a = s.byte a := rfl
  have hhit (g : Nat) : (⟨8, g, [(0x1000000000, 0x10001F0000)]⟩ : Loss).hits 0x200000000 = true := by
    have h : (⟨8, 0, [(0x1000000000, 0x10001F0000)]⟩ : Loss).hits 0x200000000 = true := by decide
    exact h
  refine ⟨_, congrArg Host.Outcome.next (if_neg (by simp [hdue])), ?_⟩
  dsimp only
  rw [if_pos (by decide), hset, hset, hset, hset, hset]
  exact State.byte_loseRegion_hit (goldenHole b) 8 [(0x1000000000, 0x10001F0000)] 0x200000000 hhit

theorem goldenHole_due (b : Byte) : (goldenHole b).serving = true ∧
    (((goldenHole b).fld (fCoreState (0 : CoreId)) = csSERVING ∧ (goldenHole b).flag (R.CORE_GOLDCFG_REQUIRED (0 : CoreId)) = true) ∨
      ((goldenHole b).fld (fCoreState (0 : CoreId)) = csSPARE ∧
        (goldenHole b).fld (R.TAP_T_STAT_FRAME ((goldenHole b).fld R.TAP_LTCFG_REF)) % 16 = 0)) := by
  have h : (goldenHole 0).serving = true ∧ (goldenHole 0).fld (fCoreState (0 : CoreId)) = csSERVING ∧
    (goldenHole 0).flag (R.CORE_GOLDCFG_REQUIRED (0 : CoreId)) = true := by decide
  exact ⟨h.1, .inl h.2⟩

/-- Refutes O35: a golden run of core 0 loses the region of its scratchpad outside the golden area, and `regionOf` counts to that
region the addresses from 0x2_0000_0000 on at which no memory is; a byte listed at one of them is not kept. Two states that differ
in this byte alone read the same free byte there afterwards. -/
theorem not_overrunsAndGoldenRuns : ¬ Obligations.OverrunsAndGoldenRuns := by
  rintro ⟨-, h⟩
  have hkeeps (b : Byte) : Config.freeByte ((goldenHole 0).freeCtr + 1) 0x200000000 = b := by
    obtain ⟨-, hdue, -⟩ := h 0 0 (goldenHole b)
    obtain ⟨t, hx, -, -, -, -, -, hbyte, -⟩ := hdue (goldenHole_due b) (by decide)
    obtain ⟨t', hx', hb⟩ := goldenHole_run b
    cases hx.symm.trans hx'
    rw [← hb, hbyte _ (by decide)]
    rfl
  exact absurd ((hkeeps 1).symm.trans (hkeeps 2)) (by decide)

/-! ### What trips the device (R39, R87, R92, R99, R100, R558–R561) -/

theorem clrBit_lt {x n : Nat} (h : x < n) (i : Nat) : clrBit x i < n := by
  unfold clrBit
  split_ifs
  · exact lt_of_le_of_lt (Nat.sub_le ..) h
  · exact h

/-- The commands that a trip completes, and its marks, leave the Reeve as it is. -/
theorem State.tripMarks_reeve (s : State) (source detail : Nat) (reeveDie : Bool) : (s.tripMarks source detail reeveDie).reeve = s.reeve := by
  have hcomplete (s : State) (f cid status info : Nat) : (s.complete f cid status info).reeve = s.reeve := by
    unfold State.complete
    dsimp only
    split_ifs
    · obtain ⟨_, _, h⟩ := State.writeCq_queuesOnly (s.modFn f (fun k => { k with inprog := k.inprog.filter (·.cid ≠ cid) })) f
        ⟨cid, status, 0, 0, false, info⟩
      rw [h]
      rfl
    · rfl
  have hdrop (l : List Nat) (s : State) : (l.foldl (fun s cid => s.complete 0 cid 0x05 0) s).reeve = s.reeve := by
    induction l generalizing s with
    | nil => rfl
    | cons a l ih => exact (ih _).trans (hcomplete ..)
  have hset (s : State) (f : Fld) (v : Nat) : (s.setFld f v).reeve = s.reeve := rfl
  have hinc (s : State) (f : Fld) : (s.satInc f).reeve = s.reeve := rfl
  have hrec (s : State) (d : Nat) : (s.tripRecord source detail d).reeve = s.reeve := by
    unfold State.tripRecord
    split_ifs <;> simp only [hset, hinc]
  unfold State.tripMarks State.tripCause State.dropWaiting
  simp only [hset, hrec, hdrop]

/-- A trip leaves the Reeve link as it is. -/
theorem State.trip_linkUp {s : State} (h : s.flag R.SAFETY_TRIP_TRIPPED = false) (source detail : Nat) (reeveDie : Bool) :
    (s.trip source detail reeveDie).reeve.linkUp = s.reeve.linkUp := by
  have hl (u : State) : u.latched.reeve.linkUp = u.reeve.linkUp := rfl
  rw [State.trip_eq h, (State.setState_device ..).2, hl, State.tripMarks_reeve]

section
variable {s t u : State} {source detail : Nat} {die : Bool}

/-- A trip is the same seen from any state with the same cores and memory. -/
theorem State.Tripped.from (h : u.Tripped t source detail die) (hc : u.cores = s.cores) (hm : u.mem = s.mem) : s.Tripped t source detail die := by
  obtain ⟨h1, h2, h3, h4, h5, h6, h7, h8, h9, h10, h11, h12, h13, h14, h15, h16⟩ := h
  exact ⟨h1, h2, h3, h4, h5, h6, h7, h8, h9, h10, h11, h12, h13, h14, h15.trans hc, h16.trans hm⟩

/-- A trip stays one when the link goes down. -/
theorem State.Tripped.linkDown (h : s.Tripped t source detail die) (b : Bool) :
    s.Tripped { t with reeve := { t.reeve with linkUp := b } } source detail die := h

/-- A trip of a state with the same SAFETY.TRIP, cores and memory. -/
theorem State.trip_from (h : s.flag R.SAFETY_TRIP_TRIPPED = false) (hu : u.flag R.SAFETY_TRIP_TRIPPED = s.flag R.SAFETY_TRIP_TRIPPED)
    (hc : u.cores = s.cores) (hm : u.mem = s.mem) (hs : source < 256) (hd : detail < 256) : s.Tripped (u.trip source detail die) source detail die :=
  (State.trip_tripped (hu.trans h) hs hd die).from hc hm

section
variable (htrip : s.flag R.SAFETY_TRIP_TRIPPED = false)
include htrip

theorem next_railFault {rail : Fin 6} (hoff : s.dev.off = false) (hpg : s.dev.pgoodLow = false) (hrun : s.reeve.running = true) :
    (∃ t, exec (.railFault (.silent rail)) s = .next t ∧ s.Tripped t 5 rail.val true) ∧
    (rail.val = 3 ∨ rail.val = 4 → ∃ t, exec (.railFault (.comparator rail)) s = .next t ∧ s.Tripped t 5 rail.val true) ∧
    (bit s.reeve.railOut rail = true → ∃ t, exec (.railFault (.reading rail true)) s = .next t ∧ s.Tripped t 5 rail.val true) ∧
    (bit s.reeve.railOut rail = false → ∃ t, exec (.railFault (.reading rail true)) s = .next t ∧
      bit t.reeve.railOut rail = true ∧ t.regs = s.regs) ∧
    (∃ t, exec (.railFault (.reading rail false)) s = .next t ∧ bit t.reeve.railOut rail = false ∧ t.regs = s.regs) := by
  have hd : rail.val < 256 := by omega
  have hrun' : ¬ (s.dev.off || s.dev.pgoodLow || !s.reeve.running) = true := by simp [hoff, hpg, hrun]
  refine ⟨⟨_, congrArg Host.Outcome.next (if_neg hrun'), State.trip_tripped htrip (by decide) hd true⟩,
    fun hr => ⟨_, congrArg Host.Outcome.next ((if_neg hrun').trans (if_pos hr)), State.trip_tripped htrip (by decide) hd true⟩,
    fun hb => ⟨_, congrArg Host.Outcome.next ((if_neg hrun').trans ((if_neg (by simp)).trans (if_pos hb))), State.trip_from htrip rfl rfl rfl (by decide) hd⟩,
    fun hb => ⟨_, congrArg Host.Outcome.next ((if_neg hrun').trans ((if_neg (by simp)).trans (if_neg (ne_true_of_eq_false hb)))), ?_, rfl⟩,
    ⟨_, congrArg Host.Outcome.next ((if_neg hrun').trans (if_pos (by simp))), ?_, rfl⟩⟩
  · simp [bit_setBit]
  · simp [bit_clrBit]

theorem next_clockFailure : (∃ t, exec (.clockFailure .tcxo) s = .next t ∧ s.Tripped t 6 0 true) ∧
    (∃ t, exec (.clockFailure .rxtalStop) s = .next t ∧ s.Tripped t 6 1 true) ∧
    (s.monitorsOff = false → ∃ t, exec (.clockFailure .rxtal) s = .next t ∧ s.Tripped t 6 1 false) ∧
    (s.dev.off = false → ∃ t, exec (.clockFailure .crpll) s = .next t ∧ s.Tripped t 6 2 true ∧ t.flag R.DEVICE_CLKSTAT_CRPLL_LOCK = false) ∧
    (∀ i : Fin 8, i.val < 3 → s.monitorsOff = false → ∃ t, exec (.clockFailure (.pll i)) s = .next t ∧ s.Tripped t 6 i.val false ∧
      bit (t.fld R.DEVICE_CLKSTAT_PLL_LOCK) i = false) := by
  have hclk : R.DEVICE_CLKSTAT ∉ tripRegs := by unfold tripRegs; decide
  refine ⟨⟨_, congrArg Host.Outcome.next (if_neg (by simp [clkReeve])), State.trip_tripped htrip (by decide) (by decide) true⟩,
    ⟨_, congrArg Host.Outcome.next (if_neg (by simp [clkReeve])), State.trip_tripped htrip (by decide) (by decide) true⟩,
    fun hm => ⟨_, congrArg Host.Outcome.next (if_neg (by simp [hm])), State.trip_tripped htrip (by decide) (by decide) false⟩,
    fun hoff => ⟨_, congrArg Host.Outcome.next (if_neg (by simp [clkCrier, hoff])), State.trip_from htrip ?_ rfl rfl (by decide) (by decide), ?_⟩,
    fun i hi hm => ⟨_, congrArg Host.Outcome.next ((if_neg (by simp [hm])).trans (if_pos hi)), State.trip_from htrip ?_ rfl rfl (by decide) (by omega), ?_⟩⟩
  · exact congrArg (· == 1) (State.fld_setFld_off s R.DEVICE_CLKSTAT_CRPLL_LOCK R.SAFETY_TRIP_TRIPPED 0 (by decide))
  · rw [(State.trip_outer ..).flag hclk, State.flag, State.fld_setFld_here _ _ _ rfl]
    rfl
  · exact congrArg (· == 1) (State.fld_setFld_off s R.DEVICE_CLKSTAT_PLL_LOCK R.SAFETY_TRIP_TRIPPED _ (by decide))
  · rw [(State.trip_outer ..).fld hclk, State.fldBitClr, State.fld_setFld_here _ _ _ rfl]
    rw [Nat.mod_eq_of_lt (clrBit_lt (State.fld_lt s R.DEVICE_CLKSTAT_PLL_LOCK) i.val), bit_clrBit]
    simp

theorem next_graceEnd (hg : s.flag R.DEVICE_STATE_GRACE = true) (h : s.dev.off = true ∨ s.reeve.graceUntil ≤ s.tb2) :
    ∃ t, exec .graceEnd s = .next t ∧ s.Tripped t 0x0D 0 true :=
  ⟨_, congrArg Host.Outcome.next (if_pos (by rcases h with h | h <;> simp [hg, h])), State.trip_tripped htrip (by decide) (by decide) true⟩

theorem next_reeveLost (hoff : s.dev.off = false) (hpin : s.dev.pinLow = false) :
    ∃ t, exec .reeveLost s = .next t ∧ s.Tripped t 4 0 false ∧ t.reeve.linkUp = false :=
  ⟨_, congrArg Host.Outcome.next (if_neg (by simp [hoff, hpin])),
    (State.trip_tripped htrip (source := 4) (by decide) (by decide) false).linkDown false, rfl⟩

theorem next_verifierSilent_served (hst : s.st ≠ stTRIPPED) (hrun : s.reeve.running = true)
    (h : s.reeve.lastState = stSERVING ∨ s.reeve.lastState = stDEGRADED) (ha : s.dev.announced = false) :
    ∃ t, exec .verifierSilent s = .next t ∧ s.Tripped t 4 0 true ∧ t.reeve.linkUp = false := by
  let u : State := { s with reeve := { s.reeve with linkUp := false } }
  have hx : exec .verifierSilent s = .next (u.trip 4 0 true) :=
    congrArg Host.Outcome.next ((if_neg (by simp [hrun, hst])).trans ((if_pos h).trans (if_neg (by simp [ha]))))
  exact ⟨_, hx, State.trip_from htrip rfl rfl rfl (by decide) (by decide), State.trip_linkUp (s := u) htrip 4 0 true⟩

end

theorem next_verifierSilent_quiet (hst : s.st ≠ stTRIPPED) (hrun : s.reeve.running = true)
    (h : ¬ (s.reeve.lastState = stSERVING ∨ s.reeve.lastState = stDEGRADED) ∨ s.dev.announced = true) :
    ∃ t, exec .verifierSilent s = .next t ∧ t.reeve.linkUp = false ∧ t.st = s.st ∧ t.regs = s.regs ∧ t.pins = s.pins := by
  refine ⟨{ s with reeve := { s.reeve with linkUp := false } }, congrArg Host.Outcome.next ((if_neg (by simp [hrun, hst])).trans ?_), rfl, rfl, rfl, rfl⟩
  unfold State.lostVerifier
  dsimp only
  rcases h with h | h
  · rw [if_neg h]
  · rw [h, if_pos rfl, ite_self]

end

/-- Settles O41: each source goes to the trip path, whose marks `State.trip_tripped` gives. -/
theorem tripSources : Obligations.TripSources := by
  intro s armed
  refine ⟨fun source detail b => ⟨fun ⟨h, _⟩ => ⟨_, rfl, State.trip_tripped h source.isLt detail.isLt b⟩, fun h => congrArg Host.Outcome.next (State.trip_again h ..)⟩,
    fun rail => ⟨fun ⟨h, _⟩ hoff hpg hrun => next_railFault h hoff hpg hrun, fun ev hpg => congrArg Host.Outcome.next (if_pos (by simp [hpg]))⟩,
    fun ⟨h, _⟩ => ⟨_, rfl, State.trip_tripped h (by decide) (by decide) false⟩, fun ⟨h, _⟩ => next_clockFailure h,
    fun hg => ⟨fun ⟨h, _⟩ hend => next_graceEnd h hg hend, fun hoff hend => congrArg Host.Outcome.next (if_neg (by simp [hg, hoff]; omega))⟩,
    fun ⟨h, _⟩ hoff hpin => next_reeveLost h hoff hpin, fun ⟨h, hst⟩ hrun => ⟨fun hs ha => next_verifierSilent_served h hst hrun hs ha,
      fun hq => next_verifierSilent_quiet hst hrun hq⟩⟩

end Sys2Proof.Machine
end

section
-- One proof after another: what waits for another costs the check memory.
set_option Elab.async false
/-! SUPPORT. Core faults, restarts and commands (O36): the restart of a core, the move of its work, and the layer of register writes -/
namespace Sys2Proof.Machine

/-! ### The restart of a core (R125–R129) -/

/-- The registers that the restart of core `n` reaches. -/
def restartRegs (n : Nat) : Set Nat := coreResetRegs n ∪ {R.CORE_EPOCH n, R.DEVICE_CORESTATE}

/-- A register below the barriers, or of the cores' pages below the objects, is out of a core reset's reach, unless it is one of the
six that it names. -/
theorem not_mem_coreResetRegs {o n : Nat} (hb : o < R.BELL_BARSTAT 0 ∨ R.BELL_BARSTAT 64 ≤ o)
    (hs : o < R.CORE_SOBJ n 0 ∨ R.CORE_SOBJ n 256 ≤ o)
    (h : o ∉ [R.CORE_ENGFLAG n, R.CORE_BELLSTAT n, R.CORE_GOLDSTAT n, R.CORE_INJSTAT n, R.CORE_PAIRSTAT n, R.CORE_WMSTAT n]) :
    o ∉ coreResetRegs n := by
  rintro (⟨hlo, hhi⟩ | hm | ⟨b, hlt, rfl⟩)
  · omega
  · exact h hm
  · unfold R.BELL_BARSTAT at hb
    omega

theorem mem_restartRegs_state (n : Nat) : R.DEVICE_CORESTATE ∈ restartRegs n := .inr (.inr rfl)
theorem mem_restartRegs_epoch (n : Nat) : R.CORE_EPOCH n ∈ restartRegs n := .inr (.inl rfl)

theorem coreState_apart (n : Nat) : R.DEVICE_CORESTATE ∉ coreResetRegs n :=
  not_mem_coreResetRegs (.inl (by decide)) (.inl (by unfold R.DEVICE_CORESTATE R.CORE_SOBJ; omega))
    (by simp [R.DEVICE_CORESTATE, R.CORE_ENGFLAG, R.CORE_BELLSTAT, R.CORE_GOLDSTAT, R.CORE_INJSTAT, R.CORE_PAIRSTAT, R.CORE_WMSTAT]; omega)

theorem epoch_apart (n : Nat) : R.CORE_EPOCH n ∉ coreResetRegs n :=
  not_mem_coreResetRegs (.inr (by unfold R.CORE_EPOCH R.BELL_BARSTAT; omega)) (.inl (by unfold R.CORE_EPOCH R.CORE_SOBJ; omega))
    (by simp [R.CORE_EPOCH, R.CORE_ENGFLAG, R.CORE_BELLSTAT, R.CORE_GOLDSTAT, R.CORE_INJSTAT, R.CORE_PAIRSTAT, R.CORE_WMSTAT])

/-- A fenced core, with what its restart reaches. -/
structure State.Restarted (s t : State) (c : CoreId) (cause : Nat) : Prop where
  fenced : s.Fenced t c cause
  inner : State.Inner (restartRegs c) s t
  states : ∀ m, m ≠ c.val → t.fld (fCoreState m) = s.fld (fCoreState m)

theorem State.fld_epochs (s : State) (c : CoreId) (cause : Nat) (h : cause < 256) :
    let t := (((s.stepCoreEpoch c).satInc (R.CORE_EPOCH_RESTARTS c)).setFld (R.CORE_EPOCH_LAST_CAUSE c) cause).setFld (fCoreState c) csRESTARTING
    t.fld (R.CORE_EPOCH_LAST_CAUSE c) = cause ∧
    t.fld (R.CORE_EPOCH_EPOCH c) = (if s.fld (R.CORE_EPOCH_EPOCH c) = 0xFFFF then 1 else s.fld (R.CORE_EPOCH_EPOCH c) + 1) ∧
    t.fld (R.CORE_EPOCH_RESTARTS c) = min (s.fld (R.CORE_EPOCH_RESTARTS c) + 1) 255 := by
  have he : R.CORE_EPOCH c ≠ R.DEVICE_CORESTATE := by unfold R.CORE_EPOCH R.DEVICE_CORESTATE; omega
  have hc (u : State) (g : Fld) (hg : g.off = R.CORE_EPOCH c) : (u.setFld (fCoreState c) csRESTARTING).fld g = u.fld g :=
    State.fld_setFld_off u _ _ _ (hg ▸ he)
  have hE : s.fld (R.CORE_EPOCH_EPOCH c) < 2 ^ 16 := State.fld_lt s _
  dsimp only
  refine ⟨?_, ?_, ?_⟩
  · rw [hc _ _ rfl, State.fld_setFld_here _ (R.CORE_EPOCH_LAST_CAUSE c) _ rfl]
    exact Nat.mod_eq_of_lt h
  · rw [hc _ _ rfl, State.fld_setFld_apart _ (R.CORE_EPOCH_LAST_CAUSE c) (R.CORE_EPOCH_EPOCH c) _ rfl rfl, State.satInc,
      State.satAdd, State.fld_setFld_apart _ (R.CORE_EPOCH_RESTARTS c) (R.CORE_EPOCH_EPOCH c) _ rfl rfl, State.stepCoreEpoch,
      State.fld_setFld_here _ (R.CORE_EPOCH_EPOCH c) _ rfl]
    refine Nat.mod_eq_of_lt ?_
    change _ < 65536
    split_ifs <;> omega
  · rw [hc _ _ rfl, State.fld_setFld_apart _ (R.CORE_EPOCH_LAST_CAUSE c) (R.CORE_EPOCH_RESTARTS c) _ rfl rfl,
      State.fld_satInc _ _ (Nat.le_of_ble_eq_true rfl), State.stepCoreEpoch,
      State.fld_setFld_apart _ (R.CORE_EPOCH_EPOCH c) (R.CORE_EPOCH_RESTARTS c) _ rfl rfl]
    rfl

theorem State.fld_setFld_coreState (s : State) {n v : Nat} (hn : n < 16) (hv : v < 16) : (s.setFld (fCoreState n) v).fld (fCoreState n) = v := by
  rw [State.fld_setFld _ _ _ (by simp only [fCoreState]; omega)]
  exact Nat.mod_eq_of_lt hv

theorem State.beginRestart_restarted (s : State) (c : CoreId) {cause : Nat} (h : cause < 256) : s.Restarted (s.beginRestart c cause) c cause := by
  have hr := s.resetCore_cleared c
  unfold State.beginRestart
  generalize s.resetCore c = u at hr ⊢
  have hin : State.RegFab (restartRegs c) u ((((u.stepCoreEpoch c).satInc (R.CORE_EPOCH_RESTARTS c)).setFld (R.CORE_EPOCH_LAST_CAUSE c)
      cause).setFld (fCoreState c) csRESTARTING) :=
    (((State.RegFab.setFld u (f := R.CORE_EPOCH_EPOCH c) _ (mem_restartRegs_epoch c)).trans
      (State.RegFab.satInc _ (f := R.CORE_EPOCH_RESTARTS c) (mem_restartRegs_epoch c))).trans
      (State.RegFab.setFld _ (f := R.CORE_EPOCH_LAST_CAUSE c) _ (mem_restartRegs_epoch c))).trans
      (State.RegFab.setFld _ (f := fCoreState c) _ (mem_restartRegs_state c))
  have he : R.DEVICE_CORESTATE ≠ R.CORE_EPOCH c := by unfold R.CORE_EPOCH R.DEVICE_CORESTATE; omega
  obtain ⟨hcause, hepoch, hcount⟩ := u.fld_epochs c cause h
  have hs : ((((u.stepCoreEpoch c).satInc (R.CORE_EPOCH_RESTARTS c)).setFld (R.CORE_EPOCH_LAST_CAUSE c) cause).setFld (fCoreState c)
      csRESTARTING).fld (fCoreState c) = csRESTARTING := State.fld_setFld_coreState _ c.isLt (by decide)
  have hother (m : Nat) (hm : m ≠ c.val) : ((((u.stepCoreEpoch c).satInc (R.CORE_EPOCH_RESTARTS c)).setFld (R.CORE_EPOCH_LAST_CAUSE c)
      cause).setFld (fCoreState c) csRESTARTING).fld (fCoreState m) = u.fld (fCoreState m) := by
    rw [State.fld_setCoreState _ c.isLt hm, State.fld_setFld_off _ _ _ _ he, State.satInc, State.satAdd, State.fld_setFld_off _ _ _ _ he,
      State.stepCoreEpoch, State.fld_setFld_off _ _ _ _ he]
  generalize (((u.stepCoreEpoch c).satInc (R.CORE_EPOCH_RESTARTS c)).setFld (R.CORE_EPOCH_LAST_CAUSE c) cause).setFld (fCoreState c)
    csRESTARTING = t at hin hcause hepoch hcount hs hother ⊢
  have hu (g : Fld) (hg : g.off = R.CORE_EPOCH c) : u.fld g = s.fld g := hr.inner.fld (hg ▸ epoch_apart c)
  rw [hu _ rfl] at hepoch hcount
  exact ⟨⟨hs, hcause, hepoch, hcount, (hin.core c).trans hr.core, fun q hq => (hin.core q).trans (hr.other q hq),
    fun a ha => (hin.byte a).trans (hr.byte a ha)⟩, (hr.inner.mono Set.subset_union_left).trans hin.inner,
    fun m hm => (hother m hm).trans (hr.inner.fld (coreState_apart c))⟩

/-! ### Registers copied from one range to another -/

/-- The value of a listed key. -/
theorem SMap.get_of_mem {α : Type} {d : Nat → α} {m : SMap α} (h : m.Pairwise (fun p q => p.1 < q.1)) {p : Nat × α} (hp : p ∈ m) :
    SMap.get d m p.1 = p.2 := by
  induction m with
  | nil => cases hp
  | cons q m ih =>
    obtain ⟨hq, hm⟩ := List.pairwise_cons.1 h
    rcases List.mem_cons.1 hp with rfl | hp
    · exact if_pos rfl
    · exact (if_neg (Nat.ne_of_gt (hq p hp))).trans (ih hm hp)

/-- A register after a run of writes that agree on its value. -/
theorem State.reg_foldl_setReg (g : Nat → Nat) (l : List (Nat × BitVec 64)) (s : State) {o : Nat} {v : BitVec 64}
    (h : ∀ p ∈ l, g p.1 = o → p.2 = v) :
    (l.foldl (fun t p => t.setReg (g p.1) p.2) s).reg o = v ∨
      (l.foldl (fun t p => t.setReg (g p.1) p.2) s).reg o = s.reg o ∧ ∀ p ∈ l, g p.1 ≠ o := by
  induction l generalizing s with
  | nil => exact .inr ⟨rfl, fun p hp => by cases hp⟩
  | cons q l ih =>
    rw [List.foldl_cons]
    rcases ih (s.setReg (g q.1) q.2) fun p hp => h p (List.mem_cons_of_mem q hp) with hv | ⟨hv, hn⟩
    · exact .inl hv
    · rw [State.reg_setReg] at hv
      by_cases hq : o = g q.1
      · exact .inl (hv.trans ((if_pos hq).trans (h q (List.mem_cons_self ..) hq.symm)))
      · refine .inr ⟨hv.trans (if_neg hq), fun p hp => ?_⟩
        rcases List.mem_cons.1 hp with rfl | hp
        · exact Ne.symm hq
        · exact hn p hp

/-- A register of a range copied is the one it was copied from, where both have the same reset value. -/
theorem State.reg_copyRegs {s : State} (h : s.Canonical) {lo len dst k : Nat} (hk : k < len) (hr : regReset (dst + k) = regReset (lo + k)) :
    (s.copyRegs lo len dst).reg (dst + k) = s.reg (lo + k) := by
  have hlisted (p : Nat × BitVec 64) (hp : p ∈ s.listed lo len) (hg : dst + (p.1 - lo) = dst + k) : p.2 = s.reg (lo + k) := by
    obtain ⟨hlo, -⟩ := State.mem_listed hp
    have hkey : p.1 = lo + k := by omega
    rw [← hkey]
    exact (SMap.get_of_mem h.1.1 (List.mem_of_mem_filter hp)).symm
  rcases State.reg_foldl_setReg (fun o => dst + (o - lo)) _ (s.clearRegs dst len) hlisted with hv | ⟨hv, hn⟩
  · exact hv
  · refine hv.trans ?_
    have hclear : (s.clearRegs dst len).reg (dst + k) = regReset (dst + k) :=
      
      (SMap.get_dropKeys regReset s.regs (fun o => dst ≤ o && o < dst + len) (dst + k)).trans (if_pos (by simpa using hk))
    rw [hclear, hr]
    rcases SMap.get_mem regReset s.regs (lo + k) with hd | hm
    · exact hd.symm
    · refine absurd (by simp) (hn _ (List.mem_filter.2 ⟨hm, ?_⟩))
      simpa using hk

theorem State.copyRegs_writes (s : State) (lo len dst : Nat) : State.Writes (Set.Ico dst (dst + len)) s (s.copyRegs lo len dst) := by
  refine (State.Writes.clearRegs s fun o h k => Set.mem_Ico.2 ⟨h, k⟩).trans (State.Writes.foldl _ _ (fun t p hp => State.Writes.setReg t _ ?_) _)
  obtain ⟨hlo, hhi⟩ := State.mem_listed hp
  exact Set.mem_Ico.2 ⟨Nat.le_add_right _ _, by omega⟩

/-! ### The slot table and the work of a core moved to a spare (R126, R128) -/

/-- Every core's page has the same registers. -/
theorem regAt_corePage {o n : Nat} (hn : n < 16) (ho : o < 0x10000) : regAt (0x200000 + n * 0x10000 + o) = rowAt rowsCORE o := by
  have hp : (0x200000 + n * 0x10000 + o) / 0x10000 = 0x20 + n := by omega
  have hm : (0x200000 + n * 0x10000 + o) % 0x10000 = o := by omega
  rw [regAt, hm, pageRows, hp]
  interval_cases n <;> rfl

theorem regReset_slot (n i : Nat) (hn : n < 16) (hi : i < 32) : regReset (R.CORE_SLOT n i) = regReset (R.CORE_SLOT 0 i) := by
  have h (n : Nat) (hn : n < 16) : regAt (R.CORE_SLOT n i) = rowAt rowsCORE (0x400 + i * 8) := by
    rw [← regAt_corePage hn (by omega)]
    exact congrArg regAt (by unfold R.CORE_SLOT; omega)
  unfold regReset
  rw [h n hn, h 0 (by decide)]

/-- The registers that the move of core `n`'s slot table to core `sp` reaches. -/
def tableRegs (n sp : Nat) : Set Nat :=
  Set.Ico (R.CORE_SLOT sp 0) (R.CORE_SLOT sp 32) ∪ Set.Ico (R.CORE_SLOT n 0) (R.CORE_SLOT n 32) ∪
    ({R.CORE_SLOTCFG sp, R.CORE_SLOTCFG n} ∪ ({R.CORE_GOLDCFG sp, R.CORE_GOLDCFG n} ∪ {o | ∃ b, b < 64 ∧ o = R.BELL_BAR b}))

/-- What the move leaves after the slots have been copied. -/
def State.moveRest (s : State) (n sp : Nat) : State :=
  let s := (s.setFld (R.CORE_GOLDCFG_REQUIRED sp) (s.fld (R.CORE_GOLDCFG_REQUIRED n))).setFld (R.CORE_GOLDCFG_REQUIRED n) 0
  (s.barriersOf n).foldl (fun s b => s.setFld (R.BELL_BAR_CORES b) (setBit (clrBit (s.fld (R.BELL_BAR_CORES b)) n) sp)) s

theorem State.moveRest_writes (s : State) (n sp : Nat) :
    State.Writes ({R.CORE_GOLDCFG sp, R.CORE_GOLDCFG n} ∪ {o | ∃ b, b < 64 ∧ o = R.BELL_BAR b}) s (s.moveRest n sp) := by
  unfold State.moveRest
  exact ((State.Writes.setFld s (f := R.CORE_GOLDCFG_REQUIRED sp) _ (.inl (.inl rfl))).trans
    (State.Writes.setFld _ (f := R.CORE_GOLDCFG_REQUIRED n) _ (.inl (.inr rfl)))).trans
    (State.Writes.foldl _ _ (fun t b hb => State.Writes.setFld t (f := R.BELL_BAR_CORES b) _ (.inr ⟨b, State.mem_barriersOf hb, rfl⟩)) _)

theorem State.moveTable_eq (s : State) (n sp : Nat) : s.moveTable n sp =
    (((((s.copyRegs (R.CORE_SLOT n 0) 0x100 (R.CORE_SLOT sp 0)).setFld (R.CORE_SLOTCFG_COUNT sp)
      ((s.copyRegs (R.CORE_SLOT n 0) 0x100 (R.CORE_SLOT sp 0)).fld (R.CORE_SLOTCFG_COUNT n))).setFld
      (R.CORE_SLOTCFG_COUNT n) 0).moveRest n sp).clearRegs (R.CORE_SLOT n 0) 0x100) := rfl

/-- The slot table of core `n` stands in core `sp`. -/
structure State.TableMoved (s t : State) (n sp : Nat) : Prop where
  writes : State.Writes (tableRegs n sp) s t
  slot : ∀ i, i < 32 → t.reg (R.CORE_SLOT sp i) = s.reg (R.CORE_SLOT n i)
  count : t.fld (R.CORE_SLOTCFG_COUNT sp) = s.fld (R.CORE_SLOTCFG_COUNT n)
  empty : t.fld (R.CORE_SLOTCFG_COUNT n) = 0

theorem State.moveTable_moved {s : State} (h : s.Canonical) {n sp : Nat} (hn : n < 16) (hsp : sp < 16) (hne : n ≠ sp) :
    s.TableMoved (s.moveTable n sp) n sp := by
  rw [State.moveTable_eq]
  have hend (m : Nat) : R.CORE_SLOT m 0 + 0x100 = R.CORE_SLOT m 32 := by unfold R.CORE_SLOT; omega
  have hcopy := s.copyRegs_writes (R.CORE_SLOT n 0) 0x100 (R.CORE_SLOT sp 0)
  rw [hend sp] at hcopy
  have hslots (i : Nat) (hi : i < 32) : (s.copyRegs (R.CORE_SLOT n 0) 0x100 (R.CORE_SLOT sp 0)).reg (R.CORE_SLOT sp i) =
      s.reg (R.CORE_SLOT n i) := by
    have hoff (m : Nat) : R.CORE_SLOT m i = R.CORE_SLOT m 0 + i * 8 := by unfold R.CORE_SLOT; omega
    have hreset : regReset (R.CORE_SLOT sp 0 + i * 8) = regReset (R.CORE_SLOT n 0 + i * 8) := by
      rw [← hoff sp, ← hoff n, regReset_slot sp i hsp hi, regReset_slot n i hn hi]
    rw [hoff sp, hoff n]
    exact State.reg_copyRegs h (by omega) hreset
  generalize s.copyRegs (R.CORE_SLOT n 0) 0x100 (R.CORE_SLOT sp 0) = u at hcopy hslots ⊢
  have hu (g : Fld) (hg : g.off = R.CORE_SLOTCFG n) : u.fld g = s.fld g :=
    congrArg g.get (hcopy.2 g.off (by rw [hg]; simp [R.CORE_SLOTCFG, R.CORE_SLOT]; omega))
  have hcfg := (State.Writes.setFld (O := {R.CORE_SLOTCFG sp, R.CORE_SLOTCFG n}) u (f := R.CORE_SLOTCFG_COUNT sp)
    (u.fld (R.CORE_SLOTCFG_COUNT n)) (.inl rfl)).trans (State.Writes.setFld _ (f := R.CORE_SLOTCFG_COUNT n) 0 (.inr rfl))
  have hcfgne : R.CORE_SLOTCFG sp ≠ R.CORE_SLOTCFG n := by unfold R.CORE_SLOTCFG; omega
  have hcount : ((u.setFld (R.CORE_SLOTCFG_COUNT sp) (u.fld (R.CORE_SLOTCFG_COUNT n))).setFld (R.CORE_SLOTCFG_COUNT n) 0).fld
      (R.CORE_SLOTCFG_COUNT sp) = s.fld (R.CORE_SLOTCFG_COUNT n) := by
    rw [State.fld_setFld_off _ (R.CORE_SLOTCFG_COUNT n) (R.CORE_SLOTCFG_COUNT sp) _ hcfgne, State.fld_setFld_here _ (R.CORE_SLOTCFG_COUNT sp) _ rfl,
      hu _ rfl]
    exact Nat.mod_eq_of_lt (State.fld_lt s _)
  have hempty : ((u.setFld (R.CORE_SLOTCFG_COUNT sp) (u.fld (R.CORE_SLOTCFG_COUNT n))).setFld (R.CORE_SLOTCFG_COUNT n) 0).fld
      (R.CORE_SLOTCFG_COUNT n) = 0 := State.fld_setFld_here _ (R.CORE_SLOTCFG_COUNT n) 0 rfl
  generalize (u.setFld (R.CORE_SLOTCFG_COUNT sp) (u.fld (R.CORE_SLOTCFG_COUNT n))).setFld (R.CORE_SLOTCFG_COUNT n) 0 = v at hcfg hcount hempty ⊢
  have hrest := v.moveRest_writes n sp
  have hclear : State.Writes (Set.Ico (R.CORE_SLOT n 0) (R.CORE_SLOT n 32)) (v.moveRest n sp) ((v.moveRest n sp).clearRegs (R.CORE_SLOT n 0) 0x100) :=
    State.Writes.clearRegs _ fun o h k => Set.mem_Ico.2 ⟨h, k.trans_eq (hend n)⟩
  have hlate {o : Nat} (hb : R.BELL_BAR 64 ≤ o) (hg : o ≠ R.CORE_GOLDCFG sp ∧ o ≠ R.CORE_GOLDCFG n)
      (hs : o ∉ Set.Ico (R.CORE_SLOT n 0) (R.CORE_SLOT n 32)) : ((v.moveRest n sp).clearRegs (R.CORE_SLOT n 0) 0x100).reg o = v.reg o := by
    rw [hclear.2 o hs, hrest.2 o]
    rintro ((rfl | rfl) | ⟨b, hb', rfl⟩)
    · exact hg.1 rfl
    · exact hg.2 rfl
    · unfold R.BELL_BAR at hb
      omega
  have hcfgs (m : Nat) : ((v.moveRest n sp).clearRegs (R.CORE_SLOT n 0) 0x100).reg (R.CORE_SLOTCFG m) = v.reg (R.CORE_SLOTCFG m) :=
    hlate (by unfold R.BELL_BAR R.CORE_SLOTCFG; omega) (by unfold R.CORE_GOLDCFG R.CORE_SLOTCFG; omega)
      (by rw [Set.mem_Ico]; unfold R.CORE_SLOTCFG R.CORE_SLOT; omega)
  refine ⟨?_, fun i hi => ?_, (congrArg (R.CORE_SLOTCFG_COUNT sp).get (hcfgs sp)).trans hcount,
    (congrArg (R.CORE_SLOTCFG_COUNT n).get (hcfgs n)).trans hempty⟩
  · exact (((hcopy.mono fun o ho => .inl (.inl ho)).trans (hcfg.mono fun o ho => .inr (.inl ho))).trans
      (hrest.mono fun o ho => .inr (.inr ho))).trans (hclear.mono fun o ho => .inl (.inr ho))
  · rw [hlate (by unfold R.BELL_BAR R.CORE_SLOT; omega) (by unfold R.CORE_GOLDCFG R.CORE_SLOT; omega)
      (by rw [Set.mem_Ico]; unfold R.CORE_SLOT; omega), hcfg.2 _ ?_, hslots i hi]
    rintro (h | h)
    all_goals
      change _ = _ at h
      unfold R.CORE_SLOT R.CORE_SLOTCFG at h
      omega

/-! ### A fenced core seen from a state before and a state after -/

theorem State.Fenced.from {s u t : State} {c : CoreId} {cause : Nat} (h : u.Fenced t c cause) (hreg : u.reg (R.CORE_EPOCH c) = s.reg (R.CORE_EPOCH c))
    (hcore : ∀ q, u.core q = s.core q) (hbyte : ∀ a, u.byte a = s.byte a) : s.Fenced t c cause := by
  have hf (g : Fld) (hg : g.off = R.CORE_EPOCH c) : u.fld g = s.fld g := congrArg g.get (hg ▸ hreg)
  obtain ⟨hs, hc, he, hr, hk, ho, hb⟩ := h
  rw [hf _ rfl] at he hr
  exact ⟨hs, hc, he, hr, hk, fun q hq => (ho q hq).trans (hcore q), fun a ha => (hb a ha).trans (hbyte a)⟩

theorem State.Fenced.after {s t v : State} {c : CoreId} {cause : Nat} (h : s.Fenced t c cause) (hreg : v.reg (R.CORE_EPOCH c) = t.reg (R.CORE_EPOCH c))
    (hst : v.fld (fCoreState c) = t.fld (fCoreState c)) (hcore : ∀ q, v.core q = t.core q) (hbyte : ∀ a, v.byte a = t.byte a) :
    s.Fenced v c cause := by
  have hf (g : Fld) (hg : g.off = R.CORE_EPOCH c) : v.fld g = t.fld g := congrArg g.get (hg ▸ hreg)
  obtain ⟨hs, hc, he, hr, hk, ho, hb⟩ := h
  exact ⟨hst.trans hs, (hf _ rfl).trans hc, (hf _ rfl).trans he, (hf _ rfl).trans hr, (hcore c).trans hk,
    fun q hq => (hcore q).trans (ho q hq), fun a ha => (hbyte a).trans (hb a ha)⟩

/-- Registers of the device's own pages are out of a restart's reach. -/
theorem restartRegs_apart {o : Nat} (n : Nat) (h : o < R.BELL_BARSTAT 0) (hs : o ≠ R.DEVICE_CORESTATE) : o ∉ restartRegs n := by
  rintro (hr | rfl | rfl)
  · refine not_mem_coreResetRegs (.inl h) (.inl (by unfold R.CORE_SOBJ; unfold R.BELL_BARSTAT at h; omega)) ?_ hr
    simp [R.CORE_ENGFLAG, R.CORE_BELLSTAT, R.CORE_GOLDSTAT, R.CORE_INJSTAT, R.CORE_PAIRSTAT, R.CORE_WMSTAT]
    unfold R.BELL_BARSTAT at h
    omega
  · unfold R.CORE_EPOCH R.BELL_BARSTAT at h
    omega
  · exact hs rfl

/-! ### The CORE reaction (R126, R127) -/

theorem State.reg_satInc (s : State) (f : Fld) {o : Nat} (h : o ≠ f.off) : (s.satInc f).reg o = s.reg o := by
  rw [State.satInc, State.satAdd, State.reg_setFld, if_neg h]

theorem State.fld_satInc_off (s : State) (f g : Fld) (h : g.off ≠ f.off) : (s.satInc f).fld g = s.fld g := congrArg g.get (s.reg_satInc f h)

theorem stateReg_apart (n : Nat) : R.DEVICE_STATE ∉ restartRegs n := restartRegs_apart n (by decide) (by decide)

theorem State.Restarted.st {s t : State} {c : CoreId} {cause : Nat} (h : s.Restarted t c cause) : t.st = s.st :=
  h.inner.fld (g := R.DEVICE_STATE_STATE) (stateReg_apart c)

/-- A restart begun in a state that differs from another in a register of neither the core's epoch nor the device's state. -/
theorem State.Restarted.from {s u t : State} {c : CoreId} {cause : Nat} (h : u.Restarted t c cause) {off : Nat} (hu : State.RegFab {off} s u)
    (he : R.CORE_EPOCH c ≠ off) (hs : R.DEVICE_STATE ≠ off) : s.Fenced t c cause ∧ t.st = s.st ∧ t.dev = s.dev :=
  ⟨h.fenced.from (hu.reg _ he) hu.core hu.byte, h.st.trans (hu.fld (g := R.DEVICE_STATE_STATE) hs), h.inner.dev.trans hu.dev⟩

theorem epoch_ne_evcnt (n : Nat) : R.CORE_EPOCH n ≠ R.SAFETY_EVCNT := by unfold R.CORE_EPOCH R.SAFETY_EVCNT; omega

theorem State.serving_st {s : State} (h : s.serving = true) : s.st = stSERVING ∨ s.st = stDEGRADED := by
  simpa [State.serving] using h


/-- CORE counted. -/
theorem State.counted (s : State) : State.RegFab {R.SAFETY_EVCNT} s (s.satInc R.SAFETY_EVCNT_CORE) := State.RegFab.satInc s (f := R.SAFETY_EVCNT_CORE) rfl

theorem State.st_counted (s : State) : (s.satInc R.SAFETY_EVCNT_CORE).st = s.st := (s.counted).fld (g := R.DEVICE_STATE_STATE) (by decide)
theorem State.fld_counted_coreState (s : State) (n : Nat) : (s.satInc R.SAFETY_EVCNT_CORE).fld (fCoreState n) = s.fld (fCoreState n) :=
  (s.counted).fld (g := fCoreState n) (by simp [fCoreState, R.DEVICE_CORESTATE, R.SAFETY_EVCNT])

/-- A fault of a core that is neither away nor tested, in a serving device. -/
theorem State.coreFault_serving {s : State} {c : CoreId} (hs : s.serving = true) (cause : Nat)
    (hc : s.fld (fCoreState c) = csSERVING ∨ s.fld (fCoreState c) = csQUIET) :
    s.coreFault c cause = if s.fld (fCoreState c) = csSERVING then (s.satInc R.SAFETY_EVCNT_CORE).replaceCore c cause
      else (s.satInc R.SAFETY_EVCNT_CORE).beginRestart c cause := by
  have hst := State.serving_st hs
  have hserve : (s.satInc R.SAFETY_EVCNT_CORE).serving = true := by rw [State.serving, State.st_counted]; exact hs
  unfold State.coreFault
  dsimp only
  rw [if_neg, if_neg, if_neg]
  · by_cases h : s.fld (fCoreState c) = csSERVING
    · rw [if_pos ⟨h, hserve⟩, if_pos h]
    · rw [if_neg fun hx => h hx.1, if_neg h]
  · rintro ⟨h, -⟩
    rcases hc with hc | hc <;> exact absurd (hc.symm.trans h) (by decide)
  · rw [State.st_counted]
    rcases hst with h | h <;> rw [h] <;> decide
  · rcases hst with h | h <;> rcases hc with hc | hc <;> rw [h, hc] <;> decide

/-- Of a device that trips for want of a spare, or of a core that has no work, only the core is restarted (R126, R127). -/
theorem State.quiet_restart {s : State} {c : CoreId} {cause : Nat} (hcause : cause < 256) (hs : s.serving = true)
    (hc : s.fld (fCoreState c) = csQUIET) :
    ∃ t, s.coreFault c cause = t ∧ s.Fenced t c cause ∧ t.st = s.st ∧ t.dev = s.dev := by
  refine ⟨_, (State.coreFault_serving hs cause (.inr hc)).trans (if_neg (by rw [hc]; decide)), ?_⟩
  exact ((s.satInc R.SAFETY_EVCNT_CORE).beginRestart_restarted c hcause).from s.counted (epoch_ne_evcnt c) (by decide)

theorem State.chooseSpare_none {s : State} {c : CoreId} (h : ∀ d, d < 16 → d ≠ c.val → s.fld (fCoreState d) ≠ csSPARE) : s.chooseSpare c = none := by
  have hok (d : Nat) (hd : d ∈ List.range 16) : (s.fld (fCoreState d) == csSPARE && d != c.val) = false := by
    by_cases hc : d = c.val
    · simp [hc]
    · simp [h d (List.mem_range.1 hd) hc]
  unfold State.chooseSpare
  dsimp only
  rw [List.find?_eq_none.2 fun d hd => by simp [hok d hd], List.find?_eq_none.2 fun d hd => by simp [hok d hd]]

theorem epoch_not_tripRegs (n : Nat) : R.CORE_EPOCH n ∉ tripRegs := fun h =>
  have hlt : ∀ o ∈ [R.SAFETY_TRIP, R.DEVICE_STATE, R.PCIEA_F_LOST 0, R.SAFETY_TRIPTIME, R.WATCH_LASTTRIP, R.WATCH_RETAIN 3, R.WATCH_RETAIN 4],
    o < 0x200000 := by decide
  absurd (hlt _ h) (by unfold R.CORE_EPOCH; omega)

theorem coreState_not_tripRegs : R.DEVICE_CORESTATE ∉ tripRegs := fun h => absurd h (by unfold tripRegs; decide)

/-- The device trips for want of a spare, with the core fenced (R126, R127). -/
theorem State.no_spare {s : State} {c : CoreId} {cause : Nat} (hcause : cause < 256) (hs : s.serving = true)
    (hc : s.fld (fCoreState c) = csSERVING) (ht : s.flag R.SAFETY_TRIP_TRIPPED = false)
    (h : ∀ d, d < 16 → d ≠ c.val → s.fld (fCoreState d) ≠ csSPARE) :
    ∃ t, s.coreFault c cause = t ∧ t.st = stTRIPPED ∧ t.fld R.SAFETY_TRIP_SOURCE = 0x0A ∧ t.fld R.SAFETY_TRIP_DETAIL = c.val ∧
      s.Fenced t c cause := by
  have hr := (s.satInc R.SAFETY_EVCNT_CORE).beginRestart_restarted c hcause
  obtain ⟨hfenced, -, -⟩ := hr.from s.counted (epoch_ne_evcnt c) (by decide)
  have hnone : (s.satInc R.SAFETY_EVCNT_CORE).chooseSpare c = none :=
    State.chooseSpare_none fun d hd hne => by rw [State.fld_counted_coreState]; exact h d hd hne
  have hflag : ((s.satInc R.SAFETY_EVCNT_CORE).beginRestart c cause).flag R.SAFETY_TRIP_TRIPPED = false := by
    rw [hr.inner.flag (g := R.SAFETY_TRIP_TRIPPED) (restartRegs_apart c (by decide) (by decide)), (s.counted).flag (by decide)]
    exact ht
  refine ⟨_, (State.coreFault_serving hs cause (.inl hc)).trans ((if_pos hc).trans (by rw [State.replaceCore, hnone])), ?_⟩
  generalize (s.satInc R.SAFETY_EVCNT_CORE).beginRestart c cause = u at hfenced hflag ⊢
  obtain ⟨hst, -, hsource, hdetail, -⟩ := State.trip_tripped hflag (source := 0x0A) (detail := c.val) (by decide) (by omega) false
  have ho := u.trip_outer 0x0A c.val false
  exact ⟨hst, hsource, hdetail, hfenced.after (ho.reg _ (epoch_not_tripRegs c)) (ho.fld (g := fCoreState c) coreState_not_tripRegs) ho.core ho.byte⟩

/-! ### Redundancies lost and regained (R789) -/

theorem State.lose_serving {s : State} (hs : s.serving = true) (k : Nat) : (s.lose k).st = stDEGRADED ∧ (s.lose k).dev.lost = setBit s.dev.lost k := by
  have hne : s.st ≠ stTRIPPED := by rcases State.serving_st hs with h | h <;> rw [h] <;> decide
  unfold State.lose
  dsimp only
  rw [if_neg hne]
  have hst : ({ s with dev := { s.dev with lost := setBit s.dev.lost k } } : State).st = s.st := rfl
  rcases State.serving_st hs with h | h
  · rw [if_pos (hst.trans h)]
    exact ⟨State.st_setState _ (by decide), congrArg Dev.lost (State.setState_device _ _).1⟩
  · rw [if_neg (by rw [hst, h]; decide)]
    exact ⟨hst.trans h, rfl⟩

/-! ### The work of a core given to its spare (R126, R128) -/

/-- The spare serves with the work of core `n`, whose slot table it has. -/
def State.placeWork (s : State) (n sp : Nat) : State :=
  let s := s.setFld (fCoreState sp) csSERVING
  let s := s.setFld (R.CORE_GOLDSTAT_OK sp) 1
  let s := { s with dev := { s.dev with moved := SMap.set (fun _ => 16) s.dev.moved n sp } }
  let s := { s with jobs := { s.jobs with
      jobs := s.jobs.jobs.map (fun (j : Job) => if j.core = n ∧ j.rerun then { j with core := sp } else j) } }
  s.setFld (R.CORE_GOLDSTAT_FRAME sp) (s.fld (R.TAP_T_STAT_FRAME (s.fld R.TAP_LTCFG_REF)))

theorem State.moveWork_eq (s : State) (n sp : Nat) : s.moveWork n sp = (((s.rewriteLines n).moveTable n sp).placeWork n sp).lose lostSPARE_USED := rfl

structure State.WorkPlaced (s t : State) (sp : Nat) : Prop where
  cores : t.cores = s.cores
  mem : t.mem = s.mem
  memGen : t.memGen = s.memGen
  reg : ∀ o, o ≠ R.DEVICE_CORESTATE → o ≠ R.CORE_GOLDSTAT sp → t.reg o = s.reg o
  serves : t.fld (fCoreState sp) = csSERVING
  states : ∀ m, m ≠ sp → t.fld (fCoreState m) = s.fld (fCoreState m)

theorem State.reg_setFld_off (s : State) (f : Fld) (v : Nat) {o : Nat} (h : o ≠ f.off) : (s.setFld f v).reg o = s.reg o := by
  rw [State.reg_setFld, if_neg h]

theorem State.placeWork_placed (s : State) (n : Nat) {sp : Nat} (hsp : sp < 16) : s.WorkPlaced (s.placeWork n sp) sp := by
  have hg : R.DEVICE_CORESTATE ≠ R.CORE_GOLDSTAT sp := by unfold R.DEVICE_CORESTATE R.CORE_GOLDSTAT; omega
  unfold State.placeWork
  extract_lets u1 u2 d u3 j u4
  have h1 : s.WorkPlaced u1 sp := ⟨rfl, rfl, rfl, fun o ho _ => State.reg_setFld_off s _ _ ho, State.fld_setFld_coreState s hsp (by decide),
    fun m hm => State.fld_setCoreState s hsp hm _⟩
  clear_value u1
  have hgold (u : State) (hu : s.WorkPlaced u sp) (f : Fld) (hf : f.off = R.CORE_GOLDSTAT sp) (v : Nat) : s.WorkPlaced (u.setFld f v) sp :=
    ⟨hu.cores, hu.mem, hu.memGen, fun o ho hc => (State.reg_setFld_off u f v (hf ▸ hc)).trans (hu.reg o ho hc),
      (State.fld_setFld_off u f _ v (hf ▸ hg)).trans hu.serves, fun m hm => (State.fld_setFld_off u f _ v (hf ▸ hg)).trans (hu.states m hm)⟩
  have h2 : s.WorkPlaced u2 sp := hgold u1 h1 (R.CORE_GOLDSTAT_OK sp) rfl 1
  clear_value u2
  have h3 : s.WorkPlaced u3 sp := ⟨h2.cores, h2.mem, h2.memGen, h2.reg, h2.serves, h2.states⟩
  clear_value u3
  have h4 : s.WorkPlaced u4 sp := ⟨h3.cores, h3.mem, h3.memGen, h3.reg, h3.serves, h3.states⟩
  clear_value u4
  exact hgold u4 h4 (R.CORE_GOLDSTAT_FRAME sp) rfl _

/-- What the move of a core's work leaves. -/
structure State.WorkMoved (s t : State) (n sp : Nat) : Prop where
  core : ∀ q, t.core q = s.core q
  byte : ∀ a, t.byte a = s.byte a
  epoch : t.reg (R.CORE_EPOCH n) = s.reg (R.CORE_EPOCH n)
  fenced : t.fld (fCoreState n) = s.fld (fCoreState n)
  serves : t.fld (fCoreState sp) = csSERVING
  count : t.fld R.SAFETY_EVCNT_CORE = s.fld R.SAFETY_EVCNT_CORE
  lost : bit t.dev.lost lostSPARE_USED = true
  st : t.st = stDEGRADED
  slot : ∀ i, i < 32 → t.reg (R.CORE_SLOT sp i) = s.reg (R.CORE_SLOT n i)
  slots : t.fld (R.CORE_SLOTCFG_COUNT sp) = s.fld (R.CORE_SLOTCFG_COUNT n)
  empty : t.fld (R.CORE_SLOTCFG_COUNT n) = 0

/-- Registers that no move of work writes. -/
theorem not_mem_tableRegs {o n sp : Nat} (h : o < R.BELL_BAR 0 ∨ R.BELL_BAR 64 ≤ o)
    (hc : ∀ m, o ≠ R.CORE_SLOTCFG m ∧ o ≠ R.CORE_GOLDCFG m ∧ o ∉ Set.Ico (R.CORE_SLOT m 0) (R.CORE_SLOT m 32)) : o ∉ tableRegs n sp := by
  rintro ((ho | ho) | ((rfl | rfl) | ((rfl | rfl) | ⟨b, hb, rfl⟩)))
  · exact (hc sp).2.2 ho
  · exact (hc n).2.2 ho
  · exact (hc sp).1 rfl
  · exact (hc n).1 rfl
  · exact (hc sp).2.1 rfl
  · exact (hc n).2.1 rfl
  · unfold R.BELL_BAR at h
    omega

theorem State.moveWork_moved {s : State} (h : s.Canonical) (hs : s.serving = true) {n sp : Nat} (hn : n < 16) (hsp : sp < 16) (hne : n ≠ sp) :
    s.WorkMoved (s.moveWork n sp) n sp := by
  rw [State.moveWork_eq]
  have hreg0 (o : Nat) : (s.rewriteLines n).reg o = s.reg o := rfl
  have hcore0 (q : Nat) : (s.rewriteLines n).core q = s.core q := rfl
  have hbyte0 (a : Nat) : (s.rewriteLines n).byte a = s.byte a := rfl
  have h0 : (s.rewriteLines n).Canonical := h.congr rfl rfl rfl
  generalize s.rewriteLines n = u at hreg0 hcore0 hbyte0 h0 ⊢
  obtain ⟨hw, hslot, hcount, hempty⟩ := State.moveTable_moved h0 hn hsp hne
  generalize u.moveTable n sp = v at hw hslot hcount hempty ⊢
  have hp := v.placeWork_placed n hsp
  generalize v.placeWork n sp = w at hp ⊢
  have ho := State.Outer.lose (O := {R.DEVICE_STATE, R.PCIEA_F_LOST 0}) w (.inl rfl) (.inr rfl) lostSPARE_USED
  have hreg (o : Nat) (h1 : o ≠ R.DEVICE_STATE) (h2 : o ≠ R.PCIEA_F_LOST 0) (h3 : o ≠ R.DEVICE_CORESTATE) (h4 : o ≠ R.CORE_GOLDSTAT sp) :
      (w.lose lostSPARE_USED).reg o = v.reg o := (ho.reg o (by rintro (h | h); exacts [h1 h, h2 h])).trans (hp.reg o h3 h4)
  have hcs (m : Nat) : (w.lose lostSPARE_USED).fld (fCoreState m) = w.fld (fCoreState m) :=
    ho.fld (g := fCoreState m) (by rintro (h | h); exacts [absurd h (show ¬ R.DEVICE_CORESTATE = R.DEVICE_STATE by decide), absurd h (show ¬ R.DEVICE_CORESTATE = R.PCIEA_F_LOST 0 by decide)])
  have hw0 (o : Nat) (hb : o < R.BELL_BAR 0 ∨ R.BELL_BAR 64 ≤ o)
      (hc : ∀ m, o ≠ R.CORE_SLOTCFG m ∧ o ≠ R.CORE_GOLDCFG m ∧ o ∉ Set.Ico (R.CORE_SLOT m 0) (R.CORE_SLOT m 32)) : v.reg o = s.reg o :=
    (hw.2 o (not_mem_tableRegs hb hc)).trans (hreg0 o)
  have hlow (o : Nat) (hb : o < R.BELL_BAR 0) : v.reg o = s.reg o := hw0 o (.inl hb) fun m => by
    rw [Set.mem_Ico]
    unfold R.BELL_BAR at hb
    unfold R.CORE_SLOTCFG R.CORE_GOLDCFG R.CORE_SLOT
    omega
  have hepoch : v.reg (R.CORE_EPOCH n) = s.reg (R.CORE_EPOCH n) :=
    hw0 _ (.inr (by unfold R.BELL_BAR R.CORE_EPOCH; omega)) fun m => by
      rw [Set.mem_Ico]
      unfold R.CORE_SLOTCFG R.CORE_GOLDCFG R.CORE_SLOT R.CORE_EPOCH
      omega
  have hserve : w.serving = true := by
    have hst : w.st = s.st := congrArg R.DEVICE_STATE_STATE.get ((hp.reg R.DEVICE_STATE (by decide) (by unfold R.DEVICE_STATE R.CORE_GOLDSTAT; omega)).trans
      (hlow R.DEVICE_STATE (by decide)))
    rw [State.serving, hst]
    exact hs
  obtain ⟨hst, hlost⟩ := State.lose_serving hserve lostSPARE_USED
  have hcores (m : Nat) (o : Nat) (h : o = R.CORE_EPOCH m ∨ o = R.CORE_SLOTCFG m ∨ ∃ i, i < 32 ∧ o = R.CORE_SLOT m i) :
      (w.lose lostSPARE_USED).reg o = v.reg o := by
    refine hreg o ?_ ?_ ?_ ?_
    all_goals
      rcases h with rfl | rfl | ⟨i, hi, rfl⟩
      all_goals
        simp only [R.CORE_EPOCH, R.CORE_SLOTCFG, R.CORE_SLOT, R.DEVICE_STATE, R.PCIEA_F_LOST, R.DEVICE_CORESTATE, R.CORE_GOLDSTAT]
        omega
  refine ⟨fun q => ?_, fun a => ?_, ?_, ?_, ?_, ?_, ?_, hst, fun i hi => ?_, ?_, ?_⟩
  · rw [ho.core, State.core, hp.cores, ← State.core, hw.core, hcore0]
  · rw [ho.byte, State.byte_congr hp.mem hp.memGen, State.byte_congr hw.mem hw.memGen, hbyte0]
  · rw [hcores n _ (.inl rfl), hepoch]
  · rw [hcs, hp.states n hne]
    exact congrArg (fCoreState n).get (hlow R.DEVICE_CORESTATE (by decide))
  · rw [hcs, hp.serves]
  · exact congrArg R.SAFETY_EVCNT_CORE.get ((hreg R.SAFETY_EVCNT (by decide) (by decide) (by decide)
      (by unfold R.SAFETY_EVCNT R.CORE_GOLDSTAT; omega)).trans (hlow _ (by decide)))
  · rw [hlost, bit_setBit]
    rfl
  · rw [hcores sp _ (.inr (.inr ⟨i, hi, rfl⟩)), hslot i hi, hreg0]
  · exact (congrArg (R.CORE_SLOTCFG_COUNT sp).get (hcores sp _ (.inr (.inl rfl)))).trans
      (hcount.trans (congrArg (R.CORE_SLOTCFG_COUNT n).get (hreg0 _)))
  · exact (congrArg (R.CORE_SLOTCFG_COUNT n).get (hcores n _ (.inr (.inl rfl)))).trans hempty

/-! ### The spare that a core's work goes to (R127) -/

theorem find?_range_some {p : Nat → Bool} {n i : Nat} (hi : i < n) (hp : p i = true) (h : ∀ j, j < i → p j = false) :
    (List.range n).find? p = some i :=
  List.find?_range_eq_some.2 ⟨hp, List.mem_range.2 hi, fun j hj => by rw [h j hj]; rfl⟩

theorem State.chooseSpare_spare {s : State} {c sp : CoreId} (h : s.Spare c sp) : s.chooseSpare c = some sp.val := by
  have hok (d : Nat) : (s.fld (fCoreState d) == csSPARE && d != c.val) = true ↔ d ≠ c.val ∧ s.fld (fCoreState d) = csSPARE := by
    simp [and_comm]
  have hno {d : Nat} (hd : ¬ (d ≠ c.val ∧ s.fld (fCoreState d) = csSPARE)) : (s.fld (fCoreState d) == csSPARE && d != c.val) = false :=
    Bool.eq_false_iff.2 fun hx => hd ((hok d).1 hx)
  obtain ⟨hsp, ⟨hpond, hleast⟩ | ⟨hnone, hleast⟩⟩ := h
  · have hfind : (List.range 16).find? (fun d => (s.fld (fCoreState d) == csSPARE && d != c.val) && d / 4 == c.val / 4) = some sp.val := by
      refine find?_range_some sp.isLt ?_ fun j hj => ?_
      · rw [(hok sp).2 hsp]
        simpa using hpond
      · by_cases hq : j / 4 = c.val / 4
        · rw [hno (hleast j hj hq), Bool.false_and]
        · simp [hq]
    unfold State.chooseSpare
    dsimp only
    rw [hfind]
  · have hfind : (List.range 16).find? (fun d => (s.fld (fCoreState d) == csSPARE && d != c.val) && d / 4 == c.val / 4) = none := by
      refine List.find?_eq_none.2 fun d hd => ?_
      by_cases hq : d / 4 = c.val / 4
      · rw [hno (hnone d (List.mem_range.1 hd) hq)]
        simp
      · simp [hq]
    unfold State.chooseSpare
    dsimp only
    rw [hfind]
    exact find?_range_some sp.isLt ((hok sp).2 hsp) fun j hj => hno (hleast j hj)

theorem State.Spare.counted {s : State} {c sp : CoreId} (h : s.Spare c sp) : (s.satInc R.SAFETY_EVCNT_CORE).Spare c sp := by
  simp only [State.Spare, State.fld_counted_coreState]
  exact h

/-! ### Work moved to a spare -/

theorem slotcfg_apart (n : Nat) : R.CORE_SLOTCFG n ∉ restartRegs n := by
  rintro (hr | h | h)
  · refine not_mem_coreResetRegs (.inr (by unfold R.BELL_BARSTAT R.CORE_SLOTCFG; omega)) (.inl (by unfold R.CORE_SOBJ R.CORE_SLOTCFG; omega)) ?_ hr
    simp [R.CORE_SLOTCFG, R.CORE_ENGFLAG, R.CORE_BELLSTAT, R.CORE_GOLDSTAT, R.CORE_INJSTAT, R.CORE_PAIRSTAT, R.CORE_WMSTAT]
  · exact absurd h (show R.CORE_SLOTCFG n ≠ R.CORE_EPOCH n by unfold R.CORE_SLOTCFG R.CORE_EPOCH; omega)
  · exact absurd h (show R.CORE_SLOTCFG n ≠ R.DEVICE_CORESTATE by unfold R.CORE_SLOTCFG R.DEVICE_CORESTATE; omega)

theorem slot_apart {n i : Nat} (hi : i < 32) : R.CORE_SLOT n i ∉ restartRegs n := by
  rintro (hr | h | h)
  · refine not_mem_coreResetRegs (.inr (by unfold R.BELL_BARSTAT R.CORE_SLOT; omega)) (.inl (by unfold R.CORE_SOBJ R.CORE_SLOT; omega)) ?_ hr
    simp [R.CORE_SLOT, R.CORE_ENGFLAG, R.CORE_BELLSTAT, R.CORE_GOLDSTAT, R.CORE_INJSTAT, R.CORE_PAIRSTAT, R.CORE_WMSTAT]
    omega
  · exact absurd h (show R.CORE_SLOT n i ≠ R.CORE_EPOCH n by unfold R.CORE_SLOT R.CORE_EPOCH; omega)
  · exact absurd h (show R.CORE_SLOT n i ≠ R.DEVICE_CORESTATE by unfold R.CORE_SLOT R.DEVICE_CORESTATE; omega)

theorem State.spare_takes {s : State} (hcan : s.Canonical) {c sp : CoreId} {cause : Nat} (hcause : cause < 256) (hs : s.serving = true)
    (hc : s.fld (fCoreState c) = csSERVING) (h : s.Spare c sp) :
    ∃ t, s.coreFault c cause = t ∧
      s.Fenced t c cause ∧ t.fld (fCoreState sp) = csSERVING ∧ bit t.dev.lost lostSPARE_USED = true ∧
      t.st = stDEGRADED ∧ t.fld R.SAFETY_EVCNT_CORE = min (s.fld R.SAFETY_EVCNT_CORE + 1) (2 ^ (R.SAFETY_EVCNT_CORE).w - 1) ∧
      (∀ i, i < 32 → t.reg (R.CORE_SLOT sp i) = s.reg (R.CORE_SLOT c i)) ∧
      t.fld (R.CORE_SLOTCFG_COUNT sp) = s.fld (R.CORE_SLOTCFG_COUNT c) ∧ t.fld (R.CORE_SLOTCFG_COUNT c) = 0 := by
  have hne : c.val ≠ sp.val := Ne.symm h.1.1
  have hr := (s.satInc R.SAFETY_EVCNT_CORE).beginRestart_restarted c hcause
  obtain ⟨hfenced, hst, -⟩ := hr.from s.counted (epoch_ne_evcnt c) (by decide)
  have hserve : ((s.satInc R.SAFETY_EVCNT_CORE).beginRestart c cause).serving = true := by rw [State.serving, hst]; exact hs
  have hcanu : ((s.satInc R.SAFETY_EVCNT_CORE).beginRestart c cause).Canonical := State.Tidy.beginRestart (hcan.satInc _)
  have hcount : ((s.satInc R.SAFETY_EVCNT_CORE).beginRestart c cause).fld R.SAFETY_EVCNT_CORE =
      min (s.fld R.SAFETY_EVCNT_CORE + 1) (2 ^ (R.SAFETY_EVCNT_CORE).w - 1) :=
    (hr.inner.fld (g := R.SAFETY_EVCNT_CORE) (restartRegs_apart c (by decide) (by decide))).trans
      (State.fld_satInc s R.SAFETY_EVCNT_CORE (Nat.le_of_ble_eq_true rfl))
  have hkeep (o : Nat) (ho : o ∉ restartRegs c) (he : o ≠ R.SAFETY_EVCNT) :
      ((s.satInc R.SAFETY_EVCNT_CORE).beginRestart c cause).reg o = s.reg o := (hr.inner.reg o ho).trans (s.counted.reg o he)
  refine ⟨_, (State.coreFault_serving hs cause (.inl hc)).trans ((if_pos hc).trans (by
    rw [State.replaceCore, State.chooseSpare_spare h.counted])), ?_⟩
  generalize (s.satInc R.SAFETY_EVCNT_CORE).beginRestart c cause = u at hfenced hserve hcanu hcount hkeep ⊢
  have hm := State.moveWork_moved hcanu hserve c.isLt sp.isLt hne
  refine ⟨hfenced.after hm.epoch hm.fenced hm.core hm.byte, hm.serves, hm.lost, hm.st, hm.count.trans hcount, fun i hi => ?_, ?_, hm.empty⟩
  · exact (hm.slot i hi).trans (hkeep _ (slot_apart hi) (by unfold R.CORE_SLOT R.SAFETY_EVCNT; omega))
  · exact hm.slots.trans (congrArg (R.CORE_SLOTCFG_COUNT c).get (hkeep _ (slotcfg_apart c) (show R.CORE_SLOTCFG c ≠ R.SAFETY_EVCNT by unfold R.CORE_SLOTCFG R.SAFETY_EVCNT; omega)))

/-! ### Writes of the control window that reach a register (R19, R22, R23) -/

/-- What a write leaves: the state after it, with what of it was discarded recorded. -/
def Wrote.settle (w : Wrote) (m : Master) (off : Nat) : State := if w.2 then w.1.discard m off else w.1

theorem word_low {v : Nat} (h : v < 2 ^ 32) : (BitVec.ofNat 64 v &&& 0xFFFFFFFF : BitVec 64) = BitVec.ofNat 64 v := by
  refine BitVec.eq_of_toNat_eq ?_
  rw [BitVec.toNat_and, BitVec.toNat_ofNat, Nat.mod_eq_of_lt (by omega)]
  exact Nat.and_two_pow_sub_one_of_lt_two_pow h

/-- A write of a whole 32-bit register. -/
theorem State.put_word {s : State} {m : Master} {off v : Nat} {r : RegRow} (hg : s.writeGate m off = .ok) (ha : s.absent off = false)
    (hr : regAt off = some (r, 0)) (hw : r.wide = false) (h : s.st ≠ stTRIPPED) (hv : v < 2 ^ 32) :
    s.put m off 4 v = Wrote.settle (s.writeReg m off r.fields (BitVec.ofNat 64 v) 0xFFFFFFFF) m off := by
  simp only [State.put, State.ctlWrite, hg, ha, State.regWrite, hr, hw, Bool.not_false, Bool.false_eq_true,
    if_true, if_false, and_self, Nat.sub_zero, State.takeWrite, if_neg h, word_low hv, Wrote.settle]

/-- A write of a whole 64-bit register. -/
theorem State.put_long {s : State} {m : Master} {off v : Nat} {r : RegRow} (hg : s.writeGate m off = .ok) (ha : s.absent off = false)
    (hr : regAt off = some (r, 0)) (hw : r.wide = true) (h : s.st ≠ stTRIPPED) :
    s.put m off 8 v = Wrote.settle (s.writeReg m off r.fields (BitVec.ofNat 64 v) (BitVec.allOnes 64)) m off := by
  have hput : s.put m off 8 v = s.regWrite m off 8 v := by
    simp only [State.put, State.ctlWrite, hg, ha, Bool.false_eq_true, if_false]
  have hreg : s.regWrite m off 8 v = s.takeWrite m off (off - 0) r.fields (BitVec.ofNat 64 v) (BitVec.allOnes 64) := by
    unfold State.regWrite
    rw [hr]
    dsimp only
    rw [hw]
    exact (if_neg (by decide)).trans (if_pos ⟨rfl, rfl⟩)
  rw [hput, hreg, State.takeWrite, if_neg h, Nat.sub_zero]
  rfl

theorem Wrote.settle_taken (s : State) (m : Master) (off : Nat) : Wrote.settle (s, false) m off = s := if_neg Bool.false_ne_true
theorem Wrote.settle_discarded (s : State) (m : Master) (off : Nat) : Wrote.settle (s, true) m off = s.discard m off := if_pos rfl

/-- A register of a row with known width at an offset. -/
theorem regAt_of_map {off : Nat} {w : Bool} (h : (regAt off).map (fun p => (p.1.wide, p.2)) = some (w, 0)) :
    ∃ r, regAt off = some (r, 0) ∧ r.wide = w := by
  obtain ⟨⟨r, b⟩, hr, hb⟩ := Option.map_eq_some_iff.1 h
  obtain ⟨hw, rfl⟩ := Prod.mk.inj hb
  exact ⟨r, hr, hw⟩

/-- A discarded write is recorded (R20), and nothing else happens. -/
theorem State.discard_recorded (s : State) (m : Master) (off : Nat) :
    State.RegFab {R.DEVICE_ACCERR} s (s.discard m off) ∧ (s.discard m off).flag R.DEVICE_ACCERR_LOCKED_WRITE = true := by
  have ha (u : State) (f g : Fld) (v : Nat) (hl : Nat.ble (f.lo + f.w) 64 = true)
      (h : (Nat.ble (f.lo + f.w) g.lo || Nat.ble (g.lo + g.w) f.lo) = true) : (u.setFld f v).fld g = u.fld g := State.fld_setFld_apart u f g v hl h
  unfold State.discard State.accErr
  by_cases h : s.flag R.DEVICE_ACCERR_LOCKED_WRITE = true
  · rw [if_pos h]
    refine ⟨State.RegFab.satInc s (f := R.DEVICE_ACCERR_COUNT) rfl, ?_⟩
    exact (congrArg (· == 1) (ha s R.DEVICE_ACCERR_COUNT R.DEVICE_ACCERR_LOCKED_WRITE _ rfl rfl)).trans h
  · rw [if_neg h]
    refine ⟨(((State.RegFab.setFld (O := {R.DEVICE_ACCERR}) s (f := R.DEVICE_ACCERR_LOCKED_WRITE) 1 rfl).trans (State.RegFab.setFld _ (f := R.DEVICE_ACCERR_MASTER) _ rfl)).trans
      (State.RegFab.setFld _ (f := R.DEVICE_ACCERR_COUNT) _ rfl)).trans (State.RegFab.setFld _ (f := R.DEVICE_ACCERR_ADDR) _ rfl), ?_⟩
    unfold State.flag
    rw [ha _ R.DEVICE_ACCERR_ADDR _ _ rfl rfl, ha _ R.DEVICE_ACCERR_COUNT _ _ rfl rfl, ha _ R.DEVICE_ACCERR_MASTER _ _ rfl rfl,
      State.fld_setFld_here _ R.DEVICE_ACCERR_LOCKED_WRITE _ rfl]
    rfl

/-! ### RESETCMD and PAIRSTAT (R135, R136, R377) -/

theorem regAt_resetcmd : ∃ r, regAt R.DEVICE_RESETCMD = some (r, 0) ∧ r.wide = false := regAt_of_map (by decide)

/-- The register of a core's page at an offset of it. -/
theorem regAt_core_of_map {o n : Nat} {w : Bool} (hn : n < 16) (ho : o < 0x10000) (h : (rowAt rowsCORE o).map (fun p => (p.1.wide, p.2)) = some (w, 0)) :
    ∃ r, regAt (0x200000 + n * 0x10000 + o) = some (r, 0) ∧ r.wide = w := regAt_of_map (by rw [regAt_corePage hn ho]; exact h)

theorem regAt_pairstat (c : CoreId) : ∃ r, regAt (R.CORE_PAIRSTAT c) = some (r, 0) ∧ r.wide = false := by
  have ho : R.CORE_PAIRSTAT c = 0x200000 + c.val * 0x10000 + 0x40 := by unfold R.CORE_PAIRSTAT; omega
  rw [ho]
  exact regAt_core_of_map c.isLt (by decide) (by decide)

theorem State.absent_core (s : State) {n off : Nat} (hn : n < 16) (h : off / 0x10000 = 0x20 + n) : s.absent off = !s.hasCore n := by
  unfold State.absent
  simp only [h]
  rw [if_pos (by omega), Nat.add_sub_cancel_left]

theorem pageOf_core {n o : Nat} (ho : o < 0x10000) : pageOf (0x200000 + n * 0x10000 + o) = 0x20 + n := by
  unfold pageOf
  omega

/-- A write of a register in a core's page. -/
theorem State.writeReg_core (s : State) (m : Master) {n off : Nat} (hn : n < 16) (h : pageOf off = 0x20 + n) (fs : List FieldRow) (v bits : BitVec 64) :
    s.writeReg m off fs v bits = s.writeCore m n off fs v bits := by
  unfold State.writeReg
  rw [h]
  interval_cases n <;> rfl

theorem State.put_resetcmd {s : State} (h : s.st ≠ stTRIPPED) (n a : Nat) {v : Nat} (hv : v < 2 ^ 32) :
    s.put (.core n a .m) R.DEVICE_RESETCMD 4 v = Wrote.settle (s.resetCmd (.core n a .m) v) (.core n a .m) R.DEVICE_RESETCMD := by
  obtain ⟨r, hr, hw⟩ := regAt_resetcmd
  rw [State.put_word rfl rfl hr hw h hv]
  have hx : (BitVec.ofNat 64 v).toNat = v := by rw [BitVec.toNat_ofNat, Nat.mod_eq_of_lt (by omega)]
  have hreg : s.writeReg (.core n a .m) R.DEVICE_RESETCMD r.fields (BitVec.ofNat 64 v) 0xFFFFFFFF =
      s.resetCmd (.core n a .m) (BitVec.ofNat 64 v).toNat := rfl
  rw [hreg, hx]

theorem State.resetCmd_core {s : State} {c : CoreId} (h : s.hasCore c = true) (n a : Nat) (key : BitVec 16) :
    s.resetCmd (.core n a .m) (resetWordOf key 1 c) = if key = 0xB311 then (s.commandRestart c, false) else (s, true) := by
  have hkey : resetWordOf key 1 c / 2 ^ 16 % 2 ^ 16 = key.toNat := by unfold resetWordOf; omega
  have hkind : resetWordOf key 1 c / 256 % 16 = 1 := by unfold resetWordOf; omega
  have hcore : resetWordOf key 1 c % 16 = c.val := by unfold resetWordOf; omega
  unfold State.resetCmd
  simp only [hkey, hkind, hcore, hostOrM, Bool.not_true, if_pos h]
  by_cases hk : key = 0xB311
  · rw [if_pos hk, if_neg (by rw [hk]; decide)]
  · have hne : key.toNat ≠ 0xB311 := fun hn => hk (BitVec.eq_of_toNat_eq hn)
    rw [if_neg hk, if_pos (by simpa using hne)]

theorem State.put_pairstat {s : State} (h : s.st ≠ stTRIPPED) {c : CoreId} (hc : s.hasCore c = true) (a : Nat) (v : BitVec 32) :
    s.put (.core c a .s) (R.CORE_PAIRSTAT c) 4 v.toNat = s.forcePair c v := by
  obtain ⟨r, hr, hw⟩ := regAt_pairstat c
  have ho : R.CORE_PAIRSTAT c = 0x200000 + c.val * 0x10000 + 0x40 := by unfold R.CORE_PAIRSTAT; omega
  have hp : pageOf (R.CORE_PAIRSTAT c) = 0x20 + c.val := by rw [ho]; exact pageOf_core (by decide)
  have hg : s.writeGate (.core c a .s) (R.CORE_PAIRSTAT c) = .ok := by
    have hs : sMayWrite c (R.CORE_PAIRSTAT c) = true := by
      unfold sMayWrite
      simp [hp]
    exact if_pos hs
  have ha : s.absent (R.CORE_PAIRSTAT c) = false := by rw [State.absent_core s c.isLt hp, hc]; rfl
  rw [State.put_word hg ha hr hw h v.isLt, State.writeReg_core s _ c.isLt hp]
  have hx : BitVec.ofNat 32 (BitVec.ofNat 64 v.toNat).toNat = v := by
    rw [BitVec.toNat_ofNat, Nat.mod_eq_of_lt (by omega)]
    exact BitVec.ofNat_toNat 32 v |>.trans (BitVec.setWidth_eq v)
  have hcore : s.writeCore (.core c a .s) c (R.CORE_PAIRSTAT c) r.fields (BitVec.ofNat 64 v.toNat) 0xFFFFFFFF =
      (s.forcePair c (BitVec.ofNat 32 (BitVec.ofNat 64 v.toNat).toNat), false) := by
    unfold State.writeCore
    dsimp only
    rw [if_neg (by unfold R.CORE_PAIRSTAT R.CORE_WMCFG; omega), if_neg (by unfold R.CORE_PAIRSTAT R.CORE_DRIFT; omega), if_pos rfl]
  rw [hcore, hx, Wrote.settle_taken]

/-! ### The end of a restarted core's tests (R126 step 7, R128, R789) -/

/-- What the end of tests leaves of cores, memory and registers beside the device's state. -/
theorem State.endMove_outer (s : State) (n : Nat) : State.Outer {R.DEVICE_STATE, R.PCIEA_F_LOST 0} s (s.endMove n) := by
  have hdev : State.Outer {R.DEVICE_STATE, R.PCIEA_F_LOST 0} s { s with dev := { s.dev with moved := SMap.set (fun _ => 16) s.dev.moved n 16 } } :=
    State.Outer.of_regs ⟨_, _, _, _, _, rfl⟩
  unfold State.endMove
  dsimp only
  exact State.Outer.ite (fun _ => hdev.trans (State.Outer.regain _ (.inl rfl) (.inr rfl) _)) fun _ => hdev

theorem coreState_not_device (n : Nat) : (fCoreState n).off ∉ ({R.DEVICE_STATE, R.PCIEA_F_LOST 0} : Set Nat) := by
  rintro (h | h)
  · exact absurd h (show ¬ R.DEVICE_CORESTATE = R.DEVICE_STATE by decide)
  · exact absurd h (show ¬ R.DEVICE_CORESTATE = R.PCIEA_F_LOST 0 by decide)

/-- The last work away is back: a redundancy regained (R128). -/
theorem State.endMove_last {s : State} {n : Nat} (h : s.dev.moved = [] ∨ ∃ sp, sp < 16 ∧ s.dev.moved = [(n, sp)]) :
    s.endMove n = ({ s with dev := { s.dev with moved := [] } } : State).regain lostSPARE_USED := by
  have hset : SMap.set (fun _ => 16) s.dev.moved n 16 = [] := by
    rcases h with h | ⟨sp, -, h⟩
    · rw [h]; rfl
    · rw [h, SMap.set, if_pos rfl, SMap.erase]
      simp
  unfold State.endMove
  dsimp only
  rw [hset]
  exact if_pos rfl

/-- The last redundancy regained: the device serves without loss (R106, R789). -/
theorem State.regain_last {s : State} {k : Nat} (h : s.st = stDEGRADED) (hl : clrBit s.dev.lost k = 0) :
    (s.regain k).dev.lost = 0 ∧ (s.regain k).st = stSERVING := by
  have hst : ({ s with dev := { s.dev with lost := clrBit s.dev.lost k } } : State).st = s.st := rfl
  unfold State.regain
  dsimp only
  rw [if_neg (by rw [h]; decide), if_pos ⟨hst.trans h, hl⟩]
  exact ⟨(congrArg Dev.lost (State.setState_device _ _).1).trans hl, State.st_setState _ (by decide)⟩

theorem State.lose_dev {s : State} (h : s.st ≠ stTRIPPED) (k : Nat) :
    (s.lose k).dev.lost = setBit s.dev.lost k ∧ (s.lose k).dev.moved = s.dev.moved ∧ (s.lose k).st ≠ stTRIPPED := by
  unfold State.lose
  dsimp only
  rw [if_neg h]
  split_ifs
  · exact ⟨congrArg Dev.lost (State.setState_device _ _).1, (congrArg Dev.moved (State.setState_device _ _).1).trans rfl, by rw [State.st_setState _ (by decide)]; decide⟩
  · exact ⟨rfl, rfl, h⟩

theorem State.regain_lost (s : State) (h : s.st ≠ stTRIPPED) (k : Nat) : (s.regain k).dev.lost = clrBit s.dev.lost k := by
  unfold State.regain
  dsimp only
  rw [if_neg h]
  split_ifs
  · exact congrArg Dev.lost (State.setState_device _ _).1
  · rfl

theorem State.endMove_lost {s : State} {n : Nat} (hst : s.st ≠ stTRIPPED) (h : s.dev.moved = [] ∨ ∃ sp, sp < 16 ∧ s.dev.moved = [(n, sp)]) :
    (s.endMove n).dev.lost = clrBit s.dev.lost lostSPARE_USED := by
  rw [State.endMove_last h]
  exact State.regain_lost ({ s with dev := { s.dev with moved := [] } } : State) hst lostSPARE_USED

theorem State.core_startSteward (s : State) (n q : Nat) :
    (s.startSteward n).core q = if q = n then { s.core n with stw := .run, pc := s.dev.entry, priv := .m } else s.core q :=
  State.core_modCore s n q _

theorem State.regView_core (s : State) (m : Master) {n off : Nat} (hn : n < 16) (h : pageOf off = 0x20 + n) : s.regView m off = s.viewCore n off := by
  unfold State.regView
  rw [h]
  interval_cases n <;> rfl

theorem State.goldcfg_view {s : State} {c : CoreId} (h : s.fld (fCoreState c) = csSPARE) (m : Master) :
    (R.CORE_GOLDCFG_SPARE c).get (s.regView m (R.CORE_GOLDCFG c)) = 1 := by
  have ho : R.CORE_GOLDCFG c = 0x200000 + c.val * 0x10000 + 0x44 := by unfold R.CORE_GOLDCFG; omega
  have hp : pageOf (R.CORE_GOLDCFG c) = 0x20 + c.val := by rw [ho]; exact pageOf_core (by decide)
  have hview : s.regView m (R.CORE_GOLDCFG c) = s.viewCore c (R.CORE_GOLDCFG c) := by
    exact State.regView_core s m c.isLt hp
  rw [hview, State.viewCore]
  dsimp only
  rw [if_neg (by unfold R.CORE_GOLDCFG R.CORE_TAGUSE; omega), if_neg (by unfold R.CORE_GOLDCFG R.CORE_BELLSTAT; omega), if_pos rfl, if_pos h]
  exact Fld.get_put _ _ _ (Nat.le_of_ble_eq_true rfl)

/-- A core that passes its tests is a spare and starts its firmware (R126 step 7, R213). -/
theorem State.retestDone_pass {s : State} {c : CoreId} (h : s.fld (fCoreState c) = csRESTARTING) (hst : s.st ≠ stTRIPPED) :
    ∃ t, s.retestDone c true = t ∧ t.fld (fCoreState c) = csSPARE ∧
      (∀ m, (R.CORE_GOLDCFG_SPARE c).get (t.regView m (R.CORE_GOLDCFG c)) = 1) ∧ (t.core c).stw = .run ∧ (t.core c).pc = s.dev.entry ∧
      (t.core c).priv = .m ∧ (∀ q, q ≠ c.val → t.core q = s.core q) ∧ t.mem = s.mem ∧
      (s.dev.lost = 1 → s.st = stDEGRADED → (s.dev.moved = [] ∨ ∃ sp, sp < 16 ∧ s.dev.moved = [(c.val, sp)]) →
        t.dev.lost = 0 ∧ t.st = stSERVING) := by
  have heq : s.retestDone c true = ((s.setFld (fCoreState c) csSPARE).startSteward c).endMove c := by
    unfold State.retestDone
    dsimp only
    exact (if_neg (by rw [h]; tauto)).trans (if_pos rfl)
  have hspare : ((s.setFld (fCoreState c) csSPARE).startSteward c).fld (fCoreState c) = csSPARE :=
    State.fld_setFld_coreState s c.isLt (by decide)
  have hcore (q : Nat) : ((s.setFld (fCoreState c) csSPARE).startSteward c).core q =
      if q = c.val then { s.core c with stw := .run, pc := s.dev.entry, priv := .m } else s.core q := State.core_startSteward _ _ q
  have hmem : ((s.setFld (fCoreState c) csSPARE).startSteward c).mem = s.mem := rfl
  have hdev : ((s.setFld (fCoreState c) csSPARE).startSteward c).dev = s.dev := rfl
  have hst' : ((s.setFld (fCoreState c) csSPARE).startSteward c).st = s.st :=
    State.fld_setFld_off s (fCoreState c) R.DEVICE_STATE_STATE _ (show R.DEVICE_STATE ≠ R.DEVICE_CORESTATE by decide)
  refine ⟨_, heq, ?_⟩
  generalize (s.setFld (fCoreState c) csSPARE).startSteward c = u at hspare hcore hmem hdev hst' ⊢
  have ho := u.endMove_outer c
  have hfld : (u.endMove c).fld (fCoreState c) = csSPARE := (ho.fld (coreState_not_device c)).trans hspare
  have hk (q : Nat) := (ho.core q).trans (hcore q)
  refine ⟨hfld, State.goldcfg_view hfld, ?_, ?_, ?_, fun q hq => ?_, ho.mem.trans hmem, fun hl hd hm => ?_⟩
  · rw [hk, if_pos rfl]
  · rw [hk, if_pos rfl]
  · rw [hk, if_pos rfl]
  · rw [hk, if_neg hq]
  · rw [State.endMove_last (by rw [hdev]; exact hm)]
    refine State.regain_last (hst'.trans hd) ?_
    change clrBit u.dev.lost lostSPARE_USED = 0
    rw [hdev, hl]
    rfl

/-- A core that fails its tests stays away, and its work's redundancy with it (R128, R789). -/
theorem State.retestDone_fail {s : State} {c : CoreId} (h : s.fld (fCoreState c) = csRESTARTING) (hst : s.st ≠ stTRIPPED) :
    ∃ t, s.retestDone c false = t ∧ t.fld (fCoreState c) = csFAILED ∧ t.cores = s.cores ∧ t.mem = s.mem ∧
      (∀ sp, sp < 16 → s.dev.moved = [(c.val, sp)] → bit t.dev.lost lostCORE_FAILED = true ∧ bit t.dev.lost lostSPARE_USED = false) := by
  have heq : s.retestDone c false = if SMap.get (fun _ => 16) s.dev.moved c ≠ 16 then ((s.setFld (fCoreState c) csFAILED).lose lostCORE_FAILED).endMove c
      else if s.serving then s.setFld (fCoreState c) csFAILED else (s.setFld (fCoreState c) csFAILED).lose lostCORE_FAILED := by
    have hst : (s.setFld (fCoreState c) csFAILED).st = s.st :=
      State.fld_setFld_off s (fCoreState c) R.DEVICE_STATE_STATE _ (show R.DEVICE_STATE ≠ R.DEVICE_CORESTATE by decide)
    unfold State.retestDone
    dsimp only
    rw [if_neg (by rw [h]; tauto), if_neg Bool.false_ne_true, State.serving, hst, ← State.serving]
  have hfail : (s.setFld (fCoreState c) csFAILED).fld (fCoreState c) = csFAILED := State.fld_setFld_coreState s c.isLt (by decide)
  have hcores : (s.setFld (fCoreState c) csFAILED).cores = s.cores := rfl
  have hmem : (s.setFld (fCoreState c) csFAILED).mem = s.mem := rfl
  have hdev : (s.setFld (fCoreState c) csFAILED).dev = s.dev := rfl
  have hst' : (s.setFld (fCoreState c) csFAILED).st ≠ stTRIPPED :=
    ne_of_eq_of_ne (State.fld_setFld_off s (fCoreState c) R.DEVICE_STATE_STATE _ (show R.DEVICE_STATE ≠ R.DEVICE_CORESTATE by decide)) hst
  refine ⟨_, heq, ?_⟩
  generalize s.setFld (fCoreState c) csFAILED = u at hfail hcores hmem hdev hst' ⊢
  have hlose := State.Outer.lose (O := {R.DEVICE_STATE, R.PCIEA_F_LOST 0}) u (.inl rfl) (.inr rfl) lostCORE_FAILED
  have hend := hlose.trans ((u.lose lostCORE_FAILED).endMove_outer c)
  have hkeep (t : State) (ho : State.Outer {R.DEVICE_STATE, R.PCIEA_F_LOST 0} u t) :
      t.fld (fCoreState c) = csFAILED ∧ t.cores = s.cores ∧ t.mem = s.mem :=
    ⟨(ho.fld (coreState_not_device c)).trans hfail, ho.cores.trans hcores, ho.mem.trans hmem⟩
  by_cases hm : SMap.get (fun _ => 16) s.dev.moved c ≠ 16
  · rw [if_pos hm]
    obtain ⟨h1, h2, h3⟩ := hkeep _ hend
    refine ⟨h1, h2, h3, fun sp hsp hmoved => ?_⟩
    obtain ⟨hlost, hmv, hst''⟩ := u.lose_dev hst' lostCORE_FAILED
    rw [State.endMove_lost hst'' (.inr ⟨sp, hsp, by rw [hmv, hdev]; exact hmoved⟩), hlost, bit_clrBit, bit_clrBit, bit_setBit]
    exact ⟨rfl, rfl⟩
  · rw [if_neg hm]
    have hno (sp : Nat) (hsp : sp < 16) (hmoved : s.dev.moved = [(c.val, sp)]) : False := hm (by
      rw [hmoved, SMap.get, if_pos rfl]
      omega)
    split_ifs
    · exact ⟨hfail, hcores, hmem, fun sp hsp hmoved => (hno sp hsp hmoved).elim⟩
    · obtain ⟨h1, h2, h3⟩ := hkeep _ hlose
      exact ⟨h1, h2, h3, fun sp hsp hmoved => (hno sp hsp hmoved).elim⟩

/-! ### Commanded restarts and the compare-mismatch line (R135, R136, R379) -/

theorem State.commandRestart_idle {s : State} {c : CoreId}
    (h : s.fld (fCoreState c) = csSPARE ∨ s.fld (fCoreState c) = csQUIET ∨ s.fld (fCoreState c) = csFAILED) :
    ∃ t, s.commandRestart c = t ∧ s.Fenced t c 0x32 ∧ t.st = s.st ∧ t.dev = s.dev := by
  have heq : s.commandRestart c = s.beginRestart c 0x32 := by
    unfold State.commandRestart
    dsimp only
    rw [if_neg, if_neg]
    · rintro ⟨hs, -⟩
      rw [hs] at h
      revert h
      decide
    · rcases h with h | h | h <;> rw [h] <;> decide
  have hr := s.beginRestart_restarted c (cause := 0x32) (by decide)
  exact ⟨_, heq, hr.fenced, hr.st, hr.inner.dev⟩

theorem State.coreFault_away {s : State} {c : CoreId} (cause : Nat)
    (h : s.fld (fCoreState c) = csRESTARTING ∨ s.fld (fCoreState c) = csFAILED ∨ s.st = stTRIPPED) : s.coreFault c cause = s := by
  unfold State.coreFault
  exact if_pos (by tauto)

theorem State.pairMismatch_fault (s : State) (c : CoreId) : ∃ t : State, s.pairMismatch c = t.coreFault c 0x31 ∧ t.cores = s.cores ∧ t.mem = s.mem ∧
    t.fld (R.CORE_PAIRSTAT_MISMATCH c) = min (s.fld (R.CORE_PAIRSTAT_MISMATCH c) + 1) 255 := by
  have h := State.RegFab.satInc (O := {R.CORE_PAIRSTAT c}) s (f := R.CORE_PAIRSTAT_MISMATCH c) rfl
  exact ⟨_, rfl, h.cores, h.mem, State.fld_satInc s (R.CORE_PAIRSTAT_MISMATCH c) (Nat.le_of_ble_eq_true rfl)⟩

theorem exec_coreRestart (c : CoreId) (cause : BitVec 8) (s : State) : exec (.coreRestart c cause) s = .next (s.coreFault c cause.toNat) := rfl
theorem exec_coreRetestDone (c : CoreId) (ok : Bool) (s : State) : exec (.coreRetestDone c ok) s = .next (s.retestDone c ok) := rfl
theorem exec_coreRestartCmd (m : Master) (key : BitVec 16) (c : CoreId) (s : State) :
    exec (.coreRestartCmd m key c) s = .next (s.put m R.DEVICE_RESETCMD 4 (resetWordOf key 1 c)) := rfl
theorem exec_pairstatForce (m : Master) (c : CoreId) (v : BitVec 32) (s : State) :
    exec (.pairstatForce m c v) s = .next (s.put m (R.CORE_PAIRSTAT c) 4 v.toNat) := rfl

/-- Settles O36. A fault runs through the restart of the core, whose reach is stated once, and then through the move of its work, the
trip, or nothing more; commands reach the same restart through the window. -/
theorem coreFaultsAndCommands : Obligations.CoreFaultsAndCommands := by
  simp only [Obligations.CoreFaultsAndCommands, exec_coreRestart, exec_coreRetestDone, exec_coreRestartCmd, exec_pairstatForce]
  refine ⟨fun c cause s hcan => ⟨fun hc hs sp h => ?_, fun hc hs ht h => ?_, fun hc hs => ?_, fun h => ?_⟩, fun c s =>
    ⟨fun h hst => ⟨?_, ?_⟩, fun n u hst hcore => ⟨fun h => ?_, fun key hkey => ?_, fun v => ⟨fun hv => ?_, fun hv => ?_⟩⟩⟩⟩
  · obtain ⟨t, ht, h⟩ := State.spare_takes hcan cause.isLt hs hc h
    exact ⟨t, congrArg Host.Outcome.next ht, h⟩
  · obtain ⟨t, ht, h⟩ := State.no_spare cause.isLt hs hc ht h
    exact ⟨t, congrArg Host.Outcome.next ht, h⟩
  · obtain ⟨t, ht, h⟩ := State.quiet_restart cause.isLt hs hc
    exact ⟨t, congrArg Host.Outcome.next ht, h⟩
  · exact congrArg Host.Outcome.next (State.coreFault_away cause.toNat h)
  · obtain ⟨t, ht, h⟩ := State.retestDone_pass h hst
    exact ⟨t, congrArg Host.Outcome.next ht, h⟩
  · obtain ⟨t, ht, h⟩ := State.retestDone_fail h hst
    exact ⟨t, congrArg Host.Outcome.next ht, h⟩
  · obtain ⟨t, ht, h⟩ := State.commandRestart_idle h
    refine ⟨t, congrArg Host.Outcome.next ?_, h⟩
    rw [State.put_resetcmd hst n u (by unfold resetWordOf; omega), State.resetCmd_core hcore, if_pos rfl, Wrote.settle_taken, ht]
  · obtain ⟨hkeep, hrec⟩ := s.discard_recorded (.core n u .m) R.DEVICE_RESETCMD
    refine ⟨_, congrArg Host.Outcome.next ?_, hkeep.cores, hkeep.mem, hrec,
      hkeep.fld (g := fCoreState c) (show R.DEVICE_CORESTATE ≠ R.DEVICE_ACCERR by decide)⟩
    rw [State.put_resetcmd hst n u (by unfold resetWordOf; omega), State.resetCmd_core hcore, if_neg hkey, Wrote.settle_discarded]
  · obtain ⟨t, ht, h⟩ := s.pairMismatch_fault c
    refine ⟨t, congrArg Host.Outcome.next ?_, h⟩
    rw [State.put_pairstat hst hcore u v, State.forcePair, if_pos hv, ht]
  · refine congrArg Host.Outcome.next ?_
    rw [State.put_pairstat hst hcore u v, State.forcePair, hv]
    exact if_neg Bool.false_ne_true

end Sys2Proof.Machine
end

section
-- One proof after another: what waits for another costs the check memory.
set_option Elab.async false
/-! SUPPORT. The watchmen and the rotating self-tests (O37, O38) -/
namespace Sys2Proof.Machine

/-! ### The watchmen (R573–R578) -/

/-- The registers of an expiry's record: the last expiry, its kind's retained count, and a core's count. -/
def expiryRegs (w : Nat) : Set Nat := {R.WATCH_LASTEXP, R.WATCH_RETAIN (if w < 16 then 0 else 1), R.CORE_WMCNT w}

/-- An expiry recorded (R578, R581). -/
def State.recordExpiry (s : State) (w : Nat) : State :=
  (((s.setFld R.WATCH_LASTEXP_KIND (if w < 16 then 1 else 2)).setFld R.WATCH_LASTEXP_CORE (if w < 16 then w else 0)).setFld R.WATCH_LASTEXP_SEC
    (s.tb2 / 1000000000 % 2 ^ 32)).satInc (R.WATCH_RETAIN_COUNT (if w < 16 then 0 else 1))

theorem State.recordExpiry_writes (s : State) (w : Nat) : State.Writes {R.WATCH_LASTEXP, R.WATCH_RETAIN (if w < 16 then 0 else 1)} s (s.recordExpiry w) :=
  (((State.Writes.setFld s (f := R.WATCH_LASTEXP_KIND) _ (.inl rfl)).trans (State.Writes.setFld _ (f := R.WATCH_LASTEXP_CORE) _ (.inl rfl))).trans
    (State.Writes.setFld _ (f := R.WATCH_LASTEXP_SEC) _ (.inl rfl))).trans (State.Writes.satInc _ (f := R.WATCH_RETAIN_COUNT _) (.inr rfl))

theorem State.recordExpiry_shows (s : State) (w : Nat) :
    (s.recordExpiry w).fld R.WATCH_LASTEXP_KIND = (if w < 16 then 1 else 2) ∧ (s.recordExpiry w).fld R.WATCH_LASTEXP_CORE = (if w < 16 then w else 0) ∧
    (s.recordExpiry w).fld (R.WATCH_RETAIN_COUNT (if w < 16 then 0 else 1)) =
      min (s.fld (R.WATCH_RETAIN_COUNT (if w < 16 then 0 else 1)) + 1) (2 ^ 32 - 1) := by
  have hne : R.WATCH_LASTEXP ≠ R.WATCH_RETAIN (if w < 16 then 0 else 1) := by split_ifs <;> decide
  have hretain (u : State) (g : Fld) (hg : g.off = R.WATCH_LASTEXP) : (u.satInc (R.WATCH_RETAIN_COUNT (if w < 16 then 0 else 1))).fld g = u.fld g :=
    State.fld_satInc_off u _ g (hg ▸ hne)
  have hexp (u : State) (f : Fld) (hf : f.off = R.WATCH_LASTEXP) (v : Nat) : (u.setFld f v).fld (R.WATCH_RETAIN_COUNT (if w < 16 then 0 else 1)) =
      u.fld (R.WATCH_RETAIN_COUNT (if w < 16 then 0 else 1)) := State.fld_setFld_off u f _ v (hf ▸ hne.symm)
  have hap (u : State) (f g : Fld) (v : Nat) (hl : Nat.ble (f.lo + f.w) 64 = true)
      (h : (Nat.ble (f.lo + f.w) g.lo || Nat.ble (g.lo + g.w) f.lo) = true) : (u.setFld f v).fld g = u.fld g := State.fld_setFld_apart u f g v hl h
  unfold State.recordExpiry
  refine ⟨?_, ?_, ?_⟩
  · rw [hretain _ _ rfl, hap _ R.WATCH_LASTEXP_SEC _ _ rfl rfl, hap _ R.WATCH_LASTEXP_CORE _ _ rfl rfl,
      State.fld_setFld_here _ R.WATCH_LASTEXP_KIND _ rfl]
    split_ifs <;> rfl
  · rw [hretain _ _ rfl, hap _ R.WATCH_LASTEXP_SEC _ _ rfl rfl, State.fld_setFld_here _ R.WATCH_LASTEXP_CORE _ rfl]
    refine Nat.mod_eq_of_lt ?_
    change _ < 16
    split_ifs <;> omega
  · rw [State.fld_satInc _ _ (Nat.le_of_ble_eq_true rfl), hexp _ R.WATCH_LASTEXP_SEC rfl, hexp _ R.WATCH_LASTEXP_CORE rfl, hexp _ R.WATCH_LASTEXP_KIND rfl]
    rfl

/-- The times of core `w`'s expiries with one more. -/
def State.noteExpiry (s : State) (w : Nat) : State :=
  { s with ladder := { s.ladder with expiries := SMap.set (fun _ => []) s.ladder.expiries w (s.tb2 :: (SMap.get (fun _ => []) s.ladder.expiries w).take 15) } }

/-- What an expiry of core `w`'s watchman comes to (R578). -/
def State.expired (s : State) (w : Nat) : State := ((s.recordExpiry w).satInc (R.CORE_WMCNT_EXPIRIES w)).noteExpiry w

theorem State.ladder_setFld (s : State) (f : Fld) (v : Nat) : (s.setFld f v).ladder = s.ladder := rfl
theorem State.ladder_satInc (s : State) (f : Fld) : (s.satInc f).ladder = s.ladder := rfl

theorem State.ladder_recordExpiry (s : State) (w : Nat) : (s.recordExpiry w).ladder = s.ladder := by
  rw [State.recordExpiry, State.ladder_satInc, State.ladder_setFld, State.ladder_setFld, State.ladder_setFld]

theorem State.expire_core {s : State} {c : Nat} (hc : c < 16) (h : SMap.get (fun _ => []) s.ladder.expiries c = []) :
    s.expire c = (s.expired c).coreFault c 0x30 := by
  have htimes : SMap.get (fun _ => []) ((s.recordExpiry c).satInc (R.CORE_WMCNT_EXPIRIES c)).ladder.expiries c = [] := by
    rw [State.ladder_satInc, State.ladder_recordExpiry, h]
  unfold State.expired
  unfold State.recordExpiry at htimes ⊢
  unfold State.expire
  refine (if_pos hc).trans (if_neg ?_)
  rw [htimes]
  exact Bool.false_ne_true

/-- The device watchman stopped. -/
def State.stopWd (s : State) : State := { s with ladder := { s.ladder with wdStopped := true } }

theorem State.expire_device (s : State) : s.expire 16 = (s.recordExpiry 16).stopWd.ladderStep 0x10 := by
  unfold State.expire State.recordExpiry
  exact if_neg (by decide)

theorem State.expired_writes (s : State) (w : Nat) : State.Writes (expiryRegs w) s ((s.recordExpiry w).satInc (R.CORE_WMCNT_EXPIRIES w)) :=
  ((s.recordExpiry_writes w).mono fun _ ho => ho.elim .inl fun h => .inr (.inl h)).trans
    (State.Writes.satInc _ (f := R.CORE_WMCNT_EXPIRIES w) (.inr (.inr rfl)))

theorem State.fld_noteExpiry (s : State) (w : Nat) (g : Fld) : (s.noteExpiry w).fld g = s.fld g := rfl
theorem State.mem_noteExpiry (s : State) (w : Nat) : (s.noteExpiry w).mem = s.mem ∧ (s.noteExpiry w).cores = s.cores := ⟨rfl, rfl⟩

/-- What the record of an expiry of a core's watchman shows. -/
structure State.ExpiryShown (s u : State) (c : CoreId) : Prop where
  expiries : u.fld (R.CORE_WMCNT_EXPIRIES c) = min (s.fld (R.CORE_WMCNT_EXPIRIES c) + 1) 255
  kind : u.fld R.WATCH_LASTEXP_KIND = 1
  core : u.fld R.WATCH_LASTEXP_CORE = c.val
  retained : u.fld (R.WATCH_RETAIN_COUNT 0) = min (s.fld (R.WATCH_RETAIN_COUNT 0) + 1) (2 ^ 32 - 1)
  mem : u.mem = s.mem

theorem State.expired_shown (s : State) (c : CoreId) : s.ExpiryShown (s.expired c) c ∧ (s.expired c).cores = s.cores := by
  have hc : c.val < 16 := c.isLt
  have hw := s.expired_writes c
  obtain ⟨hkind, hcore, hretain⟩ := s.recordExpiry_shows c
  simp only [if_pos hc] at hkind hcore hretain
  have hne (g : Fld) (h : g.off < 0x200000) : ((s.recordExpiry c).satInc (R.CORE_WMCNT_EXPIRIES c)).fld g = (s.recordExpiry c).fld g :=
    State.fld_satInc_off _ _ _ (show g.off ≠ R.CORE_WMCNT c by unfold R.CORE_WMCNT; omega)
  have hcount : (s.recordExpiry c).fld (R.CORE_WMCNT_EXPIRIES c) = s.fld (R.CORE_WMCNT_EXPIRIES c) :=
    (s.recordExpiry_writes c).fld (g := R.CORE_WMCNT_EXPIRIES c) (by
      rintro (h | h)
      · exact absurd h (show ¬ R.CORE_WMCNT c = R.WATCH_LASTEXP by unfold R.CORE_WMCNT R.WATCH_LASTEXP; omega)
      · exact absurd h (show ¬ R.CORE_WMCNT c = R.WATCH_RETAIN _ by rw [if_pos hc]; unfold R.CORE_WMCNT R.WATCH_RETAIN; omega))
  have hexp : ((s.recordExpiry c).satInc (R.CORE_WMCNT_EXPIRIES c)).fld (R.CORE_WMCNT_EXPIRIES c) = min (s.fld (R.CORE_WMCNT_EXPIRIES c) + 1) 255 := by
    rw [State.fld_satInc _ _ (Nat.le_of_ble_eq_true rfl), hcount]
    rfl
  rw [State.expired]
  obtain ⟨hmem, hcores⟩ := State.mem_noteExpiry ((s.recordExpiry c).satInc (R.CORE_WMCNT_EXPIRIES c)) c
  refine ⟨⟨?_, ?_, ?_, ?_, hmem.trans hw.mem⟩, hcores.trans hw.cores⟩
  · rw [State.fld_noteExpiry, hexp]
  · rw [State.fld_noteExpiry, hne _ (by decide), hkind]
  · rw [State.fld_noteExpiry, hne _ (by decide), hcore]
  · rw [State.fld_noteExpiry, hne _ (by decide), hretain]

/-! ### A core's watchman counts, and a service word (R575, R577) -/

theorem State.wmCounts_core {s : State} {c : CoreId} (h : s.flag (R.CORE_WMCFG_EN c) = true ∧ s.st ≠ stTRIPPED ∧ s.hasCore c = true ∧
    s.fld (fCoreState c) ≠ csFAILED) : s.wmCounts c = true := by
  obtain ⟨hen, hst, hcore, hfail⟩ := h
  have hc : c.val < 16 := c.isLt
  unfold State.wmCounts wmEn
  rw [if_pos hc, if_pos hc, hen, hcore, bne_iff_ne.2 hst, bne_iff_ne.2 hfail]
  rfl

theorem State.wmCounts_off {s : State} {c : CoreId} (h : s.flag (R.CORE_WMCFG_EN c) = false) : s.wmCounts c = false := by
  have hc : c.val < 16 := c.isLt
  unfold State.wmCounts wmEn
  rw [if_pos hc, h]
  rfl

theorem serviceWord_of_lt {t : Nat} (h : t < 2 ^ 16) : serviceWord t = t * 2 ^ 16 + (0xFFFF - t) := by
  have ht : t % 0x10000 = t := Nat.mod_eq_of_lt h
  rw [serviceWord, ht]
  norm_num

theorem nextToken_lt {t : Nat} (h : t < 2 ^ 16) : nextToken t < 2 ^ 16 :=
  Nat.xor_lt_two_pow (by omega) (by omega)

/-- A valid service word restarts the count with the next token. -/
theorem State.service_valid {s : State} {w word : Nat} (hcount : s.wmCounts w = true) (hmin : s.fld (wmMin w) ≤ s.fld (wmElapsed w))
    (hword : word = serviceWord (s.fld (wmToken w))) :
    s.service w word = (s.setFld (wmToken w) (nextToken (s.fld (wmToken w)))).setFld (wmElapsed w) 0 := by
  unfold State.service
  rw [hcount, if_neg (by decide), if_neg (by rw [hword]; omega)]

theorem State.service_wrong {s : State} {w word : Nat} (hcount : s.wmCounts w = true)
    (h : ¬ (s.fld (wmMin w) ≤ s.fld (wmElapsed w) ∧ word = serviceWord (s.fld (wmToken w)))) : s.service w word = s.expire w := by
  unfold State.service
  rw [hcount, if_neg (by decide), if_pos (by omega)]

theorem State.service_off {s : State} {w : Nat} (h : s.wmCounts w = false) (word : Nat) : s.service w word = s := by
  unfold State.service
  rw [h]
  exact if_pos rfl

/-! ### WSVC (R237, R575) -/

/-- The Steward past an instruction of one word that has only been fetched. -/
def State.passed (s : State) (c : CoreId) : State := (s.modCore c Core.fetched).advance c ((s.core c).pc + 4)

theorem State.passed_core (s : State) (c : CoreId) : ((s.passed c).core c).pc = (s.core c).pc + 4 ∧ ∀ q, ((s.passed c).core c).sreg q = (s.core c).sreg q := by
  rw [State.passed, State.advance_core, if_pos rfl, State.core_modCore_same]
  exact ⟨rfl, fun q => Core.sreg_fetched _ q⟩

theorem execWsvc_ready {c : CoreId} {f : IFields} {s : State} (h : s.Ready c f .s true) (hx : f.hasExt = false) :
    exec (.wsvc c f) s = .next ((s.passed c).service c (((s.core c).sreg f.srcA.toNat).toNat % 2 ^ 32)) := by
  have hexec : exec (.wsvc c f) s = .next (s.runInstr c f .s true (!f.hasExt) (fun s =>
    .stay ((s.advance c ((s.core c).pc + 4)).service c (((s.core c).a f).toNat % 2 ^ 32)))) := rfl
  have hstay (x : State) (pc : Word) (n : Nat) : State.settle c pc n (.stay x) = x := rfl
  have hpc : (s.core c).fetched.pc = (s.core c).pc := Core.fetched_pc _
  refine hexec.trans (congrArg Host.Outcome.next ((State.runInstr_ready h (by rw [hx]; rfl) _).trans ?_))
  rw [hstay, State.core_modCore_same, Core.a_fetched, hpc, State.passed, Core.a]

theorem State.passed_regs (s : State) (c : CoreId) : (s.passed c).regs = s.regs := rfl
theorem State.passed_ladder (s : State) (c : CoreId) : (s.passed c).ladder = s.ladder := rfl
theorem State.passed_mem (s : State) (c : CoreId) : (s.passed c).mem = s.mem := rfl

theorem State.passed_fld (s : State) (c : CoreId) (g : Fld) : (s.passed c).fld g = s.fld g := State.fld_congr (s.passed_regs c) g

theorem State.wmCounts_congr {s t : State} (hr : t.regs = s.regs) (hl : t.ladder = s.ladder) (w : Nat) : t.wmCounts w = s.wmCounts w := by
  have hf (g : Fld) : t.fld g = s.fld g := State.fld_congr hr g
  unfold State.wmCounts State.flag State.st State.hasCore
  simp only [hf, hl]

theorem wmFields_core (c : CoreId) : wmMin c = R.CORE_WMCFG_WMIN c ∧ wmElapsed c = R.CORE_WMSTAT_ELAPSED c ∧ wmToken c = R.CORE_WMSTAT_TOKEN c ∧
    wmMax c = R.CORE_WMCFG_WMAX c ∧ wmWarn c = R.CORE_WMCFG_WARN c :=
  ⟨if_pos c.isLt, if_pos c.isLt, if_pos c.isLt, if_pos c.isLt, if_pos c.isLt⟩

theorem execWsvc_valid {c : CoreId} {f : IFields} {s : State} (h : s.Ready c f .s true) (hx : f.hasExt = false) (hcount : s.wmCounts c = true)
    (hmin : s.fld (R.CORE_WMCFG_WMIN c) ≤ s.fld (R.CORE_WMSTAT_ELAPSED c))
    (hword : ((s.core c).sreg f.srcA.toNat).toNat % 2 ^ 32 = serviceWord (s.fld (R.CORE_WMSTAT_TOKEN c))) :
    ∃ t, exec (.wsvc c f) s = .next t ∧ (t.core c).pc = (s.core c).pc + 4 ∧
        t.fld (R.CORE_WMSTAT_ELAPSED c) = 0 ∧ t.fld (R.CORE_WMSTAT_TOKEN c) = nextToken (s.fld (R.CORE_WMSTAT_TOKEN c)) ∧
        (∀ q, (t.core c).sreg q = (s.core c).sreg q) ∧ (∀ o, o ≠ R.CORE_WMSTAT c → t.reg o = s.reg o) ∧ t.mem = s.mem := by
  obtain ⟨hpc, hsreg⟩ := s.passed_core c
  obtain ⟨h1, h2, h3, -, -⟩ := wmFields_core c
  have hv := State.service_valid (s := s.passed c) (w := c) (word := ((s.core c).sreg f.srcA.toNat).toNat % 2 ^ 32)
    ((State.wmCounts_congr (s.passed_regs c) (s.passed_ladder c) c).trans hcount)
    (by rw [State.passed_fld, State.passed_fld, h1, h2]; exact hmin) (by rw [State.passed_fld, h3]; exact hword)
  rw [h2, h3, State.passed_fld] at hv
  have htok : s.fld (R.CORE_WMSTAT_TOKEN c) < 2 ^ 16 := State.fld_lt s _
  have hmem := s.passed_mem c
  have hreg (o : Nat) : (s.passed c).reg o = s.reg o := State.reg_congr (s.passed_regs c) o
  refine ⟨_, (execWsvc_ready h hx).trans (congrArg Host.Outcome.next hv), ?_⟩
  generalize s.passed c = u at hpc hsreg hmem hreg ⊢
  have hw := (State.RegFab.setFld (O := {R.CORE_WMSTAT c}) u (f := R.CORE_WMSTAT_TOKEN c) (nextToken (s.fld (R.CORE_WMSTAT_TOKEN c))) rfl).trans
    (State.RegFab.setFld _ (f := R.CORE_WMSTAT_ELAPSED c) 0 rfl)
  refine ⟨by rw [hw.core, hpc], State.fld_setFld_here _ (R.CORE_WMSTAT_ELAPSED c) 0 rfl, ?_, fun q => by rw [hw.core, hsreg],
    fun o ho => (hw.reg o ho).trans (hreg o), hw.mem.trans hmem⟩
  rw [State.fld_setFld_apart _ (R.CORE_WMSTAT_ELAPSED c) (R.CORE_WMSTAT_TOKEN c) _ rfl rfl, State.fld_setFld_here _ (R.CORE_WMSTAT_TOKEN c) _ rfl]
  exact Nat.mod_eq_of_lt (nextToken_lt htok)

theorem execWsvc_wrong {c : CoreId} {f : IFields} {s : State} (h : s.Ready c f .s true) (hx : f.hasExt = false) (hcount : s.wmCounts c = true)
    (hno : ¬ (s.fld (R.CORE_WMCFG_WMIN c) ≤ s.fld (R.CORE_WMSTAT_ELAPSED c) ∧
      ((s.core c).sreg f.srcA.toNat).toNat % 2 ^ 32 = serviceWord (s.fld (R.CORE_WMSTAT_TOKEN c))))
    (hfirst : SMap.get (fun _ => []) s.ladder.expiries c = []) :
    ∃ u : State, exec (.wsvc c f) s = .next (u.coreFault c 0x30) ∧ s.ExpiryShown u c ∧ (u.core c).pc = (s.core c).pc + 4 := by
  obtain ⟨h1, h2, h3, -, -⟩ := wmFields_core c
  have hv := State.service_wrong (s := s.passed c) (w := c) (word := ((s.core c).sreg f.srcA.toNat).toNat % 2 ^ 32)
    ((State.wmCounts_congr (s.passed_regs c) (s.passed_ladder c) c).trans hcount)
    (by rw [State.passed_fld, State.passed_fld, State.passed_fld, h1, h2, h3]; exact hno)
  rw [State.expire_core c.isLt (by rw [s.passed_ladder c]; exact hfirst)] at hv
  obtain ⟨hshow, hcores⟩ := (s.passed c).expired_shown c
  refine ⟨_, (execWsvc_ready h hx).trans (congrArg Host.Outcome.next hv), ⟨?_, hshow.kind, hshow.core, ?_, hshow.mem.trans (s.passed_mem c)⟩, ?_⟩
  · rw [hshow.expiries, State.passed_fld]
  · rw [hshow.retained, State.passed_fld]
  · rw [State.core, hcores, ← State.core]
    exact (s.passed_core c).1

theorem execWsvc_off {c : CoreId} {f : IFields} {s : State} (h : s.Ready c f .s true) (hx : f.hasExt = false)
    (hen : s.flag (R.CORE_WMCFG_EN c) = false) : exec (.wsvc c f) s = .next (s.retired c f (fun q => q)) := by
  have hoff : (s.passed c).wmCounts c = false := State.wmCounts_off (by rw [State.flag, State.passed_fld, ← State.flag, hen])
  have hlen : w64 f.len = 4 := by
    rw [IFields.len, hx]
    rfl
  rw [execWsvc_ready h hx, State.service_off hoff, State.retired, State.modCore_id, hlen]
  rfl

/-! ### A watchman's configuration (R573, R574) -/

/-- The word that a configuration keeps of a value written. -/
def wmWord (v : BitVec 64) : BitVec 64 := v &&& 0x8000FFFFFFFFFFFF

theorem wmWord_mod (v : BitVec 64) : (wmWord v).toNat % 2 ^ 48 = v.toNat % 2 ^ 48 := by
  rw [wmWord, BitVec.toNat_and, Nat.and_mod_two_pow]
  exact (Nat.and_two_pow_sub_one_eq_mod _ 48).trans (Nat.mod_mod _ _)

theorem wmWord_msb (v : BitVec 64) : (wmWord v).getLsbD 63 = v.getLsbD 63 := by
  rw [wmWord, BitVec.getLsbD_and]
  exact Bool.and_true _

theorem wmWord_fields (v : BitVec 64) : (wmWord v).toNat % 2 ^ 16 = v.toNat % 2 ^ 16 ∧
    (wmWord v).toNat / 2 ^ 16 % 2 ^ 16 = v.toNat / 2 ^ 16 % 2 ^ 16 ∧ (wmWord v).toNat / 2 ^ 32 % 2 ^ 16 = v.toNat / 2 ^ 32 % 2 ^ 16 := by
  have h := wmWord_mod v
  omega

theorem div_pow_63 (x : BitVec 64) : (x.toNat / 2 ^ 63 % 2 == 1) = x.getLsbD 63 := by
  rw [BitVec.getLsbD, Nat.testBit_eq_decide_div_mod_eq]
  rfl

/-- A valid configuration of `wmax`, `wmin` and `warn` (R574). -/
def WmGood (v : BitVec 64) : Prop :=
  1 ≤ v.toNat / 2 ^ 32 % 2 ^ 16 ∧ v.toNat / 2 ^ 16 % 2 ^ 16 + v.toNat / 2 ^ 32 % 2 ^ 16 < v.toNat % 2 ^ 16

theorem wmCfgOk_iff (v : BitVec 64) : wmCfgOk v.toNat = true ↔ WmGood v := by
  unfold wmCfgOk WmGood
  simp

/-- The watchman `w` with the configuration taken. -/
def State.configured (s : State) (w : Nat) (v : BitVec 64) : State :=
  if bit v.toNat 63 then (s.setReg (wmReg w) (wmWord v)).wmRestart w else s.setReg (wmReg w) (wmWord v)

theorem State.writeWm_good {s : State} {w : Nat} {v : BitVec 64} (h : s.flag (wmEn w) = false) (hg : WmGood v) :
    s.writeWm w true v.toNat = (s.configured w v, false) := by
  unfold State.writeWm State.configured wmWord
  rw [h, (wmCfgOk_iff v).2 hg, BitVec.ofNat_toNat, BitVec.setWidth_eq]
  exact if_neg (by decide)

theorem State.writeWm_refused {s : State} {w : Nat} {v : BitVec 64} (h : s.flag (wmEn w) = true ∨ ¬ WmGood v) (allowed : Bool) :
    s.writeWm w allowed v.toNat = (s, true) := by
  unfold State.writeWm
  refine if_pos ?_
  rcases h with h | h
  · rw [h, Bool.or_true]
    rfl
  · rw [Bool.eq_false_iff.2 fun hx => h ((wmCfgOk_iff v).1 hx)]
    exact Bool.or_true _

/-- A write of all of a register's bits. -/
theorem whole_bits (x v : BitVec 64) : (x &&& ~~~(BitVec.allOnes 64)) ||| (v &&& BitVec.allOnes 64) = v := by
  rw [BitVec.not_allOnes, BitVec.and_zero, BitVec.and_allOnes, BitVec.zero_or]

/-! ### WMCFG (R573) -/

theorem regAt_wmcfg (c : CoreId) : ∃ r, regAt (R.CORE_WMCFG c) = some (r, 0) ∧ r.wide = true := by
  have ho : R.CORE_WMCFG c = 0x200000 + c.val * 0x10000 + 0x68 := by unfold R.CORE_WMCFG; omega
  rw [ho]
  exact regAt_core_of_map c.isLt (by decide) (by decide)

theorem exec_wmcfgWrite {s : State} (h : s.st ≠ stTRIPPED) {c : CoreId} (hc : s.hasCore c = true) (n u : Nat) (v : BitVec 64) :
    exec (.wmcfgWrite (.core n u .m) c (.whole v)) s =
      .next (Wrote.settle (s.writeWm c true v.toNat) (.core n u .m) (R.CORE_WMCFG c)) := by
  have hexec : exec (.wmcfgWrite (.core n u .m) c (.whole v)) s = .next (s.put (.core n u .m) (R.CORE_WMCFG c) 8 v.toNat) := rfl
  obtain ⟨r, hr, hw⟩ := regAt_wmcfg c
  have ho : R.CORE_WMCFG c = 0x200000 + c.val * 0x10000 + 0x68 := by unfold R.CORE_WMCFG; omega
  have hp : pageOf (R.CORE_WMCFG c) = 0x20 + c.val := by rw [ho]; exact pageOf_core (by decide)
  have ha : s.absent (R.CORE_WMCFG c) = false := by rw [State.absent_core s c.isLt hp, hc]; rfl
  have hcore : s.writeCore (.core n u .m) c (R.CORE_WMCFG c) r.fields (BitVec.ofNat 64 v.toNat) (BitVec.allOnes 64) =
      s.writeWm c (s.hasCore c) ((s.reg (R.CORE_WMCFG c) &&& ~~~(BitVec.allOnes 64)) ||| (BitVec.ofNat 64 v.toNat &&& BitVec.allOnes 64)).toNat := by
    unfold State.writeCore
    exact if_pos rfl
  rw [hexec, State.put_long rfl ha hr hw h, State.writeReg_core s _ c.isLt hp, hcore, whole_bits, BitVec.ofNat_toNat, BitVec.setWidth_eq, hc]

/-- What a configuration taken by a core's watchman shows. -/
theorem State.configured_core (s : State) (c : CoreId) (v : BitVec 64) :
    (s.configured c v).fld (R.CORE_WMCFG_WMAX c) = v.toNat % 2 ^ 16 ∧ (s.configured c v).fld (R.CORE_WMCFG_WMIN c) = v.toNat / 2 ^ 16 % 2 ^ 16 ∧
    (s.configured c v).fld (R.CORE_WMCFG_WARN c) = v.toNat / 2 ^ 32 % 2 ^ 16 ∧ (s.configured c v).flag (R.CORE_WMCFG_EN c) = v.getLsbD 63 ∧
    (v.getLsbD 63 = true → (s.configured c v).fld (R.CORE_WMSTAT_ELAPSED c) = 0 ∧ (s.configured c v).fld (R.CORE_WMSTAT_TOKEN c) = 0xACE1) ∧
    (s.configured c v).mem = s.mem ∧ (s.configured c v).cores = s.cores := by
  obtain ⟨hmax, hmin, hwarn⟩ := wmWord_fields v
  have hcfg : wmReg c = R.CORE_WMCFG c := if_pos c.isLt
  obtain ⟨-, h2, h3, -, -⟩ := wmFields_core c
  have hne : R.CORE_WMCFG c ≠ R.CORE_WMSTAT c := by unfold R.CORE_WMCFG R.CORE_WMSTAT; omega
  have hu := State.RegFab.setReg (O := {R.CORE_WMCFG c}) s (wmWord v) (off := R.CORE_WMCFG c) rfl
  have hreg : (s.setReg (R.CORE_WMCFG c) (wmWord v)).reg (R.CORE_WMCFG c) = wmWord v := by rw [State.reg_setReg, if_pos rfl]
  have hbit : bit v.toNat 63 = v.getLsbD 63 := bit_eq_testBit _ _
  rw [State.configured, hcfg, hbit]
  generalize s.setReg (R.CORE_WMCFG c) (wmWord v) = u at hu hreg ⊢
  have hrestart : u.wmRestart c = (u.setFld (R.CORE_WMSTAT_ELAPSED c) 0).setFld (R.CORE_WMSTAT_TOKEN c) 0xACE1 := by rw [State.wmRestart, h2, h3]
  have hw := (State.RegFab.setFld (O := {R.CORE_WMSTAT c}) u (f := R.CORE_WMSTAT_ELAPSED c) 0 rfl).trans
    (State.RegFab.setFld _ (f := R.CORE_WMSTAT_TOKEN c) 0xACE1 rfl)
  have hkeep : State.RegFab {R.CORE_WMSTAT c} u (if v.getLsbD 63 = true then u.wmRestart c else u) := by
    rw [hrestart]
    split_ifs
    · exact hw
    · exact State.RegFab.refl _ u
  have hreg' := (hkeep.reg (R.CORE_WMCFG c) hne).trans hreg
  refine ⟨?_, ?_, ?_, ?_, fun hen => ?_, hkeep.mem.trans hu.mem, hkeep.cores.trans hu.cores⟩
  · exact (congrArg (R.CORE_WMCFG_WMAX c).get hreg').trans ((congrArg (· % 2 ^ 16) (Nat.div_one _)).trans hmax)
  · exact (congrArg (R.CORE_WMCFG_WMIN c).get hreg').trans hmin
  · exact (congrArg (R.CORE_WMCFG_WARN c).get hreg').trans hwarn
  · exact (congrArg (fun x => (R.CORE_WMCFG_EN c).get x == 1) hreg').trans ((div_pow_63 (wmWord v)).trans (wmWord_msb v))
  · rw [if_pos hen, hrestart]
    exact ⟨(State.fld_setFld_apart _ (R.CORE_WMSTAT_TOKEN c) (R.CORE_WMSTAT_ELAPSED c) _ rfl rfl).trans
      (State.fld_setFld_here _ (R.CORE_WMSTAT_ELAPSED c) 0 rfl), State.fld_setFld_here _ (R.CORE_WMSTAT_TOKEN c) _ rfl⟩

/-! ### Warnings and expiries (R576, R578) -/

theorem State.coreFold_setDom (l : List Nat) (g : Nat → Nat) (s : State) :
    State.RegFab {R.PWR_DOMON0, R.PWR_DOMON1} s (l.foldl (fun s i => s.setDom (g i) true) s) := by
  refine State.RegFab.foldl l _ (fun t i _ => ?_) s
  unfold State.setDom
  dsimp only
  rw [if_pos rfl, State.fldBitSet]
  refine State.RegFab.setFld t _ ?_
  split_ifs
  · exact .inl rfl
  · exact .inr rfl

theorem execWatchmanWarn_core {s : State} {c : CoreId} {w : Fin 17} (hw : w.val = c.val) (hcount : s.wmCounts c = true)
    (h : s.fld (R.CORE_WMCFG_WMAX c) ≤ s.fld (R.CORE_WMSTAT_ELAPSED c) + s.fld (R.CORE_WMCFG_WARN c)) :
    ∃ t, exec (.watchmanWarn w) s = .next t ∧ (t.core c).pend.watchmanWarn = true ∧ (t.core c).pc = (s.core c).pc ∧ t.mem = s.mem := by
  obtain ⟨-, h2, -, h4, h5⟩ := wmFields_core c
  have hexec : exec (.watchmanWarn w) s = .next ((if s.fld (fCoreState w) = csQUIET then
      (List.range 5).foldl (fun s i => s.setDom (5 * w.val + i) true) s else s).modCore w (fun k => { k with pend := { k.pend with watchmanWarn := true } })) := by
    refine congrArg Host.Outcome.next ((if_neg ?_).trans (if_pos (by omega)))
    rw [hw, hcount, h2, h4, h5]
    simpa using h
  have hdom : State.RegFab {R.PWR_DOMON0, R.PWR_DOMON1} s (if s.fld (fCoreState w) = csQUIET then
      (List.range 5).foldl (fun s i => s.setDom (5 * w.val + i) true) s else s) := by
    split_ifs
    · exact State.coreFold_setDom _ (fun i => 5 * w.val + i) s
    · exact State.RegFab.refl _ s
  refine ⟨_, hexec, ?_⟩
  generalize (if s.fld (fCoreState w) = csQUIET then (List.range 5).foldl (fun s i => s.setDom (5 * w.val + i) true) s else s) = u at hdom ⊢
  rw [hw, State.core_modCore_same]
  have hpc : (u.core c).pc = (s.core c).pc := congrArg Core.pc (hdom.core c)
  exact ⟨rfl, hpc, hdom.mem⟩

theorem execWatchmanExpiry_core {s : State} {c : CoreId} {w : Fin 17} (hw : w.val = c.val) (hcount : s.wmCounts c = true)
    (h : s.fld (R.CORE_WMSTAT_ELAPSED c) = s.fld (R.CORE_WMCFG_WMAX c)) (hfirst : SMap.get (fun _ => []) s.ladder.expiries c = []) :
    ∃ u : State, exec (.watchmanExpiry w) s = .next (u.coreFault c 0x30) ∧ s.ExpiryShown u c ∧ u.cores = s.cores := by
  obtain ⟨-, h2, -, h4, -⟩ := wmFields_core c
  obtain ⟨hshow, hcores⟩ := s.expired_shown c
  refine ⟨s.expired c, congrArg Host.Outcome.next ((if_pos ?_).trans ?_), hshow, hcores⟩
  · rw [hw, hcount, h2, h4, h]
    exact beq_self_eq_true _
  · rw [hw]
    exact State.expire_core c.isLt hfirst

/-- Settles O37. A service word, an expiry and a configuration are each one operation of the watchman, whose cases are lemmas. -/
theorem coreWatchmen : Obligations.CoreWatchmen := by
  intro c f s k w word token elapsed valid counts expired
  have htok : serviceWord token = token * 2 ^ 16 + (0xFFFF - token) := serviceWord_of_lt (State.fld_lt s (R.CORE_WMSTAT_TOKEN c))
  have hshown {u : State} (h : s.ExpiryShown u c) : expired u := ⟨h.expiries, h.kind, h.core, h.retained, h.mem⟩
  refine ⟨fun hr hx => ⟨fun hcount hv => ?_, fun hcount hv hfirst => ?_, fun hen => execWsvc_off hr hx hen⟩,
    ⟨fun hcount he hfirst => ?_, fun hcount hwarn => execWatchmanWarn_core rfl (State.wmCounts_core hcount) hwarn⟩,
    fun n u v hst hcore => ⟨fun hen hgood => ?_, fun h => ?_⟩⟩
  · exact execWsvc_valid hr hx (State.wmCounts_core hcount) hv.1 (hv.2.trans htok.symm)
  · obtain ⟨u, hu, hshow, hpc⟩ := execWsvc_wrong hr hx (State.wmCounts_core hcount) (fun h => hv ⟨h.1, h.2.trans htok⟩) hfirst
    exact ⟨u, hu, hshown hshow, hpc⟩
  · obtain ⟨u, hu, hshow, hcores⟩ := execWatchmanExpiry_core (w := w) rfl (State.wmCounts_core hcount) he hfirst
    exact ⟨u, hu, hshown hshow, hcores⟩
  · have hflag : s.flag (wmEn c) = false := by rw [wmEn, if_pos c.isLt, hen]
    refine ⟨s.configured c v, ?_, s.configured_core c v⟩
    rw [exec_wmcfgWrite hst hcore, State.writeWm_good hflag hgood, Wrote.settle_taken]
  · have hflag : s.flag (wmEn c) = true ∨ ¬ WmGood v := h.imp_left fun hen => by rw [wmEn, if_pos c.isLt, hen]
    obtain ⟨hkeep, hrec⟩ := s.discard_recorded (.core n u .m) (R.CORE_WMCFG c)
    refine ⟨s.discard (.core n u .m) (R.CORE_WMCFG c), ?_, hkeep.reg _ (show R.CORE_WMCFG c ≠ R.DEVICE_ACCERR by
      unfold R.CORE_WMCFG R.DEVICE_ACCERR; omega), hrec⟩
    rw [exec_wmcfgWrite hst hcore, State.writeWm_refused hflag, Wrote.settle_discarded]

/-! ### The device watchman (R573–R579) -/

theorem State.stopWd_shows (s : State) : s.stopWd.ladder.wdStopped = true ∧ s.stopWd.ladder.demand = s.ladder.demand ∧
    s.stopWd.ladder.restarts = s.ladder.restarts ∧ s.stopWd.sun = s.sun ∧ ∀ g, s.stopWd.fld g = s.fld g := ⟨rfl, rfl, rfl, rfl, fun _ => rfl⟩

/-- The ladder with a warm restart demanded and counted. -/
def State.demanded (s : State) (cause : Nat) : State :=
  { s.satInc (R.WATCH_RETAIN_COUNT 2) with ladder := { s.ladder with demand := some cause, restarts := s.ladder.restarts ++ [s.tb2] } }

theorem State.ladderStep_demands {s : State} (hst : s.st ≠ stRESTART) (hd : s.ladder.demand = none) (hn : s.ladderCount < s.fld R.WATCH_LADDER_N)
    (cause : Nat) : s.ladderStep cause = s.demanded cause := by
  rw [State.ladderStep, if_neg hst, State.ladderDemand, hd]
  exact if_neg (by omega)

theorem State.ladderCount_congr {s t : State} (hr : t.ladder.restarts = s.ladder.restarts) (hs : t.sun = s.sun)
    (hf : t.fld R.WATCH_LADDER_PERIOD = s.fld R.WATCH_LADDER_PERIOD) : t.ladderCount = s.ladderCount := by
  rw [State.ladderCount, hr, State.tb2, hs, hf, State.ladderCount, State.tb2]

theorem State.demanded_shows (s : State) (cause : Nat) :
    (s.demanded cause).ladder.demand = some cause ∧ (s.demanded cause).ladder.wdStopped = s.ladder.wdStopped ∧
    (∀ o, o ≠ R.WATCH_RETAIN 2 → (s.demanded cause).reg o = s.reg o) ∧
    (s.demanded cause).fld (R.WATCH_RETAIN_COUNT 2) = min (s.fld (R.WATCH_RETAIN_COUNT 2) + 1) (2 ^ 32 - 1) := by
  have hreg (o : Nat) : (s.demanded cause).reg o = (s.satInc (R.WATCH_RETAIN_COUNT 2)).reg o := rfl
  refine ⟨rfl, rfl, fun o ho => (hreg o).trans (s.reg_satInc (R.WATCH_RETAIN_COUNT 2) ho), ?_⟩
  exact (congrArg (R.WATCH_RETAIN_COUNT 2).get (hreg _)).trans (s.fld_satInc (R.WATCH_RETAIN_COUNT 2) (Nat.le_of_ble_eq_true rfl))

/-- What a demand of the device watchman shows. -/
structure State.WdDemanded (s t : State) : Prop where
  demand : t.ladder.demand = some 0x10
  stopped : t.ladder.wdStopped = true
  kind : t.fld R.WATCH_LASTEXP_KIND = 2
  expiries : t.fld (R.WATCH_RETAIN_COUNT 1) = min (s.fld (R.WATCH_RETAIN_COUNT 1) + 1) (2 ^ 32 - 1)
  restarts : t.fld (R.WATCH_RETAIN_COUNT 2) = min (s.fld (R.WATCH_RETAIN_COUNT 2) + 1) (2 ^ 32 - 1)
  st : t.st = s.st

theorem State.expire_demands {s : State} (hst : s.st ≠ stRESTART) (hd : s.ladder.demand = none) (hn : s.ladderCount < s.fld R.WATCH_LADDER_N) :
    ∃ t, s.expire 16 = t ∧ s.WdDemanded t := by
  have hw := s.recordExpiry_writes 16
  obtain ⟨hkind, -, hret⟩ := s.recordExpiry_shows 16
  have hout (g : Fld) (h : g.off ≠ R.WATCH_LASTEXP) (k : g.off ≠ R.WATCH_RETAIN 1) : (s.recordExpiry 16).fld g = s.fld g :=
    hw.fld (by rintro (hg | hg); exacts [h hg, k hg])
  have hl := s.ladder_recordExpiry 16
  have hsun : (s.recordExpiry 16).sun = s.sun := by
    obtain ⟨⟨_, _, h⟩, -⟩ := hw
    rw [h]
  have hexp := s.expire_device
  generalize s.recordExpiry 16 = u at hw hkind hret hout hl hsun hexp
  obtain ⟨hstop, hdemand, hrest, hsun', hfld⟩ := u.stopWd_shows
  have hstu : u.stopWd.st = s.st := (hfld R.DEVICE_STATE_STATE).trans (hout _ (by decide) (by decide))
  have hcnt : u.stopWd.ladderCount = s.ladderCount :=
    State.ladderCount_congr (hrest.trans (congrArg Ladder.restarts hl)) (hsun'.trans hsun) ((hfld _).trans (hout _ (by decide) (by decide)))
  have hdem := State.ladderStep_demands (s := u.stopWd) (by rw [hstu]; exact hst) (by rw [hdemand, hl, hd])
    (by rw [hcnt, hfld, hout _ (by decide) (by decide)]; exact hn) 0x10
  refine ⟨_, hexp.trans hdem, ?_⟩
  obtain ⟨h1, h2, h3, h4⟩ := u.stopWd.demanded_shows 0x10
  have hkeep (g : Fld) (h : g.off ≠ R.WATCH_RETAIN 2) : (u.stopWd.demanded 0x10).fld g = u.fld g :=
    (congrArg g.get (h3 g.off h)).trans (hfld g)
  refine ⟨h1, h2.trans hstop, (hkeep _ (by decide)).trans hkind, (hkeep (R.WATCH_RETAIN_COUNT 1) (by decide)).trans hret, ?_,
    (hkeep R.DEVICE_STATE_STATE (by decide)).trans ((hfld _).symm.trans hstu)⟩
  rw [h4, hfld, hout (R.WATCH_RETAIN_COUNT 2) (by decide) (by decide)]

/-! ### WATCH.SVC and WATCH.CFG from PF0 (R573–R575) -/

theorem regAt_watchSvc : ∃ r, regAt R.WATCH_SVC = some (r, 0) ∧ r.wide = false := regAt_of_map (by decide)
theorem regAt_watchCfg : ∃ r, regAt R.WATCH_CFG = some (r, 0) ∧ r.wide = true := regAt_of_map (by decide)

theorem State.writeGate_fn {s : State} {f off : Nat} (h : s.fnReach f off = true) : s.writeGate (.fn f) off = .ok := if_pos h

theorem exec_watchSvc {s : State} (h : s.st ≠ stTRIPPED) (hr : s.fnReach 0 R.WATCH_SVC = true) (v : BitVec 32) :
    exec (.watchSvc (.fn 0) v) s = .next (s.service 16 v.toNat) := by
  have hexec : exec (.watchSvc (.fn 0) v) s = .next (s.put (.fn 0) R.WATCH_SVC 4 v.toNat) := rfl
  obtain ⟨r, hreg, hw⟩ := regAt_watchSvc
  have hwrite (fs : List FieldRow) (x bits : BitVec 64) : s.writeReg (.fn 0) R.WATCH_SVC fs x bits = (s.service 16 (x.toNat % 2 ^ 32), false) := rfl
  have hv : (BitVec.ofNat 64 v.toNat).toNat % 2 ^ 32 = v.toNat := by
    rw [BitVec.toNat_ofNat]
    omega
  rw [hexec, State.put_word (State.writeGate_fn hr) rfl hreg hw h v.isLt, hwrite, hv, Wrote.settle_taken]

theorem exec_watchCfgWrite {s : State} (h : s.st ≠ stTRIPPED) (hr : s.fnReach 0 R.WATCH_CFG = true) (v : BitVec 64) :
    exec (.watchCfgWrite (.fn 0) (.whole v)) s = .next (Wrote.settle (s.writeWm 16 true v.toNat) (.fn 0) R.WATCH_CFG) := by
  have hexec : exec (.watchCfgWrite (.fn 0) (.whole v)) s = .next (s.put (.fn 0) R.WATCH_CFG 8 v.toNat) := rfl
  obtain ⟨r, hreg, hw⟩ := regAt_watchCfg
  have hwrite (fs : List FieldRow) (x bits : BitVec 64) : s.writeReg (.fn 0) R.WATCH_CFG fs x bits =
      s.writeWm 16 true ((s.reg R.WATCH_CFG &&& ~~~bits) ||| (x &&& bits)).toNat := rfl
  rw [hexec, State.put_long (State.writeGate_fn hr) rfl hreg hw h, hwrite, whole_bits, BitVec.ofNat_toNat, BitVec.setWidth_eq]

theorem wmCounts_device {s : State} (hst : s.st ≠ stTRIPPED) (h : s.flag R.WATCH_CFG_EN = true ∧ s.ladder.wdStopped = false) : s.wmCounts 16 = true := by
  obtain ⟨hen, hstop⟩ := h
  unfold State.wmCounts wmEn
  rw [if_neg (by decide), if_neg (by decide), hen, hstop, bne_iff_ne.2 hst]
  rfl

theorem wmFields_device : wmMin 16 = R.WATCH_CFG_WMIN ∧ wmElapsed 16 = R.WATCH_STAT_ELAPSED ∧ wmToken 16 = R.WATCH_STAT_TOKEN ∧
    wmMax 16 = R.WATCH_CFG_WMAX ∧ wmWarn 16 = R.WATCH_CFG_WARN ∧ wmReg 16 = R.WATCH_CFG ∧ wmEn 16 = R.WATCH_CFG_EN :=
  ⟨rfl, rfl, rfl, rfl, rfl, rfl, rfl⟩

theorem execWatchSvc_valid {s : State} (hst : s.st ≠ stTRIPPED) (hr : s.fnReach 0 R.WATCH_SVC = true) (v : BitVec 32)
    (hcount : s.wmCounts 16 = true) (hmin : s.fld R.WATCH_CFG_WMIN ≤ s.fld R.WATCH_STAT_ELAPSED)
    (hv : v.toNat = serviceWord (s.fld R.WATCH_STAT_TOKEN)) :
    ∃ t, exec (.watchSvc (.fn 0) v) s = .next t ∧ t.fld R.WATCH_STAT_ELAPSED = 0 ∧
      t.fld R.WATCH_STAT_TOKEN = nextToken (s.fld R.WATCH_STAT_TOKEN) ∧ (∀ o, o ≠ R.WATCH_STAT → t.reg o = s.reg o) ∧ t.ladder = s.ladder := by
  obtain ⟨-, h2, h3, -⟩ := wmFields_device
  have hx := State.service_valid hcount hmin hv
  rw [h2, h3] at hx
  refine ⟨_, (exec_watchSvc hst hr v).trans (congrArg Host.Outcome.next hx), State.fld_setFld_here _ R.WATCH_STAT_ELAPSED 0 rfl, ?_, fun o ho => ?_, ?_⟩
  · rw [State.fld_setFld_apart _ R.WATCH_STAT_ELAPSED R.WATCH_STAT_TOKEN _ rfl rfl, State.fld_setFld_here _ R.WATCH_STAT_TOKEN _ rfl]
    exact Nat.mod_eq_of_lt (nextToken_lt (State.fld_lt s R.WATCH_STAT_TOKEN))
  · rw [State.reg_setFld_off _ R.WATCH_STAT_ELAPSED _ ho, State.reg_setFld_off _ R.WATCH_STAT_TOKEN _ ho]
  · rw [State.ladder_setFld, State.ladder_setFld]

theorem State.configured_device (s : State) (v : BitVec 64) :
    (s.configured 16 v).fld R.WATCH_CFG_WMAX = v.toNat % 2 ^ 16 ∧ (s.configured 16 v).fld R.WATCH_CFG_WMIN = v.toNat / 2 ^ 16 % 2 ^ 16 ∧
    (s.configured 16 v).fld R.WATCH_CFG_WARN = v.toNat / 2 ^ 32 % 2 ^ 16 ∧ (s.configured 16 v).flag R.WATCH_CFG_EN = v.getLsbD 63 ∧
    (s.configured 16 v).mem = s.mem := by
  obtain ⟨hmax, hmin, hwarn⟩ := wmWord_fields v
  obtain ⟨-, h2, h3, -, -, hcfg, -⟩ := wmFields_device
  have hu := State.RegFab.setReg (O := {R.WATCH_CFG}) s (wmWord v) (off := R.WATCH_CFG) rfl
  have hreg : (s.setReg R.WATCH_CFG (wmWord v)).reg R.WATCH_CFG = wmWord v := by rw [State.reg_setReg, if_pos rfl]
  rw [State.configured, hcfg]
  generalize s.setReg R.WATCH_CFG (wmWord v) = u at hu hreg ⊢
  have hrestart : u.wmRestart 16 = (u.setFld R.WATCH_STAT_ELAPSED 0).setFld R.WATCH_STAT_TOKEN 0xACE1 := by rw [State.wmRestart, h2, h3]
  have hw := (State.RegFab.setFld (O := {R.WATCH_STAT}) u (f := R.WATCH_STAT_ELAPSED) 0 rfl).trans
    (State.RegFab.setFld _ (f := R.WATCH_STAT_TOKEN) 0xACE1 rfl)
  have hkeep : State.RegFab {R.WATCH_STAT} u (if bit v.toNat 63 = true then u.wmRestart 16 else u) := by
    rw [hrestart]
    split_ifs
    · exact hw
    · exact State.RegFab.refl _ u
  have hreg' := (hkeep.reg R.WATCH_CFG (by decide)).trans hreg
  refine ⟨?_, ?_, ?_, ?_, hkeep.mem.trans hu.mem⟩
  · exact (congrArg (R.WATCH_CFG_WMAX).get hreg').trans ((congrArg (· % 2 ^ 16) (Nat.div_one _)).trans hmax)
  · exact (congrArg (R.WATCH_CFG_WMIN).get hreg').trans hmin
  · exact (congrArg (R.WATCH_CFG_WARN).get hreg').trans hwarn
  · exact (congrArg (fun x => (R.WATCH_CFG_EN).get x == 1) hreg').trans ((div_pow_63 (wmWord v)).trans (wmWord_msb v))

/-! ### The warning's event, and the retained counts (R576, R581) -/

theorem State.postEvent_room {s : State} {f kind info : Nat} (hk : ¬ (kind = 5 ∨ kind = 6)) (hroom : s.cqRoom f = true) (hw : (s.fn f).waiting = []) :
    s.postEvent f kind info = s.writeCq f ⟨0xFFFF, 0, kind, 0, false, info⟩ := by
  unfold State.postEvent
  dsimp only
  rw [if_neg fun h => hk h.1, if_pos (by rw [hroom, hw]; rfl)]

theorem execWatchmanWarn_device {s : State} (hcount : s.wmCounts 16 = true)
    (h : s.fld R.WATCH_CFG_WMAX ≤ s.fld R.WATCH_STAT_ELAPSED + s.fld R.WATCH_CFG_WARN) (hroom : s.cqRoom 0 = true) (hw : (s.fn 0).waiting = []) :
    ∃ t e, exec (.watchmanWarn 16) s = .next t ∧ (t.fn 0).cq = (s.fn 0).cq ++ [e] ∧ e.kind = 3 ∧ e.cid = 0xFFFF ∧
      e.info = s.fld R.WATCH_STAT_ELAPSED ∧ t.regs = s.regs := by
  have hexec : exec (.watchmanWarn 16) s = .next (s.postEvent 0 3 (s.fld R.WATCH_STAT_ELAPSED)) := by
    refine congrArg Host.Outcome.next ((if_neg ?_).trans (if_neg (by decide)))
    change ¬ (!s.wmCounts 16 || decide (s.fld R.WATCH_STAT_ELAPSED + s.fld R.WATCH_CFG_WARN < s.fld R.WATCH_CFG_WMAX)) = true
    rw [hcount]
    simpa using h
  rw [State.postEvent_room (by decide) hroom hw] at hexec
  obtain ⟨i, p, u, hfn⟩ := State.fn_writeCq s 0 ⟨0xFFFF, 0, 3, 0, false, s.fld R.WATCH_STAT_ELAPSED⟩
  refine ⟨_, _, hexec, by rw [hfn], rfl, rfl, rfl, State.writeCq_regs ..⟩

theorem execRetainedCountCopy_taken {s : State} (hoff : s.dev.off = false)
    (h : 11 ≤ s.fld R.DEVICE_BOOTSTAT_STEP ∨ s.serving = true ∨ s.st = stRESTART) :
    ∃ t, exec .retainedCountCopy s = .next t ∧ t.regs = s.regs ∧ t.nvm.record.length = 9 ∧
      (∀ i, i < 8 → t.nvm.record[i]? = some (s.fld (R.WATCH_RETAIN_COUNT i))) ∧ t.nvm.record[8]? = some (s.reg R.WATCH_LASTTRIP).toNat := by
  have hx : ¬ (s.dev.off || !(11 ≤ s.fld R.DEVICE_BOOTSTAT_STEP || s.serving || s.st == stRESTART)) = true := by
    rw [hoff]
    rcases h with h | h | h
    · simp [h]
    · simp [h]
    · simp [h]
  refine ⟨_, congrArg Host.Outcome.next (if_neg hx), rfl, rfl, fun i hi => ?_, rfl⟩
  interval_cases i <;> rfl

/-! ### The rotating self-tests (R564–R570) -/

/-- The rotation `r` one checker on. -/
def State.turnSlice (s : State) (r : Nat) : State :=
  { s with ladder := { s.ladder with slices := SMap.set (fun _ => 0) s.ladder.slices r ((SMap.get (fun _ => 0) s.ladder.slices r + 1) % rotationLen r) } }

theorem State.turnSlice_shows (s : State) (r : Nat) :
    SMap.get (fun _ => 0) (s.turnSlice r).ladder.slices r = (SMap.get (fun _ => 0) s.ladder.slices r + 1) % rotationLen r ∧
    (s.turnSlice r).regs = s.regs ∧ (s.turnSlice r).cores = s.cores ∧ (s.turnSlice r).mem = s.mem ∧ (s.turnSlice r).dev = s.dev ∧
    (s.turnSlice r).sun = s.sun ∧ (s.turnSlice r).ladder.single = s.ladder.single :=
  ⟨by rw [State.turnSlice, SMap.get_set, if_pos rfl], rfl, rfl, rfl, rfl, rfl, rfl⟩

/-- A slice of a core's rotation. -/
theorem execSelfTestSlice_core {s : State} {c : CoreId} {r : Fin 18} (hr : r.val = c.val) (h : s.fld (fCoreState c) = csSERVING ∨ s.fld (fCoreState c) = csSPARE)
    (ok : Bool) : exec (.selfTestSlice r ok) s = .next
      (if ok then ((s.turnSlice c).setFld (R.CORE_STSTAT_CURRENT c) (SMap.get (fun _ => 0) s.ladder.slices c)).satInc (R.CORE_STSTAT_PASSES c)
       else ((((s.turnSlice c).setFld (R.CORE_STSTAT_CURRENT c) (SMap.get (fun _ => 0) s.ladder.slices c)).satInc (R.CORE_STSTAT_FAILS c)).checkerFail c
        (SMap.get (fun _ => 0) s.ladder.slices c))) := by
  have hc : c.val < 16 := c.isLt
  have hrot : s.rotates c = true := by
    rw [State.rotates, if_pos hc]
    simpa using h
  have hexec : exec (.selfTestSlice r ok) s = execSelfTestSlice r ok s := rfl
  rw [hexec, execSelfTestSlice, hr, hrot, if_neg (by decide)]
  dsimp only
  rw [if_neg (by omega), if_pos hc, if_pos hc, if_pos hc]
  rfl

theorem State.slice_pass {s : State} {c : CoreId} {r : Fin 18} (hr : r.val = c.val) (h : s.fld (fCoreState c) = csSERVING ∨ s.fld (fCoreState c) = csSPARE)
    (hi : SMap.get (fun _ => 0) s.ladder.slices c < 9) :
    ∃ t, exec (.selfTestSlice r true) s = .next t ∧
      SMap.get (fun _ => 0) t.ladder.slices c = (SMap.get (fun _ => 0) s.ladder.slices c + 1) % 9 ∧
      t.fld (R.CORE_STSTAT_CURRENT c) = SMap.get (fun _ => 0) s.ladder.slices c ∧
      t.fld (R.CORE_STSTAT_PASSES c) = min (s.fld (R.CORE_STSTAT_PASSES c) + 1) 65535 ∧
      (∀ o, o ≠ R.CORE_STSTAT c → t.reg o = s.reg o) ∧ t.cores = s.cores ∧ t.mem = s.mem := by
  obtain ⟨hslice, hregs, hcores, hmem, -⟩ := s.turnSlice_shows c
  have hlen : rotationLen c = 9 := if_pos c.isLt
  have hcur : SMap.get (fun _ => 0) s.ladder.slices c % 2 ^ 4 = SMap.get (fun _ => 0) s.ladder.slices c := Nat.mod_eq_of_lt (Nat.lt_trans hi (by decide))
  have hexec := (execSelfTestSlice_core hr h true).trans (congrArg Host.Outcome.next (if_pos rfl))
  rw [hlen] at hslice
  generalize SMap.get (fun _ => 0) s.ladder.slices c = i at hslice hcur hexec ⊢
  have hreg (o : Nat) : (s.turnSlice c).reg o = s.reg o := State.reg_congr hregs o
  generalize s.turnSlice c = u at hexec hslice hcores hmem hreg
  have hset := State.ladder_setFld u (R.CORE_STSTAT_CURRENT c) i
  have hinc := State.ladder_satInc (u.setFld (R.CORE_STSTAT_CURRENT c) i) (R.CORE_STSTAT_PASSES c)
  have hw := (State.RegFab.setFld (O := {R.CORE_STSTAT c}) u (f := R.CORE_STSTAT_CURRENT c) i rfl).trans
    (State.RegFab.satInc _ (f := R.CORE_STSTAT_PASSES c) rfl)
  refine ⟨_, hexec, by rw [hinc, hset, hslice], ?_, ?_, fun o ho => (hw.reg o ho).trans (hreg o), hw.cores.trans hcores, hw.mem.trans hmem⟩
  · rw [State.satInc, State.satAdd, State.fld_setFld_apart _ (R.CORE_STSTAT_PASSES c) (R.CORE_STSTAT_CURRENT c) _ rfl rfl,
      State.fld_setFld_here _ (R.CORE_STSTAT_CURRENT c) _ rfl]
    exact hcur
  · rw [State.fld_satInc _ _ (Nat.le_of_ble_eq_true rfl), State.fld_setFld_apart _ (R.CORE_STSTAT_CURRENT c) (R.CORE_STSTAT_PASSES c) _ rfl rfl]
    exact congrArg (fun x => min ((R.CORE_STSTAT_PASSES c).get x + 1) 65535) (hreg _)

/-- A core's checker that fails is a fault of the core (R563). -/
theorem State.slice_fail {s : State} {c : CoreId} {r : Fin 18} (hr : r.val = c.val) (h : s.fld (fCoreState c) = csSERVING ∨ s.fld (fCoreState c) = csSPARE)
    (hi : SMap.get (fun _ => 0) s.ladder.slices c < 9) :
    ∃ u : State, exec (.selfTestSlice r false) s = .next (u.coreFault c 0x31) ∧
      u.fld (R.CORE_STSTAT_FAILS c) = min (s.fld (R.CORE_STSTAT_FAILS c) + 1) 255 ∧
      u.fld (R.CORE_STSTAT_CURRENT c) = SMap.get (fun _ => 0) s.ladder.slices c ∧ u.cores = s.cores ∧ u.mem = s.mem := by
  obtain ⟨-, hregs, hcores, hmem, -⟩ := s.turnSlice_shows c
  have hcur : SMap.get (fun _ => 0) s.ladder.slices c % 2 ^ 4 = SMap.get (fun _ => 0) s.ladder.slices c := Nat.mod_eq_of_lt (Nat.lt_trans hi (by decide))
  have hexec := (execSelfTestSlice_core hr h false).trans (congrArg Host.Outcome.next (if_neg Bool.false_ne_true))
  generalize SMap.get (fun _ => 0) s.ladder.slices c = i at hcur hexec ⊢
  have hreg (o : Nat) : (s.turnSlice c).reg o = s.reg o := State.reg_congr hregs o
  generalize s.turnSlice c = u at hexec hcores hmem hreg
  have hfail (v : State) (j : Nat) : v.checkerFail c j = (v.satInc R.SAFETY_EVCNT_CHECKER).coreFault c 0x31 := if_pos c.isLt
  rw [hfail] at hexec
  have hne : R.CORE_STSTAT c ≠ R.SAFETY_EVCNT := by unfold R.CORE_STSTAT R.SAFETY_EVCNT; omega
  have hw := ((State.RegFab.setFld (O := {R.CORE_STSTAT c, R.SAFETY_EVCNT}) u (f := R.CORE_STSTAT_CURRENT c) i (.inl rfl)).trans
    (State.RegFab.satInc _ (f := R.CORE_STSTAT_FAILS c) (.inl rfl))).trans (State.RegFab.satInc _ (f := R.SAFETY_EVCNT_CHECKER) (.inr rfl))
  refine ⟨_, hexec, ?_, ?_, hw.cores.trans hcores, hw.mem.trans hmem⟩
  · rw [State.fld_satInc_off _ R.SAFETY_EVCNT_CHECKER (R.CORE_STSTAT_FAILS c) hne, State.fld_satInc _ _ (Nat.le_of_ble_eq_true rfl),
      State.fld_setFld_apart _ (R.CORE_STSTAT_CURRENT c) (R.CORE_STSTAT_FAILS c) _ rfl rfl]
    exact congrArg (fun x => min ((R.CORE_STSTAT_FAILS c).get x + 1) 255) (hreg _)
  · rw [State.fld_satInc_off _ R.SAFETY_EVCNT_CHECKER (R.CORE_STSTAT_CURRENT c) hne, State.satInc, State.satAdd,
      State.fld_setFld_apart _ (R.CORE_STSTAT_FAILS c) (R.CORE_STSTAT_CURRENT c) _ rfl rfl, State.fld_setFld_here _ (R.CORE_STSTAT_CURRENT c) _ rfl]
    exact hcur

/-! ### The Verifier's rotation (R567, R570) -/

theorem pairBit_verifier {i : Nat} (h : i < 60) : pairBit 16 i = some (if i < 44 then i / 2 else 22 + (i - 44) / 2) := by
  unfold pairBit
  rw [if_pos rfl]
  split_ifs
  · rfl
  · rfl

/-- A slice of the Verifier's rotation whose checker has its twin. -/
theorem execSelfTestSlice_verifier {s : State} (hoff : s.dev.off = false) (hpin : s.dev.pinLow = false) (hwarm : s.dev.warmHeld = false)
    (hst : s.st ≠ stBOOT) {i b : Nat} (hi : SMap.get (fun _ => 0) s.ladder.slices 16 = i) (hb : pairBit 16 i = some b)
    (hfree : bit (s.reg R.SAFETY_CHKFAIL).toNat b = false) (ok : Bool) : exec (.selfTestSlice 16 ok) s = .next
      (if ok then ((s.turnSlice 16).setFld R.SAFETY_STSTAT_CURRENT i).satInc R.SAFETY_STSTAT_PASSES
       else (((s.turnSlice 16).setFld R.SAFETY_STSTAT_CURRENT i).satInc R.SAFETY_STSTAT_FAILS).checkerFail 16 i) := by
  have hrot : s.rotates 16 = true := by
    rw [State.rotates, if_neg (by decide), if_pos rfl, hoff, hpin, hwarm, bne_iff_ne.2 hst]
    rfl
  have hexec : exec (.selfTestSlice 16 ok) s = execSelfTestSlice 16 ok s := rfl
  have hturn (x : Nat) (hx : x = SMap.get (fun _ => 0) s.ladder.slices 16) : 
      ({ s with ladder := { s.ladder with slices := SMap.set (fun _ => 0) s.ladder.slices 16 ((x + 1) % rotationLen 16) } } : State) = s.turnSlice 16 := by rw [hx]; rfl
  have h16 : ((16 : Fin 18) : Nat) = 16 := rfl
  rw [hexec, execSelfTestSlice, h16, hrot, if_neg (by decide)]
  dsimp only
  rw [hi, hturn i hi.symm, if_neg]
  · simp only [Nat.lt_irrefl, if_false, if_true]
  · rintro ⟨-, h⟩
    rw [hb] at h
    exact absurd (hfree.symm.trans h) Bool.false_ne_true

theorem State.verifier_pass {s : State} (hoff : s.dev.off = false) (hpin : s.dev.pinLow = false) (hwarm : s.dev.warmHeld = false)
    (hst : s.st ≠ stBOOT) {i b : Nat} (hi : SMap.get (fun _ => 0) s.ladder.slices 16 = i) (hlt : i < 60) (hb : pairBit 16 i = some b)
    (hfree : bit (s.reg R.SAFETY_CHKFAIL).toNat b = false) :
    ∃ t, exec (.selfTestSlice 16 true) s = .next t ∧ SMap.get (fun _ => 0) t.ladder.slices 16 = i + 1 ∧
      t.fld R.SAFETY_STSTAT_CURRENT = i ∧ (∀ o, o ≠ R.SAFETY_STSTAT → t.reg o = s.reg o) := by
  obtain ⟨hslice, hregs, -⟩ := s.turnSlice_shows 16
  have hexec := (execSelfTestSlice_verifier hoff hpin hwarm hst hi hb hfree true).trans (congrArg Host.Outcome.next (if_pos rfl))
  have hlen : (i + 1) % rotationLen 16 = i + 1 := Nat.mod_eq_of_lt (show i + 1 < 97 by omega)
  rw [hi, hlen] at hslice
  have hreg (o : Nat) : (s.turnSlice 16).reg o = s.reg o := State.reg_congr hregs o
  generalize s.turnSlice 16 = u at hexec hslice hreg
  have hset := State.ladder_setFld u R.SAFETY_STSTAT_CURRENT i
  have hinc := State.ladder_satInc (u.setFld R.SAFETY_STSTAT_CURRENT i) R.SAFETY_STSTAT_PASSES
  refine ⟨_, hexec, by rw [hinc, hset, hslice], ?_, fun o ho => ?_⟩
  · rw [State.satInc, State.satAdd, State.fld_setFld_apart _ R.SAFETY_STSTAT_PASSES R.SAFETY_STSTAT_CURRENT _ rfl rfl,
      State.fld_setFld_here _ R.SAFETY_STSTAT_CURRENT _ rfl]
    exact Nat.mod_eq_of_lt (show i < 2 ^ 8 by omega)
  · rw [State.reg_satInc _ R.SAFETY_STSTAT_PASSES ho, State.reg_setFld_off _ R.SAFETY_STSTAT_CURRENT _ ho, hreg]

/-- A pair that serves single from now on, its time noted when it is the first. -/
def State.single (s : State) (b : Nat) : State :=
  let s := s.setReg R.SAFETY_CHKFAIL (BitVec.ofNat 64 (setBit (s.reg R.SAFETY_CHKFAIL).toNat b))
  match s.ladder.single with
  | some _ => s
  | none => { s with ladder := { s.ladder with single := some s.tb2 } }

theorem State.checkerFail_pair {s : State} {i b : Nat} (hst : s.st ≠ stBOOT) (hst' : s.st ≠ stSELFTEST) (hb : pairBit 16 i = some b) :
    s.checkerFail 16 i = (s.satInc R.SAFETY_EVCNT_CHECKER).single b := by
  have hs : (s.satInc R.SAFETY_EVCNT_CHECKER).st = s.st := s.fld_satInc_off R.SAFETY_EVCNT_CHECKER R.DEVICE_STATE_STATE (by decide)
  unfold State.checkerFail
  dsimp only
  rw [if_neg (by decide), hs, if_neg (by rintro (h | h); exacts [hst h, hst' h]), hb]
  rfl

theorem State.single_shows (s : State) {b : Nat} (hb : b < 64) :
    bit ((s.single b).reg R.SAFETY_CHKFAIL).toNat b = true ∧ (s.single b).dev = s.dev ∧ (∀ o, o ≠ R.SAFETY_CHKFAIL → (s.single b).reg o = s.reg o) ∧
    (s.ladder.single = none → (s.single b).ladder.single = some s.tb2) ∧ (∀ x, s.ladder.single = some x → (s.single b).ladder.single = some x) := by
  have hkeep : (s.single b).regs = (s.setReg R.SAFETY_CHKFAIL (BitVec.ofNat 64 (setBit (s.reg R.SAFETY_CHKFAIL).toNat b))).regs ∧
      (s.single b).dev = s.dev := by
    unfold State.single
    dsimp only
    split
    · exact ⟨rfl, rfl⟩
    · exact ⟨rfl, rfl⟩
  have hreg (o : Nat) : (s.single b).reg o = (s.setReg R.SAFETY_CHKFAIL (BitVec.ofNat 64 (setBit (s.reg R.SAFETY_CHKFAIL).toNat b))).reg o :=
    State.reg_congr hkeep.1 o
  have hlt : setBit (s.reg R.SAFETY_CHKFAIL).toNat b < 2 ^ 64 := setBit_lt (s.reg R.SAFETY_CHKFAIL).isLt hb
  have hladder : (s.setReg R.SAFETY_CHKFAIL (BitVec.ofNat 64 (setBit (s.reg R.SAFETY_CHKFAIL).toNat b))).ladder = s.ladder := rfl
  refine ⟨?_, hkeep.2, fun o ho => by rw [hreg, State.reg_setReg, if_neg ho], fun h => ?_, fun x h => ?_⟩
  · rw [hreg, State.reg_setReg, if_pos rfl, BitVec.toNat_ofNat, Nat.mod_eq_of_lt hlt, bit_setBit, decide_eq_true rfl, Bool.true_or]
  · unfold State.single
    dsimp only
    rw [hladder, h]
    rfl
  · unfold State.single
    dsimp only
    rw [hladder, h]
    exact hladder ▸ h

theorem State.verifier_fail {s : State} (hoff : s.dev.off = false) (hpin : s.dev.pinLow = false) (hwarm : s.dev.warmHeld = false)
    (hst : s.st ≠ stBOOT) (hst' : s.st ≠ stSELFTEST) {i b : Nat} (hi : SMap.get (fun _ => 0) s.ladder.slices 16 = i) (hb : pairBit 16 i = some b)
    (hlt : b < 64) (hfree : bit (s.reg R.SAFETY_CHKFAIL).toNat b = false) :
    ∃ t, exec (.selfTestSlice 16 false) s = .next t ∧ bit (t.reg R.SAFETY_CHKFAIL).toNat b = true ∧ t.st = s.st ∧
      t.dev = s.dev ∧ (s.ladder.single = none → t.ladder.single = some s.tb2) ∧ (∀ x, s.ladder.single = some x → t.ladder.single = some x) := by
  obtain ⟨-, hregs, -, -, hdev, hsun, hsingle⟩ := s.turnSlice_shows 16
  have hexec := (execSelfTestSlice_verifier hoff hpin hwarm hst hi hb hfree false).trans (congrArg Host.Outcome.next (if_neg Bool.false_ne_true))
  have hst0 : (s.turnSlice 16).st = s.st := State.fld_congr hregs _
  generalize s.turnSlice 16 = u at hexec hdev hsun hsingle hst0
  have hstu : ((u.setFld R.SAFETY_STSTAT_CURRENT i).satInc R.SAFETY_STSTAT_FAILS).st = s.st :=
    ((State.fld_satInc_off _ R.SAFETY_STSTAT_FAILS R.DEVICE_STATE_STATE (by decide)).trans
      (State.fld_setFld_off _ R.SAFETY_STSTAT_CURRENT R.DEVICE_STATE_STATE _ (by decide))).trans hst0
  rw [State.checkerFail_pair (by rw [hstu]; exact hst) (by rw [hstu]; exact hst') hb] at hexec
  have hw := ((State.RegFab.setFld (O := {R.SAFETY_STSTAT, R.SAFETY_EVCNT}) u (f := R.SAFETY_STSTAT_CURRENT) i (.inl rfl)).trans
    (State.RegFab.satInc _ (f := R.SAFETY_STSTAT_FAILS) (.inl rfl))).trans (State.RegFab.satInc _ (f := R.SAFETY_EVCNT_CHECKER) (.inr rfl))
  have hl : (((u.setFld R.SAFETY_STSTAT_CURRENT i).satInc R.SAFETY_STSTAT_FAILS).satInc R.SAFETY_EVCNT_CHECKER).ladder = u.ladder := by
    rw [State.ladder_satInc, State.ladder_satInc, State.ladder_setFld]
  have hs : (((u.setFld R.SAFETY_STSTAT_CURRENT i).satInc R.SAFETY_STSTAT_FAILS).satInc R.SAFETY_EVCNT_CHECKER).sun = u.sun := hw.inner.sun
  generalize ((u.setFld R.SAFETY_STSTAT_CURRENT i).satInc R.SAFETY_STSTAT_FAILS).satInc R.SAFETY_EVCNT_CHECKER = v at hexec hw hl hs
  obtain ⟨h1, h2, h3, h4, h5⟩ := v.single_shows hlt
  refine ⟨_, hexec, h1, ?_, h2.trans (hw.dev.trans hdev), fun h => ?_, fun x h => h5 x (by rw [hl, hsingle, h])⟩
  · exact (congrArg R.DEVICE_STATE_STATE.get (h3 _ (by decide))).trans ((hw.fld (g := R.DEVICE_STATE_STATE)
      (show R.DEVICE_STATE ∉ ({R.SAFETY_STSTAT, R.SAFETY_EVCNT} : Set Nat) by decide)).trans hst0)
  · rw [h4 (by rw [hl, hsingle, h]), State.tb2, hs, hsun, State.tb2]

theorem exec_chkSingleExpiry {s : State} {t : Nat} (h : s.ladder.single = some t) : exec .chkSingleExpiry s =
    .next (if t + 1000000000 * s.fld R.SAFETY_CFG_CHK_SINGLE_MAX ≤ s.tb2 then s.trip 0x0C 0 false else s) := by
  have hexec : exec .chkSingleExpiry s = execChkSingleExpiry s := rfl
  rw [hexec, execChkSingleExpiry, h]
  rfl

/-- Settles O38. The device watchman is the watchman of the cores at 16; the rotations of a core and of the Verifier are one slice each. -/
theorem deviceWatchmanAndTests : Obligations.DeviceWatchmanAndTests := by
  refine ⟨fun s hst => ?_, fun c s h hi => ⟨State.slice_pass rfl h hi, State.slice_fail rfl h hi⟩,
    fun s hoff hpin hwarm hboot hlt hfree => ⟨State.verifier_pass hoff hpin hwarm hboot rfl hlt (pairBit_verifier hlt) hfree, fun hself =>
      State.verifier_fail hoff hpin hwarm hboot hself rfl (pairBit_verifier hlt) (by split_ifs <;> omega) hfree⟩, fun t0 s hs => ⟨fun ht hflag hst => ?_, fun ht => ?_⟩⟩
  · intro token elapsed counts demanded below
    have htok : serviceWord token = token * 2 ^ 16 + (0xFFFF - token) := serviceWord_of_lt (State.fld_lt s R.WATCH_STAT_TOKEN)
    have hen16 : wmEn 16 = R.WATCH_CFG_EN := rfl
    have hdem {t : State} (h : s.WdDemanded t) : demanded t := ⟨h.demand, h.stopped, h.kind, h.expiries, h.restarts, h.st⟩
    refine ⟨fun v hr hcount => ⟨fun hv => execWatchSvc_valid hst hr v (wmCounts_device hst hcount) hv.1 (hv.2.trans htok.symm), fun hv hb => ?_⟩,
      fun hcount he hb => ?_, fun hcount => execWatchmanWarn_device (wmCounts_device hst hcount), fun v hr => ⟨fun hen hgood => ?_, fun h => ?_⟩,
      execRetainedCountCopy_taken⟩
    · obtain ⟨t, ht, hshow⟩ := State.expire_demands hb.1 hb.2.1 hb.2.2
      refine ⟨t, ?_, hdem hshow⟩
      rw [exec_watchSvc hst hr, State.service_wrong (wmCounts_device hst hcount) fun h => hv ⟨h.1, h.2.trans htok⟩, ht]
    · obtain ⟨t, ht, hshow⟩ := State.expire_demands hb.1 hb.2.1 hb.2.2
      refine ⟨t, congrArg Host.Outcome.next ((if_pos ?_).trans ht), hdem hshow⟩
      change (s.wmCounts 16 && s.fld R.WATCH_STAT_ELAPSED == s.fld R.WATCH_CFG_WMAX) = true
      rw [wmCounts_device hst hcount]
      exact beq_iff_eq.2 he
    · refine ⟨s.configured 16 v, ?_, s.configured_device v⟩
      have hflag : s.flag (wmEn 16) = false := hen16.symm ▸ hen
      rw [exec_watchCfgWrite hst hr, State.writeWm_good hflag hgood, Wrote.settle_taken]
    · obtain ⟨hkeep, hrec⟩ := s.discard_recorded (.fn 0) R.WATCH_CFG
      refine ⟨s.discard (.fn 0) R.WATCH_CFG, ?_, hkeep.reg _ (show R.WATCH_CFG ≠ R.DEVICE_ACCERR by decide), hrec⟩
      have hflag : s.flag (wmEn 16) = true ∨ ¬ WmGood v := hen16.symm ▸ h
      rw [exec_watchCfgWrite hst hr, State.writeWm_refused hflag, Wrote.settle_discarded]
  · obtain ⟨hst', -, hsource, -⟩ := State.trip_tripped hflag (source := 0x0C) (detail := 0) (by decide) (by decide) false
    exact ⟨s.trip 0x0C 0 false, (exec_chkSingleExpiry hs).trans (congrArg Host.Outcome.next (if_pos ht)), hst', hsource⟩
  · exact (exec_chkSingleExpiry hs).trans (congrArg Host.Outcome.next (if_neg (by omega)))

end Sys2Proof.Machine
end

section
-- One proof after another: what waits for another costs the check memory.
set_option Elab.async false
/-! SUPPORT. Memory between the halves of DRAM (O43), the debug port (O60), and requests over Nimlink (O52). -/
namespace Sys2Proof.Machine

/-! ### An error of a block between the halves of DRAM -/

/-- Every channel up, and a correctable error noted for the block at 0xE000_0000, where R160 has no memory though `isDram` counts the
address to DRAM. -/
def holeError : State := { State.reset.setFld R.MEMC_STATUS_CH_UP 255 with ecc := [(0x3800000, 1)] }

theorem holeError_holds : isDram (64 * (0x3800000 : BitVec 34).toNat) = true ∧ holeError.chUp (dramCh (64 * (0x3800000 : BitVec 34).toNat)) = true ∧
    holeError.flag R.KEEP_STATUS_SCRUBBING = false ∧ holeError.errAt (0x3800000 : BitVec 34).toNat = 1 := by decide

theorem holeError_nowhere : holeError.loc none (64 * (0x3800000 : BitVec 34).toNat) = .none := by decide

/-- The scrub finds no memory there, and nothing is corrected. -/
theorem holeError_scrub : exec (.patrolScrub 0x3800000) holeError = .next holeError := by
  have hexec : exec (.patrolScrub 0x3800000) holeError = execPatrolScrub 0x3800000 holeError := rfl
  obtain ⟨-, -, hscrub, -⟩ := holeError_holds
  rw [hexec, execPatrolScrub]
  dsimp only
  rw [hscrub, if_neg Bool.false_ne_true, holeError_nowhere]

/-- Refutes O43: the first half of DRAM ends at 0xE000_0000 (R160), yet `isDram` holds up to 0x1_0000_0000. A patrol scrub of a block in
between finds no memory, so a correctable error noted there is not corrected, as the statement asks of every block of `isDram`. -/
theorem not_memoryAndPower : ¬ Obligations.MemoryAndPower := by
  intro h
  obtain ⟨hdram, hup, hscrub, herr⟩ := holeError_holds
  obtain ⟨hpatrol, -⟩ := h holeError
  obtain ⟨-, hfound⟩ := hpatrol 0x3800000 hdram hup
  obtain ⟨hone, -⟩ := hfound hscrub
  obtain ⟨t, ht, hclear, -⟩ := hone herr
  cases holeError_scrub.symm.trans ht
  exact absurd (herr.symm.trans hclear) (by decide)

/-! ### Bits of a register's field -/

/-- A field with a bit set has the bit set, when it lies inside the field. -/
theorem State.bit_fldBitSet (s : State) {f : Fld} {i : Nat} (hf : Nat.ble (f.lo + f.w) 64 = true) (hi : i < f.w) :
    bit ((s.fldBitSet f i).fld f) i = true := by
  rw [State.fldBitSet, State.fld_setFld_here s f _ hf, Nat.mod_eq_of_lt (setBit_lt (State.fld_lt s f) hi), bit_setBit]
  simp

theorem State.bit_fldBitClr (s : State) {f : Fld} (i : Nat) (hf : Nat.ble (f.lo + f.w) 64 = true) :
    bit ((s.fldBitClr f i).fld f) i = false := by
  rw [State.fldBitClr, State.fld_setFld_here s f _ hf, Nat.mod_eq_of_lt (clrBit_lt (State.fld_lt s f) i), bit_clrBit]
  simp

/-! ### DBG.CTRL (R783) -/

theorem regAt_dbgCtrl : ∃ r, regAt R.DBG_CTRL = some (r, 0) ∧ r.wide = false := regAt_of_map (by decide)
theorem regAt_dbgInj : ∃ r, regAt R.DBG_INJ = some (r, 0) ∧ r.wide = false := regAt_of_map (by decide)

theorem State.put_dbgCtrl {s : State} (h : s.st ≠ stTRIPPED) (hd : s.dbgAllowed 3 = true) (v : BitVec 32) :
    s.put .dbg R.DBG_CTRL 4 v.toNat = s.writeDbgCtrl v.toNat := by
  obtain ⟨r, hr, hw⟩ := regAt_dbgCtrl
  have hg : s.writeGate .dbg R.DBG_CTRL = .ok := if_pos (by rw [hd]; rfl)
  rw [State.put_word hg rfl hr hw h v.isLt]
  have hx : (BitVec.ofNat 64 v.toNat).toNat = v.toNat := by rw [BitVec.toNat_ofNat, Nat.mod_eq_of_lt (by omega)]
  have hreg : s.writeReg .dbg R.DBG_CTRL r.fields (BitVec.ofNat 64 v.toNat) 0xFFFFFFFF =
      (s.writeDbgCtrl (BitVec.ofNat 64 v.toNat).toNat, false) := rfl
  rw [hreg, hx, Wrote.settle_taken]

theorem State.writeDbgCtrl_shows (s : State) (v : BitVec 32) :
    let a := v.getLsbD 31
    let t := s.writeDbgCtrl v.toNat
    t.flag R.DBG_CTRL_ATTACH = a ∧ t.fld R.DBG_CTRL_CLASS = v.toNat / 2 ^ 29 % 4 ∧ t.flag R.DBG_STATUS_ATTACHED = a ∧
      t.fld R.DBG_ATTACHCNT_COUNT = (if a then min (s.fld R.DBG_ATTACHCNT_COUNT + 1) (2 ^ 32 - 1) else s.fld R.DBG_ATTACHCNT_COUNT) ∧
      State.RegFab {o | o ∈ [R.DBG_CTRL, R.DBG_STATUS, R.DBG_ATTACHCNT]} s t := by
  intro a t
  have hne1 : R.DBG_CTRL ≠ R.DBG_ATTACHCNT := by decide
  have hne2 : R.DBG_STATUS ≠ R.DBG_ATTACHCNT := by decide
  have hne3 : R.DBG_CTRL ≠ R.DBG_STATUS := by decide
  obtain ⟨u, hu⟩ : ∃ u, u = ((s.setFld R.DBG_CTRL_ATTACH (v.toNat / 2 ^ 31 % 2)).setFld R.DBG_CTRL_CLASS (v.toNat / 2 ^ 29)).setFld
    R.DBG_STATUS_ATTACHED (v.toNat / 2 ^ 31 % 2) := ⟨_, rfl⟩
  have hbit : a = (v.toNat / 2 ^ 31 % 2 == 1) := by
    rw [show a = v.toNat.testBit 31 from rfl, ← bit_eq_testBit]
    rfl
  have hfab : State.RegFab {o | o ∈ [R.DBG_CTRL, R.DBG_STATUS, R.DBG_ATTACHCNT]} s u := by
    rw [hu]
    exact ((State.RegFab.setFld s _ (by decide)).trans (State.RegFab.setFld _ _ (by decide))).trans (State.RegFab.setFld _ _ (by decide))
  have hatt : u.flag R.DBG_CTRL_ATTACH = a := by
    rw [hu, State.flag, State.fld_setFld_off _ _ _ _ hne3, State.fld_setFld_apart _ _ _ _ rfl rfl, State.fld_setFld_here _ _ _ rfl, hbit]
    exact congrArg (· == 1) (Nat.mod_mod _ 2)
  have hcls : u.fld R.DBG_CTRL_CLASS = v.toNat / 2 ^ 29 % 4 := by
    rw [hu, State.fld_setFld_off _ _ _ _ hne3, State.fld_setFld_here _ _ _ rfl]
    rfl
  have hsta : u.flag R.DBG_STATUS_ATTACHED = a := by
    rw [hu, State.flag, State.fld_setFld_here _ _ _ rfl, hbit]
    exact congrArg (· == 1) (Nat.mod_mod _ 2)
  have hcnt : u.fld R.DBG_ATTACHCNT_COUNT = s.fld R.DBG_ATTACHCNT_COUNT := by
    rw [hu, State.fld_setFld_off _ _ _ _ hne2.symm, State.fld_setFld_off _ _ _ _ hne1.symm, State.fld_setFld_off _ _ _ _ hne1.symm]
  have ht : t = if v.toNat / 2 ^ 31 % 2 = 1 then u.satInc R.DBG_ATTACHCNT_COUNT else u := by
    rw [hu]
    rfl
  clear_value t
  clear hu
  by_cases h : v.toNat / 2 ^ 31 % 2 = 1
  · have ha : a = true := by rw [hbit, h]; rfl
    rw [ht, if_pos h, State.flag, State.fld_satInc_off _ _ _ hne1, State.fld_satInc_off _ _ _ hne1, State.flag,
      State.fld_satInc_off _ _ _ hne2, State.fld_satInc _ _ (by decide), hcnt, ha]
    exact ⟨hatt.trans ha, hcls, hsta.trans ha, rfl, hfab.trans (State.RegFab.satInc _ (by decide))⟩
  · have ha : a = false := by rw [hbit]; simpa using h
    rw [ht, if_neg h, hcnt, ha]
    exact ⟨hatt.trans ha, hcls, hsta.trans ha, rfl, hfab⟩

theorem exec_debugAttach (v : BitVec 32) (s : State) : exec (.debugAttach .dbg v) s = .next ((s.put .dbg R.DBG_CTRL 4 v.toNat).setPad 20 .active) := rfl

/-! ### Halt, step and resume (R780, R782) -/

theorem State.debugHalt_shows (s : State) (c : CoreId) :
    (s.debugHalt c).core c = { s.core c with dbgHalt := true } ∧ bit ((s.debugHalt c).fld R.DBG_STATUS_HALTED) c = true ∧
      (∀ q, q ≠ c.val → (s.debugHalt c).core q = s.core q) ∧ (s.debugHalt c).mem = s.mem ∧ ∀ o, o ≠ R.DBG_STATUS → (s.debugHalt c).reg o = s.reg o := by
  refine ⟨?_, State.bit_fldBitSet _ rfl c.isLt, fun q hq => ?_, rfl, fun o ho => State.reg_setFld_off _ _ _ ho⟩
  · exact (State.core_setFld ..).trans (State.core_modCore_same ..)
  · exact (State.core_setFld ..).trans ((State.core_modCore ..).trans (if_neg hq))

/-- A halted Steward released. -/
def State.debugRelease (s : State) (c : CoreId) : State :=
  (s.modCore c (fun k => { k with dbgHalt := false, step := false })).fldBitClr R.DBG_STATUS_HALTED c

theorem State.debugRelease_shows (s : State) (c : CoreId) :
    (s.debugRelease c).core c = { s.core c with dbgHalt := false, step := false } ∧ bit ((s.debugRelease c).fld R.DBG_STATUS_HALTED) c = false ∧
      (∀ q, q ≠ c.val → (s.debugRelease c).core q = s.core q) ∧ (s.debugRelease c).mem = s.mem ∧
      ∀ o, o ≠ R.DBG_STATUS → (s.debugRelease c).reg o = s.reg o := by
  refine ⟨?_, State.bit_fldBitClr _ _ rfl, fun q hq => ?_, rfl, fun o ho => State.reg_setFld_off _ _ _ ho⟩
  · exact (State.core_setFld ..).trans (State.core_modCore_same ..)
  · exact (State.core_setFld ..).trans ((State.core_modCore ..).trans (if_neg hq))

theorem exec_debugHalt (c : CoreId) (s : State) : exec (.debugHalt c) s = .next (if s.dbgAllowed 5 && s.hasCore c then s.debugHalt c else s) := rfl
theorem exec_debugStep (c : CoreId) (s : State) : exec (.debugStep c) s =
    .next (if s.dbgAllowed 5 && (s.core c).dbgHalt then s.modCore c (fun k => { k with step := true }) else s) := rfl
theorem exec_debugResume (c : CoreId) (s : State) : exec (.debugResume c) s =
    .next (if s.dbgAllowed 5 && (s.core c).dbgHalt then s.debugRelease c else s) := rfl

/-! ### Injections (R785) -/

theorem exec_faultInjection {s : State} (h : s.st ≠ stTRIPPED) (line unit : BitVec 8) : exec (.faultInjection .dbg line unit) s =
    .next (Wrote.settle (s.writeInj .dbg (unit.toNat * 256 + line.toNat)) .dbg R.DBG_INJ) := by
  obtain ⟨r, hr, hw⟩ := regAt_dbgInj
  have hg : s.writeGate .dbg R.DBG_INJ = .ok := if_pos (by simp)
  have hput := State.put_word hg rfl hr hw h (v := unit.toNat * 256 + line.toNat) (by omega)
  have hx : (BitVec.ofNat 64 (unit.toNat * 256 + line.toNat)).toNat = unit.toNat * 256 + line.toNat := by
    rw [BitVec.toNat_ofNat, Nat.mod_eq_of_lt (by omega)]
  have hreg : s.writeReg .dbg R.DBG_INJ r.fields (BitVec.ofNat 64 (unit.toNat * 256 + line.toNat)) 0xFFFFFFFF =
      s.writeInj .dbg (BitVec.ofNat 64 (unit.toNat * 256 + line.toNat)).toNat := rfl
  rw [hreg, hx] at hput
  exact congrArg Host.Outcome.next hput

theorem State.writeInj_refused {s : State} (h : s.dbgAllowed 8 ≠ true) (v : Nat) : s.writeInj .dbg v = (s, true) :=
  if_pos (.inr (Bool.eq_false_iff.2 h))

section
variable {s : State} (hd : s.dbgAllowed 8 = true) {line unit : BitVec 8}
include hd

theorem State.writeInj_takes {t : State} (ht : (s.satInc R.DBG_INJCNT_COUNT).inject line.toNat unit.toNat = some t) :
    s.writeInj .dbg (unit.toNat * 256 + line.toNat) = (t, false) := by
  have hl : (unit.toNat * 256 + line.toNat) % 256 = line.toNat := by omega
  have hu : (unit.toNat * 256 + line.toNat) / 256 % 256 = unit.toNat := by omega
  rw [State.writeInj, if_neg (by simp [hd]), hl, hu, ht]

theorem State.writeInj_unknown (ht : (s.satInc R.DBG_INJCNT_COUNT).inject line.toNat unit.toNat = none) :
    s.writeInj .dbg (unit.toNat * 256 + line.toNat) = (s, true) := by
  have hl : (unit.toNat * 256 + line.toNat) % 256 = line.toNat := by omega
  have hu : (unit.toNat * 256 + line.toNat) / 256 % 256 = unit.toNat := by omega
  rw [State.writeInj, if_neg (by simp [hd]), hl, hu, ht]

theorem exec_faultInjection_takes {t : State} (h : s.st ≠ stTRIPPED)
    (ht : (s.satInc R.DBG_INJCNT_COUNT).inject line.toNat unit.toNat = some t) : exec (.faultInjection .dbg line unit) s = .next t := by
  rw [exec_faultInjection h, State.writeInj_takes hd ht, Wrote.settle_taken]

end

/-- An injection that the debug port may not make, or that names nothing, is recorded and does nothing else. -/
theorem exec_faultInjection_refused {s : State} (h : s.st ≠ stTRIPPED) {line unit : BitVec 8}
    (hw : s.writeInj .dbg (unit.toNat * 256 + line.toNat) = (s, true)) :
    ∃ t, exec (.faultInjection .dbg line unit) s = .next t ∧ t.flag R.DEVICE_ACCERR_LOCKED_WRITE = true ∧
      (∀ o, o ≠ R.DEVICE_ACCERR → t.reg o = s.reg o) ∧ t.mem = s.mem ∧ t.cores = s.cores := by
  obtain ⟨hfab, hflag⟩ := s.discard_recorded .dbg R.DBG_INJ
  refine ⟨_, exec_faultInjection h line unit, ?_⟩
  rw [hw, Wrote.settle_discarded]
  exact ⟨hflag, hfab.reg, hfab.mem, hfab.cores⟩

theorem State.inject_trip {line unit : Nat} (h1 : 1 ≤ line) (h4 : line ≤ 4) (hu : unit < 2) (s : State) :
    s.inject line unit = some (s.trip line 0 (unit == 1)) := by
  unfold State.inject
  dsimp only
  rw [if_pos ⟨h1, h4⟩, if_pos hu]
  rfl

theorem State.inject_record {unit : Nat} (hu : unit < 8) (s : State) : s.inject 0x0F unit = some (s.satInc R.SAFETY_EVCNT_RECORD) := if_pos hu

theorem State.inject_dram {line : Nat} (h : line = 0x20 ∨ line = 0x21) (s : State) : s.inject line 0 = some
    (if isDram (64 * s.fld R.DBG_INJADDR_ADDR) then { s with ecc := SMap.set (fun _ => 0) s.ecc (s.fld R.DBG_INJADDR_ADDR) (line - 0x1F) } else s) := by
  obtain rfl | rfl := h
  · exact (apply_ite some ..).symm
  · exact (apply_ite some ..).symm

theorem State.inject_unknown {line : Nat} (h : 0x22 ≤ line) (unit : Nat) (s : State) : s.inject line unit = none := by
  unfold State.inject
  dsimp only
  iterate 13 rw [if_neg (by omega)]

theorem injCnt_not_tripRegs : R.DBG_INJCNT ∉ tripRegs := fun h => absurd h (by unfold tripRegs; decide)

theorem injCount_satInc (s : State) : (s.satInc R.DBG_INJCNT_COUNT).fld R.DBG_INJCNT_COUNT = min (s.fld R.DBG_INJCNT_COUNT + 1) (2 ^ 32 - 1) :=
  State.fld_satInc _ _ (by decide)

/-- An injected trip. -/
theorem exec_faultInjection_trip {s : State} (h : s.st ≠ stTRIPPED) (hd : s.dbgAllowed 8 = true) (harm : s.flag R.SAFETY_TRIP_TRIPPED = false)
    {line unit : BitVec 8} (h1 : 1 ≤ line.toNat) (h4 : line.toNat ≤ 4) (hu : unit.toNat < 2) :
    ∃ t, exec (.faultInjection .dbg line unit) s = .next t ∧ s.Tripped t line.toNat 0 (unit == 1) ∧
      t.fld R.DBG_INJCNT_COUNT = min (s.fld R.DBG_INJCNT_COUNT + 1) (2 ^ 32 - 1) := by
  have hunit : (unit.toNat == 1) = (unit == 1) := by
    by_cases hx : unit = 1
    · rw [hx]
      rfl
    · have hn : unit.toNat ≠ 1 := fun hn => hx (BitVec.eq_of_toNat_eq hn)
      rw [beq_eq_false_iff_ne.2 hx, beq_eq_false_iff_ne.2 hn]
  have harm' : (s.satInc R.DBG_INJCNT_COUNT).flag R.SAFETY_TRIP_TRIPPED = false :=
    (congrArg (· == 1) (State.fld_satInc_off s _ _ (by decide))).trans harm
  refine ⟨_, exec_faultInjection_takes hd h (State.inject_trip h1 h4 hu _), ?_, ?_⟩
  · rw [← hunit]
    exact State.trip_tripped harm' (by omega) (by decide) _
  · exact ((State.trip_outer ..).fld injCnt_not_tripRegs).trans (injCount_satInc s)

/-- Settles O60, access by access: the write of DBG.CTRL, the halt commands, and the injected lines one after the other. -/
theorem debugCommands : Obligations.DebugCommands := by
  refine ⟨fun v s hst hd => ?_, fun v s hd => ?_, fun c s => ⟨?_, ?_, ?_, ?_⟩, fun line unit s hst => ⟨?_, ?_, ?_, ?_, ?_⟩⟩
  · obtain ⟨hatt, hcls, hsta, hcnt, hfab⟩ := s.writeDbgCtrl_shows v
    refine ⟨_, exec_debugAttach v s, ?_⟩
    rw [State.put_dbgCtrl hst hd]
    exact ⟨hatt, hcls, hsta, hcnt, hfab.reg, hfab.mem, hfab.cores⟩
  · have hput : s.put .dbg R.DBG_CTRL 4 v.toNat = s := by
      have hg : s.writeGate .dbg R.DBG_CTRL = .gone := if_neg (by rw [hd]; decide)
      rw [State.put, State.ctlWrite, hg]
    refine ⟨_, exec_debugAttach v s, ?_⟩
    rw [hput]
    exact ⟨rfl, rfl, rfl⟩
  · rintro (hmay | hcore)
    · exact (exec_debugHalt c s).trans (congrArg _ (if_neg (by simp [hmay])))
    · exact (exec_debugHalt c s).trans (congrArg _ (if_neg (by simp [hcore])))
  · intro hmay hcore
    exact ⟨_, (exec_debugHalt c s).trans (congrArg _ (if_pos (by simp [hmay, hcore]))), s.debugHalt_shows c⟩
  · intro hno
    have hno' : ¬ ((s.dbgAllowed 5 && (s.core c).dbgHalt) = true) := by
      rcases hno with hmay | hrun
      · simp [hmay]
      · simp [hrun]
    exact ⟨(exec_debugStep c s).trans (congrArg _ (if_neg hno')), (exec_debugResume c s).trans (congrArg _ (if_neg hno'))⟩
  · intro hmay hhalt
    have hyes : (s.dbgAllowed 5 && (s.core c).dbgHalt) = true := by simp [hmay, hhalt]
    exact ⟨(exec_debugStep c s).trans (congrArg _ (if_pos hyes)),
      _, (exec_debugResume c s).trans (congrArg _ (if_pos hyes)), s.debugRelease_shows c⟩
  · intro hmay
    exact exec_faultInjection_refused hst (State.writeInj_refused hmay _)
  · intro hmay harm h1 h4 hu
    exact exec_faultInjection_trip hst hmay harm h1 h4 hu
  · rintro hmay rfl hu
    refine ⟨_, exec_faultInjection_takes hmay hst (State.inject_record hu _), ?_, ?_, rfl, rfl⟩
    · exact (State.fld_satInc_off _ _ _ (by decide)).trans (injCount_satInc s)
    · rw [State.fld_satInc _ _ (by decide), State.fld_satInc_off _ _ _ (by decide)]
      rfl
  · rintro hmay hline rfl
    have hnat : line.toNat = 0x20 ∨ line.toNat = 0x21 := hline.imp (congrArg BitVec.toNat) (congrArg BitVec.toNat)
    have hadr : (s.satInc R.DBG_INJCNT_COUNT).fld R.DBG_INJADDR_ADDR = s.fld R.DBG_INJADDR_ADDR := State.fld_satInc_off _ _ _ (by decide)
    refine ⟨_, exec_faultInjection_takes hmay hst (State.inject_dram hnat _), ?_⟩
    rw [hadr]
    by_cases hin : isDram (64 * s.fld R.DBG_INJADDR_ADDR) = true
    · rw [if_pos hin]
      refine ⟨injCount_satInc s, rfl, rfl, fun _ => ?_, fun x hx => ?_⟩
      · exact (SMap.get_set ..).trans (if_pos rfl)
      · exact (SMap.get_set ..).trans (if_neg hx)
    · rw [if_neg hin]
      exact ⟨injCount_satInc s, rfl, rfl, fun h => absurd h hin, fun x _ => rfl⟩
  · intro hmay hline
    exact exec_faultInjection_refused hst (State.writeInj_unknown hmay (State.inject_unknown hline ..))

/-! ### BELL.XLOG (R456) -/

theorem State.xlog_regFab (s : State) (tenant : Bool) (dev core ctx dcore dctx kind target : Nat) :
    State.RegFab {R.BELL_XLOG} s (s.xlog tenant dev core ctx dcore dctx kind target) := by
  have hset (u : State) {f : Fld} (hf : f.off = R.BELL_XLOG) (v : Nat) : State.RegFab {R.BELL_XLOG} u (u.setFld f v) := State.RegFab.setFld u v hf
  unfold State.xlog
  by_cases h : s.flag R.BELL_XLOG_VALID = true
  · rw [if_pos h]
    exact State.RegFab.satInc s rfl
  · rw [if_neg h]
    exact (((((((((hset s rfl _).trans (hset _ rfl _)).trans (hset _ rfl _)).trans (hset _ rfl _)).trans (hset _ rfl _)).trans
      (hset _ rfl _)).trans (hset _ rfl _)).trans (hset _ rfl _)).trans (hset _ rfl _)).trans (hset _ rfl _)

/-- The log stays valid once something stands in it. -/
theorem State.xlog_valid (s : State) (tenant : Bool) (dev core ctx dcore dctx kind target : Nat) :
    (s.xlog tenant dev core ctx dcore dctx kind target).flag R.BELL_XLOG_VALID = true := by
  unfold State.xlog
  by_cases h : s.flag R.BELL_XLOG_VALID = true
  · rw [if_pos h]
    exact (congrArg (· == 1) (State.fld_setFld_apart s R.BELL_XLOG_COUNT R.BELL_XLOG_VALID _ rfl rfl)).trans h
  · rw [if_neg h]
    unfold State.flag
    simp (disch := decide) only [State.fld_setFld_apart, State.fld_setFld_here]
    rfl

/-- What an empty log takes. -/
theorem State.xlog_first {s : State} (h : s.flag R.BELL_XLOG_VALID = false) (tenant : Bool) (dev core ctx dcore dctx kind target : Nat) :
    let t := s.xlog tenant dev core ctx dcore dctx kind target
    t.flag R.BELL_XLOG_TENANT = tenant ∧ t.fld R.BELL_XLOG_COUNT = 1 ∧ t.fld R.BELL_XLOG_SRCDEV = dev % 16 ∧ t.fld R.BELL_XLOG_SRCCORE = core % 16 ∧
      t.fld R.BELL_XLOG_DSTCORE = dcore % 16 ∧ t.fld R.BELL_XLOG_DSTCTX = dctx % 4 ∧ t.fld R.BELL_XLOG_KIND = kind % 256 ∧
      t.fld R.BELL_XLOG_TARGET = target % 2 ^ 16 := by
  intro t
  have ht : t = _ := if_neg (by rw [h]; decide)
  rw [ht]
  unfold State.flag
  refine ⟨?_, ?_, ?_, ?_, ?_, ?_, ?_, ?_⟩
  all_goals simp (disch := decide) only [State.fld_setFld_apart, State.fld_setFld_here]
  · cases tenant <;> rfl
  all_goals rfl

/-! ### Requests over Nimlink (R160, R662, R663, R675) -/

/-- A request served. -/
def State.replied (r : State × MStat × List Byte) : State := { r.1 with nim := { r.1.nim with reply := some (r.2.1, r.2.2) } }

/-- Whether a request waits for the key of its region (R173). -/
def State.remoteWaits (s : State) (q : RemoteReq) : Bool :=
  match viewLocal q.off.toNat with
  | some l => (match locLocal s l with
    | .mem pa => s.keyWait pa
    | _ => false)
  | none => false

theorem exec_remoteRequest (q : RemoteReq) (s : State) : exec (.remoteRequest q) s =
    .next (if !s.nimOn || s.st == stTRIPPED || !s.flag (R.NIM_MEMBER_STATE_PRESENT q.dev) then s else
      if s.remoteWaits q && q.tenant && q.epoch.toNat == s.fld R.DEVICE_STATE_DEV_EPOCH then s else State.replied (s.serveRemote q)) := rfl

/-- When the device serves a sender. -/
def State.ServesRemote (s : State) (q : RemoteReq) : Prop :=
  s.nimOn = true ∧ s.st ≠ stTRIPPED ∧ s.flag (R.NIM_MEMBER_STATE_PRESENT q.dev) = true

theorem State.unserved_iff (s : State) (q : RemoteReq) :
    (!s.nimOn || s.st == stTRIPPED || !s.flag (R.NIM_MEMBER_STATE_PRESENT q.dev)) = true ↔ ¬ s.ServesRemote q := by
  unfold State.ServesRemote
  cases s.nimOn <;> cases s.flag (R.NIM_MEMBER_STATE_PRESENT q.dev) <;> simp

theorem exec_remoteRequest_unserved {q : RemoteReq} {s : State} (h : ¬ s.ServesRemote q) : exec (.remoteRequest q) s = .next s := by
  rw [exec_remoteRequest, if_pos ((s.unserved_iff q).2 h)]

theorem exec_remoteRequest_served {q : RemoteReq} {s : State} (h : s.ServesRemote q)
    (hw : (s.remoteWaits q && q.tenant && q.epoch.toNat == s.fld R.DEVICE_STATE_DEV_EPOCH) = false) :
    exec (.remoteRequest q) s = .next (State.replied (s.serveRemote q)) := by
  rw [exec_remoteRequest, if_neg fun hu => (s.unserved_iff q).1 hu h, if_neg (Bool.eq_false_iff.1 hw)]

theorem exec_remoteRequest_stale {q : RemoteReq} {s : State} (h : s.ServesRemote q) (he : q.epoch.toNat ≠ s.fld R.DEVICE_STATE_DEV_EPOCH) :
    exec (.remoteRequest q) s = .next (State.replied (s, .epochChanged, [])) := by
  have hserve : s.serveRemote q = (s, .epochChanged, []) := if_pos he
  rw [exec_remoteRequest_served h (by simp [he]), hserve]

/-- A request of another tenant's device meets FENCE and is logged. -/
theorem exec_remoteRequest_foreign {q : RemoteReq} {s : State} (h : s.ServesRemote q) (he : q.epoch.toNat = s.fld R.DEVICE_STATE_DEV_EPOCH)
    (ht : q.tenant = false) : ∃ t, exec (.remoteRequest q) s = .next t ∧ t.nim.reply = some (.fence, []) ∧ t.mem = s.mem ∧
      t.flag R.BELL_XLOG_VALID = true ∧
      (s.flag R.BELL_XLOG_VALID = false → t.flag R.BELL_XLOG_TENANT = true ∧ t.fld R.BELL_XLOG_SRCDEV = q.dev.val) := by
  obtain ⟨core, ctx, dcore, dctx, kind, target, hserve⟩ : ∃ core ctx dcore dctx kind target,
      s.serveRemote q = (s.draw.2.xlog true q.dev core ctx dcore dctx kind target, .fence, []) := by
    unfold State.serveRemote
    rw [if_neg (by simp [he]), ht]
    exact ⟨_, _, _, _, _, _, rfl⟩
  refine ⟨_, exec_remoteRequest_served h (by simp [ht]), ?_⟩
  rw [hserve]
  refine ⟨rfl, (State.xlog_regFab ..).mem, State.xlog_valid .., fun hv => ?_⟩
  obtain ⟨htenant, -, hdev, -⟩ := State.xlog_first (s := s.draw.2) hv true q.dev core ctx dcore dctx kind target
  exact ⟨htenant, hdev.trans (Nat.mod_eq_of_lt q.dev.isLt)⟩

/-- A request of this tenant and epoch, by where its offset leads. -/
theorem State.serveRemote_own {q : RemoteReq} {s : State} (he : q.epoch.toNat = s.fld R.DEVICE_STATE_DEV_EPOCH) (ht : q.tenant = true) :
    s.serveRemote q = (match viewLocal q.off.toNat with
      | none => (s, .addrDecode, [])
      | some l =>
        match locLocal s l with
        | .mem pa => s.remoteMem q pa
        | .ctl off =>
          if q.write then (s, .fence, [])
          else
            let r := s.ctlRead .nim off q.len
            (r.1, r.2.1, if r.2.1 = .ok then leBytes q.len r.2.2 else [])
        | _ => (s, .addrDecode, [])) := by
  unfold State.serveRemote
  rw [if_neg (by simp [he]), ht]
  rfl

theorem State.remoteMem_read {q : RemoteReq} {s : State} {pa : Nat} (hp : s.Plain q.cls q.write pa) (hw : q.write = false) (hn : 0 < q.len) :
    s.remoteMem q pa = (s, .ok, s.bytes pa q.len) := by
  unfold State.remoteMem
  rw [State.checkMem_plain hp, hw]
  exact if_neg (Nat.pos_iff_ne_zero.1 hn)

theorem State.remoteMem_write {q : RemoteReq} {s : State} {pa : Nat} (hp : s.Plain q.cls q.write pa) (hw : q.write = true) (hd : q.data ≠ []) :
    s.remoteMem q pa = (s.putMem pa q.data, .ok, []) := by
  unfold State.remoteMem
  rw [State.checkMem_plain hp, hw]
  exact if_neg fun hn => hd (List.length_eq_zero_iff.1 hn)

/-- Settles O52, by the checks of R662, R663 and R675 in the order in which they are made, then by where the offset leads. -/
theorem remoteRequests : Obligations.RemoteRequests := by
  refine fun q s => ⟨exec_remoteRequest_unserved, fun hserved => ⟨exec_remoteRequest_stale hserved, exec_remoteRequest_foreign hserved,
    fun he ht => ⟨fun hnone => ?_, fun l hl => ⟨fun off hctl hw => ?_, fun pa hmem hplain => ?_⟩⟩⟩⟩
  · have hwaits : s.remoteWaits q = false := by rw [State.remoteWaits, hnone]
    rw [exec_remoteRequest_served hserved (by simp [hwaits]), State.serveRemote_own he ht, hnone]
    rfl
  · have hwaits : s.remoteWaits q = false := by
      rw [State.remoteWaits, hl]
      dsimp only
      rw [hctl]
    rw [exec_remoteRequest_served hserved (by simp [hwaits]), State.serveRemote_own he ht, hl]
    dsimp only
    rw [hctl]
    dsimp only
    rw [if_pos hw]
    rfl
  · have hwaits : s.remoteWaits q = false := by
      obtain ⟨-, hkey, -⟩ := hplain
      rw [State.remoteWaits, hl]
      dsimp only
      rw [hmem]
      exact hkey
    have hexec : exec (.remoteRequest q) s = .next (State.replied (s.remoteMem q pa)) := by
      rw [exec_remoteRequest_served hserved (by simp [hwaits]), State.serveRemote_own he ht, hl]
      dsimp only
      rw [hmem]
    refine ⟨fun hw hn => ?_, fun hw hd => ⟨_, hexec, ?_⟩⟩
    · rw [hexec, State.remoteMem_read hplain hw hn]
      rfl
    · rw [State.remoteMem_write hplain hw hd]
      have hbyte (x : Nat) : (State.replied (s.putMem pa q.data, .ok, [])).byte x = (s.putMem pa q.data).byte x := rfl
      refine ⟨rfl, fun j hj => ?_, State.putMem_regs s pa q.data, fun a ha => ?_⟩
      · rw [hbyte, State.byte_putMem, if_pos ⟨by omega, by omega⟩, Nat.add_sub_cancel_left]
      · rw [hbyte, State.byte_putMem, if_neg (by omega)]

end Sys2Proof.Machine
end

section
-- One proof after another: what waits for another costs the check memory.
set_option Elab.async false
/-! SUPPORT. The random source and the SPDM responder (O53). -/
namespace Sys2Proof.Machine

/-! ### The random source (R118, R707–R709) -/

theorem State.RegFab.keep {O : Set Nat} {s t : State} (h : State.RegFab O s t) : t.keep = s.keep := by obtain ⟨⟨_, _, _, rfl⟩, -⟩ := h; rfl

/-- The state with a seed taken: the source ready, nothing asked of it yet. -/
def State.seedTaken (s : State) : State :=
  { s with keep := { s.keep with rng := true, seeded := true, reqs := 0, seedAt := s.tb2, failAt := none } }.setFld R.KEEP_STATUS_RNG_READY 1

/-- The first vectors drawn, where the device waits for them. -/
def State.drawReady (s : State) : State := if s.st = stREADY then s.drawFirst else s

/-- Step 5 of start-up. -/
def State.bootSeeded (s : State) : State := if s.st = stBOOT ∧ s.fld R.DEVICE_BOOTSTAT_STEP < 5 then s.setFld R.DEVICE_BOOTSTAT_STEP 5 else s

/-- The DRAM keys made, unless they are there or a scrub goes on. -/
def State.makeKeys (s : State) : State :=
  if s.fld R.KEEP_STATUS_KEYSLOTS = 0 ∧ s.flag R.KEEP_STATUS_SCRUBBING = false then s.setFld R.KEEP_STATUS_KEYSLOTS 0xF else s

theorem exec_rngSeed {s : State} (h : s.keepUp = true) : exec .rngSeed s = .next (s.seedTaken.drawReady.bootSeeded.makeKeys) := by
  have hexec : exec .rngSeed s = execRngSeed s := rfl
  rw [hexec]
  exact congrArg Host.Outcome.next (if_neg (by rw [h]; decide))

theorem State.drawReady_draws (s : State) : s.Draws s.drawReady := by
  unfold State.drawReady
  split_ifs
  · exact s.drawFirst_draws
  · exact State.Draws.refl s

theorem State.Draws.keep {s t : State} (h : s.Draws t) : ∃ reqs, t.keep = { s.keep with reqs := reqs } := by
  obtain ⟨⟨_, _, reqs, _, rfl⟩, -⟩ := h
  exact ⟨reqs, rfl⟩

theorem State.bootSeeded_regFab (s : State) : State.RegFab {R.DEVICE_BOOTSTAT} s s.bootSeeded := by
  unfold State.bootSeeded
  split_ifs
  · exact State.RegFab.setFld s _ rfl
  · exact State.RegFab.refl _ s

theorem State.bootSeeded_step {s : State} (h : s.st = stBOOT) : s.bootSeeded.fld R.DEVICE_BOOTSTAT_STEP = max 5 (s.fld R.DEVICE_BOOTSTAT_STEP) := by
  unfold State.bootSeeded
  by_cases hs : s.fld R.DEVICE_BOOTSTAT_STEP < 5
  · rw [if_pos ⟨h, hs⟩, State.fld_setFld_here _ _ _ rfl, max_eq_left (by omega)]
    rfl
  · rw [if_neg (fun hn => hs hn.2), max_eq_right (by omega)]

theorem State.makeKeys_regFab (s : State) : State.RegFab {R.KEEP_STATUS} s s.makeKeys := by
  unfold State.makeKeys
  split_ifs
  · exact State.RegFab.setFld s _ rfl
  · exact State.RegFab.refl _ s

theorem State.makeKeys_shows (s : State) : s.makeKeys.flag R.KEEP_STATUS_RNG_READY = s.flag R.KEEP_STATUS_RNG_READY ∧
    s.makeKeys.fld R.KEEP_STATUS_KEYSLOTS = (if s.fld R.KEEP_STATUS_KEYSLOTS = 0 ∧ s.flag R.KEEP_STATUS_SCRUBBING = false then 15
      else s.fld R.KEEP_STATUS_KEYSLOTS) := by
  unfold State.makeKeys
  split_ifs
  · exact ⟨congrArg (· == 1) (State.fld_setFld_apart _ _ _ _ rfl rfl), State.fld_setFld_here _ _ _ rfl⟩
  · exact ⟨rfl, rfl⟩

theorem State.seedTaken_shows (s : State) : s.seedTaken.flag R.KEEP_STATUS_RNG_READY = true ∧
    s.seedTaken.flag R.KEEP_STATUS_SCRUBBING = s.flag R.KEEP_STATUS_SCRUBBING ∧
    s.seedTaken.fld R.KEEP_STATUS_KEYSLOTS = s.fld R.KEEP_STATUS_KEYSLOTS ∧ (∀ g : Fld, g.off ≠ R.KEEP_STATUS → s.seedTaken.fld g = s.fld g) :=
  ⟨congrArg (· == 1) (State.fld_setFld_here _ R.KEEP_STATUS_RNG_READY 1 rfl),
    congrArg (· == 1) (State.fld_setFld_apart _ R.KEEP_STATUS_RNG_READY R.KEEP_STATUS_SCRUBBING 1 rfl rfl),
    State.fld_setFld_apart _ R.KEEP_STATUS_RNG_READY R.KEEP_STATUS_KEYSLOTS 1 rfl rfl, fun _ hg => State.fld_setFld_off _ _ _ _ hg⟩

theorem exec_rngSeed_shows {s : State} (h : s.keepUp = true) : ∃ t, exec .rngSeed s = .next t ∧ t.keep.rng = true ∧
    t.flag R.KEEP_STATUS_RNG_READY = true ∧ t.keep.seeded = true ∧ (s.st ≠ stREADY → t.keep.reqs = 0) ∧
    (s.st = stBOOT → t.fld R.DEVICE_BOOTSTAT_STEP = max 5 (s.fld R.DEVICE_BOOTSTAT_STEP)) ∧
    t.keep.seedAt = s.tb2 ∧ t.keep.failAt = none ∧ t.mem = s.mem ∧
    t.fld R.KEEP_STATUS_KEYSLOTS = (if s.fld R.KEEP_STATUS_KEYSLOTS = 0 ∧ s.flag R.KEEP_STATUS_SCRUBBING = false then 15
      else s.fld R.KEEP_STATUS_KEYSLOTS) := by
  obtain ⟨hready, hscrub, hslots, hfld⟩ := s.seedTaken_shows
  have hst : s.seedTaken.st = s.st := hfld _ (by decide)
  have hdraw := s.seedTaken.drawReady_draws
  obtain ⟨reqs, hkeep⟩ := hdraw.keep
  have hboot := s.seedTaken.drawReady.bootSeeded_regFab
  have hkeys := s.seedTaken.drawReady.bootSeeded.makeKeys_regFab
  obtain ⟨hkready, hkslots⟩ := s.seedTaken.drawReady.bootSeeded.makeKeys_shows
  have hk : s.seedTaken.drawReady.bootSeeded.makeKeys.keep = { s.seedTaken.keep with reqs := reqs } := (hkeys.keep.trans hboot.keep).trans hkeep
  have hstep : R.KEEP_STATUS ∉ ({R.DEVICE_BOOTSTAT} : Set Nat) := by decide
  have hmid (g : Fld) (hg : g.off = R.KEEP_STATUS) : s.seedTaken.drawReady.bootSeeded.fld g = s.seedTaken.fld g :=
    (hboot.fld (by rw [hg]; exact hstep)).trans (hdraw.fld (by rw [hg]; decide))
  refine ⟨_, exec_rngSeed h, ?_, ?_, ?_, ?_, ?_, ?_, ?_, ?_, ?_⟩
  · rw [hk]
    rfl
  · exact hkready.trans ((congrArg (· == 1) (hmid _ rfl)).trans hready)
  · rw [hk]
    rfl
  · intro hn
    have hsame : s.seedTaken.drawReady = s.seedTaken := if_neg (by rw [hst]; exact hn)
    rw [hkeys.keep, hboot.keep, hsame]
    rfl
  · intro hb
    rw [hkeys.fld (by decide), State.bootSeeded_step (hdraw.st.trans (hst.trans hb)), hdraw.fld (by decide), hfld _ (by decide)]
  · rw [hk]
    rfl
  · rw [hk]
    rfl
  · rw [hkeys.mem, hboot.mem, hdraw.mem, State.seedTaken, State.setFld_mem]
  · rw [hkslots, State.flag, hmid _ rfl, hmid _ rfl, hslots]
    exact if_congr (and_congr_right fun _ => Eq.congr hscrub rfl) rfl rfl

/-- The count of a health test that fails. -/
def healthFld (apt : Bool) : Fld := if apt then R.KEEP_RNGSTAT_APT_FAIL else R.KEEP_RNGSTAT_RCT_FAIL

theorem exec_rngHealthFail_shows {s : State} (h : s.keepUp = true) (apt : Bool) :
    ∃ t, exec (.rngHealthFail apt) s = .next t ∧ t.keep.rng = false ∧ t.keep.failAt = some (s.keep.failAt.getD s.tb2) ∧
      t.fld (healthFld apt) = min (s.fld (healthFld apt) + 1) (2 ^ 16 - 1) ∧ t.fld R.KEEP_STATUS_KEYSLOTS = s.fld R.KEEP_STATUS_KEYSLOTS := by
  have hexec : exec (.rngHealthFail apt) s = .next (if !s.keepUp then s else { s.satInc (healthFld apt) with
    keep := { (s.satInc (healthFld apt)).keep with rng := false, failAt := some ((s.satInc (healthFld apt)).keep.failAt.getD
      (s.satInc (healthFld apt)).tb2) } }) := rfl
  have hoff : (healthFld apt).off = R.KEEP_RNGSTAT ∧ (healthFld apt).w = 16 ∧ (healthFld apt).lo + (healthFld apt).w ≤ 64 := by cases apt <;> decide
  obtain ⟨hreg, hw, hle⟩ := hoff
  rw [h] at hexec
  have hcount := State.fld_satInc s (healthFld apt) hle
  rw [hw] at hcount
  exact ⟨_, hexec, rfl, rfl, hcount, State.fld_satInc_off s _ _ (by rw [hreg]; decide)⟩

theorem exec_rngFailTimeout (s : State) : exec .rngFailTimeout s = .next (match s.keep.failAt with
    | some t => if s.keepUp && t + 10000000 ≤ s.tb2 then s.setFld R.KEEP_STATUS_RNG_FAIL 1 else s
    | none => s) := rfl

theorem exec_drbgReseed (s : State) : exec .drbgReseed s =
    .next (if s.keepUp && s.keep.rng && (1048576 ≤ s.keep.reqs || s.keep.seedAt + 1000000000 ≤ s.tb2) then
      { s with keep := { s.keep with reqs := 0, seedAt := s.tb2 } }.wrapInc R.KEEP_RNGSTAT_RESEEDS else s) := rfl

theorem exec_rngFailTimeout_due {s : State} (h : s.keepUp = true) :
    ((∃ t, s.keep.failAt = some t ∧ t + 10000000 ≤ s.tb2) →
      ∃ t, exec .rngFailTimeout s = .next t ∧ t.flag R.KEEP_STATUS_RNG_FAIL = true ∧ t.keep = s.keep) ∧
    (¬ (∃ t, s.keep.failAt = some t ∧ t + 10000000 ≤ s.tb2) → exec .rngFailTimeout s = .next s) := by
  rw [exec_rngFailTimeout]
  constructor
  · rintro ⟨t, hfail, hdue⟩
    rw [hfail]
    refine ⟨s.setFld R.KEEP_STATUS_RNG_FAIL 1, congrArg Host.Outcome.next (if_pos (by simp [h, hdue])), ?_, State.setFld_keep ..⟩
    exact congrArg (· == 1) (State.fld_setFld_here _ R.KEEP_STATUS_RNG_FAIL 1 rfl)
  · intro hno
    cases hfail : s.keep.failAt with
    | none => rfl
    | some t => exact congrArg Host.Outcome.next (if_neg (by simpa [h] using fun hdue => hno ⟨t, hfail, hdue⟩))

theorem exec_drbgReseed_due {s : State} (h : s.keepUp = true) :
    ((s.keep.rng = true ∧ (2 ^ 20 ≤ s.keep.reqs ∨ s.keep.seedAt + 1000000000 ≤ s.tb2)) →
      ∃ t, exec .drbgReseed s = .next t ∧ t.keep.reqs = 0 ∧ t.keep.seedAt = s.tb2 ∧
        t.fld R.KEEP_RNGSTAT_RESEEDS = (s.fld R.KEEP_RNGSTAT_RESEEDS + 1) % 2 ^ 16) ∧
    (¬ (s.keep.rng = true ∧ (2 ^ 20 ≤ s.keep.reqs ∨ s.keep.seedAt + 1000000000 ≤ s.tb2)) → exec .drbgReseed s = .next s) := by
  have hiff : (s.keepUp && s.keep.rng && (1048576 ≤ s.keep.reqs || s.keep.seedAt + 1000000000 ≤ s.tb2)) = true ↔
      s.keep.rng = true ∧ (2 ^ 20 ≤ s.keep.reqs ∨ s.keep.seedAt + 1000000000 ≤ s.tb2) := by simp [h]
  rw [exec_drbgReseed]
  refine ⟨fun hdue => ⟨_, congrArg Host.Outcome.next (if_pos (hiff.2 hdue)), rfl, rfl, ?_⟩,
    fun hno => congrArg Host.Outcome.next (if_neg fun hd => hno (hiff.1 hd))⟩
  exact State.fld_setFld_here _ R.KEEP_RNGSTAT_RESEEDS _ rfl

/-! ### One entry of a list -/

theorem map_update_mid {α : Type} [DecidableEq α] {l r : List α} {x : α} (hl : x ∉ l) (hr : x ∉ r) (g : α → α) :
    (l ++ x :: r).map (fun y => if y = x then g y else y) = l ++ g x :: r := by
  have hid (m : List α) (hm : x ∉ m) : m.map (fun y => if y = x then g y else y) = m := by
    refine (List.map_congr_left fun y hy => if_neg fun (h : y = x) => hm (h ▸ hy)).trans (List.map_id m)
  rw [List.map_append, List.map_cons, hid l hl, hid r hr, if_pos rfl]

theorem filter_ne_mid {α : Type} [DecidableEq α] {l r : List α} {x : α} (hl : x ∉ l) (hr : x ∉ r) :
    (l ++ x :: r).filter (fun y => y ≠ x) = l ++ r := by
  have hid (m : List α) (hm : x ∉ m) : m.filter (fun y => y ≠ x) = m :=
    List.filter_eq_self.2 fun y hy => by simpa using fun (h : y = x) => hm (h ▸ hy)
  rw [List.filter_append, List.filter_cons_of_neg (by simp), hid l hl, hid r hr]

/-! ### The SPDM responder (R691, R692) -/

/-- A request is answered, and nothing but the mailbox changes. -/
def State.Answers (s : State) (p : Fin 2) (c : Instr) (a : SpdmAns) : Prop :=
  ∃ t, exec c s = .next t ∧ SMap.get (fun _ => .silent) t.keep.doe p = a ∧
    t.regs = s.regs ∧ t.keep.sessions = s.keep.sessions ∧ t.nego p = s.nego p ∧ t.mem = s.mem

theorem State.said_answer (s : State) (p : Nat) (a : SpdmAns) : SMap.get (fun _ => .silent) (s.answer p a).keep.doe p = a :=
  (SMap.get_set ..).trans (if_pos rfl)

theorem State.answer_sessions (s : State) (p : Nat) (a : SpdmAns) : (s.answer p a).keep.sessions = s.keep.sessions := rfl
theorem State.answer_mem (s : State) (p : Nat) (a : SpdmAns) : (s.answer p a).mem = s.mem := rfl
theorem State.fld_answer (s : State) (p : Nat) (a : SpdmAns) (g : Fld) : (s.answer p a).fld g = s.fld g := rfl
theorem State.flag_answer (s : State) (p : Nat) (a : SpdmAns) (g : Fld) : (s.answer p a).flag g = s.flag g := rfl
theorem State.nego_answer (s : State) (p q : Nat) (a : SpdmAns) : (s.answer p a).nego q = s.nego q := rfl

theorem State.nego_setNego (s : State) (p n : Nat) : (s.setNego p n).nego p = n := (SMap.get_set ..).trans (if_pos rfl)

theorem State.answers_of {s : State} {p : Fin 2} {c : Instr} {a : SpdmAns} (h : exec c s = .next (s.answer p a)) : s.Answers p c a :=
  ⟨_, h, s.said_answer p a, rfl, rfl, rfl, rfl⟩

theorem State.spdm_down {s : State} {p : Nat} (h : s.spdmUp p = false) (need : Nat) (g : State → State) :
    s.spdm p need g = .next (s.answer p .silent) := by
  unfold State.spdm
  rw [if_pos (by simp [h])]

theorem State.spdm_early {s : State} {p : Nat} (h : s.spdmUp p = true) {need : Nat} (hn : s.nego p < need) (g : State → State) :
    s.spdm p need g = .next (s.answer p .errOther) := by
  unfold State.spdm
  rw [if_neg (by simp [h]), if_pos hn]

theorem State.spdm_ready {s : State} {p : Nat} (h : s.spdmUp p = true) {need : Nat} (hn : need ≤ s.nego p) (g : State → State) :
    s.spdm p need g = .next (g s) := by
  unfold State.spdm
  rw [if_neg (by simp [h]), if_neg (by omega)]

/-- The requests inside a session. -/
noncomputable def spdmInside (p : Fin 2) (sid : BitVec 32) (stream : Fin 5) (ks : Fin 2) : List Instr :=
  [.endSession p sid, .heartbeat p sid, .keyUpdate p sid, .ideKmQuery p sid, .kSetGo p sid stream ks, .kSetStop p sid stream ks]

/-- The requests that follow the negotiation. -/
noncomputable def spdmLater (p : Fin 2) (sid : BitVec 32) (stream : Fin 5) (ks : Fin 2) : List Instr :=
  [.getDigests p, .keyExchange p sid, .finish p sid true, .finish p sid false] ++ spdmInside p sid stream ks ++
    (List.finRange 8).flatMap (fun x => [.getCertificate p x, .challenge p x]) ++
    (List.finRange 256).map (fun x => .getMeasurements p (BitVec.ofFin x))

theorem spdmInside_eq {p : Fin 2} {sid : BitVec 32} {stream : Fin 5} {ks : Fin 2} : ∀ c ∈ spdmInside p sid stream ks, ∃ g : State → Spdm → State,
    ∀ s, exec c s = s.inSession p sid g := by
  simp only [spdmInside, List.forall_mem_cons, List.not_mem_nil, false_imp_iff, implies_true, and_true]
  exact ⟨⟨_, fun _ => rfl⟩, ⟨_, fun _ => rfl⟩, ⟨_, fun _ => rfl⟩, ⟨_, fun _ => rfl⟩, ⟨_, fun _ => rfl⟩, ⟨_, fun _ => rfl⟩⟩

theorem spdmLater_eq {p : Fin 2} {sid : BitVec 32} {stream : Fin 5} {ks : Fin 2} : ∀ c ∈ spdmLater p sid stream ks, ∃ g : State → State,
    ∀ s, exec c s = s.spdm p 3 g := by
  intro c hc
  obtain ((hc | hc) | hc) | hc : ((c ∈ [Instr.getDigests p, .keyExchange p sid, .finish p sid true, .finish p sid false] ∨
      c ∈ spdmInside p sid stream ks) ∨ c ∈ (List.finRange 8).flatMap (fun x => [Instr.getCertificate p x, .challenge p x])) ∨
      c ∈ (List.finRange 256).map (fun x => Instr.getMeasurements p (BitVec.ofFin x)) := by
    simpa only [spdmLater, List.mem_append] using hc
  · simp only [List.mem_cons, List.not_mem_nil, or_false] at hc
    obtain rfl | rfl | rfl | rfl := hc <;> exact ⟨_, fun _ => rfl⟩
  · obtain ⟨g, hg⟩ := spdmInside_eq c hc
    exact ⟨_, hg⟩
  · obtain ⟨x, -, hx⟩ := List.mem_flatMap.1 hc
    simp only [List.mem_cons, List.not_mem_nil, or_false] at hx
    obtain rfl | rfl := hx <;> exact ⟨_, fun _ => rfl⟩
  · obtain ⟨x, -, rfl⟩ := List.mem_map.1 hc
    exact ⟨fun s => s.answer p (.measurements (s.report (BitVec.ofFin x).toNat)), fun _ => rfl⟩

/-! ### Sessions (R691, R695, R697) -/

theorem State.iter_two (s : State) (g : Nat → State → State) : s.iter 2 g = g 1 (g 0 s) := rfl

/-- The IDE bit of a port set as the sessions say. -/
def setIdeBit (l : List Spdm) (p : Nat) (s : State) : State :=
  s.setFld (R.PCIE_P_PORTSTAT_IDE p) (if l.any (fun (x : Spdm) => x.port == p && !x.ide.isEmpty) then 1 else 0)
theorem State.setSessions_eq (s : State) (l : List Spdm) : s.setSessions l =
    setIdeBit l 1 (setIdeBit l 0 ({ s with keep := { s.keep with sessions := l } }.setFld R.KEEP_STATUS_SESSIONS l.length)) := by
  unfold State.setSessions
  exact State.iter_two _ (setIdeBit l)

theorem setIdeBit_flag (s : State) (l : List Spdm) (p : Nat) :
    (setIdeBit l p s).flag (R.PCIE_P_PORTSTAT_IDE p) = l.any (fun (x : Spdm) => x.port == p && !x.ide.isEmpty) := by
  have hbool (b : Bool) : ((if b = true then 1 else 0 : Nat) % 2 ^ 1 == 1) = b := by cases b <;> rfl
  exact (congrArg (· == 1) (State.fld_setFld_here s (R.PCIE_P_PORTSTAT_IDE p) _ rfl)).trans (hbool _)

theorem setIdeBit_off (s : State) (l : List Spdm) (p : Nat) {g : Fld} (h : g.off ≠ R.PCIE_P_PORTSTAT p) : (setIdeBit l p s).fld g = s.fld g :=
  State.fld_setFld_off _ _ _ _ h

theorem setIdeBit_keep (s : State) (l : List Spdm) (p : Nat) : (setIdeBit l p s).keep = s.keep := State.setFld_keep ..
theorem setIdeBit_mem (s : State) (l : List Spdm) (p : Nat) : (setIdeBit l p s).mem = s.mem := State.setFld_mem ..

theorem State.setSessions_shows (s : State) (l : List Spdm) : (s.setSessions l).keep.sessions = l ∧ (s.setSessions l).mem = s.mem ∧
    (s.setSessions l).fld R.KEEP_STATUS_SESSIONS = l.length % 32 ∧
    ∀ p : Fin 2, (s.setSessions l).flag (R.PCIE_P_PORTSTAT_IDE p) = l.any (fun (x : Spdm) => x.port == p.val && !x.ide.isEmpty) := by
  have h0 : R.KEEP_STATUS ≠ R.PCIE_P_PORTSTAT 0 := by decide
  have h1 : R.KEEP_STATUS ≠ R.PCIE_P_PORTSTAT 1 := by decide
  have h01 : R.PCIE_P_PORTSTAT 0 ≠ R.PCIE_P_PORTSTAT 1 := by decide
  have hcount (u : State) (n : Nat) : (u.setFld R.KEEP_STATUS_SESSIONS n).fld R.KEEP_STATUS_SESSIONS = n % 32 := State.fld_setFld_here _ _ _ rfl
  rw [State.setSessions_eq]
  refine ⟨?_, ?_, ?_, fun p => ?_⟩
  · rw [setIdeBit_keep, setIdeBit_keep, State.setFld_keep]
  · rw [setIdeBit_mem, setIdeBit_mem, State.setFld_mem]
  · rw [setIdeBit_off _ _ _ h1, setIdeBit_off _ _ _ h0, hcount]
  · fin_cases p
    · exact (congrArg (· == 1) (setIdeBit_off _ l 1 h01)).trans (setIdeBit_flag _ l 0)
    · exact setIdeBit_flag _ l 1

theorem portstat_apart (p : Fin 2) : R.KEEP_STATUS ≠ R.PCIE_P_PORTSTAT p := by fin_cases p <;> decide

theorem State.dropSessions_shows (s : State) (p : Fin 2) : (s.dropSessions p).keep.sessions = s.keep.sessions.filter (fun x => x.port ≠ p.val) ∧
    (s.dropSessions p).mem = s.mem ∧
    (s.dropSessions p).fld R.KEEP_STATUS_SESSIONS = (s.keep.sessions.filter (fun x => x.port ≠ p.val)).length % 32 ∧
    (s.dropSessions p).fld (R.PCIE_P_PORTSTAT_IDE p) = 0 := by
  have hcount (u : State) (n : Nat) : (u.setFld R.KEEP_STATUS_SESSIONS n).fld R.KEEP_STATUS_SESSIONS = n % 32 := State.fld_setFld_here _ _ _ rfl
  unfold State.dropSessions
  dsimp only
  refine ⟨?_, ?_, ?_, ?_⟩
  · rw [State.setFld_keep, State.setFld_keep]
  · rw [State.setFld_mem, State.setFld_mem]
  · rw [State.fld_setFld_off _ _ _ _ (portstat_apart p), hcount]
  · exact State.fld_setFld_here _ _ _ rfl

theorem exec_getVersion {s : State} {p : Fin 2} (h : s.spdmUp p = true) :
    exec (.getVersion p) s = .next (((s.dropSessions p).setNego p 1).answer p .version) :=
  (show _ = execGetVersion p s from rfl).trans (State.spdm_ready h (Nat.zero_le _) _)

section
variable {s : State} {p : Fin 2}

/-- GET_CAPABILITIES and NEGOTIATE_ALGORITHMS go on from their step of the negotiation alone. -/
theorem exec_getCapabilities (h : s.spdmUp p = true) : exec (.getCapabilities p) s =
    .next (if s.nego p = 1 then (s.setNego p 2).answer p .capabilities else s.answer p .errOther) := by
  have hexec : exec (.getCapabilities p) s = execGetCapabilities p s := rfl
  rw [hexec, execGetCapabilities]
  by_cases hn : s.nego p < 1
  · rw [if_neg (by omega), State.spdm_early h hn]
  · rw [State.spdm_ready h (Nat.le_of_not_lt hn)]

theorem exec_negotiateAlgorithms (h : s.spdmUp p = true) (ok : Bool) : exec (.negotiateAlgorithms p ok) s =
    .next (if s.nego p = 2 ∧ ok = true then (s.setNego p 3).answer p .algorithms else s.answer p .errOther) := by
  have hexec : exec (.negotiateAlgorithms p ok) s = execNegotiateAlgorithms p ok s := rfl
  rw [hexec, execNegotiateAlgorithms]
  by_cases hn : s.nego p < 2
  · rw [if_neg (by omega), State.spdm_early h hn]
  · rw [State.spdm_ready h (Nat.le_of_not_lt hn)]

variable (h : s.spdmUp p = true) (hn : 3 ≤ s.nego p)
include h hn

/-- What the report of a request names. -/
theorem exec_getMeasurements (i : BitVec 8) : exec (.getMeasurements p i) s = .next (s.answer p (.measurements (s.report i.toNat))) :=
  (show _ = execGetMeasurements p i s from rfl).trans (State.spdm_ready h hn _)

/-! ### KEY_EXCHANGE and FINISH -/

theorem exec_keyExchange (sid : BitVec 32) : exec (.keyExchange p sid) s = .next (
    if s.rngRequest.2 = false then s.rngRequest.1.answer p .errBusy
    else if 4 ≤ s.rngRequest.1.keep.sessions.length then s.rngRequest.1.answer p .errLimit
    else if s.rngRequest.1.keep.sessions.any (fun x => x.port == p.val && x.id == sid.toNat) then s.rngRequest.1.answer p .errOther
    else (s.rngRequest.1.setSessions (s.rngRequest.1.keep.sessions ++ [⟨sid.toNat, p, false, []⟩])).answer p (.session sid.toNat)) :=
  (show _ = execKeyExchange p sid s from rfl).trans (State.spdm_ready h hn _)

theorem exec_keyExchange_busy (hr : s.keep.rng = false) (sid : BitVec 32) : ∃ t, exec (.keyExchange p sid) s = .next t ∧
    (SMap.get (fun _ => .silent) t.keep.doe p = .errBusy ∧ t.mem = s.mem) ∧
    t.fld R.KEEP_RNGSTAT_NOTREADY = min (s.fld R.KEEP_RNGSTAT_NOTREADY + 1) (2 ^ 16 - 1) ∧ t.keep.sessions = s.keep.sessions := by
  have hreq : s.rngRequest = (s.satInc R.KEEP_RNGSTAT_NOTREADY, false) := if_neg (by simp [hr])
  refine ⟨_, exec_keyExchange h hn sid, ?_⟩
  rw [hreq, if_pos rfl]
  refine ⟨⟨State.said_answer _ _ _, (State.answer_mem ..).trans (State.setFld_mem ..)⟩,
    (State.fld_answer ..).trans (State.fld_satInc s R.KEEP_RNGSTAT_NOTREADY (by decide)), (State.answer_sessions ..).trans ?_⟩
  rw [State.satInc, State.satAdd, State.setFld_keep]

theorem exec_keyExchange_limit (hr : s.keep.rng = true) (hl : 4 ≤ s.keep.sessions.length) (sid : BitVec 32) :
    ∃ t, exec (.keyExchange p sid) s = .next t ∧ (SMap.get (fun _ => .silent) t.keep.doe p = .errLimit ∧ t.mem = s.mem) ∧
      t.keep.sessions = s.keep.sessions := by
  have hreq : s.rngRequest = ({ s with keep := { s.keep with reqs := s.keep.reqs + 1 } }, true) := if_pos hr
  refine ⟨_, exec_keyExchange h hn sid, ?_⟩
  rw [hreq, if_neg (by simp), if_pos hl]
  exact ⟨⟨State.said_answer _ _ _, rfl⟩, rfl⟩

theorem exec_keyExchange_opens (hr : s.keep.rng = true) (hl : s.keep.sessions.length < 4) {sid : BitVec 32}
    (hnew : ∀ x ∈ s.keep.sessions, ¬ (x.port = p.val ∧ x.id = sid.toNat)) :
    ∃ t, exec (.keyExchange p sid) s = .next t ∧ (SMap.get (fun _ => .silent) t.keep.doe p = .session sid.toNat ∧ t.mem = s.mem) ∧
      t.keep.sessions = s.keep.sessions ++ [⟨sid.toNat, p, false, []⟩] ∧ t.fld R.KEEP_STATUS_SESSIONS = s.keep.sessions.length + 1 := by
  have hreq : s.rngRequest = ({ s with keep := { s.keep with reqs := s.keep.reqs + 1 } }, true) := if_pos hr
  have hany : ¬ s.keep.sessions.any (fun x => x.port == p.val && x.id == sid.toNat) = true := by
    simpa using hnew
  refine ⟨_, exec_keyExchange h hn sid, ?_⟩
  rw [hreq, if_neg (by simp), if_neg (Nat.not_le_of_lt hl), if_neg hany]
  obtain ⟨hset, hmem, hcount, -⟩ := State.setSessions_shows { s with keep := { s.keep with reqs := s.keep.reqs + 1 } }
    (s.keep.sessions ++ [⟨sid.toNat, p, false, []⟩])
  refine ⟨⟨State.said_answer _ _ _, (State.answer_mem ..).trans hmem⟩, (State.answer_sessions ..).trans hset, (State.fld_answer ..).trans (hcount.trans ?_)⟩
  rw [List.length_append, List.length_singleton]
  omega

theorem exec_finish (sid : BitVec 32) (ok : Bool) {x : Spdm}
    (hx : s.keep.sessions.find? (fun x => x.port == p.val && x.id == sid.toNat && !x.fin) = some x) :
    exec (.finish p sid ok) s = .next (
      if ok then (s.setSessions (s.keep.sessions.map (fun (y : Spdm) => if y = x then { y with fin := true } else y))).answer p .finished
      else (s.setSessions (s.keep.sessions.filter (fun y => y ≠ x))).answer p .errOther) := by
  refine ((show _ = execFinish p sid ok s from rfl).trans (State.spdm_ready h hn _)).trans (congrArg Host.Outcome.next ?_)
  rw [hx]

theorem exec_finish_shows {sid : BitVec 32} {x : Spdm} {l r : List Spdm} (hs : s.keep.sessions = l ++ x :: r) (hp : x.port = p.val)
    (hid : x.id = sid.toNat) (hfin : x.fin = false) (hxl : x ∉ l) (hxr : x ∉ r) (hl : ∀ y ∈ l, ¬ (y.port = p.val ∧ y.id = sid.toNat)) :
    (∃ t, exec (.finish p sid true) s = .next t ∧ (SMap.get (fun _ => .silent) t.keep.doe p = .finished ∧ t.mem = s.mem) ∧
      t.keep.sessions = l ++ { x with fin := true } :: r) ∧
    (∃ t, exec (.finish p sid false) s = .next t ∧ (SMap.get (fun _ => .silent) t.keep.doe p = .errOther ∧ t.mem = s.mem) ∧
      t.keep.sessions = l ++ r) := by
  have hfind : s.keep.sessions.find? (fun x => x.port == p.val && x.id == sid.toNat && !x.fin) = some x := by
    have hnone : l.find? (fun x => x.port == p.val && x.id == sid.toNat && !x.fin) = none :=
      List.find?_eq_none.2 fun y hy hyes => hl y hy (by simp at hyes; exact hyes.1)
    rw [hs, List.find?_append, hnone, List.find?_cons_of_pos (by simp [hp, hid, hfin])]
    rfl
  refine ⟨⟨_, exec_finish h hn sid true hfind, ?_⟩, ⟨_, exec_finish h hn sid false hfind, ?_⟩⟩
  · rw [if_pos rfl, hs, map_update_mid hxl hxr]
    obtain ⟨hset, hmem, -, -⟩ := s.setSessions_shows (l ++ { x with fin := true } :: r)
    exact ⟨⟨State.said_answer _ _ _, (State.answer_mem ..).trans hmem⟩, (State.answer_sessions ..).trans hset⟩
  · rw [if_neg (by decide), hs, filter_ne_mid hxl hxr]
    obtain ⟨hset, hmem, -, -⟩ := s.setSessions_shows (l ++ r)
    exact ⟨⟨State.said_answer _ _ _, (State.answer_mem ..).trans hmem⟩, (State.answer_sessions ..).trans hset⟩

/-! ### Requests inside a session -/

theorem State.inSession_none {sid : BitVec 32} (hx : s.session p sid.toNat = none) (g : State → Spdm → State) :
    s.inSession p sid g = .next (s.answer p .errOther) := by
  refine (State.spdm_ready h hn _).trans (congrArg Host.Outcome.next ?_)
  rw [hx]

theorem State.inSession_some {sid : BitVec 32} {x : Spdm} (hx : s.session p sid.toNat = some x) (g : State → Spdm → State) :
    s.inSession p sid g = .next (g s x) := by
  refine (State.spdm_ready h hn _).trans (congrArg Host.Outcome.next ?_)
  rw [hx]

theorem exec_endSession_shows {sid : BitVec 32} {x : Spdm} {l r : List Spdm} (hx : s.session p sid.toNat = some x)
    (hs : s.keep.sessions = l ++ x :: r) (hxl : x ∉ l) (hxr : x ∉ r) :
    ∃ t, exec (.endSession p sid) s = .next t ∧ (SMap.get (fun _ => .silent) t.keep.doe p = .ended ∧ t.mem = s.mem) ∧
      t.keep.sessions = l ++ r ∧ t.fld R.KEEP_STATUS_SESSIONS = (l ++ r).length % 32 := by
  have hexec : exec (.endSession p sid) s = .next ((s.setSessions (s.keep.sessions.filter (fun y => y ≠ x))).answer p .ended) :=
    (show _ = execEndSession p sid s from rfl).trans (State.inSession_some h hn hx _)
  refine ⟨_, hexec, ?_⟩
  rw [hs, filter_ne_mid hxl hxr]
  obtain ⟨hset, hmem, hcount, -⟩ := s.setSessions_shows (l ++ r)
  exact ⟨⟨State.said_answer _ _ _, (State.answer_mem ..).trans hmem⟩, (State.answer_sessions ..).trans hset, (State.fld_answer ..).trans hcount⟩

theorem exec_kSetGo_shows {sid : BitVec 32} {x : Spdm} {l r : List Spdm} (hx : s.session p sid.toNat = some x)
    (hs : s.keep.sessions = l ++ x :: r) (hxl : x ∉ l) (hxr : x ∉ r) (stream : Fin 5) (ks : Fin 2) :
    ∃ t, exec (.kSetGo p sid stream ks) s = .next t ∧ (SMap.get (fun _ => .silent) t.keep.doe p = .ideGo ∧ t.mem = s.mem) ∧
      t.flag (R.PCIE_P_PORTSTAT_IDE p) = true ∧
      t.keep.sessions = l ++ { x with ide := x.ide.filter (· ≠ (stream.val, ks.val)) ++ [(stream.val, ks.val)] } :: r := by
  have hexec : exec (.kSetGo p sid stream ks) s = .next ((s.setSessions (s.keep.sessions.map (fun (y : Spdm) =>
      if y = x then { y with ide := y.ide.filter (fun e => e ≠ (stream.val, ks.val)) ++ [(stream.val, ks.val)] } else y))).answer p .ideGo) :=
    (show _ = execKSetGo p sid stream ks s from rfl).trans (State.inSession_some h hn hx _)
  refine ⟨_, hexec, ?_⟩
  rw [hs, map_update_mid hxl hxr (fun (y : Spdm) => { y with ide := y.ide.filter (fun e => e ≠ (stream.val, ks.val)) ++ [(stream.val, ks.val)] })]
  have hport : x.port = p.val := by
    have hyes := List.find?_some hx
    simp at hyes
    exact hyes.1.1
  obtain ⟨hset, hmem, -, hide⟩ := s.setSessions_shows
    (l ++ { x with ide := x.ide.filter (fun e => e ≠ (stream.val, ks.val)) ++ [(stream.val, ks.val)] } :: r)
  refine ⟨⟨State.said_answer _ _ _, (State.answer_mem ..).trans hmem⟩, (State.flag_answer ..).trans ((hide p).trans ?_), (State.answer_sessions ..).trans hset⟩
  rw [List.any_append, List.any_cons]
  simp [hport]

theorem exec_kSetStop_shows {sid : BitVec 32} {x : Spdm} {l r : List Spdm} (hx : s.session p sid.toNat = some x)
    (hs : s.keep.sessions = l ++ x :: r) (hxl : x ∉ l) (hxr : x ∉ r) (stream : Fin 5) (ks : Fin 2) :
    ∃ t, exec (.kSetStop p sid stream ks) s = .next t ∧ (SMap.get (fun _ => .silent) t.keep.doe p = .ideStop ∧ t.mem = s.mem) ∧
      t.keep.sessions = l ++ { x with ide := x.ide.filter (· ≠ (stream.val, ks.val)) } :: r := by
  have hexec : exec (.kSetStop p sid stream ks) s = .next ((s.setSessions (s.keep.sessions.map (fun (y : Spdm) =>
      if y = x then { y with ide := y.ide.filter (fun e => e ≠ (stream.val, ks.val)) } else y))).answer p .ideStop) :=
    (show _ = execKSetStop p sid stream ks s from rfl).trans (State.inSession_some h hn hx _)
  refine ⟨_, hexec, ?_⟩
  rw [hs, map_update_mid hxl hxr (fun (y : Spdm) => { y with ide := y.ide.filter (fun e => e ≠ (stream.val, ks.val)) })]
  obtain ⟨hset, hmem, -, -⟩ := s.setSessions_shows (l ++ { x with ide := x.ide.filter (fun e => e ≠ (stream.val, ks.val)) } :: r)
  exact ⟨⟨State.said_answer _ _ _, (State.answer_mem ..).trans hmem⟩, (State.answer_sessions ..).trans hset⟩

end

/-! ### The negotiation -/

theorem exec_getVersion_shows {s : State} {p : Fin 2} (h : s.spdmUp p = true) : ∃ t, exec (.getVersion p) s = .next t ∧
    (SMap.get (fun _ => .silent) t.keep.doe p = .version ∧ t.mem = s.mem) ∧ t.nego p = 1 ∧
    t.keep.sessions = s.keep.sessions.filter (fun x => x.port ≠ p.val) ∧
    t.fld R.KEEP_STATUS_SESSIONS = t.keep.sessions.length % 32 ∧ t.fld (R.PCIE_P_PORTSTAT_IDE p) = 0 := by
  obtain ⟨hset, hmem, hcount, hide⟩ := s.dropSessions_shows p
  have hother (u : State) (n : Nat) : (u.setNego p n).keep.sessions = u.keep.sessions ∧ (u.setNego p n).mem = u.mem ∧
    ∀ g, (u.setNego p n).fld g = u.fld g := ⟨rfl, rfl, fun _ => rfl⟩
  obtain ⟨osess, omem, ofld⟩ := hother (s.dropSessions p) 1
  refine ⟨_, exec_getVersion h, ⟨State.said_answer _ _ _, ?_⟩, (State.nego_answer ..).trans (State.nego_setNego ..), ?_, ?_, ?_⟩
  · rw [State.answer_mem, omem, hmem]
  · rw [State.answer_sessions, osess, hset]
  · rw [State.fld_answer, State.answer_sessions, ofld, osess, hset, hcount]
  · rw [State.fld_answer, ofld, hide]

theorem exec_getCapabilities_shows {s : State} {p : Fin 2} (h : s.spdmUp p = true) :
    (s.nego p = 1 → ∃ t, exec (.getCapabilities p) s = .next t ∧ (SMap.get (fun _ => .silent) t.keep.doe p = .capabilities ∧ t.mem = s.mem) ∧
      t.nego p = 2 ∧ t.regs = s.regs) ∧
    (s.nego p ≠ 1 → s.Answers p (.getCapabilities p) .errOther) := by
  refine ⟨fun hn => ⟨_, exec_getCapabilities h, ?_⟩, fun hn => State.answers_of ((exec_getCapabilities h).trans (congrArg _ (if_neg hn)))⟩
  rw [if_pos hn]
  exact ⟨⟨State.said_answer _ _ _, rfl⟩, (State.nego_answer ..).trans (State.nego_setNego ..), rfl⟩

theorem exec_negotiateAlgorithms_shows {s : State} {p : Fin 2} (h : s.spdmUp p = true) :
    (s.nego p = 2 → ∃ t, exec (.negotiateAlgorithms p true) s = .next t ∧
      (SMap.get (fun _ => .silent) t.keep.doe p = .algorithms ∧ t.mem = s.mem) ∧ t.nego p = 3 ∧ t.regs = s.regs) ∧
    s.Answers p (.negotiateAlgorithms p false) .errOther ∧ (s.nego p ≠ 2 → s.Answers p (.negotiateAlgorithms p true) .errOther) := by
  refine ⟨fun hn => ⟨_, exec_negotiateAlgorithms h true, ?_⟩,
    State.answers_of ((exec_negotiateAlgorithms h false).trans (congrArg _ (if_neg fun hf => nomatch hf.2))),
    fun hn => State.answers_of ((exec_negotiateAlgorithms h true).trans (congrArg _ (if_neg fun hf => hn hf.1)))⟩
  rw [if_pos ⟨hn, rfl⟩]
  exact ⟨⟨State.said_answer _ _ _, rfl⟩, (State.nego_answer ..).trans (State.nego_setNego ..), rfl⟩

/-! ### What does not depend on a session -/

theorem State.report_one (s : State) {i : BitVec 8} (h : i ≠ 0xFF) :
    s.report i.toNat = ((s.measBlock i.toNat).map (fun b => (i.toNat, b))).toList := by
  have hne : ¬ i.toNat = 0xFF := fun hn => h (BitVec.eq_of_toNat_eq hn)
  rw [State.report, if_neg hne]
  cases hb : s.measBlock i.toNat with
  | none => simp [hb]
  | some b => simp [hb]

theorem State.answers_slot {s : State} {p : Fin 2} (h : s.spdmUp p = true) (hn : 3 ≤ s.nego p) (x : Fin 8) :
    s.Answers p (.getCertificate p x) (if x.val = 0 then .certificate else .errOther) ∧
    s.Answers p (.challenge p x) (if x.val = 0 then .challenge else .errOther) :=
  ⟨State.answers_of ((show _ = execGetCertificate p x s from rfl).trans (State.spdm_ready h hn _)),
    State.answers_of ((show _ = execChallenge p x s from rfl).trans (State.spdm_ready h hn _))⟩

/-- Before a session the responder is silent, or answers an error, to whatever follows the negotiation. -/
theorem State.answers_later {s : State} {p : Fin 2} {sid : BitVec 32} {stream : Fin 5} {ks : Fin 2} :
    (s.spdmUp p = false → ∀ c ∈ spdmLater p sid stream ks, s.Answers p c .silent) ∧
    (s.spdmUp p = true → s.nego p < 3 → ∀ c ∈ spdmLater p sid stream ks, s.Answers p c .errOther) := by
  refine ⟨fun h c hc => ?_, fun h hn c hc => ?_⟩
  · obtain ⟨g, hg⟩ := spdmLater_eq c hc
    exact State.answers_of ((hg s).trans (State.spdm_down h 3 g))
  · obtain ⟨g, hg⟩ := spdmLater_eq c hc
    exact State.answers_of ((hg s).trans (State.spdm_early h hn g))

theorem State.answers_silent {s : State} {p : Fin 2} (h : s.spdmUp p = false) (sid : BitVec 32) (stream : Fin 5) (ks : Fin 2) :
    ∀ c ∈ [.getVersion p, .getCapabilities p, .negotiateAlgorithms p true, .negotiateAlgorithms p false] ++ spdmLater p sid stream ks,
      s.Answers p c .silent := by
  intro c hc
  obtain hc | hc := List.mem_append.1 hc
  · simp only [List.mem_cons, List.not_mem_nil, or_false] at hc
    obtain rfl | rfl | rfl | rfl := hc
    · exact State.answers_of ((show _ = execGetVersion p s from rfl).trans (State.spdm_down h 0 _))
    · exact State.answers_of ((show _ = execGetCapabilities p s from rfl).trans (State.spdm_down h 1 _))
    · exact State.answers_of ((show _ = execNegotiateAlgorithms p true s from rfl).trans (State.spdm_down h 2 _))
    · exact State.answers_of ((show _ = execNegotiateAlgorithms p false s from rfl).trans (State.spdm_down h 2 _))
  · obtain ⟨hdown, -⟩ := s.answers_later (p := p)
    exact hdown h c hc

theorem State.answers_no_session {s : State} {p : Fin 2} (h : s.spdmUp p = true) (hn : 3 ≤ s.nego p) {sid : BitVec 32}
    (hx : s.session p sid.toNat = none) (stream : Fin 5) (ks : Fin 2) : ∀ c ∈ spdmInside p sid stream ks, s.Answers p c .errOther := by
  intro c hc
  obtain ⟨g, hg⟩ := spdmInside_eq c hc
  exact State.answers_of ((hg s).trans (State.inSession_none h hn hx g))

/-- Settles O53: the random source command by command, and the responder by the step its negotiation has come to. -/
theorem keepAndResponder : Obligations.KeepAndResponder := by
  refine ⟨fun s h => ⟨exec_rngSeed_shows h, exec_rngHealthFail_shows h, exec_rngFailTimeout_due h, exec_drbgReseed_due h⟩,
    fun p sid stream ks s => ⟨fun h => State.answers_silent h sid stream ks, fun h => ?_⟩⟩
  obtain ⟨hcap, hcapErr⟩ := exec_getCapabilities_shows h
  obtain ⟨halg, halgBad, halgErr⟩ := exec_negotiateAlgorithms_shows h
  obtain ⟨-, hlater⟩ := s.answers_later (p := p) (sid := sid) (stream := stream) (ks := ks)
  refine ⟨exec_getVersion_shows h, hcap, hcapErr, halg, halgBad, halgErr, hlater h, fun hn => ?_⟩
  have hslot := State.answers_slot h hn
  refine ⟨State.answers_of ((show _ = execGetDigests p s from rfl).trans (State.spdm_ready h hn _)), (hslot 0).1, (hslot 0).2, fun x hx => ?_,
    fun i hi => ?_, State.answers_of (exec_getMeasurements h hn 0xFF), fun hr => exec_keyExchange_busy h hn hr sid,
    fun hr hl => exec_keyExchange_limit h hn hr hl sid, fun hr hl hnew => exec_keyExchange_opens h hn hr hl hnew,
    fun x l r hs hp hid hfin hxl hxr hl => exec_finish_shows h hn hs hp hid hfin hxl hxr hl,
    fun hx => State.answers_no_session h hn hx stream ks, fun x l r hx hs hxl hxr => ⟨?_, ?_, ?_, exec_endSession_shows h hn hx hs hxl hxr,
      exec_kSetGo_shows h hn hx hs hxl hxr stream ks, exec_kSetStop_shows h hn hx hs hxl hxr stream ks⟩⟩
  · have hne : ¬ x.val = 0 := fun h0 => hx (Fin.ext h0)
    obtain ⟨hcert, hchal⟩ := hslot x
    rw [if_neg hne] at hcert hchal
    exact ⟨hcert, hchal⟩
  · rw [← State.report_one s hi]
    exact State.answers_of (exec_getMeasurements h hn i)
  · exact State.answers_of ((show _ = execHeartbeat p sid s from rfl).trans (State.inSession_some h hn hx _))
  · exact State.answers_of ((show _ = execKeyUpdate p sid s from rfl).trans (State.inSession_some h hn hx _))
  · exact State.answers_of ((show _ = execIdeKmQuery p sid s from rfl).trans (State.inSession_some h hn hx _))

end Sys2Proof.Machine
end

section
-- One proof after another: what waits for another costs the check memory.
set_option Elab.async false
/-! SUPPORT. Check-value units (O59) -/
namespace Sys2Proof.Machine

/-! ### Register words after a write (R19) -/

/-- Where a field lies and how it is accessed. -/
def FieldRow.shape (f : FieldRow) : Nat × Nat × Access := (f.lo, f.w, f.acc)

/-- Fields no two of which share a bit. -/
abbrev FieldsApart (l : List (Nat × Nat × Access)) : Prop := l.Pairwise (fun f g => f.1 + f.2.1 ≤ g.1 ∨ g.1 + g.2.1 ≤ f.1)

theorem FieldRow.mask_bit (f : FieldRow) {x : Nat} (hx : x < 64) : f.mask.getLsbD x = decide (f.lo ≤ x ∧ x < f.lo + f.w) := by
  rw [FieldRow.mask, BitVec.getLsbD_ofNat, Nat.testBit_mul_two_pow, Nat.testBit_two_pow_sub_one]
  by_cases h1 : f.lo ≤ x
  · have hiff : x - f.lo < f.w ↔ x < f.lo + f.w := by omega
    simp [hx, h1, hiff]
  · simp [h1]

/-- One field's step of a write. -/
def wordStep (locked : Bool) (old v bits : BitVec 64) (w : BitVec 64) (f : FieldRow) : BitVec 64 :=
  (w &&& ~~~(f.mask &&& bits)) ||| (fieldAfter f.acc locked old v &&& (f.mask &&& bits))

theorem wordAfter_eq (fs : List FieldRow) (locked : Bool) (old v bits : BitVec 64) :
    wordAfter fs locked old v bits = fs.foldl (wordStep locked old v bits) old := rfl

theorem wordStep_bit (locked : Bool) (old v bits w : BitVec 64) (f : FieldRow) {x : Nat} (hx : x < 64) :
    (wordStep locked old v bits w f).getLsbD x =
      if f.lo ≤ x ∧ x < f.lo + f.w ∧ bits.getLsbD x = true then (fieldAfter f.acc locked old v).getLsbD x else w.getLsbD x := by
  rw [wordStep, BitVec.getLsbD_or, BitVec.getLsbD_and, BitVec.getLsbD_and, BitVec.getLsbD_not, BitVec.getLsbD_and, FieldRow.mask_bit f hx]
  by_cases h : f.lo ≤ x ∧ x < f.lo + f.w
  · cases hb : bits.getLsbD x <;> simp [h, hx]
  · have hn : ¬ (f.lo ≤ x ∧ x < f.lo + f.w ∧ bits.getLsbD x = true) := fun hc => h ⟨hc.1, hc.2.1⟩
    rw [if_neg hn, decide_eq_false h]
    simp [hx]

/-- A bit that no field holds stays. -/
theorem wordSteps_off (locked : Bool) (old v bits : BitVec 64) {x : Nat} (hx : x < 64) (fs : List FieldRow) (w : BitVec 64)
    (h : ∀ f ∈ fs, ¬ (f.lo ≤ x ∧ x < f.lo + f.w)) : (fs.foldl (wordStep locked old v bits) w).getLsbD x = w.getLsbD x := by
  induction fs generalizing w with
  | nil => rfl
  | cons f fs ih =>
    rw [List.foldl_cons, ih _ fun g hg => h g (List.mem_cons_of_mem f hg), wordStep_bit _ _ _ _ _ _ hx,
      if_neg fun hc => h f (List.mem_cons_self ..) ⟨hc.1, hc.2.1⟩]

/-- A bit of a field that a write reaches is what the field's access type makes of it. -/
theorem wordAfter_bit {fs : List FieldRow} (ha : FieldsApart (fs.map FieldRow.shape)) {f : FieldRow} (hf : f ∈ fs) (locked : Bool)
    (old v : BitVec 64) {bits : BitVec 64} {x : Nat} (hx : x < 64) (hin : f.lo ≤ x ∧ x < f.lo + f.w) (hb : bits.getLsbD x = true) :
    (wordAfter fs locked old v bits).getLsbD x = (fieldAfter f.acc locked old v).getLsbD x := by
  obtain ⟨l, r, rfl⟩ := List.append_of_mem hf
  rw [List.map_append, List.map_cons, FieldsApart, List.pairwise_append, List.pairwise_cons] at ha
  obtain ⟨-, ⟨hr, -⟩, -⟩ := ha
  have hoff : ∀ g ∈ r, ¬ (g.lo ≤ x ∧ x < g.lo + g.w) := by
    intro g hg hc
    have hsep : f.lo + f.w ≤ g.lo ∨ g.lo + g.w ≤ f.lo := hr _ (List.mem_map_of_mem hg)
    omega
  rw [wordAfter_eq, List.foldl_append, List.foldl_cons, wordSteps_off _ _ _ _ hx r _ hoff, wordStep_bit _ _ _ _ _ _ hx,
    if_pos ⟨hin.1, hin.2, hb⟩]

/-- A field's value depends on its own bits alone. -/
theorem Fld.get_congr {f : Fld} {a b : BitVec 64} (h : ∀ x, f.lo ≤ x → x < f.lo + f.w → a.getLsbD x = b.getLsbD x) : f.get a = f.get b := by
  refine Nat.eq_of_testBit_eq fun i => ?_
  unfold Fld.get
  rw [Nat.testBit_mod_two_pow, Nat.testBit_mod_two_pow, Nat.testBit_div_two_pow, Nat.testBit_div_two_pow]
  by_cases hi : i < f.w
  · simp only [hi, decide_true, Bool.true_and]
    rw [Nat.add_comm i f.lo]
    exact h (f.lo + i) (by omega) (by omega)
  · simp [hi]

/-- A field of a whole register written. -/
theorem get_wordAfter {fs : List FieldRow} {l : List (Nat × Nat × Access)} (hs : fs.map FieldRow.shape = l) (ha : FieldsApart l) {g : Fld} {acc : Access}
    (hm : (g.lo, g.w, acc) ∈ l) {bits : BitVec 64} (hb : ∀ x, x < g.lo + g.w → bits.getLsbD x = true) (h64 : g.lo + g.w ≤ 64) (locked : Bool)
    (old v : BitVec 64) : g.get (wordAfter fs locked old v bits) = g.get (fieldAfter acc locked old v) := by
  subst hs
  obtain ⟨f, hf, hshape⟩ := List.mem_map.1 hm
  obtain ⟨hlo, hrest⟩ := Prod.mk.inj hshape
  obtain ⟨hw, hacc⟩ := Prod.mk.inj hrest
  refine Fld.get_congr fun x hx hxw => ?_
  rw [wordAfter_bit ha hf locked old v (by omega) ⟨by omega, by omega⟩ (hb x hxw), hacc]

theorem allOnes_reach {n x : Nat} (hn : n ≤ 64) (hx : x < n) : (BitVec.allOnes 64).getLsbD x = true := by
  rw [BitVec.getLsbD_allOnes, decide_eq_true (by omega)]

/-- A register whose one field is its whole word. -/
theorem wordAfter_whole {fs : List FieldRow} (hs : fs.map FieldRow.shape = [(0, 64, .rw)]) (locked : Bool) (old v : BitVec 64) :
    wordAfter fs locked old v (BitVec.allOnes 64) = v := by
  obtain ⟨f, hf, hshape⟩ := List.mem_map.1 (show (0, 64, Access.rw) ∈ fs.map FieldRow.shape by rw [hs]; exact List.mem_cons_self ..)
  obtain ⟨hlo, hrest⟩ := Prod.mk.inj hshape
  obtain ⟨hw, hacc⟩ := Prod.mk.inj hrest
  refine BitVec.eq_of_getLsbD_eq fun x hx => ?_
  rw [wordAfter_bit (by rw [hs]; exact List.pairwise_singleton ..) hf locked old v hx ⟨by omega, by omega⟩ (allOnes_reach (Nat.le_refl 64) hx), hacc]
  rfl

/-- Whether a register of a width begins at an offset, with fields of a shape. -/
def regHas (off : Nat) (w : Bool) (l : List (Nat × Nat × Access)) : Bool :=
  match regAt off with
  | some (r, b) => r.wide == w && b == 0 && r.fields.map FieldRow.shape == l
  | none => false

theorem regAt_of_has {off : Nat} {w : Bool} {l : List (Nat × Nat × Access)} (h : regHas off w l = true) :
    ∃ r, regAt off = some (r, 0) ∧ r.wide = w ∧ r.fields.map FieldRow.shape = l := by
  unfold regHas at h
  split at h
  next r b hr =>
    simp only [Bool.and_eq_true, beq_iff_eq] at h
    obtain ⟨⟨hw, rfl⟩, hl⟩ := h
    exact ⟨r, hr, hw, hl⟩
  next => cases h

/-! ### What a write leaves of registers, memory and cores -/

/-- Registers outside a set, memory and the cores are as they were. -/
structure State.Keeps (O : Set Nat) (s t : State) : Prop where
  reg : ∀ o, o ∉ O → t.reg o = s.reg o
  mem : t.mem = s.mem
  cores : t.cores = s.cores

namespace State.Keeps
variable {O : Set Nat} {s t u : State}

theorem refl (O : Set Nat) (s : State) : State.Keeps O s s := ⟨fun _ _ => rfl, rfl, rfl⟩

theorem trans (h : State.Keeps O s t) (k : State.Keeps O t u) : State.Keeps O s u :=
  ⟨fun o ho => (k.reg o ho).trans (h.reg o ho), k.mem.trans h.mem, k.cores.trans h.cores⟩

theorem mono {P : Set Nat} (h : State.Keeps O s t) (hs : O ⊆ P) : State.Keeps P s t := ⟨fun o ho => h.reg o fun hp => ho (hs hp), h.mem, h.cores⟩
theorem fld (h : State.Keeps O s t) {g : Fld} (hg : g.off ∉ O) : t.fld g = s.fld g := congrArg g.get (h.reg g.off hg)
theorem flag (h : State.Keeps O s t) {g : Fld} (hg : g.off ∉ O) : t.flag g = s.flag g := congrArg (· == 1) (h.fld hg)

theorem of_regFab (h : State.RegFab O s t) : State.Keeps O s t := ⟨h.reg, h.mem, h.cores⟩
theorem of_outer (h : State.Outer O s t) : State.Keeps O s t := ⟨h.reg, h.mem, h.cores⟩

theorem setReg (s : State) {off : Nat} (v : BitVec 64) (h : off ∈ O) : State.Keeps O s (s.setReg off v) := of_regFab (State.RegFab.setReg s v h)
theorem setFld (s : State) {f : Fld} (v : Nat) (h : f.off ∈ O) : State.Keeps O s (s.setFld f v) := setReg s _ h
theorem satInc (s : State) {f : Fld} (h : f.off ∈ O) : State.Keeps O s (s.satInc f) := setReg s _ h

end State.Keeps

/-! ### Writes of a check-value unit's registers (R527–R540) -/

theorem regHas_cvu : ∀ u : Fin 32, regHas (R.CVU_U_VALUE u) true [(0, 64, .rw)] = true ∧
    regHas (R.CVU_U_EXPECT u) true [(0, 64, .rw)] = true ∧ regHas (R.CVU_U_POSN u) true [(32, 32, .rw), (0, 32, .rw)] = true ∧
    regHas (R.CVU_U_ALIVE u) true [(48, 16, .rwl), (0, 32, .rw)] = true := by decide

theorem regAt_cvuNarrow : ∀ u : Fin 32, (regAt (R.CVU_U_DATA u)).map (fun p => (p.1.wide, p.2)) = some (false, 0) ∧
    (regAt (R.CVU_U_CFG u)).map (fun p => (p.1.wide, p.2)) = some (false, 0) := by decide

section
variable {off o : Nat} {u : Fin 32} (ho : o < 0x80) (hoff : off = 0x80100 + u.val * 0x80 + o)
include ho hoff

theorem pageOf_cvu : pageOf off = 8 := by
  have hu := u.isLt
  unfold pageOf
  omega

theorem State.writeReg_cvu (s : State) (m : Master) (fs : List FieldRow) (v bits : BitVec 64) :
    s.writeReg m off fs v bits = s.writeCvu u o off fs v bits := by
  have hle : R.CVU_U_CFG 0 ≤ off := by unfold R.CVU_U_CFG; omega
  have hunit : (off - R.CVU_U_CFG 0) / 0x80 = u := by unfold R.CVU_U_CFG; omega
  have hrest : (off - R.CVU_U_CFG 0) % 0x80 = o := by unfold R.CVU_U_CFG; omega
  unfold State.writeReg
  simp only [pageOf_cvu ho hoff, if_pos hle, hunit, hrest]

theorem State.absent_cvu (s : State) : s.absent off = false := by
  have hp : off / 0x10000 = 8 := pageOf_cvu ho hoff
  unfold State.absent
  simp [hp]

theorem State.regLocked_cvu (s : State) : s.regLocked off = (s.flag R.CVU_LOCK_LOCK && s.cvuDedicated u) := by
  have hunit : (off - R.CVU_U_CFG 0) / 0x80 = u := by unfold R.CVU_U_CFG; omega
  unfold State.regLocked
  rw [pageOf_cvu ho hoff]
  exact congrArg (fun n => s.flag R.CVU_LOCK_LOCK && s.cvuDedicated n) hunit

/-- Firmware at M that writes a register of a unit outside TRIPPED. -/
theorem State.put_cvuWord {s : State} (h : s.st ≠ stTRIPPED) (n a : Nat) {r : RegRow} (hr : regAt off = some (r, 0)) (hw : r.wide = false)
    (v : BitVec 32) : s.put (.core n a .m) off 4 v.toNat =
      Wrote.settle (s.writeCvu u o off r.fields (BitVec.ofNat 64 v.toNat) 0xFFFFFFFF) (.core n a .m) off := by
  rw [State.put_word rfl (State.absent_cvu ho hoff s) hr hw h v.isLt, State.writeReg_cvu ho hoff]

theorem State.put_cvuLong {s : State} (h : s.st ≠ stTRIPPED) (n a : Nat) {r : RegRow} (hr : regAt off = some (r, 0)) (hw : r.wide = true)
    (x : Word) : s.put (.core n a .m) off 8 x.toNat =
      Wrote.settle (s.writeCvu u o off r.fields x (BitVec.allOnes 64)) (.core n a .m) off := by
  rw [State.put_long rfl (State.absent_cvu ho hoff s) hr hw h, State.writeReg_cvu ho hoff, BitVec.ofNat_toNat, BitVec.setWidth_eq]

end

/-- A unit's parameters are locked when it is dedicated and LOCK is set (R540, R541). -/
theorem State.cvuLocked_iff (s : State) (u : Fin 32) : (s.flag R.CVU_LOCK_LOCK && s.cvuDedicated u) = true ↔
    s.flag R.CVU_LOCK_LOCK = true ∧ (u.val < 5 ∨ u.val = 9 ∨ (u.val < 9 ∧ s.hasDisp = true)) := by
  unfold State.cvuDedicated
  simp only [Bool.and_eq_true, Bool.or_eq_true, decide_eq_true_eq, beq_iff_eq]
  refine and_congr_right fun _ => ?_
  cases s.hasDisp <;> simp <;> omega

section
variable {s : State} (h : s.st ≠ stTRIPPED) (n a : Nat) (u : Fin 32)
include h

theorem exec_cvuStart : exec (.cvuStart (.core n a .m) u) s = .next (s.cvuOpen u) := by
  have hexec : exec (.cvuStart (.core n a .m) u) s = .next (s.put (.core n a .m) (R.CVU_U_CMD u) 4 1) := rfl
  rw [hexec, State.put_cvuCmd h n a u (by norm_num)]
  rfl

theorem exec_cvuDataWrite (v : BitVec 32) : exec (.cvuDataWrite (.core n a .m) u v) s =
    .next (s.cvuFeed u (leBytes (s.fld (R.CVU_U_CFG_DBYTES u) + 1) v.toNat)) := by
  obtain ⟨r, hr, hw⟩ := regAt_of_map (regAt_cvuNarrow u).1
  have hoff : R.CVU_U_DATA u = 0x80100 + u.val * 0x80 + 0x38 := by unfold R.CVU_U_DATA; omega
  have hexec : exec (.cvuDataWrite (.core n a .m) u v) s = .next (s.put (.core n a .m) (R.CVU_U_DATA u) 4 v.toNat) := rfl
  have hwrite (fs : List FieldRow) (x bits : BitVec 64) (base : Nat) : s.writeCvu u 0x38 base fs x bits = (s.cvuData u x.toNat, false) := rfl
  have hx : (BitVec.ofNat 64 v.toNat).toNat = v.toNat := by rw [BitVec.toNat_ofNat, Nat.mod_eq_of_lt (by omega)]
  rw [hexec, State.put_cvuWord (by decide) hoff h n a hr hw, hwrite, Wrote.settle_taken, hx, State.cvuData]

theorem exec_cvuValueWrite (x : Word) : exec (.cvuValueWrite (.core n a .m) u (.whole x)) s = .next (s.cvuSetValue u x.toNat) := by
  obtain ⟨hshape, -⟩ := regHas_cvu u
  obtain ⟨r, hr, hw, hfs⟩ := regAt_of_has hshape
  have hoff : R.CVU_U_VALUE u = 0x80100 + u.val * 0x80 + 0x20 := by unfold R.CVU_U_VALUE; omega
  have hexec : exec (.cvuValueWrite (.core n a .m) u (.whole x)) s = .next (s.put (.core n a .m) (R.CVU_U_VALUE u) 8 x.toNat) := rfl
  have hwrite (fs : List FieldRow) (y bits : BitVec 64) (base : Nat) : s.writeCvu u 0x20 base fs y bits =
    (s.cvuSetValue u (wordAfter fs (s.regLocked base) (s.reg base) y bits).toNat, false) := rfl
  rw [hexec, State.put_cvuLong (by decide) hoff h n a hr hw, hwrite, Wrote.settle_taken, wordAfter_whole hfs]

theorem exec_cvuExpectWrite (x : Word) : exec (.cvuExpectWrite (.core n a .m) u (.whole x)) s =
    .next (s.setCvuW u (R.CVU_U_EXPECT_V u) x.toNat) := by
  obtain ⟨-, hshape, -⟩ := regHas_cvu u
  obtain ⟨r, hr, hw, hfs⟩ := regAt_of_has hshape
  have hoff : R.CVU_U_EXPECT u = 0x80100 + u.val * 0x80 + 0x28 := by unfold R.CVU_U_EXPECT; omega
  have hexec : exec (.cvuExpectWrite (.core n a .m) u (.whole x)) s = .next (s.put (.core n a .m) (R.CVU_U_EXPECT u) 8 x.toNat) := rfl
  have hwrite (fs : List FieldRow) (y bits : BitVec 64) (base : Nat) : s.writeCvu u 0x28 base fs y bits =
    (s.setCvuW u (R.CVU_U_EXPECT_V u) (wordAfter fs (s.regLocked base) (s.reg base) y bits).toNat, false) := rfl
  rw [hexec, State.put_cvuLong (by decide) hoff h n a hr hw, hwrite, Wrote.settle_taken, wordAfter_whole hfs]

/-- POSN after a write of it. -/
theorem exec_cvuPosnWrite (x : Word) : ∃ w : BitVec 64, (R.CVU_U_POSN_FED u).get w = x.toNat / 2 ^ 32 ∧ (R.CVU_U_POSN_CAP u).get w = x.toNat % 2 ^ 32 ∧
    exec (.cvuPosnWrite (.core n a .m) u (.whole x)) s = .next ((s.setReg (R.CVU_U_POSN u) w).cvuCut u) := by
  obtain ⟨-, -, hshape, -⟩ := regHas_cvu u
  obtain ⟨r, hr, hw, hfs⟩ := regAt_of_has hshape
  have hoff : R.CVU_U_POSN u = 0x80100 + u.val * 0x80 + 0x48 := by unfold R.CVU_U_POSN; omega
  have hexec : exec (.cvuPosnWrite (.core n a .m) u (.whole x)) s = .next (s.put (.core n a .m) (R.CVU_U_POSN u) 8 x.toNat) := rfl
  have hwrite (fs : List FieldRow) (y bits : BitVec 64) (base : Nat) : s.writeCvu u 0x48 base fs y bits =
    ((s.setReg base (wordAfter fs (s.regLocked base) (s.reg base) y bits)).cvuCut u, s.regLocked base && hasRwl fs bits) := rfl
  have hrwl (bits : BitVec 64) : hasRwl r.fields bits = false := by
    refine List.any_eq_false.2 fun f hf => ?_
    have hacc : f.shape ∈ [(32, 32, Access.rw), (0, 32, .rw)] := by
      rw [← hfs]
      exact List.mem_map_of_mem hf
    have hrw : f.acc = .rw := by
      simp only [List.mem_cons, List.not_mem_nil, or_false] at hacc
      obtain h1 | h1 := hacc
      · exact congrArg (fun q => q.2.2) h1
      · exact congrArg (fun q => q.2.2) h1
    rw [hrw]
    simp
  have hfed := get_wordAfter hfs (by decide) (g := R.CVU_U_POSN_FED u) (acc := .rw) (List.mem_cons_self ..)
    (fun y hy => allOnes_reach (Nat.le_refl 64) hy) (Nat.le_refl 64) (s.regLocked (R.CVU_U_POSN u)) (s.reg (R.CVU_U_POSN u)) x
  have hcap := get_wordAfter hfs (by decide) (g := R.CVU_U_POSN_CAP u) (acc := .rw) (List.mem_cons_of_mem _ (List.mem_cons_self ..))
    (fun y (hy : y < 32) => allOnes_reach (show 32 ≤ 64 by decide) hy) (show 32 ≤ 64 by decide) (s.regLocked (R.CVU_U_POSN u)) (s.reg (R.CVU_U_POSN u)) x
  refine ⟨_, hfed.trans ?_, hcap.trans ?_, ?_⟩
  · exact Nat.mod_eq_of_lt (by show x.toNat / 2 ^ 32 < 2 ^ 32; omega)
  · exact congrArg (· % 2 ^ 32) (Nat.div_one x.toNat)
  · rw [hexec, State.put_cvuLong (by decide) hoff h n a hr hw, hwrite, hrwl, Bool.and_false, Wrote.settle_taken]

end

/-- Offsets of one unit's registers. -/
theorem cvu_ne (u : Nat) {x y : Nat} (h : Nat.beq x y = false) : x + u * 0x80 ≠ y + u * 0x80 := fun he =>
  absurd (Nat.add_right_cancel he) (Nat.ne_of_beq_eq_false h)

/-! ### Streams (R527, R529) -/

theorem State.cvuOpen_shows (s : State) (u : Nat) : (s.cvuOpen u).fld (R.CVU_U_VALUE_V u) = s.fld (R.CVU_U_INIT_V u) % 2 ^ s.cvuW u % 2 ^ 64 ∧
    (s.cvuOpen u).reg (R.CVU_U_POSN u) = 0 ∧ (s.cvuOpen u).flag (R.CVU_U_STAT_OPEN u) = true ∧ (s.cvuOpen u).flag (R.CVU_U_STAT_DONE u) = false ∧
    State.Keeps {o | o ∈ [R.CVU_U_VALUE u, R.CVU_U_POSN u, R.CVU_U_STAT u]} s (s.cvuOpen u) := by
  have hvs : R.CVU_U_VALUE u ≠ R.CVU_U_STAT u := cvu_ne u rfl
  have hvp : R.CVU_U_VALUE u ≠ R.CVU_U_POSN u := cvu_ne u rfl
  have hps : R.CVU_U_POSN u ≠ R.CVU_U_STAT u := cvu_ne u rfl
  unfold State.cvuOpen State.setCvuW
  refine ⟨?_, ?_, ?_, ?_, ?_⟩
  · rw [State.fld_setFld_off _ _ _ _ hvs, State.fld_setFld_off _ _ _ _ hvs]
    refine (congrArg (R.CVU_U_VALUE_V u).get ((State.reg_setReg ..).trans (if_neg hvp))).trans ?_
    exact State.fld_setFld_here s (R.CVU_U_VALUE_V u) _ rfl
  · rw [State.reg_setFld_off _ _ _ hps, State.reg_setFld_off _ _ _ hps, State.reg_setReg, if_pos rfl]
  · rw [State.flag, State.fld_setFld_apart _ _ _ _ rfl rfl, State.fld_setFld_here _ _ _ rfl]
    rfl
  · rw [State.flag, State.fld_setFld_here _ _ _ rfl]
    rfl
  · exact (((State.Keeps.setFld s _ (by simp [R.CVU_U_VALUE_V])).trans (State.Keeps.setReg _ _ (by simp))).trans
      (State.Keeps.setFld _ _ (by simp [R.CVU_U_STAT_OPEN]))).trans (State.Keeps.setFld _ _ (by simp [R.CVU_U_STAT_DONE]))

/-- Bytes fed while no stream is open are counted. -/
theorem State.cvuFeed_closed {s : State} {u : Nat} (h : s.flag (R.CVU_U_STAT_OPEN u) = false) (l : List Byte) :
    s.cvuFeed u l = s.satInc (R.CVU_U_STAT_DISCARD u) := if_pos (by rw [h]; rfl)

/-- What CAP holds once a stream has taken bytes. -/
def State.cvuCap (s : State) (u : Nat) (l : List Byte) : Nat :=
  if s.fld (R.CVU_U_CFG_ALIVE u) = 2 then
    captured (s.fld (R.CVU_U_ALIVE_POS u)) (s.cvuAw u) (s.fld (R.CVU_U_POSN_CAP u)) (s.fld (R.CVU_U_POSN_FED u)) l
  else s.fld (R.CVU_U_POSN_CAP u)

theorem State.cvuFeed_open {s : State} {u : Nat} (h : s.flag (R.CVU_U_STAT_OPEN u) = true) (l : List Byte) : s.cvuFeed u l =
    ((s.setFld (R.CVU_U_VALUE_V u) (s.cvuValue u l)).setFld (R.CVU_U_POSN_FED u) (s.fld (R.CVU_U_POSN_FED u) + l.length)).setFld
      (R.CVU_U_POSN_CAP u) (s.cvuCap u l) := if_neg (by rw [h]; decide)

theorem State.cvuFeed_shows {s : State} {u : Nat} (h : s.flag (R.CVU_U_STAT_OPEN u) = true) (l : List Byte) :
    (s.cvuFeed u l).fld (R.CVU_U_VALUE_V u) = s.cvuValue u l % 2 ^ 64 ∧
    (s.cvuFeed u l).fld (R.CVU_U_POSN_FED u) = (s.fld (R.CVU_U_POSN_FED u) + l.length) % 2 ^ 32 ∧
    (s.cvuFeed u l).fld (R.CVU_U_POSN_CAP u) = s.cvuCap u l % 2 ^ 32 ∧
    State.Keeps {o | o ∈ [R.CVU_U_VALUE u, R.CVU_U_POSN u]} s (s.cvuFeed u l) := by
  have hvp : R.CVU_U_VALUE u ≠ R.CVU_U_POSN u := cvu_ne u rfl
  rw [State.cvuFeed_open h]
  refine ⟨?_, ?_, ?_, ?_⟩
  · rw [State.fld_setFld_off _ _ _ _ hvp, State.fld_setFld_off _ _ _ _ hvp]
    exact State.fld_setFld_here s (R.CVU_U_VALUE_V u) _ rfl
  · rw [State.fld_setFld_apart _ _ _ _ rfl rfl]
    exact State.fld_setFld_here _ (R.CVU_U_POSN_FED u) _ rfl
  · exact State.fld_setFld_here _ (R.CVU_U_POSN_CAP u) _ rfl
  · exact ((State.Keeps.setFld s _ (by simp [R.CVU_U_VALUE_V])).trans (State.Keeps.setFld _ _ (by simp [R.CVU_U_POSN_FED]))).trans
      (State.Keeps.setFld _ _ (by simp [R.CVU_U_POSN_CAP]))

/-- Bytes before the counter's place capture nothing. -/
theorem captured_before {pos aw cap off : Nat} {l : List Byte} (h : off + l.length ≤ pos) : captured pos aw cap off l = cap := by
  induction l generalizing off with
  | nil => rfl
  | cons b l ih =>
    rw [List.length_cons] at h
    rw [captured, if_neg (by omega), ih (by omega)]

/-- The bytes of a data word. -/
theorem leBytes_word (k : Nat) (v : BitVec 32) : leBytes k v.toNat = (List.range k).map (fun i => (v.extractLsb' (8 * i) 8 : BitVec 8)) := by
  rw [leBytes_eq_map_range]
  refine List.map_congr_left fun i _ => ?_
  rw [BitVec.extractLsb', Nat.shiftRight_eq_div_pow, Nat.pow_mul]

/-! ### Parameters cut to W, and a unit that passes to a context (R527, R534) -/

section
variable (s : State) (u : Nat)

/-- The registers with a unit's 64-bit parameters. -/
def cvuWide (u : Nat) : Set Nat := {o | o ∈ [R.CVU_U_POLY u, R.CVU_U_INIT u, R.CVU_U_XOROUT u, R.CVU_U_VALUE u, R.CVU_U_EXPECT u]}

theorem State.cvuCut_keeps : State.Keeps (cvuWide u) s (s.cvuCut u) := by
  have hone (t : State) (f : Fld) (hf : f.off ∈ cvuWide u) : State.Keeps (cvuWide u) t (t.setCvuW u f (t.fld f)) := State.Keeps.setFld t _ hf
  unfold State.cvuCut
  simp only [List.foldl_cons, List.foldl_nil]
  exact ((((hone s _ (by simp [cvuWide, R.CVU_U_POLY_V])).trans (hone _ _ (by simp [cvuWide, R.CVU_U_INIT_V]))).trans
    (hone _ _ (by simp [cvuWide, R.CVU_U_XOROUT_V]))).trans (hone _ _ (by simp [cvuWide, R.CVU_U_VALUE_V]))).trans
    (hone _ _ (by simp [cvuWide, R.CVU_U_EXPECT_V]))

theorem cfg_not_wide : R.CVU_U_CFG u ∉ cvuWide u := by
  simp [cvuWide, R.CVU_U_CFG, R.CVU_U_POLY, R.CVU_U_INIT, R.CVU_U_XOROUT, R.CVU_U_VALUE, R.CVU_U_EXPECT]

/-- A parameter cut while the others are. -/
theorem State.setCvuW_other {f g : Fld} (h : g.off ≠ f.off) : (s.setCvuW u f (s.fld f)).fld g = s.fld g := State.fld_setFld_off _ _ _ _ h

theorem State.cvuW_setCvuW (f : Fld) (v : Nat) (h : R.CVU_U_CFG u ≠ f.off) : (s.setCvuW u f v).cvuW u = s.cvuW u :=
  State.fld_setFld_off s f (R.CVU_U_CFG_WIDTH u) _ h

theorem State.setCvuW_here (f : Fld) (hlo : f.lo = 0) (hw : f.w = 64) : (s.setCvuW u f (s.fld f)).fld f = s.fld f % 2 ^ s.cvuW u := by
  have hlt : s.fld f < 2 ^ 64 := hw ▸ State.fld_lt s f
  rw [State.setCvuW, State.fld_setFld_here _ _ _ (by rw [hlo, hw]; rfl), hw]
  exact Nat.mod_eq_of_lt (lt_of_le_of_lt (Nat.mod_le _ _) hlt)

theorem State.cvuCut_init : (s.cvuCut u).fld (R.CVU_U_INIT_V u) = s.fld (R.CVU_U_INIT_V u) % 2 ^ s.cvuW u := by
  have hc : R.CVU_U_CFG u ≠ R.CVU_U_POLY u := cvu_ne u rfl
  unfold State.cvuCut
  simp only [List.foldl_cons, List.foldl_nil]
  rw [State.setCvuW_other _ _ (cvu_ne u rfl : R.CVU_U_INIT u ≠ R.CVU_U_EXPECT u), State.setCvuW_other _ _ (cvu_ne u rfl : R.CVU_U_INIT u ≠ R.CVU_U_VALUE u),
    State.setCvuW_other _ _ (cvu_ne u rfl : R.CVU_U_INIT u ≠ R.CVU_U_XOROUT u), State.setCvuW_here _ _ _ rfl rfl, State.cvuW_setCvuW _ _ _ _ hc,
    State.setCvuW_other _ _ (cvu_ne u rfl : R.CVU_U_INIT u ≠ R.CVU_U_POLY u)]

theorem State.cvuCut_value : (s.cvuCut u).fld (R.CVU_U_VALUE_V u) = s.fld (R.CVU_U_VALUE_V u) % 2 ^ s.cvuW u := by
  unfold State.cvuCut
  simp only [List.foldl_cons, List.foldl_nil]
  rw [State.setCvuW_other _ _ (cvu_ne u rfl : R.CVU_U_VALUE u ≠ R.CVU_U_EXPECT u), State.setCvuW_here _ _ _ rfl rfl,
    State.cvuW_setCvuW _ _ (R.CVU_U_XOROUT_V u) _ (cvu_ne u rfl), State.cvuW_setCvuW _ _ (R.CVU_U_INIT_V u) _ (cvu_ne u rfl),
    State.cvuW_setCvuW _ _ (R.CVU_U_POLY_V u) _ (cvu_ne u rfl), State.setCvuW_other _ _ (cvu_ne u rfl : R.CVU_U_VALUE u ≠ R.CVU_U_XOROUT u),
    State.setCvuW_other _ _ (cvu_ne u rfl : R.CVU_U_VALUE u ≠ R.CVU_U_INIT u), State.setCvuW_other _ _ (cvu_ne u rfl : R.CVU_U_VALUE u ≠ R.CVU_U_POLY u)]

theorem State.setCvuCount_shows (v : Nat) (seen : Bool) : (s.setCvuCount u v seen).fld (R.CVU_U_ALIVE_COUNT u) = v % 2 ^ 32 ∧
    (s.setCvuCount u v seen).fld (R.CVU_U_ALIVE_POS u) = s.fld (R.CVU_U_ALIVE_POS u) ∧ bit (s.setCvuCount u v seen).cvuSeen u = seen ∧
    State.Keeps {R.CVU_U_ALIVE u} s (s.setCvuCount u v seen) := by
  have hseen : bit (if seen then setBit s.cvuSeen u else clrBit s.cvuSeen u) u = seen := by
    cases seen
    · exact (bit_clrBit ..).trans (by simp)
    · exact (bit_setBit ..).trans (by simp)
  have hk := State.Keeps.setFld (O := {R.CVU_U_ALIVE u}) s (f := R.CVU_U_ALIVE_COUNT u) v rfl
  exact ⟨State.fld_setFld_here s (R.CVU_U_ALIVE_COUNT u) v rfl, State.fld_setFld_apart s (R.CVU_U_ALIVE_COUNT u) (R.CVU_U_ALIVE_POS u) v rfl rfl, hseen,
    hk.reg, hk.mem, hk.cores⟩

end

/-! ### Writes of ALIVE and CFG (R534, R538, R540) -/

theorem Wrote.settle_keeps (t : State) (b : Bool) (m : Master) (off : Nat) :
    State.RegFab {R.DEVICE_ACCERR} t (Wrote.settle (t, b) m off) := by
  cases b
  · rw [Wrote.settle_taken]
    exact State.RegFab.refl _ t
  · rw [Wrote.settle_discarded]
    exact (t.discard_recorded m off).1

theorem State.RegFab.cvuSeen {O : Set Nat} {s t : State} (h : State.RegFab O s t) : t.cvuSeen = s.cvuSeen := by obtain ⟨⟨_, _, _, rfl⟩, -⟩ := h; rfl

/-- ALIVE after a write of it: POS keeps its value while it is locked. -/
theorem exec_cvuAliveCountWrite {s : State} (h : s.st ≠ stTRIPPED) (n a : Nat) (u : Fin 32) (x : Word) :
    ∃ (w : BitVec 64) (b : Bool), w.toNat % 2 ^ 32 = x.toNat % 2 ^ 32 ∧
      (R.CVU_U_ALIVE_POS u).get w = (if (s.flag R.CVU_LOCK_LOCK && s.cvuDedicated u) = true then s.fld (R.CVU_U_ALIVE_POS u) else x.toNat / 2 ^ 48) ∧
      exec (.cvuAliveCountWrite (.core n a .m) u (.whole x)) s =
        .next (Wrote.settle ((s.setReg (R.CVU_U_ALIVE u) w).setCvuCount u (w.toNat % 2 ^ 32) true, b) (.core n a .m) (R.CVU_U_ALIVE u)) := by
  obtain ⟨-, -, -, hshape⟩ := regHas_cvu u
  obtain ⟨r, hr, hw, hfs⟩ := regAt_of_has hshape
  have hoff : R.CVU_U_ALIVE u = 0x80100 + u.val * 0x80 + 0x40 := by unfold R.CVU_U_ALIVE; omega
  have hexec : exec (.cvuAliveCountWrite (.core n a .m) u (.whole x)) s = .next (s.put (.core n a .m) (R.CVU_U_ALIVE u) 8 x.toNat) := rfl
  have hwrite (fs : List FieldRow) (y bits : BitVec 64) (base : Nat) : s.writeCvu u 0x40 base fs y bits =
    (if bits.getLsbD 0 then (s.setReg base (wordAfter fs (s.regLocked base) (s.reg base) y bits)).setCvuCount u
      ((wordAfter fs (s.regLocked base) (s.reg base) y bits).toNat % 2 ^ 32) true
      else s.setReg base (wordAfter fs (s.regLocked base) (s.reg base) y bits), s.regLocked base && hasRwl fs bits) := rfl
  have hcount := get_wordAfter hfs (by decide) (g := R.CVU_U_ALIVE_COUNT u) (acc := .rw) (List.mem_cons_of_mem _ (List.mem_cons_self ..))
    (fun y (hy : y < 32) => allOnes_reach (show 32 ≤ 64 by decide) hy) (show 32 ≤ 64 by decide) (s.regLocked (R.CVU_U_ALIVE u)) (s.reg (R.CVU_U_ALIVE u)) x
  have hpos := get_wordAfter hfs (by decide) (g := R.CVU_U_ALIVE_POS u) (acc := .rwl) (List.mem_cons_self ..)
    (fun y hy => allOnes_reach (Nat.le_refl 64) hy) (Nat.le_refl 64) (s.regLocked (R.CVU_U_ALIVE u)) (s.reg (R.CVU_U_ALIVE u)) x
  have hlow (y : BitVec 64) : (R.CVU_U_ALIVE_COUNT u).get y = y.toNat % 2 ^ 32 := congrArg (· % 2 ^ 32) (Nat.div_one y.toNat)
  refine ⟨_, s.regLocked (R.CVU_U_ALIVE u) && hasRwl r.fields (BitVec.allOnes 64), ((hlow _).symm.trans hcount).trans (hlow x), hpos.trans ?_, ?_⟩
  · rw [State.regLocked_cvu (by decide) hoff]
    by_cases hl : (s.flag R.CVU_LOCK_LOCK && s.cvuDedicated u) = true
    · rw [if_pos hl, hl]
      rfl
    · rw [if_neg hl, Bool.eq_false_iff.2 hl]
      exact Nat.mod_eq_of_lt (by show x.toNat / 2 ^ 48 < 2 ^ 16; omega)
  · rw [hexec, State.put_cvuLong (by decide) hoff h n a hr hw, hwrite, if_pos (allOnes_reach (Nat.le_refl 64) (by decide))]

theorem exec_cvuOwnerWrite {s : State} (h : s.st ≠ stTRIPPED) (n a : Nat) (u : Fin 32) (v : BitVec 32) :
    exec (.cvuOwnerWrite (.core n a .m) u v) s = .next (Wrote.settle (s.cvuCfg u v.toNat (s.flag R.CVU_LOCK_LOCK && s.cvuDedicated u),
      s.flag R.CVU_LOCK_LOCK && s.cvuDedicated u) (.core n a .m) (R.CVU_U_CFG u)) := by
  obtain ⟨r, hr, hw⟩ := regAt_of_map (regAt_cvuNarrow u).2
  have hoff : R.CVU_U_CFG u = 0x80100 + u.val * 0x80 + 0 := by unfold R.CVU_U_CFG; omega
  have hexec : exec (.cvuOwnerWrite (.core n a .m) u v) s = .next (s.put (.core n a .m) (R.CVU_U_CFG u) 4 v.toNat) := rfl
  have hwrite (fs : List FieldRow) (x bits : BitVec 64) (base : Nat) : s.writeCvu u 0 base fs x bits =
    (s.cvuCfg u (x.toNat % 2 ^ 32) (s.regLocked base), s.regLocked base) := rfl
  have hx : (BitVec.ofNat 64 v.toNat).toNat % 2 ^ 32 = v.toNat := by
    rw [BitVec.toNat_ofNat]
    omega
  rw [hexec, State.put_cvuWord (by decide) hoff h n a hr hw, hwrite, hx, State.regLocked_cvu (by decide) hoff]

/-- A unit that a write of OWNER has passed on. -/
structure State.CvuPassed (s t : State) (u owner : Nat) : Prop where
  owner : t.fld (R.CVU_U_CFG_OWNER u) = owner
  closed : t.flag (R.CVU_U_STAT_OPEN u) = false
  posn : t.reg (R.CVU_U_POSN u) = 0
  expect : t.reg (R.CVU_U_EXPECT u) = 0
  count : t.fld (R.CVU_U_ALIVE_COUNT u) = 0
  unseen : bit t.cvuSeen u = false
  mem : t.mem = s.mem
  cores : t.cores = s.cores

theorem State.cvuOwner_shows (s : State) (u v : Nat) : s.CvuPassed (s.cvuOwner u v) u (v % 4) ∧
    (s.cvuOwner u v).fld (R.CVU_U_CFG_WIDTH u) = s.fld (R.CVU_U_CFG_WIDTH u) ∧
    (s.cvuOwner u v).fld (R.CVU_U_CFG_DBYTES u) = s.fld (R.CVU_U_CFG_DBYTES u) ∧
    (s.cvuOwner u v).fld (R.CVU_U_VALUE_V u) = s.fld (R.CVU_U_INIT_V u) % 2 ^ s.cvuW u % 2 ^ 64 := by
  obtain ⟨s1, hs1⟩ : ∃ t, t = s.setFld (R.CVU_U_CFG_OWNER u) v := ⟨_, rfl⟩
  obtain ⟨s2, hs2⟩ : ∃ t, t = s1.setCvuW u (R.CVU_U_VALUE_V u) (s.fld (R.CVU_U_INIT_V u)) := ⟨_, rfl⟩
  obtain ⟨s3, hs3⟩ : ∃ t, t = s2.setFld (R.CVU_U_STAT_OPEN u) 0 := ⟨_, rfl⟩
  obtain ⟨s4, hs4⟩ : ∃ t, t = s3.setReg (R.CVU_U_POSN u) 0 := ⟨_, rfl⟩
  obtain ⟨s5, hs5⟩ : ∃ t, t = s4.setReg (R.CVU_U_EXPECT u) 0 := ⟨_, rfl⟩
  have ht : s.cvuOwner u v = s5.setCvuCount u 0 false := by rw [hs5, hs4, hs3, hs2, hs1]; rfl
  have k1 : State.Keeps {R.CVU_U_CFG u} s s1 := hs1 ▸ State.Keeps.setFld s _ rfl
  have k2 : State.Keeps {R.CVU_U_VALUE u} s1 s2 := hs2 ▸ State.Keeps.setFld s1 _ rfl
  have k3 : State.Keeps {R.CVU_U_STAT u} s2 s3 := hs3 ▸ State.Keeps.setFld s2 _ rfl
  have k4 : State.Keeps {R.CVU_U_POSN u} s3 s4 := hs4 ▸ State.Keeps.setReg s3 _ rfl
  have k5 : State.Keeps {R.CVU_U_EXPECT u} s4 s5 := hs5 ▸ State.Keeps.setReg s4 _ rfl
  obtain ⟨hcount, -, hseen, k6⟩ := s5.setCvuCount_shows u 0 false
  rw [← ht] at hcount hseen k6
  have hcfg (g : Fld) (hg : g.off = R.CVU_U_CFG u) : (s.cvuOwner u v).fld g = s1.fld g := by
    rw [k6.fld (by rw [hg]; exact cvu_ne u rfl), k5.fld (by rw [hg]; exact cvu_ne u rfl), k4.fld (by rw [hg]; exact cvu_ne u rfl),
      k3.fld (by rw [hg]; exact cvu_ne u rfl), k2.fld (by rw [hg]; exact cvu_ne u rfl)]
  have hw : s1.cvuW u = s.cvuW u := by
    rw [hs1]
    exact State.fld_setFld_apart s (R.CVU_U_CFG_OWNER u) (R.CVU_U_CFG_WIDTH u) v rfl rfl
  refine ⟨⟨?_, ?_, ?_, ?_, hcount, hseen, ?_, ?_⟩, ?_, ?_, ?_⟩
  · rw [hcfg _ rfl, hs1]
    exact State.fld_setFld_here s (R.CVU_U_CFG_OWNER u) v rfl
  · rw [k6.flag (g := R.CVU_U_STAT_OPEN u) (cvu_ne u rfl), k5.flag (g := R.CVU_U_STAT_OPEN u) (cvu_ne u rfl),
      k4.flag (g := R.CVU_U_STAT_OPEN u) (cvu_ne u rfl), hs3]
    exact congrArg (· == 1) (State.fld_setFld_here s2 (R.CVU_U_STAT_OPEN u) 0 rfl)
  · rw [k6.reg _ (show R.CVU_U_POSN u ≠ R.CVU_U_ALIVE u from cvu_ne u rfl), k5.reg _ (show R.CVU_U_POSN u ≠ R.CVU_U_EXPECT u from cvu_ne u rfl), hs4, State.reg_setReg,
      if_pos rfl]
  · rw [k6.reg _ (show R.CVU_U_EXPECT u ≠ R.CVU_U_ALIVE u from cvu_ne u rfl), hs5, State.reg_setReg, if_pos rfl]
  · rw [k6.mem, k5.mem, k4.mem, k3.mem, k2.mem, k1.mem]
  · rw [k6.cores, k5.cores, k4.cores, k3.cores, k2.cores, k1.cores]
  · exact (hcfg _ rfl).trans hw
  · rw [hcfg _ rfl, hs1]
    exact State.fld_setFld_apart s (R.CVU_U_CFG_OWNER u) (R.CVU_U_CFG_DBYTES u) v rfl rfl
  · rw [k6.fld (g := R.CVU_U_VALUE_V u) (cvu_ne u rfl), k5.fld (g := R.CVU_U_VALUE_V u) (cvu_ne u rfl),
      k4.fld (g := R.CVU_U_VALUE_V u) (cvu_ne u rfl), k3.fld (g := R.CVU_U_VALUE_V u) (cvu_ne u rfl), hs2, State.setCvuW, hw]
    exact State.fld_setFld_here s1 (R.CVU_U_VALUE_V u) _ rfl

/-- A write of CFG by an unlocked unit with a width in range. -/
theorem State.cvuCfg_shows (s : State) (u : Nat) (v : BitVec 32) (h8 : 8 ≤ v.toNat / 2 ^ 23 % 128) (h64 : v.toNat / 2 ^ 23 % 128 ≤ 64) :
    let t := s.cvuCfg u v.toNat false
    s.CvuPassed t u (v.toNat / 32 % 4) ∧ t.fld (R.CVU_U_CFG_WIDTH u) = v.toNat / 2 ^ 23 % 128 ∧ t.fld (R.CVU_U_CFG_DBYTES u) = v.toNat / 128 % 4 ∧
      t.fld (R.CVU_U_VALUE_V u) = s.fld (R.CVU_U_INIT_V u) % 2 ^ (v.toNat / 2 ^ 23 % 128) := by
  intro t
  obtain ⟨x, hx⟩ : ∃ x, x = v.toNat / 2 ^ 23 % 128 := ⟨_, rfl⟩
  obtain ⟨w, hw⟩ : ∃ w, w = BitVec.ofNat 64 (v.toNat / 128 * 128 + s.fld (R.CVU_U_CFG_OWNER u) * 32) := ⟨_, rfl⟩
  obtain ⟨s1, hs1⟩ : ∃ t, t = s.setReg (R.CVU_U_CFG u) w := ⟨_, rfl⟩
  have hown : s.fld (R.CVU_U_CFG_OWNER u) < 4 := State.fld_lt s _
  have hwn : w.toNat = v.toNat / 128 * 128 + s.fld (R.CVU_U_CFG_OWNER u) * 32 := by
    rw [hw, BitVec.toNat_ofNat, Nat.mod_eq_of_lt (by omega)]
  have hbad : ¬ (v.toNat / 2 ^ 23 % 128 < 8 ∨ 64 < v.toNat / 2 ^ 23 % 128) := by omega
  have ht : t = (s1.cvuCut u).cvuOwner u (v.toNat / 32) := by
    have hc : (false || Decidable.decide (v.toNat / 2 ^ 23 % 128 < 8) || Decidable.decide (64 < v.toNat / 2 ^ 23 % 128)) = false := by simpa using ⟨h8, h64⟩
    show State.cvuCfg s u v.toNat false = _
    unfold State.cvuCfg
    dsimp only
    rw [hc, if_neg Bool.false_ne_true, hs1, hw, if_neg (by simpa using ⟨h8, h64⟩)]
  have kcut := s1.cvuCut_keeps u
  have hget (g : Fld) (hg : g.off = R.CVU_U_CFG u) : (s1.cvuCut u).fld g = g.get w := by
    rw [kcut.fld (by rw [hg]; exact cfg_not_wide u), hs1, State.fld, State.reg_setReg, if_pos hg]
  have hwidth : (s1.cvuCut u).fld (R.CVU_U_CFG_WIDTH u) = x := by
    rw [hget _ rfl]
    show w.toNat / 2 ^ 23 % 2 ^ 7 = x
    omega
  have h1width : s1.cvuW u = x := (kcut.fld (g := R.CVU_U_CFG_WIDTH u) (cfg_not_wide u)).symm.trans hwidth
  have hinit : s1.fld (R.CVU_U_INIT_V u) = s.fld (R.CVU_U_INIT_V u) := by
    rw [hs1, State.fld, State.reg_setReg, if_neg (show (R.CVU_U_INIT_V u).off ≠ R.CVU_U_CFG u from cvu_ne u rfl)]
    rfl
  obtain ⟨hpass, howidth, hobytes, hovalue⟩ := (s1.cvuCut u).cvuOwner_shows u (v.toNat / 32)
  rw [← ht] at hpass howidth hobytes hovalue
  have hmem : (s1.cvuCut u).mem = s.mem := by rw [kcut.mem, hs1]; rfl
  have hcores : (s1.cvuCut u).cores = s.cores := by rw [kcut.cores, hs1]; rfl
  rw [← hx]
  refine ⟨{ hpass with mem := hpass.mem.trans hmem, cores := hpass.cores.trans hcores }, howidth.trans hwidth, hobytes.trans ?_, hovalue.trans ?_⟩
  · rw [hget _ rfl]
    show w.toNat / 2 ^ 7 % 2 ^ 2 = _
    omega
  · rw [State.cvuW, hwidth, State.cvuCut_init, h1width, hinit, Nat.mod_mod]
    exact Nat.mod_eq_of_lt (lt_of_le_of_lt (Nat.mod_le _ _) (State.fld_lt s (R.CVU_U_INIT_V u)))

/-! ### FINISH (R527, R529, R535–R539) -/

/-- The alive check of mode 2 at FINISH, with whether the comparison mismatched. -/
def State.cvuCheck (s : State) (u aw maxStep count : Nat) (bad : Bool) : State :=
  let o := aliveOutcome aw maxStep count (s.fld (R.CVU_U_POSN_CAP u))
    (s.fld (R.CVU_U_POSN_FED u) < s.fld (R.CVU_U_ALIVE_POS u) + aw) bad (s.cvuAccepted u)
  let s := (s.setFld (R.CVU_U_STAT_AOUT u) o.1).setCvuCount u o.2 (s.cvuAccepted u || o.1 == 1 || o.1 == 2 || o.1 == 4)
  let s := if o.1 = 1 then s else s.setFld (R.CVU_U_STAT_ALIVE_ERR u) 1
  if o.1 ≠ 1 ∨ bad then s.cvuEvent u else s

/-- A unit with its own counter fed, in mode 1. -/
def State.cvuFolded (s : State) (u : Nat) : State := if s.fld (R.CVU_U_CFG_ALIVE u) = 1 then s.cvuFold u else s

theorem State.cvuClose_eq (s : State) (u maxStep : Nat) : s.cvuClose u maxStep =
    let c := ((s.cvuFolded u).cvuShow u).cvuCompare u
    if s.fld (R.CVU_U_CFG_ALIVE u) = 2 then c.1.cvuCheck u (s.cvuAw u) maxStep (s.fld (R.CVU_U_ALIVE_COUNT u)) c.2
    else if c.2 then c.1.cvuEvent u else c.1 := rfl

section
variable (s : State) (u : Fin 32)

/-- The running value at FINISH. -/
def State.cvuLast (s : State) (u : Nat) : Nat :=
  if s.fld (R.CVU_U_CFG_ALIVE u) = 1 then s.cvuValue u (leBytes (s.cvuAw u) (s.fld (R.CVU_U_ALIVE_COUNT u))) % 2 ^ 64 else s.fld (R.CVU_U_VALUE_V u)

/-- The registers that folding writes. -/
abbrev foldRegs (u : Nat) : List Nat := [R.CVU_U_VALUE u, R.CVU_U_POSN u, R.CVU_U_ALIVE u, R.CVU_U_STAT u]

theorem State.cvuFolded_keeps : State.Keeps {o | o ∈ foldRegs u} s (s.cvuFolded u) := by
  unfold State.cvuFolded
  split_ifs
  · unfold State.cvuFold
    exact (((State.Keeps.setFld s _ (by simp [R.CVU_U_VALUE_V])).trans (State.Keeps.setFld _ _ (by simp [R.CVU_U_POSN_FED]))).trans
      (State.Keeps.setFld _ _ (by simp [R.CVU_U_ALIVE_COUNT]))).trans (State.Keeps.setFld _ _ (by simp [R.CVU_U_STAT_AOUT]))
  · exact State.Keeps.refl _ s

theorem State.cvuFolded_value : (s.cvuFolded u).fld (R.CVU_U_VALUE_V u) = s.cvuLast u := by
  unfold State.cvuFolded State.cvuLast
  split_ifs
  · exact s.fld_cvuFold_value u
  · rfl

theorem not_foldRegs {o : Nat} (h : Nat.beq o 0x80120 = false ∧ Nat.beq o 0x80148 = false ∧ Nat.beq o 0x80140 = false ∧ Nat.beq o 0x80150 = false) :
    o + u.val * 0x80 ∉ {o | o ∈ foldRegs u} := by
  obtain ⟨hv, hp, ha, hs⟩ := h
  have hne : ∀ x ∈ foldRegs u, o + u.val * 0x80 ≠ x := by
    simp only [List.forall_mem_cons, List.not_mem_nil, false_imp_iff, implies_true, and_true]
    exact ⟨cvu_ne u hv, cvu_ne u hp, cvu_ne u ha, cvu_ne u hs⟩
  exact fun hm => hne _ hm rfl

theorem State.cvuShow_keeps : State.Keeps {o | o ∈ [R.CVU_U_RESULT u, R.CVU_U_STAT u]} s (s.cvuShow u) := by
  unfold State.cvuShow
  exact ((State.Keeps.setFld s _ (by simp [R.CVU_U_RESULT_V])).trans (State.Keeps.setFld _ _ (by simp [R.CVU_U_STAT_OPEN]))).trans
    (State.Keeps.setFld _ _ (by simp [R.CVU_U_STAT_DONE]))

theorem State.cvuShow_stat : (s.cvuShow u).flag (R.CVU_U_STAT_OPEN u) = false ∧ (s.cvuShow u).flag (R.CVU_U_STAT_DONE u) = true := by
  unfold State.cvuShow State.flag
  rw [State.fld_setFld_apart _ _ _ _ rfl rfl, State.fld_setFld_here _ _ _ rfl, State.fld_setFld_here _ _ _ rfl]
  exact ⟨rfl, rfl⟩

/-- RESULT of FINISH. -/
def State.cvuResult (s : State) (u : Nat) : Nat :=
  crcOut (s.cvuW u) (s.flag (R.CVU_U_CFG_REFOUT u)) (s.fld (R.CVU_U_XOROUT_V u)) (s.cvuLast u) % 2 ^ 64

/-- The unit with its result shown, before the comparison. -/
def State.cvuShown (s : State) (u : Nat) : State := (s.cvuFolded u).cvuShow u

theorem State.cvuShown_keeps : State.Keeps {o | o ∈ R.CVU_U_RESULT u :: foldRegs u} s (s.cvuShown u) :=
  ((s.cvuFolded_keeps u).mono fun _ ho => List.mem_cons_of_mem _ ho).trans (((s.cvuFolded u).cvuShow_keeps u).mono fun o ho => by
    have hm : o ∈ [R.CVU_U_RESULT u, R.CVU_U_STAT u] := ho
    have hsub : [R.CVU_U_RESULT u, R.CVU_U_STAT u] ⊆ R.CVU_U_RESULT u :: foldRegs u := by simp [foldRegs]
    exact hsub hm)

theorem not_shownRegs {o : Nat} (hr : Nat.beq o 0x80130 = false)
    (h : Nat.beq o 0x80120 = false ∧ Nat.beq o 0x80148 = false ∧ Nat.beq o 0x80140 = false ∧ Nat.beq o 0x80150 = false) :
    o + u.val * 0x80 ∉ {o | o ∈ R.CVU_U_RESULT u :: foldRegs u} := fun hm => by
  rcases List.mem_cons.1 hm with hc | hc
  · exact cvu_ne u hr hc
  · exact not_foldRegs u h hc

theorem State.cvuShown_value : (s.cvuShown u).fld (R.CVU_U_VALUE_V u) = s.cvuLast u := by
  rw [State.cvuShown, State.fld_cvuShow_other (cvu_ne u rfl : R.CVU_U_VALUE u ≠ R.CVU_U_RESULT u) (.inl (cvu_ne u rfl)), State.cvuFolded_value]

theorem State.cvuShown_result : (s.cvuShown u).fld (R.CVU_U_RESULT_V u) = s.cvuResult u := by
  have hk := s.cvuFolded_keeps u
  have hcfg (g : Fld) (hg : g.off = R.CVU_U_CFG u) : (s.cvuFolded u).fld g = s.fld g := hk.fld (by rw [hg]; exact not_foldRegs u ⟨rfl, rfl, rfl, rfl⟩)
  have hxor : (s.cvuFolded u).fld (R.CVU_U_XOROUT_V u) = s.fld (R.CVU_U_XOROUT_V u) := hk.fld (not_foldRegs u ⟨rfl, rfl, rfl, rfl⟩)
  rw [State.cvuShown, State.fld_cvuShow_result, State.cvuFolded_value, State.cvuResult, State.cvuW, State.flag, hcfg _ rfl, hcfg _ rfl, hxor]
  rfl

/-- Whether the comparison with EXPECT mismatches. -/
def State.cvuDiffers (s : State) (u : Nat) : Prop := s.flag (R.CVU_U_CFG_EXPEN u) = true ∧ s.cvuResult u ≠ s.fld (R.CVU_U_EXPECT_V u) % 2 ^ s.cvuW u

/-- The unit after the comparison. -/
def State.cvuCompared (s : State) (u : Nat) : State := ((s.cvuShown u).cvuCompare u).1

theorem State.cvuCompare_bad : ((s.cvuShown u).cvuCompare u).2 = true ↔ s.cvuDiffers u := by
  have hk := s.cvuShown_keeps u
  have hen : (s.cvuShown u).flag (R.CVU_U_CFG_EXPEN u) = s.flag (R.CVU_U_CFG_EXPEN u) := hk.flag (g := R.CVU_U_CFG_EXPEN u) (not_shownRegs u rfl ⟨rfl, rfl, rfl, rfl⟩)
  have hw : (s.cvuShown u).cvuW u = s.cvuW u := hk.fld (g := R.CVU_U_CFG_WIDTH u) (not_shownRegs u rfl ⟨rfl, rfl, rfl, rfl⟩)
  have hx : (s.cvuShown u).fld (R.CVU_U_EXPECT_V u) = s.fld (R.CVU_U_EXPECT_V u) := hk.fld (not_shownRegs u rfl ⟨rfl, rfl, rfl, rfl⟩)
  unfold State.cvuCompare State.cvuDiffers
  rw [hen, hw, hx, State.cvuShown_result]
  by_cases he : s.flag (R.CVU_U_CFG_EXPEN u) = true
  · rw [he, if_neg (by decide)]
    by_cases heq : s.cvuResult u = s.fld (R.CVU_U_EXPECT_V u) % 2 ^ s.cvuW u
    · rw [if_pos heq]
      simp [heq]
    · rw [if_neg heq]
      simp [heq]
  · rw [Bool.eq_false_iff.2 he, if_pos (by decide)]
    simp

theorem State.cvuCompare_keeps (t : State) (u : Nat) : State.Keeps {R.CVU_U_STAT u} t (t.cvuCompare u).1 := by
  have hset (t : State) {f : Fld} (hf : f.off = R.CVU_U_STAT u) (v : Nat) : State.Keeps {R.CVU_U_STAT u} t (t.setFld f v) := State.Keeps.setFld t v hf
  unfold State.cvuCompare
  split_ifs
  · exact State.Keeps.refl _ t
  · exact hset t rfl _
  · exact ((hset t rfl _).trans (hset _ rfl _)).trans (hset _ (f := R.CVU_U_STAT_MISCNT u) rfl _)

end

section
variable (s : State) (u : Fin 32)

theorem cvuPage (u : Fin 32) {o : Nat} (h : o < 0x80) : 0x80100 + o + u.val * 0x80 ≠ R.CVU_EVENT ∧ 0x80100 + o + u.val * 0x80 ≠ R.PCIEA_F_LOST 0 := by
  have hu := u.isLt
  unfold R.CVU_EVENT R.PCIEA_F_LOST
  omega

/-- The registers of an event. -/
abbrev eventRegs : Set Nat := {R.CVU_EVENT, R.PCIEA_F_LOST 0}

theorem not_eventRegs (u : Fin 32) {o x : Nat} (hx : o = 0x80100 + x + u.val * 0x80) (h : x < 0x80) : o ∉ eventRegs := by
  obtain ⟨hevent, hlost⟩ := cvuPage u h
  rintro (ho | ho)
  · exact hevent (hx ▸ ho)
  · exact hlost (hx ▸ ho)

theorem State.cvuEvent_keeps : State.Keeps eventRegs s (s.cvuEvent u) := by
  unfold State.cvuEvent
  dsimp only
  split_ifs
  · exact (State.Keeps.setFld s _ (.inl rfl)).trans (State.Keeps.of_outer (State.Outer.postEvent _ (.inr rfl) _ _))
  · exact State.Keeps.setFld s _ (.inl rfl)

theorem State.cvuEvent_bit : bit ((s.cvuEvent u).fld R.CVU_EVENT_UNIT) u = true := by
  have hb : bit ((s.fldBitSet R.CVU_EVENT_UNIT u).fld R.CVU_EVENT_UNIT) u = true := State.bit_fldBitSet s rfl u.isLt
  unfold State.cvuEvent
  dsimp only
  split_ifs
  · rw [State.fld_postEvent_other (show R.CVU_EVENT ≠ R.PCIEA_F_LOST 0 by decide)]
    exact hb
  · exact hb

/-! ### The comparison -/

theorem State.cvuShown_miscnt : (s.cvuShown u).fld (R.CVU_U_STAT_MISCNT u) = s.fld (R.CVU_U_STAT_MISCNT u) := by
  have hfold : (s.cvuFolded u).fld (R.CVU_U_STAT_MISCNT u) = s.fld (R.CVU_U_STAT_MISCNT u) := by
    unfold State.cvuFolded
    split_ifs
    · unfold State.cvuFold
      rw [State.fld_setFld_apart _ _ _ _ rfl rfl, State.fld_setFld_off _ _ _ _ (show R.CVU_U_STAT u ≠ R.CVU_U_ALIVE u from cvu_ne u rfl),
        State.fld_setFld_off _ _ _ _ (show R.CVU_U_STAT u ≠ R.CVU_U_POSN u from cvu_ne u rfl),
        State.fld_setFld_off _ _ _ _ (show R.CVU_U_STAT u ≠ R.CVU_U_VALUE u from cvu_ne u rfl)]
    · rfl
  rw [State.cvuShown, State.fld_cvuShow_other (show R.CVU_U_STAT u ≠ R.CVU_U_RESULT u from cvu_ne u rfl) (.inr (by show 6 ≤ 16; decide)), hfold]

theorem State.cvuCompared_keeps : State.Keeps {R.CVU_U_STAT u} (s.cvuShown u) (s.cvuCompared u) := State.cvuCompare_keeps _ _

theorem State.cvuCompared_stat {g : Fld} (hin : 5 ≤ g.lo ∧ g.lo + g.w ≤ 16 ∨ g.lo = 3 ∧ g.w = 1) :
    (s.cvuCompared u).fld g = (s.cvuShown u).fld g := by
  rcases hin with hmid | ⟨hlo, hw⟩
  · exact State.fld_cvuCompare_other (.inr hmid)
  · unfold State.cvuCompared State.cvuCompare
    split_ifs
    · rfl
    · exact State.fld_setFld_other _ (R.CVU_U_STAT_MATCH u) _ _ (by decide : 4 + 1 ≤ 64) (.inr (.inr (show g.lo + g.w ≤ 4 by omega)))
    · rw [State.satInc, State.satAdd, State.fld_setFld_other _ _ _ _ (by decide : 16 + 8 ≤ 64) (.inr (.inr (show g.lo + g.w ≤ 16 by omega))),
        State.fld_setFld_other _ _ _ _ (by decide : 1 + 1 ≤ 64) (.inr (.inl (show 1 + 1 ≤ g.lo by omega))),
        State.fld_setFld_other _ _ _ _ (by decide : 4 + 1 ≤ 64) (.inr (.inr (show g.lo + g.w ≤ 4 by omega)))]

theorem State.cvuCompared_match (he : s.flag (R.CVU_U_CFG_EXPEN u) = true) (hd : ¬ s.cvuDiffers u) :
    (s.cvuCompared u).flag (R.CVU_U_STAT_MATCH u) = true := by
  have hbad : ¬ ((s.cvuShown u).cvuCompare u).2 = true := fun hc => hd ((s.cvuCompare_bad u).1 hc)
  have hen : (s.cvuShown u).flag (R.CVU_U_CFG_EXPEN u) = true :=
    ((s.cvuShown_keeps u).flag (g := R.CVU_U_CFG_EXPEN u) (not_shownRegs u rfl ⟨rfl, rfl, rfl, rfl⟩)).trans he
  unfold State.cvuCompared
  unfold State.cvuCompare at hbad ⊢
  rw [hen, if_neg (by decide)] at hbad ⊢
  split_ifs at hbad ⊢
  · exact congrArg (· == 1) (State.fld_setFld_here _ (R.CVU_U_STAT_MATCH u) 1 rfl)
  · exact absurd rfl hbad

theorem State.cvuCompared_mismatch (hd : s.cvuDiffers u) : (s.cvuCompared u).flag (R.CVU_U_STAT_MATCH u) = false ∧
    (s.cvuCompared u).flag (R.CVU_U_STAT_MISMATCH u) = true ∧
    (s.cvuCompared u).fld (R.CVU_U_STAT_MISCNT u) = min (s.fld (R.CVU_U_STAT_MISCNT u) + 1) 255 := by
  have hbad := (s.cvuCompare_bad u).2 hd
  have hcount := s.cvuShown_miscnt u
  unfold State.cvuCompared
  generalize s.cvuShown u = t at hbad hcount ⊢
  have hc : (t.cvuCompare u).1 = ((t.setFld (R.CVU_U_STAT_MATCH u) 0).setFld (R.CVU_U_STAT_MISMATCH u) 1).satInc (R.CVU_U_STAT_MISCNT u) := by
    unfold State.cvuCompare at hbad ⊢
    split_ifs at hbad ⊢
    · rfl
  have hinc (v : State) : (v.satInc (R.CVU_U_STAT_MISCNT u)).fld (R.CVU_U_STAT_MISCNT u) = min (v.fld (R.CVU_U_STAT_MISCNT u) + 1) 255 :=
    State.fld_satInc v (R.CVU_U_STAT_MISCNT u) (by show 16 + 8 ≤ 64; decide)
  rw [hc]
  refine ⟨?_, ?_, ?_⟩
  · rw [State.satInc, State.satAdd, State.flag, State.fld_setFld_apart _ _ _ _ rfl rfl, State.fld_setFld_apart _ _ _ _ rfl rfl, State.fld_setFld_here _ _ _ rfl]
    rfl
  · rw [State.satInc, State.satAdd, State.flag, State.fld_setFld_apart _ _ _ _ rfl rfl, State.fld_setFld_here _ _ _ rfl]
    rfl
  · rw [hinc, State.fld_setFld_apart _ _ _ _ rfl rfl, State.fld_setFld_apart _ _ _ _ rfl rfl, hcount]

/-! ### The alive check -/

variable (aw maxStep count : Nat) (bad : Bool)

/-- The outcome of a unit's alive check. -/
def State.cvuOutcome (s : State) (u aw maxStep count : Nat) (bad : Bool) : Nat × Nat :=
  aliveOutcome aw maxStep count (s.fld (R.CVU_U_POSN_CAP u))
    (s.fld (R.CVU_U_POSN_FED u) < s.fld (R.CVU_U_ALIVE_POS u) + aw) bad (s.cvuAccepted u)

/-- A unit with an outcome shown. -/
def State.cvuOutcomeShown (s : State) (u code next : Nat) (seen : Bool) : State :=
  if code = 1 then (s.setFld (R.CVU_U_STAT_AOUT u) code).setCvuCount u next seen
  else ((s.setFld (R.CVU_U_STAT_AOUT u) code).setCvuCount u next seen).setFld (R.CVU_U_STAT_ALIVE_ERR u) 1

theorem State.cvuOutcomeShown_shows (code next : Nat) (seen : Bool) :
    (s.cvuOutcomeShown u code next seen).fld (R.CVU_U_STAT_AOUT u) = code % 16 ∧
    (s.cvuOutcomeShown u code next seen).fld (R.CVU_U_ALIVE_COUNT u) = next % 2 ^ 32 ∧
    (code ≠ 1 → (s.cvuOutcomeShown u code next seen).flag (R.CVU_U_STAT_ALIVE_ERR u) = true) ∧
    State.Keeps {R.CVU_U_STAT u, R.CVU_U_ALIVE u} s (s.cvuOutcomeShown u code next seen) ∧
    ∀ g : Fld, g.off = R.CVU_U_STAT u → 3 ≤ g.lo ∧ g.lo + g.w ≤ 12 ∨ 16 ≤ g.lo ∨ g.lo + g.w ≤ 2 →
      (s.cvuOutcomeShown u code next seen).fld g = s.fld g := by
  have hsa : R.CVU_U_STAT u ≠ R.CVU_U_ALIVE u := cvu_ne u rfl
  have hset : State.Keeps {R.CVU_U_STAT u, R.CVU_U_ALIVE u} s (s.setFld (R.CVU_U_STAT_AOUT u) code) := State.Keeps.setFld s _ (.inl rfl)
  have haout : (s.setFld (R.CVU_U_STAT_AOUT u) code).fld (R.CVU_U_STAT_AOUT u) = code % 16 := State.fld_setFld_here s _ _ rfl
  obtain ⟨hcount, -, -, hk⟩ := (s.setFld (R.CVU_U_STAT_AOUT u) code).setCvuCount_shows u next seen
  have hstat (g : Fld) (hg : g.off = R.CVU_U_STAT u) : ((s.setFld (R.CVU_U_STAT_AOUT u) code).setCvuCount u next seen).fld g =
      (s.setFld (R.CVU_U_STAT_AOUT u) code).fld g := hk.fld (by rw [hg]; exact hsa)
  have hother (g : Fld) (hg : 3 ≤ g.lo ∧ g.lo + g.w ≤ 12 ∨ 16 ≤ g.lo ∨ g.lo + g.w ≤ 2) : (s.setFld (R.CVU_U_STAT_AOUT u) code).fld g = s.fld g :=
    State.fld_setFld_other s (R.CVU_U_STAT_AOUT u) g code (by decide : 12 + 4 ≤ 64) (.inr (show 12 + 4 ≤ g.lo ∨ g.lo + g.w ≤ 12 by omega))
  have hboth := hset.trans (hk.mono (fun o (ho : o = R.CVU_U_ALIVE u) => Or.inr ho))
  unfold State.cvuOutcomeShown
  generalize (s.setFld (R.CVU_U_STAT_AOUT u) code).setCvuCount u next seen = t at *
  by_cases h1 : code = 1
  · rw [if_pos h1]
    exact ⟨(hstat (R.CVU_U_STAT_AOUT u) rfl).trans haout, hcount, fun hn => absurd h1 hn, hboth, fun g hg hin => (hstat g hg).trans (hother g hin)⟩
  · rw [if_neg h1]
    refine ⟨?_, ?_, fun _ => ?_, hboth.trans (State.Keeps.setFld t _ (.inl rfl)), fun g hg hin => ?_⟩
    · rw [State.fld_setFld_apart _ _ _ _ rfl rfl, hstat _ rfl, haout]
    · exact (State.fld_setFld_off _ _ _ _ hsa.symm).trans hcount
    · exact congrArg (· == 1) (State.fld_setFld_here t (R.CVU_U_STAT_ALIVE_ERR u) 1 rfl)
    · exact (State.fld_setFld_other t (R.CVU_U_STAT_ALIVE_ERR u) g 1 (by decide : 2 + 1 ≤ 64) (.inr (show 2 + 1 ≤ g.lo ∨ g.lo + g.w ≤ 2 by omega))).trans
        ((hstat g hg).trans (hother g hin))

theorem State.cvuCheck_eq : ∃ seen, s.cvuCheck u aw maxStep count bad =
    if (s.cvuOutcome u aw maxStep count bad).1 ≠ 1 ∨ bad = true then
      (s.cvuOutcomeShown u (s.cvuOutcome u aw maxStep count bad).1 (s.cvuOutcome u aw maxStep count bad).2 seen).cvuEvent u
    else s.cvuOutcomeShown u (s.cvuOutcome u aw maxStep count bad).1 (s.cvuOutcome u aw maxStep count bad).2 seen := ⟨_, rfl⟩

end

section
variable (s : State) (u : Fin 32) (maxStep : Nat)

theorem State.cvuClose_plain (h : s.fld (R.CVU_U_CFG_ALIVE u) ≠ 2) : State.Keeps eventRegs (s.cvuCompared u) (s.cvuClose u maxStep) := by
  have hclose : s.cvuClose u maxStep = if ((s.cvuShown u).cvuCompare u).2 then (s.cvuCompared u).cvuEvent u else s.cvuCompared u := by
    rw [State.cvuClose_eq]
    exact if_neg h
  rw [hclose]
  split_ifs
  · exact State.cvuEvent_keeps _ u
  · exact State.Keeps.refl _ _

/-- The outcome of the alive check of FINISH. -/
def State.cvuFinal (s : State) (u maxStep : Nat) : Nat × Nat :=
  (s.cvuCompared u).cvuOutcome u (s.cvuAw u) maxStep (s.fld (R.CVU_U_ALIVE_COUNT u)) ((s.cvuShown u).cvuCompare u).2

theorem State.cvuClose_checked (h : s.fld (R.CVU_U_CFG_ALIVE u) = 2) : ∃ seen, s.cvuClose u maxStep =
    if (s.cvuFinal u maxStep).1 ≠ 1 ∨ ((s.cvuShown u).cvuCompare u).2 = true then
      ((s.cvuCompared u).cvuOutcomeShown u (s.cvuFinal u maxStep).1 (s.cvuFinal u maxStep).2 seen).cvuEvent u
    else (s.cvuCompared u).cvuOutcomeShown u (s.cvuFinal u maxStep).1 (s.cvuFinal u maxStep).2 seen := by
  obtain ⟨seen, hs⟩ := (s.cvuCompared u).cvuCheck_eq u (s.cvuAw u) maxStep (s.fld (R.CVU_U_ALIVE_COUNT u)) ((s.cvuShown u).cvuCompare u).2
  refine ⟨seen, Eq.trans ?_ hs⟩
  rw [State.cvuClose_eq]
  exact if_pos h

/-- After the comparison FINISH writes the outcome, the counter and the event alone. -/
theorem State.cvuClose_keeps : State.Keeps ({R.CVU_U_STAT u.val, R.CVU_U_ALIVE u} ∪ eventRegs) (s.cvuCompared u) (s.cvuClose u maxStep) := by
  by_cases h : s.fld (R.CVU_U_CFG_ALIVE u) = 2
  · obtain ⟨seen, hs⟩ := s.cvuClose_checked u maxStep h
    obtain ⟨-, -, -, hk, -⟩ := (s.cvuCompared u).cvuOutcomeShown_shows u (s.cvuFinal u maxStep).1 (s.cvuFinal u maxStep).2 seen
    rw [hs]
    split_ifs
    · exact (hk.mono fun _ ho => Or.inl ho).trans ((State.cvuEvent_keeps _ u).mono fun _ ho => Or.inr ho)
    · exact hk.mono fun _ ho => Or.inl ho
  · exact (s.cvuClose_plain u maxStep h).mono fun _ ho => Or.inr ho

theorem State.cvuClose_stat {g : Fld} (hg : g.off = R.CVU_U_STAT u) (hin : 3 ≤ g.lo ∧ g.lo + g.w ≤ 12 ∨ 16 ≤ g.lo ∨ g.lo + g.w ≤ 2) :
    (s.cvuClose u maxStep).fld g = (s.cvuCompared u).fld g := by
  have hoff : g.off ∉ eventRegs := by
    rw [hg]
    exact not_eventRegs u (x := 0x50) rfl (by decide)
  by_cases h : s.fld (R.CVU_U_CFG_ALIVE u) = 2
  · obtain ⟨seen, hs⟩ := s.cvuClose_checked u maxStep h
    obtain ⟨-, -, -, -, hstat⟩ := (s.cvuCompared u).cvuOutcomeShown_shows u (s.cvuFinal u maxStep).1 (s.cvuFinal u maxStep).2 seen
    rw [hs]
    split_ifs
    · exact ((State.cvuEvent_keeps _ u).fld hoff).trans (hstat g hg hin)
    · exact hstat g hg hin
  · exact (s.cvuClose_plain u maxStep h).fld hoff

/-- A mismatch gives the unit's event. -/
theorem State.cvuClose_event (hd : s.cvuDiffers u) : bit ((s.cvuClose u maxStep).fld R.CVU_EVENT_UNIT) u = true := by
  have hbad := (s.cvuCompare_bad u).2 hd
  by_cases h : s.fld (R.CVU_U_CFG_ALIVE u) = 2
  · obtain ⟨seen, hs⟩ := s.cvuClose_checked u maxStep h
    rw [hs, if_pos (.inr hbad)]
    exact State.cvuEvent_bit _ u
  · rw [State.cvuClose_eq]
    have hclose := (if_neg h : (if s.fld (R.CVU_U_CFG_ALIVE u) = 2 then (s.cvuCompared u).cvuCheck u (s.cvuAw u) maxStep (s.fld (R.CVU_U_ALIVE_COUNT u))
      ((s.cvuShown u).cvuCompare u).2 else if ((s.cvuShown u).cvuCompare u).2 then (s.cvuCompared u).cvuEvent u else s.cvuCompared u) = _).trans (if_pos hbad)
    exact (congrArg (fun t : State => bit (t.fld R.CVU_EVENT_UNIT) u) hclose).trans (State.cvuEvent_bit _ u)

/-- The outcome of the alive check is shown with its counter, and an error with its event. -/
theorem State.cvuClose_outcome (h : s.fld (R.CVU_U_CFG_ALIVE u) = 2) :
    (s.cvuClose u maxStep).fld (R.CVU_U_STAT_AOUT u) = (s.cvuFinal u maxStep).1 % 16 ∧
    (s.cvuClose u maxStep).fld (R.CVU_U_ALIVE_COUNT u) = (s.cvuFinal u maxStep).2 % 2 ^ 32 ∧
    ((s.cvuFinal u maxStep).1 ≠ 1 → (s.cvuClose u maxStep).flag (R.CVU_U_STAT_ALIVE_ERR u) = true ∧
      bit ((s.cvuClose u maxStep).fld R.CVU_EVENT_UNIT) u = true) := by
  have hstat : R.CVU_U_STAT u ∉ eventRegs := not_eventRegs u (x := 0x50) rfl (by decide)
  have halive : R.CVU_U_ALIVE u ∉ eventRegs := not_eventRegs u (x := 0x40) rfl (by decide)
  obtain ⟨seen, hs⟩ := s.cvuClose_checked u maxStep h
  obtain ⟨haout, hcount, herr, -, -⟩ := (s.cvuCompared u).cvuOutcomeShown_shows u (s.cvuFinal u maxStep).1 (s.cvuFinal u maxStep).2 seen
  have hk := State.cvuEvent_keeps ((s.cvuCompared u).cvuOutcomeShown u (s.cvuFinal u maxStep).1 (s.cvuFinal u maxStep).2 seen) u
  rw [hs]
  by_cases hev : (s.cvuFinal u maxStep).1 ≠ 1 ∨ ((s.cvuShown u).cvuCompare u).2 = true
  · rw [if_pos hev]
    exact ⟨(hk.fld (g := R.CVU_U_STAT_AOUT u) hstat).trans haout, (hk.fld (g := R.CVU_U_ALIVE_COUNT u) halive).trans hcount,
      fun h1 => ⟨(hk.flag (g := R.CVU_U_STAT_ALIVE_ERR u) hstat).trans (herr h1), State.cvuEvent_bit _ u⟩⟩
  · rw [if_neg hev]
    exact ⟨haout, hcount, fun h1 => absurd (Or.inl h1) hev⟩

/-- The alive check reads the unit as it was before FINISH. -/
theorem State.cvuFinal_eq (h : s.fld (R.CVU_U_CFG_ALIVE u) = 2) : s.cvuFinal u maxStep =
    aliveOutcome (s.cvuAw u) maxStep (s.fld (R.CVU_U_ALIVE_COUNT u)) (s.fld (R.CVU_U_POSN_CAP u))
      (s.fld (R.CVU_U_POSN_FED u) < s.fld (R.CVU_U_ALIVE_POS u) + s.cvuAw u) ((s.cvuShown u).cvuCompare u).2 (bit s.cvuSeen u) := by
  have hfold : s.cvuFolded u = s := if_neg (by rw [h]; decide)
  have hk : State.Keeps {o | o ∈ [R.CVU_U_RESULT u, R.CVU_U_STAT u]} s (s.cvuCompared u) := by
    have hshow := s.cvuShow_keeps u
    have hshown : s.cvuShown u = s.cvuShow u := congrArg (State.cvuShow · u) hfold
    rw [← hshown] at hshow
    exact hshow.trans ((s.cvuCompared_keeps u).mono fun o (ho : o = R.CVU_U_STAT u) => by
      rw [ho]
      exact List.mem_cons_of_mem _ (List.mem_cons_self ..))
  have hnot {x : Nat} (hr : Nat.beq x 0x80130 = false) (hst : Nat.beq x 0x80150 = false) : x + u.val * 0x80 ∉ {o | o ∈ [R.CVU_U_RESULT u, R.CVU_U_STAT u]} := by
    intro hm
    rcases List.mem_cons.1 hm with hc | hc
    · exact cvu_ne u hr hc
    · exact cvu_ne u hst (List.mem_singleton.1 hc)
  have hseen : (s.cvuCompared u).cvuAccepted u = bit s.cvuSeen u := by
    have hcmp (t : State) : (t.cvuCompare u).1.cvuSeen = t.cvuSeen := by
      unfold State.cvuCompare
      split_ifs
      · rfl
      · rw [State.setFld_cvuSeen]
      · rw [State.satInc, State.satAdd, State.setFld_cvuSeen, State.setFld_cvuSeen, State.setFld_cvuSeen]
    have hshow : (s.cvuShown u).cvuSeen = s.cvuSeen := by
      rw [State.cvuShown, hfold, State.cvuShow, State.setFld_cvuSeen, State.setFld_cvuSeen, State.setFld_cvuSeen]
    exact congrArg (bit · u) ((hcmp _).trans hshow)
  unfold State.cvuFinal State.cvuOutcome
  rw [hseen, hk.fld (g := R.CVU_U_POSN_CAP u) (hnot rfl rfl), hk.fld (g := R.CVU_U_POSN_FED u) (hnot rfl rfl),
    hk.fld (g := R.CVU_U_ALIVE_POS u) (hnot rfl rfl)]

end

section
variable (s : State) (u : Fin 32)

theorem State.cvuLast_eq : s.cvuLast u = if s.fld (R.CVU_U_CFG_ALIVE u) = 1 then
    crcFeed (s.cvuW u) (s.fld (R.CVU_U_POLY_V u)) (s.flag (R.CVU_U_CFG_REFIN u)) (s.fld (R.CVU_U_VALUE_V u))
      ((List.range (s.cvuAw u)).map (fun i => BitVec.ofNat 8 (s.fld (R.CVU_U_ALIVE_COUNT u) / 256 ^ i))) % 2 ^ 64
    else s.fld (R.CVU_U_VALUE_V u) := by
  rw [State.cvuLast, leBytes_eq_map_range]
  rfl

theorem cvuWritten_page {o : Nat} (h8 : o / 0x10000 ≠ 8) (hc : o / 0x10000 ≠ 0xC) : o ∉ {o | o ∈ R.CVU_U_RESULT u :: foldRegs u} ∧ o ≠ R.CVU_U_STAT u ∧
    o ∉ ({R.CVU_U_STAT u.val, R.CVU_U_ALIVE u} ∪ eventRegs : Set Nat) := by
  have hu := u.isLt
  have hne (x : Nat) (hx : x < 0x80) : o ≠ 0x80100 + x + u.val * 0x80 := by omega
  refine ⟨fun hm => ?_, hne 0x50 (by decide), ?_⟩
  · have hall : ∀ x ∈ R.CVU_U_RESULT u :: foldRegs u, o ≠ x := by
      simp only [List.forall_mem_cons, List.not_mem_nil, false_imp_iff, implies_true, and_true]
      exact ⟨hne 0x30 (by decide), hne 0x20 (by decide), hne 0x48 (by decide), hne 0x40 (by decide), hne 0x50 (by decide)⟩
    exact hall o hm rfl
  · rintro ((ho | ho) | (ho | ho))
    · exact hne 0x50 (by decide) ho
    · exact hne 0x40 (by decide) ho
    · exact h8 (by rw [ho]; rfl)
    · exact hc (by rw [ho]; rfl)

/-- FINISH: what it shows in every mode. -/
theorem State.cvuClose_shows (maxStep : Nat) : (s.cvuClose u maxStep).fld (R.CVU_U_RESULT_V u) = s.cvuResult u ∧
    (s.cvuClose u maxStep).flag (R.CVU_U_STAT_OPEN u) = false ∧ (s.cvuClose u maxStep).flag (R.CVU_U_STAT_DONE u) = true ∧
    (s.cvuClose u maxStep).fld (R.CVU_U_VALUE_V u) = s.cvuLast u ∧
    (∀ o, o / 0x10000 ≠ 8 → o / 0x10000 ≠ 0xC → (s.cvuClose u maxStep).reg o = s.reg o) ∧ (s.cvuClose u maxStep).mem = s.mem ∧
    (s.cvuClose u maxStep).cores = s.cores := by
  have h1 := s.cvuShown_keeps u
  have h2 := s.cvuCompared_keeps u
  have h3 := s.cvuClose_keeps u maxStep
  have hword (g : Fld) (x : Nat) (hx : x < 0x80) (hg : g.off = 0x80100 + x + u.val * 0x80) (h50 : x ≠ 0x50) (h40 : x ≠ 0x40) :
      (s.cvuClose u maxStep).fld g = (s.cvuShown u).fld g := by
    have hnot : g.off ∉ ({R.CVU_U_STAT u.val, R.CVU_U_ALIVE u} ∪ eventRegs : Set Nat) := by
      rintro ((ho | ho) | ho)
      · exact absurd (hg.symm.trans ho) (by unfold R.CVU_U_STAT; omega)
      · exact absurd (hg.symm.trans ho) (by unfold R.CVU_U_ALIVE; omega)
      · exact not_eventRegs u hg hx ho
    exact (h3.fld hnot).trans (h2.fld fun (ho : g.off = R.CVU_U_STAT u) => absurd (hg.symm.trans ho) (by unfold R.CVU_U_STAT; omega))
  obtain ⟨hopen, hdone⟩ := (s.cvuFolded u).cvuShow_stat u
  refine ⟨?_, ?_, ?_, ?_, fun o h8 hc => ?_, ?_, ?_⟩
  · rw [hword (R.CVU_U_RESULT_V u) 0x30 (by decide) rfl (by decide) (by decide), s.cvuShown_result u]
  · rw [State.flag, s.cvuClose_stat u maxStep (g := R.CVU_U_STAT_OPEN u) rfl (.inl (by show 3 ≤ 5 ∧ 5 + 1 ≤ 12; decide)),
      s.cvuCompared_stat u (g := R.CVU_U_STAT_OPEN u) (.inl (by show 5 ≤ 5 ∧ 5 + 1 ≤ 16; decide))]
    exact hopen
  · rw [State.flag, s.cvuClose_stat u maxStep (g := R.CVU_U_STAT_DONE u) rfl (.inl (by show 3 ≤ 3 ∧ 3 + 1 ≤ 12; decide)),
      s.cvuCompared_stat u (g := R.CVU_U_STAT_DONE u) (.inr ⟨rfl, rfl⟩)]
    exact hdone
  · rw [hword (R.CVU_U_VALUE_V u) 0x20 (by decide) rfl (by decide) (by decide), s.cvuShown_value u]
  · obtain ⟨hn1, hn2, hn3⟩ := cvuWritten_page u h8 hc
    exact ((h3.reg o hn3).trans (h2.reg o hn2)).trans (h1.reg o hn1)
  · exact (h3.mem.trans h2.mem).trans h1.mem
  · exact (h3.cores.trans h2.cores).trans h1.cores

/-- FINISH with a generated counter. -/
theorem State.cvuClose_generated (maxStep : Nat) (h : s.fld (R.CVU_U_CFG_ALIVE u) = 1) : (s.cvuClose u maxStep).fld (R.CVU_U_STAT_AOUT u) = 1 ∧
    (s.cvuClose u maxStep).fld (R.CVU_U_ALIVE_COUNT u) = (s.fld (R.CVU_U_ALIVE_COUNT u) + 1) % 256 ^ s.cvuAw u ∧
    (s.cvuClose u maxStep).fld (R.CVU_U_POSN_FED u) = (s.fld (R.CVU_U_POSN_FED u) + s.cvuAw u) % 2 ^ 32 := by
  have h2 := s.cvuCompared_keeps u
  have h3 := s.cvuClose_plain u maxStep (by rw [h]; decide)
  have hfold : s.cvuFolded u = s.cvuFold u := if_pos h
  have hshow := (s.cvuFold u).cvuShow_keeps u
  have hshown : s.cvuShown u = (s.cvuFold u).cvuShow u := congrArg (State.cvuShow · u) hfold
  have hrest (g : Fld) (x : Nat) (hx : x < 0x80) (hg : g.off = 0x80100 + x + u.val * 0x80) (h50 : x ≠ 0x50) (h30 : x ≠ 0x30) :
      (s.cvuClose u maxStep).fld g = (s.cvuFold u).fld g := by
    have hst : g.off ≠ R.CVU_U_STAT u := fun ho => absurd (hg.symm.trans ho) (by unfold R.CVU_U_STAT; omega)
    have hrs : g.off ≠ R.CVU_U_RESULT u := fun ho => absurd (hg.symm.trans ho) (by unfold R.CVU_U_RESULT; omega)
    rw [h3.fld (not_eventRegs u hg hx), h2.fld (fun (ho : g.off = R.CVU_U_STAT u) => hst ho), hshown, State.fld_cvuShow_other hrs (.inl hst)]
  refine ⟨?_, ?_, ?_⟩
  · rw [h3.fld (g := R.CVU_U_STAT_AOUT u) (not_eventRegs u (x := 0x50) rfl (by decide)),
      s.cvuCompared_stat u (g := R.CVU_U_STAT_AOUT u) (.inl (by show 5 ≤ 12 ∧ 12 + 4 ≤ 16; decide)), hshown,
      State.fld_cvuShow_other (show R.CVU_U_STAT u ≠ R.CVU_U_RESULT u from cvu_ne u rfl) (.inr (by show 6 ≤ 12; decide)), State.fld_cvuFold_aout]
  · rw [hrest (R.CVU_U_ALIVE_COUNT u) 0x40 (by decide) rfl (by decide) (by decide), State.fld_cvuFold_count]
  · rw [hrest (R.CVU_U_POSN_FED u) 0x48 (by decide) rfl (by decide) (by decide), State.cvuFold,
      State.fld_setFld_off _ _ _ _ (show R.CVU_U_POSN u ≠ R.CVU_U_STAT u from cvu_ne u rfl),
      State.fld_setFld_off _ _ _ _ (show R.CVU_U_POSN u ≠ R.CVU_U_ALIVE u from cvu_ne u rfl)]
    exact State.fld_setFld_here _ (R.CVU_U_POSN_FED u) _ rfl

/-- FINISH of a unit without an alive counter leaves ALIVE and POSN. -/
theorem State.cvuClose_none (maxStep : Nat) (h1 : s.fld (R.CVU_U_CFG_ALIVE u) ≠ 1) (h2 : s.fld (R.CVU_U_CFG_ALIVE u) ≠ 2) :
    (s.cvuClose u maxStep).reg (R.CVU_U_ALIVE u) = s.reg (R.CVU_U_ALIVE u) ∧ (s.cvuClose u maxStep).reg (R.CVU_U_POSN u) = s.reg (R.CVU_U_POSN u) := by
  have hfold : s.cvuFolded u = s := if_neg h1
  have hshow := s.cvuShow_keeps u
  have hshown : s.cvuShown u = s.cvuShow u := congrArg (State.cvuShow · u) hfold
  rw [← hshown] at hshow
  have hcmp := s.cvuCompared_keeps u
  have hclose := s.cvuClose_plain u maxStep h2
  have hrest (o x : Nat) (hx : x < 0x80) (ho : o = 0x80100 + x + u.val * 0x80) (h50 : x ≠ 0x50) (h30 : x ≠ 0x30) :
      (s.cvuClose u maxStep).reg o = s.reg o := by
    have hst : o ≠ R.CVU_U_STAT u := fun hs => absurd (ho.symm.trans hs) (by unfold R.CVU_U_STAT; omega)
    have hrs : o ≠ R.CVU_U_RESULT u := fun hs => absurd (ho.symm.trans hs) (by unfold R.CVU_U_RESULT; omega)
    rw [hclose.reg o (not_eventRegs u ho hx), hcmp.reg o hst, hshow.reg o]
    intro hm
    rcases List.mem_cons.1 hm with hc | hc
    · exact hrs hc
    · exact hst (List.mem_singleton.1 hc)
  exact ⟨hrest _ 0x40 (by decide) rfl (by decide) (by decide), hrest _ 0x48 (by decide) rfl (by decide) (by decide)⟩

/-- What a check of the alive counter shows. -/
def State.CvuShows (t : State) (u : Fin 32) (code next : Nat) : Prop :=
  t.fld (R.CVU_U_STAT_AOUT u) = code ∧ t.fld (R.CVU_U_ALIVE_COUNT u) = next % 2 ^ 32 ∧
    (code ≠ 1 → t.flag (R.CVU_U_STAT_ALIVE_ERR u) = true ∧ bit (t.fld R.CVU_EVENT_UNIT) u = true)

theorem State.cvuClose_showsOutcome (maxStep : Nat) (h : s.fld (R.CVU_U_CFG_ALIVE u) = 2) {code next : Nat} (hf : s.cvuFinal u maxStep = (code, next))
    (hc : code < 16) : (s.cvuClose u maxStep).CvuShows u code next := by
  obtain ⟨haout, hcount, herr⟩ := s.cvuClose_outcome u maxStep h
  rw [hf] at haout hcount herr
  exact ⟨haout.trans (Nat.mod_eq_of_lt hc), hcount, herr⟩

/-- The outcomes of a check, in the order of R538. -/
theorem State.cvuClose_checks (maxStep : Nat) (h : s.fld (R.CVU_U_CFG_ALIVE u) = 2) :
    let t := s.cvuClose u maxStep
    let count := s.fld (R.CVU_U_ALIVE_COUNT u)
    let cap := s.fld (R.CVU_U_POSN_CAP u)
    let d := (cap + 256 ^ s.cvuAw u - count % 256 ^ s.cvuAw u) % 256 ^ s.cvuAw u
    let short := s.fld (R.CVU_U_POSN_FED u) < s.fld (R.CVU_U_ALIVE_POS u) + s.cvuAw u
    (short → t.CvuShows u 5 count) ∧ (¬ short → s.cvuDiffers u → t.CvuShows u 6 count) ∧
      (¬ short → ¬ s.cvuDiffers u → bit s.cvuSeen u = false → t.CvuShows u 2 cap) ∧
      (¬ short → ¬ s.cvuDiffers u → bit s.cvuSeen u = true → (d = 0 → t.CvuShows u 3 count) ∧ (max maxStep 1 < d → t.CvuShows u 4 cap) ∧
        (1 ≤ d → d ≤ max maxStep 1 → t.CvuShows u 1 cap)) := by
  intro t count cap d short
  have hfinal := s.cvuFinal_eq u maxStep h
  unfold aliveOutcome at hfinal
  have hbad := s.cvuCompare_bad u
  refine ⟨fun hs => ?_, fun hs hd => ?_, fun hs hd hn => ?_, fun hs hd hy => ⟨fun h0 => ?_, fun hlt => ?_, fun h1 hle => ?_⟩⟩
  · exact s.cvuClose_showsOutcome u maxStep h (hfinal.trans (if_pos (decide_eq_true hs))) (by decide)
  all_goals rw [if_neg fun hc => hs (of_decide_eq_true hc)] at hfinal
  · exact s.cvuClose_showsOutcome u maxStep h (hfinal.trans (if_pos (hbad.2 hd))) (by decide)
  all_goals rw [if_neg fun hc => hd (hbad.1 hc)] at hfinal
  · exact s.cvuClose_showsOutcome u maxStep h (hfinal.trans (if_pos (by rw [hn]; rfl))) (by decide)
  all_goals rw [hy, if_neg (by decide)] at hfinal
  · exact s.cvuClose_showsOutcome u maxStep h (hfinal.trans (if_pos h0)) (by decide)
  · exact s.cvuClose_showsOutcome u maxStep h ((hfinal.trans (if_neg (show ¬ d = 0 by omega))).trans (if_pos hlt)) (by decide)
  · exact s.cvuClose_showsOutcome u maxStep h ((hfinal.trans (if_neg (show ¬ d = 0 by omega))).trans (if_neg (show ¬ max maxStep 1 < d by omega))) (by decide)

end

section
variable {s : State} (h : s.st ≠ stTRIPPED) (n a : Nat) (u : Fin 32)
include h

/-- START. -/
theorem exec_cvuStart_shows : ∃ t, exec (.cvuStart (.core n a .m) u) s = .next t ∧
    t.fld (R.CVU_U_VALUE_V u) = s.fld (R.CVU_U_INIT_V u) % 2 ^ s.cvuW u % 2 ^ 64 ∧
    t.reg (R.CVU_U_POSN u) = 0 ∧ t.flag (R.CVU_U_STAT_OPEN u) = true ∧ t.flag (R.CVU_U_STAT_DONE u) = false ∧
    (∀ o, o ∉ [R.CVU_U_VALUE u, R.CVU_U_POSN u, R.CVU_U_STAT u] → t.reg o = s.reg o) ∧ t.mem = s.mem ∧ t.cores = s.cores := by
  obtain ⟨hv, hp, ho, hd, hk⟩ := s.cvuOpen_shows u
  exact ⟨_, exec_cvuStart h n a u, hv, hp, ho, hd, hk.reg, hk.mem, hk.cores⟩

/-- DATA with no stream open. -/
theorem exec_cvuDataWrite_closed (v : BitVec 32) (hc : s.flag (R.CVU_U_STAT_OPEN u) = false) : ∃ t, exec (.cvuDataWrite (.core n a .m) u v) s = .next t ∧
    t.fld (R.CVU_U_STAT_DISCARD u) = min (s.fld (R.CVU_U_STAT_DISCARD u) + 1) 255 ∧
    (∀ o, o ∉ [R.CVU_U_STAT u] → t.reg o = s.reg o) ∧ t.mem = s.mem ∧ t.cores = s.cores := by
  refine ⟨_, exec_cvuDataWrite h n a u v, ?_⟩
  rw [State.cvuFeed_closed hc]
  have hk := State.Keeps.satInc (O := {R.CVU_U_STAT u}) s (f := R.CVU_U_STAT_DISCARD u) rfl
  exact ⟨State.fld_satInc s (R.CVU_U_STAT_DISCARD u) (by show 24 + 8 ≤ 64; decide), fun o ho => hk.reg o (fun hs => ho (List.mem_singleton.2 hs)), hk.mem, hk.cores⟩

/-- DATA into an open stream. -/
theorem exec_cvuDataWrite_open (v : BitVec 32) (ho : s.flag (R.CVU_U_STAT_OPEN u) = true) :
    let k := s.fld (R.CVU_U_CFG_DBYTES u) + 1
    let l := (List.range k).map (fun i => (v.extractLsb' (8 * i) 8 : BitVec 8))
    let fed := s.fld (R.CVU_U_POSN_FED u)
    let cap := s.fld (R.CVU_U_POSN_CAP u)
    let mode := s.fld (R.CVU_U_CFG_ALIVE u)
    ∃ t, exec (.cvuDataWrite (.core n a .m) u v) s = .next t ∧ t.fld (R.CVU_U_VALUE_V u) = s.cvuValue u l % 2 ^ 64 ∧
      t.fld (R.CVU_U_POSN_FED u) = (fed + k) % 2 ^ 32 ∧
      (mode ≠ 2 → t.fld (R.CVU_U_POSN_CAP u) = cap) ∧
      (mode = 2 → fed + k ≤ s.fld (R.CVU_U_ALIVE_POS u) → t.fld (R.CVU_U_POSN_CAP u) = cap) ∧
      (mode = 2 → k = 1 → s.cvuAw u = 1 → fed = s.fld (R.CVU_U_ALIVE_POS u) → cap = 0 → t.fld (R.CVU_U_POSN_CAP u) = v.toNat % 256) ∧
      (∀ o, o ∉ [R.CVU_U_VALUE u, R.CVU_U_POSN u] → t.reg o = s.reg o) ∧ t.mem = s.mem ∧ t.cores = s.cores := by
  intro k l fed cap mode
  have hlen : l.length = k := (List.length_map ..).trans List.length_range
  have hcap : cap < 2 ^ 32 := State.fld_lt s (R.CVU_U_POSN_CAP u)
  obtain ⟨hvalue, hfed, hc, hk⟩ := State.cvuFeed_shows ho l
  refine ⟨_, exec_cvuDataWrite h n a u v, ?_⟩
  rw [leBytes_word]
  rw [hlen] at hfed
  refine ⟨hvalue, hfed, fun hm => ?_, fun hm hle => ?_, fun hm h1 haw hpos h0 => ?_, hk.reg, hk.mem, hk.cores⟩
  · have hsame : s.cvuCap u l = cap := if_neg hm
    rw [hc, hsame, Nat.mod_eq_of_lt hcap]
  · have hsame : s.cvuCap u l = cap := (if_pos hm).trans (captured_before (hlen.symm ▸ hle))
    rw [hc, hsame, Nat.mod_eq_of_lt hcap]
  · have hl : l = [BitVec.ofNat 8 v.toNat] := by
      show (List.range k).map _ = _
      rw [h1]
      rfl
    have hone (b : Byte) (pos : Nat) : captured pos 1 0 pos [b] = b.toNat := by
      rw [captured, if_pos ⟨Nat.le_refl _, Nat.lt_succ_self _⟩, Nat.sub_self, Nat.pow_zero, Nat.mul_one, Nat.zero_add, captured]
    have hcap1 : s.cvuCap u l = v.toNat % 256 := by
      refine (if_pos hm).trans ?_
      rw [haw, hl, ← hpos]
      show captured fed 1 cap fed _ = _
      rw [h0, hone]
      exact BitVec.toNat_ofNat ..
    rw [hc, hcap1]
    omega

/-- FINISH. -/
theorem exec_cvuFinish_shows :
    let t := s.cvuClose u (s.fld (R.CVU_U_CFG_MAXSTEP u))
    exec (.cvuFinish (.core n a .m) u) s = .next t ∧
      (s.flag (R.CVU_U_CFG_EXPEN u) = true → ¬ s.cvuDiffers u → t.flag (R.CVU_U_STAT_MATCH u) = true) ∧
      (s.cvuDiffers u → t.flag (R.CVU_U_STAT_MATCH u) = false ∧ t.flag (R.CVU_U_STAT_MISMATCH u) = true ∧
        t.fld (R.CVU_U_STAT_MISCNT u) = min (s.fld (R.CVU_U_STAT_MISCNT u) + 1) 255 ∧ bit (t.fld R.CVU_EVENT_UNIT) u = true) := by
  intro t
  have hm : t.fld (R.CVU_U_STAT_MATCH u) = (s.cvuCompared u).fld (R.CVU_U_STAT_MATCH u) :=
    s.cvuClose_stat u _ (g := R.CVU_U_STAT_MATCH u) rfl (.inl (by show 3 ≤ 4 ∧ 4 + 1 ≤ 12; decide))
  have hmm : t.fld (R.CVU_U_STAT_MISMATCH u) = (s.cvuCompared u).fld (R.CVU_U_STAT_MISMATCH u) :=
    s.cvuClose_stat u _ (g := R.CVU_U_STAT_MISMATCH u) rfl (.inr (.inr (by show 1 + 1 ≤ 2; decide)))
  have hmc : t.fld (R.CVU_U_STAT_MISCNT u) = (s.cvuCompared u).fld (R.CVU_U_STAT_MISCNT u) :=
    s.cvuClose_stat u _ (g := R.CVU_U_STAT_MISCNT u) rfl (.inr (.inl (by show 16 ≤ 16; decide)))
  refine ⟨(exec_cvuFinish _ u s).trans (execCvuFinish_closes h n a u), fun he hd => ?_, fun hd => ?_⟩
  · exact (congrArg (· == 1) hm).trans (s.cvuCompared_match u he hd)
  · obtain ⟨hno, hyes, hcount⟩ := s.cvuCompared_mismatch u hd
    exact ⟨(congrArg (· == 1) hm).trans hno, (congrArg (· == 1) hmm).trans hyes, hmc.trans hcount, s.cvuClose_event u _ hd⟩

/-- VALUE, POSN and EXPECT loaded. -/
theorem exec_cvuLoads_show (x : Word) :
    (∃ t, exec (.cvuValueWrite (.core n a .m) u (.whole x)) s = .next t ∧ t.fld (R.CVU_U_VALUE_V u) = x.toNat % 2 ^ s.cvuW u ∧
      t.flag (R.CVU_U_STAT_OPEN u) = true ∧ (∀ o, o ∉ [R.CVU_U_VALUE u, R.CVU_U_STAT u] → t.reg o = s.reg o) ∧ t.mem = s.mem ∧ t.cores = s.cores) ∧
    (∃ t, exec (.cvuPosnWrite (.core n a .m) u (.whole x)) s = .next t ∧ t.fld (R.CVU_U_POSN_FED u) = x.toNat / 2 ^ 32 ∧
      t.fld (R.CVU_U_POSN_CAP u) = x.toNat % 2 ^ 32 ∧ t.reg (R.CVU_U_STAT u) = s.reg (R.CVU_U_STAT u) ∧
      t.fld (R.CVU_U_VALUE_V u) = s.fld (R.CVU_U_VALUE_V u) % 2 ^ s.cvuW u ∧ t.mem = s.mem ∧ t.cores = s.cores) ∧
    (∃ t, exec (.cvuExpectWrite (.core n a .m) u (.whole x)) s = .next t ∧ t.fld (R.CVU_U_EXPECT_V u) = x.toNat % 2 ^ s.cvuW u ∧
      (∀ o, o ∉ [R.CVU_U_EXPECT u] → t.reg o = s.reg o) ∧ t.mem = s.mem ∧ t.cores = s.cores) := by
  have hfit : x.toNat % 2 ^ s.cvuW u % 2 ^ 64 = x.toNat % 2 ^ s.cvuW u := Nat.mod_eq_of_lt (lt_of_le_of_lt (Nat.mod_le _ _) x.isLt)
  refine ⟨⟨_, exec_cvuValueWrite h n a u x, ?_, ?_, ?_⟩, ?_, ⟨_, exec_cvuExpectWrite h n a u x, ?_, ?_⟩⟩
  · have hvs : R.CVU_U_VALUE u ≠ R.CVU_U_STAT u := cvu_ne u rfl
    rw [State.cvuSetValue, State.fld_setFld_off _ _ _ _ hvs, State.setCvuW]
    exact (State.fld_setFld_here s (R.CVU_U_VALUE_V u) _ rfl).trans hfit
  · exact congrArg (· == 1) (State.fld_setFld_here _ (R.CVU_U_STAT_OPEN u) 1 rfl)
  · have hk : State.Keeps {o | o ∈ [R.CVU_U_VALUE u, R.CVU_U_STAT u]} s (s.cvuSetValue u x.toNat) :=
      (State.Keeps.setFld s _ (by simp [R.CVU_U_VALUE_V])).trans (State.Keeps.setFld _ _ (by simp [R.CVU_U_STAT_OPEN]))
    exact ⟨hk.reg, hk.mem, hk.cores⟩
  · obtain ⟨w, hfed, hcap, hexec⟩ := exec_cvuPosnWrite h n a u x
    have hcut := (s.setReg (R.CVU_U_POSN u) w).cvuCut_keeps u
    have hnot {o : Nat} (ho : Nat.beq o 0x80108 = false ∧ Nat.beq o 0x80110 = false ∧ Nat.beq o 0x80118 = false ∧ Nat.beq o 0x80120 = false ∧
        Nat.beq o 0x80128 = false) : o + u.val * 0x80 ∉ cvuWide u := by
      obtain ⟨h1, h2, h3, h4, h5⟩ := ho
      have hne : ∀ y ∈ [R.CVU_U_POLY u.val, R.CVU_U_INIT u, R.CVU_U_XOROUT u, R.CVU_U_VALUE u, R.CVU_U_EXPECT u], o + u.val * 0x80 ≠ y := by
        simp only [List.forall_mem_cons, List.not_mem_nil, false_imp_iff, implies_true, and_true]
        exact ⟨cvu_ne u h1, cvu_ne u h2, cvu_ne u h3, cvu_ne u h4, cvu_ne u h5⟩
      exact fun hm => hne _ hm rfl
    have hposn (g : Fld) (hg : g.off = R.CVU_U_POSN u) : ((s.setReg (R.CVU_U_POSN u) w).cvuCut u).fld g = g.get w := by
      rw [hcut.fld (by rw [hg]; exact hnot ⟨rfl, rfl, rfl, rfl, rfl⟩), State.fld, State.reg_setReg, if_pos hg]
    have hother (g : Fld) (hg : g.off ≠ R.CVU_U_POSN u) : (s.setReg (R.CVU_U_POSN u) w).fld g = s.fld g :=
      congrArg g.get ((State.reg_setReg ..).trans (if_neg hg))
    refine ⟨_, hexec, (hposn _ rfl).trans hfed, (hposn _ rfl).trans hcap, ?_, ?_, hcut.mem, hcut.cores⟩
    · exact (hcut.reg (R.CVU_U_STAT u) (hnot ⟨rfl, rfl, rfl, rfl, rfl⟩)).trans
        ((State.reg_setReg ..).trans (if_neg (cvu_ne u rfl : R.CVU_U_STAT u ≠ R.CVU_U_POSN u)))
    · rw [State.cvuCut_value, State.cvuW, hother _ (cvu_ne u rfl : R.CVU_U_VALUE u ≠ R.CVU_U_POSN u),
        hother _ (cvu_ne u rfl : R.CVU_U_CFG u ≠ R.CVU_U_POSN u)]
      rfl
  · exact (State.fld_setFld_here s (R.CVU_U_EXPECT_V u) _ rfl).trans hfit
  · have hk : State.Keeps {R.CVU_U_EXPECT u} s (s.setCvuW u (R.CVU_U_EXPECT_V u) x.toNat) := State.Keeps.setFld s _ rfl
    exact ⟨fun o ho => hk.reg o (fun hs => ho (List.mem_singleton.2 hs)), hk.mem, hk.cores⟩

end

/-- What a passed unit shows does not lie in ACCERR. -/
theorem State.CvuPassed.recorded {s t r : State} {u : Fin 32} {owner : Nat} (hp : s.CvuPassed t u owner) (hr : State.RegFab {R.DEVICE_ACCERR} t r) :
    s.CvuPassed r u owner := by
  have hnot {x : Nat} (hx : 0x80100 ≤ x) : x + u.val * 0x80 ∉ ({R.DEVICE_ACCERR} : Set Nat) := fun hs => absurd hs (by
    show ¬ x + u.val * 0x80 = R.DEVICE_ACCERR
    unfold R.DEVICE_ACCERR
    omega)
  exact ⟨(hr.fld (g := R.CVU_U_CFG_OWNER u) (hnot (by decide))).trans hp.owner, (hr.flag (g := R.CVU_U_STAT_OPEN u) (hnot (by decide))).trans hp.closed,
    (hr.reg _ (hnot (by decide))).trans hp.posn, (hr.reg _ (hnot (by decide))).trans hp.expect,
    (hr.fld (g := R.CVU_U_ALIVE_COUNT u) (hnot (by decide))).trans hp.count, by rw [hr.cvuSeen]; exact hp.unseen, hr.mem.trans hp.mem, hr.cores.trans hp.cores⟩

section
variable {s : State} (h : s.st ≠ stTRIPPED) (n a : Nat) (u : Fin 32)
include h

/-- ALIVE loaded. -/
theorem exec_cvuAliveCountWrite_shows (x : Word) :
    let locked := s.flag R.CVU_LOCK_LOCK = true ∧ (u.val < 5 ∨ u.val = 9 ∨ (u.val < 9 ∧ s.hasDisp = true))
    ∃ t, exec (.cvuAliveCountWrite (.core n a .m) u (.whole x)) s = .next t ∧ t.fld (R.CVU_U_ALIVE_COUNT u) = x.toNat % 2 ^ 32 ∧
      bit t.cvuSeen u = true ∧ (¬ locked → t.fld (R.CVU_U_ALIVE_POS u) = x.toNat / 2 ^ 48) ∧
      (locked → t.fld (R.CVU_U_ALIVE_POS u) = s.fld (R.CVU_U_ALIVE_POS u)) ∧
      (∀ o, o ∉ [R.CVU_U_ALIVE u, R.DEVICE_ACCERR] → t.reg o = s.reg o) ∧ t.mem = s.mem ∧ t.cores = s.cores := by
  intro locked
  obtain ⟨w, b, hcount, hpos, hexec⟩ := exec_cvuAliveCountWrite h n a u x
  obtain ⟨hc, hp, hseen, hk⟩ := (s.setReg (R.CVU_U_ALIVE u) w).setCvuCount_shows u (w.toNat % 2 ^ 32) true
  have hacc : R.CVU_U_ALIVE u ∉ ({R.DEVICE_ACCERR} : Set Nat) := fun hs => absurd hs (by
    show ¬ R.CVU_U_ALIVE u = R.DEVICE_ACCERR
    unfold R.CVU_U_ALIVE R.DEVICE_ACCERR
    omega)
  have hset := Wrote.settle_keeps ((s.setReg (R.CVU_U_ALIVE u) w).setCvuCount u (w.toNat % 2 ^ 32) true) b (.core n a .m) (R.CVU_U_ALIVE u)
  have hget : (s.setReg (R.CVU_U_ALIVE u) w).fld (R.CVU_U_ALIVE_POS u) = (R.CVU_U_ALIVE_POS u).get w :=
    congrArg (R.CVU_U_ALIVE_POS u).get ((State.reg_setReg ..).trans (if_pos rfl))
  have hword : State.Keeps {R.CVU_U_ALIVE u.val} s (s.setReg (R.CVU_U_ALIVE u) w) := State.Keeps.setReg s w rfl
  refine ⟨_, hexec, ?_, ?_, fun hn => ?_, fun hl => ?_, fun o ho => ?_, ?_, ?_⟩
  · rw [hset.fld (g := R.CVU_U_ALIVE_COUNT u) hacc, hc, Nat.mod_mod, hcount]
  · rw [hset.cvuSeen]
    exact hseen
  · rw [hset.fld (g := R.CVU_U_ALIVE_POS u) hacc, hp, hget, hpos, if_neg fun hc => hn ((s.cvuLocked_iff u).1 hc)]
  · rw [hset.fld (g := R.CVU_U_ALIVE_POS u) hacc, hp, hget, hpos, if_pos ((s.cvuLocked_iff u).2 hl)]
  · have ha : o ≠ R.CVU_U_ALIVE u := fun hs => ho (by rw [hs]; exact List.mem_cons_self ..)
    have he : o ≠ R.DEVICE_ACCERR := fun hs => ho (by rw [hs]; exact List.mem_cons_of_mem _ (List.mem_cons_self ..))
    rw [hset.reg o he, hk.reg o ha, hword.reg o ha]
  · rw [hset.mem, hk.mem, hword.mem]
  · rw [hset.cores, hk.cores, hword.cores]

/-- CFG written, by whether the unit's parameters are locked. -/
theorem exec_cvuOwnerWrite_shows (v : BitVec 32) :
    let x := v.toNat / 2 ^ 23 % 128
    let w := s.fld (R.CVU_U_CFG_WIDTH u)
    let locked := s.flag R.CVU_LOCK_LOCK = true ∧ (u.val < 5 ∨ u.val = 9 ∨ (u.val < 9 ∧ s.hasDisp = true))
    (¬ locked → x < 8 ∨ 64 < x → exec (.cvuOwnerWrite (.core n a .m) u v) s = .next s) ∧
    (¬ locked → 8 ≤ x → x ≤ 64 → ∃ t, exec (.cvuOwnerWrite (.core n a .m) u v) s = .next t ∧ s.CvuPassed t u (v.toNat / 32 % 4) ∧
      t.fld (R.CVU_U_CFG_WIDTH u) = x ∧ t.fld (R.CVU_U_CFG_DBYTES u) = v.toNat / 128 % 4 ∧
      t.fld (R.CVU_U_VALUE_V u) = s.fld (R.CVU_U_INIT_V u) % 2 ^ x) ∧
    (locked → ∃ t, exec (.cvuOwnerWrite (.core n a .m) u v) s = .next t ∧ s.CvuPassed t u (v.toNat / 32 % 4) ∧ t.fld (R.CVU_U_CFG_WIDTH u) = w ∧
      t.fld (R.CVU_U_CFG_DBYTES u) = s.fld (R.CVU_U_CFG_DBYTES u) ∧ t.flag R.DEVICE_ACCERR_LOCKED_WRITE = true ∧
      t.fld (R.CVU_U_VALUE_V u) = s.fld (R.CVU_U_INIT_V u) % 2 ^ w % 2 ^ 64) := by
  intro x w locked
  have hexec := exec_cvuOwnerWrite h n a u v
  have hiff := s.cvuLocked_iff u
  refine ⟨fun hn hx => ?_, fun hn h8 h64 => ?_, fun hl => ?_⟩
  · rw [hexec, Bool.eq_false_iff.2 fun hc => hn (hiff.1 hc), Wrote.settle_taken]
    have hc : (false || decide (v.toNat / 2 ^ 23 % 128 < 8) || decide (64 < v.toNat / 2 ^ 23 % 128)) = true := by
      simpa using (show v.toNat / 2 ^ 23 % 128 < 8 ∨ 64 < v.toNat / 2 ^ 23 % 128 from hx)
    have hc' : (!false && (decide (v.toNat / 2 ^ 23 % 128 < 8) || decide (64 < v.toNat / 2 ^ 23 % 128))) = true := by
      simpa using (show v.toNat / 2 ^ 23 % 128 < 8 ∨ 64 < v.toNat / 2 ^ 23 % 128 from hx)
    unfold State.cvuCfg
    dsimp only
    rw [if_pos hc, if_pos hc']
  · rw [hexec, Bool.eq_false_iff.2 fun hc => hn (hiff.1 hc), Wrote.settle_taken]
    exact ⟨_, rfl, s.cvuCfg_shows u v h8 h64⟩
  · have hcfg : s.cvuCfg u v.toNat true = s.cvuOwner u (v.toNat / 32) := rfl
    rw [hexec, hiff.2 hl, hcfg, Wrote.settle_discarded]
    obtain ⟨hpass, hwidth, hbytes, hvalue⟩ := s.cvuOwner_shows u (v.toNat / 32)
    obtain ⟨hrec, hflag⟩ := (s.cvuOwner u (v.toNat / 32)).discard_recorded (.core n a .m) (R.CVU_U_CFG u)
    have hnot {y : Nat} (hy : 0x80100 ≤ y) : y + u.val * 0x80 ∉ ({R.DEVICE_ACCERR} : Set Nat) := fun hs => absurd hs (by
      show ¬ y + u.val * 0x80 = R.DEVICE_ACCERR
      unfold R.DEVICE_ACCERR
      omega)
    exact ⟨_, rfl, hpass.recorded hrec, (hrec.fld (g := R.CVU_U_CFG_WIDTH u) (hnot (by decide))).trans hwidth,
      (hrec.fld (g := R.CVU_U_CFG_DBYTES u) (hnot (by decide))).trans hbytes, hflag, (hrec.fld (g := R.CVU_U_VALUE_V u) (hnot (by decide))).trans hvalue⟩

end

/-- Settles O59, register by register; FINISH by its steps: the counter folded in, the result shown, the comparison, the alive check. -/
theorem checkValueUnits : Obligations.CheckValueUnits := by
  intro n a u s h m w value fed cap aw mode count open_ seen after same locked
  refine ⟨exec_cvuStart_shows h n a u, fun v => ⟨exec_cvuDataWrite_closed h n a u v, exec_cvuDataWrite_open h n a u v⟩, ?_, fun x => ?_, fun v => ?_⟩
  · obtain ⟨hexec, hmatch, hmismatch⟩ := exec_cvuFinish_shows h n a u
    obtain ⟨hresult, hopen, hdone, hvalue, hreg, hmem, hcores⟩ := s.cvuClose_shows u (s.fld (R.CVU_U_CFG_MAXSTEP u))
    have hlast := s.cvuLast_eq u
    intro last result compares differs d short step_ shows
    have hres : s.cvuResult u = result := by
      show s.cvuResult u = crcOut w _ _ last % 2 ^ 64
      rw [State.cvuResult, hlast]
      rfl
    have hdiff : differs ↔ s.cvuDiffers u := by
      show compares ∧ result ≠ _ ↔ _
      rw [← hres]
      exact Iff.rfl
    refine ⟨_, hexec, hresult.trans hres, hopen, hdone, hvalue.trans hlast, fun hc hd => hmatch hc fun hn => hd (hdiff.2 hn), fun hd => hmismatch (hdiff.1 hd),
      fun hm => s.cvuClose_generated u _ hm, fun hm => ?_, fun h1 h2 => s.cvuClose_none u _ h1 h2, hreg, hmem, hcores⟩
    obtain ⟨hshort, hbad, hfirst, hlater⟩ := s.cvuClose_checks u (s.fld (R.CVU_U_CFG_MAXSTEP u)) hm
    exact ⟨hshort, fun hs hd => hbad hs (hdiff.1 hd), fun hs hd hn => hfirst hs (fun hc => hd (hdiff.2 hc)) hn,
      fun hs hd hy => hlater hs (fun hc => hd (hdiff.2 hc)) hy⟩
  · obtain ⟨hvalue, hposn, hexpect⟩ := exec_cvuLoads_show h n a u x
    exact ⟨hvalue, hposn, hexpect, exec_cvuAliveCountWrite_shows h n a u x⟩
  · intro x passed
    obtain ⟨hbad, hgood, hlock⟩ := exec_cvuOwnerWrite_shows h n a u v
    have hpass {t : State} (hp : s.CvuPassed t u (v.toNat / 32 % 4)) : passed t :=
      ⟨hp.owner, hp.closed, hp.posn, hp.expect, hp.count, hp.unseen, hp.mem, hp.cores⟩
    refine ⟨hbad, fun hn h8 h64 => ?_, fun hl => ?_⟩
    · obtain ⟨t, ht, hp, hrest⟩ := hgood hn h8 h64
      exact ⟨t, ht, hpass hp, hrest⟩
    · obtain ⟨t, ht, hp, hrest⟩ := hlock hl
      exact ⟨t, ht, hpass hp, hrest⟩

end Sys2Proof.Machine
end

section
-- One proof after another: what waits for another costs the check memory.
set_option Elab.async false
/-! SUPPORT. Ports and queues (O44), and register accesses -/
namespace Sys2Proof.Machine

/-! ### What a discarded write records (R20) -/

/-- The record of a discarded write by a master: the first one keeps its master, and each counts. -/
structure State.Recorded (s t : State) (m : Master) : Prop where
  locked : t.flag R.DEVICE_ACCERR_LOCKED_WRITE = true
  first : s.flag R.DEVICE_ACCERR_LOCKED_WRITE = false → t.fld R.DEVICE_ACCERR_COUNT = 1 ∧ t.fld R.DEVICE_ACCERR_MASTER = m.code % 256
  again : s.flag R.DEVICE_ACCERR_LOCKED_WRITE = true →
    t.fld R.DEVICE_ACCERR_COUNT = min (s.fld R.DEVICE_ACCERR_COUNT + 1) 255 ∧ t.fld R.DEVICE_ACCERR_MASTER = s.fld R.DEVICE_ACCERR_MASTER
  rest : State.RegFab {R.DEVICE_ACCERR} s t

theorem State.Recorded.st {s t : State} {m : Master} (h : s.Recorded t m) : t.st = s.st := h.rest.fld (g := R.DEVICE_STATE_STATE) (by decide)

theorem State.discard_records (s : State) (m : Master) (off : Nat) : s.Recorded (s.discard m off) m := by
  obtain ⟨hrest, hlocked⟩ := s.discard_recorded m off
  refine ⟨hlocked, fun hn => ?_, fun hy => ?_, hrest⟩
  · have ht : s.discard m off = (((s.setFld R.DEVICE_ACCERR_LOCKED_WRITE 1).setFld R.DEVICE_ACCERR_MASTER m.code).setFld
        R.DEVICE_ACCERR_COUNT 1).setFld R.DEVICE_ACCERR_ADDR (0x1800000000 + off) := if_neg (by rw [hn]; decide)
    rw [ht, State.fld_setFld_apart _ _ _ _ rfl rfl, State.fld_setFld_here _ _ _ rfl, State.fld_setFld_apart _ _ _ _ rfl rfl,
      State.fld_setFld_apart _ _ _ _ rfl rfl, State.fld_setFld_here _ _ _ rfl]
    exact ⟨rfl, rfl⟩
  · have ht : s.discard m off = s.satInc R.DEVICE_ACCERR_COUNT := if_pos hy
    rw [ht]
    exact ⟨State.fld_satInc s R.DEVICE_ACCERR_COUNT (by decide), State.fld_setFld_apart s R.DEVICE_ACCERR_COUNT R.DEVICE_ACCERR_MASTER _ rfl rfl⟩

/-! ### REGISTER_WRITE (R19–R23) -/

theorem exec_registerWrite (m : Master) (off : BitVec 22) (k : Fin 4) (v : Word) (s : State) :
    exec (.registerWrite m off k v) s = .next (s.put m off.toNat (2 ^ k.val) (v.toNat % 256 ^ 2 ^ k.val)) := rfl

/-- A master that may write the window meets the register. -/
theorem State.put_present {s : State} {m : Master} {off : Nat} (hg : s.writeGate m off = .ok) (ha : s.absent off = false) (size v : Nat) :
    s.put m off size v = s.regWrite m off size v := by
  simp only [State.put, State.ctlWrite, hg, ha, Bool.false_eq_true, if_false]

theorem State.put_nowhere {s : State} {m : Master} {off : Nat} (hg : s.writeGate m off = .ok) (hr : regAt off = none) (size v : Nat) :
    s.put m off size v = s := by
  cases ha : s.absent off with
  | true => simp only [State.put, State.ctlWrite, hg, ha, if_true]
  | false =>
    rw [State.put_present hg ha, State.regWrite, hr]

/-- A level that may not write the window. -/
theorem State.put_fenced {s : State} {m : Master} {off : Nat} (hg : s.writeGate m off = .fence) (size v : Nat) : s.put m off size v = s := by
  rw [State.put, State.ctlWrite, hg]

theorem State.put_unreached {s : State} {m : Master} {off : Nat} (hg : s.writeGate m off = .gone) (size v : Nat) : s.put m off size v = s := by
  rw [State.put, State.ctlWrite, hg]

/-- A write of a 32-bit register in another width, or not at its first byte, is discarded. -/
theorem State.put_misfit {s : State} {m : Master} {off : Nat} (hg : s.writeGate m off = .ok) (ha : s.absent off = false) {r : RegRow} {b : Nat}
    (hr : regAt off = some (r, b)) (hw : r.wide = false) {size : Nat} (h : ¬ (size = 4 ∧ b = 0)) (v : Nat) : s.put m off size v = s.discard m off := by
  have hnarrow : (!r.wide) = true := by rw [hw]; rfl
  rw [State.put_present hg ha, State.regWrite, hr]
  exact (if_pos hnarrow).trans (if_neg h)

theorem size_word (k : Fin 4) : 2 ^ k.val = 4 ↔ k.val = 2 := by
  fin_cases k <;> decide

/-! ### Registers whose fields act by their types alone -/

/-- The pages whose registers all act by their fields' types. -/
def plainPages : List Nat := [0x01, 0x05, 0x06, 0x07, 0x09, 0x0A, 0x0B, 0x0D, 0x0E, 0x0F, 0x10, 0x11, 0x14]

/-- Whether a row's fields lie apart within its width. -/
def RegRow.tidy (r : RegRow) : Bool :=
  decide (FieldsApart (r.fields.map FieldRow.shape)) && r.fields.all (fun f => decide (f.lo + f.w ≤ if r.wide then 64 else 32))

theorem rowAt_mem {rows : List RegRow} {off b : Nat} {r : RegRow} (h : rowAt rows off = some (r, b)) : r ∈ rows := by
  induction rows with
  | nil => cases h
  | cons q rows ih =>
    rw [rowAt] at h
    by_cases hlt : off < q.off
    · rw [if_pos hlt] at h
      exact List.mem_cons_of_mem _ (ih h)
    · rw [if_neg hlt] at h
      cases hl : levelsRem q.levels (off - q.off) with
      | none =>
        rw [hl] at h
        exact List.mem_cons_of_mem _ (ih h)
      | some c =>
        rw [hl] at h
        dsimp only at h
        by_cases hc : c < (if q.wide then 8 else 4)
        · rw [if_pos hc] at h
          obtain ⟨rfl, -⟩ := Prod.mk.inj (Option.some.inj h)
          exact List.mem_cons_self ..
        · rw [if_neg hc] at h
          exact List.mem_cons_of_mem _ (ih h)

/-- The register tables of the plain pages. -/
def plainRows : List (List RegRow) := plainPages.map (fun p => pageRows (p * 0x10000))

theorem plainRows_tidy : plainRows.all (fun rows => rows.all RegRow.tidy) = true := by decide

theorem pageRows_page (off : Nat) : pageRows off = pageRows (pageOf off * 0x10000) := by
  unfold pageRows pageOf
  rw [Nat.mul_div_cancel _ (by decide)]

theorem regAt_tidy {off b : Nat} {r : RegRow} (hr : regAt off = some (r, b)) (hp : pageOf off ∈ plainPages) : r.tidy = true := by
  have hmem : pageRows off ∈ plainRows := by
    rw [pageRows_page]
    exact List.mem_map_of_mem hp
  exact List.all_eq_true.1 (List.all_eq_true.1 plainRows_tidy _ hmem) _ (rowAt_mem hr)

/-- A write that acts by its fields' types: the word after it, and whether it reached a locked field. -/
theorem State.writeReg_plain (s : State) (m : Master) {off : Nat} (hp : pageOf off ∈ plainPages) (fs : List FieldRow) (v bits : BitVec 64)
    (hen : ∀ j : Fin 12, off = R.TAP_T_CFG j → (s.writeFields off fs v bits).1.flag (R.TAP_T_CFG_EN j) = true) :
    s.writeReg m off fs v bits = s.writeFields off fs v bits := by
  by_cases h9 : pageOf off = 9
  · have hreg : s.writeReg m off fs v bits = ((List.range 12).foldl (fun t k => if off = R.TAP_T_CFG k ∧ !t.flag (R.TAP_T_CFG_EN k) then t.idleTap k else t)
        (s.writeFields off fs v bits).1, (s.writeFields off fs v bits).2) := by
      unfold State.writeReg
      rw [h9]
      rfl
    have hstay (l : List Nat) (hl : ∀ k ∈ l, k < 12) : l.foldl (fun t k => if off = R.TAP_T_CFG k ∧ !t.flag (R.TAP_T_CFG_EN k) then t.idleTap k else t)
        (s.writeFields off fs v bits).1 = (s.writeFields off fs v bits).1 := by
      induction l with
      | nil => rfl
      | cons k l ih =>
        have hno : ¬ (off = R.TAP_T_CFG k ∧ (!(s.writeFields off fs v bits).1.flag (R.TAP_T_CFG_EN k)) = true) := fun ⟨hk, hf⟩ => by
          rw [hen ⟨k, hl k (List.mem_cons_self ..)⟩ hk] at hf
          exact Bool.false_ne_true hf
        rw [List.foldl_cons, if_neg hno]
        exact ih fun j hj => hl j (List.mem_cons_of_mem k hj)
    rw [hreg, hstay _ fun k hk => List.mem_range.1 hk]
  · unfold State.writeReg
    simp only [plainPages, List.mem_cons, List.not_mem_nil, or_false] at hp
    obtain hq | hq | hq | hq | hq | hq | hq | hq | hq | hq | hq | hq | hq := hp
    case inr.inr.inr.inr.inl => exact absurd hq h9
    all_goals rw [hq]; rfl

/-- The enable bit of a tap lies in its CFG. -/
theorem tapCfg_en (j : Fin 12) : ∃ acc, (31, 1, acc) ∈ [(31, 1, Access.rwl)] ∧ ∀ r b, regAt (R.TAP_T_CFG j) = some (r, b) → (31, 1, acc) ∈ r.fields.map FieldRow.shape := by
  have hall : ∀ j : Fin 12, (match regAt (R.TAP_T_CFG j) with
    | some (r, _) => (r.fields.map FieldRow.shape).contains (31, 1, .rwl)
    | none => true) = true := by decide
  refine ⟨.rwl, List.mem_cons_self .., fun r b hr => ?_⟩
  have hj := hall j
  rw [hr] at hj
  exact List.contains_iff_mem.1 hj

/-- The low word of a value, bit by bit. -/
theorem wordOf_bit (v : Word) {x : Nat} (hx : x < 32) : (BitVec.ofNat 64 (v.toNat % 2 ^ 32)).getLsbD x = v.getLsbD x := by
  rw [BitVec.getLsbD_ofNat, Nat.testBit_mod_two_pow]
  have h64 : x < 64 := by omega
  simp [hx, h64, BitVec.getLsbD]

theorem lowWord_bit {x : Nat} (hx : x < 32) : (0xFFFFFFFF : BitVec 64).getLsbD x = true := by
  have hw : (0xFFFFFFFF : BitVec 64) = BitVec.ofNat 64 (2 ^ 32 - 1) := rfl
  have h64 : x < 64 := by omega
  rw [hw, BitVec.getLsbD_ofNat, Nat.testBit_two_pow_sub_one]
  simp [hx, h64]

section
variable {s : State} (hst : s.st ≠ stTRIPPED) {n u : Nat} {off : BitVec 22} {r : RegRow} {b : Nat} (hr : regAt off.toNat = some (r, b))
  (ha : s.absent off.toNat = false) (hw : r.wide = false)
include hr ha hw

/-- A write of a 32-bit register that does not fit it. -/
theorem exec_registerWrite_misfit {k : Fin 4} (hk : k.val ≠ 2 ∨ b ≠ 0) (v : Word) :
    ∃ t, exec (.registerWrite (.core n u .m) off k v) s = .next t ∧ s.Recorded t (.core n u .m) := by
  refine ⟨_, exec_registerWrite _ _ _ _ _, ?_⟩
  rw [State.put_misfit rfl ha hr hw (fun ⟨h4, h0⟩ => hk.elim (fun h => h ((size_word k).1 h4)) (fun h => h h0))]
  exact s.discard_records _ _

include hst

/-- A write of a 32-bit register of a plain page takes each field by its type. -/
theorem exec_registerWrite_plain (hb : b = 0) (hp : pageOf off.toNat ∈ plainPages) {k : Fin 4} (hk : k.val = 2) (v : Word)
    (htap : ∀ j : Fin 12, off.toNat = R.TAP_T_CFG j → s.regLocked off.toNat = false ∧ v.getLsbD 31 = true) :
    ∃ t, exec (.registerWrite (.core n u .m) off k v) s = .next t ∧
      ((∀ o, ¬ (o = off.toNat ∨ o = R.DEVICE_ACCERR) → t.reg o = s.reg o) ∧ t.mem = s.mem ∧ t.st = s.st) ∧
      ∀ f ∈ r.fields, ∀ x, f.lo ≤ x → x < f.lo + f.w → (t.reg off.toNat).getLsbD x =
        (fieldAfter f.acc (s.regLocked off.toNat) (s.reg off.toNat) (BitVec.ofNat 64 (v.toNat % 2 ^ 32))).getLsbD x := by
  subst hb
  have htidy := regAt_tidy hr hp
  rw [RegRow.tidy, hw] at htidy
  obtain ⟨hapart, hwidth⟩ := Bool.and_eq_true_iff.1 htidy
  have hin : ∀ f ∈ r.fields, f.lo + f.w ≤ 32 := fun f hf => of_decide_eq_true (List.all_eq_true.1 hwidth f hf)
  have hbit : ∀ f ∈ r.fields, ∀ x, f.lo ≤ x → x < f.lo + f.w →
      (wordAfter r.fields (s.regLocked off.toNat) (s.reg off.toNat) (BitVec.ofNat 64 (v.toNat % 2 ^ 32)) 0xFFFFFFFF).getLsbD x =
      (fieldAfter f.acc (s.regLocked off.toNat) (s.reg off.toNat) (BitVec.ofNat 64 (v.toNat % 2 ^ 32))).getLsbD x := fun f hf x hlo hhi => by
    have h32 := hin f hf
    exact wordAfter_bit (of_decide_eq_true hapart) hf _ _ _ (by omega) ⟨hlo, hhi⟩ (lowWord_bit (by omega))
  have hen : ∀ j : Fin 12, off.toNat = R.TAP_T_CFG j →
      (s.writeFields off.toNat r.fields (BitVec.ofNat 64 (v.toNat % 2 ^ 32)) 0xFFFFFFFF).1.flag (R.TAP_T_CFG_EN j) = true := by
    intro j hj
    obtain ⟨hunlocked, hv⟩ := htap j hj
    obtain ⟨acc, hacc, hfield⟩ := tapCfg_en j
    obtain ⟨f, hf, hshape⟩ := List.mem_map.1 (hfield r 0 (hj ▸ hr))
    obtain ⟨hlo, hrest⟩ := Prod.mk.inj hshape
    obtain ⟨hwf, haccf⟩ := Prod.mk.inj hrest
    have hrwl : acc = .rwl := congrArg (fun q => q.2.2) (List.mem_singleton.1 hacc)
    have h31 := hbit f hf 31 (by omega) (by omega)
    rw [haccf, hrwl, hunlocked] at h31
    have hreg : (s.writeFields off.toNat r.fields (BitVec.ofNat 64 (v.toNat % 2 ^ 32)) 0xFFFFFFFF).1.reg (R.TAP_T_CFG j) =
        wordAfter r.fields (s.regLocked off.toNat) (s.reg off.toNat) (BitVec.ofNat 64 (v.toNat % 2 ^ 32)) 0xFFFFFFFF := by
      rw [← hj]
      exact (State.reg_setReg ..).trans (if_pos rfl)
    have hone : (wordAfter r.fields (s.regLocked off.toNat) (s.reg off.toNat) (BitVec.ofNat 64 (v.toNat % 2 ^ 32)) 0xFFFFFFFF).getLsbD 31 = true := by
      rw [hunlocked]
      exact h31.trans ((wordOf_bit v (by decide)).trans hv)
    show ((R.TAP_T_CFG_EN j).get ((s.writeFields off.toNat r.fields (BitVec.ofNat 64 (v.toNat % 2 ^ 32)) 0xFFFFFFFF).1.reg (R.TAP_T_CFG j)) == 1) = true
    rw [hreg]
    generalize wordAfter r.fields _ _ _ _ = y at hone
    have htest : y.toNat.testBit 31 = true := hone
    rw [← bit_eq_testBit] at htest
    exact htest
  have hput := State.put_word (m := .core n u .m) rfl ha hr hw hst (Nat.mod_lt v.toNat (by decide : 2 ^ 32 > 0))
  rw [State.writeReg_plain s _ hp _ _ _ hen] at hput
  have hsize : 2 ^ k.val = 4 := (size_word k).2 hk
  have hrest := Wrote.settle_keeps (s.writeFields off.toNat r.fields (BitVec.ofNat 64 (v.toNat % 2 ^ 32)) 0xFFFFFFFF).1
    (s.writeFields off.toNat r.fields (BitVec.ofNat 64 (v.toNat % 2 ^ 32)) 0xFFFFFFFF).2 (.core n u .m) off.toNat
  have hword (o : Nat) : (s.writeFields off.toNat r.fields (BitVec.ofNat 64 (v.toNat % 2 ^ 32)) 0xFFFFFFFF).1.reg o =
      if o = off.toNat then wordAfter r.fields (s.regLocked off.toNat) (s.reg off.toNat) (BitVec.ofNat 64 (v.toNat % 2 ^ 32)) 0xFFFFFFFF else s.reg o :=
    State.reg_setReg ..
  have hnot0 : pageOf off.toNat ≠ 0 := fun h0 => by rw [h0] at hp; revert hp; decide
  have hacc : off.toNat ≠ R.DEVICE_ACCERR := fun h0 => hnot0 (by rw [h0]; rfl)
  have hstate : off.toNat ≠ R.DEVICE_STATE := fun h0 => hnot0 (by rw [h0]; rfl)
  have hexec := exec_registerWrite (.core n u .m) off k v s
  rw [hsize, show 256 ^ 4 = 2 ^ 32 from rfl, hput] at hexec
  refine ⟨_, hexec, ⟨fun o ho => ?_, hrest.mem, ?_⟩, fun f hf x hlo hhi => ?_⟩
  · rw [hrest.reg o fun h => ho (.inr h), hword, if_neg fun h => ho (.inl h)]
  · refine (hrest.fld (g := R.DEVICE_STATE_STATE) (by decide)).trans (congrArg R.DEVICE_STATE_STATE.get ((hword _).trans (if_neg fun h => hstate h.symm)))
  · rw [hrest.reg _ hacc, hword, if_pos rfl]
    exact hbit f hf x hlo hhi

end

/-- A field after a write, bit by bit. -/
theorem fieldAfter_bit (a : Access) (locked : Bool) (old : BitVec 64) (v : Word) {x : Nat} (hx : x < 32) :
    (fieldAfter a locked old (BitVec.ofNat 64 (v.toNat % 2 ^ 32))).getLsbD x = (match a with
      | .rw => v.getLsbD x
      | .rwl => if locked = true then old.getLsbD x else v.getLsbD x
      | .w1c => old.getLsbD x && !v.getLsbD x
      | .w1s => old.getLsbD x || v.getLsbD x
      | _ => old.getLsbD x) := by
  have hv := wordOf_bit v hx
  have h64 : x < 64 := by omega
  cases a
  case rw => exact hv
  case rwl =>
    cases locked
    · exact hv
    · rfl
  case w1c =>
    show (old &&& ~~~BitVec.ofNat 64 (v.toNat % 2 ^ 32)).getLsbD x = _
    rw [BitVec.getLsbD_and, BitVec.getLsbD_not, hv]
    simp [h64]
  case w1s =>
    show (old ||| BitVec.ofNat 64 (v.toNat % 2 ^ 32)).getLsbD x = _
    rw [BitVec.getLsbD_or, hv]
  all_goals rfl

/-! ### LOW_HALF_READ (R23) -/

theorem Halves.latch_setLatch (h : Halves) (m : Master) (off : Nat) (v : BitVec 32) : (h.setLatch m off (some v)).latch m off = some v := by
  have hnone : (h.latched.filter (fun x => !(x.1 == m && x.2.1 == off))).find? (fun x => x.1 == m && x.2.1 == off) = none :=
    List.find?_eq_none.2 fun x hx hyes => by
      have hno := (List.mem_filter.1 hx).2
      rw [hyes] at hno
      exact Bool.false_ne_true hno
  unfold Halves.latch Halves.setLatch
  dsimp only
  rw [List.find?_append, hnone, List.find?_cons_of_pos (by simp)]
  rfl

/-- A read of the low half of a 64-bit register latches its high half. -/
theorem exec_lowHalfRead_latches {s : State} (n u : Nat) {off : BitVec 22} {r : RegRow} (hr : regAt off.toNat = some (r, 0)) (hw : r.wide = true)
    (ha : s.absent off.toNat = false) (hrom : s.romBytes off.toNat 4 = none) :
    ∃ t, exec (.lowHalfRead (.core n u .m) off) s = .next t ∧ t.halves.latch (.core n u .m) off.toNat =
        some (BitVec.ofNat 32 ((s.regView (.core n u .m) off.toNat &&& ~~~ BitVec.ofNat 64 (woMask r.fields)).toNat / 2 ^ 32)) ∧
      t.regs = s.regs ∧ t.mem = s.mem ∧ t.cores = s.cores := by
  have hexec : exec (.lowHalfRead (.core n u .m) off) s = .next (s.ctlRead (.core n u .m) off.toNat 4).1 := rfl
  have hread : (s.ctlRead (.core n u .m) off.toNat 4).1 = (s.regRead (.core n u .m) off.toNat 4).1 := by
    have hgate : s.readGate (.core n u .m) off.toNat = .ok := rfl
    simp only [State.ctlRead, hgate, ha, hrom, Bool.false_eq_true, if_false]
  have hwide : (!r.wide) = false := by rw [hw]; rfl
  obtain ⟨x, hx⟩ : ∃ x, x = BitVec.ofNat 32 ((s.regView (.core n u .m) off.toNat &&& ~~~ BitVec.ofNat 64 (woMask r.fields)).toNat / 2 ^ 32) := ⟨_, rfl⟩
  have hlatch : (s.regRead (.core n u .m) off.toNat 4).1 = { s with halves := s.halves.setLatch (.core n u .m) off.toNat (some x) } := by
    simp only [State.regRead, hr, hwide, Nat.sub_zero, Bool.false_eq_true, if_false, and_true, if_true, hx]
    rfl
  rw [hexec, hread, hlatch, ← hx]
  exact ⟨_, rfl, Halves.latch_setLatch .., rfl, rfl, rfl⟩

/-! ### RESETCMD (R130, R135, R726) -/

section
variable {s : State} (h : s.st ≠ stTRIPPED) (n a : Nat)
include h

/-- A write of RESETCMD with a wrong key. -/
theorem put_resetcmd_badKey {key : BitVec 16} (hk : key ≠ 0xB311) {kind core : Nat} (hkind : kind < 16) (hcore : core < 16) :
    s.Recorded (s.put (.core n a .m) R.DEVICE_RESETCMD 4 (resetWordOf key kind core)) (.core n a .m) := by
  have hlt : resetWordOf key kind core < 2 ^ 32 := by unfold resetWordOf; omega
  have hkey : resetWordOf key kind core / 2 ^ 16 % 2 ^ 16 = key.toNat := by unfold resetWordOf; omega
  have hne : key.toNat ≠ 0xB311 := fun hn => hk (BitVec.eq_of_toNat_eq hn)
  have hcmd : s.resetCmd (.core n a .m) (resetWordOf key kind core) = (s, true) := by
    unfold State.resetCmd
    dsimp only
    rw [hkey]
    exact if_pos (by simpa [hostOrM] using hne)
  rw [State.put_resetcmd h n a hlt, hcmd, Wrote.settle_discarded]
  exact s.discard_records _ _

theorem exec_warmRestartCmd_key : exec (.warmRestartCmd (.core n a .m) 0xB311) s = .next (if s.dev.stopReq.any (fun q => q.1 == .warm) then s
    else { s with dev := { s.dev with stopReq := s.dev.stopReq ++ [(.warm, 0)] } }) := by
  have hexec : exec (.warmRestartCmd (.core n a .m) 0xB311) s = .next (s.put (.core n a .m) R.DEVICE_RESETCMD 4 (resetWordOf 0xB311 2 0)) := rfl
  have hkey : resetWordOf 0xB311 2 0 / 2 ^ 16 % 2 ^ 16 = 0xB311 ∧ resetWordOf 0xB311 2 0 / 256 % 16 = 2 := by decide
  have hcmd : s.resetCmd (.core n a .m) (resetWordOf 0xB311 2 0) = (if s.dev.stopReq.any (fun q => q.1 == .warm) then s
    else { s with dev := { s.dev with stopReq := s.dev.stopReq ++ [(.warm, 0)] } }, false) := by
    simp only [State.resetCmd, hkey, hostOrM, Bool.not_true, ne_eq, not_true, decide_false, Bool.or_self, Bool.false_eq_true, if_false]
  rw [hexec, State.put_resetcmd h n a (by decide), hcmd, Wrote.settle_taken]

theorem exec_portAResetCmd_key : exec (.portAResetCmd (.core n a .m) 0xB311) s = .next (s.portReset 0) := by
  have hexec : exec (.portAResetCmd (.core n a .m) 0xB311) s = .next (s.put (.core n a .m) R.DEVICE_RESETCMD 4 (resetWordOf 0xB311 3 0)) := rfl
  have hkey : resetWordOf 0xB311 3 0 / 2 ^ 16 % 2 ^ 16 = 0xB311 ∧ resetWordOf 0xB311 3 0 / 256 % 16 = 3 := by decide
  have hcmd : s.resetCmd (.core n a .m) (resetWordOf 0xB311 3 0) = (s.portReset 0, false) := by
    simp only [State.resetCmd, hkey, hostOrM, Bool.not_true, ne_eq, not_true, decide_false, Bool.or_self, Bool.false_eq_true, if_false]
  rw [hexec, State.put_resetcmd h n a (by decide), hcmd, Wrote.settle_taken]

theorem exec_portBResetCmd_key : exec (.portBResetCmd (.core n a .m) 0xB311) s =
    .next (if s.hasPortB then s.portReset 1 else s.discard (.core n a .m) R.DEVICE_RESETCMD) := by
  have hexec : exec (.portBResetCmd (.core n a .m) 0xB311) s = .next (s.put (.core n a .m) R.DEVICE_RESETCMD 4 (resetWordOf 0xB311 4 0)) := rfl
  have hkey : resetWordOf 0xB311 4 0 / 2 ^ 16 % 2 ^ 16 = 0xB311 ∧ resetWordOf 0xB311 4 0 / 256 % 16 = 4 := by decide
  have hcmd : s.resetCmd (.core n a .m) (resetWordOf 0xB311 4 0) = (if s.hasPortB then (s.portReset 1, false) else (s, true)) := by
    simp only [State.resetCmd, hkey, hostOrM, Bool.not_true, ne_eq, not_true, decide_false, Bool.or_self, Bool.false_eq_true, if_false]
  rw [hexec, State.put_resetcmd h n a (by decide), hcmd]
  by_cases hp : s.hasPortB = true
  · rw [if_pos hp, if_pos hp, Wrote.settle_taken]
  · rw [if_neg hp, if_neg hp, Wrote.settle_discarded]

end

/-! ### A port reset (R726) -/

/-- The registers of a function that its reset writes. -/
def flrRegs (f : Nat) : List Nat := [R.PCIEA_F_QCFG f, R.PCIEA_F_VRCFG f, R.PCIEA_F_FSTATUS f, R.PCIEA_F_LOST f, R.PCIEA_F_BUSY f, R.PCIEA_F_BYTES f]

theorem State.flrFn_keeps (s : State) (f : Nat) : State.Keeps {o | o ∈ flrRegs f} s (s.flrFn f) := by
  have h0 : State.Keeps {o | o ∈ flrRegs f} s (s.setFn f Fn.reset) := ⟨fun _ _ => rfl, rfl, rfl⟩
  unfold State.flrFn
  exact (((((h0.trans (State.Keeps.setFld _ _ (by simp [flrRegs, R.PCIEA_F_QCFG_EN]))).trans
    (State.Keeps.setFld _ _ (by simp [flrRegs, R.PCIEA_F_VRCFG_EN]))).trans (State.Keeps.setFld _ _ (by simp [flrRegs, R.PCIEA_F_FSTATUS_VERSION]))).trans
    (State.Keeps.setReg _ _ (by simp [flrRegs]))).trans (State.Keeps.setReg _ _ (by simp [flrRegs]))).trans (State.Keeps.setReg _ _ (by simp [flrRegs]))

theorem flrRegs_page {f o : Nat} (hf : f < 5) (ho : o ∈ flrRegs f) : 0xC1000 ≤ o ∧ o < 0xC2400 := by
  simp only [flrRegs, List.mem_cons, List.not_mem_nil, or_false, R.PCIEA_F_QCFG, R.PCIEA_F_VRCFG, R.PCIEA_F_FSTATUS, R.PCIEA_F_LOST, R.PCIEA_F_BUSY,
    R.PCIEA_F_BYTES] at ho
  omega

theorem State.flrFn_fns (s : State) (f g : Nat) : (s.flrFn f).fn g = if g = f then Fn.reset else s.fn g := by
  have hfld (u : State) (x : Fld) (v : Nat) : (u.setFld x v).fn g = u.fn g := rfl
  have hreg (u : State) (o : Nat) (v : BitVec 64) : (u.setReg o v).fn g = u.fn g := rfl
  rw [State.flrFn, hreg, hreg, hreg, hfld, hfld, hfld]
  exact SMap.get_set (fun _ => Fn.reset) s.fns f g Fn.reset

/-- Where the registers of the functions' blocks lie. -/
def blockRegs : Set Nat := Set.Ico 0xC1000 0xC2400

theorem State.flrAll_keeps (s : State) : State.Keeps blockRegs s (s.iter 5 (fun f s => s.flrFn f)) := by
  have hall (l : List Nat) (hl : ∀ f ∈ l, f < 5) (t : State) : State.Keeps blockRegs t (l.foldl (fun s f => s.flrFn f) t) := by
    induction l generalizing t with
    | nil => exact State.Keeps.refl _ t
    | cons f l ih =>
      have hone : State.Keeps blockRegs t (t.flrFn f) := by
        refine (t.flrFn_keeps f).mono fun o (ho : o ∈ flrRegs f) => ?_
        obtain ⟨h1, h2⟩ := flrRegs_page (hl f (List.mem_cons_self ..)) ho
        exact ⟨h1, h2⟩
      have hrest := ih (fun g hg => hl g (List.mem_cons_of_mem f hg)) (t.flrFn f)
      rw [List.foldl_cons]
      exact hone.trans hrest
  exact hall _ (fun f hf => List.mem_range.1 hf) s

/-- A port with its link down, its requests ended and its sessions dropped. -/
def State.portDown (s : State) (p : Nat) : State :=
  let e := R.PCIE_P_PORTSTAT_EPOCH p
  let s := (s.setFld e (nextEpoch (s.fld e))).satInc R.SAFETY_EVCNT_LOST
  ((s.setFld (R.PCIE_P_PORTSTAT_UP p) 0).dropSessions p).setPad p .idle

/-- The traffic of a port handed over or not. -/
def State.portHanded (s : State) (p : Nat) : State :=
  ((s.portDown p).setFld (R.PCIE_P_PORTSTAT_HANDED p) (if (s.portDown p).mayHand p then 1 else 0)).setFld (R.PCIE_P_PORTSTAT_HANDED (1 - p)) 0

theorem State.portReset_eq {s : State} {p : Nat} (h : s.hasPort p = true) : s.portReset p =
    ((if p = 0 ∧ !(s.portDown p).mayHand p then (s.portHanded p).iter 5 (fun f s => s.flrFn f) else s.portHanded p).setBothDown).lose lostPCIE_PORT :=
  if_neg (by rw [h]; decide)

/-- The registers of a port's going down. -/
def portDownRegs (p : Nat) : Set Nat := {o | o ∈ [R.PCIE_P_PORTSTAT p, R.SAFETY_EVCNT, R.KEEP_STATUS]}

theorem nextEpoch_lt {e : Nat} (h : e < 2 ^ 16) : nextEpoch e < 2 ^ 16 := by
  unfold nextEpoch
  split_ifs <;> omega

theorem State.portDown_shows (s : State) (p : Fin 2) : (s.portDown p).portUp p = false ∧
    (s.portDown p).fld (R.PCIE_P_PORTSTAT_EPOCH p) = nextEpoch (s.fld (R.PCIE_P_PORTSTAT_EPOCH p)) ∧
    State.Keeps (portDownRegs p) s (s.portDown p) ∧ (s.portDown p).dev = s.dev ∧ (s.portDown p).fns = s.fns := by
  have hse : R.PCIE_P_PORTSTAT p ≠ R.SAFETY_EVCNT := by fin_cases p <;> decide
  have hk : R.PCIE_P_PORTSTAT p ≠ R.KEEP_STATUS := (portstat_apart p).symm
  have hepoch (u : State) (v : Nat) : (u.setFld (R.PCIE_P_PORTSTAT_EPOCH p) v).fld (R.PCIE_P_PORTSTAT_EPOCH p) = v % 2 ^ 16 := State.fld_setFld_here _ _ _ rfl
  obtain ⟨u1, hu1⟩ : ∃ t, t = (s.setFld (R.PCIE_P_PORTSTAT_EPOCH p) (nextEpoch (s.fld (R.PCIE_P_PORTSTAT_EPOCH p)))).satInc R.SAFETY_EVCNT_LOST := ⟨_, rfl⟩
  obtain ⟨u2, hu2⟩ : ∃ t, t = u1.setFld (R.PCIE_P_PORTSTAT_UP p) 0 := ⟨_, rfl⟩
  obtain ⟨u3, hu3⟩ : ∃ t : State, t = { u2 with keep := { u2.keep with sessions := u2.keep.sessions.filter (fun (x : Spdm) => x.port ≠ p.val), nego := SMap.set (fun _ => 0) u2.keep.nego p 0 } } := ⟨_, rfl⟩
  obtain ⟨u4, hu4⟩ : ∃ t, t = u3.setFld R.KEEP_STATUS_SESSIONS (u2.keep.sessions.filter (fun (x : Spdm) => x.port ≠ p.val)).length := ⟨_, rfl⟩
  obtain ⟨u5, hu5⟩ : ∃ t, t = u4.setFld (R.PCIE_P_PORTSTAT_IDE p) 0 := ⟨_, rfl⟩
  have ht : s.portDown p = u5.setPad p .idle := by rw [hu5, hu4, hu3, hu2, hu1]; rfl
  have hr3 (o : Nat) : u3.reg o = u2.reg o := by rw [hu3]; rfl
  have hport (g : Fld) (hg : g.off = R.PCIE_P_PORTSTAT p) (hide : (Nat.ble (23 + 1) g.lo || Nat.ble (g.lo + g.w) 23) = true) :
      (s.portDown p).fld g = u2.fld g := by
    have hpad : (s.portDown p).fld g = u5.fld g := by rw [ht]; rfl
    rw [hpad, hu5, State.fld_setFld_apart _ (R.PCIE_P_PORTSTAT_IDE p) g 0 rfl hide, hu4, State.fld_setFld_off _ _ _ _ (by rw [hg]; exact hk)]
    exact congrArg g.get (hr3 _)
  have k1 : State.Keeps (portDownRegs p) s u1 := hu1 ▸ (State.Keeps.setFld s _ (.head _)).trans (State.Keeps.satInc _ (.tail _ (.head _)))
  have k2 : State.Keeps (portDownRegs p) u1 u2 := hu2 ▸ State.Keeps.setFld u1 _ (.head _)
  have k3 : State.Keeps (portDownRegs p) u2 u3 := ⟨fun o _ => hr3 o, by rw [hu3], by rw [hu3]⟩
  have k4 : State.Keeps (portDownRegs p) u3 u4 := hu4 ▸ State.Keeps.setFld u3 _ (.tail _ (.tail _ (.head _)))
  have k5 : State.Keeps (portDownRegs p) u4 u5 := hu5 ▸ State.Keeps.setFld u4 _ (.head _)
  have k6 : State.Keeps (portDownRegs p) u5 (s.portDown p) := ht ▸ ⟨fun _ _ => rfl, rfl, rfl⟩
  refine ⟨?_, ?_, ((((k1.trans k2).trans k3).trans k4).trans k5).trans k6, ?_, ?_⟩
  · rw [State.portUp, State.flag, hport (R.PCIE_P_PORTSTAT_UP p) rfl rfl, hu2, State.fld_setFld_here _ _ _ rfl]
    rfl
  · rw [hport (R.PCIE_P_PORTSTAT_EPOCH p) rfl rfl, hu2, State.fld_setFld_apart _ _ _ _ rfl rfl, hu1, State.satInc, State.satAdd,
      State.fld_setFld_off _ _ _ _ hse, hepoch, Nat.mod_eq_of_lt (nextEpoch_lt (State.fld_lt s (R.PCIE_P_PORTSTAT_EPOCH p)))]
  · have hpad (t : State) (k : Nat) : (t.setPad k .idle).dev = t.dev := rfl
    rw [ht, hpad, hu5, State.setFld_dev, hu4, State.setFld_dev, hu3]
    show u2.dev = s.dev
    rw [hu2, State.setFld_dev, hu1, State.satInc, State.satAdd, State.setFld_dev, State.setFld_dev]
  · have hpad (t : State) (k : Nat) : (t.setPad k .idle).fns = t.fns := rfl
    rw [ht, hpad, hu5, State.setFld_fns, hu4, State.setFld_fns, hu3]
    show u2.fns = s.fns
    rw [hu2, State.setFld_fns, hu1, State.satInc, State.satAdd, State.setFld_fns, State.setFld_fns]

/-! ### What a port reset shows -/

/-- An event leaves the commands in progress. -/
theorem State.postEvent_inprog (s : State) (f g kind info : Nat) : ((s.postEvent f kind info).fn g).inprog = (s.fn g).inprog := by
  have hmod (w : List CqEntry) : ((s.modFn f (fun k => { k with waiting := w })).fn g).inprog = (s.fn g).inprog := by
    rw [State.fn_modFn]
    split_ifs with h
    · rw [h]
    · rfl
  have hwrite (e : CqEntry) : ((s.writeCq f e).fn g).inprog = (s.fn g).inprog := by
    by_cases h : g = f
    · obtain ⟨_, _, _, hk⟩ := s.fn_writeCq f e
      rw [h, hk]
    · obtain ⟨_, hk⟩ := State.fn_writeCq_other (s := s) h e
      rw [hk]
  unfold State.postEvent
  dsimp only
  split_ifs
  · rfl
  · exact hwrite _
  · exact hmod _
  · exact hmod _
  · rfl

theorem State.lose_inprog (s : State) (k g : Nat) : ((s.lose k).fn g).inprog = (s.fn g).inprog := by
  have hset (u : State) (n : Nat) : ((u.setState n).fn g).inprog = (u.fn g).inprog := by
    unfold State.setState
    dsimp only
    split_ifs
    · rfl
    · rw [State.postEvent_inprog, State.fn, State.quietOutputs_fns, State.setFld_fns, State.setFld_fns, ← State.fn]
  unfold State.lose
  dsimp only
  split_ifs
  · rfl
  · exact hset _ _
  · rfl

theorem State.flrFn_qcfg (s : State) {f g : Nat} (hf : f < 5) (hg : g < 5) :
    (s.flrFn f).flag (R.PCIEA_F_QCFG_EN g) = if g = f then false else s.flag (R.PCIEA_F_QCFG_EN g) := by
  have hoff : ∀ f g : Fin 5, R.PCIEA_F_QCFG g ∉ [R.PCIEA_F_VRCFG f, R.PCIEA_F_FSTATUS f, R.PCIEA_F_LOST f, R.PCIEA_F_BUSY f, R.PCIEA_F_BYTES f] ∧
      (g ≠ f → R.PCIEA_F_QCFG g ≠ R.PCIEA_F_QCFG f) := by decide
  obtain ⟨hout, hne⟩ := hoff ⟨f, hf⟩ ⟨g, hg⟩
  by_cases h : g = f
  · subst h
    rw [if_pos rfl]
    have hlast : (s.flrFn g).reg (R.PCIEA_F_QCFG g) = (((s.setFn g Fn.reset).setFld (R.PCIEA_F_QCFG_EN g) 0)).reg (R.PCIEA_F_QCFG g) := by
      have hrest : State.Keeps {o | o ∈ [R.PCIEA_F_VRCFG g, R.PCIEA_F_FSTATUS g, R.PCIEA_F_LOST g, R.PCIEA_F_BUSY g, R.PCIEA_F_BYTES g]}
          ((s.setFn g Fn.reset).setFld (R.PCIEA_F_QCFG_EN g) 0) (s.flrFn g) := by
        unfold State.flrFn
        exact ((((State.Keeps.setFld _ _ (by simp [R.PCIEA_F_VRCFG_EN])).trans (State.Keeps.setFld _ _ (by simp [R.PCIEA_F_FSTATUS_VERSION]))).trans
          (State.Keeps.setReg _ _ (by simp))).trans (State.Keeps.setReg _ _ (by simp))).trans (State.Keeps.setReg _ _ (by simp))
      exact hrest.reg _ hout
    have hfld : (s.flrFn g).fld (R.PCIEA_F_QCFG_EN g) = 0 := (congrArg (R.PCIEA_F_QCFG_EN g).get hlast).trans (State.fld_setFld_here _ _ _ rfl)
    rw [State.flag, hfld]
    rfl
  · rw [if_neg h]
    refine (s.flrFn_keeps f).flag (g := R.PCIEA_F_QCFG_EN g) fun hmem => ?_
    rcases List.mem_cons.1 hmem with hq | hq
    · exact hne (fun he => h (congrArg Fin.val he)) hq
    · exact hout hq

/-- All functions reset: none has queues, or a command in progress. -/
theorem State.flrAll_empty (s : State) {g : Nat} (hg : g < 5) : (s.iter 5 (fun f s => s.flrFn f)).flag (R.PCIEA_F_QCFG_EN g) = false ∧
    ((s.iter 5 (fun f s => s.flrFn f)).fn g) = Fn.reset := by
  have hlist : s.iter 5 (fun f s => s.flrFn f) = ((((s.flrFn 0).flrFn 1).flrFn 2).flrFn 3).flrFn 4 := rfl
  rw [hlist]
  constructor
  · rw [State.flrFn_qcfg _ (by decide) hg, State.flrFn_qcfg _ (by decide) hg, State.flrFn_qcfg _ (by decide) hg, State.flrFn_qcfg _ (by decide) hg,
      State.flrFn_qcfg _ (by decide) hg]
    interval_cases g <;> rfl
  · rw [State.flrFn_fns, State.flrFn_fns, State.flrFn_fns, State.flrFn_fns, State.flrFn_fns]
    interval_cases g <;> rfl

/-- A port gone down by its reset (R134, R135, R726). -/
structure State.PortGone (s t : State) (p : Nat) : Prop where
  up : t.portUp p = false
  epoch : t.fld (R.PCIE_P_PORTSTAT_EPOCH p) = nextEpoch (s.fld (R.PCIE_P_PORTSTAT_EPOCH p))
  handed : t.flag (R.PCIE_P_PORTSTAT_HANDED p) = s.mayHand p
  other : t.portUp (1 - p) = s.portUp (1 - p)
  both : t.flag R.DEVICE_STATE_PCIE_BOTH_DOWN = !s.portUp (1 - p)
  lost : bit t.dev.lost lostPCIE_PORT = true
  serving : s.serving = true → t.st = stDEGRADED
  empty : p = 0 → s.mayHand 0 = false → ∀ f, f < 5 → t.flag (R.PCIEA_F_QCFG_EN f) = false ∧ (t.fn f).inprog = []
  mem : t.mem = s.mem
  cores : t.cores = s.cores

/-- The registers that a port's going down and its hand-over change, without the functions'. -/
def portRegs : List Nat := [R.PCIE_P_PORTSTAT 0, R.PCIE_P_PORTSTAT 1, R.SAFETY_EVCNT, R.KEEP_STATUS]

theorem State.portHanded_keeps (s : State) (p : Fin 2) : State.Keeps {o | o ∈ portRegs} s (s.portHanded p) := by
  have hself : R.PCIE_P_PORTSTAT p ∈ portRegs ∧ R.PCIE_P_PORTSTAT (1 - p.val) ∈ portRegs := by fin_cases p <;> decide
  have hdown := (s.portDown_shows p).2.2.1.mono (P := {o | o ∈ portRegs}) fun o (ho : o ∈ [R.PCIE_P_PORTSTAT p, R.SAFETY_EVCNT, R.KEEP_STATUS]) => by
    simp only [List.mem_cons, List.not_mem_nil, or_false] at ho
    show o ∈ portRegs
    obtain rfl | rfl | rfl := ho
    · exact hself.1
    · decide
    · decide
  exact (hdown.trans (State.Keeps.setFld _ (f := R.PCIE_P_PORTSTAT_HANDED p) _ hself.1)).trans (State.Keeps.setFld _ (f := R.PCIE_P_PORTSTAT_HANDED (1 - p.val)) _ hself.2)

/-- Whether the traffic of a port may be handed over does not hang on the port itself. -/
theorem State.mayHand_portDown (s : State) (p : Fin 2) : (s.portDown p).mayHand p = s.mayHand p := by
  obtain ⟨-, -, hkeep, -, -⟩ := s.portDown_shows p
  have hoff : ∀ o ∈ [R.PCIE_P_HANDOVER p, R.PCIE_P_PORTSTAT (1 - p.val), R.DEVICE_STRAPS, R.DEVICE_CAPS], o ∉ [R.PCIE_P_PORTSTAT p, R.SAFETY_EVCNT, R.KEEP_STATUS] := by
    fin_cases p <;> decide
  have hf (g : Fld) (hg : g.off ∈ [R.PCIE_P_HANDOVER p, R.PCIE_P_PORTSTAT (1 - p.val), R.DEVICE_STRAPS, R.DEVICE_CAPS]) : (s.portDown p).fld g = s.fld g :=
    hkeep.fld fun hm => hoff _ hg hm
  have h1 := hf (R.PCIE_P_HANDOVER_EN p) (.head _)
  have h2 := hf (R.PCIE_P_PORTSTAT_UP (1 - p.val)) (.tail _ (.head _))
  have h3 := hf R.DEVICE_STRAPS_PEB_ROLE (.tail _ (.tail _ (.head _)))
  have h4 := hf R.DEVICE_CAPS_PCIEB (.tail _ (.tail _ (.tail _ (.head _))))
  simp only [State.mayHand, State.flag, State.portUp, State.hasPortB, h1, h2, h3, h4]

/-- The status of the two ports after the hand-over. -/
theorem State.portHanded_shows (s : State) (p : Fin 2) : (s.portHanded p).portUp p = false ∧
    (s.portHanded p).fld (R.PCIE_P_PORTSTAT_EPOCH p) = nextEpoch (s.fld (R.PCIE_P_PORTSTAT_EPOCH p)) ∧
    (s.portHanded p).flag (R.PCIE_P_PORTSTAT_HANDED p) = s.mayHand p ∧ (s.portHanded p).portUp (1 - p.val) = s.portUp (1 - p.val) := by
  obtain ⟨hup, hepoch, hkeep, -, -⟩ := s.portDown_shows p
  have hmay := s.mayHand_portDown p
  have hne : R.PCIE_P_PORTSTAT p ≠ R.PCIE_P_PORTSTAT (1 - p.val) := by fin_cases p <;> decide
  have hnot : R.PCIE_P_PORTSTAT (1 - p.val) ∉ [R.PCIE_P_PORTSTAT p, R.SAFETY_EVCNT, R.KEEP_STATUS] := by fin_cases p <;> decide
  have hpeer : (s.portDown p).fld (R.PCIE_P_PORTSTAT_UP (1 - p.val)) = s.fld (R.PCIE_P_PORTSTAT_UP (1 - p.val)) := hkeep.fld hnot
  unfold State.portHanded
  rw [hmay]
  unfold State.portUp at hup ⊢
  generalize s.portDown p = w at hup hepoch hpeer ⊢
  generalize hx : (if s.mayHand p = true then 1 else 0) = x
  have hfar (t : State) (g : Fld) (hg : g.off = R.PCIE_P_PORTSTAT p) : (t.setFld (R.PCIE_P_PORTSTAT_HANDED (1 - p.val)) 0).fld g = t.fld g :=
    State.fld_setFld_off _ _ _ _ (by rw [hg]; exact hne)
  have hnear (v : Nat) (g : Fld) (hg : g.off = R.PCIE_P_PORTSTAT (1 - p.val)) : (w.setFld (R.PCIE_P_PORTSTAT_HANDED p) v).fld g = w.fld g :=
    State.fld_setFld_off _ _ _ _ (by rw [hg]; exact hne.symm)
  refine ⟨?_, ?_, ?_, ?_⟩
  · rw [State.flag, hfar _ (R.PCIE_P_PORTSTAT_UP p) rfl, State.fld_setFld_apart _ _ _ _ rfl rfl]
    exact hup
  · rw [hfar _ (R.PCIE_P_PORTSTAT_EPOCH p) rfl, State.fld_setFld_apart _ _ _ _ rfl rfl]
    exact hepoch
  · rw [State.flag, hfar _ (R.PCIE_P_PORTSTAT_HANDED p) rfl, State.fld_setFld_here _ _ _ rfl, ← hx]
    cases s.mayHand p <;> rfl
  · rw [State.flag, State.fld_setFld_apart _ _ (R.PCIE_P_PORTSTAT_UP (1 - p.val)) _ rfl rfl, hnear _ (R.PCIE_P_PORTSTAT_UP (1 - p.val)) rfl, hpeer]
    rfl

/-- Registers of the ports' status are no register of a function's block, and none of the device's state. -/
theorem portstat_alone (p : Nat) (hp : p < 2) : R.PCIE_P_PORTSTAT p ∉ blockRegs ∧ R.PCIE_P_PORTSTAT p ≠ R.DEVICE_STATE ∧ R.PCIE_P_PORTSTAT p ≠ R.PCIEA_F_LOST 0 := by
  interval_cases p
  · exact ⟨fun hm => absurd (Set.mem_Ico.1 hm) (by decide), by decide, by decide⟩
  · exact ⟨fun hm => absurd (Set.mem_Ico.1 hm) (by decide), by decide, by decide⟩

/-- A field of the device's state above its first byte, and a redundancy lost or back. -/
theorem State.fld_lose_apart (s : State) (k : Nat) {g : Fld} (hl : g.off ≠ R.PCIEA_F_LOST 0) (hg : 8 ≤ g.lo) : (s.lose k).fld g = s.fld g := by
  unfold State.lose
  dsimp only
  split_ifs
  · rfl
  · exact State.fld_setState_apart _ _ hl hg
  · rfl

theorem State.fld_regain_apart (s : State) (k : Nat) {g : Fld} (hl : g.off ≠ R.PCIEA_F_LOST 0) (hg : 8 ≤ g.lo) : (s.regain k).fld g = s.fld g := by
  unfold State.regain
  dsimp only
  split_ifs
  · rfl
  · exact State.fld_setState_apart _ _ hl hg
  · rfl

theorem State.setBothDown_flag (v : State) : v.setBothDown.flag R.DEVICE_STATE_PCIE_BOTH_DOWN = (!v.portUp 0 && !v.portUp 1) := by
  have hfld : v.setBothDown.fld R.DEVICE_STATE_PCIE_BOTH_DOWN = (if (v.portUp 0 || v.portUp 1) = true then 0 else 1) % 2 :=
    State.fld_setFld_here v R.DEVICE_STATE_PCIE_BOTH_DOWN _ rfl
  rw [State.flag, hfld]
  cases v.portUp 0 <;> cases v.portUp 1 <;> rfl

/-- The end of a port reset: what becomes of the functions, and the loss of redundancy. -/
theorem State.portsSettled {u v : State} (h : v.st ≠ stTRIPPED) (hv : State.Keeps blockRegs u v) :
    State.Keeps (blockRegs ∪ {R.DEVICE_STATE, R.PCIEA_F_LOST 0}) u (v.setBothDown.lose lostPCIE_PORT) ∧
      (v.setBothDown.lose lostPCIE_PORT).flag R.DEVICE_STATE_PCIE_BOTH_DOWN = (!u.portUp 0 && !u.portUp 1) ∧
      bit (v.setBothDown.lose lostPCIE_PORT).dev.lost lostPCIE_PORT = true ∧ (v.serving = true → (v.setBothDown.lose lostPCIE_PORT).st = stDEGRADED) := by
  have hst : v.setBothDown.st = v.st := State.fld_setFld_apart v R.DEVICE_STATE_PCIE_BOTH_DOWN R.DEVICE_STATE_STATE _ rfl rfl
  have hboth : State.Keeps {R.DEVICE_STATE} v v.setBothDown := State.Keeps.setFld v _ rfl
  have hlose : State.Outer {R.DEVICE_STATE, R.PCIEA_F_LOST 0} v.setBothDown (v.setBothDown.lose lostPCIE_PORT) := State.Outer.lose _ (.inl rfl) (.inr rfl) _
  have hup (q : Nat) (hq : q < 2) : v.portUp q = u.portUp q := hv.flag (g := R.PCIE_P_PORTSTAT_UP q) (portstat_alone q hq).1
  refine ⟨((hv.mono Set.subset_union_left).trans (hboth.mono ?_)).trans ((State.Keeps.of_outer hlose).mono Set.subset_union_right), ?_, ?_, fun hs => ?_⟩
  · exact fun o ho => .inr (.inl ho)
  · rw [State.flag, State.fld_lose_apart _ _ (by decide) (by decide), ← State.flag, State.setBothDown_flag, hup 0 (by decide), hup 1 (by decide)]
  · rw [(State.lose_dev (by rw [hst]; exact h) lostPCIE_PORT).1, bit_setBit]
    rfl
  · exact (State.lose_serving (by rw [State.serving, hst, ← State.serving]; exact hs) _).1

/-- What a port reset does to a present port. -/
theorem State.portReset_gone {s : State} (h : s.st ≠ stTRIPPED) {p : Fin 2} (hp : s.hasPort p = true) : s.PortGone (s.portReset p) p := by
  obtain ⟨hup, hepoch, hhanded, hother⟩ := s.portHanded_shows p
  have hkeep := s.portHanded_keeps p
  obtain ⟨u, hu⟩ : ∃ t, t = s.portHanded p := ⟨_, rfl⟩
  obtain ⟨v, hv⟩ : ∃ t, t = (if p.val = 0 ∧ (!s.mayHand p) = true then u.iter 5 (fun f s => s.flrFn f) else u) := ⟨_, rfl⟩
  have ht : s.portReset p = v.setBothDown.lose lostPCIE_PORT := by rw [State.portReset_eq hp, s.mayHand_portDown, hv, hu]
  rw [← hu] at hup hepoch hhanded hother hkeep
  have hblocks : State.Keeps blockRegs u v := by
    rw [hv]
    split_ifs
    · exact u.flrAll_keeps
    · exact State.Keeps.refl _ u
  have hstate : v.st = s.st := (hblocks.fld (g := R.DEVICE_STATE_STATE) fun hm => absurd (Set.mem_Ico.1 hm) (by decide)).trans
    (hkeep.fld (g := R.DEVICE_STATE_STATE) (show R.DEVICE_STATE ∉ portRegs by decide))
  obtain ⟨hend, hboth, hlost, hserving⟩ := State.portsSettled (hstate ▸ h) hblocks
  have hport (q : Nat) (hq : q < 2) : R.PCIE_P_PORTSTAT q ∉ blockRegs ∪ {R.DEVICE_STATE, R.PCIEA_F_LOST 0} := fun hm => by
    obtain ⟨h1, h2, h3⟩ := portstat_alone q hq
    exact hm.elim h1 fun hm => hm.elim h2 h3
  have hfld (q : Nat) (hq : q < 2) (g : Fld) (hg : g.off = R.PCIE_P_PORTSTAT q) : (s.portReset p).fld g = u.fld g := by
    rw [ht]
    exact hend.fld (hg ▸ hport q hq)
  have hpeer : 1 - p.val < 2 := by omega
  refine ⟨?_, ?_, ?_, ?_, ?_, ht ▸ hlost, fun hs => ?_, fun hz hno f hf => ?_, ?_, ?_⟩
  · rw [State.portUp, State.flag, hfld p p.isLt (R.PCIE_P_PORTSTAT_UP p) rfl]
    exact hup
  · rw [hfld p p.isLt (R.PCIE_P_PORTSTAT_EPOCH p) rfl]
    exact hepoch
  · rw [State.flag, hfld p p.isLt (R.PCIE_P_PORTSTAT_HANDED p) rfl]
    exact hhanded
  · rw [State.portUp, State.flag, hfld _ hpeer (R.PCIE_P_PORTSTAT_UP (1 - p.val)) rfl]
    exact hother
  · rw [ht, hboth]
    fin_cases p
    · rw [show u.portUp 0 = false from hup, show u.portUp 1 = s.portUp 1 from hother]
      rfl
    · rw [show u.portUp 1 = false from hup, show u.portUp 0 = s.portUp 0 from hother]
      exact Bool.and_true _
  · rw [ht]
    exact hserving (by rw [State.serving, hstate, ← State.serving]; exact hs)
  · have hall : v = u.iter 5 (fun f s => s.flrFn f) := by
      rw [hv, if_pos ⟨hz, by rw [hz, hno]; rfl⟩]
    obtain ⟨hen, hfn⟩ := u.flrAll_empty hf
    rw [← hall] at hen hfn
    have hoff : R.PCIEA_F_QCFG f ≠ R.DEVICE_STATE ∧ R.PCIEA_F_QCFG f ≠ R.PCIEA_F_LOST 0 := by interval_cases f <;> decide
    have hlose : State.Outer {R.DEVICE_STATE, R.PCIEA_F_LOST 0} v.setBothDown (v.setBothDown.lose lostPCIE_PORT) := State.Outer.lose _ (.inl rfl) (.inr rfl) _
    constructor
    · rw [ht, hlose.flag (g := R.PCIEA_F_QCFG_EN f) fun hm => hm.elim hoff.1 hoff.2, State.flag, State.setBothDown,
        State.fld_setFld_off v R.DEVICE_STATE_PCIE_BOTH_DOWN (R.PCIEA_F_QCFG_EN f) _ hoff.1]
      exact hen
    · rw [ht, State.lose_inprog, State.setBothDown, State.fn, State.setFld_fns, ← State.fn, hfn]
      rfl
  · rw [ht, hend.mem, hkeep.mem]
  · rw [ht, hend.cores, hkeep.cores]

/-! ### Ports and the queues of a function (O44) -/

theorem exec_portFailure_up {s : State} {p : Fin 2} (hup : s.portUp p = true) : exec (.portFailure p) s = .next (s.portReset p) :=
  by
  have hexec : exec (.portFailure p) s = .next (s.portFail p) := rfl
  rw [hexec, State.portFail, if_pos hup]

/-- A port trained. -/
def State.portTrained (s : State) (p speed width : Nat) : State :=
  ((((s.setPad p .active).setFld (R.PCIE_P_PORTSTAT_UP p) 1).setFld (R.PCIE_P_PORTSTAT_SPEED p) speed).setFld (R.PCIE_P_PORTSTAT_WIDTH p) width).setFld
    (R.PCIE_P_PORTSTAT_HANDED p) 0

theorem exec_portReturn_down {s : State} {p : Fin 2} (hp : s.hasPort p = true) (hup : s.portUp p = false) (speed width : Nat) :
    exec (.portReturn p speed width) s = .next (if (s.portTrained p speed width).setBothDown.portsLost then (s.portTrained p speed width).setBothDown
      else (s.portTrained p speed width).setBothDown.regain lostPCIE_PORT) := by
  have hno : ¬ ((!s.hasPort p || s.portUp p) = true) := by rw [hp, hup]; decide
  have hexec : exec (.portReturn p speed width) s = .next (if !s.hasPort p || s.portUp p then s else
      if (s.portTrained p speed width).setBothDown.portsLost then (s.portTrained p speed width).setBothDown
      else (s.portTrained p speed width).setBothDown.regain lostPCIE_PORT) := rfl
  rw [hexec, if_neg hno]

theorem State.portTrained_shows (s : State) (p : Nat) {speed width : Nat} (hs : speed < 8) (hw : width < 16) :
    (s.portTrained p speed width).portUp p = true ∧ (s.portTrained p speed width).fld (R.PCIE_P_PORTSTAT_SPEED p) = speed ∧
      (s.portTrained p speed width).fld (R.PCIE_P_PORTSTAT_WIDTH p) = width ∧ (s.portTrained p speed width).flag (R.PCIE_P_PORTSTAT_HANDED p) = false ∧
      State.Keeps {R.PCIE_P_PORTSTAT p} s (s.portTrained p speed width) := by
  have k0 : State.Keeps {R.PCIE_P_PORTSTAT p} s (s.setPad p .active) := ⟨fun _ _ => rfl, rfl, rfl⟩
  unfold State.portTrained
  generalize s.setPad p .active = w at k0
  refine ⟨?_, ?_, ?_, ?_, ?_⟩
  · rw [State.portUp, State.flag, State.fld_setFld_apart _ _ _ _ rfl rfl, State.fld_setFld_apart _ _ _ _ rfl rfl, State.fld_setFld_apart _ _ _ _ rfl rfl,
      State.fld_setFld_here _ _ _ rfl]
    rfl
  · rw [State.fld_setFld_apart _ _ _ _ rfl rfl, State.fld_setFld_apart _ _ _ _ rfl rfl, State.fld_setFld_here _ _ _ rfl]
    exact Nat.mod_eq_of_lt hs
  · rw [State.fld_setFld_apart _ _ _ _ rfl rfl, State.fld_setFld_here _ _ _ rfl]
    exact Nat.mod_eq_of_lt hw
  · rw [State.flag, State.fld_setFld_here _ _ _ rfl]
    rfl
  · exact (((k0.trans (State.Keeps.setFld _ (f := R.PCIE_P_PORTSTAT_UP p) _ rfl)).trans (State.Keeps.setFld _ (f := R.PCIE_P_PORTSTAT_SPEED p) _ rfl)).trans
      (State.Keeps.setFld _ (f := R.PCIE_P_PORTSTAT_WIDTH p) _ rfl)).trans (State.Keeps.setFld _ (f := R.PCIE_P_PORTSTAT_HANDED p) _ rfl)

/-- Port A trained again, with no other port down. -/
theorem exec_portReturn_first {s : State} (h : s.st ≠ stTRIPPED) (hup : s.portUp 0 = false) (hb : s.hasPortB = false ∨ s.portUp 1 = true)
    {speed width : Nat} (hs : speed < 8) (hw : width < 16) :
    ∃ t, exec (.portReturn 0 speed width) s = .next t ∧ t.portUp 0 = true ∧ t.fld (R.PCIE_P_PORTSTAT_SPEED 0) = speed ∧
        t.fld (R.PCIE_P_PORTSTAT_WIDTH 0) = width ∧ t.flag (R.PCIE_P_PORTSTAT_HANDED 0) = false ∧
        t.flag R.DEVICE_STATE_PCIE_BOTH_DOWN = false ∧ bit t.dev.lost lostPCIE_PORT = false ∧ t.mem = s.mem := by
  obtain ⟨hone, hspeed, hwidth, hhanded, hkeep⟩ := s.portTrained_shows 0 hs hw
  have hexec := exec_portReturn_down (s := s) (p := 0) rfl hup speed width
  have hfar : ∀ o ∈ [R.DEVICE_STATE, R.DEVICE_CAPS, R.PCIE_P_PORTSTAT 1], o ∉ ({R.PCIE_P_PORTSTAT 0} : Set Nat) := by
    intro o ho hm
    rw [Set.mem_singleton_iff.1 hm] at ho
    revert ho
    decide
  have hst : (s.portTrained 0 speed width).st = s.st := hkeep.fld (g := R.DEVICE_STATE_STATE) (hfar _ (.head _))
  have hport : (s.portTrained 0 speed width).hasPortB = s.hasPortB := hkeep.flag (g := R.DEVICE_CAPS_PCIEB) (hfar _ (.tail _ (.head _)))
  have hpeer : (s.portTrained 0 speed width).portUp 1 = s.portUp 1 := hkeep.flag (g := R.PCIE_P_PORTSTAT_UP 1) (hfar _ (.tail _ (.tail _ (.head _))))
  change exec (.portReturn 0 speed width) s = .next (if (s.portTrained 0 speed width).setBothDown.portsLost then (s.portTrained 0 speed width).setBothDown
      else (s.portTrained 0 speed width).setBothDown.regain lostPCIE_PORT) at hexec
  generalize s.portTrained 0 speed width = u at *
  have hboth : State.Keeps {R.DEVICE_STATE} u u.setBothDown := State.Keeps.setFld u _ rfl
  have hnear (q : Nat) (hq : q < 2) : R.PCIE_P_PORTSTAT q ∉ ({R.DEVICE_STATE} : Set Nat) := (portstat_alone q hq).2.1
  have hstb : u.setBothDown.st = u.st := State.fld_setFld_apart u R.DEVICE_STATE_PCIE_BOTH_DOWN R.DEVICE_STATE_STATE _ rfl rfl
  have hlost : u.setBothDown.portsLost = false := by
    have h0 : u.setBothDown.portUp 0 = true := (hboth.flag (g := R.PCIE_P_PORTSTAT_UP 0) (hnear 0 (by decide))).trans hone
    have h1 : u.setBothDown.portUp 1 = s.portUp 1 := (hboth.flag (g := R.PCIE_P_PORTSTAT_UP 1) (hnear 1 (by decide))).trans hpeer
    have h2 : u.setBothDown.hasPortB = s.hasPortB := (hboth.flag (g := R.DEVICE_CAPS_PCIEB) (show ¬ _ by decide)).trans hport
    rw [State.portsLost, h0, h1, h2]
    rcases hb with hb | hb
    · rw [hb]; rfl
    · rw [hb]; exact Bool.and_false _
  rw [if_neg (by rw [hlost]; decide)] at hexec
  have hreg : State.Outer {R.DEVICE_STATE, R.PCIEA_F_LOST 0} u.setBothDown (u.setBothDown.regain lostPCIE_PORT) := State.Outer.regain _ (.inl rfl) (.inr rfl) _
  have hstat (g : Fld) (hg : g.off = R.PCIE_P_PORTSTAT 0) : (u.setBothDown.regain lostPCIE_PORT).fld g = u.fld g := by
    obtain ⟨-, hns, hnl⟩ := portstat_alone 0 (by decide)
    rw [hreg.fld (g := g) (hg ▸ fun hm => hm.elim hns hnl), hboth.fld (g := g) (hg ▸ hnear 0 (by decide))]
  refine ⟨_, hexec, ?_, ?_, ?_, ?_, ?_, ?_, ?_⟩
  · rw [State.portUp, State.flag, hstat _ rfl]
    exact hone
  · rw [hstat _ rfl, hspeed]
  · rw [hstat _ rfl, hwidth]
  · rw [State.flag, hstat _ rfl]
    exact hhanded
  · rw [State.flag, State.fld_regain_apart _ _ (by decide) (by decide), ← State.flag, State.setBothDown_flag, hone]
    rfl
  · rw [State.regain_lost _ (by rw [hstb, hst]; exact h), bit_clrBit]
    rfl
  · rw [hreg.mem, hboth.mem, hkeep.mem]

theorem exec_flr_vf {s : State} {f : Fin 5} (hf : f.val ≠ 0) :
    ∃ t, exec (.flr f) s = .next t ∧ t.fn f = Fn.reset ∧ t.flag (R.PCIEA_F_QCFG_EN f) = false ∧
      t.flag (R.PCIEA_F_VRCFG_EN f) = false ∧ t.fld (R.PCIEA_F_FSTATUS_VERSION f) = 0 ∧ t.jobs = s.jobs ∧
      (∀ g, g ≠ f.val → t.fn g = s.fn g) ∧ t.st = s.st ∧ t.mem = s.mem := by
  have hexec : exec (.flr f) s = .next (if f.val = 0 then s.portFail 0 else s.flrFn f) := rfl
  rw [if_neg hf] at hexec
  have hkeep := s.flrFn_keeps f
  have hst : (s.flrFn f).st = s.st := hkeep.fld (g := R.DEVICE_STATE_STATE) (show R.DEVICE_STATE ∉ flrRegs f by fin_cases f <;> decide)
  have hoff (u : State) (g : Fld) (o : Nat) (w : BitVec 64) (ho : ¬ g.off = o) : (u.setReg o w).fld g = u.fld g :=
    congrArg g.get ((State.reg_setReg ..).trans (if_neg ho))
  have hjobs (u : State) (x : Fld) (v : Nat) : (u.setFld x v).jobs = u.jobs := rfl
  have hjobsr (u : State) (o : Nat) (v : BitVec 64) : (u.setReg o v).jobs = u.jobs := rfl
  refine ⟨_, hexec, ?_, ?_, ?_, ?_, ?_, fun g hg => ?_, hst, hkeep.mem⟩
  · rw [State.flrFn_fns, if_pos rfl]
  · rw [State.flrFn_qcfg s f.isLt f.isLt, if_pos rfl]
  · have hvr : R.PCIEA_F_VRCFG f ∉ [R.PCIEA_F_FSTATUS f, R.PCIEA_F_LOST f, R.PCIEA_F_BUSY f, R.PCIEA_F_BYTES f] := by fin_cases f <;> decide
    simp only [List.mem_cons, List.not_mem_nil, or_false, not_or] at hvr
    obtain ⟨h1, h2, h3, h4⟩ := hvr
    rw [State.flag, State.flrFn, hoff _ (R.PCIEA_F_VRCFG_EN f) _ _ h4, hoff _ (R.PCIEA_F_VRCFG_EN f) _ _ h3, hoff _ (R.PCIEA_F_VRCFG_EN f) _ _ h2,
      State.fld_setFld_off _ (R.PCIEA_F_FSTATUS_VERSION f) (R.PCIEA_F_VRCFG_EN f) _ h1, State.fld_setFld_here _ _ _ rfl]
    rfl
  · have hfs : R.PCIEA_F_FSTATUS f ∉ [R.PCIEA_F_LOST f, R.PCIEA_F_BUSY f, R.PCIEA_F_BYTES f] := by fin_cases f <;> decide
    simp only [List.mem_cons, List.not_mem_nil, or_false, not_or] at hfs
    obtain ⟨h2, h3, h4⟩ := hfs
    rw [State.flrFn, hoff _ (R.PCIEA_F_FSTATUS_VERSION f) _ _ h4, hoff _ (R.PCIEA_F_FSTATUS_VERSION f) _ _ h3, hoff _ (R.PCIEA_F_FSTATUS_VERSION f) _ _ h2,
      State.fld_setFld_here _ _ _ rfl]
    rfl
  · rw [State.flrFn, hjobsr, hjobsr, hjobsr, hjobs, hjobs, hjobs]
    rfl
  · rw [State.flrFn_fns, if_neg hg]

theorem exec_msixModerationTimeout_fires {s : State} {f : Fin 5} {v : Fin 4} (hm : s.moderated f v = true)
    (hu : SMap.get (fun _ => 0) (s.fn f).unsig v ≠ 0) :
    ∃ t, exec (.msixModerationTimeout f v) s = .next t ∧ SMap.get (fun _ => 0) (t.fn f).unsig v = 0 ∧
      SMap.get (fun _ => 0) t.irqs (16 * f + v) = SMap.get (fun _ => 0) s.irqs (16 * f + v) + 1 ∧ t.regs = s.regs := by
  have hexec : exec (.msixModerationTimeout f v) s =
      .next (if s.moderated f v && SMap.get (fun _ => 0) (s.fn f).unsig v != 0 then s.fire f v else s) := rfl
  rw [if_pos (by rw [hm]; simpa using hu)] at hexec
  have hfire (g : Nat) : (s.fire f v).fn g = if g = f.val then { s.fn f with unsig := SMap.set (fun _ => 0) (s.fn f).unsig v 0 } else s.fn g :=
    s.fn_modFn f g (fun k => { k with unsig := SMap.set (fun _ => 0) k.unsig v 0 })
  have hirqs : (s.fire f v).irqs = SMap.set (fun _ => 0) s.irqs (16 * f + v) (SMap.get (fun _ => 0) s.irqs (16 * f + v) + 1) := rfl
  refine ⟨_, hexec, ?_, ?_, rfl⟩
  · rw [hfire, if_pos rfl]
    exact (SMap.get_set (fun _ => 0) (s.fn f).unsig v v 0).trans (if_pos rfl)
  · rw [hirqs, SMap.get_set, if_pos rfl]

/-! ### Doorbells and QCFG, written by firmware at M -/

theorem State.blockWrite_core {s : State} (h : s.st ≠ stTRIPPED) (n u f off : Nat) (g : State → State) : s.blockWrite (.core n u .m) f off g = g s := by
  have hopen : s.blockWrite (.core n u .m) f off g = if s.st = stTRIPPED then s.discard (.core n u .m) off else g s := rfl
  rw [hopen, if_neg h]

theorem State.flushCq_idle {s : State} {f : Nat} (h : (s.fn f).waiting = []) (n : Nat) : s.flushCq f n = s := by
  cases n with
  | zero => rfl
  | succ n => rw [State.flushCq, h]

/-- The distance from a slot to the one some steps on in a ring. -/
theorem ring_distance {n x d : Nat} (hx : x < n) (hd : d < n) : ((x + d) % n + n - x) % n = d := by
  by_cases h : x + d < n
  · rw [Nat.mod_eq_of_lt h, show x + d + n - x = d + n by omega, Nat.add_mod_right, Nat.mod_eq_of_lt hd]
  · have hwrap : (x + d) % n = x + d - n := (Nat.mod_eq_sub_mod (Nat.le_of_not_lt h)).trans (Nat.mod_eq_of_lt (by omega))
    rw [hwrap, show x + d - n + n - x = d by omega, Nat.mod_eq_of_lt hd]

/-- The entries that a HEAD frees. -/
theorem ring_freed {n i len freed v : Nat} (hi : i < n) (hpos : 0 < freed) (hle : freed ≤ len) (hlen : len ≤ n)
    (hv : v % n = (i + n - len + freed) % n) :
    (if (v % n + n - (i + n - len % n) % n) % n = 0 ∧ len = n then n else min ((v % n + n - (i + n - len % n) % n) % n) len) = freed := by
  have hfirst : (i + n - len % n) % n = (i + n - len) % n := by
    by_cases h : len = n
    · rw [h, Nat.mod_self, Nat.sub_zero, Nat.add_mod_right, Nat.add_sub_cancel]
    · rw [Nat.mod_eq_of_lt (by omega : len < n)]
  have hx : (i + n - len) % n < n := Nat.mod_lt _ (by omega)
  rw [hfirst, hv, ← Nat.mod_add_mod]
  generalize (i + n - len) % n = x at hx
  by_cases hf : freed = n
  · have hfull : len = n := by omega
    rw [hf, Nat.add_mod_right, Nat.mod_eq_of_lt hx, Nat.add_sub_cancel_left, Nat.mod_self, if_pos ⟨rfl, hfull⟩]
  · have hlt : freed < n := by omega
    rw [ring_distance hx hlt, if_neg (by omega), Nat.min_eq_left hle]

section
variable {s : State} (h : s.st ≠ stTRIPPED) (n u : Nat) (f : Fin 5) (v : BitVec 32)
include h

theorem exec_sqtail_core : ∃ t, exec (.sqtail (.core n u .m) f v) s = .next t ∧ (t.fn f).sqTail = v.toNat % 4096 % s.sqSize f ∧
    (t.fn f).cq = (s.fn f).cq ∧ t.regs = s.regs ∧ ∀ g, g ≠ f.val → t.fn g = s.fn g := by
  have hexec : exec (.sqtail (.core n u .m) f v) s =
      .next (s.blockWrite (.core n u .m) f (R.PCIEA_F_SQTAIL f) (fun s => s.ringTail f (v.toNat % 4096))) := rfl
  rw [State.blockWrite_core h] at hexec
  have hfn (g : Nat) : (s.ringTail f (v.toNat % 4096)).fn g = if g = f.val then { s.fn f with sqTail := v.toNat % 4096 % s.sqSize f } else s.fn g :=
    s.fn_modFn f g _
  refine ⟨_, hexec, ?_, ?_, rfl, fun g hg => ?_⟩
  · rw [hfn, if_pos rfl]
  · rw [hfn, if_pos rfl]
  · rw [hfn, if_neg hg]

theorem exec_cqhead_core {freed : Nat} (hw : (s.fn f).waiting = []) (hi : (s.fn f).cqIdx < s.cqSize f) (hpos : 0 < freed)
    (hle : freed ≤ (s.fn f).cq.length) (hlen : (s.fn f).cq.length ≤ s.cqSize f) (hv : v.toNat < 4096)
    (hmod : v.toNat % s.cqSize f = ((s.fn f).cqIdx + s.cqSize f - (s.fn f).cq.length + freed) % s.cqSize f) :
    ∃ t, exec (.cqhead (.core n u .m) f v) s = .next t ∧ (t.fn f).cq = (s.fn f).cq.drop freed ∧ (t.fn f).cqIdx = (s.fn f).cqIdx ∧ t.regs = s.regs := by
  have hexec : exec (.cqhead (.core n u .m) f v) s =
      .next (s.blockWrite (.core n u .m) f (R.PCIEA_F_CQHEAD f) (fun s => s.ringHead f (v.toNat % 4096))) := rfl
  rw [State.blockWrite_core h] at hexec
  have hhead : s.ringHead f (v.toNat % 4096) = s.setFn f { s.fn f with cq := (s.fn f).cq.drop freed } := by
    rw [State.ringHead, Nat.mod_eq_of_lt hv]
    dsimp only
    rw [ring_freed hi hpos hle hlen hmod]
    refine State.flushCq_idle ?_ 32
    rw [State.fn_setFn, if_pos rfl]
    exact hw
  rw [hhead] at hexec
  have hfn : (s.setFn f { s.fn f with cq := (s.fn f).cq.drop freed }).fn f = { s.fn f with cq := (s.fn f).cq.drop freed } :=
    (s.fn_setFn f f _).trans (if_pos rfl)
  exact ⟨_, hexec, by rw [hfn], by rw [hfn], rfl⟩

theorem exec_vrhead_core {read : Nat} (hr : read ≤ (s.fn f).vr.length) (hl : (s.fn f).vr.length < 2 ^ 32) (hh : (s.fn f).vrHead < 2 ^ 32)
    (hv : v.toNat = ((s.fn f).vrHead + read) % 2 ^ 32) :
    ∃ t, exec (.vrhead (.core n u .m) f v) s = .next t ∧ (t.fn f).vr = (s.fn f).vr.drop read ∧ (t.fn f).vrHead = v.toNat ∧ t.regs = s.regs := by
  have hexec : exec (.vrhead (.core n u .m) f v) s =
      .next (s.blockWrite (.core n u .m) f (R.PCIEA_F_VRHEAD f) (fun s => s.ringRecords f v.toNat)) := rfl
  rw [State.blockWrite_core h] at hexec
  have hn : min ((v.toNat + 2 ^ 32 - (s.fn f).vrHead) % 2 ^ 32) (s.fn f).vr.length = read := by omega
  have hfn : (s.ringRecords f v.toNat).fn f = { s.fn f with vr := (s.fn f).vr.drop read, vrHead := ((s.fn f).vrHead + read) % 2 ^ 32 } := by
    refine (s.fn_modFn f f _).trans ((if_pos rfl).trans ?_)
    dsimp only
    rw [hn]
  exact ⟨_, hexec, by rw [hfn], by rw [hfn, hv], rfl⟩

end

/-- QCFG with the fields of a written word. -/
def State.qcfgFields (s : State) (f v : Nat) : State :=
  ((((s.setFld (R.PCIEA_F_QCFG_EN f) (v / 2 ^ 31 % 2)).setFld (R.PCIEA_F_QCFG_SQLOG f) (v / 2 ^ 20 % 16)).setFld
    (R.PCIEA_F_QCFG_CQLOG f) (v / 2 ^ 16 % 16)).setFld (R.PCIEA_F_QCFG_MODCNT f) (v / 256 % 256)).setFld (R.PCIEA_F_QCFG_MODUS f) (v % 256)

theorem State.writeQcfg_eq (s : State) (f v : Nat) : s.writeQcfg f v =
    if v / 2 ^ 31 % 2 = 0 then (s.qcfgFields f v).resetQueues f else (s.qcfgFields f v).flushCq f 32 := rfl

theorem State.qcfgFields_shows (s : State) (f v : Nat) : (s.qcfgFields f v).fld (R.PCIEA_F_QCFG_EN f) = v / 2 ^ 31 % 2 ∧
    (s.qcfgFields f v).fld (R.PCIEA_F_QCFG_SQLOG f) = v / 2 ^ 20 % 16 ∧ (s.qcfgFields f v).fld (R.PCIEA_F_QCFG_CQLOG f) = v / 2 ^ 16 % 16 ∧
    (s.qcfgFields f v).fld (R.PCIEA_F_QCFG_MODCNT f) = v / 256 % 256 ∧ (s.qcfgFields f v).fns = s.fns := by
  unfold State.qcfgFields
  refine ⟨?_, ?_, ?_, ?_, ?_⟩
  · rw [State.fld_setFld_apart _ _ _ _ rfl rfl, State.fld_setFld_apart _ _ _ _ rfl rfl, State.fld_setFld_apart _ _ _ _ rfl rfl,
      State.fld_setFld_apart _ _ _ _ rfl rfl, State.fld_setFld_here _ _ _ rfl]
    exact Nat.mod_mod _ _
  · rw [State.fld_setFld_apart _ _ _ _ rfl rfl, State.fld_setFld_apart _ _ _ _ rfl rfl, State.fld_setFld_apart _ _ _ _ rfl rfl,
      State.fld_setFld_here _ _ _ rfl]
    exact Nat.mod_mod _ _
  · rw [State.fld_setFld_apart _ _ _ _ rfl rfl, State.fld_setFld_apart _ _ _ _ rfl rfl, State.fld_setFld_here _ _ _ rfl]
    exact Nat.mod_mod _ _
  · rw [State.fld_setFld_apart _ _ _ _ rfl rfl, State.fld_setFld_here _ _ _ rfl]
    exact Nat.mod_mod _ _
  · rw [State.setFld_fns, State.setFld_fns, State.setFld_fns, State.setFld_fns, State.setFld_fns]

theorem State.fld_resetQueues (w : State) (f : Nat) (g : Fld) : (w.resetQueues f).fld g = w.fld g := rfl

theorem State.fn_resetQueues (w : State) (f : Nat) :
    (w.resetQueues f).fn f = { Fn.reset with vr := (w.fn f).vr, vrCount := (w.fn f).vrCount, vrHead := (w.fn f).vrHead } :=
  (w.fn_modFn f f (fun k => { Fn.reset with vr := k.vr, vrCount := k.vrCount, vrHead := k.vrHead })).trans (if_pos rfl)

theorem word_top_on {v : BitVec 32} (hv : v.getLsbD 31 = true) : v.toNat / 2 ^ 31 % 2 = 1 := by
  have ht : v.toNat.testBit 31 = true := hv
  rw [Nat.testBit_eq_decide_div_mod_eq, decide_eq_true_iff] at ht
  exact ht

theorem word_top_off {v : BitVec 32} (hv : v.getLsbD 31 = false) : v.toNat / 2 ^ 31 % 2 = 0 := by
  have ht : v.toNat.testBit 31 = false := hv
  rw [Nat.testBit_eq_decide_div_mod_eq, decide_eq_false_iff_not] at ht
  omega

section
variable {s : State} (h : s.st ≠ stTRIPPED) (n u : Nat) (f : Fin 5) (v : BitVec 32)
include h

theorem exec_qcfgWrite_core : exec (.qcfgWrite (.core n u .m) f v) s = .next (s.writeQcfg f v.toNat) := by
  have hexec : exec (.qcfgWrite (.core n u .m) f v) s = .next (s.blockWrite (.core n u .m) f (R.PCIEA_F_QCFG f) (fun s => s.writeQcfg f v.toNat)) := rfl
  rw [hexec, State.blockWrite_core h]

/-- QCFG with EN 0 resets the queues. -/
theorem exec_qcfgWrite_off (hv : v.getLsbD 31 = false) : ∃ t, exec (.qcfgWrite (.core n u .m) f v) s = .next t ∧
    t.flag (R.PCIEA_F_QCFG_EN f) = false ∧ (t.fn f).cq = [] ∧ (t.fn f).inprog = [] ∧ (t.fn f).waiting = [] ∧ (t.fn f).cqPhase = true ∧
    (t.fn f).vr = (s.fn f).vr ∧ t.fld (R.PCIEA_F_QCFG_SQLOG f) = v.toNat / 2 ^ 20 % 16 ∧ t.fld (R.PCIEA_F_QCFG_MODCNT f) = v.toNat / 256 % 256 := by
  have hbit := word_top_off hv
  have hexec := exec_qcfgWrite_core h n u f v
  rw [State.writeQcfg_eq, if_pos hbit] at hexec
  obtain ⟨hen, hsq, -, hmod, hfns⟩ := s.qcfgFields_shows f v.toNat
  generalize s.qcfgFields f v.toNat = w at *
  have hvr : (w.fn f).vr = (s.fn f).vr := by rw [State.fn, hfns, ← State.fn]
  have hfn := w.fn_resetQueues f
  refine ⟨_, hexec, ?_, by rw [hfn]; rfl, by rw [hfn]; rfl, by rw [hfn]; rfl, by rw [hfn]; rfl, by rw [hfn, ← hvr], ?_, ?_⟩
  · rw [State.flag, State.fld_resetQueues, hen, hbit]
    rfl
  · rw [State.fld_resetQueues, hsq]
  · rw [State.fld_resetQueues, hmod]

theorem exec_qcfgWrite_on (hv : v.getLsbD 31 = true) (hw : (s.fn f).waiting = []) : ∃ t, exec (.qcfgWrite (.core n u .m) f v) s = .next t ∧
    t.flag (R.PCIEA_F_QCFG_EN f) = true ∧ t.fld (R.PCIEA_F_QCFG_CQLOG f) = v.toNat / 2 ^ 16 % 16 ∧ t.fns = s.fns := by
  have hbit := word_top_on hv
  have hexec := exec_qcfgWrite_core h n u f v
  obtain ⟨hen, -, hcq, -, hfns⟩ := s.qcfgFields_shows f v.toNat
  rw [State.writeQcfg_eq, if_neg (by omega), State.flushCq_idle (by rw [State.fn, hfns, ← State.fn]; exact hw)] at hexec
  refine ⟨_, hexec, ?_, hcq, hfns⟩
  rw [State.flag, hen, hbit]
  rfl

end

/-- Settles O44: a port reset through the port's going down, its hand-over and what becomes of the functions; the queues through the
function that a doorbell changes. -/
theorem portsAndQueues : Obligations.PortsAndQueues := by
  unfold Obligations.PortsAndQueues
  intro s h
  refine ⟨fun hup hno => ?_, fun hb hup hyes => ?_, fun speed width hup hb hs hw => exec_portReturn_first h hup hb hs hw, fun f hf => exec_flr_vf hf,
    fun f v hm hu => exec_msixModerationTimeout_fires hm hu, fun n u f v => ⟨exec_sqtail_core h n u f v,
      fun freed hw hi hpos hle hlen hv hmod => exec_cqhead_core h n u f v hw hi hpos hle hlen hv hmod,
      fun read hr hl hh hv => exec_vrhead_core h n u f v hr hl hh hv, exec_qcfgWrite_off h n u f v, exec_qcfgWrite_on h n u f v⟩⟩
  · have hgone := State.portReset_gone (s := s) h (p := 0) rfl
    refine ⟨_, exec_portFailure_up (p := 0) hup, hgone.up, hgone.epoch, hgone.empty rfl hno, hgone.lost, hgone.serving, ?_, hgone.cores, hgone.mem⟩
    have hboth : (s.portReset 0).flag R.DEVICE_STATE_PCIE_BOTH_DOWN = !s.portUp 1 := hgone.both
    show (s.portReset 0).flag R.DEVICE_STATE_PCIE_BOTH_DOWN = true ↔ _
    rw [hboth, Bool.not_eq_true']
  · have hgone := State.portReset_gone (s := s) h (p := 1) (by rw [State.hasPort, hb]; rfl)
    have hpeer : s.portUp 0 = true := by
      have hall : (s.flag (R.PCIE_P_HANDOVER_EN 1) && s.hasPortB && s.portUp 0 && (true || s.fld R.DEVICE_STRAPS_PEB_ROLE == 0)) = true := hyes
      simp only [Bool.and_eq_true] at hall
      exact hall.1.2
    exact ⟨_, exec_portFailure_up (p := 1) hup, hgone.up, hgone.handed.trans hyes, hgone.other.trans hpeer, hgone.lost⟩

end Sys2Proof.Machine
end

section
-- One proof after another: what waits for another costs the check memory.
set_option Elab.async false
/-! SUPPORT. Register accesses and the register commands (O58) -/
namespace Sys2Proof.Machine

/-! ### RESETCMD's port resets, CNTCLR and RUN (R135, R448, R597) -/

section
variable {s : State} (h : s.st ≠ stTRIPPED) (n a : Nat)
include h

theorem exec_resetcmd_port {p : Fin 2} (hp : p = 1 → s.hasPortB = true) :
    ∃ t, exec (if p = 0 then Instr.portAResetCmd (.core n a .m) 0xB311 else .portBResetCmd (.core n a .m) 0xB311) s = .next t ∧ t.portUp p = false ∧
      t.fld (R.PCIE_P_PORTSTAT_EPOCH p) = nextEpoch (s.fld (R.PCIE_P_PORTSTAT_EPOCH p)) := by
  have hpresent : s.hasPort p = true := by
    fin_cases p
    · rfl
    · have hb := hp rfl
      show (false || s.hasPortB) = true
      rw [hb]
      rfl
  have hgone := State.portReset_gone h hpresent
  have hexec : exec (if p = 0 then Instr.portAResetCmd (.core n a .m) 0xB311 else .portBResetCmd (.core n a .m) 0xB311) s = .next (s.portReset p) := by
    by_cases h0 : p = 0
    · rw [if_pos h0, h0]
      exact exec_portAResetCmd_key h n a
    · have h1 : p = 1 := by omega
      rw [if_neg h0, exec_portBResetCmd_key h n a, if_pos (hp h1), h1]
      rfl
  exact ⟨_, hexec, hgone.up, hgone.epoch⟩

theorem exec_cntclr_core (v : BitVec 32) : exec (.cntclr (.core n a .m) v) s = .next (s.iter 4 (fun c s => if bit v.toNat c then s.clearClient c else s)) := by
  have hexec : exec (.cntclr (.core n a .m) v) s = .next (s.put (.core n a .m) R.VERD_CNTCLR 4 v.toNat) := rfl
  obtain ⟨r, hr, hw⟩ : ∃ r, regAt R.VERD_CNTCLR = some (r, 0) ∧ r.wide = false := regAt_of_map (by decide)
  have hx : (BitVec.ofNat 64 v.toNat).toNat = v.toNat := by rw [BitVec.toNat_ofNat, Nat.mod_eq_of_lt (by omega)]
  have hwrite (fs : List FieldRow) (x bits : BitVec 64) : s.writeReg (.core n a .m) R.VERD_CNTCLR fs x bits =
      (s.iter 4 (fun c s => if bit x.toNat c then s.clearClient c else s), false) := rfl
  rw [hexec, State.put_word rfl rfl hr hw h v.isLt, hwrite, hx, Wrote.settle_taken]

theorem exec_runWrite_core (v : BitVec 32) : exec (.runWrite (.core n a .m) v) s = .next (s.setFld R.SAFEIO_RUN_RUN v.toNat) := by
  have hexec : exec (.runWrite (.core n a .m) v) s = .next (s.put (.core n a .m) R.SAFEIO_RUN 4 v.toNat) := rfl
  obtain ⟨r, hr, hw⟩ : ∃ r, regAt R.SAFEIO_RUN = some (r, 0) ∧ r.wide = false := regAt_of_map (by decide)
  have hx : (BitVec.ofNat 64 v.toNat).toNat = v.toNat := by rw [BitVec.toNat_ofNat, Nat.mod_eq_of_lt (by omega)]
  have hwrite (fs : List FieldRow) (x bits : BitVec 64) : s.writeReg (.core n a .m) R.SAFEIO_RUN fs x bits = (s.setFld R.SAFEIO_RUN_RUN x.toNat, false) := rfl
  rw [hexec, State.put_word rfl rfl hr hw h v.isLt, hwrite, hx, Wrote.settle_taken]

end

/-- What clearing a client's counters clears. -/
theorem State.clearClient_shows (s : State) (c : Nat) : (∀ i, i < 8 → (s.clearClient c).reg (R.VERD_CLIENT_ACCEPTED c + 4 * i) = 0) ∧
    State.Keeps {o | ∃ i, i < 8 ∧ o = R.VERD_CLIENT_ACCEPTED c + 4 * i} s (s.clearClient c) := by
  have hall (l : List Nat) (hl : ∀ i ∈ l, i < 8) (t : State) :
      (∀ i ∈ l, (l.foldl (fun s i => s.setReg (R.VERD_CLIENT_ACCEPTED c + 4 * i) 0) t).reg (R.VERD_CLIENT_ACCEPTED c + 4 * i) = 0) ∧
      State.Keeps {o | ∃ i, i ∈ l ∧ o = R.VERD_CLIENT_ACCEPTED c + 4 * i} t (l.foldl (fun s i => s.setReg (R.VERD_CLIENT_ACCEPTED c + 4 * i) 0) t) := by
    induction l generalizing t with
    | nil => exact ⟨fun i hi => absurd hi (List.not_mem_nil), State.Keeps.refl _ t⟩
    | cons j l ih =>
      obtain ⟨hzero, hkeep⟩ := ih (fun i hi => hl i (List.mem_cons_of_mem j hi)) (t.setReg (R.VERD_CLIENT_ACCEPTED c + 4 * j) 0)
      rw [List.foldl_cons]
      have hrest : State.Keeps {o | ∃ i, i ∈ j :: l ∧ o = R.VERD_CLIENT_ACCEPTED c + 4 * i} (t.setReg (R.VERD_CLIENT_ACCEPTED c + 4 * j) 0) _ :=
        hkeep.mono fun o ⟨i, hi, ho⟩ => ⟨i, List.mem_cons_of_mem j hi, ho⟩
      have hone : State.Keeps {o | ∃ i, i ∈ j :: l ∧ o = R.VERD_CLIENT_ACCEPTED c + 4 * i} t (t.setReg (R.VERD_CLIENT_ACCEPTED c + 4 * j) 0) :=
        State.Keeps.setReg t 0 ⟨j, List.mem_cons_self .., rfl⟩
      refine ⟨fun i hi => ?_, hone.trans hrest⟩
      by_cases hi' : i ∈ l
      · exact hzero i hi'
      · have hij : i = j := (List.mem_cons.1 hi).resolve_right hi'
        have hoff : ¬ ∃ q, q ∈ l ∧ R.VERD_CLIENT_ACCEPTED c + 4 * i = R.VERD_CLIENT_ACCEPTED c + 4 * q := fun ⟨q, hq, ho⟩ =>
          hi' ((show i = q by omega) ▸ hq)
        rw [hkeep.reg _ hoff, hij]
        exact (State.reg_setReg ..).trans (if_pos rfl)
  obtain ⟨hzero, hkeep⟩ := hall (List.range 8) (fun i hi => List.mem_range.1 hi) s
  exact ⟨fun i hi => hzero i (List.mem_range.2 hi), hkeep.mono fun o ⟨i, hi, ho⟩ => ⟨i, List.mem_range.1 hi, ho⟩⟩

/-- The counters of the chosen clients are cleared, and no other register changes. -/
theorem State.clearClients_shows (s : State) (b : Nat → Bool) (l : List Nat) :
    (∀ c i, c ∈ l → i < 8 → b c = true → (l.foldl (fun s c => if b c then s.clearClient c else s) s).reg (R.VERD_CLIENT_ACCEPTED c + 4 * i) = 0) ∧
    State.Keeps {o | ∃ c i, c ∈ l ∧ i < 8 ∧ b c = true ∧ o = R.VERD_CLIENT_ACCEPTED c + 4 * i} s (l.foldl (fun s c => if b c then s.clearClient c else s) s) := by
  induction l generalizing s with
  | nil => exact ⟨fun c i hc => absurd hc (List.not_mem_nil), State.Keeps.refl _ s⟩
  | cons j l ih =>
    rw [List.foldl_cons]
    obtain ⟨hzero, hkeep⟩ := ih (if b j then s.clearClient j else s)
    obtain ⟨hone, hkone⟩ := s.clearClient_shows j
    have hfirst : State.Keeps {o | ∃ c i, c ∈ j :: l ∧ i < 8 ∧ b c = true ∧ o = R.VERD_CLIENT_ACCEPTED c + 4 * i} s (if b j then s.clearClient j else s) := by
      by_cases hb : b j = true
      · rw [if_pos hb]
        exact hkone.mono fun o ⟨i, hi, ho⟩ => ⟨j, i, List.mem_cons_self .., hi, hb, ho⟩
      · rw [if_neg hb]
        exact State.Keeps.refl _ s
    refine ⟨fun c i hc hi hb => ?_, hfirst.trans (hkeep.mono fun o ⟨c, i, hc, hi, hb, ho⟩ => ⟨c, i, List.mem_cons_of_mem j hc, hi, hb, ho⟩)⟩
    by_cases hc' : ∃ c' i', c' ∈ l ∧ i' < 8 ∧ b c' = true ∧ R.VERD_CLIENT_ACCEPTED c + 4 * i = R.VERD_CLIENT_ACCEPTED c' + 4 * i'
    · obtain ⟨c', i', hc', hi', hb', ho⟩ := hc'
      rw [ho]
      exact hzero c' i' hc' hi' hb'
    · rw [hkeep.reg _ hc']
      have hcj : c = j := (List.mem_cons.1 hc).resolve_right fun hl => hc' ⟨c, i, hl, hi, hb, rfl⟩
      rw [hcj] at hb ⊢
      rw [if_pos hb]
      exact hone i hi

/-! ### Rows of a register page that lie before an offset -/

/-- Whether a row's registers end at or before an offset. -/
def RegRow.before (r : RegRow) (off : Nat) : Bool :=
  match r.levels with
  | [] => decide (r.off + 8 ≤ off)
  | (st, n) :: _ => decide (0 < st) && decide (r.off + st * n ≤ off)

theorem RegRow.before_mono {r : RegRow} {a b : Nat} (h : r.before a = true) (hab : a ≤ b) : r.before b = true := by
  unfold RegRow.before at h ⊢
  split at h
  · exact decide_eq_true ((of_decide_eq_true h).trans hab)
  · rw [Bool.and_eq_true, decide_eq_true_iff, decide_eq_true_iff] at h ⊢
    exact ⟨h.1, h.2.trans hab⟩

theorem rowAt_cons_before {r : RegRow} {off : Nat} (h : r.before off = true) (t : List RegRow) : rowAt (r :: t) off = rowAt t off := by
  have hlevels : ∀ b, levelsRem r.levels (off - r.off) = some b → ¬ b < (if r.wide then 8 else 4) := by
    intro b hb
    unfold RegRow.before at h
    split at h
    next hl =>
      rw [hl] at hb
      have hle := of_decide_eq_true h
      obtain rfl := Option.some.inj hb
      split_ifs <;> omega
    next st n l hl =>
      rw [hl, levelsRem] at hb
      rw [Bool.and_eq_true, decide_eq_true_iff, decide_eq_true_iff] at h
      obtain ⟨hst, hle⟩ := h
      have hout : ¬ (off - r.off) / st < n := by
        rw [Nat.div_lt_iff_lt_mul hst, Nat.mul_comm]
        omega
      rw [if_neg hout] at hb
      cases hb
  by_cases hlt : off < r.off
  · rw [rowAt, if_pos hlt]
  · rw [rowAt, if_neg hlt]
    cases hl : levelsRem r.levels (off - r.off) with
    | none => rfl
    | some b => exact if_neg (hlevels b hl)

theorem rowAt_append_before {l : List RegRow} {off : Nat} (h : l.all (fun r => r.before off) = true) (t : List RegRow) :
    rowAt (l ++ t) off = rowAt t off := by
  induction l with
  | nil => rfl
  | cons r l ih =>
    rw [List.all_cons, Bool.and_eq_true] at h
    rw [List.cons_append, rowAt_cons_before h.1, ih h.2]

/-- The row at a place of a table, for an offset behind the rows before it. -/
theorem rowAt_drop {rows : List RegRow} {j start off : Nat} (h : (rows.take j).all (fun r => r.before start) = true) (hs : start ≤ off) :
    rowAt rows off = rowAt (rows.drop j) off := by
  have hall : (rows.take j).all (fun r => r.before off) = true :=
    List.all_eq_true.2 fun r hr => RegRow.before_mono (List.all_eq_true.1 h r hr) hs
  have happ := rowAt_append_before hall (rows.drop j)
  rwa [List.take_append_drop] at happ

/-- A register of a row at the head of the rest of a table. -/
theorem rowAt_head {rows : List RegRow} {r : RegRow} {off : Nat} (hrow : rows.head? = some r) (hoff : r.off ≤ off)
    (hl : levelsRem r.levels (off - r.off) = some 0) : rowAt rows off = some (r, 0) := by
  cases rows with
  | nil => cases hrow
  | cons q rows =>
    obtain rfl := Option.some.inj hrow
    have hpos : 0 < (if q.wide then 8 else 4) := by split_ifs <;> decide
    rw [rowAt, if_neg (by omega), hl]
    exact if_pos hpos

/-! ### The Bellhouse's rows of a core's page -/

theorem rowsCORE_before : (rowsCORE.take 18).all (fun r => r.before 0x1000) = true ∧ (rowsCORE.take 19).all (fun r => r.before 0x1800) = true ∧
    (rowsCORE.take 20).all (fun r => r.before 0x2000) = true := by decide

/-- The shapes of the Bellhouse's rows. -/
def rowIs (rows : List RegRow) (off : Nat) (levels : List (Nat × Nat)) (w : Bool) (l : List (Nat × Nat × Access)) : Bool :=
  match rows.head? with
  | some r => r.off == off && r.levels == levels && r.wide == w && r.fields.map FieldRow.shape == l
  | none => false

theorem rowIs_row {rows : List RegRow} {off : Nat} {levels : List (Nat × Nat)} {w : Bool} {l : List (Nat × Nat × Access)} (h : rowIs rows off levels w l = true) :
    ∃ r, rows.head? = some r ∧ r.off = off ∧ r.levels = levels ∧ r.wide = w ∧ r.fields.map FieldRow.shape = l := by
  unfold rowIs at h
  cases hr : rows.head? with
  | none =>
    rw [hr] at h
    cases h
  | some r =>
    rw [hr] at h
    simp only [Bool.and_eq_true, beq_iff_eq] at h
    obtain ⟨⟨⟨h1, h2⟩, h3⟩, h4⟩ := h
    exact ⟨r, rfl, h1, h2, h3, h4⟩

theorem rowsCORE_bell : rowIs (rowsCORE.drop 18) 0x1000 [(4, 256)] false [(0, 32, .ro)] = true ∧
    rowIs (rowsCORE.drop 19) 0x1800 [(8, 256)] true [(32, 32, .rw), (16, 16, .rw), (11, 5, .rw), (10, 1, .rw), (9, 1, .rw), (8, 1, .rw), (6, 2, .rw), (0, 1, .ro)] = true ∧
    ((rowsCORE.drop 20).head?.map (fun r => (r.off, r.levels, r.wide))) = some (0x2000, [(0x1000, 4), (4, 1024)], false) := by decide

theorem regAt_sobj {c : Nat} (hc : c < 16) (k : Fin 256) : ∃ r, regAt (R.CORE_SOBJ c k) = some (r, 0) ∧ r.wide = false := by
  have hk := k.isLt
  have ho : R.CORE_SOBJ c k = 0x200000 + c * 0x10000 + (0x1000 + 4 * k.val) := by unfold R.CORE_SOBJ; omega
  obtain ⟨r, hr, hoff, hlevels, hw, -⟩ := rowIs_row rowsCORE_bell.1
  refine ⟨r, ?_, hw⟩
  rw [ho, regAt_corePage hc (by omega), rowAt_drop rowsCORE_before.1 (by omega)]
  refine rowAt_head hr (by omega) ?_
  rw [hlevels, hoff, Nat.add_sub_cancel_left, levelsRem, if_pos (by omega), levelsRem, Nat.mul_mod_right]

theorem regAt_sobjcfg {c : Nat} (hc : c < 16) (k : Fin 256) : ∃ r, regAt (R.CORE_SOBJCFG c k) = some (r, 0) ∧ r.wide = true ∧ r.fields.map FieldRow.shape =
    [(32, 32, .rw), (16, 16, .rw), (11, 5, .rw), (10, 1, .rw), (9, 1, .rw), (8, 1, .rw), (6, 2, .rw), (0, 1, .ro)] := by
  have hk := k.isLt
  have ho : R.CORE_SOBJCFG c k = 0x200000 + c * 0x10000 + (0x1800 + 8 * k.val) := by unfold R.CORE_SOBJCFG; omega
  obtain ⟨r, hr, hoff, hlevels, hw, hshape⟩ := rowIs_row rowsCORE_bell.2.1
  refine ⟨r, ?_, hw, hshape⟩
  rw [ho, regAt_corePage hc (by omega), rowAt_drop rowsCORE_before.2.1 (by omega)]
  refine rowAt_head hr (by omega) ?_
  rw [hlevels, hoff, Nat.add_sub_cancel_left, levelsRem, if_pos (by omega), levelsRem, Nat.mul_mod_right]

theorem regAt_vmap {c : Nat} (hc : c < 16) (x : Fin 4) (i : Fin 1024) : ∃ r, regAt (R.CORE_VMAP c x i) = some (r, 0) ∧ r.wide = false := by
  have hx := x.isLt
  have hi := i.isLt
  have ho : R.CORE_VMAP c x i = 0x200000 + c * 0x10000 + (0x2000 + (0x1000 * x.val + 4 * i.val)) := by unfold R.CORE_VMAP; omega
  obtain ⟨r, hr, hrow⟩ := Option.map_eq_some_iff.1 rowsCORE_bell.2.2
  obtain ⟨hoff, hrest⟩ := Prod.mk.inj hrow
  obtain ⟨hlevels, hw⟩ := Prod.mk.inj hrest
  refine ⟨r, ?_, hw⟩
  rw [ho, regAt_corePage hc (by omega), rowAt_drop rowsCORE_before.2.2 (by omega)]
  refine rowAt_head hr (by omega) ?_
  rw [hlevels, hoff, Nat.add_sub_cancel_left, levelsRem, if_pos (by omega), levelsRem, if_pos (by omega), levelsRem]
  exact congrArg some (by omega)

theorem regAt_mbox {c : Nat} (hc : c < 16) (k : Fin 8) : ∃ r, regAt (R.CORE_MBOX c k) = some (r, 0) ∧ r.wide = true ∧ r.fields.map FieldRow.shape =
    [(63, 1, .rw), (61, 2, .rw), (60, 1, .rw), (48, 8, .rw), (36, 10, .ro), (32, 4, .rw), (0, 21, .rw)] := by
  have hall : ∀ k : Fin 8, regHas (R.CORE_MBOX 0 k) true
    [(63, 1, .rw), (61, 2, .rw), (60, 1, .rw), (48, 8, .rw), (36, 10, .ro), (32, 4, .rw), (0, 21, .rw)] = true := by decide
  have hk := k.isLt
  have ho (n : Nat) : R.CORE_MBOX n k = 0x200000 + n * 0x10000 + (0xE0 + 8 * k.val) := by unfold R.CORE_MBOX; omega
  obtain ⟨r, hr, hrest⟩ := regAt_of_has (hall k)
  refine ⟨r, ?_, hrest⟩
  rw [ho, regAt_corePage hc (by omega), ← regAt_corePage (n := 0) (by decide) (by omega), ← ho]
  exact hr

/-! ### Writes in a core's page (R452–R454, R474, R486) -/

section
variable {s : State} (h : s.st ≠ stTRIPPED) {c : CoreId} (hc : s.hasCore c = true) {off o : Nat} (ho : o < 0x10000)
  (hoff : off = 0x200000 + c.val * 0x10000 + o)
include h hc ho hoff

/-- A 32-bit register of a present core's page, written by one that may. -/
theorem State.put_coreWord {m : Master} (hg : s.writeGate m off = .ok) {r : RegRow} (hr : regAt off = some (r, 0)) (hw : r.wide = false) (v : BitVec 32) :
    s.put m off 4 v.toNat = Wrote.settle (s.writeCore m c off r.fields (BitVec.ofNat 64 v.toNat) 0xFFFFFFFF) m off := by
  have hp : pageOf off = 0x20 + c.val := by rw [hoff]; exact pageOf_core ho
  have ha : s.absent off = false := by rw [State.absent_core s c.isLt hp, hc]; rfl
  rw [State.put_word hg ha hr hw h v.isLt, State.writeReg_core s _ c.isLt hp]

theorem State.put_coreLong {m : Master} (hg : s.writeGate m off = .ok) {r : RegRow} (hr : regAt off = some (r, 0)) (hw : r.wide = true) (x : Word) :
    s.put m off 8 x.toNat = Wrote.settle (s.writeCore m c off r.fields x (BitVec.allOnes 64)) m off := by
  have hp : pageOf off = 0x20 + c.val := by rw [hoff]; exact pageOf_core ho
  have ha : s.absent off = false := by rw [State.absent_core s c.isLt hp, hc]; rfl
  rw [State.put_long hg ha hr hw h, State.writeReg_core s _ c.isLt hp, BitVec.ofNat_toNat, BitVec.setWidth_eq]

end

theorem coreBell_below (s : State) (m : Master) {n o : Nat} (ho : o < 0x10000) (hlow : 0x120 ≤ o) (fs : List FieldRow) (v bits : BitVec 64) :
    s.writeCore m n (0x200000 + n * 0x10000 + o) fs v bits =
      if isSobj (0x200000 + n * 0x10000 + o) then
        if m = .dbg then s.handWrite n ((o - 0x1000) / 4) (v.toNat % 2 ^ 32) else (s, false)
      else if 0x1800 ≤ o ∧ o < 0x2000 then s.writeSobjCfg n ((o - 0x1800) / 8) fs v bits
      else if 0x2000 ≤ o ∧ o < 0x6000 then (s.writeVmap m n ((o - 0x2000) / 0x1000) ((o - 0x2000) % 0x1000 / 4) (v.toNat % 2 ^ 32), false)
      else s.writeFields (0x200000 + n * 0x10000 + o) fs v bits := by
  have hmod : (0x200000 + n * 0x10000 + o) % 0x10000 = o := by omega
  unfold State.writeCore
  dsimp only
  rw [if_neg (by unfold R.CORE_WMCFG; omega), if_neg (by unfold R.CORE_DRIFT; omega), if_neg (by unfold R.CORE_PAIRSTAT; omega), hmod, if_neg (by omega)]

theorem isSobj_iff {n o : Nat} (hn : n < 16) (ho : o < 0x10000) : isSobj (0x200000 + n * 0x10000 + o) = true ↔ 0x1000 ≤ o ∧ o < 0x1400 := by
  unfold isSobj
  simp only [Bool.and_eq_true, decide_eq_true_eq]
  omega

section
variable {s : State} (h : s.st ≠ stTRIPPED) {c : CoreId} (hc : s.hasCore c = true)
include h hc

theorem exec_sobjHandWrite (k : Fin 256) (v : BitVec 32) : exec (.sobjHandWrite c k v) s = .next (Wrote.settle (s.handWrite c k v.toNat) .dbg (R.CORE_SOBJ c k)) := by
  have hk := k.isLt
  have hoff : R.CORE_SOBJ c k = 0x200000 + c.val * 0x10000 + (0x1000 + 4 * k.val) := by unfold R.CORE_SOBJ; omega
  have hexec : exec (.sobjHandWrite c k v) s = .next (s.put .dbg (R.CORE_SOBJ c k) 4 v.toNat) := rfl
  obtain ⟨r, hr, hw⟩ := regAt_sobj c.isLt k
  have hobj : isSobj (R.CORE_SOBJ c k) = true := by rw [hoff]; exact (isSobj_iff c.isLt (by omega)).2 ⟨by omega, by omega⟩
  have hg : s.writeGate .dbg (R.CORE_SOBJ c k) = .ok := if_pos (by rw [hobj]; simp)
  have hx : (BitVec.ofNat 64 v.toNat).toNat % 2 ^ 32 = v.toNat := by
    rw [BitVec.toNat_ofNat]
    omega
  have hidx : (0x1000 + 4 * k.val - 0x1000) / 4 = k.val := by omega
  rw [hexec, State.put_coreWord h hc (by omega) hoff hg hr hw]
  conv_lhs => rw [hoff, coreBell_below s .dbg (by omega) (by omega), ← hoff, if_pos hobj, if_pos rfl, hx, hidx]

theorem exec_vmapWrite_core (n a : Nat) (x : Fin 4) (i : Fin 1024) (v : BitVec 32) :
    exec (.vmapWrite (.core n a .m) c x i v) s = .next (s.writeVmap (.core n a .m) c x i v.toNat) := by
  have hxl := x.isLt
  have hil := i.isLt
  have hoff : R.CORE_VMAP c x i = 0x200000 + c.val * 0x10000 + (0x2000 + (0x1000 * x.val + 4 * i.val)) := by unfold R.CORE_VMAP; omega
  have hexec : exec (.vmapWrite (.core n a .m) c x i v) s = .next (s.put (.core n a .m) (R.CORE_VMAP c x i) 4 v.toNat) := rfl
  obtain ⟨r, hr, hw⟩ := regAt_vmap c.isLt x i
  have hobj : ¬ isSobj (R.CORE_VMAP c x i) = true := by
    rw [hoff, isSobj_iff c.isLt (by omega)]
    omega
  have hv : (BitVec.ofNat 64 v.toNat).toNat % 2 ^ 32 = v.toNat := by
    rw [BitVec.toNat_ofNat]
    omega
  have hctx : (0x2000 + (0x1000 * x.val + 4 * i.val) - 0x2000) / 0x1000 = x.val := by omega
  have hidx : (0x2000 + (0x1000 * x.val + 4 * i.val) - 0x2000) % 0x1000 / 4 = i.val := by omega
  rw [hexec, State.put_coreWord h hc (by omega) hoff rfl hr hw]
  conv_lhs => rw [hoff, coreBell_below s _ (by omega) (by omega), ← hoff, if_neg hobj, if_neg (by omega), if_pos (by omega), hv, hctx, hidx, Wrote.settle_taken]

theorem exec_sobjcfgWrite_core (n a : Nat) (k : Fin 256) (x : Word) : ∃ r : RegRow, r.fields.map FieldRow.shape =
      [(32, 32, .rw), (16, 16, .rw), (11, 5, .rw), (10, 1, .rw), (9, 1, .rw), (8, 1, .rw), (6, 2, .rw), (0, 1, .ro)] ∧
    exec (.sobjcfgWrite (.core n a .m) c k (.whole x)) s =
      .next (Wrote.settle (s.writeSobjCfg c k r.fields x (BitVec.allOnes 64)) (.core n a .m) (R.CORE_SOBJCFG c k)) := by
  have hk := k.isLt
  have hoff : R.CORE_SOBJCFG c k = 0x200000 + c.val * 0x10000 + (0x1800 + 8 * k.val) := by unfold R.CORE_SOBJCFG; omega
  have hexec : exec (.sobjcfgWrite (.core n a .m) c k (.whole x)) s = .next (s.put (.core n a .m) (R.CORE_SOBJCFG c k) 8 x.toNat) := rfl
  obtain ⟨r, hr, hw, hshape⟩ := regAt_sobjcfg c.isLt k
  have hobj : ¬ isSobj (R.CORE_SOBJCFG c k) = true := by
    rw [hoff, isSobj_iff c.isLt (by omega)]
    omega
  have hidx : (0x1800 + 8 * k.val - 0x1800) / 8 = k.val := by omega
  refine ⟨r, hshape, ?_⟩
  rw [hexec, State.put_coreLong h hc (by omega) hoff rfl hr hw]
  conv_lhs => rw [hoff, coreBell_below s _ (by omega) (by omega), ← hoff, if_neg hobj, if_pos (by omega), hidx]

theorem exec_mboxWrite_core (n a : Nat) (k : Fin 8) (x : Word) : ∃ r : RegRow, r.fields.map FieldRow.shape =
      [(63, 1, .rw), (61, 2, .rw), (60, 1, .rw), (48, 8, .rw), (36, 10, .ro), (32, 4, .rw), (0, 21, .rw)] ∧
    exec (.mboxWrite (.core n a .m) c k (.whole x)) s = .next (s.writeMbox c k r.fields x (BitVec.allOnes 64)) := by
  have hk := k.isLt
  have hoff : R.CORE_MBOX c k = 0x200000 + c.val * 0x10000 + (0xE0 + 8 * k.val) := by unfold R.CORE_MBOX; omega
  have hexec : exec (.mboxWrite (.core n a .m) c k (.whole x)) s = .next (s.put (.core n a .m) (R.CORE_MBOX c k) 8 x.toNat) := rfl
  obtain ⟨r, hr, hw, hshape⟩ := regAt_mbox c.isLt k
  have hmod : R.CORE_MBOX c k % 0x10000 = 0xE0 + 8 * k.val := by omega
  have hidx : (0xE0 + 8 * k.val - 0xE0) / 8 = k.val := by omega
  refine ⟨r, hshape, ?_⟩
  rw [hexec, State.put_coreLong h hc (by omega) hoff rfl hr hw, State.writeCore]
  dsimp only
  rw [if_neg (by unfold R.CORE_MBOX R.CORE_WMCFG; omega), if_neg (by unfold R.CORE_MBOX R.CORE_DRIFT; omega),
    if_neg (by unfold R.CORE_MBOX R.CORE_PAIRSTAT; omega), hmod, if_pos (by omega), hidx, Wrote.settle_taken]

end

/-! ### Hand writes (R486, R487) -/

/-- The entry of a hand write. -/
def handEntry (n k v old st : Nat) (ok : Bool) : BitVec 64 :=
  BitVec.ofNat 64 (v + 2 ^ 32 * (old % 2 ^ 16) + 2 ^ 48 * k + 2 ^ 56 * n + 2 ^ 60 * (st % 8) + (if ok then 2 ^ 63 else 0))

/-- The debug port may set an object by hand. -/
def State.handOk (s : State) (n k : Nat) : Bool := s.dbgAllowed 6 && (!s.flag (R.CORE_SOBJCFG_PRIV n k) || !s.serving)

/-- A hand write recorded. -/
def State.handLogged (s : State) (n k v : Nat) : State :=
  (s.setReg (R.BELL_HANDLOG (s.fld R.BELL_HANDCNT_COUNT % 32)) (handEntry n k v (s.fld (R.CORE_SOBJ_VALUE n k)) s.st (s.handOk n k))).satInc R.BELL_HANDCNT_COUNT

theorem State.handWrite_eq (s : State) (n k v : Nat) : s.handWrite n k v =
    if s.handOk n k then (((s.handLogged n k v).setFld (R.CORE_SOBJ_VALUE n k) v).fireWatches n k, false) else (s.handLogged n k v, true) := rfl

theorem handEntry_get {n k v old st : Nat} (ok : Bool) (hn : n < 16) (hk : k < 256) (hv : v < 2 ^ 32) (q : Nat) :
    (R.BELL_HANDLOG_NEW q).get (handEntry n k v old st ok) = v ∧ (R.BELL_HANDLOG_OLD q).get (handEntry n k v old st ok) = old % 2 ^ 16 ∧
    (R.BELL_HANDLOG_OBJ q).get (handEntry n k v old st ok) = k ∧ (R.BELL_HANDLOG_CORE q).get (handEntry n k v old st ok) = n ∧
    (R.BELL_HANDLOG_STATE q).get (handEntry n k v old st ok) = st % 8 ∧ ((R.BELL_HANDLOG_ACCEPTED q).get (handEntry n k v old st ok) == 1) = ok := by
  have hget (lo w x : Nat) (off : Nat) : (⟨off, lo, w⟩ : Fld).get (BitVec.ofNat 64 x) = x % 2 ^ 64 / 2 ^ lo % 2 ^ w := by
    rw [Fld.get, BitVec.toNat_ofNat]
  have hold : old % 2 ^ 16 < 2 ^ 16 := Nat.mod_lt _ (by decide)
  have hst : st % 8 < 8 := Nat.mod_lt _ (by decide)
  unfold handEntry R.BELL_HANDLOG_NEW R.BELL_HANDLOG_OLD R.BELL_HANDLOG_OBJ R.BELL_HANDLOG_CORE R.BELL_HANDLOG_STATE R.BELL_HANDLOG_ACCEPTED
  generalize old % 2 ^ 16 = a at hold ⊢
  generalize st % 8 = b at hst ⊢
  simp only [hget]
  obtain ⟨e, he, htop⟩ : ∃ e, (if ok = true then 2 ^ 63 else 0) = 2 ^ 63 * e ∧ e = if ok = true then 1 else 0 := by
    refine ⟨_, ?_, rfl⟩
    cases ok <;> rfl
  have he1 : e ≤ 1 := by rw [htop]; split_ifs <;> decide
  have hok : (e == 1) = ok := by rw [htop]; cases ok <;> rfl
  rw [he]
  have hlow : (v + 2 ^ 32 * a + 2 ^ 48 * k + 2 ^ 56 * n + 2 ^ 60 * b + 2 ^ 63 * e) % 2 ^ 64 =
      v + 2 ^ 32 * a + 2 ^ 48 * k + 2 ^ 56 * n + 2 ^ 60 * b + 2 ^ 63 * e := Nat.mod_eq_of_lt (by omega)
  rw [hlow, ← hok]
  refine ⟨by omega, by omega, by omega, by omega, by omega, congrArg (· == 1) (by omega)⟩

/-- What a recorded hand write leaves. -/
theorem State.handLogged_shows (s : State) {n k : Nat} (v : Nat) :
    (s.handLogged n k v).reg (R.BELL_HANDLOG (s.fld R.BELL_HANDCNT_COUNT % 32)) = handEntry n k v (s.fld (R.CORE_SOBJ_VALUE n k)) s.st (s.handOk n k) ∧
    (s.handLogged n k v).fld R.BELL_HANDCNT_COUNT = min (s.fld R.BELL_HANDCNT_COUNT + 1) (2 ^ 32 - 1) ∧
    State.Keeps {o | o = R.BELL_HANDCNT ∨ o = R.BELL_HANDLOG (s.fld R.BELL_HANDCNT_COUNT % 32)} s (s.handLogged n k v) := by
  have hq : s.fld R.BELL_HANDCNT_COUNT % 32 < 32 := Nat.mod_lt _ (by decide)
  generalize hlog : s.fld R.BELL_HANDCNT_COUNT % 32 = q at hq
  have hne : R.BELL_HANDLOG q ≠ R.BELL_HANDCNT := by unfold R.BELL_HANDLOG R.BELL_HANDCNT; omega
  unfold State.handLogged
  rw [hlog]
  generalize handEntry n k v (s.fld (R.CORE_SOBJ_VALUE n k)) s.st (s.handOk n k) = e
  refine ⟨?_, ?_, (State.Keeps.setReg s _ (.inr rfl)).trans (State.Keeps.satInc _ (f := R.BELL_HANDCNT_COUNT) (.inl rfl))⟩
  · exact (State.reg_setFld_off _ _ _ hne).trans ((State.reg_setReg ..).trans (if_pos rfl))
  · have hcnt : (s.setReg (R.BELL_HANDLOG q) e).fld R.BELL_HANDCNT_COUNT = s.fld R.BELL_HANDCNT_COUNT :=
      (State.fld_setReg ..).trans (if_neg hne.symm)
    rw [State.fld_satInc _ _ (by decide), hcnt]
    rfl

theorem State.fireWatches_keeps (s : State) (n k : Nat) : (∀ o, (s.fireWatches n k).reg o = s.reg o) ∧ (s.fireWatches n k).mem = s.mem := ⟨fun _ => rfl, rfl⟩

/-- The parts of the state that no register access of a core's page changes. -/
def State.Kept (s t : State) (but : Nat → Prop) : Prop := (∀ o, ¬ but o → t.reg o = s.reg o) ∧ t.mem = s.mem ∧ t.st = s.st

theorem State.handOk_iff (s : State) (n k : Nat) : s.handOk n k = true ↔
    s.dbgAllowed 6 = true ∧ (s.flag (R.CORE_SOBJCFG_PRIV n k) = false ∨ s.serving = false) := by
  unfold State.handOk
  rw [Bool.and_eq_true, Bool.or_eq_true, Bool.not_eq_true', Bool.not_eq_true']

section
variable {s : State} (h : s.st ≠ stTRIPPED) {c : CoreId} (hc : s.hasCore c = true)
include h hc

theorem exec_sobjHandWrite_shows (k : Fin 256) (v : BitVec 32) :
    let ok := s.dbgAllowed 6 = true ∧ (s.flag (R.CORE_SOBJCFG_PRIV c k) = false ∨ s.serving = false)
    let old := s.fld (R.CORE_SOBJ_VALUE c k)
    let q := s.fld R.BELL_HANDCNT_COUNT % 32
    ∃ t, exec (.sobjHandWrite c k v) s = .next t ∧
      t.fld R.BELL_HANDCNT_COUNT = min (s.fld R.BELL_HANDCNT_COUNT + 1) (2 ^ 32 - 1) ∧
      t.fld (R.BELL_HANDLOG_NEW q) = v.toNat ∧ t.fld (R.BELL_HANDLOG_OLD q) = old % 2 ^ 16 ∧
      t.fld (R.BELL_HANDLOG_OBJ q) = k ∧ t.fld (R.BELL_HANDLOG_CORE q) = c ∧ t.fld (R.BELL_HANDLOG_STATE q) = s.st % 8 ∧
      (ok → t.fld (R.CORE_SOBJ_VALUE c k) = v.toNat ∧ t.flag (R.BELL_HANDLOG_ACCEPTED q) = true ∧
        t.reg R.DEVICE_ACCERR = s.reg R.DEVICE_ACCERR) ∧
      (¬ ok → t.fld (R.CORE_SOBJ_VALUE c k) = old ∧ t.flag (R.BELL_HANDLOG_ACCEPTED q) = false ∧
        t.flag R.DEVICE_ACCERR_LOCKED_WRITE = true) ∧
      s.Kept t (fun o => o = R.BELL_HANDCNT ∨ o = R.BELL_HANDLOG q ∨ o = R.CORE_SOBJ c k ∨ o = R.DEVICE_ACCERR) := by
  intro ok old q
  have hexec := exec_sobjHandWrite h hc k v
  rw [State.handWrite_eq] at hexec
  obtain ⟨hlog, hcnt, hkeep⟩ := s.handLogged_shows (n := c) (k := k) v.toNat
  obtain ⟨hnew, hold, hobj, hcore, hst, hacc⟩ := handEntry_get (s.handOk c k) (old := old) (st := s.st) c.isLt k.isLt v.isLt q
  have hq : q < 32 := Nat.mod_lt _ (by decide)
  have hbell : R.BELL_HANDLOG q ≠ R.CORE_SOBJ c k ∧ R.BELL_HANDLOG q ≠ R.DEVICE_ACCERR ∧ R.BELL_HANDCNT ≠ R.CORE_SOBJ c k ∧
      R.DEVICE_ACCERR ≠ R.CORE_SOBJ c k ∧ R.DEVICE_STATE ≠ R.CORE_SOBJ c k ∧ R.DEVICE_STATE ≠ R.BELL_HANDLOG q ∧ R.CORE_SOBJ c k ≠ R.BELL_HANDCNT ∧
      R.CORE_SOBJ c k ≠ R.BELL_HANDLOG q ∧ R.DEVICE_ACCERR ≠ R.BELL_HANDLOG q := by
    unfold R.BELL_HANDLOG R.CORE_SOBJ R.DEVICE_ACCERR R.BELL_HANDCNT R.DEVICE_STATE
    omega
  obtain ⟨hls, hla, hcs, has, hss, hsl, hsc, hsq, haq⟩ := hbell
  generalize s.handLogged c k v.toNat = w at hexec hlog hcnt hkeep
  -- what both outcomes share
  have hshared (t : State) (hr : ∀ o, o ≠ R.CORE_SOBJ c k → o ≠ R.DEVICE_ACCERR → t.reg o = w.reg o) (hm : t.mem = w.mem) :
      (∀ g : Fld, g.off = R.BELL_HANDLOG q → t.fld g = g.get (handEntry c k v.toNat old s.st (s.handOk c k))) ∧
      t.fld R.BELL_HANDCNT_COUNT = min (s.fld R.BELL_HANDCNT_COUNT + 1) (2 ^ 32 - 1) ∧
      s.Kept t (fun o => o = R.BELL_HANDCNT ∨ o = R.BELL_HANDLOG q ∨ o = R.CORE_SOBJ c k ∨ o = R.DEVICE_ACCERR) := by
    have hreg (o : Nat) (ho : ¬ (o = R.BELL_HANDCNT ∨ o = R.BELL_HANDLOG q ∨ o = R.CORE_SOBJ c k ∨ o = R.DEVICE_ACCERR)) : t.reg o = s.reg o := by
      rw [hr o (fun h1 => ho (.inr (.inr (.inl h1)))) (fun h1 => ho (.inr (.inr (.inr h1))))]
      exact hkeep.reg o fun h1 => ho (h1.elim .inl fun h2 => .inr (.inl h2))
    refine ⟨fun g hg => ?_, ?_, hreg, hm.trans hkeep.mem, ?_⟩
    · rw [State.fld, hg, hr _ hls hla, hlog]
    · rw [← hcnt]
      exact congrArg R.BELL_HANDCNT_COUNT.get (hr _ hcs (by decide))
    · refine congrArg R.DEVICE_STATE_STATE.get (hreg R.DEVICE_STATE fun h1 => ?_)
      rcases h1 with h1 | h1 | h1 | h1
      · exact absurd h1 (by decide)
      · exact hsl h1
      · exact hss h1
      · exact absurd h1 (by decide)
  by_cases hyes : s.handOk c k = true
  · rw [if_pos hyes, Wrote.settle_taken] at hexec
    rw [hyes] at hnew hold hobj hcore hst hacc
    have hok : ok := (s.handOk_iff c k).1 hyes
    have hset (o : Nat) : ((w.setFld (R.CORE_SOBJ_VALUE c k) v.toNat).fireWatches c k).reg o = (w.setFld (R.CORE_SOBJ_VALUE c k) v.toNat).reg o :=
      (State.fireWatches_keeps ..).1 o
    obtain ⟨hfields, hcount, hkept⟩ := hshared _ (fun o ho _ => (hset o).trans (State.reg_setFld_off w _ _ ho)) (State.fireWatches_keeps ..).2
    rw [hyes] at hfields
    refine ⟨_, hexec, hcount, (hfields _ rfl).trans hnew, (hfields _ rfl).trans hold, (hfields _ rfl).trans hobj, (hfields _ rfl).trans hcore,
      (hfields _ rfl).trans hst, fun _ => ⟨?_, ?_, ?_⟩, fun hno => absurd hok hno, hkept⟩
    · rw [State.fld, hset, ← State.fld, State.fld_setFld_here _ _ _ rfl]
      exact Nat.mod_eq_of_lt v.isLt
    · rw [State.flag, hfields _ rfl]
      exact hacc
    · rw [hset, State.reg_setFld_off w (R.CORE_SOBJ_VALUE c k) _ has]
      exact hkeep.reg _ fun h1 => h1.elim (by decide) haq
  · have hno : s.handOk c k = false := Bool.eq_false_iff.2 hyes
    rw [if_neg hyes, Wrote.settle_discarded] at hexec
    rw [hno] at hnew hold hobj hcore hst hacc
    obtain ⟨hrest, hlocked⟩ := w.discard_recorded .dbg (R.CORE_SOBJ c k)
    obtain ⟨hfields, hcount, hkept⟩ := hshared _ (fun o _ ho => hrest.reg o ho) hrest.mem
    rw [hno] at hfields
    refine ⟨_, hexec, hcount, (hfields _ rfl).trans hnew, (hfields _ rfl).trans hold, (hfields _ rfl).trans hobj, (hfields _ rfl).trans hcore,
      (hfields _ rfl).trans hst, fun hok => absurd ((s.handOk_iff c k).2 hok) hyes, fun _ => ⟨?_, ?_, hlocked⟩, hkept⟩
    · rw [hrest.fld (g := R.CORE_SOBJ_VALUE c k) has.symm]
      exact hkeep.fld (g := R.CORE_SOBJ_VALUE c k) fun h1 => h1.elim hsc hsq
    · rw [State.flag, hfields _ rfl]
      exact hacc

end

/-! ### Configuration of objects, map entries and mailboxes (R452–R454, R474) -/

/-- A read-write field of a register written whole. -/
theorem get_wordAfter_rw {fs : List FieldRow} {l : List (Nat × Nat × Access)} (hs : fs.map FieldRow.shape = l) (ha : FieldsApart l) (g : Fld)
    (hm : l.contains (g.lo, g.w, Access.rw) = true) (h64 : Nat.ble (g.lo + g.w) 64 = true) (old x : Word) :
    g.get (wordAfter fs false old x (BitVec.allOnes 64)) = g.get x :=
  get_wordAfter hs ha (acc := .rw) (List.contains_iff_mem.1 hm) (fun _ hy => allOnes_reach (Nat.le_of_ble_eq_true h64) hy) (Nat.le_of_ble_eq_true h64) false old x

/-- The fields of an object's configuration after a write of it whole. -/
theorem sobjcfg_fields {r : RegRow} (hr : r.fields.map FieldRow.shape =
      [(32, 32, .rw), (16, 16, .rw), (11, 5, .rw), (10, 1, .rw), (9, 1, .rw), (8, 1, .rw), (6, 2, .rw), (0, 1, .ro)]) (n k : Nat) (old x : Word) :
    let w := wordAfter r.fields false old x (BitVec.allOnes 64)
    (R.CORE_SOBJCFG_LIMIT n k).get w = x.toNat / 2 ^ 32 ∧ (R.CORE_SOBJCFG_BASE n k).get w = x.toNat / 2 ^ 16 % 2 ^ 16 ∧
    (R.CORE_SOBJCFG_SRC n k).get w = x.toNat / 2 ^ 11 % 32 ∧ ((R.CORE_SOBJCFG_EXT n k).get w == 1) = x.getLsbD 10 ∧
    ((R.CORE_SOBJCFG_ALIGN n k).get w == 1) = x.getLsbD 9 ∧ ((R.CORE_SOBJCFG_PRIV n k).get w == 1) = x.getLsbD 8 ∧
    (R.CORE_SOBJCFG_OWNER n k).get w = x.toNat / 64 % 4 := by
  intro w
  have hget := get_wordAfter_rw hr (by decide)
  have hbit (i : Nat) (off : Nat) : ((⟨off, i, 1⟩ : Fld).get x == 1) = x.getLsbD i := bit_eq_testBit x.toNat i
  refine ⟨?_, hget (R.CORE_SOBJCFG_BASE n k) rfl rfl old x, hget (R.CORE_SOBJCFG_SRC n k) rfl rfl old x, ?_, ?_, ?_,
    hget (R.CORE_SOBJCFG_OWNER n k) rfl rfl old x⟩
  · rw [hget (R.CORE_SOBJCFG_LIMIT n k) rfl rfl old x]
    exact Nat.mod_eq_of_lt (by show x.toNat / 2 ^ 32 < 2 ^ 32; omega)
  · rw [hget (R.CORE_SOBJCFG_EXT n k) rfl rfl old x]
    exact hbit 10 _
  · rw [hget (R.CORE_SOBJCFG_ALIGN n k) rfl rfl old x]
    exact hbit 9 _
  · rw [hget (R.CORE_SOBJCFG_PRIV n k) rfl rfl old x]
    exact hbit 8 _

theorem srcOk_iff (x : Nat) : srcOk x = true ↔ x ≤ 0x0C ∨ (0x10 ≤ x ∧ x ≤ 0x13) := by
  unfold srcOk
  simp only [Bool.or_eq_true, Bool.and_eq_true, decide_eq_true_eq]

/-- A configuration taken: the object's value becomes its BASE. -/
theorem State.writeSobjCfg_good {s : State} {n k : Nat} (hm : s.mapped n k = false) {fs : List FieldRow} {x bits : BitVec 64}
    (hgood : srcOk ((R.CORE_SOBJCFG_SRC n k).get (wordAfter fs false (s.reg (R.CORE_SOBJCFG n k)) x bits)) = true)
    (hpriv : ((R.CORE_SOBJCFG_PRIV n k).get (wordAfter fs false (s.reg (R.CORE_SOBJCFG n k)) x bits) == 1) = true →
      ((R.CORE_SOBJCFG_ALIGN n k).get (wordAfter fs false (s.reg (R.CORE_SOBJCFG n k)) x bits) == 1) = true) :
    s.writeSobjCfg n k fs x bits = (((s.setReg (R.CORE_SOBJCFG n k) (wordAfter fs false (s.reg (R.CORE_SOBJCFG n k)) x bits)).setFld (R.CORE_SOBJ_VALUE n k)
      ((s.setReg (R.CORE_SOBJCFG n k) (wordAfter fs false (s.reg (R.CORE_SOBJCFG n k)) x bits)).fld (R.CORE_SOBJCFG_BASE n k))).fireWatches n k, false) := by
  have hno : ¬ ((!srcOk ((R.CORE_SOBJCFG_SRC n k).get (wordAfter fs false (s.reg (R.CORE_SOBJCFG n k)) x bits)) ||
      ((R.CORE_SOBJCFG_PRIV n k).get (wordAfter fs false (s.reg (R.CORE_SOBJCFG n k)) x bits) == 1 &&
        (R.CORE_SOBJCFG_ALIGN n k).get (wordAfter fs false (s.reg (R.CORE_SOBJCFG n k)) x bits) == 0)) = true) := by
    rw [hgood]
    intro hbad
    rw [Bool.not_true, Bool.false_or, Bool.and_eq_true] at hbad
    have hone := hpriv hbad.1
    rw [beq_iff_eq] at hone
    rw [hone] at hbad
    exact absurd hbad.2 (by decide)
  unfold State.writeSobjCfg
  rw [if_neg (by rw [hm]; decide)]
  exact if_neg hno

theorem State.writeSobjCfg_bad {s : State} {n k : Nat} (hm : s.mapped n k = false) {fs : List FieldRow} {x bits : BitVec 64}
    (hbad : (!srcOk ((R.CORE_SOBJCFG_SRC n k).get (wordAfter fs false (s.reg (R.CORE_SOBJCFG n k)) x bits)) ||
      ((R.CORE_SOBJCFG_PRIV n k).get (wordAfter fs false (s.reg (R.CORE_SOBJCFG n k)) x bits) == 1 &&
        (R.CORE_SOBJCFG_ALIGN n k).get (wordAfter fs false (s.reg (R.CORE_SOBJCFG n k)) x bits) == 0)) = true) :
    s.writeSobjCfg n k fs x bits = (s, false) := by
  unfold State.writeSobjCfg
  rw [if_neg (by rw [hm]; decide)]
  exact if_pos hbad

section
variable {s : State} (h : s.st ≠ stTRIPPED) {c : CoreId} (hc : s.hasCore c = true) (n a : Nat)
include h hc

theorem exec_sobjcfgWrite_mapped {k : Fin 256} (hm : s.mapped c k = true) (w : Word) :
    ∃ t, exec (.sobjcfgWrite (.core n a .m) c k (.whole w)) s = .next t ∧ s.Recorded t (.core n a .m) := by
  obtain ⟨r, -, hexec⟩ := exec_sobjcfgWrite_core h hc n a k w
  rw [State.writeSobjCfg, if_pos hm, Wrote.settle_discarded] at hexec
  exact ⟨_, hexec, s.discard_records _ _⟩

/-- What a configuration must hold to be taken. -/
def sobjGood (w : Word) : Prop :=
  (w.toNat / 2 ^ 11 % 32 ≤ 0x0C ∨ (0x10 ≤ w.toNat / 2 ^ 11 % 32 ∧ w.toNat / 2 ^ 11 % 32 ≤ 0x13)) ∧ (w.getLsbD 8 = true → w.getLsbD 9 = true)

theorem exec_sobjcfgWrite_bad {k : Fin 256} (hm : s.mapped c k = false) {w : Word} (hbad : ¬ sobjGood w) :
    exec (.sobjcfgWrite (.core n a .m) c k (.whole w)) s = .next s := by
  obtain ⟨r, hr, hexec⟩ := exec_sobjcfgWrite_core h hc n a k w
  obtain ⟨-, -, hsrc, -, halign, hpriv, -⟩ := sobjcfg_fields hr c k (s.reg (R.CORE_SOBJCFG c k)) w
  rw [State.writeSobjCfg_bad hm, Wrote.settle_taken] at hexec
  · exact hexec
  · rw [hsrc, hpriv]
    by_contra hno
    rw [Bool.not_eq_true, Bool.or_eq_false_iff, Bool.not_eq_false', srcOk_iff] at hno
    obtain ⟨hs, hp⟩ := hno
    refine hbad ⟨hs, fun h8 => ?_⟩
    rw [h8, Bool.true_and] at hp
    rw [← halign]
    have hlt : (R.CORE_SOBJCFG_ALIGN c k).get (wordAfter r.fields false (s.reg (R.CORE_SOBJCFG c k)) w (BitVec.allOnes 64)) < 2 := Nat.mod_lt _ (Nat.two_pow_pos 1)
    generalize (R.CORE_SOBJCFG_ALIGN c k).get (wordAfter r.fields false (s.reg (R.CORE_SOBJCFG c k)) w (BitVec.allOnes 64)) = y at hp hlt
    interval_cases y
    · cases hp
    · rfl

theorem exec_sobjcfgWrite_good {k : Fin 256} (hm : s.mapped c k = false) {w : Word} (hgood : sobjGood w) :
    let x := w.toNat
    ∃ t, exec (.sobjcfgWrite (.core n a .m) c k (.whole w)) s = .next t ∧
      t.fld (R.CORE_SOBJCFG_LIMIT c k) = x / 2 ^ 32 ∧ t.fld (R.CORE_SOBJCFG_BASE c k) = x / 2 ^ 16 % 2 ^ 16 ∧
      t.fld (R.CORE_SOBJCFG_SRC c k) = x / 2 ^ 11 % 32 ∧ t.flag (R.CORE_SOBJCFG_EXT c k) = w.getLsbD 10 ∧
      t.flag (R.CORE_SOBJCFG_ALIGN c k) = w.getLsbD 9 ∧ t.flag (R.CORE_SOBJCFG_PRIV c k) = w.getLsbD 8 ∧
      t.fld (R.CORE_SOBJCFG_OWNER c k) = x / 64 % 4 ∧ t.fld (R.CORE_SOBJ_VALUE c k) = x / 2 ^ 16 % 2 ^ 16 ∧
      s.Kept t (fun o => o = R.CORE_SOBJCFG c k ∨ o = R.CORE_SOBJ c k) := by
  intro x
  obtain ⟨r, hr, hexec⟩ := exec_sobjcfgWrite_core h hc n a k w
  obtain ⟨hlimit, hbase, hsrc, hext, halign, hpriv, howner⟩ := sobjcfg_fields hr c k (s.reg (R.CORE_SOBJCFG c k)) w
  have hne : R.CORE_SOBJCFG c k ≠ R.CORE_SOBJ c k := by
    have hk := k.isLt
    unfold R.CORE_SOBJCFG R.CORE_SOBJ
    omega
  have hstate : ¬ (R.DEVICE_STATE = R.CORE_SOBJCFG c k ∨ R.DEVICE_STATE = R.CORE_SOBJ c k) := by
    unfold R.CORE_SOBJCFG R.CORE_SOBJ R.DEVICE_STATE
    omega
  rw [State.writeSobjCfg_good hm (by rw [hsrc]; exact (srcOk_iff _).2 hgood.1) (by rw [hpriv, halign]; exact hgood.2), Wrote.settle_taken] at hexec
  generalize wordAfter r.fields false (s.reg (R.CORE_SOBJCFG c k)) w (BitVec.allOnes 64) = y at *
  obtain ⟨u, hu⟩ : ∃ t, t = s.setReg (R.CORE_SOBJCFG c k) y := ⟨_, rfl⟩
  rw [← hu] at hexec
  have hown (g : Fld) (hg : g.off = R.CORE_SOBJCFG c k) : u.fld g = g.get y := by
    rw [hu, State.fld_setReg, if_pos hg]
  have hreg (o : Nat) : ((u.setFld (R.CORE_SOBJ_VALUE c k) (u.fld (R.CORE_SOBJCFG_BASE c k))).fireWatches c k).reg o =
      (u.setFld (R.CORE_SOBJ_VALUE c k) (u.fld (R.CORE_SOBJCFG_BASE c k))).reg o := (State.fireWatches_keeps ..).1 o
  have hcfg (g : Fld) (hg : g.off = R.CORE_SOBJCFG c k) :
      ((u.setFld (R.CORE_SOBJ_VALUE c k) (u.fld (R.CORE_SOBJCFG_BASE c k))).fireWatches c k).fld g = g.get y := by
    rw [State.fld, hreg, ← State.fld, State.fld_setFld_off u (R.CORE_SOBJ_VALUE c k) g _ (by rw [hg]; exact hne), hown g hg]
  have hout (o : Nat) (ho : ¬ (o = R.CORE_SOBJCFG c k ∨ o = R.CORE_SOBJ c k)) :
      ((u.setFld (R.CORE_SOBJ_VALUE c k) (u.fld (R.CORE_SOBJCFG_BASE c k))).fireWatches c k).reg o = s.reg o := by
    rw [hreg, State.reg_setFld_off u (R.CORE_SOBJ_VALUE c k) _ fun h1 => ho (.inr h1), hu]
    exact (State.reg_setReg ..).trans (if_neg fun h1 => ho (.inl h1))
  refine ⟨_, hexec, (hcfg _ rfl).trans hlimit, (hcfg _ rfl).trans hbase, (hcfg _ rfl).trans hsrc, (congrArg (· == 1) (hcfg _ rfl)).trans hext,
    (congrArg (· == 1) (hcfg _ rfl)).trans halign, (congrArg (· == 1) (hcfg _ rfl)).trans hpriv, (hcfg _ rfl).trans howner, ?_, hout, ?_, ?_⟩
  · rw [State.fld, hreg, ← State.fld, State.fld_setFld_here _ _ _ rfl, hown _ rfl, hbase]
    exact Nat.mod_eq_of_lt (by show _ < 2 ^ 32; omega)
  · rw [(State.fireWatches_keeps ..).2, State.setFld_mem, hu]
    rfl
  · exact congrArg R.DEVICE_STATE_STATE.get (hout R.DEVICE_STATE hstate)

end

section
variable {s : State} (h : s.st ≠ stTRIPPED) {c : CoreId} (hc : s.hasCore c = true) (n a : Nat)
include h hc

/-- A map entry that would point to an object of another context. -/
theorem exec_vmapWrite_other (x : Fin 4) (i : Fin 1024) {v : BitVec 32} (hbad : v.getLsbD 31 = true ∧ s.fld (R.CORE_SOBJCFG_OWNER c (v.toNat % 256)) ≠ x) :
    ∃ t, exec (.vmapWrite (.core n a .m) c x i v) s = .next t ∧ t.flag R.BELL_XLOG_VALID = true ∧ s.Kept t (· = R.BELL_XLOG) ∧
      (s.flag R.BELL_XLOG_VALID = false → t.fld R.BELL_XLOG_DSTCORE = c ∧ t.fld R.BELL_XLOG_DSTCTX = s.fld (R.CORE_SOBJCFG_OWNER c (v.toNat % 256)) ∧
        t.fld R.BELL_XLOG_TARGET = v.toNat % 256 ∧ t.fld R.BELL_XLOG_KIND = 1 ∧ t.fld R.BELL_XLOG_COUNT = 1 ∧ t.fld R.BELL_XLOG_SRCCORE = n % 16) := by
  obtain ⟨h31, hown⟩ := hbad
  have hexec := exec_vmapWrite_core h hc n a x i v
  have hwrite : s.writeVmap (.core n a .m) c x i v.toNat =
      s.xlog false (s.fld R.NIM_CFG_SELF) n (s.core n).ctx c (s.fld (R.CORE_SOBJCFG_OWNER c (v.toNat % 256))) 1 (v.toNat % 256) := by
    refine if_pos ?_
    rw [Bool.and_eq_true, bit_eq_testBit, bne_iff_ne]
    exact ⟨h31, hown⟩
  rw [hwrite] at hexec
  have hreg := s.xlog_regFab false (s.fld R.NIM_CFG_SELF) n (s.core n).ctx c (s.fld (R.CORE_SOBJCFG_OWNER c (v.toNat % 256))) 1 (v.toNat % 256)
  refine ⟨_, hexec, State.xlog_valid .., ⟨fun o ho => hreg.reg o ho, hreg.mem, hreg.fld (g := R.DEVICE_STATE_STATE) (by decide)⟩, fun hfirst => ?_⟩
  obtain ⟨-, hcount, -, hsrc, hdst, hctx, hkind, htarget⟩ := State.xlog_first hfirst false (s.fld R.NIM_CFG_SELF) n (s.core n).ctx c
    (s.fld (R.CORE_SOBJCFG_OWNER c (v.toNat % 256))) 1 (v.toNat % 256)
  have hlt : s.fld (R.CORE_SOBJCFG_OWNER c (v.toNat % 256)) < 4 := State.fld_lt s (R.CORE_SOBJCFG_OWNER c (v.toNat % 256))
  exact ⟨hdst.trans (Nat.mod_eq_of_lt c.isLt), hctx.trans (Nat.mod_eq_of_lt hlt), htarget.trans (Nat.mod_eq_of_lt (by omega)), hkind, hcount, hsrc⟩

theorem exec_vmapWrite_own (x : Fin 4) (i : Fin 1024) {v : BitVec 32} (hgood : v.getLsbD 31 = false ∨ s.fld (R.CORE_SOBJCFG_OWNER c (v.toNat % 256)) = x) :
    ∃ t, exec (.vmapWrite (.core n a .m) c x i v) s = .next t ∧ t.flag (R.CORE_VMAP_VALID c x i) = v.getLsbD 31 ∧
      t.fld (R.CORE_VMAP_PHYS c x i) = v.toNat % 256 ∧ s.Kept t (· = R.CORE_VMAP c x i) ∧ t.cores = s.cores := by
  have hexec := exec_vmapWrite_core h hc n a x i v
  have hwrite : s.writeVmap (.core n a .m) c x i v.toNat =
      (s.setFld (R.CORE_VMAP_VALID c x i) (v.toNat / 2 ^ 31)).setFld (R.CORE_VMAP_PHYS c x i) v.toNat := by
    refine if_neg ?_
    rw [Bool.and_eq_true, bit_eq_testBit, bne_iff_ne]
    rintro ⟨h31, hne⟩
    rcases hgood with hg | hg
    · rw [show v.toNat.testBit 31 = false from hg] at h31
      cases h31
    · exact hne hg
  rw [hwrite] at hexec
  have hkeep : State.Keeps {R.CORE_VMAP c x i} s ((s.setFld (R.CORE_VMAP_VALID c x i) (v.toNat / 2 ^ 31)).setFld (R.CORE_VMAP_PHYS c x i) v.toNat) :=
    (State.Keeps.setFld s (f := R.CORE_VMAP_VALID c x i) _ (Set.mem_singleton _)).trans
      (State.Keeps.setFld _ (f := R.CORE_VMAP_PHYS c x i) _ (Set.mem_singleton _))
  have hstate : R.DEVICE_STATE ∉ ({R.CORE_VMAP c x i} : Set Nat) := fun hm => by
    have hm' : R.DEVICE_STATE = R.CORE_VMAP c x i := hm
    unfold R.DEVICE_STATE R.CORE_VMAP at hm'
    omega
  refine ⟨_, hexec, ?_, ?_, ⟨fun o ho => hkeep.reg o ho, hkeep.mem, hkeep.fld (g := R.DEVICE_STATE_STATE) hstate⟩, hkeep.cores⟩
  · rw [State.flag, State.fld_setFld_apart _ _ _ _ rfl rfl, State.fld_setFld_here _ _ _ rfl]
    exact bit_eq_testBit v.toNat 31
  · exact State.fld_setFld_here _ _ _ rfl

theorem exec_mboxWrite_held {k : Fin 8} (w : Word) (hheld : s.fld (R.CORE_SOBJ_VALUE c (s.fld (R.CORE_MBOX_OBJ c k))) ≠ 0) :
    exec (.mboxWrite (.core n a .m) c k (.whole w)) s = .next s := by
  obtain ⟨r, -, hexec⟩ := exec_mboxWrite_core h hc n a k w
  rw [State.writeMbox, if_pos hheld] at hexec
  exact hexec

theorem exec_mboxWrite_empty {k : Fin 8} (w : Word) (hheld : s.fld (R.CORE_SOBJ_VALUE c (s.fld (R.CORE_MBOX_OBJ c k))) = 0) :
    let x := w.toNat
    ∃ t, exec (.mboxWrite (.core n a .m) c k (.whole w)) s = .next t ∧ t.flag (R.CORE_MBOX_VALID c k) = w.getLsbD 63 ∧
      t.fld (R.CORE_MBOX_OWNER c k) = x / 2 ^ 61 % 4 ∧ t.flag (R.CORE_MBOX_RXREMOTE c k) = w.getLsbD 60 ∧
      t.fld (R.CORE_MBOX_OBJ c k) = x / 2 ^ 48 % 256 ∧ t.fld (R.CORE_MBOX_DEPTHLOG c k) = x / 2 ^ 32 % 16 ∧
      t.fld (R.CORE_MBOX_BASE c k) = x % 2 ^ 21 ∧ t.fld (R.CORE_MBOX_WIDX c k) = 0 ∧
      SMap.get (fun _ => 0) (t.core c).mboxSeq k = 0 ∧ s.Kept t (· = R.CORE_MBOX c k) ∧ ∀ q, q ≠ c.val → t.core q = s.core q := by
  intro x
  obtain ⟨r, hr, hexec⟩ := exec_mboxWrite_core h hc n a k w
  rw [State.writeMbox, if_neg (not_not.2 hheld)] at hexec
  have hget (g : Fld) (hm : ([(63, 1, .rw), (61, 2, .rw), (60, 1, .rw), (48, 8, .rw), (36, 10, .ro), (32, 4, .rw), (0, 21, .rw)] :
      List (Nat × Nat × Access)).contains (g.lo, g.w, .rw) = true) (h64 : Nat.ble (g.lo + g.w) 64 = true) :=
    get_wordAfter_rw hr (by decide) g hm h64 (s.reg (R.CORE_MBOX c k)) w
  have hbit (i : Nat) (off : Nat) : ((⟨off, i, 1⟩ : Fld).get w == 1) = w.getLsbD i := bit_eq_testBit w.toNat i
  generalize wordAfter r.fields false (s.reg (R.CORE_MBOX c k)) w (BitVec.allOnes 64) = y at *
  dsimp only at hexec
  obtain ⟨u, hu⟩ : ∃ t, t = (s.setReg (R.CORE_MBOX c k) y).setFld (R.CORE_MBOX_WIDX c k) 0 := ⟨_, rfl⟩
  rw [← hu] at hexec
  have hreg (o : Nat) : (u.modCore c (fun q => { q with mboxSeq := SMap.set (fun _ => 0) q.mboxSeq k 0 })).reg o = u.reg o := rfl
  have hother (g : Fld) (hg : g.off = R.CORE_MBOX c k) (hap : (Nat.ble 46 g.lo || Nat.ble (g.lo + g.w) 36) = true) :
      (u.modCore c (fun q => { q with mboxSeq := SMap.set (fun _ => 0) q.mboxSeq k 0 })).fld g = g.get y := by
    rw [State.fld, hreg, ← State.fld, hu, State.fld_setFld_apart _ (R.CORE_MBOX_WIDX c k) g _ rfl hap, State.fld_setReg, if_pos hg]
  have hkeep : State.Keeps {R.CORE_MBOX c k} s u := by
    rw [hu]
    exact (State.Keeps.setReg s y (Set.mem_singleton _)).trans (State.Keeps.setFld _ (f := R.CORE_MBOX_WIDX c k) _ (Set.mem_singleton _))
  have hstate : R.DEVICE_STATE ∉ ({R.CORE_MBOX c k} : Set Nat) := fun hm => by
    have hm' : R.DEVICE_STATE = R.CORE_MBOX c k := hm
    unfold R.DEVICE_STATE R.CORE_MBOX at hm'
    omega
  refine ⟨_, hexec, ?_, ?_, ?_, ?_, ?_, ?_, ?_, ?_, ⟨fun o ho => (hreg o).trans (hkeep.reg o ho), hkeep.mem, ?_⟩, fun q hq => ?_⟩
  · rw [State.flag, hother (R.CORE_MBOX_VALID c k) rfl rfl, hget (R.CORE_MBOX_VALID c k) rfl rfl]
    exact hbit 63 _
  · rw [hother (R.CORE_MBOX_OWNER c k) rfl rfl, hget (R.CORE_MBOX_OWNER c k) rfl rfl]
    rfl
  · rw [State.flag, hother (R.CORE_MBOX_RXREMOTE c k) rfl rfl, hget (R.CORE_MBOX_RXREMOTE c k) rfl rfl]
    exact hbit 60 _
  · rw [hother (R.CORE_MBOX_OBJ c k) rfl rfl, hget (R.CORE_MBOX_OBJ c k) rfl rfl]
    rfl
  · rw [hother (R.CORE_MBOX_DEPTHLOG c k) rfl rfl, hget (R.CORE_MBOX_DEPTHLOG c k) rfl rfl]
    rfl
  · rw [hother (R.CORE_MBOX_BASE c k) rfl rfl, hget (R.CORE_MBOX_BASE c k) rfl rfl]
    exact congrArg (· % 2 ^ 21) (Nat.div_one w.toNat)
  · rw [State.fld, hreg, ← State.fld, hu]
    exact State.fld_setFld_here _ _ _ rfl
  · rw [State.core_modCore_same]
    exact (SMap.get_set (fun _ => 0) (u.core c).mboxSeq k k 0).trans (if_pos rfl)
  · exact (congrArg R.DEVICE_STATE_STATE.get (hreg R.DEVICE_STATE)).trans (hkeep.fld (g := R.DEVICE_STATE_STATE) hstate)
  · rw [State.core_modCore, if_neg hq, State.core, hkeep.cores, ← State.core]

end

/-! ### Register accesses and the register commands (O58) -/

theorem State.Recorded.dropped {s : State} {i : Instr} {m : Master} (h : ∃ t, exec i s = .next t ∧ s.Recorded t m) :
    ∃ t, exec i s = .next t ∧ t.flag R.DEVICE_ACCERR_LOCKED_WRITE = true ∧
      (s.flag R.DEVICE_ACCERR_LOCKED_WRITE = false →
        t.fld R.DEVICE_ACCERR_COUNT = 1 ∧ t.fld R.DEVICE_ACCERR_MASTER = m.code % 256) ∧
      (s.flag R.DEVICE_ACCERR_LOCKED_WRITE = true →
        t.fld R.DEVICE_ACCERR_COUNT = min (s.fld R.DEVICE_ACCERR_COUNT + 1) 255 ∧
        t.fld R.DEVICE_ACCERR_MASTER = s.fld R.DEVICE_ACCERR_MASTER) ∧
      ((∀ o, ¬ o = R.DEVICE_ACCERR → t.reg o = s.reg o) ∧ t.mem = s.mem ∧ t.st = s.st) ∧ t.cores = s.cores := by
  obtain ⟨t, hexec, hrec⟩ := h
  exact ⟨t, hexec, hrec.locked, hrec.first, hrec.again, ⟨fun o ho => hrec.rest.reg o ho, hrec.rest.mem, hrec.st⟩, hrec.rest.cores⟩

/-- Fields of a register of a plain page lie in its width. -/
theorem plain_field_within {off b : Nat} {r : RegRow} (hr : regAt off = some (r, b)) (hw : r.wide = false) (hp : pageOf off ∈ plainPages) :
    ∀ f ∈ r.fields, f.lo + f.w ≤ 32 := by
  have htidy := regAt_tidy hr hp
  rw [RegRow.tidy, hw] at htidy
  exact fun f hf => of_decide_eq_true (List.all_eq_true.1 (Bool.and_eq_true_iff.1 htidy).2 f hf)

section
variable {s : State} (h : s.st ≠ stTRIPPED) (n a : Nat)
include h

theorem exec_resetcmd_badKey {key : BitVec 16} (hk : key ≠ 0xB311) :
    (∃ t, exec (.warmRestartCmd (.core n a .m) key) s = .next t ∧ s.Recorded t (.core n a .m)) ∧
    (∃ t, exec (.portAResetCmd (.core n a .m) key) s = .next t ∧ s.Recorded t (.core n a .m)) ∧
    (∃ t, exec (.portBResetCmd (.core n a .m) key) s = .next t ∧ s.Recorded t (.core n a .m)) :=
  ⟨⟨_, rfl, put_resetcmd_badKey h n a hk (kind := 2) (core := 0) (by decide) (by decide)⟩,
    ⟨_, rfl, put_resetcmd_badKey h n a hk (kind := 3) (core := 0) (by decide) (by decide)⟩,
    ⟨_, rfl, put_resetcmd_badKey h n a hk (kind := 4) (core := 0) (by decide) (by decide)⟩⟩

theorem exec_portBResetCmd_absent (hb : s.hasPortB = false) :
    ∃ t, exec (.portBResetCmd (.core n a .m) 0xB311) s = .next t ∧ s.Recorded t (.core n a .m) := by
  have hexec := exec_portBResetCmd_key h n a
  rw [if_neg (by rw [hb]; decide)] at hexec
  exact ⟨_, hexec, s.discard_records _ _⟩

theorem exec_warmRestartCmd_once : ((∀ q ∈ s.dev.stopReq, q.1 ≠ .warm) →
      exec (.warmRestartCmd (.core n a .m) 0xB311) s = .next { s with dev := { s.dev with stopReq := s.dev.stopReq ++ [(.warm, 0)] } }) ∧
    ((∃ q ∈ s.dev.stopReq, q.1 = .warm) → exec (.warmRestartCmd (.core n a .m) 0xB311) s = .next s) := by
  have hexec := exec_warmRestartCmd_key h n a
  constructor
  · intro hno
    rw [if_neg] at hexec
    · exact hexec
    · rw [List.any_eq_true]
      rintro ⟨q, hq, hw⟩
      exact hno q hq (eq_of_beq hw)
  · rintro ⟨q, hq, hw⟩
    rw [if_pos] at hexec
    · exact hexec
    · rw [List.any_eq_true]
      exact ⟨q, hq, beq_iff_eq.2 hw⟩

theorem exec_cntclr_shows (v : BitVec 32) : ∃ t, exec (.cntclr (.core n a .m) v) s = .next t ∧
    (∀ c i, c < 4 → i < 8 → v.getLsbD c = true → t.reg (R.VERD_CLIENT_ACCEPTED c + 4 * i) = 0) ∧
    s.Kept t (fun o => ∃ c i, c < 4 ∧ i < 8 ∧ v.getLsbD c = true ∧ o = R.VERD_CLIENT_ACCEPTED c + 4 * i) := by
  obtain ⟨hzero, hkeep⟩ := State.clearClients_shows s (fun c => bit v.toNat c) (List.range 4)
  have hb (c : Nat) : bit v.toNat c = v.getLsbD c := bit_eq_testBit v.toNat c
  have hstate : R.DEVICE_STATE ∉ {o | ∃ c i, c ∈ List.range 4 ∧ i < 8 ∧ bit v.toNat c = true ∧ o = R.VERD_CLIENT_ACCEPTED c + 4 * i} := by
    rintro ⟨c, i, -, -, -, ho⟩
    unfold R.DEVICE_STATE R.VERD_CLIENT_ACCEPTED at ho
    omega
  refine ⟨_, exec_cntclr_core h n a v, fun c i hc hi hv => hzero c i (List.mem_range.2 hc) hi ((hb c).trans hv), fun o ho => ?_, hkeep.mem,
    hkeep.fld (g := R.DEVICE_STATE_STATE) hstate⟩
  refine hkeep.reg o ?_
  rintro ⟨c, i, hc, hi, hv, rfl⟩
  exact ho ⟨c, i, List.mem_range.1 hc, hi, (hb c).symm.trans hv, rfl⟩

theorem exec_runWrite_shows (v : BitVec 32) : ∃ t, exec (.runWrite (.core n a .m) v) s = .next t ∧ t.fld R.SAFEIO_RUN_RUN = v.toNat % 16 ∧
    s.Kept t (· = R.SAFEIO_RUN) :=
  ⟨_, exec_runWrite_core h n a v, State.fld_setFld_here _ _ _ rfl, fun _ ho => State.reg_setFld_off _ _ _ ho, rfl,
    State.fld_setFld_off s R.SAFEIO_RUN_RUN R.DEVICE_STATE_STATE _ (by decide)⟩

end

/-- RUN is out of the reach of the levels U and S and of the virtual functions. -/
theorem exec_runWrite_fenced (s : State) (n a : Nat) (v : BitVec 32) :
    exec (.runWrite (.core n a .u) v) s = .next s ∧ exec (.runWrite (.core n a .s) v) s = .next s ∧
      ∀ f, f ≠ 0 → exec (.runWrite (.fn f) v) s = .next s := by
  have hexec (m : Master) : exec (.runWrite m v) s = .next (s.put m R.SAFEIO_RUN 4 v.toNat) := rfl
  refine ⟨?_, ?_, fun f hf => ?_⟩
  · rw [hexec, State.put_fenced rfl]
  · have hg : s.writeGate (.core n a .s) R.SAFEIO_RUN = .fence := by
      have hno : sMayWrite n R.SAFEIO_RUN = false := by
        have hp : pageOf R.SAFEIO_RUN = 2 := rfl
        have hown : ownOutcome R.SAFEIO_RUN = false := by decide
        have h1 : (2 == 0x20 + n) = false := beq_eq_false_iff_ne.2 (by omega)
        have h2 : (2 == 0x30 + n / 4) = false := beq_eq_false_iff_ne.2 (by omega)
        unfold sMayWrite
        rw [hp, hown]
        dsimp only
        rw [h1, h2]
        rfl
      exact if_neg (by rw [hno]; decide)
    rw [hexec, State.put_fenced hg]
  · have hg : s.writeGate (.fn f) R.SAFEIO_RUN = .gone := by
      have hout : inBlock f R.SAFEIO_RUN = false := by
        unfold inBlock R.SAFEIO_RUN
        rw [decide_eq_false (by omega), Bool.false_and]
      have hno : s.fnReach f R.SAFEIO_RUN = false := by
        unfold State.fnReach
        rw [if_neg hf, hout, Bool.false_and, Bool.and_false]
      exact if_neg (by rw [hno]; decide)
    rw [hexec, State.put_unreached hg]

/-- Settles O58: each command through the write that it is, and the write through what its register does with it. -/
theorem registerCommands : Obligations.RegisterCommands := by
  unfold Obligations.RegisterCommands
  intro n u s h
  refine ⟨fun off k v => ⟨fun hr => ?_, ?_, fun r b hr ha hw => ⟨fun hk => State.Recorded.dropped (exec_registerWrite_misfit hr ha hw hk v), fun hk hb hp htap => ?_⟩⟩,
    fun off r hr hw ha hrom => exec_lowHalfRead_latches n u hr hw ha hrom,
    fun key => ⟨fun hk => ?_, (exec_warmRestartCmd_once h n u).1, (exec_warmRestartCmd_once h n u).2,
      fun hb => State.Recorded.dropped (exec_portBResetCmd_absent h n u hb), fun p hp => exec_resetcmd_port h n u hp⟩,
    exec_cntclr_shows h n u, fun v => ⟨exec_runWrite_shows h n u v, exec_runWrite_fenced s n u v⟩,
    fun c hc => ⟨exec_sobjHandWrite_shows h hc, fun k w => ⟨fun hm => State.Recorded.dropped (exec_sobjcfgWrite_mapped h hc n u hm w),
        fun hm hbad => exec_sobjcfgWrite_bad h hc n u hm hbad, ?_, fun hm hgood => exec_sobjcfgWrite_good h hc n u hm hgood⟩,
      fun x i v => ⟨exec_vmapWrite_other h hc n u x i, exec_vmapWrite_own h hc n u x i⟩,
      fun k w => ⟨exec_mboxWrite_held h hc n u w, exec_mboxWrite_empty h hc n u w⟩⟩⟩
  · rw [exec_registerWrite, State.put_nowhere rfl hr]
  · rw [exec_registerWrite, State.put_fenced rfl]
  · obtain ⟨t, hexec, hkept, hfields⟩ := exec_registerWrite_plain h hr ha hw hb hp hk v htap (n := n) (u := u)
    refine ⟨t, hexec, hkept, fun f hf x hlo hhi => ?_⟩
    have h32 := plain_field_within hr hw hp f hf
    exact (hfields f hf x hlo hhi).trans (fieldAfter_bit f.acc _ _ v (by omega))
  · obtain ⟨hwarm, hporta, hportb⟩ := exec_resetcmd_badKey h n u hk
    exact ⟨State.Recorded.dropped hwarm, State.Recorded.dropped hporta, State.Recorded.dropped hportb⟩
  · have hexec : exec (.sobjcfgWrite (.core n u .u) c k (.whole w)) s = .next (s.put (.core n u .u) (R.CORE_SOBJCFG c k) 8 w.toNat) := rfl
    rw [hexec, State.put_fenced rfl]

end Sys2Proof.Machine
end

section
-- One proof after another: what waits for another costs the check memory.
set_option Elab.async false
/-! SUPPORT. Commands of the safe-I/O parameter set (O56) -/
namespace Sys2Proof.Machine

/-! ### Commands of the safe-I/O parameter set (O56) -/

/-- Only the change log differs. -/
def State.LogOnly (s t : State) : Prop := ∃ log seq, t = { s with param := { s.param with log := log, logSeq := seq } }

theorem State.LogOnly.refl (s : State) : s.LogOnly s := ⟨_, _, rfl⟩

theorem State.LogOnly.trans {s t u : State} (h : s.LogOnly t) (k : t.LogOnly u) : s.LogOnly u := by
  obtain ⟨_, _, rfl⟩ := h
  obtain ⟨_, _, rfl⟩ := k
  exact ⟨_, _, rfl⟩

theorem State.sioLog_only (s : State) (kind field operator old new : Nat) (digest : List Byte) : s.LogOnly (s.sioLog kind field operator old new digest) :=
  ⟨_, _, rfl⟩

theorem State.logCommit_only (s : State) (op : Nat) (old new : List Byte) : s.LogOnly (s.logCommit op old new) := by
  have hwords (l : List Nat) (t : State) : t.LogOnly (l.foldl (fun s w =>
      let a := leAt old (8 * w) 8
      let b := leAt new (8 * w) 8
      if a = b then s else s.sioLog 1 (8 * w) op a b []) t) := by
    induction l generalizing t with
    | nil => exact State.LogOnly.refl t
    | cons w l ih =>
      rw [List.foldl_cons]
      refine State.LogOnly.trans ?_ (ih _)
      dsimp only
      split_ifs
      · exact State.LogOnly.refl t
      · exact t.sioLog_only ..
  exact (hwords _ s).trans (State.sioLog_only ..)

/-- Only the parameter set, its log and its passwords differ. -/
def State.ParamOnly (s t : State) : Prop := ∃ p g, t = { s with param := p, freeCtr := g }

theorem State.done_param (s : State) (e : SubEntry) (status info : Nat) : (s.done e status info).param = s.param := by
  obtain ⟨_, _, h⟩ := s.done_queuesOnly e status info
  rw [h]

/-- A command that changes the parameter set and completes. -/
theorem State.ParamOnly.done {s t : State} {e : SubEntry} {opc : Nat} (h : (s.taken e opc).ParamOnly t) (status info : Nat) :
    s.Completed (t.done e status info) e status info ∧ (t.done e status info).regs = s.regs ∧ (t.done e status info).param = t.param ∧
      (t.done e status info).mem = s.mem ∧ (t.done e status info).cores = s.cores := by
  obtain ⟨p, g, rfl⟩ := h
  refine ⟨State.completed_done ?_ status info, State.done_regs .., State.done_param .., State.done_mem .., State.done_cores ..⟩
  exact s.taken_sqHead e opc

/-- The command ends with a status and changes nothing. -/
def State.SioEnds (s : State) (e : SubEntry) (c : Instr) (status info : Nat) : Prop :=
  ∃ t, exec c s = .next t ∧ s.Completed t e status info ∧ t.regs = s.regs ∧ t.param = s.param ∧ t.mem = s.mem ∧ t.cores = s.cores

theorem State.sioEnds_of_done {s : State} {e : SubEntry} {c : Instr} {opc status info : Nat}
    (h : exec c s = .next ((s.taken e opc).done e status info)) : s.SioEnds e c status info := by
  obtain ⟨hc, hr, hp, hm, hk⟩ := State.ParamOnly.done (s := s) (t := s.taken e opc) ⟨_, _, rfl⟩ status info
  exact ⟨_, h, hc, hr, hp, hm, hk⟩

theorem State.sioState_iff (s : State) : s.sioState = true ↔ s.st = stREADY ∨ s.st = stHOLD ∨ s.st = stSERVICE := by
  unfold State.sioState
  simp only [Bool.or_eq_true, beq_iff_eq, or_assoc]

theorem State.sioOpen_iff (s : State) : s.sioOpen = true ↔ ∃ b op, s.param.session = some (b, op) ∧ s.tb2 ≤ b := by
  unfold State.sioOpen
  cases s.param.session with
  | none => simp
  | some x =>
    obtain ⟨b, op⟩ := x
    simp

theorem State.lockedOut_iff (s : State) : s.lockedOut = true ↔ s.tb2 < s.param.lockUntil := decide_eq_true_iff

/-- The given password verifies (R609). -/
def State.PwRight (s : State) (pw : List Byte) : Prop := s.pwMatches pw = true

/-! ### A failed verification (R610) -/

/-- What a wrong password leaves of the parameters. -/
structure SioParamsFailed (p q : Param) (now : Nat) : Prop where
  fails : q.fails = p.fails + 1
  set : q.set = p.set
  password : q.password = p.password
  session : q.session = p.session
  locks : if p.locks = 0 ∧ p.fails + 1 < 3 then q.locks = 0 ∧ q.lockUntil = p.lockUntil
    else q.locks = p.locks + 1 ∧ q.lockUntil = now + 1000000000 * min (60 * 2 ^ min p.locks 6) 3600

theorem State.pwFail_shows (s : State) (op : Nat) : s.ParamOnly (s.pwFail op) ∧ SioParamsFailed s.param (s.pwFail op).param s.tb2 := by
  obtain ⟨log, seq, hlog⟩ := s.sioLog_only 4 0 op 0 0 []
  have hparam : (s.sioLog 4 0 op 0 0 []).param = { s.param with log := log, logSeq := seq } := by rw [hlog]
  have htb : (s.sioLog 4 0 op 0 0 []).tb2 = s.tb2 := rfl
  unfold State.pwFail
  dsimp only
  rw [hparam, htb]
  dsimp only
  by_cases h : s.param.locks = 0 ∧ s.param.fails + 1 < 3
  · rw [if_pos h, hlog]
    exact ⟨⟨_, _, rfl⟩, rfl, rfl, rfl, rfl, by rw [if_pos h]; exact ⟨h.1, rfl⟩⟩
  · rw [if_neg h, hlog]
    exact ⟨⟨_, _, rfl⟩, rfl, rfl, rfl, rfl, by rw [if_neg h]; exact ⟨rfl, rfl⟩⟩

/-! ### Fields of the argument buffer (R737) -/

theorem zerosAt_iff (d : List Byte) (off n : Nat) : zerosAt d off n = true ↔ ∀ i, off ≤ i → i < off + n → d.getD i 0 = 0 := by
  have hget (i : Nat) : ((d.drop off).take n)[i]? = if i < n then d[off + i]? else none := by
    rw [List.getElem?_take, List.getElem?_drop]
  unfold zerosAt
  rw [List.all_eq_true]
  constructor
  · intro h i hlo hhi
    have hi := hget (i - off)
    rw [if_pos (by omega), show off + (i - off) = i by omega] at hi
    rw [List.getD_eq_getElem?_getD]
    cases hx : d[i]? with
    | none => rfl
    | some x =>
      rw [hx] at hi
      exact eq_of_beq (h x (List.mem_of_getElem? hi))
  · intro h x hx
    obtain ⟨i, hi⟩ := List.getElem?_of_mem hx
    rw [hget] at hi
    split_ifs at hi with hlt
    have hz := h (off + i) (by omega) (by omega)
    rw [List.getD_eq_getElem?_getD, hi] at hz
    exact beq_iff_eq.2 hz

theorem pwOk_iff (d : List Byte) (off n : Nat) : pwOk n ((d.drop off).take 64) = true ↔ n ≤ 64 ∧ ∀ i, n ≤ i → i < 64 → d.getD (off + i) 0 = 0 := by
  unfold pwOk
  rw [Bool.and_eq_true, decide_eq_true_iff]
  refine and_congr_right fun hn => ?_
  have hdrop : ((d.drop off).take 64).drop n = (d.drop (off + n)).take (64 - n) := by
    rw [List.drop_take, List.drop_drop]
  rw [hdrop]
  have hz := zerosAt_iff d (off + n) (64 - n)
  unfold zerosAt at hz
  rw [hz]
  constructor
  · exact fun h i hlo hhi => h (off + i) (by omega) (by omega)
  · intro h i hlo hhi
    have hi := h (i - off) (by omega) (by omega)
    rwa [show off + (i - off) = i by omega] at hi

theorem take_take_field (d : List Byte) (off : Nat) {n : Nat} (hn : n ≤ 64) : ((d.drop off).take 64).take n = (d.drop off).take n := by
  rw [List.take_take, Nat.min_eq_left hn]

/-- A password verifies against the stored one, or is empty while there is none. -/
theorem State.pwMatches_iff (s : State) (pw : List Byte) : s.pwMatches pw = true ↔
    (s.param.password = none ∧ pw = []) ∨ ∃ salt hash, s.param.password = some (salt, hash) ∧ Config.sha384 (salt ++ pw) = hash := by
  unfold State.pwMatches
  cases h : s.param.password with
  | none => simp
  | some x =>
    obtain ⟨salt, hash⟩ := x
    rw [beq_iff_eq]
    constructor
    · exact fun hp => .inr ⟨salt, hash, rfl, hp⟩
    · rintro (⟨hn, -⟩ | ⟨salt', hash', heq, hp⟩)
      · cases hn
      · obtain ⟨rfl, rfl⟩ := Prod.mk.inj (Option.some.inj heq)
        exact hp

/-! ### SIO_PASSWORD (R608–R610) -/

/-- The command is refused for its password, which counts. -/
def State.SioWrong (s : State) (e : SubEntry) (c : Instr) : Prop :=
  ∃ t, exec c s = .next t ∧ s.Completed t e 0x41 0 ∧ t.regs = s.regs ∧ SioParamsFailed s.param t.param s.tb2

theorem State.sioWrong_of_fail {s : State} {e : SubEntry} {c : Instr} {opc op : Nat} (h : exec c s = .next (((s.taken e opc).pwFail op).done e 0x41 0)) :
    s.SioWrong e c := by
  obtain ⟨honly, hfail⟩ := (s.taken e opc).pwFail_shows op
  obtain ⟨hc, hr, hp, -, -⟩ := honly.done 0x41 0
  exact ⟨_, h, hc, hr, by rw [hp]; exact hfail⟩

section
variable {s : State} {e : SubEntry} (h : s.FromPf0 e)
include h

section
variable (hbuf : e.hasBuf 160 = true) (hargs : e.argsIn [] = true) (hz : zerosAt e.data 2 14 = true) (ho : pwOk (leAt e.data 0 1) ((e.data.drop 32).take 64) = true)
  (hn : pwOk (leAt e.data 1 1) ((e.data.drop 96).take 64) = true) (h8 : 8 ≤ leAt e.data 1 1) (h0 : leAt e.data 0 1 = 0 ∨ 8 ≤ leAt e.data 0 1)
include hbuf hargs hz ho hn h8 h0

/-- A password newly set. -/
def State.pwSet (s : State) (new : List Byte) (op : Nat) : State :=
  State.sioLog { s.pwGood with
    param := { s.pwGood.param with password := some ((List.range 32).map (Config.freeByte (s.freeCtr + 1)),
      Config.sha384 ((List.range 32).map (Config.freeByte (s.freeCtr + 1)) ++ new)) }
    freeCtr := s.freeCtr + 1 } (if s.param.password.isSome then 3 else 2) 0 op 0 0 []

theorem exec_sioPassword_taken : exec (.sioPassword e) s = .next (
    if !s.sioState then (s.taken e 0x28).done e 0x03 0
    else if s.lockedOut then (s.taken e 0x28).done e 0x42 0
    else if !s.pwMatches (((e.data.drop 32).take 64).take (leAt e.data 0 1)) then ((s.taken e 0x28).pwFail (leAt e.data 16 16)).done e 0x41 0
    else ((s.taken e 0x28).pwSet (((e.data.drop 96).take 64).take (leAt e.data 1 1)) (leAt e.data 16 16)).done e 0 0) := by
  have hok : (e.argsIn [] && e.hasBuf 160 && zerosAt e.data 2 14 && pwOk (leAt e.data 0 1) ((e.data.drop 32).take 64) &&
      pwOk (leAt e.data 1 1) ((e.data.drop 96).take 64) && Decidable.decide (8 ≤ leAt e.data 1 1) &&
      (leAt e.data 0 1 == 0 || Decidable.decide (8 ≤ leAt e.data 0 1))) = true := by
    rw [hargs, hbuf, hz, ho, hn, decide_eq_true h8]
    simpa using h0
  exact exec_of_pf0 (c := .sioPassword e) (scrub := false) h hok rfl

theorem exec_sioPassword_refused : (¬ s.sioState = true → s.SioEnds e (.sioPassword e) 0x03 0) ∧
    (s.sioState = true → s.lockedOut = true → s.SioEnds e (.sioPassword e) 0x42 0) ∧
    (s.sioState = true → ¬ s.lockedOut = true → ¬ s.pwMatches ((e.data.drop 32).take (leAt e.data 0 1)) = true → s.SioWrong e (.sioPassword e)) := by
  have hexec := exec_sioPassword_taken h hbuf hargs hz ho hn h8 h0
  rw [take_take_field _ _ ((pwOk_iff ..).1 ho).1] at hexec
  refine ⟨fun hs => ?_, fun hs hl => ?_, fun hs hl hp => ?_⟩
  · rw [Bool.eq_false_iff.2 hs] at hexec
    exact State.sioEnds_of_done hexec
  · rw [hs, if_neg (by decide), if_pos hl] at hexec
    exact State.sioEnds_of_done hexec
  · rw [hs, if_neg (by decide), if_neg hl, if_pos (by rw [Bool.eq_false_iff.2 hp]; rfl)] at hexec
    exact State.sioWrong_of_fail hexec

theorem exec_sioPassword_set (hs : s.sioState = true) (hl : ¬ s.lockedOut = true) (hp : s.pwMatches ((e.data.drop 32).take (leAt e.data 0 1)) = true) :
    ∃ t salt, exec (.sioPassword e) s = .next t ∧ s.Completed t e 0 0 ∧ salt.length = 32 ∧
      t.param.password = some (salt, Config.sha384 (salt ++ (e.data.drop 96).take (leAt e.data 1 1))) ∧ t.param.fails = 0 ∧ t.param.locks = 0 ∧
      t.param.set = s.param.set ∧ t.param.logSeq = (s.param.logSeq + 1) % 2 ^ 32 ∧ t.regs = s.regs := by
  have hexec := exec_sioPassword_taken h hbuf hargs hz ho hn h8 h0
  rw [take_take_field _ _ ((pwOk_iff ..).1 ho).1, take_take_field _ _ ((pwOk_iff ..).1 hn).1, hs, if_neg (by decide), if_neg hl,
    if_neg (by rw [hp]; decide)] at hexec
  have honly : (s.taken e 0x28).ParamOnly ((s.taken e 0x28).pwSet ((e.data.drop 96).take (leAt e.data 1 1)) (leAt e.data 16 16)) := ⟨_, _, rfl⟩
  obtain ⟨hc, hr, hparam, -, -⟩ := honly.done 0 0
  refine ⟨_, (List.range 32).map (Config.freeByte ((s.taken e 0x28).freeCtr + 1)), hexec, hc, ?_, ?_, ?_, ?_, ?_, ?_, hr⟩
  · rw [List.length_map, List.length_range]
  all_goals
    rw [hparam]
    rfl

end

end

section
variable {s : State} {e : SubEntry} (h : s.FromPf0 e)
include h

/-! ### SIO_PARAM_BEGIN (R608–R611) -/

section
variable (hbuf : e.hasBuf 96 = true) (hargs : e.argsIn [] = true) (hz : zerosAt e.data 1 15 = true) (ho : pwOk (leAt e.data 0 1) ((e.data.drop 32).take 64) = true)
  (h8 : 8 ≤ leAt e.data 0 1)
include hbuf hargs hz ho h8

/-- A change session opened. -/
def State.sioBegun (s : State) (op : List Byte) : State :=
  { s.pwGood with param := { s.pwGood.param with session := some (s.tb2 + 600000000000, op), staged := none } }

theorem exec_sioParamBegin_taken : exec (.sioParamBegin e) s = .next (
    if !s.sioState then (s.taken e 0x29).done e 0x03 0
    else if s.param.password.isNone then (s.taken e 0x29).done e 0x40 0
    else if s.lockedOut then (s.taken e 0x29).done e 0x42 0
    else if s.sioOpen then (s.taken e 0x29).done e 0x0A 0
    else if !s.pwMatches ((e.data.drop 32).take (leAt e.data 0 1)) then ((s.taken e 0x29).pwFail (leAt e.data 16 16)).done e 0x41 0
    else ((s.taken e 0x29).sioBegun ((e.data.drop 16).take 16)).done e 0 0) := by
  have hok : (e.argsIn [] && e.hasBuf 96 && zerosAt e.data 1 15 && pwOk (leAt e.data 0 1) ((e.data.drop 32).take 64) &&
      Decidable.decide (8 ≤ leAt e.data 0 1)) = true := by
    rw [hargs, hbuf, hz, ho, decide_eq_true h8]
    rfl
  rw [← take_take_field _ _ ((pwOk_iff ..).1 ho).1]
  exact exec_of_pf0 (c := .sioParamBegin e) (scrub := false) h hok rfl

theorem exec_sioParamBegin_shows :
    (¬ s.sioState = true → s.SioEnds e (.sioParamBegin e) 0x03 0) ∧
    (s.sioState = true → s.param.password = none → s.SioEnds e (.sioParamBegin e) 0x40 0) ∧
    (s.sioState = true → s.param.password ≠ none → s.lockedOut = true → s.SioEnds e (.sioParamBegin e) 0x42 0) ∧
    (s.sioState = true → s.param.password ≠ none → ¬ s.lockedOut = true → s.sioOpen = true → s.SioEnds e (.sioParamBegin e) 0x0A 0) ∧
    (s.sioState = true → s.param.password ≠ none → ¬ s.lockedOut = true → ¬ s.sioOpen = true →
      ¬ s.pwMatches ((e.data.drop 32).take (leAt e.data 0 1)) = true → s.SioWrong e (.sioParamBegin e)) ∧
    (s.sioState = true → s.param.password ≠ none → ¬ s.lockedOut = true → ¬ s.sioOpen = true →
      s.pwMatches ((e.data.drop 32).take (leAt e.data 0 1)) = true → ∃ t, exec (.sioParamBegin e) s = .next t ∧ s.Completed t e 0 0 ∧
        t.param = { s.param with fails := 0, locks := 0, session := some (s.tb2 + 600000000000, (e.data.drop 16).take 16), staged := none } ∧
        t.regs = s.regs) := by
  have hexec := exec_sioParamBegin_taken h hbuf hargs hz ho h8
  have hsome (hp : s.param.password ≠ none) : ¬ s.param.password.isNone = true := by rwa [Option.isNone_iff_eq_none]
  refine ⟨fun hs => ?_, fun hs hp => ?_, fun hs hp hl => ?_, fun hs hp hl ho => ?_, fun hs hp hl ho hw => ?_, fun hs hp hl ho hw => ?_⟩
  · rw [Bool.eq_false_iff.2 hs] at hexec
    exact State.sioEnds_of_done hexec
  · rw [hs, if_neg (by decide), if_pos (by rw [hp]; rfl)] at hexec
    exact State.sioEnds_of_done hexec
  · rw [hs, if_neg (by decide), if_neg (hsome hp), if_pos hl] at hexec
    exact State.sioEnds_of_done hexec
  · rw [hs, if_neg (by decide), if_neg (hsome hp), if_neg hl, if_pos ho] at hexec
    exact State.sioEnds_of_done hexec
  · rw [hs, if_neg (by decide), if_neg (hsome hp), if_neg hl, if_neg ho, if_pos (by rw [Bool.eq_false_iff.2 hw]; rfl)] at hexec
    exact State.sioWrong_of_fail hexec
  · rw [hs, if_neg (by decide), if_neg (hsome hp), if_neg hl, if_neg ho, if_neg (by rw [hw]; decide)] at hexec
    have honly : (s.taken e 0x29).ParamOnly ((s.taken e 0x29).sioBegun ((e.data.drop 16).take 16)) := ⟨_, _, rfl⟩
    obtain ⟨hc, hr, hparam, -, -⟩ := honly.done 0 0
    exact ⟨_, hexec, hc, by rw [hparam]; rfl, hr⟩

end

/-! ### SIO_PARAM_WRITE (R608) -/

/-- A set staged, with its digest written to the host. -/
def State.sioStaged (s : State) (f addr : Nat) (d : List Byte) : State :=
  ({ s with param := { s.param with staged := some (s.stagedSet d) } } : State).modFn f (fun k => { k with wrote := some (addr, Config.sha384 (s.stagedSet d)) })

theorem exec_sioParamWrite_shows (hargs : e.argsIn [(0, 8)] = true) (hal : e.argN 0 8 % 64 = 0) (hbuf : e.hasBuf 512 = true) :
    (¬ s.sioState = true → s.SioEnds e (.sioParamWrite e) 0x03 0) ∧ (s.sioState = true → ¬ s.sioOpen = true → s.SioEnds e (.sioParamWrite e) 0x43 0) ∧
    (s.sioState = true → s.sioOpen = true → s.paramValid e.data = false → s.SioEnds e (.sioParamWrite e) 0x09 0) ∧
    (s.sioState = true → s.sioOpen = true → s.paramValid e.data = true → ∃ t, exec (.sioParamWrite e) s = .next t ∧
      s.Completed t e 0 (leAt (Config.sha384 (s.stagedSet e.data)) 0 8) ∧ t.param = { s.param with staged := some (s.stagedSet e.data) } ∧
      (t.fn e.fn).wrote = some (e.argN 0 8, Config.sha384 (s.stagedSet e.data)) ∧ t.regs = s.regs) := by
  have hok : (e.argsIn [(0, 8)] && e.argN 0 8 % 64 == 0 && e.hasBuf 512) = true := by
    rw [hargs, hal, hbuf]
    rfl
  have hexec : exec (.sioParamWrite e) s = .next (
      if !s.sioState then (s.taken e 0x2A).done e 0x03 0
      else if !s.sioOpen then (s.taken e 0x2A).done e 0x43 0
      else if !s.paramValid e.data then (s.taken e 0x2A).done e 0x09 0
      else ((s.taken e 0x2A).sioStaged e.fn (e.argN 0 8) e.data).done e 0 (leAt (Config.sha384 (s.stagedSet e.data)) 0 8)) :=
    exec_of_pf0 (c := .sioParamWrite e) (scrub := false) h hok rfl
  refine ⟨fun hs => ?_, fun hs ho => ?_, fun hs ho hv => ?_, fun hs ho hv => ?_⟩
  · rw [Bool.eq_false_iff.2 hs] at hexec
    exact State.sioEnds_of_done hexec
  · rw [hs, if_neg (by decide), if_pos (by rw [Bool.eq_false_iff.2 ho]; rfl)] at hexec
    exact State.sioEnds_of_done hexec
  · rw [hs, if_neg (by decide), if_neg (by rw [ho]; decide), if_pos (by rw [hv]; rfl)] at hexec
    exact State.sioEnds_of_done hexec
  · rw [hs, if_neg (by decide), if_neg (by rw [ho]; decide), if_neg (by rw [hv]; decide)] at hexec
    obtain ⟨u, hu⟩ : ∃ t, t = (s.taken e 0x2A).sioStaged e.fn (e.argN 0 8) e.data := ⟨_, rfl⟩
    have hfn : u.fn e.fn = { (s.taken e 0x2A).fn e.fn with wrote := some (e.argN 0 8, Config.sha384 (s.stagedSet e.data)) } := by
      rw [hu, State.sioStaged, State.fn_modFn, if_pos rfl]
      rfl
    have hparam : u.param = { s.param with staged := some (s.stagedSet e.data) } := by
      rw [hu]
      rfl
    have hregs : u.regs = s.regs := by
      rw [hu]
      rfl
    rw [← hu] at hexec
    have hhead : (u.fn e.fn).sqHead = ((s.fn e.fn).sqHead + 1) % s.sqSize e.fn := by
      rw [hfn]
      exact s.taken_sqHead e 0x2A
    obtain ⟨c, w, i, p, v, hd, ph, hdone, -⟩ := u.fn_done e 0 (leAt (Config.sha384 (s.stagedSet e.data)) 0 8)
    refine ⟨_, hexec, State.completed_done hhead _ _, ?_, ?_, ?_⟩
    · rw [State.done_param, hparam]
    · rw [hdone, hfn]
    · rw [State.done_regs, hregs]

/-! ### SIO_PARAM_ABORT (R608) -/

theorem exec_sioParamAbort_shows (hbuf : e.noBuf = true) (hargs : e.argsIn [] = true) :
    (¬ s.sioState = true → s.SioEnds e (.sioParamAbort e) 0x03 0) ∧
    (s.sioState = true → ∃ t, exec (.sioParamAbort e) s = .next t ∧ s.Completed t e 0 0 ∧
      t.param = { s.param with staged := none, session := none } ∧ t.regs = s.regs) := by
  have hok : (e.noBuf && e.argsIn []) = true := by rw [hbuf, hargs]; rfl
  have hexec : exec (.sioParamAbort e) s = .next (if !s.sioState then (s.taken e 0x2C).done e 0x03 0
      else ({ s.taken e 0x2C with param := { s.param with staged := none, session := none } } : State).done e 0 0) :=
    exec_of_pf0 (c := .sioParamAbort e) (scrub := false) h hok rfl
  refine ⟨fun hs => ?_, fun hs => ?_⟩
  · rw [Bool.eq_false_iff.2 hs] at hexec
    exact State.sioEnds_of_done hexec
  · rw [hs, if_neg (by decide)] at hexec
    have honly : (s.taken e 0x2C).ParamOnly { s.taken e 0x2C with param := { s.param with staged := none, session := none } } := ⟨_, _, rfl⟩
    obtain ⟨hc, hr, hparam, -, -⟩ := honly.done 0 0
    exact ⟨_, hexec, hc, by rw [hparam], hr⟩

end

/-! ### SIO_PARAM_COMMIT (R609, R611–R613) -/

/-- A set in force, its session over. -/
def State.sioTaken (s : State) (set : List Byte) : State :=
  State.driveSitp { s.logCommit s.operator s.param.set set with
    param := { (s.logCommit s.operator s.param.set set).param with set := set, staged := none, session := none } }

/-- The device that a commit in READY takes to HOLD. -/
def State.sioHold (s : State) : State :=
  ({ s.setFld R.DEVICE_BOOTSTAT_FAIL_CODE 0x21 with dev := { s.dev with holdFrom := stREADY } } : State).setState stHOLD

theorem State.sioTaken_shows (s : State) (set : List Byte) : (s.sioTaken set).regs = s.regs ∧ (s.sioTaken set).fns = s.fns ∧ (s.sioTaken set).param.set = set ∧
    (s.sioTaken set).param.staged = none ∧ (s.sioTaken set).param.session = none ∧ (s.sioTaken set).param.password = s.param.password := by
  obtain ⟨log, seq, hlog⟩ := s.logCommit_only s.operator s.param.set set
  unfold State.sioTaken
  rw [hlog]
  exact ⟨rfl, rfl, rfl, rfl, rfl, rfl⟩

theorem State.sioHold_shows {s : State} (h : s.st = stREADY) (f : Nat) : s.sioHold.st = stHOLD ∧ s.sioHold.fld R.DEVICE_BOOTSTAT_FAIL_CODE = 0x21 ∧
    s.sioHold.dev.holdFrom = stREADY ∧ s.sioHold.param = s.param ∧ (s.sioHold.fn f).sqHead = (s.fn f).sqHead := by
  unfold State.sioHold
  obtain ⟨v, hv⟩ : ∃ t, t = s.setFld R.DEVICE_BOOTSTAT_FAIL_CODE 0x21 := ⟨_, rfl⟩
  have hvcode : v.fld R.DEVICE_BOOTSTAT_FAIL_CODE = 0x21 := by
    rw [hv]
    exact State.fld_setFld_here s _ _ rfl
  have hvst : v.st = s.st := by
    rw [hv]
    exact State.fld_setFld_off s R.DEVICE_BOOTSTAT_FAIL_CODE R.DEVICE_STATE_STATE _ (by decide)
  have hvparam : v.param = s.param := by
    rw [hv, State.setFld_param]
  have hvfns : v.fns = s.fns := by rw [hv, State.setFld_fns]
  rw [← hv]
  obtain ⟨u, hu⟩ : ∃ t : State, t = { v with dev := { s.dev with holdFrom := stREADY } } := ⟨_, rfl⟩
  have hregs : u.regs = v.regs := by rw [hu]
  have hfrom : u.dev.holdFrom = stREADY := by rw [hu]
  have hparam : u.param = s.param := by rw [hu, ← hvparam]
  have hfns : u.fns = s.fns := by rw [hu, ← hvfns]
  have hst : u.st ≠ stHOLD := by
    have hsame : u.st = s.st := (State.fld_congr hregs R.DEVICE_STATE_STATE).trans hvst
    rw [hsame, h]
    decide
  rw [← hu]
  refine ⟨State.st_setState _ (by decide), ?_, ?_, ?_, ?_⟩
  · rw [State.fld_setState_other _ _ (by decide) (by decide), State.fld_congr hregs, hvcode]
  · rw [(State.setState_device _ _).1, hfrom]
  · obtain ⟨⟨_, _, _, _, _, _, hshape⟩, -⟩ := State.Outer.setState (O := {R.DEVICE_STATE, R.PCIEA_F_LOST 0}) u (.inl rfl) (.inr rfl) stHOLD
    rw [hshape]
    exact hparam
  · unfold State.setState
    dsimp only
    rw [if_neg hst, State.postEvent_sqHead, State.fn, State.quietOutputs_fns, State.setFld_fns, State.setFld_fns, hfns, ← State.fn]

theorem State.param_taken (s : State) (e : SubEntry) (opc : Nat) : (s.taken e opc).param = s.param := rfl

/-- A set in force, and in READY the device in HOLD. -/
def State.sioCommitted (w : State) : State := if w.st = stREADY then w.sioHold else w

theorem State.sioCommitted_shows (w : State) (f : Nat) : w.sioCommitted.param = w.param ∧ (w.sioCommitted.fn f).sqHead = (w.fn f).sqHead ∧
    (w.st = stREADY → w.sioCommitted.st = stHOLD ∧ w.sioCommitted.fld R.DEVICE_BOOTSTAT_FAIL_CODE = 0x21 ∧ w.sioCommitted.dev.holdFrom = stREADY) ∧
    (w.st ≠ stREADY → w.sioCommitted = w) := by
  by_cases h : w.st = stREADY
  · obtain ⟨hhold, hcode, hfrom, hsame, hkeep⟩ := State.sioHold_shows h f
    rw [State.sioCommitted, if_pos h]
    exact ⟨hsame, hkeep, fun _ => ⟨hhold, hcode, hfrom⟩, fun hn => absurd h hn⟩
  · rw [State.sioCommitted, if_neg h]
    exact ⟨rfl, rfl, fun hr => absurd hr h, fun _ => rfl⟩

theorem State.done_dev (s : State) (e : SubEntry) (status info : Nat) : (s.done e status info).dev = s.dev := by
  obtain ⟨_, _, h⟩ := s.done_queuesOnly e status info
  rw [h]

section
variable {s : State} {e : SubEntry} (h : s.FromPf0 e)
include h

theorem exec_sioParamCommit_shows (hbuf : e.hasBuf 48 = true) (hargs : e.argsIn [] = true) :
    (¬ s.sioState = true → s.SioEnds e (.sioParamCommit e) 0x03 0) ∧
    (s.sioState = true → s.param.password = none → s.SioEnds e (.sioParamCommit e) 0x40 0) ∧
    (s.sioState = true → s.param.password ≠ none → ¬ s.sioOpen = true → s.SioEnds e (.sioParamCommit e) 0x43 0) ∧
    (s.sioState = true → s.param.password ≠ none → s.sioOpen = true → s.param.staged = none → s.SioEnds e (.sioParamCommit e) 0x11 0) ∧
    ∀ set, s.param.staged = some set → s.sioState = true → s.param.password ≠ none → s.sioOpen = true →
      (Config.sha384 set ≠ e.data → s.SioEnds e (.sioParamCommit e) 0x11 0) ∧
      (Config.sha384 set = e.data → ∃ t, exec (.sioParamCommit e) s = .next t ∧ s.Completed t e 0 (leAt set 8 4) ∧
        t.param.set = set ∧ t.param.staged = none ∧ t.param.session = none ∧ t.param.password = s.param.password ∧
        (s.st = stREADY → t.st = stHOLD ∧ t.fld R.DEVICE_BOOTSTAT_FAIL_CODE = 0x21 ∧ t.dev.holdFrom = stREADY) ∧
        (s.st ≠ stREADY → t.st = s.st ∧ t.regs = s.regs)) := by
  have hok : (e.argsIn [] && e.hasBuf 48) = true := by rw [hargs, hbuf]; rfl
  have hexec := exec_of_pf0 (c := .sioParamCommit e) (scrub := false) h hok rfl
  dsimp only at hexec
  have hstate : (s.taken e 0x2B).sioState = s.sioState := rfl
  have hopen : (s.taken e 0x2B).sioOpen = s.sioOpen := rfl
  have hparam : (s.taken e 0x2B).param = s.param := rfl
  rw [hstate, hopen, hparam] at hexec
  have hsome (hp : s.param.password ≠ none) : ¬ s.param.password.isNone = true := by rwa [Option.isNone_iff_eq_none]
  refine ⟨fun hs => ?_, fun hs hp => ?_, fun hs hp ho => ?_, fun hs hp ho hst => ?_, fun set hst hs hp ho => ⟨fun hd => ?_, fun hd => ?_⟩⟩
  · rw [Bool.eq_false_iff.2 hs] at hexec
    exact State.sioEnds_of_done hexec
  · rw [hs, if_neg (by decide), if_pos (by rw [hp]; rfl)] at hexec
    exact State.sioEnds_of_done hexec
  · rw [hs, if_neg (by decide), if_neg (hsome hp), if_pos (by rw [Bool.eq_false_iff.2 ho]; rfl)] at hexec
    exact State.sioEnds_of_done hexec
  · rw [hs, if_neg (by decide), if_neg (hsome hp), if_neg (by rw [ho]; decide), hst] at hexec
    exact State.sioEnds_of_done hexec
  · rw [hs, if_neg (by decide), if_neg (hsome hp), if_neg (by rw [ho]; decide), hst] at hexec
    exact State.sioEnds_of_done (hexec.trans (congrArg Host.Outcome.next (if_pos hd)))
  · rw [hs, if_neg (by decide), if_neg (hsome hp), if_neg (by rw [ho]; decide), hst] at hexec
    have hgoes : exec (.sioParamCommit e) s = .next (((s.taken e 0x2B).sioTaken set).sioCommitted.done e 0 (leAt set 8 4)) :=
      hexec.trans (congrArg Host.Outcome.next (if_neg (not_not.2 hd)))
    clear hexec
    obtain ⟨hregs, hfns, hset, hstaged, hsession, hpassword⟩ := (s.taken e 0x2B).sioTaken_shows set
    have htaken := s.taken_sqHead e 0x2B
    generalize (s.taken e 0x2B).sioTaken set = w at *
    have hwst : w.st = s.st := State.fld_congr (s := s) hregs R.DEVICE_STATE_STATE
    have hwhead : (w.fn e.fn).sqHead = ((s.fn e.fn).sqHead + 1) % s.sqSize e.fn := by
      rw [State.fn, hfns, ← State.fn]
      exact htaken
    obtain ⟨hsame, hkeep, hready, hother⟩ := w.sioCommitted_shows e.fn
    generalize w.sioCommitted = x at *
    have hdone : (x.done e 0 (leAt set 8 4)).regs = x.regs := State.done_regs ..
    refine ⟨_, hgoes, State.completed_done (hkeep.trans hwhead) _ _, ?_, ?_, ?_, ?_, fun hr => ?_, fun hn => ?_⟩
    · rw [State.done_param, hsame, hset]
    · rw [State.done_param, hsame, hstaged]
    · rw [State.done_param, hsame, hsession]
    · rw [State.done_param, hsame, hpassword, State.param_taken]
    · obtain ⟨hhold, hcode, hfrom⟩ := hready (hwst.trans hr)
      exact ⟨(State.fld_congr hdone R.DEVICE_STATE_STATE).trans hhold, (State.fld_congr hdone R.DEVICE_BOOTSTAT_FAIL_CODE).trans hcode,
        by rw [State.done_dev, hfrom]⟩
    · have hxw := hother fun hr => hn (hwst.symm.trans hr)
      rw [hxw] at hdone ⊢
      exact ⟨(State.fld_congr hdone R.DEVICE_STATE_STATE).trans hwst, hdone.trans hregs⟩

end

/-! ### SIO_ACK (R602) -/

/-- One channel's output fault cleared. -/
def State.clearFault (s : State) (c : Nat) : State :=
  (s.setFld (R.SAFEIO_CHSTAT_FAULT c) 0).setFld (R.SAFEIO_CHSTAT_FCODE c) 0

/-- The output faults of some channels cleared. -/
def State.clearFaults (s : State) (l : List Nat) : State := l.foldl State.clearFault s

theorem State.clearFaults_nil (s : State) : s.clearFaults [] = s := by
  rw [State.clearFaults, List.foldl_nil]

theorem State.clearFaults_cons (s : State) (c : Nat) (l : List Nat) : s.clearFaults (c :: l) = (s.clearFault c).clearFaults l := by
  rw [State.clearFaults, List.foldl_cons, ← State.clearFaults]

theorem State.clearFault_shows (s : State) (c : Nat) :
    (s.clearFault c).flag (R.SAFEIO_CHSTAT_FAULT c) = false ∧ (s.clearFault c).fld (R.SAFEIO_CHSTAT_FCODE c) = 0 ∧
    ∀ o, o ≠ R.SAFEIO_CHSTAT c → (s.clearFault c).reg o = s.reg o := by
  unfold State.clearFault
  refine ⟨?_, State.fld_setFld_here _ _ _ rfl, fun o ho => ?_⟩
  · rw [State.flag, State.fld_setFld_apart _ _ _ _ rfl rfl, State.fld_setFld_here _ _ _ rfl]
    rfl
  · exact (State.reg_setFld_off _ _ _ ho).trans (State.reg_setFld_off _ _ _ ho)

theorem State.clearFaults_shows (s : State) (l : List Nat) (k : Nat) :
    (k ∈ l → (s.clearFaults l).flag (R.SAFEIO_CHSTAT_FAULT k) = false ∧ (s.clearFaults l).fld (R.SAFEIO_CHSTAT_FCODE k) = 0) ∧
    (k ∉ l → (s.clearFaults l).reg (R.SAFEIO_CHSTAT k) = s.reg (R.SAFEIO_CHSTAT k)) := by
  induction l generalizing s with
  | nil =>
    rw [State.clearFaults_nil]
    exact ⟨fun hk => absurd hk List.not_mem_nil, fun _ => rfl⟩
  | cons c l ih =>
    rw [State.clearFaults_cons]
    obtain ⟨hfault, hcode, hrest⟩ := s.clearFault_shows c
    obtain ⟨hin, hout⟩ := ih (s.clearFault c)
    constructor
    · intro hk
      by_cases hl : k ∈ l
      · exact hin hl
      · have hkc : k = c := (List.mem_cons.1 hk).resolve_right hl
        have hreg := hout hl
        rw [hkc] at hreg ⊢
        exact ⟨(congrArg (fun x => (R.SAFEIO_CHSTAT_FAULT c).get x == 1) hreg).trans hfault, (congrArg (R.SAFEIO_CHSTAT_FCODE c).get hreg).trans hcode⟩
    · intro hk
      rw [List.mem_cons, not_or] at hk
      rw [hout hk.2]
      refine hrest _ fun ho => hk.1 ?_
      unfold R.SAFEIO_CHSTAT at ho
      omega

theorem State.clearFaults_same (s : State) (l : List Nat) : (s.clearFaults l).fns = s.fns ∧ (s.clearFaults l).param = s.param := by
  induction l generalizing s with
  | nil =>
    rw [State.clearFaults_nil]
    exact ⟨rfl, rfl⟩
  | cons c l ih =>
    rw [State.clearFaults_cons]
    obtain ⟨hf, hp⟩ := ih (s.clearFault c)
    rw [hf, hp, State.clearFault]
    exact ⟨by rw [State.setFld_fns, State.setFld_fns], by rw [State.setFld_param, State.setFld_param]⟩

/-- The mask of the channels that a test chooses. -/
theorem bit_maskSum (p : Nat → Bool) {k : Nat} (hk : k < 4) : bit (((List.range 4).filter p).map (2 ^ ·)).sum k = p k := by
  have hlist : List.range 4 = [0, 1, 2, 3] := rfl
  rw [hlist]
  simp only [List.filter_cons, List.filter_nil]
  cases h0 : p 0 <;> cases h1 : p 1 <;> cases h2 : p 2 <;> cases h3 : p 3
  all_goals
    interval_cases k
    all_goals simp only [h0, h1, h2, h3]; rfl

section
variable {s : State} {e : SubEntry} (h : s.FromPf0 e)
include h

/-- A fault that the command names and that may be cleared. -/
def State.ackClears (s : State) (m k : Nat) : Prop := bit m k = true ∧ s.flag (R.SAFEIO_CHSTAT_FAULT k) = true ∧ 10000 ≤ SMap.get (fun _ => 0) s.sio.off k

theorem exec_sioAck_shows (hbuf : e.noBuf = true) (hargs : e.argsIn [(0, 1)] = true) (hm : e.arg 0 < 16) :
    ∃ t status info, exec (.sioAck e) s = .next t ∧ s.Completed t e status info ∧ (status = 0 ∨ status = 0x44) ∧
      (status = 0x44 ↔ ∃ k, k < 4 ∧ bit (e.arg 0) k = true ∧ s.flag (R.SAFEIO_CHSTAT_FAULT k) = true ∧ ¬ s.ackClears (e.arg 0) k) ∧
      (∀ k, k < 4 → (bit info k = true ↔ s.ackClears (e.arg 0) k)) ∧
      (∀ k, k < 4 → (s.ackClears (e.arg 0) k → t.flag (R.SAFEIO_CHSTAT_FAULT k) = false ∧ t.fld (R.SAFEIO_CHSTAT_FCODE k) = 0) ∧
        (¬ s.ackClears (e.arg 0) k → t.flag (R.SAFEIO_CHSTAT_FAULT k) = s.flag (R.SAFEIO_CHSTAT_FAULT k))) ∧
      t.param = s.param := by
  have hok : (e.noBuf && e.argsIn [(0, 1)] && Decidable.decide (e.arg 0 < 16)) = true := by
    rw [hbuf, hargs, decide_eq_true hm]
    rfl
  obtain ⟨faulty, hfaulty⟩ : ∃ l, l = (List.range 4).filter (fun c => bit (e.arg 0) c && s.flag (R.SAFEIO_CHSTAT_FAULT c)) := ⟨_, rfl⟩
  obtain ⟨good, hgood⟩ : ∃ l, l = faulty.filter s.ackOk := ⟨_, rfl⟩
  have hexec : exec (.sioAck e) s = .next (((s.taken e 0x2D).clearFaults good).done e (if good.length = faulty.length then 0 else 0x44)
      ((good.map (2 ^ ·)).sum)) := by
    rw [hgood, hfaulty]
    exact exec_of_pf0 (c := .sioAck e) (scrub := false) h hok rfl
  have hone : good = (List.range 4).filter (fun c => s.ackOk c && (bit (e.arg 0) c && s.flag (R.SAFEIO_CHSTAT_FAULT c))) := by
    rw [hgood, hfaulty, List.filter_filter]
  have hclears (k : Nat) : (s.ackOk k && (bit (e.arg 0) k && s.flag (R.SAFEIO_CHSTAT_FAULT k))) = true ↔ s.ackClears (e.arg 0) k := by
    unfold State.ackClears State.ackOk
    rw [Bool.and_eq_true, Bool.and_eq_true, decide_eq_true_iff]
    tauto
  have hmem (k : Nat) (hk : k < 4) : k ∈ good ↔ s.ackClears (e.arg 0) k := by
    rw [hone, List.mem_filter, List.mem_range, hclears]
    exact and_iff_right hk
  obtain ⟨hfns, hparam⟩ := (s.taken e 0x2D).clearFaults_same good
  have hshows := (s.taken e 0x2D).clearFaults_shows good
  have htaken := s.taken_sqHead e 0x2D
  generalize (s.taken e 0x2D).clearFaults good = u at *
  have hhead : (u.fn e.fn).sqHead = ((s.fn e.fn).sqHead + 1) % s.sqSize e.fn := by
    rw [State.fn, hfns, ← State.fn]
    exact htaken
  refine ⟨_, _, _, hexec, State.completed_done hhead _ _, ?_, ?_, fun k hk => ?_, fun k hk => ⟨fun hc => ?_, fun hn => ?_⟩, ?_⟩
  · split_ifs
    · exact .inl rfl
    · exact .inr rfl
  · have hall : good.length = faulty.length ↔ ∀ k ∈ faulty, s.ackOk k = true := by
      rw [hgood]
      exact List.length_filter_eq_length_iff
    have hf (k : Nat) : k ∈ faulty ↔ k < 4 ∧ bit (e.arg 0) k = true ∧ s.flag (R.SAFEIO_CHSTAT_FAULT k) = true := by
      rw [hfaulty, List.mem_filter, List.mem_range, Bool.and_eq_true]
    by_cases hl : good.length = faulty.length
    · rw [if_pos hl]
      refine ⟨fun hx => absurd hx (by decide), fun ⟨k, hk, hb, hfl, hno⟩ => ?_⟩
      refine absurd ((hclears k).1 ?_) hno
      rw [hall.1 hl k ((hf k).2 ⟨hk, hb, hfl⟩), hb, hfl]
      rfl
    · rw [if_neg hl]
      refine ⟨fun _ => ?_, fun _ => rfl⟩
      rw [hall] at hl
      push Not at hl
      obtain ⟨k, hk, hno⟩ := hl
      obtain ⟨hk4, hb, hfl⟩ := (hf k).1 hk
      refine ⟨k, hk4, hb, hfl, fun hc => hno ?_⟩
      exact (Bool.and_eq_true_iff.1 ((hclears k).2 hc)).1
  · rw [hone, bit_maskSum _ hk, hclears]
  · obtain ⟨hfault, hcode⟩ := (hshows k).1 ((hmem k hk).2 hc)
    have hdone : (u.done e (if good.length = faulty.length then 0 else 0x44) ((good.map (2 ^ ·)).sum)).regs = u.regs := State.done_regs ..
    exact ⟨(State.flag_congr hdone _).trans hfault, (State.fld_congr hdone _).trans hcode⟩
  · have hreg := (hshows k).2 fun hk' => hn ((hmem k hk).1 hk')
    have hdone : (u.done e (if good.length = faulty.length then 0 else 0x44) ((good.map (2 ^ ·)).sum)).regs = u.regs := State.done_regs ..
    exact (State.flag_congr hdone _).trans (congrArg (fun x => (R.SAFEIO_CHSTAT_FAULT k).get x == 1) hreg)
  · rw [State.done_param, hparam, State.param_taken]

end

/-! ### The two timeouts (R608, R610), and the whole family (O56) -/

theorem exec_sioSessionTimeout (s : State) : let due := ∃ b op, s.param.session = some (b, op) ∧ b ≤ s.tb2
    (due → exec .sioSessionTimeout s = .next { s with param := { s.param with staged := none, session := none } }) ∧
    (¬ due → exec .sioSessionTimeout s = .next s) := by
  have hexec : exec .sioSessionTimeout s = execSioSessionTimeout s := rfl
  rw [hexec]
  unfold execSioSessionTimeout
  constructor
  · rintro ⟨b, op, hsome, hle⟩
    rw [hsome]
    exact congrArg Host.Outcome.next (if_pos hle)
  · intro hno
    cases hs : s.param.session with
    | none => rfl
    | some x => exact congrArg Host.Outcome.next (if_neg fun hle => hno ⟨x.1, x.2, hs, hle⟩)

theorem exec_lockoutEnd (s : State) :
    (s.param.lockUntil ≤ s.tb2 → exec .lockoutEnd s = .next { s with param := { s.param with lockUntil := 0 } }) ∧
    (s.tb2 < s.param.lockUntil → exec .lockoutEnd s = .next s) :=
  ⟨fun h => congrArg Host.Outcome.next (if_pos h), fun h => congrArg Host.Outcome.next (if_neg (Nat.not_le.2 h))⟩

/-- A refused password leaves what R610 says, field by field. -/
theorem State.SioWrong.shows {s : State} {e : SubEntry} {c : Instr} (h : s.SioWrong e c) :
    ∃ t, exec c s = .next t ∧ s.Completed t e 0x41 0 ∧ t.regs = s.regs ∧
      t.param.fails = s.param.fails + 1 ∧ t.param.set = s.param.set ∧ t.param.password = s.param.password ∧ t.param.session = s.param.session ∧
      (if s.param.locks = 0 ∧ s.param.fails + 1 < 3 then t.param.locks = 0 ∧ t.param.lockUntil = s.param.lockUntil
       else t.param.locks = s.param.locks + 1 ∧ t.param.lockUntil = s.tb2 + 1000000000 * min (60 * 2 ^ min s.param.locks 6) 3600) := by
  obtain ⟨t, hexec, hc, hr, hfail⟩ := h
  exact ⟨t, hexec, hc, hr, hfail.fails, hfail.set, hfail.password, hfail.session, hfail.locks⟩

/-- Settles O56: each command follows from what its own branch does, the lock-out and the session read as the rules state them. -/
theorem safeIoCommands : Obligations.SafeIoCommands := by
  unfold Obligations.SafeIoCommands
  refine ⟨fun e s h => ?_, fun s => ⟨exec_sioSessionTimeout s, exec_lockoutEnd s⟩⟩
  intro d p able locked open_ ends wrong right byte_ pwField
  have hable : able ↔ s.sioState = true := s.sioState_iff.symm
  have hlocked : locked ↔ s.lockedOut = true := s.lockedOut_iff.symm
  have hopen : open_ ↔ s.sioOpen = true := s.sioOpen_iff.symm
  have hright (pw : List Byte) : right pw ↔ s.pwMatches pw = true := by
    dsimp only [right, p]
    unfold State.pwMatches
    cases s.param.password with
    | none => simp
    | some x => exact beq_iff_eq.symm
  simp only [hable, hlocked, hopen, hright]
  refine ⟨?_, ?_, ?_, ?_, ?_, ?_⟩
  · intro hbuf hargs hz ho hn h8 h0
    have hz' := (zerosAt_iff d 2 14).2 hz
    have ho' := (pwOk_iff d 32 (leAt d 0 1)).2 ho
    have hn' := (pwOk_iff d 96 (leAt d 1 1)).2 hn
    obtain ⟨hstate, hlock, hwrong⟩ := exec_sioPassword_refused h hbuf hargs hz' ho' hn' h8 h0
    exact ⟨hstate, hlock, fun hs hl hp => (hwrong hs hl hp).shows, exec_sioPassword_set h hbuf hargs hz' ho' hn' h8 h0⟩
  · intro hbuf hargs hz ho h8
    obtain ⟨hstate, hnone, hlock, hbusy, hwrong, hgood⟩ := exec_sioParamBegin_shows h hbuf hargs ((zerosAt_iff d 1 15).2 hz)
      ((pwOk_iff d 32 (leAt d 0 1)).2 ho) h8
    exact ⟨hstate, hnone, hlock, hbusy, fun hs hp hl hb hw => (hwrong hs hp hl hb hw).shows, hgood⟩
  · exact exec_sioParamWrite_shows h
  · exact exec_sioParamCommit_shows h
  · exact exec_sioParamAbort_shows h
  · exact exec_sioAck_shows h

end Sys2Proof.Machine
end

section
-- One proof after another: what waits for another costs the check memory.
set_option Elab.async false
/-! SUPPORT. The scan exchange and the tests of the safe inputs and outputs (O45) -/
namespace Sys2Proof.Machine

/-! ### Steps of a scan (O45) -/

/-- Two fields without a common bit. -/
def Fld.Apart (f g : Fld) : Prop := f.lo + f.w ≤ g.lo ∨ g.lo + g.w ≤ f.lo ∨ f.off ≠ g.off

theorem Fld.Apart.ofBits {f g : Fld} (h : (Nat.ble (f.lo + f.w) g.lo || Nat.ble (g.lo + g.w) f.lo) = true) : f.Apart g :=
  (Bool.or_eq_true_iff.1 h).elim (fun h => .inl (Nat.le_of_ble_eq_true h)) fun h => .inr (.inl (Nat.le_of_ble_eq_true h))

theorem Fld.Apart.ofOff {f g : Fld} (h : f.off ≠ g.off) : f.Apart g := .inr (.inr h)

/-- A part of a scan: it writes some fields, and beside them only what the scan and the outputs hold. -/
structure State.Scan (F : Set Fld) (s t : State) : Prop where
  fld : ∀ g, (∀ f ∈ F, f.Apart g) → t.fld g = s.fld g
  shape : ∃ r q p, t = { s with regs := r, sio := q, pins := p }

namespace State.Scan
variable {F : Set Fld} {s t u : State}

theorem refl : State.Scan F s s := ⟨fun _ _ => rfl, _, _, _, rfl⟩

theorem trans (h : State.Scan F s t) (k : State.Scan F t u) : State.Scan F s u := by
  obtain ⟨hf, r, q, p, rfl⟩ := h
  obtain ⟨kf, r', q', p', rfl⟩ := k
  exact ⟨fun g hg => (kf g hg).trans (hf g hg), r', q', p', rfl⟩

theorem mono {G : Set Fld} (hFG : F ⊆ G) (h : State.Scan F s t) : State.Scan G s t := ⟨fun g hg => h.fld g fun f hf => hg f (hFG hf), h.shape⟩

theorem setFld (h : State.Scan F s t) (f : Fld) (hw : Nat.ble (f.lo + f.w) 64 = true) (hf : f ∈ F) (v : Nat) : State.Scan F s (t.setFld f v) := by
  obtain ⟨hfld, r, q, p, rfl⟩ := h
  refine ⟨fun g hg => Eq.trans ?_ (hfld g hg), _, q, p, rfl⟩
  rcases hg f hf with hlo | hhi | hoff
  · exact State.fld_setFld_apart _ _ _ _ hw (Bool.or_eq_true_iff.2 (.inl (Nat.ble_eq_true_of_le hlo)))
  · exact State.fld_setFld_apart _ _ _ _ hw (Bool.or_eq_true_iff.2 (.inr (Nat.ble_eq_true_of_le hhi)))
  · exact State.fld_setFld_off _ _ _ _ (Ne.symm hoff)

theorem satInc (h : State.Scan F s t) (f : Fld) (hw : Nat.ble (f.lo + f.w) 64 = true) (hf : f ∈ F) : State.Scan F s (t.satInc f) := h.setFld f hw hf _

theorem sio (h : State.Scan F s t) (q : Sio) : State.Scan F s { t with sio := q } := by
  obtain ⟨hfld, r, _, p, rfl⟩ := h
  exact ⟨fun g hg => hfld g hg, r, q, p, rfl⟩

theorem pins (h : State.Scan F s t) (p : Pins) : State.Scan F s { t with pins := p } := by
  obtain ⟨hfld, r, q, _, rfl⟩ := h
  exact ⟨fun g hg => hfld g hg, r, q, p, rfl⟩

theorem flag (h : State.Scan F s t) {g : Fld} (hg : ∀ f ∈ F, f.Apart g) : t.flag g = s.flag g := congrArg (· == 1) (h.fld g hg)

theorem same (h : State.Scan F s t) : t.param = s.param ∧ t.mem = s.mem ∧ t.cores = s.cores ∧ t.jobs = s.jobs ∧ t.reeve = s.reeve ∧ t.dev = s.dev := by
  obtain ⟨-, r, q, p, rfl⟩ := h
  exact ⟨rfl, rfl, rfl, rfl, rfl, rfl⟩

theorem iter {g : Nat → State → State} (hg : ∀ k u, State.Scan F u (g k u)) (n : Nat) : State.Scan F s (s.iter n g) := by
  induction n with
  | zero => exact refl
  | succ n ih =>
    rw [State.iter_succ]
    exact ih.trans (hg n _)

end State.Scan

/-- What one of a row of steps does holds at the end, when the others keep what it reads and what it leaves. -/
theorem State.iter_at {g : Nat → State → State} {P Q : State → Prop} {c n : Nat} (hc : c < n) (hpre : ∀ k u, k ≠ c → P u → P (g k u))
    (hat : ∀ u, P u → Q (g c u)) (hpost : ∀ k u, k ≠ c → Q u → Q (g k u)) {s : State} (hs : P s) : Q (s.iter n g) := by
  have hbefore : ∀ m ≤ c, P (s.iter m g) := by
    intro m
    induction m with
    | zero => exact fun _ => hs
    | succ m ih =>
      intro hm
      rw [State.iter_succ]
      exact hpre m _ (by omega) (ih (by omega))
  induction n with
  | zero => omega
  | succ n ih =>
    rw [State.iter_succ]
    by_cases hn : n = c
    · rw [hn]
      exact hat _ (hbefore c (le_refl c))
    · exact hpost n _ hn (ih (by omega))

/-- What every step of a row keeps. -/
theorem State.iter_keeps {g : Nat → State → State} {P : State → Prop} (hg : ∀ k u, P u → P (g k u)) {s : State} (hs : P s) (n : Nat) : P (s.iter n g) := by
  induction n with
  | zero => exact hs
  | succ n ih =>
    rw [State.iter_succ]
    exact hg n _ ih

/-- The sum of the powers of two that a test chooses. -/
theorem bit_maskOf (p : Nat → Bool) (n k : Nat) : bit (((List.range n).map (fun i => if p i then 2 ^ i else 0)).sum) k = (decide (k < n) && p k) := by
  have hsum : ∀ n, ((List.range n).map (fun i => if p i then 2 ^ i else 0)).sum < 2 ^ n ∧
      bit (((List.range n).map (fun i => if p i then 2 ^ i else 0)).sum) k = (decide (k < n) && p k) := by
    intro n
    induction n with
    | zero => simp [bit]
    | succ n ih =>
      obtain ⟨hlt, hbit⟩ := ih
      rw [List.range_succ, List.map_append, List.sum_append]
      simp only [List.map_cons, List.map_nil, List.sum_cons, List.sum_nil, Nat.add_zero]
      generalize ((List.range n).map (fun i => if p i then 2 ^ i else 0)).sum = x at *
      have hpow : 2 ^ (n + 1) = 2 ^ n + 2 ^ n := by ring
      cases hp : p n with
      | false =>
        simp only [Bool.false_eq_true, if_false, Nat.add_zero]
        refine ⟨by omega, ?_⟩
        rw [hbit]
        rcases Nat.lt_trichotomy k n with h | rfl | h
        · simp [h, Nat.lt_succ_of_lt h]
        · simp [hp]
        · simp [show ¬ k < n by omega, show ¬ k < n + 1 by omega]
      | true =>
        simp only [if_true]
        refine ⟨by omega, ?_⟩
        rw [Nat.add_comm, bit_eq_testBit]
        rw [bit_eq_testBit] at hbit
        rcases Nat.lt_trichotomy k n with h | rfl | h
        · rw [Nat.testBit_two_pow_add_gt h, hbit]
          simp [h, Nat.lt_succ_of_lt h]
        · rw [Nat.testBit_two_pow_add_eq, Nat.testBit_lt_two_pow hlt]
          simp [hp]
        · rw [Nat.testBit_lt_two_pow (lt_of_lt_of_le (show 2 ^ n + x < 2 ^ (n + 1) by omega) (Nat.pow_le_pow_right (by decide) (by omega)))]
          simp [show ¬ k < n + 1 by omega]
  exact (hsum n).2

/-- A bit put to a level. -/
theorem bit_put (x i : Nat) (on : Bool) (j : Nat) : bit (if on then setBit x i else clrBit x i) j = if j = i then on else bit x j := by
  cases on with
  | true =>
    rw [if_pos rfl, bit_setBit]
    split_ifs with h <;> simp [h]
  | false =>
    rw [if_neg (by decide), bit_clrBit]
    split_ifs with h <;> simp [h]

/-! ### The strobe: readbacks (R601) -/

/-- A readback marked wrong or right at a strobe. -/
def State.markBad (s : State) (b : Nat) (wrong : Bool) : State :=
  { s with sio := { s.sio with bad := if wrong then setBit s.sio.bad b else clrBit s.sio.bad b } }

/-- An output fault of a channel. -/
def State.outFault (s : State) (c code : Nat) : State := (s.setFld (R.SAFEIO_CHSTAT_FAULT c) 1).setFld (R.SAFEIO_CHSTAT_FCODE c) code

/-- One switch's readback against its drive (R601). -/
def State.lookSwitch (s : State) (c b : Nat) (on drv : Bool) (code : Nat) : State :=
  if !bit s.sio.fresh c && on != drv && bit s.sio.bad b && !s.flag (R.SAFEIO_CHSTAT_FAULT c) then
    (s.markBad b (!bit s.sio.fresh c && on != drv)).outFault c code
  else s.markBad b (!bit s.sio.fresh c && on != drv)

/-- The strobes of a channel with both readbacks off. -/
def State.countOff (s : State) (c : Nat) (on : Prop) [Decidable on] : State :=
  { s with sio := { s.sio with off := SMap.set (fun _ => 0) s.sio.off c (if on then 0 else SMap.get (fun _ => 0) s.sio.off c + 1) } }

/-- The levels of both readbacks shown and the strobes without one counted. -/
def State.showReadback (s : State) (c : Nat) : State :=
  ((s.setFld (R.SAFEIO_CHSTAT_RBH c) (if bit (s.sio.rawA / 65536) c then 1 else 0)).setFld (R.SAFEIO_CHSTAT_RBL c)
    (if bit (s.sio.rawA / 65536) (4 + c) then 1 else 0)).countOff c (bit (s.sio.rawA / 65536) c ∨ bit (s.sio.rawA / 65536) (4 + c))

theorem State.checkReadback_eq (s : State) (c : Nat) : s.checkReadback c =
    (((s.showReadback c).lookSwitch c c (bit (s.sio.rawA / 65536) c) ((s.showReadback c).flag (R.SAFEIO_CHSTAT_HS_ON c)) 1)).lookSwitch c (4 + c)
      (bit (s.sio.rawA / 65536) (4 + c))
      (((s.showReadback c).lookSwitch c c (bit (s.sio.rawA / 65536) c) ((s.showReadback c).flag (R.SAFEIO_CHSTAT_HS_ON c)) 1).flag
        (R.SAFEIO_CHSTAT_LS_ON c)) 2 := by
  unfold State.checkReadback
  rfl

/-- The fields that a readback check writes. -/
def readbackFlds (c : Nat) : Set Fld := {R.SAFEIO_CHSTAT_RBH c, R.SAFEIO_CHSTAT_RBL c, R.SAFEIO_CHSTAT_FAULT c, R.SAFEIO_CHSTAT_FCODE c}

theorem State.markBad_scan (s : State) (b : Nat) (w : Bool) (F : Set Fld) : State.Scan F s (s.markBad b w) := State.Scan.refl.sio _

theorem State.lookSwitch_scan (s : State) (c b : Nat) (on drv : Bool) (code : Nat) : State.Scan (readbackFlds c) s (s.lookSwitch c b on drv code) := by
  unfold State.lookSwitch
  have h := s.markBad_scan b (!bit s.sio.fresh c && on != drv) (readbackFlds c)
  split_ifs
  · exact (h.setFld (R.SAFEIO_CHSTAT_FAULT c) rfl (by simp [readbackFlds]) 1).setFld (R.SAFEIO_CHSTAT_FCODE c) rfl (by simp [readbackFlds]) code
  · exact h

theorem State.showReadback_scan (s : State) (c : Nat) : State.Scan (readbackFlds c) s (s.showReadback c) :=
  (((State.Scan.refl (s := s)).setFld (R.SAFEIO_CHSTAT_RBH c) rfl (by simp [readbackFlds]) _).setFld (R.SAFEIO_CHSTAT_RBL c) rfl
    (by simp [readbackFlds]) _).sio _

theorem State.checkReadback_scan (s : State) (c : Nat) : State.Scan (readbackFlds c) s (s.checkReadback c) := by
  rw [State.checkReadback_eq]
  exact ((s.showReadback_scan c).trans (State.lookSwitch_scan ..)).trans (State.lookSwitch_scan ..)

/-- A readback check of channel `c` keeps what the scan holds but for the counts of OFF and its own two marks. -/
structure State.ReadbackKept (c : Nat) (s t : State) : Prop where
  bad : ∀ j, j ≠ c → j ≠ 4 + c → bit t.sio.bad j = bit s.sio.bad j
  fresh : t.sio.fresh = s.sio.fresh
  rawA : t.sio.rawA = s.sio.rawA
  run : t.sio.run = s.sio.run
  permit : t.sio.permit = s.sio.permit
  pins : t.pins = s.pins

theorem State.ReadbackKept.trans {c : Nat} {s t u : State} (h : State.ReadbackKept c s t) (k : State.ReadbackKept c t u) : State.ReadbackKept c s u :=
  ⟨fun j hj hj' => (k.bad j hj hj').trans (h.bad j hj hj'), k.fresh.trans h.fresh, k.rawA.trans h.rawA, k.run.trans h.run,
    k.permit.trans h.permit, k.pins.trans h.pins⟩

theorem State.lookSwitch_kept (s : State) {c b : Nat} (hb : b = c ∨ b = 4 + c) (on drv : Bool) (code : Nat) :
    State.ReadbackKept c s (s.lookSwitch c b on drv code) := by
  have hmark (w : Bool) : State.ReadbackKept c s (s.markBad b w) := by
    refine ⟨fun j hj hj' => ?_, rfl, rfl, rfl, rfl, rfl⟩
    refine (bit_put s.sio.bad b w j).trans (if_neg ?_)
    rintro rfl
    exact hb.elim hj hj'
  unfold State.lookSwitch
  split_ifs
  · exact (hmark _).trans ⟨fun _ _ _ => rfl, rfl, rfl, rfl, rfl, rfl⟩
  · exact hmark _

theorem State.checkReadback_kept (s : State) (c : Nat) : State.ReadbackKept c s (s.checkReadback c) := by
  rw [State.checkReadback_eq]
  have hshow : State.ReadbackKept c s (s.showReadback c) := ⟨fun _ _ _ => rfl, rfl, rfl, rfl, rfl, rfl⟩
  exact (hshow.trans (State.lookSwitch_kept _ (.inl rfl) ..)).trans (State.lookSwitch_kept _ (.inr rfl) ..)

theorem State.outFault_shows (s : State) (c : Nat) {code : Nat} (hcode : code < 4) :
    (s.outFault c code).flag (R.SAFEIO_CHSTAT_FAULT c) = true ∧ (s.outFault c code).fld (R.SAFEIO_CHSTAT_FCODE c) = code := by
  unfold State.outFault
  refine ⟨?_, ?_⟩
  · rw [State.flag, State.fld_setFld_apart _ _ _ _ rfl rfl, State.fld_setFld_here _ _ _ rfl]
    rfl
  · rw [State.fld_setFld_here _ _ _ rfl]
    exact Nat.mod_eq_of_lt hcode

theorem State.lookSwitch_second {s : State} {c b code : Nat} {on drv : Bool} (hfresh : bit s.sio.fresh c = false) (hbad : bit s.sio.bad b = true)
    (hok : s.flag (R.SAFEIO_CHSTAT_FAULT c) = false) (hwrong : on ≠ drv) : s.lookSwitch c b on drv code = (s.markBad b true).outFault c code := by
  have hne : (on != drv) = true := bne_iff_ne.2 hwrong
  unfold State.lookSwitch
  rw [hfresh, hbad, hok, hne]
  rfl

theorem State.lookSwitch_faulted {s : State} {c b code : Nat} {on drv : Bool} (h : s.flag (R.SAFEIO_CHSTAT_FAULT c) = true) :
    s.lookSwitch c b on drv code = s.markBad b (!bit s.sio.fresh c && on != drv) := by
  unfold State.lookSwitch
  refine if_neg ?_
  rw [h]
  simp

/-- The second wrong readback of the high side in a row is an output fault (R601). -/
theorem State.checkReadback_faults {s : State} {c : Nat} (hfresh : bit s.sio.fresh c = false) (hbad : bit s.sio.bad c = true)
    (hok : s.flag (R.SAFEIO_CHSTAT_FAULT c) = false) (hwrong : bit (s.sio.rawA / 65536) c ≠ s.flag (R.SAFEIO_CHSTAT_HS_ON c)) :
    (s.checkReadback c).flag (R.SAFEIO_CHSTAT_FAULT c) = true ∧ (s.checkReadback c).fld (R.SAFEIO_CHSTAT_FCODE c) = 1 := by
  have hscan : State.Scan {R.SAFEIO_CHSTAT_RBH c, R.SAFEIO_CHSTAT_RBL c} s (s.showReadback c) :=
    ((State.Scan.refl.setFld (R.SAFEIO_CHSTAT_RBH c) rfl (by simp) _).setFld (R.SAFEIO_CHSTAT_RBL c) rfl (by simp) _).sio _
  have hhs : (s.showReadback c).flag (R.SAFEIO_CHSTAT_HS_ON c) = s.flag (R.SAFEIO_CHSTAT_HS_ON c) := by
    refine hscan.flag ?_
    simp only [Set.mem_insert_iff, Set.mem_singleton_iff, forall_eq_or_imp, forall_eq]
    exact ⟨.ofBits rfl, .ofBits rfl⟩
  have hfl : (s.showReadback c).flag (R.SAFEIO_CHSTAT_FAULT c) = s.flag (R.SAFEIO_CHSTAT_FAULT c) := by
    refine hscan.flag ?_
    simp only [Set.mem_insert_iff, Set.mem_singleton_iff, forall_eq_or_imp, forall_eq]
    exact ⟨.ofBits rfl, .ofBits rfl⟩
  rw [← hhs] at hwrong
  have hfirst := State.lookSwitch_second (code := 1) (s := s.showReadback c) hfresh hbad (hfl.trans hok) hwrong
  rw [State.checkReadback_eq, hfirst]
  obtain ⟨hfault, hcode⟩ := ((s.showReadback c).markBad c true).outFault_shows c (code := 1) (by decide)
  generalize ((s.showReadback c).markBad c true).outFault c 1 = u at *
  rw [State.lookSwitch_faulted hfault]
  exact ⟨hfault, hcode⟩

/-! ### The strobe: switches (R596, R603, R604) -/

/-- What a channel's switches are driven by outside their tests. -/
def State.stoCmd (s : State) (c : Nat) : Bool := s.flag (R.SAFEIO_CHSTAT_CMD c) && s.serving && s.paramOk

/-- An output test that falls in a scan without a command is skipped and counted. -/
def State.skipTest (s : State) (n c : Nat) : State :=
  if (s.otDue n c 0 ∨ s.otDue n c 1) ∧ !s.stoCmd c then s.satInc (R.SAFEIO_CHSTAT_OTSKIP c) else s

/-- The level of the low side: kept in grace. -/
def State.lowSide (s : State) (c : Nat) (on : Bool) : Bool := if s.flag R.DEVICE_STATE_GRACE then s.flag (R.SAFEIO_CHSTAT_LS_ON c) else on

/-- The switches of a channel shown in CHSTAT. -/
def State.showSwitches (s : State) (c : Nat) (hs ls testing : Bool) : State :=
  ((s.setFld (R.SAFEIO_CHSTAT_HS_ON c) (if hs then 1 else 0)).setFld (R.SAFEIO_CHSTAT_LS_ON c) (if ls then 1 else 0)).setFld
    (R.SAFEIO_CHSTAT_TESTING c) (if testing then 1 else 0)

/-- A bit of a number at a level. -/
def putBit (x i : Nat) (on : Bool) : Nat := if on then setBit x i else clrBit x i

/-- The balls of a channel's switches driven. -/
def State.drivePins (s : State) (c : Nat) (hs ls : Bool) : State :=
  { s with pins := { s.pins with stoHs := putBit s.pins.stoHs c hs, stoLs := putBit s.pins.stoLs c ls } }

/-- The tests and changes that the scan holds for a channel. -/
def State.markTest (s : State) (c : Nat) (tH tL change : Bool) : State :=
  { s with sio := { s.sio with test := putBit (putBit s.sio.test c tH) (4 + c) tL, fresh := putBit s.sio.fresh c change } }

theorem State.applySto_eq (s : State) (n c : Nat) : s.applySto n c =
    (let u := s.skipTest n c
     let hs := s.stoCmd c && !s.otDue n c 0
     let ls := u.lowSide c (s.stoCmd c && !s.otDue n c 1)
     let v := (u.showSwitches c hs ls (s.stoCmd c && (s.otDue n c 0 || s.otDue n c 1))).markTest c (s.stoCmd c && s.otDue n c 0)
       (s.stoCmd c && s.otDue n c 1) ((u.flag (R.SAFEIO_CHSTAT_HS_ON c), u.flag (R.SAFEIO_CHSTAT_LS_ON c)) != (hs, ls))
     let w := v.drivePins c hs ls
     w.setFld R.SAFEIO_STATUS_DRIVE (putBit (w.fld R.SAFEIO_STATUS_DRIVE) c (hs && ls))) := by
  unfold State.applySto
  rfl

/-- The fields that a channel's switches write. -/
def switchFlds (c : Nat) : Set Fld := {R.SAFEIO_CHSTAT_OTSKIP c, R.SAFEIO_CHSTAT_HS_ON c, R.SAFEIO_CHSTAT_LS_ON c, R.SAFEIO_CHSTAT_TESTING c, R.SAFEIO_STATUS_DRIVE}

theorem State.skipTest_scan (s : State) (n c : Nat) : State.Scan {R.SAFEIO_CHSTAT_OTSKIP c} s (s.skipTest n c) ∧ (s.skipTest n c).pins = s.pins ∧
    (s.skipTest n c).sio = s.sio := by
  unfold State.skipTest
  split_ifs
  · exact ⟨State.Scan.refl.satInc _ rfl rfl, State.setFld_pins .., State.setFld_sio ..⟩
  · exact ⟨State.Scan.refl, rfl, rfl⟩

theorem State.showSwitches_scan (s : State) (c : Nat) (hs ls testing : Bool) : State.Scan (switchFlds c) s (s.showSwitches c hs ls testing) ∧
    (s.showSwitches c hs ls testing).pins = s.pins ∧ (s.showSwitches c hs ls testing).sio = s.sio := by
  unfold State.showSwitches
  refine ⟨?_, by rw [State.setFld_pins, State.setFld_pins, State.setFld_pins], by rw [State.setFld_sio, State.setFld_sio, State.setFld_sio]⟩
  exact ((State.Scan.refl.setFld (R.SAFEIO_CHSTAT_HS_ON c) rfl (by simp [switchFlds]) _).setFld (R.SAFEIO_CHSTAT_LS_ON c) rfl
    (by simp [switchFlds]) _).setFld (R.SAFEIO_CHSTAT_TESTING c) rfl (by simp [switchFlds]) _

theorem State.markTest_shows (s : State) (c : Nat) (tH tL change : Bool) (F : Set Fld) : State.Scan F s (s.markTest c tH tL change) ∧
    (s.markTest c tH tL change).pins = s.pins ∧ (s.markTest c tH tL change).sio.run = s.sio.run ∧ (s.markTest c tH tL change).sio.permit = s.sio.permit :=
  ⟨State.Scan.refl.sio _, rfl, rfl, rfl⟩

theorem State.drivePins_shows (s : State) (c : Nat) (hs ls : Bool) (F : Set Fld) : State.Scan F s (s.drivePins c hs ls) ∧
    (∀ k, bit (s.drivePins c hs ls).pins.stoHs k = if k = c then hs else bit s.pins.stoHs k) ∧
    (∀ k, bit (s.drivePins c hs ls).pins.stoLs k = if k = c then ls else bit s.pins.stoLs k) ∧ (s.drivePins c hs ls).sio = s.sio :=
  ⟨State.Scan.refl.pins _, fun _ => bit_put .., fun _ => bit_put .., rfl⟩

theorem State.skipTest_lowSide (s : State) (n c : Nat) (b : Bool) : (s.skipTest n c).lowSide c b = s.lowSide c b := by
  have hskip := (s.skipTest_scan n c).1
  have hgrace : (s.skipTest n c).flag R.DEVICE_STATE_GRACE = s.flag R.DEVICE_STATE_GRACE := by
    refine hskip.flag ?_
    simp only [Set.mem_singleton_iff, forall_eq]
    refine .ofOff ?_
    show 0x20040 + c * 0x4 ≠ R.DEVICE_STATE
    unfold R.DEVICE_STATE
    omega
  have hls : (s.skipTest n c).flag (R.SAFEIO_CHSTAT_LS_ON c) = s.flag (R.SAFEIO_CHSTAT_LS_ON c) := by
    refine hskip.flag ?_
    simp only [Set.mem_singleton_iff, forall_eq]
    exact .ofBits rfl
  unfold State.lowSide
  rw [hgrace, hls]

theorem State.applySto_shows (s : State) (n c : Nat) : State.Scan (switchFlds c) s (s.applySto n c) ∧
    (∀ k, bit (s.applySto n c).pins.stoHs k = if k = c then s.stoCmd c && !s.otDue n c 0 else bit s.pins.stoHs k) ∧
    (∀ k, bit (s.applySto n c).pins.stoLs k = if k = c then s.lowSide c (s.stoCmd c && !s.otDue n c 1) else bit s.pins.stoLs k) ∧
    (s.applySto n c).sio.run = s.sio.run ∧ (s.applySto n c).sio.permit = s.sio.permit := by
  obtain ⟨hskip, hpins, hsio⟩ := s.skipTest_scan n c
  rw [State.applySto_eq]
  dsimp only
  rw [s.skipTest_lowSide]
  have hfirst : State.Scan (switchFlds c) s (s.skipTest n c) := hskip.mono (by simp [switchFlds])
  generalize s.skipTest n c = u at *
  rw [← hpins, ← hsio]
  generalize (s.stoCmd c && !s.otDue n c 0) = hs
  generalize s.lowSide c (s.stoCmd c && !s.otDue n c 1) = ls
  obtain ⟨hv, hvp, hvs⟩ := u.showSwitches_scan c hs ls (s.stoCmd c && (s.otDue n c 0 || s.otDue n c 1))
  generalize u.showSwitches c hs ls (s.stoCmd c && (s.otDue n c 0 || s.otDue n c 1)) = v at *
  obtain ⟨hm, hmp, hmr, hmq⟩ := v.markTest_shows c (s.stoCmd c && s.otDue n c 0) (s.stoCmd c && s.otDue n c 1)
    ((u.flag (R.SAFEIO_CHSTAT_HS_ON c), u.flag (R.SAFEIO_CHSTAT_LS_ON c)) != (hs, ls)) (switchFlds c)
  generalize v.markTest c (s.stoCmd c && s.otDue n c 0) (s.stoCmd c && s.otDue n c 1)
    ((u.flag (R.SAFEIO_CHSTAT_HS_ON c), u.flag (R.SAFEIO_CHSTAT_LS_ON c)) != (hs, ls)) = w at *
  obtain ⟨hd, hhs, hls, hds⟩ := w.drivePins_shows c hs ls (switchFlds c)
  generalize w.drivePins c hs ls = x at *
  refine ⟨(((hfirst.trans hv).trans hm).trans hd).setFld R.SAFEIO_STATUS_DRIVE rfl (by simp [switchFlds]) _, fun k => ?_, fun k => ?_, ?_, ?_⟩
  · rw [State.setFld_pins, hhs, hmp, hvp]
  · rw [State.setFld_pins, hls, hmp, hvp]
  · rw [State.setFld_sio, hds, hmr, hvs]
  · rw [State.setFld_sio, hds, hmq, hvs]

/-! ### Which fields the two halves of a strobe leave -/

theorem readback_apart_low {g : Fld} (c : Nat) (h : g.off < 0x20040) : ∀ f ∈ readbackFlds c, f.Apart g := by
  have hoff : R.SAFEIO_CHSTAT c ≠ g.off := by unfold R.SAFEIO_CHSTAT; omega
  simp only [readbackFlds, Set.mem_insert_iff, Set.mem_singleton_iff, forall_eq_or_imp, forall_eq]
  exact ⟨.ofOff hoff, .ofOff hoff, .ofOff hoff, .ofOff hoff⟩

theorem readback_apart_other {g : Fld} {c k : Nat} (h : g.off = R.SAFEIO_CHSTAT c) (hk : k ≠ c) : ∀ f ∈ readbackFlds k, f.Apart g := by
  have hoff : R.SAFEIO_CHSTAT k ≠ g.off := by rw [h]; unfold R.SAFEIO_CHSTAT; omega
  simp only [readbackFlds, Set.mem_insert_iff, Set.mem_singleton_iff, forall_eq_or_imp, forall_eq]
  exact ⟨.ofOff hoff, .ofOff hoff, .ofOff hoff, .ofOff hoff⟩

/-- The command and the switches' levels of any channel. -/
def driveFlds (c : Nat) : Set Fld := {R.SAFEIO_CHSTAT_CMD c, R.SAFEIO_CHSTAT_LS_ON c, R.SAFEIO_CHSTAT_HS_ON c}

theorem readback_apart_drive {g : Fld} {c : Nat} (h : g ∈ driveFlds c) (k : Nat) : ∀ f ∈ readbackFlds k, f.Apart g := by
  have hoff : g.off = R.SAFEIO_CHSTAT c := by rcases h with rfl | rfl | rfl <;> rfl
  by_cases hk : k = c
  · rw [hk]
    simp only [readbackFlds, Set.mem_insert_iff, Set.mem_singleton_iff, forall_eq_or_imp, forall_eq]
    rcases h with rfl | rfl | rfl <;> exact ⟨.ofBits rfl, .ofBits rfl, .ofBits rfl, .ofBits rfl⟩
  · exact readback_apart_other hoff hk

theorem switch_apart_low {g : Fld} (c : Nat) (h : g.off < 0x20040) (hd : R.SAFEIO_STATUS_DRIVE.Apart g) : ∀ f ∈ switchFlds c, f.Apart g := by
  have hoff : R.SAFEIO_CHSTAT c ≠ g.off := by unfold R.SAFEIO_CHSTAT; omega
  simp only [switchFlds, Set.mem_insert_iff, Set.mem_singleton_iff, forall_eq_or_imp, forall_eq]
  exact ⟨.ofOff hoff, .ofOff hoff, .ofOff hoff, .ofOff hoff, hd⟩

theorem switch_apart_other {g : Fld} {c k : Nat} (h : g.off = R.SAFEIO_CHSTAT c) (hk : k ≠ c) : ∀ f ∈ switchFlds k, f.Apart g := by
  have hoff : R.SAFEIO_CHSTAT k ≠ g.off := by rw [h]; unfold R.SAFEIO_CHSTAT; omega
  have hd : R.SAFEIO_STATUS ≠ g.off := by rw [h]; unfold R.SAFEIO_STATUS R.SAFEIO_CHSTAT; omega
  simp only [switchFlds, Set.mem_insert_iff, Set.mem_singleton_iff, forall_eq_or_imp, forall_eq]
  exact ⟨.ofOff hoff, .ofOff hoff, .ofOff hoff, .ofOff hoff, .ofOff hd⟩

theorem switch_apart_fault {g : Fld} {c : Nat} (h : g = R.SAFEIO_CHSTAT_FAULT c ∨ g = R.SAFEIO_CHSTAT_FCODE c) (k : Nat) : ∀ f ∈ switchFlds k, f.Apart g := by
  have hoff : g.off = R.SAFEIO_CHSTAT c := by rcases h with rfl | rfl <;> rfl
  by_cases hk : k = c
  · have hd : R.SAFEIO_STATUS ≠ R.SAFEIO_CHSTAT c := by unfold R.SAFEIO_STATUS R.SAFEIO_CHSTAT; omega
    rw [hk]
    simp only [switchFlds, Set.mem_insert_iff, Set.mem_singleton_iff, forall_eq_or_imp, forall_eq]
    rcases h with rfl | rfl <;> exact ⟨.ofBits rfl, .ofBits rfl, .ofBits rfl, .ofBits rfl, .ofOff hd⟩
  · exact switch_apart_other hoff hk

/-! ### Both halves of a strobe, over the four channels -/

/-- What drives the switches of channel `c` reads the same. -/
structure State.SameDrive (c : Nat) (s u : State) : Prop where
  param : u.param = s.param
  cmd : u.stoCmd c = s.stoCmd c
  low : ∀ b, u.lowSide c b = s.lowSide c b

theorem State.SameDrive.trans {c : Nat} {s t u : State} (h : State.SameDrive c s t) (k : State.SameDrive c t u) : State.SameDrive c s u :=
  ⟨k.param.trans h.param, k.cmd.trans h.cmd, fun b => (k.low b).trans (h.low b)⟩

theorem State.Scan.sameDrive {F : Set Fld} {s u : State} (h : State.Scan F s u) (c : Nat) (hdrive : ∀ g ∈ driveFlds c, ∀ f ∈ F, f.Apart g)
    (hst : ∀ f ∈ F, f.Apart R.DEVICE_STATE_STATE) (hgr : ∀ f ∈ F, f.Apart R.DEVICE_STATE_GRACE) (hok : ∀ f ∈ F, f.Apart R.SAFEIO_STATUS_PARAM_OK) :
    State.SameDrive c s u := by
  have hcmd := h.flag (hdrive (R.SAFEIO_CHSTAT_CMD c) (by simp [driveFlds]))
  have hls := h.flag (hdrive (R.SAFEIO_CHSTAT_LS_ON c) (by simp [driveFlds]))
  have hserv : u.serving = s.serving := congrArg (fun x => x == stSERVING || x == stDEGRADED) (h.fld _ hst)
  have hgrace := h.flag hgr
  have hparam : u.paramOk = s.paramOk := h.flag hok
  refine ⟨h.same.1, ?_, fun b => ?_⟩
  · rw [State.stoCmd, State.stoCmd, hcmd, hserv, hparam]
  · rw [State.lowSide, State.lowSide, hgrace, hls]

theorem State.checkReadback_sameDrive (s : State) (c k : Nat) : State.SameDrive c s (s.checkReadback k) :=
  (s.checkReadback_scan k).sameDrive c (fun _ hg => readback_apart_drive hg k) (readback_apart_low k (by decide)) (readback_apart_low k (by decide))
    (readback_apart_low k (by decide))

theorem State.applySto_sameDrive (s : State) (n : Nat) {c k : Nat} (hk : k ≠ c) : State.SameDrive c s (s.applySto n k) := by
  have hd (g : Fld) (h : g.off ≠ R.SAFEIO_STATUS) : R.SAFEIO_STATUS_DRIVE.Apart g := .ofOff h.symm
  refine (s.applySto_shows n k).1.sameDrive c (fun g hg => switch_apart_other ?_ hk) (switch_apart_low k (by decide) (hd _ (by decide)))
    (switch_apart_low k (by decide) (hd _ (by decide))) (switch_apart_low k (by decide) (.ofBits rfl))
  rcases hg with rfl | rfl | rfl <;> rfl

/-- The readbacks checked and the switches applied at the strobe of scan `n`. -/
def State.strobeSwitches (s : State) (n : Nat) : State := (s.iter 4 (fun c s => s.checkReadback c)).iter 4 (fun c s => s.applySto n c)

/-- What the strobe has set before the switches stays. -/
structure State.StrobeKept (s u : State) : Prop where
  scan : u.fld R.SAFETY_SCANSTAT_SCAN = s.fld R.SAFETY_SCANSTAT_SCAN
  shown : u.fld R.SAFEIO_RUN_PERMIT = s.fld R.SAFEIO_RUN_PERMIT
  mem : u.mem = s.mem
  run : u.sio.run = s.sio.run
  permit : u.sio.permit = s.sio.permit

theorem State.StrobeKept.checkReadback {s u : State} (h : State.StrobeKept s u) (k : Nat) : State.StrobeKept s (u.checkReadback k) := by
  have hs := u.checkReadback_scan k
  have hk := u.checkReadback_kept k
  exact ⟨(hs.fld _ (readback_apart_low k (by decide))).trans h.scan, (hs.fld _ (readback_apart_low k (by decide))).trans h.shown,
    hs.same.2.1.trans h.mem, hk.run.trans h.run, hk.permit.trans h.permit⟩

theorem State.StrobeKept.applySto {s u : State} (h : State.StrobeKept s u) (n k : Nat) : State.StrobeKept s (u.applySto n k) := by
  obtain ⟨hs, -, -, hrun, hpermit⟩ := u.applySto_shows n k
  exact ⟨(hs.fld _ (switch_apart_low k (by decide) (.ofOff (by decide)))).trans h.scan,
    (hs.fld _ (switch_apart_low k (by decide) (.ofOff (by decide)))).trans h.shown, hs.same.2.1.trans h.mem, hrun.trans h.run, hpermit.trans h.permit⟩

theorem State.strobeSwitches_keeps (s : State) (n : Nat) : State.StrobeKept s (s.strobeSwitches n) :=
  State.iter_keeps (fun k _ h => h.applySto n k) (State.iter_keeps (fun k _ h => h.checkReadback k) ⟨rfl, rfl, rfl, rfl, rfl⟩ 4) 4

theorem State.strobeSwitches_drives (s : State) (n : Nat) {c : Nat} (hc : c < 4) :
    bit (s.strobeSwitches n).pins.stoHs c = (s.stoCmd c && !s.otDue n c 0) ∧
    bit (s.strobeSwitches n).pins.stoLs c = s.lowSide c (s.stoCmd c && !s.otDue n c 1) := by
  have hread : State.SameDrive c s (s.iter 4 (fun c s => s.checkReadback c)) :=
    State.iter_keeps (P := State.SameDrive c s) (fun k u h => h.trans (u.checkReadback_sameDrive c k)) ⟨rfl, rfl, fun _ => rfl⟩ 4
  refine State.iter_at (P := State.SameDrive c s) (Q := fun u => bit u.pins.stoHs c = (s.stoCmd c && !s.otDue n c 0) ∧
    bit u.pins.stoLs c = s.lowSide c (s.stoCmd c && !s.otDue n c 1)) hc (fun k u hk h => h.trans (u.applySto_sameDrive n hk)) (fun u h => ?_)
    (fun k u hk h => ?_) hread
  · obtain ⟨-, hhs, hls, -⟩ := u.applySto_shows n c
    have hot (low : Nat) : u.otDue n c low = s.otDue n c low := by
      unfold State.otDue State.chCtl State.chOt State.pset
      rw [h.param]
    rw [hhs, hls, if_pos rfl, if_pos rfl, h.cmd, h.low, hot, hot]
    exact ⟨rfl, rfl⟩
  · obtain ⟨-, hhs, hls, -⟩ := u.applySto_shows n k
    rw [hhs, hls, if_neg (Ne.symm hk), if_neg (Ne.symm hk)]
    exact h

/-- The high side of a channel has been wrong once and is wrong again (R601). -/
structure State.FaultDue (c : Nat) (s : State) : Prop where
  fresh : bit s.sio.fresh c = false
  bad : bit s.sio.bad c = true
  ok : s.flag (R.SAFEIO_CHSTAT_FAULT c) = false
  wrong : bit (s.sio.rawA / 65536) c ≠ s.flag (R.SAFEIO_CHSTAT_HS_ON c)

/-- A channel shows the output fault of its high side. -/
structure State.HighFault (c : Nat) (s : State) : Prop where
  fault : s.flag (R.SAFEIO_CHSTAT_FAULT c) = true
  code : s.fld (R.SAFEIO_CHSTAT_FCODE c) = 1

theorem State.FaultDue.checkReadback {s : State} {c : Nat} (h : State.FaultDue c s) : State.HighFault c (s.checkReadback c) := by
  obtain ⟨hfault, hcode⟩ := State.checkReadback_faults h.fresh h.bad h.ok h.wrong
  exact ⟨hfault, hcode⟩

theorem State.FaultDue.checkReadback_other {s : State} {c k : Nat} (hc : c < 4) (hk : k ≠ c) (h : State.FaultDue c s) :
    State.FaultDue c (s.checkReadback k) := by
  have hscan := s.checkReadback_scan k
  have hkept := s.checkReadback_kept k
  have hfl := hscan.flag (readback_apart_other (g := R.SAFEIO_CHSTAT_FAULT c) rfl hk)
  have hhs := hscan.flag (readback_apart_drive (g := R.SAFEIO_CHSTAT_HS_ON c) (c := c) (by simp [driveFlds]) k)
  refine ⟨?_, ?_, hfl.trans h.ok, ?_⟩
  · rw [hkept.fresh]
    exact h.fresh
  · rw [hkept.bad c (Ne.symm hk) (by omega)]
    exact h.bad
  · rw [hkept.rawA, hhs]
    exact h.wrong

theorem State.HighFault.scan {F : Set Fld} {s t : State} {c : Nat} (h : State.HighFault c s) (hscan : State.Scan F s t)
    (hf : ∀ f ∈ F, f.Apart (R.SAFEIO_CHSTAT_FAULT c)) (hcode : ∀ f ∈ F, f.Apart (R.SAFEIO_CHSTAT_FCODE c)) : State.HighFault c t :=
  ⟨(hscan.flag hf).trans h.fault, (hscan.fld _ hcode).trans h.code⟩

theorem State.strobeSwitches_faults {s : State} (n : Nat) {c : Nat} (hc : c < 4) (h : State.FaultDue c s) : State.HighFault c (s.strobeSwitches n) := by
  have hread : State.HighFault c (s.iter 4 (fun c s => s.checkReadback c)) :=
    State.iter_at hc (fun k u hk hu => hu.checkReadback_other hc hk) (fun u hu => hu.checkReadback)
      (fun k u hk hu => hu.scan (u.checkReadback_scan k) (readback_apart_other rfl hk) (readback_apart_other rfl hk)) h
  exact State.iter_keeps (fun k u hu => hu.scan (u.applySto_shows n k).1 (switch_apart_fault (.inl rfl) k) (switch_apart_fault (.inr rfl) k)) hread 4

/-! ### SCAN_STROBE -/

/-- The scan counted and both channels' samples taken. -/
def State.sampled (s : State) (rawA rawB : BitVec 24) : State :=
  let s := s.wrapInc R.SAFETY_SCANSTAT_SCAN
  { s with sio := { s.sio with rawA := rawA.toNat, rawB := rawB.toNat, due := 3, missed := false } }

/-- RUN and PERMIT as the channels have announced them. -/
def State.announced (s : State) : State :=
  let s := { s with sio := { s.sio with run := s.fld R.SAFEIO_RUN_RUN, permit := s.permits } }
  (s.setFld R.SAFEIO_RUN_PERMIT s.permits).driveSitp

theorem exec_scanStrobe_eq {s : State} (hrun : s.reeve.running = true) (hlink : s.reeve.linkUp = true) (rawA rawB : BitVec 24) :
    exec (.scanStrobe rawA rawB) s = .next (if (s.sampled rawA rawB).st = stTRIPPED then s.sampled rawA rawB
      else (s.sampled rawA rawB).announced.strobeSwitches ((s.sampled rawA rawB).announced.fld R.SAFETY_SCANSTAT_SCAN)) := by
  have hexec : exec (.scanStrobe rawA rawB) s = .next (if !s.reeve.running || !s.reeve.linkUp then s else
      if (s.sampled rawA rawB).st = stTRIPPED then s.sampled rawA rawB
      else (s.sampled rawA rawB).announced.strobeSwitches ((s.sampled rawA rawB).announced.fld R.SAFETY_SCANSTAT_SCAN)) := rfl
  rw [hexec, hrun, hlink]
  exact congrArg Host.Outcome.next (if_neg (by decide))

theorem State.sampled_shows (s : State) (rawA rawB : BitVec 24) : State.Scan {R.SAFETY_SCANSTAT_SCAN} s (s.sampled rawA rawB) ∧
    (s.sampled rawA rawB).fld R.SAFETY_SCANSTAT_SCAN = (s.fld R.SAFETY_SCANSTAT_SCAN + 1) % 2 ^ 32 ∧ (s.sampled rawA rawB).pins = s.pins ∧
    (s.sampled rawA rawB).sio.rawA = rawA.toNat ∧ (s.sampled rawA rawB).sio.fresh = s.sio.fresh ∧ (s.sampled rawA rawB).sio.bad = s.sio.bad := by
  obtain ⟨u, hu⟩ : ∃ t, t = s.wrapInc R.SAFETY_SCANSTAT_SCAN := ⟨_, rfl⟩
  have hscan : State.Scan {R.SAFETY_SCANSTAT_SCAN} s u := by
    rw [hu]
    exact State.Scan.refl.setFld R.SAFETY_SCANSTAT_SCAN rfl (Set.mem_singleton _) _
  have hn : u.fld R.SAFETY_SCANSTAT_SCAN = (s.fld R.SAFETY_SCANSTAT_SCAN + 1) % 2 ^ 32 := by
    rw [hu]
    exact State.fld_setFld_here s R.SAFETY_SCANSTAT_SCAN _ rfl
  have hpins : u.pins = s.pins := by rw [hu, State.wrapInc, State.setFld_pins]
  have hsio : u.sio = s.sio := by rw [hu, State.wrapInc, State.setFld_sio]
  have hsam : s.sampled rawA rawB = { u with sio := { u.sio with rawA := rawA.toNat, rawB := rawB.toNat, due := 3, missed := false } } := by
    rw [hu]
    rfl
  rw [hsam, ← hn, ← hpins, ← hsio]
  exact ⟨hscan.sio _, rfl, rfl, rfl, rfl, rfl⟩

/-- PERMIT follows from the state of the device, the parameter set and the records. -/
theorem State.Scan.permits {F : Set Fld} {s t : State} (h : State.Scan F s t) (hst : ∀ f ∈ F, f.Apart R.DEVICE_STATE_STATE)
    (hinv : ∀ f ∈ F, f.Apart R.DEVICE_STATE_INVALID) : t.permits = s.permits := by
  have hserv : t.serving = s.serving := congrArg (fun x => x == stSERVING || x == stDEGRADED) (h.fld _ hst)
  have hflag := h.flag hinv
  obtain ⟨hparam, -, -, hjobs, -⟩ := h.same
  unfold State.permits State.permit State.chRoute State.chCtl State.chAge State.pset State.routeSt
  rw [hserv, hflag, hparam, hjobs]

theorem State.permits_lt (s : State) : s.permits < 16 := by
  have h (c : Nat) : (if s.permit c then 2 ^ c else 0) ≤ 2 ^ c := by
    split_ifs
    · exact le_refl _
    · exact Nat.zero_le _
  have h0 := h 0
  have h1 := h 1
  have h2 := h 2
  have h3 := h 3
  have hsum : s.permits = (if s.permit 0 then 2 ^ 0 else 0) + ((if s.permit 1 then 2 ^ 1 else 0) + ((if s.permit 2 then 2 ^ 2 else 0) +
    ((if s.permit 3 then 2 ^ 3 else 0) + 0))) := rfl
  omega

theorem State.announced_shows (s : State) : State.Scan {R.SAFEIO_RUN_PERMIT} s s.announced ∧ s.announced.fld R.SAFEIO_RUN_PERMIT = s.permits ∧
    s.announced.sio.run = s.fld R.SAFEIO_RUN_RUN ∧ s.announced.sio.permit = s.permits ∧ s.announced.sio.rawA = s.sio.rawA ∧
    s.announced.sio.fresh = s.sio.fresh ∧ s.announced.sio.bad = s.sio.bad := by
  obtain ⟨u, hu⟩ : ∃ t : State, t = { s with sio := { s.sio with run := s.fld R.SAFEIO_RUN_RUN, permit := s.permits } } := ⟨_, rfl⟩
  have hscan : State.Scan {R.SAFEIO_RUN_PERMIT} s u := by
    rw [hu]
    exact State.Scan.refl.sio _
  have hsio : u.sio.run = s.fld R.SAFEIO_RUN_RUN ∧ u.sio.permit = s.permits ∧ u.sio.rawA = s.sio.rawA ∧ u.sio.fresh = s.sio.fresh ∧ u.sio.bad = s.sio.bad := by
    rw [hu]
    exact ⟨rfl, rfl, rfl, rfl, rfl⟩
  have hpermits : u.permits = s.permits := by
    refine hscan.permits ?_ ?_
    · simp only [Set.mem_singleton_iff, forall_eq]
      exact .ofOff (by decide)
    · simp only [Set.mem_singleton_iff, forall_eq]
      exact .ofOff (by decide)
  have hann : s.announced = (u.setFld R.SAFEIO_RUN_PERMIT u.permits).driveSitp := by
    rw [hu]
    rfl
  rw [hann, State.driveSitp]
  refine ⟨(hscan.setFld R.SAFEIO_RUN_PERMIT rfl (Set.mem_singleton _) _).pins _, ?_, hsio⟩
  refine (State.fld_setFld_here u R.SAFEIO_RUN_PERMIT _ rfl).trans ?_
  rw [hpermits]
  exact Nat.mod_eq_of_lt s.permits_lt

/-- What a strobe drives channel `c` by. -/
def State.TestDue (s : State) (n c low : Nat) : Prop := bit (s.chCtl c) 2 = true ∧ s.chOt c ≠ 0 ∧ n % s.chOt c = 4 * c + 1 + 2 * low

theorem State.otDue_iff (s : State) (n c low : Nat) : s.otDue n c low = true ↔ s.TestDue n c low := by
  unfold State.otDue State.TestDue
  rw [Bool.and_eq_true, Bool.and_eq_true, bne_iff_ne, beq_iff_eq, and_assoc]

theorem exec_scanStrobe_shows {s : State} (hlink : s.reeve.linkUp = true) (rawA rawB : BitVec 24) (hrun : s.reeve.running = true) :
    let n := (s.fld R.SAFETY_SCANSTAT_SCAN + 1) % 2 ^ 32
    let on := fun (c : Nat) => s.flag (R.SAFEIO_CHSTAT_CMD c) = true ∧ s.serving = true ∧ s.paramOk = true
    ∃ t, exec (.scanStrobe rawA rawB) s = .next t ∧ t.fld R.SAFETY_SCANSTAT_SCAN = n ∧ t.mem = s.mem ∧
      (s.st = stTRIPPED → t.pins = s.pins) ∧
      (s.st ≠ stTRIPPED → t.sio.run = s.fld R.SAFEIO_RUN_RUN ∧ t.sio.permit = s.permits ∧
        t.fld R.SAFEIO_RUN_PERMIT = s.permits ∧ ∀ c, c < 4 →
          (bit t.pins.stoHs c = true ↔ on c ∧ ¬ s.TestDue n c 0) ∧
          (s.flag R.DEVICE_STATE_GRACE = false → (bit t.pins.stoLs c = true ↔ on c ∧ ¬ s.TestDue n c 1)) ∧
          (s.flag R.DEVICE_STATE_GRACE = true → (bit t.pins.stoLs c = true ↔ s.flag (R.SAFEIO_CHSTAT_LS_ON c) = true)) ∧
          (bit s.sio.fresh c = false → bit s.sio.bad c = true → s.flag (R.SAFEIO_CHSTAT_FAULT c) = false →
            rawA.getLsbD (16 + c) ≠ s.flag (R.SAFEIO_CHSTAT_HS_ON c) →
            t.flag (R.SAFEIO_CHSTAT_FAULT c) = true ∧ t.fld (R.SAFEIO_CHSTAT_FCODE c) = 1)) := by
  intro n on
  have hexec := exec_scanStrobe_eq hrun hlink rawA rawB
  obtain ⟨hsc, hn, hpins, hraw, hfresh, hbad⟩ := s.sampled_shows rawA rawB
  generalize s.sampled rawA rawB = u at *
  have hone {g : Fld} (h : R.SAFETY_SCANSTAT ≠ g.off) : ∀ f ∈ ({R.SAFETY_SCANSTAT_SCAN} : Set Fld), f.Apart g := by
    simp only [Set.mem_singleton_iff, forall_eq]
    exact .ofOff h
  have htwo {g : Fld} (h : R.SAFEIO_RUN ≠ g.off) : ∀ f ∈ ({R.SAFEIO_RUN_PERMIT} : Set Fld), f.Apart g := by
    simp only [Set.mem_singleton_iff, forall_eq]
    exact .ofOff h
  have hst : u.st = s.st := hsc.fld _ (hone (by decide))
  by_cases htrip : s.st = stTRIPPED
  · rw [if_pos (hst.trans htrip)] at hexec
    exact ⟨u, hexec, hn, hsc.same.2.1, fun _ => hpins, fun h => absurd htrip h⟩
  · rw [if_neg (hst.trans_ne htrip)] at hexec
    obtain ⟨han, hpermit, hsrun, hspermit, haraw, hafresh, habad⟩ := u.announced_shows
    have hup : u.permits = s.permits := hsc.permits (hone (by decide)) (hone (by decide))
    generalize u.announced = v at *
    have hvn : v.fld R.SAFETY_SCANSTAT_SCAN = n := (han.fld _ (htwo (by decide))).trans hn
    rw [hvn] at hexec
    have hkeep := v.strobeSwitches_keeps n
    have hchan (c : Nat) : R.SAFETY_SCANSTAT ≠ R.SAFEIO_CHSTAT c ∧ R.SAFEIO_RUN ≠ R.SAFEIO_CHSTAT c := by
      unfold R.SAFETY_SCANSTAT R.SAFEIO_RUN R.SAFEIO_CHSTAT
      omega
    have hoff {g : Fld} {c : Nat} (hg : g ∈ driveFlds c) : g.off = R.SAFEIO_CHSTAT c := by rcases hg with rfl | rfl | rfl <;> rfl
    have hsame (c : Nat) : State.SameDrive c s v :=
      (hsc.sameDrive c (fun g hg => hone (by rw [hoff hg]; exact (hchan c).1)) (hone (by decide)) (hone (by decide)) (hone (by decide))).trans
        (han.sameDrive c (fun g hg => htwo (by rw [hoff hg]; exact (hchan c).2)) (htwo (by decide)) (htwo (by decide)) (htwo (by decide)))
    have hflag {g : Fld} {c : Nat} (hg : g.off = R.SAFEIO_CHSTAT c) : v.flag g = s.flag g :=
      (han.flag (htwo (by rw [hg]; exact (hchan c).2))).trans (hsc.flag (hone (by rw [hg]; exact (hchan c).1)))
    refine ⟨_, hexec, hkeep.scan.trans hvn, hkeep.mem.trans (han.same.2.1.trans hsc.same.2.1), fun h => absurd h htrip, fun _ =>
      ⟨hkeep.run.trans (hsrun.trans (hsc.fld _ (hone (by decide)))), hkeep.permit.trans (hspermit.trans hup), hkeep.shown.trans (hpermit.trans hup), fun c hc => ?_⟩⟩
    obtain ⟨hhs, hls⟩ := v.strobeSwitches_drives n hc
    have hot (low : Nat) : v.otDue n c low = s.otDue n c low := by
      unfold State.otDue State.chCtl State.chOt State.pset
      rw [(hsame c).param]
    rw [hot, (hsame c).cmd] at hhs hls
    rw [(hsame c).low] at hls
    have hon : s.stoCmd c = true ↔ on c := by
      unfold State.stoCmd
      rw [Bool.and_eq_true, Bool.and_eq_true, and_assoc]
    have hdrive (low : Nat) : (s.stoCmd c && !s.otDue n c low) = true ↔ on c ∧ ¬ s.TestDue n c low := by
      rw [Bool.and_eq_true, hon, Bool.not_eq_true', ← Bool.not_eq_true, s.otDue_iff]
    refine ⟨by rw [hhs, hdrive], fun hg => ?_, fun hg => ?_, fun hf hb hok hw => ?_⟩
    · rw [hls, State.lowSide, hg, if_neg (by decide), hdrive]
    · rw [hls, State.lowSide, hg, if_pos rfl]
    · have hrb : bit (v.sio.rawA / 65536) c = rawA.getLsbD (16 + c) := by
        rw [haraw, hraw, bit_eq_testBit, show (65536 : Nat) = 2 ^ 16 from rfl, Nat.testBit_div_two_pow, Nat.add_comm]
        rfl
      have hdue : State.FaultDue c v := by
        refine ⟨?_, ?_, (hflag rfl).trans hok, ?_⟩
        · rw [hafresh, hfresh, hf]
        · rw [habad, hbad, hb]
        · rw [hrb, hflag rfl]
          exact hw
      have hfault := State.strobeSwitches_faults n hc hdue
      exact ⟨hfault.fault, hfault.code⟩

/-! ### The filters of the contacts (R590) -/

/-- The scan keeps the announced values, what it still waits for, and the balls. -/
structure State.LogicKept (s u : State) : Prop where
  run : u.sio.run = s.sio.run
  permit : u.sio.permit = s.sio.permit
  due : u.sio.due = s.sio.due
  pins : u.pins = s.pins

theorem State.LogicKept.refl {s : State} : State.LogicKept s s := ⟨rfl, rfl, rfl, rfl⟩

theorem State.LogicKept.trans {s t u : State} (h : State.LogicKept s t) (k : State.LogicKept t u) : State.LogicKept s u :=
  ⟨k.run.trans h.run, k.permit.trans h.permit, k.due.trans h.due, k.pins.trans h.pins⟩

theorem State.LogicKept.setFld {s t : State} (h : State.LogicKept s t) (f : Fld) (v : Nat) : State.LogicKept s (t.setFld f v) := by
  refine ⟨?_, ?_, ?_, ?_⟩
  · rw [State.setFld_sio, h.run]
  · rw [State.setFld_sio, h.permit]
  · rw [State.setFld_sio, h.due]
  · rw [State.setFld_pins, h.pins]

theorem State.LogicKept.iter {g : Nat → State → State} {s : State} (hg : ∀ k u, State.LogicKept u (g k u)) (n : Nat) :
    State.LogicKept s (s.iter n g) := State.iter_keeps (fun k u h => h.trans (hg k u)) .refl n

theorem fFilt_off (k : Nat) : (fFilt k).off = R.SAFEIO_PAIRSTAT (k / 2) := by
  unfold fFilt
  split_ifs <;> rfl

theorem fFilt_apart {j k : Nat} (h : j ≠ k) : (fFilt j).Apart (fFilt k) := by
  by_cases hoff : j / 2 = k / 2
  · have hjk : j % 2 = 0 ∧ k % 2 = 1 ∨ j % 2 = 1 ∧ k % 2 = 0 := by omega
    unfold fFilt
    rcases hjk with ⟨hj, hk⟩ | ⟨hj, hk⟩
    · rw [if_pos hj, if_neg (by omega)]
      exact .ofBits rfl
    · rw [if_neg (by omega), if_pos hk]
      exact .ofBits rfl
  · refine .ofOff ?_
    rw [fFilt_off, fFilt_off]
    unfold R.SAFEIO_PAIRSTAT
    omega

/-- The level that a filter uses, and its count. -/
def State.useLevel (s : State) (k : Nat) (lv : Bool) (n : Nat) : State :=
  { s with sio := { s.sio with used := putBit s.sio.used k lv, cnt := SMap.set (fun _ => 0) s.sio.cnt k n } }

theorem State.filterContact_eq (s : State) (agreed k : Nat) : s.filterContact agreed k =
    if bit agreed k = s.flag (fFilt k) then s.useLevel k (bit agreed k) 0
    else if s.pairFilter (k / 2) ≤ SMap.get (fun _ => 0) s.sio.cnt k + 1 then
      (s.useLevel k (bit agreed k) 0).setFld (fFilt k) (if bit agreed k then 1 else 0)
    else s.useLevel k (bit agreed k) (SMap.get (fun _ => 0) s.sio.cnt k + 1) := rfl

theorem State.useLevel_shows (s : State) (k : Nat) (lv : Bool) (n : Nat) (F : Set Fld) : State.Scan F s (s.useLevel k lv n) ∧ State.LogicKept s (s.useLevel k lv n) ∧
    ∀ j, j ≠ k → SMap.get (fun _ => 0) (s.useLevel k lv n).sio.cnt j = SMap.get (fun _ => 0) s.sio.cnt j := by
  refine ⟨State.Scan.refl.sio _, ⟨rfl, rfl, rfl, rfl⟩, fun j hj => ?_⟩
  exact (SMap.get_set (fun _ => 0) s.sio.cnt k j n).trans (if_neg hj)

theorem State.filterContact_shows (s : State) (agreed k : Nat) : State.Scan {fFilt k} s (s.filterContact agreed k) ∧
    State.LogicKept s (s.filterContact agreed k) ∧
    (∀ j, j ≠ k → SMap.get (fun _ => 0) (s.filterContact agreed k).sio.cnt j = SMap.get (fun _ => 0) s.sio.cnt j) ∧
    (s.filterContact agreed k).flag (fFilt k) = if bit agreed k = s.flag (fFilt k) then s.flag (fFilt k)
      else if s.pairFilter (k / 2) ≤ SMap.get (fun _ => 0) s.sio.cnt k + 1 then bit agreed k else s.flag (fFilt k) := by
  have hw : Nat.ble ((fFilt k).lo + (fFilt k).w) 64 = true := by
    unfold fFilt
    split_ifs <;> rfl
  have hone (u : State) (v : Bool) : (u.setFld (fFilt k) (if v then 1 else 0)).flag (fFilt k) = v := by
    have h1 : (fFilt k).w = 1 := by
      unfold fFilt
      split_ifs <;> rfl
    rw [State.flag, State.fld_setFld_here u (fFilt k) _ hw, h1]
    cases v <;> rfl
  have hflags (n : Nat) : (s.useLevel k (bit agreed k) n).flag (fFilt k) = s.flag (fFilt k) := rfl
  rw [State.filterContact_eq]
  by_cases h1 : bit agreed k = s.flag (fFilt k)
  · obtain ⟨hs, hk, hc⟩ := s.useLevel_shows k (bit agreed k) 0 {fFilt k}
    rw [if_pos h1, if_pos h1]
    exact ⟨hs, hk, hc, hflags 0⟩
  · rw [if_neg h1, if_neg h1]
    by_cases h2 : s.pairFilter (k / 2) ≤ SMap.get (fun _ => 0) s.sio.cnt k + 1
    · obtain ⟨hs, hk, hc⟩ := s.useLevel_shows k (bit agreed k) 0 {fFilt k}
      rw [if_pos h2, if_pos h2]
      generalize s.useLevel k (bit agreed k) 0 = u at *
      exact ⟨hs.setFld (fFilt k) hw (Set.mem_singleton _) _, hk.setFld _ _, fun j hj => by rw [State.setFld_sio, hc j hj], hone u (bit agreed k)⟩
    · obtain ⟨hs, hk, hc⟩ := s.useLevel_shows k (bit agreed k) (SMap.get (fun _ => 0) s.sio.cnt k + 1) {fFilt k}
      rw [if_neg h2, if_neg h2]
      exact ⟨hs, hk, hc, hflags _⟩

/-- The filters of all contacts over one more scan. -/
def State.filterAll (s : State) (lv : Nat) : State := s.iter 16 (fun k s => s.filterContact lv k)

/-- The registers of the pairs. -/
def pairRegs : Set Fld := {f | 0x20010 ≤ f.off ∧ f.off < 0x20030}

theorem pairRegs_apart {g : Fld} (h : g.off < 0x20010 ∨ 0x20030 ≤ g.off) : ∀ f ∈ pairRegs, f.Apart g := by
  rintro f ⟨hlo, hhi⟩
  exact .ofOff (by omega)

theorem pairstat_mem {i : Nat} (hi : i < 8) : 0x20010 ≤ R.SAFEIO_PAIRSTAT i ∧ R.SAFEIO_PAIRSTAT i < 0x20030 := by
  unfold R.SAFEIO_PAIRSTAT
  omega

theorem State.filterAll_flag (s : State) (lv : Nat) {k : Nat} (hk : k < 16) : (s.filterAll lv).flag (fFilt k) = if bit lv k = s.flag (fFilt k) then s.flag (fFilt k)
    else if s.pairFilter (k / 2) ≤ SMap.get (fun _ => 0) s.sio.cnt k + 1 then bit lv k else s.flag (fFilt k) := by
  refine State.iter_at (P := fun u => u.flag (fFilt k) = s.flag (fFilt k) ∧ SMap.get (fun _ => 0) u.sio.cnt k = SMap.get (fun _ => 0) s.sio.cnt k ∧ u.param = s.param)
    (Q := fun u => u.flag (fFilt k) = if bit lv k = s.flag (fFilt k) then s.flag (fFilt k)
    else if s.pairFilter (k / 2) ≤ SMap.get (fun _ => 0) s.sio.cnt k + 1 then bit lv k else s.flag (fFilt k)) hk
    (fun j u hj ⟨hf, hc, hp⟩ => ?_) (fun u ⟨hf, hc, hp⟩ => ?_) (fun j u hj hf => ?_) ⟨rfl, rfl, rfl⟩
  · obtain ⟨hs, -, hcnt, -⟩ := u.filterContact_shows lv j
    have hap : ∀ f ∈ ({fFilt j} : Set Fld), f.Apart (fFilt k) := by
      simp only [Set.mem_singleton_iff, forall_eq]
      exact fFilt_apart hj
    exact ⟨(hs.flag hap).trans hf, (hcnt k (Ne.symm hj)).trans hc, hs.same.1.trans hp⟩
  · obtain ⟨-, -, -, hflag⟩ := u.filterContact_shows lv k
    have hfilter : u.pairFilter (k / 2) = s.pairFilter (k / 2) := by
      unfold State.pairFilter State.pset
      rw [hp]
    rw [hflag, hf, hc, hfilter]
  · obtain ⟨hs, -⟩ := u.filterContact_shows lv j
    have hap : ∀ f ∈ ({fFilt j} : Set Fld), f.Apart (fFilt k) := by
      simp only [Set.mem_singleton_iff, forall_eq]
      exact fFilt_apart hj
    exact (hs.flag hap).trans hf

/-- A row of steps over the pairs and contacts that keeps to their registers. -/
theorem State.Scan.iter_lt {g : Nat → State → State} {F : Set Fld} (s : State) {n : Nat} (hg : ∀ k < n, ∀ u, State.Scan F u (g k u)) : State.Scan F s (s.iter n g) := by
  induction n with
  | zero => exact State.Scan.refl
  | succ n ih =>
    rw [State.iter_succ]
    exact (ih fun k hk => hg k (by omega)).trans (hg n (by omega) _)

theorem State.filterAll_shows (s : State) (lv : Nat) : State.Scan pairRegs s (s.filterAll lv) ∧ State.LogicKept s (s.filterAll lv) := by
  refine ⟨State.Scan.iter_lt s fun k hk u => (u.filterContact_shows lv k).1.mono ?_, State.LogicKept.iter (fun k u => (u.filterContact_shows lv k).2.1) 16⟩
  have hoff : (fFilt k).off = R.SAFEIO_PAIRSTAT (k / 2) := fFilt_off k
  rintro f rfl
  have hmem := pairstat_mem (i := k / 2) (by omega)
  rw [← hoff] at hmem
  exact hmem

/-! ### The pairs (R592, R595) and the commands (R596, R598) -/

/-- A part of the scan's logic: it writes some fields, and keeps what `LogicKept` says. -/
structure State.Logic (F : Set Fld) (s t : State) : Prop where
  scan : State.Scan F s t
  kept : State.LogicKept s t

namespace State.Logic
variable {F : Set Fld} {s t u : State}

theorem refl : State.Logic F s s := ⟨.refl, .refl⟩

theorem trans (h : State.Logic F s t) (k : State.Logic F t u) : State.Logic F s u := ⟨h.scan.trans k.scan, h.kept.trans k.kept⟩

theorem setFld (h : State.Logic F s t) (f : Fld) (hw : Nat.ble (f.lo + f.w) 64 = true) (hf : f ∈ F) (v : Nat) : State.Logic F s (t.setFld f v) :=
  ⟨h.scan.setFld f hw hf v, h.kept.setFld f v⟩

theorem sio (h : State.Logic F s t) (q : Sio) (hr : q.run = t.sio.run) (hp : q.permit = t.sio.permit) (hd : q.due = t.sio.due) :
    State.Logic F s { t with sio := q } := ⟨h.scan.sio q, hr.trans h.kept.run, hp.trans h.kept.permit, hd.trans h.kept.due, h.kept.pins⟩

theorem ite {P : Prop} [Decidable P] (h : State.Logic F s t) (k : State.Logic F s u) : State.Logic F s (if P then t else u) := by
  split_ifs
  · exact h
  · exact k

theorem mono {G : Set Fld} (hFG : F ⊆ G) (h : State.Logic F s t) : State.Logic G s t := ⟨h.scan.mono hFG, h.kept⟩

theorem iter_lt {g : Nat → State → State} (s : State) {n : Nat} (hg : ∀ k < n, ∀ u, State.Logic F u (g k u)) : State.Logic F s (s.iter n g) := by
  induction n with
  | zero => exact .refl
  | succ n ih =>
    rw [State.iter_succ]
    exact (ih fun k hk => hg k (by omega)).trans (hg n (by omega) _)

end State.Logic

/-- The fields that a pair's step writes. -/
def pairFlds (i : Nat) : Set Fld := {R.SAFEIO_PAIRSTAT_DISC i, R.SAFEIO_PAIRSTAT_DISC_MS i, R.SAFEIO_PAIRSTAT_FAULT i, R.SAFEIO_PAIRSTAT_FCODE i}

theorem State.pairFault_logic {s u : State} {i : Nat} (h : State.Logic (pairFlds i) s u) (code : Nat) : State.Logic (pairFlds i) s (u.pairFault i code) :=
  ((h.setFld (R.SAFEIO_PAIRSTAT_FAULT i) rfl (by simp [pairFlds]) 1).setFld (R.SAFEIO_PAIRSTAT_FCODE i) rfl (by simp [pairFlds]) code).sio _ rfl rfl rfl

theorem State.pairShow_logic {s u : State} {i : Nat} (h : State.Logic (pairFlds i) s u) (a b : Nat) :
    State.Logic (pairFlds i) s ((u.setFld (R.SAFEIO_PAIRSTAT_DISC i) a).setFld (R.SAFEIO_PAIRSTAT_DISC_MS i) b) :=
  (h.setFld (R.SAFEIO_PAIRSTAT_DISC i) rfl (by simp [pairFlds]) a).setFld (R.SAFEIO_PAIRSTAT_DISC_MS i) rfl (by simp [pairFlds]) b

theorem State.pairClear_logic {s u : State} {i : Nat} (h : State.Logic (pairFlds i) s u) :
    State.Logic (pairFlds i) s ((u.setFld (R.SAFEIO_PAIRSTAT_FAULT i) 0).setFld (R.SAFEIO_PAIRSTAT_FCODE i) 0) :=
  (h.setFld (R.SAFEIO_PAIRSTAT_FAULT i) rfl (by simp [pairFlds]) 0).setFld (R.SAFEIO_PAIRSTAT_FCODE i) rfl (by simp [pairFlds]) 0

/-- The scans of discrepancy of a pair. -/
def State.discPut (s : State) (i n : Nat) : State := { s with sio := { s.sio with disc := SMap.set (fun _ => 0) s.sio.disc i n } }

/-- The scans since a pair's fault without a demand for ON. -/
def State.quietPut (s : State) (i q : Nat) : State := { s with sio := { s.sio with quiet := SMap.set (fun _ => 0) s.sio.quiet i q } }

theorem State.pairStep_logic (s : State) (i : Nat) : State.Logic (pairFlds i) s (s.pairStep i) := by
  have hdisc {u : State} (h : State.Logic (pairFlds i) s u) (n : Nat) : State.Logic (pairFlds i) s (u.discPut i n) := h.sio _ rfl rfl rfl
  have hquiet {u : State} (h : State.Logic (pairFlds i) s u) (q : Nat) : State.Logic (pairFlds i) s (u.quietPut i q) := h.sio _ rfl rfl rfl
  have hshow (n a b : Nat) := State.pairShow_logic (hdisc .refl n) a b
  unfold State.pairStep
  dsimp only
  exact .ite (.ite (hdisc (State.pairClear_logic (hquiet (hshow _ _ _) _)) 0) (hquiet (hshow _ _ _) _))
    (.ite (State.pairFault_logic (hshow _ _ _) 1) (hshow _ _ _))

/-- The fields that a channel's command writes. -/
def cmdFlds (c : Nat) : Set Fld := {R.SAFEIO_CHSTAT_CMD c, R.SAFEIO_CHSTAT_OFFWHY c, R.SAFEIO_CHSTAT_ILOCK c, R.SAFEIO_STATUS_CMD}

/-- A command given, with why it is OFF and its interlock. -/
def State.putCmd (s : State) (c cmd why il : Nat) : State :=
  ((((s.setFld (R.SAFEIO_CHSTAT_CMD c) cmd).setFld (R.SAFEIO_CHSTAT_OFFWHY c) why).setFld (R.SAFEIO_CHSTAT_ILOCK c) il)).setFld
    R.SAFEIO_STATUS_CMD (if cmd = 1 then setBit (s.fld R.SAFEIO_STATUS_CMD) c else clrBit (s.fld R.SAFEIO_STATUS_CMD) c)

/-- Whether RUN was announced 0 since the interlock. -/
def State.putZero (s : State) (c : Nat) (b : Bool) : State :=
  { s with sio := { s.sio with zero := (if b then setBit s.sio.zero c else clrBit s.sio.zero c) } }

theorem State.computeSto_eq (s : State) (c : Nat) : s.computeSto c =
    if !bit (s.chCtl c) 1 then (s.putZero c false).putCmd c (if s.stoTerm c = 0 then 1 else 0) (s.stoTerm c) 0
    else if s.stoTerm c = 0 ∧ (!s.flag (R.SAFEIO_CHSTAT_ILOCK c) ∨ bit s.sio.zero c) then (s.putZero c false).putCmd c 1 0 0
    else (s.putZero c ((s.flag (R.SAFEIO_CHSTAT_ILOCK c) && bit s.sio.zero c) || !bit s.sio.run c)).putCmd c 0 (if s.stoTerm c = 0 then 6 else s.stoTerm c) 1 := rfl

theorem State.putCmd_logic {s u : State} {c : Nat} (h : State.Logic (cmdFlds c) s u) (cmd why il : Nat) : State.Logic (cmdFlds c) s (u.putCmd c cmd why il) :=
  (((h.setFld (R.SAFEIO_CHSTAT_CMD c) rfl (by simp [cmdFlds]) _).setFld (R.SAFEIO_CHSTAT_OFFWHY c) rfl (by simp [cmdFlds]) _).setFld
    (R.SAFEIO_CHSTAT_ILOCK c) rfl (by simp [cmdFlds]) _).setFld R.SAFEIO_STATUS_CMD rfl (by simp [cmdFlds]) _

theorem State.computeSto_logic (s : State) (c : Nat) : State.Logic (cmdFlds c) s (s.computeSto c) := by
  have hz (b : Bool) : State.Logic (cmdFlds c) s (s.putZero c b) := State.Logic.refl.sio _ rfl rfl rfl
  rw [State.computeSto_eq]
  exact .ite (State.putCmd_logic (hz _) ..) (.ite (State.putCmd_logic (hz _) ..) (State.putCmd_logic (hz _) ..))

theorem State.computeSto_cmd {s : State} {c : Nat} (h : bit (s.chCtl c) 1 = false) :
    (s.computeSto c).flag (R.SAFEIO_CHSTAT_CMD c) = true ↔ s.stoTerm c = 0 := by
  rw [State.computeSto_eq, h, if_pos (by decide)]
  unfold State.putCmd
  generalize s.putZero c false = u
  have hoff : (R.SAFEIO_CHSTAT_CMD c).off ≠ R.SAFEIO_STATUS_CMD.off := by
    show 0x20040 + c * 0x4 ≠ 0x20000
    omega
  rw [State.flag, State.fld_setFld_off _ _ _ _ hoff, State.fld_setFld_apart _ _ _ _ rfl rfl, State.fld_setFld_apart _ _ _ _ rfl rfl,
    State.fld_setFld_here _ _ _ rfl]
  by_cases ht : s.stoTerm c = 0
  · rw [if_pos ht]
    exact ⟨fun _ => ht, fun _ => rfl⟩
  · rw [if_neg ht]
    exact ⟨fun hx => absurd hx (by show ¬ (0 % 2 ^ 1 == 1) = true; decide), fun hx => absurd hx ht⟩

/-- R596: the terms of a channel's command without its interlock. -/
theorem State.stoTerm_iff (s : State) (c : Nat) : s.stoTerm c = 0 ↔ bit (s.chCtl c) 0 = true ∧
    (∀ i, i < 8 → bit (s.chPairs c) i = true → s.pairOn i = true) ∧ bit s.sio.run c = true ∧ bit s.sio.permit c = true ∧
    s.flag (R.SAFEIO_CHSTAT_FAULT c) = false := by
  have hall : (List.range 8).all (fun i => !bit (s.chPairs c) i || s.pairOn i) = true ↔ ∀ i, i < 8 → bit (s.chPairs c) i = true → s.pairOn i = true := by
    rw [List.all_eq_true]
    simp only [List.mem_range, Bool.or_eq_true, Bool.not_eq_true', ← Bool.not_eq_true]
    exact forall_congr' fun i => imp_congr_right fun _ => ⟨fun h hb => h.resolve_left (not_not.2 hb), fun h => Decidable.not_or_of_imp h⟩
  rw [← hall]
  unfold State.stoTerm
  cases bit (s.chCtl c) 0 <;> cases (List.range 8).all (fun i => !bit (s.chPairs c) i || s.pairOn i) <;> cases bit s.sio.run c <;>
    cases bit s.sio.permit c <;> cases s.flag (R.SAFEIO_CHSTAT_FAULT c) <;> decide

/-! ### The logic of a scan (R590–R592, R595, R596) -/

/-- The filters and pairs of a scan, which stand still without agreed levels. -/
def State.scanFilters (s : State) (agreed : Option Nat) : State :=
  match agreed with
  | some lv => (s.filterAll lv).iter 8 (fun i s => s.pairStep i)
  | none => s

/-- The number whose bits a test gives. -/
def maskOf (p : Nat → Bool) (n : Nat) : Nat := ((List.range n).map (fun i => if p i then 2 ^ i else 0)).sum

/-- The pairs shown in STATUS. -/
def State.showPairs (s : State) : State :=
  (s.setFld R.SAFEIO_STATUS_PAIR_ON (maskOf s.pairOn 8)).setFld R.SAFEIO_STATUS_PAIR_FAULT (maskOf (fun i => s.flag (R.SAFEIO_PAIRSTAT_FAULT i)) 8)

/-- The commands of the four channels. -/
def State.commands (s : State) : State := s.iter 4 (fun c s => s.computeSto c)

theorem State.scanLogic_eq (s : State) (agreed : Option Nat) : s.scanLogic agreed = State.setFld ((s.scanFilters agreed).showPairs).commands R.SAFEIO_STATUS_OUTFAULT
    (maskOf (fun c => State.flag ((s.scanFilters agreed).showPairs).commands (R.SAFEIO_CHSTAT_FAULT c)) 4) := by
  cases agreed <;> rfl

theorem pairFlds_apart {g : Fld} {i : Nat} (hoff : g.off ≠ R.SAFEIO_PAIRSTAT i) : ∀ f ∈ pairFlds i, f.Apart g := by
  simp only [pairFlds, Set.mem_insert_iff, Set.mem_singleton_iff, forall_eq_or_imp, forall_eq]
  exact ⟨.ofOff (Ne.symm hoff), .ofOff (Ne.symm hoff), .ofOff (Ne.symm hoff), .ofOff (Ne.symm hoff)⟩

theorem pairFlds_apart_filt (i k : Nat) : ∀ f ∈ pairFlds i, f.Apart (fFilt k) := by
  by_cases hk : k / 2 = i
  · simp only [pairFlds, Set.mem_insert_iff, Set.mem_singleton_iff, forall_eq_or_imp, forall_eq]
    unfold fFilt
    rw [hk]
    split_ifs <;> exact ⟨.ofBits rfl, .ofBits rfl, .ofBits rfl, .ofBits rfl⟩
  · refine pairFlds_apart ?_
    rw [fFilt_off]
    unfold R.SAFEIO_PAIRSTAT
    omega

theorem pairFlds_regs {i : Nat} (hi : i < 8) : pairFlds i ⊆ pairRegs := by
  rintro f hf
  have hoff : f.off = R.SAFEIO_PAIRSTAT i := by rcases hf with rfl | rfl | rfl | rfl <;> rfl
  have hmem := pairstat_mem hi
  rw [← hoff] at hmem
  exact hmem

/-- The registers of the safe I/O. -/
def scanRegs : Set Fld := {f | 0x20000 ≤ f.off}

theorem scanRegs_apart {g : Fld} (h : g.off < 0x20000) : ∀ f ∈ scanRegs, f.Apart g := by
  intro f hf
  have hlo : 0x20000 ≤ f.off := hf
  exact .ofOff (by omega)

theorem State.scanFilters_shows (s : State) (lv : Nat) : State.Logic pairRegs s (s.scanFilters (some lv)) ∧
    ∀ k, k < 16 → (s.scanFilters (some lv)).flag (fFilt k) = if bit lv k = s.flag (fFilt k) then s.flag (fFilt k)
      else if s.pairFilter (k / 2) ≤ SMap.get (fun _ => 0) s.sio.cnt k + 1 then bit lv k else s.flag (fFilt k) := by
  obtain ⟨hscan, hkept⟩ := s.filterAll_shows lv
  have hpairs : State.Logic pairRegs (s.filterAll lv) (s.scanFilters (some lv)) :=
    State.Logic.iter_lt _ fun i hi u => (u.pairStep_logic i).mono (pairFlds_regs hi)
  refine ⟨(State.Logic.mk hscan hkept).trans hpairs, fun k hk => ?_⟩
  rw [← s.filterAll_flag lv hk]
  exact State.iter_keeps (P := fun u => u.flag (fFilt k) = (s.filterAll lv).flag (fFilt k))
    (fun i u h => ((u.pairStep_logic i).scan.flag (pairFlds_apart_filt i k)).trans h) rfl 8

/-- What the command of channel `c` reads is the same. -/
structure State.SameTerm (c : Nat) (s u : State) : Prop where
  param : u.param = s.param
  pair : ∀ i, i < 8 → u.pairOn i = s.pairOn i
  run : u.sio.run = s.sio.run
  permit : u.sio.permit = s.sio.permit
  fault : u.flag (R.SAFEIO_CHSTAT_FAULT c) = s.flag (R.SAFEIO_CHSTAT_FAULT c)

theorem State.SameTerm.trans {c : Nat} {s t u : State} (h : State.SameTerm c s t) (k : State.SameTerm c t u) : State.SameTerm c s u :=
  ⟨k.param.trans h.param, fun i hi => (k.pair i hi).trans (h.pair i hi), k.run.trans h.run, k.permit.trans h.permit, k.fault.trans h.fault⟩

theorem State.Logic.sameTerm {F : Set Fld} {s u : State} (h : State.Logic F s u) (c : Nat) (hpair : ∀ g : Fld, 0x20010 ≤ g.off → g.off < 0x20030 → ∀ f ∈ F, f.Apart g)
    (hfault : ∀ f ∈ F, f.Apart (R.SAFEIO_CHSTAT_FAULT c)) : State.SameTerm c s u := by
  have hparam := h.scan.same.1
  refine ⟨hparam, fun i hi => ?_, h.kept.run, h.kept.permit, h.scan.flag hfault⟩
  have hmem := pairstat_mem hi
  have hfl : u.flag (R.SAFEIO_PAIRSTAT_FAULT i) = s.flag (R.SAFEIO_PAIRSTAT_FAULT i) := h.scan.flag (hpair _ hmem.1 hmem.2)
  have hfilt (k : Nat) (hk : k / 2 = i) : u.demands k = s.demands k := by
    have hoff : (fFilt k).off = R.SAFEIO_PAIRSTAT i := by rw [fFilt_off, hk]
    unfold State.demands State.pairCtl State.pset
    rw [hparam, h.scan.flag (hpair (fFilt k) (by rw [hoff]; exact hmem.1) (by rw [hoff]; exact hmem.2))]
  unfold State.pairOn
  rw [hfl, hfilt (2 * i) (by omega), hfilt (2 * i + 1) (by omega)]
  unfold State.pairCtl State.pset
  rw [hparam]

theorem State.SameTerm.term {c : Nat} {s u : State} (h : State.SameTerm c s u) : u.stoTerm c = 0 ↔ s.stoTerm c = 0 := by
  have hall : (∀ i, i < 8 → bit (s.chPairs c) i = true → u.pairOn i = true) ↔ ∀ i, i < 8 → bit (s.chPairs c) i = true → s.pairOn i = true :=
    forall_congr' fun i => imp_congr_right fun hi => by rw [h.pair i hi]
  rw [State.stoTerm_iff, State.stoTerm_iff, h.run, h.permit, h.fault]
  unfold State.chCtl State.chPairs State.pset at *
  rw [h.param, hall]

theorem cmdFlds_off {f : Fld} {k : Nat} (hf : f ∈ cmdFlds k) : f.off = R.SAFEIO_CHSTAT k ∨ f.off = R.SAFEIO_STATUS := by
  rcases hf with rfl | rfl | rfl | rfl
  · exact .inl rfl
  · exact .inl rfl
  · exact .inl rfl
  · exact .inr rfl

theorem cmdFlds_apart_pair (k : Nat) {g : Fld} (hlo : 0x20010 ≤ g.off) (hhi : g.off < 0x20030) : ∀ f ∈ cmdFlds k, f.Apart g := by
  intro f hf
  refine .ofOff ?_
  rcases cmdFlds_off hf with h | h
  · rw [h]
    unfold R.SAFEIO_CHSTAT
    omega
  · rw [h]
    unfold R.SAFEIO_STATUS
    omega

theorem cmdFlds_apart_channel {k c : Nat} {g : Fld} (hg : g.off = R.SAFEIO_CHSTAT c) (hk : k ≠ c) : ∀ f ∈ cmdFlds k, f.Apart g := by
  intro f hf
  refine .ofOff ?_
  rcases cmdFlds_off hf with h | h
  · rw [h, hg]
    unfold R.SAFEIO_CHSTAT
    omega
  · rw [h, hg]
    unfold R.SAFEIO_STATUS R.SAFEIO_CHSTAT
    omega

theorem cmdFlds_apart_fault (k c : Nat) : ∀ f ∈ cmdFlds k, f.Apart (R.SAFEIO_CHSTAT_FAULT c) := by
  by_cases hk : k = c
  · have hd : R.SAFEIO_STATUS ≠ R.SAFEIO_CHSTAT c := by unfold R.SAFEIO_STATUS R.SAFEIO_CHSTAT; omega
    rw [hk]
    simp only [cmdFlds, Set.mem_insert_iff, Set.mem_singleton_iff, forall_eq_or_imp, forall_eq]
    exact ⟨.ofBits rfl, .ofBits rfl, .ofBits rfl, .ofOff hd⟩
  · exact cmdFlds_apart_channel rfl hk

theorem State.computeSto_sameTerm (s : State) (c k : Nat) : State.SameTerm c s (s.computeSto k) :=
  (s.computeSto_logic k).sameTerm c (fun _ hlo hhi => cmdFlds_apart_pair k hlo hhi) (cmdFlds_apart_fault k c)

theorem State.commands_sameTerm (s : State) (c : Nat) : State.SameTerm c s s.commands :=
  State.iter_keeps (fun k u h => h.trans (u.computeSto_sameTerm c k)) ⟨rfl, fun _ _ => rfl, rfl, rfl, rfl⟩ 4

theorem State.commands_cmd (s : State) {c : Nat} (hc : c < 4) (h : bit (s.chCtl c) 1 = false) : s.commands.flag (R.SAFEIO_CHSTAT_CMD c) = true ↔ s.stoTerm c = 0 := by
  refine State.iter_at (P := State.SameTerm c s) (Q := fun u => u.flag (R.SAFEIO_CHSTAT_CMD c) = true ↔ s.stoTerm c = 0) hc
    (fun k u _ hu => hu.trans (u.computeSto_sameTerm c k)) (fun u hu => ?_) (fun k u hk hu => ?_) ⟨rfl, fun _ _ => rfl, rfl, rfl, rfl⟩
  · rw [← hu.term]
    refine State.computeSto_cmd ?_
    unfold State.chCtl State.pset at *
    rw [hu.param]
    exact h
  · rw [← hu, (u.computeSto_logic k).scan.flag (cmdFlds_apart_channel rfl hk)]

theorem statusFld_apart {f g : Fld} (hf : f.off = R.SAFEIO_STATUS) (hg : 0x20000 < g.off) : f.Apart g := .ofOff (by rw [hf]; unfold R.SAFEIO_STATUS; omega)

theorem State.showPairs_logic (s : State) : State.Logic {R.SAFEIO_STATUS_PAIR_ON, R.SAFEIO_STATUS_PAIR_FAULT} s s.showPairs :=
  (State.Logic.refl.setFld R.SAFEIO_STATUS_PAIR_ON rfl (by simp) _).setFld R.SAFEIO_STATUS_PAIR_FAULT rfl (by simp) _

theorem channel_above (c : Nat) : 0x20000 < R.SAFEIO_CHSTAT c := by
  unfold R.SAFEIO_CHSTAT
  omega

/-- The commands that follow the pairs of a scan (R596). -/
theorem State.scanLogic_after (s : State) (agreed : Option Nat) : State.Logic scanRegs (s.scanFilters agreed) (s.scanLogic agreed) ∧
    (∀ g : Fld, 0x20010 ≤ g.off → g.off < 0x20030 → (s.scanLogic agreed).fld g = (s.scanFilters agreed).fld g) ∧
    ∀ c, c < 4 → State.SameTerm c (s.scanFilters agreed) (s.scanLogic agreed) ∧ (bit ((s.scanFilters agreed).chCtl c) 1 = false →
      ((s.scanLogic agreed).flag (R.SAFEIO_CHSTAT_CMD c) = true ↔ (s.scanFilters agreed).stoTerm c = 0)) := by
  rw [State.scanLogic_eq]
  generalize s.scanFilters agreed = u
  have hshow := u.showPairs_logic
  have hpairs {g : Fld} (hg : 0x20000 < g.off) : ∀ f ∈ ({R.SAFEIO_STATUS_PAIR_ON, R.SAFEIO_STATUS_PAIR_FAULT} : Set Fld), f.Apart g := by
    simp only [Set.mem_insert_iff, Set.mem_singleton_iff, forall_eq_or_imp, forall_eq]
    exact ⟨statusFld_apart rfl hg, statusFld_apart rfl hg⟩
  have hone {g : Fld} (hg : 0x20000 < g.off) : ∀ f ∈ ({R.SAFEIO_STATUS_OUTFAULT} : Set Fld), f.Apart g := by
    simp only [Set.mem_singleton_iff, forall_eq]
    exact statusFld_apart rfl hg
  have hfirst (c : Nat) : State.SameTerm c u u.showPairs := hshow.sameTerm c (fun g hlo _ => hpairs (by omega)) (hpairs (channel_above c))
  have hsub : ({R.SAFEIO_STATUS_PAIR_ON, R.SAFEIO_STATUS_PAIR_FAULT} : Set Fld) ⊆ scanRegs := by
    rintro f (rfl | rfl) <;> exact le_refl 0x20000
  have hcmds : State.Logic scanRegs u.showPairs u.showPairs.commands := State.Logic.iter_lt _ fun k _ v => (v.computeSto_logic k).mono fun f hf => by
    show 0x20000 ≤ f.off
    rcases cmdFlds_off hf with h | h
    · rw [h]
      exact le_of_lt (channel_above k)
    · rw [h]
      exact le_refl _
  have hpair {g : Fld} (hlo : 0x20010 ≤ g.off) (hhi : g.off < 0x20030) : u.showPairs.commands.fld g = u.showPairs.fld g :=
    State.iter_keeps (P := fun v => v.fld g = u.showPairs.fld g) (fun k v h => ((v.computeSto_logic k).scan.fld _ (cmdFlds_apart_pair k hlo hhi)).trans h) rfl 4
  have hterm (c : Nat) := u.showPairs.commands_sameTerm c
  have hcmd {c : Nat} (hc : c < 4) := u.showPairs.commands_cmd hc
  have hbase := (hshow.mono hsub).trans hcmds
  have hg0 {g : Fld} (hlo : 0x20010 ≤ g.off) : u.showPairs.fld g = u.fld g := hshow.scan.fld _ (hpairs (by omega))
  generalize u.showPairs = v at *
  generalize v.commands = x at *
  have hlast (w : Nat) : State.Logic {R.SAFEIO_STATUS_OUTFAULT} x (x.setFld R.SAFEIO_STATUS_OUTFAULT w) := State.Logic.refl.setFld _ rfl (Set.mem_singleton _) w
  refine ⟨hbase.trans ((hlast _).mono (by rintro f rfl; exact le_refl 0x20000)), fun g hlo hhi => ?_, fun c hc => ⟨?_, fun h => ?_⟩⟩
  · exact ((hlast _).scan.fld _ (hone (by omega))).trans ((hpair hlo hhi).trans (hg0 hlo))
  · exact ((hfirst c).trans (hterm c)).trans ((hlast _).sameTerm c (fun g hlo _ => hone (by omega)) (hone (channel_above c)))
  · have hlock : bit (v.chCtl c) 1 = false := by
      unfold State.chCtl State.pset at *
      rw [(hfirst c).param]
      exact h
    rw [(hlast _).scan.flag (hone (channel_above c)), hcmd hc hlock, (hfirst c).term]

theorem State.scanLogic_agreed (v : State) (lv : Nat) : State.Logic scanRegs v (v.scanLogic (some lv)) ∧
    (∀ k, k < 16 → (v.scanLogic (some lv)).flag (fFilt k) = if bit lv k = v.flag (fFilt k) then v.flag (fFilt k)
      else if v.pairFilter (k / 2) ≤ SMap.get (fun _ => 0) v.sio.cnt k + 1 then bit lv k else v.flag (fFilt k)) ∧
    ∀ c, c < 4 → bit (v.chCtl c) 1 = false → ((v.scanLogic (some lv)).flag (R.SAFEIO_CHSTAT_CMD c) = true ↔ bit (v.chCtl c) 0 = true ∧
      (∀ i, i < 8 → bit (v.chPairs c) i = true → (v.scanLogic (some lv)).pairOn i = true) ∧ bit v.sio.run c = true ∧ bit v.sio.permit c = true ∧
      v.flag (R.SAFEIO_CHSTAT_FAULT c) = false) := by
  obtain ⟨hfilt, hflag⟩ := v.scanFilters_shows lv
  obtain ⟨hafter, hpair, hcmd⟩ := v.scanLogic_after (some lv)
  generalize v.scanFilters (some lv) = u at *
  generalize v.scanLogic (some lv) = t at *
  have hsub : pairRegs ⊆ scanRegs := by
    rintro f ⟨hlo, -⟩
    exact le_trans (by decide) hlo
  have hparam := hfilt.scan.same.1
  refine ⟨(hfilt.mono hsub).trans hafter, fun k hk => ?_, fun c hc hlock => ?_⟩
  · have hmem := pairstat_mem (i := k / 2) (by omega)
    rw [← fFilt_off] at hmem
    rw [State.flag, hpair _ hmem.1 hmem.2, ← State.flag, hflag k hk]
  · obtain ⟨hterm, hiff⟩ := hcmd c hc
    have hfault : u.flag (R.SAFEIO_CHSTAT_FAULT c) = v.flag (R.SAFEIO_CHSTAT_FAULT c) := by
      refine hfilt.scan.flag (pairRegs_apart (.inr ?_))
      show 0x20030 ≤ 0x20040 + c * 0x4
      omega
    have hall : (∀ i, i < 8 → bit (v.chPairs c) i = true → u.pairOn i = true) ↔ ∀ i, i < 8 → bit (v.chPairs c) i = true → t.pairOn i = true :=
      forall_congr' fun i => imp_congr_right fun hi => by rw [hterm.pair i hi]
    have hctl : u.chCtl c = v.chCtl c := by
      unfold State.chCtl State.pset
      rw [hparam]
    have hpairs : u.chPairs c = v.chPairs c := by
      unfold State.chPairs State.pset
      rw [hparam]
    rw [hiff (by rw [hctl]; exact hlock), State.stoTerm_iff, hctl, hpairs, hfilt.kept.run, hfilt.kept.permit, hfault, hall]

theorem State.scanLogic_missing (v : State) : State.Logic scanRegs v (v.scanLogic none) ∧ ∀ k, k < 16 → (v.scanLogic none).flag (fFilt k) = v.flag (fFilt k) := by
  obtain ⟨hafter, hpair, -⟩ := v.scanLogic_after none
  refine ⟨hafter, fun k hk => ?_⟩
  have hmem := pairstat_mem (i := k / 2) (by omega)
  rw [← fFilt_off] at hmem
  exact congrArg (· == 1) (hpair _ hmem.1 hmem.2)

/-! ### SCAN_RECORD (R549, R550, R552) -/

/-- A record is whole: its length and its CRC are right. -/
def WholeRecord (rec : List Byte) : Prop := rec.length = 128 ∧ leNat (rec.drop 0x7C) = crc32 (rec.take 0x7C)

theorem wholeRecord_iff (rec : List Byte) : WholeRecord rec ↔ ¬ (rec.length ≠ 128 ∨ leAt rec 0x7C 4 ≠ crc32 (rec.take 0x7C)) := by
  rw [not_or, not_not, not_not]
  refine and_congr_right fun hlen => ?_
  have htake : leAt rec 0x7C 4 = leNat (rec.drop 0x7C) := by
    unfold leAt
    rw [List.take_of_length_le]
    rw [List.length_drop, hlen]
  rw [htake]

theorem ite_not_or_not {α : Type} (a b : Bool) (x y : α) : (if !a || !b then y else x) = if a && b then x else y := by
  cases a <;> cases b <;> rfl

/-- Whether a channel still waits for this scan's record, with the link up. -/
theorem exec_scanRecord_broken (s : State) (b : Bool) {rec : List Byte} (h : ¬ WholeRecord rec) : exec (.scanRecord b rec) s = exec (.scanRecordMissing b) s := by
  rw [wholeRecord_iff, not_not] at h
  have hrec : exec (.scanRecord b rec) s = execScanRecord b rec s := rfl
  have hmiss : exec (.scanRecordMissing b) s = execScanRecordMissing b s := rfl
  rw [hrec, hmiss]
  unfold execScanRecord execScanRecordMissing
  rw [if_pos h]
  exact congrArg Host.Outcome.next (ite_not_or_not _ _ _ _)

section
variable {s : State} {b : Bool} {rec : List Byte} (hlink : s.reeve.linkUp = true) (hdue : s.scanWaits b = true) (hwhole : WholeRecord rec)
  (hscan : leNat (rec.take 4) = s.fld R.SAFETY_SCANSTAT_SCAN) (hst : s.st ≠ stTRIPPED)
include hlink hdue hwhole hscan hst

theorem exec_scanRecord_disagrees (hgr : ¬ (b = true ∧ s.flag R.DEVICE_STATE_GRACE = true)) {off : Nat} (h : s.firstDiff b rec = some off) :
    exec (.scanRecord b rec) s = .next ((s.scanDone b).scanDiff b off) := by
  have hrec : exec (.scanRecord b rec) s = execScanRecord b rec s := rfl
  have hat : leAt rec 0 4 = s.fld R.SAFETY_SCANSTAT_SCAN := hscan
  have hdiff : (s.scanDone b).firstDiff b rec = some off := h
  rw [hrec]
  unfold execScanRecord
  rw [if_neg (by rw [hdue, hlink]; decide), if_neg ((wholeRecord_iff rec).1 hwhole), if_neg (not_not.2 hat), if_neg hst]
  dsimp only
  rw [hdiff]
  exact congrArg Host.Outcome.next (if_neg hgr)

/-- Channel B takes a record that agrees. -/
def State.recordB (s : State) (rec : List Byte) : State :=
  let s := s.keepDiff true (nxor s.sio.rawB (recRaw rec))
  { s with
    sio := { s.sio with chainB := s.sio.chainB.upTo (s.fld R.SAFETY_SCANSTAT_SCAN - 3) }
    reeve := { s.reeve with missB := 0, lastState := leAt rec 4 1 } }

/-- Channel A has taken a record that agrees, before its filters. -/
def State.recordA (s : State) (rec : List Byte) : State :=
  let d := nxor s.sio.rawA (recRaw rec)
  let s := s.keepDiff false d
  let s := { s with
    sio := { s.sio with chainA := s.sio.chainA.upTo (s.fld R.SAFETY_SCANSTAT_SCAN - 3) }
    reeve := { s.reeve with missA := 0 } }
  s.satAdd R.SAFETY_SCANSTAT_SINGLE (((List.range 24).filter (bit d)).length)

/-- The levels that both channels agree on (R590). -/
def State.agreedLevel (s : State) (rec : List Byte) (k : Nat) : Bool :=
  if bit (nxor s.sio.rawA (recRaw rec)) (sinBit k) then bit s.sio.used k else bit s.sio.rawA (sinBit k)

end

section
variable {s : State} {rec : List Byte} (hlink : s.reeve.linkUp = true) (hwhole : WholeRecord rec)
  (hscan : leNat (rec.take 4) = s.fld R.SAFETY_SCANSTAT_SCAN) (hst : s.st ≠ stTRIPPED)
include hlink hwhole hscan hst

theorem exec_scanRecord_agreesB (hdue : bit s.sio.due 1 = true) (hgr : s.flag R.DEVICE_STATE_GRACE = false) (h : s.firstDiff true rec = none) :
    exec (.scanRecord true rec) s = .next ((s.scanDone true).recordB rec) := by
  have hrec : exec (.scanRecord true rec) s = execScanRecord true rec s := rfl
  have hat : leAt rec 0 4 = s.fld R.SAFETY_SCANSTAT_SCAN := hscan
  have hdiff : (s.scanDone true).firstDiff true rec = none := h
  have hwait : s.scanWaits true = true := hdue
  have hgrace : (s.scanDone true).flag R.DEVICE_STATE_GRACE = false := hgr
  rw [hrec]
  unfold execScanRecord
  rw [if_neg (by rw [hwait, hlink]; decide), if_neg ((wholeRecord_iff rec).1 hwhole), if_neg (not_not.2 hat), if_neg hst]
  dsimp only
  rw [hdiff, hgrace]
  rfl

theorem exec_scanRecord_agreesA (hdue : bit s.sio.due 0 = true) (h : s.firstDiff false rec = none) :
    exec (.scanRecord false rec) s = .next (((s.scanDone false).recordA rec).scanLogic (some (maskOf (s.agreedLevel rec) 16))) := by
  have hrec : exec (.scanRecord false rec) s = execScanRecord false rec s := rfl
  have hat : leAt rec 0 4 = s.fld R.SAFETY_SCANSTAT_SCAN := hscan
  have hdiff : (s.scanDone false).firstDiff false rec = none := h
  have hwait : s.scanWaits false = true := hdue
  rw [hrec]
  unfold execScanRecord
  rw [if_neg (by rw [hwait, hlink]; decide), if_neg ((wholeRecord_iff rec).1 hwhole), if_neg (not_not.2 hat), if_neg hst]
  dsimp only
  rw [hdiff]
  rfl

end

theorem State.recordB_shows (s : State) (rec : List Byte) : ((s.scanDone true).recordB rec).reeve.missB = 0 ∧
    ((s.scanDone true).recordB rec).reeve.lastState = leNat ((rec.drop 4).take 1) ∧ bit ((s.scanDone true).recordB rec).sio.due 1 = false ∧
    ((s.scanDone true).recordB rec).regs = s.regs ∧ ((s.scanDone true).recordB rec).pins = s.pins := by
  have hdue : ((s.scanDone true).recordB rec).sio.due = clrBit s.sio.due 1 := rfl
  refine ⟨rfl, rfl, ?_, rfl, rfl⟩
  rw [hdue, bit_clrBit]
  rfl

/-- What a record that agrees leaves before the filters. -/
structure State.RecordedA (s v : State) : Prop where
  fld : ∀ g : Fld, g.off ≠ R.SAFETY_SCANSTAT → v.fld g = s.fld g
  param : v.param = s.param
  mem : v.mem = s.mem
  pins : v.pins = s.pins
  run : v.sio.run = s.sio.run
  permit : v.sio.permit = s.sio.permit
  cnt : v.sio.cnt = s.sio.cnt
  due : v.sio.due = clrBit s.sio.due 0
  miss : v.reeve.missA = 0

theorem State.recordA_shows (s : State) (rec : List Byte) : State.RecordedA s ((s.scanDone false).recordA rec) := by
  obtain ⟨u, hu⟩ : ∃ t : State, t = { (s.scanDone false).keepDiff false (nxor s.sio.rawA (recRaw rec)) with sio := { ((s.scanDone false).keepDiff false (nxor s.sio.rawA (recRaw rec))).sio with chainA := s.sio.chainA.upTo (s.fld R.SAFETY_SCANSTAT_SCAN - 3) }, reeve := { s.reeve with missA := 0 } } := ⟨_, rfl⟩
  have hbase : State.RecordedA s u := by
    rw [hu]
    exact ⟨fun _ _ => rfl, rfl, rfl, rfl, rfl, rfl, rfl, rfl, rfl⟩
  have hrec : (s.scanDone false).recordA rec = u.satAdd R.SAFETY_SCANSTAT_SINGLE (((List.range 24).filter (bit (nxor s.sio.rawA (recRaw rec)))).length) := by
    rw [hu]
    rfl
  rw [hrec, State.satAdd]
  refine ⟨fun g hg => ?_, ?_, ?_, ?_, ?_, ?_, ?_, ?_, ?_⟩
  · rw [State.fld_setFld_off _ _ _ _ hg, hbase.fld g hg]
  · rw [State.setFld_param, hbase.param]
  · rw [State.setFld_mem, hbase.mem]
  · rw [State.setFld_pins, hbase.pins]
  · rw [State.setFld_sio, hbase.run]
  · rw [State.setFld_sio, hbase.permit]
  · rw [State.setFld_sio, hbase.cnt]
  · rw [State.setFld_sio, hbase.due]
  · rw [State.setFld_reeve, hbase.miss]

/-- A contact's level is the one last used while the two channels' samples of it differ (R590). -/
theorem State.agreedLevel_eq (s : State) (rec : List Byte) (k : Nat) :
    s.agreedLevel rec k = if bit s.sio.rawA (sinBit k) != bit (recRaw rec) (sinBit k) then bit s.sio.used k else bit s.sio.rawA (sinBit k) := by
  have hxor : bit (nxor s.sio.rawA (recRaw rec)) (sinBit k) = (bit s.sio.rawA (sinBit k) != bit (recRaw rec) (sinBit k)) := by
    rw [bit_eq_testBit, bit_eq_testBit, bit_eq_testBit, nxor, Nat.testBit_xor]
  rw [State.agreedLevel, hxor]

theorem exec_scanRecord_filters {s : State} {rec : List Byte} (hlink : s.reeve.linkUp = true) (hdue : bit s.sio.due 0 = true) (hwhole : WholeRecord rec)
    (hscan : leNat (rec.take 4) = s.fld R.SAFETY_SCANSTAT_SCAN) (hst : s.st ≠ stTRIPPED) (h : s.firstDiff false rec = none) :
    ∃ t, exec (.scanRecord false rec) s = .next t ∧ t.reeve.missA = 0 ∧ bit t.sio.due 0 = false ∧ t.st = s.st ∧ t.mem = s.mem ∧ t.pins = s.pins ∧
      (∀ k, k < 16 → t.flag (fFilt k) = (if s.agreedLevel rec k = s.flag (fFilt k) then s.flag (fFilt k)
        else if s.pairFilter (k / 2) ≤ SMap.get (fun _ => 0) s.sio.cnt k + 1 then s.agreedLevel rec k else s.flag (fFilt k))) ∧
      ∀ c, c < 4 → bit (s.chCtl c) 1 = false → (t.flag (R.SAFEIO_CHSTAT_CMD c) = true ↔ bit (s.chCtl c) 0 = true ∧
        (∀ i, i < 8 → bit (s.chPairs c) i = true → t.pairOn i = true) ∧ bit s.sio.run c = true ∧
        bit s.sio.permit c = true ∧ s.flag (R.SAFEIO_CHSTAT_FAULT c) = false) := by
  have hexec := exec_scanRecord_agreesA hlink hwhole hscan hst hdue h
  have hv := s.recordA_shows rec
  generalize (s.scanDone false).recordA rec = v at *
  obtain ⟨hlogic, hfilt, hcmd⟩ := v.scanLogic_agreed (maskOf (s.agreedLevel rec) 16)
  generalize v.scanLogic (some (maskOf (s.agreedLevel rec) 16)) = t at *
  obtain ⟨-, hmem, -, -, hreeve, -⟩ := hlogic.scan.same
  have hlevel {k : Nat} (hk : k < 16) : bit (maskOf (s.agreedLevel rec) 16) k = s.agreedLevel rec k := by
    rw [maskOf, bit_maskOf, decide_eq_true hk, Bool.true_and]
  refine ⟨t, hexec, ?_, ?_, ?_, hmem.trans hv.mem, hlogic.kept.pins.trans hv.pins, fun k hk => ?_, fun c hc hlock => ?_⟩
  · rw [hreeve, hv.miss]
  · rw [hlogic.kept.due, hv.due, bit_clrBit]
    rfl
  · exact (hlogic.scan.fld _ (scanRegs_apart (by decide))).trans (hv.fld R.DEVICE_STATE_STATE (by decide))
  · have hoff : (fFilt k).off ≠ R.SAFETY_SCANSTAT := by
      rw [fFilt_off]
      unfold R.SAFEIO_PAIRSTAT R.SAFETY_SCANSTAT
      omega
    have hflag : v.flag (fFilt k) = s.flag (fFilt k) := congrArg (· == 1) (hv.fld _ hoff)
    have hfilter : v.pairFilter (k / 2) = s.pairFilter (k / 2) := by
      unfold State.pairFilter State.pset
      rw [hv.param]
    rw [hfilt k hk, hlevel hk, hflag, hfilter, hv.cnt]
  · have hctl : v.chCtl c = s.chCtl c := by
      unfold State.chCtl State.pset
      rw [hv.param]
    have hpairs : v.chPairs c = s.chPairs c := by
      unfold State.chPairs State.pset
      rw [hv.param]
    have hoff : (R.SAFEIO_CHSTAT_FAULT c).off ≠ R.SAFETY_SCANSTAT := by
      have habove := channel_above c
      show R.SAFEIO_CHSTAT c ≠ R.SAFETY_SCANSTAT
      unfold R.SAFETY_SCANSTAT
      omega
    have hfault : v.flag (R.SAFEIO_CHSTAT_FAULT c) = s.flag (R.SAFEIO_CHSTAT_FAULT c) := congrArg (· == 1) (hv.fld _ hoff)
    rw [hcmd c hc (by rw [hctl]; exact hlock), hctl, hpairs, hv.run, hv.permit, hfault]

/-! ### What trips the device at a scan (R549, R552, R555) -/

theorem State.tripped_of {s u t : State} {source detail : Nat} {die : Bool} (h : u.Tripped t source detail die) (hcores : u.cores = s.cores) (hmem : u.mem = s.mem) :
    s.Tripped t source detail die := by
  obtain ⟨h1, h2, h3, h4, h5, h6, h7, h8, h9, h10, h11, h12, h13, h14, h15, h16⟩ := h
  exact ⟨h1, h2, h3, h4, h5, h6, h7, h8, h9, h10, h11, h12, h13, h14, h15.trans hcores, h16.trans hmem⟩

/-- A disagreement marked before the trip. -/
def State.markDiff (s : State) (b : Bool) (off : Nat) : State :=
  (((s.setFld R.SAFETY_SCANDIFF_VALID 1).setFld R.SAFETY_SCANDIFF_CHANNEL (if b then 1 else 0)).setFld
    R.SAFETY_SCANDIFF_OFFSET off).setFld R.SAFETY_SCANDIFF_SCAN (s.fld R.SAFETY_SCANSTAT_SCAN)

theorem State.markDiff_shows (s : State) (b : Bool) {off : Nat} (hoff : off < 256) : (s.markDiff b off).flag R.SAFETY_SCANDIFF_VALID = true ∧
    (s.markDiff b off).fld R.SAFETY_SCANDIFF_OFFSET = off ∧ (s.markDiff b off).cores = s.cores ∧ (s.markDiff b off).mem = s.mem ∧
    ∀ g : Fld, g.off ≠ R.SAFETY_SCANDIFF → (s.markDiff b off).fld g = s.fld g := by
  unfold State.markDiff
  generalize s.fld R.SAFETY_SCANSTAT_SCAN = n
  refine ⟨?_, ?_, ?_, ?_, fun g hg => ?_⟩
  · rw [State.flag, State.fld_setFld_apart _ _ _ _ rfl rfl, State.fld_setFld_apart _ _ _ _ rfl rfl, State.fld_setFld_apart _ _ _ _ rfl rfl,
      State.fld_setFld_here _ _ _ rfl]
    rfl
  · rw [State.fld_setFld_apart _ _ _ _ rfl rfl, State.fld_setFld_here _ _ _ rfl]
    exact Nat.mod_eq_of_lt hoff
  · rw [State.setFld_cores, State.setFld_cores, State.setFld_cores, State.setFld_cores]
  · rw [State.setFld_mem, State.setFld_mem, State.setFld_mem, State.setFld_mem]
  · rw [State.fld_setFld_off _ _ _ _ hg, State.fld_setFld_off _ _ _ _ hg, State.fld_setFld_off _ _ _ _ hg, State.fld_setFld_off _ _ _ _ hg]

theorem State.scanDiff_tripped {s : State} (htrip : s.flag R.SAFETY_TRIP_TRIPPED = false) (b : Bool) {off : Nat} (hoff : off < 256) :
    s.Tripped (s.scanDiff b off) 3 0 b ∧ (s.scanDiff b off).flag R.SAFETY_SCANDIFF_VALID = true ∧ (s.scanDiff b off).fld R.SAFETY_SCANDIFF_OFFSET = off := by
  obtain ⟨hvalid, hat, hcores, hmem, hrest⟩ := s.markDiff_shows b hoff
  have heq : s.scanDiff b off = (s.markDiff b off).trip 3 0 b := rfl
  rw [heq]
  generalize s.markDiff b off = u at *
  have hu : u.flag R.SAFETY_TRIP_TRIPPED = false := (congrArg (· == 1) (hrest R.SAFETY_TRIP_TRIPPED (by decide))).trans htrip
  have htripped := State.trip_tripped hu (source := 3) (detail := 0) (by decide) (by decide) b
  have hkeep : ∀ g : Fld, g.off = R.SAFETY_SCANDIFF → (u.trip 3 0 b).fld g = u.fld g := fun g hg => by
    have hreg := (State.trip_outer u 3 0 b).reg g.off (by rw [hg]; unfold tripRegs; decide)
    exact congrArg g.get hreg
  exact ⟨State.tripped_of htripped hcores hmem, (congrArg (· == 1) (hkeep R.SAFETY_SCANDIFF_VALID rfl)).trans hvalid, (hkeep R.SAFETY_SCANDIFF_OFFSET rfl).trans hat⟩

/-! ### SCAN_RECORD_MISSING (R552) -/

theorem exec_scanRecordMissing {s : State} {b : Bool} (hlink : s.reeve.linkUp = true) (hdue : s.scanWaits b = true) :
    exec (.scanRecordMissing b) s = .next (s.recordMissing b) := by
  have hexec : exec (.scanRecordMissing b) s = execScanRecordMissing b s := rfl
  rw [hexec, execScanRecordMissing, hdue, hlink]
  exact congrArg Host.Outcome.next (if_pos rfl)

/-- A missing record counted. -/
def State.missCounted (s : State) (b : Bool) : State := (s.satInc R.SAFETY_SCANSTAT_MISSED).scanDone b

theorem State.missCounted_shows (s : State) (b : Bool) :
    (s.missCounted b).fld R.SAFETY_SCANSTAT_MISSED = min (s.fld R.SAFETY_SCANSTAT_MISSED + 1) (2 ^ (R.SAFETY_SCANSTAT_MISSED).w - 1) ∧
    (∀ g : Fld, g.off ≠ R.SAFETY_SCANSTAT → (s.missCounted b).fld g = s.fld g) ∧ (s.missCounted b).mem = s.mem ∧ (s.missCounted b).cores = s.cores ∧
    (s.missCounted b).reeve = s.reeve ∧ (s.missCounted b).dev = s.dev := by
  obtain ⟨u, hu⟩ : ∃ t, t = s.satInc R.SAFETY_SCANSTAT_MISSED := ⟨_, rfl⟩
  have hfld : u.fld R.SAFETY_SCANSTAT_MISSED = min (s.fld R.SAFETY_SCANSTAT_MISSED + 1) (2 ^ (R.SAFETY_SCANSTAT_MISSED).w - 1) := by
    rw [hu]
    exact State.fld_satInc s _ (by decide)
  have hoff (g : Fld) (hg : g.off ≠ R.SAFETY_SCANSTAT) : u.fld g = s.fld g := by
    rw [hu]
    exact State.fld_satInc_off s R.SAFETY_SCANSTAT_MISSED g hg
  have hsame : u.mem = s.mem ∧ u.cores = s.cores ∧ u.reeve = s.reeve ∧ u.dev = s.dev := by
    rw [hu, State.satInc, State.satAdd]
    exact ⟨State.setFld_mem .., State.setFld_cores .., State.setFld_reeve .., State.setFld_dev ..⟩
  have hcount : s.missCounted b = u.scanDone b := by
    rw [hu]
    rfl
  obtain ⟨hmem, hcores, hreeve, hdev⟩ := hsame
  rw [hcount, ← hfld, ← hmem, ← hcores, ← hreeve, ← hdev]
  exact ⟨rfl, fun g hg => hoff g hg, rfl, rfl, rfl, rfl⟩

/-- The missing records of channel B, and of channel A. -/
def State.missB (s : State) : State := { s with reeve := { s.reeve with missB := s.reeve.missB + 1 } }
def State.missA (s : State) : State := { s with reeve := { s.reeve with missA := s.reeve.missA + 1 }, sio := { s.sio with missed := true } }

theorem State.missB_shows (s : State) : s.missB.regs = s.regs ∧ s.missB.reeve.missB = s.reeve.missB + 1 ∧
    s.missB.reeve.lastState = s.reeve.lastState ∧ s.missB.dev = s.dev ∧ s.missB.cores = s.cores ∧ s.missB.mem = s.mem := ⟨rfl, rfl, rfl, rfl, rfl, rfl⟩

theorem State.missA_shows (s : State) : s.missA.regs = s.regs ∧ s.missA.reeve.missA = s.reeve.missA + 1 ∧ s.missA.cores = s.cores ∧ s.missA.mem = s.mem :=
  ⟨rfl, rfl, rfl, rfl⟩

/-- The Reeve link down. -/
def State.linkLost (s : State) : State := { s with reeve := { s.reeve with linkUp := false } }

theorem State.linkLost_shows (s : State) : s.linkLost.regs = s.regs ∧ s.linkLost.cores = s.cores ∧ s.linkLost.mem = s.mem := ⟨rfl, rfl, rfl⟩

/-- The unannounced silence of a serving Verifier trips the device (R573). -/
theorem State.lostVerifier_serving {s : State} (hserved : s.reeve.lastState = stSERVING ∨ s.reeve.lastState = stDEGRADED)
    (hann : s.dev.announced = false) : s.lostVerifier = s.linkLost.trip 4 0 true := by
  have hnot : ¬ s.dev.announced = true := by rw [hann]; decide
  exact (if_pos hserved).trans (if_neg hnot)

theorem State.recordMissing_B {s : State} (hst : (s.missCounted true).st ≠ stTRIPPED) : s.recordMissing true =
    if 2 ≤ (s.missCounted true).reeve.missB + 1 then (s.missCounted true).missB.lostVerifier else (s.missCounted true).missB := by
  have heq : s.recordMissing true = if (s.missCounted true).st = stTRIPPED then s.missCounted true
      else if 2 ≤ (s.missCounted true).reeve.missB + 1 then (s.missCounted true).missB.lostVerifier else (s.missCounted true).missB := rfl
  rw [heq, if_neg hst]

theorem State.recordMissing_A {s : State} (hst : (s.missCounted false).st ≠ stTRIPPED) : s.recordMissing false =
    if 2 ≤ (s.missCounted false).reeve.missA + 1 then ((s.missCounted false).missA.scanLogic none).trip 4 0 false
    else (s.missCounted false).missA.scanLogic none := by
  have heq : s.recordMissing false = if (s.missCounted false).st = stTRIPPED then s.missCounted false
      else if 2 ≤ (s.missCounted false).reeve.missA + 1 then ((s.missCounted false).missA.scanLogic none).trip 4 0 false
        else (s.missCounted false).missA.scanLogic none := rfl
  rw [heq, if_neg hst]

section
variable {s : State} (hlink : s.reeve.linkUp = true) (hst : s.st ≠ stTRIPPED)
include hlink hst

theorem exec_scanRecordMissing_B (hdue : bit s.sio.due 1 = true) :
    (s.reeve.missB = 0 → ∃ t, exec (.scanRecordMissing true) s = .next t ∧ t.reeve.missB = 1 ∧ t.st = s.st ∧
      t.fld R.SAFETY_SCANSTAT_MISSED = min (s.fld R.SAFETY_SCANSTAT_MISSED + 1) (2 ^ (R.SAFETY_SCANSTAT_MISSED).w - 1)) ∧
    (s.reeve.missB = 1 → s.flag R.SAFETY_TRIP_TRIPPED = false → s.reeve.lastState = stSERVING ∨ s.reeve.lastState = stDEGRADED → s.dev.announced = false →
      ∃ t, exec (.scanRecordMissing true) s = .next t ∧ s.Tripped t 4 0 true) := by
  have hexec := exec_scanRecordMissing (b := true) hlink hdue
  obtain ⟨hcount, hoff, hmem, hcores, hreeve, hdev⟩ := s.missCounted_shows true
  have hust : (s.missCounted true).st = s.st := hoff R.DEVICE_STATE_STATE (by decide)
  rw [State.recordMissing_B (hust.trans_ne hst)] at hexec
  generalize s.missCounted true = u at *
  constructor
  · intro h0
    rw [hreeve, h0, if_neg (by decide)] at hexec
    obtain ⟨hregs, hmiss, -, -, -, -⟩ := u.missB_shows
    refine ⟨_, hexec, ?_, (State.fld_congr hregs _).trans hust, (State.fld_congr hregs _).trans hcount⟩
    rw [hmiss, hreeve, h0]
  · intro h1 htrip hserved hann
    rw [hreeve, h1, if_pos (by decide)] at hexec
    obtain ⟨hregs, -, hlast, hvdev, hvcores, hvmem⟩ := u.missB_shows
    obtain ⟨hlregs, hlcores, hlmem⟩ := u.missB.linkLost_shows
    rw [State.lostVerifier_serving (by rw [hlast, hreeve]; exact hserved) (by rw [hvdev, hdev, hann])] at hexec
    have hregs' := hlregs.trans hregs
    refine ⟨_, hexec, State.tripped_of (State.trip_tripped ?_ (by decide) (by decide) true) (hlcores.trans (hvcores.trans hcores))
      (hlmem.trans (hvmem.trans hmem))⟩
    rw [State.flag, State.fld_congr hregs', hoff R.SAFETY_TRIP_TRIPPED (by decide)]
    exact htrip

theorem exec_scanRecordMissing_A (hdue : bit s.sio.due 0 = true) (htrip : s.flag R.SAFETY_TRIP_TRIPPED = false) :
    (s.reeve.missA = 0 → ∃ t, exec (.scanRecordMissing false) s = .next t ∧ t.reeve.missA = 1 ∧ t.st = s.st ∧
      ∀ k, k < 16 → t.flag (fFilt k) = s.flag (fFilt k)) ∧
    (s.reeve.missA = 1 → ∃ t, exec (.scanRecordMissing false) s = .next t ∧ s.Tripped t 4 0 false) := by
  have hexec := exec_scanRecordMissing (b := false) hlink hdue
  obtain ⟨-, hoff, hmem, hcores, hreeve, -⟩ := s.missCounted_shows false
  have hust : (s.missCounted false).st = s.st := hoff R.DEVICE_STATE_STATE (by decide)
  rw [State.recordMissing_A (hust.trans_ne hst)] at hexec
  generalize s.missCounted false = u at *
  obtain ⟨hvregs, hvmiss, hvcores, hvmem⟩ := u.missA_shows
  have hvfld (g : Fld) : u.missA.fld g = u.fld g := State.fld_congr hvregs g
  generalize u.missA = v at *
  obtain ⟨hlogic, hfilt⟩ := v.scanLogic_missing
  obtain ⟨-, hlmem, hlcores, -, hlreeve, -⟩ := hlogic.scan.same
  generalize v.scanLogic none = w at *
  constructor
  · intro h0
    rw [hreeve, h0, if_neg (by decide)] at hexec
    refine ⟨w, hexec, ?_, ?_, fun k hk => ?_⟩
    · rw [hlreeve, hvmiss, hreeve, h0]
    · exact (hlogic.scan.fld _ (scanRegs_apart (by decide))).trans ((hvfld _).trans hust)
    · have hfo : (fFilt k).off ≠ R.SAFETY_SCANSTAT := by
        rw [fFilt_off]
        unfold R.SAFEIO_PAIRSTAT R.SAFETY_SCANSTAT
        omega
      exact (hfilt k hk).trans (congrArg (· == 1) ((hvfld _).trans (hoff _ hfo)))
  · intro h1
    rw [hreeve, h1, if_pos (by decide)] at hexec
    refine ⟨_, hexec, State.tripped_of (State.trip_tripped ?_ (by decide) (by decide) false) (hlcores.trans (hvcores.trans hcores)) (hlmem.trans (hvmem.trans hmem))⟩
    refine (hlogic.scan.flag (scanRegs_apart (by decide))).trans ?_
    exact (congrArg (· == 1) ((hvfld _).trans (hoff R.SAFETY_TRIP_TRIPPED (by decide)))).trans htrip

end

/-! ### Test pulses and output tests (R593, R594, R603, R604) -/

/-- The supply of a contact switched off for its pulse. -/
def State.pulsed (s : State) (k : Fin 16) : State :=
  let p := if k.val % 2 = 0 then { s.pins with sitpA := clrBit s.pins.sitpA (k.val / 2) } else { s.pins with sitpB := clrBit s.pins.sitpB (k.val / 2) }
  { s with pins := p, sio := { s.sio with pulse := some k.val } }

/-- A contact's test pulse is due in this scan (R593). -/
def State.PulseDue (s : State) (k : Fin 16) : Prop := s.paramOk = true ∧ bit (s.pairCtl (k.val / 2)) 0 = true ∧
  bit (s.pairCtl (k.val / 2)) (2 + k.val % 2) = true ∧ s.pset 0x0E 2 ≠ 0 ∧ s.fld R.SAFETY_SCANSTAT_SCAN % s.pset 0x0E 2 = k.val ∧ s.st ≠ stTRIPPED

theorem exec_testPulse_shows (s : State) (k : Fin 16) :
    (s.PulseDue k → ∃ t, exec (.testPulse k) s = .next t ∧ t.sio.pulse = some k.val ∧ t.regs = s.regs ∧
      t.pins.sitpA = (if k.val % 2 = 0 then clrBit s.pins.sitpA (k.val / 2) else s.pins.sitpA) ∧
      t.pins.sitpB = (if k.val % 2 = 1 then clrBit s.pins.sitpB (k.val / 2) else s.pins.sitpB)) ∧
    (¬ s.PulseDue k → exec (.testPulse k) s = .next s) := by
  have hexec : exec (.testPulse k) s = .next (if s.paramOk && bit (s.pairCtl (k.val / 2)) 0 && bit (s.pairCtl (k.val / 2)) (2 + k.val % 2) &&
      s.pset 0x0E 2 != 0 && s.fld R.SAFETY_SCANSTAT_SCAN % s.pset 0x0E 2 == k.val && s.st != stTRIPPED then s.pulsed k else s) := rfl
  have hdue : (s.paramOk && bit (s.pairCtl (k.val / 2)) 0 && bit (s.pairCtl (k.val / 2)) (2 + k.val % 2) &&
      s.pset 0x0E 2 != 0 && s.fld R.SAFETY_SCANSTAT_SCAN % s.pset 0x0E 2 == k.val && s.st != stTRIPPED) = true ↔ s.PulseDue k := by
    unfold State.PulseDue
    simp only [Bool.and_eq_true, bne_iff_ne, beq_iff_eq, and_assoc]
  rw [hexec]
  refine ⟨fun h => ⟨_, congrArg Host.Outcome.next (if_pos (hdue.2 h)), rfl, rfl, ?_, ?_⟩, fun h => congrArg Host.Outcome.next (if_neg (mt hdue.1 h))⟩
  · unfold State.pulsed
    rcases Nat.mod_two_eq_zero_or_one k.val with hk | hk <;> simp [hk]
  · unfold State.pulsed
    rcases Nat.mod_two_eq_zero_or_one k.val with hk | hk <;> simp [hk]

/-- The pulse over and the supplies back. -/
def State.pulseOver (s : State) : State := State.driveSitp { s with sio := { s.sio with pulse := none } }

theorem exec_testPulseEvaluate_idle {s : State} {k : Fin 16} (h : s.sio.pulse = none) (on : Bool) : exec (.testPulseEvaluate k on) s = .next s := by
  have hexec : exec (.testPulseEvaluate k on) s = execTestPulseEvaluate k on s := rfl
  rw [hexec]
  unfold execTestPulseEvaluate
  dsimp only
  rw [h, if_pos (by simp)]

/-- The evaluation sample of contact `k` counts (R594). -/
def State.Evaluated (s : State) (k : Fin 16) : Prop := s.sio.missed = false ∧ bit s.sio.due 0 = false ∧ bit s.sio.used k = true

theorem State.evaluated_iff (s : State) (k : Fin 16) : (s.sio.missed || bit s.sio.due 0 || !bit s.sio.used k) = true ↔ ¬ s.Evaluated k := by
  unfold State.Evaluated
  cases s.sio.missed <;> cases bit s.sio.due 0 <;> cases bit s.sio.used k <;> decide

section
variable {s : State} {k : Fin 16} (h : s.sio.pulse = some k.val)
include h

theorem exec_testPulseEvaluate_eq (on : Bool) : exec (.testPulseEvaluate k on) s = .next (
    if s.sio.missed || bit s.sio.due 0 || !bit s.sio.used k then s.pulseOver.satInc (R.SAFEIO_PAIRSTAT_TPSKIP (k.val / 2))
    else if on then (s.pulseOver.satInc (R.SAFEIO_PAIRSTAT_TPFAIL (k.val / 2))).pairFault (k.val / 2) 2
    else { s.pulseOver with sio := { s.pulseOver.sio with passed := setBit s.sio.passed k } }) := by
  have hexec : exec (.testPulseEvaluate k on) s = .next (if s.sio.pulse ≠ some k.val then s else
      if s.sio.missed || bit s.sio.due 0 || !bit s.sio.used k then s.pulseOver.satInc (R.SAFEIO_PAIRSTAT_TPSKIP (k.val / 2))
      else if on then (s.pulseOver.satInc (R.SAFEIO_PAIRSTAT_TPFAIL (k.val / 2))).pairFault (k.val / 2) 2
      else { s.pulseOver with sio := { s.pulseOver.sio with passed := setBit s.sio.passed k } }) := rfl
  rw [hexec, if_neg (not_not.2 h)]

theorem exec_testPulseEvaluate_skips (hno : ¬ s.Evaluated k) (on : Bool) : ∃ t, exec (.testPulseEvaluate k on) s = .next t ∧ t.sio.pulse = none ∧
    t.fld (R.SAFEIO_PAIRSTAT_TPSKIP (k.val / 2)) = min (s.fld (R.SAFEIO_PAIRSTAT_TPSKIP (k.val / 2)) + 1) 255 ∧
    t.flag (R.SAFEIO_PAIRSTAT_FAULT (k.val / 2)) = s.flag (R.SAFEIO_PAIRSTAT_FAULT (k.val / 2)) := by
  have hexec := exec_testPulseEvaluate_eq h on
  rw [if_pos ((s.evaluated_iff k).2 hno)] at hexec
  have hpulse : s.pulseOver.sio.pulse = none := rfl
  have hfld (g : Fld) : s.pulseOver.fld g = s.fld g := rfl
  generalize s.pulseOver = u at *
  refine ⟨_, hexec, ?_, ?_, ?_⟩
  · rw [State.satInc, State.satAdd, State.setFld_sio, hpulse]
  · rw [State.fld_satInc u _ (Nat.le_of_ble_eq_true rfl), hfld]
    rfl
  · rw [State.satInc, State.satAdd, State.flag, State.fld_setFld_apart _ _ _ _ rfl rfl, hfld, ← State.flag]

theorem exec_testPulseEvaluate_fails (hev : s.Evaluated k) : ∃ t, exec (.testPulseEvaluate k true) s = .next t ∧ t.sio.pulse = none ∧
    t.flag (R.SAFEIO_PAIRSTAT_FAULT (k.val / 2)) = true ∧ t.fld (R.SAFEIO_PAIRSTAT_FCODE (k.val / 2)) = 2 ∧
    t.fld (R.SAFEIO_PAIRSTAT_TPFAIL (k.val / 2)) = min (s.fld (R.SAFEIO_PAIRSTAT_TPFAIL (k.val / 2)) + 1) 255 := by
  have hexec := exec_testPulseEvaluate_eq h true
  rw [if_neg (mt (s.evaluated_iff k).1 (not_not.2 hev)), if_pos rfl] at hexec
  have hpulse : s.pulseOver.sio.pulse = none := rfl
  have hfld (g : Fld) : s.pulseOver.fld g = s.fld g := rfl
  generalize s.pulseOver = u at *
  obtain ⟨v, hv⟩ : ∃ t, t = u.satInc (R.SAFEIO_PAIRSTAT_TPFAIL (k.val / 2)) := ⟨_, rfl⟩
  have hvpulse : v.sio.pulse = none := by rw [hv, State.satInc, State.satAdd, State.setFld_sio, hpulse]
  have hvfail : v.fld (R.SAFEIO_PAIRSTAT_TPFAIL (k.val / 2)) = min (s.fld (R.SAFEIO_PAIRSTAT_TPFAIL (k.val / 2)) + 1) 255 := by
    rw [hv, State.fld_satInc u _ (Nat.le_of_ble_eq_true rfl), hfld]
    rfl
  rw [← hv] at hexec
  obtain ⟨w, hw⟩ : ∃ t, t = (v.setFld (R.SAFEIO_PAIRSTAT_FAULT (k.val / 2)) 1).setFld (R.SAFEIO_PAIRSTAT_FCODE (k.val / 2)) 2 := ⟨_, rfl⟩
  have hfault : w.flag (R.SAFEIO_PAIRSTAT_FAULT (k.val / 2)) = true := by
    rw [hw, State.flag, State.fld_setFld_apart _ _ _ _ rfl rfl, State.fld_setFld_here _ _ _ rfl]
    rfl
  have hcode : w.fld (R.SAFEIO_PAIRSTAT_FCODE (k.val / 2)) = 2 := by
    rw [hw, State.fld_setFld_here _ _ _ rfl]
    rfl
  have hfail : w.fld (R.SAFEIO_PAIRSTAT_TPFAIL (k.val / 2)) = v.fld (R.SAFEIO_PAIRSTAT_TPFAIL (k.val / 2)) := by
    rw [hw, State.fld_setFld_apart _ _ _ _ rfl rfl, State.fld_setFld_apart _ _ _ _ rfl rfl]
  have hwpulse : w.sio.pulse = none := by rw [hw, State.setFld_sio, State.setFld_sio, hvpulse]
  have hpair : v.pairFault (k.val / 2) 2 = { w with sio := { w.sio with quiet := SMap.set (fun _ => 0) w.sio.quiet (k.val / 2) 0, passed := clrBit (clrBit w.sio.passed (2 * (k.val / 2))) (2 * (k.val / 2) + 1) } } := by
    rw [hw]
    rfl
  rw [hpair] at hexec
  exact ⟨_, hexec, hwpulse, hfault, hcode, hfail.trans hvfail⟩

theorem exec_testPulseEvaluate_passes (hev : s.Evaluated k) : ∃ t, exec (.testPulseEvaluate k false) s = .next t ∧ t.sio.pulse = none ∧
    bit t.sio.passed k = true ∧ t.regs = s.regs ∧ t.pins.sitpA = s.sitpMask ∧ t.pins.sitpB = s.sitpMask := by
  have hexec := exec_testPulseEvaluate_eq h false
  rw [if_neg (mt (s.evaluated_iff k).1 (not_not.2 hev)), if_neg (by decide)] at hexec
  refine ⟨_, hexec, rfl, ?_, rfl, rfl, rfl⟩
  show bit (setBit s.sio.passed k) k = true
  rw [bit_setBit]
  simp

end

theorem exec_outputTestSample_shows (s : State) (c : Fin 4) (low : Bool) :
    let tested := bit s.sio.test (c.val + (if low then 4 else 0)) = true ∧ s.flag (R.SAFEIO_CHSTAT_CMD c) = true ∧
      s.flag (R.SAFEIO_CHSTAT_FAULT c) = false
    (tested → ∃ t, exec (.outputTestSample c low true) s = .next t ∧ t.flag (R.SAFEIO_CHSTAT_FAULT c) = true ∧
      t.fld (R.SAFEIO_CHSTAT_FCODE c) = (if low then 2 else 1) ∧ bit (t.fld R.SAFEIO_STATUS_OUTFAULT) c = true ∧
      t.sio = s.sio ∧ t.pins = s.pins) ∧
    (¬ tested → exec (.outputTestSample c low true) s = .next s) ∧ exec (.outputTestSample c low false) s = .next s := by
  intro tested
  have hexec (on : Bool) : exec (.outputTestSample c low on) s = .next (if !bit s.sio.test (c.val + (if low then 4 else 0)) || !s.flag (R.SAFEIO_CHSTAT_CMD c) ||
      !on || s.flag (R.SAFEIO_CHSTAT_FAULT c) then s else (s.outFault c (if low then 2 else 1)).fldBitSet R.SAFEIO_STATUS_OUTFAULT c) := rfl
  have hcond : (!bit s.sio.test (c.val + (if low then 4 else 0)) || !s.flag (R.SAFEIO_CHSTAT_CMD c) || !true || s.flag (R.SAFEIO_CHSTAT_FAULT c)) = true ↔ ¬ tested := by
    dsimp only [tested]
    cases bit s.sio.test (c.val + (if low then 4 else 0)) <;> cases s.flag (R.SAFEIO_CHSTAT_CMD c) <;> cases s.flag (R.SAFEIO_CHSTAT_FAULT c) <;> decide
  refine ⟨fun h => ?_, fun h => ?_, ?_⟩
  · have hgoes := hexec true
    rw [if_neg (mt hcond.1 (not_not.2 h))] at hgoes
    obtain ⟨hfault, hcode⟩ := s.outFault_shows c (code := if low then 2 else 1) (by cases low <;> decide)
    have hsio : (s.outFault c (if low then 2 else 1)).sio = s.sio := by rw [State.outFault, State.setFld_sio, State.setFld_sio]
    have hpins : (s.outFault c (if low then 2 else 1)).pins = s.pins := by rw [State.outFault, State.setFld_pins, State.setFld_pins]
    generalize s.outFault c (if low then 2 else 1) = u at *
    have habove := channel_above c
    have hoff : R.SAFEIO_CHSTAT c ≠ R.SAFEIO_STATUS_OUTFAULT.off := by
      show R.SAFEIO_CHSTAT c ≠ 0x20000
      omega
    refine ⟨_, hgoes, ?_, ?_, ?_, ?_, ?_⟩
    · rw [State.fldBitSet, State.flag, State.fld_setFld_off _ _ _ _ hoff, ← State.flag, hfault]
    · rw [State.fldBitSet, State.fld_setFld_off _ _ _ _ hoff, hcode]
    · exact State.bit_fldBitSet u rfl c.isLt
    · rw [State.fldBitSet, State.setFld_sio, hsio]
    · rw [State.fldBitSet, State.setFld_pins, hpins]
  · rw [hexec, if_pos (hcond.2 h)]
  · rw [hexec, if_pos (by simp)]

/-! ### The whole family -/

/-- Settles O45: the strobe channel by channel, the record through its filters, pairs and commands, and each test by its own branch. -/
theorem safeIoScans : Obligations.SafeIoScans := by
  unfold Obligations.SafeIoScans
  refine ⟨fun s hlink => ?_, fun s => ⟨fun k => ?_, exec_outputTestSample_shows s⟩⟩
  · intro armed scan good
    refine ⟨fun rawA rawB hrun => exec_scanStrobe_shows hlink rawA rawB hrun, ?_, ?_, ?_, ?_, ?_⟩
    · intro rec hdue hgood hscan ⟨htrip, hst⟩
      refine ⟨fun hdiff => ?_, fun off hdiff hoff => ?_⟩
      · have hshow := exec_scanRecord_filters hlink hdue hgood hscan hst hdiff
        simp only [State.agreedLevel_eq] at hshow
        exact hshow
      · obtain ⟨hd, hvalid, hat⟩ := (s.scanDone false).scanDiff_tripped htrip false hoff
        exact ⟨_, exec_scanRecord_disagrees (b := false) hlink hdue hgood hscan hst (by simp) hdiff, hd, hvalid, hat⟩
    · intro rec hdue hgood hscan ⟨htrip, hst⟩ hgr hdiff
      exact ⟨_, exec_scanRecord_agreesB hlink hgood hscan hst hdue hgr hdiff, s.recordB_shows rec⟩
    · exact fun b rec h => exec_scanRecord_broken s b h
    · exact fun hdue hst => exec_scanRecordMissing_B hlink hst hdue
    · exact fun hdue ⟨htrip, hst⟩ => exec_scanRecordMissing_A hlink hst hdue htrip
  · obtain ⟨hdue, hnot⟩ := exec_testPulse_shows s k
    refine ⟨hdue, hnot, fun hpulse => ⟨exec_testPulseEvaluate_skips hpulse, fun hev => ⟨exec_testPulseEvaluate_fails hpulse hev, exec_testPulseEvaluate_passes hpulse hev⟩⟩,
      exec_testPulseEvaluate_idle⟩

end Sys2Proof.Machine
end

section
-- One proof after another: what waits for another costs the check memory.
set_option Elab.async false
/-! SUPPORT. The verdict ring of a client without a function (O47) -/
namespace Sys2Proof.Machine

/-! ### The verdict ring of a client without a function (O47) -/

/-- Route 6 belongs to client 254 and writes its records to that client's ring. -/
def ringRoute : List Byte := [0, 0, 0xFF, 1, 0, 254, 4, 0, 0x40, 0x42, 0xF, 0, 0, 0, 0, 0, 0, 0, 0, 0, 0, 0, 0, 0, 3, 0, 0, 0, 0, 0, 0, 0]

/-- A serving primary of the duplicated route 6 with a PROVISIONAL of frame 8 to withdraw. The register VRCFG of function 254 has the
offset of the register DUP of route 6, whose LASTCLAIM holds its bit EN. -/
def ringClash : State :=
  let s := (((State.reset.setFld R.DEVICE_CAPS_NIMLINK 1).setFld R.DEVICE_STATE_STATE stSERVING).setFld (R.NIM_DUP_VALID 6) 1).setFld
    (R.PCIEA_F_VRCFG_EN 254) 1
  { s with
    jobs := { s.jobs with settings := [(0x10, List.replicate 192 0 ++ ringRoute)], routes := [(6, { RouteSt.empty with frames := [⟨8, 0, 0, 0, some (0, 0), false⟩] })] }
    sun := { State.reset.sun with tb := [(2, 1800000)] } }

theorem ringClash_regs : R.PCIEA_F_VRCFG 254 = R.NIM_DUP 6 := rfl

theorem ringClash_route : ringClash.route 6 = some (routeOf ringRoute) := by
  have hlist : ((ringClash.setting 0x10).getD []) = List.replicate 192 0 ++ ringRoute := rfl
  have hlen : (List.replicate 192 (0 : Byte) ++ ringRoute).length = 224 := by
    rw [List.length_append, List.length_replicate]
    rfl
  have hdrop : (List.replicate 192 (0 : Byte) ++ ringRoute).drop (32 * 6) = ringRoute := List.drop_left' (by rw [List.length_replicate])
  unfold State.route
  rw [hlist, routesOf, hlen, List.getElem?_map, List.getElem?_range (by decide), Option.map_some, hdrop]
  rfl

theorem ringClash_enabled : ringClash.flag (R.PCIEA_F_VRCFG_EN 254) = true := by decide

theorem ringClash_frames : (ringClash.routeSt 6).frames = [⟨8, 0, 0, 0, some (0, 0), false⟩] := by decide

theorem ringClash_run : ∃ t, exec (.provTimeout 6 8) ringClash = .next t ∧ (t.fn 254).vr = [] := by
  have hopen : ringClash.openFrame 6 8 = some ⟨8, 0, 0, 0, some (0, 0), false⟩ := by decide
  have hgo : 0 + 1800000 ≤ ringClash.tb2 ∧ ringClash.mayPublish = true := by decide
  have hexec : exec (.provTimeout 6 8) ringClash = execProvTimeout 6 8 ringClash := rfl
  rw [hexec]
  unfold execProvTimeout
  rw [show ((6 : Fin 64) : Nat) = 6 from rfl, ringClash_route, hopen]
  refine ⟨_, congrArg Host.Outcome.next (if_pos hgo), ?_⟩
  decide +kernel

/-- Refutes O47: a route's CLIENT may be any byte, and the register VRCFG of a client 254 has the offset of the register DUP of route 6. The
record of that route, as the primary of its pair, writes LASTCLAIM there and so clears the bit EN of the ring, in which the record is then
not written. -/
theorem not_verdicts : ¬ Obligations.Verdicts := by
  unfold Obligations.Verdicts
  intro h
  obtain ⟨-, hroute⟩ := h 6 8 ringClash
  obtain ⟨-, -, hprov⟩ := hroute _ ringClash_route _ _ ringClash_frames
  obtain ⟨hdue, -⟩ := hprov rfl 0 0 rfl
  obtain ⟨t, hexec, -, -, -, -, -, -, -, hring⟩ := hdue (by decide) (by decide)
  obtain ⟨t', hexec', hnone⟩ := ringClash_run
  cases hexec.symm.trans hexec'
  obtain ⟨rec, hrec, -⟩ := hring (by decide) ringClash_enabled (by decide)
  exact absurd (hnone.symm.trans hrec) (by simp)

end Sys2Proof.Machine
end

section
-- One proof after another: what waits for another costs the check memory.
set_option Elab.async false
/-! SUPPORT. The golden area in the self-tests (O40) -/
namespace Sys2Proof.Machine

/-! ### The golden area in the self-tests (O40) -/

/-- A device without the deployed lifecycle in its self-tests, with core 0 in TEST. -/
def testingDevice : State :=
  ((State.reset.setFld R.DEVICE_STATE_STATE stSELFTEST).setFld (fCoreState 0) csTEST).setFld R.KEEP_STATUS_LCS 0

/-- The same with a byte in the golden area of core 0. -/
def testedArea : State := { testingDevice with mem := [(0x10001F0000, 7)] }

/-- Tests that no core and no channel fails, with no injection recorded. -/
def quietTest : SelfTest := ⟨0, 0, 255, false, []⟩

theorem testingDevice_canonical : testingDevice.Canonical := ((State.canonical_reset.setFld _ _).setFld _ _).setFld _ _

theorem testedArea_canonical : testedArea.Canonical := by
  obtain ⟨hregs, -⟩ := testingDevice_canonical
  have hmem : SMap.wf (memDflt []) testedArea.mem := by decide
  exact ⟨hregs, hmem⟩

theorem testedArea_run : ∃ t, exec (.setNone quietTest) testedArea = .next t ∧ t.mem = [] :=
  ⟨_, rfl, by decide +kernel⟩

/-- Refutes O40: a core's injection test uses its golden area (R393), so the self-tests do not leave every byte of memory as it was. -/
theorem not_validationAndService : ¬ Obligations.ValidationAndService := by
  unfold Obligations.ValidationAndService
  intro h
  obtain ⟨-, hnone, -⟩ := h.1 testedArea quietTest testedArea_canonical
  obtain ⟨t, hexec, -, -, -, hmem⟩ := hnone (by decide) (by decide) (by decide)
  obtain ⟨t', hexec', hempty⟩ := testedArea_run
  cases hexec.symm.trans hexec'
  exact absurd (hmem.symm.trans hempty) (by decide)

end Sys2Proof.Machine
end

section
-- One proof after another: what waits for another costs the check memory.
set_option Elab.async false
/-! SUPPORT. Registers after a reset, entry to BOOT, power-up and boot (O39) -/
namespace Sys2Proof.Machine

/-! ### Registers after a reset (R134, R787) -/

section
variable {α : Type} {d : Nat → α}

theorem SMap.get_of_not_mem {m : SMap α} {k : Nat} (h : ∀ p ∈ m, p.1 ≠ k) : SMap.get d m k = d k := by
  rcases SMap.get_mem d m k with h' | h'
  · exact h'
  · exact absurd rfl (h _ h')

variable {g : Nat × α → Option (Nat × α)} (hkey : ∀ p q, g p = some q → q.1 = p.1)
include hkey

theorem SMap.get_filterMap_of_not_mem {m : SMap α} {k : Nat} (h : ∀ p ∈ m, p.1 ≠ k) : SMap.get d (m.filterMap g) k = d k := by
  refine SMap.get_of_not_mem fun q hq => ?_
  obtain ⟨p, hp, hgp⟩ := List.mem_filterMap.1 hq
  rw [hkey p q hgp]
  exact h p hp

/-- A listed key of a map whose entries are changed one by one. -/
theorem SMap.get_filterMap_of_mem {m : SMap α} (hm : m.Pairwise (fun p q => p.1 < q.1)) {p : Nat × α} (hp : p ∈ m) :
    SMap.get d (m.filterMap g) p.1 = ((g p).map Prod.snd).getD (d p.1) := by
  induction m with
  | nil => cases hp
  | cons x m ih =>
    obtain ⟨hx, hm'⟩ := List.pairwise_cons.1 hm
    rw [List.filterMap_cons]
    rcases List.mem_cons.1 hp with rfl | hmem
    · cases hg : g p with
      | none => exact SMap.get_filterMap_of_not_mem hkey fun q hq => (hx q hq).ne'
      | some q =>
        obtain ⟨k, v⟩ := q
        obtain rfl : k = p.1 := hkey _ _ hg
        exact if_pos rfl
    · have hne : p.1 ≠ x.1 := (hx p hmem).ne'
      cases hg : g x with
      | none => exact ih hm' hmem
      | some q =>
        obtain ⟨k, v⟩ := q
        obtain rfl : k = x.1 := hkey _ _ hg
        exact (if_neg hne).trans (ih hm' hmem)

end

/-- The fields of the register that begins at an offset. -/
def regFields (o : Nat) : List FieldRow :=
  match regAt o with
  | some (r, 0) => r.fields
  | _ => []

/-- The entry of a register after a reset. -/
def resetEntry (sel : Keep → Bool) (whole : Nat → Bool) (p : Nat × BitVec 64) : Option (Nat × BitVec 64) :=
  if whole p.1 then some p else
  match regAt p.1 with
  | some (r, 0) => if BitVec.ofNat 64 (keepWord sel p.2.toNat r.fields) = regReset p.1 then none
      else some (p.1, BitVec.ofNat 64 (keepWord sel p.2.toNat r.fields))
  | _ => none

theorem resetRegs_eq (sel : Keep → Bool) (whole : Nat → Bool) (m : SMap (BitVec 64)) :
    resetRegs sel whole m = m.filterMap (resetEntry sel whole) := rfl

theorem resetEntry_key (sel : Keep → Bool) (whole : Nat → Bool) (p q : Nat × BitVec 64) (h : resetEntry sel whole p = some q) : q.1 = p.1 := by
  unfold resetEntry at h
  split at h
  · cases h
    rfl
  · split at h
    · split at h
      · cases h
      · cases h
        rfl
    · cases h

theorem resetEntry_word (sel : Keep → Bool) {whole : Nat → Bool} {p : Nat × BitVec 64} (hw : whole p.1 = false) :
    ((resetEntry sel whole p).map Prod.snd).getD (regReset p.1) =
      if regFields p.1 = [] then regReset p.1 else BitVec.ofNat 64 (keepWord sel p.2.toNat (regFields p.1)) := by
  unfold resetEntry regFields
  rw [hw, if_neg Bool.false_ne_true]
  rcases h : regAt p.1 with _ | ⟨r, _ | b⟩
  · rfl
  · change (Option.map Prod.snd (if BitVec.ofNat 64 (keepWord sel p.2.toNat r.fields) = regReset p.1 then none
      else some (p.1, BitVec.ofNat 64 (keepWord sel p.2.toNat r.fields)))).getD (regReset p.1) =
      if r.fields = [] then regReset p.1 else BitVec.ofNat 64 (keepWord sel p.2.toNat r.fields)
    by_cases hnil : r.fields = []
    · have hreset : regReset p.1 = BitVec.ofNat 64 0 := by
        unfold regReset
        rw [h]
        change BitVec.ofNat 64 (resetWord r.fields) = _
        rw [hnil]
        rfl
      rw [if_pos hnil, hnil, hreset]
      rfl
    · rw [if_neg hnil]
      split_ifs with heq
      · exact heq.symm
      · rfl
  · rfl

/-- Fields of a register, highest first, each in its own bits and with a reset value that fits. -/
abbrev FieldsDown (l : List FieldRow) : Prop :=
  l.Pairwise (fun f g => g.lo + g.w ≤ f.lo) ∧ ∀ f ∈ l, f.lo + f.w ≤ 64 ∧ f.reset < 2 ^ f.w

/-- What a reset leaves of a field. -/
def FieldRow.left (sel : Keep → Bool) (old : Nat) (f : FieldRow) : Nat := if sel f.keep then old / 2 ^ f.lo % 2 ^ f.w else f.reset

theorem FieldRow.left_lt {sel : Keep → Bool} {old : Nat} {f : FieldRow} (h : f.reset < 2 ^ f.w) : f.left sel old < 2 ^ f.w := by
  unfold FieldRow.left
  split_ifs
  · exact Nat.mod_lt _ (Nat.two_pow_pos _)
  · exact h

theorem keepWord_cons (sel : Keep → Bool) (old : Nat) (f : FieldRow) (l : List FieldRow) :
    keepWord sel old (f :: l) = f.left sel old * 2 ^ f.lo + keepWord sel old l := rfl

theorem keepWord_lt (sel : Keep → Bool) (old : Nat) {l : List FieldRow} (h : FieldsDown l) {b : Nat} (hb : ∀ f ∈ l, f.lo + f.w ≤ b) :
    keepWord sel old l < 2 ^ b := by
  induction l generalizing b with
  | nil => exact Nat.two_pow_pos _
  | cons f l ih =>
    obtain ⟨hp, hfit⟩ := h
    obtain ⟨hf, hl⟩ := List.pairwise_cons.1 hp
    have hlow : keepWord sel old l < 2 ^ f.lo := ih ⟨hl, fun g hg => hfit g (List.mem_cons_of_mem _ hg)⟩ fun g hg => hf g hg
    have hv : f.left sel old < 2 ^ f.w := FieldRow.left_lt (hfit f (List.mem_cons_self ..)).2
    calc keepWord sel old (f :: l) < f.left sel old * 2 ^ f.lo + 2 ^ f.lo := by
          rw [keepWord_cons]
          exact Nat.add_lt_add_left hlow _
      _ = (f.left sel old + 1) * 2 ^ f.lo := (Nat.succ_mul ..).symm
      _ ≤ 2 ^ f.w * 2 ^ f.lo := Nat.mul_le_mul_right _ hv
      _ = 2 ^ (f.lo + f.w) := by rw [← pow_add, Nat.add_comm]
      _ ≤ 2 ^ b := Nat.pow_le_pow_right (by decide) (hb f (List.mem_cons_self ..))

theorem keepWord_field (sel : Keep → Bool) (old : Nat) {l : List FieldRow} (h : FieldsDown l) {g : FieldRow} (hg : g ∈ l) :
    keepWord sel old l / 2 ^ g.lo % 2 ^ g.w = g.left sel old := by
  induction l with
  | nil => cases hg
  | cons f l ih =>
    obtain ⟨hp, hfit⟩ := h
    obtain ⟨hf, hl⟩ := List.pairwise_cons.1 hp
    have htail : FieldsDown l := ⟨hl, fun g hg => hfit g (List.mem_cons_of_mem _ hg)⟩
    rw [keepWord_cons]
    rcases List.mem_cons.1 hg with rfl | hmem
    · have hlow : keepWord sel old l < 2 ^ g.lo := keepWord_lt sel old htail fun g hg => hf g hg
      rw [Nat.add_comm, Nat.add_mul_div_right _ _ (Nat.two_pow_pos _), Nat.div_eq_of_lt hlow, Nat.zero_add]
      exact Nat.mod_eq_of_lt (FieldRow.left_lt (hfit g (List.mem_cons_self ..)).2)
    · obtain ⟨k, hk⟩ := Nat.exists_eq_add_of_le (hf g hmem)
      have hpow : f.left sel old * 2 ^ f.lo = f.left sel old * 2 ^ k * 2 ^ g.w * 2 ^ g.lo := by
        rw [hk, pow_add, pow_add]
        ring
      rw [hpow, Nat.add_comm, Nat.add_mul_div_right _ _ (Nat.two_pow_pos _), Nat.add_mul_mod_self_right]
      exact ih htail hmem

theorem keepWord_none (old : Nat) (l : List FieldRow) : keepWord (fun _ => false) old l = resetWord l := by
  induction l with
  | nil => rfl
  | cons f l ih => rw [keepWord_cons, ih]; rfl

/-- A field of a word that a reset has made. -/
theorem get_keepWord (sel : Keep → Bool) (old : Nat) {l : List FieldRow} (h : FieldsDown l) {f : Fld} {g : FieldRow} (hg : g ∈ l) (hlo : g.lo = f.lo)
    (hw : g.w = f.w) : f.get (BitVec.ofNat 64 (keepWord sel old l)) = g.left sel old := by
  unfold Fld.get
  rw [BitVec.toNat_ofNat, Nat.mod_eq_of_lt (keepWord_lt sel old h fun f hf => (h.2 f hf).1), ← hlo, ← hw]
  exact keepWord_field sel old h hg

/-- The field of a register that a reset reaches by its kind, with its reset value. -/
abbrev Fld.KeptAs (f : Fld) (k : Keep) (reset : Nat) : Prop :=
  FieldsDown (regFields f.off) ∧ ∃ g ∈ regFields f.off, g.lo = f.lo ∧ g.w = f.w ∧ g.keep = k ∧ g.reset = reset

theorem regReset_of_fields {o : Nat} {g : FieldRow} (hg : g ∈ regFields o) : regReset o = BitVec.ofNat 64 (resetWord (regFields o)) := by
  unfold regFields at hg ⊢
  unfold regReset
  revert hg
  rcases regAt o with _ | ⟨r, _ | b⟩
  · exact fun hg => absurd hg List.not_mem_nil
  · exact fun _ => rfl
  · exact fun hg => absurd hg List.not_mem_nil

section
variable {s t : State} {sel : Keep → Bool} {whole : Nat → Bool} {f : Fld} {k : Keep} {reset : Nat}

theorem Fld.KeptAs.get_reset (hk : f.KeptAs k reset) : f.get (regReset f.off) = reset := by
  obtain ⟨hd, g, hg, hlo, hw, -, rfl⟩ := hk
  rw [regReset_of_fields hg, ← keepWord_none 0, get_keepWord _ _ hd hg hlo hw]
  rfl

theorem reg_of_reset_whole (hs : SMap.wf regReset s.regs) (ht : t.regs = resetRegs sel whole s.regs) {o : Nat} (hw : whole o = true) :
    t.reg o = s.reg o := by
  unfold State.reg
  rw [ht, resetRegs_eq]
  by_cases h : ∀ p ∈ s.regs, p.1 ≠ o
  · rw [SMap.get_filterMap_of_not_mem (resetEntry_key sel whole) h, SMap.get_of_not_mem h]
  · push Not at h
    obtain ⟨p, hp, rfl⟩ := h
    rw [SMap.get_filterMap_of_mem (resetEntry_key sel whole) hs.1 hp, SMap.get_of_mem hs.1 hp]
    unfold resetEntry
    rw [hw]
    rfl

/-- A field after a reset that does not spare its whole register. -/
theorem fld_of_reset (hs : SMap.wf regReset s.regs) (ht : t.regs = resetRegs sel whole s.regs) (hk : f.KeptAs k reset)
    (hw : whole f.off = false) : t.fld f = if sel k then s.fld f else reset := by
  have hreset := hk.get_reset
  obtain ⟨hd, g, hg, hlo, hwd, rfl, rfl⟩ := hk
  unfold State.fld State.reg
  rw [ht, resetRegs_eq]
  by_cases h : ∀ p ∈ s.regs, p.1 ≠ f.off
  · rw [SMap.get_filterMap_of_not_mem (resetEntry_key sel whole) h, SMap.get_of_not_mem h, hreset]
    exact (ite_self _).symm
  · push Not at h
    obtain ⟨p, hp, hpo⟩ := h
    rw [← hpo] at hg hd hw ⊢
    rw [SMap.get_filterMap_of_mem (resetEntry_key sel whole) hs.1 hp, resetEntry_word sel hw, if_neg (List.ne_nil_of_mem hg),
      get_keepWord sel _ hd hg hlo hwd, SMap.get_of_mem hs.1 hp]
    unfold FieldRow.left Fld.get
    rw [hlo, hwd]

theorem fld_of_reset_kept (hs : SMap.wf regReset s.regs) (ht : t.regs = resetRegs sel whole s.regs) (hk : f.KeptAs k reset)
    (hsel : sel k = true) : t.fld f = s.fld f := by
  cases hw : whole f.off with
  | true => exact congrArg f.get (reg_of_reset_whole hs ht hw)
  | false => exact (fld_of_reset hs ht hk hw).trans (if_pos hsel)

end

theorem DEV_EPOCH_kept : R.DEVICE_STATE_DEV_EPOCH.KeptAs .cold 0 := by decide

/-! ### Entry to BOOT (R103, R106, R124) -/

theorem State.reg_clearRegs (s : State) (lo len o : Nat) :
    (s.clearRegs lo len).reg o = if lo ≤ o ∧ o < lo + len then regReset o else s.reg o := by
  unfold State.reg State.clearRegs
  rw [SMap.get_dropKeys]
  simp only [Bool.and_eq_true, decide_eq_true_eq]

/-- The fields that entering BOOT leaves: none of the Keep, of the power domains, of the core states or of the settings in force, and of
DEVICE.STATE only GRACE. -/
def Fld.bootHolds (g : Fld) : Bool :=
  g.off / 0x10000 != 6 && g.off / 0x10000 != 0x11 && g.off != R.PCIEA_F_LOST 0 && g.off != R.NVM_STATUS && g.off != R.DEVICE_CORESTATE &&
    (g.off != R.DEVICE_STATE || (g.lo == 18 && g.w == 1))

theorem Fld.bootHolds_iff (g : Fld) : g.bootHolds = true ↔ g.off / 0x10000 ≠ 6 ∧ g.off / 0x10000 ≠ 0x11 ∧ g.off ≠ R.PCIEA_F_LOST 0 ∧
    g.off ≠ R.NVM_STATUS ∧ g.off ≠ R.DEVICE_CORESTATE ∧ (g.off ≠ R.DEVICE_STATE ∨ g.lo = 18 ∧ g.w = 1) := by
  simp only [Fld.bootHolds, Bool.and_eq_true, Bool.or_eq_true, bne_iff_ne, beq_iff_eq, and_assoc]

/-- The fields that entering BOOT leaves are the same. -/
def State.BootKept (s t : State) : Prop := ∀ g : Fld, g.bootHolds = true → t.fld g = s.fld g

namespace State.BootKept
variable {s t u : State}

theorem refl : State.BootKept s s := fun _ _ => rfl
theorem trans (h : State.BootKept s t) (k : State.BootKept t u) : State.BootKept s u := fun g hg => (k g hg).trans (h g hg)
theorem regs (h : t.regs = s.regs) : State.BootKept s t := fun _ _ => State.fld_congr h _
theorem flag (h : State.BootKept s t) {g : Fld} (hg : g.bootHolds = true) : t.flag g = s.flag g := congrArg (· == 1) (h g hg)

/-- A field outside. -/
theorem setOff (s : State) (f : Fld) (v : Nat) (h : ∀ g : Fld, g.bootHolds = true → g.off ≠ f.off) : State.BootKept s (s.setFld f v) :=
  fun g hg => State.fld_setFld_off _ _ _ _ (h g hg)

theorem setKeep (s : State) (f : Fld) (v : Nat) (h : f.off / 0x10000 = 6) : State.BootKept s (s.setFld f v) :=
  setOff s f v fun g hg ho => ((Fld.bootHolds_iff g).1 hg).1 (ho ▸ h)

theorem setCore (s : State) (n v : Nat) : State.BootKept s (s.setFld (fCoreState n) v) :=
  setOff s _ v fun g hg ho => ((Fld.bootHolds_iff g).1 hg).2.2.2.2.1 ho

/-- A field of DEVICE.STATE beside GRACE. -/
theorem setState (s : State) (f : Fld) (v : Nat) (ho : f.off = R.DEVICE_STATE) (hf : Nat.ble (f.lo + f.w) 64 = true)
    (h : (Nat.ble (f.lo + f.w) 18 || Nat.ble 19 f.lo) = true) : State.BootKept s (s.setFld f v) := by
  intro g hg
  obtain ⟨-, -, -, -, -, hst⟩ := (Fld.bootHolds_iff g).1 hg
  refine State.fld_setFld_other s f g v (Nat.le_of_ble_eq_true hf) ?_
  rcases hst with hne | ⟨hlo, hw⟩
  · exact .inl (ho ▸ hne)
  · rw [hlo, hw]
    exact .inr ((Bool.or_eq_true_iff.1 h).imp Nat.le_of_ble_eq_true Nat.le_of_ble_eq_true)

theorem clear (s : State) (lo len : Nat) (h : ∀ o, lo ≤ o → o < lo + len → o / 0x10000 = 6) : State.BootKept s (s.clearRegs lo len) := by
  intro g hg
  rw [State.fld, State.reg_clearRegs, if_neg fun hr => ((Fld.bootHolds_iff g).1 hg).1 (h _ hr.1 hr.2)]
  rfl

theorem changeState (s : State) (n : Nat) : State.BootKept s (s.setState n) := by
  intro g hg
  obtain ⟨-, -, hl, -, -, hst⟩ := (Fld.bootHolds_iff g).1 hg
  rcases hst with hne | ⟨hlo, -⟩
  · exact State.fld_setState_other s n hne hl
  · exact State.fld_setState_apart s n hl (hlo ▸ by decide)

theorem iter {g : Nat → State → State} (hg : ∀ k u, State.BootKept u (g k u)) (s : State) (n : Nat) : State.BootKept s (s.iter n g) :=
  State.iter_keeps (P := State.BootKept s) (fun k u h => h.trans (hg k u)) refl n

end State.BootKept

/-- The epoch, the measurements, the tenant and the core states of a boot. -/
def State.bootForget (s : State) : State := (s.bumpDevEpoch.bumpMeas).forgetTenant.coresToTest

/-- What the device keeps of itself at a boot. -/
def State.bootNotes (s : State) : State :=
  { s with
    dev := { s.dev with lost := s.lostAtBoot, moved := [], holdFrom := stBOOT, imageKept := false }
    nvm := { s.nvm with force := none }
    jobs := { s.jobs with settings := [], decl := Declared.nothing } }

theorem State.bootNotes_regs (s : State) : s.bootNotes.regs = s.regs := rfl

/-- What a boot does before it changes the state. -/
def State.bootMarks (s : State) : State :=
  (s.bootForget.bootNotes.setBothDown.setFld R.DEVICE_STATE_INVALID 1).setFld R.NVM_STATUS_INFORCE 0

theorem State.enterBoot_eq (s : State) : s.enterBoot = s.bootMarks.setState stBOOT := rfl

theorem State.forgetTenant_kept (s : State) : State.BootKept s s.forgetTenant := by
  have h1 := State.BootKept.clear s (R.KEEP_TENANT 0) 16 fun o h h' => by
    unfold R.KEEP_TENANT at h h'
    omega
  have h2 := State.BootKept.clear (s.clearRegs (R.KEEP_TENANT 0) 16) (R.KEEP_BSLOT 0) 0x100 fun o h h' => by
    unfold R.KEEP_BSLOT at h h'
    omega
  have h3 := State.BootKept.setKeep ((s.clearRegs (R.KEEP_TENANT 0) 16).clearRegs (R.KEEP_BSLOT 0) 0x100) R.KEEP_STATUS_BUNDLES 0 (by decide)
  exact (h1.trans h2).trans (h3.trans (.regs rfl))

theorem State.coresToTest_kept (s : State) : State.BootKept s s.coresToTest := State.BootKept.iter (fun n u => .setCore u n _) s 16

theorem State.bumpDevEpoch_kept (s : State) : State.BootKept s s.bumpDevEpoch :=
  State.BootKept.setState s R.DEVICE_STATE_DEV_EPOCH _ rfl rfl rfl

theorem State.bootForget_kept (s : State) : State.BootKept s s.bootForget :=
  ((s.bumpDevEpoch_kept.trans (.setKeep _ R.KEEP_MEASGEN_GEN _ (by decide))).trans (State.forgetTenant_kept _)).trans (State.coresToTest_kept _)

theorem State.bootMarks_kept (s : State) : State.BootKept s s.bootMarks := by
  have h1 : State.BootKept s s.bootForget.bootNotes := s.bootForget_kept.trans (.regs (State.bootNotes_regs _))
  have h2 (u : State) : State.BootKept u u.setBothDown := .setState u R.DEVICE_STATE_PCIE_BOTH_DOWN _ rfl rfl rfl
  have h3 (u : State) : State.BootKept u (u.setFld R.DEVICE_STATE_INVALID 1) := .setState u _ _ rfl rfl rfl
  have h4 (u : State) : State.BootKept u (u.setFld R.NVM_STATUS_INFORCE 0) := .setOff u _ _ fun g hg => by
    obtain ⟨-, -, -, hnvm, -⟩ := (Fld.bootHolds_iff g).1 hg
    exact hnvm
  exact ((h1.trans (h2 _)).trans (h3 _)).trans (h4 _)

theorem State.enterBoot_kept (s : State) : State.BootKept s s.enterBoot := by
  rw [State.enterBoot_eq]
  exact s.bootMarks_kept.trans (.changeState _ _)

theorem State.enterBoot_st (s : State) : s.enterBoot.st = stBOOT := by
  rw [State.enterBoot_eq]
  exact State.st_setState _ (by decide)

theorem State.enterBoot_invalid (s : State) : s.enterBoot.flag R.DEVICE_STATE_INVALID = true := by
  have h : s.bootMarks.fld R.DEVICE_STATE_INVALID = 1 := by
    rw [State.bootMarks, State.fld_setFld_off _ _ _ _ (by decide), State.fld_setFld_here _ _ _ rfl]
    rfl
  rw [State.enterBoot_eq, State.flag, State.fld_setState_apart _ _ (by decide) (by decide), h]
  rfl

theorem State.nextDevEpoch_lt (s : State) : s.nextDevEpoch < 256 := by
  have h : s.fld R.DEVICE_STATE_DEV_EPOCH < 256 := Nat.mod_lt _ (by decide)
  unfold State.nextDevEpoch
  split_ifs with hff <;> omega

theorem State.bumpDevEpoch_epoch (s : State) : s.bumpDevEpoch.fld R.DEVICE_STATE_DEV_EPOCH = s.nextDevEpoch :=
  (State.fld_setFld_here _ _ _ rfl).trans (Nat.mod_eq_of_lt s.nextDevEpoch_lt)

/-- The fields of DEVICE.STATE through what a boot forgets. -/
theorem State.bootForget_state (s : State) {g : Fld} (hg : g.off = R.DEVICE_STATE) : s.bootForget.fld g = s.bumpDevEpoch.fld g := by
  have hforget (v : State) : v.forgetTenant.fld g = v.fld g := by
    have hb : ((v.clearRegs (R.KEEP_TENANT 0) 16).clearRegs (R.KEEP_BSLOT 0) 0x100).fld g = v.fld g := by
      unfold State.fld
      rw [hg, State.reg_clearRegs, if_neg (by decide), State.reg_clearRegs, if_neg (by decide)]
    exact (State.fld_setFld_off _ R.KEEP_STATUS_BUNDLES _ _ (by rw [hg]; decide)).trans hb
  have hcore (n : Nat) : g.off ≠ (fCoreState n).off := by
    rw [hg]
    exact show R.DEVICE_STATE ≠ R.DEVICE_CORESTATE by decide
  have hcores (v : State) : v.coresToTest.fld g = v.fld g :=
    State.iter_keeps (P := fun u => u.fld g = v.fld g) (fun n u h => (State.fld_setFld_off _ _ _ _ (hcore n)).trans h) rfl 16
  exact (hcores _).trans ((hforget _).trans (State.fld_setFld_off _ R.KEEP_MEASGEN_GEN _ _ (by rw [hg]; decide)))

theorem State.enterBoot_epoch (s : State) : s.enterBoot.fld R.DEVICE_STATE_DEV_EPOCH = s.nextDevEpoch := by
  have h : s.bootMarks.fld R.DEVICE_STATE_DEV_EPOCH = s.bootForget.fld R.DEVICE_STATE_DEV_EPOCH := by
    rw [State.bootMarks, State.fld_setFld_off _ _ _ _ (by decide), State.fld_setFld_apart _ _ _ _ rfl rfl, State.setBothDown,
      State.fld_setFld_apart _ _ _ _ rfl rfl, State.fld_congr (State.bootNotes_regs _)]
  rw [State.enterBoot_eq, State.fld_setState_apart _ _ (by decide) (by decide), h, s.bootForget_state rfl, s.bumpDevEpoch_epoch]

theorem State.iter_congr (s : State) {n : Nat} {g h : Nat → State → State} (hgh : ∀ k < n, ∀ u, g k u = h k u) : s.iter n g = s.iter n h := by
  induction n with
  | zero => rfl
  | succ n ih => rw [State.iter_succ, State.iter_succ, ih fun k hk => hgh k (by omega), hgh n (by omega)]

/-- `State.iter_at` where the other steps are those of the row. -/
theorem State.iter_at_lt {g : Nat → State → State} {P Q : State → Prop} {c n : Nat} (hc : c < n) (hpre : ∀ k < n, ∀ u, k ≠ c → P u → P (g k u))
    (hat : ∀ u, P u → Q (g c u)) (hpost : ∀ k < n, ∀ u, k ≠ c → Q u → Q (g k u)) {s : State} (hs : P s) : Q (s.iter n g) := by
  rw [State.iter_congr s (h := fun k u => if k < n then g k u else u) fun k hk u => (if_pos hk).symm]
  refine State.iter_at (P := P) hc (fun k u hk h => ?_) (fun u h => ?_) (fun k u hk h => ?_) hs
  · by_cases hkn : k < n
    · rw [if_pos hkn]
      exact hpre k hkn u hk h
    · rw [if_neg hkn]
      exact h
  · rw [if_pos hc]
    exact hat u h
  · by_cases hkn : k < n
    · rw [if_pos hkn]
      exact hpost k hkn u hk h
    · rw [if_neg hkn]
      exact h

theorem fCoreState_fits {n : Nat} (hn : n < 16) : (fCoreState n).lo + (fCoreState n).w ≤ 64 := by
  simp only [fCoreState]
  omega

theorem State.core_state_other (s : State) {k n : Nat} (hk : k < 16) (h : k ≠ n) (v : Nat) :
    (s.setFld (fCoreState k) v).fld (fCoreState n) = s.fld (fCoreState n) := by
  refine State.fld_setFld_other _ _ _ _ (fCoreState_fits hk) (.inr ?_)
  simp only [fCoreState]
  omega

/-- The cores that take part in a boot. -/
theorem State.coresToTest_state (s : State) {n : Nat} (hn : n < 16) :
    s.coresToTest.fld (fCoreState n) = if s.hasCore n then csTEST else csABSENT := by
  have hcaps (v : State) (k x : Nat) : (v.setFld (fCoreState k) x).hasCore n = v.hasCore n := by
    unfold State.hasCore
    rw [State.fld_setFld_off _ _ _ _ (show R.DEVICE_CAPS ≠ R.DEVICE_CORESTATE by decide)]
  refine State.iter_at_lt (P := fun u => u.hasCore n = s.hasCore n)
    (Q := fun u => u.fld (fCoreState n) = if s.hasCore n then csTEST else csABSENT) hn (fun k _ u _ h => (hcaps ..).trans h) (fun u h => ?_)
    (fun k hk u hne h => (u.core_state_other hk hne _).trans h) rfl
  rw [State.fld_setFld _ _ _ (fCoreState_fits hn), h]
  split_ifs <;> rfl

theorem State.enterBoot_core {s : State} {n : Nat} (hn : n < 16) (h : s.hasCore n = true) : s.enterBoot.fld (fCoreState n) = csTEST := by
  have hcaps : ((s.bumpDevEpoch.bumpMeas).forgetTenant).hasCore n = s.hasCore n := by
    have hkept : State.BootKept s ((s.bumpDevEpoch.bumpMeas).forgetTenant) :=
      (s.bumpDevEpoch_kept.trans (.setKeep _ R.KEEP_MEASGEN_GEN _ (by decide))).trans (State.forgetTenant_kept _)
    unfold State.hasCore
    rw [hkept R.DEVICE_CAPS_CORE_MASK rfl]
  have hforget : s.bootForget.fld (fCoreState n) = csTEST := by
    rw [State.bootForget, State.coresToTest_state _ hn, hcaps, h]
    rfl
  have hstate (u : State) (f : Fld) (v : Nat) (hf : f.off ≠ R.DEVICE_CORESTATE) : (u.setFld f v).fld (fCoreState n) = u.fld (fCoreState n) :=
    State.fld_setFld_off _ _ _ _ fun h => hf h.symm
  have hmarks : s.bootMarks.fld (fCoreState n) = csTEST := by
    rw [State.bootMarks, hstate _ _ _ (by decide), hstate _ _ _ (by decide), State.setBothDown, hstate _ _ _ (by decide),
      State.fld_congr (State.bootNotes_regs _), hforget]
  rw [State.enterBoot_eq, State.fld_setState_other _ _ (show R.DEVICE_CORESTATE ≠ _ by decide) (show R.DEVICE_CORESTATE ≠ _ by decide), hmarks]

/-! What a boot leaves beside the registers. -/

/-- Between two states registers, jobs and keys differ. -/
def State.Forgets (s t : State) : Prop := ∃ regs jobs keep, t = { s with regs := regs, jobs := jobs, keep := keep }

theorem State.Forgets.trans {s t u : State} (h : State.Forgets s t) (k : State.Forgets t u) : State.Forgets s u := by
  obtain ⟨_, _, _, rfl⟩ := h
  obtain ⟨_, _, _, rfl⟩ := k
  exact ⟨_, _, _, rfl⟩

theorem State.Forgets.setFld (s : State) (f : Fld) (v : Nat) : State.Forgets s (s.setFld f v) := ⟨_, _, _, rfl⟩

theorem State.Forgets.clearRegs (s : State) (lo len : Nat) : State.Forgets s (s.clearRegs lo len) := ⟨_, _, _, rfl⟩

theorem State.forgetTenant_forgets (s : State) : State.Forgets s s.forgetTenant := by
  have h (u : State) : State.Forgets u { u with jobs := { u.jobs with progs := [] }, keep := { u.keep with bundles := [] } } := ⟨_, _, _, rfl⟩
  exact (((State.Forgets.clearRegs s _ _).trans (.clearRegs _ _ _)).trans (.setFld _ R.KEEP_STATUS_BUNDLES 0)).trans (h _)

theorem State.bootForget_forgets (s : State) : State.Forgets s s.bootForget := by
  have hcores (u : State) : State.Forgets u u.coresToTest :=
    State.iter_keeps (P := State.Forgets u) (fun n v h => h.trans (.setFld ..)) ⟨_, _, _, rfl⟩ 16
  exact ((((State.Forgets.setFld s R.DEVICE_STATE_DEV_EPOCH _).trans (.setFld _ R.KEEP_MEASGEN_GEN _)).trans (State.forgetTenant_forgets _)).trans
    (hcores _))

theorem State.bootNotes_dev (s : State) : s.bootNotes.dev =
    { s.dev with lost := s.lostAtBoot, moved := [], holdFrom := stBOOT, imageKept := false } := rfl

/-- A boot leaves cores, memory, the Reeve and the parameters of the safe I/O. -/
theorem State.bootMarks_rest (s : State) : ∃ regs jobs keep dev nvm, s.bootMarks =
    { s with regs := regs, jobs := jobs, keep := keep, dev := dev, nvm := nvm } := by
  obtain ⟨_, _, _, h⟩ := s.bootForget_forgets
  have hnotes (u : State) : ∃ dev nvm jobs, u.bootNotes = { u with dev := dev, nvm := nvm, jobs := jobs } := ⟨_, _, _, rfl⟩
  obtain ⟨_, _, _, hn⟩ := hnotes s.bootForget
  have hmarks (u : State) : State.Forgets u ((u.setBothDown.setFld R.DEVICE_STATE_INVALID 1).setFld R.NVM_STATUS_INFORCE 0) :=
    ((State.Forgets.setFld u R.DEVICE_STATE_PCIE_BOTH_DOWN _).trans (.setFld _ R.DEVICE_STATE_INVALID 1)).trans (.setFld _ R.NVM_STATUS_INFORCE 0)
  obtain ⟨_, _, _, hm⟩ := hmarks s.bootForget.bootNotes
  rw [State.bootMarks, hm, hn, h]
  exact ⟨_, _, _, _, _, rfl⟩

theorem State.bootMarks_dev (s : State) : s.bootMarks.dev =
    { s.dev with lost := s.bootForget.lostAtBoot, moved := [], holdFrom := stBOOT, imageKept := false } := by
  obtain ⟨_, _, _, h⟩ := s.bootForget_forgets
  have hdev : s.bootForget.dev = s.dev := by rw [h]
  rw [State.bootMarks, State.setFld_dev, State.setFld_dev, State.setBothDown, State.setFld_dev, State.bootNotes_dev, hdev]

theorem State.enterBoot_dev (s : State) : s.enterBoot.dev =
    { s.dev with lost := s.bootForget.lostAtBoot, moved := [], holdFrom := stBOOT, imageKept := false } := by
  rw [State.enterBoot_eq, (State.setState_device _ _).1, s.bootMarks_dev]

theorem State.enterBoot_off (s : State) : s.enterBoot.dev.off = s.dev.off := by
  have h : ∀ (d : Dev) (l : Nat) (m : SMap Nat) (f : Nat), ({ d with lost := l, moved := m, holdFrom := f, imageKept := false } : Dev).off = d.off :=
    fun _ _ _ _ => rfl
  rw [State.enterBoot_dev, h]

theorem State.enterBoot_rest (s : State) : s.enterBoot.cores = s.cores ∧ s.enterBoot.reeve = s.reeve ∧ s.enterBoot.pending = s.pending ∧
    s.enterBoot.param = s.param := by
  obtain ⟨_, _, _, _, _, h⟩ := s.bootMarks_rest
  have hout : State.Outer {R.DEVICE_STATE, R.PCIEA_F_LOST 0} s.bootMarks (s.bootMarks.setState stBOOT) :=
    State.Outer.setState _ (.inl rfl) (.inr rfl) _
  obtain ⟨_, _, _, _, _, _, ho⟩ := hout.shape
  refine ⟨?_, ?_, ?_, ?_⟩
  · rw [State.enterBoot_eq, hout.cores, h]
  · rw [State.enterBoot_eq, (State.setState_device _ _).2, h]
  · rw [State.enterBoot_eq, ho, h]
  · rw [State.enterBoot_eq, ho, h]

/-! ### Power-up (R79, R83, R118, R788) -/

/-- Between two states only registers differ. -/
def State.RegsOnly (s t : State) : Prop := ∃ r, t = { s with regs := r }

namespace State.RegsOnly
variable {s t u : State}

theorem refl : State.RegsOnly s s := ⟨_, rfl⟩
theorem trans (h : State.RegsOnly s t) (k : State.RegsOnly t u) : State.RegsOnly s u := by
  obtain ⟨_, rfl⟩ := h
  obtain ⟨_, rfl⟩ := k
  exact ⟨_, rfl⟩
theorem setReg (s : State) (o : Nat) (v : BitVec 64) : State.RegsOnly s (s.setReg o v) := ⟨_, rfl⟩
theorem setFld (s : State) (f : Fld) (v : Nat) : State.RegsOnly s (s.setFld f v) := ⟨_, rfl⟩
theorem satInc (s : State) (f : Fld) : State.RegsOnly s (s.satInc f) := ⟨_, rfl⟩
theorem iter {g : Nat → State → State} (hg : ∀ k u, State.RegsOnly u (g k u)) (s : State) (n : Nat) : State.RegsOnly s (s.iter n g) :=
  State.iter_keeps (P := State.RegsOnly s) (fun k u h => h.trans (hg k u)) refl n
theorem dev (h : State.RegsOnly s t) : t.dev = s.dev := by obtain ⟨_, rfl⟩ := h; rfl
theorem cores (h : State.RegsOnly s t) : t.cores = s.cores := by obtain ⟨_, rfl⟩ := h; rfl
theorem mem (h : State.RegsOnly s t) : t.mem = s.mem := by obtain ⟨_, rfl⟩ := h; rfl
theorem reeve (h : State.RegsOnly s t) : t.reeve = s.reeve := by obtain ⟨_, rfl⟩ := h; rfl
theorem pending (h : State.RegsOnly s t) : t.pending = s.pending := by obtain ⟨_, rfl⟩ := h; rfl
theorem param (h : State.RegsOnly s t) : t.param = s.param := by obtain ⟨_, rfl⟩ := h; rfl

end State.RegsOnly

theorem State.powerDomains_regs (s : State) : State.RegsOnly s s.powerDomains :=
  State.RegsOnly.iter (fun d u => by
    split_ifs
    · exact ⟨_, rfl⟩
    · exact .refl) s 128

/-- The power domains are no field of a boot. -/
theorem State.powerDomains_kept (s : State) : ∀ g : Fld, g.off / 0x10000 ≠ 0x11 → s.powerDomains.fld g = s.fld g := by
  intro g hg
  have hset (u : State) (d : Nat) : (u.setDom d true).fld g = u.fld g := by
    unfold State.setDom
    dsimp only
    rw [if_pos rfl]
    refine State.fld_setFld_off _ _ _ _ fun h => hg ?_
    rw [h]
    split_ifs <;> rfl
  refine State.iter_keeps (P := fun u => u.fld g = s.fld g) (fun d u h => ?_) rfl 128
  split_ifs
  · exact (hset u d).trans h
  · exact h

/-- The straps as sampled. -/
theorem State.takeStraps_shows (s : State) (v : BitVec 2) : (s.takeStraps v).flag R.DEVICE_STRAPS_QSPI_MODE = v.getLsbD 1 ∧
    (s.takeStraps v).flag R.DEVICE_STRAPS_PEB_ROLE = (s.hasPortB && v.getLsbD 0) := by
  have hw (f : Fld) (hf : f.off = R.DEVICE_STRAPS) : (s.takeStraps v).fld f = f.get (BitVec.ofNat 64 (if s.hasPortB then v.toNat else v.toNat / 2 * 2)) := by
    unfold State.takeStraps State.fld
    rw [State.reg_setReg, if_pos hf]
  unfold State.flag
  rw [hw _ rfl, hw _ rfl]
  have hall : ∀ v : BitVec 2, v = 0 ∨ v = 1 ∨ v = 2 ∨ v = 3 := by decide
  have hv := hall v
  clear hw
  cases s.hasPortB <;> rcases hv with rfl | rfl | rfl | rfl <;> decide

theorem State.takeStraps_off (s : State) (v : BitVec 2) {f : Fld} (hf : f.off ≠ R.DEVICE_STRAPS) : (s.takeStraps v).fld f = s.fld f := by
  unfold State.takeStraps State.fld
  rw [State.reg_setReg, if_neg hf]

theorem State.takeStraps_regs (s : State) (v : BitVec 2) : State.RegsOnly s (s.takeStraps v) := .setReg ..

/-- Release of PORST_N while the die has power. -/
theorem powerOn_release (s : State) (sramOk : Bool) (v : BitVec 2) (hoff : s.dev.off = false) (hlow : s.dev.pinLow = true) :
    ∃ t, exec (.powerOn false ⟨sramOk, v⟩) s = .next t ∧ t.dev.pinLow = false ∧ t.st = s.st ∧ t.fld R.DEVICE_BOOTSTAT_STEP = 2 ∧
      t.flag R.DEVICE_STRAPS_QSPI_MODE = v.getLsbD 1 ∧ t.flag R.DEVICE_STRAPS_PEB_ROLE = (s.hasPortB && v.getLsbD 0) ∧
      t.cores = s.cores ∧ t.mem = s.mem := by
  obtain ⟨u, hu⟩ : ∃ u : State, u = { s with dev := { s.dev with pinLow := false, pgoodLow := false } } := ⟨_, rfl⟩
  have hexec : exec (.powerOn false ⟨sramOk, v⟩) s = .next ((u.lockPlls.setFld R.DEVICE_BOOTSTAT_STEP 2).takeStraps v) := by
    rw [hu]
    exact congrArg Host.Outcome.next ((if_neg Bool.false_ne_true).trans ((if_neg (by rw [hoff]; exact Bool.false_ne_true)).trans (if_pos hlow)))
  obtain ⟨w, hw⟩ : ∃ w, w = u.lockPlls.setFld R.DEVICE_BOOTSTAT_STEP 2 := ⟨_, rfl⟩
  have hfld (g : Fld) (h1 : g.off ≠ R.DEVICE_CLKSTAT) (h2 : g.off ≠ R.DEVICE_BOOTSTAT) : w.fld g = s.fld g := by
    rw [hw, State.fld_setFld_off _ _ _ _ h2, State.lockPlls, State.fld_setFld_off _ _ _ _ h1, hu]
    rfl
  have hport : w.hasPortB = s.hasPortB := congrArg (· == 1) (hfld R.DEVICE_CAPS_PCIEB (by decide) (by decide))
  obtain ⟨hq, hp⟩ := w.takeStraps_shows v
  have hregs : State.RegsOnly u (w.takeStraps v) := by
    rw [hw]
    exact ((State.RegsOnly.setFld u R.DEVICE_CLKSTAT_PLL_LOCK _).trans (.setFld ..)).trans (State.takeStraps_regs ..)
  rw [hexec, ← hw]
  refine ⟨_, rfl, ?_, ?_, ?_, hq, by rw [← hport]; exact hp, ?_, ?_⟩
  · rw [hregs.dev, hu]
  · exact (State.takeStraps_off _ _ (by decide)).trans (hfld _ (by decide) (by decide))
  · rw [State.takeStraps_off _ _ (by decide), hw, State.fld_setFld_here _ _ _ rfl]
    rfl
  · rw [hregs.cores, hu]
  · rw [hregs.mem, hu]

/-! ### The Verifier rails return (R788) -/

/-- The die without what its registers held, all but the Reeve's page. -/
def State.railsBare (s : State) : State :=
  { s with
    regs := resetRegs (fun k => k == Keep.never) (fun o => o / 0x10000 == 3) s.regs
    fns := []
    dev := { s.dev with off := false, pinLow := false, pgoodLow := false } }

theorem State.railsBare_regs (s : State) : s.railsBare.regs = resetRegs (fun k => k == Keep.never) (fun o => o / 0x10000 == 3) s.regs := rfl
theorem State.railsBare_dev (s : State) : s.railsBare.dev = { s.dev with off := false, pinLow := false, pgoodLow := false } := rfl

/-- The marks of returned rails: grace goes on, the lifecycle, the PLLs and the step of the boot. -/
def State.railsMarks (s : State) (grace : Nat) : State :=
  let s := ((s.setFld R.DEVICE_STATE_GRACE grace).setFld R.KEEP_STATUS_LCS s.keep.lcs).setFld R.DEVICE_CLKSTAT_CRPLL_LOCK 1
  (s.setFld R.DEVICE_CLKSTAT_PLL_LOCK s.pllMask).setFld R.DEVICE_BOOTSTAT_STEP 2

theorem State.railsReturn_eq (s : State) : s.railsReturn =
    (((s.railsBare.railsMarks (s.fld R.DEVICE_STATE_GRACE)).powerDomains.enterBoot).setFld R.DEVICE_RESETCAUSE_KIND 4).setFld
      R.DEVICE_RESETCAUSE_CAUSE 1 := rfl

theorem State.railsMarks_regs (s : State) (g : Nat) : State.RegsOnly s (s.railsMarks g) :=
  ((((State.RegsOnly.setFld s R.DEVICE_STATE_GRACE g).trans (.setFld _ R.KEEP_STATUS_LCS _)).trans (.setFld _ R.DEVICE_CLKSTAT_CRPLL_LOCK 1)).trans
    (.setFld _ R.DEVICE_CLKSTAT_PLL_LOCK _)).trans (.setFld _ R.DEVICE_BOOTSTAT_STEP 2)

/-- The fields beside the marks. -/
theorem State.railsMarks_fld (s : State) (grace : Nat) {g : Fld} (h1 : g.off ≠ R.DEVICE_STATE ∨ 19 ≤ g.lo) (h2 : g.off ≠ R.KEEP_STATUS)
    (h3 : g.off ≠ R.DEVICE_CLKSTAT) (h4 : g.off ≠ R.DEVICE_BOOTSTAT) : (s.railsMarks grace).fld g = s.fld g := by
  unfold State.railsMarks
  dsimp only
  rw [State.fld_setFld_off _ _ _ _ h4, State.fld_setFld_off _ _ _ _ h3, State.fld_setFld_off _ _ _ _ h3, State.fld_setFld_off _ _ _ _ h2]
  exact State.fld_setFld_other _ R.DEVICE_STATE_GRACE g _ (by decide) (h1.imp id .inl)

theorem State.railsMarks_grace (s : State) (grace : Nat) : (s.railsMarks grace).fld R.DEVICE_STATE_GRACE = grace % 2 := by
  unfold State.railsMarks
  dsimp only
  rw [State.fld_setFld_off _ _ _ _ (by decide), State.fld_setFld_off _ _ _ _ (by decide), State.fld_setFld_off _ _ _ _ (by decide),
    State.fld_setFld_off _ _ _ _ (by decide), State.fld_setFld_here _ _ _ rfl]
  rfl

theorem PCIEB_kept : R.DEVICE_CAPS_PCIEB.KeptAs .never 1 := by decide
theorem CORE_MASK_kept : R.DEVICE_CAPS_CORE_MASK.KeptAs .never 0xffff := by decide
theorem LASTTRIP_SOURCE_kept : R.WATCH_LASTTRIP_SOURCE.KeptAs .never 0 := by decide

/-- The state that a boot after returned rails enters. -/
def State.railsBoot (s : State) : State := (s.railsBare.railsMarks (s.fld R.DEVICE_STATE_GRACE)).powerDomains

theorem State.railsBoot_epoch {s : State} (h : s.Canonical) : s.railsBoot.fld R.DEVICE_STATE_DEV_EPOCH = 0 := by
  have hbare : s.railsBare.fld R.DEVICE_STATE_DEV_EPOCH = 0 :=
    (fld_of_reset h.1 s.railsBare_regs DEV_EPOCH_kept rfl).trans (if_neg (by decide))
  exact (State.powerDomains_kept _ _ (by decide)).trans ((State.railsMarks_fld _ _ (.inr (by decide)) (by decide) (by decide) (by decide)).trans hbare)

theorem State.railsBoot_grace (s : State) : s.railsBoot.fld R.DEVICE_STATE_GRACE = s.fld R.DEVICE_STATE_GRACE :=
  (State.powerDomains_kept _ _ (by decide)).trans ((State.railsMarks_grace _ _).trans (Nat.mod_eq_of_lt (Nat.mod_lt _ (by decide))))

theorem State.railsBoot_portB {s : State} (h : s.Canonical) : s.railsBoot.hasPortB = s.hasPortB := by
  have hbare : s.railsBare.fld R.DEVICE_CAPS_PCIEB = s.fld R.DEVICE_CAPS_PCIEB := fld_of_reset_kept h.1 s.railsBare_regs PCIEB_kept rfl
  exact congrArg (· == 1) ((State.powerDomains_kept _ _ (by decide)).trans
    ((State.railsMarks_fld _ _ (.inl (by decide)) (by decide) (by decide) (by decide)).trans hbare))

theorem State.railsBoot_dev (s : State) : s.railsBoot.dev.off = false := by
  have hregs : State.RegsOnly s.railsBare s.railsBoot := (State.railsMarks_regs ..).trans (State.powerDomains_regs _)
  rw [hregs.dev, State.railsBare_dev]

theorem State.railsReturn_boot (s : State) : s.railsReturn =
    (s.railsBoot.enterBoot.setFld R.DEVICE_RESETCAUSE_KIND 4).setFld R.DEVICE_RESETCAUSE_CAUSE 1 := by
  rw [State.railsReturn_eq, State.railsBoot]

theorem exec_powerOn_rails {s : State} (x : PowerUp) (hoff : s.dev.off = true) :
    exec (.powerOn false x) s = .next (s.railsReturn.takeStraps x.straps) := by
  have h : exec (.powerOn false x) s = execPowerOn false x s := rfl
  rw [h, execPowerOn, if_neg Bool.false_ne_true, if_pos hoff]

theorem powerOn_rails {s : State} (h : s.Canonical) (sramOk : Bool) (v : BitVec 2) (hoff : s.dev.off = true) :
    ∃ t, exec (.powerOn false ⟨sramOk, v⟩) s = .next t ∧ t.dev.off = false ∧ t.st = stBOOT ∧ t.fld R.DEVICE_STATE_DEV_EPOCH = 1 ∧
      t.fld R.DEVICE_RESETCAUSE_KIND = 4 ∧ t.flag R.DEVICE_STATE_GRACE = s.flag R.DEVICE_STATE_GRACE ∧
      t.flag R.DEVICE_STRAPS_QSPI_MODE = v.getLsbD 1 ∧ t.flag R.DEVICE_STRAPS_PEB_ROLE = (s.hasPortB && v.getLsbD 0) := by
  have hexec : exec (.powerOn false ⟨sramOk, v⟩) s = .next (s.railsReturn.takeStraps v) := exec_powerOn_rails _ hoff
  obtain ⟨w, hw⟩ : ∃ w, w = s.railsReturn := ⟨_, rfl⟩
  have hwe : w = ((s.railsBoot.enterBoot).setFld R.DEVICE_RESETCAUSE_KIND 4).setFld R.DEVICE_RESETCAUSE_CAUSE 1 := hw.trans s.railsReturn_boot
  have hfld (g : Fld) (hg : g.off ≠ R.DEVICE_RESETCAUSE) : w.fld g = s.railsBoot.enterBoot.fld g := by
    rw [hwe, State.fld_setFld_off _ _ _ _ hg, State.fld_setFld_off _ _ _ _ hg]
  have hport : w.hasPortB = s.hasPortB := by
    have hboot : s.railsBoot.enterBoot.hasPortB = s.railsBoot.hasPortB := s.railsBoot.enterBoot_kept.flag rfl
    rw [← State.railsBoot_portB h, ← hboot, State.hasPortB, State.flag, hfld R.DEVICE_CAPS_PCIEB (by decide)]
    rfl
  obtain ⟨hq, hp⟩ := w.takeStraps_shows v
  rw [hexec, ← hw]
  refine ⟨_, rfl, ?_, ?_, ?_, ?_, ?_, hq, by rw [← hport]; exact hp⟩
  · have hdev : w.dev = s.railsBoot.enterBoot.dev := by rw [hwe, State.setFld_dev, State.setFld_dev]
    rw [(w.takeStraps_regs v).dev, hdev, State.enterBoot_off, s.railsBoot_dev]
  · have hst : (w.takeStraps v).fld R.DEVICE_STATE_STATE = s.railsBoot.enterBoot.fld R.DEVICE_STATE_STATE :=
      (State.takeStraps_off _ _ (by decide)).trans (hfld _ (by decide))
    exact hst.trans s.railsBoot.enterBoot_st
  · rw [State.takeStraps_off _ _ (by decide), hfld _ (by decide), State.enterBoot_epoch, State.nextDevEpoch, State.railsBoot_epoch h]
    rfl
  · rw [State.takeStraps_off _ _ (by decide), hwe, State.fld_setFld_apart _ _ _ _ rfl rfl, State.fld_setFld_here _ _ _ rfl]
    rfl
  · rw [State.flag, State.flag, State.takeStraps_off _ _ (by decide), hfld _ (by decide), s.railsBoot.enterBoot_kept _ rfl, s.railsBoot_grace]

/-! ### A cold reset (R83, R118, R134) -/

/-- Whether no reset reaches some field of the register at an offset. -/
def regNever (o : Nat) : Bool :=
  match regAt o with
  | some (r, 0) => r.fields.any (fun f => f.keep == .never)
  | _ => false

/-- The registers with such a field. -/
def State.neverRegs (s : State) : SMap (BitVec 64) := s.regs.filter (fun p => regNever p.1)

theorem State.neverRegs_get (s : State) {o : Nat} (h : regNever o = true) : SMap.get regReset s.neverRegs o = s.reg o := by
  have heq : s.neverRegs = SMap.dropKeys s.regs (fun o => !regNever o) := by
    unfold State.neverRegs SMap.dropKeys
    simp only [Bool.not_not]
  rw [heq, SMap.get_dropKeys, h]
  rfl

theorem State.neverRegs_wf {s : State} (h : s.Canonical) : SMap.wf regReset s.neverRegs :=
  ⟨h.1.1.sublist List.filter_sublist, fun p hp => h.1.2 p (List.mem_of_mem_filter hp)⟩

/-- What a cold reset leaves before memory is lost. -/
def State.coldBase (s : State) : State :=
  { State.reset with
    pending := s.pending
    regs := resetRegs (fun k => k == Keep.never) (fun _ => false) s.neverRegs
    mem := s.mem, memGen := s.memGen, irqs := s.irqs
    param := { s.param with session := none, staged := none, lockUntil := s.param.lockUntil - s.tb2 }
    nvm := { s.nvm with staging := [], force := none, fwSecver := 0, fwDigest := [] }
    keep := { State.reset.keep with lcs := s.keep.lcs }
    freeCtr := s.freeCtr }

theorem State.coldBase_regs (s : State) : s.coldBase.regs = resetRegs (fun k => k == Keep.never) (fun _ => false) s.neverRegs := rfl
theorem State.coldBase_rest (s : State) : s.coldBase.cores = [] ∧ s.coldBase.reeve.tripA = false ∧ s.coldBase.pending = s.pending ∧
    s.coldBase.param.set = s.param.set := ⟨rfl, rfl, rfl, rfl⟩

/-- The retained counts after a cold reset: valid, or undefined. -/
def State.coldCounts (s : State) (sramOk : Bool) : State :=
  if sramOk then s.setFld R.WATCH_RSTAT_VALID 1 else
    s.iter 8 (fun i s => let q := s.draw; q.2.setFld (R.WATCH_RETAIN_COUNT i) q.1)

/-- The count of cold resets, the PLLs and the step of the boot. -/
def State.coldMarks (s : State) : State :=
  let s := (s.satInc (R.WATCH_RETAIN_COUNT 5)).setFld R.DEVICE_CLKSTAT_CRPLL_LOCK 1
  (s.setFld R.DEVICE_CLKSTAT_PLL_LOCK s.pllMask).setFld R.DEVICE_BOOTSTAT_STEP 2

/-- The state that a cold boot enters. -/
def State.coldBoot (s : State) (sramOk : Bool) : State :=
  ((((s.coldBase.loseAll 0 28).setFld R.KEEP_STATUS_LCS s.keep.lcs).coldCounts sramOk).coldMarks).powerDomains

theorem State.coldReset_eq (s : State) (sramOk : Bool) : s.coldReset sramOk = (s.coldBoot sramOk).enterBoot := rfl

/-- Between two states of a cold reset cores, queue, Reeve and parameters are the same, and so are CAPS, STATE and LASTTRIP. -/
structure State.Cold (s t : State) : Prop where
  reg : ∀ o, o = R.DEVICE_CAPS ∨ o = R.DEVICE_STATE ∨ o = R.WATCH_LASTTRIP → t.reg o = s.reg o
  rest : t.cores = s.cores ∧ t.reeve = s.reeve ∧ t.pending = s.pending ∧ t.param = s.param

namespace State.Cold
variable {s t u : State}

theorem refl : State.Cold s s := ⟨fun _ _ => rfl, rfl, rfl, rfl, rfl⟩

theorem trans (h : State.Cold s t) (k : State.Cold t u) : State.Cold s u := by
  obtain ⟨hreg, h1, h2, h3, h4⟩ := h
  obtain ⟨kreg, k1, k2, k3, k4⟩ := k
  exact ⟨fun o ho => (kreg o ho).trans (hreg o ho), k1.trans h1, k2.trans h2, k3.trans h3, k4.trans h4⟩

theorem fld (h : State.Cold s t) {g : Fld} (hg : g.off = R.DEVICE_CAPS ∨ g.off = R.DEVICE_STATE ∨ g.off = R.WATCH_LASTTRIP) : t.fld g = s.fld g :=
  congrArg g.get (h.reg g.off hg)

theorem setFld (s : State) (f : Fld) (v : Nat) (h1 : R.DEVICE_CAPS ≠ f.off) (h2 : R.DEVICE_STATE ≠ f.off) (h3 : R.WATCH_LASTTRIP ≠ f.off) :
    State.Cold s (s.setFld f v) := by
  refine ⟨fun o ho => ?_, rfl, rfl, rfl, rfl⟩
  rw [State.reg_setFld, if_neg]
  rcases ho with rfl | rfl | rfl
  · exact h1
  · exact h2
  · exact h3

end State.Cold

theorem State.loseAll_cold (s : State) (lo hi : Nat) : State.Cold s (s.loseAll lo hi) := by
  have hlose (l : List Nat) (u : State) : State.Cold u (l.foldl (fun s i => s.loseRegion (lo + i)) u) := by
    induction l generalizing u with
    | nil => exact .refl
    | cons i l ih => exact State.Cold.trans (t := u.loseRegion (lo + i)) ⟨fun _ _ => rfl, rfl, rfl, rfl, rfl⟩ (ih _)
  have hlast (u : State) (p : List Nat) (e : SMap Nat) : State.Cold u { u with poison := p, ecc := e } := ⟨fun _ _ => rfl, rfl, rfl, rfl, rfl⟩
  exact (hlose _ s).trans (hlast _ _ _)

theorem State.coldCounts_cold (s : State) (sramOk : Bool) : State.Cold s (s.coldCounts sramOk) := by
  unfold State.coldCounts
  cases sramOk
  · rw [if_neg Bool.false_ne_true]
    have hdraw (u : State) (n : Nat) : State.Cold u { u with freeCtr := n } := ⟨fun _ _ => rfl, rfl, rfl, rfl, rfl⟩
    have hoff (i o : Nat) (ho : o < 0x30100 ∨ o = R.WATCH_LASTTRIP) (hi : i < 8) : o ≠ (R.WATCH_RETAIN_COUNT i).off := by
      simp only [R.WATCH_RETAIN_COUNT, R.WATCH_RETAIN, R.WATCH_LASTTRIP] at ho ⊢
      omega
    rw [State.iter_congr s (h := fun i u => if i < 8 then u.draw.2.setFld (R.WATCH_RETAIN_COUNT i) u.draw.1 else u)
      fun i hi u => (if_pos hi).symm]
    refine State.iter_keeps (P := State.Cold s) (fun i u h => h.trans ?_) .refl 8
    split_ifs with hi
    · exact (hdraw u _).trans (.setFld _ _ _ (hoff i _ (.inl (by decide)) hi) (hoff i _ (.inl (by decide)) hi) (hoff i _ (.inr rfl) hi))
    · exact .refl
  · exact .setFld _ _ _ (by decide) (by decide) (by decide)

theorem State.coldMarks_cold (s : State) : State.Cold s s.coldMarks :=
  (((State.Cold.setFld s (R.WATCH_RETAIN_COUNT 5) _ (by decide) (by decide) (by decide)).trans
    (.setFld _ R.DEVICE_CLKSTAT_CRPLL_LOCK _ (by decide) (by decide) (by decide))).trans
    (.setFld _ R.DEVICE_CLKSTAT_PLL_LOCK _ (by decide) (by decide) (by decide))).trans
    (.setFld _ R.DEVICE_BOOTSTAT_STEP _ (by decide) (by decide) (by decide))

theorem State.powerDomains_cold (s : State) : State.Cold s s.powerDomains := by
  have hr := s.powerDomains_regs
  refine ⟨fun o ho => ?_, hr.cores, hr.reeve, hr.pending, hr.param⟩
  have hset (u : State) (d : Nat) : (u.setDom d true).reg o = u.reg o := by
    unfold State.setDom
    dsimp only
    rw [if_pos rfl, State.fldBitSet, State.reg_setFld, if_neg]
    rcases ho with rfl | rfl | rfl <;> split_ifs <;> decide
  refine State.iter_keeps (P := fun u => u.reg o = s.reg o) (fun d u h => ?_) rfl 128
  split_ifs
  · exact (hset u d).trans h
  · exact h

theorem State.coldBoot_cold (s : State) (sramOk : Bool) : State.Cold s.coldBase (s.coldBoot sramOk) :=
  ((((State.loseAll_cold ..).trans (.setFld _ R.KEEP_STATUS_LCS _ (by decide) (by decide) (by decide))).trans (State.coldCounts_cold ..)).trans
    (State.coldMarks_cold _)).trans (State.powerDomains_cold _)

/-- A field that no reset reaches, in a cold boot. -/
theorem State.coldBoot_never {s : State} (h : s.Canonical) (sramOk : Bool) {g : Fld} {n : Nat} (hk : g.KeptAs .never n) (hn : regNever g.off = true)
    (hg : g.off = R.DEVICE_CAPS ∨ g.off = R.DEVICE_STATE ∨ g.off = R.WATCH_LASTTRIP) : (s.coldBoot sramOk).fld g = s.fld g := by
  obtain ⟨u, hu⟩ : ∃ u : State, u = { s with regs := s.neverRegs } := ⟨_, rfl⟩
  have hregs : u.regs = s.neverRegs := by rw [hu]
  have hwf : SMap.wf regReset u.regs := hregs ▸ State.neverRegs_wf h
  have hreset : s.coldBase.regs = resetRegs (fun k => k == Keep.never) (fun _ => false) u.regs := by rw [hregs]; exact s.coldBase_regs
  have hfld : u.fld g = s.fld g := by
    rw [State.fld, State.reg, hregs, State.neverRegs_get s hn]
    rfl
  rw [(s.coldBoot_cold sramOk).fld hg, fld_of_reset_kept hwf hreset hk rfl, hfld]

theorem State.coldBoot_epoch {s : State} (h : s.Canonical) (sramOk : Bool) : (s.coldBoot sramOk).fld R.DEVICE_STATE_DEV_EPOCH = 0 := by
  obtain ⟨u, hu⟩ : ∃ u : State, u = { s with regs := s.neverRegs } := ⟨_, rfl⟩
  have hregs : u.regs = s.neverRegs := by rw [hu]
  have hwf : SMap.wf regReset u.regs := hregs ▸ State.neverRegs_wf h
  have hreset : s.coldBase.regs = resetRegs (fun k => k == Keep.never) (fun _ => false) u.regs := by rw [hregs]; exact s.coldBase_regs
  rw [(s.coldBoot_cold sramOk).fld (.inr (.inl rfl)), fld_of_reset hwf hreset DEV_EPOCH_kept rfl]
  rfl

theorem exec_powerOn_cold (s : State) (x : PowerUp) : exec (.powerOn true x) s = .next ((s.coldReset x.sramOk).takeStraps x.straps) := by
  have h : exec (.powerOn true x) s = execPowerOn true x s := rfl
  rw [h, execPowerOn, if_pos rfl]

theorem powerOn_cold {s : State} (h : s.Canonical) (sramOk : Bool) (v : BitVec 2) :
    ∃ t, exec (.powerOn true ⟨sramOk, v⟩) s = .next t ∧ t.st = stBOOT ∧ t.flag R.DEVICE_STATE_INVALID = true ∧
      t.fld R.DEVICE_STATE_DEV_EPOCH = 1 ∧ (∀ n, n < 16 → t.hasCore n = true → t.fld (fCoreState n) = csTEST) ∧
      (∀ n, t.core n = Core.reset) ∧ t.reeve.tripA = false ∧ t.pending = s.pending ∧ t.param.set = s.param.set ∧
      t.fld R.WATCH_LASTTRIP_SOURCE = s.fld R.WATCH_LASTTRIP_SOURCE ∧
      (t.flag R.DEVICE_STRAPS_QSPI_MODE = v.getLsbD 1 ∧ t.flag R.DEVICE_STRAPS_PEB_ROLE = (s.hasPortB && v.getLsbD 0)) ∧
      ∀ n, t.hasCore n = s.hasCore n := by
  obtain ⟨w, hw⟩ : ∃ w, w = (s.coldBoot sramOk).enterBoot := ⟨_, rfl⟩
  have hexec : exec (.powerOn true ⟨sramOk, v⟩) s = .next (w.takeStraps v) := by rw [exec_powerOn_cold, State.coldReset_eq, hw]
  have hkept : State.BootKept (s.coldBoot sramOk) w := hw ▸ State.enterBoot_kept _
  have hmask : w.fld R.DEVICE_CAPS_CORE_MASK = s.fld R.DEVICE_CAPS_CORE_MASK :=
    (hkept _ rfl).trans (State.coldBoot_never h sramOk CORE_MASK_kept (by decide) (.inl rfl))
  have hport : w.hasPortB = s.hasPortB :=
    congrArg (· == 1) ((hkept R.DEVICE_CAPS_PCIEB rfl).trans (State.coldBoot_never h sramOk PCIEB_kept (by decide) (.inl rfl)))
  have hcaps (n : Nat) : (w.takeStraps v).hasCore n = w.hasCore n := by
    rw [State.hasCore, State.takeStraps_off _ _ (by decide), State.hasCore]
  have hcore (n : Nat) : w.hasCore n = s.hasCore n := by rw [State.hasCore, hmask, State.hasCore]
  obtain ⟨hq, hp⟩ := w.takeStraps_shows v
  obtain ⟨hcores, hreeve, hpend, hparam⟩ := (s.coldBoot sramOk).enterBoot_rest
  obtain ⟨hcores', hreeve', hpend', hparam'⟩ := (s.coldBoot_cold sramOk).rest
  obtain ⟨hb1, hb2, hb3, hb4⟩ := s.coldBase_rest
  have hregs := w.takeStraps_regs v
  refine ⟨_, hexec, ?_, ?_, ?_, fun n hn hhas => ?_, fun n => ?_, ?_, ?_, ?_, ?_, ⟨hq, by rw [← hport]; exact hp⟩, fun n => (hcaps n).trans (hcore n)⟩
  · have hst : (w.takeStraps v).fld R.DEVICE_STATE_STATE = w.fld R.DEVICE_STATE_STATE := State.takeStraps_off _ _ (by decide)
    exact hst.trans (hw ▸ State.enterBoot_st _)
  · rw [State.flag, State.takeStraps_off _ _ (by decide), ← State.flag, hw, State.enterBoot_invalid]
  · rw [State.takeStraps_off _ _ (by decide), hw, State.enterBoot_epoch, State.nextDevEpoch, State.coldBoot_epoch h]
    rfl
  · have hboot : (s.coldBoot sramOk).hasCore n = true := by
      rw [State.hasCore, State.coldBoot_never h sramOk CORE_MASK_kept (by decide) (.inl rfl), ← State.hasCore, ← hcore n, ← hcaps n, hhas]
    rw [State.takeStraps_off _ _ (show R.DEVICE_CORESTATE ≠ _ by decide), hw, State.enterBoot_core hn hboot]
  · rw [State.core, hregs.cores, hw, hcores, hcores', hb1]
    rfl
  · rw [hregs.reeve, hw, hreeve, hreeve', hb2]
  · rw [hregs.pending, hw, hpend, hpend', hb3]
  · rw [hregs.param, hw, hparam, hparam', hb4]
  · rw [State.takeStraps_off _ _ (by decide), hkept _ rfl, State.coldBoot_never h sramOk LASTTRIP_SOURCE_kept (by decide) (.inr (.inr rfl))]

/-! ### Boot images (R114–R118) -/

/-- An image that carries what verifies. -/
theorem State.imageVerifies_of {s : State} {img key signed sig digest : List Byte} {secver entry : Nat}
    (hh : Config.fwHeader img = some (key, signed, sig, secver, digest, entry)) (hkey : Config.sha384 key = Config.fwKey)
    (hsig : Config.ecdsaOk key signed sig = true) (hbody : Config.sha384 (Config.fwBody img) = digest)
    (hver : s.fld (R.NVM_CTR_VALUE 0) ≤ secver) : s.imageVerifies img = true := by
  unfold State.imageVerifies State.imageOk
  rw [hh]
  simp only [hkey, hsig, hbody, beq_self_eq_true, Bool.and_self, decide_eq_true hver]

/-- What the boot notes of an image. -/
def State.noteImage (s : State) (secver : Nat) (digest : List Byte) (entry : Nat) : State :=
  { s with
    nvm := { s.nvm with fwSecver := secver, fwDigest := digest }
    dev := { s.dev with entry := w64 entry, imageKept := true, mailbox := false, mailImage := none } }

theorem State.noteImage_rest (s : State) (secver : Nat) (digest : List Byte) (entry : Nat) :
    (s.noteImage secver digest entry).regs = s.regs ∧ (s.noteImage secver digest entry).mem = s.mem ∧
    (s.noteImage secver digest entry).nvm.fwSecver = secver ∧ (s.noteImage secver digest entry).nvm.fwDigest = digest ∧
    (s.noteImage secver digest entry).dev.entry = w64 entry ∧ (s.noteImage secver digest entry).dev.mailImage = none :=
  ⟨rfl, rfl, rfl, rfl, rfl, rfl⟩

/-- Firmware on every core in TEST. -/
def State.startTested (s : State) : State := s.iter 16 (fun n s => if s.fld (fCoreState n) = csTEST then s.startSteward n else s)

theorem State.startImage_eq (s : State) {img key signed sig digest : List Byte} {secver entry : Nat}
    (hh : Config.fwHeader img = some (key, signed, sig, secver, digest, entry)) :
    s.startImage img = ((((s.noteImage secver digest entry).setFld R.DEVICE_BOOTSTAT_STEP 6).setFld R.KEEP_STATUS_UDS_LOCKED 1).startTested).setState
      stSELFTEST := by
  unfold State.startImage
  rw [hh]
  rfl

/-- Only the cores differ. -/
def State.CoresOnly (s t : State) : Prop := ∃ k, t = { s with cores := k }

theorem State.startTested_only (s : State) : State.CoresOnly s s.startTested :=
  State.iter_keeps (P := State.CoresOnly s) (fun n u h => by
    obtain ⟨k, rfl⟩ := h
    split_ifs
    · exact ⟨_, rfl⟩
    · exact ⟨_, rfl⟩) ⟨_, rfl⟩ 16

/-- A tested core starts at the entry. -/
theorem State.startTested_core (s : State) {n : Nat} (hn : n < 16) (h : s.fld (fCoreState n) = csTEST) :
    (s.startTested.core n).stw = .run ∧ (s.startTested.core n).pc = s.dev.entry ∧ (s.startTested.core n).priv = .m := by
  refine State.iter_at (P := State.CoresOnly s) (Q := fun u => (u.core n).stw = .run ∧ (u.core n).pc = s.dev.entry ∧ (u.core n).priv = .m) hn
    (fun k u _ h => ?_) (fun u h' => ?_) (fun k u hk h => ?_) ⟨_, rfl⟩
  · obtain ⟨k, rfl⟩ := h
    split_ifs
    · exact ⟨_, rfl⟩
    · exact ⟨_, rfl⟩
  · obtain ⟨k, rfl⟩ := h'
    have hst : ({ s with cores := k } : State).fld (fCoreState n) = csTEST := h
    rw [if_pos hst, State.startSteward, State.core_modCore_same]
    exact ⟨rfl, rfl, rfl⟩
  · split_ifs
    · rw [State.startSteward, State.core_modCore, if_neg hk.symm]
      exact h
    · exact h

theorem State.startImage_shows (s : State) {img key signed sig digest : List Byte} {secver entry : Nat}
    (hh : Config.fwHeader img = some (key, signed, sig, secver, digest, entry)) :
    (s.startImage img).st = stSELFTEST ∧ (s.startImage img).fld R.DEVICE_BOOTSTAT_STEP = 6 ∧ (s.startImage img).nvm.fwSecver = secver ∧
    (s.startImage img).nvm.fwDigest = digest ∧
    (∀ n, n < 16 → s.fld (fCoreState n) = csTEST → ((s.startImage img).core n).stw = .run ∧ ((s.startImage img).core n).pc = w64 entry ∧
      ((s.startImage img).core n).priv = .m) ∧ (s.startImage img).mem = s.mem ∧ (s.startImage img).dev.mailImage = none ∧
    ∀ g : Fld, g.off = R.DEVICE_BOOTSTAT → 8 ≤ g.lo → (s.startImage img).fld g = s.fld g := by
  obtain ⟨hregs, hmem, hver, hdig, hentry, hmail⟩ := s.noteImage_rest secver digest entry
  obtain ⟨u, hu⟩ : ∃ u, u = s.noteImage secver digest entry := ⟨_, rfl⟩
  obtain ⟨v, hv⟩ : ∃ v, v = (u.setFld R.DEVICE_BOOTSTAT_STEP 6).setFld R.KEEP_STATUS_UDS_LOCKED 1 := ⟨_, rfl⟩
  rw [← hu] at hregs hmem hver hdig hentry hmail
  have hvr : State.RegsOnly u v := hv ▸ (State.RegsOnly.setFld ..).trans (.setFld ..)
  have hvn : v.nvm = u.nvm := by rw [hv, State.setFld_nvm, State.setFld_nvm]
  obtain ⟨k, hk⟩ := v.startTested_only
  have hout : State.Outer {R.DEVICE_STATE, R.PCIEA_F_LOST 0} v.startTested (v.startTested.setState stSELFTEST) :=
    State.Outer.setState _ (.inl rfl) (.inr rfl) _
  have hnvm : (v.startTested.setState stSELFTEST).nvm = u.nvm := by
    obtain ⟨_, _, _, _, _, _, ho⟩ := hout.shape
    rw [ho, hk]
    exact hvn
  have hfld (g : Fld) (h1 : g.off ≠ R.DEVICE_STATE) (h2 : g.off ≠ R.PCIEA_F_LOST 0) : (v.startTested.setState stSELFTEST).fld g = v.fld g := by
    rw [State.fld_setState_other _ _ h1 h2, hk]
    rfl
  rw [State.startImage_eq s hh, ← hu, ← hv]
  refine ⟨State.st_setState _ (by decide), ?_, by rw [hnvm, hver], by rw [hnvm, hdig], fun n hn htest => ?_, ?_, ?_, fun g hg hlo => ?_⟩
  · rw [hfld _ (by decide) (by decide), hv, State.fld_setFld_off _ _ _ _ (by decide), State.fld_setFld_here _ _ _ rfl]
    rfl
  · have hst : v.fld (fCoreState n) = csTEST := by
      rw [hv, State.fld_setFld_off _ _ _ _ (show R.DEVICE_CORESTATE ≠ _ by decide), State.fld_setFld_off _ _ _ _ (show R.DEVICE_CORESTATE ≠ _ by decide),
        State.fld_congr hregs, htest]
    rw [hout.core, ← hentry, ← hvr.dev]
    exact v.startTested_core hn hst
  · rw [hout.mem, hk]
    exact hvr.mem.trans hmem
  · rw [(State.setState_device _ _).1, hk]
    exact (congrArg Dev.mailImage hvr.dev).trans hmail
  · rw [hfld g (by rw [hg]; decide) (by rw [hg]; decide), hv, State.fld_setFld_off _ _ _ _ (by rw [hg]; decide),
      State.fld_setFld_other u R.DEVICE_BOOTSTAT_STEP g 6 (by decide) (.inr (.inl hlo)), State.fld_congr hregs]

/-! The flash and the mailbox. -/

/-- The outcome of the boot with the image of one slot. -/
def State.bootSlot (s : State) (b : Bool) (code : Nat) (img : List Byte) : State :=
  ((s.readFlash.setFld R.DEVICE_BOOTSTAT_SLOT (if b then 1 else 0)).setFld R.DEVICE_BOOTSTAT_FAIL_CODE code).startImage img

theorem exec_bootOk_flash {s : State} {ha ba hb bb : List Byte} (h : s.booting = true) (hm : s.dev.mailImage = none) :
    exec (.bootOk ha ba hb bb) s = .next (
      if s.imageVerifies (if s.bootFirst then hb ++ bb else ha ++ ba) then
        s.bootSlot s.bootFirst 0 (if s.bootFirst then hb ++ bb else ha ++ ba)
      else if s.imageVerifies (if !s.bootFirst then hb ++ bb else ha ++ ba) then
        s.bootSlot (!s.bootFirst) (if s.bootFirst then 2 else 1) (if !s.bootFirst then hb ++ bb else ha ++ ba)
      else s) := by
  have hexec : exec (.bootOk ha ba hb bb) s = execBootOk ha ba hb bb s := rfl
  rw [hexec, execBootOk, h, if_neg (by decide), hm]
  rfl

theorem exec_bootOk_mailbox {s : State} {ha ba hb bb l : List Byte} (h : s.booting = true) (hm : s.dev.mailImage = some l) :
    exec (.bootOk ha ba hb bb) s = .next (s.startImage l) := by
  have hexec : exec (.bootOk ha ba hb bb) s = execBootOk ha ba hb bb s := rfl
  rw [hexec, execBootOk, h, if_neg (by decide), hm]

theorem State.readFlash_rest (s : State) : s.readFlash.regs = s.regs ∧ s.readFlash.mem = s.mem ∧ s.readFlash.cores = s.cores ∧ s.readFlash.dev = s.dev :=
  ⟨rfl, rfl, rfl, rfl⟩

/-- What a boot from the flash shows. -/
theorem State.bootSlot_shows (s : State) (b : Bool) {code : Nat} (hc : code < 256) {img key signed sig digest : List Byte} {secver entry : Nat}
    (hh : Config.fwHeader img = some (key, signed, sig, secver, digest, entry)) :
    ((s.bootSlot b code img).st = stSELFTEST ∧ (s.bootSlot b code img).fld R.DEVICE_BOOTSTAT_STEP = 6 ∧
      (s.bootSlot b code img).nvm.fwSecver = secver ∧ (s.bootSlot b code img).nvm.fwDigest = digest ∧
      (∀ n, n < 16 → s.fld (fCoreState n) = csTEST → ((s.bootSlot b code img).core n).stw = .run ∧
        ((s.bootSlot b code img).core n).pc = w64 entry ∧ ((s.bootSlot b code img).core n).priv = .m) ∧ (s.bootSlot b code img).mem = s.mem) ∧
    (s.bootSlot b code img).flag R.DEVICE_BOOTSTAT_SLOT = b ∧ (s.bootSlot b code img).fld R.DEVICE_BOOTSTAT_FAIL_CODE = code := by
  obtain ⟨hregs, hmem, -, -⟩ := s.readFlash_rest
  obtain ⟨w, hw⟩ : ∃ w, w = (s.readFlash.setFld R.DEVICE_BOOTSTAT_SLOT (if b then 1 else 0)).setFld R.DEVICE_BOOTSTAT_FAIL_CODE code := ⟨_, rfl⟩
  have hwr : State.RegsOnly s.readFlash w := hw ▸ (State.RegsOnly.setFld ..).trans (.setFld ..)
  have heq : s.bootSlot b code img = w.startImage img := by rw [hw]; rfl
  obtain ⟨h1, h2, h3, h4, h5, h6, -, h8⟩ := w.startImage_shows hh
  have hslot : w.fld R.DEVICE_BOOTSTAT_SLOT = if b then 1 else 0 := by
    rw [hw, State.fld_setFld_apart _ _ _ _ rfl rfl, State.fld_setFld_here _ _ _ rfl]
    cases b <;> rfl
  rw [heq]
  refine ⟨⟨h1, h2, h3, h4, fun n hn htest => h5 n hn ?_, h6.trans (hwr.mem.trans hmem)⟩, ?_, ?_⟩
  · rw [hw, State.fld_setFld_off _ _ _ _ (show R.DEVICE_CORESTATE ≠ _ by decide), State.fld_setFld_off _ _ _ _ (show R.DEVICE_CORESTATE ≠ _ by decide),
      State.fld_congr hregs, htest]
  · rw [State.flag, h8 _ rfl (by decide), hslot]
    cases b <;> rfl
  · rw [h8 _ rfl (by decide), hw, State.fld_setFld_here _ _ _ rfl]
    exact Nat.mod_eq_of_lt hc

/-! ### Power-up and boot (O39) -/

theorem exec_bootFail {s : State} {a b : List Byte} (h : s.booting = true) (hm : s.dev.mailImage = none) (ha : s.imageVerifies a = false)
    (hb : s.imageVerifies b = false) : exec (.bootFail a b) s = .next
      (State.setState { s.readFlash.setFld R.DEVICE_BOOTSTAT_FAIL_CODE (if s.imageRolledBack a && s.imageRolledBack b then 4 else 3) with
        dev := { (s.readFlash.setFld R.DEVICE_BOOTSTAT_FAIL_CODE (if s.imageRolledBack a && s.imageRolledBack b then 4 else 3)).dev with
          holdFrom := stBOOT, mailbox := true } } stHOLD) := by
  have hexec : exec (.bootFail a b) s = execBootFail a b s := rfl
  rw [hexec, execBootFail, h, hm, ha, hb, if_neg (by decide)]

theorem bootFail_shows {s : State} {a b : List Byte} (h : s.booting = true) (hm : s.dev.mailImage = none) (ha : s.imageVerifies a = false)
    (hb : s.imageVerifies b = false) : ∃ t, exec (.bootFail a b) s = .next t ∧ t.st = stHOLD ∧ t.dev.mailbox = true ∧
      t.fld R.DEVICE_BOOTSTAT_FAIL_CODE = (if s.imageRolledBack a = true ∧ s.imageRolledBack b = true then 4 else 3) ∧
      t.cores = s.cores ∧ t.mem = s.mem := by
  have hexec := exec_bootFail h hm ha hb
  obtain ⟨-, hmem, hcores, -⟩ := s.readFlash_rest
  obtain ⟨n, hn⟩ : ∃ n, n = (if (s.imageRolledBack a && s.imageRolledBack b) = true then 4 else 3) := ⟨_, rfl⟩
  obtain ⟨u, hu⟩ : ∃ u, u = s.readFlash.setFld R.DEVICE_BOOTSTAT_FAIL_CODE n := ⟨_, rfl⟩
  rw [← hn, ← hu] at hexec
  obtain ⟨v, hv⟩ : ∃ v : State, v = { u with dev := { u.dev with holdFrom := stBOOT, mailbox := true } } := ⟨_, rfl⟩
  rw [← hv] at hexec
  have hvr : v.regs = u.regs ∧ v.mem = u.mem ∧ v.cores = u.cores ∧ v.dev.mailbox = true := by
    rw [hv]
    exact ⟨rfl, rfl, rfl, rfl⟩
  obtain ⟨hr, hvm, hvc, hbox⟩ := hvr
  have hout : State.Outer {R.DEVICE_STATE, R.PCIEA_F_LOST 0} v (v.setState stHOLD) := State.Outer.setState _ (.inl rfl) (.inr rfl) _
  refine ⟨_, hexec, State.st_setState _ (by decide), ?_, ?_, ?_, ?_⟩
  · rw [(State.setState_device _ _).1, hbox]
  · have hcode : n % 256 = if s.imageRolledBack a = true ∧ s.imageRolledBack b = true then 4 else 3 := by
      rw [hn]
      cases s.imageRolledBack a <;> cases s.imageRolledBack b <;> rfl
    rw [State.fld_setState_other _ _ (by decide) (by decide), State.fld_congr hr, hu, State.fld_setFld_here _ _ _ rfl]
    exact hcode
  · rw [hout.cores, hvc, hu, State.setFld_cores, hcores]
  · rw [hout.mem, hvm, hu, State.setFld_mem, hmem]

/-- The state that takes an image from the mailbox. -/
def State.takeMail (s : State) (l : List Byte) : State := { s with dev := { s.dev with mailbox := false, mailImage := some l } }

theorem State.takeMail_rest (s : State) (l : List Byte) : (s.takeMail l).regs = s.regs ∧ (s.takeMail l).dev.mailbox = false ∧
    (s.takeMail l).dev.mailImage = some l := ⟨rfl, rfl, rfl⟩

/-- The marks of a recovery. -/
def State.recovered (s : State) (l : List Byte) : State :=
  let s := ((s.enterBoot.setFld R.DEVICE_BOOTSTAT_MAILBOX 1).setFld R.DEVICE_BOOTSTAT_SLOT 1).setFld R.DEVICE_BOOTSTAT_FAIL_CODE 0
  { s with dev := { s.dev with mailbox := false, mailImage := some l } }

theorem State.recovered_eq (s : State) (l : List Byte) : s.recovered l =
    (((s.enterBoot.setFld R.DEVICE_BOOTSTAT_MAILBOX 1).setFld R.DEVICE_BOOTSTAT_SLOT 1).setFld R.DEVICE_BOOTSTAT_FAIL_CODE 0).takeMail l := rfl

theorem execRecover_eq (s : State) : execRecover s = .next (if s.st ≠ stHOLD ∨ (!s.dev.mailbox) = true then s else
    if (!s.draw.2.imageVerifies (Config.mailbox s.draw.1)) = true then s.draw.2 else s.draw.2.recovered (Config.mailbox s.draw.1)) := rfl

theorem exec_recover {s : State} (hst : s.st = stHOLD) (hbox : s.dev.mailbox = true) : exec .recover s = .next
    (if s.draw.2.imageVerifies (Config.mailbox s.draw.1) then s.draw.2.recovered (Config.mailbox s.draw.1) else s.draw.2) := by
  have hexec : exec .recover s = execRecover s := rfl
  rw [hexec, execRecover_eq, if_neg (by rw [hst, hbox]; decide)]
  cases s.draw.2.imageVerifies (Config.mailbox s.draw.1)
  · rw [if_pos (by decide), if_neg (by decide)]
  · rw [if_neg (by decide), if_pos (by decide)]

theorem State.draw_regs (s : State) : s.draw.2.regs = s.regs := rfl

theorem State.draw_verifies (s : State) (l : List Byte) : s.draw.2.imageVerifies l = s.imageVerifies l := by
  unfold State.imageVerifies State.imageOk
  rw [State.fld_congr s.draw_regs]

theorem recover_boots {s : State} (hst : s.st = stHOLD) (hbox : s.dev.mailbox = true) {l : List Byte} (hl : l = Config.mailbox (Config.freeNat s.freeCtr))
    (hv : s.imageVerifies l = true) : ∃ t, exec .recover s = .next t ∧ t.st = stBOOT ∧ t.dev.mailbox = false ∧ t.dev.mailImage = some l ∧
      t.flag R.DEVICE_BOOTSTAT_MAILBOX = true ∧ t.fld R.DEVICE_STATE_DEV_EPOCH = s.nextDevEpoch ∧ t.flag R.DEVICE_STATE_INVALID = true := by
  have hexec : exec .recover s = .next (s.draw.2.recovered l) := by
    rw [exec_recover hst hbox, show Config.mailbox s.draw.1 = l from hl.symm, State.draw_verifies, hv]
    rfl
  obtain ⟨u, hu⟩ : ∃ u, u = s.draw.2.enterBoot := ⟨_, rfl⟩
  obtain ⟨w, hw⟩ : ∃ w, w = ((u.setFld R.DEVICE_BOOTSTAT_MAILBOX 1).setFld R.DEVICE_BOOTSTAT_SLOT 1).setFld R.DEVICE_BOOTSTAT_FAIL_CODE 0 := ⟨_, rfl⟩
  obtain ⟨hregs, hmb, hmi⟩ := w.takeMail_rest l
  have heq : s.draw.2.recovered l = w.takeMail l := by rw [hw, hu, State.recovered_eq]
  have hfld (g : Fld) (hg : g.off ≠ R.DEVICE_BOOTSTAT) : (w.takeMail l).fld g = u.fld g := by
    rw [State.fld_congr hregs, hw, State.fld_setFld_off _ _ _ _ hg, State.fld_setFld_off _ _ _ _ hg, State.fld_setFld_off _ _ _ _ hg]
  rw [hexec, heq]
  refine ⟨_, rfl, ?_, hmb, hmi, ?_, ?_, ?_⟩
  · have h : (w.takeMail l).fld R.DEVICE_STATE_STATE = u.fld R.DEVICE_STATE_STATE := hfld _ (by decide)
    exact h.trans (hu ▸ State.enterBoot_st _)
  · rw [State.flag, State.fld_congr hregs, hw, State.fld_setFld_apart _ _ _ _ rfl rfl, State.fld_setFld_apart _ _ _ _ rfl rfl,
      State.fld_setFld_here _ _ _ rfl]
    rfl
  · rw [hfld _ (by decide), hu, State.enterBoot_epoch, State.nextDevEpoch, State.fld_congr s.draw_regs, ← State.nextDevEpoch]
  · rw [State.flag, hfld _ (by decide), ← State.flag, hu, State.enterBoot_invalid]

theorem recover_stays {s : State} (hst : s.st = stHOLD) (hbox : s.dev.mailbox = true)
    (hv : s.imageVerifies (Config.mailbox (Config.freeNat s.freeCtr)) = false) : exec .recover s = .next { s with freeCtr := s.freeCtr + 1 } := by
  rw [exec_recover hst hbox, State.draw_verifies, show s.draw.1 = Config.freeNat s.freeCtr from rfl, hv, if_neg Bool.false_ne_true]
  rfl

/-- Settles O39: each event of the boot by the reset it makes of the registers and by its entry to BOOT or SELFTEST. -/
theorem bootEvents : Obligations.BootEvents := by
  unfold Obligations.BootEvents
  intro s hcan booting strapped started
  have hboots : booting → s.booting = true := by
    rintro ⟨hst, hoff, hlow, hlink, hlcs⟩
    simp only [State.booting, hst, hoff, hlow, hlink, Bool.and_eq_true, beq_self_eq_true, Bool.not_false, bne_iff_ne, ne_eq, hlcs, not_false_eq_true,
      and_self]
  refine ⟨fun ok v => powerOn_cold hcan ok v, fun ok v hoff => powerOn_rails hcan ok v hoff, fun ok v hoff hlow => ?_, ?_, ?_, ?_, ?_⟩
  · obtain ⟨t, hx, h1, h2, h3, h4, h5, h6, h7⟩ := powerOn_release s ok v hoff hlow
    exact ⟨t, hx, h1, h2, h3, ⟨h4, h5⟩, h6, h7⟩
  · exact ⟨{ s with reeve := { s.reeve with running := true, inReset := false } }, rfl, rfl, rfl, rfl⟩
  · intro ha ba hb bb key signed sig secver digest entry first img good hbt
    have hb' := hboots hbt
    have hgood {l : List Byte} (h : good l) : s.imageVerifies l = true := by
      obtain ⟨hh, hk, hs, hd, hc⟩ := h
      exact State.imageVerifies_of hh hk hs hd hc
    refine ⟨fun hm => ⟨fun hg => ?_, fun hno hg => ?_, fun hna hnb => ?_⟩, fun l hm hg => ?_⟩
    · obtain ⟨hstart, hslot, hcode⟩ := s.bootSlot_shows first (code := 0) (by decide) hg.1
      refine ⟨_, (exec_bootOk_flash hb' hm).trans (congrArg Host.Outcome.next (if_pos (hgood hg))), hstart, hslot, hcode⟩
    · obtain ⟨hstart, hslot, hcode⟩ := s.bootSlot_shows (!first) (code := if first then 2 else 1) (by split_ifs <;> decide) hg.1
      have hno' : ¬ s.imageVerifies (img first) = true := by rw [hno]; exact Bool.false_ne_true
      exact ⟨_, (exec_bootOk_flash hb' hm).trans (congrArg Host.Outcome.next ((if_neg hno').trans (if_pos (hgood hg)))), hstart, hslot, hcode⟩
    · have hnone (x : Bool) : ¬ s.imageVerifies (if x then hb ++ bb else ha ++ ba) = true := by
        cases x
        · rw [if_neg Bool.false_ne_true, hna]
          exact Bool.false_ne_true
        · rw [if_pos rfl, hnb]
          exact Bool.false_ne_true
      exact (exec_bootOk_flash hb' hm).trans (congrArg Host.Outcome.next ((if_neg (hnone _)).trans (if_neg (hnone _))))
    · obtain ⟨h1, h2, h3, h4, h5, h6, h7, -⟩ := s.startImage_shows hg.1
      exact ⟨_, exec_bootOk_mailbox hb' hm, ⟨h1, h2, h3, h4, h5, h6⟩, h7⟩
  · intro a b hbt hm ha hb
    exact bootFail_shows (hboots hbt) hm ha hb
  · intro l hst hbox
    exact ⟨fun hv => recover_boots hst hbox rfl hv, fun hv => recover_stays hst hbox hv⟩

end Sys2Proof.Machine
end
